-- ==== Sys2Proof/Word.lean ====
section
/-!
DEFINITION. Word.lean: the words the block is made of, and the plainest arithmetic on them.
Counts, addresses, times and field values are plain numbers; a bit vector stands only for what the spec
treats as bits (bytes of memory, register words, keys of a hash).
-/
namespace Sys2Proof

/-- A byte of memory, of a packet or of a stored image (R3: bit 0 is the least significant). -/
abbrev Byte := BitVec 8

/-- A 64-bit word: the widest BAR0 register (R10) and the Xkvq queue entry (R469). -/
abbrev Word := BitVec 64

/-- The `w` low bits of `n`. -/
def lowBits (w n : Nat) : Nat := n % 2 ^ w

/-- Bits [hi:lo] of `n` (R3). -/
def bitsOf (n hi lo : Nat) : Nat := n / 2 ^ lo % 2 ^ (hi + 1 - lo)

/-- Bit `i` of `n` (R3). -/
def bitOf (n i : Nat) : Bool := n / 2 ^ i % 2 == 1

/-- `n` with bit `i` set. -/
def withBit (n i : Nat) : Nat := if bitOf n i then n else n + 2 ^ i

/-- `n` with bit `i` cleared. -/
def withoutBit (n i : Nat) : Nat := if bitOf n i then n - 2 ^ i else n

/-- A 32-bit count that saturates at 0xFFFF_FFFF, as every RC counter of the part does. -/
def satIncr32 (n : Nat) : Nat := if n < 4294967295 then n + 1 else n

end Sys2Proof
end

