-- ==== Sys2Proof/Config.lean ====
section
/-!
DEFINITION. Config.lean: what one part fixes and the spec leaves open. Each free value is an opaque constant:
nothing proves a value of it, so a theorem about the machine holds for every choice.
-/
namespace Sys2Proof

/-- A fresh value the spec leaves open (the SALT of R80, the sampling draw of R511): applied to the counter
`State.freeCtr`, which the step advances at each use. -/
opaque Config.freeValue : Nat → Word

/-- The SEVERITY that a Ledger record carries where no rule states it (R514 gives the codes 0 to 3 and no rule but
R518 names one): applied to the record's CODE and SEQ; the model reads it below 3 for every happening
but the fatal event, as the name of code 3 says. -/
opaque Config.ledgerSeverity : Nat → Nat → BitVec 2

/-- The CODE of a Ledger record for a happening that raises no event and that the table of R515 does not
name: applied to the number of the rule that writes it. -/
opaque Config.ledgerCode : Nat → BitVec 16

/-- Entries a hardware queue holds where the spec gives no depth (R469: every queue but the event queue of
R479): applied to the queue number. -/
opaque Config.queueDepth : Nat → BitVec 16

/-- Whether the ECN field of a packet that the device forms is ECT(0) or ECT(1), which R381 asks and no rule states:
applied to the packet's serial in egress. -/
opaque Config.ownEct : Nat → Bool

/-- The traffic class of packets for which R378 names none: applied to the work queue of a send descriptor, to 65,536 plus the path for a
probe, and to 131,072 plus the connection for TCP traffic that no command calls for. -/
opaque Config.openClass : Nat → BitVec 3

/-- First 16 bytes of the SHA-384 digest of the factory Pattern, which a HELLO carries (R327, R329): the image is the part's. -/
opaque Config.factoryDigest : BitVec 128

end Sys2Proof
end

