-- ==== Sys2Proof/Types.lean ====
section
/-!
DEFINITION. Types.lean: the data that commands carry and that State holds: register fields, packets, capsules,
records, drive commands, link frames, and what leaves the block.
-/
namespace Sys2Proof.Machine

/-! ## Registers (00_scope.md) -/

/-- Access types of R14; a reserved field has no entry in the table. -/
inductive Acc where
  | rw | ro | wo | w1c | rc
  deriving DecidableEq, Repr

/-- Resets of R17, lightest first. -/
inductive Cls where
  | flr | warm | cold | por
  deriving DecidableEq, Repr

/-- The place of a reset in the order of R17. -/
def Cls.rank : Cls → Nat
  | .flr => 0 | .warm => 1 | .cold => 2 | .por => 3

/-- One register field: offset of its register's first copy, strides of the copies, bits [hi:lo], access type,
reset value, lightest reset that restores it, and whether the Reset column reads "pat" (R14, R17, R18). -/
structure Fld where
  off : Nat
  st1 : Nat
  st2 : Nat
  hi : Nat
  lo : Nat
  acc : Acc
  rst : Nat
  cls : Cls
  pat : Bool
  deriving DecidableEq, Repr

/-- One register of the map: name, offset, strides and counts of its copies, width, fields. -/
structure RegRow where
  name : String
  off : Nat
  st1 : Nat
  n1 : Nat
  st2 : Nat
  n2 : Nat
  bits : Nat
  flds : List Fld
  deriving DecidableEq, Repr

/-- Who issues a BAR0 access: service software through the service port, or an engine (R31, R37). -/
inductive Src where
  | svc
  | engine (n : Nat)
  deriving DecidableEq, Repr

/-! ## Tasks (14_service_port.md, R451) -/

/-- A command block without its CODE, which the row supplies. -/
structure TaskGo where
  argc : Nat
  flags : Nat
  tag : Nat
  dataAddr : Nat
  dataLen : Nat
  args : List Nat
  deriving DecidableEq, Repr

/-- How the data of an "in" task stands when the command is carried out: already read (with the bytes), still
being read by DMA, or ended by a transfer error (R452, R458). -/
inductive TaskData where
  | bytes (b : List Byte)
  | reading
  | fault
  deriving DecidableEq, Repr

/-- What the check of a signing trailer yields (R453): the SHA-384 digest of the trailer's public key, and whether
the signature verifies under that key over the block and the data. -/
structure SigCheck where
  keyDigest : Nat
  verifies : Bool
  deriving DecidableEq, Repr

/-- What the two checks of a key section yield (R454): the unwrapped 32-byte key of this side, or a failure. -/
structure KeyOpen where
  key : Option Nat
  partnerOpens : Bool
  deriving DecidableEq, Repr

/-! ## Engines and DMA (15_engines_events.md) -/

/-- A DMA descriptor (R473). -/
structure DmaDesc where
  src : Nat
  dst : Nat
  len : Nat
  srcAsid : Nat
  dstAsid : Nat
  notify : Bool
  queue : Nat
  rsvdSet : Bool
  deriving DecidableEq, Repr

/-- What the translation unit answers for one span of a transfer: the physical source and destination, or a
fault at a virtual address (R470, R474). -/
inductive SpanXl where
  | ok (srcPa dstPa : Nat)
  | fault (va : Nat)
  deriving DecidableEq, Repr

/-- RISC-V privilege modes as ENG_STATUS.MODE encodes them (R510 table and ENG_STATUS). -/
inductive Mode where
  | u | s | m
  deriving DecidableEq, Repr

/-- The code of ENG_STATUS.MODE. -/
def Mode.code : Mode → Nat
  | .u => 0 | .s => 1 | .m => 3

/-- A faulting engine access (R470): fetch, load or store. -/
inductive AccKind where
  | fetch | load | store
  deriving DecidableEq, Repr

/-- Why an engine access is refused: no mapping, an address outside the physical map or the side-data rule
(R465), a tenant refusal (R468), or a poisoned word (R485). -/
inductive AccCause where
  | page | access | tenant | poison
  deriving DecidableEq, Repr

/-! ## Ledger (17_observability.md, R514) -/

/-- A Ledger record; its CRC is computed where the record is read. -/
structure LedgerRec where
  time : Nat
  step : Nat
  seq : Nat
  code : Nat
  severity : Nat
  island : Nat
  source : Nat
  suppressed : Nat
  detail : List Byte
  deriving DecidableEq, Repr

/-- A rate-limit key (R517). -/
structure LimKey where
  code : Nat
  source : Nat
  last : Nat
  withheld : Nat
  deriving DecidableEq, Repr

/-- A sample record's fields as the engine supplies them (R512). -/
structure Sample where
  pc : Nat
  daddr : Nat
  insn : Nat
  latency : Nat
  mode : Nat
  daddrValid : Bool
  preempted : Bool
  context : Nat
  tenantAsid : Bool
  deriving DecidableEq, Repr

/-! ## The Pattern and the settings store (02_pattern.md) -/

/-- A record of a Pattern: type, instance (0 for a singleton) and body (R44, R45). -/
structure PatRec where
  type : Nat
  inst : Nat
  body : List Byte
  deriving DecidableEq, Repr

/-- An overlay value: type, field offset, instance, length, value (R50, R68). -/
structure OvlVal where
  type : Nat
  off : Nat
  inst : Nat
  len : Nat
  value : Nat
  deriving DecidableEq, Repr

/-- States of an epoch slot, with the codes of FLM_EPOCH_STATE (R142). -/
inductive EpochSt where
  | empty | rxOnly | current | draining
  deriving DecidableEq, Repr

/-- The code of FLM_EPOCH_STATE. -/
def EpochSt.code : EpochSt → Nat
  | .empty => 0 | .rxOnly => 1 | .current => 2 | .draining => 3

/-- One epoch slot: epoch number, state, 32-byte key (R138, R142). -/
structure EpochKey where
  epoch : Nat
  state : EpochSt
  key : Nat
  deriving DecidableEq, Repr

/-- An entry of the retired list: kind and index (R488, R489). -/
structure RetEntry where
  kind : Nat
  index : Nat
  deriving DecidableEq, Repr

/-- What the settings store holds (R68): the user Pattern image, epoch slots, admission ranges, signed-task nonce,
retired list, nonce ceiling, overlay values. -/
structure Settings where
  pattern : Option (List Byte)
  epochs : List EpochKey
  admission : List (Nat × Nat)
  sigNonce : Nat
  retired : List RetEntry
  ceiling : Nat
  overlay : List OvlVal
  deriving DecidableEq, Repr

/-- A store bank (R68, R69): whether its header and sections are valid, format major version, STORE_SEQ, MIGRATED. -/
structure Bank where
  valid : Bool
  major : Nat
  seq : Nat
  migrated : Bool
  content : Settings
  deriving DecidableEq, Repr

/-- A change of the settings that a commit carries (R70, R73). -/
inductive StoreChange where
  | pattern (image : List Byte)
  | overlay (v : OvlVal)
  | epochs (slots : List EpochKey)
  | admission (range lo hi : Nat)
  | sigNonce (v : Nat)
  | retire (e : RetEntry)
  | ceiling (v : Nat)
  | migrate
  | confirm
  deriving DecidableEq, Repr

/-- What the read-back of a commit finds (R72): the whole bank as written, or not. -/
inductive ReadBack where
  | good | bad
  deriving DecidableEq, Repr

/-- What the environment finds at a Pattern load: whether the factory image passes structure and authenticity
(R588), and the check of the user image's signature (R52). -/
structure LoadChecks where
  factoryOk : Bool
  sig : SigCheck
  deriving DecidableEq, Repr

/-! ## Flume (03_flume_delivery.md, 04_flume_windows_keys.md) -/

/-- An IP address: version 6 or 4, and its value in network order. -/
structure IpAddr where
  v6 : Bool
  addr : Nat
  deriving DecidableEq, Repr

/-- What the UDP checksum of a datagram shows (R81). -/
inductive Csum where
  | zero | good | bad
  deriving DecidableEq, Repr

/-- A datagram addressed to UDP_PORT as it arrives on a logical port (R79, R81): addresses, hop count, the IP facts that R81
checks, DSCP, the UDP payload with the Flume payload as it opens under the packet's key, and whether the GCM tag verifies. -/
structure Datagram where
  lport : Nat
  srcIp : IpAddr
  dstIp : IpAddr
  srcPort : Nat
  ttl : Nat
  fragment : Bool
  options : Bool
  csum : Csum
  dscp : Nat
  tagOk : Bool
  payload : List Byte
  deriving DecidableEq, Repr

/-- The fixed header of a Flume packet (R82). -/
structure FlumeHdr where
  version : Nat
  opcode : Nat
  flags : Nat
  srcPeer : Nat
  dstPeer : Nat
  epoch : Nat
  attempt : Nat
  extUnits : Nat
  msgId : Nat
  pktIndex : Nat
  msgLen : Nat
  payloadLen : Nat
  path : Nat
  sizeCode : Nat
  offset : Nat
  window : Nat
  winOffset : Nat
  aux : Nat
  rsvd : Nat
  txCookie : Nat
  deriving DecidableEq, Repr

/-- An extension (R87): the three defined ones, or another type with its bytes. -/
inductive FlumeExt where
  | sack (cum base map : Nat)
  | tsEcho (cookie holdNs : Nat)
  | fenceList (ids : List Nat)
  | other (type : Nat) (bytes : List Byte)
  deriving DecidableEq, Repr

/-- Why a packet is refused (R93), with its code. -/
inductive NackReason where
  | badOpcode | badLen | badExt | reserved | badSize | peerDenied | noWindow | staleGen | access | bounds
  | noQueue | tooLong | inconsistent
  deriving DecidableEq, Repr

/-- The NACK reason codes of R93. -/
def NackReason.code : NackReason → Nat
  | .badOpcode => 1 | .badLen => 2 | .badExt => 3 | .reserved => 4 | .badSize => 5 | .peerDenied => 6
  | .noWindow => 7 | .staleGen => 8 | .access => 9 | .bounds => 10 | .noQueue => 11 | .tooLong => 12
  | .inconsistent => 13

/-- Why a message is deferred (R94), with its code. -/
inductive BusyReason where
  | tableFull | slotsFull | noBuffer | power
  deriving DecidableEq, Repr

/-- The BUSY reason codes of R94. -/
def BusyReason.code : BusyReason → Nat
  | .tableFull => 1 | .slotsFull => 2 | .noBuffer => 3 | .power => 4

/-- Completion status of a descriptor (R135). -/
inductive DescStatus where
  | success | nack | timeout | localFault | flushed | chainFault | badDesc | noKey | noPeer
  deriving DecidableEq, Repr

/-- The codes of R135. -/
def DescStatus.code : DescStatus → Nat
  | .success => 0 | .nack => 1 | .timeout => 2 | .localFault => 3 | .flushed => 4 | .chainFault => 5
  | .badDesc => 6 | .noKey => 7 | .noPeer => 8

/-- A send descriptor (R131), with `rsvdSet` when a reserved bit or byte is not 0. -/
structure SendDesc where
  op : Nat
  fence : Bool
  notify : Bool
  solicit : Bool
  signal : Bool
  inc : Bool
  rsvdSet : Bool
  remoteWq : Nat
  dstPeer : Nat
  localAddr : Nat
  len : Nat
  window : Nat
  winOffset : Nat
  counter : Nat
  count : Nat
  user : Nat
  deriving DecidableEq, Repr

/-- A completion entry of 32 bytes (R135), without its PHASE bit, which the ring position gives. -/
structure CqEntry where
  user : Nat
  len : Nat
  index : Nat
  status : Nat
  reason : Nat
  peer : Nat
  wq : Nat
  op : Nat
  msgId : Nat
  deriving DecidableEq, Repr

/-- The fields of one half of a window table entry (R120). -/
structure WinHalf where
  base : Nat
  len : Nat
  scope : Nat
  asid : Nat
  rights : Nat
  deriving DecidableEq, Repr

/-- What software has written into a work queue's context before it opens the queue (R130). -/
structure WqCtx where
  sqBase : Nat
  rqBase : Nat
  cqBase : Nat
  sqLog2 : Nat
  rqLog2 : Nat
  cqLog2 : Nat
  asid : Nat
  scope : Nat
  cqHead : Nat
  deriving DecidableEq, Repr

/-- A receive buffer of a receive ring entry (R130): ring index, buffer address, length. -/
structure RxBuf where
  index : Nat
  addr : Nat
  len : Nat
  deriving DecidableEq, Repr

/-! ## Blocks and layout (05, 06, 07, 08) -/

/-- A media check field (R173). -/
structure Check where
  guard : Nat
  hostTag : Nat
  locator : Nat
  deriving DecidableEq, Repr

/-- A block on a member or in the Yard: 4,096 data bytes and its check field. -/
structure Blk where
  data : List Byte
  check : Check
  deriving DecidableEq, Repr

/-- What a maintenance read of one block found: its contents with the check passed, a failed GUARD or LOCATOR check or read error, or a block that
carries the lost marker (R207, R237, R294). -/
inductive BlkRead where
  | good (b : Blk)
  | bad
  | marker
  deriving DecidableEq, Repr

/-- What a read of one column at the offsets of interest found; `missing` for a column that R207 counts as missing. -/
inductive ColRead where
  | blocks (bs : List BlkRead)
  | missing
  deriving DecidableEq, Repr

/-- A member table entry of a Brand (R247). -/
structure MemberEnt where
  nguid : Nat
  eui : Nat
  state : Nat
  failSeq : Nat
  port : Nat
  nsze : Nat
  serial : List Byte
  deriving DecidableEq, Repr

/-- A Lost Stripe Table entry (R291). -/
structure LstEnt where
  stripe : Nat
  stripes : Nat
  off : Nat
  blocks : Nat
  cause : Nat
  columns : Nat
  step : Nat
  deriving DecidableEq, Repr

/-- A namespace table entry of a Brand (R248). -/
structure BrandNs where
  sub : Nat
  lbaf : Nat
  flags : Nat
  nsid : Nat
  size : Nat
  nguid : Nat
  uuid : Nat
  extents : Nat
  mapOff : Nat
  deriving DecidableEq, Repr

/-- The content of a Brand (R245 to R248, R291): what every copy of one update shares. -/
structure Brand where
  seq : Nat
  shelf : Nat
  group : Nat
  layout : Nat
  k : Nat
  members : Nat
  spare : Nat
  chunkKib : Nat
  rows : Nat
  vaultMib : Nat
  metaMib : Nat
  memberBlocks : Nat
  table : List Nat
  clean : Bool
  mapMembers : List Nat
  memberTab : List MemberEnt
  log : List (Nat × Bool)
  nsTab : List BrandNs
  lst : List LstEnt
  merged : Bool
  deriving DecidableEq, Repr

/-- A drive as bring-up finds it (R404, R405, R256): its Identify facts, and the two Brand copies with this drive's own
member index, a copy that is not valid being none. -/
structure DriveFacts where
  nguid : Nat
  eui : Nat
  serial : List Byte
  nsze : Nat
  mqes : Nat
  queues : Nat
  memberFormat : Bool
  dualPort : Bool
  nvme : Bool
  deriving DecidableEq, Repr

/-- An extent map entry (R203): group data block, state, bitmap of deallocated blocks. -/
structure ExtEnt where
  groupBlock : Nat
  state : Nat
  dealloc : Nat
  deriving DecidableEq, Repr

/-- Where a block of a host read comes from once it is known. -/
structure RdBlk where
  data : List Byte
  hostTag : Nat
  dealloc : Bool
  deriving DecidableEq, Repr

/-! ## NVMe (05_nvme_service.md) -/

/-- A command capsule as the Chute parses it (R160, R162): opcode, PSDT and fuse byte, command identifier, namespace, the SGL descriptor and the command
dwords, with the in-capsule data. -/
structure Capsule where
  opcode : Nat
  flags : Nat
  cid : Nat
  nsid : Nat
  sglId : Nat
  sglAddr : Nat
  sglLen : Nat
  sglKey : Nat
  cdw10 : Nat
  cdw11 : Nat
  cdw12 : Nat
  cdw13 : Nat
  cdw14 : Nat
  cdw15 : Nat
  data : List Byte
  deriving DecidableEq, Repr

/-- The transport of a queue: a Flume work queue with the peer's reply queue, or a TCP connection (R159, R164). -/
inductive Transport where
  | flume (wq peer replyWq : Nat) (ip : IpAddr)
  | tcp (conn : Nat)
  deriving DecidableEq, Repr

/-- An NVMe/TCP connection (R164, R165): number, host address and logical port, whether ICReq has come, digests in use, R2Ts honoured, and the sequence
numbers sent and expected. -/
structure TcpConn where
  id : Nat
  ip : IpAddr
  port : Nat
  localIp : IpAddr
  lport : Nat
  discovery : Bool
  ready : Bool
  hdgst : Bool
  ddgst : Bool
  maxr2t : Nat
  sndNxt : Nat
  rcvNxt : Nat
  deriving DecidableEq, Repr

/-- Where a Connect capsule comes from: a Flume peer and its address, or a TCP connection (R158). -/
inductive ConnFrom where
  | flume (peer : Nat) (ip : IpAddr)
  | tcp (conn : Nat)
  deriving DecidableEq, Repr

/-- What Connect data carry (R158, R159): host identifier, controller ID, the host's completion work queue, NQN bytes without padding. -/
structure ConnectData where
  hostId : Nat
  cntlid : Nat
  replyWq : Nat
  subNqn : List Byte
  hostNqn : List Byte
  deriving DecidableEq, Repr

/-- An NVMe status: SCT, SC, CRD, and DNR where a rule states it. -/
structure NvmeStatus where
  sct : Nat
  sc : Nat
  crd : Nat
  dnr : Option Bool
  deriving DecidableEq, Repr

/-- An NVMe/TCP PDU as it arrives (R164, R165), or a PDU of an unknown type or inconsistent length. -/
inductive TcpPdu where
  | icReq (hpda : Nat) (hdgst ddgst : Bool) (maxr2t : Nat)
  | cmd (c : Capsule)
  | h2cData (cid off : Nat) (bytes : List Byte) (last : Bool)
  | term
  | unknown
  deriving DecidableEq, Repr

/-- An NVMe/TCP PDU that the device sends, or the RST that refuses a SYN (R165). -/
inductive TcpOut where
  | synAck
  | rst
  | icResp (pfv cpda : Nat) (hdgst ddgst : Bool) (maxH2c : Nat)
  | capsuleResp (cqe : List Byte)
  | c2hData (cid off : Nat) (bytes : List Byte) (last : Bool)
  | r2t (cid off len : Nat)
  | termReq
  deriving DecidableEq, Repr

/-! ## Drive commands (06, 12) -/

/-- What a drive command is for. -/
inductive DrvUse where
  | hostRead (cmd run col : Nat)        -- a Chute read of a host command's run, by column
  | tally (entry write : Nat)           -- a member write under a Tally entry
  | brand (group member copy part : Nat) -- copy 0 or 1; part 0 blocks 1 to 255, 1 block 0 (R252)
  | vault (kind index copy : Nat)        -- kind 0 header BEGUN, 1 control, 2 segment, 3 Ledger, 4 COMPLETE, 5 RETIRED
  | fence                                -- Reservation Acquire with Preempt (R335)
  | resvKey                              -- Reservation Register of this controller's key (R335, R404)
  | admin (opcode : Nat)                 -- firmware's admin commands (R415)
  deriving DecidableEq, Repr

/-- Where a drive command that has been formed stands: waiting for Yard buffers or a tag (R210), in its class queue at the drive port, in the forming batch
(R386), at the drive, or held until its drive is reachable (R407). -/
inductive DrvSt where
  | buffers | queued | batch | atDrive | held
  deriving DecidableEq, Repr

/-- A drive command that has been formed and not completed (R401, R411): the port of the drive, the side whose port issues it, the queue (0 admin, 1 or 2),
NVMe opcode, member LBA and blocks, its tag, whether its data pass through the Yard, the blocks of a write, the class, the step time it was formed at, how often it has
been issued again after a timeout, the step times of the issues in a row that ended with an error, where it stands, and the drive's NGUID. -/
structure DrvCmd where
  cid : Nat
  port : Nat
  sideB : Bool
  queue : Nat
  op : Nat
  lba : Nat
  nlb : Nat
  tag : Option Nat
  viaYard : Bool
  blocks : List Blk
  use : DrvUse
  cls : Nat
  formedUs : Nat
  issues : Nat
  errors : List Nat
  st : DrvSt
  nguid : Nat
  deriving DecidableEq, Repr

/-- A drive's completion entry: the command's identifier and queue, status code type and code, Dword 0. -/
structure DrvCqe where
  cid : Nat
  sqid : Nat
  sct : Nat
  sc : Nat
  dw0 : Nat
  deriving DecidableEq, Repr

/-! ## What bring-up and recovery read from drives (07, 08, 12) -/

/-- What bring-up reads of a drive's Brand (R256): the copies that are valid, whether either copy could be read at all, whether PLACEMENT_HASH matches the placement
table, and whether the Lost Stripe Table of the newest sequence is valid. -/
structure BrandRead where
  copyA : Option Brand
  copyB : Option Brand
  readable : Bool
  hashOk : Bool
  lstOk : Bool
  deriving DecidableEq, Repr

/-- An open Tally entry as a dump's control part holds it (R263). -/
structure TallyRec where
  stripe : Nat
  group : Nat
  kind : Nat
  columns : Nat
  done : Nat
  off : Nat
  blocks : Nat
  deriving DecidableEq, Repr

/-- A rebuild as a dump's control part holds it (R272). -/
structure RebuildRec where
  group : Nat
  member : Nat
  state : Nat
  cursor : Nat
  critCursor : Nat
  critPartner : Nat
  deriving DecidableEq, Repr

/-- Reservation state of a namespace (R182, R183). -/
structure Resv where
  sub : Nat
  nsid : Nat
  gen : Nat
  registrants : List (Nat × Nat)
  rtype : Nat
  holder : Option Nat
  ptpl : Bool
  deriving DecidableEq, Repr

/-- The control part of a dump as recovery reads it (R272): open entries with what a read of the columns finds at the offsets each covers, Lost Stripe Tables by group
with MERGED, the Flume counter, reservations, rebuilds, Patrol cursors and passes by group, the number of segments. -/
structure CtrlPart where
  tally : List (TallyRec × List ColRead)
  lst : List (Nat × List LstEnt × Bool)
  counter : Nat
  resv : List Resv
  rebuilds : List RebuildRec
  patrol : List (Nat × Nat × Nat)
  segments : Nat
  deriving DecidableEq, Repr

/-- A staged block of a segment (R271). -/
structure SegBlock where
  sub : Nat
  nsid : Nat
  hostTag : Nat
  lba : Nat
  commitStep : Nat
  data : List Byte
  poisoned : Bool
  deriving DecidableEq, Repr

/-- What recovery finds in the vaults (R280, R281): the sequence of the dump to recover, whether any member holds its COMPLETE header, REWRITTEN, RETIRED, the control
part when one copy is readable, the valid segments by number, and the namespace blocks (subsystem, namespace, LBA) of segments that are lost. -/
structure FoundDump where
  seq : Nat
  complete : Bool
  rewritten : Bool
  retired : Bool
  ctrl : Option CtrlPart
  segs : List (Nat × List SegBlock)
  lost : List (Nat × Nat × Nat)
  /-- the Ledger section of the first readable control copy (R520) -/
  ledger : Option (List Byte)
  deriving DecidableEq, Repr

/-- A granule as its source sends it and its target receives it (R297): first LBA, DEALLOC and LOST maps, pass, and the units of the blocks that carry data, each
with its GUARD, HOST_TAG and LBA. -/
structure Granule where
  slba : Nat
  dealloc : Nat
  lost : Nat
  pass : Nat
  units : List (List Byte × Nat × Nat × Nat)
  deriving DecidableEq, Repr

/-- An inbound request of a drive that no range of R403 accepts. -/
inductive InReq where
  | write (addr : Nat)
  | read (addr : Nat)
  | message
  deriving DecidableEq, Repr

/-! ## Host ports and traffic control (10_ports_landing.md, 11_traffic_control.md) -/

/-- What stands in a class queue of a point of control (R374): a packet that the device itself formed (by its serial in egress), a frame that an engine sends with the
sequenceId of a PTP event message, or a drive command. -/
inductive TcItem where
  | own (serial : Nat)
  | engine (bytes : List Byte) (ptp : Option Nat)
  | drive (cid : Nat)
  deriving DecidableEq, Repr

/-- A frame that an engine hands to egress (R378): its descriptor's class, its bytes without the FCS, whether its ECN field is ECT(0) or ECT(1) (R381), the sequenceId of a PTP event
message (R369), and whether its data are poisoned or its source ended it early (R363). -/
structure EngFrame where
  cls : Nat
  bytes : List Byte
  ect : Bool
  ptp : Option Nat
  stomp : Bool
  deriving DecidableEq, Repr

/-- How a received frame ends (R350): well, with a wrong FCS or a PCS error, with an uncorrectable FEC codeword inside, or cut off by the loss of the link. -/
inductive FrameEnd where
  | good | fcs | fec | cut
  deriving DecidableEq, Repr

/-- Output pins whose level changes. -/
inductive Pin where
  | pps | pairFaultN | pairActive | thermTripN | gate (slot : Nat)
  deriving DecidableEq, Repr

/-- A write to the MSI-X table or to the MSI-X control of configuration space (R447). -/
inductive MsixWrite where
  | vector (v : Nat) (masked : Bool)
  | control (enable funcMask : Bool)
  deriving DecidableEq, Repr

/-- What the environment's checks find for a task: the signing trailer (R453), the key section (R454), the digest of a new owner key and whether both controllers have the same
newest owner-key slot (R456), the IP address of a migration's target peer (R297), nn of the PE_nn with which the partner rejects a Pattern, 0 for none (R65), and whether the partner in
step holds a verified image of equal VERSION in its target slot (R557). -/
structure TaskAux where
  sig : SigCheck
  key : KeyOpen
  digest : Nat
  sameSlot : Bool
  ip : IpAddr
  partnerPe : Nat
  partnerHolds : Bool
  deriving DecidableEq, Repr

/-- Nothing to check. -/
def taskAux0 : TaskAux := ⟨⟨0, false⟩, ⟨none, false⟩, 0, true, ⟨false, 0⟩, 0, false⟩

/-- A task as it enters the stream: its CODE and block, the data of an "in" task, what the checks found, and the side whose service port
holds it (R460). -/
structure TaskIn where
  code : Nat
  go : TaskGo
  data : List Byte
  aux : TaskAux
  sideB : Bool
  deriving DecidableEq, Repr

/-! ## Memory integrity (16_memory_integrity.md) -/

/-- What the Cruiser finds in a word (R482, R492): nothing, a correctable error (bit position, syndrome, and whether a write has reached its line meanwhile), an uncorrectable one
(syndrome), or poison. -/
inductive EccFinding where
  | clean
  | corrected (bit syndrome : Nat) (lineWritten : Bool)
  | uncorrectable (syndrome : Nat)
  | poison
  deriving DecidableEq, Repr

/-- What a granule of memory holds (R486): local state, staging with the versions in it (subsystem, namespace, block), or other step state. The spec gives step state no addresses. -/
inductive MemUse where
  | localState
  | staging (blocks : List (Nat × Nat × Nat))
  | step
  deriving DecidableEq, Repr

/-- A Locksmith descriptor (R495), with `rsvdSet` when a reserved bit or byte is not 0. -/
structure LsmDesc where
  mode : Nat
  keyFused : Bool
  nonceGen : Bool
  rsvdSet : Bool
  asid : Nat
  len : Nat
  inAddr : Nat
  outAddr : Nat
  aadAddr : Nat
  aadLen : Nat
  keyAddr : Nat
  tagAddr : Nat
  nonceAddr : Nat
  deriving DecidableEq, Repr

/-- What the cipher engine of the Locksmith yields for a job: a translation fault; the physical addresses of output, tag and nonce; the output and the tag computed; whether the tag read
agrees and the padding is right; the IV that CBC encryption derives from a generated nonce; whether an input word is poisoned. -/
structure LsmOut where
  fault : Bool
  outPa : Nat
  tagPa : Nat
  noncePa : Nat
  iv : List Byte
  out : List Byte
  tag : List Byte
  tagOk : Bool
  padOk : Bool
  poisoned : Bool
  deriving DecidableEq, Repr

/-! ## Scaler (17_observability.md) -/

/-- A selection written to SCL_SEL (R502, R505). -/
structure Selection where
  enable : Bool
  uread : Bool
  inst : Nat
  unit : Nat
  event : Nat
  deriving DecidableEq, Repr

/-- An access to a Scaler counter: through register space, or as the CSR of its engine (R504, R508), with the bits of
mcounteren and scounteren that a U-mode read needs. -/
inductive CounterAccess where
  | regWrite (src : Src) (value : Nat)
  | csrWrite (mode : Mode) (value : Nat)
  | csrRead (mode : Mode) (mcounteren scounteren : Bool)
  deriving DecidableEq, Repr

/-- A write to a sampling register that resets the ring (R513). -/
inductive SmpWrite where
  | base (addr : Nat)
  | ctl (tenant : Bool) (sizeLog2 period : Nat)
  deriving DecidableEq, Repr

/-! ## Firmware images (19_firmware_update.md) -/

/-- What the cryptographic checks of R551 and R552 find in a delivered image (log entry on verdicts): the signature and its key digest (code 0x04), the GCM tags (0x06),
the digest of the decrypted body (0x07). -/
structure FwChecks where
  sigOk : Bool
  tagsOk : Bool
  digestOk : Bool
  deriving DecidableEq, Repr

/-- An authentication message as the checks of R194 to R196 leave it: type byte, whether its response value verifies under a secret of R195, and the bytes that the device
answers with next (nonces and Diffie-Hellman values are open). -/
structure AuthMsg where
  kind : Nat
  ok : Bool
  bytes : List Byte
  deriving DecidableEq, Repr

/-- Who performs an output (R319): the server of a half (true for half B), the numbering controller, controller A for
maintenance traffic, or every controller for itself. -/
inductive OutSide where
  | half (b : Bool)
  | numbering
  | maint
  | own
  deriving DecidableEq, Repr

end Sys2Proof.Machine
end

