-- ==== Sys2Proof/Machine/Parts.lean ====
section
/-!
DEFINITION. Machine/Parts.lean: the parts of the block's state, one structure per unit of the spec, all plain data.
A value that a register field of the spec shows and that no rule uses otherwise lives in the register file only.
-/
namespace Sys2Proof.Machine

/-- Times, islands, straps, the event machinery and fuses (01_architecture.md, 15, 18). -/
structure Dev where
  /-- device time in ns since the last power-on reset (R27) -/
  timeNs : Nat
  /-- number of the last consumed input (R314) -/
  stepNo : Nat
  /-- step time in µs: the number of consumed TICKs (R24, R313) -/
  stepUs : Nat
  /-- step number of the input in consumption, 0 outside consumption (R480, R514) -/
  curStep : Nat
  /-- islands that are power-gated (R29) -/
  gated : List Nat
  /-- islands whose clock generator lost lock (R28) -/
  faulted : List Nat
  /-- PAIR_SIDE and RECOVERY straps as driven by the board (R533 step 1) -/
  strapSide : Nat
  strapRecovery : Nat
  /-- last time a rate-limited event was raised, by event number -/
  lastRaise : List (Nat × Nat)
  /-- events whose MSI-X message waits for a mask or the freeze to go (R447, R479) -/
  pendEvt : List Nat
  /-- owner-key slots: digest when burned, and revoked (R52, R456) -/
  ownerKeys : List (Option Nat × Bool)
  /-- fuses: MAC address base, LSM_ID, identity public key, fused firmware security number, AVS voltage code -/
  fuseMac : Nat
  fuseLsmId : Nat
  fuseIdentity : List Byte
  fuseSecurity : Nat
  fuseMv : Nat
  deriving DecidableEq, Repr

/-- The service port function (14_service_port.md). -/
structure Svc where
  /-- AER uncorrectable status (R448) -/
  aer : Nat
  msixEnable : Bool
  funcMask : Bool
  /-- vectors whose mask bit is 0 -/
  unmasked : List Nat
  /-- AER bit that froze the function, while frozen (R449) -/
  freezeBit : Option Nat
  deriving DecidableEq, Repr

/-- Where a running task stands (R459 to R461). -/
inductive TaskPhase where
  | reading                                 -- its data are being read by DMA
  | deferred                                -- waits for a power-state entry to end
  | streamed                                -- has entered the stream and is not consumed yet
  | queued (code : Nat) (res : List Nat)    -- its changes wait for a later store commit (R73); how it will end
  | commit (code : Nat) (res : List Nat)    -- its changes are in the running store commit; how it will end
  | live                                    -- committed; its live records are not in effect yet (R74)
  | partner (code : Nat) (res : List Nat)   -- ended here, waits for the partner's end
  | working                                 -- in execution over further steps (drive work)
  deriving DecidableEq, Repr

/-- A task in execution: its CODE and block, its data, what the checks of it find, whether this controller's service port holds it in TASK_STATUS, and where it stands. -/
structure TaskRun where
  code : Nat
  go : TaskGo
  data : List Byte
  aux : TaskAux
  own : Bool
  phase : TaskPhase
  deriving DecidableEq, Repr

/-- One DMA channel (R473 to R475): the descriptor, bytes written, and whether poison was met. -/
structure Chan where
  desc : DmaDesc
  done : Nat
  poison : Bool
  deriving DecidableEq, Repr

/-- Engines, Xkvq queues and DMA (15_engines_events.md). Keys: queue = cluster × 64 + number; engine n;
channel = engine × 2 + c. -/
structure Eng where
  kvq : List (Nat × List Word)
  /-- mask of a KVQ.WAIT in progress, by engine -/
  waits : List (Nat × Nat)
  /-- ready tasks: cluster, priority -/
  ready : List (Nat × Nat)
  chans : List (Nat × Chan)
  /-- countdown of precise sampling, by engine (R511) -/
  smpLeft : List (Nat × Nat)
  /-- contexts of gated clusters saved in HBM (R538) -/
  saved : List Nat
  deriving DecidableEq, Repr

/-- The Ledger (17_observability.md); its HEAD, SEQ and freeze are in the register file. -/
structure Ledger where
  slots : List (Nat × LedgerRec)
  keys : List LimKey
  shared : List LimKey
  /-- slots that hold an uncorrectable word (R519) -/
  bad : List Nat
  deriving DecidableEq, Repr

/-- A store commit in progress (R70, R72): target bank (0 A, 1 B), what it will hold, format, whether the retry runs,
and the changes it carries. -/
structure StoreRun where
  target : Nat
  content : Settings
  major : Nat
  migrated : Bool
  retried : Bool
  changes : List StoreChange
  deriving DecidableEq, Repr

/-- The Pattern and the settings store (02_pattern.md). -/
structure PatSt where
  banks : List Bank
  /-- settings in force -/
  settings : Settings
  /-- records in force, fall-through resolved (R54, R55, R592) -/
  live : List PatRec
  /-- always-on copy of the cold-class records (R64) -/
  cold : List PatRec
  /-- open Pattern delivery: declared length and bytes so far (R457) -/
  delivery : Option (Nat × List Byte)
  run : Option StoreRun
  /-- changes that wait for the running commit (R73) -/
  waiting : List StoreChange
  /-- committed live records and overlay values that wait for a step tick (R62) -/
  pendingLive : List PatRec
  /-- start-up stopped at step 4 because the factory Pattern fails (R588) -/
  factoryFailed : Bool
  deriving DecidableEq, Repr

/-- A reassembly slot's state (R98). -/
inductive SlotSt where
  | filling | fenceWait
  deriving DecidableEq, Repr

/-- A reassembly slot (R96 to R101): its message, what the first packet to arrive said, the packets held, its expiry in step time,
the acknowledgement state of R106, the window generation or receive buffer it holds, and whether its queue has left the open state since (R130). -/
structure Slot where
  peer : Nat
  msgId : Nat
  st : SlotSt
  hdr : FlumeHdr
  fenceIds : List Nat
  fenceLeft : List Nat
  held : List Nat
  expiryUs : Nat
  sinceAck : Nat
  firstUnacked : Option Nat
  lastAckNs : Option Nat
  echoCookie : Nat
  echoNs : Nat
  buf : Option RxBuf
  doomed : Bool
  /-- class of its packets, which its answers take (R378) -/
  cls : Nat
  deriving DecidableEq, Repr

/-- An entry of the Recent Message Table that holds an outcome (R103 to R105). -/
structure RmtEntry where
  peer : Nat
  msgId : Nat
  completed : Bool
  reason : Nat
  expiryUs : Nat
  deriving DecidableEq, Repr

/-- What a message of the device is for. -/
inductive MsgUse where
  | desc (wq index : Nat)          -- a send descriptor (R131)
  | cmdPull (cmd : Nat)            -- a READ of a Write command's data (R162)
  | cmdData (cmd : Nat)            -- a WRITE of a Read command's data (R163)
  | cmdResp (cmd : Nat)            -- a response capsule (R163)
  | granule (slot granule : Nat)   -- a migration granule (R297)
  | probe (path : Nat)             -- a path probe (R113)
  deriving DecidableEq, Repr

/-- Sender states of R107 that a message in memory can have. -/
inductive MsgSt where
  | queued | active | held
  deriving DecidableEq, Repr

/-- Where a message's bytes come from. -/
inductive MsgSrc where
  | segs (spans : List (Nat × Nat))   -- translated so far: physical address and length, in order
  | bytes (b : List Byte)
  deriving DecidableEq, Repr

/-- One packet of a sender's message: its attempt, the path, send time (step µs and device ns), cookie and order of its latest
transmission, whether the receiver holds it, and whether a retransmission waits for its RETX input (R321). -/
structure PktTx where
  index : Nat
  sent : Bool
  attempt : Nat
  path : Nat
  sentUs : Nat
  sentNs : Nat
  cookie : Nat
  order : Nat
  held : Bool
  retx : Bool
  deriving DecidableEq, Repr

/-- A message of the device (R107): `key` names it inside the device, `id` is its message ID once it has been transmitted (R91), `faulted` says that
its local buffer's translation faulted, `got` the READ_RESP packets held (R111). -/
structure Msg where
  key : Nat
  id : Nat
  dst : Nat
  opcode : Nat
  len : Nat
  sizeCode : Nat
  window : Nat
  winOffset : Nat
  aux : Nat
  notify : Bool
  fence : Option (List Nat)
  solicit : Bool
  src : MsgSrc
  use : MsgUse
  side : OutSide
  desc : Option SendDesc
  faulted : Bool
  got : List Nat
  st : MsgSt
  t0Us : Nat
  pkts : List PktTx
  holdUntilUs : Nat
  tag : Option Nat
  cls : Nat
  deriving DecidableEq, Repr

/-- A message that failed by its deadline and stays outstanding for fences (R102, R132): id, destination, end in step time. -/
structure GhostMsg where
  id : Nat
  dst : Nat
  untilUs : Nat
  deriving DecidableEq, Repr

/-- Path states of R113. -/
inductive PathSt where
  | up | suspect | down
  deriving DecidableEq, Repr

/-- One path of a destination (R113). -/
structure PathTx where
  st : PathSt
  losses : Nat
  answered : Nat
  unanswered : Nat
  lastProbeUs : Nat
  deriving DecidableEq, Repr

/-- A flow cache entry (R145, R589). -/
structure Flow where
  peer : Nat
  ip : IpAddr
  salt : Nat
  rtt : Option (Rat × Rat)
  paths : List PathTx
  nextPath : Nat
  cwnd : Rat
  inflight : Nat
  hops : Nat
  lastDecreaseNs : Nat
  localIp : Option IpAddr
  lport : Nat
  lastUseNs : Nat
  deriving DecidableEq, Repr

/-- A window table entry (R120). -/
structure Win where
  live : WinHalf
  gen : Nat
  lastCommitUs : Nat
  oldRefs : Nat
  oldGen : Nat
  draining : Bool
  shadow : WinHalf
  deriving DecidableEq, Repr

/-- Why the descriptor at the head of a work queue waits. -/
inductive DescWait where
  | fence | tag | chain
  deriving DecidableEq, Repr

/-- Work queue states of R130. -/
inductive WqSt where
  | closed | open_ | error | paused
  deriving DecidableEq, Repr

/-- A work queue (R130): the context, ring indices, posted receive buffers and returned ones, a waiting descriptor, and a paused
one with its fault. -/
structure Wq where
  st : WqSt
  ctx : WqCtx
  sqHead : Nat
  sqTail : Nat
  rqHead : Nat
  rqTail : Nat
  cqTail : Nat
  posted : List RxBuf
  returned : List RxBuf
  waiting : Option (SendDesc × DescWait)
  pausedMsg : Option Nat
  deriving DecidableEq, Repr

/-- A read tag (R129): generation and the READ that holds it. -/
structure RdTag where
  gen : Nat
  msg : Option Nat
  deriving DecidableEq, Repr

/-- An entry of the read answer filter (R124). -/
structure RdFilter where
  peer : Nat
  msgId : Nat
  attempt : Nat
  expiryUs : Nat
  deriving DecidableEq, Repr

/-- A control packet that waits for the next 4 µs quantum (R141), or was sent in one. -/
structure CtlPkt where
  peer : Nat
  msgId : Nat
  opcode : Nat
  complete : Bool
  aux : Nat
  path : Nat
  sack : Option (Nat × Nat × Nat)
  echo : Option (Nat × Nat)
  cls : Nat
  deriving DecidableEq, Repr

/-- What a message of the device ended with, for the unit that sent it, with the bytes that a command's READ brought. -/
structure MsgReport where
  use : MsgUse
  status : DescStatus
  reason : Nat
  data : List Byte
  deriving DecidableEq, Repr

/-- The Flume unit (chapters 03 and 04). -/
structure Flm where
  slots : List Slot
  rmt : List RmtEntry
  msgs : List Msg
  ghosts : List GhostMsg
  /-- the 48-bit message counter, in the always-on island (R91, R143) -/
  msgCtr : Nat
  cookieCtr : Nat
  orderCtr : Nat
  windows : List (Nat × Win)
  /-- a commit accepted and not yet applied: index, generation, step time of the request (R125) -/
  winPending : Option (Nat × Nat × Nat)
  filter : List RdFilter
  rdTags : List (Nat × RdTag)
  wqs : List (Nat × Wq)
  /-- epoch slots 0 and 1 (R142) -/
  epochs : List EpochKey
  /-- a committed epoch transition that waits for its step tick (R142) -/
  epochNext : Option (List EpochKey)
  switchUs : Nat
  /-- epochs blocked under R143 -/
  blocked : List Nat
  deriving DecidableEq, Repr

/-- Further state of the Flume unit: flows, control packets, tables, reports. -/
structure FlmAux where
  flows : List Flow
  /-- destinations that wait for a flow cache entry (R145) -/
  cacheWait : List (Nat × IpAddr)
  ctlLast : List (Nat × Nat × Nat)
  ctlQueue : List CtlPkt
  /-- chain counters of R133: value, plus 2^32 when FAULT is set -/
  chain : List (Nat × Nat)
  /-- address table of R361, by entry: the address -/
  addrTable : List (Nat × Option IpAddr)
  reports : List MsgReport
  /-- messages whose slots have expired, with the step time until which a fence may list them: peer, message, time (R101) -/
  expired : List (Nat × Nat × Nat)
  deriving DecidableEq, Repr

/-- An entry of the Error Information log: error count, queue, command identifier, status code type and code, namespace. -/
structure ErrEnt where
  count : Nat
  qid : Nat
  cid : Nat
  status : Nat
  nsid : Nat
  deriving DecidableEq, Repr

/-- An NVMe controller (R158, R166): its subsystem, host, keep alive, held Asynchronous Event Requests and events not yet reported, features, properties, changed
namespaces and error log. -/
structure NvmCtrl where
  id : Nat
  sub : Nat
  discovery : Bool
  hostDigest : Nat
  hostId : Nat
  peer : Nat
  katoMs : Nat
  aliveUs : Nat
  /-- command identifiers of held Asynchronous Event Requests, oldest first -/
  aer : List Nat
  /-- events to report: type, information, log page -/
  events : List (Nat × Nat × Nat)
  features : List (Nat × Nat)
  cc : Nat
  csts : Nat
  changedNs : List Nat
  /-- Reservation Notification log: entries (count, type, namespace), oldest first, and the count of the last one (R182) -/
  resvLog : List (Nat × Nat × Nat)
  resvCount : Nat
  errors : List ErrEnt
  errorCount : Nat
  deriving DecidableEq, Repr

/-- A queue (R158, R159): key (the Flume work queue, or 65,536 plus the TCP connection), controller, queue ID, transport, SQSIZE and head, and how far
authentication has come (R194 to R196). -/
structure NvmQueue where
  key : Nat
  ctrl : Nat
  qid : Nat
  tr : Transport
  sqSize : Nat
  sqHead : Nat
  authed : Bool
  authStep : Nat
  authFailed : Bool
  deriving DecidableEq, Repr

/-- One run of a host read: a stripe's column at offsets off to off + n − 1, for blocks `first` to `first` + n − 1 of the command, with what each
column has given (by column: the data of the blocks, or none when it counts as missing). -/
structure HostRun where
  group : Nat
  stripe : Nat
  col : Nat
  off : Nat
  n : Nat
  first : Nat
  got : List (Nat × Option (List RdBlk))
  degraded : Bool
  /-- the stripe is to be swept before it is read (R284) -/
  waitSweep : Bool
  /-- a block failed its read or its check and is to be rewritten (R177); a read of the run came back poisoned once (R188) -/
  bad : Bool
  poisonedOnce : Bool
  deriving DecidableEq, Repr

/-- Stages of a host command. -/
inductive CmdSt where
  | allocating    -- handed over for want of an extent (R198)
  | pulling       -- write data not all here
  | held          -- write held under the vault limit (R33, R181)
  | staged        -- every block held, before the commit point (R215)
  | committed     -- committed, its response condition not met (R216, R525)
  | reading       -- runs outstanding
  | sending       -- data WRITE to the host in flight (R163)
  | mapping       -- a deallocation that waits for its map commit (R251)
  deriving DecidableEq, Repr

/-- A host command that has been parsed and not ended. -/
structure Cmd where
  key : Nat
  queue : Nat
  ctrl : Nat
  cap : Capsule
  sub : Nat
  slba : Nat
  nlb : Nat
  lbaf : Nat
  engines : Bool
  st : CmdSt
  acceptedUs : Nat
  heldUs : Nat
  alerted : Bool
  /-- write data as the host sends it, with metadata interleaved, and what of it has come -/
  data : List Byte
  gotBytes : Nat
  /-- blocks of a write with their HOST_TAG, checked (R174) -/
  blocks : List (List Byte × Nat)
  /-- blocks of a read as they come in, and the runs that bring them -/
  rd : List (Option RdBlk)
  runs : List HostRun
  commitStep : Nat
  issued : Bool
  /-- extents whose map entries the command was parsed under (R204) -/
  extents : List (Nat × Nat)
  deriving DecidableEq, Repr

/-- The NVMe service (05_nvme_service.md). -/
structure Nvm where
  ctrls : List NvmCtrl
  queues : List NvmQueue
  tcp : List TcpConn
  cmds : List Cmd
  cmdCtr : Nat
  /-- capsules that wait in their submission queue slots for room in the Chute (R198) -/
  waiting : List (Nat × Capsule)
  resv : List Resv
  /-- GENERATION of log 0xC0 (R190), and takeovers, last takeover, divergences and resyncs of log 0xC1 (R191) -/
  lostGen : Nat
  takeovers : Nat
  lastTakeover : Nat
  divergences : Nat
  resyncs : Nat
  deriving DecidableEq, Repr

/-- A staged version (R215 to R218): namespace, block, data, HOST_TAG, the step number of its commit point, the step time from which it is dirty, the Tally entry that
destages it (0 none), whether its destage ends only with the next map commit (R261), whether the
partner's STAGED notice for it has come or is not waited for (R216, R321), and whether its copy here is poisoned. -/
structure Ver where
  sub : Nat
  nsid : Nat
  lba : Nat
  data : List Byte
  hostTag : Nat
  commitStep : Nat
  dirtyUs : Nat
  entry : Nat
  mapWait : Bool
  noticed : Bool
  poisoned : Bool
  deriving DecidableEq, Repr

/-- Why a Yard buffer is held (R209). -/
inductive BufPool where
  | min | urgent | shared
  deriving DecidableEq, Repr

/-- A held Yard buffer: number, station, class, pool. -/
structure YBuf where
  num : Nat
  station : Nat
  cls : Nat
  pool : BufPool
  deriving DecidableEq, Repr

/-- A drive tag (R212, R214): generation, the drive command that holds it, its buffers, the length of its data stream, whether it is a member
write, and the step time until which it is held back. -/
structure DTag where
  gen : Nat
  cmd : Option Nat
  bufs : List Nat
  len : Nat
  write : Bool
  holdUs : Nat
  poisoned : Bool
  deriving DecidableEq, Repr

/-- A buffer request of a station other than host ingress that waits (R210): station, class, buffers, and the drive command it is for. -/
structure YWait where
  station : Nat
  cls : Nat
  n : Nat
  cmd : Nat
  deriving DecidableEq, Repr

/-- The Chute, staging, tags and the Yard (06_chute_yard.md). -/
structure Cht where
  /-- extent map directory: VALID maps and their count of extents (R202) -/
  dir : List (Nat × Nat)
  /-- extent entries by map × 2^32 + extent, as commands parsed from now on use them (R203, R204) -/
  ext : List (Nat × ExtEnt)
  staging : List Ver
  tags : List (Nat × DTag)
  bufs : List YBuf
  waits : List YWait
  /-- commands parsed under a superseded entry and still in flight (R204) -/
  superseded : List Nat
  /-- destage issues in class 5 (R219) -/
  dirtyHigh : Bool
  /-- a write is held under R33 -/
  limited : Bool
  deriving DecidableEq, Repr

/-- A running Brand update (R252): what it writes, the copies still to write (member, copy, part), members whose write failed, and the actions it
releases are those that rest on the content. -/
structure BrandUpd where
  content : Brand
  todo : List (Nat × Nat × Nat)
  failed : List Nat
  deriving DecidableEq, Repr

/-- Verify states of a group (R192, R284). -/
inductive Verify where
  | normal | needs | sweeping
  deriving DecidableEq, Repr

/-- A layout group: the Brand recorded by the last completed update, the Brand wanted, the running update, whether changes wait for the next one, whether it
is offline under R256, forming (R255), recovered and serving (R534), its verify state with the stripes swept, where its members' drives are
(drive port by member), its map image sequence and Patrol cursor, passes and the step time the pass began. -/
structure Grp where
  brand : Brand
  want : Brand
  upd : Option BrandUpd
  offline : Bool
  forming : Bool
  serving : Bool
  verify : Verify
  swept : Nat
  /-- stripes above the sweep's cursor that have been swept already (R284) -/
  sweptToo : List Nat
  ports : List (Nat × Nat)
  /-- members that are unreachable, and the step time since when (R413) -/
  gone : List (Nat × Nat)
  mapSeq : Nat
  patrolCursor : Nat
  patrolPasses : Nat
  patrolUs : Nat
  patrolLate : Bool
  /-- stripes passed over for an open entry in this pass (R295) -/
  patrolSkipped : List Nat
  deriving DecidableEq, Repr

/-- One member write of a Tally entry: column, first offset, blocks, whether it goes to the column's own place although the member is SPARED
(copyback), whether its data pass through the Yard, and whether it is on media. -/
structure TallyWrite where
  col : Nat
  off : Nat
  blocks : List Blk
  own : Bool
  viaYard : Bool
  done : Bool
  deriving DecidableEq, Repr

/-- An open Tally entry (R263) with its writes, the member of a rebuild, and the side and class that issue it. -/
structure TallyEnt where
  id : Nat
  stripe : Nat
  group : Nat
  kind : Nat
  columns : Nat
  done : Nat
  off : Nat
  blocks : Nat
  spare : Bool
  step : Nat
  writes : List TallyWrite
  member : Nat
  side : OutSide
  cls : Nat
  deriving DecidableEq, Repr

/-- A writer that waits for its stripe's entry or for a free one (R264, R267): kind, group, stripe, offsets, the member of a rebuild. -/
structure TallyWait where
  kind : Nat
  group : Nat
  stripe : Nat
  off : Nat
  blocks : Nat
  member : Nat
  deriving DecidableEq, Repr

/-- A rebuild or copyback (R285, R286). -/
structure Rebuild where
  group : Nat
  member : Nat
  copyback : Bool
  state : Nat
  cursor : Nat
  critCursor : Nat
  critPartner : Nat
  /-- next stripe of the normal and of the critical pass -/
  next : Nat
  critNext : Nat
  done : Nat
  critical : Nat
  recon : Nat
  lost : Nat
  /-- step times at which stripes of the last 10 s were rebuilt (R193) -/
  recent : List Nat
  /-- stripes in flight, and whether each belongs to the critical pass -/
  inflight : List (Nat × Bool)
  /-- state before a pause -/
  before : Nat
  deriving DecidableEq, Repr

/-- A vault member: group, member, drive port, segment slots of a half (R269, R273). -/
structure VMem where
  group : Nat
  member : Nat
  port : Nat
  slots : Nat
  deriving DecidableEq, Repr

/-- Where the two copies of a segment go: member and slot (R273). -/
structure SegPlace where
  first : VMem
  firstSlot : Nat
  second : VMem
  secondSlot : Nat
  deriving DecidableEq, Repr

/-- Stages of a dump (R275, R279). -/
inductive DumpStage where
  | waits | begun | control | segments | ledger | complete | done | retired
  deriving DecidableEq, Repr

/-- A power-loss dump (R275, R276): its sequence and stage, the step time it began at, the step number at which admission stopped, the vault members in order, the
control copies, the staged versions of its segments with their places, slots taken by rewritten copies, and its flags. -/
structure Dump where
  seq : Nat
  stage : DumpStage
  beganUs : Nat
  atStep : Nat
  vault : List VMem
  ctrl : List VMem
  segs : List (List Ver × SegPlace)
  extra : List (VMem × Nat)
  rewritten : Bool
  short : Bool
  deriving DecidableEq, Repr

/-- A migration (R297 to R299). -/
structure Mig where
  slot : Nat
  state : Nat
  pass : Nat
  sub : Nat
  nsid : Nat
  peer : Nat
  ip : IpAddr
  window : Nat
  winOffset : Nat
  notifyWq : Nat
  cursor : Nat
  marked : List Nat
  todo : List Nat
  inflight : List Nat
  resent : List Nat
  deriving DecidableEq, Repr

/-- A migration into a namespace of this shelf, as target (R298, R299). -/
structure MigIn where
  sub : Nat
  nsid : Nat
  window : Nat
  deriving DecidableEq, Repr

/-- The Tally, the vault, rebuilds, the sweep, Patrol and migrations (08_tally_rebuild.md). -/
structure Tly where
  entries : List TallyEnt
  /-- writers that wait for their stripe's entry or for a free one, in order (R264, R267) -/
  waits : List TallyWait
  entryCtr : Nat
  rebuilds : List Rebuild
  dump : Option Dump
  /-- sequence of the recovered dump, which is retired once its restaged versions are destaged (R281), and those: subsystem, namespace, LBA, commit step -/
  recovered : Option (Nat × List (Nat × Nat × Nat × Nat))
  /-- writes are not admitted (R275 step 1) -/
  stopped : Bool
  migs : List Mig
  migsIn : List MigIn
  /-- namespace blocks in lost segments (R281): sub, nsid, lba, step of the record -/
  lostSegs : List (Nat × Nat × Nat × Nat)
  deriving DecidableEq, Repr

/-! ## Step state as a resync copies it (R316, R340) -/

/-- What of a drive port is step state: the member, both sides' READY by side, the drive's NGUID, whether it gets no writes. -/
structure PortStep where
  port : Nat
  readyA : Bool
  readyB : Bool
  member : Option (Nat × Nat)
  nguid : Nat
  noWrites : Bool
  deriving DecidableEq, Repr

/-- What of a slot is step state (R423): ENABLE, and presence by the latest SLOT input of each side. -/
structure SlotStep where
  slot : Nat
  enable : Bool
  presentA : Bool
  presentB : Bool
  deriving DecidableEq, Repr

/-- A granule of step state: the spec gives granules no layout, so one granule here is one unit's step state (log entry). -/
inductive Piece where
  | time (stepNo stepUs digest : Nat)
  | pattern (live : List PatRec) (settings : Settings)
  | flume (x : Flm) (chain : List (Nat × Nat)) (addr : List (Nat × Option IpAddr))
  | nvme (x : Nvm)
  | chute (dir : List (Nat × Nat)) (ext : List (Nat × ExtEnt)) (staging : List Ver) (superseded : List Nat) (dirtyHigh limited : Bool)
  | groups (x : List (Nat × Grp))
  | tally (x : Tly)
  | drives (cmds : List DrvCmd) (cidCtr : Nat) (ports : List PortStep)
  | slots (x : List SlotStep)
  | power (holdA holdB failA failB : Bool) (lastHostUs : Nat)
  | regs (x : List (Nat × Nat))
  /-- STEP_FORMAT and MIN_STEP_FORMAT of the image that its sender runs (R558) -/
  | formats (step oldest : Nat)
  deriving DecidableEq, Repr

/-! ## The input stream (09_whipsaw_pair.md, R310) -/

/-- A write of a register whose effect is on step state, as it enters the stream (kind MGMT of R310). -/
inductive StepWrite where
  | winCommit (index gen : Nat) (staged : Bool) (shadow : WinHalf)
  | wqOpen (wq : Nat) (ctx : WqCtx)
  | wqClose (wq : Nat)
  | wqReset (wq : Nat)
  | wqDoorbell (wq tail cqHead : Nat)
  | rqDoorbell (wq tail cqHead : Nat) (bufs : List RxBuf)
  | chainWrite (index value : Nat) (fault : Bool)
  | addrWrite (entry : Nat) (addr : Option IpAddr)
  | field (off size value : Nat)
  /-- CHT_MAP_INVAL (R204) -/
  | mapInval (map extent : Nat) (ent : ExtEnt)
  /-- SKD_CTL.PAUSE (R288) -/
  | skdPause (on : Bool)
  /-- DP_CTL of the port of the side that received the write (R404, R409) -/
  | dpCtl (port : Nat) (release reset : Bool)
  /-- SLOT_CTL.ENABLE (R430) -/
  | slotEnable (slot : Nat) (on : Bool)
  /-- PWR_CTL.ENTER, or an idle time that has passed (R537) -/
  | enter (target : Nat)
  /-- a wake (R544) -/
  | wake
  /-- the slot hold of Fallow entry (R540) -/
  | slotHold
  /-- recognised changes of PWRFAIL_N and HOLDUP_OK (R524, R525) -/
  | pwrfail (asserted : Bool)
  | holdup (ok : Bool)
  /-- a rolling activation with its window, and the follower's confirmation or fallback in one (R560) -/
  | fwPair (window : Nat)
  | fwConfirmed
  | fwFellBack
  /-- an activation is complete (R556) -/
  | fwActivated
  /-- a task command block with its data (R460) -/
  | task (t : TaskIn)
  deriving DecidableEq, Repr

/-- Drive events of the stream (R414). -/
inductive DrvEvent where
  | link (up : Bool) (rate width : Nat) (flit : Bool)
  | presence (present : Bool)
  | contained (aer : Nat)
  | ready (outstanding mqes : Nat)
  | brand (kind group member seq : Nat)
  | held (reason : Nat)
  | health (warning temp used flags : Nat)
  | admin (opcode status dw0 : Nat)
  | reset (done : Bool)
  deriving DecidableEq, Repr

/-- An input of the stream (R310). -/
inductive Input where
  | hostFrame (lport : Nat) (frame : List Byte) (bad : Bool)
  | driveCqe (port check : Nat) (cqe : DrvCqe)
  | driveEvent (port : Nat) (e : DrvEvent)
  | slot (slot : Nat) (present : Bool) (sense : Nat)
  | tick (us : Nat)
  | mgmt (w : StepWrite)
  | retx (msgId pktIndex attempt : Nat)
  | cut (code : Nat)
  deriving DecidableEq, Repr

/-- An input record (R315): step number (0 in a FORWARD), the side that observed, whether the receiver holds the payload, the
observing side's serial, the input. -/
structure InputRec where
  step : Nat
  sideB : Bool
  refOnly : Bool
  origin : Nat
  input : Input
  deriving DecidableEq, Repr

/-- What a HELLO carries (R327). -/
structure Hello where
  shelf : Nat
  sideB : Bool
  profile : Nat
  factoryDigest : Nat
  sequence : Nat
  firmware : Nat
  deriving DecidableEq, Repr

/-- The bodies of link frames (R327). -/
inductive LinkBody where
  | idle
  | hello (h : Hello)
  | heartbeat (role partner step : Nat)
  | input (recs : List InputRec)
  | forward (r : InputRec)
  | staged (ctrl cid sq step : Nat)
  | digest (step value : Nat)
  | snapshot (index : Nat) (x : Piece)
  | resync (code step : Nat)
  deriving DecidableEq, Repr

/-- A link frame as it arrives: REPLAY, NAK, LSEQ, ACK_LSEQ, whether both CRCs hold, body (R326). -/
structure LinkFrame where
  replay : Bool
  nak : Bool
  lseq : Nat
  ack : Nat
  crcOk : Bool
  body : LinkBody
  deriving DecidableEq, Repr

/-- How PAIR_ACTIVE_IN reads (R306). -/
inductive ActiveIn where
  | inactive | dead | leader | follower
  deriving DecidableEq, Repr

/-- Codes of a CUT input (R310). -/
def cutHandover : Nat := 1
def cutResync : Nat := 2
def cutHalf : Nat := 3
def cutTakeover : Nat := 4

/-! ## What leaves the block -/

/-- Everything the block sends or shows outside: newest first in `State.out`. -/
inductive Out where
  /-- a BAR0 read completes with this value (R10 to R14) -/
  | bar0Data (off size value : Nat)
  /-- a memory request to a BAR completes with Unsupported Request (R445) -/
  | barUr
  /-- an MSI-X message (R447) -/
  | msix (vector : Nat)
  /-- an Xkvq result register takes a value (R469) -/
  | engineRd (engine value : Nat)
  /-- an exception is delivered to an engine (R465, R468, R469, R470) -/
  | exception (engine cause : Nat)
  /-- the device writes task data through the service port (R452) -/
  | taskData (addr : Nat) (bytes : List Byte)
  /-- an engine is switched to another task: its cacheable load in flight is cancelled, its load reservation cleared, its
  KVQ.WAIT abandoned (R477) -/
  | preempted (engine priority : Nat)
  /-- a Flume packet enters egress: logical port, addresses, UDP ports, hop limit 255 (R146), the nonce it is sealed under (R140), and
  header, extensions and plaintext payload (R80, R82) -/
  | flume (lport cls : Nat) (srcIp dstIp : IpAddr) (srcPort dstPort ttl : Nat) (nonce bytes : List Byte)
  /-- a completion entry is written to a work queue's completion ring (R135) -/
  | completion (slot : Nat) (phase : Bool) (entry : CqEntry)
  /-- a Whipsaw link frame: LSEQ, ACK_LSEQ, REPLAY, NAK and body (R326, R327) -/
  | link (lseq ack : Nat) (replay nak : Bool) (body : LinkBody)
  /-- an NVMe/TCP connection sends a PDU or a RST (R164, R165), which enters egress: logical port, class, frame length -/
  | tcp (lport cls len conn : Nat) (pdu : TcpOut)
  /-- an entry is written to a drive's submission queue: port, queue, command identifier, NVMe opcode, member LBA, blocks, FUA, PRP entries, MPTR
  (R212, R259, R386, R401) -/
  | sqe (port queue cid op lba nlb : Nat) (fua : Bool) (prps : List Nat) (mptr : Nat)
  /-- a doorbell of a drive: port, queue, submission (true) or completion head, value (R386, R402) -/
  | doorbell (port queue : Nat) (submission : Bool) (value : Nat)
  /-- a read of an aperture address completes with Yard bytes, or with Unsupported Request (R212, R213) -/
  | apertureData (port addr : Nat) (bytes : List Byte)
  | apertureUr (port addr : Nat)
  /-- a configuration or memory read to a drive returns this value (R410) -/
  | dpRead (port value : Nat)
  /-- the MAC of a logical port sends a unit of a class, marked CE (R381) or with a stomped FCS (R363) -/
  | wire (lport cls : Nat) (item : TcItem) (ce stomped : Bool)
  /-- the MAC sends PFC for a class (R358) -/
  | pfc (lport cls quanta : Nat)
  /-- a frame goes to a cluster (R360, R362), with TAIL_ERROR or not, and its receive time (R369) -/
  | engineFrame (cluster lport : Nat) (frame : List Byte) (bad : Bool) (time : Nat)
  /-- a pin takes a level; PAIR_ACTIVE_OUT takes a waveform: 0 low, 1 follower, 2 leader (R305) -/
  | pin (p : Pin) (level : Nat)
  /-- a leader asks the follower for a granule, naming the step it has consumed; the follower sends one, poisoned or not (R486) -/
  | repairRequest (granule step : Nat)
  | repairGranule (granule : Nat) (bytes : List Byte) (poisoned : Bool)
  /-- the flash is told to protect blocks from an address on, so many bytes (R41) -/
  | flashProtect (addr bytes : Nat)
  deriving DecidableEq, Repr

/-- The Whipsaw pair: outputs, digest and link (09_whipsaw_pair.md); role, partner and profile are in the register file. -/
structure Wsw where
  /-- running digest after the last finished step (R331) -/
  digest : Nat
  /-- XOR of the CRC-64 of the fold records of step `foldStep`, when any was formed -/
  foldX : Nat
  foldAny : Bool
  foldStep : Nat
  /-- LSEQ of the next frame sent, and the highest LSEQ the partner has acknowledged (R326) -/
  txSeq : Nat
  ackSeq : Nat
  /-- outputs that wait for a link-level acknowledgement: the LSEQ they need (R320, R321) -/
  heldOut : List (Nat × Out)
  /-- LSEQ expected of the partner's next frame, frames kept for replay with the device time of their sending (oldest first), and replays of the oldest one (R328) -/
  rxSeq : Nat
  sent : List (Nat × Nat × LinkBody)
  replays : Nat
  /-- device time of the last frame sent, of the last HEARTBEAT sent and of the last one received -/
  lastSentNs : Nat
  lastHbTxNs : Nat
  lastHbRxNs : Nat
  /-- last step number assigned, and inputs numbered and not yet consumed (R309, R314) -/
  lastNumber : Nat
  /-- value of the last TICK numbered or received, device time in ns at which it was issued or consumed, and whether LAG_HIGH stands (R313, R345) -/
  tickUs : Nat
  tickNs : Nat
  lagHigh : Bool
  inputs : List InputRec
  /-- serial of this side's observations, and observations forwarded and not yet returned (R312, R336) -/
  origin : Nat
  forwarded : List InputRec
  /-- digests of this controller and of the partner that wait to be compared (R332) -/
  ownDigests : List (Nat × Nat)
  peerDigests : List (Nat × Nat)
  /-- device times of divergences (R332) -/
  divergences : List Nat
  /-- STAGED notices received (R216) and commit points whose notice counts as arrived -/
  staged : List (Nat × Nat × Nat × Nat)
  /-- a resync as its source (R340): pass (0 none, 1 to 8 copying, 9 after the cut), the granules as they were last sent, the step number of the cut -/
  resyncPass : Nat
  resyncSent : List (Nat × Piece)
  resyncCut : Nat
  /-- as the joiner: a resync runs, and the cut step once it has been told -/
  joining : Bool
  joinCut : Option Nat
  /-- device time at which this controller became ready (R303) -/
  readyNs : Nat
  /-- F and D of the running takeover in device time (R337) -/
  failNs : Nat
  detectNs : Nat
  /-- step time of the last TICK from a failed controller plus 16 µs, and the device time until which READs are dropped (R339) -/
  ctlHoldUs : Nat
  readDropNs : Nat
  /-- a takeover runs; a handover has been asked for -/
  takeover : Bool
  handover : Bool
  /-- host output is held from detection to the end of a takeover (R336, R338) -/
  hostHeld : Bool
  /-- a leader serves both halves until a CUT with code 3 (R340) -/
  bothHalves : Bool
  /-- every host and drive output is stopped (R530, R307) -/
  stopped : Bool
  deriving DecidableEq, Repr

/-- A unit: what it is, the length charged (R374), and whether its IP ECN field allows a mark and whether it bears one (R381), and whether it is sent with a stomped FCS (R363). -/
structure TcUnit where
  item : TcItem
  len : Nat
  ect : Bool
  ce : Bool
  stomp : Bool
  deriving DecidableEq, Repr

/-- A point of control, key 0 to 31 a logical port, 32 + n drive port n: class queues; of R385 the active list, deficits, the classes still to be visited in the
present round, the class being served and the round counter; shaper credits in bits, each with the device time in ns it stands at (R387, R388); the device time until which a frame
is on the wire; and, for a drive, the forming doorbell batch and whether a class 7 command waits under R386. -/
structure TcPoint where
  queues : List (Nat × List TcUnit)
  active : List Nat
  deficit : List (Nat × Nat)
  visit : List Nat
  cur : Option Nat
  round : Nat
  credit : List (Nat × (Rat × Rat))
  busyNs : Rat
  batch : List Nat
  held7 : Bool
  deriving DecidableEq, Repr

/-- A meter's token counts in bytes and the device time they stand at (R380). -/
structure MeterSt where
  tp : Rat
  tc : Rat
  lastNs : Nat
  deriving DecidableEq, Repr

/-- A gate list as a logical port runs it (R389 to R393): list number, base time in ns, entries (duration, gates). -/
structure GateList where
  num : Nat
  base : Nat
  entries : List (Nat × Nat)
  deriving DecidableEq, Repr

/-- A logical port's gates (R389 to R393): the list it runs, the entry in force and the PTP time in ns at which it began; the change that waits for the end of the cycle (none, a
list, or a removal); and, once the old cycle has ended, the PTP time at which the new list starts, every gate being open until then. -/
structure GateSt where
  run : Option GateList
  entry : Nat
  sinceNs : Int
  change : Option (Option GateList)
  startNs : Option Int
  deriving DecidableEq, Repr

/-- Traffic control (11_traffic_control.md). -/
structure Tc where
  points : List (Nat × TcPoint)
  meters : List (Nat × MeterSt)
  gates : List (Nat × GateSt)
  /-- serial of the device's own packets in egress -/
  ownCtr : Nat
  deriving DecidableEq, Repr

/-- Obeyed pause of a class on a logical port (R354 to R357): device time until which the present pause stops it and since when, the spans of earlier pauses, and the device time of a
watchdog trip. -/
structure PauseSt where
  untilNs : Nat
  sinceNs : Nat
  spans : List (Nat × Nat)
  trippedNs : Option Nat
  deriving DecidableEq, Repr

/-- A logical port's pauses by class, and the classes for which PFC is being sent with the device time of the last frame (R358). -/
structure LportSt where
  pause : List (Nat × PauseSt)
  xoff : List (Nat × Nat)
  deriving DecidableEq, Repr

/-- PTP time (R368): its value in ns at a device time, the rate adjustment in 2^−10 ppb, and adjustments that wait: device time at which they take effect, offset in ns or rate. -/
structure Ptp where
  base : Rat
  atNs : Nat
  rate : Int
  waiting : List (Nat × Option Int × Option Int)
  deriving DecidableEq, Repr

/-- Host ports (10_ports_landing.md): logical ports, transmit timestamps by port (PTP time, logical port q, sequenceId), PTP time, and the Yard buffers that copies of received frames hold, by the
serial of the observation. -/
structure Hp where
  lports : List (Nat × LportSt)
  fifo : List (Nat × List (Nat × Nat × Nat))
  ptp : Ptp
  /-- PTP second of the last rise of PTP_1PPS_OUT, plus 1 -/
  ppsSec : Nat
  frames : List (Nat × List Nat)
  deriving DecidableEq, Repr

/-- An I/O queue pair of a drive port (R401, R402): submission tail and completion head, commands at the drive, completion entries consumed and not
reported by a head doorbell, and the device time of the oldest of these. -/
structure DrvQueue where
  sqTail : Nat
  cqHead : Nat
  used : Nat
  unreported : Nat
  oldestNs : Nat
  deriving DecidableEq, Repr

def drvQueue0 : DrvQueue := ⟨0, 0, 0, 0, 0⟩

/-- One drive port (12_drive_ports.md); its state, rate, width, reason and counts are in the register file. -/
structure DrvPort where
  /-- last bring-up step of R404 completed, and retrains done in step 2 -/
  step : Nat
  retrains : Nat
  /-- device time at which the present step began -/
  sinceNs : Nat
  /-- PERST_N is deasserted -/
  released : Bool
  /-- device time of the present containment, and step times of containments and of command timeouts (R409, R411) -/
  containNs : Nat
  contains : List Nat
  timeouts : List Nat
  /-- the drive is in DRIVE_PS (R538), or has been shut down (R540) -/
  lowPower : Bool
  shutDown : Bool
  /-- this side's port and the partner's port to the drive are READY, as step state (R412, R413) -/
  ownReady : Bool
  partnerReady : Bool
  /-- group and member index by the Brand read (R414 BRAND), when one names this shelf; the drive's own Brand as this controller read it (R256) -/
  member : Option (Nat × Nat)
  brand : Option Brand
  /-- what bring-up found of that Brand's PLACEMENT_HASH and Lost Stripe Table (R256) -/
  hashOk : Bool
  lstOk : Bool
  facts : Option DriveFacts
  nguid : Nat
  /-- polls of the sideband unanswered in a row, and device times of the last sideband and SMART polls (R415, R417) -/
  sbMissed : Nat
  lastSbNs : Nat
  lastSmartNs : Nat
  /-- I/O queues 1 and 2 (R401) -/
  q1 : DrvQueue
  q2 : DrvQueue
  /-- admin commands outstanding: opcode and device time of issue (R415) -/
  admin : List (Nat × Nat)
  /-- no writes are issued to the drive: it refused the preempt of R335 -/
  noWrites : Bool
  deriving DecidableEq, Repr

/-- A port that nothing has touched. -/
def drvPort0 : DrvPort :=
  { step := 0, retrains := 0, sinceNs := 0, released := false, containNs := 0, contains := [], timeouts := [],
    lowPower := false, shutDown := false, ownReady := false, partnerReady := false, member := none, brand := none, hashOk := true, lstOk := true,
    facts := none, nguid := 0, sbMissed := 0, lastSbNs := 0, lastSmartNs := 0, q1 := drvQueue0, q2 := drvQueue0, admin := [],
    noWrites := false }

/-- The drive ports. -/
structure Drv where
  ports : List (Nat × DrvPort)
  cmds : List DrvCmd
  cidCtr : Nat
  deriving DecidableEq, Repr

/-- One path of a slot (13_slot_power.md): channel state with its codes (R435), cause of a latch, the fault timer in tenths of a µs with the device time it stands at, whether the limit
loop is engaged and whether the gate is enhanced; supply within the window and since when; since when the gate command is on; since when the 50 µs of R432 run; whether the start follows the release of a hold (R425); whether the
first power-good since the path left its off states has come (R434); the
debounced presence here; presence by the latest SLOT input of each side (R423); and the latest measurements. -/
structure SlotPath where
  st : Nat
  cause : Nat
  timer10 : Nat
  timerNs : Nat
  engaged : Bool
  supplyOk : Bool
  supplyNs : Nat
  cmdNs : Nat
  goodNs : Nat
  released : Bool
  begun : Bool
  present : Bool
  presentA : Bool
  presentB : Bool
  currentMa : Nat
  voutMv : Nat
  supplyMv : Nat
  deriving DecidableEq, Repr

/-- A path after power-on. -/
def slotPath0 : SlotPath :=
  { st := 0, cause := 0, timer10 := 0, timerNs := 0, engaged := false, supplyOk := false, supplyNs := 0, cmdNs := 0, goodNs := 0, released := false, begun := false, present := false,
    presentA := false, presentB := false, currentMa := 0, voutMv := 0, supplyMv := 0 }

/-- Slot power: the paths, and whether a power state holds slot power off (R437). -/
structure Slots where
  paths : List (Nat × SlotPath)
  hold : Bool
  deriving DecidableEq, Repr

/-- A record of the ECC log (R487). -/
structure EccRec where
  time : Nat
  addr : Nat
  memory : Nat
  kind : Nat
  source : Nat
  syndrome : Nat
  bit : Nat
  island : Nat
  count : Nat
  deriving DecidableEq, Repr

/-- The Locksmith's running job (R494): its descriptor, whether it waits for a nonce ceiling (R499), and the counter value of its nonce. -/
structure LsmRun where
  desc : LsmDesc
  waits : Bool
  nonce : Option Nat
  deriving DecidableEq, Repr

/-- Memory integrity and the Locksmith (16_memory_integrity.md); the Cruiser's position, results and counts are in the register file. -/
structure Mi where
  /-- the ECC log, oldest record first, and the index of its oldest record is MEM_LOG_STATUS.HEAD (R487) -/
  log : List EccRec
  /-- errors that an injection has left in words of memory: word address, 1 single or 2 double (R493) -/
  marks : List (Nat × Nat)
  /-- the armed injection: kind and word address (MEM_INJECT) -/
  inject : Option (Nat × Nat)
  /-- device times of corrected errors of the last 24 h, by page (PAGE_WEAK) -/
  weak : List (Nat × List Nat)
  /-- the retirement that runs, and the units redirected to spare space (R488) -/
  retiring : Option RetEntry
  applied : List RetEntry
  /-- the granules that the leader waits for (R486) -/
  repair : List Nat
  /-- requests of the leader that wait until their step has been consumed: granule, step -/
  repairWaits : List (Nat × Nat)
  job : Option LsmRun
  /-- the nonce counter has taken the stored ceiling since the last reset, and the ceiling of a running commit (R499) -/
  nonceTaken : Bool
  raising : Option Nat
  deriving DecidableEq, Repr

def mi0 : Mi :=
  { log := [], marks := [], inject := none, weak := [], retiring := none, applied := [], repair := [], repairWaits := [], job := none, nonceTaken := false,
    raising := none }

/-- Power and reset (18_power_reset_boot.md); PWR_STATE and RST_CAUSE are in the register file. -/
structure Pwr where
  /-- device time at which the present wake began (R542) -/
  wakeNs : Option Nat
  /-- a wake source arrived after the point of no return and before Fallow was reached (R541) -/
  wakeWanted : Bool
  /-- host traffic is answered under R542: from the point of no return of Fallow entry until namespaces serve again -/
  hostBusy : Bool
  /-- device time from which the boot watchdog and PWR_BOOT_TIME run, and whether the boot watchdog still runs (R532) -/
  bootNs : Nat
  bootWdog : Bool
  /-- device time of the last write of PWR_WDOG (R532) -/
  kickNs : Nat
  /-- device time of the fatal event, and whether its dump still runs (R530) -/
  fatalNs : Option Nat
  /-- an orderly warm reset asked for and not yet in effect: the bits of RST_CAUSE it will set (R527, R528) -/
  warm : Option Nat
  /-- the reset whose start-up sequence runs: 0 none, 1 warm, 2 cold, 3 power-on (R527) -/
  resetting : Nat
  /-- the message counter of the always-on island was lost and has not been restored (R143) -/
  ctrLost : Bool
  /-- last completed step of a running Drowse or Fallow entry -/
  entryStep : Nat
  /-- step time of the last host command and of the entry into Drowse (R537) -/
  lastHostUs : Nat
  drowseUs : Nat
  /-- the counter value recorded by the dump of step 2 of R540 -/
  fallowCtr : Nat
  /-- HOLDUP_OK as recognised on this controller and on the partner, in step state (R525) -/
  holdupLow : Bool
  partnerHoldupLow : Bool
  /-- PWRFAIL_N recognised as asserted on this controller and on the partner, in step state (R524) -/
  pwrfail : Bool
  partnerPwrfail : Bool
  deriving DecidableEq, Repr

/-- A firmware slot of the boot flash (R549, R553): the image bytes programmed and the words of the status sector, BOOTS as its three bits; and the code of the last check
under R552. -/
structure FwSlot where
  image : List Byte
  magic : Bool
  actSeq : Option Nat
  window : Nat
  mode : Nat
  boots : Nat
  confirmed : Bool
  rejected : Bool
  cause : Nat
  verify : Nat
  deriving DecidableEq, Repr

/-- An erased slot. -/
def fwSlot0 : FwSlot := ⟨[], false, none, 0, 0, 7, false, false, 0, 0⟩

/-- Firmware update (chapter 19); the running slot, the trial flag and the phase are in the register file. -/
structure FwSt where
  slotA : FwSlot
  slotB : FwSlot
  /-- open delivery: declared length and bytes so far (R555, R556) -/
  delivery : Option (Nat × Nat)
  /-- device time at which the trial started, whether a fatal event or watchdog expiry has come since, the groups that served before the activation, and
  whether the partner was in step then (R561) -/
  trialNs : Nat
  trialBad : Bool
  served : List Nat
  pairBefore : Bool
  /-- clusters of a live activation still to switch, in order, and the slot it switches to (R559) -/
  switching : List Nat
  switchSlotB : Bool
  /-- the part of R560 that this controller plays, with the codes of FWU_STATUS.PHASE, kept over its warm reset -/
  phase : Nat
  /-- the migration of R565 failed -/
  migrateFailed : Bool
  /-- formats of the partner in step: STEP_FORMAT and MIN_STEP_FORMAT (R558) -/
  partnerFormats : Option (Nat × Nat)
  deriving DecidableEq, Repr

/-! ## Parts in which nothing has happened -/

/-- An epoch slot without a key. -/
def epoch0 : EpochKey := ⟨0, .empty, 0⟩

/-- What is in force when no bank is a candidate (R71, R144). -/
def settings0 : Settings := ⟨none, [epoch0, epoch0], List.replicate 16 (0, 0), 0, [], 0, []⟩

/-- Erased flash. -/
def bank0 : Bank := ⟨false, 0, 0, false, settings0⟩

def svc0 : Svc := { aer := 0, msixEnable := false, funcMask := false, unmasked := [], freezeBit := none }

def eng0 : Eng := { kvq := [], waits := [], ready := [], chans := [], smpLeft := [], saved := [] }

def led0 : Ledger := { slots := [], keys := [], shared := [], bad := [] }

def pat0 : PatSt :=
  { banks := [bank0, bank0], settings := settings0, live := [], cold := [], delivery := none, run := none, waiting := [], pendingLive := [], factoryFailed := false }

def flm0 : Flm :=
  { slots := [], rmt := [], msgs := [], ghosts := [], msgCtr := 0, cookieCtr := 0, orderCtr := 0, windows := [], winPending := none, filter := [], rdTags := [], wqs := [],
    epochs := [epoch0, epoch0], epochNext := none, switchUs := 0, blocked := [] }

def fx0 : FlmAux := { flows := [], cacheWait := [], ctlLast := [], ctlQueue := [], chain := [], addrTable := [], reports := [], expired := [] }

def wsw0 : Wsw :=
  { digest := 0, foldX := 0, foldAny := false, foldStep := 0, txSeq := 0, ackSeq := 0, heldOut := [], rxSeq := 0, sent := [], replays := 0, lastSentNs := 0, lastHbTxNs := 0, lastHbRxNs := 0,
    lastNumber := 0, tickUs := 0, tickNs := 0, lagHigh := false, inputs := [], origin := 0, forwarded := [], ownDigests := [], peerDigests := [], divergences := [], staged := [],
    resyncPass := 0, resyncSent := [], resyncCut := 0, joining := false, joinCut := none, readyNs := 0, failNs := 0, detectNs := 0, ctlHoldUs := 0, readDropNs := 0, takeover := false,
    handover := false, hostHeld := false, bothHalves := false, stopped := false }

def drv0 : Drv := { ports := [], cmds := [], cidCtr := 0 }

def nvm0 : Nvm :=
  { ctrls := [], queues := [], tcp := [], cmds := [], cmdCtr := 0, waiting := [], resv := [], lostGen := 0, takeovers := 0, lastTakeover := 0, divergences := 0, resyncs := 0 }

def cht0 : Cht := { dir := [], ext := [], staging := [], tags := [], bufs := [], waits := [], superseded := [], dirtyHigh := false, limited := false }

def tly0 : Tly :=
  { entries := [], waits := [], entryCtr := 0, rebuilds := [], dump := none, recovered := none, stopped := false, migs := [], migsIn := [], lostSegs := [] }

def tc0 : Tc := { points := [], meters := [], gates := [], ownCtr := 0 }

def ptp0 : Ptp := { base := 0, atNs := 0, rate := 0, waiting := [] }

def hp0 : Hp := { lports := [], fifo := [], ptp := ptp0, ppsSec := 0, frames := [] }

/-- Slot power is off and held until start-up releases it (R533 step 9). -/
def slots0 : Slots := { paths := [], hold := true }

/-- After power-on: start-up runs, and HOLDUP_OK has not been seen high (R525, R527). -/
def pwr0 : Pwr :=
  { wakeNs := none, wakeWanted := false, hostBusy := false, bootNs := 0, bootWdog := false, kickNs := 0, fatalNs := none, warm := none, resetting := 3, ctrLost := true, entryStep := 0,
    lastHostUs := 0, drowseUs := 0, fallowCtr := 0, holdupLow := true, partnerHoldupLow := false, pwrfail := false, partnerPwrfail := false }

def fw0 : FwSt :=
  { slotA := fwSlot0, slotB := fwSlot0, delivery := none, trialNs := 0, trialBad := false, served := [], pairBefore := false, switching := [], switchSlotB := false,
    phase := 0, migrateFailed := false, partnerFormats := none }

def dev0 : Dev :=
  { timeNs := 0, stepNo := 0, stepUs := 0, curStep := 0, gated := [], faulted := [], strapSide := 0, strapRecovery := 0, lastRaise := [], pendEvt := [],
    ownerKeys := List.replicate 4 (none, false), fuseMac := 0, fuseLsmId := 0, fuseIdentity := List.replicate 97 0, fuseSecurity := 0, fuseMv := 0 }

end Sys2Proof.Machine
end

