-- ==== Sys2Proof/Syntax.lean ====
section
/-!
DEFINITION. Syntax.lean: the commands of the block, one constructor for each row of spec/opcode_table.json, in the
table's order of chapters. A command is an event at the block's boundary or inside it: what arrives, what falls due, what
software writes. Its operands are what arrives with it, and the verdicts of the cryptographic checks, which
the model does not compute (log entry 3).
-/
namespace Sys2Proof

open Machine

/-- One step of the block (opcode_table.json). -/
inductive Instr where
  /-- REGISTER_WRITE (R14) -/
  | registerWrite (src : Src) (off size value : Nat)
  /-- RC_COUNTER_READ (R14) -/
  | rcCounterRead (src : Src) (off size : Nat)
  /-- ACCESS_TIMEOUT (R30) -/
  | accessTimeout (src : Src) (off : Nat) (read : Option Nat)
  /-- CLOCK_LOCK_LOSS (R28) -/
  | clockLockLoss (island : Nat)
  /-- STORE_COMMIT_DONE (R72) -/
  | storeCommitDone (rb : ReadBack)
  /-- STORE_COMMIT_COALESCED (R73) -/
  | storeCommitCoalesced
  /-- LIVE_RECORDS_EFFECT (R62) -/
  | liveRecordsEffect
  /-- SEND_PACKET_RX (R97) -/
  | sendPacketRx (dg : Datagram) (place : Option (List (Nat × Nat)))
  /-- WRITE_PACKET_RX (R121) -/
  | writePacketRx (dg : Datagram) (place : Option (List (Nat × Nat)))
  /-- READ_RX (R124) -/
  | readRx (dg : Datagram) (spans : List (Option (List (Nat × Nat))))
  /-- READ_RESP_RX (R129) -/
  | readRespRx (dg : Datagram) (place : Option (List (Nat × Nat)))
  /-- ACK_RX (R107) -/
  | ackRx (dg : Datagram)
  /-- NACK_RX (R93) -/
  | nackRx (dg : Datagram)
  /-- BUSY_RX (R94) -/
  | busyRx (dg : Datagram)
  /-- PROBE_RX (R106) -/
  | probeRx (dg : Datagram)
  /-- SLOT_EXPIRY (R98) -/
  | slotExpiry (peer msgId : Nat)
  /-- TABLE_ENTRY_EXPIRY (R105) -/
  | tableEntryExpiry (peer msgId : Nat)
  /-- ACK_DELAY_EXPIRY (R106) -/
  | ackDelayExpiry (peer msgId : Nat)
  /-- RETRANSMIT_TIMER_EXPIRY (R109) -/
  | retransmitTimerExpiry (msg pkt : Nat)
  /-- BUSY_HOLD_EXPIRY (R107) -/
  | busyHoldExpiry (msg : Nat)
  /-- MESSAGE_DEADLINE (R110) -/
  | messageDeadline (msg : Nat)
  /-- PROBE_INTERVAL (R113) -/
  | probeInterval (peer path : Nat)
  /-- PROBE_UNANSWERED (R113) -/
  | probeUnanswered (msg : Nat)
  /-- FLM_WIN_COMMIT (R125) -/
  | flmWinCommit (src : Src) (index gen : Nat) (staged : Bool) (shadow : WinHalf)
  /-- WINDOW_COMMIT_APPLY (R125) -/
  | windowCommitApply
  /-- READ_FILTER_EXPIRY (R124) -/
  | readFilterExpiry (peer msgId : Nat)
  /-- WQ_OPEN (R130) -/
  | wqOpen (src : Src) (wq : Nat) (ctx : WqCtx)
  /-- WQ_CLOSE (R130) -/
  | wqClose (src : Src) (wq : Nat)
  /-- WQ_RESET (R130) -/
  | wqReset (src : Src) (wq : Nat)
  /-- WQ_DOORBELL (R132) -/
  | wqDoorbell (src : Src) (wq tail cqHead : Nat)
  /-- RQ_DOORBELL (R130) -/
  | rqDoorbell (src : Src) (wq tail cqHead : Nat) (bufs : List RxBuf)
  /-- DESC_SEND (R131) -/
  | descSend (wq : Nat) (d : SendDesc) (ip : IpAddr) (spans : List (Nat × Nat)) (rest : List SendDesc)
  /-- DESC_WRITE (R131) -/
  | descWrite (wq : Nat) (d : SendDesc) (ip : IpAddr) (spans : List (Nat × Nat)) (rest : List SendDesc)
  /-- DESC_READ (R131) -/
  | descRead (wq : Nat) (d : SendDesc) (ip : IpAddr) (rest : List SendDesc)
  /-- DESC_WAIT (R134) -/
  | descWait (wq : Nat) (d : SendDesc) (rest : List SendDesc)
  /-- DESC_NOP (R134) -/
  | descNop (wq : Nat) (d : SendDesc) (rest : List SendDesc)
  /-- WAIT_SATISFIED (R134) -/
  | waitSatisfied (wq : Nat) (rest : List SendDesc)
  /-- FENCE_LIMIT_RELEASE (R132) -/
  | fenceLimitRelease (wq : Nat) (ip : IpAddr) (spans : List (Nat × Nat))
  /-- READ_TAG_FREE (R129) -/
  | readTagFree (wq : Nat) (ip : IpAddr)
  /-- FLOW_CACHE_ADMIT (R145) -/
  | flowCacheAdmit (peer : Nat)
  /-- WQ_FAULT_RESOLVED (R136) -/
  | wqFaultResolved (wq : Nat) (spans : List (Nat × Nat))
  /-- CHAIN_COUNTER_WRITE (R591) -/
  | chainCounterWrite (src : Src) (index value : Nat) (fault : Bool)
  /-- ADDRESS_TABLE_WRITE (R591) -/
  | addressTableWrite (src : Src) (entry : Nat) (addr : Option IpAddr)
  /-- EPOCH_TRANSITION (R142) -/
  | epochTransition
  /-- CONNECT (R158) -/
  | connect (frm : ConnFrom) (cap : Capsule)
  /-- PROPERTY_GET (R166) -/
  | propertyGet (queue : Nat) (cap : Capsule)
  /-- PROPERTY_SET (R166) -/
  | propertySet (queue : Nat) (cap : Capsule)
  /-- DISCONNECT (R166) -/
  | disconnect (queue : Nat) (cap : Capsule)
  /-- AUTH_SEND (R194) -/
  | authSend (queue : Nat) (cap : Capsule) (m : AuthMsg)
  /-- AUTH_RECEIVE (R194) -/
  | authReceive (queue : Nat) (cap : Capsule) (m : AuthMsg)
  /-- IDENTIFY (R170) -/
  | identify (queue : Nat) (cap : Capsule)
  /-- GET_LOG_PAGE (R189) -/
  | getLogPage (queue : Nat) (cap : Capsule)
  /-- ABORT (R187) -/
  | abort (queue : Nat) (cap : Capsule)
  /-- SET_FEATURES (R166) -/
  | setFeatures (queue : Nat) (cap : Capsule)
  /-- GET_FEATURES (R166) -/
  | getFeatures (queue : Nat) (cap : Capsule)
  /-- ASYNC_EVENT_REQUEST (R166) -/
  | asyncEventRequest (queue : Nat) (cap : Capsule)
  /-- KEEP_ALIVE (R185) -/
  | keepAlive (queue : Nat) (cap : Capsule)
  /-- FIRMWARE_IMAGE_DOWNLOAD (R556) -/
  | firmwareImageDownload (queue : Nat) (cap : Capsule)
  /-- FW_COMMIT_VERIFY (R556) -/
  | fwCommitVerify (queue : Nat) (cap : Capsule) (chk : FwChecks)
  /-- FW_COMMIT_NEXT_RESET (R556) -/
  | fwCommitNextReset (queue : Nat) (cap : Capsule) (chk : FwChecks)
  /-- FW_COMMIT_SLOT (R556) -/
  | fwCommitSlot (queue : Nat) (cap : Capsule)
  /-- FW_COMMIT_NOW (R556) -/
  | fwCommitNow (queue : Nat) (cap : Capsule) (chk : FwChecks) (partnerHolds : Bool)
  /-- FLUSH (R168) -/
  | flush (queue : Nat) (cap : Capsule)
  /-- NVME_READ (R176) -/
  | nvmeRead (queue : Nat) (cap : Capsule)
  /-- VERIFY (R168) -/
  | verify (queue : Nat) (cap : Capsule)
  /-- COMPARE (R168) -/
  | compare (queue : Nat) (cap : Capsule)
  /-- NVME_WRITE (R174) -/
  | nvmeWrite (queue : Nat) (cap : Capsule)
  /-- WRITE_ZEROES (R168) -/
  | writeZeroes (queue : Nat) (cap : Capsule)
  /-- DATASET_MANAGEMENT (R168) -/
  | datasetManagement (queue : Nat) (cap : Capsule)
  /-- RESERVATION_REGISTER (R182) -/
  | reservationRegister (queue : Nat) (cap : Capsule)
  /-- RESERVATION_REPORT (R182) -/
  | reservationReport (queue : Nat) (cap : Capsule)
  /-- RESERVATION_ACQUIRE (R184) -/
  | reservationAcquire (queue : Nat) (cap : Capsule)
  /-- RESERVATION_RELEASE (R182) -/
  | reservationRelease (queue : Nat) (cap : Capsule)
  /-- RUNT_CAPSULE (R161) -/
  | runtCapsule (queue : Nat)
  /-- KATO_EXPIRY (R185) -/
  | katoExpiry (ctrl : Nat)
  /-- HELD_WRITE_RESUME (R33) -/
  | heldWriteResume (cmd : Nat)
  /-- WRITE_HELD_ALERT (R181) -/
  | writeHeldAlert (cmd : Nat)
  /-- WRITE_HELD_TIMEOUT (R181) -/
  | writeHeldTimeout (cmd : Nat)
  /-- CMD_LIMIT_EXPIRY (R186) -/
  | cmdLimitExpiry (cmd : Nat)
  /-- TCP_SYN (R165) -/
  | tcpSyn (conn : TcpConn)
  /-- TCP_PDU_RX (R165) -/
  | tcpPduRx (conn : Nat) (pdu : TcpPdu) (hdOk ddOk : Bool)
  /-- CHUTE_ADMIT (R198) -/
  | chuteAdmit (m : AuthMsg) (chk : FwChecks) (partnerHolds : Bool)
  /-- MAP_INVAL (R204) -/
  | mapInval (src : Src) (map extent : Nat) (ent : ExtEnt)
  /-- MAP_INVAL_DONE (R204) -/
  | mapInvalDone
  /-- APERTURE_WRITE (R213) -/
  | apertureWrite (port addr : Nat) (bytes : List Byte)
  /-- APERTURE_READ (R212) -/
  | apertureRead (port addr len : Nat)
  /-- TAG_HOLD_EXPIRY (R214) -/
  | tagHoldExpiry (tag : Nat)
  /-- WRITE_COMMIT_POINT (R215) -/
  | writeCommitPoint (cmd : Nat)
  /-- DESTAGE_START (R219) -/
  | destageStart (group stripe : Nat) (reads : List ColRead)
  /-- YARD_BUFFER_GRANT (R210) -/
  | yardBufferGrant (cid : Nat)
  /-- BRAND_UPDATE_DONE (R252) -/
  | brandUpdateDone (group : Nat)
  /-- MAP_COMMIT_DONE (R250) -/
  | mapCommitDone (group : Nat) (allocs : List (Nat × Nat × ExtEnt))
  /-- TALLY_ENTRY_FREE (R264) -/
  | tallyEntryFree (group stripe : Nat) (reads : List ColRead)
  /-- DUMP_WRITE_WAIT_EXPIRY (R275) -/
  | dumpWriteWaitExpiry
  /-- DUMP_COMPLETE (R275) -/
  | dumpComplete
  /-- PWRFAIL_ASSERT (R275) -/
  | pwrfailAssert (headerBegun : Bool)
  /-- PWRFAIL_DEASSERT (R279) -/
  | pwrfailDeassert
  /-- RECOVERY (R281) -/
  | recovery (found : Option FoundDump) (maps : List (Nat × Nat)) (exts : List (Nat × Nat × ExtEnt))
  /-- DUMP_RETIRE_RECOVERED (R281) -/
  | dumpRetireRecovered
  /-- SWEEP_STRIPE (R283) -/
  | sweepStripe (group stripe : Nat) (reads : List ColRead)
  /-- SKIDDER_STRIPE (R285) -/
  | skidderStripe (group member : Nat) (reads : List ColRead)
  /-- PATROL_STRIPE (R295) -/
  | patrolStripe (group : Nat) (reads : List ColRead)
  /-- PATROL_LATE (R296) -/
  | patrolLate (group : Nat)
  /-- SKD_PAUSE (R288) -/
  | skdPause (src : Src) (on : Bool)
  /-- MIG_GRANULE_SEND (R297) -/
  | migGranuleSend (slot : Nat) (blocks : List (Option (List Byte × Nat)))
  /-- MIG_GRANULE_RX (R298) -/
  | migGranuleRx (peer msgId sub nsid : Nat) (g : Granule)
  /-- MIG_DONE (R299) -/
  | migDone (slot : Nat)
  /-- ROLE_SELECT (R303) -/
  | roleSelect (wave : ActiveIn)
  /-- FAULT_NOTICE (R306) -/
  | faultNotice (wave : ActiveIn)
  /-- PAIR_ACTIVE_IN_LOSS (R306) -/
  | pairActiveInLoss (dead : Bool)
  /-- TICK_ISSUE (R313) -/
  | tickIssue
  /-- CONSUME_HOST_FRAME (R311) -/
  | consumeHostFrame (n : Nat)
  /-- CONSUME_DRIVE_CQE (R310) -/
  | consumeDriveCqe (n : Nat) (remote : List Blk)
  /-- CONSUME_DRIVE_EVENT (R414) -/
  | consumeDriveEvent (n : Nat)
  /-- CONSUME_TICK (R313) -/
  | consumeTick (n : Nat)
  /-- CONSUME_MGMT (R310) -/
  | consumeMgmt (n : Nat)
  /-- CONSUME_SLOT (R423) -/
  | consumeSlot (n : Nat)
  /-- CONSUME_RETX (R321) -/
  | consumeRetx (n : Nat)
  /-- CONSUME_CUT (R310) -/
  | consumeCut (n : Nat)
  /-- FORWARD_RX (R312) -/
  | forwardRx (fr : LinkFrame)
  /-- LINK_IDLE_SEND (R327) -/
  | linkIdleSend
  /-- HELLO_RX (R329) -/
  | helloRx (fr : LinkFrame) (h : Hello) (sameFactory : Bool)
  /-- HEARTBEAT_SEND (R333) -/
  | heartbeatSend
  /-- HEARTBEAT_RX (R333) -/
  | heartbeatRx (fr : LinkFrame)
  /-- INPUT_RX (R315) -/
  | inputRx (fr : LinkFrame)
  /-- STAGED_RX (R216) -/
  | stagedRx (fr : LinkFrame)
  /-- DIGEST_RX (R332) -/
  | digestRx (fr : LinkFrame)
  /-- SNAPSHOT_RX (R340) -/
  | snapshotRx (fr : LinkFrame)
  /-- RESYNC_FRAME_RX (R340) -/
  | resyncFrameRx (fr : LinkFrame)
  /-- LINK_NAK_RX (R328) -/
  | linkNakRx (fr : LinkFrame)
  /-- LINK_FAILURE (R328) -/
  | linkFailure (lockLost : Bool)
  /-- HEARTBEAT_TIMEOUT (R334) -/
  | heartbeatTimeout (wave : ActiveIn)
  /-- RESYNC_PASS_DONE (R340) -/
  | resyncPassDone (dirtyBytes : Nat)
  /-- RESYNC_CUT (R340) -/
  | resyncCut
  /-- JOINER_IN_STEP (R340) -/
  | joinerInStep
  /-- WSW_HANDOVER (R343) -/
  | wswHandover (src : Src)
  /-- WSW_DETACH (R334) -/
  | wswDetach (src : Src)
  /-- WSW_RESYNC (R340) -/
  | wswResync (src : Src)
  /-- HOST_FRAME_RX (R350) -/
  | hostFrameRx (lport : Nat) (frame : List Byte) (ending : FrameEnd) (linkRefuses : Bool)
  /-- HOST_LINK_UP (R349) -/
  | hostLinkUp (lport : Nat)
  /-- HOST_LINK_DOWN (R349) -/
  | hostLinkDown (lport : Nat)
  /-- PAUSE_FRAME_RX (R354) -/
  | pauseFrameRx (lport : Nat) (pfc : Bool) (enable : Nat) (quanta : List Nat) (fcsOk : Bool)
  /-- PAUSE_EXPIRY (R356) -/
  | pauseExpiry (lport cls : Nat)
  /-- PAUSE_WATCHDOG_TRIP (R357) -/
  | pauseWatchdogTrip (lport cls : Nat)
  /-- PAUSE_WATCHDOG_CLEAR (R357) -/
  | pauseWatchdogClear (lport cls : Nat)
  /-- PFC_REPEAT (R358) -/
  | pfcRepeat (lport cls : Nat)
  /-- PTP_ADJ_OFS_WRITE (R368) -/
  | ptpAdjOfsWrite (src : Src) (whole : Bool) (value : Nat)
  /-- PTP_ADJ_RATE_WRITE (R368) -/
  | ptpAdjRateWrite (src : Src) (value : Nat)
  /-- PTP_ADJ_APPLY (R368) -/
  | ptpAdjApply
  /-- PTP_TX_ID_READ (R369) -/
  | ptpTxIdRead (src : Src) (port : Nat)
  /-- PPS_OUT_EDGE (R371) -/
  | ppsOutEdge
  /-- PPS_IN_EDGE (R371) -/
  | ppsInEdge
  /-- EGRESS_SERVICE (R384) -/
  | egressService (point : Nat) (frames : List EngFrame)
  /-- BATCH_COMMIT (R386) -/
  | batchCommit (port : Nat)
  /-- GATE_ENTRY_CHANGE (R390) -/
  | gateEntryChange (lport : Nat)
  /-- GATE_LIST_START (R393) -/
  | gateListStart (lport : Nat)
  /-- DRIVE_PERST_RELEASE (R404) -/
  | drivePerstRelease (port : Nat)
  /-- DRIVE_LINK_TRAINED (R398) -/
  | driveLinkTrained (port rate width : Nat) (flit : Bool)
  /-- DRIVE_CONFIG_DONE (R404) -/
  | driveConfigDone (port : Nat)
  /-- DRIVE_CONTROLLER_READY (R404) -/
  | driveControllerReady (port : Nat) (failed : Bool)
  /-- DRIVE_CHECKS_DONE (R405) -/
  | driveChecksDone (port : Nat) (facts : DriveFacts) (adminFailed : Bool)
  /-- DRIVE_BRAND_READ (R404) -/
  | driveBrandRead (port : Nat) (read : BrandRead)
  /-- DRIVE_READY (R404) -/
  | driveReady (port : Nat) (adminFailed : Bool)
  /-- DRIVE_BRINGUP_TIMEOUT (R404) -/
  | driveBringupTimeout (port capTo : Nat)
  /-- SURPRISE_DOWN (R407) -/
  | surpriseDown (port : Nat) (present : Bool)
  /-- DRIVE_PORT_ERROR (R408) -/
  | drivePortError (port : Nat) (err : Option Nat) (hdr : List Nat)
  /-- CONTAINMENT_AUTO_RELEASE (R409) -/
  | containmentAutoRelease (port : Nat)
  /-- DP_RELEASE (R409) -/
  | dpRelease (src : Src) (port : Nat)
  /-- DP_RESET (R404) -/
  | dpReset (src : Src) (port : Nat)
  /-- INBOUND_REQUEST (R403) -/
  | inboundRequest (port : Nat) (req : InReq) (poisoned : Bool) (hdr : List Nat)
  /-- CPL_TIMEOUT (R410) -/
  | cplTimeout (port : Nat) (hdr : List Nat)
  /-- UNEXPECTED_COMPLETION (R410) -/
  | unexpectedCompletion (port : Nat) (hdr : List Nat)
  /-- DRIVE_CQE_RX (R402) -/
  | driveCqeRx (port : Nat) (cqe : DrvCqe)
  /-- CQ_DOORBELL_TIMER (R402) -/
  | cqDoorbellTimer (port queue : Nat)
  /-- DRIVE_CMD_TIMEOUT (R411) -/
  | driveCmdTimeout (cid : Nat)
  /-- ADMIN_CMD_TIMEOUT (R415) -/
  | adminCmdTimeout (port : Nat)
  /-- MEMBER_UNREACHABLE_TIMEOUT (R413) -/
  | memberUnreachableTimeout (group member : Nat)
  /-- SIDEBAND_POLL (R417) -/
  | sidebandPoll (port : Nat) (answer : Option (Nat × Nat × Nat))
  /-- SMART_POLL (R415) -/
  | smartPoll (port : Nat) (answer : Option (Nat × Nat × Nat))
  /-- PRESENCE_CONFIRMED (R424) -/
  | presenceConfirmed (slot : Nat) (present : Bool) (ma mv : Nat)
  /-- SUPPLY_WINDOW_CHANGE (R426) -/
  | supplyWindowChange (slot supply ma mv : Nat)
  /-- INSERT_DELAY_EXPIRY (R425) -/
  | insertDelayExpiry (slot ma mv : Nat)
  /-- RAMP_COMPLETE (R427) -/
  | rampComplete (slot ma mv : Nat)
  /-- LIMIT_ENGAGE (R428) -/
  | limitEngage (slot ma mv : Nat)
  /-- LIMIT_DISENGAGE (R433) -/
  | limitDisengage (slot ma mv : Nat)
  /-- FAULT_TIMER_TRIP (R428) -/
  | faultTimerTrip (slot ma mv : Nat)
  /-- FAST_TRIP (R429) -/
  | fastTrip (slot ma mv : Nat)
  /-- POWER_GOOD_QUALIFIED (R432) -/
  | powerGoodQualified (slot ma mv : Nat)
  /-- SLOT_ENABLE_WRITE (R430) -/
  | slotEnableWrite (src : Src) (slot : Nat) (on : Bool)
  /-- SVC_LINK_CHANGE (R441) -/
  | svcLinkChange (speed width : Nat)
  /-- SVC_FREEZE (R448) -/
  | svcFreeze (aerBit : Nat)
  /-- FREEZE_RELEASE (R449) -/
  | freezeRelease (aerCleared : Nat)
  /-- FUNCTION_LEVEL_RESET (R450) -/
  | functionLevelReset
  /-- BAR2_WRITE (R446) -/
  | bar2Write (addr : Nat)
  /-- MSIX_UNMASK (R447) -/
  | msixUnmask (wr : MsixWrite)
  /-- PM_STATE_WRITE (R445) -/
  | pmStateWrite (d3 : Bool)
  /-- NOP (R455) -/
  | nop (go : TaskGo)
  /-- IDENTITY (R455) -/
  | identity (go : TaskGo)
  /-- PAT_BLOCK (R457) -/
  | patBlock (go : TaskGo) (data : TaskData)
  /-- PAT_COMMIT (R61) -/
  | patCommit (go : TaskGo) (sig : SigCheck) (partner : Nat)
  /-- PAT_ABORT (R457) -/
  | patAbort (go : TaskGo)
  /-- OVERLAY_SET (R593) -/
  | overlaySet (go : TaskGo)
  /-- OWNER_COMMISSION (R456) -/
  | ownerCommission (go : TaskGo) (data : TaskData) (digest : Nat)
  /-- OWNER_ROTATE (R456) -/
  | ownerRotate (go : TaskGo) (data : TaskData) (sig : SigCheck) (digest : Nat) (sameSlot : Bool)
  /-- KEY_INSTALL (R454) -/
  | keyInstall (go : TaskGo) (data : TaskData) (sig : SigCheck) (key : KeyOpen)
  /-- KEY_SWITCH (R142) -/
  | keySwitch (go : TaskGo) (data : TaskData) (sig : SigCheck)
  /-- KEY_RETIRE (R142) -/
  | keyRetire (go : TaskGo) (data : TaskData) (sig : SigCheck)
  /-- ADMIT_SET (R137) -/
  | admitSet (go : TaskGo) (data : TaskData) (sig : SigCheck)
  /-- FW_BLOCK (R555) -/
  | fwBlock (go : TaskGo) (data : TaskData)
  /-- FW_IMAGE_VERIFY (R555) -/
  | fwImageVerify (chk : FwChecks)
  /-- FW_ABORT (R555) -/
  | fwAbort (go : TaskGo)
  /-- FW_ACTIVATE (R557) -/
  | fwActivate (go : TaskGo) (partnerHolds : Bool)
  /-- FW_CONFIRM (R561) -/
  | fwConfirm (go : TaskGo)
  /-- FW_REJECT (R561) -/
  | fwReject (go : TaskGo)
  /-- DRIVE_ACCEPT (R456) -/
  | driveAccept (go : TaskGo)
  /-- MEMBER_FAIL (R413) -/
  | memberFail (go : TaskGo)
  /-- DRIVE_FW (R455) -/
  | driveFw (go : TaskGo) (data : TaskData)
  /-- MIG_START (R297) -/
  | migStart (go : TaskGo) (ip : IpAddr)
  /-- MIG_CUTOVER (R299) -/
  | migCutover (go : TaskGo)
  /-- MIG_CANCEL (R455) -/
  | migCancel (go : TaskGo)
  /-- ADDR_SET (R361) -/
  | addrSet (go : TaskGo) (data : TaskData)
  /-- POWER_ENTER (R537) -/
  | powerEnter (go : TaskGo)
  /-- WARM_RESET (R527) -/
  | warmReset (go : TaskGo)
  /-- LEDGER_READ (R519) -/
  | ledgerRead (go : TaskGo)
  /-- TASK_DATA_READ_DONE (R460) -/
  | taskDataReadDone (data : TaskData)
  /-- TASK_END (R460) -/
  | taskEnd (partnerCode : Nat)
  /-- DEFERRED_TASK_RUN (R461) -/
  | deferredTaskRun
  /-- KVQ_POP (R469) -/
  | kvqPop (engine : Nat) (mode : Mode) (rs1 : Word)
  /-- KVQ_PUSH (R469) -/
  | kvqPush (engine : Nat) (mode : Mode) (rs1 rs2 : Word)
  /-- KVQ_WAIT (R469) -/
  | kvqWait (engine : Nat) (mode : Mode) (rs1 : Word)
  /-- KVQ_WAIT_WAKE (R469) -/
  | kvqWaitWake (engine : Nat)
  /-- KVQ_RING (R469) -/
  | kvqRing (engine : Nat) (mode : Mode) (rs1 rs2 : Word) (cqHead : Nat) (bufs : List RxBuf)
  /-- ENGINE_ACCESS_FAULT (R470) -/
  | engineAccessFault (engine : Nat) (mode : Mode) (kind : AccKind) (cause : AccCause) (va : Nat) (unhandled : Bool)
  /-- DMA_START (R473) -/
  | dmaStart (src : Src) (engine chan : Nat) (mode : Mode) (addr : Nat) (spans : List SpanXl)
  /-- DMA_RESUME (R474) -/
  | dmaResume (src : Src) (engine chan : Nat) (spans : List SpanXl)
  /-- DMA_ABORT (R474) -/
  | dmaAbort (src : Src) (engine chan : Nat)
  /-- DMA_COMPLETE (R475) -/
  | dmaComplete (engine chan : Nat) (spans : List SpanXl)
  /-- TASK_PREEMPT (R476) -/
  | taskPreempt (cluster priority : Nat) (regAccess : Bool)
  /-- XLT_INVAL (R471) -/
  | xltInval (src : Src) (scope asid vpn : Nat)
  /-- XLT_INVAL_DONE (R471) -/
  | xltInvalDone
  /-- EVT_RAISE_WRITE (R479) -/
  | evtRaiseWrite (src : Src) (event : Nat)
  /-- CRUISER_READ (R492) -/
  | cruiserRead (sram : Bool) (found : EccFinding) (owner : MemUse)
  /-- REPAIR_GRANULE_RX (R486) -/
  | repairGranuleRx (granule : Nat) (bytes : List Byte) (poisoned : Bool)
  /-- REPAIR_REQUEST_RX (R486) -/
  | repairRequestRx (granule step : Nat)
  /-- MEM_RETIRE (R488) -/
  | memRetire (src : Src) (kind index : Nat)
  /-- RETIRE_COMPLETE (R488) -/
  | retireComplete
  /-- MEM_INJECT (R493) -/
  | memInject (src : Src) (kind : Nat) (yard : Bool) (addr : Nat)
  /-- MEM_LOG_RELEASE (R487) -/
  | memLogRelease (src : Src) (n : Nat)
  /-- LSM_START (R494) -/
  | lsmStart (src : Src) (mode : Mode) (addr : Nat)
  /-- LSM_NONCE_RESUME (R499) -/
  | lsmNonceResume
  /-- LSM_JOB_DONE (R500) -/
  | lsmJobDone (res : LsmOut)
  /-- SCALER_COUNTER_WRITE (R504, R508) -/
  | scalerCounterWrite (counter : Nat) (acc : CounterAccess)
  /-- SCALER_SELECT_WRITE (R505) -/
  | scalerSelectWrite (src : Src) (counter : Nat) (sel : Selection)
  /-- SCALER_START_AT_REACHED (R506) -/
  | scalerStartAtReached
  /-- SCALER_STOP_AT_REACHED (R506) -/
  | scalerStopAtReached
  /-- SAMPLE_TAKEN (R511) -/
  | sampleTaken (engine : Nat) (smp : Sample)
  /-- SMP_RING_RESET (R513) -/
  | smpRingReset (src : Src) (engine : Nat) (wr : SmpWrite)
  /-- LDG_FREEZE_WRITE (R518) -/
  | ldgFreezeWrite (src : Src) (thawToo : Bool)
  /-- LDG_THAW (R518) -/
  | ldgThaw (src : Src) (freezeToo : Bool)
  /-- POWER_ON_RESET (R527) -/
  | powerOnReset
  /-- SYS_RESET (R527) -/
  | sysReset
  /-- WARM_RST_PIN (R527) -/
  | warmRstPin
  /-- PWR_CTL_WARM (R527) -/
  | pwrCtlWarm (src : Src)
  /-- WARM_RESET_EFFECT (R528) -/
  | warmResetEffect (selfTest : Nat)
  /-- SYS_RST_N_RELEASE (R533) -/
  | sysRstNRelease (sideB recovery : Bool) (selfTest : Nat)
  /-- PATTERN_LOAD (R587) -/
  | patternLoad (chk : LoadChecks)
  /-- FIRMWARE_SELECT (R554) -/
  | firmwareSelect (slotA slotB : FwChecks)
  /-- BOOT_READY (R534) -/
  | bootReady
  /-- FATAL_RESET (R530) -/
  | fatalReset (selfTest : Nat)
  /-- HOLDUP_CHANGE (R525) -/
  | holdupChange (ok : Bool)
  /-- WATCHDOG_EXPIRY (R532) -/
  | watchdogExpiry
  /-- WDOG_KICK (R532) -/
  | wdogKick (src : Src)
  /-- PWR_CTL_ENTER (R537) -/
  | pwrCtlEnter (src : Src) (target : Nat)
  /-- IDLE_POWER_ENTRY (R537) -/
  | idlePowerEntry
  /-- DROWSE_ENTRY_DONE (R538) -/
  | drowseEntryDone
  /-- FALLOW_PONR (R540) -/
  | fallowPonr
  /-- FALLOW_ENTRY_DONE (R540) -/
  | fallowEntryDone
  /-- WAKE_GPIO_EDGE (R544) -/
  | wakeGpioEdge (gpio : Nat)
  /-- PWR_CTL_WAKE (R544) -/
  | pwrCtlWake (src : Src)
  /-- WAKE_DONE (R545) -/
  | wakeDone
  /-- LINK_IDLE_RX (R320) -/
  | linkIdleRx (fr : LinkFrame)
  /-- CLUSTER_SWITCH (R559) -/
  | clusterSwitch
  /-- TRIAL_EVALUATION (R561) -/
  | trialEvaluation
  /-- TRIAL_EXPIRY (R561) -/
  | trialExpiry
  /-- THERMAL_TRIP (R586) -/
  | thermalTrip (celsius : Nat)
  deriving DecidableEq, Repr

end Sys2Proof
end

