-- ==== Sys2Proof/Machine/Bytes.lean ====
section
/-!
DEFINITION. Machine/Bytes.lean: byte order, checksums and field access on byte strings (R3 to R5), used by every
format the spec publishes.
-/
namespace Sys2Proof.Machine

/-- Little-endian number of a byte string (R4). -/
def leNat : List Byte → Nat
  | [] => 0
  | b :: rest => b.toNat + 256 * leNat rest

/-- `w` bytes of a number, little-endian (R4). -/
def leBytes : Nat → Nat → List Byte
  | 0, _ => []
  | w + 1, n => BitVec.ofNat 8 n :: leBytes w (n / 256)

/-- Network order (R5). -/
def beNat (bs : List Byte) : Nat := leNat bs.reverse

/-- `w` bytes of a number in network order (R5). -/
def beBytes (w n : Nat) : List Byte := (leBytes w n).reverse

/-- `n` zero bytes. -/
def zeroBytes (n : Nat) : List Byte := List.replicate n 0

/-- Every byte is 0. -/
def allZero (bs : List Byte) : Bool := bs.all (· == 0)

/-- `len` bytes from `off` (fewer where the string ends). -/
def sliceOf (bs : List Byte) (off len : Nat) : List Byte := (bs.drop off).take len

/-- The little-endian field of `size` bytes at `off`. -/
def leAt (bs : List Byte) (off size : Nat) : Nat := leNat (sliceOf bs off size)

/-- The string with `new` written over it from `off`. -/
def overlayBytes (bs : List Byte) (off : Nat) (new : List Byte) : List Byte :=
  bs.take off ++ new ++ bs.drop (off + new.length)

/-- ASCII bytes in reading order (magic values, 00_scope.md). -/
def asciiBytes (t : String) : List Byte := t.toList.map (fun c => BitVec.ofNat 8 c.toNat)

/-- One bit step of a reflected CRC. -/
def crcStep {w : Nat} (poly c : BitVec w) : BitVec w :=
  if c.getLsbD 0 then (c >>> 1) ^^^ poly else c >>> 1

/-- One byte step of a reflected CRC. -/
def crcByte {w : Nat} (poly c : BitVec w) (b : Byte) : BitVec w :=
  let c := c ^^^ b.setWidth w
  crcStep poly (crcStep poly (crcStep poly (crcStep poly (crcStep poly (crcStep poly (crcStep poly (crcStep poly c)))))))

/-- CRC-32C (Castagnoli, reflected, initial value and final inversion all ones). -/
def crc32c (bs : List Byte) : Nat :=
  ((bs.foldl (crcByte (0x82F63B78 : BitVec 32)) (BitVec.allOnes 32)) ^^^ BitVec.allOnes 32).toNat

end Sys2Proof.Machine
end

