-- ==== Sys2Proof/Machine/RegTable.lean ====
section
/-!
DEFINITION. Machine/RegTable.lean: every register field of the spec's register tables, as the tables give them:
offset in BAR0, stride of its instances, bits, access type, reset value and the lightest reset that restores it (R10, R14, R17).
Fields marked "pat", "strap", "fuse", "store" or "device time" have the value 0 here until the step that loads them (R18).
Configuration-space registers of the DVSEC (R444) stand at 0x0400_0000 plus their offset, beyond BAR0.
-/
namespace Sys2Proof.Machine

/-! GLB_ID (01_architecture.md) -/
def F.GLB_ID.DEVICE : Fld := ⟨0, 0, 0, 31, 16, .ro, 1152, .por, false⟩
def F.GLB_ID.VENDOR : Fld := ⟨0, 0, 0, 15, 0, .ro, 8062, .por, false⟩

/-! GLB_REV (01_architecture.md) -/
def F.GLB_REV.FAMILY : Fld := ⟨4, 0, 0, 15, 8, .ro, 1, .por, false⟩
def F.GLB_REV.REVISION : Fld := ⟨4, 0, 0, 7, 0, .ro, 33, .por, false⟩

/-! GLB_SIDE (01_architecture.md) -/
def F.GLB_SIDE.PROFILE : Fld := ⟨8, 0, 0, 2, 1, .ro, 0, .cold, true⟩
def F.GLB_SIDE.SIDE : Fld := ⟨8, 0, 0, 0, 0, .ro, 0, .cold, false⟩

/-! GLB_SHELF_ID (01_architecture.md) -/
def F.GLB_SHELF_ID.SHELF_ID : Fld := ⟨0x10, 0, 0, 63, 0, .ro, 0, .cold, true⟩

/-! GLB_ISLAND_UP (01_architecture.md) -/
def F.GLB_ISLAND_UP.UP : Fld := ⟨0x20, 0, 0, 37, 0, .ro, 0, .cold, false⟩

/-! GLB_BRIDGE_FAULT (01_architecture.md) -/
def F.GLB_BRIDGE_FAULT.VALID : Fld := ⟨0x28, 0, 0, 31, 31, .w1c, 0, .warm, false⟩
def F.GLB_BRIDGE_FAULT.COUNT : Fld := ⟨0x28, 0, 0, 23, 16, .ro, 0, .warm, false⟩
def F.GLB_BRIDGE_FAULT.CAUSE : Fld := ⟨0x28, 0, 0, 15, 8, .ro, 0, .warm, false⟩
def F.GLB_BRIDGE_FAULT.ISLAND : Fld := ⟨0x28, 0, 0, 5, 0, .ro, 0, .warm, false⟩

/-! XLT_INVAL (15_engines_events.md) -/
def F.XLT_INVAL.SCOPE : Fld := ⟨0x8000, 0, 0, 63, 62, .wo, 0, .warm, false⟩
def F.XLT_INVAL.ASID : Fld := ⟨0x8000, 0, 0, 47, 32, .wo, 0, .warm, false⟩
def F.XLT_INVAL.VPN : Fld := ⟨0x8000, 0, 0, 31, 0, .wo, 0, .warm, false⟩

/-! XLT_STATUS (15_engines_events.md) -/
def F.XLT_STATUS.IDLE : Fld := ⟨0x8008, 0, 0, 31, 31, .ro, 1, .warm, false⟩

/-! XLT_FAULTS (15_engines_events.md) -/
def F.XLT_FAULTS.COUNT : Fld := ⟨0x8010, 0, 0, 31, 0, .rc, 0, .warm, false⟩

/-! XLT_TENANT_FAULT (15_engines_events.md) -/
def F.XLT_TENANT_FAULT.COUNT : Fld := ⟨0x8014, 0, 0, 31, 0, .rc, 0, .warm, false⟩

/-! TASK_CMD (14_service_port.md) -/
def F.TASK_CMD.WORD : Fld := ⟨0x10000, 4, 0, 31, 0, .rw, 0, .flr, false⟩

/-! TASK_GO (14_service_port.md) -/
def F.TASK_GO.GO : Fld := ⟨0x10040, 0, 0, 0, 0, .wo, 0, .flr, false⟩

/-! TASK_STATUS (14_service_port.md) -/
def F.TASK_STATUS.BUSY : Fld := ⟨0x10044, 0, 0, 31, 31, .ro, 0, .flr, false⟩
def F.TASK_STATUS.DONE : Fld := ⟨0x10044, 0, 0, 30, 30, .w1c, 0, .flr, false⟩
def F.TASK_STATUS.REFUSED : Fld := ⟨0x10044, 0, 0, 29, 29, .w1c, 0, .flr, false⟩
def F.TASK_STATUS.DEFERRED : Fld := ⟨0x10044, 0, 0, 28, 28, .ro, 0, .flr, false⟩
def F.TASK_STATUS.CODE : Fld := ⟨0x10044, 0, 0, 15, 8, .ro, 0, .flr, false⟩

/-! TASK_RESULT (14_service_port.md) -/
def F.TASK_RESULT.VALUE : Fld := ⟨0x10048, 4, 0, 31, 0, .ro, 0, .flr, false⟩

/-! TASK_TAG (14_service_port.md) -/
def F.TASK_TAG.TAG : Fld := ⟨0x10058, 0, 0, 31, 0, .ro, 0, .flr, false⟩

/-! TASK_SIG_NONCE (14_service_port.md) -/
def F.TASK_SIG_NONCE.NONCE : Fld := ⟨0x10060, 0, 0, 63, 0, .ro, 0, .warm, false⟩

/-! TASK_REFUSALS (14_service_port.md) -/
def F.TASK_REFUSALS.COUNT : Fld := ⟨0x10070, 0, 0, 31, 0, .rc, 0, .flr, false⟩

/-! SVC_BAR2_WRITE (14_service_port.md) -/
def F.SVC_BAR2_WRITE.COUNT : Fld := ⟨0x10074, 0, 0, 31, 0, .rc, 0, .flr, false⟩

/-! SVC_FREEZES (14_service_port.md) -/
def F.SVC_FREEZES.COUNT : Fld := ⟨0x10078, 0, 0, 31, 0, .rc, 0, .flr, false⟩

/-! SVC_STATUS (14_service_port.md) -/
def F.SVC_STATUS.FROZEN : Fld := ⟨0x10100, 0, 0, 31, 31, .ro, 0, .flr, false⟩
def F.SVC_STATUS.D3 : Fld := ⟨0x10100, 0, 0, 30, 30, .ro, 0, .flr, false⟩
def F.SVC_STATUS.SPEED : Fld := ⟨0x10100, 0, 0, 7, 4, .ro, 0, .cold, false⟩
def F.SVC_STATUS.WIDTH : Fld := ⟨0x10100, 0, 0, 3, 0, .ro, 0, .cold, false⟩

/-! SVC_WIN_BASE (14_service_port.md) -/
def F.SVC_WIN_BASE.GIB : Fld := ⟨0x10108, 0, 0, 5, 0, .rw, 0, .flr, false⟩

/-! EVT_STATUS (15_engines_events.md) -/
def F.EVT_STATUS.STATUS : Fld := ⟨0x20000, 4, 0, 31, 0, .w1c, 0, .warm, false⟩

/-! EVT_MASK (15_engines_events.md) -/
def F.EVT_MASK.MASK : Fld := ⟨0x20100, 4, 0, 31, 0, .rw, 0, .warm, false⟩

/-! EVT_RAISE (15_engines_events.md) -/
def F.EVT_RAISE.EVENT : Fld := ⟨0x20200, 0, 0, 10, 0, .wo, 0, .warm, false⟩

/-! PAT_STATUS (02_pattern.md) -/
def F.PAT_STATUS.LOADED : Fld := ⟨0x40000, 0, 0, 31, 31, .ro, 0, .warm, false⟩
def F.PAT_STATUS.FACTORY_ONLY : Fld := ⟨0x40000, 0, 0, 30, 30, .ro, 0, .warm, false⟩
def F.PAT_STATUS.WARN : Fld := ⟨0x40000, 0, 0, 29, 29, .w1c, 0, .warm, false⟩
def F.PAT_STATUS.ERROR : Fld := ⟨0x40000, 0, 0, 28, 28, .w1c, 0, .warm, false⟩
def F.PAT_STATUS.SOURCE : Fld := ⟨0x40000, 0, 0, 27, 26, .ro, 0, .warm, false⟩
def F.PAT_STATUS.MAJOR : Fld := ⟨0x40000, 0, 0, 15, 8, .ro, 0, .warm, false⟩
def F.PAT_STATUS.MINOR : Fld := ⟨0x40000, 0, 0, 7, 0, .ro, 0, .warm, false⟩

/-! PAT_ERROR (02_pattern.md) -/
def F.PAT_ERROR.CODE : Fld := ⟨0x40004, 0, 0, 31, 24, .ro, 0, .warm, false⟩
def F.PAT_ERROR.RECORD : Fld := ⟨0x40004, 0, 0, 19, 0, .ro, 0, .warm, false⟩

/-! PAT_ERROR_OFS (02_pattern.md) -/
def F.PAT_ERROR_OFS.OFFSET : Fld := ⟨0x40008, 0, 0, 31, 0, .ro, 0, .warm, false⟩

/-! PAT_WARN (02_pattern.md) -/
def F.PAT_WARN.COUNT : Fld := ⟨0x4000c, 0, 0, 15, 8, .ro, 0, .warm, false⟩
def F.PAT_WARN.CODE : Fld := ⟨0x4000c, 0, 0, 7, 0, .ro, 0, .warm, false⟩

/-! PAT_LIVE_SEQ (02_pattern.md) -/
def F.PAT_LIVE_SEQ.SEQUENCE : Fld := ⟨0x40010, 0, 0, 63, 0, .ro, 0, .warm, false⟩

/-! PAT_PENDING (02_pattern.md) -/
def F.PAT_PENDING.PAIR_ROLL : Fld := ⟨0x40018, 0, 0, 1, 1, .ro, 0, .warm, false⟩
def F.PAT_PENDING.COLD : Fld := ⟨0x40018, 0, 0, 0, 0, .ro, 0, .cold, false⟩

/-! STORE_STATUS (02_pattern.md) -/
def F.STORE_STATUS.BUSY : Fld := ⟨0x4001c, 0, 0, 31, 31, .ro, 0, .warm, false⟩
def F.STORE_STATUS.RESULT : Fld := ⟨0x4001c, 0, 0, 11, 8, .ro, 0, .warm, false⟩
def F.STORE_STATUS.UNUSABLE : Fld := ⟨0x4001c, 0, 0, 5, 4, .ro, 0, .cold, false⟩
def F.STORE_STATUS.VALID : Fld := ⟨0x4001c, 0, 0, 3, 2, .ro, 0, .warm, false⟩
def F.STORE_STATUS.CURRENT : Fld := ⟨0x4001c, 0, 0, 1, 0, .ro, 0, .warm, false⟩

/-! STORE_SEQ (02_pattern.md) -/
def F.STORE_SEQ.STORE_SEQ : Fld := ⟨0x40020, 0, 0, 63, 0, .ro, 0, .warm, false⟩

/-! HP_PORT_STATUS (10_ports_landing.md) -/
def F.HP_PORT_STATUS.LINK : Fld := ⟨0x80000, 0x20000, 0, 31, 24, .ro, 0, .warm, false⟩
def F.HP_PORT_STATUS.LANE_LOCK : Fld := ⟨0x80000, 0x20000, 0, 23, 16, .ro, 0, .warm, false⟩
def F.HP_PORT_STATUS.MODE : Fld := ⟨0x80000, 0x20000, 0, 2, 0, .ro, 0, .warm, true⟩

/-! HP_FEC_CORR (10_ports_landing.md) -/
def F.HP_FEC_CORR.COUNT : Fld := ⟨0x80010, 0x20000, 0, 31, 0, .rc, 0, .warm, false⟩

/-! HP_FEC_UNCORR (10_ports_landing.md) -/
def F.HP_FEC_UNCORR.COUNT : Fld := ⟨0x80014, 0x20000, 0, 31, 0, .rc, 0, .warm, false⟩

/-! HP_LP_CTL (10_ports_landing.md) -/
def F.HP_LP_CTL.AN : Fld := ⟨0x81000, 0x20000, 0x1000, 31, 31, .rw, 1, .warm, false⟩
def F.HP_LP_CTL.OBEY : Fld := ⟨0x81000, 0x20000, 0x1000, 30, 30, .rw, 1, .warm, false⟩
def F.HP_LP_CTL.OBEY_URGENT : Fld := ⟨0x81000, 0x20000, 0x1000, 29, 29, .rw, 0, .warm, false⟩
def F.HP_LP_CTL.MIRROR_A_EN : Fld := ⟨0x81000, 0x20000, 0x1000, 28, 28, .rw, 0, .warm, false⟩
def F.HP_LP_CTL.MIRROR_B_EN : Fld := ⟨0x81000, 0x20000, 0x1000, 27, 27, .rw, 0, .warm, false⟩
def F.HP_LP_CTL.MIRROR_A : Fld := ⟨0x81000, 0x20000, 0x1000, 23, 22, .rw, 0, .warm, false⟩
def F.HP_LP_CTL.MIRROR_B : Fld := ⟨0x81000, 0x20000, 0x1000, 21, 20, .rw, 0, .warm, false⟩
def F.HP_LP_CTL.PFC_TX : Fld := ⟨0x81000, 0x20000, 0x1000, 7, 0, .rw, 0, .warm, false⟩

/-! HP_LP_MAC (10_ports_landing.md) -/
def F.HP_LP_MAC.ADDRESS : Fld := ⟨0x81008, 0x20000, 0x1000, 47, 0, .ro, 0, .por, false⟩

/-! HP_LP_PAUSE (10_ports_landing.md) -/
def F.HP_LP_PAUSE.TRIPPED : Fld := ⟨0x81010, 0x20000, 0x1000, 31, 24, .ro, 0, .warm, false⟩
def F.HP_LP_PAUSE.PAUSED : Fld := ⟨0x81010, 0x20000, 0x1000, 15, 8, .ro, 0, .warm, false⟩
def F.HP_LP_PAUSE.XOFF : Fld := ⟨0x81010, 0x20000, 0x1000, 7, 0, .ro, 0, .warm, false⟩

/-! HP_LP_PAUSE_US (10_ports_landing.md) -/
def F.HP_LP_PAUSE_US.US : Fld := ⟨0x81014, 0x20000, 0x1000, 19, 0, .ro, 0, .warm, false⟩

/-! HP_RX_RUNT (10_ports_landing.md) -/
def F.HP_RX_RUNT.COUNT : Fld := ⟨0x81020, 0x20000, 0x1000, 31, 0, .rc, 0, .warm, false⟩

/-! HP_RX_OVERSIZE (10_ports_landing.md) -/
def F.HP_RX_OVERSIZE.COUNT : Fld := ⟨0x81024, 0x20000, 0x1000, 31, 0, .rc, 0, .warm, false⟩

/-! HP_RX_FCS (10_ports_landing.md) -/
def F.HP_RX_FCS.COUNT : Fld := ⟨0x81028, 0x20000, 0x1000, 31, 0, .rc, 0, .warm, false⟩

/-! HP_RX_DMAC (10_ports_landing.md) -/
def F.HP_RX_DMAC.COUNT : Fld := ⟨0x8102c, 0x20000, 0x1000, 31, 0, .rc, 0, .warm, false⟩

/-! HP_RX_UNKNOWN (10_ports_landing.md) -/
def F.HP_RX_UNKNOWN.COUNT : Fld := ⟨0x81030, 0x20000, 0x1000, 31, 0, .rc, 0, .warm, false⟩

/-! HP_PAUSE_RX (10_ports_landing.md) -/
def F.HP_PAUSE_RX.COUNT : Fld := ⟨0x81034, 0x20000, 0x1000, 31, 0, .rc, 0, .warm, false⟩

/-! HP_PAUSE_IGNORED (10_ports_landing.md) -/
def F.HP_PAUSE_IGNORED.COUNT : Fld := ⟨0x81038, 0x20000, 0x1000, 31, 0, .rc, 0, .warm, false⟩

/-! HP_PFC_TX (10_ports_landing.md) -/
def F.HP_PFC_TX.COUNT : Fld := ⟨0x8103c, 0x20000, 0x1000, 31, 0, .rc, 0, .warm, false⟩

/-! HP_TX_DISCARD (10_ports_landing.md) -/
def F.HP_TX_DISCARD.COUNT : Fld := ⟨0x81040, 0x20000, 0x1000, 31, 0, .rc, 0, .warm, false⟩

/-! HP_TX_STOMP (10_ports_landing.md) -/
def F.HP_TX_STOMP.COUNT : Fld := ⟨0x81044, 0x20000, 0x1000, 31, 0, .rc, 0, .warm, false⟩

/-! PTP_TIME (10_ports_landing.md) -/
def F.PTP_TIME.SEC : Fld := ⟨0x90000, 0x20000, 0, 63, 30, .ro, 0, .cold, false⟩
def F.PTP_TIME.NS : Fld := ⟨0x90000, 0x20000, 0, 29, 0, .ro, 0, .cold, false⟩

/-! PTP_ADJ_OFS (10_ports_landing.md) -/
def F.PTP_ADJ_OFS.NS : Fld := ⟨0x90008, 0, 0, 63, 0, .wo, 0, .cold, false⟩

/-! PTP_ADJ_RATE (10_ports_landing.md) -/
def F.PTP_ADJ_RATE.RATE : Fld := ⟨0x90010, 0, 0, 31, 0, .rw, 0, .cold, false⟩

/-! PTP_CTL (10_ports_landing.md) -/
def F.PTP_CTL.ADJ_BUSY : Fld := ⟨0x90018, 0, 0, 1, 1, .ro, 0, .cold, false⟩
def F.PTP_CTL.PPS_OUT_EN : Fld := ⟨0x90018, 0, 0, 0, 0, .rw, 0, .cold, false⟩

/-! PTP_TX_TS (10_ports_landing.md) -/
def F.PTP_TX_TS.TIME : Fld := ⟨0x90020, 0x20000, 0, 63, 0, .ro, 0, .warm, false⟩

/-! PTP_TX_ID (10_ports_landing.md) -/
def F.PTP_TX_ID.VALID : Fld := ⟨0x90028, 0x20000, 0, 31, 31, .rc, 0, .warm, false⟩
def F.PTP_TX_ID.OVERFLOW : Fld := ⟨0x90028, 0x20000, 0, 30, 30, .rc, 0, .warm, false⟩
def F.PTP_TX_ID.LPORT : Fld := ⟨0x90028, 0x20000, 0, 26, 24, .rc, 0, .warm, false⟩
def F.PTP_TX_ID.SEQUENCE_ID : Fld := ⟨0x90028, 0x20000, 0, 15, 0, .rc, 0, .warm, false⟩

/-! PTP_PPS_IN_TS (10_ports_landing.md) -/
def F.PTP_PPS_IN_TS.TIME : Fld := ⟨0x90030, 0, 0, 63, 0, .ro, 0, .cold, false⟩

/-! TC_GATE_WARN (11_traffic_control.md) -/
def F.TC_GATE_WARN.LIST : Fld := ⟨0x140008, 0, 0, 63, 0, .ro, 0, .warm, false⟩

/-! TC_GATE (11_traffic_control.md) -/
def F.TC_GATE.ROUND : Fld := ⟨0x141000, 8, 0, 63, 32, .ro, 0, .warm, false⟩
def F.TC_GATE.ACTIVE : Fld := ⟨0x141000, 8, 0, 31, 31, .ro, 0, .warm, false⟩
def F.TC_GATE.PENDING : Fld := ⟨0x141000, 8, 0, 30, 30, .ro, 0, .warm, false⟩
def F.TC_GATE.LIST : Fld := ⟨0x141000, 8, 0, 29, 24, .ro, 0, .warm, false⟩
def F.TC_GATE.ENTRY : Fld := ⟨0x141000, 8, 0, 15, 8, .ro, 0, .warm, false⟩
def F.TC_GATE.OPEN : Fld := ⟨0x141000, 8, 0, 7, 0, .ro, 255, .warm, false⟩

/-! TC_DRIVE (11_traffic_control.md) -/
def F.TC_DRIVE.ROUND : Fld := ⟨0x142000, 8, 0, 63, 32, .ro, 0, .warm, false⟩
def F.TC_DRIVE.FULL : Fld := ⟨0x142000, 8, 0, 31, 31, .ro, 0, .warm, false⟩
def F.TC_DRIVE.URGENT : Fld := ⟨0x142000, 8, 0, 18, 13, .ro, 0, .warm, false⟩
def F.TC_DRIVE.COUNT : Fld := ⟨0x142000, 8, 0, 12, 0, .ro, 0, .warm, false⟩

/-! TC_GATE_DISCARD (11_traffic_control.md) -/
def F.TC_GATE_DISCARD.COUNT : Fld := ⟨0x143000, 4, 0, 31, 0, .rc, 0, .warm, false⟩

/-! TC_MTR_GREEN (11_traffic_control.md) -/
def F.TC_MTR_GREEN.COUNT : Fld := ⟨0x150000, 0x10, 0, 31, 0, .rc, 0, .warm, false⟩

/-! TC_MTR_YELLOW (11_traffic_control.md) -/
def F.TC_MTR_YELLOW.COUNT : Fld := ⟨0x150004, 0x10, 0, 31, 0, .rc, 0, .warm, false⟩

/-! TC_MTR_RED (11_traffic_control.md) -/
def F.TC_MTR_RED.COUNT : Fld := ⟨0x150008, 0x10, 0, 31, 0, .rc, 0, .warm, false⟩

/-! TC_MTR_MARKED (11_traffic_control.md) -/
def F.TC_MTR_MARKED.COUNT : Fld := ⟨0x15000c, 0x10, 0, 31, 0, .rc, 0, .warm, false⟩

/-! FLM_STATUS (03_flume_delivery.md) -/
def F.FLM_STATUS.TABLE_FULL : Fld := ⟨0x200000, 0, 0, 31, 31, .ro, 0, .warm, false⟩
def F.FLM_STATUS.SLOTS_FULL : Fld := ⟨0x200000, 0, 0, 30, 30, .ro, 0, .warm, false⟩

/-! FLM_TABLE_USED (03_flume_delivery.md) -/
def F.FLM_TABLE_USED.USED : Fld := ⟨0x200004, 0, 0, 22, 0, .ro, 0, .warm, false⟩

/-! FLM_SLOT_USED (03_flume_delivery.md) -/
def F.FLM_SLOT_USED.USED : Fld := ⟨0x200008, 0, 0, 19, 0, .ro, 0, .warm, false⟩

/-! FLM_TABLE_HOLD (03_flume_delivery.md) -/
def F.FLM_TABLE_HOLD.OLDEST_US : Fld := ⟨0x20000c, 0, 0, 31, 0, .ro, 0, .warm, false⟩

/-! FLM_DROP_IP (03_flume_delivery.md) -/
def F.FLM_DROP_IP.COUNT : Fld := ⟨0x200010, 0, 0, 31, 0, .rc, 0, .warm, false⟩

/-! FLM_DROP_FORMAT (03_flume_delivery.md) -/
def F.FLM_DROP_FORMAT.COUNT : Fld := ⟨0x200014, 0, 0, 31, 0, .rc, 0, .warm, false⟩

/-! FLM_DROP_EPOCH (03_flume_delivery.md) -/
def F.FLM_DROP_EPOCH.COUNT : Fld := ⟨0x200018, 0, 0, 31, 0, .rc, 0, .warm, false⟩

/-! FLM_DROP_AUTH (03_flume_delivery.md) -/
def F.FLM_DROP_AUTH.COUNT : Fld := ⟨0x20001c, 0, 0, 31, 0, .rc, 0, .warm, false⟩

/-! FLM_DUP (03_flume_delivery.md) -/
def F.FLM_DUP.COUNT : Fld := ⟨0x200020, 0, 0, 31, 0, .rc, 0, .warm, false⟩

/-! FLM_LATE_RESP (03_flume_delivery.md) -/
def F.FLM_LATE_RESP.COUNT : Fld := ⟨0x200024, 0, 0, 31, 0, .rc, 0, .warm, false⟩

/-! FLM_NACK_TX (03_flume_delivery.md) -/
def F.FLM_NACK_TX.COUNT : Fld := ⟨0x200028, 0, 0, 31, 0, .rc, 0, .warm, false⟩

/-! FLM_BUSY_TX (03_flume_delivery.md) -/
def F.FLM_BUSY_TX.COUNT : Fld := ⟨0x20002c, 0, 0, 31, 0, .rc, 0, .warm, false⟩

/-! FLM_RX_EXPIRED (03_flume_delivery.md) -/
def F.FLM_RX_EXPIRED.COUNT : Fld := ⟨0x200030, 0, 0, 31, 0, .rc, 0, .warm, false⟩

/-! FLM_MSG_FAIL (03_flume_delivery.md) -/
def F.FLM_MSG_FAIL.COUNT : Fld := ⟨0x200034, 0, 0, 31, 0, .rc, 0, .warm, false⟩

/-! FLM_LAST_NACK (03_flume_delivery.md) -/
def F.FLM_LAST_NACK.PEER : Fld := ⟨0x200040, 0, 0, 63, 32, .ro, 0, .warm, false⟩
def F.FLM_LAST_NACK.REASON : Fld := ⟨0x200040, 0, 0, 31, 24, .ro, 0, .warm, false⟩
def F.FLM_LAST_NACK.OPCODE : Fld := ⟨0x200040, 0, 0, 23, 16, .ro, 0, .warm, false⟩
def F.FLM_LAST_NACK.VALID : Fld := ⟨0x200040, 0, 0, 0, 0, .w1c, 0, .warm, false⟩

/-! FLM_WIN_COMMIT (04_flume_windows_keys.md) -/
def F.FLM_WIN_COMMIT.GEN : Fld := ⟨0x208000, 0, 0, 31, 24, .wo, 0, .warm, false⟩
def F.FLM_WIN_COMMIT.STAGED : Fld := ⟨0x208000, 0, 0, 23, 23, .wo, 0, .warm, false⟩
def F.FLM_WIN_COMMIT.INDEX : Fld := ⟨0x208000, 0, 0, 19, 0, .wo, 0, .warm, false⟩

/-! FLM_WIN_RESULT (04_flume_windows_keys.md) -/
def F.FLM_WIN_RESULT.BUSY : Fld := ⟨0x208004, 0, 0, 31, 31, .ro, 0, .warm, false⟩
def F.FLM_WIN_RESULT.RESULT : Fld := ⟨0x208004, 0, 0, 27, 24, .ro, 0, .warm, false⟩
def F.FLM_WIN_RESULT.INDEX : Fld := ⟨0x208004, 0, 0, 19, 0, .ro, 0, .warm, false⟩

/-! FLM_WIN_STAGE_BASE (04_flume_windows_keys.md) -/
def F.FLM_WIN_STAGE_BASE.BASE : Fld := ⟨0x208008, 0, 0, 63, 0, .rw, 0, .warm, false⟩

/-! FLM_WIN_STAGE_LEN (04_flume_windows_keys.md) -/
def F.FLM_WIN_STAGE_LEN.LENGTH : Fld := ⟨0x208010, 0, 0, 40, 0, .rw, 0, .warm, false⟩

/-! FLM_WIN_STAGE_ATTR (04_flume_windows_keys.md) -/
def F.FLM_WIN_STAGE_ATTR.ASID : Fld := ⟨0x208018, 0, 0, 31, 16, .rw, 0, .warm, false⟩
def F.FLM_WIN_STAGE_ATTR.RIGHTS : Fld := ⟨0x208018, 0, 0, 2, 0, .rw, 0, .warm, false⟩

/-! FLM_WIN_STAGE_SCOPE (04_flume_windows_keys.md) -/
def F.FLM_WIN_STAGE_SCOPE.SCOPE : Fld := ⟨0x20801c, 0, 0, 31, 0, .rw, 0, .warm, false⟩

/-! FLM_DRAIN_WQ (04_flume_windows_keys.md) -/
def F.FLM_DRAIN_WQ.ENABLE : Fld := ⟨0x208020, 0, 0, 31, 31, .rw, 0, .warm, false⟩
def F.FLM_DRAIN_WQ.WQ : Fld := ⟨0x208020, 0, 0, 15, 0, .rw, 0, .warm, false⟩

/-! FLM_WQ_DOORBELL (04_flume_windows_keys.md) -/
def F.FLM_WQ_DOORBELL.WQ : Fld := ⟨0x208040, 0, 0, 31, 16, .wo, 0, .warm, false⟩
def F.FLM_WQ_DOORBELL.TAIL : Fld := ⟨0x208040, 0, 0, 15, 0, .wo, 0, .warm, false⟩

/-! FLM_RQ_DOORBELL (04_flume_windows_keys.md) -/
def F.FLM_RQ_DOORBELL.WQ : Fld := ⟨0x208044, 0, 0, 31, 16, .wo, 0, .warm, false⟩
def F.FLM_RQ_DOORBELL.TAIL : Fld := ⟨0x208044, 0, 0, 15, 0, .wo, 0, .warm, false⟩

/-! FLM_WQ_CTL (04_flume_windows_keys.md) -/
def F.FLM_WQ_CTL.WQ : Fld := ⟨0x208048, 0, 0, 31, 16, .wo, 0, .warm, false⟩
def F.FLM_WQ_CTL.ACTION : Fld := ⟨0x208048, 0, 0, 1, 0, .wo, 0, .warm, false⟩

/-! FLM_EPOCH (04_flume_windows_keys.md) -/
def F.FLM_EPOCH.EPOCH1 : Fld := ⟨0x208080, 0, 0, 31, 16, .ro, 0, .cold, false⟩
def F.FLM_EPOCH.EPOCH0 : Fld := ⟨0x208080, 0, 0, 15, 0, .ro, 0, .cold, false⟩

/-! FLM_EPOCH_STATE (04_flume_windows_keys.md) -/
def F.FLM_EPOCH_STATE.TX_BLOCKED : Fld := ⟨0x208084, 0, 0, 8, 8, .ro, 0, .por, false⟩
def F.FLM_EPOCH_STATE.STATE1 : Fld := ⟨0x208084, 0, 0, 7, 4, .ro, 0, .cold, false⟩
def F.FLM_EPOCH_STATE.STATE0 : Fld := ⟨0x208084, 0, 0, 3, 0, .ro, 0, .cold, false⟩

/-! FLM_CACHE_USED (04_flume_windows_keys.md) -/
def F.FLM_CACHE_USED.USED : Fld := ⟨0x208090, 0, 0, 17, 0, .ro, 0, .warm, false⟩

/-! FLM_STALE_GEN (04_flume_windows_keys.md) -/
def F.FLM_STALE_GEN.COUNT : Fld := ⟨0x2080a0, 0, 0, 31, 0, .rc, 0, .warm, false⟩

/-! FLM_READ_DEFER (04_flume_windows_keys.md) -/
def F.FLM_READ_DEFER.COUNT : Fld := ⟨0x2080a4, 0, 0, 31, 0, .rc, 0, .warm, false⟩

/-! FLM_CACHE_WAIT (04_flume_windows_keys.md) -/
def F.FLM_CACHE_WAIT.COUNT : Fld := ⟨0x2080a8, 0, 0, 31, 0, .rc, 0, .warm, false⟩

/-! FLM_ADMIT_LO (04_flume_windows_keys.md) -/
def F.FLM_ADMIT_LO.BOUND : Fld := ⟨0x208100, 8, 0, 31, 0, .ro, 0, .cold, false⟩

/-! FLM_ADMIT_HI (04_flume_windows_keys.md) -/
def F.FLM_ADMIT_HI.BOUND : Fld := ⟨0x208104, 8, 0, 31, 0, .ro, 0, .cold, false⟩

/-! CHT_INFLIGHT (06_chute_yard.md) -/
def F.CHT_INFLIGHT.COMMANDS : Fld := ⟨0x300000, 0, 0, 17, 0, .ro, 0, .warm, false⟩

/-! CHT_MAP_INVAL (06_chute_yard.md) -/
def F.CHT_MAP_INVAL.MAP : Fld := ⟨0x300008, 0, 0, 43, 32, .wo, 0, .warm, false⟩
def F.CHT_MAP_INVAL.EXTENT : Fld := ⟨0x300008, 0, 0, 31, 0, .wo, 0, .warm, false⟩

/-! CHT_MAP_STATUS (06_chute_yard.md) -/
def F.CHT_MAP_STATUS.IDLE : Fld := ⟨0x300010, 0, 0, 31, 31, .ro, 1, .warm, false⟩

/-! CHT_DIRTY (06_chute_yard.md) -/
def F.CHT_DIRTY.BYTES : Fld := ⟨0x300018, 0, 0, 63, 0, .ro, 0, .warm, false⟩

/-! CHT_TAGS (06_chute_yard.md) -/
def F.CHT_TAGS.USED : Fld := ⟨0x300020, 0, 0, 18, 0, .ro, 0, .warm, false⟩

/-! CHT_HANDOVER (06_chute_yard.md) -/
def F.CHT_HANDOVER.COUNT : Fld := ⟨0x300040, 0, 0, 31, 0, .rc, 0, .warm, false⟩

/-! CHT_DEGRADED (06_chute_yard.md) -/
def F.CHT_DEGRADED.COUNT : Fld := ⟨0x300044, 0, 0, 31, 0, .rc, 0, .warm, false⟩

/-! CHT_STAGING_HIT (06_chute_yard.md) -/
def F.CHT_STAGING_HIT.COUNT : Fld := ⟨0x300048, 0, 0, 31, 0, .rc, 0, .warm, false⟩

/-! CHT_APT_DROP (06_chute_yard.md) -/
def F.CHT_APT_DROP.COUNT : Fld := ⟨0x30004c, 0, 0, 31, 0, .rc, 0, .warm, false⟩

/-! YRD_FREE (06_chute_yard.md) -/
def F.YRD_FREE.URGENT : Fld := ⟨0x310000, 0, 0, 31, 16, .ro, 0, .warm, false⟩
def F.YRD_FREE.SHARED : Fld := ⟨0x310000, 0, 0, 15, 0, .ro, 0, .warm, false⟩

/-! YRD_DROP_HOST (06_chute_yard.md) -/
def F.YRD_DROP_HOST.COUNT : Fld := ⟨0x310010, 0, 0, 31, 0, .rc, 0, .warm, false⟩

/-! YRD_WAIT (06_chute_yard.md) -/
def F.YRD_WAIT.COUNT : Fld := ⟨0x310014, 0, 0, 31, 0, .rc, 0, .warm, false⟩

/-! NVS_COUNTS (05_nvme_service.md) -/
def F.NVS_COUNTS.CONTROLLERS : Fld := ⟨0x340000, 0, 0, 13, 0, .ro, 0, .warm, false⟩

/-! NVS_QUEUES (05_nvme_service.md) -/
def F.NVS_QUEUES.TCP : Fld := ⟨0x340004, 0, 0, 27, 15, .ro, 0, .warm, false⟩
def F.NVS_QUEUES.FLUME_SQ : Fld := ⟨0x340004, 0, 0, 14, 0, .ro, 0, .warm, false⟩

/-! NVS_RUNT_CAPSULE (05_nvme_service.md) -/
def F.NVS_RUNT_CAPSULE.COUNT : Fld := ⟨0x340010, 0, 0, 31, 0, .rc, 0, .warm, false⟩

/-! NVS_CONNECT_REFUSED (05_nvme_service.md) -/
def F.NVS_CONNECT_REFUSED.COUNT : Fld := ⟨0x340014, 0, 0, 31, 0, .rc, 0, .warm, false⟩

/-! NVS_AUTH_FAIL (05_nvme_service.md) -/
def F.NVS_AUTH_FAIL.COUNT : Fld := ⟨0x340018, 0, 0, 31, 0, .rc, 0, .warm, false⟩

/-! NVS_PI_HOST (05_nvme_service.md) -/
def F.NVS_PI_HOST.COUNT : Fld := ⟨0x34001c, 0, 0, 31, 0, .rc, 0, .warm, false⟩

/-! NVS_PI_MEDIA (05_nvme_service.md) -/
def F.NVS_PI_MEDIA.COUNT : Fld := ⟨0x340020, 0, 0, 31, 0, .rc, 0, .warm, false⟩

/-! NVS_UNRECOVERED (05_nvme_service.md) -/
def F.NVS_UNRECOVERED.COUNT : Fld := ⟨0x340024, 0, 0, 31, 0, .rc, 0, .warm, false⟩

/-! NVS_CMD_LIMIT (05_nvme_service.md) -/
def F.NVS_CMD_LIMIT.COUNT : Fld := ⟨0x340028, 0, 0, 31, 0, .rc, 0, .warm, false⟩

/-! NVS_TCP_REFUSED (05_nvme_service.md) -/
def F.NVS_TCP_REFUSED.COUNT : Fld := ⟨0x34002c, 0, 0, 31, 0, .rc, 0, .warm, false⟩

/-! LAY_BRAND_STATUS (07_stripe_layouts.md) -/
def F.LAY_BRAND_STATUS.BUSY : Fld := ⟨0x380000, 0, 0, 31, 31, .ro, 0, .warm, false⟩
def F.LAY_BRAND_STATUS.RESULT : Fld := ⟨0x380000, 0, 0, 11, 8, .ro, 0, .warm, false⟩
def F.LAY_BRAND_STATUS.GROUP : Fld := ⟨0x380000, 0, 0, 3, 0, .ro, 0, .warm, false⟩

/-! PAR_LOCATOR_MISMATCH (07_stripe_layouts.md) -/
def F.PAR_LOCATOR_MISMATCH.COUNT : Fld := ⟨0x380040, 0, 0, 31, 0, .rc, 0, .warm, false⟩

/-! PAR_BRAND_FAIL (07_stripe_layouts.md) -/
def F.PAR_BRAND_FAIL.COUNT : Fld := ⟨0x380044, 0, 0, 31, 0, .rc, 0, .warm, false⟩

/-! PAR_RECON_SINGLE (07_stripe_layouts.md) -/
def F.PAR_RECON_SINGLE.COUNT : Fld := ⟨0x380048, 0, 0, 31, 0, .rc, 0, .warm, false⟩

/-! PAR_RECON_DOUBLE (07_stripe_layouts.md) -/
def F.PAR_RECON_DOUBLE.COUNT : Fld := ⟨0x38004c, 0, 0, 31, 0, .rc, 0, .warm, false⟩

/-! LAY_GROUP (07_stripe_layouts.md) -/
def F.LAY_GROUP.STATE : Fld := ⟨0x380100, 4, 0, 31, 29, .ro, 0, .warm, false⟩
def F.LAY_GROUP.MISSING : Fld := ⟨0x380100, 4, 0, 23, 16, .ro, 0, .warm, false⟩
def F.LAY_GROUP.LOG : Fld := ⟨0x380100, 4, 0, 15, 8, .ro, 0, .warm, false⟩
def F.LAY_GROUP.MEMBERS : Fld := ⟨0x380100, 4, 0, 7, 0, .ro, 0, .warm, false⟩

/-! LAY_BRAND_SEQ (07_stripe_layouts.md) -/
def F.LAY_BRAND_SEQ.SEQ : Fld := ⟨0x380200, 8, 0, 63, 0, .ro, 0, .warm, false⟩

/-! TLY_STATUS (08_tally_rebuild.md) -/
def F.TLY_STATUS.FULL : Fld := ⟨0x381000, 0, 0, 31, 31, .ro, 0, .warm, false⟩
def F.TLY_STATUS.OPEN : Fld := ⟨0x381000, 0, 0, 27, 0, .ro, 0, .warm, false⟩

/-! VLT_STATUS (08_tally_rebuild.md) -/
def F.VLT_STATUS.DUMPING : Fld := ⟨0x381010, 0, 0, 31, 31, .ro, 0, .warm, false⟩
def F.VLT_STATUS.SHORT : Fld := ⟨0x381010, 0, 0, 30, 30, .ro, 0, .warm, false⟩
def F.VLT_STATUS.LAST_DUMP : Fld := ⟨0x381010, 0, 0, 3, 2, .ro, 0, .cold, false⟩
def F.VLT_STATUS.CTRL_LOST : Fld := ⟨0x381010, 0, 0, 1, 1, .ro, 0, .cold, false⟩
def F.VLT_STATUS.RECOVERING : Fld := ⟨0x381010, 0, 0, 0, 0, .ro, 0, .warm, false⟩

/-! VLT_DUMP_SEQ (08_tally_rebuild.md) -/
def F.VLT_DUMP_SEQ.SEQ : Fld := ⟨0x381018, 0, 0, 63, 0, .ro, 0, .cold, false⟩

/-! VLT_LIMIT_EFF (08_tally_rebuild.md) -/
def F.VLT_LIMIT_EFF.MIB : Fld := ⟨0x381020, 0, 0, 14, 0, .ro, 0, .warm, true⟩

/-! SKD_CTL (08_tally_rebuild.md) -/
def F.SKD_CTL.PAUSE : Fld := ⟨0x381100, 0, 0, 31, 31, .rw, 0, .warm, false⟩
def F.SKD_CTL.PRIORITY : Fld := ⟨0x381100, 0, 0, 1, 0, .rw, 0, .warm, true⟩

/-! SKD_RATE (08_tally_rebuild.md) -/
def F.SKD_RATE.GBS : Fld := ⟨0x381104, 0, 0, 9, 0, .rw, 0, .warm, true⟩

/-! SKD_STATUS (08_tally_rebuild.md) -/
def F.SKD_STATUS.RUNNING : Fld := ⟨0x381108, 0, 0, 31, 24, .ro, 0, .warm, false⟩
def F.SKD_STATUS.QUEUED : Fld := ⟨0x381108, 0, 0, 23, 16, .ro, 0, .warm, false⟩
def F.SKD_STATUS.CRITICAL : Fld := ⟨0x381108, 0, 0, 15, 8, .ro, 0, .warm, false⟩

/-! PTL_STATUS (08_tally_rebuild.md) -/
def F.PTL_STATUS.GROUP : Fld := ⟨0x381200, 0, 0, 31, 28, .ro, 0, .warm, false⟩
def F.PTL_STATUS.PERMILLE : Fld := ⟨0x381200, 0, 0, 9, 0, .ro, 0, .warm, false⟩

/-! LST_COUNT (08_tally_rebuild.md) -/
def F.LST_COUNT.MERGED : Fld := ⟨0x381300, 4, 0, 31, 31, .ro, 0, .warm, false⟩
def F.LST_COUNT.ENTRIES : Fld := ⟨0x381300, 4, 0, 14, 0, .ro, 0, .warm, false⟩

/-! VLT_REWRITE (08_tally_rebuild.md) -/
def F.VLT_REWRITE.COUNT : Fld := ⟨0x381400, 0, 0, 31, 0, .rc, 0, .warm, false⟩

/-! SKD_RECON_REWRITE (08_tally_rebuild.md) -/
def F.SKD_RECON_REWRITE.COUNT : Fld := ⟨0x381404, 0, 0, 31, 0, .rc, 0, .warm, false⟩

/-! SKD_LOST_BLOCKS (08_tally_rebuild.md) -/
def F.SKD_LOST_BLOCKS.COUNT : Fld := ⟨0x381408, 0, 0, 31, 0, .rc, 0, .warm, false⟩

/-! SWP_REPAIR (08_tally_rebuild.md) -/
def F.SWP_REPAIR.COUNT : Fld := ⟨0x38140c, 0, 0, 31, 0, .rc, 0, .warm, false⟩

/-! PTL_BLOCK_REPAIR (08_tally_rebuild.md) -/
def F.PTL_BLOCK_REPAIR.COUNT : Fld := ⟨0x381410, 0, 0, 31, 0, .rc, 0, .warm, false⟩

/-! PTL_PARITY_REPAIR (08_tally_rebuild.md) -/
def F.PTL_PARITY_REPAIR.COUNT : Fld := ⟨0x381414, 0, 0, 31, 0, .rc, 0, .warm, false⟩

/-! MIG_STATUS (08_tally_rebuild.md) -/
def F.MIG_STATUS.STATE : Fld := ⟨0x386000, 4, 0, 31, 29, .ro, 0, .warm, false⟩
def F.MIG_STATUS.PASS : Fld := ⟨0x386000, 4, 0, 23, 16, .ro, 0, .warm, false⟩
def F.MIG_STATUS.PERMILLE : Fld := ⟨0x386000, 4, 0, 9, 0, .ro, 0, .warm, false⟩

/-! MIG_RESEND (08_tally_rebuild.md) -/
def F.MIG_RESEND.COUNT : Fld := ⟨0x386100, 0, 0, 31, 0, .rc, 0, .warm, false⟩

/-! WSW_STATUS (09_whipsaw_pair.md) -/
def F.WSW_STATUS.ROLE : Fld := ⟨0x400000, 0, 0, 31, 28, .ro, 0, .warm, false⟩
def F.WSW_STATUS.SERVES : Fld := ⟨0x400000, 0, 0, 27, 26, .ro, 0, .warm, false⟩
def F.WSW_STATUS.PARTNER : Fld := ⟨0x400000, 0, 0, 25, 23, .ro, 0, .warm, false⟩
def F.WSW_STATUS.LINK_UP : Fld := ⟨0x400000, 0, 0, 22, 22, .ro, 0, .warm, false⟩
def F.WSW_STATUS.ACTIVE_IN : Fld := ⟨0x400000, 0, 0, 21, 21, .ro, 0, .warm, false⟩
def F.WSW_STATUS.ACTIVE_IN_LEADER : Fld := ⟨0x400000, 0, 0, 20, 20, .ro, 0, .warm, false⟩
def F.WSW_STATUS.FAULT_IN : Fld := ⟨0x400000, 0, 0, 19, 19, .ro, 0, .warm, false⟩
def F.WSW_STATUS.FAULT_OUT : Fld := ⟨0x400000, 0, 0, 18, 18, .ro, 0, .cold, false⟩

/-! WSW_STEP (09_whipsaw_pair.md) -/
def F.WSW_STEP.STEP : Fld := ⟨0x400008, 0, 0, 63, 0, .ro, 0, .warm, false⟩

/-! WSW_STEP_TIME (09_whipsaw_pair.md) -/
def F.WSW_STEP_TIME.US : Fld := ⟨0x400010, 0, 0, 63, 0, .ro, 0, .warm, false⟩

/-! WSW_LAG (09_whipsaw_pair.md) -/
def F.WSW_LAG.NS : Fld := ⟨0x400018, 0, 0, 31, 0, .ro, 0, .warm, false⟩

/-! WSW_CTL (09_whipsaw_pair.md) -/
def F.WSW_CTL.DETACH : Fld := ⟨0x400020, 0, 0, 2, 2, .wo, 0, .warm, false⟩
def F.WSW_CTL.RESYNC : Fld := ⟨0x400020, 0, 0, 1, 1, .wo, 0, .warm, false⟩
def F.WSW_CTL.HANDOVER : Fld := ⟨0x400020, 0, 0, 0, 0, .wo, 0, .warm, false⟩

/-! WSW_DIGEST (09_whipsaw_pair.md) -/
def F.WSW_DIGEST.VALUE : Fld := ⟨0x400028, 0, 0, 63, 0, .ro, 0, .warm, false⟩

/-! WSW_DIGEST_STEP (09_whipsaw_pair.md) -/
def F.WSW_DIGEST_STEP.VALUE : Fld := ⟨0x400030, 0, 0, 63, 0, .ro, 0, .warm, false⟩

/-! WSW_RESYNC (09_whipsaw_pair.md) -/
def F.WSW_RESYNC.PHASE : Fld := ⟨0x400038, 0, 0, 31, 29, .ro, 0, .warm, false⟩
def F.WSW_RESYNC.PERMILLE : Fld := ⟨0x400038, 0, 0, 9, 0, .ro, 0, .warm, false⟩

/-! WSW_LAST_TAKEOVER (09_whipsaw_pair.md) -/
def F.WSW_LAST_TAKEOVER.GAP : Fld := ⟨0x400040, 0, 0, 31, 16, .ro, 0, .cold, false⟩
def F.WSW_LAST_TAKEOVER.DETECT : Fld := ⟨0x400040, 0, 0, 15, 0, .ro, 0, .cold, false⟩

/-! WSW_HB_MISS (09_whipsaw_pair.md) -/
def F.WSW_HB_MISS.COUNT : Fld := ⟨0x400080, 0, 0, 31, 0, .rc, 0, .warm, false⟩

/-! WSW_LINK_REPLAY (09_whipsaw_pair.md) -/
def F.WSW_LINK_REPLAY.COUNT : Fld := ⟨0x400084, 0, 0, 31, 0, .rc, 0, .warm, false⟩

/-! WSW_LINK_CRC (09_whipsaw_pair.md) -/
def F.WSW_LINK_CRC.COUNT : Fld := ⟨0x400088, 0, 0, 31, 0, .rc, 0, .warm, false⟩

/-! WSW_DIGEST_MISMATCH (09_whipsaw_pair.md) -/
def F.WSW_DIGEST_MISMATCH.COUNT : Fld := ⟨0x40008c, 0, 0, 31, 0, .rc, 0, .warm, false⟩

/-! WSW_READ_DROP (09_whipsaw_pair.md) -/
def F.WSW_READ_DROP.COUNT : Fld := ⟨0x400090, 0, 0, 31, 0, .rc, 0, .warm, false⟩

/-! DP_STATUS (12_drive_ports.md) -/
def F.DP_STATUS.STATE : Fld := ⟨0x480000, 0x1000, 0, 31, 28, .ro, 0, .warm, false⟩
def F.DP_STATUS.GEN : Fld := ⟨0x480000, 0x1000, 0, 27, 24, .ro, 0, .warm, false⟩
def F.DP_STATUS.WIDTH : Fld := ⟨0x480000, 0x1000, 0, 23, 22, .ro, 0, .warm, false⟩
def F.DP_STATUS.FLIT : Fld := ⟨0x480000, 0x1000, 0, 21, 21, .ro, 0, .warm, false⟩
def F.DP_STATUS.PRESENT : Fld := ⟨0x480000, 0x1000, 0, 20, 20, .ro, 0, .warm, false⟩
def F.DP_STATUS.PROXY : Fld := ⟨0x480000, 0x1000, 0, 19, 19, .ro, 0, .warm, false⟩
def F.DP_STATUS.REASON : Fld := ⟨0x480000, 0x1000, 0, 15, 8, .ro, 0, .warm, false⟩
def F.DP_STATUS.CONTAINS : Fld := ⟨0x480000, 0x1000, 0, 4, 0, .ro, 0, .warm, false⟩

/-! DP_CTL (12_drive_ports.md) -/
def F.DP_CTL.RELEASE : Fld := ⟨0x480004, 0x1000, 0, 31, 31, .wo, 0, .warm, false⟩
def F.DP_CTL.RESET : Fld := ⟨0x480004, 0x1000, 0, 30, 30, .wo, 0, .warm, false⟩

/-! DP_QUEUE (12_drive_ports.md) -/
def F.DP_QUEUE.MQES : Fld := ⟨0x480008, 0x1000, 0, 31, 16, .ro, 0, .warm, false⟩
def F.DP_QUEUE.OUTSTANDING : Fld := ⟨0x480008, 0x1000, 0, 12, 0, .ro, 0, .warm, false⟩

/-! DP_AER_UNCOR (12_drive_ports.md) -/
def F.DP_AER_UNCOR.STATUS : Fld := ⟨0x480010, 0x1000, 0, 31, 0, .w1c, 0, .warm, false⟩

/-! DP_AER_COR (12_drive_ports.md) -/
def F.DP_AER_COR.STATUS : Fld := ⟨0x480014, 0x1000, 0, 31, 0, .w1c, 0, .warm, false⟩

/-! DP_AER_HDR (12_drive_ports.md) -/
def F.DP_AER_HDR.HEADER : Fld := ⟨0x480018, 0x1000, 4, 31, 0, .ro, 0, .warm, false⟩

/-! DP_CMD_TIMEOUT (12_drive_ports.md) -/
def F.DP_CMD_TIMEOUT.COUNT : Fld := ⟨0x480040, 0x1000, 0, 31, 0, .rc, 0, .warm, false⟩

/-! DP_CPL_TIMEOUT (12_drive_ports.md) -/
def F.DP_CPL_TIMEOUT.COUNT : Fld := ⟨0x480044, 0x1000, 0, 31, 0, .rc, 0, .warm, false⟩

/-! DP_UNEXP_CPL (12_drive_ports.md) -/
def F.DP_UNEXP_CPL.COUNT : Fld := ⟨0x480048, 0x1000, 0, 31, 0, .rc, 0, .warm, false⟩

/-! DP_INBOUND_UR (12_drive_ports.md) -/
def F.DP_INBOUND_UR.COUNT : Fld := ⟨0x48004c, 0x1000, 0, 31, 0, .rc, 0, .warm, false⟩

/-! DP_CONTAIN (12_drive_ports.md) -/
def F.DP_CONTAIN.COUNT : Fld := ⟨0x480050, 0x1000, 0, 31, 0, .rc, 0, .warm, false⟩

/-! DP_PROXY (12_drive_ports.md) -/
def F.DP_PROXY.COUNT : Fld := ⟨0x480054, 0x1000, 0, 31, 0, .rc, 0, .warm, false⟩

/-! DP_POISON (12_drive_ports.md) -/
def F.DP_POISON.COUNT : Fld := ⟨0x480058, 0x1000, 0, 31, 0, .rc, 0, .warm, false⟩

/-! SLOT_CTL (13_slot_power.md) -/
def F.SLOT_CTL.ENABLE : Fld := ⟨0x500000, 0x100, 0, 0, 0, .rw, 0, .warm, true⟩

/-! SLOT_STATUS (13_slot_power.md) -/
def F.SLOT_STATUS.STATE : Fld := ⟨0x500004, 0x100, 0, 31, 29, .ro, 0, .warm, false⟩
def F.SLOT_STATUS.PRESENT : Fld := ⟨0x500004, 0x100, 0, 28, 28, .ro, 0, .warm, false⟩
def F.SLOT_STATUS.PRSNT_LOCAL : Fld := ⟨0x500004, 0x100, 0, 27, 27, .ro, 0, .warm, false⟩
def F.SLOT_STATUS.SUPPLY_OK : Fld := ⟨0x500004, 0x100, 0, 26, 26, .ro, 0, .warm, false⟩
def F.SLOT_STATUS.PG : Fld := ⟨0x500004, 0x100, 0, 25, 25, .ro, 0, .warm, false⟩
def F.SLOT_STATUS.LIMIT : Fld := ⟨0x500004, 0x100, 0, 24, 24, .ro, 0, .warm, false⟩
def F.SLOT_STATUS.CAUSE : Fld := ⟨0x500004, 0x100, 0, 23, 22, .ro, 0, .warm, false⟩
def F.SLOT_STATUS.HOLD : Fld := ⟨0x500004, 0x100, 0, 21, 21, .ro, 0, .warm, false⟩
def F.SLOT_STATUS.TIMER_US : Fld := ⟨0x500004, 0x100, 0, 14, 0, .ro, 0, .warm, false⟩

/-! SLOT_MEAS (13_slot_power.md) -/
def F.SLOT_MEAS.CURRENT : Fld := ⟨0x500008, 0x100, 0, 31, 16, .ro, 0, .warm, false⟩
def F.SLOT_MEAS.VOUT : Fld := ⟨0x500008, 0x100, 0, 15, 0, .ro, 0, .warm, false⟩

/-! SLOT_SUPPLY (13_slot_power.md) -/
def F.SLOT_SUPPLY.SUPPLY : Fld := ⟨0x50000c, 0x100, 0, 15, 0, .ro, 0, .warm, false⟩

/-! SLOT_TRIPS (13_slot_power.md) -/
def F.SLOT_TRIPS.COUNT : Fld := ⟨0x500020, 0x100, 0, 31, 0, .rc, 0, .warm, false⟩

/-! SLOT_PG_DROP (13_slot_power.md) -/
def F.SLOT_PG_DROP.COUNT : Fld := ⟨0x500024, 0x100, 0, 31, 0, .rc, 0, .warm, false⟩

/-! SLOT_LIMIT (13_slot_power.md) -/
def F.SLOT_LIMIT.COUNT : Fld := ⟨0x500028, 0x100, 0, 31, 0, .rc, 0, .warm, false⟩

/-! SLOT_SUPPLY_OUT (13_slot_power.md) -/
def F.SLOT_SUPPLY_OUT.COUNT : Fld := ⟨0x50002c, 0x100, 0, 31, 0, .rc, 0, .warm, false⟩

/-! MEM_SELFTEST (16_memory_integrity.md) -/
def F.MEM_SELFTEST.DONE : Fld := ⟨0x520000, 0, 0, 31, 31, .ro, 0, .warm, false⟩
def F.MEM_SELFTEST.FAIL : Fld := ⟨0x520000, 0, 0, 12, 0, .ro, 0, .warm, false⟩

/-! MEM_LOG_STATUS (16_memory_integrity.md) -/
def F.MEM_LOG_STATUS.OVERFLOW : Fld := ⟨0x520010, 0, 0, 31, 31, .w1c, 0, .warm, false⟩
def F.MEM_LOG_STATUS.HEAD : Fld := ⟨0x520010, 0, 0, 27, 16, .ro, 0, .warm, false⟩
def F.MEM_LOG_STATUS.COUNT : Fld := ⟨0x520010, 0, 0, 12, 0, .ro, 0, .warm, false⟩

/-! MEM_LOG_RELEASE (16_memory_integrity.md) -/
def F.MEM_LOG_RELEASE.N : Fld := ⟨0x520014, 0, 0, 12, 0, .wo, 0, .warm, false⟩

/-! MEM_RETIRE (16_memory_integrity.md) -/
def F.MEM_RETIRE.KIND : Fld := ⟨0x520020, 0, 0, 63, 62, .wo, 0, .warm, false⟩
def F.MEM_RETIRE.INDEX : Fld := ⟨0x520020, 0, 0, 31, 0, .wo, 0, .warm, false⟩

/-! MEM_RETIRE_STATUS (16_memory_integrity.md) -/
def F.MEM_RETIRE_STATUS.BUSY : Fld := ⟨0x520028, 0, 0, 31, 31, .ro, 0, .warm, false⟩
def F.MEM_RETIRE_STATUS.RESULT : Fld := ⟨0x520028, 0, 0, 27, 24, .ro, 0, .warm, false⟩
def F.MEM_RETIRE_STATUS.SPARE_FREE : Fld := ⟨0x520028, 0, 0, 17, 0, .ro, 0, .warm, false⟩

/-! MEM_INJECT (16_memory_integrity.md) -/
def F.MEM_INJECT.KIND : Fld := ⟨0x520030, 0, 0, 63, 62, .wo, 0, .warm, false⟩
def F.MEM_INJECT.YARD : Fld := ⟨0x520030, 0, 0, 61, 61, .wo, 0, .warm, false⟩
def F.MEM_INJECT.ADDRESS : Fld := ⟨0x520030, 0, 0, 39, 3, .wo, 0, .warm, false⟩

/-! CRS_POS_HBM (16_memory_integrity.md) -/
def F.CRS_POS_HBM.ADDRESS : Fld := ⟨0x520040, 0, 0, 63, 0, .ro, 0, .cold, false⟩

/-! CRS_POS_SRAM (16_memory_integrity.md) -/
def F.CRS_POS_SRAM.ADDRESS : Fld := ⟨0x520048, 0, 0, 63, 0, .ro, 0, .cold, false⟩

/-! MEM_CE (16_memory_integrity.md) -/
def F.MEM_CE.COUNT : Fld := ⟨0x520080, 0, 0, 31, 0, .rc, 0, .warm, false⟩

/-! MEM_UE (16_memory_integrity.md) -/
def F.MEM_UE.COUNT : Fld := ⟨0x520084, 0, 0, 31, 0, .rc, 0, .warm, false⟩

/-! MEM_POISON_READ (16_memory_integrity.md) -/
def F.MEM_POISON_READ.COUNT : Fld := ⟨0x520088, 0, 0, 31, 0, .rc, 0, .warm, false⟩

/-! MEM_REPAIR (16_memory_integrity.md) -/
def F.MEM_REPAIR.COUNT : Fld := ⟨0x52008c, 0, 0, 31, 0, .rc, 0, .warm, false⟩

/-! CRS_CORRECTED (16_memory_integrity.md) -/
def F.CRS_CORRECTED.COUNT : Fld := ⟨0x520090, 0, 0, 31, 0, .rc, 0, .warm, false⟩

/-! MEM_LOG_DROP (16_memory_integrity.md) -/
def F.MEM_LOG_DROP.COUNT : Fld := ⟨0x520094, 0, 0, 31, 0, .rc, 0, .warm, false⟩

/-! LSM_DESC (16_memory_integrity.md) -/
def F.LSM_DESC.ADDR : Fld := ⟨0x540000, 0, 0, 35, 0, .wo, 0, .warm, false⟩

/-! LSM_STATUS (16_memory_integrity.md) -/
def F.LSM_STATUS.BUSY : Fld := ⟨0x540008, 0, 0, 31, 31, .ro, 0, .warm, false⟩
def F.LSM_STATUS.RESULT : Fld := ⟨0x540008, 0, 0, 27, 24, .ro, 0, .warm, false⟩

/-! LSM_OUT_LEN (16_memory_integrity.md) -/
def F.LSM_OUT_LEN.BYTES : Fld := ⟨0x54000c, 0, 0, 31, 0, .ro, 0, .warm, false⟩

/-! LSM_NONCE (16_memory_integrity.md) -/
def F.LSM_NONCE.VALUE : Fld := ⟨0x540010, 0, 0, 63, 0, .ro, 0, .warm, false⟩

/-! LSM_CEILING (16_memory_integrity.md) -/
def F.LSM_CEILING.VALUE : Fld := ⟨0x540018, 0, 0, 63, 0, .ro, 0, .warm, false⟩

/-! LSM_ID (16_memory_integrity.md) -/
def F.LSM_ID.ID : Fld := ⟨0x540020, 0, 0, 31, 0, .ro, 0, .por, false⟩

/-! LSM_JOBS (16_memory_integrity.md) -/
def F.LSM_JOBS.COUNT : Fld := ⟨0x540040, 0, 0, 31, 0, .rc, 0, .warm, false⟩

/-! LSM_AUTH_FAIL (16_memory_integrity.md) -/
def F.LSM_AUTH_FAIL.COUNT : Fld := ⟨0x540044, 0, 0, 31, 0, .rc, 0, .warm, false⟩

/-! LSM_REFUSED (16_memory_integrity.md) -/
def F.LSM_REFUSED.COUNT : Fld := ⟨0x540048, 0, 0, 31, 0, .rc, 0, .warm, false⟩

/-! SCL_CNT (17_observability.md) -/
def F.SCL_CNT.COUNT : Fld := ⟨0x580000, 8, 0, 47, 0, .rw, 0, .warm, false⟩

/-! SCL_SEL (17_observability.md) -/
def F.SCL_SEL.ENABLE : Fld := ⟨0x582000, 4, 0, 31, 31, .rw, 0, .warm, false⟩
def F.SCL_SEL.UREAD : Fld := ⟨0x582000, 4, 0, 30, 30, .rw, 0, .warm, false⟩
def F.SCL_SEL.BAD : Fld := ⟨0x582000, 4, 0, 29, 29, .ro, 0, .warm, false⟩
def F.SCL_SEL.INSTANCE : Fld := ⟨0x582000, 4, 0, 23, 16, .rw, 0, .warm, false⟩
def F.SCL_SEL.UNIT : Fld := ⟨0x582000, 4, 0, 15, 12, .rw, 0, .warm, false⟩
def F.SCL_SEL.EVENT : Fld := ⟨0x582000, 4, 0, 7, 0, .rw, 0, .warm, false⟩

/-! SCL_OVF (17_observability.md) -/
def F.SCL_OVF.OVF : Fld := ⟨0x583000, 4, 0, 31, 0, .w1c, 0, .warm, false⟩

/-! SCL_CTL (17_observability.md) -/
def F.SCL_CTL.RUN : Fld := ⟨0x583100, 0, 0, 0, 0, .rw, 0, .warm, false⟩

/-! SCL_START_AT (17_observability.md) -/
def F.SCL_START_AT.TIME : Fld := ⟨0x583108, 0, 0, 63, 0, .rw, 0, .warm, false⟩

/-! SCL_STOP_AT (17_observability.md) -/
def F.SCL_STOP_AT.TIME : Fld := ⟨0x583110, 0, 0, 63, 0, .rw, 0, .warm, false⟩

/-! SMP_CTL (17_observability.md) -/
def F.SMP_CTL.TENANT : Fld := ⟨0x584000, 0x20, 0, 31, 31, .rw, 0, .warm, false⟩
def F.SMP_CTL.SIZE_LOG2 : Fld := ⟨0x584000, 0x20, 0, 28, 24, .rw, 7, .warm, false⟩
def F.SMP_CTL.PERIOD : Fld := ⟨0x584000, 0x20, 0, 23, 0, .rw, 0, .warm, false⟩

/-! SMP_BASE (17_observability.md) -/
def F.SMP_BASE.ADDR : Fld := ⟨0x584008, 0x20, 0, 35, 0, .rw, 0, .warm, false⟩

/-! SMP_HEAD (17_observability.md) -/
def F.SMP_HEAD.INDEX : Fld := ⟨0x584010, 0x20, 0, 24, 0, .ro, 0, .warm, false⟩

/-! SMP_TAIL (17_observability.md) -/
def F.SMP_TAIL.INDEX : Fld := ⟨0x584014, 0x20, 0, 24, 0, .rw, 0, .warm, false⟩

/-! SMP_DROP (17_observability.md) -/
def F.SMP_DROP.COUNT : Fld := ⟨0x584018, 0x20, 0, 31, 0, .rc, 0, .warm, false⟩

/-! LDG_STATUS (17_observability.md) -/
def F.LDG_STATUS.FROZEN : Fld := ⟨0x5c0000, 0, 0, 31, 31, .ro, 0, .por, false⟩
def F.LDG_STATUS.TAIL_LEFT : Fld := ⟨0x5c0000, 0, 0, 26, 16, .ro, 0, .por, false⟩
def F.LDG_STATUS.HEAD : Fld := ⟨0x5c0000, 0, 0, 15, 0, .ro, 0, .por, false⟩

/-! LDG_CTL (17_observability.md) -/
def F.LDG_CTL.FREEZE : Fld := ⟨0x5c0004, 0, 0, 1, 1, .wo, 0, .por, false⟩
def F.LDG_CTL.THAW : Fld := ⟨0x5c0004, 0, 0, 0, 0, .wo, 0, .por, false⟩

/-! LDG_SEQ (17_observability.md) -/
def F.LDG_SEQ.NEXT : Fld := ⟨0x5c0008, 0, 0, 63, 0, .ro, 1, .por, false⟩

/-! LDG_VAULT_ADDR (17_observability.md) -/
def F.LDG_VAULT_ADDR.ADDR : Fld := ⟨0x5c0010, 0, 0, 35, 0, .ro, 0, .cold, false⟩

/-! LDG_LOST (17_observability.md) -/
def F.LDG_LOST.COUNT : Fld := ⟨0x5c0020, 0, 0, 31, 0, .rc, 0, .por, false⟩

/-! LDG_SUPPRESSED (17_observability.md) -/
def F.LDG_SUPPRESSED.COUNT : Fld := ⟨0x5c0024, 0, 0, 31, 0, .rc, 0, .por, false⟩

/-! ENG_STATUS (15_engines_events.md) -/
def F.ENG_STATUS.STATE : Fld := ⟨0x600000, 0x4000, 0, 31, 29, .ro, 0, .warm, false⟩
def F.ENG_STATUS.MODE : Fld := ⟨0x600000, 0x4000, 0, 28, 27, .ro, 0, .warm, false⟩
def F.ENG_STATUS.TENANT : Fld := ⟨0x600000, 0x4000, 0, 26, 26, .ro, 0, .warm, true⟩
def F.ENG_STATUS.CONTEXT : Fld := ⟨0x600000, 0x4000, 0, 25, 23, .ro, 0, .warm, false⟩
def F.ENG_STATUS.PRIORITY : Fld := ⟨0x600000, 0x4000, 0, 22, 19, .ro, 0, .warm, false⟩

/-! ENG_PC (15_engines_events.md) -/
def F.ENG_PC.PC : Fld := ⟨0x600008, 0x4000, 0, 63, 0, .ro, 0, .warm, false⟩

/-! DMA_DESC (15_engines_events.md) -/
def F.DMA_DESC.ADDR : Fld := ⟨0x600100, 0x4000, 0x40, 35, 0, .wo, 0, .warm, false⟩

/-! DMA_CTL (15_engines_events.md) -/
def F.DMA_CTL.ABORT : Fld := ⟨0x600104, 0x4000, 0x40, 1, 1, .wo, 0, .warm, false⟩
def F.DMA_CTL.RESUME : Fld := ⟨0x600104, 0x4000, 0x40, 0, 0, .wo, 0, .warm, false⟩

/-! DMA_STATUS (15_engines_events.md) -/
def F.DMA_STATUS.STATE : Fld := ⟨0x600108, 0x4000, 0x40, 31, 30, .ro, 0, .warm, false⟩
def F.DMA_STATUS.LAST : Fld := ⟨0x600108, 0x4000, 0x40, 29, 27, .ro, 0, .warm, false⟩

/-! DMA_DONE (15_engines_events.md) -/
def F.DMA_DONE.VALUE : Fld := ⟨0x600110, 0x4000, 0x40, 63, 0, .ro, 0, .warm, false⟩

/-! DMA_FAULT_VA (15_engines_events.md) -/
def F.DMA_FAULT_VA.VALUE : Fld := ⟨0x600118, 0x4000, 0x40, 63, 0, .ro, 0, .warm, false⟩

/-! DMA_REFUSED (15_engines_events.md) -/
def F.DMA_REFUSED.COUNT : Fld := ⟨0x600120, 0x4000, 0x40, 31, 0, .rc, 0, .warm, false⟩

/-! PWR_STATE (18_power_reset_boot.md) -/
def F.PWR_STATE.STATE : Fld := ⟨0x800000, 0, 0, 31, 28, .ro, 0, .por, false⟩
def F.PWR_STATE.READY : Fld := ⟨0x800000, 0, 0, 27, 27, .ro, 0, .warm, false⟩
def F.PWR_STATE.PONR : Fld := ⟨0x800000, 0, 0, 26, 26, .ro, 0, .warm, false⟩
def F.PWR_STATE.WRITE_THROUGH : Fld := ⟨0x800000, 0, 0, 25, 25, .ro, 0, .warm, false⟩
def F.PWR_STATE.UNSAVED : Fld := ⟨0x800000, 0, 0, 24, 24, .ro, 0, .por, false⟩
def F.PWR_STATE.BOOT_STEP : Fld := ⟨0x800000, 0, 0, 3, 0, .ro, 0, .warm, false⟩

/-! PWR_CTL (18_power_reset_boot.md) -/
def F.PWR_CTL.FATAL_HALT : Fld := ⟨0x800004, 0, 0, 31, 31, .rw, 0, .por, false⟩
def F.PWR_CTL.WAKE : Fld := ⟨0x800004, 0, 0, 3, 3, .wo, 0, .warm, false⟩
def F.PWR_CTL.WARM : Fld := ⟨0x800004, 0, 0, 2, 2, .wo, 0, .warm, false⟩
def F.PWR_CTL.ENTER : Fld := ⟨0x800004, 0, 0, 1, 0, .wo, 0, .warm, false⟩

/-! RST_CAUSE (18_power_reset_boot.md) -/
def F.RST_CAUSE.RECOVERY : Fld := ⟨0x800008, 0, 0, 7, 7, .ro, 0, .cold, false⟩
def F.RST_CAUSE.POR : Fld := ⟨0x800008, 0, 0, 6, 6, .w1c, 1, .por, false⟩
def F.RST_CAUSE.SYS_PIN : Fld := ⟨0x800008, 0, 0, 5, 5, .w1c, 0, .por, false⟩
def F.RST_CAUSE.FATAL : Fld := ⟨0x800008, 0, 0, 4, 4, .w1c, 0, .por, false⟩
def F.RST_CAUSE.WATCHDOG : Fld := ⟨0x800008, 0, 0, 3, 3, .w1c, 0, .por, false⟩
def F.RST_CAUSE.WARM_PIN : Fld := ⟨0x800008, 0, 0, 2, 2, .w1c, 0, .por, false⟩
def F.RST_CAUSE.WARM_SW : Fld := ⟨0x800008, 0, 0, 1, 1, .w1c, 0, .por, false⟩
def F.RST_CAUSE.WARM_PAIR : Fld := ⟨0x800008, 0, 0, 0, 0, .w1c, 0, .por, false⟩

/-! PWR_PINS (18_power_reset_boot.md) -/
def F.PWR_PINS.PWRFAIL : Fld := ⟨0x80000c, 0, 0, 3, 3, .ro, 0, .por, false⟩
def F.PWR_PINS.HOLDUP_OK : Fld := ⟨0x80000c, 0, 0, 2, 2, .ro, 0, .por, false⟩
def F.PWR_PINS.PWRFAIL_SEEN : Fld := ⟨0x80000c, 0, 0, 1, 1, .w1c, 0, .por, false⟩
def F.PWR_PINS.HOLDUP_DROP : Fld := ⟨0x80000c, 0, 0, 0, 0, .w1c, 0, .por, false⟩

/-! PWR_WDOG (18_power_reset_boot.md) -/
def F.PWR_WDOG.ARMED : Fld := ⟨0x800010, 0, 0, 31, 31, .ro, 0, .warm, false⟩
def F.PWR_WDOG.REMAIN_US : Fld := ⟨0x800010, 0, 0, 30, 0, .ro, 0, .warm, false⟩

/-! PWR_BOOT_TIME (18_power_reset_boot.md) -/
def F.PWR_BOOT_TIME.MS : Fld := ⟨0x801000, 0, 0, 31, 0, .ro, 0, .warm, false⟩

/-! PWR_ENTRY_COUNT (18_power_reset_boot.md) -/
def F.PWR_ENTRY_COUNT.COUNT : Fld := ⟨0x801008, 0, 0, 31, 0, .rc, 0, .warm, false⟩

/-! THERM_STATUS (20_package_electrical.md) -/
def F.THERM_STATUS.TRIP : Fld := ⟨0x802000, 0, 0, 31, 31, .ro, 0, .cold, false⟩
def F.THERM_STATUS.HOT : Fld := ⟨0x802000, 0, 0, 30, 30, .ro, 0, .warm, false⟩
def F.THERM_STATUS.HBM_C : Fld := ⟨0x802000, 0, 0, 15, 8, .ro, 0, .warm, false⟩
def F.THERM_STATUS.HUB_C : Fld := ⟨0x802000, 0, 0, 7, 0, .ro, 0, .warm, false⟩

/-! AVS_STATUS (20_package_electrical.md) -/
def F.AVS_STATUS.DONE : Fld := ⟨0x802004, 0, 0, 31, 31, .ro, 0, .warm, false⟩
def F.AVS_STATUS.NACK : Fld := ⟨0x802004, 0, 0, 30, 30, .ro, 0, .warm, false⟩
def F.AVS_STATUS.MV : Fld := ⟨0x802004, 0, 0, 15, 0, .ro, 0, .por, false⟩

/-! FWU_STATUS (19_firmware_update.md) -/
def F.FWU_STATUS.RECOVERY : Fld := ⟨0xa00000, 0, 0, 31, 31, .ro, 0, .warm, false⟩
def F.FWU_STATUS.RUNNING : Fld := ⟨0xa00000, 0, 0, 30, 30, .ro, 0, .warm, false⟩
def F.FWU_STATUS.TRIAL : Fld := ⟨0xa00000, 0, 0, 29, 29, .ro, 0, .warm, false⟩
def F.FWU_STATUS.DELIVERY : Fld := ⟨0xa00000, 0, 0, 28, 28, .ro, 0, .warm, false⟩
def F.FWU_STATUS.PHASE : Fld := ⟨0xa00000, 0, 0, 27, 24, .ro, 0, .warm, false⟩
def F.FWU_STATUS.FUSED : Fld := ⟨0xa00000, 0, 0, 22, 16, .ro, 0, .por, false⟩

/-! FWU_TRIAL (19_firmware_update.md) -/
def F.FWU_TRIAL.WINDOW_MIN : Fld := ⟨0xa00004, 0, 0, 31, 24, .ro, 0, .warm, false⟩
def F.FWU_TRIAL.BOOTS_LEFT : Fld := ⟨0xa00004, 0, 0, 17, 16, .ro, 0, .warm, false⟩
def F.FWU_TRIAL.REMAIN_S : Fld := ⟨0xa00004, 0, 0, 15, 0, .ro, 0, .warm, false⟩

/-! FWU_SLOT (19_firmware_update.md) -/
def F.FWU_SLOT.STATE : Fld := ⟨0xa00010, 4, 0, 31, 29, .ro, 0, .warm, false⟩
def F.FWU_SLOT.VERIFY : Fld := ⟨0xa00010, 4, 0, 23, 16, .ro, 0, .warm, false⟩
def F.FWU_SLOT.CAUSE : Fld := ⟨0xa00010, 4, 0, 15, 8, .ro, 0, .warm, false⟩
def F.FWU_SLOT.SECURITY : Fld := ⟨0xa00010, 4, 0, 6, 0, .ro, 0, .warm, false⟩

/-! FWU_VERSION (19_firmware_update.md) -/
def F.FWU_VERSION.VALUE : Fld := ⟨0xa00020, 8, 0, 63, 0, .ro, 0, .warm, false⟩

/-! FWU_ACT_SEQ (19_firmware_update.md) -/
def F.FWU_ACT_SEQ.VALUE : Fld := ⟨0xa00030, 8, 0, 63, 0, .ro, 0, .warm, false⟩

/-! FWU_DELIVERED (19_firmware_update.md) -/
def F.FWU_DELIVERED.BYTES : Fld := ⟨0xa00040, 0, 0, 31, 0, .ro, 0, .flr, false⟩

/-! FWU_FALLBACKS (19_firmware_update.md) -/
def F.FWU_FALLBACKS.COUNT : Fld := ⟨0xa00080, 0, 0, 31, 0, .rc, 0, .warm, false⟩

/-! DVSEC_0C (14_service_port.md) -/
def F.DVSEC_0C.FROZEN : Fld := ⟨0x4000164, 0, 0, 31, 31, .ro, 0, .flr, false⟩
def F.DVSEC_0C.FREEZE_CAUSE : Fld := ⟨0x4000164, 0, 0, 23, 16, .ro, 0, .flr, false⟩
def F.DVSEC_0C.READY : Fld := ⟨0x4000164, 0, 0, 1, 1, .ro, 0, .warm, false⟩
def F.DVSEC_0C.SIDE : Fld := ⟨0x4000164, 0, 0, 0, 0, .ro, 0, .cold, false⟩

/-! DVSEC_10 (14_service_port.md) -/
def F.DVSEC_10.RELEASE : Fld := ⟨0x4000168, 0, 0, 0, 0, .wo, 0, .flr, false⟩

/-! DVSEC_14 (14_service_port.md) -/

/-! DVSEC_18 (14_service_port.md) -/

/-- Rows 0 to 24 of the register map. -/
def regRows0 : List RegRow := [
  ⟨"GLB_ID", 0, 0, 1, 0, 1, 32, [F.GLB_ID.DEVICE, F.GLB_ID.VENDOR]⟩,
  ⟨"GLB_REV", 4, 0, 1, 0, 1, 32, [F.GLB_REV.FAMILY, F.GLB_REV.REVISION]⟩,
  ⟨"GLB_SIDE", 8, 0, 1, 0, 1, 32, [F.GLB_SIDE.PROFILE, F.GLB_SIDE.SIDE]⟩,
  ⟨"GLB_SHELF_ID", 0x10, 0, 1, 0, 1, 64, [F.GLB_SHELF_ID.SHELF_ID]⟩,
  ⟨"GLB_ISLAND_UP", 0x20, 0, 1, 0, 1, 64, [F.GLB_ISLAND_UP.UP]⟩,
  ⟨"GLB_BRIDGE_FAULT", 0x28, 0, 1, 0, 1, 32, [F.GLB_BRIDGE_FAULT.VALID, F.GLB_BRIDGE_FAULT.COUNT, F.GLB_BRIDGE_FAULT.CAUSE, F.GLB_BRIDGE_FAULT.ISLAND]⟩,
  ⟨"XLT_INVAL", 0x8000, 0, 1, 0, 1, 64, [F.XLT_INVAL.SCOPE, F.XLT_INVAL.ASID, F.XLT_INVAL.VPN]⟩,
  ⟨"XLT_STATUS", 0x8008, 0, 1, 0, 1, 32, [F.XLT_STATUS.IDLE]⟩,
  ⟨"XLT_FAULTS", 0x8010, 0, 1, 0, 1, 32, [F.XLT_FAULTS.COUNT]⟩,
  ⟨"XLT_TENANT_FAULT", 0x8014, 0, 1, 0, 1, 32, [F.XLT_TENANT_FAULT.COUNT]⟩,
  ⟨"TASK_CMD", 0x10000, 4, 16, 0, 1, 32, [F.TASK_CMD.WORD]⟩,
  ⟨"TASK_GO", 0x10040, 0, 1, 0, 1, 32, [F.TASK_GO.GO]⟩,
  ⟨"TASK_STATUS", 0x10044, 0, 1, 0, 1, 32, [F.TASK_STATUS.BUSY, F.TASK_STATUS.DONE, F.TASK_STATUS.REFUSED, F.TASK_STATUS.DEFERRED, F.TASK_STATUS.CODE]⟩,
  ⟨"TASK_RESULT", 0x10048, 4, 4, 0, 1, 32, [F.TASK_RESULT.VALUE]⟩,
  ⟨"TASK_TAG", 0x10058, 0, 1, 0, 1, 32, [F.TASK_TAG.TAG]⟩,
  ⟨"TASK_SIG_NONCE", 0x10060, 0, 1, 0, 1, 64, [F.TASK_SIG_NONCE.NONCE]⟩,
  ⟨"TASK_REFUSALS", 0x10070, 0, 1, 0, 1, 32, [F.TASK_REFUSALS.COUNT]⟩,
  ⟨"SVC_BAR2_WRITE", 0x10074, 0, 1, 0, 1, 32, [F.SVC_BAR2_WRITE.COUNT]⟩,
  ⟨"SVC_FREEZES", 0x10078, 0, 1, 0, 1, 32, [F.SVC_FREEZES.COUNT]⟩,
  ⟨"SVC_STATUS", 0x10100, 0, 1, 0, 1, 32, [F.SVC_STATUS.FROZEN, F.SVC_STATUS.D3, F.SVC_STATUS.SPEED, F.SVC_STATUS.WIDTH]⟩,
  ⟨"SVC_WIN_BASE", 0x10108, 0, 1, 0, 1, 32, [F.SVC_WIN_BASE.GIB]⟩,
  ⟨"EVT_STATUS", 0x20000, 4, 40, 0, 1, 32, [F.EVT_STATUS.STATUS]⟩,
  ⟨"EVT_MASK", 0x20100, 4, 40, 0, 1, 32, [F.EVT_MASK.MASK]⟩,
  ⟨"EVT_RAISE", 0x20200, 0, 1, 0, 1, 32, [F.EVT_RAISE.EVENT]⟩,
  ⟨"PAT_STATUS", 0x40000, 0, 1, 0, 1, 32, [F.PAT_STATUS.LOADED, F.PAT_STATUS.FACTORY_ONLY, F.PAT_STATUS.WARN, F.PAT_STATUS.ERROR, F.PAT_STATUS.SOURCE, F.PAT_STATUS.MAJOR, F.PAT_STATUS.MINOR]⟩]

/-- Rows 25 to 49 of the register map. -/
def regRows1 : List RegRow := [
  ⟨"PAT_ERROR", 0x40004, 0, 1, 0, 1, 32, [F.PAT_ERROR.CODE, F.PAT_ERROR.RECORD]⟩,
  ⟨"PAT_ERROR_OFS", 0x40008, 0, 1, 0, 1, 32, [F.PAT_ERROR_OFS.OFFSET]⟩,
  ⟨"PAT_WARN", 0x4000c, 0, 1, 0, 1, 32, [F.PAT_WARN.COUNT, F.PAT_WARN.CODE]⟩,
  ⟨"PAT_LIVE_SEQ", 0x40010, 0, 1, 0, 1, 64, [F.PAT_LIVE_SEQ.SEQUENCE]⟩,
  ⟨"PAT_PENDING", 0x40018, 0, 1, 0, 1, 32, [F.PAT_PENDING.PAIR_ROLL, F.PAT_PENDING.COLD]⟩,
  ⟨"STORE_STATUS", 0x4001c, 0, 1, 0, 1, 32, [F.STORE_STATUS.BUSY, F.STORE_STATUS.RESULT, F.STORE_STATUS.UNUSABLE, F.STORE_STATUS.VALID, F.STORE_STATUS.CURRENT]⟩,
  ⟨"STORE_SEQ", 0x40020, 0, 1, 0, 1, 64, [F.STORE_SEQ.STORE_SEQ]⟩,
  ⟨"HP_PORT_STATUS", 0x80000, 0x20000, 4, 0, 1, 32, [F.HP_PORT_STATUS.LINK, F.HP_PORT_STATUS.LANE_LOCK, F.HP_PORT_STATUS.MODE]⟩,
  ⟨"HP_FEC_CORR", 0x80010, 0x20000, 4, 0, 1, 32, [F.HP_FEC_CORR.COUNT]⟩,
  ⟨"HP_FEC_UNCORR", 0x80014, 0x20000, 4, 0, 1, 32, [F.HP_FEC_UNCORR.COUNT]⟩,
  ⟨"HP_LP_CTL", 0x81000, 0x20000, 4, 0x1000, 8, 32, [F.HP_LP_CTL.AN, F.HP_LP_CTL.OBEY, F.HP_LP_CTL.OBEY_URGENT, F.HP_LP_CTL.MIRROR_A_EN, F.HP_LP_CTL.MIRROR_B_EN, F.HP_LP_CTL.MIRROR_A, F.HP_LP_CTL.MIRROR_B, F.HP_LP_CTL.PFC_TX]⟩,
  ⟨"HP_LP_MAC", 0x81008, 0x20000, 4, 0x1000, 8, 64, [F.HP_LP_MAC.ADDRESS]⟩,
  ⟨"HP_LP_PAUSE", 0x81010, 0x20000, 4, 0x1000, 8, 32, [F.HP_LP_PAUSE.TRIPPED, F.HP_LP_PAUSE.PAUSED, F.HP_LP_PAUSE.XOFF]⟩,
  ⟨"HP_LP_PAUSE_US", 0x81014, 0x20000, 4, 0x1000, 8, 32, [F.HP_LP_PAUSE_US.US]⟩,
  ⟨"HP_RX_RUNT", 0x81020, 0x20000, 4, 0x1000, 8, 32, [F.HP_RX_RUNT.COUNT]⟩,
  ⟨"HP_RX_OVERSIZE", 0x81024, 0x20000, 4, 0x1000, 8, 32, [F.HP_RX_OVERSIZE.COUNT]⟩,
  ⟨"HP_RX_FCS", 0x81028, 0x20000, 4, 0x1000, 8, 32, [F.HP_RX_FCS.COUNT]⟩,
  ⟨"HP_RX_DMAC", 0x8102c, 0x20000, 4, 0x1000, 8, 32, [F.HP_RX_DMAC.COUNT]⟩,
  ⟨"HP_RX_UNKNOWN", 0x81030, 0x20000, 4, 0x1000, 8, 32, [F.HP_RX_UNKNOWN.COUNT]⟩,
  ⟨"HP_PAUSE_RX", 0x81034, 0x20000, 4, 0x1000, 8, 32, [F.HP_PAUSE_RX.COUNT]⟩,
  ⟨"HP_PAUSE_IGNORED", 0x81038, 0x20000, 4, 0x1000, 8, 32, [F.HP_PAUSE_IGNORED.COUNT]⟩,
  ⟨"HP_PFC_TX", 0x8103c, 0x20000, 4, 0x1000, 8, 32, [F.HP_PFC_TX.COUNT]⟩,
  ⟨"HP_TX_DISCARD", 0x81040, 0x20000, 4, 0x1000, 8, 32, [F.HP_TX_DISCARD.COUNT]⟩,
  ⟨"HP_TX_STOMP", 0x81044, 0x20000, 4, 0x1000, 8, 32, [F.HP_TX_STOMP.COUNT]⟩,
  ⟨"PTP_TIME", 0x90000, 0x20000, 4, 0, 1, 64, [F.PTP_TIME.SEC, F.PTP_TIME.NS]⟩]

/-- Rows 50 to 74 of the register map. -/
def regRows2 : List RegRow := [
  ⟨"PTP_ADJ_OFS", 0x90008, 0, 1, 0, 1, 64, [F.PTP_ADJ_OFS.NS]⟩,
  ⟨"PTP_ADJ_RATE", 0x90010, 0, 1, 0, 1, 32, [F.PTP_ADJ_RATE.RATE]⟩,
  ⟨"PTP_CTL", 0x90018, 0, 1, 0, 1, 32, [F.PTP_CTL.ADJ_BUSY, F.PTP_CTL.PPS_OUT_EN]⟩,
  ⟨"PTP_TX_TS", 0x90020, 0x20000, 4, 0, 1, 64, [F.PTP_TX_TS.TIME]⟩,
  ⟨"PTP_TX_ID", 0x90028, 0x20000, 4, 0, 1, 32, [F.PTP_TX_ID.VALID, F.PTP_TX_ID.OVERFLOW, F.PTP_TX_ID.LPORT, F.PTP_TX_ID.SEQUENCE_ID]⟩,
  ⟨"PTP_PPS_IN_TS", 0x90030, 0, 1, 0, 1, 64, [F.PTP_PPS_IN_TS.TIME]⟩,
  ⟨"TC_GATE_WARN", 0x140008, 0, 1, 0, 1, 64, [F.TC_GATE_WARN.LIST]⟩,
  ⟨"TC_GATE", 0x141000, 8, 32, 0, 1, 64, [F.TC_GATE.ROUND, F.TC_GATE.ACTIVE, F.TC_GATE.PENDING, F.TC_GATE.LIST, F.TC_GATE.ENTRY, F.TC_GATE.OPEN]⟩,
  ⟨"TC_DRIVE", 0x142000, 8, 48, 0, 1, 64, [F.TC_DRIVE.ROUND, F.TC_DRIVE.FULL, F.TC_DRIVE.URGENT, F.TC_DRIVE.COUNT]⟩,
  ⟨"TC_GATE_DISCARD", 0x143000, 4, 32, 0, 1, 32, [F.TC_GATE_DISCARD.COUNT]⟩,
  ⟨"TC_MTR_GREEN", 0x150000, 0x10, 1024, 0, 1, 32, [F.TC_MTR_GREEN.COUNT]⟩,
  ⟨"TC_MTR_YELLOW", 0x150004, 0x10, 1024, 0, 1, 32, [F.TC_MTR_YELLOW.COUNT]⟩,
  ⟨"TC_MTR_RED", 0x150008, 0x10, 1024, 0, 1, 32, [F.TC_MTR_RED.COUNT]⟩,
  ⟨"TC_MTR_MARKED", 0x15000c, 0x10, 1024, 0, 1, 32, [F.TC_MTR_MARKED.COUNT]⟩,
  ⟨"FLM_STATUS", 0x200000, 0, 1, 0, 1, 32, [F.FLM_STATUS.TABLE_FULL, F.FLM_STATUS.SLOTS_FULL]⟩,
  ⟨"FLM_TABLE_USED", 0x200004, 0, 1, 0, 1, 32, [F.FLM_TABLE_USED.USED]⟩,
  ⟨"FLM_SLOT_USED", 0x200008, 0, 1, 0, 1, 32, [F.FLM_SLOT_USED.USED]⟩,
  ⟨"FLM_TABLE_HOLD", 0x20000c, 0, 1, 0, 1, 32, [F.FLM_TABLE_HOLD.OLDEST_US]⟩,
  ⟨"FLM_DROP_IP", 0x200010, 0, 1, 0, 1, 32, [F.FLM_DROP_IP.COUNT]⟩,
  ⟨"FLM_DROP_FORMAT", 0x200014, 0, 1, 0, 1, 32, [F.FLM_DROP_FORMAT.COUNT]⟩,
  ⟨"FLM_DROP_EPOCH", 0x200018, 0, 1, 0, 1, 32, [F.FLM_DROP_EPOCH.COUNT]⟩,
  ⟨"FLM_DROP_AUTH", 0x20001c, 0, 1, 0, 1, 32, [F.FLM_DROP_AUTH.COUNT]⟩,
  ⟨"FLM_DUP", 0x200020, 0, 1, 0, 1, 32, [F.FLM_DUP.COUNT]⟩,
  ⟨"FLM_LATE_RESP", 0x200024, 0, 1, 0, 1, 32, [F.FLM_LATE_RESP.COUNT]⟩,
  ⟨"FLM_NACK_TX", 0x200028, 0, 1, 0, 1, 32, [F.FLM_NACK_TX.COUNT]⟩]

/-- Rows 75 to 99 of the register map. -/
def regRows3 : List RegRow := [
  ⟨"FLM_BUSY_TX", 0x20002c, 0, 1, 0, 1, 32, [F.FLM_BUSY_TX.COUNT]⟩,
  ⟨"FLM_RX_EXPIRED", 0x200030, 0, 1, 0, 1, 32, [F.FLM_RX_EXPIRED.COUNT]⟩,
  ⟨"FLM_MSG_FAIL", 0x200034, 0, 1, 0, 1, 32, [F.FLM_MSG_FAIL.COUNT]⟩,
  ⟨"FLM_LAST_NACK", 0x200040, 0, 1, 0, 1, 64, [F.FLM_LAST_NACK.PEER, F.FLM_LAST_NACK.REASON, F.FLM_LAST_NACK.OPCODE, F.FLM_LAST_NACK.VALID]⟩,
  ⟨"FLM_WIN_COMMIT", 0x208000, 0, 1, 0, 1, 32, [F.FLM_WIN_COMMIT.GEN, F.FLM_WIN_COMMIT.STAGED, F.FLM_WIN_COMMIT.INDEX]⟩,
  ⟨"FLM_WIN_RESULT", 0x208004, 0, 1, 0, 1, 32, [F.FLM_WIN_RESULT.BUSY, F.FLM_WIN_RESULT.RESULT, F.FLM_WIN_RESULT.INDEX]⟩,
  ⟨"FLM_WIN_STAGE_BASE", 0x208008, 0, 1, 0, 1, 64, [F.FLM_WIN_STAGE_BASE.BASE]⟩,
  ⟨"FLM_WIN_STAGE_LEN", 0x208010, 0, 1, 0, 1, 64, [F.FLM_WIN_STAGE_LEN.LENGTH]⟩,
  ⟨"FLM_WIN_STAGE_ATTR", 0x208018, 0, 1, 0, 1, 32, [F.FLM_WIN_STAGE_ATTR.ASID, F.FLM_WIN_STAGE_ATTR.RIGHTS]⟩,
  ⟨"FLM_WIN_STAGE_SCOPE", 0x20801c, 0, 1, 0, 1, 32, [F.FLM_WIN_STAGE_SCOPE.SCOPE]⟩,
  ⟨"FLM_DRAIN_WQ", 0x208020, 0, 1, 0, 1, 32, [F.FLM_DRAIN_WQ.ENABLE, F.FLM_DRAIN_WQ.WQ]⟩,
  ⟨"FLM_WQ_DOORBELL", 0x208040, 0, 1, 0, 1, 32, [F.FLM_WQ_DOORBELL.WQ, F.FLM_WQ_DOORBELL.TAIL]⟩,
  ⟨"FLM_RQ_DOORBELL", 0x208044, 0, 1, 0, 1, 32, [F.FLM_RQ_DOORBELL.WQ, F.FLM_RQ_DOORBELL.TAIL]⟩,
  ⟨"FLM_WQ_CTL", 0x208048, 0, 1, 0, 1, 32, [F.FLM_WQ_CTL.WQ, F.FLM_WQ_CTL.ACTION]⟩,
  ⟨"FLM_EPOCH", 0x208080, 0, 1, 0, 1, 32, [F.FLM_EPOCH.EPOCH1, F.FLM_EPOCH.EPOCH0]⟩,
  ⟨"FLM_EPOCH_STATE", 0x208084, 0, 1, 0, 1, 32, [F.FLM_EPOCH_STATE.TX_BLOCKED, F.FLM_EPOCH_STATE.STATE1, F.FLM_EPOCH_STATE.STATE0]⟩,
  ⟨"FLM_CACHE_USED", 0x208090, 0, 1, 0, 1, 32, [F.FLM_CACHE_USED.USED]⟩,
  ⟨"FLM_STALE_GEN", 0x2080a0, 0, 1, 0, 1, 32, [F.FLM_STALE_GEN.COUNT]⟩,
  ⟨"FLM_READ_DEFER", 0x2080a4, 0, 1, 0, 1, 32, [F.FLM_READ_DEFER.COUNT]⟩,
  ⟨"FLM_CACHE_WAIT", 0x2080a8, 0, 1, 0, 1, 32, [F.FLM_CACHE_WAIT.COUNT]⟩,
  ⟨"FLM_ADMIT_LO", 0x208100, 8, 16, 0, 1, 32, [F.FLM_ADMIT_LO.BOUND]⟩,
  ⟨"FLM_ADMIT_HI", 0x208104, 8, 16, 0, 1, 32, [F.FLM_ADMIT_HI.BOUND]⟩,
  ⟨"CHT_INFLIGHT", 0x300000, 0, 1, 0, 1, 32, [F.CHT_INFLIGHT.COMMANDS]⟩,
  ⟨"CHT_MAP_INVAL", 0x300008, 0, 1, 0, 1, 64, [F.CHT_MAP_INVAL.MAP, F.CHT_MAP_INVAL.EXTENT]⟩,
  ⟨"CHT_MAP_STATUS", 0x300010, 0, 1, 0, 1, 32, [F.CHT_MAP_STATUS.IDLE]⟩]

/-- Rows 100 to 124 of the register map. -/
def regRows4 : List RegRow := [
  ⟨"CHT_DIRTY", 0x300018, 0, 1, 0, 1, 64, [F.CHT_DIRTY.BYTES]⟩,
  ⟨"CHT_TAGS", 0x300020, 0, 1, 0, 1, 32, [F.CHT_TAGS.USED]⟩,
  ⟨"CHT_HANDOVER", 0x300040, 0, 1, 0, 1, 32, [F.CHT_HANDOVER.COUNT]⟩,
  ⟨"CHT_DEGRADED", 0x300044, 0, 1, 0, 1, 32, [F.CHT_DEGRADED.COUNT]⟩,
  ⟨"CHT_STAGING_HIT", 0x300048, 0, 1, 0, 1, 32, [F.CHT_STAGING_HIT.COUNT]⟩,
  ⟨"CHT_APT_DROP", 0x30004c, 0, 1, 0, 1, 32, [F.CHT_APT_DROP.COUNT]⟩,
  ⟨"YRD_FREE", 0x310000, 0, 1, 0, 1, 32, [F.YRD_FREE.URGENT, F.YRD_FREE.SHARED]⟩,
  ⟨"YRD_DROP_HOST", 0x310010, 0, 1, 0, 1, 32, [F.YRD_DROP_HOST.COUNT]⟩,
  ⟨"YRD_WAIT", 0x310014, 0, 1, 0, 1, 32, [F.YRD_WAIT.COUNT]⟩,
  ⟨"NVS_COUNTS", 0x340000, 0, 1, 0, 1, 32, [F.NVS_COUNTS.CONTROLLERS]⟩,
  ⟨"NVS_QUEUES", 0x340004, 0, 1, 0, 1, 32, [F.NVS_QUEUES.TCP, F.NVS_QUEUES.FLUME_SQ]⟩,
  ⟨"NVS_RUNT_CAPSULE", 0x340010, 0, 1, 0, 1, 32, [F.NVS_RUNT_CAPSULE.COUNT]⟩,
  ⟨"NVS_CONNECT_REFUSED", 0x340014, 0, 1, 0, 1, 32, [F.NVS_CONNECT_REFUSED.COUNT]⟩,
  ⟨"NVS_AUTH_FAIL", 0x340018, 0, 1, 0, 1, 32, [F.NVS_AUTH_FAIL.COUNT]⟩,
  ⟨"NVS_PI_HOST", 0x34001c, 0, 1, 0, 1, 32, [F.NVS_PI_HOST.COUNT]⟩,
  ⟨"NVS_PI_MEDIA", 0x340020, 0, 1, 0, 1, 32, [F.NVS_PI_MEDIA.COUNT]⟩,
  ⟨"NVS_UNRECOVERED", 0x340024, 0, 1, 0, 1, 32, [F.NVS_UNRECOVERED.COUNT]⟩,
  ⟨"NVS_CMD_LIMIT", 0x340028, 0, 1, 0, 1, 32, [F.NVS_CMD_LIMIT.COUNT]⟩,
  ⟨"NVS_TCP_REFUSED", 0x34002c, 0, 1, 0, 1, 32, [F.NVS_TCP_REFUSED.COUNT]⟩,
  ⟨"LAY_BRAND_STATUS", 0x380000, 0, 1, 0, 1, 32, [F.LAY_BRAND_STATUS.BUSY, F.LAY_BRAND_STATUS.RESULT, F.LAY_BRAND_STATUS.GROUP]⟩,
  ⟨"PAR_LOCATOR_MISMATCH", 0x380040, 0, 1, 0, 1, 32, [F.PAR_LOCATOR_MISMATCH.COUNT]⟩,
  ⟨"PAR_BRAND_FAIL", 0x380044, 0, 1, 0, 1, 32, [F.PAR_BRAND_FAIL.COUNT]⟩,
  ⟨"PAR_RECON_SINGLE", 0x380048, 0, 1, 0, 1, 32, [F.PAR_RECON_SINGLE.COUNT]⟩,
  ⟨"PAR_RECON_DOUBLE", 0x38004c, 0, 1, 0, 1, 32, [F.PAR_RECON_DOUBLE.COUNT]⟩,
  ⟨"LAY_GROUP", 0x380100, 4, 12, 0, 1, 32, [F.LAY_GROUP.STATE, F.LAY_GROUP.MISSING, F.LAY_GROUP.LOG, F.LAY_GROUP.MEMBERS]⟩]

/-- Rows 125 to 149 of the register map. -/
def regRows5 : List RegRow := [
  ⟨"LAY_BRAND_SEQ", 0x380200, 8, 12, 0, 1, 64, [F.LAY_BRAND_SEQ.SEQ]⟩,
  ⟨"TLY_STATUS", 0x381000, 0, 1, 0, 1, 32, [F.TLY_STATUS.FULL, F.TLY_STATUS.OPEN]⟩,
  ⟨"VLT_STATUS", 0x381010, 0, 1, 0, 1, 32, [F.VLT_STATUS.DUMPING, F.VLT_STATUS.SHORT, F.VLT_STATUS.LAST_DUMP, F.VLT_STATUS.CTRL_LOST, F.VLT_STATUS.RECOVERING]⟩,
  ⟨"VLT_DUMP_SEQ", 0x381018, 0, 1, 0, 1, 64, [F.VLT_DUMP_SEQ.SEQ]⟩,
  ⟨"VLT_LIMIT_EFF", 0x381020, 0, 1, 0, 1, 32, [F.VLT_LIMIT_EFF.MIB]⟩,
  ⟨"SKD_CTL", 0x381100, 0, 1, 0, 1, 32, [F.SKD_CTL.PAUSE, F.SKD_CTL.PRIORITY]⟩,
  ⟨"SKD_RATE", 0x381104, 0, 1, 0, 1, 32, [F.SKD_RATE.GBS]⟩,
  ⟨"SKD_STATUS", 0x381108, 0, 1, 0, 1, 32, [F.SKD_STATUS.RUNNING, F.SKD_STATUS.QUEUED, F.SKD_STATUS.CRITICAL]⟩,
  ⟨"PTL_STATUS", 0x381200, 0, 1, 0, 1, 32, [F.PTL_STATUS.GROUP, F.PTL_STATUS.PERMILLE]⟩,
  ⟨"LST_COUNT", 0x381300, 4, 12, 0, 1, 32, [F.LST_COUNT.MERGED, F.LST_COUNT.ENTRIES]⟩,
  ⟨"VLT_REWRITE", 0x381400, 0, 1, 0, 1, 32, [F.VLT_REWRITE.COUNT]⟩,
  ⟨"SKD_RECON_REWRITE", 0x381404, 0, 1, 0, 1, 32, [F.SKD_RECON_REWRITE.COUNT]⟩,
  ⟨"SKD_LOST_BLOCKS", 0x381408, 0, 1, 0, 1, 32, [F.SKD_LOST_BLOCKS.COUNT]⟩,
  ⟨"SWP_REPAIR", 0x38140c, 0, 1, 0, 1, 32, [F.SWP_REPAIR.COUNT]⟩,
  ⟨"PTL_BLOCK_REPAIR", 0x381410, 0, 1, 0, 1, 32, [F.PTL_BLOCK_REPAIR.COUNT]⟩,
  ⟨"PTL_PARITY_REPAIR", 0x381414, 0, 1, 0, 1, 32, [F.PTL_PARITY_REPAIR.COUNT]⟩,
  ⟨"MIG_STATUS", 0x386000, 4, 16, 0, 1, 32, [F.MIG_STATUS.STATE, F.MIG_STATUS.PASS, F.MIG_STATUS.PERMILLE]⟩,
  ⟨"MIG_RESEND", 0x386100, 0, 1, 0, 1, 32, [F.MIG_RESEND.COUNT]⟩,
  ⟨"WSW_STATUS", 0x400000, 0, 1, 0, 1, 32, [F.WSW_STATUS.ROLE, F.WSW_STATUS.SERVES, F.WSW_STATUS.PARTNER, F.WSW_STATUS.LINK_UP, F.WSW_STATUS.ACTIVE_IN, F.WSW_STATUS.ACTIVE_IN_LEADER, F.WSW_STATUS.FAULT_IN, F.WSW_STATUS.FAULT_OUT]⟩,
  ⟨"WSW_STEP", 0x400008, 0, 1, 0, 1, 64, [F.WSW_STEP.STEP]⟩,
  ⟨"WSW_STEP_TIME", 0x400010, 0, 1, 0, 1, 64, [F.WSW_STEP_TIME.US]⟩,
  ⟨"WSW_LAG", 0x400018, 0, 1, 0, 1, 32, [F.WSW_LAG.NS]⟩,
  ⟨"WSW_CTL", 0x400020, 0, 1, 0, 1, 32, [F.WSW_CTL.DETACH, F.WSW_CTL.RESYNC, F.WSW_CTL.HANDOVER]⟩,
  ⟨"WSW_DIGEST", 0x400028, 0, 1, 0, 1, 64, [F.WSW_DIGEST.VALUE]⟩,
  ⟨"WSW_DIGEST_STEP", 0x400030, 0, 1, 0, 1, 64, [F.WSW_DIGEST_STEP.VALUE]⟩]

/-- Rows 150 to 174 of the register map. -/
def regRows6 : List RegRow := [
  ⟨"WSW_RESYNC", 0x400038, 0, 1, 0, 1, 32, [F.WSW_RESYNC.PHASE, F.WSW_RESYNC.PERMILLE]⟩,
  ⟨"WSW_LAST_TAKEOVER", 0x400040, 0, 1, 0, 1, 32, [F.WSW_LAST_TAKEOVER.GAP, F.WSW_LAST_TAKEOVER.DETECT]⟩,
  ⟨"WSW_HB_MISS", 0x400080, 0, 1, 0, 1, 32, [F.WSW_HB_MISS.COUNT]⟩,
  ⟨"WSW_LINK_REPLAY", 0x400084, 0, 1, 0, 1, 32, [F.WSW_LINK_REPLAY.COUNT]⟩,
  ⟨"WSW_LINK_CRC", 0x400088, 0, 1, 0, 1, 32, [F.WSW_LINK_CRC.COUNT]⟩,
  ⟨"WSW_DIGEST_MISMATCH", 0x40008c, 0, 1, 0, 1, 32, [F.WSW_DIGEST_MISMATCH.COUNT]⟩,
  ⟨"WSW_READ_DROP", 0x400090, 0, 1, 0, 1, 32, [F.WSW_READ_DROP.COUNT]⟩,
  ⟨"DP_STATUS", 0x480000, 0x1000, 48, 0, 1, 32, [F.DP_STATUS.STATE, F.DP_STATUS.GEN, F.DP_STATUS.WIDTH, F.DP_STATUS.FLIT, F.DP_STATUS.PRESENT, F.DP_STATUS.PROXY, F.DP_STATUS.REASON, F.DP_STATUS.CONTAINS]⟩,
  ⟨"DP_CTL", 0x480004, 0x1000, 48, 0, 1, 32, [F.DP_CTL.RELEASE, F.DP_CTL.RESET]⟩,
  ⟨"DP_QUEUE", 0x480008, 0x1000, 48, 0, 1, 32, [F.DP_QUEUE.MQES, F.DP_QUEUE.OUTSTANDING]⟩,
  ⟨"DP_AER_UNCOR", 0x480010, 0x1000, 48, 0, 1, 32, [F.DP_AER_UNCOR.STATUS]⟩,
  ⟨"DP_AER_COR", 0x480014, 0x1000, 48, 0, 1, 32, [F.DP_AER_COR.STATUS]⟩,
  ⟨"DP_AER_HDR", 0x480018, 0x1000, 48, 4, 4, 32, [F.DP_AER_HDR.HEADER]⟩,
  ⟨"DP_CMD_TIMEOUT", 0x480040, 0x1000, 48, 0, 1, 32, [F.DP_CMD_TIMEOUT.COUNT]⟩,
  ⟨"DP_CPL_TIMEOUT", 0x480044, 0x1000, 48, 0, 1, 32, [F.DP_CPL_TIMEOUT.COUNT]⟩,
  ⟨"DP_UNEXP_CPL", 0x480048, 0x1000, 48, 0, 1, 32, [F.DP_UNEXP_CPL.COUNT]⟩,
  ⟨"DP_INBOUND_UR", 0x48004c, 0x1000, 48, 0, 1, 32, [F.DP_INBOUND_UR.COUNT]⟩,
  ⟨"DP_CONTAIN", 0x480050, 0x1000, 48, 0, 1, 32, [F.DP_CONTAIN.COUNT]⟩,
  ⟨"DP_PROXY", 0x480054, 0x1000, 48, 0, 1, 32, [F.DP_PROXY.COUNT]⟩,
  ⟨"DP_POISON", 0x480058, 0x1000, 48, 0, 1, 32, [F.DP_POISON.COUNT]⟩,
  ⟨"SLOT_CTL", 0x500000, 0x100, 48, 0, 1, 32, [F.SLOT_CTL.ENABLE]⟩,
  ⟨"SLOT_STATUS", 0x500004, 0x100, 48, 0, 1, 32, [F.SLOT_STATUS.STATE, F.SLOT_STATUS.PRESENT, F.SLOT_STATUS.PRSNT_LOCAL, F.SLOT_STATUS.SUPPLY_OK, F.SLOT_STATUS.PG, F.SLOT_STATUS.LIMIT, F.SLOT_STATUS.CAUSE, F.SLOT_STATUS.HOLD, F.SLOT_STATUS.TIMER_US]⟩,
  ⟨"SLOT_MEAS", 0x500008, 0x100, 48, 0, 1, 32, [F.SLOT_MEAS.CURRENT, F.SLOT_MEAS.VOUT]⟩,
  ⟨"SLOT_SUPPLY", 0x50000c, 0x100, 48, 0, 1, 32, [F.SLOT_SUPPLY.SUPPLY]⟩,
  ⟨"SLOT_TRIPS", 0x500020, 0x100, 48, 0, 1, 32, [F.SLOT_TRIPS.COUNT]⟩]

/-- Rows 175 to 199 of the register map. -/
def regRows7 : List RegRow := [
  ⟨"SLOT_PG_DROP", 0x500024, 0x100, 48, 0, 1, 32, [F.SLOT_PG_DROP.COUNT]⟩,
  ⟨"SLOT_LIMIT", 0x500028, 0x100, 48, 0, 1, 32, [F.SLOT_LIMIT.COUNT]⟩,
  ⟨"SLOT_SUPPLY_OUT", 0x50002c, 0x100, 48, 0, 1, 32, [F.SLOT_SUPPLY_OUT.COUNT]⟩,
  ⟨"MEM_SELFTEST", 0x520000, 0, 1, 0, 1, 32, [F.MEM_SELFTEST.DONE, F.MEM_SELFTEST.FAIL]⟩,
  ⟨"MEM_LOG_STATUS", 0x520010, 0, 1, 0, 1, 32, [F.MEM_LOG_STATUS.OVERFLOW, F.MEM_LOG_STATUS.HEAD, F.MEM_LOG_STATUS.COUNT]⟩,
  ⟨"MEM_LOG_RELEASE", 0x520014, 0, 1, 0, 1, 32, [F.MEM_LOG_RELEASE.N]⟩,
  ⟨"MEM_RETIRE", 0x520020, 0, 1, 0, 1, 64, [F.MEM_RETIRE.KIND, F.MEM_RETIRE.INDEX]⟩,
  ⟨"MEM_RETIRE_STATUS", 0x520028, 0, 1, 0, 1, 32, [F.MEM_RETIRE_STATUS.BUSY, F.MEM_RETIRE_STATUS.RESULT, F.MEM_RETIRE_STATUS.SPARE_FREE]⟩,
  ⟨"MEM_INJECT", 0x520030, 0, 1, 0, 1, 64, [F.MEM_INJECT.KIND, F.MEM_INJECT.YARD, F.MEM_INJECT.ADDRESS]⟩,
  ⟨"CRS_POS_HBM", 0x520040, 0, 1, 0, 1, 64, [F.CRS_POS_HBM.ADDRESS]⟩,
  ⟨"CRS_POS_SRAM", 0x520048, 0, 1, 0, 1, 64, [F.CRS_POS_SRAM.ADDRESS]⟩,
  ⟨"MEM_CE", 0x520080, 0, 1, 0, 1, 32, [F.MEM_CE.COUNT]⟩,
  ⟨"MEM_UE", 0x520084, 0, 1, 0, 1, 32, [F.MEM_UE.COUNT]⟩,
  ⟨"MEM_POISON_READ", 0x520088, 0, 1, 0, 1, 32, [F.MEM_POISON_READ.COUNT]⟩,
  ⟨"MEM_REPAIR", 0x52008c, 0, 1, 0, 1, 32, [F.MEM_REPAIR.COUNT]⟩,
  ⟨"CRS_CORRECTED", 0x520090, 0, 1, 0, 1, 32, [F.CRS_CORRECTED.COUNT]⟩,
  ⟨"MEM_LOG_DROP", 0x520094, 0, 1, 0, 1, 32, [F.MEM_LOG_DROP.COUNT]⟩,
  ⟨"LSM_DESC", 0x540000, 0, 1, 0, 1, 64, [F.LSM_DESC.ADDR]⟩,
  ⟨"LSM_STATUS", 0x540008, 0, 1, 0, 1, 32, [F.LSM_STATUS.BUSY, F.LSM_STATUS.RESULT]⟩,
  ⟨"LSM_OUT_LEN", 0x54000c, 0, 1, 0, 1, 32, [F.LSM_OUT_LEN.BYTES]⟩,
  ⟨"LSM_NONCE", 0x540010, 0, 1, 0, 1, 64, [F.LSM_NONCE.VALUE]⟩,
  ⟨"LSM_CEILING", 0x540018, 0, 1, 0, 1, 64, [F.LSM_CEILING.VALUE]⟩,
  ⟨"LSM_ID", 0x540020, 0, 1, 0, 1, 32, [F.LSM_ID.ID]⟩,
  ⟨"LSM_JOBS", 0x540040, 0, 1, 0, 1, 32, [F.LSM_JOBS.COUNT]⟩,
  ⟨"LSM_AUTH_FAIL", 0x540044, 0, 1, 0, 1, 32, [F.LSM_AUTH_FAIL.COUNT]⟩]

/-- Rows 200 to 224 of the register map. -/
def regRows8 : List RegRow := [
  ⟨"LSM_REFUSED", 0x540048, 0, 1, 0, 1, 32, [F.LSM_REFUSED.COUNT]⟩,
  ⟨"SCL_CNT", 0x580000, 8, 1024, 0, 1, 64, [F.SCL_CNT.COUNT]⟩,
  ⟨"SCL_SEL", 0x582000, 4, 1024, 0, 1, 32, [F.SCL_SEL.ENABLE, F.SCL_SEL.UREAD, F.SCL_SEL.BAD, F.SCL_SEL.INSTANCE, F.SCL_SEL.UNIT, F.SCL_SEL.EVENT]⟩,
  ⟨"SCL_OVF", 0x583000, 4, 32, 0, 1, 32, [F.SCL_OVF.OVF]⟩,
  ⟨"SCL_CTL", 0x583100, 0, 1, 0, 1, 32, [F.SCL_CTL.RUN]⟩,
  ⟨"SCL_START_AT", 0x583108, 0, 1, 0, 1, 64, [F.SCL_START_AT.TIME]⟩,
  ⟨"SCL_STOP_AT", 0x583110, 0, 1, 0, 1, 64, [F.SCL_STOP_AT.TIME]⟩,
  ⟨"SMP_CTL", 0x584000, 0x20, 32, 0, 1, 32, [F.SMP_CTL.TENANT, F.SMP_CTL.SIZE_LOG2, F.SMP_CTL.PERIOD]⟩,
  ⟨"SMP_BASE", 0x584008, 0x20, 32, 0, 1, 64, [F.SMP_BASE.ADDR]⟩,
  ⟨"SMP_HEAD", 0x584010, 0x20, 32, 0, 1, 32, [F.SMP_HEAD.INDEX]⟩,
  ⟨"SMP_TAIL", 0x584014, 0x20, 32, 0, 1, 32, [F.SMP_TAIL.INDEX]⟩,
  ⟨"SMP_DROP", 0x584018, 0x20, 32, 0, 1, 32, [F.SMP_DROP.COUNT]⟩,
  ⟨"LDG_STATUS", 0x5c0000, 0, 1, 0, 1, 32, [F.LDG_STATUS.FROZEN, F.LDG_STATUS.TAIL_LEFT, F.LDG_STATUS.HEAD]⟩,
  ⟨"LDG_CTL", 0x5c0004, 0, 1, 0, 1, 32, [F.LDG_CTL.FREEZE, F.LDG_CTL.THAW]⟩,
  ⟨"LDG_SEQ", 0x5c0008, 0, 1, 0, 1, 64, [F.LDG_SEQ.NEXT]⟩,
  ⟨"LDG_VAULT_ADDR", 0x5c0010, 0, 1, 0, 1, 64, [F.LDG_VAULT_ADDR.ADDR]⟩,
  ⟨"LDG_LOST", 0x5c0020, 0, 1, 0, 1, 32, [F.LDG_LOST.COUNT]⟩,
  ⟨"LDG_SUPPRESSED", 0x5c0024, 0, 1, 0, 1, 32, [F.LDG_SUPPRESSED.COUNT]⟩,
  ⟨"ENG_STATUS", 0x600000, 0x4000, 32, 0, 1, 32, [F.ENG_STATUS.STATE, F.ENG_STATUS.MODE, F.ENG_STATUS.TENANT, F.ENG_STATUS.CONTEXT, F.ENG_STATUS.PRIORITY]⟩,
  ⟨"ENG_PC", 0x600008, 0x4000, 32, 0, 1, 64, [F.ENG_PC.PC]⟩,
  ⟨"DMA_DESC", 0x600100, 0x4000, 32, 0x40, 2, 64, [F.DMA_DESC.ADDR]⟩,
  ⟨"DMA_CTL", 0x600104, 0x4000, 32, 0x40, 2, 32, [F.DMA_CTL.ABORT, F.DMA_CTL.RESUME]⟩,
  ⟨"DMA_STATUS", 0x600108, 0x4000, 32, 0x40, 2, 32, [F.DMA_STATUS.STATE, F.DMA_STATUS.LAST]⟩,
  ⟨"DMA_DONE", 0x600110, 0x4000, 32, 0x40, 2, 64, [F.DMA_DONE.VALUE]⟩,
  ⟨"DMA_FAULT_VA", 0x600118, 0x4000, 32, 0x40, 2, 64, [F.DMA_FAULT_VA.VALUE]⟩]

/-- Rows 225 to 245 of the register map. -/
def regRows9 : List RegRow := [
  ⟨"DMA_REFUSED", 0x600120, 0x4000, 32, 0x40, 2, 32, [F.DMA_REFUSED.COUNT]⟩,
  ⟨"PWR_STATE", 0x800000, 0, 1, 0, 1, 32, [F.PWR_STATE.STATE, F.PWR_STATE.READY, F.PWR_STATE.PONR, F.PWR_STATE.WRITE_THROUGH, F.PWR_STATE.UNSAVED, F.PWR_STATE.BOOT_STEP]⟩,
  ⟨"PWR_CTL", 0x800004, 0, 1, 0, 1, 32, [F.PWR_CTL.FATAL_HALT, F.PWR_CTL.WAKE, F.PWR_CTL.WARM, F.PWR_CTL.ENTER]⟩,
  ⟨"RST_CAUSE", 0x800008, 0, 1, 0, 1, 32, [F.RST_CAUSE.RECOVERY, F.RST_CAUSE.POR, F.RST_CAUSE.SYS_PIN, F.RST_CAUSE.FATAL, F.RST_CAUSE.WATCHDOG, F.RST_CAUSE.WARM_PIN, F.RST_CAUSE.WARM_SW, F.RST_CAUSE.WARM_PAIR]⟩,
  ⟨"PWR_PINS", 0x80000c, 0, 1, 0, 1, 32, [F.PWR_PINS.PWRFAIL, F.PWR_PINS.HOLDUP_OK, F.PWR_PINS.PWRFAIL_SEEN, F.PWR_PINS.HOLDUP_DROP]⟩,
  ⟨"PWR_WDOG", 0x800010, 0, 1, 0, 1, 32, [F.PWR_WDOG.ARMED, F.PWR_WDOG.REMAIN_US]⟩,
  ⟨"PWR_BOOT_TIME", 0x801000, 0, 1, 0, 1, 32, [F.PWR_BOOT_TIME.MS]⟩,
  ⟨"PWR_ENTRY_COUNT", 0x801008, 0, 1, 0, 1, 32, [F.PWR_ENTRY_COUNT.COUNT]⟩,
  ⟨"THERM_STATUS", 0x802000, 0, 1, 0, 1, 32, [F.THERM_STATUS.TRIP, F.THERM_STATUS.HOT, F.THERM_STATUS.HBM_C, F.THERM_STATUS.HUB_C]⟩,
  ⟨"AVS_STATUS", 0x802004, 0, 1, 0, 1, 32, [F.AVS_STATUS.DONE, F.AVS_STATUS.NACK, F.AVS_STATUS.MV]⟩,
  ⟨"FWU_STATUS", 0xa00000, 0, 1, 0, 1, 32, [F.FWU_STATUS.RECOVERY, F.FWU_STATUS.RUNNING, F.FWU_STATUS.TRIAL, F.FWU_STATUS.DELIVERY, F.FWU_STATUS.PHASE, F.FWU_STATUS.FUSED]⟩,
  ⟨"FWU_TRIAL", 0xa00004, 0, 1, 0, 1, 32, [F.FWU_TRIAL.WINDOW_MIN, F.FWU_TRIAL.BOOTS_LEFT, F.FWU_TRIAL.REMAIN_S]⟩,
  ⟨"FWU_SLOT", 0xa00010, 4, 2, 0, 1, 32, [F.FWU_SLOT.STATE, F.FWU_SLOT.VERIFY, F.FWU_SLOT.CAUSE, F.FWU_SLOT.SECURITY]⟩,
  ⟨"FWU_VERSION", 0xa00020, 8, 2, 0, 1, 64, [F.FWU_VERSION.VALUE]⟩,
  ⟨"FWU_ACT_SEQ", 0xa00030, 8, 2, 0, 1, 64, [F.FWU_ACT_SEQ.VALUE]⟩,
  ⟨"FWU_DELIVERED", 0xa00040, 0, 1, 0, 1, 32, [F.FWU_DELIVERED.BYTES]⟩,
  ⟨"FWU_FALLBACKS", 0xa00080, 0, 1, 0, 1, 32, [F.FWU_FALLBACKS.COUNT]⟩,
  ⟨"DVSEC_0C", 0x4000164, 0, 1, 0, 1, 32, [F.DVSEC_0C.FROZEN, F.DVSEC_0C.FREEZE_CAUSE, F.DVSEC_0C.READY, F.DVSEC_0C.SIDE]⟩,
  ⟨"DVSEC_10", 0x4000168, 0, 1, 0, 1, 32, [F.DVSEC_10.RELEASE]⟩,
  ⟨"DVSEC_14", 0x400016c, 0, 1, 0, 1, 32, []⟩,
  ⟨"DVSEC_18", 0x4000170, 0, 1, 0, 1, 64, []⟩]

/-- Every register of the part, in rising offset order (R37). -/
def regTable : List RegRow :=
  regRows0 ++ regRows1 ++ regRows2 ++ regRows3 ++ regRows4 ++ regRows5 ++ regRows6 ++ regRows7 ++ regRows8 ++ regRows9

end Sys2Proof.Machine
end

