-- ==== Sys2Proof/Machine/Sparse.lean ====
section
/-!
DEFINITION. Machine/Sparse.lean: one canonical form for every large table of the block (memory, registers,
windows, tags, counters): a list of (key, value) pairs, keys strictly rising, no value equal to what an
unlisted key reads as. Equal tables are then equal data.
-/
namespace Sys2Proof.Machine

/-- The value at a key: the listed one, or `d`. -/
def sparseGet {α : Type} (d : α) (k : Nat) : List (Nat × α) → α
  | [] => d
  | (k', v) :: rest => if k' = k then v else sparseGet d k rest

/-- The table with nothing listed at a key. -/
def sparseErase {α : Type} (k : Nat) : List (Nat × α) → List (Nat × α)
  | [] => []
  | (k', v) :: rest => if k' = k then sparseErase k rest else (k', v) :: sparseErase k rest

/-- Puts a pair in its place in a rising list, in place of one at the same key. -/
def sparseInsert {α : Type} (k : Nat) (v : α) : List (Nat × α) → List (Nat × α)
  | [] => [(k, v)]
  | (k', v') :: rest =>
    if k < k' then (k, v) :: (k', v') :: rest
    else if k = k' then (k, v) :: rest
    else (k', v') :: sparseInsert k v rest

/-- Writes a key; writing what an unlisted key reads as removes the entry. -/
def sparsePut {α : Type} [DecidableEq α] (d : α) (k : Nat) (v : α) (l : List (Nat × α)) : List (Nat × α) :=
  if v = d then sparseErase k l else sparseInsert k v l

/-- The keys rise strictly. -/
def sparseSorted {α : Type} : List (Nat × α) → Bool
  | [] => true
  | [_] => true
  | (k, _) :: (k', v') :: rest => decide (k < k') && sparseSorted ((k', v') :: rest)

/-- The canonical form: keys strictly rising and no entry equal to the unlisted value. -/
def sparseWf {α : Type} [DecidableEq α] (d : α) (l : List (Nat × α)) : Bool :=
  sparseSorted l && l.all (fun c => decide (c.2 ≠ d))

/-- The table kept only where the key satisfies `p`. -/
def sparseKeep {α : Type} (p : Nat → Bool) (l : List (Nat × α)) : List (Nat × α) :=
  l.filter (fun c => p c.1)

end Sys2Proof.Machine
end

