-- ==== Sys2Proof/Machine/State.lean ====
section
/-!
DEFINITION. Machine/State.lean: the state of the block, all plain data, and the state right after a power-on reset.
-/
namespace Sys2Proof.Machine

/-- Why a run stops with a fault. The block reports its errors in registers, events and statuses; a run stops
only where the model itself has no state for the answer. -/
inductive Fault where
  /-- Raised by nothing in the present model: kept for an address outside every region of the physical map where the
  spec names no answer. Safe. -/
  | noSuchAddress (addr : Nat)
  deriving DecidableEq, Repr

/-- Why a run is refused. -/
inductive Refusal where
  /-- Raised by a row of the opcode table that has no meaning yet, under its mnemonic. Safe. -/
  | notModelled (mnemonic : String)
  deriving DecidableEq, Repr

/-- The state of the block. -/
structure State where
  /-- register fields that differ from their reset value: key (offset × 64 + lowest bit) and value -/
  regs : List (Nat × Nat)
  dev : Dev
  pat : PatSt
  svc : Svc
  /-- tasks in execution: at most one is held by this service port -/
  tasks : List TaskRun
  eng : Eng
  led : Ledger
  flm : Flm
  fx : FlmAux
  wsw : Wsw
  drv : Drv
  pwr : Pwr
  nvm : Nvm
  cht : Cht
  grps : List (Nat × Grp)
  tly : Tly
  tc : Tc
  hp : Hp
  slot : Slots
  fw : FwSt
  mi : Mi
  /-- bytes of HBM, Yard and scratch in canonical form -/
  mem : List Host.Cell
  /-- poisoned 8-byte words of memory, rising (R484) -/
  poison : List Nat
  /-- what has left the block, newest first -/
  out : List Out
  /-- the model's own counter of free values -/
  freeCtr : Nat
  /-- commands that wait, first in, first out -/
  pending : List Instr
  deriving DecidableEq, Repr

/-- The state right after a power-on reset (R17, R527): every register field at its reset value, every unit empty, memory unlisted, the queue empty (log entry on reset values). -/
def State.reset : State :=
  { regs := [], dev := dev0, pat := pat0, svc := svc0, tasks := [], eng := eng0, led := led0, flm := flm0, fx := fx0, wsw := wsw0, drv := drv0, pwr := pwr0, nvm := nvm0,
    cht := cht0, grps := [], tly := tly0, tc := tc0, hp := hp0, slot := slots0, fw := fw0, mi := mi0, mem := [], poison := [], out := [], freeCtr := 0, pending := [] }

end Sys2Proof.Machine
end

