-- ==== Sys2Proof/Machine/Ops.lean ====
section
/-!
DEFINITION. Machine/Ops.lean: the named operations every meaning is written over: register fields, outputs, free
values, memory, Pattern records in force, device time, step context.
-/
namespace Sys2Proof.Machine

/-- The offset of copy (i, j) of a field's register (R37: instance n stands n strides on). -/
def Fld.at (f : Fld) (i j : Nat) : Nat := f.off + i * f.st1 + j * f.st2

/-- The key of a field in the register file: register offset and lowest bit. -/
def Fld.key (f : Fld) (i j : Nat) : Nat := f.at i j * 64 + f.lo

/-- Width of a field in bits. -/
def Fld.width (f : Fld) : Nat := f.hi + 1 - f.lo


/-- The type of every meaning's answer. -/
abbrev Result := Host.Outcome State Fault Refusal

/-! ## Register fields -/

/-- The value of a field (R14): what was last stored, or its reset value. -/
def State.get (s : State) (f : Fld) (i : Nat := 0) (j : Nat := 0) : Nat :=
  sparseGet f.rst (f.key i j) s.regs

/-- Stores a field, cut to its width. -/
def State.set (s : State) (f : Fld) (v : Nat) (i : Nat := 0) (j : Nat := 0) : State :=
  { s with regs := sparsePut f.rst (f.key i j) (v % 2 ^ f.width) s.regs }

/-- A one-bit field as a truth value. -/
def State.flag (s : State) (f : Fld) (i : Nat := 0) (j : Nat := 0) : Bool := s.get f i j == 1

/-- Sets or clears a one-bit field. -/
def State.setFlag (s : State) (f : Fld) (b : Bool) (i : Nat := 0) (j : Nat := 0) : State :=
  s.set f (if b then 1 else 0) i j

/-- Counts in an RC counter, which saturates at 0xFFFF_FFFF. -/
def State.bump (s : State) (f : Fld) (i : Nat := 0) (j : Nat := 0) : State :=
  s.set f (satIncr32 (s.get f i j)) i j

/-- Adds `n` to a saturating 32-bit counter. -/
def State.bumpBy (s : State) (f : Fld) (n : Nat) (i : Nat := 0) (j : Nat := 0) : State :=
  s.set f (min (s.get f i j + n) 4294967295) i j

/-! ## Outputs and free values -/

/-- The block sends or shows something outside. -/
def State.emit (s : State) (o : Out) : State := { s with out := o :: s.out }

/-- The next free value (log entry on free values). -/
def State.free (s : State) : Word := Config.freeValue s.freeCtr

/-- The state once a free value has been drawn. -/
def State.drawn (s : State) : State := { s with freeCtr := s.freeCtr + 1 }

/-- The first number from `k` on, cyclically below `n`, that is not in use, within `fuel` tries. -/
def pickFree : Nat → Nat → Nat → (Nat → Bool) → Option Nat
  | 0, _, _, _ => none
  | fuel + 1, n, k, used => if used (k % n) then pickFree fuel n (k + 1) used else some (k % n)

/-! ## Time -/

/-- Device time moves on (R27: it never runs backwards). -/
def State.advance (s : State) (ns : Nat) : State :=
  { s with dev := { s.dev with timeNs := s.dev.timeNs + ns } }

/-- Step time. -/
def State.nowUs (s : State) : Nat := s.dev.stepUs

/-- Runs an effect in the consumption of the input numbered `stepNo` (R480, R514). -/
def State.inStep (s : State) (f : State → State) : State :=
  let t := f { s with dev := { s.dev with curStep := s.dev.stepNo } }
  { t with dev := { t.dev with curStep := s.dev.curStep } }

/-! ## Memory (15_engines_events.md, physical map) -/

/-- HBM, Yard data, Yard side data and engine scratch: the regions of the physical map that hold bytes (R465). -/
def isMemory (a : Nat) : Bool :=
  decide (a < 0xC_0000_0000)
  || (decide (0x10_0000_0000 ≤ a) && decide (a < 0x10_0800_0000))
  || (decide (0x10_1000_0000 ≤ a) && decide (a < 0x10_1040_0000))
  || (decide (0x30_0000_0000 ≤ a) && decide (a < 0x30_0000_0000 + 32 * 0x4_0000))

/-- The BAR0 register space of the physical map. -/
def isRegSpace (a : Nat) : Bool := decide (0x20_0000_0000 ≤ a) && decide (a < 0x20_0400_0000)

/-- The Yard side-data aperture, written in M mode only (R465). -/
def isSideData (a : Nat) : Bool := decide (0x10_1000_0000 ≤ a) && decide (a < 0x10_1040_0000)

/-- Every byte of [a, a + n) lies in the physical map's memory. -/
def memSpan (a n : Nat) : Bool := n == 0 || (isMemory a && isMemory (a + n - 1))

/-- What a byte that nothing has written reads as (DESIGN CHOICE, log entry on unwritten memory). -/
def unwrittenByte : Byte := 0

/-- One byte of memory. -/
def State.memByte (s : State) (a : Nat) : Byte := sparseGet unwrittenByte a s.mem

/-- `n` bytes from `a`. -/
def State.memRead (s : State) (a : Nat) : Nat → List Byte
  | 0 => []
  | n + 1 => s.memByte a :: s.memRead (a + 1) n

/-- The canonical memory with bytes written from `a`. -/
def memPutBytes (m : List Host.Cell) (a : Nat) : List Byte → List Host.Cell
  | [] => m
  | b :: rest => memPutBytes (sparsePut unwrittenByte a b m) (a + 1) rest

/-- Writes bytes from `a`. -/
def State.memWrite (s : State) (a : Nat) (bs : List Byte) : State := { s with mem := memPutBytes s.mem a bs }

/-- Memory is in its canonical form: addresses strictly rising, no entry equal to the unwritten byte. -/
def Memory.wf (m : List Host.Cell) : Bool := sparseWf unwrittenByte m

/-- Inserts a number in a rising list without repeats. -/
def insertNat (n : Nat) : List Nat → List Nat
  | [] => [n]
  | m :: rest => if n < m then n :: m :: rest else if n = m then m :: rest else m :: insertNat n rest

/-- The 8-byte word that holds address `a` is poisoned (R484). -/
def State.poisoned (s : State) (a : Nat) : Bool := s.poison.contains (a / 8)

/-- Poisons the word that holds `a`. -/
def State.setPoison (s : State) (a : Nat) : State := { s with poison := insertNat (a / 8) s.poison }

/-- Clears the poison of the word that holds `a`. -/
def State.clearPoison (s : State) (a : Nat) : State := { s with poison := s.poison.filter (· != a / 8) }

/-- Some word of [a, a + n) is poisoned. -/
def State.poisonIn (s : State) (a n : Nat) : Bool :=
  s.poison.any (fun w => decide (a / 8 ≤ w) && decide (w < (a + n + 7) / 8))

/-- The poison of the words of [a, a + n) cleared, as a write of whole words does (R484). -/
def State.clearPoisonIn (s : State) (a n : Nat) : State :=
  { s with poison := s.poison.filter (fun w => ! (decide ((a + 7) / 8 ≤ w) && decide (w < (a + n) / 8))) }

/-- The armed injection acts on the next write to its word: a single error marks it, a double error or poison spoils it (R493). -/
def State.injected (s : State) (a n : Nat) : State :=
  match s.mi.inject with
  | some (k, w) =>
    if 0 < n ∧ a / 8 ≤ w ∧ w ≤ (a + n - 1) / 8 then
      let t := { s with mi := { s.mi with inject := none, marks := if k = 3 then s.mi.marks else (w, k) :: s.mi.marks } }
      if k = 1 then t else t.setPoison (8 * w)
    else s
  | none => s

/-- The device stores bytes: a word that is wholly written loses its poison and its errors, bytes of a part of a poisoned word are lost (R484), and an armed injection acts. -/
def State.store (s : State) (a : Nat) (bs : List Byte) : State :=
  let n := bs.length
  let whole (w : Nat) : Bool := decide (a ≤ 8 * w) && decide (8 * w + 8 ≤ a + n)
  let lost := s.poison.filter (fun w => !whole w && decide (a / 8 ≤ w) && decide (8 * w < a + n))
  let t := if lost.isEmpty then s.memWrite a bs
    else bs.zipIdx.foldl (fun (t : State) (b : Byte × Nat) => if lost.contains ((a + b.2) / 8) then t else t.memWrite (a + b.2) [b.1]) s
  ({ t with mi := { t.mi with marks := t.mi.marks.filter (fun m => !whole m.1) } }.clearPoisonIn a n).injected a n

/-! ## Pattern records in force (R54, R55) -/

/-- The body in force of a record type and instance. -/
def State.record (s : State) (type inst : Nat) : Option (List Byte) :=
  (s.pat.live.find? (fun r => r.type == type && r.inst == inst)).map (·.body)

/-- A record of this type and instance exists in force. -/
def State.hasRecord (s : State) (type inst : Nat) : Bool := (s.record type inst).isSome

/-- A little-endian field of a record in force, or `dflt` where no record is in force. -/
def State.cfg (s : State) (type inst off size dflt : Nat) : Nat :=
  match s.record type inst with
  | some b => leAt b off size
  | none => dflt

/-- The instances in force of a record type, in the order they stand. -/
def State.instancesOf (s : State) (type : Nat) : List Nat :=
  (s.pat.live.filter (fun r => r.type == type)).map (·.inst)

end Sys2Proof.Machine
end

