-- ==== Sys2Proof/Machine/Flags.lean ====
section
/-!
DEFINITION. Machine/Flags.lean: the status and event machinery of the block: raising an event (R479), MSI-X and its
pending bits (R447), Ledger records with their rate limit and freeze (R514 to R518), bridge faults (R28, R29, R38).
-/
namespace Sys2Proof.Machine

/-! ## Event routing (R478) -/

/-- One routing entry. -/
structure Route where
  engine : Bool
  msix : Bool
  cluster : Nat
  vector : Nat
  deriving DecidableEq, Repr

/-- The routing of an event: its entry in the event routing record in force (R478); MSI-X on the vector of its own number
while start-up is stopped under R588 or the ROM serves alone (R564, by the factory routing of R478); nowhere while no record is in force. -/
def State.route (s : State) (e : Nat) : Route :=
  if s.pat.factoryFailed || s.flag F.FWU_STATUS.RECOVERY then ⟨false, true, 0, e⟩
  else match s.record 0x00A0 (e / 64) with
    | some b =>
      let o := 8 + 4 * (e % 64)
      ⟨bitOf (leAt b o 1) 0, bitOf (leAt b o 1) 1, leAt b (o + 1) 1, leAt b (o + 2) 2⟩
    | none => ⟨false, false, 0, 0⟩

/-! ## MSI-X (R445, R447, R448) -/

/-- Nothing holds back the messages of the function: MSI-X enabled, no function mask, not frozen, in D0. -/
def State.msixOpen (s : State) : Bool :=
  s.svc.msixEnable && !s.svc.funcMask && !s.flag F.SVC_STATUS.FROZEN && !s.flag F.SVC_STATUS.D3

/-- The event's own mask bit (R479). -/
def State.evtMasked (s : State) (e : Nat) : Bool := bitOf (s.get F.EVT_MASK.MASK (e / 32)) (e % 32)

/-- The message of an event may go now. -/
def State.vectorFree (s : State) (e vector : Nat) : Bool :=
  s.msixOpen && s.svc.unmasked.contains vector && !s.evtMasked e

/-- Sends an event's message, or leaves it pending (R447, R479). -/
def State.signal (s : State) (e vector : Nat) : State :=
  if s.vectorFree e vector then s.emit (.msix vector)
  else { s with dev := { s.dev with pendEvt := insertNat e s.dev.pendEvt } }

/-- Sends every pending message that nothing holds back any more (R447). A vector that several pending events name
goes once, as its one PBA bit stands. -/
def State.flushMsix (s : State) : State :=
  let ready := s.dev.pendEvt.filter (fun e => s.vectorFree e (s.route e).vector)
  let vectors := (ready.map (fun e => (s.route e).vector)).dedup
  let s := { s with dev := { s.dev with pendEvt := s.dev.pendEvt.filter (fun e => !ready.contains e) } }
  vectors.foldl (fun s v => s.emit (.msix v)) s

/-- The PBA bit of a vector (R447). -/
def State.pba (s : State) (v : Nat) : Bool := s.dev.pendEvt.any (fun e => (s.route e).vector == v)

/-! ## Xkvq queues (R469, R479) -/

/-- Number of a queue among the 256: cluster × 64 + queue. -/
def queueKey (cluster q : Nat) : Nat := cluster * 64 + q

/-- The entries of a queue, head first. -/
def State.queue (s : State) (cluster q : Nat) : List Word := sparseGet [] (queueKey cluster q) s.eng.kvq

/-- The queue with new contents. -/
def State.setQueue (s : State) (cluster q : Nat) (es : List Word) : State :=
  { s with eng := { s.eng with kvq := sparsePut [] (queueKey cluster q) es s.eng.kvq } }

/-- Entries a queue holds: 2,048 for an event queue (R479), an open value for the others. -/
def queueDepth (q : Nat) : Nat := if q = 1 then 2048 else (Config.queueDepth q).toNat

/-- The cluster that takes an event: C0 in place of a gated one (R479). -/
def State.evtCluster (s : State) (c : Nat) : Nat := if s.dev.gated.contains c then 0 else c

/-- The queue entry of an event: number, STEP and step number (R479, R480). -/
def State.evtEntry (s : State) (e : Nat) : Word :=
  BitVec.ofNat 64 (e + (if s.dev.curStep = 0 then 0 else 2048) + s.dev.curStep * 4096)

/-- Pushes an event to its cluster's event queue, unless an entry for it is already there (R479). -/
def State.pushEvent (s : State) (cluster e : Nat) : State :=
  let c := s.evtCluster cluster
  let q := s.queue c 1
  if q.any (fun w => w.toNat % 2048 == e) then s else s.setQueue c 1 (q ++ [s.evtEntry e])

/-! ## Raising an event (R479) -/

/-- Raises an event: its status bit, its queue entry, its message. -/
def State.raise (s : State) (e : Nat) : State :=
  let s := s.set F.EVT_STATUS.STATUS (withBit (s.get F.EVT_STATUS.STATUS (e / 32)) (e % 32)) (e / 32)
  let r := s.route e
  let s := if r.engine then s.pushEvent r.cluster e else s
  if r.msix then s.signal e r.vector else s

/-- 10 ms in ns: the period of every once-per-10-ms rule. -/
def tenMs : Nat := 10000000

/-- Raises an event whose rule allows it at most once per 10 ms (R481, R521 and others). Times are kept plus 1, so that an
event never raised is not listed. -/
def State.raiseLimited (s : State) (e : Nat) : State :=
  let t := sparseGet 0 e s.dev.lastRaise
  if t ≠ 0 ∧ s.dev.timeNs < t - 1 + tenMs then s
  else ({ s with dev := { s.dev with lastRaise := sparsePut 0 e (s.dev.timeNs + 1) s.dev.lastRaise } }).raise e

/-! ## The Ledger (R514 to R518) -/

/-- SEVERITY of a record: 3 for the fatal event, an open value below 3 for every other (log entry on severities). -/
def severityOf (code seq : Nat) : Nat := if code = 0 then 3 else (Config.ledgerSeverity code seq).toNat % 3

/-- Freezes the Ledger, once (R518). -/
def State.freezeLedger (s : State) : State :=
  if s.flag F.LDG_STATUS.FROZEN then s
  else ((s.setFlag F.LDG_STATUS.FROZEN true).set F.LDG_STATUS.TAIL_LEFT 1024).raise 0x482

/-- Counts a record that is not written (R516, R518, R521). -/
def State.ledgerLost (s : State) : State := (s.bump F.LDG_LOST.COUNT).raiseLimited 0x483

/-- Writes a record over the oldest slot (R514). -/
def State.ledgerStore (s : State) (r : LedgerRec) : State :=
  let h := s.get F.LDG_STATUS.HEAD
  let s := { s with led := { s.led with
    slots := sparseInsert h r s.led.slots, bad := s.led.bad.filter (· != h) } }
  (s.set F.LDG_STATUS.HEAD (h + 1)).set F.LDG_SEQ.NEXT (r.seq + 1)

/-- Writes a record, or counts it lost when the Ledger is frozen and its tail is used up (R518). -/
def State.ledgerWrite (s : State) (code island source withheld : Nat) (detail : List Byte) : State :=
  let seq := s.get F.LDG_SEQ.NEXT
  let sev := severityOf code seq
  let r : LedgerRec := ⟨s.dev.timeNs, s.dev.curStep, seq, code, sev, island, source, withheld,
    (detail ++ zeroBytes 24).take 24⟩
  let left := s.get F.LDG_STATUS.TAIL_LEFT
  let frozen := s.flag F.LDG_STATUS.FROZEN
  if frozen ∧ left = 0 then s.ledgerLost
  else
    let s := s.ledgerStore r
    let s := if frozen then s.set F.LDG_STATUS.TAIL_LEFT (left - 1) else if sev = 3 then s.freezeLedger else s
    if sev = 2 then s.raiseLimited 0x484 else s

/-- A record without rate limit. -/
def State.ledger (s : State) (code island source : Nat) (detail : List Byte := []) : State :=
  s.ledgerWrite code island source 0 detail

/-- The key of a CODE and SOURCE is inside its 10 ms. -/
def LimKey.fresh (k : LimKey) (now : Nat) : Bool := decide (now < k.last + tenMs)

/-- Counts one more record withheld under a key. -/
def LimKey.hold (k : LimKey) : LimKey := { k with withheld := k.withheld + 1 }

/-- The keys with one replaced. -/
def LimKey.put (k : LimKey) (ks : List LimKey) : List LimKey :=
  k :: ks.filter (fun x => !(x.code == k.code && x.source == k.source))

/-- The oldest of the keys whose 10 ms have passed. -/
def oldestPast (now : Nat) : List LimKey → Option LimKey
  | [] => none
  | k :: rest =>
    match oldestPast now rest with
    | none => if k.fresh now then none else some k
    | some o => if !k.fresh now && decide (k.last < o.last) then some k else some o

/-- Withholds a record (R517). -/
def State.withhold (s : State) (led : Ledger) : State := ({ s with led := led }).bump F.LDG_SUPPRESSED.COUNT

/-- A record limited to one per CODE and SOURCE per 10 ms (R517): its own key, a free place, the place of the oldest
key that has passed, or the shared key of its CODE. -/
def State.ledgerLimited (s : State) (code island source : Nat) (detail : List Byte := []) : State :=
  let now := s.dev.timeNs
  let fresh : LimKey := ⟨code, source, now, 0⟩
  match s.led.keys.find? (fun k => k.code == code && k.source == source) with
  | some k =>
    if k.fresh now then s.withhold { s.led with keys := k.hold.put s.led.keys }
    else ({ s with led := { s.led with keys := fresh.put s.led.keys } }).ledgerWrite code island source k.withheld detail
  | none =>
    if s.led.keys.length < 4096 then
      ({ s with led := { s.led with keys := fresh.put s.led.keys } }).ledgerWrite code island source 0 detail
    else match oldestPast now s.led.keys with
      | some o =>
        let ks := s.led.keys.filter (fun x => !(x.code == o.code && x.source == o.source))
        ({ s with led := { s.led with keys := fresh.put ks } }).ledgerWrite code island source 0 detail
      | none =>
        match s.led.shared.find? (fun k => k.code == code) with
        | some k =>
          if k.fresh now then s.withhold { s.led with shared := k.hold.put s.led.shared }
          else
            let sh : LimKey := ⟨code, 0xFFFFFFFF, now, 0⟩
            ({ s with led := { s.led with shared := sh.put s.led.shared } }).ledgerWrite
              code island 0xFFFFFFFF k.withheld detail
        | none =>
          let sh : LimKey := ⟨code, 0xFFFFFFFF, now, 0⟩
          ({ s with led := { s.led with shared := sh.put s.led.shared } }).ledgerWrite
            code island 0xFFFFFFFF 0 detail

/-- The bytes of a record as the Ledger and the vault hold it (R514). -/
def LedgerRec.bytes (r : LedgerRec) : List Byte :=
  let head := leBytes 8 r.time ++ leBytes 8 r.step ++ leBytes 8 r.seq ++ leBytes 2 r.code ++ leBytes 1 r.severity
    ++ leBytes 1 r.island ++ leBytes 4 r.source ++ leBytes 4 r.suppressed ++ r.detail
  head ++ leBytes 4 (crc32c head)

/-- The bytes of a slot as LEDGER_READ returns them: zero when never written, CODE 0xFFFF with a correct CRC when an
uncorrectable word lies in it (R519). -/
def State.ledgerSlotBytes (s : State) (i : Nat) : List Byte :=
  match s.led.slots.find? (fun c => c.1 == i) with
  | none => zeroBytes 64
  | some (_, r) =>
    if s.led.bad.contains i then
      LedgerRec.bytes ⟨0, 0, r.seq, 0xFFFF, 0, 0, 0, 0, zeroBytes 24⟩
    else r.bytes

/-! ## Bridge faults (R28, R29, R38) -/

/-- Records a bridge fault: the first one since VALID was cleared keeps its island and cause; every one counts and raises
BRIDGE_FAULT. -/
def State.bridgeFault (s : State) (island cause : Nat) : State :=
  let s :=
    if s.flag F.GLB_BRIDGE_FAULT.VALID then
      s.set F.GLB_BRIDGE_FAULT.COUNT (min (s.get F.GLB_BRIDGE_FAULT.COUNT + 1) 255)
    else
      (((s.setFlag F.GLB_BRIDGE_FAULT.VALID true).set F.GLB_BRIDGE_FAULT.COUNT 1).set
        F.GLB_BRIDGE_FAULT.CAUSE cause).set F.GLB_BRIDGE_FAULT.ISLAND island
  s.raise 0x001

/-- A fault that also writes its Ledger record (R29, R30). -/
def State.accessFault (s : State) (island cause : Nat) : State :=
  (s.bridgeFault island cause).ledger 0x001 24 island

/-- The island is powered, clocked and out of reset (GLB_ISLAND_UP). -/
def State.islandUp (s : State) (n : Nat) : Bool := bitOf (s.get F.GLB_ISLAND_UP.UP) n

/-- CAUSE of an access to an island that is not up (R29): gated, or held in reset or in fault. -/
def State.islandCause (s : State) (n : Nat) : Nat := if s.dev.gated.contains n then 2 else 3

end Sys2Proof.Machine
end

