-- ==== Sys2Proof/Machine/Bus.lean ====
section
/-!
DEFINITION. Machine/Bus.lean: the way of a BAR0 write that has a row of its own: the service port's state, then the island of the
register (R25, R29, R445, R448), then the effect.
-/
namespace Sys2Proof.Machine

/-- The island that holds the register at a BAR0 offset (R37 and the island of each block's registers). -/
def islandOf (off : Nat) : Nat :=
  if off < 0x10000 then 24
  else if off < 0x20000 then 23
  else if off < 0x80000 then 24
  else if off < 0x100000 then
    let p := (off - 0x80000) / 0x20000
    if p = 0 then 26 else if p = 1 then 27 else if p = 2 then 31 else 32
  else if off < 0x140000 then 7
  else if off < 0x200000 then 8
  else if off < 0x300000 then 9
  else if off < 0x310000 then 4
  else if off < 0x340000 then 5
  else if off < 0x380000 then 4
  else if off < 0x381000 then 10
  else if off < 0x386000 then 11
  else if off < 0x400000 then 12
  else if off < 0x480000 then 13
  else if off < 0x500000 then 14 + (off - 0x480000) / 0x1000 / 12
  else if off < 0x520000 then (if (off - 0x500000) / 0x100 < 24 then 36 else 37)
  else if off < 0x540000 then 20
  else if off < 0x580000 then 21
  else if off < 0x5C0000 then
    let o := off - 0x580000
    if o < 0x800 then o / 8 / 64
    else if 0x2000 ≤ o ∧ o < 0x2400 then (o - 0x2000) / 4 / 64
    else 22
  else if off < 0x600000 then 25
  else if off < 0x800000 then (off - 0x600000) / 0x4000 / 8
  else if off < 0x801000 then 25
  else if off < 0x1000000 then 24
  else if off < 0x1080000 then 9
  else 7

/-- Islands 25, 36 and 37 run whenever VDD_AON is present (R20); the others as GLB_ISLAND_UP says. -/
def State.reachable (s : State) (n : Nat) : Bool := n == 25 || n == 36 || n == 37 || s.islandUp n

/-- What becomes of a BAR0 access before it reaches its register. -/
inductive Gate where
  | pass | unsupported | frozen | unreachable
  deriving DecidableEq, Repr

/-- D3hot and the freeze stop the service port's accesses (R445, R448); an island that is down stops every access (R29). -/
def State.gate (s : State) (src : Src) (off : Nat) : Gate :=
  if src = .svc ∧ s.flag F.SVC_STATUS.D3 then .unsupported
  else if src = .svc ∧ s.flag F.SVC_STATUS.FROZEN then .frozen
  else if s.reachable (islandOf off) then .pass
  else .unreachable

/-- A BAR0 write to a register at `off`: its effect when the access passes, else what R445, R448 and R29 say. -/
def State.busWrite (s : State) (src : Src) (off : Nat) (effect : State → State) : State :=
  match s.gate src off with
  | .pass => effect s
  | .unsupported => s.emit .barUr
  | .frozen => s
  | .unreachable => s.accessFault (islandOf off) (s.islandCause (islandOf off))

end Sys2Proof.Machine
end

