-- ==== Sys2Proof/Machine/Observability.lean ====
section
/-!
DEFINITION. Machine/Observability.lean: Scaler counters, precise sampling and the Ledger's control
(17_observability.md).
-/
namespace Sys2Proof.Machine

/-! ## Counting (R502 to R506) -/

/-- Counting is permitted now (R506). -/
def State.scalerOn (s : State) : Bool :=
  s.flag F.SCL_CTL.RUN
  && (s.get F.SCL_START_AT.TIME == 0 || decide (s.get F.SCL_START_AT.TIME ≤ s.dev.timeNs))
  && (s.get F.SCL_STOP_AT.TIME == 0 || decide (s.dev.timeNs < s.get F.SCL_STOP_AT.TIME))

/-- The selection table of R505: the instances and events of each unit. -/
def selectionValid (i unit inst event : Nat) : Bool :=
  if i < 256 then unit == 0 && decide (event ≤ 0x0C)
  else match unit with
    | 1 => decide (inst < 32) && decide (event ≤ 3)
    | 2 => decide (inst < 12) && decide (event ≤ 3)
    | 3 => inst == 0 && decide (event ≤ 5)
    | 4 => inst == 0 && decide (event ≤ 4)
    | 5 => decide (inst < 2) && decide (event ≤ 1)
    | 6 => decide (inst < 48) && decide (event ≤ 3)
    | 7 => decide (inst < 2) && decide (event ≤ 1)
    | 8 => inst == 0 && event == 0
    | 9 => inst == 0 && decide (event ≤ 2)
    | _ => false

/-- Adds a weight to counter i: it wraps at 2^48 with its sticky bit and SCALER_OVF (R503). -/
def State.addCounter (s : State) (i weight : Nat) : State :=
  let v := s.get F.SCL_CNT.COUNT i + weight
  let s := s.set F.SCL_CNT.COUNT v i
  if v < 2 ^ 48 then s
  else (s.set F.SCL_OVF.OVF (withBit (s.get F.SCL_OVF.OVF (i / 32)) (i % 32)) (i / 32)).raiseLimited 0x480

/-- Counter i counts this event now (R502, R505, R506, R509). -/
def State.selects (s : State) (i unit inst event : Nat) : Bool :=
  s.flag F.SCL_SEL.ENABLE i && !s.flag F.SCL_SEL.BAD i && s.get F.SCL_SEL.UNIT i == unit
  && (decide (i < 256) || s.get F.SCL_SEL.INSTANCE i == inst) && s.get F.SCL_SEL.EVENT i == event

/-- A datapath event of a unit's instance, with its weight (R502). -/
def State.count (s : State) (unit inst event : Nat) (weight : Nat := 1) : State :=
  if s.scalerOn then
    (List.range' 256 768).foldl (fun s i => if s.selects i unit inst event then s.addCounter i weight else s) s
  else s

/-- An event of engine n, counted by its own counters while its cluster is clocked (R502, R509). -/
def State.countEngine (s : State) (n event : Nat) (weight : Nat := 1) : State :=
  if s.scalerOn && !s.dev.gated.contains (n / 8) then
    (List.range' (8 * n) 8).foldl (fun s i => if s.selects i 0 0 event then s.addCounter i weight else s) s
  else s

/-- Device time has reached an instant: it never runs backwards (R27). -/
def State.reach (s : State) (t : Nat) : State :=
  { s with dev := { s.dev with timeNs := max s.dev.timeNs t } }

/-- SCALER_COUNTER_WRITE: a write sets the value (R504); the CSRs of R508 reach an engine's own counters. -/
def scalerAccess (i : Nat) (acc : CounterAccess) (s : State) : State :=
  match acc with
  | .regWrite src v => s.busWrite src (F.SCL_CNT.COUNT.at i 0) (fun s => s.set F.SCL_CNT.COUNT v i)
  | .csrWrite md v =>
    if i < 256 then (if md = .u then s.emit (.exception (i / 8) 2) else s.set F.SCL_CNT.COUNT v i) else s
  | .csrRead md mc sc =>
    if i < 256 then
      if md = .u ∧ ¬(mc ∧ sc ∧ s.flag F.SCL_SEL.UREAD i) then s.emit (.exception (i / 8) 2)
      else s.emit (.engineRd (i / 8) (s.get F.SCL_CNT.COUNT i))
    else s

def execScalerCounterWrite (i : Nat) (acc : CounterAccess) (s : State) : Result :=
  .next (if i < 1024 then scalerAccess i acc s else s)

/-- SCALER_SELECT_WRITE (R504, R505): keeps what was written, marks an absent selection BAD, leaves the value. -/
def execScalerSelectWrite (src : Src) (i : Nat) (sel : Selection) (s : State) : Result :=
  .next (if i < 1024 then
    s.busWrite src (F.SCL_SEL.EVENT.at i 0) (fun s =>
      let s := s.setFlag F.SCL_SEL.ENABLE sel.enable i
      let s := s.setFlag F.SCL_SEL.UREAD (sel.uread && decide (i < 256)) i
      let s := s.set F.SCL_SEL.INSTANCE sel.inst i
      let s := s.set F.SCL_SEL.UNIT sel.unit i
      let s := s.set F.SCL_SEL.EVENT sel.event i
      s.setFlag F.SCL_SEL.BAD (!selectionValid i (sel.unit % 16) (sel.inst % 256) (sel.event % 256)) i)
  else s)

/-- SCALER_START_AT_REACHED (R506): device time is at the start; counting is then permitted by `scalerOn`. -/
def execScalerStartAtReached (s : State) : Result := .next (s.reach (s.get F.SCL_START_AT.TIME))

/-- SCALER_STOP_AT_REACHED (R506). -/
def execScalerStopAtReached (s : State) : Result := .next (s.reach (s.get F.SCL_STOP_AT.TIME))

/-! ## Precise sampling (R511 to R513) -/

/-- A sample record of 32 bytes (R512). -/
def Sample.bytes (r : Sample) (engine time : Nat) : List Byte :=
  leBytes 8 r.pc ++ leBytes 8 (if r.daddrValid then r.daddr else 0) ++ leBytes 4 r.insn
  ++ leBytes 2 (min r.latency 65535) ++ leBytes 1 engine
  ++ leBytes 1 (r.mode % 4 + (if r.daddrValid then 4 else 0) + (if r.preempted then 8 else 0))
  ++ leBytes 6 time ++ leBytes 1 r.context ++ [0]

/-- Records in an engine's ring (R513). -/
def State.ringSize (s : State) (n : Nat) : Nat := 2 ^ s.get F.SMP_CTL.SIZE_LOG2 n

/-- A record into the ring, or a drop when the ring is full (R513, R521). -/
def State.writeSample (s : State) (n : Nat) (r : Sample) : State :=
  let head := s.get F.SMP_HEAD.INDEX n
  let next := (head + 1) % s.ringSize n
  if next = s.get F.SMP_TAIL.INDEX n then (s.bump F.SMP_DROP.COUNT n).raiseLimited 0x481
  else
    let a := s.get F.SMP_BASE.ADDR n + 32 * head
    (s.store a (r.bytes n s.dev.timeNs)).set F.SMP_HEAD.INDEX next n

/-- SAMPLE_TAKEN (R511): tenant code is sampled only with TENANT set; the next countdown is PERIOD plus a drawn value
from 0 to 255. -/
def execSampleTaken (engine : Nat) (smp : Sample) (s : State) : Result :=
  .next (if engine < 32 ∧ s.get F.SMP_CTL.PERIOD engine ≠ 0
      ∧ (smp.tenantAsid = false ∨ smp.mode ≠ 0 ∨ s.flag F.SMP_CTL.TENANT engine) then
    let t := s.writeSample engine smp
    let left := s.get F.SMP_CTL.PERIOD engine + s.free.toNat % 256
    { t with eng := { t.eng with smpLeft := sparsePut 0 engine left t.eng.smpLeft } }.drawn
  else s)

/-- The stored PERIOD: 1 to 1,023 are stored as 1,024 (R511). -/
def storedPeriod (p : Nat) : Nat := if 1 ≤ p ∧ p ≤ 1023 then 1024 else p

/-- HEAD and TAIL of an engine's ring at 0 (R513). -/
def State.ringEmpty (s : State) (n : Nat) : State := (s.set F.SMP_HEAD.INDEX 0 n).set F.SMP_TAIL.INDEX 0 n

/-- SMP_RING_RESET (R513): a SIZE_LOG2 outside 7 to 25 is discarded and recorded. -/
def execSmpRingReset (src : Src) (engine : Nat) (wr : SmpWrite) (s : State) : Result :=
  .next (if engine < 32 then
    s.busWrite src (F.SMP_CTL.PERIOD.at engine 0) (fun s =>
      match wr with
      | .base a => (s.set F.SMP_BASE.ADDR a engine).ringEmpty engine
      | .ctl tenant size period =>
        let s := (s.setFlag F.SMP_CTL.TENANT tenant engine).set F.SMP_CTL.PERIOD (storedPeriod period) engine
        if 7 ≤ size ∧ size ≤ 25 then (s.set F.SMP_CTL.SIZE_LOG2 size engine).ringEmpty engine
        else s.ledger 0x0501 22 0)
  else s)

/-! ## Ledger control (R518) -/

/-- A write to LDG_CTL: FREEZE and THAW together are discarded and recorded. -/
def State.ledgerControl (s : State) (freeze thaw : Bool) : State :=
  if freeze && thaw then s.ledger 0x0501 25 0
  else if freeze then s.freezeLedger
  else if thaw then (s.setFlag F.LDG_STATUS.FROZEN false).set F.LDG_STATUS.TAIL_LEFT 0
  else s

def execLdgFreezeWrite (src : Src) (thawToo : Bool) (s : State) : Result :=
  .next (s.busWrite src (F.LDG_CTL.FREEZE.at 0 0) (fun s => s.ledgerControl true thawToo))

/-- LDG_THAW: only service software ends a freeze (R518). -/
def execLdgThaw (src : Src) (freezeToo : Bool) (s : State) : Result :=
  .next (s.busWrite src (F.LDG_CTL.THAW.at 0 0) (fun s =>
    if src = .svc ∨ freezeToo then s.ledgerControl freezeToo true else s))

end Sys2Proof.Machine
end

