-- ==== Sys2Proof/Machine/Engines.lean ====
section
/-!
DEFINITION. Machine/Engines.lean: what the engines ask of the block: Xkvq queues (R469), access faults (R465, R468, R470),
pre-emption (R476, R477), translation invalidation (R471), raising an event for test. The Xkvq doorbell and DMA stand in
files of their own.
-/
namespace Sys2Proof.Machine

/-- The cluster of an engine. -/
def clusterOf (engine : Nat) : Nat := engine / 8

/-- The engine runs tenant code now: it is given to tenant code and runs U mode (R468). -/
def State.tenantRuns (s : State) (engine : Nat) (mode : Mode) : Bool :=
  mode = .u && s.flag F.ENG_STATUS.TENANT engine

/-- A queue that the running mode reaches: tenant code has queues 32 to 63 (R468). -/
def State.queueReach (s : State) (engine : Nat) (mode : Mode) (q : Nat) : Bool :=
  !s.tenantRuns engine mode || decide (32 ≤ q)

/-- A tenant refusal is counted and raises TENANT_FAULT of the engine (R468, R481). -/
def State.tenantRefused (s : State) (engine : Nat) : State :=
  (s.bump F.XLT_TENANT_FAULT.COUNT).raiseLimited (0x400 + 4 * engine + 3)

/-- An Xkvq instruction names something the mode may not reach: cause 2, counted as a refusal (R468, R469). -/
def State.kvqIllegal (s : State) (engine : Nat) : State := (s.tenantRefused engine).emit (.exception engine 2)

/-- An Xkvq result. -/
def State.rd (s : State) (engine : Nat) (v : Nat) : State := s.emit (.engineRd engine v)

/-- All bits 1. -/
def allOnes64 : Nat := 2 ^ 64 - 1

/-- KVQ.POP (R469). -/
def execKvqPop (engine : Nat) (mode : Mode) (rs1 : Word) (s : State) : Result :=
  let c := clusterOf engine
  let q := rs1.toNat % 64
  .next (if s.queueReach engine mode q then
    match s.queue c q with
    | [] => s.rd engine allOnes64
    | e :: rest => (s.setQueue c q rest).rd engine e.toNat
  else s.kvqIllegal engine)

/-- Appends to a queue, or not when it is full; the answer says whether it was full. -/
def State.push (s : State) (cluster q : Nat) (e : Word) : State × Bool :=
  let es := s.queue cluster q
  if es.length < queueDepth q then (s.setQueue cluster q (es ++ [e]), false) else (s, true)

/-- KVQ.PUSH (R469). -/
def execKvqPush (engine : Nat) (mode : Mode) (rs1 rs2 : Word) (s : State) : Result :=
  let q := rs1.toNat % 64
  .next (if s.queueReach engine mode q then
    let (t, full) := s.push (clusterOf engine) q rs2
    t.rd engine (if full then 1 else 0)
  else s.kvqIllegal engine)

/-- The lowest queue of a mask that is non-empty. -/
def State.readyQueue (s : State) (cluster mask : Nat) : Option Nat :=
  (List.range 64).find? (fun q => bitOf mask q && !(s.queue cluster q).isEmpty)

/-- KVQ.WAIT (R469): a mask of 0 completes at once; a non-empty queue answers at once; else the engine waits. -/
def execKvqWait (engine : Nat) (mode : Mode) (rs1 : Word) (s : State) : Result :=
  let mask := rs1.toNat
  .next (if mask = 0 then s.rd engine allOnes64
  else if (List.range 64).any (fun q => bitOf mask q && !s.queueReach engine mode q) then s.kvqIllegal engine
  else match s.readyQueue (clusterOf engine) mask with
    | some q => s.rd engine q
    | none =>
      ({ s with eng := { s.eng with waits := sparsePut 0 engine mask s.eng.waits } }).set F.ENG_STATUS.STATE 1 engine)

/-- A waiting KVQ.WAIT completes when a masked queue is non-empty (R469). -/
def execKvqWaitWake (engine : Nat) (s : State) : Result :=
  let mask := sparseGet 0 engine s.eng.waits
  .next (match s.readyQueue (clusterOf engine) mask with
    | some q =>
      (({ s with eng := { s.eng with waits := sparseErase engine s.eng.waits } }).set F.ENG_STATUS.STATE 0 engine).rd
        engine q
    | none => s)

/-- RISC-V exception causes: page faults 12, 13, 15 and access faults 1, 5, 7 (R465); a poisoned word is a load or fetch
access fault of the hardware (R485). -/
def accCause (kind : AccKind) (c : AccCause) : Nat :=
  let page := match kind with | .fetch => 12 | .load => 13 | .store => 15
  let access := match kind with | .fetch => 1 | .load => 5 | .store => 7
  match c with
  | .page => page
  | .tenant => page
  | .access => access
  | .poison => access

/-- XKVQ and memory accesses of engine n fault precisely: no byte is written (R470, R472); translation faults are counted, and
ENG_FAULT is raised when the exception reaches M mode unhandled (R481). -/
def execEngineAccessFault (engine : Nat) (_mode : Mode) (kind : AccKind) (cause : AccCause) (_va : Nat)
    (unhandled : Bool) (s : State) : Result :=
  let s : State := match cause with
    | .page => s.bump F.XLT_FAULTS.COUNT
    | .tenant => (s.bump F.XLT_FAULTS.COUNT).tenantRefused engine
    | .access => s
    | .poison => s.bump F.MEM_POISON_READ.COUNT
  let s := s.emit (.exception engine (accCause kind cause))
  .next (if unhandled then s.raise (0x400 + 4 * engine) else s)

/-! ## Pre-emption (R476, R477) -/

/-- Engines of a cluster. -/
def enginesOf (cluster : Nat) : List Nat := List.range' (8 * cluster) 8

/-- The engine of a cluster that runs the task of lowest priority, lowest-numbered first. -/
def State.lowestRunning (s : State) (cluster : Nat) : Nat :=
  (enginesOf cluster).foldl
    (fun best n => if s.get F.ENG_STATUS.PRIORITY n < s.get F.ENG_STATUS.PRIORITY best then n else best) (8 * cluster)

/-- Every engine of the cluster runs a task of lower priority (R476). -/
def State.allRunLower (s : State) (cluster priority : Nat) : Bool :=
  (enginesOf cluster).all (fun n => s.get F.ENG_STATUS.STATE n == 0 && decide (s.get F.ENG_STATUS.PRIORITY n < priority))

/-- The switch (R477): the task that ran is ready again, its KVQ.WAIT is abandoned, its load reservation is cleared; the new
task runs in a register context that the spec leaves open. -/
def State.switchTask (s : State) (n priority : Nat) : State :=
  let old := s.get F.ENG_STATUS.PRIORITY n
  let ctx := s.free.toNat
  let s := { s.drawn with eng := { s.eng with
    ready := s.eng.ready ++ [(clusterOf n, old)],
    waits := sparseErase n s.eng.waits } }
  (((s.set F.ENG_STATUS.PRIORITY priority n).set F.ENG_STATUS.CONTEXT ctx n).countEngine n 0x0B).emit
    (.preempted n priority)

/-- TASK_PREEMPT: a task becomes ready; when every engine of its cluster runs a task of lower priority, the lowest is
pre-empted, unless it has an access to register space in flight (`regAccess`): then the task waits among the ready
ones. A cluster holds 256 ready tasks. -/
def execTaskPreempt (cluster priority : Nat) (regAccess : Bool) (s : State) : Result :=
  .next (if cluster < 4 ∧ priority < 16 then
    let n := s.lowestRunning cluster
    if s.allRunLower cluster priority ∧ regAccess = false then s.switchTask n priority
    else if (s.eng.ready.filter (fun r => r.1 == cluster)).length < 256 then
      { s with eng := { s.eng with ready := s.eng.ready ++ [(cluster, priority)] } }
    else s
  else s)

/-! ## Translation caches (R471) and the test event (R479) -/

/-- XLT_INVAL: units translated under an invalidated entry may be in flight until XLT_INVAL_DONE; SCOPE 3 is
discarded. -/
def execXltInval (src : Src) (scope _asid _vpn : Nat) (s : State) : Result :=
  .next (s.busWrite src (F.XLT_INVAL.SCOPE.at 0 0) (fun s =>
    if scope < 3 then s.set F.XLT_STATUS.IDLE 0 else s))

def execXltInvalDone (s : State) : Result :=
  .next (if s.flag F.XLT_STATUS.IDLE then s else (s.set F.XLT_STATUS.IDLE 1).raise 0x00F)

/-- EVT_RAISE: a local event, for test; the part has events 0x000 to 0x4FF (R39). -/
def execEvtRaiseWrite (src : Src) (event : Nat) (s : State) : Result :=
  .next (s.busWrite src (F.EVT_RAISE.EVENT.at 0 0) (fun s => if event < 1280 then s.raise event else s))

end Sys2Proof.Machine
end

