-- ==== Sys2Proof/Machine/FlumeFmt.lean ====
section
/-!
DEFINITION. Machine/FlumeFmt.lean: Flume formats: the fixed header (R82), extensions (R86, R87), the nonce (R140), the KDF input
(R139), message arithmetic (R89), the Recent Message Table entry (R103), window, queue and completion layouts (R120, R130, R135).
-/
namespace Sys2Proof.Machine

/-! ## Opcodes and flags (R83, R84) -/

def opSend : Nat := 0x01
def opWrite : Nat := 0x02
def opRead : Nat := 0x03
def opReadResp : Nat := 0x04
def opAck : Nat := 0x10
def opNack : Nat := 0x11
def opBusy : Nat := 0x12
def opProbe : Nat := 0x20

def FlumeHdr.fence (h : FlumeHdr) : Bool := bitOf h.flags 0
def FlumeHdr.solicit (h : FlumeHdr) : Bool := bitOf h.flags 1
def FlumeHdr.complete (h : FlumeHdr) : Bool := bitOf h.flags 2
def FlumeHdr.notify (h : FlumeHdr) : Bool := bitOf h.flags 3
def FlumeHdr.resp (h : FlumeHdr) : Bool := bitOf h.flags 4

/-- FLAGS of the five bits (R84). -/
def flagsOf (fence solicit complete notify resp : Bool) : Nat :=
  (if fence then 1 else 0) + (if solicit then 2 else 0) + (if complete then 4 else 0) + (if notify then 8 else 0)
  + (if resp then 16 else 0)

/-! ## The fixed header (R82), in network order (R5) -/

/-- The 64 bytes of a header. -/
def FlumeHdr.bytes (h : FlumeHdr) : List Byte :=
  beBytes 1 h.version ++ (beBytes 1 h.opcode ++ (beBytes 2 h.flags ++ (beBytes 4 h.srcPeer ++ (beBytes 4 h.dstPeer ++
  (beBytes 2 h.epoch ++ (beBytes 1 h.attempt ++ (beBytes 1 h.extUnits ++ (beBytes 6 h.msgId ++ (beBytes 2 h.pktIndex ++
  (beBytes 4 h.msgLen ++ (beBytes 2 h.payloadLen ++ (beBytes 1 h.path ++ (beBytes 1 h.sizeCode ++ (beBytes 4 h.offset ++
  (beBytes 4 h.window ++ (beBytes 8 h.winOffset ++ (beBytes 4 h.aux ++ (beBytes 4 h.rsvd ++
  beBytes 8 h.txCookie))))))))))))))))))

/-- A big-endian field of a byte string. -/
def beAt (bs : List Byte) (off size : Nat) : Nat := beNat (sliceOf bs off size)

/-- The header that 64 bytes spell. -/
def FlumeHdr.ofBytes (b : List Byte) : FlumeHdr :=
  { version := beAt b 0 1, opcode := beAt b 1 1, flags := beAt b 2 2, srcPeer := beAt b 4 4, dstPeer := beAt b 8 4,
    epoch := beAt b 0x0C 2, attempt := beAt b 0x0E 1, extUnits := beAt b 0x0F 1, msgId := beAt b 0x10 6,
    pktIndex := beAt b 0x16 2, msgLen := beAt b 0x18 4, payloadLen := beAt b 0x1C 2, path := beAt b 0x1E 1,
    sizeCode := beAt b 0x1F 1, offset := beAt b 0x20 4, window := beAt b 0x24 4, winOffset := beAt b 0x28 8,
    aux := beAt b 0x30 4, rsvd := beAt b 0x34 4, txCookie := beAt b 0x38 8 }

/-- Every field fits its size (R82). -/
def FlumeHdr.fits (h : FlumeHdr) : Bool :=
  decide (h.version < 256) && decide (h.opcode < 256) && decide (h.flags < 65536) && decide (h.srcPeer < 2 ^ 32)
  && decide (h.dstPeer < 2 ^ 32) && decide (h.epoch < 65536) && decide (h.attempt < 256) && decide (h.extUnits < 256)
  && decide (h.msgId < 2 ^ 48) && decide (h.pktIndex < 65536) && decide (h.msgLen < 2 ^ 32)
  && decide (h.payloadLen < 65536) && decide (h.path < 256) && decide (h.sizeCode < 256) && decide (h.offset < 2 ^ 32)
  && decide (h.window < 2 ^ 32) && decide (h.winOffset < 2 ^ 64) && decide (h.aux < 2 ^ 32) && decide (h.rsvd < 2 ^ 32)
  && decide (h.txCookie < 2 ^ 64)

/-! ## Extensions (R86, R87) -/

/-- The bytes of an extension. -/
def FlumeExt.bytes : FlumeExt → List Byte
  | .sack cum base map => [0x01, 5] ++ beBytes 2 cum ++ beBytes 2 base ++ zeroBytes 2 ++ leBytes 32 map
  | .tsEcho cookie hold => [0x02, 3] ++ zeroBytes 6 ++ beBytes 8 cookie ++ beBytes 8 hold
  | .fenceList ids =>
    [0x03, BitVec.ofNat 8 (1 + ids.length), BitVec.ofNat 8 ids.length] ++ zeroBytes 5
    ++ (ids.map (fun i => zeroBytes 2 ++ beBytes 6 i)).flatten
  | .other t bs => [BitVec.ofNat 8 t, BitVec.ofNat 8 ((bs.length + 2) / 8)] ++ bs

/-- What is wrong with an extension area (R92 order 5): ill formed, or a reserved byte not 0. -/
inductive ExtErr where
  | bad | reserved
  deriving DecidableEq, Repr

/-- The message IDs of a FENCE_LIST's entries; `none` when one of their zero bytes is not 0. -/
def fenceIdsOf : Nat → List Byte → Option (List Nat)
  | 0, _ => some []
  | n + 1, b =>
    if allZero (b.take 2) then (fenceIdsOf n (b.drop 8)).map (fun r => beNat (sliceOf b 2 6) :: r) else none

/-- One extension of `8 × units` bytes. COUNT above 32 is left to order 8 (BAD_SIZE), so its entries are not walked. -/
def extOf (b : List Byte) : Except ExtErr FlumeExt :=
  let t := leAt b 0 1
  let u := leAt b 1 1
  if t = 0x01 then
    if u ≠ 5 then .error .bad
    else if !allZero (sliceOf b 6 2) then .error .reserved
    else .ok (.sack (beAt b 2 2) (beAt b 4 2) (leNat (sliceOf b 8 32)))
  else if t = 0x02 then
    if u ≠ 3 then .error .bad
    else if !allZero (sliceOf b 2 6) then .error .reserved
    else .ok (.tsEcho (beAt b 8 8) (beAt b 16 8))
  else if t = 0x03 then
    if u ≠ 1 + leAt b 2 1 then .error .bad
    else if !allZero (sliceOf b 3 5) then .error .reserved
    else match fenceIdsOf (leAt b 2 1) (b.drop 8) with
      | none => .error .reserved
      | some ids => .ok (.fenceList ids)
  else if t < 128 then .error .bad
  else .ok (.other t (b.drop 2))

/-- Walks the extension area; every extension takes at least one unit, so `fuel` units suffice. -/
def extsOf : Nat → List Byte → Except ExtErr (List FlumeExt)
  | _, [] => .ok []
  | 0, _ :: _ => .error .bad
  | fuel + 1, b :: bs =>
    let u := leAt (b :: bs) 1 1
    if u = 0 ∨ (b :: bs).length < 8 * u then .error .bad
    else match extOf ((b :: bs).take (8 * u)) with
      | .error e => .error e
      | .ok x => match extsOf fuel ((b :: bs).drop (8 * u)) with
        | .error e => .error e
        | .ok r => .ok (x :: r)

/-- The SACK among extensions. -/
def sackOf (es : List FlumeExt) : Option (Nat × Nat × Nat) :=
  es.findSome? (fun x => match x with | .sack c b m => some (c, b, m) | _ => none)

/-- The TS_ECHO among extensions. -/
def echoOf (es : List FlumeExt) : Option (Nat × Nat) :=
  es.findSome? (fun x => match x with | .tsEcho c h => some (c, h) | _ => none)

/-- The FENCE_LIST among extensions. -/
def fenceOf (es : List FlumeExt) : Option (List Nat) :=
  es.findSome? (fun x => match x with | .fenceList l => some l | _ => none)

/-- A SACK shows packet i as held (R87). -/
def sackHolds (k : Nat × Nat × Nat) (i : Nat) : Bool :=
  decide (i < k.1) || (decide (k.2.1 ≤ i) && decide (i < k.2.1 + 256) && bitOf k.2.2 (i - k.2.1))

/-- The SACK of held packets: CUM the first index not held, BASE equal to CUM (R106). -/
def sackFor (total : Nat) (held : List Nat) : Nat × Nat × Nat :=
  let cum := ((List.range (total + 1)).find? (fun i => !held.contains i)).getD total
  let map := (List.range 256).foldl (fun m i => if held.contains (cum + i) then m + 2 ^ i else m) 0
  (cum, cum, map)

/-! ## Messages and packets (R89) -/

/-- Packet size of a SIZE_CODE (R82). -/
def pktSize (sizeCode : Nat) : Nat := 1024 * 2 ^ sizeCode

/-- Packets of a message: max(1, ceil(MSG_LEN / S)) (R89). -/
def pktCount (len sizeCode : Nat) : Nat := max 1 ((len + pktSize sizeCode - 1) / pktSize sizeCode)

/-- PAYLOAD_LEN of packet i (R89). -/
def pktPayload (len sizeCode i : Nat) : Nat :=
  if i + 1 = pktCount len sizeCode then len - i * pktSize sizeCode else pktSize sizeCode

/-! ## Nonce and key derivation (R139, R140) -/

/-- The 96-bit GCM nonce of a packet (R140). -/
def gcmNonce (h : FlumeHdr) : List Byte :=
  beBytes 6 h.msgId ++ (beBytes 2 h.pktIndex ++ (beBytes 1 h.attempt ++
  (beBytes 1 ((if h.resp then 128 else 0) + h.opcode % 128) ++ beBytes 2 h.epoch)))

/-- The PRF input of iteration i of the pair key (R139). -/
def kdfInput (i src dst epoch : Nat) : List Byte :=
  beBytes 4 i ++ asciiBytes "FLUME PAIR" ++ [0] ++ beBytes 4 src ++ beBytes 4 dst ++ beBytes 2 epoch ++ beBytes 4 256

/-- The control serial of ACK, NACK and BUSY (R141). -/
def controlSerial (stepUs : Nat) : Nat := stepUs / 4 % 65536

/-- The UDP source port of a path (R80). -/
def srcPortOf (path salt : Nat) : Nat := 0xC000 + path * 0x400 + salt

/-! ## Tables in HBM -/

/-- A Recent Message Table entry of 16 bytes (R103). -/
def rmtBytes (peer msgId outcome reason expiryUs : Nat) : List Byte :=
  leBytes 4 peer ++ leBytes 6 msgId ++ leBytes 1 outcome ++ leBytes 1 reason ++ leBytes 4 expiryUs

/-- A window table entry of 64 bytes (R120). -/
def winBytes (live shadow : WinHalf) (gen lastCommit oldRefs oldGen : Nat) (draining : Bool) : List Byte :=
  leBytes 8 live.base ++ leBytes 8 live.len ++ leBytes 4 live.scope ++ leBytes 2 live.asid ++ leBytes 1 live.rights
  ++ leBytes 1 gen ++ leBytes 4 lastCommit ++ leBytes 2 oldRefs ++ leBytes 1 oldGen ++ leBytes 1 (if draining then 1 else 0)
  ++ leBytes 8 shadow.base ++ leBytes 8 shadow.len ++ leBytes 4 shadow.scope ++ leBytes 2 shadow.asid
  ++ leBytes 1 shadow.rights ++ zeroBytes 9

/-- A completion entry of 32 bytes (R135). -/
def CqEntry.bytes (e : CqEntry) (phase : Bool) : List Byte :=
  leBytes 8 e.user ++ leBytes 4 e.len ++ leBytes 2 e.index ++ leBytes 1 e.status ++ leBytes 1 e.reason
  ++ leBytes 4 e.peer ++ leBytes 2 e.wq ++ leBytes 1 e.op ++ leBytes 1 (if phase then 1 else 0) ++ leBytes 8 e.msgId

end Sys2Proof.Machine
end

