-- ==== Sys2Proof/Machine/Traffic.lean ====
section
/-!
DEFINITION. Machine/Traffic.lean: the class queues of the points of control (R374), joined by every unit that is to be sent or issued; the clocks of logical ports, meters (R380 to
R382), shaper credits (R387, R388), gate lists (R389 to R395). The rows of chapter 11 that serve the queues stand in TrafficRows.lean.
-/
namespace Sys2Proof.Machine

/-- A point with nothing queued. -/
def tcPoint0 : TcPoint := ⟨[], [], [], [], none, 0, [], 0, [], false⟩

def State.point (s : State) (p : Nat) : TcPoint := sparseGet tcPoint0 p s.tc.points

def State.setPoint (s : State) (p : Nat) (x : TcPoint) : State :=
  { s with tc := { s.tc with points := sparsePut tcPoint0 p x s.tc.points } }

/-- The queue of a class, head first. -/
def TcPoint.queue (x : TcPoint) (cls : Nat) : List TcUnit := sparseGet [] cls x.queues

def TcPoint.setQueue (x : TcPoint) (cls : Nat) (q : List TcUnit) : TcPoint :=
  { x with queues := sparsePut [] cls q x.queues }

/-- Point of control of a drive port. -/
def drivePoint (port : Nat) : Nat := 32 + port

/-- Everything of one drive command leaves its queues and batches. -/
def TcPoint.without (x : TcPoint) (cid : Nat) : TcPoint :=
  { x with
    queues := (x.queues.map (fun (q : Nat × List TcUnit) => (q.1, q.2.filter (fun u => u.item ≠ .drive cid)))).filter
      (fun q => !q.2.isEmpty)
    batch := x.batch.filter (· != cid) }

/-! ## The scheduling tree record (R376) -/

/-- Offset of a class's fields in the record. -/
def clsOff (cls : Nat) : Nat := 8 + 24 * cls

/-- The class is a DRR class of the point. -/
def State.isDrr (s : State) (p cls : Nat) : Bool := s.cfg 0x0080 p (clsOff cls) 1 0 == 1
def State.isShaped (s : State) (p cls : Nat) : Bool := bitOf (s.cfg 0x0080 p (clsOff cls + 1) 1 0) 0
def State.drrQuantum (s : State) (p cls : Nat) : Nat := s.cfg 0x0080 p (clsOff cls + 4) 4 9216
def State.idleSlope (s : State) (p cls : Nat) : Nat := s.cfg 0x0080 p (clsOff cls + 8) 8 0
def State.hiCredit (s : State) (p cls : Nat) : Nat := s.cfg 0x0080 p (clsOff cls + 16) 4 0
/-- GATE_LIST, 0xFF for none. -/
def State.gateListOf (s : State) (lport : Nat) : Nat := s.cfg 0x0080 lport 4 1 255
/-- BATCH of a drive port. -/
def State.batchOf (s : State) (port : Nat) : Nat := s.cfg 0x0080 (drivePoint port) 5 1 32
/-- Class of a DSCP on a logical port, and its pre-colour. -/
def State.dscpClass (s : State) (lport dscp : Nat) : Nat := s.cfg 0x0080 lport (208 + dscp % 64) 1 5 % 8
def State.dscpColour (s : State) (lport dscp : Nat) : Nat := s.cfg 0x0080 lport (208 + dscp % 64) 1 5 / 8 % 4
/-- TX_DSCP of a class (R378). -/
def State.txDscp (s : State) (lport cls : Nat) : Nat := s.cfg 0x0080 lport (200 + cls) 1 0

/-! ## Logical ports: rate, link, PTP time (R346, R368) -/

/-- Logical ports of a breakout mode (R346). -/
def lportsOfMode (mode : Nat) : Nat := if mode < 4 then 2 ^ mode else 0

/-- Rate of a logical port in b/s; 0 when the breakout has no such port. -/
def State.lportRate (s : State) (lport : Nat) : Nat :=
  let n := lportsOfMode (s.get F.HP_PORT_STATUS.MODE (lport / 8))
  if lport % 8 < n then 800000000000 / n else 0

def State.lportUp (s : State) (lport : Nat) : Bool := bitOf (s.get F.HP_PORT_STATUS.LINK (lport / 8)) (lport % 8)

/-- Rate of a point: of the logical port, or of a drive port's link (R377). -/
def State.pointRate (s : State) (p : Nat) : Nat := if p < 32 then s.lportRate p else 128000000000

/-- PTP time at a device time (R368): device time plus the offset, with the rate adjustment in 2^−10 ppb. -/
def State.ptpAt (s : State) (t : Nat) : Rat :=
  s.hp.ptp.base + ((t : Int) - (s.hp.ptp.atNs : Int) : Int) * (1 + (s.hp.ptp.rate : Rat) / (1024 * 1000000000))

/-- PTP time now in ns. -/
def State.ptpNow (s : State) : Int := (s.ptpAt s.dev.timeNs).floor

/-- A PTP time as PTP_TIME shows it: seconds in bits [63:30], ns in bits [29:0]. -/
def ptpFormat (t : Int) : Nat := (t.toNat / 1000000000) % 2 ^ 34 * 2 ^ 30 + t.toNat % 1000000000

/-- Time on the wire of a frame, in ns: preamble, start delimiter and inter-frame gap add 20 bytes (R391). -/
def State.wireNs (s : State) (lport len : Nat) : Rat := ((len + 20) * 8 * 1000000000 : Nat) / (s.lportRate lport : Rat)

/-! ## Pause (R354 to R357) -/

def pauseSt0 : PauseSt := ⟨0, 0, [], none⟩
def lportSt0 : LportSt := ⟨[], []⟩

def State.lportSt (s : State) (lport : Nat) : LportSt := sparseGet lportSt0 lport s.hp.lports

def State.setLportSt (s : State) (lport : Nat) (x : LportSt) : State :=
  { s with hp := { s.hp with lports := sparsePut lportSt0 lport x s.hp.lports } }

def LportSt.cls (x : LportSt) (c : Nat) : PauseSt := sparseGet pauseSt0 c x.pause

def LportSt.setCls (x : LportSt) (c : Nat) (p : PauseSt) : LportSt := { x with pause := sparsePut pauseSt0 c p x.pause }

/-- The class is stopped by obeyed pause. -/
def State.paused (s : State) (lport cls : Nat) : Bool := decide (s.dev.timeNs < ((s.lportSt lport).cls cls).untilNs)

/-! ## Gate lists (R389 to R395) -/

def gateSt0 : GateSt := ⟨none, 0, 0, none, none⟩

def State.gates (s : State) (lport : Nat) : GateSt := sparseGet gateSt0 lport s.tc.gates

def State.setGates (s : State) (lport : Nat) (g : GateSt) : State :=
  { s with tc := { s.tc with gates := sparsePut gateSt0 lport g s.tc.gates } }

/-- The list of an instance of record type 0x0081 (R389): BASE_TIME in ns, entries. -/
def State.gateList (s : State) (n : Nat) : Option GateList :=
  (s.record 0x0081 n).map (fun b =>
    let t := leAt b 8 8
    ⟨n, t / 2 ^ 30 * 1000000000 + t % 2 ^ 30,
      (List.range (leAt b 4 2)).map (fun e => (leAt b (16 + 8 * e) 4, leAt b (20 + 8 * e) 1))⟩)

/-- Cycle time. -/
def GateList.cycle (l : GateList) : Nat := (l.entries.map (·.1)).sum

/-- Entry in force `d` ns after the start of a cycle, and the ns since that entry began (R390). -/
def entryAfter : List (Nat × Nat) → Nat → Nat → Nat × Nat
  | [], i, d => (i, d)
  | [_], i, d => (i, d)
  | e :: rest, i, d => if d < e.1 then (i, d) else entryAfter rest (i + 1) (d - e.1)

/-- Where a list stands at a PTP time: entry, and the time at which it began (R390: cycles lie before BASE_TIME too). -/
def GateList.standing (l : GateList) (t : Int) : Nat × Int :=
  let d := ((t - l.base) % (max 1 l.cycle : Nat)).toNat
  let (i, o) := entryAfter l.entries 0 d
  (i, t - o)

/-- The first cycle start of a list at or after a PTP time. -/
def GateList.nextStart (l : GateList) (t : Int) : Int := t + (l.base - t) % (max 1 l.cycle : Nat)

/-- Gates of the entry in force; every gate is open without a list and while a new list waits for its start (R393). -/
def GateSt.openMask (g : GateSt) : Nat :=
  match g.run with
  | some l => if g.startNs.isSome then 255 else ((l.entries[g.entry]?).map (·.2)).getD 255
  | none => 255

def State.gateOpen (s : State) (lport cls : Nat) : Bool := bitOf (s.gates lport).openMask cls

/-- Length of the leading stretches whose gate is open; none where all of them are. -/
def leadOpen (cls : Nat) : List (Nat × Nat) → Option Nat
  | [] => none
  | e :: rest => if bitOf e.2 cls then (leadOpen cls rest).map (· + e.1) else some 0

/-- The stretches from a PTP time on: the rest of the entry in force, the entries after it, and then the next cycle, or what follows a change (R390, R391, R393). -/
def GateSt.stretches (g : GateSt) (t : Int) : List (Nat × Nat) :=
  match g.run with
  | none => match g.startNs, g.change with
    | some at_, some (some l) => ((at_ - t).toNat, 255) :: l.entries
    | _, _ => []
  | some l =>
    let rest := match l.entries.drop g.entry with
      | e :: more => ((g.sinceNs + e.1 - t).toNat, e.2) :: more
      | [] => []
    let ends := t + ((rest.map (·.1)).sum : Nat)
    match g.startNs, g.change with
    | some at_, some (some n) => ((at_ - t).toNat, 255) :: n.entries
    | _, some (some n) => rest ++ ((n.nextStart ends - ends).toNat, 255) :: n.entries
    | _, some none => rest
    | _, none => rest ++ l.entries

/-- The gate of the class stays open for as long as a frame needs (R391). -/
def State.gateAllows (s : State) (lport cls len : Nat) : Bool :=
  match leadOpen cls ((s.gates lport).stretches s.ptpNow) with
  | none => true
  | some ns => decide (s.wireNs lport len ≤ (ns : Rat))

/-- Longest continuous open time of a class in a list (R392): none when its gate is always open. -/
def GateList.longestOpen (l : GateList) (cls : Nat) : Option Nat :=
  if l.entries.all (fun e => bitOf e.2 cls) then none
  else some (((List.range l.entries.length).map (fun i => (leadOpen cls (l.entries.drop i ++ l.entries)).getD 0)).foldl max 0)

/-- A frame too long for its class's longest open time, when that is not 0 (R392). -/
def State.gateTooLong (s : State) (lport cls len : Nat) : Bool :=
  match (s.gates lport).run with
  | none => false
  | some l => match l.longestOpen cls with
    | none => false
    | some ns => decide (0 < ns) && decide ((ns : Rat) < s.wireNs lport len)

/-! ## Shapers (R387, R388) -/

/-- A class's credit in bits and the device time it stands at. -/
def TcPoint.creditOf (x : TcPoint) (cls : Nat) : Rat × Rat := sparseGet (0, 0) cls x.credit

/-- Credit of a class brought up to now: it rises while a unit waits, and is held while the gate is closed or the class is paused. -/
def State.accrueClass (s : State) (p cls : Nat) (x : TcPoint) : TcPoint :=
  if s.isShaped p cls then
    let (c, t) := x.creditOf cls
    let now : Rat := s.dev.timeNs
    if now ≤ t then x
    else
      let held := (x.queue cls).isEmpty || (decide (p < 32) && (!s.gateOpen p cls || s.paused p cls))
      let c' := if held then c else min (c + s.idleSlope p cls * (now - t) / 1000000000) (8 * s.hiCredit p cls : Nat)
      { x with credit := sparsePut (0, 0) cls (c', now) x.credit }
  else x

/-- Every credit of a point brought up to now. -/
def State.accrue (s : State) (p : Nat) : State :=
  s.setPoint p ((List.range 8).foldl (fun (x : TcPoint) (c : Nat) => s.accrueClass p c x) (s.point p))

/-! ## Meters (R379 to R382) -/

inductive Colour where
  | green | yellow | red
  deriving DecidableEq, Repr

def colourOf (n : Nat) : Colour := if n = 0 then .green else if n = 1 then .yellow else .red

/-- The meter at a point (0 ingress, 1 egress, 2 drive issue), port and class. -/
def State.meterAt (s : State) (point port cls : Nat) : Option Nat :=
  (s.instancesOf 0x0082).find? (fun m =>
    s.cfg 0x0082 m 4 1 0 == point && s.cfg 0x0082 m 5 1 0 == port && s.cfg 0x0082 m 6 1 0 == cls)

/-- RED_ACTION: 0 DROP, 1 MARK, 2 PASS. -/
def State.redAction (s : State) (m : Nat) : Nat := s.cfg 0x0082 m 7 1 0 / 2 % 4

/-- A meter's token counts: full when it is new (R382). -/
def State.meter (s : State) (m : Nat) : MeterSt :=
  match s.tc.meters.find? (fun x => x.1 == m) with
  | some x => x.2
  | none => ⟨s.cfg 0x0082 m 28 4 0, s.cfg 0x0082 m 24 4 0, s.dev.timeNs⟩

/-- The colour of a unit and the meter after it (R380). -/
def State.colour (s : State) (m n : Nat) (pre : Colour) : Colour × MeterSt :=
  let x := s.meter m
  let aware := bitOf (s.cfg 0x0082 m 7 1 0) 0
  let dt : Rat := (s.dev.timeNs - x.lastNs : Nat)
  let tp := min (s.cfg 0x0082 m 28 4 0 : Rat) (x.tp + s.cfg 0x0082 m 16 8 0 * dt / 8000000000)
  let tc := min (s.cfg 0x0082 m 24 4 0 : Rat) (x.tc + s.cfg 0x0082 m 8 8 0 * dt / 8000000000)
  if (aware && pre = .red) || decide (tp < (n : Rat)) then (.red, ⟨tp, tc, s.dev.timeNs⟩)
  else if (aware && pre = .yellow) || decide (tc < (n : Rat)) then (.yellow, ⟨tp - n, tc, s.dev.timeNs⟩)
  else (.green, ⟨tp - n, tc - n, s.dev.timeNs⟩)

/-- Colours a unit, counts the decision, and raises METER_RED for a red one (R381, R397). -/
def State.meterUnit (s : State) (m n : Nat) (pre : Colour) : State × Colour :=
  let (c, x) := s.colour m n pre
  let s := { s with tc := { s.tc with meters := sparseInsert m x s.tc.meters } }
  match c with
  | .green => (s.bump F.TC_MTR_GREEN.COUNT m, c)
  | .yellow => (s.bump F.TC_MTR_YELLOW.COUNT m, c)
  | .red => ((s.bump F.TC_MTR_RED.COUNT m).raiseLimited 0xC3, c)

/-! ## Joining a class queue -/

/-- A unit joins its class queue; a DRR class that wakes joins the active list behind the others, with no deficit (R385). -/
def State.enqueue (s : State) (p cls : Nat) (u : TcUnit) : State :=
  let s := s.accrue p
  let x := s.point p
  let q := x.queue cls
  let x := if q.isEmpty && s.isDrr p cls then
      { x with active := x.active.filter (· != cls) ++ [cls], deficit := sparseErase cls x.deficit }
    else x
  s.setPoint p (x.setQueue cls (q ++ [u]))

/-- A frame joins an egress queue: its meter acts first (R381). A unit that MARK marks is sent with CE, which `ect` no longer asks for: the mark stands in the unit. -/
def State.egress (s : State) (lport cls : Nat) (u : TcUnit) : State :=
  match s.meterAt 1 lport cls with
  | none => s.enqueue lport cls u
  | some m =>
    let (s, c) := s.meterUnit m u.len .green
    if c ≠ .red ∨ s.redAction m = 2 then s.enqueue lport cls u
    else if s.redAction m = 1 ∧ u.ect then (s.bump F.TC_MTR_MARKED.COUNT m).enqueue lport cls { u with ce := true }
    else s

/-- Length of a frame that carries an IP packet of `n` bytes of UDP or TCP payload behind a transport header of `h` bytes (R350): 14 of Ethernet, the IP header, the FCS; at least 64. -/
def frameLen (v6 : Bool) (h n : Nat) : Nat := max 64 (14 + (if v6 then 40 else 20) + h + n + 4)

/-- A packet that the device itself forms enters egress. Whether its ECN field allows a mark is an open value. -/
def State.ownEgress (s : State) (lport cls len : Nat) : State :=
  let k := s.tc.ownCtr
  ({ s with tc := { s.tc with ownCtr := k + 1 } }).egress lport cls ⟨.own k, len, Config.ownEct k, false, false⟩

end Sys2Proof.Machine
end

