-- ==== Sys2Proof/Machine/Outputs.lean ====
section
/-!
DEFINITION. Machine/Outputs.lean: forming an output in a controller of a pair: which controller performs it (R319), which
outputs wait for the partner's link-level acknowledgement (R320, R321), and the fold record of the digest (R330, R331).
-/
namespace Sys2Proof.Machine

/-! ## Roles, profile, side (R301, GLB_SIDE) -/

def roleOff : Nat := 0
def roleAlone : Nat := 1
def roleLeader : Nat := 2
def roleFollower : Nat := 3
def roleJoining : Nat := 4
def roleDetached : Nat := 5

/-- The role of this controller (R301). -/
def State.role (s : State) : Nat := s.get F.WSW_STATUS.ROLE

/-- Side B (GLB_SIDE.SIDE). -/
def State.sideB (s : State) : Bool := s.flag F.GLB_SIDE.SIDE

/-- Profile in force: 0 Solo, 1 Shadow, 2 Crossed. -/
def State.profile (s : State) : Nat := s.get F.GLB_SIDE.PROFILE

/-- The controller is in step with its partner (R301). -/
def State.inPair (s : State) : Bool := s.role == roleLeader || s.role == roleFollower

/-- The controller assigns step numbers (R309): a leader not after it has numbered the CUT of a handover (R343). -/
def State.numbers (s : State) : Bool := s.role == roleAlone || (s.role == roleLeader && !s.wsw.handover)

/-- The controller consumes inputs (R301): a JOINING one once it holds the snapshot as of its cut (R340). -/
def State.consumes (s : State) : Bool :=
  s.role == roleAlone || s.inPair || (s.role == roleJoining && s.wsw.joinCut.isSome)

/-- This controller serves a half (R301, R302). -/
def State.servesHalf (s : State) (halfB : Bool) : Bool :=
  if s.role = roleAlone then true
  else if s.inPair then
    (if s.profile = 2 then (if s.wsw.bothHalves then s.role == roleLeader else s.sideB == halfB) else s.role == roleLeader)
  else false

/-- This controller performs outputs of a side (R319). -/
def State.issues (s : State) : OutSide → Bool
  | .half b => s.servesHalf b
  | .numbering => s.numbers
  | .maint => s.role == roleAlone || (s.inPair && !s.sideB)
  | .own => true

/-! ## Fold records and the digest (R330, R331) -/

/-- One bit of the ECMA-182 CRC-64, most significant bit first. -/
def crc64Bit (c : BitVec 64) : BitVec 64 :=
  if c.getLsbD 63 then (c <<< 1) ^^^ (0x42F0E1EBA9EA3693 : BitVec 64) else c <<< 1

/-- One byte of the CRC-64. -/
def crc64Byte (c : BitVec 64) (b : Byte) : BitVec 64 :=
  let c := c ^^^ (b.setWidth 64 <<< 56)
  crc64Bit (crc64Bit (crc64Bit (crc64Bit (crc64Bit (crc64Bit (crc64Bit (crc64Bit c)))))))

/-- CRC-64 with initial value 0 and no reflection (R331). -/
def crc64 (bs : List Byte) : Nat := (bs.foldl crc64Byte (0 : BitVec 64)).toNat

/-- A fold record of 32 bytes (R330). -/
def foldRecord (step kind key : Nat) (value : List Byte) : List Byte :=
  beBytes 8 step ++ beBytes 1 kind ++ zeroBytes 3 ++ beBytes 4 key ++ (value ++ zeroBytes 16).take 16

/-- The digest after the step whose fold records are gathered (R331). -/
def Wsw.settled (w : Wsw) : Nat :=
  if w.foldAny then crc64 (beBytes 8 w.digest ++ beBytes 8 w.foldX) else w.digest

/-- A fold record of the present step is gathered by a controller in step or ALONE. -/
def State.fold (s : State) (kind key : Nat) (value : List Byte) : State :=
  if s.consumes then
    let n := s.dev.stepNo
    let w := s.wsw
    let w := if w.foldStep = n then w
      else { w with digest := w.settled, foldX := 0, foldAny := false, foldStep := n }
    { s with wsw := { w with foldX := w.foldX ^^^ crc64 (foldRecord n kind key value), foldAny := true } }
  else s

/-! ## Performing an output -/

/-- A dump of the fatal sequence writes to drives although outputs are stopped (R530). -/
def State.dumpsOn (s : State) : Bool := s.pwr.fatalNs.isSome && s.tly.dump.isSome

/-- Drive output is stopped (R307, R334, R530). -/
def State.driveStopped (s : State) : Bool := s.wsw.stopped && !s.dumpsOn

/-- A submission queue entry or doorbell. -/
def Out.toDrive : Out → Bool
  | .sqe _ _ _ _ _ _ _ _ _ => true
  | .doorbell _ _ _ _ => true
  | _ => false

/-- An output leaves, unless outputs are stopped: a packet or segment goes to the class queue of its logical port. -/
def State.release (s : State) (o : Out) : State :=
  if s.wsw.stopped && (!o.toDrive || s.driveStopped) then s
  else match o with
    | .flume lport cls srcIp _ _ _ _ _ bytes => (s.emit o).ownEgress lport cls (frameLen srcIp.v6 8 (bytes.length + 16))
    | .tcp lport cls len _ _ => (s.emit o).ownEgress lport cls len
    | _ => s.emit o

/-- Performs an output of a side, or suppresses it (R319). With `acks`, a leader holds it until the partner has acknowledged
the frames sent so far (R320). -/
def State.perform (s : State) (side : OutSide) (acks : Bool) (o : Out) : State :=
  if s.issues side then
    if acks && s.role == roleLeader && decide (s.wsw.ackSeq + 1 < s.wsw.txSeq) then
      { s with wsw := { s.wsw with heldOut := s.wsw.heldOut ++ [(s.wsw.txSeq - 1, o)] } }
    else s.release o
  else s

/-- Releases what the partner's acknowledgement of LSEQ `ack` frees (R320, R321). -/
def State.linkAcked (s : State) (ack : Nat) : State :=
  let a := max s.wsw.ackSeq ack
  let free := s.wsw.heldOut.filter (fun h => decide (h.1 ≤ a))
  let s := { s with wsw := { s.wsw with
    ackSeq := a, heldOut := s.wsw.heldOut.filter (fun h => !decide (h.1 ≤ a)) } }
  free.foldl (fun s h => s.release h.2) s

/-! ## The link and the input stream (R309 to R315, R326) -/

/-- The link carries traffic (WSW_STATUS.LINK_UP). -/
def State.linkUp (s : State) : Bool := s.flag F.WSW_STATUS.LINK_UP

/-- Payload bytes of an input record (R310); a task command block has 128 bytes and its data (R451). -/
def Input.len : Input → Nat
  | .hostFrame _ f _ => 4 + f.length
  | .driveCqe _ _ _ => 20
  | .driveEvent _ _ => 12
  | .tick _ => 8
  | .mgmt (.task t) => 128 + t.data.length
  | .mgmt _ => 16
  | .slot _ _ _ => 16
  | .retx _ _ _ => 16
  | .cut _ => 8

/-- Bytes of an input record (R315). -/
def InputRec.len (r : InputRec) : Nat := 16 + (if r.refOnly then 0 else r.input.len)

/-- Body bytes of a link frame (R327); a SNAPSHOT is counted as a full granule of 4,096 bytes. -/
def LinkBody.len : LinkBody → Nat
  | .idle => 0
  | .hello _ => 48
  | .heartbeat _ _ _ => 16
  | .input rs => (rs.map InputRec.len).sum
  | .forward r => r.len
  | .staged _ _ _ _ => 16
  | .digest _ _ => 16
  | .snapshot _ _ => 16 + 4096
  | .resync _ _ => 16

/-- A frame goes on the link, counted (R505 unit 9). -/
def State.putLink (s : State) (lseq : Nat) (replay nak : Bool) (b : LinkBody) : State :=
  let n := b.len
  let s := (s.emit (.link lseq (s.wsw.rxSeq - 1) replay nak b)).count 9 0 1 (16 + n + (if n = 0 then 0 else 4))
  { s with wsw := { s.wsw with lastSentNs := s.dev.timeNs } }

/-- Sends a numbered link frame and keeps it for replay. -/
def State.sendLink (s : State) (b : LinkBody) : State :=
  if s.linkUp then
    ({ s with wsw := { s.wsw with
      txSeq := s.wsw.txSeq + 1, sent := s.wsw.sent ++ [(s.wsw.txSeq, s.dev.timeNs, b)] } }).putLink s.wsw.txSeq false false b
  else s

/-- The partner is in step (WSW_STATUS.PARTNER 1); a suspect one still counts until it is decided on (R334). -/
def State.partnerInStep (s : State) : Bool :=
  s.get F.WSW_STATUS.PARTNER == 1 || (s.get F.WSW_STATUS.PARTNER == 4 && s.inPair)

/-- Sends an input record to the partner. -/
def State.sendInput (s : State) (r : InputRec) : State :=
  if s.linkUp then (s.sendLink (.input [r])).count 9 0 0 else s

/-- Gives an input its step number (R309) and sends its record to a partner in step or joining. -/
def State.number (s : State) (sideB refOnly : Bool) (origin : Nat) (i : Input) : State :=
  let r : InputRec := ⟨s.wsw.lastNumber + 1, sideB, false, origin, i⟩
  ({ s with wsw := { s.wsw with lastNumber := s.wsw.lastNumber + 1, inputs := s.wsw.inputs ++ [r] } }).sendInput
    { r with refOnly := refOnly }

/-- An observation of this controller: numbered by a numbering controller, forwarded by one that consumes its partner's numbering (R312). -/
def State.observe (s : State) (i : Input) : State :=
  let o := s.wsw.origin
  let s := { s with wsw := { s.wsw with origin := o + 1 } }
  if s.numbers then s.number s.sideB false o i
  else if s.consumes then
    let r : InputRec := ⟨0, s.sideB, false, o, i⟩
    ({ s with wsw := { s.wsw with forwarded := s.wsw.forwarded ++ [r] } }).sendLink (.forward r)
  else s

/-- A write of step state: from service software it enters the stream in a paired profile; in Solo, and from firmware, which runs
alike on both controllers (R317), it acts at once. -/
def State.stepWrite (s : State) (src : Src) (w : StepWrite) (effect : State → State) : State :=
  if (s.profile = 0 ∧ !s.inPair) ∨ src ≠ .svc then effect s else s.observe (.mgmt w)

end Sys2Proof.Machine
end

