-- ==== Sys2Proof/Machine/PowerOps.lean ====
section
/-!
DEFINITION. Machine/PowerOps.lean: the power state as host traffic and tasks meet it: beginning a wake (R539, R544), aborting an entry (R538,
R541), and a host command's part in both.
-/
namespace Sys2Proof.Machine

/-! ## Power states (PWR_STATE.STATE) -/

def stResetting : Nat := 0
def stActive : Nat := 1
def stToDrowse : Nat := 2
def stDrowse : Nat := 3
def stToFallow : Nat := 4
def stFallow : Nat := 5
def stWaking : Nat := 6
def stFatal : Nat := 7

def State.power (s : State) : Nat := s.get F.PWR_STATE.STATE

/-- Past the point of no return of Fallow entry, until the slot hold is released. -/
def State.ponr (s : State) : Bool := s.flag F.PWR_STATE.PONR

def State.ready (s : State) : Bool := s.flag F.PWR_STATE.READY

/-! ## Drive ports -/

def State.port (s : State) (n : Nat) : DrvPort := sparseGet drvPort0 n s.drv.ports

def State.setPort (s : State) (n : Nat) (p : DrvPort) : State :=
  { s with drv := { s.drv with ports := sparsePut drvPort0 n p s.drv.ports } }

/-- A drive port takes a state: DRIVE_STATE is raised when it is another one (R418). -/
def State.portTo (s : State) (n st : Nat) : State :=
  if s.get F.DP_STATUS.STATE n = st then s
  else (s.set F.DP_STATUS.STATE st n).raise (0x240 + 4 * n + 3)

/-! ## Wake and abort -/

/-- A wake is numbered: POWER_WAKE (R544). -/
def State.beginWake (s : State) : State :=
  ({ s with pwr := { s.pwr with wakeNs := some s.dev.timeNs, wakeWanted := false } }.set F.PWR_STATE.STATE stWaking).raise 0x00E

/-- GLB_ISLAND_UP follows the islands that are gated or in fault. -/
def State.showIslands (s : State) : State :=
  s.set F.GLB_ISLAND_UP.UP (((List.range 38).filter (fun i => !s.dev.gated.contains i && !s.dev.faulted.contains i)).map (fun i => 2 ^ i)).sum

/-- Islands are gated, or every gated island runs again. -/
def State.gateIslands (s : State) (is : List Nat) : State := ({ s with dev := { s.dev with gated := is } }).showIslands

/-- A drive is to leave DRIVE_PS by Set Features, or one that was shut down comes up again from step 4 of R404 (R538, R541). -/
def State.driveAwake (s : State) (n : Nat) : State :=
  let p := s.port n
  bif p.shutDown then (s.setPort n { p with shutDown := false, lowPower := false, step := 3, sinceNs := s.dev.timeNs }).portTo n 4
  else bif p.lowPower then s.setPort n { p with admin := p.admin ++ [(0x09, s.dev.timeNs)] }
  else s

/-- Every drive is woken. -/
def State.drivesAwake (s : State) : State := (List.range 48).foldl State.driveAwake s

/-- Undoes a running entry before its point of no return, and counts it (R538, R541). -/
def State.abortEntry (s : State) : State :=
  let s := { s with pwr := { s.pwr with entryStep := 0 } }.drivesAwake
  ((s.bump F.PWR_ENTRY_COUNT.COUNT).set F.PWR_STATE.STATE stActive).raise 0x00D

/-- A wake source (R544): it aborts an entry under way, or begins a wake, or waits for the end of a Fallow entry past its point of no
return. -/
def State.wakeSource (s : State) : State :=
  let st := s.power
  if st = stToDrowse then s.abortEntry
  else if st = stDrowse ∨ st = stFallow then s.beginWake
  else if st = stToFallow then
    if s.ponr then { s with pwr := { s.pwr with wakeWanted := true } } else s.abortEntry
  else s

/-- A host command is numbered: it restarts the idle time and is a wake source (R537 to R542). -/
def State.hostCommand (s : State) : State :=
  { s with pwr := { s.pwr with lastHostUs := s.dev.stepUs } }.wakeSource

/-- The hold time of BUSY POWER in µs (R542). -/
def State.powerHoldUs (s : State) : Nat :=
  let hint := s.cfg 0x00C0 0 16 4 10000 * 1000
  let past := match s.pwr.wakeNs with
    | some t => (s.dev.timeNs - t) / 1000
    | none => 0
  max 1000 (hint - past)

end Sys2Proof.Machine
end

