-- ==== Sys2Proof/Machine/FlumeOps.lean ====
section
/-!
DEFINITION. Machine/FlumeOps.lean: what the Flume unit's rows share: parameters (R115), the flow cache (R145, R589), paths (R112), forming
packets (R80, R82, R142), control packets (R141), completion entries (R135), the Recent Message Table (R105).
-/
namespace Sys2Proof.Machine

/-! ## Flume parameters in force (R115) -/

def State.fcfg (s : State) (off size dflt : Nat) : Nat := s.cfg 0x0090 0 off size dflt
def State.localPeer (s : State) : Nat := s.fcfg 0 4 0xFFFFFFFF
def State.lmaxUs (s : State) : Nat := s.fcfg 4 4 40000
def State.tnetUs (s : State) : Nat := s.fcfg 8 4 1000
def State.rtoInitUs (s : State) : Nat := s.fcfg 12 4 120
def State.rtoMinUs (s : State) : Nat := s.fcfg 16 4 50
def State.rtoMaxUs (s : State) : Nat := s.fcfg 20 4 10000
def State.udpPort (s : State) : Nat := s.fcfg 24 2 46500
def State.maxAttempts (s : State) : Nat := s.fcfg 26 2 16
def State.ackEvery (s : State) : Nat := s.fcfg 28 2 16
def State.ackDelayNs (s : State) : Nat := s.fcfg 30 2 4000
def State.probeSuspectUs (s : State) : Nat := s.fcfg 32 2 200
def State.probeDownUs (s : State) : Nat := s.fcfg 34 2 5000
def State.suspectLosses (s : State) : Nat := s.fcfg 36 1 3
def State.downProbes (s : State) : Nat := s.fcfg 37 1 8
def State.upProbes (s : State) : Nat := s.fcfg 38 1 2
def State.pathsPer (s : State) : Nat := s.fcfg 39 1 16
def State.ownSizeCode (s : State) : Nat := s.fcfg 40 1 3
def State.holdUs (s : State) : Nat := s.fcfg 42 2 20

/-- The shelf has a peer ID (R115). -/
def State.hasPeer (s : State) : Bool := s.localPeer != 0xFFFFFFFF

/-- The CURRENT epoch, under which every packet is sealed (R142), unless R143 blocks it. -/
def State.currentEpoch (s : State) : Option EpochKey :=
  s.flm.epochs.find? (fun k => k.state = .current && !s.flm.blocked.contains k.epoch)

/-- An epoch is live, and not blocked under R143. -/
def State.epochLive (s : State) (e : Nat) : Bool :=
  s.flm.epochs.any (fun k => k.state ≠ .empty && k.epoch == e && !s.flm.blocked.contains e)

/-! ## The flow cache (R145, R589) -/

def flowLimit : Nat := 131072
def wMin : Rat := 4096
def wMax : Rat := 16777216
def wInit : Rat := 65536

/-- The entry of a destination. -/
def State.flow? (s : State) (peer : Nat) : Option Flow := s.fx.flows.find? (fun f => f.peer == peer)

/-- The entry replaced. -/
def State.setFlow (s : State) (f : Flow) : State :=
  { s with fx := { s.fx with flows := s.fx.flows.map (fun g => if g.peer = f.peer then f else g) } }

/-- The address table entry of a side, logical port and entry number (R361, R591). -/
def State.shelfAddr (s : State) (sideB : Bool) (lport e : Nat) : Option IpAddr :=
  sparseGet none ((if sideB then 256 else 0) + lport * 8 + e) s.fx.addrTable

/-- First-send rule of R589: the first valid entry of the address family among this controller's logical ports that have link. -/
def State.firstLocal (s : State) (v6 : Bool) : Option (IpAddr × Nat) :=
  (List.range 256).findSome? (fun k =>
    let e := k % 8
    if (decide (4 ≤ e) == v6) && s.lportUp (k / 8) then
      (s.shelfAddr s.sideB (k / 8) e).map (fun a => (a, k / 8))
    else none)

/-- A fresh path: UP (R113). -/
def freshPath : PathTx := ⟨.up, 0, 0, 0, 0⟩

/-- A new entry: a SALT drawn at random (R80), every path UP, RTO_INIT_US, W_INIT (R108, R113, R145). -/
def State.newFlow (s : State) (peer : Nat) (ip : IpAddr) (loc : Option (IpAddr × Nat)) : Flow :=
  { peer := peer, ip := ip, salt := s.free.toNat % 1024, rtt := none,
    paths := List.replicate s.pathsPer freshPath, nextPath := 0, cwnd := wInit, inflight := 0, hops := 0,
    lastDecreaseNs := 0, localIp := loc.map (·.1), lport := (loc.map (·.2)).getD 0, lastUseNs := s.dev.timeNs }

/-- An entry that may be evicted: no bytes in flight and no message to it (R145). -/
def State.evictable (s : State) (f : Flow) : Bool := f.inflight == 0 && !s.flm.msgs.any (fun m => m.dst == f.peer)

/-- The least recently used entry that may be evicted. -/
def State.lruFlow (s : State) : Option Flow :=
  s.fx.flows.foldl (fun (best : Option Flow) (f : Flow) =>
    if s.evictable f then
      match best with
      | none => some f
      | some b => if f.lastUseNs < b.lastUseNs then some f else some b
    else best) none

/-- Brings a destination into the cache, or says that it has to wait (R145). -/
def State.enterFlow (s : State) (peer : Nat) (ip : IpAddr) (loc : Option (IpAddr × Nat)) : State × Bool :=
  match s.flow? peer with
  | some f => (s.setFlow { f with lastUseNs := s.dev.timeNs }, true)
  | none =>
    if s.fx.flows.length < flowLimit then
      (({ s with fx := { s.fx with flows := s.fx.flows ++ [s.newFlow peer ip loc] } }).drawn, true)
    else match s.lruFlow with
      | some old =>
        (({ s with fx := { s.fx with
          flows := s.fx.flows.filter (fun (f : Flow) => f.peer != old.peer) ++ [s.newFlow peer ip loc] } }).drawn, true)
      | none => ((s.bump F.FLM_CACHE_WAIT.COUNT).raise 0x148, false)

/-- Answering (R589): the entry takes the address and port on which the packet arrived. -/
def State.answerFlow (s : State) (dg : Datagram) (peer : Nat) : State × Bool :=
  let (s, ok) := s.enterFlow peer dg.srcIp (some (dg.dstIp, dg.lport))
  match s.flow? peer with
  | some f => (s.setFlow { f with ip := dg.srcIp, localIp := some dg.dstIp, lport := dg.lport }, ok)
  | none => (s, ok)

/-- Reselection (R589) of one entry. -/
def State.reselect (s : State) (f : Flow) : Flow :=
  match s.firstLocal f.ip.v6 with
  | some (a, p) => { f with localIp := some a, lport := p }
  | none => { f with localIp := none }

/-- Every entry on a logical port that lost link, or whose address has left the table, selects again (R589). -/
def State.reselectAll (s : State) : State :=
  let keep (f : Flow) : Bool :=
    s.lportUp f.lport && match f.localIp with
      | none => false
      | some a => (List.range 256).any (fun k => s.shelfAddr s.sideB (k / 8) (k % 8) == some a && k / 8 == f.lport)
  { s with fx := { s.fx with flows := s.fx.flows.map (fun f => if keep f then f else s.reselect f) } }

/-! ## Path choice (R112) -/

/-- The next path of a state in rotation. -/
def nextPathOf (f : Flow) (st : PathSt) : Option Nat :=
  let n := f.paths.length
  (List.range n).findSome? (fun k =>
    let p := (f.nextPath + k) % n
    match f.paths[p]? with
    | some x => if x.st = st then some p else none
    | none => none)

/-- The path of a new packet: UP in rotation, else SUSPECT, else DOWN (R112). -/
def Flow.pick (f : Flow) : Nat :=
  match nextPathOf f .up with
  | some p => p
  | none => match nextPathOf f .suspect with
    | some p => p
    | none => (nextPathOf f .down).getD 0

/-- The rotation moved past a path. -/
def Flow.after (f : Flow) (p : Nat) : Flow := { f with nextPath := (p + 1) % max 1 f.paths.length }

/-- A path for a retransmission: another one than before whenever another is UP or SUSPECT (R109). -/
def Flow.pickOther (f : Flow) (old : Nat) : Nat :=
  let g := { f with paths := f.paths.mapIdx (fun i x => if i = old then { x with st := PathSt.down } else x) }
  match nextPathOf g .up with
  | some p => p
  | none => (nextPathOf g .suspect).getD old

/-! ## Forming a packet (R80, R82, R88) -/

/-- The extension area's bytes. -/
def extBytes (es : List FlumeExt) : List Byte := (es.map FlumeExt.bytes).flatten

/-- A packet enters egress toward a peer of the flow cache: sealed under the CURRENT epoch, nothing sent without one, without a peer
ID or without a local address (R115, R142, R144, R589). -/
def State.sendFlume (s : State) (side : OutSide) (acks : Bool) (cls : Nat) (h : FlumeHdr) (es : List FlumeExt)
    (payload : List Byte) : State :=
  match s.flow? h.dstPeer, s.currentEpoch with
  | some f, some k =>
    match f.localIp with
    | some lip =>
      if s.hasPeer then
        let h := { h with
          version := 1, srcPeer := s.localPeer, epoch := k.epoch,
          extUnits := (extBytes es).length / 8, payloadLen := payload.length, rsvd := 0 }
        let s := if h.opcode = opProbe then s else
          s.fold 1 h.dstPeer (beBytes 6 h.msgId ++ beBytes 2 h.pktIndex ++ beBytes 1 h.opcode ++ beBytes 1 h.attempt
            ++ beBytes 4 (crc32c payload))
        (s.perform side acks (.flume f.lport cls lip f.ip (srcPortOf h.path f.salt) s.udpPort 255 (gcmNonce h)
          (h.bytes ++ extBytes es ++ payload))).count 3 0 1
      else s
    | none => s
  | _, _ => s

/-- A header with every field 0. -/
def hdr0 : FlumeHdr := ⟨1, 0, 0, 0, 0, 0, 0, 0, 0, 0, 0, 0, 0, 0, 0, 0, 0, 0, 0, 0⟩

/-- A transmit cookie: distinct for every attempt (R108), its upper bits an open value (R82). -/
def State.cookie (s : State) : Nat := s.free.toNat % 65536 * 2 ^ 48 + s.flm.cookieCtr % 2 ^ 48

/-- A cookie has been used. -/
def State.cookieUsed (s : State) : State := { s.drawn with flm := { s.flm with cookieCtr := s.flm.cookieCtr + 1 } }

/-! ## Control packets (R106, R141) -/

/-- The present 4 µs quantum of step time (R141). -/
def State.quantum (s : State) : Nat := s.nowUs / 4

/-- Forms a control packet now. -/
def State.formCtl (s : State) (c : CtlPkt) : State :=
  match s.flow? c.peer with
  | none => s
  | some f =>
    let p := f.pick
    let s := s.setFlow (f.after p)
    let h := { hdr0 with
      opcode := c.opcode, flags := flagsOf false false c.complete false true, dstPeer := c.peer,
      msgId := c.msgId, pktIndex := controlSerial s.nowUs, path := p, aux := c.aux, txCookie := s.cookie }
    let es := (match c.sack with | some (a, b, m) => [FlumeExt.sack a b m] | none => [])
      ++ (match c.echo with | some (ck, ns) => [FlumeExt.tsEcho ck (s.dev.timeNs - ns)] | none => [])
    let s := s.cookieUsed.sendFlume .numbering true c.cls h es []
    { s with fx := { s.fx with
      ctlLast := (c.peer, c.msgId, s.quantum) :: s.fx.ctlLast.filter (fun x => x.2.2 == s.quantum) } }

/-- Sends a control packet, or leaves it for the next quantum when one has gone for the message in this one (R141), or while quanta after a
takeover are closed to control packets (R339). -/
def State.sendCtl (s : State) (c : CtlPkt) : State :=
  if s.fx.ctlLast.any (fun x => x.1 == c.peer && x.2.1 == c.msgId && x.2.2 == s.quantum)
      || decide (4 * s.quantum < s.wsw.ctlHoldUs) then
    { s with fx := { s.fx with ctlQueue := s.fx.ctlQueue ++ [c] } }
  else s.formCtl c

/-- At a new quantum the packets that waited are sent, one per message (R141). -/
def State.flushCtl (s : State) : State :=
  let q := s.fx.ctlQueue
  q.foldl (fun s c => s.sendCtl c) { s with fx := { s.fx with ctlQueue := [] } }

/-! ## Completion entries (R135) -/

/-- A work queue that nothing has opened. -/
def wqClosed : Wq :=
  { st := .closed, ctx := ⟨0, 0, 0, 0, 0, 0, 0, 0, 0⟩, sqHead := 0, sqTail := 0, rqHead := 0, rqTail := 0, cqTail := 0,
    posted := [], returned := [], waiting := none, pausedMsg := none }

def State.wq (s : State) (n : Nat) : Wq := sparseGet wqClosed n s.flm.wqs

def State.setWq (s : State) (n : Nat) (w : Wq) : State :=
  { s with flm := { s.flm with wqs := sparsePut wqClosed n w s.flm.wqs } }

/-- Entries of the completion ring not yet consumed fill it. -/
def Wq.cqFull (w : Wq) : Bool := decide (2 ^ w.ctx.cqLog2 ≤ (w.cqTail + 65536 - w.ctx.cqHead % 65536) % 65536)

/-- Posts a completion entry: PHASE is 1 on the first pass of the ring and inverted on each pass (R135). A closed queue has no ring. -/
def State.post (s : State) (n : Nat) (e : CqEntry) : State :=
  let w := s.wq n
  let size := 2 ^ w.ctx.cqLog2
  let phase := w.cqTail / size % 2 == 0
  if w.st = .closed then s else
  (s.setWq n { w with cqTail := (w.cqTail + 1) % 65536 }).emit (.completion (w.cqTail % size) phase { e with wq := n })

/-! ## The Recent Message Table (R103 to R105) -/

def tableLimit : Nat := 4194304
def slotLimit : Nat := 524288

/-- Entries reserved or holding an outcome: every slot holds one reservation (R96). -/
def State.tableUsed (s : State) : Nat := s.flm.rmt.length + s.flm.slots.length

/-- The oldest expiry among the entries. -/
def State.oldestExpiry (s : State) : Option Nat :=
  s.flm.rmt.foldl (fun b e => match b with | none => some e.expiryUs | some x => some (min x e.expiryUs)) none

/-- µs until the oldest entry expires (FLM_TABLE_HOLD). -/
def State.tableHold (s : State) : Nat := ((s.oldestExpiry).map (fun x => x - s.nowUs)).getD 0

/-- The outcome held for a message. -/
def State.outcome? (s : State) (peer msgId : Nat) : Option RmtEntry :=
  s.flm.rmt.find? (fun e => e.peer == peer && e.msgId == msgId)

/-- Writes an outcome: it expires LMAX_US after it is written (R105). -/
def State.putOutcome (s : State) (peer msgId : Nat) (completed : Bool) (reason : Nat) : State :=
  { s with flm := { s.flm with
    rmt := s.flm.rmt.filter (fun e => !(e.peer == peer && e.msgId == msgId))
      ++ [⟨peer, msgId, completed, reason, s.nowUs + s.lmaxUs⟩] } }

/-- The slot of a message. -/
def State.slot? (s : State) (peer msgId : Nat) : Option Slot :=
  s.flm.slots.find? (fun x => x.peer == peer && x.msgId == msgId)

/-- A slot replaced. -/
def State.setSlot (s : State) (x : Slot) : State :=
  { s with flm := { s.flm with
    slots := s.flm.slots.map (fun y => if y.peer = x.peer ∧ y.msgId = x.msgId then x else y) } }

/-- A slot removed, with its reservation. -/
def State.dropSlot (s : State) (peer msgId : Nat) : State :=
  { s with flm := { s.flm with slots := s.flm.slots.filter (fun y => !(y.peer == peer && y.msgId == msgId)) } }

/-! ## Windows: references (R127) -/

def winHalf0 : WinHalf := ⟨0, 0, 0, 0, 0⟩

/-- At power-on every entry is invalid, with GEN 0 (R120). -/
def winInvalid : Win := ⟨winHalf0, 0, 0, 0, 0, false, winHalf0⟩

def State.win (s : State) (i : Nat) : Win := sparseGet winInvalid i s.flm.windows

def State.setWin (s : State) (i : Nat) (w : Win) : State :=
  { s with flm := { s.flm with windows := sparsePut winInvalid i w s.flm.windows } }

/-- Index and generation of a WINDOW field (R82). -/
def winIndex (w : Nat) : Nat := w % 2 ^ 20
def winGen (w : Nat) : Nat := w / 2 ^ 24 % 256

/-- A reference to a window generation ends; the last one to a retired generation clears DRAINING, raises WINDOW_DRAINED and posts the drain
notice (R127). -/
def State.winRelease (s : State) (window : Nat) : State :=
  let i := winIndex window
  let w := s.win i
  if w.draining && w.oldGen == winGen window then
    let left := w.oldRefs - 1
    if left = 0 then
      let s := (s.setWin i { w with oldRefs := 0, draining := false }).raise 0x140
      if s.flag F.FLM_DRAIN_WQ.ENABLE then
        s.post (s.get F.FLM_DRAIN_WQ.WQ) ⟨i, 0, 0, 0, w.oldGen, 0, 0, 0x40, 0⟩
      else s
    else s.setWin i { w with oldRefs := left }
  else s

end Sys2Proof.Machine
end

