-- ==== Sys2Proof/Machine/FlumeTx.lean ====
section
/-!
DEFINITION. Machine/FlumeTx.lean: the sending side of Flume: messages and their packets (R89, R107), round-trip time and congestion window
(R108, R147, R148), losses and paths (R109, R113), chain counters (R133) and the end of a message (R107, R135).
-/
namespace Sys2Proof.Machine

/-! ## Messages and packets -/

/-- A message that is one packet without payload. -/
def Msg.single (m : Msg) : Bool := m.opcode == opRead || m.opcode == opProbe

/-- Payload bytes of packet i (R89). -/
def Msg.payloadAt (m : Msg) (i : Nat) : Nat := if m.single then 0 else pktPayload m.len m.sizeCode i

/-- Offset of packet i (R89). -/
def Msg.offsetAt (m : Msg) (i : Nat) : Nat := i * pktSize m.sizeCode

/-- The packets of a message before any is sent. -/
def freshPkts (n : Nat) : List PktTx :=
  (List.range n).map (fun i => ⟨i, false, 0, 0, 0, 0, 0, 0, false, false⟩)

/-- Bytes of a local buffer translated so far (R136). -/
def coveredBy (spans : List (Nat × Nat)) : Nat := (spans.map (·.2)).sum

/-- `n` bytes at `off` of a buffer given by its spans. -/
def State.readSpans (s : State) : List (Nat × Nat) → Nat → Nat → List Byte
  | [], _, _ => []
  | (pa, len) :: rest, off, n =>
    if len ≤ off then s.readSpans rest (off - len) n
    else
      let k := min n (len - off)
      s.memRead (pa + off) k ++ s.readSpans rest 0 (n - k)

/-- Writes bytes at `off` of a buffer given by its spans; whole words written lose their poison (R484). -/
def State.writeSpans (s : State) : List (Nat × Nat) → Nat → List Byte → State
  | [], _, _ => s
  | (pa, len) :: rest, off, bs =>
    if len ≤ off then s.writeSpans rest (off - len) bs
    else
      let k := min bs.length (len - off)
      (s.store (pa + off) (bs.take k)).writeSpans rest 0 (bs.drop k)

/-- Packet i's payload is at hand: its source is translated that far. -/
def Msg.ready (m : Msg) (i : Nat) : Bool :=
  m.single || match m.src with
    | .bytes _ => true
    | .segs ss => decide (m.offsetAt i + m.payloadAt i ≤ coveredBy ss)

/-- The payload of packet i. -/
def State.payload (s : State) (m : Msg) (i : Nat) : List Byte :=
  if m.single then [] else match m.src with
    | .bytes b => sliceOf b (m.offsetAt i) (m.payloadAt i)
    | .segs ss => s.readSpans ss (m.offsetAt i) (m.payloadAt i)

def State.msg? (s : State) (key : Nat) : Option Msg := s.flm.msgs.find? (fun m => m.key == key)

/-- The message of an ID to a destination, once it has been transmitted. -/
def State.msgById? (s : State) (dst id : Nat) : Option Msg :=
  s.flm.msgs.find? (fun m => m.st ≠ .queued && m.dst == dst && m.id == id)

def State.setMsg (s : State) (m : Msg) : State :=
  { s with flm := { s.flm with msgs := s.flm.msgs.map (fun x => if x.key = m.key then m else x) } }

/-- A packet of a message replaced. -/
def Msg.setPkt (m : Msg) (p : PktTx) : Msg :=
  { m with pkts := m.pkts.map (fun q => if q.index = p.index then p else q) }

def Msg.pkt? (m : Msg) (i : Nat) : Option PktTx := m.pkts.find? (fun p => p.index == i)

/-- Bytes of a message in flight: sent and not yet held (R148). -/
def Msg.inFlight (m : Msg) : Nat := ((m.pkts.filter (fun p => p.sent && !p.held)).map (fun p => m.payloadAt p.index)).sum

/-! ## Round-trip time and congestion window (R108, R147, R148) -/

/-- srtt, 0 before the first sample. -/
def Flow.srtt (f : Flow) : Rat := match f.rtt with | some (a, _) => a | none => 0

/-- RTO of a destination in ns (R108). -/
def State.rtoNs (s : State) (f : Flow) : Rat :=
  match f.rtt with
  | none => s.rtoInitUs * 1000
  | some (srtt, v) => min (max (srtt + 4 * v) (s.rtoMinUs * 1000)) (s.rtoMaxUs * 1000)

/-- A packet's timer in ns: backed off per attempt, at most RTO_MAX_US (R108). -/
def State.timerNs (s : State) (f : Flow) (attempt : Nat) : Rat := min (s.rtoNs f * 2 ^ attempt) (s.rtoMaxUs * 1000)

/-- A new sample, above 0 (R108). -/
def Flow.sampled (f : Flow) (sample : Rat) : Flow :=
  match f.rtt with
  | none => { f with rtt := some (sample, sample / 2) }
  | some (srtt, v) =>
    let srtt := srtt + (sample - srtt) / 8
    { f with rtt := some (srtt, v + (|sample - srtt| - v) / 4) }

/-- on_ack of R147. -/
def State.onAck (s : State) (f : Flow) (newly : Nat) (sample : Rat) : Flow :=
  let target : Rat := 4000 + 1000 * f.hops
  let f :=
    if sample < target then { f with cwnd := f.cwnd + pktSize s.ownSizeCode * newly / f.cwnd }
    else if f.srtt ≤ (s.dev.timeNs - f.lastDecreaseNs : Nat) then
      let beta : Rat := max (1 / 2) (1 - 2 / 5 * (sample - target) / sample)
      { f with cwnd := f.cwnd * beta, lastDecreaseNs := s.dev.timeNs }
    else f
  { f with cwnd := min (max f.cwnd wMin) wMax }

/-- on_loss of R147. -/
def State.onLoss (s : State) (f : Flow) : Flow :=
  if f.srtt ≤ (s.dev.timeNs - f.lastDecreaseNs : Nat) then
    { f with cwnd := max wMin (f.cwnd / 2), lastDecreaseNs := s.dev.timeNs }
  else f

/-! ## Path states (R113) -/

def Flow.path (f : Flow) (p : Nat) : PathTx := (f.paths[p]?).getD freshPath

def Flow.setPath (f : Flow) (p : Nat) (x : PathTx) : Flow := { f with paths := f.paths.set p x }

/-- The path takes a state: PATH_CHANGE when it is another one, DEST_DOWN when every path is then DOWN. -/
def State.pathTo (s : State) (f : Flow) (p : Nat) (x : PathTx) : State :=
  let changed := (f.path p).st ≠ x.st
  let g := f.setPath p x
  let s := s.setFlow g
  let s := if changed then s.raise 0x109 else s
  if changed ∧ x.st = .down ∧ g.paths.all (fun y => y.st = .down) then s.raise 0x10A else s

/-- A loss on a path: SUSPECT_LOSSES consecutive ones make an UP path SUSPECT. -/
def State.pathLoss (s : State) (peer p : Nat) : State :=
  match s.flow? peer with
  | none => s
  | some f =>
    let x := f.path p
    let n := x.losses + 1
    s.pathTo f p (if x.st = .up ∧ s.suspectLosses ≤ n then { x with st := .suspect, losses := n, lastProbeUs := s.nowUs }
      else { x with losses := n })

/-- A packet on a path was acknowledged: the consecutive-loss count of an UP or SUSPECT path returns to 0. -/
def Flow.pathHeard (f : Flow) (p : Nat) : Flow :=
  let x := f.path p
  if x.st = .down then f else f.setPath p { x with losses := 0 }

/-! ## Transmission (R107, R109, R112, R148) -/

/-- The SACK that a repeated READ carries (R111). -/
def Msg.readSack (m : Msg) : Nat × Nat × Nat := sackFor (pktCount m.len m.sizeCode) m.got

/-- Sends packet i of a message on a path as the given attempt; `solicit` asks for an ACK at once. -/
def State.transmit (s : State) (m : Msg) (i attempt path : Nat) (solicit : Bool) : State :=
  let ck := s.cookie
  let h := { hdr0 with
    opcode := m.opcode, flags := flagsOf m.fence.isSome solicit false m.notify false, dstPeer := m.dst,
    attempt := attempt, msgId := m.id, pktIndex := i, msgLen := if m.opcode = opProbe then 0 else m.len,
    path := path, sizeCode := m.sizeCode, offset := m.offsetAt i, window := m.window, winOffset := m.winOffset,
    aux := m.aux, txCookie := ck }
  let es := (match m.fence with | some l => [FlumeExt.fenceList l] | none => [])
    ++ (if m.opcode = opRead ∧ 0 < attempt then
          [FlumeExt.sack m.readSack.1 m.readSack.2.1 m.readSack.2.2] else [])
  let old := (m.pkt? i).getD ⟨i, false, 0, 0, 0, 0, 0, 0, false, false⟩
  let p : PktTx := { old with
    sent := true, attempt := attempt, path := path, sentUs := s.nowUs, sentNs := s.dev.timeNs, cookie := ck,
    order := s.flm.orderCtr, retx := false }
  let s := s.cookieUsed.sendFlume m.side (decide (0 < attempt)) m.cls h es (s.payload m i)
  let s := if 0 < attempt then s.count 3 0 2 else s
  let s := { s with flm := { s.flm with orderCtr := s.flm.orderCtr + 1 } }
  s.setMsg (m.setPkt p)

/-- A message of a work queue meets a translation fault in its local buffer: the queue pauses (R136). -/
def State.pauseMsg (s : State) (m : Msg) : State :=
  let s := s.setMsg { m with faulted := true }
  match m.use with
  | .desc wq _ =>
    let w := s.wq wq
    if w.st = .open_ then (s.setWq wq { w with st := .paused, pausedMsg := some m.key }).raise 0x144 else s
  | _ => s

/-- The message to a destination that sends next: the oldest with an unsent packet, not held by a BUSY or a fault. -/
def State.nextMsg (s : State) (dst : Nat) : Option Msg :=
  s.flm.msgs.find? (fun m =>
    m.dst == dst && m.st ≠ .held && !m.faulted && m.pkts.any (fun p => !p.sent))

/-- Room in the congestion window for `n` more bytes; one packet may always be in flight (R148). -/
def Flow.room (f : Flow) (n : Nat) : Bool := f.inflight == 0 || decide (((f.inflight + n : Nat) : Rat) ≤ f.cwnd)

/-- The first transmission gives a message its ID and T0 (R91, R107). -/
def State.activate (s : State) (m : Msg) : State × Msg :=
  if m.st = .queued then
    let m := { m with id := s.flm.msgCtr, st := .active, t0Us := s.nowUs }
    (({ s with flm := { s.flm with msgCtr := (s.flm.msgCtr + 1) % 2 ^ 48 } }).setMsg m, m)
  else (s, m)

/-- Sends what the congestion window of a destination allows (R147, R148); without a CURRENT epoch nothing (R144). -/
def State.pumpN : Nat → Nat → State → State
  | 0, _, s => s
  | fuel + 1, dst, s =>
    if s.currentEpoch.isNone || !s.hasPeer then s else
    match s.flow? dst, s.nextMsg dst with
    | some f, some m =>
      match m.pkts.find? (fun p => !p.sent) with
      | none => s
      | some p =>
        if !m.ready p.index then State.pumpN fuel dst (s.pauseMsg m)
        else if f.room (m.payloadAt p.index) then
          let path := f.pick
          let (s, m) := s.activate m
          let s := s.setFlow { f.after path with
            inflight := f.inflight + m.payloadAt p.index, lastUseNs := s.dev.timeNs }
          let last := p.index + 1 == m.pkts.length
          State.pumpN fuel dst (s.transmit m p.index 0 path (m.solicit && last))
        else s
    | _, _ => s

/-- Packets not yet sent to a destination, plus its messages: more steps than `pumpN` can take. -/
def State.pumpFuel (s : State) (dst : Nat) : Nat :=
  ((s.flm.msgs.filter (fun m => m.dst == dst)).map (fun m => m.pkts.length + 1)).sum + 1

def State.pump (s : State) (dst : Nat) : State := State.pumpN (s.pumpFuel dst) dst s

/-- A new message of the device, QUEUED, with its destination brought into the flow cache or left waiting for an entry
(R107, R145). -/
def State.submit (s : State) (m : Msg) (ip : IpAddr) : State :=
  let m := { m with
    key := s.flm.orderCtr, st := .queued, pkts := freshPkts (if m.single then 1 else pktCount m.len m.sizeCode) }
  let s := { s with flm := { s.flm with orderCtr := s.flm.orderCtr + 1, msgs := s.flm.msgs ++ [m] } }
  let (s, ok) := s.enterFlow m.dst ip (s.firstLocal ip.v6)
  if ok then s.pump m.dst
  else { s with fx := { s.fx with cacheWait := s.fx.cacheWait.filter (fun c => c.1 != m.dst) ++ [(m.dst, ip)] } }

/-! ## Chain counters (R133) -/

def chainFaultBit : Nat := 2 ^ 32

def State.chain (s : State) (i : Nat) : Nat := sparseGet 0 i s.fx.chain

def State.setChain (s : State) (i v : Nat) : State := { s with fx := { s.fx with chain := sparsePut 0 i v s.fx.chain } }

def State.chainFault (s : State) (i : Nat) : State := s.setChain i (s.chain i % chainFaultBit + chainFaultBit)

/-- Adds 1, or sets FAULT where the addition would overflow (R133). -/
def State.chainAdd (s : State) (i : Nat) : State :=
  if s.chain i % chainFaultBit = chainFaultBit - 1 then s.chainFault i else s.setChain i (s.chain i + 1)

/-- The counter has its FAULT bit set. -/
def State.chainFaulted (s : State) (i : Nat) : Bool := decide (chainFaultBit ≤ s.chain i)

/-- A descriptor completes: its INC acts on its counter (R133), and an entry is posted unless SIGNAL is clear and the
status SUCCESS (R135). -/
def State.completeDesc (s : State) (wq index : Nat) (d : SendDesc) (st : DescStatus) (reason len msgId : Nat) : State :=
  let s := if d.inc then (if st = .success then s.chainAdd d.counter else s.chainFault d.counter) else s
  if d.signal || st ≠ .success then s.post wq ⟨d.user, len, index, st.code, reason, d.dstPeer, wq, d.op, msgId⟩ else s

/-! ## The end of a message -/

/-- A free read tag, one that an open value picks (R129). -/
def State.freeTag (s : State) : Option Nat :=
  let used := (s.flm.rdTags.filter (fun t => t.2.msg.isSome)).map (·.1)
  if 262144 ≤ used.length then none else pickFree (used.length + 1) 262144 s.free.toNat (fun i => used.contains i)

/-- A read tag and the READ that holds it (R129). -/
def State.rdTag (s : State) (i : Nat) : RdTag := sparseGet ⟨0, none⟩ i s.flm.rdTags

/-- A READ takes a tag. -/
def State.holdTag (s : State) (i key : Nat) : State :=
  { s.drawn with flm := { s.flm with rdTags := sparsePut ⟨0, none⟩ i ⟨(s.rdTag i).gen, some key⟩ s.flm.rdTags } }

/-- A read tag is retired: its generation goes up (R129). -/
def State.retireTag (s : State) (tag : Option Nat) : State :=
  match tag with
  | none => s
  | some i =>
    let t := sparseGet (⟨0, none⟩ : RdTag) i s.flm.rdTags
    { s with flm := { s.flm with
      rdTags := sparsePut ⟨0, none⟩ i ⟨(t.gen + 1) % 256, none⟩ s.flm.rdTags } }

/-- Bytes a message has sent, or placed for a READ. -/
def Msg.moved (m : Msg) : Nat :=
  if m.opcode = opRead then (m.got.map (fun i => pktPayload m.len m.sizeCode i)).sum
  else ((m.pkts.filter (·.sent)).map (fun p => m.payloadAt p.index)).sum

/-- A message ends (R107): it leaves the congestion window, its read tag is retired, its descriptor completes or its unit is told,
and what waited behind it is sent. -/
def State.finishMsg (s : State) (m : Msg) (st : DescStatus) (reason : Nat) : State :=
  let s := { s with flm := { s.flm with msgs := s.flm.msgs.filter (fun x => x.key != m.key) } }
  let s : State := match s.flow? m.dst with
    | some f => s.setFlow { f with inflight := f.inflight - m.inFlight }
    | none => s
  let s := s.retireTag m.tag
  let s : State := match m.use, m.desc with
    | .desc wq idx, some d =>
      let len := if st = .success then m.len else m.moved
      let s := s.completeDesc wq idx d st reason len m.id
      let w := s.wq wq
      if w.pausedMsg = some m.key then
        s.setWq wq { w with pausedMsg := none, st := if w.st = .paused then .open_ else w.st }
      else s
    | _, _ =>
      let data := match m.src with | .bytes b => if m.opcode = opRead then b else [] | .segs _ => []
      { s with fx := { s.fx with reports := s.fx.reports ++ [(⟨m.use, st, reason, data⟩ : MsgReport)] } }
  let s := if st = .success then s.count 3 0 4 else s
  s.pump m.dst

/-- A message fails by its deadline: TIMEOUT, or LOCAL_FAULT when its buffer's translation never came (R110, R136). It stays outstanding
for fences until LMAX_US after its first transmission (R102, R132). -/
def State.timeoutMsg (s : State) (m : Msg) : State :=
  let s := { s with flm := { s.flm with ghosts := s.flm.ghosts ++ [(⟨m.id, m.dst, m.t0Us + s.lmaxUs⟩ : GhostMsg)] } }
  if m.faulted then s.finishMsg m .localFault 0
  else ((s.bump F.FLM_MSG_FAIL.COUNT).raise 0x107).finishMsg m .timeout 0

/-! ## Losses and retransmission (R109, R110, R321) -/

/-- The last instant at which a message may be sent (R110). -/
def State.txDeadline (s : State) (m : Msg) : Nat := m.t0Us + (s.lmaxUs - s.tnetUs)

/-- Asks for a retransmission: a packet leaves as an attempt above 0 only after its RETX input has been consumed (R321). The sending controller observes it (R310). At the attempt
limit the message fails (R110); without a CURRENT epoch the retransmission waits (R144). -/
def State.askRetx (s : State) (m : Msg) (p : PktTx) : State :=
  if s.currentEpoch.isNone || p.retx then s
  else if s.maxAttempts ≤ p.attempt + 1 ∨ s.txDeadline m < s.nowUs then s.timeoutMsg m
  else
    let s := s.setMsg (m.setPkt { p with retx := true })
    if s.issues m.side then s.observe (.retx m.id p.index (p.attempt + 1)) else s

/-- A packet deemed lost counts against its path and the window, and is sent again (R109, R147). -/
def State.losePkt (s : State) (m : Msg) (p : PktTx) : State :=
  let s := s.pathLoss m.dst p.path
  let s : State := match s.flow? m.dst with
    | some f => s.setFlow (s.onLoss f)
    | none => s
  s.askRetx m p

/-- The RETX input releases the retransmission, on another path where one is UP or SUSPECT (R109, R321). A last packet sent again because every
packet is held asks for an ACK at once (R107). -/
def State.resend (s : State) (m : Msg) (p : PktTx) (attempt : Nat) : State :=
  match s.flow? m.dst with
  | none => s
  | some f =>
    if s.currentEpoch.isNone then s.setMsg (m.setPkt { p with retx := false })
    else
      let path := f.pickOther p.path
      (s.setFlow (f.after path)).transmit m p.index attempt path (p.held || m.solicit)

end Sys2Proof.Machine
end

