-- ==== Sys2Proof/Machine/FlumeRx.lean ====
section
/-!
DEFINITION. Machine/FlumeRx.lean: receiving a Flume packet in the order of R92: datagram checks (R81), answers by NACK and BUSY (R93, R94),
reassembly slots (R96 to R101), the Recent Message Table (R104), windows (R121), READs (R124) and the packets of the
sending side (R107 to R113, R129).
-/
namespace Sys2Proof.Machine

/-! ## Answers (R93 to R95) -/

/-- The class of a packet that has arrived (R360), which its answers take (R378). -/
def State.clsOf (s : State) (dg : Datagram) : Nat := s.dscpClass dg.lport dg.dscp

/-- The bytes of a source address in DETAIL (R95). -/
def IpAddr.detail (a : IpAddr) : List Byte := if a.v6 then beBytes 16 a.addr else beBytes 4 a.addr ++ zeroBytes 12

/-- A datagram dropped under R92 writes a Ledger record, limited per IP source address (R95). -/
def State.logDrop (s : State) (dg : Datagram) : State :=
  s.ledgerLimited 0x0503 9 (dg.srcIp.addr % 2 ^ 32) dg.srcIp.detail

/-- Counts, records and sends a NACK to a peer of the flow cache (R93, R95). -/
def State.nackTo (s : State) (peer msgId opcode pktIndex cls : Nat) (r : NackReason) : State :=
  let s := s.bump F.FLM_NACK_TX.COUNT
  let s := if r = .staleGen then s.bump F.FLM_STALE_GEN.COUNT else s
  let s := (((s.set F.FLM_LAST_NACK.PEER peer).set F.FLM_LAST_NACK.REASON r.code).set
    F.FLM_LAST_NACK.OPCODE opcode).setFlag F.FLM_LAST_NACK.VALID true
  let s := (s.ledgerLimited 0x105 9 peer).raise 0x105
  s.sendCtl ⟨peer, msgId, opNack, false, r.code * 2 ^ 24 + pktIndex, 0, none, none, cls⟩

/-- Sends a BUSY with a hold time (R94). -/
def State.busyTo (s : State) (peer msgId cls : Nat) (r : BusyReason) (holdUs : Nat) : State :=
  let s := (s.bump F.FLM_BUSY_TX.COUNT).count 3 0 5
  let s := match r with
    | .tableFull => s.raise 0x101
    | .slotsFull => s.raise 0x103
    | .noBuffer => s
    | .power => s
  s.sendCtl ⟨peer, msgId, opBusy, false, r.code * 2 ^ 24 + holdUs % 2 ^ 24, 0, none, none, cls⟩

/-- BUSY POWER, from the state of island 9 alone and back the way the packet came (R542). -/
def State.busyPower (s : State) (dg : Datagram) (h : FlumeHdr) : State :=
  match s.currentEpoch with
  | none => s
  | some k =>
    let a := { hdr0 with
      opcode := opBusy, flags := flagsOf false false false false true, srcPeer := s.localPeer, dstPeer := h.srcPeer,
      epoch := k.epoch, msgId := h.msgId, pktIndex := controlSerial s.nowUs, path := h.path,
      aux := 4 * 2 ^ 24 + s.powerHoldUs % 2 ^ 24, txCookie := s.cookie }
    (((s.bump F.FLM_BUSY_TX.COUNT).count 3 0 5).cookieUsed.perform .numbering true
      (.flume dg.lport (s.clsOf dg) dg.dstIp dg.srcIp s.udpPort dg.srcPort 255 (gcmNonce a) a.bytes)).count 3 0 1

/-! ## Work queue side of a SEND (R130) -/

/-- A SEND from this peer may come to the queue: open, with a receive ring, SCOPE 0 or the peer. -/
def Wq.accepts (w : Wq) (peer : Nat) : Bool :=
  w.st = .open_ && w.ctx.rqLog2 != 0 && (w.ctx.scope == 0 || w.ctx.scope == peer)

/-- A WRITE's NOTIFY from this peer may post to the queue. -/
def Wq.notifies (w : Wq) (peer : Nat) : Bool := w.st = .open_ && (w.ctx.scope == 0 || w.ctx.scope == peer)

/-- The buffer that the next SEND takes: a returned one first (R130). -/
def Wq.nextBuf (w : Wq) : Option RxBuf :=
  match w.returned with
  | b :: _ => some b
  | [] => w.posted.head?

/-- The queue once that buffer is taken. -/
def Wq.takeBuf (w : Wq) : Wq :=
  match w.returned with
  | _ :: rest => { w with returned := rest }
  | [] => { w with posted := w.posted.drop 1, rqHead := (w.rqHead + 1) % 65536 }

/-- The work queue of a SEND. -/
def Slot.wq (x : Slot) : Nat := x.hdr.aux % 65536

/-- A failed SEND returns its buffer, unless the queue has been closed or reset meanwhile (R130). -/
def State.returnBuf (s : State) (x : Slot) : State :=
  match x.buf with
  | none => s
  | some b =>
    let w := s.wq x.wq
    if w.st = .closed then s else s.setWq x.wq { w with returned := w.returned ++ [b] }

/-! ## Ends of a slot (R98 to R101) -/

/-- What ends with a slot: its window reference (R127). -/
def State.slotGone (s : State) (x : Slot) : State :=
  let s := s.dropSlot x.peer x.msgId
  if x.hdr.opcode = opWrite then s.winRelease x.hdr.window else s

/-- The slot's message fails by NACK: recorded as refused, its buffer returned (R98, R100). -/
def State.refuseSlot (s : State) (x : Slot) (r : NackReason) : State :=
  ((s.slotGone x).returnBuf x).putOutcome x.peer x.msgId false r.code

/-- Completes a slot's message (R99); a SEND whose queue is no longer open fails instead (R130). -/
def State.completeSlot (s : State) (x : Slot) : State :=
  if x.hdr.opcode = opSend ∧ (x.doomed ∨ ¬ (s.wq x.wq).accepts x.peer) then
    (s.refuseSlot x .noQueue).nackTo x.peer x.msgId x.hdr.opcode x.hdr.pktIndex x.cls .noQueue
  else
    let s := (s.slotGone x).putOutcome x.peer x.msgId true 0
    let s :=
      if x.hdr.opcode = opSend then
        s.post x.wq ⟨0, x.hdr.msgLen, (x.buf.map (·.index)).getD 0, 0, 0, x.peer, x.wq, opSend, x.msgId⟩
      else if x.hdr.notify then s.post x.wq ⟨0, x.hdr.msgLen, 0, 0, 0, x.peer, x.wq, opWrite, x.msgId⟩
      else s
    (s.count 3 0 3).sendCtl ⟨x.peer, x.msgId, opAck, true, 0, 0, none, some (x.echoCookie, x.echoNs), x.cls⟩

/-- A message leaves the fence lists that name it. -/
def State.leaveFences (s : State) (peer msgId : Nat) : State :=
  { s with flm := { s.flm with
    slots := s.flm.slots.map (fun (x : Slot) =>
      if x.peer = peer then { x with fenceLeft := x.fenceLeft.filter (· != msgId) } else x) } }

/-- A message has ended: it leaves the fence lists that name it, and every FENCE message then satisfied completes, one after
another (R101). -/
def State.fenceEnded : Nat → Nat → Nat → State → State
  | 0, _, _, s => s
  | fuel + 1, peer, msgId, s =>
    let s := s.leaveFences peer msgId
    let ready := s.flm.slots.filter (fun (x : Slot) => x.peer = peer && x.st = .fenceWait && x.fenceLeft.isEmpty)
    ready.foldl (fun (s : State) (x : Slot) =>
      if (s.slot? x.peer x.msgId).isSome then State.fenceEnded fuel x.peer x.msgId (s.completeSlot x) else s) s

/-- A message ended, with everything that follows for fences. -/
def State.ended (s : State) (peer msgId : Nat) : State := State.fenceEnded (s.flm.slots.length + 1) peer msgId s

/-! ## Acknowledgements (R106) -/

/-- Sends an ACK with SACK for a slot. -/
def State.ackSlot (s : State) (x : Slot) : State :=
  let k := sackFor (pktCount x.hdr.msgLen x.hdr.sizeCode) x.held
  let s := s.setSlot { x with sinceAck := 0, firstUnacked := none, lastAckNs := some s.dev.timeNs }
  s.sendCtl ⟨x.peer, x.msgId, opAck, false, 0, 0, some k, some (x.echoCookie, x.echoNs), x.cls⟩

/-! ## The order of R92 -/

/-- The peer lies in one of the admission ranges (R137). -/
def State.admitted (s : State) (peer : Nat) : Bool :=
  s.pat.settings.admission.any (fun r => decide (r.1 ≤ peer) && decide (peer ≤ r.2))

/-- A header field that is reserved is not 0 (R82, R84, R85; SIZE_CODE above 3). -/
def FlumeHdr.reserved (h : FlumeHdr) : Bool :=
  decide (32 ≤ h.flags) || decide (16 ≤ h.path) || h.window / 2 ^ 20 % 16 != 0 || h.rsvd != 0 || decide (3 < h.sizeCode)
  || (if h.opcode = opSend then decide (65536 ≤ h.aux)
      else if h.opcode = opWrite then (if h.notify then decide (65536 ≤ h.aux) else h.aux != 0)
      else if h.opcode = opRead ∨ h.opcode = opReadResp ∨ h.opcode = opBusy then false
      else if h.opcode = opNack then h.aux / 65536 % 256 != 0
      else h.aux != 0)

/-- What becomes of a datagram before its row acts on it. -/
inductive Front where
  | done (s : State)
  | pass (s : State) (h : FlumeHdr) (es : List FlumeExt) (payload : List Byte)

/-- R81: the datagram is dropped for its IP or UDP form. -/
def Datagram.badIp (dg : Datagram) : Bool :=
  dg.fragment || dg.options || dg.csum = .bad || (dg.srcIp.v6 && dg.csum = .zero)

/-- Order 1 of R92. -/
def State.formOk (s : State) (dg : Datagram) (h : FlumeHdr) : Bool :=
  decide (80 ≤ dg.payload.length) && h.version == 1 && s.hasPeer && h.dstPeer == s.localPeer
  && decide (h.extUnits ≤ 64) && 64 + 8 * h.extUnits + h.payloadLen + 16 == dg.payload.length

/-- A packet refused by NACK: the message's slot, when it has one, ends with it (R98). -/
def State.nack (s : State) (dg : Datagram) (h : FlumeHdr) (r : NackReason) : State :=
  let s := (s.answerFlow dg h.srcPeer).1
  let s := match s.slot? h.srcPeer h.msgId with
    | some x => if bitOf h.flags 4 then s else (s.refuseSlot x r).ended h.srcPeer h.msgId
    | none => s
  s.nackTo h.srcPeer h.msgId h.opcode h.pktIndex (s.clsOf dg) r

/-- Orders 1 to 5 of R92, after the checks of R81. Every authenticated packet of a destination in the cache sets its local address and port
(R589). -/
def State.front (s : State) (dg : Datagram) : Front :=
  let h := FlumeHdr.ofBytes dg.payload
  if dg.badIp then .done (s.bump F.FLM_DROP_IP.COUNT)
  else
    let s := s.count 3 0 0
    if !s.formOk dg h then .done ((s.bump F.FLM_DROP_FORMAT.COUNT).logDrop dg)
    else if !s.epochLive h.epoch then .done ((s.bump F.FLM_DROP_EPOCH.COUNT).logDrop dg)
    else if !dg.tagOk then .done (((s.bump F.FLM_DROP_AUTH.COUNT).raiseLimited 0x104).logDrop dg)
    else
      let s := if (s.flow? h.srcPeer).isSome then (s.answerFlow dg h.srcPeer).1 else s
      let ext := sliceOf dg.payload 64 (8 * h.extUnits)
      if !s.admitted h.srcPeer then .done (s.nack dg h .peerDenied)
      else if h.reserved then .done (s.nack dg h .reserved)
      else match extsOf (h.extUnits + 1) ext with
        | .error .bad => .done (s.nack dg h .badExt)
        | .error .reserved => .done (s.nack dg h .reserved)
        | .ok es => .pass s h es (sliceOf dg.payload (64 + 8 * h.extUnits) h.payloadLen)

/-- Order 7 of R92: a packet that matches the table is answered from the stored outcome (R104). -/
def State.fromTable (s : State) (dg : Datagram) (h : FlumeHdr) (e : RmtEntry) : State :=
  let s := (s.bump F.FLM_DUP.COUNT).answerFlow dg h.srcPeer |>.1
  if e.completed then
    s.sendCtl ⟨h.srcPeer, h.msgId, opAck, true, 0, 0, none, some (h.txCookie, s.dev.timeNs), s.clsOf dg⟩
  else s.sendCtl ⟨h.srcPeer, h.msgId, opNack, false, e.reason * 2 ^ 24 + h.pktIndex, 0, none, none, s.clsOf dg⟩

/-- BAD_SIZE of R93: a SACK or FENCE_LIST out of place, or a COUNT above 32. -/
def badSize (h : FlumeHdr) (es : List FlumeExt) : Bool :=
  ((sackOf es).isSome && !(h.opcode == opAck || (h.opcode == opRead && decide (0 < h.attempt))))
  || ((fenceOf es).isSome && !h.fence) || (h.fence && (fenceOf es).isNone)
  || decide (32 < ((fenceOf es).getD []).length)

/-- R89 and R90 for a packet of a SEND or WRITE. -/
def lengthsOk (h : FlumeHdr) : Bool :=
  decide (h.msgLen ≤ 16777216) && decide (h.pktIndex < pktCount h.msgLen h.sizeCode)
  && h.offset == h.pktIndex * pktSize h.sizeCode && h.payloadLen == pktPayload h.msgLen h.sizeCode h.pktIndex
  && !(h.opcode == opSend && h.msgLen == 0)

/-- The fields that every packet of a message carries alike (R89). -/
def sameMessage (a h : FlumeHdr) (aIds ids : List Nat) : Bool :=
  a.opcode == h.opcode && a.msgLen == h.msgLen && a.sizeCode == h.sizeCode && a.window == h.window
  && a.winOffset == h.winOffset && a.aux == h.aux && a.fence == h.fence && a.notify == h.notify && (!h.fence || aIds == ids)

/-- The checks of R121 against the live half of a window. -/
def State.winCheck (s : State) (h : FlumeHdr) : Option NackReason :=
  let w := s.win (winIndex h.window)
  let l := w.live
  if l.len = 0 then some .noWindow
  else if winGen h.window ≠ w.gen then some .staleGen
  else if ¬ (l.scope = 0 ∨ l.scope = h.srcPeer) ∨ bitOf l.rights (if h.opcode = opWrite then 0 else 1) = false
      ∨ (h.opcode = opWrite ∧ h.notify ∧ bitOf l.rights 2 = false) then some .access
  else if l.len < h.winOffset + h.msgLen then some .bounds
  else none

/-- Order 10 of R92 for SEND and WRITE: why the packet is refused. `first` says whether it allocates the slot. -/
def State.order10 (s : State) (h : FlumeHdr) (first : Bool) : Option NackReason :=
  let w := s.wq (h.aux % 65536)
  if h.opcode = opWrite then
    match s.winCheck h with
    | some r => some r
    | none => if h.notify && !w.notifies h.srcPeer then some .noQueue else none
  else if !w.accepts h.srcPeer then some .noQueue
  else if first then
    match w.nextBuf with
    | some b => if b.len < h.msgLen then some .tooLong else none
    | none => none
  else none

/-- A SEND whose queue has left the open state since its slot was allocated (R130). -/
def Slot.orphan (x : Slot) : Bool := x.hdr.opcode == opSend && x.doomed

/-- Order 10 of R92 for a further packet of a message. A SEND that has every packet and waits for its fence is past the checks of its
queue: it fails at the point at which it would have completed (R130). -/
def State.order10Again (s : State) (x : Slot) (h : FlumeHdr) : Option NackReason :=
  if h.opcode = opSend ∧ x.st = .fenceWait then none
  else if x.orphan then some .noQueue
  else s.order10 h false

/-- Holds a placed packet and acts on a full bitmap, or acknowledges (R97, R98, R106). -/
def State.hold (s : State) (x : Slot) (h : FlumeHdr) : State :=
  let x := { x with
    held := insertNat h.pktIndex x.held, sinceAck := x.sinceAck + 1, echoCookie := h.txCookie, echoNs := s.dev.timeNs,
    firstUnacked := some (x.firstUnacked.getD s.dev.timeNs) }
  let full := x.held.length == pktCount x.hdr.msgLen x.hdr.sizeCode
  if full && !(x.hdr.fence && !x.fenceLeft.isEmpty) then ((s.setSlot x).completeSlot x).ended x.peer x.msgId
  else
    let x := if full then { x with st := .fenceWait } else x
    if h.solicit || decide (s.ackEvery ≤ x.sinceAck) then s.ackSlot x else s.setSlot x

/-- A packet whose bit is already set (R97, R106). -/
def State.dupPacket (s : State) (x : Slot) (h : FlumeHdr) : State :=
  let x := { x with echoCookie := h.txCookie, echoNs := s.dev.timeNs }
  let s := (s.bump F.FLM_DUP.COUNT).setSlot x
  let quiet := match x.lastAckNs with
    | none => true
    | some t => decide (s.ackDelayNs ≤ s.dev.timeNs - t)
  if h.solicit || quiet then s.ackSlot x else s

/-- A message from this peer whose slot expired within the last LMAX_US: a fence that lists it need not wait for it (R101). -/
def State.hasExpired (s : State) (peer msgId : Nat) : Bool :=
  s.fx.expired.any (fun e => e.1 == peer && e.2.1 == msgId && decide (s.nowUs < e.2.2))

/-- Records that a message's slot has expired. -/
def State.putExpired (s : State) (peer msgId : Nat) : State :=
  { s with fx := { s.fx with
    expired := s.fx.expired.filter (fun e => decide (s.nowUs < e.2.2)) ++ [(peer, msgId, s.nowUs + s.lmaxUs)] } }

/-- Orders 9 to 11 of R92 for a SEND or WRITE: slot, checks, placement. `place` is where the translation unit puts the packet's bytes, or a
fault, which refuses the packet (R122). -/
def State.accept (s : State) (dg : Datagram) (h : FlumeHdr) (ids : List Nat) (payload : List Byte)
    (place : Option (List (Nat × Nat))) : State :=
  match s.slot? h.srcPeer h.msgId with
  | some x =>
    if !sameMessage x.hdr h x.fenceIds ids then s.nack dg h .inconsistent
    else match s.order10Again x h with
      | some r => s.nack dg h r
      | none =>
        if x.held.contains h.pktIndex then s.dupPacket x h
        else match place with
          | none => (s.raise 0x142).nack dg h .access
          | some spans => (s.writeSpans spans 0 payload).hold x h
  | none =>
    let s := (s.answerFlow dg h.srcPeer).1
    if tableLimit ≤ s.tableUsed then s.busyTo h.srcPeer h.msgId (s.clsOf dg) .tableFull (max 1 s.tableHold)
    else if slotLimit ≤ s.flm.slots.length then s.busyTo h.srcPeer h.msgId (s.clsOf dg) .slotsFull s.holdUs
    else
      let w := s.wq (h.aux % 65536)
      let buf := if h.opcode = opSend then w.nextBuf else none
      let left := ids.filter (fun i => (s.outcome? h.srcPeer i).isNone && !s.hasExpired h.srcPeer i)
      let x : Slot := {
        peer := h.srcPeer, msgId := h.msgId, st := .filling, hdr := h, fenceIds := ids, fenceLeft := left,
        held := [], expiryUs := s.nowUs + s.lmaxUs, sinceAck := 0, firstUnacked := none, lastAckNs := none,
        echoCookie := h.txCookie, echoNs := s.dev.timeNs, buf := buf,
        doomed := false, cls := s.clsOf dg }
      let t := { s with flm := { s.flm with slots := s.flm.slots ++ [x] } }
      let t := if t.tableUsed = 3670016 then t.raise 0x100 else t
      let t := if t.flm.slots.length = 458752 then t.raise 0x102 else t
      match s.order10 h true with
      | some r =>
        let x := { x with buf := none }
        (t.setSlot x).nack dg h r
      | none =>
        if h.opcode = opSend ∧ (buf.isNone ∨ w.cqFull) then s.busyTo h.srcPeer h.msgId (s.clsOf dg) .noBuffer s.holdUs
        else
          let t := if h.opcode = opSend then t.setWq (h.aux % 65536) w.takeBuf else t
          match place with
          | none => (t.raise 0x142).nack dg h .access
          | some spans => (t.writeSpans spans 0 payload).hold x h

/-- A SEND or WRITE packet after order 5 of R92. -/
def State.message (s : State) (dg : Datagram) (h : FlumeHdr) (es : List FlumeExt) (payload : List Byte)
    (place : Option (List (Nat × Nat))) : State :=
  if h.resp then s
  else if s.pwr.hostBusy then
    let s := s.busyPower dg h
    if h.opcode = opSend then s.wakeSource else s
  else match s.outcome? h.srcPeer h.msgId with
    | some e => s.fromTable dg h e
    | none =>
      if !lengthsOk h then s.nack dg h .badLen
      else if badSize h es then s.nack dg h .badSize
      else s.accept dg h ((fenceOf es).getD []) payload place

/-- A packet whose opcode R83 does not give, or a READ_RESP or control opcode without RESP: after the table, NACK BAD_OPCODE. -/
def State.badOpcode (s : State) (dg : Datagram) (h : FlumeHdr) : State :=
  match s.outcome? h.srcPeer h.msgId with
  | some e => s.fromTable dg h e
  | none => s.nack dg h .badOpcode

/-- The opcodes of R83. -/
def knownOpcode (o : Nat) : Bool :=
  o == opSend || o == opWrite || o == opRead || o == opReadResp || o == opAck || o == opNack || o == opBusy || o == opProbe

/-- A packet that has passed the front of R92 and is not of the row's opcode: an unknown opcode is refused; a known one belongs to
another row. -/
def State.otherOpcode (s : State) (t : State) (dg : Datagram) (h : FlumeHdr) : State :=
  if knownOpcode h.opcode then s else if h.resp then t else t.badOpcode dg h

/-- SEND_PACKET_RX. -/
def execSendPacketRx (dg : Datagram) (place : Option (List (Nat × Nat))) (s : State) : Result :=
  .next (s.inStep (fun s => match s.front dg with
  | .done t => t
  | .pass t h es payload =>
    if h.opcode = opSend then t.message dg h es payload place else s.otherOpcode t dg h))

/-- WRITE_PACKET_RX. -/
def execWritePacketRx (dg : Datagram) (place : Option (List (Nat × Nat))) (s : State) : Result :=
  .next (s.inStep (fun s => match s.front dg with
  | .done t => t
  | .pass t h es payload =>
    if h.opcode = opWrite then t.message dg h es payload place else s.otherOpcode t dg h))

/-! ## READ (R123, R124) -/

def filterLimit : Nat := 1048576

def State.filter? (s : State) (peer msgId : Nat) : Option RdFilter :=
  s.flm.filter.find? (fun f => f.peer == peer && f.msgId == msgId)

/-- Enters the attempt of a READ in the answer filter, at order 9 of R92, whose place the filter takes (R124). -/
def State.putFilter (s : State) (h : FlumeHdr) : State :=
  { s with flm := { s.flm with
    filter := s.flm.filter.filter (fun f => !(f.peer == h.srcPeer && f.msgId == h.msgId))
      ++ [⟨h.srcPeer, h.msgId, h.attempt, s.nowUs + s.lmaxUs⟩] } }

/-- The answer to a READ: one READ_RESP per packet that the SACK does not name, until a translation faults. -/
def State.answerRead (cls : Nat) (h : FlumeHdr) (skip : Option (Nat × Nat × Nat)) :
    List (Option (List (Nat × Nat))) → Nat → State → State
  | [], _, s => s
  | sp :: rest, i, s =>
    if pktCount h.msgLen h.sizeCode ≤ i then s
    else if (match skip with | some k => sackHolds k i | none => false) then
      State.answerRead cls h skip rest (i + 1) s
    else match sp, s.flow? h.srcPeer with
      | none, _ => s.raise 0x142
      | some _, none => s
      | some spans, some f =>
        let n := pktPayload h.msgLen h.sizeCode i
        let p := f.pick
        let r := { hdr0 with
          opcode := opReadResp, flags := flagsOf false false false false true, dstPeer := h.srcPeer,
          attempt := h.attempt, msgId := h.msgId, pktIndex := i, msgLen := h.msgLen, path := p, sizeCode := h.sizeCode,
          offset := i * pktSize h.sizeCode, window := h.window, winOffset := h.winOffset, aux := h.aux,
          txCookie := s.cookie }
        let s := (s.setFlow (f.after p)).cookieUsed.sendFlume .numbering false cls r [] (s.readSpans spans 0 n)
        State.answerRead cls h skip rest (i + 1) s

/-- READ_RX: `spans` holds, packet by packet, where the window's bytes lie, or a fault. -/
def execReadRx (dg : Datagram) (spans : List (Option (List (Nat × Nat)))) (s : State) : Result :=
  .next (s.inStep (fun s => match s.front dg with
  | .done t => t
  | .pass t h es _ =>
    if h.opcode = opRead then
      if h.resp then t
      else if t.pwr.hostBusy then t.busyPower dg h
      else if t.dev.timeNs < t.wsw.readDropNs then t.bump F.WSW_READ_DROP.COUNT
      else match t.outcome? h.srcPeer h.msgId with
        | some e => t.fromTable dg h e
        | none =>
          if h.payloadLen ≠ 0 ∨ h.pktIndex ≠ 0 ∨ h.offset ≠ 0 ∨ 16777216 < h.msgLen then t.nack dg h .badLen
          else if badSize h es then t.nack dg h .badSize
          else
            let old := t.filter? h.srcPeer h.msgId
            if (match old with | some f => decide (h.attempt ≤ f.attempt) | none => false) then t.bump F.FLM_DUP.COUNT
            else if old.isNone ∧ filterLimit ≤ t.flm.filter.length then t.bump F.FLM_READ_DEFER.COUNT
            else
              let t := t.putFilter h
              match t.winCheck h with
              | some r => t.nack dg h r
              | none => State.answerRead (s.clsOf dg) h (sackOf es) spans 0 (t.answerFlow dg h.srcPeer).1
    else s.otherOpcode t dg h))

/-! ## The sending side: READ_RESP (R129), ACK (R107, R108), NACK, BUSY -/

/-- A READ_RESP is dropped as late (R129). -/
def State.lateResp (s : State) : State := (s.bump F.FLM_LATE_RESP.COUNT).raiseLimited 0x10B

/-- The outstanding READ that a READ_RESP answers (R129). -/
def State.readOf (s : State) (h : FlumeHdr) : Option Msg :=
  let idx := h.aux % 2 ^ 24
  if 262144 ≤ idx then none
  else
    let t := sparseGet (⟨0, none⟩ : RdTag) idx s.flm.rdTags
    match t.msg with
    | none => none
    | some key =>
      match s.msg? key with
      | none => none
      | some m => if t.gen = h.aux / 2 ^ 24 % 256 ∧ m.dst = h.srcPeer ∧ m.len = h.msgLen then some m else none

/-- A READ_RESP matched to its READ: its payload is placed at OFFSET in the local buffer; the READ succeeds once it holds every packet. -/
def State.takeResp (s : State) (m : Msg) (h : FlumeHdr) (payload : List Byte) (place : Option (List (Nat × Nat))) : State :=
  if pktCount m.len m.sizeCode ≤ h.pktIndex ∨ h.offset ≠ h.pktIndex * pktSize m.sizeCode
      ∨ h.payloadLen ≠ pktPayload m.len m.sizeCode h.pktIndex then s
  else if m.got.contains h.pktIndex then s.bump F.FLM_DUP.COUNT
  else match m.use, place with
    | .desc _ _, none => s.setMsg { m with faulted := true }
    | _, _ =>
      let m := { m with got := insertNat h.pktIndex m.got, faulted := false }
      let s := match m.use, m.src, place with
        | .desc _ _, _, some spans => (s.writeSpans spans 0 payload).setMsg m
        | _, .bytes b, _ => s.setMsg { m with src := .bytes (overlayBytes b h.offset payload) }
        | _, _, _ => s.setMsg m
      let m := (s.msg? m.key).getD m
      let s := match s.flow? m.dst with
        | some f => s.setFlow (f.pathHeard ((m.pkt? 0).map (·.path)|>.getD 0))
        | none => s
      if m.got.length = pktCount m.len m.sizeCode then s.finishMsg m .success 0 else s

/-- READ_RESP_RX. -/
def rxReadResp (dg : Datagram) (place : Option (List (Nat × Nat))) (s : State) : State :=
  (match s.front dg with
  | .done t => t
  | .pass t h _ payload =>
    if h.opcode = opReadResp then
      if !h.resp then t.badOpcode dg h
      else match t.readOf h with
        | none => t.lateResp
        | some m => t.takeResp m h payload place
    else s.otherOpcode t dg h)

/-- The sample an ACK gives: from its TS_ECHO and the packet whose cookie it echoes; 0 or less is no sample (R108). -/
def State.sampleOf (s : State) (m : Msg) (echo : Option (Nat × Nat)) : Option Rat :=
  match echo with
  | none => none
  | some (ck, hold) =>
    match m.pkts.find? (fun p => p.sent && p.cookie == ck) with
    | none => none
    | some p =>
      if p.sentNs + hold < s.dev.timeNs then some ((s.dev.timeNs - p.sentNs - hold : Nat) : Rat) else none

/-- The message with the packets that an ACK shows as held. -/
def Msg.heldBy (m : Msg) (all : Bool) (k : Option (Nat × Nat × Nat)) : Msg :=
  { m with pkts := m.pkts.map (fun p =>
    if p.sent && (all || (match k with | some k => sackHolds k p.index | none => false)) then { p with held := true }
    else p) }

/-- A packet that SACK shows to be overtaken: three packets sent later on its path are held (R109). -/
def Msg.overtaken (m : Msg) (p : PktTx) : Bool :=
  p.sent && !p.held && !p.retx
  && decide (3 ≤ (m.pkts.filter (fun q => q.held && q.path == p.path && decide (p.order < q.order))).length)

/-- An answered probe: UP_PROBES consecutive ones restore a path (R113). -/
def State.probeAnswered (s : State) (peer p : Nat) : State :=
  match s.flow? peer with
  | none => s
  | some f =>
    let x := f.path p
    if x.st = .up then s
    else
      let n := x.answered + 1
      s.pathTo f p (if s.upProbes ≤ n then freshPath else { x with answered := n, unanswered := 0 })

/-- ACK_RX on a message of the device. -/
def State.takeAck (s : State) (dg : Datagram) (m : Msg) (h : FlumeHdr) (es : List FlumeExt) : State :=
  match m.use with
  | .probe p =>
    let s := { s with flm := { s.flm with msgs := s.flm.msgs.filter (fun x => x.key != m.key) } }
    s.probeAnswered m.dst p
  | _ =>
    let g := m.heldBy h.complete (sackOf es)
    let newly := m.inFlight - g.inFlight
    let fresh := (g.pkts.zip m.pkts).filterMap (fun c => if c.1.held && !c.2.held then some c.1.path else none)
    let s := match s.flow? m.dst with
      | none => s
      | some f =>
        let f := { f with hops := min 30 (255 - dg.ttl), inflight := f.inflight - newly, lastUseNs := s.dev.timeNs }
        let f := fresh.foldl Flow.pathHeard f
        match s.sampleOf m (echoOf es) with
        | some x => s.setFlow (s.onAck (f.sampled x) newly x)
        | none => s.setFlow f
    if h.complete then s.finishMsg g .success 0
    else
      let s := s.setMsg g
      let s :=
        if g.st = .active then
          (g.pkts.filter g.overtaken).foldl (fun (s : State) (p : PktTx) =>
            match s.msg? g.key with
            | some g => s.losePkt g p
            | none => s) s
        else s
      s.pump m.dst

/-- ACK_RX. -/
def rxAck (dg : Datagram) (s : State) : State :=
  (match s.front dg with
  | .done t => t
  | .pass t h es _ =>
    if h.opcode = opAck then
      if !h.resp then t.badOpcode dg h
      else match t.msgById? h.srcPeer h.msgId with
        | some m => t.takeAck dg m h es
        | none => t
    else s.otherOpcode t dg h)

/-- The reason of a NACK. -/
def FlumeHdr.reason (h : FlumeHdr) : Nat := h.aux / 2 ^ 24 % 256

/-- NACK_RX: the message fails finally (R93, R107). -/
def rxNack (dg : Datagram) (s : State) : State :=
  (match s.front dg with
  | .done t => t
  | .pass t h _ _ =>
    if h.opcode = opNack then
      if !h.resp then t.badOpcode dg h
      else match t.msgById? h.srcPeer h.msgId with
        | some m => (t.raise 0x106).finishMsg m .nack h.reason
        | none => t
    else s.otherOpcode t dg h)

/-- BUSY_RX: the message is held for the hold time, at least 1 µs (R90, R94, R107). -/
def execBusyRx (dg : Datagram) (s : State) : Result :=
  .next (s.inStep (fun s => match s.front dg with
  | .done t => t
  | .pass t h _ _ =>
    if h.opcode = opBusy then
      if !h.resp then t.badOpcode dg h
      else match t.msgById? h.srcPeer h.msgId with
        | some m => t.setMsg { m with st := .held, holdUntilUs := t.nowUs + max 1 (h.aux % 2 ^ 24) }
        | none => t
    else s.otherOpcode t dg h))

/-- PROBE_RX: answered with an ACK that carries TS_ECHO and a SACK with CUM 1, BASE 1 and an empty map (R106). -/
def execProbeRx (dg : Datagram) (s : State) : Result :=
  .next (s.inStep (fun s => match s.front dg with
  | .done t => t
  | .pass t h es _ =>
    if h.opcode = opProbe then
      if h.resp then t
      else match t.outcome? h.srcPeer h.msgId with
        | some e => t.fromTable dg h e
        | none =>
          if h.msgLen ≠ 0 ∨ h.payloadLen ≠ 0 then t.nack dg h .badLen
          else if badSize h es then t.nack dg h .badSize
          else
            let t := (t.answerFlow dg h.srcPeer).1
            t.sendCtl ⟨h.srcPeer, h.msgId, opAck, false, 0, 0, some (1, 1, 0), some (h.txCookie, t.dev.timeNs), t.clsOf dg⟩
    else s.otherOpcode t dg h))

/-! ## Timers (R116): each fires only when it is due -/

/-- SLOT_EXPIRY: a filling message fails; one that waits for its fence completes (R98, R101). -/
def execSlotExpiry (peer msgId : Nat) (s : State) : Result :=
  .next (s.inStep (fun s => match s.slot? peer msgId with
  | none => s
  | some x =>
    if x.expiryUs ≤ s.nowUs then
      match x.st with
      | .filling =>
        (((((s.slotGone x).returnBuf x).putExpired peer msgId).bump F.FLM_RX_EXPIRED.COUNT).raise 0x108).ended peer msgId
      | .fenceWait => (s.completeSlot x).ended peer msgId
    else s))

/-- TABLE_ENTRY_EXPIRY. -/
def execTableEntryExpiry (peer msgId : Nat) (s : State) : Result :=
  .next (s.inStep (fun s => { s with flm := { s.flm with
    rmt := s.flm.rmt.filter (fun e => !(e.peer == peer && e.msgId == msgId && decide (e.expiryUs ≤ s.nowUs))) } }))

/-- ACK_DELAY_EXPIRY. -/
def execAckDelayExpiry (peer msgId : Nat) (s : State) : Result :=
  .next (match s.slot? peer msgId with
  | none => s
  | some x =>
    match x.firstUnacked with
    | none => s
    | some t => if t + s.ackDelayNs ≤ s.dev.timeNs then s.ackSlot x else s)

/-- A packet's timer has passed, as step ticks show it (R108, R116). -/
def State.timerDue (s : State) (f : Flow) (p : PktTx) : Bool :=
  decide (((p.sentUs * 1000 : Nat) : Rat) + s.timerNs f p.attempt ≤ ((s.nowUs * 1000 : Nat) : Rat))

/-- RETRANSMIT_TIMER_EXPIRY: a packet not held is lost and sent again on another path; when every packet is held and no COMPLETE has come the
last packet is sent again with SOLICIT (R107, R109, R111). -/
def timerExpiry (msg pkt : Nat) (s : State) : State :=
  (match s.msg? msg with
  | none => s
  | some m =>
    match m.pkt? pkt, s.flow? m.dst with
    | some p, some f =>
      if m.st = .active ∧ m.opcode ≠ opProbe ∧ p.sent ∧ p.retx = false ∧ s.timerDue f p then
        if !p.held then s.losePkt m p
        else if m.pkts.all (·.held) ∧ p.index + 1 = m.pkts.length then s.askRetx m p
        else s
      else s
    | _, _ => s)

/-- BUSY_HOLD_EXPIRY: every packet sent and not held is sent again as a new attempt (R94, R107). -/
def holdExpiry (msg : Nat) (s : State) : State :=
  (match s.msg? msg with
  | none => s
  | some m =>
    if m.st = .held ∧ m.holdUntilUs ≤ s.nowUs then
      let s := s.setMsg { m with st := .active }
      let s := (m.pkts.filter (fun p => p.sent && !p.held)).foldl (fun (s : State) (p : PktTx) =>
        match s.msg? msg with
        | some m => s.askRetx m p
        | none => s) s
      s.pump m.dst
    else s)

/-- MESSAGE_DEADLINE (R110). -/
def deadline (msg : Nat) (s : State) : State :=
  (match s.msg? msg with
  | none => s
  | some m => if m.st ≠ .queued ∧ m.opcode ≠ opProbe ∧ s.txDeadline m ≤ s.nowUs then s.timeoutMsg m else s)

/-- PROBE_INTERVAL: a PROBE with SOLICIT on a SUSPECT or DOWN path (R113); it consumes a message ID (R91). -/
def execProbeInterval (peer path : Nat) (s : State) : Result :=
  .next (match s.flow? peer with
  | none => s
  | some f =>
    let x := f.path path
    let every := if x.st = .suspect then s.probeSuspectUs else s.probeDownUs
    if path < f.paths.length ∧ x.st ≠ .up ∧ x.lastProbeUs + every ≤ s.nowUs ∧ s.currentEpoch.isSome then
      let s := s.setFlow (f.setPath path { x with lastProbeUs := s.nowUs })
      let m : Msg := {
        key := s.flm.orderCtr, id := s.flm.msgCtr, dst := peer, opcode := opProbe, len := 0, sizeCode := 0,
        window := 0, winOffset := 0, aux := 0, notify := false, fence := none, solicit := true, src := .bytes [],
        use := .probe path, side := .own, desc := none, faulted := false, got := [], st := .active, t0Us := s.nowUs,
        pkts := freshPkts 1, holdUntilUs := 0, tag := none, cls := (Config.openClass (65536 + path)).toNat }
      let s := { s with flm := { s.flm with
        msgs := s.flm.msgs ++ [m], orderCtr := s.flm.orderCtr + 1, msgCtr := (s.flm.msgCtr + 1) % 2 ^ 48 } }
      s.transmit m 0 0 path true
    else s)

/-- PROBE_UNANSWERED: no ACK within the RTO; DOWN_PROBES consecutive ones make a SUSPECT path DOWN (R113). -/
def execProbeUnanswered (msg : Nat) (s : State) : Result :=
  .next (match s.msg? msg with
  | none => s
  | some m =>
    match m.use, m.pkt? 0, s.flow? m.dst with
    | .probe p, some k, some f =>
      if s.timerDue f { k with attempt := 0 } then
        let s := { s with flm := { s.flm with msgs := s.flm.msgs.filter (fun x => x.key != msg) } }
        let x := f.path p
        let n := x.unanswered + 1
        s.pathTo f p (if x.st = .suspect ∧ s.downProbes ≤ n then
            { x with st := .down, answered := 0, unanswered := n } else { x with answered := 0, unanswered := n })
      else s
    | _, _, _ => s)

end Sys2Proof.Machine
end

