-- ==== Sys2Proof/Machine/FlumeQ.lean ====
section
/-!
DEFINITION. Machine/FlumeQ.lean: window commits (R125 to R127), work queues and their descriptors (R130 to R136), chain counters (R133, R134, R591), read
tags (R129), the flow cache's waiting list (R145), the address table (R361, R591) and epoch transitions (R142).
-/
namespace Sys2Proof.Machine

/-! ## Window commits (R125) -/

/-- The shadow half as the staging registers hold it. -/
def State.stagedHalf (s : State) : WinHalf :=
  ⟨s.get F.FLM_WIN_STAGE_BASE.BASE, s.get F.FLM_WIN_STAGE_LEN.LENGTH, s.get F.FLM_WIN_STAGE_SCOPE.SCOPE,
    s.get F.FLM_WIN_STAGE_ATTR.ASID, s.get F.FLM_WIN_STAGE_ATTR.RIGHTS⟩

/-- Reports the result of a request. -/
def State.winResult (s : State) (index result : Nat) : State :=
  ((s.set F.FLM_WIN_RESULT.RESULT result).set F.FLM_WIN_RESULT.INDEX index).raise 0x141

/-- Slots that name a generation of a window: its OLD_REFS after a commit. -/
def State.winRefs (s : State) (index gen : Nat) : Nat :=
  (s.flm.slots.filter (fun x =>
    x.hdr.opcode == opWrite && winIndex x.hdr.window == index && winGen x.hdr.window == gen)).length

/-- A commit request: refused for the first condition that holds, else in progress until the next step tick. -/
def State.winCommit (index gen : Nat) (staged : Bool) (shadow : WinHalf) (s : State) : State :=
  let w := s.win index
  let half := if staged then s.stagedHalf else shadow
  if s.flag F.FLM_WIN_RESULT.BUSY then s.winResult index 2
  else if gen ≠ (w.gen + 1) % 256 then s.winResult index 3
  else if w.draining then s.winResult index 4
  else if w.lastCommitUs ≠ 0 ∧ s.nowUs < w.lastCommitUs + (s.lmaxUs + 254) / 255 then s.winResult index 5
  else
    let s := s.setWin index { w with shadow := half }
    if 2 ^ 40 < half.len ∨ 8 ≤ half.rights then s.winResult index 6
    else
      ((s.setFlag F.FLM_WIN_RESULT.BUSY true).set F.FLM_WIN_RESULT.INDEX index |> fun s =>
        { s with flm := { s.flm with winPending := some (index, gen, s.nowUs) } })

/-- FLM_WIN_COMMIT. `shadow` is the shadow half as firmware has written it in HBM. -/
def execFlmWinCommit (src : Src) (index gen : Nat) (staged : Bool) (shadow : WinHalf) (s : State) : Result :=
  .next (s.busWrite src (F.FLM_WIN_COMMIT.GEN.at 0 0) (fun s =>
    s.stepWrite src (.winCommit index gen staged shadow) (State.winCommit index gen staged shadow)))

/-- WINDOW_COMMIT_APPLY: at the step tick after the request, as one action (R125, R126). -/
def execWindowCommitApply (s : State) : Result :=
  .next (s.inStep (fun s => match s.flm.winPending with
  | none => s
  | some (index, gen, at_) =>
    if at_ < s.nowUs then
      let w := s.win index
      let refs := s.winRefs index w.gen
      let s := s.setWin index { w with
        live := w.shadow, oldGen := w.gen, gen := gen, lastCommitUs := s.nowUs, oldRefs := refs,
        draining := refs != 0 }
      let s := { s with flm := { s.flm with winPending := none } }
      (s.setFlag F.FLM_WIN_RESULT.BUSY false).winResult index 1
    else s))

/-- READ_FILTER_EXPIRY (R124). -/
def execReadFilterExpiry (peer msgId : Nat) (s : State) : Result :=
  .next (s.inStep (fun s => { s with flm := { s.flm with
    filter := s.flm.filter.filter (fun f => !(f.peer == peer && f.msgId == msgId && decide (f.expiryUs ≤ s.nowUs))) } }))

/-! ## Work queues (R130) -/

/-- SENDs that are arriving at a queue when it leaves the open state will fail; with `drop`, their buffers are let go (R130). -/
def State.doomSends (s : State) (wq : Nat) (drop : Bool) : State :=
  { s with flm := { s.flm with
    slots := s.flm.slots.map (fun (x : Slot) =>
      if x.hdr.opcode = opSend ∧ x.wq = wq then
        { x with doomed := true, buf := if drop then none else x.buf }
      else x) } }

/-- Opens a closed queue, unless a ring size lies outside its range. -/
def State.openWq (wq : Nat) (c : WqCtx) (s : State) : State :=
  let w := s.wq wq
  if w.st = .closed ∧ 4 ≤ c.sqLog2 ∧ c.sqLog2 ≤ 12 ∧ 4 ≤ c.cqLog2 ∧ c.cqLog2 ≤ 14 then
    s.setWq wq { w with st := .open_, ctx := c }
  else s

/-- Closes a queue: the device keeps no hold on its buffers. -/
def State.closeWq (wq : Nat) (s : State) : State :=
  let w := s.wq wq
  (s.doomSends wq true).setWq wq { w with st := .closed, returned := [], waiting := none, pausedMsg := none }

/-- Resets a queue to closed with indices 0. -/
def State.resetWq (wq : Nat) (s : State) : State := (s.doomSends wq true).setWq wq wqClosed

/-- A new send ring tail. -/
def State.ringSq (wq tail cqHead : Nat) (s : State) : State :=
  let w := s.wq wq
  s.setWq wq { w with sqTail := tail % 65536, ctx := { w.ctx with cqHead := cqHead } }

/-- Posts receive buffers up to a new tail. -/
def State.ringRq (wq tail cqHead : Nat) (bufs : List RxBuf) (s : State) : State :=
  let w := s.wq wq
  let n := (tail + 65536 - w.rqTail) % 65536
  s.setWq wq { w with
    rqTail := tail % 65536, posted := w.posted ++ bufs.take n, ctx := { w.ctx with cqHead := cqHead } }

def execWqOpen (src : Src) (wq : Nat) (ctx : WqCtx) (s : State) : Result :=
  .next (s.busWrite src (F.FLM_WQ_CTL.WQ.at 0 0) (fun s => s.stepWrite src (.wqOpen wq ctx) (State.openWq wq ctx)))

def execWqClose (src : Src) (wq : Nat) (s : State) : Result :=
  .next (s.busWrite src (F.FLM_WQ_CTL.WQ.at 0 0) (fun s => s.stepWrite src (.wqClose wq) (State.closeWq wq)))

def execWqReset (src : Src) (wq : Nat) (s : State) : Result :=
  .next (s.busWrite src (F.FLM_WQ_CTL.WQ.at 0 0) (fun s => s.stepWrite src (.wqReset wq) (State.resetWq wq)))

/-- WQ_DOORBELL; `cqHead` is the CQ_HEAD that software has written in the context by then. -/
def execWqDoorbell (src : Src) (wq tail cqHead : Nat) (s : State) : Result :=
  .next (s.busWrite src (F.FLM_WQ_DOORBELL.WQ.at 0 0) (fun s =>
    s.stepWrite src (.wqDoorbell wq tail cqHead) (State.ringSq wq tail cqHead)))

/-- RQ_DOORBELL; `bufs` are the receive ring's entries from the old tail on. -/
def execRqDoorbell (src : Src) (wq tail cqHead : Nat) (bufs : List RxBuf) (s : State) : Result :=
  .next (s.busWrite src (F.FLM_RQ_DOORBELL.WQ.at 0 0) (fun s =>
    s.stepWrite src (.rqDoorbell wq tail cqHead bufs) (State.ringRq wq tail cqHead bufs)))

/-- A work queue that tenant code of a cluster may ring (R466, R468). -/
def State.tenantWq (s : State) (cluster wq : Nat) : Bool :=
  let base := s.cfg 0x00B0 cluster 16 2 0
  decide (base ≤ wq) && decide (wq < base + s.cfg 0x00B0 cluster 18 2 0)

/-- KVQ.RING: the effect of a write to a doorbell register (R469). Tenant code's doorbells reach step state as MGMT inputs (R317). -/
def execKvqRing (engine : Nat) (mode : Mode) (rs1 rs2 : Word) (cqHead : Nat) (bufs : List RxBuf) (s : State) : Result :=
  let wq := rs1.toNat % 65536
  let tail := rs2.toNat % 65536
  .next (if s.tenantRuns engine mode && !s.tenantWq (clusterOf engine) wq then s.kvqIllegal engine
  else
    let src : Src := if s.tenantRuns engine mode then .svc else .engine engine
    if bitOf rs1.toNat 16 then s.stepWrite src (.rqDoorbell wq tail cqHead bufs) (State.ringRq wq tail cqHead bufs)
    else s.stepWrite src (.wqDoorbell wq tail cqHead) (State.ringSq wq tail cqHead))

/-! ## Descriptors (R131 to R136) -/

def descSendOp : Nat := 0x01
def descWriteOp : Nat := 0x02
def descReadOp : Nat := 0x03
def descWaitOp : Nat := 0x30
def descNopOp : Nat := 0x31

def knownDesc (o : Nat) : Bool :=
  o == descSendOp || o == descWriteOp || o == descReadOp || o == descWaitOp || o == descNopOp

/-- The queue starts its next descriptor now: open, none waiting, the ring not empty. -/
def Wq.canStart (w : Wq) : Bool := w.st = .open_ && w.waiting.isNone && w.sqHead != w.sqTail

/-- The ring index of the descriptor at the head. -/
def Wq.headIndex (w : Wq) : Nat := w.sqHead % 2 ^ w.ctx.sqLog2

/-- The head descriptor has been started. -/
def State.tookDesc (s : State) (wq : Nat) : State :=
  let w := s.wq wq
  s.setWq wq { w with sqHead := (w.sqHead + 1) % 65536, waiting := none }

/-- Every descriptor not yet started completes with FLUSHED. -/
def State.flushDescs (wq : Nat) : List SendDesc → State → State
  | [], s => s
  | d :: rest, s =>
    if (s.wq wq).sqHead = (s.wq wq).sqTail then s
    else State.flushDescs wq rest ((s.completeDesc wq (s.wq wq).headIndex d .flushed 0 0 0).tookDesc wq)

/-- The queue enters error (R136); `rest` are the descriptors of the ring not yet started. -/
def State.errorWq (s : State) (wq : Nat) (rest : List SendDesc) : State :=
  let w := s.wq wq
  let s := ((s.doomSends wq false).setWq wq { w with st := .error, waiting := none }).raise 0x143
  State.flushDescs wq rest s

/-- The IDs outstanding for fence purposes toward a peer (R132): in flight, or failed by deadline less than LMAX_US after first
transmission. -/
def State.fenceIds (s : State) (dst : Nat) : List Nat :=
  (s.flm.msgs.filter (fun m => m.st ≠ .queued && m.dst == dst && m.opcode != opProbe)).map (·.id)
  ++ (s.flm.ghosts.filter (fun g => g.dst == dst && decide (s.nowUs < g.untilUs))).map (·.id)


/-- Forms the message of a SEND, WRITE or READ descriptor and gives it to the sender. -/
def State.startMsg (s : State) (wq : Nat) (d : SendDesc) (ip : IpAddr) (src : MsgSrc) (tag : Option Nat) : State :=
  let idx := (s.wq wq).headIndex
  let key := s.flm.orderCtr
  let gen := match tag with | some i => (sparseGet (⟨0, none⟩ : RdTag) i s.flm.rdTags).gen | none => 0
  let s := match tag with
    | some i => s.holdTag i key
    | none => s
  let m : Msg := {
    key := key, id := 0, dst := d.dstPeer, opcode := d.op, len := d.len, sizeCode := s.ownSizeCode,
    window := if d.op = descSendOp then 0 else d.window, winOffset := if d.op = descSendOp then 0 else d.winOffset,
    aux := match tag with
      | some i => gen * 2 ^ 24 + i
      | none => if d.op = descSendOp ∨ d.notify then d.remoteWq else 0,
    notify := d.op == descWriteOp && d.notify, fence := if d.fence then some (s.fenceIds d.dstPeer) else none,
    solicit := d.solicit, src := src, use := .desc wq idx, side := .numbering, desc := some d, faulted := false, got := [],
    st := .queued, t0Us := 0, pkts := [], holdUntilUs := 0, tag := tag, cls := (Config.openClass wq).toNat }
  (s.tookDesc wq).submit m ip

/-- A descriptor waits at the head of its queue. -/
def State.waitDesc (s : State) (wq : Nat) (d : SendDesc) (r : DescWait) : State :=
  s.setWq wq { s.wq wq with waiting := some (d, r) }

/-- The head descriptor completes at once. -/
def State.endDesc (s : State) (wq : Nat) (d : SendDesc) (st : DescStatus) : State :=
  (s.completeDesc wq (s.wq wq).headIndex d st 0 0 0).tookDesc wq

/-- Starts a SEND, WRITE or READ: fence limit first, then the read tag. -/
def State.startData (s : State) (wq : Nat) (d : SendDesc) (ip : IpAddr) (src : MsgSrc) : State :=
  if d.fence && decide (32 < (s.fenceIds d.dstPeer).length) then s.waitDesc wq d .fence
  else if d.op = descReadOp then
    match s.freeTag with
    | some i => s.startMsg wq d ip src (some i)
    | none => s.waitDesc wq d .tag
  else s.startMsg wq d ip src none

/-- A WAIT as it starts or waits (R134). -/
def State.tryWait (s : State) (wq : Nat) (d : SendDesc) (rest : List SendDesc) : State :=
  if s.chainFaulted d.counter then (s.endDesc wq d .chainFault).errorWq wq rest
  else if d.count ≤ s.chain d.counter then
    (s.setChain d.counter (s.chain d.counter - d.count)).endDesc wq d .success
  else s.waitDesc wq d .chain

/-- Starts the descriptor at the head of a queue when it is of the row's operation or of none (R131). -/
def State.startDesc (s : State) (wq op : Nat) (d : SendDesc) (ip : IpAddr) (spans : List (Nat × Nat))
    (rest : List SendDesc) : State :=
  if !(s.wq wq).canStart || (d.op != op && knownDesc d.op) then s
  else if !knownDesc d.op || d.rsvdSet || decide (16777216 < d.len) then (s.endDesc wq d .badDesc).errorWq wq rest
  else if d.op = descNopOp then s.endDesc wq d .success
  else if d.op = descWaitOp then s.tryWait wq d rest
  else if !s.hasPeer then s.endDesc wq d .noPeer
  else if s.currentEpoch.isNone then (s.endDesc wq d .noKey).raise 0x146
  else s.startData wq d ip (.segs spans)

/-- DESC_SEND; `rest` are the descriptors after it in the ring, `spans` where its buffer is translated so far, `ip` its destination's
address. -/
def execDescSend (wq : Nat) (d : SendDesc) (ip : IpAddr) (spans : List (Nat × Nat)) (rest : List SendDesc) (s : State) :
    Result :=
  .next (s.inStep (fun s => s.startDesc wq descSendOp d ip spans rest))

def execDescWrite (wq : Nat) (d : SendDesc) (ip : IpAddr) (spans : List (Nat × Nat)) (rest : List SendDesc) (s : State) :
    Result :=
  .next (s.inStep (fun s => s.startDesc wq descWriteOp d ip spans rest))

def execDescRead (wq : Nat) (d : SendDesc) (ip : IpAddr) (rest : List SendDesc) (s : State) : Result :=
  .next (s.inStep (fun s => s.startDesc wq descReadOp d ip [] rest))

def execDescWait (wq : Nat) (d : SendDesc) (rest : List SendDesc) (s : State) : Result :=
  .next (s.inStep (fun s => s.startDesc wq descWaitOp d ⟨false, 0⟩ [] rest))

def execDescNop (wq : Nat) (d : SendDesc) (rest : List SendDesc) (s : State) : Result :=
  .next (s.inStep (fun s => s.startDesc wq descNopOp d ⟨false, 0⟩ [] rest))

/-- WAIT_SATISFIED (R134). -/
def execWaitSatisfied (wq : Nat) (rest : List SendDesc) (s : State) : Result :=
  .next (s.inStep (fun s => match (s.wq wq).waiting with
  | some (d, .chain) => if (s.wq wq).st = .open_ then s.tryWait wq d rest else s
  | _ => s))

/-- FENCE_LIMIT_RELEASE: no more than 32 messages are outstanding (R132). -/
def execFenceLimitRelease (wq : Nat) (ip : IpAddr) (spans : List (Nat × Nat)) (s : State) : Result :=
  .next (s.inStep (fun s => match (s.wq wq).waiting with
  | some (d, .fence) =>
    if (s.wq wq).st = .open_ ∧ (s.fenceIds d.dstPeer).length ≤ 32 then s.startData wq d ip (.segs spans) else s
  | _ => s))

/-- READ_TAG_FREE (R129). -/
def execReadTagFree (wq : Nat) (ip : IpAddr) (s : State) : Result :=
  .next (s.inStep (fun s => match (s.wq wq).waiting with
  | some (d, .tag) =>
    if (s.wq wq).st = .open_ ∧ s.freeTag.isSome then s.startData wq d ip (.segs []) else s
  | _ => s))

/-- FLOW_CACHE_ADMIT: a waiting destination enters once an entry can be taken (R145). -/
def execFlowCacheAdmit (peer : Nat) (s : State) : Result :=
  .next (match s.fx.cacheWait.find? (fun c => c.1 == peer) with
  | none => s
  | some (_, ip) =>
    if s.fx.flows.length < flowLimit ∨ s.lruFlow.isSome then
      let s := { s with fx := { s.fx with cacheWait := s.fx.cacheWait.filter (fun c => c.1 != peer) } }
      (s.enterFlow peer ip (s.firstLocal ip.v6)).1.pump peer
    else s)

/-- WQ_FAULT_RESOLVED: the paused queue's message goes on from its faulting granule (R136). -/
def execWqFaultResolved (wq : Nat) (spans : List (Nat × Nat)) (s : State) : Result :=
  let w := s.wq wq
  .next (s.inStep (fun s => match w.st, w.pausedMsg with
  | .paused, some key =>
    let s := s.setWq wq { w with st := .open_, pausedMsg := none }
    let s := { s with flm := { s.flm with
      msgs := s.flm.msgs.map (fun (m : Msg) =>
        match m.use, m.src with
        | .desc q _, .segs ss =>
          if q = wq ∧ m.opcode ≠ opRead then
            { m with faulted := false, src := .segs (if m.key = key then ss ++ spans else ss) }
          else m
        | _, _ => m) } }
    match s.msg? key with
    | some m => s.pump m.dst
    | none => s
  | _, _ => s))

/-! ## Apertures (R591) -/

/-- CHAIN_COUNTER_WRITE: the write of a counter's high word sets VALUE and FAULT. -/
def execChainCounterWrite (src : Src) (index value : Nat) (fault : Bool) (s : State) : Result :=
  let v := value % 2 ^ 32 + (if fault then chainFaultBit else 0)
  .next (s.busWrite src (0x1000000 + 8 * (index % 65536)) (fun s =>
    s.stepWrite src (.chainWrite (index % 65536) value fault) (fun s => s.setChain (index % 65536) v)))

/-- Sets an address entry, with the family its place gives, and lets every flow select again where it must (R361, R589). -/
def State.setAddr (entry : Nat) (a : Option IpAddr) (s : State) : State :=
  let a := a.map (fun (x : IpAddr) => ({ x with v6 := decide (4 ≤ entry % 8) } : IpAddr))
  ({ s with fx := { s.fx with addrTable := sparsePut none entry a s.fx.addrTable } }).reselectAll

/-- ADDRESS_TABLE_WRITE. -/
def execAddressTableWrite (src : Src) (entry : Nat) (addr : Option IpAddr) (s : State) : Result :=
  .next (s.busWrite src (0x1080000 + 32 * (entry % 512)) (fun s =>
    s.stepWrite src (.addrWrite (entry % 512) addr) (State.setAddr (entry % 512) addr)))

/-! ## Epochs (R142, R143) -/

/-- EPOCH_TRANSITION: a committed transition takes effect and raises EPOCH_CHANGE; TX_BLOCKED clears when an epoch installed since becomes
CURRENT (R143); what waited for a key is sent. -/
def execEpochTransition (s : State) : Result :=
  .next (s.inStep (fun s => match s.flm.epochNext with
  | none => s
  | some next =>
    let was := s.flm.epochs.find? (fun k => k.state = .current)
    let now := next.find? (fun k => k.state = .current)
    let fresh := match now with
      | some k => !s.flm.blocked.contains k.epoch
      | none => false
    let switched := (was.map (·.epoch)) ≠ (now.map (·.epoch))
    let s := { s with flm := { s.flm with
      epochs := next, epochNext := none,
      switchUs := if switched then s.nowUs else s.flm.switchUs,
      blocked := if fresh then [] else s.flm.blocked } }
    let s := if fresh then s.setFlag F.FLM_EPOCH_STATE.TX_BLOCKED false else s
    let s := s.raise 0x145
    (s.fx.flows.map (·.peer)).foldl State.pump s))

end Sys2Proof.Machine
end

