-- ==== Sys2Proof/Machine/Layout.lean ====
section
/-!
DEFINITION. Machine/Layout.lean: the arithmetic of chapter 07 on a Brand's content: dimensions (R231), placement (R233 to R235), locator (R236),
parity over GF(2^8) (R238 to R241), spare targets (R243), and the check field's guards (R173).
-/
namespace Sys2Proof.Machine

/-! ## Dimensions (R230, R231) -/

/-- Stripe width W = K + 2. -/
def Brand.w (b : Brand) : Nat := b.k + 2

/-- Chunk size in blocks. -/
def Brand.c (b : Brand) : Nat := b.chunkKib / 4

/-- Chunk slots per member per cycle for data and parity, for spare, and in all. -/
def Brand.u (b : Brand) : Nat := b.rows * b.w / b.members
def Brand.v (b : Brand) : Nat := b.spare * b.u / (b.members - b.spare)
def Brand.t (b : Brand) : Nat := b.u + b.v

/-- First data LBA of a member. -/
def Brand.dataStart (b : Brand) : Nat := 2048 + (b.vaultMib + b.metaMib) * 256
def Brand.cycles (b : Brand) : Nat := (b.memberBlocks - b.dataStart) / (b.t * b.c)
def Brand.stripes (b : Brand) : Nat := b.cycles * b.rows

/-- Data blocks of one stripe. -/
def Brand.stripeBlocks (b : Brand) : Nat := b.k * b.c
def Brand.capacity (b : Brand) : Nat := b.stripes * b.stripeBlocks

/-! ## Placement (R233 to R236) -/

/-- The member that holds column j in row r. -/
def Brand.at (b : Brand) (r j : Nat) : Nat := b.table.getD (r * b.w + j) 0

/-- The members of a row. -/
def Brand.row (b : Brand) (r : Nat) : List Nat := (b.table.drop (r * b.w)).take b.w

/-- occ(r, m): rows before r that name m. -/
def Brand.occ (b : Brand) (r m : Nat) : Nat := ((List.range r).filter (fun i => (b.row i).contains m)).length

/-- The rotation table of a banded group (R234). -/
def rotationTable (w : Nat) : List Nat :=
  (List.range (w * w)).map (fun i => (i % w + i / w) % w)

/-- A group data block's stripe, column and offset (R235). -/
structure BlockPlace where
  stripe : Nat
  col : Nat
  off : Nat
  deriving DecidableEq, Repr

/-- map_block of R235, to the column. -/
def Brand.mapBlock (b : Brand) (blk : Nat) : BlockPlace :=
  ⟨blk / b.stripeBlocks, blk % b.stripeBlocks / b.c, blk % b.c⟩

/-- The member that holds column j of stripe s. -/
def Brand.memberOf (b : Brand) (s j : Nat) : Nat := b.at (s % b.rows) j

/-- Member LBA of offset o of column j of stripe s, on its own member (R235). -/
def Brand.lbaOf (b : Brand) (s j o : Nat) : Nat :=
  let r := s % b.rows
  b.dataStart + (s / b.rows * b.t + b.occ r (b.at r j)) * b.c + o

/-- LOCATOR of a block in the data area (R236). -/
def locator (s j o : Nat) : Nat := s * 2048 + j * 64 + o

/-- LOCATOR of a block outside the data area (R236). -/
def noLocator : Nat := 0xFFFFFFFFFFFF

/-! ## Spare targets (R243) -/

/-- What the walk of R243 carries: spare slots used per member, members down, and the target of each (row, member). -/
structure SpareWalk where
  used : List Nat
  down : List Nat
  target : List ((Nat × Nat) × (Nat × Nat))
  deriving DecidableEq, Repr

/-- One chunk is given the first candidate from member r on; none when there is no candidate. -/
def Brand.spareOne (b : Brand) (w : SpareWalk) (rm : Nat × Nat) : Option SpareWalk :=
  let row := b.row rm.1
  let cand := ((List.range b.members).map (fun d => (rm.1 + d) % b.members)).find? (fun c =>
    !row.contains c && !w.down.contains c && decide (w.used.getD c 0 < b.v))
  match cand with
  | none => none
  | some c =>
    some { w with
      used := w.used.set c (w.used.getD c 0 + 1),
      target := w.target.filter (fun t => t.1 != rm) ++ [(rm, (c, w.used.getD c 0))] }

/-- Inserts a (row, member) pair in rising order. -/
def insertPair (x : Nat × Nat) : List (Nat × Nat) → List (Nat × Nat)
  | [] => [x]
  | y :: rest => if x.1 < y.1 ∨ (x.1 = y.1 ∧ x.2 < y.2) then x :: y :: rest else y :: insertPair x rest

/-- One failed member of the spare log. -/
def Brand.spareFail (b : Brand) (w : SpareWalk) (f : Nat) : Option SpareWalk :=
  let w := { w with down := w.down ++ [f] }
  let moved := ((w.target.filter (fun t => t.2.1 == f)).map (·.1)).foldl (fun l x => insertPair x l) []
  let own := ((List.range b.rows).filter (fun r => (b.row r).contains f)).map (fun r => (r, f))
  (moved ++ own).foldl (fun (o : Option SpareWalk) rm => o.bind (fun w => b.spareOne w rm)) (some w)

/-- spare_targets of R243 over a log, RELEASED entries included. -/
def Brand.spareTargets (b : Brand) (log : List Nat) : Option (List ((Nat × Nat) × (Nat × Nat))) :=
  (log.foldl (fun (o : Option SpareWalk) f => o.bind (fun w => b.spareFail w f))
    (some ⟨List.replicate b.members 0, [], []⟩)).map (·.target)

/-- Member and LBA of offset o of column j of stripe s in spare, when its member has a target (R243). -/
def Brand.spareOf (b : Brand) (s j o : Nat) : Option (Nat × Nat) :=
  let r := s % b.rows
  match b.spareTargets (b.log.map (·.1)) with
  | none => none
  | some ts =>
    (ts.find? (fun t => t.1 == (r, b.at r j))).map (fun t =>
      (t.2.1, b.dataStart + (s / b.rows * b.t + b.u + t.2.2) * b.c + o))

/-! ## Member states (R247) -/

def mUnused : Nat := 0
def mNormal : Nat := 1
def mFailed : Nat := 2
def mRebuilding : Nat := 3
def mSpared : Nat := 4

def memberEnt0 : MemberEnt := ⟨0, 0, 0, 0, 0, 0, []⟩

def Brand.member (b : Brand) (m : Nat) : MemberEnt := b.memberTab.getD m memberEnt0

def Brand.mState (b : Brand) (m : Nat) : Nat := (b.member m).state

def Brand.setMember (b : Brand) (m : Nat) (e : MemberEnt) : Brand := { b with memberTab := b.memberTab.set m e }

/-- Members FAILED or REBUILDING. -/
def Brand.missing (b : Brand) : Nat :=
  ((List.range b.members).filter (fun m => b.mState m == mFailed || b.mState m == mRebuilding)).length

/-! ## GF(2^8) (R238 to R240) -/

/-- A byte doubled, reducing by 0x11D. -/
def gfDouble (a : Byte) : Byte := if a.getLsbD 7 then (a <<< 1) ^^^ 0x1D else a <<< 1

/-- gf_mul over the bits of the second factor, from bit i on. -/
def gfMulFrom : Nat → Nat → Byte → Byte → Byte
  | 0, _, _, _ => 0
  | fuel + 1, i, a, b => (if b.getLsbD i then a else 0) ^^^ gfMulFrom fuel (i + 1) (gfDouble a) b

/-- gf_mul of R238. -/
def gfMul (a b : Byte) : Byte := gfMulFrom 8 0 a b

/-- gf_pow2 of R238: g ** i. -/
def gfPow2 : Nat → Byte
  | 0 => 1
  | n + 1 => gfDouble (gfPow2 n)

/-- a ** n. -/
def gfPow (a : Byte) : Nat → Byte
  | 0 => 1
  | n + 1 => gfMul a (gfPow a n)

/-- gf_inv of R238: a ** 254. -/
def gfInv (a : Byte) : Byte := gfPow a 254

/-- Byte by byte. -/
def xorBytes (a b : List Byte) : List Byte := List.zipWith (· ^^^ ·) a b

/-- Every byte multiplied. -/
def scaleBytes (k : Byte) (a : List Byte) : List Byte := a.map (gfMul k)

/-- P of the data columns (R238). -/
def parityP (n : Nat) (ds : List (List Byte)) : List Byte := ds.foldl xorBytes (zeroBytes n)

/-- Q of the data columns (R238). -/
def parityQ (n : Nat) (ds : List (List Byte)) : List Byte :=
  (ds.zipIdx.map (fun d => scaleBytes (gfPow2 d.2) d.1)).foldl xorBytes (zeroBytes n)

/-- P′ of R239. -/
def updateP (p old new : List Byte) : List Byte := xorBytes p (xorBytes old new)

/-- Q′ of R239 for a change of column j. -/
def updateQ (j : Nat) (q old new : List Byte) : List Byte := xorBytes q (scaleBytes (gfPow2 j) (xorBytes old new))

/-- The data columns with zeros in place of the missing ones. -/
def orZero (n : Nat) (ds : List (Option (List Byte))) : List (List Byte) := ds.map (fun d => d.getD (zeroBytes n))

/-- The columns of a stripe at one offset, completed by R240: data columns (none when missing), P and Q (none when missing). None when more is missing
than two parities restore. -/
def reconstruct (n : Nat) (ds : List (Option (List Byte))) (p q : Option (List Byte)) : Option (List (List Byte)) :=
  let gone := (ds.zipIdx.filter (fun d => d.1.isNone)).map (·.2)
  let zs := orZero n ds
  match gone, p, q with
  | [], _, _ => some zs
  | [x], some p, _ => some (zs.set x (xorBytes p (parityP n zs)))
  | [x], none, some q => some (zs.set x (scaleBytes (gfInv (gfPow2 x)) (xorBytes q (parityQ n zs))))
  | [x, y], some p, some q =>
    let pxy := xorBytes p (parityP n zs)
    let qxy := xorBytes q (parityQ n zs)
    let dx := scaleBytes (gfInv (gfPow2 x ^^^ gfPow2 y)) (xorBytes qxy (scaleBytes (gfPow2 y) pxy))
    some ((zs.set x dx).set y (xorBytes pxy dx))
  | _, _, _ => none

/-! ## Guards (R172, R173): CRC-64/NVME and CRC-16 T10-DIF of the NVM Command Set -/

/-- NVMe 64-bit guard CRC. -/
def guard64 (bs : List Byte) : Nat :=
  ((bs.foldl (crcByte (0x9A6C9329AC4BC9B5 : BitVec 64)) (BitVec.allOnes 64)) ^^^ BitVec.allOnes 64).toNat

/-- One bit of the 16-bit guard CRC, most significant bit first. -/
def crc16Bit (c : BitVec 16) : BitVec 16 := if c.getLsbD 15 then (c <<< 1) ^^^ (0x8BB7 : BitVec 16) else c <<< 1

/-- One byte of the 16-bit guard CRC. -/
def crc16Byte (c : BitVec 16) (b : Byte) : BitVec 16 :=
  let c := c ^^^ (b.setWidth 16 <<< 8)
  crc16Bit (crc16Bit (crc16Bit (crc16Bit (crc16Bit (crc16Bit (crc16Bit (crc16Bit c)))))))

/-- The 16-bit guard of format 1. -/
def guard16 (bs : List Byte) : Nat := (bs.foldl crc16Byte (0 : BitVec 16)).toNat

/-- A block with the check field of its place (R173, R236). -/
def blkAt (data : List Byte) (hostTag s j o : Nat) : Blk := ⟨data, ⟨guard64 data, hostTag, locator s j o⟩⟩

/-- A block outside the data area. -/
def blkPlain (data : List Byte) : Blk := ⟨data, ⟨guard64 data, 0, noLocator⟩⟩

/-- 4,096 zero bytes. -/
def zeroBlock : List Byte := zeroBytes 4096

/-- The lost marker (R294). -/
def lostMarker : Blk := blkPlain zeroBlock

/-- The bytes of a check field, little-endian (R173). -/
def Check.bytes (c : Check) : List Byte := leBytes 8 c.guard ++ leBytes 2 c.hostTag ++ leBytes 6 c.locator

/-- A byte string cut into blocks of 4,096 bytes, the last one zero-padded. -/
def toBlocks : Nat → List Byte → List (List Byte)
  | 0, _ => []
  | n + 1, bs => ((bs.take 4096) ++ zeroBytes (4096 - (bs.take 4096).length)) :: toBlocks n (bs.drop 4096)

/-! ## The Lost Stripe Table (R291 to R293) -/

/-- The entry marks this block as lost. -/
def LstEnt.covers (e : LstEnt) (s j o : Nat) : Bool :=
  decide (e.stripe ≤ s) && decide (s < e.stripe + e.stripes) && decide (e.off ≤ o) && decide (o < e.off + e.blocks)
  && e.columns / 2 ^ j % 2 == 1

/-- The block is marked as lost. -/
def Brand.lostAt (b : Brand) (s j o : Nat) : Bool := b.lst.any (fun e => e.covers s j o)

/-- Bits set among the first `n`. -/
def popCount : Nat → Nat → Nat
  | 0, _ => 0
  | n + 1, x => x % 2 + popCount n (x / 2)

/-- Blocks an entry covers. -/
def LstEnt.count (e : LstEnt) : Nat := e.stripes * e.blocks * popCount 32 e.columns

/-- Inserts an entry by stripe. -/
def insertLst (e : LstEnt) : List LstEnt → List LstEnt
  | [] => [e]
  | f :: rest => if e.stripe < f.stripe then e :: f :: rest else f :: insertLst e rest

/-- Two entries merged: the union of stripes, offsets and columns, the lower CAUSE and the earlier STEP (R293). -/
def LstEnt.merge (a b : LstEnt) : LstEnt :=
  let s0 := min a.stripe b.stripe
  let o0 := min a.off b.off
  { stripe := s0, stripes := max (a.stripe + a.stripes) (b.stripe + b.stripes) - s0, off := o0,
    blocks := max (a.off + a.blocks) (b.off + b.blocks) - o0, cause := min a.cause b.cause,
    columns := a.columns ||| b.columns, step := min a.step b.step }

/-- Blocks that merging two entries adds to their cover. -/
def LstEnt.growth (a b : LstEnt) : Nat := (a.merge b).count - a.count - b.count

/-- The index of the adjacent pair whose merged cover adds the fewest blocks. -/
def bestMerge : Nat → List LstEnt → Option (Nat × Nat)
  | i, a :: b :: rest =>
    match bestMerge (i + 1) (b :: rest) with
    | none => some (i, a.growth b)
    | some (k, g) => if a.growth b ≤ g then some (i, a.growth b) else some (k, g)
  | _, _ => none

/-- The table with its best adjacent pair merged. -/
def mergeOnce (l : List LstEnt) : List LstEnt :=
  match bestMerge 0 l with
  | none => l
  | some (i, _) =>
    match l.drop i with
    | a :: b :: rest => l.take i ++ (a.merge b) :: rest
    | _ => l

/-- An entry with one block taken out: the pieces that remain (R292). -/
def LstEnt.without (e : LstEnt) (s j o : Nat) : List LstEnt :=
  if !e.covers s j o then [e]
  else
    let before := { e with stripes := s - e.stripe }
    let after := { e with stripe := s + 1, stripes := e.stripe + e.stripes - (s + 1) }
    let low := { e with stripe := s, stripes := 1, blocks := o - e.off }
    let high := { e with stripe := s, stripes := 1, off := o + 1, blocks := e.off + e.blocks - (o + 1) }
    let mid := { e with stripe := s, stripes := 1, off := o, blocks := 1, columns := e.columns - 2 ^ j }
    [before, low, mid, high, after].filter (fun x => x.stripes != 0 && x.blocks != 0 && x.columns != 0)

end Sys2Proof.Machine
end

