-- ==== Sys2Proof/Machine/BrandFmt.lean ====
section
/-!
DEFINITION. Machine/BrandFmt.lean: the bytes of a Brand copy (R245 to R248), of the Lost Stripe Table (R291), of a map image (R249), of the vault's
header and segments (R270 to R272) and of a Tally entry (R263).
-/
namespace Sys2Proof.Machine

/-- A byte string zero-padded, or cut, to n bytes. -/
def padTo (n : Nat) (bs : List Byte) : List Byte := (bs.take n) ++ zeroBytes (n - bs.length)

/-- 4,096 bytes with a CRC over the bytes before it in the last four. -/
def crcTailed (bs : List Byte) : List Byte :=
  let b := padTo 4092 bs
  b ++ leBytes 4 (crc32c b)

/-! ## The Brand (R245 to R248) -/

/-- The placement table's bytes. -/
def Brand.tableBytes (b : Brand) : List Byte := b.table.map (fun m => BitVec.ofNat 8 m)

/-- The placement hash (R234). -/
def Brand.placementHash (b : Brand) : List Byte := sha384 b.tableBytes

def MemberEnt.bytes (e : MemberEnt) : List Byte :=
  leBytes 16 e.nguid ++ leBytes 8 e.eui ++ leBytes 1 e.state ++ leBytes 1 e.failSeq ++ leBytes 1 e.port ++ zeroBytes 5
    ++ leBytes 8 e.nsze ++ padTo 20 e.serial ++ zeroBytes 4

def BrandNs.bytes (e : BrandNs) : List Byte :=
  leBytes 2 e.sub ++ leBytes 1 e.lbaf ++ leBytes 1 e.flags ++ leBytes 4 e.nsid ++ leBytes 8 e.size ++ leBytes 16 e.nguid
    ++ leBytes 16 e.uuid ++ leBytes 4 e.extents ++ zeroBytes 4 ++ leBytes 8 e.mapOff

/-- A spare log entry: ACTIVE is 1, RELEASED 2 (R247). -/
def logEntryBytes (e : Nat × Bool) : List Byte := leBytes 1 e.1 ++ leBytes 1 (if e.2 then 1 else 2) ++ zeroBytes 14

/-- Blocks 1 to 127. -/
def Brand.bodyBytes (b : Brand) : List Byte :=
  padTo 3072 (b.memberTab.flatMap MemberEnt.bytes) ++ padTo 1024 (b.log.flatMap logEntryBytes)
    ++ padTo (32 * 4096) b.tableBytes ++ padTo (64 * 4096) (b.nsTab.flatMap BrandNs.bytes) ++ zeroBytes (30 * 4096)

/-- Block 0 of the copy of one member (R246). -/
def Brand.headerBytes (b : Brand) (member portGroup : Nat) : List Byte :=
  crcTailed (padTo 0xFF8 (
    asciiBytes "KBRD" ++ leBytes 2 1 ++ leBytes 2 0 ++ leBytes 8 b.seq ++ leBytes 8 b.shelf ++ leBytes 2 b.group
    ++ leBytes 1 member ++ leBytes 1 b.layout ++ leBytes 1 b.k ++ leBytes 1 b.members ++ leBytes 1 b.spare
    ++ leBytes 1 portGroup ++ leBytes 2 b.chunkKib ++ leBytes 2 b.rows ++ leBytes 4 b.vaultMib ++ leBytes 4 b.metaMib
    ++ zeroBytes 4 ++ leBytes 8 b.memberBlocks ++ leBytes 8 b.dataStart ++ leBytes 8 b.stripes
    ++ leBytes 2 b.nsTab.length ++ leBytes 1 b.log.length ++ leBytes 1 (if b.clean then 1 else 0)
    ++ ((List.range 3).flatMap (fun i => leBytes 1 (b.mapMembers.getD i 0xFF))) ++ [0] ++ b.placementHash
    ++ leBytes 4 128 ++ leBytes 4 128 ++ leBytes 8 2048 ++ leBytes 8 (b.vaultMib * 256)
    ++ leBytes 8 (2048 + b.vaultMib * 256) ++ leBytes 8 (b.metaMib * 256))
    ++ leBytes 4 (crc32c b.bodyBytes))

def LstEnt.bytes (e : LstEnt) : List Byte :=
  leBytes 6 e.stripe ++ leBytes 2 e.stripes ++ leBytes 1 e.off ++ leBytes 1 e.blocks ++ leBytes 1 e.cause ++ [0]
    ++ leBytes 4 e.columns ++ leBytes 8 e.step

/-- Blocks covered by all entries. -/
def Brand.lostBlocks (b : Brand) : Nat := (b.lst.map LstEnt.count).sum

/-- Blocks 128 to 255: the Lost Stripe Table (R291). -/
def Brand.lstBytes (b : Brand) : List Byte :=
  let es := b.lst.flatMap LstEnt.bytes
  let head := padTo 60 (asciiBytes "KLST" ++ leBytes 2 1 ++ leBytes 2 0 ++ leBytes 4 b.lst.length
    ++ leBytes 4 (if b.merged then 1 else 0) ++ leBytes 8 b.lostBlocks ++ leBytes 4 (crc32c es))
  padTo 4096 (head ++ leBytes 4 (crc32c head)) ++ padTo (127 * 4096) es

/-- The blocks of a part of a copy: part 0 blocks 1 to 255, part 1 block 0 (R252). -/
def Brand.partBlocks (b : Brand) (part member portGroup : Nat) : List Blk :=
  if part = 0 then (toBlocks 255 (b.bodyBytes ++ b.lstBytes)).map blkPlain
  else [blkPlain (b.headerBytes member portGroup)]

/-- Member LBA of a part of a copy on a drive of `nsze` blocks (R230). -/
def brandLba (copy part nsze : Nat) : Nat := (if copy = 0 then 0 else nsze - 256) + (if part = 0 then 1 else 0)

/-! ## The Tally and the vault (R263, R269 to R272) -/

def TallyEnt.bytes (e : TallyEnt) : List Byte :=
  leBytes 6 e.stripe ++ leBytes 1 e.group ++ leBytes 1 e.kind ++ leBytes 4 e.columns ++ leBytes 4 e.done ++ leBytes 1 e.off
    ++ leBytes 1 e.blocks ++ leBytes 1 (if e.spare then 1 else 0) ++ zeroBytes 5 ++ leBytes 8 e.step

/-- A vault header (R270). -/
def vaultHeader (seq shelf state : Nat) (rewritten short : Bool) (ctrl : List (Nat × Nat)) (segments dirtyBytes step : Nat) :
    List Byte :=
  crcTailed (
    asciiBytes "KVLT" ++ leBytes 2 1 ++ leBytes 2 0 ++ leBytes 8 seq ++ leBytes 8 shelf ++ leBytes 1 state
    ++ leBytes 1 ((if rewritten then 1 else 0) + (if short then 2 else 0))
    ++ (List.range 3).flatMap (fun i => match ctrl[i]? with
        | some c => leBytes 1 c.1 ++ leBytes 1 c.2
        | none => leBytes 2 0xFFFF)
    ++ leBytes 4 segments ++ zeroBytes 4 ++ leBytes 8 dirtyBytes ++ leBytes 8 step)

/-- An entry of a segment header (R271): subsystem, namespace, HOST_TAG, LBA, commit step; VALID is clear for a poisoned block (R485). -/
def segEntry (sub nsid hostTag lba commitStep : Nat) (valid : Bool) : List Byte :=
  leBytes 1 sub ++ leBytes 1 (if valid then 1 else 0) ++ leBytes 2 nsid ++ leBytes 2 hostTag ++ zeroBytes 2 ++ leBytes 8 (lba % 2 ^ 48)
    ++ leBytes 8 commitStep

/-- A segment header block (R271). -/
def segHeader (count copy seq segment : Nat) (entries : List Byte) : List Byte :=
  let head := padTo 60 (asciiBytes "KVSG" ++ leBytes 2 count ++ leBytes 1 copy ++ [0] ++ leBytes 8 seq ++ leBytes 4 segment)
  padTo 4096 (head ++ leBytes 4 (crc32c (head ++ entries)) ++ entries)

/-- The control part: its section table and the sections behind it, each at its byte offset (R272). -/
def controlPart (sections : List (Nat × List Byte)) : List Byte :=
  let table := (sections.foldl (fun (acc : List Byte × Nat) (x : Nat × List Byte) =>
    (acc.1 ++ leBytes 2 x.1 ++ zeroBytes 2 ++ leBytes 4 (crc32c x.2) ++ leBytes 8 acc.2 ++ leBytes 8 x.2.length,
      acc.2 + x.2.length)) ([], 4096)).1
  padTo 4096 table ++ sections.flatMap (·.2)

/-! ## The map image (R249) -/

/-- An extent entry as the map image holds it: DEALLOC is the byte offset of its bitmap (R249). -/
def mapEntryBytes (e : ExtEnt) (bitmapOff : Nat) : List Byte :=
  leBytes 6 e.groupBlock ++ leBytes 1 e.state ++ [0] ++ leBytes 8 (if e.state = 2 then bitmapOff else 0)

/-- A map image of extent entries in order. -/
def mapImage (seq : Nat) (es : List ExtEnt) : List Byte :=
  let first := 4096 + 16 * es.length
  let offs := (es.foldl (fun (acc : List Nat × Nat) (e : ExtEnt) =>
    (acc.1 ++ [acc.2], if e.state = 2 then acc.2 + 2048 else acc.2)) ([], first)).1
  let body := (es.zip offs).flatMap (fun x => mapEntryBytes x.1 x.2)
    ++ (es.filter (fun e => e.state == 2)).flatMap (fun e => leBytes 2048 e.dealloc)
  crcTailed (asciiBytes "KMAP" ++ leBytes 2 1 ++ leBytes 2 0 ++ leBytes 8 seq ++ leBytes 8 (4096 + body.length)
    ++ leBytes 4 (crc32c body)) ++ body

end Sys2Proof.Machine
end

