-- ==== Sys2Proof/Machine/StorageOps.lean ====
section
/-!
DEFINITION. Machine/StorageOps.lean: what the storage rows share: namespaces in force (R153 to R155), extent maps (R202, R203), staging (R206, R217,
R218), groups and members, the Yard (R209, R210), drive tags (R214) and drive commands (R401, R407, R412).
-/
namespace Sys2Proof.Machine

/-! ## Namespaces in force (R153 to R155) -/

/-- A namespace entry (R154). -/
structure NsEnt where
  nsid : Nat
  group : Nat
  lbaf : Nat
  flags : Nat
  size : Nat
  map : Nat
  cls : Nat
  nguid : Nat
  uuid : Nat
  deriving DecidableEq, Repr

/-- Entry i of a subsystem's body. -/
def nsAt (b : List Byte) (i : Nat) : NsEnt :=
  let o := 288 + 64 * i
  ⟨leAt b o 4, leAt b (o + 4) 2, leAt b (o + 6) 1, leAt b (o + 7) 1, leAt b (o + 8) 8, leAt b (o + 16) 4,
    leAt b (o + 20) 1, leAt b (o + 24) 16, leAt b (o + 40) 16⟩

/-- The namespace entries of a body. -/
def nsEntries (b : List Byte) : List NsEnt := (List.range (leAt b 8 2)).map (nsAt b)

/-- The namespaces of a subsystem. -/
def State.nsList (s : State) (sub : Nat) : List NsEnt := ((s.record 0x0070 sub).map nsEntries).getD []

def State.ns? (s : State) (sub nsid : Nat) : Option NsEnt := (s.nsList sub).find? (fun n => n.nsid == nsid)

/-- A host entry (R155): digest, peer, access. -/
structure HostEnt where
  digest : Nat
  peer : Nat
  access : Nat
  deriving DecidableEq, Repr

/-- The host entries of a body. -/
def hostEntries (b : List Byte) : List HostEnt :=
  (List.range (leAt b 10 2)).map (fun i =>
    let o := 288 + 64 * leAt b 8 2 + 32 * i
    ⟨leAt b o 16, leAt b (o + 16) 4, leAt b (o + 20) 4⟩)

def State.hostList (s : State) (sub : Nat) : List HostEnt := ((s.record 0x0070 sub).map hostEntries).getD []

/-- FLAGS of a subsystem. -/
def State.subFlag (s : State) (sub bit : Nat) : Bool := bitOf (s.cfg 0x0070 sub 4 4 0) bit

def NsEnt.halfB (n : NsEnt) : Bool := bitOf n.flags 0
def NsEnt.readOnly (n : NsEnt) : Bool := bitOf n.flags 1

/-- Metadata bytes per block of a format (R172). -/
def metaBytes (lbaf : Nat) : Nat := if lbaf = 1 then 8 else if lbaf = 2 then 16 else 0

/-! ## Extent maps (R202, R203) -/

/-- An extent that nothing has allocated. -/
def ext0 : ExtEnt := ⟨0, 0, 0⟩

def extentSize : Nat := 16384

def extKey (map e : Nat) : Nat := map * 2 ^ 32 + e

/-- The directory entry of a map is VALID (R202). -/
def State.mapValid (s : State) (map : Nat) : Bool := s.cht.dir.any (fun d => d.1 == map)

def State.extent (s : State) (map e : Nat) : ExtEnt := sparseGet ext0 (extKey map e) s.cht.ext

def State.setExtent (s : State) (map e : Nat) (x : ExtEnt) : State :=
  { s with cht := { s.cht with ext := sparsePut ext0 (extKey map e) x s.cht.ext } }

/-- The group data block of a namespace block; none when it reads as deallocated (R203). -/
def State.groupBlock (s : State) (n : NsEnt) (lba : Nat) : Option Nat :=
  let x := s.extent n.map (lba / extentSize)
  let i := lba % extentSize
  if x.state = 0 ∨ (x.state = 2 ∧ bitOf x.dealloc i) then none else some (x.groupBlock + i)

/-- The group data block that a namespace block has or would be written to; none without an extent. -/
def State.homeBlock (s : State) (n : NsEnt) (lba : Nat) : Option Nat :=
  let x := s.extent n.map (lba / extentSize)
  if x.state = 0 then none else some (x.groupBlock + lba % extentSize)

/-- The extents of a block range. -/
def extentsOf (map lba n : Nat) : List (Nat × Nat) :=
  if n = 0 then [] else
  (List.range' (lba / extentSize) ((lba + n - 1) / extentSize + 1 - lba / extentSize)).map (fun e => (map, e))

/-! ## Groups -/

def State.grp? (s : State) (g : Nat) : Option Grp := (s.grps.find? (fun x => x.1 == g)).map (·.2)

def State.setGrp (s : State) (g : Nat) (x : Grp) : State := { s with grps := sparseInsert g x s.grps }

/-- Members missing of the content in force, or offline (R188, R256). -/
def Grp.down (x : Grp) : Bool := x.offline || decide (2 < x.want.missing)

/-- A layout group record of this number is in force. -/
def State.groupInForce (s : State) (g : Nat) : Bool := s.hasRecord 0x0060 g

/-- The group serves commands (R256, R534). -/
def State.groupServes (s : State) (g : Nat) : Bool :=
  match s.grp? g with
  | some x => x.serving && !x.down && s.groupInForce g
  | none => false

/-- The stripe is still to be swept (R284). -/
def Grp.unswept (x : Grp) (stripe : Nat) : Bool :=
  x.verify ≠ .normal && decide (x.swept ≤ stripe) && !x.sweptToo.contains stripe

/-! ## Sides and reachability (R319, R407, R412) -/

/-- The side whose controller issues what a side's outputs name (R319): the other one when this one does not. -/
def State.issuerB (s : State) (o : OutSide) : Bool := if s.issues o then s.sideB else !s.sideB

/-- A side's port n is READY, as the stream has it. -/
def State.portReady (s : State) (sideB : Bool) (n : Nat) : Bool :=
  if sideB = s.sideB then (s.port n).ownReady
  else s.inPair && s.partnerInStep && (s.port n).partnerReady

/-- The side that issues a member command, when the drive is reachable (R412). -/
def State.reachSide (s : State) (sideB : Bool) (n : Nat) : Option Bool :=
  if s.portReady sideB n then some sideB
  else if s.inPair && s.partnerInStep && s.portReady (!sideB) n then some (!sideB)
  else none

/-- The drive port of a member. -/
def Grp.portOf (x : Grp) (m : Nat) : Option Nat := (x.ports.find? (fun p => p.1 == m)).map (·.2)

/-- The member's drive is present and reachable through a controller in step. -/
def State.memberHere (s : State) (x : Grp) (m : Nat) : Bool :=
  match x.portOf m with
  | some p => s.portReady s.sideB p || (s.reachSide s.sideB p).isSome
  | none => false

/-! ## Where a column is read and written (R207, R243, R253) -/

/-- A member and an LBA on it. -/
structure Place where
  member : Nat
  lba : Nat
  deriving DecidableEq, Repr

/-- Where column j of stripe st is read at offset o: the member, recorded NORMAL, or its spare target once it is recorded SPARED, when it is reachable;
none when the column counts as missing (R207, R247, R253). -/
def State.readPlace (s : State) (x : Grp) (st j o : Nat) : Option Place :=
  let b := x.brand
  let m := b.memberOf st j
  let p : Option Place :=
    if b.mState m = mNormal then some ⟨m, b.lbaOf st j o⟩
    else if b.mState m = mSpared then
      (match b.spareOf st j o with
      | some t => if b.mState t.1 = mNormal then some ⟨t.1, t.2⟩ else none
      | none => none)
    else none
  match p with
  | some q => if x.want.mState q.member = mNormal ∧ s.memberHere x q.member then some q else none
  | none => none

/-- Where column j is written: its member while NORMAL or REBUILDING; its spare target once the completed update has recorded the spare log entry
(R253); none while the column cannot be written. -/
def Grp.writePlace (x : Grp) (st j o : Nat) : Option Place :=
  let b := x.brand
  let m := b.memberOf st j
  if x.want.mState m = mNormal ∨ x.want.mState m = mRebuilding then some ⟨m, b.lbaOf st j o⟩
  else match b.spareOf st j o with
    | some t => if x.want.mState t.1 = mNormal then some ⟨t.1, t.2⟩ else none
    | none => none

/-- The column is written into a spare slot (FLAGS.SPARE of R263). -/
def Grp.inSpare (x : Grp) (st j : Nat) : Bool :=
  let m := x.brand.memberOf st j
  decide (x.want.mState m ≠ mNormal) && decide (x.want.mState m ≠ mRebuilding) && (x.brand.spareOf st j 0).isSome

/-- The write covers this column and offset. -/
def TallyWrite.covers (w : TallyWrite) (j o : Nat) : Bool :=
  w.col == j && decide (w.off ≤ o) && decide (o < w.off + w.blocks.length)

/-- A member write of an open entry that reported an error or timed out, and is not yet on media, leaves its blocks unknown (R590). -/
def State.unknownAt (s : State) (g st j o : Nat) : Bool :=
  s.tly.entries.any (fun e => e.group == g && e.stripe == st
    && e.writes.zipIdx.any (fun w => w.1.covers j o && !w.1.done
      && s.drv.cmds.any (fun c => c.use = .tally e.id w.2 && decide (c.errors ≠ [] ∨ 0 < c.issues))))

/-- The column counts as missing for a read of n blocks at o (R207). -/
def State.colMissing (s : State) (g : Nat) (x : Grp) (st j o n : Nat) : Bool :=
  (s.readPlace x st j o).isNone || (List.range' o n).any (fun i => s.unknownAt g st j i)

/-- Columns of the stripe that count as missing. -/
def State.missingCols (s : State) (g : Nat) (x : Grp) (st o n : Nat) : List Nat :=
  (List.range x.brand.w).filter (fun j => s.colMissing g x st j o n)

/-- The column's own place on its own member (copyback). -/
def Grp.ownPlace (x : Grp) (st j o : Nat) : Place := ⟨x.brand.memberOf st j, x.brand.lbaOf st j o⟩

/-! ## What lies at a group block -/

/-- The namespaces in force, with their subsystems. -/
def State.allNs (s : State) : List (Nat × NsEnt) :=
  (s.instancesOf 0x0070).flatMap (fun sub => (s.nsList sub).map (fun n => (sub, n)))

/-- The namespace of a group that uses an extent map. -/
def State.nsOfMap (s : State) (g map : Nat) : Option (Nat × NsEnt) :=
  s.allNs.find? (fun n => n.2.map == map && n.2.group == g)

/-- The subsystem, namespace and block whose place is this group data block. -/
def State.blockOwner (s : State) (g blk : Nat) : Option (Nat × NsEnt × Nat) :=
  s.cht.ext.findSome? (fun e =>
    if e.2.state ≠ 0 ∧ e.2.groupBlock ≤ blk ∧ blk < e.2.groupBlock + extentSize then
      (s.nsOfMap g (e.1 / 2 ^ 32)).map (fun n =>
        (n.1, n.2, e.1 % 2 ^ 32 * extentSize + (blk - e.2.groupBlock)))
    else none)

/-- HOST_TAG of a reconstructed block (R241): 0xFFFF in formats 1 and 2. -/
def State.rebuiltTag (s : State) (g blk : Nat) : Nat :=
  match s.blockOwner g blk with
  | some (_, n, _) => if n.lbaf = 0 then 0 else 0xFFFF
  | none => 0

/-- The group data block of a data column's offset. -/
def Brand.blockAt (b : Brand) (st j o : Nat) : Nat := st * b.stripeBlocks + j * b.c + o

/-- The stripe touches an allocated extent (R285, Patrol). -/
def State.stripeUsed (s : State) (g : Nat) (b : Brand) (st : Nat) : Bool :=
  s.cht.ext.any (fun e => e.2.state != 0 && (s.nsOfMap g (e.1 / 2 ^ 32)).isSome
    && decide (e.2.groupBlock < (st + 1) * b.stripeBlocks) && decide (st * b.stripeBlocks < e.2.groupBlock + extentSize))

/-! ## Staging (R206, R215 to R218) -/

def Ver.is (v : Ver) (sub nsid lba : Nat) : Bool := v.sub == sub && v.nsid == nsid && v.lba == lba

/-- The newest staged version of a block: versions stand oldest first. -/
def State.staged? (s : State) (sub nsid lba : Nat) : Option Ver := s.cht.staging.reverse.find? (fun v => v.is sub nsid lba)

/-- Write-through acknowledgement is in force: HOLDUP_OK is low on a controller in step, or on the one that serves alone (R525). -/
def State.writeThrough (s : State) : Bool :=
  s.pwr.holdupLow || (s.inPair && s.partnerInStep && s.pwr.partnerHoldupLow)

/-- Power is failing on a controller in step, or on the controller that serves alone (R524). -/
def State.powerFailing (s : State) : Bool :=
  s.pwr.pwrfail || (s.inPair && s.partnerInStep && s.pwr.partnerPwrfail)

/-- Dirty data in units of a block (R218); none is counted under write-through acknowledgement (R525). -/
def State.dirty (s : State) : Nat := if s.writeThrough then 0 else s.cht.staging.length

/-- The vault limit of the Pattern in blocks. -/
def State.vaultLimit (s : State) : Nat := s.cfg 0x0050 0 0 4 12288 * 256

/-- The dirty limit in force in blocks (R33, R274). -/
def State.dirtyLimit (s : State) : Nat := min s.vaultLimit (s.get F.VLT_LIMIT_EFF.MIB * 256)

/-- DIRTY_HIGH at three quarters of the vault limit; class 5 until dirty data falls below half of it (R219). -/
def State.dirtyLevel (s : State) : State :=
  if s.cht.dirtyHigh then
    if 2 * s.dirty < s.vaultLimit then { s with cht := { s.cht with dirtyHigh := false } } else s
  else if 3 * s.vaultLimit ≤ 4 * s.dirty then { s with cht := { s.cht with dirtyHigh := true } }.raise 0x1A4
  else s

/-- A new version enters staging at the commit point: older ones whose destage has not begun are discarded (R217). -/
def State.stage (s : State) (v : Ver) : State :=
  { s with cht := { s.cht with
    staging := s.cht.staging.filter (fun (o : Ver) => !(o.is v.sub v.nsid v.lba && o.entry == 0 && !o.mapWait)) ++ [v] } }

/-! ## The Yard (R209, R210) -/

def State.yardMin (s : State) (st cls : Nat) : Nat :=
  s.cfg 0x0050 0 (32 + 4 * (st * 8 + cls)) 2 (if st = 4 ∨ cls = 7 then 256 else 32)

/-- ALPHA_LOG2, two's complement in one byte. -/
def State.yardAlpha (s : State) (st cls : Nat) : Int :=
  let a := s.cfg 0x0050 0 (32 + 4 * (st * 8 + cls) + 2) 1 255
  if a < 128 then a else (a : Int) - 256

def State.urgentReserve (s : State) : Nat := s.cfg 0x0050 0 24 2 512

/-- Every MIN together. -/
def State.yardMins (s : State) : Nat :=
  ((List.range 96).map (fun i => s.yardMin (i / 8) (i % 8))).sum

/-- Yard buffers in all: those retired are gone (R488). -/
def State.yardSize (s : State) : Nat := 32768 - (s.mi.applied.filter (fun r => r.kind == 2)).length

/-- Buffers of the shared pool in all. -/
def State.sharedSize (s : State) : Nat := s.yardSize - s.urgentReserve - s.yardMins

def State.heldIn (s : State) (p : BufPool) : Nat := (s.cht.bufs.filter (fun b => b.pool = p)).length

def State.heldBy (s : State) (p : BufPool) (st cls : Nat) : Nat :=
  (s.cht.bufs.filter (fun b => b.pool = p && b.station == st && b.cls == cls)).length

def State.sharedFree (s : State) : Nat := s.sharedSize - s.heldIn .shared
def State.urgentFree (s : State) : Nat := s.urgentReserve - s.heldIn .urgent

/-- The pool that admits one more buffer (R209). -/
def State.yardAdmit (s : State) (st cls : Nat) : Option BufPool :=
  if s.heldBy .min st cls < s.yardMin st cls then some .min
  else if cls = 7 ∧ s.heldIn .urgent < s.urgentReserve then some .urgent
  else
    let a := s.yardAlpha st cls
    let held := s.heldBy .shared st cls
    let under := if 0 ≤ a then decide (held < s.sharedFree * 2 ^ a.toNat) else decide (held * 2 ^ (-a).toNat < s.sharedFree)
    if 0 < s.sharedFree ∧ under then some .shared else none

/-- A buffer that is retired is never taken (R488). -/
def State.bufUsed (s : State) (i : Nat) : Bool :=
  s.cht.bufs.any (fun b => b.num == i) || s.pat.settings.retired.any (fun r => r.kind == 2 && r.index == i)

/-- Takes `n` buffers in one request, or none of them. -/
def State.yardTake (st cls : Nat) : Nat → State → Option (State × List Nat)
  | 0, s => some (s, [])
  | n + 1, s =>
    match s.yardAdmit st cls with
    | none => none
    | some p =>
      match pickFree 32768 32768 s.free.toNat s.bufUsed with
      | none => none
      | some i =>
        let low := decide (s.sharedSize ≤ 8 * s.sharedFree)
        let t : State := { s.drawn with cht := { s.cht with bufs := s.cht.bufs ++ [(⟨i, st, cls, p⟩ : YBuf)] } }
        let t := t.count 5 (i / 16384) 0
        let t := if low && decide (8 * t.sharedFree < t.sharedSize) then t.raise 0x1A7 else t
        match State.yardTake st cls n t with
        | none => none
        | some (u, is) => some (u, i :: is)

/-- A refused request is counted by the Scaler, for one of the two Yards, which no rule names (R505 unit 5). -/
def State.yardRefused (s : State) : State := s.count 5 (s.free.toNat % 2) 1

/-- Releases buffers. -/
def State.yardRelease (s : State) (is : List Nat) : State :=
  { s with cht := { s.cht with bufs := s.cht.bufs.filter (fun b => !is.contains b.num) } }

/-- Physical address of a buffer's data and of its side data (R465). -/
def bufAddr (i : Nat) : Nat := 0x10_0000_0000 + 4096 * i
def sideAddr (i : Nat) : Nat := 0x10_1000_0000 + 128 * i

/-- Puts a block and its check field into a buffer. -/
def State.fillBuf (s : State) (i : Nat) (b : Blk) : State :=
  (s.store (bufAddr i) b.data).store (sideAddr i) b.check.bytes

/-- The block in a buffer, as the drive's writes left it. -/
def State.bufBlock (s : State) (i : Nat) : Blk :=
  let c := s.memRead (sideAddr i) 16
  ⟨s.memRead (bufAddr i) 4096, ⟨leAt c 0 8, leAt c 8 2, leAt c 10 6⟩⟩

/-- A word of the buffer is poisoned. -/
def State.bufPoisoned (s : State) (i : Nat) : Bool := s.poisonIn (bufAddr i) 4096 || s.poisonIn (sideAddr i) 16

/-! ## Drive tags (R212 to R214) -/

def tag0 : DTag := ⟨0, none, [], 0, false, 0, false⟩
def tagLimit : Nat := 262144

def State.dtag (s : State) (i : Nat) : DTag := sparseGet tag0 i s.cht.tags

def State.setDtag (s : State) (i : Nat) (t : DTag) : State :=
  { s with cht := { s.cht with tags := sparsePut tag0 i t s.cht.tags } }

/-- Tags outstanding or held back (CHT_TAGS). -/
def State.tagsUsed (s : State) : Nat := (s.cht.tags.filter (fun t => t.2.cmd.isSome || t.2.holdUs != 0)).length

/-- A tag that may be allocated, one that an open value picks. -/
def State.freeDtag (s : State) : Option Nat :=
  if tagLimit ≤ s.tagsUsed then none
  else pickFree (s.cht.tags.length + 1) tagLimit s.free.toNat
    (fun i => (s.dtag i).cmd.isSome || (s.dtag i).holdUs != 0)

/-- 1 s of step time. -/
def secondUs : Nat := 1000000

/-- Retires a tag: its generation goes up before its buffers are released; `held` keeps it back for 1 s (R214). -/
def State.retireDtag (s : State) (i : Nat) (held : Bool) : State :=
  let t := s.dtag i
  (s.setDtag i { tag0 with gen := (t.gen + 1) % 256, holdUs := if held then s.nowUs + secondUs + 1 else 0 }).yardRelease t.bufs

/-- An aperture address (R212). -/
def apertureAddr (gen tag : Nat) (side : Bool) (off : Nat) : Nat :=
  0xFE * 2 ^ 56 + gen * 2 ^ 48 + tag * 2 ^ 28 + (if side then 2 ^ 27 else 0) + off

/-! ## Drive commands (R401, R404, R407, R412) -/

/-- NVMe opcodes of member commands. -/
def nvWrite : Nat := 1
def nvRead : Nat := 2

/-- Length charged at the drive issue point (R374). -/
def DrvCmd.charge (c : DrvCmd) : Nat := if c.nlb = 0 then 64 else 4096 * c.nlb

def State.drv? (s : State) (cid : Nat) : Option DrvCmd := s.drv.cmds.find? (fun c => c.cid == cid)

def State.setDrv (s : State) (c : DrvCmd) : State :=
  { s with drv := { s.drv with cmds := s.drv.cmds.map (fun x => if x.cid = c.cid then c else x) } }

/-- The command joins its class queue at the drive port. -/
def State.queueDrv (s : State) (c : DrvCmd) : State :=
  (s.setDrv { c with st := .queued }).enqueue (drivePoint c.port) c.cls (⟨.drive c.cid, c.charge, false, false, false⟩ : TcUnit)

/-- Tries to give a command its buffers and tag: data of a write are put into the Yard; false when it has to wait (R210, R211). -/
def State.equip (s : State) (c : DrvCmd) : State × Bool :=
  if !c.viaYard then (s.queueDrv c, true)
  else match State.yardTake 6 c.cls c.nlb s with
    | none => (s, false)
    | some (t, bufs) =>
      match t.freeDtag with
      | none => (s, false)
      | some i =>
        let t := t.drawn.setDtag i { t.dtag i with
          cmd := some c.cid, bufs := bufs, len := 4096 * c.nlb, write := c.op == nvWrite, poisoned := false }
        let t := (bufs.zip c.blocks).foldl (fun (t : State) (x : Nat × Blk) => t.fillBuf x.1 x.2) t
        (t.queueDrv { c with tag := some i }, true)

/-- Sends a formed command on its way on the controller that issues it: through the Yard when it needs buffers, at once otherwise. A drive that refused the preempt gets no
writes (R335), and one in DRIVE_PS is waited for (R539). -/
def State.launch (s : State) (c : DrvCmd) : State :=
  if c.sideB ≠ s.sideB then s.setDrv { c with st := .queued }
  else if (c.op = nvWrite && (s.port c.port).noWrites) || (s.port c.port).lowPower then s.setDrv { c with st := .held }
  else
    let (t, ok) := s.equip c
    if ok then t
    else ({ s with cht := { s.cht with waits := s.cht.waits ++ [(⟨6, c.cls, c.nlb, c.cid⟩ : YWait)] } }.setDrv
      { c with st := .buffers }).yardRefused.bump F.YRD_WAIT.COUNT

/-- The side that issues a command to a drive, and whether it may go now: its own port, the partner's (R412), or none. -/
def State.route? (s : State) (side : OutSide) (port : Nat) : Bool × Bool :=
  let own := s.issuerB side
  match s.reachSide own port with
  | some b => (b, true)
  | none => (own, false)

/-- The fold record of a drive command (R330): CDW0, CDW10, CDW11, CDW12. -/
def State.foldDrv (s : State) (c : DrvCmd) : State :=
  s.fold 3 (c.port * 2 ^ 24 + c.queue) (beBytes 4 (c.op + 65536 * (c.cid % 65536)) ++ beBytes 4 c.lba
    ++ beBytes 4 (c.lba / 2 ^ 32) ++ beBytes 4 (c.nlb - 1))

/-- Forms a member command (R411 times it from now). A command for a drive that is not reachable is held (R407). -/
def State.formDrv (s : State) (side : OutSide) (port nguid op lba nlb cls : Nat) (viaYard : Bool) (blocks : List Blk)
    (use : DrvUse) : State :=
  let (b, ok) := s.route? side port
  let c : DrvCmd := {
    cid := s.drv.cidCtr, port := port, sideB := b, queue := if cls = 7 then 2 else 1, op := op, lba := lba, nlb := nlb,
    tag := none, viaYard := viaYard, blocks := blocks, use := use, cls := cls, formedUs := s.nowUs, issues := 0,
    errors := [], st := .held, nguid := nguid }
  let s := { s with drv := { s.drv with cidCtr := s.drv.cidCtr + 1, cmds := s.drv.cmds ++ [c] } }
  let s := s.foldDrv c
  let s := if ok ∧ b ≠ s.issuerB side ∧ b = s.sideB then s.bump F.DP_PROXY.COUNT port else s
  if ok then s.launch c else s

/-- A command's part in queues, buffers and tags ends; `held` for a tag retired other than by completion (R214). -/
def State.unequip (s : State) (c : DrvCmd) (held : Bool) : State :=
  let s := match c.tag with
    | some i => s.retireDtag i held
    | none => s
  let s := { s with cht := { s.cht with waits := s.cht.waits.filter (fun w => w.cmd != c.cid) } }
  s.setPoint (drivePoint c.port) ((s.point (drivePoint c.port)).without c.cid)

/-- A drive command leaves the machine. -/
def State.dropDrv (s : State) (c : DrvCmd) (held : Bool) : State :=
  let s := s.unequip c held
  { s with drv := { s.drv with cmds := s.drv.cmds.filter (fun x => x.cid != c.cid) } }

/-- The drive commands of a use. -/
def State.drvOf (s : State) (p : DrvUse → Bool) : List DrvCmd := s.drv.cmds.filter (fun c => p c.use)

/-- A member write or read of a group (nothing when no drive holds the member). -/
def State.memberCmd (s : State) (side : OutSide) (x : Grp) (p : Place) (op nlb cls : Nat) (viaYard : Bool) (blocks : List Blk)
    (use : DrvUse) : State :=
  match x.portOf p.member with
  | some port => s.formDrv side port (x.want.member p.member).nguid op p.lba nlb cls viaYard blocks use
  | none => s

end Sys2Proof.Machine
end

