-- ==== Sys2Proof/Machine/BrandOps.lean ====
section
/-!
DEFINITION. Machine/BrandOps.lean: keeping the Brand (R252 to R255), member failure (R244, R286, R413), vault members and the dirty limit they
allow (R273, R274), rebuild records (R284 to R286).
-/
namespace Sys2Proof.Machine

/-! ## Vault members and placement (R269, R273, R274) -/

/-- Segment slots in a half of `vaultMib` (R269). -/
def segSlots (vaultMib : Nat) : Nat := (vaultMib * 128 - 32769) / 129

/-- Inserts a vault member by drive port. -/
def insertVMem (v : VMem) : List VMem → List VMem
  | [] => [v]
  | w :: rest => if v.port < w.port then v :: w :: rest else w :: insertVMem v rest

/-- The vault members: present drives whose Brand records them NORMAL or REBUILDING, in any group, by drive port. -/
def State.vaultMembers (s : State) : List VMem :=
  (s.grps.flatMap (fun (g : Nat × Grp) =>
    ((List.range g.2.brand.members).filter (fun m =>
      (g.2.brand.mState m == mNormal || g.2.brand.mState m == mRebuilding) && s.memberHere g.2 m && !g.2.offline)).map (fun m =>
        (⟨g.1, m, (g.2.portOf m).getD 0, segSlots g.2.brand.vaultMib⟩ : VMem)))).foldl (fun l v => insertVMem v l) []

def VMem.pg (v : VMem) : Nat := v.port / 12

/-- Every vault member lies in one port group (R274). -/
def vaultShort (vm : List VMem) : Bool :=
  match vm with
  | [] => false
  | a :: rest => rest.all (fun m => m.pg == a.pg)

/-- The members of the control copies A and B (R273). -/
def ctrlPair (vm : List VMem) : List VMem :=
  match vm with
  | [] => []
  | a :: rest => a :: (rest.find? (fun m => vaultShort vm || m.pg != a.pg)).toList

/-- Slots taken on a member. -/
def takenOn (taken : List (VMem × Nat)) (m : VMem) : Nat := ((taken.find? (fun t => t.1 == m)).map (·.2)).getD 0

def takeOn (taken : List (VMem × Nat)) (m : VMem) : List (VMem × Nat) :=
  (m, takenOn taken m + 1) :: taken.filter (fun t => t.1 != m)

/-- The members in order from position `i` on, cyclically. -/
def rotated (vm : List VMem) (i : Nat) : List VMem := vm.drop (i % max 1 vm.length) ++ vm.take (i % max 1 vm.length)

/-- The placement of segments from number `i` on, as far as it succeeds (R273, R274). -/
def placeFrom (vm : List VMem) : Nat → Nat → List (VMem × Nat) → List SegPlace
  | 0, _, _ => []
  | n + 1, i, taken =>
    let short := vaultShort vm
    let pair := ctrlPair vm
    let room (m : VMem) : Bool := decide (takenOn taken m < m.slots)
    match (rotated vm i).find? room with
    | none => []
    | some f =>
      match (rotated vm (i + vm.length / 2)).find? (fun m =>
          m != f && (short || m.pg != f.pg) && room m && !(pair.contains m && pair.contains f && pair.length == 2)) with
      | none => []
      | some x => ⟨f, takenOn taken f, x, takenOn taken x⟩ :: placeFrom vm n (i + 1) (takeOn (takeOn taken f) x)

/-- The dirty limit that the vault members allow, in MiB: two segments hold 1 MiB (R274). -/
def State.vaultRoom (s : State) : Nat := (placeFrom s.vaultMembers (2 * s.cfg 0x0050 0 0 4 12288) 0 []).length / 2

/-- The vault members have changed: the dirty limit and SHORT are set anew (R274). -/
def State.vaultChanged (s : State) : State :=
  let room := s.vaultRoom
  let limit := s.cfg 0x0050 0 0 4 12288
  let short := vaultShort s.vaultMembers || decide (room < limit)
  let s := (s.set F.VLT_LIMIT_EFF.MIB (min room limit)).setFlag F.VLT_STATUS.SHORT short
  if short then s.raise 0x1CF else s

/-! ## Lost blocks (R292, R293) -/

def lstLimit : Nat := 21674

/-- Merges until one more entry fits (R293). -/
def lstMakeRoom : Nat → List LstEnt → List LstEnt × Bool
  | 0, l => (l, false)
  | fuel + 1, l => if l.length < lstLimit then (l, false) else ((lstMakeRoom fuel (mergeOnce l)).1, true)

/-- Adds an entry to the table of a group's wanted content; a block stays marked once (R291, R293). The events of its cause follow (R300). -/
def State.recordLost (s : State) (g st off blocks cause columns : Nat) : State :=
  match s.grp? g with
  | none => s
  | some x =>
    let fresh := ((List.range x.want.k).filter (fun j => bitOf columns j
      && (List.range' off blocks).any (fun o => !x.want.lostAt st j o)))
    if fresh.isEmpty ∨ blocks = 0 then s
    else
      let e : LstEnt := ⟨st, 1, off, blocks, cause, (fresh.map (fun j => 2 ^ j)).sum, s.dev.stepNo⟩
      let cleared := x.want.lst.flatMap (fun o =>
        (fresh.flatMap (fun j => (List.range' off blocks).map (fun i => (j, i)))).foldl
          (fun (ps : List LstEnt) (c : Nat × Nat) => ps.flatMap (fun p => p.without st c.1 c.2)) [o])
      let (l, merged) := lstMakeRoom 64 cleared
      let s := s.setGrp g { x with want := { x.want with lst := insertLst e l, merged := x.want.merged || merged } }
      let s := { s with nvm := { s.nvm with lostGen := s.nvm.lostGen + 1 } }
      let s := if merged then s.raise 0x1D8 else s
      let s := if cause = 1 then s.raise 0x1D7 else if cause = 2 then s.raise 0x1D3 else s
      s.raise 0x186

/-- A block leaves the table (R292): a write at its commit point, or a deallocation. -/
def State.unlose (s : State) (g st j o : Nat) : State :=
  match s.grp? g with
  | none => s
  | some x =>
    if x.want.lostAt st j o then
      let l := x.want.lst.flatMap (fun e => e.without st j o)
      let (l, merged) := if lstLimit < l.length then ((lstMakeRoom 64 l).1, true) else (l, false)
      let s := s.setGrp g { x with want := { x.want with lst := l, merged := x.want.merged || merged } }
      let s := { s with nvm := { s.nvm with lostGen := s.nvm.lostGen + 1 } }
      if merged then s.raise 0x1D8 else s
    else s

/-! ## Brand updates (R252 to R255) -/

/-- The shelf ID in force. -/
def State.shelfId (s : State) : Nat := s.cfg 0x0001 0 0 8 0

/-- Two contents differ in something that an update records: all but BRAND_SEQ, and a CLEAN that is only to be cleared (R253). -/
def Brand.differs (rec want : Brand) : Bool :=
  { want with seq := rec.seq, clean := rec.clean } ≠ rec || (want.clean && !rec.clean)

/-- The content of the next update: an empty spare log when no entry is ACTIVE (R244). -/
def Grp.nextBrand (x : Grp) : Brand :=
  let b := { x.want with seq := x.brand.seq + 1 }
  if b.log.any (·.2) then b else { b with log := [] }

/-- Members that an update writes: NORMAL, REBUILDING or SPARED, with the drive present. -/
def State.brandMembers (s : State) (x : Grp) (b : Brand) : List Nat :=
  (List.range b.members).filter (fun m =>
    (b.mState m == mNormal || b.mState m == mRebuilding || b.mState m == mSpared) && s.memberHere x m)

/-- Issues the next write of a member's copies, if any is left. -/
def State.brandIssue (s : State) (g m : Nat) : State :=
  match s.grp? g with
  | none => s
  | some x =>
    match x.upd with
    | none => s
    | some u =>
      match u.todo.find? (fun t => t.1 == m) with
      | none => s
      | some (_, copy, part) =>
        let port := (x.portOf m).getD 0
        s.memberCmd .maint x ⟨m, brandLba copy part (u.content.member m).nsze⟩ nvWrite (if part = 0 then 255 else 1) 6 false
          (u.content.partBlocks part m (port / 12)) (.brand g m copy part)

/-- Starts the next update of a group when something is to be recorded and none runs; none is written while the shelf ID is 0 or the group is
offline (R47, R252, R256). -/
def State.startBrand (s : State) (g : Nat) : State :=
  match s.grp? g with
  | none => s
  | some x =>
    if x.upd.isSome ∨ x.offline ∨ x.forming ∨ ¬ x.brand.differs x.want then s
    else if s.shelfId = 0 then (s.set F.LAY_BRAND_STATUS.RESULT 3).set F.LAY_BRAND_STATUS.GROUP g
    else
      let b := x.nextBrand
      let ms := s.brandMembers x b
      let u : BrandUpd := ⟨b, ms.flatMap (fun m => [(m, 0, 0), (m, 0, 1), (m, 1, 0), (m, 1, 1)]), []⟩
      let s := s.setGrp g { x with want := { b with seq := x.want.seq }, upd := some u }
      ms.foldl (fun (s : State) (m : Nat) => s.brandIssue g m) s

/-! ## Member failure (R244, R286, R413) -/

/-- The event of the number of members missing (R258). -/
def State.missingEvent (s : State) (n : Nat) : State :=
  if n = 1 then s.raise 0x1C1 else if n = 2 then s.raise 0x1C2 else if 2 < n then s.raise 0x1C3 else s

/-- A rebuild as it starts (R285). -/
def newRebuild (g m stripes : Nat) (copyback : Bool) : Rebuild :=
  { group := g, member := m, copyback := copyback, state := 1, cursor := 0, critCursor := stripes, critPartner := 0xFF,
    next := 0, critNext := stripes, done := 0, critical := 0, recon := 0, lost := 0, recent := [], inflight := [], before := 1 }

def Rebuild.is (r : Rebuild) (g m : Nat) : Bool := r.group == g && r.member == m

/-- A rebuild runs: critical stripes or running (log 0xC3). -/
def Rebuild.running (r : Rebuild) : Bool := r.state == 2 || r.state == 3

/-- Stripes of the group that miss both members. -/
def Brand.criticalCount (b : Brand) (m p : Nat) : Nat :=
  ((List.range b.rows).filter (fun r => (b.row r).contains m && (b.row r).contains p)).length * b.cycles

/-- A further member fails while rebuilds run (R286): a critical pass, or every rebuild of an offline group pauses. -/
def State.rebuildsMeet (s : State) (g m : Nat) (b : Brand) : State :=
  let gone := decide (2 < b.missing)
  let hit (r : Rebuild) : Bool := r.group == g && r.member != m && r.running && r.critPartner == 0xFF
  let crit := s.tly.rebuilds.any hit && !gone
  let paused := s.tly.rebuilds.any (fun r => r.group == g && r.state != 4 && r.state != 5) && gone
  let s := { s with tly := { s.tly with
    rebuilds := s.tly.rebuilds.map (fun (r : Rebuild) =>
      if gone ∧ r.group = g ∧ r.state ≠ 4 ∧ r.state ≠ 5 then { r with state := 5, before := r.state }
      else if hit r then { r with critPartner := m, critCursor := 0, critNext := 0, state := 2, critical := b.criticalCount r.member m }
      else r) } }
  let s := if crit then s.raise 0x1D5 else s
  if paused then s.raise 0x1DE else s

/-- Drops every drive command of a member's drive: its tags are retired (R413). -/
def State.dropMemberCmds (s : State) (port : Nat) : State :=
  (s.drv.cmds.filter (fun c => c.port == port && c.queue != 0)).foldl (fun (s : State) (c : DrvCmd) => s.dropDrv c true) s

/-- A replacement that was being filled by copyback fails: the chunks stay in their spare targets. -/
def State.dropCopyback (s : State) (g m : Nat) (x : Grp) : State :=
  let s := s.setGrp g { x with ports := x.ports.filter (fun p => p.1 != m) }
  let s := match x.portOf m with
    | some p => s.dropMemberCmds p
    | none => s
  { s with tly := { s.tly with rebuilds := s.tly.rebuilds.filter (fun r => !(r.is g m)) } }

/-- A member is declared failed, as step state (R413): its entry, the spare log (R244), its rebuild, the group's events, the next Brand update. -/
def State.failMember (s : State) (g m : Nat) : State :=
  match s.grp? g with
  | none => s
  | some x =>
    let b := x.want
    let st := b.mState m
    if st = mUnused ∨ st = mFailed then s
    else if st = mSpared then s.dropCopyback g m x
    else
      let e := b.member m
      let order := ((b.memberTab.map (·.failSeq)).foldl max 0) + 1
      let b1 := b.setMember m { e with state := mFailed, failSeq := if st = mRebuilding then e.failSeq else order }
      let log := b.log ++ [(m, true)]
      let listed := b.log.any (fun l => l.1 == m && l.2)
      let ok := b.spare != 0 && !listed && decide (b.log.length < 4) && (b.spareTargets (log.map (·.1))).isSome
      let b2 := if ok then { b1 with log := log } else b1
      let port := x.portOf m
      let upd := x.upd.map (fun u => { u with todo := u.todo.filter (fun t => t.1 != m), failed := u.failed ++ [m] })
      let s := s.setGrp g { x with want := b2, upd := upd, ports := x.ports.filter (fun p => p.1 != m) }
      let s := match port with
        | some p => s.dropMemberCmds p
        | none => s
      let s := s.raise 0x1C0
      let s := if ok then s else s.raise 0x1C7
      let s := s.missingEvent b2.missing
      let s := s.rebuildsMeet g m b2
      let old := s.tly.rebuilds.filter (fun r => !(r.is g m))
      let r := newRebuild g m b2.stripes false
      let r := if 2 < b2.missing then { r with state := 5 } else r
      let s := { s with tly := { s.tly with rebuilds := old ++ [r] } }
      (s.startBrand g).vaultChanged

end Sys2Proof.Machine
end

