-- ==== Sys2Proof/Machine/TallyOps.lean ====
section
/-!
DEFINITION. Machine/TallyOps.lean: Tally entries and their member writes (R259, R262 to R268, R590), destage (R219, R239, R261), the check of a stripe
that the sweep, Patrol and repairs share (R283, R287, R294, R295).
-/
namespace Sys2Proof.Machine

/-! ## Entries -/

/-- Entries that the Tally holds (R262). -/
def State.tallyLimit (s : State) : Nat := min (s.cfg 0x0050 0 16 4 1024 * 8192) 3145728

/-- An entry is open on the stripe (R264). -/
def State.tallyOn (s : State) (g st : Nat) : Bool := s.tly.entries.any (fun e => e.group == g && e.stripe == st)

/-- A writer waits for the stripe. -/
def State.tallyWaits (s : State) (g st : Nat) : Bool := s.tly.waits.any (fun e => e.group == g && e.stripe == st)

/-- An entry may open on the stripe now. -/
def State.tallyRoom (s : State) (g st : Nat) : Bool := !s.tallyOn g st && decide (s.tly.entries.length < s.tallyLimit)

/-- A writer waits (R264, R267). -/
def State.tallyWait (s : State) (w : TallyWait) : State :=
  let s := if s.tly.waits.contains w then s else { s with tly := { s.tly with waits := s.tly.waits ++ [w] } }
  if s.tallyLimit ≤ s.tly.entries.length then s.raise 0x1C9 else s

def State.entry? (s : State) (id : Nat) : Option TallyEnt := s.tly.entries.find? (fun e => e.id == id)

def State.setEntry (s : State) (e : TallyEnt) : State :=
  { s with tly := { s.tly with entries := s.tly.entries.map (fun (x : TallyEnt) => if x.id = e.id then e else x) } }

/-- Columns as a bit map. -/
def colMask (js : List Nat) : Nat := (js.dedup.map (fun j => 2 ^ j)).sum

/-- The columns whose every write is on media. -/
def TallyEnt.doneMask (e : TallyEnt) : Nat :=
  colMask ((e.writes.map (·.col)).filter (fun j => e.writes.all (fun w => w.col != j || w.done)))

/-- Every data column is in DONE (R266). -/
def TallyEnt.dataDone (e : TallyEnt) (k : Nat) : Bool := e.writes.all (fun w => decide (k ≤ w.col) || w.done)

/-- A write of the entry may be issued now: parity of a KIND 2 entry waits for the data columns (R266). -/
def TallyEnt.mayIssue (e : TallyEnt) (k : Nat) (w : TallyWrite) : Bool :=
  !w.done && (e.kind != 2 || decide (w.col < k) || e.dataDone k)

/-- Where a write goes. -/
def Grp.tallyPlace (x : Grp) (e : TallyEnt) (w : TallyWrite) : Option Place :=
  if w.own then some (x.ownPlace e.stripe w.col w.off) else x.writePlace e.stripe w.col w.off

/-- Issues write k of an entry, unless its command is outstanding already or it has no place yet (R253). -/
def State.issueWrite (s : State) (id k : Nat) : State :=
  match s.entry? id with
  | none => s
  | some e =>
    match s.grp? e.group, e.writes[k]? with
    | some x, some w =>
      if !e.mayIssue x.brand.k w || s.drv.cmds.any (fun c => c.use = .tally id k) then s
      else match x.tallyPlace e w with
        | some p => s.memberCmd e.side x p nvWrite w.blocks.length e.cls w.viaYard w.blocks (.tally id k)
        | none => s
    | _, _ => s

/-- Issues every write that may go now. -/
def State.issueEntry (s : State) (id : Nat) : State :=
  match s.entry? id with
  | none => s
  | some e => (List.range e.writes.length).foldl (fun (s : State) (k : Nat) => s.issueWrite id k) s

/-! ## Opening and closing -/

/-- Opens an entry before its first write is issued (R265): its COLUMNS are those it writes. -/
def State.openEntry (s : State) (kind g st off blocks member cls : Nat) (side : OutSide) (writes : List TallyWrite) : State :=
  match s.grp? g with
  | none => s
  | some x =>
    let e : TallyEnt := {
      id := s.tly.entryCtr + 1, stripe := st, group := g, kind := kind, columns := colMask (writes.map (·.col)), done := 0,
      off := off, blocks := blocks, spare := writes.any (fun w => !w.own && x.inSpare st w.col), step := s.dev.stepNo,
      writes := writes, member := member, side := side, cls := cls }
    let s := { s with tly := { s.tly with entries := s.tly.entries ++ [e], entryCtr := s.tly.entryCtr + 1 } }
    let s := if 8 * s.tly.entries.length = 7 * s.tallyLimit then s.raise 0x1C8 else s
    s.issueEntry e.id

/-- Destage ends for the versions of an entry: at once, or with the next map commit for a block whose bitmap bit it clears (R203, R261). -/
def State.endDestage (s : State) (id : Nat) : State :=
  let mine := s.cht.staging.filter (fun v => v.entry == id)
  let partials := mine.filter (fun (v : Ver) =>
    match s.ns? v.sub v.nsid with
    | some n =>
      let x := s.extent n.map (v.lba / extentSize)
      x.state == 2 && bitOf x.dealloc (v.lba % extentSize)
    | none => false)
  let s := partials.foldl (fun (s : State) (v : Ver) =>
    match s.ns? v.sub v.nsid with
    | some n =>
      let e := v.lba / extentSize
      let x := s.extent n.map e
      s.setExtent n.map e { x with dealloc := withoutBit x.dealloc (v.lba % extentSize) }
    | none => s) s
  { s with cht := { s.cht with
    staging := (s.cht.staging.filter (fun (v : Ver) => v.entry != id || partials.contains v)).map (fun (v : Ver) =>
      if v.entry = id then { v with mapWait := true, entry := 0 } else v) } }.dirtyLevel

/-- A rebuild is done when both passes have reached the last stripe and nothing is in flight (R285). -/
def Rebuild.finished (r : Rebuild) (stripes : Nat) : Bool :=
  decide (stripes ≤ r.next) && decide (stripes ≤ r.critNext) && r.inflight.isEmpty

/-- The cursors as the closed stripes leave them: each stands at the lowest stripe in flight of its pass, or at the next one. -/
def Rebuild.moved (r : Rebuild) : Rebuild :=
  let low (c : Bool) (n : Nat) : Nat := ((r.inflight.filter (fun i => i.2 == c)).map (·.1)).foldl min n
  { r with cursor := low false r.next, critCursor := low true r.critNext }

/-- The member whose rebuild is done is recorded: SPARED, or NORMAL with its spare log entry RELEASED (R243, R285). -/
def State.rebuildDone (s : State) (g : Nat) (r : Rebuild) : State :=
  match s.grp? g with
  | none => s
  | some x =>
    let b := x.want
    let e := b.member r.member
    let spared := b.mState r.member == mFailed
    let b := if spared then b.setMember r.member { e with state := mSpared }
      else
        let c := b.setMember r.member { e with state := mNormal, failSeq := 0 }
        { c with log := b.log.map (fun l => if l.1 = r.member then (l.1, false) else l) }
    let s := { s with tly := { s.tly with
      rebuilds := s.tly.rebuilds.map (fun (y : Rebuild) => if y.is g r.member then { y with state := 4 } else y) } }
    (((s.setGrp g { x with want := b }).raise 0x1D6).startBrand g).vaultChanged

/-- A critical pass that has reached the last stripe is over: the rebuild runs on (R285, R286). -/
def Rebuild.leaveCritical (r : Rebuild) (stripes : Nat) : Rebuild :=
  if r.state = 2 ∧ stripes ≤ r.critCursor then { r with state := 3, critical := 0 } else r

/-- The stripe of a rebuild's entry is on media (R285). -/
def State.rebuiltStripe (s : State) (g m st : Nat) : State :=
  match s.grp? g with
  | none => s
  | some x =>
    let n := x.brand.stripes
    let upd (r : Rebuild) : Rebuild :=
      let crit := r.inflight.any (fun i => i.1 == st && i.2)
      ({ r with
        inflight := r.inflight.filter (fun i => i.1 != st), done := r.done + 1,
        recent := r.recent.filter (fun t => decide (s.nowUs < t + 10000000)) ++ [s.nowUs],
        critical := if crit then r.critical - 1 else r.critical } : Rebuild).moved.leaveCritical n
    let s := { s with tly := { s.tly with
      rebuilds := s.tly.rebuilds.map (fun (r : Rebuild) => if r.is g m then upd r else r) } }
    match s.tly.rebuilds.find? (fun r => r.is g m) with
    | some r => if r.running && r.finished n then s.rebuildDone g r else s
    | none => s

/-- The sweep has dealt with a whole stripe: the cursor moves past it, and past those swept before it (R284). -/
def sweepPast : Nat → Nat → List Nat → Nat
  | 0, c, _ => c
  | fuel + 1, c, l => if l.contains c then sweepPast fuel (c + 1) l else c

/-- A stripe has been swept; the last one returns the group to normal (R284). -/
def State.sweptStripe (s : State) (g st : Nat) : State :=
  match s.grp? g with
  | none => s
  | some x =>
    if x.verify = .normal then s
    else
      let l := st :: x.sweptToo
      let c := sweepPast (l.length + 1) x.swept l
      let x := { x with swept := c, sweptToo := l.filter (fun i => decide (c ≤ i)) }
      if x.brand.stripes ≤ c then (s.setGrp g { x with verify := .normal, swept := 0, sweptToo := [] }).raise 0x1D2
      else s.setGrp g x

/-- The entry may close: every column in DONE, or what is missing belongs to a member that a completed update records as FAILED and has no write
outstanding (R265). -/
def State.mayClose (s : State) (e : TallyEnt) (x : Grp) : Bool :=
  e.writes.zipIdx.all (fun w => w.1.done
    || (x.brand.mState (x.brand.memberOf e.stripe w.1.col) == mFailed && !s.drv.cmds.any (fun c => c.use = .tally e.id w.2)))

/-- Closes an entry and does what its kind waits for. -/
def State.closeEntry (s : State) (e : TallyEnt) (x : Grp) : State :=
  let s := { s with tly := { s.tly with entries := s.tly.entries.filter (fun (y : TallyEnt) => y.id != e.id) } }
  if e.kind = 1 ∨ e.kind = 2 then s.endDestage e.id
  else if e.kind = 3 ∨ e.kind = 5 then s.rebuiltStripe e.group e.member e.stripe
  else if e.kind = 6 ∧ e.off = 0 ∧ e.blocks = x.brand.c then s.sweptStripe e.group e.stripe
  else s

/-- Closes the entry when it may. -/
def State.settleEntry (s : State) (id : Nat) : State :=
  match s.entry? id with
  | none => s
  | some e =>
    match s.grp? e.group with
    | none => s
    | some x => if s.mayClose e x then s.closeEntry e x else s

/-- Write k of an entry is on media (R259, R265, R266). -/
def State.writeDone (s : State) (id k : Nat) : State :=
  match s.entry? id with
  | none => s
  | some e =>
    let e := { e with writes := e.writes.mapIdx (fun (i : Nat) (w : TallyWrite) => if i = k then { w with done := true } else w) }
    let e := { e with done := e.doneMask }
    ((s.setEntry e).issueEntry id).settleEntry id

/-- Every open entry of a group is looked at again once a Brand update has completed (R253, R265). -/
def State.settleGroup (s : State) (g : Nat) : State :=
  ((s.tly.entries.filter (fun e => e.group == g)).map (·.id)).foldl
    (fun (s : State) (id : Nat) => (s.issueEntry id).settleEntry id) s

/-! ## Reads of a stripe as maintenance and destage use them -/

/-- What a column's read found at position i. -/
def ColRead.at (r : ColRead) (i : Nat) : Option BlkRead :=
  match r with
  | .missing => none
  | .blocks bs => some ((bs[i]?).getD .bad)

/-- What the columns of a stripe hold at one offset: data per column (none when failing or missing), the failing and the missing columns, and those that carry the
lost marker. A block whose GUARD or LOCATOR is not that of its place fails (R237, R294). -/
structure Offset where
  vals : List (Option (List Byte))
  failing : List Nat
  missing : List Nat
  markers : List Nat
  deriving DecidableEq, Repr

/-- The column's block at this place passes its check (R173, R236, R237). -/
def blkFits (b : Blk) (st j o : Nat) : Bool :=
  b.check.guard == guard64 b.data && b.check.locator == locator st j o

/-- Reads the columns at position i, that is offset o. -/
def offsetOf (w st o i : Nat) (reads : List ColRead) : Offset :=
  (List.range w).foldl (fun (a : Offset) (j : Nat) =>
    match ((reads[j]?).getD .missing).at i with
    | none => { a with vals := a.vals ++ [none], missing := a.missing ++ [j] }
    | some .bad => { a with vals := a.vals ++ [none], failing := a.failing ++ [j] }
    | some .marker => { a with vals := a.vals ++ [some zeroBlock], markers := a.markers ++ [j] }
    | some (.good b) =>
      if blkFits b st j o then { a with vals := a.vals ++ [some b.data] }
      else { a with vals := a.vals ++ [none], failing := a.failing ++ [j] }) ⟨[], [], [], []⟩

/-- Every data column, completed by R240 where columns are gone. -/
def Offset.complete (a : Offset) (k : Nat) : Option (List (List Byte)) :=
  reconstruct 4096 (a.vals.take k) ((a.vals[k]?).getD none) ((a.vals[k + 1]?).getD none)

/-- Counts blocks rebuilt with one or two columns gone. -/
def State.countRecon (s : State) (gone : Nat) : State :=
  if gone = 1 then s.bump F.PAR_RECON_SINGLE.COUNT else if gone = 2 then s.bump F.PAR_RECON_DOUBLE.COUNT else s

/-! ## The check of a stripe (R283) -/

/-- What the check decides at one offset: blocks to write by column, and data columns to record as lost. -/
structure Verdict where
  writes : List (Nat × Blk)
  lost : List Nat
  marker : List Nat
  parity : Bool
  repaired : Nat
  deriving DecidableEq, Repr

/-- P and Q over the data. -/
def freshParity (k st o : Nat) (ds : List (List Byte)) : List (Nat × Blk) :=
  [(k, blkAt (parityP 4096 ds) 0 st k o), (k + 1, blkAt (parityQ 4096 ds) 0 st (k + 1) o)]

/-- The first row of R283 that fits at one offset; `tag` is the HOST_TAG of a reconstructed data block. -/
def checkOffset (k st o : Nat) (tag : Nat → Nat) (a : Offset) : Verdict :=
  let data := orZero 4096 (a.vals.take k)
  let p := (a.vals[k]?).getD none
  let q := (a.vals[k + 1]?).getD none
  let lostData := (a.failing ++ a.missing).filter (fun j => decide (j < k))
  let mk := a.markers.filter (fun j => decide (j < k))
  match a.failing, a.missing with
  | [], [] =>
    if p = some (parityP 4096 data) ∧ q = some (parityQ 4096 data) then ⟨[], [], mk, false, 0⟩
    else ⟨freshParity k st o data, [], mk, true, 0⟩
  | [], [x] =>
    if x < k then
      let byP := reconstruct 4096 (a.vals.take k) p none
      let byQ := reconstruct 4096 (a.vals.take k) none q
      if byP = byQ then ⟨[], [], mk, false, 0⟩ else ⟨freshParity k st o data, [x], mk, true, 0⟩
    else
      let ok := if x = k then q == some (parityQ 4096 data) else p == some (parityP 4096 data)
      if ok then ⟨[], [], mk, false, 0⟩ else ⟨(freshParity k st o data).filter (fun w => w.1 != x), [], mk, true, 0⟩
  | [], [_, _] => ⟨[], [], mk, false, 0⟩
  | fs, ms =>
    if fs ≠ [] ∧ fs.length + ms.length ≤ 2 then
      match a.complete k with
      | some full =>
        let block (j : Nat) : Blk :=
          if j < k then blkAt (full.getD j zeroBlock) (tag j) st j o
          else if j = k then blkAt (parityP 4096 full) 0 st j o else blkAt (parityQ 4096 full) 0 st j o
        ⟨fs.map (fun j => (j, block j)), [], mk, false, fs.length⟩
      | none => ⟨freshParity k st o data, lostData, mk, true, 0⟩
    else ⟨freshParity k st o data, lostData, mk, true, 0⟩

/-- Writes of one column at one offset, gathered into the writes of an entry. -/
def singleWrites (o : Nat) (ws : List (Nat × Blk)) : List TallyWrite := ws.map (fun w => ⟨w.1, o, [w.2], false, true, false⟩)

/-- Carries out the check of `blocks` offsets from `off` on: losses are recorded with `cause`, markers not yet in the table with cause 1 (R294), and the writes that have a
place. -/
def State.checkStripe (s : State) (g st off blocks cause : Nat) (reads : List ColRead) : State × List TallyWrite × Nat × Nat :=
  match s.grp? g with
  | none => (s, [], 0, 0)
  | some x =>
    let b := x.brand
    (List.range blocks).foldl (fun (acc : State × List TallyWrite × Nat × Nat) (i : Nat) =>
      let (s, ws, fixed, par) := acc
      let o := off + i
      let a := offsetOf b.w st o i reads
      let v := checkOffset b.k st o (fun j => s.rebuiltTag g (b.blockAt st j o)) a
      let s := v.marker.foldl (fun (s : State) (j : Nat) => s.recordLost g st o 1 1 (2 ^ j)) s
      let s := if v.lost.isEmpty then s else s.recordLost g st o 1 cause (colMask v.lost)
      let s := if v.repaired = 0 then s
        else (List.range v.repaired).foldl (fun (s : State) (_ : Nat) => s.countRecon (a.failing.length + a.missing.length)) s
      let lostWrites := (v.lost.filter (fun j => !a.missing.contains j)).map (fun j => (j, lostMarker))
      let placed := (v.writes ++ lostWrites).filter (fun w => (x.writePlace st w.1 o).isSome)
      (s, ws ++ singleWrites o placed, fixed + v.repaired, par + (if v.parity then 1 else 0))) (s, [], 0, 0)

/-- The class of the Skidder and the sweep (R288, R386). -/
def State.skidderClass (s : State) (critical : Bool) : Nat := if critical ∨ s.get F.SKD_CTL.PRIORITY = 3 then 5 else 2

/-- Sweeps a stripe, whole or at some offsets, under a KIND 6 entry (R283, R284). A sweep that writes nothing needs no entry. -/
def State.sweepAt (s : State) (g st off blocks : Nat) (reads : List ColRead) : State :=
  match s.grp? g with
  | none => s
  | some x =>
    if !s.tallyRoom g st then s.tallyWait ⟨6, g, st, off, blocks, 0⟩
    else
      let (s, ws, _, _) := s.checkStripe g st off blocks 2 reads
      let s := s.bumpBy F.SWP_REPAIR.COUNT ws.length
      let s := s.startBrand g
      if ws.isEmpty then
        (if off = 0 ∧ blocks = x.brand.c then s.sweptStripe g st else s)
      else s.openEntry 6 g st off blocks 0 (s.skidderClass false) .maint ws

/-- PATROL_REPAIR of a group, at most once per 10 ms (R296): kept by group. -/
def State.patrolRepair (s : State) (g : Nat) : State :=
  let key := 2048 + g
  let t := sparseGet 0 key s.dev.lastRaise
  if t ≠ 0 ∧ s.dev.timeNs < t - 1 + tenMs then s
  else ({ s with dev := { s.dev with lastRaise := sparsePut 0 key (s.dev.timeNs + 1) s.dev.lastRaise } }).raise 0x1DA

/-- A repair under KIND 4 entries with losses of cause 1: by Patrol, or for a block that a host read found unreadable (R177, R295). -/
def State.repairAt (s : State) (g st off blocks : Nat) (patrol : Bool) (reads : List ColRead) : State :=
  if !s.tallyRoom g st then s.tallyWait ⟨4, g, st, off, blocks, if patrol then 1 else 0⟩
  else
    let (s, ws, fixed, par) := s.checkStripe g st off blocks 1 reads
    let s := if patrol then
        let s := s.bumpBy F.PTL_BLOCK_REPAIR.COUNT fixed
        let s := if 0 < par then s.bump F.PTL_PARITY_REPAIR.COUNT else s
        if ws.isEmpty then s else s.patrolRepair g
      else s
    let s := s.startBrand g
    if ws.isEmpty then s
    else s.openEntry 4 g st off blocks 0 (if patrol then 1 else s.skidderClass false) .maint ws

/-! ## Destage (R219, R239, R261, R284) -/

/-- A version that may begin its destage: begun by no entry, not waiting for a map commit, its STAGED notice here (R217, R321). -/
def State.destageable (s : State) (v : Ver) : Bool :=
  v.entry == 0 && !v.mapWait && (v.noticed || s.role == roleAlone)
  && !s.cht.staging.any (fun o => o.is v.sub v.nsid v.lba && (o.entry != 0 || o.mapWait))

/-- The version to destage at a data block of a stripe. -/
def State.verAt (s : State) (g blk : Nat) : Option Ver :=
  match s.blockOwner g blk with
  | none => none
  | some (sub, n, lba) =>
    match s.staged? sub n.nsid lba with
    | some v => if s.destageable v then some v else none
    | none => none

/-- The dirty blocks of a stripe: column, offset, version. -/
def State.stripeDirty (s : State) (g : Nat) (b : Brand) (st : Nat) : List (Nat × Nat × Ver) :=
  (List.range b.k).flatMap (fun j => (List.range b.c).filterMap (fun o =>
    (s.verAt g (b.blockAt st j o)).map (fun v => (j, o, v))))

/-- Some block of the stripe is due (R219): its age, half the vault limit, a full stripe, or a destage of everything that a reset or power state asks for. -/
def State.destageDue (s : State) (b : Brand) (vs : List (Nat × Nat × Ver)) : Bool :=
  vs.any (fun v => decide (v.2.2.dirtyUs + s.cfg 0x0050 0 26 2 200 * 1000 ≤ s.nowUs))
  || decide (s.vaultLimit ≤ 2 * s.dirty) || vs.length == b.stripeBlocks
  || s.writeThrough || s.power == stToDrowse || s.power == stToFallow || s.pwr.warm.isSome

/-- A block of a staged version as its place on media takes it; a poisoned one with no partner copy becomes the lost marker (R486). -/
def verBlk (v : Ver) (st j o : Nat) : Blk := if v.poisoned then lostMarker else blkAt v.data v.hostTag st j o

/-- The data of a version as parity takes it. -/
def verData (v : Ver) : List Byte := if v.poisoned then zeroBlock else v.data

/-- P and Q of one offset after its dirty columns have changed: by R239 from the old blocks where they are readable, else over the completed data. -/
def newParity (k st o : Nat) (a : Offset) (changed : List (Nat × Ver)) : Option (List (Nat × Blk)) :=
  let p := (a.vals[k]?).getD none
  let q := (a.vals[k + 1]?).getD none
  let old := changed.map (fun c => (a.vals[c.1]?).getD none)
  match p, q, old.all (·.isSome) with
  | some p, some q, true =>
    let pq := changed.foldl (fun (pq : List Byte × List Byte) (c : Nat × Ver) =>
      let d := ((a.vals[c.1]?).getD none).getD zeroBlock
      (updateP pq.1 d (verData c.2), updateQ c.1 pq.2 d (verData c.2))) (p, q)
    some [(k, blkAt pq.1 0 st k o), (k + 1, blkAt pq.2 0 st (k + 1) o)]
  | _, _, _ =>
    match a.complete k with
    | some full => some (freshParity k st o (changed.foldl (fun (ds : List (List Byte)) (c : Nat × Ver) => ds.set c.1 (verData c.2)) full))
    | none => none

/-- Marks the versions of an entry as begun. -/
def State.begin (s : State) (vs : List Ver) (id : Nat) : State :=
  { s with cht := { s.cht with
    staging := s.cht.staging.map (fun (v : Ver) => if vs.contains v then { v with entry := id } else v) } }

/-- Destage of a stripe (R219): full stripe, or read-modify-write at the dirty offsets with what the columns hold there (`reads` from offset 0 on). -/
def State.destage (s : State) (g st : Nat) (reads : List ColRead) : State :=
  match s.grp? g with
  | none => s
  | some x =>
    let b := x.brand
    let dirty := (s.stripeDirty g b st).filter (fun d =>
      !d.2.2.poisoned || !s.partnerInStep)
    let cols := (dirty.map (·.1)).dedup ++ [b.k, b.k + 1]
    -- R253: no chunk is left unwritten until its member is recorded FAILED
    let mayLeave := cols.all (fun j => (x.writePlace st j 0).isSome || b.mState (b.memberOf st j) == mFailed)
    if dirty.isEmpty ∨ s.tly.stopped ∨ x.offline ∨ ¬ mayLeave then s
    else if x.unswept st then s.sweepAt g st 0 b.c reads
    else if !s.tallyRoom g st then s.tallyWait ⟨2, g, st, 0, b.c, 0⟩
    else
      let full := dirty.length == b.stripeBlocks
      let offs := (dirty.map (fun d => d.2.1)).dedup
      let par := offs.map (fun o =>
        let ch := (dirty.filter (fun d => d.2.1 == o)).map (fun d => (d.1, d.2.2))
        if full then
          some (freshParity b.k st o (ch.foldl (fun (ds : List (List Byte)) (c : Nat × Ver) => ds.set c.1 (verData c.2))
            (List.replicate b.k zeroBlock)))
        else (newParity b.k st o (offsetOf b.w st o o reads) ch))
      if par.any (·.isNone) then s
      else
        let lost := dirty.filter (fun d => d.2.2.poisoned)
        let s := lost.foldl (fun (s : State) (d : Nat × Nat × Ver) => (s.recordLost g st d.2.1 1 3 (2 ^ d.1)).raise 0x1A9) s
        let s := if lost.isEmpty then s else s.startBrand g
        let data := dirty.map (fun d => (⟨d.1, d.2.1, [verBlk d.2.2 st d.1 d.2.1], false, false, false⟩ : TallyWrite))
        let pw := (offs.zip par).flatMap (fun p => (p.2.getD []).map (fun w =>
          (⟨w.1, p.1, [w.2], false, true, false⟩ : TallyWrite)))
        let ws := (data ++ pw).filter (fun w => (x.writePlace st w.col w.off).isSome)
        -- a stripe that copyback has filled already is kept up on the replacement too
        let again := (data ++ pw).filter (fun w =>
          s.tly.rebuilds.any (fun r => r.copyback && r.running && r.is g (b.memberOf st w.col) && decide (st < r.next)))
        let lo := offs.foldl min b.c
        let hi := offs.foldl max 0
        let side := match dirty.head? with
          | some (_, _, v) => .half (((s.ns? v.sub v.nsid).map NsEnt.halfB).getD false)
          | none => .maint
        let s := s.begin (dirty.map (fun d => d.2.2)) (s.tly.entryCtr + 1)
        let s := s.openEntry (if full then 1 else 2) g st lo (hi + 1 - lo) 0 (if s.cht.dirtyHigh then 5 else 4) side
          (ws ++ again.map (fun w => { w with own := true }))
        s.settleEntry s.tly.entryCtr

end Sys2Proof.Machine
end

