-- ==== Sys2Proof/Machine/HostBase.lean ====
section
/-!
DEFINITION. Machine/HostBase.lean: statuses, queues and controllers, responses (R160, R163, R188), the commands in flight, and the handover of one to the
engines (R200).
-/
namespace Sys2Proof.Machine

/-! ## Statuses (R188 and the conditions of chapter 05) -/

def stOk : NvmeStatus := ⟨0, 0, 0, some false⟩
def stOpcode : NvmeStatus := ⟨0, 0x01, 0, none⟩
def stField : NvmeStatus := ⟨0, 0x02, 0, none⟩
def stTransfer : NvmeStatus := ⟨0, 0x04, 0, some true⟩
def stPowerLoss : NvmeStatus := ⟨0, 0x05, 0, some false⟩
def stInternal : NvmeStatus := ⟨0, 0x06, 0, some false⟩
def stAbortReq : NvmeStatus := ⟨0, 0x07, 0, none⟩
def stNamespace : NvmeStatus := ⟨0, 0x0B, 0, none⟩
def stSglLength : NvmeStatus := ⟨0, 0x0F, 0, none⟩
def stSglType : NvmeStatus := ⟨0, 0x11, 0, none⟩
def stDenied : NvmeStatus := ⟨0, 0x15, 0, none⟩
def stHostIdFormat : NvmeStatus := ⟨0, 0x18, 0, none⟩
def stKato : NvmeStatus := ⟨0, 0x1A, 0, none⟩
def stPreempted : NvmeStatus := ⟨0, 0x1B, 0, none⟩
def stProtected : NvmeStatus := ⟨0, 0x20, 0, none⟩
def stInterrupted : NvmeStatus := ⟨0, 0x21, 0, some false⟩
def stTransient : NvmeStatus := ⟨0, 0x22, 0, some false⟩
def stRange : NvmeStatus := ⟨0, 0x80, 0, none⟩
def stCapacity : NvmeStatus := ⟨0, 0x81, 0, none⟩
def stNotReady : NvmeStatus := ⟨0, 0x82, 1, some false⟩
def stConflict : NvmeStatus := ⟨0, 0x83, 0, none⟩
def stUnrecovered : NvmeStatus := ⟨2, 0x81, 0, some true⟩
def stPoisoned : NvmeStatus := ⟨2, 0x81, 0, some false⟩
def stGuard : NvmeStatus := ⟨2, 0x82, 0, none⟩
def stAppTag : NvmeStatus := ⟨2, 0x83, 0, none⟩
def stRefTag : NvmeStatus := ⟨2, 0x84, 0, none⟩
def stCompare : NvmeStatus := ⟨2, 0x85, 0, none⟩
def stAccess : NvmeStatus := ⟨2, 0x86, 0, none⟩
def stAuth : NvmeStatus := ⟨1, 0x91, 0, none⟩

def NvmeStatus.ok (st : NvmeStatus) : Bool := st.sct == 0 && st.sc == 0

/-! ## Queues and controllers -/

def State.nq? (s : State) (key : Nat) : Option NvmQueue := s.nvm.queues.find? (fun q => q.key == key)

def State.setNq (s : State) (q : NvmQueue) : State :=
  { s with nvm := { s.nvm with queues := s.nvm.queues.map (fun (x : NvmQueue) => if x.key = q.key then q else x) } }

def State.ctrl? (s : State) (id : Nat) : Option NvmCtrl := s.nvm.ctrls.find? (fun c => c.id == id)

def State.setCtrl (s : State) (c : NvmCtrl) : State :=
  { s with nvm := { s.nvm with ctrls := s.nvm.ctrls.map (fun (x : NvmCtrl) => if x.id = c.id then c else x) } }

def State.cmd? (s : State) (key : Nat) : Option Cmd := s.nvm.cmds.find? (fun c => c.key == key)

/-- Posts one more receive buffer of 8,256 bytes to a submission queue's work queue (R160). -/
def State.repost (s : State) (q : NvmQueue) : State :=
  match q.tr with
  | .tcp _ => s
  | .flume n _ _ _ =>
    let w := s.wq n
    s.setWq n { w with
      posted := w.posted ++ [(⟨w.rqTail % 2 ^ w.ctx.rqLog2, 0, 8256⟩ : RxBuf)], rqTail := (w.rqTail + 1) % 65536 }

/-! ## Messages of a command (R162, R163) -/

/-- The traffic class of a command: its namespace's (R163, R378); an open value where it names none. -/
def State.cmdClass (s : State) (key : Nat) : Nat :=
  match (s.cmd? key).bind (fun c => s.ns? c.sub c.cap.nsid) with
  | some n => n.cls
  | none => (Config.openClass 131071).toNat

def State.useClass (s : State) (u : MsgUse) : Nat :=
  match u with
  | .cmdPull k | .cmdData k | .cmdResp k => s.cmdClass k
  | _ => 3

/-- A Flume message that the NVMe service sends. -/
def State.hostMsg (s : State) (peer : Nat) (ip : IpAddr) (op len window winOffset aux : Nat) (src : MsgSrc) (use : MsgUse)
    (side : OutSide) (tag : Option Nat) : State :=
  let m : Msg := {
    key := s.flm.orderCtr, id := 0, dst := peer, opcode := op, len := len, sizeCode := s.ownSizeCode, window := window,
    winOffset := winOffset, aux := aux, notify := false, fence := none, solicit := false, src := src, use := use, side := side,
    desc := none, faulted := false, got := [], st := .queued, t0Us := 0, pkts := [], holdUntilUs := 0, tag := tag,
    cls := s.useClass use }
  s.submit m ip

/-- Common header of an NVMe/TCP PDU: type, flags, header length, data offset, PDU length (TCP Transport 1.1). -/
def pduHead (type flags hlen pdo plen : Nat) : List Byte :=
  leBytes 1 type ++ leBytes 1 flags ++ leBytes 1 hlen ++ leBytes 1 pdo ++ leBytes 4 plen

/-- A CRC-32C digest when the connection uses it (R164). -/
def digestOf (on : Bool) (bs : List Byte) : List Byte := if on then leBytes 4 (crc32c bs) else []

/-- The bytes of a PDU that the device sends (TCP Transport 1.1; R164). A SYN-ACK and a RST carry none. -/
def TcpOut.bytes (p : TcpOut) (hd dd : Bool) : List Byte :=
  let h := if hd then 4 else 0
  match p with
  | .synAck => []
  | .rst => []
  | .icResp pfv cpda hdgst ddgst maxH2c =>
    let b := pduHead 1 0 128 0 128 ++ leBytes 2 pfv ++ leBytes 1 cpda
      ++ leBytes 1 ((if hdgst then 1 else 0) + (if ddgst then 2 else 0)) ++ leBytes 4 maxH2c
    b ++ zeroBytes (128 - b.length)
  | .capsuleResp cqe =>
    let b := pduHead 5 (if hd then 1 else 0) 24 0 (24 + h) ++ cqe
    b ++ digestOf hd b
  | .c2hData cid off bytes last =>
    let b := pduHead 7 ((if hd then 1 else 0) + (if dd then 2 else 0) + (if last then 4 else 0)) 24 (24 + h)
        (24 + h + bytes.length + (if dd then 4 else 0))
      ++ leBytes 2 cid ++ zeroBytes 2 ++ leBytes 4 off ++ leBytes 4 bytes.length ++ zeroBytes 4
    b ++ digestOf hd b ++ bytes ++ digestOf dd bytes
  | .r2t cid off len =>
    let b := pduHead 9 (if hd then 1 else 0) 24 0 (24 + h) ++ leBytes 2 cid ++ zeroBytes 2 ++ leBytes 4 off ++ leBytes 4 len ++ zeroBytes 4
    b ++ digestOf hd b
  | .termReq => pduHead 3 0 24 0 24 ++ zeroBytes 16

/-- The fold record of a TCP segment (R330). -/
def tcpFold (seq ack flags : Nat) (bytes : List Byte) : List Byte :=
  beBytes 4 seq ++ beBytes 4 ack ++ beBytes 2 bytes.length ++ beBytes 1 flags ++ beBytes 4 (crc32c bytes) ++ zeroBytes 1

/-- A PDU on its way to egress: logical port, class, frame length. A PDU travels as one unit here: the segments of R367 depend on the connection's MSS, which no rule gives. -/
def TcpConn.out (c : TcpConn) (cls : Nat) (pdu : TcpOut) : Out :=
  .tcp c.lport cls (frameLen c.ip.v6 20 (pdu.bytes c.hdgst c.ddgst).length) c.id pdu

/-- The class of TCP traffic that no command calls for. -/
def TcpConn.openCls (c : TcpConn) : Nat := (Config.openClass (131072 + c.id)).toNat

/-- A TCP segment with payload leaves: the connection's sequence number advances (R165). It waits for the link-level acknowledgement of the input whose
sequence it acknowledges (R320). -/
def State.tcpSend (s : State) (conn cls : Nat) (side : OutSide) (pdu : TcpOut) : State :=
  match s.nvm.tcp.find? (fun c => c.id == conn) with
  | none => s
  | some c =>
    let b := pdu.bytes c.hdgst c.ddgst
    let s := s.fold 2 conn (tcpFold c.sndNxt c.rcvNxt 0x18 b)
    let s := { s with nvm := { s.nvm with
      tcp := s.nvm.tcp.map (fun (x : TcpConn) =>
        if x.id = conn then { x with sndNxt := (x.sndNxt + b.length) % 2 ^ 32 } else x) } }
    s.perform side true (c.out cls pdu)

/-! ## Responses (R160, R163, R188) -/

/-- The 16-byte completion queue entry; DNR is an open value where no rule states it. -/
def cqeBytes (dw0 dw1 sqHead qid cid : Nat) (st : NvmeStatus) (more dnr : Bool) : List Byte :=
  leBytes 4 dw0 ++ leBytes 4 dw1 ++ leBytes 2 sqHead ++ leBytes 2 qid ++ leBytes 2 cid
    ++ leBytes 2 (2 * st.sc + 2 ^ 9 * st.sct + 2 ^ 12 * st.crd + (if more then 2 ^ 14 else 0) + (if dnr then 2 ^ 15 else 0))

/-- A command that ends with an error enters the controller's Error Information log: newest first, 64 entries (R189). -/
def State.logError (s : State) (q : NvmQueue) (cid nsid : Nat) (st : NvmeStatus) : State :=
  match s.ctrl? q.ctrl with
  | none => s
  | some c =>
    if st.ok then s
    else
      let e : ErrEnt := ⟨c.errorCount + 1, q.qid, cid, st.sct * 256 + st.sc, nsid⟩
      s.setCtrl { c with errorCount := c.errorCount + 1, errors := (e :: c.errors).take 64 }

/-- The side that answers commands of a namespace (R319). -/
def State.cmdSide (s : State) (sub nsid : Nat) : OutSide := .half (((s.ns? sub nsid).map NsEnt.halfB).getD false)

/-- Sends a response on a queue. -/
def State.respondOn (s : State) (q : NvmQueue) (cid : Nat) (st : NvmeStatus) (dw0 dw1 : Nat) (side : OutSide) (key : Nat) :
    State :=
  let dnr := match st.dnr with
    | some b => b
    | none => s.free.toNat % 2 == 1
  let s := if st.dnr.isNone then s.drawn else s
  let s := s.logError q cid (((s.cmd? key).map (fun c => c.cap.nsid)).getD 0) st
  let b := cqeBytes dw0 dw1 q.sqHead q.qid cid st (!st.ok) dnr
  match q.tr with
  | .flume _ peer reply ip => s.hostMsg peer ip opSend 16 0 0 reply (.bytes b) (.cmdResp key) side none
  | .tcp conn => s.tcpSend conn (s.cmdClass key) side (.capsuleResp b)

/-- Counts what the status of a response makes count (R188, R197). -/
def State.countStatus (s : State) (st : NvmeStatus) : State :=
  if st.sct = 2 ∧ st.sc = 0x81 then (s.bump F.NVS_UNRECOVERED.COUNT).raise 0x185 else s

/-! ## The commands in flight -/

def State.setCmd (s : State) (c : Cmd) : State :=
  { s with nvm := { s.nvm with cmds := s.nvm.cmds.map (fun (x : Cmd) => if x.key = c.key then c else x) } }

/-- Commands owned by the Chute (CHT_INFLIGHT). -/
def State.chuteCmds (s : State) : Nat := (s.nvm.cmds.filter (fun c => !c.engines)).length

def chuteLimit : Nat := 131072

/-- Retires the drive commands of a host command, with their tags and buffers (R186, R200). -/
def State.dropReads (s : State) (key : Nat) : State :=
  (s.drvOf (fun u => match u with | .hostRead k _ _ => k == key | _ => false)).foldl
    (fun (s : State) (c : DrvCmd) => s.dropDrv c true) s

/-- A host command leaves the machine. -/
def State.dropCmd (s : State) (c : Cmd) : State :=
  let s := s.dropReads c.key
  { s with
    nvm := { s.nvm with cmds := s.nvm.cmds.filter (fun (x : Cmd) => x.key != c.key) }
    cht := { s.cht with superseded := s.cht.superseded.filter (· != c.key) } }

/-- A host command ends with a status. -/
def State.endCmd (s : State) (c : Cmd) (st : NvmeStatus) (dw0 : Nat := 0) : State :=
  let s := s.countStatus st
  let s : State := match s.nq? c.queue with
    | some q => s.respondOn q c.cap.cid st dw0 0 (s.cmdSide c.sub c.cap.nsid) c.key
    | none => s
  s.dropCmd c

/-! ## Handover (R200) -/

/-- The cluster whose engine roles record names HANDOVER (R466). -/
def State.handoverCluster (s : State) : Nat :=
  ((List.range 4).find? (fun c => bitOf (s.cfg 0x00B0 c 4 1 0) 0)).getD 0

/-- The Chute hands a command over: tags retired, buffers released, a record in the handover ring. -/
def State.handOver (s : State) (c : Cmd) : State :=
  if c.engines then s
  else
    let s := (s.dropReads c.key).count 4 0 1
    let k := s.handoverCluster
    let empty := (s.queue k 0).isEmpty
    let (s, full) := s.drawn.push k 0 s.free
    let s := if full then s.bump F.CHT_HANDOVER.COUNT
      else
        let s := s.bump F.CHT_HANDOVER.COUNT
        let s := if empty then s.raise 0x1A0 else s
        if 8 * (s.queue k 0).length = 7 * queueDepth 0 then s.raise 0x1A1 else s
    s.setCmd { c with engines := true }

end Sys2Proof.Machine
end

