-- ==== Sys2Proof/Machine/ResvOps.lean ====
section
/-!
DEFINITION. Machine/ResvOps.lean: asynchronous events to hosts (R166, R190) and reservations (R182 to R184) with the semantics of NVM Express.
-/
namespace Sys2Proof.Machine

/-! ## Asynchronous events (R166) -/

/-- Reports an event to a controller: through a held Asynchronous Event Request, or later (type, information, log page). -/
def State.asyncEvent (s : State) (ctrl type info log : Nat) : State :=
  match s.ctrl? ctrl with
  | none => s
  | some c =>
    match c.aer, s.nvm.queues.find? (fun q => q.ctrl == ctrl && q.qid == 0) with
    | cid :: rest, some q =>
      (s.setCtrl { c with aer := rest }).respondOn q cid stOk (type + 256 * info + 65536 * log) 0 (.half false) 0
    | _, _ =>
      if c.events.contains (type, info, log) then s else s.setCtrl { c with events := c.events ++ [(type, info, log)] }

/-- Reports an event to every controller of a subsystem. -/
def State.asyncAll (s : State) (sub type info log : Nat) : State :=
  ((s.nvm.ctrls.filter (fun c => c.sub == sub && !c.discovery)).map (·.id)).foldl
    (fun (s : State) (id : Nat) => s.asyncEvent id type info log) s

/-! ## Reservations -/

/-- A namespace without registrants. -/
def resv0 (sub nsid : Nat) : Resv := ⟨sub, nsid, 0, [], 0, none, false⟩

def State.resv (s : State) (sub nsid : Nat) : Resv :=
  (s.nvm.resv.find? (fun r => r.sub == sub && r.nsid == nsid)).getD (resv0 sub nsid)

/-- Reservation state changes: RESV_CHANGE (R197). -/
def State.setResv (s : State) (r : Resv) : State :=
  if r = s.resv r.sub r.nsid then s
  else ({ s with nvm := { s.nvm with
    resv := s.nvm.resv.filter (fun (x : Resv) => !(x.sub == r.sub && x.nsid == r.nsid)) ++ [r] } }).raise 0x189

def Resv.key? (r : Resv) (host : Nat) : Option Nat := (r.registrants.find? (fun x => x.1 == host)).map (·.2)

/-- Types 5 and 6: every registrant holds the reservation. -/
def Resv.allRegs (r : Resv) : Bool := r.rtype == 5 || r.rtype == 6

/-- A reservation is held. -/
def Resv.held (r : Resv) : Bool := if r.allRegs then !r.registrants.isEmpty else r.holder.isSome

def Resv.isHolder (r : Resv) (host : Nat) : Bool := if r.allRegs then (r.key? host).isSome else r.holder == some host

/-- A host's read or write meets the reservation (R198): types 1 and 2 leave only the holder, the others the registrants; the even types exclude
reads too. -/
def Resv.conflicts (r : Resv) (host : Nat) (write : Bool) : Bool :=
  r.held && !r.isHolder host && !(decide (3 ≤ r.rtype) && (r.key? host).isSome) && (write || r.rtype % 2 == 0)

/-- The reservation is given up. -/
def Resv.released (r : Resv) : Resv := { r with rtype := 0, holder := none }

/-- The hosts with these keys are no registrants any more. -/
def Resv.without (r : Resv) (p : Nat × Nat → Bool) : Resv := { r with registrants := r.registrants.filter (fun x => !p x) }

/-- A reservation notice to a host's controllers: 1 Registration Preempted, 2 Reservation Released, 3 Reservation Preempted (R182). -/
def State.resvNotice (s : State) (sub nsid host type : Nat) : State :=
  ((s.nvm.ctrls.filter (fun c => c.sub == sub && !c.discovery && c.hostId == host)).map (·.id)).foldl
    (fun (s : State) (id : Nat) =>
      match s.ctrl? id with
      | none => s
      | some c =>
        (s.setCtrl { c with resvCount := c.resvCount + 1, resvLog := c.resvLog ++ [(c.resvCount + 1, type, nsid)] }).asyncEvent
          id 6 0 0x80) s

/-- Notices to every registrant but one. -/
def State.resvNotices (s : State) (r : Resv) (but type : Nat) : State :=
  (r.registrants.filter (fun x => x.1 != but)).foldl
    (fun (s : State) (x : Nat × Nat) => s.resvNotice r.sub r.nsid x.1 type) s

/-- Removes a registrant, with its reservation when it goes with it. -/
def Resv.unregister (r : Resv) (host : Nat) : Resv :=
  let t := { r.without (fun x => x.1 == host) with gen := (r.gen + 1) % 2 ^ 32 }
  if r.held ∧ (r.holder = some host ∨ (r.allRegs ∧ t.registrants = [])) then t.released else t

/-- Reservation Register: the new state, or a status (R182). -/
def Resv.register (r : Resv) (host action : Nat) (ignore : Bool) (cur new ptpl : Nat) : Except NvmeStatus Resv :=
  let p := fun (x : Resv) => if ptpl = 3 then { x with ptpl := true } else if ptpl = 2 then { x with ptpl := false } else x
  let bad := match r.key? host with
    | some k => !ignore && k != cur
    | none => true
  if action = 0 then
    match r.key? host with
    | some k => if k = new then .ok (p r) else .error stConflict
    | none =>
      if 64 ≤ r.registrants.length then .error stCapacity
      else .ok (p { r with registrants := r.registrants ++ [(host, new)], gen := (r.gen + 1) % 2 ^ 32 })
  else if action = 1 then (if bad then .error stConflict else .ok (p (r.unregister host)))
  else if action = 2 then
    if bad then .error stConflict
    else .ok (p { r with
      registrants := r.registrants.map (fun x => if x.1 = host then (host, new) else x), gen := (r.gen + 1) % 2 ^ 32 })
  else .error stField

/-- Reservation Acquire, actions 1 and 2: the preempted registrants go, and the reservation when its holder is among them. -/
def Resv.preempt (r : Resv) (host rtype prkey : Nat) : Except NvmeStatus Resv :=
  let holderHit := r.held && (if r.allRegs then prkey == 0
    else match r.holder with | some h => r.key? h == some prkey | none => false)
  let gone (x : Nat × Nat) : Bool := if r.allRegs && prkey == 0 then x.1 != host else x.2 == prkey && (x.1 != host || !holderHit)
  if holderHit then
    .ok { r.without gone with
      gen := (r.gen + 1) % 2 ^ 32, rtype := rtype, holder := if rtype = 5 ∨ rtype = 6 then none else some host }
  else if prkey = 0 then .error stField
  else if r.registrants.any gone then .ok { r.without gone with gen := (r.gen + 1) % 2 ^ 32 }
  else .error stConflict

/-- The hosts that one state registers and another does not. -/
def Resv.lostHosts (old new : Resv) : List Nat := (old.registrants.filter (fun x => (new.key? x.1).isNone)).map (·.1)

/-- Ends the commands of preempted hosts that no drive command has been issued for (R184). -/
def State.abortHosts (s : State) (sub nsid : Nat) (hosts : List Nat) : State :=
  (s.nvm.cmds.filter (fun c => c.sub == sub && c.cap.nsid == nsid && !c.issued && c.st ≠ .committed && c.st ≠ .sending
    && (match s.ctrl? c.ctrl with | some x => hosts.contains x.hostId | none => false))).foldl
      (fun (s : State) (c : Cmd) => s.endCmd c stPreempted) s

/-- A reservation command with its data (R182 to R184). -/
def State.reserve (s : State) (c : Cmd) (data : List Byte) : State :=
  match s.ctrl? c.ctrl with
  | none => s.dropCmd c
  | some x =>
    let r := s.resv c.sub c.cap.nsid
    let action := c.cap.cdw10 % 8
    let ignore := bitOf c.cap.cdw10 3
    let rtype := c.cap.cdw10 / 256 % 256
    let cur := leAt data 0 8
    let mine := r.key? x.hostId == some cur
    if c.cap.opcode = 0x0D then
      match r.register x.hostId action ignore cur (leAt data 8 8) (c.cap.cdw10 / 2 ^ 30 % 4) with
      | .error st => s.endCmd c st
      | .ok t =>
        let s := s.setResv t
        let s := if r.held ∧ ¬ t.held ∧ 3 ≤ r.rtype then s.resvNotices t x.hostId 2 else s
        s.endCmd c stOk
    else if c.cap.opcode = 0x11 then
      if ignore then s.endCmd c stField
      else if !mine then s.endCmd c stConflict
      else if rtype = 0 ∨ 6 < rtype then s.endCmd c stField
      else if action = 0 then
        if r.held then s.endCmd c (if r.isHolder x.hostId ∧ r.rtype = rtype then stOk else stConflict)
        else (s.setResv { r with
          rtype := rtype, holder := if rtype = 5 ∨ rtype = 6 then none else some x.hostId }).endCmd c stOk
      else if action = 1 ∨ action = 2 then
        match r.preempt x.hostId rtype (leAt data 8 8) with
        | .error st => s.endCmd c st
        | .ok t =>
          let gone := Resv.lostHosts r t
          let s := s.setResv t
          let s := gone.foldl (fun (s : State) (h : Nat) => s.resvNotice c.sub c.cap.nsid h 1) s
          let s := if r.held ∧ (r.rtype ≠ t.rtype) then s.resvNotices t x.hostId 3 else s
          let s := if action = 2 then s.abortHosts c.sub c.cap.nsid gone else s
          s.endCmd c stOk
      else s.endCmd c stField
    else if !ignore ∧ !mine then s.endCmd c stConflict
    else if ignore ∧ (r.key? x.hostId).isNone then s.endCmd c stConflict
    else if action = 0 then
      if !r.held ∨ !r.isHolder x.hostId then s.endCmd c stOk
      else if r.rtype ≠ rtype then s.endCmd c stField
      else
        let s := s.setResv r.released
        (if 3 ≤ r.rtype then s.resvNotices r x.hostId 2 else s).endCmd c stOk
    else if action = 1 then
      let s := s.setResv { r.released with registrants := [], gen := (r.gen + 1) % 2 ^ 32 }
      (s.resvNotices r x.hostId (if r.held then 3 else 1)).endCmd c stOk
    else s.endCmd c stField

/-- The data structure of Reservation Report with 128-bit host identifiers; controllers are dynamic, so their ID reads 0xFFFF. -/
def Resv.report (r : Resv) : List Byte :=
  let head := leBytes 4 r.gen ++ leBytes 1 (if r.held then r.rtype else 0) ++ leBytes 2 r.registrants.length ++ zeroBytes 2
    ++ leBytes 1 (if r.ptpl then 1 else 0)
  head ++ zeroBytes (64 - head.length) ++ r.registrants.flatMap (fun x =>
    leBytes 2 0xFFFF ++ leBytes 1 (if r.held && r.isHolder x.1 then 1 else 0) ++ zeroBytes 5 ++ leBytes 8 x.2
      ++ leBytes 16 x.1 ++ zeroBytes 32)

end Sys2Proof.Machine
end

