-- ==== Sys2Proof/Machine/FwStore.lean ====
section
/-!
DEFINITION. Machine/FwStore.lean: firmware slots in the boot flash (R40, R549 to R553) and the delivery of an image into one of them (R555, R556).
-/
namespace Sys2Proof.Machine

/-! ## Slots (R553) -/

def State.fwSlot (s : State) (b : Bool) : FwSlot := if b then s.fw.slotB else s.fw.slotA

def State.setFwSlot (s : State) (b : Bool) (x : FwSlot) : State :=
  { s with fw := if b then { s.fw with slotB := x } else { s.fw with slotA := x } }

/-- VERSION of a slot's image; all spaces when the slot is empty (R556). -/
def FwSlot.version (x : FwSlot) : List Byte := if x.magic then sliceOf x.image 16 8 else List.replicate 8 0x20

/-- The slot that runs. -/
def State.fwRunsB (s : State) : Bool := s.flag F.FWU_STATUS.RUNNING

/-- A slot is a candidate; `verify` is the code of its last check, of which 8 and 9 stand only at activation (R552, R553). -/
def FwSlot.candidate (x : FwSlot) : Bool := x.magic && x.actSeq.isSome && !x.rejected && (x.verify == 0 || decide (8 ≤ x.verify))

/-- The slot that a delivery goes to: the one that does not run; in ROM recovery the one that is not a candidate, or that has the lower ACT_SEQ (R555, R564). -/
def State.fwTarget (s : State) : Bool :=
  if s.flag F.FWU_STATUS.RECOVERY then
    if !s.fw.slotA.candidate then false
    else if !s.fw.slotB.candidate then true
    else decide (s.fw.slotB.actSeq.getD 0 < s.fw.slotA.actSeq.getD 0)
  else !s.fwRunsB

/-! ## The checks of an image (R549, R551, R552) -/

/-- The longest image: a slot without its status sector. -/
def fwMaxLen : Nat := 0x3FF0000

/-- Lengths agree, and the bytes that no table lists are 0. -/
def fwShape (img : List Byte) : Bool :=
  let len := leAt img 8 4
  let body := leAt img 12 4
  let sg := 256 + body
  len == 256 + body + 208 && decide (len ≤ fwMaxLen) && decide (1 ≤ body) && img.length == len && decide (leAt img 0x18 1 ≤ 64)
    && allZero (sliceOf img 0x19 1) && allZero (sliceOf img 0x26 2) && allZero (sliceOf img 0xB0 76) && allZero (sliceOf img (sg + 4) 4)
    && allZero (sliceOf img (sg + 105) 7)

/-- The code of R552 for an image, codes 0x01 to 0x07: `rev` is GLB_REV.REVISION and `fused` the fused security version. -/
def fwImageCode (rev fused : Nat) (img : List Byte) (chk : FwChecks) : Nat :=
  let sg := 256 + leAt img 12 4
  if sliceOf img 0 4 ≠ asciiBytes "KFWI" ∨ leAt img 4 2 ≠ 1 ∨ leAt img 0xFC 4 ≠ crc32c (img.take 0xFC) then 1
  else if !fwShape img then 2
  else if leAt img 0x1A 2 ≠ 0x0480 ∨ rev < leAt img 0x1C 1 ∨ leAt img 0x1D 1 < rev then 3
  else if leAt img sg 2 ≠ 1 ∨ leAt img (sg + 2) 2 ≠ 0xFFFF ∨ !chk.sigOk then 4
  else if leAt img 0x18 1 < fused then 5
  else if !chk.tagsOk then 6
  else if !chk.digestOk then 7
  else 0

/-- A slot's image is checked: VERIFY takes the code, and FW_VERIFY_FAIL is raised when it is not 0 (R552, R567). -/
def State.fwCheck (s : State) (b : Bool) (chk : FwChecks) : State × Nat :=
  let code := fwImageCode (s.get F.GLB_REV.REVISION) s.dev.fuseSecurity (s.fwSlot b).image chk
  let s := s.setFwSlot b { s.fwSlot b with verify := code }
  (if code = 0 then s else s.raise 0x4E1, code)

/-! ## Delivery (R555, R556) -/

/-- A delivery opens: the target's status sector is erased. -/
def State.fwOpen (s : State) (len : Nat) : State :=
  let s := s.setFwSlot s.fwTarget fwSlot0
  { s with fw := { s.fw with delivery := some (len, 0) } }

/-- A block is programmed behind what has been delivered. -/
def State.fwProgram (s : State) (data : List Byte) : State :=
  let b := s.fwTarget
  let x := s.fwSlot b
  let s := s.setFwSlot b { x with image := x.image ++ data }
  { s with fw := { s.fw with delivery := s.fw.delivery.map (fun (d : Nat × Nat) => (d.1, d.2 + data.length)) } }

/-- The delivery ends. -/
def State.fwClose (s : State) : State := { s with fw := { s.fw with delivery := none } }

/-- The delivered image is checked: it takes its MAGIC, or the slot stays without. -/
def State.fwVerify (s : State) (chk : FwChecks) : State × Nat :=
  let b := s.fwTarget
  let (s, code) := s.fwClose.fwCheck b chk
  if code = 0 then ((s.setFwSlot b { s.fwSlot b with magic := true }).raise 0x4E0, 0) else (s, code)

def stOverlap : NvmeStatus := ⟨1, 0x14, 0, none⟩
def stFwSlot : NvmeStatus := ⟨1, 0x06, 0, none⟩
def stFwImage : NvmeStatus := ⟨1, 0x07, 0, none⟩
def stFwProhibited : NvmeStatus := ⟨1, 0x13, 0, none⟩

/-- A piece of a Firmware Image Download: in order from offset 0; the first one names the image length (R556). -/
def State.fwPiece (s : State) (c : Cmd) (data : List Byte) : State :=
  let off := 4 * c.cap.cdw11
  match s.fw.delivery with
  | none =>
    let len := leAt data 8 4
    if off ≠ 0 then s.endCmd c stOverlap
    else if data.length < 12 ∨ len < 464 ∨ fwMaxLen < len ∨ len < data.length then s.endCmd c stField
    else ((s.fwOpen len).fwProgram data).endCmd c stOk
  | some (len, n) =>
    if off = n ∧ n + data.length ≤ len then (s.fwProgram data).endCmd c stOk else s.endCmd c stOverlap

end Sys2Proof.Machine
end

