-- ==== Sys2Proof/Machine/HostIo.lean ====
section
/-!
DEFINITION. Machine/HostIo.lean: the life of a host command (R162, R163, R174 to R177, R181, R186, R198 to R208, R215, R216): its capsule, its data, its member
reads with reconstruction, its commit point, its response.
-/
namespace Sys2Proof.Machine

/-! ## Host data layout (R172, R174, R176) -/

/-- PRINFO of a command (NVM Command Set): PRACT and PRCHK. -/
def Capsule.pract (c : Capsule) : Bool := bitOf c.cdw12 29
def Capsule.prchkGuard (c : Capsule) : Bool := bitOf c.cdw12 28
def Capsule.prchkApp (c : Capsule) : Bool := bitOf c.cdw12 27
def Capsule.prchkRef (c : Capsule) : Bool := bitOf c.cdw12 26

/-- First block and number of blocks of an I/O command. -/
def Capsule.slba (c : Capsule) : Nat := c.cdw10 + 2 ^ 32 * c.cdw11
def Capsule.nlb (c : Capsule) : Nat := c.cdw12 % 65536 + 1

/-- Bytes of one block as the host transfers it. -/
def hostUnit (lbaf : Nat) (pract : Bool) : Nat := 4096 + (if pract then 0 else metaBytes lbaf)

/-- The reference tag of a block (R172). -/
def refTag (lbaf lba : Nat) : Nat := if lbaf = 1 then lba % 2 ^ 32 else lba % 2 ^ 48

/-- Protection information of a block toward the host, in the byte order of the NVM Command Set (R176). -/
def hostPi (lbaf : Nat) (data : List Byte) (tag lba : Nat) (dealloc : Bool) : List Byte :=
  if lbaf = 0 then []
  else if dealloc then List.replicate (metaBytes lbaf) 0xFF
  else if lbaf = 1 then beBytes 2 (guard16 data) ++ beBytes 2 tag ++ beBytes 4 (refTag 1 lba)
  else beBytes 8 (guard64 data) ++ beBytes 2 tag ++ beBytes 6 (refTag 2 lba)

/-- Tag comparison of PRCHK: the expected tag of the command under its mask, the reference tag from the block (R174, R176). -/
def tagCheck (c : Capsule) (i tag : Nat) (ref lba : Nat) (lbaf : Nat) : Option NvmeStatus :=
  let mask := c.cdw15 / 65536
  if tag = 0xFFFF then none
  else if c.prchkApp ∧ tag &&& mask ≠ (c.cdw15 % 65536) &&& mask then some stAppTag
  else if c.prchkRef ∧ (ref ≠ refTag lbaf lba ∨ (c.cdw14 + i) % 2 ^ 32 ≠ ref % 2 ^ 32) then some stRefTag
  else none

/-- Host data of one block of a Write: data and HOST_TAG, or the check that failed (R174, R175). -/
def takeBlock (c : Capsule) (lbaf i lba : Nat) (u : List Byte) : Except NvmeStatus (List Byte × Nat) :=
  let d := u.take 4096
  let m := u.drop 4096
  if lbaf = 0 ∨ c.pract then .ok (d, 0)
  else
    let g := if lbaf = 1 then beNat (m.take 2) else beNat (m.take 8)
    let tag := if lbaf = 1 then beNat (sliceOf m 2 2) else beNat (sliceOf m 8 2)
    let ref := if lbaf = 1 then beNat (sliceOf m 4 4) else beNat (sliceOf m 10 6)
    if tag ≠ 0xFFFF ∧ g ≠ (if lbaf = 1 then guard16 d else guard64 d) then .error stGuard
    else match tagCheck c i tag ref lba lbaf with
      | some st => .error st
      | none => .ok (d, tag)

/-- Every block of a Write, or the first check that fails. -/
def takeBlocks (c : Capsule) (lbaf unit lba : Nat) : Nat → Nat → List Byte → Except NvmeStatus (List (List Byte × Nat))
  | 0, _, _ => .ok []
  | n + 1, i, bs =>
    match takeBlock c lbaf i (lba + i) (bs.take unit), takeBlocks c lbaf unit lba n (i + 1) (bs.drop unit) with
    | .error e, _ => .error e
    | .ok _, .error e => .error e
    | .ok b, .ok rest => .ok (b :: rest)

/-! ## Responses to a Write (R215, R216, R525) -/

/-- The STAGED notice of a command has come, or none is waited for: ALONE, Solo, no partner in step, or this controller does not serve the
command's half (R216). -/
def State.noticeHere (s : State) (c : Cmd) : Bool :=
  s.role == roleAlone || !s.inPair || !s.partnerInStep || !s.issues (s.cmdSide c.sub c.cap.nsid)
  || s.wsw.staged.contains (c.ctrl, c.cap.cid, ((s.nq? c.queue).map (·.qid)).getD 0, c.commitStep)

/-- Some block of the command is still dirty here. -/
def State.cmdDirty (s : State) (c : Cmd) : Bool :=
  s.cht.staging.any (fun v => v.sub == c.sub && v.nsid == c.cap.nsid && v.commitStep == c.commitStep
    && decide (c.slba ≤ v.lba) && decide (v.lba < c.slba + c.nlb))

/-- Answers a committed Write once its condition holds. -/
def State.ackWrite (s : State) (key : Nat) : State :=
  match s.cmd? key with
  | none => s
  | some c =>
    if c.st = .committed ∧ s.noticeHere c ∧ ¬ (s.writeThrough ∧ s.cmdDirty c) then s.endCmd c stOk else s

/-- Every committed Write is looked at again. -/
def State.ackWrites (s : State) : State :=
  ((s.nvm.cmds.filter (fun c => c.st = .committed)).map (·.key)).foldl (fun (s : State) (k : Nat) => s.ackWrite k) s

/-! ## Reads (R198, R206, R207) -/

/-- DEGRADED_READ, at most once per group per 10 ms (R226): kept by group. -/
def State.degradedEvent (s : State) (g : Nat) : State :=
  let key := 2100 + g
  let t := sparseGet 0 key s.dev.lastRaise
  if t ≠ 0 ∧ s.dev.timeNs < t - 1 + tenMs then s
  else ({ s with dev := { s.dev with lastRaise := sparsePut 0 key (s.dev.timeNs + 1) s.dev.lastRaise } }).raise 0x1A6

/-- The columns whose answers a run waits for: the block's own, or every other one that R207 reads, with Q for the engines. -/
def State.runCols (s : State) (c : Cmd) (r : HostRun) : List Nat :=
  match s.grp? r.group with
  | none => []
  | some x =>
    if !r.degraded then [r.col]
    else
      let want := (List.range x.brand.k).filter (· != r.col) ++ (if c.engines then [x.brand.k, x.brand.k + 1] else [x.brand.k])
      want.filter (fun j => !s.colMissing r.group x r.stripe j r.off r.n)

/-- Issues the member reads of a run that are neither answered nor outstanding. -/
def State.issueRun (s : State) (key idx : Nat) : State :=
  match s.cmd? key with
  | none => s
  | some c =>
    match c.runs[idx]? with
    | none => s
    | some r =>
      match s.grp? r.group with
      | none => s
      | some x =>
        if r.waitSweep then s
        else
          let cols := (s.runCols c r).filter (fun j => !r.got.any (fun g => g.1 == j)
            && !s.drv.cmds.any (fun d => d.use = .hostRead key idx j))
          let cls := ((s.ns? c.sub c.cap.nsid).map (·.cls)).getD 5
          let s := if cols.isEmpty then s else s.setCmd { c with issued := true }
          cols.foldl (fun (s : State) (j : Nat) =>
            match s.readPlace x r.stripe j r.off with
            | some p => s.memberCmd (s.cmdSide c.sub c.cap.nsid) x p nvRead r.n cls true [] (.hostRead key idx j)
            | none => s) s

/-- A run needs the other columns: members missing decide whether the Chute still serves it (R198, R207, R208, R284). -/
def State.degradeRun (s : State) (key idx : Nat) (failed : Bool) : State :=
  match s.cmd? key with
  | none => s
  | some c =>
    match c.runs[idx]? with
    | none => s
    | some r =>
      match s.grp? r.group with
      | none => s
      | some x =>
        let gone := (s.missingCols r.group x r.stripe r.off r.n ++ [r.col]).dedup.length
        let first := !c.runs.any (·.degraded)
        let r' := { r with
          degraded := true, got := [], bad := r.bad || failed, waitSweep := x.unswept r.stripe }
        let c' := { c with runs := c.runs.set idx r' }
        let s := if first ∧ !c.engines then (s.bump F.CHT_DEGRADED.COUNT).count 4 0 3 else s
        let s := (s.setCmd c').degradedEvent r.group
        if !c.engines ∧ (1 < gone ∨ r'.waitSweep) then
          let s := s.handOver c'
          (List.range c'.runs.length).foldl (fun (s : State) (k : Nat) => s.issueRun key k) s
        else s.issueRun key idx

/-- What a run has once its columns have answered: the blocks, none when they cannot be had, or nothing yet. -/
inductive RunEnd where
  | waits
  | blocks (bs : List RdBlk)
  | fails
  deriving DecidableEq, Repr

/-- The columns of a run at one position. -/
def HostRun.vals (r : HostRun) (k i : Nat) : List (Option (List Byte)) :=
  (List.range (k + 2)).map (fun j =>
    match r.got.find? (fun g => g.1 == j) with
    | some (_, some bs) => (bs[i]?).map (·.data)
    | _ => none)

/-- Looks at a run. -/
def State.runEnd (s : State) (c : Cmd) (r : HostRun) : RunEnd :=
  match s.grp? r.group with
  | none => .fails
  | some x =>
    let cols := s.runCols c r
    if r.waitSweep || !cols.all (fun j => r.got.any (fun g => g.1 == j)) then .waits
    else if !r.degraded then
      match r.got.find? (fun g => g.1 == r.col) with
      | some (_, some bs) => .blocks bs
      | _ => .fails
    else
      let k := x.brand.k
      let full := (List.range r.n).map (fun i =>
        let v := r.vals k i
        reconstruct 4096 (v.take k) ((v[k]?).getD none) ((v[k + 1]?).getD none))
      if full.any (·.isNone) then .fails
      else .blocks (full.mapIdx (fun i ds =>
        ⟨((ds.getD []).getD r.col zeroBlock), s.rebuiltTag r.group (x.brand.blockAt r.stripe r.col (r.off + i)), false⟩))

/-- The data of a Read as the host takes them, or the tag check that fails (R176). -/
def readBytes (c : Cmd) : Except NvmeStatus (List Byte) :=
  (c.rd.zipIdx).foldl (fun (acc : Except NvmeStatus (List Byte)) (b : Option RdBlk × Nat) =>
    match acc, b.1 with
    | .error e, _ => .error e
    | .ok bs, none => .ok bs
    | .ok bs, some x =>
      let lba := c.slba + b.2
      if c.cap.pract ∧ c.lbaf ≠ 0 ∧ !x.dealloc then
        match tagCheck c.cap b.2 x.hostTag (refTag c.lbaf lba) lba c.lbaf with
        | some st => .error st
        | none => .ok (bs ++ x.data)
      else if c.cap.pract then .ok (bs ++ x.data)
      else .ok (bs ++ x.data ++ hostPi c.lbaf x.data x.hostTag lba x.dealloc)) (.ok [])

/-- Sends a command's data to the host: one Flume WRITE into the named window, or TCP data PDUs followed by the response (R163). -/
def State.sendData (s : State) (c : Cmd) (bytes : List Byte) : State :=
  let side := s.cmdSide c.sub c.cap.nsid
  match s.nq? c.queue with
  | none => s.dropCmd c
  | some q =>
    match q.tr with
    | .flume _ peer _ ip =>
      (s.setCmd { c with st := .sending }).hostMsg peer ip opWrite bytes.length c.cap.sglKey c.cap.sglAddr 0 (.bytes bytes)
        (.cmdData c.key) side none
    | .tcp conn => (s.tcpSend conn (s.cmdClass c.key) side (.c2hData c.cap.cid 0 bytes true)).endCmd c stOk

/-- A command whose blocks are all at hand goes on by its opcode: Read sends them, Compare compares them and their metadata with the host's, Verify ends (R168). -/
def State.haveBlocks (s : State) (c : Cmd) : State :=
  if c.cap.opcode = 0x02 then
    match readBytes c with
    | .error st => s.endCmd c st
    | .ok bs => s.sendData c bs
  else if c.cap.opcode = 0x05 then
    match readBytes c with
    | .error st => s.endCmd c st
    | .ok bs => s.endCmd c (if bs == c.data then stOk else stCompare)
  else s.endCmd c stOk

/-- Puts the blocks of a run in their places; a run that met an unreadable block has it rewritten (R177, R207). -/
def State.fillRun (s : State) (c : Cmd) (idx : Nat) (r : HostRun) (bs : List RdBlk) : State :=
  let rd := (bs.zipIdx).foldl (fun (rd : List (Option RdBlk)) (b : RdBlk × Nat) => rd.set (r.first + b.2) (some b.1)) c.rd
  let c' := { c with rd := rd, runs := c.runs.set idx { r with n := 0, got := [], bad := false } }
  let s := s.setCmd c'
  let s := if r.degraded then (List.range r.n).foldl (fun (s : State) (_ : Nat) => s.countRecon 1) s else s
  let s :=
    if r.bad then
      let ws := bs.mapIdx (fun i (b : RdBlk) =>
        (⟨r.col, r.off + i, [blkAt b.data b.hostTag r.stripe r.col (r.off + i)], false, true, false⟩ : TallyWrite))
      if s.tallyRoom r.group r.stripe then s.openEntry 4 r.group r.stripe r.off r.n 0 (s.skidderClass false) .maint ws
      else s.tallyWait ⟨4, r.group, r.stripe, r.off, r.n, 0⟩
    else s
  if rd.all (·.isSome) then s.haveBlocks c' else s

/-- Looks at a run once more. -/
def State.advanceRun (s : State) (key idx : Nat) : State :=
  match s.cmd? key with
  | none => s
  | some c =>
    match c.runs[idx]? with
    | none => s
    | some r =>
      if r.n = 0 then s
      else match s.runEnd c r with
        | .waits => s.issueRun key idx
        | .blocks bs => s.fillRun c idx r bs
        | .fails =>
          if !r.degraded then s.degradeRun key idx true
          else if c.engines then s.endCmd c stUnrecovered
          else
            let s := s.handOver (c : Cmd)
            match s.cmd? key with
            | none => s
            | some c =>
              let s := s.setCmd { c with runs := c.runs.map (fun (x : HostRun) => { x with got := [] }) }
              (List.range c.runs.length).foldl (fun (s : State) (k : Nat) => s.issueRun key k) s

/-- A column of a run has answered: the blocks read, or none for an error, a timeout or a failed check. -/
def State.runResult (s : State) (key idx col : Nat) (res : Option (List RdBlk)) : State :=
  match s.cmd? key with
  | none => s
  | some c =>
    match c.runs[idx]? with
    | none => s
    | some r =>
      let s := s.setCmd { c with runs := c.runs.set idx { r with
        got := r.got.filter (fun g => g.1 != col) ++ [(col, res)] } }
      s.advanceRun key idx

/-- A read came back poisoned: it is read again once; the second time the command ends (R188). -/
def State.runPoisoned (s : State) (key idx : Nat) : State :=
  match s.cmd? key with
  | none => s
  | some c =>
    match c.runs[idx]? with
    | none => s
    | some r =>
      if r.poisonedOnce then s.endCmd c stPoisoned
      else (s.setCmd { c with runs := c.runs.set idx { r with poisonedOnce := true } }).issueRun key idx

/-- Runs of a read whose stripe has been swept go on (R284). -/
def State.resumeSwept (s : State) : State :=
  (s.nvm.cmds.filter (fun c => c.runs.any (·.waitSweep))).foldl (fun (s : State) (c : Cmd) =>
    let c' := { c with runs := c.runs.map (fun (r : HostRun) =>
      match s.grp? r.group with
      | some x => if r.waitSweep && !x.unswept r.stripe then { r with waitSweep := false } else r
      | none => r) }
    let s := s.setCmd c'
    (List.range c'.runs.length).foldl (fun (s : State) (k : Nat) => s.advanceRun c.key k) s) s

/-- Where a block of a read is: staging, nowhere (deallocated), lost, or a column of a stripe. -/
inductive BlkAt where
  | staged (v : Ver)
  | none_
  | lost
  | member (g st col off : Nat)
  deriving DecidableEq, Repr

/-- Looks a block up (R206, R292). -/
def State.locate (s : State) (sub : Nat) (n : NsEnt) (lba : Nat) : BlkAt :=
  match s.staged? sub n.nsid lba with
  | some v => .staged v
  | none =>
    if s.tly.lostSegs.any (fun l => l.1 == sub && l.2.1 == n.nsid && l.2.2.1 == lba) then .lost
    else match s.groupBlock n lba, s.grp? n.group with
      | some b, some x =>
        let p := x.brand.mapBlock b
        if x.want.lostAt p.stripe p.col p.off then .lost else .member n.group p.stripe p.col p.off
      | _, _ => .none_

/-- Joins a block to the last run when it follows it in the same column. -/
def addToRuns (rs : List HostRun) (g st col off i : Nat) : List HostRun :=
  match rs.getLast? with
  | some r =>
    if r.group = g ∧ r.stripe = st ∧ r.col = col ∧ r.off + r.n = off ∧ r.first + r.n = i then
      rs.dropLast ++ [{ r with n := r.n + 1 }]
    else rs ++ [⟨g, st, col, off, 1, i, [], false, false, false, false⟩]
  | none => [⟨g, st, col, off, 1, i, [], false, false, false, false⟩]

/-- Starts the reads of a command (Read, Compare, Verify): R206 block by block, then the conditions of R198 stripe by stripe. -/
def State.startRead (s : State) (c : Cmd) (n : NsEnt) : State :=
  let at_ := (List.range c.nlb).map (fun i => s.locate c.sub n (c.slba + i))
  if at_.any (· == .lost) then s.endCmd c stUnrecovered
  else if at_.any (fun a => match a with | .staged v => v.poisoned && !s.partnerInStep | _ => false) then
    (s.raise 0x1A9).endCmd c stUnrecovered
  else
    let hits := (at_.filter (fun a => match a with | .staged _ => true | _ => false)).length
    let rd := at_.map (fun a => match a with
      | .staged v => some (⟨v.data, v.hostTag, false⟩ : RdBlk)
      | .none_ => some ⟨zeroBlock, 0, true⟩
      | _ => none)
    let runs := (at_.zipIdx).foldl (fun (rs : List HostRun) (a : BlkAt × Nat) =>
      match a.1 with
      | .member g st col off => addToRuns rs g st col off a.2
      | _ => rs) []
    let c := { c with rd := rd, runs := runs, st := .reading }
    let s := ((s.bumpBy F.CHT_STAGING_HIT.COUNT hits).count 4 0 4 hits).setCmd c
    if runs.isEmpty then s.haveBlocks c
    else
      let two := runs.any (fun r => match s.grp? r.group with
        | some x => decide (1 < (s.missingCols r.group x r.stripe r.off r.n).length)
        | none => false)
      let s := if two && !c.engines then s.handOver c else s
      (List.range runs.length).foldl (fun (s : State) (k : Nat) =>
        match s.cmd? c.key with
        | none => s
        | some c =>
          match c.runs[k]? with
          | none => s
          | some r =>
            match s.grp? r.group with
            | none => s
            | some x =>
              if s.colMissing r.group x r.stripe r.col r.off r.n then s.degradeRun c.key k false
              else s.issueRun c.key k) s

/-! ## Writes (R33, R174, R181, R198) -/

/-- A migration of the namespace is in its cutover: its writes are held (R299). -/
def State.cutover (s : State) (sub nsid : Nat) : Bool :=
  s.tly.migs.any (fun m => m.sub == sub && m.nsid == nsid && m.state == 2)

/-- The write would exceed the dirty limit, or its namespace is cut over (R33, R299). -/
def State.mustHold (s : State) (c : Cmd) : Bool := decide (s.dirtyLimit < s.dirty + c.nlb) || s.cutover c.sub c.cap.nsid

/-- Every block of a write is held with its check field: it waits for its commit point, or is held at the limit. -/
def State.writeHeldBlocks (s : State) (c : Cmd) : State :=
  if s.mustHold c then
    let s := if s.dirtyLimit < s.dirty + c.nlb then
        { s with cht := { s.cht with limited := true } }.raise 0x1A5 else s
    s.setCmd { c with st := .held, heldUs := s.nowUs }
  else s.setCmd { c with st := .staged }

/-- Deallocates one block: its versions leave staging, its bitmap bit is set, its loss is forgotten (R168, R203, R292). -/
def State.deallocBlock (s : State) (sub : Nat) (n : NsEnt) (lba : Nat) : State :=
  let s := match s.homeBlock n lba, s.grp? n.group with
    | some b, some x =>
      let p := x.brand.mapBlock b
      s.unlose n.group p.stripe p.col p.off
    | _, _ => s
  let e := lba / extentSize
  let x := s.extent n.map e
  let s := if x.state = 0 then s
    else s.setExtent n.map e { x with
      state := 2, dealloc := withBit (if x.state = 2 then x.dealloc else 0) (lba % extentSize) }
  { s with
    cht := { s.cht with staging := s.cht.staging.filter (fun (v : Ver) => !(v.is sub n.nsid lba)) }
    tly := { s.tly with lostSegs := s.tly.lostSegs.filter (fun l => !(l.1 == sub && l.2.1 == n.nsid && l.2.2.1 == lba)) } }

/-- The granule of a block is marked for the next pass of a migration (R299). -/
def State.markMig (s : State) (sub nsid lba : Nat) : State :=
  { s with tly := { s.tly with
    migs := s.tly.migs.map (fun (m : Mig) =>
      if m.sub = sub ∧ m.nsid = nsid ∧ (m.state = 1 ∨ m.state = 2) then { m with marked := insertNat (lba / 16) m.marked }
      else m) } }

/-- Deallocates ranges of a namespace; the command ends once the map commit that holds the deallocation is done (R251), at once when nothing is
allocated there. -/
def State.deallocRanges (s : State) (c : Cmd) (n : NsEnt) (rs : List (Nat × Nat)) : State :=
  let blocks := rs.flatMap (fun r => List.range' r.1 r.2)
  let touched := blocks.any (fun l => (s.extent n.map (l / extentSize)).state != 0)
  let s := blocks.foldl (fun (s : State) (l : Nat) => (s.deallocBlock c.sub n l).markMig c.sub n.nsid l) s
  let s := s.startBrand n.group
  if touched then s.setCmd { c with st := .mapping } else s.endCmd c stOk

/-- The ranges of Dataset Management: 16 bytes each, length at 4, LBA at 8 (NVM Command Set). -/
def dsmRanges (nr : Nat) (data : List Byte) : List (Nat × Nat) :=
  (List.range nr).map (fun i => (leAt data (16 * i + 8) 8, leAt data (16 * i + 4) 4))

/-- Dataset Management with its ranges (R168): only AD acts. -/
def State.deallocate (s : State) (c : Cmd) (data : List Byte) : State :=
  match s.ns? c.sub c.cap.nsid with
  | none => s.endCmd c stNamespace
  | some n =>
    let rs := dsmRanges (c.cap.cdw10 % 256 + 1) data
    if bitOf c.cap.cdw11 2 = false then s.endCmd c stOk
    else if rs.any (fun r => decide (n.size < r.1 + r.2)) then s.endCmd c stRange
    else s.deallocRanges c n rs

/-- A command's data are here: of a Write the host's protection information is checked (R174, R175); a Compare goes on to read (R168). -/
def State.dataHere (s : State) (c : Cmd) (data : List Byte) : State :=
  if c.cap.opcode = 0x11 ∧ (s.nq? c.queue).any (fun q => q.qid == 0) then s.fwPiece { c with data := [] } data
  else if c.cap.opcode = 0x09 then s.deallocate { c with data := [] } data
  else if c.cap.opcode = 0x05 then
    match s.ns? c.sub c.cap.nsid with
    | some n => s.startRead { c with data := data } n
    | none => s.endCmd c stNamespace
  else if c.cap.opcode ≠ 0x01 then s.reserve { c with data := [] } data
  else match takeBlocks c.cap c.lbaf (hostUnit c.lbaf c.cap.pract) c.slba c.nlb 0 data with
  | .error st => ((s.bump F.NVS_PI_HOST.COUNT).raise 0x183).endCmd c st
  | .ok bs =>
    s.writeHeldBlocks { c with data := [], blocks := bs }

/-- Pulls a write's data from the host's window by one Flume READ, once a read tag is free (R129, R162). -/
def State.pull (s : State) (c : Cmd) : State :=
  match s.nq? c.queue with
  | none => s.dropCmd c
  | some q =>
    match q.tr with
    | .tcp conn => s.tcpSend conn (s.cmdClass c.key) (s.cmdSide c.sub c.cap.nsid) (.r2t c.cap.cid 0 c.cap.sglLen)
    | .flume _ peer _ ip =>
      match s.freeTag with
      | none => s
      | some i =>
        let gen := (s.rdTag i).gen
        let key := s.flm.orderCtr
        (s.holdTag i key).hostMsg peer ip opRead c.cap.sglLen c.cap.sglKey c.cap.sglAddr (gen * 2 ^ 24 + i)
          (.bytes (zeroBytes c.cap.sglLen)) (.cmdPull c.key) (s.cmdSide c.sub c.cap.nsid) (some i)

/-- The data descriptor says that the data lie in the capsule (R162). -/
def Capsule.inCapsule (c : Capsule) : Bool := c.sglId == 0x01

/-- Takes or fetches the data of a command that the host sends data with. -/
def State.fetchData (s : State) (c : Cmd) : State :=
  if c.cap.inCapsule then s.dataHere c (sliceOf c.cap.data c.cap.sglAddr c.cap.sglLen)
  else
    let c := { c with st := .pulling }
    (s.setCmd c).pull c

/-- Commands whose pull found no read tag free try again. -/
def State.retryPulls (s : State) : State :=
  (s.nvm.cmds.filter (fun c => c.st = .pulling && !c.cap.inCapsule
    && !s.flm.msgs.any (fun m => m.use = .cmdPull c.key))).foldl (fun (s : State) (c : Cmd) =>
      match s.nq? c.queue with
      | some q => (match q.tr with | .flume _ _ _ _ => s.pull c | .tcp _ => s)
      | none => s) s

/-! ## The end of a command's messages (R163, R188) -/

/-- Status of a command whose transfer with the host failed. -/
def transferStatus (st : DescStatus) (reason : Nat) : NvmeStatus :=
  match st with
  | .nack => if 7 ≤ reason ∧ reason ≤ 10 then stTransfer else { stTransfer with dnr := none }
  | .timeout => stTransient
  | _ => stInternal

/-- What a message of a command ended with. -/
def State.cmdReport (s : State) (r : MsgReport) : State :=
  match r.use with
  | .cmdPull k =>
    match s.cmd? k with
    | none => s
    | some c => if r.status = .success then s.dataHere c r.data else s.endCmd c (transferStatus r.status r.reason)
  | .cmdData k =>
    match s.cmd? k with
    | none => s
    | some c => s.endCmd c (if r.status = .success then stOk else transferStatus r.status r.reason)
  | .cmdResp _ => if r.status = .timeout then s.ledger (Config.ledgerCode 163).toNat 4 0 else s
  | _ => s

end Sys2Proof.Machine
end

