-- ==== Sys2Proof/Machine/NvmeOps.lean ====
section
/-!
DEFINITION. Machine/NvmeOps.lean: how a capsule reaches its command (R160, R166 to R168, R196, R198): which row of the table it is for, room in the Chute, the head of
its queue, the conditions of an I/O command; and the end of a queue or controller (R166, R185, R196).
-/
namespace Sys2Proof.Machine

/-! ## Which command a capsule is -/

def fabricsOp : Nat := 0x7F

/-- FCTYPE of a fabrics command: byte 4 of the capsule. -/
def Capsule.fctype (c : Capsule) : Nat := c.nsid % 256

def fabricsTypes : List Nat := [0x00, 0x01, 0x04, 0x05, 0x06, 0x08]
def adminOps : List Nat := [0x02, 0x06, 0x08, 0x09, 0x0A, 0x0C, 0x10, 0x11, 0x18]
def discoveryOps : List Nat := [0x02, 0x06, 0x18]
def ioOps : List Nat := [0x00, 0x01, 0x02, 0x05, 0x08, 0x09, 0x0C, 0x0D, 0x0E, 0x11, 0x15]

/-- The kinds of command a row stands for: fabrics by FCTYPE, admin by opcode, I/O by opcode. -/
inductive RowKind where
  | fabrics (t : Nat)
  | admin (op : Nat)
  | io (op : Nat)
  deriving DecidableEq, Repr

/-- What a capsule on a queue is; none when the queue supports no such command (R166, R168). -/
def kindOf (q : NvmQueue) (discovery : Bool) (c : Capsule) : Option RowKind :=
  if c.opcode = fabricsOp then (if fabricsTypes.contains c.fctype then some (.fabrics c.fctype) else none)
  else if q.qid = 0 then
    if (if discovery then discoveryOps else adminOps).contains c.opcode then some (.admin c.opcode) else none
  else if ioOps.contains c.opcode then some (.io c.opcode) else none

/-! ## Taking a capsule -/

/-- The capsule is taken from its submission queue slot: the head moves on, the receive buffer is posted again, the idle time restarts (R160, R537). -/
def State.takeSlot (s : State) (q : NvmQueue) : State × NvmQueue :=
  let q := { q with sqHead := (q.sqHead + 1) % (q.sqSize + 1) }
  ((s.hostCommand.setNq q).repost q, q)

/-- A command enters the machine (R186 times it from here). -/
def State.newCmd (s : State) (q : NvmQueue) (sub : Nat) (cap : Capsule) : State × Cmd :=
  let c : Cmd := {
    key := s.nvm.cmdCtr + 1, queue := q.key, ctrl := q.ctrl, cap := cap, sub := sub, slba := cap.slba, nlb := cap.nlb,
    lbaf := ((s.ns? sub cap.nsid).map (·.lbaf)).getD 0, engines := false, st := .reading, acceptedUs := s.nowUs, heldUs := 0,
    alerted := false, data := [], gotBytes := 0, blocks := [], rd := [], runs := [], commitStep := 0, issued := false,
    extents := [] }
  ({ s with nvm := { s.nvm with cmdCtr := s.nvm.cmdCtr + 1, cmds := s.nvm.cmds ++ [c] } }, c)

/-- A capsule for the row of kind `k`: `f` carries the command out. Past the point of no return of Fallow entry nothing reaches NVMe (R188). With the Chute full the
capsule waits in its slot (R198). An opcode that the queue does not support is handed over and ends with Invalid Command Opcode; a queue that has not authenticated takes only
fabrics commands (R196). A capsule that another row stands for is left to it. -/
def State.onCapsule (s : State) (key : Nat) (cap : Capsule) (k : RowKind) (f : State → NvmQueue → Cmd → State) : State :=
  match s.nq? key with
  | none => s
  | some q =>
    if !s.consumes || s.pwr.hostBusy then s
    else
      match s.ctrl? q.ctrl with
      | none => s
      | some x =>
        match kindOf q x.discovery cap with
        | some k' =>
          if k' ≠ k then s
          else if chuteLimit ≤ s.chuteCmds then { s with nvm := { s.nvm with waiting := s.nvm.waiting ++ [(key, cap)] } }
          else
            let (s, q) := (s.count 4 0 0).takeSlot q
            let (s, c) := s.newCmd q x.sub cap
            if !q.authed && cap.opcode != fabricsOp then s.endCmd c stAuth else f s q c
        | none =>
          if chuteLimit ≤ s.chuteCmds then { s with nvm := { s.nvm with waiting := s.nvm.waiting ++ [(key, cap)] } }
          else
            let (s, q) := (s.count 4 0 0).takeSlot q
            let (s, c) := s.newCmd q x.sub cap
            (s.handOver c).endCmd { c with engines := true } (if !q.authed && cap.opcode != fabricsOp then stAuth else stOpcode)

/-- A command that the Chute hands over at parse: `f` is what firmware does (R198, R200). -/
def byEngines (f : State → NvmQueue → Cmd → State) (s : State) (q : NvmQueue) (c : Cmd) : State :=
  f (s.handOver c) q { c with engines := true }

/-! ## Conditions of an I/O command (R157, R167, R168, R188, R198, R202) -/

/-- The access of a controller's host to its subsystem: READ and WRITE (R155, R168). A host that only ANY_HOST admits has both. -/
def State.hostAccess (s : State) (x : NvmCtrl) : Bool × Bool :=
  match (s.hostList x.sub).find? (fun h => h.digest == x.hostDigest && (h.peer == 0 || h.peer == x.peer)) with
  | some h => (bitOf h.access 0, bitOf h.access 1)
  | none => (s.subFlag x.sub 1, s.subFlag x.sub 1)

/-- What an I/O command does to the namespace's data. -/
inductive IoUse where
  | reads | writes | neither
  deriving DecidableEq, Repr

/-- The blocks of a command lie in its namespace; `ranged` says that the command names blocks. -/
def Cmd.inRange (c : Cmd) (n : NsEnt) : Bool := decide (c.slba + c.nlb ≤ n.size)

/-- The conditions of an I/O command in the order in which they are looked at: the namespace, its protection and the host's access, the reservation, the range, the
power loss, a migration into the namespace, the extent map, the group. -/
def State.ioGate (s : State) (c : Cmd) (use : IoUse) (ranged : Bool) : Except NvmeStatus NsEnt :=
  match s.ns? c.sub c.cap.nsid, s.ctrl? c.ctrl with
  | some n, some x =>
    let acc := s.hostAccess x
    if use = .writes ∧ (n.readOnly ∨ ¬ acc.2) then .error stProtected
    else if use = .reads ∧ ¬ acc.1 then .error stAccess
    else if use ≠ .neither ∧ (s.resv c.sub n.nsid).conflicts x.hostId (use = .writes) then .error stConflict
    else if ranged ∧ ¬ c.inRange n then .error stRange
    else if use = .writes ∧ s.tly.stopped then .error stPowerLoss
    else if use = .writes ∧ s.tly.migsIn.any (fun m => m.sub == c.sub && m.nsid == n.nsid) then .error stNotReady
    else if use ≠ .neither ∧ (¬ s.mapValid n.map ∨ ¬ s.groupServes n.group) then .error stNotReady
    else .ok n
  | _, _ => .error stNamespace

/-- A command that ends with Namespace Not Ready because its map is not VALID leaves a Ledger record (R188, R202). -/
def State.gateFails (s : State) (c : Cmd) (st : NvmeStatus) : State :=
  let s := match s.ns? c.sub c.cap.nsid with
    | some n => if st = stNotReady ∧ ¬ s.mapValid n.map then s.ledgerLimited (Config.ledgerCode 202).toNat 4 0 else s
    | none => s
  s.endCmd c st

/-- The data descriptor suits a command whose data go in the given direction (R162, and TCP Transport 1.1 on a connection): in the capsule only toward the device. -/
def sglFits (q : NvmQueue) (c : Capsule) (toDevice : Bool) : Bool :=
  match q.tr with
  | .flume _ _ _ _ => c.sglId / 16 == 4 || (c.sglId == 0x01 && toDevice)
  | .tcp _ => c.sglId == 0x5A || (c.sglId == 0x01 && toDevice)

/-- The descriptor and the length of a command's data, and MDTS (R152, R162). -/
def State.sglGate (_s : State) (q : NvmQueue) (c : Cmd) (len : Nat) (toDevice : Bool) : Option NvmeStatus :=
  if ¬ sglFits q c.cap toDevice then some stSglType
  else if 2097152 < len then some stField
  else if c.cap.sglLen ≠ len then some stSglLength
  else none

/-! ## The end of queues and controllers -/

/-- A queue leaves: its commands are dropped, its work queue is reset, its TCP connection is gone. -/
def State.deleteQueue (s : State) (q : NvmQueue) : State :=
  let s := (s.nvm.cmds.filter (fun c => c.queue == q.key)).foldl (fun (s : State) (c : Cmd) => s.dropCmd c) s
  let s := { s with nvm := { s.nvm with
    queues := s.nvm.queues.filter (fun (x : NvmQueue) => x.key != q.key)
    waiting := s.nvm.waiting.filter (fun w => w.1 != q.key) } }
  match q.tr with
  | .flume wq _ _ _ => s.resetWq wq
  | .tcp conn => { s with nvm := { s.nvm with tcp := s.nvm.tcp.filter (fun (t : TcpConn) => t.id != conn) } }

/-- A controller is deleted with its queues. -/
def State.deleteCtrl (s : State) (id : Nat) : State :=
  let s := (s.nvm.queues.filter (fun q => q.ctrl == id)).foldl (fun (s : State) (q : NvmQueue) => s.deleteQueue q) s
  { s with nvm := { s.nvm with ctrls := s.nvm.ctrls.filter (fun (c : NvmCtrl) => c.id != id) } }

/-- Deletes the controller of an admin queue, or an I/O queue alone (R196). -/
def State.deleteFor (s : State) (q : NvmQueue) : State := if q.qid = 0 then s.deleteCtrl q.ctrl else s.deleteQueue q

end Sys2Proof.Machine
end

