-- ==== Sys2Proof/Machine/NvmeFabrics.lean ====
section
/-!
DEFINITION. Machine/NvmeFabrics.lean: the fabrics commands (R158, R159, R166, R194 to R196), with the TCP rows of R164 and R165.
-/
namespace Sys2Proof.Machine

/-! ## Connect (R158, R159) -/

/-- Where a Connect capsule came from: a Flume peer at an address, or a TCP connection. -/
def connectFrom (s : State) : ConnFrom → Option (Nat × Bool)
  | .flume peer _ => some (peer, false)
  | .tcp conn => (s.nvm.tcp.find? (fun t => t.id == conn)).map (fun t => (0, t.discovery))

/-- The bytes of a name field without its zero padding. -/
def nqnOf (bs : List Byte) : List Byte := bs.takeWhile (· != 0)

/-- Connect data (R159, NVMe over Fabrics): host identifier, controller ID, REPLY_WQ, the two names. -/
def connectData (d : List Byte) : ConnectData :=
  ⟨leAt d 0 16, leAt d 16 2, leAt d 18 2, nqnOf (sliceOf d 256 256), nqnOf (sliceOf d 512 256)⟩

/-- NQN_DIGEST of R155. -/
def nqnDigest (nqn : List Byte) : Nat := leNat ((sha384 nqn).take 16)

def discoveryNqn : List Byte := asciiBytes "nqn.2014-08.org.nvmexpress.discovery"

/-- Index under which the model keeps controllers of the discovery subsystem. -/
def discoverySub : Nat := 256

def stConnect (ipo iattr : Nat) : NvmeStatus × Nat := (⟨1, 0x82, 0, none⟩, ipo + 65536 * iattr)
def stConnectHost : NvmeStatus × Nat := (⟨1, 0x84, 0, none⟩, 0)
def stConnectBusy : NvmeStatus × Nat := (⟨1, 0x81, 0, none⟩, 0)

/-- The subsystem that a name selects on a transport: the discovery one, or an enabled one offered there. -/
def State.connectSub (s : State) (c : ConnFrom) (disc : Bool) (nqn : List Byte) : Option Nat :=
  let tcp := match c with
    | .tcp _ => true
    | .flume _ _ => false
  if nqn = discoveryNqn then (if !tcp || disc then some discoverySub else none)
  else if tcp && disc then none
  else (s.instancesOf 0x0070).find? (fun i =>
    s.subFlag i 0 && s.subFlag i (if tcp then 5 else 4)
      && nqnOf (sliceOf ((s.record 0x0070 i).getD []) 32 256) == nqn)

/-- The host may use the subsystem (R155, R158): ANY_HOST, or an entry of its digest whose PEER fits. -/
def State.hostAdmitted (s : State) (sub : Nat) (c : ConnFrom) (digest : Nat) : Bool :=
  sub == discoverySub ||
  match (s.hostList sub).filter (fun h => h.digest == digest) with
  | [] => s.subFlag sub 1
  | es => match c with
    | .flume peer _ => es.any (fun h => h.peer == 0 || h.peer == peer)
    | .tcp _ => true

/-- The first condition of R158 that fails, with Dword 0 of the response; none when the Connect is admitted. -/
def State.connectFault (s : State) (c : ConnFrom) (disc : Bool) (cap : Capsule) (d : ConnectData) : Option (NvmeStatus × Nat) :=
  match s.connectSub c disc d.subNqn with
  | none => some (stConnect 256 1)
  | some sub =>
    let qid := cap.cdw10 / 65536
    let size := cap.cdw11 % 65536
    let kato := cap.cdw12
    let host := nqnDigest d.hostNqn
    let mine := s.nvm.ctrls.find? (fun x => x.id == d.cntlid && x.sub == sub && x.hostDigest == host && x.hostId == d.hostId)
    if ¬ s.hostAdmitted sub c host then some stConnectHost
    else if qid ≠ 0 ∧ mine.isNone then some (stConnect 16 1)
    else if qid ≠ 0 ∧ (sub = discoverySub ∨ s.cfg 0x0070 sub 12 2 1 < qid
        ∨ s.nvm.queues.any (fun q => q.ctrl == d.cntlid && q.qid == qid)) then some (stConnect 42 0)
    else if (if qid = 0 then size ≠ 31 else size < 31 ∨ 1023 < size) then some (stConnect 44 0)
    else if qid = 0 ∧ sub ≠ discoverySub ∧ kato ≠ 0 ∧ kato < s.cfg 0x0070 sub 20 4 5000 then some (stKato, 0)
    else
      let full : Bool := match c with
        | .flume _ _ => qid != 0 && decide (16384 ≤ (s.nvm.queues.filter (fun q => q.key < 65536 && q.qid != 0)).length)
        | .tcp conn => s.nvm.queues.any (fun q => q.key == 65536 + conn)
      if (qid = 0 ∧ 8192 ≤ s.nvm.ctrls.length) ∨ full = true then some stConnectBusy else none

/-- A new controller ID, 1 to 8,192, and a new work queue, 1 to 24,576: open values pick them. -/
def State.newCtrlId (s : State) (n : Nat) : Nat :=
  ((pickFree 8193 8192 n (fun i => s.nvm.ctrls.any (fun c => c.id == i + 1))).getD 0) + 1

def State.newQueueWq (s : State) (n : Nat) : Nat :=
  ((pickFree 24577 24576 n (fun i => s.nvm.queues.any (fun q => q.key == i + 1) || (s.wq (i + 1)).st ≠ .closed)).getD 0) + 1

/-- The work queue of a new submission queue: open, with SQSIZE + 1 receive buffers, for the peer alone (R159, R160). -/
def State.openSq (s : State) (wq peer size : Nat) : State :=
  s.setWq wq { wqClosed with
    st := .open_
    ctx := { wqClosed.ctx with rqLog2 := 10, cqLog2 := 16, scope := peer }
    posted := (List.range (size + 1)).map (fun i => (⟨i, 0, 8256⟩ : RxBuf))
    rqTail := size + 1 }

/-- Creates the queue of an admitted Connect, with its controller when it is an admin queue. -/
def State.createQueue (s : State) (c : ConnFrom) (sub : Nat) (cap : Capsule) (d : ConnectData) : State × NvmQueue × Nat :=
  let qid := cap.cdw10 / 65536
  let size := cap.cdw11 % 65536
  let (s, id) := if qid = 0 then (s.drawn, s.newCtrlId s.free.toNat) else (s, d.cntlid)
  let peer := match c with
    | .flume p _ => p
    | .tcp _ => 0
  let s :=
    if qid ≠ 0 then s
    else
      let x : NvmCtrl := {
        id := id, sub := sub, discovery := sub == discoverySub, hostDigest := nqnDigest d.hostNqn, hostId := d.hostId, peer := peer,
        katoMs := cap.cdw12, aliveUs := s.nowUs, aer := [], events := [], features := [], cc := 0, csts := 0, changedNs := [],
        resvLog := [], resvCount := 0, errors := [], errorCount := 0 }
      { s with nvm := { s.nvm with ctrls := s.nvm.ctrls ++ [x] } }
  let auth := sub ≠ discoverySub ∧ s.subFlag sub 2
  let (s, key, tr, wq) := match c with
    | .flume p ip =>
      let w := s.newQueueWq s.free.toNat
      (s.drawn.openSq w p size, w, Transport.flume w p d.replyWq ip, w)
    | .tcp conn => (s, 65536 + conn, Transport.tcp conn, 0)
  let q : NvmQueue := {
    key := key, ctrl := id, qid := qid, tr := tr, sqSize := size, sqHead := 0, authed := !auth, authStep := 0, authFailed := false }
  ({ s with nvm := { s.nvm with queues := s.nvm.queues ++ [q] } }, q, wq)

/-- CONNECT: a refusal creates nothing, is counted and raises CONNECT_REFUSED (R158, R197). The response to a refused Connect goes where its data say. -/
def State.connect (s : State) (c : ConnFrom) (cap : Capsule) : State :=
  match connectFrom s c with
  | none => s
  | some (_, disc) =>
    if !s.consumes || s.pwr.hostBusy || cap.opcode != fabricsOp || cap.fctype != 1 then s
    else
      let d := connectData cap.data
      let s := s.hostCommand
      let tr := match c with
        | .flume p ip => Transport.flume 0 p d.replyWq ip
        | .tcp conn => Transport.tcp conn
      match s.connectFault c disc cap d with
      | some (st, dw0) =>
        let s := (s.bump F.NVS_CONNECT_REFUSED.COUNT).raise 0x180
        s.respondOn ⟨0, 0, cap.cdw10 / 65536, tr, 31, 0, false, 0, false⟩ cap.cid st dw0 0 (.half false) 0
      | none =>
        match s.connectSub c disc d.subNqn with
        | none => s
        | some sub =>
          let (s, q, wq) := s.createQueue c sub cap d
          s.respondOn q cap.cid stOk (q.ctrl + (if q.authed then 0 else 2 ^ 17)) wq (.half false) 0

def execConnect (frm : ConnFrom) (cap : Capsule) (s : State) : Result := .next (s.inStep (fun s => s.connect frm cap))

/-! ## Properties (R166) -/

/-- CAP: MQES, CQR, DSTRD 0, the command sets; TO is an open value, kept to its byte. -/
def capProperty (tmo : Nat) : Nat := 1023 + 2 ^ 16 + tmo % 256 * 2 ^ 24 + 2 ^ 37 + 2 ^ 43

/-- The value of a property by its offset, and its size in bytes; none for an offset that holds none. -/
def propertyOf (x : NvmCtrl) (tmo off : Nat) : Option (Nat × Nat) :=
  if off = 0x00 then some (capProperty tmo, 8)
  else if off = 0x08 then some (0x00020100, 4)
  else if off = 0x14 then some (x.cc, 4)
  else if off = 0x1C then some (x.csts, 4)
  else none

/-- Property Get: the size asked for must be that of the property. -/
def State.propertyGet (s : State) (_q : NvmQueue) (c : Cmd) : State :=
  match s.ctrl? c.ctrl with
  | none => s.dropCmd c
  | some x =>
    match propertyOf x s.free.toNat c.cap.cdw11 with
    | some (v, n) =>
      if (if c.cap.cdw10 % 8 = 1 then 8 else 4) = n then
        let s := if c.cap.cdw11 = 0 then s.drawn else s
        let t := s.dropCmd c
        match t.nq? c.queue with
        | some q => t.respondOn q c.cap.cid stOk (v % 2 ^ 32) (v / 2 ^ 32) (t.cmdSide c.sub 0) c.key
        | none => t
      else s.endCmd c stField
    | none => s.endCmd c stField

def execPropertyGet (queue : Nat) (cap : Capsule) (s : State) : Result :=
  .next (s.inStep (fun s => s.onCapsule queue cap (.fabrics 0x04) (byEngines State.propertyGet)))

/-- A controller reset by CC.EN going from 1 to 0: its I/O queues, held requests and commands go; a shutdown by CC.SHN completes at once. -/
def State.writeCc (s : State) (x : NvmCtrl) (v : Nat) : State :=
  let on := bitOf v 0
  let was := bitOf x.cc 0
  let s := if was && !on then
      (s.nvm.queues.filter (fun q => q.ctrl == x.id && q.qid != 0)).foldl (fun (s : State) (q : NvmQueue) => s.deleteQueue q) s
    else s
  let aer := if was && !on then [] else x.aer
  let shst := if v / 2 ^ 14 % 4 ≠ 0 then 8 else 0
  s.setCtrl { x with cc := v, csts := (if on then 1 else 0) + shst, aer := aer }

/-- Property Set: CC alone can be written. -/
def State.propertySet (s : State) (_q : NvmQueue) (c : Cmd) : State :=
  match s.ctrl? c.ctrl with
  | none => s.dropCmd c
  | some x =>
    if c.cap.cdw11 = 0x14 ∧ c.cap.cdw10 % 8 = 0 then (s.writeCc x c.cap.cdw12).endCmd c stOk
    else s.endCmd c stField

def execPropertySet (queue : Nat) (cap : Capsule) (s : State) : Result :=
  .next (s.inStep (fun s => s.onCapsule queue cap (.fabrics 0x00) (byEngines State.propertySet)))

/-! ## Disconnect -/

/-- Disconnect answers and removes an I/O queue; on an admin queue it ends with Invalid Queue Type (NVMe over Fabrics). -/
def State.disconnect (s : State) (q : NvmQueue) (c : Cmd) : State :=
  if q.qid = 0 then s.endCmd c ⟨1, 0x85, 0, none⟩ else (s.endCmd c stOk).deleteQueue q

def execDisconnect (queue : Nat) (cap : Capsule) (s : State) : Result :=
  .next (s.inStep (fun s => s.onCapsule queue cap (.fabrics 0x08) (byEngines State.disconnect)))

/-! ## In-band authentication (R194 to R196) -/

/-- Message types of DH-HMAC-CHAP (NVM Express 2.1). -/
def authNegotiate : Nat := 0x00
def authReply : Nat := 0x02
def authSuccess2 : Nat := 0x04

/-- The step that follows a message that verifies: 1 negotiated, 2 challenge sent, 3 reply good, 4 Success1 sent and Success2 awaited, 5 done. -/
def nextAuth (step kind : Nat) : Option Nat :=
  if kind = authNegotiate then some 1
  else if step = 2 ∧ kind = authReply then some 3
  else if step = 4 ∧ kind = authSuccess2 then some 5
  else none

/-- Authentication has failed: counted, AUTH_FAIL; AUTH_Failure1 goes with the next Authentication Receive, which then deletes (R196). -/
def State.authFails (s : State) (q : NvmQueue) : State :=
  ((s.setNq { q with authFailed := true, authed := false }).bump F.NVS_AUTH_FAIL.COUNT).raise 0x181

/-- Authentication Send with a message as its checks leave it. -/
def State.authSend (m : AuthMsg) (s : State) (q : NvmQueue) (c : Cmd) : State :=
  let s := s.endCmd c stOk
  let q := (s.nq? q.key).getD q
  match m.ok, nextAuth q.authStep m.kind with
  | true, some n => s.setNq { q with authStep := n, authed := q.authed || n == 5 }
  | _, _ => s.authFails q

def execAuthSend (queue : Nat) (cap : Capsule) (m : AuthMsg) (s : State) : Result :=
  .next (s.inStep (fun s => s.onCapsule queue cap (.fabrics 0x05) (byEngines (State.authSend m))))

/-- Authentication Receive: the challenge after a negotiation, Success1 after a good reply, with which one-way authentication is done; AUTH_Failure1 after a failure, then the
controller or queue is deleted. The message's nonces and group values are open, so its bytes come with the step. -/
def State.authReceive (m : AuthMsg) (s : State) (q : NvmQueue) (c : Cmd) : State :=
  if q.authFailed then
    let s := s.sendData c (m.bytes.take c.cap.sglLen)
    s.deleteFor q
  else
    let bidir := (s.ctrl? q.ctrl).any (fun x => s.subFlag x.sub 3)
    let (step, done) := if q.authStep = 1 then (2, false)
      else if q.authStep = 3 then (if bidir then (4, false) else (5, true))
      else (q.authStep, false)
    let s := s.setNq { q with authStep := step, authed := q.authed || done }
    s.sendData c (m.bytes.take c.cap.sglLen)

def execAuthReceive (queue : Nat) (cap : Capsule) (m : AuthMsg) (s : State) : Result :=
  .next (s.inStep (fun s => s.onCapsule queue cap (.fabrics 0x06) (byEngines (State.authReceive m))))

/-! ## NVMe/TCP (R164, R165, R542) -/

def tcpLimit : Nat := 4096

/-- TCP_SYN: a connection opens, or is refused with a RST when 4,096 exist; segments are dropped past the point of no return (R542). -/
def State.tcpSyn (conn : TcpConn) (s : State) : State :=
  if !s.consumes || s.pwr.hostBusy || s.nvm.tcp.any (fun t => t.id == conn.id) then s
  else if tcpLimit ≤ s.nvm.tcp.length then
    (((s.bump F.NVS_TCP_REFUSED.COUNT).raise 0x18C).fold 2 conn.id (tcpFold 0 conn.rcvNxt 0x14 [])).perform .numbering true
      (conn.out conn.openCls .rst)
  else
    let s := { s with nvm := { s.nvm with tcp := s.nvm.tcp ++ [{ conn with
      ready := false, hdgst := false, ddgst := false, maxr2t := 0, sndNxt := (s.free.toNat + 1) % 2 ^ 32 }] } }
    (s.drawn.fold 2 conn.id (tcpFold s.free.toNat conn.rcvNxt 0x12 [])).perform .numbering true (conn.out conn.openCls .synAck)

def execTcpSyn (conn : TcpConn) (s : State) : Result := .next (s.inStep (State.tcpSyn conn))

/-- Sends a C2HTermReq. -/
def State.termReq (s : State) (conn : Nat) : State :=
  match s.nvm.tcp.find? (fun (c : TcpConn) => c.id == conn) with
  | some c => s.perform .numbering true (c.out c.openCls .termReq)
  | none => s

/-- A connection ends: with the queue it carries. -/
def State.tcpEnd (s : State) (conn : Nat) : State :=
  match s.nq? (65536 + conn) with
  | some q => s.deleteQueue q
  | none => { s with nvm := { s.nvm with tcp := s.nvm.tcp.filter (fun (t : TcpConn) => t.id != conn) } }

/-- Bytes of a PDU as it came over the connection, with the digests in use. -/
def TcpPdu.size (p : TcpPdu) (hd dd : Bool) : Nat :=
  let h := if hd then 4 else 0
  let d := if dd then 4 else 0
  match p with
  | .icReq _ _ _ _ => 128
  | .cmd c => 72 + h + c.data.length + (if c.data.isEmpty then 0 else d)
  | .h2cData _ _ bytes _ => 24 + h + bytes.length + d
  | .term => 24
  | .unknown => 24

/-- A command's data arrive in H2CData PDUs in order; with the last one they are complete (R164). -/
def State.h2cData (s : State) (conn cid off : Nat) (bytes : List Byte) (last : Bool) : State :=
  match s.nvm.cmds.find? (fun c => c.queue == 65536 + conn && c.cap.cid == cid && c.st = .pulling) with
  | none => s.tcpEnd conn
  | some c =>
    if off ≠ c.gotBytes ∨ c.cap.sglLen < off + bytes.length ∨ 131072 < bytes.length then
      (s.termReq conn).tcpEnd conn
    else
      let c := { c with data := c.data ++ bytes, gotBytes := off + bytes.length }
      if c.gotBytes = c.cap.sglLen then (s.setCmd c).dataHere c c.data
      else if last then (s.termReq conn).tcpEnd conn
      else s.setCmd c

/-- TCP_PDU_RX: `hdOk` and `ddOk` say whether the digests in use hold. A wrong header digest, an unknown type or an inconsistent length ends the connection; a wrong data
digest ends its command with Transient Transport Error (R165). A capsule's command is a row of its own. -/
def State.tcpPdu (conn : Nat) (pdu : TcpPdu) (hdOk ddOk : Bool) (s : State) : State :=
  match s.nvm.tcp.find? (fun t => t.id == conn) with
  | none => s
  | some t =>
    if !s.consumes then s
    else if s.pwr.hostBusy then
      match pdu with
      | .cmd _ => s.wakeSource
      | _ => s
    else
      let t := { t with rcvNxt := (t.rcvNxt + pdu.size t.hdgst t.ddgst) % 2 ^ 32 }
      let s := { s with nvm := { s.nvm with tcp := s.nvm.tcp.map (fun (x : TcpConn) => if x.id = conn then t else x) } }
      if !hdOk then (s.termReq conn).tcpEnd conn
      else match pdu with
        | .icReq hpda hd dd maxr2t =>
          if t.ready || decide (31 < hpda) then (s.termReq conn).tcpEnd conn
          else
            let s := { s with nvm := { s.nvm with tcp := s.nvm.tcp.map (fun (x : TcpConn) =>
              if x.id = conn then { t with ready := true, maxr2t := min 16 (maxr2t + 1) } else x) } }
            let s := s.tcpSend conn (Config.openClass (131072 + conn)).toNat .numbering (.icResp 0 0 hd dd 131072)
            { s with nvm := { s.nvm with tcp := s.nvm.tcp.map (fun (x : TcpConn) =>
              if x.id = conn then { x with hdgst := hd, ddgst := dd } else x) } }
        | .h2cData cid off bytes last =>
          if !t.ready then (s.termReq conn).tcpEnd conn
          else if !ddOk then
            match s.nvm.cmds.find? (fun c => c.queue == 65536 + conn && c.cap.cid == cid) with
            | some c => s.endCmd c stTransient
            | none => s
          else s.h2cData conn cid off bytes last
        | .cmd c =>
          if !t.ready then (s.termReq conn).tcpEnd conn
          else if !ddOk then
            match s.nq? (65536 + conn) with
            | some q =>
              let (s, q) := s.takeSlot q
              s.respondOn q c.cid stTransient 0 0 (s.cmdSide 0 c.nsid) 0
            | none => s.tcpEnd conn
          else s
        | .term => s.tcpEnd conn
        | .unknown => (s.termReq conn).tcpEnd conn

def execTcpPduRx (conn : Nat) (pdu : TcpPdu) (hdOk ddOk : Bool) (s : State) : Result :=
  .next (s.inStep (State.tcpPdu conn pdu hdOk ddOk))

/-- RUNT_CAPSULE: discarded without a response, counted, RUNT_CAPSULE raised; its receive buffer is posted again (R160, R161). -/
def execRuntCapsule (queue : Nat) (s : State) : Result :=
  .next (s.inStep (fun s =>
    match s.nq? queue with
    | some q => ((s.repost q).bump F.NVS_RUNT_CAPSULE.COUNT).raise 0x18B
    | none => s))

end Sys2Proof.Machine
end

