-- ==== Sys2Proof/Machine/NvmePages.lean ====
section
/-!
DEFINITION. Machine/NvmePages.lean: the data of Identify (R170, R171) and of the log pages (R189 to R193), at the offsets of NVM Express and of this spec's tables.
-/
namespace Sys2Proof.Machine

/-- A page of `n` bytes with fields at their offsets, the rest zero. -/
def pageOf (n : Nat) (fields : List (Nat × List Byte)) : List Byte :=
  fields.foldl (fun (p : List Byte) (f : Nat × List Byte) => overlayBytes p f.1 f.2) (zeroBytes n)

/-- Upper-case hexadecimal digit. -/
def hexDigit (n : Nat) : Byte := BitVec.ofNat 8 (if n < 10 then 48 + n else 55 + n)

/-- `w` hexadecimal digits of a number, most significant first. -/
def hexText (w n : Nat) : List Byte := (List.range w).map (fun i => hexDigit (n / 16 ^ (w - 1 - i) % 16))

/-- `w` decimal digits of a number. -/
def decText (w n : Nat) : List Byte := (List.range w).map (fun i => BitVec.ofNat 8 (48 + n / 10 ^ (w - 1 - i) % 10))

/-- A decimal number without leading zeros, below 1,000. -/
def decShort (n : Nat) : List Byte := if n < 10 then decText 1 n else if n < 100 then decText 2 n else decText 3 n

/-- Text padded with spaces. -/
def spaced (n : Nat) (t : List Byte) : List Byte := t.take n ++ List.replicate (n - t.length) 0x20

/-! ## Identify (R170, R171) -/

def State.subNqn (s : State) (sub : Nat) : List Byte :=
  if sub = discoverySub then padTo 256 discoveryNqn else sliceOf ((s.record 0x0070 sub).getD []) 32 256

/-- Identify Controller (R170). -/
def State.identifyCtrl (s : State) (x : NvmCtrl) : List Byte :=
  pageOf 4096 [
    (0, leBytes 2 0x1F7E), (2, leBytes 2 0x1F7E),
    (4, hexText 16 s.shelfId ++ decText 3 x.sub ++ [0x20]),
    (24, spaced 40 (asciiBytes "Krovust KVC480 Cymen shelf")),
    (64, (s.fwSlot s.fwRunsB).version),
    (76, [0x02]), (77, [9]), (78, leBytes 2 x.id), (80, leBytes 4 0x00020100),
    (92, leBytes 4 0x300), (111, [if x.discovery then 2 else 1]),
    (256, leBytes 2 (if s.subFlag x.sub 6 then 4 else 0)), (258, [3]), (259, [3]), (260, [0x14]), (261, [0x06]), (262, [63]),
    (320, leBytes 2 1),
    (512, [0x66]), (513, [0x44]), (514, leBytes 2 1024), (516, leBytes 4 4096), (520, leBytes 2 0x00AD),
    (526, leBytes 2 15), (528, leBytes 2 15), (536, leBytes 4 0x00100005),
    (768, s.subNqn x.sub),
    (1792, leBytes 4 516), (1796, leBytes 4 1), (1803, [1]), (1804, leBytes 2 1)]

/-- Blocks allocated to a namespace (NUSE). -/
def State.nsUsed (s : State) (n : NsEnt) : Nat :=
  min n.size (((s.cht.ext.filter (fun e => e.1 / 2 ^ 32 == n.map)).map (fun (e : Nat × ExtEnt) =>
    if e.2.state = 1 then extentSize else if e.2.state = 2 then extentSize - popCount extentSize e.2.dealloc else 0)).sum)

/-- Identify Namespace (R171); C is the chunk in blocks of the namespace's group. -/
def State.identifyNs (s : State) (n : NsEnt) : List Byte :=
  let c := ((s.grp? n.group).map (fun x => x.brand.c)).getD (s.cfg 0x0060 n.group 8 2 64 / 4)
  let pi := decide (n.lbaf ≠ 0)
  pageOf 4096 [
    (0, leBytes 8 n.size), (8, leBytes 8 n.size), (16, leBytes 8 (s.nsUsed n)),
    (24, [0x03]), (25, [2]), (26, leBytes 1 (n.lbaf + (if pi then 16 else 0))), (27, [0x01]), (28, [0x11]),
    (29, [if pi then 1 else 0]), (31, [0xFF]), (33, [0x09]),
    (34, leBytes 2 (min 16 c - 1)), (36, leBytes 2 (min 16 c - 1)), (40, leBytes 2 (c - 1)), (44, leBytes 2 (c - 1)),
    (104, leBytes 16 n.nguid),
    (128, leBytes 2 0 ++ [12, 0]), (132, leBytes 2 8 ++ [12, 0]), (136, leBytes 2 16 ++ [12, 0])]

/-- Identify Namespace of the NVM Command Set: format 2 has the 64-bit guard (R172). -/
def identifyNsNvm : List Byte := pageOf 4096 [(12, leBytes 4 0), (16, leBytes 4 0), (20, leBytes 4 0x100)]

/-- Rising order. -/
def sortNat (l : List Nat) : List Nat := l.foldl (fun (a : List Nat) (n : Nat) => insertNat n a) []

/-- The active namespaces above a number, at most 1,024. -/
def State.nsIds (s : State) (sub above : Nat) : List Byte :=
  padTo 4096 (((sortNat ((s.nsList sub).map (·.nsid))).filter (fun i => decide (above < i))).take 1024 |>.flatMap (leBytes 4))

/-- The page of an Identify, or the status it ends with. -/
def State.identifyPage (s : State) (x : NvmCtrl) (cap : Capsule) : Except NvmeStatus (List Byte) :=
  let cns := cap.cdw10 % 256
  let csi := cap.cdw11 / 2 ^ 24 % 256
  if x.discovery then (if cns = 0x01 then .ok (s.identifyCtrl x) else .error stField)
  else if cns = 0x00 ∨ cns = 0x03 ∨ cns = 0x05 then
    if cap.nsid = 0 ∨ 4096 < cap.nsid then .error stNamespace
    else if cns = 0x05 ∧ csi ≠ 0 then .error stField
    else match s.ns? x.sub cap.nsid with
      | some n =>
        .ok (if cns = 0x00 then s.identifyNs n
          else if cns = 0x05 then identifyNsNvm
          else pageOf 4096 [(0, [2, 16]), (4, leBytes 16 n.nguid), (20, [3, 16]), (24, leBytes 16 n.uuid), (40, [4, 1])])
      | none => if cns = 0x03 then .error stNamespace else .ok (zeroBytes 4096)
  else if cns = 0x01 then .ok (s.identifyCtrl x)
  else if cns = 0x02 then (if 0xFFFFFFFE ≤ cap.nsid then .error stNamespace else .ok (s.nsIds x.sub cap.nsid))
  else if cns = 0x06 then (if csi = 0 then .ok (pageOf 4096 [(0, [9]), (3, [255])]) else .error stField)
  else .error stField

/-! ## Log pages of NVM Express (R189) -/

/-- Bytes of values that the spec leaves open, `n` words of 8. -/
def State.freeBytes : Nat → State → State × List Byte
  | 0, s => (s, [])
  | n + 1, s =>
    let (t, bs) := State.freeBytes n s.drawn
    (t, leBytes 8 s.free.toNat ++ bs)

/-- Error Information: 64 entries of 64 bytes, newest first. -/
def errorPage (x : NvmCtrl) : List Byte :=
  padTo 4096 (x.errors.flatMap (fun (e : ErrEnt) => pageOf 64 [
    (0, leBytes 8 e.count), (8, leBytes 2 e.qid), (10, leBytes 2 e.cid), (12, leBytes 2 (2 * e.status)),
    (14, leBytes 2 0xFFFF), (24, leBytes 4 e.nsid)]))

/-- Firmware Slot Information: the running slot and the next one in AFI (R556). -/
def State.fwPage (s : State) : List Byte :=
  let run := if s.fwRunsB then 2 else 1
  let other := s.fwSlot (!s.fwRunsB)
  let next := if other.magic && other.actSeq.isSome && !other.rejected
      && decide ((s.fwSlot s.fwRunsB).actSeq.getD 0 < other.actSeq.getD 0) then 3 - run else 0
  pageOf 512 [(0, leBytes 1 (run + 16 * next)), (8, s.fw.slotA.version), (16, s.fw.slotB.version)]

/-- Commands Supported and Effects: CSUPP of the commands of R166 and R168, LBCC of those that change data. -/
def effectsPage : List Byte :=
  pageOf 4096 (adminOps.map (fun o => (4 * o, leBytes 4 1))
    ++ ioOps.map (fun o => (1024 + 4 * o, leBytes 4 (if o = 0x01 ∨ o = 0x08 ∨ o = 0x09 then 3 else 1))))

/-- Text of an IP address. -/
def ipText (a : IpAddr) : List Byte :=
  if a.v6 then
    ((List.range 8).map (fun i => hexText 4 (a.addr / 2 ^ (16 * (7 - i)) % 65536))).intersperse [0x3A] |>.flatten
  else ((List.range 4).map (fun i => decShort (a.addr / 2 ^ (8 * (3 - i)) % 256))).intersperse [0x2E] |>.flatten

/-- The enabled subsystems offered over TCP (R165). -/
def State.tcpSubs (s : State) : List Nat := (s.instancesOf 0x0070).filter (fun i => s.subFlag i 0 && s.subFlag i 5)

/-- The discovery log: an NVMe/TCP entry for each of them, at the address of the connection, or of the shelf. Its generation counter is an open value. -/
def State.discoveryPage (s : State) (gen : Nat) (addr : IpAddr) : List Byte :=
  pageOf 1024 [(0, leBytes 8 gen), (8, leBytes 8 s.tcpSubs.length)]
    ++ s.tcpSubs.flatMap (fun i => pageOf 1024 [
      (0, [3]), (1, [if addr.v6 then 2 else 1]), (2, [2]), (3, [2]), (4, leBytes 2 0), (6, leBytes 2 0xFFFF), (8, leBytes 2 32),
      (32, spaced 32 (asciiBytes "4420")), (256, s.subNqn i), (512, spaced 256 (ipText addr))])

/-! ## Vendor logs (R190 to R193) -/

/-- A lost block of a namespace: NSID, LBA, cause, step. -/
structure LostBlk where
  nsid : Nat
  lba : Nat
  cause : Nat
  step : Nat
  deriving DecidableEq, Repr

def LostBlk.before (a b : LostBlk) : Bool := decide (a.nsid < b.nsid) || (a.nsid == b.nsid && decide (a.lba < b.lba))

def insertLost (a : LostBlk) : List LostBlk → List LostBlk
  | [] => [a]
  | b :: rest => if a.before b then a :: b :: rest else if b.before a then b :: insertLost a rest else a :: rest

/-- The blocks of a group's Lost Stripe Table, as places. -/
def lstPlaces (b : Brand) : List (Nat × LstEnt) :=
  b.lst.flatMap (fun e => (List.range' e.stripe e.stripes).flatMap (fun st =>
    ((List.range b.k).filter (fun j => bitOf e.columns j)).flatMap (fun j =>
      (List.range' e.off e.blocks).map (fun o => (b.blockAt st j o, e)))))

/-- Every lost block of a subsystem's namespaces, in order (R190, R291). -/
def State.lostBlocks (s : State) (sub : Nat) : List LostBlk :=
  let a := s.grps.flatMap (fun (g : Nat × Grp) => (lstPlaces g.2.want).filterMap (fun (p : Nat × LstEnt) =>
    match s.blockOwner g.1 p.1 with
    | some (sb, n, lba) => if sb = sub then some (⟨n.nsid, lba, p.2.cause, p.2.step⟩ : LostBlk) else none
    | none => none))
  let b := (s.tly.lostSegs.filter (fun l => l.1 == sub)).map (fun l => (⟨l.2.1, l.2.2.1, 2, l.2.2.2⟩ : LostBlk))
  (a ++ b).foldl (fun (l : List LostBlk) (x : LostBlk) => insertLost x l) []

/-- Adjacent lost blocks of one cause, merged: first block and count (R190). -/
def mergeLost (l : List LostBlk) : List (LostBlk × Nat) :=
  l.foldl (fun (acc : List (LostBlk × Nat)) (b : LostBlk) =>
    match acc.getLast? with
    | some (a, n) =>
      if a.nsid = b.nsid ∧ a.cause = b.cause ∧ a.lba + n = b.lba then acc.dropLast ++ [(a, n + 1)] else acc ++ [(b, 1)]
    | none => [(b, 1)]) []

/-- Log 0xC0 (R190). -/
def State.lostPage (s : State) (sub nsid : Nat) : List Byte :=
  let es := mergeLost ((s.lostBlocks sub).filter (fun b => nsid == 0xFFFFFFFF || b.nsid == nsid))
  pageOf 64 [(0, leBytes 8 s.nvm.lostGen), (8, leBytes 4 es.length), (16, leBytes 8 (es.map (·.2)).sum)]
    ++ es.flatMap (fun (e : LostBlk × Nat) =>
      leBytes 4 e.1.nsid ++ leBytes 4 e.1.cause ++ leBytes 8 e.1.lba ++ leBytes 8 e.2 ++ leBytes 8 e.1.step)

/-- Log 0xC1 (R191). -/
def State.pairPage (s : State) : List Byte :=
  let serving := if s.servesHalf false then s.sideB else !s.sideB
  pageOf 64 [
    (0, leBytes 1 s.profile), (1, leBytes 1 (s.cfg 0x0010 0 0 1 0)), (2, [if serving then 1 else 0]),
    (3, leBytes 1 (min 3 (s.get F.WSW_STATUS.PARTNER))), (4, leBytes 4 (s.get F.WSW_RESYNC.PERMILLE)), (8, leBytes 8 s.dev.stepNo),
    (16, leBytes 8 s.nvm.takeovers), (24, leBytes 8 s.nvm.lastTakeover), (32, leBytes 8 s.nvm.divergences),
    (40, leBytes 8 s.nvm.resyncs)]

/-- STATE of a group in log 0xC2. -/
def Grp.logState (x : Grp) : Nat :=
  if x.down then 3 else match x.verify with
    | .normal => 0
    | .needs => 1
    | .sweeping => 2

/-- Log 0xC2 (R192). -/
def State.tallyPage (s : State) : List Byte :=
  pageOf 64 [(0, leBytes 4 s.grps.length), (4, leBytes 4 (s.get F.VLT_STATUS.LAST_DUMP)), (8, leBytes 8 s.tly.entries.length),
    (16, leBytes 8 (4096 * s.dirty)), (24, leBytes 8 (4096 * s.vaultLimit))]
    ++ s.grps.flatMap (fun (g : Nat × Grp) =>
      let run := g.2.verify = .sweeping
      pageOf 32 [(0, leBytes 2 g.1), (2, leBytes 1 g.2.logState),
        (4, leBytes 4 (s.tly.entries.filter (fun e => e.group == g.1)).length),
        (8, leBytes 8 (g.2.swept + g.2.sweptToo.length)), (16, leBytes 8 (if run then g.2.brand.stripes else 0))])

/-- MB/s of a rebuild over the last 10 s: each stripe rebuilds one chunk. -/
def State.rebuildRate (s : State) (b : Brand) (r : Rebuild) : Nat :=
  (r.recent.filter (fun t => decide (s.nowUs < t + 10000000))).length * b.c * 4096 / 10000000

/-- Log 0xC3 (R193). -/
def State.rebuildPage (s : State) : List Byte :=
  pageOf 16 [(0, leBytes 4 s.tly.rebuilds.length)]
    ++ s.tly.rebuilds.flatMap (fun (r : Rebuild) =>
      match s.grp? r.group with
      | none => zeroBytes 64
      | some x =>
        let rate := s.rebuildRate x.brand r
        let left := (x.brand.stripes - r.done) * x.brand.c * 4096
        pageOf 64 [(0, leBytes 2 r.group), (2, leBytes 1 r.member), (3, leBytes 1 r.state),
          (4, leBytes 1 (s.skidderClass (r.state == 2))), (8, leBytes 8 x.brand.stripes), (16, leBytes 8 r.done),
          (24, leBytes 8 r.critical), (32, leBytes 8 r.recon), (40, leBytes 8 r.lost), (48, leBytes 4 rate),
          (52, leBytes 4 (if rate = 0 then 0xFFFFFFFF else left / (rate * 1000000)))])

/-! ## Get Log Page (R189) -/

/-- The bytes of a log, with what reading it changes: the Changed Namespace List is emptied unless RAE is set, a Reservation Notification leaves its log. The health values of log 0x02 and
the generation of the discovery log are open values. -/
def State.logPage (s : State) (x : NvmCtrl) (cap : Capsule) (addr : IpAddr) : Option (State × List Byte) :=
  let lid := cap.cdw10 % 256
  let rae := bitOf cap.cdw10 15
  if lid = 0x02 then some (s.freeBytes 64)
  else if x.discovery then (if lid = 0x70 then some (s.drawn, s.discoveryPage s.free.toNat addr) else none)
  else if lid = 0x01 then some (s, errorPage x)
  else if lid = 0x03 then some (s, s.fwPage)
  else if lid = 0x04 then
    let ids := x.changedNs
    some (if rae then s else s.setCtrl { x with changedNs := [] },
      padTo 4096 (if 1024 < ids.length then leBytes 4 0xFFFFFFFF else (sortNat ids).flatMap (leBytes 4)))
  else if lid = 0x05 then some (s, effectsPage)
  else if lid = 0x80 then
    match x.resvLog with
    | [] => some (s, zeroBytes 64)
    | e :: rest =>
      some (s.setCtrl { x with resvLog := rest },
        pageOf 64 [(0, leBytes 8 e.1), (8, leBytes 1 e.2.1), (9, leBytes 1 (min 255 rest.length)), (12, leBytes 4 e.2.2)])
  else if lid = 0xC0 then some (s, s.lostPage x.sub cap.nsid)
  else if lid = 0xC1 then some (s, s.pairPage)
  else if lid = 0xC2 then some (s, s.tallyPage)
  else if lid = 0xC3 then some (s, s.rebuildPage)
  else none

/-- Length and offset asked for: NUMD counts Dwords from 0, LPO bytes. -/
def Capsule.logLen (c : Capsule) : Nat := 4 * (c.cdw10 / 65536 + 65536 * (c.cdw11 % 65536) + 1)
def Capsule.logOff (c : Capsule) : Nat := c.cdw12 + 2 ^ 32 * c.cdw13

end Sys2Proof.Machine
end

