-- ==== Sys2Proof/Machine/NvmeAdmin.lean ====
section
/-!
DEFINITION. Machine/NvmeAdmin.lean: the admin commands of R166 but for firmware, and the keep alive timer (R185, R187, R189).
-/
namespace Sys2Proof.Machine

/-- Ends a command with data for the host, when its descriptor suits them (R162). -/
def State.answerData (s : State) (q : NvmQueue) (c : Cmd) (bytes : List Byte) : State :=
  match s.sglGate q c bytes.length false with
  | some st => s.endCmd c st
  | none => s.sendData c bytes

/-! ## Identify and Get Log Page -/

def State.identify (s : State) (q : NvmQueue) (c : Cmd) : State :=
  match s.ctrl? c.ctrl with
  | none => s.dropCmd c
  | some x =>
    match s.identifyPage x c.cap with
    | .error st => s.endCmd c st
    | .ok p => s.answerData q c p

def execIdentify (queue : Nat) (cap : Capsule) (s : State) : Result :=
  .next (s.inStep (fun s => s.onCapsule queue cap (.admin 0x06) (byEngines State.identify)))

/-- The address that the discovery log gives: the connection's own, or the first address of the shelf. -/
def State.discoveryAddr (s : State) (q : NvmQueue) : IpAddr :=
  match q.tr with
  | .tcp conn => ((s.nvm.tcp.find? (fun t => t.id == conn)).map (·.localIp)).getD ⟨false, 0⟩
  | .flume _ _ _ ip => ((s.firstLocal ip.v6).map (·.1)).getD ⟨false, 0⟩

/-- Get Log Page: the bytes asked for, zero past the end of the log; Invalid Log Page for any other log (R189). -/
def State.getLogPage (s : State) (q : NvmQueue) (c : Cmd) : State :=
  match s.ctrl? c.ctrl with
  | none => s.dropCmd c
  | some x =>
    match s.logPage x c.cap (s.discoveryAddr q) with
    | none => s.endCmd c ⟨1, 0x09, 0, none⟩
    | some (t, p) => t.answerData q c (padTo c.cap.logLen (p.drop c.cap.logOff))

def execGetLogPage (queue : Nat) (cap : Capsule) (s : State) : Result :=
  .next (s.inStep (fun s => s.onCapsule queue cap (.admin 0x02) (byEngines State.getLogPage)))

/-! ## Abort (R187) -/

/-- A held Asynchronous Event Request that an Abort names is never issued to a drive: it ends with Command Abort Requested (R187). -/
def State.abortHeld (s : State) (q : NvmQueue) (x : NvmCtrl) (cid : Nat) : State :=
  (s.setCtrl { x with aer := x.aer.erase cid }).respondOn q cid stAbortReq 0 0 (s.cmdSide x.sub 0) 0

/-- Abort: a command for which no drive command has been issued ends with Command Abort Requested and bit 0 of Dword 0 clear; otherwise it runs and the bit is set. -/
def State.abort (s : State) (q : NvmQueue) (c : Cmd) : State :=
  let sq := s.nvm.queues.find? (fun q => q.ctrl == c.ctrl && q.qid == c.cap.cdw10 % 65536)
  let hit := s.nvm.cmds.find? (fun x => sq.any (fun q => q.key == x.queue) && x.cap.cid == c.cap.cdw10 / 65536
    && x.key != c.key && !x.issued && x.st ≠ .committed && x.st ≠ .sending && x.st ≠ .mapping)
  match hit, s.ctrl? c.ctrl with
  | some x, _ => (s.endCmd x stAbortReq).endCmd c stOk 0
  | none, some x =>
    if c.cap.cdw10 % 65536 = 0 ∧ x.aer.contains (c.cap.cdw10 / 65536) then
      (s.abortHeld q x (c.cap.cdw10 / 65536)).endCmd c stOk 0
    else s.endCmd c stOk 1
  | none, none => s.endCmd c stOk 1

def execAbort (queue : Nat) (cap : Capsule) (s : State) : Result :=
  .next (s.inStep (fun s => s.onCapsule queue cap (.admin 0x08) (byEngines State.abort)))

/-! ## Features (R166, R182, R185, R190) -/

/-- Features kept as one Dword: arbitration, power management, temperature threshold, error recovery, interrupt coalescing and vectors of NVM Express are kept as written, write
atomicity, asynchronous event configuration, the reservation notification mask. -/
def plainFeatures : List Nat := [0x01, 0x02, 0x04, 0x05, 0x0A, 0x0B, 0x82]

def NvmCtrl.feature (x : NvmCtrl) (fid : Nat) : Nat := sparseGet 0 fid x.features

/-- Number of Queues: MAX_IOQ of both kinds, counted from 0. -/
def State.queueCount (s : State) (x : NvmCtrl) : Nat := (s.cfg 0x0070 x.sub 12 2 1 - 1) * 65537

/-- Set Features. -/
def State.setFeatures (s : State) (_q : NvmQueue) (c : Cmd) : State :=
  match s.ctrl? c.ctrl with
  | none => s.dropCmd c
  | some x =>
    let fid := c.cap.cdw10 % 256
    let v := c.cap.cdw11
    if plainFeatures.contains fid then
      (s.setCtrl { x with features := sparsePut 0 fid (v % 2 ^ 32) x.features }).endCmd c stOk
    else if fid = 0x07 then s.endCmd c stOk (s.queueCount x)
    else if fid = 0x0F then
      if v ≠ 0 ∧ v < s.cfg 0x0070 x.sub 20 4 5000 then s.endCmd c stKato
      else (s.setCtrl { x with katoMs := v, aliveUs := s.nowUs }).endCmd c stOk
    else if fid = 0x81 then
      if x.hostId ≠ 0 then s.endCmd c ⟨0, 0x0C, 0, none⟩
      else (s.setCtrl { x with hostId := leAt c.cap.data c.cap.sglAddr 16 }).endCmd c stOk
    else if fid = 0x83 then
      match s.ns? x.sub c.cap.nsid with
      | none => s.endCmd c stNamespace
      | some n => (s.setResv { s.resv x.sub n.nsid with ptpl := bitOf v 0 }).endCmd c stOk
    else s.endCmd c stField

def execSetFeatures (queue : Nat) (cap : Capsule) (s : State) : Result :=
  .next (s.inStep (fun s => s.onCapsule queue cap (.admin 0x09) (byEngines State.setFeatures)))

/-- Get Features. -/
def State.getFeatures (s : State) (q : NvmQueue) (c : Cmd) : State :=
  match s.ctrl? c.ctrl with
  | none => s.dropCmd c
  | some x =>
    let fid := c.cap.cdw10 % 256
    if plainFeatures.contains fid then s.endCmd c stOk (x.feature fid)
    else if fid = 0x07 then s.endCmd c stOk (s.queueCount x)
    else if fid = 0x0F then s.endCmd c stOk x.katoMs
    else if fid = 0x81 then s.answerData q c (leBytes 16 x.hostId)
    else if fid = 0x83 then
      match s.ns? x.sub c.cap.nsid with
      | none => s.endCmd c stNamespace
      | some n => s.endCmd c stOk (if (s.resv x.sub n.nsid).ptpl then 1 else 0)
    else s.endCmd c stField

def execGetFeatures (queue : Nat) (cap : Capsule) (s : State) : Result :=
  .next (s.inStep (fun s => s.onCapsule queue cap (.admin 0x0A) (byEngines State.getFeatures)))

/-! ## Asynchronous events and keep alive -/

/-- Asynchronous Event Request: held until an event is there; a fifth one exceeds AERL (R166, R170). -/
def State.asyncRequest (s : State) (_q : NvmQueue) (c : Cmd) : State :=
  match s.ctrl? c.ctrl with
  | none => s.dropCmd c
  | some x =>
    if 4 ≤ x.aer.length then s.endCmd c ⟨1, 0x05, 0, none⟩
    else
      match x.events with
      | (t, i, l) :: rest => (s.setCtrl { x with events := rest }).endCmd c stOk (t + 256 * i + 65536 * l)
      | [] => (s.dropCmd c).setCtrl { x with aer := x.aer ++ [c.cap.cid] }

def execAsyncEventRequest (queue : Nat) (cap : Capsule) (s : State) : Result :=
  .next (s.inStep (fun s => s.onCapsule queue cap (.admin 0x0C) (byEngines State.asyncRequest)))

/-- Keep Alive restarts the timer (R185). -/
def State.keepAlive (s : State) (_q : NvmQueue) (c : Cmd) : State :=
  match s.ctrl? c.ctrl with
  | none => s.dropCmd c
  | some x => (s.setCtrl { x with aliveUs := s.nowUs }).endCmd c stOk

def execKeepAlive (queue : Nat) (cap : Capsule) (s : State) : Result :=
  .next (s.inStep (fun s => s.onCapsule queue cap (.admin 0x18) (byEngines State.keepAlive)))

/-- KATO_EXPIRY: at a step tick past the timeout the controller is deleted (R158, R185). -/
def execKatoExpiry (ctrl : Nat) (s : State) : Result :=
  .next (s.inStep (fun s =>
    match s.ctrl? ctrl with
    | some x => if x.katoMs ≠ 0 ∧ x.aliveUs + 1000 * x.katoMs ≤ s.nowUs then (s.deleteCtrl ctrl).raise 0x182 else s
    | none => s))

end Sys2Proof.Machine
end

