-- ==== Sys2Proof/Machine/NvmeIo.lean ====
section
/-!
DEFINITION. Machine/NvmeIo.lean: the I/O commands (R168, R174, R176, R181, R182, R186, R198, R215) and the times of a command.
-/
namespace Sys2Proof.Machine

/-- The command with the extents whose entries it is parsed under (R204). -/
def Cmd.under (c : Cmd) (n : NsEnt) : Cmd := { c with lbaf := n.lbaf, extents := extentsOf n.map c.slba c.nlb }

/-- Bytes the host transfers for a command's blocks (R162, R172). -/
def Cmd.hostLen (c : Cmd) (n : NsEnt) : Nat := c.nlb * hostUnit n.lbaf c.cap.pract

/-- Some extent of the blocks is unallocated (R198, R203). -/
def State.unallocated (s : State) (c : Cmd) (n : NsEnt) : Bool :=
  (extentsOf n.map c.slba c.nlb).any (fun e => (s.extent n.map e.2).state == 0)

/-! ## Flush, Read, Verify, Compare -/

/-- Flush completes at once: every acknowledged write is protected already (R168). -/
def State.flush (s : State) (_q : NvmQueue) (c : Cmd) : State :=
  if c.cap.nsid = 0xFFFFFFFF ∨ (s.ns? c.sub c.cap.nsid).isSome then s.endCmd c stOk else s.endCmd c stNamespace

def execFlush (queue : Nat) (cap : Capsule) (s : State) : Result :=
  .next (s.inStep (fun s => s.onCapsule queue cap (.io 0x00) State.flush))

/-- Read (R176, R198, R206, R207). -/
def State.read (s : State) (q : NvmQueue) (c : Cmd) : State :=
  match s.ioGate c .reads true with
  | .error st => s.gateFails c st
  | .ok n =>
    match s.sglGate q c (c.hostLen n) false with
    | some st => s.endCmd c st
    | none => s.startRead (c.under n) n

def execNvmeRead (queue : Nat) (cap : Capsule) (s : State) : Result :=
  .next (s.inStep (fun s => s.onCapsule queue cap (.io 0x02) State.read))

/-- Verify reads and checks media and protection information, and transfers nothing (R168). -/
def State.verifyCmd (s : State) (_q : NvmQueue) (c : Cmd) : State :=
  match s.ioGate c .reads true with
  | .error st => s.gateFails c st
  | .ok n => if 512 < c.nlb then s.endCmd c stField else s.startRead (c.under n) n

def execVerify (queue : Nat) (cap : Capsule) (s : State) : Result :=
  .next (s.inStep (fun s => s.onCapsule queue cap (.io 0x0C) (byEngines State.verifyCmd)))

/-- Compare takes the host's data, then the media's (R168). -/
def State.compareCmd (s : State) (q : NvmQueue) (c : Cmd) : State :=
  match s.ioGate c .reads true with
  | .error st => s.gateFails c st
  | .ok n =>
    match s.sglGate q c (c.hostLen n) true with
    | some st => s.endCmd c st
    | none => s.fetchData (c.under n)

def execCompare (queue : Nat) (cap : Capsule) (s : State) : Result :=
  .next (s.inStep (fun s => s.onCapsule queue cap (.io 0x05) (byEngines State.compareCmd)))

/-! ## Write, Write Zeroes, Dataset Management -/

/-- Write: one that touches an unallocated extent is handed over before any data are pulled, and waits for its allocation (R174, R198). -/
def State.write (s : State) (q : NvmQueue) (c : Cmd) : State :=
  match s.ioGate c .writes true with
  | .error st => s.gateFails c st
  | .ok n =>
    match s.sglGate q c (c.hostLen n) true with
    | some st => s.endCmd c st
    | none =>
      let c := c.under n
      if s.unallocated c n then (s.setCmd { c with st := .allocating }).handOver { c with st := .allocating }
      else s.fetchData c

def execNvmeWrite (queue : Nat) (cap : Capsule) (s : State) : Result :=
  .next (s.inStep (fun s => s.onCapsule queue cap (.io 0x01) State.write))

/-- Zero blocks as Write Zeroes without DEAC writes them: application tag 0 (R168). -/
def zeroBlocks (n : Nat) : List (List Byte × Nat) := List.replicate n (zeroBlock, 0)

/-- Write Zeroes: deallocates with DEAC, else writes zeroes with generated protection information (R168). -/
def State.writeZeroes (s : State) (_q : NvmQueue) (c : Cmd) : State :=
  match s.ioGate c .writes true with
  | .error st => s.gateFails c st
  | .ok n =>
    let c := c.under n
    if bitOf c.cap.cdw12 25 then s.deallocRanges c n [(c.slba, c.nlb)]
    else
      let c := { c with blocks := zeroBlocks c.nlb }
      if s.unallocated c n then s.setCmd { c with st := .allocating } else s.writeHeldBlocks c

def execWriteZeroes (queue : Nat) (cap : Capsule) (s : State) : Result :=
  .next (s.inStep (fun s => s.onCapsule queue cap (.io 0x08) (byEngines State.writeZeroes)))

/-- Dataset Management: up to 256 ranges, which come as the command's data (R168). -/
def State.dataset (s : State) (q : NvmQueue) (c : Cmd) : State :=
  match s.ioGate c .writes false with
  | .error st => s.gateFails c st
  | .ok _ =>
    match s.sglGate q c (16 * (c.cap.cdw10 % 256 + 1)) true with
    | some st => s.endCmd c st
    | none => s.fetchData c

def execDatasetManagement (queue : Nat) (cap : Capsule) (s : State) : Result :=
  .next (s.inStep (fun s => s.onCapsule queue cap (.io 0x09) (byEngines State.dataset)))

/-! ## Reservations (R182 to R184) -/

/-- The conditions of a reservation command: its namespace and a host identifier (R182). -/
def State.resvGate (s : State) (c : Cmd) : Option NvmeStatus :=
  match s.ns? c.sub c.cap.nsid, s.ctrl? c.ctrl with
  | some _, some x => if x.hostId = 0 then some stHostIdFormat else none
  | _, _ => some stNamespace

/-- A reservation command whose data of `len` bytes come from the host. -/
def State.resvData (len : Nat) (s : State) (q : NvmQueue) (c : Cmd) : State :=
  match s.resvGate c with
  | some st => s.endCmd c st
  | none =>
    match s.sglGate q c len true with
    | some st => s.endCmd c st
    | none => s.fetchData c

def execReservationRegister (queue : Nat) (cap : Capsule) (s : State) : Result :=
  .next (s.inStep (fun s => s.onCapsule queue cap (.io 0x0D) (byEngines (State.resvData 16))))

def execReservationAcquire (queue : Nat) (cap : Capsule) (s : State) : Result :=
  .next (s.inStep (fun s => s.onCapsule queue cap (.io 0x11) (byEngines (State.resvData 16))))

def execReservationRelease (queue : Nat) (cap : Capsule) (s : State) : Result :=
  .next (s.inStep (fun s => s.onCapsule queue cap (.io 0x15) (byEngines (State.resvData 8))))

/-- Reservation Report: the state in the length asked for, with 128-bit host identifiers. -/
def State.resvReport (s : State) (q : NvmQueue) (c : Cmd) : State :=
  match s.resvGate c with
  | some st => s.endCmd c st
  | none =>
    if ¬ bitOf c.cap.cdw11 0 then s.endCmd c stHostIdFormat
    else s.answerData q c (padTo (4 * (c.cap.cdw10 + 1)) (s.resv c.sub c.cap.nsid).report)

def execReservationReport (queue : Nat) (cap : Capsule) (s : State) : Result :=
  .next (s.inStep (fun s => s.onCapsule queue cap (.io 0x0E) (byEngines State.resvReport)))

/-! ## The commit point (R215 to R218) -/

/-- The versions that a write's blocks become. -/
def Cmd.versions (c : Cmd) (step now : Nat) (noticed : Bool) : List Ver :=
  c.blocks.mapIdx (fun i (b : List Byte × Nat) =>
    { sub := c.sub, nsid := c.cap.nsid, lba := c.slba + i, data := b.1, hostTag := b.2, commitStep := step, dirtyUs := now, entry := 0,
      mapWait := false, noticed := noticed, poisoned := false })

/-- Forgets the losses of a block that a write has overwritten (R292). -/
def State.rewritten (s : State) (n : NsEnt) (sub lba : Nat) : State :=
  let s := match s.homeBlock n lba, s.grp? n.group with
    | some b, some x =>
      let p := x.brand.mapBlock b
      s.unlose n.group p.stripe p.col p.off
    | _, _ => s
  { s with tly := { s.tly with
    lostSegs := s.tly.lostSegs.filter (fun l => !(l.1 == sub && l.2.1 == n.nsid && l.2.2.1 == lba)) } }

/-- Every block of the command enters the staging index at one step number; the controller that does not answer sends its STAGED notice; the response follows when its condition
holds (R215, R216). -/
def State.commitWrite (s : State) (c : Cmd) (n : NsEnt) : State :=
  let step := s.dev.stepNo
  let c := { c with st := .committed, commitStep := step }
  let s := (c.versions step s.nowUs (s.noticeHere c)).foldl (fun (s : State) (v : Ver) =>
    ((s.stage v).rewritten n c.sub v.lba).markMig c.sub n.nsid v.lba) s
  let s := (s.setCmd c).startBrand n.group
  let s := s.dirtyLevel
  let s := if s.inPair && !s.issues (s.cmdSide c.sub n.nsid) then
      s.sendLink (.staged c.ctrl c.cap.cid (((s.nq? c.queue).map (·.qid)).getD 0) step)
    else s
  s.ackWrite c.key

/-- WRITE_COMMIT_POINT of a command whose every block is held. -/
def execWriteCommitPoint (cmd : Nat) (s : State) : Result :=
  .next (s.inStep (fun s =>
    match s.cmd? cmd with
    | some c =>
      match s.ns? c.sub c.cap.nsid with
      | some n => if c.st = .staged then s.commitWrite c n else s
      | none => if c.st = .staged then s.endCmd c stNamespace else s
    | none => s))

/-! ## Held writes (R33, R181) -/

/-- HELD_WRITE_RESUME: a held write goes on once destaging has made room and its namespace is not cut over. -/
def execHeldWriteResume (cmd : Nat) (s : State) : Result :=
  .next (s.inStep (fun s =>
    match s.cmd? cmd with
    | some c =>
      if c.st = .held ∧ ¬ s.mustHold c then
        let s := s.setCmd { c with st := .staged }
        { s with cht := { s.cht with limited := s.nvm.cmds.any (fun x => x.st = .held) } }
      else s
    | none => s))

/-- WRITE_HELD_ALERT: held for 1 ms. -/
def execWriteHeldAlert (cmd : Nat) (s : State) : Result :=
  .next (s.inStep (fun s =>
    match s.cmd? cmd with
    | some c =>
      if c.st = .held ∧ ¬ c.alerted ∧ c.heldUs + 1000 ≤ s.nowUs then (s.setCmd { c with alerted := true }).raise 0x188 else s
    | none => s))

/-- WRITE_HELD_TIMEOUT: held for 2 s; nothing of it is written. -/
def execWriteHeldTimeout (cmd : Nat) (s : State) : Result :=
  .next (s.inStep (fun s =>
    match s.cmd? cmd with
    | some c => if c.st = .held ∧ c.heldUs + 2000000 ≤ s.nowUs then s.endCmd c stNotReady else s
    | none => s))

/-! ## The command limit (R186) -/

/-- CMD_LIMIT_EXPIRY: the command ends with Command Interrupted. A write past its commit point keeps what it has committed. -/
def execCmdLimitExpiry (cmd : Nat) (s : State) : Result :=
  .next (s.inStep (fun s =>
    match s.cmd? cmd with
    | some c =>
      if c.acceptedUs + 1000 * s.cfg 0x0070 c.sub 16 4 10000 ≤ s.nowUs then
        ((s.bump F.NVS_CMD_LIMIT.COUNT).raise 0x187).endCmd c stInterrupted
      else s
    | none => s))

end Sys2Proof.Machine
end

