-- ==== Sys2Proof/Machine/PairOps.lean ====
section
/-!
DEFINITION. Machine/PairOps.lean: roles as they are taken and left (R301, R334, R335), and the consumption of an input (R314).
-/
namespace Sys2Proof.Machine

/-- The waveform of PAIR_ACTIVE_OUT (R305): 2 leader, 1 follower, 0 low. -/
def waveOf (r : Nat) : Nat := if r = roleAlone ∨ r = roleLeader then 2 else if r = roleFollower then 1 else 0

/-- The profile that the Pattern names: a controller that has degraded to Solo joins its pair again by it (R334, log entry). -/
def State.ownProfile (s : State) : Nat := s.cfg 0x0010 0 0 1 0

/-- Takes a role: ROLE, SERVES and PAIR_ACTIVE_OUT follow (R301, R305). A controller that pulls PAIR_FAULT_N keeps its output low (R307). -/
def State.setRole (s : State) (r : Nat) : State :=
  let s := if waveOf s.role = waveOf r ∨ s.flag F.WSW_STATUS.FAULT_OUT then s else s.emit (.pin .pairActive (waveOf r))
  let s := s.set F.WSW_STATUS.ROLE r
  s.set F.WSW_STATUS.SERVES ((if s.servesHalf false then 1 else 0) + (if s.servesHalf true then 2 else 0))

/-- Becomes DETACHED: every host and drive output stops (R334, R335). -/
def State.detach (s : State) : State :=
  let s := (s.setRole roleDetached).raise 0x20A
  { s with wsw := { s.wsw with stopped := true, hostHeld := true, resyncPass := 0 } }

/-- The record that is consumed next (R314). -/
def State.nextInput (s : State) : Option InputRec :=
  match s.wsw.inputs with
  | r :: _ => if r.step = s.dev.stepNo + 1 && s.consumes then some r else none
  | [] => none

/-- Consumes the next input when it is number `n` and of the row's kind, as the effect says. -/
def State.consume (s : State) (n : Nat) (kind : Input → Bool) (f : InputRec → State → State) : State :=
  match s.nextInput with
  | none => s
  | some r =>
    if r.step ≠ n ∨ !kind r.input then s
    else
      let s := { s with dev := { s.dev with stepNo := n, curStep := n }, wsw := { s.wsw with inputs := s.wsw.inputs.drop 1 } }
      let s := f r s
      { s with dev := { s.dev with curStep := 0 } }

/-- An observation of this side enters the stream on a controller in step; before a role is taken it acts at once on the state that start-up
builds (R256, R404). -/
def State.observed (s : State) (i : Input) (effect : State → State) : State :=
  if s.consumes then s.observe i else effect s

end Sys2Proof.Machine
end

