-- ==== Sys2Proof/Machine/VaultOps.lean ====
section
/-!
DEFINITION. Machine/VaultOps.lean: the power-loss dump as it advances from one completion to the next (R269 to R276, R279).
-/
namespace Sys2Proof.Machine

/-- Where a part of a dump begins on a vault member: the half of its sequence, and the offset in it (R269). -/
def State.vaultLba (s : State) (m : VMem) (seq off : Nat) : Nat :=
  2048 + (match s.grp? m.group with
    | some x => seq % 2 * (x.brand.vaultMib * 128)
    | none => 0) + off

/-- Block offset of a segment slot in a half. -/
def segOffset (slot : Nat) : Nat := 32769 + 129 * slot

/-- Writes blocks of a dump to a vault member: class 6, from the member write area or from staging (R220, R386). -/
def State.vaultWrite (s : State) (seq : Nat) (m : VMem) (off : Nat) (blocks : List (List Byte)) (use : DrvUse) : State :=
  match s.grp? m.group with
  | none => s
  | some x =>
    s.memberCmd .maint x ⟨m.member, s.vaultLba m seq off⟩ nvWrite blocks.length 6 false (blocks.map blkPlain) use

/-- Some vault write is outstanding. -/
def State.vaultBusy (s : State) : Bool :=
  s.drv.cmds.any (fun c => match c.use with | .vault _ _ _ => true | _ => false)

def State.setDump (s : State) (d : Dump) : State := { s with tly := { s.tly with dump := some d } }

/-- Versions cut into segments of 128 blocks. -/
def segmentsOf : Nat → List Ver → List (List Ver)
  | 0, _ => []
  | n + 1, vs => if vs.isEmpty then [] else vs.take 128 :: segmentsOf n (vs.drop 128)

/-- A vault header of a dump (R270). -/
def State.dumpHeader (s : State) (d : Dump) (state : Nat) : List Byte :=
  vaultHeader d.seq s.shelfId state d.rewritten d.short (d.ctrl.map (fun m => (m.group, m.member))) d.segs.length
    (4096 * (d.segs.map (fun g => g.1.length)).sum) d.atStep

/-- Headers on every vault member of the dump. -/
def State.writeHeaders (s : State) (d : Dump) (kind state : Nat) : State :=
  (d.vault.zipIdx).foldl (fun (s : State) (m : VMem × Nat) =>
    s.vaultWrite d.seq m.1 0 [s.dumpHeader d state] (.vault kind m.2 0)) s

/-- The bytes of one segment copy: header and blocks (R271). -/
def segmentBytes (seq segment copy : Nat) (vs : List Ver) : List (List Byte) :=
  segHeader vs.length copy seq segment (vs.flatMap (fun v => segEntry v.sub v.nsid v.hostTag v.lba v.commitStep (!v.poisoned)))
    :: vs.map (·.data)

/-- One copy of a segment. -/
def State.writeSegment (s : State) (d : Dump) (i copy : Nat) (vs : List Ver) (m : VMem) (slot : Nat) : State :=
  s.vaultWrite d.seq m (segOffset slot) (segmentBytes d.seq i copy vs) (.vault 2 i copy)

/-- Reservation state of the namespaces with PTPL: its format is firmware's (R272), so its bytes are open values. -/
def State.resvSection (s : State) : List Byte :=
  (s.nvm.resv.filter (·.ptpl)).flatMap (fun _ => (List.range 4).flatMap (fun i => leBytes 8 (Config.freeValue (s.freeCtr + i)).toNat))

/-- An entry of the REBUILD section. -/
def Rebuild.bytes (r : Rebuild) : List Byte :=
  leBytes 1 r.group ++ leBytes 1 r.member ++ leBytes 1 r.state ++ zeroBytes 5 ++ leBytes 8 r.cursor ++ leBytes 8 r.critCursor
    ++ leBytes 8 r.critPartner

/-- An entry of SEGDIR. -/
def SegPlace.bytes (p : SegPlace) : List Byte :=
  leBytes 1 p.first.group ++ leBytes 1 p.first.member ++ leBytes 1 p.second.group ++ leBytes 1 p.second.member ++ zeroBytes 4
    ++ leBytes 4 p.firstSlot ++ leBytes 4 p.secondSlot

/-- The control part (R272). -/
def State.controlBytes (s : State) (d : Dump) : List Byte :=
  controlPart [
    (1, s.tly.entries.flatMap TallyEnt.bytes),
    (2, s.grps.flatMap (fun g => g.2.want.lstBytes)),
    (3, leBytes 8 (if s.power = stToFallow && !s.tly.stopped then s.pwr.fallowCtr else s.flm.msgCtr)),
    (4, s.resvSection),
    (5, s.tly.rebuilds.flatMap Rebuild.bytes),
    (6, s.grps.flatMap (fun g => leBytes 1 g.1 ++ zeroBytes 7 ++ leBytes 8 g.2.patrolCursor ++ leBytes 8 g.2.patrolPasses)),
    (7, d.segs.flatMap (fun g => g.2.bytes))]

/-- Blocks that hold a byte string. -/
def blocksFor (bs : List Byte) : List (List Byte) := toBlocks ((bs.length + 4095) / 4096) bs

/-- Writes copy i of the control part. -/
def State.writeControl (s : State) (d : Dump) (i : Nat) : State :=
  match d.ctrl[i]? with
  | some m => s.vaultWrite d.seq m 1 (blocksFor (s.controlBytes d)) (.vault 1 i i)
  | none => s

/-- The Ledger section: the 65,536 records in slot order (R272). -/
def State.ledgerSection (s : State) : List Byte := (List.range 65536).flatMap s.ledgerSlotBytes

/-- Writes copy i of the Ledger section. -/
def State.writeLedgerCopy (s : State) (d : Dump) (i : Nat) : State :=
  match d.ctrl[i]? with
  | some m => s.vaultWrite d.seq m 31745 (blocksFor s.ledgerSection) (.vault 3 i i)
  | none => s

/-- Every migration fails (R275, R299). -/
def State.failMigs (s : State) : State :=
  let live := s.tly.migs.filter (fun m => m.state == 1 || m.state == 2)
  let s := { s with tly := { s.tly with
    migs := s.tly.migs.map (fun (m : Mig) => if m.state = 1 ∨ m.state = 2 then { m with state := 4 } else m) } }
  if live.isEmpty then s else s.raise 0x1DD

/-- A dump of R275 runs or stands: one of Fallow entry that is complete covers nothing (R540). -/
def State.dumpStands (s : State) : Bool :=
  match s.tly.dump with
  | some d => s.tly.stopped || d.stage != .done
  | none => false

/-- A dump begins: steps 1 to 3 of R275. -/
def State.beginDump (s : State) : State :=
  if s.dumpStands then s
  else
    let s := { s with tly := { s.tly with stopped := true } }.failMigs
    s.setDump ⟨0, .waits, s.nowUs, s.dev.stepNo, [], [], [], [], false, false⟩

/-- Step 4: DUMP_SEQ is taken and the BEGUN headers go. -/
def State.dumpHeaders (s : State) (d : Dump) : State :=
  let vm := s.vaultMembers
  let seq := s.get F.VLT_DUMP_SEQ.SEQ + 1
  let chunks := segmentsOf s.cht.staging.length s.cht.staging
  let d := { d with
    seq := seq, stage := .begun, vault := vm, ctrl := ctrlPair vm, short := vaultShort vm,
    segs := chunks.zip (placeFrom vm chunks.length 0 []) }
  (((s.set F.VLT_DUMP_SEQ.SEQ seq).setDump d).writeHeaders d 0 1).raise 0x1CA

/-- The RETIRED headers of a dump that has completed go (R279). -/
def State.retireDump (s : State) (d : Dump) : State :=
  let d := { d with stage := .retired }
  (s.setDump d).writeHeaders d 5 3

/-- The dump of Fallow entry, complete and not retired. -/
def State.fallowDump (s : State) : Option Dump :=
  match s.tly.dump with
  | some d => if d.stage == .done && !s.tly.stopped then some d else none
  | none => none

/-- What comes after a stage whose writes are all done. The COMPLETE headers are a row of their own; once they are written the dump is retired when power has come
back, and otherwise stands for the reset or power state that waits for it. -/
def State.dumpNext (s : State) (d : Dump) : State :=
  match d.stage with
  | .begun =>
    -- the copies go where the members that took a header are
    let vm := d.vault
    let d := { d with
      stage := .control, ctrl := ctrlPair vm, short := vaultShort vm,
      segs := (d.segs.map (·.1)).zip (placeFrom vm d.segs.length 0 []) }
    let s := s.setDump d
    (List.range d.ctrl.length).foldl (fun (s : State) (i : Nat) => s.writeControl d i) s
  | .control =>
    let d := { d with stage := .segments }
    (d.segs.zipIdx).foldl (fun (s : State) (g : (List Ver × SegPlace) × Nat) =>
      let s := s.writeSegment d g.2 0 g.1.1 g.1.2.first g.1.2.firstSlot
      s.writeSegment d g.2 1 g.1.1 g.1.2.second g.1.2.secondSlot) (s.setDump d)
  | .segments =>
    let d := { d with stage := .ledger }
    let s := (s.setDump d).ledger 0x0507 11 0 (leBytes 8 d.seq)
    (List.range (min 2 d.ctrl.length)).foldl (fun (s : State) (i : Nat) => s.writeLedgerCopy d i) s
  | .complete =>
      if !s.tly.stopped then
        -- the dump of Fallow entry stands until the wake or the next Brand update retires it (R541, R545)
        let s := s.setDump { d with stage := .done }
        if s.powerFailing then s.beginDump else s
      else if s.powerFailing || s.pwr.warm.isSome || s.pwr.fatalNs.isSome
      then s.setDump { d with stage := .done }
      else s.retireDump d
  | .retired =>
    -- power that has failed again meanwhile, or a reset, wants a dump of its own
    let s := { s with tly := { s.tly with dump := none, stopped := false } }
    if s.powerFailing || ((s.pwr.fatalNs.isSome || s.pwr.warm.isSome) && !s.cht.staging.isEmpty) then s.beginDump else s
  | _ => s

/-- Goes on with the dump as far as nothing is outstanding. -/
def State.dumpRun : Nat → State → State
  | 0, s => s
  | n + 1, s =>
    match s.tly.dump with
    | none => s
    | some d => if s.vaultBusy then s else State.dumpRun n (s.dumpNext d)

/-- The third member of R276: the next vault member after the one that failed, in another port group than the surviving copy, with a free slot. -/
def Dump.third (d : Dump) (failed surviving : VMem) : Option (VMem × Nat) :=
  let taken (m : VMem) : Nat :=
    (d.segs.filter (fun g => g.2.first == m)).length + (d.segs.filter (fun g => g.2.second == m)).length
      + ((d.extra.filter (fun x => x.1 == m)).map (·.2)).sum
  let i := d.vault.idxOf failed
  ((rotated d.vault (i + 1)).find? (fun m => m != failed && m != surviving && (d.short || m.pg != surviving.pg)
    && decide (taken m < m.slots))).map (fun m => (m, taken m))

/-- A copy is written again: REWRITTEN, VLT_REWRITE, DUMP_REWRITE (R276). -/
def State.rewriteCopy (s : State) (d : Dump) : State :=
  ((s.setDump { d with rewritten := true }).bump F.VLT_REWRITE.COUNT).raise 0x1CC

/-- A vault write has failed or timed out (R276). -/
def State.vaultFailed (s : State) (kind index copy : Nat) : State :=
  match s.tly.dump with
  | none => s
  | some d =>
    if kind = 0 then
      match d.vault[index]? with
      | some m =>
        -- indices of the headers still outstanding stand for the list as it was: the member is marked by having no slots
        s.setDump { d with vault := d.vault.set index { m with slots := 0 } }
      | none => s
    else if kind = 2 then
      match d.segs[index]? with
      | none => s
      | some (vs, p) =>
        let failed := if copy = 0 then p.first else p.second
        let other := if copy = 0 then p.second else p.first
        match d.third failed other with
        | none => s
        | some (m, slot) =>
          let p := if copy = 0 then { p with first := m, firstSlot := slot } else { p with second := m, secondSlot := slot }
          let d := { d with segs := d.segs.set index (vs, p), extra := d.extra ++ [(m, 1)], rewritten := true }
          (s.rewriteCopy d).writeSegment d index 2 vs m slot
    else if kind = 1 ∨ kind = 3 then
      match d.ctrl[copy]? with
      | none => s
      | some failed =>
        let other := (d.ctrl.getD (1 - copy) failed)
        match d.ctrl[2]?, d.third failed other with
        | none, some (m, _) =>
          let d := { d with ctrl := d.ctrl ++ [m], rewritten := true }
          let s := s.rewriteCopy d
          let s := s.writeControl d 2
          if kind = 3 then s.writeLedgerCopy d 2 else s
        | _, _ => s
    else s

/-- A vault write has ended. -/
def State.vaultDone (s : State) (kind index copy : Nat) (ok : Bool) : State :=
  let s := if ok then s else s.vaultFailed kind index copy
  let s := if s.vaultBusy then s else match s.tly.dump with
    | some d => if d.stage = .begun then s.setDump { d with vault := d.vault.filter (fun m => m.slots != 0) } else s
    | none => s
  State.dumpRun 6 s

end Sys2Proof.Machine
end

