-- ==== Sys2Proof/Machine/Completion.lean ====
section
/-!
DEFINITION. Machine/Completion.lean: how drive commands end and are issued again (R177, R207, R214, R254, R266, R276, R310, R335, R411, R413, R590), and how a
drive's coming and going acts on them (R407, R412, R413).
-/
namespace Sys2Proof.Machine

/-! ## What a command belongs to -/

/-- The side whose outputs a command is (R319). -/
def State.useSide (s : State) (u : DrvUse) : OutSide :=
  match u with
  | .hostRead k _ _ => match s.cmd? k with
    | some c => s.cmdSide c.sub c.cap.nsid
    | none => .own
  | .tally e _ => ((s.entry? e).map (·.side)).getD .maint
  | .brand _ _ _ _ => .maint
  | .vault _ _ _ => .maint
  | .fence => .own
  | .resvKey => .own
  | .admin _ => .own

/-- The group and member that a port's drive holds for a group that some command names. -/
def State.memberAt (s : State) (g port : Nat) : Option Nat :=
  (s.grp? g).bind (fun x => (x.ports.find? (fun p => p.2 == port)).map (·.1))

/-- The group that a command belongs to. -/
def State.useGroup (s : State) (u : DrvUse) : Option Nat :=
  match u with
  | .tally e _ => (s.entry? e).map (·.group)
  | .brand g _ _ _ => some g
  | .hostRead k i _ => (s.cmd? k).bind (fun c => (c.runs[i]?).map (·.group))
  | _ => none

/-! ## Issuing again (R407, R411, R412, R590) -/

/-- The command under a new identifier, formed now: its old tag is retired. It goes to its own port when that is READY, else to the partner's, else it is held. -/
def State.reissue (s : State) (c : DrvCmd) : State :=
  let s := s.unequip c true
  let (b, ok) := s.route? (s.useSide c.use) c.port
  let n : DrvCmd := { c with
    cid := s.drv.cidCtr, sideB := b, tag := none, st := .held, formedUs := s.nowUs, issues := c.issues + 1 }
  let s := { s with drv := { s.drv with
    cidCtr := s.drv.cidCtr + 1, cmds := s.drv.cmds.filter (fun (x : DrvCmd) => x.cid != c.cid) ++ [n] } }
  let s := s.foldDrv n
  let s := if ok ∧ b ≠ s.issuerB (s.useSide c.use) ∧ b = s.sideB then s.bump F.DP_PROXY.COUNT c.port else s
  if ok then s.launch n else s

/-- A command that was held for its drive goes, on the port where that drive is now. -/
def State.unhold (s : State) (c : DrvCmd) (port : Nat) : State :=
  let (b, ok) := s.route? (s.useSide c.use) port
  let n : DrvCmd := { c with port := port, sideB := b }
  if ok then (s.setDrv n).launch n else s

/-- A drive has left DRIVE_PS when the Set Features that ends it has completed: what was held for it goes (R539). -/
def State.leftLowPower (s : State) (n : Nat) : State :=
  let p := s.port n
  if p.lowPower ∧ s.power ≠ stDrowse ∧ s.power ≠ stWaking ∧ !p.admin.any (fun a => a.1 == 0x09) then
    let s := s.setPort n { p with lowPower := false }
    (s.drv.cmds.filter (fun c => c.st = .held && c.sideB == s.sideB && c.port == n && s.portReady s.sideB n)).foldl
      (fun (s : State) (c : DrvCmd) => s.unhold c n) s
  else s

/-! ## Failing members and Brand writes -/

/-- A Brand copy write has failed (R254). -/
def State.brandFailed (s : State) (g m : Nat) : State :=
  (((s.bump F.PAR_BRAND_FAIL.COUNT).raise 0x1C5).failMember g m)

/-- A Brand copy write is done: the next one of its member follows (R252). -/
def State.brandDone (s : State) (g m copy part : Nat) : State :=
  match s.grp? g with
  | none => s
  | some x =>
    match x.upd with
    | none => s
    | some u => (s.setGrp g { x with upd := some { u with todo := u.todo.filter (fun t => t != (m, copy, part)) } }).brandIssue g m

/-! ## Resetting a drive controller, and a port that goes down (R404, R407, R411, R413) -/

/-- Members of each group that no controller reaches, and since when (R413). -/
def State.regone (s : State) : State :=
  { s with grps := s.grps.map (fun (g : Nat × Grp) =>
    let out := (List.range g.2.want.members).filter (fun m =>
      (g.2.want.mState m == mNormal || g.2.want.mState m == mRebuilding) && !s.memberHere g.2 m)
    (g.1, { g.2 with gone := out.map (fun m => ((g.2.gone.find? (fun x => x.1 == m)).getD (m, s.nowUs))) })) }

/-- A command of a port that has gone down: a read counts its member as missing, a write goes to the other port or is held, a vault write with no way left fails
(R276, R407). -/
def State.orphan (s : State) (c : DrvCmd) : State :=
  match c.use with
  | .hostRead k i j => (s.dropDrv c true).runResult k i j none
  | .vault kind i copy =>
    if (s.route? .maint c.port).2 then s.reissue c else (s.dropDrv c true).vaultDone kind i copy false
  | .tally _ _ => s.reissue c
  | .brand _ _ _ _ => s.reissue c
  | .fence => s.dropDrv c true
  | .resvKey => s.dropDrv c true
  | .admin _ => s.dropDrv c true

/-- A side's port is READY, or not, in step state. -/
def State.setReady (s : State) (sideB : Bool) (n : Nat) (b : Bool) : State :=
  let p := s.port n
  s.setPort n (if sideB = s.sideB then { p with ownReady := b } else { p with partnerReady := b })

/-- A side's port serves no more: its commands are dealt with, and the vault members are looked at again. -/
def State.portDown (s : State) (sideB : Bool) (n : Nat) : State :=
  let was := if sideB = s.sideB then (s.port n).ownReady else (s.port n).partnerReady
  let s := s.setReady sideB n false
  let s := (s.drv.cmds.filter (fun c => c.port == n && c.sideB == sideB && c.queue != 0 && c.st != .held)).foldl
    (fun (s : State) (c : DrvCmd) => s.orphan c) s
  let s := s.regone
  if was then s.vaultChanged else s

/-- A side's port serves: what was held for its drive goes (R407). -/
def State.portUp (s : State) (sideB : Bool) (n : Nat) : State :=
  let s := if sideB = s.sideB then s.setPort n { s.port n with lowPower := false } else s
  let s := (s.setReady sideB n true).regone
  let nguid := match (s.port n).member with
    | some (g, m) => match s.grp? g with
      | some x => some (x.want.member m).nguid
      | none => none
    | none => none
  let s := (s.drv.cmds.filter (fun c => c.st = .held && some c.nguid == nguid)).foldl
    (fun (s : State) (c : DrvCmd) => s.unhold c n) s
  s.vaultChanged

/-- The drive controller behind a port is reset: RESETTING, then R404 from step 4 (R404, R411). -/
def State.resetDrive (s : State) (sideB : Bool) (n : Nat) : State :=
  let s := if sideB = s.sideB then
      let s := ((s.setPort n { s.port n with
        step := 3, sinceNs := s.dev.timeNs, q1 := drvQueue0, q2 := drvQueue0, admin := [] }).portTo n 9).set F.DP_STATUS.REASON 0 n
      if s.consumes then s.observe (.driveEvent n (.reset false)) else s
    else s
  s.portDown sideB n

/-- Timeouts of a port that still count: those of the last 10 s of step time (R411). -/
def recentTimes (now : Nat) (ts : List Nat) : List Nat := ts.filter (fun t => decide (now < t + 10000000))

/-- CMD_TIMEOUT of a drive port, at most once per 10 ms (R418). -/
def State.timeoutEvent (s : State) (n : Nat) : State := s.raiseLimited (0x240 + 4 * n + 2)

/-- `k` timeouts of a port: each counts, and the third within 10 s resets the drive controller (R411, R590). -/
def State.countTimeouts (s : State) (c : DrvCmd) (k : Nat) : State :=
  let n := c.port
  let s := if c.sideB = s.sideB then (s.bumpBy F.DP_CMD_TIMEOUT.COUNT k n).timeoutEvent n else s
  let ts := recentTimes s.nowUs (s.port n).timeouts ++ List.replicate k s.nowUs
  if 3 ≤ ts.length then (s.setPort n { s.port n with timeouts := [] }).resetDrive c.sideB n
  else s.setPort n { s.port n with timeouts := ts }

/-- A member write has ended with an error status, and is issued again (R590). A status of SCT 2 on a reissue fails the member (R413). -/
def State.writeError (s : State) (c : DrvCmd) (sct g : Nat) : State :=
  if sct = 2 ∧ 0 < c.issues then
    match s.memberAt g c.port with
    | some m => (s.dropDrv c true).failMember g m
    | none => s.dropDrv c true
  else
    let errs := recentTimes s.nowUs c.errors ++ [s.nowUs]
    if 3 ≤ errs.length then (s.reissue { c with errors := [] }).countTimeouts c 3 else s.reissue { c with errors := errs }

/-! ## Reads of a host command (R173, R177, R188, R207, R237, R294) -/

/-- Where the blocks of a host read lie: stripe, column, first offset. -/
def State.readAt (s : State) (k i j : Nat) : Option (Nat × Nat × Nat × Nat) :=
  (s.cmd? k).bind (fun c => (c.runs[i]?).map (fun r => (r.group, r.stripe, j, r.off)))

/-- The check result of a completed read (R310): poisoned, GUARD, LOCATOR, or pass. -/
def checkResult (poisoned : Bool) (st j o : Nat) (bs : List Blk) : Nat :=
  if poisoned then 3
  else if bs.any (fun b => b.check.guard ≠ guard64 b.data) then 1
  else if (bs.zipIdx).any (fun b => b.1.check.locator ≠ locator st j (o + b.2)) then 2
  else 0

/-- The blocks that a command's read has put into its buffers. -/
def State.tagBlocks (s : State) (c : DrvCmd) : List Blk :=
  match c.tag with
  | some i => (s.dtag i).bufs.map s.bufBlock
  | none => []

/-- The check result as the controller that issued the command observes it. -/
def State.checkOf (s : State) (c : DrvCmd) : Nat :=
  match c.use, c.tag with
  | .hostRead k i j, some t =>
    (match s.readAt k i j with
    | some (_, st, col, o) =>
      checkResult ((s.dtag t).poisoned || (s.dtag t).bufs.any s.bufPoisoned) st col o (s.tagBlocks c)
    | none => 0)
  | _, _ => 0

/-- A read of a column of a host command has ended: with an error, poisoned, with a failed check, with lost markers, or with its blocks. -/
def State.readDone (s : State) (k i j check : Nat) (ok : Bool) (bs : List Blk) : State :=
  match s.cmd? k, s.readAt k i j with
  | some c, some (g, st, _, o) =>
    if !ok then s.runResult k i j none
    else if check = 3 then s.runPoisoned k i
    else
      let marks := ((bs.zipIdx).filter (fun b => b.1 == lostMarker)).map (fun b => o + b.2)
      let fits := (bs.zipIdx).all (fun b => b.1 == lostMarker || blkFits b.1 st j (o + b.2))
      let s := marks.foldl (fun (s : State) (x : Nat) => s.recordLost g st x 1 1 (2 ^ j)) s
      let s := if marks.isEmpty then s else s.startBrand g
      if check ≠ 0 ∧ ¬ fits then
        let s := (s.bump F.NVS_PI_MEDIA.COUNT).raise 0x184
        let s := if check = 2 then s.bump F.PAR_LOCATOR_MISMATCH.COUNT else s
        s.runResult k i j none
      else
        let own : Bool := match c.runs[i]? with
          | some r => r.col == j
          | none => false
        if !marks.isEmpty && own then s.endCmd c stUnrecovered
        else s.runResult k i j (some (bs.map (fun b => (⟨b.data, b.check.hostTag, false⟩ : RdBlk))))
  | _, _ => s

/-! ## Completions (R310) -/

/-- A drive command has completed. -/
def State.driveDone (s : State) (c : DrvCmd) (check sct sc : Nat) (bs : List Blk) : State :=
  let ok := sct == 0 && sc == 0
  let conflict := sct == 0 && sc == 0x83
  if conflict && c.sideB == s.sideB && c.op == nvWrite then (s.dropDrv c true).detach
  else match c.use with
  | .hostRead k i j => (s.dropDrv c false).readDone k i j check ok bs
  | .tally e w =>
    if ok then ((s.dropDrv c false).writeDone e w).resumeSwept
    else match s.entry? e with
      | some t => s.writeError c sct t.group
      | none => s.dropDrv c false
  | .brand g m copy part => if ok then (s.dropDrv c false).brandDone g m copy part else (s.dropDrv c false).brandFailed g m
  | .vault kind i copy => (s.dropDrv c false).vaultDone kind i copy ok
  | .fence =>
    let s := s.dropDrv c false
    if ok then s else (s.setPort c.port { s.port c.port with noWrites := true }).raise 0x20B
  | .resvKey => s.dropDrv c false
  | .admin _ => s.dropDrv c false

/-- The command that a completion entry names: the drive's identifier is the low 16 bits of the model's (R401). -/
def State.cqeCmd (s : State) (sideB : Bool) (port : Nat) (e : DrvCqe) : Option DrvCmd :=
  s.drv.cmds.find? (fun c => c.port == port && c.sideB == sideB && c.queue == e.sqid && c.cid % 65536 == e.cid
    && (c.st = .atDrive || sideB != s.sideB) && c.st ≠ .held)

/-- A numbered completion acts on its command (CONSUME_DRIVE_CQE). The blocks of a read are those in this controller's buffers, or, when the partner issued it, those that
its read returns over the link (`remote`, R412). -/
def State.driveCqe (sideB : Bool) (port check : Nat) (cqe : DrvCqe) (remote : List Blk) (s : State) : State :=
  match s.cqeCmd sideB port cqe with
  | none => s
  | some c =>
    let bs := if sideB = s.sideB then s.tagBlocks c else remote
    s.driveDone c check cqe.sct cqe.sc bs

/-! ## Timeouts (R411) -/

/-- IO_TIMEOUT_MS of a port in µs. -/
def State.ioTimeoutUs (s : State) (n : Nat) : Nat := s.cfg 0x0030 n 8 4 500 * 1000

/-- DRIVE_CMD_TIMEOUT, at a step tick: the tag is retired; a read counts its member as missing, a write is issued again under a new tag; a Brand write that has been issued
again already, and a vault write, fail. -/
def execDriveCmdTimeout (cid : Nat) (s : State) : Result :=
  .next (s.inStep (fun s =>
    match s.drv? cid with
    | none => s
    | some c =>
      if c.queue = 0 ∨ c.st = .held ∨ s.nowUs < c.formedUs + s.ioTimeoutUs c.port then s
      else
        let t : State := match c.use with
          | .hostRead k i j => (s.dropDrv c true).runResult k i j none
          | .vault kind i copy => (s.dropDrv c true).vaultDone kind i copy false
          | .brand g m _ _ => if 0 < c.issues then (s.dropDrv c true).brandFailed g m else s.reissue c
          | .tally _ _ => s.reissue c
          | .fence => s.dropDrv c true
          | .resvKey => s.dropDrv c true
          | .admin _ => s.dropDrv c true
        t.countTimeouts c 1))

/-- MEMBER_UNREACHABLE_TIMEOUT: unreachable for FAIL_AFTER_S (R413). -/
def execMemberUnreachableTimeout (group member : Nat) (s : State) : Result :=
  .next (s.inStep (fun s =>
    match s.grp? group with
    | none => s
    | some x =>
      match x.gone.find? (fun g => g.1 == member) with
      | none => s
      | some g =>
        let limit := s.cfg 0x0030 ((x.portOf member).getD 0) 20 4 10 * 1000000
        if g.2 + limit ≤ s.nowUs ∧ !s.ponr then s.failMember group member else s))

end Sys2Proof.Machine
end

