-- ==== Sys2Proof/Machine/Assembly.lean ====
section
/-!
DEFINITION. Machine/Assembly.lean: the checks of a group's geometry (R228, R231, R233), groups as records describe them, assembly from Brands and forming (R255, R256).
-/
namespace Sys2Proof.Machine

/-! ## Geometry -/

/-- The first check of R228 on counts that fails PE_13. -/
def Brand.countsOk (b : Brand) : Bool :=
  decide (4 ≤ b.k + 2) && decide (b.k ≤ 30) && decide (b.k + 2 ≤ b.members) && decide (b.members ≤ 48)

/-- The values of the record lie in their ranges and fit its layout (R227, R228). -/
def Brand.rangesOk (b : Brand) : Bool :=
  decide (b.layout ≤ 1) && decide (2 ≤ b.k) && decide (b.spare ≤ 2)
  && [16, 32, 64, 128, 256].contains b.chunkKib && decide (1 ≤ b.rows) && decide (b.rows ≤ 4096)
  && decide (1024 ≤ b.vaultMib) && decide (b.vaultMib ≤ 32768) && decide (1024 ≤ b.metaMib) && decide (b.metaMib ≤ 65536)
  && decide (0 < b.memberBlocks)
  && (if b.layout = 0 then decide (b.members = b.w) && decide (b.spare = 0) && decide (b.rows = b.w) else decide (b.members ≠ b.w))

/-- U and V are whole numbers and there is a cycle (R231). -/
def Brand.wholeOk (b : Brand) : Bool :=
  decide (b.rows * b.w % b.members = 0) && decide (b.spare * b.u % (b.members - b.spare) = 0) && decide (1 ≤ b.cycles)

/-- The stripe count leaves the locator of blocks outside the data area free (R228). -/
def Brand.stripesOk (b : Brand) : Bool := decide (b.stripes < 2 ^ 37 - 1)

/-- The placement table is valid (R233, R234). -/
def Brand.tableOk (b : Brand) : Bool :=
  decide (b.table.length = b.rows * b.w)
  && b.table.all (fun m => decide (m < b.members))
  && (List.range b.rows).all (fun r => decide (b.row r).Nodup)
  && (List.range b.members).all (fun m => decide (b.table.count m = b.u))
  && (b.layout != 0 || b.table == rotationTable b.w)
  && (b.spare == 0 || (List.range b.members).all (fun m => (b.spareTargets [m]).isSome))
  && (b.spare != 2 || (List.range b.members).all (fun m => (List.range b.members).all (fun n =>
      m == n || (b.spareTargets [m, n]).isSome)))

/-- A group whose every check of R228, R231 and R233 holds. -/
def Brand.geometryOk (b : Brand) : Bool := b.countsOk && b.rangesOk && b.wholeOk && b.stripesOk && b.tableOk

/-- The same geometry (R229). -/
def Brand.sameGeometry (a b : Brand) : Bool :=
  a.layout == b.layout && a.k == b.k && a.members == b.members && a.spare == b.spare && a.chunkKib == b.chunkKib && a.rows == b.rows
  && a.vaultMib == b.vaultMib && a.metaMib == b.metaMib && a.memberBlocks == b.memberBlocks && a.table == b.table

/-! ## A group as the records give it -/

/-- The geometry of a layout group record, with the table of its placement table record or the rotation table (R227, R234). -/
def recordBrand (g : Nat) (body : List Byte) (table : Option (List Byte)) : Brand :=
  let k := leAt body 5 1
  { seq := 0, shelf := 0, group := g, layout := leAt body 4 1, k := k, members := leAt body 6 1, spare := leAt body 7 1,
    chunkKib := leAt body 8 2, rows := leAt body 10 2, vaultMib := leAt body 12 4, metaMib := leAt body 16 4,
    memberBlocks := leAt body 24 8,
    table := (match table with
      | some t => (t.drop 8).map BitVec.toNat
      | none => rotationTable (k + 2)),
    clean := false, mapMembers := [0, 1, 2], memberTab := [], log := [], nsTab := [], lst := [], merged := false }

/-- The drive port that a layout group record expects a member at. -/
def recordDrive (body : List Byte) (i : Nat) : Nat := leAt body (32 + i) 1

/-- The group of a record in force. -/
def State.recBrand (s : State) (g : Nat) : Option Brand := (s.record 0x0060 g).map (fun b => recordBrand g b (s.record 0x0061 g))

/-- DRIVE of a member of a group in force. -/
def State.driveOf (s : State) (g i : Nat) : Nat := ((s.record 0x0060 g).map (fun b => recordDrive b i)).getD 0xFF

/-! ## Assembly (R256) -/

/-- The valid copy with the higher BRAND_SEQ; copy A when they are equal. -/
def BrandRead.brand (r : BrandRead) : Option Brand :=
  match r.copyA, r.copyB with
  | some a, some b => if a.seq < b.seq then some b else some a
  | some a, none => some a
  | none, b => b

/-- A group as assembly starts it from an authoritative Brand. -/
def newGrp (b : Brand) (offline serving : Bool) : Grp :=
  { brand := b, want := b, upd := none, offline := offline, forming := false, serving := serving, verify := .normal, swept := 0,
    sweptToo := [], ports := [], gone := [], mapSeq := 0, patrolCursor := 0, patrolPasses := 0, patrolUs := 0, patrolLate := false,
    patrolSkipped := [] }

/-- The group and member index of a forming group whose DRIVE is this port: a group in force that no drive has carried a Brand of (R255). -/
def State.formingAt (s : State) (port : Nat) : Option (Nat × Nat) :=
  (s.instancesOf 0x0060).findSome? (fun g =>
    if (s.grp? g).isSome then none
    else match s.recBrand g with
      | some b => ((List.range b.members).find? (fun i => s.driveOf g i == port)).map (fun i => (g, i))
      | none => none)

/-- The member index of an NGUID in a Brand. -/
def Brand.indexOf (b : Brand) (nguid : Nat) : Option Nat :=
  (List.range b.members).find? (fun i => (b.member i).nguid == nguid && b.mState i != mUnused)

/-- Adopts a drive's Brand as a group's authoritative one: the first of the group, or a higher sequence while the group does not serve. -/
def State.adopt (s : State) (b : Brand) (hashOk lstOk : Bool) : State :=
  let off := !(b.geometryOk && hashOk)
  let start : State :=
    let s := s.setGrp b.group (newGrp b off false)
    let s := if lstOk then s
      else match s.grp? b.group with
        | some x => (s.setGrp b.group { x with verify := .needs }).raise 0x1D1
        | none => s
    let same := match s.recBrand b.group with
      | some r => r.sameGeometry b
      | none => false
    if off || !same then s.raise 0x1C6 else s
  match s.grp? b.group with
  | none => start
  | some x => if x.serving ∨ b.seq ≤ x.brand.seq then s
      else
        let s := start
        match s.grp? b.group with
        | some y => s.setGrp b.group { y with ports := x.ports }
        | none => s

/-- A member's drive is at a port (R256 step 3): ASSEMBLY_MISMATCH when DRIVE names another one. -/
def State.seat (s : State) (sideB : Bool) (port g m : Nat) : State :=
  match s.grp? g with
  | none => s
  | some x =>
    let s := s.setPort port { s.port port with member := some (g, m) }
    let known := x.portOf m == some port
    let s := s.setGrp g { x with ports := sparseInsert m port x.ports }
    if !known && sideB == s.sideB && s.driveOf g m != port then s.raise 0x1C6 else s

/-- Forms a group once the DRIVE port of each member index holds a READY drive that carries no Brand (R255): BRAND_SEQ 1 is written. -/
def State.tryForm (s : State) (g : Nat) : State :=
  match s.recBrand g, s.grp? g with
  | some r, none =>
    let seats := (List.range r.members).map (fun i => (i, s.driveOf g i))
    if seats.all (fun p => (s.port p.2).member == some (g, p.1)
        && (s.portReady s.sideB p.2 || (s.reachSide s.sideB p.2).isSome) && (s.port p.2).brand.isNone) then
      let ent (p : Nat × Nat) : MemberEnt :=
        match (s.port p.2).facts with
        | some f => ⟨f.nguid, f.eui, mNormal, 0, p.2, f.nsze, f.serial⟩
        | none => { memberEnt0 with state := mNormal, port := p.2 }
      let ns := (s.allNs.filter (fun n => n.2.group == g)).map (fun n =>
        (⟨n.1, n.2.lbaf, 1 + (if n.2.readOnly then 2 else 0), n.2.nsid, n.2.size, n.2.nguid, n.2.uuid,
          (n.2.size + extentSize - 1) / extentSize, 0⟩ : BrandNs))
      let b := { r with shelf := s.shelfId, memberTab := seats.map ent, nsTab := ns }
      let x := newGrp { b with seq := 0, memberTab := [] } false false
      let s := s.setGrp g { x with want := b, ports := seats.foldl (fun l p => sparseInsert p.1 p.2 l) [] }
      s.startBrand g
    else s
  | _, _ => s

/-! ## Drive events as they are consumed (R414) -/

/-- What an observation of a drive port changes in step state. BRAND: the group is assembled from the Brand this controller itself has read, and the drive takes its
member index. -/
def State.driveEvent (sideB : Bool) (n : Nat) (e : DrvEvent) (s : State) : State :=
  match e with
  | .link up _ _ _ => if up then s else s.portDown sideB n
  | .presence here => if here then s else (s.setPort n { s.port n with brand := none, facts := none }).portDown sideB n
  | .contained _ => s.portDown sideB n
  | .ready _ _ =>
    let s := s.portUp sideB n
    match (s.port n).member with
    | some (g, _) => s.tryForm g
    | none => s
  | .brand kind g m _ =>
    if kind = 1 then
      let s := match (s.port n).brand with
        | some b => if sideB = s.sideB && b.group == g then s.adopt b (s.port n).hashOk (s.port n).lstOk else s
        | none => s
      if m = 0xFF then s else s.seat sideB n g m
    else if kind = 0 then
      match s.formingAt n with
      | some (g, i) => s.setPort n { s.port n with member := some (g, i), brand := none }
      | none => s
    else s
  | .held _ => s
  | .health w _ _ _ =>
    -- critical warning bits 2 and 3 fail the member (R413)
    (match (s.port n).member with
    | some (g, m) => if bitOf w 2 || bitOf w 3 then s.failMember g m else s
    | none => s)
  | .admin _ _ _ => s
  | .reset done => if done then s else s.portDown sideB n

/-- This side observes a drive port (R399, R414). -/
def State.sawDrive (s : State) (n : Nat) (e : DrvEvent) : State := s.observed (.driveEvent n e) (fun s => s.driveEvent s.sideB n e)

end Sys2Proof.Machine
end

