-- ==== Sys2Proof/Machine/PatternFmt.lean ====
section
/-!
DEFINITION. Machine/PatternFmt.lean: the Pattern image (R42 to R46, R51), the bodies of its record types with the ranges and defaults that their chapters give, the factory
Pattern (R47 to R49, R56, R115, R220, R377, R400, R420, R467, R478, R491, R536), fall-through (R55) and conversion (R76).
-/
namespace Sys2Proof.Machine

/-! ## Record types (R46) -/

/-- Change classes (R46, R62). -/
inductive Change where
  | cold | pair | live
  deriving DecidableEq, Repr

/-- A record type: number, change class, whether it has instances, and the highest one. -/
structure RecType where
  type : Nat
  change : Change
  multi : Bool
  last : Nat
  deriving DecidableEq, Repr

/-- The types of R46. -/
def recTypes : List RecType := [
  ⟨0x0001, .cold, false, 0⟩, ⟨0x0010, .cold, false, 0⟩, ⟨0x0020, .pair, true, 3⟩, ⟨0x0030, .pair, true, 47⟩, ⟨0x0040, .live, true, 47⟩,
  ⟨0x0050, .cold, false, 0⟩, ⟨0x0060, .pair, true, 11⟩, ⟨0x0061, .pair, true, 11⟩, ⟨0x0070, .live, true, 255⟩, ⟨0x0080, .pair, true, 79⟩,
  ⟨0x0081, .live, true, 63⟩, ⟨0x0082, .live, true, 1023⟩, ⟨0x0090, .pair, false, 0⟩, ⟨0x00A0, .live, true, 19⟩, ⟨0x00B0, .pair, true, 3⟩,
  ⟨0x00C0, .live, false, 0⟩, ⟨0x00D0, .live, false, 0⟩, ⟨0x00F0, .live, false, 0⟩]

def recType? (t : Nat) : Option RecType := recTypes.find? (fun r => r.type == t)

/-- The change class of a type; an unknown type changes nothing. -/
def changeOf (t : Nat) : Option Change := (recType? t).map (·.change)

/-! ## Fields of bodies -/

/-- What a field admits: anything, 0 only, bits of a mask, a range with the codes of a value outside it and of 0, or listed values. -/
inductive FChk where
  | any
  | zero
  | mask (m : Nat)
  | range (lo hi code zeroCode : Nat)
  | among (vs : List Nat)
  deriving DecidableEq, Repr

/-- A field of a body: offset, size, default (none where its chapter gives none) and check. -/
structure FSpec where
  off : Nat
  size : Nat
  dflt : Option Nat
  chk : FChk
  deriving DecidableEq, Repr

/-- A range that rejects with PE_14. -/
def rng (lo hi : Nat) : FChk := .range lo hi 14 14

def fld (off size dflt : Nat) (chk : FChk) : FSpec := ⟨off, size, some dflt, chk⟩
def need (off size : Nat) (chk : FChk) : FSpec := ⟨off, size, none, chk⟩

/-- The instance number: out of range is PE_11 (R57). -/
def instFld (last : Nat) : FSpec := need 0 4 (.range 0 last 11 11)

/-- The nn of the PE_nn that a value meets: reserved bytes and bits that are to be 0 give PE_09 (R57). -/
def FChk.code (c : FChk) (v : Nat) : Option Nat :=
  match c with
  | .any => none
  | .zero => if v = 0 then none else some 9
  | .mask m => if v &&& m = v then none else some 9
  | .range lo hi code z => if lo ≤ v ∧ v ≤ hi then none else if v = 0 then some z else some code
  | .among vs => if vs.contains v then none else some 14

/-- ALPHA_LOG2, −6 to 3 as a byte (R220). -/
def alphaValues : List Nat := [250, 251, 252, 253, 254, 255, 0, 1, 2, 3]

/-- The fields of a type's body, but for lists whose length a count declares. -/
def schema (t inst : Nat) : List FSpec :=
  if t = 0x0001 then [fld 0 8 0 .any, fld 8 32 0 .any]
  else if t = 0x0010 then [fld 0 1 0 (rng 0 2), fld 1 7 0 .zero]
  else if t = 0x0020 then [instFld 3, fld 4 1 0 (rng 0 4), fld 5 3 0 .zero]
  else if t = 0x0030 then [instFld 47, fld 4 1 0x0F (.mask 0x0F), fld 5 1 6 (rng 3 6), fld 6 1 (inst % 12) (rng 0 11), fld 7 1 3 (rng 1 16),
    fld 8 4 500 (rng 10 30000), fld 12 4 5000 (rng 100 60000), fld 16 4 10000 (rng 50 50000), fld 20 4 10 (rng 1 600), fld 24 8 0 .zero]
  else if t = 0x0040 then [instFld 47, fld 4 1 1 (.mask 3), fld 5 1 64 (rng 8 128), fld 6 1 12 (.range 2 120 14 12), fld 7 1 100 (rng 0 255),
    fld 8 2 10800 (rng 9000 12000), fld 10 2 13200 (rng 12000 14400), fld 12 2 500 (rng 50 5000), fld 14 2 0 .zero]
  else if t = 0x0050 then [fld 0 4 12288 (rng 1024 16384), fld 4 4 14336 (rng 2048 20480), fld 8 4 4096 (rng 256 16384), fld 12 4 512 (rng 64 2048),
    fld 16 4 1024 (rng 256 4096), fld 20 4 16384 (rng 2048 40960), fld 24 2 512 (rng 64 4096), fld 26 2 200 (rng 10 5000), fld 28 4 0 .zero]
    ++ (List.range 96).flatMap (fun i =>
      [fld (32 + 4 * i) 2 (if i / 8 = 4 ∨ i % 8 = 7 then 256 else 32) (rng 0 4096), fld (34 + 4 * i) 1 255 (.among alphaValues), fld (35 + 4 * i) 1 0 .zero])
  else if t = 0x0060 then [instFld 11, need 4 1 (rng 0 1), need 5 1 (.range 2 30 13 13), need 6 1 (.range 4 48 13 13), fld 7 1 0 (rng 0 2),
    fld 8 2 64 (.among [16, 32, 64, 128, 256]), need 10 2 (rng 1 4096), fld 12 4 4096 (rng 1024 32768), fld 16 4 8192 (rng 1024 65536), fld 20 4 0 .zero,
    need 24 8 (rng 1 (2 ^ 64)), need 32 48 .any]
  else if t = 0x0061 then [instFld 11, need 4 2 .any, need 6 1 .any, fld 7 1 0 .zero]
  else if t = 0x0070 then [instFld 255, need 4 4 (.mask 0x7F), need 8 2 (rng 0 4096), need 10 2 (rng 0 1024), need 12 2 (rng 1 128), fld 14 2 0 .zero,
    fld 16 4 10000 (rng 1000 60000), fld 20 4 5000 (rng 1000 60000), fld 24 8 0 .zero, need 32 256 .any]
  else if t = 0x0080 then [instFld 79, need 4 1 .any, need 5 1 .any, need 6 2 .any]
    ++ (List.range 8).flatMap (fun c => [need (8 + 24 * c) 1 (rng 0 1), need (9 + 24 * c) 1 (.mask 1), fld (10 + 24 * c) 2 0 .zero, need (12 + 24 * c) 4 .any,
      need (16 + 24 * c) 8 .any, need (24 + 24 * c) 4 .any, fld (28 + 24 * c) 4 0 .zero])
    ++ [need 200 8 .any, need 208 64 .any] ++ (List.range 8).map (fun c => need (200 + c) 1 (rng 0 63)) ++ (List.range 64).map (fun d => need (208 + d) 1 .any)
  else if t = 0x0081 then [instFld 63, need 4 2 (rng 1 256), fld 6 2 0 .zero, need 8 8 .any]
  else if t = 0x0082 then [instFld 1023, need 4 1 (rng 0 2), need 5 1 (rng 0 47), need 6 1 (rng 0 7), need 7 1 (.mask 7), need 8 8 (rng 0 800000000000),
    need 16 8 (rng 1000000 800000000000), need 24 4 (rng 9216 16777216), need 28 4 (rng 9216 16777216)]
  else if t = 0x0090 then [fld 0 4 0xFFFFFFFF (rng 1 0xFFFFFFFF), fld 4 4 40000 (rng 5000 250000), fld 8 4 1000 (rng 100 10000), fld 12 4 120 (rng 50 10000),
    fld 16 4 50 (rng 50 1000), fld 20 4 10000 (rng 1000 100000), fld 24 2 46500 (rng 1024 65535), fld 26 2 16 (rng 2 255), fld 28 2 16 (rng 1 256),
    fld 30 2 4000 (rng 500 20000), fld 32 2 200 (rng 20 10000), fld 34 2 5000 (rng 1000 60000), fld 36 1 3 (rng 1 16), fld 37 1 8 (rng 1 64),
    fld 38 1 2 (rng 1 16), fld 39 1 16 (rng 1 16), fld 40 1 3 (rng 0 3), fld 41 1 0 .zero, fld 42 2 20 (rng 1 10000)]
  else if t = 0x00A0 then [instFld 19, fld 4 4 0 .zero]
    ++ (List.range 64).flatMap (fun i => [need (8 + 4 * i) 1 (.mask 3), need (9 + 4 * i) 1 (rng 0 3), need (10 + 4 * i) 2 (rng 0 2047)])
  else if t = 0x00B0 then [instFld 3, need 4 1 (.mask 0x0F), fld 5 1 0 .any, fld 6 2 0 .zero, fld 8 4 0 .any, fld 12 2 0 .any, fld 14 2 0 .any,
    fld 16 2 0 .any, fld 18 2 0 .any, fld 20 4 0 .zero]
  else if t = 0x00C0 then [fld 0 4 0 (rng 0 86400), fld 4 4 0 (rng 0 604800), fld 8 1 0 (rng 0 31), fld 9 1 0xFF (.among (0xFF :: List.range 32)),
    fld 10 1 0xFF (.among (0xFF :: List.range 64)), fld 11 1 0 .zero, fld 12 4 2000 (rng 100 60000), fld 16 4 10000 (rng 1000 16000), fld 20 4 0 .zero]
  else if t = 0x00D0 then [fld 0 4 480 (rng 60 10080), fld 4 2 600 (rng 10 3600), fld 6 1 2 (rng 1 3), fld 7 1 20 (rng 1 20), fld 8 2 640 (rng 1 640),
    fld 10 2 30 (rng 1 365), fld 12 1 8 (rng 1 255), fld 13 3 0 .zero]
  else []

/-- Length of the body that is defined for a type, without a list. -/
def FSpec.end (f : FSpec) : Nat := f.off + f.size
def bodyLen (t : Nat) : Nat := ((schema t 0).map FSpec.end).foldl max 0

/-- Fields of the list that a body declares: namespace and host entries, gate list entries, permissions (R153 to R155, R389, R50). -/
def listFields (t : Nat) (body : List Byte) : List FSpec :=
  if t = 0x0061 then (List.range (leAt body 4 2 * leAt body 6 1)).map (fun i => need (8 + i) 1 .any)
  else if t = 0x0070 then
    let ns := leAt body 8 2
    (List.range ns).flatMap (fun i =>
      let o := 288 + 64 * i
      [need o 4 (rng 1 4096), need (o + 4) 2 .any, need (o + 6) 1 (rng 0 2), need (o + 7) 1 (.mask 3), need (o + 8) 8 (rng 1 (2 ^ 64)),
       need (o + 16) 4 (rng 0 4095), need (o + 20) 1 (.among [4, 5, 7]), need (o + 21) 3 .zero, need (o + 24) 16 (rng 1 (2 ^ 128)),
       need (o + 40) 16 (rng 1 (2 ^ 128)), need (o + 56) 8 .zero])
    ++ (List.range (leAt body 10 2)).flatMap (fun i =>
      let o := 288 + 64 * ns + 32 * i
      [need o 16 .any, need (o + 16) 4 .any, need (o + 20) 4 (.mask 3), need (o + 24) 8 .zero])
  else if t = 0x0081 then
    (List.range (leAt body 4 2)).flatMap (fun i =>
      let o := 16 + 8 * i
      [need o 4 (.range 100 1000000000 14 12), need (o + 4) 1 .any, need (o + 5) 3 .zero])
  else if t = 0x00F0 then
    (List.range (body.length / 8)).flatMap (fun i =>
      let o := 8 * i
      [need o 2 .any, need (o + 2) 2 .any, need (o + 4) 2 (.among [1, 2, 4, 8]), need (o + 6) 2 .zero])
  else []

/-! ## Events that exist (R39) -/

/-- The ranges of events that the chapters reserve. -/
def eventReserved (e : Nat) : Bool :=
  let within (lo hi : Nat) : Bool := decide (lo ≤ e) && decide (e ≤ hi)
  within 0x012 0x03F || (within 0x040 0x0BF && decide (0x17 ≤ (e - 0x040) % 32)) || within 0x0C6 0x0DF || within 0x0E2 0x0FF || within 0x10C 0x13F
  || within 0x149 0x17F || within 0x18D 0x19F || within 0x1AA 0x1BF || within 0x1DF 0x1FF || within 0x20F 0x23F || within 0x3CE 0x3FF
  || within 0x485 0x4BF || within 0x4C7 0x4DF || within 0x4EA 0x4FF

/-! ## Fall-through (R55) -/

/-- The defaults of a type's body. -/
def defaultBody (t inst : Nat) : List Byte :=
  (schema t inst).foldl (fun (b : List Byte) (f : FSpec) =>
    overlayBytes b f.off (leBytes f.size ((if f.off = 0 ∧ f.size = 4 ∧ f.dflt.isNone then some inst else f.dflt).getD 0))) (zeroBytes (bodyLen t))

/-- A body with the fields beyond its end taken from the factory record or the defaults; the list of a length-0 overlay body falls through as well. -/
def fillBody (t inst : Nat) (body : List Byte) (fac : Option (List Byte)) : List Byte :=
  let n := bodyLen t
  let base := match fac with
    | some f => padTo n f
    | none => defaultBody t inst
  if t = 0x00F0 ∧ body.isEmpty then fac.getD []
  else body.take n ++ (base.drop body.length).take (n - body.length) ++ body.drop n

/-- Offsets at which a body is cut, lacks a field that has neither a factory value nor a default, or ends before its list does (PE_20). -/
def cutOffsets (t inst : Nat) (body : List Byte) (fac : Option (List Byte)) : List Nat :=
  let n := body.length
  let fs := schema t inst
  let full := fillBody t inst body fac
  ((fs.filter (fun f => (decide (f.off < n) && decide (n < f.off + f.size))
      || (decide (n ≤ f.off) && fac.isNone && f.dflt.isNone && f.size != 0))).map (·.off))
    ++ (if t = 0x00F0 then (if n % 8 = 0 then [] else [n / 8 * 8])
      else ((listFields t full).filter (fun f => decide (n < f.off + f.size))).map (·.off))

/-! ## Conversion of older images (R76) -/

/-- A body of an older major version as 3.0 reads it. The places of the older fields are taken to be those of the order they have now. -/
def convertBody (major t : Nat) (body : List Byte) : List Byte :=
  if 3 ≤ major then body
  else if t = 0x0082 then
    body.take 8 ++ leBytes 8 (1000 * leAt body 8 4) ++ leBytes 8 (1000 * leAt body 12 4) ++ body.drop 16
  else if t = 0x0090 ∧ major = 2 ∧ 8 ≤ body.length then overlayBytes body 4 (leBytes 4 (1000 * leAt body 4 4))
  else if t = 0x0060 ∧ major = 1 then body.take 80
  else body

/-- The placement table record that a 1.x layout group record holds. -/
def convertTable (major t : Nat) (body : List Byte) : Option (List Byte) :=
  if major = 1 ∧ t = 0x0060 ∧ 80 < body.length then
    some (body.take 4 ++ sliceOf body 10 2 ++ leBytes 1 (leAt body 5 1 + 2) ++ [0] ++ body.drop 80)
  else none

/-! ## The factory Pattern -/

/-- Sets a little-endian field of a body. -/
def putLe (b : List Byte) (off size v : Nat) : List Byte := overlayBytes b off (leBytes size v)

/-- Bytes 200 to 207 and 208 to 271 of a factory logical port (R377). -/
def factoryTxDscp : List Nat := [8, 8, 8, 10, 10, 0, 48, 46]
def factoryDscp (d : Nat) : Nat :=
  if d = 46 then 7 else if d = 48 ∨ d = 56 then 6 else if d = 10 ∨ d = 12 ∨ d = 14 then 4 else if d = 8 then 0 else 5

def factoryQuantum (drive : Bool) (c : Nat) : Nat :=
  if drive then [16384, 16384, 65536, 65536, 131072, 262144].getD c 0 else [9216, 9216, 9216, 16384, 32768, 65536].getD c 0

/-- The factory scheduling tree of an instance (R377). -/
def factoryTree (i : Nat) : List Byte :=
  let drive := 32 ≤ i
  leBytes 4 i ++ leBytes 1 0xFF ++ leBytes 1 (if drive then 32 else 0) ++ leBytes 2 (if drive then 1024 else 0)
    ++ (List.range 8).flatMap (fun c => leBytes 1 (if c < 6 then 1 else 0) ++ zeroBytes 3 ++ leBytes 4 (factoryQuantum drive c) ++ zeroBytes 16)
    ++ (if drive then zeroBytes 72 else factoryTxDscp.map (BitVec.ofNat 8 ·) ++ (List.range 64).map (fun d => BitVec.ofNat 8 (factoryDscp d)))

/-- The factory event routing of an instance (R478). -/
def factoryRouting (i : Nat) : List Byte :=
  leBytes 4 i ++ zeroBytes 4 ++ (List.range 64).flatMap (fun k =>
    let e := 64 * i + k
    if eventReserved e then zeroBytes 4 else leBytes 1 3 ++ zeroBytes 1 ++ leBytes 2 e)

/-- The factory roles of a cluster (R467). -/
def factoryRoles (c : Nat) : List Byte := leBytes 4 c ++ leBytes 1 ([6, 1, 0, 0].getD c 0) ++ zeroBytes 19

/-- The factory Pattern (R56): every singleton, four breakouts in mode 0, a scheduling tree for each port, drive and slot records, event routing and roles. -/
def factoryRecords : List PatRec :=
  [⟨0x0001, 0, defaultBody 0x0001 0⟩, ⟨0x0010, 0, defaultBody 0x0010 0⟩]
  ++ (List.range 4).map (fun i => ⟨0x0020, i, defaultBody 0x0020 i⟩)
  ++ (List.range 48).map (fun i => ⟨0x0030, i, defaultBody 0x0030 i⟩)
  ++ (List.range 48).map (fun i => ⟨0x0040, i, defaultBody 0x0040 i⟩)
  ++ [⟨0x0050, 0, defaultBody 0x0050 0⟩]
  ++ (List.range 80).map (fun i => ⟨0x0080, i, factoryTree i⟩)
  ++ [⟨0x0090, 0, defaultBody 0x0090 0⟩]
  ++ (List.range 20).map (fun i => ⟨0x00A0, i, factoryRouting i⟩)
  ++ (List.range 4).map (fun i => ⟨0x00B0, i, factoryRoles i⟩)
  ++ [⟨0x00C0, 0, defaultBody 0x00C0 0⟩, ⟨0x00D0, 0, defaultBody 0x00D0 0⟩, ⟨0x00F0, 0, []⟩]

/-- The factory body of a type and instance. -/
def factoryBody (t inst : Nat) : Option (List Byte) := (factoryRecords.find? (fun r => r.type == t && r.inst == inst)).map (·.body)

/-! ## Images (R42 to R44, R51) -/

/-- A load error: nn of PE_nn, index of the record (0xF_FFFF the header or signature), byte offset in the image (R57). -/
structure PatErr where
  code : Nat
  record : Nat
  off : Nat
  deriving DecidableEq, Repr

def headerIdx : Nat := 0xFFFFF

/-- A record of an image: index, offset of its body in the image, type, instance, body as 3.0 reads it. -/
structure ImgRec where
  idx : Nat
  pos : Nat
  type : Nat
  inst : Nat
  body : List Byte
  deriving DecidableEq, Repr

def imgMajor (img : List Byte) : Nat := leAt img 4 2
def imgMinor (img : List Byte) : Nat := leAt img 6 2
def imgSeq (img : List Byte) : Nat := leAt img 16 8
def imgSig (img : List Byte) : Nat := leAt img 24 4

/-- The header's checks in the order of R587; reserved bytes of header and signature block come after PE_03. -/
def headerError (img : List Byte) : Option PatErr :=
  let so := imgSig img
  if img.take 4 ≠ asciiBytes "KPTN" then some ⟨1, headerIdx, 0⟩
  else if leAt img 60 4 ≠ crc32c (img.take 60) then some ⟨1, headerIdx, 60⟩
  else if imgMajor img = 0 ∨ 3 < imgMajor img then some ⟨2, headerIdx, 4⟩
  else if leAt img 0x20 2 ≠ 0x0480 then some ⟨4, headerIdx, 0x20⟩
  else if leAt img 28 4 % 2 = 1 then some ⟨4, headerIdx, 0x1C⟩
  else if so % 8 ≠ 0 ∨ so < 64 ∨ leAt img 8 4 ≠ so + 208 ∨ 4194304 < so + 208 ∨ img.length ≠ so + 208 then some ⟨3, headerIdx, 8⟩
  else if leAt img 28 4 ≠ 0 then some ⟨9, headerIdx, 0x1C⟩
  else if !allZero (sliceOf img 0x22 26) then some ⟨9, headerIdx, 0x22⟩
  else if !allZero (sliceOf img (so + 4) 4) ∨ !allZero (sliceOf img (so + 105) 7) then some ⟨9, headerIdx, so + 4⟩
  else none

/-- The first reserved field of a body that is not 0, or bit of a field that is to be 0. -/
def reservedOff (t inst : Nat) (body : List Byte) (fac : Option (List Byte)) : Option Nat :=
  let full := fillBody t inst body fac
  ((schema t inst ++ listFields t full).find? (fun f => decide (f.off + f.size ≤ body.length) && f.chk.code (leAt body f.off f.size) == some 9)).map (·.off)

/-- A record's checks of the structure stage: PE_08, PE_09, PE_10, PE_11, PE_20, in that order. -/
def recordError (major : Nat) (img : List Byte) (pos idx : Nat) (seen : List (Nat × Nat)) : Option PatErr :=
  let t := leAt img pos 2
  let n := leAt img (pos + 4) 4
  let p := (n + 7) / 8 * 8
  let body := convertBody major t (sliceOf img (pos + 8) n)
  let e (code off : Nat) : Option PatErr := some ⟨code, idx, off⟩
  if leAt img (pos + 8 + p) 4 ≠ crc32c (sliceOf img pos (8 + p)) then e 8 (pos + 8 + p)
  else if 1 < leAt img (pos + 2) 2 then e 9 (pos + 2)
  else if !allZero (sliceOf img (pos + 8 + n) (p - n)) then e 9 (pos + 8 + n)
  else if leAt img (pos + 12 + p) 4 ≠ 0 then e 9 (pos + 12 + p)
  else match recType? t with
    | none => if leAt img (pos + 2) 2 % 2 = 1 then e 10 pos else none
    | some r =>
      let inst := if r.multi then leAt body 0 4 else 0
      let fac := factoryBody t inst
      match reservedOff t inst body fac with
      | some o => e 9 (pos + 8 + o)
      | none =>
        if seen.contains (t, inst) then e 11 (pos + 8)
        else if r.multi ∧ r.last < inst ∧ 4 ≤ body.length then e 11 (pos + 8)
        else if r.multi ∧ body.length < 4 then e 20 (pos + 8)
        else match cutOffsets t inst body fac with
          | o :: _ => e 20 (pos + 8 + o)
          | [] => none

/-- Walks the records from `pos` on; a record that overruns SIG_OFFSET gives PE_03. -/
def walkRecords (img : List Byte) : Nat → Nat → Nat → List (Nat × Nat) → Except PatErr (List ImgRec × Nat)
  | 0, _, idx, _ => .ok ([], idx)
  | fuel + 1, pos, idx, seen =>
    let so := imgSig img
    if so ≤ pos then .ok ([], idx)
    else
      let n := leAt img (pos + 4) 4
      let p := (n + 7) / 8 * 8
      if so < pos + 16 + p then .error ⟨3, idx, pos⟩
      else match recordError (imgMajor img) img pos idx seen with
        | some e => .error e
        | none =>
          let t := leAt img pos 2
          let raw := sliceOf img (pos + 8) n
          let body := convertBody (imgMajor img) t raw
          match recType? t with
          | none => walkRecords img fuel (pos + 16 + p) (idx + 1) seen
          | some r =>
            let inst := if r.multi then leAt body 0 4 else 0
            match walkRecords img fuel (pos + 16 + p) (idx + 1) ((t, inst) :: seen) with
            | .error e => .error e
            | .ok (rs, k) =>
              let extra : List ImgRec := match convertTable (imgMajor img) t raw with
                | some b => [⟨idx, pos + 8, 0x0061, inst, b⟩]
                | none => []
              .ok (⟨idx, pos + 8, t, inst, body⟩ :: extra ++ rs, k)

/-- The structure stage of R587. -/
def parseImage (img : List Byte) : Except PatErr (List ImgRec) :=
  match headerError img with
  | some e => .error e
  | none =>
    match walkRecords img (img.length / 16 + 1) 64 0 [] with
    | .error e => .error e
    | .ok (rs, n) => if n = leAt img 12 4 then .ok rs else .error ⟨3, headerIdx, 12⟩

end Sys2Proof.Machine
end

