-- ==== Sys2Proof/Machine/PatternChecks.lean ====
section
/-!
DEFINITION. Machine/PatternChecks.lean: the semantics and compatibility stages of R587 over a configuration: PE_11 to PE_14 by record and offset, PE_15, PE_16 and PE_17 (R47, R50, R58, R59, R115, R156,
R221, R228, R229, R233, R234, R302, R377, R379, R389, R421, R467, R478, R536), and the warnings of R60.
-/
namespace Sys2Proof.Machine

/-- A record of a configuration that is to come into force: where the image holds it (none for one of the factory), and its body with fall-through. -/
structure CfgRec where
  at? : Option (Nat × Nat)
  type : Nat
  inst : Nat
  own : List Byte
  body : List Byte
  deriving DecidableEq, Repr

/-- The configuration of an image's records over the factory Pattern (R54, R55), in the order in which R587 checks it. -/
def configOf (rs : List ImgRec) : List CfgRec :=
  let mine := rs.map (fun r => ({ at? := some (r.idx, r.pos), type := r.type, inst := r.inst, own := r.body,
                                  body := fillBody r.type r.inst r.body (factoryBody r.type r.inst) } : CfgRec))
  let rest := (factoryRecords.filter (fun f => !rs.any (fun r => r.type == f.type && r.inst == f.inst))).map (fun f =>
    ({ at? := none, type := f.type, inst := f.inst, own := f.body, body := f.body } : CfgRec))
  mine ++ rest

/-- The record of a type and instance. -/
def cfgRec? (c : List CfgRec) (t i : Nat) : Option CfgRec := c.find? (fun r => r.type == t && r.inst == i)

/-- The records as the state holds them. -/
def CfgRec.pat (r : CfgRec) : PatRec := ⟨r.type, r.inst, r.body⟩

/-! ## Conditions of one record, each at its field of highest offset -/

/-- Rate in b/s of a logical port under a breakout (R49). -/
def breakoutRate (mode : Nat) : Nat := if mode < 4 then 800000000000 / 2 ^ mode else 0

/-- R377. -/
def treeErrors (c : List CfgRec) (r : CfgRec) : List (Nat × Nat) :=
  let b := r.body
  let v (o n : Nat) : Nat := leAt b o n
  let drive := decide (32 ≤ r.inst)
  let rate := if drive then 128000000000 else breakoutRate (((cfgRec? c 0x0020 (r.inst / 8)).map (fun x => leAt x.body 4 1)).getD 4)
  let one (bad : Bool) (o code : Nat) : List (Nat × Nat) := if bad then [(o, code)] else []
  one (if drive then v 4 1 != 0xFF else v 4 1 != 0xFF && decide (63 < v 4 1)) 4 14
  ++ one (if drive then v 5 1 == 0 || decide (32 < v 5 1) else v 5 1 != 0) 5 14
  ++ one (if drive then decide (v 6 2 < 32) || decide (4096 < v 6 2) else v 6 2 != 0) 6 14
  ++ (List.range 8).flatMap (fun k =>
      let o := 8 + 24 * k
      let strict := v o 1 == 0
      let shaped := bitOf (v (o + 1) 1) 0
      let q := v (o + 4) 4
      one (k == 7 && !strict) o 14 ++ one (k == 7 && shaped) (o + 1) 14
      ++ one (!strict && q == 0) (o + 4) 12
      ++ one ((strict && q != 0) || (!strict && q != 0 && (decide (q < 64) || decide (16777216 < q)))) (o + 4) 14
      ++ one (if shaped then decide (v (o + 8) 8 < 1000000) || decide (rate < v (o + 8) 8) else v (o + 8) 8 != 0) (o + 8) 14
      ++ one (if shaped then decide (v (o + 16) 4 < 9216) || decide (16777216 < v (o + 16) 4) else v (o + 16) 4 != 0) (o + 16) 14)
  ++ one (drive && !allZero (sliceOf b 200 8)) 207 14 ++ one (drive && !allZero (sliceOf b 208 64)) 271 14
  ++ (List.range 64).flatMap (fun d => one (decide (32 ≤ v (208 + d) 1) || v (208 + d) 1 / 8 == 3) (208 + d) 14)

/-- R466, R467, within one record. -/
def roleErrors (r : CfgRec) : List (Nat × Nat) :=
  let v (o n : Nat) : Nat := leAt r.body o n
  let tenant := bitOf (v 4 1) 3
  let inR (o n lo hi : Nat) : List (Nat × Nat) :=
    if (if tenant then decide (lo ≤ v o n) && decide (v o n ≤ hi) else v o n == 0) then [] else [(o, 14)]
  (if (v 4 1 % 8 ≠ 0 ∧ 2 ≤ r.inst) ∨ (tenant ∧ r.inst = 0) then [(4, 14)] else [])
  ++ inR 5 1 1 8 ++ inR 8 4 64 8192 ++ inR 12 2 4096 65535 ++ inR 14 2 1 256 ++ inR 16 2 24577 65535 ++ inR 18 2 1 4096
  ++ (if 65536 < v 12 2 + v 14 2 then [(14, 14)] else []) ++ (if 65536 < v 16 2 + v 18 2 then [(18, 14)] else [])

/-- R379. -/
def meterErrors (r : CfgRec) : List (Nat × Nat) :=
  let v (o n : Nat) : Nat := leAt r.body o n
  let point := v 4 1
  let action := v 7 1 / 2 % 4
  (if point < 2 ∧ 31 < v 5 1 then [(5, 14)] else [])
  ++ (if action = 3 ∨ (action = 1 ∧ point = 0) ∨ (point = 2 ∧ (action ≠ 0 ∨ v 7 1 % 2 = 1)) then [(7, 14)] else [])
  ++ (if v 16 8 < v 8 8 then [(16, 14)] else [])

/-- R389: nanoseconds of BASE_TIME, and the cycle time. -/
def gateErrors (r : CfgRec) : List (Nat × Nat) :=
  let n := leAt r.body 4 2
  (if 999999999 < leAt r.body 8 8 % 2 ^ 30 then [(8, 14)] else [])
  ++ (if 1000000000 < ((List.range n).map (fun i => leAt r.body (16 + 8 * i) 4)).sum then [(16 + 8 * (n - 1), 14)] else [])

/-- The group that a layout group record of a configuration describes. -/
def cfgBrand (c : List CfgRec) (g : Nat) (body : List Byte) : Brand := recordBrand g body ((cfgRec? c 0x0061 g).map (·.body))

/-- R228, R231: a group's counts, layout, dimensions and drives. -/
def groupErrors (c : List CfgRec) (r : CfgRec) : List (Nat × Nat) :=
  let b := recordBrand r.inst r.body none
  let drives := (List.range b.members).map (recordDrive r.body)
  (if b.countsOk then [] else [(6, 13)])
  ++ (if b.layout = 0 ∧ (b.members ≠ b.w ∨ b.spare ≠ 0 ∨ b.rows ≠ b.w) then [(10, 14)] else [])
  ++ (if b.layout = 1 ∧ b.members = b.w then [(6, 14)] else [])
  ++ (if b.members = 0 then [] else if b.wholeOk then [] else [(24, 14)])
  ++ (if (List.range 48).any (fun i => if i < b.members then decide (47 < recordDrive r.body i ∧ recordDrive r.body i ≠ 0xFF) else recordDrive r.body i != 0xFF)
        ∨ ¬ (drives.filter (· != 0xFF)).Nodup
        ∨ (c.takeWhile (fun x => x.type != 0x0060 || x.inst != r.inst)).any (fun x => x.type == 0x0060
            && (List.range (leAt x.body 6 1)).any (fun i => recordDrive x.body i != 0xFF && drives.contains (recordDrive x.body i)))
      then [(79, 14)] else [])

/-- R233, R234: the table against its group. -/
def tableErrors (c : List CfgRec) (r : CfgRec) : List (Nat × Nat) :=
  match cfgRec? c 0x0060 r.inst with
  | none => []
  | some g =>
    let b := recordBrand r.inst g.body (some r.body)
    if leAt r.body 4 2 ≠ b.rows then [(4, 14)]
    else if leAt r.body 6 1 ≠ b.w then [(6, 14)]
    else if b.members ≠ 0 ∧ ¬ b.tableOk then [(8 + b.rows * b.w - 1, 14)] else []

/-- R156 and R302: NSIDs and NQNs that repeat, HALF_B that differs in a group, and what an NSID in force may not change. -/
def nsErrors (c : List CfgRec) (now : Option (List PatRec)) (r : CfgRec) : List (Nat × Nat) :=
  let ns := nsEntries r.body
  let before := (c.takeWhile (fun x => x.type != 0x0070 || x.inst != r.inst)).filter (fun x => x.type == 0x0070)
  let old : List NsEnt := match now with
    | some p => ((p.find? (fun x => x.type == 0x0070 && x.inst == r.inst)).map (fun x => nsEntries x.body)).getD []
    | none => []
  (if allZero (sliceOf r.body 32 256) then [(32, 14)] else [])
  ++ (if before.any (fun x => sliceOf x.body 32 256 == sliceOf r.body 32 256) then [(32, 11)] else [])
  ++ ns.zipIdx.flatMap (fun (p : NsEnt × Nat) =>
      let o := 288 + 64 * p.2
      let others := (before.flatMap (fun x => nsEntries x.body)) ++ ns.take p.2
      (if (ns.take p.2).any (fun m => m.nsid == p.1.nsid) then [(o, 11)] else [])
      ++ (if others.any (fun m => m.group == p.1.group && m.halfB != p.1.halfB) then [(o + 7, 14)] else [])
      ++ (match old.find? (fun m => m.nsid == p.1.nsid) with
        | none => []
        | some m =>
          (if m.group ≠ p.1.group then [(o + 4, 14)] else []) ++ (if m.lbaf ≠ p.1.lbaf then [(o + 6, 14)] else [])
          ++ (if p.1.size < m.size then [(o + 8, 14)] else []) ++ (if m.map ≠ p.1.map then [(o + 16, 14)] else [])))

/-- Every failing check of a record among PE_11 to PE_14: offset and code. -/
def recordErrors (c : List CfgRec) (now : Option (List PatRec)) (r : CfgRec) : List (Nat × Nat) :=
  let v (o n : Nat) : Nat := leAt r.body o n
  let fields := ((schema r.type r.inst ++ listFields r.type r.body).filterMap (fun f =>
    match f.chk.code (leAt r.body f.off f.size) with
    | some 9 => none
    | some code => some (f.off, code)
    | none => none))
  fields ++
    (if r.type = 0x0001 then (if r.at?.isSome ∧ 8 ≤ r.own.length ∧ v 0 8 = 0 then [(0, 14)] else [])
    else if r.type = 0x0040 then (if v 8 2 < v 10 2 then [] else [(10, 14)])
    else if r.type = 0x0060 then groupErrors c r
    else if r.type = 0x0061 then tableErrors c r
    else if r.type = 0x0070 then nsErrors c now r
    else if r.type = 0x0080 then treeErrors c r
    else if r.type = 0x0081 then gateErrors r
    else if r.type = 0x0082 then
      meterErrors r ++ (if (c.takeWhile (fun x => x.type != 0x0082 || x.inst != r.inst)).any (fun x => x.type == 0x0082
        && sliceOf x.body 4 3 == sliceOf r.body 4 3) then [(6, 14)] else [])
    else if r.type = 0x0090 then (if v 4 4 < 4 * v 8 4 then [(8, 14)] else [])
    else if r.type = 0x00A0 then
      (List.range 64).filterMap (fun k => if eventReserved (64 * r.inst + k) && v (8 + 4 * k) 4 != 0 then some (8 + 4 * k, 14) else none)
    else if r.type = 0x00B0 then
      roleErrors r ++ (if r.inst = 3 ∧ ((List.range 3).any (fun bit => (c.filter (fun x => x.type == 0x00B0 && bitOf (leAt x.body 4 1) bit)).length != 1)
        ∨ 1 < (c.filter (fun x => x.type == 0x00B0 && bitOf (leAt x.body 4 1) 3)).length) then [(4, 14)] else [])
    else if r.type = 0x00F0 then
      (List.range (r.body.length / 8)).filterMap (fun i => if changeOf (v (8 * i) 2) = some Change.live then none else some (8 * i, 14))
    else [])

/-- The failing check at the lowest offset, of the lowest code there. -/
def firstError : List (Nat × Nat) → Option (Nat × Nat)
  | [] => none
  | e :: rest => match firstError rest with
    | none => some e
    | some f => if f.1 < e.1 ∨ (f.1 = e.1 ∧ f.2 < e.2) then some f else some e

/-- Where a failing check lies in the image. -/
def CfgRec.err (r : CfgRec) (off code : Nat) : PatErr :=
  match r.at? with
  | some (i, pos) => ⟨code, i, pos + off⟩
  | none => ⟨code, headerIdx, 0⟩

/-! ## The whole configuration (PE_15, PE_16) -/

/-- PE_15: the memory partition (R221), namespaces in all and in a group (R156), stripes of a group (R228). -/
def limitErrors (c : List CfgRec) : List PatErr :=
  let part := match cfgRec? c 0x0050 0 with
    | none => []
    | some r =>
      let v (o n : Nat) : Nat := leAt r.body o n
      (if v 4 4 < v 0 4 + 1024 then [r.err 4 15] else [])
      ++ (if 49152 < v 4 4 + v 8 4 + v 12 4 + v 16 4 + v 20 4 + 1792 then [r.err 20 15] else [])
      ++ (if 16384 < v 24 2 + ((List.range 96).map (fun i => v (32 + 4 * i) 2)).sum then [r.err 412 15] else [])
  let subs := c.filter (fun r => r.type == 0x0070)
  let all := subs.flatMap (fun r => nsEntries r.body)
  let groups := c.filter (fun r => r.type == 0x0060)
  part ++ (if 4096 < all.length then [⟨15, headerIdx, 0⟩] else [])
  ++ groups.filterMap (fun r =>
      let b := cfgBrand c r.inst r.body
      if b.capacity < ((all.filter (fun n => n.group == r.inst)).map (·.size)).sum then some (r.err 24 15)
      else if b.stripesOk then none else some (r.err 24 15))

/-- PE_16: groups of namespaces, drive ports and tables of groups, groups of tables, gate lists of trees, FALLOW_PORT. -/
def refErrors (c : List CfgRec) : List PatErr :=
  c.flatMap (fun r =>
    let v (o n : Nat) : Nat := leAt r.body o n
    if r.type = 0x0070 then (nsEntries r.body).zipIdx.filterMap (fun (p : NsEnt × Nat) =>
      if (cfgRec? c 0x0060 p.1.group).isSome then none else some (r.err (292 + 64 * p.2) 16))
    else if r.type = 0x0060 then
      ((List.range (v 6 1)).filterMap (fun i =>
        let d := recordDrive r.body i
        if d = 0xFF ∨ ((cfgRec? c 0x0030 d).any (fun x => bitOf (leAt x.body 4 1) 0)) then none else some (r.err (32 + i) 16)))
      ++ (if v 4 1 = 1 ∧ (cfgRec? c 0x0061 r.inst).isNone then [r.err 4 16] else [])
    else if r.type = 0x0061 then (if (cfgRec? c 0x0060 r.inst).isSome then [] else [r.err 0 16])
    else if r.type = 0x0080 then (if v 4 1 = 0xFF ∨ (cfgRec? c 0x0081 (v 4 1)).isSome then [] else [r.err 4 16])
    else if r.type = 0x00C0 then
      let mode := ((cfgRec? c 0x0020 (v 8 1 / 8)).map (fun x => leAt x.body 4 1)).getD 4
      (if mode < 4 ∧ v 8 1 % 8 < 2 ^ mode then [] else [r.err 8 16])
    else [])

/-- PE_17: the geometry of a group whose members carry a Brand changes (R229). -/
def geometryErrors (c : List CfgRec) (branded : List (Nat × Brand)) : List PatErr :=
  branded.filterMap (fun (g : Nat × Brand) =>
    match cfgRec? c 0x0060 g.1 with
    | none => none
    | some r => if (cfgBrand c g.1 r.body).sameGeometry g.2 then none else some (r.err 24 17))

/-- Stages 3 and 4 of R587 over a configuration; `now` is what is in force at a delivery. -/
def configError (c : List CfgRec) (now : Option (List PatRec)) (branded : List (Nat × Brand)) : Option PatErr :=
  match c.findSome? (fun r => (firstError (recordErrors c now r)).map (fun e => r.err e.1 e.2)) with
  | some e => some e
  | none => (limitErrors c ++ refErrors c ++ geometryErrors c branded).head?

/-- The checks of a user Pattern at a delivery or a load, and the configuration it would put in force. `auth` is what the authenticity stage finds, `seq` the sequence in force at a delivery. -/
def checkImage (img : List Byte) (auth : Option Nat) (seq : Option Nat) (now : Option (List PatRec)) (branded : List (Nat × Brand)) :
    Except PatErr (List CfgRec) :=
  match parseImage img with
  | .error e => .error e
  | .ok rs =>
    match auth with
    | some code => .error ⟨code, headerIdx, imgSig img + (if code = 6 then 2 else 0)⟩
    | none =>
      if seq.any (fun q => decide (imgSeq img ≤ q)) then .error ⟨7, headerIdx, 16⟩
      else
        let c := configOf rs
        match configError c now branded with
        | some e => .error e
        | none => .ok c

/-! ## Warnings (R60) -/

/-- PW_01, PW_03, PW_04 and PW_05 of a configuration; PW_02 comes with the overlay values. -/
def configWarnings (rs : List PatRec) (user : Bool) : List Nat :=
  let closed (b : List Byte) : Bool := (List.range (leAt b 4 2)).any (fun i => !bitOf (leAt b (20 + 8 * i) 1) 7)
  (rs.filter (fun r => r.type == 0x0081 && closed r.body)).map (fun _ => 1)
  ++ (if user then [] else [3])
  ++ (if rs.any (fun r => r.type == 0x0090 && leAt r.body 0 4 == 0xFFFFFFFF) then [4] else [])
  ++ (if user && rs.any (fun r => r.type == 0x0001 && leAt r.body 0 8 == 0) then [5] else [])

/-! ## Overlay values (R50, R592, R593) -/

/-- The overlay record in force permits a field. -/
def ovlPermits (rs : List PatRec) (v : OvlVal) : Bool :=
  match rs.find? (fun r => r.type == 0x00F0) with
  | none => false
  | some r => (List.range (r.body.length / 8)).any (fun i =>
      leAt r.body (8 * i) 2 == v.type && leAt r.body (8 * i + 2) 2 == v.off && leAt r.body (8 * i + 4) 2 == v.len)

/-- The configuration with a value, and the nn of the PE_nn that the changed record meets, if any. -/
def ovlApply (rs : List PatRec) (v : OvlVal) : Except Nat (List PatRec) :=
  let new := rs.map (fun (r : PatRec) => if r.type = v.type ∧ r.inst = v.inst then { r with body := putLe r.body v.off v.len v.value } else r)
  let cfg (l : List PatRec) : List CfgRec := l.map (fun (r : PatRec) => ({ at? := some (0, 0), type := r.type, inst := r.inst, own := r.body, body := r.body } : CfgRec))
  match rs.find? (fun r => r.type == v.type && r.inst == v.inst) with
  | none => .error 0
  | some r =>
    if r.body.length < v.off + v.len then .error 20
    else match (schema v.type v.inst ++ listFields v.type r.body).find? (fun f => f.chk.code (leAt (putLe r.body v.off v.len v.value) f.off f.size) == some 9) with
      | some _ => .error 9
      | none => match configError (cfg new) none [] with
        | some e => .error e.code
        | none => .ok new

/-- Applies stored values in order; an invalid one is discarded with PW_02 (R592). -/
def ovlAll (rs : List PatRec) (vs : List OvlVal) : List PatRec × Nat :=
  vs.foldl (fun (a : List PatRec × Nat) (v : OvlVal) =>
    if ovlPermits a.1 v then
      match ovlApply a.1 v with
      | .ok rs => (rs, a.2)
      | .error _ => (a.1, a.2 + 1)
    else (a.1, a.2 + 1)) (rs, 0)

end Sys2Proof.Machine
end

