-- ==== Sys2Proof/Machine/DrivePorts.lean ====
section
/-!
DEFINITION. Machine/DrivePorts.lean: bringing up a drive (R398, R404, R405), removal, containment and errors (R403, R407 to R410), completion queues (R402) and
administration (R415, R417).
-/
namespace Sys2Proof.Machine

/-! ## Ports -/

def dpDisabled : Nat := 0
def dpEmpty : Nat := 1
def dpPowering : Nat := 2
def dpTraining : Nat := 3
def dpConfiguring : Nat := 4
def dpChecking : Nat := 5
def dpReady : Nat := 6
def dpHeld : Nat := 7
def dpContained : Nat := 8
def dpResetting : Nat := 9

def State.dpState (s : State) (n : Nat) : Nat := s.get F.DP_STATUS.STATE n

/-- FLAGS of the drive ports record. -/
def State.dpFlag (s : State) (n bit : Nat) : Bool := bitOf (s.cfg 0x0030 n 4 1 0x0F) bit

/-- The port exists and its record enables it (R400). -/
def State.dpOn (s : State) (n : Nat) : Bool := decide (n < 48) && s.dpFlag n 0

/-- Takes a port state other than HELD. -/
def State.portAt (s : State) (n st : Nat) : State := (s.portTo n st).set F.DP_STATUS.REASON 0 n

/-- A bring-up step has been completed: the next one begins. -/
def State.stepped (s : State) (n step : Nat) : State := s.setPort n { s.port n with step := step, sinceNs := s.dev.timeNs }

/-- The drive is held for a reason of R405. -/
def State.holdDrive (s : State) (n reason : Nat) : State :=
  ((s.portTo n dpHeld).set F.DP_STATUS.REASON reason n).sawDrive n (.held reason)

/-- Raises event `k` of a drive port. -/
def State.dpEvent (s : State) (n k : Nat) : State := s.raise (0x240 + 4 * n + k)

/-- The link is down: rate and width read 0 (DP_STATUS). -/
def State.linkDown (s : State) (n : Nat) : State :=
  if s.get F.DP_STATUS.GEN n = 0 then s
  else (((s.set F.DP_STATUS.GEN 0 n).set F.DP_STATUS.WIDTH 0 n).set F.DP_STATUS.FLIT 0 n).dpEvent n 0

/-- Logs an uncorrectable error in AER: the first one since the status was cleared keeps its header. -/
def State.aer (s : State) (n bit : Nat) (hdr : List Nat) : State :=
  let old := s.get F.DP_AER_UNCOR.STATUS n
  let s := s.set F.DP_AER_UNCOR.STATUS (withBit old bit) n
  if old ≠ 0 then s
  else (List.range 4).foldl (fun (s : State) (i : Nat) => s.set F.DP_AER_HDR.HEADER (hdr.getD i 0) n i) s

/-! ## Bring-up (R404) -/

/-- DRIVE_PERST_RELEASE: at least 100 ms after power-good. -/
def execDrivePerstRelease (port : Nat) (s : State) : Result :=
  .next (
    let p := s.port port
    if s.dpOn port && s.dpState port == dpPowering && (sparseGet slotPath0 port s.slot.paths).begun
        && decide (p.sinceNs + 100000000 ≤ s.dev.timeNs) then
      ((s.setPort port { p with released := true, retrains := 0 }).stepped port 1).portAt port dpTraining
    else s)

/-- DRIVE_LINK_TRAINED: L0 at a rate and width up to MAX_GEN; a ×1 link is held unless ALLOW_X1 is set. -/
def execDriveLinkTrained (port rate width : Nat) (flit : Bool) (s : State) : Result :=
  .next (
    if s.dpOn port && s.dpState port == dpTraining && decide (3 ≤ rate) && decide (rate ≤ s.cfg 0x0030 port 5 1 6)
        && (width == 1 || width == 2) then
      let s := ((s.set F.DP_STATUS.GEN rate port).set F.DP_STATUS.WIDTH width port).setFlag F.DP_STATUS.FLIT flit port
      let s := (s.dpEvent port 0).sawDrive port (.link true rate width flit)
      let s := if rate < 6 ∨ width < 2 then s.dpEvent port 3 else s
      if width = 1 ∧ s.dpFlag port 3 = false then s.holdDrive port 0x01
      else (s.setPort port { s.port port with step := 2 }).portAt port dpConfiguring
    else s)

/-- DRIVE_CONFIG_DONE: enumerated, BAR assigned, bus mastering enabled. -/
def execDriveConfigDone (port : Nat) (s : State) : Result :=
  .next (
    if s.dpOn port && s.dpState port == dpConfiguring && (s.port port).step == 2 then s.stepped port 3 else s)

/-- DRIVE_CONTROLLER_READY: CSTS.RDY reads 1, or CSTS.CFS is set (`failed`). -/
def execDriveControllerReady (port : Nat) (failed : Bool) (s : State) : Result :=
  .next (
    let st := s.dpState port
    if s.dpOn port && (st == dpConfiguring || st == dpResetting) && (s.port port).step == 3 then
      if failed then s.holdDrive port 0x03
      else
        let s := if st = dpResetting then s.sawDrive port (.reset true) else s
        (s.stepped port 4).portAt port dpChecking
    else s)

/-- The reason of R405 that the checks of step 5 find. -/
def State.checkReason (s : State) (f : DriveFacts) (adminFailed : Bool) : Option Nat :=
  if !f.nvme then some 0x02
  else if !f.dualPort && s.profile != 0 then some 0x04
  else if f.queues < 2 ∨ f.mqes < 63 then some 0x05
  else if adminFailed then some 0x0C
  else none

/-- DRIVE_CHECKS_DONE: Identify and the queue count; the result of each admin command enters the stream (R415). -/
def execDriveChecksDone (port : Nat) (facts : DriveFacts) (adminFailed : Bool) (s : State) : Result :=
  .next (
    if s.dpOn port && s.dpState port == dpChecking && (s.port port).step == 4 then
      let s := (s.setPort port { s.port port with facts := some facts, nguid := facts.nguid }).sawDrive port (.admin 0x06 0 0)
      match s.checkReason facts adminFailed with
      | some r => s.holdDrive port r
      | none => s.stepped port 5
    else s)

/-- The drive's NGUID is that of a member that another drive already holds in service. -/
def State.twin (s : State) (port g m : Nat) : Bool :=
  match s.grp? g with
  | some x => (match x.portOf m with
    | some p => p != port && s.memberHere x m
    | none => false)
  | none => false

/-- The reason of R405 that a drive with a Brand of this shelf meets: format, size, a FAILED index, a mismatch. -/
def State.brandReason (s : State) (port : Nat) (f : DriveFacts) (b : Brand) : Option Nat :=
  let auth := match s.grp? b.group with
    | some x => if x.serving || decide (b.seq ≤ x.brand.seq) then x.want else b
    | none => b
  let newer := match s.grp? b.group with
    | some x => x.serving && decide (x.brand.seq < b.seq)
    | none => false
  if !f.memberFormat then some 0x06
  else if f.nsze < b.memberBlocks + 256 then some 0x07
  else match auth.indexOf f.nguid with
    | none => some 0x0B
    | some i =>
      if auth.mState i = mFailed then some 0x0A
      else if newer || s.twin port b.group i then some 0x0B
      else none

/-- DRIVE_BRAND_READ: the Brand copies are read and classified; the drive goes on, or is held, and the group is assembled (R256). -/
def execDriveBrandRead (port : Nat) (read : BrandRead) (s : State) : Result :=
  .next (
    match (s.port port).facts with
    | none => s
    | some f =>
      if s.dpOn port && s.dpState port == dpChecking && (s.port port).step == 5 then
        match read.brand with
        | none =>
          if !read.readable then (s.sawDrive port (.brand 3 0 0xFF 0)).holdDrive port 0x08
          else
            let s := (s.setPort port { s.port port with brand := none }).sawDrive port (.brand 0 0 0xFF 0)
            (match s.formingAt port with
            | some (g, _) =>
              if f.nsze < (((s.recBrand g).map (·.memberBlocks)).getD 0) + 256 then s.holdDrive port 0x07 else s.stepped port 6
            | none => s.holdDrive port 0x08)
        | some b =>
          if b.shelf ≠ s.shelfId then (s.sawDrive port (.brand 2 0 0xFF (b.seq % 2 ^ 40))).holdDrive port 0x09
          else
            let reason := s.brandReason port f b
            let idx : Nat := match reason with
              | none => (b.indexOf f.nguid).getD 0xFF
              | some _ => 0xFF
            let s := s.setPort port { s.port port with brand := some b, hashOk := read.hashOk, lstOk := read.lstOk }
            let s := s.sawDrive port (.brand 1 b.group idx (b.seq % 2 ^ 40))
            match reason with
            | some r => s.holdDrive port r
            | none => s.stepped port 6
      else s)

/-- OUTSTANDING in force: the record's, at most MQES + 1 − 32 (R401). -/
def State.outstanding (s : State) (n : Nat) : Nat := min (s.cfg 0x0080 (32 + n) 6 2 1024) (s.get F.DP_QUEUE.MQES n + 1 - 32)

/-- A reservation command to a drive (R335, R404): 0x0D registers this controller's key, 0x11 acquires the reservation. -/
def State.resvCmd (s : State) (port op : Nat) (use : DrvUse) : State :=
  let c : DrvCmd := {
    cid := s.drv.cidCtr, port := port, sideB := s.sideB, queue := 2, op := op, lba := 0, nlb := 0, tag := none, viaYard := false,
    blocks := [], use := use, cls := 7, formedUs := s.nowUs, issues := 0, errors := [], st := .held, nguid := (s.port port).nguid }
  (({ s with drv := { s.drv with cidCtr := s.drv.cidCtr + 1, cmds := s.drv.cmds ++ [c] } }).foldDrv c).launch c

/-- DRIVE_READY: the I/O queues exist, the reservation key is registered in a paired profile, and the member enters service. -/
def execDriveReady (port : Nat) (adminFailed : Bool) (s : State) : Result :=
  .next (
    match (s.port port).facts with
    | none => s
    | some f =>
      if s.dpOn port && s.dpState port == dpChecking && (s.port port).step == 6 then
        if adminFailed then s.holdDrive port 0x0C
        else
          let s := s.set F.DP_QUEUE.MQES f.mqes port
          let s := s.set F.DP_QUEUE.OUTSTANDING (s.outstanding port) port
          let s := (s.setPort port { s.port port with q1 := drvQueue0, q2 := drvQueue0 }).stepped port 7
          let s := (s.portAt port dpReady).sawDrive port (.ready (s.outstanding port) f.mqes)
          if s.profile = 0 then s
          else
            let s := s.resvCmd port 0x0D .resvKey
            if s.numbers then s.resvCmd port 0x11 .resvKey else s
      else s)

/-- ADMIN_TIMEOUT_MS of a port in ns. -/
def State.adminNs (s : State) (n : Nat) : Nat := s.cfg 0x0030 n 12 4 5000 * 1000000

/-- The limit of the bring-up step that a port is in, and the reason it is held for (R404); `capTo` is the drive's CAP.TO. -/
def State.bringupLimit (s : State) (n capTo : Nat) : Option (Nat × Nat) :=
  let st := s.dpState n
  let step := (s.port n).step
  if st = dpTraining then some (1000000000, 0x01)
  else if st = dpConfiguring ∧ step = 2 then some (1000000000, 0x01)
  else if (st = dpConfiguring ∨ st = dpResetting) ∧ step = 3 then some (min (capTo * 500000000) 60000000000, 0x03)
  else if st = dpChecking ∧ step = 4 then some (s.adminNs n, 0x0C)
  else if st = dpChecking ∧ step = 5 then some (s.cfg 0x0030 n 8 4 500 * 1000000, 0x08)
  else if st = dpChecking ∧ step = 6 then some (s.adminNs n, 0x0C)
  else none

/-- DRIVE_BRINGUP_TIMEOUT: training is tried twice more; any other step, and the third failure to train, holds the drive. -/
def execDriveBringupTimeout (port capTo : Nat) (s : State) : Result :=
  .next (
    match s.bringupLimit port capTo with
    | none => s
    | some (limit, reason) =>
      let p := s.port port
      if s.dpOn port && decide (p.sinceNs + limit ≤ s.dev.timeNs) then
        if s.dpState port = dpTraining ∧ p.retrains < 2 then
          s.setPort port { p with retrains := p.retrains + 1, sinceNs := s.dev.timeNs }
        else s.holdDrive port reason
      else s)

/-! ## Containment and removal (R407 to R409) -/

/-- Containments of the last 60 s of step time. -/
def recentContains (now : Nat) (ts : List Nat) : List Nat := ts.filter (fun t => decide (now < t + 60000000))

/-- A root port enters Downstream Port Containment (R408). -/
def State.contain (s : State) (n bits : Nat) : State :=
  let s := s.linkDown n
  let cs := recentContains s.nowUs (s.port n).contains ++ [s.nowUs]
  let s := s.setPort n { s.port n with containNs := s.dev.timeNs, contains := cs, admin := [], step := 1 }
  (((s.set F.DP_STATUS.CONTAINS (min 31 cs.length) n).bump F.DP_CONTAIN.COUNT n).portAt n dpContained).dpEvent n 1
    |>.sawDrive n (.contained bits)

/-- The link of a port may drop: it has been trained. -/
def State.dpLinked (s : State) (n : Nat) : Bool :=
  s.dpOn n && (s.get F.DP_STATUS.GEN n != 0) && s.dpState n != dpContained

/-- The link drops under a drive: Surprise Down contains the port (R407, R408). -/
def State.surprise (s : State) (n : Nat) : State := if s.dpLinked n then (s.aer n 5 []).contain n (2 ^ 5) else s

/-- Presence is lost: the port is EMPTY, once (R404, R407, R409). -/
def State.portEmpty (s : State) (n : Nat) : State :=
  let s := s.surprise n
  if s.flag F.DP_STATUS.PRESENT n ∨ s.dpState n ≠ dpEmpty then
    ((s.set F.DP_STATUS.PRESENT 0 n).portAt n dpEmpty).sawDrive n (.presence false)
  else s

/-- Presence is confirmed: an EMPTY port waits for power-good (R404). -/
def State.portSeated (s : State) (n : Nat) : State :=
  let s := (s.set F.DP_STATUS.PRESENT 1 n).sawDrive n (.presence true)
  if s.dpState n = dpEmpty then s.portAt n dpPowering else s

/-- PERST_N is asserted while presence holds: the port returns to POWERING, and its commands fare as at a removal (R404, R434). -/
def State.portPerst (s : State) (n : Nat) : State :=
  let st := s.dpState n
  if !s.dpOn n ∨ st = dpDisabled ∨ st = dpEmpty then s
  else
    let was := st = dpReady ∨ s.get F.DP_STATUS.GEN n ≠ 0
    let s := (s.linkDown n).setPort n { s.port n with step := 0, released := false, admin := [] }
    let s := s.portAt n dpPowering
    if was then s.sawDrive n (.link false 0 0 false) else s

/-- The first power-good on this controller's path starts R404. -/
def State.portPowered (s : State) (n : Nat) : State :=
  if !s.dpOn n then s
  else
    let s := (s.setPort n { s.port n with released := false, retrains := 0 }).stepped n 0
    s.portAt n dpPowering

/-- SURPRISE_DOWN: the link drops, with presence or without it; without it the port is EMPTY. -/
def execSurpriseDown (port : Nat) (present : Bool) (s : State) : Result :=
  .next (if !s.dpOn port then s else if present then s.surprise port else s.portEmpty port)

/-- AER bits that contain a port: Data Link Protocol Error, Flow Control Protocol Error, Receiver Overflow, Malformed TLP (R408). -/
def containing (bit : Nat) : Bool := bit == 4 || bit == 13 || bit == 17 || bit == 18

/-- DRIVE_PORT_ERROR: a protocol error by its AER bit, or ERR_FATAL from the drive (`none`). -/
def execDrivePortError (port : Nat) (err : Option Nat) (hdr : List Nat) (s : State) : Result :=
  .next (
    if s.dpLinked port then
      match err with
      | none => s.contain port 0
      | some b => if containing b then (s.aer port b hdr).contain port (2 ^ b) else s.aer port b hdr
    else s)

/-- A contained port clears its trigger, and runs R404 from step 2. -/
def State.uncontain (s : State) (n : Nat) : State :=
  if s.dpState n = dpContained then
    (((s.setPort n { s.port n with retrains := 0 }).stepped n 1).portAt n dpTraining).dpEvent n 1
  else s

/-- CONTAINMENT_AUTO_RELEASE: 100 ms after containment, with AUTO_RELEASE and fewer than CONTAIN_LIMIT containments in the last 60 s. -/
def execContainmentAutoRelease (port : Nat) (s : State) : Result :=
  .next (
    let p := s.port port
    if s.dpFlag port 1 && decide ((recentContains s.nowUs p.contains).length < s.cfg 0x0030 port 7 1 3)
        && decide (p.containNs + 100000000 ≤ s.dev.timeNs) then s.uncontain port
    else s)

/-- DP_CTL as it acts on a port of this side (R404, R409). -/
def State.dpControl (s : State) (n : Nat) (release reset : Bool) : State :=
  let s := if release then s.uncontain n else s
  if !reset then s
  else
    let st := s.dpState n
    let r := s.get F.DP_STATUS.REASON n
    if (st = dpConfiguring ∧ 3 ≤ (s.port n).step) ∨ st = dpChecking ∨ st = dpReady ∨ st = dpResetting
        ∨ (st = dpHeld ∧ r ≠ 0x01 ∧ r ≠ 0x02) then s.resetDrive s.sideB n
    else s

/-- DP_CTL.RELEASE. -/
def execDpRelease (src : Src) (port : Nat) (s : State) : Result :=
  .next (if port < 48 then
    s.busWrite src (F.DP_CTL.RELEASE.at port 0) (fun s =>
      s.stepWrite src (.dpCtl port true false) (fun s => s.dpControl port true false))
  else s)

/-- DP_CTL.RESET. -/
def execDpReset (src : Src) (port : Nat) (s : State) : Result :=
  .next (if port < 48 then
    s.busWrite src (F.DP_CTL.RESET.at port 0) (fun s =>
      s.stepWrite src (.dpCtl port false true) (fun s => s.dpControl port false true))
  else s)

/-! ## Requests and completions of the PCIe link (R403, R410) -/

/-- INBOUND_REQUEST: a request that no range of R403 accepts, or one with the poisoned bit; a contained port takes none. -/
def execInboundRequest (port : Nat) (req : InReq) (poisoned : Bool) (hdr : List Nat) (s : State) : Result :=
  .next (
    if s.dpOn port && s.dpState port != dpContained then
      let s := ((s.aer port (if poisoned then 12 else 20) hdr).bump F.DP_INBOUND_UR.COUNT port).ledgerLimited 0x0506 (14 + port / 12) port
      if poisoned then
        let s := s.bump F.DP_POISON.COUNT port
        match req with
        | .write a =>
          let i := a / 2 ^ 28 % 2 ^ 18
          let t := s.dtag i
          if a / 2 ^ 56 = 0xFE ∧ t.cmd.isSome ∧ a / 2 ^ 48 % 256 = t.gen then s.setDtag i { t with poisoned := true } else s
        | _ => s
      else match req with
        | .read a => s.emit (.apertureUr port a)
        | _ => s
    else s)

/-- All bits 1 of a Dword. -/
def allOnes32 : Nat := 2 ^ 32 - 1

/-- CPL_TIMEOUT: the requester reads all ones. -/
def execCplTimeout (port : Nat) (hdr : List Nat) (s : State) : Result :=
  .next (if s.dpOn port then
    ((s.aer port 14 hdr).bump F.DP_CPL_TIMEOUT.COUNT port).emit (.dpRead port allOnes32) else s)

/-- UNEXPECTED_COMPLETION: dropped, logged as advisory non-fatal. -/
def execUnexpectedCompletion (port : Nat) (hdr : List Nat) (s : State) : Result :=
  .next (if s.dpOn port then
    let s := (s.aer port 16 hdr).bump F.DP_UNEXP_CPL.COUNT port
    s.set F.DP_AER_COR.STATUS (withBit (s.get F.DP_AER_COR.STATUS port) 13) port
  else s)

/-! ## Completion queues (R402) -/

/-- Depth of an I/O queue (R401). -/
def State.queueSize (s : State) (n q : Nat) : Nat := s.get F.DP_QUEUE.OUTSTANDING n + (if q = 2 then 32 else 0)

def DrvPort.ioq (p : DrvPort) (q : Nat) : DrvQueue := if q = 2 then p.q2 else p.q1

def DrvPort.setIoq (p : DrvPort) (q : Nat) (x : DrvQueue) : DrvPort := if q = 2 then { p with q2 := x } else { p with q1 := x }

/-- Writes a completion queue head doorbell. -/
def State.cqDoorbell (s : State) (n q : Nat) : State :=
  let x := (s.port n).ioq q
  if x.unreported = 0 ∨ s.driveStopped then s
  else (s.setPort n ((s.port n).setIoq q { x with unreported := 0 })).emit (.doorbell n q false x.cqHead)

/-- DRIVE_CQE_RX: a completion entry is taken from its queue and enters the stream with its check result; the head doorbell follows 32 entries. An admin completion enters
as the ADMIN event of the oldest command outstanding. A late one, whose command is gone, is taken and dropped (R411). -/
def execDriveCqeRx (port : Nat) (cqe : DrvCqe) (s : State) : Result :=
  .next (
    if !s.dpOn port || s.dpState port == dpContained then s
    else if cqe.sqid = 0 then
      match (s.port port).admin with
      | [] => s
      | (op, _) :: rest =>
        (s.setPort port { s.port port with admin := rest }).sawDrive port (.admin op (cqe.sct * 256 + cqe.sc) cqe.dw0)
    else
      let p := s.port port
      let x := p.ioq cqe.sqid
      let x := { x with
        cqHead := (x.cqHead + 1) % max 1 (s.queueSize port cqe.sqid), used := x.used - 1, unreported := x.unreported + 1,
        oldestNs := if x.unreported = 0 then s.dev.timeNs else x.oldestNs }
      let s := s.setPort port (p.setIoq cqe.sqid x)
      let s := s.count 6 port 3
      let s := match s.cqeCmd s.sideB port cqe with
        | some c => (if cqe.sct = 0 ∧ cqe.sc = 0 then s.count 6 port (if c.op = nvWrite then 2 else 1) c.nlb else s).observe (.driveCqe port (s.checkOf c) cqe)
        | none => s
      if 32 ≤ x.unreported then s.cqDoorbell port cqe.sqid else s)

/-- CQ_DOORBELL_TIMER: 4 µs after the oldest unreported entry. -/
def execCqDoorbellTimer (port queue : Nat) (s : State) : Result :=
  .next (
    let x := (s.port port).ioq queue
    if x.unreported ≠ 0 ∧ x.oldestNs + 4000 ≤ s.dev.timeNs then s.cqDoorbell port queue else s)

/-! ## Administration and the sideband (R415, R417) -/

/-- ADMIN_CMD_TIMEOUT: an admin command outstanding for ADMIN_TIMEOUT_MS resets the drive controller. -/
def execAdminCmdTimeout (port : Nat) (s : State) : Result :=
  .next (
    match (s.port port).admin with
    | (_, t) :: _ => if t + s.adminNs port ≤ s.dev.timeNs then s.resetDrive s.sideB port else s
    | [] => s)

/-- A drive's health as it enters the stream; a critical warning raises DRIVE_STATE (R418). -/
def State.health (s : State) (n w temp used flags : Nat) : State :=
  let s := if w = 0 then s else s.dpEvent n 3
  s.sawDrive n (.health w temp used flags)

/-- This controller polls the drives' sideband: controller A while the pair is in step, else the ALONE one (R417). -/
def State.polls (s : State) : Bool := if s.inPair then !s.sideB else s.role == roleAlone

/-- SIDEBAND_POLL: once a second; a drive that misses three polls in a row is reported as not answering. -/
def execSidebandPoll (port : Nat) (answer : Option (Nat × Nat × Nat)) (s : State) : Result :=
  .next (
    let p := s.port port
    if s.polls && s.dpOn port && s.dpFlag port 2 && (p.lastSbNs == 0 || decide (p.lastSbNs + 1000000000 ≤ s.dev.timeNs)) then
      match answer with
      | some (w, t, u) => (s.setPort port { p with lastSbNs := max 1 s.dev.timeNs, sbMissed := 0 }).health port w t u 2
      | none =>
        let s := s.setPort port { p with lastSbNs := max 1 s.dev.timeNs, sbMissed := min 3 (p.sbMissed + 1) }
        if p.sbMissed = 2 then s.health port 0 0 0 4 else s
    else s)

/-- SMART_POLL: every 60 s by Get Log Page 0x02; without an answer the command stays outstanding (R415). -/
def execSmartPoll (port : Nat) (answer : Option (Nat × Nat × Nat)) (s : State) : Result :=
  .next (
    let p := s.port port
    if s.dpOn port && !s.driveStopped && s.dpState port == dpReady && (p.lastSmartNs == 0 || decide (p.lastSmartNs + 60000000000 ≤ s.dev.timeNs)) then
      let s := s.emit (.sqe port 0 (s.drv.cidCtr % 65536) 0x02 0 0 false [] 0)
      let s := { s with drv := { s.drv with cidCtr := s.drv.cidCtr + 1 } }
      let p := { p with lastSmartNs := max 1 s.dev.timeNs }
      match answer with
      | some (w, t, u) => ((s.setPort port p).sawDrive port (.admin 0x02 0 0)).health port w t u 1
      | none => s.setPort port { p with admin := p.admin ++ [(0x02, s.dev.timeNs)] }
    else s)

end Sys2Proof.Machine
end

