-- ==== Sys2Proof/Machine/SlotRows.lean ====
section
/-!
DEFINITION. Machine/SlotRows.lean: slot power (13_slot_power.md): gate commands in step state (R423, R430, R431), the channel of this controller's path with its limit loop, fault timer,
trips and power-good (R425 to R435), and the slot rows.
-/
namespace Sys2Proof.Machine

/-! ## Channel states (R435) -/

def chOff : Nat := 0
def chWaiting : Nat := 1
def chRamping : Nat := 2
def chQualifying : Nat := 3
def chGood : Nat := 4
def chLimiting : Nat := 5
def chLatched : Nat := 6
def chSupplyOut : Nat := 7

def causeFast : Nat := 1
def causeTimer : Nat := 2

/-! ## A path -/

def State.path (s : State) (n : Nat) : SlotPath := sparseGet slotPath0 n s.slot.paths

def State.setPath (s : State) (n : Nat) (p : SlotPath) : State :=
  { s with slot := { s.slot with paths := sparsePut slotPath0 n p s.slot.paths } }

/-- The gate is driven. -/
def SlotPath.driven (p : SlotPath) : Bool := p.st == chRamping || p.st == chQualifying || p.st == chGood || p.st == chLimiting

/-- The states in which PERST_N of the drive port is asserted (R434). -/
def SlotPath.resets (p : SlotPath) : Bool := !(p.st == chQualifying || p.st == chGood || p.st == chLimiting)

/-- Bytes 0 to 2 of the summary (R424). -/
def SlotPath.sense (p : SlotPath) : Nat :=
  (if p.present then 1 else 0) + (if p.supplyOk then 2 else 0) + 2 ^ 8 * p.st
    + 2 ^ 16 * ((if p.st = chGood then 1 else 0) + (if p.st = chLatched then 2 else 0) + 4 * p.cause)

/-- The whole summary, with current and VOUT at the change. -/
def SlotPath.summary (p : SlotPath) : Nat := p.sense + 2 ^ 32 * (p.currentMa % 65536) + 2 ^ 48 * (p.voutMv % 65536)

/-- The fault timer t of R428 now, in tenths of a µs: it fills at each µs while the loop is engaged and drains at one tenth of that rate otherwise. -/
def SlotPath.timerAt (p : SlotPath) (ns : Nat) : Nat :=
  let us := ns / 1000 - p.timerNs / 1000
  if p.engaged then p.timer10 + 10 * us else p.timer10 - us

/-- The path with its timer brought up to a time, and the loop engaged or not from then on. -/
def SlotPath.loop (p : SlotPath) (ns : Nat) (on : Bool) : SlotPath := { p with timer10 := p.timerAt ns, timerNs := ns, engaged := on }

/-! ## The slot power record (R420, R422) -/

def State.slotLimit (s : State) (n : Nat) : Nat := s.cfg 0x0040 n 5 1 64
def State.slotTimer (s : State) (n : Nat) : Nat := s.cfg 0x0040 n 7 1 100
def State.slotUv (s : State) (n : Nat) : Nat := s.cfg 0x0040 n 8 2 10800
def State.slotOv (s : State) (n : Nat) : Nat := s.cfg 0x0040 n 10 2 13200
def State.slotCompat (s : State) (n : Nat) : Bool := bitOf (s.cfg 0x0040 n 4 1 1) 1
def State.insertNs (s : State) (n : Nat) : Nat := s.cfg 0x0040 n 12 2 500 * 1000000

/-- The slot is present in step state (R423). -/
def State.slotPresent (s : State) (n : Nat) : Bool := (s.path n).presentA || (s.path n).presentB

/-- The gate command (R423). -/
def State.gateOn (s : State) (n : Nat) : Bool := s.flag F.SLOT_CTL.ENABLE n && s.slotPresent n && !s.slot.hold

/-- Raises event `k` of a slot (R440). -/
def State.slotEvent (s : State) (n k : Nat) : State := s.raise (0x300 + 4 * n + k)

/-- What a SLOT input changes in step state: presence as its side reports it, and a fast trip turns ENABLE off (R423, R431). -/
def State.slotSeen (sideB : Bool) (n : Nat) (present : Bool) (sense : Nat) (s : State) : State :=
  let p := s.path n
  let s := s.setPath n (if sideB then { p with presentB := present } else { p with presentA := present })
  if bitOf sense 17 ∧ sense / 2 ^ 18 % 4 = causeFast then s.setFlag F.SLOT_CTL.ENABLE false n else s

/-- A path takes a new condition. Power-good that ends is counted, and raises POWER_GOOD but in LIMITING (R433, R440); the gate follows the state; PERST_N is asserted in the states of
R434; and a change of bytes 0 to 2 of the summary enters the stream (R424). -/
def State.slotTo (s : State) (n : Nat) (q : SlotPath) : State :=
  let p := s.path n
  let q := if q.resets then { q with begun := false } else q
  let s := s.setPath n q
  let s := if p.st = chGood ∧ q.st ≠ chGood then
      let s := s.bump F.SLOT_PG_DROP.COUNT n
      if q.st = chLimiting then s else s.slotEvent n 1
    else s
  let s := if p.driven != q.driven then s.emit (.pin (.gate n) (if q.driven then 1 else 0)) else s
  let s := if p.begun ∧ !q.begun then s.portPerst n else s
  if p.sense ≠ q.sense then s.observed (.slot n q.present q.summary) (fun s => s.slotSeen s.sideB n q.present q.summary) else s

/-- A path in WAITING ramps when its start condition is met at once: native, or after the release of a hold, with the supply within its window (R425). -/
def State.tryStart (s : State) (n : Nat) : State :=
  let p := s.path n
  if p.st = chWaiting ∧ p.supplyOk ∧ (p.released ∨ !s.slotCompat n) then s.slotTo n { p with st := chRamping, released := false } else s

/-- A path carries out its gate command (R423, R435): OFF passes to WAITING, any state but LATCHED to OFF. -/
def State.gateUpdate (s : State) (n : Nat) (released : Bool := false) : State :=
  let p := s.path n
  let now := s.dev.timeNs
  if s.gateOn n then
    if p.st = chOff then
      (s.slotTo n { p with st := chWaiting, cmdNs := now, released := released, timer10 := 0, timerNs := now, engaged := false, cause := 0 }).tryStart n
    else s
  else if p.st = chOff ∨ p.st = chLatched then s
  else s.slotTo n { p.loop now false with st := chOff }

/-- ENABLE takes a value in step state: from 0 to 1 it clears a latch, and the gate command follows (R430). -/
def State.slotEnable (s : State) (n : Nat) (on : Bool) : State :=
  if n < 48 then
    let was := s.flag F.SLOT_CTL.ENABLE n
    let s := s.setFlag F.SLOT_CTL.ENABLE on n
    let s := if on ∧ !was ∧ (s.path n).st = chLatched then s.slotTo n { s.path n with st := chOff, cause := 0 } else s
    s.gateUpdate n
  else s

/-- A power state holds slot power off, or releases it (R437). -/
def State.holdSlots (s : State) (on : Bool) : State :=
  (List.range 48).foldl (fun (s : State) (n : Nat) => s.gateUpdate n (!on)) { s with slot := { s.slot with hold := on } }

/-- A path latches off (R428, R429). -/
def State.latch (s : State) (n cause : Nat) : State :=
  let p := s.path n
  ((s.bump F.SLOT_TRIPS.COUNT n).slotEvent n 2).slotTo n { p.loop s.dev.timeNs false with st := chLatched, cause := cause }

/-- A path with the measurements of its last sample. -/
def State.measured (s : State) (n ma mv : Nat) : State := s.setPath n { s.path n with currentMa := ma, voutMv := mv }

/-- LIMIT_SUPPLY, at most once per 10 ms. -/
def State.limitSupply (s : State) (n : Nat) : State := s.raiseLimited (0x300 + 4 * n + 3)

/-! ## The rows -/

/-- PRESENCE_CONFIRMED: this controller's presence has held for 20 ms. -/
def execPresenceConfirmed (slot : Nat) (present : Bool) (ma mv : Nat) (s : State) : Result :=
  .next (
    if 48 ≤ slot ∨ (s.path slot).present = present then s
    else
      let s := (s.measured slot ma mv).slotEvent slot 0
      let s := s.slotTo slot { s.path slot with present := present }
      let s := if !s.dpOn slot then s else if present then s.portSeated slot else s.portEmpty slot
      if s.consumes then s else s.gateUpdate slot)

/-- SUPPLY_WINDOW_CHANGE: the supply has crossed its window for 50 µs, with 100 mV of hysteresis on the return; `supply` is the voltage at SNSP in mV. -/
def execSupplyWindowChange (slot supply ma mv : Nat) (s : State) : Result :=
  .next (
    if 48 ≤ slot then s
    else
      let p := s.path slot
      let uv := s.slotUv slot
      let ov := s.slotOv slot
      let inside := if p.supplyOk then uv < supply ∧ supply < ov else uv + 100 < supply ∧ supply + 100 < ov
      let s := (s.measured slot ma mv).setPath slot { p with currentMa := ma, voutMv := mv, supplyMv := supply }
      let p := s.path slot
      if p.supplyOk = decide inside then s
      else
        let s := s.limitSupply slot
        if inside then
          let p := { p with supplyOk := true, supplyNs := s.dev.timeNs }
          let s := s.slotTo slot (if p.st = chSupplyOut then { p with st := chWaiting } else p)
          s.tryStart slot
        else if 1 ≤ p.st ∧ p.st ≤ 5 then
          (s.bump F.SLOT_SUPPLY_OUT.COUNT slot).slotTo slot
            { p.loop s.dev.timeNs false with supplyOk := false, supplyNs := s.dev.timeNs, st := chSupplyOut }
        else s.slotTo slot { p with supplyOk := false, supplyNs := s.dev.timeNs })

/-- INSERT_DELAY_EXPIRY: the supply has lain in the window for INSERT_MS since the gate command came on. -/
def execInsertDelayExpiry (slot ma mv : Nat) (s : State) : Result :=
  .next (
    if 48 ≤ slot then s
    else
      let s := s.measured slot ma mv
      let p := s.path slot
      if p.st = chWaiting ∧ p.supplyOk ∧ s.slotCompat slot ∧ max p.cmdNs p.supplyNs + s.insertNs slot ≤ s.dev.timeNs then
        s.slotTo slot { p with st := chRamping, released := false }
      else s)

/-- RAMP_COMPLETE: the gate is fully enhanced. -/
def execRampComplete (slot ma mv : Nat) (s : State) : Result :=
  .next (
    if 48 ≤ slot then s
    else
      let s := s.measured slot ma mv
      let p := s.path slot
      if p.st = chRamping then
        s.slotTo slot { p with st := if p.engaged then chLimiting else chQualifying, goodNs := s.dev.timeNs }
      else s)

/-- LIMIT_ENGAGE: the current reaches LIMIT × 62.5 mA; a TIMER of 0 trips at once. -/
def execLimitEngage (slot ma mv : Nat) (s : State) : Result :=
  .next (
    if 48 ≤ slot then s
    else
      let s := s.measured slot ma mv
      let p := s.path slot
      if p.driven ∧ !p.engaged ∧ s.slotLimit slot * 125 ≤ 2 * ma then
        let s := (s.bump F.SLOT_LIMIT.COUNT slot).limitSupply slot
        let q := p.loop s.dev.timeNs true
        let s := s.slotTo slot (if p.st = chRamping then q else { q with st := chLimiting })
        if s.slotTimer slot = 0 then s.latch slot causeTimer else s
      else s)

/-- LIMIT_DISENGAGE: without a trip the path qualifies again. -/
def execLimitDisengage (slot ma mv : Nat) (s : State) : Result :=
  .next (
    if 48 ≤ slot then s
    else
      let s := s.measured slot ma mv
      let p := s.path slot
      if p.engaged then
        let q := p.loop s.dev.timeNs false
        s.slotTo slot (if p.st = chLimiting then { q with st := chQualifying, goodNs := s.dev.timeNs } else q)
      else s)

/-- FAULT_TIMER_TRIP: t has reached TIMER × 100 µs. -/
def execFaultTimerTrip (slot ma mv : Nat) (s : State) : Result :=
  .next (
    if 48 ≤ slot then s
    else
      let s := s.measured slot ma mv
      let p := s.path slot
      if p.st ≠ chLatched ∧ p.engaged ∧ s.slotTimer slot * 1000 ≤ p.timerAt s.dev.timeNs then s.latch slot causeTimer else s)

/-- The fast-trip level in half mA: the lower of 3 × LIMIT × 62.5 mA and 20 A. -/
def State.fastLevel (s : State) (n : Nat) : Nat := min (3 * s.slotLimit n * 125) 40000

/-- FAST_TRIP: the current has reached the fast-trip level. -/
def execFastTrip (slot ma mv : Nat) (s : State) : Result :=
  .next (
    if 48 ≤ slot then s
    else
      let s := s.measured slot ma mv
      if (s.path slot).st ≠ chLatched ∧ s.fastLevel slot ≤ 2 * ma then
        let s := s.latch slot causeFast
        if s.consumes then s else s.gateUpdate slot
      else s)

/-- POWER_GOOD_QUALIFIED: 50 µs with the gate enhanced and the loop disengaged; the first power-good starts the drive's bring-up. -/
def execPowerGoodQualified (slot ma mv : Nat) (s : State) : Result :=
  .next (
    if 48 ≤ slot then s
    else
      let s := s.measured slot ma mv
      let p := s.path slot
      if p.st = chQualifying ∧ !p.engaged ∧ p.goodNs + 50000 ≤ s.dev.timeNs then
        let first := !p.begun
        let s := (s.slotTo slot { p with st := chGood, begun := true }).slotEvent slot 1
        if first then s.portPowered slot else s
      else s)

/-- SLOT_ENABLE_WRITE: SLOT_CTL.ENABLE is step state. -/
def execSlotEnableWrite (src : Src) (slot : Nat) (on : Bool) (s : State) : Result :=
  .next (if slot < 48 then
    s.busWrite src (F.SLOT_CTL.ENABLE.at slot 0) (fun s => s.stepWrite src (.slotEnable slot on) (fun s => s.slotEnable slot on))
  else s)

end Sys2Proof.Machine
end

