-- ==== Sys2Proof/Machine/TrafficRows.lean ====
section
/-!
DEFINITION. Machine/TrafficRows.lean: the service of class queues (R383 to R385), doorbell batches (R386), and gate lists in motion (R390, R393)
(11_traffic_control.md).
-/
namespace Sys2Proof.Machine

/-! ## Deficit round robin, a unit at a time (R385) -/

/-- A visit, or a class passed over, may be the last of a round. -/
def TcPoint.roundEnd (x : TcPoint) : TcPoint :=
  if x.visit.isEmpty && x.cur.isNone then { x with round := (x.round + 1) % 2 ^ 32 } else x

/-- The class that a DRR service takes a unit of next, with the point as it then stands: the visit goes on while the head is eligible and within the deficit. -/
def drrPick (quantum : Nat → Nat) (elig : Nat → Bool) : Nat → TcPoint → Option (Nat × TcPoint)
  | 0, _ => none
  | fuel + 1, x =>
    match x.cur with
    | some c =>
      match x.queue c with
      | [] => drrPick quantum elig fuel
          ({ x with cur := none, active := x.active.filter (· != c), deficit := sparseErase c x.deficit }).roundEnd
      | u :: _ =>
        if elig c && decide (u.len ≤ sparseGet 0 c x.deficit) then some (c, x)
        else drrPick quantum elig fuel ({ x with cur := none, active := x.active.filter (· != c) ++ [c] }).roundEnd
    | none =>
      match x.visit with
      | c :: rest =>
        if x.active.contains c && elig c then
          drrPick quantum elig fuel
            { x with cur := some c, visit := rest, deficit := sparsePut 0 c (sparseGet 0 c x.deficit + quantum c) x.deficit }
        else drrPick quantum elig fuel ({ x with visit := rest }).roundEnd
      | [] => if x.active.any elig then drrPick quantum elig fuel { x with visit := x.active } else none

/-- The head of a class queue is taken; a DRR class pays its charge, and one that empties forfeits its deficit and leaves the active list. -/
def TcPoint.take (x : TcPoint) (c : Nat) (drr : Bool) : TcPoint :=
  match x.queue c with
  | [] => x
  | u :: rest =>
    let x := x.setQueue c rest
    if !drr then x
    else if rest.isEmpty then
      ({ x with cur := none, active := x.active.filter (· != c), deficit := sparseErase c x.deficit }).roundEnd
    else { x with deficit := sparsePut 0 c (sparseGet 0 c x.deficit - u.len) x.deficit }

/-! ## Eligibility (R383) -/

/-- Commands at the drive and in the forming batch. -/
def State.driveCount (s : State) (port : Nat) : Nat :=
  (s.port port).q1.used + (s.port port).q2.used + (s.point (drivePoint port)).batch.length

/-- The limits of R386 allow a command of the class. -/
def State.batchAllows (s : State) (port cls : Nat) : Bool :=
  decide ((s.point (drivePoint port)).batch.length < s.batchOf port)
  && decide (s.driveCount port < s.get F.DP_QUEUE.OUTSTANDING port + (if cls = 7 then 32 else 0))

/-- The head of a class queue is eligible. -/
def State.eligible (s : State) (p cls : Nat) : Bool :=
  match (s.point p).queue cls with
  | [] => false
  | u :: _ =>
    !s.wsw.stopped && (!s.isShaped p cls || decide (0 ≤ ((s.point p).creditOf cls).1))
    && (if p < 32 then !s.wsw.hostHeld && !s.paused p cls && s.gateAllows p cls u.len
        else s.batchAllows (p - 32) cls
          && (match s.meterAt 2 (p - 32) cls with
              | some m => (s.colour m u.len .green).1 ≠ .red
              | none => true))

/-- The class served next: the highest STRICT class whose head is eligible, else as DRR gives (R384, R385). -/
def State.nextClass (s : State) (p : Nat) : Option (Nat × TcPoint) :=
  match [7, 6, 5, 4, 3, 2, 1, 0].find? (fun c => !s.isDrr p c && s.eligible p c) with
  | some c => some (c, s.point p)
  | none => drrPick (s.drrQuantum p) (fun c => s.isDrr p c && s.eligible p c) 1048576 (s.point p)

/-! ## Egress -/

/-- Discards at the heads of a logical port's queues: every frame while the link is down (R353), and frames too long for their class's gate (R392). -/
def State.purgeClass (lport cls : Nat) : Nat → State → State
  | 0, s => s
  | fuel + 1, s =>
    match (s.point lport).queue cls with
    | [] => s
    | u :: _ =>
      let drop (s : State) : State := s.setPoint lport ((s.point lport).take cls (s.isDrr lport cls))
      if !s.lportUp lport then State.purgeClass lport cls fuel ((drop s).bump F.HP_TX_DISCARD.COUNT (lport / 8) (lport % 8))
      else if s.gateTooLong lport cls u.len then
        State.purgeClass lport cls fuel (((drop s).bump F.TC_GATE_DISCARD.COUNT lport).raiseLimited 0xC2)
      else s

def State.purge (s : State) (lport : Nat) : State :=
  (List.range 8).foldl (fun (s : State) (c : Nat) => State.purgeClass lport c (((s.point lport).queue c).length) s) s

/-- A PTP event message has been sent: its timestamp enters the port's FIFO of 64, or is lost (R369). -/
def State.txStamp (s : State) (lport seq : Nat) : State :=
  let p := lport / 8
  let q := sparseGet [] p s.hp.fifo
  let e := 0x40 + 32 * p
  if q.length < 64 then
    let s := { s with hp := { s.hp with fifo := sparsePut [] p (q ++ [(ptpFormat s.ptpNow, lport % 8, seq)]) s.hp.fifo } }
    if q.isEmpty then s.raise (e + 0x13) else s
  else (s.setFlag F.PTP_TX_ID.OVERFLOW true p).raise (e + 0x14)

/-- A shaped class pays for its frame, which is on the wire for `ns` (R387). -/
def State.chargeFrame (s : State) (lport cls : Nat) (ns : Rat) (x : TcPoint) : TcPoint :=
  if s.isShaped lport cls then
    let c := (x.creditOf cls).1 + ((s.idleSlope lport cls : Rat) - s.lportRate lport) * ns / 1000000000
    let c := if (x.queue cls).isEmpty then min c 0 else c
    { x with credit := sparsePut (0, 0) cls (c, (s.dev.timeNs : Rat) + ns) x.credit }
  else x

/-- The MAC takes a frame (R384): it is on the wire until its end. -/
def State.sendFrame (s : State) (lport cls : Nat) (x : TcPoint) (u : TcUnit) : State :=
  let ns := s.wireNs lport u.len
  let x := s.chargeFrame lport cls ns (x.take cls (s.isDrr lport cls))
  let s := s.setPoint lport { x with busyNs := (s.dev.timeNs : Rat) + ns }
  let s := (s.emit (.wire lport cls u.item u.ce u.stomp)).count 1 lport 2
  let s := (s.count 1 lport 3 u.len).count 2 (lport / 8) 2
  let s := if u.stomp then s.bump F.HP_TX_STOMP.COUNT (lport / 8) (lport % 8) else s
  match u.item with
  | .engine _ (some seq) => s.txStamp lport seq
  | _ => s

/-! ## Drive issue (R386) -/

/-- A command joins the forming batch: class 7 ahead of every command of another class. -/
def State.joinBatch (s : State) (x : TcPoint) (cid : Nat) (urgent : Bool) : TcPoint :=
  if urgent then
    let (u, o) := x.batch.partition (fun c => match s.drv? c with | some d => d.cls == 7 | none => false)
    { x with batch := u ++ [cid] ++ o }
  else { x with batch := x.batch ++ [cid] }

/-- Once per 10 ms for a key of its own. -/
def State.raiseLimitedBy (s : State) (key e : Nat) : State :=
  let t := sparseGet 0 key s.dev.lastRaise
  if t ≠ 0 ∧ s.dev.timeNs < t - 1 + tenMs then s
  else ({ s with dev := { s.dev with lastRaise := sparsePut 0 key (s.dev.timeNs + 1) s.dev.lastRaise } }).raise e

/-- A shaped class pays for a command at issue (R388). -/
def State.chargeCmd (s : State) (p cls len : Nat) (x : TcPoint) : TcPoint :=
  if s.isShaped p cls then
    let (c, t) := x.creditOf cls
    let c := c - (8 * len : Nat)
    { x with credit := sparsePut (0, 0) cls (if (x.queue cls).isEmpty then min c 0 else c, t) x.credit }
  else x

/-- A drive point takes a command into its batch; DRIVE_FULL when that reaches OUTSTANDING (R397). -/
def State.takeCmd (s : State) (port cls : Nat) (x : TcPoint) (u : TcUnit) (cid : Nat) : State :=
  let p := drivePoint port
  let s : State := match s.meterAt 2 port cls with
    | some m => (s.meterUnit m u.len .green).1
    | none => s
  let x := s.chargeCmd p cls u.len (x.take cls (s.isDrr p cls))
  let s := s.setPoint p (s.joinBatch x cid (cls == 7))
  let s : State := match s.drv? cid with
    | some c => s.setDrv { c with st := .batch }
    | none => s
  if s.driveCount port = s.get F.DP_QUEUE.OUTSTANDING port then s.raiseLimitedBy (4096 + port) 0xC4 else s

/-- URGENT_HELD, when a class 7 command begins to wait for the 32 above OUTSTANDING. -/
def State.urgentHeld (s : State) (port : Nat) : State :=
  let x := s.point (drivePoint port)
  let waits := !(x.queue 7).isEmpty && decide (s.get F.DP_QUEUE.OUTSTANDING port + 32 ≤ s.driveCount port)
  let s' := s.setPoint (drivePoint port) { x with held7 := waits }
  if waits && !x.held7 then s'.raise 0xC5 else s'

/-- Frames of engines join their class queues (R378). -/
def State.engineFrames (s : State) (lport : Nat) (fs : List EngFrame) : State :=
  fs.foldl (fun (s : State) (f : EngFrame) =>
    s.egress lport (f.cls % 8) ⟨.engine f.bytes f.ptp, max 64 (f.bytes.length + 4), f.ect, false, f.stomp⟩) s

/-- EGRESS_SERVICE: the point takes its next eligible unit. `frames` are the frames that engines have handed to this logical port since. -/
def execEgressService (point : Nat) (frames : List EngFrame) (s : State) : Result :=
  .next (
    if (point < 32 && s.wsw.stopped) || (32 ≤ point && s.driveStopped) then s
    else if point < 32 then
      let s := ((s.engineFrames point frames).accrue point).purge point
      if (s.dev.timeNs : Rat) < (s.point point).busyNs ∨ !s.lportUp point then s
      else match s.nextClass point with
        | none => s
        | some (c, x) => match x.queue c with
          | u :: _ => s.sendFrame point c x u
          | [] => s
    else if point < 80 then
      let s := s.accrue point
      match s.nextClass point with
      | none => s.urgentHeld (point - 32)
      | some (c, x) => match x.queue c with
        | u :: _ => match u.item with
          | .drive cid => (s.takeCmd (point - 32) c x u cid).urgentHeld (point - 32)
          | _ => s
        | [] => s
    else s)

/-- The PRP entries and MPTR of a command: through its tag's aperture (R212), or open addresses in the staging and write areas of HBM (R403). -/
def State.prpsOf (s : State) (c : DrvCmd) : State × List Nat × Nat :=
  if c.nlb = 0 then (s, [], 0)
  else match c.tag with
    | some i =>
      let g := (s.dtag i).gen
      (s, (List.range c.nlb).map (fun b => apertureAddr g i false (4096 * b)), apertureAddr g i true 0)
    | none => (s.drawn.drawn, (List.range c.nlb).map (fun b => s.free.toNat + 4096 * b), s.drawn.free.toNat)

/-- FUA is set in every member write of R259. -/
def DrvCmd.fua (c : DrvCmd) : Bool :=
  c.op == nvWrite && (match c.use with | .tally _ _ => true | .vault _ _ _ => true | _ => false)

/-- Writes the submission queue entry of a command. -/
def State.submitCmd (s : State) (port cid : Nat) : State :=
  match s.drv? cid with
  | none => s
  | some c =>
    let (s, prps, mptr) := s.prpsOf c
    let x := (s.port port).ioq c.queue
    let x := { x with sqTail := (x.sqTail + 1) % max 1 (s.queueSize port c.queue), used := x.used + 1 }
    let s := s.setPort port ((s.port port).setIoq c.queue x)
    ((s.setDrv { c with st := .atDrive }).emit (.sqe port c.queue cid c.op c.lba c.nlb c.fua prps mptr)).count 6 port 0

/-- Rings a submission doorbell when the batch had commands for the queue. -/
def State.ring (s : State) (port queue : Nat) (rung : Bool) : State :=
  if rung then s.emit (.doorbell port queue true ((s.port port).ioq queue).sqTail) else s

/-- BATCH_COMMIT: the batch is full, or no eligible command remains; queue 2 first (R386, R401). -/
def execBatchCommit (port : Nat) (s : State) : Result :=
  .next (
    let x := s.point (drivePoint port)
    let b := x.batch
    if b.isEmpty ∨ s.driveStopped ∨ (b.length < s.batchOf port ∧ (s.nextClass (drivePoint port)).isSome) then s
    else
      let on2 := b.any (fun c => match s.drv? c with | some d => d.queue == 2 | none => false)
      let on1 := b.any (fun c => match s.drv? c with | some d => d.queue == 1 | none => false)
      let s := s.setPoint (drivePoint port) { x with batch := [] }
      let s := b.foldl (fun (s : State) (c : Nat) => s.submitCmd port c) s
      ((s.ring port 2 on2).ring port 1 on1).urgentHeld port)

/-! ## Gate lists in motion -/

/-- The list that a logical port's record names now. -/
def State.namedList (s : State) (lport : Nat) : Option GateList :=
  let n := s.gateListOf lport
  if n < 64 then s.gateList n else none

/-- A port takes the entry of its list in force at the present PTP time. -/
def State.gateResync (s : State) (lport : Nat) : State :=
  let g := s.gates lport
  match g.run with
  | some l =>
    if g.startNs.isSome then s
    else
      let (i, t) := l.standing s.ptpNow
      s.setGates lport { g with entry := i, sinceNs := t }
  | none => s

/-- Lists as a load puts them in force (R390): every port runs the list it names. -/
def State.loadGates (s : State) : State :=
  (List.range 32).foldl (fun (s : State) (n : Nat) =>
    (s.setGates n { gateSt0 with run := s.namedList n }).gateResync n) s

/-- A live commit has changed lists or the names of lists (R393): a port whose list is another one finishes its cycle; one without a list goes on to the first cycle start. -/
def State.changeGates (s : State) : State :=
  (List.range 32).foldl (fun (s : State) (n : Nat) =>
    let g := s.gates n
    let l := s.namedList n
    if g.change = none ∧ l = g.run then s
    else match g.run with
      | none => match l with
        | some l => s.setGates n { g with change := some (some l), startNs := some (l.nextStart s.ptpNow) }
        | none => s.setGates n { g with change := none, startNs := none }
      | some _ =>
        match g.startNs, l with
        | some _, some l => s.setGates n { g with change := some (some l), startNs := some (l.nextStart s.ptpNow) }
        | some _, none => s.setGates n gateSt0
        | none, l => s.setGates n { g with change := if l = g.run then none else some l }) s

/-- GATE_ENTRY_CHANGE: the entry in force has ended; after the last one of a cycle a change begins (R390, R393). -/
def execGateEntryChange (lport : Nat) (s : State) : Result :=
  .next (
    let g := s.gates lport
    match g.run with
    | none => s
    | some l =>
      match l.entries[g.entry]? with
      | none => s
      | some e =>
        let ends := g.sinceNs + e.1
        if g.startNs.isSome ∨ s.ptpNow < ends then s
        else
          let s := s.accrue lport
          if g.entry + 1 < l.entries.length then s.setGates lport { g with entry := g.entry + 1, sinceNs := ends }
          else match g.change with
            | none => s.setGates lport { g with entry := 0, sinceNs := ends }
            | some none => s.setGates lport gateSt0
            | some (some n) => s.setGates lport { g with startNs := some (n.nextStart ends) })

/-- GATE_LIST_START: the first cycle start of the new list has come (R393). -/
def execGateListStart (lport : Nat) (s : State) : Result :=
  .next (
    let g := s.gates lport
    match g.startNs, g.change with
    | some at_, some (some l) =>
      if s.ptpNow < at_ then s
      else ((s.accrue lport).setGates lport { gateSt0 with run := some l, sinceNs := at_ }).raise 0xC0
    | _, _ => s)

/-- Meters after a live commit (R382): a meter that is new starts full, one that is gone is no longer kept, one that changed is limited to its new bursts. -/
def State.changeMeters (s : State) (old : List Nat) : State :=
  let now := s.instancesOf 0x0082
  { s with tc := { s.tc with
    meters := (s.tc.meters.filter (fun (m : Nat × MeterSt) => now.contains m.1 && old.contains m.1)).map (fun (m : Nat × MeterSt) =>
      (m.1, { m.2 with tp := min m.2.tp (s.cfg 0x0082 m.1 28 4 0 : Nat), tc := min m.2.tc (s.cfg 0x0082 m.1 24 4 0 : Nat) })) } }

end Sys2Proof.Machine
end

