-- ==== Sys2Proof/Machine/StoreOps.lean ====
section
/-!
DEFINITION. Machine/StoreOps.lean: the settings store (R68 to R73, R77, R78), load errors and warnings as the registers report them (R57, R60), the records that a commit puts in force and what
follows from them (R62 to R67, R157, R382, R393, R592).
-/
namespace Sys2Proof.Machine

/-! ## Reports (PAT_STATUS, PAT_ERROR, PAT_WARN) -/

/-- The registers of PAT_ERROR take the first error since ERROR was cleared. -/
def State.firstError (s : State) (e : PatErr) : State :=
  if s.get F.PAT_ERROR.CODE = 0 then ((s.set F.PAT_ERROR.CODE e.code).set F.PAT_ERROR.RECORD e.record).set F.PAT_ERROR_OFS.OFFSET e.off else s

/-- A load or delivery is rejected: ERROR, the first error, one Ledger record, PAT_REJECT. -/
def State.patError (s : State) (e : PatErr) : State :=
  let s := (s.setFlag F.PAT_STATUS.ERROR true).firstError e
  (s.ledger 0x009 24 0 (leBytes 4 e.code ++ leBytes 4 e.record ++ leBytes 4 e.off)).raise 0x009

/-- A warning is reported: the first code since WARN was cleared stays. -/
def State.patWarn (s : State) (code : Nat) : State :=
  let s := if s.flag F.PAT_STATUS.WARN then s.set F.PAT_WARN.COUNT (min 255 (s.get F.PAT_WARN.COUNT + 1))
    else ((s.setFlag F.PAT_STATUS.WARN true).set F.PAT_WARN.CODE code).set F.PAT_WARN.COUNT 1
  s.raise 0x008

def State.patWarns (s : State) (codes : List Nat) : State := codes.foldl (fun (s : State) (c : Nat) => s.patWarn c) s

/-- Overlay values that were discarded: PW_02 and a Ledger record for each (R592). -/
def State.ovlDiscarded (s : State) (n : Nat) : State :=
  (List.range n).foldl (fun (s : State) (_ : Nat) => (s.patWarn 2).ledger 0x0502 24 0) s

/-! ## Banks (R68, R69, R71) -/

def State.bank (s : State) (i : Nat) : Bank := s.pat.banks.getD i bank0

def State.setBank (s : State) (i : Nat) (b : Bank) : State :=
  { s with pat := { s.pat with banks := if i = 0 then [b, s.bank 1] else [s.bank 0, b] } }

/-- The bank that a commit writes: the one that is not current; bank A when none is (R70). -/
def otherBank (current : Nat) : Nat := if current = 1 then 1 else 0

/-- The candidate that start-up chooses (R71): 0 bank A, 1 bank B. -/
def State.chooseBank (s : State) : Option Nat :=
  let un := s.get F.STORE_STATUS.UNUSABLE
  let a := (s.bank 0).valid && !bitOf un 0
  let b := (s.bank 1).valid && !bitOf un 1
  if a && b then some (if (s.bank 0).seq < (s.bank 1).seq then 1 else 0)
  else if a then some 0
  else if b then some 1 else none

/-- VALID, CURRENT and STORE_SEQ with a bank current. -/
def State.showBank (s : State) (cur : Option Nat) : State :=
  let s := s.set F.STORE_STATUS.VALID ((if (s.bank 0).valid then 1 else 0) + (if (s.bank 1).valid then 2 else 0))
  match cur with
  | some i => (s.set F.STORE_STATUS.CURRENT (i + 1)).set F.STORE_SEQ.STORE_SEQ (s.bank i).seq
  | none => (s.set F.STORE_STATUS.CURRENT 0).set F.STORE_SEQ.STORE_SEQ 0

/-- Settings come into force at start-up: epochs, admission ranges, nonce, ceiling, the sequence in force (R67, R71, R144, R453). -/
def State.takeSettings (s : State) (st : Settings) : State :=
  let s := { s with pat := { s.pat with settings := st }, flm := { s.flm with epochs := st.epochs, epochNext := none } }
  let s := (s.set F.TASK_SIG_NONCE.NONCE st.sigNonce).set F.LSM_CEILING.VALUE st.ceiling
  s.set F.PAT_LIVE_SEQ.SEQUENCE ((st.pattern.map imgSeq).getD 0)

/-- The store is read at step 2 of R533. -/
def State.readStore (s : State) : State :=
  let cur := s.chooseBank
  (s.showBank cur).takeSettings ((cur.map (fun i => (s.bank i).content)).getD settings0)

/-! ## Commits (R70, R72, R73) -/

/-- An overlay list with a value set. -/
def putOvl (v : OvlVal) (vs : List OvlVal) : List OvlVal :=
  if vs.any (fun w => w.type == v.type && w.off == v.off && w.inst == v.inst) then
    vs.map (fun w => if w.type = v.type ∧ w.off = v.off ∧ w.inst = v.inst then v else w)
  else vs ++ [v]

/-- What the store holds after a change. -/
def Settings.change (st : Settings) : StoreChange → Settings
  | .pattern img => { st with pattern := some img }
  | .overlay v => { st with overlay := putOvl v st.overlay }
  | .epochs es => { st with epochs := es }
  | .admission r lo hi => { st with admission := st.admission.set r (lo, hi) }
  | .sigNonce v => { st with sigNonce := v }
  | .retire e => { st with retired := st.retired ++ [e] }
  | .ceiling v => { st with ceiling := v }
  | .migrate => st
  | .confirm => st

/-- A change that the device makes of its own accord (R73, R78). -/
def StoreChange.own : StoreChange → Bool
  | .retire _ => true
  | .ceiling _ => true
  | _ => false

/-- Settings tasks make the other changes. -/
def StoreChange.task : StoreChange → Bool
  | .migrate => false
  | .confirm => false
  | c => !c.own

/-- The image that runs. -/
def State.runningImage (s : State) : List Byte := (if s.flag F.FWU_STATUS.RUNNING then s.fw.slotB else s.fw.slotA).image

/-- The store format that the running firmware writes: STORE_MAJOR of its image (R549); 2 where no image runs (R68). -/
def State.storeMajor (s : State) : Nat := if s.runningImage.isEmpty then 2 else leAt s.runningImage 0x1E 2

/-- A bank is marked unusable: commits are refused until the next cold reset (R72). -/
def State.storeRefuses (s : State) : Bool := s.get F.STORE_STATUS.UNUSABLE != 0

/-- A commit is refused (R72). -/
def State.refuseCommit (s : State) : State :=
  ((s.set F.STORE_STATUS.RESULT 5).ledger 0x00A 24 0 (leBytes 4 5)).raise 0x00A

/-- A commit begins: the bank that is not current is erased, header first (R70). In a trial window it is written in the format it has (R78). -/
def State.startCommit (s : State) (cs : List StoreChange) : State :=
  if s.storeRefuses then s.refuseCommit
  else
    let t := otherBank (s.get F.STORE_STATUS.CURRENT)
    let run : StoreRun :=
      { target := t, content := cs.foldl Settings.change s.pat.settings,
        major := if s.flag F.FWU_STATUS.TRIAL && cs.all StoreChange.own then (s.bank t).major else s.storeMajor,
        migrated := cs.any (fun c => c == .migrate), retried := false, changes := cs }
    let s := s.setBank t { s.bank t with valid := false }
    ({ s with pat := { s.pat with run := some run } }).setFlag F.STORE_STATUS.BUSY true

/-- Changes are committed now, or wait for the running commit, for the end of a power failure or of a pending reset (R73, R528). -/
def State.commit (s : State) (cs : List StoreChange) : State :=
  if s.pat.run.isSome ∨ s.flag F.PWR_PINS.PWRFAIL ∨ s.pwr.warm.isSome then { s with pat := { s.pat with waiting := s.pat.waiting ++ cs } }
  else s.startCommit cs

/-- A commit has ended without effect: its result, a Ledger record, STORE_COMMIT. -/
def State.commitFails (s : State) (result : Nat) : State :=
  let s := ({ s with pat := { s.pat with run := none } }).setFlag F.STORE_STATUS.BUSY false
  ((s.set F.STORE_STATUS.RESULT result).ledger 0x00A 24 0 (leBytes 4 result)).raise 0x00A

/-! ## Records in force after a commit (R62, R157, R592) -/

/-- Records of one change class. -/
def ofClass (c : Change) (rs : List PatRec) : List PatRec := rs.filter (fun r => changeOf r.type == some c)

/-- The same records, in any order. -/
def sameRecs (a b : List PatRec) : Bool := a.all (fun r => b.contains r) && b.all (fun r => a.contains r)

/-- The configuration of the Pattern that the store holds, or of the factory Pattern alone, without overlay values. -/
def Settings.layers (st : Settings) (factoryOnly : Bool) : List PatRec :=
  if factoryOnly then factoryRecords
  else match st.pattern with
    | none => factoryRecords
    | some img => match parseImage img with
      | .ok rs => (configOf rs).map CfgRec.pat
      | .error _ => factoryRecords

/-- PAT_PENDING after a Pattern commit. -/
def State.showPending (s : State) (rs : List PatRec) : State :=
  let differ (c : Change) : Bool := !sameRecs (ofClass c rs) (ofClass c s.pat.live)
  (s.setFlag F.PAT_PENDING.COLD (differ .cold)).setFlag F.PAT_PENDING.PAIR_ROLL (differ .pair)

/-- SOURCE, FACTORY_ONLY, MAJOR and MINOR with a user Pattern in force or not. -/
def State.showSource (s : State) (factoryOnly : Bool) : State :=
  let img := s.pat.settings.pattern.getD []
  let s := s.setFlag F.PAT_STATUS.FACTORY_ONLY factoryOnly
  let s := s.set F.PAT_STATUS.SOURCE (if factoryOnly then 0 else s.get F.STORE_STATUS.CURRENT)
  (s.set F.PAT_STATUS.MAJOR (if factoryOnly then 0 else imgMajor img)).set F.PAT_STATUS.MINOR (if factoryOnly then 0 else imgMinor img)

/-- The live records that committed settings put in force, with their overlay values, and how many of those were discarded. -/
def State.liveOf (s : State) (st : Settings) (factoryOnly : Bool) : List PatRec × Nat :=
  let keep := s.pat.live.filter (fun r => changeOf r.type != some .live)
  let a := ovlAll (keep ++ ofClass .live (st.layers factoryOnly)) st.overlay
  (ofClass .live a.1, a.2)

/-- Namespaces of a subsystem that differ between two lists: added, removed or grown (R157). -/
def changedNs (old new : List NsEnt) : List Nat :=
  ((old.filter (fun n => new.all (fun m => m.nsid != n.nsid || n.size < m.size))).map (·.nsid)
    ++ (new.filter (fun n => old.all (fun m => m.nsid != n.nsid))).map (·.nsid)).dedup

/-- Changes of namespaces are listed for every controller of their subsystem, with an asynchronous event (R157). -/
def State.noticeNs (s : State) (old : List (Nat × List NsEnt)) : State :=
  ((old.map (·.1) ++ s.instancesOf 0x0070).dedup).foldl (fun (s : State) (sub : Nat) =>
    let ids := changedNs (((old.find? (fun o => o.1 == sub)).map (·.2)).getD []) (s.nsList sub)
    if ids.isEmpty then s
    else
      let s := { s with nvm := { s.nvm with ctrls := s.nvm.ctrls.map (fun (c : NvmCtrl) =>
        if c.sub = sub ∧ !c.discovery then { c with changedNs := (c.changedNs ++ ids).dedup } else c) } }
      s.asyncAll sub 2 0 4) s

/-- The namespace table of a group's Brand follows the records in force (R248). -/
def State.brandNs (s : State) (g : Nat) : State :=
  match s.grp? g with
  | none => s
  | some x =>
    let ns := (s.allNs.filter (fun n => n.2.group == g)).map (fun n =>
      let old := x.want.nsTab.find? (fun e => e.sub == n.1 && e.nsid == n.2.nsid)
      (⟨n.1, n.2.lbaf, 1 + (if n.2.readOnly then 2 else 0), n.2.nsid, n.2.size, n.2.nguid, n.2.uuid, (n.2.size + extentSize - 1) / extentSize,
        (old.map (·.mapOff)).getD 0⟩ : BrandNs))
    if ns = x.want.nsTab then s else (s.setGrp g { x with want := { x.want with nsTab := ns } }).startBrand g

/-- Committed live records take effect as one unit (R62, R63). -/
def State.liveEffect (s : State) : State :=
  let oldNs := (s.instancesOf 0x0070).map (fun i => (i, s.nsList i))
  let oldMeters := s.instancesOf 0x0082
  let keep := s.pat.live.filter (fun r => changeOf r.type != some .live)
  let s := { s with pat := { s.pat with live := keep ++ s.pat.pendingLive, pendingLive := [] } }
  let s := (s.changeGates).changeMeters oldMeters
  let s := s.noticeNs oldNs
  (s.grps.map (·.1)).foldl (fun (s : State) (g : Nat) => s.brandNs g) s

/-- What a commit changes once its bank is current: epochs wait for a step tick (R142), live records as well (R62); the rest holds at once. -/
def State.settled (s : State) (cs : List StoreChange) : State :=
  let st := s.pat.settings
  let delivered := cs.any (fun c => match c with | .pattern _ => true | _ => false)
  let s := if cs.any (fun c => match c with | .epochs _ => true | _ => false) then { s with flm := { s.flm with epochNext := some st.epochs } } else s
  let s := (s.set F.TASK_SIG_NONCE.NONCE st.sigNonce).set F.LSM_CEILING.VALUE st.ceiling
  let s := { s with mi := { s.mi with raising := if cs.any (fun c => match c with | .ceiling _ => true | _ => false) then none else s.mi.raising } }
  let only := s.flag F.PAT_STATUS.FACTORY_ONLY && !delivered
  let s := if delivered then (s.set F.PAT_LIVE_SEQ.SEQUENCE ((st.pattern.map imgSeq).getD 0)).showPending (st.layers false) else s
  let s := s.showSource only
  if delivered ∨ cs.any (fun c => match c with | .overlay _ => true | _ => false) then
    let r := s.liveOf st only
    let s := s.ovlDiscarded r.2
    let s := if delivered then s.patWarns (configWarnings (s.pat.live.filter (fun x => changeOf x.type != some .live) ++ r.1) true) else s
    { s with pat := { s.pat with pendingLive := r.1 } }
  else s

/-- How the read-back of a commit ends (R72): still running for its retry, or over, with its result and changes. -/
def State.readBack (s : State) (rb : ReadBack) : State × Option (Nat × List StoreChange) :=
  match s.pat.run with
  | none => (s, none)
  | some r =>
    if rb = .good then
      let seq := if s.get F.STORE_STATUS.CURRENT = 0 then 1 else s.get F.STORE_SEQ.STORE_SEQ + 1
      let s := (s.setBank r.target ⟨true, r.major, seq, r.migrated, r.content⟩).showBank (some r.target)
      let s := ({ s with pat := { s.pat with run := none, settings := r.content } }).setFlag F.STORE_STATUS.BUSY false
      let s := (s.set F.STORE_STATUS.RESULT (if r.retried then 2 else 1)).raise 0x00A
      let s := if r.migrated then s.raise 0x4E9 else s
      (s.settled r.changes, some (if r.retried then 2 else 1, r.changes))
    else if r.retried then
      let s := s.set F.STORE_STATUS.UNUSABLE (withBit (s.get F.STORE_STATUS.UNUSABLE) r.target)
      let s := (s.showBank (match s.get F.STORE_STATUS.CURRENT with | 0 => none | c => some (c - 1))).commitFails 3
      (s, some (3, r.changes))
    else ({ s with pat := { s.pat with run := some { r with retried := true } } }, none)

/-- Power fails during a commit: it stops unless it has begun to program the header; changes of tasks that wait take no effect, the device's own stay pending (R73). The answer
says whether a commit was stopped. -/
def State.stopCommit (s : State) (headerBegun : Bool) : State × Bool :=
  match s.pat.run with
  | some r =>
    if headerBegun then ({ s with pat := { s.pat with waiting := s.pat.waiting.filter (fun c => !c.task) } }, false)
    else
      let s := s.commitFails 4
      ({ s with pat := { s.pat with waiting := (r.changes ++ s.pat.waiting).filter (fun c => !c.task) } }, true)
  | none => ({ s with pat := { s.pat with waiting := s.pat.waiting.filter (fun c => !c.task) } }, false)

/-- Changes that waited are committed together, once nothing holds them back. -/
def State.commitWaiting (s : State) : State :=
  if s.pat.run.isSome ∨ s.flag F.PWR_PINS.PWRFAIL ∨ s.pwr.warm.isSome ∨ s.pat.waiting.isEmpty then s
  else ({ s with pat := { s.pat with waiting := [] } }).startCommit s.pat.waiting

end Sys2Proof.Machine
end

