-- ==== Sys2Proof/Machine/Fatal.lean ====
section
/-!
DEFINITION. Machine/Fatal.lean: the fatal sequence (R28, R307, R530, R531) and the orderly warm reset as it is asked for (R527, R528), with the access faults of R28 to R30.
-/
namespace Sys2Proof.Machine

/-! ## Data that only this controller holds (R531) -/

/-- The recovered dump covers a staged version (R281). -/
def State.recoveredCovers (s : State) (v : Ver) : Bool :=
  match s.tly.recovered with
  | some (_, vs) => vs.contains (v.sub, v.nsid, v.lba, v.commitStep)
  | none => false

/-- The Tally holds an open entry, or staging holds dirty data that no dump covers. -/
def State.unsavedData (s : State) : Bool := s.cht.staging.any (fun v => !s.recoveredCovers v) || !s.tly.entries.isEmpty

/-- A completed dump that is not retired holds it. -/
def State.dumpDone (s : State) : Bool :=
  match s.tly.dump with
  | some d => d.stage == .done && s.tly.stopped
  | none => false

/-- Islands that a dump needs: Yard, traffic control, parity engines, Tally, drive port controllers, HBM controllers, global control, drive PHYs. -/
def dumpIslands : List Nat := [5, 6, 8, 10, 11, 14, 15, 16, 17, 18, 19, 24, 28, 29, 33, 34]

/-! ## The fatal sequence (R530) -/

/-- Drive commands that have not reached a drive go no further. -/
def State.dropUnissued (s : State) : State :=
  (s.drv.cmds.filter (fun c => c.st != .atDrive)).foldl (fun (s : State) (c : DrvCmd) => s.dropDrv c false) s

/-- PAIR_FAULT_N is asserted and PAIR_ACTIVE_OUT falls, in a paired profile. -/
def State.fatalPins (s : State) : State :=
  let low := waveOf s.role != 0
  let s := (s.setFlag F.WSW_STATUS.FAULT_OUT true).emit (.pin .pairFaultN 0)
  bif low then s.emit (.pin .pairActive 0) else s

/-- A dump that is being retired covers nothing any more. -/
def State.noRetire (s : State) : State :=
  match s.tly.dump with
  | some d => bif d.stage == .retired then { s with tly := { s.tly with dump := none } } else s
  | none => s

/-- A controller that serves alone dumps its dirty data, or sets the staging-unsaved flag where an island that the dump needs is in fault (R531). -/
def State.fatalDump (s : State) : State :=
  bif s.role == roleAlone && s.unsavedData then
    bif s.dev.faulted.any (fun i => dumpIslands.contains i) then s.setFlag F.PWR_STATE.UNSAVED true else s.noRetire.beginDump
  else s

/-- Everything stops: the host ports and the drive ports send nothing more. -/
def State.fatalStop (s : State) : State :=
  let s := { s with
    pwr := { s.pwr with fatalNs := some s.dev.timeNs }
    wsw := { s.wsw with stopped := true, hostHeld := true }
    fw := { s.fw with trialBad := true } }
  s.set F.PWR_STATE.STATE stFatal

/-- The fatal event: the Ledger freezes, PAIR_FAULT_N is asserted and PAIR_ACTIVE_OUT falls in a paired profile, every host and drive output stops, and a controller that serves alone dumps
its dirty data. -/
def State.fatal (s : State) (island : Nat) : State :=
  bif s.pwr.fatalNs.isSome then s
  else
    let s := ((s.raise 0x000).ledger 0x000 island 0).freezeLedger.fatalStop
    let s := bif s.ownProfile == 0 then s else s.fatalPins
    s.dropUnissued.fatalDump

/-- CLOCK_LOCK_LOSS: the island is held in reset, and the loss is a controller fault in every profile; island 25 is the exception. -/
def execClockLockLoss (island : Nat) (s : State) : Result :=
  .next (
    if 38 ≤ island ∨ island = 25 ∨ s.dev.faulted.contains island then s
    else
      let s := { s with dev := { s.dev with faulted := insertNat island s.dev.faulted } }
      let up := s.get F.GLB_ISLAND_UP.UP
      let s := s.set F.GLB_ISLAND_UP.UP (if bitOf up island then up - 2 ^ island else up)
      (s.bridgeFault island 1).fatal island)

/-! ## Orderly warm resets (R527, R528) -/

/-- A start-up sequence or the fatal sequence runs: a request for a warm reset is merged into it. -/
def State.resetRuns (s : State) : Bool := s.pwr.resetting != 0 || s.pwr.fatalNs.isSome

/-- What an orderly warm reset does before it takes effect, once no commit runs: a controller in step leaves the pair, one that serves alone dumps its staging. -/
def State.warmStage (s : State) : State :=
  if s.pwr.warm.isNone ∨ s.pat.run.isSome then s
  else if s.inPair then
    let s := s.setRole roleOff
    { s with wsw := { s.wsw with stopped := true, hostHeld := true } }
  else if s.role = roleAlone ∧ !s.cht.staging.isEmpty then s.beginDump
  else s

/-- An orderly warm reset is asked for, with its bit of RST_CAUSE; changes that wait for a later commit take no effect. -/
def State.askWarm (s : State) (bit : Nat) : State :=
  if s.resetRuns then s
  else
    let s := { s with pwr := { s.pwr with warm := some ((s.pwr.warm.getD 0) ||| bit) }, pat := { s.pat with waiting := [] } }
    s.warmStage

/-- Nothing is left that the warm reset waits for. -/
def State.warmDue (s : State) : Bool :=
  s.pwr.warm.isSome && s.pat.run.isNone && !s.resetRuns && !s.inPair
    && (s.role != roleAlone || s.cht.staging.isEmpty || s.dumpDone)

end Sys2Proof.Machine
end

