-- ==== Sys2Proof/Machine/Chute.lean ====
section
/-!
DEFINITION. Machine/Chute.lean: the map cache (R204), tagged apertures (R212 to R214), the Yard's waiting requests (R210), map commits (R250, R251), the end of a
Brand update (R252 to R254).
-/
namespace Sys2Proof.Machine

/-! ## CHT_MAP_INVAL (R204) -/

/-- Commands parsed from now on use the new entry; those in flight under the old one are remembered. -/
def State.invalMap (s : State) (map extent : Nat) (ent : ExtEnt) : State :=
  let old := (s.nvm.cmds.filter (fun c => c.extents.contains (map, extent))).map (·.key)
  let s := s.setExtent map extent ent
  ({ s with cht := { s.cht with superseded := (s.cht.superseded ++ old).dedup } }).set F.CHT_MAP_STATUS.IDLE 0

/-- MAP_INVAL: firmware has written the entry in HBM and asks for the invalidation. -/
def execMapInval (src : Src) (map extent : Nat) (ent : ExtEnt) (s : State) : Result :=
  .next (s.busWrite src (F.CHT_MAP_INVAL.MAP.at 0 0) (fun s =>
    s.stepWrite src (.mapInval map extent ent) (fun s => s.invalMap map extent ent)))

/-- MAP_INVAL_DONE: no command parsed under a superseded entry is in flight. -/
def execMapInvalDone (s : State) : Result :=
  .next (s.inStep (fun s =>
    if s.cht.superseded.isEmpty ∧ s.get F.CHT_MAP_STATUS.IDLE = 0 then (s.set F.CHT_MAP_STATUS.IDLE 1).raise 0x1A3 else s))

/-! ## Apertures (R212, R213) -/

/-- The fields of an aperture address. -/
structure Aperture where
  gen : Nat
  zero : Nat
  tag : Nat
  side : Bool
  off : Nat
  deriving DecidableEq, Repr

def apertureOf (a : Nat) : Aperture :=
  ⟨a / 2 ^ 48 % 256, a / 2 ^ 46 % 4, a / 2 ^ 28 % 2 ^ 18, a / 2 ^ 27 % 2 == 1, a % 2 ^ 27⟩

/-- The port's inbound requests reach the block: it is enabled and not contained (R408). -/
def State.inbound (s : State) (port : Nat) : Bool :=
  decide (port < 48) && bitOf (s.cfg 0x0030 port 4 1 0x0F) 0 && s.get F.DP_STATUS.STATE port != 8

/-- An access of `n` bytes is one that R213 lets pass: the tag outstanding under this generation, bits [47:46] 0, inside the stream. -/
def State.apertureOk (s : State) (x : Aperture) (n : Nat) : Bool :=
  let t := s.dtag x.tag
  t.cmd.isSome && t.gen == x.gen && x.zero == 0 && decide (x.off + n ≤ if x.side then t.len / 256 else t.len)

/-- Unit and base of a stream: 4,096 data bytes, or 16 check bytes, per buffer. -/
def apertureByte (x : Aperture) (bufs : List Nat) (i : Nat) : Nat :=
  let o := x.off + i
  if x.side then sideAddr (bufs.getD (o / 16) 0) + o % 16 else bufAddr (bufs.getD (o / 4096) 0) + o % 4096

/-- A dropped access is counted, raises APT_DROP and is recorded (R213). -/
def State.apertureDrop (s : State) (port : Nat) : State :=
  ((s.bump F.CHT_APT_DROP.COUNT).raiseLimited 0x1A2).ledgerLimited 0x1A2 4 port

/-- Bytes of a stream from its `i`-th on, buffer by buffer. -/
def State.apertureStore (s : State) (x : Aperture) (bufs : List Nat) : Nat → Nat → List Byte → State
  | 0, _, _ => s
  | fuel + 1, i, bs =>
    if bs.isEmpty then s
    else
      let unit := if x.side then 16 else 4096
      let k := unit - (x.off + i) % unit
      (s.store (apertureByte x bufs i) (bs.take k)).apertureStore x bufs fuel (i + k) (bs.drop k)

/-- APERTURE_WRITE: the bytes land in the buffers of the tag, or nothing does. -/
def execApertureWrite (port addr : Nat) (bytes : List Byte) (s : State) : Result :=
  .next (
    if !s.inbound port || addr / 2 ^ 56 != 0xFE then s
    else
      let x := apertureOf addr
      if s.apertureOk x bytes.length then
        let bufs := (s.dtag x.tag).bufs
        s.apertureStore x bufs bytes.length 0 bytes
      else s.apertureDrop port)

/-- APERTURE_READ: bytes of the buffers of a member write that holds the tag, or Unsupported Request. -/
def execApertureRead (port addr len : Nat) (s : State) : Result :=
  .next (
    if !s.inbound port || addr / 2 ^ 56 != 0xFE then s
    else
      let x := apertureOf addr
      if s.apertureOk x len && (s.dtag x.tag).write then
        let bufs := (s.dtag x.tag).bufs
        s.emit (.apertureData port addr ((List.range len).map (fun i => s.memByte (apertureByte x bufs i))))
      else (s.apertureDrop port).emit (.apertureUr port addr))

/-- TAG_HOLD_EXPIRY: a tag held back for 1 s of step time may be allocated again. -/
def execTagHoldExpiry (tag : Nat) (s : State) : Result :=
  .next (
    let t := s.dtag tag
    if t.holdUs ≠ 0 ∧ t.holdUs ≤ s.nowUs + 1 then s.setDtag tag { t with holdUs := 0 } else s)

/-- YARD_BUFFER_GRANT: a waiting request is granted when its buffers and a tag are free; requests of one station and class in their order. -/
def execYardBufferGrant (cid : Nat) (s : State) : Result :=
  .next (
    match s.cht.waits.find? (fun w => w.cmd == cid), s.drv? cid with
    | some w, some c =>
      if (s.cht.waits.find? (fun v => v.station == w.station && v.cls == w.cls)) = some w then
        let (t, ok) := s.equip c
        if ok then { t with cht := { t.cht with waits := t.cht.waits.filter (fun v => v.cmd != cid) } } else s
      else s
    | _, _ => s)

/-! ## The end of a Brand update (R252 to R254) -/

/-- The next queued rebuild of a group starts when none runs there and what it rests on is recorded: the spare log entry, or REBUILDING, or the replacement's drive
for copyback (R253, R285). -/
def State.startRebuild (s : State) (g : Nat) : State :=
  match s.grp? g with
  | none => s
  | some x =>
    let ready (r : Rebuild) : Bool :=
      r.group == g && r.state == 1 &&
        (if r.copyback then x.brand.mState r.member == mSpared && s.memberHere x r.member
        else x.brand.mState r.member == mRebuilding
          || (x.brand.mState r.member == mFailed && x.brand.log.any (fun l => l.1 == r.member && l.2)))
    if s.tly.rebuilds.any (fun r => r.group == g && r.running) ∨ x.down ∨ s.flag F.SKD_CTL.PAUSE then s
    else match s.tly.rebuilds.find? ready with
      | none => s
      | some r =>
        let st := if r.critPartner = 0xFF then 3 else 2
        ({ s with tly := { s.tly with
          rebuilds := s.tly.rebuilds.map (fun (y : Rebuild) => if y.is g r.member then { y with state := st, before := st } else y) } }).raise 0x1D4

/-- The next Brand update after an aborted Fallow entry retires that entry's dump (R541). -/
def State.retireFallow (s : State) : State :=
  match s.fallowDump with
  | some d => bif s.power == stActive && !s.pwr.hostBusy && !s.powerFailing then s.retireDump d else s
  | none => s

/-- BRAND_UPDATE_DONE: every copy of the running update has been written; what waited on it proceeds, and changes that came meanwhile are written by the next one. -/
def execBrandUpdateDone (group : Nat) (s : State) : Result :=
  .next (s.inStep (fun s =>
    match s.grp? group with
    | none => s
    | some x =>
      match x.upd with
      | none => s
      | some u =>
        if u.todo ≠ [] ∨ s.drv.cmds.any (fun c => match c.use with | .brand g _ _ _ => g == group | _ => false) then s
        else
          let failed := !u.failed.isEmpty
          -- CLEAN stands in one update only (R253)
          let want := { x.want with clean := if u.content.clean then false else x.want.clean }
          let serving := x.serving || (decide (u.content.seq = 1) && s.ready)
          let s := s.setGrp group { x with brand := u.content, want := { want with seq := u.content.seq }, upd := none, serving := serving }
          let s := (s.set F.LAY_BRAND_STATUS.RESULT (if failed then 2 else 1)).set F.LAY_BRAND_STATUS.GROUP group
          let s := ((s.raise 0x1C4).settleGroup group).retireFallow
          let s := s.startRebuild group
          s.startBrand group))

/-! ## Map commits (R250, R251, R261) -/

/-- MAP_MEMBERS after a commit: those that still are NORMAL, filled up to three (R251). -/
def Brand.mapHolders (b : Brand) : List Nat :=
  let kept := b.mapMembers.filter (fun m => b.mState m == mNormal)
  let more := (List.range b.members).filter (fun m => b.mState m == mNormal && !kept.contains m)
  (kept ++ more).take 3

/-- A write that waited for its allocation goes on (R198). -/
def State.allocated (s : State) (c : Cmd) : State :=
  match s.ns? c.sub c.cap.nsid with
  | none => s.endCmd c stNamespace
  | some n =>
    if (extentsOf n.map c.slba c.nlb).any (fun e => (s.extent n.map e.2).state == 0) then s
    else if c.cap.opcode = 0x08 then s.writeHeldBlocks c
    else s.fetchData c

/-- MAP_COMMIT_DONE: the image is on its three members; it holds the extents allocated with it, and every deallocation and bitmap change made since the last one. -/
def execMapCommitDone (group : Nat) (allocs : List (Nat × Nat × ExtEnt)) (s : State) : Result :=
  .next (s.inStep (fun s =>
    match s.grp? group with
    | none => s
    | some x =>
      let mine := s.allNs.filter (fun n => n.2.group == group)
      let s := s.setGrp group { x with mapSeq := x.mapSeq + 1, want := { x.want with mapMembers := x.want.mapHolders } }
      let fresh := allocs.filter (fun a => mine.any (fun n => n.2.map == a.1)
        && (s.extent a.1 a.2.1).state == 0 && a.2.2.state != 0 && a.2.2.groupBlock % extentSize == 0)
      let s := fresh.foldl (fun (s : State) (a : Nat × Nat × ExtEnt) => s.setExtent a.1 a.2.1 a.2.2) s
      let s := { s with cht := { s.cht with
        dir := mine.foldl (fun (d : List (Nat × Nat)) (n : Nat × NsEnt) =>
          if d.any (fun e => e.1 == n.2.map) then d else sparseInsert n.2.map ((n.2.size + extentSize - 1) / extentSize) d) s.cht.dir,
        staging := s.cht.staging.filter (fun (v : Ver) =>
          !(v.mapWait && mine.any (fun n => n.1 == v.sub && n.2.nsid == v.nsid))) } }.dirtyLevel
      let here (c : Cmd) : Bool := mine.any (fun n => n.1 == c.sub && n.2.nsid == c.cap.nsid)
      let s := (s.nvm.cmds.filter (fun c => c.st = .mapping && here c)).foldl (fun (s : State) (c : Cmd) => s.endCmd c stOk) s
      let s := (s.nvm.cmds.filter (fun c => c.st = .allocating && here c)).foldl (fun (s : State) (c : Cmd) => s.allocated c) s
      (s.ackWrites).startBrand group))

/-! ## Destage (R219) -/

/-- DESTAGE_START: some dirty block of the stripe is due. `reads` is what its columns hold. -/
def execDestageStart (group stripe : Nat) (reads : List ColRead) (s : State) : Result :=
  .next (s.inStep (fun s =>
    match s.grp? group with
    | none => s
    | some x =>
      let vs := s.stripeDirty group x.brand stripe
      if s.consumes ∧ vs ≠ [] ∧ s.destageDue x.brand vs then s.destage group stripe reads else s))

end Sys2Proof.Machine
end

