-- ==== Sys2Proof/Machine/Maintenance.lean ====
section
/-!
DEFINITION. Machine/Maintenance.lean: the sweep (R283, R284), the Skidder (R285 to R288), Patrol (R295, R296), writers that waited (R264, R267), and the migration engine
(R297 to R299).
-/
namespace Sys2Proof.Machine

/-! ## The sweep -/

/-- A host read waits for this stripe to be swept (R284). -/
def State.sweepWanted (s : State) (g st : Nat) : Bool :=
  s.nvm.cmds.any (fun c => c.runs.any (fun r => r.waitSweep && r.group == g && r.stripe == st))

/-- SWEEP_STRIPE: the next stripe of a group that needs it, or one that a read waits for. -/
def execSweepStripe (group stripe : Nat) (reads : List ColRead) (s : State) : Result :=
  .next (s.inStep (fun s =>
    match s.grp? group with
    | none => s
    | some x =>
      if s.consumes ∧ ¬ s.tly.stopped ∧ ¬ x.offline ∧ x.unswept stripe ∧ (stripe = x.swept ∨ s.sweepWanted group stripe) then
        ((s.setGrp group { x with verify := .sweeping }).sweepAt group stripe 0 x.brand.c reads).resumeSwept
      else s))

/-! ## The Skidder -/

/-- Column of a member in a stripe. -/
def Brand.colOf (b : Brand) (st m : Nat) : Option Nat := (List.range b.w).find? (fun j => b.memberOf st j == m)

/-- The stripe misses both the rebuild's member and its critical partner (R285). -/
def Rebuild.criticalAt (r : Rebuild) (b : Brand) (st : Nat) : Bool :=
  let row := b.row (st % b.rows)
  row.contains r.critPartner && row.contains r.member

/-- First stripe from `st` on, below the end, that satisfies `p`; `fuel` stripes are looked at. Rows repeat, so that one cycle of rows finds it or shows that there is
none. -/
def firstStripe : Nat → Nat → Nat → (Nat → Bool) → Nat
  | 0, st, _, _ => st
  | fuel + 1, st, stop, p => if st < stop ∧ ¬ p st then firstStripe fuel (st + 1) stop p else st

/-- next_stripe of R285: the stripe, whether it belongs to the critical pass, and the rebuild with its cursors moved. -/
def Rebuild.take (r : Rebuild) (b : Brand) : Option (Nat × Bool) × Rebuild :=
  let c := firstStripe (b.rows + 1) r.critNext b.stripes (fun st => r.criticalAt b st && decide (r.cursor ≤ st))
  let c := if c < b.stripes ∧ ¬ r.criticalAt b c then b.stripes else c
  if c < b.stripes then (some (c, true), { r with critNext := c + 1 })
  else
    let n := firstStripe (b.rows + 1) r.next b.stripes (fun st => (b.row (st % b.rows)).contains r.member)
    let n := if n < b.stripes ∧ ¬ (b.row (n % b.rows)).contains r.member then b.stripes else n
    if n < b.stripes then (some (n, false), { r with critNext := b.stripes, next := n + 1 })
    else (none, { r with critNext := b.stripes, next := b.stripes })

def State.setRebuild (s : State) (r : Rebuild) : State :=
  { s with tly := { s.tly with rebuilds := s.tly.rebuilds.map (fun (y : Rebuild) => if y.is r.group r.member then r else y) } }

/-- What the Skidder decides at one offset of a stripe (R287): the target block, rewrites in place, blocks reconstructed, data columns lost. -/
structure SkidAt where
  block : Blk
  fixes : List (Nat × Blk)
  rebuilt : Nat
  lost : List Nat
  deriving DecidableEq, Repr

/-- The Skidder at one offset: column j is rebuilt from the others; `lostHere` says that the table marks it. -/
def skidAt (b : Brand) (st j o : Nat) (tag : Nat → Nat) (lostHere : Bool) (a : Offset) : SkidAt :=
  let block (full : List (List Byte)) (i : Nat) : Blk :=
    if i < b.k then blkAt (full.getD i zeroBlock) (tag i) st i o
    else if i = b.k then blkAt (parityP 4096 full) 0 st i o else blkAt (parityQ 4096 full) 0 st i o
  match a.complete b.k with
  | some full => ⟨if lostHere then lostMarker else block full j, a.failing.map (fun i => (i, block full i)), a.failing.length, []⟩
  | none =>
    let data := orZero 4096 (a.vals.take b.k)
    let gone := (a.failing ++ a.missing).filter (fun i => decide (i < b.k))
    let marks := (a.failing.filter (fun i => decide (i < b.k))).map (fun i => (i, lostMarker))
    let parity := (freshParity b.k st o data).filter (fun w => !a.missing.contains w.1 || w.1 == j)
    ⟨if j < b.k then lostMarker else block data j, marks ++ parity.filter (fun w => w.1 != j), 0, gone⟩

/-- Rebuilds a stripe of a rebuild (R285 to R287): rewrites of unreadable columns go first, under a KIND 4 entry, and the chunk follows under KIND 3, or 5 for copyback. -/
def State.rebuildStripe (s : State) (r : Rebuild) (st : Nat) (reads : List ColRead) : State :=
  match s.grp? r.group with
  | none => s
  | some x =>
    let b := x.brand
    match b.colOf st r.member with
    | none => s
    | some j =>
      let kind := if r.copyback then 5 else 3
      let cls := s.skidderClass (r.state == 2)
      if !s.tallyRoom r.group st then s.tallyWait ⟨kind, r.group, st, 0, b.c, r.member⟩
      else
        -- copyback reads the chunk from its spare target; a rebuild never reads the column it fills
        let reads := if r.copyback then reads else reads.set j .missing
        let each := (List.range b.c).map (fun o =>
          let a := offsetOf b.w st o o reads
          let lostHere := decide (j < b.k) && x.want.lostAt st j o
          (o, a, skidAt b st j o (fun i => s.rebuiltTag r.group (b.blockAt st i o)) lostHere a))
        let fixes := each.flatMap (fun e => singleWrites e.1 (e.2.2.fixes.filter (fun w => (x.writePlace st w.1 e.1).isSome)))
        let nlost := (each.map (fun e => e.2.2.lost.length)).sum
        let s := each.foldl (fun (s : State) (e : Nat × Offset × SkidAt) =>
          if e.2.2.lost.isEmpty then s else s.recordLost r.group st e.1 1 1 (colMask e.2.2.lost)) s
        let s := s.bumpBy F.SKD_RECON_REWRITE.COUNT ((each.map (fun e => e.2.2.rebuilt)).sum)
        let s := s.bumpBy F.SKD_LOST_BLOCKS.COUNT nlost
        let s := if nlost = 0 then s else s.startBrand r.group
        let s := { s with tly := { s.tly with
          rebuilds := s.tly.rebuilds.map (fun (y : Rebuild) =>
            if y.is r.group r.member then { y with recon := y.recon + (each.map (fun e => e.2.2.rebuilt)).sum, lost := y.lost + nlost } else y) } }
        if !fixes.isEmpty then
          (s.openEntry 4 r.group st 0 b.c 0 cls .maint fixes).tallyWait ⟨kind, r.group, st, 0, b.c, r.member⟩
        else
          let s := each.foldl (fun (s : State) (e : Nat × Offset × SkidAt) => s.countRecon (e.2.1.missing.length)) s
          s.openEntry kind r.group st 0 b.c r.member cls .maint [⟨j, 0, each.map (fun e => e.2.2.block), r.copyback, true, false⟩]

/-- SKIDDER_STRIPE: the next stripe of a running rebuild, critical ones first; at most 256 in flight ahead of a cursor. A stripe of unallocated extents counts as rebuilt
without I/O. -/
def execSkidderStripe (group member : Nat) (reads : List ColRead) (s : State) : Result :=
  .next (s.inStep (fun s =>
    let s := s.startRebuild group
    match s.tly.rebuilds.find? (fun r => r.is group member && r.running), s.grp? group with
    | some r, some x =>
      if !s.consumes ∨ s.tly.stopped ∨ x.down ∨ 256 ≤ r.inflight.length then s
      else match r.take x.brand with
        | (none, r') =>
          let s := s.setRebuild (r'.moved.leaveCritical x.brand.stripes)
          if r'.moved.finished x.brand.stripes then s.rebuildDone group r' else s
        | (some (st, crit), r') =>
          let r' := { r' with inflight := r'.inflight ++ [(st, crit)] }
          let s := s.setRebuild r'
          if s.stripeUsed group x.brand st then s.rebuildStripe r' st reads else s.rebuiltStripe group member st
    | _, _ => s))

/-- PAUSE of SKD_CTL (R288): every rebuild enters state 5, or goes on where it stood unless its group is offline. -/
def State.pauseRebuilds (s : State) (on : Bool) : State :=
  let s := s.setFlag F.SKD_CTL.PAUSE on
  let live (r : Rebuild) : Bool := r.state != 4 && r.state != 5
  if on then
    let any := s.tly.rebuilds.any live
    let s := { s with tly := { s.tly with
      rebuilds := s.tly.rebuilds.map (fun (r : Rebuild) => if live r then { r with before := r.state, state := 5 } else r) } }
    if any then s.raise 0x1DE else s
  else { s with tly := { s.tly with
    rebuilds := s.tly.rebuilds.map (fun (r : Rebuild) =>
      if r.state = 5 ∧ ¬ ((s.grp? r.group).any (·.down)) then { r with state := r.before } else r) } }

/-- SKD_PAUSE. -/
def execSkdPause (src : Src) (on : Bool) (s : State) : Result :=
  .next (s.busWrite src (F.SKD_CTL.PAUSE.at 0 0) (fun s =>
    s.stepWrite src (.skdPause on) (fun s => s.pauseRebuilds on)))

/-! ## Patrol -/

/-- A Patrol pass of a group is over (R296). -/
def State.patrolPass (s : State) (g : Nat) (x : Grp) : State :=
  (s.setGrp g { x with patrolCursor := 0, patrolPasses := x.patrolPasses + 1, patrolUs := s.nowUs, patrolLate := false,
                       patrolSkipped := [] }).raise 0x1D9

/-- PATROL_STRIPE: the stripe at the cursor, or, behind the last one, those passed over for an open entry. -/
def execPatrolStripe (group : Nat) (reads : List ColRead) (s : State) : Result :=
  .next (s.inStep (fun s =>
    match s.grp? group with
    | none => s
    | some x =>
      if !s.consumes ∨ s.tly.stopped ∨ x.down ∨ s.power ≠ stActive then s
      else
        let s := s.set F.PTL_STATUS.GROUP group
        let n := x.brand.stripes
        if x.patrolCursor < n then
          let st := x.patrolCursor
          let x' := { x with patrolCursor := st + 1 }
          let last (s : State) : State := match s.grp? group with
            | some y => if n ≤ y.patrolCursor ∧ y.patrolSkipped = [] then s.patrolPass group y else s
            | none => s
          if !s.stripeUsed group x.brand st then last (s.setGrp group x')
          else if s.tallyOn group st then s.setGrp group { x' with patrolSkipped := x.patrolSkipped ++ [st] }
          else last ((s.setGrp group x').repairAt group st 0 x.brand.c true reads)
        else match x.patrolSkipped with
          | [] => s.patrolPass group x
          | st :: rest =>
            if s.tallyOn group st then s.setGrp group { x with patrolSkipped := rest ++ [st] }
            else
              let s := (s.setGrp group { x with patrolSkipped := rest }).repairAt group st 0 x.brand.c true reads
              match s.grp? group with
              | some y => if rest = [] then s.patrolPass group y else s
              | none => s))

/-- PATROL_DAYS in µs. -/
def State.patrolUs (s : State) : Nat := s.cfg 0x00D0 0 10 2 30 * 86400000000

/-- PATROL_LATE: a pass has not completed within PATROL_DAYS. -/
def execPatrolLate (group : Nat) (s : State) : Result :=
  .next (s.inStep (fun s =>
    match s.grp? group with
    | some x =>
      if ¬ x.patrolLate ∧ x.patrolUs + s.patrolUs ≤ s.nowUs then (s.setGrp group { x with patrolLate := true }).raise 0x1DB else s
    | none => s))

/-! ## Writers that waited (R264, R267) -/

/-- TALLY_ENTRY_FREE: the writer that has waited longest for this stripe opens its entry. -/
def execTallyEntryFree (group stripe : Nat) (reads : List ColRead) (s : State) : Result :=
  .next (s.inStep (fun s =>
    match s.tly.waits.find? (fun w => s.tallyRoom w.group w.stripe) with
    | none => s
    | some w =>
      if w.group ≠ group ∨ w.stripe ≠ stripe then s
      else
        let s := { s with tly := { s.tly with waits := s.tly.waits.erase w } }
        if w.kind = 2 then s.destage group stripe reads
        else if w.kind = 6 then (s.sweepAt group stripe w.off w.blocks reads).resumeSwept
        else if w.kind = 4 then s.repairAt group stripe w.off w.blocks (w.member == 1) reads
        else match s.tly.rebuilds.find? (fun r => r.is group w.member) with
          | some r => s.rebuildStripe r stripe reads
          | none => s))

/-! ## Migration (R297 to R299) -/

def State.mig? (s : State) (slot : Nat) : Option Mig := s.tly.migs.find? (fun m => m.slot == slot)

def State.setMig (s : State) (m : Mig) : State :=
  { s with tly := { s.tly with migs := s.tly.migs.map (fun (x : Mig) => if x.slot = m.slot then m else x) } }

/-- Granules of a namespace. -/
def granulesOf (n : NsEnt) : Nat := (n.size + 15) / 16

/-- The granule as it stands (R297): staged blocks from staging, deallocated and lost ones by their maps, the others as they were read (`blocks`; none where they cannot be
had, which counts as lost). -/
def State.granule (s : State) (sub : Nat) (n : NsEnt) (g pass : Nat) (blocks : List (Option (List Byte × Nat))) : Granule :=
  let each := (List.range 16).map (fun i =>
    let lba := 16 * g + i
    (i, lba, match s.locate sub n lba with
      | .staged v => (0, some (v.data, v.hostTag))
      | .none_ => (1, none)
      | .lost => (2, none)
      | .member _ _ _ _ => match (blocks[i]?).getD none with
        | some b => (0, some b)
        | none => (2, none)))
  let bits (k : Nat) : Nat := ((each.filter (fun e => e.2.2.1 == k)).map (fun e => 2 ^ e.1)).sum
  { slba := 16 * g, dealloc := bits 1, lost := bits 2, pass := pass,
    units := each.filterMap (fun e => e.2.2.2.map (fun b => (b.1, guard64 b.1, b.2, e.2.1 % 2 ^ 48))) }

/-- The bytes of a granule's message (R297). -/
def Granule.bytes (g : Granule) : List Byte :=
  leBytes 8 g.slba ++ leBytes 2 g.dealloc ++ leBytes 2 g.lost ++ leBytes 4 g.pass ++ zeroBytes 48
    ++ g.units.flatMap (fun u => u.1 ++ leBytes 8 u.2.1 ++ leBytes 2 u.2.2.1 ++ leBytes 6 u.2.2.2)

/-- Sends a granule: a Flume WRITE with NOTIFY into the target's window. Its WIN_OFFSET is an open value: no rule says where in the window a granule goes. -/
def State.sendGranule (s : State) (m : Mig) (n : NsEnt) (g : Nat) (blocks : List (Option (List Byte × Nat))) : State :=
  let b := (s.granule m.sub n g m.pass blocks).bytes
  let msg : Msg := {
    key := s.flm.orderCtr, id := 0, dst := m.peer, opcode := opWrite, len := b.length, sizeCode := s.ownSizeCode, window := m.window,
    winOffset := m.winOffset, aux := m.notifyWq, notify := true, fence := none, solicit := false, src := .bytes b,
    use := .granule m.slot g, side := .maint, desc := none, faulted := false, got := [], st := .queued, t0Us := 0, pkts := [],
    holdUntilUs := 0, tag := none, cls := 3 }
  s.submit msg m.ip

/-- Begins the next pass once the present one has sent and completed every granule (R299). -/
def State.nextPass (s : State) (m : Mig) : State :=
  if m.state = 1 ∧ m.todo = [] ∧ m.inflight = [] ∧ m.marked ≠ [] then
    s.setMig { m with pass := m.pass + 1, todo := m.marked, marked := [], cursor := 0, resent := [] }
  else s

/-- MIG_GRANULE_SEND: the next granule of the pass. -/
def execMigGranuleSend (slot : Nat) (blocks : List (Option (List Byte × Nat))) (s : State) : Result :=
  .next (s.inStep (fun s =>
    match s.mig? slot with
    | none => s
    | some m =>
      match s.ns? m.sub m.nsid with
      | none => s
      | some n =>
        if !s.consumes ∨ s.tly.stopped ∨ ¬ (m.state = 1 ∨ m.state = 2) then s
        else
          -- pass 1 walks every granule; a later one, and the cutover, send those marked before it
          let m := if m.state = 2 ∧ m.todo = [] ∧ (m.pass ≠ 1 ∨ granulesOf n ≤ m.cursor) ∧ m.marked ≠ [] then
              { m with pass := m.pass + 1, todo := m.marked, marked := [], cursor := 0 } else m
          if m.pass = 1 ∧ m.cursor < granulesOf n then
            let g := m.cursor
            let m := { m with cursor := g + 1, inflight := m.inflight ++ [g] }
            (s.setMig m).sendGranule m n g blocks
          else match m.todo with
            | g :: rest =>
              let m := { m with todo := rest, cursor := m.cursor + 1, inflight := m.inflight ++ [g] }
              (s.setMig m).sendGranule m n g blocks
            | [] => s.nextPass m))

/-- A granule's WRITE has ended: a failed one is sent once more, and then the migration fails (R298). -/
def State.granuleReport (s : State) (slot g : Nat) (ok : Bool) : State :=
  match s.mig? slot with
  | none => s
  | some m =>
    if m.state ≠ 1 ∧ m.state ≠ 2 then s
    else
      let m := { m with inflight := m.inflight.erase g }
      if ok then (s.setMig m).nextPass m
      else if m.resent.contains g then (s.setMig { m with state := 4 }).raise 0x1DD
      else (s.setMig { m with todo := g :: m.todo, resent := g :: m.resent }).bump F.MIG_RESEND.COUNT

/-- MIG_DONE: after cutover every granule has been sent and every WRITE has completed. -/
def execMigDone (slot : Nat) (s : State) : Result :=
  .next (s.inStep (fun s =>
    match s.mig? slot with
    | none => s
    | some m =>
      match s.ns? m.sub m.nsid with
      | none => s
      | some n =>
        if m.state = 2 ∧ m.todo = [] ∧ m.marked = [] ∧ m.inflight = [] ∧ (m.pass ≠ 1 ∨ granulesOf n ≤ m.cursor) then
          (s.setMig { m with state := 3 }).raise 0x1DC
        else s))

/-- The units of a granule pass the target's check: GUARD over the data, and the LBAs of the blocks that carry data (R298). -/
def Granule.checks (g : Granule) : Bool :=
  let lbas := ((List.range 16).filter (fun i => !bitOf g.dealloc i && !bitOf g.lost i)).map (fun i => (g.slba + i) % 2 ^ 48)
  g.units.map (fun u => u.2.2.2) == lbas && g.units.all (fun u => u.2.1 == guard64 u.1) && g.slba % 16 == 0

/-- A block that the source has lost enters this shelf's Lost Stripe Table with cause 1, where it has a place (R298). -/
def State.lostHere (s : State) (n : NsEnt) (lba : Nat) : State :=
  match s.homeBlock n lba, s.grp? n.group with
  | some b, some x =>
    let p := x.brand.mapBlock b
    s.recordLost n.group p.stripe p.off 1 1 (2 ^ p.col)
  | _, _ => s

/-- MIG_GRANULE_RX: a granule that passes is staged, its DEALLOC blocks deallocated and its LOST blocks recorded; one that fails completes its WRITE with an error, whose
reason no rule states (an open value among those of R93). -/
def execMigGranuleRx (peer msgId sub nsid : Nat) (g : Granule) (s : State) : Result :=
  .next (s.inStep (fun s =>
    match s.ns? sub nsid with
    | none => s
    | some n =>
      if !s.consumes ∨ n.size < g.slba + 16 then s
      else if !g.checks then
        let reason := s.free.toNat % 13 + 1
        (s.drawn).sendCtl ⟨peer, msgId, opNack, false, reason * 2 ^ 24, 0, none, none, 3⟩
      else
        let s := (g.units.zip ((List.range 16).filter (fun i => !bitOf g.dealloc i && !bitOf g.lost i))).foldl
          (fun (s : State) (u : (List Byte × Nat × Nat × Nat) × Nat) =>
            s.stage { sub := sub, nsid := nsid, lba := g.slba + u.2, data := u.1.1, hostTag := u.1.2.2.1, commitStep := s.dev.stepNo,
                      dirtyUs := s.nowUs, entry := 0, mapWait := false, noticed := true, poisoned := false }) s
        let s := ((List.range 16).filter (fun i => bitOf g.dealloc i)).foldl
          (fun (s : State) (i : Nat) => s.deallocBlock sub n (g.slba + i)) s
        let s := ((List.range 16).filter (fun i => bitOf g.lost i)).foldl (fun (s : State) (i : Nat) => s.lostHere n (g.slba + i)) s
        (s.dirtyLevel).startBrand n.group))

end Sys2Proof.Machine
end

