-- ==== Sys2Proof/Machine/FlumeRows.lean ====
section
/-!
DEFINITION. Machine/FlumeRows.lean: the rows of chapter 03 that may end a message of the device: what ended tells the unit that sent it, the NVMe service (R163, R188) or a migration (R298).
-/
namespace Sys2Proof.Machine

/-- Every report of an ended message is told to its unit, and pulls that waited for a read tag try again. -/
def State.settleReports (s : State) : State :=
  let rs := s.fx.reports
  if rs.isEmpty then s
  else
    let s := { s with fx := { s.fx with reports := [] } }
    let s := rs.foldl (fun (s : State) (r : MsgReport) =>
      match r.use with
      | .granule slot g => s.granuleReport slot g (r.status = .success)
      | _ => s.cmdReport r) s
    s.retryPulls

/-- An effect in the present step, with what its ended messages make happen. -/
def State.ending (s : State) (f : State → State) : State := s.inStep (fun s => (f s).settleReports)

/-- READ_RESP_RX (R129). -/
def execReadRespRx (dg : Datagram) (place : Option (List (Nat × Nat))) (s : State) : Result := .next (s.ending (rxReadResp dg place))

/-- ACK_RX (R107). -/
def execAckRx (dg : Datagram) (s : State) : Result := .next (s.ending (rxAck dg))

/-- NACK_RX (R93). -/
def execNackRx (dg : Datagram) (s : State) : Result := .next (s.ending (rxNack dg))

/-- RETRANSMIT_TIMER_EXPIRY (R109). -/
def execRetransmitTimerExpiry (msg pkt : Nat) (s : State) : Result := .next (s.ending (timerExpiry msg pkt))

/-- BUSY_HOLD_EXPIRY (R107). -/
def execBusyHoldExpiry (msg : Nat) (s : State) : Result := .next (s.ending (holdExpiry msg))

/-- MESSAGE_DEADLINE (R110). -/
def execMessageDeadline (msg : Nat) (s : State) : Result := .next (s.ending (deadline msg))

end Sys2Proof.Machine
end

