-- ==== Sys2Proof/Machine/PairRows.lean ====
section
/-!
DEFINITION. Machine/PairRows.lean: the Whipsaw pair but for the consumption of inputs: roles and pins (R303 to R307), ticks and numbering (R309 to R313), the link (R326 to R329), heartbeats and failure
(R333, R334), takeover (R336 to R339), digests (R332), resync (R340) and handover (R343) (09_whipsaw_pair.md).
-/
namespace Sys2Proof.Machine

/-! ## Pins (R306) -/

/-- PAIR_ACTIVE_IN as it reads now. -/
def State.seeActive (s : State) (w : ActiveIn) : State :=
  (s.setFlag F.WSW_STATUS.ACTIVE_IN (w = .leader || w = .follower)).setFlag F.WSW_STATUS.ACTIVE_IN_LEADER (w = .leader)

/-- WSW_STATUS.PARTNER. -/
def State.partnerIs (s : State) (v : Nat) : State := s.set F.WSW_STATUS.PARTNER v

/-! ## Roles (R303, R304) -/

/-- A TICK is numbered (R313). -/
def State.tick (s : State) (us : Nat) : State :=
  ({ s with wsw := { s.wsw with tickUs := us } }).number s.sideB false 0 (.tick us)

/-- ALONE with no partner in step: step numbers restart from 1, with a TICK that carries the device time (R303, R313). -/
def State.freshAlone (s : State) : State :=
  let s := s.setRole roleAlone
  let s := { s with
    dev := { s.dev with stepNo := 0 }
    wsw := { s.wsw with lastNumber := 0, inputs := [], stopped := false, hostHeld := false, joining := false, joinCut := none,
                        tickNs := s.dev.timeNs / 1000 * 1000 } }
  s.tick (s.dev.timeNs / 1000)

/-- JOINING (R303, R340). -/
def State.join (s : State) : State :=
  let s := s.setRole roleJoining
  { s with wsw := { s.wsw with
    joining := false, joinCut := none, inputs := [], forwarded := [], stopped := false, hostHeld := false, lastHbRxNs := s.dev.timeNs } }

/-- ROLE_SELECT: controller A at READY, controller B 2 s later; in Solo, B stays DETACHED beside a leader waveform (R304). -/
def execRoleSelect (wave : ActiveIn) (s : State) : Result :=
  .next (
    if s.role ≠ roleOff ∨ !s.ready then s
    else
      let s := s.seeActive wave
      if s.ownProfile = 0 then
        if s.sideB ∧ wave = .leader then s.detach.raise 0x20D else s.freshAlone
      else if s.sideB ∧ s.dev.timeNs < s.wsw.readyNs + 2000000000 then s
      else if wave = .leader then s.join else s.freshAlone)

/-! ## Fencing (R335) -/

/-- Reservation Acquire with Preempt, naming the partner's key, on every present member. -/
def State.fencePartner (s : State) : State :=
  (List.range 48).foldl (fun (s : State) (n : Nat) =>
    if (s.port n).ownReady && (s.port n).member.isSome then s.resvCmd n 0x11 .fence else s) s

/-- This controller's key on every member (R335, R340). -/
def State.registerKeys (s : State) : State :=
  (List.range 48).foldl (fun (s : State) (n : Nat) =>
    if (s.port n).ownReady && (s.port n).member.isSome then s.resvCmd n 0x0D .resvKey else s) s

/-! ## Takeover (R336 to R339) -/

/-- TICKs for every microsecond of device time since the last one, less 0.25 µs (R313). -/
def State.missedTicks (s : State) : State :=
  let n := (s.dev.timeNs - 250 - s.wsw.tickNs) / 1000
  let s := (List.range n).foldl (fun (s : State) (_ : Nat) => s.tick (s.wsw.tickUs + 1)) s
  { s with wsw := { s.wsw with tickNs := s.dev.timeNs / 1000 * 1000 } }

/-- The drive commands that the partner issued and whose completion has not been consumed go again, on this controller's ports, under new tags. -/
def State.reissuePartner (s : State) : State :=
  (s.drv.cmds.filter (fun c => c.sideB != s.sideB && c.queue != 0)).foldl (fun (s : State) (c : DrvCmd) => s.reissue c) s

/-- Forwarded observations that were not returned are numbered, in the order they were forwarded (R336 step 3). -/
def State.numberForwarded (s : State) : State :=
  let fs := s.wsw.forwarded
  fs.foldl (fun (s : State) (r : InputRec) => s.number r.sideB false r.origin r.input)
    { s with wsw := { s.wsw with forwarded := [] } }

/-- Takes the namespaces of the other half as a takeover does, without its inputs: R332, R334 and the leader's part of R336. -/
def State.serveAlone (s : State) : State :=
  let s := s.setRole roleAlone
  let s := { s with wsw := { s.wsw with resyncPass := 0, handover := false, bothHalves := false, ownDigests := [], peerDigests := [] } }
  let s := s.linkAcked s.wsw.txSeq
  s.reissuePartner.ackWrites

/-- The takeover of R336, steps 1 to 4: CUT, fence, observations, TICKs. In the Shadow profile a leader whose follower failed only fences. -/
def State.takeOver (s : State) : State :=
  let leads := s.role = roleLeader
  let s := (s.raise 0x201).partnerIs 5
  let s := { s with wsw := { s.wsw with failNs := s.wsw.lastHbRxNs, detectNs := s.dev.timeNs } }
  if s.role = roleAlone then
    (({ s with wsw := { s.wsw with resyncPass := 0 } }.set F.WSW_RESYNC.PHASE 0).setRole roleAlone).fencePartner
  else if leads ∧ s.profile ≠ 2 then s.serveAlone.fencePartner
  else
    let s := s.setRole roleAlone
    let s := { s with wsw := { s.wsw with
      takeover := true, hostHeld := true, handover := false, bothHalves := false, resyncPass := 0,
      readDropNs := s.dev.timeNs + 1000 * s.tnetUs, ctlHoldUs := s.wsw.tickUs + 16, ownDigests := [], peerDigests := [] } }
    let s := s.number s.sideB false 0 (.cut cutTakeover)
    (s.fencePartner.numberForwarded).missedTicks

/-- Every unacknowledged packet is sent again, through its RETX input (R321, R339). -/
def State.resendAll (s : State) : State :=
  s.flm.msgs.foldl (fun (s : State) (m : Msg) =>
    if m.opcode = opProbe then s
    else (m.pkts.filter (fun p => p.sent && !p.held && !p.retx)).foldl (fun (s : State) (p : PktTx) =>
      match s.msg? m.key with
      | some m => (s.setMsg (m.setPkt { p with retx := true })).observe (.retx m.id p.index (p.attempt + 1))
      | none => s) s) s

/-- The survivor enters every destination afresh (R149). -/
def State.freshFlows (s : State) : State :=
  s.fx.flows.foldl (fun (s : State) (f : Flow) =>
    (s.drawn).setFlow (s.newFlow f.peer f.ip (f.localIp.map (fun a => (a, f.lport))))) s

/-- Steps 5 and 6, once the inputs of the takeover have been consumed: drive commands again, message counter, packets, host output (R336, R339). The announcements of R339 are frames
that firmware sends. -/
def State.settleTakeover (s : State) : State :=
  if !s.wsw.takeover ∨ s.wsw.inputs ≠ [] then s
  else
    let s := { s with
      wsw := { s.wsw with takeover := false, hostHeld := false }
      flm := { s.flm with msgCtr := (s.flm.msgCtr + 2 ^ 24) % 2 ^ 48 }
      nvm := { s.nvm with takeovers := s.nvm.takeovers + 1, lastTakeover := s.dev.stepNo } }
    let s := s.linkAcked s.wsw.txSeq
    let s := (s.freshFlows.reissuePartner).resendAll
    let s := s.ackWrites
    let s := s.set F.WSW_LAST_TAKEOVER.GAP (min 65535 ((s.dev.timeNs - s.wsw.failNs) / 100))
    (s.set F.WSW_LAST_TAKEOVER.DETECT (min 65535 ((s.wsw.detectNs - s.wsw.failNs) / 100))).raise 0x202

/-! ## A suspect partner (R333, R334) -/

/-- The link has failed: it carries nothing until a new HELLO exchange; a resync over it is over. -/
def State.linkFails (s : State) : State :=
  if s.linkUp then
    let s := (s.setFlag F.WSW_STATUS.LINK_UP false).raise 0x203
    { s with wsw := { s.wsw with sent := [], replays := 0, resyncPass := 0 } }
  else s

/-- The pair degrades to Solo (R35, R334). -/
def State.degrade (s : State) : State := ((s.linkFails.partnerIs 3).set F.GLB_SIDE.PROFILE 0).raise 0x205

/-- A controller for which a partner counts. -/
def State.watches (s : State) : Bool :=
  s.inPair || s.role == roleJoining || (s.role == roleAlone && s.get F.WSW_STATUS.PARTNER == 2)

/-- Marks the partner suspect (R333). -/
def State.suspect (s : State) : State :=
  if s.get F.WSW_STATUS.PARTNER = 4 then s else (s.partnerIs 4).raise 0x200

/-- The decision of R334; nothing where no row of it fits. -/
def State.decidePartner (s : State) (w : ActiveIn) : State :=
  if (w = .inactive ∨ w = .dead) ∧ (s.inPair ∨ s.role = roleAlone) then s.takeOver
  else if w = .leader ∧ (s.role = roleFollower ∨ s.role = roleAlone ∨ s.role = roleJoining) then s.degrade.detach
  else if s.role = roleLeader then (s.degrade.serveAlone).fencePartner
  else s

/-- HEARTBEAT_TIMEOUT: no HEARTBEAT for 8 µs, which is four misses. -/
def execHeartbeatTimeout (wave : ActiveIn) (s : State) : Result :=
  .next (
    if s.watches ∧ s.wsw.lastHbRxNs + 8000 ≤ s.dev.timeNs then
      (((s.seeActive wave).bumpBy F.WSW_HB_MISS.COUNT 4).suspect).decidePartner wave
    else s)

/-- FAULT_NOTICE: the partner is suspect at once, and is decided on when its waveform has gone (R337). -/
def execFaultNotice (wave : ActiveIn) (s : State) : Result :=
  .next (
    if s.flag F.WSW_STATUS.FAULT_OUT then s
    else
      let s := (s.seeActive wave).setFlag F.WSW_STATUS.FAULT_IN true
      if !s.watches then s
      else
        let s := s.suspect
        if wave = .inactive ∨ wave = .dead then s.decidePartner wave else s)

/-- PAIR_ACTIVE_IN_LOSS: low for 2 µs, or no edge for 8 µs; a suspect partner has then failed. -/
def execPairActiveInLoss (dead : Bool) (s : State) : Result :=
  .next (
    let w : ActiveIn := if dead then .dead else .inactive
    let s := s.seeActive w
    if s.watches ∧ s.get F.WSW_STATUS.PARTNER = 4 then s.decidePartner w else s)

/-! ## Ticks (R313) -/

/-- Time by which the partner's receipt trails (WSW_LAG): the age of the oldest unacknowledged input record. -/
def State.lagNs (s : State) : Nat :=
  match s.wsw.sent.find? (fun f => match f.2.2 with | .input _ => true | _ => false) with
  | some f => s.dev.timeNs - f.2.1
  | none => 0

/-- LAG_HIGH when the partner's receipt comes to trail by 4 µs (R345). -/
def State.lagCheck (s : State) : State :=
  let high := s.partnerInStep && decide (4000 ≤ s.lagNs)
  let t := { s with wsw := { s.wsw with lagHigh := high } }
  if high && !s.wsw.lagHigh then t.raise 0x20C else t

/-- TICK_ISSUE: at each whole microsecond of device time since the last one. -/
def execTickIssue (s : State) : Result :=
  .next (
    if s.numbers ∧ s.wsw.tickNs + 1000 ≤ s.dev.timeNs then
      (({ s with wsw := { s.wsw with tickNs := s.wsw.tickNs + 1000 } }).tick (s.wsw.tickUs + 1)).lagCheck
    else s)

/-! ## Link frames (R326, R328) -/

/-- Sends again what the partner has not acknowledged; the third replay of a frame without acknowledgement fails the link. -/
def State.replay (s : State) : State :=
  if s.wsw.sent.isEmpty then s
  else if 3 ≤ s.wsw.replays then s.linkFails
  else
    let n := s.wsw.sent.length
    let s := s.wsw.sent.foldl (fun (s : State) (f : Nat × Nat × LinkBody) => s.putLink f.1 true false f.2.2) s
    (({ s with wsw := { s.wsw with replays := s.wsw.replays + 1 } }).bumpBy F.WSW_LINK_REPLAY.COUNT n).count 9 0 2 n

/-- The partner's acknowledgement releases outputs and frames kept for replay. -/
def State.linkAck (s : State) (ack : Nat) : State :=
  let moved := s.wsw.sent.any (fun f => decide (f.1 ≤ ack))
  let s := s.linkAcked ack
  { s with wsw := { s.wsw with
    sent := s.wsw.sent.filter (fun f => !decide (f.1 ≤ ack)), replays := if moved then 0 else s.wsw.replays } }

/-- Answers with NAK. -/
def State.sendNak (s : State) : State :=
  ({ s with wsw := { s.wsw with txSeq := s.wsw.txSeq + 1, sent := s.wsw.sent ++ [(s.wsw.txSeq, s.dev.timeNs, LinkBody.idle)] } }).putLink
    s.wsw.txSeq false true .idle

/-- What every frame does: one out of order or with a wrong CRC is discarded and answered with NAK; another one acknowledges, and a NAK asks for a replay; then its body acts. -/
def State.onFrame (s : State) (fr : LinkFrame) (f : State → State) : State :=
  if !s.linkUp then s
  else if !fr.crcOk then (s.bump F.WSW_LINK_CRC.COUNT).sendNak
  else if fr.lseq ≠ s.wsw.rxSeq then s.sendNak
  else
    let s := { s with wsw := { s.wsw with rxSeq := s.wsw.rxSeq + 1 } }
    let s := s.linkAck fr.ack
    f (if fr.nak then s.replay else s)

/-- LINK_NAK_RX: a NAK, or a frame that is to be discarded. -/
def execLinkNakRx (fr : LinkFrame) (s : State) : Result := .next (s.onFrame fr id)

/-- LINK_IDLE_RX: its acknowledgement releases outputs (R320). -/
def execLinkIdleRx (fr : LinkFrame) (s : State) : Result :=
  .next (if fr.body = .idle then s.onFrame fr id else s)

/-- LINK_IDLE_SEND: no other frame for 100 ns. -/
def execLinkIdleSend (s : State) : Result :=
  .next (if s.linkUp ∧ s.wsw.lastSentNs + 100 ≤ s.dev.timeNs then s.sendLink .idle else s)

/-- LINK_FAILURE: block lock lost for 2 µs, or a frame replayed three times in vain. -/
def execLinkFailure (lockLost : Bool) (s : State) : Result :=
  .next (if lockLost ∨ 3 ≤ s.wsw.replays then s.linkFails else s)

/-! ## HELLO (R329) -/

/-- VERSION of the running firmware image (R549). -/
def State.firmwareRev (s : State) : Nat :=
  leAt (if s.flag F.FWU_STATUS.RUNNING then s.fw.slotB else s.fw.slotA).image 0x10 8

/-- This controller's HELLO. -/
def State.hello (s : State) : Hello :=
  ⟨s.cfg 0x0001 0 0 8 0, s.sideB, s.profile, Config.factoryDigest.toNat, s.get F.PAT_LIVE_SEQ.SEQUENCE, s.firmwareRev⟩

/-- HELLO_RX: the link carries traffic when the identities match; `sameFactory` says that the digests are equal. Otherwise it stays down, with PE_18. -/
def execHelloRx (fr : LinkFrame) (h : Hello) (sameFactory : Bool) (s : State) : Result :=
  .next (
    if s.ownProfile = 0 ∨ s.linkUp ∨ !fr.crcOk ∨ fr.body ≠ .hello h then s
    else
      let own := s.hello
      if h.shelf = own.shelf ∧ h.sideB ≠ own.sideB ∧ h.profile = own.profile ∧ sameFactory then
        let s := { s with wsw := { s.wsw with rxSeq := fr.lseq + 1, txSeq := 1, ackSeq := 0, sent := [], replays := 0, heldOut := [] } }
        let back := s.role = roleDetached ∧ s.get F.WSW_STATUS.PARTNER = 3
        let s := (s.setFlag F.WSW_STATUS.LINK_UP true).raise 0x204
        let s := s.sendLink (.hello own)
        -- a partner that comes back on the image that this controller runs has fallen back (R560)
        let s := if s.fw.phase = 2 ∧ s.role = roleAlone ∧ h.firmware = own.firmware then { s with fw := { s.fw with phase := 0 } } else s
        if back then { s with pwr := { s.pwr with warm := some 1 } } else s
      else
        let s := (s.firstError ⟨18, headerIdx, 0⟩).raise 0x20E
        if s.sideB then s.detach
        else if s.role = roleJoining then s.freshAlone else s)

/-! ## Numbered records on the link (R312, R315) -/

/-- A record from the numbering controller: one that this side observed fills in what it kept itself. -/
def State.takeRecord (s : State) (r : InputRec) : State :=
  let own := r.sideB == s.sideB && r.refOnly
  let kept := s.wsw.forwarded.find? (fun f => f.origin == r.origin)
  let r' : InputRec := if own then { r with input := (kept.map (·.input)).getD r.input, refOnly := false } else { r with refOnly := false }
  let us := match r'.input with
    | .tick u => u
    | _ => s.wsw.tickUs
  { s with wsw := { s.wsw with
    inputs := s.wsw.inputs ++ [r'], lastNumber := max s.wsw.lastNumber r.step, tickUs := us,
    forwarded := if own then s.wsw.forwarded.filter (fun f => f.origin != r.origin) else s.wsw.forwarded } }

/-- INPUT_RX: numbered records from the leader. -/
def execInputRx (fr : LinkFrame) (s : State) : Result :=
  .next (match fr.body with
  | .input rs => s.onFrame fr (fun s =>
      if s.role = roleFollower ∨ s.role = roleJoining then rs.foldl (fun (s : State) (r : InputRec) => s.takeRecord r) s else s)
  | _ => s)

/-- FORWARD_RX: the leader numbers an observation of its partner and returns it REF_ONLY; a follower that has become the leader's partner in a handover has nothing to
number. -/
def execForwardRx (fr : LinkFrame) (s : State) : Result :=
  .next (match fr.body with
  | .forward r => s.onFrame fr (fun s => if s.numbers then s.number r.sideB true r.origin r.input else s)
  | _ => s)

/-- STAGED_RX: the partner has staged a Write (R216, R321). -/
def execStagedRx (fr : LinkFrame) (s : State) : Result :=
  .next (match fr.body with
  | .staged c cid sq step => s.onFrame fr (fun s => s.inStep (fun s =>
      let s := { s with
        wsw := { s.wsw with staged := (c, cid, sq, step) :: s.wsw.staged }
        cht := { s.cht with staging := s.cht.staging.map (fun (v : Ver) => if v.commitStep = step then { v with noticed := true } else v) } }
      s.ackWrites))
  | _ => s)

/-! ## Heartbeats (R333) -/

/-- HEARTBEAT_SEND: every 2 µs; an ALONE controller lets its joiner know that it lives (DEDUCED, log entry: without it R333 would end every resync). -/
def execHeartbeatSend (s : State) : Result :=
  .next (
    if s.watches ∧ s.wsw.lastHbTxNs + 2000 ≤ s.dev.timeNs then
      ({ s with wsw := { s.wsw with lastHbTxNs := s.dev.timeNs } }).sendLink
        (.heartbeat s.role (s.get F.WSW_STATUS.PARTNER) s.dev.stepNo)
    else s)

/-! ## Step state as granules (R340) -/

/-- Registers that hold step state and whose writes have no row of their own: writes to them enter the stream (10_ports_landing.md, 08_tally_rebuild.md, 04_flume_windows_keys.md). -/
def isStepReg (off : Nat) : Bool :=
  (decide (0x81000 ≤ off) && decide (off < 0x100000) && off % 0x1000 == 0 && decide (0x1000 ≤ off % 0x20000) && decide (off % 0x20000 < 0x9000))
  || off == F.SKD_CTL.PRIORITY.off || off == F.SKD_RATE.GBS.off || (decide (0x208008 ≤ off) && decide (off < 0x208028))

/-- STEP_FORMAT and MIN_STEP_FORMAT of the running image (R549). -/
def State.ownFormats (s : State) : Nat × Nat :=
  let img := (if s.flag F.FWU_STATUS.RUNNING then s.fw.slotB else s.fw.slotA).image
  (leAt img 0x22 2, leAt img 0x24 2)

/-- Two images may run in step (R558). -/
def formatsMeet (a b : Nat × Nat) : Bool := decide (a.2 ≤ b.1) && decide (b.2 ≤ a.1)

/-- The partner's formats, learnt in the resync; a JOINING controller whose formats do not overlap them becomes DETACHED (R558). -/
def State.learnFormats (s : State) (f : Nat × Nat) : State :=
  let s := { s with fw := { s.fw with partnerFormats := some f } }
  if s.role = roleJoining ∧ !formatsMeet s.ownFormats f then
    ((s.setFwSlot s.fwRunsB { s.fwSlot s.fwRunsB with verify := 9 }).detach).raise 0x4E1
  else s

/-- The step state of this controller, granule by granule. -/
def State.pieces (s : State) : List Piece :=
  [ .time s.dev.stepNo s.dev.stepUs s.wsw.settled,
    .pattern s.pat.live s.pat.settings,
    .flume s.flm s.fx.chain s.fx.addrTable,
    .nvme s.nvm,
    .chute s.cht.dir s.cht.ext s.cht.staging s.cht.superseded s.cht.dirtyHigh s.cht.limited,
    .groups s.grps,
    .tally s.tly,
    .drives s.drv.cmds s.drv.cidCtr (s.drv.ports.map (fun (p : Nat × DrvPort) =>
      { port := p.1, readyA := if s.sideB then p.2.partnerReady else p.2.ownReady,
        readyB := if s.sideB then p.2.ownReady else p.2.partnerReady, member := p.2.member, nguid := p.2.nguid, noWrites := p.2.noWrites })),
    .slots (s.slot.paths.map (fun (p : Nat × SlotPath) => ⟨p.1, s.flag F.SLOT_CTL.ENABLE p.1, p.2.presentA, p.2.presentB⟩)),
    .power (if s.sideB then s.pwr.partnerHoldupLow else s.pwr.holdupLow) (if s.sideB then s.pwr.holdupLow else s.pwr.partnerHoldupLow)
      (if s.sideB then s.pwr.partnerPwrfail else s.pwr.pwrfail) (if s.sideB then s.pwr.pwrfail else s.pwr.partnerPwrfail) s.pwr.lastHostUs,
    .regs (s.regs.filter (fun r => isStepReg (r.1 / 64))),
    .formats s.ownFormats.1 s.ownFormats.2 ]

/-- A joiner takes a granule: local parts of its own state stay (R316). -/
def State.installPiece (s : State) (x : Piece) : State :=
  match x with
  | .time n us d => { s with dev := { s.dev with stepNo := n, stepUs := us }, wsw := { s.wsw with digest := d, foldX := 0, foldAny := false } }
  | .pattern l st => { s with pat := { s.pat with live := l, settings := { st with retired := s.pat.settings.retired, ceiling := s.pat.settings.ceiling } } }
  | .flume f c a => { s with flm := f, fx := { s.fx with chain := c, addrTable := a } }
  | .nvme v => { s with nvm := v }
  | .chute d e st su h l =>
    { s with cht := { s.cht with dir := d, ext := e, staging := st.map (fun (v : Ver) => { v with poisoned := false }), superseded := su,
                                 dirtyHigh := h, limited := l } }
  | .groups g => { s with grps := g }
  | .tally t => { s with tly := t }
  | .drives cs k ps =>
    let s := ps.foldl (fun (s : State) (p : PortStep) =>
      s.setPort p.port { s.port p.port with
        ownReady := (s.port p.port).ownReady, partnerReady := if s.sideB then p.readyA else p.readyB,
        member := p.member, nguid := p.nguid, noWrites := p.noWrites }) s
    { s with drv := { s.drv with cmds := cs, cidCtr := k } }
  | .slots ps => ps.foldl (fun (s : State) (p : SlotStep) =>
      let s := s.setFlag F.SLOT_CTL.ENABLE p.enable p.slot
      let q := sparseGet slotPath0 p.slot s.slot.paths
      { s with slot := { s.slot with
        paths := sparsePut slotPath0 p.slot { q with presentA := p.presentA, presentB := p.presentB } s.slot.paths } }) s
  | .power a b f g t =>
    { s with pwr := { s.pwr with
      holdupLow := (if s.sideB then b else a), partnerHoldupLow := (if s.sideB then a else b), pwrfail := (if s.sideB then g else f)
      partnerPwrfail := (if s.sideB then f else g), lastHostUs := t } }
  | .regs rs =>
    let kept := s.regs.filter (fun r => !isStepReg (r.1 / 64))
    let all := rs.foldl (fun (l : List (Nat × Nat)) (r : Nat × Nat) => sparseInsert r.1 r.2 l) kept
    { s with regs := all }
  | .formats a b => s.learnFormats (a, b)

/-- Sends the granules that differ from what was last sent. -/
def State.sendDirty (s : State) : State :=
  let now := s.pieces.zipIdx.map (fun (p : Piece × Nat) => (p.2, p.1))
  let dirty := now.filter (fun p => !s.wsw.resyncSent.contains p)
  dirty.foldl (fun (s : State) (p : Nat × Piece) => s.sendLink (.snapshot p.1 p.2)) { s with wsw := { s.wsw with resyncSent := now } }

/-- A resync begins: every granule is sent (R340, R345). -/
def State.startResync (s : State) : State :=
  let s := (s.partnerIs 2).raise 0x207
  let s := (s.set F.WSW_RESYNC.PHASE 1).set F.WSW_RESYNC.PERMILLE 0
  let s := ({ s with wsw := { s.wsw with resyncPass := 1, resyncSent := [] } }).sendLink (.resync 1 s.dev.stepNo)
  s.sendDirty

/-- HEARTBEAT_RX: the partner lives; one that is JOINING gets a resync from an ALONE controller (R340). -/
def execHeartbeatRx (fr : LinkFrame) (s : State) : Result :=
  .next (match fr.body with
  | .heartbeat role _ _ => s.onFrame fr (fun s =>
      let s := { s with wsw := { s.wsw with lastHbRxNs := s.dev.timeNs } }
      if s.role = roleAlone ∧ role = roleJoining ∧ s.wsw.resyncPass = 0 then s.startResync else s)
  | _ => s)

/-- SNAPSHOT_RX: a joiner installs a granule, and tells its own formats in return for its partner's (R558). -/
def execSnapshotRx (fr : LinkFrame) (s : State) : Result :=
  .next (match fr.body with
  | .snapshot i x => s.onFrame fr (fun s =>
      match x with
      | .formats a b =>
        let s := s.learnFormats (a, b)
        if s.role = roleJoining then s.sendLink (.snapshot i (.formats s.ownFormats.1 s.ownFormats.2)) else s
      | _ => if s.role = roleJoining ∧ s.wsw.joinCut.isNone then s.installPiece x else s)
  | _ => s)

/-- The leader hears that the joiner is in step: it becomes LEADER, and in the Crossed profile passes the half back at a CUT with code 3 (R301, R340). -/
def State.joinerIn (s : State) : State :=
  let s := { s with
    wsw := { s.wsw with resyncPass := 0, resyncSent := [], bothHalves := s.profile == 2 }
    nvm := { s.nvm with resyncs := s.nvm.resyncs + 1 } }
  let s := ((((s.partnerIs 1).set F.WSW_RESYNC.PHASE 0).set F.WSW_RESYNC.PERMILLE 1000).setRole roleLeader).raise 0x208
  if s.profile = 2 then s.number s.sideB false 0 (.cut cutHalf) else s

/-- RESYNC_FRAME_RX: 1 start, 2 pass done, 3 cut, for the joiner; 4 in step, for the leader. -/
def execResyncFrameRx (fr : LinkFrame) (s : State) : Result :=
  .next (match fr.body with
  | .resync code step => s.onFrame fr (fun s =>
      if s.role = roleJoining then
        if code = 1 then
          ((({ s with wsw := { s.wsw with joining := true, joinCut := none } }).partnerIs 2).set F.WSW_RESYNC.PHASE 1).raise 0x207
        else if code = 3 ∧ s.wsw.joining then
          ({ s with wsw := { s.wsw with
            joinCut := some step, inputs := s.wsw.inputs.filter (fun r => decide (step < r.step)) } }).set F.WSW_RESYNC.PHASE 3
        else s
      else if s.role = roleAlone ∧ code = 4 ∧ s.wsw.resyncPass = 10 then s.joinerIn
      else s)
  | _ => s)

/-- RESYNC_PASS_DONE: with less than 2^30 bytes dirty, or after pass 8, the cut follows; otherwise the dirty granules are sent (R340). `dirtyBytes` is what the hardware has counted. -/
def execResyncPassDone (dirtyBytes : Nat) (s : State) : Result :=
  .next (
    let p := s.wsw.resyncPass
    if s.role ≠ roleAlone ∨ p = 0 ∨ 9 ≤ p then s
    else
      let s := s.sendLink (.resync 2 s.dev.stepNo)
      if dirtyBytes < 2 ^ 30 ∨ p = 8 then
        ({ s with wsw := { s.wsw with resyncPass := 9 } }).set F.WSW_RESYNC.PHASE 2
      else ({ s with wsw := { s.wsw with resyncPass := p + 1 } }).sendDirty)

/-- RESYNC_CUT: the CUT input of the resync; what its consumption sends stands with CONSUME_CUT. -/
def execResyncCut (s : State) : Result :=
  .next (
    if s.role = roleAlone ∧ s.wsw.resyncPass = 9 ∧ !s.wsw.inputs.any (fun r => r.input = .cut cutResync) then
      s.number s.sideB false 0 (.cut cutResync)
    else s)

/-- A joiner whose store does not hold the settings that it has taken from its partner commits them (R340, R546). -/
def State.joinStore (s : State) : State :=
  let held := match s.get F.STORE_STATUS.CURRENT with
    | 0 => settings0
    | c => (s.bank (c - 1)).content
  if held = s.pat.settings then s
  else if held.pattern = s.pat.settings.pattern then s.commit [.confirm]
  else match s.pat.settings.pattern with
    | some img => s.commit [.pattern img]
    | none => s.commit [.confirm]

/-- JOINER_IN_STEP: consumption trails the leader by less than 8 µs; the joiner registers its keys, reports in step, and tells of its own drive ports (R335, R340). -/
def execJoinerInStep (s : State) : Result :=
  .next (
    if s.role = roleJoining ∧ s.wsw.joinCut.isSome ∧ s.wsw.tickUs < s.dev.stepUs + 8 then
      let s := (((s.partnerIs 1).set F.WSW_RESYNC.PHASE 0).set F.WSW_RESYNC.PERMILLE 1000).setRole roleFollower
      let s := { s with wsw := { s.wsw with bothHalves := s.profile == 2, joining := false, joinCut := none } }
      let s := (s.raise 0x208).sendLink (.resync 4 s.dev.stepNo)
      let s := s.registerKeys.joinStore.observe (.mgmt (.holdup (s.flag F.PWR_PINS.HOLDUP_OK)))
      let s := s.observe (.mgmt (.pwrfail (s.flag F.PWR_PINS.PWRFAIL)))
      (List.range 48).foldl (fun (s : State) (n : Nat) =>
        if s.get F.DP_STATUS.STATE n = dpReady ∧ !(s.port n).ownReady then
          s.observe (.driveEvent n (.ready (s.outstanding n) (s.get F.DP_QUEUE.MQES n)))
        else s) s
    else s)

/-! ## Digests (R332) -/

/-- The pair declares the follower diverged. -/
def State.diverged (s : State) : State :=
  let now := s.dev.timeNs
  let day := 86400 * 1000000000
  let ds := (s.wsw.divergences.filter (fun t => decide (now < t + day))) ++ [now]
  let s := ((s.bump F.WSW_DIGEST_MISMATCH.COUNT).raise 0x206)
  let s := { s with
    wsw := { s.wsw with divergences := ds, ownDigests := [], peerDigests := [] }
    nvm := { s.nvm with divergences := s.nvm.divergences + 1 } }
  if s.role = roleLeader then (s.serveAlone).partnerIs (if 3 ≤ ds.length then 0 else 2)
  else if s.role = roleFollower then (if 3 ≤ ds.length then s.detach else s.join)
  else s

/-- Compares the digests that both controllers have for a step. -/
def State.compareDigests (s : State) : State :=
  match s.wsw.ownDigests.find? (fun d => s.wsw.peerDigests.any (fun p => p.1 == d.1)) with
  | none => s
  | some d =>
    if s.wsw.peerDigests.contains d then
      { s with wsw := { s.wsw with
        ownDigests := s.wsw.ownDigests.filter (fun x => x.1 != d.1), peerDigests := s.wsw.peerDigests.filter (fun x => x.1 != d.1) } }
    else s.diverged

/-- DIGEST_RX. -/
def execDigestRx (fr : LinkFrame) (s : State) : Result :=
  .next (match fr.body with
  | .digest step v => s.onFrame fr (fun s =>
      if s.inPair then ({ s with wsw := { s.wsw with peerDigests := s.wsw.peerDigests ++ [(step, v)] } }).compareDigests else s)
  | _ => s)

/-- A controller in step sends its digest at a TICK whose step time is a multiple of 64 (R332). -/
def State.digestSend (s : State) : State :=
  if s.inPair ∧ s.dev.stepUs % 64 = 0 then
    let v := s.wsw.settled
    let n := s.dev.stepNo
    let s := (s.set F.WSW_DIGEST.VALUE v).set F.WSW_DIGEST_STEP.VALUE n
    ((({ s with wsw := { s.wsw with ownDigests := s.wsw.ownDigests ++ [(n, v)] } }).sendLink (.digest n v))).compareDigests
  else s

/-! ## Requests of service software (R343, WSW_CTL) -/

/-- A leader numbers the CUT of a handover (R343). -/
def State.askHandover (s : State) : State :=
  if s.role = roleLeader ∧ s.numbers then
    let s := s.number s.sideB false 0 (.cut cutHandover)
    { s with wsw := { s.wsw with handover := true } }
  else s

/-- WSW_HANDOVER: the leader turns the request into a CUT and numbers nothing after it. -/
def execWswHandover (src : Src) (s : State) : Result :=
  .next (s.busWrite src (F.WSW_CTL.HANDOVER.at 0 0) State.askHandover)

def execWswDetach (src : Src) (s : State) : Result :=
  .next (s.busWrite src (F.WSW_CTL.DETACH.at 0 0) (fun s => if s.role = roleDetached then s else s.detach))

def execWswResync (src : Src) (s : State) : Result :=
  .next (s.busWrite src (F.WSW_CTL.RESYNC.at 0 0) (fun s => if s.role = roleDetached then s.join else s))

end Sys2Proof.Machine
end

