-- ==== Sys2Proof/Machine/MemRows.lean ====
section
/-!
DEFINITION. Machine/MemRows.lean: memory integrity: the ECC log (R487), the Cruiser (R491, R492), poisoned step state and its repair (R486), retirement (R488, R489), injection (R493).
-/
namespace Sys2Proof.Machine

/-! ## The ECC log (R487) -/

def logLimit : Nat := 4096

/-- The log with its HEAD and COUNT. -/
def State.setLog (s : State) (l : List EccRec) : State :=
  ({ s with mi := { s.mi with log := l } }).set F.MEM_LOG_STATUS.COUNT l.length

/-- A new record of the log: LOG_HIGH when it comes to 3,584. -/
def State.pushLog (s : State) (r : EccRec) : State :=
  let s := s.setLog (s.mi.log ++ [r])
  if s.mi.log.length = 3584 then s.raise 0x3C5 else s

/-- An occurrence is logged: merged within 1 s, or a new record; a full log drops correctable records, and gives up its oldest correctable record for another. -/
def State.logEcc (s : State) (r : EccRec) : State :=
  let same (x : EccRec) : Bool := x.addr == r.addr && x.kind == r.kind && decide (r.time < x.time + 1000000000)
  if s.mi.log.any same then
    s.setLog (s.mi.log.map (fun (x : EccRec) => if same x then { x with count := min 4294967295 (x.count + 1) } else x))
  else if s.mi.log.length < logLimit then s.pushLog r
  else if r.kind = 1 then s.bump F.MEM_LOG_DROP.COUNT
  else match s.mi.log.findIdx? (fun x => x.kind == 1) with
    | some i => s.setLog (s.mi.log.set i r)
    | none => s.setFlag F.MEM_LOG_STATUS.OVERFLOW true

/-- MEM_LOG_RELEASE: the oldest records go. -/
def execMemLogRelease (src : Src) (n : Nat) (s : State) : Result :=
  .next (s.busWrite src (F.MEM_LOG_RELEASE.N.at 0 0) (fun s =>
    let k := min (n % 8192) s.mi.log.length
    (s.set F.MEM_LOG_STATUS.HEAD ((s.get F.MEM_LOG_STATUS.HEAD + k) % 4096)).setLog (s.mi.log.drop k)))

/-! ## Poisoned step state (R486) -/

/-- The island of a memory word: HBM stacks, Yard halves, engine clusters. -/
def memIsland (a : Nat) : Nat :=
  if a < 0x6_0000_0000 then 18
  else if a < 0xC_0000_0000 then 19
  else if a < 0x10_0800_0000 then (if (a - 0x10_0000_0000) / 4096 < 16384 then 5 else 6)
  else if a < 0x10_1040_0000 then (if a < 0x10_1020_0000 then 5 else 6)
  else (a - 0x30_0000_0000) / 0x4_0000 / 8 % 4

/-- MEMORY of a record. -/
def memCode (a : Nat) : Nat := if a < 0x6_0000_0000 then 0 else if a < 0xC_0000_0000 then 1 else if a < 0x10_1040_0000 then 2 else 5

/-- Step state that no other controller has in good order: the fatal event, treated as the island fault of R28, with its CAUSE (DEDUCED, log entry on the cause of a poisoned island). -/
def State.noGoodCopy (s : State) (a : Nat) : State :=
  ((s.raise 0x3C4).bridgeFault (memIsland a) 1).fatal (memIsland a)

/-- Staged versions in a poisoned granule of a controller that serves alone are lost: they are destaged as the lost marker, with cause 3. -/
def State.poisonStaging (s : State) (blocks : List (Nat × Nat × Nat)) : State :=
  let s := { s with cht := { s.cht with staging := s.cht.staging.map (fun (v : Ver) =>
    if blocks.contains (v.sub, v.nsid, v.lba) then { v with poisoned := true } else v) } }
  s.raise 0x1A9

/-- Step state is found poisoned at an address. -/
def State.stepPoison (s : State) (a : Nat) (owner : MemUse) : State :=
  if owner = .localState then s
  else if s.role = roleLeader then
    if s.mi.repair.contains (a / 4096) then s
    else ({ s with mi := { s.mi with repair := s.mi.repair ++ [a / 4096] } }).emit (.repairRequest (a / 4096) s.dev.stepNo)
  else if s.role = roleFollower then s.diverged
  else match owner with
    | .staging blocks => s.poisonStaging blocks
    | _ => s.noGoodCopy a

/-- A consumer of R485 has met poison. -/
def State.poisonMet (s : State) : State := (s.bump F.MEM_POISON_READ.COUNT).raiseLimited 0x3C2

/-- REPAIR_GRANULE_RX: the leader installs the follower's copy. -/
def execRepairGranuleRx (granule : Nat) (bytes : List Byte) (poisoned : Bool) (s : State) : Result :=
  .next (
    if s.mi.repair.contains granule then
      let s := { s with mi := { s.mi with repair := s.mi.repair.erase granule } }
      if poisoned then s.noGoodCopy (4096 * granule)
      else ((s.store (4096 * granule) ((bytes ++ zeroBytes 4096).take 4096)).bump F.MEM_REPAIR.COUNT).raise 0x3C3
    else s)

/-- The follower sends a granule as it stands. -/
def State.sendRepair (s : State) (granule : Nat) : State :=
  s.emit (.repairGranule granule (s.memRead (4096 * granule) 4096) (s.poisonIn (4096 * granule) 4096))

/-- Requests whose step has been consumed are answered. -/
def State.serveRepairs (s : State) : State :=
  let due := s.mi.repairWaits.filter (fun r => decide (r.2 ≤ s.dev.stepNo))
  let s := { s with mi := { s.mi with repairWaits := s.mi.repairWaits.filter (fun r => !decide (r.2 ≤ s.dev.stepNo)) } }
  due.foldl (fun (s : State) (r : Nat × Nat) => s.sendRepair r.1) s

/-- REPAIR_REQUEST_RX: the granule is captured once the step named has been consumed. -/
def execRepairRequestRx (granule step : Nat) (s : State) : Result :=
  .next (
    if s.role = roleFollower then { s with mi := { s.mi with repairWaits := s.mi.repairWaits ++ [(granule, step)] } }.serveRepairs
    else s)

/-! ## The Cruiser (R492) -/

/-- A word of engine scratch of a gated cluster. -/
def State.scratchGated (s : State) (a : Nat) : Bool := decide (0x30_0000_0000 ≤ a) && s.dev.gated.contains ((a - 0x30_0000_0000) / 0x20_0000)

/-- The next SRAM word: Yard data, Yard side data, then the scratch of the clusters; none at the end of a pass. -/
def sramNext (a : Nat) : Option Nat :=
  let n := a + 8
  if n = 0x10_0800_0000 then some 0x10_1000_0000
  else if n = 0x10_1040_0000 then some 0x30_0000_0000
  else if 0x30_0000_0000 + 32 * 0x4_0000 ≤ n then none else some n

/-- Skips the scratch of gated clusters from an address on. -/
def State.skipGated (s : State) : Nat → Nat → Option Nat
  | 0, a => some a
  | n + 1, a =>
    if s.scratchGated a then
      let c := (a - 0x30_0000_0000) / 0x20_0000
      if c < 3 then State.skipGated s n (0x30_0000_0000 + (c + 1) * 0x20_0000) else none
    else some a

/-- The Cruiser's position moves on; the end of a pass raises its event. -/
def State.cruiseOn (s : State) (sram : Bool) (a : Nat) : State :=
  if sram then
    match (sramNext a).bind (s.skipGated 4) with
    | some n => s.set F.CRS_POS_SRAM.ADDRESS n
    | none => (s.set F.CRS_POS_SRAM.ADDRESS 0x10_0000_0000).raise 0x3C9
  else if a + 8 = 0xC_0000_0000 then (s.set F.CRS_POS_HBM.ADDRESS 0).raise 0x3C8
  else s.set F.CRS_POS_HBM.ADDRESS (a + 8)

/-- The word that the Cruiser reads next. -/
def State.cruiseAt (s : State) (sram : Bool) : Nat :=
  if sram then max 0x10_0000_0000 (s.get F.CRS_POS_SRAM.ADDRESS) else s.get F.CRS_POS_HBM.ADDRESS

/-- What stands in the word: poison and what an injection has left; otherwise what the Cruiser finds. -/
def State.wordFinding (s : State) (a : Nat) (found : EccFinding) : EccFinding :=
  match s.mi.marks.find? (fun m => m.1 == a / 8) with
  | some (_, 1) => match found with
    | .corrected b y w => .corrected b y w
    | _ => .corrected (s.free.toNat % 72) (s.free.toNat / 72 % 256) false
  | some _ => match found with
    | .uncorrectable y => .uncorrectable y
    | _ => .uncorrectable (s.free.toNat % 255)
  | none => if s.poisoned a then .poison else found

/-- A page's corrected errors within 24 h: PAGE_WEAK when they come to WEAK_CE. -/
def State.pageWeak (s : State) (a : Nat) : State :=
  if 0xC_0000_0000 ≤ a then s
  else
    let now := s.dev.timeNs
    let old := (sparseGet [] (a / 4096) s.mi.weak).filter (fun t => decide (now < t + 86400 * 1000000000))
    let s := { s with mi := { s.mi with weak := sparsePut [] (a / 4096) (old ++ [now]) s.mi.weak } }
    if old.length + 1 = s.cfg 0x00D0 0 12 1 8 then s.raise 0x3CB else s

/-- A finding at an address, logged and acted on. -/
def State.finding (s : State) (a : Nat) (f : EccFinding) (owner : MemUse) : State :=
  let rec0 : EccRec := { time := s.dev.timeNs, addr := a, memory := memCode a, kind := 1, source := 2, syndrome := 0, bit := 0xFF, island := memIsland a, count := 1 }
  match f with
  | .clean => s
  | .corrected b y lineWritten =>
    let s := ((s.bump F.MEM_CE.COUNT).logEcc { rec0 with syndrome := y, bit := b }).raiseLimited 0x3C0
    let s := if lineWritten then s
      else ({ s with mi := { s.mi with marks := s.mi.marks.filter (fun m => m.1 != a / 8) } }).bump F.CRS_CORRECTED.COUNT
    s.pageWeak a
  | .uncorrectable y =>
    let s := ((s.bump F.MEM_UE.COUNT).logEcc { rec0 with kind := 2, syndrome := y }).raise 0x3C1
    let s := { s with mi := { s.mi with marks := s.mi.marks.filter (fun m => m.1 != a / 8) } }
    (s.setPoison a).stepPoison a owner
  | .poison => ((s.logEcc { rec0 with kind := 3, syndrome := 0xFF }).setPoison a).stepPoison a owner

/-- CRUISER_READ: the next word of HBM, unless HBM is in self-refresh, or of the SRAMs. -/
def execCruiserRead (sram : Bool) (found : EccFinding) (owner : MemUse) (s : State) : Result :=
  .next (
    if !sram ∧ s.power = stFallow then s
    else
      let a := s.cruiseAt sram
      if sram ∧ s.scratchGated a then s.cruiseOn true a
      else (((s.finding a (s.wordFinding a found) owner).drawn).cruiseOn sram a))

/-! ## Retirement (R488, R489) -/

/-- Pages and banks of one HBM stack, and its spare pages. -/
def stackPages : Nat := 6291456
def stackBanks : Nat := 1536
def stackSpare : Nat := 65536

/-- The HBM stack of a unit; none for a Yard buffer. -/
def RetEntry.stack (e : RetEntry) : Option Nat :=
  if e.kind = 0 then some (e.index / stackPages) else if e.kind = 1 then some (e.index / stackBanks) else none

/-- Spare pages that a unit takes. -/
def RetEntry.pages (e : RetEntry) : Nat := if e.kind = 0 then 1 else if e.kind = 1 then 4096 else 0

/-- Spare pages of a stack in use. -/
def State.spareUsed (s : State) (stack : Nat) : Nat := ((s.mi.applied.filter (fun e => e.stack == some stack)).map RetEntry.pages).sum

/-- Spare pages free in both stacks. -/
def State.spareFree (s : State) : Nat := (stackSpare - s.spareUsed 0) + (stackSpare - s.spareUsed 1)

/-- The unit, or for a page its bank, is retired or is being retired. -/
def State.isRetired (s : State) (e : RetEntry) : Bool :=
  (s.mi.applied ++ s.mi.retiring.toList).any (fun r => r == e || (e.kind == 0 && r.kind == 1 && r.index == e.index / 4096))

def RetEntry.inRange (e : RetEntry) : Bool :=
  if e.kind = 0 then decide (e.index < 2 * stackPages)
  else if e.kind = 1 then decide (e.index < 2 * stackBanks)
  else e.kind == 2 && decide (e.index < 32768)

/-- The RESULT that refuses a request, in the order of R489; the 256 Yard buffers count as a reserve. -/
def State.retireRefusal (s : State) (e : RetEntry) : Option Nat :=
  let full (stack : Nat) : Bool := decide (stackSpare < s.spareUsed stack + e.pages)
  if 16384 ≤ s.mi.applied.length then some 2
  else if e.stack.any (fun k => decide (k < 2) && full k) ∨ (e.kind = 2 ∧ 256 ≤ (s.mi.applied.filter (fun r => r.kind == 2)).length) then some 3
  else if s.isRetired e then some 4
  else if !e.inRange then some 5 else none

/-- MEM_RETIRE: a request is refused at once, or its copy to spare space begins; one that comes while another runs is not taken. -/
def execMemRetire (src : Src) (kind index : Nat) (s : State) : Result :=
  .next (s.busWrite src (F.MEM_RETIRE.KIND.at 0 0) (fun s =>
    let e : RetEntry := ⟨kind % 4, index % 2 ^ 32⟩
    if s.mi.retiring.isSome then s
    else match s.retireRefusal e with
      | some code => (s.set F.MEM_RETIRE_STATUS.RESULT code).raise 0x3C6
      | none => (({ s with mi := { s.mi with retiring := some e } }).setFlag F.MEM_RETIRE_STATUS.BUSY true).set F.MEM_RETIRE_STATUS.RESULT 0))

/-- The memory words of a unit. -/
def RetEntry.holds (e : RetEntry) (w : Nat) : Bool :=
  if e.kind = 0 then w / 512 == e.index
  else if e.kind = 1 then w / 2097152 == e.index
  else w / 512 == 0x10_0000_0000 / 4096 + e.index

/-- A word of the unit that the copy finds in error: a corrected word is good in its copy, an uncorrectable one is poison there (R488). -/
def State.copyWord (s : State) (m : Nat × Nat) : State :=
  let a := 8 * m.1
  let r : EccRec := { time := s.dev.timeNs, addr := a, memory := memCode a, kind := 1, source := 1, syndrome := 0, bit := 0xFF, island := memIsland a, count := 1 }
  if m.2 = 1 then
    ((s.drawn.bump F.MEM_CE.COUNT).logEcc { r with syndrome := s.free.toNat / 72 % 256, bit := s.free.toNat % 72 }).raiseLimited 0x3C0
  else (((s.drawn.bump F.MEM_UE.COUNT).logEcc { r with kind := 2, syndrome := s.free.toNat % 255 }).raise 0x3C1).setPoison a

/-- The unit has been copied: no word of it is in error any more, but for poison. -/
def State.copied (s : State) (e : RetEntry) : State :=
  let s := (s.mi.marks.filter (fun m => e.holds m.1)).foldl State.copyWord s
  { s with mi := { s.mi with marks := s.mi.marks.filter (fun m => !e.holds m.1) } }

/-- RETIRE_COMPLETE: later accesses go to the spare, and the list is committed. -/
def execRetireComplete (s : State) : Result :=
  .next (
    match s.mi.retiring with
    | none => s
    | some e =>
      let free (s : State) : Nat := (e.stack.map (fun k => stackSpare - s.spareUsed k)).getD stackSpare
      let before := free s
      let s := s.copied e
      let s := { s with mi := { s.mi with retiring := none, applied := s.mi.applied ++ [e] } }
      let s := (s.setFlag F.MEM_RETIRE_STATUS.BUSY false).set F.MEM_RETIRE_STATUS.RESULT 1
      let s := if 8192 ≤ before ∧ free s < 8192 then s.raise 0x3C7 else s
      (s.raise 0x3C6).commit [.retire e])

/-! ## Injection (R493) -/

/-- MEM_INJECT: arms an error for the next write to one word of HBM, or of the Yard by its offset there; kind 0 disarms. -/
def execMemInject (src : Src) (kind : Nat) (yard : Bool) (addr : Nat) (s : State) : Result :=
  .next (s.busWrite src (F.MEM_INJECT.KIND.at 0 0) (fun s =>
    let a := addr % 2 ^ 40 / 8 * 8
    let w := (if yard then 0x10_0000_0000 + a % 0x10_0000_0000 else a) / 8
    { s with mi := { s.mi with inject := if kind % 4 = 0 then none else some (kind % 4, w) } }))

end Sys2Proof.Machine
end

