-- ==== Sys2Proof/Machine/Dma.lean ====
section
/-!
DEFINITION. Machine/Dma.lean: the engines' DMA channels (R465, R470, R473 to R475, R485) (15_engines_events.md).
-/
namespace Sys2Proof.Machine

/-- A descriptor of 32 bytes (R473). -/
def dmaDesc (b : List Byte) : DmaDesc :=
  { src := leAt b 0 8, dst := leAt b 8 8, len := leAt b 16 4, srcAsid := leAt b 20 2, dstAsid := leAt b 22 2, notify := bitOf (leAt b 24 1) 0,
    queue := leAt b 25 1, rsvdSet := leAt b 24 1 / 2 != 0 || !allZero (sliceOf b 26 6) }

/-- The address is physical. -/
def physAsid : Nat := 0xFFFF

/-- A descriptor that ends with BAD_DESC: reserved bits, LENGTH or QUEUE outside its range, or what an engine in U mode may not name. -/
def State.dmaBad (s : State) (engine : Nat) (mode : Mode) (d : DmaDesc) : Bool :=
  let base := s.cfg 0x00B0 (clusterOf engine) 12 2 0
  let count := s.cfg 0x00B0 (clusterOf engine) 14 2 0
  let own (a : Nat) : Bool := s.flag F.ENG_STATUS.TENANT engine && decide (base ≤ a) && decide (a < base + count)
  d.rsvdSet || decide (16777216 < d.len) || (d.notify && (decide (d.queue < 2) || decide (64 ≤ d.queue)))
    || (mode == .u && (!own d.srcAsid || !own d.dstAsid))

/-- Number of a channel. -/
def chanKey (engine chan : Nat) : Nat := engine * 2 + chan

/-- States of R475. -/
def chIdle : Nat := 0
def chRunning : Nat := 1
def chPaused : Nat := 2

def State.chan? (s : State) (engine chan : Nat) : Option Chan := (s.eng.chans.find? (fun c => c.1 == chanKey engine chan)).map (·.2)

def State.setChan (s : State) (engine chan : Nat) (c : Chan) : State :=
  let s := { s with eng := { s.eng with chans := sparseInsert (chanKey engine chan) c s.eng.chans } }
  s.set F.DMA_DONE.VALUE c.done engine chan

/-- A transfer ends: its status, the completion that NOTIFY asks for, whose entry the spec leaves open, and DMA_ERROR for a status other than OK and POISON. -/
def State.dmaEnd (s : State) (engine chan status : Nat) : State :=
  let c := s.chan? engine chan
  let s := { s with eng := { s.eng with chans := s.eng.chans.filter (fun x => x.1 != chanKey engine chan) } }
  let s := (s.set F.DMA_STATUS.STATE chIdle engine chan).set F.DMA_STATUS.LAST status engine chan
  let s := match c with
    | some c => bif c.desc.notify && status != 3 then (s.drawn.push (clusterOf engine) c.desc.queue s.free).1 else s
    | none => s
  if status < 2 then s else s.raise (0x400 + 4 * engine + 2)

/-- Bytes of the next span: it ends at every 4 KiB boundary of SRC or DST (R474). -/
def Chan.span (c : Chan) : Nat :=
  min (c.desc.len - c.done) (min (4096 - (c.desc.src + c.done) % 4096) (4096 - (c.desc.dst + c.done) % 4096))

/-- The bytes at a source: those of memory, or open ones where it is register space. -/
def State.dmaRead (s : State) (a n : Nat) : List Byte :=
  if isRegSpace a then (List.range n).map (fun i => (Config.freeValue (s.freeCtr + i)).setWidth 8) else s.memRead a n

/-- One span is moved: poisoned words of the source are poison at the destination (R474, R485). A register that the destination names is written by a row of its own. -/
def State.dmaCopy (s : State) (src dst n : Nat) : State :=
  let bad := (List.range n).filter (fun i => !isRegSpace src && s.poisoned (src + i))
  let s := if isRegSpace dst then s else s.store dst (s.dmaRead src n)
  let s := if isRegSpace src then { s with freeCtr := s.freeCtr + n } else s
  let s := if bad.isEmpty then s else s.poisonMet
  if isRegSpace dst then s else bad.foldl (fun (s : State) (i : Nat) => s.setPoison (dst + i)) s

/-- Both ends of a span lie in the physical map (R465). -/
def dmaMapped (a n : Nat) : Bool := memSpan a n || (isRegSpace a && isRegSpace (a + n - 1))

/-- What becomes of one span: none when the channel goes on with the next, or the channel has stopped. A physical end needs no translation. -/
def State.dmaSpan (s : State) (engine chan : Nat) (c : Chan) (x : SpanXl) : State × Option Chan :=
  let phys := c.desc.srcAsid == physAsid && c.desc.dstAsid == physAsid
  match x, phys with
  | .fault va, false =>
    let s := ((s.setChan engine chan c).set F.DMA_STATUS.STATE chPaused engine chan).set F.DMA_FAULT_VA.VALUE va engine chan
    ((s.bump F.XLT_FAULTS.COUNT).raise (0x400 + 4 * engine + 1), none)
  | x, _ =>
    let pa : Nat × Nat := match x with
      | .ok a b => (a, b)
      | .fault _ => (0, 0)
    let n := c.span
    let src := if c.desc.srcAsid = physAsid then c.desc.src + c.done else pa.1
    let dst := if c.desc.dstAsid = physAsid then c.desc.dst + c.done else pa.2
    if !dmaMapped src n || !dmaMapped dst n then ((s.setChan engine chan c).dmaEnd engine chan 2, none)
    else
      let poison := c.poison || (List.range n).any (fun i => !isRegSpace src && s.poisoned (src + i))
      let c := { c with done := c.done + n, poison := poison }
      ((s.dmaCopy src dst n).setChan engine chan c, some c)

/-- Goes on with a transfer over the spans whose translations are given. The last span is left to DMA_COMPLETE unless `last`; it still pauses when it faults. -/
def State.dmaRun (engine chan : Nat) (last : Bool) : List SpanXl → Chan → State → State
  | [], _, s => s
  | x :: rest, c, s =>
    let faults := match x with
      | .fault _ => true
      | .ok _ _ => false
    if !last && !faults && decide (c.done + c.span = c.desc.len) then s
    else
      let (s, r) := s.dmaSpan engine chan c x
      match r with
      | none => s
      | some c => if c.done = c.desc.len then s.dmaEnd engine chan (if c.poison then 1 else 0) else State.dmaRun engine chan last rest c s

/-- DMA_START: DMA_DESC is written with the address of a descriptor. -/
def execDmaStart (src : Src) (engine chan : Nat) (mode : Mode) (addr : Nat) (spans : List SpanXl) (s : State) : Result :=
  .next (
    if 32 ≤ engine ∨ 2 ≤ chan then s
    else s.busWrite src (F.DMA_DESC.ADDR.at engine chan) (fun s =>
      if s.get F.DMA_STATUS.STATE engine chan ≠ chIdle then s.bump F.DMA_REFUSED.COUNT engine chan
      else
        let d := dmaDesc (s.memRead addr 32)
        let c : Chan := ⟨d, 0, false⟩
        if addr % 32 ≠ 0 ∨ s.dmaBad engine mode d then s.dmaEnd engine chan 3
        else if 0xC_0000_0000 ≤ addr then s.dmaEnd engine chan 2
        else
          let s := (s.setChan engine chan c).set F.DMA_STATUS.STATE chRunning engine chan
          if d.len = 0 then s.dmaEnd engine chan 0 else State.dmaRun engine chan false spans c s))

/-- DMA_RESUME: a paused transfer goes on at the faulting span. -/
def execDmaResume (src : Src) (engine chan : Nat) (spans : List SpanXl) (s : State) : Result :=
  .next (
    if 32 ≤ engine ∨ 2 ≤ chan then s
    else s.busWrite src (F.DMA_CTL.RESUME.at engine chan) (fun s =>
      match s.chan? engine chan with
      | some c =>
        if s.get F.DMA_STATUS.STATE engine chan = chPaused then State.dmaRun engine chan false spans c (s.set F.DMA_STATUS.STATE chRunning engine chan) else s
      | none => s))

/-- DMA_ABORT: a paused transfer ends with XLT_FAULT. -/
def execDmaAbort (src : Src) (engine chan : Nat) (s : State) : Result :=
  .next (
    if 32 ≤ engine ∨ 2 ≤ chan then s
    else s.busWrite src (F.DMA_CTL.ABORT.at engine chan) (fun s =>
      if s.get F.DMA_STATUS.STATE engine chan = chPaused then s.dmaEnd engine chan 2 else s))

/-- DMA_COMPLETE: a running channel moves its remaining spans, and ends with the last one. -/
def execDmaComplete (engine chan : Nat) (spans : List SpanXl) (s : State) : Result :=
  .next (
    match s.chan? engine chan with
    | some c => if s.get F.DMA_STATUS.STATE engine chan = chRunning then State.dmaRun engine chan true spans c s else s
    | none => s)

/-- Channels of gated clusters end with status GATED before the gate closes (R475). -/
def State.endChannels (s : State) (clusters : List Nat) : State :=
  (s.eng.chans.filter (fun c => clusters.contains (clusterOf (c.1 / 2)))).foldl
    (fun (s : State) (c : Nat × Chan) => s.dmaEnd (c.1 / 2) (c.1 % 2) 4) s

end Sys2Proof.Machine
end

