-- ==== Sys2Proof/Machine/Ports.lean ====
section
/-!
DEFINITION. Machine/Ports.lean: host ports: received frames and the Landing's lookup (R350 to R364), pause and PFC (R354 to R358), links (R349), precision time (R368 to R371)
(10_ports_landing.md).
-/
namespace Sys2Proof.Machine

/-! ## Reading a frame -/

/-- Offset of the EtherType: an 802.1Q tag shifts it. -/
def etherOff (f : List Byte) : Nat := if beNat (sliceOf f 12 2) = 0x8100 then 16 else 12

def etherType (f : List Byte) : Nat := beNat (sliceOf f (etherOff f) 2)

/-- Length of the L2 header. -/
def l2Len (f : List Byte) : Nat := etherOff f + 2

/-- What the lookup reads of an IP datagram: addresses, DSCP, the IP length field, protocol, ports or ICMP type. -/
structure IpInfo where
  dst : IpAddr
  src : IpAddr
  dscp : Nat
  lenField : Nat
  proto : Nat
  sport : Nat
  dport : Nat
  icmp : Nat
  deriving DecidableEq, Repr

/-- Steps over IPv6 extension headers: protocol and offset of what follows them. -/
def skipExt (f : List Byte) : Nat → Nat → Nat → Nat × Nat
  | 0, next, o => (next, o)
  | fuel + 1, next, o =>
    if next = 0 ∨ next = 43 ∨ next = 60 then skipExt f fuel (leAt f o 1) (o + 8 * (leAt f (o + 1) 1 + 1))
    else if next = 44 then skipExt f fuel (leAt f o 1) (o + 8)
    else (next, o)

/-- The IP datagram of a frame. -/
def ipInfo (f : List Byte) : Option IpInfo :=
  let o := l2Len f
  if etherType f = 0x0800 then
    let t := o + 4 * (leAt f o 1 % 16)
    some ⟨⟨false, beNat (sliceOf f (o + 16) 4)⟩, ⟨false, beNat (sliceOf f (o + 12) 4)⟩, leAt f (o + 1) 1 / 4,
      beNat (sliceOf f (o + 2) 2), leAt f (o + 9) 1, beNat (sliceOf f t 2), beNat (sliceOf f (t + 2) 2), leAt f t 1⟩
  else if etherType f = 0x86DD then
    let (p, t) := skipExt f 8 (leAt f (o + 6) 1) (o + 40)
    some ⟨⟨true, beNat (sliceOf f (o + 24) 16)⟩, ⟨true, beNat (sliceOf f (o + 8) 16)⟩, beNat (sliceOf f o 2) / 64 % 64,
      beNat (sliceOf f (o + 4) 2), p, beNat (sliceOf f t 2), beNat (sliceOf f (t + 2) 2), leAt f t 1⟩
  else none

/-! ## Addresses (R351, R352, R361) -/

/-- MAC address of a logical port (R351). -/
def State.lportMac (s : State) (lport : Nat) : Nat := s.dev.fuseMac + lport

/-- An IP address of the address table, whichever controller or logical port it belongs to. -/
def State.inTable (s : State) (a : IpAddr) : Bool := s.fx.addrTable.any (fun e => e.2 == some a)

/-- The logical port accepts frames to this MAC address (R352). -/
def State.acceptsMac (s : State) (lport mac : Nat) : Bool :=
  mac == s.lportMac lport || mac == 0xFFFFFFFFFFFF || mac == 0x0180C200000E || mac == 0x011B19000000 || mac == 0x333300000001
  || (mac / 2 ^ 24 == 0x3333FF && s.fx.addrTable.any (fun e => match e.2 with
      | some a => a.v6 && a.addr % 2 ^ 24 == mac % 2 ^ 24
      | none => false))

/-! ## Lookup (R360) -/

/-- Where a frame goes: to the Flume unit, to the cluster of a role, or nowhere. -/
inductive LandDest where
  | flume (cls : Nat)
  | time
  | control
  | discard
  deriving DecidableEq, Repr

/-- A segment of an existing NVMe/TCP connection. -/
def State.knownConn (s : State) (i : IpInfo) : Bool :=
  s.nvm.tcp.any (fun c => c.ip == i.src && c.port == i.sport && c.localIp == i.dst)

def State.lookup (s : State) (lport : Nat) (f : List Byte) : LandDest :=
  let e := etherType f
  match ipInfo f with
  | some i =>
    let here := s.inTable i.dst
    if here && i.proto == 17 && i.dport == s.udpPort then .flume (s.dscpClass lport i.dscp)
    else if here && i.proto == 6 && (i.dport == 4420 || i.dport == 8009 || s.knownConn i) then .flume (s.dscpClass lport i.dscp)
    else if here && i.proto == 17 && (i.dport == 319 || i.dport == 320) then .time
    else if i.proto == 1 && !i.dst.v6 && i.icmp == 8 then .control
    else if i.proto == 58 && i.dst.v6 && (i.icmp == 128 || (decide (133 ≤ i.icmp) && decide (i.icmp ≤ 137))) then .control
    else .discard
  | none => if e = 0x88F7 then .time else if e = 0x0806 ∨ e = 0x88CC then .control else .discard

/-- Class of a destination (R360). -/
def LandDest.cls : LandDest → Nat
  | .flume c => c
  | _ => 6

/-- The cluster that the engine roles record names: bit 1 TIME, bit 2 CONTROL (R466). -/
def State.roleCluster (s : State) (bit : Nat) : Nat := ((List.range 4).find? (fun c => bitOf (s.cfg 0x00B0 c 4 1 0) bit)).getD 0

/-! ## PFC (R358) -/

/-- The limit of R209 on the shared buffers of a station and class. -/
def State.sharedLimit (s : State) (st cls : Nat) : Nat :=
  let a := s.yardAlpha st cls
  if 0 ≤ a then s.sharedFree * 2 ^ a.toNat else s.sharedFree / 2 ^ (-a).toNat

/-- Class n comes within 64 of its limit at the port's station. -/
def State.xoffDue (s : State) (lport cls : Nat) : Bool :=
  decide (s.sharedLimit (lport / 8) cls ≤ s.heldBy .shared (lport / 8) cls + 64)

/-- The class holds 128 or more buffers fewer than its limit. -/
def State.xonDue (s : State) (lport cls : Nat) : Bool :=
  decide (s.heldBy .shared (lport / 8) cls + 128 ≤ s.sharedLimit (lport / 8) cls)

/-- The MAC sends PFC for a class. -/
def State.sendPfc (s : State) (lport cls quanta : Nat) : State :=
  if s.wsw.stopped then s else (s.emit (.pfc lport cls quanta)).bump F.HP_PFC_TX.COUNT (lport / 8) (lport % 8)

/-- PFC begins or ends for a class of a logical port, as its buffers stand. -/
def State.pfcClass (s : State) (lport cls : Nat) : State :=
  let x := s.lportSt lport
  let on := x.xoff.any (fun c => c.1 == cls)
  if !on && s.xoffDue lport cls then
    ((s.setLportSt lport { x with xoff := x.xoff ++ [(cls, s.dev.timeNs)] }).sendPfc lport cls 0xFFFF).raise
      (0x40 + 32 * (lport / 8) + 0x12)
  else if on && s.xonDue lport cls then
    (s.setLportSt lport { x with xoff := x.xoff.filter (fun c => c.1 != cls) }).sendPfc lport cls 0
  else s

/-- Every class for which a logical port of the host port sends PFC. -/
def State.pfcCheck (s : State) (p : Nat) : State :=
  (List.range 8).foldl (fun (s : State) (q : Nat) =>
    let l := 8 * p + q
    if s.lportUp l then
      (List.range 7).foldl (fun (s : State) (c : Nat) =>
        if bitOf (s.get F.HP_LP_CTL.PFC_TX p q) c then s.pfcClass l c else s) s
    else s) s

/-- PFC_REPEAT: each half pause time while the condition lasts. -/
def execPfcRepeat (lport cls : Nat) (s : State) : Result :=
  .next (
    let x := s.lportSt lport
    match x.xoff.find? (fun c => c.1 == cls) with
    | none => s
    | some (_, t) =>
      let half := 65535 * 512 * 1000000000 / (2 * max 1 (s.lportRate lport))
      if s.dev.timeNs < t + half then s
      else if s.xonDue lport cls then s.pfcClass lport cls
      else (s.setLportSt lport { x with xoff := x.xoff.map (fun (c : Nat × Nat) => if c.1 = cls then (cls, s.dev.timeNs) else c) }).sendPfc
        lport cls 0xFFFF)

/-! ## Pause (R354 to R357) -/

/-- A class's pause ends now, or at its end when that has passed; the span counts for the watchdog. -/
def PauseSt.stop (p : PauseSt) (now : Nat) : PauseSt :=
  if p.untilNs = 0 then p
  else { p with untilNs := 0, sinceNs := 0, spans := p.spans ++ [(p.sinceNs, min now p.untilNs)] }

/-- Time in ns for which the class has been stopped in the trailing 1 s. -/
def PauseSt.trailing (p : PauseSt) (now : Nat) : Nat :=
  let from_ := now - 1000000000
  let all := p.spans ++ (if p.untilNs = 0 then [] else [(p.sinceNs, min now p.untilNs)])
  (all.map (fun (x : Nat × Nat) => x.2 - max from_ x.1)).sum

/-- An obeyed pause of a class: it replaces what remains; quanta 0 ends it (R356). -/
def State.pauseClass (s : State) (lport cls quanta : Nat) : State :=
  let s := s.accrue lport
  let now := s.dev.timeNs
  let p := ((s.lportSt lport).cls cls).stop now
  let p := { p with spans := p.spans.filter (fun x => decide (now < x.2 + 1000000000)) }
  let ns := quanta * 512 * 1000000000 / max 1 (s.lportRate lport)
  let p := if ns = 0 then p else { p with untilNs := now + ns, sinceNs := now }
  s.setLportSt lport ((s.lportSt lport).setCls cls p)

/-- A PAUSE or PFC frame: the classes it names, each with its quanta (R354, R355), obeyed but where a watchdog has tripped (R357). -/
def State.pauseFrame (s : State) (lport : Nat) (pfc : Bool) (enable : Nat) (quanta : List Nat) : State :=
  let p := lport / 8
  let q := lport % 8
  let s := s.bump F.HP_PAUSE_RX.COUNT p q
  if !s.flag F.HP_LP_CTL.OBEY p q then s
  else
    let urgent := s.flag F.HP_LP_CTL.OBEY_URGENT p q
    let named := (List.range 8).filter (fun c => (!pfc || bitOf enable c) && (c != 7 || urgent))
    let tripped := named.filter (fun c => ((s.lportSt lport).cls c).trippedNs.isSome)
    let s := if tripped.isEmpty then s else s.bump F.HP_PAUSE_IGNORED.COUNT p q
    (named.filter (fun c => !tripped.contains c)).foldl (fun (s : State) (c : Nat) =>
      s.pauseClass lport c ((quanta[if pfc then c else 0]?).getD 0 % 65536)) s

/-- PAUSE_FRAME_RX: one with a wrong FCS is discarded. -/
def execPauseFrameRx (lport : Nat) (pfc : Bool) (enable : Nat) (quanta : List Nat) (fcsOk : Bool) (s : State) : Result :=
  .next (if lport < 32 ∧ fcsOk ∧ s.lportUp lport then s.pauseFrame lport pfc enable quanta else s)

def execPauseExpiry (lport cls : Nat) (s : State) : Result :=
  .next (
    let p := (s.lportSt lport).cls cls
    if p.untilNs ≠ 0 ∧ p.untilNs ≤ s.dev.timeNs then
      (s.accrue lport).setLportSt lport ((s.lportSt lport).setCls cls (p.stop s.dev.timeNs))
    else s)

/-- PAUSE_WATCHDOG_TRIP: 100 ms of obeyed pause in the trailing 1 s. -/
def execPauseWatchdogTrip (lport cls : Nat) (s : State) : Result :=
  .next (
    let p := (s.lportSt lport).cls cls
    if p.trippedNs.isNone ∧ 100000000 ≤ p.trailing s.dev.timeNs then
      let e := 0x40 + 32 * (lport / 8) + 8 + lport % 8
      let s := s.accrue lport
      let s := s.setLportSt lport ((s.lportSt lport).setCls cls { p.stop s.dev.timeNs with trippedNs := some s.dev.timeNs })
      (s.raise e).ledgerLimited e (islandOf (0x80000 + 0x20000 * (lport / 8))) lport
    else s)

/-- PAUSE_WATCHDOG_CLEAR: 1 s after the trip pause is obeyed and counted afresh. -/
def execPauseWatchdogClear (lport cls : Nat) (s : State) : Result :=
  .next (
    let p := (s.lportSt lport).cls cls
    match p.trippedNs with
    | some t => if t + 1000000000 ≤ s.dev.timeNs then s.setLportSt lport ((s.lportSt lport).setCls cls pauseSt0) else s
    | none => s)

/-! ## Links (R349) -/

/-- Lanes of a logical port (R346). -/
def State.lanes (s : State) (lport : Nat) : Nat :=
  let n := 8 / max 1 (lportsOfMode (s.get F.HP_PORT_STATUS.MODE (lport / 8)))
  (2 ^ n - 1) * 2 ^ (lport % 8 * n)

def State.setLink (s : State) (lport : Nat) (up : Bool) : State :=
  let p := lport / 8
  let l := s.get F.HP_PORT_STATUS.LINK p
  let k := s.get F.HP_PORT_STATUS.LANE_LOCK p
  let m := s.lanes lport
  let s := s.set F.HP_PORT_STATUS.LINK (if up then l ||| 2 ^ (lport % 8) else l &&& (255 - 2 ^ (lport % 8))) p
  let s := s.set F.HP_PORT_STATUS.LANE_LOCK (if up then k ||| m else k &&& (255 - m)) p
  s.raise (0x40 + 32 * p + lport % 8)

def execHostLinkUp (lport : Nat) (s : State) : Result :=
  .next (if lport < 32 ∧ 0 < s.lportRate lport ∧ !s.lportUp lport then (s.setLink lport true).reselectAll else s)

/-- The link goes down: every pause ends (R356), and flows select new addresses (R589). -/
def State.linkLost (s : State) (lport : Nat) : State :=
  let s := s.accrue lport
  let x := s.lportSt lport
  let s := s.setLportSt lport { pause := x.pause.map (fun (c : Nat × PauseSt) => (c.1, c.2.stop s.dev.timeNs)), xoff := [] }
  (s.setLink lport false).reselectAll

def execHostLinkDown (lport : Nat) (s : State) : Result :=
  .next (if lport < 32 ∧ s.lportUp lport then s.linkLost lport else s)

/-! ## Received frames (R350, R359 to R363) -/

/-- Counts an error of reception (R373). -/
def State.rxError (s : State) (f : Fld) (lport : Nat) : State :=
  (s.bump f (lport / 8) (lport % 8)).raiseLimited (0x40 + 32 * (lport / 8) + 0x11)

/-- MAC control (EtherType 0x8808). -/
def State.macControl (s : State) (lport : Nat) (f : List Byte) (good : Bool) : State :=
  if !good then s
  else
    let o := etherOff f + 2
    let op := beNat (sliceOf f o 2)
    if op = 0x0001 then s.pauseFrame lport false 0 [beNat (sliceOf f (o + 2) 2)]
    else if op = 0x0101 then
      s.pauseFrame lport true (leAt f (o + 3) 1) ((List.range 8).map (fun c => beNat (sliceOf f (o + 4 + 2 * c) 2)))
    else s.bump F.HP_RX_UNKNOWN.COUNT (lport / 8) (lport % 8)

/-- Length charged to an ingress meter at lookup, and the rest at the end (R374). -/
def ingressCharge (f : List Byte) : Nat × Nat :=
  match ipInfo f with
  | some i => (l2Len f + i.lenField + 4, 0)
  | none => (min 128 f.length, f.length - 128)

/-- An ingress meter colours the frame; true when it is to be dropped (R381). -/
def State.ingressMeter (s : State) (lport cls : Nat) (f : List Byte) : State × Bool :=
  match s.meterAt 0 lport cls with
  | none => (s, false)
  | some m =>
    let (n, rest) := ingressCharge f
    let pre := match ipInfo f with
      | some i => colourOf (s.dscpColour lport i.dscp)
      | none => .green
    let (s, c) := s.meterUnit m n pre
    let x := s.meter m
    let x := match c with
      | .green => { x with tp := x.tp - (rest : Nat), tc := x.tc - (rest : Nat) }
      | .yellow => { x with tp := x.tp - (rest : Nat) }
      | .red => x
    ({ s with tc := { s.tc with meters := sparseInsert m x s.tc.meters } }, c = .red && s.redAction m == 0)

/-- The mirrors of a logical port (R362). -/
def State.mirrors (s : State) (lport : Nat) : List Nat :=
  let p := lport / 8
  let q := lport % 8
  (if s.flag F.HP_LP_CTL.MIRROR_A_EN p q then [s.get F.HP_LP_CTL.MIRROR_A p q] else [])
    ++ (if s.flag F.HP_LP_CTL.MIRROR_B_EN p q then [s.get F.HP_LP_CTL.MIRROR_B p q] else [])

/-- A received frame is dropped at its station for want of buffers, or because the link cannot carry its copy (R210, R324). -/
def State.ingressDrop (s : State) : State := (s.bump F.YRD_DROP_HOST.COUNT).raiseLimited 0x1A8

/-- A frame is forwarded: its copies take their buffers in one request, the mirrors get theirs, and the frame is observed (R311, R359, R362). -/
def State.forward (s : State) (lport cls : Nat) (f : List Byte) (bad linkRefuses : Bool) : State :=
  let ms := s.mirrors lport
  let cross := s.profile ≠ 0 ∧ s.linkUp
  let copies := 1 + (if cross then 1 else 0) + ms.length
  let p := lport / 8
  if cross ∧ linkRefuses then (s.ingressDrop).raiseLimited 0xE1
  else match State.yardTake p cls (copies * ((f.length + 4095) / 4096)) s with
    | none => s.yardRefused.ingressDrop.pfcCheck p
    | some (s, bufs) =>
      let s := s.count 2 p 3 copies
      let s := if bad then s.raiseLimited 0xE0 else s
      let t := ptpFormat s.ptpNow
      let s := ms.foldl (fun (s : State) (c : Nat) => s.emit (.engineFrame c lport f bad t)) s
      let s := s.pfcCheck p
      if s.consumes then
        let k := s.wsw.origin
        ({ s with hp := { s.hp with frames := s.hp.frames ++ [(k, bufs)] } }).observe (.hostFrame lport f bad)
      else s.yardRelease bufs

/-- HOST_FRAME_RX: `frame` runs from the destination address to the FCS. -/
def execHostFrameRx (lport : Nat) (frame : List Byte) (ending : FrameEnd) (linkRefuses : Bool) (s : State) : Result :=
  .next (
    if 32 ≤ lport ∨ !s.lportUp lport then s
    else
      let p := lport / 8
      let s := (s.count 1 lport 0).count 1 lport 1 frame.length
      let s : State := match ending with
        | .fec => (s.bump F.HP_FEC_UNCORR.COUNT p).raiseLimited (0x40 + 32 * p + 0x10)
        | _ => s
      if frame.length < 64 then s.rxError F.HP_RX_RUNT.COUNT lport
      else if etherType frame = 0x8808 then s.macControl lport frame (ending = .good)
      else if !s.acceptsMac lport (beNat (frame.take 6)) then s.bump F.HP_RX_DMAC.COUNT p (lport % 8)
      else
        let s := (s.count 2 p 0).count 2 p 1 frame.length
        let d := s.lookup lport frame
        if d = .discard then s.bump F.HP_RX_UNKNOWN.COUNT p (lport % 8)
        else
          let (s, red) := s.ingressMeter lport d.cls frame
          if red then s
          else if 9216 < frame.length then
            (s.rxError F.HP_RX_OVERSIZE.COUNT lport).forward lport d.cls (frame.take 9216) true linkRefuses
          else if ending ≠ .good then (s.rxError F.HP_RX_FCS.COUNT lport).forward lport d.cls frame true linkRefuses
          else s.forward lport d.cls frame false linkRefuses)

/-- The buffers of a frame that has been consumed are released. -/
def State.frameDone (s : State) (origin : Nat) : State :=
  match s.hp.frames.find? (fun f => f.1 == origin) with
  | some (_, bufs) => ({ s with hp := { s.hp with frames := s.hp.frames.filter (fun f => f.1 != origin) } }).yardRelease bufs
  | none => s

/-- A good frame for a cluster goes there when it is consumed, on both controllers (R311, R372). -/
def State.frameIn (s : State) (lport : Nat) (f : List Byte) : State :=
  let t := ptpFormat s.ptpNow
  match s.lookup lport f with
  | .time => s.emit (.engineFrame (s.roleCluster 1) lport f false t)
  | .control => s.emit (.engineFrame (s.roleCluster 2) lport f false t)
  | .flume _ => s
  | .discard => s

/-! ## Precision time (R368 to R371) -/

/-- When an adjustment written now takes effect: the first whole microsecond at least 2 µs later. -/
def State.adjDue (s : State) : Nat := (s.dev.timeNs + 2000 + 999) / 1000 * 1000

def State.adjust (s : State) (ofs rate : Option Int) : State :=
  ({ s with hp := { s.hp with ptp := { s.hp.ptp with waiting := s.hp.ptp.waiting ++ [(s.adjDue, ofs, rate)] } } }).set F.PTP_CTL.ADJ_BUSY 1

/-- Two's complement of a value of `w` bits. -/
def signedOf (w v : Nat) : Int := if v % 2 ^ w < 2 ^ (w - 1) then (v % 2 ^ w : Nat) else (v % 2 ^ w : Nat) - (2 ^ w : Nat)

/-- PTP_ADJ_OFS_WRITE: a write of the register whole, or of its high word with the low word as it was written before. -/
def execPtpAdjOfsWrite (src : Src) (whole : Bool) (value : Nat) (s : State) : Result :=
  .next (s.busWrite src (F.PTP_ADJ_OFS.NS.at 0 0) (fun s =>
    let v := if whole then value else value % 2 ^ 32 * 2 ^ 32 + s.get F.PTP_ADJ_OFS.NS % 2 ^ 32
    (s.set F.PTP_ADJ_OFS.NS v).adjust (some (signedOf 64 v)) none))

/-- PTP_ADJ_RATE_WRITE: a write out of range is discarded and recorded. -/
def execPtpAdjRateWrite (src : Src) (value : Nat) (s : State) : Result :=
  .next (s.busWrite src (F.PTP_ADJ_RATE.RATE.at 0 0) (fun s =>
    let r := signedOf 32 value
    if -512000000 ≤ r ∧ r ≤ 512000000 then (s.set F.PTP_ADJ_RATE.RATE value).adjust none (some r)
    else s.ledger 0x0501 26 0))

/-- Every port that runs a list takes the entry in force at the stepped time (R394). -/
def State.gatesStepped (s : State) : State :=
  (List.range 32).foldl (fun (s : State) (n : Nat) =>
    if (s.gates n).run.isSome then ((s.accrue n).gateResync n).raise 0xC1 else s) s

/-- PTP_ADJ_APPLY: the oldest adjustment whose instant has come. -/
def execPtpAdjApply (s : State) : Result :=
  .next (
    match s.hp.ptp.waiting with
    | [] => s
    | (due, ofs, rate) :: rest =>
      if s.dev.timeNs < due then s
      else
        let b := s.ptpAt due + ((ofs.getD 0 : Int) : Rat)
        let s := { s with hp := { s.hp with ptp := ⟨b, due, rate.getD s.hp.ptp.rate, rest⟩ } }
        let s := if ofs.isSome then s.gatesStepped else s
        (if rest.isEmpty then s.set F.PTP_CTL.ADJ_BUSY 0 else s).raise (0x40 + 0x16))

/-- PPS_OUT_EDGE: each whole second of HP0's PTP time while PPS_OUT_EN is 1; the pin stays high for 100 ms. -/
def execPpsOutEdge (s : State) : Result :=
  .next (
    let sec := s.ptpNow.toNat / 1000000000
    if s.flag F.PTP_CTL.PPS_OUT_EN ∧ s.hp.ppsSec ≠ sec + 1 then
      ({ s with hp := { s.hp with ppsSec := sec + 1 } }).emit (.pin .pps 1)
    else s)

/-- PPS_IN_EDGE: HP0 timestamps the edge. -/
def execPpsInEdge (s : State) : Result :=
  .next ((s.set F.PTP_PPS_IN_TS.TIME (ptpFormat s.ptpNow)).raise (0x40 + 0x15))

end Sys2Proof.Machine
end

