-- ==== Sys2Proof/Machine/Recovery.lean ====
section
/-!
DEFINITION. Machine/Recovery.lean: the rows of a running dump (R275), and recovery at start-up (R143, R280 to R282, R531).
-/
namespace Sys2Proof.Machine

/-! ## The dump's own rows -/

/-- Member writes that the dump waits for are outstanding. -/
def State.memberWrites (s : State) : Bool :=
  s.drv.cmds.any (fun c => c.op == nvWrite && (match c.use with | .vault _ _ _ => false | _ => true) && c.st != .held)

/-- DUMP_WRITE_WAIT_EXPIRY: 5 ms have passed, or no member write is outstanding; the BEGUN headers go (R275 steps 3 and 4). -/
def execDumpWriteWaitExpiry (s : State) : Result :=
  .next (s.inStep (fun s =>
    match s.tly.dump with
    | some d =>
      if d.stage = .waits ∧ (d.beganUs + 5000 ≤ s.nowUs ∨ !s.memberWrites) then State.dumpRun 6 (s.dumpHeaders d) else s
    | none => s))

/-- DUMP_COMPLETE: every segment and the Ledger section are written; the COMPLETE headers go (R275 step 8). -/
def execDumpComplete (s : State) : Result :=
  .next (s.inStep (fun s =>
    match s.tly.dump with
    | some d =>
      if d.stage = .ledger ∧ !s.vaultBusy then
        let d := { d with stage := .complete }
        State.dumpRun 4 (((s.setDump d).writeHeaders d 4 2).raise 0x1CB)
      else s
    | none => s))

/-! ## Recovery -/

/-- A group is marked needs-verify. -/
def State.markVerify (s : State) (g : Nat) : State :=
  match s.grp? g with
  | some x => (s.setGrp g { x with verify := .needs, swept := 0, sweptToo := [] }).raise 0x1D1
  | none => s

def State.markAll (s : State) : State := (s.grps.map (·.1)).foldl (fun (s : State) (g : Nat) => s.markVerify g) s

/-- The Flume counter after a power-on reset: the recorded value plus 1; or every live epoch is blocked (R143). Other resets keep the counter in the always-on island. -/
def State.restoreCounter (s : State) (c : Option Nat) : State :=
  if !s.pwr.ctrLost then s
  else
    let s := { s with pwr := { s.pwr with ctrLost := false } }
    match c with
    | some v => { s with flm := { s.flm with msgCtr := v + 1 } }
    | none =>
      (({ s with flm := { s.flm with
        blocked := (s.flm.epochs.filter (fun (k : EpochKey) => decide (k.state ≠ EpochSt.empty))).map (fun (k : EpochKey) => k.epoch) } }).setFlag F.FLM_EPOCH_STATE.TX_BLOCKED true).raise 0x147

/-- A block of a segment is staged again, unless a later version is there (R281); a poisoned one is lost with cause 3 (R485). -/
def State.restage (s : State) (e : SegBlock) : State :=
  match s.ns? e.sub e.nsid with
  | none => s
  | some n =>
    if e.poisoned then
      match s.homeBlock n e.lba, s.grp? n.group with
      | some b, some x =>
        let p := x.brand.mapBlock b
        s.recordLost n.group p.stripe p.off 1 3 (2 ^ p.col)
      | _, _ => s
    else if (s.staged? e.sub e.nsid e.lba).any (fun v => decide (e.commitStep ≤ v.commitStep)) then s
    else
      let s := s.stage { sub := e.sub, nsid := e.nsid, lba := e.lba, data := e.data, hostTag := e.hostTag, commitStep := e.commitStep,
                         dirtyUs := s.nowUs, entry := 0, mapWait := false, noticed := true, poisoned := false }
      { s with tly := { s.tly with
        recovered := s.tly.recovered.map (fun r => (r.1, r.2 ++ [(e.sub, e.nsid, e.lba, e.commitStep)])) } }

/-- Columns of a bit map. -/
def colsOf (w mask : Nat) : List Nat := (List.range w).filter (bitOf mask)

/-- R282 at one offset: the data columns with what the staged versions and the reads give, data columns that are lost. `staged j` is the staged data of column j. -/
def resolveData (k : Nat) (t : TallyRec) (staged : Nat → Option (List Byte)) (a : Offset) : List (List Byte) × List Nat :=
  let inside (j : Nat) : Bool := bitOf t.columns j
  let old (j : Nat) : Option (List Byte) := (a.vals[j]?).getD none
  let now : List (Option (List Byte)) := (List.range k).map (fun j => if inside j then (staged j).orElse (fun _ => old j) else old j)
  let gone := (List.range k).filter (fun j => !inside j && (old j).isNone)
  let done (c : Nat) : Option (List Byte) := if bitOf t.done c then old c else none
  match gone with
  | [] => (orZero 4096 now, [])
  | [x] =>
    if bitOf t.done k ∨ bitOf t.done (k + 1) then
      match reconstruct 4096 now (done k) (done (k + 1)) with
      | some full => (full, [])
      | none => (orZero 4096 now, [x])
    else match (List.range k).filter inside with
      | [w] =>
        -- the old content of w and of x from the old parities
        (match reconstruct 4096 (((List.range k).map old).set w none) (old k) (old (k + 1)) with
        | some full => ((orZero 4096 now).set x (full.getD x zeroBlock), [])
        | none => (orZero 4096 now, [x]))
      | _ => (orZero 4096 now, [x])
  | gs => (orZero 4096 now, gs)

/-- A staged version of a column in COLUMNS lay in a lost segment. -/
def State.lostInSegs (s : State) (t : TallyRec) (b : Brand) : Bool :=
  ((colsOf b.k t.columns).flatMap (fun j => (List.range' t.off t.blocks).map (fun o => (j, o)))).any (fun p =>
    match s.blockOwner t.group (b.blockAt t.stripe p.1 p.2) with
    | some (sub, n, lba) => s.tly.lostSegs.any (fun l => l.1 == sub && l.2.1 == n.nsid && l.2.2.1 == lba)
    | none => false)

/-- Resolves an open entry (R282). `reads` is what the columns hold at the offsets that it covers. -/
def State.resolve (s : State) (t : TallyRec) (reads : List ColRead) : State :=
  match s.grp? t.group with
  | none => s
  | some x =>
    let b := x.brand
    if 3 ≤ t.kind ∨ s.lostInSegs t b then s.sweepAt t.group t.stripe t.off t.blocks reads
    else
      let cols := colsOf b.k t.columns
      let verOf (j o : Nat) : Option Ver := s.verAt t.group (b.blockAt t.stripe j o)
      let each := (List.range t.blocks).map (fun i =>
        let o := t.off + i
        (o, resolveData b.k t (fun j => (verOf j o).map (·.data)) (offsetOf b.w t.stripe o i reads)))
      let s := each.foldl (fun (s : State) (e : Nat × List (List Byte) × List Nat) =>
        if e.2.2.isEmpty then s else s.recordLost t.group t.stripe e.1 1 1 (colMask e.2.2)) s
      let s := if each.any (fun e => !e.2.2.isEmpty) then s.startBrand t.group else s
      let data := each.flatMap (fun e => cols.filterMap (fun j =>
        (verOf j e.1).map (fun v => (⟨j, e.1, [blkAt v.data v.hostTag t.stripe j e.1], false, false, false⟩ : TallyWrite))))
      let parity := each.flatMap (fun e => singleWrites e.1 (freshParity b.k t.stripe e.1 e.2.1))
      let ws := (data ++ parity).filter (fun w => (x.writePlace t.stripe w.col w.off).isSome)
      let vs := each.flatMap (fun e => cols.filterMap (fun j => verOf j e.1))
      let s := s.begin vs (s.tly.entryCtr + 1)
      (s.openEntry 2 t.group t.stripe t.off t.blocks 0 4 .maint ws).settleEntry (s.tly.entryCtr + 1)

/-- What the control part restores (R272, R281). -/
def State.restoreControl (s : State) (c : CtrlPart) : State :=
  let s := c.lst.foldl (fun (s : State) (l : Nat × List LstEnt × Bool) =>
    match s.grp? l.1 with
    | some x => s.setGrp l.1 { x with want := { x.want with lst := l.2.1, merged := l.2.2 } }
    | none => s) s
  let s := c.patrol.foldl (fun (s : State) (p : Nat × Nat × Nat) =>
    match s.grp? p.1 with
    | some x => s.setGrp p.1 { x with patrolCursor := p.2.1, patrolPasses := p.2.2 }
    | none => s) s
  { s with
    nvm := { s.nvm with resv := c.resv }
    tly := { s.tly with
      rebuilds := c.rebuilds.map (fun (r : RebuildRec) =>
        let n := newRebuild r.group r.member ((s.grp? r.group).map (fun x => x.brand.stripes) |>.getD 0)
          ((s.grp? r.group).any (fun x => x.brand.mState r.member == mSpared))
        { n with state := r.state, cursor := r.cursor, next := r.cursor, critCursor := r.critCursor, critNext := r.critCursor,
                 critPartner := r.critPartner, before := r.state }) } }

/-- A loss without a place in a table: a block of a lost segment (R281). -/
def State.loseSegment (s : State) (l : Nat × Nat × Nat) : State :=
  { s with
    tly := { s.tly with lostSegs := s.tly.lostSegs ++ [(l.1, l.2.1, l.2.2, s.dev.stepNo)] }
    nvm := { s.nvm with lostGen := s.nvm.lostGen + 1 } }

/-- Restores the dump that recovery found. -/
def State.recoverDump (s : State) (f : FoundDump) : State :=
  let s := s.set F.VLT_DUMP_SEQ.SEQ f.seq
  let s := s.set F.VLT_STATUS.LAST_DUMP (if !f.complete then 3 else if f.rewritten then 2 else 1)
  let s := if f.complete then s else s.raise 0x1CD
  let s := { s with tly := { s.tly with recovered := some (f.seq, []) } }
  let s := match f.ctrl with
    | some c => (s.restoreControl c).restoreCounter (some c.counter)
    | none => (((s.set F.VLT_STATUS.CTRL_LOST 1).raise 0x1CE).markAll).restoreCounter none
  let s := f.lost.foldl (fun (s : State) (l : Nat × Nat × Nat) => s.loseSegment l) s
  let s := if f.lost.isEmpty then s else (s.raise 0x1D3).raise 0x186
  let s := (f.segs.flatMap (·.2)).foldl (fun (s : State) (e : SegBlock) => s.restage e) s
  match f.ctrl with
  | some c => c.tally.foldl (fun (s : State) (t : TallyRec × List ColRead) => s.resolve t.1 t.2) s
  | none => s

/-- The recovered Ledger section is copied into the engines' region, at an address that the spec leaves open, which LDG_VAULT_ADDR reports (R520). -/
def State.ledgerCopied (s : State) (section_ : Option (List Byte)) : State :=
  match section_ with
  | some b =>
    let a := s.free.toNat % (0xC_0000_0000 - 0x40_0000) / 64 * 64
    (s.drawn.store a b).set F.LDG_VAULT_ADDR.ADDR a
  | none => s

/-- Without a dump: a staging-unsaved flag marks every group needs-verify (R531). -/
def State.recoverNothing (s : State) : State :=
  let s := (s.set F.VLT_STATUS.LAST_DUMP 0).restoreCounter none
  if s.flag F.PWR_STATE.UNSAVED then ((s.setFlag F.PWR_STATE.UNSAVED false).markAll).raise 0x011 else s

/-- RECOVERY: after assembly, before any namespace serves (R280). `maps` and `exts` are the directory and the extent entries of the map images in force. -/
def execRecovery (found : Option FoundDump) (maps : List (Nat × Nat)) (exts : List (Nat × Nat × ExtEnt)) (s : State) : Result :=
  .next (
    if s.role = roleAlone ∧ s.tly.recovered = none then
      let s := { s with cht := { s.cht with dir := maps.foldl (fun d m => sparseInsert m.1 m.2 d) s.cht.dir } }
      let s := exts.foldl (fun (s : State) (e : Nat × Nat × ExtEnt) => s.setExtent e.1 e.2.1 e.2.2) s
      let s := match found with
        | some f => if f.retired then (s.set F.VLT_DUMP_SEQ.SEQ f.seq).recoverNothing else (s.recoverDump f).ledgerCopied f.ledger
        | none => s.recoverNothing
      let s := { s with grps := s.grps.map (fun (g : Nat × Grp) => (g.1, { g.2 with serving := !g.2.offline })) }
      let s := if s.get F.PWR_STATE.BOOT_STEP = 8 then s.set F.PWR_STATE.BOOT_STEP 9 else s
      (s.grps.map (·.1)).foldl (fun (s : State) (g : Nat) => (s.startBrand g).startRebuild g) s.vaultChanged
    else s)

/-- DUMP_RETIRE_RECOVERED: every restaged version has been destaged; STATE RETIRED goes to every vault member. -/
def execDumpRetireRecovered (s : State) : Result :=
  .next (s.inStep (fun s =>
    match s.tly.recovered with
    | some (seq, vs) =>
      if s.tly.dump.isNone ∧ ¬ s.cht.staging.any (fun v => vs.contains (v.sub, v.nsid, v.lba, v.commitStep)) then
        let d : Dump := ⟨seq, .retired, s.nowUs, s.dev.stepNo, s.vaultMembers, ctrlPair s.vaultMembers, [], [], false, vaultShort s.vaultMembers⟩
        ({ s.writeHeaders d 5 3 with tly := { (s.writeHeaders d 5 3).tly with recovered := none } }).raise 0x1D0
      else s
    | none => s))

end Sys2Proof.Machine
end

