-- ==== Sys2Proof/Machine/Regs.lean ====
section
/-!
DEFINITION. Machine/Regs.lean: finding a register or a field of the map by its offset (R37), and what a reset restores (R17).
-/
namespace Sys2Proof.Machine

/-- The copy of a register that stands at an offset. -/
def RegRow.copyAt (r : RegRow) (off : Nat) : Option (Nat × Nat) :=
  if off < r.off then none
  else
    let d := off - r.off
    let i := if r.n1 ≤ 1 then 0 else d / r.st1
    let e := d - i * r.st1
    let j := if r.n2 ≤ 1 then 0 else e / r.st2
    if i < r.n1 && j < r.n2 && e == j * r.st2 then some (i, j) else none

/-- The register at an offset, with the copy it is. -/
def regAt (off : Nat) : Option (RegRow × Nat × Nat) :=
  regTable.findSome? (fun r => (r.copyAt off).map (fun c => (r, c.1, c.2)))

/-- The field that a key of the register file stands for. -/
def fieldOf (key : Nat) : Option Fld :=
  regTable.findSome? (fun r => if (r.copyAt (key / 64)).isSome then r.flds.find? (fun f => f.lo == key % 64) else none)

/-- A reset of class `c` leaves the field of a key as it is. -/
def survives (c : Cls) (key : Nat) : Bool :=
  match fieldOf key with
  | some f => decide (c.rank < f.cls.rank)
  | none => false

/-- The register file after a reset of class `c` (R17). -/
def State.resetRegs (s : State) (c : Cls) : State := { s with regs := s.regs.filter (fun r => survives c r.1) }

end Sys2Proof.Machine
end

