-- ==== Sys2Proof/Machine/Reset.lean ====
section
/-!
DEFINITION. Machine/Reset.lean: what each reset keeps (R17, R529, R546) and steps 1 to 3 of start-up (R493, R533), with the reset rows of 18_power_reset_boot.md.
-/
namespace Sys2Proof.Machine

/-! ## What a reset keeps (R546) -/

/-- The slot paths after a warm or cold reset: gates off, latches with their causes and what this path senses kept, timers and power-good cleared. -/
def SlotPath.afterReset (p : SlotPath) : SlotPath :=
  { slotPath0 with
    st := if p.st = chLatched then chLatched else chOff
    cause := if p.st = chLatched then p.cause else 0
    present := p.present, supplyOk := p.supplyOk, supplyNs := p.supplyNs, currentMa := p.currentMa, voutMv := p.voutMv, supplyMv := p.supplyMv }

/-- Slot power after a reset; only a power-on reset clears latches. -/
def Slots.afterReset (x : Slots) (c : Cls) : Slots :=
  if c = .por then slots0
  else { paths := x.paths.foldl (fun (l : List (Nat × SlotPath)) (p : Nat × SlotPath) => sparsePut slotPath0 p.1 p.2.afterReset l) [], hold := true }

/-- Gates that were driven turn off (R529). -/
def State.gatesOff (s : State) : State :=
  (s.slot.paths.filter (fun p => p.2.driven)).foldl (fun (s : State) (p : Nat × SlotPath) => s.emit (.pin (.gate p.1) 0)) s

/-- Islands, times and events after a reset. -/
def Dev.afterReset (d : Dev) (c : Cls) : Dev :=
  { d with
    timeNs := if c = .por then 0 else d.timeNs
    stepNo := 0, stepUs := 0, curStep := 0, gated := [], faulted := [], lastRaise := []
    pendEvt := if c = .warm then d.pendEvt else [] }

/-- Flash keeps the banks, the always-on island the cold-class records. -/
def PatSt.afterReset (p : PatSt) (c : Cls) : PatSt :=
  { pat0 with
    banks := p.banks
    cold := if c = .warm then p.cold else []
    factoryFailed := decide (c = .warm) && p.factoryFailed }

/-- The always-on island keeps the message counter and what R143 blocks. -/
def Flm.afterReset (f : Flm) (c : Cls) : Flm := if c = .por then flm0 else { flm0 with msgCtr := f.msgCtr, blocked := f.blocked }

/-- Host ports: PTP time and its adjustment survive a warm reset; otherwise PTP time is device time again. -/
def Hp.afterReset (h : Hp) (c : Cls) (now : Nat) : Hp :=
  if c = .warm then { hp0 with ptp := h.ptp } else { hp0 with ptp := { ptp0 with base := (now : Rat), atNs := now } }

/-- Power state after a reset; what the filtered pins say goes on. -/
def Pwr.afterReset (p : Pwr) (c : Cls) (holdupOk failing : Bool) : Pwr :=
  { pwr0 with pwrfail := decide (c ≠ .por) && failing, resetting := c.rank, ctrLost := decide (c = .por) || p.ctrLost, holdupLow := decide (c = .por) || !holdupOk }

/-- The flash keeps both firmware slots; what R561 compares with is kept over a warm or cold reset. -/
def FwSt.afterReset (f : FwSt) (c : Cls) : FwSt :=
  { fw0 with
    slotA := f.slotA, slotB := f.slotB
    served := if c = .por then [] else f.served
    pairBefore := decide (c ≠ .por) && f.pairBefore
    phase := if c = .por then 0 else f.phase }

/-- Staging or an open entry that neither a completed dump nor a partner in step covers (R531). -/
def State.unsavedAtReset (s : State) : Bool := s.unsavedData && !s.dumpDone && !(s.inPair && s.partnerInStep)

/-- PAIR_ACTIVE_OUT falls, and a cold reset lets PAIR_FAULT_N and THERM_TRIP_N go (R307, R529, R586). -/
def State.pinsAtReset (s : State) (c : Cls) : State :=
  let s := bif waveOf s.role == 0 || s.flag F.WSW_STATUS.FAULT_OUT then s else s.emit (.pin .pairActive 0)
  let s := bif s.flag F.WSW_STATUS.FAULT_OUT && c != .warm then s.emit (.pin .pairFaultN 1) else s
  bif s.flag F.THERM_STATUS.TRIP && c != .warm then s.emit (.pin .thermTripN 1) else s

/-- What is in the islands with their supplies, by unit. -/
def State.resetUnits (s : State) (c : Cls) : State :=
  let hold := s.flag F.PWR_PINS.HOLDUP_OK
  { s with
    dev := s.dev.afterReset c
    pat := s.pat.afterReset c
    svc := if c = .warm then { s.svc with freezeBit := none } else svc0
    tasks := [], eng := eng0
    led := if c = .por then led0 else s.led
    flm := s.flm.afterReset c
    fx := fx0, wsw := wsw0, drv := drv0
    pwr := s.pwr.afterReset c hold (s.flag F.PWR_PINS.PWRFAIL)
    nvm := nvm0, cht := cht0, grps := [], tly := tly0, tc := tc0
    hp := s.hp.afterReset c s.dev.timeNs
    slot := s.slot.afterReset c
    fw := s.fw.afterReset c
    mi := mi0, mem := [], poison := [] }

/-- A reset of class warm, cold or por takes effect: STATE is resetting until the device is READY. -/
def State.resetTo (s : State) (c : Cls) : State :=
  let unsaved := s.unsavedAtReset && c != .warm
  let s := (s.pinsAtReset c).gatesOff
  let s := (s.resetUnits c).resetRegs c
  let s := bif unsaved then s.setFlag F.PWR_STATE.UNSAVED true else s
  s.set F.PWR_STATE.STATE stResetting

/-! ## Steps 1 to 3 of R533 -/

/-- A RST_CAUSE bit is set. -/
def State.cause (s : State) (f : Fld) : State := s.setFlag f true

/-- Step 1: the straps as the board drives them. -/
def State.bootStraps (s : State) : State :=
  (s.set F.GLB_SIDE.SIDE s.dev.strapSide).set F.RST_CAUSE.RECOVERY s.dev.strapRecovery

/-- Step 2: E00 runs; the flash protects the blocks of R41 at a cold reset; the settings store is read and the retired list applied (R490). -/
def State.bootStore (s : State) (c : Cls) : State :=
  let s := s.set F.GLB_ISLAND_UP.UP (2 ^ 38 - 1)
  let s := bif c == .warm then s else s.emit (.flashProtect 0 0x1000000)
  let s := s.readStore
  let s := { s with mi := { s.mi with applied := s.pat.settings.retired } }
  s.raise 0x010

/-- Step 3: the self-test of the ECC checkers; `failed` has a bit for each that failed (R493). -/
def State.bootSelfTest (s : State) (failed : Nat) : State :=
  let s := (s.setFlag F.MEM_SELFTEST.DONE true).set F.MEM_SELFTEST.FAIL failed
  bif failed == 0 then s.set F.PWR_STATE.BOOT_STEP 3
  else ((s.set F.PWR_STATE.BOOT_STEP 2).raise 0x3CA |>.ledger 0x3CA 20 0 (leBytes 4 failed)).fatal 20

/-- Start-up as far as step 3, with the boot watchdog of R532 running. -/
def State.bootSteps (s : State) (c : Cls) (selfTest : Nat) : State :=
  let s := { s with pwr := { s.pwr with bootNs := s.dev.timeNs, bootWdog := true } }
  let s := bif c == .warm then s else s.bootStraps
  (s.bootStore c).bootSelfTest (selfTest % 8192)

/-! ## The rows -/

/-- POWER_ON_RESET: VDD_AON was lost. -/
def execPowerOnReset (s : State) : Result := .next (s.resetTo .por)

/-- SYS_RESET: SYS_RST_N asserted for 10 µs; merged into a cold or power-on reset that runs (R527). -/
def execSysReset (s : State) : Result :=
  .next (bif s.pwr.fatalNs.isNone && (s.pwr.resetting == 2 || s.pwr.resetting == 3) then s else (s.resetTo .cold).cause F.RST_CAUSE.SYS_PIN)

/-- SYS_RST_N_RELEASE: the straps are sampled and start-up begins, 5 µs later at the least (R533, R535). -/
def execSysRstNRelease (sideB recovery : Bool) (selfTest : Nat) (s : State) : Result :=
  .next (
    if s.power = stResetting ∧ 2 ≤ s.pwr.resetting ∧ !s.pwr.bootWdog ∧ s.get F.PWR_STATE.BOOT_STEP = 0 then
      let s := { s with dev := { s.dev with strapSide := if sideB then 1 else 0, strapRecovery := if recovery then 1 else 0 } }
      s.bootSteps .cold selfTest
    else s)

/-- WARM_RST_PIN: WARM_RST_N asserted for 10 µs. -/
def execWarmRstPin (s : State) : Result := .next (s.askWarm 4)

/-- PWR_CTL_WARM: PWR_CTL.WARM written 1. -/
def execPwrCtlWarm (src : Src) (s : State) : Result := .next (s.busWrite src (F.PWR_CTL.WARM.at 0 0) (fun s => s.askWarm 2))

/-- WARM_RESET_EFFECT: an orderly warm reset takes effect (R528). -/
def execWarmResetEffect (selfTest : Nat) (s : State) : Result :=
  .next (
    if s.warmDue then
      let bits := s.pwr.warm.getD 0
      let s := s.resetTo .warm
      let s := if bitOf bits 0 then s.cause F.RST_CAUSE.WARM_PAIR else s
      let s := if bitOf bits 1 then s.cause F.RST_CAUSE.WARM_SW else s
      let s := if bitOf bits 2 then s.cause F.RST_CAUSE.WARM_PIN else s
      s.bootSteps .warm selfTest
    else s)

/-- The fatal sequence has come to its reset: its dump, if any, is complete (R530 step 4). -/
def State.fatalOver (s : State) : Bool :=
  match s.pwr.fatalNs with
  | none => false
  | some _ => !s.flag F.PWR_CTL.FATAL_HALT && (s.dumpDone || !s.unsavedData || !s.dumpStands)

/-- FATAL_RESET: 100 ms after the fatal event, or once the dump completes. -/
def execFatalReset (selfTest : Nat) (s : State) : Result :=
  .next (
    if s.fatalOver then
      let s := s.reach (s.pwr.fatalNs.getD 0 + 100000000)
      ((s.resetTo .cold).cause F.RST_CAUSE.FATAL).bootSteps .cold selfTest
    else s)

end Sys2Proof.Machine
end

