-- ==== Sys2Proof/Machine/Power.lean ====
section
/-!
DEFINITION. Machine/Power.lean: power-fail pins, watchdog, READY, Drowse and Fallow (18_power_reset_boot.md).
-/
namespace Sys2Proof.Machine

/-- What a controller recognises enters the stream in a paired profile (R524, R525, R544); in Solo, and before a role is taken, it acts at once. -/
def State.recognised (s : State) (w : StepWrite) (effect : State → State) : State :=
  if s.consumes then s.stepWrite .svc w effect else effect s

/-! ## PWRFAIL_N and HOLDUP_OK (R524 to R526) -/

/-- WRITE_THROUGH and its events follow the rule of R525. -/
def State.showThrough (s : State) : State :=
  let on := s.writeThrough
  bif s.flag F.PWR_STATE.WRITE_THROUGH == on then s
  else
    let s := s.setFlag F.PWR_STATE.WRITE_THROUGH on
    bif on then s.raise 0x005 else (s.ackWrites.dirtyLevel).raise 0x006

/-- HOLDUP_OK of one side, in step state. -/
def State.holdupStep (s : State) (sideB ok : Bool) : State :=
  let s := bif sideB == s.sideB then { s with pwr := { s.pwr with holdupLow := !ok } } else { s with pwr := { s.pwr with partnerHoldupLow := !ok } }
  s.showThrough

/-- A completed dump that nothing waits for any more is retired (R279). -/
def State.settlePower (s : State) : State :=
  match s.tly.dump with
  | some d =>
    if d.stage = .done ∧ s.tly.stopped ∧ !s.powerFailing ∧ s.pwr.warm.isNone ∧ s.pwr.fatalNs.isNone ∧ s.ready then s.retireDump d else s
  | none => s

/-- PWRFAIL_N of one side, in step state: a dump begins, but before the device is first READY and in Fallow, where a Ledger record is all (R526). -/
def State.pwrfailStep (s : State) (sideB on : Bool) : State :=
  let s := bif sideB == s.sideB then { s with pwr := { s.pwr with pwrfail := on } } else { s with pwr := { s.pwr with partnerPwrfail := on } }
  if !on then s.settlePower
  else if !s.ready ∨ s.pwr.hostBusy then s.ledger 0x003 25 0
  else if s.consumes then s.beginDump
  else s

/-- HOLDUP_CHANGE: a filtered change of HOLDUP_OK. -/
def execHoldupChange (ok : Bool) (s : State) : Result :=
  .next (
    if s.flag F.PWR_PINS.HOLDUP_OK = ok then s
    else
      let s := s.setFlag F.PWR_PINS.HOLDUP_OK ok
      let s := if ok then s else s.setFlag F.PWR_PINS.HOLDUP_DROP true
      s.recognised (.holdup ok) (fun s => s.holdupStep s.sideB ok))

/-! ## The watchdogs (R532) -/

/-- The watchdog period in ns. -/
def State.wdogNs (s : State) : Nat := s.cfg 0x00C0 0 12 4 2000 * 1000000

/-- Device time at which the watchdog or the boot watchdog expires. -/
def State.wdogDue (s : State) : Option Nat :=
  let a := s.pwr.kickNs + s.wdogNs
  let b := s.pwr.bootNs + 20000000000
  if s.flag F.PWR_WDOG.ARMED then some (if s.pwr.bootWdog then min a b else a)
  else if s.pwr.bootWdog then some b
  else none

/-- WATCHDOG_EXPIRY: the fatal event is raised. -/
def execWatchdogExpiry (s : State) : Result :=
  .next (
    match s.wdogDue with
    | some t => if s.pwr.fatalNs.isSome then s else ((((s.reach t).cause F.RST_CAUSE.WATCHDOG).raise 0x002)).fatal 24
    | none => s)

/-- WDOG_KICK: firmware's first write arms the watchdog; each later write of anyone restarts it. -/
def execWdogKick (src : Src) (s : State) : Result :=
  .next (s.busWrite src (F.PWR_WDOG.ARMED.at 0 0) (fun s =>
    if s.flag F.PWR_WDOG.ARMED ∨ src ≠ .svc then
      { s with pwr := { s.pwr with kickNs := s.dev.timeNs } }.setFlag F.PWR_WDOG.ARMED true
    else s))

/-! ## READY (R533 steps 6 to 8, R534) -/

/-- A trial starts: the running image is not confirmed (R561). -/
def State.trialStart (s : State) : State :=
  { s with fw := { s.fw with trialNs := s.dev.timeNs, trialBad := false } }.setFlag F.FWU_STATUS.TRIAL true |>.raise 0x4E4

/-- A slot of the running image stands on trial: an image that was activated and not confirmed (R554, R561). -/
def State.onTrial (s : State) : Bool :=
  let x := s.fwSlot s.fwRunsB
  x.magic && !x.confirmed && !x.rejected

/-- What this path senses counts as present from the moment slot power is released (R423, step 9 of R533). -/
def State.presenceAtReady (s : State) : State :=
  (List.range 48).foldl (fun (s : State) (n : Nat) =>
    let p := s.path n
    if p.present then s.observed (.slot n true p.summary) (fun s => s.slotSeen s.sideB n true p.summary) else s) s

/-- BOOT_READY: steps 6 to 8 are complete. -/
def execBootReady (s : State) : Result :=
  .next (
    if s.power = stResetting ∧ s.get F.PWR_STATE.BOOT_STEP = 5 ∧ !s.flag F.FWU_STATUS.RECOVERY ∧ s.pat.run.isNone ∧ s.pwr.fatalNs.isNone then
      let ms := (s.dev.timeNs - s.pwr.bootNs) / 1000000
      let s := { s with pwr := { s.pwr with resetting := 0, bootWdog := false }, wsw := { s.wsw with readyNs := s.dev.timeNs } }
      let s := ((s.set F.PWR_STATE.BOOT_STEP 8).setFlag F.PWR_STATE.READY true).set F.PWR_STATE.STATE stActive
      let s := (s.set F.PWR_BOOT_TIME.MS (min ms 4294967295)).raise 0x00B
      let s := if s.onTrial ∧ (s.fw.phase = 2 ∨ s.fw.phase = 4) then s else { s with fw := { s.fw with phase := 0 } }
      let s := if s.onTrial then s.trialStart else s
      s.presenceAtReady.holdSlots false
    else s)

/-! ## Entry (R537 to R541) -/

/-- What R537 names and step state shows. -/
def State.entryBlocked (s : State) : Bool :=
  s.tly.rebuilds.any Rebuild.running || s.grps.any (fun g => g.2.verify != .normal) || s.tly.migs.any (fun m => m.state == 1 || m.state == 2)
    || s.wsw.resyncPass != 0 || s.tly.dump.isSome || s.tly.recovered.isSome

/-- What R537 names and only this controller knows: a trial window, a Pattern commit, whether it is READY. -/
def State.entryHeld (s : State) : Bool :=
  s.flag F.FWU_STATUS.TRIAL || !s.ready
    || (match s.pat.run with
      | some r => r.changes.any (fun c => match c with | .pattern _ => true | _ => false)
      | none => false)

/-- The state from which a target is entered: 1 Drowse from Active, 2 Fallow from Active or Drowse. -/
def State.entryFrom (s : State) (target : Nat) : Bool :=
  (target == 1 && s.power == stActive) || (target == 2 && (s.power == stActive || s.power == stDrowse))

/-- Nothing is dirty and no entry is open. -/
def State.destaged (s : State) : Bool := s.cht.staging.isEmpty && s.tly.entries.isEmpty

/-- The dump of step 2 of Fallow entry begins: no segments, the counter plus 2^24 (R540). -/
def State.fallowBegin (s : State) : State :=
  let s := { s with pwr := { s.pwr with fallowCtr := s.flm.msgCtr + 2 ^ 24, entryStep := 1 } }
  State.dumpRun 6 (s.dumpHeaders ⟨0, .waits, s.nowUs, s.dev.stepNo, [], [], [], [], false, false⟩)

/-- Every Brand is updated with CLEAN set (R253, step 3 of R540). -/
def State.cleanBrands (s : State) : State :=
  let s := { s with pwr := { s.pwr with entryStep := 2 } }
  (s.grps.map (·.1)).foldl (fun (s : State) (g : Nat) =>
    match s.grp? g with
    | some x => (s.setGrp g { x with want := { x.want with clean := true } }).startBrand g
    | none => s) s

/-- A group's Brand says CLEAN, or cannot be updated. -/
def State.brandClean (s : State) (x : Grp) : Bool := x.upd.isNone && (x.brand.clean || x.offline || x.forming || s.shelfId == 0)

/-- Fallow entry goes on to its next step as soon as the last one is complete; it aborts when the counter has reached the recorded value before the point of no return. -/
def State.entryAdvance (s : State) : State :=
  if s.power ≠ stToFallow ∨ s.ponr ∨ s.powerFailing then s
  else if s.pwr.entryStep ≠ 0 ∧ s.pwr.fallowCtr ≤ s.flm.msgCtr then s.abortEntry
  else if s.pwr.entryStep = 0 then (if s.destaged ∧ s.drv.cmds.isEmpty ∧ s.tly.dump.isNone then s.fallowBegin else s)
  else if s.pwr.entryStep = 1 then (if s.fallowDump.isSome then s.cleanBrands else s)
  else if s.pwr.entryStep = 2 ∧ s.grps.all (fun g => s.brandClean g.2) then { s with pwr := { s.pwr with entryStep := 3 } }
  else s

/-- An entry begins, as a step input; false where R537 refuses it. Drives in DRIVE_PS leave it, for steps 2 to 4 of R540 need them. -/
def State.enter (s : State) (target : Nat) : State × Bool :=
  if s.entryBlocked ∨ !s.entryFrom target then (s, false)
  else
    let s := if s.power = stDrowse then s.drivesAwake else s
    let s := { s with pwr := { s.pwr with entryStep := 0 } }.set F.PWR_STATE.STATE (if target = 1 then stToDrowse else stToFallow)
    ((s.raise 0x00C).entryAdvance, true)

/-- PWR_CTL_ENTER: as POWER_ENTER; 0 and 3 ask nothing. -/
def execPwrCtlEnter (src : Src) (target : Nat) (s : State) : Result :=
  .next (s.busWrite src (F.PWR_CTL.ENTER.at 0 0) (fun s =>
    if s.entryHeld ∨ (target ≠ 1 ∧ target ≠ 2) then s else s.stepWrite src (.enter target) (fun s => (s.enter target).1)))

/-- An idle time of R536 has passed. -/
def State.idleDue (s : State) : Option Nat :=
  let a := s.cfg 0x00C0 0 0 4 0
  let b := s.cfg 0x00C0 0 4 4 0
  if s.power = stActive then (if a ≠ 0 ∧ s.pwr.lastHostUs + a * 1000000 ≤ s.nowUs then some 1 else none)
  else if s.power = stDrowse then (if b ≠ 0 ∧ s.pwr.drowseUs + b * 1000000 ≤ s.nowUs then some 2 else none)
  else none

/-- IDLE_POWER_ENTRY: the numbering controller starts an entry. -/
def execIdlePowerEntry (s : State) : Result :=
  .next (
    match s.idleDue with
    | some t => if s.numbers ∧ !s.entryHeld ∧ !s.entryBlocked then s.recognised (.enter t) (fun s => (s.enter t).1) else s
    | none => s)

/-- READY drives are set to DRIVE_PS by Set Features (step 3 of R538). -/
def State.drivesLow (s : State) : State :=
  (List.range 48).foldl (fun (s : State) (n : Nat) =>
    let p := s.port n
    if s.dpState n = dpReady then s.setPort n { p with lowPower := true, admin := p.admin ++ [(0x09, s.dev.timeNs)] } else s) s

/-- DROWSE_ENTRY_DONE: steps 2 to 5 of R538. -/
def execDrowseEntryDone (s : State) : Result :=
  .next (
    if s.power = stToDrowse ∧ s.destaged ∧ s.drv.cmds.isEmpty then
      let s := s.drivesLow.endChannels [2, 3]
      let s := { s with eng := { s.eng with saved := [2, 3] }, pwr := { s.pwr with drowseUs := s.nowUs } }.gateIslands [2, 3]
      (s.set F.PWR_STATE.STATE stDrowse).raise 0x00C
    else s)

/-- The slot hold as a step input: every gate command turns off, and the entry can no longer be aborted (step 5 of R540); a counter that has reached the recorded value aborts it. -/
def State.slotHoldStep (s : State) : State :=
  if s.power = stToFallow ∧ !s.ponr ∧ s.pwr.fallowCtr ≤ s.flm.msgCtr then s.abortEntry
  else if s.power = stToFallow ∧ !s.ponr then
    let s := (s.setFlag F.PWR_STATE.PONR true).holdSlots true
    { s with pwr := { s.pwr with hostBusy := true, wakeNs := none } }
  else s

/-- FALLOW_PONR: READY drives have been shut down, and the slot hold is numbered (steps 4 and 5 of R540). -/
def execFallowPonr (s : State) : Result :=
  .next (
    if s.power = stToFallow ∧ s.pwr.entryStep = 3 ∧ !s.ponr ∧ !s.powerFailing then
      let s := (List.range 48).foldl (fun (s : State) (n : Nat) =>
        if s.dpState n = dpReady then s.setPort n { s.port n with shutDown := true } else s) s
      if s.numbers ∧ !s.wsw.inputs.any (fun r => r.input = .mgmt .slotHold) then s.recognised .slotHold State.slotHoldStep else s
    else s)

/-- Island of a host port. -/
def hpIsland (p : Nat) : Nat := if p < 2 then 26 + p else 29 + p

/-- Islands that stay up in Fallow (step 6 of R540). -/
def State.fallowIslands (s : State) : List Nat := [0, 5, 6, 7, 8, 9, 23, 24, 25, 30, 36, 37, hpIsland (s.cfg 0x00C0 0 8 1 0 / 8)]

/-- RC counters and Scaler counts of islands that were powered down are 0 (R546). -/
def State.countsLost (s : State) : State :=
  let lost (key : Nat) : Bool :=
    s.dev.gated.contains (islandOf (key / 64))
      && (match fieldOf key with
        | some f => f.acc == .rc || f.off == F.SCL_CNT.COUNT.off
        | none => false)
  { s with regs := s.regs.filter (fun r => !lost r.1) }

/-- Every logical port but FALLOW_PORT goes down. -/
def State.portsDown (s : State) : State :=
  (List.range 32).foldl (fun (s : State) (l : Nat) =>
    if l ≠ s.cfg 0x00C0 0 8 1 0 ∧ s.lportUp l then s.linkLost l else s) s

/-- FALLOW_ENTRY_DONE: step 6 of R540; a wake that was asked for meanwhile begins. -/
def execFallowEntryDone (s : State) : Result :=
  .next (
    if s.power = stToFallow ∧ s.ponr then
      let s := (s.endChannels [0, 1, 2, 3]).portsDown
      let s := { s with
        eng := eng0
        cht := { s.cht with bufs := [], waits := [] }
        hp := { s.hp with frames := [] }
        fx := { s.fx with flows := [], cacheWait := [] } }
      let up := s.fallowIslands
      let s := (s.gateIslands ((List.range 38).filter (fun i => !up.contains i))).countsLost
      let s := (s.set F.PWR_STATE.STATE stFallow).raise 0x00C
      if s.pwr.wakeWanted then s.recognised .wake State.wakeSource else s
    else s)

/-! ## Wake (R544, R545) -/

/-- A wake source that this controller sees. -/
def State.wakeSeen (s : State) : State :=
  if s.power = stToDrowse ∨ s.power = stDrowse ∨ s.power = stToFallow ∨ s.power = stFallow then s.recognised .wake State.wakeSource else s

/-- WAKE_GPIO_EDGE: a rising edge of the GPIO that the power states record names. -/
def execWakeGpioEdge (gpio : Nat) (s : State) : Result :=
  .next (if gpio < 64 ∧ gpio = s.cfg 0x00C0 0 10 1 0xFF then s.wakeSeen else s)

/-- PWR_CTL_WAKE: PWR_CTL.WAKE written 1. -/
def execPwrCtlWake (src : Src) (s : State) : Result := .next (s.busWrite src (F.PWR_CTL.WAKE.at 0 0) State.wakeSeen)

/-- Namespaces serve again after a Fallow wake: every group has assembled, and the dump of step 2 is retired (R542, R545). -/
def State.fallowOver (s : State) : State :=
  if s.pwr.hostBusy ∧ s.power = stActive ∧ s.grps.all (fun g => g.2.offline || g.2.gone.isEmpty) then
    let s := { s with pwr := { s.pwr with hostBusy := false, wakeNs := none } }
    match s.fallowDump with
    | some d => if s.powerFailing then s else s.retireDump d
    | none => s
  else s

/-- WAKE_DONE: gated islands run again; after Fallow the slot hold is released. -/
def execWakeDone (s : State) : Result :=
  .next (
    if s.power ≠ stWaking then s
    else
      let s := { s with eng := { s.eng with saved := [] } }.gateIslands []
      let s := s.set F.PWR_STATE.STATE stActive
      if s.ponr then
        let s := { s with
          drv := { s.drv with ports := s.drv.ports.map (fun (p : Nat × DrvPort) => (p.1, { p.2 with lowPower := false, shutDown := false })) }
          grps := s.grps.map (fun (g : Nat × Grp) => (g.1, { g.2 with gone := g.2.gone.map (fun (x : Nat × Nat) => (x.1, s.nowUs)) })) }
        ((s.setFlag F.PWR_STATE.PONR false).holdSlots false).fallowOver
      else { s with pwr := { s.pwr with wakeNs := none } }.drivesAwake)

end Sys2Proof.Machine
end

