-- ==== Sys2Proof/Machine/Firmware.lean ====
section
/-!
DEFINITION. Machine/Firmware.lean: choosing an image at start-up (R554, R564, R565), activation (R557 to R560), the trial (R561, R562), Firmware Image Download and Firmware Commit (R556), and capsules that waited for
room in the Chute (R198) (19_firmware_update.md).
-/
namespace Sys2Proof.Machine

/-! ## The status sector (R553) -/

/-- The ACT_SEQ of the next activation. -/
def State.nextActSeq (s : State) : Nat := max (s.fw.slotA.actSeq.getD 0) (s.fw.slotB.actSeq.getD 0) + 1

/-- ACT_SEQ, WINDOW_MIN and MODE are programmed: an activation begins. -/
def State.fwArm (s : State) (b : Bool) (window mode : Nat) : State :=
  let n := s.nextActSeq
  let s := s.setFwSlot b { s.fwSlot b with actSeq := some n, window := window, mode := mode }
  let ids : List Nat := s.grps.map (fun (g : Nat × Grp) => g.1)
  let s := { s with fw := { s.fw with served := ids.filter s.groupServes, pairBefore := s.inPair } }
  s.raise 0x4E2

/-- A slot can be activated: it holds a verified image, and its ACT_SEQ word is still erased. -/
def FwSlot.fresh (x : FwSlot) : Bool := x.magic && x.actSeq.isNone && !x.rejected

/-- Codes 0x08 and 0x09 of R552, or 0. -/
def State.fwActCode (s : State) (b : Bool) : Nat :=
  let img := (s.fwSlot b).image
  let cur := s.get F.STORE_STATUS.CURRENT
  if (cur ≠ 0 ∧ leAt img 0x1E 2 < (s.bank (cur - 1)).major) ∨ leAt img 0x20 2 < s.get F.PAT_STATUS.MAJOR then 8
  else match s.fw.partnerFormats with
    | some f => if s.inPair ∧ s.partnerInStep ∧ !formatsMeet (leAt img 0x22 2, leAt img 0x24 2) f then 9 else 0
    | none => 0

/-- The checks of activation: VERIFY takes the code of a failing one. -/
def State.fwActCheck (s : State) (b : Bool) : State × Nat :=
  let code := s.fwActCode b
  if code = 0 then (s, 0) else ((s.setFwSlot b { s.fwSlot b with verify := code }).raise 0x4E1, code)

/-- Fuses are burned until F equals the image's SECURITY_VERSION. -/
def State.burnFuses (s : State) (b : Bool) : State :=
  let v := leAt (s.fwSlot b).image 0x18 1
  if s.dev.fuseSecurity < v then ({ s with dev := { s.dev with fuseSecurity := v } }).raise 0x4E7 else s

/-- An image is rejected with a cause (R561). -/
def State.rejectSlot (s : State) (b : Bool) (cause : Nat) : State :=
  let s := s.setFwSlot b { s.fwSlot b with rejected := true, cause := cause }
  ((s.ledger 0x4E6 24 (if b then 1 else 0) (leBytes 4 cause)).bump F.FWU_FALLBACKS.COUNT).raise 0x4E6

/-- The lowest set bit of BOOTS is cleared. -/
def clearLowest (boots : Nat) : Nat := if bitOf boots 0 then boots - 1 else if bitOf boots 1 then boots - 2 else if bitOf boots 2 then boots - 4 else boots

def State.clearBoot (s : State) (b : Bool) : State := s.setFwSlot b { s.fwSlot b with boots := clearLowest (s.fwSlot b).boots }

/-! ## Start-up (R554, R564, R565) -/

/-- ROM recovery. -/
def State.romRecovery (s : State) : State :=
  let s := { s with pwr := { s.pwr with bootWdog := false } }.setFlag F.FWU_STATUS.RECOVERY true
  (s.set F.PWR_STATE.BOOT_STEP 5).raise 0x4E8

/-- The firmware writes a newer store format than the current bank's: the store is migrated before step 6. -/
def State.migrateStore (s : State) : State :=
  let cur := s.get F.STORE_STATUS.CURRENT
  if cur ≠ 0 ∧ (s.bank (cur - 1)).major < s.storeMajor then
    let s := s.commit [.migrate]
    if s.pat.run.isSome then s else { s with fw := { s.fw with migrateFailed := true } }
  else s

/-- The device boots a slot: fuses of a confirmed image, or a trial boot. -/
def State.bootSlot (s : State) (b : Bool) : State :=
  let s := if (s.fwSlot b).confirmed then s.burnFuses b else s.clearBoot b
  (((s.set F.FWU_STATUS.RUNNING (if b then 1 else 0))).migrateStore).set F.PWR_STATE.BOOT_STEP 5

/-- The slot to boot: the candidate with the higher ACT_SEQ. One that is not confirmed and has no boot left is rejected and passed over while the other is a candidate. -/
def State.chooseSlot (s : State) : State :=
  let a := s.fw.slotA.candidate
  let b := s.fw.slotB.candidate
  if !a && !b then s.romRecovery
  else
    let first := if a && b then decide (s.fw.slotA.actSeq.getD 0 < s.fw.slotB.actSeq.getD 0) else b
    let x := s.fwSlot first
    if !x.confirmed && x.boots == 0 && (s.fwSlot (!first)).candidate then (s.rejectSlot first 3).bootSlot (!first)
    else s.bootSlot first

/-- FIRMWARE_SELECT: step 5 of R533; the operands are the verdicts of the cryptographic checks of the two images. -/
def execFirmwareSelect (slotA slotB : FwChecks) (s : State) : Result :=
  .next (
    if s.power = stResetting ∧ s.get F.PWR_STATE.BOOT_STEP = 4 ∧ s.pwr.fatalNs.isNone then
      let s := if s.fw.slotA.magic then (s.fwCheck false slotA).1 else s
      let s := if s.fw.slotB.magic then (s.fwCheck true slotB).1 else s
      if s.flag F.RST_CAUSE.RECOVERY then s.romRecovery else s.chooseSlot
    else s)

/-! ## Activation (R557 to R560) -/

/-- The firmware activation notice goes to every controller that asks for it (R556). -/
def State.fwNotice (s : State) : State :=
  ((s.nvm.ctrls.filter (fun c => !c.discovery)).map (·.id)).foldl (fun (s : State) (id : Nat) => s.asyncEvent id 2 1 3) s

/-- A live switch to a slot begins (R559). -/
def State.beginSwitch (s : State) (b : Bool) (phase : Nat) : State :=
  { s with fw := { s.fw with switching := [3, 2, 1, 0], switchSlotB := b, phase := phase } }

/-- A rolling activation, in step: both slots are armed, and the follower takes its warm reset (step 1 of R560). -/
def State.fwPairStep (s : State) (window : Nat) : State :=
  let b := s.fwTarget
  if !(s.fwSlot b).fresh then s
  else
    let s := s.fwArm b window 2
    let s := { s with fw := { s.fw with phase := 2 } }
    if s.role = roleFollower then s.askWarm 2 else s

/-- The follower has confirmed: the leader asks for a handover (step 2 of R560). -/
def State.fwConfirmedStep (s : State) : State :=
  if s.role = roleLeader ∧ s.fw.phase = 2 then ({ s with fw := { s.fw with phase := 3 } }).askHandover else s

/-- The follower has fallen back: the leader keeps its image. -/
def State.fwFellBackStep (s : State) : State :=
  if s.role = roleLeader ∧ s.fw.phase = 2 then { s with fw := { s.fw with phase := 0 } } else s

/-- A handover has passed the service on: the old leader takes the warm reset that waited for it (R560, R561). -/
def State.fwHandedOver (s : State) : State :=
  if s.fw.phase = 3 then ({ s with fw := { s.fw with phase := 4 } }).askWarm 2
  else if s.fw.phase = 5 ∧ s.fw.switching = [] then s.askWarm 2
  else s

/-- A rolling activation runs, or a live switch. -/
def State.fwBusy (s : State) : Bool := s.fw.switching != [] || s.fw.phase != 0

/-- The target slot is activated in a mode; the formats have been checked. Mode 2 is numbered by the controller that numbers inputs. In ROM recovery mode 0 is a cold reset (R564). -/
def State.fwActivate (s : State) (mode window : Nat) (numbered : Bool) : State :=
  let b := s.fwTarget
  if mode = 2 then (if numbered then s.observe (.mgmt (.fwPair window)) else s)
  else
    let s := s.fwArm b window mode
    if mode = 1 then s.beginSwitch b 1
    else if s.flag F.FWU_STATUS.RECOVERY then (s.resetTo .cold).bootSteps .cold 0
    else s.askWarm 2

/-- Firmware tasks of a cluster stop at their handover points, and tenant tasks are pre-empted with their contexts saved (R559 steps 1 and 2). -/
def State.stopCluster (s : State) (c : Nat) : State :=
  let ran := (enginesOf c).filter (fun e => s.flag F.ENG_STATUS.TENANT e)
  let s := { s with eng := { s.eng with waits := s.eng.waits.filter (fun w => !(enginesOf c).contains w.1) } }
  ran.foldl (fun (s : State) (e : Nat) => s.emit (.preempted e (s.get F.ENG_STATUS.PRIORITY e))) s

/-- CLUSTER_SWITCH: the next cluster runs the new image; with C0 the activation is complete, and the trial of a new image starts. -/
def execClusterSwitch (s : State) : Result :=
  .next (
    match s.fw.switching with
    | [] => s
    | c :: rest =>
      let s := (({ s with fw := { s.fw with switching := rest } }).stopCluster c).raise 0x4E3
      if rest ≠ [] then s
      else
        let b := s.fw.switchSlotB
        let back := s.fw.phase == 5
        let s := ({ s with fw := { s.fw with phase := 0 } }).set F.FWU_STATUS.RUNNING (if b then 1 else 0)
        if back then s else (s.clearBoot b).trialStart.stepWrite .svc .fwActivated State.fwNotice)

/-! ## The trial (R561, R562) -/

/-- The health conditions. -/
def State.fwHealthy (s : State) : Bool :=
  let cur := s.get F.STORE_STATUS.CURRENT
  s.ready && !s.fw.trialBad && s.dev.faulted.isEmpty && s.get F.MEM_SELFTEST.FAIL == 0
    && s.flag F.PAT_STATUS.LOADED && !s.flag F.PAT_STATUS.ERROR
    && s.fw.served.all s.groupServes && (!s.fw.pairBefore || s.inPair)
    && (!s.fw.migrateFailed || cur == 0 || (s.bank (cur - 1)).major == s.storeMajor)

/-- The trial ends. -/
def State.trialOver (s : State) : State := s.setFlag F.FWU_STATUS.TRIAL false

/-- The running image is confirmed: CONFIRMED, fuses, events, the bank in the newer format (R78), and the next part of R560. -/
def State.fwConfirm (s : State) : State :=
  let b := s.fwRunsB
  let phase := s.fw.phase
  let s := (s.setFwSlot b { s.fwSlot b with confirmed := true }).trialOver
  let s := (s.burnFuses b).raise 0x4E5
  let cur := s.get F.STORE_STATUS.CURRENT
  let s := if cur ≠ 0 ∧ ((s.bank (cur - 1)).migrated ∨ (s.bank (cur - 1)).major < s.storeMajor) then s.commit [.confirm] else s
  let s := { s with fw := { s.fw with phase := 0 } }
  if phase = 2 ∧ s.inPair then s.observe (.mgmt .fwConfirmed) else s

/-- The device returns to the other slot. -/
def State.fwReturn (s : State) : State :=
  let b := s.fwRunsB
  let told := s.fw.phase == 2 && s.inPair
  let s := if told then s.observe (.mgmt .fwFellBack) else s
  let s := { s with fw := { s.fw with phase := 5 } }
  if s.role = roleLeader ∧ s.partnerInStep then s.askHandover
  else if s.role = roleAlone ∧ (s.fwSlot b).mode = 1 then s.beginSwitch (!b) 5
  else s.askWarm 2

/-- The running image is rejected, while the other slot is a candidate; otherwise it keeps running, with cause 4. -/
def State.fwReject (s : State) (cause : Nat) : State :=
  let b := s.fwRunsB
  let s := s.trialOver
  if (s.fwSlot (!b)).candidate then (s.rejectSlot b cause).fwReturn
  else (s.setFwSlot b { s.fwSlot b with cause := 4 }).raise 0x4E6

/-- TRIAL_EVALUATION: at the next whole second of the trial the conditions are evaluated. -/
def execTrialEvaluation (s : State) : Result :=
  .next (
    if !s.flag F.FWU_STATUS.TRIAL then s
    else
      let sec := (s.dev.timeNs - s.fw.trialNs) / 1000000000 + 1
      let s := s.reach (s.fw.trialNs + sec * 1000000000)
      if (s.fwSlot s.fwRunsB).window * 60 ≤ 4 * sec ∧ s.fwHealthy then s.fwConfirm else s)

/-- TRIAL_EXPIRY: the window has passed unconfirmed. -/
def execTrialExpiry (s : State) : Result :=
  .next (
    if s.flag F.FWU_STATUS.TRIAL then (s.reach (s.fw.trialNs + (s.fwSlot s.fwRunsB).window * 60000000000)).fwReject 1 else s)

/-! ## Firmware Image Download and Firmware Commit (R167, R556) -/

/-- A firmware command runs on a SERVICE subsystem only. -/
def State.serviceGate (s : State) (c : Cmd) : Option NvmeStatus :=
  if !s.subFlag c.sub 6 then some stDenied
  else if s.flag F.FWU_STATUS.TRIAL || s.fwBusy then some stFwProhibited
  else none

def State.fwDownload (s : State) (q : NvmQueue) (c : Cmd) : State :=
  match s.serviceGate c with
  | some st => s.endCmd c st
  | none =>
    match s.sglGate q c (4 * (c.cap.cdw10 + 1)) true with
    | some st => s.endCmd c st
    | none => s.fetchData c

/-- FIRMWARE_IMAGE_DOWNLOAD. -/
def execFirmwareImageDownload (queue : Nat) (cap : Capsule) (s : State) : Result :=
  .next (s.inStep (fun s => s.onCapsule queue cap (.admin 0x11) (byEngines State.fwDownload)))

/-- Commit action and slot of a Firmware Commit. -/
def Capsule.commitAction (c : Capsule) : Nat := c.cdw10 / 8 % 8
def Capsule.commitSlot (c : Capsule) : Nat := c.cdw10 % 8

/-- The slot that a Firmware Commit names: 0 the target, 1 A, 2 B. -/
def State.commitTarget (s : State) (c : Capsule) : Option Bool :=
  if c.commitSlot = 0 then some s.fwTarget else if c.commitSlot = 1 then some false else if c.commitSlot = 2 then some true else none

/-- A commit of the target slot: its image is verified, then `f` acts. -/
def State.fwCommit (s : State) (c : Cmd) (chk : FwChecks) (f : State → State × NvmeStatus) : State :=
  match s.serviceGate c with
  | some st => s.endCmd c st
  | none =>
    if s.commitTarget c.cap ≠ some s.fwTarget then s.endCmd c stFwSlot
    else
      let (s, code) := s.fwVerify chk
      if code ≠ 0 then s.endCmd c stFwImage
      else
        let (s, st) := f s
        s.endCmd c st

/-- A verified target slot is activated in a mode (actions 1 and 3). -/
def State.fwCommitActivate (act : State → State) (s : State) : State × NvmeStatus :=
  let (s, code) := s.fwActCheck s.fwTarget
  if code ≠ 0 then (s, stFwImage)
  else if !(s.fwSlot s.fwTarget).fresh then (s, stFwProhibited)
  else (act s, stOk)

/-- A Firmware Commit of a row; one whose commit action another row stands for is left to it. -/
def State.onCommit (s : State) (queue : Nat) (cap : Capsule) (mine : Nat → Bool) (f : State → NvmQueue → Cmd → State) : State :=
  if mine cap.commitAction then s.onCapsule queue cap (.admin 0x10) (byEngines f) else s

/-- FW_COMMIT_VERIFY: action 0; an action that R556 does not list ends with Invalid Field in Command. -/
def execFwCommitVerify (queue : Nat) (cap : Capsule) (chk : FwChecks) (s : State) : Result :=
  .next (s.inStep (fun s => s.onCommit queue cap (fun a => a == 0 || decide (4 ≤ a)) (fun s _ c =>
    if cap.commitAction ≠ 0 then s.endCmd c stField else s.fwCommit c chk (fun s => (s, stOk)))))

/-- FW_COMMIT_NEXT_RESET: action 1. -/
def execFwCommitNextReset (queue : Nat) (cap : Capsule) (chk : FwChecks) (s : State) : Result :=
  .next (s.inStep (fun s => s.onCommit queue cap (fun a => a == 1) (fun s _ c =>
    s.fwCommit c chk (State.fwCommitActivate (fun s => s.fwArm s.fwTarget 15 0)))))

/-- Action 2: the image that the named slot already holds boots at the next reset. -/
def State.fwCommitHeld (s : State) (_q : NvmQueue) (c : Cmd) : State :=
  match s.serviceGate c with
  | some st => s.endCmd c st
  | none =>
    match s.commitTarget c.cap with
    | none => s.endCmd c stFwSlot
    | some b =>
      if !(s.fwSlot b).magic then s.endCmd c stFwImage
      else if (s.fwSlot b).actSeq.isSome then
        -- the word is programmed once: a slot that is next already needs nothing
        s.endCmd c (if (s.fwSlot b).actSeq.getD 0 + 1 = s.nextActSeq && !(s.fwSlot b).rejected then stOk else stFwProhibited)
      else
        let (s, code) := s.fwActCheck b
        if code ≠ 0 then s.endCmd c stFwImage else (s.fwArm b 15 0).endCmd c stOk

/-- FW_COMMIT_SLOT: action 2. -/
def execFwCommitSlot (queue : Nat) (cap : Capsule) (s : State) : Result :=
  .next (s.inStep (fun s => s.onCommit queue cap (fun a => a == 2) State.fwCommitHeld))

/-- FW_COMMIT_NOW: action 3; mode 2 with the partner in step, otherwise mode 1. `partnerHolds` says that the partner's target slot holds a verified image of equal VERSION. -/
def execFwCommitNow (queue : Nat) (cap : Capsule) (chk : FwChecks) (partnerHolds : Bool) (s : State) : Result :=
  .next (s.inStep (fun s => s.onCommit queue cap (fun a => a == 3) (fun s _ c =>
    s.fwCommit c chk (fun s =>
      if s.inPair ∧ s.partnerInStep then
        (if partnerHolds then State.fwCommitActivate (fun s => s.fwActivate 2 15 s.numbers) s else (s, stFwProhibited))
      else State.fwCommitActivate (fun s => s.fwActivate 1 15 true) s))))

/-! ## CHUTE_ADMIT (R198) -/

/-- The state that a meaning answers. -/
def State.after (s : State) (r : Result) : State :=
  match r with
  | .next t => t
  | _ => s

/-- The row that stands for a fabrics capsule: the last one also ends what no row is for (R166). -/
def fabricsRow (queue : Nat) (cap : Capsule) (m : AuthMsg) (s : State) : State :=
  let t := cap.fctype
  if t = 0x00 then s.after (execPropertySet queue cap s)
  else if t = 0x04 then s.after (execPropertyGet queue cap s)
  else if t = 0x05 then s.after (execAuthSend queue cap m s)
  else if t = 0x06 then s.after (execAuthReceive queue cap m s)
  else s.after (execDisconnect queue cap s)

/-- The row that stands for an admin capsule: the last one also ends what no row is for (R166). -/
def adminRow (queue : Nat) (cap : Capsule) (chk : FwChecks) (partnerHolds : Bool) (s : State) : State :=
  let o := cap.opcode
  if o = 0x06 then s.after (execIdentify queue cap s)
  else if o = 0x02 then s.after (execGetLogPage queue cap s)
  else if o = 0x08 then s.after (execAbort queue cap s)
  else if o = 0x09 then s.after (execSetFeatures queue cap s)
  else if o = 0x0A then s.after (execGetFeatures queue cap s)
  else if o = 0x0C then s.after (execAsyncEventRequest queue cap s)
  else if o = 0x11 then s.after (execFirmwareImageDownload queue cap s)
  else if o = 0x10 then
    (if cap.commitAction = 1 then s.after (execFwCommitNextReset queue cap chk s)
    else if cap.commitAction = 2 then s.after (execFwCommitSlot queue cap s)
    else if cap.commitAction = 3 then s.after (execFwCommitNow queue cap chk partnerHolds s)
    else s.after (execFwCommitVerify queue cap chk s))
  else s.after (execKeepAlive queue cap s)

/-- The row that stands for an I/O capsule: the last one also ends what no row is for (R168). -/
def ioRow (queue : Nat) (cap : Capsule) (s : State) : State :=
  let o := cap.opcode
  if o = 0x00 then s.after (execFlush queue cap s)
  else if o = 0x01 then s.after (execNvmeWrite queue cap s)
  else if o = 0x02 then s.after (execNvmeRead queue cap s)
  else if o = 0x05 then s.after (execCompare queue cap s)
  else if o = 0x08 then s.after (execWriteZeroes queue cap s)
  else if o = 0x09 then s.after (execDatasetManagement queue cap s)
  else if o = 0x0C then s.after (execVerify queue cap s)
  else if o = 0x0D then s.after (execReservationRegister queue cap s)
  else if o = 0x0E then s.after (execReservationReport queue cap s)
  else if o = 0x11 then s.after (execReservationAcquire queue cap s)
  else s.after (execReservationRelease queue cap s)

/-- CHUTE_ADMIT: the capsule that has waited longest is taken, as its own row says; the operands are the verdicts that such a row has. -/
def execChuteAdmit (m : AuthMsg) (chk : FwChecks) (partnerHolds : Bool) (s : State) : Result :=
  .next (
    match s.nvm.waiting with
    | [] => s
    | (key, cap) :: rest =>
      if chuteLimit ≤ s.chuteCmds then s
      else
        let s := { s with nvm := { s.nvm with waiting := rest } }
        match s.nq? key with
        | none => s
        | some q =>
          if cap.opcode = fabricsOp then fabricsRow key cap m s
          else if q.qid = 0 then adminRow key cap chk partnerHolds s
          else ioRow key cap s)

end Sys2Proof.Machine
end

