-- ==== Sys2Proof/Machine/PatternLoad.lean ====
section
/-!
DEFINITION. Machine/PatternLoad.lean: step 4 of start-up, the load of the Pattern (R52 to R55, R64, R71, R587, R588, R592), and the fields whose reset value is "pat" (R18).
-/
namespace Sys2Proof.Machine

/-- What the authenticity stage finds in a user image: PE_05, then PE_06 for a key that is not that of its slot (R52, R53). -/
def State.userAuth (s : State) (img : List Byte) (sig : SigCheck) : Option Nat :=
  if !sig.verifies then some 5
  else
    let burned (i : Nat) : Option Nat := (s.dev.ownerKeys.getD i (none, true)).1
    let slot := leAt img (imgSig img + 2) 2
    if (burned 0).isNone || decide (4 ≤ slot) || (s.dev.ownerKeys.getD slot (none, true)).2 || burned slot != some sig.keyDigest then some 6 else none

/-- The configuration of the Pattern that the store holds, when it passes its checks; otherwise the error, or neither when the store holds none. -/
def State.userConfig (s : State) (sig : SigCheck) : Option (Except PatErr (List CfgRec)) :=
  s.pat.settings.pattern.map (fun img => checkImage img (s.userAuth img sig) none none [])

/-- The engine runs tenant code by the engine roles in force (R466). -/
def State.tenantByRole (s : State) (n : Nat) : Bool :=
  bitOf (s.cfg 0x00B0 (n / 8) 4 1 0) 3 && decide (8 ≤ n % 8 + s.cfg 0x00B0 (n / 8) 5 1 0)

/-- Fields that a load after a cold reset sets (R18, R35). -/
def State.patCold (s : State) : State :=
  (s.set F.GLB_SIDE.PROFILE s.ownProfile).set F.GLB_SHELF_ID.SHELF_ID (s.cfg 0x0001 0 0 8 0)

/-- Fields that every load sets (R18, R274, R422). -/
def State.patWarm (s : State) : State :=
  let s := (List.range 4).foldl (fun (s : State) (p : Nat) => s.set F.HP_PORT_STATUS.MODE (s.cfg 0x0020 p 4 1 0) p) s
  let s := (List.range 48).foldl (fun (s : State) (n : Nat) => s.setFlag F.SLOT_CTL.ENABLE (bitOf (s.cfg 0x0040 n 4 1 1) 0) n) s
  let s := (s.set F.VLT_LIMIT_EFF.MIB (s.cfg 0x0050 0 0 4 12288)).set F.SKD_CTL.PRIORITY (s.cfg 0x00D0 0 6 1 2)
  let s := s.set F.SKD_RATE.GBS (s.cfg 0x00D0 0 8 2 640)
  (List.range 32).foldl (fun (s : State) (n : Nat) => s.setFlag F.ENG_STATUS.TENANT (s.tenantByRole n) n) s

/-- Puts a configuration in force: at a warm reset with the cold-class records of the always-on copy (R64), with the overlay values that hold (R592). -/
def State.putInForce (s : State) (rs : List PatRec) (warm : Bool) : State :=
  let base := if warm then rs.filter (fun r => changeOf r.type != some .cold) ++ s.pat.cold else rs
  let a := ovlAll base s.pat.settings.overlay
  let s := { s with pat := { s.pat with live := a.1, cold := if warm then s.pat.cold else ofClass .cold a.1 } }
  let s := s.showPending rs
  let s := if warm then s else s.patCold
  (s.patWarm.loadGates).ovlDiscarded a.2

/-- The load completes: PAT_STATUS, warnings, PAT_LOADED. -/
def State.loaded (s : State) (user : Bool) : State :=
  let s := (s.setFlag F.PAT_STATUS.LOADED true).showSource (!user)
  let s := s.patWarns (configWarnings s.pat.live user)
  (s.set F.PWR_STATE.BOOT_STEP 4).raise 0x007

/-- The factory Pattern fails: start-up stops at step 4 until the next cold reset (R588). -/
def State.factoryFails (s : State) : State :=
  ({ s with pat := { s.pat with factoryFailed := true }, pwr := { s.pwr with bootWdog := false } }).patError ⟨19, headerIdx, 0⟩

/-- PATTERN_LOAD: after step 3. -/
def execPatternLoad (chk : LoadChecks) (s : State) : Result :=
  .next (
    if s.power ≠ stResetting ∨ s.get F.PWR_STATE.BOOT_STEP ≠ 3 ∨ s.pat.factoryFailed then s
    else if !chk.factoryOk then s.factoryFails
    else
      let warm := s.pwr.resetting == 1
      match s.userConfig chk.sig with
      | some (.ok c) => (s.putInForce (c.map CfgRec.pat) warm).loaded true
      | some (.error e) => ((s.putInForce factoryRecords warm).patError e).loaded false
      | none => (s.putInForce factoryRecords warm).loaded false)

end Sys2Proof.Machine
end

