-- ==== Sys2Proof/Machine/Tasks.lean ====
section
/-!
DEFINITION. Machine/Tasks.lean: the task interface: acceptance, data, the stream, deferral and the end of a task (R451 to R462), and what each task does (14_service_port.md).
-/
namespace Sys2Proof.Machine

/-! ## Status codes (R458) and the table of tasks (R455) -/

def tsOk : Nat := 0
def tsBadCode : Nat := 1
def tsBadArg : Nat := 2
def tsBadData : Nat := 3
def tsDmaFault : Nat := 4
def tsResource : Nat := 5
def tsSignature : Nat := 6
def tsRefused : Nat := 7
def tsPattern : Nat := 8
def tsStore : Nat := 9
def tsPartner : Nat := 10
def tsNotFound : Nat := 11
def tsInternal : Nat := 12

/-- A row of the table: data that the device reads, whether the task enters the stream, whether it wakes the device. -/
structure TaskInfo where
  takesData : Bool
  step : Bool
  wakes : Bool
  deriving DecidableEq, Repr

/-- The table of R455, with the firmware tasks of 19_firmware_update.md. -/
def taskInfo (code : Nat) : Option TaskInfo :=
  match code with
  | 0x0001 => some ⟨false, false, false⟩
  | 0x0002 => some ⟨false, false, false⟩
  | 0x0010 => some ⟨true, true, true⟩
  | 0x0011 => some ⟨false, true, true⟩
  | 0x0012 => some ⟨false, true, false⟩
  | 0x0013 => some ⟨false, true, false⟩
  | 0x0020 => some ⟨true, false, true⟩
  | 0x0021 => some ⟨true, true, true⟩
  | 0x0030 => some ⟨true, true, true⟩
  | 0x0031 => some ⟨true, true, true⟩
  | 0x0032 => some ⟨true, true, true⟩
  | 0x0033 => some ⟨true, true, true⟩
  | 0x0040 => some ⟨true, false, true⟩
  | 0x0041 => some ⟨false, false, true⟩
  | 0x0042 => some ⟨false, false, true⟩
  | 0x0043 => some ⟨false, false, true⟩
  | 0x0044 => some ⟨false, false, true⟩
  | 0x0050 => some ⟨false, true, true⟩
  | 0x0051 => some ⟨false, true, true⟩
  | 0x0052 => some ⟨true, false, true⟩
  | 0x0060 => some ⟨false, true, true⟩
  | 0x0061 => some ⟨false, true, true⟩
  | 0x0062 => some ⟨false, true, true⟩
  | 0x0070 => some ⟨true, true, false⟩
  | 0x0080 => some ⟨false, true, false⟩
  | 0x0081 => some ⟨false, false, false⟩
  | 0x0090 => some ⟨false, false, false⟩
  | _ => none

/-- Tasks that are carried out while start-up is stopped under R588, and in ROM recovery (R564). -/
def State.taskShut (s : State) (code : Nat) (mode : Nat) : Bool :=
  if s.pat.factoryFailed then !([0x0001, 0x0002, 0x0090].contains code)
  else if s.flag F.FWU_STATUS.RECOVERY then
    !([0x0001, 0x0002, 0x0040, 0x0041, 0x0090].contains code || (code == 0x0042 && mode == 0))
  else false

/-- ARG i: 0 from ARGC on (R452). -/
def TaskGo.arg (g : TaskGo) (i : Nat) : Nat := if i < g.argc then g.args.getD i 0 % 2 ^ 32 else 0

/-- The 16 words of a command block (R451). -/
def TaskGo.words (g : TaskGo) (code : Nat) : List Nat :=
  [code % 65536 + g.argc % 256 * 65536 + g.flags % 256 * 2 ^ 24, g.tag, g.dataAddr % 2 ^ 32, g.dataAddr / 2 ^ 32, g.dataLen, 0]
    ++ (List.range 10).map (fun i => g.args.getD i 0)

/-! ## The runs -/

/-- A run goes on in another state. -/
def State.moveRun (s : State) (r r' : TaskRun) : State := { s with tasks := s.tasks.erase r ++ [r'] }

/-- The task that this service port holds in TASK_STATUS. -/
def State.ownRun (s : State) : Option TaskRun := s.tasks.find? (·.own)

/-- The task of this service port ends: results and TAG, then DONE and CODE, then BUSY (R459). -/
def State.finishTask (s : State) (r : TaskRun) (code : Nat) (res : List Nat) : State :=
  let s := { s with tasks := s.tasks.erase r }
  let s := (List.range 4).foldl (fun (s : State) (i : Nat) => s.set F.TASK_RESULT.VALUE (res.getD i 0) i) s
  let s := (((s.set F.TASK_TAG.TAG r.go.tag).setFlag F.TASK_STATUS.DONE true).set F.TASK_STATUS.CODE code).setFlag F.TASK_STATUS.DEFERRED false
  let s := s.setFlag F.TASK_STATUS.BUSY false
  if bitOf r.go.flags 0 then s.raise 0x4C0 else s

/-- The task has entered the stream, or acts on this controller alone. -/
def TaskPhase.streamed? : TaskPhase → Bool
  | .reading => false
  | .deferred => false
  | _ => true

/-- A run ends here; a step task of this service port ends once the partner in step has ended it too (R460). -/
def State.endRun (s : State) (r : TaskRun) (code : Nat) (res : List Nat) : State :=
  if !r.own then { s with tasks := s.tasks.erase r }
  else if r.phase.streamed? && ((taskInfo r.code).any (·.step)) && s.inPair && s.partnerInStep then s.moveRun r { r with phase := .partner code res }
  else s.finishTask r code res

/-- What carrying out a task comes to: its end, a commit on whose completion it ends, or work over further steps. -/
inductive TaskStep where
  | ends (code : Nat) (res : List Nat)
  | commits (changes : List StoreChange) (code : Nat) (res : List Nat)
  | works
  deriving DecidableEq, Repr

/-- A run after it has been carried out. A store that refuses commits ends it with STORE (R72). -/
def State.settleRun (s : State) (r : TaskRun) (x : TaskStep) : State :=
  match x with
  | .ends code res => s.endRun r code res
  | .works => s.moveRun r { r with phase := .working }
  | .commits cs code res =>
    if s.storeRefuses then s.refuseCommit.endRun r tsStore [5]
    else
      let waits := s.pat.run.isSome || s.flag F.PWR_PINS.PWRFAIL || s.pwr.warm.isSome
      (s.commit cs).moveRun r { r with phase := if waits then .queued code res else .commit code res }

/-! ## Pattern tasks (R457, R50, R57 to R67, R593) -/

/-- A delivered Pattern is being committed (R66). -/
def State.patternBusy (s : State) : Bool :=
  let has (cs : List StoreChange) : Bool := cs.any (fun c => match c with | .pattern _ => true | _ => false)
  has s.pat.waiting || (match s.pat.run with | some r => has r.changes | none => false)

def State.setDelivery (s : State) (d : Option (Nat × List Byte)) : State := { s with pat := { s.pat with delivery := d } }

def taskPatBlock (s : State) (r : TaskRun) : State × TaskStep :=
  let off := r.go.arg 0
  let len := r.go.arg 1
  if s.flag F.FWU_STATUS.TRIAL then (s, .ends tsRefused [])
  else match s.pat.delivery with
    | none =>
      if s.patternBusy then (s, .ends tsResource [])
      else if off ≠ 0 ∨ 4194304 < len then (s, .ends tsBadArg [])
      else if len < r.data.length then (s, .ends tsBadData [])
      else (s.setDelivery (some (len, r.data)), .ends tsOk [])
    | some (n, b) =>
      if off = 0 then (s, .ends tsResource [])
      else if off ≠ b.length ∨ len ≠ n then (s, .ends tsBadArg [])
      else if n < b.length + r.data.length then (s, .ends tsBadData [])
      else (s.setDelivery (some (n, b ++ r.data)), .ends tsOk [])

/-- The sequence in force (R67). -/
def State.patSeq (s : State) : Nat := (s.pat.settings.pattern.map imgSeq).getD 0

/-- Groups whose members carry a Brand, with their geometry (PE_17). -/
def State.branded (s : State) : List (Nat × Brand) :=
  (s.grps.filter (fun (g : Nat × Grp) => g.2.brand.seq != 0)).map (fun (g : Nat × Grp) => (g.1, g.2.brand))

/-- A delivered Pattern is rejected: the controller that received it reports its own code, or PE_18 (R65). -/
def State.patRejected (s : State) (e : PatErr) : State × TaskStep := (s.patError e, .ends tsPattern [e.code])

def taskPatCommit (s : State) (r : TaskRun) : State × TaskStep :=
  if s.flag F.FWU_STATUS.TRIAL then (s, .ends tsRefused [])
  else match s.pat.delivery with
    | none => (s, .ends tsBadData [])
    | some (n, img) =>
      let s := s.setDelivery none
      if img.length ≠ n then (s, .ends tsBadData [])
      else match checkImage img (s.userAuth img r.aux.sig) (some s.patSeq) (some s.pat.live) s.branded with
        | .error e => s.patRejected e
        | .ok _ => if r.aux.partnerPe ≠ 0 ∧ s.inPair then s.patRejected ⟨18, headerIdx, 0⟩ else (s, .commits [.pattern img] tsOk [])

def taskPatAbort (s : State) (_r : TaskRun) : State × TaskStep := (s.setDelivery none, .ends tsOk [])

def taskOverlaySet (s : State) (r : TaskRun) : State × TaskStep :=
  let a := r.go.arg
  let v : OvlVal := ⟨a 0, a 1, a 2, a 3, (a 4 + a 5 * 2 ^ 32) % 2 ^ (8 * a 3 % 128)⟩
  if s.flag F.FWU_STATUS.TRIAL then (s, .ends tsRefused [])
  else if !ovlPermits s.pat.live v then (s, .ends tsBadArg [])
  else if !s.hasRecord v.type v.inst then (s, .ends tsNotFound [])
  else match ovlApply s.pat.live v with
    | .error e => (s, .ends tsPattern [e])
    | .ok _ => (s, .commits [.overlay v] tsOk [])

/-! ## Owner keys and signed tasks (R453, R454, R456) -/

/-- The newest owner-key slot that is burned and not revoked: its digest. -/
def State.ownerDigest (s : State) : Option Nat :=
  ((s.dev.ownerKeys.filter (fun k => k.1.isSome && !k.2)).getLast?).bind (·.1)

/-- A key's digest is burned into the first unburned slot; the slot before it is revoked. -/
def State.burnOwner (s : State) (digest : Nat) : State :=
  let i := (s.dev.ownerKeys.takeWhile (fun k => k.1.isSome)).length
  let ks := s.dev.ownerKeys.set i (some digest, false)
  let ks := if i = 0 then ks else ks.set (i - 1) ((ks.getD (i - 1) (none, false)).1, true)
  { s with dev := { s.dev with ownerKeys := ks } }

def taskOwnerCommission (s : State) (r : TaskRun) : State × TaskStep :=
  if r.data.length ≠ 97 then (s, .ends tsBadData [])
  else if ((s.dev.ownerKeys.getD 0 (none, false)).1).isSome then (s, .ends tsRefused [])
  else (s.burnOwner r.aux.digest, .ends tsOk [])

/-- The length of a signing trailer. -/
def trailerLen : Nat := 193

/-- A signed task: refused before its signature is checked while no commit is possible; ended with SIGNATURE and SIG_FAIL when a check of R453 fails; otherwise as `f` says over the data before the
trailer. However it ends, the advanced nonce is committed with it. -/
def State.signedTask (s : State) (r : TaskRun) (f : State → List Byte → State × Except Nat (List StoreChange)) : State × TaskStep :=
  let n := s.pat.settings.sigNonce
  let nonce : List StoreChange := [.sigNonce (n + 1)]
  if s.storeRefuses ∨ s.flag F.FWU_STATUS.TRIAL then (s, .ends tsRefused [])
  else if r.data.length < trailerLen then (s, .commits nonce tsBadData [])
  else if r.go.arg 8 ≠ n % 2 ^ 32 ∨ r.go.arg 9 ≠ n / 2 ^ 32 ∨ s.ownerDigest ≠ some r.aux.sig.keyDigest ∨ !r.aux.sig.verifies then
    (s.raise 0x4C6, .commits nonce tsSignature [])
  else match f s (r.data.take (r.data.length - trailerLen)) with
    | (s, .error code) => (s, .commits nonce code [])
    | (s, .ok cs) => (s, .commits (cs ++ nonce) tsOk [])

def taskOwnerRotate (s : State) (r : TaskRun) : State × TaskStep :=
  s.signedTask r (fun s d =>
    if d.length ≠ 97 then (s, .error tsBadData)
    else if s.dev.ownerKeys.all (fun k => k.1.isSome) ∨ !r.aux.sameSlot then (s, .error tsRefused)
    else (s.burnOwner r.aux.digest, .ok []))

/-! ## Key tasks (R137, R142, R454) -/

/-- An epoch is installed: CURRENT when no slot is CURRENT. -/
def installEpoch (es : List EpochKey) (epoch key : Nat) : Option (List EpochKey) :=
  if epoch = 0 ∨ es.any (fun k => k.state != .empty && k.epoch == epoch) then none
  else
    let st : EpochSt := if es.any (fun k => k.state == .current) then .rxOnly else .current
    match es.findIdx? (fun k => k.state == .empty) with
    | some i => some (es.set i ⟨epoch, st, key⟩)
    | none => none

/-- RX_ONLY becomes CURRENT, and CURRENT DRAINING. -/
def switchEpoch (es : List EpochKey) : Option (List EpochKey) :=
  if es.any (fun k => k.state == .rxOnly) then
    some (es.map (fun (k : EpochKey) => match k.state with
      | .rxOnly => { k with state := .current }
      | .current => { k with state := .draining }
      | _ => k))
  else none

/-- DRAINING becomes EMPTY. -/
def retireEpoch (es : List EpochKey) : Option (List EpochKey) :=
  if es.any (fun k => k.state == .draining) then some (es.map (fun (k : EpochKey) => if k.state = .draining then epoch0 else k)) else none

def epochsOr (es : Option (List EpochKey)) : Except Nat (List StoreChange) :=
  match es with
  | some l => .ok [.epochs l]
  | none => .error tsRefused

def taskKeyInstall (s : State) (r : TaskRun) : State × TaskStep :=
  s.signedTask r (fun s d =>
    if d.length ≠ 314 then (s, .error tsBadData)
    else if 0xFFFF < r.go.arg 0 then (s, .error tsBadArg)
    else match r.aux.key.key with
      | none => (s, .error tsBadData)
      | some key =>
        if s.profile ≠ 0 ∧ !r.aux.key.partnerOpens then (s, .error tsBadData)
        else (s, epochsOr (installEpoch s.pat.settings.epochs (r.go.arg 0) key)))

def taskKeySwitch (s : State) (r : TaskRun) : State × TaskStep :=
  s.signedTask r (fun s d => if d ≠ [] then (s, .error tsBadData) else (s, epochsOr (switchEpoch s.pat.settings.epochs)))

def taskKeyRetire (s : State) (r : TaskRun) : State × TaskStep :=
  s.signedTask r (fun s d =>
    if d ≠ [] then (s, .error tsBadData)
    else if s.nowUs < s.flm.switchUs + s.lmaxUs then (s, .error tsRefused)
    else (s, epochsOr (retireEpoch s.pat.settings.epochs)))

def taskAdmitSet (s : State) (r : TaskRun) : State × TaskStep :=
  s.signedTask r (fun s d =>
    if d ≠ [] then (s, .error tsBadData)
    else if 16 ≤ r.go.arg 0 then (s, .error tsBadArg)
    else (s, .ok [.admission (r.go.arg 0) (r.go.arg 1) (r.go.arg 2)]))

/-! ## Firmware tasks (R555, R557, R561, R563) -/

def taskFwBlock (s : State) (r : TaskRun) : State × TaskStep :=
  let off := r.go.arg 0
  let len := r.go.arg 1
  if s.flag F.FWU_STATUS.TRIAL then (s, .ends tsRefused [])
  else if len < 464 ∨ fwMaxLen < len then (s, .ends tsBadArg [])
  else
    let put (s : State) (n : Nat) : State × TaskStep :=
      if len < n + r.data.length then (s, .ends tsBadData [])
      else
        let s := if n = 0 then s.fwOpen len else s
        let s := s.fwProgram r.data
        if n + r.data.length = len then (s, .works) else (s, .ends tsOk [])
    match s.fw.delivery with
    | none => if off ≠ 0 then (s, .ends tsBadArg []) else if s.fwBusy then (s, .ends tsRefused []) else put s 0
    | some (m, n) =>
      if off = 0 then (s, .ends tsResource [])
      else if off ≠ n ∨ len ≠ m then (s, .ends tsBadArg [])
      else put s n

def taskFwAbort (s : State) (_r : TaskRun) : State × TaskStep := (s.fwClose, .ends tsOk [])

/-- The checks of FW_ACTIVATE; what follows its reply stands with the row's end. -/
def taskFwActivate (s : State) (r : TaskRun) : State × TaskStep :=
  let mode := r.go.arg 0
  let b := s.fwTarget
  if 240 < r.go.arg 1 ∨ 2 < mode then (s, .ends tsBadArg [])
  else if s.flag F.FWU_STATUS.TRIAL ∨ s.fwBusy ∨ !(s.fwSlot b).fresh then (s, .ends tsRefused [])
  else if mode = 2 ∧ (!s.inPair ∨ !s.partnerInStep ∨ !r.aux.partnerHolds) then (s, .ends tsRefused [])
  else
    let (s, code) := s.fwActCheck b
    if code ≠ 0 then (s, .ends tsBadData [code])
    else if mode = 2 then (s.fwActivate 2 (if r.go.arg 1 = 0 then 15 else r.go.arg 1) true, .works)
    else (s, .ends tsOk [])

def taskFwConfirm (s : State) (_r : TaskRun) : State × TaskStep :=
  if s.flag F.FWU_STATUS.TRIAL ∧ s.fwHealthy then (s.fwConfirm, .ends tsOk []) else (s, .ends tsRefused [])

def taskFwReject (s : State) (_r : TaskRun) : State × TaskStep :=
  if s.flag F.FWU_STATUS.TRIAL ∧ (s.fwSlot (!s.fwRunsB)).candidate then (s, .ends tsOk []) else (s, .ends tsRefused [])

/-! ## Drives and members (R413, R456) -/

/-- A HELD drive is formatted and taken in at a member index: it goes on with bring-up from step 7 of R404, its member becomes REBUILDING, or is filled by copyback. -/
def State.acceptDrive (s : State) (port g m : Nat) : State :=
  match s.grp? g, (s.port port).facts with
  | some x, some f =>
    let spared := x.want.mState m == mSpared
    let e : MemberEnt := { x.want.member m with nguid := f.nguid, eui := f.eui, serial := f.serial, nsze := f.nsze, port := port }
    let e : MemberEnt := if spared then e else { e with state := mRebuilding }
    let s := s.setGrp g { x with want := x.want.setMember m e, ports := (m, port) :: x.ports.filter (fun (p : Nat × Nat) => p.1 != m && p.2 != port) }
    let s := s.setPort port { s.port port with member := some (g, m), brand := none, facts := some { f with memberFormat := true } }
    let s := (s.stepped port 6).portAt port dpChecking
    let have? := s.tly.rebuilds.any (fun r => r.is g m && r.copyback == spared)
    let s := if have? then s else { s with tly := { s.tly with rebuilds := s.tly.rebuilds ++ [newRebuild g m x.brand.stripes spared] } }
    (s.startBrand g).vaultChanged
  | _, _ => s

/-- The member exists in a group. -/
def State.memberExists (s : State) (g m : Nat) : Bool :=
  match s.grp? g with
  | some x => decide (m < x.want.members)
  | none => false

def State.memberState (s : State) (g m : Nat) : Nat :=
  match s.grp? g with
  | some x => x.want.mState m
  | none => mUnused

def taskDriveAccept (s : State) (r : TaskRun) : State × TaskStep :=
  let port := r.go.arg 0
  let g := r.go.arg 1
  let m := r.go.arg 2
  let st := s.memberState g m
  let reason := s.get F.DP_STATUS.REASON port
  if 48 ≤ port ∨ !s.memberExists g m ∨ s.dpState port ≠ dpHeld then (s, .ends tsNotFound [])
  else if st ≠ mFailed ∧ st ≠ mSpared then (s, .ends tsRefused [])
  else if reason = 9 ∧ !bitOf (r.go.arg 3) 0 then (s, .ends tsRefused [])
  else if reason = 1 ∨ reason = 2 ∨ reason = 4 then (s, .ends tsRefused [])
  else (s.acceptDrive port g m, .ends tsOk [])

def taskMemberFail (s : State) (r : TaskRun) : State × TaskStep :=
  if s.memberExists (r.go.arg 0) (r.go.arg 1) then (s.failMember (r.go.arg 0) (r.go.arg 1), .ends tsOk []) else (s, .ends tsNotFound [])

/-- An admin command to a drive, of which this controller keeps the opcode (R415). -/
def State.driveAdmin (s : State) (port opcode : Nat) : State :=
  s.setPort port { s.port port with admin := (s.port port).admin ++ [(opcode, s.dev.timeNs)] }

def taskDriveFw (s : State) (r : TaskRun) : State × TaskStep :=
  let port := r.go.arg 0
  if 48 ≤ port then (s, .ends tsNotFound [])
  else if s.dpState port ≠ dpReady then (s, .ends tsRefused [])
  else if r.go.arg 1 % 4 ≠ 0 ∨ 2 ≤ r.go.arg 2 then (s, .ends tsBadArg [])
  else if r.data.length % 4 ≠ 0 then (s, .ends tsBadData [])
  else (s.driveAdmin port 0x11, .works)

/-- A drive has answered Firmware Image Download or Firmware Commit: the commit follows the LAST block, and an error ends the task with INTERNAL. -/
def State.driveFwStep (s : State) (port opcode status : Nat) : State :=
  match s.tasks.find? (fun t => t.code == 0x0052 && t.phase == .working && t.go.arg 0 == port) with
  | none => s
  | some r =>
    if opcode ≠ 0x11 ∧ opcode ≠ 0x10 then s
    else if status ≠ 0 then s.endRun r tsInternal []
    else if opcode = 0x11 ∧ bitOf (r.go.arg 2) 0 then s.driveAdmin port 0x10
    else s.endRun r tsOk []

/-- A drive that is READY no more ends the task as well. -/
def State.driveFwLost (s : State) : State :=
  match s.tasks.find? (fun t => t.code == 0x0052 && t.phase == .working) with
  | none => s
  | some r => if s.dpState (r.go.arg 0) = dpReady then s else s.endRun r tsInternal []

/-! ## Migrations (R297 to R299) -/

def taskMigStart (s : State) (r : TaskRun) : State × TaskStep :=
  let a := r.go.arg
  if 16 ≤ a 0 ∨ 2 ^ 24 ≤ a 3 then (s, .ends tsBadArg [])
  else if (s.mig? (a 0)).any (fun m => m.state == 1 || m.state == 2) ∨ s.tly.stopped then (s, .ends tsRefused [])
  else match s.ns? (a 1) (a 2) with
    | none => (s, .ends tsNotFound [])
    | some _ =>
      let m : Mig := {
        slot := a 0, state := 1, pass := 1, sub := a 1, nsid := a 2, peer := a 3, ip := r.aux.ip, window := a 4, winOffset := (a 5 + a 6 * 2 ^ 32) % 2 ^ 48,
        notifyWq := s.free.toNat % 65536, cursor := 0, marked := [], todo := [], inflight := [], resent := [] }
      let s := s.drawn
      ({ s with tly := { s.tly with migs := s.tly.migs.filter (fun (x : Mig) => x.slot != a 0) ++ [m] } }, .ends tsOk [])

def taskMigCutover (s : State) (r : TaskRun) : State × TaskStep :=
  if 16 ≤ r.go.arg 0 then (s, .ends tsBadArg [])
  else match s.mig? (r.go.arg 0) with
    | none => (s, .ends tsNotFound [])
    | some m => if m.state = 1 then (s.setMig { m with state := 2 }, .ends tsOk []) else (s, .ends tsRefused [])

def taskMigCancel (s : State) (r : TaskRun) : State × TaskStep :=
  if 16 ≤ r.go.arg 0 then (s, .ends tsBadArg [])
  else match s.mig? (r.go.arg 0) with
    | none => (s, .ends tsNotFound [])
    | some m => if m.state = 1 ∨ m.state = 2 then ((s.setMig { m with state := 4 }).raise 0x1DD, .ends tsOk []) else (s, .ends tsRefused [])

/-! ## The other tasks -/

def taskAddrSet (s : State) (r : TaskRun) : State × TaskStep :=
  let e := r.go.arg 2
  let v6 := decide (4 ≤ e)
  if 2 ≤ r.go.arg 0 ∨ 32 ≤ r.go.arg 1 ∨ 8 ≤ e then (s, .ends tsBadArg [])
  else if r.data.length ≠ (if v6 then 16 else 4) then (s, .ends tsBadData [])
  else
    let a : Option IpAddr := if allZero r.data then none else some ⟨v6, beNat r.data⟩
    (s.setAddr (r.go.arg 0 * 256 + r.go.arg 1 * 8 + e) a, .ends tsOk [])

def taskPowerEnter (s : State) (r : TaskRun) : State × TaskStep :=
  let t := r.go.arg 0
  if t ≠ 1 ∧ t ≠ 2 then (s, .ends tsBadArg [])
  else
    let (s, ok) := s.enter t
    (s, .ends (if ok then tsOk else tsRefused) [])

def taskIdentity (s : State) (r : TaskRun) : State × TaskStep :=
  if r.go.dataLen ≠ 97 then (s, .ends tsBadData []) else (s.emit (.taskData r.go.dataAddr s.dev.fuseIdentity), .ends tsOk [])

/-- The slots that LEDGER_READ returns (R519). -/
def State.ledgerSlots (s : State) (first n : Nat) : List Byte := (List.range n).flatMap (fun i => s.ledgerSlotBytes ((first + i) % 65536))

def taskLedgerRead (s : State) (r : TaskRun) : State × TaskStep :=
  let n := r.go.arg 1
  if 65536 ≤ r.go.arg 0 ∨ 16384 < n then (s, .ends tsBadArg [])
  else if r.go.dataLen ≠ 64 * n then (s, .ends tsBadData [])
  else if n = 0 then (s, .ends tsOk [])
  else (s.emit (.taskData r.go.dataAddr (s.ledgerSlots (r.go.arg 0) n)), .ends tsOk [])

/-! ## Carrying out -/

/-- What a run's task does. -/
def State.carryOut (s : State) (r : TaskRun) : State × TaskStep :=
  match r.code with
  | 0x0002 => taskIdentity s r
  | 0x0010 => taskPatBlock s r
  | 0x0011 => taskPatCommit s r
  | 0x0012 => taskPatAbort s r
  | 0x0013 => taskOverlaySet s r
  | 0x0020 => taskOwnerCommission s r
  | 0x0021 => taskOwnerRotate s r
  | 0x0030 => taskKeyInstall s r
  | 0x0031 => taskKeySwitch s r
  | 0x0032 => taskKeyRetire s r
  | 0x0033 => taskAdmitSet s r
  | 0x0040 => taskFwBlock s r
  | 0x0041 => taskFwAbort s r
  | 0x0042 => taskFwActivate s r
  | 0x0043 => taskFwConfirm s r
  | 0x0044 => taskFwReject s r
  | 0x0050 => taskDriveAccept s r
  | 0x0051 => taskMemberFail s r
  | 0x0052 => taskDriveFw s r
  | 0x0060 => taskMigStart s r
  | 0x0061 => taskMigCutover s r
  | 0x0062 => taskMigCancel s r
  | 0x0070 => taskAddrSet s r
  | 0x0080 => taskPowerEnter s r
  | 0x0090 => taskLedgerRead s r
  | _ => (s, .ends tsOk [])

/-- What follows the reply of a task that ended with OK: the resets of WARM_RESET, FW_ACTIVATE and FW_REJECT, and the live switch. -/
def State.afterReply (s : State) (r : TaskRun) (x : TaskStep) : State :=
  if x ≠ .ends tsOk [] then s
  else if r.code = 0x0081 then s.askWarm 2
  else if r.code = 0x0042 then s.fwActivate (r.go.arg 0) (if r.go.arg 1 = 0 then 15 else r.go.arg 1) true
  else if r.code = 0x0044 then s.fwReject 2
  else s

/-- A run is carried out on this controller. -/
def State.doRun (s : State) (r : TaskRun) : State :=
  let (t, x) := s.carryOut r
  (t.settleRun r x).afterReply r x

/-- A task that has its data: a local task is carried out; a step task enters the stream (R460), in Solo it acts at once, and a controller that is not in step refuses it. -/
def State.beginRun (s : State) (r : TaskRun) : State :=
  match taskInfo r.code with
  | none => s.endRun r tsBadCode []
  | some i =>
    if i.takesData ∧ r.go.dataLen = 0 then s.endRun r tsBadData []
    else if !i.step then s.doRun r
    else if r.code = 0x0080 ∧ s.entryHeld then s.endRun r tsRefused []
    else if !s.consumes then s.endRun r tsRefused []
    else
      let r' := { r with phase := .streamed }
      let s := s.moveRun r r'
      s.stepWrite .svc (.task ⟨r.code, r.go, r.data, r.aux, s.sideB⟩) (fun s => s.doRun r')

/-- A task's command block in the stream is consumed: this service port's run, or the partner's. -/
def State.taskStep (s : State) (t : TaskIn) : State :=
  match (if t.sideB = s.sideB then s.tasks.find? (fun (x : TaskRun) => x.phase == .streamed && x.code == t.code && x.go == t.go) else none) with
  | some r => s.doRun r
  | none =>
    let r : TaskRun := ⟨t.code, t.go, t.data, t.aux, false, .streamed⟩
    ({ s with tasks := s.tasks ++ [r] }).doRun r

/-- The data of a run are here, are still being read, or could not be read (R452). -/
def State.startRun (s : State) (r : TaskRun) (data : TaskData) : State :=
  if (taskInfo r.code).any (·.takesData) ∧ r.go.dataLen ≠ 0 then
    match data with
    | .bytes b =>
      let r' := { r with data := b }
      (s.moveRun r r').beginRun r'
    | .reading => s.moveRun r { r with phase := .reading }
    | .fault => s.endRun r tsDmaFault []
  else s.beginRun r

/-- The device is in Drowse or Fallow, or enters one of them. -/
def State.lowState (s : State) : Bool := s.power == stToDrowse || s.power == stDrowse || s.power == stToFallow || s.power == stFallow

/-- A write of TASK_GO with this block in TASK_CMD (R459, R461). -/
def State.goTask (s : State) (code : Nat) (go : TaskGo) (data : TaskData) (aux : TaskAux) : State :=
  s.busWrite .svc (F.TASK_GO.GO.at 0 0) (fun s =>
    if s.flag F.TASK_STATUS.BUSY then ((s.setFlag F.TASK_STATUS.REFUSED true).bump F.TASK_REFUSALS.COUNT).raise 0x4C1
    else
      let s := ((go.words code).zipIdx).foldl (fun (s : State) (w : Nat × Nat) => s.set F.TASK_CMD.WORD w.1 w.2) s
      let s := (s.setFlag F.TASK_STATUS.BUSY true).setFlag F.TASK_STATUS.DONE false
      let b : List Byte := match data with
        | .bytes b => b
        | _ => []
      let r : TaskRun := ⟨code, go, b, aux, true, .reading⟩
      let s := { s with tasks := s.tasks ++ [r] }
      if 10 < go.argc ∨ 2 ≤ go.flags then s.endRun r tsBadArg []
      else if 1048576 < go.dataLen then s.endRun r tsBadData []
      else if s.taskShut code (go.arg 0) then s.endRun r tsRefused []
      else if s.lowState then ((s.moveRun r { r with phase := .deferred }).setFlag F.TASK_STATUS.DEFERRED true).raise 0x4C2
      else s.startRun r data)

/-! ## The rows -/

/-- TASK_DATA_READ_DONE: the data of the running task have been read. -/
def execTaskDataReadDone (data : TaskData) (s : State) : Result :=
  .next (
    match s.tasks.find? (fun t => t.own && t.phase == .reading) with
    | none => s
    | some r => s.startRun r data)

/-- TASK_END: the partner has ended the task of this service port with a code (R460); without a partner in step it ends as it did here. -/
def execTaskEnd (partnerCode : Nat) (s : State) : Result :=
  .next (
    match s.ownRun with
    | none => s
    | some r =>
      match r.phase with
      | .partner code res =>
        if s.inPair ∧ s.partnerInStep ∧ partnerCode ≠ code then s.finishTask r tsPartner [res.getD 0 0, partnerCode] else s.finishTask r code res
      | _ => s)

/-- DEFERRED_TASK_RUN: the entry has ended; a task that wakes the device waits until it is Active again. -/
def execDeferredTaskRun (s : State) : Result :=
  .next (
    match s.tasks.find? (fun t => t.own && t.phase == .deferred) with
    | none => s
    | some r =>
      let wakes := (taskInfo r.code).any (·.wakes)
      let low := s.power == stDrowse || s.power == stFallow
      if low ∧ wakes then s.wakeSeen
      else if low ∨ s.power = stActive then
        (s.setFlag F.TASK_STATUS.DEFERRED false).startRun r (if r.data = [] then .reading else .bytes r.data)
      else s)

def execNop (go : TaskGo) (s : State) : Result := .next (s.goTask 0x0001 go (.bytes []) taskAux0)
def execIdentity (go : TaskGo) (s : State) : Result := .next (s.goTask 0x0002 go (.bytes []) taskAux0)
def execPatBlock (go : TaskGo) (data : TaskData) (s : State) : Result := .next (s.goTask 0x0010 go data taskAux0)

/-- PAT_COMMIT: `sig` is the check of the image's signature (R52), `partner` the nn of the PE_nn with which the partner rejects the Pattern, or 0. -/
def execPatCommit (go : TaskGo) (sig : SigCheck) (partner : Nat) (s : State) : Result :=
  .next (s.goTask 0x0011 go (.bytes []) { taskAux0 with sig := sig, partnerPe := partner })

def execPatAbort (go : TaskGo) (s : State) : Result := .next (s.goTask 0x0012 go (.bytes []) taskAux0)
def execOverlaySet (go : TaskGo) (s : State) : Result := .next (s.goTask 0x0013 go (.bytes []) taskAux0)

/-- OWNER_COMMISSION: `digest` is the SHA-384 digest of the public key. -/
def execOwnerCommission (go : TaskGo) (data : TaskData) (digest : Nat) (s : State) : Result :=
  .next (s.goTask 0x0020 go data { taskAux0 with digest := digest })

/-- OWNER_ROTATE: `sameSlot` says that both controllers of a pair have the same newest slot. -/
def execOwnerRotate (go : TaskGo) (data : TaskData) (sig : SigCheck) (digest : Nat) (sameSlot : Bool) (s : State) : Result :=
  .next (s.goTask 0x0021 go data { taskAux0 with sig := sig, digest := digest, sameSlot := sameSlot })

def execKeyInstall (go : TaskGo) (data : TaskData) (sig : SigCheck) (key : KeyOpen) (s : State) : Result :=
  .next (s.goTask 0x0030 go data { taskAux0 with sig := sig, key := key })

def execKeySwitch (go : TaskGo) (data : TaskData) (sig : SigCheck) (s : State) : Result := .next (s.goTask 0x0031 go data { taskAux0 with sig := sig })
def execKeyRetire (go : TaskGo) (data : TaskData) (sig : SigCheck) (s : State) : Result := .next (s.goTask 0x0032 go data { taskAux0 with sig := sig })
def execAdmitSet (go : TaskGo) (data : TaskData) (sig : SigCheck) (s : State) : Result := .next (s.goTask 0x0033 go data { taskAux0 with sig := sig })
def execFwBlock (go : TaskGo) (data : TaskData) (s : State) : Result := .next (s.goTask 0x0040 go data taskAux0)
def execFwAbort (go : TaskGo) (s : State) : Result := .next (s.goTask 0x0041 go (.bytes []) taskAux0)

/-- FW_ACTIVATE: `partnerHolds` says that the partner's target slot holds a verified image of equal VERSION. -/
def execFwActivate (go : TaskGo) (partnerHolds : Bool) (s : State) : Result :=
  .next (s.goTask 0x0042 go (.bytes []) { taskAux0 with partnerHolds := partnerHolds })

def execFwConfirm (go : TaskGo) (s : State) : Result := .next (s.goTask 0x0043 go (.bytes []) taskAux0)
def execFwReject (go : TaskGo) (s : State) : Result := .next (s.goTask 0x0044 go (.bytes []) taskAux0)
def execDriveAccept (go : TaskGo) (s : State) : Result := .next (s.goTask 0x0050 go (.bytes []) taskAux0)
def execMemberFail (go : TaskGo) (s : State) : Result := .next (s.goTask 0x0051 go (.bytes []) taskAux0)
def execDriveFw (go : TaskGo) (data : TaskData) (s : State) : Result := .next (s.goTask 0x0052 go data taskAux0)

/-- MIG_START: `ip` is the address of the target peer. -/
def execMigStart (go : TaskGo) (ip : IpAddr) (s : State) : Result := .next (s.goTask 0x0060 go (.bytes []) { taskAux0 with ip := ip })

def execMigCutover (go : TaskGo) (s : State) : Result := .next (s.goTask 0x0061 go (.bytes []) taskAux0)
def execMigCancel (go : TaskGo) (s : State) : Result := .next (s.goTask 0x0062 go (.bytes []) taskAux0)
def execAddrSet (go : TaskGo) (data : TaskData) (s : State) : Result := .next (s.goTask 0x0070 go data taskAux0)
def execPowerEnter (go : TaskGo) (s : State) : Result := .next (s.goTask 0x0080 go (.bytes []) taskAux0)
def execWarmReset (go : TaskGo) (s : State) : Result := .next (s.goTask 0x0081 go (.bytes []) taskAux0)
def execLedgerRead (go : TaskGo) (s : State) : Result := .next (s.goTask 0x0090 go (.bytes []) taskAux0)

/-- FW_IMAGE_VERIFY: the image whose last block has been programmed is checked; the task ends with OK, or with BAD_DATA and the code (R555). -/
def execFwImageVerify (chk : FwChecks) (s : State) : Result :=
  .next (
    match s.tasks.find? (fun t => t.code == 0x0040 && t.phase == .working) with
    | none => s
    | some r =>
      let (s, code) := s.fwVerify chk
      if code = 0 then s.endRun r tsOk [] else s.endRun r tsBadData [code])

end Sys2Proof.Machine
end

