-- ==== Sys2Proof/Machine/ServicePort.lean ====
section
/-!
DEFINITION. Machine/ServicePort.lean: the service port function: link, power state, BAR2 and BAR4, freeze and function-level reset (R441 to R450, R462), and reads of BAR0 (R12, R29, R369)
(14_service_port.md).
-/
namespace Sys2Proof.Machine

/-! ## Reads of BAR0 -/

/-- All bits 1 in `size` bytes. -/
def ones (size : Nat) : Nat := 2 ^ (8 * size) - 1

/-- A BAR0 read: its value and effect when the access passes, else what R445, R448 and R29 say. -/
def State.busRead (s : State) (src : Src) (off size : Nat) (read : State → Nat × State) : State :=
  match s.gate src off with
  | .pass =>
    let (v, t) := read s
    t.emit (.bar0Data off size v)
  | .unsupported => s.emit .barUr
  | .frozen => s.emit (.bar0Data off size (ones size))
  | .unreachable => (s.accessFault (islandOf off) (s.islandCause (islandOf off))).emit (.bar0Data off size (ones size))

/-- PTP_TX_ID_READ: the head entry with its VALID bit and OVERFLOW; the entry leaves the FIFO. -/
def execPtpTxIdRead (src : Src) (port : Nat) (s : State) : Result :=
  .next (
    if 4 ≤ port then s
    else s.busRead src (F.PTP_TX_ID.VALID.at port 0) 4 (fun s =>
      let q := sparseGet [] port s.hp.fifo
      let lost := if s.flag F.PTP_TX_ID.OVERFLOW port then 2 ^ 30 else 0
      let v := match q with
        | [] => lost
        | e :: _ => 2 ^ 31 + lost + e.2.1 % 8 * 2 ^ 24 + e.2.2 % 65536
      (v, { s with hp := { s.hp with fifo := sparsePut [] port (q.drop 1) s.hp.fifo } }.setFlag F.PTP_TX_ID.OVERFLOW false port)))

/-! ## Link, power state, BAR2 and BAR4 -/

/-- SVC_LINK_CHANGE: `speed` and `width` are the codes of SVC_STATUS, 0 when the link is down. -/
def execSvcLinkChange (speed width : Nat) (s : State) : Result :=
  .next (
    if s.get F.SVC_STATUS.SPEED = speed ∧ s.get F.SVC_STATUS.WIDTH = width then s
    else ((s.set F.SVC_STATUS.SPEED speed).set F.SVC_STATUS.WIDTH width).raise 0x4C5)

/-- PM_STATE_WRITE: the function enters D3hot or returns to D0, where the messages held back go. -/
def execPmStateWrite (d3 : Bool) (s : State) : Result :=
  .next (
    let s := s.setFlag F.SVC_STATUS.D3 d3
    if d3 then s else s.flushMsix)

/-- BAR2_WRITE: discarded, counted, and recorded once per 10 ms. -/
def execBar2Write (_addr : Nat) (s : State) : Result :=
  .next (
    if s.flag F.SVC_STATUS.D3 then s.emit .barUr
    else (s.bump F.SVC_BAR2_WRITE.COUNT).ledgerLimited 0x0504 23 0)

/-- MSIX_UNMASK: a vector's mask in the table of BAR4, or the enable and function mask of the capability. -/
def execMsixUnmask (wr : MsixWrite) (s : State) : Result :=
  .next (
    match wr with
    | .vector v masked =>
      if s.flag F.SVC_STATUS.D3 then s.emit .barUr
      else if 2048 ≤ v then s
      else
        let rest := s.svc.unmasked.filter (· != v)
        ({ s with svc := { s.svc with unmasked := if masked then rest else insertNat v rest } }).flushMsix
    | .control enable funcMask => ({ s with svc := { s.svc with msixEnable := enable, funcMask := funcMask } }).flushMsix)

/-! ## Freeze (R448, R449) -/

/-- Unsupported Request and Unexpected Completion are advisory (bits 20 and 16 of the AER uncorrectable status). -/
def aerAdvisory (bit : Nat) : Bool := bit == 16 || bit == 20

/-- SVC_FREEZE: an uncorrectable error that AER records. The first one freezes the function; a task whose data are being read ends with DMA_FAULT. -/
def execSvcFreeze (aerBit : Nat) (s : State) : Result :=
  .next (
    let b := aerBit % 32
    let s := { s with svc := { s.svc with aer := withBit s.svc.aer b } }
    if aerAdvisory b ∨ s.flag F.SVC_STATUS.FROZEN then s
    else
      let s := { s with svc := { s.svc with freezeBit := some b } }
      let s := ((s.setFlag F.SVC_STATUS.FROZEN true).setFlag F.DVSEC_0C.FROZEN true).set F.DVSEC_0C.FREEZE_CAUSE b
      let s := (((s.bump F.SVC_FREEZES.COUNT).raise 0x4C3).ledger 0x4C3 23 0)
      match s.tasks.find? (fun (t : TaskRun) => t.own && t.phase == .reading) with
      | some r => s.endRun r tsDmaFault []
      | none => s)

/-- The function is frozen no more: messages held back go. -/
def State.thaw (s : State) : State :=
  let s := { s with svc := { s.svc with freezeBit := none } }
  ((s.setFlag F.SVC_STATUS.FROZEN false).setFlag F.DVSEC_0C.FROZEN false).flushMsix

/-- FREEZE_RELEASE: software clears the bits `aerCleared` of the AER status and writes RELEASE, which is ignored while the cause stands. -/
def execFreezeRelease (aerCleared : Nat) (s : State) : Result :=
  .next (
    let s := { s with svc := { s.svc with aer := s.svc.aer &&& (2 ^ 32 - 1 - aerCleared % 2 ^ 32) } }
    match s.svc.freezeBit with
    | some b => if bitOf s.svc.aer b then s else s.thaw
    | none => s)

/-! ## Function-level reset (R450, R462) -/

/-- A run of this service port at a function-level reset: one that has no data yet, is deferred, or whose firmware delivery goes is cancelled; one that has ended here is forgotten; the others go on, and their
outcome is lost. -/
def TaskRun.afterFlr (r : TaskRun) : Option TaskRun :=
  if !r.own then some r
  else match r.phase with
    | .reading => none
    | .deferred => none
    | .partner _ _ => none
    | _ => if r.code = 0x0040 then none else some { r with own := false }

/-- FUNCTION_LEVEL_RESET: what resets at flr, MSI-X, the task interface, and open deliveries. -/
def execFunctionLevelReset (s : State) : Result :=
  .next (
    let s := { s with tasks := s.tasks.filterMap TaskRun.afterFlr, svc := { s.svc with msixEnable := false, funcMask := false, unmasked := [], freezeBit := none } }
    let s := (s.resetRegs .flr).fwClose
    let s := if s.pat.delivery.isNone then s
      else s.recognised (.task ⟨0x0012, ⟨0, 0, 0, 0, 0, []⟩, [], taskAux0, s.sideB⟩) (fun s => s.setDelivery none)
    s.raise 0x4C4)

end Sys2Proof.Machine
end

