-- ==== Sys2Proof/Machine/BusRegs.lean ====
section
/-!
DEFINITION. Machine/BusRegs.lean: reads and writes of BAR0 by access type (R10 to R16, R18, R29, R30, R38, R591), with the status fields that are computed from the state of their units.
-/
namespace Sys2Proof.Machine

/-! ## Status fields that their units' state gives -/

/-- A bit per class of those that satisfy `p`. -/
def classMask (p : Nat → Bool) : Nat := ((List.range 8).map (fun c => if p c then 2 ^ c else 0)).sum

/-- `n` of `total` in permille. -/
def permille (n total : Nat) : Nat := if total = 0 then 0 else min 1000 (n * 1000 / total)

/-- A number that a field shows, cut off at its largest value. -/
def capped (bits n : Nat) : Nat := min n (2 ^ bits - 1)

def State.epochAt (s : State) (i : Nat) : EpochKey := s.flm.epochs.getD i epoch0

/-- STATE of LAY_GROUP. -/
def Grp.layState (x : Grp) : Nat :=
  if x.forming then 5 else if x.down then 4 else if x.brand.missing = 0 then 1 else if x.brand.missing = 1 then 2 else 3

/-- STATE of FWU_SLOT (R553): 0 EMPTY, 1 DELIVERED, 2 TRIAL, 3 CONFIRMED, 4 REJECTED, 5 INVALID. -/
def FwSlot.shownState (x : FwSlot) : Nat :=
  if x.verify ≠ 0 ∧ x.verify < 8 then 5
  else if !x.magic then 0
  else if x.rejected then 4
  else if x.confirmed then 3
  else if x.actSeq.isSome then 2 else 1

/-- Bits set among BOOTS. -/
def bootsLeft (boots : Nat) : Nat := ((List.range 3).filter (fun i => bitOf boots i)).length

/-- The slot of a running trial. -/
def State.trialSlot (s : State) : Option FwSlot := if s.flag F.FWU_STATUS.TRIAL then some (s.fwSlot s.fwRunsB) else none

/-- Seconds left in the trial window (FWU_TRIAL). -/
def State.trialLeft (s : State) : Nat :=
  match s.trialSlot with
  | some x => capped 16 (x.window * 60 - (s.dev.timeNs - s.fw.trialNs) / 1000000000)
  | none => 0

/-- Commands at a drive (TC_DRIVE). -/
def State.atDrive (s : State) (n : Nat) : Nat := (s.port n).q1.used + (s.port n).q2.used

/-- List i closes class 7 and a port runs it. -/
def State.gateWarn (s : State) : Nat :=
  let closes (i : Nat) : Bool := (s.gateList i).any (fun l => l.entries.any (fun e => !bitOf e.2 7))
  let run := (s.tc.gates.filterMap (fun g => g.2.run.map (·.num))).dedup
  (run.map (fun i => if closes i then 2 ^ i else 0)).sum

/-- Largest obeyed pause of any class in the trailing 1 s, in µs. -/
def State.pauseUs (s : State) (lport : Nat) : Nat :=
  capped 20 (((List.range 8).map (fun c => ((s.lportSt lport).cls c).trailing s.dev.timeNs / 1000)).foldl max 0)

/-- Progress of a migration's present pass. -/
def State.migPermille (s : State) (m : Mig) : Nat :=
  if m.pass = 1 then permille m.cursor ((s.ns? m.sub m.nsid).map granulesOf |>.getD 0) else permille m.cursor (m.cursor + m.todo.length)

/-- A field that shows what its unit's state gives. -/
structure Shown where
  fld : Fld
  value : State → Nat → Nat → Nat

def bool01 (b : Bool) : Nat := if b then 1 else 0

/-- Host ports, PTP and traffic control. -/
def shownPorts : List Shown := [
  ⟨F.HP_LP_MAC.ADDRESS, fun s p q => s.lportMac (8 * p + q)⟩,
  ⟨F.HP_LP_PAUSE.TRIPPED, fun s p q => classMask (fun c => ((s.lportSt (8 * p + q)).cls c).trippedNs.isSome)⟩,
  ⟨F.HP_LP_PAUSE.PAUSED, fun s p q => classMask (fun c => s.paused (8 * p + q) c)⟩,
  ⟨F.HP_LP_PAUSE.XOFF, fun s p q => classMask (fun c => (s.lportSt (8 * p + q)).xoff.any (fun x => x.1 == c))⟩,
  ⟨F.HP_LP_PAUSE_US.US, fun s p q => s.pauseUs (8 * p + q)⟩,
  ⟨F.PTP_TIME.SEC, fun s _ _ => ptpFormat s.ptpNow / 2 ^ 30⟩,
  ⟨F.PTP_TIME.NS, fun s _ _ => ptpFormat s.ptpNow % 2 ^ 30⟩,
  ⟨F.PTP_TX_TS.TIME, fun s p _ => ((sparseGet [] p s.hp.fifo).head?.map (·.1)).getD 0⟩,
  ⟨F.PTP_TX_ID.VALID, fun s p _ => bool01 (!(sparseGet [] p s.hp.fifo).isEmpty)⟩,
  ⟨F.PTP_TX_ID.LPORT, fun s p _ => ((sparseGet [] p s.hp.fifo).head?.map (·.2.1)).getD 0⟩,
  ⟨F.PTP_TX_ID.SEQUENCE_ID, fun s p _ => ((sparseGet [] p s.hp.fifo).head?.map (·.2.2)).getD 0⟩,
  ⟨F.TC_GATE_WARN.LIST, fun s _ _ => s.gateWarn⟩,
  ⟨F.TC_GATE.ROUND, fun s n _ => (s.point n).round⟩,
  ⟨F.TC_GATE.ACTIVE, fun s n _ => bool01 (s.gates n).run.isSome⟩,
  ⟨F.TC_GATE.PENDING, fun s n _ => bool01 ((s.gates n).change.isSome || (s.gates n).startNs.isSome)⟩,
  ⟨F.TC_GATE.LIST, fun s n _ => ((s.gates n).run.map (·.num)).getD 0⟩,
  ⟨F.TC_GATE.ENTRY, fun s n _ => (s.gates n).entry⟩,
  ⟨F.TC_GATE.OPEN, fun s n _ => (s.gates n).openMask⟩,
  ⟨F.TC_DRIVE.ROUND, fun s n _ => (s.point (drivePoint n)).round⟩,
  ⟨F.TC_DRIVE.FULL, fun s n _ => bool01 (decide (0 < s.atDrive n) && decide (s.outstanding n ≤ s.atDrive n))⟩,
  ⟨F.TC_DRIVE.URGENT, fun s n _ => min 32 (s.atDrive n - s.outstanding n)⟩,
  ⟨F.TC_DRIVE.COUNT, fun s n _ => s.atDrive n⟩]

/-- Flume, the Chute, the Yard and the NVMe service. -/
def shownData : List Shown := [
  ⟨F.FLM_STATUS.TABLE_FULL, fun s _ _ => bool01 (decide (tableLimit ≤ s.tableUsed))⟩,
  ⟨F.FLM_STATUS.SLOTS_FULL, fun s _ _ => bool01 (decide (slotLimit ≤ s.flm.slots.length))⟩,
  ⟨F.FLM_TABLE_USED.USED, fun s _ _ => s.tableUsed⟩,
  ⟨F.FLM_SLOT_USED.USED, fun s _ _ => s.flm.slots.length⟩,
  ⟨F.FLM_TABLE_HOLD.OLDEST_US, fun s _ _ => capped 32 s.tableHold⟩,
  ⟨F.FLM_EPOCH.EPOCH0, fun s _ _ => (s.epochAt 0).epoch⟩,
  ⟨F.FLM_EPOCH.EPOCH1, fun s _ _ => (s.epochAt 1).epoch⟩,
  ⟨F.FLM_EPOCH_STATE.STATE0, fun s _ _ => (s.epochAt 0).state.code⟩,
  ⟨F.FLM_EPOCH_STATE.STATE1, fun s _ _ => (s.epochAt 1).state.code⟩,
  ⟨F.FLM_CACHE_USED.USED, fun s _ _ => s.fx.flows.length⟩,
  ⟨F.FLM_ADMIT_LO.BOUND, fun s n _ => (s.pat.settings.admission.getD n (0, 0)).1⟩,
  ⟨F.FLM_ADMIT_HI.BOUND, fun s n _ => (s.pat.settings.admission.getD n (0, 0)).2⟩,
  ⟨F.CHT_INFLIGHT.COMMANDS, fun s _ _ => s.chuteCmds⟩,
  ⟨F.CHT_DIRTY.BYTES, fun s _ _ => 4096 * s.dirty⟩,
  ⟨F.CHT_TAGS.USED, fun s _ _ => s.tagsUsed⟩,
  ⟨F.YRD_FREE.URGENT, fun s _ _ => s.urgentFree⟩,
  ⟨F.YRD_FREE.SHARED, fun s _ _ => s.sharedFree⟩,
  ⟨F.NVS_COUNTS.CONTROLLERS, fun s _ _ => s.nvm.ctrls.length⟩,
  ⟨F.NVS_QUEUES.TCP, fun s _ _ => s.nvm.tcp.length⟩,
  ⟨F.NVS_QUEUES.FLUME_SQ, fun s _ _ => (s.nvm.queues.filter (fun q => q.qid != 0 && (match q.tr with | .flume _ _ _ _ => true | .tcp _ => false))).length⟩]

/-- Layout, the Tally, the vault, the Skidder, Patrol, migrations. -/
def shownTally : List Shown := [
  ⟨F.LAY_BRAND_STATUS.BUSY, fun s _ _ => bool01 (s.grps.any (fun g => g.2.upd.isSome))⟩,
  ⟨F.LAY_GROUP.STATE, fun s g _ => ((s.grp? g).map Grp.layState).getD 0⟩,
  ⟨F.LAY_GROUP.MISSING, fun s g _ => ((s.grp? g).map (fun x => x.brand.missing)).getD 0⟩,
  ⟨F.LAY_GROUP.LOG, fun s g _ => ((s.grp? g).map (fun x => x.brand.log.length)).getD 0⟩,
  ⟨F.LAY_GROUP.MEMBERS, fun s g _ => ((s.grp? g).map (fun x => x.brand.members)).getD 0⟩,
  ⟨F.LAY_BRAND_SEQ.SEQ, fun s g _ => ((s.grp? g).map (fun x => x.brand.seq)).getD 0⟩,
  ⟨F.TLY_STATUS.FULL, fun s _ _ => bool01 (decide (s.tallyLimit ≤ s.tly.entries.length))⟩,
  ⟨F.TLY_STATUS.OPEN, fun s _ _ => s.tly.entries.length⟩,
  ⟨F.VLT_STATUS.DUMPING, fun s _ _ => bool01 (s.tly.dump.any (fun d => d.stage != .done && d.stage != .retired))⟩,
  ⟨F.VLT_STATUS.RECOVERING, fun s _ _ => bool01 s.tly.recovered.isSome⟩,
  ⟨F.SKD_STATUS.RUNNING, fun s _ _ => capped 8 (s.tly.rebuilds.filter Rebuild.running).length⟩,
  ⟨F.SKD_STATUS.QUEUED, fun s _ _ => capped 8 (s.tly.rebuilds.filter (fun r => r.state == 1)).length⟩,
  ⟨F.SKD_STATUS.CRITICAL, fun s _ _ => capped 8 (s.tly.rebuilds.filter (fun r => r.state == 2)).length⟩,
  ⟨F.PTL_STATUS.PERMILLE, fun s _ _ => ((s.grp? (s.get F.PTL_STATUS.GROUP)).map (fun x => permille x.patrolCursor x.brand.stripes)).getD 0⟩,
  ⟨F.LST_COUNT.MERGED, fun s g _ => bool01 ((s.grp? g).any (fun x => x.want.merged))⟩,
  ⟨F.LST_COUNT.ENTRIES, fun s g _ => ((s.grp? g).map (fun x => x.want.lst.length)).getD 0⟩,
  ⟨F.MIG_STATUS.STATE, fun s i _ => ((s.mig? i).map (·.state)).getD 0⟩,
  ⟨F.MIG_STATUS.PASS, fun s i _ => min 255 (((s.mig? i).map (·.pass)).getD 0)⟩,
  ⟨F.MIG_STATUS.PERMILLE, fun s i _ => ((s.mig? i).map (fun m => s.migPermille m)).getD 0⟩]

/-- The pair, drive ports and slot power. -/
def shownShelf : List Shown := [
  ⟨F.WSW_STEP.STEP, fun s _ _ => s.dev.stepNo⟩,
  ⟨F.WSW_STEP_TIME.US, fun s _ _ => s.nowUs⟩,
  ⟨F.WSW_LAG.NS, fun s _ _ => capped 32 s.lagNs⟩,
  ⟨F.DP_STATUS.PROXY, fun s n _ => bool01 (s.inPair && !(s.port n).ownReady && (s.port n).partnerReady)⟩,
  ⟨F.DP_STATUS.CONTAINS, fun s n _ => min 31 (recentContains s.nowUs (s.port n).contains).length⟩,
  ⟨F.SLOT_STATUS.STATE, fun s n _ => (s.path n).st⟩,
  ⟨F.SLOT_STATUS.PRESENT, fun s n _ => bool01 (s.slotPresent n)⟩,
  ⟨F.SLOT_STATUS.PRSNT_LOCAL, fun s n _ => bool01 (s.path n).present⟩,
  ⟨F.SLOT_STATUS.SUPPLY_OK, fun s n _ => bool01 (s.path n).supplyOk⟩,
  ⟨F.SLOT_STATUS.PG, fun s n _ => bool01 ((s.path n).st == chGood)⟩,
  ⟨F.SLOT_STATUS.LIMIT, fun s n _ => bool01 (s.path n).engaged⟩,
  ⟨F.SLOT_STATUS.CAUSE, fun s n _ => (s.path n).cause⟩,
  ⟨F.SLOT_STATUS.HOLD, fun s _ _ => bool01 (s.slot.hold && s.ponr)⟩,
  ⟨F.SLOT_STATUS.TIMER_US, fun s n _ => capped 15 ((s.path n).timerAt s.dev.timeNs / 10)⟩,
  ⟨F.SLOT_MEAS.CURRENT, fun s n _ => capped 16 (s.path n).currentMa⟩,
  ⟨F.SLOT_MEAS.VOUT, fun s n _ => capped 16 (s.path n).voutMv⟩,
  ⟨F.SLOT_SUPPLY.SUPPLY, fun s n _ => capped 16 (s.path n).supplyMv⟩]

/-- Memory, the Locksmith, engines, power, temperature and supply, firmware slots, the DVSEC. The PC and mode of an engine and the temperature of the HBM stacks are open values. -/
def shownHub : List Shown := [
  ⟨F.MEM_RETIRE_STATUS.SPARE_FREE, fun s _ _ => s.spareFree⟩,
  ⟨F.LSM_ID.ID, fun s _ _ => s.dev.fuseLsmId⟩,
  ⟨F.ENG_STATUS.MODE, fun s _ _ => [0, 1, 3].getD (s.free.toNat % 3) 0⟩,
  ⟨F.ENG_PC.PC, fun s _ _ => s.free.toNat⟩,
  ⟨F.PWR_WDOG.REMAIN_US, fun s _ _ => ((s.wdogDue).map (fun t => capped 31 ((t - s.dev.timeNs) / 1000))).getD 0⟩,
  ⟨F.THERM_STATUS.HBM_C, fun s _ _ => s.free.toNat % 256⟩,
  ⟨F.AVS_STATUS.DONE, fun s _ _ => bool01 (decide (2 ≤ s.get F.PWR_STATE.BOOT_STEP))⟩,
  ⟨F.AVS_STATUS.MV, fun s _ _ => s.dev.fuseMv⟩,
  ⟨F.FWU_STATUS.DELIVERY, fun s _ _ => bool01 s.fw.delivery.isSome⟩,
  ⟨F.FWU_STATUS.PHASE, fun s _ _ => s.fw.phase⟩,
  ⟨F.FWU_STATUS.FUSED, fun s _ _ => s.dev.fuseSecurity⟩,
  ⟨F.FWU_TRIAL.WINDOW_MIN, fun s _ _ => ((s.trialSlot).map (·.window)).getD 0⟩,
  ⟨F.FWU_TRIAL.BOOTS_LEFT, fun s _ _ => ((s.trialSlot).map (fun x => bootsLeft x.boots)).getD 0⟩,
  ⟨F.FWU_TRIAL.REMAIN_S, fun s _ _ => s.trialLeft⟩,
  ⟨F.FWU_SLOT.STATE, fun s i _ => (s.fwSlot (i == 1)).shownState⟩,
  ⟨F.FWU_SLOT.VERIFY, fun s i _ => (s.fwSlot (i == 1)).verify⟩,
  ⟨F.FWU_SLOT.CAUSE, fun s i _ => (s.fwSlot (i == 1)).cause⟩,
  ⟨F.FWU_SLOT.SECURITY, fun s i _ => leAt (s.fwSlot (i == 1)).image 0x18 1⟩,
  ⟨F.FWU_VERSION.VALUE, fun s i _ => leNat (s.fwSlot (i == 1)).version⟩,
  ⟨F.FWU_ACT_SEQ.VALUE, fun s i _ => ((s.fwSlot (i == 1)).actSeq).getD 0⟩,
  ⟨F.FWU_DELIVERED.BYTES, fun s _ _ => ((s.fw.delivery).map (·.2)).getD 0⟩,
  ⟨F.DVSEC_0C.READY, fun s _ _ => bool01 (s.flag F.PAT_STATUS.LOADED)⟩,
  ⟨F.DVSEC_0C.SIDE, fun s _ _ => bool01 s.sideB⟩]

/-- Every computed field. -/
def shownFields : List Shown := shownPorts ++ shownData ++ shownTally ++ shownShelf ++ shownHub

/-- What a field shows: a WO field reads as 0 (R14). -/
def State.shown (s : State) (f : Fld) (i j : Nat) : Nat :=
  if f.acc = .wo then 0
  else match shownFields.find? (fun x => x.fld.off == f.off && x.fld.lo == f.lo) with
    | some x => x.value s i j % 2 ^ f.width
    | none => s.get f i j

/-- The whole register, reserved bits 0. -/
def State.regValue (s : State) (r : RegRow) (i j : Nat) : Nat := (r.flds.map (fun f => s.shown f i j * 2 ^ f.lo)).sum

/-! ## Words of BAR0 -/

/-- An occupied 32-bit word of BAR0: a register with its copy and which word of it, or a word of an aperture (R591). -/
inductive BusWord where
  | reg (r : RegRow) (i j : Nat) (high : Bool)
  | chain (index : Nat) (high : Bool)
  | addr (entry word : Nat)
  deriving DecidableEq, Repr

/-- The word at a 4-byte-aligned offset; none where no register stands (R13). -/
def busWord (off : Nat) : Option BusWord :=
  if 0x1000000 ≤ off ∧ off < 0x1080000 then some (.chain ((off - 0x1000000) / 8) (off % 8 == 4))
  else if 0x1080000 ≤ off ∧ off < 0x1084000 then some (.addr ((off - 0x1080000) / 32) (off % 32 / 4))
  else if 0x4000000 ≤ off then none
  else match regAt off with
    | some (r, i, j) => some (.reg r i j false)
    | none => if off < 4 then none else match regAt (off - 4) with
      | some (r, i, j) => if r.bits = 64 then some (.reg r i j true) else none
      | none => none

/-- An entry of the address table as its aperture shows it: the address in network order, an IPv4 address in bytes 0 to 3, and VALID in byte 16. -/
def State.addrBytes (s : State) (entry : Nat) : List Byte :=
  match sparseGet none entry s.fx.addrTable with
  | some a => (if a.v6 then beBytes 16 a.addr else beBytes 4 a.addr ++ zeroBytes 12) ++ leBytes 1 1 ++ zeroBytes 15
  | none => zeroBytes 32

/-- The value of a word. -/
def State.wordValue (s : State) (w : BusWord) : Nat :=
  match w with
  | .reg r i j high => (if high then s.regValue r i j / 2 ^ 32 else s.regValue r i j) % 2 ^ 32
  | .chain n high =>
    let v := sparseGet 0 n s.fx.chain
    if high then v / 2 ^ 32 % 2 else v % 2 ^ 32
  | .addr e n => leAt (s.addrBytes e) (4 * n) 4

/-- The bits [lo, lo + n) of a word's register that a read of the bytes [a, b) of the word returns. -/
def covers (f : Fld) (base a b : Nat) : Bool := decide (base + 8 * a ≤ f.lo / 8 * 8) && decide (f.hi < base + 8 * b)

/-- The fields of the word at `off` of which a read of bytes [a, b) of the word clears those that are RC (R12, R14); a cleared PTP_TX_ID removes the head entry of its FIFO. -/
def State.wordRead (s : State) (w : BusWord) (a b : Nat) : State :=
  match w with
  | .reg r i j high =>
    let base := if high then 32 else 0
    (r.flds.filter (fun f => f.acc == .rc && covers f base a b)).foldl (fun (s : State) (f : Fld) =>
      if f = F.PTP_TX_ID.VALID then { s with hp := { s.hp with fifo := sparsePut [] i ((sparseGet [] i s.hp.fifo).drop 1) s.hp.fifo } }
      else s.set f 0 i j) s
  | _ => s

/-- The register at an offset shows an open value. -/
def showsOpen (off : Nat) : Bool :=
  match busWord off with
  | some (.reg r _ _ _) => r.off == F.ENG_STATUS.MODE.off || r.off == F.ENG_PC.PC.off || r.off == F.THERM_STATUS.HBM_C.off
  | _ => false

/-- An aligned access of 1, 2, 4 or 8 bytes. -/
def alignedAccess (off size : Nat) : Bool := (size == 1 || size == 2 || size == 4 || size == 8) && off % size == 0

/-- The words that an aligned access touches: offset, first and last byte. -/
def busWords (off size : Nat) : List (Nat × Nat × Nat) :=
  if size = 8 then [(off, 0, 4), (off + 4, 0, 4)] else [(off / 4 * 4, off % 4, off % 4 + size)]

/-- Some word of an access is occupied. -/
def occupied (off size : Nat) : Bool := (busWords off size).any (fun w => (busWord w.1).isSome)

/-! ## Reads -/

/-- The bytes of an aligned read as one number. -/
def State.readValue (s : State) (off size : Nat) : Nat :=
  let word (o : Nat) : Nat := ((busWord o).map (fun w => s.wordValue w)).getD 0
  if size = 8 then word off + word (off + 4) * 2 ^ 32 else word (off / 4 * 4) / 2 ^ (8 * (off % 4)) % 2 ^ (8 * size)

/-- An aligned read and what it clears. -/
def State.readEffect (s : State) (off size : Nat) : State :=
  let s := (busWords off size).foldl (fun (s : State) (w : Nat × Nat × Nat) =>
    match busWord w.1 with
    | some x => s.wordRead x w.2.1 w.2.2
    | none => s) s
  if showsOpen (off / 4 * 4) then s.drawn else s

/-- RC_COUNTER_READ, and any other read of BAR0: an unaligned one returns 0 and is recorded; an unoccupied offset reads 0 whatever its island. -/
def execRcCounterRead (src : Src) (off size : Nat) (s : State) : Result :=
  .next (
    match s.gate src off with
    | .unsupported => s.emit .barUr
    | .frozen => s.emit (.bar0Data off size (ones size))
    | g =>
      if !alignedAccess off size then (s.ledger 0x0500 (islandOf off) 0).emit (.bar0Data off size 0)
      else if !occupied off size then s.emit (.bar0Data off size 0)
      else if g = .unreachable then (s.accessFault (islandOf off) (s.islandCause (islandOf off))).emit (.bar0Data off size (ones size))
      else (s.readEffect off size).emit (.bar0Data off size (s.readValue off size)))

/-! ## Writes -/

/-- Fields whose writes are rows of their own; of PTP_ADJ_OFS the write of the high word. -/
def ownRow (f : Fld) (high : Bool) : Bool :=
  f == F.SKD_CTL.PAUSE || f == F.SLOT_CTL.ENABLE || (f == F.PTP_ADJ_OFS.NS && high) || f == F.PTP_ADJ_RATE.RATE || f.off == F.SCL_SEL.EVENT.off
    || f.off == F.SMP_CTL.PERIOD.off || f.off == F.SMP_BASE.ADDR.off

/-- A value that its register discards and records (SKD_CTL.PRIORITY, SKD_RATE, SVC_WIN_BASE), and one that is discarded until the Pattern load completes (R18) or while a task runs (R459). -/
def State.outOfRange (_s : State) (f : Fld) (v : Nat) : Bool :=
  (f == F.SKD_CTL.PRIORITY && v == 0) || (f == F.SKD_RATE.GBS && (decide (v < 1) || decide (640 < v))) || (f == F.SVC_WIN_BASE.GIB && decide (47 < v))

def State.writeHeld (s : State) (f : Fld) : Bool :=
  (f.pat && !s.flag F.PAT_STATUS.LOADED) || (f == F.TASK_CMD.WORD && s.flag F.TASK_STATUS.BUSY)

/-- What clearing a W1C flag resets beside it: the first error, the warnings, the count of bridge faults. -/
def State.cleared (s : State) (f : Fld) : State :=
  if f = F.PAT_STATUS.ERROR then ((s.set F.PAT_ERROR.CODE 0).set F.PAT_ERROR.RECORD 0).set F.PAT_ERROR_OFS.OFFSET 0
  else if f = F.PAT_STATUS.WARN then (s.set F.PAT_WARN.CODE 0).set F.PAT_WARN.COUNT 0
  else if f = F.GLB_BRIDGE_FAULT.VALID then s.set F.GLB_BRIDGE_FAULT.COUNT 0
  else s

/-- Bits of `old` that are not in `ones_`. -/
def clearBits (old ones_ : Nat) : Nat := old - (old &&& ones_)

/-- A write of one word of a register acts on one field (R14). -/
def State.fieldWrite (s : State) (f : Fld) (i j : Nat) (high : Bool) (value : Nat) : State :=
  let base := if high then 32 else 0
  -- the bits of the field that lie in the word, as they stand in the register
  if f.hi < base ∨ base + 32 ≤ f.lo ∨ ownRow f high then s
  else
    let lo := max f.lo base
    let n := min f.hi (base + 31) + 1 - lo
    let part := value / 2 ^ (lo - base) % 2 ^ n * 2 ^ (lo - f.lo)
    let old := s.get f i j
    match f.acc with
    | .rw =>
      let keep := old - old / 2 ^ (lo - f.lo) % 2 ^ n * 2 ^ (lo - f.lo)
      let v := keep + part
      let v := if f = F.HP_LP_CTL.PFC_TX then v % 128 else v
      if s.writeHeld f then s
      else if s.outOfRange f v then s.ledger 0x0501 (islandOf (f.at i j)) 0
      else s.set f v i j
    | .w1c => if part = 0 then s else (s.set f (clearBits old part) i j).cleared f
    | _ => s

/-- GO written 1 with a CODE that the table of R455 does not list: the task ends with BAD_CODE. Every listed CODE has a row of its own. -/
def State.unknownTask (s : State) : State :=
  let word (n : Nat) : Nat := s.get F.TASK_CMD.WORD n
  let code := word 0 % 65536
  if (taskInfo code).isSome then s
  else
    let go : TaskGo := ⟨word 0 / 65536 % 256, word 0 / 2 ^ 24, word 1, word 2 + word 3 * 2 ^ 32, word 4, (List.range 10).map (fun n => word (6 + n))⟩
    s.goTask code go .reading taskAux0

/-- A write of one word. A mask that is taken away lets its pending messages go (R447, R479). -/
def State.wordWrite (s : State) (w : BusWord) (value : Nat) : State :=
  match w with
  | .reg r i j high =>
    let s := r.flds.foldl (fun (s : State) (f : Fld) => s.fieldWrite f i j high value) s
    if r.off = F.EVT_MASK.MASK.off then s.flushMsix
    else if r.off = F.TASK_GO.GO.off ∧ bitOf value 0 then s.unknownTask
    else s
  | _ => s

/-- An aligned write of 4 or 8 bytes. -/
def State.regEffect (s : State) (off size value : Nat) : State :=
  (busWords off size).foldl (fun (s : State) (w : Nat × Nat × Nat) =>
    match busWord w.1 with
    | some x => s.wordWrite x (value / 2 ^ (8 * (w.1 - off)) % 2 ^ 32)
    | none => s) s

/-- REGISTER_WRITE: a narrow or unaligned write is discarded and recorded (R12), one to an unoccupied offset is discarded (R13), one to a register of step state enters the stream. -/
def execRegisterWrite (src : Src) (off size value : Nat) (s : State) : Result :=
  .next (
    match s.gate src off with
    | .unsupported => s.emit .barUr
    | .frozen => s
    | g =>
      if !(alignedAccess off size && decide (4 ≤ size)) then s.ledger 0x0500 (islandOf off) 0
      else if !occupied off size then s
      else if g = .unreachable then s.accessFault (islandOf off) (s.islandCause (islandOf off))
      else if isStepReg off then s.stepWrite src (.field off size value) (fun s => s.regEffect off size value)
      else s.regEffect off size value)

/-- ACCESS_TIMEOUT: an access that its island has not completed within 10 µs is completed as a bridge fault of cause 4; `read` is the size of a read. -/
def execAccessTimeout (src : Src) (off : Nat) (read : Option Nat) (s : State) : Result :=
  .next (
    if s.gate src off ≠ .pass ∨ !occupied (off / 4 * 4) 4 then s
    else
      let s := s.accessFault (islandOf off) 4
      match read with
      | some n => s.emit (.bar0Data off n (ones n))
      | none => s)

end Sys2Proof.Machine
end

