-- ==== Sys2Proof/Machine/Locksmith.lean ====
section
/-!
DEFINITION. Machine/Locksmith.lean: the Locksmith's jobs (R494 to R500). What the cipher yields is an operand of the row that ends a job.
-/
namespace Sys2Proof.Machine

/-! ## Descriptors (R495, R496) -/

/-- The descriptor in 64 bytes. -/
def lsmDesc (b : List Byte) : LsmDesc :=
  { mode := leAt b 0 1, keyFused := bitOf (leAt b 1 1) 0, nonceGen := bitOf (leAt b 1 1) 1, rsvdSet := decide (4 ≤ leAt b 1 1) || leAt b 36 4 != 0, asid := leAt b 2 2,
    len := leAt b 4 4, inAddr := leAt b 8 8, outAddr := leAt b 16 8, aadAddr := leAt b 24 8, aadLen := leAt b 32 4, keyAddr := leAt b 40 8, tagAddr := leAt b 48 8,
    nonceAddr := leAt b 56 8 }

def LsmDesc.gcm (d : LsmDesc) : Bool := d.mode == 1 || d.mode == 2
/-- Decrypting and verifying modes, which take no generated nonce. -/
def LsmDesc.opens (d : LsmDesc) : Bool := d.mode == 2 || d.mode == 5 || d.mode == 7
/-- The job draws a nonce: CMAC ignores the NONCE field. -/
def LsmDesc.draws (d : LsmDesc) : Bool := d.nonceGen && d.mode != 6

/-- BAD_DESC or BAD_LEN before the job runs; KEY_FUSED is for M mode. -/
def LsmDesc.fault (d : LsmDesc) (mode : Mode) : Option Nat :=
  if d.mode = 0 ∨ 7 < d.mode ∨ d.rsvdSet ∨ (d.keyFused ∧ mode ≠ .m) ∨ (d.nonceGen ∧ d.opens) ∨ 16777216 < d.len ∨ 65536 < d.aadLen
    ∨ (!d.gcm ∧ d.aadLen ≠ 0) then some 2
  else if d.mode = 5 ∧ (d.len = 0 ∨ d.len % 16 ≠ 0) then some 3
  else none

/-- Output bytes of a job that ends well; `found` is what CBC_DEC has left after the padding. -/
def LsmDesc.outLen (d : LsmDesc) (found : Nat) : Nat :=
  if d.mode ≤ 3 then d.len
  else if d.mode = 4 then 16 * (d.len / 16 + 1)
  else if d.mode = 5 then found
  else 0

/-! ## Ending a job (R497, R500) -/

/-- A job ends with a result: RESULT, counts, LSM_DONE. -/
def State.lsmEnd (s : State) (result len : Nat) : State :=
  let s := ({ s with mi := { s.mi with job := none } }).setFlag F.LSM_STATUS.BUSY false
  let s := (s.set F.LSM_STATUS.RESULT result).set F.LSM_OUT_LEN.BYTES len
  let s := s.bump F.LSM_JOBS.COUNT
  (if result = 1 then s.bump F.LSM_AUTH_FAIL.COUNT else s).raise 0x3CC

/-! ## The nonce counter (R499) -/

/-- 2^20, by which a ceiling is raised. -/
def ceilingStep : Nat := 1048576

/-- A ceiling 2^20 higher is to be committed, unless that is under way. -/
def State.raiseCeiling (s : State) : State :=
  if s.mi.raising.isSome then s
  else
    let v := s.get F.LSM_CEILING.VALUE + ceilingStep
    ({ s with mi := { s.mi with raising := some v } }).commit [.ceiling v]

/-- The job takes the counter's value as its nonce; half way to the ceiling the next one is committed. -/
def State.takeNonce (s : State) (r : LsmRun) : State :=
  let v := s.get F.LSM_NONCE.VALUE
  let s := ({ s with mi := { s.mi with job := some { r with waits := false, nonce := some v } } }).set F.LSM_NONCE.VALUE (v + 1)
  if s.get F.LSM_CEILING.VALUE ≤ v + 1 + ceilingStep / 2 then s.raiseCeiling else s

/-- The job waits for a ceiling, or ends with NO_NONCE when the store refuses commits. -/
def State.waitNonce (s : State) (r : LsmRun) : State :=
  if s.storeRefuses then ({ s with mi := { s.mi with raising := none } }).lsmEnd 5 0
  else (({ s with mi := { s.mi with job := some { r with waits := true } } }).raiseCeiling).raise 0x3CD

/-- A NONCE_GEN job asks for its nonce: the first one after a reset takes the stored ceiling as the counter and waits. -/
def State.askNonce (s : State) (r : LsmRun) : State :=
  if !s.mi.nonceTaken then
    (({ s with mi := { s.mi with nonceTaken := true } }).set F.LSM_NONCE.VALUE (s.get F.LSM_CEILING.VALUE)).waitNonce r
  else if s.get F.LSM_NONCE.VALUE < s.get F.LSM_CEILING.VALUE then s.takeNonce r
  else s.waitNonce r

/-! ## The rows -/

/-- A job starts. -/
def State.lsmJob (s : State) (d : LsmDesc) : State :=
  let r : LsmRun := ⟨d, false, none⟩
  let s := ({ s with mi := { s.mi with job := some r } }).setFlag F.LSM_STATUS.BUSY true
  if d.draws then s.askNonce r else s

/-- LSM_START: a write of LSM_DESC by an engine in `mode`; one from the service port is discarded and recorded, one while a job runs is counted (R494). -/
def execLsmStart (src : Src) (mode : Mode) (addr : Nat) (s : State) : Result :=
  .next (s.busWrite src (F.LSM_DESC.ADDR.at 0 0) (fun s =>
    if src = .svc then s.ledger 0x0505 21 0
    else if s.flag F.LSM_STATUS.BUSY then s.bump F.LSM_REFUSED.COUNT
    else
      let a := addr % 2 ^ 36 / 64 * 64
      let d := lsmDesc (s.memRead a 64)
      if s.poisonIn a 64 then s.poisonMet.lsmEnd 7 0
      else match d.fault mode with
        | some r => s.lsmEnd r 0
        | none => s.lsmJob d))

/-- LSM_NONCE_RESUME: the ceiling that a job waits for is committed, or cannot be. -/
def execLsmNonceResume (s : State) : Result :=
  .next (
    match s.mi.job with
    | some r =>
      if !r.waits then s
      else if s.mi.raising.isNone ∧ s.get F.LSM_NONCE.VALUE < s.get F.LSM_CEILING.VALUE then s.takeNonce r
      else if s.storeRefuses then ({ s with mi := { s.mi with raising := none } }).lsmEnd 5 0
      else s
    | none => s)

/-- A generated nonce: LSM_ID, then the counter, both big-endian. -/
def nonceBytes (id v : Nat) : List Byte := (leBytes 8 v ++ leBytes 4 id).reverse

/-- A job that ends well writes its output, its tag and a generated nonce. -/
def State.lsmWrite (s : State) (r : LsmRun) (res : LsmOut) : State :=
  let n := r.desc.outLen res.out.length
  let s := s.store res.outPa ((res.out ++ zeroBytes n).take n)
  let s := if r.desc.mode = 1 ∨ r.desc.mode = 6 then s.store res.tagPa ((res.tag ++ zeroBytes 16).take 16) else s
  let s := match r.nonce with
    | some v => s.store res.noncePa (if r.desc.mode = 4 then (res.iv ++ zeroBytes 16).take 16 else nonceBytes s.dev.fuseLsmId v ++ zeroBytes 4)
    | none => s
  s.lsmEnd 0 n

/-- LSM_JOB_DONE: `res` is what the cipher has yielded. AUTH_FAIL and POISON zero the output first. -/
def execLsmJobDone (res : LsmOut) (s : State) : Result :=
  .next (
    match s.mi.job with
    | some r =>
      if r.waits then s
      else
        let d := r.desc
        let n := d.outLen res.out.length
        if res.fault then s.lsmEnd 6 0
        else if res.poisoned then ((s.store res.outPa (zeroBytes n)).poisonMet).lsmEnd 7 0
        else if (d.mode = 2 ∨ d.mode = 7) ∧ !res.tagOk then (s.store res.outPa (zeroBytes n)).lsmEnd 1 0
        else if d.mode = 5 ∧ !res.padOk then s.lsmEnd 4 0
        else s.lsmWrite r res
    | none => s)

end Sys2Proof.Machine
end

