-- ==== Sys2Proof/Machine/StoreRows.lean ====
section
/-!
DEFINITION. Machine/StoreRows.lean: the ends of store commits and what follows them (R62, R72 to R74), and the power-fail pin, which stops a commit (R73, R275, R279, R524).
-/
namespace Sys2Proof.Machine

/-- A run and its task's status and results, while its changes are in the commit that runs. -/
def TaskRun.inCommit? (r : TaskRun) : Option (Nat × List Nat) :=
  match r.phase with
  | .commit code res => some (code, res)
  | _ => none

/-- The same while its changes wait for a later commit. -/
def TaskRun.inQueue? (r : TaskRun) : Option (Nat × List Nat) :=
  match r.phase with
  | .queued code res => some (code, res)
  | _ => none

/-- PAT_COMMIT and OVERLAY_SET end when the live records of their commit are in effect (R74). -/
def TaskRun.waitsLive (r : TaskRun) : Bool := r.code == 0x0011 || r.code == 0x0013

/-- The tasks of a commit whose bank is current end, but for those that wait for live records. -/
def State.commitTasksEnd (s : State) : State :=
  s.tasks.foldl (fun (s : State) (r : TaskRun) =>
    match r.inCommit? with
    | some (code, res) => if r.waitsLive then s.moveRun r { r with phase := .live } else s.endRun r code res
    | none => s) s

/-- The tasks of a commit that failed end with STORE (R458). -/
def State.commitTasksFail (s : State) (result : Nat) : State :=
  s.tasks.foldl (fun (s : State) (r : TaskRun) => if r.inCommit?.isSome then s.endRun r tsStore [result] else s) s

/-- The tasks whose changes wait for a later commit end with STORE. -/
def State.queuedTasksFail (s : State) (result : Nat) : State :=
  s.tasks.foldl (fun (s : State) (r : TaskRun) => if r.inQueue?.isSome then s.endRun r tsStore [result] else s) s

/-- The changes of a commit hold a migration (R77). -/
def migrates (cs : List StoreChange) : Bool := cs.any (fun c => c == .migrate)

/-- The changes of a commit hold a nonce ceiling (R499). -/
def raises (cs : List StoreChange) : Bool := cs.any (fun c => match c with | .ceiling _ => true | _ => false)

/-- What follows the end of a commit besides its tasks: a migration has succeeded or failed, a ceiling that could not be stored is raised no more. -/
def State.commitOver (s : State) (ok : Bool) (cs : List StoreChange) : State :=
  let s := if migrates cs then { s with fw := { s.fw with migrateFailed := !ok } } else s
  if !ok && raises cs then { s with mi := { s.mi with raising := none } } else s

/-- STORE_COMMIT_DONE: the bank is current, or the commit is retried once, or the bank is unusable from here on. -/
def execStoreCommitDone (rb : ReadBack) (s : State) : Result :=
  .next (
    match s.readBack rb with
    | (s, none) => s
    | (s, some (result, cs)) =>
      let ok := result != 3
      let s := s.commitOver ok cs
      (if ok then s.commitTasksEnd else s.commitTasksFail result).warmStage)

/-- STORE_COMMIT_COALESCED: everything that waited is committed together; a store that refuses commits ends the tasks with STORE. -/
def execStoreCommitCoalesced (s : State) : Result :=
  .next (
    if s.pat.run.isSome ∨ s.flag F.PWR_PINS.PWRFAIL ∨ s.pwr.warm.isSome ∨ s.pat.waiting.isEmpty then s
    else
      let t := s.commitWaiting
      if t.pat.run.isNone then (t.queuedTasksFail 5).commitOver false s.pat.waiting
      else t.tasks.foldl (fun (t : State) (r : TaskRun) =>
        match r.inQueue? with
        | some (code, res) => t.moveRun r { r with phase := .commit code res }
        | none => t) t)

/-- LIVE_RECORDS_EFFECT: committed live records take effect at a step tick, and their tasks end. -/
def execLiveRecordsEffect (s : State) : Result :=
  .next (
    let waits := s.tasks.filter (fun (r : TaskRun) => r.phase == .live)
    if s.pat.pendingLive.isEmpty ∧ waits.isEmpty then s
    else
      let s := if s.pat.pendingLive.isEmpty then s else s.inStep State.liveEffect
      waits.foldl (fun (s : State) (r : TaskRun) => s.endRun r tsOk []) s)

/-- PWRFAIL_ASSERT: a commit that has not begun its header stops, and the power failure enters the stream. -/
def execPwrfailAssert (headerBegun : Bool) (s : State) : Result :=
  .next (
    if s.flag F.PWR_PINS.PWRFAIL then s
    else
      let s := (((s.setFlag F.PWR_PINS.PWRFAIL true).setFlag F.PWR_PINS.PWRFAIL_SEEN true)).raise 0x003
      let (s, stopped) := s.stopCommit headerBegun
      let s := if stopped then s.commitTasksFail 4 else s
      (s.queuedTasksFail 4).recognised (.pwrfail true) (fun s => s.pwrfailStep s.sideB true))

/-- PWRFAIL_DEASSERT: the changes that stayed pending are committed, and the end of the power failure enters the stream. -/
def execPwrfailDeassert (s : State) : Result :=
  .next (
    if !s.flag F.PWR_PINS.PWRFAIL then s
    else ((s.setFlag F.PWR_PINS.PWRFAIL false).raise 0x004).commitWaiting.recognised (.pwrfail false) (fun s => s.pwrfailStep s.sideB false))

end Sys2Proof.Machine
end

