-- ==== Sys2Proof/Machine/StreamRows.lean ====
section
/-!
DEFINITION. Machine/StreamRows.lean: the consumption of the inputs of the stream by a controller in step, in step-number order (R310 to R314), one row per kind.
-/
namespace Sys2Proof.Machine

/-- The consumption of the next input, when it is number `n` and of the row's kind. What waited for its step follows: the end of a takeover (R336), and granules that the leader has asked for
(R486). -/
def State.consuming (s : State) (n : Nat) (kind : Input → Bool) (f : InputRec → State → State) : State :=
  ((s.consume n kind f).settleTakeover).serveRepairs

/-! ## Host frames, drives, slots -/

def Input.isHostFrame : Input → Bool
  | .hostFrame _ _ _ => true
  | _ => false

/-- A frame marked bad at its tail is consumed as a discarded frame (R311). -/
def hostFrameStep (r : InputRec) (s : State) : State :=
  let s := if r.sideB = s.sideB then s.frameDone r.origin else s
  match r.input with
  | .hostFrame lport frame bad => if bad then s else s.frameIn lport frame
  | _ => s

/-- CONSUME_HOST_FRAME. -/
def execConsumeHostFrame (n : Nat) (s : State) : Result := .next (s.consuming n Input.isHostFrame hostFrameStep)

def Input.isDriveCqe : Input → Bool
  | .driveCqe _ _ _ => true
  | _ => false

/-- CONSUME_DRIVE_CQE: `remote` are the blocks of a read that the partner issued (R412). -/
def execConsumeDriveCqe (n : Nat) (remote : List Blk) (s : State) : Result :=
  .next (s.consuming n Input.isDriveCqe (fun r s =>
    match r.input with
    | .driveCqe port check cqe => State.driveCqe r.sideB port check cqe remote s
    | _ => s))

def Input.isDriveEvent : Input → Bool
  | .driveEvent _ _ => true
  | _ => false

/-- CONSUME_DRIVE_EVENT; the result of an admin command goes on to the task that issued it, and a drive may have left DRIVE_PS. -/
def execConsumeDriveEvent (n : Nat) (s : State) : Result :=
  .next (s.consuming n Input.isDriveEvent (fun r s =>
    match r.input with
    | .driveEvent port e =>
      let s := State.driveEvent r.sideB port e s
      match e with
      | .admin op status _ => if r.sideB = s.sideB then (if op = 0x09 then s.leftLowPower port else s.driveFwStep port op status) else s
      | _ => s
    | _ => s))

def Input.isSlot : Input → Bool
  | .slot _ _ _ => true
  | _ => false

/-- CONSUME_SLOT: presence, and the gate command that follows from it (R423). -/
def execConsumeSlot (n : Nat) (s : State) : Result :=
  .next (s.consuming n Input.isSlot (fun r s =>
    match r.input with
    | .slot slot present sense => (State.slotSeen r.sideB slot present sense s).gateUpdate slot
    | _ => s))

/-! ## Ticks (R313) -/

def Input.isTick : Input → Bool
  | .tick _ => true
  | _ => false

/-- What is due with every TICK: control packets at a quantum of 4 µs (R141), the digest (R332), power-state entry and its end (R540, R545), write-through (R525), dumps to retire, and a drive
update whose drive has gone. Every other timer of step time has a row of its own. -/
def tickStep (us : Nat) (s : State) : State :=
  let s := { s with dev := { s.dev with stepUs := us } }
  let s := if s.numbers then s else { s with wsw := { s.wsw with tickUs := us, tickNs := s.dev.timeNs } }
  let s := { s with flm := { s.flm with ghosts := s.flm.ghosts.filter (fun g => decide (us < g.untilUs)) } }
  let s := if us % 4 = 0 then s.flushCtl else s
  s.digestSend.entryAdvance.fallowOver.showThrough.settlePower.driveFwLost

/-- CONSUME_TICK. -/
def execConsumeTick (n : Nat) (s : State) : Result :=
  .next (s.consuming n Input.isTick (fun r s =>
    match r.input with
    | .tick us => tickStep us s
    | _ => s))

/-! ## Management writes and tasks (R310, R460) -/

def Input.isMgmt : Input → Bool
  | .mgmt _ => true
  | _ => false

/-- The FW_ACTIVATE task that asked for a rolling activation ends once its first step has begun (R560). -/
def State.fwPairTask (s : State) : State :=
  match s.tasks.find? (fun (t : TaskRun) => t.code == 0x0042 && t.phase == .working) with
  | some r => s.endRun r tsOk []
  | none => s

/-- A write that the controller of side `sideB` put into the stream. -/
def State.applyWrite (s : State) (sideB : Bool) (w : StepWrite) : State :=
  match w with
  | .winCommit index gen staged shadow => State.winCommit index gen staged shadow s
  | .wqOpen wq ctx => State.openWq wq ctx s
  | .wqClose wq => State.closeWq wq s
  | .wqReset wq => State.resetWq wq s
  | .wqDoorbell wq tail cqHead => State.ringSq wq tail cqHead s
  | .rqDoorbell wq tail cqHead bufs => State.ringRq wq tail cqHead bufs s
  | .chainWrite index value fault => s.setChain index (value % 2 ^ 32 + (if fault then chainFaultBit else 0))
  | .addrWrite entry addr => State.setAddr entry addr s
  | .field off size value => s.regEffect off size value
  | .mapInval map extent ent => s.invalMap map extent ent
  | .skdPause on => s.pauseRebuilds on
  | .dpCtl port release reset => if sideB = s.sideB then s.dpControl port release reset else s
  | .slotEnable slot on => s.slotEnable slot on
  | .enter target => (s.enter target).1
  | .wake => s.wakeSource
  | .slotHold => s.slotHoldStep
  | .pwrfail on => s.pwrfailStep sideB on
  | .holdup ok => s.holdupStep sideB ok
  | .fwPair window => (s.fwPairStep window).fwPairTask
  | .fwConfirmed => s.fwConfirmedStep.fwNotice
  | .fwFellBack => s.fwFellBackStep.fwNotice
  | .fwActivated => s.fwNotice
  | .task t => s.taskStep t

/-- CONSUME_MGMT. -/
def execConsumeMgmt (n : Nat) (s : State) : Result :=
  .next (s.consuming n Input.isMgmt (fun r s =>
    match r.input with
    | .mgmt w => s.applyWrite r.sideB w
    | _ => s))

/-! ## Retransmissions (R321) -/

def Input.isRetx : Input → Bool
  | .retx _ _ _ => true
  | _ => false

/-- The packet goes again; a controller without the destination's flow, which is local state, only keeps count of its attempts (R316). -/
def retxStep (msgId index attempt : Nat) (s : State) : State :=
  match s.flm.msgs.find? (fun m => m.id == msgId && m.pkts.any (fun p => p.index == index && p.sent)) with
  | none => s
  | some m => match m.pkts.find? (fun p => p.index == index) with
    | none => s
    | some p =>
      let p := { p with retx := false }
      if p.held && !(m.pkts.all (·.held)) then s.setMsg (m.setPkt p)
      else match s.flow? m.dst with
        | some _ => s.resend m p attempt
        | none => s.setMsg (m.setPkt { p with attempt := attempt })

/-- CONSUME_RETX. -/
def execConsumeRetx (n : Nat) (s : State) : Result :=
  .next (s.consuming n Input.isRetx (fun r s =>
    match r.input with
    | .retx msgId index attempt => (retxStep msgId index attempt s).settleReports
    | _ => s))

/-! ## Cuts (R310) -/

def Input.isCut : Input → Bool
  | .cut _ => true
  | _ => false

/-- Drive commands that the old leader issued and that another side issues now go again there, under new tags (R336 step 5, R343). -/
def State.moveDrives (s : State) (oldB : Bool) : State :=
  (s.drv.cmds.filter (fun c => c.sideB == oldB && c.queue != 0 && s.issuerB (s.useSide c.use) != oldB)).foldl
    (fun (s : State) (c : DrvCmd) => s.reissue c) s

/-- A handover: the roles change; the new leader numbers what it forwarded in vain, and the TICKs that are due (R313, R343). -/
def handoverCut (s : State) : State :=
  if s.role = roleLeader then
    let s := { s with wsw := { s.wsw with handover := false } }.setRole roleFollower
    ((s.moveDrives s.sideB).raise 0x209).fwHandedOver
  else if s.role = roleFollower then
    let s := s.setRole roleLeader
    ((s.moveDrives (!s.sideB)).raise 0x209).numberForwarded.missedTicks
  else s

/-- The cut of a resync: the granules that are dirty still, and the number of the cut (R340). -/
def resyncCutStep (n : Nat) (s : State) : State :=
  if s.role = roleAlone ∧ s.wsw.resyncPass = 9 then
    let s := s.sendDirty
    ({ s with wsw := { s.wsw with resyncPass := 10, resyncCut := n } }).sendLink (.resync 3 n)
  else s

/-- CONSUME_CUT. -/
def execConsumeCut (n : Nat) (s : State) : Result :=
  .next (s.consuming n Input.isCut (fun r s =>
    match r.input with
    | .cut code =>
      if code = cutHandover then handoverCut s
      else if code = cutResync then resyncCutStep n s
      else if code = cutHalf then { s with wsw := { s.wsw with bothHalves := false } }.setRole s.role
      else if code = cutTakeover then s.setDelivery none
      else s
    | _ => s))

end Sys2Proof.Machine
end

