-- ==== Sys2Proof/Machine/Thermal.lean ====
section
/-!
DEFINITION. Machine/Thermal.lean: the thermal trip (R585, R586) (20_package_electrical.md).
-/
namespace Sys2Proof.Machine

/-- THERMAL_TRIP: the hottest hub sensor reads this many degrees; HUB_C and HOT show it, and from 115 °C on THERM_TRIP_N is pulled low until the next cold reset. -/
def execThermalTrip (celsius : Nat) (s : State) : Result :=
  .next (
    let s := (s.set F.THERM_STATUS.HUB_C (min celsius 127)).setFlag F.THERM_STATUS.HOT (decide (100 ≤ celsius))
    if 115 ≤ celsius ∧ !s.flag F.THERM_STATUS.TRIP then (s.setFlag F.THERM_STATUS.TRIP true).emit (.pin .thermTripN 0) else s)

end Sys2Proof.Machine
end

