-- ==== Sys2Proof/Machine/Dispatch.lean ====
section
/-!
DEFINITION. Machine/Dispatch.lean: which meaning carries out which command.
-/
namespace Sys2Proof.Machine

/-- The effect of a command on everything but the queue. -/
def exec (i : Instr) (s : State) : Host.Outcome State Fault Refusal :=
  match i with
  | .registerWrite src off size value => Sys2Proof.Machine.execRegisterWrite src off size value s
  | .rcCounterRead src off size => Sys2Proof.Machine.execRcCounterRead src off size s
  | .accessTimeout src off read => Sys2Proof.Machine.execAccessTimeout src off read s
  | .clockLockLoss island => Sys2Proof.Machine.execClockLockLoss island s
  | .storeCommitDone rb => Sys2Proof.Machine.execStoreCommitDone rb s
  | .storeCommitCoalesced => Sys2Proof.Machine.execStoreCommitCoalesced s
  | .liveRecordsEffect => Sys2Proof.Machine.execLiveRecordsEffect s
  | .sendPacketRx dg place => Sys2Proof.Machine.execSendPacketRx dg place s
  | .writePacketRx dg place => Sys2Proof.Machine.execWritePacketRx dg place s
  | .readRx dg spans => Sys2Proof.Machine.execReadRx dg spans s
  | .readRespRx dg place => Sys2Proof.Machine.execReadRespRx dg place s
  | .ackRx dg => Sys2Proof.Machine.execAckRx dg s
  | .nackRx dg => Sys2Proof.Machine.execNackRx dg s
  | .busyRx dg => Sys2Proof.Machine.execBusyRx dg s
  | .probeRx dg => Sys2Proof.Machine.execProbeRx dg s
  | .slotExpiry peer msgId => Sys2Proof.Machine.execSlotExpiry peer msgId s
  | .tableEntryExpiry peer msgId => Sys2Proof.Machine.execTableEntryExpiry peer msgId s
  | .ackDelayExpiry peer msgId => Sys2Proof.Machine.execAckDelayExpiry peer msgId s
  | .retransmitTimerExpiry msg pkt => Sys2Proof.Machine.execRetransmitTimerExpiry msg pkt s
  | .busyHoldExpiry msg => Sys2Proof.Machine.execBusyHoldExpiry msg s
  | .messageDeadline msg => Sys2Proof.Machine.execMessageDeadline msg s
  | .probeInterval peer path => Sys2Proof.Machine.execProbeInterval peer path s
  | .probeUnanswered msg => Sys2Proof.Machine.execProbeUnanswered msg s
  | .flmWinCommit src index gen staged shadow => Sys2Proof.Machine.execFlmWinCommit src index gen staged shadow s
  | .windowCommitApply => Sys2Proof.Machine.execWindowCommitApply s
  | .readFilterExpiry peer msgId => Sys2Proof.Machine.execReadFilterExpiry peer msgId s
  | .wqOpen src wq ctx => Sys2Proof.Machine.execWqOpen src wq ctx s
  | .wqClose src wq => Sys2Proof.Machine.execWqClose src wq s
  | .wqReset src wq => Sys2Proof.Machine.execWqReset src wq s
  | .wqDoorbell src wq tail cqHead => Sys2Proof.Machine.execWqDoorbell src wq tail cqHead s
  | .rqDoorbell src wq tail cqHead bufs => Sys2Proof.Machine.execRqDoorbell src wq tail cqHead bufs s
  | .descSend wq d ip spans rest => Sys2Proof.Machine.execDescSend wq d ip spans rest s
  | .descWrite wq d ip spans rest => Sys2Proof.Machine.execDescWrite wq d ip spans rest s
  | .descRead wq d ip rest => Sys2Proof.Machine.execDescRead wq d ip rest s
  | .descWait wq d rest => Sys2Proof.Machine.execDescWait wq d rest s
  | .descNop wq d rest => Sys2Proof.Machine.execDescNop wq d rest s
  | .waitSatisfied wq rest => Sys2Proof.Machine.execWaitSatisfied wq rest s
  | .fenceLimitRelease wq ip spans => Sys2Proof.Machine.execFenceLimitRelease wq ip spans s
  | .readTagFree wq ip => Sys2Proof.Machine.execReadTagFree wq ip s
  | .flowCacheAdmit peer => Sys2Proof.Machine.execFlowCacheAdmit peer s
  | .wqFaultResolved wq spans => Sys2Proof.Machine.execWqFaultResolved wq spans s
  | .chainCounterWrite src index value fault => Sys2Proof.Machine.execChainCounterWrite src index value fault s
  | .addressTableWrite src entry addr => Sys2Proof.Machine.execAddressTableWrite src entry addr s
  | .epochTransition => Sys2Proof.Machine.execEpochTransition s
  | .connect frm cap => Sys2Proof.Machine.execConnect frm cap s
  | .propertyGet queue cap => Sys2Proof.Machine.execPropertyGet queue cap s
  | .propertySet queue cap => Sys2Proof.Machine.execPropertySet queue cap s
  | .disconnect queue cap => Sys2Proof.Machine.execDisconnect queue cap s
  | .authSend queue cap m => Sys2Proof.Machine.execAuthSend queue cap m s
  | .authReceive queue cap m => Sys2Proof.Machine.execAuthReceive queue cap m s
  | .identify queue cap => Sys2Proof.Machine.execIdentify queue cap s
  | .getLogPage queue cap => Sys2Proof.Machine.execGetLogPage queue cap s
  | .abort queue cap => Sys2Proof.Machine.execAbort queue cap s
  | .setFeatures queue cap => Sys2Proof.Machine.execSetFeatures queue cap s
  | .getFeatures queue cap => Sys2Proof.Machine.execGetFeatures queue cap s
  | .asyncEventRequest queue cap => Sys2Proof.Machine.execAsyncEventRequest queue cap s
  | .keepAlive queue cap => Sys2Proof.Machine.execKeepAlive queue cap s
  | .firmwareImageDownload queue cap => Sys2Proof.Machine.execFirmwareImageDownload queue cap s
  | .fwCommitVerify queue cap chk => Sys2Proof.Machine.execFwCommitVerify queue cap chk s
  | .fwCommitNextReset queue cap chk => Sys2Proof.Machine.execFwCommitNextReset queue cap chk s
  | .fwCommitSlot queue cap => Sys2Proof.Machine.execFwCommitSlot queue cap s
  | .fwCommitNow queue cap chk partnerHolds => Sys2Proof.Machine.execFwCommitNow queue cap chk partnerHolds s
  | .flush queue cap => Sys2Proof.Machine.execFlush queue cap s
  | .nvmeRead queue cap => Sys2Proof.Machine.execNvmeRead queue cap s
  | .verify queue cap => Sys2Proof.Machine.execVerify queue cap s
  | .compare queue cap => Sys2Proof.Machine.execCompare queue cap s
  | .nvmeWrite queue cap => Sys2Proof.Machine.execNvmeWrite queue cap s
  | .writeZeroes queue cap => Sys2Proof.Machine.execWriteZeroes queue cap s
  | .datasetManagement queue cap => Sys2Proof.Machine.execDatasetManagement queue cap s
  | .reservationRegister queue cap => Sys2Proof.Machine.execReservationRegister queue cap s
  | .reservationReport queue cap => Sys2Proof.Machine.execReservationReport queue cap s
  | .reservationAcquire queue cap => Sys2Proof.Machine.execReservationAcquire queue cap s
  | .reservationRelease queue cap => Sys2Proof.Machine.execReservationRelease queue cap s
  | .runtCapsule queue => Sys2Proof.Machine.execRuntCapsule queue s
  | .katoExpiry ctrl => Sys2Proof.Machine.execKatoExpiry ctrl s
  | .heldWriteResume cmd => Sys2Proof.Machine.execHeldWriteResume cmd s
  | .writeHeldAlert cmd => Sys2Proof.Machine.execWriteHeldAlert cmd s
  | .writeHeldTimeout cmd => Sys2Proof.Machine.execWriteHeldTimeout cmd s
  | .cmdLimitExpiry cmd => Sys2Proof.Machine.execCmdLimitExpiry cmd s
  | .tcpSyn conn => Sys2Proof.Machine.execTcpSyn conn s
  | .tcpPduRx conn pdu hdOk ddOk => Sys2Proof.Machine.execTcpPduRx conn pdu hdOk ddOk s
  | .chuteAdmit m chk partnerHolds => Sys2Proof.Machine.execChuteAdmit m chk partnerHolds s
  | .mapInval src map extent ent => Sys2Proof.Machine.execMapInval src map extent ent s
  | .mapInvalDone => Sys2Proof.Machine.execMapInvalDone s
  | .apertureWrite port addr bytes => Sys2Proof.Machine.execApertureWrite port addr bytes s
  | .apertureRead port addr len => Sys2Proof.Machine.execApertureRead port addr len s
  | .tagHoldExpiry tag => Sys2Proof.Machine.execTagHoldExpiry tag s
  | .writeCommitPoint cmd => Sys2Proof.Machine.execWriteCommitPoint cmd s
  | .destageStart group stripe reads => Sys2Proof.Machine.execDestageStart group stripe reads s
  | .yardBufferGrant cid => Sys2Proof.Machine.execYardBufferGrant cid s
  | .brandUpdateDone group => Sys2Proof.Machine.execBrandUpdateDone group s
  | .mapCommitDone group allocs => Sys2Proof.Machine.execMapCommitDone group allocs s
  | .tallyEntryFree group stripe reads => Sys2Proof.Machine.execTallyEntryFree group stripe reads s
  | .dumpWriteWaitExpiry => Sys2Proof.Machine.execDumpWriteWaitExpiry s
  | .dumpComplete => Sys2Proof.Machine.execDumpComplete s
  | .pwrfailAssert headerBegun => Sys2Proof.Machine.execPwrfailAssert headerBegun s
  | .pwrfailDeassert => Sys2Proof.Machine.execPwrfailDeassert s
  | .recovery found maps exts => Sys2Proof.Machine.execRecovery found maps exts s
  | .dumpRetireRecovered => Sys2Proof.Machine.execDumpRetireRecovered s
  | .sweepStripe group stripe reads => Sys2Proof.Machine.execSweepStripe group stripe reads s
  | .skidderStripe group member reads => Sys2Proof.Machine.execSkidderStripe group member reads s
  | .patrolStripe group reads => Sys2Proof.Machine.execPatrolStripe group reads s
  | .patrolLate group => Sys2Proof.Machine.execPatrolLate group s
  | .skdPause src on => Sys2Proof.Machine.execSkdPause src on s
  | .migGranuleSend slot blocks => Sys2Proof.Machine.execMigGranuleSend slot blocks s
  | .migGranuleRx peer msgId sub nsid g => Sys2Proof.Machine.execMigGranuleRx peer msgId sub nsid g s
  | .migDone slot => Sys2Proof.Machine.execMigDone slot s
  | .roleSelect wave => Sys2Proof.Machine.execRoleSelect wave s
  | .faultNotice wave => Sys2Proof.Machine.execFaultNotice wave s
  | .pairActiveInLoss dead => Sys2Proof.Machine.execPairActiveInLoss dead s
  | .tickIssue => Sys2Proof.Machine.execTickIssue s
  | .consumeHostFrame n => Sys2Proof.Machine.execConsumeHostFrame n s
  | .consumeDriveCqe n remote => Sys2Proof.Machine.execConsumeDriveCqe n remote s
  | .consumeDriveEvent n => Sys2Proof.Machine.execConsumeDriveEvent n s
  | .consumeTick n => Sys2Proof.Machine.execConsumeTick n s
  | .consumeMgmt n => Sys2Proof.Machine.execConsumeMgmt n s
  | .consumeSlot n => Sys2Proof.Machine.execConsumeSlot n s
  | .consumeRetx n => Sys2Proof.Machine.execConsumeRetx n s
  | .consumeCut n => Sys2Proof.Machine.execConsumeCut n s
  | .forwardRx fr => Sys2Proof.Machine.execForwardRx fr s
  | .linkIdleSend => Sys2Proof.Machine.execLinkIdleSend s
  | .helloRx fr h sameFactory => Sys2Proof.Machine.execHelloRx fr h sameFactory s
  | .heartbeatSend => Sys2Proof.Machine.execHeartbeatSend s
  | .heartbeatRx fr => Sys2Proof.Machine.execHeartbeatRx fr s
  | .inputRx fr => Sys2Proof.Machine.execInputRx fr s
  | .stagedRx fr => Sys2Proof.Machine.execStagedRx fr s
  | .digestRx fr => Sys2Proof.Machine.execDigestRx fr s
  | .snapshotRx fr => Sys2Proof.Machine.execSnapshotRx fr s
  | .resyncFrameRx fr => Sys2Proof.Machine.execResyncFrameRx fr s
  | .linkNakRx fr => Sys2Proof.Machine.execLinkNakRx fr s
  | .linkFailure lockLost => Sys2Proof.Machine.execLinkFailure lockLost s
  | .heartbeatTimeout wave => Sys2Proof.Machine.execHeartbeatTimeout wave s
  | .resyncPassDone dirtyBytes => Sys2Proof.Machine.execResyncPassDone dirtyBytes s
  | .resyncCut => Sys2Proof.Machine.execResyncCut s
  | .joinerInStep => Sys2Proof.Machine.execJoinerInStep s
  | .wswHandover src => Sys2Proof.Machine.execWswHandover src s
  | .wswDetach src => Sys2Proof.Machine.execWswDetach src s
  | .wswResync src => Sys2Proof.Machine.execWswResync src s
  | .hostFrameRx lport frame ending linkRefuses => Sys2Proof.Machine.execHostFrameRx lport frame ending linkRefuses s
  | .hostLinkUp lport => Sys2Proof.Machine.execHostLinkUp lport s
  | .hostLinkDown lport => Sys2Proof.Machine.execHostLinkDown lport s
  | .pauseFrameRx lport pfc enable quanta fcsOk => Sys2Proof.Machine.execPauseFrameRx lport pfc enable quanta fcsOk s
  | .pauseExpiry lport cls => Sys2Proof.Machine.execPauseExpiry lport cls s
  | .pauseWatchdogTrip lport cls => Sys2Proof.Machine.execPauseWatchdogTrip lport cls s
  | .pauseWatchdogClear lport cls => Sys2Proof.Machine.execPauseWatchdogClear lport cls s
  | .pfcRepeat lport cls => Sys2Proof.Machine.execPfcRepeat lport cls s
  | .ptpAdjOfsWrite src whole value => Sys2Proof.Machine.execPtpAdjOfsWrite src whole value s
  | .ptpAdjRateWrite src value => Sys2Proof.Machine.execPtpAdjRateWrite src value s
  | .ptpAdjApply => Sys2Proof.Machine.execPtpAdjApply s
  | .ptpTxIdRead src port => Sys2Proof.Machine.execPtpTxIdRead src port s
  | .ppsOutEdge => Sys2Proof.Machine.execPpsOutEdge s
  | .ppsInEdge => Sys2Proof.Machine.execPpsInEdge s
  | .egressService point frames => Sys2Proof.Machine.execEgressService point frames s
  | .batchCommit port => Sys2Proof.Machine.execBatchCommit port s
  | .gateEntryChange lport => Sys2Proof.Machine.execGateEntryChange lport s
  | .gateListStart lport => Sys2Proof.Machine.execGateListStart lport s
  | .drivePerstRelease port => Sys2Proof.Machine.execDrivePerstRelease port s
  | .driveLinkTrained port rate width flit => Sys2Proof.Machine.execDriveLinkTrained port rate width flit s
  | .driveConfigDone port => Sys2Proof.Machine.execDriveConfigDone port s
  | .driveControllerReady port failed => Sys2Proof.Machine.execDriveControllerReady port failed s
  | .driveChecksDone port facts adminFailed => Sys2Proof.Machine.execDriveChecksDone port facts adminFailed s
  | .driveBrandRead port read => Sys2Proof.Machine.execDriveBrandRead port read s
  | .driveReady port adminFailed => Sys2Proof.Machine.execDriveReady port adminFailed s
  | .driveBringupTimeout port capTo => Sys2Proof.Machine.execDriveBringupTimeout port capTo s
  | .surpriseDown port present => Sys2Proof.Machine.execSurpriseDown port present s
  | .drivePortError port err hdr => Sys2Proof.Machine.execDrivePortError port err hdr s
  | .containmentAutoRelease port => Sys2Proof.Machine.execContainmentAutoRelease port s
  | .dpRelease src port => Sys2Proof.Machine.execDpRelease src port s
  | .dpReset src port => Sys2Proof.Machine.execDpReset src port s
  | .inboundRequest port req poisoned hdr => Sys2Proof.Machine.execInboundRequest port req poisoned hdr s
  | .cplTimeout port hdr => Sys2Proof.Machine.execCplTimeout port hdr s
  | .unexpectedCompletion port hdr => Sys2Proof.Machine.execUnexpectedCompletion port hdr s
  | .driveCqeRx port cqe => Sys2Proof.Machine.execDriveCqeRx port cqe s
  | .cqDoorbellTimer port queue => Sys2Proof.Machine.execCqDoorbellTimer port queue s
  | .driveCmdTimeout cid => Sys2Proof.Machine.execDriveCmdTimeout cid s
  | .adminCmdTimeout port => Sys2Proof.Machine.execAdminCmdTimeout port s
  | .memberUnreachableTimeout group member => Sys2Proof.Machine.execMemberUnreachableTimeout group member s
  | .sidebandPoll port answer => Sys2Proof.Machine.execSidebandPoll port answer s
  | .smartPoll port answer => Sys2Proof.Machine.execSmartPoll port answer s
  | .presenceConfirmed slot present ma mv => Sys2Proof.Machine.execPresenceConfirmed slot present ma mv s
  | .supplyWindowChange slot supply ma mv => Sys2Proof.Machine.execSupplyWindowChange slot supply ma mv s
  | .insertDelayExpiry slot ma mv => Sys2Proof.Machine.execInsertDelayExpiry slot ma mv s
  | .rampComplete slot ma mv => Sys2Proof.Machine.execRampComplete slot ma mv s
  | .limitEngage slot ma mv => Sys2Proof.Machine.execLimitEngage slot ma mv s
  | .limitDisengage slot ma mv => Sys2Proof.Machine.execLimitDisengage slot ma mv s
  | .faultTimerTrip slot ma mv => Sys2Proof.Machine.execFaultTimerTrip slot ma mv s
  | .fastTrip slot ma mv => Sys2Proof.Machine.execFastTrip slot ma mv s
  | .powerGoodQualified slot ma mv => Sys2Proof.Machine.execPowerGoodQualified slot ma mv s
  | .slotEnableWrite src slot on => Sys2Proof.Machine.execSlotEnableWrite src slot on s
  | .svcLinkChange speed width => Sys2Proof.Machine.execSvcLinkChange speed width s
  | .svcFreeze aerBit => Sys2Proof.Machine.execSvcFreeze aerBit s
  | .freezeRelease aerCleared => Sys2Proof.Machine.execFreezeRelease aerCleared s
  | .functionLevelReset => Sys2Proof.Machine.execFunctionLevelReset s
  | .bar2Write addr => Sys2Proof.Machine.execBar2Write addr s
  | .msixUnmask wr => Sys2Proof.Machine.execMsixUnmask wr s
  | .pmStateWrite d3 => Sys2Proof.Machine.execPmStateWrite d3 s
  | .nop go => Sys2Proof.Machine.execNop go s
  | .identity go => Sys2Proof.Machine.execIdentity go s
  | .patBlock go data => Sys2Proof.Machine.execPatBlock go data s
  | .patCommit go sig partner => Sys2Proof.Machine.execPatCommit go sig partner s
  | .patAbort go => Sys2Proof.Machine.execPatAbort go s
  | .overlaySet go => Sys2Proof.Machine.execOverlaySet go s
  | .ownerCommission go data digest => Sys2Proof.Machine.execOwnerCommission go data digest s
  | .ownerRotate go data sig digest sameSlot => Sys2Proof.Machine.execOwnerRotate go data sig digest sameSlot s
  | .keyInstall go data sig key => Sys2Proof.Machine.execKeyInstall go data sig key s
  | .keySwitch go data sig => Sys2Proof.Machine.execKeySwitch go data sig s
  | .keyRetire go data sig => Sys2Proof.Machine.execKeyRetire go data sig s
  | .admitSet go data sig => Sys2Proof.Machine.execAdmitSet go data sig s
  | .fwBlock go data => Sys2Proof.Machine.execFwBlock go data s
  | .fwImageVerify chk => Sys2Proof.Machine.execFwImageVerify chk s
  | .fwAbort go => Sys2Proof.Machine.execFwAbort go s
  | .fwActivate go partnerHolds => Sys2Proof.Machine.execFwActivate go partnerHolds s
  | .fwConfirm go => Sys2Proof.Machine.execFwConfirm go s
  | .fwReject go => Sys2Proof.Machine.execFwReject go s
  | .driveAccept go => Sys2Proof.Machine.execDriveAccept go s
  | .memberFail go => Sys2Proof.Machine.execMemberFail go s
  | .driveFw go data => Sys2Proof.Machine.execDriveFw go data s
  | .migStart go ip => Sys2Proof.Machine.execMigStart go ip s
  | .migCutover go => Sys2Proof.Machine.execMigCutover go s
  | .migCancel go => Sys2Proof.Machine.execMigCancel go s
  | .addrSet go data => Sys2Proof.Machine.execAddrSet go data s
  | .powerEnter go => Sys2Proof.Machine.execPowerEnter go s
  | .warmReset go => Sys2Proof.Machine.execWarmReset go s
  | .ledgerRead go => Sys2Proof.Machine.execLedgerRead go s
  | .taskDataReadDone data => Sys2Proof.Machine.execTaskDataReadDone data s
  | .taskEnd partnerCode => Sys2Proof.Machine.execTaskEnd partnerCode s
  | .deferredTaskRun => Sys2Proof.Machine.execDeferredTaskRun s
  | .kvqPop engine mode rs1 => Sys2Proof.Machine.execKvqPop engine mode rs1 s
  | .kvqPush engine mode rs1 rs2 => Sys2Proof.Machine.execKvqPush engine mode rs1 rs2 s
  | .kvqWait engine mode rs1 => Sys2Proof.Machine.execKvqWait engine mode rs1 s
  | .kvqWaitWake engine => Sys2Proof.Machine.execKvqWaitWake engine s
  | .kvqRing engine mode rs1 rs2 cqHead bufs => Sys2Proof.Machine.execKvqRing engine mode rs1 rs2 cqHead bufs s
  | .engineAccessFault engine mode kind cause va unhandled => Sys2Proof.Machine.execEngineAccessFault engine mode kind cause va unhandled s
  | .dmaStart src engine chan mode addr spans => Sys2Proof.Machine.execDmaStart src engine chan mode addr spans s
  | .dmaResume src engine chan spans => Sys2Proof.Machine.execDmaResume src engine chan spans s
  | .dmaAbort src engine chan => Sys2Proof.Machine.execDmaAbort src engine chan s
  | .dmaComplete engine chan spans => Sys2Proof.Machine.execDmaComplete engine chan spans s
  | .taskPreempt cluster priority regAccess => Sys2Proof.Machine.execTaskPreempt cluster priority regAccess s
  | .xltInval src scope asid vpn => Sys2Proof.Machine.execXltInval src scope asid vpn s
  | .xltInvalDone => Sys2Proof.Machine.execXltInvalDone s
  | .evtRaiseWrite src event => Sys2Proof.Machine.execEvtRaiseWrite src event s
  | .cruiserRead sram found owner => Sys2Proof.Machine.execCruiserRead sram found owner s
  | .repairGranuleRx granule bytes poisoned => Sys2Proof.Machine.execRepairGranuleRx granule bytes poisoned s
  | .repairRequestRx granule step => Sys2Proof.Machine.execRepairRequestRx granule step s
  | .memRetire src kind index => Sys2Proof.Machine.execMemRetire src kind index s
  | .retireComplete => Sys2Proof.Machine.execRetireComplete s
  | .memInject src kind yard addr => Sys2Proof.Machine.execMemInject src kind yard addr s
  | .memLogRelease src n => Sys2Proof.Machine.execMemLogRelease src n s
  | .lsmStart src mode addr => Sys2Proof.Machine.execLsmStart src mode addr s
  | .lsmNonceResume => Sys2Proof.Machine.execLsmNonceResume s
  | .lsmJobDone res => Sys2Proof.Machine.execLsmJobDone res s
  | .scalerCounterWrite counter acc => Sys2Proof.Machine.execScalerCounterWrite counter acc s
  | .scalerSelectWrite src counter sel => Sys2Proof.Machine.execScalerSelectWrite src counter sel s
  | .scalerStartAtReached => Sys2Proof.Machine.execScalerStartAtReached s
  | .scalerStopAtReached => Sys2Proof.Machine.execScalerStopAtReached s
  | .sampleTaken engine smp => Sys2Proof.Machine.execSampleTaken engine smp s
  | .smpRingReset src engine wr => Sys2Proof.Machine.execSmpRingReset src engine wr s
  | .ldgFreezeWrite src thawToo => Sys2Proof.Machine.execLdgFreezeWrite src thawToo s
  | .ldgThaw src freezeToo => Sys2Proof.Machine.execLdgThaw src freezeToo s
  | .powerOnReset => Sys2Proof.Machine.execPowerOnReset s
  | .sysReset => Sys2Proof.Machine.execSysReset s
  | .warmRstPin => Sys2Proof.Machine.execWarmRstPin s
  | .pwrCtlWarm src => Sys2Proof.Machine.execPwrCtlWarm src s
  | .warmResetEffect selfTest => Sys2Proof.Machine.execWarmResetEffect selfTest s
  | .sysRstNRelease sideB recovery selfTest => Sys2Proof.Machine.execSysRstNRelease sideB recovery selfTest s
  | .patternLoad chk => Sys2Proof.Machine.execPatternLoad chk s
  | .firmwareSelect slotA slotB => Sys2Proof.Machine.execFirmwareSelect slotA slotB s
  | .bootReady => Sys2Proof.Machine.execBootReady s
  | .fatalReset selfTest => Sys2Proof.Machine.execFatalReset selfTest s
  | .holdupChange ok => Sys2Proof.Machine.execHoldupChange ok s
  | .watchdogExpiry => Sys2Proof.Machine.execWatchdogExpiry s
  | .wdogKick src => Sys2Proof.Machine.execWdogKick src s
  | .pwrCtlEnter src target => Sys2Proof.Machine.execPwrCtlEnter src target s
  | .idlePowerEntry => Sys2Proof.Machine.execIdlePowerEntry s
  | .drowseEntryDone => Sys2Proof.Machine.execDrowseEntryDone s
  | .fallowPonr => Sys2Proof.Machine.execFallowPonr s
  | .fallowEntryDone => Sys2Proof.Machine.execFallowEntryDone s
  | .wakeGpioEdge gpio => Sys2Proof.Machine.execWakeGpioEdge gpio s
  | .pwrCtlWake src => Sys2Proof.Machine.execPwrCtlWake src s
  | .wakeDone => Sys2Proof.Machine.execWakeDone s
  | .linkIdleRx fr => Sys2Proof.Machine.execLinkIdleRx fr s
  | .clusterSwitch => Sys2Proof.Machine.execClusterSwitch s
  | .trialEvaluation => Sys2Proof.Machine.execTrialEvaluation s
  | .trialExpiry => Sys2Proof.Machine.execTrialExpiry s
  | .thermalTrip celsius => Sys2Proof.Machine.execThermalTrip celsius s

end Sys2Proof.Machine
end

