-- ==== Sys2Proof/Machine/Step.lean ====
section
/-!
DEFINITION. Machine/Step.lean: one step of the block: the command at the front of the queue is carried out; with no command waiting the block idles for 1 ns (log entry on idling).
-/
namespace Sys2Proof.Machine

/-- Idling: device time moves on by 1 ns (DESIGN CHOICE). -/
def State.idle (s : State) : State := s.advance 1

/-- One step: the first waiting command, with the rest of the queue left. -/
def step (s : State) : Host.Outcome State Fault Refusal :=
  match s.pending with
  | [] => .next s.idle
  | c :: rest => exec c { s with pending := rest }

/-- The state with the command that a word spells put at the front of the queue. -/
def State.withFetchWord (s : State) (nbits w : Nat) : State :=
  match decodeTableWord nbits w with
  | some c => { s with pending := c :: s.pending }
  | none => s

end Sys2Proof.Machine
end

