-- ==== Sys2Proof/Safety.lean ====
section
/-!
DEFINITION. Safety.lean: what a run may rely on, in the terms the statements use: a step that answers a next state, the canonical forms, the one-time fuses, and for every command the parts
of the state that it may change.
-/
namespace Sys2Proof.Machine

/-- A command completes: it answers a next state, no fault and no refusal. -/
def Completes (r : Result) (t : State) : Prop := r = .next t

/-- The large tables of a state are in their canonical form: memory lists addresses strictly rising and no byte that an unlisted address reads as, the register file its fields strictly rising. -/
def State.Canonical (s : State) : Prop := Memory.wf s.mem = true ∧ sparseSorted s.regs = true

/-- A burned owner-key slot stays burned, with its digest, and a revoked one revoked (one-time fuses, 02_pattern.md). -/
def OwnerKept (a b : List (Option Nat × Bool)) : Prop :=
  ∀ (i d : Nat) (r : Bool), a[i]? = some (some d, r) → ∃ r' : Bool, b[i]? = some (some d, r') ∧ (r = true → r' = true)

/-- The parts of the state that a command can change: every field of State but the queue. -/
inductive Part where
  | regs | dev | pat | svc | tasks | eng | led | flm | fx | wsw | drv | pwr | nvm | cht | grps | tly | tc | hp | slot | fw | mi | mem | poison | out | freeCtr
  deriving DecidableEq, Repr

/-- A part is the same in two states. -/
def Part.same (c : Part) (s t : State) : Prop :=
  match c with
  | .regs => t.regs = s.regs
  | .dev => t.dev = s.dev
  | .pat => t.pat = s.pat
  | .svc => t.svc = s.svc
  | .tasks => t.tasks = s.tasks
  | .eng => t.eng = s.eng
  | .led => t.led = s.led
  | .flm => t.flm = s.flm
  | .fx => t.fx = s.fx
  | .wsw => t.wsw = s.wsw
  | .drv => t.drv = s.drv
  | .pwr => t.pwr = s.pwr
  | .nvm => t.nvm = s.nvm
  | .cht => t.cht = s.cht
  | .grps => t.grps = s.grps
  | .tly => t.tly = s.tly
  | .tc => t.tc = s.tc
  | .hp => t.hp = s.hp
  | .slot => t.slot = s.slot
  | .fw => t.fw = s.fw
  | .mi => t.mi = s.mi
  | .mem => t.mem = s.mem
  | .poison => t.poison = s.poison
  | .out => t.out = s.out
  | .freeCtr => t.freeCtr = s.freeCtr

/-- Every part but those named. -/
def allBut (l : List Part) : List Part := [.regs, .dev, .pat, .svc, .tasks, .eng, .led, .flm, .fx, .wsw, .drv, .pwr, .nvm, .cht, .grps, .tly, .tc, .hp, .slot, .fw, .mi, .mem, .poison, .out, .freeCtr].filter (fun c => !l.contains c)

/-- The parts of the state that a command may change: what the rules of its row reach, through every unit that its effect goes on to. A row that lists no memory changes no byte of it. -/
def mayChange (i : Instr) : List Part :=
  match i with
  | .registerWrite _ _ _ _ => allBut []
  | .rcCounterRead _ _ _ => [.regs, .dev, .eng, .led, .hp, .out, .freeCtr]
  | .accessTimeout _ _ _ => [.regs, .dev, .eng, .led, .out]
  | .clockLockLoss _ => [.regs, .dev, .eng, .led, .wsw, .drv, .pwr, .cht, .tly, .tc, .fw, .out]
  | .storeCommitDone _ => [.regs, .dev, .pat, .tasks, .eng, .led, .flm, .wsw, .tly, .fw, .mi, .out]
  | .storeCommitCoalesced => [.regs, .dev, .pat, .tasks, .eng, .led, .fw, .mi, .out]
  | .liveRecordsEffect => allBut [.svc, .led, .pwr, .tly, .hp, .slot, .fw]
  | .sendPacketRx _ _ => allBut [.pat, .svc, .tasks, .nvm, .cht, .grps, .tly, .hp, .slot, .fw]
  | .writePacketRx _ _ => allBut [.pat, .svc, .tasks, .nvm, .cht, .grps, .tly, .hp, .slot, .fw]
  | .readRx _ _ => [.regs, .dev, .eng, .led, .flm, .fx, .wsw, .tc, .out, .freeCtr]
  | .readRespRx _ _ => allBut [.pat, .svc, .tasks, .pwr, .hp, .slot]
  | .ackRx _ => allBut [.pat, .svc, .tasks, .pwr, .hp, .slot]
  | .nackRx _ => allBut [.pat, .svc, .tasks, .pwr, .hp, .slot]
  | .busyRx _ => [.regs, .dev, .eng, .led, .flm, .fx, .wsw, .tc, .out, .freeCtr]
  | .probeRx _ => [.regs, .dev, .eng, .led, .flm, .fx, .wsw, .tc, .out, .freeCtr]
  | .slotExpiry _ _ => [.regs, .dev, .eng, .led, .flm, .fx, .wsw, .tc, .out, .freeCtr]
  | .tableEntryExpiry _ _ => [.dev, .flm]
  | .ackDelayExpiry _ _ => [.regs, .dev, .eng, .flm, .fx, .wsw, .tc, .out, .freeCtr]
  | .retransmitTimerExpiry _ _ => allBut [.pat, .svc, .tasks, .pwr, .hp, .slot]
  | .busyHoldExpiry _ => allBut [.pat, .svc, .tasks, .pwr, .hp, .slot]
  | .messageDeadline _ => allBut [.pat, .svc, .tasks, .pwr, .hp, .slot]
  | .probeInterval _ _ => [.regs, .dev, .eng, .flm, .fx, .wsw, .tc, .out, .freeCtr]
  | .probeUnanswered _ => [.regs, .dev, .eng, .flm, .fx, .out]
  | .flmWinCommit _ _ _ _ _ => [.regs, .dev, .eng, .led, .flm, .wsw, .out]
  | .windowCommitApply => [.regs, .dev, .eng, .flm, .out]
  | .readFilterExpiry _ _ => [.dev, .flm]
  | .wqOpen _ _ _ => [.regs, .dev, .eng, .led, .flm, .wsw, .out]
  | .wqClose _ _ => [.regs, .dev, .eng, .led, .flm, .wsw, .out]
  | .wqReset _ _ => [.regs, .dev, .eng, .led, .flm, .wsw, .out]
  | .wqDoorbell _ _ _ _ => [.regs, .dev, .eng, .led, .flm, .wsw, .out]
  | .rqDoorbell _ _ _ _ _ => [.regs, .dev, .eng, .led, .flm, .wsw, .out]
  | .descSend _ _ _ _ _ => [.regs, .dev, .eng, .flm, .fx, .wsw, .tc, .out, .freeCtr]
  | .descWrite _ _ _ _ _ => [.regs, .dev, .eng, .flm, .fx, .wsw, .tc, .out, .freeCtr]
  | .descRead _ _ _ _ => [.regs, .dev, .eng, .flm, .fx, .wsw, .tc, .out, .freeCtr]
  | .descWait _ _ _ => [.regs, .dev, .eng, .flm, .fx, .wsw, .tc, .out, .freeCtr]
  | .descNop _ _ _ => [.regs, .dev, .eng, .flm, .fx, .wsw, .tc, .out, .freeCtr]
  | .waitSatisfied _ _ => [.regs, .dev, .eng, .flm, .fx, .out]
  | .fenceLimitRelease _ _ _ => [.regs, .dev, .eng, .flm, .fx, .wsw, .tc, .out, .freeCtr]
  | .readTagFree _ _ => [.regs, .dev, .eng, .flm, .fx, .wsw, .tc, .out, .freeCtr]
  | .flowCacheAdmit _ => [.regs, .dev, .eng, .flm, .fx, .wsw, .tc, .out, .freeCtr]
  | .wqFaultResolved _ _ => [.regs, .dev, .eng, .flm, .fx, .wsw, .tc, .out, .freeCtr]
  | .chainCounterWrite _ _ _ _ => [.regs, .dev, .eng, .led, .fx, .wsw, .out]
  | .addressTableWrite _ _ _ => [.regs, .dev, .eng, .led, .fx, .wsw, .out]
  | .epochTransition => [.regs, .dev, .eng, .flm, .fx, .wsw, .tc, .out, .freeCtr]
  | .connect _ _ => [.regs, .dev, .eng, .flm, .fx, .wsw, .drv, .pwr, .nvm, .tc, .out, .freeCtr]
  | .propertyGet _ _ => [.regs, .dev, .eng, .flm, .fx, .wsw, .drv, .pwr, .nvm, .cht, .tc, .out, .freeCtr]
  | .propertySet _ _ => [.regs, .dev, .eng, .flm, .fx, .wsw, .drv, .pwr, .nvm, .cht, .tc, .out, .freeCtr]
  | .disconnect _ _ => [.regs, .dev, .eng, .flm, .fx, .wsw, .drv, .pwr, .nvm, .cht, .tc, .out, .freeCtr]
  | .authSend _ _ _ => [.regs, .dev, .eng, .flm, .fx, .wsw, .drv, .pwr, .nvm, .cht, .tc, .out, .freeCtr]
  | .authReceive _ _ _ => [.regs, .dev, .eng, .flm, .fx, .wsw, .drv, .pwr, .nvm, .cht, .tc, .out, .freeCtr]
  | .identify _ _ => [.regs, .dev, .eng, .flm, .fx, .wsw, .drv, .pwr, .nvm, .cht, .tc, .out, .freeCtr]
  | .getLogPage _ _ => [.regs, .dev, .eng, .flm, .fx, .wsw, .drv, .pwr, .nvm, .cht, .tc, .out, .freeCtr]
  | .abort _ _ => [.regs, .dev, .eng, .flm, .fx, .wsw, .drv, .pwr, .nvm, .cht, .tc, .out, .freeCtr]
  | .setFeatures _ _ => [.regs, .dev, .eng, .flm, .fx, .wsw, .drv, .pwr, .nvm, .cht, .tc, .out, .freeCtr]
  | .getFeatures _ _ => [.regs, .dev, .eng, .flm, .fx, .wsw, .drv, .pwr, .nvm, .cht, .tc, .out, .freeCtr]
  | .asyncEventRequest _ _ => [.regs, .dev, .eng, .flm, .fx, .wsw, .drv, .pwr, .nvm, .cht, .tc, .out, .freeCtr]
  | .keepAlive _ _ => [.regs, .dev, .eng, .flm, .fx, .wsw, .drv, .pwr, .nvm, .cht, .tc, .out, .freeCtr]
  | .firmwareImageDownload _ _ => allBut [.pat, .svc, .tasks, .led, .hp, .slot]
  | .fwCommitVerify _ _ _ => allBut [.pat, .svc, .tasks, .led, .grps, .tly, .hp, .slot, .mi, .mem, .poison]
  | .fwCommitNextReset _ _ _ => allBut [.pat, .svc, .tasks, .led, .grps, .tly, .hp, .slot, .mi, .mem, .poison]
  | .fwCommitSlot _ _ => allBut [.pat, .svc, .tasks, .led, .grps, .tly, .hp, .slot, .mi, .mem, .poison]
  | .fwCommitNow _ _ _ _ => allBut []
  | .flush _ _ => [.regs, .dev, .eng, .flm, .fx, .wsw, .drv, .pwr, .nvm, .cht, .tc, .out, .freeCtr]
  | .nvmeRead _ _ => allBut [.pat, .svc, .tasks, .grps, .tly, .hp, .slot, .fw]
  | .verify _ _ => allBut [.pat, .svc, .tasks, .grps, .tly, .hp, .slot, .fw]
  | .compare _ _ => allBut [.pat, .svc, .tasks, .hp, .slot]
  | .nvmeWrite _ _ => allBut [.pat, .svc, .tasks, .hp, .slot]
  | .writeZeroes _ _ => allBut [.pat, .svc, .tasks, .hp, .slot, .fw]
  | .datasetManagement _ _ => allBut [.pat, .svc, .tasks, .hp, .slot]
  | .reservationRegister _ _ => allBut [.pat, .svc, .tasks, .led, .hp, .slot]
  | .reservationReport _ _ => [.regs, .dev, .eng, .flm, .fx, .wsw, .drv, .pwr, .nvm, .cht, .tc, .out, .freeCtr]
  | .reservationAcquire _ _ => allBut [.pat, .svc, .tasks, .led, .hp, .slot]
  | .reservationRelease _ _ => allBut [.pat, .svc, .tasks, .led, .hp, .slot]
  | .runtCapsule _ => [.regs, .dev, .eng, .flm, .out]
  | .katoExpiry _ => [.regs, .dev, .eng, .flm, .drv, .nvm, .cht, .tc, .out]
  | .heldWriteResume _ => [.dev, .nvm, .cht]
  | .writeHeldAlert _ => [.regs, .dev, .eng, .nvm, .out]
  | .writeHeldTimeout _ => [.regs, .dev, .eng, .flm, .fx, .wsw, .drv, .nvm, .cht, .tc, .out, .freeCtr]
  | .cmdLimitExpiry _ => [.regs, .dev, .eng, .flm, .fx, .wsw, .drv, .nvm, .cht, .tc, .out, .freeCtr]
  | .tcpSyn _ => [.regs, .dev, .eng, .wsw, .nvm, .tc, .out, .freeCtr]
  | .tcpPduRx _ _ _ _ => allBut [.pat, .svc, .tasks, .led, .hp, .slot]
  | .chuteAdmit _ _ _ => allBut []
  | .mapInval _ _ _ _ => [.regs, .dev, .eng, .led, .wsw, .cht, .out]
  | .mapInvalDone => [.regs, .dev, .eng, .out]
  | .apertureWrite _ _ _ => [.regs, .dev, .eng, .led, .mi, .mem, .poison, .out]
  | .apertureRead _ _ _ => [.regs, .dev, .eng, .led, .out]
  | .tagHoldExpiry _ => [.cht]
  | .writeCommitPoint _ => allBut [.pat, .svc, .tasks, .led, .pwr, .hp, .slot, .fw]
  | .destageStart _ _ _ => allBut [.pat, .svc, .tasks, .led, .flm, .fx, .pwr, .hp, .slot, .fw]
  | .yardBufferGrant _ => [.regs, .dev, .eng, .drv, .cht, .tc, .mi, .mem, .poison, .out, .freeCtr]
  | .brandUpdateDone _ => allBut [.pat, .svc, .tasks, .led, .flm, .fx, .pwr, .nvm, .hp, .slot, .fw]
  | .mapCommitDone _ _ => allBut [.pat, .svc, .tasks, .led, .pwr, .hp, .slot]
  | .tallyEntryFree _ _ _ => allBut [.pat, .svc, .tasks, .led, .pwr, .hp, .slot, .fw]
  | .dumpWriteWaitExpiry => allBut [.pat, .svc, .tasks, .flm, .fx, .pwr, .nvm, .grps, .hp, .slot, .fw]
  | .dumpComplete => allBut [.pat, .svc, .tasks, .flm, .fx, .pwr, .nvm, .grps, .hp, .slot, .fw]
  | .pwrfailAssert _ => allBut [.svc, .flm, .fx, .nvm, .grps, .hp, .slot, .fw]
  | .pwrfailDeassert => allBut [.svc, .tasks, .flm, .fx, .nvm, .grps, .hp, .slot, .fw]
  | .recovery _ _ _ => allBut [.pat, .svc, .tasks, .led, .fx, .hp, .slot, .fw]
  | .dumpRetireRecovered => [.regs, .dev, .eng, .wsw, .drv, .cht, .tly, .tc, .mi, .mem, .poison, .out, .freeCtr]
  | .sweepStripe _ _ _ => allBut [.pat, .svc, .tasks, .led, .pwr, .hp, .slot, .fw]
  | .skidderStripe _ _ _ => allBut [.pat, .svc, .tasks, .led, .flm, .fx, .pwr, .hp, .slot, .fw]
  | .patrolStripe _ _ => allBut [.pat, .svc, .tasks, .led, .flm, .fx, .pwr, .hp, .slot, .fw]
  | .patrolLate _ => [.regs, .dev, .eng, .grps, .out]
  | .skdPause _ _ => [.regs, .dev, .eng, .led, .wsw, .tly, .out]
  | .migGranuleSend _ _ => [.regs, .dev, .eng, .flm, .fx, .wsw, .tly, .tc, .out, .freeCtr]
  | .migGranuleRx _ _ _ _ _ => allBut [.pat, .svc, .tasks, .led, .pwr, .hp, .slot, .fw]
  | .migDone _ => [.regs, .dev, .eng, .tly, .out]
  | .roleSelect _ => [.regs, .dev, .eng, .wsw, .out]
  | .faultNotice _ => allBut [.pat, .svc, .tasks, .led, .pwr, .grps, .tly, .hp, .slot, .fw]
  | .pairActiveInLoss _ => allBut [.pat, .svc, .tasks, .led, .pwr, .grps, .tly, .hp, .slot, .fw]
  | .tickIssue => [.regs, .dev, .eng, .wsw, .out]
  | .consumeHostFrame _ => allBut [.pat, .svc, .tasks, .led, .pwr, .grps, .tly, .slot, .fw]
  | .consumeDriveCqe _ _ => allBut [.pat, .svc, .tasks, .pwr, .hp, .slot, .fw]
  | .consumeDriveEvent _ => allBut [.pat, .svc, .pwr, .hp, .slot, .fw]
  | .consumeTick _ => allBut [.pat, .svc, .hp, .slot, .fw]
  | .consumeMgmt _ => allBut []
  | .consumeSlot _ => allBut [.pat, .svc, .tasks, .pwr, .hp, .fw]
  | .consumeRetx _ => allBut [.pat, .svc, .tasks, .pwr, .hp, .slot]
  | .consumeCut _ => allBut [.svc, .tasks, .led, .grps, .hp, .slot]
  | .forwardRx _ => [.regs, .dev, .eng, .wsw, .tc, .out]
  | .linkIdleSend => [.regs, .dev, .eng, .wsw, .out]
  | .helloRx _ _ _ => [.regs, .dev, .eng, .wsw, .pwr, .fw, .out]
  | .heartbeatSend => [.regs, .dev, .eng, .wsw, .out]
  | .heartbeatRx _ => [.regs, .dev, .eng, .wsw, .tc, .out]
  | .inputRx _ => [.regs, .dev, .eng, .wsw, .tc, .out]
  | .stagedRx _ => [.regs, .dev, .eng, .flm, .fx, .wsw, .drv, .nvm, .cht, .tc, .out, .freeCtr]
  | .digestRx _ => allBut [.pat, .svc, .tasks, .led, .pwr, .grps, .tly, .hp, .slot, .fw]
  | .snapshotRx _ => allBut [.svc, .tasks, .led, .hp, .mi, .mem, .poison, .freeCtr]
  | .resyncFrameRx _ => [.regs, .dev, .eng, .wsw, .nvm, .tc, .out]
  | .linkNakRx _ => [.regs, .dev, .eng, .wsw, .tc, .out]
  | .linkFailure _ => [.regs, .dev, .eng, .wsw, .out]
  | .heartbeatTimeout _ => allBut [.pat, .svc, .tasks, .led, .pwr, .grps, .tly, .hp, .slot, .fw]
  | .resyncPassDone _ => [.regs, .dev, .eng, .wsw, .out]
  | .resyncCut => [.regs, .dev, .eng, .wsw, .out]
  | .joinerInStep => allBut [.svc, .tasks, .flm, .fx, .pwr, .nvm, .grps, .tly, .hp, .slot, .fw]
  | .wswHandover _ => [.regs, .dev, .eng, .led, .wsw, .out]
  | .wswDetach _ => [.regs, .dev, .eng, .led, .wsw, .out]
  | .wswResync _ => [.regs, .dev, .eng, .led, .wsw, .out]
  | .hostFrameRx _ _ _ _ => [.regs, .dev, .eng, .wsw, .cht, .tc, .hp, .out, .freeCtr]
  | .hostLinkUp _ => [.regs, .dev, .eng, .fx, .out]
  | .hostLinkDown _ => [.regs, .dev, .eng, .fx, .tc, .hp, .out]
  | .pauseFrameRx _ _ _ _ _ => [.regs, .tc, .hp]
  | .pauseExpiry _ _ => [.tc, .hp]
  | .pauseWatchdogTrip _ _ => [.regs, .dev, .eng, .led, .tc, .hp, .out]
  | .pauseWatchdogClear _ _ => [.hp]
  | .pfcRepeat _ _ => [.regs, .dev, .eng, .hp, .out]
  | .ptpAdjOfsWrite _ _ _ => [.regs, .dev, .eng, .led, .hp, .out]
  | .ptpAdjRateWrite _ _ => [.regs, .dev, .eng, .led, .hp, .out]
  | .ptpAdjApply => [.regs, .dev, .eng, .tc, .hp, .out]
  | .ptpTxIdRead _ _ => [.regs, .dev, .eng, .led, .hp, .out]
  | .ppsOutEdge => [.hp, .out]
  | .ppsInEdge => [.regs, .dev, .eng, .out]
  | .egressService _ _ => [.regs, .dev, .eng, .drv, .tc, .hp, .out]
  | .batchCommit _ => [.regs, .dev, .eng, .drv, .tc, .out, .freeCtr]
  | .gateEntryChange _ => [.tc]
  | .gateListStart _ => [.regs, .dev, .eng, .tc, .out]
  | .drivePerstRelease _ => [.regs, .dev, .eng, .drv, .out]
  | .driveLinkTrained _ _ _ _ => allBut [.pat, .svc, .tasks, .pwr, .hp, .slot, .fw]
  | .driveConfigDone _ => [.drv]
  | .driveControllerReady _ _ => allBut [.pat, .svc, .tasks, .pwr, .hp, .slot, .fw]
  | .driveChecksDone _ _ _ => allBut [.pat, .svc, .tasks, .pwr, .hp, .slot, .fw]
  | .driveBrandRead _ _ => allBut [.pat, .svc, .tasks, .pwr, .hp, .slot, .fw]
  | .driveReady _ _ => allBut [.pat, .svc, .tasks, .pwr, .hp, .slot, .fw]
  | .driveBringupTimeout _ _ => allBut [.pat, .svc, .tasks, .pwr, .hp, .slot, .fw]
  | .surpriseDown _ _ => allBut [.pat, .svc, .tasks, .pwr, .hp, .slot, .fw]
  | .drivePortError _ _ _ => allBut [.pat, .svc, .tasks, .pwr, .hp, .slot, .fw]
  | .containmentAutoRelease _ => [.regs, .dev, .eng, .drv, .out]
  | .dpRelease _ _ => allBut [.pat, .svc, .tasks, .pwr, .hp, .slot, .fw]
  | .dpReset _ _ => allBut [.pat, .svc, .tasks, .pwr, .hp, .slot, .fw]
  | .inboundRequest _ _ _ _ => [.regs, .dev, .eng, .led, .cht, .out]
  | .cplTimeout _ _ => [.regs, .out]
  | .unexpectedCompletion _ _ => [.regs]
  | .driveCqeRx _ _ => allBut [.pat, .svc, .tasks, .pwr, .hp, .slot, .fw]
  | .cqDoorbellTimer _ _ => [.drv, .out]
  | .driveCmdTimeout _ => allBut [.pat, .svc, .tasks, .pwr, .hp, .slot, .fw]
  | .adminCmdTimeout _ => allBut [.pat, .svc, .tasks, .pwr, .hp, .slot, .fw]
  | .memberUnreachableTimeout _ _ => allBut [.pat, .svc, .tasks, .led, .flm, .fx, .pwr, .nvm, .hp, .slot, .fw]
  | .sidebandPoll _ _ => allBut [.pat, .svc, .tasks, .pwr, .hp, .slot, .fw]
  | .smartPoll _ _ => allBut [.pat, .svc, .tasks, .pwr, .hp, .slot, .fw]
  | .presenceConfirmed _ _ _ _ => allBut [.pat, .svc, .tasks, .pwr, .hp, .fw]
  | .supplyWindowChange _ _ _ _ => allBut [.pat, .svc, .tasks, .pwr, .hp, .fw]
  | .insertDelayExpiry _ _ _ => allBut [.pat, .svc, .tasks, .pwr, .hp, .fw]
  | .rampComplete _ _ _ => allBut [.pat, .svc, .tasks, .pwr, .hp, .fw]
  | .limitEngage _ _ _ => allBut [.pat, .svc, .tasks, .pwr, .hp, .fw]
  | .limitDisengage _ _ _ => allBut [.pat, .svc, .tasks, .pwr, .hp, .fw]
  | .faultTimerTrip _ _ _ => allBut [.pat, .svc, .tasks, .pwr, .hp, .fw]
  | .fastTrip _ _ _ => allBut [.pat, .svc, .tasks, .pwr, .hp, .fw]
  | .powerGoodQualified _ _ _ => allBut [.pat, .svc, .tasks, .pwr, .hp, .fw]
  | .slotEnableWrite _ _ _ => allBut [.pat, .svc, .tasks, .pwr, .hp, .fw]
  | .svcLinkChange _ _ => [.regs, .dev, .eng, .out]
  | .svcFreeze _ => [.regs, .dev, .svc, .tasks, .eng, .led, .out]
  | .freezeRelease _ => [.regs, .dev, .svc, .out]
  | .functionLevelReset => [.regs, .dev, .pat, .svc, .tasks, .eng, .wsw, .fw, .out]
  | .bar2Write _ => [.regs, .dev, .eng, .led, .out]
  | .msixUnmask _ => [.dev, .svc, .out]
  | .pmStateWrite _ => [.regs, .dev, .out]
  | .nop _ => allBut []
  | .identity _ => allBut []
  | .patBlock _ _ => allBut []
  | .patCommit _ _ _ => allBut []
  | .patAbort _ => allBut []
  | .overlaySet _ => allBut []
  | .ownerCommission _ _ _ => allBut []
  | .ownerRotate _ _ _ _ _ => allBut []
  | .keyInstall _ _ _ _ => allBut []
  | .keySwitch _ _ _ => allBut []
  | .keyRetire _ _ _ => allBut []
  | .admitSet _ _ _ => allBut []
  | .fwBlock _ _ => allBut []
  | .fwImageVerify _ => [.regs, .dev, .tasks, .eng, .fw, .out]
  | .fwAbort _ => allBut []
  | .fwActivate _ _ => allBut []
  | .fwConfirm _ => allBut []
  | .fwReject _ => allBut []
  | .driveAccept _ => allBut []
  | .memberFail _ => allBut []
  | .driveFw _ _ => allBut []
  | .migStart _ _ => allBut []
  | .migCutover _ => allBut []
  | .migCancel _ => allBut []
  | .addrSet _ _ => allBut []
  | .powerEnter _ => allBut []
  | .warmReset _ => allBut []
  | .ledgerRead _ => allBut []
  | .taskDataReadDone _ => allBut []
  | .taskEnd _ => [.regs, .dev, .tasks, .eng, .out]
  | .deferredTaskRun => allBut []
  | .kvqPop _ _ _ => [.regs, .dev, .eng, .out]
  | .kvqPush _ _ _ _ => [.regs, .dev, .eng, .out]
  | .kvqWait _ _ _ => [.regs, .dev, .eng, .out]
  | .kvqWaitWake _ => [.regs, .eng, .out]
  | .kvqRing _ _ _ _ _ _ => [.regs, .dev, .eng, .flm, .wsw, .out]
  | .engineAccessFault _ _ _ _ _ _ => [.regs, .dev, .eng, .out]
  | .dmaStart _ _ _ _ _ _ => [.regs, .dev, .eng, .led, .mi, .mem, .poison, .out, .freeCtr]
  | .dmaResume _ _ _ _ => [.regs, .dev, .eng, .led, .mi, .mem, .poison, .out, .freeCtr]
  | .dmaAbort _ _ _ => [.regs, .dev, .eng, .led, .out, .freeCtr]
  | .dmaComplete _ _ _ => [.regs, .dev, .eng, .mi, .mem, .poison, .out, .freeCtr]
  | .taskPreempt _ _ _ => [.regs, .dev, .eng, .out, .freeCtr]
  | .xltInval _ _ _ _ => [.regs, .dev, .eng, .led, .out]
  | .xltInvalDone => [.regs, .dev, .eng, .out]
  | .evtRaiseWrite _ _ => [.regs, .dev, .eng, .led, .out]
  | .cruiserRead _ _ _ => allBut [.pat, .svc, .tasks, .grps, .hp, .slot]
  | .repairGranuleRx _ _ _ => allBut [.pat, .svc, .tasks, .flm, .fx, .nvm, .grps, .hp, .slot, .freeCtr]
  | .repairRequestRx _ _ => [.mi, .out]
  | .memRetire _ _ _ => [.regs, .dev, .eng, .led, .mi, .out]
  | .retireComplete => [.regs, .dev, .pat, .eng, .led, .mi, .out]
  | .memInject _ _ _ _ => [.regs, .dev, .eng, .led, .mi, .out]
  | .memLogRelease _ _ => [.regs, .dev, .eng, .led, .mi, .out]
  | .lsmStart _ _ _ => [.regs, .dev, .pat, .eng, .led, .mi, .out]
  | .lsmNonceResume => [.regs, .dev, .pat, .eng, .led, .mi, .out]
  | .lsmJobDone _ => [.regs, .dev, .eng, .mi, .mem, .poison, .out]
  | .scalerCounterWrite _ _ => [.regs, .dev, .eng, .led, .out]
  | .scalerSelectWrite _ _ _ => [.regs, .dev, .eng, .led, .out]
  | .scalerStartAtReached => [.dev]
  | .scalerStopAtReached => [.dev]
  | .sampleTaken _ _ => [.regs, .dev, .eng, .mi, .mem, .poison, .out, .freeCtr]
  | .smpRingReset _ _ _ => [.regs, .dev, .eng, .led, .out]
  | .ldgFreezeWrite _ _ => [.regs, .dev, .eng, .led, .out]
  | .ldgThaw _ _ => [.regs, .dev, .eng, .led, .out]
  | .powerOnReset => allBut [.freeCtr]
  | .sysReset => allBut [.freeCtr]
  | .warmRstPin => [.regs, .dev, .pat, .eng, .wsw, .pwr, .tly, .out]
  | .pwrCtlWarm _ => [.regs, .dev, .pat, .eng, .led, .wsw, .pwr, .tly, .out]
  | .warmResetEffect _ => allBut [.freeCtr]
  | .sysRstNRelease _ _ _ => allBut [.svc, .tasks, .fx, .nvm, .grps, .hp, .slot, .mem, .poison, .freeCtr]
  | .patternLoad _ => [.regs, .dev, .pat, .eng, .led, .pwr, .tc, .out]
  | .firmwareSelect _ _ => [.regs, .dev, .pat, .eng, .led, .pwr, .fw, .out]
  | .bootReady => allBut [.pat, .svc, .tasks, .hp]
  | .fatalReset _ => allBut [.freeCtr]
  | .holdupChange _ => [.regs, .dev, .eng, .flm, .fx, .wsw, .drv, .pwr, .nvm, .cht, .tc, .out, .freeCtr]
  | .watchdogExpiry => [.regs, .dev, .eng, .led, .wsw, .drv, .pwr, .cht, .tly, .tc, .fw, .out]
  | .wdogKick _ => [.regs, .dev, .eng, .led, .pwr, .out]
  | .pwrCtlEnter _ _ => allBut [.pat, .svc, .tasks, .flm, .fx, .nvm, .hp, .slot, .fw]
  | .idlePowerEntry => allBut [.pat, .svc, .tasks, .flm, .fx, .nvm, .hp, .slot, .fw]
  | .drowseEntryDone => [.regs, .dev, .eng, .drv, .pwr, .out, .freeCtr]
  | .fallowPonr => allBut [.pat, .svc, .tasks, .hp, .fw]
  | .fallowEntryDone => [.regs, .dev, .eng, .fx, .wsw, .drv, .pwr, .cht, .tc, .hp, .out, .freeCtr]
  | .wakeGpioEdge _ => [.regs, .dev, .eng, .wsw, .drv, .pwr, .out]
  | .pwrCtlWake _ => [.regs, .dev, .eng, .led, .wsw, .drv, .pwr, .out]
  | .wakeDone => allBut [.pat, .svc, .tasks, .hp, .fw]
  | .linkIdleRx _ => [.regs, .dev, .eng, .wsw, .tc, .out]
  | .clusterSwitch => [.regs, .dev, .eng, .flm, .fx, .wsw, .nvm, .tc, .fw, .out, .freeCtr]
  | .trialEvaluation => [.regs, .dev, .pat, .eng, .led, .wsw, .fw, .out]
  | .trialExpiry => [.regs, .dev, .pat, .eng, .led, .wsw, .pwr, .tly, .fw, .out]
  | .thermalTrip _ => [.regs, .out]

end Sys2Proof.Machine
end

