-- ==== Sys2Proof/WellFormed.lean ====
section
/-!
DEFINITION. WellFormed.lean: the ranges that the spec gives the operands of the commands. A command within them can
arrive at the block; the machine itself gives every command its meaning, within them or not.
-/
namespace Sys2Proof

open Machine

namespace Instr

/-- In range: a BAR0 access comes from the service port or from one of 32 engines (R31). -/
def srcOk (x : Src) : Bool := match x with | .svc => true | .engine n => decide (n < 32)

/-- In range: engines E00 to E31. -/
def engineOk (x : Nat) : Bool := decide (x < 32)

/-- In range: clusters C0 to C3. -/
def clusterOk (x : Nat) : Bool := decide (x < 4)

/-- In range: channels 0 and 1 of an engine (R473). -/
def chanOk (x : Nat) : Bool := decide (x < 2)

/-- In range: islands 0 to 37 (R20). -/
def islandOk (x : Nat) : Bool := decide (x < 38)

/-- In range: drive ports 0 to 47. -/
def portOk (x : Nat) : Bool := decide (x < 48)

/-- In range: slots 0 to 47. -/
def slotOk (x : Nat) : Bool := decide (x < 48)

/-- In range: host ports 0 to 3. -/
def hostPortOk (x : Nat) : Bool := decide (x < 4)

/-- In range: logical ports 0 to 31. -/
def lportOk (x : Nat) : Bool := decide (x < 32)

/-- In range: traffic classes 0 to 7 (R374). -/
def clsOk (x : Nat) : Bool := decide (x < 8)

/-- In range: points of control: 32 logical ports and 48 drive ports. -/
def pointOk (x : Nat) : Bool := decide (x < 80)

/-- In range: queues 0 to 2 of a drive port (R401). -/
def ioQueueOk (x : Nat) : Bool := decide (x < 3)

/-- In range: work queues and chain counters 0 to 65,535. -/
def wqOk (x : Nat) : Bool := decide (x < 65536)

/-- In range: window table entries 0 to 1,048,575 (R120). -/
def winIndexOk (x : Nat) : Bool := decide (x < 1048576)

/-- In range: address table entries 0 to 511 (R361). -/
def addrEntryOk (x : Nat) : Bool := decide (x < 512)

/-- In range: layout groups 0 to 11. -/
def groupOk (x : Nat) : Bool := decide (x < 12)

/-- In range: members of a group: one a drive at most. -/
def memberOk (x : Nat) : Bool := decide (x < 48)

/-- In range: migration slots 0 to 15. -/
def migSlotOk (x : Nat) : Bool := decide (x < 16)

/-- In range: the MAP field of CHT_MAP_INVAL, 12 bits. -/
def mapOk (x : Nat) : Bool := decide (x < 4096)

/-- In range: drive tags, 19 bits (R212). -/
def drvTagOk (x : Nat) : Bool := decide (x < 524288)

/-- In range: Scaler counters 0 to 1,023. -/
def counterOk (x : Nat) : Bool := decide (x < 1024)

/-- In range: the EVENT field of EVT_RAISE, 11 bits. -/
def eventOk (x : Nat) : Bool := decide (x < 2048)

/-- In range: task priorities, 4 bits (ENG_STATUS). -/
def priorityOk (x : Nat) : Bool := decide (x < 16)

/-- In range: the SCOPE field of XLT_INVAL, 2 bits. -/
def scopeOk (x : Nat) : Bool := decide (x < 4)

/-- In range: the KIND field of MEM_RETIRE and MEM_INJECT, 2 bits. -/
def kind2Ok (x : Nat) : Bool := decide (x < 4)

/-- In range: the ENTER field of PWR_CTL, 2 bits. -/
def enterOk (x : Nat) : Bool := decide (x < 4)

/-- In range: the N field of MEM_LOG_RELEASE, 13 bits. -/
def logCountOk (x : Nat) : Bool := decide (x < 8192)

/-- In range: general-purpose inputs 0 to 63. -/
def gpioOk (x : Nat) : Bool := decide (x < 64)

/-- In range: a bit of a 32-bit AER status. -/
def aerNumOk (x : Nat) : Bool := decide (x < 32)

/-- In range: a 4 KiB granule of the physical map (R486). -/
def granuleOk (x : Nat) : Bool := decide (x < 2 ^ 52)

/-- In range: a BAR0 access of 4 or 8 bytes (R10). -/
def sizeOk (x : Nat) : Bool := x == 4 || x == 8

/-- In range: an offset in BAR0, 64 MiB (R445). -/
def barOffOk (x : Nat) : Bool := decide (x < 67108864)

/-- In range: the 36-bit ADDR field of DMA_DESC and LSM_DESC. -/
def phys36Ok (x : Nat) : Bool := decide (x < 2 ^ 36)

/-- In range: an 8-byte word of memory (MEM_INJECT). -/
def injectAddrOk (x : Nat) : Bool := decide (x < 2 ^ 40) && x % 8 == 0

/-- In range: a Flume message ID, 48 bits (R91). -/
def msgIdOk (x : Nat) : Bool := decide (x < 2 ^ 48)

/-- In range: NVMe/TCP connections, 4,096 at most (R165). -/
def tcpNumOk (x : Nat) : Bool := decide (x < 4096)

/-- In range: a field of 8 bits. -/
def word8Ok (x : Nat) : Bool := decide (x < 256)

/-- In range: a field of 16 bits. -/
def word16Ok (x : Nat) : Bool := decide (x < 65536)

/-- In range: a field of 32 bits. -/
def word32Ok (x : Nat) : Bool := decide (x < 4294967296)

/-- In range: a field of 64 bits. -/
def word64Ok (x : Nat) : Bool := decide (x < 18446744073709551616)

/-- In range: a SHA-384 digest. -/
def digestOk (x : Nat) : Bool := decide (x < 2 ^ 192 * 2 ^ 192)

/-- In range: an address of its family. -/
def ipOk (x : IpAddr) : Bool := decide (x.addr < if x.v6 then 2 ^ 128 else 2 ^ 32)

/-- In range: an address table entry (R361). -/
def optIpOk (x : Option IpAddr) : Bool := match x with | some a => ipOk a | none => true

/-- In range: a datagram's header fields (R79, R81). -/
def datagramOk (x : Datagram) : Bool := lportOk x.lport && ipOk x.srcIp && ipOk x.dstIp && word16Ok x.srcPort && word8Ok x.ttl && decide (x.dscp < 64)

/-- In range: translated spans: a physical address and a length above 0. -/
def spansOk (x : List (Nat × Nat)) : Bool := x.all (fun (p : Nat × Nat) => word64Ok p.1 && decide (0 < p.2))

/-- In range: the spans that a buffer's translation gave, or none where it faulted (R136). -/
def placeOk (x : Option (List (Nat × Nat))) : Bool := match x with | some l => spansOk l | none => true

/-- In range: the fields of a submission queue entry (R160). -/
def capsuleOk (x : Capsule) : Bool := word8Ok x.opcode && word8Ok x.flags && word16Ok x.cid && word32Ok x.nsid && word32Ok x.cdw10 && word32Ok x.cdw11 && word32Ok x.cdw12 && word32Ok x.cdw13 && word32Ok x.cdw14 && word32Ok x.cdw15

/-- In range: the fields of a send descriptor (R131). -/
def sendDescOk (x : SendDesc) : Bool := word8Ok x.op && word16Ok x.remoteWq && word32Ok x.dstPeer && word64Ok x.localAddr && word32Ok x.len

/-- In range: the descriptors that stand behind. -/
def restOk (x : List SendDesc) : Bool := x.all sendDescOk

/-- In range: the fields of a work queue context (R130). -/
def wqCtxOk (x : WqCtx) : Bool := word64Ok x.sqBase && word64Ok x.rqBase && word64Ok x.cqBase && word8Ok x.sqLog2 && word8Ok x.rqLog2 && word8Ok x.cqLog2 && word16Ok x.asid

/-- In range: the fields of a window half (R120). -/
def winHalfOk (x : WinHalf) : Bool := word64Ok x.base && decide (x.len < 2 ^ 41) && word32Ok x.scope && word16Ok x.asid && decide (x.rights < 8)

/-- In range: receive ring entries (R130). -/
def rxBufsOk (x : List RxBuf) : Bool := x.all (fun (b : RxBuf) => word16Ok b.index && word32Ok b.len)

/-- In range: an extent entry's 2-bit state (R203). -/
def extEntOk (x : ExtEnt) : Bool := decide (x.state < 4)

/-- In range: a command block: ten arguments of 32 bits (R451). -/
def taskGoOk (x : TaskGo) : Bool := word8Ok x.argc && word8Ok x.flags && word32Ok x.tag && word64Ok x.dataAddr && word32Ok x.dataLen && x.args.length == 10 && x.args.all word32Ok

/-- In range: at most 1 MiB of task data (R451). -/
def taskDataOk (x : TaskData) : Bool := match x with | .bytes b => decide (b.length ≤ 1048576) | .reading => true | .fault => true

/-- In range: a digest of the trailer's key (R453). -/
def sigCheckOk (x : SigCheck) : Bool := digestOk x.keyDigest

/-- In range: a key of 32 bytes (R454). -/
def keyOpenOk (x : KeyOpen) : Bool := match x.key with | some k => decide (k < 2 ^ 256) | none => true

/-- In range: LSEQ and ACK_LSEQ of a link frame (R326). -/
def linkFrameOk (x : LinkFrame) : Bool := word32Ok x.lseq && word32Ok x.ack

/-- In range: the four words of a logged TLP header (DP_AER_HDR). -/
def tlpHeaderOk (x : List Nat) : Bool := x.length == 4 && x.all word32Ok

/-- In range: a drive's completion entry. -/
def drvCqeOk (x : DrvCqe) : Bool := word16Ok x.cid && word16Ok x.sqid && decide (x.sct < 8) && word8Ok x.sc && word32Ok x.dw0

/-- In range: an uncorrectable error by its AER bit, or another containment cause (R408). -/
def aerBitOk (x : Option Nat) : Bool := match x with | some b => aerNumOk b | none => true

/-- In range: frames that engines hand to egress (R378). -/
def engFramesOk (x : List EngFrame) : Bool := x.all (fun (f : EngFrame) => clsOk f.cls)

/-- In range: a received frame. -/
def hostFrameOk (x : List Byte) : Bool := decide (x.length ≤ 65536)

/-- In range: a pause time for each class (R354). -/
def quantaOk (x : List Nat) : Bool := x.length == 8 && x.all word16Ok

/-- In range: a sample's fields (R512). -/
def sampleOk (x : Sample) : Bool := word64Ok x.pc && word64Ok x.daddr && word32Ok x.insn && decide (x.mode < 4)

/-- In range: a counter's selection (SCL_SEL). -/
def selectionOk (x : Selection) : Bool := word8Ok x.inst && decide (x.unit < 16) && word8Ok x.event

/-- In range: a new NVMe/TCP connection (R165). -/
def tcpConnOk (x : TcpConn) : Bool := tcpNumOk x.id && ipOk x.ip && word16Ok x.port && lportOk x.lport

/-- In range: what Identify gives of a drive (R404). -/
def factsOk (x : DriveFacts) : Bool := decide (x.nguid < 2 ^ 128) && word64Ok x.eui && word16Ok x.mqes

/-- In range: the payload of an aperture write, and a granule: 4 KiB at most. -/
def bytesOk (x : List Byte) : Bool := decide (x.length ≤ 4096)

/-- A command whose operands lie in the ranges that the spec gives them. -/
def wf (i : Instr) : Bool :=
  match i with
  | .registerWrite src off size value => srcOk src && barOffOk off && sizeOk size && word64Ok value
  | .rcCounterRead src off size => srcOk src && barOffOk off && sizeOk size
  | .accessTimeout src off _ => srcOk src && barOffOk off
  | .clockLockLoss island => islandOk island
  | .storeCommitDone _ => true
  | .storeCommitCoalesced => true
  | .liveRecordsEffect => true
  | .sendPacketRx dg place => datagramOk dg && placeOk place
  | .writePacketRx dg place => datagramOk dg && placeOk place
  | .readRx dg _ => datagramOk dg
  | .readRespRx dg place => datagramOk dg && placeOk place
  | .ackRx dg => datagramOk dg
  | .nackRx dg => datagramOk dg
  | .busyRx dg => datagramOk dg
  | .probeRx dg => datagramOk dg
  | .slotExpiry peer msgId => word32Ok peer && msgIdOk msgId
  | .tableEntryExpiry peer msgId => word32Ok peer && msgIdOk msgId
  | .ackDelayExpiry peer msgId => word32Ok peer && msgIdOk msgId
  | .retransmitTimerExpiry _ _ => true
  | .busyHoldExpiry _ => true
  | .messageDeadline _ => true
  | .probeInterval peer path => word32Ok peer && word8Ok path
  | .probeUnanswered _ => true
  | .flmWinCommit src index gen _ shadow => srcOk src && winIndexOk index && word8Ok gen && winHalfOk shadow
  | .windowCommitApply => true
  | .readFilterExpiry peer msgId => word32Ok peer && msgIdOk msgId
  | .wqOpen src wq ctx => srcOk src && wqOk wq && wqCtxOk ctx
  | .wqClose src wq => srcOk src && wqOk wq
  | .wqReset src wq => srcOk src && wqOk wq
  | .wqDoorbell src wq tail cqHead => srcOk src && wqOk wq && word16Ok tail && word16Ok cqHead
  | .rqDoorbell src wq tail cqHead bufs => srcOk src && wqOk wq && word16Ok tail && word16Ok cqHead && rxBufsOk bufs
  | .descSend wq d ip spans rest => wqOk wq && sendDescOk d && ipOk ip && spansOk spans && restOk rest
  | .descWrite wq d ip spans rest => wqOk wq && sendDescOk d && ipOk ip && spansOk spans && restOk rest
  | .descRead wq d ip rest => wqOk wq && sendDescOk d && ipOk ip && restOk rest
  | .descWait wq d rest => wqOk wq && sendDescOk d && restOk rest
  | .descNop wq d rest => wqOk wq && sendDescOk d && restOk rest
  | .waitSatisfied wq rest => wqOk wq && restOk rest
  | .fenceLimitRelease wq ip spans => wqOk wq && ipOk ip && spansOk spans
  | .readTagFree wq ip => wqOk wq && ipOk ip
  | .flowCacheAdmit peer => word32Ok peer
  | .wqFaultResolved wq spans => wqOk wq && spansOk spans
  | .chainCounterWrite src index value _ => srcOk src && wqOk index && word32Ok value
  | .addressTableWrite src entry addr => srcOk src && addrEntryOk entry && optIpOk addr
  | .epochTransition => true
  | .connect _ cap => capsuleOk cap
  | .propertyGet _ cap => capsuleOk cap
  | .propertySet _ cap => capsuleOk cap
  | .disconnect _ cap => capsuleOk cap
  | .authSend _ cap _ => capsuleOk cap
  | .authReceive _ cap _ => capsuleOk cap
  | .identify _ cap => capsuleOk cap
  | .getLogPage _ cap => capsuleOk cap
  | .abort _ cap => capsuleOk cap
  | .setFeatures _ cap => capsuleOk cap
  | .getFeatures _ cap => capsuleOk cap
  | .asyncEventRequest _ cap => capsuleOk cap
  | .keepAlive _ cap => capsuleOk cap
  | .firmwareImageDownload _ cap => capsuleOk cap
  | .fwCommitVerify _ cap _ => capsuleOk cap
  | .fwCommitNextReset _ cap _ => capsuleOk cap
  | .fwCommitSlot _ cap => capsuleOk cap
  | .fwCommitNow _ cap _ _ => capsuleOk cap
  | .flush _ cap => capsuleOk cap
  | .nvmeRead _ cap => capsuleOk cap
  | .verify _ cap => capsuleOk cap
  | .compare _ cap => capsuleOk cap
  | .nvmeWrite _ cap => capsuleOk cap
  | .writeZeroes _ cap => capsuleOk cap
  | .datasetManagement _ cap => capsuleOk cap
  | .reservationRegister _ cap => capsuleOk cap
  | .reservationReport _ cap => capsuleOk cap
  | .reservationAcquire _ cap => capsuleOk cap
  | .reservationRelease _ cap => capsuleOk cap
  | .runtCapsule _ => true
  | .katoExpiry ctrl => word16Ok ctrl
  | .heldWriteResume _ => true
  | .writeHeldAlert _ => true
  | .writeHeldTimeout _ => true
  | .cmdLimitExpiry _ => true
  | .tcpSyn conn => tcpConnOk conn
  | .tcpPduRx conn _ _ _ => tcpNumOk conn
  | .chuteAdmit _ _ _ => true
  | .mapInval src map extent ent => srcOk src && mapOk map && word32Ok extent && extEntOk ent
  | .mapInvalDone => true
  | .apertureWrite port addr bytes => portOk port && word64Ok addr && bytesOk bytes
  | .apertureRead port addr len => portOk port && word64Ok addr && word16Ok len
  | .tagHoldExpiry tag => drvTagOk tag
  | .writeCommitPoint _ => true
  | .destageStart group stripe _ => groupOk group && word32Ok stripe
  | .yardBufferGrant _ => true
  | .brandUpdateDone group => groupOk group
  | .mapCommitDone group _ => groupOk group
  | .tallyEntryFree group stripe _ => groupOk group && word32Ok stripe
  | .dumpWriteWaitExpiry => true
  | .dumpComplete => true
  | .pwrfailAssert _ => true
  | .pwrfailDeassert => true
  | .recovery _ _ _ => true
  | .dumpRetireRecovered => true
  | .sweepStripe group stripe _ => groupOk group && word32Ok stripe
  | .skidderStripe group member _ => groupOk group && memberOk member
  | .patrolStripe group _ => groupOk group
  | .patrolLate group => groupOk group
  | .skdPause src _ => srcOk src
  | .migGranuleSend slot _ => migSlotOk slot
  | .migGranuleRx peer msgId sub nsid _ => word32Ok peer && msgIdOk msgId && word8Ok sub && word32Ok nsid
  | .migDone slot => migSlotOk slot
  | .roleSelect _ => true
  | .faultNotice _ => true
  | .pairActiveInLoss _ => true
  | .tickIssue => true
  | .consumeHostFrame _ => true
  | .consumeDriveCqe _ _ => true
  | .consumeDriveEvent _ => true
  | .consumeTick _ => true
  | .consumeMgmt _ => true
  | .consumeSlot _ => true
  | .consumeRetx _ => true
  | .consumeCut _ => true
  | .forwardRx fr => linkFrameOk fr
  | .linkIdleSend => true
  | .helloRx fr _ _ => linkFrameOk fr
  | .heartbeatSend => true
  | .heartbeatRx fr => linkFrameOk fr
  | .inputRx fr => linkFrameOk fr
  | .stagedRx fr => linkFrameOk fr
  | .digestRx fr => linkFrameOk fr
  | .snapshotRx fr => linkFrameOk fr
  | .resyncFrameRx fr => linkFrameOk fr
  | .linkNakRx fr => linkFrameOk fr
  | .linkFailure _ => true
  | .heartbeatTimeout _ => true
  | .resyncPassDone _ => true
  | .resyncCut => true
  | .joinerInStep => true
  | .wswHandover src => srcOk src
  | .wswDetach src => srcOk src
  | .wswResync src => srcOk src
  | .hostFrameRx lport frame _ _ => lportOk lport && hostFrameOk frame
  | .hostLinkUp lport => lportOk lport
  | .hostLinkDown lport => lportOk lport
  | .pauseFrameRx lport _ enable quanta _ => lportOk lport && word8Ok enable && quantaOk quanta
  | .pauseExpiry lport cls => lportOk lport && clsOk cls
  | .pauseWatchdogTrip lport cls => lportOk lport && clsOk cls
  | .pauseWatchdogClear lport cls => lportOk lport && clsOk cls
  | .pfcRepeat lport cls => lportOk lport && clsOk cls
  | .ptpAdjOfsWrite src _ value => srcOk src && word64Ok value
  | .ptpAdjRateWrite src value => srcOk src && word32Ok value
  | .ptpAdjApply => true
  | .ptpTxIdRead src port => srcOk src && hostPortOk port
  | .ppsOutEdge => true
  | .ppsInEdge => true
  | .egressService point frames => pointOk point && engFramesOk frames
  | .batchCommit port => portOk port
  | .gateEntryChange lport => lportOk lport
  | .gateListStart lport => lportOk lport
  | .drivePerstRelease port => portOk port
  | .driveLinkTrained port rate width _ => portOk port && word8Ok rate && word8Ok width
  | .driveConfigDone port => portOk port
  | .driveControllerReady port _ => portOk port
  | .driveChecksDone port facts _ => portOk port && factsOk facts
  | .driveBrandRead port _ => portOk port
  | .driveReady port _ => portOk port
  | .driveBringupTimeout port capTo => portOk port && word8Ok capTo
  | .surpriseDown port _ => portOk port
  | .drivePortError port err hdr => portOk port && aerBitOk err && tlpHeaderOk hdr
  | .containmentAutoRelease port => portOk port
  | .dpRelease src port => srcOk src && portOk port
  | .dpReset src port => srcOk src && portOk port
  | .inboundRequest port _ _ hdr => portOk port && tlpHeaderOk hdr
  | .cplTimeout port hdr => portOk port && tlpHeaderOk hdr
  | .unexpectedCompletion port hdr => portOk port && tlpHeaderOk hdr
  | .driveCqeRx port cqe => portOk port && drvCqeOk cqe
  | .cqDoorbellTimer port queue => portOk port && ioQueueOk queue
  | .driveCmdTimeout _ => true
  | .adminCmdTimeout port => portOk port
  | .memberUnreachableTimeout group member => groupOk group && memberOk member
  | .sidebandPoll port _ => portOk port
  | .smartPoll port _ => portOk port
  | .presenceConfirmed slot _ ma mv => slotOk slot && word16Ok ma && word16Ok mv
  | .supplyWindowChange slot supply ma mv => slotOk slot && word16Ok supply && word16Ok ma && word16Ok mv
  | .insertDelayExpiry slot ma mv => slotOk slot && word16Ok ma && word16Ok mv
  | .rampComplete slot ma mv => slotOk slot && word16Ok ma && word16Ok mv
  | .limitEngage slot ma mv => slotOk slot && word16Ok ma && word16Ok mv
  | .limitDisengage slot ma mv => slotOk slot && word16Ok ma && word16Ok mv
  | .faultTimerTrip slot ma mv => slotOk slot && word16Ok ma && word16Ok mv
  | .fastTrip slot ma mv => slotOk slot && word16Ok ma && word16Ok mv
  | .powerGoodQualified slot ma mv => slotOk slot && word16Ok ma && word16Ok mv
  | .slotEnableWrite src slot _ => srcOk src && slotOk slot
  | .svcLinkChange speed width => word8Ok speed && word8Ok width
  | .svcFreeze aerBit => aerNumOk aerBit
  | .freezeRelease aerCleared => word32Ok aerCleared
  | .functionLevelReset => true
  | .bar2Write addr => word64Ok addr
  | .msixUnmask _ => true
  | .pmStateWrite _ => true
  | .nop go => taskGoOk go
  | .identity go => taskGoOk go
  | .patBlock go data => taskGoOk go && taskDataOk data
  | .patCommit go sig partner => taskGoOk go && sigCheckOk sig && word8Ok partner
  | .patAbort go => taskGoOk go
  | .overlaySet go => taskGoOk go
  | .ownerCommission go data digest => taskGoOk go && taskDataOk data && digestOk digest
  | .ownerRotate go data sig digest _ => taskGoOk go && taskDataOk data && sigCheckOk sig && digestOk digest
  | .keyInstall go data sig key => taskGoOk go && taskDataOk data && sigCheckOk sig && keyOpenOk key
  | .keySwitch go data sig => taskGoOk go && taskDataOk data && sigCheckOk sig
  | .keyRetire go data sig => taskGoOk go && taskDataOk data && sigCheckOk sig
  | .admitSet go data sig => taskGoOk go && taskDataOk data && sigCheckOk sig
  | .fwBlock go data => taskGoOk go && taskDataOk data
  | .fwImageVerify _ => true
  | .fwAbort go => taskGoOk go
  | .fwActivate go _ => taskGoOk go
  | .fwConfirm go => taskGoOk go
  | .fwReject go => taskGoOk go
  | .driveAccept go => taskGoOk go
  | .memberFail go => taskGoOk go
  | .driveFw go data => taskGoOk go && taskDataOk data
  | .migStart go ip => taskGoOk go && ipOk ip
  | .migCutover go => taskGoOk go
  | .migCancel go => taskGoOk go
  | .addrSet go data => taskGoOk go && taskDataOk data
  | .powerEnter go => taskGoOk go
  | .warmReset go => taskGoOk go
  | .ledgerRead go => taskGoOk go
  | .taskDataReadDone data => taskDataOk data
  | .taskEnd partnerCode => word8Ok partnerCode
  | .deferredTaskRun => true
  | .kvqPop engine _ _ => engineOk engine
  | .kvqPush engine _ _ _ => engineOk engine
  | .kvqWait engine _ _ => engineOk engine
  | .kvqWaitWake engine => engineOk engine
  | .kvqRing engine _ _ _ cqHead bufs => engineOk engine && word16Ok cqHead && rxBufsOk bufs
  | .engineAccessFault engine _ _ _ va _ => engineOk engine && word64Ok va
  | .dmaStart src engine chan _ addr _ => srcOk src && engineOk engine && chanOk chan && phys36Ok addr
  | .dmaResume src engine chan _ => srcOk src && engineOk engine && chanOk chan
  | .dmaAbort src engine chan => srcOk src && engineOk engine && chanOk chan
  | .dmaComplete engine chan _ => engineOk engine && chanOk chan
  | .taskPreempt cluster priority _ => clusterOk cluster && priorityOk priority
  | .xltInval src scope asid vpn => srcOk src && scopeOk scope && word16Ok asid && word32Ok vpn
  | .xltInvalDone => true
  | .evtRaiseWrite src event => srcOk src && eventOk event
  | .cruiserRead _ _ _ => true
  | .repairGranuleRx granule bytes _ => granuleOk granule && bytesOk bytes
  | .repairRequestRx granule step => granuleOk granule && word64Ok step
  | .memRetire src kind index => srcOk src && kind2Ok kind && word32Ok index
  | .retireComplete => true
  | .memInject src kind _ addr => srcOk src && kind2Ok kind && injectAddrOk addr
  | .memLogRelease src n => srcOk src && logCountOk n
  | .lsmStart src _ addr => srcOk src && phys36Ok addr
  | .lsmNonceResume => true
  | .lsmJobDone _ => true
  | .scalerCounterWrite counter _ => counterOk counter
  | .scalerSelectWrite src counter sel => srcOk src && counterOk counter && selectionOk sel
  | .scalerStartAtReached => true
  | .scalerStopAtReached => true
  | .sampleTaken engine smp => engineOk engine && sampleOk smp
  | .smpRingReset src engine _ => srcOk src && engineOk engine
  | .ldgFreezeWrite src _ => srcOk src
  | .ldgThaw src _ => srcOk src
  | .powerOnReset => true
  | .sysReset => true
  | .warmRstPin => true
  | .pwrCtlWarm src => srcOk src
  | .warmResetEffect selfTest => word16Ok selfTest
  | .sysRstNRelease _ _ selfTest => word16Ok selfTest
  | .patternLoad _ => true
  | .firmwareSelect _ _ => true
  | .bootReady => true
  | .fatalReset selfTest => word16Ok selfTest
  | .holdupChange _ => true
  | .watchdogExpiry => true
  | .wdogKick src => srcOk src
  | .pwrCtlEnter src target => srcOk src && enterOk target
  | .idlePowerEntry => true
  | .drowseEntryDone => true
  | .fallowPonr => true
  | .fallowEntryDone => true
  | .wakeGpioEdge gpio => gpioOk gpio
  | .pwrCtlWake src => srcOk src
  | .wakeDone => true
  | .linkIdleRx fr => linkFrameOk fr
  | .clusterSwitch => true
  | .trialEvaluation => true
  | .trialExpiry => true
  | .thermalTrip celsius => word8Ok celsius

end Instr

end Sys2Proof
end

