-- ==== Sys2Proof/Certificates/Slice0/Obligations.lean ====
section
/-!
DEFINITION. Certificates/Slice0/Obligations.lean: the statements for the provers. `s` is the state before a command and `t` the state after it; every statement about a meaning is about
`Sys2Proof.Machine.exec`.
-/
open Sys2Proof Sys2Proof.Machine

/-- Every message of the sender bears a number that has been given out already: the invariant that MessageNumbersAreFresh states. -/
def KeysFresh (s : State) : Prop := ∀ m ∈ s.flm.msgs, m.key < s.flm.orderCtr

/-- A GO of the service port is accepted and goes on at once (R452, R459, R461): it reaches island 23, no task runs, the block is well formed, the task is not shut out (R564, R588) and no
low-power state is entered or held. -/
def TaskStarts (s : State) (code : Nat) (go : TaskGo) : Prop :=
  s.gate .svc F.TASK_GO.GO.off = .pass ∧ s.flag F.TASK_STATUS.BUSY = false ∧ go.argc ≤ 10 ∧ go.flags < 2 ∧ go.dataLen ≤ 1048576 ∧
    s.taskShut code (go.arg 0) = false ∧ s.lowState = false

/-- TASK_STATUS says that the task has ended with a code, and TASK_TAG echoes its TAG (R458, R459). -/
def TaskEnded (t : State) (go : TaskGo) (code : Nat) : Prop :=
  t.flag F.TASK_STATUS.BUSY = false ∧ t.flag F.TASK_STATUS.DONE = true ∧ t.get F.TASK_STATUS.CODE = code ∧ t.get F.TASK_TAG.TAG = go.tag % 2 ^ 32

/-- The controller serves alone in the Solo profile, so a step task is carried out at once (R301, R460). -/
def SoloAlone (s : State) : Prop := s.role = roleAlone ∧ s.profile = 0

/-- The settings store takes a commit at once (R70, R72, R73). -/
def StoreIdle (s : State) : Prop :=
  s.storeRefuses = false ∧ s.pat.run = none ∧ s.flag F.PWR_PINS.PWRFAIL = false ∧ s.pwr.warm = none

/-- A commit of exactly these changes runs. -/
def Committing (t : State) (cs : List StoreChange) : Prop := (t.pat.run.map (·.changes)) = some cs ∧ t.flag F.STORE_STATUS.BUSY = true

/-- The device has put something out. -/
def Emitted (s t : State) (o : Out) : Prop := ∃ l, t.out = l ++ s.out ∧ o ∈ l

/-- The device has sent a Flume packet of an opcode to a peer, for a message. -/
def SendsFlume (s t : State) (op peer msgId : Nat) : Prop :=
  ∃ lp cls a b sp up ttl nonce bytes, Emitted s t (.flume lp cls a b sp up ttl nonce bytes) ∧
    (FlumeHdr.ofBytes bytes).opcode = op ∧ (FlumeHdr.ofBytes bytes).dstPeer = peer ∧ (FlumeHdr.ofBytes bytes).msgId = msgId

/-- The controller alone serves, and a packet to a peer of the flow cache can be formed and leave at once (R115, R142, R589, R141). -/
def CanSend (s : State) (peer : Nat) : Prop :=
  s.role = roleAlone ∧ s.wsw.stopped = false ∧ s.hasPeer = true ∧ s.currentEpoch.isSome = true ∧ s.fx.ctlLast = [] ∧ s.wsw.ctlHoldUs = 0 ∧
    ∃ f, s.flow? peer = some f ∧ f.localIp.isSome = true

/-- A datagram passes orders 1 to 5 of R92 as a packet of an opcode: `u` is the state then, `h` its header. -/
def Arrives (s : State) (dg : Datagram) (op : Nat) (u : State) (h : FlumeHdr) (es : List FlumeExt) (payload : List Byte) : Prop :=
  ({ s with dev := { s.dev with curStep := s.dev.stepNo } } : State).front dg = .pass u h es payload ∧ h.opcode = op

/-- A packet of a SEND or WRITE comes to order 9 of R92 as the first of its message, and a slot can be had. -/
def FirstOfMessage (u : State) (h : FlumeHdr) (es : List FlumeExt) : Prop :=
  h.resp = false ∧ u.pwr.hostBusy = false ∧ u.outcome? h.srcPeer h.msgId = none ∧ lengthsOk h = true ∧ badSize h es = false ∧
    u.slot? h.srcPeer h.msgId = none ∧ u.tableUsed < tableLimit ∧ u.flm.slots.length < slotLimit ∧ h.fence = false

/-- A message of a work queue, whose end is told by a completion entry (R135). -/
def OfQueue (u : State) (m : Msg) (wq idx : Nat) (d : SendDesc) : Prop :=
  m.use = .desc wq idx ∧ m.desc = some d ∧ d.signal = true ∧ (u.wq wq).st ≠ .closed ∧ u.fx.reports = [] ∧ KeysFresh u

/-- The input that releases a retransmission is numbered (R321). -/
def RetxNumbered (t : State) (msgId pkt attempt : Nat) : Prop := ∃ r ∈ t.wsw.inputs, r.input = .retx msgId pkt attempt

/-- A packet of an active message may be sent again at once: the attempt limit and the deadline are not reached, and no retransmission of it is asked for (R110, R321). -/
def MayRepeat (s : State) (m : Msg) (p : PktTx) : Prop :=
  s.role = roleAlone ∧ m.side = .numbering ∧ s.currentEpoch.isSome = true ∧ p.retx = false ∧ p.attempt + 1 < s.maxAttempts ∧ s.nowUs ≤ s.txDeadline m

/-- A write of step state acts at once: in Solo, or when firmware writes (R317). -/
def ActsAtOnce (s : State) (src : Src) : Prop := (s.profile = 0 ∧ s.inPair = false) ∨ src ≠ .svc

/-- The descriptor at the head of a queue starts and is well formed (R131). -/
def Starts (s : State) (wq : Nat) (d : SendDesc) : Prop := (s.wq wq).canStart = true ∧ d.rsvdSet = false ∧ d.len ≤ 16777216 ∧ KeysFresh s

/-- The message of a started descriptor is with the sender, and the queue's head has moved on (R131). -/
def DescStarted (s t : State) (wq : Nat) (d : SendDesc) : Prop :=
  (t.wq wq).sqHead = ((s.wq wq).sqHead + 1) % 65536 ∧ (t.wq wq).waiting = none ∧
    ∃ m ∈ t.flm.msgs, m.use = .desc wq (s.wq wq).headIndex ∧ m.dst = d.dstPeer ∧ m.opcode = d.op ∧ m.len = d.len ∧ m.desc = some d

/-- The state in the consumption of the input numbered `stepNo` (R514). -/
def atStep (s : State) : State := { s with dev := { s.dev with curStep := s.dev.stepNo } }

/-- A capsule of the row's kind is taken from its queue (R160, R198): the device serves, the Chute has room, the queue may send such a command (R196). `u` is the state with the
command in the machine, `q` its queue with the head moved on, `x` its controller, `c` the command. -/
def Taken (s : State) (key : Nat) (cap : Capsule) (k : RowKind) (u : State) (q : NvmQueue) (x : NvmCtrl) (c : Cmd) : Prop :=
  ∃ q0, s.nq? key = some q0 ∧ s.consumes = true ∧ s.pwr.hostBusy = false ∧ s.ctrl? q0.ctrl = some x ∧ kindOf q0 x.discovery cap = some k ∧ s.chuteCmds < chuteLimit ∧
    (q0.authed = true ∨ cap.opcode = fabricsOp) ∧ q = (((atStep s).count 4 0 0).takeSlot q0).2 ∧ (u, c) = (((atStep s).count 4 0 0).takeSlot q0).1.newCmd q x.sub cap

/-- What the device sends on a queue can leave: over TCP at once, when the controller alone serves and the connection exists; over Flume it is a message for the sender. -/
def CanAnswer (s : State) (q : NvmQueue) : Prop :=
  match q.tr with
  | .flume _ _ _ _ => KeysFresh s
  | .tcp conn => s.role = roleAlone ∧ s.wsw.stopped = false ∧ ∃ c ∈ s.nvm.tcp, c.id = conn

/-- The device answers a command on a queue: a completion entry with this command identifier, status and Dword 0 (R160, R163). -/
def Answered (s t : State) (q : NvmQueue) (cid : Nat) (st : NvmeStatus) (dw0 : Nat) : Prop :=
  ∃ cqe, leAt cqe 0 4 = dw0 % 2 ^ 32 ∧ leAt cqe 12 2 = cid % 65536 ∧ leAt cqe 14 2 / 2 % 2 ^ 11 = st.sc + 256 * st.sct ∧
    match q.tr with
    | .flume _ peer reply _ => ∃ m ∈ t.flm.msgs, m.opcode = opSend ∧ m.dst = peer ∧ m.aux = reply ∧ m.src = .bytes cqe
    | .tcp conn => ∃ lp cls n, Emitted s t (.tcp lp cls n conn (.capsuleResp cqe))

/-- The device sends a command's data to the host (R163): a Flume WRITE into the named window, or a C2HData PDU. -/
def DataSent (s t : State) (q : NvmQueue) (cap : Capsule) (p : List Byte) : Prop :=
  match q.tr with
  | .flume _ peer _ _ => ∃ m ∈ t.flm.msgs, m.opcode = opWrite ∧ m.dst = peer ∧ m.window = cap.sglKey ∧ m.winOffset = cap.sglAddr ∧ m.src = .bytes p
  | .tcp conn => ∃ lp cls n, Emitted s t (.tcp lp cls n conn (.c2hData cap.cid 0 p true))

/-- A link frame that is next in order and sound, and asks for no replay (R328). -/
def NextFrame (s : State) (fr : LinkFrame) (b : LinkBody) : Prop :=
  s.linkUp = true ∧ fr.crcOk = true ∧ fr.lseq = s.wsw.rxSeq ∧ fr.nak = false ∧ fr.body = b

/-- The controller has sent a numbered link frame with this body. -/
def SendsLink (s t : State) (b : LinkBody) : Prop := ∃ a, Emitted s t (.link s.wsw.txSeq a false false b)

/-- The input numbered `n` is next, and its consumption has nothing else to do: no takeover to settle, no granule asked for (R314). -/
def NextInput (s : State) (n : Nat) (r : InputRec) : Prop :=
  s.nextInput = some r ∧ r.step = n ∧ s.wsw.takeover = false ∧ s.mi.repairWaits = []

/-- The state past the input numbered `n`, but for what its consumption does. -/
def pastInput (s : State) (n : Nat) : State :=
  { s with dev := { s.dev with stepNo := n, curStep := 0 }, wsw := { s.wsw with inputs := s.wsw.inputs.drop 1 } }

/-- A port in a state and bring-up step of R404. -/
def PortIs (s : State) (n st step : Nat) : Prop := s.dpState n = st ∧ (s.port n).step = step

/-- A drive is held for a reason of R405. -/
def PortHeld (s : State) (n reason : Nat) : Prop := s.dpState n = dpHeld ∧ s.get F.DP_STATUS.REASON n = reason

/-- The status bit of an event is set (R479). -/
def Raised (t : State) (e : Nat) : Prop := bitOf (t.get F.EVT_STATUS.STATUS (e / 32)) (e % 32) = true

/-- What a wake source does (R538, R539, R541, R544): in Drowse and Fallow a wake begins; an entry that has not passed its point of no return is aborted and counted; one that has is left
to run, and the wake follows it; in Active nothing happens. -/
def WakesOrAborts (s : State) (r : Result) : Prop :=
  (s.power = stDrowse ∨ s.power = stFallow → ∃ t, r = .next t ∧ t.power = stWaking ∧ t.pwr.wakeNs = some s.dev.timeNs ∧ Raised t 0x00E) ∧
  (s.power = stToDrowse ∨ (s.power = stToFallow ∧ s.ponr = false) → ∃ t, r = .next t ∧ t.power = stActive ∧ Raised t 0x00D ∧
    t.get F.PWR_ENTRY_COUNT.COUNT = satIncr32 (s.get F.PWR_ENTRY_COUNT.COUNT) % 2 ^ 32) ∧
  (s.power = stToFallow → s.ponr = true → ∃ t, r = .next t ∧ t.power = stToFallow ∧ t.pwr.wakeWanted = true) ∧
  (s.power = stActive → r = .next s)

/-- The image of a slot passes codes 0x01 to 0x07 of R552, with these verdicts of the cryptographic checks. -/
def FwPasses (s : State) (b : Bool) (chk : FwChecks) : Prop :=
  fwImageCode (s.get F.GLB_REV.REVISION) s.dev.fuseSecurity (s.fwSlot b).image chk = 0

/-- Start-up stands before step 5 of R533. -/
def FwSelecting (s : State) : Prop := s.power = stResetting ∧ s.get F.PWR_STATE.BOOT_STEP = 4 ∧ s.pwr.fatalNs = none

/-- A slot holds an activated image that is not rejected: with a passing check it is a candidate (R553). -/
def FwStands (x : FwSlot) (n : Nat) : Prop := x.magic = true ∧ x.actSeq = some n ∧ x.rejected = false

/-- Nothing of R556 stands in the way of a firmware command on a subsystem. -/
def FwMayCommand (s : State) (sub : Nat) : Prop := s.subFlag sub 6 = true ∧ s.flag F.FWU_STATUS.TRIAL = false ∧ s.fwBusy = false

/-- O1. A step carries out the command at the front of the queue. For every command c, queue rest and state s: a step of s with c at the front of its queue is exec of c on s with the queue's rest. The queue is the model's form of a block (no rule of the spec). -/
def Obligations.StepRunsFrontCommand : Prop :=
  ∀ (c : Instr) (rest : List Instr) (s : State),
    step { s with pending := c :: rest } = exec c { s with pending := rest }

/-- O2. A step with no command waiting only lets device time go on. With an empty queue a step answers the state with device time 1 ns later and nothing else changed (the model's choice, log entry on idling). -/
def Obligations.StepOnEmptyQueueIdles : Prop :=
  ∀ s : State, s.pending = [] →
    step s = .next { s with dev := { s.dev with timeNs := s.dev.timeNs + 1 } }

/-- O3. No command touches the queue of waiting commands. For every command and state: when exec answers a next state, its queue is the queue before. -/
def Obligations.ExecLeavesQueue : Prop :=
  ∀ (c : Instr) (s t : State), exec c s = .next t → t.pending = s.pending

/-- O4. The state right after a power-on reset has its tables in canonical form. Memory and the register file of State.reset are in canonical form, its queue is empty, and device time is 0. -/
def Obligations.ResetIsCanonical : Prop :=
  State.reset.Canonical ∧ State.reset.pending = [] ∧ State.reset.dev.timeNs = 0

/-- O5. Every step keeps memory and the register file in canonical form. For every state s whose memory lists addresses strictly rising and no byte that an unlisted address reads as, and whose register file lists its fields strictly rising: if a step of s answers next t, the same holds of t. So equal memories and equal registers are equal data in every state a run reaches. -/
def Obligations.StepKeepsCanonicalForm : Prop :=
  ∀ s t : State, s.Canonical → step s = .next t → t.Canonical

/-- O6. Only a power-on reset sets device time back. R27: device time never runs backwards and no flr, warm or cold reset resets it. For every command but POWER_ON_RESET, in every state: when exec answers a next state, device time there is not less than before. -/
def Obligations.DeviceTimeNeverRunsBack : Prop :=
  ∀ (c : Instr) (s t : State), c ≠ .powerOnReset → exec c s = .next t → s.dev.timeNs ≤ t.dev.timeNs

/-- O7. A burned fuse stays burned. The owner-key slots are one-time fuses: a burned slot keeps its digest and a revoked one stays revoked, whatever command is carried out; the fused firmware security number never falls; the MAC address base, LSM_ID, the identity key and the voltage code never change. -/
def Obligations.FusesAreOneTime : Prop :=
  ∀ (c : Instr) (s t : State), exec c s = .next t →
    OwnerKept s.dev.ownerKeys t.dev.ownerKeys ∧ s.dev.fuseSecurity ≤ t.dev.fuseSecurity ∧
      t.dev.fuseMac = s.dev.fuseMac ∧ t.dev.fuseLsmId = s.dev.fuseLsmId ∧ t.dev.fuseIdentity = s.dev.fuseIdentity ∧ t.dev.fuseMv = s.dev.fuseMv

/-- O8. What has left the block is never taken back. For every command and state: the outputs after it are the outputs before it with what the command sent in front, and the counter of free values never runs back, so no open value is drawn twice. -/
def Obligations.OutputsAreNeverTakenBack : Prop :=
  ∀ (c : Instr) (s t : State), exec c s = .next t → (∃ l, t.out = l ++ s.out) ∧ s.freeCtr ≤ t.freeCtr

/-- O9. What every command leaves unchanged. For every command c and state s: when exec c s answers t, every part of the state that Safety.lean's mayChange does not list for c is the same in t. A command that lists no memory changes no byte of it. -/
def Obligations.EveryCommandStaysInItsParts : Prop :=
  ∀ (c : Instr) (s t : State), exec c s = .next t → ∀ p : Part, p ∉ mayChange c → p.same s t

/-- O10. The number of a new Flume message is a fresh one. In State.reset, and after every command that answers a next state where it held before, every message of the sender bears a number below the next one. SNAPSHOT_RX is left out: a joiner takes the sender as its partner has it, numbers and all (R317). -/
def Obligations.MessageNumbersAreFresh : Prop :=
  KeysFresh State.reset ∧ ∀ (c : Instr) (s t : State), (∀ fr, c ≠ .snapshotRx fr) → KeysFresh s → exec c s = .next t → KeysFresh t

/-- O11. A Flume header read back from its bytes is the header. For every header whose fields fit their sizes (R82): it takes 64 bytes, and reading them gives every field back, whatever bytes follow. -/
def Obligations.FlumeHeaderRoundTrip : Prop :=
  ∀ (h : FlumeHdr) (rest : List Byte), h.fits = true →
    h.bytes.length = 64 ∧ FlumeHdr.ofBytes (h.bytes ++ rest) = h

/-- O12. An offset that no register occupies reads 0 and takes no write, whatever its island's state. R13, for an aligned access that the service port passes on (not in D3hot, not frozen: R445, R448): a read of an unoccupied offset returns 0 and changes nothing else, a write of 4 or 8 bytes to it changes nothing, and neither raises a bridge fault; nor does a timeout under R30 of an access to an unoccupied offset. -/
def Obligations.UnoccupiedOffsetsReadZero : Prop :=
  ∀ (src : Src) (off size value : Nat) (read : Option Nat) (s : State),
    s.gate src off ≠ .unsupported → s.gate src off ≠ .frozen →
      (alignedAccess off size = true → occupied off size = false →
        exec (.rcCounterRead src off size) s = .next (s.emit (.bar0Data off size 0)) ∧
          (4 ≤ size → exec (.registerWrite src off size value) s = .next s)) ∧
      (occupied (off / 4 * 4) 4 = false → exec (.accessTimeout src off read) s = .next s)

/-- O13. What a register access that reaches its register does. REGISTER_WRITE of a word of TASK_CMD stores it while no task runs, and is discarded while one runs (R459). RC_COUNTER_READ of SVC_BAR2_WRITE returns the count and clears it (R14), and one of its lower two bytes returns them and clears nothing (R12). ACCESS_TIMEOUT of an occupied register completes the access as a bridge fault of cause 4, a read with all bits 1 (R30). -/
def Obligations.RegisterAccess : Prop :=
  (∀ (src : Src) (n v : Nat) (s : State), n < 16 → s.gate src (0x10000 + 4 * n) = .pass →
      exec (.registerWrite src (0x10000 + 4 * n) 4 v) s =
        .next (if s.flag F.TASK_STATUS.BUSY then s else s.set F.TASK_CMD.WORD (v % 2 ^ 32) n)) ∧
    (∀ (src : Src) (s : State), s.gate src F.SVC_BAR2_WRITE.COUNT.off = .pass →
      exec (.rcCounterRead src F.SVC_BAR2_WRITE.COUNT.off 4) s =
          .next ((s.set F.SVC_BAR2_WRITE.COUNT 0).emit (.bar0Data F.SVC_BAR2_WRITE.COUNT.off 4 (s.get F.SVC_BAR2_WRITE.COUNT % 2 ^ 32))) ∧
        exec (.rcCounterRead src F.SVC_BAR2_WRITE.COUNT.off 2) s =
          .next (s.emit (.bar0Data F.SVC_BAR2_WRITE.COUNT.off 2 (s.get F.SVC_BAR2_WRITE.COUNT % 2 ^ 16)))) ∧
    (∀ (src : Src) (off size : Nat) (s : State), s.gate src off = .pass → occupied (off / 4 * 4) 4 = true →
      exec (.accessTimeout src off none) s = .next (s.accessFault (islandOf off) 4) ∧
        exec (.accessTimeout src off (some size)) s = .next ((s.accessFault (islandOf off) 4).emit (.bar0Data off size (2 ^ (8 * size) - 1))))

/-- O14. What a bridge fault records. R29, R38: an access to an occupied register of an island that is down returns all bits 1 or is discarded, and is recorded: while GLB_BRIDGE_FAULT.VALID is 1, ISLAND and CAUSE keep the first fault and COUNT counts on, to at most 255; otherwise VALID becomes 1, COUNT 1, and ISLAND and CAUSE are this fault's, CAUSE 2 for a gated island and 3 for another. The status bit of BRIDGE_FAULT is set. -/
def Obligations.BridgeFaultKeepsTheFirst : Prop :=
  ∀ (src : Src) (off value : Nat) (s : State), s.gate src off = .unreachable → off % 4 = 0 → occupied off 4 = true →
    ∃ t, exec (.registerWrite src off 4 value) s = .next t ∧
      exec (.rcCounterRead src off 4) s = .next (t.emit (.bar0Data off 4 0xFFFFFFFF)) ∧
      t.flag F.GLB_BRIDGE_FAULT.VALID = true ∧ bitOf (t.get F.EVT_STATUS.STATUS 0) 1 = true ∧
      (s.flag F.GLB_BRIDGE_FAULT.VALID = true →
        t.get F.GLB_BRIDGE_FAULT.ISLAND = s.get F.GLB_BRIDGE_FAULT.ISLAND ∧ t.get F.GLB_BRIDGE_FAULT.CAUSE = s.get F.GLB_BRIDGE_FAULT.CAUSE ∧
          t.get F.GLB_BRIDGE_FAULT.COUNT = min (s.get F.GLB_BRIDGE_FAULT.COUNT + 1) 255) ∧
      (s.flag F.GLB_BRIDGE_FAULT.VALID = false →
        t.get F.GLB_BRIDGE_FAULT.ISLAND = islandOf off ∧ t.get F.GLB_BRIDGE_FAULT.COUNT = 1 ∧
          t.get F.GLB_BRIDGE_FAULT.CAUSE = if s.dev.gated.contains (islandOf off) then 2 else 3)

/-- O15. An island that loses lock is held in reset and the loss is fatal. R28: for an island other than 25 that is not yet in fault, in a state whose fatal sequence has not begun: CLOCK_LOCK_LOSS answers a state in which the island is in fault, the fatal sequence has begun at the present device time, and every output is stopped. -/
def Obligations.LockLossIsFatal : Prop :=
  ∀ (island : Nat) (s : State), island < 38 → island ≠ 25 → island ∉ s.dev.faulted → s.pwr.fatalNs = none →
    ∃ t, exec (.clockLockLoss island) s = .next t ∧ island ∈ t.dev.faulted ∧ t.pwr.fatalNs = some s.dev.timeNs ∧ t.wsw.stopped = true

/-- O16. The ends of store commits, live records, power failure, the Pattern load, and the thermal trip. STORE_COMMIT_DONE with a good read-back makes the written bank current, its contents the settings; a bad one is retried once, and after the retry the bank is unusable and the settings stay. STORE_COMMIT_COALESCED commits everything that waited together. LIVE_RECORDS_EFFECT puts the committed live records in force in place of the old ones. PWRFAIL_ASSERT stops a commit that has not begun its header; PWRFAIL_DEASSERT commits what stayed pending. PATTERN_LOAD goes on to step 4 with the factory Pattern where the store holds none, rejects a user Pattern that fails its checks, and stops where the factory image fails. THERMAL_TRIP shows the sensor and pulls THERM_TRIP_N low from 115 degrees on. -/
def Obligations.StoreCommitsAndPatternLoad : Prop :=
  (∀ (r : StoreRun) (s : State), s.pat.run = some r → r.target < 2 →
      (s.pwr.warm = none → ∃ t, exec (.storeCommitDone .good) s = .next t ∧ t.pat.run = none ∧ t.pat.settings = r.content ∧ (t.bank r.target).content = r.content ∧
        (t.bank r.target).valid = true ∧ t.bank (1 - r.target) = s.bank (1 - r.target) ∧ t.flag F.STORE_STATUS.BUSY = false ∧
        t.get F.STORE_STATUS.CURRENT = r.target + 1 ∧ t.get F.STORE_STATUS.RESULT = (if r.retried then 2 else 1) ∧ bitOf (t.get F.EVT_STATUS.STATUS 0) 10 = true) ∧
      (r.retried = false → s.pwr.warm = none → exec (.storeCommitDone .bad) s = .next { s with pat := { s.pat with run := some { r with retried := true } } }) ∧
      (r.retried = true → s.pwr.warm = none → ∃ t, exec (.storeCommitDone .bad) s = .next t ∧ t.pat.run = none ∧ t.pat.settings = s.pat.settings ∧ t.storeRefuses = true ∧
        bitOf (t.get F.STORE_STATUS.UNUSABLE) r.target = true ∧ t.get F.STORE_STATUS.RESULT = 3)) ∧
    (∀ s : State, s.pat.run = none → s.flag F.PWR_PINS.PWRFAIL = false → s.pwr.warm = none → s.pat.waiting ≠ [] → s.storeRefuses = false →
      ∃ t, exec .storeCommitCoalesced s = .next t ∧ Committing t s.pat.waiting ∧ t.pat.waiting = []) ∧
    (∀ s : State, s.pat.pendingLive ≠ [] →
      ∃ t, exec .liveRecordsEffect s = .next t ∧ t.pat.pendingLive = [] ∧
        t.pat.live = s.pat.live.filter (fun r => changeOf r.type != some .live) ++ s.pat.pendingLive) ∧
    (∀ (r : StoreRun) (b : Bool) (s : State), s.flag F.PWR_PINS.PWRFAIL = false → s.pat.run = some r →
      ∃ t, exec (.pwrfailAssert b) s = .next t ∧ t.flag F.PWR_PINS.PWRFAIL = true ∧ t.flag F.PWR_PINS.PWRFAIL_SEEN = true ∧ bitOf (t.get F.EVT_STATUS.STATUS 0) 3 = true ∧
        (b = false → t.pat.run = none ∧ t.get F.STORE_STATUS.RESULT = 4) ∧ (b = true → t.pat.run = some r)) ∧
    (∀ s : State, s.flag F.PWR_PINS.PWRFAIL = true → s.pat.run = none → s.pwr.warm = none → s.storeRefuses = false →
      ∃ t, exec .pwrfailDeassert s = .next t ∧ t.flag F.PWR_PINS.PWRFAIL = false ∧ bitOf (t.get F.EVT_STATUS.STATUS 0) 4 = true ∧
        (s.pat.waiting ≠ [] → Committing t s.pat.waiting)) ∧
    (∀ (chk : LoadChecks) (s : State), s.power = stResetting → s.get F.PWR_STATE.BOOT_STEP = 3 → s.pat.factoryFailed = false →
      (chk.factoryOk = false → ∃ t, exec (.patternLoad chk) s = .next t ∧ t.pat.factoryFailed = true ∧ t.get F.PWR_STATE.BOOT_STEP = 3 ∧ t.flag F.PAT_STATUS.ERROR = true) ∧
      (chk.factoryOk = true → s.pat.settings.pattern = none → ∃ t, exec (.patternLoad chk) s = .next t ∧ t.flag F.PAT_STATUS.LOADED = true ∧
        t.flag F.PAT_STATUS.FACTORY_ONLY = true ∧ t.get F.PAT_STATUS.SOURCE = 0 ∧ t.get F.PWR_STATE.BOOT_STEP = 4 ∧ bitOf (t.get F.EVT_STATUS.STATUS 0) 7 = true) ∧
      (∀ e, chk.factoryOk = true → s.userConfig chk.sig = some (.error e) → s.get F.PAT_ERROR.CODE = 0 → e.code < 256 →
        ∃ t, exec (.patternLoad chk) s = .next t ∧ t.flag F.PAT_STATUS.FACTORY_ONLY = true ∧ t.get F.PAT_ERROR.CODE = e.code ∧ t.get F.PWR_STATE.BOOT_STEP = 4 ∧
          t.pat.settings = s.pat.settings)) ∧
    (∀ (c : Nat) (s : State),
      ∃ t, exec (.thermalTrip c) s = .next t ∧ t.get F.THERM_STATUS.HUB_C = min c 127 ∧ t.flag F.THERM_STATUS.HOT = decide (100 ≤ c) ∧
        t.flag F.THERM_STATUS.TRIP = (s.flag F.THERM_STATUS.TRIP || decide (115 ≤ c)) ∧
        (115 ≤ c → s.flag F.THERM_STATUS.TRIP = false → Emitted s t (.pin .thermTripN 0)))

/-- O17. Packets of SEND and WRITE messages, and the ends of their slots. A SEND of one packet, first of its message, for an open queue of its peer with a buffer that is long enough, completes: its outcome is held for LMAX_US, it has no slot, and a completion entry names the buffer, the length, the peer and the message. A packet of a longer WRITE, first of its message, that does not ask for an ACK takes a slot that holds just this packet and expires LMAX_US later; its payload stands where the window puts it and every byte outside it is unchanged. SLOT_EXPIRY of a filling slot fails its message, counted, and a fence need no longer wait for it; of a WRITE that waits for its fence it completes the message. TABLE_ENTRY_EXPIRY removes that outcome and no other. ACK_DELAY_EXPIRY acknowledges what is held. -/
def Obligations.FlumeMessagesArrive : Prop :=
  (∀ (dg : Datagram) (sp : List (Nat × Nat)) (b : RxBuf) (h : FlumeHdr) (es : List FlumeExt) (payload : List Byte) (s u : State), Arrives s dg opSend u h es payload →
      FirstOfMessage u h es → pktCount h.msgLen h.sizeCode = 1 → (u.wq (h.aux % 65536)).accepts h.srcPeer = true → (u.wq (h.aux % 65536)).nextBuf = some b → h.msgLen ≤ b.len →
      (u.wq (h.aux % 65536)).cqFull = false →
      ∃ t ix ph, exec (.sendPacketRx dg (some sp)) s = .next t ∧ t.slot? h.srcPeer h.msgId = none ∧
        t.outcome? h.srcPeer h.msgId = some ⟨h.srcPeer, h.msgId, true, 0, u.nowUs + u.lmaxUs⟩ ∧
        Emitted s t (.completion ix ph ⟨0, h.msgLen, b.index, 0, 0, h.srcPeer, h.aux % 65536, opSend, h.msgId⟩)) ∧
    (∀ (dg : Datagram) (pa n : Nat) (h : FlumeHdr) (es : List FlumeExt) (payload : List Byte) (s u : State), Arrives s dg opWrite u h es payload →
      FirstOfMessage u h es → 1 < pktCount h.msgLen h.sizeCode → u.winCheck h = none → h.notify = false → h.solicit = false → 1 < u.ackEvery → s.poison = [] → payload.length ≤ n →
      ∃ t x, exec (.writePacketRx dg (some [(pa, n)])) s = .next t ∧ t.slot? h.srcPeer h.msgId = some x ∧ x.held = [h.pktIndex] ∧ x.st = .filling ∧
        x.expiryUs = u.nowUs + u.lmaxUs ∧ t.memRead pa payload.length = payload ∧ ∀ a, (a < pa ∨ pa + payload.length ≤ a) → t.memByte a = s.memByte a) ∧
    (∀ (peer msgId : Nat) (x : Slot) (s : State), s.slot? peer msgId = some x → x.expiryUs ≤ s.nowUs → x.st = .filling → (∀ y ∈ s.flm.slots, y.st = .filling) → 0 < s.lmaxUs →
      ∃ t, exec (.slotExpiry peer msgId) s = .next t ∧ t.slot? peer msgId = none ∧ t.hasExpired peer msgId = true ∧
        t.get F.FLM_RX_EXPIRED.COUNT = satIncr32 (s.get F.FLM_RX_EXPIRED.COUNT) % 2 ^ 32) ∧
    (∀ (peer msgId : Nat) (x : Slot) (s : State), s.slot? peer msgId = some x → x.expiryUs ≤ s.nowUs → x.st = .fenceWait → x.hdr.opcode = opWrite →
      ∃ t, exec (.slotExpiry peer msgId) s = .next t ∧ t.slot? peer msgId = none ∧ t.outcome? peer msgId = some ⟨peer, msgId, true, 0, s.nowUs + s.lmaxUs⟩) ∧
    (∀ (peer msgId : Nat) (s : State), (∀ e ∈ s.flm.rmt, e.peer = peer → e.msgId = msgId → e.expiryUs ≤ s.nowUs) →
      ∃ t, exec (.tableEntryExpiry peer msgId) s = .next t ∧ t.outcome? peer msgId = none ∧ ∀ q n, ¬ (q = peer ∧ n = msgId) → t.outcome? q n = s.outcome? q n) ∧
    (∀ (peer msgId t0 : Nat) (x : Slot) (s : State), s.slot? peer msgId = some x → x.firstUnacked = some t0 → t0 + s.ackDelayNs ≤ s.dev.timeNs →
      ∃ t y, exec (.ackDelayExpiry peer msgId) s = .next t ∧ t.slot? peer msgId = some y ∧ y.held = x.held ∧ y.firstUnacked = none ∧ y.sinceAck = 0 ∧
        y.lastAckNs = some s.dev.timeNs)

/-- O18. READ, its answers, and PROBE. A READ of one packet that passes the window and is the first of its message answers with a READ_RESP and enters its attempt in the answer filter; an attempt not above the one in the filter is counted in FLM_DUP and answered by nothing. READ_FILTER_EXPIRY removes that entry and no other. A PROBE is answered with an ACK. A READ_RESP with the only packet of a READ of a work queue ends the READ with SUCCESS and a completion entry; one that matches no outstanding READ is counted in FLM_LATE_RESP and places nothing. -/
def Obligations.FlumeReadsAndProbes : Prop :=
  (∀ (dg : Datagram) (sp : List (Nat × Nat)) (h : FlumeHdr) (es : List FlumeExt) (payload : List Byte) (s u : State), Arrives s dg opRead u h es payload → h.resp = false →
      u.pwr.hostBusy = false → u.wsw.readDropNs ≤ u.dev.timeNs → u.outcome? h.srcPeer h.msgId = none → h.payloadLen = 0 → h.pktIndex = 0 → h.offset = 0 → h.msgLen ≤ 16777216 →
      badSize h es = false → u.filter? h.srcPeer h.msgId = none → u.flm.filter.length < filterLimit → u.winCheck h = none → pktCount h.msgLen h.sizeCode = 1 → sackOf es = none →
      CanSend u h.srcPeer →
      ∃ t, exec (.readRx dg [some sp]) s = .next t ∧ SendsFlume s t opReadResp h.srcPeer h.msgId ∧
        t.filter? h.srcPeer h.msgId = some ⟨h.srcPeer, h.msgId, h.attempt, u.nowUs + u.lmaxUs⟩ ∧ t.mem = s.mem) ∧
    (∀ (dg : Datagram) (spans : List (Option (List (Nat × Nat)))) (f : RdFilter) (h : FlumeHdr) (es : List FlumeExt) (payload : List Byte) (s u : State), Arrives s dg opRead u h es payload →
      h.resp = false → u.pwr.hostBusy = false → u.wsw.readDropNs ≤ u.dev.timeNs → u.outcome? h.srcPeer h.msgId = none → h.payloadLen = 0 → h.pktIndex = 0 → h.offset = 0 →
      h.msgLen ≤ 16777216 → badSize h es = false → u.filter? h.srcPeer h.msgId = some f → h.attempt ≤ f.attempt →
      ∃ t, exec (.readRx dg spans) s = .next t ∧ t.get F.FLM_DUP.COUNT = satIncr32 (u.get F.FLM_DUP.COUNT) % 2 ^ 32 ∧ t.out = u.out ∧ t.mem = s.mem) ∧
    (∀ (peer msgId : Nat) (s : State), (∀ f ∈ s.flm.filter, f.peer = peer → f.msgId = msgId → f.expiryUs ≤ s.nowUs) →
      ∃ t, exec (.readFilterExpiry peer msgId) s = .next t ∧ t.filter? peer msgId = none ∧ ∀ q n, ¬ (q = peer ∧ n = msgId) → t.filter? q n = s.filter? q n) ∧
    (∀ (dg : Datagram) (h : FlumeHdr) (es : List FlumeExt) (payload : List Byte) (s u : State), Arrives s dg opProbe u h es payload → h.resp = false →
      u.outcome? h.srcPeer h.msgId = none → h.msgLen = 0 → h.payloadLen = 0 → badSize h es = false → CanSend u h.srcPeer →
      ∃ t, exec (.probeRx dg) s = .next t ∧ SendsFlume s t opAck h.srcPeer h.msgId) ∧
    (∀ (dg : Datagram) (sp : List (Nat × Nat)) (m : Msg) (wq idx : Nat) (d : SendDesc) (h : FlumeHdr) (es : List FlumeExt) (payload : List Byte) (s u : State),
      Arrives s dg opReadResp u h es payload → h.resp = true → u.readOf h = some m → OfQueue u m wq idx d → pktCount m.len m.sizeCode = 1 → m.got = [] →
      h.pktIndex = 0 → h.offset = 0 → h.payloadLen = m.len →
      ∃ t ix ph, exec (.readRespRx dg (some sp)) s = .next t ∧ t.msg? m.key = none ∧
        Emitted s t (.completion ix ph ⟨d.user, m.len, idx, DescStatus.success.code, 0, d.dstPeer, wq, d.op, m.id⟩)) ∧
    (∀ (dg : Datagram) (place : Option (List (Nat × Nat))) (h : FlumeHdr) (es : List FlumeExt) (payload : List Byte) (s u : State), Arrives s dg opReadResp u h es payload →
      h.resp = true → u.readOf h = none → u.fx.reports = [] →
      ∃ t, exec (.readRespRx dg place) s = .next t ∧ t.get F.FLM_LATE_RESP.COUNT = satIncr32 (u.get F.FLM_LATE_RESP.COUNT) % 2 ^ 32 ∧ t.mem = s.mem)

/-- O19. How a message of the device goes on and ends. A COMPLETE ACK ends the message of a work queue with SUCCESS, a NACK with its reason, MESSAGE_DEADLINE with TIMEOUT (counted, and outstanding for fences until LMAX_US after T0), each with its completion entry. A BUSY holds the message for the hold time, at least 1 µs; when it ends, a packet sent and not held is sent again through its RETX input (R321), as is a packet whose timer has passed. An answered probe restores a path after UP_PROBES of them; a path not UP is probed at its interval; an unanswered probe is counted, and DOWN_PROBES of them make a SUSPECT path DOWN. -/
def Obligations.FlumeMessagesSent : Prop :=
  (∀ (dg : Datagram) (m : Msg) (wq idx : Nat) (d : SendDesc) (h : FlumeHdr) (es : List FlumeExt) (payload : List Byte) (s u : State), Arrives s dg opAck u h es payload →
      h.resp = true → h.complete = true → u.msgById? h.srcPeer h.msgId = some m → OfQueue u m wq idx d →
      ∃ t ix ph, exec (.ackRx dg) s = .next t ∧ t.msg? m.key = none ∧
        Emitted s t (.completion ix ph ⟨d.user, m.len, idx, DescStatus.success.code, 0, d.dstPeer, wq, d.op, m.id⟩)) ∧
    (∀ (dg : Datagram) (m : Msg) (p : Nat) (f : Flow) (h : FlumeHdr) (es : List FlumeExt) (payload : List Byte) (s u : State), Arrives s dg opAck u h es payload → h.resp = true →
      u.msgById? h.srcPeer h.msgId = some m → m.use = .probe p → u.flow? m.dst = some f → p < f.paths.length → (f.path p).st ≠ .up → u.upProbes ≤ (f.path p).answered + 1 →
      u.fx.reports = [] → KeysFresh u →
      ∃ t g, exec (.ackRx dg) s = .next t ∧ t.msg? m.key = none ∧ t.flow? m.dst = some g ∧ g.path p = freshPath) ∧
    (∀ (dg : Datagram) (m : Msg) (wq idx : Nat) (d : SendDesc) (h : FlumeHdr) (es : List FlumeExt) (payload : List Byte) (s u : State), Arrives s dg opNack u h es payload →
      h.resp = true → u.msgById? h.srcPeer h.msgId = some m → OfQueue u m wq idx d →
      ∃ t ix ph, exec (.nackRx dg) s = .next t ∧ t.msg? m.key = none ∧
        Emitted s t (.completion ix ph ⟨d.user, m.moved, idx, DescStatus.nack.code, h.reason, d.dstPeer, wq, d.op, m.id⟩)) ∧
    (∀ (dg : Datagram) (m : Msg) (h : FlumeHdr) (es : List FlumeExt) (payload : List Byte) (s u : State), Arrives s dg opBusy u h es payload → h.resp = true →
      u.msgById? h.srcPeer h.msgId = some m →
      ∃ t, exec (.busyRx dg) s = .next t ∧ t.msg? m.key = some { m with st := .held, holdUntilUs := u.nowUs + max 1 (h.aux % 2 ^ 24) }) ∧
    (∀ (msg : Nat) (m : Msg) (p : PktTx) (s : State), s.msg? msg = some m → m.st = .held → m.holdUntilUs ≤ s.nowUs → m.pkts.filter (fun q => q.sent && !q.held) = [p] → MayRepeat s m p →
      s.fx.reports = [] →
      ∃ t, exec (.busyHoldExpiry msg) s = .next t ∧ (t.msg? msg).map (·.st) = some .active ∧ RetxNumbered t m.id p.index (p.attempt + 1)) ∧
    (∀ (msg pkt : Nat) (m : Msg) (p : PktTx) (f : Flow) (s : State), s.msg? msg = some m → m.pkt? pkt = some p → s.flow? m.dst = some f → m.st = .active → m.opcode ≠ opProbe →
      p.sent = true → p.held = false → s.timerDue f p = true → MayRepeat s m p → s.fx.reports = [] →
      ∃ t, exec (.retransmitTimerExpiry msg pkt) s = .next t ∧ RetxNumbered t m.id p.index (p.attempt + 1)) ∧
    (∀ (msg : Nat) (m : Msg) (wq idx : Nat) (d : SendDesc) (s : State), s.msg? msg = some m → m.st ≠ .queued → m.opcode ≠ opProbe → s.txDeadline m ≤ s.nowUs → m.faulted = false →
      OfQueue s m wq idx d →
      ∃ t ix ph, exec (.messageDeadline msg) s = .next t ∧ t.msg? msg = none ∧ ⟨m.id, m.dst, m.t0Us + s.lmaxUs⟩ ∈ t.flm.ghosts ∧
        t.get F.FLM_MSG_FAIL.COUNT = satIncr32 (s.get F.FLM_MSG_FAIL.COUNT) % 2 ^ 32 ∧
        Emitted s t (.completion ix ph ⟨d.user, m.moved, idx, DescStatus.timeout.code, 0, d.dstPeer, wq, d.op, m.id⟩)) ∧
    (∀ (peer path : Nat) (f : Flow) (s : State), CanSend s peer → s.flow? peer = some f → path < f.paths.length → (f.path path).st ≠ .up →
      (f.path path).lastProbeUs + (if (f.path path).st = .suspect then s.probeSuspectUs else s.probeDownUs) ≤ s.nowUs → s.flm.msgCtr < 2 ^ 48 → peer < 2 ^ 32 →
      ∃ t, exec (.probeInterval peer path) s = .next t ∧ SendsFlume s t opProbe peer s.flm.msgCtr ∧ t.flm.msgCtr = (s.flm.msgCtr + 1) % 2 ^ 48) ∧
    (∀ (msg p : Nat) (m : Msg) (k : PktTx) (f : Flow) (s : State), s.msg? msg = some m → m.use = .probe p → m.pkt? 0 = some k → s.flow? m.dst = some f → p < f.paths.length →
      s.timerDue f { k with attempt := 0 } = true → KeysFresh s →
      ∃ t g, exec (.probeUnanswered msg) s = .next t ∧ t.msg? msg = none ∧ t.flow? m.dst = some g ∧ (g.path p).unanswered = (f.path p).unanswered + 1 ∧
        ((f.path p).st = .suspect → s.downProbes ≤ (f.path p).unanswered + 1 → (g.path p).st = .down))

/-- O20. Committing windows, opening, closing and ringing work queues, and the apertures. FLM_WIN_COMMIT of the next generation, in order, is accepted: BUSY is 1 until WINDOW_COMMIT_APPLY at a later step tick makes the shadow half live, with the new generation and RESULT 1. A request while BUSY is 1 gets RESULT 2. WQ_OPEN opens a closed queue with ring sizes in range, WQ_CLOSE closes it, WQ_RESET leaves it closed with indices 0, and the doorbells move the tails, that of the receive ring with the buffers posted. A chain counter takes VALUE and FAULT, and no other counter changes. An address entry takes the address, with the family of its place. -/
def Obligations.FlumeWindowsAndQueues : Prop :=
  (∀ (src : Src) (index gen : Nat) (h : WinHalf) (s : State), s.gate src (F.FLM_WIN_COMMIT.GEN.at 0 0) = .pass → ActsAtOnce s src → s.flag F.FLM_WIN_RESULT.BUSY = false →
      gen = ((s.win index).gen + 1) % 256 → (s.win index).draining = false → ((s.win index).lastCommitUs = 0 ∨ (s.win index).lastCommitUs + (s.lmaxUs + 254) / 255 ≤ s.nowUs) →
      h.len ≤ 2 ^ 40 → h.rights < 8 →
      ∃ t, exec (.flmWinCommit src index gen false h) s = .next t ∧ t.flag F.FLM_WIN_RESULT.BUSY = true ∧ t.flm.winPending = some (index, gen, s.nowUs) ∧
        t.win index = { s.win index with shadow := h }) ∧
    (∀ (src : Src) (index gen : Nat) (staged : Bool) (h : WinHalf) (s : State), s.gate src (F.FLM_WIN_COMMIT.GEN.at 0 0) = .pass → ActsAtOnce s src →
      s.flag F.FLM_WIN_RESULT.BUSY = true →
      ∃ t, exec (.flmWinCommit src index gen staged h) s = .next t ∧ t.get F.FLM_WIN_RESULT.RESULT = 2 ∧ t.flm = s.flm) ∧
    (∀ (index gen a : Nat) (s : State), s.flm.winPending = some (index, gen, a) → a < s.nowUs →
      ∃ t, exec .windowCommitApply s = .next t ∧ (t.win index).live = (s.win index).shadow ∧ (t.win index).gen = gen ∧ (t.win index).oldGen = (s.win index).gen ∧
        t.flm.winPending = none ∧ t.flag F.FLM_WIN_RESULT.BUSY = false ∧ t.get F.FLM_WIN_RESULT.RESULT = 1) ∧
    (∀ (src : Src) (wq : Nat) (c : WqCtx) (s : State), s.gate src (F.FLM_WQ_CTL.WQ.at 0 0) = .pass → ActsAtOnce s src → (s.wq wq).st = .closed →
      4 ≤ c.sqLog2 → c.sqLog2 ≤ 12 → 4 ≤ c.cqLog2 → c.cqLog2 ≤ 14 →
      ∃ t, exec (.wqOpen src wq c) s = .next t ∧ t.wq wq = { s.wq wq with st := .open_, ctx := c }) ∧
    (∀ (src : Src) (wq : Nat) (s : State), s.gate src (F.FLM_WQ_CTL.WQ.at 0 0) = .pass → ActsAtOnce s src →
      (∃ t, exec (.wqClose src wq) s = .next t ∧ (t.wq wq).st = .closed ∧ (t.wq wq).returned = [] ∧ (t.wq wq).sqHead = (s.wq wq).sqHead ∧
        ∀ x ∈ t.flm.slots, x.hdr.opcode = opSend → x.wq = wq → x.doomed = true ∧ x.buf = none) ∧
      (∃ t, exec (.wqReset src wq) s = .next t ∧ t.wq wq = wqClosed)) ∧
    (∀ (src : Src) (wq tail cqHead : Nat) (s : State), s.gate src (F.FLM_WQ_DOORBELL.WQ.at 0 0) = .pass → ActsAtOnce s src →
      ∃ t, exec (.wqDoorbell src wq tail cqHead) s = .next t ∧ (t.wq wq).sqTail = tail % 65536 ∧ (t.wq wq).ctx.cqHead = cqHead ∧ (t.wq wq).sqHead = (s.wq wq).sqHead) ∧
    (∀ (src : Src) (wq tail cqHead : Nat) (bufs : List RxBuf) (s : State), s.gate src (F.FLM_RQ_DOORBELL.WQ.at 0 0) = .pass → ActsAtOnce s src →
      ∃ t, exec (.rqDoorbell src wq tail cqHead bufs) s = .next t ∧ (t.wq wq).rqTail = tail % 65536 ∧
        (t.wq wq).posted = (s.wq wq).posted ++ bufs.take ((tail + 65536 - (s.wq wq).rqTail) % 65536)) ∧
    (∀ (src : Src) (i v : Nat) (fault : Bool) (s : State), s.gate src (0x1000000 + 8 * (i % 65536)) = .pass → ActsAtOnce s src →
      ∃ t, exec (.chainCounterWrite src i v fault) s = .next t ∧ t.chain (i % 65536) = v % 2 ^ 32 + (if fault then chainFaultBit else 0) ∧
        ∀ j, j ≠ i % 65536 → t.chain j = s.chain j) ∧
    (∀ (src : Src) (e : Nat) (a : IpAddr) (s : State), s.gate src (0x1080000 + 32 * (e % 512)) = .pass → ActsAtOnce s src →
      ∃ t, exec (.addressTableWrite src e (some a)) s = .next t ∧ sparseGet none (e % 512) t.fx.addrTable = some { a with v6 := decide (4 ≤ e % 512 % 8) })

/-- O21. Descriptors, what they wait for, and epoch transitions. At the head of a queue that may start: NOP completes at once; WAIT takes its count from its chain counter, or waits where the counter holds less, and WAIT_SATISFIED ends that wait; SEND and WRITE give a message to the sender, as does READ once a read tag is free, READ_TAG_FREE ending the wait for one and FENCE_LIMIT_RELEASE that for the fence limit. FLOW_CACHE_ADMIT brings a waiting destination into the cache where there is room. WQ_FAULT_RESOLVED gives the paused message the bytes that are now translated. EPOCH_TRANSITION puts the committed epochs in force. -/
def Obligations.FlumeDescriptors : Prop :=
  (∀ (wq : Nat) (d : SendDesc) (rest : List SendDesc) (s : State), Starts s wq d → d.op = descNopOp → d.signal = true →
      ∃ t ix ph, exec (.descNop wq d rest) s = .next t ∧ (t.wq wq).sqHead = ((s.wq wq).sqHead + 1) % 65536 ∧
        Emitted s t (.completion ix ph ⟨d.user, 0, (s.wq wq).headIndex, DescStatus.success.code, 0, d.dstPeer, wq, d.op, 0⟩)) ∧
    (∀ (wq : Nat) (d : SendDesc) (rest : List SendDesc) (s : State), Starts s wq d → d.op = descWaitOp → s.chainFaulted d.counter = false → d.inc = false →
      (d.count ≤ s.chain d.counter → ∃ t, exec (.descWait wq d rest) s = .next t ∧ t.chain d.counter = s.chain d.counter - d.count ∧
        (t.wq wq).sqHead = ((s.wq wq).sqHead + 1) % 65536) ∧
      (s.chain d.counter < d.count → ∃ t, exec (.descWait wq d rest) s = .next t ∧ t.chain d.counter = s.chain d.counter ∧
        t.wq wq = { s.wq wq with waiting := some (d, .chain) })) ∧
    (∀ (wq : Nat) (d : SendDesc) (rest : List SendDesc) (s : State), (s.wq wq).waiting = some (d, .chain) → (s.wq wq).st = .open_ → s.chainFaulted d.counter = false → d.inc = false →
      d.count ≤ s.chain d.counter →
      ∃ t, exec (.waitSatisfied wq rest) s = .next t ∧ t.chain d.counter = s.chain d.counter - d.count ∧ (t.wq wq).waiting = none ∧
        (t.wq wq).sqHead = ((s.wq wq).sqHead + 1) % 65536) ∧
    (∀ (wq : Nat) (d : SendDesc) (ip : IpAddr) (sp : List (Nat × Nat)) (rest : List SendDesc) (s : State), Starts s wq d → d.fence = false → s.hasPeer = true →
      s.currentEpoch.isSome = true →
      (d.op = descSendOp → ∃ t, exec (.descSend wq d ip sp rest) s = .next t ∧ DescStarted s t wq d) ∧
      (d.op = descWriteOp → ∃ t, exec (.descWrite wq d ip sp rest) s = .next t ∧ DescStarted s t wq d) ∧
      (d.op = descReadOp → s.freeTag.isSome = true → ∃ t, exec (.descRead wq d ip rest) s = .next t ∧ DescStarted s t wq d) ∧
      (d.op = descReadOp → s.freeTag = none → ∃ t, exec (.descRead wq d ip rest) s = .next t ∧ t.wq wq = { s.wq wq with waiting := some (d, .tag) })) ∧
    (∀ (wq : Nat) (d : SendDesc) (ip : IpAddr) (sp : List (Nat × Nat)) (s : State), (s.wq wq).waiting = some (d, .fence) → (s.wq wq).st = .open_ → KeysFresh s →
      (s.fenceIds d.dstPeer).length ≤ 32 → d.op ≠ descReadOp → ∃ t, exec (.fenceLimitRelease wq ip sp) s = .next t ∧ DescStarted s t wq d) ∧
    (∀ (wq : Nat) (d : SendDesc) (ip : IpAddr) (s : State), (s.wq wq).waiting = some (d, .tag) → (s.wq wq).st = .open_ → KeysFresh s → d.op = descReadOp → d.fence = false →
      s.freeTag.isSome = true → ∃ t, exec (.readTagFree wq ip) s = .next t ∧ DescStarted s t wq d) ∧
    (∀ (peer p : Nat) (ip : IpAddr) (s : State), s.fx.cacheWait.find? (fun c => c.1 == peer) = some (p, ip) → s.fx.flows.length < flowLimit →
      ∃ t, exec (.flowCacheAdmit peer) s = .next t ∧ (t.flow? peer).isSome = true ∧ ∀ c ∈ t.fx.cacheWait, c.1 ≠ peer) ∧
    (∀ (wq key idx : Nat) (m : Msg) (ss sp : List (Nat × Nat)) (s : State), (s.wq wq).st = .paused → (s.wq wq).pausedMsg = some key → s.msg? key = some m → m.use = .desc wq idx →
      m.opcode ≠ opRead → m.src = .segs ss →
      ∃ t, exec (.wqFaultResolved wq sp) s = .next t ∧ (t.msg? key).map (·.src) = some (.segs (ss ++ sp))) ∧
    (∀ (next : List EpochKey) (s : State), s.flm.epochNext = some next →
      ∃ t, exec .epochTransition s = .next t ∧ t.flm.epochs = next ∧ t.flm.epochNext = none ∧ bitOf (t.get F.EVT_STATUS.STATUS 10) 5 = true)

/-- O22. Connect, properties, authentication, Disconnect and NVMe/TCP connections. A Connect that meets every condition of R158 creates a queue of the QID and size asked for and is answered with its controller and AUTHREQ; a refused one leaves the queues alone and is counted. Property Get answers CC, Property Set of CC sets it and CSTS; Disconnect of an I/O queue is answered and removes it. Authentication goes on by messages that verify and fails, counted, by one that does not (R196). A runt capsule is counted and answered by nothing (R161). A SYN opens a connection with a SYN-ACK, or is refused with a RST at the limit (R165); an ICReq in range makes it ready; a PDU of an unknown type ends it. -/
def Obligations.NvmeFabricsCommands : Prop :=
  (∀ (frm : ConnFrom) (cap : Capsule) (p : Nat) (disc : Bool) (s : State), s.consumes = true → s.pwr.hostBusy = false → cap.opcode = fabricsOp → cap.fctype = 1 →
      connectFrom s frm = some (p, disc) →
      ((atStep s).hostCommand.connectFault frm disc cap (connectData cap.data) = none → s.role = roleAlone → s.wsw.stopped = false →
        ∃ t q, exec (.connect frm cap) s = .next t ∧ q ∈ t.nvm.queues ∧ q.qid = cap.cdw10 / 65536 ∧ q.sqSize = cap.cdw11 % 65536 ∧ q.sqHead = 0 ∧
          Answered s t q cap.cid stOk (q.ctrl + (if q.authed then 0 else 2 ^ 17))) ∧
      (∀ e, (atStep s).hostCommand.connectFault frm disc cap (connectData cap.data) = some e →
        ∃ t, exec (.connect frm cap) s = .next t ∧ t.nvm.queues = s.nvm.queues ∧ t.nvm.ctrls.length = s.nvm.ctrls.length ∧
          t.get F.NVS_CONNECT_REFUSED.COUNT = satIncr32 (s.get F.NVS_CONNECT_REFUSED.COUNT) % 2 ^ 32)) ∧
    (∀ (key : Nat) (cap : Capsule) (s u : State) (q : NvmQueue) (x : NvmCtrl) (c : Cmd), Taken s key cap (.fabrics 0x04) u q x c → CanAnswer s q → cap.cdw11 = 0x14 → cap.cdw10 % 8 = 0 →
      ∃ t, exec (.propertyGet key cap) s = .next t ∧ Answered s t q cap.cid stOk x.cc) ∧
    (∀ (key : Nat) (cap : Capsule) (s u : State) (q : NvmQueue) (x : NvmCtrl) (c : Cmd), Taken s key cap (.fabrics 0x00) u q x c → CanAnswer s q → cap.cdw11 = 0x14 → cap.cdw10 % 8 = 0 →
      bitOf cap.cdw12 0 = true → cap.cdw12 / 2 ^ 14 % 4 = 0 →
      ∃ t y, exec (.propertySet key cap) s = .next t ∧ Answered s t q cap.cid stOk 0 ∧ t.ctrl? x.id = some y ∧ y.cc = cap.cdw12 ∧ y.csts = 1) ∧
    (∀ (key : Nat) (cap : Capsule) (s u : State) (q : NvmQueue) (x : NvmCtrl) (c : Cmd), Taken s key cap (.fabrics 0x08) u q x c → CanAnswer s q → q.qid ≠ 0 →
      ∃ t, exec (.disconnect key cap) s = .next t ∧ Answered s t q cap.cid stOk 0 ∧ t.nq? key = none) ∧
    (∀ (key : Nat) (cap : Capsule) (m : AuthMsg) (s u : State) (q : NvmQueue) (x : NvmCtrl) (c : Cmd), Taken s key cap (.fabrics 0x05) u q x c →
      (∀ n, m.ok = true → nextAuth q.authStep m.kind = some n →
        ∃ t y, exec (.authSend key cap m) s = .next t ∧ t.nq? key = some y ∧ y.authStep = n ∧ y.authed = (q.authed || n == 5)) ∧
      (m.ok = false → ∃ t y, exec (.authSend key cap m) s = .next t ∧ t.nq? key = some y ∧ y.authed = false ∧ y.authFailed = true ∧
        t.get F.NVS_AUTH_FAIL.COUNT = satIncr32 (s.get F.NVS_AUTH_FAIL.COUNT) % 2 ^ 32)) ∧
    (∀ (key : Nat) (cap : Capsule) (m : AuthMsg) (s u : State) (q : NvmQueue) (x : NvmCtrl) (c : Cmd), Taken s key cap (.fabrics 0x06) u q x c → CanAnswer s q → q.authFailed = false →
      (q.authStep = 1 → ∃ t y, exec (.authReceive key cap m) s = .next t ∧ DataSent s t q cap (m.bytes.take cap.sglLen) ∧ t.nq? key = some y ∧ y.authStep = 2) ∧
      (q.authStep = 3 → s.subFlag x.sub 3 = false → ∃ t y, exec (.authReceive key cap m) s = .next t ∧ t.nq? key = some y ∧ y.authStep = 5 ∧ y.authed = true)) ∧
    (∀ (key : Nat) (q : NvmQueue) (s : State), s.nq? key = some q →
      ∃ t, exec (.runtCapsule key) s = .next t ∧ t.get F.NVS_RUNT_CAPSULE.COUNT = satIncr32 (s.get F.NVS_RUNT_CAPSULE.COUNT) % 2 ^ 32 ∧ t.nvm = s.nvm ∧
        bitOf (t.get F.EVT_STATUS.STATUS 12) 11 = true) ∧
    (∀ (conn : TcpConn) (s : State), s.role = roleAlone → s.wsw.stopped = false → s.pwr.hostBusy = false → (∀ c ∈ s.nvm.tcp, c.id ≠ conn.id) →
      (s.nvm.tcp.length < tcpLimit → ∃ t cls n, exec (.tcpSyn conn) s = .next t ∧ (∃ c ∈ t.nvm.tcp, c.id = conn.id ∧ c.ready = false) ∧
        Emitted s t (.tcp conn.lport cls n conn.id .synAck)) ∧
      (tcpLimit ≤ s.nvm.tcp.length → ∃ t cls n, exec (.tcpSyn conn) s = .next t ∧ t.nvm.tcp = s.nvm.tcp ∧ Emitted s t (.tcp conn.lport cls n conn.id .rst) ∧
        t.get F.NVS_TCP_REFUSED.COUNT = satIncr32 (s.get F.NVS_TCP_REFUSED.COUNT) % 2 ^ 32)) ∧
    (∀ (conn : Nat) (c : TcpConn) (s : State), s.nvm.tcp.find? (fun t => t.id == conn) = some c → s.consumes = true → s.pwr.hostBusy = false → s.nq? (65536 + conn) = none →
      (∀ (hpda r2t : Nat) (hd dd : Bool), c.ready = false → hpda ≤ 31 → ∃ t y, exec (.tcpPduRx conn (.icReq hpda hd dd r2t) true true) s = .next t ∧
        t.nvm.tcp.find? (fun t => t.id == conn) = some y ∧ y.ready = true ∧ y.hdgst = hd ∧ y.ddgst = dd ∧ y.maxr2t = min 16 (r2t + 1)) ∧
      (∃ t, exec (.tcpPduRx conn .unknown true true) s = .next t ∧ t.nvm.tcp.find? (fun t => t.id == conn) = none))

/-- O23. The admin commands, and the keep alive timeout. Identify Controller sends 4,096 bytes with the values of R170 at their places; Get Log Page of log 0xC1 sends the profile in force in byte 0. An Abort ends a command for which no drive command has been issued, and a held Asynchronous Event Request, and answers with bit 0 of Dword 0 clear; with no such command bit 0 is set. Set Features keeps a Dword that Get Features answers. An Asynchronous Event Request is held while no event waits. Keep Alive restarts the timer, and KATO_EXPIRY past the timeout deletes the controller and raises KATO_EXPIRED. -/
def Obligations.NvmeAdminCommands : Prop :=
  (∀ (key : Nat) (cap : Capsule) (s u : State) (q : NvmQueue) (x : NvmCtrl) (c : Cmd), Taken s key cap (.admin 0x06) u q x c → CanAnswer s q → x.discovery = false →
      cap.cdw10 % 256 = 1 → sglFits q cap false = true → cap.sglLen = 4096 → (s.fwSlot s.fwRunsB).version.length ≤ 8 →
      ∃ t p, exec (.identify key cap) s = .next t ∧ DataSent s t q cap p ∧ p.length = 4096 ∧ leAt p 0 2 = 0x1F7E ∧ leAt p 77 1 = 9 ∧ leAt p 78 2 = x.id % 65536 ∧
        leAt p 80 4 = 0x20100 ∧ leAt p 520 2 = 0x00AD ∧ leAt p 1803 1 = 1) ∧
    (∀ (key : Nat) (cap : Capsule) (s u : State) (q : NvmQueue) (x : NvmCtrl) (c : Cmd), Taken s key cap (.admin 0x02) u q x c → CanAnswer s q → x.discovery = false →
      cap.cdw10 % 256 = 0xC1 → cap.logOff = 0 → cap.logLen = 64 → sglFits q cap false = true → cap.sglLen = 64 →
      ∃ t p, exec (.getLogPage key cap) s = .next t ∧ DataSent s t q cap p ∧ p.length = 64 ∧ leAt p 0 1 = s.profile % 256) ∧
    (∀ (key : Nat) (cap : Capsule) (s u : State) (q qq : NvmQueue) (x : NvmCtrl) (c y : Cmd), Taken s key cap (.admin 0x08) u q x c → CanAnswer s q →
      (s.nvm.cmds = [y] → y.key ≤ s.nvm.cmdCtr → y.st = .reading → y.issued = false → y.cap.cid = cap.cdw10 / 65536 → u.nq? y.queue = some qq → CanAnswer s qq →
        u.nvm.queues.find? (fun k => k.ctrl == c.ctrl && k.qid == cap.cdw10 % 65536) = some qq → qq.key = y.queue →
        ∃ t, exec (.abort key cap) s = .next t ∧ t.nvm.cmds = [] ∧ Answered s t qq y.cap.cid stAbortReq 0 ∧ Answered s t q cap.cid stOk 0) ∧
      (s.nvm.cmds = [] → cap.cdw10 % 65536 = 0 → cap.cdw10 / 65536 ∈ x.aer →
        ∃ t, exec (.abort key cap) s = .next t ∧ Answered s t q (cap.cdw10 / 65536) stAbortReq 0 ∧ Answered s t q cap.cid stOk 0) ∧
      (s.nvm.cmds = [] → cap.cdw10 / 65536 ∉ x.aer → ∃ t, exec (.abort key cap) s = .next t ∧ Answered s t q cap.cid stOk 1)) ∧
    (∀ (key : Nat) (cap : Capsule) (s u : State) (q : NvmQueue) (x : NvmCtrl) (c : Cmd), Taken s key cap (.admin 0x09) u q x c → CanAnswer s q → cap.cdw10 % 256 ∈ plainFeatures →
      ∃ t y, exec (.setFeatures key cap) s = .next t ∧ Answered s t q cap.cid stOk 0 ∧ t.ctrl? x.id = some y ∧ y.feature (cap.cdw10 % 256) = cap.cdw11 % 2 ^ 32) ∧
    (∀ (key : Nat) (cap : Capsule) (s u : State) (q : NvmQueue) (x : NvmCtrl) (c : Cmd), Taken s key cap (.admin 0x0A) u q x c → CanAnswer s q → cap.cdw10 % 256 ∈ plainFeatures →
      ∃ t, exec (.getFeatures key cap) s = .next t ∧ Answered s t q cap.cid stOk (x.feature (cap.cdw10 % 256))) ∧
    (∀ (key : Nat) (cap : Capsule) (s u : State) (q : NvmQueue) (x : NvmCtrl) (c : Cmd), Taken s key cap (.admin 0x0C) u q x c → x.aer.length < 4 → x.events = [] →
      ∃ t y, exec (.asyncEventRequest key cap) s = .next t ∧ t.ctrl? x.id = some y ∧ y.aer = x.aer ++ [cap.cid]) ∧
    (∀ (key : Nat) (cap : Capsule) (s u : State) (q : NvmQueue) (x : NvmCtrl) (c : Cmd), Taken s key cap (.admin 0x18) u q x c → CanAnswer s q →
      ∃ t y, exec (.keepAlive key cap) s = .next t ∧ Answered s t q cap.cid stOk 0 ∧ t.ctrl? x.id = some y ∧ y.aliveUs = s.nowUs) ∧
    (∀ (id : Nat) (x : NvmCtrl) (s : State), s.ctrl? id = some x → x.katoMs ≠ 0 → x.aliveUs + 1000 * x.katoMs ≤ s.nowUs →
      ∃ t, exec (.katoExpiry id) s = .next t ∧ t.ctrl? id = none ∧ (∀ q ∈ t.nvm.queues, q.ctrl ≠ id) ∧ bitOf (t.get F.EVT_STATUS.STATUS 12) 2 = true)

/-- O24. Flush, Read, Verify, Compare, Write, Write Zeroes and Dataset Management. In a namespace of format 0, for a command that meets the conditions of its row: Flush completes at once. A Read of blocks that are nowhere sends zeroes, one of a staged block its staged data, and one that meets a lost block ends with Unrecovered Read Error, counted. Verify of blocks that are nowhere ends with success; Compare of them ends with success exactly when the host's data are zeroes, else with Compare Failure. A Write whose data are in the capsule, of allocated blocks below the dirty limit, holds its blocks for its commit point, and so does Write Zeroes; Dataset Management without AD ends with success. -/
def Obligations.NvmeDataCommands : Prop :=
  (∀ (key : Nat) (cap : Capsule) (s u : State) (q : NvmQueue) (x : NvmCtrl) (c : Cmd), Taken s key cap (.io 0x00) u q x c → CanAnswer s q → (s.ns? x.sub cap.nsid).isSome = true →
      ∃ t, exec (.flush key cap) s = .next t ∧ Answered s t q cap.cid stOk 0) ∧
    (∀ (key : Nat) (cap : Capsule) (n : NsEnt) (s u : State) (q : NvmQueue) (x : NvmCtrl) (c : Cmd), Taken s key cap (.io 0x02) u q x c → CanAnswer s q →
      u.ioGate c .reads true = .ok n → n.lbaf = 0 → u.sglGate q c (c.hostLen n) false = none →
      ((∀ b, b < c.nlb → u.locate c.sub n (c.slba + b) = .none_) → ∃ t, exec (.nvmeRead key cap) s = .next t ∧ DataSent s t q cap (zeroBytes (4096 * c.nlb))) ∧
      (∀ v, c.nlb = 1 → u.locate c.sub n c.slba = .staged v → v.poisoned = false → ∃ t, exec (.nvmeRead key cap) s = .next t ∧ DataSent s t q cap v.data) ∧
      ((∃ b, b < c.nlb ∧ u.locate c.sub n (c.slba + b) = .lost) → ∃ t, exec (.nvmeRead key cap) s = .next t ∧ Answered s t q cap.cid stUnrecovered 0 ∧
        t.get F.NVS_UNRECOVERED.COUNT = satIncr32 (s.get F.NVS_UNRECOVERED.COUNT) % 2 ^ 32)) ∧
    (∀ (key : Nat) (cap : Capsule) (n : NsEnt) (s u : State) (q : NvmQueue) (x : NvmCtrl) (c : Cmd), Taken s key cap (.io 0x0C) u q x c → CanAnswer s q →
      (u.handOver c).ioGate { c with engines := true } .reads true = .ok n → c.nlb ≤ 512 → (∀ b, b < c.nlb → (u.handOver c).locate c.sub n (c.slba + b) = .none_) →
      ∃ t, exec (.verify key cap) s = .next t ∧ Answered s t q cap.cid stOk 0) ∧
    (∀ (key : Nat) (cap : Capsule) (n : NsEnt) (s u : State) (q : NvmQueue) (x : NvmCtrl) (c : Cmd), Taken s key cap (.io 0x05) u q x c → CanAnswer s q →
      (u.handOver c).ioGate { c with engines := true } .reads true = .ok n → n.lbaf = 0 → (u.handOver c).sglGate q c (c.hostLen n) true = none → cap.inCapsule = true →
      (∀ b, b < c.nlb → (u.handOver c).locate c.sub n (c.slba + b) = .none_) →
      ∃ t, exec (.compare key cap) s = .next t ∧
        Answered s t q cap.cid (if sliceOf cap.data cap.sglAddr cap.sglLen = zeroBytes (4096 * c.nlb) then stOk else stCompare) 0) ∧
    (∀ (key : Nat) (cap : Capsule) (n : NsEnt) (s u : State) (q : NvmQueue) (x : NvmCtrl) (c : Cmd), Taken s key cap (.io 0x01) u q x c →
      u.ioGate c .writes true = .ok n → n.lbaf = 0 → u.sglGate q c (c.hostLen n) true = none → cap.inCapsule = true → u.unallocated (c.under n) n = false → u.mustHold c = false →
      ∃ t y, exec (.nvmeWrite key cap) s = .next t ∧ t.cmd? c.key = some y ∧ y.st = .staged ∧
        y.blocks = (List.range c.nlb).map (fun b => (sliceOf (sliceOf cap.data cap.sglAddr cap.sglLen) (4096 * b) 4096, 0))) ∧
    (∀ (key : Nat) (cap : Capsule) (n : NsEnt) (s u : State) (q : NvmQueue) (x : NvmCtrl) (c : Cmd), Taken s key cap (.io 0x08) u q x c →
      (u.handOver c).ioGate { c with engines := true } .writes true = .ok n → bitOf cap.cdw12 25 = false → (u.handOver c).unallocated (c.under n) n = false →
      (u.handOver c).mustHold c = false →
      ∃ t y, exec (.writeZeroes key cap) s = .next t ∧ t.cmd? c.key = some y ∧ y.st = .staged ∧ y.blocks = List.replicate c.nlb (zeroBlock, 0)) ∧
    (∀ (key : Nat) (cap : Capsule) (n : NsEnt) (s u : State) (q : NvmQueue) (x : NvmCtrl) (c : Cmd), Taken s key cap (.io 0x09) u q x c → CanAnswer s q →
      (u.handOver c).ioGate { c with engines := true } .writes false = .ok n → (u.handOver c).sglGate q c (16 * (cap.cdw10 % 256 + 1)) true = none → cap.inCapsule = true →
      bitOf cap.cdw11 2 = false → ∃ t, exec (.datasetManagement key cap) s = .next t ∧ Answered s t q cap.cid stOk 0)

/-- O25. The reservation commands. For a host with a host identifier, data in the capsule: Reservation Register of a host that is no registrant, of at most 64, registers it with its key. Reservation Acquire by a registrant where none is held gives it the reservation of the type asked for. Reservation Release by the holder, of its type, gives it up and leaves the registrants. Each is answered with success. Reservation Report sends the state in the length asked for. -/
def Obligations.NvmeReservations : Prop :=
  (∀ (key : Nat) (cap : Capsule) (s u : State) (q : NvmQueue) (x : NvmCtrl) (c : Cmd), CanAnswer s q → (s.ns? x.sub cap.nsid).isSome = true → x.hostId ≠ 0 → cap.inCapsule = true →
      let r := s.resv x.sub cap.nsid
      let d := sliceOf cap.data cap.sglAddr cap.sglLen
      (Taken s key cap (.io 0x0D) u q x c → u.sglGate q c 16 true = none → cap.cdw10 % 8 = 0 → r.key? x.hostId = none → r.registrants.length < 64 →
        ∃ t, exec (.reservationRegister key cap) s = .next t ∧ Answered s t q cap.cid stOk 0 ∧ (t.resv x.sub cap.nsid).key? x.hostId = some (leAt d 8 8) ∧
          (t.resv x.sub cap.nsid).rtype = r.rtype) ∧
      (Taken s key cap (.io 0x11) u q x c → u.sglGate q c 16 true = none → cap.cdw10 % 16 = 0 → r.key? x.hostId = some (leAt d 0 8) → r.held = false →
        1 ≤ cap.cdw10 / 256 % 256 → cap.cdw10 / 256 % 256 ≤ 6 →
        ∃ t, exec (.reservationAcquire key cap) s = .next t ∧ Answered s t q cap.cid stOk 0 ∧ (t.resv x.sub cap.nsid).rtype = cap.cdw10 / 256 % 256 ∧
          (t.resv x.sub cap.nsid).isHolder x.hostId = true) ∧
      (Taken s key cap (.io 0x15) u q x c → u.sglGate q c 8 true = none → cap.cdw10 % 16 = 0 → r.key? x.hostId = some (leAt d 0 8) → r.held = true → r.isHolder x.hostId = true →
        r.rtype = cap.cdw10 / 256 % 256 →
        ∃ t, exec (.reservationRelease key cap) s = .next t ∧ Answered s t q cap.cid stOk 0 ∧ (t.resv x.sub cap.nsid).held = false ∧
          (t.resv x.sub cap.nsid).registrants = r.registrants)) ∧
    (∀ (key : Nat) (cap : Capsule) (s u : State) (q : NvmQueue) (x : NvmCtrl) (c : Cmd), Taken s key cap (.io 0x0E) u q x c → CanAnswer s q → (s.ns? x.sub cap.nsid).isSome = true →
      x.hostId ≠ 0 → bitOf cap.cdw11 0 = true → u.sglGate q c (4 * (cap.cdw10 + 1)) false = none →
      ∃ t, exec (.reservationReport key cap) s = .next t ∧ DataSent s t q cap (padTo (4 * (cap.cdw10 + 1)) (s.resv x.sub cap.nsid).report))

/-- O26. The commit point of a write, held writes and the command limit. At its commit point a write's block enters staging at one step number, and in Solo with no write-through the host is answered (R215, R216). A held write whose hold has ended goes on to its commit point; held for 1 ms it raises WRITE_HELD, once; held for 2 s it ends with Namespace Not Ready (R181). A command that has not completed in its time ends with Command Interrupted, counted (R186). -/
def Obligations.NvmeCommandTimes : Prop :=
  (∀ (k tag : Nat) (d : List Byte) (c : Cmd) (n : NsEnt) (q : NvmQueue) (s : State), s.cmd? k = some c → s.ns? c.sub c.cap.nsid = some n → c.st = .staged → c.blocks = [(d, tag)] → c.nlb = 1 →
      s.nq? c.queue = some q → CanAnswer s q → s.role = roleAlone → s.writeThrough = false →
      ∃ t v, exec (.writeCommitPoint k) s = .next t ∧ t.staged? c.sub c.cap.nsid c.slba = some v ∧ v.data = d ∧ v.hostTag = tag ∧ v.commitStep = s.dev.stepNo ∧
        Answered s t q c.cap.cid stOk 0 ∧ t.cmd? k = none) ∧
    (∀ (k : Nat) (c : Cmd) (s : State), s.cmd? k = some c → c.st = .held → s.mustHold c = false →
      ∃ t, exec (.heldWriteResume k) s = .next t ∧ t.cmd? k = some { c with st := .staged }) ∧
    (∀ (k : Nat) (c : Cmd) (s : State), s.cmd? k = some c → c.st = .held → c.alerted = false → c.heldUs + 1000 ≤ s.nowUs →
      ∃ t, exec (.writeHeldAlert k) s = .next t ∧ t.cmd? k = some { c with alerted := true } ∧ bitOf (t.get F.EVT_STATUS.STATUS 12) 8 = true) ∧
    (∀ (k : Nat) (c : Cmd) (q : NvmQueue) (s : State), s.cmd? k = some c → c.st = .held → c.heldUs + 2000000 ≤ s.nowUs → s.nq? c.queue = some q → CanAnswer s q →
      ∃ t, exec (.writeHeldTimeout k) s = .next t ∧ t.cmd? k = none ∧ Answered s t q c.cap.cid stNotReady 0 ∧ t.cht.staging = s.cht.staging) ∧
    (∀ (k : Nat) (c : Cmd) (q : NvmQueue) (s : State), s.cmd? k = some c → c.acceptedUs + 1000 * s.cfg 0x0070 c.sub 16 4 10000 ≤ s.nowUs → s.nq? c.queue = some q → CanAnswer s q →
      ∃ t, exec (.cmdLimitExpiry k) s = .next t ∧ t.cmd? k = none ∧ Answered s t q c.cap.cid stInterrupted 0 ∧
        t.get F.NVS_CMD_LIMIT.COUNT = satIncr32 (s.get F.NVS_CMD_LIMIT.COUNT) % 2 ^ 32)

/-- O27. The map cache, tagged apertures, waiting requests and destage. CHT_MAP_INVAL puts the new extent entry in force and remembers the commands parsed under the old one; MAP_INVAL_DONE follows when none is left. A write to an aperture address whose tag is outstanding under its generation lands at its place in the tag's buffer and nowhere else; any other is dropped and counted, and no byte changes; a read is answered with the buffers' bytes or with Unsupported Request. A tag held back for 1 s may then be allocated again. A waiting request gets its buffers and tag once they are free. DESTAGE_START of a stripe whose data chunks are all dirty opens a Tally entry of KIND 1. CHUTE_ADMIT takes the capsule that has waited longest: a waiting Flush is answered. -/
def Obligations.ChuteAndYard : Prop :=
  (∀ (src : Src) (m e : Nat) (x : ExtEnt) (s : State), s.gate src (F.CHT_MAP_INVAL.MAP.at 0 0) = .pass → ActsAtOnce s src →
      ∃ t, exec (.mapInval src m e x) s = .next t ∧ t.extent m e = x ∧ t.get F.CHT_MAP_STATUS.IDLE = 0 ∧
        ∀ c ∈ s.nvm.cmds, (m, e) ∈ c.extents → c.key ∈ t.cht.superseded) ∧
    (∀ s : State, s.cht.superseded = [] → s.get F.CHT_MAP_STATUS.IDLE = 0 →
      ∃ t, exec .mapInvalDone s = .next t ∧ t.get F.CHT_MAP_STATUS.IDLE = 1 ∧ bitOf (t.get F.EVT_STATUS.STATUS 13) 3 = true) ∧
    (∀ (port addr : Nat) (bytes : List Byte) (s : State), s.inbound port = true → addr / 2 ^ 56 = 0xFE →
      let a := apertureOf addr
      let place := bufAddr ((s.dtag a.tag).bufs.getD (a.off / 4096) 0) + a.off % 4096
      (s.apertureOk a bytes.length = true → a.side = false → a.off % 4096 + bytes.length ≤ 4096 → s.poison = [] →
        ∃ t, exec (.apertureWrite port addr bytes) s = .next t ∧ t.memRead place bytes.length = bytes ∧
          ∀ b, (b < place ∨ place + bytes.length ≤ b) → t.memByte b = s.memByte b) ∧
      (s.apertureOk a bytes.length = false →
        ∃ t, exec (.apertureWrite port addr bytes) s = .next t ∧ t.mem = s.mem ∧ t.get F.CHT_APT_DROP.COUNT = satIncr32 (s.get F.CHT_APT_DROP.COUNT) % 2 ^ 32)) ∧
    (∀ (port addr len : Nat) (s : State), s.inbound port = true → addr / 2 ^ 56 = 0xFE →
      let a := apertureOf addr
      (s.apertureOk a len = true → (s.dtag a.tag).write = true →
        exec (.apertureRead port addr len) s =
          .next (s.emit (.apertureData port addr ((List.range len).map (fun b => s.memByte (apertureByte a (s.dtag a.tag).bufs b)))))) ∧
      (s.apertureOk a len = false →
        ∃ t, exec (.apertureRead port addr len) s = .next t ∧ Emitted s t (.apertureUr port addr) ∧
          t.get F.CHT_APT_DROP.COUNT = satIncr32 (s.get F.CHT_APT_DROP.COUNT) % 2 ^ 32)) ∧
    (∀ (tag : Nat) (s : State), (s.dtag tag).holdUs ≠ 0 → (s.dtag tag).holdUs ≤ s.nowUs + 1 →
      ∃ t, exec (.tagHoldExpiry tag) s = .next t ∧ t.dtag tag = { s.dtag tag with holdUs := 0 }) ∧
    (∀ (cid k : Nat) (w : YWait) (c : DrvCmd) (bufs : List Nat) (s v : State), s.cht.waits.find? (fun w => w.cmd == cid) = some w → s.drv? cid = some c →
      s.cht.waits.find? (fun v => v.station == w.station && v.cls == w.cls) = some w → c.viaYard = true → State.yardTake 6 c.cls c.nlb s = some (v, bufs) → v.freeDtag = some k →
      ∃ t, exec (.yardBufferGrant cid) s = .next t ∧ (∀ w ∈ t.cht.waits, w.cmd ≠ cid) ∧ t.drv? cid = some { c with tag := some k, st := .queued } ∧
        (t.dtag k).cmd = some cid ∧ (t.dtag k).bufs = bufs) ∧
    (∀ (g st : Nat) (reads : List ColRead) (x : Grp) (s : State), s.grp? g = some x → s.consumes = true → (s.stripeDirty g x.brand st).length = x.brand.stripeBlocks →
      s.stripeDirty g x.brand st ≠ [] → (∀ d ∈ s.stripeDirty g x.brand st, d.2.2.poisoned = false) → s.tly.stopped = false → x.offline = false → x.unswept st = false →
      s.tallyRoom g st = true → (∀ j o, (x.writePlace st j o).isSome = true) → (∀ m, x.brand.mState m ≠ mFailed) →
      ∃ t, exec (.destageStart g st reads) s = .next t ∧ ∃ e ∈ t.tly.entries, e.group = g ∧ e.stripe = st ∧ e.kind = 1) ∧
    (∀ (key : Nat) (cap : Capsule) (m : AuthMsg) (chk : FwChecks) (ph : Bool) (rest : List (Nat × Capsule)) (s u : State) (q : NvmQueue) (x : NvmCtrl) (c : Cmd),
      s.nvm.waiting = (key, cap) :: rest → Taken { s with nvm := { s.nvm with waiting := rest } } key cap (.io 0x00) u q x c → CanAnswer s q → (s.ns? x.sub cap.nsid).isSome = true →
      ∃ t, exec (.chuteAdmit m chk ph) s = .next t ∧ t.nvm.waiting = rest ∧ Answered s t q cap.cid stOk 0)

/-- O28. The end of a Brand update and of a map commit. BRAND_UPDATE_DONE of an update whose every copy is written puts its content in force and raises BRAND_UPDATED. MAP_COMMIT_DONE advances the map sequence of the group, puts in force the extents allocated with it, and answers the commands that waited for it. -/
def Obligations.BrandAndMapCommits : Prop :=
  (∀ (g : Nat) (x : Grp) (w : BrandUpd) (s : State), s.grp? g = some x → x.upd = some w → w.todo = [] → (∀ c ∈ s.drv.cmds, ∀ m cp part, c.use ≠ .brand g m cp part) →
      ∃ t y, exec (.brandUpdateDone g) s = .next t ∧ t.grp? g = some y ∧ y.brand = w.content ∧ bitOf (t.get F.EVT_STATUS.STATUS 14) 4 = true) ∧
    (∀ (g : Nat) (x : Grp) (s : State), s.grp? g = some x →
      (∃ t y, exec (.mapCommitDone g []) s = .next t ∧ t.grp? g = some y ∧ y.mapSeq = x.mapSeq + 1) ∧
      (∀ (m e : Nat) (en : ExtEnt) (sub : Nat) (n : NsEnt), (sub, n) ∈ s.allNs → n.group = g → n.map = m → (s.extent m e).state = 0 → en.state ≠ 0 → en.groupBlock % extentSize = 0 →
        s.nvm.cmds = [] → ∃ t, exec (.mapCommitDone g [(m, e, en)]) s = .next t ∧ t.extent m e = en) ∧
      (∀ (n : NsEnt) (q : NvmQueue) (c : Cmd), s.nvm.cmds = [c] → (c.sub, n) ∈ s.allNs → n.group = g → n.nsid = c.cap.nsid → c.st = .mapping → s.nq? c.queue = some q → CanAnswer s q →
        ∃ t, exec (.mapCommitDone g []) s = .next t ∧ t.nvm.cmds = [] ∧ Answered s t q c.cap.cid stOk 0))

/-- O29. Timeouts of member commands, and what runs over the stripes of a group. DRIVE_CMD_TIMEOUT of a member write that is not the third within 10 s counts at its port and the write is issued again. MEMBER_UNREACHABLE_TIMEOUT fails the member. TALLY_ENTRY_FREE gives the longest waiting writer its entry. SWEEP_STRIPE of a stripe in which nothing has to be written moves the sweep on, and the last stripe ends it. SKIDDER_STRIPE rebuilds a stripe under a Tally entry of KIND 3 when every offset can be completed, and counts one without allocated extents as rebuilt. SKD_PAUSE holds every rebuild that is not done. PATROL_STRIPE moves the pass on and the last stripe completes it; PATROL_LATE reports a pass that takes longer than PATROL_DAYS, once. -/
def Obligations.MemberTimeoutsAndSweeps : Prop :=
  (∀ (cid e w : Nat) (c : DrvCmd) (s : State), s.drv? cid = some c → c.use = .tally e w → c.queue ≠ 0 → c.st ≠ .held → c.formedUs + s.ioTimeoutUs c.port ≤ s.nowUs →
      c.port < 12 → c.sideB = s.sideB → (recentTimes s.nowUs (s.port c.port).timeouts).length < 2 →
      ∃ t, exec (.driveCmdTimeout cid) s = .next t ∧ (∃ d ∈ t.drv.cmds, d.use = c.use ∧ d.issues = c.issues + 1 ∧ d.lba = c.lba ∧ d.blocks = c.blocks) ∧
        t.get F.DP_CMD_TIMEOUT.COUNT c.port = min (s.get F.DP_CMD_TIMEOUT.COUNT c.port + 1) 4294967295) ∧
    (∀ (g m since : Nat) (x : Grp) (s : State), s.grp? g = some x → x.gone.find? (fun y => y.1 == m) = some (m, since) → s.ponr = false →
      since + s.cfg 0x0030 ((x.portOf m).getD 0) 20 4 10 * 1000000 ≤ s.nowUs → (x.want.mState m = mNormal ∨ x.want.mState m = mRebuilding) →
      ∃ t y, exec (.memberUnreachableTimeout g m) s = .next t ∧ t.grp? g = some y ∧ y.want.mState m = mFailed ∧ bitOf (t.get F.EVT_STATUS.STATUS 14) 0 = true) ∧
    (∀ (w : TallyWait) (reads : List ColRead) (s : State), s.tly.waits.find? (fun y => s.tallyRoom y.group y.stripe) = some w → w.kind = 4 →
      let u : State := { atStep s with tly := { s.tly with waits := s.tly.waits.erase w } }
      ∃ t, exec (.tallyEntryFree w.group w.stripe reads) s = .next t ∧ t.tly.waits = s.tly.waits.erase w ∧
        ((u.checkStripe w.group w.stripe w.off w.blocks 1 reads).2.1 ≠ [] → ∃ e ∈ t.tly.entries, e.group = w.group ∧ e.stripe = w.stripe ∧ e.kind = 4)) ∧
    (∀ (g st : Nat) (reads : List ColRead) (x : Grp) (s : State), s.grp? g = some x → s.consumes = true → s.tly.stopped = false → x.offline = false → x.verify ≠ .normal →
      x.swept = st → st ∉ x.sweptToo → s.tallyRoom g st = true → s.nvm.cmds = [] →
      ((atStep (s.setGrp g { x with verify := .sweeping })).checkStripe g st 0 x.brand.c 2 reads).2.1 = [] →
      ∃ t y, exec (.sweepStripe g st reads) s = .next t ∧ t.grp? g = some y ∧
        (st + 1 < x.brand.stripes → x.sweptToo = [] → y.verify = .sweeping ∧ y.swept = st + 1) ∧
        (x.brand.stripes ≤ st + 1 → y.verify = .normal ∧ bitOf (t.get F.EVT_STATUS.STATUS 14) 18 = true)) ∧
    (∀ (g m st : Nat) (crit : Bool) (r r' : Rebuild) (x : Grp) (reads : List ColRead) (s : State), s.grp? g = some x →
      s.tly.rebuilds.find? (fun r => r.is g m && r.running) = some r → s.tly.rebuilds.find? (fun r => r.is g m) = some r → s.consumes = true → s.tly.stopped = false → x.down = false →
      r.inflight.length < 256 → r.take x.brand = (some (st, crit), r') →
      (s.stripeUsed g x.brand st = false → ∃ t, exec (.skidderStripe g m reads) s = .next t ∧ ∃ q ∈ t.tly.rebuilds, q.is g m = true ∧ q.done = r.done + 1) ∧
      (∀ j, s.stripeUsed g x.brand st = true → x.brand.colOf st m = some j → r.copyback = false → s.tallyRoom g st = true →
        (∀ o < x.brand.c, (offsetOf x.brand.w st o o (reads.set j .missing)).failing = [] ∧
          ((offsetOf x.brand.w st o o (reads.set j .missing)).complete x.brand.k).isSome = true) →
        ∃ t, exec (.skidderStripe g m reads) s = .next t ∧ ∃ e ∈ t.tly.entries, e.group = g ∧ e.stripe = st ∧ e.kind = 3 ∧ e.member = m)) ∧
    (∀ (src : Src) (on : Bool) (s : State), s.gate src (F.SKD_CTL.PAUSE.at 0 0) = .pass → ActsAtOnce s src →
      ∃ t, exec (.skdPause src on) s = .next t ∧ t.flag F.SKD_CTL.PAUSE = on ∧ (on = true → ∀ r ∈ t.tly.rebuilds, r.state = 4 ∨ r.state = 5)) ∧
    (∀ (g : Nat) (reads : List ColRead) (x : Grp) (s : State), s.grp? g = some x → s.consumes = true → s.tly.stopped = false → x.down = false → s.power = stActive →
      x.patrolCursor < x.brand.stripes → s.stripeUsed g x.brand x.patrolCursor = false →
      ∃ t y, exec (.patrolStripe g reads) s = .next t ∧ t.grp? g = some y ∧
        (x.patrolCursor + 1 < x.brand.stripes → y.patrolCursor = x.patrolCursor + 1 ∧ y.patrolPasses = x.patrolPasses) ∧
        (x.patrolCursor + 1 = x.brand.stripes → x.patrolSkipped = [] →
          y.patrolCursor = 0 ∧ y.patrolPasses = x.patrolPasses + 1 ∧ bitOf (t.get F.EVT_STATUS.STATUS 14) 25 = true)) ∧
    (∀ (g : Nat) (x : Grp) (s : State), s.grp? g = some x → x.patrolLate = false → x.patrolUs + s.patrolUs ≤ s.nowUs →
      ∃ t y, exec (.patrolLate g) s = .next t ∧ t.grp? g = some y ∧ y.patrolLate = true ∧ bitOf (t.get F.EVT_STATUS.STATUS 14) 27 = true)

/-- O30. Granules of a migration, the steps of a dump, and recovery. MIG_GRANULE_SEND sends the next granule of pass 1 as a Flume WRITE with NOTIFY to the target and moves its cursor on; MIG_DONE after the cutover with nothing left ends the migration. MIG_GRANULE_RX stages every block of a granule that passes its check, and answers one that fails with a NACK. DUMP_WRITE_WAIT_EXPIRY takes the next DUMP_SEQ, DUMP_COMPLETE reports the end of the dump. RECOVERY without a dump leaves LAST_DUMP 0 and lets every group serve that is not offline; of a complete dump it takes DUMP_SEQ over. DUMP_RETIRE_RECOVERED reports that the recovered dump is retired. -/
def Obligations.MigrationDumpAndRecovery : Prop :=
  (∀ (slot : Nat) (blocks : List (Option (List Byte × Nat))) (m : Mig) (n : NsEnt) (s : State), s.mig? slot = some m → s.ns? m.sub m.nsid = some n → s.consumes = true →
      s.tly.stopped = false → m.state = 1 → m.pass = 1 → m.cursor < granulesOf n → KeysFresh s →
      ∃ t, exec (.migGranuleSend slot blocks) s = .next t ∧ t.mig? slot = some { m with cursor := m.cursor + 1, inflight := m.inflight ++ [m.cursor] } ∧
        ∃ x ∈ t.flm.msgs, x.use = .granule slot m.cursor ∧ x.opcode = opWrite ∧ x.notify = true ∧ x.dst = m.peer ∧ x.window = m.window ∧
          x.src = .bytes (s.granule m.sub n m.cursor 1 blocks).bytes) ∧
    (∀ (slot : Nat) (m : Mig) (n : NsEnt) (s : State), s.mig? slot = some m → s.ns? m.sub m.nsid = some n → m.state = 2 → m.todo = [] → m.marked = [] → m.inflight = [] →
      granulesOf n ≤ m.cursor →
      ∃ t, exec (.migDone slot) s = .next t ∧ (t.mig? slot).map (·.state) = some 3 ∧ bitOf (t.get F.EVT_STATUS.STATUS 14) 28 = true) ∧
    (∀ (peer msgId sub nsid : Nat) (g : Granule) (n : NsEnt) (s : State), s.ns? sub nsid = some n → s.consumes = true → g.slba + 16 ≤ n.size →
      (g.checks = true → g.dealloc = 0 → g.lost = 0 →
        ∃ t, exec (.migGranuleRx peer msgId sub nsid g) s = .next t ∧
          ∀ i < 16, ∃ v ∈ t.cht.staging, v.is sub nsid (g.slba + i) = true ∧ (g.units[i]?).map (fun u => (u.1, u.2.2.1)) = some (v.data, v.hostTag)) ∧
      (g.checks = false → CanSend s peer → peer < 2 ^ 32 → msgId < 2 ^ 48 →
        ∃ t, exec (.migGranuleRx peer msgId sub nsid g) s = .next t ∧ SendsFlume s t opNack peer msgId ∧ t.cht.staging = s.cht.staging)) ∧
    (∀ (d : Dump) (s : State), s.tly.dump = some d → d.stage = .waits → (d.beganUs + 5000 ≤ s.nowUs ∨ s.memberWrites = false) →
      ∃ t, exec .dumpWriteWaitExpiry s = .next t ∧ t.get F.VLT_DUMP_SEQ.SEQ = (s.get F.VLT_DUMP_SEQ.SEQ + 1) % 2 ^ F.VLT_DUMP_SEQ.SEQ.width ∧
        bitOf (t.get F.EVT_STATUS.STATUS 14) 10 = true) ∧
    (∀ (d : Dump) (s : State), s.tly.dump = some d → d.stage = .ledger → s.vaultBusy = false →
      ∃ t, exec .dumpComplete s = .next t ∧ bitOf (t.get F.EVT_STATUS.STATUS 14) 11 = true ∧ ∀ e, t.tly.dump = some e → e.stage ≠ .ledger) ∧
    (∀ (maps : List (Nat × Nat)) (exts : List (Nat × Nat × ExtEnt)) (s : State), s.role = roleAlone → s.tly.recovered = none →
      (∃ t, exec (.recovery none maps exts) s = .next t ∧ t.get F.VLT_STATUS.LAST_DUMP = 0 ∧
        (s.get F.PWR_STATE.BOOT_STEP = 8 → t.get F.PWR_STATE.BOOT_STEP = 9) ∧
        ∀ g x, s.grp? g = some x → ∃ y, t.grp? g = some y ∧ y.serving = !x.offline) ∧
      (∀ f : FoundDump, f.retired = false → f.complete = true → f.rewritten = false → f.segs = [] → f.lost = [] → (f.ctrl.map (·.tally)) = some [] →
        ∃ t, exec (.recovery (some f) maps exts) s = .next t ∧ t.get F.VLT_STATUS.LAST_DUMP = 1 ∧
          t.get F.VLT_DUMP_SEQ.SEQ = f.seq % 2 ^ F.VLT_DUMP_SEQ.SEQ.width ∧ t.tly.recovered = some (f.seq, []))) ∧
    (∀ (seq : Nat) (vs : List (Nat × Nat × Nat × Nat)) (s : State), s.tly.recovered = some (seq, vs) → s.tly.dump = none →
      (∀ v ∈ s.cht.staging, (v.sub, v.nsid, v.lba, v.commitStep) ∉ vs) →
      ∃ t, exec .dumpRetireRecovered s = .next t ∧ t.tly.recovered = none ∧ bitOf (t.get F.EVT_STATUS.STATUS 14) 16 = true)

/-- O31. Roles of the pair: taking one, suspecting the partner, taking over, leaving and handing over. ROLE_SELECT makes a ready controller JOINING beside a leader waveform and ALONE otherwise, with its first TICK as step 1; in Solo, controller B becomes DETACHED beside one, with SOLO_CONFLICT. FAULT_NOTICE marks the partner suspect, and decides on it when its waveform is gone. PAIR_ACTIVE_IN_LOSS of a suspect partner is a takeover. HEARTBEAT_TIMEOUT beside a leader waveform detaches a follower or joiner; a leader beside any other live waveform serves alone. LINK_FAILURE takes the link down. WSW_DETACH, WSW_RESYNC and WSW_HANDOVER do what WSW_CTL says. -/
def Obligations.PairRoles : Prop :=
  (∀ (w : ActiveIn) (s : State), s.role = roleOff → s.ready = true →
      (s.ownProfile ≠ 0 → (s.sideB = false ∨ s.wsw.readyNs + 2000000000 ≤ s.dev.timeNs) →
        (w = .leader → ∃ t, exec (.roleSelect w) s = .next t ∧ t.role = roleJoining) ∧
        (w ≠ .leader → ∃ t, exec (.roleSelect w) s = .next t ∧ t.role = roleAlone ∧ t.dev.stepNo = 0 ∧
          t.wsw.inputs = [⟨1, s.sideB, false, 0, .tick (s.dev.timeNs / 1000)⟩])) ∧
      (s.ownProfile = 0 → s.sideB = true → w = .leader →
        ∃ t, exec (.roleSelect w) s = .next t ∧ t.role = roleDetached ∧ bitOf (t.get F.EVT_STATUS.STATUS 16) 13 = true)) ∧
    (∀ (w : ActiveIn) (s : State), s.flag F.WSW_STATUS.FAULT_OUT = false → s.watches = true → s.get F.WSW_STATUS.PARTNER ≠ 4 →
      (w = .leader ∨ w = .follower → ∃ t, exec (.faultNotice w) s = .next t ∧ t.get F.WSW_STATUS.PARTNER = 4 ∧ t.flag F.WSW_STATUS.FAULT_IN = true ∧
        t.role = s.role ∧ bitOf (t.get F.EVT_STATUS.STATUS 16) 0 = true) ∧
      (w = .inactive → s.inPair = true → ∃ t, exec (.faultNotice w) s = .next t ∧ t.role = roleAlone ∧ t.get F.WSW_STATUS.PARTNER = 5)) ∧
    (∀ (dead : Bool) (s : State), s.inPair = true → s.get F.WSW_STATUS.PARTNER = 4 →
      ∃ t, exec (.pairActiveInLoss dead) s = .next t ∧ t.role = roleAlone ∧ t.get F.WSW_STATUS.PARTNER = 5 ∧ t.flag F.WSW_STATUS.ACTIVE_IN = false ∧
        bitOf (t.get F.EVT_STATUS.STATUS 16) 1 = true) ∧
    (∀ (w : ActiveIn) (s : State), s.wsw.lastHbRxNs + 8000 ≤ s.dev.timeNs →
      (w = .leader → (s.role = roleFollower ∨ s.role = roleJoining) →
        ∃ t, exec (.heartbeatTimeout w) s = .next t ∧ t.role = roleDetached ∧ t.get F.WSW_STATUS.PARTNER = 3 ∧ t.linkUp = false ∧ t.wsw.stopped = true ∧ t.profile = 0) ∧
      ((w = .leader ∨ w = .follower) → s.role = roleLeader →
        ∃ t, exec (.heartbeatTimeout w) s = .next t ∧ t.role = roleAlone ∧ t.get F.WSW_STATUS.PARTNER = 3 ∧ t.linkUp = false ∧ t.profile = 0 ∧
          t.get F.WSW_HB_MISS.COUNT = min (s.get F.WSW_HB_MISS.COUNT + 4) 4294967295)) ∧
    (∀ s : State, s.linkUp = true → ∃ t, exec (.linkFailure true) s = .next t ∧ t.linkUp = false ∧ bitOf (t.get F.EVT_STATUS.STATUS 16) 3 = true) ∧
    (∀ (src : Src) (s : State), s.gate src (F.WSW_CTL.DETACH.at 0 0) = .pass → s.role ≠ roleDetached →
      ∃ t, exec (.wswDetach src) s = .next t ∧ t.role = roleDetached ∧ t.wsw.stopped = true ∧ bitOf (t.get F.EVT_STATUS.STATUS 16) 10 = true) ∧
    (∀ (src : Src) (s : State), s.gate src (F.WSW_CTL.RESYNC.at 0 0) = .pass → s.role = roleDetached →
      ∃ t, exec (.wswResync src) s = .next t ∧ t.role = roleJoining ∧ t.wsw.stopped = false) ∧
    (∀ (src : Src) (s : State), s.gate src (F.WSW_CTL.HANDOVER.at 0 0) = .pass → s.role = roleLeader → s.wsw.handover = false →
      ∃ t, exec (.wswHandover src) s = .next t ∧ t.numbers = false ∧
        t.wsw.inputs = s.wsw.inputs ++ [⟨s.wsw.lastNumber + 1, s.sideB, false, 0, .cut cutHandover⟩])

/-- O32. Ticks, link frames, numbering and digests. TICK_ISSUE numbers the TICK of the next microsecond. LINK_IDLE_SEND and HEARTBEAT_SEND send their frames. A sound frame in order is taken and its acknowledgement releases held outputs; one out of order is answered with NAK, one with a wrong CRC is counted too. A matching HELLO brings the link up; another one leaves it down, with PE_18, and detaches controller B. HEARTBEAT_RX renews the partner's life and starts the resync of a joiner. INPUT_RX takes the leader's records over, FORWARD_RX numbers an observation of the partner. STAGED_RX marks the versions of its commit. DIGEST_RX drops equal digests and declares the follower diverged on different ones. -/
def Obligations.LinkFrames : Prop :=
  (∀ s : State, s.numbers = true → s.wsw.tickNs + 1000 ≤ s.dev.timeNs →
      ∃ t, exec .tickIssue s = .next t ∧ t.wsw.tickUs = s.wsw.tickUs + 1 ∧ t.wsw.tickNs = s.wsw.tickNs + 1000 ∧
        t.wsw.inputs = s.wsw.inputs ++ [⟨s.wsw.lastNumber + 1, s.sideB, false, 0, .tick (s.wsw.tickUs + 1)⟩]) ∧
    (∀ s : State, s.linkUp = true → s.wsw.lastSentNs + 100 ≤ s.dev.timeNs →
      ∃ t, exec .linkIdleSend s = .next t ∧ SendsLink s t .idle ∧ t.wsw.txSeq = s.wsw.txSeq + 1) ∧
    (∀ s : State, s.linkUp = true → s.watches = true → s.wsw.lastHbTxNs + 2000 ≤ s.dev.timeNs →
      ∃ t, exec .heartbeatSend s = .next t ∧ SendsLink s t (.heartbeat s.role (s.get F.WSW_STATUS.PARTNER) s.dev.stepNo) ∧ t.wsw.lastHbTxNs = s.dev.timeNs) ∧
    (∀ (fr : LinkFrame) (s : State), NextFrame s fr .idle →
      ∃ t, exec (.linkIdleRx fr) s = .next t ∧ t.wsw.rxSeq = s.wsw.rxSeq + 1 ∧ (∀ h ∈ t.wsw.heldOut, fr.ack < h.1) ∧ ∀ f ∈ t.wsw.sent, fr.ack < f.1) ∧
    (∀ (fr : LinkFrame) (s : State), s.linkUp = true →
      (fr.crcOk = true → fr.lseq ≠ s.wsw.rxSeq → ∃ t, exec (.linkNakRx fr) s = .next t ∧ Emitted s t (.link s.wsw.txSeq (s.wsw.rxSeq - 1) false true .idle) ∧ t.wsw.rxSeq = s.wsw.rxSeq) ∧
      (fr.crcOk = false → ∃ t, exec (.linkNakRx fr) s = .next t ∧ Emitted s t (.link s.wsw.txSeq (s.wsw.rxSeq - 1) false true .idle) ∧
        t.get F.WSW_LINK_CRC.COUNT = satIncr32 (s.get F.WSW_LINK_CRC.COUNT) % 2 ^ 32) ∧
      (fr.crcOk = true → fr.lseq = s.wsw.rxSeq → fr.nak = true → s.wsw.replays < 3 → ∃ t, exec (.linkNakRx fr) s = .next t ∧ t.wsw.rxSeq = s.wsw.rxSeq + 1 ∧
        ∀ f ∈ s.wsw.sent, fr.ack < f.1 → Emitted s t (.link f.1 s.wsw.rxSeq true false f.2.2))) ∧
    (∀ (fr : LinkFrame) (h : Hello) (same : Bool) (s : State), s.ownProfile ≠ 0 → s.linkUp = false → fr.crcOk = true → fr.body = .hello h →
      (h.shelf = s.hello.shelf ∧ h.sideB ≠ s.sideB ∧ h.profile = s.profile ∧ same = true →
        ∃ t, exec (.helloRx fr h same) s = .next t ∧ t.linkUp = true ∧ t.wsw.rxSeq = fr.lseq + 1 ∧ bitOf (t.get F.EVT_STATUS.STATUS 16) 4 = true) ∧
      (same = false → s.get F.PAT_ERROR.CODE = 0 →
        ∃ t, exec (.helloRx fr h same) s = .next t ∧ t.linkUp = false ∧ t.get F.PAT_ERROR.CODE = 18 ∧ bitOf (t.get F.EVT_STATUS.STATUS 16) 14 = true ∧
          (s.sideB = true → t.role = roleDetached))) ∧
    (∀ (fr : LinkFrame) (r p n : Nat) (s : State), NextFrame s fr (.heartbeat r p n) →
      ∃ t, exec (.heartbeatRx fr) s = .next t ∧ t.wsw.lastHbRxNs = s.dev.timeNs ∧
        (s.role = roleAlone → r = roleJoining → s.wsw.resyncPass = 0 → t.wsw.resyncPass = 1 ∧ bitOf (t.get F.EVT_STATUS.STATUS 16) 7 = true)) ∧
    (∀ (fr : LinkFrame) (r : InputRec) (s : State), NextFrame s fr (.input [r]) → s.role = roleFollower → (r.refOnly = false ∨ r.sideB ≠ s.sideB) →
      ∃ t, exec (.inputRx fr) s = .next t ∧ t.wsw.inputs = s.wsw.inputs ++ [{ r with refOnly := false }]) ∧
    (∀ (fr : LinkFrame) (r : InputRec) (s : State), NextFrame s fr (.forward r) → s.numbers = true →
      ∃ t, exec (.forwardRx fr) s = .next t ∧ t.wsw.inputs = s.wsw.inputs ++ [⟨s.wsw.lastNumber + 1, r.sideB, false, r.origin, r.input⟩] ∧
        SendsLink s t (.input [⟨s.wsw.lastNumber + 1, r.sideB, true, r.origin, r.input⟩])) ∧
    (∀ (fr : LinkFrame) (c cid sq step : Nat) (s : State), NextFrame s fr (.staged c cid sq step) →
      ∃ t, exec (.stagedRx fr) s = .next t ∧ ∀ v ∈ t.cht.staging, v.commitStep = step → v.noticed = true) ∧
    (∀ (fr : LinkFrame) (step v w : Nat) (s : State), NextFrame s fr (.digest step v) → s.wsw.ownDigests = [(step, w)] → s.wsw.peerDigests = [] →
      (v = w → s.inPair = true → ∃ t, exec (.digestRx fr) s = .next t ∧ t.wsw.ownDigests = [] ∧ t.wsw.peerDigests = [] ∧ t.role = s.role) ∧
      (v ≠ w → s.role = roleLeader → ∃ t, exec (.digestRx fr) s = .next t ∧ t.role = roleAlone ∧ bitOf (t.get F.EVT_STATUS.STATUS 16) 6 = true) ∧
      (v ≠ w → s.role = roleFollower → s.wsw.divergences = [] →
        ∃ t, exec (.digestRx fr) s = .next t ∧ t.role = roleJoining ∧ bitOf (t.get F.EVT_STATUS.STATUS 16) 6 = true))

/-- O33. The passes, the cut and the end of a resync. SNAPSHOT_RX installs a granule on a joiner. RESYNC_FRAME_RX starts a resync there and gives it the cut; on the ALONE controller the report in step makes it LEADER. RESYNC_PASS_DONE goes on to the next pass, or to the cut with less than 2^30 bytes dirty or after pass 8. RESYNC_CUT numbers the CUT. JOINER_IN_STEP makes a joiner that trails by less than 8 us a FOLLOWER. -/
def Obligations.ResyncOfAJoiner : Prop :=
  (∀ (fr : LinkFrame) (i : Nat) (g : List (Nat × Grp)) (s : State), NextFrame s fr (.snapshot i (.groups g)) → s.role = roleJoining → s.wsw.joinCut = none →
      ∃ t, exec (.snapshotRx fr) s = .next t ∧ t.grps = g ∧ t.role = roleJoining) ∧
    (∀ (fr : LinkFrame) (code step : Nat) (s : State), NextFrame s fr (.resync code step) →
      (s.role = roleJoining → code = 1 → ∃ t, exec (.resyncFrameRx fr) s = .next t ∧ t.wsw.joining = true ∧ t.get F.WSW_RESYNC.PHASE = 1 ∧ t.get F.WSW_STATUS.PARTNER = 2) ∧
      (s.role = roleJoining → code = 3 → s.wsw.joining = true → ∃ t, exec (.resyncFrameRx fr) s = .next t ∧ t.wsw.joinCut = some step ∧ t.get F.WSW_RESYNC.PHASE = 3 ∧
        ∀ r ∈ t.wsw.inputs, step < r.step) ∧
      (s.role = roleAlone → code = 4 → s.wsw.resyncPass = 10 → ∃ t, exec (.resyncFrameRx fr) s = .next t ∧ t.role = roleLeader ∧ t.get F.WSW_STATUS.PARTNER = 1 ∧
        t.get F.WSW_RESYNC.PHASE = 0 ∧ t.wsw.resyncPass = 0 ∧ bitOf (t.get F.EVT_STATUS.STATUS 16) 8 = true)) ∧
    (∀ (dirty : Nat) (s : State), s.role = roleAlone → s.wsw.resyncPass ≠ 0 → s.wsw.resyncPass < 9 →
      (dirty < 2 ^ 30 ∨ s.wsw.resyncPass = 8 → ∃ t, exec (.resyncPassDone dirty) s = .next t ∧ t.wsw.resyncPass = 9 ∧ t.get F.WSW_RESYNC.PHASE = 2) ∧
      (2 ^ 30 ≤ dirty → s.wsw.resyncPass < 8 → ∃ t, exec (.resyncPassDone dirty) s = .next t ∧ t.wsw.resyncPass = s.wsw.resyncPass + 1)) ∧
    (∀ s : State, s.role = roleAlone → s.wsw.resyncPass = 9 → (∀ r ∈ s.wsw.inputs, r.input ≠ .cut cutResync) →
      ∃ t, exec .resyncCut s = .next t ∧ t.wsw.inputs = s.wsw.inputs ++ [⟨s.wsw.lastNumber + 1, s.sideB, false, 0, .cut cutResync⟩]) ∧
    (∀ s : State, s.role = roleJoining → s.wsw.joinCut.isSome = true → s.wsw.tickUs < s.dev.stepUs + 8 →
      ∃ t, exec .joinerInStep s = .next t ∧ t.role = roleFollower ∧ t.get F.WSW_STATUS.PARTNER = 1 ∧ t.get F.WSW_RESYNC.PHASE = 0 ∧
        bitOf (t.get F.EVT_STATUS.STATUS 16) 8 = true ∧ (s.linkUp = true → ∃ n a, Emitted s t (.link n a false false (.resync 4 s.dev.stepNo))))

/-- O34. What the consumption of each kind of input does. An input is consumed when its number is one above the step number, which it then becomes. A host frame marked bad does nothing else; a control frame goes to its cluster. A drive completion that names no command does nothing else; the refusal of a preempt raises FENCE_FAIL and stops writes to that drive. A link that goes down leaves its side's port not READY. A TICK sets step time. A management write has its effect. A SLOT input records presence. A RETX input lets the packet go again. The CUT of a handover swaps the roles. -/
def Obligations.InputsAreConsumedInOrder : Prop :=
  (∀ (n lp : Nat) (f : List Byte) (r : InputRec) (s : State), NextInput s n r → r.sideB ≠ s.sideB →
      (r.input = .hostFrame lp f true → exec (.consumeHostFrame n) s = .next (pastInput s n)) ∧
      (r.input = .hostFrame lp f false → s.lookup lp f = .control →
        ∃ t, exec (.consumeHostFrame n) s = .next t ∧ t.dev.stepNo = n ∧ Emitted s t (.engineFrame (s.roleCluster 2) lp f false (ptpFormat s.ptpNow)))) ∧
    (∀ (n port check : Nat) (cqe : DrvCqe) (blks : List Blk) (r : InputRec) (s : State), NextInput s n r → r.input = .driveCqe port check cqe →
      (s.cqeCmd r.sideB port cqe = none → exec (.consumeDriveCqe n blks) s = .next (pastInput s n)) ∧
      (∀ c : DrvCmd, s.cqeCmd r.sideB port cqe = some c → c.use = .fence → c.op ≠ nvWrite → ¬ (cqe.sct = 0 ∧ cqe.sc = 0) →
        ∃ t, exec (.consumeDriveCqe n blks) s = .next t ∧ t.dev.stepNo = n ∧ (t.port c.port).noWrites = true ∧ bitOf (t.get F.EVT_STATUS.STATUS 16) 11 = true)) ∧
    (∀ (n port a b c : Nat) (r : InputRec) (s : State), NextInput s n r → r.input = .driveEvent port (.link false a b c) →
      ∃ t, exec (.consumeDriveEvent n) s = .next t ∧ t.dev.stepNo = n ∧
        (if r.sideB = s.sideB then (t.port port).ownReady else (t.port port).partnerReady) = false) ∧
    (∀ (n us : Nat) (r : InputRec) (s : State), NextInput s n r → r.input = .tick us →
      ∃ t, exec (.consumeTick n) s = .next t ∧ t.dev.stepNo = n ∧ t.dev.stepUs = us) ∧
    (∀ (n i v : Nat) (fault : Bool) (r : InputRec) (s : State), NextInput s n r → r.input = .mgmt (.chainWrite i v fault) →
      exec (.consumeMgmt n) s = .next ((pastInput s n).setChain i (v % 2 ^ 32 + (if fault then chainFaultBit else 0)))) ∧
    (∀ (n slot sense : Nat) (here : Bool) (r : InputRec) (s : State), NextInput s n r → r.input = .slot slot here sense →
      ∃ t, exec (.consumeSlot n) s = .next t ∧ t.dev.stepNo = n ∧ (if r.sideB then (t.path slot).presentB else (t.path slot).presentA) = here) ∧
    (∀ (n msgId index attempt : Nat) (m : Msg) (p : PktTx) (r : InputRec) (s : State), NextInput s n r → r.input = .retx msgId index attempt →
      s.flm.msgs.find? (fun m => m.id == msgId && m.pkts.any (fun p => p.index == index && p.sent)) = some m → m.pkts.find? (fun p => p.index == index) = some p →
      p.held = false → CanSend s m.dst → m.opcode = opSend → m.dst < 2 ^ 32 → msgId < 2 ^ 48 → s.fx.reports = [] →
      ∃ t, exec (.consumeRetx n) s = .next t ∧ t.dev.stepNo = n ∧ SendsFlume s t opSend m.dst msgId) ∧
    (∀ (n : Nat) (r : InputRec) (s : State), NextInput s n r → r.input = .cut cutHandover →
      (s.role = roleLeader → s.fw.phase = 0 → ∃ t, exec (.consumeCut n) s = .next t ∧ t.dev.stepNo = n ∧ t.role = roleFollower ∧ bitOf (t.get F.EVT_STATUS.STATUS 16) 9 = true) ∧
      (s.role = roleFollower → ∃ t, exec (.consumeCut n) s = .next t ∧ t.dev.stepNo = n ∧ t.role = roleLeader ∧ bitOf (t.get F.EVT_STATUS.STATUS 16) 9 = true))

/-- O35. Links and pause of the host ports. HOST_LINK_UP and HOST_LINK_DOWN show the link of a logical port of the breakout and raise LINK_CHANGE. An obeyed PAUSE frame stops every class below 7 until quanta × 512 bit times from now, replacing what remained (R354, R356). PAUSE_EXPIRY ends a pause whose time has come. At 100 ms of obeyed pause in the trailing second the watchdog trips: the pause ends (R357); a second after the trip it is cleared and pause counts afresh. PFC_REPEAT sends quanta 0xFFFF again while the condition of R358 lasts. -/
def Obligations.HostLinksAndPause : Prop :=
  (∀ (l : Nat) (s : State), l < 32 → 0 < s.lportRate l → s.lportUp l = false →
      ∃ t, exec (.hostLinkUp l) s = .next t ∧ t.lportUp l = true ∧ bitOf (t.get F.EVT_STATUS.STATUS (2 + l / 8)) (l % 8) = true) ∧
    (∀ (l : Nat) (s : State), l < 32 → s.lportUp l = true →
      ∃ t, exec (.hostLinkDown l) s = .next t ∧ t.lportUp l = false ∧ bitOf (t.get F.EVT_STATUS.STATUS (2 + l / 8)) (l % 8) = true) ∧
    (∀ (l q c : Nat) (s : State), l < 32 → s.lportUp l = true → s.flag F.HP_LP_CTL.OBEY (l / 8) (l % 8) = true → (∀ d, ((s.lportSt l).cls d).trippedNs = none) →
      c < 7 → q < 65536 → 0 < q * 512 * 1000000000 / max 1 (s.lportRate l) →
      ∃ t, exec (.pauseFrameRx l false 0 [q] true) s = .next t ∧
        ((t.lportSt l).cls c).untilNs = s.dev.timeNs + q * 512 * 1000000000 / max 1 (s.lportRate l) ∧
        t.get F.HP_PAUSE_RX.COUNT (l / 8) (l % 8) = satIncr32 (s.get F.HP_PAUSE_RX.COUNT (l / 8) (l % 8)) % 2 ^ 32) ∧
    (∀ (l c : Nat) (s : State), ((s.lportSt l).cls c).untilNs ≠ 0 → ((s.lportSt l).cls c).untilNs ≤ s.dev.timeNs →
      ∃ t, exec (.pauseExpiry l c) s = .next t ∧ ((t.lportSt l).cls c).untilNs = 0) ∧
    (∀ (l c : Nat) (s : State), ((s.lportSt l).cls c).trippedNs = none → 100000000 ≤ ((s.lportSt l).cls c).trailing s.dev.timeNs →
      ∃ t, exec (.pauseWatchdogTrip l c) s = .next t ∧ ((t.lportSt l).cls c).trippedNs = some s.dev.timeNs ∧ t.paused l c = false) ∧
    (∀ (l c at_ : Nat) (s : State), ((s.lportSt l).cls c).trippedNs = some at_ → at_ + 1000000000 ≤ s.dev.timeNs →
      ∃ t, exec (.pauseWatchdogClear l c) s = .next t ∧ (t.lportSt l).cls c = ⟨0, 0, [], none⟩) ∧
    (∀ (l c at_ : Nat) (s : State), (s.lportSt l).xoff.find? (fun x => x.1 == c) = some (c, at_) → s.wsw.stopped = false → s.xonDue l c = false →
      at_ + 65535 * 512 * 1000000000 / (2 * max 1 (s.lportRate l)) ≤ s.dev.timeNs →
      ∃ t, exec (.pfcRepeat l c) s = .next t ∧ t.out = .pfc l c 0xFFFF :: s.out)

/-- O36. A good frame for a cluster or the Flume unit becomes the next input of the stream. R350, R311: on a controller that serves alone in Solo, a frame of 64 to 9,216 bytes that is no MAC control frame, goes to an accepted address, is not discarded by the lookup of R360, meets no ingress meter and no mirror, and gets its Yard buffers: HOST_FRAME_RX numbers it as the next input, as a good frame of that logical port. One shorter than 64 bytes is counted in HP_RX_RUNT and numbers nothing. -/
def Obligations.HostFramesAreNumbered : Prop :=
  ∀ (l : Nat) (f : List Byte) (s : State), l < 32 → s.lportUp l = true → SoloAlone s →
    let u := (((s.count 1 l 0).count 1 l 1 f.length).count 2 (l / 8) 0).count 2 (l / 8) 1 f.length
    (∀ (v : State) (bufs : List Nat), 64 ≤ f.length → f.length ≤ 9216 → etherType f ≠ 0x8808 → s.acceptsMac l (beNat (f.take 6)) = true → u.lookup l f ≠ .discard →
      u.meterAt 0 l (u.lookup l f).cls = none → u.mirrors l = [] → State.yardTake (l / 8) (u.lookup l f).cls ((f.length + 4095) / 4096) u = some (v, bufs) →
      ∃ t, exec (.hostFrameRx l f .good false) s = .next t ∧
        t.wsw.inputs = s.wsw.inputs ++ [⟨s.wsw.lastNumber + 1, s.sideB, false, s.wsw.origin, .hostFrame l f false⟩]) ∧
    (f.length < 64 → ∃ t, exec (.hostFrameRx l f .good false) s = .next t ∧ t.wsw.inputs = s.wsw.inputs ∧
      t.get F.HP_RX_RUNT.COUNT (l / 8) (l % 8) = satIncr32 (s.get F.HP_RX_RUNT.COUNT (l / 8) (l % 8)) % 2 ^ 32)

/-- O37. Adjusting PTP time, and the pulse per second. R368: an adjustment written to PTP_ADJ_OFS or, in range, to PTP_ADJ_RATE waits until the first whole microsecond of device time at least 2 µs later, with ADJ_BUSY 1. When that instant has come, PTP_ADJ_APPLY moves PTP time by the offset from there on, or takes the new rate, and raises PTP_ADJ_DONE. R371: each new whole second raises PTP_1PPS_OUT while it is enabled, and an edge of PTP_1PPS_IN is timestamped. -/
def Obligations.PrecisionTime : Prop :=
  (∀ (src : Src) (v : Nat) (s : State), s.gate src 0x90008 = .pass →
      ∃ t due, exec (.ptpAdjOfsWrite src true v) s = .next t ∧ t.hp.ptp.waiting = s.hp.ptp.waiting ++ [(due, some (signedOf 64 v), none)] ∧ due % 1000 = 0 ∧
        s.dev.timeNs + 2000 ≤ due ∧ due < s.dev.timeNs + 3000 ∧ t.flag F.PTP_CTL.ADJ_BUSY = true) ∧
    (∀ (src : Src) (v : Nat) (s : State), s.gate src 0x90010 = .pass → -512000000 ≤ signedOf 32 v → signedOf 32 v ≤ 512000000 →
      ∃ t due, exec (.ptpAdjRateWrite src v) s = .next t ∧ t.hp.ptp.waiting = s.hp.ptp.waiting ++ [(due, none, some (signedOf 32 v))] ∧ due % 1000 = 0 ∧
        s.dev.timeNs + 2000 ≤ due ∧ due < s.dev.timeNs + 3000) ∧
    (∀ (due : Nat) (ofs : Int) (rest : List (Nat × Option Int × Option Int)) (s : State), s.hp.ptp.waiting = (due, some ofs, none) :: rest → due ≤ s.dev.timeNs →
      ∃ t, exec .ptpAdjApply s = .next t ∧ t.hp.ptp.waiting = rest ∧ t.hp.ptp.rate = s.hp.ptp.rate ∧ t.ptpAt due = s.ptpAt due + (ofs : Rat) ∧
        bitOf (t.get F.EVT_STATUS.STATUS 2) 22 = true) ∧
    (∀ (due : Nat) (rate : Int) (rest : List (Nat × Option Int × Option Int)) (s : State), s.hp.ptp.waiting = (due, none, some rate) :: rest → due ≤ s.dev.timeNs →
      ∃ t, exec .ptpAdjApply s = .next t ∧ t.hp.ptp.waiting = rest ∧ t.hp.ptp.rate = rate ∧ t.ptpAt due = s.ptpAt due) ∧
    (∀ s : State, s.flag F.PTP_CTL.PPS_OUT_EN = true → s.hp.ppsSec ≠ s.ptpNow.toNat / 1000000000 + 1 →
      ∃ t, exec .ppsOutEdge s = .next t ∧ t.out = .pin .pps 1 :: s.out ∧ exec .ppsOutEdge t = .next t) ∧
    (∀ s : State, ∃ t, exec .ppsInEdge s = .next t ∧ t.get F.PTP_PPS_IN_TS.TIME = ptpFormat s.ptpNow % 2 ^ 64 ∧ bitOf (t.get F.EVT_STATUS.STATUS 2) 21 = true)

/-- O38. Serving the class queues, issuing drive commands, and gate lists in motion. EGRESS_SERVICE of a logical port whose link is up and whose MAC is free puts the next eligible frame on the wire and holds the MAC for its time on the wire (R384); of a drive port it takes the next eligible command into the batch. BATCH_COMMIT of a batch with no more eligible commands writes every entry (shown for a batch of one) and empties the batch (R386). GATE_ENTRY_CHANGE takes the next entry of a cycle when the one in force has ended, and GATE_LIST_START puts a new list in force at its first cycle start (R390, R393). -/
def Obligations.QueueServiceAndGates : Prop :=
  (∀ (p c : Nat) (x : TcPoint) (u : TcUnit) (rest : List TcUnit) (s : State), p < 32 → s.wsw.stopped = false →
      let v := ((s.engineFrames p []).accrue p).purge p
      (v.point p).busyNs ≤ (v.dev.timeNs : Rat) → v.lportUp p = true → v.nextClass p = some (c, x) → x.queue c = u :: rest →
      ∃ t, exec (.egressService p []) s = .next t ∧ .wire p c u.item u.ce u.stomp ∈ t.out ∧ (t.point p).busyNs = (v.dev.timeNs : Rat) + v.wireNs p u.len) ∧
    (∀ (port c cid : Nat) (x : TcPoint) (u : TcUnit) (rest : List TcUnit) (s : State), port < 48 → s.driveStopped = false →
      (s.accrue (32 + port)).nextClass (32 + port) = some (c, x) → x.queue c = u :: rest → u.item = .drive cid →
      ∃ t, exec (.egressService (32 + port) []) s = .next t ∧ cid ∈ (t.point (32 + port)).batch) ∧
    (∀ (port cid : Nat) (c : DrvCmd) (s : State), (s.point (drivePoint port)).batch = [cid] → s.driveStopped = false → s.nextClass (drivePoint port) = none → s.drv? cid = some c →
      ∃ t prps mptr, exec (.batchCommit port) s = .next t ∧ (t.point (drivePoint port)).batch = [] ∧
        .sqe port c.queue cid c.op c.lba c.nlb c.fua prps mptr ∈ t.out) ∧
    (∀ (l : Nat) (g : GateList) (e : Nat × Nat) (s : State), (s.gates l).run = some g → (s.gates l).startNs = none → g.entries[(s.gates l).entry]? = some e →
      (s.gates l).entry + 1 < g.entries.length → (s.gates l).sinceNs + e.1 ≤ s.ptpNow →
      ∃ t, exec (.gateEntryChange l) s = .next t ∧ t.gates l = { s.gates l with entry := (s.gates l).entry + 1, sinceNs := (s.gates l).sinceNs + e.1 }) ∧
    (∀ (l : Nat) (g : GateList) (at_ : Int) (s : State), (s.gates l).startNs = some at_ → (s.gates l).change = some (some g) → at_ ≤ s.ptpNow →
      ∃ t, exec (.gateListStart l) s = .next t ∧ (t.gates l).run = some g ∧ (t.gates l).sinceNs = at_ ∧ (t.gates l).entry = 0 ∧ (t.gates l).change = none)

/-- O39. The bring-up of a drive, step by step. Each row completes its step of R404 on an enabled port that is in it: PERST released 100 ms after power-good, the link trained, the drive configured, its controller ready, its checks passed, its Brand read, READY with the queues of R401. A step that fails holds the drive with the reason of R405. DRIVE_BRINGUP_TIMEOUT tries training twice more and then holds the drive. -/
def Obligations.DriveBringUp : Prop :=
  ∀ (n : Nat) (s : State), s.dpOn n = true →
    (PortIs s n dpPowering 0 → (sparseGet slotPath0 n s.slot.paths).begun = true → (s.port n).sinceNs + 100000000 ≤ s.dev.timeNs →
      ∃ t, exec (.drivePerstRelease n) s = .next t ∧ PortIs t n dpTraining 1 ∧ (t.port n).released = true) ∧
    (∀ (rate width : Nat) (flit : Bool), s.dpState n = dpTraining → 3 ≤ rate → rate ≤ s.cfg 0x0030 n 5 1 6 → rate ≤ 6 → (width = 1 ∨ width = 2) →
      ((width = 2 ∨ s.dpFlag n 3 = true) → ∃ t, exec (.driveLinkTrained n rate width flit) s = .next t ∧ PortIs t n dpConfiguring 2 ∧
        t.get F.DP_STATUS.GEN n = rate ∧ t.get F.DP_STATUS.WIDTH n = width ∧ t.flag F.DP_STATUS.FLIT n = flit) ∧
      (width = 1 → s.dpFlag n 3 = false → ∃ t, exec (.driveLinkTrained n rate width flit) s = .next t ∧ PortHeld t n 0x01)) ∧
    (PortIs s n dpConfiguring 2 → ∃ t, exec (.driveConfigDone n) s = .next t ∧ PortIs t n dpConfiguring 3) ∧
    (PortIs s n dpConfiguring 3 ∨ PortIs s n dpResetting 3 →
      (∃ t, exec (.driveControllerReady n false) s = .next t ∧ PortIs t n dpChecking 4) ∧ (∃ t, exec (.driveControllerReady n true) s = .next t ∧ PortHeld t n 0x03)) ∧
    (∀ (f : DriveFacts) (bad : Bool), PortIs s n dpChecking 4 →
      (s.checkReason f bad = none → ∃ t, exec (.driveChecksDone n f bad) s = .next t ∧ PortIs t n dpChecking 5 ∧ (t.port n).facts = some f) ∧
      (∀ r, s.checkReason f bad = some r → ∃ t, exec (.driveChecksDone n f bad) s = .next t ∧ PortHeld t n r)) ∧
    (∀ (r : BrandRead) (f : DriveFacts), PortIs s n dpChecking 5 → (s.port n).facts = some f →
      (r.brand = none → (r.readable = false ∨ s.formingAt n = none) → ∃ t, exec (.driveBrandRead n r) s = .next t ∧ PortHeld t n 0x08) ∧
      (∀ b, r.brand = some b → b.shelf ≠ s.shelfId → ∃ t, exec (.driveBrandRead n r) s = .next t ∧ PortHeld t n 0x09) ∧
      (∀ b, r.brand = some b → b.shelf = s.shelfId → s.brandReason n f b = none → ∃ t, exec (.driveBrandRead n r) s = .next t ∧ PortIs t n dpChecking 6)) ∧
    (∀ f : DriveFacts, PortIs s n dpChecking 6 → (s.port n).facts = some f →
      (∃ t, exec (.driveReady n false) s = .next t ∧ PortIs t n dpReady 7 ∧ t.get F.DP_QUEUE.MQES n = f.mqes % 2 ^ 16) ∧
      (∃ t, exec (.driveReady n true) s = .next t ∧ PortHeld t n 0x0C)) ∧
    (∀ cap : Nat, s.dpState n = dpTraining → (s.port n).sinceNs + 1000000000 ≤ s.dev.timeNs →
      ((s.port n).retrains < 2 → ∃ t, exec (.driveBringupTimeout n cap) s = .next t ∧ t.dpState n = dpTraining ∧ (t.port n).retrains = (s.port n).retrains + 1) ∧
      (2 ≤ (s.port n).retrains → ∃ t, exec (.driveBringupTimeout n cap) s = .next t ∧ PortHeld t n 0x01))

/-- O40. Removal, containment, release and errors of a drive port. SURPRISE_DOWN and an error that contains the port leave it CONTAINED with its link down, counted; another error is logged in AER only. Without presence the port is EMPTY. A contained port whose conditions hold is released after 100 ms, or by DP_CTL.RELEASE, and trains again; RELEASE on another port is ignored. DP_CTL.RESET of a READY port leaves it RESETTING after step 3. A refused request is logged and counted and a read of it completed with Unsupported Request, a poisoned aperture write marks its tag. A completion timeout returns all bits 1; an unexpected completion is counted. -/
def Obligations.DrivePortErrors : Prop :=
  ∀ (n : Nat) (s : State), s.dpOn n = true →
    (s.dpLinked n = true → ∃ t, exec (.surpriseDown n true) s = .next t ∧ t.dpState n = dpContained ∧ t.get F.DP_STATUS.GEN n = 0 ∧
      bitOf (t.get F.DP_AER_UNCOR.STATUS n) 5 = true ∧ t.get F.DP_CONTAIN.COUNT n = satIncr32 (s.get F.DP_CONTAIN.COUNT n) % 2 ^ 32) ∧
    (∃ t, exec (.surpriseDown n false) s = .next t ∧ t.dpState n = dpEmpty) ∧
    (∀ (e : Option Nat) (hdr : List Nat), s.dpLinked n = true → (∀ b, e = some b → b < 32) →
      ((∀ b, e = some b → containing b = true) → ∃ t, exec (.drivePortError n e hdr) s = .next t ∧ t.dpState n = dpContained ∧ t.get F.DP_STATUS.GEN n = 0) ∧
      (∀ b, e = some b → containing b = false → ∃ t, exec (.drivePortError n e hdr) s = .next t ∧ t.dpState n = s.dpState n ∧
        bitOf (t.get F.DP_AER_UNCOR.STATUS n) b = true)) ∧
    (s.dpState n = dpContained → s.dpFlag n 1 = true → (recentContains s.nowUs (s.port n).contains).length < s.cfg 0x0030 n 7 1 3 →
      (s.port n).containNs + 100000000 ≤ s.dev.timeNs → ∃ t, exec (.containmentAutoRelease n) s = .next t ∧ PortIs t n dpTraining 1) ∧
    (∀ src : Src, s.gate src (F.DP_CTL.RELEASE.at n 0) = .pass → ActsAtOnce s src →
      (s.dpState n = dpContained → ∃ t, exec (.dpRelease src n) s = .next t ∧ PortIs t n dpTraining 1) ∧
      (s.dpState n ≠ dpContained → exec (.dpRelease src n) s = .next s)) ∧
    (∀ src : Src, s.gate src (F.DP_CTL.RESET.at n 0) = .pass → ActsAtOnce s src →
      (s.dpState n = dpReady → ∃ t, exec (.dpReset src n) s = .next t ∧ PortIs t n dpResetting 3 ∧ (t.port n).ownReady = false) ∧
      (s.dpState n = dpEmpty → exec (.dpReset src n) s = .next s)) ∧
    (∀ (a : Nat) (hdr : List Nat), s.dpState n ≠ dpContained →
      (∃ t, exec (.inboundRequest n (.read a) false hdr) s = .next t ∧ Emitted s t (.apertureUr n a) ∧ bitOf (t.get F.DP_AER_UNCOR.STATUS n) 20 = true ∧
        t.get F.DP_INBOUND_UR.COUNT n = satIncr32 (s.get F.DP_INBOUND_UR.COUNT n) % 2 ^ 32) ∧
      (∃ t, exec (.inboundRequest n (.write a) true hdr) s = .next t ∧ t.get F.DP_POISON.COUNT n = satIncr32 (s.get F.DP_POISON.COUNT n) % 2 ^ 32 ∧ t.mem = s.mem ∧
        (a / 2 ^ 56 = 0xFE → (s.dtag (a / 2 ^ 28 % 2 ^ 18)).cmd.isSome = true → a / 2 ^ 48 % 256 = (s.dtag (a / 2 ^ 28 % 2 ^ 18)).gen →
          (t.dtag (a / 2 ^ 28 % 2 ^ 18)).poisoned = true))) ∧
    (∀ hdr : List Nat,
      (∃ t, exec (.cplTimeout n hdr) s = .next t ∧ Emitted s t (.dpRead n (2 ^ 32 - 1)) ∧ bitOf (t.get F.DP_AER_UNCOR.STATUS n) 14 = true ∧
        t.get F.DP_CPL_TIMEOUT.COUNT n = satIncr32 (s.get F.DP_CPL_TIMEOUT.COUNT n) % 2 ^ 32) ∧
      (∃ t, exec (.unexpectedCompletion n hdr) s = .next t ∧ t.get F.DP_UNEXP_CPL.COUNT n = satIncr32 (s.get F.DP_UNEXP_CPL.COUNT n) % 2 ^ 32 ∧ t.dpState n = s.dpState n))

/-- O41. Completion entries, head doorbells, admin timeouts and the polls of a drive. DRIVE_CQE_RX takes an entry from its queue, enters it into the stream when it names an outstanding command, and writes the head doorbell after 32 entries; an admin completion ends the oldest admin command. CQ_DOORBELL_TIMER writes the doorbell 4 us after the oldest unreported entry. ADMIN_CMD_TIMEOUT resets the drive controller. SIDEBAND_POLL and SMART_POLL enter what they read as HEALTH, and the third poll in a row without an answer as not answering. -/
def Obligations.DriveQueuesAndHealth : Prop :=
  ∀ (n : Nat) (s : State), s.dpOn n = true →
    (∀ e : DrvCqe, s.dpState n ≠ dpContained →
      (∀ op t0 rest, e.sqid = 0 → (s.port n).admin = (op, t0) :: rest → ∃ t, exec (.driveCqeRx n e) s = .next t ∧ (t.port n).admin = rest) ∧
      (∀ c : DrvCmd, e.sqid = 1 → s.role = roleAlone → s.cqeCmd s.sideB n e = some c → ((s.port n).q1).unreported < 31 →
        ∃ t, exec (.driveCqeRx n e) s = .next t ∧ ((t.port n).q1).unreported = ((s.port n).q1).unreported + 1 ∧
          ∃ r ∈ t.wsw.inputs, r.step = s.wsw.lastNumber + 1 ∧ ∃ k, r.input = .driveCqe n k e) ∧
      (e.sqid = 1 → 31 ≤ ((s.port n).q1).unreported → s.driveStopped = false →
        ∃ t, exec (.driveCqeRx n e) s = .next t ∧ ((t.port n).q1).unreported = 0 ∧
          Emitted s t (.doorbell n 1 false ((((s.port n).q1).cqHead + 1) % max 1 (s.queueSize n 1))))) ∧
    (((s.port n).q2).unreported ≠ 0 → ((s.port n).q2).oldestNs + 4000 ≤ s.dev.timeNs → s.driveStopped = false →
      ∃ t, exec (.cqDoorbellTimer n 2) s = .next t ∧ ((t.port n).q2).unreported = 0 ∧ Emitted s t (.doorbell n 2 false ((s.port n).q2).cqHead)) ∧
    (∀ op t0 rest, (s.port n).admin = (op, t0) :: rest → t0 + s.adminNs n ≤ s.dev.timeNs →
      ∃ t, exec (.adminCmdTimeout n) s = .next t ∧ PortIs t n dpResetting 3 ∧ (t.port n).admin = []) ∧
    (s.role = roleAlone → s.dpFlag n 2 = true → ((s.port n).lastSbNs = 0 ∨ (s.port n).lastSbNs + 1000000000 ≤ s.dev.timeNs) →
      (∀ w k u, ∃ t, exec (.sidebandPoll n (some (w, k, u))) s = .next t ∧ (t.port n).sbMissed = 0 ∧ (t.port n).lastSbNs = max 1 s.dev.timeNs ∧
        ∃ r ∈ t.wsw.inputs, r.step = s.wsw.lastNumber + 1 ∧ r.input = .driveEvent n (.health w k u 2)) ∧
      ((s.port n).sbMissed = 2 → ∃ t, exec (.sidebandPoll n none) s = .next t ∧
        ∃ r ∈ t.wsw.inputs, r.step = s.wsw.lastNumber + 1 ∧ r.input = .driveEvent n (.health 0 0 0 4))) ∧
    (s.driveStopped = false → s.role = roleAlone → s.dpState n = dpReady → ((s.port n).lastSmartNs = 0 ∨ (s.port n).lastSmartNs + 60000000000 ≤ s.dev.timeNs) →
      ∀ w k u, ∃ t, exec (.smartPoll n (some (w, k, u))) s = .next t ∧ Emitted s t (.sqe n 0 (s.drv.cidCtr % 65536) 0x02 0 0 false [] 0) ∧
        (t.port n).lastSmartNs = max 1 s.dev.timeNs ∧ ∃ r ∈ t.wsw.inputs, r.input = .driveEvent n (.health w k u 1))

/-- O42. The states of a slot power path. Each row takes the step of R435 that its measurements ask for: presence confirmed; the supply leaving its window turns the gate off, its return starts the path again; the insertion delay and the ramp; the limit loop engaging and disengaging; the two trips, which latch the path with their cause; and power-good after 50 us. A write of SLOT_CTL.ENABLE from 0 to 1 re-arms a latched path, a write of 0 turns the gate off. -/
def Obligations.SlotPathsFollowTheirStates : Prop :=
  ∀ (n ma mv : Nat) (s : State), n < 48 →
    (∀ p : Bool, (s.path n).present ≠ p → ∃ t, exec (.presenceConfirmed n p ma mv) s = .next t ∧ (t.path n).present = p ∧ Raised t (0x300 + 4 * n)) ∧
    (∀ v : Nat, (s.path n).st = chGood → (s.path n).supplyOk = true → v ≤ s.slotUv n →
      ∃ t, exec (.supplyWindowChange n v ma mv) s = .next t ∧ (t.path n).st = chSupplyOut ∧ (t.path n).supplyOk = false ∧ (t.path n).supplyMv = v ∧
        Emitted s t (.pin (.gate n) 0) ∧ t.get F.SLOT_SUPPLY_OUT.COUNT n = satIncr32 (s.get F.SLOT_SUPPLY_OUT.COUNT n) % 2 ^ 32) ∧
    (∀ v : Nat, (s.path n).st = chSupplyOut → (s.path n).supplyOk = false → s.slotUv n + 100 < v → v + 100 < s.slotOv n →
      (s.slotCompat n = false → ∃ t, exec (.supplyWindowChange n v ma mv) s = .next t ∧ (t.path n).st = chRamping ∧ Emitted s t (.pin (.gate n) 1)) ∧
      (s.slotCompat n = true → (s.path n).released = false → ∃ t, exec (.supplyWindowChange n v ma mv) s = .next t ∧ (t.path n).st = chWaiting ∧ (t.path n).supplyOk = true)) ∧
    ((s.path n).st = chWaiting → (s.path n).supplyOk = true → s.slotCompat n = true → max (s.path n).cmdNs (s.path n).supplyNs + s.insertNs n ≤ s.dev.timeNs →
      ∃ t, exec (.insertDelayExpiry n ma mv) s = .next t ∧ (t.path n).st = chRamping ∧ Emitted s t (.pin (.gate n) 1)) ∧
    ((s.path n).st = chRamping → ∃ t, exec (.rampComplete n ma mv) s = .next t ∧ (t.path n).st = (if (s.path n).engaged then chLimiting else chQualifying)) ∧
    ((s.path n).st = chGood → (s.path n).engaged = false → s.slotLimit n * 125 ≤ 2 * ma →
      (s.slotTimer n ≠ 0 → ∃ t, exec (.limitEngage n ma mv) s = .next t ∧ (t.path n).st = chLimiting ∧ (t.path n).engaged = true ∧
        t.get F.SLOT_LIMIT.COUNT n = satIncr32 (s.get F.SLOT_LIMIT.COUNT n) % 2 ^ 32 ∧ t.get F.SLOT_PG_DROP.COUNT n = satIncr32 (s.get F.SLOT_PG_DROP.COUNT n) % 2 ^ 32) ∧
      (s.slotTimer n = 0 → ∃ t, exec (.limitEngage n ma mv) s = .next t ∧ (t.path n).st = chLatched ∧ (t.path n).cause = causeTimer)) ∧
    ((s.path n).st = chLimiting → (s.path n).engaged = true →
      ∃ t, exec (.limitDisengage n ma mv) s = .next t ∧ (t.path n).st = chQualifying ∧ (t.path n).engaged = false) ∧
    ((s.path n).st ≠ chLatched → (s.path n).engaged = true → s.slotTimer n * 1000 ≤ (s.path n).timerAt s.dev.timeNs →
      ∃ t, exec (.faultTimerTrip n ma mv) s = .next t ∧ (t.path n).st = chLatched ∧ (t.path n).cause = causeTimer ∧ Raised t (0x300 + 4 * n + 2) ∧
        t.get F.SLOT_TRIPS.COUNT n = satIncr32 (s.get F.SLOT_TRIPS.COUNT n) % 2 ^ 32) ∧
    ((s.path n).st ≠ chLatched → s.fastLevel n ≤ 2 * ma →
      ∃ t, exec (.fastTrip n ma mv) s = .next t ∧ (t.path n).st = chLatched ∧ (t.path n).cause = causeFast ∧ Raised t (0x300 + 4 * n + 2)) ∧
    ((s.path n).st = chQualifying → (s.path n).engaged = false → (s.path n).goodNs + 50000 ≤ s.dev.timeNs →
      ∃ t, exec (.powerGoodQualified n ma mv) s = .next t ∧ (t.path n).st = chGood ∧ (t.path n).begun = true ∧ Raised t (0x300 + 4 * n + 1)) ∧
    (∀ src : Src, s.gate src (F.SLOT_CTL.ENABLE.at n 0) = .pass → ActsAtOnce s src →
      (s.flag F.SLOT_CTL.ENABLE n = false → (s.path n).st = chLatched → s.slotPresent n = true → s.slot.hold = false → s.consumes = true →
        ∃ t, exec (.slotEnableWrite src n true) s = .next t ∧ t.flag F.SLOT_CTL.ENABLE n = true ∧ ((t.path n).st = chWaiting ∨ (t.path n).st = chRamping) ∧ (t.path n).cause = 0) ∧
      ((s.path n).st = chGood → ∃ t, exec (.slotEnableWrite src n false) s = .next t ∧ t.flag F.SLOT_CTL.ENABLE n = false ∧ (t.path n).st = chOff ∧
        Emitted s t (.pin (.gate n) 0)))

/-- O43. When a freeze of the service port ends. R449, in a function that is frozen for the AER bit b: a FREEZE_RELEASE after software has cleared b ends the freeze; one written while the AER status still holds b changes nothing but the AER status; one written while the function is not frozen changes nothing but the AER status. A function-level reset ends a freeze. -/
def Obligations.FreezeEnds : Prop :=
  ∀ (cleared : Nat) (s : State),
    let aer := s.svc.aer &&& (2 ^ 32 - 1 - cleared % 2 ^ 32)
    (∀ b : Nat, s.svc.freezeBit = some b → bitOf aer b = false →
      ∃ t, exec (.freezeRelease cleared) s = .next t ∧ t.flag F.SVC_STATUS.FROZEN = false ∧ t.flag F.DVSEC_0C.FROZEN = false ∧ t.svc.freezeBit = none) ∧
    (∀ b : Nat, s.svc.freezeBit = some b → bitOf aer b = true →
      exec (.freezeRelease cleared) s = .next { s with svc := { s.svc with aer := aer } }) ∧
    (s.svc.freezeBit = none → exec (.freezeRelease cleared) s = .next { s with svc := { s.svc with aer := aer } }) ∧
    (∃ t, exec .functionLevelReset s = .next t ∧ t.svc.freezeBit = none ∧ t.flag F.SVC_STATUS.FROZEN = false ∧ t.flag F.DVSEC_0C.FROZEN = false)

/-- O44. Link, power state, freeze, BAR2, MSI-X masks and the timestamp FIFO of the service port. SVC_LINK_CHANGE to another speed or width shows them and raises SVC_LINK. SVC_FREEZE by a bit that is not advisory freezes a function that is not frozen: it is shown in SVC_STATUS and the DVSEC and counted, and it changes no step state, Ledger aside. BAR2_WRITE in D0 is discarded and counted. Unmasking a vector (R447), or enabling MSI-X, sends no message of a vector that is still masked. PM_STATE_WRITE shows D3hot and then sends no message. PTP_TX_ID_READ removes the head entry of the port's FIFO. -/
def Obligations.ServicePortEvents : Prop :=
  (∀ (speed width : Nat) (s : State), speed < 8 → width < 8 → (s.get F.SVC_STATUS.SPEED ≠ speed ∨ s.get F.SVC_STATUS.WIDTH ≠ width) →
      ∃ t, exec (.svcLinkChange speed width) s = .next t ∧ t.get F.SVC_STATUS.SPEED = speed ∧ t.get F.SVC_STATUS.WIDTH = width ∧
        bitOf (t.get F.EVT_STATUS.STATUS 38) 5 = true) ∧
    (∀ (b : Nat) (s : State), b < 32 → aerAdvisory b = false → s.flag F.SVC_STATUS.FROZEN = false → s.tasks = [] →
      ∃ t, exec (.svcFreeze b) s = .next t ∧ t.svc.freezeBit = some b ∧ t.flag F.SVC_STATUS.FROZEN = true ∧ t.flag F.DVSEC_0C.FROZEN = true ∧
        t.get F.DVSEC_0C.FREEZE_CAUSE = b ∧ t.get F.SVC_FREEZES.COUNT = satIncr32 (s.get F.SVC_FREEZES.COUNT) % 2 ^ 32 ∧ t.wsw = s.wsw ∧ t.nvm = s.nvm ∧ t.cht = s.cht) ∧
    (∀ (addr : Nat) (s : State), s.flag F.SVC_STATUS.D3 = false →
      ∃ t, exec (.bar2Write addr) s = .next t ∧ t.get F.SVC_BAR2_WRITE.COUNT = satIncr32 (s.get F.SVC_BAR2_WRITE.COUNT) % 2 ^ 32 ∧ t.mem = s.mem) ∧
    (∀ (v : Nat) (s : State), v < 2048 → s.flag F.SVC_STATUS.D3 = false →
      ∃ t, exec (.msixUnmask (.vector v false)) s = .next t ∧ v ∈ t.svc.unmasked ∧
        ∀ w, t.svc.unmasked.contains w = false → t.out.count (.msix w) = s.out.count (.msix w)) ∧
    (∀ s : State, ∃ t, exec (.pmStateWrite true) s = .next t ∧ t.flag F.SVC_STATUS.D3 = true ∧ t.out = s.out) ∧
    (∀ (src : Src) (port : Nat) (e : Nat × Nat × Nat) (rest : List (Nat × Nat × Nat)) (s : State), port < 4 →
      s.gate src (F.PTP_TX_ID.VALID.at port 0) = .pass → sparseGet [] port s.hp.fifo = e :: rest →
      ∃ t v, exec (.ptpTxIdRead src port) s = .next t ∧ sparseGet [] port t.hp.fifo = rest ∧ .bar0Data (F.PTP_TX_ID.VALID.at port 0) 4 v ∈ t.out ∧ 2 ^ 31 ≤ v)

/-- O45. A GO while a task runs is refused, and NOP ends at once with OK. R459: while BUSY is 1, a GO leaves the running tasks alone, sets REFUSED, counts in TASK_REFUSALS and raises TASK_REFUSED. While BUSY is 0, NOP (R455) ends at once: TASK_TAG echoes the block's TAG, CODE is OK, DONE is 1 and BUSY 0; an ARGC above 10 ends it with BAD_ARG. -/
def Obligations.AGoIsAcceptedOrRefused : Prop :=
  (∀ (go : TaskGo) (s : State), s.gate .svc F.TASK_GO.GO.off = .pass → s.flag F.TASK_STATUS.BUSY = true →
      ∃ t, exec (.nop go) s = .next t ∧ t.tasks = s.tasks ∧ t.flag F.TASK_STATUS.BUSY = true ∧ t.flag F.TASK_STATUS.REFUSED = true ∧
        t.get F.TASK_REFUSALS.COUNT = satIncr32 (s.get F.TASK_REFUSALS.COUNT) % 2 ^ 32 ∧ bitOf (t.get F.EVT_STATUS.STATUS 38) 1 = true) ∧
    (∀ (go : TaskGo) (s : State), TaskStarts s 0x0001 go → ∃ t, exec (.nop go) s = .next t ∧ TaskEnded t go tsOk) ∧
    (∀ (go : TaskGo) (s : State), s.gate .svc F.TASK_GO.GO.off = .pass → s.flag F.TASK_STATUS.BUSY = false → 10 < go.argc →
      ∃ t, exec (.nop go) s = .next t ∧ (s.inPair = false → TaskEnded t go tsBadArg))

/-- O46. The tasks that act on one controller. R455, for a GO that is accepted: IDENTITY returns the public identity key; OWNER_COMMISSION burns the digest of its key into slot 0 where it is unburned (R456); FW_ABORT closes the delivery; LEDGER_READ returns 64 bytes for each record; each ends with OK. WARM_RESET ends with a warm reset asked for. DRIVE_FW sends the block to a READY drive as Firmware Image Download and goes on. -/
def Obligations.LocalTasks : Prop :=
  (∀ (go : TaskGo) (s : State), TaskStarts s 0x0002 go → go.dataLen = 97 →
      ∃ t, exec (.identity go) s = .next t ∧ TaskEnded t go tsOk ∧ .taskData go.dataAddr s.dev.fuseIdentity ∈ t.out) ∧
    (∀ (go : TaskGo) (b : List Byte) (digest : Nat) (r : Bool) (rest : List (Option Nat × Bool)) (s : State), TaskStarts s 0x0020 go → go.dataLen = 97 → b.length = 97 →
      s.dev.ownerKeys = (none, r) :: rest →
      ∃ t, exec (.ownerCommission go (.bytes b) digest) s = .next t ∧ TaskEnded t go tsOk ∧ t.dev.ownerKeys = (some digest, false) :: rest) ∧
    (∀ (go : TaskGo) (s : State), TaskStarts s 0x0041 go → ∃ t, exec (.fwAbort go) s = .next t ∧ TaskEnded t go tsOk ∧ t.fw.delivery = none) ∧
    (∀ (go : TaskGo) (s : State), TaskStarts s 0x0090 go → go.arg 0 < 65536 → 0 < go.arg 1 → go.arg 1 ≤ 16384 → go.dataLen = 64 * go.arg 1 →
      ∃ t, exec (.ledgerRead go) s = .next t ∧ TaskEnded t go tsOk ∧ .taskData go.dataAddr (s.ledgerSlots (go.arg 0) (go.arg 1)) ∈ t.out) ∧
    (∀ (go : TaskGo) (s : State), TaskStarts s 0x0081 go → s.resetRuns = false → s.pwr.warm = none →
      ∃ t, exec (.warmReset go) s = .next t ∧ t.pwr.warm = some 2) ∧
    (∀ (go : TaskGo) (b : List Byte) (s : State), TaskStarts s 0x0052 go → go.dataLen ≠ 0 → go.arg 0 < 48 → s.dpState (go.arg 0) = dpReady → go.arg 1 % 4 = 0 → go.arg 2 < 2 →
      b.length % 4 = 0 →
      ∃ t, exec (.driveFw go (.bytes b)) s = .next t ∧ (t.port (go.arg 0)).admin = (s.port (go.arg 0)).admin ++ [(0x11, s.dev.timeNs)] ∧
        t.flag F.TASK_STATUS.BUSY = true)

/-- O47. The Pattern tasks of a controller that serves alone in Solo. R457: PAT_BLOCK at offset 0 opens a delivery with the block's bytes, and one at its end adds them. PAT_COMMIT of a whole image that passes the checks begins the commit of exactly that image, and closes the delivery; PAT_ABORT discards it. OVERLAY_SET of a value that the records in force permit begins the commit of exactly that value (R50, R593). -/
def Obligations.PatternTasks : Prop :=
  ∀ (go : TaskGo) (s : State), SoloAlone s →
    (∀ b : List Byte, TaskStarts s 0x0010 go → go.dataLen ≠ 0 → s.flag F.FWU_STATUS.TRIAL = false → s.pat.delivery = none → s.patternBusy = false → go.arg 0 = 0 →
      go.arg 1 ≤ 4194304 → b.length ≤ go.arg 1 →
      ∃ t, exec (.patBlock go (.bytes b)) s = .next t ∧ TaskEnded t go tsOk ∧ t.pat.delivery = some (go.arg 1, b)) ∧
    (∀ a b : List Byte, TaskStarts s 0x0010 go → go.dataLen ≠ 0 → s.flag F.FWU_STATUS.TRIAL = false → s.pat.delivery = some (go.arg 1, a) → go.arg 0 = a.length → a ≠ [] →
      a.length + b.length ≤ go.arg 1 →
      ∃ t, exec (.patBlock go (.bytes b)) s = .next t ∧ TaskEnded t go tsOk ∧ t.pat.delivery = some (go.arg 1, a ++ b)) ∧
    (TaskStarts s 0x0012 go → ∃ t, exec (.patAbort go) s = .next t ∧ TaskEnded t go tsOk ∧ t.pat.delivery = none) ∧
    (∀ (img : List Byte) (sig : SigCheck), TaskStarts s 0x0011 go → StoreIdle s → s.flag F.FWU_STATUS.TRIAL = false → s.pat.delivery = some (img.length, img) →
      (checkImage img (s.userAuth img sig) (some s.patSeq) (some s.pat.live) s.branded).isOk = true →
      ∃ t, exec (.patCommit go sig 0) s = .next t ∧ Committing t [.pattern img] ∧ t.pat.delivery = none ∧ t.flag F.TASK_STATUS.BUSY = true) ∧
    (∀ v : OvlVal, TaskStarts s 0x0013 go → StoreIdle s → s.flag F.FWU_STATUS.TRIAL = false →
      v = ⟨go.arg 0, go.arg 1, go.arg 2, go.arg 3, (go.arg 4 + go.arg 5 * 2 ^ 32) % 2 ^ (8 * go.arg 3 % 128)⟩ → ovlPermits s.pat.live v = true →
      s.hasRecord v.type v.inst = true → (ovlApply s.pat.live v).isOk = true →
      ∃ t, exec (.overlaySet go) s = .next t ∧ Committing t [.overlay v])

/-- O48. The signed tasks of a controller that serves alone in Solo. R453: a signed task whose nonce, key and signature hold carries out its change and commits it together with the advanced nonce: OWNER_ROTATE the burned digest, KEY_INSTALL the installed epoch, KEY_SWITCH and KEY_RETIRE the switched and the retired epochs (R142), ADMIT_SET the admission range (R137). One that fails a check commits the advanced nonce alone and raises SIG_FAIL. -/
def Obligations.SignedTasks : Prop :=
  ∀ (go : TaskGo) (b : List Byte) (sig : SigCheck) (s : State), SoloAlone s → StoreIdle s → s.flag F.FWU_STATUS.TRIAL = false → go.dataLen ≠ 0 →
    go.arg 8 = s.pat.settings.sigNonce % 2 ^ 32 → go.arg 9 = s.pat.settings.sigNonce / 2 ^ 32 → s.ownerDigest = some sig.keyDigest →
    let nonce : StoreChange := .sigNonce (s.pat.settings.sigNonce + 1)
    (∀ (digest : Nat), TaskStarts s 0x0021 go → sig.verifies = true → b.length = 97 + 193 → s.dev.ownerKeys.all (fun k => k.1.isSome) = false →
      ∃ t, exec (.ownerRotate go (.bytes b) sig digest true) s = .next t ∧ Committing t [nonce] ∧ t.dev.ownerKeys = (s.burnOwner digest).dev.ownerKeys) ∧
    (∀ (key : Nat) (es : List EpochKey) (p : Bool), TaskStarts s 0x0030 go → sig.verifies = true → b.length = 314 + 193 → go.arg 0 < 65536 →
      installEpoch s.pat.settings.epochs (go.arg 0) key = some es →
      ∃ t, exec (.keyInstall go (.bytes b) sig ⟨some key, p⟩) s = .next t ∧ Committing t [.epochs es, nonce]) ∧
    (∀ es : List EpochKey, TaskStarts s 0x0031 go → sig.verifies = true → b.length = 193 → switchEpoch s.pat.settings.epochs = some es →
      ∃ t, exec (.keySwitch go (.bytes b) sig) s = .next t ∧ Committing t [.epochs es, nonce]) ∧
    (∀ es : List EpochKey, TaskStarts s 0x0032 go → sig.verifies = true → b.length = 193 → s.flm.switchUs + s.lmaxUs ≤ s.nowUs → retireEpoch s.pat.settings.epochs = some es →
      ∃ t, exec (.keyRetire go (.bytes b) sig) s = .next t ∧ Committing t [.epochs es, nonce]) ∧
    (TaskStarts s 0x0033 go → sig.verifies = true → b.length = 193 → go.arg 0 < 16 →
      ∃ t, exec (.admitSet go (.bytes b) sig) s = .next t ∧ Committing t [.admission (go.arg 0) (go.arg 1) (go.arg 2), nonce]) ∧
    (TaskStarts s 0x0033 go → sig.verifies = false → b.length = 193 →
      ∃ t, exec (.admitSet go (.bytes b) sig) s = .next t ∧ Committing t [nonce] ∧ bitOf (t.get F.EVT_STATUS.STATUS 38) 6 = true)

/-- O49. The step tasks on drives, migrations, addresses and power of a controller that serves alone in Solo. DRIVE_ACCEPT of a HELD drive (reason not 1, 2, 4; FOREIGN with ERASE_FOREIGN) at the index of a FAILED member makes the member REBUILDING at that port. MEMBER_FAIL fails the member. MIG_START opens the slot in pass 1, MIG_CUTOVER asks for the cutover of a running one, MIG_CANCEL ends it with MIG_FAIL. ADDR_SET writes the address table. POWER_ENTER begins the entry where R537 allows it. Each ends with OK. -/
def Obligations.DriveMigrationPowerTasks : Prop :=
  ∀ (go : TaskGo) (s : State), SoloAlone s →
    (TaskStarts s 0x0050 go → go.arg 0 < 48 → s.memberExists (go.arg 1) (go.arg 2) = true → s.dpState (go.arg 0) = dpHeld → s.memberState (go.arg 1) (go.arg 2) = mFailed →
      s.get F.DP_STATUS.REASON (go.arg 0) = 9 → bitOf (go.arg 3) 0 = true →
      ∃ t, exec (.driveAccept go) s = .next t ∧ TaskEnded t go tsOk ∧
        ((s.port (go.arg 0)).facts.isSome = true → t.memberState (go.arg 1) (go.arg 2) = mRebuilding)) ∧
    (TaskStarts s 0x0051 go → s.memberExists (go.arg 0) (go.arg 1) = true → ∃ t, exec (.memberFail go) s = .next t ∧ TaskEnded t go tsOk) ∧
    (∀ (ip : IpAddr) (n : NsEnt), TaskStarts s 0x0060 go → go.arg 0 < 16 → go.arg 3 < 2 ^ 24 → s.mig? (go.arg 0) = none → s.tly.stopped = false → s.ns? (go.arg 1) (go.arg 2) = some n →
      ∃ t m, exec (.migStart go ip) s = .next t ∧ TaskEnded t go tsOk ∧ t.mig? (go.arg 0) = some m ∧ m.state = 1 ∧ m.pass = 1 ∧ m.sub = go.arg 1 ∧ m.nsid = go.arg 2 ∧
        m.peer = go.arg 3 ∧ m.ip = ip ∧ m.window = go.arg 4) ∧
    (∀ m : Mig, TaskStarts s 0x0061 go → go.arg 0 < 16 → s.mig? (go.arg 0) = some m → m.state = 1 →
      ∃ t, exec (.migCutover go) s = .next t ∧ TaskEnded t go tsOk ∧ (t.mig? (go.arg 0)).map (·.state) = some 2) ∧
    (∀ m : Mig, TaskStarts s 0x0062 go → go.arg 0 < 16 → s.mig? (go.arg 0) = some m → m.state = 1 →
      ∃ t, exec (.migCancel go) s = .next t ∧ TaskEnded t go tsOk ∧ (t.mig? (go.arg 0)).map (·.state) = some 4) ∧
    (∀ b : List Byte, TaskStarts s 0x0070 go → go.dataLen ≠ 0 → go.arg 0 < 2 → go.arg 1 < 32 → go.arg 2 < 4 → b.length = 4 → allZero b = false →
      ∃ t, exec (.addrSet go (.bytes b)) s = .next t ∧ TaskEnded t go tsOk ∧
        sparseGet none (go.arg 0 * 256 + go.arg 1 * 8 + go.arg 2) t.fx.addrTable = some ⟨false, beNat b⟩) ∧
    (TaskStarts s 0x0080 go → go.arg 0 = 1 → s.entryHeld = false → s.entryBlocked = false → s.power = stActive →
      ∃ t, exec (.powerEnter go) s = .next t ∧ TaskEnded t go tsOk ∧ t.power = stToDrowse)

/-- O50. A task whose data come, one that was deferred, and one that the partner ends. TASK_DATA_READ_DONE with the data carries out the task that waits for them (shown for IDENTITY-like local work on FW_BLOCK refused in a trial window), and with an error ends it with DMA_FAULT (R458). DEFERRED_TASK_RUN carries out a deferred task once the device is Active again. TASK_END ends a step task with PARTNER and the partner's code where the results differ, and with its own code where they agree. -/
def Obligations.TasksGoOn : Prop :=
  (∀ (r : TaskRun) (s : State), s.tasks = [r] → r.own = true → r.phase = .reading → (taskInfo r.code).any (·.takesData) = true → r.go.dataLen ≠ 0 →
      (∃ t, exec (.taskDataReadDone .fault) s = .next t ∧ TaskEnded t r.go tsDmaFault ∧ t.tasks = []) ∧
      ∀ b : List Byte, r.code = 0x0040 → s.flag F.FWU_STATUS.TRIAL = true →
        ∃ t, exec (.taskDataReadDone (.bytes b)) s = .next t ∧ TaskEnded t r.go tsRefused ∧ t.tasks = []) ∧
    (∀ (r : TaskRun) (s : State), s.tasks = [r] → r.own = true → r.phase = .deferred → r.code = 0x0001 → s.power = stActive →
      ∃ t, exec .deferredTaskRun s = .next t ∧ TaskEnded t r.go tsOk ∧ t.tasks = []) ∧
    (∀ (r : TaskRun) (code partnerCode : Nat) (res : List Nat) (s : State), s.tasks = [r] → r.own = true → r.phase = .partner code res → s.inPair = true →
      s.partnerInStep = true → code < 256 → 
      ∃ t, exec (.taskEnd partnerCode) s = .next t ∧ TaskEnded t r.go (if partnerCode = code then code else tsPartner) ∧
        (partnerCode ≠ code → t.get F.TASK_RESULT.VALUE 1 = partnerCode % 2 ^ 32))

/-- O51. Xkvq instructions, faults and pre-emption of engines, translation invalidation, the test event. KVQ.POP removes the head of a queue or answers all bits 1; KVQ.PUSH appends, or answers 1 when the queue is full and appends nothing; KVQ.WAIT answers the lowest non-empty queue of its mask, or waits and is answered later; KVQ.RING moves a tail. What a tenant may not reach raises cause 2 and is counted. A faulting access takes its RISC-V cause and writes nothing. A ready task of higher priority than every running one takes the place of the lowest; another one waits. XLT_INVAL clears IDLE until no old unit is in flight. EVT_RAISE raises its event. -/
def Obligations.EnginesAndTheirQueues : Prop :=
  (∀ (n : Nat) (m : Mode) (rs1 rs2 : Word) (s : State), n < 32 →
      let c := n / 8
      let q := rs1.toNat % 64
      (s.queueReach n m q = true →
        (s.queue c q = [] → exec (.kvqPop n m rs1) s = .next (s.emit (.engineRd n (2 ^ 64 - 1)))) ∧
        (∀ e rest, s.queue c q = e :: rest → ∃ t, exec (.kvqPop n m rs1) s = .next t ∧ t.queue c q = rest ∧ Emitted s t (.engineRd n e.toNat)) ∧
        ((s.queue c q).length < queueDepth q → ∃ t, exec (.kvqPush n m rs1 rs2) s = .next t ∧ t.queue c q = s.queue c q ++ [rs2] ∧ Emitted s t (.engineRd n 0)) ∧
        (queueDepth q ≤ (s.queue c q).length → exec (.kvqPush n m rs1 rs2) s = .next (s.emit (.engineRd n 1)))) ∧
      (s.queueReach n m q = false → ∃ t, exec (.kvqPop n m rs1) s = .next t ∧ exec (.kvqPush n m rs1 rs2) s = .next t ∧ Emitted s t (.exception n 2) ∧
        t.get F.XLT_TENANT_FAULT.COUNT = satIncr32 (s.get F.XLT_TENANT_FAULT.COUNT) % 2 ^ 32) ∧
      (rs1 = 0 → exec (.kvqWait n m rs1) s = .next (s.emit (.engineRd n (2 ^ 64 - 1)))) ∧
      ((∀ k < 64, bitOf rs1.toNat k = true → s.queueReach n m k = true) → rs1 ≠ 0 →
        (∀ k, s.readyQueue c rs1.toNat = some k → exec (.kvqWait n m rs1) s = .next (s.emit (.engineRd n k))) ∧
        (s.readyQueue c rs1.toNat = none → ∃ t, exec (.kvqWait n m rs1) s = .next t ∧ t.get F.ENG_STATUS.STATE n = 1 ∧ sparseGet 0 n t.eng.waits = rs1.toNat)) ∧
      (∀ k, s.readyQueue c (sparseGet 0 n s.eng.waits) = some k →
        ∃ t, exec (.kvqWaitWake n) s = .next t ∧ t.get F.ENG_STATUS.STATE n = 0 ∧ sparseGet 0 n t.eng.waits = 0 ∧ Emitted s t (.engineRd n k))) ∧
    (∀ (n cqHead : Nat) (m : Mode) (rs1 rs2 : Word) (bufs : List RxBuf) (s : State),
      (s.tenantRuns n m = false → bitOf rs1.toNat 16 = false → ∃ t, exec (.kvqRing n m rs1 rs2 cqHead bufs) s = .next t ∧
        (t.wq (rs1.toNat % 65536)).sqTail = rs2.toNat % 65536 ∧ (t.wq (rs1.toNat % 65536)).ctx.cqHead = cqHead) ∧
      (s.tenantRuns n m = false → bitOf rs1.toNat 16 = true → ∃ t, exec (.kvqRing n m rs1 rs2 cqHead bufs) s = .next t ∧
        (t.wq (rs1.toNat % 65536)).rqTail = rs2.toNat % 65536) ∧
      (s.tenantRuns n m = true → s.tenantWq (n / 8) (rs1.toNat % 65536) = false → ∃ t, exec (.kvqRing n m rs1 rs2 cqHead bufs) s = .next t ∧
        Emitted s t (.exception n 2) ∧ t.wq (rs1.toNat % 65536) = s.wq (rs1.toNat % 65536))) ∧
    (∀ (n va : Nat) (m : Mode) (k : AccKind) (un : Bool) (s : State), n < 32 →
      (∃ t, exec (.engineAccessFault n m k .page va un) s = .next t ∧ Emitted s t (.exception n (accCause k .page)) ∧ t.mem = s.mem ∧
        t.get F.XLT_FAULTS.COUNT = satIncr32 (s.get F.XLT_FAULTS.COUNT) % 2 ^ 32 ∧ (un = true → Raised t (0x400 + 4 * n))) ∧
      (∃ t, exec (.engineAccessFault n m k .access va un) s = .next t ∧ Emitted s t (.exception n (accCause k .access)) ∧ t.mem = s.mem)) ∧
    (∀ (c p : Nat) (s : State), c < 4 → p < 16 →
      (s.allRunLower c p = true → ∃ t, exec (.taskPreempt c p false) s = .next t ∧ t.get F.ENG_STATUS.PRIORITY (s.lowestRunning c) = p ∧
        Emitted s t (.preempted (s.lowestRunning c) p) ∧ t.eng.ready = s.eng.ready ++ [(clusterOf (s.lowestRunning c), s.get F.ENG_STATUS.PRIORITY (s.lowestRunning c))]) ∧
      ((s.eng.ready.filter (fun r => r.1 == c)).length < 256 → ∃ t, exec (.taskPreempt c p true) s = .next t ∧ t.eng.ready = s.eng.ready ++ [(c, p)])) ∧
    (∀ (src : Src) (scope asid vpn : Nat) (s : State), s.gate src (F.XLT_INVAL.SCOPE.at 0 0) = .pass →
      (scope < 3 → exec (.xltInval src scope asid vpn) s = .next (s.set F.XLT_STATUS.IDLE 0)) ∧ (3 ≤ scope → exec (.xltInval src scope asid vpn) s = .next s)) ∧
    (∀ s : State, s.flag F.XLT_STATUS.IDLE = false → ∃ t, exec .xltInvalDone s = .next t ∧ t.flag F.XLT_STATUS.IDLE = true ∧ Raised t 0x00F) ∧
    (∀ (src : Src) (e : Nat) (s : State), s.gate src (F.EVT_RAISE.EVENT.at 0 0) = .pass → e < 1280 → ∃ t, exec (.evtRaiseWrite src e) s = .next t ∧ Raised t e)

/-- O52. The states of a DMA channel. DMA_START on an idle channel starts a well-formed descriptor, completes one of LENGTH 0 at once and ends a bad one with BAD_DESC; on a running one it is counted only. A running channel copies its last span: the destination then reads as the source did and no other byte changes. A translation fault pauses it with the bytes done and the faulting address. RESUME lets it run on, ABORT ends it with XLT_FAULT. -/
def Obligations.DmaChannels : Prop :=
  ∀ (n ch : Nat) (s : State), n < 32 → ch < 2 →
    (∀ (src : Src) (m : Mode) (a : Nat), s.gate src (F.DMA_DESC.ADDR.at n ch) = .pass →
      let d := dmaDesc (s.memRead a 32)
      (s.get F.DMA_STATUS.STATE n ch = chIdle → a % 32 = 0 → a < 0xC_0000_0000 → s.dmaBad n m d = false →
        (d.len = 0 → ∃ t, exec (.dmaStart src n ch m a []) s = .next t ∧ t.get F.DMA_STATUS.STATE n ch = chIdle ∧ t.get F.DMA_STATUS.LAST n ch = 0) ∧
        (d.len ≠ 0 → ∃ t, exec (.dmaStart src n ch m a []) s = .next t ∧ t.get F.DMA_STATUS.STATE n ch = chRunning ∧ t.chan? n ch = some ⟨d, 0, false⟩)) ∧
      (s.get F.DMA_STATUS.STATE n ch = chIdle → s.dmaBad n m d = true →
        ∃ t, exec (.dmaStart src n ch m a []) s = .next t ∧ t.get F.DMA_STATUS.STATE n ch = chIdle ∧ t.get F.DMA_STATUS.LAST n ch = 3 ∧ Raised t (0x400 + 4 * n + 2)) ∧
      (s.get F.DMA_STATUS.STATE n ch = chRunning → exec (.dmaStart src n ch m a []) s = .next (s.bump F.DMA_REFUSED.COUNT n ch))) ∧
    (∀ (c : Chan) (x y : Nat), s.chan? n ch = some c → s.get F.DMA_STATUS.STATE n ch = chRunning → c.desc.srcAsid = physAsid → c.desc.dstAsid = physAsid →
      c.done + c.span = c.desc.len → memSpan (c.desc.src + c.done) c.span = true → memSpan (c.desc.dst + c.done) c.span = true → s.poison = [] → c.poison = false →
      ∃ t, exec (.dmaComplete n ch [.ok x y]) s = .next t ∧ t.get F.DMA_STATUS.STATE n ch = chIdle ∧ t.get F.DMA_STATUS.LAST n ch = 0 ∧
        t.memRead (c.desc.dst + c.done) c.span = s.memRead (c.desc.src + c.done) c.span ∧
        ∀ b, (b < c.desc.dst + c.done ∨ c.desc.dst + c.done + c.span ≤ b) → t.memByte b = s.memByte b) ∧
    (∀ (c : Chan) (va : Nat), s.chan? n ch = some c → s.get F.DMA_STATUS.STATE n ch = chRunning → c.desc.srcAsid ≠ physAsid →
      ∃ t, exec (.dmaComplete n ch [.fault va]) s = .next t ∧ t.get F.DMA_STATUS.STATE n ch = chPaused ∧ t.get F.DMA_DONE.VALUE n ch = c.done % 2 ^ 64 ∧
        t.get F.DMA_FAULT_VA.VALUE n ch = va % 2 ^ 64 ∧ t.mem = s.mem ∧ Raised t (0x400 + 4 * n + 1)) ∧
    (∀ (src : Src) (c : Chan), s.gate src (F.DMA_CTL.RESUME.at n ch) = .pass → s.chan? n ch = some c → s.get F.DMA_STATUS.STATE n ch = chPaused →
      ∃ t, exec (.dmaResume src n ch []) s = .next t ∧ t.get F.DMA_STATUS.STATE n ch = chRunning ∧ t.chan? n ch = some c) ∧
    (∀ src : Src, s.gate src (F.DMA_CTL.ABORT.at n ch) = .pass → s.get F.DMA_STATUS.STATE n ch = chPaused →
      ∃ t, exec (.dmaAbort src n ch) s = .next t ∧ t.get F.DMA_STATUS.STATE n ch = chIdle ∧ t.get F.DMA_STATUS.LAST n ch = 2 ∧ Raised t (0x400 + 4 * n + 2))

/-- O53. What the Cruiser reads, logs and repairs. The Cruiser reads the word at its position and moves on; at the end of HBM it goes back to 0 and raises CRUISE_PASS_HBM. A corrected word is counted, written back unless its line has been written, and logged with its syndrome and bit, merged into a record of the same address and kind within 1 s; a full log drops it and counts that. An uncorrectable word is poison, counted and raised. Poisoned step state makes the leader ask for the granule; the follower sends it once it has consumed the step named; the leader installs it, counts it and raises REPAIR_DONE, or REPAIR_FAIL for a poisoned copy. MEM_LOG_RELEASE drops the oldest records. -/
def Obligations.CruiserAndLog : Prop :=
  (∀ (found : EccFinding) (owner : MemUse) (s : State), s.power ≠ stFallow → s.mi.marks = [] → s.poisoned (s.get F.CRS_POS_HBM.ADDRESS) = false →
      let a := s.get F.CRS_POS_HBM.ADDRESS
      (a + 8 < 0xC_0000_0000 → found = .clean → ∃ t, exec (.cruiserRead false found owner) s = .next t ∧ t.get F.CRS_POS_HBM.ADDRESS = a + 8 ∧ t.mi = s.mi ∧ t.mem = s.mem ∧ t.poison = s.poison) ∧
      (a + 8 = 0xC_0000_0000 → found = .clean → ∃ t, exec (.cruiserRead false found owner) s = .next t ∧ t.get F.CRS_POS_HBM.ADDRESS = 0 ∧ Raised t 0x3C8) ∧
      (∀ b y w, a + 8 < 0xC_0000_0000 → found = .corrected b y w →
        (s.mi.log = [] → ∃ t r, exec (.cruiserRead false found owner) s = .next t ∧ t.mi.log = [r] ∧ r.addr = a ∧ r.kind = 1 ∧ r.source = 2 ∧ r.syndrome = y ∧ r.bit = b ∧ r.count = 1 ∧
          r.time = s.dev.timeNs ∧ t.get F.MEM_CE.COUNT = satIncr32 (s.get F.MEM_CE.COUNT) % 2 ^ 32 ∧
          t.get F.CRS_CORRECTED.COUNT = (if w then s.get F.CRS_CORRECTED.COUNT else satIncr32 (s.get F.CRS_CORRECTED.COUNT) % 2 ^ 32)) ∧
        (∀ r, s.mi.log = [r] → r.addr = a → r.kind = 1 → s.dev.timeNs < r.time + 1000000000 →
          ∃ t, exec (.cruiserRead false found owner) s = .next t ∧ t.mi.log = [{ r with count := min 4294967295 (r.count + 1) }]) ∧
        (4096 ≤ s.mi.log.length → (∀ r ∈ s.mi.log, r.addr ≠ a) → ∃ t, exec (.cruiserRead false found owner) s = .next t ∧ t.mi.log = s.mi.log ∧
          t.get F.MEM_LOG_DROP.COUNT = satIncr32 (s.get F.MEM_LOG_DROP.COUNT) % 2 ^ 32)) ∧
      (∀ y, found = .uncorrectable y → a + 8 < 0xC_0000_0000 →
        (owner = .localState → ∃ t, exec (.cruiserRead false found owner) s = .next t ∧ t.poisoned a = true ∧ Raised t 0x3C1 ∧
          t.get F.MEM_UE.COUNT = satIncr32 (s.get F.MEM_UE.COUNT) % 2 ^ 32) ∧
        (owner ≠ .localState → s.role = roleLeader → a / 4096 ∉ s.mi.repair → ∃ t, exec (.cruiserRead false found owner) s = .next t ∧ t.mi.repair = s.mi.repair ++ [a / 4096] ∧
          Emitted s t (.repairRequest (a / 4096) s.dev.stepNo)))) ∧
    (∀ (g step : Nat) (s : State), s.role = roleFollower → s.mi.repairWaits = [] →
      (step ≤ s.dev.stepNo → ∃ t, exec (.repairRequestRx g step) s = .next t ∧ t.mi.repairWaits = [] ∧
        Emitted s t (.repairGranule g (s.memRead (4096 * g) 4096) (s.poisonIn (4096 * g) 4096))) ∧
      (s.dev.stepNo < step → ∃ t, exec (.repairRequestRx g step) s = .next t ∧ t.mi.repairWaits = [(g, step)] ∧ t.out = s.out)) ∧
    (∀ (g : Nat) (bytes : List Byte) (s : State), g ∈ s.mi.repair →
      (bytes.length = 4096 → s.poison = [4096 * g / 8] → s.mi.inject = none → ∃ t, exec (.repairGranuleRx g bytes false) s = .next t ∧ t.memRead (4096 * g) 4096 = bytes ∧
        (∀ a, (a < 4096 * g ∨ 4096 * g + 4096 ≤ a) → t.memByte a = s.memByte a) ∧ t.poison = [] ∧ t.mi.repair = s.mi.repair.erase g ∧
        t.get F.MEM_REPAIR.COUNT = satIncr32 (s.get F.MEM_REPAIR.COUNT) % 2 ^ 32 ∧ Raised t 0x3C3) ∧
      (∃ t, exec (.repairGranuleRx g bytes true) s = .next t ∧ t.mem = s.mem ∧ t.mi.repair = s.mi.repair.erase g ∧ Raised t 0x3C4)) ∧
    (∀ (src : Src) (n : Nat) (s : State), s.gate src (F.MEM_LOG_RELEASE.N.at 0 0) = .pass → n < 8192 → s.mi.log.length ≤ 4096 →
      ∃ t, exec (.memLogRelease src n) s = .next t ∧ t.mi.log = s.mi.log.drop n ∧ t.get F.MEM_LOG_STATUS.COUNT = s.mi.log.length - n ∧
        t.get F.MEM_LOG_STATUS.HEAD = (s.get F.MEM_LOG_STATUS.HEAD + min n s.mi.log.length) % 4096)

/-- O54. Retirement of pages, banks and buffers, and injected errors. A MEM_RETIRE request is refused with RESULT and RETIRE_DONE: 2 when the list holds 16,384 entries, 4 for a unit that is retired or whose bank is, 5 for an index out of range; any other one runs, with BUSY. When its copy is complete the unit is retired, RESULT is 1, and the list is committed. MEM_INJECT arms an error for one word: the next store to that word spoils it. -/
def Obligations.RetirementAndInjection : Prop :=
  (∀ (src : Src) (kind index : Nat) (s : State), s.gate src (F.MEM_RETIRE.KIND.at 0 0) = .pass → s.mi.retiring = none → kind < 4 → index < 2 ^ 32 →
      (∀ code, (16384 ≤ s.mi.applied.length ∧ code = 2) ∨
          (s.mi.applied.length < 10 ∧ code = 4 ∧ s.spareUsed 0 + 4096 ≤ stackSpare ∧ s.spareUsed 1 + 4096 ≤ stackSpare ∧
            (⟨kind, index⟩ ∈ s.mi.applied ∨ (kind = 0 ∧ ⟨1, index / 4096⟩ ∈ s.mi.applied))) ∨
          (s.mi.applied = [] ∧ code = 5 ∧ (kind = 3 ∨ (kind = 0 ∧ 12582912 ≤ index) ∨ (kind = 1 ∧ 3072 ≤ index) ∨ (kind = 2 ∧ 32768 ≤ index))) →
        ∃ t, exec (.memRetire src kind index) s = .next t ∧ t.get F.MEM_RETIRE_STATUS.RESULT = code ∧ Raised t 0x3C6 ∧ t.mi = s.mi) ∧
      (s.mi.applied = [] → (kind = 0 ∧ index < 12582912) ∨ (kind = 1 ∧ index < 3072) ∨ (kind = 2 ∧ index < 32768) →
        ∃ t, exec (.memRetire src kind index) s = .next t ∧ t.mi.retiring = some ⟨kind, index⟩ ∧ t.flag F.MEM_RETIRE_STATUS.BUSY = true ∧ t.mi.applied = s.mi.applied)) ∧
    (∀ (e : RetEntry) (s : State), s.mi.retiring = some e → s.mi.marks = [] → StoreIdle s →
      ∃ t, exec .retireComplete s = .next t ∧ t.mi.applied = s.mi.applied ++ [e] ∧ t.mi.retiring = none ∧ t.flag F.MEM_RETIRE_STATUS.BUSY = false ∧
        t.get F.MEM_RETIRE_STATUS.RESULT = 1 ∧ Raised t 0x3C6 ∧ Committing t [.retire e] ∧ t.mem = s.mem) ∧
    (∀ (src : Src) (kind addr : Nat) (yard : Bool) (s : State), s.gate src (F.MEM_INJECT.KIND.at 0 0) = .pass → addr < 0x1_0000_0000 → addr % 8 = 0 →
      let w := (if yard then 0x10_0000_0000 + addr else addr) / 8
      (kind = 0 → ∃ t, exec (.memInject src kind yard addr) s = .next t ∧ t.mi.inject = none ∧ t.mem = s.mem) ∧
      (1 ≤ kind → kind < 4 → ∃ t, exec (.memInject src kind yard addr) s = .next t ∧ t.mi.inject = some (kind, w) ∧ t.mem = s.mem ∧ t.poison = s.poison ∧
        (2 ≤ kind → ∀ b : List Byte, b.length = 8 → (t.store (8 * w) b).poisoned (8 * w) = true)))

/-- O55. The Locksmith takes, holds and ends a job. A write of LSM_DESC from the service port starts nothing and is recorded; one while a job runs is counted only. A descriptor that R496 refuses ends at once with its result, counted, with LSM_DONE. A job with a good descriptor runs; with NONCE_GEN the first one after a reset takes the stored ceiling, commits a ceiling 2^20 higher and waits, a later one takes the counter's value. A job that waits goes on when the ceiling is committed, and ends with NO_NONCE when the store refuses commits. A job ends with XLT_FAULT; with POISON or AUTH_FAIL, its output zeroed; with BAD_PAD; or OK, its output written, and for GCM_ENC the tag and the generated nonce. -/
def Obligations.LocksmithJobs : Prop :=
  (∀ (src : Src) (m : Mode) (a : Nat) (s : State), s.gate src (F.LSM_DESC.ADDR.at 0 0) = .pass → a % 64 = 0 → a < 2 ^ 36 →
      let d := lsmDesc (s.memRead a 64)
      (src = .svc → exec (.lsmStart src m a) s = .next (s.ledger 0x0505 21 0)) ∧
      (src ≠ .svc → s.flag F.LSM_STATUS.BUSY = true → exec (.lsmStart src m a) s = .next (s.bump F.LSM_REFUSED.COUNT)) ∧
      (src ≠ .svc → s.flag F.LSM_STATUS.BUSY = false → s.poisonIn a 64 = false →
        ((d.mode = 0 ∨ 7 < d.mode ∨ d.rsvdSet = true ∨ (d.keyFused = true ∧ m ≠ .m) ∨ (d.nonceGen = true ∧ (d.mode = 2 ∨ d.mode = 5 ∨ d.mode = 7)) ∨ 16777216 < d.len ∨ 65536 < d.aadLen) →
          ∃ t, exec (.lsmStart src m a) s = .next t ∧ t.get F.LSM_STATUS.RESULT = 2 ∧ t.flag F.LSM_STATUS.BUSY = false ∧ Raised t 0x3CC ∧
            t.get F.LSM_JOBS.COUNT = satIncr32 (s.get F.LSM_JOBS.COUNT) % 2 ^ 32) ∧
        (d.fault m = none → d.nonceGen = false → ∃ t, exec (.lsmStart src m a) s = .next t ∧ t.flag F.LSM_STATUS.BUSY = true ∧ t.mi.job = some ⟨d, false, none⟩ ∧
          t.get F.LSM_NONCE.VALUE = s.get F.LSM_NONCE.VALUE) ∧
        (d.fault m = none → d.nonceGen = true → d.mode ≠ 6 → s.mi.nonceTaken = false → s.mi.raising = none → StoreIdle s →
          ∃ t, exec (.lsmStart src m a) s = .next t ∧ t.flag F.LSM_STATUS.BUSY = true ∧ t.mi.job = some ⟨d, true, none⟩ ∧ t.get F.LSM_NONCE.VALUE = s.get F.LSM_CEILING.VALUE % 2 ^ 64 ∧
            Committing t [.ceiling (s.get F.LSM_CEILING.VALUE + 2 ^ 20)] ∧ Raised t 0x3CD) ∧
        (d.fault m = none → d.nonceGen = true → d.mode ≠ 6 → s.mi.nonceTaken = true → s.get F.LSM_NONCE.VALUE + 2 ^ 19 + 1 < s.get F.LSM_CEILING.VALUE →
          s.get F.LSM_CEILING.VALUE < 2 ^ 64 → ∃ t, exec (.lsmStart src m a) s = .next t ∧ t.mi.job = some ⟨d, false, some (s.get F.LSM_NONCE.VALUE)⟩ ∧
            t.get F.LSM_NONCE.VALUE = s.get F.LSM_NONCE.VALUE + 1 ∧ t.pat = s.pat))) ∧
    (∀ (r : LsmRun) (s : State), s.mi.job = some r → r.waits = true → s.mi.raising = none →
      (s.get F.LSM_NONCE.VALUE < s.get F.LSM_CEILING.VALUE → ∃ t, exec .lsmNonceResume s = .next t ∧ t.mi.job = some { r with waits := false, nonce := some (s.get F.LSM_NONCE.VALUE) } ∧
        t.get F.LSM_NONCE.VALUE = (s.get F.LSM_NONCE.VALUE + 1) % 2 ^ 64) ∧
      (s.get F.LSM_CEILING.VALUE ≤ s.get F.LSM_NONCE.VALUE → s.storeRefuses = true → ∃ t, exec .lsmNonceResume s = .next t ∧ t.mi.job = none ∧ t.get F.LSM_STATUS.RESULT = 5 ∧
        Raised t 0x3CC)) ∧
    (∀ (r : LsmRun) (res : LsmOut) (s : State), s.mi.job = some r → r.waits = false → s.poison = [] → s.mi.inject = none →
      (res.fault = true → ∃ t, exec (.lsmJobDone res) s = .next t ∧ t.mi.job = none ∧ t.get F.LSM_STATUS.RESULT = 6 ∧ t.flag F.LSM_STATUS.BUSY = false ∧ Raised t 0x3CC) ∧
      (res.fault = false → res.poisoned = true → r.desc.mode ≤ 3 → ∃ t, exec (.lsmJobDone res) s = .next t ∧ t.get F.LSM_STATUS.RESULT = 7 ∧
        t.memRead res.outPa r.desc.len = zeroBytes r.desc.len ∧ t.get F.MEM_POISON_READ.COUNT = satIncr32 (s.get F.MEM_POISON_READ.COUNT) % 2 ^ 32) ∧
      (res.fault = false → res.poisoned = false → r.desc.mode = 2 → res.tagOk = false → ∃ t, exec (.lsmJobDone res) s = .next t ∧ t.get F.LSM_STATUS.RESULT = 1 ∧
        t.memRead res.outPa r.desc.len = zeroBytes r.desc.len ∧ t.get F.LSM_AUTH_FAIL.COUNT = satIncr32 (s.get F.LSM_AUTH_FAIL.COUNT) % 2 ^ 32) ∧
      (res.fault = false → res.poisoned = false → r.desc.mode = 5 → res.padOk = false → ∃ t, exec (.lsmJobDone res) s = .next t ∧ t.get F.LSM_STATUS.RESULT = 4 ∧ t.mem = s.mem) ∧
      (res.fault = false → res.poisoned = false → r.desc.mode = 3 → r.nonce = none → res.out.length = r.desc.len → r.desc.len < 2 ^ 32 →
        ∃ t, exec (.lsmJobDone res) s = .next t ∧ t.get F.LSM_STATUS.RESULT = 0 ∧ t.get F.LSM_OUT_LEN.BYTES = r.desc.len ∧ t.memRead res.outPa r.desc.len = res.out ∧
          (∀ b, (b < res.outPa ∨ res.outPa + r.desc.len ≤ b) → t.memByte b = s.memByte b) ∧ t.flag F.LSM_STATUS.BUSY = false ∧ t.mi.job = none ∧ Raised t 0x3CC) ∧
      (∀ v, res.fault = false → res.poisoned = false → r.desc.mode = 1 → r.nonce = some v → res.out.length = r.desc.len → res.tag.length = 16 →
        res.outPa + r.desc.len ≤ res.tagPa → res.tagPa + 16 ≤ res.noncePa → ∃ t, exec (.lsmJobDone res) s = .next t ∧ t.get F.LSM_STATUS.RESULT = 0 ∧
          t.memRead res.outPa r.desc.len = res.out ∧ t.memRead res.tagPa 16 = res.tag ∧ t.memRead res.noncePa 16 = nonceBytes s.dev.fuseLsmId v ++ zeroBytes 4))

/-- O56. Scaler counters, precise sampling and the freeze of the Ledger. A write sets a counter; a U-mode access without the three permissions takes cause 2, an allowed read answers the count. A selection is kept as written, BAD when the table has none such, and leaves the count; a counter that passes 2^48 - 1 wraps and sets its OVF bit. At START_AT counting is permitted, at STOP_AT it is not. A sample is written at HEAD as the 32 bytes of R512 and HEAD advances; a full ring drops it and counts that; PERIOD 0 or tenant code without TENANT samples nothing. A write of the base or the size empties the ring; a PERIOD of 1 to 1,023 is stored as 1,024. FREEZE freezes the Ledger for 1,024 more records; THAW by service software ends it; both together are discarded and recorded, or counted lost once no record is left. -/
def Obligations.CountersSamplesAndLedger : Prop :=
  (∀ (i v : Nat) (src : Src) (s : State), i < 1024 → s.gate src (F.SCL_CNT.COUNT.at i 0) = .pass →
      ∃ t, exec (.scalerCounterWrite i (.regWrite src v)) s = .next t ∧ t.get F.SCL_CNT.COUNT i = v % 2 ^ 48) ∧
    (∀ (i v : Nat) (md : Mode) (mc sc : Bool) (s : State), i < 256 →
      (md ≠ .u → ∃ t, exec (.scalerCounterWrite i (.csrWrite md v)) s = .next t ∧ t.get F.SCL_CNT.COUNT i = v % 2 ^ 48) ∧
      (exec (.scalerCounterWrite i (.csrWrite .u v)) s = .next (s.emit (.exception (i / 8) 2))) ∧
      ((md ≠ .u ∨ (mc = true ∧ sc = true ∧ s.flag F.SCL_SEL.UREAD i = true)) →
        exec (.scalerCounterWrite i (.csrRead md mc sc)) s = .next (s.emit (.engineRd (i / 8) (s.get F.SCL_CNT.COUNT i)))) ∧
      (¬ (mc = true ∧ sc = true ∧ s.flag F.SCL_SEL.UREAD i = true) → exec (.scalerCounterWrite i (.csrRead .u mc sc)) s = .next (s.emit (.exception (i / 8) 2)))) ∧
    (∀ (i : Nat) (sel : Selection) (src : Src) (s : State), i < 1024 → s.gate src (F.SCL_SEL.EVENT.at i 0) = .pass → sel.unit < 16 → sel.inst < 256 → sel.event < 256 →
      ∃ t, exec (.scalerSelectWrite src i sel) s = .next t ∧ t.flag F.SCL_SEL.ENABLE i = sel.enable ∧ t.get F.SCL_SEL.UNIT i = sel.unit ∧ t.get F.SCL_SEL.INSTANCE i = sel.inst ∧
        t.get F.SCL_SEL.EVENT i = sel.event ∧ t.get F.SCL_CNT.COUNT i = s.get F.SCL_CNT.COUNT i ∧ (256 ≤ i → t.flag F.SCL_SEL.UREAD i = false) ∧
        (i < 256 → sel.unit = 0 → sel.event ≤ 12 → t.flag F.SCL_SEL.BAD i = false) ∧ (i < 256 → sel.unit ≠ 0 → t.flag F.SCL_SEL.BAD i = true) ∧
        (256 ≤ i → sel.unit = 6 → sel.inst < 48 → sel.event ≤ 3 → t.flag F.SCL_SEL.BAD i = false) ∧ (256 ≤ i → sel.unit = 6 → 48 ≤ sel.inst → t.flag F.SCL_SEL.BAD i = true)) ∧
    (∀ (i w : Nat) (s : State), i < 1024 →
      (s.addCounter i w).get F.SCL_CNT.COUNT i = (s.get F.SCL_CNT.COUNT i + w) % 2 ^ 48 ∧
      (2 ^ 48 ≤ s.get F.SCL_CNT.COUNT i + w → bitOf ((s.addCounter i w).get F.SCL_OVF.OVF (i / 32)) (i % 32) = true)) ∧
    (∀ s : State, s.flag F.SCL_CTL.RUN = true →
      (s.get F.SCL_STOP_AT.TIME = 0 → ∃ t, exec .scalerStartAtReached s = .next t ∧ t.dev.timeNs = max s.dev.timeNs (s.get F.SCL_START_AT.TIME) ∧ t.scalerOn = true) ∧
      (s.get F.SCL_STOP_AT.TIME ≠ 0 → ∃ t, exec .scalerStopAtReached s = .next t ∧ t.dev.timeNs = max s.dev.timeNs (s.get F.SCL_STOP_AT.TIME) ∧ t.scalerOn = false)) ∧
    (∀ (n : Nat) (r : Sample) (s : State), n < 32 →
      (s.get F.SMP_CTL.PERIOD n = 0 ∨ (r.tenantAsid = true ∧ r.mode = 0 ∧ s.flag F.SMP_CTL.TENANT n = false) → exec (.sampleTaken n r) s = .next s) ∧
      (s.get F.SMP_CTL.PERIOD n ≠ 0 → r.tenantAsid = false → s.poison = [] → s.get F.SMP_CTL.SIZE_LOG2 n ≤ 25 →
        let head := s.get F.SMP_HEAD.INDEX n
        let next := (head + 1) % s.ringSize n
        (next ≠ s.get F.SMP_TAIL.INDEX n → ∃ t k, exec (.sampleTaken n r) s = .next t ∧ t.memRead (s.get F.SMP_BASE.ADDR n + 32 * head) 32 = r.bytes n s.dev.timeNs ∧
          (∀ b, (b < s.get F.SMP_BASE.ADDR n + 32 * head ∨ s.get F.SMP_BASE.ADDR n + 32 * head + 32 ≤ b) → t.memByte b = s.memByte b) ∧ t.get F.SMP_HEAD.INDEX n = next ∧
          k < 256 ∧ sparseGet 0 n t.eng.smpLeft = s.get F.SMP_CTL.PERIOD n + k) ∧
        (next = s.get F.SMP_TAIL.INDEX n → ∃ t, exec (.sampleTaken n r) s = .next t ∧ t.mem = s.mem ∧ t.get F.SMP_HEAD.INDEX n = head ∧
          t.get F.SMP_DROP.COUNT n = satIncr32 (s.get F.SMP_DROP.COUNT n) % 2 ^ 32))) ∧
    (∀ (n : Nat) (src : Src) (s : State), n < 32 → s.gate src (F.SMP_CTL.PERIOD.at n 0) = .pass →
      (∀ a, ∃ t, exec (.smpRingReset src n (.base a)) s = .next t ∧ t.get F.SMP_BASE.ADDR n = a % 2 ^ 36 ∧ t.get F.SMP_HEAD.INDEX n = 0 ∧ t.get F.SMP_TAIL.INDEX n = 0) ∧
      (∀ tn size period, period < 2 ^ 24 → ∃ t, exec (.smpRingReset src n (.ctl tn size period)) s = .next t ∧ t.flag F.SMP_CTL.TENANT n = tn ∧
        t.get F.SMP_CTL.PERIOD n = (if 1 ≤ period ∧ period ≤ 1023 then 1024 else period) ∧
        (7 ≤ size ∧ size ≤ 25 → t.get F.SMP_CTL.SIZE_LOG2 n = size ∧ t.get F.SMP_HEAD.INDEX n = 0 ∧ t.get F.SMP_TAIL.INDEX n = 0) ∧
        (25 < size → t.get F.SMP_CTL.SIZE_LOG2 n = s.get F.SMP_CTL.SIZE_LOG2 n ∧ t.get F.SMP_HEAD.INDEX n = s.get F.SMP_HEAD.INDEX n))) ∧
    (∀ (src : Src) (s : State), s.gate src (F.LDG_CTL.FREEZE.at 0 0) = .pass →
      (s.flag F.LDG_STATUS.FROZEN = false → ∃ t, exec (.ldgFreezeWrite src false) s = .next t ∧ t.flag F.LDG_STATUS.FROZEN = true ∧ t.get F.LDG_STATUS.TAIL_LEFT = 1024 ∧ Raised t 0x482 ∧
        t.led = s.led) ∧
      (s.flag F.LDG_STATUS.FROZEN = true → s.get F.LDG_STATUS.TAIL_LEFT = 0 → ∃ t, exec (.ldgFreezeWrite src true) s = .next t ∧ t.flag F.LDG_STATUS.FROZEN = true ∧ t.led = s.led ∧
        t.get F.LDG_LOST.COUNT = satIncr32 (s.get F.LDG_LOST.COUNT) % 2 ^ 32) ∧
      (∀ k, s.flag F.LDG_STATUS.FROZEN = true → s.get F.LDG_STATUS.TAIL_LEFT = k + 1 → k < 1024 → ∃ t r, exec (.ldgFreezeWrite src true) s = .next t ∧
        t.get F.LDG_STATUS.TAIL_LEFT = k ∧ (s.get F.LDG_STATUS.HEAD, r) ∈ t.led.slots ∧ r.code = 0x0501 ∧ r.seq = s.get F.LDG_SEQ.NEXT ∧ r.time = s.dev.timeNs ∧ r.step = s.dev.curStep ∧
        t.get F.LDG_STATUS.HEAD = (s.get F.LDG_STATUS.HEAD + 1) % 65536 ∧ t.get F.LDG_SEQ.NEXT = (s.get F.LDG_SEQ.NEXT + 1) % 2 ^ 64)) ∧
    (∀ s : State, s.gate .svc (F.LDG_CTL.THAW.at 0 0) = .pass →
      ∃ t, exec (.ldgThaw .svc false) s = .next t ∧ t.flag F.LDG_STATUS.FROZEN = false ∧ t.get F.LDG_STATUS.TAIL_LEFT = 0 ∧ t.led = s.led)

/-- O57. What each reset keeps and loses, steps 1 to 3 and 8 of start-up, the watchdogs. Loss of VDD_AON sets device time to 0, empties memory and the Ledger, and keeps the flash; the staging-unsaved flag is set exactly where R531 says. SYS_RST_N resets cold: device time and the Ledger are kept, step state and memory are lost, gates turn off, SYS_PIN is set; it is merged into a cold reset that runs. WARM_RST_N and PWR_CTL.WARM ask for an orderly warm reset: a controller in step leaves the pair first, one without dirty data has nothing to wait for. When the reset takes effect its cause is set, the retired list is applied, RESET_DONE is raised and start-up stands at step 3, or at a failed self-test with SELFTEST_FAIL and the fatal sequence. Release of SYS_RST_N samples the straps. The fatal sequence ends in a cold reset 100 ms after the event, unless FATAL_HALT. Expiry of an armed watchdog is fatal; firmware arms it, service software only restarts it. BOOT_READY makes the device READY and Active. -/
def Obligations.ResetsAndStartUp : Prop :=
  (∀ s : State, ∃ t, exec .powerOnReset s = .next t ∧ t.dev.timeNs = 0 ∧ t.mem = [] ∧ t.led.slots = [] ∧ t.power = stResetting ∧ t.role = roleOff ∧ t.flag F.RST_CAUSE.POR = true ∧
      t.pat.banks = s.pat.banks ∧ t.dev.ownerKeys = s.dev.ownerKeys ∧ t.flag F.PWR_STATE.UNSAVED = s.unsavedAtReset ∧ t.get F.LDG_SEQ.NEXT = 1) ∧
    (∀ s : State,
      (s.pwr.fatalNs = none → (s.pwr.resetting = 2 ∨ s.pwr.resetting = 3) → exec .sysReset s = .next s) ∧
      (s.pwr.resetting < 2 → ∃ t, exec .sysReset s = .next t ∧ t.dev.timeNs = s.dev.timeNs ∧ t.dev.stepNo = 0 ∧ t.mem = [] ∧ t.cht.staging = [] ∧ t.led = s.led ∧ t.flm.msgCtr = s.flm.msgCtr ∧
        t.power = stResetting ∧ t.role = roleOff ∧ t.flag F.RST_CAUSE.SYS_PIN = true ∧ t.slot.hold = true ∧ t.flag F.PWR_STATE.READY = false ∧
        (∀ p ∈ s.slot.paths, p.2.driven = true → Emitted s t (.pin (.gate p.1) 0)))) ∧
    (∀ s : State, s.pwr.resetting = 0 → s.pwr.fatalNs = none → s.pwr.warm = none → s.pat.run = none →
      ((s.role = roleAlone ∧ s.cht.staging = []) → ∃ t, exec .warmRstPin s = .next t ∧ t.pwr.warm = some 4 ∧ t.warmDue = true ∧ t.role = s.role) ∧
      (s.inPair = true → s.flag F.WSW_STATUS.FAULT_OUT = false → ∃ t, exec .warmRstPin s = .next t ∧ t.pwr.warm = some 4 ∧ t.warmDue = true ∧ t.role = roleOff ∧ t.wsw.stopped = true ∧
        (s.role = roleLeader → Emitted s t (.pin .pairActive 0))) ∧
      (∀ src : Src, s.gate src (F.PWR_CTL.WARM.at 0 0) = .pass → s.role = roleAlone → s.cht.staging = [] →
        ∃ t, exec (.pwrCtlWarm src) s = .next t ∧ t.pwr.warm = some 2 ∧ t.warmDue = true)) ∧
    (∀ s : State, s.warmDue = true →
      (∃ t, exec (.warmResetEffect 0) s = .next t ∧ t.power = stResetting ∧ t.get F.PWR_STATE.BOOT_STEP = 3 ∧ t.flag F.MEM_SELFTEST.DONE = true ∧ t.get F.MEM_SELFTEST.FAIL = 0 ∧
        t.mi.applied = t.pat.settings.retired ∧ Raised t 0x010 ∧ t.dev.timeNs = s.dev.timeNs ∧ t.led = s.led ∧ t.role = roleOff ∧ t.pwr.bootWdog = true ∧
        (s.pwr.warm = some 4 → t.flag F.RST_CAUSE.WARM_PIN = true) ∧ (s.pwr.warm = some 2 → t.flag F.RST_CAUSE.WARM_SW = true) ∧ (s.pwr.warm = some 1 → t.flag F.RST_CAUSE.WARM_PAIR = true)) ∧
      (∀ f, f < 8192 → f ≠ 0 → ∃ t, exec (.warmResetEffect f) s = .next t ∧ t.power = stFatal ∧ t.get F.PWR_STATE.BOOT_STEP = 2 ∧ t.get F.MEM_SELFTEST.FAIL = f ∧ Raised t 0x3CA ∧ Raised t 0x000 ∧
        t.pwr.fatalNs = some s.dev.timeNs ∧ t.flag F.LDG_STATUS.FROZEN = true)) ∧
    (∀ (sideB recovery : Bool) (s : State), s.power = stResetting → 2 ≤ s.pwr.resetting → s.pwr.bootWdog = false → s.get F.PWR_STATE.BOOT_STEP = 0 →
      ∃ t, exec (.sysRstNRelease sideB recovery 0) s = .next t ∧ t.sideB = sideB ∧ t.flag F.RST_CAUSE.RECOVERY = recovery ∧ t.get F.PWR_STATE.BOOT_STEP = 3 ∧ t.pwr.bootWdog = true ∧
        t.pwr.bootNs = s.dev.timeNs ∧ t.get F.GLB_ISLAND_UP.UP = 2 ^ 38 - 1) ∧
    (∀ (f : Nat) (s : State), s.pwr.fatalNs = some f →
      (s.flag F.PWR_CTL.FATAL_HALT = true → exec (.fatalReset 0) s = .next s) ∧
      (s.flag F.PWR_CTL.FATAL_HALT = false → s.unsavedData = false → ∃ t, exec (.fatalReset 0) s = .next t ∧ t.dev.timeNs = max s.dev.timeNs (f + 100000000) ∧ t.power = stResetting ∧
        t.get F.PWR_STATE.BOOT_STEP = 3 ∧ t.flag F.RST_CAUSE.FATAL = true ∧ t.pwr.fatalNs = none ∧ t.flag F.WSW_STATUS.FAULT_OUT = false)) ∧
    (∀ s : State, s.flag F.PWR_WDOG.ARMED = true → s.pwr.bootWdog = false → s.pwr.fatalNs = none →
      ∃ t, exec .watchdogExpiry s = .next t ∧ t.dev.timeNs = max s.dev.timeNs (s.pwr.kickNs + s.wdogNs) ∧ t.power = stFatal ∧ t.flag F.RST_CAUSE.WATCHDOG = true ∧ Raised t 0x002 ∧ Raised t 0x000 ∧
        t.flag F.LDG_STATUS.FROZEN = true ∧ t.wsw.stopped = true ∧ t.pwr.fatalNs = some t.dev.timeNs) ∧
    (∀ (src : Src) (s : State), s.gate src (F.PWR_WDOG.ARMED.at 0 0) = .pass →
      (src ≠ .svc ∨ s.flag F.PWR_WDOG.ARMED = true → ∃ t, exec (.wdogKick src) s = .next t ∧ t.flag F.PWR_WDOG.ARMED = true ∧ t.pwr.kickNs = s.dev.timeNs) ∧
      (src = .svc → s.flag F.PWR_WDOG.ARMED = false → exec (.wdogKick src) s = .next s)) ∧
    (∀ s : State, s.power = stResetting → s.get F.PWR_STATE.BOOT_STEP = 5 → s.flag F.FWU_STATUS.RECOVERY = false → s.pat.run = none → s.pwr.fatalNs = none →
      ∃ t, exec .bootReady s = .next t ∧ t.ready = true ∧ t.power = stActive ∧ t.get F.PWR_STATE.BOOT_STEP = 8 ∧ Raised t 0x00B ∧ t.pwr.resetting = 0 ∧ t.pwr.bootWdog = false ∧ t.slot.hold = false ∧
        t.get F.PWR_BOOT_TIME.MS = min ((s.dev.timeNs - s.pwr.bootNs) / 1000000) 4294967295)

/-- O58. HOLDUP_OK, Drowse, Fallow and wake. For a controller alone in the Solo profile. A fall of HOLDUP_OK begins write-through with HOLDUP_LOW, its rise ends it. PWR_CTL.ENTER or an idle time begins an entry, unless R537 holds it; ENTER 0 and 3 do nothing. Drowse is reached with islands 2 and 3 gated and every READY drive in DRIVE_PS. The point of no return of Fallow sets the slot hold; Fallow is reached with every island down but those of R540, the Yard and the flow cache empty, and a wake asked for meanwhile begins. WAKE_GPIO and PWR_CTL.WAKE begin a wake in Drowse and Fallow, and abort an entry that has not passed its point of no return, counted. At the end of a wake no island is gated and the slot hold is released. -/
def Obligations.PowerStatesAndPins : Prop :=
  (∀ (ok : Bool) (s : State), SoloAlone s → s.flag F.PWR_PINS.HOLDUP_OK = !ok → s.flag F.PWR_STATE.WRITE_THROUGH = ok →
      ∃ t, exec (.holdupChange ok) s = .next t ∧ t.flag F.PWR_PINS.HOLDUP_OK = ok ∧ t.flag F.PWR_STATE.WRITE_THROUGH = !ok ∧ t.writeThrough = !ok ∧
        (ok = false → t.flag F.PWR_PINS.HOLDUP_DROP = true ∧ Raised t 0x005) ∧ (ok = true → Raised t 0x006)) ∧
    (∀ (src : Src) (target : Nat) (s : State), SoloAlone s → s.gate src (F.PWR_CTL.ENTER.at 0 0) = .pass →
      (target ≠ 1 → target ≠ 2 → exec (.pwrCtlEnter src target) s = .next s) ∧
      (s.entryHeld = true ∨ s.entryBlocked = true → exec (.pwrCtlEnter src target) s = .next s) ∧
      (s.entryHeld = false → s.entryBlocked = false → target = 1 → s.power = stActive → ∃ t, exec (.pwrCtlEnter src target) s = .next t ∧ t.power = stToDrowse ∧ Raised t 0x00C) ∧
      (s.entryHeld = false → s.entryBlocked = false → target = 1 → s.power ≠ stActive → exec (.pwrCtlEnter src target) s = .next s) ∧
      (s.entryHeld = false → s.entryBlocked = false → target = 2 → s.power = stActive → s.cht.staging ≠ [] → ∃ t, exec (.pwrCtlEnter src target) s = .next t ∧ t.power = stToFallow ∧
        Raised t 0x00C)) ∧
    (∀ s : State, SoloAlone s → s.entryHeld = false → s.entryBlocked = false → s.power = stActive → s.cfg 0x00C0 0 0 4 0 ≠ 0 →
      (s.pwr.lastHostUs + s.cfg 0x00C0 0 0 4 0 * 1000000 ≤ s.nowUs → ∃ t, exec .idlePowerEntry s = .next t ∧ t.power = stToDrowse ∧ Raised t 0x00C) ∧
      (s.nowUs < s.pwr.lastHostUs + s.cfg 0x00C0 0 0 4 0 * 1000000 → exec .idlePowerEntry s = .next s)) ∧
    (∀ s : State, s.power = stToDrowse → s.drv.cmds = [] → s.destaged = true →
      ∃ t, exec .drowseEntryDone s = .next t ∧ t.power = stDrowse ∧ t.dev.gated = [2, 3] ∧ t.islandUp 2 = false ∧ t.islandUp 3 = false ∧ t.eng.saved = [2, 3] ∧ Raised t 0x00C ∧
        ∀ n < 48, s.dpState n = dpReady → (t.port n).lowPower = true ∧ ∃ a ∈ (t.port n).admin, a.1 = 0x09) ∧
    (∀ s : State, SoloAlone s → s.power = stToFallow → s.pwr.entryStep = 3 → s.ponr = false → s.powerFailing = false → s.flm.msgCtr < s.pwr.fallowCtr → s.wsw.inputs = [] →
      ∃ t, exec .fallowPonr s = .next t ∧ t.ponr = true ∧ t.slot.hold = true ∧ t.pwr.hostBusy = true ∧ t.power = stToFallow ∧
        ∀ n < 48, s.dpState n = dpReady → (t.port n).shutDown = true) ∧
    (∀ s : State, s.power = stToFallow → s.ponr = true → s.dev.faulted = [] →
      (s.pwr.wakeWanted = false → ∃ t, exec .fallowEntryDone s = .next t ∧ t.power = stFallow ∧ (∀ i < 38, i ∈ t.dev.gated ↔ i ∉ s.fallowIslands) ∧ t.islandUp 9 = true ∧ t.islandUp 10 = false ∧
        t.cht.bufs = [] ∧ t.fx.flows = [] ∧ Raised t 0x00C) ∧
      (SoloAlone s → s.pwr.wakeWanted = true → ∃ t, exec .fallowEntryDone s = .next t ∧ t.power = stWaking ∧ t.pwr.wakeNs = some s.dev.timeNs ∧ Raised t 0x00E)) ∧
    (∀ (gpio : Nat) (s : State), SoloAlone s → gpio < 64 → gpio = s.cfg 0x00C0 0 10 1 0xFF → WakesOrAborts s (exec (.wakeGpioEdge gpio) s)) ∧
    (∀ (src : Src) (s : State), SoloAlone s → s.gate src (F.PWR_CTL.WAKE.at 0 0) = .pass → WakesOrAborts s (exec (.pwrCtlWake src) s)) ∧
    (∀ s : State, s.power = stWaking →
      ∃ t, exec .wakeDone s = .next t ∧ t.power = stActive ∧ t.dev.gated = [] ∧ t.eng.saved = [] ∧ t.ponr = false ∧ (s.ponr = true → t.slot.hold = false) ∧
        (s.ponr = false → t.pwr.wakeNs = none))

/-- O59. The image that boots, the live switch, the trial. FIRMWARE_SELECT boots the candidate with the highest ACT_SEQ: fuses that a confirmed image needs are burned, a trial boot clears one BOOTS bit, one with no bit left is rejected with cause 3 for the other candidate; with no candidate, or RECOVERY strapped, ROM recovery. A cluster switch goes on to the next cluster, with FW_CLUSTER_SWITCHED; with C0 the image runs, a BOOTS bit is cleared and its trial starts, unless the device returns. An evaluation after a quarter of the window with every condition met confirms the image and burns its fuses; one that fails ends nothing. Expiry rejects the slot with cause 1 and begins the return while the other slot is a candidate; otherwise the image runs on, with cause 4. -/
def Obligations.FirmwareBootAndTrial : Prop :=
  (∀ (ca cb : FwChecks) (s : State), FwSelecting s →
      (s.flag F.RST_CAUSE.RECOVERY = true ∨ (s.fw.slotA.magic = false ∧ s.fw.slotB.magic = false) →
        ∃ t, exec (.firmwareSelect ca cb) s = .next t ∧ t.flag F.FWU_STATUS.RECOVERY = true ∧ t.get F.PWR_STATE.BOOT_STEP = 5 ∧ t.pwr.bootWdog = false ∧ Raised t 0x4E8) ∧
      (∀ n, s.flag F.RST_CAUSE.RECOVERY = false → FwStands s.fw.slotA n → FwPasses s false ca → s.fw.slotB.magic = false →
        (s.fw.slotA.confirmed = true → ∃ t, exec (.firmwareSelect ca cb) s = .next t ∧ t.get F.PWR_STATE.BOOT_STEP = 5 ∧ t.get F.FWU_STATUS.RUNNING = 0 ∧
          t.dev.fuseSecurity = max s.dev.fuseSecurity (leAt s.fw.slotA.image 0x18 1) ∧ t.fw.slotA.verify = 0 ∧ t.fw.slotA.boots = s.fw.slotA.boots) ∧
        (s.fw.slotA.confirmed = false → ∃ t, exec (.firmwareSelect ca cb) s = .next t ∧ t.get F.PWR_STATE.BOOT_STEP = 5 ∧ t.get F.FWU_STATUS.RUNNING = 0 ∧
          t.dev.fuseSecurity = s.dev.fuseSecurity ∧ t.fw.slotA.boots = clearLowest s.fw.slotA.boots ∧ t.fw.slotA.rejected = false)) ∧
      (∀ n m, s.flag F.RST_CAUSE.RECOVERY = false → FwStands s.fw.slotA n → FwStands s.fw.slotB m → FwPasses s false ca → FwPasses s true cb →
        (s.fw.slotA.confirmed = true → s.fw.slotB.confirmed = true → ∃ t, exec (.firmwareSelect ca cb) s = .next t ∧ t.get F.FWU_STATUS.RUNNING = (if n < m then 1 else 0)) ∧
        (n < m → s.fw.slotB.confirmed = false → s.fw.slotB.boots = 0 → ∃ t, exec (.firmwareSelect ca cb) s = .next t ∧ t.get F.FWU_STATUS.RUNNING = 0 ∧ t.fw.slotB.rejected = true ∧
          t.fw.slotB.cause = 3 ∧ Raised t 0x4E6 ∧ t.get F.FWU_FALLBACKS.COUNT = satIncr32 (s.get F.FWU_FALLBACKS.COUNT) % 2 ^ 32))) ∧
    (∀ (c : Nat) (rest : List Nat) (s : State), s.fw.switching = c :: rest →
      (rest ≠ [] → ∃ t, exec .clusterSwitch s = .next t ∧ t.fw.switching = rest ∧ Raised t 0x4E3 ∧ t.get F.FWU_STATUS.RUNNING = s.get F.FWU_STATUS.RUNNING) ∧
      (rest = [] → s.fw.phase ≠ 5 → ∃ t, exec .clusterSwitch s = .next t ∧ t.fw.switching = [] ∧ t.fw.phase = 0 ∧ t.fwRunsB = s.fw.switchSlotB ∧ t.flag F.FWU_STATUS.TRIAL = true ∧
        t.fw.trialNs = s.dev.timeNs ∧ (t.fwSlot s.fw.switchSlotB).boots = clearLowest (s.fwSlot s.fw.switchSlotB).boots ∧ Raised t 0x4E3 ∧ Raised t 0x4E4) ∧
      (rest = [] → s.fw.phase = 5 → ∃ t, exec .clusterSwitch s = .next t ∧ t.fw.switching = [] ∧ t.fw.phase = 0 ∧ t.fwRunsB = s.fw.switchSlotB ∧
        t.flag F.FWU_STATUS.TRIAL = s.flag F.FWU_STATUS.TRIAL)) ∧
    (∀ s : State,
      (s.flag F.FWU_STATUS.TRIAL = false → exec .trialEvaluation s = .next s ∧ exec .trialExpiry s = .next s) ∧
      (s.flag F.FWU_STATUS.TRIAL = true →
        let b := s.fwRunsB
        let sec := (s.dev.timeNs - s.fw.trialNs) / 1000000000 + 1
        let u := s.reach (s.fw.trialNs + sec * 1000000000)
        ((s.fwSlot b).window * 60 ≤ 4 * sec → u.fwHealthy = true → ∃ t, exec .trialEvaluation s = .next t ∧ (t.fwSlot b).confirmed = true ∧ t.flag F.FWU_STATUS.TRIAL = false ∧ Raised t 0x4E5 ∧
          t.dev.fuseSecurity = max s.dev.fuseSecurity (leAt (s.fwSlot b).image 0x18 1) ∧ t.fw.phase = 0) ∧
        (4 * sec < (s.fwSlot b).window * 60 ∨ u.fwHealthy = false → exec .trialEvaluation s = .next u) ∧
        ((s.fwSlot (!b)).candidate = true → SoloAlone s → (s.fwSlot b).mode = 1 → ∃ t, exec .trialExpiry s = .next t ∧ (t.fwSlot b).rejected = true ∧ (t.fwSlot b).cause = 1 ∧
          t.flag F.FWU_STATUS.TRIAL = false ∧ t.fw.phase = 5 ∧ t.fw.switching = [3, 2, 1, 0] ∧ t.fw.switchSlotB = !b ∧ Raised t 0x4E6 ∧
          t.get F.FWU_FALLBACKS.COUNT = satIncr32 (s.get F.FWU_FALLBACKS.COUNT) % 2 ^ 32) ∧
        ((s.fwSlot (!b)).candidate = true → SoloAlone s → (s.fwSlot b).mode = 0 → s.resetRuns = false → s.pwr.warm = none → ∃ t, exec .trialExpiry s = .next t ∧ (t.fwSlot b).rejected = true ∧
          (t.fwSlot b).cause = 1 ∧ t.pwr.warm = some 2) ∧
        ((s.fwSlot (!b)).candidate = false → ∃ t, exec .trialExpiry s = .next t ∧ (t.fwSlot b).rejected = (s.fwSlot b).rejected ∧ (t.fwSlot b).cause = 4 ∧ t.flag F.FWU_STATUS.TRIAL = false ∧
          t.dev.fuseSecurity = s.dev.fuseSecurity ∧ Raised t 0x4E6)))

/-- O60. The firmware tasks and NVMe firmware commands. FW_BLOCK at offset 0 opens a delivery and erases the target slot, RESOURCE while one is open; the block that completes the image waits for its check, which gives the slot its MAGIC or ends the task with BAD_DATA and the code. FW_ACTIVATE of a verified image programs ACT_SEQ, one above the highest, and asks for a warm reset (mode 0) or begins the live switch (mode 1). FW_CONFIRM confirms a healthy trial and FW_REJECT ends one. Firmware Image Download writes its piece into the target slot, or ends with Overlapping Range; Firmware Commit verifies the image (action 0), activates it at the next reset (1, or 2 for the image a slot holds) or now (3); a failed check ends it with Invalid Firmware Image, another action with Invalid Field. -/
def Obligations.FirmwareDeliveryAndActivation : Prop :=
  (∀ (go : TaskGo) (b : List Byte) (s : State), TaskStarts s 0x0040 go → go.dataLen ≠ 0 → s.flag F.FWU_STATUS.TRIAL = false → 464 ≤ go.arg 1 → go.arg 1 ≤ 0x3FF0000 →
      (go.arg 0 = 0 → s.fw.delivery = none → s.fwBusy = false → b.length < go.arg 1 → ∃ t, exec (.fwBlock go (.bytes b)) s = .next t ∧ TaskEnded t go tsOk ∧
        t.fw.delivery = some (go.arg 1, b.length) ∧ t.fwSlot s.fwTarget = { fwSlot0 with image := b } ∧ t.fwSlot (!s.fwTarget) = s.fwSlot (!s.fwTarget)) ∧
      (∀ m n, s.fw.delivery = some (m, n) →
        (go.arg 0 = 0 → ∃ t, exec (.fwBlock go (.bytes b)) s = .next t ∧ TaskEnded t go tsResource ∧ t.fw = s.fw) ∧
        (go.arg 0 = n → n ≠ 0 → go.arg 1 = m → n + b.length = m → ∃ t, exec (.fwBlock go (.bytes b)) s = .next t ∧ t.flag F.TASK_STATUS.BUSY = true ∧ t.fw.delivery = some (m, m) ∧
          (t.fwSlot s.fwTarget).image = (s.fwSlot s.fwTarget).image ++ b) ∧
        (go.arg 0 ≠ 0 → go.arg 0 ≠ n → ∃ t, exec (.fwBlock go (.bytes b)) s = .next t ∧ TaskEnded t go tsBadArg ∧ t.fw = s.fw))) ∧
    (∀ (r : TaskRun) (chk : FwChecks) (s : State), s.tasks = [r] → r.own = true → r.code = 0x0040 → r.phase = .working →
      (FwPasses s s.fwTarget chk → ∃ t, exec (.fwImageVerify chk) s = .next t ∧ TaskEnded t r.go tsOk ∧ (t.fwSlot s.fwTarget).magic = true ∧ t.fw.delivery = none ∧ Raised t 0x4E0) ∧
      (¬ FwPasses s s.fwTarget chk → ∃ t, exec (.fwImageVerify chk) s = .next t ∧ TaskEnded t r.go tsBadData ∧ (t.fwSlot s.fwTarget).magic = (s.fwSlot s.fwTarget).magic ∧ t.fw.delivery = none ∧
        Raised t 0x4E1 ∧ t.get F.TASK_RESULT.VALUE 0 = fwImageCode (s.get F.GLB_REV.REVISION) s.dev.fuseSecurity (s.fwSlot s.fwTarget).image chk)) ∧
    (∀ (go : TaskGo) (ph : Bool) (s : State), TaskStarts s 0x0042 go →
      let b := s.fwTarget
      (240 < go.arg 1 ∨ 2 < go.arg 0 → ∃ t, exec (.fwActivate go ph) s = .next t ∧ TaskEnded t go tsBadArg ∧ t.fw = s.fw) ∧
      (go.arg 1 ≤ 240 → go.arg 0 ≤ 2 → (s.fwSlot b).magic = false → ∃ t, exec (.fwActivate go ph) s = .next t ∧ TaskEnded t go tsRefused ∧ t.fw = s.fw) ∧
      (go.arg 1 ≤ 240 → s.flag F.FWU_STATUS.TRIAL = false → s.flag F.FWU_STATUS.RECOVERY = false → s.fwBusy = false → (s.fwSlot b).fresh = true → s.fwActCode b = 0 →
        (go.arg 0 = 0 → s.resetRuns = false → s.pwr.warm = none → ∃ t, exec (.fwActivate go ph) s = .next t ∧ t.pwr.warm = some 2 ∧ (t.fwSlot b).actSeq = some s.nextActSeq ∧
          (t.fwSlot b).window = (if go.arg 1 = 0 then 15 else go.arg 1) ∧ (t.fwSlot b).mode = 0 ∧ Raised t 0x4E2) ∧
        (go.arg 0 = 1 → ∃ t, exec (.fwActivate go ph) s = .next t ∧ TaskEnded t go tsOk ∧ (t.fwSlot b).actSeq = some s.nextActSeq ∧ (t.fwSlot b).mode = 1 ∧ t.fw.switching = [3, 2, 1, 0] ∧
          t.fw.switchSlotB = b ∧ t.fw.phase = 1 ∧ Raised t 0x4E2))) ∧
    (∀ (go : TaskGo) (s : State), TaskStarts s 0x0043 go →
      (s.flag F.FWU_STATUS.TRIAL = true → s.fwHealthy = true → ∃ t, exec (.fwConfirm go) s = .next t ∧ TaskEnded t go tsOk ∧ (t.fwSlot s.fwRunsB).confirmed = true ∧
        t.flag F.FWU_STATUS.TRIAL = false ∧ Raised t 0x4E5) ∧
      (s.flag F.FWU_STATUS.TRIAL = false ∨ s.fwHealthy = false → ∃ t, exec (.fwConfirm go) s = .next t ∧ TaskEnded t go tsRefused ∧ t.fw = s.fw)) ∧
    (∀ (go : TaskGo) (s : State), TaskStarts s 0x0044 go →
      (s.flag F.FWU_STATUS.TRIAL = true → (s.fwSlot (!s.fwRunsB)).candidate = true → SoloAlone s → (s.fwSlot s.fwRunsB).mode = 1 → ∃ t, exec (.fwReject go) s = .next t ∧ TaskEnded t go tsOk ∧
        (t.fwSlot s.fwRunsB).rejected = true ∧ (t.fwSlot s.fwRunsB).cause = 2 ∧ t.fw.switching = [3, 2, 1, 0] ∧ t.fw.switchSlotB = !s.fwRunsB ∧ Raised t 0x4E6) ∧
      (s.flag F.FWU_STATUS.TRIAL = false → ∃ t, exec (.fwReject go) s = .next t ∧ TaskEnded t go tsRefused ∧ t.fw = s.fw)) ∧
    (∀ (key : Nat) (cap : Capsule) (s u : State) (q : NvmQueue) (x : NvmCtrl) (c : Cmd), Taken s key cap (.admin 0x11) u q x c → CanAnswer s q → FwMayCommand s x.sub →
      (u.handOver c).sglGate q c (4 * (cap.cdw10 + 1)) true = none → cap.inCapsule = true → s.fw.delivery = none →
      let d := sliceOf cap.data cap.sglAddr cap.sglLen
      (cap.cdw11 = 0 → 12 ≤ d.length → 464 ≤ leAt d 8 4 → leAt d 8 4 ≤ 0x3FF0000 → d.length ≤ leAt d 8 4 → ∃ t, exec (.firmwareImageDownload key cap) s = .next t ∧
        Answered s t q cap.cid stOk 0 ∧ t.fw.delivery = some (leAt d 8 4, d.length) ∧ (t.fwSlot s.fwTarget).image = d) ∧
      (cap.cdw11 ≠ 0 → ∃ t, exec (.firmwareImageDownload key cap) s = .next t ∧ Answered s t q cap.cid stOverlap 0 ∧ t.fw = s.fw)) ∧
    (∀ (key : Nat) (cap : Capsule) (chk : FwChecks) (s u : State) (q : NvmQueue) (x : NvmCtrl) (c : Cmd), Taken s key cap (.admin 0x10) u q x c → CanAnswer s q → FwMayCommand s x.sub →
      let b := s.fwTarget
      (cap.commitAction = 0 → s.commitTarget cap = some b →
        (FwPasses s b chk → ∃ t, exec (.fwCommitVerify key cap chk) s = .next t ∧ Answered s t q cap.cid stOk 0 ∧ (t.fwSlot b).magic = true ∧ (t.fwSlot b).actSeq = (s.fwSlot b).actSeq) ∧
        (¬ FwPasses s b chk → ∃ t, exec (.fwCommitVerify key cap chk) s = .next t ∧ Answered s t q cap.cid stFwImage 0 ∧ Raised t 0x4E1)) ∧
      (cap.commitAction = 0 → s.commitTarget cap ≠ some b → ∃ t, exec (.fwCommitVerify key cap chk) s = .next t ∧ Answered s t q cap.cid stFwSlot 0 ∧ t.fw = s.fw) ∧
      (4 ≤ cap.commitAction → ∃ t, exec (.fwCommitVerify key cap chk) s = .next t ∧ Answered s t q cap.cid stField 0 ∧ t.fw = s.fw) ∧
      (cap.commitAction = 1 → s.commitTarget cap = some b → FwPasses s b chk → s.fwActCode b = 0 → (s.fwSlot b).actSeq = none → (s.fwSlot b).rejected = false →
        ∃ t, exec (.fwCommitNextReset key cap chk) s = .next t ∧ Answered s t q cap.cid stOk 0 ∧ (t.fwSlot b).actSeq = some s.nextActSeq ∧ (t.fwSlot b).mode = 0 ∧ (t.fwSlot b).window = 15 ∧
          t.pwr.warm = s.pwr.warm) ∧
      (∀ n, cap.commitAction = 2 → s.commitTarget cap = some n →
        ((s.fwSlot n).magic = true → (s.fwSlot n).actSeq = none → s.fwActCode n = 0 → ∃ t, exec (.fwCommitSlot key cap) s = .next t ∧ Answered s t q cap.cid stOk 0 ∧
          (t.fwSlot n).actSeq = some s.nextActSeq ∧ (t.fwSlot n).mode = 0) ∧
        ((s.fwSlot n).magic = false → ∃ t, exec (.fwCommitSlot key cap) s = .next t ∧ Answered s t q cap.cid stFwImage 0 ∧ t.fw = s.fw)) ∧
      (∀ ph : Bool, cap.commitAction = 3 → s.commitTarget cap = some b → SoloAlone s → FwPasses s b chk → s.fwActCode b = 0 → (s.fwSlot b).actSeq = none → (s.fwSlot b).rejected = false →
        ∃ t, exec (.fwCommitNow key cap chk ph) s = .next t ∧ Answered s t q cap.cid stOk 0 ∧ (t.fwSlot b).actSeq = some s.nextActSeq ∧ t.fw.switching = [3, 2, 1, 0] ∧ t.fw.phase = 1))
end

