-- ==== Sys2Proof/Laws/Sparse.lean ====
section
/-!
SUPPORT. Laws/Sparse.lean: what reading and writing do to the tables of Machine/Sparse.lean, and that every operation on memory keeps its canonical form.
-/
namespace Sys2Proof.Machine


theorem sparseSorted_tail {α : Type} {x : Nat × α} {l : List (Nat × α)} (h : sparseSorted (x :: l) = true) : sparseSorted l = true := by
  cases l with
  | nil => rfl
  | cons y l => simp only [sparseSorted, Bool.and_eq_true] at h; exact h.2

/-- Every key of a rising table behind its first entry is greater. -/
theorem sparseSorted_lt {α : Type} {k : Nat} {v : α} {l : List (Nat × α)} (h : sparseSorted ((k, v) :: l) = true) : ∀ x ∈ l, k < x.1 := by
  induction l generalizing k v with
  | nil => simp
  | cons y l ih =>
    obtain ⟨k', v'⟩ := y
    simp only [sparseSorted, Bool.and_eq_true, decide_eq_true_eq] at h
    intro x hx
    rcases List.mem_cons.mp hx with rfl | hx
    · exact h.1
    · exact h.1.trans (ih h.2 x hx)

theorem sparseSorted_cons {α : Type} {k : Nat} {v : α} {l : List (Nat × α)} (h : sparseSorted l = true) (hk : ∀ x ∈ l, k < x.1) : sparseSorted ((k, v) :: l) = true := by
  cases l with
  | nil => rfl
  | cons y l =>
    obtain ⟨k', v'⟩ := y
    simp only [sparseSorted, Bool.and_eq_true, decide_eq_true_eq]
    exact ⟨hk _ (List.mem_cons_self ..), h⟩

theorem mem_sparseErase {α : Type} {k : Nat} {x : Nat × α} {l : List (Nat × α)} (h : x ∈ sparseErase k l) : x ∈ l := by
  induction l with
  | nil => simp [sparseErase] at h
  | cons y l ih =>
    obtain ⟨k', v'⟩ := y
    unfold sparseErase at h
    split at h
    · exact List.mem_cons_of_mem _ (ih h)
    · rcases List.mem_cons.mp h with rfl | h
      · exact List.mem_cons_self ..
      · exact List.mem_cons_of_mem _ (ih h)

theorem mem_sparseInsert {α : Type} {k : Nat} {v : α} {x : Nat × α} {l : List (Nat × α)} (h : x ∈ sparseInsert k v l) : x = (k, v) ∨ x ∈ l := by
  induction l with
  | nil => simp only [sparseInsert, List.mem_singleton] at h; exact Or.inl h
  | cons y l ih =>
    obtain ⟨k', v'⟩ := y
    unfold sparseInsert at h
    split at h
    · rcases List.mem_cons.mp h with h | h
      · exact Or.inl h
      · exact Or.inr h
    · split at h
      · rcases List.mem_cons.mp h with h | h
        · exact Or.inl h
        · exact Or.inr (List.mem_cons_of_mem _ h)
      · rcases List.mem_cons.mp h with h | h
        · exact Or.inr (h ▸ List.mem_cons_self ..)
        · rcases ih h with h | h
          · exact Or.inl h
          · exact Or.inr (List.mem_cons_of_mem _ h)

theorem sparseSorted_erase {α : Type} (k : Nat) {l : List (Nat × α)} (h : sparseSorted l = true) : sparseSorted (sparseErase k l) = true := by
  induction l with
  | nil => rfl
  | cons y l ih =>
    obtain ⟨k', v'⟩ := y
    unfold sparseErase
    split
    · exact ih (sparseSorted_tail h)
    · exact sparseSorted_cons (ih (sparseSorted_tail h)) (fun x hx => sparseSorted_lt h x (mem_sparseErase hx))

theorem sparseSorted_insert {α : Type} (k : Nat) (v : α) {l : List (Nat × α)} (h : sparseSorted l = true) : sparseSorted (sparseInsert k v l) = true := by
  induction l with
  | nil => rfl
  | cons y l ih =>
    obtain ⟨k', v'⟩ := y
    unfold sparseInsert
    split
    · rename_i hk
      refine sparseSorted_cons h (fun x hx => ?_)
      rcases List.mem_cons.mp hx with rfl | hx
      · exact hk
      · exact hk.trans (sparseSorted_lt h x hx)
    · split
      · rename_i hk
        subst hk
        exact sparseSorted_cons (sparseSorted_tail h) (sparseSorted_lt h)
      · rename_i h1 h2
        refine sparseSorted_cons (ih (sparseSorted_tail h)) (fun x hx => ?_)
        rcases mem_sparseInsert hx with rfl | hx
        · show k' < k
          omega
        · exact sparseSorted_lt h x hx

theorem sparseSorted_put {α : Type} [DecidableEq α] (d : α) (k : Nat) (v : α) {l : List (Nat × α)} (h : sparseSorted l = true) : sparseSorted (sparsePut d k v l) = true := by
  unfold sparsePut
  split
  · exact sparseSorted_erase k h
  · exact sparseSorted_insert k v h

theorem sparseSorted_filter {α : Type} (q : Nat × α → Bool) {l : List (Nat × α)} (h : sparseSorted l = true) : sparseSorted (l.filter q) = true := by
  induction l with
  | nil => rfl
  | cons y l ih =>
    obtain ⟨k', v'⟩ := y
    rw [List.filter_cons]
    split
    · exact sparseSorted_cons (ih (sparseSorted_tail h)) (fun x hx => sparseSorted_lt h x (List.mem_of_mem_filter hx))
    · exact ih (sparseSorted_tail h)

theorem sparseWf_iff {α : Type} [DecidableEq α] (d : α) (l : List (Nat × α)) : sparseWf d l = true ↔ sparseSorted l = true ∧ ∀ x ∈ l, x.2 ≠ d := by
  simp [sparseWf]

/-- A write keeps the canonical form of a table. -/
theorem sparseWf_put {α : Type} [DecidableEq α] (d : α) (k : Nat) (v : α) {l : List (Nat × α)} (h : sparseWf d l = true) : sparseWf d (sparsePut d k v l) = true := by
  rw [sparseWf_iff] at h ⊢
  refine ⟨sparseSorted_put d k v h.1, fun x hx => ?_⟩
  unfold sparsePut at hx
  split at hx
  · exact h.2 x (mem_sparseErase hx)
  · rename_i hv
    rcases mem_sparseInsert hx with rfl | hx
    · exact hv
    · exact h.2 x hx

theorem memory_wf_put {m : List Host.Cell} (a : Nat) (bs : List Byte) (h : Memory.wf m = true) : Memory.wf (memPutBytes m a bs) = true := by
  induction bs generalizing m a with
  | nil => exact h
  | cons b bs ih => exact ih (a + 1) (sparseWf_put unwrittenByte a b h)

/-- Inserting pairs one by one keeps a rising table. -/
theorem sparseSorted_insertAll {α : Type} (l : List (Nat × α)) {k : List (Nat × α)} (h : sparseSorted k = true) :
    sparseSorted (l.foldl (fun (k : List (Nat × α)) (r : Nat × α) => sparseInsert r.1 r.2 k) k) = true := by
  induction l generalizing k with
  | nil => exact h
  | cons x l ih => exact ih (sparseSorted_insert x.1 x.2 h)

/-! ## Reading what was written -/

theorem sparseGet_erase {α : Type} (d : α) (k j : Nat) (l : List (Nat × α)) : sparseGet d j (sparseErase k l) = if k = j then d else sparseGet d j l := by
  induction l with
  | nil => simp [sparseErase, sparseGet]
  | cons x l ih =>
    obtain ⟨k', v'⟩ := x
    by_cases h : k' = k
    · subst h
      rw [sparseErase, if_pos rfl, ih]
      by_cases hj : k' = j
      · simp [hj]
      · simp [sparseGet, hj]
    · by_cases hj : k' = j
      · subst hj
        have : k ≠ k' := fun e => h e.symm
        simp [sparseErase, sparseGet, h, this]
      · simp [sparseErase, sparseGet, h, hj, ih]

theorem sparseGet_insert {α : Type} (d : α) (k j : Nat) (v : α) (l : List (Nat × α)) :
    sparseGet d j (sparseInsert k v l) = if k = j then v else sparseGet d j l := by
  induction l with
  | nil => simp [sparseInsert, sparseGet]
  | cons x l ih =>
    obtain ⟨k', v'⟩ := x
    unfold sparseInsert
    split
    · simp only [sparseGet]
    · split
      · rename_i h1 h2
        subst h2
        by_cases hj : k = j <;> simp [sparseGet, hj]
      · rename_i h1 h2
        by_cases hj : k' = j
        · subst hj
          have : k ≠ k' := h2
          simp [sparseGet, this]
        · simp [sparseGet, hj, ih]

/-- Reading a table after a write: the value written at its key, what stood there at every other. -/
theorem sparseGet_put {α : Type} [DecidableEq α] (d : α) (k j : Nat) (v : α) (l : List (Nat × α)) :
    sparseGet d j (sparsePut d k v l) = if k = j then v else sparseGet d j l := by
  unfold sparsePut
  split
  · rename_i hv
    subst hv
    exact sparseGet_erase _ k j l
  · exact sparseGet_insert d k j v l

/-- The bytes of [a, a + n) after they are written, and every other byte of memory. -/
theorem memByte_write (s : State) (a : Nat) (bs : List Byte) (x : Nat) :
    (s.memWrite a bs).memByte x = if a ≤ x ∧ x < a + bs.length then bs.getD (x - a) unwrittenByte else s.memByte x := by
  obtain ⟨_, _, _, _, _, _, _, _, _, _, _, _, _, _, _, _, _, _, _, _, _, m, _, _, _, _⟩ := s
  simp only [State.memByte, State.memWrite]
  induction bs generalizing m a with
  | nil =>
    have : ¬ (a ≤ x ∧ x < a + 0) := by omega
    simp only [memPutBytes, List.length_nil, this, if_false]
  | cons b bs ih =>
    rw [memPutBytes, ih (a + 1) _, sparseGet_put unwrittenByte a x b m, List.length_cons]
    by_cases h1 : a = x
    · subst h1
      simp
    · by_cases h2 : a + 1 ≤ x ∧ x < a + 1 + bs.length
      · have h3 : a ≤ x ∧ x < a + (bs.length + 1) := by omega
        obtain ⟨n, rfl⟩ : ∃ n, x = a + 1 + n := ⟨x - (a + 1), by omega⟩
        have e1 : a + 1 + n - (a + 1) = n := by omega
        have e2 : a + 1 + n - a = n + 1 := by omega
        simp only [h2, h3, and_self, if_true, e1, e2, List.getD_cons_succ]
      · have h3 : ¬ (a ≤ x ∧ x < a + (bs.length + 1)) := by omega
        simp only [h2, h3, h1, if_false]

end Sys2Proof.Machine
end

