-- ==== Sys2Proof/Laws/Keeps.lean ====
section
/-!
SUPPORT. Laws/Keeps.lean: the relation between the states before and after an operation that every operation of the machine satisfies, and how it goes through the forms that meanings are
written in. Each operation has one lemma about it (Laws/Keeps*.lean), named after the operation.
-/
namespace Sys2Proof.Machine

theorem OwnerKept.refl (a : List (Option Nat × Bool)) : OwnerKept a a := fun _ _ r h => ⟨r, h, id⟩

theorem OwnerKept.trans {a b c : List (Option Nat × Bool)} (h : OwnerKept a b) (g : OwnerKept b c) : OwnerKept a c := by
  intro i d r hi
  obtain ⟨r', h1, h2⟩ := h i d r hi
  obtain ⟨r'', g1, g2⟩ := g i d r' h1
  exact ⟨r'', g1, fun x => g2 (h2 x)⟩

/-- The place of a part in a set of parts. -/
def Part.bit : Part → Nat
  | .regs => 1
  | .dev => 2
  | .pat => 4
  | .svc => 8
  | .tasks => 16
  | .eng => 32
  | .led => 64
  | .flm => 128
  | .fx => 256
  | .wsw => 512
  | .drv => 1024
  | .pwr => 2048
  | .nvm => 4096
  | .cht => 8192
  | .grps => 16384
  | .tly => 32768
  | .tc => 65536
  | .hp => 131072
  | .slot => 262144
  | .fw => 524288
  | .mi => 1048576
  | .mem => 2097152
  | .poison => 4194304
  | .out => 8388608
  | .freeCtr => 16777216

/-- What no command does, and no operation that a command is made of (`p`: a power-on reset, which alone sets device time back, is allowed; `A`: the set of the parts of the state that may change, as
a sum of bits): it does not touch the queue of waiting commands, leave the register file or memory out of its canonical form, take an output back, set device time or the counter of free
values back, change a fuse that is burned, or change a part outside `A`. -/
structure Keeps (p : Bool) (A : Nat) (s t : State) : Prop where
  queue : t.pending = s.pending
  mem : Memory.wf s.mem = true → Memory.wf t.mem = true
  regs : sparseSorted s.regs = true → sparseSorted t.regs = true
  out : ∃ l, t.out = l ++ s.out
  free : s.freeCtr ≤ t.freeCtr
  time : p = false → s.dev.timeNs ≤ t.dev.timeNs
  owner : OwnerKept s.dev.ownerKeys t.dev.ownerKeys
  security : s.dev.fuseSecurity ≤ t.dev.fuseSecurity
  fuses : (t.dev.fuseMac, t.dev.fuseLsmId, t.dev.fuseIdentity, t.dev.fuseMv) = (s.dev.fuseMac, s.dev.fuseLsmId, s.dev.fuseIdentity, s.dev.fuseMv)
  frame : ∀ c : Part, A &&& c.bit = c.bit ∨ c.same s t

/-- Two device parts with the same time and the same fuses. -/
structure DevSame (d e : Dev) : Prop where
  time : d.timeNs = e.timeNs
  owner : d.ownerKeys = e.ownerKeys
  security : d.fuseSecurity = e.fuseSecurity
  fuses : (d.fuseMac, d.fuseLsmId, d.fuseIdentity, d.fuseMv) = (e.fuseMac, e.fuseLsmId, e.fuseIdentity, e.fuseMv)

theorem devSame_refl (d : Dev) : DevSame d d := ⟨rfl, rfl, rfl, rfl⟩

theorem devSame_mk (d : Dev) (a1 a2 a3 : Nat) (a4 a5 : List Nat) (a6 a7 : Nat) (a8 : List (Nat × Nat)) (a9 : List Nat) :
    DevSame ⟨d.timeNs, a1, a2, a3, a4, a5, a6, a7, a8, a9, d.ownerKeys, d.fuseMac, d.fuseLsmId, d.fuseIdentity, d.fuseSecurity, d.fuseMv⟩ d := ⟨rfl, rfl, rfl, rfl⟩

theorem Part.same_refl (c : Part) (s : State) : c.same s s := by cases c <;> rfl

theorem Part.same_trans {c : Part} {a b d : State} (h : c.same a b) (g : c.same b d) : c.same a d := by
  cases c <;> exact Eq.trans g h

theorem Keeps.refl (p : Bool) (A : Nat) (s : State) : Keeps p A s s :=
  ⟨rfl, id, id, ⟨[], rfl⟩, le_refl _, fun _ => le_refl _, OwnerKept.refl _, le_refl _, rfl, fun c => Or.inr (c.same_refl s)⟩

theorem Keeps.trans {p : Bool} {A : Nat} {a b c : State} (h : Keeps p A a b) (g : Keeps p A b c) : Keeps p A a c := by
  refine ⟨g.queue.trans h.queue, fun x => g.mem (h.mem x), fun x => g.regs (h.regs x), ?_, h.free.trans g.free, fun x => (h.time x).trans (g.time x), h.owner.trans g.owner,
    h.security.trans g.security, g.fuses.trans h.fuses, fun k => ?_⟩
  · obtain ⟨l, hl⟩ := h.out
    obtain ⟨k, hk⟩ := g.out
    exact ⟨k ++ l, by rw [hk, hl, List.append_assoc]⟩
  · rcases h.frame k with h1 | h1
    · exact Or.inl h1
    · exact (g.frame k).imp id (fun x => Part.same_trans h1 x)

theorem sub_trans {A B C : Nat} (h : A &&& B = A) (g : B &&& C = B) : A &&& C = A := by
  rw [← h, Nat.and_assoc, g]

/-- More parts may change. -/
theorem Keeps.weaken {p : Bool} {A B : Nat} {s t : State} (h : Keeps p B s t) (hB : B &&& A = B) : Keeps p A s t :=
  { h with frame := fun c => (h.frame c).imp (fun x => by rw [Nat.and_comm] at x ⊢; exact sub_trans x hB) id }

theorem keeps_ite {p : Bool} {A : Nat} {s a b : State} {c : Prop} [Decidable c] (ha : Keeps p A s a) (hb : Keeps p A s b) : Keeps p A s (if c then a else b) := by
  split <;> assumption

theorem keeps_cond {p : Bool} {A : Nat} {s a b : State} {c : Bool} (ha : Keeps p A s a) (hb : Keeps p A s b) : Keeps p A s (bif c then a else b) := by
  cases c <;> assumption

theorem keeps_foldl {p : Bool} {A : Nat} {α : Type} {s t : State} {f : State → α → State} (l : List α) (hf : ∀ t x, Keeps p A s t → Keeps p A s (f t x)) (h : Keeps p A s t) :
    Keeps p A s (l.foldl f t) := by
  induction l generalizing t with
  | nil => exact h
  | cons x l ih => exact ih (hf t x h)

theorem keeps_mk {p : Bool} {A : Nat} {s t : State} (h : Keeps p A s t) (dev : Dev) (hd : DevSame dev t.dev) (hdev : dev = t.dev ∨ A &&& 2 = 2)
    (a2 a3 a4 a5 a6 a7 a8 a9 a10 a11 a12 a13 a14 a15 a16 a17 a18 a19 a20 a22) (h2 : a2 = t.pat ∨ A &&& 4 = 4) (h3 : a3 = t.svc ∨ A &&& 8 = 8) (h4 : a4 = t.tasks ∨ A &&& 16 = 16) (h5 : a5 = t.eng ∨ A &&& 32 = 32) (h6 : a6 = t.led ∨ A &&& 64 = 64) (h7 : a7 = t.flm ∨ A &&& 128 = 128) (h8 : a8 = t.fx ∨ A &&& 256 = 256) (h9 : a9 = t.wsw ∨ A &&& 512 = 512) (h10 : a10 = t.drv ∨ A &&& 1024 = 1024) (h11 : a11 = t.pwr ∨ A &&& 2048 = 2048) (h12 : a12 = t.nvm ∨ A &&& 4096 = 4096) (h13 : a13 = t.cht ∨ A &&& 8192 = 8192) (h14 : a14 = t.grps ∨ A &&& 16384 = 16384) (h15 : a15 = t.tly ∨ A &&& 32768 = 32768) (h16 : a16 = t.tc ∨ A &&& 65536 = 65536) (h17 : a17 = t.hp ∨ A &&& 131072 = 131072) (h18 : a18 = t.slot ∨ A &&& 262144 = 262144) (h19 : a19 = t.fw ∨ A &&& 524288 = 524288) (h20 : a20 = t.mi ∨ A &&& 1048576 = 1048576) (h22 : a22 = t.poison ∨ A &&& 4194304 = 4194304) :
    Keeps p A s ⟨t.regs, dev, a2, a3, a4, a5, a6, a7, a8, a9, a10, a11, a12, a13, a14, a15, a16, a17, a18, a19, a20, t.mem, a22, t.out, t.freeCtr, t.pending⟩ := by
  obtain ⟨d1, d2, d3, d4⟩ := hd
  refine ⟨h.queue, h.mem, h.regs, h.out, h.free, fun x => ?_, ?_, ?_, ?_, fun c => ?_⟩
  · simpa [d1] using h.time x
  · simpa [d2] using h.owner
  · simpa [d3] using h.security
  · simpa [d4] using h.fuses
  cases c with
  | regs => exact h.frame .regs
  | dev => exact hdev.elim (fun e => (h.frame .dev).imp id (fun x => e.trans x)) Or.inl
  | pat => exact h2.elim (fun e => (h.frame .pat).imp id (fun x => e.trans x)) Or.inl
  | svc => exact h3.elim (fun e => (h.frame .svc).imp id (fun x => e.trans x)) Or.inl
  | tasks => exact h4.elim (fun e => (h.frame .tasks).imp id (fun x => e.trans x)) Or.inl
  | eng => exact h5.elim (fun e => (h.frame .eng).imp id (fun x => e.trans x)) Or.inl
  | led => exact h6.elim (fun e => (h.frame .led).imp id (fun x => e.trans x)) Or.inl
  | flm => exact h7.elim (fun e => (h.frame .flm).imp id (fun x => e.trans x)) Or.inl
  | fx => exact h8.elim (fun e => (h.frame .fx).imp id (fun x => e.trans x)) Or.inl
  | wsw => exact h9.elim (fun e => (h.frame .wsw).imp id (fun x => e.trans x)) Or.inl
  | drv => exact h10.elim (fun e => (h.frame .drv).imp id (fun x => e.trans x)) Or.inl
  | pwr => exact h11.elim (fun e => (h.frame .pwr).imp id (fun x => e.trans x)) Or.inl
  | nvm => exact h12.elim (fun e => (h.frame .nvm).imp id (fun x => e.trans x)) Or.inl
  | cht => exact h13.elim (fun e => (h.frame .cht).imp id (fun x => e.trans x)) Or.inl
  | grps => exact h14.elim (fun e => (h.frame .grps).imp id (fun x => e.trans x)) Or.inl
  | tly => exact h15.elim (fun e => (h.frame .tly).imp id (fun x => e.trans x)) Or.inl
  | tc => exact h16.elim (fun e => (h.frame .tc).imp id (fun x => e.trans x)) Or.inl
  | hp => exact h17.elim (fun e => (h.frame .hp).imp id (fun x => e.trans x)) Or.inl
  | slot => exact h18.elim (fun e => (h.frame .slot).imp id (fun x => e.trans x)) Or.inl
  | fw => exact h19.elim (fun e => (h.frame .fw).imp id (fun x => e.trans x)) Or.inl
  | mi => exact h20.elim (fun e => (h.frame .mi).imp id (fun x => e.trans x)) Or.inl
  | mem => exact h.frame .mem
  | poison => exact h22.elim (fun e => (h.frame .poison).imp id (fun x => e.trans x)) Or.inl
  | out => exact h.frame .out
  | freeCtr => exact h.frame .freeCtr

theorem keeps_mk_iff {p : Bool} {A : Nat} {s t : State} (dev : Dev) (hd : DevSame dev t.dev) (hdev : dev = t.dev ∨ A &&& 2 = 2)
    (a2 a3 a4 a5 a6 a7 a8 a9 a10 a11 a12 a13 a14 a15 a16 a17 a18 a19 a20 a22) (h2 : a2 = t.pat ∨ A &&& 4 = 4) (h3 : a3 = t.svc ∨ A &&& 8 = 8) (h4 : a4 = t.tasks ∨ A &&& 16 = 16) (h5 : a5 = t.eng ∨ A &&& 32 = 32) (h6 : a6 = t.led ∨ A &&& 64 = 64) (h7 : a7 = t.flm ∨ A &&& 128 = 128) (h8 : a8 = t.fx ∨ A &&& 256 = 256) (h9 : a9 = t.wsw ∨ A &&& 512 = 512) (h10 : a10 = t.drv ∨ A &&& 1024 = 1024) (h11 : a11 = t.pwr ∨ A &&& 2048 = 2048) (h12 : a12 = t.nvm ∨ A &&& 4096 = 4096) (h13 : a13 = t.cht ∨ A &&& 8192 = 8192) (h14 : a14 = t.grps ∨ A &&& 16384 = 16384) (h15 : a15 = t.tly ∨ A &&& 32768 = 32768) (h16 : a16 = t.tc ∨ A &&& 65536 = 65536) (h17 : a17 = t.hp ∨ A &&& 131072 = 131072) (h18 : a18 = t.slot ∨ A &&& 262144 = 262144) (h19 : a19 = t.fw ∨ A &&& 524288 = 524288) (h20 : a20 = t.mi ∨ A &&& 1048576 = 1048576) (h22 : a22 = t.poison ∨ A &&& 4194304 = 4194304) :
    Keeps p A s ⟨t.regs, dev, a2, a3, a4, a5, a6, a7, a8, a9, a10, a11, a12, a13, a14, a15, a16, a17, a18, a19, a20, t.mem, a22, t.out, t.freeCtr, t.pending⟩ ↔ Keeps p A s t := by
  refine ⟨fun h => ?_, fun h => keeps_mk h dev hd hdev a2 a3 a4 a5 a6 a7 a8 a9 a10 a11 a12 a13 a14 a15 a16 a17 a18 a19 a20 a22 h2 h3 h4 h5 h6 h7 h8 h9 h10 h11 h12 h13 h14 h15 h16 h17 h18 h19 h20 h22⟩
  obtain ⟨d1, d2, d3, d4⟩ := hd
  refine ⟨h.queue, h.mem, h.regs, h.out, h.free, fun x => ?_, ?_, ?_, ?_, fun c => ?_⟩
  · simpa [d1] using h.time x
  · simpa [d2] using h.owner
  · simpa [d3] using h.security
  · simpa [d4] using h.fuses
  cases c with
  | regs => exact h.frame .regs
  | dev => exact hdev.elim (fun e => (h.frame .dev).imp id (fun x => e.symm.trans x)) Or.inl
  | pat => exact h2.elim (fun e => (h.frame .pat).imp id (fun x => e.symm.trans x)) Or.inl
  | svc => exact h3.elim (fun e => (h.frame .svc).imp id (fun x => e.symm.trans x)) Or.inl
  | tasks => exact h4.elim (fun e => (h.frame .tasks).imp id (fun x => e.symm.trans x)) Or.inl
  | eng => exact h5.elim (fun e => (h.frame .eng).imp id (fun x => e.symm.trans x)) Or.inl
  | led => exact h6.elim (fun e => (h.frame .led).imp id (fun x => e.symm.trans x)) Or.inl
  | flm => exact h7.elim (fun e => (h.frame .flm).imp id (fun x => e.symm.trans x)) Or.inl
  | fx => exact h8.elim (fun e => (h.frame .fx).imp id (fun x => e.symm.trans x)) Or.inl
  | wsw => exact h9.elim (fun e => (h.frame .wsw).imp id (fun x => e.symm.trans x)) Or.inl
  | drv => exact h10.elim (fun e => (h.frame .drv).imp id (fun x => e.symm.trans x)) Or.inl
  | pwr => exact h11.elim (fun e => (h.frame .pwr).imp id (fun x => e.symm.trans x)) Or.inl
  | nvm => exact h12.elim (fun e => (h.frame .nvm).imp id (fun x => e.symm.trans x)) Or.inl
  | cht => exact h13.elim (fun e => (h.frame .cht).imp id (fun x => e.symm.trans x)) Or.inl
  | grps => exact h14.elim (fun e => (h.frame .grps).imp id (fun x => e.symm.trans x)) Or.inl
  | tly => exact h15.elim (fun e => (h.frame .tly).imp id (fun x => e.symm.trans x)) Or.inl
  | tc => exact h16.elim (fun e => (h.frame .tc).imp id (fun x => e.symm.trans x)) Or.inl
  | hp => exact h17.elim (fun e => (h.frame .hp).imp id (fun x => e.symm.trans x)) Or.inl
  | slot => exact h18.elim (fun e => (h.frame .slot).imp id (fun x => e.symm.trans x)) Or.inl
  | fw => exact h19.elim (fun e => (h.frame .fw).imp id (fun x => e.symm.trans x)) Or.inl
  | mi => exact h20.elim (fun e => (h.frame .mi).imp id (fun x => e.symm.trans x)) Or.inl
  | mem => exact h.frame .mem
  | poison => exact h22.elim (fun e => (h.frame .poison).imp id (fun x => e.symm.trans x)) Or.inl
  | out => exact h.frame .out
  | freeCtr => exact h.frame .freeCtr

theorem keeps_freeAdd {p : Bool} {A : Nat} {s t : State} (h : Keeps p A s t) (n : Nat) (hA : A &&& 16777216 = 16777216) : Keeps p A s { t with freeCtr := t.freeCtr + n } :=
  { h with
    free := h.free.trans (Nat.le_add_right _ _)
    frame := fun c => by cases c <;> first | exact h.frame .freeCtr | exact Or.inl hA | exact h.frame _ }

/-- A row's answer keeps them. -/
@[irreducible] def KeepsR (p : Bool) (A : Nat) (s : State) (r : Result) : Prop := ∀ t, r = .next t → Keeps p A s t

theorem keepsR_next {p : Bool} {A : Nat} {s t : State} (h : Keeps p A s t) : KeepsR p A s (.next t) := by
  unfold KeepsR
  intro u hu; cases hu; exact h

theorem keepsR_ite {p : Bool} {A : Nat} {s : State} {a b : Result} {c : Prop} [Decidable c] (ha : KeepsR p A s a) (hb : KeepsR p A s b) : KeepsR p A s (if c then a else b) := by
  split <;> assumption

/-- A pair's state keeps them. -/
def KeepsP {α : Type} (p : Bool) (A : Nat) (s : State) (x : State × α) : Prop := Keeps p A s x.1

theorem keepsP_mk {α : Type} {p : Bool} {A : Nat} {s t : State} {x : α} (h : Keeps p A s t) : KeepsP p A s (t, x) := h

theorem keepsP_ite {α : Type} {p : Bool} {A : Nat} {s : State} {a b : State × α} {c : Prop} [Decidable c] (ha : KeepsP p A s a) (hb : KeepsP p A s b) : KeepsP p A s (if c then a else b) := by
  split <;> assumption

theorem keepsP_foldl {α β : Type} {p : Bool} {A : Nat} {s : State} {x : State × β} {f : State × β → α → State × β} (l : List α) (hf : ∀ x a, KeepsP p A s x → KeepsP p A s (f x a))
    (h : KeepsP p A s x) : KeepsP p A s (l.foldl f x) := by
  induction l generalizing x with
  | nil => exact h
  | cons a l ih => exact ih (hf x a h)

theorem KeepsP.fst {α : Type} {p : Bool} {A : Nat} {s : State} {x : State × α} (h : KeepsP p A s x) : Keeps p A s x.1 := h

theorem KeepsP.of_eq {α : Type} {p : Bool} {A : Nat} {s t : State} {a : α} {x : State × α} (e : x = (t, a)) (h : KeepsP p A s x) : Keeps p A s t := by
  rw [e] at h; exact h

/-- The state of a pair that may not be there keeps them. -/
@[irreducible] def KeepsO {α : Type} (p : Bool) (A : Nat) (s : State) (x : Option (State × α)) : Prop := ∀ t a, x = some (t, a) → Keeps p A s t

theorem keepsO_some {α : Type} {p : Bool} {A : Nat} {s t : State} {a : α} (h : Keeps p A s t) : KeepsO p A s (some (t, a)) := by
  unfold KeepsO
  intro u b hu; cases hu; exact h

theorem keepsO_none {α : Type} {p : Bool} {A : Nat} {s : State} : KeepsO (α := α) p A s none := by
  unfold KeepsO
  intro u b hu; cases hu

theorem keepsO_ite {α : Type} {p : Bool} {A : Nat} {s : State} {a b : Option (State × α)} {c : Prop} [Decidable c] (ha : KeepsO p A s a) (hb : KeepsO p A s b) : KeepsO p A s (if c then a else b) := by
  split <;> assumption

theorem KeepsO.of_eq {α : Type} {p : Bool} {A : Nat} {s t : State} {a : α} {x : Option (State × α)} (e : x = some (t, a)) (h : KeepsO p A s x) : Keeps p A s t := by
  unfold KeepsO at h; exact h t a e

/-- The state of a pair with a value in front keeps them. -/
def KeepsV {α : Type} (p : Bool) (A : Nat) (s : State) (x : α × State) : Prop := Keeps p A s x.2

theorem keepsV_mk {α : Type} {p : Bool} {A : Nat} {s t : State} {x : α} (h : Keeps p A s t) : KeepsV p A s (x, t) := h

theorem keepsV_ite {α : Type} {p : Bool} {A : Nat} {s : State} {a b : α × State} {c : Prop} [Decidable c] (ha : KeepsV p A s a) (hb : KeepsV p A s b) : KeepsV p A s (if c then a else b) := by
  split <;> assumption

theorem KeepsV.snd {α : Type} {p : Bool} {A : Nat} {s : State} {x : α × State} (h : KeepsV p A s x) : Keeps p A s x.2 := h

theorem KeepsV.of_eq {α : Type} {p : Bool} {A : Nat} {s t : State} {a : α} {x : α × State} (e : x = (a, t)) (h : KeepsV p A s x) : Keeps p A s t := by
  rw [e] at h; exact h

theorem KeepsR.out {p : Bool} {A : Nat} {s t : State} {r : Result} (h : KeepsR p A s r) (e : r = .next t) : Keeps p A s t := by
  unfold KeepsR at h; exact h t e

theorem keepsO_pair {α : Type} {p : Bool} {A : Nat} {s : State} {x : State × α} (h : KeepsP p A s x) : KeepsO p A s (some x) := by
  obtain ⟨t, a⟩ := x
  exact keepsO_some h

theorem ownerKept_set {l : List (Option Nat × Bool)} {i : Nat} {x : Option Nat × Bool}
    (hx : ∀ d r, l[i]? = some (some d, r) → x.1 = some d ∧ (r = true → x.2 = true)) : OwnerKept l (l.set i x) := by
  intro j d r h
  by_cases hj : i = j
  · subst hj
    obtain ⟨h1, h2⟩ := hx d r h
    have hl : i < l.length := by
      by_contra hn
      rw [List.getElem?_eq_none (by omega)] at h; cases h
    refine ⟨x.2, ?_, h2⟩
    rw [List.getElem?_set_self hl]
    exact congrArg some (Prod.ext h1 rfl)
  · exact ⟨r, by rw [List.getElem?_set_ne hj]; exact h, id⟩

theorem takeWhile_stop {α : Type} (q : α → Bool) (l : List α) (x : α) (h : l[(l.takeWhile q).length]? = some x) : q x = false := by
  induction l with
  | nil => simp at h
  | cons y l ih =>
    by_cases hy : q y = true
    · rw [List.takeWhile_cons_of_pos hy] at h
      simp only [List.length_cons, List.getElem?_cons_succ] at h
      exact ih h
    · rw [List.takeWhile_cons_of_neg hy] at h
      simp only [List.length_nil, List.getElem?_cons_zero, Option.some.injEq] at h
      subst h
      simpa using hy

/-! ## From the parts an operation changes to a greater set -/

theorem Keeps.lift {p : Bool} {A B : Nat} {s t u : State} (g : Keeps p B t u) (hB : B &&& A = B) (h : Keeps p A s t) : Keeps p A s u := h.trans (g.weaken hB)

theorem KeepsR.lift {p : Bool} {A B : Nat} {s t : State} {r : Result} (g : KeepsR p B t r) (hB : B &&& A = B) (h : Keeps p A s t) : KeepsR p A s r := by
  unfold KeepsR at g ⊢
  exact fun u hu => (g u hu).lift hB h

theorem KeepsP.lift {α : Type} {p : Bool} {A B : Nat} {s t : State} {x : State × α} (g : KeepsP p B t x) (hB : B &&& A = B) (h : Keeps p A s t) : KeepsP p A s x := Keeps.lift g hB h

theorem KeepsO.lift {α : Type} {p : Bool} {A B : Nat} {s t : State} {x : Option (State × α)} (g : KeepsO p B t x) (hB : B &&& A = B) (h : Keeps p A s t) : KeepsO p A s x := by
  unfold KeepsO at g ⊢
  exact fun u a hu => (g u a hu).lift hB h

theorem KeepsV.lift {α : Type} {p : Bool} {A B : Nat} {s t : State} {x : α × State} (g : KeepsV p B t x) (hB : B &&& A = B) (h : Keeps p A s t) : KeepsV p A s x := Keeps.lift g hB h

end Sys2Proof.Machine
end

