-- ==== Sys2Proof/Laws/KeepsOps.lean ====
section
/-!
SUPPORT. Laws/KeepsOps.lean: what each operation of the shared operations: registers, events, the Ledger, the Scaler, traffic, outputs, storage, Brands and the Tally keeps (Laws/Keeps.lean): one lemma for each.
-/
set_option maxRecDepth 4000
set_option linter.all false

namespace Sys2Proof.Machine

/-! ## Machine/Ops.lean -/

theorem keeps_State_set {pK : Bool} {AK : Nat} {sK tK : State} (f : Fld) (v : Nat) (i : Nat) (j : Nat) (hA : 1 &&& AK = 1)  (hK : Keeps pK AK sK tK) :
    Keeps pK AK sK (State.set tK f v i j) := by
  refine Keeps.lift (B := 1) ?_ hA hK
  clear hK hA
  have hK : Keeps pK 1 tK tK := Keeps.refl ..
  exact { hK with
      regs := fun x => sparseSorted_put _ _ _ (hK.regs x)
      frame := fun c => by cases c <;> first | exact Or.inl rfl | exact hK.frame _ }

theorem keeps_State_setFlag {pK : Bool} {AK : Nat} {sK tK : State} (f : Fld) (b : Bool) (i : Nat) (j : Nat) (hA : 1 &&& AK = 1)  (hK : Keeps pK AK sK tK) :
    Keeps pK AK sK (State.setFlag tK f b i j) := by
  refine Keeps.lift (B := 1) ?_ hA hK
  clear hK hA
  have hK : Keeps pK 1 tK tK := Keeps.refl ..
  simp (maxDischargeDepth := 60) +contextual only [State.setFlag, Nat.reduceAnd, eq_self, keeps_State_set, hK]

theorem keeps_State_bump {pK : Bool} {AK : Nat} {sK tK : State} (f : Fld) (i : Nat) (j : Nat) (hA : 1 &&& AK = 1)  (hK : Keeps pK AK sK tK) :
    Keeps pK AK sK (State.bump tK f i j) := by
  refine Keeps.lift (B := 1) ?_ hA hK
  clear hK hA
  have hK : Keeps pK 1 tK tK := Keeps.refl ..
  simp (maxDischargeDepth := 60) +contextual only [State.bump, Nat.reduceAnd, eq_self, keeps_State_set, hK]

theorem keeps_State_bumpBy {pK : Bool} {AK : Nat} {sK tK : State} (f : Fld) (n : Nat) (i : Nat) (j : Nat) (hA : 1 &&& AK = 1)  (hK : Keeps pK AK sK tK) :
    Keeps pK AK sK (State.bumpBy tK f n i j) := by
  refine Keeps.lift (B := 1) ?_ hA hK
  clear hK hA
  have hK : Keeps pK 1 tK tK := Keeps.refl ..
  simp (maxDischargeDepth := 60) +contextual only [State.bumpBy, Nat.reduceAnd, eq_self, keeps_State_set, hK]

theorem keeps_State_emit {pK : Bool} {AK : Nat} {sK tK : State} (o : Out) (hA : 8388608 &&& AK = 8388608)  (hK : Keeps pK AK sK tK) :
    Keeps pK AK sK (State.emit tK o) := by
  refine Keeps.lift (B := 8388608) ?_ hA hK
  clear hK hA
  have hK : Keeps pK 8388608 tK tK := Keeps.refl ..
  exact { hK with
      out := ⟨[o], rfl⟩
      frame := fun c => by cases c <;> first | exact Or.inl rfl | exact hK.frame _ }

theorem keeps_State_drawn {pK : Bool} {AK : Nat} {sK tK : State}  (hA : 16777216 &&& AK = 16777216)  (hK : Keeps pK AK sK tK) :
    Keeps pK AK sK (State.drawn tK) := by
  refine Keeps.lift (B := 16777216) ?_ hA hK
  clear hK hA
  have hK : Keeps pK 16777216 tK tK := Keeps.refl ..
  exact { hK with
      free := hK.free.trans (Nat.le_succ _)
      frame := fun c => by cases c <;> first | exact Or.inl rfl | exact hK.frame _ }

theorem keeps_State_advance {pK : Bool} {AK : Nat} {sK tK : State} (ns : Nat) (hA : 2 &&& AK = 2)  (hK : Keeps pK AK sK tK) :
    Keeps pK AK sK (State.advance tK ns) := by
  refine Keeps.lift (B := 2) ?_ hA hK
  clear hK hA
  have hK : Keeps pK 2 tK tK := Keeps.refl ..
  exact { hK with
      time := fun x => (hK.time x).trans (Nat.le_add_right _ _)
      frame := fun c => by cases c <;> first | exact Or.inl rfl | exact hK.frame _ }

theorem keeps_State_inStep {pK : Bool} {AK : Nat} {sK tK : State} (f : State → State) (hA : 2 &&& AK = 2) (hF_f : ∀ (t : State) , Keeps pK AK sK t → Keeps pK AK sK (f t)) (hK : Keeps pK AK sK tK) :
    Keeps pK AK sK (State.inStep tK f) := by
  have g0 : 2 &&& AK = 2 := sub_trans (by decide) hA
  have c0 : AK &&& 2 = 2 := by rw [Nat.and_comm]; exact g0
  simp (maxDischargeDepth := 60) +contextual only [State.inStep, eq_self, true_or, or_true, devSame_mk, keeps_mk, hK, hF_f, c0]

theorem keeps_State_memWrite {pK : Bool} {AK : Nat} {sK tK : State} (a : Nat) (bs : List Byte) (hA : 2097152 &&& AK = 2097152)  (hK : Keeps pK AK sK tK) :
    Keeps pK AK sK (State.memWrite tK a bs) := by
  refine Keeps.lift (B := 2097152) ?_ hA hK
  clear hK hA
  have hK : Keeps pK 2097152 tK tK := Keeps.refl ..
  exact { hK with
      mem := fun x => memory_wf_put a bs (hK.mem x)
      frame := fun c => by cases c <;> first | exact Or.inl rfl | exact hK.frame _ }

theorem keeps_State_setPoison {pK : Bool} {AK : Nat} {sK tK : State} (a : Nat) (hA : 4194304 &&& AK = 4194304)  (hK : Keeps pK AK sK tK) :
    Keeps pK AK sK (State.setPoison tK a) := by
  refine Keeps.lift (B := 4194304) ?_ hA hK
  clear hK hA
  have hK : Keeps pK 4194304 tK tK := Keeps.refl ..
  simp (maxDischargeDepth := 60) +contextual only [State.setPoison, Nat.reduceAnd, eq_self, true_or, or_true, devSame_refl, keeps_mk, hK]

theorem keeps_State_clearPoison {pK : Bool} {AK : Nat} {sK tK : State} (a : Nat) (hA : 4194304 &&& AK = 4194304)  (hK : Keeps pK AK sK tK) :
    Keeps pK AK sK (State.clearPoison tK a) := by
  refine Keeps.lift (B := 4194304) ?_ hA hK
  clear hK hA
  have hK : Keeps pK 4194304 tK tK := Keeps.refl ..
  simp (maxDischargeDepth := 60) +contextual only [State.clearPoison, Nat.reduceAnd, eq_self, true_or, or_true, devSame_refl, keeps_mk, hK]

theorem keeps_State_clearPoisonIn {pK : Bool} {AK : Nat} {sK tK : State} (a : Nat) (n : Nat) (hA : 4194304 &&& AK = 4194304)  (hK : Keeps pK AK sK tK) :
    Keeps pK AK sK (State.clearPoisonIn tK a n) := by
  refine Keeps.lift (B := 4194304) ?_ hA hK
  clear hK hA
  have hK : Keeps pK 4194304 tK tK := Keeps.refl ..
  simp (maxDischargeDepth := 60) +contextual only [State.clearPoisonIn, Nat.reduceAnd, eq_self, true_or, or_true, devSame_refl, keeps_mk, hK]

theorem keeps_State_injected {pK : Bool} {AK : Nat} {sK tK : State} (a : Nat) (n : Nat) (hA : 5242880 &&& AK = 5242880)  (hK : Keeps pK AK sK tK) :
    Keeps pK AK sK (State.injected tK a n) := by
  refine Keeps.lift (B := 5242880) ?_ hA hK
  clear hK hA
  have hK : Keeps pK 5242880 tK tK := Keeps.refl ..
  unfold State.injected
  (try dsimp only); (repeat' split) <;> simp (maxDischargeDepth := 60) +contextual only [Nat.reduceAnd, eq_self, true_or, or_true, devSame_refl, keeps_mk, keeps_State_setPoison, hK]

theorem keeps_State_store {pK : Bool} {AK : Nat} {sK tK : State} (a : Nat) (bs : List Byte) (hA : 7340032 &&& AK = 7340032)  (hK : Keeps pK AK sK tK) :
    Keeps pK AK sK (State.store tK a bs) := by
  refine Keeps.lift (B := 7340032) ?_ hA hK
  clear hK hA
  have hK : Keeps pK 7340032 tK tK := Keeps.refl ..
  simp (maxDischargeDepth := 60) +contextual only [State.store, Nat.reduceAnd, eq_self, true_or, or_true, implies_true, devSame_refl, keeps_ite, keeps_foldl, keeps_mk, keeps_State_clearPoisonIn, keeps_State_injected, keeps_State_memWrite, hK]

/-! ## Machine/Flags.lean -/

theorem keeps_State_signal {pK : Bool} {AK : Nat} {sK tK : State} (e : Nat) (vector : Nat) (hA : 8388610 &&& AK = 8388610)  (hK : Keeps pK AK sK tK) :
    Keeps pK AK sK (State.signal tK e vector) := by
  refine Keeps.lift (B := 8388610) ?_ hA hK
  clear hK hA
  have hK : Keeps pK 8388610 tK tK := Keeps.refl ..
  simp (maxDischargeDepth := 60) +contextual only [State.signal, Nat.reduceAnd, eq_self, true_or, or_true, devSame_mk, keeps_ite, keeps_mk, keeps_State_emit, hK]

theorem keeps_State_flushMsix {pK : Bool} {AK : Nat} {sK tK : State}  (hA : 8388610 &&& AK = 8388610)  (hK : Keeps pK AK sK tK) :
    Keeps pK AK sK (State.flushMsix tK) := by
  refine Keeps.lift (B := 8388610) ?_ hA hK
  clear hK hA
  have hK : Keeps pK 8388610 tK tK := Keeps.refl ..
  simp (maxDischargeDepth := 60) +contextual only [State.flushMsix, Nat.reduceAnd, eq_self, true_or, or_true, implies_true, devSame_mk, keeps_foldl, keeps_mk, keeps_State_emit, hK]

theorem keeps_State_setQueue {pK : Bool} {AK : Nat} {sK tK : State} (cluster : Nat) (q : Nat) (es : List Word) (hA : 32 &&& AK = 32)  (hK : Keeps pK AK sK tK) :
    Keeps pK AK sK (State.setQueue tK cluster q es) := by
  refine Keeps.lift (B := 32) ?_ hA hK
  clear hK hA
  have hK : Keeps pK 32 tK tK := Keeps.refl ..
  simp (maxDischargeDepth := 60) +contextual only [State.setQueue, Nat.reduceAnd, eq_self, true_or, or_true, devSame_refl, keeps_mk, hK]

theorem keeps_State_pushEvent {pK : Bool} {AK : Nat} {sK tK : State} (cluster : Nat) (e : Nat) (hA : 32 &&& AK = 32)  (hK : Keeps pK AK sK tK) :
    Keeps pK AK sK (State.pushEvent tK cluster e) := by
  refine Keeps.lift (B := 32) ?_ hA hK
  clear hK hA
  have hK : Keeps pK 32 tK tK := Keeps.refl ..
  simp (maxDischargeDepth := 60) +contextual only [State.pushEvent, Nat.reduceAnd, eq_self, keeps_ite, keeps_State_setQueue, hK]

theorem keeps_State_raise {pK : Bool} {AK : Nat} {sK tK : State} (e : Nat) (hA : 8388643 &&& AK = 8388643)  (hK : Keeps pK AK sK tK) :
    Keeps pK AK sK (State.raise tK e) := by
  refine Keeps.lift (B := 8388643) ?_ hA hK
  clear hK hA
  have hK : Keeps pK 8388643 tK tK := Keeps.refl ..
  simp (maxDischargeDepth := 60) +contextual only [State.raise, Nat.reduceAnd, eq_self, keeps_ite, keeps_State_pushEvent, keeps_State_set, keeps_State_signal, hK]

theorem keeps_State_raiseLimited {pK : Bool} {AK : Nat} {sK tK : State} (e : Nat) (hA : 8388643 &&& AK = 8388643)  (hK : Keeps pK AK sK tK) :
    Keeps pK AK sK (State.raiseLimited tK e) := by
  refine Keeps.lift (B := 8388643) ?_ hA hK
  clear hK hA
  have hK : Keeps pK 8388643 tK tK := Keeps.refl ..
  simp (maxDischargeDepth := 60) +contextual only [State.raiseLimited, Nat.reduceAnd, eq_self, true_or, or_true, devSame_mk, keeps_ite, keeps_mk, keeps_State_raise, hK]

theorem keeps_State_freezeLedger {pK : Bool} {AK : Nat} {sK tK : State}  (hA : 8388643 &&& AK = 8388643)  (hK : Keeps pK AK sK tK) :
    Keeps pK AK sK (State.freezeLedger tK) := by
  refine Keeps.lift (B := 8388643) ?_ hA hK
  clear hK hA
  have hK : Keeps pK 8388643 tK tK := Keeps.refl ..
  simp (maxDischargeDepth := 60) +contextual only [State.freezeLedger, Nat.reduceAnd, eq_self, keeps_ite, keeps_State_raise, keeps_State_set, keeps_State_setFlag, hK]

theorem keeps_State_ledgerLost {pK : Bool} {AK : Nat} {sK tK : State}  (hA : 8388643 &&& AK = 8388643)  (hK : Keeps pK AK sK tK) :
    Keeps pK AK sK (State.ledgerLost tK) := by
  refine Keeps.lift (B := 8388643) ?_ hA hK
  clear hK hA
  have hK : Keeps pK 8388643 tK tK := Keeps.refl ..
  simp (maxDischargeDepth := 60) +contextual only [State.ledgerLost, Nat.reduceAnd, eq_self, keeps_State_bump, keeps_State_raiseLimited, hK]

theorem keeps_State_ledgerStore {pK : Bool} {AK : Nat} {sK tK : State} (r : LedgerRec) (hA : 65 &&& AK = 65)  (hK : Keeps pK AK sK tK) :
    Keeps pK AK sK (State.ledgerStore tK r) := by
  refine Keeps.lift (B := 65) ?_ hA hK
  clear hK hA
  have hK : Keeps pK 65 tK tK := Keeps.refl ..
  simp (maxDischargeDepth := 60) +contextual only [State.ledgerStore, Nat.reduceAnd, eq_self, true_or, or_true, devSame_refl, keeps_mk, keeps_State_set, hK]

theorem keeps_State_ledgerWrite {pK : Bool} {AK : Nat} {sK tK : State} (code : Nat) (island : Nat) (source : Nat) (withheld : Nat) (detail : List Byte) (hA : 8388707 &&& AK = 8388707)  (hK : Keeps pK AK sK tK) :
    Keeps pK AK sK (State.ledgerWrite tK code island source withheld detail) := by
  refine Keeps.lift (B := 8388707) ?_ hA hK
  clear hK hA
  have hK : Keeps pK 8388707 tK tK := Keeps.refl ..
  simp (maxDischargeDepth := 60) +contextual only [State.ledgerWrite, Nat.reduceAnd, eq_self, keeps_ite, keeps_State_freezeLedger, keeps_State_ledgerLost, keeps_State_ledgerStore, keeps_State_raiseLimited, keeps_State_set, hK]

theorem keeps_State_ledger {pK : Bool} {AK : Nat} {sK tK : State} (code : Nat) (island : Nat) (source : Nat) (detail : List Byte) (hA : 8388707 &&& AK = 8388707)  (hK : Keeps pK AK sK tK) :
    Keeps pK AK sK (State.ledger tK code island source detail) := by
  refine Keeps.lift (B := 8388707) ?_ hA hK
  clear hK hA
  have hK : Keeps pK 8388707 tK tK := Keeps.refl ..
  simp (maxDischargeDepth := 60) +contextual only [State.ledger, Nat.reduceAnd, eq_self, keeps_State_ledgerWrite, hK]

theorem keeps_State_withhold {pK : Bool} {AK : Nat} {sK tK : State} (led : Ledger) (hA : 65 &&& AK = 65)  (hK : Keeps pK AK sK tK) :
    Keeps pK AK sK (State.withhold tK led) := by
  refine Keeps.lift (B := 65) ?_ hA hK
  clear hK hA
  have hK : Keeps pK 65 tK tK := Keeps.refl ..
  simp (maxDischargeDepth := 60) +contextual only [State.withhold, Nat.reduceAnd, eq_self, true_or, or_true, devSame_refl, keeps_mk, keeps_State_bump, hK]

theorem keeps_State_ledgerLimited {pK : Bool} {AK : Nat} {sK tK : State} (code : Nat) (island : Nat) (source : Nat) (detail : List Byte) (hA : 8388707 &&& AK = 8388707)  (hK : Keeps pK AK sK tK) :
    Keeps pK AK sK (State.ledgerLimited tK code island source detail) := by
  refine Keeps.lift (B := 8388707) ?_ hA hK
  clear hK hA
  have hK : Keeps pK 8388707 tK tK := Keeps.refl ..
  unfold State.ledgerLimited
  (try dsimp only); (repeat' split) <;> simp (maxDischargeDepth := 60) +contextual only [Nat.reduceAnd, eq_self, true_or, or_true, devSame_refl, keeps_mk, keeps_State_ledgerWrite, keeps_State_withhold, hK]

theorem keeps_State_bridgeFault {pK : Bool} {AK : Nat} {sK tK : State} (island : Nat) (cause : Nat) (hA : 8388643 &&& AK = 8388643)  (hK : Keeps pK AK sK tK) :
    Keeps pK AK sK (State.bridgeFault tK island cause) := by
  refine Keeps.lift (B := 8388643) ?_ hA hK
  clear hK hA
  have hK : Keeps pK 8388643 tK tK := Keeps.refl ..
  simp (maxDischargeDepth := 60) +contextual only [State.bridgeFault, Nat.reduceAnd, eq_self, keeps_ite, keeps_State_raise, keeps_State_set, keeps_State_setFlag, hK]

theorem keeps_State_accessFault {pK : Bool} {AK : Nat} {sK tK : State} (island : Nat) (cause : Nat) (hA : 8388707 &&& AK = 8388707)  (hK : Keeps pK AK sK tK) :
    Keeps pK AK sK (State.accessFault tK island cause) := by
  refine Keeps.lift (B := 8388707) ?_ hA hK
  clear hK hA
  have hK : Keeps pK 8388707 tK tK := Keeps.refl ..
  simp (maxDischargeDepth := 60) +contextual only [State.accessFault, Nat.reduceAnd, eq_self, keeps_State_bridgeFault, keeps_State_ledger, hK]

/-! ## Machine/Bus.lean -/

theorem keeps_State_busWrite {pK : Bool} {AK : Nat} {sK tK : State} (src : Src) (off : Nat) (effect : State → State) (hA : 8388707 &&& AK = 8388707) (hF_effect : ∀ (t : State) , Keeps pK AK sK t → Keeps pK AK sK (effect t)) (hK : Keeps pK AK sK tK) :
    Keeps pK AK sK (State.busWrite tK src off effect) := by
  have g0 : 1 &&& AK = 1 := sub_trans (by decide) hA
  have c0 : AK &&& 1 = 1 := by rw [Nat.and_comm]; exact g0
  have g1 : 2 &&& AK = 2 := sub_trans (by decide) hA
  have c1 : AK &&& 2 = 2 := by rw [Nat.and_comm]; exact g1
  have g2 : 32 &&& AK = 32 := sub_trans (by decide) hA
  have c2 : AK &&& 32 = 32 := by rw [Nat.and_comm]; exact g2
  have g3 : 64 &&& AK = 64 := sub_trans (by decide) hA
  have c3 : AK &&& 64 = 64 := by rw [Nat.and_comm]; exact g3
  have g4 : 8388608 &&& AK = 8388608 := sub_trans (by decide) hA
  have c4 : AK &&& 8388608 = 8388608 := by rw [Nat.and_comm]; exact g4
  have g5 : 8388707 &&& AK = 8388707 := sub_trans (by decide) hA
  have c5 : AK &&& 8388707 = 8388707 := by rw [Nat.and_comm]; exact g5
  unfold State.busWrite
  (try dsimp only); (repeat' split) <;> simp (maxDischargeDepth := 60) +contextual only [eq_self, keeps_State_accessFault, keeps_State_emit, hK, hF_effect, g4, g5]

/-! ## Machine/Observability.lean -/

theorem keeps_State_addCounter {pK : Bool} {AK : Nat} {sK tK : State} (i : Nat) (weight : Nat) (hA : 8388643 &&& AK = 8388643)  (hK : Keeps pK AK sK tK) :
    Keeps pK AK sK (State.addCounter tK i weight) := by
  refine Keeps.lift (B := 8388643) ?_ hA hK
  clear hK hA
  have hK : Keeps pK 8388643 tK tK := Keeps.refl ..
  simp (maxDischargeDepth := 60) +contextual only [State.addCounter, Nat.reduceAnd, eq_self, keeps_ite, keeps_State_raiseLimited, keeps_State_set, hK]

theorem keeps_State_count {pK : Bool} {AK : Nat} {sK tK : State} (unit : Nat) (inst : Nat) (event : Nat) (weight : Nat) (hA : 8388643 &&& AK = 8388643)  (hK : Keeps pK AK sK tK) :
    Keeps pK AK sK (State.count tK unit inst event weight) := by
  refine Keeps.lift (B := 8388643) ?_ hA hK
  clear hK hA
  have hK : Keeps pK 8388643 tK tK := Keeps.refl ..
  simp (maxDischargeDepth := 60) +contextual only [State.count, Nat.reduceAnd, eq_self, implies_true, keeps_ite, keeps_foldl, keeps_State_addCounter, hK]

theorem keeps_State_countEngine {pK : Bool} {AK : Nat} {sK tK : State} (n : Nat) (event : Nat) (weight : Nat) (hA : 8388643 &&& AK = 8388643)  (hK : Keeps pK AK sK tK) :
    Keeps pK AK sK (State.countEngine tK n event weight) := by
  refine Keeps.lift (B := 8388643) ?_ hA hK
  clear hK hA
  have hK : Keeps pK 8388643 tK tK := Keeps.refl ..
  simp (maxDischargeDepth := 60) +contextual only [State.countEngine, Nat.reduceAnd, eq_self, implies_true, keeps_ite, keeps_foldl, keeps_State_addCounter, hK]

theorem keeps_State_reach {pK : Bool} {AK : Nat} {sK tK : State} (t : Nat) (hA : 2 &&& AK = 2)  (hK : Keeps pK AK sK tK) :
    Keeps pK AK sK (State.reach tK t) := by
  refine Keeps.lift (B := 2) ?_ hA hK
  clear hK hA
  have hK : Keeps pK 2 tK tK := Keeps.refl ..
  exact { hK with
      time := fun x => (hK.time x).trans (Nat.le_max_left _ _)
      frame := fun c => by cases c <;> first | exact Or.inl rfl | exact hK.frame _ }

theorem keeps_scalerAccess {pK : Bool} {AK : Nat} {sK tK : State} (i : Nat) (acc : CounterAccess) (hA : 8388707 &&& AK = 8388707)  (hK : Keeps pK AK sK tK) :
    Keeps pK AK sK (scalerAccess i acc tK) := by
  refine Keeps.lift (B := 8388707) ?_ hA hK
  clear hK hA
  have hK : Keeps pK 8388707 tK tK := Keeps.refl ..
  unfold scalerAccess
  (try dsimp only); (repeat' split) <;> simp (maxDischargeDepth := 60) +contextual only [Nat.reduceAnd, eq_self, implies_true, keeps_State_busWrite, keeps_State_emit, keeps_State_set, hK]

theorem keeps_execScalerCounterWrite {pK : Bool} {AK : Nat} {sK tK : State} (i : Nat) (acc : CounterAccess) (hA : 8388707 &&& AK = 8388707)  (hK : Keeps pK AK sK tK) :
    KeepsR pK AK sK (execScalerCounterWrite i acc tK) := by
  refine KeepsR.lift (B := 8388707) ?_ hA hK
  clear hK hA
  have hK : Keeps pK 8388707 tK tK := Keeps.refl ..
  simp (maxDischargeDepth := 60) +contextual only [execScalerCounterWrite, Nat.reduceAnd, eq_self, keeps_ite, keepsR_next, keeps_scalerAccess, hK]

theorem keeps_execScalerSelectWrite {pK : Bool} {AK : Nat} {sK tK : State} (src : Src) (i : Nat) (sel : Selection) (hA : 8388707 &&& AK = 8388707)  (hK : Keeps pK AK sK tK) :
    KeepsR pK AK sK (execScalerSelectWrite src i sel tK) := by
  refine KeepsR.lift (B := 8388707) ?_ hA hK
  clear hK hA
  have hK : Keeps pK 8388707 tK tK := Keeps.refl ..
  simp (maxDischargeDepth := 60) +contextual only [execScalerSelectWrite, Nat.reduceAnd, eq_self, implies_true, keeps_ite, keepsR_next, keeps_State_busWrite, keeps_State_set, keeps_State_setFlag, hK]

theorem keeps_execScalerStartAtReached {pK : Bool} {AK : Nat} {sK tK : State}  (hA : 2 &&& AK = 2)  (hK : Keeps pK AK sK tK) :
    KeepsR pK AK sK (execScalerStartAtReached tK) := by
  refine KeepsR.lift (B := 2) ?_ hA hK
  clear hK hA
  have hK : Keeps pK 2 tK tK := Keeps.refl ..
  simp (maxDischargeDepth := 60) +contextual only [execScalerStartAtReached, Nat.reduceAnd, eq_self, keepsR_next, keeps_State_reach, hK]

theorem keeps_execScalerStopAtReached {pK : Bool} {AK : Nat} {sK tK : State}  (hA : 2 &&& AK = 2)  (hK : Keeps pK AK sK tK) :
    KeepsR pK AK sK (execScalerStopAtReached tK) := by
  refine KeepsR.lift (B := 2) ?_ hA hK
  clear hK hA
  have hK : Keeps pK 2 tK tK := Keeps.refl ..
  simp (maxDischargeDepth := 60) +contextual only [execScalerStopAtReached, Nat.reduceAnd, eq_self, keepsR_next, keeps_State_reach, hK]

theorem keeps_State_writeSample {pK : Bool} {AK : Nat} {sK tK : State} (n : Nat) (r : Sample) (hA : 15728675 &&& AK = 15728675)  (hK : Keeps pK AK sK tK) :
    Keeps pK AK sK (State.writeSample tK n r) := by
  refine Keeps.lift (B := 15728675) ?_ hA hK
  clear hK hA
  have hK : Keeps pK 15728675 tK tK := Keeps.refl ..
  simp (maxDischargeDepth := 60) +contextual only [State.writeSample, Nat.reduceAnd, eq_self, keeps_ite, keeps_State_bump, keeps_State_raiseLimited, keeps_State_set, keeps_State_store, hK]

theorem keeps_execSampleTaken {pK : Bool} {AK : Nat} {sK tK : State} (engine : Nat) (smp : Sample) (hA : 32505891 &&& AK = 32505891)  (hK : Keeps pK AK sK tK) :
    KeepsR pK AK sK (execSampleTaken engine smp tK) := by
  refine KeepsR.lift (B := 32505891) ?_ hA hK
  clear hK hA
  have hK : Keeps pK 32505891 tK tK := Keeps.refl ..
  simp (maxDischargeDepth := 60) +contextual only [execSampleTaken, Nat.reduceAnd, eq_self, true_or, or_true, devSame_refl, keeps_ite, keepsR_next, keeps_mk, keeps_State_drawn, keeps_State_writeSample, hK]

theorem keeps_State_ringEmpty {pK : Bool} {AK : Nat} {sK tK : State} (n : Nat) (hA : 1 &&& AK = 1)  (hK : Keeps pK AK sK tK) :
    Keeps pK AK sK (State.ringEmpty tK n) := by
  refine Keeps.lift (B := 1) ?_ hA hK
  clear hK hA
  have hK : Keeps pK 1 tK tK := Keeps.refl ..
  simp (maxDischargeDepth := 60) +contextual only [State.ringEmpty, Nat.reduceAnd, eq_self, keeps_State_set, hK]

theorem keeps_execSmpRingReset {pK : Bool} {AK : Nat} {sK tK : State} (src : Src) (engine : Nat) (wr : SmpWrite) (hA : 8388707 &&& AK = 8388707)  (hK : Keeps pK AK sK tK) :
    KeepsR pK AK sK (execSmpRingReset src engine wr tK) := by
  refine KeepsR.lift (B := 8388707) ?_ hA hK
  clear hK hA
  have hK : Keeps pK 8388707 tK tK := Keeps.refl ..
  unfold execSmpRingReset
  (try dsimp only); (repeat' split) <;> simp (maxDischargeDepth := 60) +contextual only [Nat.reduceAnd, eq_self, implies_true, keepsR_next, keeps_State_busWrite, keeps_State_ledger, keeps_State_ringEmpty, keeps_State_set, keeps_State_setFlag, hK]

theorem keeps_State_ledgerControl {pK : Bool} {AK : Nat} {sK tK : State} (freeze : Bool) (thaw : Bool) (hA : 8388707 &&& AK = 8388707)  (hK : Keeps pK AK sK tK) :
    Keeps pK AK sK (State.ledgerControl tK freeze thaw) := by
  refine Keeps.lift (B := 8388707) ?_ hA hK
  clear hK hA
  have hK : Keeps pK 8388707 tK tK := Keeps.refl ..
  simp (maxDischargeDepth := 60) +contextual only [State.ledgerControl, Nat.reduceAnd, eq_self, keeps_ite, keeps_State_freezeLedger, keeps_State_ledger, keeps_State_set, keeps_State_setFlag, hK]

theorem keeps_execLdgFreezeWrite {pK : Bool} {AK : Nat} {sK tK : State} (src : Src) (thawToo : Bool) (hA : 8388707 &&& AK = 8388707)  (hK : Keeps pK AK sK tK) :
    KeepsR pK AK sK (execLdgFreezeWrite src thawToo tK) := by
  refine KeepsR.lift (B := 8388707) ?_ hA hK
  clear hK hA
  have hK : Keeps pK 8388707 tK tK := Keeps.refl ..
  simp (maxDischargeDepth := 60) +contextual only [execLdgFreezeWrite, Nat.reduceAnd, eq_self, implies_true, keepsR_next, keeps_State_busWrite, keeps_State_ledgerControl, hK]

theorem keeps_execLdgThaw {pK : Bool} {AK : Nat} {sK tK : State} (src : Src) (freezeToo : Bool) (hA : 8388707 &&& AK = 8388707)  (hK : Keeps pK AK sK tK) :
    KeepsR pK AK sK (execLdgThaw src freezeToo tK) := by
  refine KeepsR.lift (B := 8388707) ?_ hA hK
  clear hK hA
  have hK : Keeps pK 8388707 tK tK := Keeps.refl ..
  simp (maxDischargeDepth := 60) +contextual only [execLdgThaw, Nat.reduceAnd, eq_self, implies_true, keeps_ite, keepsR_next, keeps_State_busWrite, keeps_State_ledgerControl, hK]

/-! ## Machine/Traffic.lean -/

theorem keeps_State_setPoint {pK : Bool} {AK : Nat} {sK tK : State} (p : Nat) (x : TcPoint) (hA : 65536 &&& AK = 65536)  (hK : Keeps pK AK sK tK) :
    Keeps pK AK sK (State.setPoint tK p x) := by
  refine Keeps.lift (B := 65536) ?_ hA hK
  clear hK hA
  have hK : Keeps pK 65536 tK tK := Keeps.refl ..
  simp (maxDischargeDepth := 60) +contextual only [State.setPoint, Nat.reduceAnd, eq_self, true_or, or_true, devSame_refl, keeps_mk, hK]

theorem keeps_State_setLportSt {pK : Bool} {AK : Nat} {sK tK : State} (lport : Nat) (x : LportSt) (hA : 131072 &&& AK = 131072)  (hK : Keeps pK AK sK tK) :
    Keeps pK AK sK (State.setLportSt tK lport x) := by
  refine Keeps.lift (B := 131072) ?_ hA hK
  clear hK hA
  have hK : Keeps pK 131072 tK tK := Keeps.refl ..
  simp (maxDischargeDepth := 60) +contextual only [State.setLportSt, Nat.reduceAnd, eq_self, true_or, or_true, devSame_refl, keeps_mk, hK]

theorem keeps_State_setGates {pK : Bool} {AK : Nat} {sK tK : State} (lport : Nat) (g : GateSt) (hA : 65536 &&& AK = 65536)  (hK : Keeps pK AK sK tK) :
    Keeps pK AK sK (State.setGates tK lport g) := by
  refine Keeps.lift (B := 65536) ?_ hA hK
  clear hK hA
  have hK : Keeps pK 65536 tK tK := Keeps.refl ..
  simp (maxDischargeDepth := 60) +contextual only [State.setGates, Nat.reduceAnd, eq_self, true_or, or_true, devSame_refl, keeps_mk, hK]

theorem keeps_State_accrue {pK : Bool} {AK : Nat} {sK tK : State} (p : Nat) (hA : 65536 &&& AK = 65536)  (hK : Keeps pK AK sK tK) :
    Keeps pK AK sK (State.accrue tK p) := by
  refine Keeps.lift (B := 65536) ?_ hA hK
  clear hK hA
  have hK : Keeps pK 65536 tK tK := Keeps.refl ..
  simp (maxDischargeDepth := 60) +contextual only [State.accrue, Nat.reduceAnd, eq_self, keeps_State_setPoint, hK]

theorem keeps_State_meterUnit {pK : Bool} {AK : Nat} {sK tK : State} (m : Nat) (n : Nat) (pre : Colour) (hA : 8454179 &&& AK = 8454179)  (hK : Keeps pK AK sK tK) :
    KeepsP pK AK sK (State.meterUnit tK m n pre) := by
  refine KeepsP.lift (B := 8454179) ?_ hA hK
  clear hK hA
  have hK : Keeps pK 8454179 tK tK := Keeps.refl ..
  unfold State.meterUnit
  (try dsimp only); (repeat' split) <;> simp (maxDischargeDepth := 60) +contextual only [Nat.reduceAnd, eq_self, true_or, or_true, devSame_refl, keepsP_mk, keeps_mk, keeps_State_bump, keeps_State_raiseLimited, hK]

theorem keeps_State_enqueue {pK : Bool} {AK : Nat} {sK tK : State} (p : Nat) (cls : Nat) (u : TcUnit) (hA : 65536 &&& AK = 65536)  (hK : Keeps pK AK sK tK) :
    Keeps pK AK sK (State.enqueue tK p cls u) := by
  refine Keeps.lift (B := 65536) ?_ hA hK
  clear hK hA
  have hK : Keeps pK 65536 tK tK := Keeps.refl ..
  simp (maxDischargeDepth := 60) +contextual only [State.enqueue, Nat.reduceAnd, eq_self, keeps_State_accrue, keeps_State_setPoint, hK]

theorem keeps_State_egress {pK : Bool} {AK : Nat} {sK tK : State} (lport : Nat) (cls : Nat) (u : TcUnit) (hA : 8454179 &&& AK = 8454179)  (hK : Keeps pK AK sK tK) :
    Keeps pK AK sK (State.egress tK lport cls u) := by
  refine Keeps.lift (B := 8454179) ?_ hA hK
  clear hK hA
  have hK : Keeps pK 8454179 tK tK := Keeps.refl ..
  unfold State.egress
  (try dsimp only); (repeat' split) <;> simp (maxDischargeDepth := 60) +contextual only [Nat.reduceAnd, eq_self, KeepsP.fst, keeps_State_bump, keeps_State_enqueue, keeps_State_meterUnit, hK]

theorem keeps_State_ownEgress {pK : Bool} {AK : Nat} {sK tK : State} (lport : Nat) (cls : Nat) (len : Nat) (hA : 8454179 &&& AK = 8454179)  (hK : Keeps pK AK sK tK) :
    Keeps pK AK sK (State.ownEgress tK lport cls len) := by
  refine Keeps.lift (B := 8454179) ?_ hA hK
  clear hK hA
  have hK : Keeps pK 8454179 tK tK := Keeps.refl ..
  simp (maxDischargeDepth := 60) +contextual only [State.ownEgress, Nat.reduceAnd, eq_self, true_or, or_true, devSame_refl, keeps_mk, keeps_State_egress, hK]

/-! ## Machine/Outputs.lean -/

theorem keeps_State_fold {pK : Bool} {AK : Nat} {sK tK : State} (kind : Nat) (key : Nat) (value : List Byte) (hA : 512 &&& AK = 512)  (hK : Keeps pK AK sK tK) :
    Keeps pK AK sK (State.fold tK kind key value) := by
  refine Keeps.lift (B := 512) ?_ hA hK
  clear hK hA
  have hK : Keeps pK 512 tK tK := Keeps.refl ..
  simp (maxDischargeDepth := 60) +contextual only [State.fold, Nat.reduceAnd, eq_self, true_or, or_true, devSame_refl, keeps_ite, keeps_mk, hK]

theorem keeps_State_release {pK : Bool} {AK : Nat} {sK tK : State} (o : Out) (hA : 8454179 &&& AK = 8454179)  (hK : Keeps pK AK sK tK) :
    Keeps pK AK sK (State.release tK o) := by
  refine Keeps.lift (B := 8454179) ?_ hA hK
  clear hK hA
  have hK : Keeps pK 8454179 tK tK := Keeps.refl ..
  unfold State.release
  (try dsimp only); (repeat' split) <;> simp (maxDischargeDepth := 60) +contextual only [Nat.reduceAnd, eq_self, keeps_State_emit, keeps_State_ownEgress, hK]

theorem keeps_State_perform {pK : Bool} {AK : Nat} {sK tK : State} (side : OutSide) (acks : Bool) (o : Out) (hA : 8454691 &&& AK = 8454691)  (hK : Keeps pK AK sK tK) :
    Keeps pK AK sK (State.perform tK side acks o) := by
  refine Keeps.lift (B := 8454691) ?_ hA hK
  clear hK hA
  have hK : Keeps pK 8454691 tK tK := Keeps.refl ..
  simp (maxDischargeDepth := 60) +contextual only [State.perform, Nat.reduceAnd, eq_self, true_or, or_true, devSame_refl, keeps_ite, keeps_mk, keeps_State_release, hK]

theorem keeps_State_linkAcked {pK : Bool} {AK : Nat} {sK tK : State} (ack : Nat) (hA : 8454691 &&& AK = 8454691)  (hK : Keeps pK AK sK tK) :
    Keeps pK AK sK (State.linkAcked tK ack) := by
  refine Keeps.lift (B := 8454691) ?_ hA hK
  clear hK hA
  have hK : Keeps pK 8454691 tK tK := Keeps.refl ..
  simp (maxDischargeDepth := 60) +contextual only [State.linkAcked, Nat.reduceAnd, eq_self, true_or, or_true, implies_true, devSame_refl, keeps_foldl, keeps_mk, keeps_State_release, hK]

theorem keeps_State_putLink {pK : Bool} {AK : Nat} {sK tK : State} (lseq : Nat) (replay : Bool) (nak : Bool) (b : LinkBody) (hA : 8389155 &&& AK = 8389155)  (hK : Keeps pK AK sK tK) :
    Keeps pK AK sK (State.putLink tK lseq replay nak b) := by
  refine Keeps.lift (B := 8389155) ?_ hA hK
  clear hK hA
  have hK : Keeps pK 8389155 tK tK := Keeps.refl ..
  simp (maxDischargeDepth := 60) +contextual only [State.putLink, Nat.reduceAnd, eq_self, true_or, or_true, devSame_refl, keeps_mk, keeps_State_count, keeps_State_emit, hK]

theorem keeps_State_sendLink {pK : Bool} {AK : Nat} {sK tK : State} (b : LinkBody) (hA : 8389155 &&& AK = 8389155)  (hK : Keeps pK AK sK tK) :
    Keeps pK AK sK (State.sendLink tK b) := by
  refine Keeps.lift (B := 8389155) ?_ hA hK
  clear hK hA
  have hK : Keeps pK 8389155 tK tK := Keeps.refl ..
  simp (maxDischargeDepth := 60) +contextual only [State.sendLink, Nat.reduceAnd, eq_self, true_or, or_true, devSame_refl, keeps_ite, keeps_mk, keeps_State_putLink, hK]

theorem keeps_State_sendInput {pK : Bool} {AK : Nat} {sK tK : State} (r : InputRec) (hA : 8389155 &&& AK = 8389155)  (hK : Keeps pK AK sK tK) :
    Keeps pK AK sK (State.sendInput tK r) := by
  refine Keeps.lift (B := 8389155) ?_ hA hK
  clear hK hA
  have hK : Keeps pK 8389155 tK tK := Keeps.refl ..
  simp (maxDischargeDepth := 60) +contextual only [State.sendInput, Nat.reduceAnd, eq_self, keeps_ite, keeps_State_count, keeps_State_sendLink, hK]

theorem keeps_State_number {pK : Bool} {AK : Nat} {sK tK : State} (sideB : Bool) (refOnly : Bool) (origin : Nat) (i : Input) (hA : 8389155 &&& AK = 8389155)  (hK : Keeps pK AK sK tK) :
    Keeps pK AK sK (State.number tK sideB refOnly origin i) := by
  refine Keeps.lift (B := 8389155) ?_ hA hK
  clear hK hA
  have hK : Keeps pK 8389155 tK tK := Keeps.refl ..
  simp (maxDischargeDepth := 60) +contextual only [State.number, Nat.reduceAnd, eq_self, true_or, or_true, devSame_refl, keeps_mk, keeps_State_sendInput, hK]

theorem keeps_State_observe {pK : Bool} {AK : Nat} {sK tK : State} (i : Input) (hA : 8389155 &&& AK = 8389155)  (hK : Keeps pK AK sK tK) :
    Keeps pK AK sK (State.observe tK i) := by
  refine Keeps.lift (B := 8389155) ?_ hA hK
  clear hK hA
  have hK : Keeps pK 8389155 tK tK := Keeps.refl ..
  simp (maxDischargeDepth := 60) +contextual only [State.observe, Nat.reduceAnd, eq_self, true_or, or_true, devSame_refl, keeps_ite, keeps_mk, keeps_State_number, keeps_State_sendLink, hK]

theorem keeps_State_stepWrite {pK : Bool} {AK : Nat} {sK tK : State} (src : Src) (w : StepWrite) (effect : State → State) (hA : 8389155 &&& AK = 8389155) (hF_effect : ∀ (t : State) , Keeps pK AK sK t → Keeps pK AK sK (effect t)) (hK : Keeps pK AK sK tK) :
    Keeps pK AK sK (State.stepWrite tK src w effect) := by
  have g0 : 1 &&& AK = 1 := sub_trans (by decide) hA
  have c0 : AK &&& 1 = 1 := by rw [Nat.and_comm]; exact g0
  have g1 : 2 &&& AK = 2 := sub_trans (by decide) hA
  have c1 : AK &&& 2 = 2 := by rw [Nat.and_comm]; exact g1
  have g2 : 32 &&& AK = 32 := sub_trans (by decide) hA
  have c2 : AK &&& 32 = 32 := by rw [Nat.and_comm]; exact g2
  have g3 : 512 &&& AK = 512 := sub_trans (by decide) hA
  have c3 : AK &&& 512 = 512 := by rw [Nat.and_comm]; exact g3
  have g4 : 8388608 &&& AK = 8388608 := sub_trans (by decide) hA
  have c4 : AK &&& 8388608 = 8388608 := by rw [Nat.and_comm]; exact g4
  have g5 : 8389155 &&& AK = 8389155 := sub_trans (by decide) hA
  have c5 : AK &&& 8389155 = 8389155 := by rw [Nat.and_comm]; exact g5
  simp (maxDischargeDepth := 60) +contextual only [State.stepWrite, eq_self, keeps_ite, keeps_State_observe, hK, hF_effect, g5]

/-! ## Machine/PowerOps.lean -/

theorem keeps_State_setPort {pK : Bool} {AK : Nat} {sK tK : State} (n : Nat) (p : DrvPort) (hA : 1024 &&& AK = 1024)  (hK : Keeps pK AK sK tK) :
    Keeps pK AK sK (State.setPort tK n p) := by
  refine Keeps.lift (B := 1024) ?_ hA hK
  clear hK hA
  have hK : Keeps pK 1024 tK tK := Keeps.refl ..
  simp (maxDischargeDepth := 60) +contextual only [State.setPort, Nat.reduceAnd, eq_self, true_or, or_true, devSame_refl, keeps_mk, hK]

theorem keeps_State_portTo {pK : Bool} {AK : Nat} {sK tK : State} (n : Nat) (st : Nat) (hA : 8388643 &&& AK = 8388643)  (hK : Keeps pK AK sK tK) :
    Keeps pK AK sK (State.portTo tK n st) := by
  refine Keeps.lift (B := 8388643) ?_ hA hK
  clear hK hA
  have hK : Keeps pK 8388643 tK tK := Keeps.refl ..
  simp (maxDischargeDepth := 60) +contextual only [State.portTo, Nat.reduceAnd, eq_self, keeps_ite, keeps_State_raise, keeps_State_set, hK]

theorem keeps_State_beginWake {pK : Bool} {AK : Nat} {sK tK : State}  (hA : 8390691 &&& AK = 8390691)  (hK : Keeps pK AK sK tK) :
    Keeps pK AK sK (State.beginWake tK) := by
  refine Keeps.lift (B := 8390691) ?_ hA hK
  clear hK hA
  have hK : Keeps pK 8390691 tK tK := Keeps.refl ..
  simp (maxDischargeDepth := 60) +contextual only [State.beginWake, Nat.reduceAnd, eq_self, true_or, or_true, devSame_refl, keeps_mk, keeps_State_raise, keeps_State_set, hK]

theorem keeps_State_showIslands {pK : Bool} {AK : Nat} {sK tK : State}  (hA : 1 &&& AK = 1)  (hK : Keeps pK AK sK tK) :
    Keeps pK AK sK (State.showIslands tK) := by
  refine Keeps.lift (B := 1) ?_ hA hK
  clear hK hA
  have hK : Keeps pK 1 tK tK := Keeps.refl ..
  simp (maxDischargeDepth := 60) +contextual only [State.showIslands, Nat.reduceAnd, eq_self, keeps_State_set, hK]

theorem keeps_State_gateIslands {pK : Bool} {AK : Nat} {sK tK : State} (is : List Nat) (hA : 3 &&& AK = 3)  (hK : Keeps pK AK sK tK) :
    Keeps pK AK sK (State.gateIslands tK is) := by
  refine Keeps.lift (B := 3) ?_ hA hK
  clear hK hA
  have hK : Keeps pK 3 tK tK := Keeps.refl ..
  simp (maxDischargeDepth := 60) +contextual only [State.gateIslands, Nat.reduceAnd, eq_self, true_or, or_true, devSame_mk, keeps_mk, keeps_State_showIslands, hK]

theorem keeps_State_driveAwake {pK : Bool} {AK : Nat} {sK tK : State} (n : Nat) (hA : 8389667 &&& AK = 8389667)  (hK : Keeps pK AK sK tK) :
    Keeps pK AK sK (State.driveAwake tK n) := by
  refine Keeps.lift (B := 8389667) ?_ hA hK
  clear hK hA
  have hK : Keeps pK 8389667 tK tK := Keeps.refl ..
  simp (maxDischargeDepth := 60) +contextual only [State.driveAwake, Nat.reduceAnd, eq_self, keeps_cond, keeps_State_portTo, keeps_State_setPort, hK]

theorem keeps_State_drivesAwake {pK : Bool} {AK : Nat} {sK tK : State}  (hA : 8389667 &&& AK = 8389667)  (hK : Keeps pK AK sK tK) :
    Keeps pK AK sK (State.drivesAwake tK) := by
  refine Keeps.lift (B := 8389667) ?_ hA hK
  clear hK hA
  have hK : Keeps pK 8389667 tK tK := Keeps.refl ..
  simp (maxDischargeDepth := 60) +contextual only [State.drivesAwake, Nat.reduceAnd, eq_self, implies_true, keeps_foldl, keeps_State_driveAwake, hK]

theorem keeps_State_abortEntry {pK : Bool} {AK : Nat} {sK tK : State}  (hA : 8391715 &&& AK = 8391715)  (hK : Keeps pK AK sK tK) :
    Keeps pK AK sK (State.abortEntry tK) := by
  refine Keeps.lift (B := 8391715) ?_ hA hK
  clear hK hA
  have hK : Keeps pK 8391715 tK tK := Keeps.refl ..
  simp (maxDischargeDepth := 60) +contextual only [State.abortEntry, Nat.reduceAnd, eq_self, true_or, or_true, devSame_refl, keeps_mk, keeps_State_bump, keeps_State_drivesAwake, keeps_State_raise, keeps_State_set, hK]

theorem keeps_State_wakeSource {pK : Bool} {AK : Nat} {sK tK : State}  (hA : 8391715 &&& AK = 8391715)  (hK : Keeps pK AK sK tK) :
    Keeps pK AK sK (State.wakeSource tK) := by
  refine Keeps.lift (B := 8391715) ?_ hA hK
  clear hK hA
  have hK : Keeps pK 8391715 tK tK := Keeps.refl ..
  simp (maxDischargeDepth := 60) +contextual only [State.wakeSource, Nat.reduceAnd, eq_self, true_or, or_true, devSame_refl, keeps_ite, keeps_mk, keeps_State_abortEntry, keeps_State_beginWake, hK]

theorem keeps_State_hostCommand {pK : Bool} {AK : Nat} {sK tK : State}  (hA : 8391715 &&& AK = 8391715)  (hK : Keeps pK AK sK tK) :
    Keeps pK AK sK (State.hostCommand tK) := by
  refine Keeps.lift (B := 8391715) ?_ hA hK
  clear hK hA
  have hK : Keeps pK 8391715 tK tK := Keeps.refl ..
  simp (maxDischargeDepth := 60) +contextual only [State.hostCommand, Nat.reduceAnd, eq_self, true_or, or_true, devSame_refl, keeps_mk, keeps_State_wakeSource, hK]

/-! ## Machine/StorageOps.lean -/

theorem keeps_State_setExtent {pK : Bool} {AK : Nat} {sK tK : State} (map : Nat) (e : Nat) (x : ExtEnt) (hA : 8192 &&& AK = 8192)  (hK : Keeps pK AK sK tK) :
    Keeps pK AK sK (State.setExtent tK map e x) := by
  refine Keeps.lift (B := 8192) ?_ hA hK
  clear hK hA
  have hK : Keeps pK 8192 tK tK := Keeps.refl ..
  simp (maxDischargeDepth := 60) +contextual only [State.setExtent, Nat.reduceAnd, eq_self, true_or, or_true, devSame_refl, keeps_mk, hK]

theorem keeps_State_setGrp {pK : Bool} {AK : Nat} {sK tK : State} (g : Nat) (x : Grp) (hA : 16384 &&& AK = 16384)  (hK : Keeps pK AK sK tK) :
    Keeps pK AK sK (State.setGrp tK g x) := by
  refine Keeps.lift (B := 16384) ?_ hA hK
  clear hK hA
  have hK : Keeps pK 16384 tK tK := Keeps.refl ..
  simp (maxDischargeDepth := 60) +contextual only [State.setGrp, Nat.reduceAnd, eq_self, true_or, or_true, devSame_refl, keeps_mk, hK]

theorem keeps_State_dirtyLevel {pK : Bool} {AK : Nat} {sK tK : State}  (hA : 8396835 &&& AK = 8396835)  (hK : Keeps pK AK sK tK) :
    Keeps pK AK sK (State.dirtyLevel tK) := by
  refine Keeps.lift (B := 8396835) ?_ hA hK
  clear hK hA
  have hK : Keeps pK 8396835 tK tK := Keeps.refl ..
  simp (maxDischargeDepth := 60) +contextual only [State.dirtyLevel, Nat.reduceAnd, eq_self, true_or, or_true, devSame_refl, keeps_ite, keeps_mk, keeps_State_raise, hK]

theorem keeps_State_stage {pK : Bool} {AK : Nat} {sK tK : State} (v : Ver) (hA : 8192 &&& AK = 8192)  (hK : Keeps pK AK sK tK) :
    Keeps pK AK sK (State.stage tK v) := by
  refine Keeps.lift (B := 8192) ?_ hA hK
  clear hK hA
  have hK : Keeps pK 8192 tK tK := Keeps.refl ..
  simp (maxDischargeDepth := 60) +contextual only [State.stage, Nat.reduceAnd, eq_self, true_or, or_true, devSame_refl, keeps_mk, hK]

theorem keeps_State_yardTake_core {pK : Bool} {sK tK : State} (st cls n : Nat) (hK : Keeps pK 25174051 sK tK) : KeepsO pK 25174051 sK (State.yardTake st cls n tK) := by
  induction n generalizing tK with
  | zero => exact keepsO_some hK
  | succ n ih =>
    unfold State.yardTake
    cases tK.yardAdmit st cls with
    | none => exact keepsO_none
    | some b =>
      dsimp only
      cases pickFree 32768 32768 tK.free.toNat tK.bufUsed with
      | none => exact keepsO_none
      | some i =>
        dsimp only
        have h1 : Keeps pK 25174051 sK { tK.drawn with cht := { tK.cht with bufs := tK.cht.bufs ++ [(⟨i, st, cls, b⟩ : YBuf)] } } := by
          simp only [keeps_mk_iff, devSame_refl, Nat.reduceAnd, eq_self, true_or, or_true]
          exact keeps_State_drawn rfl hK
        generalize ({ tK.drawn with cht := { tK.cht with bufs := tK.cht.bufs ++ [(⟨i, st, cls, b⟩ : YBuf)] } } : State) = u at h1 ⊢
        have h3 := keeps_State_count 5 (i / 16384) 0 1 rfl h1
        have h2 := ih (tK := if decide (tK.sharedSize ≤ 8 * tK.sharedFree) && decide (8 * (u.count 5 (i / 16384) 0).sharedFree < (u.count 5 (i / 16384) 0).sharedSize) then
          (u.count 5 (i / 16384) 0).raise 0x1A7 else u.count 5 (i / 16384) 0) (keeps_ite (keeps_State_raise _ rfl h3) h3)
        split
        · exact keepsO_none
        · exact keepsO_some (KeepsO.of_eq (by assumption) h2)

theorem keeps_State_yardTake {pK : Bool} {AK : Nat} {sK tK : State} (st cls n : Nat) (hA : 25174051 &&& AK = 25174051) (hK : Keeps pK AK sK tK) : KeepsO pK AK sK (State.yardTake st cls n tK) :=
  KeepsO.lift (keeps_State_yardTake_core st cls n (Keeps.refl ..)) hA hK

theorem keeps_State_yardRefused {pK : Bool} {AK : Nat} {sK tK : State}  (hA : 8388643 &&& AK = 8388643)  (hK : Keeps pK AK sK tK) :
    Keeps pK AK sK (State.yardRefused tK) := by
  refine Keeps.lift (B := 8388643) ?_ hA hK
  clear hK hA
  have hK : Keeps pK 8388643 tK tK := Keeps.refl ..
  simp (maxDischargeDepth := 60) +contextual only [State.yardRefused, Nat.reduceAnd, eq_self, keeps_State_count, hK]

theorem keeps_State_yardRelease {pK : Bool} {AK : Nat} {sK tK : State} (is : List Nat) (hA : 8192 &&& AK = 8192)  (hK : Keeps pK AK sK tK) :
    Keeps pK AK sK (State.yardRelease tK is) := by
  refine Keeps.lift (B := 8192) ?_ hA hK
  clear hK hA
  have hK : Keeps pK 8192 tK tK := Keeps.refl ..
  simp (maxDischargeDepth := 60) +contextual only [State.yardRelease, Nat.reduceAnd, eq_self, true_or, or_true, devSame_refl, keeps_mk, hK]

theorem keeps_State_fillBuf {pK : Bool} {AK : Nat} {sK tK : State} (i : Nat) (b : Blk) (hA : 7340032 &&& AK = 7340032)  (hK : Keeps pK AK sK tK) :
    Keeps pK AK sK (State.fillBuf tK i b) := by
  refine Keeps.lift (B := 7340032) ?_ hA hK
  clear hK hA
  have hK : Keeps pK 7340032 tK tK := Keeps.refl ..
  simp (maxDischargeDepth := 60) +contextual only [State.fillBuf, Nat.reduceAnd, eq_self, keeps_State_store, hK]

theorem keeps_State_setDtag {pK : Bool} {AK : Nat} {sK tK : State} (i : Nat) (t : DTag) (hA : 8192 &&& AK = 8192)  (hK : Keeps pK AK sK tK) :
    Keeps pK AK sK (State.setDtag tK i t) := by
  refine Keeps.lift (B := 8192) ?_ hA hK
  clear hK hA
  have hK : Keeps pK 8192 tK tK := Keeps.refl ..
  simp (maxDischargeDepth := 60) +contextual only [State.setDtag, Nat.reduceAnd, eq_self, true_or, or_true, devSame_refl, keeps_mk, hK]

theorem keeps_State_retireDtag {pK : Bool} {AK : Nat} {sK tK : State} (i : Nat) (held : Bool) (hA : 8192 &&& AK = 8192)  (hK : Keeps pK AK sK tK) :
    Keeps pK AK sK (State.retireDtag tK i held) := by
  refine Keeps.lift (B := 8192) ?_ hA hK
  clear hK hA
  have hK : Keeps pK 8192 tK tK := Keeps.refl ..
  simp (maxDischargeDepth := 60) +contextual only [State.retireDtag, Nat.reduceAnd, eq_self, keeps_State_setDtag, keeps_State_yardRelease, hK]

theorem keeps_State_setDrv {pK : Bool} {AK : Nat} {sK tK : State} (c : DrvCmd) (hA : 1024 &&& AK = 1024)  (hK : Keeps pK AK sK tK) :
    Keeps pK AK sK (State.setDrv tK c) := by
  refine Keeps.lift (B := 1024) ?_ hA hK
  clear hK hA
  have hK : Keeps pK 1024 tK tK := Keeps.refl ..
  simp (maxDischargeDepth := 60) +contextual only [State.setDrv, Nat.reduceAnd, eq_self, true_or, or_true, devSame_refl, keeps_mk, hK]

theorem keeps_State_queueDrv {pK : Bool} {AK : Nat} {sK tK : State} (c : DrvCmd) (hA : 66560 &&& AK = 66560)  (hK : Keeps pK AK sK tK) :
    Keeps pK AK sK (State.queueDrv tK c) := by
  refine Keeps.lift (B := 66560) ?_ hA hK
  clear hK hA
  have hK : Keeps pK 66560 tK tK := Keeps.refl ..
  simp (maxDischargeDepth := 60) +contextual only [State.queueDrv, Nat.reduceAnd, eq_self, keeps_State_enqueue, keeps_State_setDrv, hK]

theorem keeps_State_equip {pK : Bool} {AK : Nat} {sK tK : State} (c : DrvCmd) (hA : 32580643 &&& AK = 32580643)  (hK : Keeps pK AK sK tK) :
    KeepsP pK AK sK (State.equip tK c) := by
  refine KeepsP.lift (B := 32580643) ?_ hA hK
  clear hK hA
  have hK : Keeps pK 32580643 tK tK := Keeps.refl ..
  unfold State.equip
  (try dsimp only)
  repeat' (first | assumption | rfl | (intro) | (with_reducible first | apply keepsR_next | apply keeps_foldl | apply keepsP_foldl | apply keeps_ite | apply keeps_cond | apply keepsR_ite | apply keepsP_ite | apply keepsO_pair | apply keepsO_none | apply keepsO_ite | apply keepsV_mk | apply keepsV_ite | apply keepsP_mk | apply keeps_State_drawn | apply keeps_State_fillBuf | apply keeps_State_queueDrv | apply keeps_State_setDtag | apply keeps_State_yardTake) | simp only [keeps_mk_iff, devSame_refl, devSame_mk, Nat.reduceAnd, eq_self, true_or, or_true, implies_true] | (refine KeepsP.of_eq (by assumption) ?_) | (refine KeepsO.of_eq (by assumption) ?_) | (refine KeepsV.of_eq (by assumption) ?_) | split)

theorem keeps_State_launch {pK : Bool} {AK : Nat} {sK tK : State} (c : DrvCmd) (hA : 32580643 &&& AK = 32580643)  (hK : Keeps pK AK sK tK) :
    Keeps pK AK sK (State.launch tK c) := by
  refine Keeps.lift (B := 32580643) ?_ hA hK
  clear hK hA
  have hK : Keeps pK 32580643 tK tK := Keeps.refl ..
  unfold State.launch
  (try dsimp only); (repeat' split) <;> simp (maxDischargeDepth := 60) +contextual only [Nat.reduceAnd, eq_self, true_or, or_true, devSame_refl, KeepsP.fst, keeps_mk, keeps_State_bump, keeps_State_equip, keeps_State_setDrv, keeps_State_yardRefused, hK]

theorem keeps_State_foldDrv {pK : Bool} {AK : Nat} {sK tK : State} (c : DrvCmd) (hA : 512 &&& AK = 512)  (hK : Keeps pK AK sK tK) :
    Keeps pK AK sK (State.foldDrv tK c) := by
  refine Keeps.lift (B := 512) ?_ hA hK
  clear hK hA
  have hK : Keeps pK 512 tK tK := Keeps.refl ..
  simp (maxDischargeDepth := 60) +contextual only [State.foldDrv, Nat.reduceAnd, eq_self, keeps_State_fold, hK]

theorem keeps_State_formDrv {pK : Bool} {AK : Nat} {sK tK : State} (side : OutSide) (port : Nat) (nguid : Nat) (op : Nat) (lba : Nat) (nlb : Nat) (cls : Nat) (viaYard : Bool) (blocks : List Blk) (use : DrvUse) (hA : 32581155 &&& AK = 32581155)  (hK : Keeps pK AK sK tK) :
    Keeps pK AK sK (State.formDrv tK side port nguid op lba nlb cls viaYard blocks use) := by
  refine Keeps.lift (B := 32581155) ?_ hA hK
  clear hK hA
  have hK : Keeps pK 32581155 tK tK := Keeps.refl ..
  unfold State.formDrv
  (try dsimp only); (repeat' split) <;> simp (maxDischargeDepth := 60) +contextual only [Nat.reduceAnd, eq_self, true_or, or_true, devSame_refl, keeps_mk, keeps_State_bump, keeps_State_foldDrv, keeps_State_launch, hK]

theorem keeps_State_unequip {pK : Bool} {AK : Nat} {sK tK : State} (c : DrvCmd) (held : Bool) (hA : 73728 &&& AK = 73728)  (hK : Keeps pK AK sK tK) :
    Keeps pK AK sK (State.unequip tK c held) := by
  refine Keeps.lift (B := 73728) ?_ hA hK
  clear hK hA
  have hK : Keeps pK 73728 tK tK := Keeps.refl ..
  unfold State.unequip
  (try dsimp only); (repeat' split) <;> simp (maxDischargeDepth := 60) +contextual only [Nat.reduceAnd, eq_self, true_or, or_true, devSame_refl, keeps_mk, keeps_State_retireDtag, keeps_State_setPoint, hK]

theorem keeps_State_dropDrv {pK : Bool} {AK : Nat} {sK tK : State} (c : DrvCmd) (held : Bool) (hA : 74752 &&& AK = 74752)  (hK : Keeps pK AK sK tK) :
    Keeps pK AK sK (State.dropDrv tK c held) := by
  refine Keeps.lift (B := 74752) ?_ hA hK
  clear hK hA
  have hK : Keeps pK 74752 tK tK := Keeps.refl ..
  simp (maxDischargeDepth := 60) +contextual only [State.dropDrv, Nat.reduceAnd, eq_self, true_or, or_true, devSame_refl, keeps_mk, keeps_State_unequip, hK]

theorem keeps_State_memberCmd {pK : Bool} {AK : Nat} {sK tK : State} (side : OutSide) (x : Grp) (p : Place) (op : Nat) (nlb : Nat) (cls : Nat) (viaYard : Bool) (blocks : List Blk) (use : DrvUse) (hA : 32581155 &&& AK = 32581155)  (hK : Keeps pK AK sK tK) :
    Keeps pK AK sK (State.memberCmd tK side x p op nlb cls viaYard blocks use) := by
  refine Keeps.lift (B := 32581155) ?_ hA hK
  clear hK hA
  have hK : Keeps pK 32581155 tK tK := Keeps.refl ..
  unfold State.memberCmd
  (try dsimp only); (repeat' split) <;> simp (maxDischargeDepth := 60) +contextual only [Nat.reduceAnd, eq_self, keeps_State_formDrv, hK]

/-! ## Machine/BrandOps.lean -/

theorem keeps_State_vaultChanged {pK : Bool} {AK : Nat} {sK tK : State}  (hA : 8388643 &&& AK = 8388643)  (hK : Keeps pK AK sK tK) :
    Keeps pK AK sK (State.vaultChanged tK) := by
  refine Keeps.lift (B := 8388643) ?_ hA hK
  clear hK hA
  have hK : Keeps pK 8388643 tK tK := Keeps.refl ..
  simp (maxDischargeDepth := 60) +contextual only [State.vaultChanged, Nat.reduceAnd, eq_self, keeps_ite, keeps_State_raise, keeps_State_set, keeps_State_setFlag, hK]

theorem keeps_State_recordLost {pK : Bool} {AK : Nat} {sK tK : State} (g : Nat) (st : Nat) (off : Nat) (blocks : Nat) (cause : Nat) (columns : Nat) (hA : 8409123 &&& AK = 8409123)  (hK : Keeps pK AK sK tK) :
    Keeps pK AK sK (State.recordLost tK g st off blocks cause columns) := by
  refine Keeps.lift (B := 8409123) ?_ hA hK
  clear hK hA
  have hK : Keeps pK 8409123 tK tK := Keeps.refl ..
  unfold State.recordLost
  (try dsimp only); (repeat' split) <;> simp (maxDischargeDepth := 60) +contextual only [Nat.reduceAnd, eq_self, true_or, or_true, devSame_refl, keeps_mk, keeps_State_raise, keeps_State_setGrp, hK]

theorem keeps_State_unlose {pK : Bool} {AK : Nat} {sK tK : State} (g : Nat) (st : Nat) (j : Nat) (o : Nat) (hA : 8409123 &&& AK = 8409123)  (hK : Keeps pK AK sK tK) :
    Keeps pK AK sK (State.unlose tK g st j o) := by
  refine Keeps.lift (B := 8409123) ?_ hA hK
  clear hK hA
  have hK : Keeps pK 8409123 tK tK := Keeps.refl ..
  unfold State.unlose
  (try dsimp only); (repeat' split) <;> simp (maxDischargeDepth := 60) +contextual only [Nat.reduceAnd, eq_self, true_or, or_true, devSame_refl, keeps_mk, keeps_State_raise, keeps_State_setGrp, hK]

theorem keeps_State_brandIssue {pK : Bool} {AK : Nat} {sK tK : State} (g : Nat) (m : Nat) (hA : 32581155 &&& AK = 32581155)  (hK : Keeps pK AK sK tK) :
    Keeps pK AK sK (State.brandIssue tK g m) := by
  refine Keeps.lift (B := 32581155) ?_ hA hK
  clear hK hA
  have hK : Keeps pK 32581155 tK tK := Keeps.refl ..
  unfold State.brandIssue
  (try dsimp only); (repeat' split) <;> simp (maxDischargeDepth := 60) +contextual only [Nat.reduceAnd, eq_self, keeps_State_memberCmd, hK]

theorem keeps_State_startBrand {pK : Bool} {AK : Nat} {sK tK : State} (g : Nat) (hA : 32597539 &&& AK = 32597539)  (hK : Keeps pK AK sK tK) :
    Keeps pK AK sK (State.startBrand tK g) := by
  refine Keeps.lift (B := 32597539) ?_ hA hK
  clear hK hA
  have hK : Keeps pK 32597539 tK tK := Keeps.refl ..
  unfold State.startBrand
  (try dsimp only); (repeat' split) <;> simp (maxDischargeDepth := 60) +contextual only [Nat.reduceAnd, eq_self, implies_true, keeps_foldl, keeps_State_brandIssue, keeps_State_set, keeps_State_setGrp, hK]

theorem keeps_State_missingEvent {pK : Bool} {AK : Nat} {sK tK : State} (n : Nat) (hA : 8388643 &&& AK = 8388643)  (hK : Keeps pK AK sK tK) :
    Keeps pK AK sK (State.missingEvent tK n) := by
  refine Keeps.lift (B := 8388643) ?_ hA hK
  clear hK hA
  have hK : Keeps pK 8388643 tK tK := Keeps.refl ..
  simp (maxDischargeDepth := 60) +contextual only [State.missingEvent, Nat.reduceAnd, eq_self, keeps_ite, keeps_State_raise, hK]

theorem keeps_State_rebuildsMeet {pK : Bool} {AK : Nat} {sK tK : State} (g : Nat) (m : Nat) (b : Brand) (hA : 8421411 &&& AK = 8421411)  (hK : Keeps pK AK sK tK) :
    Keeps pK AK sK (State.rebuildsMeet tK g m b) := by
  refine Keeps.lift (B := 8421411) ?_ hA hK
  clear hK hA
  have hK : Keeps pK 8421411 tK tK := Keeps.refl ..
  simp (maxDischargeDepth := 60) +contextual only [State.rebuildsMeet, Nat.reduceAnd, eq_self, true_or, or_true, devSame_refl, keeps_ite, keeps_mk, keeps_State_raise, hK]

theorem keeps_State_dropMemberCmds {pK : Bool} {AK : Nat} {sK tK : State} (port : Nat) (hA : 74752 &&& AK = 74752)  (hK : Keeps pK AK sK tK) :
    Keeps pK AK sK (State.dropMemberCmds tK port) := by
  refine Keeps.lift (B := 74752) ?_ hA hK
  clear hK hA
  have hK : Keeps pK 74752 tK tK := Keeps.refl ..
  simp (maxDischargeDepth := 60) +contextual only [State.dropMemberCmds, Nat.reduceAnd, eq_self, implies_true, keeps_foldl, keeps_State_dropDrv, hK]

theorem keeps_State_dropCopyback {pK : Bool} {AK : Nat} {sK tK : State} (g : Nat) (m : Nat) (x : Grp) (hA : 123904 &&& AK = 123904)  (hK : Keeps pK AK sK tK) :
    Keeps pK AK sK (State.dropCopyback tK g m x) := by
  refine Keeps.lift (B := 123904) ?_ hA hK
  clear hK hA
  have hK : Keeps pK 123904 tK tK := Keeps.refl ..
  unfold State.dropCopyback
  (try dsimp only); (repeat' split) <;> simp (maxDischargeDepth := 60) +contextual only [Nat.reduceAnd, eq_self, true_or, or_true, devSame_refl, keeps_mk, keeps_State_dropMemberCmds, keeps_State_setGrp, hK]

theorem keeps_State_failMember {pK : Bool} {AK : Nat} {sK tK : State} (g : Nat) (m : Nat) (hA : 32630307 &&& AK = 32630307)  (hK : Keeps pK AK sK tK) :
    Keeps pK AK sK (State.failMember tK g m) := by
  refine Keeps.lift (B := 32630307) ?_ hA hK
  clear hK hA
  have hK : Keeps pK 32630307 tK tK := Keeps.refl ..
  unfold State.failMember
  (try dsimp only); (repeat' split) <;> simp (maxDischargeDepth := 60) +contextual only [Nat.reduceAnd, eq_self, true_or, or_true, devSame_refl, keeps_mk, keeps_State_dropCopyback, keeps_State_dropMemberCmds, keeps_State_missingEvent, keeps_State_raise, keeps_State_rebuildsMeet, keeps_State_setGrp, keeps_State_startBrand, keeps_State_vaultChanged, hK]

/-! ## Machine/TallyOps.lean -/

theorem keeps_State_tallyWait {pK : Bool} {AK : Nat} {sK tK : State} (w : TallyWait) (hA : 8421411 &&& AK = 8421411)  (hK : Keeps pK AK sK tK) :
    Keeps pK AK sK (State.tallyWait tK w) := by
  refine Keeps.lift (B := 8421411) ?_ hA hK
  clear hK hA
  have hK : Keeps pK 8421411 tK tK := Keeps.refl ..
  simp (maxDischargeDepth := 60) +contextual only [State.tallyWait, Nat.reduceAnd, eq_self, true_or, or_true, devSame_refl, keeps_ite, keeps_mk, keeps_State_raise, hK]

theorem keeps_State_setEntry {pK : Bool} {AK : Nat} {sK tK : State} (e : TallyEnt) (hA : 32768 &&& AK = 32768)  (hK : Keeps pK AK sK tK) :
    Keeps pK AK sK (State.setEntry tK e) := by
  refine Keeps.lift (B := 32768) ?_ hA hK
  clear hK hA
  have hK : Keeps pK 32768 tK tK := Keeps.refl ..
  simp (maxDischargeDepth := 60) +contextual only [State.setEntry, Nat.reduceAnd, eq_self, true_or, or_true, devSame_refl, keeps_mk, hK]

theorem keeps_State_issueWrite {pK : Bool} {AK : Nat} {sK tK : State} (id : Nat) (k : Nat) (hA : 32581155 &&& AK = 32581155)  (hK : Keeps pK AK sK tK) :
    Keeps pK AK sK (State.issueWrite tK id k) := by
  refine Keeps.lift (B := 32581155) ?_ hA hK
  clear hK hA
  have hK : Keeps pK 32581155 tK tK := Keeps.refl ..
  unfold State.issueWrite
  (try dsimp only); (repeat' split) <;> simp (maxDischargeDepth := 60) +contextual only [Nat.reduceAnd, eq_self, keeps_State_memberCmd, hK]

theorem keeps_State_issueEntry {pK : Bool} {AK : Nat} {sK tK : State} (id : Nat) (hA : 32581155 &&& AK = 32581155)  (hK : Keeps pK AK sK tK) :
    Keeps pK AK sK (State.issueEntry tK id) := by
  refine Keeps.lift (B := 32581155) ?_ hA hK
  clear hK hA
  have hK : Keeps pK 32581155 tK tK := Keeps.refl ..
  unfold State.issueEntry
  (try dsimp only); (repeat' split) <;> simp (maxDischargeDepth := 60) +contextual only [Nat.reduceAnd, eq_self, implies_true, keeps_foldl, keeps_State_issueWrite, hK]

theorem keeps_State_openEntry {pK : Bool} {AK : Nat} {sK tK : State} (kind : Nat) (g : Nat) (st : Nat) (off : Nat) (blocks : Nat) (member : Nat) (cls : Nat) (side : OutSide) (writes : List TallyWrite) (hA : 32613923 &&& AK = 32613923)  (hK : Keeps pK AK sK tK) :
    Keeps pK AK sK (State.openEntry tK kind g st off blocks member cls side writes) := by
  refine Keeps.lift (B := 32613923) ?_ hA hK
  clear hK hA
  have hK : Keeps pK 32613923 tK tK := Keeps.refl ..
  unfold State.openEntry
  (try dsimp only); (repeat' split) <;> simp (maxDischargeDepth := 60) +contextual only [Nat.reduceAnd, eq_self, true_or, or_true, devSame_refl, keeps_mk, keeps_State_issueEntry, keeps_State_raise, hK]

theorem keeps_State_endDestage {pK : Bool} {AK : Nat} {sK tK : State} (id : Nat) (hA : 8396835 &&& AK = 8396835)  (hK : Keeps pK AK sK tK) :
    Keeps pK AK sK (State.endDestage tK id) := by
  refine Keeps.lift (B := 8396835) ?_ hA hK
  clear hK hA
  have hK : Keeps pK 8396835 tK tK := Keeps.refl ..
  unfold State.endDestage
  (try dsimp only)
  repeat' (first | assumption | rfl | (intro) | (with_reducible first | apply keepsR_next | apply keeps_foldl | apply keepsP_foldl | apply keeps_ite | apply keeps_cond | apply keepsR_ite | apply keepsP_ite | apply keepsO_pair | apply keepsO_none | apply keepsO_ite | apply keepsV_mk | apply keepsV_ite | apply keepsP_mk | apply keeps_State_dirtyLevel | apply keeps_State_setExtent) | simp only [keeps_mk_iff, devSame_refl, Nat.reduceAnd, eq_self, true_or, or_true] | (refine KeepsP.of_eq (by assumption) ?_) | (refine KeepsO.of_eq (by assumption) ?_) | (refine KeepsV.of_eq (by assumption) ?_) | split)

theorem keeps_State_rebuildDone {pK : Bool} {AK : Nat} {sK tK : State} (g : Nat) (r : Rebuild) (hA : 32630307 &&& AK = 32630307)  (hK : Keeps pK AK sK tK) :
    Keeps pK AK sK (State.rebuildDone tK g r) := by
  refine Keeps.lift (B := 32630307) ?_ hA hK
  clear hK hA
  have hK : Keeps pK 32630307 tK tK := Keeps.refl ..
  unfold State.rebuildDone
  (try dsimp only); (repeat' split) <;> simp (maxDischargeDepth := 60) +contextual only [Nat.reduceAnd, eq_self, true_or, or_true, devSame_refl, keeps_mk, keeps_State_raise, keeps_State_setGrp, keeps_State_startBrand, keeps_State_vaultChanged, hK]

theorem keeps_State_rebuiltStripe {pK : Bool} {AK : Nat} {sK tK : State} (g : Nat) (m : Nat) (st : Nat) (hA : 32630307 &&& AK = 32630307)  (hK : Keeps pK AK sK tK) :
    Keeps pK AK sK (State.rebuiltStripe tK g m st) := by
  refine Keeps.lift (B := 32630307) ?_ hA hK
  clear hK hA
  have hK : Keeps pK 32630307 tK tK := Keeps.refl ..
  unfold State.rebuiltStripe
  (try dsimp only); (repeat' split) <;> simp (maxDischargeDepth := 60) +contextual only [Nat.reduceAnd, eq_self, true_or, or_true, devSame_refl, keeps_mk, keeps_State_rebuildDone, hK]

theorem keeps_State_sweptStripe {pK : Bool} {AK : Nat} {sK tK : State} (g : Nat) (st : Nat) (hA : 8405027 &&& AK = 8405027)  (hK : Keeps pK AK sK tK) :
    Keeps pK AK sK (State.sweptStripe tK g st) := by
  refine Keeps.lift (B := 8405027) ?_ hA hK
  clear hK hA
  have hK : Keeps pK 8405027 tK tK := Keeps.refl ..
  unfold State.sweptStripe
  (try dsimp only); (repeat' split) <;> simp (maxDischargeDepth := 60) +contextual only [Nat.reduceAnd, eq_self, keeps_State_raise, keeps_State_setGrp, hK]

theorem keeps_State_closeEntry {pK : Bool} {AK : Nat} {sK tK : State} (e : TallyEnt) (x : Grp) (hA : 32630307 &&& AK = 32630307)  (hK : Keeps pK AK sK tK) :
    Keeps pK AK sK (State.closeEntry tK e x) := by
  refine Keeps.lift (B := 32630307) ?_ hA hK
  clear hK hA
  have hK : Keeps pK 32630307 tK tK := Keeps.refl ..
  simp (maxDischargeDepth := 60) +contextual only [State.closeEntry, Nat.reduceAnd, eq_self, true_or, or_true, devSame_refl, keeps_ite, keeps_mk, keeps_State_endDestage, keeps_State_rebuiltStripe, keeps_State_sweptStripe, hK]

theorem keeps_State_settleEntry {pK : Bool} {AK : Nat} {sK tK : State} (id : Nat) (hA : 32630307 &&& AK = 32630307)  (hK : Keeps pK AK sK tK) :
    Keeps pK AK sK (State.settleEntry tK id) := by
  refine Keeps.lift (B := 32630307) ?_ hA hK
  clear hK hA
  have hK : Keeps pK 32630307 tK tK := Keeps.refl ..
  unfold State.settleEntry
  (try dsimp only); (repeat' split) <;> simp (maxDischargeDepth := 60) +contextual only [Nat.reduceAnd, eq_self, keeps_State_closeEntry, hK]

theorem keeps_State_writeDone {pK : Bool} {AK : Nat} {sK tK : State} (id : Nat) (k : Nat) (hA : 32630307 &&& AK = 32630307)  (hK : Keeps pK AK sK tK) :
    Keeps pK AK sK (State.writeDone tK id k) := by
  refine Keeps.lift (B := 32630307) ?_ hA hK
  clear hK hA
  have hK : Keeps pK 32630307 tK tK := Keeps.refl ..
  unfold State.writeDone
  (try dsimp only); (repeat' split) <;> simp (maxDischargeDepth := 60) +contextual only [Nat.reduceAnd, eq_self, keeps_State_issueEntry, keeps_State_setEntry, keeps_State_settleEntry, hK]

theorem keeps_State_settleGroup {pK : Bool} {AK : Nat} {sK tK : State} (g : Nat) (hA : 32630307 &&& AK = 32630307)  (hK : Keeps pK AK sK tK) :
    Keeps pK AK sK (State.settleGroup tK g) := by
  refine Keeps.lift (B := 32630307) ?_ hA hK
  clear hK hA
  have hK : Keeps pK 32630307 tK tK := Keeps.refl ..
  simp (maxDischargeDepth := 60) +contextual only [State.settleGroup, Nat.reduceAnd, eq_self, implies_true, keeps_foldl, keeps_State_issueEntry, keeps_State_settleEntry, hK]

theorem keeps_State_countRecon {pK : Bool} {AK : Nat} {sK tK : State} (gone : Nat) (hA : 1 &&& AK = 1)  (hK : Keeps pK AK sK tK) :
    Keeps pK AK sK (State.countRecon tK gone) := by
  refine Keeps.lift (B := 1) ?_ hA hK
  clear hK hA
  have hK : Keeps pK 1 tK tK := Keeps.refl ..
  simp (maxDischargeDepth := 60) +contextual only [State.countRecon, Nat.reduceAnd, eq_self, keeps_ite, keeps_State_bump, hK]

theorem keeps_State_checkStripe {pK : Bool} {AK : Nat} {sK tK : State} (g : Nat) (st : Nat) (off : Nat) (blocks : Nat) (cause : Nat) (reads : List ColRead) (hA : 8409123 &&& AK = 8409123)  (hK : Keeps pK AK sK tK) :
    KeepsP pK AK sK (State.checkStripe tK g st off blocks cause reads) := by
  refine KeepsP.lift (B := 8409123) ?_ hA hK
  clear hK hA
  have hK : Keeps pK 8409123 tK tK := Keeps.refl ..
  unfold State.checkStripe
  (try dsimp only); (repeat' split) <;> simp (maxDischargeDepth := 60) +contextual only [Nat.reduceAnd, eq_self, implies_true, keeps_ite, keeps_foldl, keepsP_mk, keepsP_foldl, KeepsP.fst, keeps_State_countRecon, keeps_State_recordLost, hK]

theorem keeps_State_sweepAt {pK : Bool} {AK : Nat} {sK tK : State} (g : Nat) (st : Nat) (off : Nat) (blocks : Nat) (reads : List ColRead) (hA : 32634403 &&& AK = 32634403)  (hK : Keeps pK AK sK tK) :
    Keeps pK AK sK (State.sweepAt tK g st off blocks reads) := by
  refine Keeps.lift (B := 32634403) ?_ hA hK
  clear hK hA
  have hK : Keeps pK 32634403 tK tK := Keeps.refl ..
  unfold State.sweepAt
  (try dsimp only); (repeat' split) <;> simp (maxDischargeDepth := 60) +contextual only [Nat.reduceAnd, eq_self, KeepsP.fst, keeps_State_bumpBy, keeps_State_checkStripe, keeps_State_openEntry, keeps_State_startBrand, keeps_State_sweptStripe, keeps_State_tallyWait, hK]

theorem keeps_State_patrolRepair {pK : Bool} {AK : Nat} {sK tK : State} (g : Nat) (hA : 8388643 &&& AK = 8388643)  (hK : Keeps pK AK sK tK) :
    Keeps pK AK sK (State.patrolRepair tK g) := by
  refine Keeps.lift (B := 8388643) ?_ hA hK
  clear hK hA
  have hK : Keeps pK 8388643 tK tK := Keeps.refl ..
  simp (maxDischargeDepth := 60) +contextual only [State.patrolRepair, Nat.reduceAnd, eq_self, true_or, or_true, devSame_mk, keeps_ite, keeps_mk, keeps_State_raise, hK]

theorem keeps_State_repairAt {pK : Bool} {AK : Nat} {sK tK : State} (g : Nat) (st : Nat) (off : Nat) (blocks : Nat) (patrol : Bool) (reads : List ColRead) (hA : 32634403 &&& AK = 32634403)  (hK : Keeps pK AK sK tK) :
    Keeps pK AK sK (State.repairAt tK g st off blocks patrol reads) := by
  refine Keeps.lift (B := 32634403) ?_ hA hK
  clear hK hA
  have hK : Keeps pK 32634403 tK tK := Keeps.refl ..
  unfold State.repairAt
  (try dsimp only); (repeat' split) <;> simp (maxDischargeDepth := 60) +contextual only [Nat.reduceAnd, eq_self, KeepsP.fst, keeps_State_bump, keeps_State_bumpBy, keeps_State_checkStripe, keeps_State_openEntry, keeps_State_patrolRepair, keeps_State_startBrand, keeps_State_tallyWait, hK]

theorem keeps_State_begin {pK : Bool} {AK : Nat} {sK tK : State} (vs : List Ver) (id : Nat) (hA : 8192 &&& AK = 8192)  (hK : Keeps pK AK sK tK) :
    Keeps pK AK sK (State.begin tK vs id) := by
  refine Keeps.lift (B := 8192) ?_ hA hK
  clear hK hA
  have hK : Keeps pK 8192 tK tK := Keeps.refl ..
  simp (maxDischargeDepth := 60) +contextual only [State.begin, Nat.reduceAnd, eq_self, true_or, or_true, devSame_refl, keeps_mk, hK]

theorem keeps_State_destage {pK : Bool} {AK : Nat} {sK tK : State} (g : Nat) (st : Nat) (reads : List ColRead) (hA : 32634403 &&& AK = 32634403)  (hK : Keeps pK AK sK tK) :
    Keeps pK AK sK (State.destage tK g st reads) := by
  refine Keeps.lift (B := 32634403) ?_ hA hK
  clear hK hA
  have hK : Keeps pK 32634403 tK tK := Keeps.refl ..
  unfold State.destage
  (try dsimp only); (repeat' split) <;> simp (maxDischargeDepth := 60) +contextual only [Nat.reduceAnd, eq_self, implies_true, keeps_foldl, keeps_State_begin, keeps_State_openEntry, keeps_State_raise, keeps_State_recordLost, keeps_State_settleEntry, keeps_State_startBrand, keeps_State_sweepAt, keeps_State_tallyWait, hK]

end Sys2Proof.Machine
end

