-- ==== Sys2Proof/Laws/State.lean ====
section
/-!
SUPPORT. Laws/State.lean: what each elementary update of State leaves, field by field, and what it makes of the field that it writes. All hold by computation.
-/
namespace Sys2Proof.Machine

@[simp] theorem set_dev (s : State) (f : Fld) (v i j : Nat) : (s.set f v i j).dev = s.dev := rfl
@[simp] theorem set_pat (s : State) (f : Fld) (v i j : Nat) : (s.set f v i j).pat = s.pat := rfl
@[simp] theorem set_svc (s : State) (f : Fld) (v i j : Nat) : (s.set f v i j).svc = s.svc := rfl
@[simp] theorem set_tasks (s : State) (f : Fld) (v i j : Nat) : (s.set f v i j).tasks = s.tasks := rfl
@[simp] theorem set_eng (s : State) (f : Fld) (v i j : Nat) : (s.set f v i j).eng = s.eng := rfl
@[simp] theorem set_led (s : State) (f : Fld) (v i j : Nat) : (s.set f v i j).led = s.led := rfl
@[simp] theorem set_flm (s : State) (f : Fld) (v i j : Nat) : (s.set f v i j).flm = s.flm := rfl
@[simp] theorem set_fx (s : State) (f : Fld) (v i j : Nat) : (s.set f v i j).fx = s.fx := rfl
@[simp] theorem set_wsw (s : State) (f : Fld) (v i j : Nat) : (s.set f v i j).wsw = s.wsw := rfl
@[simp] theorem set_drv (s : State) (f : Fld) (v i j : Nat) : (s.set f v i j).drv = s.drv := rfl
@[simp] theorem set_pwr (s : State) (f : Fld) (v i j : Nat) : (s.set f v i j).pwr = s.pwr := rfl
@[simp] theorem set_nvm (s : State) (f : Fld) (v i j : Nat) : (s.set f v i j).nvm = s.nvm := rfl
@[simp] theorem set_cht (s : State) (f : Fld) (v i j : Nat) : (s.set f v i j).cht = s.cht := rfl
@[simp] theorem set_grps (s : State) (f : Fld) (v i j : Nat) : (s.set f v i j).grps = s.grps := rfl
@[simp] theorem set_tly (s : State) (f : Fld) (v i j : Nat) : (s.set f v i j).tly = s.tly := rfl
@[simp] theorem set_tc (s : State) (f : Fld) (v i j : Nat) : (s.set f v i j).tc = s.tc := rfl
@[simp] theorem set_hp (s : State) (f : Fld) (v i j : Nat) : (s.set f v i j).hp = s.hp := rfl
@[simp] theorem set_slot (s : State) (f : Fld) (v i j : Nat) : (s.set f v i j).slot = s.slot := rfl
@[simp] theorem set_fw (s : State) (f : Fld) (v i j : Nat) : (s.set f v i j).fw = s.fw := rfl
@[simp] theorem set_mi (s : State) (f : Fld) (v i j : Nat) : (s.set f v i j).mi = s.mi := rfl
@[simp] theorem set_mem (s : State) (f : Fld) (v i j : Nat) : (s.set f v i j).mem = s.mem := rfl
@[simp] theorem set_poison (s : State) (f : Fld) (v i j : Nat) : (s.set f v i j).poison = s.poison := rfl
@[simp] theorem set_out (s : State) (f : Fld) (v i j : Nat) : (s.set f v i j).out = s.out := rfl
@[simp] theorem set_freeCtr (s : State) (f : Fld) (v i j : Nat) : (s.set f v i j).freeCtr = s.freeCtr := rfl
@[simp] theorem set_pending (s : State) (f : Fld) (v i j : Nat) : (s.set f v i j).pending = s.pending := rfl

@[simp] theorem setFlag_dev (s : State) (f : Fld) (b : Bool) (i j : Nat) : (s.setFlag f b i j).dev = s.dev := rfl
@[simp] theorem setFlag_pat (s : State) (f : Fld) (b : Bool) (i j : Nat) : (s.setFlag f b i j).pat = s.pat := rfl
@[simp] theorem setFlag_svc (s : State) (f : Fld) (b : Bool) (i j : Nat) : (s.setFlag f b i j).svc = s.svc := rfl
@[simp] theorem setFlag_tasks (s : State) (f : Fld) (b : Bool) (i j : Nat) : (s.setFlag f b i j).tasks = s.tasks := rfl
@[simp] theorem setFlag_eng (s : State) (f : Fld) (b : Bool) (i j : Nat) : (s.setFlag f b i j).eng = s.eng := rfl
@[simp] theorem setFlag_led (s : State) (f : Fld) (b : Bool) (i j : Nat) : (s.setFlag f b i j).led = s.led := rfl
@[simp] theorem setFlag_flm (s : State) (f : Fld) (b : Bool) (i j : Nat) : (s.setFlag f b i j).flm = s.flm := rfl
@[simp] theorem setFlag_fx (s : State) (f : Fld) (b : Bool) (i j : Nat) : (s.setFlag f b i j).fx = s.fx := rfl
@[simp] theorem setFlag_wsw (s : State) (f : Fld) (b : Bool) (i j : Nat) : (s.setFlag f b i j).wsw = s.wsw := rfl
@[simp] theorem setFlag_drv (s : State) (f : Fld) (b : Bool) (i j : Nat) : (s.setFlag f b i j).drv = s.drv := rfl
@[simp] theorem setFlag_pwr (s : State) (f : Fld) (b : Bool) (i j : Nat) : (s.setFlag f b i j).pwr = s.pwr := rfl
@[simp] theorem setFlag_nvm (s : State) (f : Fld) (b : Bool) (i j : Nat) : (s.setFlag f b i j).nvm = s.nvm := rfl
@[simp] theorem setFlag_cht (s : State) (f : Fld) (b : Bool) (i j : Nat) : (s.setFlag f b i j).cht = s.cht := rfl
@[simp] theorem setFlag_grps (s : State) (f : Fld) (b : Bool) (i j : Nat) : (s.setFlag f b i j).grps = s.grps := rfl
@[simp] theorem setFlag_tly (s : State) (f : Fld) (b : Bool) (i j : Nat) : (s.setFlag f b i j).tly = s.tly := rfl
@[simp] theorem setFlag_tc (s : State) (f : Fld) (b : Bool) (i j : Nat) : (s.setFlag f b i j).tc = s.tc := rfl
@[simp] theorem setFlag_hp (s : State) (f : Fld) (b : Bool) (i j : Nat) : (s.setFlag f b i j).hp = s.hp := rfl
@[simp] theorem setFlag_slot (s : State) (f : Fld) (b : Bool) (i j : Nat) : (s.setFlag f b i j).slot = s.slot := rfl
@[simp] theorem setFlag_fw (s : State) (f : Fld) (b : Bool) (i j : Nat) : (s.setFlag f b i j).fw = s.fw := rfl
@[simp] theorem setFlag_mi (s : State) (f : Fld) (b : Bool) (i j : Nat) : (s.setFlag f b i j).mi = s.mi := rfl
@[simp] theorem setFlag_mem (s : State) (f : Fld) (b : Bool) (i j : Nat) : (s.setFlag f b i j).mem = s.mem := rfl
@[simp] theorem setFlag_poison (s : State) (f : Fld) (b : Bool) (i j : Nat) : (s.setFlag f b i j).poison = s.poison := rfl
@[simp] theorem setFlag_out (s : State) (f : Fld) (b : Bool) (i j : Nat) : (s.setFlag f b i j).out = s.out := rfl
@[simp] theorem setFlag_freeCtr (s : State) (f : Fld) (b : Bool) (i j : Nat) : (s.setFlag f b i j).freeCtr = s.freeCtr := rfl
@[simp] theorem setFlag_pending (s : State) (f : Fld) (b : Bool) (i j : Nat) : (s.setFlag f b i j).pending = s.pending := rfl

@[simp] theorem bump_dev (s : State) (f : Fld) (i j : Nat) : (s.bump f i j).dev = s.dev := rfl
@[simp] theorem bump_pat (s : State) (f : Fld) (i j : Nat) : (s.bump f i j).pat = s.pat := rfl
@[simp] theorem bump_svc (s : State) (f : Fld) (i j : Nat) : (s.bump f i j).svc = s.svc := rfl
@[simp] theorem bump_tasks (s : State) (f : Fld) (i j : Nat) : (s.bump f i j).tasks = s.tasks := rfl
@[simp] theorem bump_eng (s : State) (f : Fld) (i j : Nat) : (s.bump f i j).eng = s.eng := rfl
@[simp] theorem bump_led (s : State) (f : Fld) (i j : Nat) : (s.bump f i j).led = s.led := rfl
@[simp] theorem bump_flm (s : State) (f : Fld) (i j : Nat) : (s.bump f i j).flm = s.flm := rfl
@[simp] theorem bump_fx (s : State) (f : Fld) (i j : Nat) : (s.bump f i j).fx = s.fx := rfl
@[simp] theorem bump_wsw (s : State) (f : Fld) (i j : Nat) : (s.bump f i j).wsw = s.wsw := rfl
@[simp] theorem bump_drv (s : State) (f : Fld) (i j : Nat) : (s.bump f i j).drv = s.drv := rfl
@[simp] theorem bump_pwr (s : State) (f : Fld) (i j : Nat) : (s.bump f i j).pwr = s.pwr := rfl
@[simp] theorem bump_nvm (s : State) (f : Fld) (i j : Nat) : (s.bump f i j).nvm = s.nvm := rfl
@[simp] theorem bump_cht (s : State) (f : Fld) (i j : Nat) : (s.bump f i j).cht = s.cht := rfl
@[simp] theorem bump_grps (s : State) (f : Fld) (i j : Nat) : (s.bump f i j).grps = s.grps := rfl
@[simp] theorem bump_tly (s : State) (f : Fld) (i j : Nat) : (s.bump f i j).tly = s.tly := rfl
@[simp] theorem bump_tc (s : State) (f : Fld) (i j : Nat) : (s.bump f i j).tc = s.tc := rfl
@[simp] theorem bump_hp (s : State) (f : Fld) (i j : Nat) : (s.bump f i j).hp = s.hp := rfl
@[simp] theorem bump_slot (s : State) (f : Fld) (i j : Nat) : (s.bump f i j).slot = s.slot := rfl
@[simp] theorem bump_fw (s : State) (f : Fld) (i j : Nat) : (s.bump f i j).fw = s.fw := rfl
@[simp] theorem bump_mi (s : State) (f : Fld) (i j : Nat) : (s.bump f i j).mi = s.mi := rfl
@[simp] theorem bump_mem (s : State) (f : Fld) (i j : Nat) : (s.bump f i j).mem = s.mem := rfl
@[simp] theorem bump_poison (s : State) (f : Fld) (i j : Nat) : (s.bump f i j).poison = s.poison := rfl
@[simp] theorem bump_out (s : State) (f : Fld) (i j : Nat) : (s.bump f i j).out = s.out := rfl
@[simp] theorem bump_freeCtr (s : State) (f : Fld) (i j : Nat) : (s.bump f i j).freeCtr = s.freeCtr := rfl
@[simp] theorem bump_pending (s : State) (f : Fld) (i j : Nat) : (s.bump f i j).pending = s.pending := rfl

@[simp] theorem bumpBy_dev (s : State) (f : Fld) (n i j : Nat) : (s.bumpBy f n i j).dev = s.dev := rfl
@[simp] theorem bumpBy_pat (s : State) (f : Fld) (n i j : Nat) : (s.bumpBy f n i j).pat = s.pat := rfl
@[simp] theorem bumpBy_svc (s : State) (f : Fld) (n i j : Nat) : (s.bumpBy f n i j).svc = s.svc := rfl
@[simp] theorem bumpBy_tasks (s : State) (f : Fld) (n i j : Nat) : (s.bumpBy f n i j).tasks = s.tasks := rfl
@[simp] theorem bumpBy_eng (s : State) (f : Fld) (n i j : Nat) : (s.bumpBy f n i j).eng = s.eng := rfl
@[simp] theorem bumpBy_led (s : State) (f : Fld) (n i j : Nat) : (s.bumpBy f n i j).led = s.led := rfl
@[simp] theorem bumpBy_flm (s : State) (f : Fld) (n i j : Nat) : (s.bumpBy f n i j).flm = s.flm := rfl
@[simp] theorem bumpBy_fx (s : State) (f : Fld) (n i j : Nat) : (s.bumpBy f n i j).fx = s.fx := rfl
@[simp] theorem bumpBy_wsw (s : State) (f : Fld) (n i j : Nat) : (s.bumpBy f n i j).wsw = s.wsw := rfl
@[simp] theorem bumpBy_drv (s : State) (f : Fld) (n i j : Nat) : (s.bumpBy f n i j).drv = s.drv := rfl
@[simp] theorem bumpBy_pwr (s : State) (f : Fld) (n i j : Nat) : (s.bumpBy f n i j).pwr = s.pwr := rfl
@[simp] theorem bumpBy_nvm (s : State) (f : Fld) (n i j : Nat) : (s.bumpBy f n i j).nvm = s.nvm := rfl
@[simp] theorem bumpBy_cht (s : State) (f : Fld) (n i j : Nat) : (s.bumpBy f n i j).cht = s.cht := rfl
@[simp] theorem bumpBy_grps (s : State) (f : Fld) (n i j : Nat) : (s.bumpBy f n i j).grps = s.grps := rfl
@[simp] theorem bumpBy_tly (s : State) (f : Fld) (n i j : Nat) : (s.bumpBy f n i j).tly = s.tly := rfl
@[simp] theorem bumpBy_tc (s : State) (f : Fld) (n i j : Nat) : (s.bumpBy f n i j).tc = s.tc := rfl
@[simp] theorem bumpBy_hp (s : State) (f : Fld) (n i j : Nat) : (s.bumpBy f n i j).hp = s.hp := rfl
@[simp] theorem bumpBy_slot (s : State) (f : Fld) (n i j : Nat) : (s.bumpBy f n i j).slot = s.slot := rfl
@[simp] theorem bumpBy_fw (s : State) (f : Fld) (n i j : Nat) : (s.bumpBy f n i j).fw = s.fw := rfl
@[simp] theorem bumpBy_mi (s : State) (f : Fld) (n i j : Nat) : (s.bumpBy f n i j).mi = s.mi := rfl
@[simp] theorem bumpBy_mem (s : State) (f : Fld) (n i j : Nat) : (s.bumpBy f n i j).mem = s.mem := rfl
@[simp] theorem bumpBy_poison (s : State) (f : Fld) (n i j : Nat) : (s.bumpBy f n i j).poison = s.poison := rfl
@[simp] theorem bumpBy_out (s : State) (f : Fld) (n i j : Nat) : (s.bumpBy f n i j).out = s.out := rfl
@[simp] theorem bumpBy_freeCtr (s : State) (f : Fld) (n i j : Nat) : (s.bumpBy f n i j).freeCtr = s.freeCtr := rfl
@[simp] theorem bumpBy_pending (s : State) (f : Fld) (n i j : Nat) : (s.bumpBy f n i j).pending = s.pending := rfl

@[simp] theorem emit_regs (s : State) (o : Out) : (s.emit o).regs = s.regs := rfl
@[simp] theorem emit_dev (s : State) (o : Out) : (s.emit o).dev = s.dev := rfl
@[simp] theorem emit_pat (s : State) (o : Out) : (s.emit o).pat = s.pat := rfl
@[simp] theorem emit_svc (s : State) (o : Out) : (s.emit o).svc = s.svc := rfl
@[simp] theorem emit_tasks (s : State) (o : Out) : (s.emit o).tasks = s.tasks := rfl
@[simp] theorem emit_eng (s : State) (o : Out) : (s.emit o).eng = s.eng := rfl
@[simp] theorem emit_led (s : State) (o : Out) : (s.emit o).led = s.led := rfl
@[simp] theorem emit_flm (s : State) (o : Out) : (s.emit o).flm = s.flm := rfl
@[simp] theorem emit_fx (s : State) (o : Out) : (s.emit o).fx = s.fx := rfl
@[simp] theorem emit_wsw (s : State) (o : Out) : (s.emit o).wsw = s.wsw := rfl
@[simp] theorem emit_drv (s : State) (o : Out) : (s.emit o).drv = s.drv := rfl
@[simp] theorem emit_pwr (s : State) (o : Out) : (s.emit o).pwr = s.pwr := rfl
@[simp] theorem emit_nvm (s : State) (o : Out) : (s.emit o).nvm = s.nvm := rfl
@[simp] theorem emit_cht (s : State) (o : Out) : (s.emit o).cht = s.cht := rfl
@[simp] theorem emit_grps (s : State) (o : Out) : (s.emit o).grps = s.grps := rfl
@[simp] theorem emit_tly (s : State) (o : Out) : (s.emit o).tly = s.tly := rfl
@[simp] theorem emit_tc (s : State) (o : Out) : (s.emit o).tc = s.tc := rfl
@[simp] theorem emit_hp (s : State) (o : Out) : (s.emit o).hp = s.hp := rfl
@[simp] theorem emit_slot (s : State) (o : Out) : (s.emit o).slot = s.slot := rfl
@[simp] theorem emit_fw (s : State) (o : Out) : (s.emit o).fw = s.fw := rfl
@[simp] theorem emit_mi (s : State) (o : Out) : (s.emit o).mi = s.mi := rfl
@[simp] theorem emit_mem (s : State) (o : Out) : (s.emit o).mem = s.mem := rfl
@[simp] theorem emit_poison (s : State) (o : Out) : (s.emit o).poison = s.poison := rfl
@[simp] theorem emit_freeCtr (s : State) (o : Out) : (s.emit o).freeCtr = s.freeCtr := rfl
@[simp] theorem emit_pending (s : State) (o : Out) : (s.emit o).pending = s.pending := rfl

@[simp] theorem drawn_regs (s : State) : (s.drawn).regs = s.regs := rfl
@[simp] theorem drawn_dev (s : State) : (s.drawn).dev = s.dev := rfl
@[simp] theorem drawn_pat (s : State) : (s.drawn).pat = s.pat := rfl
@[simp] theorem drawn_svc (s : State) : (s.drawn).svc = s.svc := rfl
@[simp] theorem drawn_tasks (s : State) : (s.drawn).tasks = s.tasks := rfl
@[simp] theorem drawn_eng (s : State) : (s.drawn).eng = s.eng := rfl
@[simp] theorem drawn_led (s : State) : (s.drawn).led = s.led := rfl
@[simp] theorem drawn_flm (s : State) : (s.drawn).flm = s.flm := rfl
@[simp] theorem drawn_fx (s : State) : (s.drawn).fx = s.fx := rfl
@[simp] theorem drawn_wsw (s : State) : (s.drawn).wsw = s.wsw := rfl
@[simp] theorem drawn_drv (s : State) : (s.drawn).drv = s.drv := rfl
@[simp] theorem drawn_pwr (s : State) : (s.drawn).pwr = s.pwr := rfl
@[simp] theorem drawn_nvm (s : State) : (s.drawn).nvm = s.nvm := rfl
@[simp] theorem drawn_cht (s : State) : (s.drawn).cht = s.cht := rfl
@[simp] theorem drawn_grps (s : State) : (s.drawn).grps = s.grps := rfl
@[simp] theorem drawn_tly (s : State) : (s.drawn).tly = s.tly := rfl
@[simp] theorem drawn_tc (s : State) : (s.drawn).tc = s.tc := rfl
@[simp] theorem drawn_hp (s : State) : (s.drawn).hp = s.hp := rfl
@[simp] theorem drawn_slot (s : State) : (s.drawn).slot = s.slot := rfl
@[simp] theorem drawn_fw (s : State) : (s.drawn).fw = s.fw := rfl
@[simp] theorem drawn_mi (s : State) : (s.drawn).mi = s.mi := rfl
@[simp] theorem drawn_mem (s : State) : (s.drawn).mem = s.mem := rfl
@[simp] theorem drawn_poison (s : State) : (s.drawn).poison = s.poison := rfl
@[simp] theorem drawn_out (s : State) : (s.drawn).out = s.out := rfl
@[simp] theorem drawn_pending (s : State) : (s.drawn).pending = s.pending := rfl

@[simp] theorem advance_regs (s : State) (ns : Nat) : (s.advance ns).regs = s.regs := rfl
@[simp] theorem advance_pat (s : State) (ns : Nat) : (s.advance ns).pat = s.pat := rfl
@[simp] theorem advance_svc (s : State) (ns : Nat) : (s.advance ns).svc = s.svc := rfl
@[simp] theorem advance_tasks (s : State) (ns : Nat) : (s.advance ns).tasks = s.tasks := rfl
@[simp] theorem advance_eng (s : State) (ns : Nat) : (s.advance ns).eng = s.eng := rfl
@[simp] theorem advance_led (s : State) (ns : Nat) : (s.advance ns).led = s.led := rfl
@[simp] theorem advance_flm (s : State) (ns : Nat) : (s.advance ns).flm = s.flm := rfl
@[simp] theorem advance_fx (s : State) (ns : Nat) : (s.advance ns).fx = s.fx := rfl
@[simp] theorem advance_wsw (s : State) (ns : Nat) : (s.advance ns).wsw = s.wsw := rfl
@[simp] theorem advance_drv (s : State) (ns : Nat) : (s.advance ns).drv = s.drv := rfl
@[simp] theorem advance_pwr (s : State) (ns : Nat) : (s.advance ns).pwr = s.pwr := rfl
@[simp] theorem advance_nvm (s : State) (ns : Nat) : (s.advance ns).nvm = s.nvm := rfl
@[simp] theorem advance_cht (s : State) (ns : Nat) : (s.advance ns).cht = s.cht := rfl
@[simp] theorem advance_grps (s : State) (ns : Nat) : (s.advance ns).grps = s.grps := rfl
@[simp] theorem advance_tly (s : State) (ns : Nat) : (s.advance ns).tly = s.tly := rfl
@[simp] theorem advance_tc (s : State) (ns : Nat) : (s.advance ns).tc = s.tc := rfl
@[simp] theorem advance_hp (s : State) (ns : Nat) : (s.advance ns).hp = s.hp := rfl
@[simp] theorem advance_slot (s : State) (ns : Nat) : (s.advance ns).slot = s.slot := rfl
@[simp] theorem advance_fw (s : State) (ns : Nat) : (s.advance ns).fw = s.fw := rfl
@[simp] theorem advance_mi (s : State) (ns : Nat) : (s.advance ns).mi = s.mi := rfl
@[simp] theorem advance_mem (s : State) (ns : Nat) : (s.advance ns).mem = s.mem := rfl
@[simp] theorem advance_poison (s : State) (ns : Nat) : (s.advance ns).poison = s.poison := rfl
@[simp] theorem advance_out (s : State) (ns : Nat) : (s.advance ns).out = s.out := rfl
@[simp] theorem advance_freeCtr (s : State) (ns : Nat) : (s.advance ns).freeCtr = s.freeCtr := rfl
@[simp] theorem advance_pending (s : State) (ns : Nat) : (s.advance ns).pending = s.pending := rfl

@[simp] theorem memWrite_regs (s : State) (a : Nat) (bs : List Byte) : (s.memWrite a bs).regs = s.regs := rfl
@[simp] theorem memWrite_dev (s : State) (a : Nat) (bs : List Byte) : (s.memWrite a bs).dev = s.dev := rfl
@[simp] theorem memWrite_pat (s : State) (a : Nat) (bs : List Byte) : (s.memWrite a bs).pat = s.pat := rfl
@[simp] theorem memWrite_svc (s : State) (a : Nat) (bs : List Byte) : (s.memWrite a bs).svc = s.svc := rfl
@[simp] theorem memWrite_tasks (s : State) (a : Nat) (bs : List Byte) : (s.memWrite a bs).tasks = s.tasks := rfl
@[simp] theorem memWrite_eng (s : State) (a : Nat) (bs : List Byte) : (s.memWrite a bs).eng = s.eng := rfl
@[simp] theorem memWrite_led (s : State) (a : Nat) (bs : List Byte) : (s.memWrite a bs).led = s.led := rfl
@[simp] theorem memWrite_flm (s : State) (a : Nat) (bs : List Byte) : (s.memWrite a bs).flm = s.flm := rfl
@[simp] theorem memWrite_fx (s : State) (a : Nat) (bs : List Byte) : (s.memWrite a bs).fx = s.fx := rfl
@[simp] theorem memWrite_wsw (s : State) (a : Nat) (bs : List Byte) : (s.memWrite a bs).wsw = s.wsw := rfl
@[simp] theorem memWrite_drv (s : State) (a : Nat) (bs : List Byte) : (s.memWrite a bs).drv = s.drv := rfl
@[simp] theorem memWrite_pwr (s : State) (a : Nat) (bs : List Byte) : (s.memWrite a bs).pwr = s.pwr := rfl
@[simp] theorem memWrite_nvm (s : State) (a : Nat) (bs : List Byte) : (s.memWrite a bs).nvm = s.nvm := rfl
@[simp] theorem memWrite_cht (s : State) (a : Nat) (bs : List Byte) : (s.memWrite a bs).cht = s.cht := rfl
@[simp] theorem memWrite_grps (s : State) (a : Nat) (bs : List Byte) : (s.memWrite a bs).grps = s.grps := rfl
@[simp] theorem memWrite_tly (s : State) (a : Nat) (bs : List Byte) : (s.memWrite a bs).tly = s.tly := rfl
@[simp] theorem memWrite_tc (s : State) (a : Nat) (bs : List Byte) : (s.memWrite a bs).tc = s.tc := rfl
@[simp] theorem memWrite_hp (s : State) (a : Nat) (bs : List Byte) : (s.memWrite a bs).hp = s.hp := rfl
@[simp] theorem memWrite_slot (s : State) (a : Nat) (bs : List Byte) : (s.memWrite a bs).slot = s.slot := rfl
@[simp] theorem memWrite_fw (s : State) (a : Nat) (bs : List Byte) : (s.memWrite a bs).fw = s.fw := rfl
@[simp] theorem memWrite_mi (s : State) (a : Nat) (bs : List Byte) : (s.memWrite a bs).mi = s.mi := rfl
@[simp] theorem memWrite_poison (s : State) (a : Nat) (bs : List Byte) : (s.memWrite a bs).poison = s.poison := rfl
@[simp] theorem memWrite_out (s : State) (a : Nat) (bs : List Byte) : (s.memWrite a bs).out = s.out := rfl
@[simp] theorem memWrite_freeCtr (s : State) (a : Nat) (bs : List Byte) : (s.memWrite a bs).freeCtr = s.freeCtr := rfl
@[simp] theorem memWrite_pending (s : State) (a : Nat) (bs : List Byte) : (s.memWrite a bs).pending = s.pending := rfl

@[simp] theorem setPoison_regs (s : State) (a : Nat) : (s.setPoison a).regs = s.regs := rfl
@[simp] theorem setPoison_dev (s : State) (a : Nat) : (s.setPoison a).dev = s.dev := rfl
@[simp] theorem setPoison_pat (s : State) (a : Nat) : (s.setPoison a).pat = s.pat := rfl
@[simp] theorem setPoison_svc (s : State) (a : Nat) : (s.setPoison a).svc = s.svc := rfl
@[simp] theorem setPoison_tasks (s : State) (a : Nat) : (s.setPoison a).tasks = s.tasks := rfl
@[simp] theorem setPoison_eng (s : State) (a : Nat) : (s.setPoison a).eng = s.eng := rfl
@[simp] theorem setPoison_led (s : State) (a : Nat) : (s.setPoison a).led = s.led := rfl
@[simp] theorem setPoison_flm (s : State) (a : Nat) : (s.setPoison a).flm = s.flm := rfl
@[simp] theorem setPoison_fx (s : State) (a : Nat) : (s.setPoison a).fx = s.fx := rfl
@[simp] theorem setPoison_wsw (s : State) (a : Nat) : (s.setPoison a).wsw = s.wsw := rfl
@[simp] theorem setPoison_drv (s : State) (a : Nat) : (s.setPoison a).drv = s.drv := rfl
@[simp] theorem setPoison_pwr (s : State) (a : Nat) : (s.setPoison a).pwr = s.pwr := rfl
@[simp] theorem setPoison_nvm (s : State) (a : Nat) : (s.setPoison a).nvm = s.nvm := rfl
@[simp] theorem setPoison_cht (s : State) (a : Nat) : (s.setPoison a).cht = s.cht := rfl
@[simp] theorem setPoison_grps (s : State) (a : Nat) : (s.setPoison a).grps = s.grps := rfl
@[simp] theorem setPoison_tly (s : State) (a : Nat) : (s.setPoison a).tly = s.tly := rfl
@[simp] theorem setPoison_tc (s : State) (a : Nat) : (s.setPoison a).tc = s.tc := rfl
@[simp] theorem setPoison_hp (s : State) (a : Nat) : (s.setPoison a).hp = s.hp := rfl
@[simp] theorem setPoison_slot (s : State) (a : Nat) : (s.setPoison a).slot = s.slot := rfl
@[simp] theorem setPoison_fw (s : State) (a : Nat) : (s.setPoison a).fw = s.fw := rfl
@[simp] theorem setPoison_mi (s : State) (a : Nat) : (s.setPoison a).mi = s.mi := rfl
@[simp] theorem setPoison_mem (s : State) (a : Nat) : (s.setPoison a).mem = s.mem := rfl
@[simp] theorem setPoison_out (s : State) (a : Nat) : (s.setPoison a).out = s.out := rfl
@[simp] theorem setPoison_freeCtr (s : State) (a : Nat) : (s.setPoison a).freeCtr = s.freeCtr := rfl
@[simp] theorem setPoison_pending (s : State) (a : Nat) : (s.setPoison a).pending = s.pending := rfl

@[simp] theorem clearPoison_regs (s : State) (a : Nat) : (s.clearPoison a).regs = s.regs := rfl
@[simp] theorem clearPoison_dev (s : State) (a : Nat) : (s.clearPoison a).dev = s.dev := rfl
@[simp] theorem clearPoison_pat (s : State) (a : Nat) : (s.clearPoison a).pat = s.pat := rfl
@[simp] theorem clearPoison_svc (s : State) (a : Nat) : (s.clearPoison a).svc = s.svc := rfl
@[simp] theorem clearPoison_tasks (s : State) (a : Nat) : (s.clearPoison a).tasks = s.tasks := rfl
@[simp] theorem clearPoison_eng (s : State) (a : Nat) : (s.clearPoison a).eng = s.eng := rfl
@[simp] theorem clearPoison_led (s : State) (a : Nat) : (s.clearPoison a).led = s.led := rfl
@[simp] theorem clearPoison_flm (s : State) (a : Nat) : (s.clearPoison a).flm = s.flm := rfl
@[simp] theorem clearPoison_fx (s : State) (a : Nat) : (s.clearPoison a).fx = s.fx := rfl
@[simp] theorem clearPoison_wsw (s : State) (a : Nat) : (s.clearPoison a).wsw = s.wsw := rfl
@[simp] theorem clearPoison_drv (s : State) (a : Nat) : (s.clearPoison a).drv = s.drv := rfl
@[simp] theorem clearPoison_pwr (s : State) (a : Nat) : (s.clearPoison a).pwr = s.pwr := rfl
@[simp] theorem clearPoison_nvm (s : State) (a : Nat) : (s.clearPoison a).nvm = s.nvm := rfl
@[simp] theorem clearPoison_cht (s : State) (a : Nat) : (s.clearPoison a).cht = s.cht := rfl
@[simp] theorem clearPoison_grps (s : State) (a : Nat) : (s.clearPoison a).grps = s.grps := rfl
@[simp] theorem clearPoison_tly (s : State) (a : Nat) : (s.clearPoison a).tly = s.tly := rfl
@[simp] theorem clearPoison_tc (s : State) (a : Nat) : (s.clearPoison a).tc = s.tc := rfl
@[simp] theorem clearPoison_hp (s : State) (a : Nat) : (s.clearPoison a).hp = s.hp := rfl
@[simp] theorem clearPoison_slot (s : State) (a : Nat) : (s.clearPoison a).slot = s.slot := rfl
@[simp] theorem clearPoison_fw (s : State) (a : Nat) : (s.clearPoison a).fw = s.fw := rfl
@[simp] theorem clearPoison_mi (s : State) (a : Nat) : (s.clearPoison a).mi = s.mi := rfl
@[simp] theorem clearPoison_mem (s : State) (a : Nat) : (s.clearPoison a).mem = s.mem := rfl
@[simp] theorem clearPoison_out (s : State) (a : Nat) : (s.clearPoison a).out = s.out := rfl
@[simp] theorem clearPoison_freeCtr (s : State) (a : Nat) : (s.clearPoison a).freeCtr = s.freeCtr := rfl
@[simp] theorem clearPoison_pending (s : State) (a : Nat) : (s.clearPoison a).pending = s.pending := rfl

@[simp] theorem clearPoisonIn_regs (s : State) (a n : Nat) : (s.clearPoisonIn a n).regs = s.regs := rfl
@[simp] theorem clearPoisonIn_dev (s : State) (a n : Nat) : (s.clearPoisonIn a n).dev = s.dev := rfl
@[simp] theorem clearPoisonIn_pat (s : State) (a n : Nat) : (s.clearPoisonIn a n).pat = s.pat := rfl
@[simp] theorem clearPoisonIn_svc (s : State) (a n : Nat) : (s.clearPoisonIn a n).svc = s.svc := rfl
@[simp] theorem clearPoisonIn_tasks (s : State) (a n : Nat) : (s.clearPoisonIn a n).tasks = s.tasks := rfl
@[simp] theorem clearPoisonIn_eng (s : State) (a n : Nat) : (s.clearPoisonIn a n).eng = s.eng := rfl
@[simp] theorem clearPoisonIn_led (s : State) (a n : Nat) : (s.clearPoisonIn a n).led = s.led := rfl
@[simp] theorem clearPoisonIn_flm (s : State) (a n : Nat) : (s.clearPoisonIn a n).flm = s.flm := rfl
@[simp] theorem clearPoisonIn_fx (s : State) (a n : Nat) : (s.clearPoisonIn a n).fx = s.fx := rfl
@[simp] theorem clearPoisonIn_wsw (s : State) (a n : Nat) : (s.clearPoisonIn a n).wsw = s.wsw := rfl
@[simp] theorem clearPoisonIn_drv (s : State) (a n : Nat) : (s.clearPoisonIn a n).drv = s.drv := rfl
@[simp] theorem clearPoisonIn_pwr (s : State) (a n : Nat) : (s.clearPoisonIn a n).pwr = s.pwr := rfl
@[simp] theorem clearPoisonIn_nvm (s : State) (a n : Nat) : (s.clearPoisonIn a n).nvm = s.nvm := rfl
@[simp] theorem clearPoisonIn_cht (s : State) (a n : Nat) : (s.clearPoisonIn a n).cht = s.cht := rfl
@[simp] theorem clearPoisonIn_grps (s : State) (a n : Nat) : (s.clearPoisonIn a n).grps = s.grps := rfl
@[simp] theorem clearPoisonIn_tly (s : State) (a n : Nat) : (s.clearPoisonIn a n).tly = s.tly := rfl
@[simp] theorem clearPoisonIn_tc (s : State) (a n : Nat) : (s.clearPoisonIn a n).tc = s.tc := rfl
@[simp] theorem clearPoisonIn_hp (s : State) (a n : Nat) : (s.clearPoisonIn a n).hp = s.hp := rfl
@[simp] theorem clearPoisonIn_slot (s : State) (a n : Nat) : (s.clearPoisonIn a n).slot = s.slot := rfl
@[simp] theorem clearPoisonIn_fw (s : State) (a n : Nat) : (s.clearPoisonIn a n).fw = s.fw := rfl
@[simp] theorem clearPoisonIn_mi (s : State) (a n : Nat) : (s.clearPoisonIn a n).mi = s.mi := rfl
@[simp] theorem clearPoisonIn_mem (s : State) (a n : Nat) : (s.clearPoisonIn a n).mem = s.mem := rfl
@[simp] theorem clearPoisonIn_out (s : State) (a n : Nat) : (s.clearPoisonIn a n).out = s.out := rfl
@[simp] theorem clearPoisonIn_freeCtr (s : State) (a n : Nat) : (s.clearPoisonIn a n).freeCtr = s.freeCtr := rfl
@[simp] theorem clearPoisonIn_pending (s : State) (a n : Nat) : (s.clearPoisonIn a n).pending = s.pending := rfl

@[simp] theorem emit_out (s : State) (o : Out) : (s.emit o).out = o :: s.out := rfl

@[simp] theorem drawn_freeCtr (s : State) : s.drawn.freeCtr = s.freeCtr + 1 := rfl

@[simp] theorem advance_timeNs (s : State) (ns : Nat) : (s.advance ns).dev.timeNs = s.dev.timeNs + ns := rfl

end Sys2Proof.Machine
end

