-- ==== Sys2Proof/Laws/Ops.lean ====
section
/-!
SUPPORT. Laws/Ops.lean: reading the register file and memory after the operations of Machine/Ops.lean that write them.
-/
namespace Sys2Proof.Machine

/-- A read of the table after a write elsewhere, whatever an unlisted key reads as. -/
theorem sparseGet_put_other {α : Type} [DecidableEq α] (d e : α) (k j : Nat) (v : α) (l : List (Nat × α)) (hk : k ≠ j) :
    sparseGet e j (sparsePut d k v l) = sparseGet e j l := by
  unfold sparsePut
  split
  · rw [sparseGet_erase, if_neg hk]
  · rw [sparseGet_insert e k j v l, if_neg hk]

/-- A field reads as what was stored, cut to its width (R14). -/
@[simp] theorem get_set_same (s : State) (f : Fld) (v i j : Nat) : (s.set f v i j).get f i j = v % 2 ^ f.width := by
  unfold State.get State.set
  rw [sparseGet_put _ _ _ _ _, if_pos rfl]

/-- Another field reads as before. -/
theorem get_set_other (s : State) (f g : Fld) (v i j m n : Nat) (hk : f.key i j ≠ g.key m n) :
    (s.set f v i j).get g m n = s.get g m n := by
  unfold State.get State.set
  exact sparseGet_put_other _ _ _ _ _ _ hk

/-- A write of a field keeps the register file in its canonical form. -/
theorem regs_sorted_set (s : State) (f : Fld) (v i j : Nat) (h : sparseSorted s.regs = true) : sparseSorted (s.set f v i j).regs = true := sparseSorted_put _ _ _ h

/-- A one-bit field reads as it was set. -/
theorem flag_setFlag_same (s : State) (f : Fld) (b : Bool) (i j : Nat) (hw : f.width = 1) : (s.setFlag f b i j).flag f i j = b := by
  unfold State.flag State.setFlag
  rw [get_set_same s f _ i j, hw]
  cases b <;> rfl

/-- Another field reads as before. -/
theorem get_setFlag_other (s : State) (f g : Fld) (b : Bool) (i j m n : Nat) (hk : f.key i j ≠ g.key m n) :
    (s.setFlag f b i j).get g m n = s.get g m n := get_set_other s f g _ i j m n hk

/-- An RC counter that counts reads one more, up to 0xFFFF_FFFF. -/
@[simp] theorem get_bump_same (s : State) (f : Fld) (i j : Nat) : (s.bump f i j).get f i j = satIncr32 (s.get f i j) % 2 ^ f.width :=
  get_set_same s f _ i j

theorem get_bump_other (s : State) (f g : Fld) (i j m n : Nat) (hk : f.key i j ≠ g.key m n) :
    (s.bump f i j).get g m n = s.get g m n := get_set_other s f g _ i j m n hk

end Sys2Proof.Machine
end

