-- ==== Sys2Proof/Laws/Frames.lean ====
section
/-!
SUPPORT. Laws/Frames.lean: the parts of the state that the shared operations leave as they are, one lemma for each operation and part, and what the event machinery leaves of the register
file and of device time.
-/
namespace Sys2Proof.Machine

@[simp] theorem raise_pat (s : State) (e : Nat) : (s.raise e).pat = s.pat := ((keeps_State_raise e rfl (Keeps.refl false 8388643 s)).frame .pat).resolve_left (by decide)
@[simp] theorem raise_svc (s : State) (e : Nat) : (s.raise e).svc = s.svc := ((keeps_State_raise e rfl (Keeps.refl false 8388643 s)).frame .svc).resolve_left (by decide)
@[simp] theorem raise_tasks (s : State) (e : Nat) : (s.raise e).tasks = s.tasks := ((keeps_State_raise e rfl (Keeps.refl false 8388643 s)).frame .tasks).resolve_left (by decide)
@[simp] theorem raise_led (s : State) (e : Nat) : (s.raise e).led = s.led := ((keeps_State_raise e rfl (Keeps.refl false 8388643 s)).frame .led).resolve_left (by decide)
@[simp] theorem raise_flm (s : State) (e : Nat) : (s.raise e).flm = s.flm := ((keeps_State_raise e rfl (Keeps.refl false 8388643 s)).frame .flm).resolve_left (by decide)
@[simp] theorem raise_fx (s : State) (e : Nat) : (s.raise e).fx = s.fx := ((keeps_State_raise e rfl (Keeps.refl false 8388643 s)).frame .fx).resolve_left (by decide)
@[simp] theorem raise_wsw (s : State) (e : Nat) : (s.raise e).wsw = s.wsw := ((keeps_State_raise e rfl (Keeps.refl false 8388643 s)).frame .wsw).resolve_left (by decide)
@[simp] theorem raise_drv (s : State) (e : Nat) : (s.raise e).drv = s.drv := ((keeps_State_raise e rfl (Keeps.refl false 8388643 s)).frame .drv).resolve_left (by decide)
@[simp] theorem raise_pwr (s : State) (e : Nat) : (s.raise e).pwr = s.pwr := ((keeps_State_raise e rfl (Keeps.refl false 8388643 s)).frame .pwr).resolve_left (by decide)
@[simp] theorem raise_nvm (s : State) (e : Nat) : (s.raise e).nvm = s.nvm := ((keeps_State_raise e rfl (Keeps.refl false 8388643 s)).frame .nvm).resolve_left (by decide)
@[simp] theorem raise_cht (s : State) (e : Nat) : (s.raise e).cht = s.cht := ((keeps_State_raise e rfl (Keeps.refl false 8388643 s)).frame .cht).resolve_left (by decide)
@[simp] theorem raise_grps (s : State) (e : Nat) : (s.raise e).grps = s.grps := ((keeps_State_raise e rfl (Keeps.refl false 8388643 s)).frame .grps).resolve_left (by decide)
@[simp] theorem raise_tly (s : State) (e : Nat) : (s.raise e).tly = s.tly := ((keeps_State_raise e rfl (Keeps.refl false 8388643 s)).frame .tly).resolve_left (by decide)
@[simp] theorem raise_tc (s : State) (e : Nat) : (s.raise e).tc = s.tc := ((keeps_State_raise e rfl (Keeps.refl false 8388643 s)).frame .tc).resolve_left (by decide)
@[simp] theorem raise_hp (s : State) (e : Nat) : (s.raise e).hp = s.hp := ((keeps_State_raise e rfl (Keeps.refl false 8388643 s)).frame .hp).resolve_left (by decide)
@[simp] theorem raise_slot (s : State) (e : Nat) : (s.raise e).slot = s.slot := ((keeps_State_raise e rfl (Keeps.refl false 8388643 s)).frame .slot).resolve_left (by decide)
@[simp] theorem raise_fw (s : State) (e : Nat) : (s.raise e).fw = s.fw := ((keeps_State_raise e rfl (Keeps.refl false 8388643 s)).frame .fw).resolve_left (by decide)
@[simp] theorem raise_mi (s : State) (e : Nat) : (s.raise e).mi = s.mi := ((keeps_State_raise e rfl (Keeps.refl false 8388643 s)).frame .mi).resolve_left (by decide)
@[simp] theorem raise_mem (s : State) (e : Nat) : (s.raise e).mem = s.mem := ((keeps_State_raise e rfl (Keeps.refl false 8388643 s)).frame .mem).resolve_left (by decide)
@[simp] theorem raise_poison (s : State) (e : Nat) : (s.raise e).poison = s.poison := ((keeps_State_raise e rfl (Keeps.refl false 8388643 s)).frame .poison).resolve_left (by decide)
@[simp] theorem raise_freeCtr (s : State) (e : Nat) : (s.raise e).freeCtr = s.freeCtr := ((keeps_State_raise e rfl (Keeps.refl false 8388643 s)).frame .freeCtr).resolve_left (by decide)

@[simp] theorem raiseLimited_pat (s : State) (e : Nat) : (s.raiseLimited e).pat = s.pat := ((keeps_State_raiseLimited e rfl (Keeps.refl false 8388643 s)).frame .pat).resolve_left (by decide)
@[simp] theorem raiseLimited_svc (s : State) (e : Nat) : (s.raiseLimited e).svc = s.svc := ((keeps_State_raiseLimited e rfl (Keeps.refl false 8388643 s)).frame .svc).resolve_left (by decide)
@[simp] theorem raiseLimited_tasks (s : State) (e : Nat) : (s.raiseLimited e).tasks = s.tasks := ((keeps_State_raiseLimited e rfl (Keeps.refl false 8388643 s)).frame .tasks).resolve_left (by decide)
@[simp] theorem raiseLimited_led (s : State) (e : Nat) : (s.raiseLimited e).led = s.led := ((keeps_State_raiseLimited e rfl (Keeps.refl false 8388643 s)).frame .led).resolve_left (by decide)
@[simp] theorem raiseLimited_flm (s : State) (e : Nat) : (s.raiseLimited e).flm = s.flm := ((keeps_State_raiseLimited e rfl (Keeps.refl false 8388643 s)).frame .flm).resolve_left (by decide)
@[simp] theorem raiseLimited_fx (s : State) (e : Nat) : (s.raiseLimited e).fx = s.fx := ((keeps_State_raiseLimited e rfl (Keeps.refl false 8388643 s)).frame .fx).resolve_left (by decide)
@[simp] theorem raiseLimited_wsw (s : State) (e : Nat) : (s.raiseLimited e).wsw = s.wsw := ((keeps_State_raiseLimited e rfl (Keeps.refl false 8388643 s)).frame .wsw).resolve_left (by decide)
@[simp] theorem raiseLimited_drv (s : State) (e : Nat) : (s.raiseLimited e).drv = s.drv := ((keeps_State_raiseLimited e rfl (Keeps.refl false 8388643 s)).frame .drv).resolve_left (by decide)
@[simp] theorem raiseLimited_pwr (s : State) (e : Nat) : (s.raiseLimited e).pwr = s.pwr := ((keeps_State_raiseLimited e rfl (Keeps.refl false 8388643 s)).frame .pwr).resolve_left (by decide)
@[simp] theorem raiseLimited_nvm (s : State) (e : Nat) : (s.raiseLimited e).nvm = s.nvm := ((keeps_State_raiseLimited e rfl (Keeps.refl false 8388643 s)).frame .nvm).resolve_left (by decide)
@[simp] theorem raiseLimited_cht (s : State) (e : Nat) : (s.raiseLimited e).cht = s.cht := ((keeps_State_raiseLimited e rfl (Keeps.refl false 8388643 s)).frame .cht).resolve_left (by decide)
@[simp] theorem raiseLimited_grps (s : State) (e : Nat) : (s.raiseLimited e).grps = s.grps := ((keeps_State_raiseLimited e rfl (Keeps.refl false 8388643 s)).frame .grps).resolve_left (by decide)
@[simp] theorem raiseLimited_tly (s : State) (e : Nat) : (s.raiseLimited e).tly = s.tly := ((keeps_State_raiseLimited e rfl (Keeps.refl false 8388643 s)).frame .tly).resolve_left (by decide)
@[simp] theorem raiseLimited_tc (s : State) (e : Nat) : (s.raiseLimited e).tc = s.tc := ((keeps_State_raiseLimited e rfl (Keeps.refl false 8388643 s)).frame .tc).resolve_left (by decide)
@[simp] theorem raiseLimited_hp (s : State) (e : Nat) : (s.raiseLimited e).hp = s.hp := ((keeps_State_raiseLimited e rfl (Keeps.refl false 8388643 s)).frame .hp).resolve_left (by decide)
@[simp] theorem raiseLimited_slot (s : State) (e : Nat) : (s.raiseLimited e).slot = s.slot := ((keeps_State_raiseLimited e rfl (Keeps.refl false 8388643 s)).frame .slot).resolve_left (by decide)
@[simp] theorem raiseLimited_fw (s : State) (e : Nat) : (s.raiseLimited e).fw = s.fw := ((keeps_State_raiseLimited e rfl (Keeps.refl false 8388643 s)).frame .fw).resolve_left (by decide)
@[simp] theorem raiseLimited_mi (s : State) (e : Nat) : (s.raiseLimited e).mi = s.mi := ((keeps_State_raiseLimited e rfl (Keeps.refl false 8388643 s)).frame .mi).resolve_left (by decide)
@[simp] theorem raiseLimited_mem (s : State) (e : Nat) : (s.raiseLimited e).mem = s.mem := ((keeps_State_raiseLimited e rfl (Keeps.refl false 8388643 s)).frame .mem).resolve_left (by decide)
@[simp] theorem raiseLimited_poison (s : State) (e : Nat) : (s.raiseLimited e).poison = s.poison := ((keeps_State_raiseLimited e rfl (Keeps.refl false 8388643 s)).frame .poison).resolve_left (by decide)
@[simp] theorem raiseLimited_freeCtr (s : State) (e : Nat) : (s.raiseLimited e).freeCtr = s.freeCtr := ((keeps_State_raiseLimited e rfl (Keeps.refl false 8388643 s)).frame .freeCtr).resolve_left (by decide)

@[simp] theorem flushMsix_regs (s : State) : (s.flushMsix ).regs = s.regs := ((keeps_State_flushMsix rfl (Keeps.refl false 8388610 s)).frame .regs).resolve_left (by decide)
@[simp] theorem flushMsix_pat (s : State) : (s.flushMsix ).pat = s.pat := ((keeps_State_flushMsix rfl (Keeps.refl false 8388610 s)).frame .pat).resolve_left (by decide)
@[simp] theorem flushMsix_svc (s : State) : (s.flushMsix ).svc = s.svc := ((keeps_State_flushMsix rfl (Keeps.refl false 8388610 s)).frame .svc).resolve_left (by decide)
@[simp] theorem flushMsix_tasks (s : State) : (s.flushMsix ).tasks = s.tasks := ((keeps_State_flushMsix rfl (Keeps.refl false 8388610 s)).frame .tasks).resolve_left (by decide)
@[simp] theorem flushMsix_eng (s : State) : (s.flushMsix ).eng = s.eng := ((keeps_State_flushMsix rfl (Keeps.refl false 8388610 s)).frame .eng).resolve_left (by decide)
@[simp] theorem flushMsix_led (s : State) : (s.flushMsix ).led = s.led := ((keeps_State_flushMsix rfl (Keeps.refl false 8388610 s)).frame .led).resolve_left (by decide)
@[simp] theorem flushMsix_flm (s : State) : (s.flushMsix ).flm = s.flm := ((keeps_State_flushMsix rfl (Keeps.refl false 8388610 s)).frame .flm).resolve_left (by decide)
@[simp] theorem flushMsix_fx (s : State) : (s.flushMsix ).fx = s.fx := ((keeps_State_flushMsix rfl (Keeps.refl false 8388610 s)).frame .fx).resolve_left (by decide)
@[simp] theorem flushMsix_wsw (s : State) : (s.flushMsix ).wsw = s.wsw := ((keeps_State_flushMsix rfl (Keeps.refl false 8388610 s)).frame .wsw).resolve_left (by decide)
@[simp] theorem flushMsix_drv (s : State) : (s.flushMsix ).drv = s.drv := ((keeps_State_flushMsix rfl (Keeps.refl false 8388610 s)).frame .drv).resolve_left (by decide)
@[simp] theorem flushMsix_pwr (s : State) : (s.flushMsix ).pwr = s.pwr := ((keeps_State_flushMsix rfl (Keeps.refl false 8388610 s)).frame .pwr).resolve_left (by decide)
@[simp] theorem flushMsix_nvm (s : State) : (s.flushMsix ).nvm = s.nvm := ((keeps_State_flushMsix rfl (Keeps.refl false 8388610 s)).frame .nvm).resolve_left (by decide)
@[simp] theorem flushMsix_cht (s : State) : (s.flushMsix ).cht = s.cht := ((keeps_State_flushMsix rfl (Keeps.refl false 8388610 s)).frame .cht).resolve_left (by decide)
@[simp] theorem flushMsix_grps (s : State) : (s.flushMsix ).grps = s.grps := ((keeps_State_flushMsix rfl (Keeps.refl false 8388610 s)).frame .grps).resolve_left (by decide)
@[simp] theorem flushMsix_tly (s : State) : (s.flushMsix ).tly = s.tly := ((keeps_State_flushMsix rfl (Keeps.refl false 8388610 s)).frame .tly).resolve_left (by decide)
@[simp] theorem flushMsix_tc (s : State) : (s.flushMsix ).tc = s.tc := ((keeps_State_flushMsix rfl (Keeps.refl false 8388610 s)).frame .tc).resolve_left (by decide)
@[simp] theorem flushMsix_hp (s : State) : (s.flushMsix ).hp = s.hp := ((keeps_State_flushMsix rfl (Keeps.refl false 8388610 s)).frame .hp).resolve_left (by decide)
@[simp] theorem flushMsix_slot (s : State) : (s.flushMsix ).slot = s.slot := ((keeps_State_flushMsix rfl (Keeps.refl false 8388610 s)).frame .slot).resolve_left (by decide)
@[simp] theorem flushMsix_fw (s : State) : (s.flushMsix ).fw = s.fw := ((keeps_State_flushMsix rfl (Keeps.refl false 8388610 s)).frame .fw).resolve_left (by decide)
@[simp] theorem flushMsix_mi (s : State) : (s.flushMsix ).mi = s.mi := ((keeps_State_flushMsix rfl (Keeps.refl false 8388610 s)).frame .mi).resolve_left (by decide)
@[simp] theorem flushMsix_mem (s : State) : (s.flushMsix ).mem = s.mem := ((keeps_State_flushMsix rfl (Keeps.refl false 8388610 s)).frame .mem).resolve_left (by decide)
@[simp] theorem flushMsix_poison (s : State) : (s.flushMsix ).poison = s.poison := ((keeps_State_flushMsix rfl (Keeps.refl false 8388610 s)).frame .poison).resolve_left (by decide)
@[simp] theorem flushMsix_freeCtr (s : State) : (s.flushMsix ).freeCtr = s.freeCtr := ((keeps_State_flushMsix rfl (Keeps.refl false 8388610 s)).frame .freeCtr).resolve_left (by decide)

@[simp] theorem freezeLedger_pat (s : State) : (s.freezeLedger ).pat = s.pat := ((keeps_State_freezeLedger rfl (Keeps.refl false 8388643 s)).frame .pat).resolve_left (by decide)
@[simp] theorem freezeLedger_svc (s : State) : (s.freezeLedger ).svc = s.svc := ((keeps_State_freezeLedger rfl (Keeps.refl false 8388643 s)).frame .svc).resolve_left (by decide)
@[simp] theorem freezeLedger_tasks (s : State) : (s.freezeLedger ).tasks = s.tasks := ((keeps_State_freezeLedger rfl (Keeps.refl false 8388643 s)).frame .tasks).resolve_left (by decide)
@[simp] theorem freezeLedger_led (s : State) : (s.freezeLedger ).led = s.led := ((keeps_State_freezeLedger rfl (Keeps.refl false 8388643 s)).frame .led).resolve_left (by decide)
@[simp] theorem freezeLedger_flm (s : State) : (s.freezeLedger ).flm = s.flm := ((keeps_State_freezeLedger rfl (Keeps.refl false 8388643 s)).frame .flm).resolve_left (by decide)
@[simp] theorem freezeLedger_fx (s : State) : (s.freezeLedger ).fx = s.fx := ((keeps_State_freezeLedger rfl (Keeps.refl false 8388643 s)).frame .fx).resolve_left (by decide)
@[simp] theorem freezeLedger_wsw (s : State) : (s.freezeLedger ).wsw = s.wsw := ((keeps_State_freezeLedger rfl (Keeps.refl false 8388643 s)).frame .wsw).resolve_left (by decide)
@[simp] theorem freezeLedger_drv (s : State) : (s.freezeLedger ).drv = s.drv := ((keeps_State_freezeLedger rfl (Keeps.refl false 8388643 s)).frame .drv).resolve_left (by decide)
@[simp] theorem freezeLedger_pwr (s : State) : (s.freezeLedger ).pwr = s.pwr := ((keeps_State_freezeLedger rfl (Keeps.refl false 8388643 s)).frame .pwr).resolve_left (by decide)
@[simp] theorem freezeLedger_nvm (s : State) : (s.freezeLedger ).nvm = s.nvm := ((keeps_State_freezeLedger rfl (Keeps.refl false 8388643 s)).frame .nvm).resolve_left (by decide)
@[simp] theorem freezeLedger_cht (s : State) : (s.freezeLedger ).cht = s.cht := ((keeps_State_freezeLedger rfl (Keeps.refl false 8388643 s)).frame .cht).resolve_left (by decide)
@[simp] theorem freezeLedger_grps (s : State) : (s.freezeLedger ).grps = s.grps := ((keeps_State_freezeLedger rfl (Keeps.refl false 8388643 s)).frame .grps).resolve_left (by decide)
@[simp] theorem freezeLedger_tly (s : State) : (s.freezeLedger ).tly = s.tly := ((keeps_State_freezeLedger rfl (Keeps.refl false 8388643 s)).frame .tly).resolve_left (by decide)
@[simp] theorem freezeLedger_tc (s : State) : (s.freezeLedger ).tc = s.tc := ((keeps_State_freezeLedger rfl (Keeps.refl false 8388643 s)).frame .tc).resolve_left (by decide)
@[simp] theorem freezeLedger_hp (s : State) : (s.freezeLedger ).hp = s.hp := ((keeps_State_freezeLedger rfl (Keeps.refl false 8388643 s)).frame .hp).resolve_left (by decide)
@[simp] theorem freezeLedger_slot (s : State) : (s.freezeLedger ).slot = s.slot := ((keeps_State_freezeLedger rfl (Keeps.refl false 8388643 s)).frame .slot).resolve_left (by decide)
@[simp] theorem freezeLedger_fw (s : State) : (s.freezeLedger ).fw = s.fw := ((keeps_State_freezeLedger rfl (Keeps.refl false 8388643 s)).frame .fw).resolve_left (by decide)
@[simp] theorem freezeLedger_mi (s : State) : (s.freezeLedger ).mi = s.mi := ((keeps_State_freezeLedger rfl (Keeps.refl false 8388643 s)).frame .mi).resolve_left (by decide)
@[simp] theorem freezeLedger_mem (s : State) : (s.freezeLedger ).mem = s.mem := ((keeps_State_freezeLedger rfl (Keeps.refl false 8388643 s)).frame .mem).resolve_left (by decide)
@[simp] theorem freezeLedger_poison (s : State) : (s.freezeLedger ).poison = s.poison := ((keeps_State_freezeLedger rfl (Keeps.refl false 8388643 s)).frame .poison).resolve_left (by decide)
@[simp] theorem freezeLedger_freeCtr (s : State) : (s.freezeLedger ).freeCtr = s.freeCtr := ((keeps_State_freezeLedger rfl (Keeps.refl false 8388643 s)).frame .freeCtr).resolve_left (by decide)

@[simp] theorem ledger_pat (s : State) (code : Nat) (island : Nat) (source : Nat) (detail : List Byte) : (s.ledger code island source detail).pat = s.pat := ((keeps_State_ledger code island source detail rfl (Keeps.refl false 8388707 s)).frame .pat).resolve_left (by decide)
@[simp] theorem ledger_svc (s : State) (code : Nat) (island : Nat) (source : Nat) (detail : List Byte) : (s.ledger code island source detail).svc = s.svc := ((keeps_State_ledger code island source detail rfl (Keeps.refl false 8388707 s)).frame .svc).resolve_left (by decide)
@[simp] theorem ledger_tasks (s : State) (code : Nat) (island : Nat) (source : Nat) (detail : List Byte) : (s.ledger code island source detail).tasks = s.tasks := ((keeps_State_ledger code island source detail rfl (Keeps.refl false 8388707 s)).frame .tasks).resolve_left (by decide)
@[simp] theorem ledger_flm (s : State) (code : Nat) (island : Nat) (source : Nat) (detail : List Byte) : (s.ledger code island source detail).flm = s.flm := ((keeps_State_ledger code island source detail rfl (Keeps.refl false 8388707 s)).frame .flm).resolve_left (by decide)
@[simp] theorem ledger_fx (s : State) (code : Nat) (island : Nat) (source : Nat) (detail : List Byte) : (s.ledger code island source detail).fx = s.fx := ((keeps_State_ledger code island source detail rfl (Keeps.refl false 8388707 s)).frame .fx).resolve_left (by decide)
@[simp] theorem ledger_wsw (s : State) (code : Nat) (island : Nat) (source : Nat) (detail : List Byte) : (s.ledger code island source detail).wsw = s.wsw := ((keeps_State_ledger code island source detail rfl (Keeps.refl false 8388707 s)).frame .wsw).resolve_left (by decide)
@[simp] theorem ledger_drv (s : State) (code : Nat) (island : Nat) (source : Nat) (detail : List Byte) : (s.ledger code island source detail).drv = s.drv := ((keeps_State_ledger code island source detail rfl (Keeps.refl false 8388707 s)).frame .drv).resolve_left (by decide)
@[simp] theorem ledger_pwr (s : State) (code : Nat) (island : Nat) (source : Nat) (detail : List Byte) : (s.ledger code island source detail).pwr = s.pwr := ((keeps_State_ledger code island source detail rfl (Keeps.refl false 8388707 s)).frame .pwr).resolve_left (by decide)
@[simp] theorem ledger_nvm (s : State) (code : Nat) (island : Nat) (source : Nat) (detail : List Byte) : (s.ledger code island source detail).nvm = s.nvm := ((keeps_State_ledger code island source detail rfl (Keeps.refl false 8388707 s)).frame .nvm).resolve_left (by decide)
@[simp] theorem ledger_cht (s : State) (code : Nat) (island : Nat) (source : Nat) (detail : List Byte) : (s.ledger code island source detail).cht = s.cht := ((keeps_State_ledger code island source detail rfl (Keeps.refl false 8388707 s)).frame .cht).resolve_left (by decide)
@[simp] theorem ledger_grps (s : State) (code : Nat) (island : Nat) (source : Nat) (detail : List Byte) : (s.ledger code island source detail).grps = s.grps := ((keeps_State_ledger code island source detail rfl (Keeps.refl false 8388707 s)).frame .grps).resolve_left (by decide)
@[simp] theorem ledger_tly (s : State) (code : Nat) (island : Nat) (source : Nat) (detail : List Byte) : (s.ledger code island source detail).tly = s.tly := ((keeps_State_ledger code island source detail rfl (Keeps.refl false 8388707 s)).frame .tly).resolve_left (by decide)
@[simp] theorem ledger_tc (s : State) (code : Nat) (island : Nat) (source : Nat) (detail : List Byte) : (s.ledger code island source detail).tc = s.tc := ((keeps_State_ledger code island source detail rfl (Keeps.refl false 8388707 s)).frame .tc).resolve_left (by decide)
@[simp] theorem ledger_hp (s : State) (code : Nat) (island : Nat) (source : Nat) (detail : List Byte) : (s.ledger code island source detail).hp = s.hp := ((keeps_State_ledger code island source detail rfl (Keeps.refl false 8388707 s)).frame .hp).resolve_left (by decide)
@[simp] theorem ledger_slot (s : State) (code : Nat) (island : Nat) (source : Nat) (detail : List Byte) : (s.ledger code island source detail).slot = s.slot := ((keeps_State_ledger code island source detail rfl (Keeps.refl false 8388707 s)).frame .slot).resolve_left (by decide)
@[simp] theorem ledger_fw (s : State) (code : Nat) (island : Nat) (source : Nat) (detail : List Byte) : (s.ledger code island source detail).fw = s.fw := ((keeps_State_ledger code island source detail rfl (Keeps.refl false 8388707 s)).frame .fw).resolve_left (by decide)
@[simp] theorem ledger_mi (s : State) (code : Nat) (island : Nat) (source : Nat) (detail : List Byte) : (s.ledger code island source detail).mi = s.mi := ((keeps_State_ledger code island source detail rfl (Keeps.refl false 8388707 s)).frame .mi).resolve_left (by decide)
@[simp] theorem ledger_mem (s : State) (code : Nat) (island : Nat) (source : Nat) (detail : List Byte) : (s.ledger code island source detail).mem = s.mem := ((keeps_State_ledger code island source detail rfl (Keeps.refl false 8388707 s)).frame .mem).resolve_left (by decide)
@[simp] theorem ledger_poison (s : State) (code : Nat) (island : Nat) (source : Nat) (detail : List Byte) : (s.ledger code island source detail).poison = s.poison := ((keeps_State_ledger code island source detail rfl (Keeps.refl false 8388707 s)).frame .poison).resolve_left (by decide)
@[simp] theorem ledger_freeCtr (s : State) (code : Nat) (island : Nat) (source : Nat) (detail : List Byte) : (s.ledger code island source detail).freeCtr = s.freeCtr := ((keeps_State_ledger code island source detail rfl (Keeps.refl false 8388707 s)).frame .freeCtr).resolve_left (by decide)

@[simp] theorem ledgerLimited_pat (s : State) (code : Nat) (island : Nat) (source : Nat) (detail : List Byte) : (s.ledgerLimited code island source detail).pat = s.pat := ((keeps_State_ledgerLimited code island source detail rfl (Keeps.refl false 8388707 s)).frame .pat).resolve_left (by decide)
@[simp] theorem ledgerLimited_svc (s : State) (code : Nat) (island : Nat) (source : Nat) (detail : List Byte) : (s.ledgerLimited code island source detail).svc = s.svc := ((keeps_State_ledgerLimited code island source detail rfl (Keeps.refl false 8388707 s)).frame .svc).resolve_left (by decide)
@[simp] theorem ledgerLimited_tasks (s : State) (code : Nat) (island : Nat) (source : Nat) (detail : List Byte) : (s.ledgerLimited code island source detail).tasks = s.tasks := ((keeps_State_ledgerLimited code island source detail rfl (Keeps.refl false 8388707 s)).frame .tasks).resolve_left (by decide)
@[simp] theorem ledgerLimited_flm (s : State) (code : Nat) (island : Nat) (source : Nat) (detail : List Byte) : (s.ledgerLimited code island source detail).flm = s.flm := ((keeps_State_ledgerLimited code island source detail rfl (Keeps.refl false 8388707 s)).frame .flm).resolve_left (by decide)
@[simp] theorem ledgerLimited_fx (s : State) (code : Nat) (island : Nat) (source : Nat) (detail : List Byte) : (s.ledgerLimited code island source detail).fx = s.fx := ((keeps_State_ledgerLimited code island source detail rfl (Keeps.refl false 8388707 s)).frame .fx).resolve_left (by decide)
@[simp] theorem ledgerLimited_wsw (s : State) (code : Nat) (island : Nat) (source : Nat) (detail : List Byte) : (s.ledgerLimited code island source detail).wsw = s.wsw := ((keeps_State_ledgerLimited code island source detail rfl (Keeps.refl false 8388707 s)).frame .wsw).resolve_left (by decide)
@[simp] theorem ledgerLimited_drv (s : State) (code : Nat) (island : Nat) (source : Nat) (detail : List Byte) : (s.ledgerLimited code island source detail).drv = s.drv := ((keeps_State_ledgerLimited code island source detail rfl (Keeps.refl false 8388707 s)).frame .drv).resolve_left (by decide)
@[simp] theorem ledgerLimited_pwr (s : State) (code : Nat) (island : Nat) (source : Nat) (detail : List Byte) : (s.ledgerLimited code island source detail).pwr = s.pwr := ((keeps_State_ledgerLimited code island source detail rfl (Keeps.refl false 8388707 s)).frame .pwr).resolve_left (by decide)
@[simp] theorem ledgerLimited_nvm (s : State) (code : Nat) (island : Nat) (source : Nat) (detail : List Byte) : (s.ledgerLimited code island source detail).nvm = s.nvm := ((keeps_State_ledgerLimited code island source detail rfl (Keeps.refl false 8388707 s)).frame .nvm).resolve_left (by decide)
@[simp] theorem ledgerLimited_cht (s : State) (code : Nat) (island : Nat) (source : Nat) (detail : List Byte) : (s.ledgerLimited code island source detail).cht = s.cht := ((keeps_State_ledgerLimited code island source detail rfl (Keeps.refl false 8388707 s)).frame .cht).resolve_left (by decide)
@[simp] theorem ledgerLimited_grps (s : State) (code : Nat) (island : Nat) (source : Nat) (detail : List Byte) : (s.ledgerLimited code island source detail).grps = s.grps := ((keeps_State_ledgerLimited code island source detail rfl (Keeps.refl false 8388707 s)).frame .grps).resolve_left (by decide)
@[simp] theorem ledgerLimited_tly (s : State) (code : Nat) (island : Nat) (source : Nat) (detail : List Byte) : (s.ledgerLimited code island source detail).tly = s.tly := ((keeps_State_ledgerLimited code island source detail rfl (Keeps.refl false 8388707 s)).frame .tly).resolve_left (by decide)
@[simp] theorem ledgerLimited_tc (s : State) (code : Nat) (island : Nat) (source : Nat) (detail : List Byte) : (s.ledgerLimited code island source detail).tc = s.tc := ((keeps_State_ledgerLimited code island source detail rfl (Keeps.refl false 8388707 s)).frame .tc).resolve_left (by decide)
@[simp] theorem ledgerLimited_hp (s : State) (code : Nat) (island : Nat) (source : Nat) (detail : List Byte) : (s.ledgerLimited code island source detail).hp = s.hp := ((keeps_State_ledgerLimited code island source detail rfl (Keeps.refl false 8388707 s)).frame .hp).resolve_left (by decide)
@[simp] theorem ledgerLimited_slot (s : State) (code : Nat) (island : Nat) (source : Nat) (detail : List Byte) : (s.ledgerLimited code island source detail).slot = s.slot := ((keeps_State_ledgerLimited code island source detail rfl (Keeps.refl false 8388707 s)).frame .slot).resolve_left (by decide)
@[simp] theorem ledgerLimited_fw (s : State) (code : Nat) (island : Nat) (source : Nat) (detail : List Byte) : (s.ledgerLimited code island source detail).fw = s.fw := ((keeps_State_ledgerLimited code island source detail rfl (Keeps.refl false 8388707 s)).frame .fw).resolve_left (by decide)
@[simp] theorem ledgerLimited_mi (s : State) (code : Nat) (island : Nat) (source : Nat) (detail : List Byte) : (s.ledgerLimited code island source detail).mi = s.mi := ((keeps_State_ledgerLimited code island source detail rfl (Keeps.refl false 8388707 s)).frame .mi).resolve_left (by decide)
@[simp] theorem ledgerLimited_mem (s : State) (code : Nat) (island : Nat) (source : Nat) (detail : List Byte) : (s.ledgerLimited code island source detail).mem = s.mem := ((keeps_State_ledgerLimited code island source detail rfl (Keeps.refl false 8388707 s)).frame .mem).resolve_left (by decide)
@[simp] theorem ledgerLimited_poison (s : State) (code : Nat) (island : Nat) (source : Nat) (detail : List Byte) : (s.ledgerLimited code island source detail).poison = s.poison := ((keeps_State_ledgerLimited code island source detail rfl (Keeps.refl false 8388707 s)).frame .poison).resolve_left (by decide)
@[simp] theorem ledgerLimited_freeCtr (s : State) (code : Nat) (island : Nat) (source : Nat) (detail : List Byte) : (s.ledgerLimited code island source detail).freeCtr = s.freeCtr := ((keeps_State_ledgerLimited code island source detail rfl (Keeps.refl false 8388707 s)).frame .freeCtr).resolve_left (by decide)

@[simp] theorem bridgeFault_pat (s : State) (island : Nat) (cause : Nat) : (s.bridgeFault island cause).pat = s.pat := ((keeps_State_bridgeFault island cause rfl (Keeps.refl false 8388643 s)).frame .pat).resolve_left (by decide)
@[simp] theorem bridgeFault_svc (s : State) (island : Nat) (cause : Nat) : (s.bridgeFault island cause).svc = s.svc := ((keeps_State_bridgeFault island cause rfl (Keeps.refl false 8388643 s)).frame .svc).resolve_left (by decide)
@[simp] theorem bridgeFault_tasks (s : State) (island : Nat) (cause : Nat) : (s.bridgeFault island cause).tasks = s.tasks := ((keeps_State_bridgeFault island cause rfl (Keeps.refl false 8388643 s)).frame .tasks).resolve_left (by decide)
@[simp] theorem bridgeFault_led (s : State) (island : Nat) (cause : Nat) : (s.bridgeFault island cause).led = s.led := ((keeps_State_bridgeFault island cause rfl (Keeps.refl false 8388643 s)).frame .led).resolve_left (by decide)
@[simp] theorem bridgeFault_flm (s : State) (island : Nat) (cause : Nat) : (s.bridgeFault island cause).flm = s.flm := ((keeps_State_bridgeFault island cause rfl (Keeps.refl false 8388643 s)).frame .flm).resolve_left (by decide)
@[simp] theorem bridgeFault_fx (s : State) (island : Nat) (cause : Nat) : (s.bridgeFault island cause).fx = s.fx := ((keeps_State_bridgeFault island cause rfl (Keeps.refl false 8388643 s)).frame .fx).resolve_left (by decide)
@[simp] theorem bridgeFault_wsw (s : State) (island : Nat) (cause : Nat) : (s.bridgeFault island cause).wsw = s.wsw := ((keeps_State_bridgeFault island cause rfl (Keeps.refl false 8388643 s)).frame .wsw).resolve_left (by decide)
@[simp] theorem bridgeFault_drv (s : State) (island : Nat) (cause : Nat) : (s.bridgeFault island cause).drv = s.drv := ((keeps_State_bridgeFault island cause rfl (Keeps.refl false 8388643 s)).frame .drv).resolve_left (by decide)
@[simp] theorem bridgeFault_pwr (s : State) (island : Nat) (cause : Nat) : (s.bridgeFault island cause).pwr = s.pwr := ((keeps_State_bridgeFault island cause rfl (Keeps.refl false 8388643 s)).frame .pwr).resolve_left (by decide)
@[simp] theorem bridgeFault_nvm (s : State) (island : Nat) (cause : Nat) : (s.bridgeFault island cause).nvm = s.nvm := ((keeps_State_bridgeFault island cause rfl (Keeps.refl false 8388643 s)).frame .nvm).resolve_left (by decide)
@[simp] theorem bridgeFault_cht (s : State) (island : Nat) (cause : Nat) : (s.bridgeFault island cause).cht = s.cht := ((keeps_State_bridgeFault island cause rfl (Keeps.refl false 8388643 s)).frame .cht).resolve_left (by decide)
@[simp] theorem bridgeFault_grps (s : State) (island : Nat) (cause : Nat) : (s.bridgeFault island cause).grps = s.grps := ((keeps_State_bridgeFault island cause rfl (Keeps.refl false 8388643 s)).frame .grps).resolve_left (by decide)
@[simp] theorem bridgeFault_tly (s : State) (island : Nat) (cause : Nat) : (s.bridgeFault island cause).tly = s.tly := ((keeps_State_bridgeFault island cause rfl (Keeps.refl false 8388643 s)).frame .tly).resolve_left (by decide)
@[simp] theorem bridgeFault_tc (s : State) (island : Nat) (cause : Nat) : (s.bridgeFault island cause).tc = s.tc := ((keeps_State_bridgeFault island cause rfl (Keeps.refl false 8388643 s)).frame .tc).resolve_left (by decide)
@[simp] theorem bridgeFault_hp (s : State) (island : Nat) (cause : Nat) : (s.bridgeFault island cause).hp = s.hp := ((keeps_State_bridgeFault island cause rfl (Keeps.refl false 8388643 s)).frame .hp).resolve_left (by decide)
@[simp] theorem bridgeFault_slot (s : State) (island : Nat) (cause : Nat) : (s.bridgeFault island cause).slot = s.slot := ((keeps_State_bridgeFault island cause rfl (Keeps.refl false 8388643 s)).frame .slot).resolve_left (by decide)
@[simp] theorem bridgeFault_fw (s : State) (island : Nat) (cause : Nat) : (s.bridgeFault island cause).fw = s.fw := ((keeps_State_bridgeFault island cause rfl (Keeps.refl false 8388643 s)).frame .fw).resolve_left (by decide)
@[simp] theorem bridgeFault_mi (s : State) (island : Nat) (cause : Nat) : (s.bridgeFault island cause).mi = s.mi := ((keeps_State_bridgeFault island cause rfl (Keeps.refl false 8388643 s)).frame .mi).resolve_left (by decide)
@[simp] theorem bridgeFault_mem (s : State) (island : Nat) (cause : Nat) : (s.bridgeFault island cause).mem = s.mem := ((keeps_State_bridgeFault island cause rfl (Keeps.refl false 8388643 s)).frame .mem).resolve_left (by decide)
@[simp] theorem bridgeFault_poison (s : State) (island : Nat) (cause : Nat) : (s.bridgeFault island cause).poison = s.poison := ((keeps_State_bridgeFault island cause rfl (Keeps.refl false 8388643 s)).frame .poison).resolve_left (by decide)
@[simp] theorem bridgeFault_freeCtr (s : State) (island : Nat) (cause : Nat) : (s.bridgeFault island cause).freeCtr = s.freeCtr := ((keeps_State_bridgeFault island cause rfl (Keeps.refl false 8388643 s)).frame .freeCtr).resolve_left (by decide)

@[simp] theorem accessFault_pat (s : State) (island : Nat) (cause : Nat) : (s.accessFault island cause).pat = s.pat := ((keeps_State_accessFault island cause rfl (Keeps.refl false 8388707 s)).frame .pat).resolve_left (by decide)
@[simp] theorem accessFault_svc (s : State) (island : Nat) (cause : Nat) : (s.accessFault island cause).svc = s.svc := ((keeps_State_accessFault island cause rfl (Keeps.refl false 8388707 s)).frame .svc).resolve_left (by decide)
@[simp] theorem accessFault_tasks (s : State) (island : Nat) (cause : Nat) : (s.accessFault island cause).tasks = s.tasks := ((keeps_State_accessFault island cause rfl (Keeps.refl false 8388707 s)).frame .tasks).resolve_left (by decide)
@[simp] theorem accessFault_flm (s : State) (island : Nat) (cause : Nat) : (s.accessFault island cause).flm = s.flm := ((keeps_State_accessFault island cause rfl (Keeps.refl false 8388707 s)).frame .flm).resolve_left (by decide)
@[simp] theorem accessFault_fx (s : State) (island : Nat) (cause : Nat) : (s.accessFault island cause).fx = s.fx := ((keeps_State_accessFault island cause rfl (Keeps.refl false 8388707 s)).frame .fx).resolve_left (by decide)
@[simp] theorem accessFault_wsw (s : State) (island : Nat) (cause : Nat) : (s.accessFault island cause).wsw = s.wsw := ((keeps_State_accessFault island cause rfl (Keeps.refl false 8388707 s)).frame .wsw).resolve_left (by decide)
@[simp] theorem accessFault_drv (s : State) (island : Nat) (cause : Nat) : (s.accessFault island cause).drv = s.drv := ((keeps_State_accessFault island cause rfl (Keeps.refl false 8388707 s)).frame .drv).resolve_left (by decide)
@[simp] theorem accessFault_pwr (s : State) (island : Nat) (cause : Nat) : (s.accessFault island cause).pwr = s.pwr := ((keeps_State_accessFault island cause rfl (Keeps.refl false 8388707 s)).frame .pwr).resolve_left (by decide)
@[simp] theorem accessFault_nvm (s : State) (island : Nat) (cause : Nat) : (s.accessFault island cause).nvm = s.nvm := ((keeps_State_accessFault island cause rfl (Keeps.refl false 8388707 s)).frame .nvm).resolve_left (by decide)
@[simp] theorem accessFault_cht (s : State) (island : Nat) (cause : Nat) : (s.accessFault island cause).cht = s.cht := ((keeps_State_accessFault island cause rfl (Keeps.refl false 8388707 s)).frame .cht).resolve_left (by decide)
@[simp] theorem accessFault_grps (s : State) (island : Nat) (cause : Nat) : (s.accessFault island cause).grps = s.grps := ((keeps_State_accessFault island cause rfl (Keeps.refl false 8388707 s)).frame .grps).resolve_left (by decide)
@[simp] theorem accessFault_tly (s : State) (island : Nat) (cause : Nat) : (s.accessFault island cause).tly = s.tly := ((keeps_State_accessFault island cause rfl (Keeps.refl false 8388707 s)).frame .tly).resolve_left (by decide)
@[simp] theorem accessFault_tc (s : State) (island : Nat) (cause : Nat) : (s.accessFault island cause).tc = s.tc := ((keeps_State_accessFault island cause rfl (Keeps.refl false 8388707 s)).frame .tc).resolve_left (by decide)
@[simp] theorem accessFault_hp (s : State) (island : Nat) (cause : Nat) : (s.accessFault island cause).hp = s.hp := ((keeps_State_accessFault island cause rfl (Keeps.refl false 8388707 s)).frame .hp).resolve_left (by decide)
@[simp] theorem accessFault_slot (s : State) (island : Nat) (cause : Nat) : (s.accessFault island cause).slot = s.slot := ((keeps_State_accessFault island cause rfl (Keeps.refl false 8388707 s)).frame .slot).resolve_left (by decide)
@[simp] theorem accessFault_fw (s : State) (island : Nat) (cause : Nat) : (s.accessFault island cause).fw = s.fw := ((keeps_State_accessFault island cause rfl (Keeps.refl false 8388707 s)).frame .fw).resolve_left (by decide)
@[simp] theorem accessFault_mi (s : State) (island : Nat) (cause : Nat) : (s.accessFault island cause).mi = s.mi := ((keeps_State_accessFault island cause rfl (Keeps.refl false 8388707 s)).frame .mi).resolve_left (by decide)
@[simp] theorem accessFault_mem (s : State) (island : Nat) (cause : Nat) : (s.accessFault island cause).mem = s.mem := ((keeps_State_accessFault island cause rfl (Keeps.refl false 8388707 s)).frame .mem).resolve_left (by decide)
@[simp] theorem accessFault_poison (s : State) (island : Nat) (cause : Nat) : (s.accessFault island cause).poison = s.poison := ((keeps_State_accessFault island cause rfl (Keeps.refl false 8388707 s)).frame .poison).resolve_left (by decide)
@[simp] theorem accessFault_freeCtr (s : State) (island : Nat) (cause : Nat) : (s.accessFault island cause).freeCtr = s.freeCtr := ((keeps_State_accessFault island cause rfl (Keeps.refl false 8388707 s)).frame .freeCtr).resolve_left (by decide)

@[simp] theorem count_pat (s : State) (unit : Nat) (inst : Nat) (event : Nat) (weight : Nat) : (s.count unit inst event weight).pat = s.pat := ((keeps_State_count unit inst event weight rfl (Keeps.refl false 8388643 s)).frame .pat).resolve_left (by decide)
@[simp] theorem count_svc (s : State) (unit : Nat) (inst : Nat) (event : Nat) (weight : Nat) : (s.count unit inst event weight).svc = s.svc := ((keeps_State_count unit inst event weight rfl (Keeps.refl false 8388643 s)).frame .svc).resolve_left (by decide)
@[simp] theorem count_tasks (s : State) (unit : Nat) (inst : Nat) (event : Nat) (weight : Nat) : (s.count unit inst event weight).tasks = s.tasks := ((keeps_State_count unit inst event weight rfl (Keeps.refl false 8388643 s)).frame .tasks).resolve_left (by decide)
@[simp] theorem count_led (s : State) (unit : Nat) (inst : Nat) (event : Nat) (weight : Nat) : (s.count unit inst event weight).led = s.led := ((keeps_State_count unit inst event weight rfl (Keeps.refl false 8388643 s)).frame .led).resolve_left (by decide)
@[simp] theorem count_flm (s : State) (unit : Nat) (inst : Nat) (event : Nat) (weight : Nat) : (s.count unit inst event weight).flm = s.flm := ((keeps_State_count unit inst event weight rfl (Keeps.refl false 8388643 s)).frame .flm).resolve_left (by decide)
@[simp] theorem count_fx (s : State) (unit : Nat) (inst : Nat) (event : Nat) (weight : Nat) : (s.count unit inst event weight).fx = s.fx := ((keeps_State_count unit inst event weight rfl (Keeps.refl false 8388643 s)).frame .fx).resolve_left (by decide)
@[simp] theorem count_wsw (s : State) (unit : Nat) (inst : Nat) (event : Nat) (weight : Nat) : (s.count unit inst event weight).wsw = s.wsw := ((keeps_State_count unit inst event weight rfl (Keeps.refl false 8388643 s)).frame .wsw).resolve_left (by decide)
@[simp] theorem count_drv (s : State) (unit : Nat) (inst : Nat) (event : Nat) (weight : Nat) : (s.count unit inst event weight).drv = s.drv := ((keeps_State_count unit inst event weight rfl (Keeps.refl false 8388643 s)).frame .drv).resolve_left (by decide)
@[simp] theorem count_pwr (s : State) (unit : Nat) (inst : Nat) (event : Nat) (weight : Nat) : (s.count unit inst event weight).pwr = s.pwr := ((keeps_State_count unit inst event weight rfl (Keeps.refl false 8388643 s)).frame .pwr).resolve_left (by decide)
@[simp] theorem count_nvm (s : State) (unit : Nat) (inst : Nat) (event : Nat) (weight : Nat) : (s.count unit inst event weight).nvm = s.nvm := ((keeps_State_count unit inst event weight rfl (Keeps.refl false 8388643 s)).frame .nvm).resolve_left (by decide)
@[simp] theorem count_cht (s : State) (unit : Nat) (inst : Nat) (event : Nat) (weight : Nat) : (s.count unit inst event weight).cht = s.cht := ((keeps_State_count unit inst event weight rfl (Keeps.refl false 8388643 s)).frame .cht).resolve_left (by decide)
@[simp] theorem count_grps (s : State) (unit : Nat) (inst : Nat) (event : Nat) (weight : Nat) : (s.count unit inst event weight).grps = s.grps := ((keeps_State_count unit inst event weight rfl (Keeps.refl false 8388643 s)).frame .grps).resolve_left (by decide)
@[simp] theorem count_tly (s : State) (unit : Nat) (inst : Nat) (event : Nat) (weight : Nat) : (s.count unit inst event weight).tly = s.tly := ((keeps_State_count unit inst event weight rfl (Keeps.refl false 8388643 s)).frame .tly).resolve_left (by decide)
@[simp] theorem count_tc (s : State) (unit : Nat) (inst : Nat) (event : Nat) (weight : Nat) : (s.count unit inst event weight).tc = s.tc := ((keeps_State_count unit inst event weight rfl (Keeps.refl false 8388643 s)).frame .tc).resolve_left (by decide)
@[simp] theorem count_hp (s : State) (unit : Nat) (inst : Nat) (event : Nat) (weight : Nat) : (s.count unit inst event weight).hp = s.hp := ((keeps_State_count unit inst event weight rfl (Keeps.refl false 8388643 s)).frame .hp).resolve_left (by decide)
@[simp] theorem count_slot (s : State) (unit : Nat) (inst : Nat) (event : Nat) (weight : Nat) : (s.count unit inst event weight).slot = s.slot := ((keeps_State_count unit inst event weight rfl (Keeps.refl false 8388643 s)).frame .slot).resolve_left (by decide)
@[simp] theorem count_fw (s : State) (unit : Nat) (inst : Nat) (event : Nat) (weight : Nat) : (s.count unit inst event weight).fw = s.fw := ((keeps_State_count unit inst event weight rfl (Keeps.refl false 8388643 s)).frame .fw).resolve_left (by decide)
@[simp] theorem count_mi (s : State) (unit : Nat) (inst : Nat) (event : Nat) (weight : Nat) : (s.count unit inst event weight).mi = s.mi := ((keeps_State_count unit inst event weight rfl (Keeps.refl false 8388643 s)).frame .mi).resolve_left (by decide)
@[simp] theorem count_mem (s : State) (unit : Nat) (inst : Nat) (event : Nat) (weight : Nat) : (s.count unit inst event weight).mem = s.mem := ((keeps_State_count unit inst event weight rfl (Keeps.refl false 8388643 s)).frame .mem).resolve_left (by decide)
@[simp] theorem count_poison (s : State) (unit : Nat) (inst : Nat) (event : Nat) (weight : Nat) : (s.count unit inst event weight).poison = s.poison := ((keeps_State_count unit inst event weight rfl (Keeps.refl false 8388643 s)).frame .poison).resolve_left (by decide)
@[simp] theorem count_freeCtr (s : State) (unit : Nat) (inst : Nat) (event : Nat) (weight : Nat) : (s.count unit inst event weight).freeCtr = s.freeCtr := ((keeps_State_count unit inst event weight rfl (Keeps.refl false 8388643 s)).frame .freeCtr).resolve_left (by decide)

@[simp] theorem fold_regs (s : State) (kind : Nat) (key : Nat) (value : List Byte) : (s.fold kind key value).regs = s.regs := ((keeps_State_fold kind key value rfl (Keeps.refl false 512 s)).frame .regs).resolve_left (by decide)
@[simp] theorem fold_dev (s : State) (kind : Nat) (key : Nat) (value : List Byte) : (s.fold kind key value).dev = s.dev := ((keeps_State_fold kind key value rfl (Keeps.refl false 512 s)).frame .dev).resolve_left (by decide)
@[simp] theorem fold_pat (s : State) (kind : Nat) (key : Nat) (value : List Byte) : (s.fold kind key value).pat = s.pat := ((keeps_State_fold kind key value rfl (Keeps.refl false 512 s)).frame .pat).resolve_left (by decide)
@[simp] theorem fold_svc (s : State) (kind : Nat) (key : Nat) (value : List Byte) : (s.fold kind key value).svc = s.svc := ((keeps_State_fold kind key value rfl (Keeps.refl false 512 s)).frame .svc).resolve_left (by decide)
@[simp] theorem fold_tasks (s : State) (kind : Nat) (key : Nat) (value : List Byte) : (s.fold kind key value).tasks = s.tasks := ((keeps_State_fold kind key value rfl (Keeps.refl false 512 s)).frame .tasks).resolve_left (by decide)
@[simp] theorem fold_eng (s : State) (kind : Nat) (key : Nat) (value : List Byte) : (s.fold kind key value).eng = s.eng := ((keeps_State_fold kind key value rfl (Keeps.refl false 512 s)).frame .eng).resolve_left (by decide)
@[simp] theorem fold_led (s : State) (kind : Nat) (key : Nat) (value : List Byte) : (s.fold kind key value).led = s.led := ((keeps_State_fold kind key value rfl (Keeps.refl false 512 s)).frame .led).resolve_left (by decide)
@[simp] theorem fold_flm (s : State) (kind : Nat) (key : Nat) (value : List Byte) : (s.fold kind key value).flm = s.flm := ((keeps_State_fold kind key value rfl (Keeps.refl false 512 s)).frame .flm).resolve_left (by decide)
@[simp] theorem fold_fx (s : State) (kind : Nat) (key : Nat) (value : List Byte) : (s.fold kind key value).fx = s.fx := ((keeps_State_fold kind key value rfl (Keeps.refl false 512 s)).frame .fx).resolve_left (by decide)
@[simp] theorem fold_drv (s : State) (kind : Nat) (key : Nat) (value : List Byte) : (s.fold kind key value).drv = s.drv := ((keeps_State_fold kind key value rfl (Keeps.refl false 512 s)).frame .drv).resolve_left (by decide)
@[simp] theorem fold_pwr (s : State) (kind : Nat) (key : Nat) (value : List Byte) : (s.fold kind key value).pwr = s.pwr := ((keeps_State_fold kind key value rfl (Keeps.refl false 512 s)).frame .pwr).resolve_left (by decide)
@[simp] theorem fold_nvm (s : State) (kind : Nat) (key : Nat) (value : List Byte) : (s.fold kind key value).nvm = s.nvm := ((keeps_State_fold kind key value rfl (Keeps.refl false 512 s)).frame .nvm).resolve_left (by decide)
@[simp] theorem fold_cht (s : State) (kind : Nat) (key : Nat) (value : List Byte) : (s.fold kind key value).cht = s.cht := ((keeps_State_fold kind key value rfl (Keeps.refl false 512 s)).frame .cht).resolve_left (by decide)
@[simp] theorem fold_grps (s : State) (kind : Nat) (key : Nat) (value : List Byte) : (s.fold kind key value).grps = s.grps := ((keeps_State_fold kind key value rfl (Keeps.refl false 512 s)).frame .grps).resolve_left (by decide)
@[simp] theorem fold_tly (s : State) (kind : Nat) (key : Nat) (value : List Byte) : (s.fold kind key value).tly = s.tly := ((keeps_State_fold kind key value rfl (Keeps.refl false 512 s)).frame .tly).resolve_left (by decide)
@[simp] theorem fold_tc (s : State) (kind : Nat) (key : Nat) (value : List Byte) : (s.fold kind key value).tc = s.tc := ((keeps_State_fold kind key value rfl (Keeps.refl false 512 s)).frame .tc).resolve_left (by decide)
@[simp] theorem fold_hp (s : State) (kind : Nat) (key : Nat) (value : List Byte) : (s.fold kind key value).hp = s.hp := ((keeps_State_fold kind key value rfl (Keeps.refl false 512 s)).frame .hp).resolve_left (by decide)
@[simp] theorem fold_slot (s : State) (kind : Nat) (key : Nat) (value : List Byte) : (s.fold kind key value).slot = s.slot := ((keeps_State_fold kind key value rfl (Keeps.refl false 512 s)).frame .slot).resolve_left (by decide)
@[simp] theorem fold_fw (s : State) (kind : Nat) (key : Nat) (value : List Byte) : (s.fold kind key value).fw = s.fw := ((keeps_State_fold kind key value rfl (Keeps.refl false 512 s)).frame .fw).resolve_left (by decide)
@[simp] theorem fold_mi (s : State) (kind : Nat) (key : Nat) (value : List Byte) : (s.fold kind key value).mi = s.mi := ((keeps_State_fold kind key value rfl (Keeps.refl false 512 s)).frame .mi).resolve_left (by decide)
@[simp] theorem fold_mem (s : State) (kind : Nat) (key : Nat) (value : List Byte) : (s.fold kind key value).mem = s.mem := ((keeps_State_fold kind key value rfl (Keeps.refl false 512 s)).frame .mem).resolve_left (by decide)
@[simp] theorem fold_poison (s : State) (kind : Nat) (key : Nat) (value : List Byte) : (s.fold kind key value).poison = s.poison := ((keeps_State_fold kind key value rfl (Keeps.refl false 512 s)).frame .poison).resolve_left (by decide)
@[simp] theorem fold_out (s : State) (kind : Nat) (key : Nat) (value : List Byte) : (s.fold kind key value).out = s.out := ((keeps_State_fold kind key value rfl (Keeps.refl false 512 s)).frame .out).resolve_left (by decide)
@[simp] theorem fold_freeCtr (s : State) (kind : Nat) (key : Nat) (value : List Byte) : (s.fold kind key value).freeCtr = s.freeCtr := ((keeps_State_fold kind key value rfl (Keeps.refl false 512 s)).frame .freeCtr).resolve_left (by decide)

@[simp] theorem perform_pat (s : State) (side : OutSide) (acks : Bool) (o : Out) : (s.perform side acks o).pat = s.pat := ((keeps_State_perform side acks o rfl (Keeps.refl false 8454691 s)).frame .pat).resolve_left (by decide)
@[simp] theorem perform_svc (s : State) (side : OutSide) (acks : Bool) (o : Out) : (s.perform side acks o).svc = s.svc := ((keeps_State_perform side acks o rfl (Keeps.refl false 8454691 s)).frame .svc).resolve_left (by decide)
@[simp] theorem perform_tasks (s : State) (side : OutSide) (acks : Bool) (o : Out) : (s.perform side acks o).tasks = s.tasks := ((keeps_State_perform side acks o rfl (Keeps.refl false 8454691 s)).frame .tasks).resolve_left (by decide)
@[simp] theorem perform_led (s : State) (side : OutSide) (acks : Bool) (o : Out) : (s.perform side acks o).led = s.led := ((keeps_State_perform side acks o rfl (Keeps.refl false 8454691 s)).frame .led).resolve_left (by decide)
@[simp] theorem perform_flm (s : State) (side : OutSide) (acks : Bool) (o : Out) : (s.perform side acks o).flm = s.flm := ((keeps_State_perform side acks o rfl (Keeps.refl false 8454691 s)).frame .flm).resolve_left (by decide)
@[simp] theorem perform_fx (s : State) (side : OutSide) (acks : Bool) (o : Out) : (s.perform side acks o).fx = s.fx := ((keeps_State_perform side acks o rfl (Keeps.refl false 8454691 s)).frame .fx).resolve_left (by decide)
@[simp] theorem perform_drv (s : State) (side : OutSide) (acks : Bool) (o : Out) : (s.perform side acks o).drv = s.drv := ((keeps_State_perform side acks o rfl (Keeps.refl false 8454691 s)).frame .drv).resolve_left (by decide)
@[simp] theorem perform_pwr (s : State) (side : OutSide) (acks : Bool) (o : Out) : (s.perform side acks o).pwr = s.pwr := ((keeps_State_perform side acks o rfl (Keeps.refl false 8454691 s)).frame .pwr).resolve_left (by decide)
@[simp] theorem perform_nvm (s : State) (side : OutSide) (acks : Bool) (o : Out) : (s.perform side acks o).nvm = s.nvm := ((keeps_State_perform side acks o rfl (Keeps.refl false 8454691 s)).frame .nvm).resolve_left (by decide)
@[simp] theorem perform_cht (s : State) (side : OutSide) (acks : Bool) (o : Out) : (s.perform side acks o).cht = s.cht := ((keeps_State_perform side acks o rfl (Keeps.refl false 8454691 s)).frame .cht).resolve_left (by decide)
@[simp] theorem perform_grps (s : State) (side : OutSide) (acks : Bool) (o : Out) : (s.perform side acks o).grps = s.grps := ((keeps_State_perform side acks o rfl (Keeps.refl false 8454691 s)).frame .grps).resolve_left (by decide)
@[simp] theorem perform_tly (s : State) (side : OutSide) (acks : Bool) (o : Out) : (s.perform side acks o).tly = s.tly := ((keeps_State_perform side acks o rfl (Keeps.refl false 8454691 s)).frame .tly).resolve_left (by decide)
@[simp] theorem perform_hp (s : State) (side : OutSide) (acks : Bool) (o : Out) : (s.perform side acks o).hp = s.hp := ((keeps_State_perform side acks o rfl (Keeps.refl false 8454691 s)).frame .hp).resolve_left (by decide)
@[simp] theorem perform_slot (s : State) (side : OutSide) (acks : Bool) (o : Out) : (s.perform side acks o).slot = s.slot := ((keeps_State_perform side acks o rfl (Keeps.refl false 8454691 s)).frame .slot).resolve_left (by decide)
@[simp] theorem perform_fw (s : State) (side : OutSide) (acks : Bool) (o : Out) : (s.perform side acks o).fw = s.fw := ((keeps_State_perform side acks o rfl (Keeps.refl false 8454691 s)).frame .fw).resolve_left (by decide)
@[simp] theorem perform_mi (s : State) (side : OutSide) (acks : Bool) (o : Out) : (s.perform side acks o).mi = s.mi := ((keeps_State_perform side acks o rfl (Keeps.refl false 8454691 s)).frame .mi).resolve_left (by decide)
@[simp] theorem perform_mem (s : State) (side : OutSide) (acks : Bool) (o : Out) : (s.perform side acks o).mem = s.mem := ((keeps_State_perform side acks o rfl (Keeps.refl false 8454691 s)).frame .mem).resolve_left (by decide)
@[simp] theorem perform_poison (s : State) (side : OutSide) (acks : Bool) (o : Out) : (s.perform side acks o).poison = s.poison := ((keeps_State_perform side acks o rfl (Keeps.refl false 8454691 s)).frame .poison).resolve_left (by decide)
@[simp] theorem perform_freeCtr (s : State) (side : OutSide) (acks : Bool) (o : Out) : (s.perform side acks o).freeCtr = s.freeCtr := ((keeps_State_perform side acks o rfl (Keeps.refl false 8454691 s)).frame .freeCtr).resolve_left (by decide)

@[simp] theorem release_pat (s : State) (o : Out) : (s.release o).pat = s.pat := ((keeps_State_release o rfl (Keeps.refl false 8454179 s)).frame .pat).resolve_left (by decide)
@[simp] theorem release_svc (s : State) (o : Out) : (s.release o).svc = s.svc := ((keeps_State_release o rfl (Keeps.refl false 8454179 s)).frame .svc).resolve_left (by decide)
@[simp] theorem release_tasks (s : State) (o : Out) : (s.release o).tasks = s.tasks := ((keeps_State_release o rfl (Keeps.refl false 8454179 s)).frame .tasks).resolve_left (by decide)
@[simp] theorem release_led (s : State) (o : Out) : (s.release o).led = s.led := ((keeps_State_release o rfl (Keeps.refl false 8454179 s)).frame .led).resolve_left (by decide)
@[simp] theorem release_flm (s : State) (o : Out) : (s.release o).flm = s.flm := ((keeps_State_release o rfl (Keeps.refl false 8454179 s)).frame .flm).resolve_left (by decide)
@[simp] theorem release_fx (s : State) (o : Out) : (s.release o).fx = s.fx := ((keeps_State_release o rfl (Keeps.refl false 8454179 s)).frame .fx).resolve_left (by decide)
@[simp] theorem release_wsw (s : State) (o : Out) : (s.release o).wsw = s.wsw := ((keeps_State_release o rfl (Keeps.refl false 8454179 s)).frame .wsw).resolve_left (by decide)
@[simp] theorem release_drv (s : State) (o : Out) : (s.release o).drv = s.drv := ((keeps_State_release o rfl (Keeps.refl false 8454179 s)).frame .drv).resolve_left (by decide)
@[simp] theorem release_pwr (s : State) (o : Out) : (s.release o).pwr = s.pwr := ((keeps_State_release o rfl (Keeps.refl false 8454179 s)).frame .pwr).resolve_left (by decide)
@[simp] theorem release_nvm (s : State) (o : Out) : (s.release o).nvm = s.nvm := ((keeps_State_release o rfl (Keeps.refl false 8454179 s)).frame .nvm).resolve_left (by decide)
@[simp] theorem release_cht (s : State) (o : Out) : (s.release o).cht = s.cht := ((keeps_State_release o rfl (Keeps.refl false 8454179 s)).frame .cht).resolve_left (by decide)
@[simp] theorem release_grps (s : State) (o : Out) : (s.release o).grps = s.grps := ((keeps_State_release o rfl (Keeps.refl false 8454179 s)).frame .grps).resolve_left (by decide)
@[simp] theorem release_tly (s : State) (o : Out) : (s.release o).tly = s.tly := ((keeps_State_release o rfl (Keeps.refl false 8454179 s)).frame .tly).resolve_left (by decide)
@[simp] theorem release_hp (s : State) (o : Out) : (s.release o).hp = s.hp := ((keeps_State_release o rfl (Keeps.refl false 8454179 s)).frame .hp).resolve_left (by decide)
@[simp] theorem release_slot (s : State) (o : Out) : (s.release o).slot = s.slot := ((keeps_State_release o rfl (Keeps.refl false 8454179 s)).frame .slot).resolve_left (by decide)
@[simp] theorem release_fw (s : State) (o : Out) : (s.release o).fw = s.fw := ((keeps_State_release o rfl (Keeps.refl false 8454179 s)).frame .fw).resolve_left (by decide)
@[simp] theorem release_mi (s : State) (o : Out) : (s.release o).mi = s.mi := ((keeps_State_release o rfl (Keeps.refl false 8454179 s)).frame .mi).resolve_left (by decide)
@[simp] theorem release_mem (s : State) (o : Out) : (s.release o).mem = s.mem := ((keeps_State_release o rfl (Keeps.refl false 8454179 s)).frame .mem).resolve_left (by decide)
@[simp] theorem release_poison (s : State) (o : Out) : (s.release o).poison = s.poison := ((keeps_State_release o rfl (Keeps.refl false 8454179 s)).frame .poison).resolve_left (by decide)
@[simp] theorem release_freeCtr (s : State) (o : Out) : (s.release o).freeCtr = s.freeCtr := ((keeps_State_release o rfl (Keeps.refl false 8454179 s)).frame .freeCtr).resolve_left (by decide)

@[simp] theorem observe_pat (s : State) (i : Input) : (s.observe i).pat = s.pat := ((keeps_State_observe i rfl (Keeps.refl false 8389155 s)).frame .pat).resolve_left (by decide)
@[simp] theorem observe_svc (s : State) (i : Input) : (s.observe i).svc = s.svc := ((keeps_State_observe i rfl (Keeps.refl false 8389155 s)).frame .svc).resolve_left (by decide)
@[simp] theorem observe_tasks (s : State) (i : Input) : (s.observe i).tasks = s.tasks := ((keeps_State_observe i rfl (Keeps.refl false 8389155 s)).frame .tasks).resolve_left (by decide)
@[simp] theorem observe_led (s : State) (i : Input) : (s.observe i).led = s.led := ((keeps_State_observe i rfl (Keeps.refl false 8389155 s)).frame .led).resolve_left (by decide)
@[simp] theorem observe_flm (s : State) (i : Input) : (s.observe i).flm = s.flm := ((keeps_State_observe i rfl (Keeps.refl false 8389155 s)).frame .flm).resolve_left (by decide)
@[simp] theorem observe_fx (s : State) (i : Input) : (s.observe i).fx = s.fx := ((keeps_State_observe i rfl (Keeps.refl false 8389155 s)).frame .fx).resolve_left (by decide)
@[simp] theorem observe_drv (s : State) (i : Input) : (s.observe i).drv = s.drv := ((keeps_State_observe i rfl (Keeps.refl false 8389155 s)).frame .drv).resolve_left (by decide)
@[simp] theorem observe_pwr (s : State) (i : Input) : (s.observe i).pwr = s.pwr := ((keeps_State_observe i rfl (Keeps.refl false 8389155 s)).frame .pwr).resolve_left (by decide)
@[simp] theorem observe_nvm (s : State) (i : Input) : (s.observe i).nvm = s.nvm := ((keeps_State_observe i rfl (Keeps.refl false 8389155 s)).frame .nvm).resolve_left (by decide)
@[simp] theorem observe_cht (s : State) (i : Input) : (s.observe i).cht = s.cht := ((keeps_State_observe i rfl (Keeps.refl false 8389155 s)).frame .cht).resolve_left (by decide)
@[simp] theorem observe_grps (s : State) (i : Input) : (s.observe i).grps = s.grps := ((keeps_State_observe i rfl (Keeps.refl false 8389155 s)).frame .grps).resolve_left (by decide)
@[simp] theorem observe_tly (s : State) (i : Input) : (s.observe i).tly = s.tly := ((keeps_State_observe i rfl (Keeps.refl false 8389155 s)).frame .tly).resolve_left (by decide)
@[simp] theorem observe_tc (s : State) (i : Input) : (s.observe i).tc = s.tc := ((keeps_State_observe i rfl (Keeps.refl false 8389155 s)).frame .tc).resolve_left (by decide)
@[simp] theorem observe_hp (s : State) (i : Input) : (s.observe i).hp = s.hp := ((keeps_State_observe i rfl (Keeps.refl false 8389155 s)).frame .hp).resolve_left (by decide)
@[simp] theorem observe_slot (s : State) (i : Input) : (s.observe i).slot = s.slot := ((keeps_State_observe i rfl (Keeps.refl false 8389155 s)).frame .slot).resolve_left (by decide)
@[simp] theorem observe_fw (s : State) (i : Input) : (s.observe i).fw = s.fw := ((keeps_State_observe i rfl (Keeps.refl false 8389155 s)).frame .fw).resolve_left (by decide)
@[simp] theorem observe_mi (s : State) (i : Input) : (s.observe i).mi = s.mi := ((keeps_State_observe i rfl (Keeps.refl false 8389155 s)).frame .mi).resolve_left (by decide)
@[simp] theorem observe_mem (s : State) (i : Input) : (s.observe i).mem = s.mem := ((keeps_State_observe i rfl (Keeps.refl false 8389155 s)).frame .mem).resolve_left (by decide)
@[simp] theorem observe_poison (s : State) (i : Input) : (s.observe i).poison = s.poison := ((keeps_State_observe i rfl (Keeps.refl false 8389155 s)).frame .poison).resolve_left (by decide)
@[simp] theorem observe_freeCtr (s : State) (i : Input) : (s.observe i).freeCtr = s.freeCtr := ((keeps_State_observe i rfl (Keeps.refl false 8389155 s)).frame .freeCtr).resolve_left (by decide)

@[simp] theorem putLink_pat (s : State) (lseq : Nat) (replay : Bool) (nak : Bool) (b : LinkBody) : (s.putLink lseq replay nak b).pat = s.pat := ((keeps_State_putLink lseq replay nak b rfl (Keeps.refl false 8389155 s)).frame .pat).resolve_left (by decide)
@[simp] theorem putLink_svc (s : State) (lseq : Nat) (replay : Bool) (nak : Bool) (b : LinkBody) : (s.putLink lseq replay nak b).svc = s.svc := ((keeps_State_putLink lseq replay nak b rfl (Keeps.refl false 8389155 s)).frame .svc).resolve_left (by decide)
@[simp] theorem putLink_tasks (s : State) (lseq : Nat) (replay : Bool) (nak : Bool) (b : LinkBody) : (s.putLink lseq replay nak b).tasks = s.tasks := ((keeps_State_putLink lseq replay nak b rfl (Keeps.refl false 8389155 s)).frame .tasks).resolve_left (by decide)
@[simp] theorem putLink_led (s : State) (lseq : Nat) (replay : Bool) (nak : Bool) (b : LinkBody) : (s.putLink lseq replay nak b).led = s.led := ((keeps_State_putLink lseq replay nak b rfl (Keeps.refl false 8389155 s)).frame .led).resolve_left (by decide)
@[simp] theorem putLink_flm (s : State) (lseq : Nat) (replay : Bool) (nak : Bool) (b : LinkBody) : (s.putLink lseq replay nak b).flm = s.flm := ((keeps_State_putLink lseq replay nak b rfl (Keeps.refl false 8389155 s)).frame .flm).resolve_left (by decide)
@[simp] theorem putLink_fx (s : State) (lseq : Nat) (replay : Bool) (nak : Bool) (b : LinkBody) : (s.putLink lseq replay nak b).fx = s.fx := ((keeps_State_putLink lseq replay nak b rfl (Keeps.refl false 8389155 s)).frame .fx).resolve_left (by decide)
@[simp] theorem putLink_drv (s : State) (lseq : Nat) (replay : Bool) (nak : Bool) (b : LinkBody) : (s.putLink lseq replay nak b).drv = s.drv := ((keeps_State_putLink lseq replay nak b rfl (Keeps.refl false 8389155 s)).frame .drv).resolve_left (by decide)
@[simp] theorem putLink_pwr (s : State) (lseq : Nat) (replay : Bool) (nak : Bool) (b : LinkBody) : (s.putLink lseq replay nak b).pwr = s.pwr := ((keeps_State_putLink lseq replay nak b rfl (Keeps.refl false 8389155 s)).frame .pwr).resolve_left (by decide)
@[simp] theorem putLink_nvm (s : State) (lseq : Nat) (replay : Bool) (nak : Bool) (b : LinkBody) : (s.putLink lseq replay nak b).nvm = s.nvm := ((keeps_State_putLink lseq replay nak b rfl (Keeps.refl false 8389155 s)).frame .nvm).resolve_left (by decide)
@[simp] theorem putLink_cht (s : State) (lseq : Nat) (replay : Bool) (nak : Bool) (b : LinkBody) : (s.putLink lseq replay nak b).cht = s.cht := ((keeps_State_putLink lseq replay nak b rfl (Keeps.refl false 8389155 s)).frame .cht).resolve_left (by decide)
@[simp] theorem putLink_grps (s : State) (lseq : Nat) (replay : Bool) (nak : Bool) (b : LinkBody) : (s.putLink lseq replay nak b).grps = s.grps := ((keeps_State_putLink lseq replay nak b rfl (Keeps.refl false 8389155 s)).frame .grps).resolve_left (by decide)
@[simp] theorem putLink_tly (s : State) (lseq : Nat) (replay : Bool) (nak : Bool) (b : LinkBody) : (s.putLink lseq replay nak b).tly = s.tly := ((keeps_State_putLink lseq replay nak b rfl (Keeps.refl false 8389155 s)).frame .tly).resolve_left (by decide)
@[simp] theorem putLink_tc (s : State) (lseq : Nat) (replay : Bool) (nak : Bool) (b : LinkBody) : (s.putLink lseq replay nak b).tc = s.tc := ((keeps_State_putLink lseq replay nak b rfl (Keeps.refl false 8389155 s)).frame .tc).resolve_left (by decide)
@[simp] theorem putLink_hp (s : State) (lseq : Nat) (replay : Bool) (nak : Bool) (b : LinkBody) : (s.putLink lseq replay nak b).hp = s.hp := ((keeps_State_putLink lseq replay nak b rfl (Keeps.refl false 8389155 s)).frame .hp).resolve_left (by decide)
@[simp] theorem putLink_slot (s : State) (lseq : Nat) (replay : Bool) (nak : Bool) (b : LinkBody) : (s.putLink lseq replay nak b).slot = s.slot := ((keeps_State_putLink lseq replay nak b rfl (Keeps.refl false 8389155 s)).frame .slot).resolve_left (by decide)
@[simp] theorem putLink_fw (s : State) (lseq : Nat) (replay : Bool) (nak : Bool) (b : LinkBody) : (s.putLink lseq replay nak b).fw = s.fw := ((keeps_State_putLink lseq replay nak b rfl (Keeps.refl false 8389155 s)).frame .fw).resolve_left (by decide)
@[simp] theorem putLink_mi (s : State) (lseq : Nat) (replay : Bool) (nak : Bool) (b : LinkBody) : (s.putLink lseq replay nak b).mi = s.mi := ((keeps_State_putLink lseq replay nak b rfl (Keeps.refl false 8389155 s)).frame .mi).resolve_left (by decide)
@[simp] theorem putLink_mem (s : State) (lseq : Nat) (replay : Bool) (nak : Bool) (b : LinkBody) : (s.putLink lseq replay nak b).mem = s.mem := ((keeps_State_putLink lseq replay nak b rfl (Keeps.refl false 8389155 s)).frame .mem).resolve_left (by decide)
@[simp] theorem putLink_poison (s : State) (lseq : Nat) (replay : Bool) (nak : Bool) (b : LinkBody) : (s.putLink lseq replay nak b).poison = s.poison := ((keeps_State_putLink lseq replay nak b rfl (Keeps.refl false 8389155 s)).frame .poison).resolve_left (by decide)
@[simp] theorem putLink_freeCtr (s : State) (lseq : Nat) (replay : Bool) (nak : Bool) (b : LinkBody) : (s.putLink lseq replay nak b).freeCtr = s.freeCtr := ((keeps_State_putLink lseq replay nak b rfl (Keeps.refl false 8389155 s)).frame .freeCtr).resolve_left (by decide)

@[simp] theorem sendLink_pat (s : State) (b : LinkBody) : (s.sendLink b).pat = s.pat := ((keeps_State_sendLink b rfl (Keeps.refl false 8389155 s)).frame .pat).resolve_left (by decide)
@[simp] theorem sendLink_svc (s : State) (b : LinkBody) : (s.sendLink b).svc = s.svc := ((keeps_State_sendLink b rfl (Keeps.refl false 8389155 s)).frame .svc).resolve_left (by decide)
@[simp] theorem sendLink_tasks (s : State) (b : LinkBody) : (s.sendLink b).tasks = s.tasks := ((keeps_State_sendLink b rfl (Keeps.refl false 8389155 s)).frame .tasks).resolve_left (by decide)
@[simp] theorem sendLink_led (s : State) (b : LinkBody) : (s.sendLink b).led = s.led := ((keeps_State_sendLink b rfl (Keeps.refl false 8389155 s)).frame .led).resolve_left (by decide)
@[simp] theorem sendLink_flm (s : State) (b : LinkBody) : (s.sendLink b).flm = s.flm := ((keeps_State_sendLink b rfl (Keeps.refl false 8389155 s)).frame .flm).resolve_left (by decide)
@[simp] theorem sendLink_fx (s : State) (b : LinkBody) : (s.sendLink b).fx = s.fx := ((keeps_State_sendLink b rfl (Keeps.refl false 8389155 s)).frame .fx).resolve_left (by decide)
@[simp] theorem sendLink_drv (s : State) (b : LinkBody) : (s.sendLink b).drv = s.drv := ((keeps_State_sendLink b rfl (Keeps.refl false 8389155 s)).frame .drv).resolve_left (by decide)
@[simp] theorem sendLink_pwr (s : State) (b : LinkBody) : (s.sendLink b).pwr = s.pwr := ((keeps_State_sendLink b rfl (Keeps.refl false 8389155 s)).frame .pwr).resolve_left (by decide)
@[simp] theorem sendLink_nvm (s : State) (b : LinkBody) : (s.sendLink b).nvm = s.nvm := ((keeps_State_sendLink b rfl (Keeps.refl false 8389155 s)).frame .nvm).resolve_left (by decide)
@[simp] theorem sendLink_cht (s : State) (b : LinkBody) : (s.sendLink b).cht = s.cht := ((keeps_State_sendLink b rfl (Keeps.refl false 8389155 s)).frame .cht).resolve_left (by decide)
@[simp] theorem sendLink_grps (s : State) (b : LinkBody) : (s.sendLink b).grps = s.grps := ((keeps_State_sendLink b rfl (Keeps.refl false 8389155 s)).frame .grps).resolve_left (by decide)
@[simp] theorem sendLink_tly (s : State) (b : LinkBody) : (s.sendLink b).tly = s.tly := ((keeps_State_sendLink b rfl (Keeps.refl false 8389155 s)).frame .tly).resolve_left (by decide)
@[simp] theorem sendLink_tc (s : State) (b : LinkBody) : (s.sendLink b).tc = s.tc := ((keeps_State_sendLink b rfl (Keeps.refl false 8389155 s)).frame .tc).resolve_left (by decide)
@[simp] theorem sendLink_hp (s : State) (b : LinkBody) : (s.sendLink b).hp = s.hp := ((keeps_State_sendLink b rfl (Keeps.refl false 8389155 s)).frame .hp).resolve_left (by decide)
@[simp] theorem sendLink_slot (s : State) (b : LinkBody) : (s.sendLink b).slot = s.slot := ((keeps_State_sendLink b rfl (Keeps.refl false 8389155 s)).frame .slot).resolve_left (by decide)
@[simp] theorem sendLink_fw (s : State) (b : LinkBody) : (s.sendLink b).fw = s.fw := ((keeps_State_sendLink b rfl (Keeps.refl false 8389155 s)).frame .fw).resolve_left (by decide)
@[simp] theorem sendLink_mi (s : State) (b : LinkBody) : (s.sendLink b).mi = s.mi := ((keeps_State_sendLink b rfl (Keeps.refl false 8389155 s)).frame .mi).resolve_left (by decide)
@[simp] theorem sendLink_mem (s : State) (b : LinkBody) : (s.sendLink b).mem = s.mem := ((keeps_State_sendLink b rfl (Keeps.refl false 8389155 s)).frame .mem).resolve_left (by decide)
@[simp] theorem sendLink_poison (s : State) (b : LinkBody) : (s.sendLink b).poison = s.poison := ((keeps_State_sendLink b rfl (Keeps.refl false 8389155 s)).frame .poison).resolve_left (by decide)
@[simp] theorem sendLink_freeCtr (s : State) (b : LinkBody) : (s.sendLink b).freeCtr = s.freeCtr := ((keeps_State_sendLink b rfl (Keeps.refl false 8389155 s)).frame .freeCtr).resolve_left (by decide)

@[simp] theorem sendInput_pat (s : State) (r : InputRec) : (s.sendInput r).pat = s.pat := ((keeps_State_sendInput r rfl (Keeps.refl false 8389155 s)).frame .pat).resolve_left (by decide)
@[simp] theorem sendInput_svc (s : State) (r : InputRec) : (s.sendInput r).svc = s.svc := ((keeps_State_sendInput r rfl (Keeps.refl false 8389155 s)).frame .svc).resolve_left (by decide)
@[simp] theorem sendInput_tasks (s : State) (r : InputRec) : (s.sendInput r).tasks = s.tasks := ((keeps_State_sendInput r rfl (Keeps.refl false 8389155 s)).frame .tasks).resolve_left (by decide)
@[simp] theorem sendInput_led (s : State) (r : InputRec) : (s.sendInput r).led = s.led := ((keeps_State_sendInput r rfl (Keeps.refl false 8389155 s)).frame .led).resolve_left (by decide)
@[simp] theorem sendInput_flm (s : State) (r : InputRec) : (s.sendInput r).flm = s.flm := ((keeps_State_sendInput r rfl (Keeps.refl false 8389155 s)).frame .flm).resolve_left (by decide)
@[simp] theorem sendInput_fx (s : State) (r : InputRec) : (s.sendInput r).fx = s.fx := ((keeps_State_sendInput r rfl (Keeps.refl false 8389155 s)).frame .fx).resolve_left (by decide)
@[simp] theorem sendInput_drv (s : State) (r : InputRec) : (s.sendInput r).drv = s.drv := ((keeps_State_sendInput r rfl (Keeps.refl false 8389155 s)).frame .drv).resolve_left (by decide)
@[simp] theorem sendInput_pwr (s : State) (r : InputRec) : (s.sendInput r).pwr = s.pwr := ((keeps_State_sendInput r rfl (Keeps.refl false 8389155 s)).frame .pwr).resolve_left (by decide)
@[simp] theorem sendInput_nvm (s : State) (r : InputRec) : (s.sendInput r).nvm = s.nvm := ((keeps_State_sendInput r rfl (Keeps.refl false 8389155 s)).frame .nvm).resolve_left (by decide)
@[simp] theorem sendInput_cht (s : State) (r : InputRec) : (s.sendInput r).cht = s.cht := ((keeps_State_sendInput r rfl (Keeps.refl false 8389155 s)).frame .cht).resolve_left (by decide)
@[simp] theorem sendInput_grps (s : State) (r : InputRec) : (s.sendInput r).grps = s.grps := ((keeps_State_sendInput r rfl (Keeps.refl false 8389155 s)).frame .grps).resolve_left (by decide)
@[simp] theorem sendInput_tly (s : State) (r : InputRec) : (s.sendInput r).tly = s.tly := ((keeps_State_sendInput r rfl (Keeps.refl false 8389155 s)).frame .tly).resolve_left (by decide)
@[simp] theorem sendInput_tc (s : State) (r : InputRec) : (s.sendInput r).tc = s.tc := ((keeps_State_sendInput r rfl (Keeps.refl false 8389155 s)).frame .tc).resolve_left (by decide)
@[simp] theorem sendInput_hp (s : State) (r : InputRec) : (s.sendInput r).hp = s.hp := ((keeps_State_sendInput r rfl (Keeps.refl false 8389155 s)).frame .hp).resolve_left (by decide)
@[simp] theorem sendInput_slot (s : State) (r : InputRec) : (s.sendInput r).slot = s.slot := ((keeps_State_sendInput r rfl (Keeps.refl false 8389155 s)).frame .slot).resolve_left (by decide)
@[simp] theorem sendInput_fw (s : State) (r : InputRec) : (s.sendInput r).fw = s.fw := ((keeps_State_sendInput r rfl (Keeps.refl false 8389155 s)).frame .fw).resolve_left (by decide)
@[simp] theorem sendInput_mi (s : State) (r : InputRec) : (s.sendInput r).mi = s.mi := ((keeps_State_sendInput r rfl (Keeps.refl false 8389155 s)).frame .mi).resolve_left (by decide)
@[simp] theorem sendInput_mem (s : State) (r : InputRec) : (s.sendInput r).mem = s.mem := ((keeps_State_sendInput r rfl (Keeps.refl false 8389155 s)).frame .mem).resolve_left (by decide)
@[simp] theorem sendInput_poison (s : State) (r : InputRec) : (s.sendInput r).poison = s.poison := ((keeps_State_sendInput r rfl (Keeps.refl false 8389155 s)).frame .poison).resolve_left (by decide)
@[simp] theorem sendInput_freeCtr (s : State) (r : InputRec) : (s.sendInput r).freeCtr = s.freeCtr := ((keeps_State_sendInput r rfl (Keeps.refl false 8389155 s)).frame .freeCtr).resolve_left (by decide)

@[simp] theorem number_pat (s : State) (sideB : Bool) (refOnly : Bool) (origin : Nat) (i : Input) : (s.number sideB refOnly origin i).pat = s.pat := ((keeps_State_number sideB refOnly origin i rfl (Keeps.refl false 8389155 s)).frame .pat).resolve_left (by decide)
@[simp] theorem number_svc (s : State) (sideB : Bool) (refOnly : Bool) (origin : Nat) (i : Input) : (s.number sideB refOnly origin i).svc = s.svc := ((keeps_State_number sideB refOnly origin i rfl (Keeps.refl false 8389155 s)).frame .svc).resolve_left (by decide)
@[simp] theorem number_tasks (s : State) (sideB : Bool) (refOnly : Bool) (origin : Nat) (i : Input) : (s.number sideB refOnly origin i).tasks = s.tasks := ((keeps_State_number sideB refOnly origin i rfl (Keeps.refl false 8389155 s)).frame .tasks).resolve_left (by decide)
@[simp] theorem number_led (s : State) (sideB : Bool) (refOnly : Bool) (origin : Nat) (i : Input) : (s.number sideB refOnly origin i).led = s.led := ((keeps_State_number sideB refOnly origin i rfl (Keeps.refl false 8389155 s)).frame .led).resolve_left (by decide)
@[simp] theorem number_flm (s : State) (sideB : Bool) (refOnly : Bool) (origin : Nat) (i : Input) : (s.number sideB refOnly origin i).flm = s.flm := ((keeps_State_number sideB refOnly origin i rfl (Keeps.refl false 8389155 s)).frame .flm).resolve_left (by decide)
@[simp] theorem number_fx (s : State) (sideB : Bool) (refOnly : Bool) (origin : Nat) (i : Input) : (s.number sideB refOnly origin i).fx = s.fx := ((keeps_State_number sideB refOnly origin i rfl (Keeps.refl false 8389155 s)).frame .fx).resolve_left (by decide)
@[simp] theorem number_drv (s : State) (sideB : Bool) (refOnly : Bool) (origin : Nat) (i : Input) : (s.number sideB refOnly origin i).drv = s.drv := ((keeps_State_number sideB refOnly origin i rfl (Keeps.refl false 8389155 s)).frame .drv).resolve_left (by decide)
@[simp] theorem number_pwr (s : State) (sideB : Bool) (refOnly : Bool) (origin : Nat) (i : Input) : (s.number sideB refOnly origin i).pwr = s.pwr := ((keeps_State_number sideB refOnly origin i rfl (Keeps.refl false 8389155 s)).frame .pwr).resolve_left (by decide)
@[simp] theorem number_nvm (s : State) (sideB : Bool) (refOnly : Bool) (origin : Nat) (i : Input) : (s.number sideB refOnly origin i).nvm = s.nvm := ((keeps_State_number sideB refOnly origin i rfl (Keeps.refl false 8389155 s)).frame .nvm).resolve_left (by decide)
@[simp] theorem number_cht (s : State) (sideB : Bool) (refOnly : Bool) (origin : Nat) (i : Input) : (s.number sideB refOnly origin i).cht = s.cht := ((keeps_State_number sideB refOnly origin i rfl (Keeps.refl false 8389155 s)).frame .cht).resolve_left (by decide)
@[simp] theorem number_grps (s : State) (sideB : Bool) (refOnly : Bool) (origin : Nat) (i : Input) : (s.number sideB refOnly origin i).grps = s.grps := ((keeps_State_number sideB refOnly origin i rfl (Keeps.refl false 8389155 s)).frame .grps).resolve_left (by decide)
@[simp] theorem number_tly (s : State) (sideB : Bool) (refOnly : Bool) (origin : Nat) (i : Input) : (s.number sideB refOnly origin i).tly = s.tly := ((keeps_State_number sideB refOnly origin i rfl (Keeps.refl false 8389155 s)).frame .tly).resolve_left (by decide)
@[simp] theorem number_tc (s : State) (sideB : Bool) (refOnly : Bool) (origin : Nat) (i : Input) : (s.number sideB refOnly origin i).tc = s.tc := ((keeps_State_number sideB refOnly origin i rfl (Keeps.refl false 8389155 s)).frame .tc).resolve_left (by decide)
@[simp] theorem number_hp (s : State) (sideB : Bool) (refOnly : Bool) (origin : Nat) (i : Input) : (s.number sideB refOnly origin i).hp = s.hp := ((keeps_State_number sideB refOnly origin i rfl (Keeps.refl false 8389155 s)).frame .hp).resolve_left (by decide)
@[simp] theorem number_slot (s : State) (sideB : Bool) (refOnly : Bool) (origin : Nat) (i : Input) : (s.number sideB refOnly origin i).slot = s.slot := ((keeps_State_number sideB refOnly origin i rfl (Keeps.refl false 8389155 s)).frame .slot).resolve_left (by decide)
@[simp] theorem number_fw (s : State) (sideB : Bool) (refOnly : Bool) (origin : Nat) (i : Input) : (s.number sideB refOnly origin i).fw = s.fw := ((keeps_State_number sideB refOnly origin i rfl (Keeps.refl false 8389155 s)).frame .fw).resolve_left (by decide)
@[simp] theorem number_mi (s : State) (sideB : Bool) (refOnly : Bool) (origin : Nat) (i : Input) : (s.number sideB refOnly origin i).mi = s.mi := ((keeps_State_number sideB refOnly origin i rfl (Keeps.refl false 8389155 s)).frame .mi).resolve_left (by decide)
@[simp] theorem number_mem (s : State) (sideB : Bool) (refOnly : Bool) (origin : Nat) (i : Input) : (s.number sideB refOnly origin i).mem = s.mem := ((keeps_State_number sideB refOnly origin i rfl (Keeps.refl false 8389155 s)).frame .mem).resolve_left (by decide)
@[simp] theorem number_poison (s : State) (sideB : Bool) (refOnly : Bool) (origin : Nat) (i : Input) : (s.number sideB refOnly origin i).poison = s.poison := ((keeps_State_number sideB refOnly origin i rfl (Keeps.refl false 8389155 s)).frame .poison).resolve_left (by decide)
@[simp] theorem number_freeCtr (s : State) (sideB : Bool) (refOnly : Bool) (origin : Nat) (i : Input) : (s.number sideB refOnly origin i).freeCtr = s.freeCtr := ((keeps_State_number sideB refOnly origin i rfl (Keeps.refl false 8389155 s)).frame .freeCtr).resolve_left (by decide)

@[simp] theorem setPort_regs (s : State) (n : Nat) (p : DrvPort) : (s.setPort n p).regs = s.regs := ((keeps_State_setPort n p rfl (Keeps.refl false 1024 s)).frame .regs).resolve_left (by decide)
@[simp] theorem setPort_dev (s : State) (n : Nat) (p : DrvPort) : (s.setPort n p).dev = s.dev := ((keeps_State_setPort n p rfl (Keeps.refl false 1024 s)).frame .dev).resolve_left (by decide)
@[simp] theorem setPort_pat (s : State) (n : Nat) (p : DrvPort) : (s.setPort n p).pat = s.pat := ((keeps_State_setPort n p rfl (Keeps.refl false 1024 s)).frame .pat).resolve_left (by decide)
@[simp] theorem setPort_svc (s : State) (n : Nat) (p : DrvPort) : (s.setPort n p).svc = s.svc := ((keeps_State_setPort n p rfl (Keeps.refl false 1024 s)).frame .svc).resolve_left (by decide)
@[simp] theorem setPort_tasks (s : State) (n : Nat) (p : DrvPort) : (s.setPort n p).tasks = s.tasks := ((keeps_State_setPort n p rfl (Keeps.refl false 1024 s)).frame .tasks).resolve_left (by decide)
@[simp] theorem setPort_eng (s : State) (n : Nat) (p : DrvPort) : (s.setPort n p).eng = s.eng := ((keeps_State_setPort n p rfl (Keeps.refl false 1024 s)).frame .eng).resolve_left (by decide)
@[simp] theorem setPort_led (s : State) (n : Nat) (p : DrvPort) : (s.setPort n p).led = s.led := ((keeps_State_setPort n p rfl (Keeps.refl false 1024 s)).frame .led).resolve_left (by decide)
@[simp] theorem setPort_flm (s : State) (n : Nat) (p : DrvPort) : (s.setPort n p).flm = s.flm := ((keeps_State_setPort n p rfl (Keeps.refl false 1024 s)).frame .flm).resolve_left (by decide)
@[simp] theorem setPort_fx (s : State) (n : Nat) (p : DrvPort) : (s.setPort n p).fx = s.fx := ((keeps_State_setPort n p rfl (Keeps.refl false 1024 s)).frame .fx).resolve_left (by decide)
@[simp] theorem setPort_wsw (s : State) (n : Nat) (p : DrvPort) : (s.setPort n p).wsw = s.wsw := ((keeps_State_setPort n p rfl (Keeps.refl false 1024 s)).frame .wsw).resolve_left (by decide)
@[simp] theorem setPort_pwr (s : State) (n : Nat) (p : DrvPort) : (s.setPort n p).pwr = s.pwr := ((keeps_State_setPort n p rfl (Keeps.refl false 1024 s)).frame .pwr).resolve_left (by decide)
@[simp] theorem setPort_nvm (s : State) (n : Nat) (p : DrvPort) : (s.setPort n p).nvm = s.nvm := ((keeps_State_setPort n p rfl (Keeps.refl false 1024 s)).frame .nvm).resolve_left (by decide)
@[simp] theorem setPort_cht (s : State) (n : Nat) (p : DrvPort) : (s.setPort n p).cht = s.cht := ((keeps_State_setPort n p rfl (Keeps.refl false 1024 s)).frame .cht).resolve_left (by decide)
@[simp] theorem setPort_grps (s : State) (n : Nat) (p : DrvPort) : (s.setPort n p).grps = s.grps := ((keeps_State_setPort n p rfl (Keeps.refl false 1024 s)).frame .grps).resolve_left (by decide)
@[simp] theorem setPort_tly (s : State) (n : Nat) (p : DrvPort) : (s.setPort n p).tly = s.tly := ((keeps_State_setPort n p rfl (Keeps.refl false 1024 s)).frame .tly).resolve_left (by decide)
@[simp] theorem setPort_tc (s : State) (n : Nat) (p : DrvPort) : (s.setPort n p).tc = s.tc := ((keeps_State_setPort n p rfl (Keeps.refl false 1024 s)).frame .tc).resolve_left (by decide)
@[simp] theorem setPort_hp (s : State) (n : Nat) (p : DrvPort) : (s.setPort n p).hp = s.hp := ((keeps_State_setPort n p rfl (Keeps.refl false 1024 s)).frame .hp).resolve_left (by decide)
@[simp] theorem setPort_slot (s : State) (n : Nat) (p : DrvPort) : (s.setPort n p).slot = s.slot := ((keeps_State_setPort n p rfl (Keeps.refl false 1024 s)).frame .slot).resolve_left (by decide)
@[simp] theorem setPort_fw (s : State) (n : Nat) (p : DrvPort) : (s.setPort n p).fw = s.fw := ((keeps_State_setPort n p rfl (Keeps.refl false 1024 s)).frame .fw).resolve_left (by decide)
@[simp] theorem setPort_mi (s : State) (n : Nat) (p : DrvPort) : (s.setPort n p).mi = s.mi := ((keeps_State_setPort n p rfl (Keeps.refl false 1024 s)).frame .mi).resolve_left (by decide)
@[simp] theorem setPort_mem (s : State) (n : Nat) (p : DrvPort) : (s.setPort n p).mem = s.mem := ((keeps_State_setPort n p rfl (Keeps.refl false 1024 s)).frame .mem).resolve_left (by decide)
@[simp] theorem setPort_poison (s : State) (n : Nat) (p : DrvPort) : (s.setPort n p).poison = s.poison := ((keeps_State_setPort n p rfl (Keeps.refl false 1024 s)).frame .poison).resolve_left (by decide)
@[simp] theorem setPort_out (s : State) (n : Nat) (p : DrvPort) : (s.setPort n p).out = s.out := ((keeps_State_setPort n p rfl (Keeps.refl false 1024 s)).frame .out).resolve_left (by decide)
@[simp] theorem setPort_freeCtr (s : State) (n : Nat) (p : DrvPort) : (s.setPort n p).freeCtr = s.freeCtr := ((keeps_State_setPort n p rfl (Keeps.refl false 1024 s)).frame .freeCtr).resolve_left (by decide)

@[simp] theorem portTo_pat (s : State) (n : Nat) (st : Nat) : (s.portTo n st).pat = s.pat := ((keeps_State_portTo n st rfl (Keeps.refl false 8388643 s)).frame .pat).resolve_left (by decide)
@[simp] theorem portTo_svc (s : State) (n : Nat) (st : Nat) : (s.portTo n st).svc = s.svc := ((keeps_State_portTo n st rfl (Keeps.refl false 8388643 s)).frame .svc).resolve_left (by decide)
@[simp] theorem portTo_tasks (s : State) (n : Nat) (st : Nat) : (s.portTo n st).tasks = s.tasks := ((keeps_State_portTo n st rfl (Keeps.refl false 8388643 s)).frame .tasks).resolve_left (by decide)
@[simp] theorem portTo_led (s : State) (n : Nat) (st : Nat) : (s.portTo n st).led = s.led := ((keeps_State_portTo n st rfl (Keeps.refl false 8388643 s)).frame .led).resolve_left (by decide)
@[simp] theorem portTo_flm (s : State) (n : Nat) (st : Nat) : (s.portTo n st).flm = s.flm := ((keeps_State_portTo n st rfl (Keeps.refl false 8388643 s)).frame .flm).resolve_left (by decide)
@[simp] theorem portTo_fx (s : State) (n : Nat) (st : Nat) : (s.portTo n st).fx = s.fx := ((keeps_State_portTo n st rfl (Keeps.refl false 8388643 s)).frame .fx).resolve_left (by decide)
@[simp] theorem portTo_wsw (s : State) (n : Nat) (st : Nat) : (s.portTo n st).wsw = s.wsw := ((keeps_State_portTo n st rfl (Keeps.refl false 8388643 s)).frame .wsw).resolve_left (by decide)
@[simp] theorem portTo_drv (s : State) (n : Nat) (st : Nat) : (s.portTo n st).drv = s.drv := ((keeps_State_portTo n st rfl (Keeps.refl false 8388643 s)).frame .drv).resolve_left (by decide)
@[simp] theorem portTo_pwr (s : State) (n : Nat) (st : Nat) : (s.portTo n st).pwr = s.pwr := ((keeps_State_portTo n st rfl (Keeps.refl false 8388643 s)).frame .pwr).resolve_left (by decide)
@[simp] theorem portTo_nvm (s : State) (n : Nat) (st : Nat) : (s.portTo n st).nvm = s.nvm := ((keeps_State_portTo n st rfl (Keeps.refl false 8388643 s)).frame .nvm).resolve_left (by decide)
@[simp] theorem portTo_cht (s : State) (n : Nat) (st : Nat) : (s.portTo n st).cht = s.cht := ((keeps_State_portTo n st rfl (Keeps.refl false 8388643 s)).frame .cht).resolve_left (by decide)
@[simp] theorem portTo_grps (s : State) (n : Nat) (st : Nat) : (s.portTo n st).grps = s.grps := ((keeps_State_portTo n st rfl (Keeps.refl false 8388643 s)).frame .grps).resolve_left (by decide)
@[simp] theorem portTo_tly (s : State) (n : Nat) (st : Nat) : (s.portTo n st).tly = s.tly := ((keeps_State_portTo n st rfl (Keeps.refl false 8388643 s)).frame .tly).resolve_left (by decide)
@[simp] theorem portTo_tc (s : State) (n : Nat) (st : Nat) : (s.portTo n st).tc = s.tc := ((keeps_State_portTo n st rfl (Keeps.refl false 8388643 s)).frame .tc).resolve_left (by decide)
@[simp] theorem portTo_hp (s : State) (n : Nat) (st : Nat) : (s.portTo n st).hp = s.hp := ((keeps_State_portTo n st rfl (Keeps.refl false 8388643 s)).frame .hp).resolve_left (by decide)
@[simp] theorem portTo_slot (s : State) (n : Nat) (st : Nat) : (s.portTo n st).slot = s.slot := ((keeps_State_portTo n st rfl (Keeps.refl false 8388643 s)).frame .slot).resolve_left (by decide)
@[simp] theorem portTo_fw (s : State) (n : Nat) (st : Nat) : (s.portTo n st).fw = s.fw := ((keeps_State_portTo n st rfl (Keeps.refl false 8388643 s)).frame .fw).resolve_left (by decide)
@[simp] theorem portTo_mi (s : State) (n : Nat) (st : Nat) : (s.portTo n st).mi = s.mi := ((keeps_State_portTo n st rfl (Keeps.refl false 8388643 s)).frame .mi).resolve_left (by decide)
@[simp] theorem portTo_mem (s : State) (n : Nat) (st : Nat) : (s.portTo n st).mem = s.mem := ((keeps_State_portTo n st rfl (Keeps.refl false 8388643 s)).frame .mem).resolve_left (by decide)
@[simp] theorem portTo_poison (s : State) (n : Nat) (st : Nat) : (s.portTo n st).poison = s.poison := ((keeps_State_portTo n st rfl (Keeps.refl false 8388643 s)).frame .poison).resolve_left (by decide)
@[simp] theorem portTo_freeCtr (s : State) (n : Nat) (st : Nat) : (s.portTo n st).freeCtr = s.freeCtr := ((keeps_State_portTo n st rfl (Keeps.refl false 8388643 s)).frame .freeCtr).resolve_left (by decide)

@[simp] theorem egress_pat (s : State) (lport : Nat) (cls : Nat) (u : TcUnit) : (s.egress lport cls u).pat = s.pat := ((keeps_State_egress lport cls u rfl (Keeps.refl false 8454179 s)).frame .pat).resolve_left (by decide)
@[simp] theorem egress_svc (s : State) (lport : Nat) (cls : Nat) (u : TcUnit) : (s.egress lport cls u).svc = s.svc := ((keeps_State_egress lport cls u rfl (Keeps.refl false 8454179 s)).frame .svc).resolve_left (by decide)
@[simp] theorem egress_tasks (s : State) (lport : Nat) (cls : Nat) (u : TcUnit) : (s.egress lport cls u).tasks = s.tasks := ((keeps_State_egress lport cls u rfl (Keeps.refl false 8454179 s)).frame .tasks).resolve_left (by decide)
@[simp] theorem egress_led (s : State) (lport : Nat) (cls : Nat) (u : TcUnit) : (s.egress lport cls u).led = s.led := ((keeps_State_egress lport cls u rfl (Keeps.refl false 8454179 s)).frame .led).resolve_left (by decide)
@[simp] theorem egress_flm (s : State) (lport : Nat) (cls : Nat) (u : TcUnit) : (s.egress lport cls u).flm = s.flm := ((keeps_State_egress lport cls u rfl (Keeps.refl false 8454179 s)).frame .flm).resolve_left (by decide)
@[simp] theorem egress_fx (s : State) (lport : Nat) (cls : Nat) (u : TcUnit) : (s.egress lport cls u).fx = s.fx := ((keeps_State_egress lport cls u rfl (Keeps.refl false 8454179 s)).frame .fx).resolve_left (by decide)
@[simp] theorem egress_wsw (s : State) (lport : Nat) (cls : Nat) (u : TcUnit) : (s.egress lport cls u).wsw = s.wsw := ((keeps_State_egress lport cls u rfl (Keeps.refl false 8454179 s)).frame .wsw).resolve_left (by decide)
@[simp] theorem egress_drv (s : State) (lport : Nat) (cls : Nat) (u : TcUnit) : (s.egress lport cls u).drv = s.drv := ((keeps_State_egress lport cls u rfl (Keeps.refl false 8454179 s)).frame .drv).resolve_left (by decide)
@[simp] theorem egress_pwr (s : State) (lport : Nat) (cls : Nat) (u : TcUnit) : (s.egress lport cls u).pwr = s.pwr := ((keeps_State_egress lport cls u rfl (Keeps.refl false 8454179 s)).frame .pwr).resolve_left (by decide)
@[simp] theorem egress_nvm (s : State) (lport : Nat) (cls : Nat) (u : TcUnit) : (s.egress lport cls u).nvm = s.nvm := ((keeps_State_egress lport cls u rfl (Keeps.refl false 8454179 s)).frame .nvm).resolve_left (by decide)
@[simp] theorem egress_cht (s : State) (lport : Nat) (cls : Nat) (u : TcUnit) : (s.egress lport cls u).cht = s.cht := ((keeps_State_egress lport cls u rfl (Keeps.refl false 8454179 s)).frame .cht).resolve_left (by decide)
@[simp] theorem egress_grps (s : State) (lport : Nat) (cls : Nat) (u : TcUnit) : (s.egress lport cls u).grps = s.grps := ((keeps_State_egress lport cls u rfl (Keeps.refl false 8454179 s)).frame .grps).resolve_left (by decide)
@[simp] theorem egress_tly (s : State) (lport : Nat) (cls : Nat) (u : TcUnit) : (s.egress lport cls u).tly = s.tly := ((keeps_State_egress lport cls u rfl (Keeps.refl false 8454179 s)).frame .tly).resolve_left (by decide)
@[simp] theorem egress_hp (s : State) (lport : Nat) (cls : Nat) (u : TcUnit) : (s.egress lport cls u).hp = s.hp := ((keeps_State_egress lport cls u rfl (Keeps.refl false 8454179 s)).frame .hp).resolve_left (by decide)
@[simp] theorem egress_slot (s : State) (lport : Nat) (cls : Nat) (u : TcUnit) : (s.egress lport cls u).slot = s.slot := ((keeps_State_egress lport cls u rfl (Keeps.refl false 8454179 s)).frame .slot).resolve_left (by decide)
@[simp] theorem egress_fw (s : State) (lport : Nat) (cls : Nat) (u : TcUnit) : (s.egress lport cls u).fw = s.fw := ((keeps_State_egress lport cls u rfl (Keeps.refl false 8454179 s)).frame .fw).resolve_left (by decide)
@[simp] theorem egress_mi (s : State) (lport : Nat) (cls : Nat) (u : TcUnit) : (s.egress lport cls u).mi = s.mi := ((keeps_State_egress lport cls u rfl (Keeps.refl false 8454179 s)).frame .mi).resolve_left (by decide)
@[simp] theorem egress_mem (s : State) (lport : Nat) (cls : Nat) (u : TcUnit) : (s.egress lport cls u).mem = s.mem := ((keeps_State_egress lport cls u rfl (Keeps.refl false 8454179 s)).frame .mem).resolve_left (by decide)
@[simp] theorem egress_poison (s : State) (lport : Nat) (cls : Nat) (u : TcUnit) : (s.egress lport cls u).poison = s.poison := ((keeps_State_egress lport cls u rfl (Keeps.refl false 8454179 s)).frame .poison).resolve_left (by decide)
@[simp] theorem egress_freeCtr (s : State) (lport : Nat) (cls : Nat) (u : TcUnit) : (s.egress lport cls u).freeCtr = s.freeCtr := ((keeps_State_egress lport cls u rfl (Keeps.refl false 8454179 s)).frame .freeCtr).resolve_left (by decide)

@[simp] theorem ownEgress_pat (s : State) (lport : Nat) (cls : Nat) (len : Nat) : (s.ownEgress lport cls len).pat = s.pat := ((keeps_State_ownEgress lport cls len rfl (Keeps.refl false 8454179 s)).frame .pat).resolve_left (by decide)
@[simp] theorem ownEgress_svc (s : State) (lport : Nat) (cls : Nat) (len : Nat) : (s.ownEgress lport cls len).svc = s.svc := ((keeps_State_ownEgress lport cls len rfl (Keeps.refl false 8454179 s)).frame .svc).resolve_left (by decide)
@[simp] theorem ownEgress_tasks (s : State) (lport : Nat) (cls : Nat) (len : Nat) : (s.ownEgress lport cls len).tasks = s.tasks := ((keeps_State_ownEgress lport cls len rfl (Keeps.refl false 8454179 s)).frame .tasks).resolve_left (by decide)
@[simp] theorem ownEgress_led (s : State) (lport : Nat) (cls : Nat) (len : Nat) : (s.ownEgress lport cls len).led = s.led := ((keeps_State_ownEgress lport cls len rfl (Keeps.refl false 8454179 s)).frame .led).resolve_left (by decide)
@[simp] theorem ownEgress_flm (s : State) (lport : Nat) (cls : Nat) (len : Nat) : (s.ownEgress lport cls len).flm = s.flm := ((keeps_State_ownEgress lport cls len rfl (Keeps.refl false 8454179 s)).frame .flm).resolve_left (by decide)
@[simp] theorem ownEgress_fx (s : State) (lport : Nat) (cls : Nat) (len : Nat) : (s.ownEgress lport cls len).fx = s.fx := ((keeps_State_ownEgress lport cls len rfl (Keeps.refl false 8454179 s)).frame .fx).resolve_left (by decide)
@[simp] theorem ownEgress_wsw (s : State) (lport : Nat) (cls : Nat) (len : Nat) : (s.ownEgress lport cls len).wsw = s.wsw := ((keeps_State_ownEgress lport cls len rfl (Keeps.refl false 8454179 s)).frame .wsw).resolve_left (by decide)
@[simp] theorem ownEgress_drv (s : State) (lport : Nat) (cls : Nat) (len : Nat) : (s.ownEgress lport cls len).drv = s.drv := ((keeps_State_ownEgress lport cls len rfl (Keeps.refl false 8454179 s)).frame .drv).resolve_left (by decide)
@[simp] theorem ownEgress_pwr (s : State) (lport : Nat) (cls : Nat) (len : Nat) : (s.ownEgress lport cls len).pwr = s.pwr := ((keeps_State_ownEgress lport cls len rfl (Keeps.refl false 8454179 s)).frame .pwr).resolve_left (by decide)
@[simp] theorem ownEgress_nvm (s : State) (lport : Nat) (cls : Nat) (len : Nat) : (s.ownEgress lport cls len).nvm = s.nvm := ((keeps_State_ownEgress lport cls len rfl (Keeps.refl false 8454179 s)).frame .nvm).resolve_left (by decide)
@[simp] theorem ownEgress_cht (s : State) (lport : Nat) (cls : Nat) (len : Nat) : (s.ownEgress lport cls len).cht = s.cht := ((keeps_State_ownEgress lport cls len rfl (Keeps.refl false 8454179 s)).frame .cht).resolve_left (by decide)
@[simp] theorem ownEgress_grps (s : State) (lport : Nat) (cls : Nat) (len : Nat) : (s.ownEgress lport cls len).grps = s.grps := ((keeps_State_ownEgress lport cls len rfl (Keeps.refl false 8454179 s)).frame .grps).resolve_left (by decide)
@[simp] theorem ownEgress_tly (s : State) (lport : Nat) (cls : Nat) (len : Nat) : (s.ownEgress lport cls len).tly = s.tly := ((keeps_State_ownEgress lport cls len rfl (Keeps.refl false 8454179 s)).frame .tly).resolve_left (by decide)
@[simp] theorem ownEgress_hp (s : State) (lport : Nat) (cls : Nat) (len : Nat) : (s.ownEgress lport cls len).hp = s.hp := ((keeps_State_ownEgress lport cls len rfl (Keeps.refl false 8454179 s)).frame .hp).resolve_left (by decide)
@[simp] theorem ownEgress_slot (s : State) (lport : Nat) (cls : Nat) (len : Nat) : (s.ownEgress lport cls len).slot = s.slot := ((keeps_State_ownEgress lport cls len rfl (Keeps.refl false 8454179 s)).frame .slot).resolve_left (by decide)
@[simp] theorem ownEgress_fw (s : State) (lport : Nat) (cls : Nat) (len : Nat) : (s.ownEgress lport cls len).fw = s.fw := ((keeps_State_ownEgress lport cls len rfl (Keeps.refl false 8454179 s)).frame .fw).resolve_left (by decide)
@[simp] theorem ownEgress_mi (s : State) (lport : Nat) (cls : Nat) (len : Nat) : (s.ownEgress lport cls len).mi = s.mi := ((keeps_State_ownEgress lport cls len rfl (Keeps.refl false 8454179 s)).frame .mi).resolve_left (by decide)
@[simp] theorem ownEgress_mem (s : State) (lport : Nat) (cls : Nat) (len : Nat) : (s.ownEgress lport cls len).mem = s.mem := ((keeps_State_ownEgress lport cls len rfl (Keeps.refl false 8454179 s)).frame .mem).resolve_left (by decide)
@[simp] theorem ownEgress_poison (s : State) (lport : Nat) (cls : Nat) (len : Nat) : (s.ownEgress lport cls len).poison = s.poison := ((keeps_State_ownEgress lport cls len rfl (Keeps.refl false 8454179 s)).frame .poison).resolve_left (by decide)
@[simp] theorem ownEgress_freeCtr (s : State) (lport : Nat) (cls : Nat) (len : Nat) : (s.ownEgress lport cls len).freeCtr = s.freeCtr := ((keeps_State_ownEgress lport cls len rfl (Keeps.refl false 8454179 s)).frame .freeCtr).resolve_left (by decide)

@[simp] theorem enqueue_regs (s : State) (p : Nat) (cls : Nat) (u : TcUnit) : (s.enqueue p cls u).regs = s.regs := ((keeps_State_enqueue p cls u rfl (Keeps.refl false 65536 s)).frame .regs).resolve_left (by decide)
@[simp] theorem enqueue_dev (s : State) (p : Nat) (cls : Nat) (u : TcUnit) : (s.enqueue p cls u).dev = s.dev := ((keeps_State_enqueue p cls u rfl (Keeps.refl false 65536 s)).frame .dev).resolve_left (by decide)
@[simp] theorem enqueue_pat (s : State) (p : Nat) (cls : Nat) (u : TcUnit) : (s.enqueue p cls u).pat = s.pat := ((keeps_State_enqueue p cls u rfl (Keeps.refl false 65536 s)).frame .pat).resolve_left (by decide)
@[simp] theorem enqueue_svc (s : State) (p : Nat) (cls : Nat) (u : TcUnit) : (s.enqueue p cls u).svc = s.svc := ((keeps_State_enqueue p cls u rfl (Keeps.refl false 65536 s)).frame .svc).resolve_left (by decide)
@[simp] theorem enqueue_tasks (s : State) (p : Nat) (cls : Nat) (u : TcUnit) : (s.enqueue p cls u).tasks = s.tasks := ((keeps_State_enqueue p cls u rfl (Keeps.refl false 65536 s)).frame .tasks).resolve_left (by decide)
@[simp] theorem enqueue_eng (s : State) (p : Nat) (cls : Nat) (u : TcUnit) : (s.enqueue p cls u).eng = s.eng := ((keeps_State_enqueue p cls u rfl (Keeps.refl false 65536 s)).frame .eng).resolve_left (by decide)
@[simp] theorem enqueue_led (s : State) (p : Nat) (cls : Nat) (u : TcUnit) : (s.enqueue p cls u).led = s.led := ((keeps_State_enqueue p cls u rfl (Keeps.refl false 65536 s)).frame .led).resolve_left (by decide)
@[simp] theorem enqueue_flm (s : State) (p : Nat) (cls : Nat) (u : TcUnit) : (s.enqueue p cls u).flm = s.flm := ((keeps_State_enqueue p cls u rfl (Keeps.refl false 65536 s)).frame .flm).resolve_left (by decide)
@[simp] theorem enqueue_fx (s : State) (p : Nat) (cls : Nat) (u : TcUnit) : (s.enqueue p cls u).fx = s.fx := ((keeps_State_enqueue p cls u rfl (Keeps.refl false 65536 s)).frame .fx).resolve_left (by decide)
@[simp] theorem enqueue_wsw (s : State) (p : Nat) (cls : Nat) (u : TcUnit) : (s.enqueue p cls u).wsw = s.wsw := ((keeps_State_enqueue p cls u rfl (Keeps.refl false 65536 s)).frame .wsw).resolve_left (by decide)
@[simp] theorem enqueue_drv (s : State) (p : Nat) (cls : Nat) (u : TcUnit) : (s.enqueue p cls u).drv = s.drv := ((keeps_State_enqueue p cls u rfl (Keeps.refl false 65536 s)).frame .drv).resolve_left (by decide)
@[simp] theorem enqueue_pwr (s : State) (p : Nat) (cls : Nat) (u : TcUnit) : (s.enqueue p cls u).pwr = s.pwr := ((keeps_State_enqueue p cls u rfl (Keeps.refl false 65536 s)).frame .pwr).resolve_left (by decide)
@[simp] theorem enqueue_nvm (s : State) (p : Nat) (cls : Nat) (u : TcUnit) : (s.enqueue p cls u).nvm = s.nvm := ((keeps_State_enqueue p cls u rfl (Keeps.refl false 65536 s)).frame .nvm).resolve_left (by decide)
@[simp] theorem enqueue_cht (s : State) (p : Nat) (cls : Nat) (u : TcUnit) : (s.enqueue p cls u).cht = s.cht := ((keeps_State_enqueue p cls u rfl (Keeps.refl false 65536 s)).frame .cht).resolve_left (by decide)
@[simp] theorem enqueue_grps (s : State) (p : Nat) (cls : Nat) (u : TcUnit) : (s.enqueue p cls u).grps = s.grps := ((keeps_State_enqueue p cls u rfl (Keeps.refl false 65536 s)).frame .grps).resolve_left (by decide)
@[simp] theorem enqueue_tly (s : State) (p : Nat) (cls : Nat) (u : TcUnit) : (s.enqueue p cls u).tly = s.tly := ((keeps_State_enqueue p cls u rfl (Keeps.refl false 65536 s)).frame .tly).resolve_left (by decide)
@[simp] theorem enqueue_hp (s : State) (p : Nat) (cls : Nat) (u : TcUnit) : (s.enqueue p cls u).hp = s.hp := ((keeps_State_enqueue p cls u rfl (Keeps.refl false 65536 s)).frame .hp).resolve_left (by decide)
@[simp] theorem enqueue_slot (s : State) (p : Nat) (cls : Nat) (u : TcUnit) : (s.enqueue p cls u).slot = s.slot := ((keeps_State_enqueue p cls u rfl (Keeps.refl false 65536 s)).frame .slot).resolve_left (by decide)
@[simp] theorem enqueue_fw (s : State) (p : Nat) (cls : Nat) (u : TcUnit) : (s.enqueue p cls u).fw = s.fw := ((keeps_State_enqueue p cls u rfl (Keeps.refl false 65536 s)).frame .fw).resolve_left (by decide)
@[simp] theorem enqueue_mi (s : State) (p : Nat) (cls : Nat) (u : TcUnit) : (s.enqueue p cls u).mi = s.mi := ((keeps_State_enqueue p cls u rfl (Keeps.refl false 65536 s)).frame .mi).resolve_left (by decide)
@[simp] theorem enqueue_mem (s : State) (p : Nat) (cls : Nat) (u : TcUnit) : (s.enqueue p cls u).mem = s.mem := ((keeps_State_enqueue p cls u rfl (Keeps.refl false 65536 s)).frame .mem).resolve_left (by decide)
@[simp] theorem enqueue_poison (s : State) (p : Nat) (cls : Nat) (u : TcUnit) : (s.enqueue p cls u).poison = s.poison := ((keeps_State_enqueue p cls u rfl (Keeps.refl false 65536 s)).frame .poison).resolve_left (by decide)
@[simp] theorem enqueue_out (s : State) (p : Nat) (cls : Nat) (u : TcUnit) : (s.enqueue p cls u).out = s.out := ((keeps_State_enqueue p cls u rfl (Keeps.refl false 65536 s)).frame .out).resolve_left (by decide)
@[simp] theorem enqueue_freeCtr (s : State) (p : Nat) (cls : Nat) (u : TcUnit) : (s.enqueue p cls u).freeCtr = s.freeCtr := ((keeps_State_enqueue p cls u rfl (Keeps.refl false 65536 s)).frame .freeCtr).resolve_left (by decide)

@[simp] theorem injected_regs (s : State) (a : Nat) (n : Nat) : (s.injected a n).regs = s.regs := ((keeps_State_injected a n rfl (Keeps.refl false 5242880 s)).frame .regs).resolve_left (by decide)
@[simp] theorem injected_dev (s : State) (a : Nat) (n : Nat) : (s.injected a n).dev = s.dev := ((keeps_State_injected a n rfl (Keeps.refl false 5242880 s)).frame .dev).resolve_left (by decide)
@[simp] theorem injected_pat (s : State) (a : Nat) (n : Nat) : (s.injected a n).pat = s.pat := ((keeps_State_injected a n rfl (Keeps.refl false 5242880 s)).frame .pat).resolve_left (by decide)
@[simp] theorem injected_svc (s : State) (a : Nat) (n : Nat) : (s.injected a n).svc = s.svc := ((keeps_State_injected a n rfl (Keeps.refl false 5242880 s)).frame .svc).resolve_left (by decide)
@[simp] theorem injected_tasks (s : State) (a : Nat) (n : Nat) : (s.injected a n).tasks = s.tasks := ((keeps_State_injected a n rfl (Keeps.refl false 5242880 s)).frame .tasks).resolve_left (by decide)
@[simp] theorem injected_eng (s : State) (a : Nat) (n : Nat) : (s.injected a n).eng = s.eng := ((keeps_State_injected a n rfl (Keeps.refl false 5242880 s)).frame .eng).resolve_left (by decide)
@[simp] theorem injected_led (s : State) (a : Nat) (n : Nat) : (s.injected a n).led = s.led := ((keeps_State_injected a n rfl (Keeps.refl false 5242880 s)).frame .led).resolve_left (by decide)
@[simp] theorem injected_flm (s : State) (a : Nat) (n : Nat) : (s.injected a n).flm = s.flm := ((keeps_State_injected a n rfl (Keeps.refl false 5242880 s)).frame .flm).resolve_left (by decide)
@[simp] theorem injected_fx (s : State) (a : Nat) (n : Nat) : (s.injected a n).fx = s.fx := ((keeps_State_injected a n rfl (Keeps.refl false 5242880 s)).frame .fx).resolve_left (by decide)
@[simp] theorem injected_wsw (s : State) (a : Nat) (n : Nat) : (s.injected a n).wsw = s.wsw := ((keeps_State_injected a n rfl (Keeps.refl false 5242880 s)).frame .wsw).resolve_left (by decide)
@[simp] theorem injected_drv (s : State) (a : Nat) (n : Nat) : (s.injected a n).drv = s.drv := ((keeps_State_injected a n rfl (Keeps.refl false 5242880 s)).frame .drv).resolve_left (by decide)
@[simp] theorem injected_pwr (s : State) (a : Nat) (n : Nat) : (s.injected a n).pwr = s.pwr := ((keeps_State_injected a n rfl (Keeps.refl false 5242880 s)).frame .pwr).resolve_left (by decide)
@[simp] theorem injected_nvm (s : State) (a : Nat) (n : Nat) : (s.injected a n).nvm = s.nvm := ((keeps_State_injected a n rfl (Keeps.refl false 5242880 s)).frame .nvm).resolve_left (by decide)
@[simp] theorem injected_cht (s : State) (a : Nat) (n : Nat) : (s.injected a n).cht = s.cht := ((keeps_State_injected a n rfl (Keeps.refl false 5242880 s)).frame .cht).resolve_left (by decide)
@[simp] theorem injected_grps (s : State) (a : Nat) (n : Nat) : (s.injected a n).grps = s.grps := ((keeps_State_injected a n rfl (Keeps.refl false 5242880 s)).frame .grps).resolve_left (by decide)
@[simp] theorem injected_tly (s : State) (a : Nat) (n : Nat) : (s.injected a n).tly = s.tly := ((keeps_State_injected a n rfl (Keeps.refl false 5242880 s)).frame .tly).resolve_left (by decide)
@[simp] theorem injected_tc (s : State) (a : Nat) (n : Nat) : (s.injected a n).tc = s.tc := ((keeps_State_injected a n rfl (Keeps.refl false 5242880 s)).frame .tc).resolve_left (by decide)
@[simp] theorem injected_hp (s : State) (a : Nat) (n : Nat) : (s.injected a n).hp = s.hp := ((keeps_State_injected a n rfl (Keeps.refl false 5242880 s)).frame .hp).resolve_left (by decide)
@[simp] theorem injected_slot (s : State) (a : Nat) (n : Nat) : (s.injected a n).slot = s.slot := ((keeps_State_injected a n rfl (Keeps.refl false 5242880 s)).frame .slot).resolve_left (by decide)
@[simp] theorem injected_fw (s : State) (a : Nat) (n : Nat) : (s.injected a n).fw = s.fw := ((keeps_State_injected a n rfl (Keeps.refl false 5242880 s)).frame .fw).resolve_left (by decide)
@[simp] theorem injected_mem (s : State) (a : Nat) (n : Nat) : (s.injected a n).mem = s.mem := ((keeps_State_injected a n rfl (Keeps.refl false 5242880 s)).frame .mem).resolve_left (by decide)
@[simp] theorem injected_out (s : State) (a : Nat) (n : Nat) : (s.injected a n).out = s.out := ((keeps_State_injected a n rfl (Keeps.refl false 5242880 s)).frame .out).resolve_left (by decide)
@[simp] theorem injected_freeCtr (s : State) (a : Nat) (n : Nat) : (s.injected a n).freeCtr = s.freeCtr := ((keeps_State_injected a n rfl (Keeps.refl false 5242880 s)).frame .freeCtr).resolve_left (by decide)

@[simp] theorem store_regs (s : State) (a : Nat) (bs : List Byte) : (s.store a bs).regs = s.regs := ((keeps_State_store a bs rfl (Keeps.refl false 7340032 s)).frame .regs).resolve_left (by decide)
@[simp] theorem store_dev (s : State) (a : Nat) (bs : List Byte) : (s.store a bs).dev = s.dev := ((keeps_State_store a bs rfl (Keeps.refl false 7340032 s)).frame .dev).resolve_left (by decide)
@[simp] theorem store_pat (s : State) (a : Nat) (bs : List Byte) : (s.store a bs).pat = s.pat := ((keeps_State_store a bs rfl (Keeps.refl false 7340032 s)).frame .pat).resolve_left (by decide)
@[simp] theorem store_svc (s : State) (a : Nat) (bs : List Byte) : (s.store a bs).svc = s.svc := ((keeps_State_store a bs rfl (Keeps.refl false 7340032 s)).frame .svc).resolve_left (by decide)
@[simp] theorem store_tasks (s : State) (a : Nat) (bs : List Byte) : (s.store a bs).tasks = s.tasks := ((keeps_State_store a bs rfl (Keeps.refl false 7340032 s)).frame .tasks).resolve_left (by decide)
@[simp] theorem store_eng (s : State) (a : Nat) (bs : List Byte) : (s.store a bs).eng = s.eng := ((keeps_State_store a bs rfl (Keeps.refl false 7340032 s)).frame .eng).resolve_left (by decide)
@[simp] theorem store_led (s : State) (a : Nat) (bs : List Byte) : (s.store a bs).led = s.led := ((keeps_State_store a bs rfl (Keeps.refl false 7340032 s)).frame .led).resolve_left (by decide)
@[simp] theorem store_flm (s : State) (a : Nat) (bs : List Byte) : (s.store a bs).flm = s.flm := ((keeps_State_store a bs rfl (Keeps.refl false 7340032 s)).frame .flm).resolve_left (by decide)
@[simp] theorem store_fx (s : State) (a : Nat) (bs : List Byte) : (s.store a bs).fx = s.fx := ((keeps_State_store a bs rfl (Keeps.refl false 7340032 s)).frame .fx).resolve_left (by decide)
@[simp] theorem store_wsw (s : State) (a : Nat) (bs : List Byte) : (s.store a bs).wsw = s.wsw := ((keeps_State_store a bs rfl (Keeps.refl false 7340032 s)).frame .wsw).resolve_left (by decide)
@[simp] theorem store_drv (s : State) (a : Nat) (bs : List Byte) : (s.store a bs).drv = s.drv := ((keeps_State_store a bs rfl (Keeps.refl false 7340032 s)).frame .drv).resolve_left (by decide)
@[simp] theorem store_pwr (s : State) (a : Nat) (bs : List Byte) : (s.store a bs).pwr = s.pwr := ((keeps_State_store a bs rfl (Keeps.refl false 7340032 s)).frame .pwr).resolve_left (by decide)
@[simp] theorem store_nvm (s : State) (a : Nat) (bs : List Byte) : (s.store a bs).nvm = s.nvm := ((keeps_State_store a bs rfl (Keeps.refl false 7340032 s)).frame .nvm).resolve_left (by decide)
@[simp] theorem store_cht (s : State) (a : Nat) (bs : List Byte) : (s.store a bs).cht = s.cht := ((keeps_State_store a bs rfl (Keeps.refl false 7340032 s)).frame .cht).resolve_left (by decide)
@[simp] theorem store_grps (s : State) (a : Nat) (bs : List Byte) : (s.store a bs).grps = s.grps := ((keeps_State_store a bs rfl (Keeps.refl false 7340032 s)).frame .grps).resolve_left (by decide)
@[simp] theorem store_tly (s : State) (a : Nat) (bs : List Byte) : (s.store a bs).tly = s.tly := ((keeps_State_store a bs rfl (Keeps.refl false 7340032 s)).frame .tly).resolve_left (by decide)
@[simp] theorem store_tc (s : State) (a : Nat) (bs : List Byte) : (s.store a bs).tc = s.tc := ((keeps_State_store a bs rfl (Keeps.refl false 7340032 s)).frame .tc).resolve_left (by decide)
@[simp] theorem store_hp (s : State) (a : Nat) (bs : List Byte) : (s.store a bs).hp = s.hp := ((keeps_State_store a bs rfl (Keeps.refl false 7340032 s)).frame .hp).resolve_left (by decide)
@[simp] theorem store_slot (s : State) (a : Nat) (bs : List Byte) : (s.store a bs).slot = s.slot := ((keeps_State_store a bs rfl (Keeps.refl false 7340032 s)).frame .slot).resolve_left (by decide)
@[simp] theorem store_fw (s : State) (a : Nat) (bs : List Byte) : (s.store a bs).fw = s.fw := ((keeps_State_store a bs rfl (Keeps.refl false 7340032 s)).frame .fw).resolve_left (by decide)
@[simp] theorem store_out (s : State) (a : Nat) (bs : List Byte) : (s.store a bs).out = s.out := ((keeps_State_store a bs rfl (Keeps.refl false 7340032 s)).frame .out).resolve_left (by decide)
@[simp] theorem store_freeCtr (s : State) (a : Nat) (bs : List Byte) : (s.store a bs).freeCtr = s.freeCtr := ((keeps_State_store a bs rfl (Keeps.refl false 7340032 s)).frame .freeCtr).resolve_left (by decide)

@[simp] theorem pushEvent_regs (s : State) (cluster : Nat) (e : Nat) : (s.pushEvent cluster e).regs = s.regs := ((keeps_State_pushEvent cluster e rfl (Keeps.refl false 32 s)).frame .regs).resolve_left (by decide)
@[simp] theorem pushEvent_dev (s : State) (cluster : Nat) (e : Nat) : (s.pushEvent cluster e).dev = s.dev := ((keeps_State_pushEvent cluster e rfl (Keeps.refl false 32 s)).frame .dev).resolve_left (by decide)
@[simp] theorem pushEvent_pat (s : State) (cluster : Nat) (e : Nat) : (s.pushEvent cluster e).pat = s.pat := ((keeps_State_pushEvent cluster e rfl (Keeps.refl false 32 s)).frame .pat).resolve_left (by decide)
@[simp] theorem pushEvent_svc (s : State) (cluster : Nat) (e : Nat) : (s.pushEvent cluster e).svc = s.svc := ((keeps_State_pushEvent cluster e rfl (Keeps.refl false 32 s)).frame .svc).resolve_left (by decide)
@[simp] theorem pushEvent_tasks (s : State) (cluster : Nat) (e : Nat) : (s.pushEvent cluster e).tasks = s.tasks := ((keeps_State_pushEvent cluster e rfl (Keeps.refl false 32 s)).frame .tasks).resolve_left (by decide)
@[simp] theorem pushEvent_led (s : State) (cluster : Nat) (e : Nat) : (s.pushEvent cluster e).led = s.led := ((keeps_State_pushEvent cluster e rfl (Keeps.refl false 32 s)).frame .led).resolve_left (by decide)
@[simp] theorem pushEvent_flm (s : State) (cluster : Nat) (e : Nat) : (s.pushEvent cluster e).flm = s.flm := ((keeps_State_pushEvent cluster e rfl (Keeps.refl false 32 s)).frame .flm).resolve_left (by decide)
@[simp] theorem pushEvent_fx (s : State) (cluster : Nat) (e : Nat) : (s.pushEvent cluster e).fx = s.fx := ((keeps_State_pushEvent cluster e rfl (Keeps.refl false 32 s)).frame .fx).resolve_left (by decide)
@[simp] theorem pushEvent_wsw (s : State) (cluster : Nat) (e : Nat) : (s.pushEvent cluster e).wsw = s.wsw := ((keeps_State_pushEvent cluster e rfl (Keeps.refl false 32 s)).frame .wsw).resolve_left (by decide)
@[simp] theorem pushEvent_drv (s : State) (cluster : Nat) (e : Nat) : (s.pushEvent cluster e).drv = s.drv := ((keeps_State_pushEvent cluster e rfl (Keeps.refl false 32 s)).frame .drv).resolve_left (by decide)
@[simp] theorem pushEvent_pwr (s : State) (cluster : Nat) (e : Nat) : (s.pushEvent cluster e).pwr = s.pwr := ((keeps_State_pushEvent cluster e rfl (Keeps.refl false 32 s)).frame .pwr).resolve_left (by decide)
@[simp] theorem pushEvent_nvm (s : State) (cluster : Nat) (e : Nat) : (s.pushEvent cluster e).nvm = s.nvm := ((keeps_State_pushEvent cluster e rfl (Keeps.refl false 32 s)).frame .nvm).resolve_left (by decide)
@[simp] theorem pushEvent_cht (s : State) (cluster : Nat) (e : Nat) : (s.pushEvent cluster e).cht = s.cht := ((keeps_State_pushEvent cluster e rfl (Keeps.refl false 32 s)).frame .cht).resolve_left (by decide)
@[simp] theorem pushEvent_grps (s : State) (cluster : Nat) (e : Nat) : (s.pushEvent cluster e).grps = s.grps := ((keeps_State_pushEvent cluster e rfl (Keeps.refl false 32 s)).frame .grps).resolve_left (by decide)
@[simp] theorem pushEvent_tly (s : State) (cluster : Nat) (e : Nat) : (s.pushEvent cluster e).tly = s.tly := ((keeps_State_pushEvent cluster e rfl (Keeps.refl false 32 s)).frame .tly).resolve_left (by decide)
@[simp] theorem pushEvent_tc (s : State) (cluster : Nat) (e : Nat) : (s.pushEvent cluster e).tc = s.tc := ((keeps_State_pushEvent cluster e rfl (Keeps.refl false 32 s)).frame .tc).resolve_left (by decide)
@[simp] theorem pushEvent_hp (s : State) (cluster : Nat) (e : Nat) : (s.pushEvent cluster e).hp = s.hp := ((keeps_State_pushEvent cluster e rfl (Keeps.refl false 32 s)).frame .hp).resolve_left (by decide)
@[simp] theorem pushEvent_slot (s : State) (cluster : Nat) (e : Nat) : (s.pushEvent cluster e).slot = s.slot := ((keeps_State_pushEvent cluster e rfl (Keeps.refl false 32 s)).frame .slot).resolve_left (by decide)
@[simp] theorem pushEvent_fw (s : State) (cluster : Nat) (e : Nat) : (s.pushEvent cluster e).fw = s.fw := ((keeps_State_pushEvent cluster e rfl (Keeps.refl false 32 s)).frame .fw).resolve_left (by decide)
@[simp] theorem pushEvent_mi (s : State) (cluster : Nat) (e : Nat) : (s.pushEvent cluster e).mi = s.mi := ((keeps_State_pushEvent cluster e rfl (Keeps.refl false 32 s)).frame .mi).resolve_left (by decide)
@[simp] theorem pushEvent_mem (s : State) (cluster : Nat) (e : Nat) : (s.pushEvent cluster e).mem = s.mem := ((keeps_State_pushEvent cluster e rfl (Keeps.refl false 32 s)).frame .mem).resolve_left (by decide)
@[simp] theorem pushEvent_poison (s : State) (cluster : Nat) (e : Nat) : (s.pushEvent cluster e).poison = s.poison := ((keeps_State_pushEvent cluster e rfl (Keeps.refl false 32 s)).frame .poison).resolve_left (by decide)
@[simp] theorem pushEvent_out (s : State) (cluster : Nat) (e : Nat) : (s.pushEvent cluster e).out = s.out := ((keeps_State_pushEvent cluster e rfl (Keeps.refl false 32 s)).frame .out).resolve_left (by decide)
@[simp] theorem pushEvent_freeCtr (s : State) (cluster : Nat) (e : Nat) : (s.pushEvent cluster e).freeCtr = s.freeCtr := ((keeps_State_pushEvent cluster e rfl (Keeps.refl false 32 s)).frame .freeCtr).resolve_left (by decide)

@[simp] theorem signal_regs (s : State) (e : Nat) (vector : Nat) : (s.signal e vector).regs = s.regs := ((keeps_State_signal e vector rfl (Keeps.refl false 8388610 s)).frame .regs).resolve_left (by decide)
@[simp] theorem signal_pat (s : State) (e : Nat) (vector : Nat) : (s.signal e vector).pat = s.pat := ((keeps_State_signal e vector rfl (Keeps.refl false 8388610 s)).frame .pat).resolve_left (by decide)
@[simp] theorem signal_svc (s : State) (e : Nat) (vector : Nat) : (s.signal e vector).svc = s.svc := ((keeps_State_signal e vector rfl (Keeps.refl false 8388610 s)).frame .svc).resolve_left (by decide)
@[simp] theorem signal_tasks (s : State) (e : Nat) (vector : Nat) : (s.signal e vector).tasks = s.tasks := ((keeps_State_signal e vector rfl (Keeps.refl false 8388610 s)).frame .tasks).resolve_left (by decide)
@[simp] theorem signal_eng (s : State) (e : Nat) (vector : Nat) : (s.signal e vector).eng = s.eng := ((keeps_State_signal e vector rfl (Keeps.refl false 8388610 s)).frame .eng).resolve_left (by decide)
@[simp] theorem signal_led (s : State) (e : Nat) (vector : Nat) : (s.signal e vector).led = s.led := ((keeps_State_signal e vector rfl (Keeps.refl false 8388610 s)).frame .led).resolve_left (by decide)
@[simp] theorem signal_flm (s : State) (e : Nat) (vector : Nat) : (s.signal e vector).flm = s.flm := ((keeps_State_signal e vector rfl (Keeps.refl false 8388610 s)).frame .flm).resolve_left (by decide)
@[simp] theorem signal_fx (s : State) (e : Nat) (vector : Nat) : (s.signal e vector).fx = s.fx := ((keeps_State_signal e vector rfl (Keeps.refl false 8388610 s)).frame .fx).resolve_left (by decide)
@[simp] theorem signal_wsw (s : State) (e : Nat) (vector : Nat) : (s.signal e vector).wsw = s.wsw := ((keeps_State_signal e vector rfl (Keeps.refl false 8388610 s)).frame .wsw).resolve_left (by decide)
@[simp] theorem signal_drv (s : State) (e : Nat) (vector : Nat) : (s.signal e vector).drv = s.drv := ((keeps_State_signal e vector rfl (Keeps.refl false 8388610 s)).frame .drv).resolve_left (by decide)
@[simp] theorem signal_pwr (s : State) (e : Nat) (vector : Nat) : (s.signal e vector).pwr = s.pwr := ((keeps_State_signal e vector rfl (Keeps.refl false 8388610 s)).frame .pwr).resolve_left (by decide)
@[simp] theorem signal_nvm (s : State) (e : Nat) (vector : Nat) : (s.signal e vector).nvm = s.nvm := ((keeps_State_signal e vector rfl (Keeps.refl false 8388610 s)).frame .nvm).resolve_left (by decide)
@[simp] theorem signal_cht (s : State) (e : Nat) (vector : Nat) : (s.signal e vector).cht = s.cht := ((keeps_State_signal e vector rfl (Keeps.refl false 8388610 s)).frame .cht).resolve_left (by decide)
@[simp] theorem signal_grps (s : State) (e : Nat) (vector : Nat) : (s.signal e vector).grps = s.grps := ((keeps_State_signal e vector rfl (Keeps.refl false 8388610 s)).frame .grps).resolve_left (by decide)
@[simp] theorem signal_tly (s : State) (e : Nat) (vector : Nat) : (s.signal e vector).tly = s.tly := ((keeps_State_signal e vector rfl (Keeps.refl false 8388610 s)).frame .tly).resolve_left (by decide)
@[simp] theorem signal_tc (s : State) (e : Nat) (vector : Nat) : (s.signal e vector).tc = s.tc := ((keeps_State_signal e vector rfl (Keeps.refl false 8388610 s)).frame .tc).resolve_left (by decide)
@[simp] theorem signal_hp (s : State) (e : Nat) (vector : Nat) : (s.signal e vector).hp = s.hp := ((keeps_State_signal e vector rfl (Keeps.refl false 8388610 s)).frame .hp).resolve_left (by decide)
@[simp] theorem signal_slot (s : State) (e : Nat) (vector : Nat) : (s.signal e vector).slot = s.slot := ((keeps_State_signal e vector rfl (Keeps.refl false 8388610 s)).frame .slot).resolve_left (by decide)
@[simp] theorem signal_fw (s : State) (e : Nat) (vector : Nat) : (s.signal e vector).fw = s.fw := ((keeps_State_signal e vector rfl (Keeps.refl false 8388610 s)).frame .fw).resolve_left (by decide)
@[simp] theorem signal_mi (s : State) (e : Nat) (vector : Nat) : (s.signal e vector).mi = s.mi := ((keeps_State_signal e vector rfl (Keeps.refl false 8388610 s)).frame .mi).resolve_left (by decide)
@[simp] theorem signal_mem (s : State) (e : Nat) (vector : Nat) : (s.signal e vector).mem = s.mem := ((keeps_State_signal e vector rfl (Keeps.refl false 8388610 s)).frame .mem).resolve_left (by decide)
@[simp] theorem signal_poison (s : State) (e : Nat) (vector : Nat) : (s.signal e vector).poison = s.poison := ((keeps_State_signal e vector rfl (Keeps.refl false 8388610 s)).frame .poison).resolve_left (by decide)
@[simp] theorem signal_freeCtr (s : State) (e : Nat) (vector : Nat) : (s.signal e vector).freeCtr = s.freeCtr := ((keeps_State_signal e vector rfl (Keeps.refl false 8388610 s)).frame .freeCtr).resolve_left (by decide)

/-! ## The register file and device time through the event machinery -/

@[simp] theorem signal_dev_time (s : State) (e v : Nat) : (s.signal e v).dev.timeNs = s.dev.timeNs := by
  unfold State.signal
  split <;> rfl

theorem signal_dev (s : State) (e v : Nat) : ∃ l, (s.signal e v).dev = { s.dev with pendEvt := l } := by
  unfold State.signal
  split
  · exact ⟨s.dev.pendEvt, rfl⟩
  · exact ⟨_, rfl⟩

theorem raise_dev (s : State) (e : Nat) : ∃ l, (s.raise e).dev = { s.dev with pendEvt := l } := by
  unfold State.raise
  extract_lets s1 r s2
  have h : s2.dev = s.dev := by
    unfold s2
    split
    · exact (pushEvent_dev _ _ _).trans rfl
    · rfl
  split
  · obtain ⟨l, hl⟩ := signal_dev s2 e r.vector
    exact ⟨l, by rw [hl, h]⟩
  · exact ⟨s.dev.pendEvt, by rw [h]⟩

@[simp] theorem raise_timeNs (s : State) (e : Nat) : (s.raise e).dev.timeNs = s.dev.timeNs := by
  obtain ⟨l, h⟩ := raise_dev s e
  rw [h]

/-- Raising an event writes its status bit and no other field. -/
theorem raise_regs (s : State) (e : Nat) :
    (s.raise e).regs = (s.set F.EVT_STATUS.STATUS (withBit (s.get F.EVT_STATUS.STATUS (e / 32)) (e % 32)) (e / 32)).regs := by
  unfold State.raise
  extract_lets s1 r s2
  have h : s2.regs = s1.regs := by
    unfold s2
    split
    · exact pushEvent_regs _ _ _
    · rfl
  split
  · exact (signal_regs _ _ _).trans h
  · exact h

theorem get_raise (s : State) (e : Nat) (g : Fld) (m n : Nat) (hk : F.EVT_STATUS.STATUS.key (e / 32) 0 ≠ g.key m n) : (s.raise e).get g m n = s.get g m n := by
  have h := get_set_other s F.EVT_STATUS.STATUS g (withBit (s.get F.EVT_STATUS.STATUS (e / 32)) (e % 32)) (e / 32) 0 m n hk
  unfold State.get at h ⊢
  rw [raise_regs]
  exact h

/-- The status bit of a raised event. -/
theorem raise_status (s : State) (e : Nat) : (s.raise e).get F.EVT_STATUS.STATUS (e / 32) = withBit (s.get F.EVT_STATUS.STATUS (e / 32)) (e % 32) % 2 ^ 32 := by
  have h := get_set_same s F.EVT_STATUS.STATUS (withBit (s.get F.EVT_STATUS.STATUS (e / 32)) (e % 32)) (e / 32) 0
  unfold State.get at h ⊢
  rw [raise_regs]
  exact h

theorem withBit_bit (v i : Nat) : bitOf (withBit v i) i = true := by
  unfold withBit
  split
  · assumption
  · rename_i h
    unfold bitOf at h ⊢
    rw [Nat.add_div_right _ (Nat.two_pow_pos i)]
    simp only [beq_iff_eq] at h ⊢
    omega

theorem bitOf_mod (v i n : Nat) (h : i < n) : bitOf (v % 2 ^ n) i = bitOf v i := by
  unfold bitOf
  obtain ⟨m, rfl⟩ : ∃ m, n = i + 1 + m := ⟨n - (i + 1), by omega⟩
  have e : (2 : Nat) ^ (i + 1 + m) = 2 ^ i * (2 * 2 ^ m) := by ring
  rw [e, Nat.mod_mul_right_div_self, Nat.mod_mul_right_mod]

/-- Raising an event sets its status bit (R479). -/
theorem raise_bit (s : State) (e : Nat) : bitOf ((s.raise e).get F.EVT_STATUS.STATUS (e / 32)) (e % 32) = true := by
  rw [raise_status, bitOf_mod _ _ _ (Nat.mod_lt _ (by decide)), withBit_bit]

theorem get_bumpBy_other (s : State) (f g : Fld) (k i j m n : Nat) (hk : f.key i j ≠ g.key m n) : (s.bumpBy f k i j).get g m n = s.get g m n :=
  get_set_other s f g _ i j m n hk

theorem get_raiseLimited (s : State) (e : Nat) (g : Fld) (m n : Nat) (hk : F.EVT_STATUS.STATUS.key (e / 32) 0 ≠ g.key m n) :
    (s.raiseLimited e).get g m n = s.get g m n := by
  unfold State.raiseLimited
  extract_lets t
  split
  · rfl
  · exact get_raise _ _ _ _ _ hk

/-- The fields that writing a Ledger record writes. -/
def ledgerKeys : List Nat :=
  [F.LDG_STATUS.HEAD.key 0 0, F.LDG_STATUS.FROZEN.key 0 0, F.LDG_STATUS.TAIL_LEFT.key 0 0, F.LDG_SEQ.NEXT.key 0 0, F.LDG_LOST.COUNT.key 0 0, F.LDG_SUPPRESSED.COUNT.key 0 0,
    F.EVT_STATUS.STATUS.key 36 0]

theorem get_freezeLedger (s : State) (g : Fld) (m n : Nat) (hk : g.key m n ∉ ledgerKeys) : s.freezeLedger.get g m n = s.get g m n := by
  simp only [ledgerKeys, List.mem_cons, List.not_mem_nil, or_false, not_or] at hk
  obtain ⟨h1, h2, h3, h4, h5, h6, h7⟩ := hk
  unfold State.freezeLedger
  split
  · rfl
  · rw [get_raise _ _ _ _ _ (fun h => h7 h.symm), get_set_other _ _ _ _ _ _ _ _ (fun h => h3 h.symm), get_setFlag_other _ _ _ _ _ _ _ _ (fun h => h2 h.symm)]

theorem get_ledgerStore (s : State) (r : LedgerRec) (g : Fld) (m n : Nat) (hk : g.key m n ∉ ledgerKeys) : (s.ledgerStore r).get g m n = s.get g m n := by
  simp only [ledgerKeys, List.mem_cons, List.not_mem_nil, or_false, not_or] at hk
  obtain ⟨h1, h2, h3, h4, h5, h6, h7⟩ := hk
  unfold State.ledgerStore
  rw [get_set_other _ _ _ _ _ _ _ _ (fun h => h4 h.symm), get_set_other _ _ _ _ _ _ _ _ (fun h => h1 h.symm)]
  rfl

/-- Writing a Ledger record leaves every field that is not the Ledger's. -/
theorem get_ledgerWrite (s : State) (code island source withheld : Nat) (detail : List Byte) (g : Fld) (m n : Nat) (hk : g.key m n ∉ ledgerKeys) :
    (s.ledgerWrite code island source withheld detail).get g m n = s.get g m n := by
  have hk' := hk
  simp only [ledgerKeys, List.mem_cons, List.not_mem_nil, or_false, not_or] at hk'
  obtain ⟨h1, h2, h3, h4, h5, h6, h7⟩ := hk'
  unfold State.ledgerWrite
  extract_lets seq sev r left frozen s1 s2
  have h : s2.get g m n = s.get g m n := by
    unfold s2 s1
    split
    · rw [get_set_other _ _ _ _ _ _ _ _ (fun h => h3 h.symm), get_ledgerStore _ _ _ _ _ hk]
    · split
      · rw [get_freezeLedger _ _ _ _ hk, get_ledgerStore _ _ _ _ _ hk]
      · rw [get_ledgerStore _ _ _ _ _ hk]
  split
  · unfold State.ledgerLost
    rw [get_raiseLimited _ _ _ _ _ (fun h => h7 h.symm), get_bump_other _ _ _ _ _ _ _ (fun h => h5 h.symm)]
  · split
    · rw [get_raiseLimited _ _ _ _ _ (fun h => h7 h.symm), h]
    · exact h

theorem get_ledger (s : State) (code island source : Nat) (detail : List Byte) (g : Fld) (m n : Nat) (hk : g.key m n ∉ ledgerKeys) :
    (s.ledger code island source detail).get g m n = s.get g m n := get_ledgerWrite _ _ _ _ _ _ _ _ _ hk

theorem get_ledgerLimited (s : State) (code island source : Nat) (detail : List Byte) (g : Fld) (m n : Nat) (hk : g.key m n ∉ ledgerKeys) :
    (s.ledgerLimited code island source detail).get g m n = s.get g m n := by
  have hw : ∀ (l : Ledger), (s.withhold l).get g m n = s.get g m n := by
    intro l
    simp only [ledgerKeys, List.mem_cons, List.not_mem_nil, or_false, not_or] at hk
    exact get_bump_other _ _ _ _ _ _ _ (fun h => hk.2.2.2.2.2.1 h.symm)
  unfold State.ledgerLimited
  extract_lets now fresh
  split
  · split
    · exact hw _
    · exact get_ledgerWrite _ _ _ _ _ _ _ _ _ hk
  · split
    · exact get_ledgerWrite _ _ _ _ _ _ _ _ _ hk
    · split
      · exact get_ledgerWrite _ _ _ _ _ _ _ _ _ hk
      · split
        · split
          · exact hw _
          · exact get_ledgerWrite _ _ _ _ _ _ _ _ _ hk
        · exact get_ledgerWrite _ _ _ _ _ _ _ _ _ hk

end Sys2Proof.Machine
end

