-- ==== Sys2Proof/Laws/KeepsUnits.lean ====
section
/-!
SUPPORT. Laws/KeepsUnits.lean: what each operation of Flume sending, engines, host commands, the vault, drive completions and assembly keeps (Laws/Keeps.lean): one lemma for each.
-/
set_option maxRecDepth 4000
set_option linter.all false

namespace Sys2Proof.Machine

/-! ## Machine/FlumeOps.lean -/

theorem keeps_State_setFlow {pK : Bool} {AK : Nat} {sK tK : State} (f : Flow) (hA : 256 &&& AK = 256)  (hK : Keeps pK AK sK tK) :
    Keeps pK AK sK (State.setFlow tK f) := by
  refine Keeps.lift (B := 256) ?_ hA hK
  clear hK hA
  have hK : Keeps pK 256 tK tK := Keeps.refl ..
  simp (maxDischargeDepth := 60) +contextual only [State.setFlow, Nat.reduceAnd, eq_self, true_or, or_true, devSame_refl, keeps_mk, hK]

theorem keeps_State_enterFlow {pK : Bool} {AK : Nat} {sK tK : State} (peer : Nat) (ip : IpAddr) (loc : Option (IpAddr × Nat)) (hA : 25166115 &&& AK = 25166115)  (hK : Keeps pK AK sK tK) :
    KeepsP pK AK sK (State.enterFlow tK peer ip loc) := by
  refine KeepsP.lift (B := 25166115) ?_ hA hK
  clear hK hA
  have hK : Keeps pK 25166115 tK tK := Keeps.refl ..
  unfold State.enterFlow
  (try dsimp only); (repeat' split) <;> simp (maxDischargeDepth := 60) +contextual only [Nat.reduceAnd, eq_self, true_or, or_true, devSame_refl, keepsP_mk, keeps_mk, keeps_State_bump, keeps_State_drawn, keeps_State_raise, keeps_State_setFlow, hK]

theorem keeps_State_answerFlow {pK : Bool} {AK : Nat} {sK tK : State} (dg : Datagram) (peer : Nat) (hA : 25166115 &&& AK = 25166115)  (hK : Keeps pK AK sK tK) :
    KeepsP pK AK sK (State.answerFlow tK dg peer) := by
  refine KeepsP.lift (B := 25166115) ?_ hA hK
  clear hK hA
  have hK : Keeps pK 25166115 tK tK := Keeps.refl ..
  unfold State.answerFlow
  (try dsimp only); (repeat' split) <;> simp (maxDischargeDepth := 60) +contextual only [Nat.reduceAnd, eq_self, keepsP_mk, KeepsP.fst, keeps_State_enterFlow, keeps_State_setFlow, hK]

theorem keeps_State_reselectAll {pK : Bool} {AK : Nat} {sK tK : State}  (hA : 256 &&& AK = 256)  (hK : Keeps pK AK sK tK) :
    Keeps pK AK sK (State.reselectAll tK) := by
  refine Keeps.lift (B := 256) ?_ hA hK
  clear hK hA
  have hK : Keeps pK 256 tK tK := Keeps.refl ..
  unfold State.reselectAll
  (try dsimp only); (repeat' split) <;> simp (maxDischargeDepth := 60) +contextual only [Nat.reduceAnd, eq_self, true_or, or_true, devSame_refl, keeps_mk, hK]

theorem keeps_State_sendFlume {pK : Bool} {AK : Nat} {sK tK : State} (side : OutSide) (acks : Bool) (cls : Nat) (h : FlumeHdr) (es : List FlumeExt) (payload : List Byte) (hA : 8454691 &&& AK = 8454691)  (hK : Keeps pK AK sK tK) :
    Keeps pK AK sK (State.sendFlume tK side acks cls h es payload) := by
  refine Keeps.lift (B := 8454691) ?_ hA hK
  clear hK hA
  have hK : Keeps pK 8454691 tK tK := Keeps.refl ..
  unfold State.sendFlume
  (try dsimp only); (repeat' split) <;> simp (maxDischargeDepth := 60) +contextual only [Nat.reduceAnd, eq_self, keeps_State_count, keeps_State_fold, keeps_State_perform, hK]

theorem keeps_State_cookieUsed {pK : Bool} {AK : Nat} {sK tK : State}  (hA : 16777344 &&& AK = 16777344)  (hK : Keeps pK AK sK tK) :
    Keeps pK AK sK (State.cookieUsed tK) := by
  refine Keeps.lift (B := 16777344) ?_ hA hK
  clear hK hA
  have hK : Keeps pK 16777344 tK tK := Keeps.refl ..
  simp (maxDischargeDepth := 60) +contextual only [State.cookieUsed, Nat.reduceAnd, eq_self, true_or, or_true, devSame_refl, keeps_mk, keeps_State_drawn, hK]

theorem keeps_State_formCtl {pK : Bool} {AK : Nat} {sK tK : State} (c : CtlPkt) (hA : 25232291 &&& AK = 25232291)  (hK : Keeps pK AK sK tK) :
    Keeps pK AK sK (State.formCtl tK c) := by
  refine Keeps.lift (B := 25232291) ?_ hA hK
  clear hK hA
  have hK : Keeps pK 25232291 tK tK := Keeps.refl ..
  unfold State.formCtl
  (try dsimp only); (repeat' split) <;> simp (maxDischargeDepth := 60) +contextual only [Nat.reduceAnd, eq_self, true_or, or_true, devSame_refl, keeps_mk, keeps_State_cookieUsed, keeps_State_sendFlume, keeps_State_setFlow, hK]

theorem keeps_State_sendCtl {pK : Bool} {AK : Nat} {sK tK : State} (c : CtlPkt) (hA : 25232291 &&& AK = 25232291)  (hK : Keeps pK AK sK tK) :
    Keeps pK AK sK (State.sendCtl tK c) := by
  refine Keeps.lift (B := 25232291) ?_ hA hK
  clear hK hA
  have hK : Keeps pK 25232291 tK tK := Keeps.refl ..
  simp (maxDischargeDepth := 60) +contextual only [State.sendCtl, Nat.reduceAnd, eq_self, true_or, or_true, devSame_refl, keeps_ite, keeps_mk, keeps_State_formCtl, hK]

theorem keeps_State_flushCtl {pK : Bool} {AK : Nat} {sK tK : State}  (hA : 25232291 &&& AK = 25232291)  (hK : Keeps pK AK sK tK) :
    Keeps pK AK sK (State.flushCtl tK) := by
  refine Keeps.lift (B := 25232291) ?_ hA hK
  clear hK hA
  have hK : Keeps pK 25232291 tK tK := Keeps.refl ..
  simp (maxDischargeDepth := 60) +contextual only [State.flushCtl, Nat.reduceAnd, eq_self, true_or, or_true, implies_true, devSame_refl, keeps_foldl, keeps_mk, keeps_State_sendCtl, hK]

theorem keeps_State_setWq {pK : Bool} {AK : Nat} {sK tK : State} (n : Nat) (w : Wq) (hA : 128 &&& AK = 128)  (hK : Keeps pK AK sK tK) :
    Keeps pK AK sK (State.setWq tK n w) := by
  refine Keeps.lift (B := 128) ?_ hA hK
  clear hK hA
  have hK : Keeps pK 128 tK tK := Keeps.refl ..
  simp (maxDischargeDepth := 60) +contextual only [State.setWq, Nat.reduceAnd, eq_self, true_or, or_true, devSame_refl, keeps_mk, hK]

theorem keeps_State_post {pK : Bool} {AK : Nat} {sK tK : State} (n : Nat) (e : CqEntry) (hA : 8388736 &&& AK = 8388736)  (hK : Keeps pK AK sK tK) :
    Keeps pK AK sK (State.post tK n e) := by
  refine Keeps.lift (B := 8388736) ?_ hA hK
  clear hK hA
  have hK : Keeps pK 8388736 tK tK := Keeps.refl ..
  simp (maxDischargeDepth := 60) +contextual only [State.post, Nat.reduceAnd, eq_self, keeps_ite, keeps_State_emit, keeps_State_setWq, hK]

theorem keeps_State_putOutcome {pK : Bool} {AK : Nat} {sK tK : State} (peer : Nat) (msgId : Nat) (completed : Bool) (reason : Nat) (hA : 128 &&& AK = 128)  (hK : Keeps pK AK sK tK) :
    Keeps pK AK sK (State.putOutcome tK peer msgId completed reason) := by
  refine Keeps.lift (B := 128) ?_ hA hK
  clear hK hA
  have hK : Keeps pK 128 tK tK := Keeps.refl ..
  simp (maxDischargeDepth := 60) +contextual only [State.putOutcome, Nat.reduceAnd, eq_self, true_or, or_true, devSame_refl, keeps_mk, hK]

theorem keeps_State_setSlot {pK : Bool} {AK : Nat} {sK tK : State} (x : Slot) (hA : 128 &&& AK = 128)  (hK : Keeps pK AK sK tK) :
    Keeps pK AK sK (State.setSlot tK x) := by
  refine Keeps.lift (B := 128) ?_ hA hK
  clear hK hA
  have hK : Keeps pK 128 tK tK := Keeps.refl ..
  simp (maxDischargeDepth := 60) +contextual only [State.setSlot, Nat.reduceAnd, eq_self, true_or, or_true, devSame_refl, keeps_mk, hK]

theorem keeps_State_dropSlot {pK : Bool} {AK : Nat} {sK tK : State} (peer : Nat) (msgId : Nat) (hA : 128 &&& AK = 128)  (hK : Keeps pK AK sK tK) :
    Keeps pK AK sK (State.dropSlot tK peer msgId) := by
  refine Keeps.lift (B := 128) ?_ hA hK
  clear hK hA
  have hK : Keeps pK 128 tK tK := Keeps.refl ..
  simp (maxDischargeDepth := 60) +contextual only [State.dropSlot, Nat.reduceAnd, eq_self, true_or, or_true, devSame_refl, keeps_mk, hK]

theorem keeps_State_setWin {pK : Bool} {AK : Nat} {sK tK : State} (i : Nat) (w : Win) (hA : 128 &&& AK = 128)  (hK : Keeps pK AK sK tK) :
    Keeps pK AK sK (State.setWin tK i w) := by
  refine Keeps.lift (B := 128) ?_ hA hK
  clear hK hA
  have hK : Keeps pK 128 tK tK := Keeps.refl ..
  simp (maxDischargeDepth := 60) +contextual only [State.setWin, Nat.reduceAnd, eq_self, true_or, or_true, devSame_refl, keeps_mk, hK]

theorem keeps_State_winRelease {pK : Bool} {AK : Nat} {sK tK : State} (window : Nat) (hA : 8388771 &&& AK = 8388771)  (hK : Keeps pK AK sK tK) :
    Keeps pK AK sK (State.winRelease tK window) := by
  refine Keeps.lift (B := 8388771) ?_ hA hK
  clear hK hA
  have hK : Keeps pK 8388771 tK tK := Keeps.refl ..
  simp (maxDischargeDepth := 60) +contextual only [State.winRelease, Nat.reduceAnd, eq_self, keeps_ite, keeps_State_post, keeps_State_raise, keeps_State_setWin, hK]

/-! ## Machine/FlumeTx.lean -/

theorem keeps_State_writeSpans_core {pK : Bool} {sK tK : State} (l : List (Nat × Nat)) (off : Nat) (bs : List Byte) (hK : Keeps pK 7340032 sK tK) :
    Keeps pK 7340032 sK (tK.writeSpans l off bs) := by
  induction l generalizing tK off bs with
  | nil => exact hK
  | cons x l ih =>
    unfold State.writeSpans
    try dsimp only
    repeat' (first | assumption | rfl | (intro) | (with_reducible first | apply ih | apply keeps_State_store | apply keeps_foldl) | simp only [keeps_mk_iff, devSame_refl, devSame_mk, Nat.reduceAnd, eq_self, true_or, or_true] | (refine KeepsP.of_eq (by assumption) ?_) | (refine KeepsO.of_eq (by assumption) ?_) | split)

theorem keeps_State_writeSpans {pK : Bool} {AK : Nat} {sK tK : State} (l : List (Nat × Nat)) (off : Nat) (bs : List Byte) (hA : 7340032 &&& AK = 7340032) (hK : Keeps pK AK sK tK) :
    Keeps pK AK sK (tK.writeSpans l off bs) :=
  Keeps.lift (keeps_State_writeSpans_core l off bs (Keeps.refl ..)) hA hK

theorem keeps_State_setMsg {pK : Bool} {AK : Nat} {sK tK : State} (m : Msg) (hA : 128 &&& AK = 128)  (hK : Keeps pK AK sK tK) :
    Keeps pK AK sK (State.setMsg tK m) := by
  refine Keeps.lift (B := 128) ?_ hA hK
  clear hK hA
  have hK : Keeps pK 128 tK tK := Keeps.refl ..
  simp (maxDischargeDepth := 60) +contextual only [State.setMsg, Nat.reduceAnd, eq_self, true_or, or_true, devSame_refl, keeps_mk, hK]

theorem keeps_State_pathTo {pK : Bool} {AK : Nat} {sK tK : State} (f : Flow) (p : Nat) (x : PathTx) (hA : 8388899 &&& AK = 8388899)  (hK : Keeps pK AK sK tK) :
    Keeps pK AK sK (State.pathTo tK f p x) := by
  refine Keeps.lift (B := 8388899) ?_ hA hK
  clear hK hA
  have hK : Keeps pK 8388899 tK tK := Keeps.refl ..
  simp (maxDischargeDepth := 60) +contextual only [State.pathTo, Nat.reduceAnd, eq_self, keeps_ite, keeps_State_raise, keeps_State_setFlow, hK]

theorem keeps_State_pathLoss {pK : Bool} {AK : Nat} {sK tK : State} (peer : Nat) (p : Nat) (hA : 8388899 &&& AK = 8388899)  (hK : Keeps pK AK sK tK) :
    Keeps pK AK sK (State.pathLoss tK peer p) := by
  refine Keeps.lift (B := 8388899) ?_ hA hK
  clear hK hA
  have hK : Keeps pK 8388899 tK tK := Keeps.refl ..
  unfold State.pathLoss
  (try dsimp only); (repeat' split) <;> simp (maxDischargeDepth := 60) +contextual only [Nat.reduceAnd, eq_self, keeps_State_pathTo, hK]

theorem keeps_State_transmit {pK : Bool} {AK : Nat} {sK tK : State} (m : Msg) (i : Nat) (attempt : Nat) (path : Nat) (solicit : Bool) (hA : 25232035 &&& AK = 25232035)  (hK : Keeps pK AK sK tK) :
    Keeps pK AK sK (State.transmit tK m i attempt path solicit) := by
  refine Keeps.lift (B := 25232035) ?_ hA hK
  clear hK hA
  have hK : Keeps pK 25232035 tK tK := Keeps.refl ..
  unfold State.transmit
  (try dsimp only); (repeat' split) <;> simp (maxDischargeDepth := 60) +contextual only [Nat.reduceAnd, eq_self, true_or, or_true, devSame_refl, keeps_mk, keeps_State_cookieUsed, keeps_State_count, keeps_State_sendFlume, keeps_State_setMsg, hK]

theorem keeps_State_pauseMsg {pK : Bool} {AK : Nat} {sK tK : State} (m : Msg) (hA : 8388771 &&& AK = 8388771)  (hK : Keeps pK AK sK tK) :
    Keeps pK AK sK (State.pauseMsg tK m) := by
  refine Keeps.lift (B := 8388771) ?_ hA hK
  clear hK hA
  have hK : Keeps pK 8388771 tK tK := Keeps.refl ..
  unfold State.pauseMsg
  (try dsimp only); (repeat' split) <;> simp (maxDischargeDepth := 60) +contextual only [Nat.reduceAnd, eq_self, keeps_State_raise, keeps_State_setMsg, keeps_State_setWq, hK]

theorem keeps_State_activate {pK : Bool} {AK : Nat} {sK tK : State} (m : Msg) (hA : 128 &&& AK = 128)  (hK : Keeps pK AK sK tK) :
    KeepsP pK AK sK (State.activate tK m) := by
  refine KeepsP.lift (B := 128) ?_ hA hK
  clear hK hA
  have hK : Keeps pK 128 tK tK := Keeps.refl ..
  simp (maxDischargeDepth := 60) +contextual only [State.activate, Nat.reduceAnd, eq_self, true_or, or_true, devSame_refl, keepsP_mk, keepsP_ite, keeps_mk, keeps_State_setMsg, hK]

theorem keeps_State_pumpN_core {pK : Bool} {sK tK : State} (n dst : Nat) (hK : Keeps pK 25232291 sK tK) :
    Keeps pK 25232291 sK (State.pumpN n dst tK) := by
  induction n generalizing tK with
  | zero => exact hK
  | succ n ih =>
    unfold State.pumpN
    try dsimp only
    repeat' (first | assumption | rfl | (intro) | (with_reducible first | apply ih | apply keeps_State_transmit | apply keeps_State_setFlow | apply keeps_State_pauseMsg | refine KeepsP.fst (keeps_State_activate _ ?_ ?_) | apply keeps_foldl) | simp only [keeps_mk_iff, devSame_refl, devSame_mk, Nat.reduceAnd, eq_self, true_or, or_true] | (refine KeepsP.of_eq (by assumption) ?_) | (refine KeepsO.of_eq (by assumption) ?_) | split)

theorem keeps_State_pumpN {pK : Bool} {AK : Nat} {sK tK : State} (n dst : Nat) (hA : 25232291 &&& AK = 25232291) (hK : Keeps pK AK sK tK) :
    Keeps pK AK sK (State.pumpN n dst tK) :=
  Keeps.lift (keeps_State_pumpN_core n dst (Keeps.refl ..)) hA hK

theorem keeps_State_pump {pK : Bool} {AK : Nat} {sK tK : State} (dst : Nat) (hA : 25232291 &&& AK = 25232291)  (hK : Keeps pK AK sK tK) :
    Keeps pK AK sK (State.pump tK dst) := by
  refine Keeps.lift (B := 25232291) ?_ hA hK
  clear hK hA
  have hK : Keeps pK 25232291 tK tK := Keeps.refl ..
  simp (maxDischargeDepth := 60) +contextual only [State.pump, Nat.reduceAnd, eq_self, keeps_State_pumpN, hK]

theorem keeps_State_submit {pK : Bool} {AK : Nat} {sK tK : State} (m : Msg) (ip : IpAddr) (hA : 25232291 &&& AK = 25232291)  (hK : Keeps pK AK sK tK) :
    Keeps pK AK sK (State.submit tK m ip) := by
  refine Keeps.lift (B := 25232291) ?_ hA hK
  clear hK hA
  have hK : Keeps pK 25232291 tK tK := Keeps.refl ..
  unfold State.submit
  (try dsimp only); (repeat' split) <;> simp (maxDischargeDepth := 60) +contextual only [Nat.reduceAnd, eq_self, true_or, or_true, devSame_refl, KeepsP.fst, keeps_mk, keeps_State_enterFlow, keeps_State_pump, hK]

theorem keeps_State_setChain {pK : Bool} {AK : Nat} {sK tK : State} (i : Nat) (v : Nat) (hA : 256 &&& AK = 256)  (hK : Keeps pK AK sK tK) :
    Keeps pK AK sK (State.setChain tK i v) := by
  refine Keeps.lift (B := 256) ?_ hA hK
  clear hK hA
  have hK : Keeps pK 256 tK tK := Keeps.refl ..
  simp (maxDischargeDepth := 60) +contextual only [State.setChain, Nat.reduceAnd, eq_self, true_or, or_true, devSame_refl, keeps_mk, hK]

theorem keeps_State_chainFault {pK : Bool} {AK : Nat} {sK tK : State} (i : Nat) (hA : 256 &&& AK = 256)  (hK : Keeps pK AK sK tK) :
    Keeps pK AK sK (State.chainFault tK i) := by
  refine Keeps.lift (B := 256) ?_ hA hK
  clear hK hA
  have hK : Keeps pK 256 tK tK := Keeps.refl ..
  simp (maxDischargeDepth := 60) +contextual only [State.chainFault, Nat.reduceAnd, eq_self, keeps_State_setChain, hK]

theorem keeps_State_chainAdd {pK : Bool} {AK : Nat} {sK tK : State} (i : Nat) (hA : 256 &&& AK = 256)  (hK : Keeps pK AK sK tK) :
    Keeps pK AK sK (State.chainAdd tK i) := by
  refine Keeps.lift (B := 256) ?_ hA hK
  clear hK hA
  have hK : Keeps pK 256 tK tK := Keeps.refl ..
  simp (maxDischargeDepth := 60) +contextual only [State.chainAdd, Nat.reduceAnd, eq_self, keeps_ite, keeps_State_chainFault, keeps_State_setChain, hK]

theorem keeps_State_completeDesc {pK : Bool} {AK : Nat} {sK tK : State} (wq : Nat) (index : Nat) (d : SendDesc) (st : DescStatus) (reason : Nat) (len : Nat) (msgId : Nat) (hA : 8388992 &&& AK = 8388992)  (hK : Keeps pK AK sK tK) :
    Keeps pK AK sK (State.completeDesc tK wq index d st reason len msgId) := by
  refine Keeps.lift (B := 8388992) ?_ hA hK
  clear hK hA
  have hK : Keeps pK 8388992 tK tK := Keeps.refl ..
  simp (maxDischargeDepth := 60) +contextual only [State.completeDesc, Nat.reduceAnd, eq_self, keeps_ite, keeps_State_chainAdd, keeps_State_chainFault, keeps_State_post, hK]

theorem keeps_State_holdTag {pK : Bool} {AK : Nat} {sK tK : State} (i : Nat) (key : Nat) (hA : 16777344 &&& AK = 16777344)  (hK : Keeps pK AK sK tK) :
    Keeps pK AK sK (State.holdTag tK i key) := by
  refine Keeps.lift (B := 16777344) ?_ hA hK
  clear hK hA
  have hK : Keeps pK 16777344 tK tK := Keeps.refl ..
  simp (maxDischargeDepth := 60) +contextual only [State.holdTag, Nat.reduceAnd, eq_self, true_or, or_true, devSame_refl, keeps_mk, keeps_State_drawn, hK]

theorem keeps_State_retireTag {pK : Bool} {AK : Nat} {sK tK : State} (tag : Option Nat) (hA : 128 &&& AK = 128)  (hK : Keeps pK AK sK tK) :
    Keeps pK AK sK (State.retireTag tK tag) := by
  refine Keeps.lift (B := 128) ?_ hA hK
  clear hK hA
  have hK : Keeps pK 128 tK tK := Keeps.refl ..
  unfold State.retireTag
  (try dsimp only); (repeat' split) <;> simp (maxDischargeDepth := 60) +contextual only [Nat.reduceAnd, eq_self, true_or, or_true, devSame_refl, keeps_mk, hK]

theorem keeps_State_finishMsg {pK : Bool} {AK : Nat} {sK tK : State} (m : Msg) (st : DescStatus) (reason : Nat) (hA : 25232291 &&& AK = 25232291)  (hK : Keeps pK AK sK tK) :
    Keeps pK AK sK (State.finishMsg tK m st reason) := by
  refine Keeps.lift (B := 25232291) ?_ hA hK
  clear hK hA
  have hK : Keeps pK 25232291 tK tK := Keeps.refl ..
  unfold State.finishMsg
  (try dsimp only); (repeat' split) <;> simp (maxDischargeDepth := 60) +contextual only [Nat.reduceAnd, eq_self, true_or, or_true, devSame_refl, keeps_mk, keeps_State_completeDesc, keeps_State_count, keeps_State_pump, keeps_State_retireTag, keeps_State_setFlow, keeps_State_setWq, hK]

theorem keeps_State_timeoutMsg {pK : Bool} {AK : Nat} {sK tK : State} (m : Msg) (hA : 25232291 &&& AK = 25232291)  (hK : Keeps pK AK sK tK) :
    Keeps pK AK sK (State.timeoutMsg tK m) := by
  refine Keeps.lift (B := 25232291) ?_ hA hK
  clear hK hA
  have hK : Keeps pK 25232291 tK tK := Keeps.refl ..
  simp (maxDischargeDepth := 60) +contextual only [State.timeoutMsg, Nat.reduceAnd, eq_self, true_or, or_true, devSame_refl, keeps_ite, keeps_mk, keeps_State_bump, keeps_State_finishMsg, keeps_State_raise, hK]

theorem keeps_State_askRetx {pK : Bool} {AK : Nat} {sK tK : State} (m : Msg) (p : PktTx) (hA : 25232291 &&& AK = 25232291)  (hK : Keeps pK AK sK tK) :
    Keeps pK AK sK (State.askRetx tK m p) := by
  refine Keeps.lift (B := 25232291) ?_ hA hK
  clear hK hA
  have hK : Keeps pK 25232291 tK tK := Keeps.refl ..
  simp (maxDischargeDepth := 60) +contextual only [State.askRetx, Nat.reduceAnd, eq_self, keeps_ite, keeps_State_observe, keeps_State_setMsg, keeps_State_timeoutMsg, hK]

theorem keeps_State_losePkt {pK : Bool} {AK : Nat} {sK tK : State} (m : Msg) (p : PktTx) (hA : 25232291 &&& AK = 25232291)  (hK : Keeps pK AK sK tK) :
    Keeps pK AK sK (State.losePkt tK m p) := by
  refine Keeps.lift (B := 25232291) ?_ hA hK
  clear hK hA
  have hK : Keeps pK 25232291 tK tK := Keeps.refl ..
  unfold State.losePkt
  (try dsimp only); (repeat' split) <;> simp (maxDischargeDepth := 60) +contextual only [Nat.reduceAnd, eq_self, keeps_State_askRetx, keeps_State_pathLoss, keeps_State_setFlow, hK]

theorem keeps_State_resend {pK : Bool} {AK : Nat} {sK tK : State} (m : Msg) (p : PktTx) (attempt : Nat) (hA : 25232291 &&& AK = 25232291)  (hK : Keeps pK AK sK tK) :
    Keeps pK AK sK (State.resend tK m p attempt) := by
  refine Keeps.lift (B := 25232291) ?_ hA hK
  clear hK hA
  have hK : Keeps pK 25232291 tK tK := Keeps.refl ..
  unfold State.resend
  (try dsimp only); (repeat' split) <;> simp (maxDischargeDepth := 60) +contextual only [Nat.reduceAnd, eq_self, keeps_State_setFlow, keeps_State_setMsg, keeps_State_transmit, hK]

/-! ## Machine/Engines.lean -/

theorem keeps_State_tenantRefused {pK : Bool} {AK : Nat} {sK tK : State} (engine : Nat) (hA : 8388643 &&& AK = 8388643)  (hK : Keeps pK AK sK tK) :
    Keeps pK AK sK (State.tenantRefused tK engine) := by
  refine Keeps.lift (B := 8388643) ?_ hA hK
  clear hK hA
  have hK : Keeps pK 8388643 tK tK := Keeps.refl ..
  simp (maxDischargeDepth := 60) +contextual only [State.tenantRefused, Nat.reduceAnd, eq_self, keeps_State_bump, keeps_State_raiseLimited, hK]

theorem keeps_State_kvqIllegal {pK : Bool} {AK : Nat} {sK tK : State} (engine : Nat) (hA : 8388643 &&& AK = 8388643)  (hK : Keeps pK AK sK tK) :
    Keeps pK AK sK (State.kvqIllegal tK engine) := by
  refine Keeps.lift (B := 8388643) ?_ hA hK
  clear hK hA
  have hK : Keeps pK 8388643 tK tK := Keeps.refl ..
  simp (maxDischargeDepth := 60) +contextual only [State.kvqIllegal, Nat.reduceAnd, eq_self, keeps_State_emit, keeps_State_tenantRefused, hK]

theorem keeps_State_rd {pK : Bool} {AK : Nat} {sK tK : State} (engine : Nat) (v : Nat) (hA : 8388608 &&& AK = 8388608)  (hK : Keeps pK AK sK tK) :
    Keeps pK AK sK (State.rd tK engine v) := by
  refine Keeps.lift (B := 8388608) ?_ hA hK
  clear hK hA
  have hK : Keeps pK 8388608 tK tK := Keeps.refl ..
  simp (maxDischargeDepth := 60) +contextual only [State.rd, Nat.reduceAnd, eq_self, keeps_State_emit, hK]

theorem keeps_execKvqPop {pK : Bool} {AK : Nat} {sK tK : State} (engine : Nat) (mode : Mode) (rs1 : Word) (hA : 8388643 &&& AK = 8388643)  (hK : Keeps pK AK sK tK) :
    KeepsR pK AK sK (execKvqPop engine mode rs1 tK) := by
  refine KeepsR.lift (B := 8388643) ?_ hA hK
  clear hK hA
  have hK : Keeps pK 8388643 tK tK := Keeps.refl ..
  unfold execKvqPop
  (try dsimp only); (repeat' split) <;> simp (maxDischargeDepth := 60) +contextual only [Nat.reduceAnd, eq_self, keepsR_next, keeps_State_kvqIllegal, keeps_State_rd, keeps_State_setQueue, hK]

theorem keeps_State_push {pK : Bool} {AK : Nat} {sK tK : State} (cluster : Nat) (q : Nat) (e : Word) (hA : 32 &&& AK = 32)  (hK : Keeps pK AK sK tK) :
    KeepsP pK AK sK (State.push tK cluster q e) := by
  refine KeepsP.lift (B := 32) ?_ hA hK
  clear hK hA
  have hK : Keeps pK 32 tK tK := Keeps.refl ..
  simp (maxDischargeDepth := 60) +contextual only [State.push, Nat.reduceAnd, eq_self, keepsP_mk, keepsP_ite, keeps_State_setQueue, hK]

theorem keeps_execKvqPush {pK : Bool} {AK : Nat} {sK tK : State} (engine : Nat) (mode : Mode) (rs1 : Word) (rs2 : Word) (hA : 8388643 &&& AK = 8388643)  (hK : Keeps pK AK sK tK) :
    KeepsR pK AK sK (execKvqPush engine mode rs1 rs2 tK) := by
  refine KeepsR.lift (B := 8388643) ?_ hA hK
  clear hK hA
  have hK : Keeps pK 8388643 tK tK := Keeps.refl ..
  unfold execKvqPush
  (try dsimp only); (repeat' split) <;> simp (maxDischargeDepth := 60) +contextual only [Nat.reduceAnd, eq_self, keepsR_next, KeepsP.fst, keeps_State_kvqIllegal, keeps_State_push, keeps_State_rd, hK]

theorem keeps_execKvqWait {pK : Bool} {AK : Nat} {sK tK : State} (engine : Nat) (mode : Mode) (rs1 : Word) (hA : 8388643 &&& AK = 8388643)  (hK : Keeps pK AK sK tK) :
    KeepsR pK AK sK (execKvqWait engine mode rs1 tK) := by
  refine KeepsR.lift (B := 8388643) ?_ hA hK
  clear hK hA
  have hK : Keeps pK 8388643 tK tK := Keeps.refl ..
  unfold execKvqWait
  (try dsimp only); (repeat' split) <;> simp (maxDischargeDepth := 60) +contextual only [Nat.reduceAnd, eq_self, true_or, or_true, devSame_refl, keepsR_next, keeps_mk, keeps_State_kvqIllegal, keeps_State_rd, keeps_State_set, hK]

theorem keeps_execKvqWaitWake {pK : Bool} {AK : Nat} {sK tK : State} (engine : Nat) (hA : 8388641 &&& AK = 8388641)  (hK : Keeps pK AK sK tK) :
    KeepsR pK AK sK (execKvqWaitWake engine tK) := by
  refine KeepsR.lift (B := 8388641) ?_ hA hK
  clear hK hA
  have hK : Keeps pK 8388641 tK tK := Keeps.refl ..
  unfold execKvqWaitWake
  (try dsimp only); (repeat' split) <;> simp (maxDischargeDepth := 60) +contextual only [Nat.reduceAnd, eq_self, true_or, or_true, devSame_refl, keepsR_next, keeps_mk, keeps_State_rd, keeps_State_set, hK]

theorem keeps_execEngineAccessFault {pK : Bool} {AK : Nat} {sK tK : State} (engine : Nat) (_mode : Mode) (kind : AccKind) (cause : AccCause) (_va : Nat) (unhandled : Bool) (hA : 8388643 &&& AK = 8388643)  (hK : Keeps pK AK sK tK) :
    KeepsR pK AK sK (execEngineAccessFault engine _mode kind cause _va unhandled tK) := by
  refine KeepsR.lift (B := 8388643) ?_ hA hK
  clear hK hA
  have hK : Keeps pK 8388643 tK tK := Keeps.refl ..
  unfold execEngineAccessFault
  (try dsimp only); (repeat' split) <;> simp (maxDischargeDepth := 60) +contextual only [Nat.reduceAnd, eq_self, keepsR_next, keeps_State_bump, keeps_State_emit, keeps_State_raise, keeps_State_tenantRefused, hK]

theorem keeps_State_switchTask {pK : Bool} {AK : Nat} {sK tK : State} (n : Nat) (priority : Nat) (hA : 25165859 &&& AK = 25165859)  (hK : Keeps pK AK sK tK) :
    Keeps pK AK sK (State.switchTask tK n priority) := by
  refine Keeps.lift (B := 25165859) ?_ hA hK
  clear hK hA
  have hK : Keeps pK 25165859 tK tK := Keeps.refl ..
  simp (maxDischargeDepth := 60) +contextual only [State.switchTask, Nat.reduceAnd, eq_self, true_or, or_true, devSame_refl, keeps_mk, keeps_State_countEngine, keeps_State_drawn, keeps_State_emit, keeps_State_set, hK]

theorem keeps_execTaskPreempt {pK : Bool} {AK : Nat} {sK tK : State} (cluster : Nat) (priority : Nat) (regAccess : Bool) (hA : 25165859 &&& AK = 25165859)  (hK : Keeps pK AK sK tK) :
    KeepsR pK AK sK (execTaskPreempt cluster priority regAccess tK) := by
  refine KeepsR.lift (B := 25165859) ?_ hA hK
  clear hK hA
  have hK : Keeps pK 25165859 tK tK := Keeps.refl ..
  simp (maxDischargeDepth := 60) +contextual only [execTaskPreempt, Nat.reduceAnd, eq_self, true_or, or_true, devSame_refl, keeps_ite, keepsR_next, keeps_mk, keeps_State_switchTask, hK]

theorem keeps_execXltInval {pK : Bool} {AK : Nat} {sK tK : State} (src : Src) (scope : Nat) (_asid : Nat) (_vpn : Nat) (hA : 8388707 &&& AK = 8388707)  (hK : Keeps pK AK sK tK) :
    KeepsR pK AK sK (execXltInval src scope _asid _vpn tK) := by
  refine KeepsR.lift (B := 8388707) ?_ hA hK
  clear hK hA
  have hK : Keeps pK 8388707 tK tK := Keeps.refl ..
  simp (maxDischargeDepth := 60) +contextual only [execXltInval, Nat.reduceAnd, eq_self, implies_true, keeps_ite, keepsR_next, keeps_State_busWrite, keeps_State_set, hK]

theorem keeps_execXltInvalDone {pK : Bool} {AK : Nat} {sK tK : State}  (hA : 8388643 &&& AK = 8388643)  (hK : Keeps pK AK sK tK) :
    KeepsR pK AK sK (execXltInvalDone tK) := by
  refine KeepsR.lift (B := 8388643) ?_ hA hK
  clear hK hA
  have hK : Keeps pK 8388643 tK tK := Keeps.refl ..
  simp (maxDischargeDepth := 60) +contextual only [execXltInvalDone, Nat.reduceAnd, eq_self, keeps_ite, keepsR_next, keeps_State_raise, keeps_State_set, hK]

theorem keeps_execEvtRaiseWrite {pK : Bool} {AK : Nat} {sK tK : State} (src : Src) (event : Nat) (hA : 8388707 &&& AK = 8388707)  (hK : Keeps pK AK sK tK) :
    KeepsR pK AK sK (execEvtRaiseWrite src event tK) := by
  refine KeepsR.lift (B := 8388707) ?_ hA hK
  clear hK hA
  have hK : Keeps pK 8388707 tK tK := Keeps.refl ..
  simp (maxDischargeDepth := 60) +contextual only [execEvtRaiseWrite, Nat.reduceAnd, eq_self, implies_true, keeps_ite, keepsR_next, keeps_State_busWrite, keeps_State_raise, hK]

/-! ## Machine/HostBase.lean -/

theorem keeps_State_setNq {pK : Bool} {AK : Nat} {sK tK : State} (q : NvmQueue) (hA : 4096 &&& AK = 4096)  (hK : Keeps pK AK sK tK) :
    Keeps pK AK sK (State.setNq tK q) := by
  refine Keeps.lift (B := 4096) ?_ hA hK
  clear hK hA
  have hK : Keeps pK 4096 tK tK := Keeps.refl ..
  simp (maxDischargeDepth := 60) +contextual only [State.setNq, Nat.reduceAnd, eq_self, true_or, or_true, devSame_refl, keeps_mk, hK]

theorem keeps_State_setCtrl {pK : Bool} {AK : Nat} {sK tK : State} (c : NvmCtrl) (hA : 4096 &&& AK = 4096)  (hK : Keeps pK AK sK tK) :
    Keeps pK AK sK (State.setCtrl tK c) := by
  refine Keeps.lift (B := 4096) ?_ hA hK
  clear hK hA
  have hK : Keeps pK 4096 tK tK := Keeps.refl ..
  simp (maxDischargeDepth := 60) +contextual only [State.setCtrl, Nat.reduceAnd, eq_self, true_or, or_true, devSame_refl, keeps_mk, hK]

theorem keeps_State_repost {pK : Bool} {AK : Nat} {sK tK : State} (q : NvmQueue) (hA : 128 &&& AK = 128)  (hK : Keeps pK AK sK tK) :
    Keeps pK AK sK (State.repost tK q) := by
  refine Keeps.lift (B := 128) ?_ hA hK
  clear hK hA
  have hK : Keeps pK 128 tK tK := Keeps.refl ..
  unfold State.repost
  (try dsimp only); (repeat' split) <;> simp (maxDischargeDepth := 60) +contextual only [Nat.reduceAnd, eq_self, keeps_State_setWq, hK]

theorem keeps_State_hostMsg {pK : Bool} {AK : Nat} {sK tK : State} (peer : Nat) (ip : IpAddr) (op : Nat) (len : Nat) (window : Nat) (winOffset : Nat) (aux : Nat) (src : MsgSrc) (use : MsgUse) (side : OutSide) (tag : Option Nat) (hA : 25232291 &&& AK = 25232291)  (hK : Keeps pK AK sK tK) :
    Keeps pK AK sK (State.hostMsg tK peer ip op len window winOffset aux src use side tag) := by
  refine Keeps.lift (B := 25232291) ?_ hA hK
  clear hK hA
  have hK : Keeps pK 25232291 tK tK := Keeps.refl ..
  simp (maxDischargeDepth := 60) +contextual only [State.hostMsg, Nat.reduceAnd, eq_self, keeps_State_submit, hK]

theorem keeps_State_tcpSend {pK : Bool} {AK : Nat} {sK tK : State} (conn : Nat) (cls : Nat) (side : OutSide) (pdu : TcpOut) (hA : 8458787 &&& AK = 8458787)  (hK : Keeps pK AK sK tK) :
    Keeps pK AK sK (State.tcpSend tK conn cls side pdu) := by
  refine Keeps.lift (B := 8458787) ?_ hA hK
  clear hK hA
  have hK : Keeps pK 8458787 tK tK := Keeps.refl ..
  unfold State.tcpSend
  (try dsimp only); (repeat' split) <;> simp (maxDischargeDepth := 60) +contextual only [Nat.reduceAnd, eq_self, true_or, or_true, devSame_refl, keeps_mk, keeps_State_fold, keeps_State_perform, hK]

theorem keeps_State_logError {pK : Bool} {AK : Nat} {sK tK : State} (q : NvmQueue) (cid : Nat) (nsid : Nat) (st : NvmeStatus) (hA : 4096 &&& AK = 4096)  (hK : Keeps pK AK sK tK) :
    Keeps pK AK sK (State.logError tK q cid nsid st) := by
  refine Keeps.lift (B := 4096) ?_ hA hK
  clear hK hA
  have hK : Keeps pK 4096 tK tK := Keeps.refl ..
  unfold State.logError
  (try dsimp only); (repeat' split) <;> simp (maxDischargeDepth := 60) +contextual only [Nat.reduceAnd, eq_self, keeps_State_setCtrl, hK]

theorem keeps_State_respondOn {pK : Bool} {AK : Nat} {sK tK : State} (q : NvmQueue) (cid : Nat) (st : NvmeStatus) (dw0 : Nat) (dw1 : Nat) (side : OutSide) (key : Nat) (hA : 25236387 &&& AK = 25236387)  (hK : Keeps pK AK sK tK) :
    Keeps pK AK sK (State.respondOn tK q cid st dw0 dw1 side key) := by
  refine Keeps.lift (B := 25236387) ?_ hA hK
  clear hK hA
  have hK : Keeps pK 25236387 tK tK := Keeps.refl ..
  unfold State.respondOn
  (try dsimp only); (repeat' split) <;> simp (maxDischargeDepth := 60) +contextual only [Nat.reduceAnd, eq_self, keeps_State_drawn, keeps_State_hostMsg, keeps_State_logError, keeps_State_tcpSend, hK]

theorem keeps_State_countStatus {pK : Bool} {AK : Nat} {sK tK : State} (st : NvmeStatus) (hA : 8388643 &&& AK = 8388643)  (hK : Keeps pK AK sK tK) :
    Keeps pK AK sK (State.countStatus tK st) := by
  refine Keeps.lift (B := 8388643) ?_ hA hK
  clear hK hA
  have hK : Keeps pK 8388643 tK tK := Keeps.refl ..
  simp (maxDischargeDepth := 60) +contextual only [State.countStatus, Nat.reduceAnd, eq_self, keeps_ite, keeps_State_bump, keeps_State_raise, hK]

theorem keeps_State_setCmd {pK : Bool} {AK : Nat} {sK tK : State} (c : Cmd) (hA : 4096 &&& AK = 4096)  (hK : Keeps pK AK sK tK) :
    Keeps pK AK sK (State.setCmd tK c) := by
  refine Keeps.lift (B := 4096) ?_ hA hK
  clear hK hA
  have hK : Keeps pK 4096 tK tK := Keeps.refl ..
  simp (maxDischargeDepth := 60) +contextual only [State.setCmd, Nat.reduceAnd, eq_self, true_or, or_true, devSame_refl, keeps_mk, hK]

theorem keeps_State_dropReads {pK : Bool} {AK : Nat} {sK tK : State} (key : Nat) (hA : 74752 &&& AK = 74752)  (hK : Keeps pK AK sK tK) :
    Keeps pK AK sK (State.dropReads tK key) := by
  refine Keeps.lift (B := 74752) ?_ hA hK
  clear hK hA
  have hK : Keeps pK 74752 tK tK := Keeps.refl ..
  unfold State.dropReads
  (try dsimp only); (repeat' split) <;> simp (maxDischargeDepth := 60) +contextual only [Nat.reduceAnd, eq_self, implies_true, keeps_foldl, keeps_State_dropDrv, hK]

theorem keeps_State_dropCmd {pK : Bool} {AK : Nat} {sK tK : State} (c : Cmd) (hA : 78848 &&& AK = 78848)  (hK : Keeps pK AK sK tK) :
    Keeps pK AK sK (State.dropCmd tK c) := by
  refine Keeps.lift (B := 78848) ?_ hA hK
  clear hK hA
  have hK : Keeps pK 78848 tK tK := Keeps.refl ..
  simp (maxDischargeDepth := 60) +contextual only [State.dropCmd, Nat.reduceAnd, eq_self, true_or, or_true, devSame_refl, keeps_mk, keeps_State_dropReads, hK]

theorem keeps_State_endCmd {pK : Bool} {AK : Nat} {sK tK : State} (c : Cmd) (st : NvmeStatus) (dw0 : Nat) (hA : 25245603 &&& AK = 25245603)  (hK : Keeps pK AK sK tK) :
    Keeps pK AK sK (State.endCmd tK c st dw0) := by
  refine Keeps.lift (B := 25245603) ?_ hA hK
  clear hK hA
  have hK : Keeps pK 25245603 tK tK := Keeps.refl ..
  unfold State.endCmd
  (try dsimp only); (repeat' split) <;> simp (maxDischargeDepth := 60) +contextual only [Nat.reduceAnd, eq_self, keeps_State_countStatus, keeps_State_dropCmd, keeps_State_respondOn, hK]

theorem keeps_State_handOver {pK : Bool} {AK : Nat} {sK tK : State} (c : Cmd) (hA : 25244707 &&& AK = 25244707)  (hK : Keeps pK AK sK tK) :
    Keeps pK AK sK (State.handOver tK c) := by
  refine Keeps.lift (B := 25244707) ?_ hA hK
  clear hK hA
  have hK : Keeps pK 25244707 tK tK := Keeps.refl ..
  unfold State.handOver
  (try dsimp only); (repeat' split) <;> simp (maxDischargeDepth := 60) +contextual only [Nat.reduceAnd, eq_self, KeepsP.fst, keeps_State_bump, keeps_State_count, keeps_State_drawn, keeps_State_dropReads, keeps_State_push, keeps_State_raise, keeps_State_setCmd, hK]

/-! ## Machine/ResvOps.lean -/

theorem keeps_State_asyncEvent {pK : Bool} {AK : Nat} {sK tK : State} (ctrl : Nat) (type : Nat) (info : Nat) (log : Nat) (hA : 25236387 &&& AK = 25236387)  (hK : Keeps pK AK sK tK) :
    Keeps pK AK sK (State.asyncEvent tK ctrl type info log) := by
  refine Keeps.lift (B := 25236387) ?_ hA hK
  clear hK hA
  have hK : Keeps pK 25236387 tK tK := Keeps.refl ..
  unfold State.asyncEvent
  (try dsimp only); (repeat' split) <;> simp (maxDischargeDepth := 60) +contextual only [Nat.reduceAnd, eq_self, keeps_State_respondOn, keeps_State_setCtrl, hK]

theorem keeps_State_asyncAll {pK : Bool} {AK : Nat} {sK tK : State} (sub : Nat) (type : Nat) (info : Nat) (log : Nat) (hA : 25236387 &&& AK = 25236387)  (hK : Keeps pK AK sK tK) :
    Keeps pK AK sK (State.asyncAll tK sub type info log) := by
  refine Keeps.lift (B := 25236387) ?_ hA hK
  clear hK hA
  have hK : Keeps pK 25236387 tK tK := Keeps.refl ..
  simp (maxDischargeDepth := 60) +contextual only [State.asyncAll, Nat.reduceAnd, eq_self, implies_true, keeps_foldl, keeps_State_asyncEvent, hK]

theorem keeps_State_setResv {pK : Bool} {AK : Nat} {sK tK : State} (r : Resv) (hA : 8392739 &&& AK = 8392739)  (hK : Keeps pK AK sK tK) :
    Keeps pK AK sK (State.setResv tK r) := by
  refine Keeps.lift (B := 8392739) ?_ hA hK
  clear hK hA
  have hK : Keeps pK 8392739 tK tK := Keeps.refl ..
  simp (maxDischargeDepth := 60) +contextual only [State.setResv, Nat.reduceAnd, eq_self, true_or, or_true, devSame_refl, keeps_ite, keeps_mk, keeps_State_raise, hK]

theorem keeps_State_resvNotice {pK : Bool} {AK : Nat} {sK tK : State} (sub : Nat) (nsid : Nat) (host : Nat) (type : Nat) (hA : 25236387 &&& AK = 25236387)  (hK : Keeps pK AK sK tK) :
    Keeps pK AK sK (State.resvNotice tK sub nsid host type) := by
  refine Keeps.lift (B := 25236387) ?_ hA hK
  clear hK hA
  have hK : Keeps pK 25236387 tK tK := Keeps.refl ..
  unfold State.resvNotice
  (try dsimp only)
  repeat' (first | assumption | rfl | (intro) | (with_reducible first | apply keepsR_next | apply keeps_foldl | apply keepsP_foldl | apply keeps_ite | apply keeps_cond | apply keepsR_ite | apply keepsP_ite | apply keepsO_pair | apply keepsO_none | apply keepsO_ite | apply keepsV_mk | apply keepsV_ite | apply keepsP_mk | apply keeps_State_asyncEvent | apply keeps_State_setCtrl) | simp only [keeps_mk_iff, devSame_refl, devSame_mk, Nat.reduceAnd, eq_self, true_or, or_true, implies_true] | (refine KeepsP.of_eq (by assumption) ?_) | (refine KeepsO.of_eq (by assumption) ?_) | (refine KeepsV.of_eq (by assumption) ?_) | split)

theorem keeps_State_resvNotices {pK : Bool} {AK : Nat} {sK tK : State} (r : Resv) (but : Nat) (type : Nat) (hA : 25236387 &&& AK = 25236387)  (hK : Keeps pK AK sK tK) :
    Keeps pK AK sK (State.resvNotices tK r but type) := by
  refine Keeps.lift (B := 25236387) ?_ hA hK
  clear hK hA
  have hK : Keeps pK 25236387 tK tK := Keeps.refl ..
  simp (maxDischargeDepth := 60) +contextual only [State.resvNotices, Nat.reduceAnd, eq_self, implies_true, keeps_foldl, keeps_State_resvNotice, hK]

theorem keeps_State_abortHosts {pK : Bool} {AK : Nat} {sK tK : State} (sub : Nat) (nsid : Nat) (hosts : List Nat) (hA : 25245603 &&& AK = 25245603)  (hK : Keeps pK AK sK tK) :
    Keeps pK AK sK (State.abortHosts tK sub nsid hosts) := by
  refine Keeps.lift (B := 25245603) ?_ hA hK
  clear hK hA
  have hK : Keeps pK 25245603 tK tK := Keeps.refl ..
  unfold State.abortHosts
  (try dsimp only); (repeat' split) <;> simp (maxDischargeDepth := 60) +contextual only [Nat.reduceAnd, eq_self, implies_true, keeps_foldl, keeps_State_endCmd, hK]

theorem keeps_State_reserve {pK : Bool} {AK : Nat} {sK tK : State} (c : Cmd) (data : List Byte) (hA : 25245603 &&& AK = 25245603)  (hK : Keeps pK AK sK tK) :
    Keeps pK AK sK (State.reserve tK c data) := by
  refine Keeps.lift (B := 25245603) ?_ hA hK
  clear hK hA
  have hK : Keeps pK 25245603 tK tK := Keeps.refl ..
  unfold State.reserve
  (try dsimp only)
  repeat' (first | assumption | rfl | (intro) | (with_reducible first | apply keepsR_next | apply keeps_foldl | apply keepsP_foldl | apply keeps_ite | apply keeps_cond | apply keepsR_ite | apply keepsP_ite | apply keepsO_pair | apply keepsO_none | apply keepsO_ite | apply keepsV_mk | apply keepsV_ite | apply keepsP_mk | apply keeps_State_abortHosts | apply keeps_State_dropCmd | apply keeps_State_endCmd | apply keeps_State_resvNotice | apply keeps_State_resvNotices | apply keeps_State_setResv) | simp only [keeps_mk_iff, devSame_refl, devSame_mk, Nat.reduceAnd, eq_self, true_or, or_true, implies_true] | (refine KeepsP.of_eq (by assumption) ?_) | (refine KeepsO.of_eq (by assumption) ?_) | (refine KeepsV.of_eq (by assumption) ?_) | split)

/-! ## Machine/FwStore.lean -/

theorem keeps_State_setFwSlot {pK : Bool} {AK : Nat} {sK tK : State} (b : Bool) (x : FwSlot) (hA : 524288 &&& AK = 524288)  (hK : Keeps pK AK sK tK) :
    Keeps pK AK sK (State.setFwSlot tK b x) := by
  refine Keeps.lift (B := 524288) ?_ hA hK
  clear hK hA
  have hK : Keeps pK 524288 tK tK := Keeps.refl ..
  simp (maxDischargeDepth := 60) +contextual only [State.setFwSlot, Nat.reduceAnd, eq_self, true_or, or_true, devSame_refl, keeps_mk, hK]

theorem keeps_State_fwCheck {pK : Bool} {AK : Nat} {sK tK : State} (b : Bool) (chk : FwChecks) (hA : 8912931 &&& AK = 8912931)  (hK : Keeps pK AK sK tK) :
    KeepsP pK AK sK (State.fwCheck tK b chk) := by
  refine KeepsP.lift (B := 8912931) ?_ hA hK
  clear hK hA
  have hK : Keeps pK 8912931 tK tK := Keeps.refl ..
  simp (maxDischargeDepth := 60) +contextual only [State.fwCheck, Nat.reduceAnd, eq_self, keeps_ite, keepsP_mk, keeps_State_raise, keeps_State_setFwSlot, hK]

theorem keeps_State_fwOpen {pK : Bool} {AK : Nat} {sK tK : State} (len : Nat) (hA : 524288 &&& AK = 524288)  (hK : Keeps pK AK sK tK) :
    Keeps pK AK sK (State.fwOpen tK len) := by
  refine Keeps.lift (B := 524288) ?_ hA hK
  clear hK hA
  have hK : Keeps pK 524288 tK tK := Keeps.refl ..
  simp (maxDischargeDepth := 60) +contextual only [State.fwOpen, Nat.reduceAnd, eq_self, true_or, or_true, devSame_refl, keeps_mk, keeps_State_setFwSlot, hK]

theorem keeps_State_fwProgram {pK : Bool} {AK : Nat} {sK tK : State} (data : List Byte) (hA : 524288 &&& AK = 524288)  (hK : Keeps pK AK sK tK) :
    Keeps pK AK sK (State.fwProgram tK data) := by
  refine Keeps.lift (B := 524288) ?_ hA hK
  clear hK hA
  have hK : Keeps pK 524288 tK tK := Keeps.refl ..
  simp (maxDischargeDepth := 60) +contextual only [State.fwProgram, Nat.reduceAnd, eq_self, true_or, or_true, devSame_refl, keeps_mk, keeps_State_setFwSlot, hK]

theorem keeps_State_fwClose {pK : Bool} {AK : Nat} {sK tK : State}  (hA : 524288 &&& AK = 524288)  (hK : Keeps pK AK sK tK) :
    Keeps pK AK sK (State.fwClose tK) := by
  refine Keeps.lift (B := 524288) ?_ hA hK
  clear hK hA
  have hK : Keeps pK 524288 tK tK := Keeps.refl ..
  simp (maxDischargeDepth := 60) +contextual only [State.fwClose, Nat.reduceAnd, eq_self, true_or, or_true, devSame_refl, keeps_mk, hK]

theorem keeps_State_fwVerify {pK : Bool} {AK : Nat} {sK tK : State} (chk : FwChecks) (hA : 8912931 &&& AK = 8912931)  (hK : Keeps pK AK sK tK) :
    KeepsP pK AK sK (State.fwVerify tK chk) := by
  refine KeepsP.lift (B := 8912931) ?_ hA hK
  clear hK hA
  have hK : Keeps pK 8912931 tK tK := Keeps.refl ..
  unfold State.fwVerify
  (try dsimp only); (repeat' split) <;> simp (maxDischargeDepth := 60) +contextual only [Nat.reduceAnd, eq_self, keepsP_mk, KeepsP.fst, keeps_State_fwCheck, keeps_State_fwClose, keeps_State_raise, keeps_State_setFwSlot, hK]

theorem keeps_State_fwPiece {pK : Bool} {AK : Nat} {sK tK : State} (c : Cmd) (data : List Byte) (hA : 25769891 &&& AK = 25769891)  (hK : Keeps pK AK sK tK) :
    Keeps pK AK sK (State.fwPiece tK c data) := by
  refine Keeps.lift (B := 25769891) ?_ hA hK
  clear hK hA
  have hK : Keeps pK 25769891 tK tK := Keeps.refl ..
  unfold State.fwPiece
  (try dsimp only); (repeat' split) <;> simp (maxDischargeDepth := 60) +contextual only [Nat.reduceAnd, eq_self, keeps_State_endCmd, keeps_State_fwOpen, keeps_State_fwProgram, hK]

/-! ## Machine/HostIo.lean -/

theorem keeps_State_ackWrite {pK : Bool} {AK : Nat} {sK tK : State} (key : Nat) (hA : 25245603 &&& AK = 25245603)  (hK : Keeps pK AK sK tK) :
    Keeps pK AK sK (State.ackWrite tK key) := by
  refine Keeps.lift (B := 25245603) ?_ hA hK
  clear hK hA
  have hK : Keeps pK 25245603 tK tK := Keeps.refl ..
  unfold State.ackWrite
  (try dsimp only); (repeat' split) <;> simp (maxDischargeDepth := 60) +contextual only [Nat.reduceAnd, eq_self, keeps_State_endCmd, hK]

theorem keeps_State_ackWrites {pK : Bool} {AK : Nat} {sK tK : State}  (hA : 25245603 &&& AK = 25245603)  (hK : Keeps pK AK sK tK) :
    Keeps pK AK sK (State.ackWrites tK) := by
  refine Keeps.lift (B := 25245603) ?_ hA hK
  clear hK hA
  have hK : Keeps pK 25245603 tK tK := Keeps.refl ..
  simp (maxDischargeDepth := 60) +contextual only [State.ackWrites, Nat.reduceAnd, eq_self, implies_true, keeps_foldl, keeps_State_ackWrite, hK]

theorem keeps_State_degradedEvent {pK : Bool} {AK : Nat} {sK tK : State} (g : Nat) (hA : 8388643 &&& AK = 8388643)  (hK : Keeps pK AK sK tK) :
    Keeps pK AK sK (State.degradedEvent tK g) := by
  refine Keeps.lift (B := 8388643) ?_ hA hK
  clear hK hA
  have hK : Keeps pK 8388643 tK tK := Keeps.refl ..
  simp (maxDischargeDepth := 60) +contextual only [State.degradedEvent, Nat.reduceAnd, eq_self, true_or, or_true, devSame_mk, keeps_ite, keeps_mk, keeps_State_raise, hK]

theorem keeps_State_issueRun {pK : Bool} {AK : Nat} {sK tK : State} (key : Nat) (idx : Nat) (hA : 32585251 &&& AK = 32585251)  (hK : Keeps pK AK sK tK) :
    Keeps pK AK sK (State.issueRun tK key idx) := by
  refine Keeps.lift (B := 32585251) ?_ hA hK
  clear hK hA
  have hK : Keeps pK 32585251 tK tK := Keeps.refl ..
  unfold State.issueRun
  (try dsimp only)
  repeat' (first | assumption | rfl | (intro) | (with_reducible first | apply keepsR_next | apply keeps_foldl | apply keepsP_foldl | apply keeps_ite | apply keeps_cond | apply keepsR_ite | apply keepsP_ite | apply keepsO_pair | apply keepsO_none | apply keepsO_ite | apply keepsV_mk | apply keepsV_ite | apply keepsP_mk | apply keeps_State_memberCmd | apply keeps_State_setCmd) | simp only [keeps_mk_iff, devSame_refl, devSame_mk, Nat.reduceAnd, eq_self, true_or, or_true, implies_true] | (refine KeepsP.of_eq (by assumption) ?_) | (refine KeepsO.of_eq (by assumption) ?_) | (refine KeepsV.of_eq (by assumption) ?_) | split)

theorem keeps_State_degradeRun {pK : Bool} {AK : Nat} {sK tK : State} (key : Nat) (idx : Nat) (failed : Bool) (hA : 32585251 &&& AK = 32585251)  (hK : Keeps pK AK sK tK) :
    Keeps pK AK sK (State.degradeRun tK key idx failed) := by
  refine Keeps.lift (B := 32585251) ?_ hA hK
  clear hK hA
  have hK : Keeps pK 32585251 tK tK := Keeps.refl ..
  unfold State.degradeRun
  (try dsimp only); (repeat' split) <;> simp (maxDischargeDepth := 60) +contextual only [Nat.reduceAnd, eq_self, implies_true, keeps_foldl, keeps_State_bump, keeps_State_count, keeps_State_degradedEvent, keeps_State_handOver, keeps_State_issueRun, keeps_State_setCmd, hK]

theorem keeps_State_sendData {pK : Bool} {AK : Nat} {sK tK : State} (c : Cmd) (bytes : List Byte) (hA : 25245603 &&& AK = 25245603)  (hK : Keeps pK AK sK tK) :
    Keeps pK AK sK (State.sendData tK c bytes) := by
  refine Keeps.lift (B := 25245603) ?_ hA hK
  clear hK hA
  have hK : Keeps pK 25245603 tK tK := Keeps.refl ..
  unfold State.sendData
  (try dsimp only); (repeat' split) <;> simp (maxDischargeDepth := 60) +contextual only [Nat.reduceAnd, eq_self, keeps_State_dropCmd, keeps_State_endCmd, keeps_State_hostMsg, keeps_State_setCmd, keeps_State_tcpSend, hK]

theorem keeps_State_haveBlocks {pK : Bool} {AK : Nat} {sK tK : State} (c : Cmd) (hA : 25245603 &&& AK = 25245603)  (hK : Keeps pK AK sK tK) :
    Keeps pK AK sK (State.haveBlocks tK c) := by
  refine Keeps.lift (B := 25245603) ?_ hA hK
  clear hK hA
  have hK : Keeps pK 25245603 tK tK := Keeps.refl ..
  unfold State.haveBlocks
  (try dsimp only); (repeat' split) <;> simp (maxDischargeDepth := 60) +contextual only [Nat.reduceAnd, eq_self, keeps_State_endCmd, keeps_State_sendData, hK]

theorem keeps_State_fillRun {pK : Bool} {AK : Nat} {sK tK : State} (c : Cmd) (idx : Nat) (r : HostRun) (bs : List RdBlk) (hA : 32618403 &&& AK = 32618403)  (hK : Keeps pK AK sK tK) :
    Keeps pK AK sK (State.fillRun tK c idx r bs) := by
  refine Keeps.lift (B := 32618403) ?_ hA hK
  clear hK hA
  have hK : Keeps pK 32618403 tK tK := Keeps.refl ..
  simp (maxDischargeDepth := 60) +contextual only [State.fillRun, Nat.reduceAnd, eq_self, implies_true, keeps_ite, keeps_foldl, keeps_State_countRecon, keeps_State_haveBlocks, keeps_State_openEntry, keeps_State_setCmd, keeps_State_tallyWait, hK]

theorem keeps_State_advanceRun {pK : Bool} {AK : Nat} {sK tK : State} (key : Nat) (idx : Nat) (hA : 32618403 &&& AK = 32618403)  (hK : Keeps pK AK sK tK) :
    Keeps pK AK sK (State.advanceRun tK key idx) := by
  refine Keeps.lift (B := 32618403) ?_ hA hK
  clear hK hA
  have hK : Keeps pK 32618403 tK tK := Keeps.refl ..
  unfold State.advanceRun
  (try dsimp only); (repeat' split) <;> simp (maxDischargeDepth := 60) +contextual only [Nat.reduceAnd, eq_self, implies_true, keeps_foldl, keeps_State_degradeRun, keeps_State_endCmd, keeps_State_fillRun, keeps_State_handOver, keeps_State_issueRun, keeps_State_setCmd, hK]

theorem keeps_State_runResult {pK : Bool} {AK : Nat} {sK tK : State} (key : Nat) (idx : Nat) (col : Nat) (res : Option (List RdBlk)) (hA : 32618403 &&& AK = 32618403)  (hK : Keeps pK AK sK tK) :
    Keeps pK AK sK (State.runResult tK key idx col res) := by
  refine Keeps.lift (B := 32618403) ?_ hA hK
  clear hK hA
  have hK : Keeps pK 32618403 tK tK := Keeps.refl ..
  unfold State.runResult
  (try dsimp only); (repeat' split) <;> simp (maxDischargeDepth := 60) +contextual only [Nat.reduceAnd, eq_self, keeps_State_advanceRun, keeps_State_setCmd, hK]

theorem keeps_State_runPoisoned {pK : Bool} {AK : Nat} {sK tK : State} (key : Nat) (idx : Nat) (hA : 32585635 &&& AK = 32585635)  (hK : Keeps pK AK sK tK) :
    Keeps pK AK sK (State.runPoisoned tK key idx) := by
  refine Keeps.lift (B := 32585635) ?_ hA hK
  clear hK hA
  have hK : Keeps pK 32585635 tK tK := Keeps.refl ..
  unfold State.runPoisoned
  (try dsimp only); (repeat' split) <;> simp (maxDischargeDepth := 60) +contextual only [Nat.reduceAnd, eq_self, keeps_State_endCmd, keeps_State_issueRun, keeps_State_setCmd, hK]

theorem keeps_State_resumeSwept {pK : Bool} {AK : Nat} {sK tK : State}  (hA : 32618403 &&& AK = 32618403)  (hK : Keeps pK AK sK tK) :
    Keeps pK AK sK (State.resumeSwept tK) := by
  refine Keeps.lift (B := 32618403) ?_ hA hK
  clear hK hA
  have hK : Keeps pK 32618403 tK tK := Keeps.refl ..
  unfold State.resumeSwept
  (try dsimp only); (repeat' split) <;> simp (maxDischargeDepth := 60) +contextual only [Nat.reduceAnd, eq_self, implies_true, keeps_foldl, keeps_State_advanceRun, keeps_State_setCmd, hK]

theorem keeps_State_startRead {pK : Bool} {AK : Nat} {sK tK : State} (c : Cmd) (n : NsEnt) (hA : 32585635 &&& AK = 32585635)  (hK : Keeps pK AK sK tK) :
    Keeps pK AK sK (State.startRead tK c n) := by
  refine Keeps.lift (B := 32585635) ?_ hA hK
  clear hK hA
  have hK : Keeps pK 32585635 tK tK := Keeps.refl ..
  unfold State.startRead
  (try dsimp only)
  repeat' (first | assumption | rfl | (intro) | (with_reducible first | apply keepsR_next | apply keeps_foldl | apply keepsP_foldl | apply keeps_ite | apply keeps_cond | apply keepsR_ite | apply keepsP_ite | apply keepsO_pair | apply keepsO_none | apply keepsO_ite | apply keepsV_mk | apply keepsV_ite | apply keepsP_mk | apply keeps_State_bumpBy | apply keeps_State_count | apply keeps_State_degradeRun | apply keeps_State_endCmd | apply keeps_State_handOver | apply keeps_State_haveBlocks | apply keeps_State_issueRun | apply keeps_State_raise | apply keeps_State_rd | apply keeps_State_setCmd) | simp only [keeps_mk_iff, devSame_refl, devSame_mk, Nat.reduceAnd, eq_self, true_or, or_true, implies_true] | (refine KeepsP.of_eq (by assumption) ?_) | (refine KeepsO.of_eq (by assumption) ?_) | (refine KeepsV.of_eq (by assumption) ?_) | split)

theorem keeps_State_writeHeldBlocks {pK : Bool} {AK : Nat} {sK tK : State} (c : Cmd) (hA : 8400931 &&& AK = 8400931)  (hK : Keeps pK AK sK tK) :
    Keeps pK AK sK (State.writeHeldBlocks tK c) := by
  refine Keeps.lift (B := 8400931) ?_ hA hK
  clear hK hA
  have hK : Keeps pK 8400931 tK tK := Keeps.refl ..
  simp (maxDischargeDepth := 60) +contextual only [State.writeHeldBlocks, Nat.reduceAnd, eq_self, true_or, or_true, devSame_refl, keeps_ite, keeps_mk, keeps_State_raise, keeps_State_setCmd, hK]

theorem keeps_State_deallocBlock {pK : Bool} {AK : Nat} {sK tK : State} (sub : Nat) (n : NsEnt) (lba : Nat) (hA : 8450083 &&& AK = 8450083)  (hK : Keeps pK AK sK tK) :
    Keeps pK AK sK (State.deallocBlock tK sub n lba) := by
  refine Keeps.lift (B := 8450083) ?_ hA hK
  clear hK hA
  have hK : Keeps pK 8450083 tK tK := Keeps.refl ..
  unfold State.deallocBlock
  (try dsimp only); (repeat' split) <;> simp (maxDischargeDepth := 60) +contextual only [Nat.reduceAnd, eq_self, true_or, or_true, devSame_refl, keeps_mk, keeps_State_setExtent, keeps_State_unlose, hK]

theorem keeps_State_markMig {pK : Bool} {AK : Nat} {sK tK : State} (sub : Nat) (nsid : Nat) (lba : Nat) (hA : 32768 &&& AK = 32768)  (hK : Keeps pK AK sK tK) :
    Keeps pK AK sK (State.markMig tK sub nsid lba) := by
  refine Keeps.lift (B := 32768) ?_ hA hK
  clear hK hA
  have hK : Keeps pK 32768 tK tK := Keeps.refl ..
  simp (maxDischargeDepth := 60) +contextual only [State.markMig, Nat.reduceAnd, eq_self, true_or, or_true, devSame_refl, keeps_mk, hK]

theorem keeps_State_deallocRanges {pK : Bool} {AK : Nat} {sK tK : State} (c : Cmd) (n : NsEnt) (rs : List (Nat × Nat)) (hA : 32634787 &&& AK = 32634787)  (hK : Keeps pK AK sK tK) :
    Keeps pK AK sK (State.deallocRanges tK c n rs) := by
  refine Keeps.lift (B := 32634787) ?_ hA hK
  clear hK hA
  have hK : Keeps pK 32634787 tK tK := Keeps.refl ..
  simp (maxDischargeDepth := 60) +contextual only [State.deallocRanges, Nat.reduceAnd, eq_self, implies_true, keeps_ite, keeps_foldl, keeps_State_deallocBlock, keeps_State_endCmd, keeps_State_markMig, keeps_State_setCmd, keeps_State_startBrand, hK]

theorem keeps_State_deallocate {pK : Bool} {AK : Nat} {sK tK : State} (c : Cmd) (data : List Byte) (hA : 32634787 &&& AK = 32634787)  (hK : Keeps pK AK sK tK) :
    Keeps pK AK sK (State.deallocate tK c data) := by
  refine Keeps.lift (B := 32634787) ?_ hA hK
  clear hK hA
  have hK : Keeps pK 32634787 tK tK := Keeps.refl ..
  unfold State.deallocate
  (try dsimp only); (repeat' split) <;> simp (maxDischargeDepth := 60) +contextual only [Nat.reduceAnd, eq_self, keeps_State_deallocRanges, keeps_State_endCmd, hK]

theorem keeps_State_dataHere {pK : Bool} {AK : Nat} {sK tK : State} (c : Cmd) (data : List Byte) (hA : 33159075 &&& AK = 33159075)  (hK : Keeps pK AK sK tK) :
    Keeps pK AK sK (State.dataHere tK c data) := by
  refine Keeps.lift (B := 33159075) ?_ hA hK
  clear hK hA
  have hK : Keeps pK 33159075 tK tK := Keeps.refl ..
  unfold State.dataHere
  (try dsimp only); (repeat' split) <;> simp (maxDischargeDepth := 60) +contextual only [Nat.reduceAnd, eq_self, keeps_State_bump, keeps_State_deallocate, keeps_State_endCmd, keeps_State_fwPiece, keeps_State_raise, keeps_State_reserve, keeps_State_startRead, keeps_State_writeHeldBlocks, hK]

theorem keeps_State_pull {pK : Bool} {AK : Nat} {sK tK : State} (c : Cmd) (hA : 25245603 &&& AK = 25245603)  (hK : Keeps pK AK sK tK) :
    Keeps pK AK sK (State.pull tK c) := by
  refine Keeps.lift (B := 25245603) ?_ hA hK
  clear hK hA
  have hK : Keeps pK 25245603 tK tK := Keeps.refl ..
  unfold State.pull
  (try dsimp only); (repeat' split) <;> simp (maxDischargeDepth := 60) +contextual only [Nat.reduceAnd, eq_self, keeps_State_dropCmd, keeps_State_holdTag, keeps_State_hostMsg, keeps_State_tcpSend, hK]

theorem keeps_State_fetchData {pK : Bool} {AK : Nat} {sK tK : State} (c : Cmd) (hA : 33159075 &&& AK = 33159075)  (hK : Keeps pK AK sK tK) :
    Keeps pK AK sK (State.fetchData tK c) := by
  refine Keeps.lift (B := 33159075) ?_ hA hK
  clear hK hA
  have hK : Keeps pK 33159075 tK tK := Keeps.refl ..
  simp (maxDischargeDepth := 60) +contextual only [State.fetchData, Nat.reduceAnd, eq_self, keeps_ite, keeps_State_dataHere, keeps_State_pull, keeps_State_setCmd, hK]

theorem keeps_State_retryPulls {pK : Bool} {AK : Nat} {sK tK : State}  (hA : 25245603 &&& AK = 25245603)  (hK : Keeps pK AK sK tK) :
    Keeps pK AK sK (State.retryPulls tK) := by
  refine Keeps.lift (B := 25245603) ?_ hA hK
  clear hK hA
  have hK : Keeps pK 25245603 tK tK := Keeps.refl ..
  unfold State.retryPulls
  (try dsimp only)
  repeat' (first | assumption | rfl | (intro) | (with_reducible first | apply keepsR_next | apply keeps_foldl | apply keepsP_foldl | apply keeps_ite | apply keeps_cond | apply keepsR_ite | apply keepsP_ite | apply keepsO_pair | apply keepsO_none | apply keepsO_ite | apply keepsV_mk | apply keepsV_ite | apply keepsP_mk | apply keeps_State_pull) | simp only [keeps_mk_iff, devSame_refl, devSame_mk, Nat.reduceAnd, eq_self, true_or, or_true, implies_true] | (refine KeepsP.of_eq (by assumption) ?_) | (refine KeepsO.of_eq (by assumption) ?_) | (refine KeepsV.of_eq (by assumption) ?_) | split)

theorem keeps_State_cmdReport {pK : Bool} {AK : Nat} {sK tK : State} (r : MsgReport) (hA : 33159139 &&& AK = 33159139)  (hK : Keeps pK AK sK tK) :
    Keeps pK AK sK (State.cmdReport tK r) := by
  refine Keeps.lift (B := 33159139) ?_ hA hK
  clear hK hA
  have hK : Keeps pK 33159139 tK tK := Keeps.refl ..
  unfold State.cmdReport
  (try dsimp only); (repeat' split) <;> simp (maxDischargeDepth := 60) +contextual only [Nat.reduceAnd, eq_self, keeps_State_dataHere, keeps_State_endCmd, keeps_State_ledger, hK]

/-! ## Machine/PairOps.lean -/

theorem keeps_State_setRole {pK : Bool} {AK : Nat} {sK tK : State} (r : Nat) (hA : 8388609 &&& AK = 8388609)  (hK : Keeps pK AK sK tK) :
    Keeps pK AK sK (State.setRole tK r) := by
  refine Keeps.lift (B := 8388609) ?_ hA hK
  clear hK hA
  have hK : Keeps pK 8388609 tK tK := Keeps.refl ..
  simp (maxDischargeDepth := 60) +contextual only [State.setRole, Nat.reduceAnd, eq_self, keeps_ite, keeps_State_emit, keeps_State_set, hK]

theorem keeps_State_detach {pK : Bool} {AK : Nat} {sK tK : State}  (hA : 8389155 &&& AK = 8389155)  (hK : Keeps pK AK sK tK) :
    Keeps pK AK sK (State.detach tK) := by
  refine Keeps.lift (B := 8389155) ?_ hA hK
  clear hK hA
  have hK : Keeps pK 8389155 tK tK := Keeps.refl ..
  simp (maxDischargeDepth := 60) +contextual only [State.detach, Nat.reduceAnd, eq_self, true_or, or_true, devSame_refl, keeps_mk, keeps_State_raise, keeps_State_setRole, hK]

theorem keeps_State_consume {pK : Bool} {AK : Nat} {sK tK : State} (n : Nat) (kind : Input → Bool) (f : InputRec → State → State) (hA : 514 &&& AK = 514) (hF_f : ∀ (t : State) (x0 : InputRec), Keeps pK AK sK t → Keeps pK AK sK (f x0 t)) (hK : Keeps pK AK sK tK) :
    Keeps pK AK sK (State.consume tK n kind f) := by
  have g0 : 2 &&& AK = 2 := sub_trans (by decide) hA
  have c0 : AK &&& 2 = 2 := by rw [Nat.and_comm]; exact g0
  have g1 : 512 &&& AK = 512 := sub_trans (by decide) hA
  have c1 : AK &&& 512 = 512 := by rw [Nat.and_comm]; exact g1
  unfold State.consume
  (try dsimp only); (repeat' split) <;> simp (maxDischargeDepth := 60) +contextual only [eq_self, true_or, or_true, devSame_mk, keeps_mk, hK, hF_f, c0, c1]

theorem keeps_State_observed {pK : Bool} {AK : Nat} {sK tK : State} (i : Input) (effect : State → State) (hA : 8389155 &&& AK = 8389155) (hF_effect : ∀ (t : State) , Keeps pK AK sK t → Keeps pK AK sK (effect t)) (hK : Keeps pK AK sK tK) :
    Keeps pK AK sK (State.observed tK i effect) := by
  have g0 : 1 &&& AK = 1 := sub_trans (by decide) hA
  have c0 : AK &&& 1 = 1 := by rw [Nat.and_comm]; exact g0
  have g1 : 2 &&& AK = 2 := sub_trans (by decide) hA
  have c1 : AK &&& 2 = 2 := by rw [Nat.and_comm]; exact g1
  have g2 : 32 &&& AK = 32 := sub_trans (by decide) hA
  have c2 : AK &&& 32 = 32 := by rw [Nat.and_comm]; exact g2
  have g3 : 512 &&& AK = 512 := sub_trans (by decide) hA
  have c3 : AK &&& 512 = 512 := by rw [Nat.and_comm]; exact g3
  have g4 : 8388608 &&& AK = 8388608 := sub_trans (by decide) hA
  have c4 : AK &&& 8388608 = 8388608 := by rw [Nat.and_comm]; exact g4
  have g5 : 8389155 &&& AK = 8389155 := sub_trans (by decide) hA
  have c5 : AK &&& 8389155 = 8389155 := by rw [Nat.and_comm]; exact g5
  simp (maxDischargeDepth := 60) +contextual only [State.observed, eq_self, keeps_ite, keeps_State_observe, hK, hF_effect, g5]

/-! ## Machine/VaultOps.lean -/

theorem keeps_State_vaultWrite {pK : Bool} {AK : Nat} {sK tK : State} (seq : Nat) (m : VMem) (off : Nat) (blocks : List (List Byte)) (use : DrvUse) (hA : 32581155 &&& AK = 32581155)  (hK : Keeps pK AK sK tK) :
    Keeps pK AK sK (State.vaultWrite tK seq m off blocks use) := by
  refine Keeps.lift (B := 32581155) ?_ hA hK
  clear hK hA
  have hK : Keeps pK 32581155 tK tK := Keeps.refl ..
  unfold State.vaultWrite
  (try dsimp only); (repeat' split) <;> simp (maxDischargeDepth := 60) +contextual only [Nat.reduceAnd, eq_self, keeps_State_memberCmd, hK]

theorem keeps_State_setDump {pK : Bool} {AK : Nat} {sK tK : State} (d : Dump) (hA : 32768 &&& AK = 32768)  (hK : Keeps pK AK sK tK) :
    Keeps pK AK sK (State.setDump tK d) := by
  refine Keeps.lift (B := 32768) ?_ hA hK
  clear hK hA
  have hK : Keeps pK 32768 tK tK := Keeps.refl ..
  simp (maxDischargeDepth := 60) +contextual only [State.setDump, Nat.reduceAnd, eq_self, true_or, or_true, devSame_refl, keeps_mk, hK]

theorem keeps_State_writeHeaders {pK : Bool} {AK : Nat} {sK tK : State} (d : Dump) (kind : Nat) (state : Nat) (hA : 32581155 &&& AK = 32581155)  (hK : Keeps pK AK sK tK) :
    Keeps pK AK sK (State.writeHeaders tK d kind state) := by
  refine Keeps.lift (B := 32581155) ?_ hA hK
  clear hK hA
  have hK : Keeps pK 32581155 tK tK := Keeps.refl ..
  simp (maxDischargeDepth := 60) +contextual only [State.writeHeaders, Nat.reduceAnd, eq_self, implies_true, keeps_foldl, keeps_State_vaultWrite, hK]

theorem keeps_State_writeSegment {pK : Bool} {AK : Nat} {sK tK : State} (d : Dump) (i : Nat) (copy : Nat) (vs : List Ver) (m : VMem) (slot : Nat) (hA : 32581155 &&& AK = 32581155)  (hK : Keeps pK AK sK tK) :
    Keeps pK AK sK (State.writeSegment tK d i copy vs m slot) := by
  refine Keeps.lift (B := 32581155) ?_ hA hK
  clear hK hA
  have hK : Keeps pK 32581155 tK tK := Keeps.refl ..
  simp (maxDischargeDepth := 60) +contextual only [State.writeSegment, Nat.reduceAnd, eq_self, keeps_State_vaultWrite, hK]

theorem keeps_State_writeControl {pK : Bool} {AK : Nat} {sK tK : State} (d : Dump) (i : Nat) (hA : 32581155 &&& AK = 32581155)  (hK : Keeps pK AK sK tK) :
    Keeps pK AK sK (State.writeControl tK d i) := by
  refine Keeps.lift (B := 32581155) ?_ hA hK
  clear hK hA
  have hK : Keeps pK 32581155 tK tK := Keeps.refl ..
  unfold State.writeControl
  (try dsimp only); (repeat' split) <;> simp (maxDischargeDepth := 60) +contextual only [Nat.reduceAnd, eq_self, keeps_State_vaultWrite, hK]

theorem keeps_State_writeLedgerCopy {pK : Bool} {AK : Nat} {sK tK : State} (d : Dump) (i : Nat) (hA : 32581155 &&& AK = 32581155)  (hK : Keeps pK AK sK tK) :
    Keeps pK AK sK (State.writeLedgerCopy tK d i) := by
  refine Keeps.lift (B := 32581155) ?_ hA hK
  clear hK hA
  have hK : Keeps pK 32581155 tK tK := Keeps.refl ..
  unfold State.writeLedgerCopy
  (try dsimp only); (repeat' split) <;> simp (maxDischargeDepth := 60) +contextual only [Nat.reduceAnd, eq_self, keeps_State_vaultWrite, hK]

theorem keeps_State_failMigs {pK : Bool} {AK : Nat} {sK tK : State}  (hA : 8421411 &&& AK = 8421411)  (hK : Keeps pK AK sK tK) :
    Keeps pK AK sK (State.failMigs tK) := by
  refine Keeps.lift (B := 8421411) ?_ hA hK
  clear hK hA
  have hK : Keeps pK 8421411 tK tK := Keeps.refl ..
  simp (maxDischargeDepth := 60) +contextual only [State.failMigs, Nat.reduceAnd, eq_self, true_or, or_true, devSame_refl, keeps_ite, keeps_mk, keeps_State_raise, hK]

theorem keeps_State_beginDump {pK : Bool} {AK : Nat} {sK tK : State}  (hA : 8421411 &&& AK = 8421411)  (hK : Keeps pK AK sK tK) :
    Keeps pK AK sK (State.beginDump tK) := by
  refine Keeps.lift (B := 8421411) ?_ hA hK
  clear hK hA
  have hK : Keeps pK 8421411 tK tK := Keeps.refl ..
  simp (maxDischargeDepth := 60) +contextual only [State.beginDump, Nat.reduceAnd, eq_self, true_or, or_true, devSame_refl, keeps_ite, keeps_mk, keeps_State_failMigs, keeps_State_setDump, hK]

theorem keeps_State_dumpHeaders {pK : Bool} {AK : Nat} {sK tK : State} (d : Dump) (hA : 32613923 &&& AK = 32613923)  (hK : Keeps pK AK sK tK) :
    Keeps pK AK sK (State.dumpHeaders tK d) := by
  refine Keeps.lift (B := 32613923) ?_ hA hK
  clear hK hA
  have hK : Keeps pK 32613923 tK tK := Keeps.refl ..
  simp (maxDischargeDepth := 60) +contextual only [State.dumpHeaders, Nat.reduceAnd, eq_self, keeps_State_raise, keeps_State_set, keeps_State_setDump, keeps_State_writeHeaders, hK]

theorem keeps_State_retireDump {pK : Bool} {AK : Nat} {sK tK : State} (d : Dump) (hA : 32613923 &&& AK = 32613923)  (hK : Keeps pK AK sK tK) :
    Keeps pK AK sK (State.retireDump tK d) := by
  refine Keeps.lift (B := 32613923) ?_ hA hK
  clear hK hA
  have hK : Keeps pK 32613923 tK tK := Keeps.refl ..
  simp (maxDischargeDepth := 60) +contextual only [State.retireDump, Nat.reduceAnd, eq_self, keeps_State_setDump, keeps_State_writeHeaders, hK]

theorem keeps_State_dumpNext {pK : Bool} {AK : Nat} {sK tK : State} (d : Dump) (hA : 32613987 &&& AK = 32613987)  (hK : Keeps pK AK sK tK) :
    Keeps pK AK sK (State.dumpNext tK d) := by
  refine Keeps.lift (B := 32613987) ?_ hA hK
  clear hK hA
  have hK : Keeps pK 32613987 tK tK := Keeps.refl ..
  unfold State.dumpNext
  (try dsimp only); (repeat' split) <;> simp (maxDischargeDepth := 60) +contextual only [Nat.reduceAnd, eq_self, true_or, or_true, implies_true, devSame_refl, keeps_foldl, keeps_mk, keeps_State_beginDump, keeps_State_ledger, keeps_State_retireDump, keeps_State_setDump, keeps_State_writeControl, keeps_State_writeLedgerCopy, keeps_State_writeSegment, hK]

theorem keeps_State_dumpRun_core {pK : Bool} {sK tK : State} (n : Nat) (hK : Keeps pK 32613987 sK tK) :
    Keeps pK 32613987 sK (State.dumpRun n tK) := by
  induction n generalizing tK with
  | zero => exact hK
  | succ n ih =>
    unfold State.dumpRun
    try dsimp only
    repeat' (first | assumption | rfl | (intro) | (with_reducible first | apply ih | apply keeps_State_dumpNext | apply keeps_foldl) | simp only [keeps_mk_iff, devSame_refl, devSame_mk, Nat.reduceAnd, eq_self, true_or, or_true] | (refine KeepsP.of_eq (by assumption) ?_) | (refine KeepsO.of_eq (by assumption) ?_) | split)

theorem keeps_State_dumpRun {pK : Bool} {AK : Nat} {sK tK : State} (n : Nat) (hA : 32613987 &&& AK = 32613987) (hK : Keeps pK AK sK tK) :
    Keeps pK AK sK (State.dumpRun n tK) :=
  Keeps.lift (keeps_State_dumpRun_core n (Keeps.refl ..)) hA hK

theorem keeps_State_rewriteCopy {pK : Bool} {AK : Nat} {sK tK : State} (d : Dump) (hA : 8421411 &&& AK = 8421411)  (hK : Keeps pK AK sK tK) :
    Keeps pK AK sK (State.rewriteCopy tK d) := by
  refine Keeps.lift (B := 8421411) ?_ hA hK
  clear hK hA
  have hK : Keeps pK 8421411 tK tK := Keeps.refl ..
  simp (maxDischargeDepth := 60) +contextual only [State.rewriteCopy, Nat.reduceAnd, eq_self, keeps_State_bump, keeps_State_raise, keeps_State_setDump, hK]

theorem keeps_State_vaultFailed {pK : Bool} {AK : Nat} {sK tK : State} (kind : Nat) (index : Nat) (copy : Nat) (hA : 32613923 &&& AK = 32613923)  (hK : Keeps pK AK sK tK) :
    Keeps pK AK sK (State.vaultFailed tK kind index copy) := by
  refine Keeps.lift (B := 32613923) ?_ hA hK
  clear hK hA
  have hK : Keeps pK 32613923 tK tK := Keeps.refl ..
  unfold State.vaultFailed
  (try dsimp only); (repeat' split) <;> simp (maxDischargeDepth := 60) +contextual only [Nat.reduceAnd, eq_self, keeps_State_rewriteCopy, keeps_State_setDump, keeps_State_writeControl, keeps_State_writeLedgerCopy, keeps_State_writeSegment, hK]

theorem keeps_State_vaultDone {pK : Bool} {AK : Nat} {sK tK : State} (kind : Nat) (index : Nat) (copy : Nat) (ok : Bool) (hA : 32613987 &&& AK = 32613987)  (hK : Keeps pK AK sK tK) :
    Keeps pK AK sK (State.vaultDone tK kind index copy ok) := by
  refine Keeps.lift (B := 32613987) ?_ hA hK
  clear hK hA
  have hK : Keeps pK 32613987 tK tK := Keeps.refl ..
  unfold State.vaultDone
  (try dsimp only)
  repeat' (first | assumption | rfl | (intro) | (with_reducible first | apply keepsR_next | apply keeps_foldl | apply keepsP_foldl | apply keeps_ite | apply keeps_cond | apply keepsR_ite | apply keepsP_ite | apply keepsO_pair | apply keepsO_none | apply keepsO_ite | apply keepsV_mk | apply keepsV_ite | apply keepsP_mk | apply keeps_State_dumpRun | apply keeps_State_setDump | apply keeps_State_stage | apply keeps_State_vaultFailed) | simp only [keeps_mk_iff, devSame_refl, devSame_mk, Nat.reduceAnd, eq_self, true_or, or_true, implies_true] | (refine KeepsP.of_eq (by assumption) ?_) | (refine KeepsO.of_eq (by assumption) ?_) | (refine KeepsV.of_eq (by assumption) ?_) | split)

/-! ## Machine/Completion.lean -/

theorem keeps_State_reissue {pK : Bool} {AK : Nat} {sK tK : State} (c : DrvCmd) (hA : 32581155 &&& AK = 32581155)  (hK : Keeps pK AK sK tK) :
    Keeps pK AK sK (State.reissue tK c) := by
  refine Keeps.lift (B := 32581155) ?_ hA hK
  clear hK hA
  have hK : Keeps pK 32581155 tK tK := Keeps.refl ..
  unfold State.reissue
  (try dsimp only); (repeat' split) <;> simp (maxDischargeDepth := 60) +contextual only [Nat.reduceAnd, eq_self, true_or, or_true, devSame_refl, keeps_mk, keeps_State_bump, keeps_State_foldDrv, keeps_State_launch, keeps_State_unequip, hK]

theorem keeps_State_unhold {pK : Bool} {AK : Nat} {sK tK : State} (c : DrvCmd) (port : Nat) (hA : 32580643 &&& AK = 32580643)  (hK : Keeps pK AK sK tK) :
    Keeps pK AK sK (State.unhold tK c port) := by
  refine Keeps.lift (B := 32580643) ?_ hA hK
  clear hK hA
  have hK : Keeps pK 32580643 tK tK := Keeps.refl ..
  unfold State.unhold
  (try dsimp only); (repeat' split) <;> simp (maxDischargeDepth := 60) +contextual only [Nat.reduceAnd, eq_self, keeps_State_launch, keeps_State_setDrv, hK]

theorem keeps_State_leftLowPower {pK : Bool} {AK : Nat} {sK tK : State} (n : Nat) (hA : 32580643 &&& AK = 32580643)  (hK : Keeps pK AK sK tK) :
    Keeps pK AK sK (State.leftLowPower tK n) := by
  refine Keeps.lift (B := 32580643) ?_ hA hK
  clear hK hA
  have hK : Keeps pK 32580643 tK tK := Keeps.refl ..
  simp (maxDischargeDepth := 60) +contextual only [State.leftLowPower, Nat.reduceAnd, eq_self, implies_true, keeps_ite, keeps_foldl, keeps_State_setPort, keeps_State_unhold, hK]

theorem keeps_State_brandFailed {pK : Bool} {AK : Nat} {sK tK : State} (g : Nat) (m : Nat) (hA : 32630307 &&& AK = 32630307)  (hK : Keeps pK AK sK tK) :
    Keeps pK AK sK (State.brandFailed tK g m) := by
  refine Keeps.lift (B := 32630307) ?_ hA hK
  clear hK hA
  have hK : Keeps pK 32630307 tK tK := Keeps.refl ..
  simp (maxDischargeDepth := 60) +contextual only [State.brandFailed, Nat.reduceAnd, eq_self, keeps_State_bump, keeps_State_failMember, keeps_State_raise, hK]

theorem keeps_State_brandDone {pK : Bool} {AK : Nat} {sK tK : State} (g : Nat) (m : Nat) (copy : Nat) (part : Nat) (hA : 32597539 &&& AK = 32597539)  (hK : Keeps pK AK sK tK) :
    Keeps pK AK sK (State.brandDone tK g m copy part) := by
  refine Keeps.lift (B := 32597539) ?_ hA hK
  clear hK hA
  have hK : Keeps pK 32597539 tK tK := Keeps.refl ..
  unfold State.brandDone
  (try dsimp only); (repeat' split) <;> simp (maxDischargeDepth := 60) +contextual only [Nat.reduceAnd, eq_self, keeps_State_brandIssue, keeps_State_setGrp, hK]

theorem keeps_State_regone {pK : Bool} {AK : Nat} {sK tK : State}  (hA : 16384 &&& AK = 16384)  (hK : Keeps pK AK sK tK) :
    Keeps pK AK sK (State.regone tK) := by
  refine Keeps.lift (B := 16384) ?_ hA hK
  clear hK hA
  have hK : Keeps pK 16384 tK tK := Keeps.refl ..
  simp (maxDischargeDepth := 60) +contextual only [State.regone, Nat.reduceAnd, eq_self, true_or, or_true, devSame_refl, keeps_mk, hK]

theorem keeps_State_orphan {pK : Bool} {AK : Nat} {sK tK : State} (c : DrvCmd) (hA : 32618467 &&& AK = 32618467)  (hK : Keeps pK AK sK tK) :
    Keeps pK AK sK (State.orphan tK c) := by
  refine Keeps.lift (B := 32618467) ?_ hA hK
  clear hK hA
  have hK : Keeps pK 32618467 tK tK := Keeps.refl ..
  unfold State.orphan
  (try dsimp only); (repeat' split) <;> simp (maxDischargeDepth := 60) +contextual only [Nat.reduceAnd, eq_self, keeps_State_dropDrv, keeps_State_reissue, keeps_State_runResult, keeps_State_vaultDone, hK]

theorem keeps_State_setReady {pK : Bool} {AK : Nat} {sK tK : State} (sideB : Bool) (n : Nat) (b : Bool) (hA : 1024 &&& AK = 1024)  (hK : Keeps pK AK sK tK) :
    Keeps pK AK sK (State.setReady tK sideB n b) := by
  refine Keeps.lift (B := 1024) ?_ hA hK
  clear hK hA
  have hK : Keeps pK 1024 tK tK := Keeps.refl ..
  simp (maxDischargeDepth := 60) +contextual only [State.setReady, Nat.reduceAnd, eq_self, keeps_State_setPort, hK]

theorem keeps_State_portDown {pK : Bool} {AK : Nat} {sK tK : State} (sideB : Bool) (n : Nat) (hA : 32634851 &&& AK = 32634851)  (hK : Keeps pK AK sK tK) :
    Keeps pK AK sK (State.portDown tK sideB n) := by
  refine Keeps.lift (B := 32634851) ?_ hA hK
  clear hK hA
  have hK : Keeps pK 32634851 tK tK := Keeps.refl ..
  simp (maxDischargeDepth := 60) +contextual only [State.portDown, Nat.reduceAnd, eq_self, implies_true, keeps_ite, keeps_foldl, keeps_State_orphan, keeps_State_regone, keeps_State_setReady, keeps_State_vaultChanged, hK]

theorem keeps_State_portUp {pK : Bool} {AK : Nat} {sK tK : State} (sideB : Bool) (n : Nat) (hA : 32597027 &&& AK = 32597027)  (hK : Keeps pK AK sK tK) :
    Keeps pK AK sK (State.portUp tK sideB n) := by
  refine Keeps.lift (B := 32597027) ?_ hA hK
  clear hK hA
  have hK : Keeps pK 32597027 tK tK := Keeps.refl ..
  unfold State.portUp
  (try dsimp only); (repeat' split) <;> simp (maxDischargeDepth := 60) +contextual only [Nat.reduceAnd, eq_self, implies_true, keeps_foldl, keeps_State_regone, keeps_State_setReady, keeps_State_setPort, keeps_State_unhold, keeps_State_vaultChanged, hK]

theorem keeps_State_resetDrive {pK : Bool} {AK : Nat} {sK tK : State} (sideB : Bool) (n : Nat) (hA : 32634851 &&& AK = 32634851)  (hK : Keeps pK AK sK tK) :
    Keeps pK AK sK (State.resetDrive tK sideB n) := by
  refine Keeps.lift (B := 32634851) ?_ hA hK
  clear hK hA
  have hK : Keeps pK 32634851 tK tK := Keeps.refl ..
  simp (maxDischargeDepth := 60) +contextual only [State.resetDrive, Nat.reduceAnd, eq_self, keeps_ite, keeps_State_observe, keeps_State_portDown, keeps_State_portTo, keeps_State_set, keeps_State_setPort, hK]

theorem keeps_State_timeoutEvent {pK : Bool} {AK : Nat} {sK tK : State} (n : Nat) (hA : 8388643 &&& AK = 8388643)  (hK : Keeps pK AK sK tK) :
    Keeps pK AK sK (State.timeoutEvent tK n) := by
  refine Keeps.lift (B := 8388643) ?_ hA hK
  clear hK hA
  have hK : Keeps pK 8388643 tK tK := Keeps.refl ..
  simp (maxDischargeDepth := 60) +contextual only [State.timeoutEvent, Nat.reduceAnd, eq_self, keeps_State_raiseLimited, hK]

theorem keeps_State_countTimeouts {pK : Bool} {AK : Nat} {sK tK : State} (c : DrvCmd) (k : Nat) (hA : 32634851 &&& AK = 32634851)  (hK : Keeps pK AK sK tK) :
    Keeps pK AK sK (State.countTimeouts tK c k) := by
  refine Keeps.lift (B := 32634851) ?_ hA hK
  clear hK hA
  have hK : Keeps pK 32634851 tK tK := Keeps.refl ..
  simp (maxDischargeDepth := 60) +contextual only [State.countTimeouts, Nat.reduceAnd, eq_self, keeps_ite, keeps_State_bumpBy, keeps_State_resetDrive, keeps_State_setPort, keeps_State_timeoutEvent, hK]

theorem keeps_State_writeError {pK : Bool} {AK : Nat} {sK tK : State} (c : DrvCmd) (sct : Nat) (g : Nat) (hA : 32634851 &&& AK = 32634851)  (hK : Keeps pK AK sK tK) :
    Keeps pK AK sK (State.writeError tK c sct g) := by
  refine Keeps.lift (B := 32634851) ?_ hA hK
  clear hK hA
  have hK : Keeps pK 32634851 tK tK := Keeps.refl ..
  unfold State.writeError
  (try dsimp only); (repeat' split) <;> simp (maxDischargeDepth := 60) +contextual only [Nat.reduceAnd, eq_self, keeps_State_countTimeouts, keeps_State_dropDrv, keeps_State_failMember, keeps_State_reissue, hK]

theorem keeps_State_readDone {pK : Bool} {AK : Nat} {sK tK : State} (k : Nat) (i : Nat) (j : Nat) (check : Nat) (ok : Bool) (bs : List Blk) (hA : 32634787 &&& AK = 32634787)  (hK : Keeps pK AK sK tK) :
    Keeps pK AK sK (State.readDone tK k i j check ok bs) := by
  refine Keeps.lift (B := 32634787) ?_ hA hK
  clear hK hA
  have hK : Keeps pK 32634787 tK tK := Keeps.refl ..
  unfold State.readDone
  (try dsimp only); (repeat' split) <;> simp (maxDischargeDepth := 60) +contextual only [Nat.reduceAnd, eq_self, implies_true, keeps_foldl, keeps_State_bump, keeps_State_endCmd, keeps_State_raise, keeps_State_recordLost, keeps_State_runPoisoned, keeps_State_runResult, keeps_State_startBrand, hK]

theorem keeps_State_driveDone {pK : Bool} {AK : Nat} {sK tK : State} (c : DrvCmd) (check : Nat) (sct : Nat) (sc : Nat) (bs : List Blk) (hA : 32634851 &&& AK = 32634851)  (hK : Keeps pK AK sK tK) :
    Keeps pK AK sK (State.driveDone tK c check sct sc bs) := by
  refine Keeps.lift (B := 32634851) ?_ hA hK
  clear hK hA
  have hK : Keeps pK 32634851 tK tK := Keeps.refl ..
  unfold State.driveDone
  (try dsimp only); (repeat' split) <;> simp (maxDischargeDepth := 60) +contextual only [Nat.reduceAnd, eq_self, keeps_State_brandDone, keeps_State_brandFailed, keeps_State_detach, keeps_State_dropDrv, keeps_State_raise, keeps_State_readDone, keeps_State_resumeSwept, keeps_State_setPort, keeps_State_vaultDone, keeps_State_writeDone, keeps_State_writeError, hK]

theorem keeps_State_driveCqe {pK : Bool} {AK : Nat} {sK tK : State} (sideB : Bool) (port : Nat) (check : Nat) (cqe : DrvCqe) (remote : List Blk) (hA : 32634851 &&& AK = 32634851)  (hK : Keeps pK AK sK tK) :
    Keeps pK AK sK (State.driveCqe sideB port check cqe remote tK) := by
  refine Keeps.lift (B := 32634851) ?_ hA hK
  clear hK hA
  have hK : Keeps pK 32634851 tK tK := Keeps.refl ..
  unfold State.driveCqe
  (try dsimp only); (repeat' split) <;> simp (maxDischargeDepth := 60) +contextual only [Nat.reduceAnd, eq_self, keeps_State_driveDone, hK]

theorem keeps_execDriveCmdTimeout {pK : Bool} {AK : Nat} {sK tK : State} (cid : Nat) (hA : 32634851 &&& AK = 32634851)  (hK : Keeps pK AK sK tK) :
    KeepsR pK AK sK (execDriveCmdTimeout cid tK) := by
  refine KeepsR.lift (B := 32634851) ?_ hA hK
  clear hK hA
  have hK : Keeps pK 32634851 tK tK := Keeps.refl ..
  unfold execDriveCmdTimeout
  (try dsimp only)
  repeat' (first | assumption | rfl | (intro) | (with_reducible first | apply keepsR_next | apply keeps_foldl | apply keepsP_foldl | apply keeps_ite | apply keeps_cond | apply keepsR_ite | apply keepsP_ite | apply keepsO_pair | apply keepsO_none | apply keepsO_ite | apply keepsV_mk | apply keepsV_ite | apply keepsP_mk | apply keeps_State_brandFailed | apply keeps_State_countTimeouts | apply keeps_State_dropDrv | apply keeps_State_inStep | apply keeps_State_reissue | apply keeps_State_runResult | apply keeps_State_vaultDone) | simp only [keeps_mk_iff, devSame_refl, devSame_mk, Nat.reduceAnd, eq_self, true_or, or_true, implies_true] | (refine KeepsP.of_eq (by assumption) ?_) | (refine KeepsO.of_eq (by assumption) ?_) | (refine KeepsV.of_eq (by assumption) ?_) | split)

theorem keeps_execMemberUnreachableTimeout {pK : Bool} {AK : Nat} {sK tK : State} (group : Nat) (member : Nat) (hA : 32630307 &&& AK = 32630307)  (hK : Keeps pK AK sK tK) :
    KeepsR pK AK sK (execMemberUnreachableTimeout group member tK) := by
  refine KeepsR.lift (B := 32630307) ?_ hA hK
  clear hK hA
  have hK : Keeps pK 32630307 tK tK := Keeps.refl ..
  unfold execMemberUnreachableTimeout
  (try dsimp only)
  repeat' (first | assumption | rfl | (intro) | (with_reducible first | apply keepsR_next | apply keeps_foldl | apply keepsP_foldl | apply keeps_ite | apply keeps_cond | apply keepsR_ite | apply keepsP_ite | apply keepsO_pair | apply keepsO_none | apply keepsO_ite | apply keepsV_mk | apply keepsV_ite | apply keepsP_mk | apply keeps_State_failMember | apply keeps_State_inStep) | simp only [keeps_mk_iff, devSame_refl, devSame_mk, Nat.reduceAnd, eq_self, true_or, or_true, implies_true] | (refine KeepsP.of_eq (by assumption) ?_) | (refine KeepsO.of_eq (by assumption) ?_) | (refine KeepsV.of_eq (by assumption) ?_) | split)

/-! ## Machine/Assembly.lean -/

theorem keeps_State_adopt {pK : Bool} {AK : Nat} {sK tK : State} (b : Brand) (hashOk : Bool) (lstOk : Bool) (hA : 8405027 &&& AK = 8405027)  (hK : Keeps pK AK sK tK) :
    Keeps pK AK sK (State.adopt tK b hashOk lstOk) := by
  refine Keeps.lift (B := 8405027) ?_ hA hK
  clear hK hA
  have hK : Keeps pK 8405027 tK tK := Keeps.refl ..
  unfold State.adopt
  (try dsimp only); (repeat' split) <;> simp (maxDischargeDepth := 60) +contextual only [Nat.reduceAnd, eq_self, keeps_State_raise, keeps_State_setGrp, hK]

theorem keeps_State_seat {pK : Bool} {AK : Nat} {sK tK : State} (sideB : Bool) (port : Nat) (g : Nat) (m : Nat) (hA : 8406051 &&& AK = 8406051)  (hK : Keeps pK AK sK tK) :
    Keeps pK AK sK (State.seat tK sideB port g m) := by
  refine Keeps.lift (B := 8406051) ?_ hA hK
  clear hK hA
  have hK : Keeps pK 8406051 tK tK := Keeps.refl ..
  unfold State.seat
  (try dsimp only); (repeat' split) <;> simp (maxDischargeDepth := 60) +contextual only [Nat.reduceAnd, eq_self, keeps_State_raise, keeps_State_setGrp, keeps_State_setPort, hK]

theorem keeps_State_tryForm {pK : Bool} {AK : Nat} {sK tK : State} (g : Nat) (hA : 32597539 &&& AK = 32597539)  (hK : Keeps pK AK sK tK) :
    Keeps pK AK sK (State.tryForm tK g) := by
  refine Keeps.lift (B := 32597539) ?_ hA hK
  clear hK hA
  have hK : Keeps pK 32597539 tK tK := Keeps.refl ..
  unfold State.tryForm
  (try dsimp only); (repeat' split) <;> simp (maxDischargeDepth := 60) +contextual only [Nat.reduceAnd, eq_self, keeps_State_setGrp, keeps_State_startBrand, hK]

theorem keeps_State_driveEvent {pK : Bool} {AK : Nat} {sK tK : State} (sideB : Bool) (n : Nat) (e : DrvEvent) (hA : 32634851 &&& AK = 32634851)  (hK : Keeps pK AK sK tK) :
    Keeps pK AK sK (State.driveEvent sideB n e tK) := by
  refine Keeps.lift (B := 32634851) ?_ hA hK
  clear hK hA
  have hK : Keeps pK 32634851 tK tK := Keeps.refl ..
  unfold State.driveEvent
  (try dsimp only); (repeat' split) <;> simp (maxDischargeDepth := 60) +contextual only [Nat.reduceAnd, eq_self, keeps_State_adopt, keeps_State_failMember, keeps_State_portDown, keeps_State_portUp, keeps_State_seat, keeps_State_setPort, keeps_State_tryForm, hK]

theorem keeps_State_sawDrive {pK : Bool} {AK : Nat} {sK tK : State} (n : Nat) (e : DrvEvent) (hA : 32634851 &&& AK = 32634851)  (hK : Keeps pK AK sK tK) :
    Keeps pK AK sK (State.sawDrive tK n e) := by
  refine Keeps.lift (B := 32634851) ?_ hA hK
  clear hK hA
  have hK : Keeps pK 32634851 tK tK := Keeps.refl ..
  simp (maxDischargeDepth := 60) +contextual only [State.sawDrive, Nat.reduceAnd, eq_self, implies_true, keeps_State_driveEvent, keeps_State_observed, hK]

/-! ## Machine/Regs.lean -/

theorem keeps_State_resetRegs {pK : Bool} {AK : Nat} {sK tK : State} (c : Cls) (hA : 1 &&& AK = 1)  (hK : Keeps pK AK sK tK) :
    Keeps pK AK sK (State.resetRegs tK c) := by
  refine Keeps.lift (B := 1) ?_ hA hK
  clear hK hA
  have hK : Keeps pK 1 tK tK := Keeps.refl ..
  exact { hK with
      regs := fun x => sparseSorted_filter _ (hK.regs x)
      frame := fun c => by cases c <;> first | exact Or.inl rfl | exact hK.frame _ }

end Sys2Proof.Machine
end

