-- ==== Sys2Proof/Laws/KeepsPorts.lean ====
section
/-!
SUPPORT. Laws/KeepsPorts.lean: what each operation of drive ports, slots, traffic rows, the settings store, the fatal event and resets keeps (Laws/Keeps.lean): one lemma for each.
-/
set_option maxRecDepth 4000
set_option linter.all false

namespace Sys2Proof.Machine

/-! ## Machine/DrivePorts.lean -/

theorem keeps_State_portAt {pK : Bool} {AK : Nat} {sK tK : State} (n : Nat) (st : Nat) (hA : 8388643 &&& AK = 8388643)  (hK : Keeps pK AK sK tK) :
    Keeps pK AK sK (State.portAt tK n st) := by
  refine Keeps.lift (B := 8388643) ?_ hA hK
  clear hK hA
  have hK : Keeps pK 8388643 tK tK := Keeps.refl ..
  simp (maxDischargeDepth := 60) +contextual only [State.portAt, Nat.reduceAnd, eq_self, keeps_State_portTo, keeps_State_set, hK]

theorem keeps_State_stepped {pK : Bool} {AK : Nat} {sK tK : State} (n : Nat) (step : Nat) (hA : 1024 &&& AK = 1024)  (hK : Keeps pK AK sK tK) :
    Keeps pK AK sK (State.stepped tK n step) := by
  refine Keeps.lift (B := 1024) ?_ hA hK
  clear hK hA
  have hK : Keeps pK 1024 tK tK := Keeps.refl ..
  simp (maxDischargeDepth := 60) +contextual only [State.stepped, Nat.reduceAnd, eq_self, keeps_State_setPort, hK]

theorem keeps_State_holdDrive {pK : Bool} {AK : Nat} {sK tK : State} (n : Nat) (reason : Nat) (hA : 32634851 &&& AK = 32634851)  (hK : Keeps pK AK sK tK) :
    Keeps pK AK sK (State.holdDrive tK n reason) := by
  refine Keeps.lift (B := 32634851) ?_ hA hK
  clear hK hA
  have hK : Keeps pK 32634851 tK tK := Keeps.refl ..
  simp (maxDischargeDepth := 60) +contextual only [State.holdDrive, Nat.reduceAnd, eq_self, keeps_State_portTo, keeps_State_sawDrive, keeps_State_set, hK]

theorem keeps_State_dpEvent {pK : Bool} {AK : Nat} {sK tK : State} (n : Nat) (k : Nat) (hA : 8388643 &&& AK = 8388643)  (hK : Keeps pK AK sK tK) :
    Keeps pK AK sK (State.dpEvent tK n k) := by
  refine Keeps.lift (B := 8388643) ?_ hA hK
  clear hK hA
  have hK : Keeps pK 8388643 tK tK := Keeps.refl ..
  simp (maxDischargeDepth := 60) +contextual only [State.dpEvent, Nat.reduceAnd, eq_self, keeps_State_raise, hK]

theorem keeps_State_linkDown {pK : Bool} {AK : Nat} {sK tK : State} (n : Nat) (hA : 8388643 &&& AK = 8388643)  (hK : Keeps pK AK sK tK) :
    Keeps pK AK sK (State.linkDown tK n) := by
  refine Keeps.lift (B := 8388643) ?_ hA hK
  clear hK hA
  have hK : Keeps pK 8388643 tK tK := Keeps.refl ..
  simp (maxDischargeDepth := 60) +contextual only [State.linkDown, Nat.reduceAnd, eq_self, keeps_ite, keeps_State_dpEvent, keeps_State_set, hK]

theorem keeps_State_aer {pK : Bool} {AK : Nat} {sK tK : State} (n : Nat) (bit : Nat) (hdr : List Nat) (hA : 1 &&& AK = 1)  (hK : Keeps pK AK sK tK) :
    Keeps pK AK sK (State.aer tK n bit hdr) := by
  refine Keeps.lift (B := 1) ?_ hA hK
  clear hK hA
  have hK : Keeps pK 1 tK tK := Keeps.refl ..
  simp (maxDischargeDepth := 60) +contextual only [State.aer, Nat.reduceAnd, eq_self, implies_true, keeps_ite, keeps_foldl, keeps_State_set, hK]

theorem keeps_execDrivePerstRelease {pK : Bool} {AK : Nat} {sK tK : State} (port : Nat) (hA : 8389667 &&& AK = 8389667)  (hK : Keeps pK AK sK tK) :
    KeepsR pK AK sK (execDrivePerstRelease port tK) := by
  refine KeepsR.lift (B := 8389667) ?_ hA hK
  clear hK hA
  have hK : Keeps pK 8389667 tK tK := Keeps.refl ..
  simp (maxDischargeDepth := 60) +contextual only [execDrivePerstRelease, Nat.reduceAnd, eq_self, keeps_ite, keepsR_next, keeps_State_portAt, keeps_State_setPort, keeps_State_stepped, hK]

theorem keeps_execDriveLinkTrained {pK : Bool} {AK : Nat} {sK tK : State} (port : Nat) (rate : Nat) (width : Nat) (flit : Bool) (hA : 32634851 &&& AK = 32634851)  (hK : Keeps pK AK sK tK) :
    KeepsR pK AK sK (execDriveLinkTrained port rate width flit tK) := by
  refine KeepsR.lift (B := 32634851) ?_ hA hK
  clear hK hA
  have hK : Keeps pK 32634851 tK tK := Keeps.refl ..
  simp (maxDischargeDepth := 60) +contextual only [execDriveLinkTrained, Nat.reduceAnd, eq_self, keeps_ite, keepsR_next, keeps_State_dpEvent, keeps_State_holdDrive, keeps_State_portAt, keeps_State_sawDrive, keeps_State_set, keeps_State_setFlag, keeps_State_setPort, hK]

theorem keeps_execDriveConfigDone {pK : Bool} {AK : Nat} {sK tK : State} (port : Nat) (hA : 1024 &&& AK = 1024)  (hK : Keeps pK AK sK tK) :
    KeepsR pK AK sK (execDriveConfigDone port tK) := by
  refine KeepsR.lift (B := 1024) ?_ hA hK
  clear hK hA
  have hK : Keeps pK 1024 tK tK := Keeps.refl ..
  simp (maxDischargeDepth := 60) +contextual only [execDriveConfigDone, Nat.reduceAnd, eq_self, keeps_ite, keepsR_next, keeps_State_stepped, hK]

theorem keeps_execDriveControllerReady {pK : Bool} {AK : Nat} {sK tK : State} (port : Nat) (failed : Bool) (hA : 32634851 &&& AK = 32634851)  (hK : Keeps pK AK sK tK) :
    KeepsR pK AK sK (execDriveControllerReady port failed tK) := by
  refine KeepsR.lift (B := 32634851) ?_ hA hK
  clear hK hA
  have hK : Keeps pK 32634851 tK tK := Keeps.refl ..
  simp (maxDischargeDepth := 60) +contextual only [execDriveControllerReady, Nat.reduceAnd, eq_self, keeps_ite, keepsR_next, keeps_State_holdDrive, keeps_State_portAt, keeps_State_sawDrive, keeps_State_stepped, hK]

theorem keeps_execDriveChecksDone {pK : Bool} {AK : Nat} {sK tK : State} (port : Nat) (facts : DriveFacts) (adminFailed : Bool) (hA : 32634851 &&& AK = 32634851)  (hK : Keeps pK AK sK tK) :
    KeepsR pK AK sK (execDriveChecksDone port facts adminFailed tK) := by
  refine KeepsR.lift (B := 32634851) ?_ hA hK
  clear hK hA
  have hK : Keeps pK 32634851 tK tK := Keeps.refl ..
  unfold execDriveChecksDone
  (try dsimp only); (repeat' split) <;> simp (maxDischargeDepth := 60) +contextual only [Nat.reduceAnd, eq_self, keepsR_next, keeps_State_holdDrive, keeps_State_sawDrive, keeps_State_setPort, keeps_State_stepped, hK]

theorem keeps_execDriveBrandRead {pK : Bool} {AK : Nat} {sK tK : State} (port : Nat) (read : BrandRead) (hA : 32634851 &&& AK = 32634851)  (hK : Keeps pK AK sK tK) :
    KeepsR pK AK sK (execDriveBrandRead port read tK) := by
  refine KeepsR.lift (B := 32634851) ?_ hA hK
  clear hK hA
  have hK : Keeps pK 32634851 tK tK := Keeps.refl ..
  unfold execDriveBrandRead
  (try dsimp only); (repeat' split) <;> simp (maxDischargeDepth := 60) +contextual only [Nat.reduceAnd, eq_self, keepsR_next, keeps_State_holdDrive, keeps_State_sawDrive, keeps_State_setPort, keeps_State_stepped, hK]

theorem keeps_State_resvCmd {pK : Bool} {AK : Nat} {sK tK : State} (port : Nat) (op : Nat) (use : DrvUse) (hA : 32581155 &&& AK = 32581155)  (hK : Keeps pK AK sK tK) :
    Keeps pK AK sK (State.resvCmd tK port op use) := by
  refine Keeps.lift (B := 32581155) ?_ hA hK
  clear hK hA
  have hK : Keeps pK 32581155 tK tK := Keeps.refl ..
  simp (maxDischargeDepth := 60) +contextual only [State.resvCmd, Nat.reduceAnd, eq_self, true_or, or_true, devSame_refl, keeps_mk, keeps_State_foldDrv, keeps_State_launch, hK]

theorem keeps_execDriveReady {pK : Bool} {AK : Nat} {sK tK : State} (port : Nat) (adminFailed : Bool) (hA : 32634851 &&& AK = 32634851)  (hK : Keeps pK AK sK tK) :
    KeepsR pK AK sK (execDriveReady port adminFailed tK) := by
  refine KeepsR.lift (B := 32634851) ?_ hA hK
  clear hK hA
  have hK : Keeps pK 32634851 tK tK := Keeps.refl ..
  unfold execDriveReady
  (try dsimp only); (repeat' split) <;> simp (maxDischargeDepth := 60) +contextual only [Nat.reduceAnd, eq_self, keepsR_next, keeps_State_holdDrive, keeps_State_portAt, keeps_State_resvCmd, keeps_State_sawDrive, keeps_State_set, keeps_State_setPort, keeps_State_stepped, hK]

theorem keeps_execDriveBringupTimeout {pK : Bool} {AK : Nat} {sK tK : State} (port : Nat) (capTo : Nat) (hA : 32634851 &&& AK = 32634851)  (hK : Keeps pK AK sK tK) :
    KeepsR pK AK sK (execDriveBringupTimeout port capTo tK) := by
  refine KeepsR.lift (B := 32634851) ?_ hA hK
  clear hK hA
  have hK : Keeps pK 32634851 tK tK := Keeps.refl ..
  unfold execDriveBringupTimeout
  (try dsimp only); (repeat' split) <;> simp (maxDischargeDepth := 60) +contextual only [Nat.reduceAnd, eq_self, keepsR_next, keeps_State_holdDrive, keeps_State_setPort, hK]

theorem keeps_State_contain {pK : Bool} {AK : Nat} {sK tK : State} (n : Nat) (bits : Nat) (hA : 32634851 &&& AK = 32634851)  (hK : Keeps pK AK sK tK) :
    Keeps pK AK sK (State.contain tK n bits) := by
  refine Keeps.lift (B := 32634851) ?_ hA hK
  clear hK hA
  have hK : Keeps pK 32634851 tK tK := Keeps.refl ..
  simp (maxDischargeDepth := 60) +contextual only [State.contain, Nat.reduceAnd, eq_self, keeps_State_bump, keeps_State_dpEvent, keeps_State_linkDown, keeps_State_portAt, keeps_State_sawDrive, keeps_State_set, keeps_State_setPort, hK]

theorem keeps_State_surprise {pK : Bool} {AK : Nat} {sK tK : State} (n : Nat) (hA : 32634851 &&& AK = 32634851)  (hK : Keeps pK AK sK tK) :
    Keeps pK AK sK (State.surprise tK n) := by
  refine Keeps.lift (B := 32634851) ?_ hA hK
  clear hK hA
  have hK : Keeps pK 32634851 tK tK := Keeps.refl ..
  simp (maxDischargeDepth := 60) +contextual only [State.surprise, Nat.reduceAnd, eq_self, keeps_ite, keeps_State_aer, keeps_State_contain, hK]

theorem keeps_State_portEmpty {pK : Bool} {AK : Nat} {sK tK : State} (n : Nat) (hA : 32634851 &&& AK = 32634851)  (hK : Keeps pK AK sK tK) :
    Keeps pK AK sK (State.portEmpty tK n) := by
  refine Keeps.lift (B := 32634851) ?_ hA hK
  clear hK hA
  have hK : Keeps pK 32634851 tK tK := Keeps.refl ..
  simp (maxDischargeDepth := 60) +contextual only [State.portEmpty, Nat.reduceAnd, eq_self, keeps_ite, keeps_State_portAt, keeps_State_sawDrive, keeps_State_set, keeps_State_surprise, hK]

theorem keeps_State_portSeated {pK : Bool} {AK : Nat} {sK tK : State} (n : Nat) (hA : 32634851 &&& AK = 32634851)  (hK : Keeps pK AK sK tK) :
    Keeps pK AK sK (State.portSeated tK n) := by
  refine Keeps.lift (B := 32634851) ?_ hA hK
  clear hK hA
  have hK : Keeps pK 32634851 tK tK := Keeps.refl ..
  simp (maxDischargeDepth := 60) +contextual only [State.portSeated, Nat.reduceAnd, eq_self, keeps_ite, keeps_State_portAt, keeps_State_sawDrive, keeps_State_set, hK]

theorem keeps_State_portPerst {pK : Bool} {AK : Nat} {sK tK : State} (n : Nat) (hA : 32634851 &&& AK = 32634851)  (hK : Keeps pK AK sK tK) :
    Keeps pK AK sK (State.portPerst tK n) := by
  refine Keeps.lift (B := 32634851) ?_ hA hK
  clear hK hA
  have hK : Keeps pK 32634851 tK tK := Keeps.refl ..
  simp (maxDischargeDepth := 60) +contextual only [State.portPerst, Nat.reduceAnd, eq_self, keeps_ite, keeps_State_linkDown, keeps_State_portAt, keeps_State_sawDrive, keeps_State_setPort, hK]

theorem keeps_State_portPowered {pK : Bool} {AK : Nat} {sK tK : State} (n : Nat) (hA : 8389667 &&& AK = 8389667)  (hK : Keeps pK AK sK tK) :
    Keeps pK AK sK (State.portPowered tK n) := by
  refine Keeps.lift (B := 8389667) ?_ hA hK
  clear hK hA
  have hK : Keeps pK 8389667 tK tK := Keeps.refl ..
  simp (maxDischargeDepth := 60) +contextual only [State.portPowered, Nat.reduceAnd, eq_self, keeps_ite, keeps_State_portAt, keeps_State_setPort, keeps_State_stepped, hK]

theorem keeps_execSurpriseDown {pK : Bool} {AK : Nat} {sK tK : State} (port : Nat) (present : Bool) (hA : 32634851 &&& AK = 32634851)  (hK : Keeps pK AK sK tK) :
    KeepsR pK AK sK (execSurpriseDown port present tK) := by
  refine KeepsR.lift (B := 32634851) ?_ hA hK
  clear hK hA
  have hK : Keeps pK 32634851 tK tK := Keeps.refl ..
  simp (maxDischargeDepth := 60) +contextual only [execSurpriseDown, Nat.reduceAnd, eq_self, keeps_ite, keepsR_next, keeps_State_portEmpty, keeps_State_surprise, hK]

theorem keeps_execDrivePortError {pK : Bool} {AK : Nat} {sK tK : State} (port : Nat) (err : Option Nat) (hdr : List Nat) (hA : 32634851 &&& AK = 32634851)  (hK : Keeps pK AK sK tK) :
    KeepsR pK AK sK (execDrivePortError port err hdr tK) := by
  refine KeepsR.lift (B := 32634851) ?_ hA hK
  clear hK hA
  have hK : Keeps pK 32634851 tK tK := Keeps.refl ..
  unfold execDrivePortError
  (try dsimp only); (repeat' split) <;> simp (maxDischargeDepth := 60) +contextual only [Nat.reduceAnd, eq_self, keepsR_next, keeps_State_aer, keeps_State_contain, hK]

theorem keeps_State_uncontain {pK : Bool} {AK : Nat} {sK tK : State} (n : Nat) (hA : 8389667 &&& AK = 8389667)  (hK : Keeps pK AK sK tK) :
    Keeps pK AK sK (State.uncontain tK n) := by
  refine Keeps.lift (B := 8389667) ?_ hA hK
  clear hK hA
  have hK : Keeps pK 8389667 tK tK := Keeps.refl ..
  simp (maxDischargeDepth := 60) +contextual only [State.uncontain, Nat.reduceAnd, eq_self, keeps_ite, keeps_State_dpEvent, keeps_State_portAt, keeps_State_setPort, keeps_State_stepped, hK]

theorem keeps_execContainmentAutoRelease {pK : Bool} {AK : Nat} {sK tK : State} (port : Nat) (hA : 8389667 &&& AK = 8389667)  (hK : Keeps pK AK sK tK) :
    KeepsR pK AK sK (execContainmentAutoRelease port tK) := by
  refine KeepsR.lift (B := 8389667) ?_ hA hK
  clear hK hA
  have hK : Keeps pK 8389667 tK tK := Keeps.refl ..
  simp (maxDischargeDepth := 60) +contextual only [execContainmentAutoRelease, Nat.reduceAnd, eq_self, keeps_ite, keepsR_next, keeps_State_uncontain, hK]

theorem keeps_State_dpControl {pK : Bool} {AK : Nat} {sK tK : State} (n : Nat) (release : Bool) (reset : Bool) (hA : 32634851 &&& AK = 32634851)  (hK : Keeps pK AK sK tK) :
    Keeps pK AK sK (State.dpControl tK n release reset) := by
  refine Keeps.lift (B := 32634851) ?_ hA hK
  clear hK hA
  have hK : Keeps pK 32634851 tK tK := Keeps.refl ..
  simp (maxDischargeDepth := 60) +contextual only [State.dpControl, Nat.reduceAnd, eq_self, keeps_ite, keeps_State_resetDrive, keeps_State_uncontain, hK]

theorem keeps_execDpRelease {pK : Bool} {AK : Nat} {sK tK : State} (src : Src) (port : Nat) (hA : 32634851 &&& AK = 32634851)  (hK : Keeps pK AK sK tK) :
    KeepsR pK AK sK (execDpRelease src port tK) := by
  refine KeepsR.lift (B := 32634851) ?_ hA hK
  clear hK hA
  have hK : Keeps pK 32634851 tK tK := Keeps.refl ..
  simp (maxDischargeDepth := 60) +contextual only [execDpRelease, Nat.reduceAnd, eq_self, implies_true, keeps_ite, keepsR_next, keeps_State_busWrite, keeps_State_dpControl, keeps_State_stepWrite, hK]

theorem keeps_execDpReset {pK : Bool} {AK : Nat} {sK tK : State} (src : Src) (port : Nat) (hA : 32634851 &&& AK = 32634851)  (hK : Keeps pK AK sK tK) :
    KeepsR pK AK sK (execDpReset src port tK) := by
  refine KeepsR.lift (B := 32634851) ?_ hA hK
  clear hK hA
  have hK : Keeps pK 32634851 tK tK := Keeps.refl ..
  simp (maxDischargeDepth := 60) +contextual only [execDpReset, Nat.reduceAnd, eq_self, implies_true, keeps_ite, keepsR_next, keeps_State_busWrite, keeps_State_dpControl, keeps_State_stepWrite, hK]

theorem keeps_execInboundRequest {pK : Bool} {AK : Nat} {sK tK : State} (port : Nat) (req : InReq) (poisoned : Bool) (hdr : List Nat) (hA : 8396899 &&& AK = 8396899)  (hK : Keeps pK AK sK tK) :
    KeepsR pK AK sK (execInboundRequest port req poisoned hdr tK) := by
  refine KeepsR.lift (B := 8396899) ?_ hA hK
  clear hK hA
  have hK : Keeps pK 8396899 tK tK := Keeps.refl ..
  unfold execInboundRequest
  (try dsimp only); (repeat' split) <;> simp (maxDischargeDepth := 60) +contextual only [Nat.reduceAnd, eq_self, keepsR_next, keeps_State_aer, keeps_State_bump, keeps_State_emit, keeps_State_ledgerLimited, keeps_State_setDtag, hK]

theorem keeps_execCplTimeout {pK : Bool} {AK : Nat} {sK tK : State} (port : Nat) (hdr : List Nat) (hA : 8388609 &&& AK = 8388609)  (hK : Keeps pK AK sK tK) :
    KeepsR pK AK sK (execCplTimeout port hdr tK) := by
  refine KeepsR.lift (B := 8388609) ?_ hA hK
  clear hK hA
  have hK : Keeps pK 8388609 tK tK := Keeps.refl ..
  simp (maxDischargeDepth := 60) +contextual only [execCplTimeout, Nat.reduceAnd, eq_self, keeps_ite, keepsR_next, keeps_State_aer, keeps_State_bump, keeps_State_emit, hK]

theorem keeps_execUnexpectedCompletion {pK : Bool} {AK : Nat} {sK tK : State} (port : Nat) (hdr : List Nat) (hA : 1 &&& AK = 1)  (hK : Keeps pK AK sK tK) :
    KeepsR pK AK sK (execUnexpectedCompletion port hdr tK) := by
  refine KeepsR.lift (B := 1) ?_ hA hK
  clear hK hA
  have hK : Keeps pK 1 tK tK := Keeps.refl ..
  simp (maxDischargeDepth := 60) +contextual only [execUnexpectedCompletion, Nat.reduceAnd, eq_self, keeps_ite, keepsR_next, keeps_State_aer, keeps_State_bump, keeps_State_set, hK]

theorem keeps_State_cqDoorbell {pK : Bool} {AK : Nat} {sK tK : State} (n : Nat) (q : Nat) (hA : 8389632 &&& AK = 8389632)  (hK : Keeps pK AK sK tK) :
    Keeps pK AK sK (State.cqDoorbell tK n q) := by
  refine Keeps.lift (B := 8389632) ?_ hA hK
  clear hK hA
  have hK : Keeps pK 8389632 tK tK := Keeps.refl ..
  simp (maxDischargeDepth := 60) +contextual only [State.cqDoorbell, Nat.reduceAnd, eq_self, keeps_ite, keeps_State_emit, keeps_State_setPort, hK]

theorem keeps_execDriveCqeRx {pK : Bool} {AK : Nat} {sK tK : State} (port : Nat) (cqe : DrvCqe) (hA : 32634851 &&& AK = 32634851)  (hK : Keeps pK AK sK tK) :
    KeepsR pK AK sK (execDriveCqeRx port cqe tK) := by
  refine KeepsR.lift (B := 32634851) ?_ hA hK
  clear hK hA
  have hK : Keeps pK 32634851 tK tK := Keeps.refl ..
  unfold execDriveCqeRx
  (try dsimp only); (repeat' split) <;> simp (maxDischargeDepth := 60) +contextual only [Nat.reduceAnd, eq_self, keepsR_next, keeps_State_count, keeps_State_cqDoorbell, keeps_State_observe, keeps_State_sawDrive, keeps_State_setPort, hK]

theorem keeps_execCqDoorbellTimer {pK : Bool} {AK : Nat} {sK tK : State} (port : Nat) (queue : Nat) (hA : 8389632 &&& AK = 8389632)  (hK : Keeps pK AK sK tK) :
    KeepsR pK AK sK (execCqDoorbellTimer port queue tK) := by
  refine KeepsR.lift (B := 8389632) ?_ hA hK
  clear hK hA
  have hK : Keeps pK 8389632 tK tK := Keeps.refl ..
  simp (maxDischargeDepth := 60) +contextual only [execCqDoorbellTimer, Nat.reduceAnd, eq_self, keeps_ite, keepsR_next, keeps_State_cqDoorbell, hK]

theorem keeps_execAdminCmdTimeout {pK : Bool} {AK : Nat} {sK tK : State} (port : Nat) (hA : 32634851 &&& AK = 32634851)  (hK : Keeps pK AK sK tK) :
    KeepsR pK AK sK (execAdminCmdTimeout port tK) := by
  refine KeepsR.lift (B := 32634851) ?_ hA hK
  clear hK hA
  have hK : Keeps pK 32634851 tK tK := Keeps.refl ..
  unfold execAdminCmdTimeout
  (try dsimp only); (repeat' split) <;> simp (maxDischargeDepth := 60) +contextual only [Nat.reduceAnd, eq_self, keepsR_next, keeps_State_resetDrive, hK]

theorem keeps_State_health {pK : Bool} {AK : Nat} {sK tK : State} (n : Nat) (w : Nat) (temp : Nat) (used : Nat) (flags : Nat) (hA : 32634851 &&& AK = 32634851)  (hK : Keeps pK AK sK tK) :
    Keeps pK AK sK (State.health tK n w temp used flags) := by
  refine Keeps.lift (B := 32634851) ?_ hA hK
  clear hK hA
  have hK : Keeps pK 32634851 tK tK := Keeps.refl ..
  simp (maxDischargeDepth := 60) +contextual only [State.health, Nat.reduceAnd, eq_self, keeps_ite, keeps_State_dpEvent, keeps_State_sawDrive, hK]

theorem keeps_execSidebandPoll {pK : Bool} {AK : Nat} {sK tK : State} (port : Nat) (answer : Option (Nat × Nat × Nat)) (hA : 32634851 &&& AK = 32634851)  (hK : Keeps pK AK sK tK) :
    KeepsR pK AK sK (execSidebandPoll port answer tK) := by
  refine KeepsR.lift (B := 32634851) ?_ hA hK
  clear hK hA
  have hK : Keeps pK 32634851 tK tK := Keeps.refl ..
  unfold execSidebandPoll
  (try dsimp only); (repeat' split) <;> simp (maxDischargeDepth := 60) +contextual only [Nat.reduceAnd, eq_self, keepsR_next, keeps_State_health, keeps_State_setPort, hK]

theorem keeps_execSmartPoll {pK : Bool} {AK : Nat} {sK tK : State} (port : Nat) (answer : Option (Nat × Nat × Nat)) (hA : 32634851 &&& AK = 32634851)  (hK : Keeps pK AK sK tK) :
    KeepsR pK AK sK (execSmartPoll port answer tK) := by
  refine KeepsR.lift (B := 32634851) ?_ hA hK
  clear hK hA
  have hK : Keeps pK 32634851 tK tK := Keeps.refl ..
  unfold execSmartPoll
  (try dsimp only); (repeat' split) <;> simp (maxDischargeDepth := 60) +contextual only [Nat.reduceAnd, eq_self, true_or, or_true, devSame_refl, keepsR_next, keeps_mk, keeps_State_emit, keeps_State_health, keeps_State_sawDrive, keeps_State_setPort, hK]

/-! ## Machine/SlotRows.lean -/

theorem keeps_State_setPath {pK : Bool} {AK : Nat} {sK tK : State} (n : Nat) (p : SlotPath) (hA : 262144 &&& AK = 262144)  (hK : Keeps pK AK sK tK) :
    Keeps pK AK sK (State.setPath tK n p) := by
  refine Keeps.lift (B := 262144) ?_ hA hK
  clear hK hA
  have hK : Keeps pK 262144 tK tK := Keeps.refl ..
  simp (maxDischargeDepth := 60) +contextual only [State.setPath, Nat.reduceAnd, eq_self, true_or, or_true, devSame_refl, keeps_mk, hK]

theorem keeps_State_slotEvent {pK : Bool} {AK : Nat} {sK tK : State} (n : Nat) (k : Nat) (hA : 8388643 &&& AK = 8388643)  (hK : Keeps pK AK sK tK) :
    Keeps pK AK sK (State.slotEvent tK n k) := by
  refine Keeps.lift (B := 8388643) ?_ hA hK
  clear hK hA
  have hK : Keeps pK 8388643 tK tK := Keeps.refl ..
  simp (maxDischargeDepth := 60) +contextual only [State.slotEvent, Nat.reduceAnd, eq_self, keeps_State_raise, hK]

theorem keeps_State_slotSeen {pK : Bool} {AK : Nat} {sK tK : State} (sideB : Bool) (n : Nat) (present : Bool) (sense : Nat) (hA : 262145 &&& AK = 262145)  (hK : Keeps pK AK sK tK) :
    Keeps pK AK sK (State.slotSeen sideB n present sense tK) := by
  refine Keeps.lift (B := 262145) ?_ hA hK
  clear hK hA
  have hK : Keeps pK 262145 tK tK := Keeps.refl ..
  simp (maxDischargeDepth := 60) +contextual only [State.slotSeen, Nat.reduceAnd, eq_self, keeps_ite, keeps_State_setFlag, keeps_State_setPath, hK]

theorem keeps_State_slotTo {pK : Bool} {AK : Nat} {sK tK : State} (n : Nat) (q : SlotPath) (hA : 32896995 &&& AK = 32896995)  (hK : Keeps pK AK sK tK) :
    Keeps pK AK sK (State.slotTo tK n q) := by
  refine Keeps.lift (B := 32896995) ?_ hA hK
  clear hK hA
  have hK : Keeps pK 32896995 tK tK := Keeps.refl ..
  simp (maxDischargeDepth := 60) +contextual only [State.slotTo, Nat.reduceAnd, eq_self, implies_true, keeps_ite, keeps_State_bump, keeps_State_emit, keeps_State_observed, keeps_State_portPerst, keeps_State_setPath, keeps_State_slotEvent, keeps_State_slotSeen, hK]

theorem keeps_State_tryStart {pK : Bool} {AK : Nat} {sK tK : State} (n : Nat) (hA : 32896995 &&& AK = 32896995)  (hK : Keeps pK AK sK tK) :
    Keeps pK AK sK (State.tryStart tK n) := by
  refine Keeps.lift (B := 32896995) ?_ hA hK
  clear hK hA
  have hK : Keeps pK 32896995 tK tK := Keeps.refl ..
  simp (maxDischargeDepth := 60) +contextual only [State.tryStart, Nat.reduceAnd, eq_self, keeps_ite, keeps_State_slotTo, hK]

theorem keeps_State_gateUpdate {pK : Bool} {AK : Nat} {sK tK : State} (n : Nat) (released : Bool) (hA : 32896995 &&& AK = 32896995)  (hK : Keeps pK AK sK tK) :
    Keeps pK AK sK (State.gateUpdate tK n released) := by
  refine Keeps.lift (B := 32896995) ?_ hA hK
  clear hK hA
  have hK : Keeps pK 32896995 tK tK := Keeps.refl ..
  simp (maxDischargeDepth := 60) +contextual only [State.gateUpdate, Nat.reduceAnd, eq_self, keeps_ite, keeps_State_slotTo, keeps_State_tryStart, hK]

theorem keeps_State_slotEnable {pK : Bool} {AK : Nat} {sK tK : State} (n : Nat) (on : Bool) (hA : 32896995 &&& AK = 32896995)  (hK : Keeps pK AK sK tK) :
    Keeps pK AK sK (State.slotEnable tK n on) := by
  refine Keeps.lift (B := 32896995) ?_ hA hK
  clear hK hA
  have hK : Keeps pK 32896995 tK tK := Keeps.refl ..
  simp (maxDischargeDepth := 60) +contextual only [State.slotEnable, Nat.reduceAnd, eq_self, keeps_ite, keeps_State_gateUpdate, keeps_State_setFlag, keeps_State_slotTo, hK]

theorem keeps_State_holdSlots {pK : Bool} {AK : Nat} {sK tK : State} (on : Bool) (hA : 32896995 &&& AK = 32896995)  (hK : Keeps pK AK sK tK) :
    Keeps pK AK sK (State.holdSlots tK on) := by
  refine Keeps.lift (B := 32896995) ?_ hA hK
  clear hK hA
  have hK : Keeps pK 32896995 tK tK := Keeps.refl ..
  simp (maxDischargeDepth := 60) +contextual only [State.holdSlots, Nat.reduceAnd, eq_self, true_or, or_true, implies_true, devSame_refl, keeps_foldl, keeps_mk, keeps_State_gateUpdate, hK]

theorem keeps_State_latch {pK : Bool} {AK : Nat} {sK tK : State} (n : Nat) (cause : Nat) (hA : 32896995 &&& AK = 32896995)  (hK : Keeps pK AK sK tK) :
    Keeps pK AK sK (State.latch tK n cause) := by
  refine Keeps.lift (B := 32896995) ?_ hA hK
  clear hK hA
  have hK : Keeps pK 32896995 tK tK := Keeps.refl ..
  simp (maxDischargeDepth := 60) +contextual only [State.latch, Nat.reduceAnd, eq_self, keeps_State_bump, keeps_State_slotEvent, keeps_State_slotTo, hK]

theorem keeps_State_measured {pK : Bool} {AK : Nat} {sK tK : State} (n : Nat) (ma : Nat) (mv : Nat) (hA : 262144 &&& AK = 262144)  (hK : Keeps pK AK sK tK) :
    Keeps pK AK sK (State.measured tK n ma mv) := by
  refine Keeps.lift (B := 262144) ?_ hA hK
  clear hK hA
  have hK : Keeps pK 262144 tK tK := Keeps.refl ..
  simp (maxDischargeDepth := 60) +contextual only [State.measured, Nat.reduceAnd, eq_self, keeps_State_setPath, hK]

theorem keeps_State_limitSupply {pK : Bool} {AK : Nat} {sK tK : State} (n : Nat) (hA : 8388643 &&& AK = 8388643)  (hK : Keeps pK AK sK tK) :
    Keeps pK AK sK (State.limitSupply tK n) := by
  refine Keeps.lift (B := 8388643) ?_ hA hK
  clear hK hA
  have hK : Keeps pK 8388643 tK tK := Keeps.refl ..
  simp (maxDischargeDepth := 60) +contextual only [State.limitSupply, Nat.reduceAnd, eq_self, keeps_State_raiseLimited, hK]

theorem keeps_execPresenceConfirmed {pK : Bool} {AK : Nat} {sK tK : State} (slot : Nat) (present : Bool) (ma : Nat) (mv : Nat) (hA : 32896995 &&& AK = 32896995)  (hK : Keeps pK AK sK tK) :
    KeepsR pK AK sK (execPresenceConfirmed slot present ma mv tK) := by
  refine KeepsR.lift (B := 32896995) ?_ hA hK
  clear hK hA
  have hK : Keeps pK 32896995 tK tK := Keeps.refl ..
  simp (maxDischargeDepth := 60) +contextual only [execPresenceConfirmed, Nat.reduceAnd, eq_self, keeps_ite, keepsR_next, keeps_State_gateUpdate, keeps_State_measured, keeps_State_portEmpty, keeps_State_portSeated, keeps_State_slotEvent, keeps_State_slotTo, hK]

theorem keeps_execSupplyWindowChange {pK : Bool} {AK : Nat} {sK tK : State} (slot : Nat) (supply : Nat) (ma : Nat) (mv : Nat) (hA : 32896995 &&& AK = 32896995)  (hK : Keeps pK AK sK tK) :
    KeepsR pK AK sK (execSupplyWindowChange slot supply ma mv tK) := by
  refine KeepsR.lift (B := 32896995) ?_ hA hK
  clear hK hA
  have hK : Keeps pK 32896995 tK tK := Keeps.refl ..
  simp (maxDischargeDepth := 60) +contextual only [execSupplyWindowChange, Nat.reduceAnd, eq_self, keeps_ite, keepsR_next, keeps_State_bump, keeps_State_limitSupply, keeps_State_measured, keeps_State_setPath, keeps_State_slotTo, keeps_State_tryStart, hK]

theorem keeps_execInsertDelayExpiry {pK : Bool} {AK : Nat} {sK tK : State} (slot : Nat) (ma : Nat) (mv : Nat) (hA : 32896995 &&& AK = 32896995)  (hK : Keeps pK AK sK tK) :
    KeepsR pK AK sK (execInsertDelayExpiry slot ma mv tK) := by
  refine KeepsR.lift (B := 32896995) ?_ hA hK
  clear hK hA
  have hK : Keeps pK 32896995 tK tK := Keeps.refl ..
  simp (maxDischargeDepth := 60) +contextual only [execInsertDelayExpiry, Nat.reduceAnd, eq_self, keeps_ite, keepsR_next, keeps_State_measured, keeps_State_slotTo, hK]

theorem keeps_execRampComplete {pK : Bool} {AK : Nat} {sK tK : State} (slot : Nat) (ma : Nat) (mv : Nat) (hA : 32896995 &&& AK = 32896995)  (hK : Keeps pK AK sK tK) :
    KeepsR pK AK sK (execRampComplete slot ma mv tK) := by
  refine KeepsR.lift (B := 32896995) ?_ hA hK
  clear hK hA
  have hK : Keeps pK 32896995 tK tK := Keeps.refl ..
  simp (maxDischargeDepth := 60) +contextual only [execRampComplete, Nat.reduceAnd, eq_self, keeps_ite, keepsR_next, keeps_State_measured, keeps_State_slotTo, hK]

theorem keeps_execLimitEngage {pK : Bool} {AK : Nat} {sK tK : State} (slot : Nat) (ma : Nat) (mv : Nat) (hA : 32896995 &&& AK = 32896995)  (hK : Keeps pK AK sK tK) :
    KeepsR pK AK sK (execLimitEngage slot ma mv tK) := by
  refine KeepsR.lift (B := 32896995) ?_ hA hK
  clear hK hA
  have hK : Keeps pK 32896995 tK tK := Keeps.refl ..
  simp (maxDischargeDepth := 60) +contextual only [execLimitEngage, Nat.reduceAnd, eq_self, keeps_ite, keepsR_next, keeps_State_bump, keeps_State_latch, keeps_State_limitSupply, keeps_State_measured, keeps_State_slotTo, hK]

theorem keeps_execLimitDisengage {pK : Bool} {AK : Nat} {sK tK : State} (slot : Nat) (ma : Nat) (mv : Nat) (hA : 32896995 &&& AK = 32896995)  (hK : Keeps pK AK sK tK) :
    KeepsR pK AK sK (execLimitDisengage slot ma mv tK) := by
  refine KeepsR.lift (B := 32896995) ?_ hA hK
  clear hK hA
  have hK : Keeps pK 32896995 tK tK := Keeps.refl ..
  simp (maxDischargeDepth := 60) +contextual only [execLimitDisengage, Nat.reduceAnd, eq_self, keeps_ite, keepsR_next, keeps_State_measured, keeps_State_slotTo, hK]

theorem keeps_execFaultTimerTrip {pK : Bool} {AK : Nat} {sK tK : State} (slot : Nat) (ma : Nat) (mv : Nat) (hA : 32896995 &&& AK = 32896995)  (hK : Keeps pK AK sK tK) :
    KeepsR pK AK sK (execFaultTimerTrip slot ma mv tK) := by
  refine KeepsR.lift (B := 32896995) ?_ hA hK
  clear hK hA
  have hK : Keeps pK 32896995 tK tK := Keeps.refl ..
  simp (maxDischargeDepth := 60) +contextual only [execFaultTimerTrip, Nat.reduceAnd, eq_self, keeps_ite, keepsR_next, keeps_State_latch, keeps_State_measured, hK]

theorem keeps_execFastTrip {pK : Bool} {AK : Nat} {sK tK : State} (slot : Nat) (ma : Nat) (mv : Nat) (hA : 32896995 &&& AK = 32896995)  (hK : Keeps pK AK sK tK) :
    KeepsR pK AK sK (execFastTrip slot ma mv tK) := by
  refine KeepsR.lift (B := 32896995) ?_ hA hK
  clear hK hA
  have hK : Keeps pK 32896995 tK tK := Keeps.refl ..
  simp (maxDischargeDepth := 60) +contextual only [execFastTrip, Nat.reduceAnd, eq_self, keeps_ite, keepsR_next, keeps_State_gateUpdate, keeps_State_latch, keeps_State_measured, hK]

theorem keeps_execPowerGoodQualified {pK : Bool} {AK : Nat} {sK tK : State} (slot : Nat) (ma : Nat) (mv : Nat) (hA : 32896995 &&& AK = 32896995)  (hK : Keeps pK AK sK tK) :
    KeepsR pK AK sK (execPowerGoodQualified slot ma mv tK) := by
  refine KeepsR.lift (B := 32896995) ?_ hA hK
  clear hK hA
  have hK : Keeps pK 32896995 tK tK := Keeps.refl ..
  simp (maxDischargeDepth := 60) +contextual only [execPowerGoodQualified, Nat.reduceAnd, eq_self, keeps_ite, keepsR_next, keeps_State_measured, keeps_State_portPowered, keeps_State_slotEvent, keeps_State_slotTo, hK]

theorem keeps_execSlotEnableWrite {pK : Bool} {AK : Nat} {sK tK : State} (src : Src) (slot : Nat) (on : Bool) (hA : 32896995 &&& AK = 32896995)  (hK : Keeps pK AK sK tK) :
    KeepsR pK AK sK (execSlotEnableWrite src slot on tK) := by
  refine KeepsR.lift (B := 32896995) ?_ hA hK
  clear hK hA
  have hK : Keeps pK 32896995 tK tK := Keeps.refl ..
  simp (maxDischargeDepth := 60) +contextual only [execSlotEnableWrite, Nat.reduceAnd, eq_self, implies_true, keeps_ite, keepsR_next, keeps_State_busWrite, keeps_State_slotEnable, keeps_State_stepWrite, hK]

/-! ## Machine/TrafficRows.lean -/

theorem keeps_State_purgeClass_core {pK : Bool} {sK tK : State} (lport cls n : Nat) (hK : Keeps pK 8454179 sK tK) :
    Keeps pK 8454179 sK (State.purgeClass lport cls n tK) := by
  induction n generalizing tK with
  | zero => exact hK
  | succ n ih =>
    unfold State.purgeClass
    try dsimp only
    repeat' (first | assumption | rfl | (intro) | (with_reducible first | apply ih | apply keeps_State_bump | apply keeps_State_setPoint | apply keeps_State_raiseLimited | apply keeps_foldl) | simp only [keeps_mk_iff, devSame_refl, devSame_mk, Nat.reduceAnd, eq_self, true_or, or_true] | (refine KeepsP.of_eq (by assumption) ?_) | (refine KeepsO.of_eq (by assumption) ?_) | split)

theorem keeps_State_purgeClass {pK : Bool} {AK : Nat} {sK tK : State} (lport cls n : Nat) (hA : 8454179 &&& AK = 8454179) (hK : Keeps pK AK sK tK) :
    Keeps pK AK sK (State.purgeClass lport cls n tK) :=
  Keeps.lift (keeps_State_purgeClass_core lport cls n (Keeps.refl ..)) hA hK

theorem keeps_State_purge {pK : Bool} {AK : Nat} {sK tK : State} (lport : Nat) (hA : 8454179 &&& AK = 8454179)  (hK : Keeps pK AK sK tK) :
    Keeps pK AK sK (State.purge tK lport) := by
  refine Keeps.lift (B := 8454179) ?_ hA hK
  clear hK hA
  have hK : Keeps pK 8454179 tK tK := Keeps.refl ..
  simp (maxDischargeDepth := 60) +contextual only [State.purge, Nat.reduceAnd, eq_self, implies_true, keeps_foldl, keeps_State_purgeClass, hK]

theorem keeps_State_txStamp {pK : Bool} {AK : Nat} {sK tK : State} (lport : Nat) (seq : Nat) (hA : 8519715 &&& AK = 8519715)  (hK : Keeps pK AK sK tK) :
    Keeps pK AK sK (State.txStamp tK lport seq) := by
  refine Keeps.lift (B := 8519715) ?_ hA hK
  clear hK hA
  have hK : Keeps pK 8519715 tK tK := Keeps.refl ..
  simp (maxDischargeDepth := 60) +contextual only [State.txStamp, Nat.reduceAnd, eq_self, true_or, or_true, devSame_refl, keeps_ite, keeps_mk, keeps_State_raise, keeps_State_setFlag, hK]

theorem keeps_State_sendFrame {pK : Bool} {AK : Nat} {sK tK : State} (lport : Nat) (cls : Nat) (x : TcPoint) (u : TcUnit) (hA : 8585251 &&& AK = 8585251)  (hK : Keeps pK AK sK tK) :
    Keeps pK AK sK (State.sendFrame tK lport cls x u) := by
  refine Keeps.lift (B := 8585251) ?_ hA hK
  clear hK hA
  have hK : Keeps pK 8585251 tK tK := Keeps.refl ..
  unfold State.sendFrame
  (try dsimp only); (repeat' split) <;> simp (maxDischargeDepth := 60) +contextual only [Nat.reduceAnd, eq_self, keeps_State_bump, keeps_State_count, keeps_State_emit, keeps_State_setPoint, keeps_State_txStamp, hK]

theorem keeps_State_raiseLimitedBy {pK : Bool} {AK : Nat} {sK tK : State} (key : Nat) (e : Nat) (hA : 8388643 &&& AK = 8388643)  (hK : Keeps pK AK sK tK) :
    Keeps pK AK sK (State.raiseLimitedBy tK key e) := by
  refine Keeps.lift (B := 8388643) ?_ hA hK
  clear hK hA
  have hK : Keeps pK 8388643 tK tK := Keeps.refl ..
  simp (maxDischargeDepth := 60) +contextual only [State.raiseLimitedBy, Nat.reduceAnd, eq_self, true_or, or_true, devSame_mk, keeps_ite, keeps_mk, keeps_State_raise, hK]

theorem keeps_State_takeCmd {pK : Bool} {AK : Nat} {sK tK : State} (port : Nat) (cls : Nat) (x : TcPoint) (u : TcUnit) (cid : Nat) (hA : 8455203 &&& AK = 8455203)  (hK : Keeps pK AK sK tK) :
    Keeps pK AK sK (State.takeCmd tK port cls x u cid) := by
  refine Keeps.lift (B := 8455203) ?_ hA hK
  clear hK hA
  have hK : Keeps pK 8455203 tK tK := Keeps.refl ..
  unfold State.takeCmd
  (try dsimp only); (repeat' split) <;> simp (maxDischargeDepth := 60) +contextual only [Nat.reduceAnd, eq_self, KeepsP.fst, keeps_State_meterUnit, keeps_State_raiseLimitedBy, keeps_State_setDrv, keeps_State_setPoint, hK]

theorem keeps_State_urgentHeld {pK : Bool} {AK : Nat} {sK tK : State} (port : Nat) (hA : 8454179 &&& AK = 8454179)  (hK : Keeps pK AK sK tK) :
    Keeps pK AK sK (State.urgentHeld tK port) := by
  refine Keeps.lift (B := 8454179) ?_ hA hK
  clear hK hA
  have hK : Keeps pK 8454179 tK tK := Keeps.refl ..
  simp (maxDischargeDepth := 60) +contextual only [State.urgentHeld, Nat.reduceAnd, eq_self, keeps_ite, keeps_State_raise, keeps_State_setPoint, hK]

theorem keeps_State_engineFrames {pK : Bool} {AK : Nat} {sK tK : State} (lport : Nat) (fs : List EngFrame) (hA : 8454179 &&& AK = 8454179)  (hK : Keeps pK AK sK tK) :
    Keeps pK AK sK (State.engineFrames tK lport fs) := by
  refine Keeps.lift (B := 8454179) ?_ hA hK
  clear hK hA
  have hK : Keeps pK 8454179 tK tK := Keeps.refl ..
  simp (maxDischargeDepth := 60) +contextual only [State.engineFrames, Nat.reduceAnd, eq_self, implies_true, keeps_foldl, keeps_State_egress, hK]

theorem keeps_execEgressService {pK : Bool} {AK : Nat} {sK tK : State} (point : Nat) (frames : List EngFrame) (hA : 8586275 &&& AK = 8586275)  (hK : Keeps pK AK sK tK) :
    KeepsR pK AK sK (execEgressService point frames tK) := by
  refine KeepsR.lift (B := 8586275) ?_ hA hK
  clear hK hA
  have hK : Keeps pK 8586275 tK tK := Keeps.refl ..
  unfold execEgressService
  (try dsimp only); (repeat' split) <;> simp (maxDischargeDepth := 60) +contextual only [Nat.reduceAnd, eq_self, keepsR_next, keeps_State_accrue, keeps_State_engineFrames, keeps_State_purge, keeps_State_sendFrame, keeps_State_takeCmd, keeps_State_urgentHeld, hK]

theorem keeps_State_prpsOf {pK : Bool} {AK : Nat} {sK tK : State} (c : DrvCmd) (hA : 16777216 &&& AK = 16777216)  (hK : Keeps pK AK sK tK) :
    KeepsP pK AK sK (State.prpsOf tK c) := by
  refine KeepsP.lift (B := 16777216) ?_ hA hK
  clear hK hA
  have hK : Keeps pK 16777216 tK tK := Keeps.refl ..
  unfold State.prpsOf
  (try dsimp only); (repeat' split) <;> simp (maxDischargeDepth := 60) +contextual only [Nat.reduceAnd, eq_self, keepsP_mk, keeps_State_drawn, hK]

theorem keeps_State_submitCmd {pK : Bool} {AK : Nat} {sK tK : State} (port : Nat) (cid : Nat) (hA : 25166883 &&& AK = 25166883)  (hK : Keeps pK AK sK tK) :
    Keeps pK AK sK (State.submitCmd tK port cid) := by
  refine Keeps.lift (B := 25166883) ?_ hA hK
  clear hK hA
  have hK : Keeps pK 25166883 tK tK := Keeps.refl ..
  unfold State.submitCmd
  (try dsimp only); (repeat' split) <;> simp (maxDischargeDepth := 60) +contextual only [Nat.reduceAnd, eq_self, KeepsP.fst, keeps_State_count, keeps_State_emit, keeps_State_prpsOf, keeps_State_setDrv, keeps_State_setPort, hK]

theorem keeps_State_ring {pK : Bool} {AK : Nat} {sK tK : State} (port : Nat) (queue : Nat) (rung : Bool) (hA : 8388608 &&& AK = 8388608)  (hK : Keeps pK AK sK tK) :
    Keeps pK AK sK (State.ring tK port queue rung) := by
  refine Keeps.lift (B := 8388608) ?_ hA hK
  clear hK hA
  have hK : Keeps pK 8388608 tK tK := Keeps.refl ..
  simp (maxDischargeDepth := 60) +contextual only [State.ring, Nat.reduceAnd, eq_self, keeps_ite, keeps_State_emit, hK]

theorem keeps_execBatchCommit {pK : Bool} {AK : Nat} {sK tK : State} (port : Nat) (hA : 25232419 &&& AK = 25232419)  (hK : Keeps pK AK sK tK) :
    KeepsR pK AK sK (execBatchCommit port tK) := by
  refine KeepsR.lift (B := 25232419) ?_ hA hK
  clear hK hA
  have hK : Keeps pK 25232419 tK tK := Keeps.refl ..
  unfold execBatchCommit
  (try dsimp only); (repeat' split) <;> simp (maxDischargeDepth := 60) +contextual only [Nat.reduceAnd, eq_self, implies_true, keeps_foldl, keepsR_next, keeps_State_ring, keeps_State_setPoint, keeps_State_submitCmd, keeps_State_urgentHeld, hK]

theorem keeps_State_gateResync {pK : Bool} {AK : Nat} {sK tK : State} (lport : Nat) (hA : 65536 &&& AK = 65536)  (hK : Keeps pK AK sK tK) :
    Keeps pK AK sK (State.gateResync tK lport) := by
  refine Keeps.lift (B := 65536) ?_ hA hK
  clear hK hA
  have hK : Keeps pK 65536 tK tK := Keeps.refl ..
  unfold State.gateResync
  (try dsimp only); (repeat' split) <;> simp (maxDischargeDepth := 60) +contextual only [Nat.reduceAnd, eq_self, keeps_State_setGates, hK]

theorem keeps_State_loadGates {pK : Bool} {AK : Nat} {sK tK : State}  (hA : 65536 &&& AK = 65536)  (hK : Keeps pK AK sK tK) :
    Keeps pK AK sK (State.loadGates tK) := by
  refine Keeps.lift (B := 65536) ?_ hA hK
  clear hK hA
  have hK : Keeps pK 65536 tK tK := Keeps.refl ..
  simp (maxDischargeDepth := 60) +contextual only [State.loadGates, Nat.reduceAnd, eq_self, implies_true, keeps_foldl, keeps_State_gateResync, keeps_State_setGates, hK]

theorem keeps_State_changeGates {pK : Bool} {AK : Nat} {sK tK : State}  (hA : 65536 &&& AK = 65536)  (hK : Keeps pK AK sK tK) :
    Keeps pK AK sK (State.changeGates tK) := by
  refine Keeps.lift (B := 65536) ?_ hA hK
  clear hK hA
  have hK : Keeps pK 65536 tK tK := Keeps.refl ..
  unfold State.changeGates
  refine keeps_foldl _ (fun t x h => ?_) hK
  dsimp only
  generalize t.gates x = g
  generalize t.namedList x = l
  obtain ⟨run, entry, since, change, start⟩ := g
  cases run <;> cases start <;> cases l <;> dsimp only <;> repeat' (first | exact h | rfl | (with_reducible apply keeps_State_setGates) | split)

theorem keeps_execGateEntryChange {pK : Bool} {AK : Nat} {sK tK : State} (lport : Nat) (hA : 65536 &&& AK = 65536)  (hK : Keeps pK AK sK tK) :
    KeepsR pK AK sK (execGateEntryChange lport tK) := by
  refine KeepsR.lift (B := 65536) ?_ hA hK
  clear hK hA
  have hK : Keeps pK 65536 tK tK := Keeps.refl ..
  unfold execGateEntryChange
  (try dsimp only); (repeat' split) <;> simp (maxDischargeDepth := 60) +contextual only [Nat.reduceAnd, eq_self, keepsR_next, keeps_State_accrue, keeps_State_setGates, hK]

theorem keeps_execGateListStart {pK : Bool} {AK : Nat} {sK tK : State} (lport : Nat) (hA : 8454179 &&& AK = 8454179)  (hK : Keeps pK AK sK tK) :
    KeepsR pK AK sK (execGateListStart lport tK) := by
  refine KeepsR.lift (B := 8454179) ?_ hA hK
  clear hK hA
  have hK : Keeps pK 8454179 tK tK := Keeps.refl ..
  unfold execGateListStart
  (try dsimp only); (repeat' split) <;> simp (maxDischargeDepth := 60) +contextual only [Nat.reduceAnd, eq_self, keepsR_next, keeps_State_accrue, keeps_State_raise, keeps_State_setGates, hK]

theorem keeps_State_changeMeters {pK : Bool} {AK : Nat} {sK tK : State} (old : List Nat) (hA : 65536 &&& AK = 65536)  (hK : Keeps pK AK sK tK) :
    Keeps pK AK sK (State.changeMeters tK old) := by
  refine Keeps.lift (B := 65536) ?_ hA hK
  clear hK hA
  have hK : Keeps pK 65536 tK tK := Keeps.refl ..
  simp (maxDischargeDepth := 60) +contextual only [State.changeMeters, Nat.reduceAnd, eq_self, true_or, or_true, devSame_refl, keeps_mk, hK]

/-! ## Machine/StoreOps.lean -/

theorem keeps_State_firstError {pK : Bool} {AK : Nat} {sK tK : State} (e : PatErr) (hA : 1 &&& AK = 1)  (hK : Keeps pK AK sK tK) :
    Keeps pK AK sK (State.firstError tK e) := by
  refine Keeps.lift (B := 1) ?_ hA hK
  clear hK hA
  have hK : Keeps pK 1 tK tK := Keeps.refl ..
  simp (maxDischargeDepth := 60) +contextual only [State.firstError, Nat.reduceAnd, eq_self, keeps_ite, keeps_State_set, hK]

theorem keeps_State_patError {pK : Bool} {AK : Nat} {sK tK : State} (e : PatErr) (hA : 8388707 &&& AK = 8388707)  (hK : Keeps pK AK sK tK) :
    Keeps pK AK sK (State.patError tK e) := by
  refine Keeps.lift (B := 8388707) ?_ hA hK
  clear hK hA
  have hK : Keeps pK 8388707 tK tK := Keeps.refl ..
  simp (maxDischargeDepth := 60) +contextual only [State.patError, Nat.reduceAnd, eq_self, keeps_State_firstError, keeps_State_ledger, keeps_State_raise, keeps_State_set, keeps_State_setFlag, hK]

theorem keeps_State_patWarn {pK : Bool} {AK : Nat} {sK tK : State} (code : Nat) (hA : 8388643 &&& AK = 8388643)  (hK : Keeps pK AK sK tK) :
    Keeps pK AK sK (State.patWarn tK code) := by
  refine Keeps.lift (B := 8388643) ?_ hA hK
  clear hK hA
  have hK : Keeps pK 8388643 tK tK := Keeps.refl ..
  simp (maxDischargeDepth := 60) +contextual only [State.patWarn, Nat.reduceAnd, eq_self, keeps_ite, keeps_State_raise, keeps_State_set, keeps_State_setFlag, hK]

theorem keeps_State_patWarns {pK : Bool} {AK : Nat} {sK tK : State} (codes : List Nat) (hA : 8388643 &&& AK = 8388643)  (hK : Keeps pK AK sK tK) :
    Keeps pK AK sK (State.patWarns tK codes) := by
  refine Keeps.lift (B := 8388643) ?_ hA hK
  clear hK hA
  have hK : Keeps pK 8388643 tK tK := Keeps.refl ..
  simp (maxDischargeDepth := 60) +contextual only [State.patWarns, Nat.reduceAnd, eq_self, implies_true, keeps_foldl, keeps_State_patWarn, hK]

theorem keeps_State_ovlDiscarded {pK : Bool} {AK : Nat} {sK tK : State} (n : Nat) (hA : 8388707 &&& AK = 8388707)  (hK : Keeps pK AK sK tK) :
    Keeps pK AK sK (State.ovlDiscarded tK n) := by
  refine Keeps.lift (B := 8388707) ?_ hA hK
  clear hK hA
  have hK : Keeps pK 8388707 tK tK := Keeps.refl ..
  simp (maxDischargeDepth := 60) +contextual only [State.ovlDiscarded, Nat.reduceAnd, eq_self, implies_true, keeps_foldl, keeps_State_ledger, keeps_State_patWarn, hK]

theorem keeps_State_setBank {pK : Bool} {AK : Nat} {sK tK : State} (i : Nat) (b : Bank) (hA : 4 &&& AK = 4)  (hK : Keeps pK AK sK tK) :
    Keeps pK AK sK (State.setBank tK i b) := by
  refine Keeps.lift (B := 4) ?_ hA hK
  clear hK hA
  have hK : Keeps pK 4 tK tK := Keeps.refl ..
  simp (maxDischargeDepth := 60) +contextual only [State.setBank, Nat.reduceAnd, eq_self, true_or, or_true, devSame_refl, keeps_mk, hK]

theorem keeps_State_showBank {pK : Bool} {AK : Nat} {sK tK : State} (cur : Option Nat) (hA : 1 &&& AK = 1)  (hK : Keeps pK AK sK tK) :
    Keeps pK AK sK (State.showBank tK cur) := by
  refine Keeps.lift (B := 1) ?_ hA hK
  clear hK hA
  have hK : Keeps pK 1 tK tK := Keeps.refl ..
  unfold State.showBank
  (try dsimp only); (repeat' split) <;> simp (maxDischargeDepth := 60) +contextual only [Nat.reduceAnd, eq_self, keeps_State_set, hK]

theorem keeps_State_takeSettings {pK : Bool} {AK : Nat} {sK tK : State} (st : Settings) (hA : 133 &&& AK = 133)  (hK : Keeps pK AK sK tK) :
    Keeps pK AK sK (State.takeSettings tK st) := by
  refine Keeps.lift (B := 133) ?_ hA hK
  clear hK hA
  have hK : Keeps pK 133 tK tK := Keeps.refl ..
  simp (maxDischargeDepth := 60) +contextual only [State.takeSettings, Nat.reduceAnd, eq_self, true_or, or_true, devSame_refl, keeps_mk, keeps_State_set, hK]

theorem keeps_State_readStore {pK : Bool} {AK : Nat} {sK tK : State}  (hA : 133 &&& AK = 133)  (hK : Keeps pK AK sK tK) :
    Keeps pK AK sK (State.readStore tK) := by
  refine Keeps.lift (B := 133) ?_ hA hK
  clear hK hA
  have hK : Keeps pK 133 tK tK := Keeps.refl ..
  simp (maxDischargeDepth := 60) +contextual only [State.readStore, Nat.reduceAnd, eq_self, keeps_State_showBank, keeps_State_takeSettings, hK]

theorem keeps_State_refuseCommit {pK : Bool} {AK : Nat} {sK tK : State}  (hA : 8388707 &&& AK = 8388707)  (hK : Keeps pK AK sK tK) :
    Keeps pK AK sK (State.refuseCommit tK) := by
  refine Keeps.lift (B := 8388707) ?_ hA hK
  clear hK hA
  have hK : Keeps pK 8388707 tK tK := Keeps.refl ..
  simp (maxDischargeDepth := 60) +contextual only [State.refuseCommit, Nat.reduceAnd, eq_self, keeps_State_ledger, keeps_State_raise, keeps_State_set, hK]

theorem keeps_State_startCommit {pK : Bool} {AK : Nat} {sK tK : State} (cs : List StoreChange) (hA : 8388711 &&& AK = 8388711)  (hK : Keeps pK AK sK tK) :
    Keeps pK AK sK (State.startCommit tK cs) := by
  refine Keeps.lift (B := 8388711) ?_ hA hK
  clear hK hA
  have hK : Keeps pK 8388711 tK tK := Keeps.refl ..
  simp (maxDischargeDepth := 60) +contextual only [State.startCommit, Nat.reduceAnd, eq_self, true_or, or_true, devSame_refl, keeps_ite, keeps_mk, keeps_State_refuseCommit, keeps_State_setBank, keeps_State_setFlag, hK]

theorem keeps_State_commit {pK : Bool} {AK : Nat} {sK tK : State} (cs : List StoreChange) (hA : 8388711 &&& AK = 8388711)  (hK : Keeps pK AK sK tK) :
    Keeps pK AK sK (State.commit tK cs) := by
  refine Keeps.lift (B := 8388711) ?_ hA hK
  clear hK hA
  have hK : Keeps pK 8388711 tK tK := Keeps.refl ..
  simp (maxDischargeDepth := 60) +contextual only [State.commit, Nat.reduceAnd, eq_self, true_or, or_true, devSame_refl, keeps_ite, keeps_mk, keeps_State_startCommit, hK]

theorem keeps_State_commitFails {pK : Bool} {AK : Nat} {sK tK : State} (result : Nat) (hA : 8388711 &&& AK = 8388711)  (hK : Keeps pK AK sK tK) :
    Keeps pK AK sK (State.commitFails tK result) := by
  refine Keeps.lift (B := 8388711) ?_ hA hK
  clear hK hA
  have hK : Keeps pK 8388711 tK tK := Keeps.refl ..
  simp (maxDischargeDepth := 60) +contextual only [State.commitFails, Nat.reduceAnd, eq_self, true_or, or_true, devSame_refl, keeps_mk, keeps_State_ledger, keeps_State_raise, keeps_State_set, keeps_State_setFlag, hK]

theorem keeps_State_showPending {pK : Bool} {AK : Nat} {sK tK : State} (rs : List PatRec) (hA : 1 &&& AK = 1)  (hK : Keeps pK AK sK tK) :
    Keeps pK AK sK (State.showPending tK rs) := by
  refine Keeps.lift (B := 1) ?_ hA hK
  clear hK hA
  have hK : Keeps pK 1 tK tK := Keeps.refl ..
  simp (maxDischargeDepth := 60) +contextual only [State.showPending, Nat.reduceAnd, eq_self, keeps_State_setFlag, hK]

theorem keeps_State_showSource {pK : Bool} {AK : Nat} {sK tK : State} (factoryOnly : Bool) (hA : 1 &&& AK = 1)  (hK : Keeps pK AK sK tK) :
    Keeps pK AK sK (State.showSource tK factoryOnly) := by
  refine Keeps.lift (B := 1) ?_ hA hK
  clear hK hA
  have hK : Keeps pK 1 tK tK := Keeps.refl ..
  simp (maxDischargeDepth := 60) +contextual only [State.showSource, Nat.reduceAnd, eq_self, keeps_State_set, keeps_State_setFlag, hK]

theorem keeps_State_noticeNs {pK : Bool} {AK : Nat} {sK tK : State} (old : List (Nat × List NsEnt)) (hA : 25236387 &&& AK = 25236387)  (hK : Keeps pK AK sK tK) :
    Keeps pK AK sK (State.noticeNs tK old) := by
  refine Keeps.lift (B := 25236387) ?_ hA hK
  clear hK hA
  have hK : Keeps pK 25236387 tK tK := Keeps.refl ..
  simp (maxDischargeDepth := 60) +contextual only [State.noticeNs, Nat.reduceAnd, eq_self, true_or, or_true, implies_true, devSame_refl, keeps_ite, keeps_foldl, keeps_mk, keeps_State_asyncAll, hK]

theorem keeps_State_brandNs {pK : Bool} {AK : Nat} {sK tK : State} (g : Nat) (hA : 32597539 &&& AK = 32597539)  (hK : Keeps pK AK sK tK) :
    Keeps pK AK sK (State.brandNs tK g) := by
  refine Keeps.lift (B := 32597539) ?_ hA hK
  clear hK hA
  have hK : Keeps pK 32597539 tK tK := Keeps.refl ..
  unfold State.brandNs
  (try dsimp only); (repeat' split) <;> simp (maxDischargeDepth := 60) +contextual only [Nat.reduceAnd, eq_self, keeps_State_setGrp, keeps_State_startBrand, hK]

theorem keeps_State_liveEffect {pK : Bool} {AK : Nat} {sK tK : State}  (hA : 32602023 &&& AK = 32602023)  (hK : Keeps pK AK sK tK) :
    Keeps pK AK sK (State.liveEffect tK) := by
  refine Keeps.lift (B := 32602023) ?_ hA hK
  clear hK hA
  have hK : Keeps pK 32602023 tK tK := Keeps.refl ..
  simp (maxDischargeDepth := 60) +contextual only [State.liveEffect, Nat.reduceAnd, eq_self, true_or, or_true, implies_true, devSame_refl, keeps_foldl, keeps_mk, keeps_State_brandNs, keeps_State_changeGates, keeps_State_changeMeters, keeps_State_noticeNs, hK]

theorem keeps_State_settled {pK : Bool} {AK : Nat} {sK tK : State} (cs : List StoreChange) (hA : 9437415 &&& AK = 9437415)  (hK : Keeps pK AK sK tK) :
    Keeps pK AK sK (State.settled tK cs) := by
  refine Keeps.lift (B := 9437415) ?_ hA hK
  clear hK hA
  have hK : Keeps pK 9437415 tK tK := Keeps.refl ..
  unfold State.settled
  (try dsimp only); (repeat' split) <;> simp (maxDischargeDepth := 60) +contextual only [Nat.reduceAnd, eq_self, true_or, or_true, devSame_refl, keeps_mk, keeps_State_ovlDiscarded, keeps_State_patWarns, keeps_State_set, keeps_State_showPending, keeps_State_showSource, hK]

theorem keeps_State_readBack {pK : Bool} {AK : Nat} {sK tK : State} (rb : ReadBack) (hA : 9437415 &&& AK = 9437415)  (hK : Keeps pK AK sK tK) :
    KeepsP pK AK sK (State.readBack tK rb) := by
  refine KeepsP.lift (B := 9437415) ?_ hA hK
  clear hK hA
  have hK : Keeps pK 9437415 tK tK := Keeps.refl ..
  unfold State.readBack
  (try dsimp only); (repeat' split) <;> simp (maxDischargeDepth := 60) +contextual only [Nat.reduceAnd, eq_self, true_or, or_true, devSame_refl, keepsP_mk, keeps_mk, keeps_State_commitFails, keeps_State_raise, keeps_State_set, keeps_State_setBank, keeps_State_setFlag, keeps_State_settled, keeps_State_showBank, hK]

theorem keeps_State_stopCommit {pK : Bool} {AK : Nat} {sK tK : State} (headerBegun : Bool) (hA : 8388711 &&& AK = 8388711)  (hK : Keeps pK AK sK tK) :
    KeepsP pK AK sK (State.stopCommit tK headerBegun) := by
  refine KeepsP.lift (B := 8388711) ?_ hA hK
  clear hK hA
  have hK : Keeps pK 8388711 tK tK := Keeps.refl ..
  unfold State.stopCommit
  (try dsimp only); (repeat' split) <;> simp (maxDischargeDepth := 60) +contextual only [Nat.reduceAnd, eq_self, true_or, or_true, devSame_refl, keepsP_mk, keeps_mk, keeps_State_commitFails, hK]

theorem keeps_State_commitWaiting {pK : Bool} {AK : Nat} {sK tK : State}  (hA : 8388711 &&& AK = 8388711)  (hK : Keeps pK AK sK tK) :
    Keeps pK AK sK (State.commitWaiting tK) := by
  refine Keeps.lift (B := 8388711) ?_ hA hK
  clear hK hA
  have hK : Keeps pK 8388711 tK tK := Keeps.refl ..
  simp (maxDischargeDepth := 60) +contextual only [State.commitWaiting, Nat.reduceAnd, eq_self, true_or, or_true, devSame_refl, keeps_ite, keeps_mk, keeps_State_startCommit, hK]

/-! ## Machine/Fatal.lean -/

theorem keeps_State_dropUnissued {pK : Bool} {AK : Nat} {sK tK : State}  (hA : 74752 &&& AK = 74752)  (hK : Keeps pK AK sK tK) :
    Keeps pK AK sK (State.dropUnissued tK) := by
  refine Keeps.lift (B := 74752) ?_ hA hK
  clear hK hA
  have hK : Keeps pK 74752 tK tK := Keeps.refl ..
  simp (maxDischargeDepth := 60) +contextual only [State.dropUnissued, Nat.reduceAnd, eq_self, implies_true, keeps_foldl, keeps_State_dropDrv, hK]

theorem keeps_State_fatalPins {pK : Bool} {AK : Nat} {sK tK : State}  (hA : 8388609 &&& AK = 8388609)  (hK : Keeps pK AK sK tK) :
    Keeps pK AK sK (State.fatalPins tK) := by
  refine Keeps.lift (B := 8388609) ?_ hA hK
  clear hK hA
  have hK : Keeps pK 8388609 tK tK := Keeps.refl ..
  simp (maxDischargeDepth := 60) +contextual only [State.fatalPins, Nat.reduceAnd, eq_self, keeps_cond, keeps_State_emit, keeps_State_setFlag, hK]

theorem keeps_State_noRetire {pK : Bool} {AK : Nat} {sK tK : State}  (hA : 32768 &&& AK = 32768)  (hK : Keeps pK AK sK tK) :
    Keeps pK AK sK (State.noRetire tK) := by
  refine Keeps.lift (B := 32768) ?_ hA hK
  clear hK hA
  have hK : Keeps pK 32768 tK tK := Keeps.refl ..
  unfold State.noRetire
  (try dsimp only); (repeat' split) <;> simp (maxDischargeDepth := 60) +contextual only [Nat.reduceAnd, eq_self, true_or, or_true, devSame_refl, keeps_cond, keeps_mk, hK]

theorem keeps_State_fatalDump {pK : Bool} {AK : Nat} {sK tK : State}  (hA : 8421411 &&& AK = 8421411)  (hK : Keeps pK AK sK tK) :
    Keeps pK AK sK (State.fatalDump tK) := by
  refine Keeps.lift (B := 8421411) ?_ hA hK
  clear hK hA
  have hK : Keeps pK 8421411 tK tK := Keeps.refl ..
  simp (maxDischargeDepth := 60) +contextual only [State.fatalDump, Nat.reduceAnd, eq_self, keeps_cond, keeps_State_beginDump, keeps_State_noRetire, keeps_State_setFlag, hK]

theorem keeps_State_fatalStop {pK : Bool} {AK : Nat} {sK tK : State}  (hA : 526849 &&& AK = 526849)  (hK : Keeps pK AK sK tK) :
    Keeps pK AK sK (State.fatalStop tK) := by
  refine Keeps.lift (B := 526849) ?_ hA hK
  clear hK hA
  have hK : Keeps pK 526849 tK tK := Keeps.refl ..
  simp (maxDischargeDepth := 60) +contextual only [State.fatalStop, Nat.reduceAnd, eq_self, true_or, or_true, devSame_refl, keeps_mk, keeps_State_set, hK]

theorem keeps_State_fatal {pK : Bool} {AK : Nat} {sK tK : State} (island : Nat) (hA : 9023075 &&& AK = 9023075)  (hK : Keeps pK AK sK tK) :
    Keeps pK AK sK (State.fatal tK island) := by
  refine Keeps.lift (B := 9023075) ?_ hA hK
  clear hK hA
  have hK : Keeps pK 9023075 tK tK := Keeps.refl ..
  simp (maxDischargeDepth := 60) +contextual only [State.fatal, Nat.reduceAnd, eq_self, keeps_cond, keeps_State_dropUnissued, keeps_State_fatalDump, keeps_State_fatalPins, keeps_State_fatalStop, keeps_State_freezeLedger, keeps_State_ledger, keeps_State_raise, hK]

theorem keeps_execClockLockLoss {pK : Bool} {AK : Nat} {sK tK : State} (island : Nat) (hA : 9023075 &&& AK = 9023075)  (hK : Keeps pK AK sK tK) :
    KeepsR pK AK sK (execClockLockLoss island tK) := by
  refine KeepsR.lift (B := 9023075) ?_ hA hK
  clear hK hA
  have hK : Keeps pK 9023075 tK tK := Keeps.refl ..
  simp (maxDischargeDepth := 60) +contextual only [execClockLockLoss, Nat.reduceAnd, eq_self, true_or, or_true, devSame_mk, keeps_ite, keepsR_next, keeps_mk, keeps_State_bridgeFault, keeps_State_fatal, keeps_State_set, hK]

theorem keeps_State_warmStage {pK : Bool} {AK : Nat} {sK tK : State}  (hA : 8421923 &&& AK = 8421923)  (hK : Keeps pK AK sK tK) :
    Keeps pK AK sK (State.warmStage tK) := by
  refine Keeps.lift (B := 8421923) ?_ hA hK
  clear hK hA
  have hK : Keeps pK 8421923 tK tK := Keeps.refl ..
  simp (maxDischargeDepth := 60) +contextual only [State.warmStage, Nat.reduceAnd, eq_self, true_or, or_true, devSame_refl, keeps_ite, keeps_mk, keeps_State_beginDump, keeps_State_setRole, hK]

theorem keeps_State_askWarm {pK : Bool} {AK : Nat} {sK tK : State} (bit : Nat) (hA : 8423975 &&& AK = 8423975)  (hK : Keeps pK AK sK tK) :
    Keeps pK AK sK (State.askWarm tK bit) := by
  refine Keeps.lift (B := 8423975) ?_ hA hK
  clear hK hA
  have hK : Keeps pK 8423975 tK tK := Keeps.refl ..
  simp (maxDischargeDepth := 60) +contextual only [State.askWarm, Nat.reduceAnd, eq_self, true_or, or_true, devSame_refl, keeps_ite, keeps_mk, keeps_State_warmStage, hK]

/-! ## Machine/Reset.lean -/

theorem keeps_State_gatesOff {pK : Bool} {AK : Nat} {sK tK : State}  (hA : 8388608 &&& AK = 8388608)  (hK : Keeps pK AK sK tK) :
    Keeps pK AK sK (State.gatesOff tK) := by
  refine Keeps.lift (B := 8388608) ?_ hA hK
  clear hK hA
  have hK : Keeps pK 8388608 tK tK := Keeps.refl ..
  simp (maxDischargeDepth := 60) +contextual only [State.gatesOff, Nat.reduceAnd, eq_self, implies_true, keeps_foldl, keeps_State_emit, hK]

theorem keeps_State_pinsAtReset {pK : Bool} {AK : Nat} {sK tK : State} (c : Cls) (hA : 8388608 &&& AK = 8388608)  (hK : Keeps pK AK sK tK) :
    Keeps pK AK sK (State.pinsAtReset tK c) := by
  refine Keeps.lift (B := 8388608) ?_ hA hK
  clear hK hA
  have hK : Keeps pK 8388608 tK tK := Keeps.refl ..
  simp (maxDischargeDepth := 60) +contextual only [State.pinsAtReset, Nat.reduceAnd, eq_self, keeps_cond, keeps_State_emit, hK]

theorem keeps_State_resetUnits {pK : Bool} {AK : Nat} {sK tK : State} (c : Cls) (hA : 8388606 &&& AK = 8388606) (hc : c = .por → pK = true) (hK : Keeps pK AK sK tK) :
    Keeps pK AK sK (tK.resetUnits c) := by
  refine Keeps.lift (B := 8388606) ?_ hA hK
  clear hK hA
  have hK : Keeps pK 8388606 tK tK := Keeps.refl ..
  exact { hK with
    mem := fun _ => rfl
    time := fun x => by
      have := hK.time x
      have hn : ¬ (c = .por) := fun h => by rw [hc h] at x; cases x
      simpa [State.resetUnits, Dev.afterReset, hn] using this
    frame := fun c => by cases c <;> first | exact Or.inl rfl | exact hK.frame _ }

theorem keeps_State_resetTo {pK : Bool} {AK : Nat} {sK tK : State} (c : Cls) (hA : 16777215 &&& AK = 16777215) (hc : c = .por → pK = true) (hK : Keeps pK AK sK tK) :
    Keeps pK AK sK (tK.resetTo c) := by
  refine Keeps.lift (B := 16777215) ?_ hA hK
  clear hK hA
  have hK : Keeps pK 16777215 tK tK := Keeps.refl ..
  unfold State.resetTo
  dsimp only
  have h1 := keeps_State_resetRegs c rfl (keeps_State_resetUnits c rfl hc (keeps_State_gatesOff rfl (keeps_State_pinsAtReset c rfl hK)))
  exact keeps_State_set _ _ _ _ rfl (keeps_cond (keeps_State_setFlag _ _ _ _ rfl h1) h1)

theorem keeps_State_resetTo_cold {pK : Bool} {AK : Nat} {sK tK : State} (hA : 16777215 &&& AK = 16777215) (hK : Keeps pK AK sK tK) : Keeps pK AK sK (tK.resetTo .cold) :=
  keeps_State_resetTo .cold hA (fun h => by cases h) hK

theorem keeps_State_resetTo_warm {pK : Bool} {AK : Nat} {sK tK : State} (hA : 16777215 &&& AK = 16777215) (hK : Keeps pK AK sK tK) : Keeps pK AK sK (tK.resetTo .warm) :=
  keeps_State_resetTo .warm hA (fun h => by cases h) hK

theorem keeps_State_cause {pK : Bool} {AK : Nat} {sK tK : State} (f : Fld) (hA : 1 &&& AK = 1)  (hK : Keeps pK AK sK tK) :
    Keeps pK AK sK (State.cause tK f) := by
  refine Keeps.lift (B := 1) ?_ hA hK
  clear hK hA
  have hK : Keeps pK 1 tK tK := Keeps.refl ..
  simp (maxDischargeDepth := 60) +contextual only [State.cause, Nat.reduceAnd, eq_self, keeps_State_setFlag, hK]

theorem keeps_State_bootStraps {pK : Bool} {AK : Nat} {sK tK : State}  (hA : 1 &&& AK = 1)  (hK : Keeps pK AK sK tK) :
    Keeps pK AK sK (State.bootStraps tK) := by
  refine Keeps.lift (B := 1) ?_ hA hK
  clear hK hA
  have hK : Keeps pK 1 tK tK := Keeps.refl ..
  simp (maxDischargeDepth := 60) +contextual only [State.bootStraps, Nat.reduceAnd, eq_self, keeps_State_set, hK]

theorem keeps_State_bootStore {pK : Bool} {AK : Nat} {sK tK : State} (c : Cls) (hA : 9437351 &&& AK = 9437351)  (hK : Keeps pK AK sK tK) :
    Keeps pK AK sK (State.bootStore tK c) := by
  refine Keeps.lift (B := 9437351) ?_ hA hK
  clear hK hA
  have hK : Keeps pK 9437351 tK tK := Keeps.refl ..
  simp (maxDischargeDepth := 60) +contextual only [State.bootStore, Nat.reduceAnd, eq_self, true_or, or_true, devSame_refl, keeps_cond, keeps_mk, keeps_State_emit, keeps_State_raise, keeps_State_readStore, keeps_State_set, hK]

theorem keeps_State_bootSelfTest {pK : Bool} {AK : Nat} {sK tK : State} (failed : Nat) (hA : 9023075 &&& AK = 9023075)  (hK : Keeps pK AK sK tK) :
    Keeps pK AK sK (State.bootSelfTest tK failed) := by
  refine Keeps.lift (B := 9023075) ?_ hA hK
  clear hK hA
  have hK : Keeps pK 9023075 tK tK := Keeps.refl ..
  simp (maxDischargeDepth := 60) +contextual only [State.bootSelfTest, Nat.reduceAnd, eq_self, keeps_cond, keeps_State_fatal, keeps_State_ledger, keeps_State_raise, keeps_State_set, keeps_State_setFlag, hK]

theorem keeps_State_bootSteps {pK : Bool} {AK : Nat} {sK tK : State} (c : Cls) (selfTest : Nat) (hA : 10071783 &&& AK = 10071783)  (hK : Keeps pK AK sK tK) :
    Keeps pK AK sK (State.bootSteps tK c selfTest) := by
  refine Keeps.lift (B := 10071783) ?_ hA hK
  clear hK hA
  have hK : Keeps pK 10071783 tK tK := Keeps.refl ..
  simp (maxDischargeDepth := 60) +contextual only [State.bootSteps, Nat.reduceAnd, eq_self, true_or, or_true, devSame_refl, keeps_cond, keeps_mk, keeps_State_bootSelfTest, keeps_State_bootStore, keeps_State_bootStraps, hK]

theorem keeps_execPowerOnReset {pK : Bool} {AK : Nat} {sK tK : State}  (hA : 16777215 &&& AK = 16777215) (hp : pK = true) (hK : Keeps pK AK sK tK) :
    KeepsR pK AK sK (execPowerOnReset tK) := by
  refine KeepsR.lift (B := 16777215) ?_ hA hK
  clear hK hA
  have hK : Keeps pK 16777215 tK tK := Keeps.refl ..
  exact keepsR_next (keeps_State_resetTo .por rfl (fun _ => hp) hK)

theorem keeps_execSysReset {pK : Bool} {AK : Nat} {sK tK : State}  (hA : 16777215 &&& AK = 16777215)  (hK : Keeps pK AK sK tK) :
    KeepsR pK AK sK (execSysReset tK) := by
  refine KeepsR.lift (B := 16777215) ?_ hA hK
  clear hK hA
  have hK : Keeps pK 16777215 tK tK := Keeps.refl ..
  simp (maxDischargeDepth := 60) +contextual only [execSysReset, Nat.reduceAnd, eq_self, keeps_cond, keepsR_next, keeps_State_cause, keeps_State_resetTo_cold, hK]

theorem keeps_execSysRstNRelease {pK : Bool} {AK : Nat} {sK tK : State} (sideB : Bool) (recovery : Bool) (selfTest : Nat) (hA : 10071783 &&& AK = 10071783)  (hK : Keeps pK AK sK tK) :
    KeepsR pK AK sK (execSysRstNRelease sideB recovery selfTest tK) := by
  refine KeepsR.lift (B := 10071783) ?_ hA hK
  clear hK hA
  have hK : Keeps pK 10071783 tK tK := Keeps.refl ..
  simp (maxDischargeDepth := 60) +contextual only [execSysRstNRelease, Nat.reduceAnd, eq_self, true_or, or_true, devSame_mk, keeps_ite, keepsR_next, keeps_mk, keeps_State_bootSteps, hK]

theorem keeps_execWarmRstPin {pK : Bool} {AK : Nat} {sK tK : State}  (hA : 8423975 &&& AK = 8423975)  (hK : Keeps pK AK sK tK) :
    KeepsR pK AK sK (execWarmRstPin tK) := by
  refine KeepsR.lift (B := 8423975) ?_ hA hK
  clear hK hA
  have hK : Keeps pK 8423975 tK tK := Keeps.refl ..
  simp (maxDischargeDepth := 60) +contextual only [execWarmRstPin, Nat.reduceAnd, eq_self, keepsR_next, keeps_State_askWarm, hK]

theorem keeps_execPwrCtlWarm {pK : Bool} {AK : Nat} {sK tK : State} (src : Src) (hA : 8424039 &&& AK = 8424039)  (hK : Keeps pK AK sK tK) :
    KeepsR pK AK sK (execPwrCtlWarm src tK) := by
  refine KeepsR.lift (B := 8424039) ?_ hA hK
  clear hK hA
  have hK : Keeps pK 8424039 tK tK := Keeps.refl ..
  simp (maxDischargeDepth := 60) +contextual only [execPwrCtlWarm, Nat.reduceAnd, eq_self, implies_true, keepsR_next, keeps_State_askWarm, keeps_State_busWrite, hK]

theorem keeps_execWarmResetEffect {pK : Bool} {AK : Nat} {sK tK : State} (selfTest : Nat) (hA : 16777215 &&& AK = 16777215)  (hK : Keeps pK AK sK tK) :
    KeepsR pK AK sK (execWarmResetEffect selfTest tK) := by
  refine KeepsR.lift (B := 16777215) ?_ hA hK
  clear hK hA
  have hK : Keeps pK 16777215 tK tK := Keeps.refl ..
  simp (maxDischargeDepth := 60) +contextual only [execWarmResetEffect, Nat.reduceAnd, eq_self, keeps_ite, keepsR_next, keeps_State_bootSteps, keeps_State_cause, keeps_State_resetTo_warm, hK]

theorem keeps_execFatalReset {pK : Bool} {AK : Nat} {sK tK : State} (selfTest : Nat) (hA : 16777215 &&& AK = 16777215)  (hK : Keeps pK AK sK tK) :
    KeepsR pK AK sK (execFatalReset selfTest tK) := by
  refine KeepsR.lift (B := 16777215) ?_ hA hK
  clear hK hA
  have hK : Keeps pK 16777215 tK tK := Keeps.refl ..
  simp (maxDischargeDepth := 60) +contextual only [execFatalReset, Nat.reduceAnd, eq_self, keeps_ite, keepsR_next, keeps_State_bootSteps, keeps_State_cause, keeps_State_reach, keeps_State_resetTo_cold, hK]

end Sys2Proof.Machine
end

