-- ==== Sys2Proof/Laws/KeepsFlume.lean ====
section
/-!
SUPPORT. Laws/KeepsFlume.lean: what each operation of the Chute, recovery, host ports and Flume receiving keeps (Laws/Keeps.lean): one lemma for each.
-/
set_option maxRecDepth 4000
set_option linter.all false

namespace Sys2Proof.Machine

/-! ## Machine/Chute.lean -/

theorem keeps_State_invalMap {pK : Bool} {AK : Nat} {sK tK : State} (map : Nat) (extent : Nat) (ent : ExtEnt) (hA : 8193 &&& AK = 8193)  (hK : Keeps pK AK sK tK) :
    Keeps pK AK sK (State.invalMap tK map extent ent) := by
  refine Keeps.lift (B := 8193) ?_ hA hK
  clear hK hA
  have hK : Keeps pK 8193 tK tK := Keeps.refl ..
  simp (maxDischargeDepth := 60) +contextual only [State.invalMap, Nat.reduceAnd, eq_self, true_or, or_true, devSame_refl, keeps_mk, keeps_State_set, keeps_State_setExtent, hK]

theorem keeps_execMapInval {pK : Bool} {AK : Nat} {sK tK : State} (src : Src) (map : Nat) (extent : Nat) (ent : ExtEnt) (hA : 8397411 &&& AK = 8397411)  (hK : Keeps pK AK sK tK) :
    KeepsR pK AK sK (execMapInval src map extent ent tK) := by
  refine KeepsR.lift (B := 8397411) ?_ hA hK
  clear hK hA
  have hK : Keeps pK 8397411 tK tK := Keeps.refl ..
  simp (maxDischargeDepth := 60) +contextual only [execMapInval, Nat.reduceAnd, eq_self, implies_true, keepsR_next, keeps_State_busWrite, keeps_State_invalMap, keeps_State_stepWrite, hK]

theorem keeps_execMapInvalDone {pK : Bool} {AK : Nat} {sK tK : State}  (hA : 8388643 &&& AK = 8388643)  (hK : Keeps pK AK sK tK) :
    KeepsR pK AK sK (execMapInvalDone tK) := by
  refine KeepsR.lift (B := 8388643) ?_ hA hK
  clear hK hA
  have hK : Keeps pK 8388643 tK tK := Keeps.refl ..
  simp (maxDischargeDepth := 60) +contextual only [execMapInvalDone, Nat.reduceAnd, eq_self, implies_true, keeps_ite, keepsR_next, keeps_State_inStep, keeps_State_raise, keeps_State_set, hK]

theorem keeps_State_apertureDrop {pK : Bool} {AK : Nat} {sK tK : State} (port : Nat) (hA : 8388707 &&& AK = 8388707)  (hK : Keeps pK AK sK tK) :
    Keeps pK AK sK (State.apertureDrop tK port) := by
  refine Keeps.lift (B := 8388707) ?_ hA hK
  clear hK hA
  have hK : Keeps pK 8388707 tK tK := Keeps.refl ..
  simp (maxDischargeDepth := 60) +contextual only [State.apertureDrop, Nat.reduceAnd, eq_self, keeps_State_bump, keeps_State_ledgerLimited, keeps_State_raiseLimited, hK]

theorem keeps_State_apertureStore_core {pK : Bool} {sK tK : State} (x : Aperture) (bufs : List Nat) (n i : Nat) (bs : List Byte) (hK : Keeps pK 7340032 sK tK) :
    Keeps pK 7340032 sK (tK.apertureStore x bufs n i bs) := by
  induction n generalizing tK i bs with
  | zero => exact hK
  | succ n ih =>
    unfold State.apertureStore
    try dsimp only
    repeat' (first | assumption | rfl | (intro) | (with_reducible first | apply ih | apply keeps_State_store | apply keeps_foldl) | simp only [keeps_mk_iff, devSame_refl, devSame_mk, Nat.reduceAnd, eq_self, true_or, or_true] | (refine KeepsP.of_eq (by assumption) ?_) | (refine KeepsO.of_eq (by assumption) ?_) | split)

theorem keeps_State_apertureStore {pK : Bool} {AK : Nat} {sK tK : State} (x : Aperture) (bufs : List Nat) (n i : Nat) (bs : List Byte) (hA : 7340032 &&& AK = 7340032) (hK : Keeps pK AK sK tK) :
    Keeps pK AK sK (tK.apertureStore x bufs n i bs) :=
  Keeps.lift (keeps_State_apertureStore_core x bufs n i bs (Keeps.refl ..)) hA hK

theorem keeps_execApertureWrite {pK : Bool} {AK : Nat} {sK tK : State} (port : Nat) (addr : Nat) (bytes : List Byte) (hA : 15728739 &&& AK = 15728739)  (hK : Keeps pK AK sK tK) :
    KeepsR pK AK sK (execApertureWrite port addr bytes tK) := by
  refine KeepsR.lift (B := 15728739) ?_ hA hK
  clear hK hA
  have hK : Keeps pK 15728739 tK tK := Keeps.refl ..
  unfold execApertureWrite
  (try dsimp only)
  repeat' (first | assumption | rfl | (intro) | (with_reducible first | apply keepsR_next | apply keeps_foldl | apply keepsP_foldl | apply keeps_ite | apply keeps_cond | apply keepsR_ite | apply keepsP_ite | apply keepsO_pair | apply keepsO_none | apply keepsO_ite | apply keepsV_mk | apply keepsV_ite | apply keepsP_mk | apply keeps_State_apertureDrop | apply keeps_State_apertureStore) | simp only [keeps_mk_iff, devSame_refl, devSame_mk, Nat.reduceAnd, eq_self, true_or, or_true, implies_true] | (refine KeepsP.of_eq (by assumption) ?_) | (refine KeepsO.of_eq (by assumption) ?_) | (refine KeepsV.of_eq (by assumption) ?_) | split)

theorem keeps_execApertureRead {pK : Bool} {AK : Nat} {sK tK : State} (port : Nat) (addr : Nat) (len : Nat) (hA : 8388707 &&& AK = 8388707)  (hK : Keeps pK AK sK tK) :
    KeepsR pK AK sK (execApertureRead port addr len tK) := by
  refine KeepsR.lift (B := 8388707) ?_ hA hK
  clear hK hA
  have hK : Keeps pK 8388707 tK tK := Keeps.refl ..
  simp (maxDischargeDepth := 60) +contextual only [execApertureRead, Nat.reduceAnd, eq_self, keeps_ite, keepsR_next, keeps_State_apertureDrop, keeps_State_emit, hK]

theorem keeps_execTagHoldExpiry {pK : Bool} {AK : Nat} {sK tK : State} (tag : Nat) (hA : 8192 &&& AK = 8192)  (hK : Keeps pK AK sK tK) :
    KeepsR pK AK sK (execTagHoldExpiry tag tK) := by
  refine KeepsR.lift (B := 8192) ?_ hA hK
  clear hK hA
  have hK : Keeps pK 8192 tK tK := Keeps.refl ..
  simp (maxDischargeDepth := 60) +contextual only [execTagHoldExpiry, Nat.reduceAnd, eq_self, keeps_ite, keepsR_next, keeps_State_setDtag, hK]

theorem keeps_execYardBufferGrant {pK : Bool} {AK : Nat} {sK tK : State} (cid : Nat) (hA : 32580643 &&& AK = 32580643)  (hK : Keeps pK AK sK tK) :
    KeepsR pK AK sK (execYardBufferGrant cid tK) := by
  refine KeepsR.lift (B := 32580643) ?_ hA hK
  clear hK hA
  have hK : Keeps pK 32580643 tK tK := Keeps.refl ..
  unfold execYardBufferGrant
  (try dsimp only); (repeat' split) <;> simp (maxDischargeDepth := 60) +contextual only [Nat.reduceAnd, eq_self, true_or, or_true, devSame_refl, keepsR_next, KeepsP.fst, keeps_mk, keeps_State_equip, hK]

theorem keeps_State_startRebuild {pK : Bool} {AK : Nat} {sK tK : State} (g : Nat) (hA : 8421411 &&& AK = 8421411)  (hK : Keeps pK AK sK tK) :
    Keeps pK AK sK (State.startRebuild tK g) := by
  refine Keeps.lift (B := 8421411) ?_ hA hK
  clear hK hA
  have hK : Keeps pK 8421411 tK tK := Keeps.refl ..
  unfold State.startRebuild
  (try dsimp only); (repeat' split) <;> simp (maxDischargeDepth := 60) +contextual only [Nat.reduceAnd, eq_self, true_or, or_true, devSame_refl, keeps_mk, keeps_State_raise, hK]

theorem keeps_State_retireFallow {pK : Bool} {AK : Nat} {sK tK : State}  (hA : 32613923 &&& AK = 32613923)  (hK : Keeps pK AK sK tK) :
    Keeps pK AK sK (State.retireFallow tK) := by
  refine Keeps.lift (B := 32613923) ?_ hA hK
  clear hK hA
  have hK : Keeps pK 32613923 tK tK := Keeps.refl ..
  unfold State.retireFallow
  (try dsimp only); (repeat' split) <;> simp (maxDischargeDepth := 60) +contextual only [Nat.reduceAnd, eq_self, keeps_cond, keeps_State_retireDump, hK]

theorem keeps_execBrandUpdateDone {pK : Bool} {AK : Nat} {sK tK : State} (group : Nat) (hA : 32630307 &&& AK = 32630307)  (hK : Keeps pK AK sK tK) :
    KeepsR pK AK sK (execBrandUpdateDone group tK) := by
  refine KeepsR.lift (B := 32630307) ?_ hA hK
  clear hK hA
  have hK : Keeps pK 32630307 tK tK := Keeps.refl ..
  unfold execBrandUpdateDone
  (try dsimp only)
  repeat' (first | assumption | rfl | (intro) | (with_reducible first | apply keepsR_next | apply keeps_foldl | apply keepsP_foldl | apply keeps_ite | apply keeps_cond | apply keepsR_ite | apply keepsP_ite | apply keepsO_pair | apply keepsO_none | apply keepsO_ite | apply keepsV_mk | apply keepsV_ite | apply keepsP_mk | apply keeps_State_inStep | apply keeps_State_raise | apply keeps_State_retireFallow | apply keeps_State_set | apply keeps_State_setGrp | apply keeps_State_settleGroup | apply keeps_State_startBrand | apply keeps_State_startRebuild) | simp only [keeps_mk_iff, devSame_refl, devSame_mk, Nat.reduceAnd, eq_self, true_or, or_true, implies_true] | (refine KeepsP.of_eq (by assumption) ?_) | (refine KeepsO.of_eq (by assumption) ?_) | (refine KeepsV.of_eq (by assumption) ?_) | split)

theorem keeps_State_allocated {pK : Bool} {AK : Nat} {sK tK : State} (c : Cmd) (hA : 33159075 &&& AK = 33159075)  (hK : Keeps pK AK sK tK) :
    Keeps pK AK sK (State.allocated tK c) := by
  refine Keeps.lift (B := 33159075) ?_ hA hK
  clear hK hA
  have hK : Keeps pK 33159075 tK tK := Keeps.refl ..
  unfold State.allocated
  (try dsimp only); (repeat' split) <;> simp (maxDischargeDepth := 60) +contextual only [Nat.reduceAnd, eq_self, keeps_State_endCmd, keeps_State_fetchData, keeps_State_writeHeldBlocks, hK]

theorem keeps_execMapCommitDone {pK : Bool} {AK : Nat} {sK tK : State} (group : Nat) (allocs : List (Nat × Nat × ExtEnt)) (hA : 33159075 &&& AK = 33159075)  (hK : Keeps pK AK sK tK) :
    KeepsR pK AK sK (execMapCommitDone group allocs tK) := by
  refine KeepsR.lift (B := 33159075) ?_ hA hK
  clear hK hA
  have hK : Keeps pK 33159075 tK tK := Keeps.refl ..
  unfold execMapCommitDone
  (try dsimp only)
  repeat' (first | assumption | rfl | (intro) | (with_reducible first | apply keepsR_next | apply keeps_foldl | apply keepsP_foldl | apply keeps_ite | apply keeps_cond | apply keepsR_ite | apply keepsP_ite | apply keepsO_pair | apply keepsO_none | apply keepsO_ite | apply keepsV_mk | apply keepsV_ite | apply keepsP_mk | apply keeps_State_ackWrites | apply keeps_State_allocated | apply keeps_State_dirtyLevel | apply keeps_State_endCmd | apply keeps_State_inStep | apply keeps_State_setExtent | apply keeps_State_setGrp | apply keeps_State_startBrand) | simp only [keeps_mk_iff, devSame_refl, Nat.reduceAnd, eq_self, true_or, or_true] | (refine KeepsP.of_eq (by assumption) ?_) | (refine KeepsO.of_eq (by assumption) ?_) | (refine KeepsV.of_eq (by assumption) ?_) | split)

theorem keeps_execDestageStart {pK : Bool} {AK : Nat} {sK tK : State} (group : Nat) (stripe : Nat) (reads : List ColRead) (hA : 32634403 &&& AK = 32634403)  (hK : Keeps pK AK sK tK) :
    KeepsR pK AK sK (execDestageStart group stripe reads tK) := by
  refine KeepsR.lift (B := 32634403) ?_ hA hK
  clear hK hA
  have hK : Keeps pK 32634403 tK tK := Keeps.refl ..
  unfold execDestageStart
  (try dsimp only)
  repeat' (first | assumption | rfl | (intro) | (with_reducible first | apply keepsR_next | apply keeps_foldl | apply keepsP_foldl | apply keeps_ite | apply keeps_cond | apply keepsR_ite | apply keepsP_ite | apply keepsO_pair | apply keepsO_none | apply keepsO_ite | apply keepsV_mk | apply keepsV_ite | apply keepsP_mk | apply keeps_State_destage | apply keeps_State_inStep) | simp only [keeps_mk_iff, devSame_refl, devSame_mk, Nat.reduceAnd, eq_self, true_or, or_true, implies_true] | (refine KeepsP.of_eq (by assumption) ?_) | (refine KeepsO.of_eq (by assumption) ?_) | (refine KeepsV.of_eq (by assumption) ?_) | split)

/-! ## Machine/Recovery.lean -/

theorem keeps_execDumpWriteWaitExpiry {pK : Bool} {AK : Nat} {sK tK : State}  (hA : 32613987 &&& AK = 32613987)  (hK : Keeps pK AK sK tK) :
    KeepsR pK AK sK (execDumpWriteWaitExpiry tK) := by
  refine KeepsR.lift (B := 32613987) ?_ hA hK
  clear hK hA
  have hK : Keeps pK 32613987 tK tK := Keeps.refl ..
  unfold execDumpWriteWaitExpiry
  (try dsimp only)
  repeat' (first | assumption | rfl | (intro) | (with_reducible first | apply keepsR_next | apply keeps_foldl | apply keepsP_foldl | apply keeps_ite | apply keeps_cond | apply keepsR_ite | apply keepsP_ite | apply keepsO_pair | apply keepsO_none | apply keepsO_ite | apply keepsV_mk | apply keepsV_ite | apply keepsP_mk | apply keeps_State_dumpHeaders | apply keeps_State_dumpRun | apply keeps_State_inStep | apply keeps_State_stage) | simp only [keeps_mk_iff, devSame_refl, devSame_mk, Nat.reduceAnd, eq_self, true_or, or_true, implies_true] | (refine KeepsP.of_eq (by assumption) ?_) | (refine KeepsO.of_eq (by assumption) ?_) | (refine KeepsV.of_eq (by assumption) ?_) | split)

theorem keeps_execDumpComplete {pK : Bool} {AK : Nat} {sK tK : State}  (hA : 32613987 &&& AK = 32613987)  (hK : Keeps pK AK sK tK) :
    KeepsR pK AK sK (execDumpComplete tK) := by
  refine KeepsR.lift (B := 32613987) ?_ hA hK
  clear hK hA
  have hK : Keeps pK 32613987 tK tK := Keeps.refl ..
  unfold execDumpComplete
  (try dsimp only)
  repeat' (first | assumption | rfl | (intro) | (with_reducible first | apply keepsR_next | apply keeps_foldl | apply keepsP_foldl | apply keeps_ite | apply keeps_cond | apply keepsR_ite | apply keepsP_ite | apply keepsO_pair | apply keepsO_none | apply keepsO_ite | apply keepsV_mk | apply keepsV_ite | apply keepsP_mk | apply keeps_State_dumpRun | apply keeps_State_inStep | apply keeps_State_ledger | apply keeps_State_raise | apply keeps_State_setDump | apply keeps_State_stage | apply keeps_State_writeHeaders) | simp only [keeps_mk_iff, devSame_refl, devSame_mk, Nat.reduceAnd, eq_self, true_or, or_true, implies_true] | (refine KeepsP.of_eq (by assumption) ?_) | (refine KeepsO.of_eq (by assumption) ?_) | (refine KeepsV.of_eq (by assumption) ?_) | split)

theorem keeps_State_markVerify {pK : Bool} {AK : Nat} {sK tK : State} (g : Nat) (hA : 8405027 &&& AK = 8405027)  (hK : Keeps pK AK sK tK) :
    Keeps pK AK sK (State.markVerify tK g) := by
  refine Keeps.lift (B := 8405027) ?_ hA hK
  clear hK hA
  have hK : Keeps pK 8405027 tK tK := Keeps.refl ..
  unfold State.markVerify
  (try dsimp only); (repeat' split) <;> simp (maxDischargeDepth := 60) +contextual only [Nat.reduceAnd, eq_self, keeps_State_raise, keeps_State_setGrp, hK]

theorem keeps_State_markAll {pK : Bool} {AK : Nat} {sK tK : State}  (hA : 8405027 &&& AK = 8405027)  (hK : Keeps pK AK sK tK) :
    Keeps pK AK sK (State.markAll tK) := by
  refine Keeps.lift (B := 8405027) ?_ hA hK
  clear hK hA
  have hK : Keeps pK 8405027 tK tK := Keeps.refl ..
  simp (maxDischargeDepth := 60) +contextual only [State.markAll, Nat.reduceAnd, eq_self, implies_true, keeps_foldl, keeps_State_markVerify, hK]

theorem keeps_State_restoreCounter {pK : Bool} {AK : Nat} {sK tK : State} (c : Option Nat) (hA : 8390819 &&& AK = 8390819)  (hK : Keeps pK AK sK tK) :
    Keeps pK AK sK (State.restoreCounter tK c) := by
  refine Keeps.lift (B := 8390819) ?_ hA hK
  clear hK hA
  have hK : Keeps pK 8390819 tK tK := Keeps.refl ..
  unfold State.restoreCounter
  (try dsimp only); (repeat' split) <;> simp (maxDischargeDepth := 60) +contextual only [Nat.reduceAnd, eq_self, true_or, or_true, devSame_refl, keeps_mk, keeps_State_raise, keeps_State_setFlag, hK]

theorem keeps_State_restage {pK : Bool} {AK : Nat} {sK tK : State} (e : SegBlock) (hA : 8450083 &&& AK = 8450083)  (hK : Keeps pK AK sK tK) :
    Keeps pK AK sK (State.restage tK e) := by
  refine Keeps.lift (B := 8450083) ?_ hA hK
  clear hK hA
  have hK : Keeps pK 8450083 tK tK := Keeps.refl ..
  unfold State.restage
  (try dsimp only); (repeat' split) <;> simp (maxDischargeDepth := 60) +contextual only [Nat.reduceAnd, eq_self, true_or, or_true, devSame_refl, keeps_mk, keeps_State_recordLost, keeps_State_stage, hK]

theorem keeps_State_resolve {pK : Bool} {AK : Nat} {sK tK : State} (t : TallyRec) (reads : List ColRead) (hA : 32634403 &&& AK = 32634403)  (hK : Keeps pK AK sK tK) :
    Keeps pK AK sK (State.resolve tK t reads) := by
  refine Keeps.lift (B := 32634403) ?_ hA hK
  clear hK hA
  have hK : Keeps pK 32634403 tK tK := Keeps.refl ..
  unfold State.resolve
  (try dsimp only); (repeat' split) <;> simp (maxDischargeDepth := 60) +contextual only [Nat.reduceAnd, eq_self, implies_true, keeps_ite, keeps_foldl, keeps_State_begin, keeps_State_openEntry, keeps_State_recordLost, keeps_State_settleEntry, keeps_State_startBrand, keeps_State_sweepAt, hK]

theorem keeps_State_restoreControl {pK : Bool} {AK : Nat} {sK tK : State} (c : CtrlPart) (hA : 53248 &&& AK = 53248)  (hK : Keeps pK AK sK tK) :
    Keeps pK AK sK (State.restoreControl tK c) := by
  refine Keeps.lift (B := 53248) ?_ hA hK
  clear hK hA
  have hK : Keeps pK 53248 tK tK := Keeps.refl ..
  unfold State.restoreControl
  (try dsimp only)
  repeat' (first | assumption | rfl | (intro) | (with_reducible first | apply keepsR_next | apply keeps_foldl | apply keepsP_foldl | apply keeps_ite | apply keeps_cond | apply keepsR_ite | apply keepsP_ite | apply keepsO_pair | apply keepsO_none | apply keepsO_ite | apply keepsV_mk | apply keepsV_ite | apply keepsP_mk | apply keeps_State_setGrp) | simp only [keeps_mk_iff, devSame_refl, Nat.reduceAnd, eq_self, true_or, or_true] | (refine KeepsP.of_eq (by assumption) ?_) | (refine KeepsO.of_eq (by assumption) ?_) | (refine KeepsV.of_eq (by assumption) ?_) | split)

theorem keeps_State_loseSegment {pK : Bool} {AK : Nat} {sK tK : State} (l : Nat × Nat × Nat) (hA : 36864 &&& AK = 36864)  (hK : Keeps pK AK sK tK) :
    Keeps pK AK sK (State.loseSegment tK l) := by
  refine Keeps.lift (B := 36864) ?_ hA hK
  clear hK hA
  have hK : Keeps pK 36864 tK tK := Keeps.refl ..
  simp (maxDischargeDepth := 60) +contextual only [State.loseSegment, Nat.reduceAnd, eq_self, true_or, or_true, devSame_refl, keeps_mk, hK]

theorem keeps_State_recoverDump {pK : Bool} {AK : Nat} {sK tK : State} (f : FoundDump) (hA : 32636579 &&& AK = 32636579)  (hK : Keeps pK AK sK tK) :
    Keeps pK AK sK (State.recoverDump tK f) := by
  refine Keeps.lift (B := 32636579) ?_ hA hK
  clear hK hA
  have hK : Keeps pK 32636579 tK tK := Keeps.refl ..
  unfold State.recoverDump
  (try dsimp only); (repeat' split) <;> simp (maxDischargeDepth := 60) +contextual only [Nat.reduceAnd, eq_self, true_or, or_true, implies_true, devSame_refl, keeps_foldl, keeps_mk, keeps_State_loseSegment, keeps_State_markAll, keeps_State_raise, keeps_State_resolve, keeps_State_restage, keeps_State_restoreControl, keeps_State_restoreCounter, keeps_State_set, hK]

theorem keeps_State_ledgerCopied {pK : Bool} {AK : Nat} {sK tK : State} (section_ : Option (List Byte)) (hA : 24117249 &&& AK = 24117249)  (hK : Keeps pK AK sK tK) :
    Keeps pK AK sK (State.ledgerCopied tK section_) := by
  refine Keeps.lift (B := 24117249) ?_ hA hK
  clear hK hA
  have hK : Keeps pK 24117249 tK tK := Keeps.refl ..
  unfold State.ledgerCopied
  (try dsimp only); (repeat' split) <;> simp (maxDischargeDepth := 60) +contextual only [Nat.reduceAnd, eq_self, keeps_State_drawn, keeps_State_set, keeps_State_store, hK]

theorem keeps_State_recoverNothing {pK : Bool} {AK : Nat} {sK tK : State}  (hA : 8407203 &&& AK = 8407203)  (hK : Keeps pK AK sK tK) :
    Keeps pK AK sK (State.recoverNothing tK) := by
  refine Keeps.lift (B := 8407203) ?_ hA hK
  clear hK hA
  have hK : Keeps pK 8407203 tK tK := Keeps.refl ..
  simp (maxDischargeDepth := 60) +contextual only [State.recoverNothing, Nat.reduceAnd, eq_self, keeps_ite, keeps_State_markAll, keeps_State_raise, keeps_State_restoreCounter, keeps_State_set, keeps_State_setFlag, hK]

theorem keeps_execRecovery {pK : Bool} {AK : Nat} {sK tK : State} (found : Option FoundDump) (maps : List (Nat × Nat)) (exts : List (Nat × Nat × ExtEnt)) (hA : 32636579 &&& AK = 32636579)  (hK : Keeps pK AK sK tK) :
    KeepsR pK AK sK (execRecovery found maps exts tK) := by
  refine KeepsR.lift (B := 32636579) ?_ hA hK
  clear hK hA
  have hK : Keeps pK 32636579 tK tK := Keeps.refl ..
  unfold execRecovery
  (try dsimp only); (repeat' split) <;> simp (maxDischargeDepth := 60) +contextual only [Nat.reduceAnd, eq_self, true_or, or_true, implies_true, devSame_refl, keeps_foldl, keepsR_next, keeps_mk, keeps_State_ledgerCopied, keeps_State_recoverDump, keeps_State_recoverNothing, keeps_State_set, keeps_State_setExtent, keeps_State_startBrand, keeps_State_startRebuild, keeps_State_vaultChanged, hK]

theorem keeps_execDumpRetireRecovered {pK : Bool} {AK : Nat} {sK tK : State}  (hA : 32613923 &&& AK = 32613923)  (hK : Keeps pK AK sK tK) :
    KeepsR pK AK sK (execDumpRetireRecovered tK) := by
  refine KeepsR.lift (B := 32613923) ?_ hA hK
  clear hK hA
  have hK : Keeps pK 32613923 tK tK := Keeps.refl ..
  unfold execDumpRetireRecovered
  (try dsimp only)
  repeat' (first | assumption | rfl | (intro) | (with_reducible first | apply keepsR_next | apply keeps_foldl | apply keepsP_foldl | apply keeps_ite | apply keeps_cond | apply keepsR_ite | apply keepsP_ite | apply keepsO_pair | apply keepsO_none | apply keepsO_ite | apply keepsV_mk | apply keepsV_ite | apply keepsP_mk | apply keeps_State_inStep | apply keeps_State_raise | apply keeps_State_writeHeaders) | simp only [keeps_mk_iff, devSame_refl, Nat.reduceAnd, eq_self, true_or, or_true] | (refine KeepsP.of_eq (by assumption) ?_) | (refine KeepsO.of_eq (by assumption) ?_) | (refine KeepsV.of_eq (by assumption) ?_) | split)

/-! ## Machine/Ports.lean -/

theorem keeps_State_sendPfc {pK : Bool} {AK : Nat} {sK tK : State} (lport : Nat) (cls : Nat) (quanta : Nat) (hA : 8388609 &&& AK = 8388609)  (hK : Keeps pK AK sK tK) :
    Keeps pK AK sK (State.sendPfc tK lport cls quanta) := by
  refine Keeps.lift (B := 8388609) ?_ hA hK
  clear hK hA
  have hK : Keeps pK 8388609 tK tK := Keeps.refl ..
  simp (maxDischargeDepth := 60) +contextual only [State.sendPfc, Nat.reduceAnd, eq_self, keeps_ite, keeps_State_bump, keeps_State_emit, hK]

theorem keeps_State_pfcClass {pK : Bool} {AK : Nat} {sK tK : State} (lport : Nat) (cls : Nat) (hA : 8519715 &&& AK = 8519715)  (hK : Keeps pK AK sK tK) :
    Keeps pK AK sK (State.pfcClass tK lport cls) := by
  refine Keeps.lift (B := 8519715) ?_ hA hK
  clear hK hA
  have hK : Keeps pK 8519715 tK tK := Keeps.refl ..
  simp (maxDischargeDepth := 60) +contextual only [State.pfcClass, Nat.reduceAnd, eq_self, keeps_ite, keeps_State_raise, keeps_State_sendPfc, keeps_State_setLportSt, hK]

theorem keeps_State_pfcCheck {pK : Bool} {AK : Nat} {sK tK : State} (p : Nat) (hA : 8519715 &&& AK = 8519715)  (hK : Keeps pK AK sK tK) :
    Keeps pK AK sK (State.pfcCheck tK p) := by
  refine Keeps.lift (B := 8519715) ?_ hA hK
  clear hK hA
  have hK : Keeps pK 8519715 tK tK := Keeps.refl ..
  simp (maxDischargeDepth := 60) +contextual only [State.pfcCheck, Nat.reduceAnd, eq_self, implies_true, keeps_ite, keeps_foldl, keeps_State_pfcClass, hK]

theorem keeps_execPfcRepeat {pK : Bool} {AK : Nat} {sK tK : State} (lport : Nat) (cls : Nat) (hA : 8519715 &&& AK = 8519715)  (hK : Keeps pK AK sK tK) :
    KeepsR pK AK sK (execPfcRepeat lport cls tK) := by
  refine KeepsR.lift (B := 8519715) ?_ hA hK
  clear hK hA
  have hK : Keeps pK 8519715 tK tK := Keeps.refl ..
  unfold execPfcRepeat
  (try dsimp only); (repeat' split) <;> simp (maxDischargeDepth := 60) +contextual only [Nat.reduceAnd, eq_self, keepsR_next, keeps_State_pfcClass, keeps_State_sendPfc, keeps_State_setLportSt, hK]

theorem keeps_State_pauseClass {pK : Bool} {AK : Nat} {sK tK : State} (lport : Nat) (cls : Nat) (quanta : Nat) (hA : 196608 &&& AK = 196608)  (hK : Keeps pK AK sK tK) :
    Keeps pK AK sK (State.pauseClass tK lport cls quanta) := by
  refine Keeps.lift (B := 196608) ?_ hA hK
  clear hK hA
  have hK : Keeps pK 196608 tK tK := Keeps.refl ..
  simp (maxDischargeDepth := 60) +contextual only [State.pauseClass, Nat.reduceAnd, eq_self, keeps_State_accrue, keeps_State_setLportSt, hK]

theorem keeps_State_pauseFrame {pK : Bool} {AK : Nat} {sK tK : State} (lport : Nat) (pfc : Bool) (enable : Nat) (quanta : List Nat) (hA : 196609 &&& AK = 196609)  (hK : Keeps pK AK sK tK) :
    Keeps pK AK sK (State.pauseFrame tK lport pfc enable quanta) := by
  refine Keeps.lift (B := 196609) ?_ hA hK
  clear hK hA
  have hK : Keeps pK 196609 tK tK := Keeps.refl ..
  simp (maxDischargeDepth := 60) +contextual only [State.pauseFrame, Nat.reduceAnd, eq_self, implies_true, keeps_ite, keeps_foldl, keeps_State_bump, keeps_State_pauseClass, hK]

theorem keeps_execPauseFrameRx {pK : Bool} {AK : Nat} {sK tK : State} (lport : Nat) (pfc : Bool) (enable : Nat) (quanta : List Nat) (fcsOk : Bool) (hA : 196609 &&& AK = 196609)  (hK : Keeps pK AK sK tK) :
    KeepsR pK AK sK (execPauseFrameRx lport pfc enable quanta fcsOk tK) := by
  refine KeepsR.lift (B := 196609) ?_ hA hK
  clear hK hA
  have hK : Keeps pK 196609 tK tK := Keeps.refl ..
  simp (maxDischargeDepth := 60) +contextual only [execPauseFrameRx, Nat.reduceAnd, eq_self, keeps_ite, keepsR_next, keeps_State_pauseFrame, hK]

theorem keeps_execPauseExpiry {pK : Bool} {AK : Nat} {sK tK : State} (lport : Nat) (cls : Nat) (hA : 196608 &&& AK = 196608)  (hK : Keeps pK AK sK tK) :
    KeepsR pK AK sK (execPauseExpiry lport cls tK) := by
  refine KeepsR.lift (B := 196608) ?_ hA hK
  clear hK hA
  have hK : Keeps pK 196608 tK tK := Keeps.refl ..
  simp (maxDischargeDepth := 60) +contextual only [execPauseExpiry, Nat.reduceAnd, eq_self, keeps_ite, keepsR_next, keeps_State_accrue, keeps_State_setLportSt, hK]

theorem keeps_execPauseWatchdogTrip {pK : Bool} {AK : Nat} {sK tK : State} (lport : Nat) (cls : Nat) (hA : 8585315 &&& AK = 8585315)  (hK : Keeps pK AK sK tK) :
    KeepsR pK AK sK (execPauseWatchdogTrip lport cls tK) := by
  refine KeepsR.lift (B := 8585315) ?_ hA hK
  clear hK hA
  have hK : Keeps pK 8585315 tK tK := Keeps.refl ..
  simp (maxDischargeDepth := 60) +contextual only [execPauseWatchdogTrip, Nat.reduceAnd, eq_self, keeps_ite, keepsR_next, keeps_State_accrue, keeps_State_ledgerLimited, keeps_State_raise, keeps_State_setLportSt, hK]

theorem keeps_execPauseWatchdogClear {pK : Bool} {AK : Nat} {sK tK : State} (lport : Nat) (cls : Nat) (hA : 131072 &&& AK = 131072)  (hK : Keeps pK AK sK tK) :
    KeepsR pK AK sK (execPauseWatchdogClear lport cls tK) := by
  refine KeepsR.lift (B := 131072) ?_ hA hK
  clear hK hA
  have hK : Keeps pK 131072 tK tK := Keeps.refl ..
  unfold execPauseWatchdogClear
  (try dsimp only); (repeat' split) <;> simp (maxDischargeDepth := 60) +contextual only [Nat.reduceAnd, eq_self, keepsR_next, keeps_State_setLportSt, hK]

theorem keeps_State_setLink {pK : Bool} {AK : Nat} {sK tK : State} (lport : Nat) (up : Bool) (hA : 8388643 &&& AK = 8388643)  (hK : Keeps pK AK sK tK) :
    Keeps pK AK sK (State.setLink tK lport up) := by
  refine Keeps.lift (B := 8388643) ?_ hA hK
  clear hK hA
  have hK : Keeps pK 8388643 tK tK := Keeps.refl ..
  simp (maxDischargeDepth := 60) +contextual only [State.setLink, Nat.reduceAnd, eq_self, keeps_State_raise, keeps_State_set, hK]

theorem keeps_execHostLinkUp {pK : Bool} {AK : Nat} {sK tK : State} (lport : Nat) (hA : 8388899 &&& AK = 8388899)  (hK : Keeps pK AK sK tK) :
    KeepsR pK AK sK (execHostLinkUp lport tK) := by
  refine KeepsR.lift (B := 8388899) ?_ hA hK
  clear hK hA
  have hK : Keeps pK 8388899 tK tK := Keeps.refl ..
  simp (maxDischargeDepth := 60) +contextual only [execHostLinkUp, Nat.reduceAnd, eq_self, keeps_ite, keepsR_next, keeps_State_reselectAll, keeps_State_setLink, hK]

theorem keeps_State_linkLost {pK : Bool} {AK : Nat} {sK tK : State} (lport : Nat) (hA : 8585507 &&& AK = 8585507)  (hK : Keeps pK AK sK tK) :
    Keeps pK AK sK (State.linkLost tK lport) := by
  refine Keeps.lift (B := 8585507) ?_ hA hK
  clear hK hA
  have hK : Keeps pK 8585507 tK tK := Keeps.refl ..
  simp (maxDischargeDepth := 60) +contextual only [State.linkLost, Nat.reduceAnd, eq_self, keeps_State_accrue, keeps_State_reselectAll, keeps_State_setLink, keeps_State_setLportSt, hK]

theorem keeps_execHostLinkDown {pK : Bool} {AK : Nat} {sK tK : State} (lport : Nat) (hA : 8585507 &&& AK = 8585507)  (hK : Keeps pK AK sK tK) :
    KeepsR pK AK sK (execHostLinkDown lport tK) := by
  refine KeepsR.lift (B := 8585507) ?_ hA hK
  clear hK hA
  have hK : Keeps pK 8585507 tK tK := Keeps.refl ..
  simp (maxDischargeDepth := 60) +contextual only [execHostLinkDown, Nat.reduceAnd, eq_self, keeps_ite, keepsR_next, keeps_State_linkLost, hK]

theorem keeps_State_rxError {pK : Bool} {AK : Nat} {sK tK : State} (f : Fld) (lport : Nat) (hA : 8388643 &&& AK = 8388643)  (hK : Keeps pK AK sK tK) :
    Keeps pK AK sK (State.rxError tK f lport) := by
  refine Keeps.lift (B := 8388643) ?_ hA hK
  clear hK hA
  have hK : Keeps pK 8388643 tK tK := Keeps.refl ..
  simp (maxDischargeDepth := 60) +contextual only [State.rxError, Nat.reduceAnd, eq_self, keeps_State_bump, keeps_State_raiseLimited, hK]

theorem keeps_State_macControl {pK : Bool} {AK : Nat} {sK tK : State} (lport : Nat) (f : List Byte) (good : Bool) (hA : 196609 &&& AK = 196609)  (hK : Keeps pK AK sK tK) :
    Keeps pK AK sK (State.macControl tK lport f good) := by
  refine Keeps.lift (B := 196609) ?_ hA hK
  clear hK hA
  have hK : Keeps pK 196609 tK tK := Keeps.refl ..
  simp (maxDischargeDepth := 60) +contextual only [State.macControl, Nat.reduceAnd, eq_self, keeps_ite, keeps_State_bump, keeps_State_pauseFrame, hK]

theorem keeps_State_ingressMeter {pK : Bool} {AK : Nat} {sK tK : State} (lport : Nat) (cls : Nat) (f : List Byte) (hA : 8454179 &&& AK = 8454179)  (hK : Keeps pK AK sK tK) :
    KeepsP pK AK sK (State.ingressMeter tK lport cls f) := by
  refine KeepsP.lift (B := 8454179) ?_ hA hK
  clear hK hA
  have hK : Keeps pK 8454179 tK tK := Keeps.refl ..
  unfold State.ingressMeter
  (try dsimp only); (repeat' split) <;> simp (maxDischargeDepth := 60) +contextual only [Nat.reduceAnd, eq_self, true_or, or_true, devSame_refl, keepsP_mk, KeepsP.fst, keeps_mk, keeps_State_meterUnit, hK]

theorem keeps_State_ingressDrop {pK : Bool} {AK : Nat} {sK tK : State}  (hA : 8388643 &&& AK = 8388643)  (hK : Keeps pK AK sK tK) :
    Keeps pK AK sK (State.ingressDrop tK) := by
  refine Keeps.lift (B := 8388643) ?_ hA hK
  clear hK hA
  have hK : Keeps pK 8388643 tK tK := Keeps.refl ..
  simp (maxDischargeDepth := 60) +contextual only [State.ingressDrop, Nat.reduceAnd, eq_self, keeps_State_bump, keeps_State_raiseLimited, hK]

theorem keeps_State_forward {pK : Bool} {AK : Nat} {sK tK : State} (lport : Nat) (cls : Nat) (f : List Byte) (bad : Bool) (linkRefuses : Bool) (hA : 25305635 &&& AK = 25305635)  (hK : Keeps pK AK sK tK) :
    Keeps pK AK sK (State.forward tK lport cls f bad linkRefuses) := by
  refine Keeps.lift (B := 25305635) ?_ hA hK
  clear hK hA
  have hK : Keeps pK 25305635 tK tK := Keeps.refl ..
  unfold State.forward
  (try dsimp only)
  repeat' (first | assumption | rfl | (intro) | (with_reducible first | apply keepsR_next | apply keeps_foldl | apply keepsP_foldl | apply keeps_ite | apply keeps_cond | apply keepsR_ite | apply keepsP_ite | apply keepsO_pair | apply keepsO_none | apply keepsO_ite | apply keepsV_mk | apply keepsV_ite | apply keepsP_mk | apply keeps_State_count | apply keeps_State_emit | apply keeps_State_ingressDrop | apply keeps_State_observe | apply keeps_State_pfcCheck | apply keeps_State_raiseLimited | apply keeps_State_yardRefused | apply keeps_State_yardRelease | apply keeps_State_yardTake) | simp only [keeps_mk_iff, devSame_refl, Nat.reduceAnd, eq_self, true_or, or_true] | (refine KeepsP.of_eq (by assumption) ?_) | (refine KeepsO.of_eq (by assumption) ?_) | (refine KeepsV.of_eq (by assumption) ?_) | split)

theorem keeps_execHostFrameRx {pK : Bool} {AK : Nat} {sK tK : State} (lport : Nat) (frame : List Byte) (ending : FrameEnd) (linkRefuses : Bool) (hA : 25371171 &&& AK = 25371171)  (hK : Keeps pK AK sK tK) :
    KeepsR pK AK sK (execHostFrameRx lport frame ending linkRefuses tK) := by
  refine KeepsR.lift (B := 25371171) ?_ hA hK
  clear hK hA
  have hK : Keeps pK 25371171 tK tK := Keeps.refl ..
  unfold execHostFrameRx
  (try dsimp only); (repeat' split) <;> simp (maxDischargeDepth := 60) +contextual only [Nat.reduceAnd, eq_self, keepsR_next, KeepsP.fst, keeps_State_bump, keeps_State_count, keeps_State_forward, keeps_State_ingressMeter, keeps_State_macControl, keeps_State_raiseLimited, keeps_State_rxError, hK]

theorem keeps_State_frameDone {pK : Bool} {AK : Nat} {sK tK : State} (origin : Nat) (hA : 139264 &&& AK = 139264)  (hK : Keeps pK AK sK tK) :
    Keeps pK AK sK (State.frameDone tK origin) := by
  refine Keeps.lift (B := 139264) ?_ hA hK
  clear hK hA
  have hK : Keeps pK 139264 tK tK := Keeps.refl ..
  unfold State.frameDone
  (try dsimp only); (repeat' split) <;> simp (maxDischargeDepth := 60) +contextual only [Nat.reduceAnd, eq_self, true_or, or_true, devSame_refl, keeps_mk, keeps_State_yardRelease, hK]

theorem keeps_State_frameIn {pK : Bool} {AK : Nat} {sK tK : State} (lport : Nat) (f : List Byte) (hA : 8388608 &&& AK = 8388608)  (hK : Keeps pK AK sK tK) :
    Keeps pK AK sK (State.frameIn tK lport f) := by
  refine Keeps.lift (B := 8388608) ?_ hA hK
  clear hK hA
  have hK : Keeps pK 8388608 tK tK := Keeps.refl ..
  unfold State.frameIn
  (try dsimp only); (repeat' split) <;> simp (maxDischargeDepth := 60) +contextual only [Nat.reduceAnd, eq_self, keeps_State_emit, hK]

theorem keeps_State_adjust {pK : Bool} {AK : Nat} {sK tK : State} (ofs : Option Int) (rate : Option Int) (hA : 131073 &&& AK = 131073)  (hK : Keeps pK AK sK tK) :
    Keeps pK AK sK (State.adjust tK ofs rate) := by
  refine Keeps.lift (B := 131073) ?_ hA hK
  clear hK hA
  have hK : Keeps pK 131073 tK tK := Keeps.refl ..
  simp (maxDischargeDepth := 60) +contextual only [State.adjust, Nat.reduceAnd, eq_self, true_or, or_true, devSame_refl, keeps_mk, keeps_State_set, hK]

theorem keeps_execPtpAdjOfsWrite {pK : Bool} {AK : Nat} {sK tK : State} (src : Src) (whole : Bool) (value : Nat) (hA : 8519779 &&& AK = 8519779)  (hK : Keeps pK AK sK tK) :
    KeepsR pK AK sK (execPtpAdjOfsWrite src whole value tK) := by
  refine KeepsR.lift (B := 8519779) ?_ hA hK
  clear hK hA
  have hK : Keeps pK 8519779 tK tK := Keeps.refl ..
  simp (maxDischargeDepth := 60) +contextual only [execPtpAdjOfsWrite, Nat.reduceAnd, eq_self, implies_true, keepsR_next, keeps_State_adjust, keeps_State_busWrite, keeps_State_set, hK]

theorem keeps_execPtpAdjRateWrite {pK : Bool} {AK : Nat} {sK tK : State} (src : Src) (value : Nat) (hA : 8519779 &&& AK = 8519779)  (hK : Keeps pK AK sK tK) :
    KeepsR pK AK sK (execPtpAdjRateWrite src value tK) := by
  refine KeepsR.lift (B := 8519779) ?_ hA hK
  clear hK hA
  have hK : Keeps pK 8519779 tK tK := Keeps.refl ..
  simp (maxDischargeDepth := 60) +contextual only [execPtpAdjRateWrite, Nat.reduceAnd, eq_self, implies_true, keeps_ite, keepsR_next, keeps_State_adjust, keeps_State_busWrite, keeps_State_ledger, keeps_State_set, hK]

theorem keeps_State_gatesStepped {pK : Bool} {AK : Nat} {sK tK : State}  (hA : 8454179 &&& AK = 8454179)  (hK : Keeps pK AK sK tK) :
    Keeps pK AK sK (State.gatesStepped tK) := by
  refine Keeps.lift (B := 8454179) ?_ hA hK
  clear hK hA
  have hK : Keeps pK 8454179 tK tK := Keeps.refl ..
  simp (maxDischargeDepth := 60) +contextual only [State.gatesStepped, Nat.reduceAnd, eq_self, implies_true, keeps_ite, keeps_foldl, keeps_State_accrue, keeps_State_gateResync, keeps_State_raise, hK]

theorem keeps_execPtpAdjApply {pK : Bool} {AK : Nat} {sK tK : State}  (hA : 8585251 &&& AK = 8585251)  (hK : Keeps pK AK sK tK) :
    KeepsR pK AK sK (execPtpAdjApply tK) := by
  refine KeepsR.lift (B := 8585251) ?_ hA hK
  clear hK hA
  have hK : Keeps pK 8585251 tK tK := Keeps.refl ..
  unfold execPtpAdjApply
  (try dsimp only); (repeat' split) <;> simp (maxDischargeDepth := 60) +contextual only [Nat.reduceAnd, eq_self, true_or, or_true, devSame_refl, keepsR_next, keeps_mk, keeps_State_gatesStepped, keeps_State_raise, keeps_State_set, hK]

theorem keeps_execPpsOutEdge {pK : Bool} {AK : Nat} {sK tK : State}  (hA : 8519680 &&& AK = 8519680)  (hK : Keeps pK AK sK tK) :
    KeepsR pK AK sK (execPpsOutEdge tK) := by
  refine KeepsR.lift (B := 8519680) ?_ hA hK
  clear hK hA
  have hK : Keeps pK 8519680 tK tK := Keeps.refl ..
  simp (maxDischargeDepth := 60) +contextual only [execPpsOutEdge, Nat.reduceAnd, eq_self, true_or, or_true, devSame_refl, keeps_ite, keepsR_next, keeps_mk, keeps_State_emit, hK]

theorem keeps_execPpsInEdge {pK : Bool} {AK : Nat} {sK tK : State}  (hA : 8388643 &&& AK = 8388643)  (hK : Keeps pK AK sK tK) :
    KeepsR pK AK sK (execPpsInEdge tK) := by
  refine KeepsR.lift (B := 8388643) ?_ hA hK
  clear hK hA
  have hK : Keeps pK 8388643 tK tK := Keeps.refl ..
  simp (maxDischargeDepth := 60) +contextual only [execPpsInEdge, Nat.reduceAnd, eq_self, keepsR_next, keeps_State_raise, keeps_State_set, hK]

/-! ## Machine/FlumeRx.lean -/

theorem keeps_State_logDrop {pK : Bool} {AK : Nat} {sK tK : State} (dg : Datagram) (hA : 8388707 &&& AK = 8388707)  (hK : Keeps pK AK sK tK) :
    Keeps pK AK sK (State.logDrop tK dg) := by
  refine Keeps.lift (B := 8388707) ?_ hA hK
  clear hK hA
  have hK : Keeps pK 8388707 tK tK := Keeps.refl ..
  simp (maxDischargeDepth := 60) +contextual only [State.logDrop, Nat.reduceAnd, eq_self, keeps_State_ledgerLimited, hK]

theorem keeps_State_nackTo {pK : Bool} {AK : Nat} {sK tK : State} (peer : Nat) (msgId : Nat) (opcode : Nat) (pktIndex : Nat) (cls : Nat) (r : NackReason) (hA : 25232355 &&& AK = 25232355)  (hK : Keeps pK AK sK tK) :
    Keeps pK AK sK (State.nackTo tK peer msgId opcode pktIndex cls r) := by
  refine Keeps.lift (B := 25232355) ?_ hA hK
  clear hK hA
  have hK : Keeps pK 25232355 tK tK := Keeps.refl ..
  simp (maxDischargeDepth := 60) +contextual only [State.nackTo, Nat.reduceAnd, eq_self, keeps_ite, keeps_State_bump, keeps_State_ledgerLimited, keeps_State_raise, keeps_State_sendCtl, keeps_State_set, keeps_State_setFlag, hK]

theorem keeps_State_busyTo {pK : Bool} {AK : Nat} {sK tK : State} (peer : Nat) (msgId : Nat) (cls : Nat) (r : BusyReason) (holdUs : Nat) (hA : 25232291 &&& AK = 25232291)  (hK : Keeps pK AK sK tK) :
    Keeps pK AK sK (State.busyTo tK peer msgId cls r holdUs) := by
  refine Keeps.lift (B := 25232291) ?_ hA hK
  clear hK hA
  have hK : Keeps pK 25232291 tK tK := Keeps.refl ..
  unfold State.busyTo
  (try dsimp only); (repeat' split) <;> simp (maxDischargeDepth := 60) +contextual only [Nat.reduceAnd, eq_self, keeps_State_bump, keeps_State_count, keeps_State_raise, keeps_State_sendCtl, hK]

theorem keeps_State_busyPower {pK : Bool} {AK : Nat} {sK tK : State} (dg : Datagram) (h : FlumeHdr) (hA : 25232035 &&& AK = 25232035)  (hK : Keeps pK AK sK tK) :
    Keeps pK AK sK (State.busyPower tK dg h) := by
  refine Keeps.lift (B := 25232035) ?_ hA hK
  clear hK hA
  have hK : Keeps pK 25232035 tK tK := Keeps.refl ..
  unfold State.busyPower
  (try dsimp only); (repeat' split) <;> simp (maxDischargeDepth := 60) +contextual only [Nat.reduceAnd, eq_self, keeps_State_bump, keeps_State_cookieUsed, keeps_State_count, keeps_State_perform, hK]

theorem keeps_State_returnBuf {pK : Bool} {AK : Nat} {sK tK : State} (x : Slot) (hA : 128 &&& AK = 128)  (hK : Keeps pK AK sK tK) :
    Keeps pK AK sK (State.returnBuf tK x) := by
  refine Keeps.lift (B := 128) ?_ hA hK
  clear hK hA
  have hK : Keeps pK 128 tK tK := Keeps.refl ..
  unfold State.returnBuf
  (try dsimp only); (repeat' split) <;> simp (maxDischargeDepth := 60) +contextual only [Nat.reduceAnd, eq_self, keeps_State_setWq, hK]

theorem keeps_State_slotGone {pK : Bool} {AK : Nat} {sK tK : State} (x : Slot) (hA : 8388771 &&& AK = 8388771)  (hK : Keeps pK AK sK tK) :
    Keeps pK AK sK (State.slotGone tK x) := by
  refine Keeps.lift (B := 8388771) ?_ hA hK
  clear hK hA
  have hK : Keeps pK 8388771 tK tK := Keeps.refl ..
  simp (maxDischargeDepth := 60) +contextual only [State.slotGone, Nat.reduceAnd, eq_self, keeps_ite, keeps_State_dropSlot, keeps_State_winRelease, hK]

theorem keeps_State_refuseSlot {pK : Bool} {AK : Nat} {sK tK : State} (x : Slot) (r : NackReason) (hA : 8388771 &&& AK = 8388771)  (hK : Keeps pK AK sK tK) :
    Keeps pK AK sK (State.refuseSlot tK x r) := by
  refine Keeps.lift (B := 8388771) ?_ hA hK
  clear hK hA
  have hK : Keeps pK 8388771 tK tK := Keeps.refl ..
  simp (maxDischargeDepth := 60) +contextual only [State.refuseSlot, Nat.reduceAnd, eq_self, keeps_State_putOutcome, keeps_State_returnBuf, keeps_State_slotGone, hK]

theorem keeps_State_completeSlot {pK : Bool} {AK : Nat} {sK tK : State} (x : Slot) (hA : 25232355 &&& AK = 25232355)  (hK : Keeps pK AK sK tK) :
    Keeps pK AK sK (State.completeSlot tK x) := by
  refine Keeps.lift (B := 25232355) ?_ hA hK
  clear hK hA
  have hK : Keeps pK 25232355 tK tK := Keeps.refl ..
  simp (maxDischargeDepth := 60) +contextual only [State.completeSlot, Nat.reduceAnd, eq_self, keeps_ite, keeps_State_count, keeps_State_nackTo, keeps_State_post, keeps_State_putOutcome, keeps_State_refuseSlot, keeps_State_sendCtl, keeps_State_slotGone, hK]

theorem keeps_State_putFilter {pK : Bool} {AK : Nat} {sK tK : State} (h : FlumeHdr) (hA : 128 &&& AK = 128)  (hK : Keeps pK AK sK tK) :
    Keeps pK AK sK (State.putFilter tK h) := by
  refine Keeps.lift (B := 128) ?_ hA hK
  clear hK hA
  have hK : Keeps pK 128 tK tK := Keeps.refl ..
  simp (maxDischargeDepth := 60) +contextual only [State.putFilter, Nat.reduceAnd, eq_self, true_or, or_true, devSame_refl, keeps_mk, hK]

theorem keeps_State_putExpired {pK : Bool} {AK : Nat} {sK tK : State} (peer : Nat) (msgId : Nat) (hA : 256 &&& AK = 256)  (hK : Keeps pK AK sK tK) :
    Keeps pK AK sK (State.putExpired tK peer msgId) := by
  refine Keeps.lift (B := 256) ?_ hA hK
  clear hK hA
  have hK : Keeps pK 256 tK tK := Keeps.refl ..
  simp (maxDischargeDepth := 60) +contextual only [State.putExpired, Nat.reduceAnd, eq_self, true_or, or_true, devSame_refl, keeps_mk, hK]

theorem keeps_State_leaveFences {pK : Bool} {AK : Nat} {sK tK : State} (peer : Nat) (msgId : Nat) (hA : 128 &&& AK = 128)  (hK : Keeps pK AK sK tK) :
    Keeps pK AK sK (State.leaveFences tK peer msgId) := by
  refine Keeps.lift (B := 128) ?_ hA hK
  clear hK hA
  have hK : Keeps pK 128 tK tK := Keeps.refl ..
  simp (maxDischargeDepth := 60) +contextual only [State.leaveFences, Nat.reduceAnd, eq_self, true_or, or_true, devSame_refl, keeps_mk, hK]

theorem keeps_State_fenceEnded_core {pK : Bool} {sK tK : State} (n peer msgId : Nat) (hK : Keeps pK 25232355 sK tK) :
    Keeps pK 25232355 sK (State.fenceEnded n peer msgId tK) := by
  induction n generalizing tK peer msgId with
  | zero => exact hK
  | succ n ih =>
    unfold State.fenceEnded
    try dsimp only
    repeat' (first | assumption | rfl | (intro) | (with_reducible first | apply ih | apply keeps_State_leaveFences | apply keeps_State_completeSlot | apply keeps_foldl) | simp only [keeps_mk_iff, devSame_refl, devSame_mk, Nat.reduceAnd, eq_self, true_or, or_true] | (refine KeepsP.of_eq (by assumption) ?_) | (refine KeepsO.of_eq (by assumption) ?_) | split)

theorem keeps_State_fenceEnded {pK : Bool} {AK : Nat} {sK tK : State} (n peer msgId : Nat) (hA : 25232355 &&& AK = 25232355) (hK : Keeps pK AK sK tK) :
    Keeps pK AK sK (State.fenceEnded n peer msgId tK) :=
  Keeps.lift (keeps_State_fenceEnded_core n peer msgId (Keeps.refl ..)) hA hK

theorem keeps_State_ended {pK : Bool} {AK : Nat} {sK tK : State} (peer : Nat) (msgId : Nat) (hA : 25232355 &&& AK = 25232355)  (hK : Keeps pK AK sK tK) :
    Keeps pK AK sK (State.ended tK peer msgId) := by
  refine Keeps.lift (B := 25232355) ?_ hA hK
  clear hK hA
  have hK : Keeps pK 25232355 tK tK := Keeps.refl ..
  unfold State.ended
  (try dsimp only)
  repeat' (first | assumption | rfl | (intro) | (with_reducible first | apply keepsR_next | apply keeps_foldl | apply keepsP_foldl | apply keeps_ite | apply keeps_cond | apply keepsR_ite | apply keepsP_ite | apply keepsO_pair | apply keepsO_none | apply keepsO_ite | apply keepsV_mk | apply keepsV_ite | apply keepsP_mk | apply keeps_State_fenceEnded) | simp only [keeps_mk_iff, devSame_refl, devSame_mk, Nat.reduceAnd, eq_self, true_or, or_true, implies_true] | (refine KeepsP.of_eq (by assumption) ?_) | (refine KeepsO.of_eq (by assumption) ?_) | (refine KeepsV.of_eq (by assumption) ?_) | split)

theorem keeps_State_ackSlot {pK : Bool} {AK : Nat} {sK tK : State} (x : Slot) (hA : 25232291 &&& AK = 25232291)  (hK : Keeps pK AK sK tK) :
    Keeps pK AK sK (State.ackSlot tK x) := by
  refine Keeps.lift (B := 25232291) ?_ hA hK
  clear hK hA
  have hK : Keeps pK 25232291 tK tK := Keeps.refl ..
  simp (maxDischargeDepth := 60) +contextual only [State.ackSlot, Nat.reduceAnd, eq_self, keeps_State_sendCtl, keeps_State_setSlot, hK]

theorem keeps_State_nack {pK : Bool} {AK : Nat} {sK tK : State} (dg : Datagram) (h : FlumeHdr) (r : NackReason) (hA : 25232355 &&& AK = 25232355)  (hK : Keeps pK AK sK tK) :
    Keeps pK AK sK (State.nack tK dg h r) := by
  refine Keeps.lift (B := 25232355) ?_ hA hK
  clear hK hA
  have hK : Keeps pK 25232355 tK tK := Keeps.refl ..
  unfold State.nack
  (try dsimp only); (repeat' split) <;> simp (maxDischargeDepth := 60) +contextual only [Nat.reduceAnd, eq_self, KeepsP.fst, keeps_State_answerFlow, keeps_State_ended, keeps_State_nackTo, keeps_State_refuseSlot, hK]

theorem keeps_State_front {pK : Bool} {AK : Nat} {sK tK : State} (dg : Datagram) (hA : 25232355 &&& AK = 25232355) (hK : Keeps pK AK sK tK) :
    (∀ t, tK.front dg = .done t → Keeps pK AK sK t) ∧ ∀ t h es bs, tK.front dg = .pass t h es bs → Keeps pK AK sK t := by
  suffices hs : (∀ t, tK.front dg = .done t → Keeps pK 25232355 tK t) ∧ ∀ t h es bs, tK.front dg = .pass t h es bs → Keeps pK 25232355 tK t from
    ⟨fun t e => (hs.1 t e).lift hA hK, fun t h es bs e => (hs.2 t h es bs e).lift hA hK⟩
  clear hK hA
  have hK : Keeps pK 25232355 tK tK := Keeps.refl ..
  unfold State.front
  dsimp only
  generalize FlumeHdr.ofBytes dg.payload = h
  have hc : Keeps pK 25232355 tK (tK.count 3 0 0) := keeps_State_count _ _ _ _ rfl hK
  generalize tK.count 3 0 0 = c at hc ⊢
  have hu : Keeps pK 25232355 tK (if (c.flow? h.srcPeer).isSome then (c.answerFlow dg h.srcPeer).1 else c) := keeps_ite (KeepsP.fst (keeps_State_answerFlow _ _ rfl hc)) hc
  generalize (if (c.flow? h.srcPeer).isSome then (c.answerFlow dg h.srcPeer).1 else c) = u at hu ⊢
  constructor
  · intro t ht
    (repeat' split at ht) <;> cases ht <;>
      repeat' (first | assumption | rfl | (with_reducible first | apply keeps_State_bump | apply keeps_State_logDrop | apply keeps_State_raiseLimited | apply keeps_State_nack))
  · intro t x es bs ht
    (repeat' split at ht) <;> cases ht <;> assumption

theorem keeps_State_fromTable {pK : Bool} {AK : Nat} {sK tK : State} (dg : Datagram) (h : FlumeHdr) (e : RmtEntry) (hA : 25232291 &&& AK = 25232291)  (hK : Keeps pK AK sK tK) :
    Keeps pK AK sK (State.fromTable tK dg h e) := by
  refine Keeps.lift (B := 25232291) ?_ hA hK
  clear hK hA
  have hK : Keeps pK 25232291 tK tK := Keeps.refl ..
  simp (maxDischargeDepth := 60) +contextual only [State.fromTable, Nat.reduceAnd, eq_self, keeps_ite, KeepsP.fst, keeps_State_answerFlow, keeps_State_bump, keeps_State_sendCtl, hK]

theorem keeps_State_hold {pK : Bool} {AK : Nat} {sK tK : State} (x : Slot) (h : FlumeHdr) (hA : 25232355 &&& AK = 25232355)  (hK : Keeps pK AK sK tK) :
    Keeps pK AK sK (State.hold tK x h) := by
  refine Keeps.lift (B := 25232355) ?_ hA hK
  clear hK hA
  have hK : Keeps pK 25232355 tK tK := Keeps.refl ..
  simp (maxDischargeDepth := 60) +contextual only [State.hold, Nat.reduceAnd, eq_self, keeps_ite, keeps_State_ackSlot, keeps_State_completeSlot, keeps_State_ended, keeps_State_setSlot, hK]

theorem keeps_State_dupPacket {pK : Bool} {AK : Nat} {sK tK : State} (x : Slot) (h : FlumeHdr) (hA : 25232291 &&& AK = 25232291)  (hK : Keeps pK AK sK tK) :
    Keeps pK AK sK (State.dupPacket tK x h) := by
  refine Keeps.lift (B := 25232291) ?_ hA hK
  clear hK hA
  have hK : Keeps pK 25232291 tK tK := Keeps.refl ..
  unfold State.dupPacket
  (try dsimp only); (repeat' split) <;> simp (maxDischargeDepth := 60) +contextual only [Nat.reduceAnd, eq_self, keeps_State_ackSlot, keeps_State_bump, keeps_State_setSlot, hK]

theorem keeps_State_accept {pK : Bool} {AK : Nat} {sK tK : State} (dg : Datagram) (h : FlumeHdr) (ids : List Nat) (payload : List Byte) (place : Option (List (Nat × Nat))) (hA : 32572387 &&& AK = 32572387)  (hK : Keeps pK AK sK tK) :
    Keeps pK AK sK (State.accept tK dg h ids payload place) := by
  refine Keeps.lift (B := 32572387) ?_ hA hK
  clear hK hA
  have hK : Keeps pK 32572387 tK tK := Keeps.refl ..
  unfold State.accept
  split
  · repeat' (first | assumption | rfl | (with_reducible first | apply keeps_State_nack | apply keeps_State_dupPacket | apply keeps_State_raise | apply keeps_State_hold | apply keeps_State_writeSpans) | split)
  · extract_lets s w buf left x f t1 t2 t3 x2 t4
    have hs : Keeps pK 32572387 tK s := KeepsP.fst (keeps_State_answerFlow _ _ rfl hK)
    have h1 : Keeps pK 32572387 tK t1 := (keeps_mk_iff _ (devSame_refl _) (Or.inl rfl) _ _ _ _ _ _ _ _ _ _ _ _ _ _ _ _ _ _ _ _ (by simp) (by simp) (by simp) (by simp) (by simp) (by simp) (by simp) (by simp) (by simp) (by simp) (by simp) (by simp) (by simp) (by simp) (by simp) (by simp) (by simp) (by simp) (by simp) (by simp)).mpr hs
    have h2 : Keeps pK 32572387 tK t2 := keeps_ite (keeps_State_raise _ rfl h1) h1
    have h3 : Keeps pK 32572387 tK t3 := keeps_ite (keeps_State_raise _ rfl h2) h2
    have h4 : Keeps pK 32572387 tK t4 := keeps_ite (keeps_State_setWq _ _ rfl h3) h3
    clear_value t4 t3 t2 t1 x2 f x left buf w s
    repeat' (first | assumption | rfl | (with_reducible first | apply keeps_State_busyTo | apply keeps_State_nack | apply keeps_State_setSlot | apply keeps_State_raise | apply keeps_State_hold | apply keeps_State_writeSpans) | split)

theorem keeps_State_message {pK : Bool} {AK : Nat} {sK tK : State} (dg : Datagram) (h : FlumeHdr) (es : List FlumeExt) (payload : List Byte) (place : Option (List (Nat × Nat))) (hA : 32575459 &&& AK = 32575459)  (hK : Keeps pK AK sK tK) :
    Keeps pK AK sK (State.message tK dg h es payload place) := by
  refine Keeps.lift (B := 32575459) ?_ hA hK
  clear hK hA
  have hK : Keeps pK 32575459 tK tK := Keeps.refl ..
  unfold State.message
  (try dsimp only); (repeat' split) <;> simp (maxDischargeDepth := 60) +contextual only [Nat.reduceAnd, eq_self, keeps_State_accept, keeps_State_busyPower, keeps_State_fromTable, keeps_State_nack, keeps_State_wakeSource, hK]

theorem keeps_State_badOpcode {pK : Bool} {AK : Nat} {sK tK : State} (dg : Datagram) (h : FlumeHdr) (hA : 25232355 &&& AK = 25232355)  (hK : Keeps pK AK sK tK) :
    Keeps pK AK sK (State.badOpcode tK dg h) := by
  refine Keeps.lift (B := 25232355) ?_ hA hK
  clear hK hA
  have hK : Keeps pK 25232355 tK tK := Keeps.refl ..
  unfold State.badOpcode
  (try dsimp only); (repeat' split) <;> simp (maxDischargeDepth := 60) +contextual only [Nat.reduceAnd, eq_self, keeps_State_fromTable, keeps_State_nack, hK]

theorem keeps_State_otherOpcode {pK : Bool} {AK : Nat} {sK aK tK : State} (dg : Datagram) (h : FlumeHdr) (hA : 25232355 &&& AK = 25232355) (hS : Keeps pK AK sK aK) (hK : Keeps pK AK sK tK) :
    Keeps pK AK sK (aK.otherOpcode tK dg h) := by
  unfold State.otherOpcode
  split
  · exact hS
  · split
    · exact hK
    · exact keeps_State_badOpcode _ _ (sub_trans (by decide) hA) hK

theorem keeps_execSendPacketRx {pK : Bool} {AK : Nat} {sK tK : State} (dg : Datagram) (place : Option (List (Nat × Nat))) (hA : 32575459 &&& AK = 32575459)  (hK : Keeps pK AK sK tK) :
    KeepsR pK AK sK (execSendPacketRx dg place tK) := by
  refine KeepsR.lift (B := 32575459) ?_ hA hK
  clear hK hA
  have hK : Keeps pK 32575459 tK tK := Keeps.refl ..
  unfold execSendPacketRx
  (try dsimp only)
  repeat' (first | assumption | rfl | (intro) | (with_reducible first | apply keepsR_next | apply keeps_foldl | apply keepsP_foldl | apply keeps_ite | apply keeps_cond | apply keepsR_ite | apply keepsP_ite | apply keepsO_pair | apply keepsO_none | apply keepsO_ite | apply keepsV_mk | apply keepsV_ite | apply keepsP_mk | apply keeps_State_front | apply keeps_State_inStep | apply keeps_State_message | apply keeps_State_otherOpcode) | simp only [keeps_mk_iff, devSame_refl, devSame_mk, Nat.reduceAnd, eq_self, true_or, or_true, implies_true] | (refine KeepsP.of_eq (by assumption) ?_) | (refine KeepsO.of_eq (by assumption) ?_) | (refine KeepsV.of_eq (by assumption) ?_) | split | exact (keeps_State_front _ (by decide) (by assumption)).1 _ (by assumption) | exact (keeps_State_front _ (by decide) (by assumption)).2 _ _ _ _ (by assumption))

theorem keeps_execWritePacketRx {pK : Bool} {AK : Nat} {sK tK : State} (dg : Datagram) (place : Option (List (Nat × Nat))) (hA : 32575459 &&& AK = 32575459)  (hK : Keeps pK AK sK tK) :
    KeepsR pK AK sK (execWritePacketRx dg place tK) := by
  refine KeepsR.lift (B := 32575459) ?_ hA hK
  clear hK hA
  have hK : Keeps pK 32575459 tK tK := Keeps.refl ..
  unfold execWritePacketRx
  (try dsimp only)
  repeat' (first | assumption | rfl | (intro) | (with_reducible first | apply keepsR_next | apply keeps_foldl | apply keepsP_foldl | apply keeps_ite | apply keeps_cond | apply keepsR_ite | apply keepsP_ite | apply keepsO_pair | apply keepsO_none | apply keepsO_ite | apply keepsV_mk | apply keepsV_ite | apply keepsP_mk | apply keeps_State_front | apply keeps_State_inStep | apply keeps_State_message | apply keeps_State_otherOpcode) | simp only [keeps_mk_iff, devSame_refl, devSame_mk, Nat.reduceAnd, eq_self, true_or, or_true, implies_true] | (refine KeepsP.of_eq (by assumption) ?_) | (refine KeepsO.of_eq (by assumption) ?_) | (refine KeepsV.of_eq (by assumption) ?_) | split | exact (keeps_State_front _ (by decide) (by assumption)).1 _ (by assumption) | exact (keeps_State_front _ (by decide) (by assumption)).2 _ _ _ _ (by assumption))

theorem keeps_State_answerRead_core {pK : Bool} {sK tK : State} (cls : Nat) (h : FlumeHdr) (skip : Option (Nat × Nat × Nat)) (l : List (Option (List (Nat × Nat)))) (i : Nat) (hK : Keeps pK 25232291 sK tK) :
    Keeps pK 25232291 sK (State.answerRead cls h skip l i tK) := by
  induction l generalizing tK i with
  | nil => exact hK
  | cons x l ih =>
    unfold State.answerRead
    try dsimp only
    repeat' (first | assumption | rfl | (intro) | (with_reducible first | apply ih | apply keeps_State_raise | apply keeps_State_setFlow | apply keeps_State_cookieUsed | apply keeps_State_sendFlume | apply keeps_foldl) | simp only [keeps_mk_iff, devSame_refl, devSame_mk, Nat.reduceAnd, eq_self, true_or, or_true] | (refine KeepsP.of_eq (by assumption) ?_) | (refine KeepsO.of_eq (by assumption) ?_) | split)

theorem keeps_State_answerRead {pK : Bool} {AK : Nat} {sK tK : State} (cls : Nat) (h : FlumeHdr) (skip : Option (Nat × Nat × Nat)) (l : List (Option (List (Nat × Nat)))) (i : Nat) (hA : 25232291 &&& AK = 25232291) (hK : Keeps pK AK sK tK) :
    Keeps pK AK sK (State.answerRead cls h skip l i tK) :=
  Keeps.lift (keeps_State_answerRead_core cls h skip l i (Keeps.refl ..)) hA hK

theorem keeps_execReadRx {pK : Bool} {AK : Nat} {sK tK : State} (dg : Datagram) (spans : List (Option (List (Nat × Nat)))) (hA : 25232355 &&& AK = 25232355)  (hK : Keeps pK AK sK tK) :
    KeepsR pK AK sK (execReadRx dg spans tK) := by
  refine KeepsR.lift (B := 25232355) ?_ hA hK
  clear hK hA
  have hK : Keeps pK 25232355 tK tK := Keeps.refl ..
  unfold execReadRx
  (try dsimp only)
  repeat' (first | assumption | rfl | (intro) | (with_reducible first | apply keeps_State_putFilter | apply keepsR_next | apply keeps_foldl | apply keepsP_foldl | apply keeps_ite | apply keeps_cond | apply keepsR_ite | apply keepsP_ite | apply keepsO_pair | apply keepsO_none | apply keepsO_ite | apply keepsV_mk | apply keepsV_ite | apply keepsP_mk | apply keeps_State_answerFlow | apply keeps_State_answerRead | apply keeps_State_bump | apply keeps_State_busyPower | apply keeps_State_fromTable | apply keeps_State_front | apply keeps_State_inStep | apply keeps_State_nack | apply keeps_State_otherOpcode | refine KeepsP.fst (keeps_State_answerFlow _ _ ?_ ?_)) | simp only [keeps_mk_iff, devSame_refl, Nat.reduceAnd, eq_self, true_or, or_true] | (refine KeepsP.of_eq (by assumption) ?_) | (refine KeepsO.of_eq (by assumption) ?_) | (refine KeepsV.of_eq (by assumption) ?_) | split | exact (keeps_State_front _ (by decide) (by assumption)).1 _ (by assumption) | exact (keeps_State_front _ (by decide) (by assumption)).2 _ _ _ _ (by assumption))

theorem keeps_State_lateResp {pK : Bool} {AK : Nat} {sK tK : State}  (hA : 8388643 &&& AK = 8388643)  (hK : Keeps pK AK sK tK) :
    Keeps pK AK sK (State.lateResp tK) := by
  refine Keeps.lift (B := 8388643) ?_ hA hK
  clear hK hA
  have hK : Keeps pK 8388643 tK tK := Keeps.refl ..
  simp (maxDischargeDepth := 60) +contextual only [State.lateResp, Nat.reduceAnd, eq_self, keeps_State_bump, keeps_State_raiseLimited, hK]

theorem keeps_State_takeResp {pK : Bool} {AK : Nat} {sK tK : State} (m : Msg) (h : FlumeHdr) (payload : List Byte) (place : Option (List (Nat × Nat))) (hA : 32572323 &&& AK = 32572323)  (hK : Keeps pK AK sK tK) :
    Keeps pK AK sK (State.takeResp tK m h payload place) := by
  refine Keeps.lift (B := 32572323) ?_ hA hK
  clear hK hA
  have hK : Keeps pK 32572323 tK tK := Keeps.refl ..
  unfold State.takeResp
  (try dsimp only)
  repeat' (first | assumption | rfl | (intro) | (with_reducible first | apply keepsR_next | apply keeps_foldl | apply keepsP_foldl | apply keeps_ite | apply keeps_cond | apply keepsR_ite | apply keepsP_ite | apply keepsO_pair | apply keepsO_none | apply keepsO_ite | apply keepsV_mk | apply keepsV_ite | apply keepsP_mk | apply keeps_State_bump | apply keeps_State_finishMsg | apply keeps_State_setFlow | apply keeps_State_setMsg | apply keeps_State_writeSpans) | simp only [keeps_mk_iff, devSame_refl, devSame_mk, Nat.reduceAnd, eq_self, true_or, or_true, implies_true] | (refine KeepsP.of_eq (by assumption) ?_) | (refine KeepsO.of_eq (by assumption) ?_) | (refine KeepsV.of_eq (by assumption) ?_) | split)

theorem keeps_rxReadResp {pK : Bool} {AK : Nat} {sK tK : State} (dg : Datagram) (place : Option (List (Nat × Nat))) (hA : 32572387 &&& AK = 32572387)  (hK : Keeps pK AK sK tK) :
    Keeps pK AK sK (rxReadResp dg place tK) := by
  refine Keeps.lift (B := 32572387) ?_ hA hK
  clear hK hA
  have hK : Keeps pK 32572387 tK tK := Keeps.refl ..
  unfold rxReadResp
  (try dsimp only)
  repeat' (first | assumption | rfl | (intro) | (with_reducible first | apply keepsR_next | apply keeps_foldl | apply keepsP_foldl | apply keeps_ite | apply keeps_cond | apply keepsR_ite | apply keepsP_ite | apply keepsO_pair | apply keepsO_none | apply keepsO_ite | apply keepsV_mk | apply keepsV_ite | apply keepsP_mk | apply keeps_State_badOpcode | apply keeps_State_front | apply keeps_State_lateResp | apply keeps_State_otherOpcode | apply keeps_State_takeResp) | simp only [keeps_mk_iff, devSame_refl, devSame_mk, Nat.reduceAnd, eq_self, true_or, or_true, implies_true] | (refine KeepsP.of_eq (by assumption) ?_) | (refine KeepsO.of_eq (by assumption) ?_) | (refine KeepsV.of_eq (by assumption) ?_) | split | exact (keeps_State_front _ (by decide) (by assumption)).1 _ (by assumption) | exact (keeps_State_front _ (by decide) (by assumption)).2 _ _ _ _ (by assumption))

theorem keeps_State_probeAnswered {pK : Bool} {AK : Nat} {sK tK : State} (peer : Nat) (p : Nat) (hA : 8388899 &&& AK = 8388899)  (hK : Keeps pK AK sK tK) :
    Keeps pK AK sK (State.probeAnswered tK peer p) := by
  refine Keeps.lift (B := 8388899) ?_ hA hK
  clear hK hA
  have hK : Keeps pK 8388899 tK tK := Keeps.refl ..
  unfold State.probeAnswered
  (try dsimp only); (repeat' split) <;> simp (maxDischargeDepth := 60) +contextual only [Nat.reduceAnd, eq_self, keeps_State_pathTo, hK]

theorem keeps_State_takeAck {pK : Bool} {AK : Nat} {sK tK : State} (dg : Datagram) (m : Msg) (h : FlumeHdr) (es : List FlumeExt) (hA : 25232291 &&& AK = 25232291)  (hK : Keeps pK AK sK tK) :
    Keeps pK AK sK (State.takeAck tK dg m h es) := by
  refine Keeps.lift (B := 25232291) ?_ hA hK
  clear hK hA
  have hK : Keeps pK 25232291 tK tK := Keeps.refl ..
  unfold State.takeAck
  (try dsimp only)
  repeat' (first | assumption | rfl | (intro) | (with_reducible first | apply keepsR_next | apply keeps_foldl | apply keepsP_foldl | apply keeps_ite | apply keeps_cond | apply keepsR_ite | apply keepsP_ite | apply keepsO_pair | apply keepsO_none | apply keepsO_ite | apply keepsV_mk | apply keepsV_ite | apply keepsP_mk | apply keeps_State_finishMsg | apply keeps_State_losePkt | apply keeps_State_probeAnswered | apply keeps_State_pump | apply keeps_State_setFlow | apply keeps_State_setMsg) | simp only [keeps_mk_iff, devSame_refl, Nat.reduceAnd, eq_self, true_or, or_true] | (refine KeepsP.of_eq (by assumption) ?_) | (refine KeepsO.of_eq (by assumption) ?_) | (refine KeepsV.of_eq (by assumption) ?_) | split)

theorem keeps_rxAck {pK : Bool} {AK : Nat} {sK tK : State} (dg : Datagram) (hA : 25232355 &&& AK = 25232355)  (hK : Keeps pK AK sK tK) :
    Keeps pK AK sK (rxAck dg tK) := by
  refine Keeps.lift (B := 25232355) ?_ hA hK
  clear hK hA
  have hK : Keeps pK 25232355 tK tK := Keeps.refl ..
  unfold rxAck
  (try dsimp only)
  repeat' (first | assumption | rfl | (intro) | (with_reducible first | apply keepsR_next | apply keeps_foldl | apply keepsP_foldl | apply keeps_ite | apply keeps_cond | apply keepsR_ite | apply keepsP_ite | apply keepsO_pair | apply keepsO_none | apply keepsO_ite | apply keepsV_mk | apply keepsV_ite | apply keepsP_mk | apply keeps_State_badOpcode | apply keeps_State_front | apply keeps_State_otherOpcode | apply keeps_State_takeAck) | simp only [keeps_mk_iff, devSame_refl, devSame_mk, Nat.reduceAnd, eq_self, true_or, or_true, implies_true] | (refine KeepsP.of_eq (by assumption) ?_) | (refine KeepsO.of_eq (by assumption) ?_) | (refine KeepsV.of_eq (by assumption) ?_) | split | exact (keeps_State_front _ (by decide) (by assumption)).1 _ (by assumption) | exact (keeps_State_front _ (by decide) (by assumption)).2 _ _ _ _ (by assumption))

theorem keeps_rxNack {pK : Bool} {AK : Nat} {sK tK : State} (dg : Datagram) (hA : 25232355 &&& AK = 25232355)  (hK : Keeps pK AK sK tK) :
    Keeps pK AK sK (rxNack dg tK) := by
  refine Keeps.lift (B := 25232355) ?_ hA hK
  clear hK hA
  have hK : Keeps pK 25232355 tK tK := Keeps.refl ..
  unfold rxNack
  (try dsimp only)
  repeat' (first | assumption | rfl | (intro) | (with_reducible first | apply keepsR_next | apply keeps_foldl | apply keepsP_foldl | apply keeps_ite | apply keeps_cond | apply keepsR_ite | apply keepsP_ite | apply keepsO_pair | apply keepsO_none | apply keepsO_ite | apply keepsV_mk | apply keepsV_ite | apply keepsP_mk | apply keeps_State_badOpcode | apply keeps_State_finishMsg | apply keeps_State_front | apply keeps_State_nack | apply keeps_State_otherOpcode | apply keeps_State_raise) | simp only [keeps_mk_iff, devSame_refl, devSame_mk, Nat.reduceAnd, eq_self, true_or, or_true, implies_true] | (refine KeepsP.of_eq (by assumption) ?_) | (refine KeepsO.of_eq (by assumption) ?_) | (refine KeepsV.of_eq (by assumption) ?_) | split | exact (keeps_State_front _ (by decide) (by assumption)).1 _ (by assumption) | exact (keeps_State_front _ (by decide) (by assumption)).2 _ _ _ _ (by assumption))

theorem keeps_execBusyRx {pK : Bool} {AK : Nat} {sK tK : State} (dg : Datagram) (hA : 25232355 &&& AK = 25232355)  (hK : Keeps pK AK sK tK) :
    KeepsR pK AK sK (execBusyRx dg tK) := by
  refine KeepsR.lift (B := 25232355) ?_ hA hK
  clear hK hA
  have hK : Keeps pK 25232355 tK tK := Keeps.refl ..
  unfold execBusyRx
  (try dsimp only)
  repeat' (first | assumption | rfl | (intro) | (with_reducible first | apply keepsR_next | apply keeps_foldl | apply keepsP_foldl | apply keeps_ite | apply keeps_cond | apply keepsR_ite | apply keepsP_ite | apply keepsO_pair | apply keepsO_none | apply keepsO_ite | apply keepsV_mk | apply keepsV_ite | apply keepsP_mk | apply keeps_State_badOpcode | apply keeps_State_front | apply keeps_State_inStep | apply keeps_State_otherOpcode | apply keeps_State_setMsg) | simp only [keeps_mk_iff, devSame_refl, devSame_mk, Nat.reduceAnd, eq_self, true_or, or_true, implies_true] | (refine KeepsP.of_eq (by assumption) ?_) | (refine KeepsO.of_eq (by assumption) ?_) | (refine KeepsV.of_eq (by assumption) ?_) | split | exact (keeps_State_front _ (by decide) (by assumption)).1 _ (by assumption) | exact (keeps_State_front _ (by decide) (by assumption)).2 _ _ _ _ (by assumption))

theorem keeps_execProbeRx {pK : Bool} {AK : Nat} {sK tK : State} (dg : Datagram) (hA : 25232355 &&& AK = 25232355)  (hK : Keeps pK AK sK tK) :
    KeepsR pK AK sK (execProbeRx dg tK) := by
  refine KeepsR.lift (B := 25232355) ?_ hA hK
  clear hK hA
  have hK : Keeps pK 25232355 tK tK := Keeps.refl ..
  unfold execProbeRx
  (try dsimp only)
  repeat' (first | assumption | rfl | (intro) | (with_reducible first | apply keepsR_next | apply keeps_foldl | apply keepsP_foldl | apply keeps_ite | apply keeps_cond | apply keepsR_ite | apply keepsP_ite | apply keepsO_pair | apply keepsO_none | apply keepsO_ite | apply keepsV_mk | apply keepsV_ite | apply keepsP_mk | apply keeps_State_answerFlow | apply keeps_State_fromTable | apply keeps_State_front | apply keeps_State_inStep | apply keeps_State_nack | apply keeps_State_otherOpcode | apply keeps_State_sendCtl | refine KeepsP.fst (keeps_State_answerFlow _ _ ?_ ?_)) | simp only [keeps_mk_iff, devSame_refl, devSame_mk, Nat.reduceAnd, eq_self, true_or, or_true, implies_true] | (refine KeepsP.of_eq (by assumption) ?_) | (refine KeepsO.of_eq (by assumption) ?_) | (refine KeepsV.of_eq (by assumption) ?_) | split | exact (keeps_State_front _ (by decide) (by assumption)).1 _ (by assumption) | exact (keeps_State_front _ (by decide) (by assumption)).2 _ _ _ _ (by assumption))

theorem keeps_execSlotExpiry {pK : Bool} {AK : Nat} {sK tK : State} (peer : Nat) (msgId : Nat) (hA : 25232355 &&& AK = 25232355)  (hK : Keeps pK AK sK tK) :
    KeepsR pK AK sK (execSlotExpiry peer msgId tK) := by
  refine KeepsR.lift (B := 25232355) ?_ hA hK
  clear hK hA
  have hK : Keeps pK 25232355 tK tK := Keeps.refl ..
  unfold execSlotExpiry
  (try dsimp only)
  repeat' (first | assumption | rfl | (intro) | (with_reducible first | apply keeps_State_putExpired | apply keepsR_next | apply keeps_foldl | apply keepsP_foldl | apply keeps_ite | apply keeps_cond | apply keepsR_ite | apply keepsP_ite | apply keepsO_pair | apply keepsO_none | apply keepsO_ite | apply keepsV_mk | apply keepsV_ite | apply keepsP_mk | apply keeps_State_bump | apply keeps_State_completeSlot | apply keeps_State_ended | apply keeps_State_inStep | apply keeps_State_raise | apply keeps_State_returnBuf | apply keeps_State_slotGone) | simp only [keeps_mk_iff, devSame_refl, devSame_mk, Nat.reduceAnd, eq_self, true_or, or_true, implies_true] | (refine KeepsP.of_eq (by assumption) ?_) | (refine KeepsO.of_eq (by assumption) ?_) | (refine KeepsV.of_eq (by assumption) ?_) | split | exact (keeps_State_front _ (by decide) (by assumption)).1 _ (by assumption) | exact (keeps_State_front _ (by decide) (by assumption)).2 _ _ _ _ (by assumption))

theorem keeps_execTableEntryExpiry {pK : Bool} {AK : Nat} {sK tK : State} (peer : Nat) (msgId : Nat) (hA : 130 &&& AK = 130)  (hK : Keeps pK AK sK tK) :
    KeepsR pK AK sK (execTableEntryExpiry peer msgId tK) := by
  refine KeepsR.lift (B := 130) ?_ hA hK
  clear hK hA
  have hK : Keeps pK 130 tK tK := Keeps.refl ..
  simp (maxDischargeDepth := 60) +contextual only [execTableEntryExpiry, Nat.reduceAnd, eq_self, true_or, or_true, implies_true, devSame_refl, keepsR_next, keeps_mk, keeps_State_inStep, hK]

theorem keeps_execAckDelayExpiry {pK : Bool} {AK : Nat} {sK tK : State} (peer : Nat) (msgId : Nat) (hA : 25232291 &&& AK = 25232291)  (hK : Keeps pK AK sK tK) :
    KeepsR pK AK sK (execAckDelayExpiry peer msgId tK) := by
  refine KeepsR.lift (B := 25232291) ?_ hA hK
  clear hK hA
  have hK : Keeps pK 25232291 tK tK := Keeps.refl ..
  unfold execAckDelayExpiry
  (try dsimp only); (repeat' split) <;> simp (maxDischargeDepth := 60) +contextual only [Nat.reduceAnd, eq_self, keepsR_next, keeps_State_ackSlot, hK]

theorem keeps_timerExpiry {pK : Bool} {AK : Nat} {sK tK : State} (msg : Nat) (pkt : Nat) (hA : 25232291 &&& AK = 25232291)  (hK : Keeps pK AK sK tK) :
    Keeps pK AK sK (timerExpiry msg pkt tK) := by
  refine Keeps.lift (B := 25232291) ?_ hA hK
  clear hK hA
  have hK : Keeps pK 25232291 tK tK := Keeps.refl ..
  unfold timerExpiry
  (try dsimp only); (repeat' split) <;> simp (maxDischargeDepth := 60) +contextual only [Nat.reduceAnd, eq_self, keeps_State_askRetx, keeps_State_losePkt, hK]

theorem keeps_holdExpiry {pK : Bool} {AK : Nat} {sK tK : State} (msg : Nat) (hA : 25232291 &&& AK = 25232291)  (hK : Keeps pK AK sK tK) :
    Keeps pK AK sK (holdExpiry msg tK) := by
  refine Keeps.lift (B := 25232291) ?_ hA hK
  clear hK hA
  have hK : Keeps pK 25232291 tK tK := Keeps.refl ..
  unfold holdExpiry
  (try dsimp only)
  repeat' (first | assumption | rfl | (intro) | (with_reducible first | apply keepsR_next | apply keeps_foldl | apply keepsP_foldl | apply keeps_ite | apply keeps_cond | apply keepsR_ite | apply keepsP_ite | apply keepsO_pair | apply keepsO_none | apply keepsO_ite | apply keepsV_mk | apply keepsV_ite | apply keepsP_mk | apply keeps_State_askRetx | apply keeps_State_pump | apply keeps_State_setMsg) | simp only [keeps_mk_iff, devSame_refl, devSame_mk, Nat.reduceAnd, eq_self, true_or, or_true, implies_true] | (refine KeepsP.of_eq (by assumption) ?_) | (refine KeepsO.of_eq (by assumption) ?_) | (refine KeepsV.of_eq (by assumption) ?_) | split)

theorem keeps_deadline {pK : Bool} {AK : Nat} {sK tK : State} (msg : Nat) (hA : 25232291 &&& AK = 25232291)  (hK : Keeps pK AK sK tK) :
    Keeps pK AK sK (deadline msg tK) := by
  refine Keeps.lift (B := 25232291) ?_ hA hK
  clear hK hA
  have hK : Keeps pK 25232291 tK tK := Keeps.refl ..
  unfold deadline
  (try dsimp only); (repeat' split) <;> simp (maxDischargeDepth := 60) +contextual only [Nat.reduceAnd, eq_self, keeps_State_timeoutMsg, hK]

theorem keeps_execProbeInterval {pK : Bool} {AK : Nat} {sK tK : State} (peer : Nat) (path : Nat) (hA : 25232291 &&& AK = 25232291)  (hK : Keeps pK AK sK tK) :
    KeepsR pK AK sK (execProbeInterval peer path tK) := by
  refine KeepsR.lift (B := 25232291) ?_ hA hK
  clear hK hA
  have hK : Keeps pK 25232291 tK tK := Keeps.refl ..
  unfold execProbeInterval
  (try dsimp only); (repeat' split) <;> simp (maxDischargeDepth := 60) +contextual only [Nat.reduceAnd, eq_self, true_or, or_true, devSame_refl, keepsR_next, keeps_mk, keeps_State_setFlow, keeps_State_transmit, hK]

theorem keeps_execProbeUnanswered {pK : Bool} {AK : Nat} {sK tK : State} (msg : Nat) (hA : 8389027 &&& AK = 8389027)  (hK : Keeps pK AK sK tK) :
    KeepsR pK AK sK (execProbeUnanswered msg tK) := by
  refine KeepsR.lift (B := 8389027) ?_ hA hK
  clear hK hA
  have hK : Keeps pK 8389027 tK tK := Keeps.refl ..
  unfold execProbeUnanswered
  (try dsimp only); (repeat' split) <;> simp (maxDischargeDepth := 60) +contextual only [Nat.reduceAnd, eq_self, true_or, or_true, devSame_refl, keepsR_next, keeps_mk, keeps_State_pathTo, hK]

end Sys2Proof.Machine
end

