-- ==== Sys2Proof/Laws/KeepsPair.lean ====
section
/-!
SUPPORT. Laws/KeepsPair.lean: what each operation of maintenance, the pair, memory integrity and DMA keeps (Laws/Keeps.lean): one lemma for each.
-/
set_option maxRecDepth 4000
set_option linter.all false

namespace Sys2Proof.Machine

/-! ## Machine/Maintenance.lean -/

theorem keeps_execSweepStripe {pK : Bool} {AK : Nat} {sK tK : State} (group : Nat) (stripe : Nat) (reads : List ColRead) (hA : 32634787 &&& AK = 32634787)  (hK : Keeps pK AK sK tK) :
    KeepsR pK AK sK (execSweepStripe group stripe reads tK) := by
  refine KeepsR.lift (B := 32634787) ?_ hA hK
  clear hK hA
  have hK : Keeps pK 32634787 tK tK := Keeps.refl ..
  unfold execSweepStripe
  (try dsimp only)
  repeat' (first | assumption | rfl | (intro) | (with_reducible first | apply keepsR_next | apply keeps_foldl | apply keepsP_foldl | apply keeps_ite | apply keeps_cond | apply keepsR_ite | apply keepsP_ite | apply keepsO_pair | apply keepsO_none | apply keepsO_ite | apply keepsV_mk | apply keepsV_ite | apply keepsP_mk | apply keeps_State_inStep | apply keeps_State_resumeSwept | apply keeps_State_setGrp | apply keeps_State_sweepAt) | simp only [keeps_mk_iff, devSame_refl, devSame_mk, Nat.reduceAnd, eq_self, true_or, or_true, implies_true] | (refine KeepsP.of_eq (by assumption) ?_) | (refine KeepsO.of_eq (by assumption) ?_) | (refine KeepsV.of_eq (by assumption) ?_) | split)

theorem keeps_State_setRebuild {pK : Bool} {AK : Nat} {sK tK : State} (r : Rebuild) (hA : 32768 &&& AK = 32768)  (hK : Keeps pK AK sK tK) :
    Keeps pK AK sK (State.setRebuild tK r) := by
  refine Keeps.lift (B := 32768) ?_ hA hK
  clear hK hA
  have hK : Keeps pK 32768 tK tK := Keeps.refl ..
  simp (maxDischargeDepth := 60) +contextual only [State.setRebuild, Nat.reduceAnd, eq_self, true_or, or_true, devSame_refl, keeps_mk, hK]

theorem keeps_State_rebuildStripe {pK : Bool} {AK : Nat} {sK tK : State} (r : Rebuild) (st : Nat) (reads : List ColRead) (hA : 32634403 &&& AK = 32634403)  (hK : Keeps pK AK sK tK) :
    Keeps pK AK sK (State.rebuildStripe tK r st reads) := by
  refine Keeps.lift (B := 32634403) ?_ hA hK
  clear hK hA
  have hK : Keeps pK 32634403 tK tK := Keeps.refl ..
  unfold State.rebuildStripe
  (try dsimp only); (repeat' split) <;> simp (maxDischargeDepth := 60) +contextual only [Nat.reduceAnd, eq_self, true_or, or_true, implies_true, devSame_refl, keeps_ite, keeps_foldl, keeps_mk, keeps_State_bumpBy, keeps_State_countRecon, keeps_State_openEntry, keeps_State_recordLost, keeps_State_startBrand, keeps_State_tallyWait, hK]

theorem keeps_execSkidderStripe {pK : Bool} {AK : Nat} {sK tK : State} (group : Nat) (member : Nat) (reads : List ColRead) (hA : 32634403 &&& AK = 32634403)  (hK : Keeps pK AK sK tK) :
    KeepsR pK AK sK (execSkidderStripe group member reads tK) := by
  refine KeepsR.lift (B := 32634403) ?_ hA hK
  clear hK hA
  have hK : Keeps pK 32634403 tK tK := Keeps.refl ..
  unfold execSkidderStripe
  (try dsimp only)
  repeat' (first | assumption | rfl | (intro) | (with_reducible first | apply keepsR_next | apply keeps_foldl | apply keepsP_foldl | apply keeps_ite | apply keeps_cond | apply keepsR_ite | apply keepsP_ite | apply keepsO_pair | apply keepsO_none | apply keepsO_ite | apply keepsV_mk | apply keepsV_ite | apply keepsP_mk | apply keeps_State_inStep | apply keeps_State_rebuildDone | apply keeps_State_rebuildStripe | apply keeps_State_rebuiltStripe | apply keeps_State_setRebuild | apply keeps_State_startRebuild) | simp only [keeps_mk_iff, devSame_refl, devSame_mk, Nat.reduceAnd, eq_self, true_or, or_true, implies_true] | (refine KeepsP.of_eq (by assumption) ?_) | (refine KeepsO.of_eq (by assumption) ?_) | (refine KeepsV.of_eq (by assumption) ?_) | split)

theorem keeps_State_pauseRebuilds {pK : Bool} {AK : Nat} {sK tK : State} (on : Bool) (hA : 8421411 &&& AK = 8421411)  (hK : Keeps pK AK sK tK) :
    Keeps pK AK sK (State.pauseRebuilds tK on) := by
  refine Keeps.lift (B := 8421411) ?_ hA hK
  clear hK hA
  have hK : Keeps pK 8421411 tK tK := Keeps.refl ..
  simp (maxDischargeDepth := 60) +contextual only [State.pauseRebuilds, Nat.reduceAnd, eq_self, true_or, or_true, devSame_refl, keeps_ite, keeps_mk, keeps_State_raise, keeps_State_setFlag, hK]

theorem keeps_execSkdPause {pK : Bool} {AK : Nat} {sK tK : State} (src : Src) (on : Bool) (hA : 8421987 &&& AK = 8421987)  (hK : Keeps pK AK sK tK) :
    KeepsR pK AK sK (execSkdPause src on tK) := by
  refine KeepsR.lift (B := 8421987) ?_ hA hK
  clear hK hA
  have hK : Keeps pK 8421987 tK tK := Keeps.refl ..
  simp (maxDischargeDepth := 60) +contextual only [execSkdPause, Nat.reduceAnd, eq_self, implies_true, keepsR_next, keeps_State_busWrite, keeps_State_pauseRebuilds, keeps_State_stepWrite, hK]

theorem keeps_State_patrolPass {pK : Bool} {AK : Nat} {sK tK : State} (g : Nat) (x : Grp) (hA : 8405027 &&& AK = 8405027)  (hK : Keeps pK AK sK tK) :
    Keeps pK AK sK (State.patrolPass tK g x) := by
  refine Keeps.lift (B := 8405027) ?_ hA hK
  clear hK hA
  have hK : Keeps pK 8405027 tK tK := Keeps.refl ..
  simp (maxDischargeDepth := 60) +contextual only [State.patrolPass, Nat.reduceAnd, eq_self, keeps_State_raise, keeps_State_setGrp, hK]

theorem keeps_execPatrolStripe {pK : Bool} {AK : Nat} {sK tK : State} (group : Nat) (reads : List ColRead) (hA : 32634403 &&& AK = 32634403)  (hK : Keeps pK AK sK tK) :
    KeepsR pK AK sK (execPatrolStripe group reads tK) := by
  refine KeepsR.lift (B := 32634403) ?_ hA hK
  clear hK hA
  have hK : Keeps pK 32634403 tK tK := Keeps.refl ..
  unfold execPatrolStripe
  (try dsimp only)
  repeat' (first | assumption | rfl | (intro) | (with_reducible first | apply keepsR_next | apply keeps_foldl | apply keepsP_foldl | apply keeps_ite | apply keeps_cond | apply keepsR_ite | apply keepsP_ite | apply keepsO_pair | apply keepsO_none | apply keepsO_ite | apply keepsV_mk | apply keepsV_ite | apply keepsP_mk | apply keeps_State_inStep | apply keeps_State_patrolPass | apply keeps_State_repairAt | apply keeps_State_set | apply keeps_State_setGrp) | simp only [keeps_mk_iff, devSame_refl, devSame_mk, Nat.reduceAnd, eq_self, true_or, or_true, implies_true] | (refine KeepsP.of_eq (by assumption) ?_) | (refine KeepsO.of_eq (by assumption) ?_) | (refine KeepsV.of_eq (by assumption) ?_) | split)

theorem keeps_execPatrolLate {pK : Bool} {AK : Nat} {sK tK : State} (group : Nat) (hA : 8405027 &&& AK = 8405027)  (hK : Keeps pK AK sK tK) :
    KeepsR pK AK sK (execPatrolLate group tK) := by
  refine KeepsR.lift (B := 8405027) ?_ hA hK
  clear hK hA
  have hK : Keeps pK 8405027 tK tK := Keeps.refl ..
  unfold execPatrolLate
  (try dsimp only)
  repeat' (first | assumption | rfl | (intro) | (with_reducible first | apply keepsR_next | apply keeps_foldl | apply keepsP_foldl | apply keeps_ite | apply keeps_cond | apply keepsR_ite | apply keepsP_ite | apply keepsO_pair | apply keepsO_none | apply keepsO_ite | apply keepsV_mk | apply keepsV_ite | apply keepsP_mk | apply keeps_State_inStep | apply keeps_State_raise | apply keeps_State_setGrp) | simp only [keeps_mk_iff, devSame_refl, devSame_mk, Nat.reduceAnd, eq_self, true_or, or_true, implies_true] | (refine KeepsP.of_eq (by assumption) ?_) | (refine KeepsO.of_eq (by assumption) ?_) | (refine KeepsV.of_eq (by assumption) ?_) | split)

theorem keeps_execTallyEntryFree {pK : Bool} {AK : Nat} {sK tK : State} (group : Nat) (stripe : Nat) (reads : List ColRead) (hA : 32634787 &&& AK = 32634787)  (hK : Keeps pK AK sK tK) :
    KeepsR pK AK sK (execTallyEntryFree group stripe reads tK) := by
  refine KeepsR.lift (B := 32634787) ?_ hA hK
  clear hK hA
  have hK : Keeps pK 32634787 tK tK := Keeps.refl ..
  unfold execTallyEntryFree
  (try dsimp only)
  repeat' (first | assumption | rfl | (intro) | (with_reducible first | apply keepsR_next | apply keeps_foldl | apply keepsP_foldl | apply keeps_ite | apply keeps_cond | apply keepsR_ite | apply keepsP_ite | apply keepsO_pair | apply keepsO_none | apply keepsO_ite | apply keepsV_mk | apply keepsV_ite | apply keepsP_mk | apply keeps_State_destage | apply keeps_State_inStep | apply keeps_State_rebuildStripe | apply keeps_State_repairAt | apply keeps_State_resumeSwept | apply keeps_State_sweepAt) | simp only [keeps_mk_iff, devSame_refl, Nat.reduceAnd, eq_self, true_or, or_true] | (refine KeepsP.of_eq (by assumption) ?_) | (refine KeepsO.of_eq (by assumption) ?_) | (refine KeepsV.of_eq (by assumption) ?_) | split)

theorem keeps_State_setMig {pK : Bool} {AK : Nat} {sK tK : State} (m : Mig) (hA : 32768 &&& AK = 32768)  (hK : Keeps pK AK sK tK) :
    Keeps pK AK sK (State.setMig tK m) := by
  refine Keeps.lift (B := 32768) ?_ hA hK
  clear hK hA
  have hK : Keeps pK 32768 tK tK := Keeps.refl ..
  simp (maxDischargeDepth := 60) +contextual only [State.setMig, Nat.reduceAnd, eq_self, true_or, or_true, devSame_refl, keeps_mk, hK]

theorem keeps_State_sendGranule {pK : Bool} {AK : Nat} {sK tK : State} (m : Mig) (n : NsEnt) (g : Nat) (blocks : List (Option (List Byte × Nat))) (hA : 25232291 &&& AK = 25232291)  (hK : Keeps pK AK sK tK) :
    Keeps pK AK sK (State.sendGranule tK m n g blocks) := by
  refine Keeps.lift (B := 25232291) ?_ hA hK
  clear hK hA
  have hK : Keeps pK 25232291 tK tK := Keeps.refl ..
  simp (maxDischargeDepth := 60) +contextual only [State.sendGranule, Nat.reduceAnd, eq_self, keeps_State_submit, hK]

theorem keeps_State_nextPass {pK : Bool} {AK : Nat} {sK tK : State} (m : Mig) (hA : 32768 &&& AK = 32768)  (hK : Keeps pK AK sK tK) :
    Keeps pK AK sK (State.nextPass tK m) := by
  refine Keeps.lift (B := 32768) ?_ hA hK
  clear hK hA
  have hK : Keeps pK 32768 tK tK := Keeps.refl ..
  simp (maxDischargeDepth := 60) +contextual only [State.nextPass, Nat.reduceAnd, eq_self, keeps_ite, keeps_State_setMig, hK]

theorem keeps_execMigGranuleSend {pK : Bool} {AK : Nat} {sK tK : State} (slot : Nat) (blocks : List (Option (List Byte × Nat))) (hA : 25265059 &&& AK = 25265059)  (hK : Keeps pK AK sK tK) :
    KeepsR pK AK sK (execMigGranuleSend slot blocks tK) := by
  refine KeepsR.lift (B := 25265059) ?_ hA hK
  clear hK hA
  have hK : Keeps pK 25265059 tK tK := Keeps.refl ..
  unfold execMigGranuleSend
  (try dsimp only)
  repeat' (first | assumption | rfl | (intro) | (with_reducible first | apply keepsR_next | apply keeps_foldl | apply keepsP_foldl | apply keeps_ite | apply keeps_cond | apply keepsR_ite | apply keepsP_ite | apply keepsO_pair | apply keepsO_none | apply keepsO_ite | apply keepsV_mk | apply keepsV_ite | apply keepsP_mk | apply keeps_State_inStep | apply keeps_State_nextPass | apply keeps_State_sendGranule | apply keeps_State_setMig) | simp only [keeps_mk_iff, devSame_refl, devSame_mk, Nat.reduceAnd, eq_self, true_or, or_true, implies_true] | (refine KeepsP.of_eq (by assumption) ?_) | (refine KeepsO.of_eq (by assumption) ?_) | (refine KeepsV.of_eq (by assumption) ?_) | split)

theorem keeps_State_granuleReport {pK : Bool} {AK : Nat} {sK tK : State} (slot : Nat) (g : Nat) (ok : Bool) (hA : 8421411 &&& AK = 8421411)  (hK : Keeps pK AK sK tK) :
    Keeps pK AK sK (State.granuleReport tK slot g ok) := by
  refine Keeps.lift (B := 8421411) ?_ hA hK
  clear hK hA
  have hK : Keeps pK 8421411 tK tK := Keeps.refl ..
  unfold State.granuleReport
  (try dsimp only); (repeat' split) <;> simp (maxDischargeDepth := 60) +contextual only [Nat.reduceAnd, eq_self, keeps_State_bump, keeps_State_nextPass, keeps_State_raise, keeps_State_setMig, hK]

theorem keeps_execMigDone {pK : Bool} {AK : Nat} {sK tK : State} (slot : Nat) (hA : 8421411 &&& AK = 8421411)  (hK : Keeps pK AK sK tK) :
    KeepsR pK AK sK (execMigDone slot tK) := by
  refine KeepsR.lift (B := 8421411) ?_ hA hK
  clear hK hA
  have hK : Keeps pK 8421411 tK tK := Keeps.refl ..
  unfold execMigDone
  (try dsimp only)
  repeat' (first | assumption | rfl | (intro) | (with_reducible first | apply keepsR_next | apply keeps_foldl | apply keepsP_foldl | apply keeps_ite | apply keeps_cond | apply keepsR_ite | apply keepsP_ite | apply keepsO_pair | apply keepsO_none | apply keepsO_ite | apply keepsV_mk | apply keepsV_ite | apply keepsP_mk | apply keeps_State_inStep | apply keeps_State_raise | apply keeps_State_setMig) | simp only [keeps_mk_iff, devSame_refl, devSame_mk, Nat.reduceAnd, eq_self, true_or, or_true, implies_true] | (refine KeepsP.of_eq (by assumption) ?_) | (refine KeepsO.of_eq (by assumption) ?_) | (refine KeepsV.of_eq (by assumption) ?_) | split)

theorem keeps_State_lostHere {pK : Bool} {AK : Nat} {sK tK : State} (n : NsEnt) (lba : Nat) (hA : 8409123 &&& AK = 8409123)  (hK : Keeps pK AK sK tK) :
    Keeps pK AK sK (State.lostHere tK n lba) := by
  refine Keeps.lift (B := 8409123) ?_ hA hK
  clear hK hA
  have hK : Keeps pK 8409123 tK tK := Keeps.refl ..
  unfold State.lostHere
  (try dsimp only); (repeat' split) <;> simp (maxDischargeDepth := 60) +contextual only [Nat.reduceAnd, eq_self, keeps_State_recordLost, hK]

theorem keeps_execMigGranuleRx {pK : Bool} {AK : Nat} {sK tK : State} (peer : Nat) (msgId : Nat) (sub : Nat) (nsid : Nat) (g : Granule) (hA : 32634787 &&& AK = 32634787)  (hK : Keeps pK AK sK tK) :
    KeepsR pK AK sK (execMigGranuleRx peer msgId sub nsid g tK) := by
  refine KeepsR.lift (B := 32634787) ?_ hA hK
  clear hK hA
  have hK : Keeps pK 32634787 tK tK := Keeps.refl ..
  unfold execMigGranuleRx
  (try dsimp only)
  repeat' (first | assumption | rfl | (intro) | (with_reducible first | apply keepsR_next | apply keeps_foldl | apply keepsP_foldl | apply keeps_ite | apply keeps_cond | apply keepsR_ite | apply keepsP_ite | apply keepsO_pair | apply keepsO_none | apply keepsO_ite | apply keepsV_mk | apply keepsV_ite | apply keepsP_mk | apply keeps_State_deallocBlock | apply keeps_State_dirtyLevel | apply keeps_State_drawn | apply keeps_State_inStep | apply keeps_State_lostHere | apply keeps_State_sendCtl | apply keeps_State_stage | apply keeps_State_startBrand) | simp only [keeps_mk_iff, devSame_refl, devSame_mk, Nat.reduceAnd, eq_self, true_or, or_true, implies_true] | (refine KeepsP.of_eq (by assumption) ?_) | (refine KeepsO.of_eq (by assumption) ?_) | (refine KeepsV.of_eq (by assumption) ?_) | split)

/-! ## Machine/FlumeRows.lean -/

theorem keeps_State_settleReports {pK : Bool} {AK : Nat} {sK tK : State}  (hA : 33159139 &&& AK = 33159139)  (hK : Keeps pK AK sK tK) :
    Keeps pK AK sK (State.settleReports tK) := by
  refine Keeps.lift (B := 33159139) ?_ hA hK
  clear hK hA
  have hK : Keeps pK 33159139 tK tK := Keeps.refl ..
  unfold State.settleReports
  (try dsimp only)
  repeat' (first | assumption | rfl | (intro) | (with_reducible first | apply keepsR_next | apply keeps_foldl | apply keepsP_foldl | apply keeps_ite | apply keeps_cond | apply keepsR_ite | apply keepsP_ite | apply keepsO_pair | apply keepsO_none | apply keepsO_ite | apply keepsV_mk | apply keepsV_ite | apply keepsP_mk | apply keeps_State_cmdReport | apply keeps_State_granuleReport | apply keeps_State_retryPulls) | simp only [keeps_mk_iff, devSame_refl, Nat.reduceAnd, eq_self, true_or, or_true] | (refine KeepsP.of_eq (by assumption) ?_) | (refine KeepsO.of_eq (by assumption) ?_) | (refine KeepsV.of_eq (by assumption) ?_) | split)

theorem keeps_State_ending {pK : Bool} {AK : Nat} {sK tK : State} (f : State → State) (hA : 33159139 &&& AK = 33159139) (hF_f : ∀ (t : State) , Keeps pK AK sK t → Keeps pK AK sK (f t)) (hK : Keeps pK AK sK tK) :
    Keeps pK AK sK (State.ending tK f) := by
  have g0 : 1 &&& AK = 1 := sub_trans (by decide) hA
  have c0 : AK &&& 1 = 1 := by rw [Nat.and_comm]; exact g0
  have g1 : 2 &&& AK = 2 := sub_trans (by decide) hA
  have c1 : AK &&& 2 = 2 := by rw [Nat.and_comm]; exact g1
  have g2 : 32 &&& AK = 32 := sub_trans (by decide) hA
  have c2 : AK &&& 32 = 32 := by rw [Nat.and_comm]; exact g2
  have g3 : 64 &&& AK = 64 := sub_trans (by decide) hA
  have c3 : AK &&& 64 = 64 := by rw [Nat.and_comm]; exact g3
  have g4 : 128 &&& AK = 128 := sub_trans (by decide) hA
  have c4 : AK &&& 128 = 128 := by rw [Nat.and_comm]; exact g4
  have g5 : 256 &&& AK = 256 := sub_trans (by decide) hA
  have c5 : AK &&& 256 = 256 := by rw [Nat.and_comm]; exact g5
  have g6 : 512 &&& AK = 512 := sub_trans (by decide) hA
  have c6 : AK &&& 512 = 512 := by rw [Nat.and_comm]; exact g6
  have g7 : 1024 &&& AK = 1024 := sub_trans (by decide) hA
  have c7 : AK &&& 1024 = 1024 := by rw [Nat.and_comm]; exact g7
  have g8 : 4096 &&& AK = 4096 := sub_trans (by decide) hA
  have c8 : AK &&& 4096 = 4096 := by rw [Nat.and_comm]; exact g8
  have g9 : 8192 &&& AK = 8192 := sub_trans (by decide) hA
  have c9 : AK &&& 8192 = 8192 := by rw [Nat.and_comm]; exact g9
  have g10 : 16384 &&& AK = 16384 := sub_trans (by decide) hA
  have c10 : AK &&& 16384 = 16384 := by rw [Nat.and_comm]; exact g10
  have g11 : 32768 &&& AK = 32768 := sub_trans (by decide) hA
  have c11 : AK &&& 32768 = 32768 := by rw [Nat.and_comm]; exact g11
  have g12 : 65536 &&& AK = 65536 := sub_trans (by decide) hA
  have c12 : AK &&& 65536 = 65536 := by rw [Nat.and_comm]; exact g12
  have g13 : 524288 &&& AK = 524288 := sub_trans (by decide) hA
  have c13 : AK &&& 524288 = 524288 := by rw [Nat.and_comm]; exact g13
  have g14 : 1048576 &&& AK = 1048576 := sub_trans (by decide) hA
  have c14 : AK &&& 1048576 = 1048576 := by rw [Nat.and_comm]; exact g14
  have g15 : 2097152 &&& AK = 2097152 := sub_trans (by decide) hA
  have c15 : AK &&& 2097152 = 2097152 := by rw [Nat.and_comm]; exact g15
  have g16 : 4194304 &&& AK = 4194304 := sub_trans (by decide) hA
  have c16 : AK &&& 4194304 = 4194304 := by rw [Nat.and_comm]; exact g16
  have g17 : 8388608 &&& AK = 8388608 := sub_trans (by decide) hA
  have c17 : AK &&& 8388608 = 8388608 := by rw [Nat.and_comm]; exact g17
  have g18 : 16777216 &&& AK = 16777216 := sub_trans (by decide) hA
  have c18 : AK &&& 16777216 = 16777216 := by rw [Nat.and_comm]; exact g18
  have g19 : 33159139 &&& AK = 33159139 := sub_trans (by decide) hA
  have c19 : AK &&& 33159139 = 33159139 := by rw [Nat.and_comm]; exact g19
  simp (maxDischargeDepth := 60) +contextual only [State.ending, eq_self, implies_true, keeps_State_inStep, keeps_State_settleReports, hK, hF_f, g1, g19]

theorem keeps_execReadRespRx {pK : Bool} {AK : Nat} {sK tK : State} (dg : Datagram) (place : Option (List (Nat × Nat))) (hA : 33159139 &&& AK = 33159139)  (hK : Keeps pK AK sK tK) :
    KeepsR pK AK sK (execReadRespRx dg place tK) := by
  refine KeepsR.lift (B := 33159139) ?_ hA hK
  clear hK hA
  have hK : Keeps pK 33159139 tK tK := Keeps.refl ..
  simp (maxDischargeDepth := 60) +contextual only [execReadRespRx, Nat.reduceAnd, eq_self, implies_true, keepsR_next, keeps_State_ending, keeps_rxReadResp, hK]

theorem keeps_execAckRx {pK : Bool} {AK : Nat} {sK tK : State} (dg : Datagram) (hA : 33159139 &&& AK = 33159139)  (hK : Keeps pK AK sK tK) :
    KeepsR pK AK sK (execAckRx dg tK) := by
  refine KeepsR.lift (B := 33159139) ?_ hA hK
  clear hK hA
  have hK : Keeps pK 33159139 tK tK := Keeps.refl ..
  simp (maxDischargeDepth := 60) +contextual only [execAckRx, Nat.reduceAnd, eq_self, implies_true, keepsR_next, keeps_State_ending, keeps_rxAck, hK]

theorem keeps_execNackRx {pK : Bool} {AK : Nat} {sK tK : State} (dg : Datagram) (hA : 33159139 &&& AK = 33159139)  (hK : Keeps pK AK sK tK) :
    KeepsR pK AK sK (execNackRx dg tK) := by
  refine KeepsR.lift (B := 33159139) ?_ hA hK
  clear hK hA
  have hK : Keeps pK 33159139 tK tK := Keeps.refl ..
  simp (maxDischargeDepth := 60) +contextual only [execNackRx, Nat.reduceAnd, eq_self, implies_true, keepsR_next, keeps_State_ending, keeps_rxNack, hK]

theorem keeps_execRetransmitTimerExpiry {pK : Bool} {AK : Nat} {sK tK : State} (msg : Nat) (pkt : Nat) (hA : 33159139 &&& AK = 33159139)  (hK : Keeps pK AK sK tK) :
    KeepsR pK AK sK (execRetransmitTimerExpiry msg pkt tK) := by
  refine KeepsR.lift (B := 33159139) ?_ hA hK
  clear hK hA
  have hK : Keeps pK 33159139 tK tK := Keeps.refl ..
  simp (maxDischargeDepth := 60) +contextual only [execRetransmitTimerExpiry, Nat.reduceAnd, eq_self, implies_true, keepsR_next, keeps_State_ending, keeps_timerExpiry, hK]

theorem keeps_execBusyHoldExpiry {pK : Bool} {AK : Nat} {sK tK : State} (msg : Nat) (hA : 33159139 &&& AK = 33159139)  (hK : Keeps pK AK sK tK) :
    KeepsR pK AK sK (execBusyHoldExpiry msg tK) := by
  refine KeepsR.lift (B := 33159139) ?_ hA hK
  clear hK hA
  have hK : Keeps pK 33159139 tK tK := Keeps.refl ..
  simp (maxDischargeDepth := 60) +contextual only [execBusyHoldExpiry, Nat.reduceAnd, eq_self, implies_true, keepsR_next, keeps_State_ending, keeps_holdExpiry, hK]

theorem keeps_execMessageDeadline {pK : Bool} {AK : Nat} {sK tK : State} (msg : Nat) (hA : 33159139 &&& AK = 33159139)  (hK : Keeps pK AK sK tK) :
    KeepsR pK AK sK (execMessageDeadline msg tK) := by
  refine KeepsR.lift (B := 33159139) ?_ hA hK
  clear hK hA
  have hK : Keeps pK 33159139 tK tK := Keeps.refl ..
  simp (maxDischargeDepth := 60) +contextual only [execMessageDeadline, Nat.reduceAnd, eq_self, implies_true, keepsR_next, keeps_State_ending, keeps_deadline, hK]

/-! ## Machine/PairRows.lean -/

theorem keeps_State_seeActive {pK : Bool} {AK : Nat} {sK tK : State} (w : ActiveIn) (hA : 1 &&& AK = 1)  (hK : Keeps pK AK sK tK) :
    Keeps pK AK sK (State.seeActive tK w) := by
  refine Keeps.lift (B := 1) ?_ hA hK
  clear hK hA
  have hK : Keeps pK 1 tK tK := Keeps.refl ..
  simp (maxDischargeDepth := 60) +contextual only [State.seeActive, Nat.reduceAnd, eq_self, keeps_State_setFlag, hK]

theorem keeps_State_partnerIs {pK : Bool} {AK : Nat} {sK tK : State} (v : Nat) (hA : 1 &&& AK = 1)  (hK : Keeps pK AK sK tK) :
    Keeps pK AK sK (State.partnerIs tK v) := by
  refine Keeps.lift (B := 1) ?_ hA hK
  clear hK hA
  have hK : Keeps pK 1 tK tK := Keeps.refl ..
  simp (maxDischargeDepth := 60) +contextual only [State.partnerIs, Nat.reduceAnd, eq_self, keeps_State_set, hK]

theorem keeps_State_tick {pK : Bool} {AK : Nat} {sK tK : State} (us : Nat) (hA : 8389155 &&& AK = 8389155)  (hK : Keeps pK AK sK tK) :
    Keeps pK AK sK (State.tick tK us) := by
  refine Keeps.lift (B := 8389155) ?_ hA hK
  clear hK hA
  have hK : Keeps pK 8389155 tK tK := Keeps.refl ..
  simp (maxDischargeDepth := 60) +contextual only [State.tick, Nat.reduceAnd, eq_self, true_or, or_true, devSame_refl, keeps_mk, keeps_State_number, hK]

theorem keeps_State_freshAlone {pK : Bool} {AK : Nat} {sK tK : State}  (hA : 8389155 &&& AK = 8389155)  (hK : Keeps pK AK sK tK) :
    Keeps pK AK sK (State.freshAlone tK) := by
  refine Keeps.lift (B := 8389155) ?_ hA hK
  clear hK hA
  have hK : Keeps pK 8389155 tK tK := Keeps.refl ..
  simp (maxDischargeDepth := 60) +contextual only [State.freshAlone, Nat.reduceAnd, eq_self, true_or, or_true, devSame_mk, keeps_mk, keeps_State_setRole, keeps_State_tick, hK]

theorem keeps_State_join {pK : Bool} {AK : Nat} {sK tK : State}  (hA : 8389121 &&& AK = 8389121)  (hK : Keeps pK AK sK tK) :
    Keeps pK AK sK (State.join tK) := by
  refine Keeps.lift (B := 8389121) ?_ hA hK
  clear hK hA
  have hK : Keeps pK 8389121 tK tK := Keeps.refl ..
  simp (maxDischargeDepth := 60) +contextual only [State.join, Nat.reduceAnd, eq_self, true_or, or_true, devSame_refl, keeps_mk, keeps_State_setRole, hK]

theorem keeps_execRoleSelect {pK : Bool} {AK : Nat} {sK tK : State} (wave : ActiveIn) (hA : 8389155 &&& AK = 8389155)  (hK : Keeps pK AK sK tK) :
    KeepsR pK AK sK (execRoleSelect wave tK) := by
  refine KeepsR.lift (B := 8389155) ?_ hA hK
  clear hK hA
  have hK : Keeps pK 8389155 tK tK := Keeps.refl ..
  simp (maxDischargeDepth := 60) +contextual only [execRoleSelect, Nat.reduceAnd, eq_self, keeps_ite, keepsR_next, keeps_State_detach, keeps_State_freshAlone, keeps_State_join, keeps_State_raise, keeps_State_seeActive, hK]

theorem keeps_State_fencePartner {pK : Bool} {AK : Nat} {sK tK : State}  (hA : 32581155 &&& AK = 32581155)  (hK : Keeps pK AK sK tK) :
    Keeps pK AK sK (State.fencePartner tK) := by
  refine Keeps.lift (B := 32581155) ?_ hA hK
  clear hK hA
  have hK : Keeps pK 32581155 tK tK := Keeps.refl ..
  simp (maxDischargeDepth := 60) +contextual only [State.fencePartner, Nat.reduceAnd, eq_self, implies_true, keeps_ite, keeps_foldl, keeps_State_resvCmd, hK]

theorem keeps_State_registerKeys {pK : Bool} {AK : Nat} {sK tK : State}  (hA : 32581155 &&& AK = 32581155)  (hK : Keeps pK AK sK tK) :
    Keeps pK AK sK (State.registerKeys tK) := by
  refine Keeps.lift (B := 32581155) ?_ hA hK
  clear hK hA
  have hK : Keeps pK 32581155 tK tK := Keeps.refl ..
  simp (maxDischargeDepth := 60) +contextual only [State.registerKeys, Nat.reduceAnd, eq_self, implies_true, keeps_ite, keeps_foldl, keeps_State_resvCmd, hK]

theorem keeps_State_missedTicks {pK : Bool} {AK : Nat} {sK tK : State}  (hA : 8389155 &&& AK = 8389155)  (hK : Keeps pK AK sK tK) :
    Keeps pK AK sK (State.missedTicks tK) := by
  refine Keeps.lift (B := 8389155) ?_ hA hK
  clear hK hA
  have hK : Keeps pK 8389155 tK tK := Keeps.refl ..
  simp (maxDischargeDepth := 60) +contextual only [State.missedTicks, Nat.reduceAnd, eq_self, true_or, or_true, implies_true, devSame_refl, keeps_foldl, keeps_mk, keeps_State_tick, hK]

theorem keeps_State_reissuePartner {pK : Bool} {AK : Nat} {sK tK : State}  (hA : 32581155 &&& AK = 32581155)  (hK : Keeps pK AK sK tK) :
    Keeps pK AK sK (State.reissuePartner tK) := by
  refine Keeps.lift (B := 32581155) ?_ hA hK
  clear hK hA
  have hK : Keeps pK 32581155 tK tK := Keeps.refl ..
  simp (maxDischargeDepth := 60) +contextual only [State.reissuePartner, Nat.reduceAnd, eq_self, implies_true, keeps_foldl, keeps_State_reissue, hK]

theorem keeps_State_numberForwarded {pK : Bool} {AK : Nat} {sK tK : State}  (hA : 8389155 &&& AK = 8389155)  (hK : Keeps pK AK sK tK) :
    Keeps pK AK sK (State.numberForwarded tK) := by
  refine Keeps.lift (B := 8389155) ?_ hA hK
  clear hK hA
  have hK : Keeps pK 8389155 tK tK := Keeps.refl ..
  simp (maxDischargeDepth := 60) +contextual only [State.numberForwarded, Nat.reduceAnd, eq_self, true_or, or_true, implies_true, devSame_refl, keeps_foldl, keeps_mk, keeps_State_number, hK]

theorem keeps_State_serveAlone {pK : Bool} {AK : Nat} {sK tK : State}  (hA : 32585635 &&& AK = 32585635)  (hK : Keeps pK AK sK tK) :
    Keeps pK AK sK (State.serveAlone tK) := by
  refine Keeps.lift (B := 32585635) ?_ hA hK
  clear hK hA
  have hK : Keeps pK 32585635 tK tK := Keeps.refl ..
  simp (maxDischargeDepth := 60) +contextual only [State.serveAlone, Nat.reduceAnd, eq_self, true_or, or_true, devSame_refl, keeps_mk, keeps_State_ackWrites, keeps_State_linkAcked, keeps_State_reissuePartner, keeps_State_setRole, hK]

theorem keeps_State_takeOver {pK : Bool} {AK : Nat} {sK tK : State}  (hA : 32585635 &&& AK = 32585635)  (hK : Keeps pK AK sK tK) :
    Keeps pK AK sK (State.takeOver tK) := by
  refine Keeps.lift (B := 32585635) ?_ hA hK
  clear hK hA
  have hK : Keeps pK 32585635 tK tK := Keeps.refl ..
  simp (maxDischargeDepth := 60) +contextual only [State.takeOver, Nat.reduceAnd, eq_self, true_or, or_true, devSame_refl, keeps_ite, keeps_mk, keeps_State_fencePartner, keeps_State_missedTicks, keeps_State_number, keeps_State_numberForwarded, keeps_State_partnerIs, keeps_State_raise, keeps_State_serveAlone, keeps_State_setRole, keeps_State_set, hK]

theorem keeps_State_resendAll {pK : Bool} {AK : Nat} {sK tK : State}  (hA : 8389283 &&& AK = 8389283)  (hK : Keeps pK AK sK tK) :
    Keeps pK AK sK (State.resendAll tK) := by
  refine Keeps.lift (B := 8389283) ?_ hA hK
  clear hK hA
  have hK : Keeps pK 8389283 tK tK := Keeps.refl ..
  unfold State.resendAll
  (try dsimp only)
  repeat' (first | assumption | rfl | (intro) | (with_reducible first | apply keepsR_next | apply keeps_foldl | apply keepsP_foldl | apply keeps_ite | apply keeps_cond | apply keepsR_ite | apply keepsP_ite | apply keepsO_pair | apply keepsO_none | apply keepsO_ite | apply keepsV_mk | apply keepsV_ite | apply keepsP_mk | apply keeps_State_observe | apply keeps_State_setMsg) | simp only [keeps_mk_iff, devSame_refl, devSame_mk, Nat.reduceAnd, eq_self, true_or, or_true, implies_true] | (refine KeepsP.of_eq (by assumption) ?_) | (refine KeepsO.of_eq (by assumption) ?_) | (refine KeepsV.of_eq (by assumption) ?_) | split)

theorem keeps_State_freshFlows {pK : Bool} {AK : Nat} {sK tK : State}  (hA : 16777472 &&& AK = 16777472)  (hK : Keeps pK AK sK tK) :
    Keeps pK AK sK (State.freshFlows tK) := by
  refine Keeps.lift (B := 16777472) ?_ hA hK
  clear hK hA
  have hK : Keeps pK 16777472 tK tK := Keeps.refl ..
  simp (maxDischargeDepth := 60) +contextual only [State.freshFlows, Nat.reduceAnd, eq_self, implies_true, keeps_foldl, keeps_State_drawn, keeps_State_setFlow, hK]

theorem keeps_State_settleTakeover {pK : Bool} {AK : Nat} {sK tK : State}  (hA : 32585635 &&& AK = 32585635)  (hK : Keeps pK AK sK tK) :
    Keeps pK AK sK (State.settleTakeover tK) := by
  refine Keeps.lift (B := 32585635) ?_ hA hK
  clear hK hA
  have hK : Keeps pK 32585635 tK tK := Keeps.refl ..
  simp (maxDischargeDepth := 60) +contextual only [State.settleTakeover, Nat.reduceAnd, eq_self, true_or, or_true, devSame_refl, keeps_ite, keeps_mk, keeps_State_ackWrites, keeps_State_freshFlows, keeps_State_linkAcked, keeps_State_raise, keeps_State_reissuePartner, keeps_State_resendAll, keeps_State_set, hK]

theorem keeps_State_linkFails {pK : Bool} {AK : Nat} {sK tK : State}  (hA : 8389155 &&& AK = 8389155)  (hK : Keeps pK AK sK tK) :
    Keeps pK AK sK (State.linkFails tK) := by
  refine Keeps.lift (B := 8389155) ?_ hA hK
  clear hK hA
  have hK : Keeps pK 8389155 tK tK := Keeps.refl ..
  simp (maxDischargeDepth := 60) +contextual only [State.linkFails, Nat.reduceAnd, eq_self, true_or, or_true, devSame_refl, keeps_ite, keeps_mk, keeps_State_raise, keeps_State_setFlag, hK]

theorem keeps_State_degrade {pK : Bool} {AK : Nat} {sK tK : State}  (hA : 8389155 &&& AK = 8389155)  (hK : Keeps pK AK sK tK) :
    Keeps pK AK sK (State.degrade tK) := by
  refine Keeps.lift (B := 8389155) ?_ hA hK
  clear hK hA
  have hK : Keeps pK 8389155 tK tK := Keeps.refl ..
  simp (maxDischargeDepth := 60) +contextual only [State.degrade, Nat.reduceAnd, eq_self, keeps_State_linkFails, keeps_State_partnerIs, keeps_State_raise, keeps_State_set, hK]

theorem keeps_State_suspect {pK : Bool} {AK : Nat} {sK tK : State}  (hA : 8388643 &&& AK = 8388643)  (hK : Keeps pK AK sK tK) :
    Keeps pK AK sK (State.suspect tK) := by
  refine Keeps.lift (B := 8388643) ?_ hA hK
  clear hK hA
  have hK : Keeps pK 8388643 tK tK := Keeps.refl ..
  simp (maxDischargeDepth := 60) +contextual only [State.suspect, Nat.reduceAnd, eq_self, keeps_ite, keeps_State_partnerIs, keeps_State_raise, hK]

theorem keeps_State_decidePartner {pK : Bool} {AK : Nat} {sK tK : State} (w : ActiveIn) (hA : 32585635 &&& AK = 32585635)  (hK : Keeps pK AK sK tK) :
    Keeps pK AK sK (State.decidePartner tK w) := by
  refine Keeps.lift (B := 32585635) ?_ hA hK
  clear hK hA
  have hK : Keeps pK 32585635 tK tK := Keeps.refl ..
  simp (maxDischargeDepth := 60) +contextual only [State.decidePartner, Nat.reduceAnd, eq_self, keeps_ite, keeps_State_degrade, keeps_State_detach, keeps_State_fencePartner, keeps_State_serveAlone, keeps_State_takeOver, hK]

theorem keeps_execHeartbeatTimeout {pK : Bool} {AK : Nat} {sK tK : State} (wave : ActiveIn) (hA : 32585635 &&& AK = 32585635)  (hK : Keeps pK AK sK tK) :
    KeepsR pK AK sK (execHeartbeatTimeout wave tK) := by
  refine KeepsR.lift (B := 32585635) ?_ hA hK
  clear hK hA
  have hK : Keeps pK 32585635 tK tK := Keeps.refl ..
  simp (maxDischargeDepth := 60) +contextual only [execHeartbeatTimeout, Nat.reduceAnd, eq_self, keeps_ite, keepsR_next, keeps_State_bumpBy, keeps_State_decidePartner, keeps_State_seeActive, keeps_State_suspect, hK]

theorem keeps_execFaultNotice {pK : Bool} {AK : Nat} {sK tK : State} (wave : ActiveIn) (hA : 32585635 &&& AK = 32585635)  (hK : Keeps pK AK sK tK) :
    KeepsR pK AK sK (execFaultNotice wave tK) := by
  refine KeepsR.lift (B := 32585635) ?_ hA hK
  clear hK hA
  have hK : Keeps pK 32585635 tK tK := Keeps.refl ..
  simp (maxDischargeDepth := 60) +contextual only [execFaultNotice, Nat.reduceAnd, eq_self, keeps_ite, keepsR_next, keeps_State_decidePartner, keeps_State_seeActive, keeps_State_setFlag, keeps_State_suspect, hK]

theorem keeps_execPairActiveInLoss {pK : Bool} {AK : Nat} {sK tK : State} (dead : Bool) (hA : 32585635 &&& AK = 32585635)  (hK : Keeps pK AK sK tK) :
    KeepsR pK AK sK (execPairActiveInLoss dead tK) := by
  refine KeepsR.lift (B := 32585635) ?_ hA hK
  clear hK hA
  have hK : Keeps pK 32585635 tK tK := Keeps.refl ..
  simp (maxDischargeDepth := 60) +contextual only [execPairActiveInLoss, Nat.reduceAnd, eq_self, keeps_ite, keepsR_next, keeps_State_decidePartner, keeps_State_seeActive, hK]

theorem keeps_State_lagCheck {pK : Bool} {AK : Nat} {sK tK : State}  (hA : 8389155 &&& AK = 8389155)  (hK : Keeps pK AK sK tK) :
    Keeps pK AK sK (State.lagCheck tK) := by
  refine Keeps.lift (B := 8389155) ?_ hA hK
  clear hK hA
  have hK : Keeps pK 8389155 tK tK := Keeps.refl ..
  simp (maxDischargeDepth := 60) +contextual only [State.lagCheck, Nat.reduceAnd, eq_self, true_or, or_true, devSame_refl, keeps_ite, keeps_mk, keeps_State_raise, hK]

theorem keeps_execTickIssue {pK : Bool} {AK : Nat} {sK tK : State}  (hA : 8389155 &&& AK = 8389155)  (hK : Keeps pK AK sK tK) :
    KeepsR pK AK sK (execTickIssue tK) := by
  refine KeepsR.lift (B := 8389155) ?_ hA hK
  clear hK hA
  have hK : Keeps pK 8389155 tK tK := Keeps.refl ..
  simp (maxDischargeDepth := 60) +contextual only [execTickIssue, Nat.reduceAnd, eq_self, true_or, or_true, devSame_refl, keeps_ite, keepsR_next, keeps_mk, keeps_State_lagCheck, keeps_State_tick, hK]

theorem keeps_State_replay {pK : Bool} {AK : Nat} {sK tK : State}  (hA : 8389155 &&& AK = 8389155)  (hK : Keeps pK AK sK tK) :
    Keeps pK AK sK (State.replay tK) := by
  refine Keeps.lift (B := 8389155) ?_ hA hK
  clear hK hA
  have hK : Keeps pK 8389155 tK tK := Keeps.refl ..
  simp (maxDischargeDepth := 60) +contextual only [State.replay, Nat.reduceAnd, eq_self, true_or, or_true, implies_true, devSame_refl, keeps_ite, keeps_foldl, keeps_mk, keeps_State_bumpBy, keeps_State_count, keeps_State_linkFails, keeps_State_putLink, hK]

theorem keeps_State_linkAck {pK : Bool} {AK : Nat} {sK tK : State} (ack : Nat) (hA : 8454691 &&& AK = 8454691)  (hK : Keeps pK AK sK tK) :
    Keeps pK AK sK (State.linkAck tK ack) := by
  refine Keeps.lift (B := 8454691) ?_ hA hK
  clear hK hA
  have hK : Keeps pK 8454691 tK tK := Keeps.refl ..
  simp (maxDischargeDepth := 60) +contextual only [State.linkAck, Nat.reduceAnd, eq_self, true_or, or_true, devSame_refl, keeps_mk, keeps_State_linkAcked, hK]

theorem keeps_State_sendNak {pK : Bool} {AK : Nat} {sK tK : State}  (hA : 8389155 &&& AK = 8389155)  (hK : Keeps pK AK sK tK) :
    Keeps pK AK sK (State.sendNak tK) := by
  refine Keeps.lift (B := 8389155) ?_ hA hK
  clear hK hA
  have hK : Keeps pK 8389155 tK tK := Keeps.refl ..
  simp (maxDischargeDepth := 60) +contextual only [State.sendNak, Nat.reduceAnd, eq_self, true_or, or_true, devSame_refl, keeps_mk, keeps_State_putLink, hK]

theorem keeps_State_onFrame {pK : Bool} {AK : Nat} {sK tK : State} (fr : LinkFrame) (f : State → State) (hA : 8454691 &&& AK = 8454691) (hF_f : ∀ (t : State) , Keeps pK AK sK t → Keeps pK AK sK (f t)) (hK : Keeps pK AK sK tK) :
    Keeps pK AK sK (State.onFrame tK fr f) := by
  have g0 : 1 &&& AK = 1 := sub_trans (by decide) hA
  have c0 : AK &&& 1 = 1 := by rw [Nat.and_comm]; exact g0
  have g1 : 2 &&& AK = 2 := sub_trans (by decide) hA
  have c1 : AK &&& 2 = 2 := by rw [Nat.and_comm]; exact g1
  have g2 : 32 &&& AK = 32 := sub_trans (by decide) hA
  have c2 : AK &&& 32 = 32 := by rw [Nat.and_comm]; exact g2
  have g3 : 512 &&& AK = 512 := sub_trans (by decide) hA
  have c3 : AK &&& 512 = 512 := by rw [Nat.and_comm]; exact g3
  have g4 : 65536 &&& AK = 65536 := sub_trans (by decide) hA
  have c4 : AK &&& 65536 = 65536 := by rw [Nat.and_comm]; exact g4
  have g5 : 8388608 &&& AK = 8388608 := sub_trans (by decide) hA
  have c5 : AK &&& 8388608 = 8388608 := by rw [Nat.and_comm]; exact g5
  have g6 : 8389155 &&& AK = 8389155 := sub_trans (by decide) hA
  have c6 : AK &&& 8389155 = 8389155 := by rw [Nat.and_comm]; exact g6
  have g7 : 8454691 &&& AK = 8454691 := sub_trans (by decide) hA
  have c7 : AK &&& 8454691 = 8454691 := by rw [Nat.and_comm]; exact g7
  simp (maxDischargeDepth := 60) +contextual only [State.onFrame, eq_self, true_or, or_true, devSame_refl, keeps_ite, keeps_mk, keeps_State_bump, keeps_State_linkAck, keeps_State_replay, keeps_State_sendNak, hK, hF_f, g0, c1, c2, c3, c4, g6, g7]

theorem keeps_execLinkNakRx {pK : Bool} {AK : Nat} {sK tK : State} (fr : LinkFrame) (hA : 8454691 &&& AK = 8454691)  (hK : Keeps pK AK sK tK) :
    KeepsR pK AK sK (execLinkNakRx fr tK) := by
  refine KeepsR.lift (B := 8454691) ?_ hA hK
  clear hK hA
  have hK : Keeps pK 8454691 tK tK := Keeps.refl ..
  unfold execLinkNakRx
  (try dsimp only)
  repeat' (first | assumption | rfl | (intro) | (with_reducible first | apply keepsR_next | apply keeps_foldl | apply keepsP_foldl | apply keeps_ite | apply keeps_cond | apply keepsR_ite | apply keepsP_ite | apply keepsO_pair | apply keepsO_none | apply keepsO_ite | apply keepsV_mk | apply keepsV_ite | apply keepsP_mk | apply keeps_State_onFrame) | simp only [keeps_mk_iff, devSame_refl, devSame_mk, Nat.reduceAnd, eq_self, true_or, or_true, implies_true] | (refine KeepsP.of_eq (by assumption) ?_) | (refine KeepsO.of_eq (by assumption) ?_) | (refine KeepsV.of_eq (by assumption) ?_) | split)

theorem keeps_execLinkIdleRx {pK : Bool} {AK : Nat} {sK tK : State} (fr : LinkFrame) (hA : 8454691 &&& AK = 8454691)  (hK : Keeps pK AK sK tK) :
    KeepsR pK AK sK (execLinkIdleRx fr tK) := by
  refine KeepsR.lift (B := 8454691) ?_ hA hK
  clear hK hA
  have hK : Keeps pK 8454691 tK tK := Keeps.refl ..
  unfold execLinkIdleRx
  (try dsimp only)
  repeat' (first | assumption | rfl | (intro) | (with_reducible first | apply keepsR_next | apply keeps_foldl | apply keepsP_foldl | apply keeps_ite | apply keeps_cond | apply keepsR_ite | apply keepsP_ite | apply keepsO_pair | apply keepsO_none | apply keepsO_ite | apply keepsV_mk | apply keepsV_ite | apply keepsP_mk | apply keeps_State_onFrame) | simp only [keeps_mk_iff, devSame_refl, devSame_mk, Nat.reduceAnd, eq_self, true_or, or_true, implies_true] | (refine KeepsP.of_eq (by assumption) ?_) | (refine KeepsO.of_eq (by assumption) ?_) | (refine KeepsV.of_eq (by assumption) ?_) | split)

theorem keeps_execLinkIdleSend {pK : Bool} {AK : Nat} {sK tK : State}  (hA : 8389155 &&& AK = 8389155)  (hK : Keeps pK AK sK tK) :
    KeepsR pK AK sK (execLinkIdleSend tK) := by
  refine KeepsR.lift (B := 8389155) ?_ hA hK
  clear hK hA
  have hK : Keeps pK 8389155 tK tK := Keeps.refl ..
  simp (maxDischargeDepth := 60) +contextual only [execLinkIdleSend, Nat.reduceAnd, eq_self, keeps_ite, keepsR_next, keeps_State_sendLink, hK]

theorem keeps_execLinkFailure {pK : Bool} {AK : Nat} {sK tK : State} (lockLost : Bool) (hA : 8389155 &&& AK = 8389155)  (hK : Keeps pK AK sK tK) :
    KeepsR pK AK sK (execLinkFailure lockLost tK) := by
  refine KeepsR.lift (B := 8389155) ?_ hA hK
  clear hK hA
  have hK : Keeps pK 8389155 tK tK := Keeps.refl ..
  simp (maxDischargeDepth := 60) +contextual only [execLinkFailure, Nat.reduceAnd, eq_self, keeps_ite, keepsR_next, keeps_State_linkFails, hK]

theorem keeps_execHelloRx {pK : Bool} {AK : Nat} {sK tK : State} (fr : LinkFrame) (h : Hello) (sameFactory : Bool) (hA : 8915491 &&& AK = 8915491)  (hK : Keeps pK AK sK tK) :
    KeepsR pK AK sK (execHelloRx fr h sameFactory tK) := by
  refine KeepsR.lift (B := 8915491) ?_ hA hK
  clear hK hA
  have hK : Keeps pK 8915491 tK tK := Keeps.refl ..
  simp (maxDischargeDepth := 60) +contextual only [execHelloRx, Nat.reduceAnd, eq_self, true_or, or_true, devSame_refl, keeps_ite, keepsR_next, keeps_mk, keeps_State_firstError, keeps_State_detach, keeps_State_freshAlone, keeps_State_raise, keeps_State_sendLink, keeps_State_set, keeps_State_setFlag, hK]

theorem keeps_State_takeRecord {pK : Bool} {AK : Nat} {sK tK : State} (r : InputRec) (hA : 512 &&& AK = 512)  (hK : Keeps pK AK sK tK) :
    Keeps pK AK sK (State.takeRecord tK r) := by
  refine Keeps.lift (B := 512) ?_ hA hK
  clear hK hA
  have hK : Keeps pK 512 tK tK := Keeps.refl ..
  unfold State.takeRecord
  (try dsimp only); (repeat' split) <;> simp (maxDischargeDepth := 60) +contextual only [Nat.reduceAnd, eq_self, true_or, or_true, devSame_refl, keeps_mk, hK]

theorem keeps_execInputRx {pK : Bool} {AK : Nat} {sK tK : State} (fr : LinkFrame) (hA : 8454691 &&& AK = 8454691)  (hK : Keeps pK AK sK tK) :
    KeepsR pK AK sK (execInputRx fr tK) := by
  refine KeepsR.lift (B := 8454691) ?_ hA hK
  clear hK hA
  have hK : Keeps pK 8454691 tK tK := Keeps.refl ..
  unfold execInputRx
  (try dsimp only); (repeat' split) <;> simp (maxDischargeDepth := 60) +contextual only [Nat.reduceAnd, eq_self, implies_true, keeps_ite, keeps_foldl, keepsR_next, keeps_State_onFrame, keeps_State_takeRecord, hK]

theorem keeps_execForwardRx {pK : Bool} {AK : Nat} {sK tK : State} (fr : LinkFrame) (hA : 8454691 &&& AK = 8454691)  (hK : Keeps pK AK sK tK) :
    KeepsR pK AK sK (execForwardRx fr tK) := by
  refine KeepsR.lift (B := 8454691) ?_ hA hK
  clear hK hA
  have hK : Keeps pK 8454691 tK tK := Keeps.refl ..
  unfold execForwardRx
  (try dsimp only); (repeat' split) <;> simp (maxDischargeDepth := 60) +contextual only [Nat.reduceAnd, eq_self, implies_true, keeps_ite, keepsR_next, keeps_State_number, keeps_State_onFrame, hK]

theorem keeps_execStagedRx {pK : Bool} {AK : Nat} {sK tK : State} (fr : LinkFrame) (hA : 25245603 &&& AK = 25245603)  (hK : Keeps pK AK sK tK) :
    KeepsR pK AK sK (execStagedRx fr tK) := by
  refine KeepsR.lift (B := 25245603) ?_ hA hK
  clear hK hA
  have hK : Keeps pK 25245603 tK tK := Keeps.refl ..
  unfold execStagedRx
  (try dsimp only); (repeat' split) <;> simp (maxDischargeDepth := 60) +contextual only [Nat.reduceAnd, eq_self, true_or, or_true, implies_true, devSame_refl, keepsR_next, keeps_mk, keeps_State_ackWrites, keeps_State_inStep, keeps_State_onFrame, hK]

theorem keeps_execHeartbeatSend {pK : Bool} {AK : Nat} {sK tK : State}  (hA : 8389155 &&& AK = 8389155)  (hK : Keeps pK AK sK tK) :
    KeepsR pK AK sK (execHeartbeatSend tK) := by
  refine KeepsR.lift (B := 8389155) ?_ hA hK
  clear hK hA
  have hK : Keeps pK 8389155 tK tK := Keeps.refl ..
  simp (maxDischargeDepth := 60) +contextual only [execHeartbeatSend, Nat.reduceAnd, eq_self, true_or, or_true, devSame_refl, keeps_ite, keepsR_next, keeps_mk, keeps_State_sendLink, hK]

theorem keeps_State_learnFormats {pK : Bool} {AK : Nat} {sK tK : State} (f : Nat × Nat) (hA : 8913443 &&& AK = 8913443)  (hK : Keeps pK AK sK tK) :
    Keeps pK AK sK (State.learnFormats tK f) := by
  refine Keeps.lift (B := 8913443) ?_ hA hK
  clear hK hA
  have hK : Keeps pK 8913443 tK tK := Keeps.refl ..
  simp (maxDischargeDepth := 60) +contextual only [State.learnFormats, Nat.reduceAnd, eq_self, true_or, or_true, devSame_refl, keeps_ite, keeps_mk, keeps_State_detach, keeps_State_raise, keeps_State_setFwSlot, hK]

theorem keeps_State_installPiece {pK : Bool} {AK : Nat} {sK tK : State} (x : Piece) (hA : 9240487 &&& AK = 9240487)  (hK : Keeps pK AK sK tK) :
    Keeps pK AK sK (State.installPiece tK x) := by
  refine Keeps.lift (B := 9240487) ?_ hA hK
  clear hK hA
  have hK : Keeps pK 9240487 tK tK := Keeps.refl ..
  unfold State.installPiece
  cases x <;> dsimp only
  case regs rs => exact { hK with
      regs := fun x => sparseSorted_insertAll rs (sparseSorted_filter _ (hK.regs x))
      frame := fun c => by cases c <;> first | exact Or.inl rfl | exact hK.frame _ }
  all_goals repeat' (first | assumption | rfl | (intro) | (with_reducible first | apply keeps_foldl | apply keeps_State_setPort | apply keeps_State_setFlag | apply keeps_State_learnFormats) | simp only [keeps_mk_iff, devSame_refl, devSame_mk, Nat.reduceAnd, eq_self, true_or, or_true])

theorem keeps_State_sendDirty {pK : Bool} {AK : Nat} {sK tK : State}  (hA : 8389155 &&& AK = 8389155)  (hK : Keeps pK AK sK tK) :
    Keeps pK AK sK (State.sendDirty tK) := by
  refine Keeps.lift (B := 8389155) ?_ hA hK
  clear hK hA
  have hK : Keeps pK 8389155 tK tK := Keeps.refl ..
  simp (maxDischargeDepth := 60) +contextual only [State.sendDirty, Nat.reduceAnd, eq_self, true_or, or_true, implies_true, devSame_refl, keeps_foldl, keeps_mk, keeps_State_sendLink, hK]

theorem keeps_State_startResync {pK : Bool} {AK : Nat} {sK tK : State}  (hA : 8389155 &&& AK = 8389155)  (hK : Keeps pK AK sK tK) :
    Keeps pK AK sK (State.startResync tK) := by
  refine Keeps.lift (B := 8389155) ?_ hA hK
  clear hK hA
  have hK : Keeps pK 8389155 tK tK := Keeps.refl ..
  simp (maxDischargeDepth := 60) +contextual only [State.startResync, Nat.reduceAnd, eq_self, true_or, or_true, devSame_refl, keeps_mk, keeps_State_partnerIs, keeps_State_raise, keeps_State_sendDirty, keeps_State_sendLink, keeps_State_set, hK]

theorem keeps_execHeartbeatRx {pK : Bool} {AK : Nat} {sK tK : State} (fr : LinkFrame) (hA : 8454691 &&& AK = 8454691)  (hK : Keeps pK AK sK tK) :
    KeepsR pK AK sK (execHeartbeatRx fr tK) := by
  refine KeepsR.lift (B := 8454691) ?_ hA hK
  clear hK hA
  have hK : Keeps pK 8454691 tK tK := Keeps.refl ..
  unfold execHeartbeatRx
  (try dsimp only); (repeat' split) <;> simp (maxDischargeDepth := 60) +contextual only [Nat.reduceAnd, eq_self, true_or, or_true, implies_true, devSame_refl, keeps_ite, keepsR_next, keeps_mk, keeps_State_onFrame, keeps_State_startResync, hK]

theorem keeps_execSnapshotRx {pK : Bool} {AK : Nat} {sK tK : State} (fr : LinkFrame) (hA : 9306023 &&& AK = 9306023)  (hK : Keeps pK AK sK tK) :
    KeepsR pK AK sK (execSnapshotRx fr tK) := by
  refine KeepsR.lift (B := 9306023) ?_ hA hK
  clear hK hA
  have hK : Keeps pK 9306023 tK tK := Keeps.refl ..
  unfold execSnapshotRx
  (try dsimp only); (repeat' split) <;> simp (maxDischargeDepth := 60) +contextual only [Nat.reduceAnd, eq_self, implies_true, keeps_ite, keepsR_next, keeps_State_installPiece, keeps_State_learnFormats, keeps_State_onFrame, keeps_State_sendLink, hK]

theorem keeps_State_joinerIn {pK : Bool} {AK : Nat} {sK tK : State}  (hA : 8393251 &&& AK = 8393251)  (hK : Keeps pK AK sK tK) :
    Keeps pK AK sK (State.joinerIn tK) := by
  refine Keeps.lift (B := 8393251) ?_ hA hK
  clear hK hA
  have hK : Keeps pK 8393251 tK tK := Keeps.refl ..
  simp (maxDischargeDepth := 60) +contextual only [State.joinerIn, Nat.reduceAnd, eq_self, true_or, or_true, devSame_refl, keeps_ite, keeps_mk, keeps_State_number, keeps_State_partnerIs, keeps_State_raise, keeps_State_set, keeps_State_setRole, hK]

theorem keeps_execResyncFrameRx {pK : Bool} {AK : Nat} {sK tK : State} (fr : LinkFrame) (hA : 8458787 &&& AK = 8458787)  (hK : Keeps pK AK sK tK) :
    KeepsR pK AK sK (execResyncFrameRx fr tK) := by
  refine KeepsR.lift (B := 8458787) ?_ hA hK
  clear hK hA
  have hK : Keeps pK 8458787 tK tK := Keeps.refl ..
  unfold execResyncFrameRx
  (try dsimp only); (repeat' split) <;> simp (maxDischargeDepth := 60) +contextual only [Nat.reduceAnd, eq_self, true_or, or_true, implies_true, devSame_refl, keeps_ite, keepsR_next, keeps_mk, keeps_State_joinerIn, keeps_State_onFrame, keeps_State_partnerIs, keeps_State_raise, keeps_State_set, hK]

theorem keeps_execResyncPassDone {pK : Bool} {AK : Nat} {sK tK : State} (dirtyBytes : Nat) (hA : 8389155 &&& AK = 8389155)  (hK : Keeps pK AK sK tK) :
    KeepsR pK AK sK (execResyncPassDone dirtyBytes tK) := by
  refine KeepsR.lift (B := 8389155) ?_ hA hK
  clear hK hA
  have hK : Keeps pK 8389155 tK tK := Keeps.refl ..
  simp (maxDischargeDepth := 60) +contextual only [execResyncPassDone, Nat.reduceAnd, eq_self, true_or, or_true, devSame_refl, keeps_ite, keepsR_next, keeps_mk, keeps_State_sendDirty, keeps_State_sendLink, keeps_State_set, hK]

theorem keeps_execResyncCut {pK : Bool} {AK : Nat} {sK tK : State}  (hA : 8389155 &&& AK = 8389155)  (hK : Keeps pK AK sK tK) :
    KeepsR pK AK sK (execResyncCut tK) := by
  refine KeepsR.lift (B := 8389155) ?_ hA hK
  clear hK hA
  have hK : Keeps pK 8389155 tK tK := Keeps.refl ..
  simp (maxDischargeDepth := 60) +contextual only [execResyncCut, Nat.reduceAnd, eq_self, keeps_ite, keepsR_next, keeps_State_number, hK]

theorem keeps_State_joinStore {pK : Bool} {AK : Nat} {sK tK : State}  (hA : 8388711 &&& AK = 8388711)  (hK : Keeps pK AK sK tK) :
    Keeps pK AK sK (State.joinStore tK) := by
  refine Keeps.lift (B := 8388711) ?_ hA hK
  clear hK hA
  have hK : Keeps pK 8388711 tK tK := Keeps.refl ..
  unfold State.joinStore
  (try dsimp only); (repeat' split) <;> simp (maxDischargeDepth := 60) +contextual only [Nat.reduceAnd, eq_self, keeps_State_commit, hK]

theorem keeps_execJoinerInStep {pK : Bool} {AK : Nat} {sK tK : State}  (hA : 32581223 &&& AK = 32581223)  (hK : Keeps pK AK sK tK) :
    KeepsR pK AK sK (execJoinerInStep tK) := by
  refine KeepsR.lift (B := 32581223) ?_ hA hK
  clear hK hA
  have hK : Keeps pK 32581223 tK tK := Keeps.refl ..
  simp (maxDischargeDepth := 60) +contextual only [execJoinerInStep, Nat.reduceAnd, eq_self, true_or, or_true, implies_true, devSame_refl, keeps_ite, keeps_foldl, keepsR_next, keeps_mk, keeps_State_joinStore, keeps_State_observe, keeps_State_partnerIs, keeps_State_raise, keeps_State_registerKeys, keeps_State_sendLink, keeps_State_set, keeps_State_setRole, hK]

theorem keeps_State_diverged {pK : Bool} {AK : Nat} {sK tK : State}  (hA : 32585635 &&& AK = 32585635)  (hK : Keeps pK AK sK tK) :
    Keeps pK AK sK (State.diverged tK) := by
  refine Keeps.lift (B := 32585635) ?_ hA hK
  clear hK hA
  have hK : Keeps pK 32585635 tK tK := Keeps.refl ..
  simp (maxDischargeDepth := 60) +contextual only [State.diverged, Nat.reduceAnd, eq_self, true_or, or_true, devSame_refl, keeps_ite, keeps_mk, keeps_State_bump, keeps_State_detach, keeps_State_join, keeps_State_partnerIs, keeps_State_raise, keeps_State_serveAlone, hK]

theorem keeps_State_compareDigests {pK : Bool} {AK : Nat} {sK tK : State}  (hA : 32585635 &&& AK = 32585635)  (hK : Keeps pK AK sK tK) :
    Keeps pK AK sK (State.compareDigests tK) := by
  refine Keeps.lift (B := 32585635) ?_ hA hK
  clear hK hA
  have hK : Keeps pK 32585635 tK tK := Keeps.refl ..
  unfold State.compareDigests
  (try dsimp only); (repeat' split) <;> simp (maxDischargeDepth := 60) +contextual only [Nat.reduceAnd, eq_self, true_or, or_true, devSame_refl, keeps_mk, keeps_State_diverged, hK]

theorem keeps_execDigestRx {pK : Bool} {AK : Nat} {sK tK : State} (fr : LinkFrame) (hA : 32585635 &&& AK = 32585635)  (hK : Keeps pK AK sK tK) :
    KeepsR pK AK sK (execDigestRx fr tK) := by
  refine KeepsR.lift (B := 32585635) ?_ hA hK
  clear hK hA
  have hK : Keeps pK 32585635 tK tK := Keeps.refl ..
  unfold execDigestRx
  (try dsimp only); (repeat' split) <;> simp (maxDischargeDepth := 60) +contextual only [Nat.reduceAnd, eq_self, true_or, or_true, implies_true, devSame_refl, keeps_ite, keepsR_next, keeps_mk, keeps_State_compareDigests, keeps_State_onFrame, hK]

theorem keeps_State_digestSend {pK : Bool} {AK : Nat} {sK tK : State}  (hA : 32585635 &&& AK = 32585635)  (hK : Keeps pK AK sK tK) :
    Keeps pK AK sK (State.digestSend tK) := by
  refine Keeps.lift (B := 32585635) ?_ hA hK
  clear hK hA
  have hK : Keeps pK 32585635 tK tK := Keeps.refl ..
  simp (maxDischargeDepth := 60) +contextual only [State.digestSend, Nat.reduceAnd, eq_self, true_or, or_true, devSame_refl, keeps_ite, keeps_mk, keeps_State_compareDigests, keeps_State_sendLink, keeps_State_set, hK]

theorem keeps_State_askHandover {pK : Bool} {AK : Nat} {sK tK : State}  (hA : 8389155 &&& AK = 8389155)  (hK : Keeps pK AK sK tK) :
    Keeps pK AK sK (State.askHandover tK) := by
  refine Keeps.lift (B := 8389155) ?_ hA hK
  clear hK hA
  have hK : Keeps pK 8389155 tK tK := Keeps.refl ..
  simp (maxDischargeDepth := 60) +contextual only [State.askHandover, Nat.reduceAnd, eq_self, true_or, or_true, devSame_refl, keeps_ite, keeps_mk, keeps_State_number, hK]

theorem keeps_execWswHandover {pK : Bool} {AK : Nat} {sK tK : State} (src : Src) (hA : 8389219 &&& AK = 8389219)  (hK : Keeps pK AK sK tK) :
    KeepsR pK AK sK (execWswHandover src tK) := by
  refine KeepsR.lift (B := 8389219) ?_ hA hK
  clear hK hA
  have hK : Keeps pK 8389219 tK tK := Keeps.refl ..
  simp (maxDischargeDepth := 60) +contextual only [execWswHandover, Nat.reduceAnd, eq_self, implies_true, keepsR_next, keeps_State_askHandover, keeps_State_busWrite, hK]

theorem keeps_execWswDetach {pK : Bool} {AK : Nat} {sK tK : State} (src : Src) (hA : 8389219 &&& AK = 8389219)  (hK : Keeps pK AK sK tK) :
    KeepsR pK AK sK (execWswDetach src tK) := by
  refine KeepsR.lift (B := 8389219) ?_ hA hK
  clear hK hA
  have hK : Keeps pK 8389219 tK tK := Keeps.refl ..
  simp (maxDischargeDepth := 60) +contextual only [execWswDetach, Nat.reduceAnd, eq_self, implies_true, keeps_ite, keepsR_next, keeps_State_busWrite, keeps_State_detach, hK]

theorem keeps_execWswResync {pK : Bool} {AK : Nat} {sK tK : State} (src : Src) (hA : 8389219 &&& AK = 8389219)  (hK : Keeps pK AK sK tK) :
    KeepsR pK AK sK (execWswResync src tK) := by
  refine KeepsR.lift (B := 8389219) ?_ hA hK
  clear hK hA
  have hK : Keeps pK 8389219 tK tK := Keeps.refl ..
  simp (maxDischargeDepth := 60) +contextual only [execWswResync, Nat.reduceAnd, eq_self, implies_true, keeps_ite, keepsR_next, keeps_State_busWrite, keeps_State_join, hK]

/-! ## Machine/MemRows.lean -/

theorem keeps_State_setLog {pK : Bool} {AK : Nat} {sK tK : State} (l : List EccRec) (hA : 1048577 &&& AK = 1048577)  (hK : Keeps pK AK sK tK) :
    Keeps pK AK sK (State.setLog tK l) := by
  refine Keeps.lift (B := 1048577) ?_ hA hK
  clear hK hA
  have hK : Keeps pK 1048577 tK tK := Keeps.refl ..
  simp (maxDischargeDepth := 60) +contextual only [State.setLog, Nat.reduceAnd, eq_self, true_or, or_true, devSame_refl, keeps_mk, keeps_State_set, hK]

theorem keeps_State_pushLog {pK : Bool} {AK : Nat} {sK tK : State} (r : EccRec) (hA : 9437219 &&& AK = 9437219)  (hK : Keeps pK AK sK tK) :
    Keeps pK AK sK (State.pushLog tK r) := by
  refine Keeps.lift (B := 9437219) ?_ hA hK
  clear hK hA
  have hK : Keeps pK 9437219 tK tK := Keeps.refl ..
  simp (maxDischargeDepth := 60) +contextual only [State.pushLog, Nat.reduceAnd, eq_self, keeps_ite, keeps_State_raise, keeps_State_setLog, hK]

theorem keeps_State_logEcc {pK : Bool} {AK : Nat} {sK tK : State} (r : EccRec) (hA : 9437219 &&& AK = 9437219)  (hK : Keeps pK AK sK tK) :
    Keeps pK AK sK (State.logEcc tK r) := by
  refine Keeps.lift (B := 9437219) ?_ hA hK
  clear hK hA
  have hK : Keeps pK 9437219 tK tK := Keeps.refl ..
  unfold State.logEcc
  (try dsimp only); (repeat' split) <;> simp (maxDischargeDepth := 60) +contextual only [Nat.reduceAnd, eq_self, keeps_State_bump, keeps_State_pushLog, keeps_State_setFlag, keeps_State_setLog, hK]

theorem keeps_execMemLogRelease {pK : Bool} {AK : Nat} {sK tK : State} (src : Src) (n : Nat) (hA : 9437283 &&& AK = 9437283)  (hK : Keeps pK AK sK tK) :
    KeepsR pK AK sK (execMemLogRelease src n tK) := by
  refine KeepsR.lift (B := 9437283) ?_ hA hK
  clear hK hA
  have hK : Keeps pK 9437283 tK tK := Keeps.refl ..
  simp (maxDischargeDepth := 60) +contextual only [execMemLogRelease, Nat.reduceAnd, eq_self, implies_true, keepsR_next, keeps_State_busWrite, keeps_State_set, keeps_State_setLog, hK]

theorem keeps_State_noGoodCopy {pK : Bool} {AK : Nat} {sK tK : State} (a : Nat) (hA : 9023075 &&& AK = 9023075)  (hK : Keeps pK AK sK tK) :
    Keeps pK AK sK (State.noGoodCopy tK a) := by
  refine Keeps.lift (B := 9023075) ?_ hA hK
  clear hK hA
  have hK : Keeps pK 9023075 tK tK := Keeps.refl ..
  simp (maxDischargeDepth := 60) +contextual only [State.noGoodCopy, Nat.reduceAnd, eq_self, keeps_State_bridgeFault, keeps_State_fatal, keeps_State_raise, hK]

theorem keeps_State_poisonStaging {pK : Bool} {AK : Nat} {sK tK : State} (blocks : List (Nat × Nat × Nat)) (hA : 8396835 &&& AK = 8396835)  (hK : Keeps pK AK sK tK) :
    Keeps pK AK sK (State.poisonStaging tK blocks) := by
  refine Keeps.lift (B := 8396835) ?_ hA hK
  clear hK hA
  have hK : Keeps pK 8396835 tK tK := Keeps.refl ..
  simp (maxDischargeDepth := 60) +contextual only [State.poisonStaging, Nat.reduceAnd, eq_self, true_or, or_true, devSame_refl, keeps_mk, keeps_State_raise, hK]

theorem keeps_State_stepPoison {pK : Bool} {AK : Nat} {sK tK : State} (a : Nat) (owner : MemUse) (hA : 33144803 &&& AK = 33144803)  (hK : Keeps pK AK sK tK) :
    Keeps pK AK sK (State.stepPoison tK a owner) := by
  refine Keeps.lift (B := 33144803) ?_ hA hK
  clear hK hA
  have hK : Keeps pK 33144803 tK tK := Keeps.refl ..
  unfold State.stepPoison
  (try dsimp only); (repeat' split) <;> simp (maxDischargeDepth := 60) +contextual only [Nat.reduceAnd, eq_self, true_or, or_true, devSame_refl, keeps_mk, keeps_State_diverged, keeps_ite, keeps_State_emit, keeps_State_noGoodCopy, keeps_State_poisonStaging, hK]

theorem keeps_State_poisonMet {pK : Bool} {AK : Nat} {sK tK : State}  (hA : 8388643 &&& AK = 8388643)  (hK : Keeps pK AK sK tK) :
    Keeps pK AK sK (State.poisonMet tK) := by
  refine Keeps.lift (B := 8388643) ?_ hA hK
  clear hK hA
  have hK : Keeps pK 8388643 tK tK := Keeps.refl ..
  simp (maxDischargeDepth := 60) +contextual only [State.poisonMet, Nat.reduceAnd, eq_self, keeps_State_bump, keeps_State_raiseLimited, hK]

theorem keeps_execRepairGranuleRx {pK : Bool} {AK : Nat} {sK tK : State} (granule : Nat) (bytes : List Byte) (poisoned : Bool) (hA : 16363107 &&& AK = 16363107)  (hK : Keeps pK AK sK tK) :
    KeepsR pK AK sK (execRepairGranuleRx granule bytes poisoned tK) := by
  refine KeepsR.lift (B := 16363107) ?_ hA hK
  clear hK hA
  have hK : Keeps pK 16363107 tK tK := Keeps.refl ..
  simp (maxDischargeDepth := 60) +contextual only [execRepairGranuleRx, Nat.reduceAnd, eq_self, true_or, or_true, devSame_refl, keeps_ite, keepsR_next, keeps_mk, keeps_State_bump, keeps_State_noGoodCopy, keeps_State_raise, keeps_State_store, hK]

theorem keeps_State_sendRepair {pK : Bool} {AK : Nat} {sK tK : State} (granule : Nat) (hA : 8388608 &&& AK = 8388608)  (hK : Keeps pK AK sK tK) :
    Keeps pK AK sK (State.sendRepair tK granule) := by
  refine Keeps.lift (B := 8388608) ?_ hA hK
  clear hK hA
  have hK : Keeps pK 8388608 tK tK := Keeps.refl ..
  simp (maxDischargeDepth := 60) +contextual only [State.sendRepair, Nat.reduceAnd, eq_self, keeps_State_emit, hK]

theorem keeps_State_serveRepairs {pK : Bool} {AK : Nat} {sK tK : State}  (hA : 9437184 &&& AK = 9437184)  (hK : Keeps pK AK sK tK) :
    Keeps pK AK sK (State.serveRepairs tK) := by
  refine Keeps.lift (B := 9437184) ?_ hA hK
  clear hK hA
  have hK : Keeps pK 9437184 tK tK := Keeps.refl ..
  simp (maxDischargeDepth := 60) +contextual only [State.serveRepairs, Nat.reduceAnd, eq_self, true_or, or_true, implies_true, devSame_refl, keeps_foldl, keeps_mk, keeps_State_sendRepair, hK]

theorem keeps_execRepairRequestRx {pK : Bool} {AK : Nat} {sK tK : State} (granule : Nat) (step : Nat) (hA : 9437184 &&& AK = 9437184)  (hK : Keeps pK AK sK tK) :
    KeepsR pK AK sK (execRepairRequestRx granule step tK) := by
  refine KeepsR.lift (B := 9437184) ?_ hA hK
  clear hK hA
  have hK : Keeps pK 9437184 tK tK := Keeps.refl ..
  simp (maxDischargeDepth := 60) +contextual only [execRepairRequestRx, Nat.reduceAnd, eq_self, true_or, or_true, devSame_refl, keeps_ite, keepsR_next, keeps_mk, keeps_State_serveRepairs, hK]

theorem keeps_State_cruiseOn {pK : Bool} {AK : Nat} {sK tK : State} (sram : Bool) (a : Nat) (hA : 8388643 &&& AK = 8388643)  (hK : Keeps pK AK sK tK) :
    Keeps pK AK sK (State.cruiseOn tK sram a) := by
  refine Keeps.lift (B := 8388643) ?_ hA hK
  clear hK hA
  have hK : Keeps pK 8388643 tK tK := Keeps.refl ..
  unfold State.cruiseOn
  (try dsimp only); (repeat' split) <;> simp (maxDischargeDepth := 60) +contextual only [Nat.reduceAnd, eq_self, keeps_State_raise, keeps_State_set, hK]

theorem keeps_State_pageWeak {pK : Bool} {AK : Nat} {sK tK : State} (a : Nat) (hA : 9437219 &&& AK = 9437219)  (hK : Keeps pK AK sK tK) :
    Keeps pK AK sK (State.pageWeak tK a) := by
  refine Keeps.lift (B := 9437219) ?_ hA hK
  clear hK hA
  have hK : Keeps pK 9437219 tK tK := Keeps.refl ..
  simp (maxDischargeDepth := 60) +contextual only [State.pageWeak, Nat.reduceAnd, eq_self, true_or, or_true, devSame_refl, keeps_ite, keeps_mk, keeps_State_raise, hK]

theorem keeps_State_finding {pK : Bool} {AK : Nat} {sK tK : State} (a : Nat) (f : EccFinding) (owner : MemUse) (hA : 33144803 &&& AK = 33144803)  (hK : Keeps pK AK sK tK) :
    Keeps pK AK sK (State.finding tK a f owner) := by
  refine Keeps.lift (B := 33144803) ?_ hA hK
  clear hK hA
  have hK : Keeps pK 33144803 tK tK := Keeps.refl ..
  unfold State.finding
  (try dsimp only); (repeat' split) <;> simp (maxDischargeDepth := 60) +contextual only [Nat.reduceAnd, eq_self, true_or, or_true, devSame_refl, keeps_mk, keeps_State_bump, keeps_State_logEcc, keeps_State_pageWeak, keeps_State_raise, keeps_State_raiseLimited, keeps_State_setPoison, keeps_State_stepPoison, hK]

theorem keeps_execCruiserRead {pK : Bool} {AK : Nat} {sK tK : State} (sram : Bool) (found : EccFinding) (owner : MemUse) (hA : 33144803 &&& AK = 33144803)  (hK : Keeps pK AK sK tK) :
    KeepsR pK AK sK (execCruiserRead sram found owner tK) := by
  refine KeepsR.lift (B := 33144803) ?_ hA hK
  clear hK hA
  have hK : Keeps pK 33144803 tK tK := Keeps.refl ..
  simp (maxDischargeDepth := 60) +contextual only [execCruiserRead, Nat.reduceAnd, eq_self, keeps_ite, keepsR_next, keeps_State_cruiseOn, keeps_State_drawn, keeps_State_finding, hK]

theorem keeps_execMemRetire {pK : Bool} {AK : Nat} {sK tK : State} (src : Src) (kind : Nat) (index : Nat) (hA : 9437283 &&& AK = 9437283)  (hK : Keeps pK AK sK tK) :
    KeepsR pK AK sK (execMemRetire src kind index tK) := by
  refine KeepsR.lift (B := 9437283) ?_ hA hK
  clear hK hA
  have hK : Keeps pK 9437283 tK tK := Keeps.refl ..
  unfold execMemRetire
  (try dsimp only)
  repeat' (first | assumption | rfl | (intro) | (with_reducible first | apply keepsR_next | apply keeps_foldl | apply keepsP_foldl | apply keeps_ite | apply keeps_cond | apply keepsR_ite | apply keepsP_ite | apply keepsO_pair | apply keepsO_none | apply keepsO_ite | apply keepsV_mk | apply keepsV_ite | apply keepsP_mk | apply keeps_State_busWrite | apply keeps_State_raise | apply keeps_State_set | apply keeps_State_setFlag) | simp only [keeps_mk_iff, devSame_refl, Nat.reduceAnd, eq_self, true_or, or_true] | (refine KeepsP.of_eq (by assumption) ?_) | (refine KeepsO.of_eq (by assumption) ?_) | (refine KeepsV.of_eq (by assumption) ?_) | split)

theorem keeps_State_copyWord {pK : Bool} {AK : Nat} {sK tK : State} (m : Nat × Nat) (hA : 30408739 &&& AK = 30408739)  (hK : Keeps pK AK sK tK) :
    Keeps pK AK sK (State.copyWord tK m) := by
  refine Keeps.lift (B := 30408739) ?_ hA hK
  clear hK hA
  have hK : Keeps pK 30408739 tK tK := Keeps.refl ..
  simp (maxDischargeDepth := 60) +contextual only [State.copyWord, Nat.reduceAnd, eq_self, true_or, or_true, implies_true, devSame_refl, keeps_ite, keeps_mk, keeps_foldl, keeps_State_drawn, keeps_State_bump, keeps_State_logEcc, keeps_State_raise, keeps_State_raiseLimited, keeps_State_setPoison, hK]

theorem keeps_State_copied {pK : Bool} {AK : Nat} {sK tK : State} (e : RetEntry) (hA : 30408739 &&& AK = 30408739)  (hK : Keeps pK AK sK tK) :
    Keeps pK AK sK (State.copied tK e) := by
  refine Keeps.lift (B := 30408739) ?_ hA hK
  clear hK hA
  have hK : Keeps pK 30408739 tK tK := Keeps.refl ..
  simp (maxDischargeDepth := 60) +contextual only [State.copied, Nat.reduceAnd, eq_self, true_or, or_true, implies_true, devSame_refl, keeps_ite, keeps_mk, keeps_foldl, keeps_State_copyWord, hK]

theorem keeps_execRetireComplete {pK : Bool} {AK : Nat} {sK tK : State}  (hA : 30408807 &&& AK = 30408807)  (hK : Keeps pK AK sK tK) :
    KeepsR pK AK sK (execRetireComplete tK) := by
  refine KeepsR.lift (B := 30408807) ?_ hA hK
  clear hK hA
  have hK : Keeps pK 30408807 tK tK := Keeps.refl ..
  unfold execRetireComplete
  (try dsimp only); (repeat' split) <;> simp (maxDischargeDepth := 60) +contextual only [Nat.reduceAnd, eq_self, true_or, or_true, devSame_refl, keepsR_next, keeps_mk, keeps_State_commit, keeps_State_copied, keeps_State_raise, keeps_State_set, keeps_State_setFlag, hK]

theorem keeps_execMemInject {pK : Bool} {AK : Nat} {sK tK : State} (src : Src) (kind : Nat) (yard : Bool) (addr : Nat) (hA : 9437283 &&& AK = 9437283)  (hK : Keeps pK AK sK tK) :
    KeepsR pK AK sK (execMemInject src kind yard addr tK) := by
  refine KeepsR.lift (B := 9437283) ?_ hA hK
  clear hK hA
  have hK : Keeps pK 9437283 tK tK := Keeps.refl ..
  simp (maxDischargeDepth := 60) +contextual only [execMemInject, Nat.reduceAnd, eq_self, true_or, or_true, implies_true, devSame_refl, keepsR_next, keeps_mk, keeps_State_busWrite, hK]

/-! ## Machine/Dma.lean -/

theorem keeps_State_setChan {pK : Bool} {AK : Nat} {sK tK : State} (engine : Nat) (chan : Nat) (c : Chan) (hA : 33 &&& AK = 33)  (hK : Keeps pK AK sK tK) :
    Keeps pK AK sK (State.setChan tK engine chan c) := by
  refine Keeps.lift (B := 33) ?_ hA hK
  clear hK hA
  have hK : Keeps pK 33 tK tK := Keeps.refl ..
  simp (maxDischargeDepth := 60) +contextual only [State.setChan, Nat.reduceAnd, eq_self, true_or, or_true, devSame_refl, keeps_mk, keeps_State_set, hK]

theorem keeps_State_dmaEnd {pK : Bool} {AK : Nat} {sK tK : State} (engine : Nat) (chan : Nat) (status : Nat) (hA : 25165859 &&& AK = 25165859)  (hK : Keeps pK AK sK tK) :
    Keeps pK AK sK (State.dmaEnd tK engine chan status) := by
  refine Keeps.lift (B := 25165859) ?_ hA hK
  clear hK hA
  have hK : Keeps pK 25165859 tK tK := Keeps.refl ..
  unfold State.dmaEnd
  (try dsimp only); (repeat' split) <;> simp (maxDischargeDepth := 60) +contextual only [Nat.reduceAnd, eq_self, true_or, or_true, devSame_refl, keeps_cond, KeepsP.fst, keeps_mk, keeps_State_drawn, keeps_State_push, keeps_State_raise, keeps_State_set, hK]

theorem keeps_State_dmaCopy {pK : Bool} {AK : Nat} {sK tK : State} (src : Nat) (dst : Nat) (n : Nat) (hA : 32505891 &&& AK = 32505891)  (hK : Keeps pK AK sK tK) :
    Keeps pK AK sK (State.dmaCopy tK src dst n) := by
  refine Keeps.lift (B := 32505891) ?_ hA hK
  clear hK hA
  have hK : Keeps pK 32505891 tK tK := Keeps.refl ..
  simp (maxDischargeDepth := 60) +contextual only [State.dmaCopy, Nat.reduceAnd, eq_self, implies_true, keeps_ite, keeps_foldl, keeps_freeAdd, keeps_State_poisonMet, keeps_State_setPoison, keeps_State_store, hK]

theorem keeps_State_dmaSpan {pK : Bool} {AK : Nat} {sK tK : State} (engine : Nat) (chan : Nat) (c : Chan) (x : SpanXl) (hA : 32505891 &&& AK = 32505891)  (hK : Keeps pK AK sK tK) :
    KeepsP pK AK sK (State.dmaSpan tK engine chan c x) := by
  refine KeepsP.lift (B := 32505891) ?_ hA hK
  clear hK hA
  have hK : Keeps pK 32505891 tK tK := Keeps.refl ..
  unfold State.dmaSpan
  (try dsimp only); (repeat' split) <;> simp (maxDischargeDepth := 60) +contextual only [Nat.reduceAnd, eq_self, keepsP_mk, keeps_State_bump, keeps_State_dmaCopy, keeps_State_dmaEnd, keeps_State_raise, keeps_State_set, keeps_State_setChan, hK]

theorem keeps_State_dmaRun_core {pK : Bool} {sK tK : State} (engine chan : Nat) (last : Bool) (l : List SpanXl) (c : Chan) (hK : Keeps pK 32505891 sK tK) :
    Keeps pK 32505891 sK (State.dmaRun engine chan last l c tK) := by
  induction l generalizing tK c with
  | nil => exact hK
  | cons x l ih =>
    unfold State.dmaRun
    try dsimp only
    repeat' (first | assumption | rfl | (intro) | (with_reducible first | apply ih | apply keeps_State_dmaEnd | apply keeps_ite | refine KeepsP.fst (keeps_State_dmaSpan _ _ _ _ ?_ ?_) | apply keeps_foldl) | simp only [keeps_mk_iff, devSame_refl, devSame_mk, Nat.reduceAnd, eq_self, true_or, or_true] | (refine KeepsP.of_eq (by assumption) ?_) | (refine KeepsO.of_eq (by assumption) ?_) | split)

theorem keeps_State_dmaRun {pK : Bool} {AK : Nat} {sK tK : State} (engine chan : Nat) (last : Bool) (l : List SpanXl) (c : Chan) (hA : 32505891 &&& AK = 32505891) (hK : Keeps pK AK sK tK) :
    Keeps pK AK sK (State.dmaRun engine chan last l c tK) :=
  Keeps.lift (keeps_State_dmaRun_core engine chan last l c (Keeps.refl ..)) hA hK

theorem keeps_execDmaStart {pK : Bool} {AK : Nat} {sK tK : State} (src : Src) (engine : Nat) (chan : Nat) (mode : Mode) (addr : Nat) (spans : List SpanXl) (hA : 32505955 &&& AK = 32505955)  (hK : Keeps pK AK sK tK) :
    KeepsR pK AK sK (execDmaStart src engine chan mode addr spans tK) := by
  refine KeepsR.lift (B := 32505955) ?_ hA hK
  clear hK hA
  have hK : Keeps pK 32505955 tK tK := Keeps.refl ..
  unfold execDmaStart
  (try dsimp only)
  repeat' (first | assumption | rfl | (intro) | (with_reducible first | apply keepsR_next | apply keeps_foldl | apply keepsP_foldl | apply keeps_ite | apply keeps_cond | apply keepsR_ite | apply keepsP_ite | apply keepsO_pair | apply keepsO_none | apply keepsO_ite | apply keepsV_mk | apply keepsV_ite | apply keepsP_mk | apply keeps_State_bump | apply keeps_State_busWrite | apply keeps_State_dmaEnd | apply keeps_State_dmaRun | apply keeps_State_set | apply keeps_State_setChan) | simp only [keeps_mk_iff, devSame_refl, devSame_mk, Nat.reduceAnd, eq_self, true_or, or_true, implies_true] | (refine KeepsP.of_eq (by assumption) ?_) | (refine KeepsO.of_eq (by assumption) ?_) | (refine KeepsV.of_eq (by assumption) ?_) | split)

theorem keeps_execDmaResume {pK : Bool} {AK : Nat} {sK tK : State} (src : Src) (engine : Nat) (chan : Nat) (spans : List SpanXl) (hA : 32505955 &&& AK = 32505955)  (hK : Keeps pK AK sK tK) :
    KeepsR pK AK sK (execDmaResume src engine chan spans tK) := by
  refine KeepsR.lift (B := 32505955) ?_ hA hK
  clear hK hA
  have hK : Keeps pK 32505955 tK tK := Keeps.refl ..
  unfold execDmaResume
  (try dsimp only)
  repeat' (first | assumption | rfl | (intro) | (with_reducible first | apply keepsR_next | apply keeps_foldl | apply keepsP_foldl | apply keeps_ite | apply keeps_cond | apply keepsR_ite | apply keepsP_ite | apply keepsO_pair | apply keepsO_none | apply keepsO_ite | apply keepsV_mk | apply keepsV_ite | apply keepsP_mk | apply keeps_State_busWrite | apply keeps_State_dmaRun | apply keeps_State_set) | simp only [keeps_mk_iff, devSame_refl, devSame_mk, Nat.reduceAnd, eq_self, true_or, or_true, implies_true] | (refine KeepsP.of_eq (by assumption) ?_) | (refine KeepsO.of_eq (by assumption) ?_) | (refine KeepsV.of_eq (by assumption) ?_) | split)

theorem keeps_execDmaAbort {pK : Bool} {AK : Nat} {sK tK : State} (src : Src) (engine : Nat) (chan : Nat) (hA : 25165923 &&& AK = 25165923)  (hK : Keeps pK AK sK tK) :
    KeepsR pK AK sK (execDmaAbort src engine chan tK) := by
  refine KeepsR.lift (B := 25165923) ?_ hA hK
  clear hK hA
  have hK : Keeps pK 25165923 tK tK := Keeps.refl ..
  simp (maxDischargeDepth := 60) +contextual only [execDmaAbort, Nat.reduceAnd, eq_self, implies_true, keeps_ite, keepsR_next, keeps_State_busWrite, keeps_State_dmaEnd, hK]

theorem keeps_execDmaComplete {pK : Bool} {AK : Nat} {sK tK : State} (engine : Nat) (chan : Nat) (spans : List SpanXl) (hA : 32505891 &&& AK = 32505891)  (hK : Keeps pK AK sK tK) :
    KeepsR pK AK sK (execDmaComplete engine chan spans tK) := by
  refine KeepsR.lift (B := 32505891) ?_ hA hK
  clear hK hA
  have hK : Keeps pK 32505891 tK tK := Keeps.refl ..
  unfold execDmaComplete
  (try dsimp only)
  repeat' (first | assumption | rfl | (intro) | (with_reducible first | apply keepsR_next | apply keeps_foldl | apply keepsP_foldl | apply keeps_ite | apply keeps_cond | apply keepsR_ite | apply keepsP_ite | apply keepsO_pair | apply keepsO_none | apply keepsO_ite | apply keepsV_mk | apply keepsV_ite | apply keepsP_mk | apply keeps_State_dmaRun) | simp only [keeps_mk_iff, devSame_refl, devSame_mk, Nat.reduceAnd, eq_self, true_or, or_true, implies_true] | (refine KeepsP.of_eq (by assumption) ?_) | (refine KeepsO.of_eq (by assumption) ?_) | (refine KeepsV.of_eq (by assumption) ?_) | split)

theorem keeps_State_endChannels {pK : Bool} {AK : Nat} {sK tK : State} (clusters : List Nat) (hA : 25165859 &&& AK = 25165859)  (hK : Keeps pK AK sK tK) :
    Keeps pK AK sK (State.endChannels tK clusters) := by
  refine Keeps.lift (B := 25165859) ?_ hA hK
  clear hK hA
  have hK : Keeps pK 25165859 tK tK := Keeps.refl ..
  simp (maxDischargeDepth := 60) +contextual only [State.endChannels, Nat.reduceAnd, eq_self, implies_true, keeps_foldl, keeps_State_dmaEnd, hK]

end Sys2Proof.Machine
end

