-- ==== Sys2Proof/Laws/KeepsNvme.lean ====
section
/-!
SUPPORT. Laws/KeepsNvme.lean: what each operation of power, work queues and the NVMe service keeps (Laws/Keeps.lean): one lemma for each.
-/
set_option maxRecDepth 4000
set_option linter.all false

namespace Sys2Proof.Machine

/-! ## Machine/Power.lean -/

theorem keeps_State_recognised {pK : Bool} {AK : Nat} {sK tK : State} (w : StepWrite) (effect : State → State) (hA : 8389155 &&& AK = 8389155) (hF_effect : ∀ (t : State) , Keeps pK AK sK t → Keeps pK AK sK (effect t)) (hK : Keeps pK AK sK tK) :
    Keeps pK AK sK (State.recognised tK w effect) := by
  have g0 : 1 &&& AK = 1 := sub_trans (by decide) hA
  have c0 : AK &&& 1 = 1 := by rw [Nat.and_comm]; exact g0
  have g1 : 2 &&& AK = 2 := sub_trans (by decide) hA
  have c1 : AK &&& 2 = 2 := by rw [Nat.and_comm]; exact g1
  have g2 : 32 &&& AK = 32 := sub_trans (by decide) hA
  have c2 : AK &&& 32 = 32 := by rw [Nat.and_comm]; exact g2
  have g3 : 512 &&& AK = 512 := sub_trans (by decide) hA
  have c3 : AK &&& 512 = 512 := by rw [Nat.and_comm]; exact g3
  have g4 : 8388608 &&& AK = 8388608 := sub_trans (by decide) hA
  have c4 : AK &&& 8388608 = 8388608 := by rw [Nat.and_comm]; exact g4
  have g5 : 8389155 &&& AK = 8389155 := sub_trans (by decide) hA
  have c5 : AK &&& 8389155 = 8389155 := by rw [Nat.and_comm]; exact g5
  simp (maxDischargeDepth := 60) +contextual only [State.recognised, eq_self, implies_true, keeps_ite, keeps_State_stepWrite, hK, hF_effect, g5]

theorem keeps_State_showThrough {pK : Bool} {AK : Nat} {sK tK : State}  (hA : 25245603 &&& AK = 25245603)  (hK : Keeps pK AK sK tK) :
    Keeps pK AK sK (State.showThrough tK) := by
  refine Keeps.lift (B := 25245603) ?_ hA hK
  clear hK hA
  have hK : Keeps pK 25245603 tK tK := Keeps.refl ..
  simp (maxDischargeDepth := 60) +contextual only [State.showThrough, Nat.reduceAnd, eq_self, keeps_cond, keeps_State_ackWrites, keeps_State_dirtyLevel, keeps_State_raise, keeps_State_setFlag, hK]

theorem keeps_State_holdupStep {pK : Bool} {AK : Nat} {sK tK : State} (sideB : Bool) (ok : Bool) (hA : 25247651 &&& AK = 25247651)  (hK : Keeps pK AK sK tK) :
    Keeps pK AK sK (State.holdupStep tK sideB ok) := by
  refine Keeps.lift (B := 25247651) ?_ hA hK
  clear hK hA
  have hK : Keeps pK 25247651 tK tK := Keeps.refl ..
  simp (maxDischargeDepth := 60) +contextual only [State.holdupStep, Nat.reduceAnd, eq_self, true_or, or_true, devSame_refl, keeps_cond, keeps_mk, keeps_State_showThrough, hK]

theorem keeps_State_settlePower {pK : Bool} {AK : Nat} {sK tK : State}  (hA : 32613923 &&& AK = 32613923)  (hK : Keeps pK AK sK tK) :
    Keeps pK AK sK (State.settlePower tK) := by
  refine Keeps.lift (B := 32613923) ?_ hA hK
  clear hK hA
  have hK : Keeps pK 32613923 tK tK := Keeps.refl ..
  unfold State.settlePower
  (try dsimp only); (repeat' split) <;> simp (maxDischargeDepth := 60) +contextual only [Nat.reduceAnd, eq_self, keeps_State_retireDump, hK]

theorem keeps_State_pwrfailStep {pK : Bool} {AK : Nat} {sK tK : State} (sideB : Bool) (on : Bool) (hA : 32616035 &&& AK = 32616035)  (hK : Keeps pK AK sK tK) :
    Keeps pK AK sK (State.pwrfailStep tK sideB on) := by
  refine Keeps.lift (B := 32616035) ?_ hA hK
  clear hK hA
  have hK : Keeps pK 32616035 tK tK := Keeps.refl ..
  simp (maxDischargeDepth := 60) +contextual only [State.pwrfailStep, Nat.reduceAnd, eq_self, true_or, or_true, devSame_refl, keeps_ite, keeps_cond, keeps_mk, keeps_State_beginDump, keeps_State_ledger, keeps_State_settlePower, hK]

theorem keeps_execHoldupChange {pK : Bool} {AK : Nat} {sK tK : State} (ok : Bool) (hA : 25247651 &&& AK = 25247651)  (hK : Keeps pK AK sK tK) :
    KeepsR pK AK sK (execHoldupChange ok tK) := by
  refine KeepsR.lift (B := 25247651) ?_ hA hK
  clear hK hA
  have hK : Keeps pK 25247651 tK tK := Keeps.refl ..
  simp (maxDischargeDepth := 60) +contextual only [execHoldupChange, Nat.reduceAnd, eq_self, implies_true, keeps_ite, keepsR_next, keeps_State_holdupStep, keeps_State_recognised, keeps_State_setFlag, hK]

theorem keeps_execWatchdogExpiry {pK : Bool} {AK : Nat} {sK tK : State}  (hA : 9023075 &&& AK = 9023075)  (hK : Keeps pK AK sK tK) :
    KeepsR pK AK sK (execWatchdogExpiry tK) := by
  refine KeepsR.lift (B := 9023075) ?_ hA hK
  clear hK hA
  have hK : Keeps pK 9023075 tK tK := Keeps.refl ..
  unfold execWatchdogExpiry
  (try dsimp only); (repeat' split) <;> simp (maxDischargeDepth := 60) +contextual only [Nat.reduceAnd, eq_self, keepsR_next, keeps_State_cause, keeps_State_fatal, keeps_State_raise, keeps_State_reach, hK]

theorem keeps_execWdogKick {pK : Bool} {AK : Nat} {sK tK : State} (src : Src) (hA : 8390755 &&& AK = 8390755)  (hK : Keeps pK AK sK tK) :
    KeepsR pK AK sK (execWdogKick src tK) := by
  refine KeepsR.lift (B := 8390755) ?_ hA hK
  clear hK hA
  have hK : Keeps pK 8390755 tK tK := Keeps.refl ..
  simp (maxDischargeDepth := 60) +contextual only [execWdogKick, Nat.reduceAnd, eq_self, true_or, or_true, implies_true, devSame_refl, keeps_ite, keepsR_next, keeps_mk, keeps_State_busWrite, keeps_State_setFlag, hK]

theorem keeps_State_trialStart {pK : Bool} {AK : Nat} {sK tK : State}  (hA : 8912931 &&& AK = 8912931)  (hK : Keeps pK AK sK tK) :
    Keeps pK AK sK (State.trialStart tK) := by
  refine Keeps.lift (B := 8912931) ?_ hA hK
  clear hK hA
  have hK : Keeps pK 8912931 tK tK := Keeps.refl ..
  simp (maxDischargeDepth := 60) +contextual only [State.trialStart, Nat.reduceAnd, eq_self, true_or, or_true, devSame_refl, keeps_mk, keeps_State_raise, keeps_State_setFlag, hK]

theorem keeps_State_presenceAtReady {pK : Bool} {AK : Nat} {sK tK : State}  (hA : 8651299 &&& AK = 8651299)  (hK : Keeps pK AK sK tK) :
    Keeps pK AK sK (State.presenceAtReady tK) := by
  refine Keeps.lift (B := 8651299) ?_ hA hK
  clear hK hA
  have hK : Keeps pK 8651299 tK tK := Keeps.refl ..
  simp (maxDischargeDepth := 60) +contextual only [State.presenceAtReady, Nat.reduceAnd, eq_self, implies_true, keeps_ite, keeps_foldl, keeps_State_observed, keeps_State_slotSeen, hK]

theorem keeps_execBootReady {pK : Bool} {AK : Nat} {sK tK : State}  (hA : 33423331 &&& AK = 33423331)  (hK : Keeps pK AK sK tK) :
    KeepsR pK AK sK (execBootReady tK) := by
  refine KeepsR.lift (B := 33423331) ?_ hA hK
  clear hK hA
  have hK : Keeps pK 33423331 tK tK := Keeps.refl ..
  simp (maxDischargeDepth := 60) +contextual only [execBootReady, Nat.reduceAnd, eq_self, true_or, or_true, devSame_refl, keeps_ite, keepsR_next, keeps_mk, keeps_State_holdSlots, keeps_State_presenceAtReady, keeps_State_raise, keeps_State_set, keeps_State_setFlag, keeps_State_trialStart, hK]

theorem keeps_State_fallowBegin {pK : Bool} {AK : Nat} {sK tK : State}  (hA : 32616035 &&& AK = 32616035)  (hK : Keeps pK AK sK tK) :
    Keeps pK AK sK (State.fallowBegin tK) := by
  refine Keeps.lift (B := 32616035) ?_ hA hK
  clear hK hA
  have hK : Keeps pK 32616035 tK tK := Keeps.refl ..
  unfold State.fallowBegin
  (try dsimp only)
  repeat' (first | assumption | rfl | (intro) | (with_reducible first | apply keepsR_next | apply keeps_foldl | apply keepsP_foldl | apply keeps_ite | apply keeps_cond | apply keepsR_ite | apply keepsP_ite | apply keepsO_pair | apply keepsO_none | apply keepsO_ite | apply keepsV_mk | apply keepsV_ite | apply keepsP_mk | apply keeps_State_dumpHeaders | apply keeps_State_dumpRun) | simp only [keeps_mk_iff, devSame_refl, Nat.reduceAnd, eq_self, true_or, or_true] | (refine KeepsP.of_eq (by assumption) ?_) | (refine KeepsO.of_eq (by assumption) ?_) | (refine KeepsV.of_eq (by assumption) ?_) | split)

theorem keeps_State_cleanBrands {pK : Bool} {AK : Nat} {sK tK : State}  (hA : 32599587 &&& AK = 32599587)  (hK : Keeps pK AK sK tK) :
    Keeps pK AK sK (State.cleanBrands tK) := by
  refine Keeps.lift (B := 32599587) ?_ hA hK
  clear hK hA
  have hK : Keeps pK 32599587 tK tK := Keeps.refl ..
  unfold State.cleanBrands
  (try dsimp only)
  repeat' (first | assumption | rfl | (intro) | (with_reducible first | apply keepsR_next | apply keeps_foldl | apply keepsP_foldl | apply keeps_ite | apply keeps_cond | apply keepsR_ite | apply keepsP_ite | apply keepsO_pair | apply keepsO_none | apply keepsO_ite | apply keepsV_mk | apply keepsV_ite | apply keepsP_mk | apply keeps_State_setGrp | apply keeps_State_startBrand) | simp only [keeps_mk_iff, devSame_refl, Nat.reduceAnd, eq_self, true_or, or_true] | (refine KeepsP.of_eq (by assumption) ?_) | (refine KeepsO.of_eq (by assumption) ?_) | (refine KeepsV.of_eq (by assumption) ?_) | split)

theorem keeps_State_entryAdvance {pK : Bool} {AK : Nat} {sK tK : State}  (hA : 32632419 &&& AK = 32632419)  (hK : Keeps pK AK sK tK) :
    Keeps pK AK sK (State.entryAdvance tK) := by
  refine Keeps.lift (B := 32632419) ?_ hA hK
  clear hK hA
  have hK : Keeps pK 32632419 tK tK := Keeps.refl ..
  simp (maxDischargeDepth := 60) +contextual only [State.entryAdvance, Nat.reduceAnd, eq_self, true_or, or_true, devSame_refl, keeps_ite, keeps_mk, keeps_State_abortEntry, keeps_State_cleanBrands, keeps_State_fallowBegin, hK]

theorem keeps_State_enter {pK : Bool} {AK : Nat} {sK tK : State} (target : Nat) (hA : 32632419 &&& AK = 32632419)  (hK : Keeps pK AK sK tK) :
    KeepsP pK AK sK (State.enter tK target) := by
  refine KeepsP.lift (B := 32632419) ?_ hA hK
  clear hK hA
  have hK : Keeps pK 32632419 tK tK := Keeps.refl ..
  simp (maxDischargeDepth := 60) +contextual only [State.enter, Nat.reduceAnd, eq_self, true_or, or_true, devSame_refl, keepsP_mk, keepsP_ite, keeps_ite, keeps_State_drivesAwake, keeps_mk, keeps_State_entryAdvance, keeps_State_raise, keeps_State_set, hK]

theorem keeps_execPwrCtlEnter {pK : Bool} {AK : Nat} {sK tK : State} (src : Src) (target : Nat) (hA : 32632419 &&& AK = 32632419)  (hK : Keeps pK AK sK tK) :
    KeepsR pK AK sK (execPwrCtlEnter src target tK) := by
  refine KeepsR.lift (B := 32632419) ?_ hA hK
  clear hK hA
  have hK : Keeps pK 32632419 tK tK := Keeps.refl ..
  simp (maxDischargeDepth := 60) +contextual only [execPwrCtlEnter, Nat.reduceAnd, eq_self, implies_true, keeps_ite, keepsR_next, KeepsP.fst, keeps_State_busWrite, keeps_State_enter, keeps_State_stepWrite, hK]

theorem keeps_execIdlePowerEntry {pK : Bool} {AK : Nat} {sK tK : State}  (hA : 32632419 &&& AK = 32632419)  (hK : Keeps pK AK sK tK) :
    KeepsR pK AK sK (execIdlePowerEntry tK) := by
  refine KeepsR.lift (B := 32632419) ?_ hA hK
  clear hK hA
  have hK : Keeps pK 32632419 tK tK := Keeps.refl ..
  unfold execIdlePowerEntry
  (try dsimp only); (repeat' split) <;> simp (maxDischargeDepth := 60) +contextual only [Nat.reduceAnd, eq_self, implies_true, keepsR_next, KeepsP.fst, keeps_State_enter, keeps_State_recognised, hK]

theorem keeps_State_drivesLow {pK : Bool} {AK : Nat} {sK tK : State}  (hA : 1024 &&& AK = 1024)  (hK : Keeps pK AK sK tK) :
    Keeps pK AK sK (State.drivesLow tK) := by
  refine Keeps.lift (B := 1024) ?_ hA hK
  clear hK hA
  have hK : Keeps pK 1024 tK tK := Keeps.refl ..
  simp (maxDischargeDepth := 60) +contextual only [State.drivesLow, Nat.reduceAnd, eq_self, implies_true, keeps_ite, keeps_foldl, keeps_State_setPort, hK]

theorem keeps_execDrowseEntryDone {pK : Bool} {AK : Nat} {sK tK : State}  (hA : 25168931 &&& AK = 25168931)  (hK : Keeps pK AK sK tK) :
    KeepsR pK AK sK (execDrowseEntryDone tK) := by
  refine KeepsR.lift (B := 25168931) ?_ hA hK
  clear hK hA
  have hK : Keeps pK 25168931 tK tK := Keeps.refl ..
  simp (maxDischargeDepth := 60) +contextual only [execDrowseEntryDone, Nat.reduceAnd, eq_self, true_or, or_true, devSame_refl, keeps_ite, keepsR_next, keeps_mk, keeps_State_drivesLow, keeps_State_endChannels, keeps_State_gateIslands, keeps_State_raise, keeps_State_set, hK]

theorem keeps_State_slotHoldStep {pK : Bool} {AK : Nat} {sK tK : State}  (hA : 32899043 &&& AK = 32899043)  (hK : Keeps pK AK sK tK) :
    Keeps pK AK sK (State.slotHoldStep tK) := by
  refine Keeps.lift (B := 32899043) ?_ hA hK
  clear hK hA
  have hK : Keeps pK 32899043 tK tK := Keeps.refl ..
  simp (maxDischargeDepth := 60) +contextual only [State.slotHoldStep, Nat.reduceAnd, eq_self, true_or, or_true, devSame_refl, keeps_ite, keeps_mk, keeps_State_abortEntry, keeps_State_holdSlots, keeps_State_setFlag, hK]

theorem keeps_execFallowPonr {pK : Bool} {AK : Nat} {sK tK : State}  (hA : 32899043 &&& AK = 32899043)  (hK : Keeps pK AK sK tK) :
    KeepsR pK AK sK (execFallowPonr tK) := by
  refine KeepsR.lift (B := 32899043) ?_ hA hK
  clear hK hA
  have hK : Keeps pK 32899043 tK tK := Keeps.refl ..
  simp (maxDischargeDepth := 60) +contextual only [execFallowPonr, Nat.reduceAnd, eq_self, implies_true, keeps_ite, keeps_foldl, keepsR_next, keeps_State_recognised, keeps_State_setPort, keeps_State_slotHoldStep, hK]

theorem keeps_State_countsLost {pK : Bool} {AK : Nat} {sK tK : State}  (hA : 1 &&& AK = 1)  (hK : Keeps pK AK sK tK) :
    Keeps pK AK sK (State.countsLost tK) := by
  refine Keeps.lift (B := 1) ?_ hA hK
  clear hK hA
  have hK : Keeps pK 1 tK tK := Keeps.refl ..
  exact { hK with
      regs := fun x => sparseSorted_filter _ (hK.regs x)
      frame := fun c => by cases c <;> first | exact Or.inl rfl | exact hK.frame _ }

theorem keeps_State_portsDown {pK : Bool} {AK : Nat} {sK tK : State}  (hA : 8585507 &&& AK = 8585507)  (hK : Keeps pK AK sK tK) :
    Keeps pK AK sK (State.portsDown tK) := by
  refine Keeps.lift (B := 8585507) ?_ hA hK
  clear hK hA
  have hK : Keeps pK 8585507 tK tK := Keeps.refl ..
  simp (maxDischargeDepth := 60) +contextual only [State.portsDown, Nat.reduceAnd, eq_self, implies_true, keeps_ite, keeps_foldl, keeps_State_linkLost, hK]

theorem keeps_execFallowEntryDone {pK : Bool} {AK : Nat} {sK tK : State}  (hA : 25374499 &&& AK = 25374499)  (hK : Keeps pK AK sK tK) :
    KeepsR pK AK sK (execFallowEntryDone tK) := by
  refine KeepsR.lift (B := 25374499) ?_ hA hK
  clear hK hA
  have hK : Keeps pK 25374499 tK tK := Keeps.refl ..
  simp (maxDischargeDepth := 60) +contextual only [execFallowEntryDone, Nat.reduceAnd, eq_self, true_or, or_true, implies_true, devSame_refl, keeps_ite, keepsR_next, keeps_mk, keeps_State_countsLost, keeps_State_endChannels, keeps_State_gateIslands, keeps_State_portsDown, keeps_State_raise, keeps_State_recognised, keeps_State_set, keeps_State_wakeSource, hK]

theorem keeps_State_wakeSeen {pK : Bool} {AK : Nat} {sK tK : State}  (hA : 8392227 &&& AK = 8392227)  (hK : Keeps pK AK sK tK) :
    Keeps pK AK sK (State.wakeSeen tK) := by
  refine Keeps.lift (B := 8392227) ?_ hA hK
  clear hK hA
  have hK : Keeps pK 8392227 tK tK := Keeps.refl ..
  simp (maxDischargeDepth := 60) +contextual only [State.wakeSeen, Nat.reduceAnd, eq_self, implies_true, keeps_ite, keeps_State_recognised, keeps_State_wakeSource, hK]

theorem keeps_execWakeGpioEdge {pK : Bool} {AK : Nat} {sK tK : State} (gpio : Nat) (hA : 8392227 &&& AK = 8392227)  (hK : Keeps pK AK sK tK) :
    KeepsR pK AK sK (execWakeGpioEdge gpio tK) := by
  refine KeepsR.lift (B := 8392227) ?_ hA hK
  clear hK hA
  have hK : Keeps pK 8392227 tK tK := Keeps.refl ..
  simp (maxDischargeDepth := 60) +contextual only [execWakeGpioEdge, Nat.reduceAnd, eq_self, keeps_ite, keepsR_next, keeps_State_wakeSeen, hK]

theorem keeps_execPwrCtlWake {pK : Bool} {AK : Nat} {sK tK : State} (src : Src) (hA : 8392291 &&& AK = 8392291)  (hK : Keeps pK AK sK tK) :
    KeepsR pK AK sK (execPwrCtlWake src tK) := by
  refine KeepsR.lift (B := 8392291) ?_ hA hK
  clear hK hA
  have hK : Keeps pK 8392291 tK tK := Keeps.refl ..
  simp (maxDischargeDepth := 60) +contextual only [execPwrCtlWake, Nat.reduceAnd, eq_self, implies_true, keepsR_next, keeps_State_busWrite, keeps_State_wakeSeen, hK]

theorem keeps_State_fallowOver {pK : Bool} {AK : Nat} {sK tK : State}  (hA : 32615971 &&& AK = 32615971)  (hK : Keeps pK AK sK tK) :
    Keeps pK AK sK (State.fallowOver tK) := by
  refine Keeps.lift (B := 32615971) ?_ hA hK
  clear hK hA
  have hK : Keeps pK 32615971 tK tK := Keeps.refl ..
  unfold State.fallowOver
  (try dsimp only); (repeat' split) <;> simp (maxDischargeDepth := 60) +contextual only [Nat.reduceAnd, eq_self, true_or, or_true, devSame_refl, keeps_mk, keeps_State_retireDump, hK]

theorem keeps_execWakeDone {pK : Bool} {AK : Nat} {sK tK : State}  (hA : 32899043 &&& AK = 32899043)  (hK : Keeps pK AK sK tK) :
    KeepsR pK AK sK (execWakeDone tK) := by
  refine KeepsR.lift (B := 32899043) ?_ hA hK
  clear hK hA
  have hK : Keeps pK 32899043 tK tK := Keeps.refl ..
  simp (maxDischargeDepth := 60) +contextual only [execWakeDone, Nat.reduceAnd, eq_self, true_or, or_true, devSame_refl, keeps_ite, keepsR_next, keeps_mk, keeps_State_drivesAwake, keeps_State_fallowOver, keeps_State_gateIslands, keeps_State_holdSlots, keeps_State_set, keeps_State_setFlag, hK]

/-! ## Machine/FlumeQ.lean -/

theorem keeps_State_winResult {pK : Bool} {AK : Nat} {sK tK : State} (index : Nat) (result : Nat) (hA : 8388643 &&& AK = 8388643)  (hK : Keeps pK AK sK tK) :
    Keeps pK AK sK (State.winResult tK index result) := by
  refine Keeps.lift (B := 8388643) ?_ hA hK
  clear hK hA
  have hK : Keeps pK 8388643 tK tK := Keeps.refl ..
  simp (maxDischargeDepth := 60) +contextual only [State.winResult, Nat.reduceAnd, eq_self, keeps_State_raise, keeps_State_set, hK]

theorem keeps_State_winCommit {pK : Bool} {AK : Nat} {sK tK : State} (index : Nat) (gen : Nat) (staged : Bool) (shadow : WinHalf) (hA : 8388771 &&& AK = 8388771)  (hK : Keeps pK AK sK tK) :
    Keeps pK AK sK (State.winCommit index gen staged shadow tK) := by
  refine Keeps.lift (B := 8388771) ?_ hA hK
  clear hK hA
  have hK : Keeps pK 8388771 tK tK := Keeps.refl ..
  simp (maxDischargeDepth := 60) +contextual only [State.winCommit, Nat.reduceAnd, eq_self, true_or, or_true, devSame_refl, keeps_ite, keeps_mk, keeps_State_set, keeps_State_setFlag, keeps_State_setWin, keeps_State_winResult, hK]

theorem keeps_execFlmWinCommit {pK : Bool} {AK : Nat} {sK tK : State} (src : Src) (index : Nat) (gen : Nat) (staged : Bool) (shadow : WinHalf) (hA : 8389347 &&& AK = 8389347)  (hK : Keeps pK AK sK tK) :
    KeepsR pK AK sK (execFlmWinCommit src index gen staged shadow tK) := by
  refine KeepsR.lift (B := 8389347) ?_ hA hK
  clear hK hA
  have hK : Keeps pK 8389347 tK tK := Keeps.refl ..
  simp (maxDischargeDepth := 60) +contextual only [execFlmWinCommit, Nat.reduceAnd, eq_self, implies_true, keepsR_next, keeps_State_busWrite, keeps_State_stepWrite, keeps_State_winCommit, hK]

theorem keeps_execWindowCommitApply {pK : Bool} {AK : Nat} {sK tK : State}  (hA : 8388771 &&& AK = 8388771)  (hK : Keeps pK AK sK tK) :
    KeepsR pK AK sK (execWindowCommitApply tK) := by
  refine KeepsR.lift (B := 8388771) ?_ hA hK
  clear hK hA
  have hK : Keeps pK 8388771 tK tK := Keeps.refl ..
  unfold execWindowCommitApply
  (try dsimp only)
  repeat' (first | assumption | rfl | (intro) | (with_reducible first | apply keepsR_next | apply keeps_foldl | apply keepsP_foldl | apply keeps_ite | apply keeps_cond | apply keepsR_ite | apply keepsP_ite | apply keepsO_pair | apply keepsO_none | apply keepsO_ite | apply keepsV_mk | apply keepsV_ite | apply keepsP_mk | apply keeps_State_inStep | apply keeps_State_setFlag | apply keeps_State_setWin | apply keeps_State_winResult) | simp only [keeps_mk_iff, devSame_refl, Nat.reduceAnd, eq_self, true_or, or_true] | (refine KeepsP.of_eq (by assumption) ?_) | (refine KeepsO.of_eq (by assumption) ?_) | (refine KeepsV.of_eq (by assumption) ?_) | split)

theorem keeps_execReadFilterExpiry {pK : Bool} {AK : Nat} {sK tK : State} (peer : Nat) (msgId : Nat) (hA : 130 &&& AK = 130)  (hK : Keeps pK AK sK tK) :
    KeepsR pK AK sK (execReadFilterExpiry peer msgId tK) := by
  refine KeepsR.lift (B := 130) ?_ hA hK
  clear hK hA
  have hK : Keeps pK 130 tK tK := Keeps.refl ..
  simp (maxDischargeDepth := 60) +contextual only [execReadFilterExpiry, Nat.reduceAnd, eq_self, true_or, or_true, implies_true, devSame_refl, keepsR_next, keeps_mk, keeps_State_inStep, hK]

theorem keeps_State_doomSends {pK : Bool} {AK : Nat} {sK tK : State} (wq : Nat) (drop : Bool) (hA : 128 &&& AK = 128)  (hK : Keeps pK AK sK tK) :
    Keeps pK AK sK (State.doomSends tK wq drop) := by
  refine Keeps.lift (B := 128) ?_ hA hK
  clear hK hA
  have hK : Keeps pK 128 tK tK := Keeps.refl ..
  simp (maxDischargeDepth := 60) +contextual only [State.doomSends, Nat.reduceAnd, eq_self, true_or, or_true, devSame_refl, keeps_mk, hK]

theorem keeps_State_openWq {pK : Bool} {AK : Nat} {sK tK : State} (wq : Nat) (c : WqCtx) (hA : 128 &&& AK = 128)  (hK : Keeps pK AK sK tK) :
    Keeps pK AK sK (State.openWq wq c tK) := by
  refine Keeps.lift (B := 128) ?_ hA hK
  clear hK hA
  have hK : Keeps pK 128 tK tK := Keeps.refl ..
  simp (maxDischargeDepth := 60) +contextual only [State.openWq, Nat.reduceAnd, eq_self, keeps_ite, keeps_State_setWq, hK]

theorem keeps_State_closeWq {pK : Bool} {AK : Nat} {sK tK : State} (wq : Nat) (hA : 128 &&& AK = 128)  (hK : Keeps pK AK sK tK) :
    Keeps pK AK sK (State.closeWq wq tK) := by
  refine Keeps.lift (B := 128) ?_ hA hK
  clear hK hA
  have hK : Keeps pK 128 tK tK := Keeps.refl ..
  simp (maxDischargeDepth := 60) +contextual only [State.closeWq, Nat.reduceAnd, eq_self, keeps_State_doomSends, keeps_State_setWq, hK]

theorem keeps_State_resetWq {pK : Bool} {AK : Nat} {sK tK : State} (wq : Nat) (hA : 128 &&& AK = 128)  (hK : Keeps pK AK sK tK) :
    Keeps pK AK sK (State.resetWq wq tK) := by
  refine Keeps.lift (B := 128) ?_ hA hK
  clear hK hA
  have hK : Keeps pK 128 tK tK := Keeps.refl ..
  simp (maxDischargeDepth := 60) +contextual only [State.resetWq, Nat.reduceAnd, eq_self, keeps_State_doomSends, keeps_State_setWq, hK]

theorem keeps_State_ringSq {pK : Bool} {AK : Nat} {sK tK : State} (wq : Nat) (tail : Nat) (cqHead : Nat) (hA : 128 &&& AK = 128)  (hK : Keeps pK AK sK tK) :
    Keeps pK AK sK (State.ringSq wq tail cqHead tK) := by
  refine Keeps.lift (B := 128) ?_ hA hK
  clear hK hA
  have hK : Keeps pK 128 tK tK := Keeps.refl ..
  simp (maxDischargeDepth := 60) +contextual only [State.ringSq, Nat.reduceAnd, eq_self, keeps_State_setWq, hK]

theorem keeps_State_ringRq {pK : Bool} {AK : Nat} {sK tK : State} (wq : Nat) (tail : Nat) (cqHead : Nat) (bufs : List RxBuf) (hA : 128 &&& AK = 128)  (hK : Keeps pK AK sK tK) :
    Keeps pK AK sK (State.ringRq wq tail cqHead bufs tK) := by
  refine Keeps.lift (B := 128) ?_ hA hK
  clear hK hA
  have hK : Keeps pK 128 tK tK := Keeps.refl ..
  simp (maxDischargeDepth := 60) +contextual only [State.ringRq, Nat.reduceAnd, eq_self, keeps_State_setWq, hK]

theorem keeps_execWqOpen {pK : Bool} {AK : Nat} {sK tK : State} (src : Src) (wq : Nat) (ctx : WqCtx) (hA : 8389347 &&& AK = 8389347)  (hK : Keeps pK AK sK tK) :
    KeepsR pK AK sK (execWqOpen src wq ctx tK) := by
  refine KeepsR.lift (B := 8389347) ?_ hA hK
  clear hK hA
  have hK : Keeps pK 8389347 tK tK := Keeps.refl ..
  simp (maxDischargeDepth := 60) +contextual only [execWqOpen, Nat.reduceAnd, eq_self, implies_true, keepsR_next, keeps_State_busWrite, keeps_State_openWq, keeps_State_stepWrite, hK]

theorem keeps_execWqClose {pK : Bool} {AK : Nat} {sK tK : State} (src : Src) (wq : Nat) (hA : 8389347 &&& AK = 8389347)  (hK : Keeps pK AK sK tK) :
    KeepsR pK AK sK (execWqClose src wq tK) := by
  refine KeepsR.lift (B := 8389347) ?_ hA hK
  clear hK hA
  have hK : Keeps pK 8389347 tK tK := Keeps.refl ..
  simp (maxDischargeDepth := 60) +contextual only [execWqClose, Nat.reduceAnd, eq_self, implies_true, keepsR_next, keeps_State_busWrite, keeps_State_closeWq, keeps_State_stepWrite, hK]

theorem keeps_execWqReset {pK : Bool} {AK : Nat} {sK tK : State} (src : Src) (wq : Nat) (hA : 8389347 &&& AK = 8389347)  (hK : Keeps pK AK sK tK) :
    KeepsR pK AK sK (execWqReset src wq tK) := by
  refine KeepsR.lift (B := 8389347) ?_ hA hK
  clear hK hA
  have hK : Keeps pK 8389347 tK tK := Keeps.refl ..
  simp (maxDischargeDepth := 60) +contextual only [execWqReset, Nat.reduceAnd, eq_self, implies_true, keepsR_next, keeps_State_busWrite, keeps_State_resetWq, keeps_State_stepWrite, hK]

theorem keeps_execWqDoorbell {pK : Bool} {AK : Nat} {sK tK : State} (src : Src) (wq : Nat) (tail : Nat) (cqHead : Nat) (hA : 8389347 &&& AK = 8389347)  (hK : Keeps pK AK sK tK) :
    KeepsR pK AK sK (execWqDoorbell src wq tail cqHead tK) := by
  refine KeepsR.lift (B := 8389347) ?_ hA hK
  clear hK hA
  have hK : Keeps pK 8389347 tK tK := Keeps.refl ..
  simp (maxDischargeDepth := 60) +contextual only [execWqDoorbell, Nat.reduceAnd, eq_self, implies_true, keepsR_next, keeps_State_busWrite, keeps_State_ringSq, keeps_State_stepWrite, hK]

theorem keeps_execRqDoorbell {pK : Bool} {AK : Nat} {sK tK : State} (src : Src) (wq : Nat) (tail : Nat) (cqHead : Nat) (bufs : List RxBuf) (hA : 8389347 &&& AK = 8389347)  (hK : Keeps pK AK sK tK) :
    KeepsR pK AK sK (execRqDoorbell src wq tail cqHead bufs tK) := by
  refine KeepsR.lift (B := 8389347) ?_ hA hK
  clear hK hA
  have hK : Keeps pK 8389347 tK tK := Keeps.refl ..
  simp (maxDischargeDepth := 60) +contextual only [execRqDoorbell, Nat.reduceAnd, eq_self, implies_true, keepsR_next, keeps_State_busWrite, keeps_State_ringRq, keeps_State_stepWrite, hK]

theorem keeps_execKvqRing {pK : Bool} {AK : Nat} {sK tK : State} (engine : Nat) (mode : Mode) (rs1 : Word) (rs2 : Word) (cqHead : Nat) (bufs : List RxBuf) (hA : 8389283 &&& AK = 8389283)  (hK : Keeps pK AK sK tK) :
    KeepsR pK AK sK (execKvqRing engine mode rs1 rs2 cqHead bufs tK) := by
  refine KeepsR.lift (B := 8389283) ?_ hA hK
  clear hK hA
  have hK : Keeps pK 8389283 tK tK := Keeps.refl ..
  simp (maxDischargeDepth := 60) +contextual only [execKvqRing, Nat.reduceAnd, eq_self, implies_true, keeps_ite, keepsR_next, keeps_State_kvqIllegal, keeps_State_ringRq, keeps_State_ringSq, keeps_State_stepWrite, hK]

theorem keeps_State_tookDesc {pK : Bool} {AK : Nat} {sK tK : State} (wq : Nat) (hA : 128 &&& AK = 128)  (hK : Keeps pK AK sK tK) :
    Keeps pK AK sK (State.tookDesc tK wq) := by
  refine Keeps.lift (B := 128) ?_ hA hK
  clear hK hA
  have hK : Keeps pK 128 tK tK := Keeps.refl ..
  simp (maxDischargeDepth := 60) +contextual only [State.tookDesc, Nat.reduceAnd, eq_self, keeps_State_setWq, hK]

theorem keeps_State_flushDescs_core {pK : Bool} {sK tK : State} (wq : Nat) (l : List SendDesc) (hK : Keeps pK 8388992 sK tK) :
    Keeps pK 8388992 sK (State.flushDescs wq l tK) := by
  induction l generalizing tK with
  | nil => exact hK
  | cons x l ih =>
    unfold State.flushDescs
    try dsimp only
    repeat' (first | assumption | rfl | (intro) | (with_reducible first | apply ih | apply keeps_State_completeDesc | apply keeps_State_tookDesc | apply keeps_foldl) | simp only [keeps_mk_iff, devSame_refl, devSame_mk, Nat.reduceAnd, eq_self, true_or, or_true] | (refine KeepsP.of_eq (by assumption) ?_) | (refine KeepsO.of_eq (by assumption) ?_) | split)

theorem keeps_State_flushDescs {pK : Bool} {AK : Nat} {sK tK : State} (wq : Nat) (l : List SendDesc) (hA : 8388992 &&& AK = 8388992) (hK : Keeps pK AK sK tK) :
    Keeps pK AK sK (State.flushDescs wq l tK) :=
  Keeps.lift (keeps_State_flushDescs_core wq l (Keeps.refl ..)) hA hK

theorem keeps_State_errorWq {pK : Bool} {AK : Nat} {sK tK : State} (wq : Nat) (rest : List SendDesc) (hA : 8389027 &&& AK = 8389027)  (hK : Keeps pK AK sK tK) :
    Keeps pK AK sK (State.errorWq tK wq rest) := by
  refine Keeps.lift (B := 8389027) ?_ hA hK
  clear hK hA
  have hK : Keeps pK 8389027 tK tK := Keeps.refl ..
  unfold State.errorWq
  (try dsimp only)
  repeat' (first | assumption | rfl | (intro) | (with_reducible first | apply keepsR_next | apply keeps_foldl | apply keepsP_foldl | apply keeps_ite | apply keeps_cond | apply keepsR_ite | apply keepsP_ite | apply keepsO_pair | apply keepsO_none | apply keepsO_ite | apply keepsV_mk | apply keepsV_ite | apply keepsP_mk | apply keeps_State_doomSends | apply keeps_State_flushDescs | apply keeps_State_raise | apply keeps_State_setWq) | simp only [keeps_mk_iff, devSame_refl, devSame_mk, Nat.reduceAnd, eq_self, true_or, or_true, implies_true] | (refine KeepsP.of_eq (by assumption) ?_) | (refine KeepsO.of_eq (by assumption) ?_) | (refine KeepsV.of_eq (by assumption) ?_) | split)

theorem keeps_State_startMsg {pK : Bool} {AK : Nat} {sK tK : State} (wq : Nat) (d : SendDesc) (ip : IpAddr) (src : MsgSrc) (tag : Option Nat) (hA : 25232291 &&& AK = 25232291)  (hK : Keeps pK AK sK tK) :
    Keeps pK AK sK (State.startMsg tK wq d ip src tag) := by
  refine Keeps.lift (B := 25232291) ?_ hA hK
  clear hK hA
  have hK : Keeps pK 25232291 tK tK := Keeps.refl ..
  unfold State.startMsg
  (try dsimp only); (repeat' split) <;> simp (maxDischargeDepth := 60) +contextual only [Nat.reduceAnd, eq_self, keeps_State_holdTag, keeps_State_submit, keeps_State_tookDesc, hK]

theorem keeps_State_waitDesc {pK : Bool} {AK : Nat} {sK tK : State} (wq : Nat) (d : SendDesc) (r : DescWait) (hA : 128 &&& AK = 128)  (hK : Keeps pK AK sK tK) :
    Keeps pK AK sK (State.waitDesc tK wq d r) := by
  refine Keeps.lift (B := 128) ?_ hA hK
  clear hK hA
  have hK : Keeps pK 128 tK tK := Keeps.refl ..
  simp (maxDischargeDepth := 60) +contextual only [State.waitDesc, Nat.reduceAnd, eq_self, keeps_State_setWq, hK]

theorem keeps_State_endDesc {pK : Bool} {AK : Nat} {sK tK : State} (wq : Nat) (d : SendDesc) (st : DescStatus) (hA : 8388992 &&& AK = 8388992)  (hK : Keeps pK AK sK tK) :
    Keeps pK AK sK (State.endDesc tK wq d st) := by
  refine Keeps.lift (B := 8388992) ?_ hA hK
  clear hK hA
  have hK : Keeps pK 8388992 tK tK := Keeps.refl ..
  simp (maxDischargeDepth := 60) +contextual only [State.endDesc, Nat.reduceAnd, eq_self, keeps_State_completeDesc, keeps_State_tookDesc, hK]

theorem keeps_State_startData {pK : Bool} {AK : Nat} {sK tK : State} (wq : Nat) (d : SendDesc) (ip : IpAddr) (src : MsgSrc) (hA : 25232291 &&& AK = 25232291)  (hK : Keeps pK AK sK tK) :
    Keeps pK AK sK (State.startData tK wq d ip src) := by
  refine Keeps.lift (B := 25232291) ?_ hA hK
  clear hK hA
  have hK : Keeps pK 25232291 tK tK := Keeps.refl ..
  unfold State.startData
  (try dsimp only); (repeat' split) <;> simp (maxDischargeDepth := 60) +contextual only [Nat.reduceAnd, eq_self, keeps_State_startMsg, keeps_State_waitDesc, hK]

theorem keeps_State_tryWait {pK : Bool} {AK : Nat} {sK tK : State} (wq : Nat) (d : SendDesc) (rest : List SendDesc) (hA : 8389027 &&& AK = 8389027)  (hK : Keeps pK AK sK tK) :
    Keeps pK AK sK (State.tryWait tK wq d rest) := by
  refine Keeps.lift (B := 8389027) ?_ hA hK
  clear hK hA
  have hK : Keeps pK 8389027 tK tK := Keeps.refl ..
  simp (maxDischargeDepth := 60) +contextual only [State.tryWait, Nat.reduceAnd, eq_self, keeps_ite, keeps_State_endDesc, keeps_State_errorWq, keeps_State_setChain, keeps_State_waitDesc, hK]

theorem keeps_State_startDesc {pK : Bool} {AK : Nat} {sK tK : State} (wq : Nat) (op : Nat) (d : SendDesc) (ip : IpAddr) (spans : List (Nat × Nat)) (rest : List SendDesc) (hA : 25232291 &&& AK = 25232291)  (hK : Keeps pK AK sK tK) :
    Keeps pK AK sK (State.startDesc tK wq op d ip spans rest) := by
  refine Keeps.lift (B := 25232291) ?_ hA hK
  clear hK hA
  have hK : Keeps pK 25232291 tK tK := Keeps.refl ..
  simp (maxDischargeDepth := 60) +contextual only [State.startDesc, Nat.reduceAnd, eq_self, keeps_ite, keeps_State_endDesc, keeps_State_errorWq, keeps_State_raise, keeps_State_startData, keeps_State_tryWait, hK]

theorem keeps_execDescSend {pK : Bool} {AK : Nat} {sK tK : State} (wq : Nat) (d : SendDesc) (ip : IpAddr) (spans : List (Nat × Nat)) (rest : List SendDesc) (hA : 25232291 &&& AK = 25232291)  (hK : Keeps pK AK sK tK) :
    KeepsR pK AK sK (execDescSend wq d ip spans rest tK) := by
  refine KeepsR.lift (B := 25232291) ?_ hA hK
  clear hK hA
  have hK : Keeps pK 25232291 tK tK := Keeps.refl ..
  simp (maxDischargeDepth := 60) +contextual only [execDescSend, Nat.reduceAnd, eq_self, implies_true, keepsR_next, keeps_State_inStep, keeps_State_startDesc, hK]

theorem keeps_execDescWrite {pK : Bool} {AK : Nat} {sK tK : State} (wq : Nat) (d : SendDesc) (ip : IpAddr) (spans : List (Nat × Nat)) (rest : List SendDesc) (hA : 25232291 &&& AK = 25232291)  (hK : Keeps pK AK sK tK) :
    KeepsR pK AK sK (execDescWrite wq d ip spans rest tK) := by
  refine KeepsR.lift (B := 25232291) ?_ hA hK
  clear hK hA
  have hK : Keeps pK 25232291 tK tK := Keeps.refl ..
  simp (maxDischargeDepth := 60) +contextual only [execDescWrite, Nat.reduceAnd, eq_self, implies_true, keepsR_next, keeps_State_inStep, keeps_State_startDesc, hK]

theorem keeps_execDescRead {pK : Bool} {AK : Nat} {sK tK : State} (wq : Nat) (d : SendDesc) (ip : IpAddr) (rest : List SendDesc) (hA : 25232291 &&& AK = 25232291)  (hK : Keeps pK AK sK tK) :
    KeepsR pK AK sK (execDescRead wq d ip rest tK) := by
  refine KeepsR.lift (B := 25232291) ?_ hA hK
  clear hK hA
  have hK : Keeps pK 25232291 tK tK := Keeps.refl ..
  simp (maxDischargeDepth := 60) +contextual only [execDescRead, Nat.reduceAnd, eq_self, implies_true, keepsR_next, keeps_State_inStep, keeps_State_startDesc, hK]

theorem keeps_execDescWait {pK : Bool} {AK : Nat} {sK tK : State} (wq : Nat) (d : SendDesc) (rest : List SendDesc) (hA : 25232291 &&& AK = 25232291)  (hK : Keeps pK AK sK tK) :
    KeepsR pK AK sK (execDescWait wq d rest tK) := by
  refine KeepsR.lift (B := 25232291) ?_ hA hK
  clear hK hA
  have hK : Keeps pK 25232291 tK tK := Keeps.refl ..
  simp (maxDischargeDepth := 60) +contextual only [execDescWait, Nat.reduceAnd, eq_self, implies_true, keepsR_next, keeps_State_inStep, keeps_State_startDesc, hK]

theorem keeps_execDescNop {pK : Bool} {AK : Nat} {sK tK : State} (wq : Nat) (d : SendDesc) (rest : List SendDesc) (hA : 25232291 &&& AK = 25232291)  (hK : Keeps pK AK sK tK) :
    KeepsR pK AK sK (execDescNop wq d rest tK) := by
  refine KeepsR.lift (B := 25232291) ?_ hA hK
  clear hK hA
  have hK : Keeps pK 25232291 tK tK := Keeps.refl ..
  simp (maxDischargeDepth := 60) +contextual only [execDescNop, Nat.reduceAnd, eq_self, implies_true, keepsR_next, keeps_State_inStep, keeps_State_startDesc, hK]

theorem keeps_execWaitSatisfied {pK : Bool} {AK : Nat} {sK tK : State} (wq : Nat) (rest : List SendDesc) (hA : 8389027 &&& AK = 8389027)  (hK : Keeps pK AK sK tK) :
    KeepsR pK AK sK (execWaitSatisfied wq rest tK) := by
  refine KeepsR.lift (B := 8389027) ?_ hA hK
  clear hK hA
  have hK : Keeps pK 8389027 tK tK := Keeps.refl ..
  unfold execWaitSatisfied
  (try dsimp only)
  repeat' (first | assumption | rfl | (intro) | (with_reducible first | apply keepsR_next | apply keeps_foldl | apply keepsP_foldl | apply keeps_ite | apply keeps_cond | apply keepsR_ite | apply keepsP_ite | apply keepsO_pair | apply keepsO_none | apply keepsO_ite | apply keepsV_mk | apply keepsV_ite | apply keepsP_mk | apply keeps_State_inStep | apply keeps_State_tryWait) | simp only [keeps_mk_iff, devSame_refl, devSame_mk, Nat.reduceAnd, eq_self, true_or, or_true, implies_true] | (refine KeepsP.of_eq (by assumption) ?_) | (refine KeepsO.of_eq (by assumption) ?_) | (refine KeepsV.of_eq (by assumption) ?_) | split)

theorem keeps_execFenceLimitRelease {pK : Bool} {AK : Nat} {sK tK : State} (wq : Nat) (ip : IpAddr) (spans : List (Nat × Nat)) (hA : 25232291 &&& AK = 25232291)  (hK : Keeps pK AK sK tK) :
    KeepsR pK AK sK (execFenceLimitRelease wq ip spans tK) := by
  refine KeepsR.lift (B := 25232291) ?_ hA hK
  clear hK hA
  have hK : Keeps pK 25232291 tK tK := Keeps.refl ..
  unfold execFenceLimitRelease
  (try dsimp only)
  repeat' (first | assumption | rfl | (intro) | (with_reducible first | apply keepsR_next | apply keeps_foldl | apply keepsP_foldl | apply keeps_ite | apply keeps_cond | apply keepsR_ite | apply keepsP_ite | apply keepsO_pair | apply keepsO_none | apply keepsO_ite | apply keepsV_mk | apply keepsV_ite | apply keepsP_mk | apply keeps_State_inStep | apply keeps_State_startData) | simp only [keeps_mk_iff, devSame_refl, devSame_mk, Nat.reduceAnd, eq_self, true_or, or_true, implies_true] | (refine KeepsP.of_eq (by assumption) ?_) | (refine KeepsO.of_eq (by assumption) ?_) | (refine KeepsV.of_eq (by assumption) ?_) | split)

theorem keeps_execReadTagFree {pK : Bool} {AK : Nat} {sK tK : State} (wq : Nat) (ip : IpAddr) (hA : 25232291 &&& AK = 25232291)  (hK : Keeps pK AK sK tK) :
    KeepsR pK AK sK (execReadTagFree wq ip tK) := by
  refine KeepsR.lift (B := 25232291) ?_ hA hK
  clear hK hA
  have hK : Keeps pK 25232291 tK tK := Keeps.refl ..
  unfold execReadTagFree
  (try dsimp only)
  repeat' (first | assumption | rfl | (intro) | (with_reducible first | apply keepsR_next | apply keeps_foldl | apply keepsP_foldl | apply keeps_ite | apply keeps_cond | apply keepsR_ite | apply keepsP_ite | apply keepsO_pair | apply keepsO_none | apply keepsO_ite | apply keepsV_mk | apply keepsV_ite | apply keepsP_mk | apply keeps_State_inStep | apply keeps_State_startData) | simp only [keeps_mk_iff, devSame_refl, devSame_mk, Nat.reduceAnd, eq_self, true_or, or_true, implies_true] | (refine KeepsP.of_eq (by assumption) ?_) | (refine KeepsO.of_eq (by assumption) ?_) | (refine KeepsV.of_eq (by assumption) ?_) | split)

theorem keeps_execFlowCacheAdmit {pK : Bool} {AK : Nat} {sK tK : State} (peer : Nat) (hA : 25232291 &&& AK = 25232291)  (hK : Keeps pK AK sK tK) :
    KeepsR pK AK sK (execFlowCacheAdmit peer tK) := by
  refine KeepsR.lift (B := 25232291) ?_ hA hK
  clear hK hA
  have hK : Keeps pK 25232291 tK tK := Keeps.refl ..
  unfold execFlowCacheAdmit
  (try dsimp only); (repeat' split) <;> simp (maxDischargeDepth := 60) +contextual only [Nat.reduceAnd, eq_self, true_or, or_true, devSame_refl, keepsR_next, KeepsP.fst, keeps_mk, keeps_State_enterFlow, keeps_State_pump, hK]

theorem keeps_execWqFaultResolved {pK : Bool} {AK : Nat} {sK tK : State} (wq : Nat) (spans : List (Nat × Nat)) (hA : 25232291 &&& AK = 25232291)  (hK : Keeps pK AK sK tK) :
    KeepsR pK AK sK (execWqFaultResolved wq spans tK) := by
  refine KeepsR.lift (B := 25232291) ?_ hA hK
  clear hK hA
  have hK : Keeps pK 25232291 tK tK := Keeps.refl ..
  unfold execWqFaultResolved
  (try dsimp only)
  repeat' (first | assumption | rfl | (intro) | (with_reducible first | apply keepsR_next | apply keeps_foldl | apply keepsP_foldl | apply keeps_ite | apply keeps_cond | apply keepsR_ite | apply keepsP_ite | apply keepsO_pair | apply keepsO_none | apply keepsO_ite | apply keepsV_mk | apply keepsV_ite | apply keepsP_mk | apply keeps_State_inStep | apply keeps_State_pump | apply keeps_State_setWq) | simp only [keeps_mk_iff, devSame_refl, Nat.reduceAnd, eq_self, true_or, or_true] | (refine KeepsP.of_eq (by assumption) ?_) | (refine KeepsO.of_eq (by assumption) ?_) | (refine KeepsV.of_eq (by assumption) ?_) | split)

theorem keeps_execChainCounterWrite {pK : Bool} {AK : Nat} {sK tK : State} (src : Src) (index : Nat) (value : Nat) (fault : Bool) (hA : 8389475 &&& AK = 8389475)  (hK : Keeps pK AK sK tK) :
    KeepsR pK AK sK (execChainCounterWrite src index value fault tK) := by
  refine KeepsR.lift (B := 8389475) ?_ hA hK
  clear hK hA
  have hK : Keeps pK 8389475 tK tK := Keeps.refl ..
  simp (maxDischargeDepth := 60) +contextual only [execChainCounterWrite, Nat.reduceAnd, eq_self, implies_true, keepsR_next, keeps_State_busWrite, keeps_State_setChain, keeps_State_stepWrite, hK]

theorem keeps_State_setAddr {pK : Bool} {AK : Nat} {sK tK : State} (entry : Nat) (a : Option IpAddr) (hA : 256 &&& AK = 256)  (hK : Keeps pK AK sK tK) :
    Keeps pK AK sK (State.setAddr entry a tK) := by
  refine Keeps.lift (B := 256) ?_ hA hK
  clear hK hA
  have hK : Keeps pK 256 tK tK := Keeps.refl ..
  simp (maxDischargeDepth := 60) +contextual only [State.setAddr, Nat.reduceAnd, eq_self, true_or, or_true, devSame_refl, keeps_mk, keeps_State_reselectAll, hK]

theorem keeps_execAddressTableWrite {pK : Bool} {AK : Nat} {sK tK : State} (src : Src) (entry : Nat) (addr : Option IpAddr) (hA : 8389475 &&& AK = 8389475)  (hK : Keeps pK AK sK tK) :
    KeepsR pK AK sK (execAddressTableWrite src entry addr tK) := by
  refine KeepsR.lift (B := 8389475) ?_ hA hK
  clear hK hA
  have hK : Keeps pK 8389475 tK tK := Keeps.refl ..
  simp (maxDischargeDepth := 60) +contextual only [execAddressTableWrite, Nat.reduceAnd, eq_self, implies_true, keepsR_next, keeps_State_busWrite, keeps_State_setAddr, keeps_State_stepWrite, hK]

theorem keeps_execEpochTransition {pK : Bool} {AK : Nat} {sK tK : State}  (hA : 25232291 &&& AK = 25232291)  (hK : Keeps pK AK sK tK) :
    KeepsR pK AK sK (execEpochTransition tK) := by
  refine KeepsR.lift (B := 25232291) ?_ hA hK
  clear hK hA
  have hK : Keeps pK 25232291 tK tK := Keeps.refl ..
  unfold execEpochTransition
  (try dsimp only)
  repeat' (first | assumption | rfl | (intro) | (with_reducible first | apply keepsR_next | apply keeps_foldl | apply keepsP_foldl | apply keeps_ite | apply keeps_cond | apply keepsR_ite | apply keepsP_ite | apply keepsO_pair | apply keepsO_none | apply keepsO_ite | apply keepsV_mk | apply keepsV_ite | apply keepsP_mk | apply keeps_State_inStep | apply keeps_State_pump | apply keeps_State_raise | apply keeps_State_setFlag) | simp only [keeps_mk_iff, devSame_refl, Nat.reduceAnd, eq_self, true_or, or_true] | (refine KeepsP.of_eq (by assumption) ?_) | (refine KeepsO.of_eq (by assumption) ?_) | (refine KeepsV.of_eq (by assumption) ?_) | split)

/-! ## Machine/NvmeOps.lean -/

theorem keeps_State_takeSlot {pK : Bool} {AK : Nat} {sK tK : State} (q : NvmQueue) (hA : 8395939 &&& AK = 8395939)  (hK : Keeps pK AK sK tK) :
    KeepsP pK AK sK (State.takeSlot tK q) := by
  refine KeepsP.lift (B := 8395939) ?_ hA hK
  clear hK hA
  have hK : Keeps pK 8395939 tK tK := Keeps.refl ..
  simp (maxDischargeDepth := 60) +contextual only [State.takeSlot, Nat.reduceAnd, eq_self, keepsP_mk, keeps_State_hostCommand, keeps_State_repost, keeps_State_setNq, hK]

theorem keeps_State_newCmd {pK : Bool} {AK : Nat} {sK tK : State} (q : NvmQueue) (sub : Nat) (cap : Capsule) (hA : 4096 &&& AK = 4096)  (hK : Keeps pK AK sK tK) :
    KeepsP pK AK sK (State.newCmd tK q sub cap) := by
  refine KeepsP.lift (B := 4096) ?_ hA hK
  clear hK hA
  have hK : Keeps pK 4096 tK tK := Keeps.refl ..
  simp (maxDischargeDepth := 60) +contextual only [State.newCmd, Nat.reduceAnd, eq_self, true_or, or_true, devSame_refl, keepsP_mk, keeps_mk, hK]

theorem keeps_State_onCapsule {pK : Bool} {AK : Nat} {sK tK : State} (key : Nat) (cap : Capsule) (k : RowKind) (f : State → NvmQueue → Cmd → State) (hA : 25247651 &&& AK = 25247651) (hF_f : ∀ (t : State) (x1 : NvmQueue) (x2 : Cmd), Keeps pK AK sK t → Keeps pK AK sK (f t x1 x2)) (hK : Keeps pK AK sK tK) :
    Keeps pK AK sK (State.onCapsule tK key cap k f) := by
  have g0 : 1 &&& AK = 1 := sub_trans (by decide) hA
  have c0 : AK &&& 1 = 1 := by rw [Nat.and_comm]; exact g0
  have g1 : 2 &&& AK = 2 := sub_trans (by decide) hA
  have c1 : AK &&& 2 = 2 := by rw [Nat.and_comm]; exact g1
  have g2 : 32 &&& AK = 32 := sub_trans (by decide) hA
  have c2 : AK &&& 32 = 32 := by rw [Nat.and_comm]; exact g2
  have g3 : 128 &&& AK = 128 := sub_trans (by decide) hA
  have c3 : AK &&& 128 = 128 := by rw [Nat.and_comm]; exact g3
  have g4 : 256 &&& AK = 256 := sub_trans (by decide) hA
  have c4 : AK &&& 256 = 256 := by rw [Nat.and_comm]; exact g4
  have g5 : 512 &&& AK = 512 := sub_trans (by decide) hA
  have c5 : AK &&& 512 = 512 := by rw [Nat.and_comm]; exact g5
  have g6 : 1024 &&& AK = 1024 := sub_trans (by decide) hA
  have c6 : AK &&& 1024 = 1024 := by rw [Nat.and_comm]; exact g6
  have g7 : 2048 &&& AK = 2048 := sub_trans (by decide) hA
  have c7 : AK &&& 2048 = 2048 := by rw [Nat.and_comm]; exact g7
  have g8 : 4096 &&& AK = 4096 := sub_trans (by decide) hA
  have c8 : AK &&& 4096 = 4096 := by rw [Nat.and_comm]; exact g8
  have g9 : 8192 &&& AK = 8192 := sub_trans (by decide) hA
  have c9 : AK &&& 8192 = 8192 := by rw [Nat.and_comm]; exact g9
  have g10 : 65536 &&& AK = 65536 := sub_trans (by decide) hA
  have c10 : AK &&& 65536 = 65536 := by rw [Nat.and_comm]; exact g10
  have g11 : 8388608 &&& AK = 8388608 := sub_trans (by decide) hA
  have c11 : AK &&& 8388608 = 8388608 := by rw [Nat.and_comm]; exact g11
  have g12 : 8388643 &&& AK = 8388643 := sub_trans (by decide) hA
  have c12 : AK &&& 8388643 = 8388643 := by rw [Nat.and_comm]; exact g12
  have g13 : 8395939 &&& AK = 8395939 := sub_trans (by decide) hA
  have c13 : AK &&& 8395939 = 8395939 := by rw [Nat.and_comm]; exact g13
  have g14 : 16777216 &&& AK = 16777216 := sub_trans (by decide) hA
  have c14 : AK &&& 16777216 = 16777216 := by rw [Nat.and_comm]; exact g14
  have g15 : 25245603 &&& AK = 25245603 := sub_trans (by decide) hA
  have c15 : AK &&& 25245603 = 25245603 := by rw [Nat.and_comm]; exact g15
  have g16 : 25244707 &&& AK = 25244707 := sub_trans (by decide) hA
  unfold State.onCapsule
  (try dsimp only); (repeat' split) <;> simp (maxDischargeDepth := 60) +contextual only [eq_self, true_or, or_true, devSame_refl, KeepsP.fst, keeps_mk, keeps_State_count, keeps_State_endCmd, keeps_State_handOver, keeps_State_newCmd, keeps_State_takeSlot, hK, hF_f, c1, c2, c3, c4, c5, c6, c7, g8, c8, c9, c10, g12, g13, g15, g16]

theorem keeps_byEngines {pK : Bool} {AK : Nat} {sK tK : State} (f : State → NvmQueue → Cmd → State) (q : NvmQueue) (c : Cmd) (hA : 25244707 &&& AK = 25244707) (hF_f : ∀ (t : State) (x1 : NvmQueue) (x2 : Cmd), Keeps pK AK sK t → Keeps pK AK sK (f t x1 x2)) (hK : Keeps pK AK sK tK) :
    Keeps pK AK sK (byEngines f tK q c) := by
  have g0 : 1 &&& AK = 1 := sub_trans (by decide) hA
  have c0 : AK &&& 1 = 1 := by rw [Nat.and_comm]; exact g0
  have g1 : 2 &&& AK = 2 := sub_trans (by decide) hA
  have c1 : AK &&& 2 = 2 := by rw [Nat.and_comm]; exact g1
  have g2 : 32 &&& AK = 32 := sub_trans (by decide) hA
  have c2 : AK &&& 32 = 32 := by rw [Nat.and_comm]; exact g2
  have g3 : 1024 &&& AK = 1024 := sub_trans (by decide) hA
  have c3 : AK &&& 1024 = 1024 := by rw [Nat.and_comm]; exact g3
  have g4 : 4096 &&& AK = 4096 := sub_trans (by decide) hA
  have c4 : AK &&& 4096 = 4096 := by rw [Nat.and_comm]; exact g4
  have g5 : 8192 &&& AK = 8192 := sub_trans (by decide) hA
  have c5 : AK &&& 8192 = 8192 := by rw [Nat.and_comm]; exact g5
  have g6 : 65536 &&& AK = 65536 := sub_trans (by decide) hA
  have c6 : AK &&& 65536 = 65536 := by rw [Nat.and_comm]; exact g6
  have g7 : 8388608 &&& AK = 8388608 := sub_trans (by decide) hA
  have c7 : AK &&& 8388608 = 8388608 := by rw [Nat.and_comm]; exact g7
  have g8 : 16777216 &&& AK = 16777216 := sub_trans (by decide) hA
  have c8 : AK &&& 16777216 = 16777216 := by rw [Nat.and_comm]; exact g8
  have g9 : 25244707 &&& AK = 25244707 := sub_trans (by decide) hA
  have c9 : AK &&& 25244707 = 25244707 := by rw [Nat.and_comm]; exact g9
  simp (maxDischargeDepth := 60) +contextual only [byEngines, eq_self, keeps_State_handOver, hK, hF_f, g9]

theorem keeps_State_gateFails {pK : Bool} {AK : Nat} {sK tK : State} (c : Cmd) (st : NvmeStatus) (hA : 25245667 &&& AK = 25245667)  (hK : Keeps pK AK sK tK) :
    Keeps pK AK sK (State.gateFails tK c st) := by
  refine Keeps.lift (B := 25245667) ?_ hA hK
  clear hK hA
  have hK : Keeps pK 25245667 tK tK := Keeps.refl ..
  unfold State.gateFails
  (try dsimp only); (repeat' split) <;> simp (maxDischargeDepth := 60) +contextual only [Nat.reduceAnd, eq_self, keeps_State_endCmd, keeps_State_ledgerLimited, hK]

theorem keeps_State_deleteQueue {pK : Bool} {AK : Nat} {sK tK : State} (q : NvmQueue) (hA : 78976 &&& AK = 78976)  (hK : Keeps pK AK sK tK) :
    Keeps pK AK sK (State.deleteQueue tK q) := by
  refine Keeps.lift (B := 78976) ?_ hA hK
  clear hK hA
  have hK : Keeps pK 78976 tK tK := Keeps.refl ..
  unfold State.deleteQueue
  (try dsimp only); (repeat' split) <;> simp (maxDischargeDepth := 60) +contextual only [Nat.reduceAnd, eq_self, true_or, or_true, implies_true, devSame_refl, keeps_foldl, keeps_mk, keeps_State_dropCmd, keeps_State_resetWq, hK]

theorem keeps_State_deleteCtrl {pK : Bool} {AK : Nat} {sK tK : State} (id : Nat) (hA : 78976 &&& AK = 78976)  (hK : Keeps pK AK sK tK) :
    Keeps pK AK sK (State.deleteCtrl tK id) := by
  refine Keeps.lift (B := 78976) ?_ hA hK
  clear hK hA
  have hK : Keeps pK 78976 tK tK := Keeps.refl ..
  simp (maxDischargeDepth := 60) +contextual only [State.deleteCtrl, Nat.reduceAnd, eq_self, true_or, or_true, implies_true, devSame_refl, keeps_foldl, keeps_mk, keeps_State_deleteQueue, hK]

theorem keeps_State_deleteFor {pK : Bool} {AK : Nat} {sK tK : State} (q : NvmQueue) (hA : 78976 &&& AK = 78976)  (hK : Keeps pK AK sK tK) :
    Keeps pK AK sK (State.deleteFor tK q) := by
  refine Keeps.lift (B := 78976) ?_ hA hK
  clear hK hA
  have hK : Keeps pK 78976 tK tK := Keeps.refl ..
  simp (maxDischargeDepth := 60) +contextual only [State.deleteFor, Nat.reduceAnd, eq_self, keeps_ite, keeps_State_deleteCtrl, keeps_State_deleteQueue, hK]

/-! ## Machine/NvmeFabrics.lean -/

theorem keeps_State_openSq {pK : Bool} {AK : Nat} {sK tK : State} (wq : Nat) (peer : Nat) (size : Nat) (hA : 128 &&& AK = 128)  (hK : Keeps pK AK sK tK) :
    Keeps pK AK sK (State.openSq tK wq peer size) := by
  refine Keeps.lift (B := 128) ?_ hA hK
  clear hK hA
  have hK : Keeps pK 128 tK tK := Keeps.refl ..
  simp (maxDischargeDepth := 60) +contextual only [State.openSq, Nat.reduceAnd, eq_self, keeps_State_setWq, hK]

theorem keeps_State_createQueue {pK : Bool} {AK : Nat} {sK tK : State} (c : ConnFrom) (sub : Nat) (cap : Capsule) (d : ConnectData) (hA : 16781440 &&& AK = 16781440)  (hK : Keeps pK AK sK tK) :
    KeepsP pK AK sK (State.createQueue tK c sub cap d) := by
  refine KeepsP.lift (B := 16781440) ?_ hA hK
  clear hK hA
  have hK : Keeps pK 16781440 tK tK := Keeps.refl ..
  unfold State.createQueue
  (try dsimp only); (repeat' split) <;> simp (maxDischargeDepth := 60) +contextual only [Nat.reduceAnd, eq_self, true_or, or_true, devSame_refl, keepsP_mk, keeps_mk, keeps_State_drawn, keeps_State_openSq, hK]

theorem keeps_State_connect {pK : Bool} {AK : Nat} {sK tK : State} (c : ConnFrom) (cap : Capsule) (hA : 25239459 &&& AK = 25239459)  (hK : Keeps pK AK sK tK) :
    Keeps pK AK sK (State.connect tK c cap) := by
  refine Keeps.lift (B := 25239459) ?_ hA hK
  clear hK hA
  have hK : Keeps pK 25239459 tK tK := Keeps.refl ..
  unfold State.connect
  (try dsimp only); (repeat' split) <;> simp (maxDischargeDepth := 60) +contextual only [Nat.reduceAnd, eq_self, KeepsP.fst, keeps_State_bump, keeps_State_createQueue, keeps_State_hostCommand, keeps_State_raise, keeps_State_respondOn, hK]

theorem keeps_execConnect {pK : Bool} {AK : Nat} {sK tK : State} (frm : ConnFrom) (cap : Capsule) (hA : 25239459 &&& AK = 25239459)  (hK : Keeps pK AK sK tK) :
    KeepsR pK AK sK (execConnect frm cap tK) := by
  refine KeepsR.lift (B := 25239459) ?_ hA hK
  clear hK hA
  have hK : Keeps pK 25239459 tK tK := Keeps.refl ..
  simp (maxDischargeDepth := 60) +contextual only [execConnect, Nat.reduceAnd, eq_self, implies_true, keepsR_next, keeps_State_connect, keeps_State_inStep, hK]

theorem keeps_State_propertyGet {pK : Bool} {AK : Nat} {sK tK : State} (_q : NvmQueue) (c : Cmd) (hA : 25245603 &&& AK = 25245603)  (hK : Keeps pK AK sK tK) :
    Keeps pK AK sK (State.propertyGet tK _q c) := by
  refine Keeps.lift (B := 25245603) ?_ hA hK
  clear hK hA
  have hK : Keeps pK 25245603 tK tK := Keeps.refl ..
  unfold State.propertyGet
  (try dsimp only); (repeat' split) <;> simp (maxDischargeDepth := 60) +contextual only [Nat.reduceAnd, eq_self, keeps_State_drawn, keeps_State_dropCmd, keeps_State_endCmd, keeps_State_respondOn, hK]

theorem keeps_execPropertyGet {pK : Bool} {AK : Nat} {sK tK : State} (queue : Nat) (cap : Capsule) (hA : 25247651 &&& AK = 25247651)  (hK : Keeps pK AK sK tK) :
    KeepsR pK AK sK (execPropertyGet queue cap tK) := by
  refine KeepsR.lift (B := 25247651) ?_ hA hK
  clear hK hA
  have hK : Keeps pK 25247651 tK tK := Keeps.refl ..
  simp (maxDischargeDepth := 60) +contextual only [execPropertyGet, Nat.reduceAnd, eq_self, implies_true, keepsR_next, keeps_State_inStep, keeps_State_onCapsule, keeps_State_propertyGet, keeps_byEngines, hK]

theorem keeps_State_writeCc {pK : Bool} {AK : Nat} {sK tK : State} (x : NvmCtrl) (v : Nat) (hA : 78976 &&& AK = 78976)  (hK : Keeps pK AK sK tK) :
    Keeps pK AK sK (State.writeCc tK x v) := by
  refine Keeps.lift (B := 78976) ?_ hA hK
  clear hK hA
  have hK : Keeps pK 78976 tK tK := Keeps.refl ..
  simp (maxDischargeDepth := 60) +contextual only [State.writeCc, Nat.reduceAnd, eq_self, implies_true, keeps_ite, keeps_foldl, keeps_State_deleteQueue, keeps_State_setCtrl, hK]

theorem keeps_State_propertySet {pK : Bool} {AK : Nat} {sK tK : State} (_q : NvmQueue) (c : Cmd) (hA : 25245603 &&& AK = 25245603)  (hK : Keeps pK AK sK tK) :
    Keeps pK AK sK (State.propertySet tK _q c) := by
  refine Keeps.lift (B := 25245603) ?_ hA hK
  clear hK hA
  have hK : Keeps pK 25245603 tK tK := Keeps.refl ..
  unfold State.propertySet
  (try dsimp only); (repeat' split) <;> simp (maxDischargeDepth := 60) +contextual only [Nat.reduceAnd, eq_self, keeps_State_dropCmd, keeps_State_endCmd, keeps_State_writeCc, hK]

theorem keeps_execPropertySet {pK : Bool} {AK : Nat} {sK tK : State} (queue : Nat) (cap : Capsule) (hA : 25247651 &&& AK = 25247651)  (hK : Keeps pK AK sK tK) :
    KeepsR pK AK sK (execPropertySet queue cap tK) := by
  refine KeepsR.lift (B := 25247651) ?_ hA hK
  clear hK hA
  have hK : Keeps pK 25247651 tK tK := Keeps.refl ..
  simp (maxDischargeDepth := 60) +contextual only [execPropertySet, Nat.reduceAnd, eq_self, implies_true, keepsR_next, keeps_State_inStep, keeps_State_onCapsule, keeps_State_propertySet, keeps_byEngines, hK]

theorem keeps_State_disconnect {pK : Bool} {AK : Nat} {sK tK : State} (q : NvmQueue) (c : Cmd) (hA : 25245603 &&& AK = 25245603)  (hK : Keeps pK AK sK tK) :
    Keeps pK AK sK (State.disconnect tK q c) := by
  refine Keeps.lift (B := 25245603) ?_ hA hK
  clear hK hA
  have hK : Keeps pK 25245603 tK tK := Keeps.refl ..
  simp (maxDischargeDepth := 60) +contextual only [State.disconnect, Nat.reduceAnd, eq_self, keeps_ite, keeps_State_deleteQueue, keeps_State_endCmd, hK]

theorem keeps_execDisconnect {pK : Bool} {AK : Nat} {sK tK : State} (queue : Nat) (cap : Capsule) (hA : 25247651 &&& AK = 25247651)  (hK : Keeps pK AK sK tK) :
    KeepsR pK AK sK (execDisconnect queue cap tK) := by
  refine KeepsR.lift (B := 25247651) ?_ hA hK
  clear hK hA
  have hK : Keeps pK 25247651 tK tK := Keeps.refl ..
  simp (maxDischargeDepth := 60) +contextual only [execDisconnect, Nat.reduceAnd, eq_self, implies_true, keepsR_next, keeps_State_disconnect, keeps_State_inStep, keeps_State_onCapsule, keeps_byEngines, hK]

theorem keeps_State_authFails {pK : Bool} {AK : Nat} {sK tK : State} (q : NvmQueue) (hA : 8392739 &&& AK = 8392739)  (hK : Keeps pK AK sK tK) :
    Keeps pK AK sK (State.authFails tK q) := by
  refine Keeps.lift (B := 8392739) ?_ hA hK
  clear hK hA
  have hK : Keeps pK 8392739 tK tK := Keeps.refl ..
  simp (maxDischargeDepth := 60) +contextual only [State.authFails, Nat.reduceAnd, eq_self, keeps_State_bump, keeps_State_raise, keeps_State_setNq, hK]

theorem keeps_State_authSend {pK : Bool} {AK : Nat} {sK tK : State} (m : AuthMsg) (q : NvmQueue) (c : Cmd) (hA : 25245603 &&& AK = 25245603)  (hK : Keeps pK AK sK tK) :
    Keeps pK AK sK (State.authSend m tK q c) := by
  refine Keeps.lift (B := 25245603) ?_ hA hK
  clear hK hA
  have hK : Keeps pK 25245603 tK tK := Keeps.refl ..
  unfold State.authSend
  (try dsimp only); (repeat' split) <;> simp (maxDischargeDepth := 60) +contextual only [Nat.reduceAnd, eq_self, keeps_State_authFails, keeps_State_endCmd, keeps_State_setNq, hK]

theorem keeps_execAuthSend {pK : Bool} {AK : Nat} {sK tK : State} (queue : Nat) (cap : Capsule) (m : AuthMsg) (hA : 25247651 &&& AK = 25247651)  (hK : Keeps pK AK sK tK) :
    KeepsR pK AK sK (execAuthSend queue cap m tK) := by
  refine KeepsR.lift (B := 25247651) ?_ hA hK
  clear hK hA
  have hK : Keeps pK 25247651 tK tK := Keeps.refl ..
  simp (maxDischargeDepth := 60) +contextual only [execAuthSend, Nat.reduceAnd, eq_self, implies_true, keepsR_next, keeps_State_authSend, keeps_State_inStep, keeps_State_onCapsule, keeps_byEngines, hK]

theorem keeps_State_authReceive {pK : Bool} {AK : Nat} {sK tK : State} (m : AuthMsg) (q : NvmQueue) (c : Cmd) (hA : 25245603 &&& AK = 25245603)  (hK : Keeps pK AK sK tK) :
    Keeps pK AK sK (State.authReceive m tK q c) := by
  refine Keeps.lift (B := 25245603) ?_ hA hK
  clear hK hA
  have hK : Keeps pK 25245603 tK tK := Keeps.refl ..
  unfold State.authReceive
  (try dsimp only); (repeat' split) <;> simp (maxDischargeDepth := 60) +contextual only [Nat.reduceAnd, eq_self, keeps_State_deleteFor, keeps_State_sendData, keeps_State_setNq, hK]

theorem keeps_execAuthReceive {pK : Bool} {AK : Nat} {sK tK : State} (queue : Nat) (cap : Capsule) (m : AuthMsg) (hA : 25247651 &&& AK = 25247651)  (hK : Keeps pK AK sK tK) :
    KeepsR pK AK sK (execAuthReceive queue cap m tK) := by
  refine KeepsR.lift (B := 25247651) ?_ hA hK
  clear hK hA
  have hK : Keeps pK 25247651 tK tK := Keeps.refl ..
  simp (maxDischargeDepth := 60) +contextual only [execAuthReceive, Nat.reduceAnd, eq_self, implies_true, keepsR_next, keeps_State_authReceive, keeps_State_inStep, keeps_State_onCapsule, keeps_byEngines, hK]

theorem keeps_State_tcpSyn {pK : Bool} {AK : Nat} {sK tK : State} (conn : TcpConn) (hA : 25236003 &&& AK = 25236003)  (hK : Keeps pK AK sK tK) :
    Keeps pK AK sK (State.tcpSyn conn tK) := by
  refine Keeps.lift (B := 25236003) ?_ hA hK
  clear hK hA
  have hK : Keeps pK 25236003 tK tK := Keeps.refl ..
  simp (maxDischargeDepth := 60) +contextual only [State.tcpSyn, Nat.reduceAnd, eq_self, true_or, or_true, devSame_refl, keeps_ite, keeps_mk, keeps_State_bump, keeps_State_drawn, keeps_State_fold, keeps_State_perform, keeps_State_raise, hK]

theorem keeps_execTcpSyn {pK : Bool} {AK : Nat} {sK tK : State} (conn : TcpConn) (hA : 25236003 &&& AK = 25236003)  (hK : Keeps pK AK sK tK) :
    KeepsR pK AK sK (execTcpSyn conn tK) := by
  refine KeepsR.lift (B := 25236003) ?_ hA hK
  clear hK hA
  have hK : Keeps pK 25236003 tK tK := Keeps.refl ..
  simp (maxDischargeDepth := 60) +contextual only [execTcpSyn, Nat.reduceAnd, eq_self, implies_true, keepsR_next, keeps_State_inStep, keeps_State_tcpSyn, hK]

theorem keeps_State_termReq {pK : Bool} {AK : Nat} {sK tK : State} (conn : Nat) (hA : 8454691 &&& AK = 8454691)  (hK : Keeps pK AK sK tK) :
    Keeps pK AK sK (State.termReq tK conn) := by
  refine Keeps.lift (B := 8454691) ?_ hA hK
  clear hK hA
  have hK : Keeps pK 8454691 tK tK := Keeps.refl ..
  unfold State.termReq
  (try dsimp only); (repeat' split) <;> simp (maxDischargeDepth := 60) +contextual only [Nat.reduceAnd, eq_self, keeps_State_perform, hK]

theorem keeps_State_tcpEnd {pK : Bool} {AK : Nat} {sK tK : State} (conn : Nat) (hA : 78976 &&& AK = 78976)  (hK : Keeps pK AK sK tK) :
    Keeps pK AK sK (State.tcpEnd tK conn) := by
  refine Keeps.lift (B := 78976) ?_ hA hK
  clear hK hA
  have hK : Keeps pK 78976 tK tK := Keeps.refl ..
  unfold State.tcpEnd
  (try dsimp only); (repeat' split) <;> simp (maxDischargeDepth := 60) +contextual only [Nat.reduceAnd, eq_self, true_or, or_true, devSame_refl, keeps_mk, keeps_State_deleteQueue, hK]

theorem keeps_State_h2cData {pK : Bool} {AK : Nat} {sK tK : State} (conn : Nat) (cid : Nat) (off : Nat) (bytes : List Byte) (last : Bool) (hA : 33159075 &&& AK = 33159075)  (hK : Keeps pK AK sK tK) :
    Keeps pK AK sK (State.h2cData tK conn cid off bytes last) := by
  refine Keeps.lift (B := 33159075) ?_ hA hK
  clear hK hA
  have hK : Keeps pK 33159075 tK tK := Keeps.refl ..
  unfold State.h2cData
  (try dsimp only); (repeat' split) <;> simp (maxDischargeDepth := 60) +contextual only [Nat.reduceAnd, eq_self, keeps_State_dataHere, keeps_State_setCmd, keeps_State_tcpEnd, keeps_State_termReq, hK]

theorem keeps_State_tcpPdu {pK : Bool} {AK : Nat} {sK tK : State} (conn : Nat) (pdu : TcpPdu) (hdOk : Bool) (ddOk : Bool) (hA : 33161123 &&& AK = 33161123)  (hK : Keeps pK AK sK tK) :
    Keeps pK AK sK (State.tcpPdu conn pdu hdOk ddOk tK) := by
  refine Keeps.lift (B := 33161123) ?_ hA hK
  clear hK hA
  have hK : Keeps pK 33161123 tK tK := Keeps.refl ..
  unfold State.tcpPdu
  (try dsimp only); (repeat' split) <;> simp (maxDischargeDepth := 60) +contextual only [Nat.reduceAnd, eq_self, true_or, or_true, devSame_refl, KeepsP.fst, keeps_mk, keeps_State_endCmd, keeps_State_h2cData, keeps_State_respondOn, keeps_State_takeSlot, keeps_State_tcpEnd, keeps_State_tcpSend, keeps_State_termReq, keeps_State_wakeSource, hK]

theorem keeps_execTcpPduRx {pK : Bool} {AK : Nat} {sK tK : State} (conn : Nat) (pdu : TcpPdu) (hdOk : Bool) (ddOk : Bool) (hA : 33161123 &&& AK = 33161123)  (hK : Keeps pK AK sK tK) :
    KeepsR pK AK sK (execTcpPduRx conn pdu hdOk ddOk tK) := by
  refine KeepsR.lift (B := 33161123) ?_ hA hK
  clear hK hA
  have hK : Keeps pK 33161123 tK tK := Keeps.refl ..
  simp (maxDischargeDepth := 60) +contextual only [execTcpPduRx, Nat.reduceAnd, eq_self, implies_true, keepsR_next, keeps_State_inStep, keeps_State_tcpPdu, hK]

theorem keeps_execRuntCapsule {pK : Bool} {AK : Nat} {sK tK : State} (queue : Nat) (hA : 8388771 &&& AK = 8388771)  (hK : Keeps pK AK sK tK) :
    KeepsR pK AK sK (execRuntCapsule queue tK) := by
  refine KeepsR.lift (B := 8388771) ?_ hA hK
  clear hK hA
  have hK : Keeps pK 8388771 tK tK := Keeps.refl ..
  unfold execRuntCapsule
  (try dsimp only)
  repeat' (first | assumption | rfl | (intro) | (with_reducible first | apply keepsR_next | apply keeps_foldl | apply keepsP_foldl | apply keeps_ite | apply keeps_cond | apply keepsR_ite | apply keepsP_ite | apply keepsO_pair | apply keepsO_none | apply keepsO_ite | apply keepsV_mk | apply keepsV_ite | apply keepsP_mk | apply keeps_State_bump | apply keeps_State_inStep | apply keeps_State_raise | apply keeps_State_repost) | simp only [keeps_mk_iff, devSame_refl, devSame_mk, Nat.reduceAnd, eq_self, true_or, or_true, implies_true] | (refine KeepsP.of_eq (by assumption) ?_) | (refine KeepsO.of_eq (by assumption) ?_) | (refine KeepsV.of_eq (by assumption) ?_) | split)

/-! ## Machine/NvmePages.lean -/

theorem keeps_State_freeBytes_core {pK : Bool} {sK tK : State} (n : Nat) (hK : Keeps pK 16777216 sK tK) :
    KeepsP pK 16777216 sK (State.freeBytes n tK) := by
  induction n generalizing tK with
  | zero => exact keepsP_mk hK
  | succ n ih =>
    unfold State.freeBytes
    try dsimp only
    repeat' (first | assumption | rfl | (intro) | (with_reducible first | refine KeepsP.fst (ih ?_) | apply keepsP_mk | apply keeps_State_drawn | apply keeps_foldl) | simp only [keeps_mk_iff, devSame_refl, devSame_mk, Nat.reduceAnd, eq_self, true_or, or_true] | (refine KeepsP.of_eq (by assumption) ?_) | (refine KeepsO.of_eq (by assumption) ?_) | split)

theorem keeps_State_freeBytes {pK : Bool} {AK : Nat} {sK tK : State} (n : Nat) (hA : 16777216 &&& AK = 16777216) (hK : Keeps pK AK sK tK) :
    KeepsP pK AK sK (State.freeBytes n tK) :=
  KeepsP.lift (keeps_State_freeBytes_core n (Keeps.refl ..)) hA hK

theorem keeps_State_logPage {pK : Bool} {AK : Nat} {sK tK : State} (x : NvmCtrl) (cap : Capsule) (addr : IpAddr) (hA : 16781312 &&& AK = 16781312)  (hK : Keeps pK AK sK tK) :
    KeepsO pK AK sK (State.logPage tK x cap addr) := by
  refine KeepsO.lift (B := 16781312) ?_ hA hK
  clear hK hA
  have hK : Keeps pK 16781312 tK tK := Keeps.refl ..
  unfold State.logPage
  extract_lets lid rae
  repeat' (with_reducible refine keepsO_ite ?_ ?_)
  all_goals try split
  all_goals with_reducible first
    | exact keepsO_none
    | exact keepsO_some hK
    | exact keepsO_some (keeps_State_drawn rfl hK)
    | exact keepsO_some (keeps_State_setCtrl _ rfl hK)
    | exact keepsO_pair (keeps_State_freeBytes _ rfl hK)

/-! ## Machine/NvmeAdmin.lean -/

theorem keeps_State_answerData {pK : Bool} {AK : Nat} {sK tK : State} (q : NvmQueue) (c : Cmd) (bytes : List Byte) (hA : 25245603 &&& AK = 25245603)  (hK : Keeps pK AK sK tK) :
    Keeps pK AK sK (State.answerData tK q c bytes) := by
  refine Keeps.lift (B := 25245603) ?_ hA hK
  clear hK hA
  have hK : Keeps pK 25245603 tK tK := Keeps.refl ..
  unfold State.answerData
  (try dsimp only); (repeat' split) <;> simp (maxDischargeDepth := 60) +contextual only [Nat.reduceAnd, eq_self, keeps_State_endCmd, keeps_State_sendData, hK]

theorem keeps_State_identify {pK : Bool} {AK : Nat} {sK tK : State} (q : NvmQueue) (c : Cmd) (hA : 25245603 &&& AK = 25245603)  (hK : Keeps pK AK sK tK) :
    Keeps pK AK sK (State.identify tK q c) := by
  refine Keeps.lift (B := 25245603) ?_ hA hK
  clear hK hA
  have hK : Keeps pK 25245603 tK tK := Keeps.refl ..
  unfold State.identify
  (try dsimp only); (repeat' split) <;> simp (maxDischargeDepth := 60) +contextual only [Nat.reduceAnd, eq_self, keeps_State_answerData, keeps_State_dropCmd, keeps_State_endCmd, hK]

theorem keeps_execIdentify {pK : Bool} {AK : Nat} {sK tK : State} (queue : Nat) (cap : Capsule) (hA : 25247651 &&& AK = 25247651)  (hK : Keeps pK AK sK tK) :
    KeepsR pK AK sK (execIdentify queue cap tK) := by
  refine KeepsR.lift (B := 25247651) ?_ hA hK
  clear hK hA
  have hK : Keeps pK 25247651 tK tK := Keeps.refl ..
  simp (maxDischargeDepth := 60) +contextual only [execIdentify, Nat.reduceAnd, eq_self, implies_true, keepsR_next, keeps_State_identify, keeps_State_inStep, keeps_State_onCapsule, keeps_byEngines, hK]

theorem keeps_State_getLogPage {pK : Bool} {AK : Nat} {sK tK : State} (q : NvmQueue) (c : Cmd) (hA : 25245603 &&& AK = 25245603)  (hK : Keeps pK AK sK tK) :
    Keeps pK AK sK (State.getLogPage tK q c) := by
  refine Keeps.lift (B := 25245603) ?_ hA hK
  clear hK hA
  have hK : Keeps pK 25245603 tK tK := Keeps.refl ..
  unfold State.getLogPage
  (try dsimp only)
  repeat' (first | assumption | rfl | (intro) | (with_reducible first | apply keepsR_next | apply keeps_foldl | apply keepsP_foldl | apply keeps_ite | apply keeps_cond | apply keepsR_ite | apply keepsP_ite | apply keepsO_pair | apply keepsO_none | apply keepsO_ite | apply keepsV_mk | apply keepsV_ite | apply keepsP_mk | apply keeps_State_answerData | apply keeps_State_dropCmd | apply keeps_State_endCmd | apply keeps_State_logPage) | simp only [keeps_mk_iff, devSame_refl, devSame_mk, Nat.reduceAnd, eq_self, true_or, or_true, implies_true] | (refine KeepsP.of_eq (by assumption) ?_) | (refine KeepsO.of_eq (by assumption) ?_) | (refine KeepsV.of_eq (by assumption) ?_) | split)

theorem keeps_execGetLogPage {pK : Bool} {AK : Nat} {sK tK : State} (queue : Nat) (cap : Capsule) (hA : 25247651 &&& AK = 25247651)  (hK : Keeps pK AK sK tK) :
    KeepsR pK AK sK (execGetLogPage queue cap tK) := by
  refine KeepsR.lift (B := 25247651) ?_ hA hK
  clear hK hA
  have hK : Keeps pK 25247651 tK tK := Keeps.refl ..
  simp (maxDischargeDepth := 60) +contextual only [execGetLogPage, Nat.reduceAnd, eq_self, implies_true, keepsR_next, keeps_State_getLogPage, keeps_State_inStep, keeps_State_onCapsule, keeps_byEngines, hK]

theorem keeps_State_abortHeld {pK : Bool} {AK : Nat} {sK tK : State} (q : NvmQueue) (x : NvmCtrl) (cid : Nat) (hA : 25245603 &&& AK = 25245603)  (hK : Keeps pK AK sK tK) :
    Keeps pK AK sK (State.abortHeld tK q x cid) := by
  refine Keeps.lift (B := 25245603) ?_ hA hK
  clear hK hA
  have hK : Keeps pK 25245603 tK tK := Keeps.refl ..
  simp (maxDischargeDepth := 60) +contextual only [State.abortHeld, Nat.reduceAnd, eq_self, keeps_State_setCtrl, keeps_State_respondOn, hK]

theorem keeps_State_abort {pK : Bool} {AK : Nat} {sK tK : State} (_q : NvmQueue) (c : Cmd) (hA : 25245603 &&& AK = 25245603)  (hK : Keeps pK AK sK tK) :
    Keeps pK AK sK (State.abort tK _q c) := by
  refine Keeps.lift (B := 25245603) ?_ hA hK
  clear hK hA
  have hK : Keeps pK 25245603 tK tK := Keeps.refl ..
  unfold State.abort
  (try dsimp only); (repeat' split) <;> simp (maxDischargeDepth := 60) +contextual only [Nat.reduceAnd, eq_self, keeps_State_endCmd, keeps_State_abortHeld, hK]

theorem keeps_execAbort {pK : Bool} {AK : Nat} {sK tK : State} (queue : Nat) (cap : Capsule) (hA : 25247651 &&& AK = 25247651)  (hK : Keeps pK AK sK tK) :
    KeepsR pK AK sK (execAbort queue cap tK) := by
  refine KeepsR.lift (B := 25247651) ?_ hA hK
  clear hK hA
  have hK : Keeps pK 25247651 tK tK := Keeps.refl ..
  simp (maxDischargeDepth := 60) +contextual only [execAbort, Nat.reduceAnd, eq_self, implies_true, keepsR_next, keeps_State_abort, keeps_State_inStep, keeps_State_onCapsule, keeps_byEngines, hK]

theorem keeps_State_setFeatures {pK : Bool} {AK : Nat} {sK tK : State} (_q : NvmQueue) (c : Cmd) (hA : 25245603 &&& AK = 25245603)  (hK : Keeps pK AK sK tK) :
    Keeps pK AK sK (State.setFeatures tK _q c) := by
  refine Keeps.lift (B := 25245603) ?_ hA hK
  clear hK hA
  have hK : Keeps pK 25245603 tK tK := Keeps.refl ..
  unfold State.setFeatures
  (try dsimp only); (repeat' split) <;> simp (maxDischargeDepth := 60) +contextual only [Nat.reduceAnd, eq_self, keeps_State_dropCmd, keeps_State_endCmd, keeps_State_setCtrl, keeps_State_setResv, hK]

theorem keeps_execSetFeatures {pK : Bool} {AK : Nat} {sK tK : State} (queue : Nat) (cap : Capsule) (hA : 25247651 &&& AK = 25247651)  (hK : Keeps pK AK sK tK) :
    KeepsR pK AK sK (execSetFeatures queue cap tK) := by
  refine KeepsR.lift (B := 25247651) ?_ hA hK
  clear hK hA
  have hK : Keeps pK 25247651 tK tK := Keeps.refl ..
  simp (maxDischargeDepth := 60) +contextual only [execSetFeatures, Nat.reduceAnd, eq_self, implies_true, keepsR_next, keeps_State_inStep, keeps_State_onCapsule, keeps_State_setFeatures, keeps_byEngines, hK]

theorem keeps_State_getFeatures {pK : Bool} {AK : Nat} {sK tK : State} (q : NvmQueue) (c : Cmd) (hA : 25245603 &&& AK = 25245603)  (hK : Keeps pK AK sK tK) :
    Keeps pK AK sK (State.getFeatures tK q c) := by
  refine Keeps.lift (B := 25245603) ?_ hA hK
  clear hK hA
  have hK : Keeps pK 25245603 tK tK := Keeps.refl ..
  unfold State.getFeatures
  (try dsimp only); (repeat' split) <;> simp (maxDischargeDepth := 60) +contextual only [Nat.reduceAnd, eq_self, keeps_State_answerData, keeps_State_dropCmd, keeps_State_endCmd, hK]

theorem keeps_execGetFeatures {pK : Bool} {AK : Nat} {sK tK : State} (queue : Nat) (cap : Capsule) (hA : 25247651 &&& AK = 25247651)  (hK : Keeps pK AK sK tK) :
    KeepsR pK AK sK (execGetFeatures queue cap tK) := by
  refine KeepsR.lift (B := 25247651) ?_ hA hK
  clear hK hA
  have hK : Keeps pK 25247651 tK tK := Keeps.refl ..
  simp (maxDischargeDepth := 60) +contextual only [execGetFeatures, Nat.reduceAnd, eq_self, implies_true, keepsR_next, keeps_State_getFeatures, keeps_State_inStep, keeps_State_onCapsule, keeps_byEngines, hK]

theorem keeps_State_asyncRequest {pK : Bool} {AK : Nat} {sK tK : State} (_q : NvmQueue) (c : Cmd) (hA : 25245603 &&& AK = 25245603)  (hK : Keeps pK AK sK tK) :
    Keeps pK AK sK (State.asyncRequest tK _q c) := by
  refine Keeps.lift (B := 25245603) ?_ hA hK
  clear hK hA
  have hK : Keeps pK 25245603 tK tK := Keeps.refl ..
  unfold State.asyncRequest
  (try dsimp only); (repeat' split) <;> simp (maxDischargeDepth := 60) +contextual only [Nat.reduceAnd, eq_self, keeps_State_dropCmd, keeps_State_endCmd, keeps_State_setCtrl, hK]

theorem keeps_execAsyncEventRequest {pK : Bool} {AK : Nat} {sK tK : State} (queue : Nat) (cap : Capsule) (hA : 25247651 &&& AK = 25247651)  (hK : Keeps pK AK sK tK) :
    KeepsR pK AK sK (execAsyncEventRequest queue cap tK) := by
  refine KeepsR.lift (B := 25247651) ?_ hA hK
  clear hK hA
  have hK : Keeps pK 25247651 tK tK := Keeps.refl ..
  simp (maxDischargeDepth := 60) +contextual only [execAsyncEventRequest, Nat.reduceAnd, eq_self, implies_true, keepsR_next, keeps_State_asyncRequest, keeps_State_inStep, keeps_State_onCapsule, keeps_byEngines, hK]

theorem keeps_State_keepAlive {pK : Bool} {AK : Nat} {sK tK : State} (_q : NvmQueue) (c : Cmd) (hA : 25245603 &&& AK = 25245603)  (hK : Keeps pK AK sK tK) :
    Keeps pK AK sK (State.keepAlive tK _q c) := by
  refine Keeps.lift (B := 25245603) ?_ hA hK
  clear hK hA
  have hK : Keeps pK 25245603 tK tK := Keeps.refl ..
  unfold State.keepAlive
  (try dsimp only); (repeat' split) <;> simp (maxDischargeDepth := 60) +contextual only [Nat.reduceAnd, eq_self, keeps_State_dropCmd, keeps_State_endCmd, keeps_State_setCtrl, hK]

theorem keeps_execKeepAlive {pK : Bool} {AK : Nat} {sK tK : State} (queue : Nat) (cap : Capsule) (hA : 25247651 &&& AK = 25247651)  (hK : Keeps pK AK sK tK) :
    KeepsR pK AK sK (execKeepAlive queue cap tK) := by
  refine KeepsR.lift (B := 25247651) ?_ hA hK
  clear hK hA
  have hK : Keeps pK 25247651 tK tK := Keeps.refl ..
  simp (maxDischargeDepth := 60) +contextual only [execKeepAlive, Nat.reduceAnd, eq_self, implies_true, keepsR_next, keeps_State_inStep, keeps_State_keepAlive, keeps_State_onCapsule, keeps_byEngines, hK]

theorem keeps_execKatoExpiry {pK : Bool} {AK : Nat} {sK tK : State} (ctrl : Nat) (hA : 8467619 &&& AK = 8467619)  (hK : Keeps pK AK sK tK) :
    KeepsR pK AK sK (execKatoExpiry ctrl tK) := by
  refine KeepsR.lift (B := 8467619) ?_ hA hK
  clear hK hA
  have hK : Keeps pK 8467619 tK tK := Keeps.refl ..
  unfold execKatoExpiry
  (try dsimp only)
  repeat' (first | assumption | rfl | (intro) | (with_reducible first | apply keepsR_next | apply keeps_foldl | apply keepsP_foldl | apply keeps_ite | apply keeps_cond | apply keepsR_ite | apply keepsP_ite | apply keepsO_pair | apply keepsO_none | apply keepsO_ite | apply keepsV_mk | apply keepsV_ite | apply keepsP_mk | apply keeps_State_deleteCtrl | apply keeps_State_inStep | apply keeps_State_raise) | simp only [keeps_mk_iff, devSame_refl, devSame_mk, Nat.reduceAnd, eq_self, true_or, or_true, implies_true] | (refine KeepsP.of_eq (by assumption) ?_) | (refine KeepsO.of_eq (by assumption) ?_) | (refine KeepsV.of_eq (by assumption) ?_) | split)

/-! ## Machine/NvmeIo.lean -/

theorem keeps_State_flush {pK : Bool} {AK : Nat} {sK tK : State} (_q : NvmQueue) (c : Cmd) (hA : 25245603 &&& AK = 25245603)  (hK : Keeps pK AK sK tK) :
    Keeps pK AK sK (State.flush tK _q c) := by
  refine Keeps.lift (B := 25245603) ?_ hA hK
  clear hK hA
  have hK : Keeps pK 25245603 tK tK := Keeps.refl ..
  simp (maxDischargeDepth := 60) +contextual only [State.flush, Nat.reduceAnd, eq_self, keeps_ite, keeps_State_endCmd, hK]

theorem keeps_execFlush {pK : Bool} {AK : Nat} {sK tK : State} (queue : Nat) (cap : Capsule) (hA : 25247651 &&& AK = 25247651)  (hK : Keeps pK AK sK tK) :
    KeepsR pK AK sK (execFlush queue cap tK) := by
  refine KeepsR.lift (B := 25247651) ?_ hA hK
  clear hK hA
  have hK : Keeps pK 25247651 tK tK := Keeps.refl ..
  simp (maxDischargeDepth := 60) +contextual only [execFlush, Nat.reduceAnd, eq_self, implies_true, keepsR_next, keeps_State_flush, keeps_State_inStep, keeps_State_onCapsule, hK]

theorem keeps_State_read {pK : Bool} {AK : Nat} {sK tK : State} (q : NvmQueue) (c : Cmd) (hA : 32585699 &&& AK = 32585699)  (hK : Keeps pK AK sK tK) :
    Keeps pK AK sK (State.read tK q c) := by
  refine Keeps.lift (B := 32585699) ?_ hA hK
  clear hK hA
  have hK : Keeps pK 32585699 tK tK := Keeps.refl ..
  unfold State.read
  (try dsimp only); (repeat' split) <;> simp (maxDischargeDepth := 60) +contextual only [Nat.reduceAnd, eq_self, keeps_State_endCmd, keeps_State_gateFails, keeps_State_startRead, hK]

theorem keeps_execNvmeRead {pK : Bool} {AK : Nat} {sK tK : State} (queue : Nat) (cap : Capsule) (hA : 32587747 &&& AK = 32587747)  (hK : Keeps pK AK sK tK) :
    KeepsR pK AK sK (execNvmeRead queue cap tK) := by
  refine KeepsR.lift (B := 32587747) ?_ hA hK
  clear hK hA
  have hK : Keeps pK 32587747 tK tK := Keeps.refl ..
  simp (maxDischargeDepth := 60) +contextual only [execNvmeRead, Nat.reduceAnd, eq_self, implies_true, keepsR_next, keeps_State_inStep, keeps_State_onCapsule, keeps_State_read, hK]

theorem keeps_State_verifyCmd {pK : Bool} {AK : Nat} {sK tK : State} (_q : NvmQueue) (c : Cmd) (hA : 32585699 &&& AK = 32585699)  (hK : Keeps pK AK sK tK) :
    Keeps pK AK sK (State.verifyCmd tK _q c) := by
  refine Keeps.lift (B := 32585699) ?_ hA hK
  clear hK hA
  have hK : Keeps pK 32585699 tK tK := Keeps.refl ..
  unfold State.verifyCmd
  (try dsimp only); (repeat' split) <;> simp (maxDischargeDepth := 60) +contextual only [Nat.reduceAnd, eq_self, keeps_State_endCmd, keeps_State_gateFails, keeps_State_startRead, hK]

theorem keeps_execVerify {pK : Bool} {AK : Nat} {sK tK : State} (queue : Nat) (cap : Capsule) (hA : 32587747 &&& AK = 32587747)  (hK : Keeps pK AK sK tK) :
    KeepsR pK AK sK (execVerify queue cap tK) := by
  refine KeepsR.lift (B := 32587747) ?_ hA hK
  clear hK hA
  have hK : Keeps pK 32587747 tK tK := Keeps.refl ..
  simp (maxDischargeDepth := 60) +contextual only [execVerify, Nat.reduceAnd, eq_self, implies_true, keepsR_next, keeps_State_inStep, keeps_State_onCapsule, keeps_State_verifyCmd, keeps_byEngines, hK]

theorem keeps_State_compareCmd {pK : Bool} {AK : Nat} {sK tK : State} (q : NvmQueue) (c : Cmd) (hA : 33159139 &&& AK = 33159139)  (hK : Keeps pK AK sK tK) :
    Keeps pK AK sK (State.compareCmd tK q c) := by
  refine Keeps.lift (B := 33159139) ?_ hA hK
  clear hK hA
  have hK : Keeps pK 33159139 tK tK := Keeps.refl ..
  unfold State.compareCmd
  (try dsimp only); (repeat' split) <;> simp (maxDischargeDepth := 60) +contextual only [Nat.reduceAnd, eq_self, keeps_State_endCmd, keeps_State_fetchData, keeps_State_gateFails, hK]

theorem keeps_execCompare {pK : Bool} {AK : Nat} {sK tK : State} (queue : Nat) (cap : Capsule) (hA : 33161187 &&& AK = 33161187)  (hK : Keeps pK AK sK tK) :
    KeepsR pK AK sK (execCompare queue cap tK) := by
  refine KeepsR.lift (B := 33161187) ?_ hA hK
  clear hK hA
  have hK : Keeps pK 33161187 tK tK := Keeps.refl ..
  simp (maxDischargeDepth := 60) +contextual only [execCompare, Nat.reduceAnd, eq_self, implies_true, keepsR_next, keeps_State_compareCmd, keeps_State_inStep, keeps_State_onCapsule, keeps_byEngines, hK]

theorem keeps_State_write {pK : Bool} {AK : Nat} {sK tK : State} (q : NvmQueue) (c : Cmd) (hA : 33159139 &&& AK = 33159139)  (hK : Keeps pK AK sK tK) :
    Keeps pK AK sK (State.write tK q c) := by
  refine Keeps.lift (B := 33159139) ?_ hA hK
  clear hK hA
  have hK : Keeps pK 33159139 tK tK := Keeps.refl ..
  unfold State.write
  (try dsimp only); (repeat' split) <;> simp (maxDischargeDepth := 60) +contextual only [Nat.reduceAnd, eq_self, keeps_State_endCmd, keeps_State_fetchData, keeps_State_gateFails, keeps_State_handOver, keeps_State_setCmd, hK]

theorem keeps_execNvmeWrite {pK : Bool} {AK : Nat} {sK tK : State} (queue : Nat) (cap : Capsule) (hA : 33161187 &&& AK = 33161187)  (hK : Keeps pK AK sK tK) :
    KeepsR pK AK sK (execNvmeWrite queue cap tK) := by
  refine KeepsR.lift (B := 33161187) ?_ hA hK
  clear hK hA
  have hK : Keeps pK 33161187 tK tK := Keeps.refl ..
  simp (maxDischargeDepth := 60) +contextual only [execNvmeWrite, Nat.reduceAnd, eq_self, implies_true, keepsR_next, keeps_State_inStep, keeps_State_onCapsule, keeps_State_write, hK]

theorem keeps_State_writeZeroes {pK : Bool} {AK : Nat} {sK tK : State} (_q : NvmQueue) (c : Cmd) (hA : 32634851 &&& AK = 32634851)  (hK : Keeps pK AK sK tK) :
    Keeps pK AK sK (State.writeZeroes tK _q c) := by
  refine Keeps.lift (B := 32634851) ?_ hA hK
  clear hK hA
  have hK : Keeps pK 32634851 tK tK := Keeps.refl ..
  unfold State.writeZeroes
  (try dsimp only); (repeat' split) <;> simp (maxDischargeDepth := 60) +contextual only [Nat.reduceAnd, eq_self, keeps_State_deallocRanges, keeps_State_gateFails, keeps_State_setCmd, keeps_State_writeHeldBlocks, hK]

theorem keeps_execWriteZeroes {pK : Bool} {AK : Nat} {sK tK : State} (queue : Nat) (cap : Capsule) (hA : 32636899 &&& AK = 32636899)  (hK : Keeps pK AK sK tK) :
    KeepsR pK AK sK (execWriteZeroes queue cap tK) := by
  refine KeepsR.lift (B := 32636899) ?_ hA hK
  clear hK hA
  have hK : Keeps pK 32636899 tK tK := Keeps.refl ..
  simp (maxDischargeDepth := 60) +contextual only [execWriteZeroes, Nat.reduceAnd, eq_self, implies_true, keepsR_next, keeps_State_inStep, keeps_State_onCapsule, keeps_State_writeZeroes, keeps_byEngines, hK]

theorem keeps_State_dataset {pK : Bool} {AK : Nat} {sK tK : State} (q : NvmQueue) (c : Cmd) (hA : 33159139 &&& AK = 33159139)  (hK : Keeps pK AK sK tK) :
    Keeps pK AK sK (State.dataset tK q c) := by
  refine Keeps.lift (B := 33159139) ?_ hA hK
  clear hK hA
  have hK : Keeps pK 33159139 tK tK := Keeps.refl ..
  unfold State.dataset
  (try dsimp only); (repeat' split) <;> simp (maxDischargeDepth := 60) +contextual only [Nat.reduceAnd, eq_self, keeps_State_endCmd, keeps_State_fetchData, keeps_State_gateFails, hK]

theorem keeps_execDatasetManagement {pK : Bool} {AK : Nat} {sK tK : State} (queue : Nat) (cap : Capsule) (hA : 33161187 &&& AK = 33161187)  (hK : Keeps pK AK sK tK) :
    KeepsR pK AK sK (execDatasetManagement queue cap tK) := by
  refine KeepsR.lift (B := 33161187) ?_ hA hK
  clear hK hA
  have hK : Keeps pK 33161187 tK tK := Keeps.refl ..
  simp (maxDischargeDepth := 60) +contextual only [execDatasetManagement, Nat.reduceAnd, eq_self, implies_true, keepsR_next, keeps_State_dataset, keeps_State_inStep, keeps_State_onCapsule, keeps_byEngines, hK]

theorem keeps_State_resvData {pK : Bool} {AK : Nat} {sK tK : State} (len : Nat) (q : NvmQueue) (c : Cmd) (hA : 33159075 &&& AK = 33159075)  (hK : Keeps pK AK sK tK) :
    Keeps pK AK sK (State.resvData len tK q c) := by
  refine Keeps.lift (B := 33159075) ?_ hA hK
  clear hK hA
  have hK : Keeps pK 33159075 tK tK := Keeps.refl ..
  unfold State.resvData
  (try dsimp only); (repeat' split) <;> simp (maxDischargeDepth := 60) +contextual only [Nat.reduceAnd, eq_self, keeps_State_endCmd, keeps_State_fetchData, hK]

theorem keeps_execReservationRegister {pK : Bool} {AK : Nat} {sK tK : State} (queue : Nat) (cap : Capsule) (hA : 33161123 &&& AK = 33161123)  (hK : Keeps pK AK sK tK) :
    KeepsR pK AK sK (execReservationRegister queue cap tK) := by
  refine KeepsR.lift (B := 33161123) ?_ hA hK
  clear hK hA
  have hK : Keeps pK 33161123 tK tK := Keeps.refl ..
  simp (maxDischargeDepth := 60) +contextual only [execReservationRegister, Nat.reduceAnd, eq_self, implies_true, keepsR_next, keeps_State_inStep, keeps_State_onCapsule, keeps_State_resvData, keeps_byEngines, hK]

theorem keeps_execReservationAcquire {pK : Bool} {AK : Nat} {sK tK : State} (queue : Nat) (cap : Capsule) (hA : 33161123 &&& AK = 33161123)  (hK : Keeps pK AK sK tK) :
    KeepsR pK AK sK (execReservationAcquire queue cap tK) := by
  refine KeepsR.lift (B := 33161123) ?_ hA hK
  clear hK hA
  have hK : Keeps pK 33161123 tK tK := Keeps.refl ..
  simp (maxDischargeDepth := 60) +contextual only [execReservationAcquire, Nat.reduceAnd, eq_self, implies_true, keepsR_next, keeps_State_inStep, keeps_State_onCapsule, keeps_State_resvData, keeps_byEngines, hK]

theorem keeps_execReservationRelease {pK : Bool} {AK : Nat} {sK tK : State} (queue : Nat) (cap : Capsule) (hA : 33161123 &&& AK = 33161123)  (hK : Keeps pK AK sK tK) :
    KeepsR pK AK sK (execReservationRelease queue cap tK) := by
  refine KeepsR.lift (B := 33161123) ?_ hA hK
  clear hK hA
  have hK : Keeps pK 33161123 tK tK := Keeps.refl ..
  simp (maxDischargeDepth := 60) +contextual only [execReservationRelease, Nat.reduceAnd, eq_self, implies_true, keepsR_next, keeps_State_inStep, keeps_State_onCapsule, keeps_State_resvData, keeps_byEngines, hK]

theorem keeps_State_resvReport {pK : Bool} {AK : Nat} {sK tK : State} (q : NvmQueue) (c : Cmd) (hA : 25245603 &&& AK = 25245603)  (hK : Keeps pK AK sK tK) :
    Keeps pK AK sK (State.resvReport tK q c) := by
  refine Keeps.lift (B := 25245603) ?_ hA hK
  clear hK hA
  have hK : Keeps pK 25245603 tK tK := Keeps.refl ..
  unfold State.resvReport
  (try dsimp only); (repeat' split) <;> simp (maxDischargeDepth := 60) +contextual only [Nat.reduceAnd, eq_self, keeps_State_answerData, keeps_State_endCmd, hK]

theorem keeps_execReservationReport {pK : Bool} {AK : Nat} {sK tK : State} (queue : Nat) (cap : Capsule) (hA : 25247651 &&& AK = 25247651)  (hK : Keeps pK AK sK tK) :
    KeepsR pK AK sK (execReservationReport queue cap tK) := by
  refine KeepsR.lift (B := 25247651) ?_ hA hK
  clear hK hA
  have hK : Keeps pK 25247651 tK tK := Keeps.refl ..
  simp (maxDischargeDepth := 60) +contextual only [execReservationReport, Nat.reduceAnd, eq_self, implies_true, keepsR_next, keeps_State_inStep, keeps_State_onCapsule, keeps_State_resvReport, keeps_byEngines, hK]

theorem keeps_State_rewritten {pK : Bool} {AK : Nat} {sK tK : State} (n : NsEnt) (sub : Nat) (lba : Nat) (hA : 8441891 &&& AK = 8441891)  (hK : Keeps pK AK sK tK) :
    Keeps pK AK sK (State.rewritten tK n sub lba) := by
  refine Keeps.lift (B := 8441891) ?_ hA hK
  clear hK hA
  have hK : Keeps pK 8441891 tK tK := Keeps.refl ..
  unfold State.rewritten
  (try dsimp only); (repeat' split) <;> simp (maxDischargeDepth := 60) +contextual only [Nat.reduceAnd, eq_self, true_or, or_true, devSame_refl, keeps_mk, keeps_State_unlose, hK]

theorem keeps_State_commitWrite {pK : Bool} {AK : Nat} {sK tK : State} (c : Cmd) (n : NsEnt) (hA : 32634787 &&& AK = 32634787)  (hK : Keeps pK AK sK tK) :
    Keeps pK AK sK (State.commitWrite tK c n) := by
  refine Keeps.lift (B := 32634787) ?_ hA hK
  clear hK hA
  have hK : Keeps pK 32634787 tK tK := Keeps.refl ..
  simp (maxDischargeDepth := 60) +contextual only [State.commitWrite, Nat.reduceAnd, eq_self, implies_true, keeps_ite, keeps_foldl, keeps_State_ackWrite, keeps_State_dirtyLevel, keeps_State_markMig, keeps_State_rewritten, keeps_State_sendLink, keeps_State_setCmd, keeps_State_stage, keeps_State_startBrand, hK]

theorem keeps_execWriteCommitPoint {pK : Bool} {AK : Nat} {sK tK : State} (cmd : Nat) (hA : 32634787 &&& AK = 32634787)  (hK : Keeps pK AK sK tK) :
    KeepsR pK AK sK (execWriteCommitPoint cmd tK) := by
  refine KeepsR.lift (B := 32634787) ?_ hA hK
  clear hK hA
  have hK : Keeps pK 32634787 tK tK := Keeps.refl ..
  unfold execWriteCommitPoint
  (try dsimp only)
  repeat' (first | assumption | rfl | (intro) | (with_reducible first | apply keepsR_next | apply keeps_foldl | apply keepsP_foldl | apply keeps_ite | apply keeps_cond | apply keepsR_ite | apply keepsP_ite | apply keepsO_pair | apply keepsO_none | apply keepsO_ite | apply keepsV_mk | apply keepsV_ite | apply keepsP_mk | apply keeps_State_commitWrite | apply keeps_State_endCmd | apply keeps_State_inStep) | simp only [keeps_mk_iff, devSame_refl, devSame_mk, Nat.reduceAnd, eq_self, true_or, or_true, implies_true] | (refine KeepsP.of_eq (by assumption) ?_) | (refine KeepsO.of_eq (by assumption) ?_) | (refine KeepsV.of_eq (by assumption) ?_) | split)

theorem keeps_execHeldWriteResume {pK : Bool} {AK : Nat} {sK tK : State} (cmd : Nat) (hA : 12290 &&& AK = 12290)  (hK : Keeps pK AK sK tK) :
    KeepsR pK AK sK (execHeldWriteResume cmd tK) := by
  refine KeepsR.lift (B := 12290) ?_ hA hK
  clear hK hA
  have hK : Keeps pK 12290 tK tK := Keeps.refl ..
  unfold execHeldWriteResume
  (try dsimp only)
  repeat' (first | assumption | rfl | (intro) | (with_reducible first | apply keepsR_next | apply keeps_foldl | apply keepsP_foldl | apply keeps_ite | apply keeps_cond | apply keepsR_ite | apply keepsP_ite | apply keepsO_pair | apply keepsO_none | apply keepsO_ite | apply keepsV_mk | apply keepsV_ite | apply keepsP_mk | apply keeps_State_inStep | apply keeps_State_setCmd) | simp only [keeps_mk_iff, devSame_refl, Nat.reduceAnd, eq_self, true_or, or_true] | (refine KeepsP.of_eq (by assumption) ?_) | (refine KeepsO.of_eq (by assumption) ?_) | (refine KeepsV.of_eq (by assumption) ?_) | split)

theorem keeps_execWriteHeldAlert {pK : Bool} {AK : Nat} {sK tK : State} (cmd : Nat) (hA : 8392739 &&& AK = 8392739)  (hK : Keeps pK AK sK tK) :
    KeepsR pK AK sK (execWriteHeldAlert cmd tK) := by
  refine KeepsR.lift (B := 8392739) ?_ hA hK
  clear hK hA
  have hK : Keeps pK 8392739 tK tK := Keeps.refl ..
  unfold execWriteHeldAlert
  (try dsimp only)
  repeat' (first | assumption | rfl | (intro) | (with_reducible first | apply keepsR_next | apply keeps_foldl | apply keepsP_foldl | apply keeps_ite | apply keeps_cond | apply keepsR_ite | apply keepsP_ite | apply keepsO_pair | apply keepsO_none | apply keepsO_ite | apply keepsV_mk | apply keepsV_ite | apply keepsP_mk | apply keeps_State_inStep | apply keeps_State_raise | apply keeps_State_setCmd) | simp only [keeps_mk_iff, devSame_refl, devSame_mk, Nat.reduceAnd, eq_self, true_or, or_true, implies_true] | (refine KeepsP.of_eq (by assumption) ?_) | (refine KeepsO.of_eq (by assumption) ?_) | (refine KeepsV.of_eq (by assumption) ?_) | split)

theorem keeps_execWriteHeldTimeout {pK : Bool} {AK : Nat} {sK tK : State} (cmd : Nat) (hA : 25245603 &&& AK = 25245603)  (hK : Keeps pK AK sK tK) :
    KeepsR pK AK sK (execWriteHeldTimeout cmd tK) := by
  refine KeepsR.lift (B := 25245603) ?_ hA hK
  clear hK hA
  have hK : Keeps pK 25245603 tK tK := Keeps.refl ..
  unfold execWriteHeldTimeout
  (try dsimp only)
  repeat' (first | assumption | rfl | (intro) | (with_reducible first | apply keepsR_next | apply keeps_foldl | apply keepsP_foldl | apply keeps_ite | apply keeps_cond | apply keepsR_ite | apply keepsP_ite | apply keepsO_pair | apply keepsO_none | apply keepsO_ite | apply keepsV_mk | apply keepsV_ite | apply keepsP_mk | apply keeps_State_endCmd | apply keeps_State_inStep) | simp only [keeps_mk_iff, devSame_refl, devSame_mk, Nat.reduceAnd, eq_self, true_or, or_true, implies_true] | (refine KeepsP.of_eq (by assumption) ?_) | (refine KeepsO.of_eq (by assumption) ?_) | (refine KeepsV.of_eq (by assumption) ?_) | split)

theorem keeps_execCmdLimitExpiry {pK : Bool} {AK : Nat} {sK tK : State} (cmd : Nat) (hA : 25245603 &&& AK = 25245603)  (hK : Keeps pK AK sK tK) :
    KeepsR pK AK sK (execCmdLimitExpiry cmd tK) := by
  refine KeepsR.lift (B := 25245603) ?_ hA hK
  clear hK hA
  have hK : Keeps pK 25245603 tK tK := Keeps.refl ..
  unfold execCmdLimitExpiry
  (try dsimp only)
  repeat' (first | assumption | rfl | (intro) | (with_reducible first | apply keepsR_next | apply keeps_foldl | apply keepsP_foldl | apply keeps_ite | apply keeps_cond | apply keepsR_ite | apply keepsP_ite | apply keepsO_pair | apply keepsO_none | apply keepsO_ite | apply keepsV_mk | apply keepsV_ite | apply keepsP_mk | apply keeps_State_bump | apply keeps_State_endCmd | apply keeps_State_inStep | apply keeps_State_raise) | simp only [keeps_mk_iff, devSame_refl, devSame_mk, Nat.reduceAnd, eq_self, true_or, or_true, implies_true] | (refine KeepsP.of_eq (by assumption) ?_) | (refine KeepsO.of_eq (by assumption) ?_) | (refine KeepsV.of_eq (by assumption) ?_) | split)

end Sys2Proof.Machine
end

