-- ==== Sys2Proof/Laws/KeepsTasks.lean ====
section
/-!
SUPPORT. Laws/KeepsTasks.lean: what each operation of firmware, tasks, the service port, the register bus, the Locksmith and the stream keeps (Laws/Keeps.lean): one lemma for each.
-/
set_option maxRecDepth 4000
set_option linter.all false

namespace Sys2Proof.Machine

/-! ## Machine/Firmware.lean -/

theorem keeps_State_fwArm {pK : Bool} {AK : Nat} {sK tK : State} (b : Bool) (window : Nat) (mode : Nat) (hA : 8912931 &&& AK = 8912931)  (hK : Keeps pK AK sK tK) :
    Keeps pK AK sK (State.fwArm tK b window mode) := by
  refine Keeps.lift (B := 8912931) ?_ hA hK
  clear hK hA
  have hK : Keeps pK 8912931 tK tK := Keeps.refl ..
  simp (maxDischargeDepth := 60) +contextual only [State.fwArm, Nat.reduceAnd, eq_self, true_or, or_true, devSame_refl, keeps_mk, keeps_State_raise, keeps_State_setFwSlot, hK]

theorem keeps_State_fwActCheck {pK : Bool} {AK : Nat} {sK tK : State} (b : Bool) (hA : 8912931 &&& AK = 8912931)  (hK : Keeps pK AK sK tK) :
    KeepsP pK AK sK (State.fwActCheck tK b) := by
  refine KeepsP.lift (B := 8912931) ?_ hA hK
  clear hK hA
  have hK : Keeps pK 8912931 tK tK := Keeps.refl ..
  simp (maxDischargeDepth := 60) +contextual only [State.fwActCheck, Nat.reduceAnd, eq_self, keepsP_mk, keepsP_ite, keeps_State_raise, keeps_State_setFwSlot, hK]

theorem keeps_State_burnFuses {pK : Bool} {AK : Nat} {sK tK : State} (b : Bool) (hA : 8388643 &&& AK = 8388643)  (hK : Keeps pK AK sK tK) :
    Keeps pK AK sK (State.burnFuses tK b) := by
  refine Keeps.lift (B := 8388643) ?_ hA hK
  clear hK hA
  have hK : Keeps pK 8388643 tK tK := Keeps.refl ..
  have hz : ∀ v, tK.dev.fuseSecurity < v → Keeps pK 8388643 tK { tK with dev := { tK.dev with fuseSecurity := v } } := fun v hv =>
    { hK with
      security := hK.security.trans (Nat.le_of_lt hv)
      frame := fun c => by cases c <;> first | exact Or.inl rfl | exact hK.frame _ }
  unfold State.burnFuses
  dsimp only
  split
  · rename_i hv
    exact keeps_State_raise _ rfl (hz _ hv)
  · exact hK

theorem keeps_State_rejectSlot {pK : Bool} {AK : Nat} {sK tK : State} (b : Bool) (cause : Nat) (hA : 8912995 &&& AK = 8912995)  (hK : Keeps pK AK sK tK) :
    Keeps pK AK sK (State.rejectSlot tK b cause) := by
  refine Keeps.lift (B := 8912995) ?_ hA hK
  clear hK hA
  have hK : Keeps pK 8912995 tK tK := Keeps.refl ..
  simp (maxDischargeDepth := 60) +contextual only [State.rejectSlot, Nat.reduceAnd, eq_self, keeps_State_bump, keeps_State_ledger, keeps_State_raise, keeps_State_setFwSlot, hK]

theorem keeps_State_clearBoot {pK : Bool} {AK : Nat} {sK tK : State} (b : Bool) (hA : 524288 &&& AK = 524288)  (hK : Keeps pK AK sK tK) :
    Keeps pK AK sK (State.clearBoot tK b) := by
  refine Keeps.lift (B := 524288) ?_ hA hK
  clear hK hA
  have hK : Keeps pK 524288 tK tK := Keeps.refl ..
  simp (maxDischargeDepth := 60) +contextual only [State.clearBoot, Nat.reduceAnd, eq_self, keeps_State_setFwSlot, hK]

theorem keeps_State_romRecovery {pK : Bool} {AK : Nat} {sK tK : State}  (hA : 8390691 &&& AK = 8390691)  (hK : Keeps pK AK sK tK) :
    Keeps pK AK sK (State.romRecovery tK) := by
  refine Keeps.lift (B := 8390691) ?_ hA hK
  clear hK hA
  have hK : Keeps pK 8390691 tK tK := Keeps.refl ..
  simp (maxDischargeDepth := 60) +contextual only [State.romRecovery, Nat.reduceAnd, eq_self, true_or, or_true, devSame_refl, keeps_mk, keeps_State_raise, keeps_State_set, keeps_State_setFlag, hK]

theorem keeps_State_migrateStore {pK : Bool} {AK : Nat} {sK tK : State}  (hA : 8912999 &&& AK = 8912999)  (hK : Keeps pK AK sK tK) :
    Keeps pK AK sK (State.migrateStore tK) := by
  refine Keeps.lift (B := 8912999) ?_ hA hK
  clear hK hA
  have hK : Keeps pK 8912999 tK tK := Keeps.refl ..
  simp (maxDischargeDepth := 60) +contextual only [State.migrateStore, Nat.reduceAnd, eq_self, true_or, or_true, devSame_refl, keeps_ite, keeps_mk, keeps_State_commit, hK]

theorem keeps_State_bootSlot {pK : Bool} {AK : Nat} {sK tK : State} (b : Bool) (hA : 8912999 &&& AK = 8912999)  (hK : Keeps pK AK sK tK) :
    Keeps pK AK sK (State.bootSlot tK b) := by
  refine Keeps.lift (B := 8912999) ?_ hA hK
  clear hK hA
  have hK : Keeps pK 8912999 tK tK := Keeps.refl ..
  simp (maxDischargeDepth := 60) +contextual only [State.bootSlot, Nat.reduceAnd, eq_self, keeps_ite, keeps_State_burnFuses, keeps_State_clearBoot, keeps_State_migrateStore, keeps_State_set, hK]

theorem keeps_State_chooseSlot {pK : Bool} {AK : Nat} {sK tK : State}  (hA : 8915047 &&& AK = 8915047)  (hK : Keeps pK AK sK tK) :
    Keeps pK AK sK (State.chooseSlot tK) := by
  refine Keeps.lift (B := 8915047) ?_ hA hK
  clear hK hA
  have hK : Keeps pK 8915047 tK tK := Keeps.refl ..
  simp (maxDischargeDepth := 60) +contextual only [State.chooseSlot, Nat.reduceAnd, eq_self, keeps_ite, keeps_State_bootSlot, keeps_State_rejectSlot, keeps_State_romRecovery, hK]

theorem keeps_execFirmwareSelect {pK : Bool} {AK : Nat} {sK tK : State} (slotA : FwChecks) (slotB : FwChecks) (hA : 8915047 &&& AK = 8915047)  (hK : Keeps pK AK sK tK) :
    KeepsR pK AK sK (execFirmwareSelect slotA slotB tK) := by
  refine KeepsR.lift (B := 8915047) ?_ hA hK
  clear hK hA
  have hK : Keeps pK 8915047 tK tK := Keeps.refl ..
  simp (maxDischargeDepth := 60) +contextual only [execFirmwareSelect, Nat.reduceAnd, eq_self, keeps_ite, keepsR_next, KeepsP.fst, keeps_State_chooseSlot, keeps_State_fwCheck, keeps_State_romRecovery, hK]

theorem keeps_State_fwNotice {pK : Bool} {AK : Nat} {sK tK : State}  (hA : 25236387 &&& AK = 25236387)  (hK : Keeps pK AK sK tK) :
    Keeps pK AK sK (State.fwNotice tK) := by
  refine Keeps.lift (B := 25236387) ?_ hA hK
  clear hK hA
  have hK : Keeps pK 25236387 tK tK := Keeps.refl ..
  simp (maxDischargeDepth := 60) +contextual only [State.fwNotice, Nat.reduceAnd, eq_self, implies_true, keeps_foldl, keeps_State_asyncEvent, hK]

theorem keeps_State_beginSwitch {pK : Bool} {AK : Nat} {sK tK : State} (b : Bool) (phase : Nat) (hA : 524288 &&& AK = 524288)  (hK : Keeps pK AK sK tK) :
    Keeps pK AK sK (State.beginSwitch tK b phase) := by
  refine Keeps.lift (B := 524288) ?_ hA hK
  clear hK hA
  have hK : Keeps pK 524288 tK tK := Keeps.refl ..
  simp (maxDischargeDepth := 60) +contextual only [State.beginSwitch, Nat.reduceAnd, eq_self, true_or, or_true, devSame_refl, keeps_mk, hK]

theorem keeps_State_fwPairStep {pK : Bool} {AK : Nat} {sK tK : State} (window : Nat) (hA : 8948263 &&& AK = 8948263)  (hK : Keeps pK AK sK tK) :
    Keeps pK AK sK (State.fwPairStep tK window) := by
  refine Keeps.lift (B := 8948263) ?_ hA hK
  clear hK hA
  have hK : Keeps pK 8948263 tK tK := Keeps.refl ..
  simp (maxDischargeDepth := 60) +contextual only [State.fwPairStep, Nat.reduceAnd, eq_self, true_or, or_true, devSame_refl, keeps_ite, keeps_mk, keeps_State_askWarm, keeps_State_fwArm, hK]

theorem keeps_State_fwConfirmedStep {pK : Bool} {AK : Nat} {sK tK : State}  (hA : 8913443 &&& AK = 8913443)  (hK : Keeps pK AK sK tK) :
    Keeps pK AK sK (State.fwConfirmedStep tK) := by
  refine Keeps.lift (B := 8913443) ?_ hA hK
  clear hK hA
  have hK : Keeps pK 8913443 tK tK := Keeps.refl ..
  simp (maxDischargeDepth := 60) +contextual only [State.fwConfirmedStep, Nat.reduceAnd, eq_self, true_or, or_true, devSame_refl, keeps_ite, keeps_mk, keeps_State_askHandover, hK]

theorem keeps_State_fwFellBackStep {pK : Bool} {AK : Nat} {sK tK : State}  (hA : 524288 &&& AK = 524288)  (hK : Keeps pK AK sK tK) :
    Keeps pK AK sK (State.fwFellBackStep tK) := by
  refine Keeps.lift (B := 524288) ?_ hA hK
  clear hK hA
  have hK : Keeps pK 524288 tK tK := Keeps.refl ..
  simp (maxDischargeDepth := 60) +contextual only [State.fwFellBackStep, Nat.reduceAnd, eq_self, true_or, or_true, devSame_refl, keeps_ite, keeps_mk, hK]

theorem keeps_State_fwHandedOver {pK : Bool} {AK : Nat} {sK tK : State}  (hA : 8948263 &&& AK = 8948263)  (hK : Keeps pK AK sK tK) :
    Keeps pK AK sK (State.fwHandedOver tK) := by
  refine Keeps.lift (B := 8948263) ?_ hA hK
  clear hK hA
  have hK : Keeps pK 8948263 tK tK := Keeps.refl ..
  simp (maxDischargeDepth := 60) +contextual only [State.fwHandedOver, Nat.reduceAnd, eq_self, true_or, or_true, devSame_refl, keeps_ite, keeps_mk, keeps_State_askWarm, hK]

theorem keeps_State_fwActivate {pK : Bool} {AK : Nat} {sK tK : State} (mode : Nat) (window : Nat) (numbered : Bool) (hA : 16777215 &&& AK = 16777215)  (hK : Keeps pK AK sK tK) :
    Keeps pK AK sK (State.fwActivate tK mode window numbered) := by
  refine Keeps.lift (B := 16777215) ?_ hA hK
  clear hK hA
  have hK : Keeps pK 16777215 tK tK := Keeps.refl ..
  simp (maxDischargeDepth := 60) +contextual only [State.fwActivate, Nat.reduceAnd, eq_self, keeps_ite, keeps_State_askWarm, keeps_State_beginSwitch, keeps_State_bootSteps, keeps_State_fwArm, keeps_State_observe, keeps_State_resetTo_cold, hK]

theorem keeps_State_stopCluster {pK : Bool} {AK : Nat} {sK tK : State} (c : Nat) (hA : 8388640 &&& AK = 8388640)  (hK : Keeps pK AK sK tK) :
    Keeps pK AK sK (State.stopCluster tK c) := by
  refine Keeps.lift (B := 8388640) ?_ hA hK
  clear hK hA
  have hK : Keeps pK 8388640 tK tK := Keeps.refl ..
  simp (maxDischargeDepth := 60) +contextual only [State.stopCluster, Nat.reduceAnd, eq_self, true_or, or_true, implies_true, devSame_refl, keeps_foldl, keeps_mk, keeps_State_emit, hK]

theorem keeps_execClusterSwitch {pK : Bool} {AK : Nat} {sK tK : State}  (hA : 25760675 &&& AK = 25760675)  (hK : Keeps pK AK sK tK) :
    KeepsR pK AK sK (execClusterSwitch tK) := by
  refine KeepsR.lift (B := 25760675) ?_ hA hK
  clear hK hA
  have hK : Keeps pK 25760675 tK tK := Keeps.refl ..
  unfold execClusterSwitch
  (try dsimp only); (repeat' split) <;> simp (maxDischargeDepth := 60) +contextual only [Nat.reduceAnd, eq_self, true_or, or_true, implies_true, devSame_refl, keepsR_next, keeps_mk, keeps_State_clearBoot, keeps_State_fwNotice, keeps_State_raise, keeps_State_set, keeps_State_stepWrite, keeps_State_stopCluster, keeps_State_trialStart, hK]

theorem keeps_State_trialOver {pK : Bool} {AK : Nat} {sK tK : State}  (hA : 1 &&& AK = 1)  (hK : Keeps pK AK sK tK) :
    Keeps pK AK sK (State.trialOver tK) := by
  refine Keeps.lift (B := 1) ?_ hA hK
  clear hK hA
  have hK : Keeps pK 1 tK tK := Keeps.refl ..
  simp (maxDischargeDepth := 60) +contextual only [State.trialOver, Nat.reduceAnd, eq_self, keeps_State_setFlag, hK]

theorem keeps_State_fwConfirm {pK : Bool} {AK : Nat} {sK tK : State}  (hA : 8913511 &&& AK = 8913511)  (hK : Keeps pK AK sK tK) :
    Keeps pK AK sK (State.fwConfirm tK) := by
  refine Keeps.lift (B := 8913511) ?_ hA hK
  clear hK hA
  have hK : Keeps pK 8913511 tK tK := Keeps.refl ..
  simp (maxDischargeDepth := 60) +contextual only [State.fwConfirm, Nat.reduceAnd, eq_self, true_or, or_true, devSame_refl, keeps_ite, keeps_mk, keeps_State_burnFuses, keeps_State_commit, keeps_State_observe, keeps_State_raise, keeps_State_setFwSlot, keeps_State_trialOver, hK]

theorem keeps_State_fwReturn {pK : Bool} {AK : Nat} {sK tK : State}  (hA : 8948263 &&& AK = 8948263)  (hK : Keeps pK AK sK tK) :
    Keeps pK AK sK (State.fwReturn tK) := by
  refine Keeps.lift (B := 8948263) ?_ hA hK
  clear hK hA
  have hK : Keeps pK 8948263 tK tK := Keeps.refl ..
  simp (maxDischargeDepth := 60) +contextual only [State.fwReturn, Nat.reduceAnd, eq_self, true_or, or_true, devSame_refl, keeps_ite, keeps_mk, keeps_State_askHandover, keeps_State_askWarm, keeps_State_beginSwitch, keeps_State_observe, hK]

theorem keeps_State_fwReject {pK : Bool} {AK : Nat} {sK tK : State} (cause : Nat) (hA : 8948327 &&& AK = 8948327)  (hK : Keeps pK AK sK tK) :
    Keeps pK AK sK (State.fwReject tK cause) := by
  refine Keeps.lift (B := 8948327) ?_ hA hK
  clear hK hA
  have hK : Keeps pK 8948327 tK tK := Keeps.refl ..
  simp (maxDischargeDepth := 60) +contextual only [State.fwReject, Nat.reduceAnd, eq_self, keeps_ite, keeps_State_fwReturn, keeps_State_raise, keeps_State_rejectSlot, keeps_State_setFwSlot, keeps_State_trialOver, hK]

theorem keeps_execTrialEvaluation {pK : Bool} {AK : Nat} {sK tK : State}  (hA : 8913511 &&& AK = 8913511)  (hK : Keeps pK AK sK tK) :
    KeepsR pK AK sK (execTrialEvaluation tK) := by
  refine KeepsR.lift (B := 8913511) ?_ hA hK
  clear hK hA
  have hK : Keeps pK 8913511 tK tK := Keeps.refl ..
  simp (maxDischargeDepth := 60) +contextual only [execTrialEvaluation, Nat.reduceAnd, eq_self, keeps_ite, keepsR_next, keeps_State_fwConfirm, keeps_State_reach, hK]

theorem keeps_execTrialExpiry {pK : Bool} {AK : Nat} {sK tK : State}  (hA : 8948327 &&& AK = 8948327)  (hK : Keeps pK AK sK tK) :
    KeepsR pK AK sK (execTrialExpiry tK) := by
  refine KeepsR.lift (B := 8948327) ?_ hA hK
  clear hK hA
  have hK : Keeps pK 8948327 tK tK := Keeps.refl ..
  simp (maxDischargeDepth := 60) +contextual only [execTrialExpiry, Nat.reduceAnd, eq_self, keeps_ite, keepsR_next, keeps_State_fwReject, keeps_State_reach, hK]

theorem keeps_State_fwDownload {pK : Bool} {AK : Nat} {sK tK : State} (q : NvmQueue) (c : Cmd) (hA : 33159075 &&& AK = 33159075)  (hK : Keeps pK AK sK tK) :
    Keeps pK AK sK (State.fwDownload tK q c) := by
  refine Keeps.lift (B := 33159075) ?_ hA hK
  clear hK hA
  have hK : Keeps pK 33159075 tK tK := Keeps.refl ..
  unfold State.fwDownload
  (try dsimp only); (repeat' split) <;> simp (maxDischargeDepth := 60) +contextual only [Nat.reduceAnd, eq_self, keeps_State_endCmd, keeps_State_fetchData, hK]

theorem keeps_execFirmwareImageDownload {pK : Bool} {AK : Nat} {sK tK : State} (queue : Nat) (cap : Capsule) (hA : 33161123 &&& AK = 33161123)  (hK : Keeps pK AK sK tK) :
    KeepsR pK AK sK (execFirmwareImageDownload queue cap tK) := by
  refine KeepsR.lift (B := 33161123) ?_ hA hK
  clear hK hA
  have hK : Keeps pK 33161123 tK tK := Keeps.refl ..
  simp (maxDischargeDepth := 60) +contextual only [execFirmwareImageDownload, Nat.reduceAnd, eq_self, implies_true, keepsR_next, keeps_State_fwDownload, keeps_State_inStep, keeps_State_onCapsule, keeps_byEngines, hK]

theorem keeps_State_fwCommit {pK : Bool} {AK : Nat} {sK tK : State} (c : Cmd) (chk : FwChecks) (f : State → State × NvmeStatus) (hA : 25769891 &&& AK = 25769891) (hF_f : ∀ (t : State) , Keeps pK AK sK t → KeepsP pK AK sK (f t)) (hK : Keeps pK AK sK tK) :
    Keeps pK AK sK (State.fwCommit tK c chk f) := by
  have g0 : 1 &&& AK = 1 := sub_trans (by decide) hA
  have c0 : AK &&& 1 = 1 := by rw [Nat.and_comm]; exact g0
  have g1 : 2 &&& AK = 2 := sub_trans (by decide) hA
  have c1 : AK &&& 2 = 2 := by rw [Nat.and_comm]; exact g1
  have g2 : 32 &&& AK = 32 := sub_trans (by decide) hA
  have c2 : AK &&& 32 = 32 := by rw [Nat.and_comm]; exact g2
  have g3 : 128 &&& AK = 128 := sub_trans (by decide) hA
  have c3 : AK &&& 128 = 128 := by rw [Nat.and_comm]; exact g3
  have g4 : 256 &&& AK = 256 := sub_trans (by decide) hA
  have c4 : AK &&& 256 = 256 := by rw [Nat.and_comm]; exact g4
  have g5 : 512 &&& AK = 512 := sub_trans (by decide) hA
  have c5 : AK &&& 512 = 512 := by rw [Nat.and_comm]; exact g5
  have g6 : 1024 &&& AK = 1024 := sub_trans (by decide) hA
  have c6 : AK &&& 1024 = 1024 := by rw [Nat.and_comm]; exact g6
  have g7 : 4096 &&& AK = 4096 := sub_trans (by decide) hA
  have c7 : AK &&& 4096 = 4096 := by rw [Nat.and_comm]; exact g7
  have g8 : 8192 &&& AK = 8192 := sub_trans (by decide) hA
  have c8 : AK &&& 8192 = 8192 := by rw [Nat.and_comm]; exact g8
  have g9 : 65536 &&& AK = 65536 := sub_trans (by decide) hA
  have c9 : AK &&& 65536 = 65536 := by rw [Nat.and_comm]; exact g9
  have g10 : 524288 &&& AK = 524288 := sub_trans (by decide) hA
  have c10 : AK &&& 524288 = 524288 := by rw [Nat.and_comm]; exact g10
  have g11 : 8388608 &&& AK = 8388608 := sub_trans (by decide) hA
  have c11 : AK &&& 8388608 = 8388608 := by rw [Nat.and_comm]; exact g11
  have g12 : 8912931 &&& AK = 8912931 := sub_trans (by decide) hA
  have c12 : AK &&& 8912931 = 8912931 := by rw [Nat.and_comm]; exact g12
  have g13 : 16777216 &&& AK = 16777216 := sub_trans (by decide) hA
  have c13 : AK &&& 16777216 = 16777216 := by rw [Nat.and_comm]; exact g13
  have g14 : 25245603 &&& AK = 25245603 := sub_trans (by decide) hA
  have c14 : AK &&& 25245603 = 25245603 := by rw [Nat.and_comm]; exact g14
  unfold State.fwCommit
  (try dsimp only); (repeat' split) <;> simp (maxDischargeDepth := 60) +contextual only [eq_self, KeepsP.fst, keeps_State_endCmd, keeps_State_fwVerify, hK, hF_f, g12, g14]

theorem keeps_State_fwCommitActivate {pK : Bool} {AK : Nat} {sK tK : State} (act : State → State) (hA : 8912931 &&& AK = 8912931) (hF_act : ∀ (t : State) , Keeps pK AK sK t → Keeps pK AK sK (act t)) (hK : Keeps pK AK sK tK) :
    KeepsP pK AK sK (State.fwCommitActivate act tK) := by
  have g0 : 1 &&& AK = 1 := sub_trans (by decide) hA
  have c0 : AK &&& 1 = 1 := by rw [Nat.and_comm]; exact g0
  have g1 : 2 &&& AK = 2 := sub_trans (by decide) hA
  have c1 : AK &&& 2 = 2 := by rw [Nat.and_comm]; exact g1
  have g2 : 32 &&& AK = 32 := sub_trans (by decide) hA
  have c2 : AK &&& 32 = 32 := by rw [Nat.and_comm]; exact g2
  have g3 : 524288 &&& AK = 524288 := sub_trans (by decide) hA
  have c3 : AK &&& 524288 = 524288 := by rw [Nat.and_comm]; exact g3
  have g4 : 8388608 &&& AK = 8388608 := sub_trans (by decide) hA
  have c4 : AK &&& 8388608 = 8388608 := by rw [Nat.and_comm]; exact g4
  have g5 : 8912931 &&& AK = 8912931 := sub_trans (by decide) hA
  have c5 : AK &&& 8912931 = 8912931 := by rw [Nat.and_comm]; exact g5
  unfold State.fwCommitActivate
  (try dsimp only); (repeat' split) <;> simp (maxDischargeDepth := 60) +contextual only [eq_self, keepsP_mk, KeepsP.fst, keeps_State_fwActCheck, hK, hF_act, g5]

theorem keeps_State_onCommit {pK : Bool} {AK : Nat} {sK tK : State} (queue : Nat) (cap : Capsule) (mine : Nat → Bool) (f : State → NvmQueue → Cmd → State) (hA : 25247651 &&& AK = 25247651) (hF_f : ∀ (t : State) (x1 : NvmQueue) (x2 : Cmd), Keeps pK AK sK t → Keeps pK AK sK (f t x1 x2)) (hK : Keeps pK AK sK tK) :
    Keeps pK AK sK (State.onCommit tK queue cap mine f) := by
  have g0 : 1 &&& AK = 1 := sub_trans (by decide) hA
  have c0 : AK &&& 1 = 1 := by rw [Nat.and_comm]; exact g0
  have g1 : 2 &&& AK = 2 := sub_trans (by decide) hA
  have c1 : AK &&& 2 = 2 := by rw [Nat.and_comm]; exact g1
  have g2 : 32 &&& AK = 32 := sub_trans (by decide) hA
  have c2 : AK &&& 32 = 32 := by rw [Nat.and_comm]; exact g2
  have g3 : 128 &&& AK = 128 := sub_trans (by decide) hA
  have c3 : AK &&& 128 = 128 := by rw [Nat.and_comm]; exact g3
  have g4 : 256 &&& AK = 256 := sub_trans (by decide) hA
  have c4 : AK &&& 256 = 256 := by rw [Nat.and_comm]; exact g4
  have g5 : 512 &&& AK = 512 := sub_trans (by decide) hA
  have c5 : AK &&& 512 = 512 := by rw [Nat.and_comm]; exact g5
  have g6 : 1024 &&& AK = 1024 := sub_trans (by decide) hA
  have c6 : AK &&& 1024 = 1024 := by rw [Nat.and_comm]; exact g6
  have g7 : 2048 &&& AK = 2048 := sub_trans (by decide) hA
  have c7 : AK &&& 2048 = 2048 := by rw [Nat.and_comm]; exact g7
  have g8 : 4096 &&& AK = 4096 := sub_trans (by decide) hA
  have c8 : AK &&& 4096 = 4096 := by rw [Nat.and_comm]; exact g8
  have g9 : 8192 &&& AK = 8192 := sub_trans (by decide) hA
  have c9 : AK &&& 8192 = 8192 := by rw [Nat.and_comm]; exact g9
  have g10 : 65536 &&& AK = 65536 := sub_trans (by decide) hA
  have c10 : AK &&& 65536 = 65536 := by rw [Nat.and_comm]; exact g10
  have g11 : 8388608 &&& AK = 8388608 := sub_trans (by decide) hA
  have c11 : AK &&& 8388608 = 8388608 := by rw [Nat.and_comm]; exact g11
  have g12 : 16777216 &&& AK = 16777216 := sub_trans (by decide) hA
  have c12 : AK &&& 16777216 = 16777216 := by rw [Nat.and_comm]; exact g12
  have g13 : 25244707 &&& AK = 25244707 := sub_trans (by decide) hA
  have c13 : AK &&& 25244707 = 25244707 := by rw [Nat.and_comm]; exact g13
  have g14 : 25247651 &&& AK = 25247651 := sub_trans (by decide) hA
  have c14 : AK &&& 25247651 = 25247651 := by rw [Nat.and_comm]; exact g14
  simp (maxDischargeDepth := 60) +contextual only [State.onCommit, eq_self, implies_true, keeps_ite, keeps_State_onCapsule, keeps_byEngines, hK, hF_f, g13, g14]

theorem keeps_execFwCommitVerify {pK : Bool} {AK : Nat} {sK tK : State} (queue : Nat) (cap : Capsule) (chk : FwChecks) (hA : 25771939 &&& AK = 25771939)  (hK : Keeps pK AK sK tK) :
    KeepsR pK AK sK (execFwCommitVerify queue cap chk tK) := by
  refine KeepsR.lift (B := 25771939) ?_ hA hK
  clear hK hA
  have hK : Keeps pK 25771939 tK tK := Keeps.refl ..
  simp (maxDischargeDepth := 60) +contextual only [execFwCommitVerify, Nat.reduceAnd, eq_self, implies_true, keeps_ite, keepsR_next, keepsP_mk, keeps_State_endCmd, keeps_State_fwCommit, keeps_State_inStep, keeps_State_onCommit, hK]

theorem keeps_execFwCommitNextReset {pK : Bool} {AK : Nat} {sK tK : State} (queue : Nat) (cap : Capsule) (chk : FwChecks) (hA : 25771939 &&& AK = 25771939)  (hK : Keeps pK AK sK tK) :
    KeepsR pK AK sK (execFwCommitNextReset queue cap chk tK) := by
  refine KeepsR.lift (B := 25771939) ?_ hA hK
  clear hK hA
  have hK : Keeps pK 25771939 tK tK := Keeps.refl ..
  simp (maxDischargeDepth := 60) +contextual only [execFwCommitNextReset, Nat.reduceAnd, eq_self, implies_true, keepsR_next, keeps_State_fwArm, keeps_State_fwCommit, keeps_State_fwCommitActivate, keeps_State_inStep, keeps_State_onCommit, hK]

theorem keeps_State_fwCommitHeld {pK : Bool} {AK : Nat} {sK tK : State} (_q : NvmQueue) (c : Cmd) (hA : 25769891 &&& AK = 25769891)  (hK : Keeps pK AK sK tK) :
    Keeps pK AK sK (State.fwCommitHeld tK _q c) := by
  refine Keeps.lift (B := 25769891) ?_ hA hK
  clear hK hA
  have hK : Keeps pK 25769891 tK tK := Keeps.refl ..
  unfold State.fwCommitHeld
  (try dsimp only); (repeat' split) <;> simp (maxDischargeDepth := 60) +contextual only [Nat.reduceAnd, eq_self, KeepsP.fst, keeps_State_endCmd, keeps_State_fwActCheck, keeps_State_fwArm, hK]

theorem keeps_execFwCommitSlot {pK : Bool} {AK : Nat} {sK tK : State} (queue : Nat) (cap : Capsule) (hA : 25771939 &&& AK = 25771939)  (hK : Keeps pK AK sK tK) :
    KeepsR pK AK sK (execFwCommitSlot queue cap tK) := by
  refine KeepsR.lift (B := 25771939) ?_ hA hK
  clear hK hA
  have hK : Keeps pK 25771939 tK tK := Keeps.refl ..
  simp (maxDischargeDepth := 60) +contextual only [execFwCommitSlot, Nat.reduceAnd, eq_self, implies_true, keepsR_next, keeps_State_fwCommitHeld, keeps_State_inStep, keeps_State_onCommit, hK]

theorem keeps_execFwCommitNow {pK : Bool} {AK : Nat} {sK tK : State} (queue : Nat) (cap : Capsule) (chk : FwChecks) (partnerHolds : Bool) (hA : 33554431 &&& AK = 33554431)  (hK : Keeps pK AK sK tK) :
    KeepsR pK AK sK (execFwCommitNow queue cap chk partnerHolds tK) := by
  refine KeepsR.lift (B := 33554431) ?_ hA hK
  clear hK hA
  have hK : Keeps pK 33554431 tK tK := Keeps.refl ..
  simp (maxDischargeDepth := 60) +contextual only [execFwCommitNow, Nat.reduceAnd, eq_self, implies_true, keepsR_next, keepsP_mk, keepsP_ite, keeps_State_fwActivate, keeps_State_fwCommit, keeps_State_fwCommitActivate, keeps_State_inStep, keeps_State_onCommit, hK]

theorem keeps_State_after {pK : Bool} {AK : Nat} {sK tK : State} (r : Result) (hR : KeepsR pK AK sK r) (hK : Keeps pK AK sK tK) : Keeps pK AK sK (tK.after r) := by
  unfold State.after
  split
  · exact hR.out rfl
  · exact hK

theorem keeps_fabricsRow {pK : Bool} {AK : Nat} {sK tK : State} (queue : Nat) (cap : Capsule) (m : AuthMsg) (hA : 25247651 &&& AK = 25247651)  (hK : Keeps pK AK sK tK) :
    Keeps pK AK sK (fabricsRow queue cap m tK) := by
  refine Keeps.lift (B := 25247651) ?_ hA hK
  clear hK hA
  have hK : Keeps pK 25247651 tK tK := Keeps.refl ..
  unfold fabricsRow
  (try dsimp only)
  repeat' (first | assumption | rfl | (intro) | (with_reducible first | apply keepsR_next | apply keeps_foldl | apply keepsP_foldl | apply keeps_ite | apply keeps_cond | apply keepsR_ite | apply keepsP_ite | apply keepsO_pair | apply keepsO_none | apply keepsO_ite | apply keepsV_mk | apply keepsV_ite | apply keepsP_mk | apply keeps_State_after | apply keeps_execAuthReceive | apply keeps_execAuthSend | apply keeps_execDisconnect | apply keeps_execPropertyGet | apply keeps_execPropertySet) | simp only [keeps_mk_iff, devSame_refl, devSame_mk, Nat.reduceAnd, eq_self, true_or, or_true, implies_true] | (refine KeepsP.of_eq (by assumption) ?_) | (refine KeepsO.of_eq (by assumption) ?_) | (refine KeepsV.of_eq (by assumption) ?_) | split)

theorem keeps_adminRow {pK : Bool} {AK : Nat} {sK tK : State} (queue : Nat) (cap : Capsule) (chk : FwChecks) (partnerHolds : Bool) (hA : 33554431 &&& AK = 33554431)  (hK : Keeps pK AK sK tK) :
    Keeps pK AK sK (adminRow queue cap chk partnerHolds tK) := by
  refine Keeps.lift (B := 33554431) ?_ hA hK
  clear hK hA
  have hK : Keeps pK 33554431 tK tK := Keeps.refl ..
  unfold adminRow
  (try dsimp only)
  repeat' (first | assumption | rfl | (intro) | (with_reducible first | apply keepsR_next | apply keeps_foldl | apply keepsP_foldl | apply keeps_ite | apply keeps_cond | apply keepsR_ite | apply keepsP_ite | apply keepsO_pair | apply keepsO_none | apply keepsO_ite | apply keepsV_mk | apply keepsV_ite | apply keepsP_mk | apply keeps_State_after | apply keeps_execAbort | apply keeps_execAsyncEventRequest | apply keeps_execFirmwareImageDownload | apply keeps_execFwCommitNextReset | apply keeps_execFwCommitNow | apply keeps_execFwCommitSlot | apply keeps_execFwCommitVerify | apply keeps_execGetFeatures | apply keeps_execGetLogPage | apply keeps_execIdentify | apply keeps_execKeepAlive | apply keeps_execSetFeatures) | simp only [keeps_mk_iff, devSame_refl, devSame_mk, Nat.reduceAnd, eq_self, true_or, or_true, implies_true] | (refine KeepsP.of_eq (by assumption) ?_) | (refine KeepsO.of_eq (by assumption) ?_) | (refine KeepsV.of_eq (by assumption) ?_) | split)

theorem keeps_ioRow {pK : Bool} {AK : Nat} {sK tK : State} (queue : Nat) (cap : Capsule) (hA : 33161187 &&& AK = 33161187)  (hK : Keeps pK AK sK tK) :
    Keeps pK AK sK (ioRow queue cap tK) := by
  refine Keeps.lift (B := 33161187) ?_ hA hK
  clear hK hA
  have hK : Keeps pK 33161187 tK tK := Keeps.refl ..
  simp (maxDischargeDepth := 60) +contextual only [ioRow, Nat.reduceAnd, eq_self, keeps_ite, keeps_State_after, keeps_execCompare, keeps_execDatasetManagement, keeps_execFlush, keeps_execNvmeRead, keeps_execNvmeWrite, keeps_execReservationAcquire, keeps_execReservationRegister, keeps_execReservationRelease, keeps_execReservationReport, keeps_execVerify, keeps_execWriteZeroes, hK]

theorem keeps_execChuteAdmit {pK : Bool} {AK : Nat} {sK tK : State} (m : AuthMsg) (chk : FwChecks) (partnerHolds : Bool) (hA : 33554431 &&& AK = 33554431)  (hK : Keeps pK AK sK tK) :
    KeepsR pK AK sK (execChuteAdmit m chk partnerHolds tK) := by
  refine KeepsR.lift (B := 33554431) ?_ hA hK
  clear hK hA
  have hK : Keeps pK 33554431 tK tK := Keeps.refl ..
  unfold execChuteAdmit
  (try dsimp only); (repeat' split) <;> simp (maxDischargeDepth := 60) +contextual only [Nat.reduceAnd, eq_self, or_true, devSame_refl, keepsR_next, keeps_mk, keeps_adminRow, keeps_fabricsRow, keeps_ioRow, hK]

/-! ## Machine/PatternLoad.lean -/

theorem keeps_State_patCold {pK : Bool} {AK : Nat} {sK tK : State}  (hA : 1 &&& AK = 1)  (hK : Keeps pK AK sK tK) :
    Keeps pK AK sK (State.patCold tK) := by
  refine Keeps.lift (B := 1) ?_ hA hK
  clear hK hA
  have hK : Keeps pK 1 tK tK := Keeps.refl ..
  simp (maxDischargeDepth := 60) +contextual only [State.patCold, Nat.reduceAnd, eq_self, keeps_State_set, hK]

theorem keeps_State_patWarm {pK : Bool} {AK : Nat} {sK tK : State}  (hA : 1 &&& AK = 1)  (hK : Keeps pK AK sK tK) :
    Keeps pK AK sK (State.patWarm tK) := by
  refine Keeps.lift (B := 1) ?_ hA hK
  clear hK hA
  have hK : Keeps pK 1 tK tK := Keeps.refl ..
  simp (maxDischargeDepth := 60) +contextual only [State.patWarm, Nat.reduceAnd, eq_self, implies_true, keeps_foldl, keeps_State_set, keeps_State_setFlag, hK]

theorem keeps_State_putInForce {pK : Bool} {AK : Nat} {sK tK : State} (rs : List PatRec) (warm : Bool) (hA : 8454247 &&& AK = 8454247)  (hK : Keeps pK AK sK tK) :
    Keeps pK AK sK (State.putInForce tK rs warm) := by
  refine Keeps.lift (B := 8454247) ?_ hA hK
  clear hK hA
  have hK : Keeps pK 8454247 tK tK := Keeps.refl ..
  simp (maxDischargeDepth := 60) +contextual only [State.putInForce, Nat.reduceAnd, eq_self, true_or, or_true, devSame_refl, keeps_ite, keeps_mk, keeps_State_loadGates, keeps_State_ovlDiscarded, keeps_State_patCold, keeps_State_patWarm, keeps_State_showPending, hK]

theorem keeps_State_loaded {pK : Bool} {AK : Nat} {sK tK : State} (user : Bool) (hA : 8388643 &&& AK = 8388643)  (hK : Keeps pK AK sK tK) :
    Keeps pK AK sK (State.loaded tK user) := by
  refine Keeps.lift (B := 8388643) ?_ hA hK
  clear hK hA
  have hK : Keeps pK 8388643 tK tK := Keeps.refl ..
  simp (maxDischargeDepth := 60) +contextual only [State.loaded, Nat.reduceAnd, eq_self, keeps_State_patWarns, keeps_State_raise, keeps_State_set, keeps_State_setFlag, keeps_State_showSource, hK]

theorem keeps_State_factoryFails {pK : Bool} {AK : Nat} {sK tK : State}  (hA : 8390759 &&& AK = 8390759)  (hK : Keeps pK AK sK tK) :
    Keeps pK AK sK (State.factoryFails tK) := by
  refine Keeps.lift (B := 8390759) ?_ hA hK
  clear hK hA
  have hK : Keeps pK 8390759 tK tK := Keeps.refl ..
  simp (maxDischargeDepth := 60) +contextual only [State.factoryFails, Nat.reduceAnd, eq_self, true_or, or_true, devSame_refl, keeps_mk, keeps_State_patError, hK]

theorem keeps_execPatternLoad {pK : Bool} {AK : Nat} {sK tK : State} (chk : LoadChecks) (hA : 8456295 &&& AK = 8456295)  (hK : Keeps pK AK sK tK) :
    KeepsR pK AK sK (execPatternLoad chk tK) := by
  refine KeepsR.lift (B := 8456295) ?_ hA hK
  clear hK hA
  have hK : Keeps pK 8456295 tK tK := Keeps.refl ..
  unfold execPatternLoad
  (try dsimp only); (repeat' split) <;> simp (maxDischargeDepth := 60) +contextual only [Nat.reduceAnd, eq_self, keepsR_next, keeps_State_factoryFails, keeps_State_loaded, keeps_State_patError, keeps_State_putInForce, hK]

/-! ## Machine/Tasks.lean -/

theorem keeps_State_moveRun {pK : Bool} {AK : Nat} {sK tK : State} (r : TaskRun) (r' : TaskRun) (hA : 16 &&& AK = 16)  (hK : Keeps pK AK sK tK) :
    Keeps pK AK sK (State.moveRun tK r r') := by
  refine Keeps.lift (B := 16) ?_ hA hK
  clear hK hA
  have hK : Keeps pK 16 tK tK := Keeps.refl ..
  simp (maxDischargeDepth := 60) +contextual only [State.moveRun, Nat.reduceAnd, eq_self, true_or, or_true, devSame_refl, keeps_mk, hK]

theorem keeps_State_finishTask {pK : Bool} {AK : Nat} {sK tK : State} (r : TaskRun) (code : Nat) (res : List Nat) (hA : 8388659 &&& AK = 8388659)  (hK : Keeps pK AK sK tK) :
    Keeps pK AK sK (State.finishTask tK r code res) := by
  refine Keeps.lift (B := 8388659) ?_ hA hK
  clear hK hA
  have hK : Keeps pK 8388659 tK tK := Keeps.refl ..
  simp (maxDischargeDepth := 60) +contextual only [State.finishTask, Nat.reduceAnd, eq_self, true_or, or_true, implies_true, devSame_refl, keeps_ite, keeps_foldl, keeps_mk, keeps_State_raise, keeps_State_set, keeps_State_setFlag, hK]

theorem keeps_State_endRun {pK : Bool} {AK : Nat} {sK tK : State} (r : TaskRun) (code : Nat) (res : List Nat) (hA : 8388659 &&& AK = 8388659)  (hK : Keeps pK AK sK tK) :
    Keeps pK AK sK (State.endRun tK r code res) := by
  refine Keeps.lift (B := 8388659) ?_ hA hK
  clear hK hA
  have hK : Keeps pK 8388659 tK tK := Keeps.refl ..
  simp (maxDischargeDepth := 60) +contextual only [State.endRun, Nat.reduceAnd, eq_self, true_or, or_true, devSame_refl, keeps_ite, keeps_mk, keeps_State_finishTask, keeps_State_moveRun, hK]

theorem keeps_State_settleRun {pK : Bool} {AK : Nat} {sK tK : State} (r : TaskRun) (x : TaskStep) (hA : 8388727 &&& AK = 8388727)  (hK : Keeps pK AK sK tK) :
    Keeps pK AK sK (State.settleRun tK r x) := by
  refine Keeps.lift (B := 8388727) ?_ hA hK
  clear hK hA
  have hK : Keeps pK 8388727 tK tK := Keeps.refl ..
  unfold State.settleRun
  (try dsimp only); (repeat' split) <;> simp (maxDischargeDepth := 60) +contextual only [Nat.reduceAnd, eq_self, keeps_State_commit, keeps_State_endRun, keeps_State_moveRun, keeps_State_refuseCommit, hK]

theorem keeps_State_setDelivery {pK : Bool} {AK : Nat} {sK tK : State} (d : Option (Nat × List Byte)) (hA : 4 &&& AK = 4)  (hK : Keeps pK AK sK tK) :
    Keeps pK AK sK (State.setDelivery tK d) := by
  refine Keeps.lift (B := 4) ?_ hA hK
  clear hK hA
  have hK : Keeps pK 4 tK tK := Keeps.refl ..
  simp (maxDischargeDepth := 60) +contextual only [State.setDelivery, Nat.reduceAnd, eq_self, true_or, or_true, devSame_refl, keeps_mk, hK]

theorem keeps_taskPatBlock {pK : Bool} {AK : Nat} {sK tK : State} (r : TaskRun) (hA : 4 &&& AK = 4)  (hK : Keeps pK AK sK tK) :
    KeepsP pK AK sK (taskPatBlock tK r) := by
  refine KeepsP.lift (B := 4) ?_ hA hK
  clear hK hA
  have hK : Keeps pK 4 tK tK := Keeps.refl ..
  unfold taskPatBlock
  (try dsimp only); (repeat' split) <;> simp (maxDischargeDepth := 60) +contextual only [Nat.reduceAnd, eq_self, keepsP_mk, keeps_State_setDelivery, hK]

theorem keeps_State_patRejected {pK : Bool} {AK : Nat} {sK tK : State} (e : PatErr) (hA : 8388707 &&& AK = 8388707)  (hK : Keeps pK AK sK tK) :
    KeepsP pK AK sK (State.patRejected tK e) := by
  refine KeepsP.lift (B := 8388707) ?_ hA hK
  clear hK hA
  have hK : Keeps pK 8388707 tK tK := Keeps.refl ..
  simp (maxDischargeDepth := 60) +contextual only [State.patRejected, Nat.reduceAnd, eq_self, keepsP_mk, keeps_State_patError, hK]

theorem keeps_taskPatCommit {pK : Bool} {AK : Nat} {sK tK : State} (r : TaskRun) (hA : 8388711 &&& AK = 8388711)  (hK : Keeps pK AK sK tK) :
    KeepsP pK AK sK (taskPatCommit tK r) := by
  refine KeepsP.lift (B := 8388711) ?_ hA hK
  clear hK hA
  have hK : Keeps pK 8388711 tK tK := Keeps.refl ..
  unfold taskPatCommit
  (try dsimp only); (repeat' split) <;> simp (maxDischargeDepth := 60) +contextual only [Nat.reduceAnd, eq_self, keepsP_mk, keeps_State_patRejected, keeps_State_setDelivery, hK]

theorem keeps_taskPatAbort {pK : Bool} {AK : Nat} {sK tK : State} (_r : TaskRun) (hA : 4 &&& AK = 4)  (hK : Keeps pK AK sK tK) :
    KeepsP pK AK sK (taskPatAbort tK _r) := by
  refine KeepsP.lift (B := 4) ?_ hA hK
  clear hK hA
  have hK : Keeps pK 4 tK tK := Keeps.refl ..
  simp (maxDischargeDepth := 60) +contextual only [taskPatAbort, Nat.reduceAnd, eq_self, keepsP_mk, keeps_State_setDelivery, hK]

theorem keeps_taskOverlaySet {pK : Bool} {AK : Nat} {sK tK : State} (r : TaskRun) (hA : 0 &&& AK = 0)  (hK : Keeps pK AK sK tK) :
    KeepsP pK AK sK (taskOverlaySet tK r) := by
  refine KeepsP.lift (B := 0) ?_ hA hK
  clear hK hA
  have hK : Keeps pK 0 tK tK := Keeps.refl ..
  unfold taskOverlaySet
  (try dsimp only); (repeat' split) <;> simp (maxDischargeDepth := 60) +contextual only [keepsP_mk, hK]

theorem keeps_State_burnOwner {pK : Bool} {AK : Nat} {sK tK : State} (digest : Nat) (hA : 2 &&& AK = 2)  (hK : Keeps pK AK sK tK) :
    Keeps pK AK sK (State.burnOwner tK digest) := by
  refine Keeps.lift (B := 2) ?_ hA hK
  clear hK hA
  have hK : Keeps pK 2 tK tK := Keeps.refl ..
  refine { hK with owner := hK.owner.trans ?_, frame := fun c => by cases c <;> first | exact Or.inl rfl | exact hK.frame _ }
  unfold State.burnOwner
  dsimp only
  have h1 : OwnerKept tK.dev.ownerKeys (tK.dev.ownerKeys.set (tK.dev.ownerKeys.takeWhile (fun k => k.1.isSome)).length (some digest, false)) :=
    ownerKept_set (fun d r h => by have := takeWhile_stop _ _ _ h; simp at this)
  split
  · exact h1
  · rename_i hi
    refine h1.trans (ownerKept_set (fun d r h => ?_))
    rw [List.getD_eq_getElem?_getD, h]
    exact ⟨rfl, fun _ => rfl⟩

theorem keeps_taskOwnerCommission {pK : Bool} {AK : Nat} {sK tK : State} (r : TaskRun) (hA : 2 &&& AK = 2)  (hK : Keeps pK AK sK tK) :
    KeepsP pK AK sK (taskOwnerCommission tK r) := by
  refine KeepsP.lift (B := 2) ?_ hA hK
  clear hK hA
  have hK : Keeps pK 2 tK tK := Keeps.refl ..
  simp (maxDischargeDepth := 60) +contextual only [taskOwnerCommission, Nat.reduceAnd, eq_self, keepsP_mk, keepsP_ite, keeps_State_burnOwner, hK]

theorem keeps_State_signedTask {pK : Bool} {AK : Nat} {sK tK : State} (r : TaskRun) (f : State → List Byte → State × Except Nat (List StoreChange)) (hA : 8388643 &&& AK = 8388643) (hF_f : ∀ (t : State) (x1 : List Byte), Keeps pK AK sK t → KeepsP pK AK sK (f t x1)) (hK : Keeps pK AK sK tK) :
    KeepsP pK AK sK (State.signedTask tK r f) := by
  have g0 : 1 &&& AK = 1 := sub_trans (by decide) hA
  have c0 : AK &&& 1 = 1 := by rw [Nat.and_comm]; exact g0
  have g1 : 2 &&& AK = 2 := sub_trans (by decide) hA
  have c1 : AK &&& 2 = 2 := by rw [Nat.and_comm]; exact g1
  have g2 : 32 &&& AK = 32 := sub_trans (by decide) hA
  have c2 : AK &&& 32 = 32 := by rw [Nat.and_comm]; exact g2
  have g3 : 8388608 &&& AK = 8388608 := sub_trans (by decide) hA
  have c3 : AK &&& 8388608 = 8388608 := by rw [Nat.and_comm]; exact g3
  have g4 : 8388643 &&& AK = 8388643 := sub_trans (by decide) hA
  have c4 : AK &&& 8388643 = 8388643 := by rw [Nat.and_comm]; exact g4
  unfold State.signedTask
  (try dsimp only)
  repeat' (first | assumption | rfl | (intro) | (with_reducible first | apply keepsR_next | apply keeps_foldl | apply keepsP_foldl | apply keeps_ite | apply keeps_cond | apply keepsR_ite | apply keepsP_ite | apply keepsO_pair | apply keepsO_none | apply keepsO_ite | apply keepsV_mk | apply keepsV_ite | apply keepsP_mk | apply keeps_State_raise | apply hF_f) | simp only [] | (refine KeepsP.of_eq (by assumption) ?_) | (refine KeepsO.of_eq (by assumption) ?_) | (refine KeepsV.of_eq (by assumption) ?_) | split | exact KeepsP.fst (hF_f _ _ hK))

theorem keeps_taskOwnerRotate {pK : Bool} {AK : Nat} {sK tK : State} (r : TaskRun) (hA : 8388643 &&& AK = 8388643)  (hK : Keeps pK AK sK tK) :
    KeepsP pK AK sK (taskOwnerRotate tK r) := by
  refine KeepsP.lift (B := 8388643) ?_ hA hK
  clear hK hA
  have hK : Keeps pK 8388643 tK tK := Keeps.refl ..
  simp (maxDischargeDepth := 60) +contextual only [taskOwnerRotate, Nat.reduceAnd, eq_self, implies_true, keepsP_mk, keepsP_ite, keeps_State_burnOwner, keeps_State_signedTask, hK]

theorem keeps_taskKeyInstall {pK : Bool} {AK : Nat} {sK tK : State} (r : TaskRun) (hA : 8388643 &&& AK = 8388643)  (hK : Keeps pK AK sK tK) :
    KeepsP pK AK sK (taskKeyInstall tK r) := by
  refine KeepsP.lift (B := 8388643) ?_ hA hK
  clear hK hA
  have hK : Keeps pK 8388643 tK tK := Keeps.refl ..
  unfold taskKeyInstall
  (try dsimp only); (repeat' split) <;> simp (maxDischargeDepth := 60) +contextual only [Nat.reduceAnd, eq_self, implies_true, keepsP_mk, keepsP_ite, keeps_State_signedTask, hK]

theorem keeps_taskKeySwitch {pK : Bool} {AK : Nat} {sK tK : State} (r : TaskRun) (hA : 8388643 &&& AK = 8388643)  (hK : Keeps pK AK sK tK) :
    KeepsP pK AK sK (taskKeySwitch tK r) := by
  refine KeepsP.lift (B := 8388643) ?_ hA hK
  clear hK hA
  have hK : Keeps pK 8388643 tK tK := Keeps.refl ..
  simp (maxDischargeDepth := 60) +contextual only [taskKeySwitch, Nat.reduceAnd, eq_self, implies_true, keepsP_mk, keepsP_ite, keeps_State_signedTask, hK]

theorem keeps_taskKeyRetire {pK : Bool} {AK : Nat} {sK tK : State} (r : TaskRun) (hA : 8388643 &&& AK = 8388643)  (hK : Keeps pK AK sK tK) :
    KeepsP pK AK sK (taskKeyRetire tK r) := by
  refine KeepsP.lift (B := 8388643) ?_ hA hK
  clear hK hA
  have hK : Keeps pK 8388643 tK tK := Keeps.refl ..
  simp (maxDischargeDepth := 60) +contextual only [taskKeyRetire, Nat.reduceAnd, eq_self, implies_true, keepsP_mk, keepsP_ite, keeps_State_signedTask, hK]

theorem keeps_taskAdmitSet {pK : Bool} {AK : Nat} {sK tK : State} (r : TaskRun) (hA : 8388643 &&& AK = 8388643)  (hK : Keeps pK AK sK tK) :
    KeepsP pK AK sK (taskAdmitSet tK r) := by
  refine KeepsP.lift (B := 8388643) ?_ hA hK
  clear hK hA
  have hK : Keeps pK 8388643 tK tK := Keeps.refl ..
  simp (maxDischargeDepth := 60) +contextual only [taskAdmitSet, Nat.reduceAnd, eq_self, implies_true, keepsP_mk, keepsP_ite, keeps_State_signedTask, hK]

theorem keeps_taskFwBlock {pK : Bool} {AK : Nat} {sK tK : State} (r : TaskRun) (hA : 524288 &&& AK = 524288)  (hK : Keeps pK AK sK tK) :
    KeepsP pK AK sK (taskFwBlock tK r) := by
  refine KeepsP.lift (B := 524288) ?_ hA hK
  clear hK hA
  have hK : Keeps pK 524288 tK tK := Keeps.refl ..
  unfold taskFwBlock
  (try dsimp only); (repeat' split) <;> simp (maxDischargeDepth := 60) +contextual only [Nat.reduceAnd, eq_self, keepsP_mk, keeps_State_fwOpen, keeps_State_fwProgram, hK]

theorem keeps_taskFwAbort {pK : Bool} {AK : Nat} {sK tK : State} (_r : TaskRun) (hA : 524288 &&& AK = 524288)  (hK : Keeps pK AK sK tK) :
    KeepsP pK AK sK (taskFwAbort tK _r) := by
  refine KeepsP.lift (B := 524288) ?_ hA hK
  clear hK hA
  have hK : Keeps pK 524288 tK tK := Keeps.refl ..
  simp (maxDischargeDepth := 60) +contextual only [taskFwAbort, Nat.reduceAnd, eq_self, keepsP_mk, keeps_State_fwClose, hK]

theorem keeps_taskFwActivate {pK : Bool} {AK : Nat} {sK tK : State} (r : TaskRun) (hA : 16777215 &&& AK = 16777215)  (hK : Keeps pK AK sK tK) :
    KeepsP pK AK sK (taskFwActivate tK r) := by
  refine KeepsP.lift (B := 16777215) ?_ hA hK
  clear hK hA
  have hK : Keeps pK 16777215 tK tK := Keeps.refl ..
  unfold taskFwActivate
  (try dsimp only); (repeat' split) <;> simp (maxDischargeDepth := 60) +contextual only [Nat.reduceAnd, eq_self, keepsP_mk, KeepsP.fst, keeps_State_fwActCheck, keeps_State_fwActivate, hK]

theorem keeps_taskFwConfirm {pK : Bool} {AK : Nat} {sK tK : State} (_r : TaskRun) (hA : 8913511 &&& AK = 8913511)  (hK : Keeps pK AK sK tK) :
    KeepsP pK AK sK (taskFwConfirm tK _r) := by
  refine KeepsP.lift (B := 8913511) ?_ hA hK
  clear hK hA
  have hK : Keeps pK 8913511 tK tK := Keeps.refl ..
  simp (maxDischargeDepth := 60) +contextual only [taskFwConfirm, Nat.reduceAnd, eq_self, keepsP_mk, keepsP_ite, keeps_State_fwConfirm, hK]

theorem keeps_taskFwReject {pK : Bool} {AK : Nat} {sK tK : State} (_r : TaskRun) (hA : 0 &&& AK = 0)  (hK : Keeps pK AK sK tK) :
    KeepsP pK AK sK (taskFwReject tK _r) := by
  refine KeepsP.lift (B := 0) ?_ hA hK
  clear hK hA
  have hK : Keeps pK 0 tK tK := Keeps.refl ..
  simp (maxDischargeDepth := 60) +contextual only [taskFwReject, keepsP_mk, keepsP_ite, hK]

theorem keeps_State_acceptDrive {pK : Bool} {AK : Nat} {sK tK : State} (port : Nat) (g : Nat) (m : Nat) (hA : 32630307 &&& AK = 32630307)  (hK : Keeps pK AK sK tK) :
    Keeps pK AK sK (State.acceptDrive tK port g m) := by
  refine Keeps.lift (B := 32630307) ?_ hA hK
  clear hK hA
  have hK : Keeps pK 32630307 tK tK := Keeps.refl ..
  unfold State.acceptDrive
  (try dsimp only); (repeat' split) <;> simp (maxDischargeDepth := 60) +contextual only [Nat.reduceAnd, eq_self, true_or, or_true, devSame_refl, keeps_mk, keeps_State_portAt, keeps_State_setGrp, keeps_State_setPort, keeps_State_startBrand, keeps_State_stepped, keeps_State_vaultChanged, hK]

theorem keeps_taskDriveAccept {pK : Bool} {AK : Nat} {sK tK : State} (r : TaskRun) (hA : 32630307 &&& AK = 32630307)  (hK : Keeps pK AK sK tK) :
    KeepsP pK AK sK (taskDriveAccept tK r) := by
  refine KeepsP.lift (B := 32630307) ?_ hA hK
  clear hK hA
  have hK : Keeps pK 32630307 tK tK := Keeps.refl ..
  simp (maxDischargeDepth := 60) +contextual only [taskDriveAccept, Nat.reduceAnd, eq_self, keepsP_mk, keepsP_ite, keeps_State_acceptDrive, hK]

theorem keeps_taskMemberFail {pK : Bool} {AK : Nat} {sK tK : State} (r : TaskRun) (hA : 32630307 &&& AK = 32630307)  (hK : Keeps pK AK sK tK) :
    KeepsP pK AK sK (taskMemberFail tK r) := by
  refine KeepsP.lift (B := 32630307) ?_ hA hK
  clear hK hA
  have hK : Keeps pK 32630307 tK tK := Keeps.refl ..
  simp (maxDischargeDepth := 60) +contextual only [taskMemberFail, Nat.reduceAnd, eq_self, keepsP_mk, keepsP_ite, keeps_State_failMember, hK]

theorem keeps_State_driveAdmin {pK : Bool} {AK : Nat} {sK tK : State} (port : Nat) (opcode : Nat) (hA : 1024 &&& AK = 1024)  (hK : Keeps pK AK sK tK) :
    Keeps pK AK sK (State.driveAdmin tK port opcode) := by
  refine Keeps.lift (B := 1024) ?_ hA hK
  clear hK hA
  have hK : Keeps pK 1024 tK tK := Keeps.refl ..
  simp (maxDischargeDepth := 60) +contextual only [State.driveAdmin, Nat.reduceAnd, eq_self, keeps_State_setPort, hK]

theorem keeps_taskDriveFw {pK : Bool} {AK : Nat} {sK tK : State} (r : TaskRun) (hA : 1024 &&& AK = 1024)  (hK : Keeps pK AK sK tK) :
    KeepsP pK AK sK (taskDriveFw tK r) := by
  refine KeepsP.lift (B := 1024) ?_ hA hK
  clear hK hA
  have hK : Keeps pK 1024 tK tK := Keeps.refl ..
  simp (maxDischargeDepth := 60) +contextual only [taskDriveFw, Nat.reduceAnd, eq_self, keepsP_mk, keepsP_ite, keeps_State_driveAdmin, hK]

theorem keeps_State_driveFwStep {pK : Bool} {AK : Nat} {sK tK : State} (port : Nat) (opcode : Nat) (status : Nat) (hA : 8389683 &&& AK = 8389683)  (hK : Keeps pK AK sK tK) :
    Keeps pK AK sK (State.driveFwStep tK port opcode status) := by
  refine Keeps.lift (B := 8389683) ?_ hA hK
  clear hK hA
  have hK : Keeps pK 8389683 tK tK := Keeps.refl ..
  unfold State.driveFwStep
  (try dsimp only); (repeat' split) <;> simp (maxDischargeDepth := 60) +contextual only [Nat.reduceAnd, eq_self, keeps_State_driveAdmin, keeps_State_endRun, hK]

theorem keeps_State_driveFwLost {pK : Bool} {AK : Nat} {sK tK : State}  (hA : 8388659 &&& AK = 8388659)  (hK : Keeps pK AK sK tK) :
    Keeps pK AK sK (State.driveFwLost tK) := by
  refine Keeps.lift (B := 8388659) ?_ hA hK
  clear hK hA
  have hK : Keeps pK 8388659 tK tK := Keeps.refl ..
  unfold State.driveFwLost
  (try dsimp only); (repeat' split) <;> simp (maxDischargeDepth := 60) +contextual only [Nat.reduceAnd, eq_self, keeps_State_endRun, hK]

theorem keeps_taskMigStart {pK : Bool} {AK : Nat} {sK tK : State} (r : TaskRun) (hA : 16809984 &&& AK = 16809984)  (hK : Keeps pK AK sK tK) :
    KeepsP pK AK sK (taskMigStart tK r) := by
  refine KeepsP.lift (B := 16809984) ?_ hA hK
  clear hK hA
  have hK : Keeps pK 16809984 tK tK := Keeps.refl ..
  unfold taskMigStart
  (try dsimp only); (repeat' split) <;> simp (maxDischargeDepth := 60) +contextual only [Nat.reduceAnd, eq_self, true_or, or_true, devSame_refl, keepsP_mk, keeps_mk, keeps_State_drawn, hK]

theorem keeps_taskMigCutover {pK : Bool} {AK : Nat} {sK tK : State} (r : TaskRun) (hA : 32768 &&& AK = 32768)  (hK : Keeps pK AK sK tK) :
    KeepsP pK AK sK (taskMigCutover tK r) := by
  refine KeepsP.lift (B := 32768) ?_ hA hK
  clear hK hA
  have hK : Keeps pK 32768 tK tK := Keeps.refl ..
  unfold taskMigCutover
  (try dsimp only); (repeat' split) <;> simp (maxDischargeDepth := 60) +contextual only [Nat.reduceAnd, eq_self, keepsP_mk, keeps_State_setMig, hK]

theorem keeps_taskMigCancel {pK : Bool} {AK : Nat} {sK tK : State} (r : TaskRun) (hA : 8421411 &&& AK = 8421411)  (hK : Keeps pK AK sK tK) :
    KeepsP pK AK sK (taskMigCancel tK r) := by
  refine KeepsP.lift (B := 8421411) ?_ hA hK
  clear hK hA
  have hK : Keeps pK 8421411 tK tK := Keeps.refl ..
  unfold taskMigCancel
  (try dsimp only); (repeat' split) <;> simp (maxDischargeDepth := 60) +contextual only [Nat.reduceAnd, eq_self, keepsP_mk, keeps_State_raise, keeps_State_setMig, hK]

theorem keeps_taskAddrSet {pK : Bool} {AK : Nat} {sK tK : State} (r : TaskRun) (hA : 256 &&& AK = 256)  (hK : Keeps pK AK sK tK) :
    KeepsP pK AK sK (taskAddrSet tK r) := by
  refine KeepsP.lift (B := 256) ?_ hA hK
  clear hK hA
  have hK : Keeps pK 256 tK tK := Keeps.refl ..
  simp (maxDischargeDepth := 60) +contextual only [taskAddrSet, Nat.reduceAnd, eq_self, keepsP_mk, keepsP_ite, keeps_State_setAddr, hK]

theorem keeps_taskPowerEnter {pK : Bool} {AK : Nat} {sK tK : State} (r : TaskRun) (hA : 32632419 &&& AK = 32632419)  (hK : Keeps pK AK sK tK) :
    KeepsP pK AK sK (taskPowerEnter tK r) := by
  refine KeepsP.lift (B := 32632419) ?_ hA hK
  clear hK hA
  have hK : Keeps pK 32632419 tK tK := Keeps.refl ..
  unfold taskPowerEnter
  (try dsimp only); (repeat' split) <;> simp (maxDischargeDepth := 60) +contextual only [Nat.reduceAnd, eq_self, keepsP_mk, KeepsP.fst, keeps_State_enter, hK]

theorem keeps_taskIdentity {pK : Bool} {AK : Nat} {sK tK : State} (r : TaskRun) (hA : 8388608 &&& AK = 8388608)  (hK : Keeps pK AK sK tK) :
    KeepsP pK AK sK (taskIdentity tK r) := by
  refine KeepsP.lift (B := 8388608) ?_ hA hK
  clear hK hA
  have hK : Keeps pK 8388608 tK tK := Keeps.refl ..
  simp (maxDischargeDepth := 60) +contextual only [taskIdentity, Nat.reduceAnd, eq_self, keepsP_mk, keepsP_ite, keeps_State_emit, hK]

theorem keeps_taskLedgerRead {pK : Bool} {AK : Nat} {sK tK : State} (r : TaskRun) (hA : 8388608 &&& AK = 8388608)  (hK : Keeps pK AK sK tK) :
    KeepsP pK AK sK (taskLedgerRead tK r) := by
  refine KeepsP.lift (B := 8388608) ?_ hA hK
  clear hK hA
  have hK : Keeps pK 8388608 tK tK := Keeps.refl ..
  simp (maxDischargeDepth := 60) +contextual only [taskLedgerRead, Nat.reduceAnd, eq_self, keepsP_mk, keepsP_ite, keeps_State_emit, hK]

theorem keeps_State_carryOut {pK : Bool} {AK : Nat} {sK tK : State} (r : TaskRun) (hA : 33554431 &&& AK = 33554431)  (hK : Keeps pK AK sK tK) :
    KeepsP pK AK sK (State.carryOut tK r) := by
  refine KeepsP.lift (B := 33554431) ?_ hA hK
  clear hK hA
  have hK : Keeps pK 33554431 tK tK := Keeps.refl ..
  unfold State.carryOut
  (try dsimp only); (repeat' split) <;> simp (maxDischargeDepth := 60) +contextual only [Nat.reduceAnd, eq_self, keepsP_mk, keeps_taskAddrSet, keeps_taskAdmitSet, keeps_taskDriveAccept, keeps_taskDriveFw, keeps_taskFwAbort, keeps_taskFwActivate, keeps_taskFwBlock, keeps_taskFwConfirm, keeps_taskFwReject, keeps_taskIdentity, keeps_taskKeyInstall, keeps_taskKeyRetire, keeps_taskKeySwitch, keeps_taskLedgerRead, keeps_taskMemberFail, keeps_taskMigCancel, keeps_taskMigCutover, keeps_taskMigStart, keeps_taskOverlaySet, keeps_taskOwnerCommission, keeps_taskOwnerRotate, keeps_taskPatAbort, keeps_taskPatBlock, keeps_taskPatCommit, keeps_taskPowerEnter, hK]

theorem keeps_State_afterReply {pK : Bool} {AK : Nat} {sK tK : State} (r : TaskRun) (x : TaskStep) (hA : 16777215 &&& AK = 16777215)  (hK : Keeps pK AK sK tK) :
    Keeps pK AK sK (State.afterReply tK r x) := by
  refine Keeps.lift (B := 16777215) ?_ hA hK
  clear hK hA
  have hK : Keeps pK 16777215 tK tK := Keeps.refl ..
  simp (maxDischargeDepth := 60) +contextual only [State.afterReply, Nat.reduceAnd, eq_self, keeps_ite, keeps_State_askWarm, keeps_State_fwActivate, keeps_State_fwReject, hK]

theorem keeps_State_doRun {pK : Bool} {AK : Nat} {sK tK : State} (r : TaskRun) (hA : 33554431 &&& AK = 33554431)  (hK : Keeps pK AK sK tK) :
    Keeps pK AK sK (State.doRun tK r) := by
  refine Keeps.lift (B := 33554431) ?_ hA hK
  clear hK hA
  have hK : Keeps pK 33554431 tK tK := Keeps.refl ..
  unfold State.doRun
  (try dsimp only); (repeat' split) <;> simp (maxDischargeDepth := 60) +contextual only [Nat.reduceAnd, eq_self, KeepsP.fst, keeps_State_afterReply, keeps_State_carryOut, keeps_State_settleRun, hK]

theorem keeps_State_beginRun {pK : Bool} {AK : Nat} {sK tK : State} (r : TaskRun) (hA : 33554431 &&& AK = 33554431)  (hK : Keeps pK AK sK tK) :
    Keeps pK AK sK (State.beginRun tK r) := by
  refine Keeps.lift (B := 33554431) ?_ hA hK
  clear hK hA
  have hK : Keeps pK 33554431 tK tK := Keeps.refl ..
  unfold State.beginRun
  (try dsimp only); (repeat' split) <;> simp (maxDischargeDepth := 60) +contextual only [Nat.reduceAnd, eq_self, implies_true, keeps_State_doRun, keeps_State_endRun, keeps_State_moveRun, keeps_State_stepWrite, hK]

theorem keeps_State_taskStep {pK : Bool} {AK : Nat} {sK tK : State} (t : TaskIn) (hA : 33554431 &&& AK = 33554431)  (hK : Keeps pK AK sK tK) :
    Keeps pK AK sK (State.taskStep tK t) := by
  refine Keeps.lift (B := 33554431) ?_ hA hK
  clear hK hA
  have hK : Keeps pK 33554431 tK tK := Keeps.refl ..
  unfold State.taskStep
  (try dsimp only); (repeat' split) <;> simp (maxDischargeDepth := 60) +contextual only [Nat.reduceAnd, eq_self, or_true, devSame_refl, keeps_mk, keeps_State_doRun, hK]

theorem keeps_State_startRun {pK : Bool} {AK : Nat} {sK tK : State} (r : TaskRun) (data : TaskData) (hA : 33554431 &&& AK = 33554431)  (hK : Keeps pK AK sK tK) :
    Keeps pK AK sK (State.startRun tK r data) := by
  refine Keeps.lift (B := 33554431) ?_ hA hK
  clear hK hA
  have hK : Keeps pK 33554431 tK tK := Keeps.refl ..
  unfold State.startRun
  (try dsimp only); (repeat' split) <;> simp (maxDischargeDepth := 60) +contextual only [Nat.reduceAnd, eq_self, keeps_State_beginRun, keeps_State_endRun, keeps_State_moveRun, hK]

theorem keeps_State_goTask {pK : Bool} {AK : Nat} {sK tK : State} (code : Nat) (go : TaskGo) (data : TaskData) (aux : TaskAux) (hA : 33554431 &&& AK = 33554431)  (hK : Keeps pK AK sK tK) :
    Keeps pK AK sK (State.goTask tK code go data aux) := by
  refine Keeps.lift (B := 33554431) ?_ hA hK
  clear hK hA
  have hK : Keeps pK 33554431 tK tK := Keeps.refl ..
  unfold State.goTask
  (try dsimp only); (repeat' split) <;> simp (maxDischargeDepth := 60) +contextual only [Nat.reduceAnd, eq_self, or_true, implies_true, devSame_refl, keeps_ite, keeps_foldl, keeps_mk, keeps_State_bump, keeps_State_busWrite, keeps_State_endRun, keeps_State_moveRun, keeps_State_raise, keeps_State_set, keeps_State_setFlag, keeps_State_startRun, hK]

theorem keeps_execTaskDataReadDone {pK : Bool} {AK : Nat} {sK tK : State} (data : TaskData) (hA : 33554431 &&& AK = 33554431)  (hK : Keeps pK AK sK tK) :
    KeepsR pK AK sK (execTaskDataReadDone data tK) := by
  refine KeepsR.lift (B := 33554431) ?_ hA hK
  clear hK hA
  have hK : Keeps pK 33554431 tK tK := Keeps.refl ..
  unfold execTaskDataReadDone
  (try dsimp only); (repeat' split) <;> simp (maxDischargeDepth := 60) +contextual only [Nat.reduceAnd, eq_self, keepsR_next, keeps_State_startRun, hK]

theorem keeps_execTaskEnd {pK : Bool} {AK : Nat} {sK tK : State} (partnerCode : Nat) (hA : 8388659 &&& AK = 8388659)  (hK : Keeps pK AK sK tK) :
    KeepsR pK AK sK (execTaskEnd partnerCode tK) := by
  refine KeepsR.lift (B := 8388659) ?_ hA hK
  clear hK hA
  have hK : Keeps pK 8388659 tK tK := Keeps.refl ..
  unfold execTaskEnd
  (try dsimp only); (repeat' split) <;> simp (maxDischargeDepth := 60) +contextual only [Nat.reduceAnd, eq_self, keepsR_next, keeps_State_finishTask, hK]

theorem keeps_execDeferredTaskRun {pK : Bool} {AK : Nat} {sK tK : State}  (hA : 33554431 &&& AK = 33554431)  (hK : Keeps pK AK sK tK) :
    KeepsR pK AK sK (execDeferredTaskRun tK) := by
  refine KeepsR.lift (B := 33554431) ?_ hA hK
  clear hK hA
  have hK : Keeps pK 33554431 tK tK := Keeps.refl ..
  unfold execDeferredTaskRun
  (try dsimp only); (repeat' split) <;> simp (maxDischargeDepth := 60) +contextual only [Nat.reduceAnd, eq_self, keepsR_next, keeps_State_setFlag, keeps_State_startRun, keeps_State_wakeSeen, hK]

theorem keeps_execNop {pK : Bool} {AK : Nat} {sK tK : State} (go : TaskGo) (hA : 33554431 &&& AK = 33554431)  (hK : Keeps pK AK sK tK) :
    KeepsR pK AK sK (execNop go tK) := by
  refine KeepsR.lift (B := 33554431) ?_ hA hK
  clear hK hA
  have hK : Keeps pK 33554431 tK tK := Keeps.refl ..
  simp (maxDischargeDepth := 60) +contextual only [execNop, Nat.reduceAnd, eq_self, keepsR_next, keeps_State_goTask, hK]

theorem keeps_execIdentity {pK : Bool} {AK : Nat} {sK tK : State} (go : TaskGo) (hA : 33554431 &&& AK = 33554431)  (hK : Keeps pK AK sK tK) :
    KeepsR pK AK sK (execIdentity go tK) := by
  refine KeepsR.lift (B := 33554431) ?_ hA hK
  clear hK hA
  have hK : Keeps pK 33554431 tK tK := Keeps.refl ..
  simp (maxDischargeDepth := 60) +contextual only [execIdentity, Nat.reduceAnd, eq_self, keepsR_next, keeps_State_goTask, hK]

theorem keeps_execPatBlock {pK : Bool} {AK : Nat} {sK tK : State} (go : TaskGo) (data : TaskData) (hA : 33554431 &&& AK = 33554431)  (hK : Keeps pK AK sK tK) :
    KeepsR pK AK sK (execPatBlock go data tK) := by
  refine KeepsR.lift (B := 33554431) ?_ hA hK
  clear hK hA
  have hK : Keeps pK 33554431 tK tK := Keeps.refl ..
  simp (maxDischargeDepth := 60) +contextual only [execPatBlock, Nat.reduceAnd, eq_self, keepsR_next, keeps_State_goTask, hK]

theorem keeps_execPatCommit {pK : Bool} {AK : Nat} {sK tK : State} (go : TaskGo) (sig : SigCheck) (partner : Nat) (hA : 33554431 &&& AK = 33554431)  (hK : Keeps pK AK sK tK) :
    KeepsR pK AK sK (execPatCommit go sig partner tK) := by
  refine KeepsR.lift (B := 33554431) ?_ hA hK
  clear hK hA
  have hK : Keeps pK 33554431 tK tK := Keeps.refl ..
  simp (maxDischargeDepth := 60) +contextual only [execPatCommit, Nat.reduceAnd, eq_self, keepsR_next, keeps_State_goTask, hK]

theorem keeps_execPatAbort {pK : Bool} {AK : Nat} {sK tK : State} (go : TaskGo) (hA : 33554431 &&& AK = 33554431)  (hK : Keeps pK AK sK tK) :
    KeepsR pK AK sK (execPatAbort go tK) := by
  refine KeepsR.lift (B := 33554431) ?_ hA hK
  clear hK hA
  have hK : Keeps pK 33554431 tK tK := Keeps.refl ..
  simp (maxDischargeDepth := 60) +contextual only [execPatAbort, Nat.reduceAnd, eq_self, keepsR_next, keeps_State_goTask, hK]

theorem keeps_execOverlaySet {pK : Bool} {AK : Nat} {sK tK : State} (go : TaskGo) (hA : 33554431 &&& AK = 33554431)  (hK : Keeps pK AK sK tK) :
    KeepsR pK AK sK (execOverlaySet go tK) := by
  refine KeepsR.lift (B := 33554431) ?_ hA hK
  clear hK hA
  have hK : Keeps pK 33554431 tK tK := Keeps.refl ..
  simp (maxDischargeDepth := 60) +contextual only [execOverlaySet, Nat.reduceAnd, eq_self, keepsR_next, keeps_State_goTask, hK]

theorem keeps_execOwnerCommission {pK : Bool} {AK : Nat} {sK tK : State} (go : TaskGo) (data : TaskData) (digest : Nat) (hA : 33554431 &&& AK = 33554431)  (hK : Keeps pK AK sK tK) :
    KeepsR pK AK sK (execOwnerCommission go data digest tK) := by
  refine KeepsR.lift (B := 33554431) ?_ hA hK
  clear hK hA
  have hK : Keeps pK 33554431 tK tK := Keeps.refl ..
  simp (maxDischargeDepth := 60) +contextual only [execOwnerCommission, Nat.reduceAnd, eq_self, keepsR_next, keeps_State_goTask, hK]

theorem keeps_execOwnerRotate {pK : Bool} {AK : Nat} {sK tK : State} (go : TaskGo) (data : TaskData) (sig : SigCheck) (digest : Nat) (sameSlot : Bool) (hA : 33554431 &&& AK = 33554431)  (hK : Keeps pK AK sK tK) :
    KeepsR pK AK sK (execOwnerRotate go data sig digest sameSlot tK) := by
  refine KeepsR.lift (B := 33554431) ?_ hA hK
  clear hK hA
  have hK : Keeps pK 33554431 tK tK := Keeps.refl ..
  simp (maxDischargeDepth := 60) +contextual only [execOwnerRotate, Nat.reduceAnd, eq_self, keepsR_next, keeps_State_goTask, hK]

theorem keeps_execKeyInstall {pK : Bool} {AK : Nat} {sK tK : State} (go : TaskGo) (data : TaskData) (sig : SigCheck) (key : KeyOpen) (hA : 33554431 &&& AK = 33554431)  (hK : Keeps pK AK sK tK) :
    KeepsR pK AK sK (execKeyInstall go data sig key tK) := by
  refine KeepsR.lift (B := 33554431) ?_ hA hK
  clear hK hA
  have hK : Keeps pK 33554431 tK tK := Keeps.refl ..
  simp (maxDischargeDepth := 60) +contextual only [execKeyInstall, Nat.reduceAnd, eq_self, keepsR_next, keeps_State_goTask, hK]

theorem keeps_execKeySwitch {pK : Bool} {AK : Nat} {sK tK : State} (go : TaskGo) (data : TaskData) (sig : SigCheck) (hA : 33554431 &&& AK = 33554431)  (hK : Keeps pK AK sK tK) :
    KeepsR pK AK sK (execKeySwitch go data sig tK) := by
  refine KeepsR.lift (B := 33554431) ?_ hA hK
  clear hK hA
  have hK : Keeps pK 33554431 tK tK := Keeps.refl ..
  simp (maxDischargeDepth := 60) +contextual only [execKeySwitch, Nat.reduceAnd, eq_self, keepsR_next, keeps_State_goTask, hK]

theorem keeps_execKeyRetire {pK : Bool} {AK : Nat} {sK tK : State} (go : TaskGo) (data : TaskData) (sig : SigCheck) (hA : 33554431 &&& AK = 33554431)  (hK : Keeps pK AK sK tK) :
    KeepsR pK AK sK (execKeyRetire go data sig tK) := by
  refine KeepsR.lift (B := 33554431) ?_ hA hK
  clear hK hA
  have hK : Keeps pK 33554431 tK tK := Keeps.refl ..
  simp (maxDischargeDepth := 60) +contextual only [execKeyRetire, Nat.reduceAnd, eq_self, keepsR_next, keeps_State_goTask, hK]

theorem keeps_execAdmitSet {pK : Bool} {AK : Nat} {sK tK : State} (go : TaskGo) (data : TaskData) (sig : SigCheck) (hA : 33554431 &&& AK = 33554431)  (hK : Keeps pK AK sK tK) :
    KeepsR pK AK sK (execAdmitSet go data sig tK) := by
  refine KeepsR.lift (B := 33554431) ?_ hA hK
  clear hK hA
  have hK : Keeps pK 33554431 tK tK := Keeps.refl ..
  simp (maxDischargeDepth := 60) +contextual only [execAdmitSet, Nat.reduceAnd, eq_self, keepsR_next, keeps_State_goTask, hK]

theorem keeps_execFwBlock {pK : Bool} {AK : Nat} {sK tK : State} (go : TaskGo) (data : TaskData) (hA : 33554431 &&& AK = 33554431)  (hK : Keeps pK AK sK tK) :
    KeepsR pK AK sK (execFwBlock go data tK) := by
  refine KeepsR.lift (B := 33554431) ?_ hA hK
  clear hK hA
  have hK : Keeps pK 33554431 tK tK := Keeps.refl ..
  simp (maxDischargeDepth := 60) +contextual only [execFwBlock, Nat.reduceAnd, eq_self, keepsR_next, keeps_State_goTask, hK]

theorem keeps_execFwAbort {pK : Bool} {AK : Nat} {sK tK : State} (go : TaskGo) (hA : 33554431 &&& AK = 33554431)  (hK : Keeps pK AK sK tK) :
    KeepsR pK AK sK (execFwAbort go tK) := by
  refine KeepsR.lift (B := 33554431) ?_ hA hK
  clear hK hA
  have hK : Keeps pK 33554431 tK tK := Keeps.refl ..
  simp (maxDischargeDepth := 60) +contextual only [execFwAbort, Nat.reduceAnd, eq_self, keepsR_next, keeps_State_goTask, hK]

theorem keeps_execFwActivate {pK : Bool} {AK : Nat} {sK tK : State} (go : TaskGo) (partnerHolds : Bool) (hA : 33554431 &&& AK = 33554431)  (hK : Keeps pK AK sK tK) :
    KeepsR pK AK sK (execFwActivate go partnerHolds tK) := by
  refine KeepsR.lift (B := 33554431) ?_ hA hK
  clear hK hA
  have hK : Keeps pK 33554431 tK tK := Keeps.refl ..
  simp (maxDischargeDepth := 60) +contextual only [execFwActivate, Nat.reduceAnd, eq_self, keepsR_next, keeps_State_goTask, hK]

theorem keeps_execFwConfirm {pK : Bool} {AK : Nat} {sK tK : State} (go : TaskGo) (hA : 33554431 &&& AK = 33554431)  (hK : Keeps pK AK sK tK) :
    KeepsR pK AK sK (execFwConfirm go tK) := by
  refine KeepsR.lift (B := 33554431) ?_ hA hK
  clear hK hA
  have hK : Keeps pK 33554431 tK tK := Keeps.refl ..
  simp (maxDischargeDepth := 60) +contextual only [execFwConfirm, Nat.reduceAnd, eq_self, keepsR_next, keeps_State_goTask, hK]

theorem keeps_execFwReject {pK : Bool} {AK : Nat} {sK tK : State} (go : TaskGo) (hA : 33554431 &&& AK = 33554431)  (hK : Keeps pK AK sK tK) :
    KeepsR pK AK sK (execFwReject go tK) := by
  refine KeepsR.lift (B := 33554431) ?_ hA hK
  clear hK hA
  have hK : Keeps pK 33554431 tK tK := Keeps.refl ..
  simp (maxDischargeDepth := 60) +contextual only [execFwReject, Nat.reduceAnd, eq_self, keepsR_next, keeps_State_goTask, hK]

theorem keeps_execDriveAccept {pK : Bool} {AK : Nat} {sK tK : State} (go : TaskGo) (hA : 33554431 &&& AK = 33554431)  (hK : Keeps pK AK sK tK) :
    KeepsR pK AK sK (execDriveAccept go tK) := by
  refine KeepsR.lift (B := 33554431) ?_ hA hK
  clear hK hA
  have hK : Keeps pK 33554431 tK tK := Keeps.refl ..
  simp (maxDischargeDepth := 60) +contextual only [execDriveAccept, Nat.reduceAnd, eq_self, keepsR_next, keeps_State_goTask, hK]

theorem keeps_execMemberFail {pK : Bool} {AK : Nat} {sK tK : State} (go : TaskGo) (hA : 33554431 &&& AK = 33554431)  (hK : Keeps pK AK sK tK) :
    KeepsR pK AK sK (execMemberFail go tK) := by
  refine KeepsR.lift (B := 33554431) ?_ hA hK
  clear hK hA
  have hK : Keeps pK 33554431 tK tK := Keeps.refl ..
  simp (maxDischargeDepth := 60) +contextual only [execMemberFail, Nat.reduceAnd, eq_self, keepsR_next, keeps_State_goTask, hK]

theorem keeps_execDriveFw {pK : Bool} {AK : Nat} {sK tK : State} (go : TaskGo) (data : TaskData) (hA : 33554431 &&& AK = 33554431)  (hK : Keeps pK AK sK tK) :
    KeepsR pK AK sK (execDriveFw go data tK) := by
  refine KeepsR.lift (B := 33554431) ?_ hA hK
  clear hK hA
  have hK : Keeps pK 33554431 tK tK := Keeps.refl ..
  simp (maxDischargeDepth := 60) +contextual only [execDriveFw, Nat.reduceAnd, eq_self, keepsR_next, keeps_State_goTask, hK]

theorem keeps_execMigStart {pK : Bool} {AK : Nat} {sK tK : State} (go : TaskGo) (ip : IpAddr) (hA : 33554431 &&& AK = 33554431)  (hK : Keeps pK AK sK tK) :
    KeepsR pK AK sK (execMigStart go ip tK) := by
  refine KeepsR.lift (B := 33554431) ?_ hA hK
  clear hK hA
  have hK : Keeps pK 33554431 tK tK := Keeps.refl ..
  simp (maxDischargeDepth := 60) +contextual only [execMigStart, Nat.reduceAnd, eq_self, keepsR_next, keeps_State_goTask, hK]

theorem keeps_execMigCutover {pK : Bool} {AK : Nat} {sK tK : State} (go : TaskGo) (hA : 33554431 &&& AK = 33554431)  (hK : Keeps pK AK sK tK) :
    KeepsR pK AK sK (execMigCutover go tK) := by
  refine KeepsR.lift (B := 33554431) ?_ hA hK
  clear hK hA
  have hK : Keeps pK 33554431 tK tK := Keeps.refl ..
  simp (maxDischargeDepth := 60) +contextual only [execMigCutover, Nat.reduceAnd, eq_self, keepsR_next, keeps_State_goTask, hK]

theorem keeps_execMigCancel {pK : Bool} {AK : Nat} {sK tK : State} (go : TaskGo) (hA : 33554431 &&& AK = 33554431)  (hK : Keeps pK AK sK tK) :
    KeepsR pK AK sK (execMigCancel go tK) := by
  refine KeepsR.lift (B := 33554431) ?_ hA hK
  clear hK hA
  have hK : Keeps pK 33554431 tK tK := Keeps.refl ..
  simp (maxDischargeDepth := 60) +contextual only [execMigCancel, Nat.reduceAnd, eq_self, keepsR_next, keeps_State_goTask, hK]

theorem keeps_execAddrSet {pK : Bool} {AK : Nat} {sK tK : State} (go : TaskGo) (data : TaskData) (hA : 33554431 &&& AK = 33554431)  (hK : Keeps pK AK sK tK) :
    KeepsR pK AK sK (execAddrSet go data tK) := by
  refine KeepsR.lift (B := 33554431) ?_ hA hK
  clear hK hA
  have hK : Keeps pK 33554431 tK tK := Keeps.refl ..
  simp (maxDischargeDepth := 60) +contextual only [execAddrSet, Nat.reduceAnd, eq_self, keepsR_next, keeps_State_goTask, hK]

theorem keeps_execPowerEnter {pK : Bool} {AK : Nat} {sK tK : State} (go : TaskGo) (hA : 33554431 &&& AK = 33554431)  (hK : Keeps pK AK sK tK) :
    KeepsR pK AK sK (execPowerEnter go tK) := by
  refine KeepsR.lift (B := 33554431) ?_ hA hK
  clear hK hA
  have hK : Keeps pK 33554431 tK tK := Keeps.refl ..
  simp (maxDischargeDepth := 60) +contextual only [execPowerEnter, Nat.reduceAnd, eq_self, keepsR_next, keeps_State_goTask, hK]

theorem keeps_execWarmReset {pK : Bool} {AK : Nat} {sK tK : State} (go : TaskGo) (hA : 33554431 &&& AK = 33554431)  (hK : Keeps pK AK sK tK) :
    KeepsR pK AK sK (execWarmReset go tK) := by
  refine KeepsR.lift (B := 33554431) ?_ hA hK
  clear hK hA
  have hK : Keeps pK 33554431 tK tK := Keeps.refl ..
  simp (maxDischargeDepth := 60) +contextual only [execWarmReset, Nat.reduceAnd, eq_self, keepsR_next, keeps_State_goTask, hK]

theorem keeps_execLedgerRead {pK : Bool} {AK : Nat} {sK tK : State} (go : TaskGo) (hA : 33554431 &&& AK = 33554431)  (hK : Keeps pK AK sK tK) :
    KeepsR pK AK sK (execLedgerRead go tK) := by
  refine KeepsR.lift (B := 33554431) ?_ hA hK
  clear hK hA
  have hK : Keeps pK 33554431 tK tK := Keeps.refl ..
  simp (maxDischargeDepth := 60) +contextual only [execLedgerRead, Nat.reduceAnd, eq_self, keepsR_next, keeps_State_goTask, hK]

theorem keeps_execFwImageVerify {pK : Bool} {AK : Nat} {sK tK : State} (chk : FwChecks) (hA : 8912947 &&& AK = 8912947)  (hK : Keeps pK AK sK tK) :
    KeepsR pK AK sK (execFwImageVerify chk tK) := by
  refine KeepsR.lift (B := 8912947) ?_ hA hK
  clear hK hA
  have hK : Keeps pK 8912947 tK tK := Keeps.refl ..
  unfold execFwImageVerify
  (try dsimp only); (repeat' split) <;> simp (maxDischargeDepth := 60) +contextual only [Nat.reduceAnd, eq_self, keepsR_next, KeepsP.fst, keeps_State_endRun, keeps_State_fwVerify, hK]

/-! ## Machine/ServicePort.lean -/

theorem keeps_State_busRead {pK : Bool} {AK : Nat} {sK tK : State} (src : Src) (off : Nat) (size : Nat) (read : State → Nat × State) (hA : 8388707 &&& AK = 8388707) (hF_read : ∀ (t : State) , Keeps pK AK sK t → KeepsV pK AK sK (read t)) (hK : Keeps pK AK sK tK) :
    Keeps pK AK sK (State.busRead tK src off size read) := by
  have g0 : 1 &&& AK = 1 := sub_trans (by decide) hA
  have c0 : AK &&& 1 = 1 := by rw [Nat.and_comm]; exact g0
  have g1 : 2 &&& AK = 2 := sub_trans (by decide) hA
  have c1 : AK &&& 2 = 2 := by rw [Nat.and_comm]; exact g1
  have g2 : 32 &&& AK = 32 := sub_trans (by decide) hA
  have c2 : AK &&& 32 = 32 := by rw [Nat.and_comm]; exact g2
  have g3 : 64 &&& AK = 64 := sub_trans (by decide) hA
  have c3 : AK &&& 64 = 64 := by rw [Nat.and_comm]; exact g3
  have g4 : 8388608 &&& AK = 8388608 := sub_trans (by decide) hA
  have c4 : AK &&& 8388608 = 8388608 := by rw [Nat.and_comm]; exact g4
  have g5 : 8388707 &&& AK = 8388707 := sub_trans (by decide) hA
  have c5 : AK &&& 8388707 = 8388707 := by rw [Nat.and_comm]; exact g5
  unfold State.busRead
  (try dsimp only); (repeat' split) <;> simp (maxDischargeDepth := 60) +contextual only [eq_self, KeepsV.snd, keeps_State_accessFault, keeps_State_emit, hK, hF_read, g4, g5]

theorem keeps_execPtpTxIdRead {pK : Bool} {AK : Nat} {sK tK : State} (src : Src) (port : Nat) (hA : 8519779 &&& AK = 8519779)  (hK : Keeps pK AK sK tK) :
    KeepsR pK AK sK (execPtpTxIdRead src port tK) := by
  refine KeepsR.lift (B := 8519779) ?_ hA hK
  clear hK hA
  have hK : Keeps pK 8519779 tK tK := Keeps.refl ..
  unfold execPtpTxIdRead
  (try dsimp only); (repeat' split) <;> simp (maxDischargeDepth := 60) +contextual only [Nat.reduceAnd, eq_self, true_or, or_true, implies_true, devSame_refl, keepsR_next, keeps_mk, keepsV_mk, keeps_State_busRead, keeps_State_setFlag, hK]

theorem keeps_execSvcLinkChange {pK : Bool} {AK : Nat} {sK tK : State} (speed : Nat) (width : Nat) (hA : 8388643 &&& AK = 8388643)  (hK : Keeps pK AK sK tK) :
    KeepsR pK AK sK (execSvcLinkChange speed width tK) := by
  refine KeepsR.lift (B := 8388643) ?_ hA hK
  clear hK hA
  have hK : Keeps pK 8388643 tK tK := Keeps.refl ..
  simp (maxDischargeDepth := 60) +contextual only [execSvcLinkChange, Nat.reduceAnd, eq_self, keeps_ite, keepsR_next, keeps_State_raise, keeps_State_set, hK]

theorem keeps_execPmStateWrite {pK : Bool} {AK : Nat} {sK tK : State} (d3 : Bool) (hA : 8388611 &&& AK = 8388611)  (hK : Keeps pK AK sK tK) :
    KeepsR pK AK sK (execPmStateWrite d3 tK) := by
  refine KeepsR.lift (B := 8388611) ?_ hA hK
  clear hK hA
  have hK : Keeps pK 8388611 tK tK := Keeps.refl ..
  simp (maxDischargeDepth := 60) +contextual only [execPmStateWrite, Nat.reduceAnd, eq_self, keeps_ite, keepsR_next, keeps_State_flushMsix, keeps_State_setFlag, hK]

theorem keeps_execBar2Write {pK : Bool} {AK : Nat} {sK tK : State} (_addr : Nat) (hA : 8388707 &&& AK = 8388707)  (hK : Keeps pK AK sK tK) :
    KeepsR pK AK sK (execBar2Write _addr tK) := by
  refine KeepsR.lift (B := 8388707) ?_ hA hK
  clear hK hA
  have hK : Keeps pK 8388707 tK tK := Keeps.refl ..
  simp (maxDischargeDepth := 60) +contextual only [execBar2Write, Nat.reduceAnd, eq_self, keeps_ite, keepsR_next, keeps_State_bump, keeps_State_emit, keeps_State_ledgerLimited, hK]

theorem keeps_execMsixUnmask {pK : Bool} {AK : Nat} {sK tK : State} (wr : MsixWrite) (hA : 8388618 &&& AK = 8388618)  (hK : Keeps pK AK sK tK) :
    KeepsR pK AK sK (execMsixUnmask wr tK) := by
  refine KeepsR.lift (B := 8388618) ?_ hA hK
  clear hK hA
  have hK : Keeps pK 8388618 tK tK := Keeps.refl ..
  unfold execMsixUnmask
  (try dsimp only); (repeat' split) <;> simp (maxDischargeDepth := 60) +contextual only [Nat.reduceAnd, eq_self, true_or, or_true, devSame_refl, keepsR_next, keeps_mk, keeps_State_emit, keeps_State_flushMsix, hK]

theorem keeps_execSvcFreeze {pK : Bool} {AK : Nat} {sK tK : State} (aerBit : Nat) (hA : 8388731 &&& AK = 8388731)  (hK : Keeps pK AK sK tK) :
    KeepsR pK AK sK (execSvcFreeze aerBit tK) := by
  refine KeepsR.lift (B := 8388731) ?_ hA hK
  clear hK hA
  have hK : Keeps pK 8388731 tK tK := Keeps.refl ..
  unfold execSvcFreeze
  (try dsimp only); (repeat' split) <;> simp (maxDischargeDepth := 60) +contextual only [Nat.reduceAnd, eq_self, true_or, or_true, devSame_refl, keepsR_next, keeps_mk, keeps_State_bump, keeps_State_endRun, keeps_State_ledger, keeps_State_raise, keeps_State_set, keeps_State_setFlag, hK]

theorem keeps_State_thaw {pK : Bool} {AK : Nat} {sK tK : State}  (hA : 8388619 &&& AK = 8388619)  (hK : Keeps pK AK sK tK) :
    Keeps pK AK sK (State.thaw tK) := by
  refine Keeps.lift (B := 8388619) ?_ hA hK
  clear hK hA
  have hK : Keeps pK 8388619 tK tK := Keeps.refl ..
  simp (maxDischargeDepth := 60) +contextual only [State.thaw, Nat.reduceAnd, eq_self, true_or, or_true, devSame_refl, keeps_mk, keeps_State_flushMsix, keeps_State_setFlag, hK]

theorem keeps_execFreezeRelease {pK : Bool} {AK : Nat} {sK tK : State} (aerCleared : Nat) (hA : 8388619 &&& AK = 8388619)  (hK : Keeps pK AK sK tK) :
    KeepsR pK AK sK (execFreezeRelease aerCleared tK) := by
  refine KeepsR.lift (B := 8388619) ?_ hA hK
  clear hK hA
  have hK : Keeps pK 8388619 tK tK := Keeps.refl ..
  unfold execFreezeRelease
  (try dsimp only); (repeat' split) <;> simp (maxDischargeDepth := 60) +contextual only [Nat.reduceAnd, eq_self, true_or, or_true, devSame_refl, keepsR_next, keeps_mk, keeps_State_thaw, hK]

theorem keeps_execFunctionLevelReset {pK : Bool} {AK : Nat} {sK tK : State}  (hA : 8913471 &&& AK = 8913471)  (hK : Keeps pK AK sK tK) :
    KeepsR pK AK sK (execFunctionLevelReset tK) := by
  refine KeepsR.lift (B := 8913471) ?_ hA hK
  clear hK hA
  have hK : Keeps pK 8913471 tK tK := Keeps.refl ..
  simp (maxDischargeDepth := 60) +contextual only [execFunctionLevelReset, Nat.reduceAnd, eq_self, true_or, or_true, implies_true, devSame_refl, keeps_ite, keepsR_next, keeps_mk, keeps_State_fwClose, keeps_State_raise, keeps_State_recognised, keeps_State_resetRegs, keeps_State_setDelivery, hK]

/-! ## Machine/BusRegs.lean -/

theorem keeps_State_wordRead {pK : Bool} {AK : Nat} {sK tK : State} (w : BusWord) (a : Nat) (b : Nat) (hA : 131073 &&& AK = 131073)  (hK : Keeps pK AK sK tK) :
    Keeps pK AK sK (State.wordRead tK w a b) := by
  refine Keeps.lift (B := 131073) ?_ hA hK
  clear hK hA
  have hK : Keeps pK 131073 tK tK := Keeps.refl ..
  unfold State.wordRead
  (try dsimp only); (repeat' split) <;> simp (maxDischargeDepth := 60) +contextual only [Nat.reduceAnd, eq_self, true_or, or_true, implies_true, devSame_refl, keeps_ite, keeps_foldl, keeps_mk, keeps_State_set, hK]

theorem keeps_State_readEffect {pK : Bool} {AK : Nat} {sK tK : State} (off : Nat) (size : Nat) (hA : 16908289 &&& AK = 16908289)  (hK : Keeps pK AK sK tK) :
    Keeps pK AK sK (State.readEffect tK off size) := by
  refine Keeps.lift (B := 16908289) ?_ hA hK
  clear hK hA
  have hK : Keeps pK 16908289 tK tK := Keeps.refl ..
  unfold State.readEffect
  (try dsimp only)
  repeat' (first | assumption | rfl | (intro) | (with_reducible first | apply keepsR_next | apply keeps_foldl | apply keepsP_foldl | apply keeps_ite | apply keeps_cond | apply keepsR_ite | apply keepsP_ite | apply keepsO_pair | apply keepsO_none | apply keepsO_ite | apply keepsV_mk | apply keepsV_ite | apply keepsP_mk | apply keeps_State_drawn | apply keeps_State_wordRead) | simp only [keeps_mk_iff, devSame_refl, devSame_mk, Nat.reduceAnd, eq_self, true_or, or_true, implies_true] | (refine KeepsP.of_eq (by assumption) ?_) | (refine KeepsO.of_eq (by assumption) ?_) | (refine KeepsV.of_eq (by assumption) ?_) | split)

theorem keeps_execRcCounterRead {pK : Bool} {AK : Nat} {sK tK : State} (src : Src) (off : Nat) (size : Nat) (hA : 25296995 &&& AK = 25296995)  (hK : Keeps pK AK sK tK) :
    KeepsR pK AK sK (execRcCounterRead src off size tK) := by
  refine KeepsR.lift (B := 25296995) ?_ hA hK
  clear hK hA
  have hK : Keeps pK 25296995 tK tK := Keeps.refl ..
  unfold execRcCounterRead
  (try dsimp only); (repeat' split) <;> simp (maxDischargeDepth := 60) +contextual only [Nat.reduceAnd, eq_self, keepsR_next, keeps_State_accessFault, keeps_State_emit, keeps_State_ledger, keeps_State_readEffect, hK]

theorem keeps_State_cleared {pK : Bool} {AK : Nat} {sK tK : State} (f : Fld) (hA : 1 &&& AK = 1)  (hK : Keeps pK AK sK tK) :
    Keeps pK AK sK (State.cleared tK f) := by
  refine Keeps.lift (B := 1) ?_ hA hK
  clear hK hA
  have hK : Keeps pK 1 tK tK := Keeps.refl ..
  simp (maxDischargeDepth := 60) +contextual only [State.cleared, Nat.reduceAnd, eq_self, keeps_ite, keeps_State_set, hK]

theorem keeps_State_fieldWrite {pK : Bool} {AK : Nat} {sK tK : State} (f : Fld) (i : Nat) (j : Nat) (high : Bool) (value : Nat) (hA : 8388707 &&& AK = 8388707)  (hK : Keeps pK AK sK tK) :
    Keeps pK AK sK (State.fieldWrite tK f i j high value) := by
  refine Keeps.lift (B := 8388707) ?_ hA hK
  clear hK hA
  have hK : Keeps pK 8388707 tK tK := Keeps.refl ..
  unfold State.fieldWrite
  (try dsimp only); (repeat' split) <;> simp (maxDischargeDepth := 60) +contextual only [Nat.reduceAnd, eq_self, keeps_State_cleared, keeps_State_ledger, keeps_State_set, hK]

theorem keeps_State_unknownTask {pK : Bool} {AK : Nat} {sK tK : State}  (hA : 33554431 &&& AK = 33554431)  (hK : Keeps pK AK sK tK) :
    Keeps pK AK sK (State.unknownTask tK) := by
  refine Keeps.lift (B := 33554431) ?_ hA hK
  clear hK hA
  have hK : Keeps pK 33554431 tK tK := Keeps.refl ..
  simp (maxDischargeDepth := 60) +contextual only [State.unknownTask, Nat.reduceAnd, eq_self, keeps_ite, keeps_State_goTask, hK]

theorem keeps_State_wordWrite {pK : Bool} {AK : Nat} {sK tK : State} (w : BusWord) (value : Nat) (hA : 33554431 &&& AK = 33554431)  (hK : Keeps pK AK sK tK) :
    Keeps pK AK sK (State.wordWrite tK w value) := by
  refine Keeps.lift (B := 33554431) ?_ hA hK
  clear hK hA
  have hK : Keeps pK 33554431 tK tK := Keeps.refl ..
  unfold State.wordWrite
  (try dsimp only); (repeat' split) <;> simp (maxDischargeDepth := 60) +contextual only [Nat.reduceAnd, eq_self, implies_true, keeps_foldl, keeps_State_fieldWrite, keeps_State_flushMsix, keeps_State_unknownTask, hK]

theorem keeps_State_regEffect {pK : Bool} {AK : Nat} {sK tK : State} (off : Nat) (size : Nat) (value : Nat) (hA : 33554431 &&& AK = 33554431)  (hK : Keeps pK AK sK tK) :
    Keeps pK AK sK (State.regEffect tK off size value) := by
  refine Keeps.lift (B := 33554431) ?_ hA hK
  clear hK hA
  have hK : Keeps pK 33554431 tK tK := Keeps.refl ..
  unfold State.regEffect
  (try dsimp only)
  repeat' (first | assumption | rfl | (intro) | (with_reducible first | apply keepsR_next | apply keeps_foldl | apply keepsP_foldl | apply keeps_ite | apply keeps_cond | apply keepsR_ite | apply keepsP_ite | apply keepsO_pair | apply keepsO_none | apply keepsO_ite | apply keepsV_mk | apply keepsV_ite | apply keepsP_mk | apply keeps_State_wordWrite) | simp only [keeps_mk_iff, devSame_refl, devSame_mk, Nat.reduceAnd, eq_self, true_or, or_true, implies_true] | (refine KeepsP.of_eq (by assumption) ?_) | (refine KeepsO.of_eq (by assumption) ?_) | (refine KeepsV.of_eq (by assumption) ?_) | split)

theorem keeps_execRegisterWrite {pK : Bool} {AK : Nat} {sK tK : State} (src : Src) (off : Nat) (size : Nat) (value : Nat) (hA : 33554431 &&& AK = 33554431)  (hK : Keeps pK AK sK tK) :
    KeepsR pK AK sK (execRegisterWrite src off size value tK) := by
  refine KeepsR.lift (B := 33554431) ?_ hA hK
  clear hK hA
  have hK : Keeps pK 33554431 tK tK := Keeps.refl ..
  unfold execRegisterWrite
  (try dsimp only); (repeat' split) <;> simp (maxDischargeDepth := 60) +contextual only [Nat.reduceAnd, eq_self, implies_true, keepsR_next, keeps_State_accessFault, keeps_State_emit, keeps_State_ledger, keeps_State_regEffect, keeps_State_stepWrite, hK]

theorem keeps_execAccessTimeout {pK : Bool} {AK : Nat} {sK tK : State} (src : Src) (off : Nat) (read : Option Nat) (hA : 8388707 &&& AK = 8388707)  (hK : Keeps pK AK sK tK) :
    KeepsR pK AK sK (execAccessTimeout src off read tK) := by
  refine KeepsR.lift (B := 8388707) ?_ hA hK
  clear hK hA
  have hK : Keeps pK 8388707 tK tK := Keeps.refl ..
  unfold execAccessTimeout
  (try dsimp only); (repeat' split) <;> simp (maxDischargeDepth := 60) +contextual only [Nat.reduceAnd, eq_self, keepsR_next, keeps_State_accessFault, keeps_State_emit, hK]

/-! ## Machine/Locksmith.lean -/

theorem keeps_State_lsmEnd {pK : Bool} {AK : Nat} {sK tK : State} (result : Nat) (len : Nat) (hA : 9437219 &&& AK = 9437219)  (hK : Keeps pK AK sK tK) :
    Keeps pK AK sK (State.lsmEnd tK result len) := by
  refine Keeps.lift (B := 9437219) ?_ hA hK
  clear hK hA
  have hK : Keeps pK 9437219 tK tK := Keeps.refl ..
  simp (maxDischargeDepth := 60) +contextual only [State.lsmEnd, Nat.reduceAnd, eq_self, true_or, or_true, devSame_refl, keeps_ite, keeps_mk, keeps_State_bump, keeps_State_raise, keeps_State_set, keeps_State_setFlag, hK]

theorem keeps_State_raiseCeiling {pK : Bool} {AK : Nat} {sK tK : State}  (hA : 9437287 &&& AK = 9437287)  (hK : Keeps pK AK sK tK) :
    Keeps pK AK sK (State.raiseCeiling tK) := by
  refine Keeps.lift (B := 9437287) ?_ hA hK
  clear hK hA
  have hK : Keeps pK 9437287 tK tK := Keeps.refl ..
  simp (maxDischargeDepth := 60) +contextual only [State.raiseCeiling, Nat.reduceAnd, eq_self, true_or, or_true, devSame_refl, keeps_ite, keeps_mk, keeps_State_commit, hK]

theorem keeps_State_takeNonce {pK : Bool} {AK : Nat} {sK tK : State} (r : LsmRun) (hA : 9437287 &&& AK = 9437287)  (hK : Keeps pK AK sK tK) :
    Keeps pK AK sK (State.takeNonce tK r) := by
  refine Keeps.lift (B := 9437287) ?_ hA hK
  clear hK hA
  have hK : Keeps pK 9437287 tK tK := Keeps.refl ..
  simp (maxDischargeDepth := 60) +contextual only [State.takeNonce, Nat.reduceAnd, eq_self, true_or, or_true, devSame_refl, keeps_ite, keeps_mk, keeps_State_raiseCeiling, keeps_State_set, hK]

theorem keeps_State_waitNonce {pK : Bool} {AK : Nat} {sK tK : State} (r : LsmRun) (hA : 9437287 &&& AK = 9437287)  (hK : Keeps pK AK sK tK) :
    Keeps pK AK sK (State.waitNonce tK r) := by
  refine Keeps.lift (B := 9437287) ?_ hA hK
  clear hK hA
  have hK : Keeps pK 9437287 tK tK := Keeps.refl ..
  simp (maxDischargeDepth := 60) +contextual only [State.waitNonce, Nat.reduceAnd, eq_self, true_or, or_true, devSame_refl, keeps_ite, keeps_mk, keeps_State_lsmEnd, keeps_State_raise, keeps_State_raiseCeiling, hK]

theorem keeps_State_askNonce {pK : Bool} {AK : Nat} {sK tK : State} (r : LsmRun) (hA : 9437287 &&& AK = 9437287)  (hK : Keeps pK AK sK tK) :
    Keeps pK AK sK (State.askNonce tK r) := by
  refine Keeps.lift (B := 9437287) ?_ hA hK
  clear hK hA
  have hK : Keeps pK 9437287 tK tK := Keeps.refl ..
  simp (maxDischargeDepth := 60) +contextual only [State.askNonce, Nat.reduceAnd, eq_self, true_or, or_true, devSame_refl, keeps_ite, keeps_mk, keeps_State_set, keeps_State_takeNonce, keeps_State_waitNonce, hK]

theorem keeps_State_lsmJob {pK : Bool} {AK : Nat} {sK tK : State} (d : LsmDesc) (hA : 9437287 &&& AK = 9437287)  (hK : Keeps pK AK sK tK) :
    Keeps pK AK sK (State.lsmJob tK d) := by
  refine Keeps.lift (B := 9437287) ?_ hA hK
  clear hK hA
  have hK : Keeps pK 9437287 tK tK := Keeps.refl ..
  simp (maxDischargeDepth := 60) +contextual only [State.lsmJob, Nat.reduceAnd, eq_self, true_or, or_true, devSame_refl, keeps_ite, keeps_mk, keeps_State_askNonce, keeps_State_setFlag, hK]

theorem keeps_execLsmStart {pK : Bool} {AK : Nat} {sK tK : State} (src : Src) (mode : Mode) (addr : Nat) (hA : 9437287 &&& AK = 9437287)  (hK : Keeps pK AK sK tK) :
    KeepsR pK AK sK (execLsmStart src mode addr tK) := by
  refine KeepsR.lift (B := 9437287) ?_ hA hK
  clear hK hA
  have hK : Keeps pK 9437287 tK tK := Keeps.refl ..
  unfold execLsmStart
  (try dsimp only)
  repeat' (first | assumption | rfl | (intro) | (with_reducible first | apply keepsR_next | apply keeps_foldl | apply keepsP_foldl | apply keeps_ite | apply keeps_cond | apply keepsR_ite | apply keepsP_ite | apply keepsO_pair | apply keepsO_none | apply keepsO_ite | apply keepsV_mk | apply keepsV_ite | apply keepsP_mk | apply keeps_State_bump | apply keeps_State_busWrite | apply keeps_State_ledger | apply keeps_State_lsmEnd | apply keeps_State_lsmJob | apply keeps_State_poisonMet) | simp only [keeps_mk_iff, devSame_refl, devSame_mk, Nat.reduceAnd, eq_self, true_or, or_true, implies_true] | (refine KeepsP.of_eq (by assumption) ?_) | (refine KeepsO.of_eq (by assumption) ?_) | (refine KeepsV.of_eq (by assumption) ?_) | split)

theorem keeps_execLsmNonceResume {pK : Bool} {AK : Nat} {sK tK : State}  (hA : 9437287 &&& AK = 9437287)  (hK : Keeps pK AK sK tK) :
    KeepsR pK AK sK (execLsmNonceResume tK) := by
  refine KeepsR.lift (B := 9437287) ?_ hA hK
  clear hK hA
  have hK : Keeps pK 9437287 tK tK := Keeps.refl ..
  unfold execLsmNonceResume
  (try dsimp only); (repeat' split) <;> simp (maxDischargeDepth := 60) +contextual only [Nat.reduceAnd, eq_self, true_or, or_true, devSame_refl, keepsR_next, keeps_mk, keeps_State_lsmEnd, keeps_State_takeNonce, hK]

theorem keeps_State_lsmWrite {pK : Bool} {AK : Nat} {sK tK : State} (r : LsmRun) (res : LsmOut) (hA : 15728675 &&& AK = 15728675)  (hK : Keeps pK AK sK tK) :
    Keeps pK AK sK (State.lsmWrite tK r res) := by
  refine Keeps.lift (B := 15728675) ?_ hA hK
  clear hK hA
  have hK : Keeps pK 15728675 tK tK := Keeps.refl ..
  unfold State.lsmWrite
  (try dsimp only); (repeat' split) <;> simp (maxDischargeDepth := 60) +contextual only [Nat.reduceAnd, eq_self, keeps_State_lsmEnd, keeps_State_store, hK]

theorem keeps_execLsmJobDone {pK : Bool} {AK : Nat} {sK tK : State} (res : LsmOut) (hA : 15728675 &&& AK = 15728675)  (hK : Keeps pK AK sK tK) :
    KeepsR pK AK sK (execLsmJobDone res tK) := by
  refine KeepsR.lift (B := 15728675) ?_ hA hK
  clear hK hA
  have hK : Keeps pK 15728675 tK tK := Keeps.refl ..
  unfold execLsmJobDone
  (try dsimp only); (repeat' split) <;> simp (maxDischargeDepth := 60) +contextual only [Nat.reduceAnd, eq_self, keepsR_next, keeps_State_lsmEnd, keeps_State_lsmWrite, keeps_State_poisonMet, keeps_State_store, hK]

/-! ## Machine/StoreRows.lean -/

theorem keeps_State_commitTasksEnd {pK : Bool} {AK : Nat} {sK tK : State}  (hA : 8388659 &&& AK = 8388659)  (hK : Keeps pK AK sK tK) :
    Keeps pK AK sK (State.commitTasksEnd tK) := by
  refine Keeps.lift (B := 8388659) ?_ hA hK
  clear hK hA
  have hK : Keeps pK 8388659 tK tK := Keeps.refl ..
  unfold State.commitTasksEnd
  (try dsimp only)
  repeat' (first | assumption | rfl | (intro) | (with_reducible first | apply keepsR_next | apply keeps_foldl | apply keepsP_foldl | apply keeps_ite | apply keeps_cond | apply keepsR_ite | apply keepsP_ite | apply keepsO_pair | apply keepsO_none | apply keepsO_ite | apply keepsV_mk | apply keepsV_ite | apply keepsP_mk | apply keeps_State_endRun | apply keeps_State_moveRun) | simp only [keeps_mk_iff, devSame_refl, devSame_mk, Nat.reduceAnd, eq_self, true_or, or_true, implies_true] | (refine KeepsP.of_eq (by assumption) ?_) | (refine KeepsO.of_eq (by assumption) ?_) | (refine KeepsV.of_eq (by assumption) ?_) | split)

theorem keeps_State_commitTasksFail {pK : Bool} {AK : Nat} {sK tK : State} (result : Nat) (hA : 8388659 &&& AK = 8388659)  (hK : Keeps pK AK sK tK) :
    Keeps pK AK sK (State.commitTasksFail tK result) := by
  refine Keeps.lift (B := 8388659) ?_ hA hK
  clear hK hA
  have hK : Keeps pK 8388659 tK tK := Keeps.refl ..
  simp (maxDischargeDepth := 60) +contextual only [State.commitTasksFail, Nat.reduceAnd, eq_self, implies_true, keeps_ite, keeps_foldl, keeps_State_endRun, hK]

theorem keeps_State_queuedTasksFail {pK : Bool} {AK : Nat} {sK tK : State} (result : Nat) (hA : 8388659 &&& AK = 8388659)  (hK : Keeps pK AK sK tK) :
    Keeps pK AK sK (State.queuedTasksFail tK result) := by
  refine Keeps.lift (B := 8388659) ?_ hA hK
  clear hK hA
  have hK : Keeps pK 8388659 tK tK := Keeps.refl ..
  simp (maxDischargeDepth := 60) +contextual only [State.queuedTasksFail, Nat.reduceAnd, eq_self, implies_true, keeps_ite, keeps_foldl, keeps_State_endRun, hK]

theorem keeps_State_commitOver {pK : Bool} {AK : Nat} {sK tK : State} (ok : Bool) (cs : List StoreChange) (hA : 1572864 &&& AK = 1572864)  (hK : Keeps pK AK sK tK) :
    Keeps pK AK sK (State.commitOver tK ok cs) := by
  refine Keeps.lift (B := 1572864) ?_ hA hK
  clear hK hA
  have hK : Keeps pK 1572864 tK tK := Keeps.refl ..
  simp (maxDischargeDepth := 60) +contextual only [State.commitOver, Nat.reduceAnd, eq_self, true_or, or_true, devSame_refl, keeps_ite, keeps_mk, hK]

theorem keeps_execStoreCommitDone {pK : Bool} {AK : Nat} {sK tK : State} (rb : ReadBack) (hA : 9994999 &&& AK = 9994999)  (hK : Keeps pK AK sK tK) :
    KeepsR pK AK sK (execStoreCommitDone rb tK) := by
  refine KeepsR.lift (B := 9994999) ?_ hA hK
  clear hK hA
  have hK : Keeps pK 9994999 tK tK := Keeps.refl ..
  unfold execStoreCommitDone
  (try dsimp only)
  repeat' (first | assumption | rfl | (intro) | (with_reducible first | apply keepsR_next | apply keeps_foldl | apply keepsP_foldl | apply keeps_ite | apply keeps_cond | apply keepsR_ite | apply keepsP_ite | apply keepsO_pair | apply keepsO_none | apply keepsO_ite | apply keepsV_mk | apply keepsV_ite | apply keepsP_mk | apply keeps_State_commitOver | apply keeps_State_commitTasksEnd | apply keeps_State_commitTasksFail | apply keeps_State_readBack | apply keeps_State_warmStage | refine KeepsP.fst (keeps_State_readBack _ ?_ ?_)) | simp only [keeps_mk_iff, devSame_refl, devSame_mk, Nat.reduceAnd, eq_self, true_or, or_true, implies_true] | (refine KeepsP.of_eq (by assumption) ?_) | (refine KeepsO.of_eq (by assumption) ?_) | (refine KeepsV.of_eq (by assumption) ?_) | split)

theorem keeps_execStoreCommitCoalesced {pK : Bool} {AK : Nat} {sK tK : State}  (hA : 9961591 &&& AK = 9961591)  (hK : Keeps pK AK sK tK) :
    KeepsR pK AK sK (execStoreCommitCoalesced tK) := by
  refine KeepsR.lift (B := 9961591) ?_ hA hK
  clear hK hA
  have hK : Keeps pK 9961591 tK tK := Keeps.refl ..
  unfold execStoreCommitCoalesced
  (try dsimp only)
  repeat' (first | assumption | rfl | (intro) | (with_reducible first | apply keepsR_next | apply keeps_foldl | apply keepsP_foldl | apply keeps_ite | apply keeps_cond | apply keepsR_ite | apply keepsP_ite | apply keepsO_pair | apply keepsO_none | apply keepsO_ite | apply keepsV_mk | apply keepsV_ite | apply keepsP_mk | apply keeps_State_commit | apply keeps_State_commitOver | apply keeps_State_commitWaiting | apply keeps_State_moveRun | apply keeps_State_queuedTasksFail) | simp only [keeps_mk_iff, devSame_refl, devSame_mk, Nat.reduceAnd, eq_self, true_or, or_true, implies_true] | (refine KeepsP.of_eq (by assumption) ?_) | (refine KeepsO.of_eq (by assumption) ?_) | (refine KeepsV.of_eq (by assumption) ?_) | split)

theorem keeps_execLiveRecordsEffect {pK : Bool} {AK : Nat} {sK tK : State}  (hA : 32602039 &&& AK = 32602039)  (hK : Keeps pK AK sK tK) :
    KeepsR pK AK sK (execLiveRecordsEffect tK) := by
  refine KeepsR.lift (B := 32602039) ?_ hA hK
  clear hK hA
  have hK : Keeps pK 32602039 tK tK := Keeps.refl ..
  simp (maxDischargeDepth := 60) +contextual only [execLiveRecordsEffect, Nat.reduceAnd, eq_self, implies_true, keeps_ite, keeps_foldl, keepsR_next, keeps_State_endRun, keeps_State_inStep, keeps_State_liveEffect, hK]

theorem keeps_execPwrfailAssert {pK : Bool} {AK : Nat} {sK tK : State} (headerBegun : Bool) (hA : 32616055 &&& AK = 32616055)  (hK : Keeps pK AK sK tK) :
    KeepsR pK AK sK (execPwrfailAssert headerBegun tK) := by
  refine KeepsR.lift (B := 32616055) ?_ hA hK
  clear hK hA
  have hK : Keeps pK 32616055 tK tK := Keeps.refl ..
  unfold execPwrfailAssert
  (try dsimp only); (repeat' split) <;> simp (maxDischargeDepth := 60) +contextual only [Nat.reduceAnd, eq_self, implies_true, keepsR_next, KeepsP.fst, keeps_State_commitTasksFail, keeps_State_pwrfailStep, keeps_State_queuedTasksFail, keeps_State_raise, keeps_State_recognised, keeps_State_setFlag, keeps_State_stopCommit, hK]

theorem keeps_execPwrfailDeassert {pK : Bool} {AK : Nat} {sK tK : State}  (hA : 32616039 &&& AK = 32616039)  (hK : Keeps pK AK sK tK) :
    KeepsR pK AK sK (execPwrfailDeassert tK) := by
  refine KeepsR.lift (B := 32616039) ?_ hA hK
  clear hK hA
  have hK : Keeps pK 32616039 tK tK := Keeps.refl ..
  simp (maxDischargeDepth := 60) +contextual only [execPwrfailDeassert, Nat.reduceAnd, eq_self, implies_true, keeps_ite, keepsR_next, keeps_State_commitWaiting, keeps_State_pwrfailStep, keeps_State_raise, keeps_State_recognised, keeps_State_setFlag, hK]

/-! ## Machine/StreamRows.lean -/

theorem keeps_State_consuming {pK : Bool} {AK : Nat} {sK tK : State} (n : Nat) (kind : Input → Bool) (f : InputRec → State → State) (hA : 32585635 &&& AK = 32585635) (hF_f : ∀ (t : State) (x0 : InputRec), Keeps pK AK sK t → Keeps pK AK sK (f x0 t)) (hK : Keeps pK AK sK tK) :
    Keeps pK AK sK (State.consuming tK n kind f) := by
  have g0 : 1 &&& AK = 1 := sub_trans (by decide) hA
  have c0 : AK &&& 1 = 1 := by rw [Nat.and_comm]; exact g0
  have g1 : 2 &&& AK = 2 := sub_trans (by decide) hA
  have c1 : AK &&& 2 = 2 := by rw [Nat.and_comm]; exact g1
  have g2 : 32 &&& AK = 32 := sub_trans (by decide) hA
  have c2 : AK &&& 32 = 32 := by rw [Nat.and_comm]; exact g2
  have g3 : 128 &&& AK = 128 := sub_trans (by decide) hA
  have c3 : AK &&& 128 = 128 := by rw [Nat.and_comm]; exact g3
  have g4 : 256 &&& AK = 256 := sub_trans (by decide) hA
  have c4 : AK &&& 256 = 256 := by rw [Nat.and_comm]; exact g4
  have g5 : 512 &&& AK = 512 := sub_trans (by decide) hA
  have c5 : AK &&& 512 = 512 := by rw [Nat.and_comm]; exact g5
  have g6 : 514 &&& AK = 514 := sub_trans (by decide) hA
  have c6 : AK &&& 514 = 514 := by rw [Nat.and_comm]; exact g6
  have g7 : 1024 &&& AK = 1024 := sub_trans (by decide) hA
  have c7 : AK &&& 1024 = 1024 := by rw [Nat.and_comm]; exact g7
  have g8 : 4096 &&& AK = 4096 := sub_trans (by decide) hA
  have c8 : AK &&& 4096 = 4096 := by rw [Nat.and_comm]; exact g8
  have g9 : 8192 &&& AK = 8192 := sub_trans (by decide) hA
  have c9 : AK &&& 8192 = 8192 := by rw [Nat.and_comm]; exact g9
  have g10 : 65536 &&& AK = 65536 := sub_trans (by decide) hA
  have c10 : AK &&& 65536 = 65536 := by rw [Nat.and_comm]; exact g10
  have g11 : 1048576 &&& AK = 1048576 := sub_trans (by decide) hA
  have c11 : AK &&& 1048576 = 1048576 := by rw [Nat.and_comm]; exact g11
  have g12 : 2097152 &&& AK = 2097152 := sub_trans (by decide) hA
  have c12 : AK &&& 2097152 = 2097152 := by rw [Nat.and_comm]; exact g12
  have g13 : 4194304 &&& AK = 4194304 := sub_trans (by decide) hA
  have c13 : AK &&& 4194304 = 4194304 := by rw [Nat.and_comm]; exact g13
  have g14 : 8388608 &&& AK = 8388608 := sub_trans (by decide) hA
  have c14 : AK &&& 8388608 = 8388608 := by rw [Nat.and_comm]; exact g14
  have g15 : 9437184 &&& AK = 9437184 := sub_trans (by decide) hA
  have c15 : AK &&& 9437184 = 9437184 := by rw [Nat.and_comm]; exact g15
  have g16 : 16777216 &&& AK = 16777216 := sub_trans (by decide) hA
  have c16 : AK &&& 16777216 = 16777216 := by rw [Nat.and_comm]; exact g16
  have g17 : 32585635 &&& AK = 32585635 := sub_trans (by decide) hA
  have c17 : AK &&& 32585635 = 32585635 := by rw [Nat.and_comm]; exact g17
  simp (maxDischargeDepth := 60) +contextual only [State.consuming, eq_self, implies_true, keeps_State_consume, keeps_State_serveRepairs, keeps_State_settleTakeover, hK, hF_f, g6, g15, g17]

theorem keeps_hostFrameStep {pK : Bool} {AK : Nat} {sK tK : State} (r : InputRec) (hA : 8527872 &&& AK = 8527872)  (hK : Keeps pK AK sK tK) :
    Keeps pK AK sK (hostFrameStep r tK) := by
  refine Keeps.lift (B := 8527872) ?_ hA hK
  clear hK hA
  have hK : Keeps pK 8527872 tK tK := Keeps.refl ..
  unfold hostFrameStep
  (try dsimp only); (repeat' split) <;> simp (maxDischargeDepth := 60) +contextual only [Nat.reduceAnd, eq_self, keeps_State_frameDone, keeps_State_frameIn, hK]

theorem keeps_execConsumeHostFrame {pK : Bool} {AK : Nat} {sK tK : State} (n : Nat) (hA : 32716707 &&& AK = 32716707)  (hK : Keeps pK AK sK tK) :
    KeepsR pK AK sK (execConsumeHostFrame n tK) := by
  refine KeepsR.lift (B := 32716707) ?_ hA hK
  clear hK hA
  have hK : Keeps pK 32716707 tK tK := Keeps.refl ..
  simp (maxDischargeDepth := 60) +contextual only [execConsumeHostFrame, Nat.reduceAnd, eq_self, implies_true, keepsR_next, keeps_State_consuming, keeps_hostFrameStep, hK]

theorem keeps_execConsumeDriveCqe {pK : Bool} {AK : Nat} {sK tK : State} (n : Nat) (remote : List Blk) (hA : 32634851 &&& AK = 32634851)  (hK : Keeps pK AK sK tK) :
    KeepsR pK AK sK (execConsumeDriveCqe n remote tK) := by
  refine KeepsR.lift (B := 32634851) ?_ hA hK
  clear hK hA
  have hK : Keeps pK 32634851 tK tK := Keeps.refl ..
  unfold execConsumeDriveCqe
  (try dsimp only)
  repeat' (first | assumption | rfl | (intro) | (with_reducible first | apply keepsR_next | apply keeps_foldl | apply keepsP_foldl | apply keeps_ite | apply keeps_cond | apply keepsR_ite | apply keepsP_ite | apply keepsO_pair | apply keepsO_none | apply keepsO_ite | apply keepsV_mk | apply keepsV_ite | apply keepsP_mk | apply keeps_State_consuming | apply keeps_State_driveCqe) | simp only [keeps_mk_iff, devSame_refl, devSame_mk, Nat.reduceAnd, eq_self, true_or, or_true, implies_true] | (refine KeepsP.of_eq (by assumption) ?_) | (refine KeepsO.of_eq (by assumption) ?_) | (refine KeepsV.of_eq (by assumption) ?_) | split)

theorem keeps_execConsumeDriveEvent {pK : Bool} {AK : Nat} {sK tK : State} (n : Nat) (hA : 32634867 &&& AK = 32634867)  (hK : Keeps pK AK sK tK) :
    KeepsR pK AK sK (execConsumeDriveEvent n tK) := by
  refine KeepsR.lift (B := 32634867) ?_ hA hK
  clear hK hA
  have hK : Keeps pK 32634867 tK tK := Keeps.refl ..
  unfold execConsumeDriveEvent
  (try dsimp only)
  repeat' (first | assumption | rfl | (intro) | (with_reducible first | apply keepsR_next | apply keeps_foldl | apply keepsP_foldl | apply keeps_ite | apply keeps_cond | apply keepsR_ite | apply keepsP_ite | apply keepsO_pair | apply keepsO_none | apply keepsO_ite | apply keepsV_mk | apply keepsV_ite | apply keepsP_mk | apply keeps_State_consuming | apply keeps_State_driveEvent | apply keeps_State_leftLowPower | apply keeps_State_driveFwStep) | simp only [keeps_mk_iff, devSame_refl, devSame_mk, Nat.reduceAnd, eq_self, true_or, or_true, implies_true] | (refine KeepsP.of_eq (by assumption) ?_) | (refine KeepsO.of_eq (by assumption) ?_) | (refine KeepsV.of_eq (by assumption) ?_) | split)

theorem keeps_execConsumeSlot {pK : Bool} {AK : Nat} {sK tK : State} (n : Nat) (hA : 32896995 &&& AK = 32896995)  (hK : Keeps pK AK sK tK) :
    KeepsR pK AK sK (execConsumeSlot n tK) := by
  refine KeepsR.lift (B := 32896995) ?_ hA hK
  clear hK hA
  have hK : Keeps pK 32896995 tK tK := Keeps.refl ..
  unfold execConsumeSlot
  (try dsimp only)
  repeat' (first | assumption | rfl | (intro) | (with_reducible first | apply keepsR_next | apply keeps_foldl | apply keepsP_foldl | apply keeps_ite | apply keeps_cond | apply keepsR_ite | apply keepsP_ite | apply keepsO_pair | apply keepsO_none | apply keepsO_ite | apply keepsV_mk | apply keepsV_ite | apply keepsP_mk | apply keeps_State_consuming | apply keeps_State_gateUpdate | apply keeps_State_slotSeen) | simp only [keeps_mk_iff, devSame_refl, devSame_mk, Nat.reduceAnd, eq_self, true_or, or_true, implies_true] | (refine KeepsP.of_eq (by assumption) ?_) | (refine KeepsO.of_eq (by assumption) ?_) | (refine KeepsV.of_eq (by assumption) ?_) | split)

theorem keeps_tickStep {pK : Bool} {AK : Nat} {sK tK : State} (us : Nat) (hA : 32636915 &&& AK = 32636915)  (hK : Keeps pK AK sK tK) :
    Keeps pK AK sK (tickStep us tK) := by
  refine Keeps.lift (B := 32636915) ?_ hA hK
  clear hK hA
  have hK : Keeps pK 32636915 tK tK := Keeps.refl ..
  simp (maxDischargeDepth := 60) +contextual only [tickStep, Nat.reduceAnd, eq_self, true_or, or_true, devSame_refl, devSame_mk, keeps_ite, keeps_mk, keeps_State_digestSend, keeps_State_driveFwLost, keeps_State_entryAdvance, keeps_State_fallowOver, keeps_State_flushCtl, keeps_State_settlePower, keeps_State_showThrough, hK]

theorem keeps_execConsumeTick {pK : Bool} {AK : Nat} {sK tK : State} (n : Nat) (hA : 32636915 &&& AK = 32636915)  (hK : Keeps pK AK sK tK) :
    KeepsR pK AK sK (execConsumeTick n tK) := by
  refine KeepsR.lift (B := 32636915) ?_ hA hK
  clear hK hA
  have hK : Keeps pK 32636915 tK tK := Keeps.refl ..
  unfold execConsumeTick
  (try dsimp only)
  repeat' (first | assumption | rfl | (intro) | (with_reducible first | apply keepsR_next | apply keeps_foldl | apply keepsP_foldl | apply keeps_ite | apply keeps_cond | apply keepsR_ite | apply keepsP_ite | apply keepsO_pair | apply keepsO_none | apply keepsO_ite | apply keepsV_mk | apply keepsV_ite | apply keepsP_mk | apply keeps_State_consuming | apply keeps_State_tick | apply keeps_tickStep) | simp only [keeps_mk_iff, devSame_refl, devSame_mk, Nat.reduceAnd, eq_self, true_or, or_true, implies_true] | (refine KeepsP.of_eq (by assumption) ?_) | (refine KeepsO.of_eq (by assumption) ?_) | (refine KeepsV.of_eq (by assumption) ?_) | split)

theorem keeps_State_fwPairTask {pK : Bool} {AK : Nat} {sK tK : State}  (hA : 8388659 &&& AK = 8388659)  (hK : Keeps pK AK sK tK) :
    Keeps pK AK sK (State.fwPairTask tK) := by
  refine Keeps.lift (B := 8388659) ?_ hA hK
  clear hK hA
  have hK : Keeps pK 8388659 tK tK := Keeps.refl ..
  unfold State.fwPairTask
  (try dsimp only); (repeat' split) <;> simp (maxDischargeDepth := 60) +contextual only [Nat.reduceAnd, eq_self, keeps_State_endRun, hK]

theorem keeps_State_applyWrite {pK : Bool} {AK : Nat} {sK tK : State} (sideB : Bool) (w : StepWrite) (hA : 33554431 &&& AK = 33554431)  (hK : Keeps pK AK sK tK) :
    Keeps pK AK sK (State.applyWrite tK sideB w) := by
  refine Keeps.lift (B := 33554431) ?_ hA hK
  clear hK hA
  have hK : Keeps pK 33554431 tK tK := Keeps.refl ..
  unfold State.applyWrite
  (try dsimp only); (repeat' split) <;> simp (maxDischargeDepth := 60) +contextual only [Nat.reduceAnd, eq_self, KeepsP.fst, keeps_State_closeWq, keeps_State_dpControl, keeps_State_enter, keeps_State_fwConfirmedStep, keeps_State_fwFellBackStep, keeps_State_fwNotice, keeps_State_fwPairStep, keeps_State_fwPairTask, keeps_State_holdupStep, keeps_State_invalMap, keeps_State_openWq, keeps_State_pauseRebuilds, keeps_State_pwrfailStep, keeps_State_regEffect, keeps_State_resetWq, keeps_State_ringRq, keeps_State_ringSq, keeps_State_setAddr, keeps_State_setChain, keeps_State_slotEnable, keeps_State_slotHoldStep, keeps_State_taskStep, keeps_State_wakeSource, keeps_State_winCommit, hK]

theorem keeps_execConsumeMgmt {pK : Bool} {AK : Nat} {sK tK : State} (n : Nat) (hA : 33554431 &&& AK = 33554431)  (hK : Keeps pK AK sK tK) :
    KeepsR pK AK sK (execConsumeMgmt n tK) := by
  refine KeepsR.lift (B := 33554431) ?_ hA hK
  clear hK hA
  have hK : Keeps pK 33554431 tK tK := Keeps.refl ..
  unfold execConsumeMgmt
  (try dsimp only)
  repeat' (first | assumption | rfl | (intro) | (with_reducible first | apply keepsR_next | apply keeps_foldl | apply keepsP_foldl | apply keeps_ite | apply keeps_cond | apply keepsR_ite | apply keepsP_ite | apply keepsO_pair | apply keepsO_none | apply keepsO_ite | apply keepsV_mk | apply keepsV_ite | apply keepsP_mk | apply keeps_State_applyWrite | apply keeps_State_consuming) | simp only [keeps_mk_iff, devSame_refl, devSame_mk, Nat.reduceAnd, eq_self, true_or, or_true, implies_true] | (refine KeepsP.of_eq (by assumption) ?_) | (refine KeepsO.of_eq (by assumption) ?_) | (refine KeepsV.of_eq (by assumption) ?_) | split)

theorem keeps_retxStep {pK : Bool} {AK : Nat} {sK tK : State} (msgId : Nat) (index : Nat) (attempt : Nat) (hA : 25232291 &&& AK = 25232291)  (hK : Keeps pK AK sK tK) :
    Keeps pK AK sK (retxStep msgId index attempt tK) := by
  refine Keeps.lift (B := 25232291) ?_ hA hK
  clear hK hA
  have hK : Keeps pK 25232291 tK tK := Keeps.refl ..
  unfold retxStep
  (try dsimp only); (repeat' split) <;> simp (maxDischargeDepth := 60) +contextual only [Nat.reduceAnd, eq_self, keeps_State_resend, keeps_State_setMsg, hK]

theorem keeps_execConsumeRetx {pK : Bool} {AK : Nat} {sK tK : State} (n : Nat) (hA : 33159139 &&& AK = 33159139)  (hK : Keeps pK AK sK tK) :
    KeepsR pK AK sK (execConsumeRetx n tK) := by
  refine KeepsR.lift (B := 33159139) ?_ hA hK
  clear hK hA
  have hK : Keeps pK 33159139 tK tK := Keeps.refl ..
  unfold execConsumeRetx
  (try dsimp only)
  repeat' (first | assumption | rfl | (intro) | (with_reducible first | apply keepsR_next | apply keeps_foldl | apply keepsP_foldl | apply keeps_ite | apply keeps_cond | apply keepsR_ite | apply keepsP_ite | apply keepsO_pair | apply keepsO_none | apply keepsO_ite | apply keepsV_mk | apply keepsV_ite | apply keepsP_mk | apply keeps_State_consuming | apply keeps_State_settleReports | apply keeps_retxStep) | simp only [keeps_mk_iff, devSame_refl, devSame_mk, Nat.reduceAnd, eq_self, true_or, or_true, implies_true] | (refine KeepsP.of_eq (by assumption) ?_) | (refine KeepsO.of_eq (by assumption) ?_) | (refine KeepsV.of_eq (by assumption) ?_) | split)

theorem keeps_State_moveDrives {pK : Bool} {AK : Nat} {sK tK : State} (oldB : Bool) (hA : 32581155 &&& AK = 32581155)  (hK : Keeps pK AK sK tK) :
    Keeps pK AK sK (State.moveDrives tK oldB) := by
  refine Keeps.lift (B := 32581155) ?_ hA hK
  clear hK hA
  have hK : Keeps pK 32581155 tK tK := Keeps.refl ..
  simp (maxDischargeDepth := 60) +contextual only [State.moveDrives, Nat.reduceAnd, eq_self, implies_true, keeps_foldl, keeps_State_reissue, hK]

theorem keeps_handoverCut {pK : Bool} {AK : Nat} {sK tK : State}  (hA : 33140263 &&& AK = 33140263)  (hK : Keeps pK AK sK tK) :
    Keeps pK AK sK (handoverCut tK) := by
  refine Keeps.lift (B := 33140263) ?_ hA hK
  clear hK hA
  have hK : Keeps pK 33140263 tK tK := Keeps.refl ..
  simp (maxDischargeDepth := 60) +contextual only [handoverCut, Nat.reduceAnd, eq_self, true_or, or_true, devSame_refl, keeps_ite, keeps_mk, keeps_State_fwHandedOver, keeps_State_missedTicks, keeps_State_moveDrives, keeps_State_numberForwarded, keeps_State_raise, keeps_State_setRole, hK]

theorem keeps_resyncCutStep {pK : Bool} {AK : Nat} {sK tK : State} (n : Nat) (hA : 8389155 &&& AK = 8389155)  (hK : Keeps pK AK sK tK) :
    Keeps pK AK sK (resyncCutStep n tK) := by
  refine Keeps.lift (B := 8389155) ?_ hA hK
  clear hK hA
  have hK : Keeps pK 8389155 tK tK := Keeps.refl ..
  simp (maxDischargeDepth := 60) +contextual only [resyncCutStep, Nat.reduceAnd, eq_self, true_or, or_true, devSame_refl, keeps_ite, keeps_mk, keeps_State_sendDirty, keeps_State_sendLink, hK]

theorem keeps_execConsumeCut {pK : Bool} {AK : Nat} {sK tK : State} (n : Nat) (hA : 33144743 &&& AK = 33144743)  (hK : Keeps pK AK sK tK) :
    KeepsR pK AK sK (execConsumeCut n tK) := by
  refine KeepsR.lift (B := 33144743) ?_ hA hK
  clear hK hA
  have hK : Keeps pK 33144743 tK tK := Keeps.refl ..
  unfold execConsumeCut
  (try dsimp only)
  repeat' (first | assumption | rfl | (intro) | (with_reducible first | apply keepsR_next | apply keeps_foldl | apply keepsP_foldl | apply keeps_ite | apply keeps_cond | apply keepsR_ite | apply keepsP_ite | apply keepsO_pair | apply keepsO_none | apply keepsO_ite | apply keepsV_mk | apply keepsV_ite | apply keepsP_mk | apply keeps_State_consuming | apply keeps_State_setDelivery | apply keeps_State_setRole | apply keeps_handoverCut | apply keeps_resyncCutStep) | simp only [keeps_mk_iff, devSame_refl, Nat.reduceAnd, eq_self, true_or, or_true] | (refine KeepsP.of_eq (by assumption) ?_) | (refine KeepsO.of_eq (by assumption) ?_) | (refine KeepsV.of_eq (by assumption) ?_) | split)

/-! ## Machine/Thermal.lean -/

theorem keeps_execThermalTrip {pK : Bool} {AK : Nat} {sK tK : State} (celsius : Nat) (hA : 8388609 &&& AK = 8388609)  (hK : Keeps pK AK sK tK) :
    KeepsR pK AK sK (execThermalTrip celsius tK) := by
  refine KeepsR.lift (B := 8388609) ?_ hA hK
  clear hK hA
  have hK : Keeps pK 8388609 tK tK := Keeps.refl ..
  simp (maxDischargeDepth := 60) +contextual only [execThermalTrip, Nat.reduceAnd, eq_self, keeps_ite, keepsR_next, keeps_State_emit, keeps_State_set, keeps_State_setFlag, hK]

end Sys2Proof.Machine
end

