-- ==== Sys2Proof/Tests/Slice0.lean ====
section
/-!
SUPPORT. Tests/Slice0.lean: the author's own tests.
-/
namespace Sys2Proof
open Machine
theorem test_reset_queue : State.reset.pending = [] := rfl
end Sys2Proof
end

section
/-!
PROOFS. O12, O13 and O57 (00_scope.md, 18_power_reset_boot.md): accesses to BAR0 that the service port passes on, and a refutation by a register counter beyond its table.
-/
namespace Sys2Proof.Machine

/-! ## What an access that the service port passes on does -/

section Passed
variable {src : Src} {off size value : Nat} {s : State}

theorem gate_pass_or_unreachable (hu : s.gate src off ≠ .unsupported) (hf : s.gate src off ≠ .frozen) :
    s.gate src off = .pass ∨ s.gate src off = .unreachable := by
  cases h : s.gate src off with
  | pass => exact .inl rfl
  | unreachable => exact .inr rfl
  | unsupported => exact absurd h hu
  | frozen => exact absurd h hf

/-- R13: the island's state does not matter. -/
theorem exec_rcCounterRead_unoccupied (hu : s.gate src off ≠ .unsupported) (hf : s.gate src off ≠ .frozen) (ha : alignedAccess off size = true)
    (ho : occupied off size = false) : exec (.rcCounterRead src off size) s = .next (s.emit (.bar0Data off size 0)) := by
  change execRcCounterRead src off size s = _
  unfold execRcCounterRead
  rcases gate_pass_or_unreachable hu hf with hg | hg <;> simp [hg, ha, ho]

/-- R13: the island's state does not matter. -/
theorem exec_registerWrite_unoccupied (hu : s.gate src off ≠ .unsupported) (hf : s.gate src off ≠ .frozen) (ha : alignedAccess off size = true)
    (hs : 4 ≤ size) (ho : occupied off size = false) : exec (.registerWrite src off size value) s = .next s := by
  change execRegisterWrite src off size value s = _
  unfold execRegisterWrite
  rcases gate_pass_or_unreachable hu hf with hg | hg <;> simp [hg, ha, hs, ho]

theorem exec_rcCounterRead_occupied (hg : s.gate src off = .pass) (ha : alignedAccess off size = true) (ho : occupied off size = true) :
    exec (.rcCounterRead src off size) s = .next ((s.readEffect off size).emit (.bar0Data off size (s.readValue off size))) := by
  change execRcCounterRead src off size s = _
  unfold execRcCounterRead
  simp [hg, ha, ho]

/-- A register outside step state takes the write at once. -/
theorem exec_registerWrite_occupied (hg : s.gate src off = .pass) (ha : alignedAccess off size = true) (hs : 4 ≤ size) (ho : occupied off size = true)
    (hstep : isStepReg off = false) : exec (.registerWrite src off size value) s = .next (s.regEffect off size value) := by
  change execRegisterWrite src off size value s = _
  unfold execRegisterWrite
  simp [hg, ha, hs, ho, hstep]

theorem exec_accessTimeout_unoccupied (read : Option Nat) (ho : occupied (off / 4 * 4) 4 = false) : exec (.accessTimeout src off read) s = .next s := by
  change execAccessTimeout src off read s = _
  unfold execAccessTimeout
  rw [if_pos (Or.inr (by rw [ho]; rfl))]

/-- R30. -/
theorem exec_accessTimeout_occupied (hg : s.gate src off = .pass) (ho : occupied (off / 4 * 4) 4 = true) :
    exec (.accessTimeout src off none) s = .next (s.accessFault (islandOf off) 4) ∧
      exec (.accessTimeout src off (some size)) s = .next ((s.accessFault (islandOf off) 4).emit (.bar0Data off size (ones size))) := by
  have hgo : ¬ (s.gate src off ≠ .pass ∨ !occupied (off / 4 * 4) 4) := by simp [hg, ho]
  constructor
  · change execAccessTimeout src off none s = _
    unfold execAccessTimeout
    rw [if_neg hgo]
  · change execAccessTimeout src off (some size) s = _
    unfold execAccessTimeout
    rw [if_neg hgo]

end Passed

/-- Settles O12: the read and the write by the two gates that are left, the timeout by its own test of the offset. -/
theorem unoccupiedOffsetsReadZero : Obligations.UnoccupiedOffsetsReadZero := by
  intro src off size value read s hu hf
  exact ⟨fun ha ho => ⟨exec_rcCounterRead_unoccupied hu hf ha ho, fun hs => exec_registerWrite_unoccupied hu hf ha hs ho⟩, exec_accessTimeout_unoccupied read⟩

/-! ## Accesses of one whole word -/

theorem busWords_word {off : Nat} (h : off % 4 = 0) : busWords off 4 = [(off, 0, 4)] := by
  simp only [busWords, h]
  rw [if_neg (by decide), Nat.div_mul_cancel (Nat.dvd_of_mod_eq_zero h)]

theorem alignedAccess_word {off : Nat} (h : off % 4 = 0) : alignedAccess off 4 = true := by simp [alignedAccess, h]

theorem occupied_word {off : Nat} {x : BusWord} (h : off % 4 = 0) (hx : busWord off = some x) : occupied off 4 = true := by
  simp [occupied, busWords_word h, hx]

theorem regEffect_word {off : Nat} {x : BusWord} (s : State) (v : Nat) (h : off % 4 = 0) (hx : busWord off = some x) :
    s.regEffect off 4 v = s.wordWrite x (v % 2 ^ 32) := by
  simp [State.regEffect, busWords_word h, hx]

/-- A store is cut to the field's width, so only the value modulo the width counts. -/
theorem set_congr_mod (s : State) (f : Fld) {a b : Nat} (i j : Nat) (h : a % 2 ^ f.width = b % 2 ^ f.width) : s.set f a i j = s.set f b i j := by
  unfold State.set
  rw [h]

/-! ## TASK_CMD (R459) -/

/-- The row of RegTable.lean for TASK_CMD; `busWord_taskCmd` finds it there. -/
def taskCmdRow : RegRow := ⟨"TASK_CMD", 0x10000, 4, 16, 0, 1, 32, [F.TASK_CMD.WORD]⟩

theorem busWord_taskCmd : ∀ n < 16, busWord (0x10000 + 4 * n) = some (.reg taskCmdRow n 0 false) := by decide +kernel

theorem writeHeld_taskCmd (s : State) : s.writeHeld F.TASK_CMD.WORD = s.flag F.TASK_STATUS.BUSY := by simp [State.writeHeld, F.TASK_CMD.WORD]

theorem outOfRange_taskCmd (s : State) (v : Nat) : s.outOfRange F.TASK_CMD.WORD v = false := by
  simp [State.outOfRange, F.TASK_CMD.WORD, F.SKD_CTL.PRIORITY, F.SKD_RATE.GBS, F.SVC_WIN_BASE.GIB]

theorem fieldWrite_taskCmd (s : State) (n v : Nat) :
    s.fieldWrite F.TASK_CMD.WORD n 0 false v = if s.flag F.TASK_STATUS.BUSY then s else s.set F.TASK_CMD.WORD v n := by
  have hrow : ownRow F.TASK_CMD.WORD false = false := by decide
  have hpfc : F.TASK_CMD.WORD ≠ F.HP_LP_CTL.PFC_TX := by decide
  have hacc : F.TASK_CMD.WORD.acc = .rw := rfl
  have hlo : F.TASK_CMD.WORD.lo = 0 := rfl
  have hhi : F.TASK_CMD.WORD.hi = 31 := rfl
  -- the field fills its word: of the old value only what lies beyond its width could stay, and that is cut
  have hset (old : Nat) : s.set F.TASK_CMD.WORD (old - old % 4294967296 + v % 4294967296) n = s.set F.TASK_CMD.WORD v n :=
    set_congr_mod s _ n 0 (by rw [show F.TASK_CMD.WORD.width = 32 from rfl]; omega)
  simp [State.fieldWrite, hrow, hpfc, hacc, hlo, hhi, hset, writeHeld_taskCmd, outOfRange_taskCmd]

theorem wordWrite_taskCmd (s : State) (n v : Nat) :
    s.wordWrite (.reg taskCmdRow n 0 false) v = if s.flag F.TASK_STATUS.BUSY then s else s.set F.TASK_CMD.WORD v n := by
  have hmask : taskCmdRow.off ≠ F.EVT_MASK.MASK.off := by decide
  have hgo : taskCmdRow.off ≠ F.TASK_GO.GO.off := by decide
  simp only [State.wordWrite, hmask, hgo, if_false, false_and]
  exact fieldWrite_taskCmd s n v

theorem exec_registerWrite_taskCmd (src : Src) (n v : Nat) (s : State) (hn : n < 16) (hg : s.gate src (0x10000 + 4 * n) = .pass) :
    exec (.registerWrite src (0x10000 + 4 * n) 4 v) s = .next (if s.flag F.TASK_STATUS.BUSY then s else s.set F.TASK_CMD.WORD (v % 2 ^ 32) n) := by
  have h4 : (0x10000 + 4 * n) % 4 = 0 := by omega
  have hword := busWord_taskCmd n hn
  have hstep : isStepReg (0x10000 + 4 * n) = false := by simp [isStepReg, F.SKD_CTL.PRIORITY, F.SKD_RATE.GBS]; omega
  rw [exec_registerWrite_occupied hg (alignedAccess_word h4) (le_refl 4) (occupied_word h4 hword) hstep, regEffect_word s v h4 hword, wordWrite_taskCmd]

/-! ## SVC_BAR2_WRITE, a counter that a read clears (R12, R14) -/

/-- The row of RegTable.lean for SVC_BAR2_WRITE; `busWord_bar2Write` finds it there. -/
def bar2WriteRow : RegRow := ⟨"SVC_BAR2_WRITE", 0x10074, 0, 1, 0, 1, 32, [F.SVC_BAR2_WRITE.COUNT]⟩

theorem busWord_bar2Write : busWord F.SVC_BAR2_WRITE.COUNT.off = some (.reg bar2WriteRow 0 0 false) := by decide +kernel

theorem showsOpen_bar2Write : showsOpen F.SVC_BAR2_WRITE.COUNT.off = false := by decide +kernel

theorem bar2Write_off_aligned : F.SVC_BAR2_WRITE.COUNT.off / 4 * 4 = F.SVC_BAR2_WRITE.COUNT.off := by decide

theorem busWords_bar2Write {size : Nat} (hs : size ≤ 4) : busWords F.SVC_BAR2_WRITE.COUNT.off size = [(F.SVC_BAR2_WRITE.COUNT.off, 0, size)] := by
  simp [busWords, show ¬ size = 8 by omega, F.SVC_BAR2_WRITE.COUNT]

/-- The counter shows what is stored: no unit's state stands behind it. -/
theorem shown_bar2Write (s : State) : s.shown F.SVC_BAR2_WRITE.COUNT 0 0 = s.get F.SVC_BAR2_WRITE.COUNT := by
  have hfind : shownFields.find? (fun x => x.fld.off == F.SVC_BAR2_WRITE.COUNT.off && x.fld.lo == F.SVC_BAR2_WRITE.COUNT.lo) = none := by decide +kernel
  unfold State.shown
  rw [if_neg (by decide), hfind]

theorem wordValue_bar2Write (s : State) : s.wordValue (.reg bar2WriteRow 0 0 false) = s.get F.SVC_BAR2_WRITE.COUNT % 2 ^ 32 := by
  have hreg : s.regValue bar2WriteRow 0 0 = s.get F.SVC_BAR2_WRITE.COUNT := by
    simp [State.regValue, bar2WriteRow, shown_bar2Write, show F.SVC_BAR2_WRITE.COUNT.lo = 0 from rfl]
  simp only [State.wordValue, Bool.false_eq_true, if_false, hreg]

theorem readValue_bar2Write (s : State) {size : Nat} (hs : size ≤ 4) :
    s.readValue F.SVC_BAR2_WRITE.COUNT.off size = s.get F.SVC_BAR2_WRITE.COUNT % 2 ^ (8 * size) := by
  have hlow : F.SVC_BAR2_WRITE.COUNT.off % 4 = 0 := by decide
  have hdvd : 2 ^ (8 * size) ∣ 2 ^ 32 := pow_dvd_pow 2 (by omega)
  unfold State.readValue
  rw [if_neg (by omega), bar2Write_off_aligned, hlow]
  beta_reduce
  rw [busWord_bar2Write, Option.map_some, Option.getD_some, wordValue_bar2Write, Nat.mul_zero, pow_zero, Nat.div_one, Nat.mod_mod_of_dvd _ hdvd]

/-- Only a read of all four bytes covers the counter and clears it. -/
theorem wordRead_bar2Write (s : State) (size : Nat) (hs : size ≤ 4) :
    s.wordRead (.reg bar2WriteRow 0 0 false) 0 size = if size = 4 then s.set F.SVC_BAR2_WRITE.COUNT 0 else s := by
  have hcov : covers F.SVC_BAR2_WRITE.COUNT 0 0 size = decide (size = 4) := by
    have h : (31 < 8 * size) = (size = 4) := propext (by omega)
    simp [covers, F.SVC_BAR2_WRITE.COUNT, h]
  have hcleared : bar2WriteRow.flds.filter (fun f => f.acc == .rc && covers f 0 0 size) = if size = 4 then [F.SVC_BAR2_WRITE.COUNT] else [] := by
    simp [bar2WriteRow, List.filter_cons, hcov, show F.SVC_BAR2_WRITE.COUNT.acc = .rc from rfl]
  have hfifo : F.SVC_BAR2_WRITE.COUNT ≠ F.PTP_TX_ID.VALID := by decide
  simp only [State.wordRead, Bool.false_eq_true, if_false, hcleared]
  by_cases h4 : size = 4
  · simp only [h4, if_true, List.foldl_cons, List.foldl_nil, hfifo, if_false]
  · simp only [h4, if_false, List.foldl_nil]

theorem readEffect_bar2Write (s : State) {size : Nat} (hs : size ≤ 4) :
    s.readEffect F.SVC_BAR2_WRITE.COUNT.off size = if size = 4 then s.set F.SVC_BAR2_WRITE.COUNT 0 else s := by
  simp only [State.readEffect, busWords_bar2Write hs, List.foldl_cons, List.foldl_nil, busWord_bar2Write, bar2Write_off_aligned, showsOpen_bar2Write, Bool.false_eq_true, if_false]
  exact wordRead_bar2Write s size hs

theorem exec_rcCounterRead_bar2Write (src : Src) (s : State) {size : Nat} (hs : size = 4 ∨ size = 2) (hg : s.gate src F.SVC_BAR2_WRITE.COUNT.off = .pass) :
    exec (.rcCounterRead src F.SVC_BAR2_WRITE.COUNT.off size) s =
      .next ((if size = 4 then s.set F.SVC_BAR2_WRITE.COUNT 0 else s).emit
        (.bar0Data F.SVC_BAR2_WRITE.COUNT.off size (s.get F.SVC_BAR2_WRITE.COUNT % 2 ^ (8 * size)))) := by
  have hle : size ≤ 4 := by omega
  have ha : alignedAccess F.SVC_BAR2_WRITE.COUNT.off size = true := by rcases hs with rfl | rfl <;> decide
  have ho : occupied F.SVC_BAR2_WRITE.COUNT.off size = true := by simp [occupied, busWords_bar2Write hle, busWord_bar2Write]
  rw [exec_rcCounterRead_occupied hg ha ho, readEffect_bar2Write s hle, readValue_bar2Write s hle]

/-- Settles O13: one lemma for each of the three registers' accesses. -/
theorem registerAccess : Obligations.RegisterAccess :=
  ⟨fun src n v s hn hg => exec_registerWrite_taskCmd src n v s hn hg,
    fun src s hg => ⟨exec_rcCounterRead_bar2Write src s (.inl rfl) hg, exec_rcCounterRead_bar2Write src s (.inr rfl) hg⟩,
    fun _ _ _ _ hg ho => exec_accessTimeout_occupied hg ho⟩

/-! ## A start-up that ends at another step (O57)

Nothing in `State` bounds the number of a Pattern record, and `Fld.at` puts copy n of a register n strides on, whatever n is. The counter of green packets of meter 438,272 is thus PWR_STATE, and its
value BOOT_STEP. BOOT_READY releases the slot hold last: a slot that is powered without a command turns off, its drive port goes down, the host read that waited for the drive fails, and its response
makes the sender look at the destination again, where a path probe waits. The probe leaves through that meter after BOOT_STEP has been set to 8. -/

/-- A meter on class 0 of logical port 0 with room for any packet, whose number lies beyond the 1,024 of TC_MTR_GREEN. -/
def overrunMeter : PatRec :=
  { type := 0x0082, inst := 438272, body := [0, 0, 0, 0, 1, 0, 0, 0] ++ List.replicate 24 0xFF }

theorem overrunMeter_counter_is_bootStep : F.TC_MTR_GREEN.COUNT.key overrunMeter.inst 0 = F.PWR_STATE.BOOT_STEP.key 0 0 := by decide

/-- A Flume record: this controller is peer 0. -/
def overrunFlume : PatRec := { type := 0x0090, inst := 0, body := zeroBytes 64 }

/-- The way to peer 7, over logical port 0. -/
def overrunFlow : Flow :=
  { peer := 7, ip := ⟨false, 0⟩, salt := 0, rtt := none, paths := [freshPath], nextPath := 0, cwnd := wInit, inflight := 0, hops := 1, lastDecreaseNs := 0,
    localIp := some ⟨false, 0⟩, lport := 0, lastUseNs := 0 }

/-- A probe of that path, not yet sent. -/
def overrunProbe : Msg :=
  { key := 0, id := 0, dst := 7, opcode := opProbe, len := 0, sizeCode := 3, window := 0, winOffset := 0, aux := 0, notify := false, fence := none, solicit := false,
    src := .bytes [], use := .probe 0, side := .own, desc := none, faulted := false, got := [], st := .queued, t0Us := 0, pkts := freshPkts 1, holdUntilUs := 0, tag := none,
    cls := 0 }

/-- A Read of one block. -/
def overrunCapsule : Capsule :=
  { opcode := 2, flags := 0, cid := 0, nsid := 1, sglId := 0, sglAddr := 0, sglLen := 0, sglKey := 0, cdw10 := 0, cdw11 := 0, cdw12 := 0, cdw13 := 0, cdw14 := 0, cdw15 := 0,
    data := [] }

/-- That Read as peer 7 sent it, with the engines, one run of which waits for a drive. -/
def overrunCmd : Cmd :=
  { key := 1, queue := 1, ctrl := 1, cap := overrunCapsule, sub := 0, slba := 0, nlb := 1, lbaf := 0, engines := true, st := .reading, acceptedUs := 0, heldUs := 0, alerted := false, data := [],
    gotBytes := 0, blocks := [], rd := [none], commitStep := 0, issued := true, extents := []
    runs := [{ group := 0, stripe := 0, col := 0, off := 0, n := 1, first := 0, got := [], degraded := true, waitSweep := false, bad := false, poisonedOnce := false }] }

/-- The queue it came on: responses go to peer 7. -/
def overrunQueue : NvmQueue :=
  { key := 1, ctrl := 1, qid := 1, tr := .flume 0 7 0 ⟨false, 0⟩, sqSize := 16, sqHead := 0, authed := true, authStep := 0, authFailed := false }

/-- The drive command of that run, at the drive of port 0. -/
def overrunRead : DrvCmd :=
  { cid := 0, port := 0, sideB := false, queue := 1, op := 2, lba := 0, nlb := 1, tag := none, viaYard := false, blocks := [], use := .hostRead 1 0 0, cls := 0, formedUs := 0,
    issues := 0, errors := [], st := .atDrive, nguid := 0 }

/-- The state after a power-on reset at step 5 of start-up, but for slot 0, which is powered, its READY drive and what waits for it. -/
def overrunState : State :=
  let s := (State.reset.set F.PWR_STATE.BOOT_STEP 5).set F.DP_STATUS.STATE dpReady 0
  { s with
    pat := { s.pat with live := [overrunMeter, overrunFlume] }
    flm := { s.flm with msgs := [overrunProbe], epochs := [⟨1, .current, 0⟩], orderCtr := 1 }
    fx := { s.fx with flows := [overrunFlow] }
    nvm := { s.nvm with cmds := [overrunCmd], queues := [overrunQueue] }
    drv := { s.drv with cmds := [overrunRead] }
    slot := { s.slot with paths := [(0, { slotPath0 with st := chGood, begun := true })] } }

theorem overrunState_completes_startUp : overrunState.power = stResetting ∧ overrunState.get F.PWR_STATE.BOOT_STEP = 5 ∧
    overrunState.flag F.FWU_STATUS.RECOVERY = false ∧ overrunState.pat.run = none ∧ overrunState.pwr.fatalNs = none := by decide +kernel

/-- BOOT_STEP where a row has ended in a next state. -/
def bootStepAfter : Result → Option Nat
  | .next t => some (t.get F.PWR_STATE.BOOT_STEP)
  | .fault _ => none
  | .refused _ => none

/-- The probe that leaves makes BOOT_STEP 9. -/
theorem bootStepAfter_bootReady_overrunState : bootStepAfter (exec .bootReady overrunState) = some 9 := by decide +kernel

/-- Refutes O57 in its last clause: a BOOT_READY that releases the slot hold can count a packet at a meter whose counter is PWR_STATE, and BOOT_STEP ends as 9. -/
theorem not_resetsAndStartUp : ¬ Obligations.ResetsAndStartUp := by
  rintro ⟨-, -, -, -, -, -, -, -, hready⟩
  obtain ⟨hpower, hstep, hrec, hrun, hfatal⟩ := overrunState_completes_startUp
  obtain ⟨t, ht, -, -, h8, -⟩ := hready overrunState hpower hstep hrec hrun hfatal
  have h9 := bootStepAfter_bootReady_overrunState
  rw [ht] at h9
  exact absurd (h8.symm.trans (Option.some.inj h9)) (by decide)

end Sys2Proof.Machine
end

section
/-!
PROOFS. O6, O14, O15 and O26 (01_architecture.md, 05_nvme_service.md): what every command keeps, bridge faults, the loss of lock, and the times of an NVMe command.
-/
namespace Sys2Proof.Machine

/-! ## What every command keeps (R27) -/

/-- Every row has its own `keeps_exec` lemma; only POWER_ON_RESET needs the leave to set device time back. The set of parts is all of them. -/
theorem exec_keeps (p : Bool) (c : Instr) (s : State) (hp : c = .powerOnReset → p = true) : KeepsR p 33554431 s (exec c s) := by
  cases c with
  | registerWrite => exact keeps_execRegisterWrite _ _ _ _ rfl (.refl ..)
  | rcCounterRead => exact keeps_execRcCounterRead _ _ _ rfl (.refl ..)
  | accessTimeout => exact keeps_execAccessTimeout _ _ _ rfl (.refl ..)
  | clockLockLoss => exact keeps_execClockLockLoss _ rfl (.refl ..)
  | storeCommitDone => exact keeps_execStoreCommitDone _ rfl (.refl ..)
  | storeCommitCoalesced => exact keeps_execStoreCommitCoalesced rfl (.refl ..)
  | liveRecordsEffect => exact keeps_execLiveRecordsEffect rfl (.refl ..)
  | sendPacketRx => exact keeps_execSendPacketRx _ _ rfl (.refl ..)
  | writePacketRx => exact keeps_execWritePacketRx _ _ rfl (.refl ..)
  | readRx => exact keeps_execReadRx _ _ rfl (.refl ..)
  | readRespRx => exact keeps_execReadRespRx _ _ rfl (.refl ..)
  | ackRx => exact keeps_execAckRx _ rfl (.refl ..)
  | nackRx => exact keeps_execNackRx _ rfl (.refl ..)
  | busyRx => exact keeps_execBusyRx _ rfl (.refl ..)
  | probeRx => exact keeps_execProbeRx _ rfl (.refl ..)
  | slotExpiry => exact keeps_execSlotExpiry _ _ rfl (.refl ..)
  | tableEntryExpiry => exact keeps_execTableEntryExpiry _ _ rfl (.refl ..)
  | ackDelayExpiry => exact keeps_execAckDelayExpiry _ _ rfl (.refl ..)
  | retransmitTimerExpiry => exact keeps_execRetransmitTimerExpiry _ _ rfl (.refl ..)
  | busyHoldExpiry => exact keeps_execBusyHoldExpiry _ rfl (.refl ..)
  | messageDeadline => exact keeps_execMessageDeadline _ rfl (.refl ..)
  | probeInterval => exact keeps_execProbeInterval _ _ rfl (.refl ..)
  | probeUnanswered => exact keeps_execProbeUnanswered _ rfl (.refl ..)
  | flmWinCommit => exact keeps_execFlmWinCommit _ _ _ _ _ rfl (.refl ..)
  | windowCommitApply => exact keeps_execWindowCommitApply rfl (.refl ..)
  | readFilterExpiry => exact keeps_execReadFilterExpiry _ _ rfl (.refl ..)
  | wqOpen => exact keeps_execWqOpen _ _ _ rfl (.refl ..)
  | wqClose => exact keeps_execWqClose _ _ rfl (.refl ..)
  | wqReset => exact keeps_execWqReset _ _ rfl (.refl ..)
  | wqDoorbell => exact keeps_execWqDoorbell _ _ _ _ rfl (.refl ..)
  | rqDoorbell => exact keeps_execRqDoorbell _ _ _ _ _ rfl (.refl ..)
  | descSend => exact keeps_execDescSend _ _ _ _ _ rfl (.refl ..)
  | descWrite => exact keeps_execDescWrite _ _ _ _ _ rfl (.refl ..)
  | descRead => exact keeps_execDescRead _ _ _ _ rfl (.refl ..)
  | descWait => exact keeps_execDescWait _ _ _ rfl (.refl ..)
  | descNop => exact keeps_execDescNop _ _ _ rfl (.refl ..)
  | waitSatisfied => exact keeps_execWaitSatisfied _ _ rfl (.refl ..)
  | fenceLimitRelease => exact keeps_execFenceLimitRelease _ _ _ rfl (.refl ..)
  | readTagFree => exact keeps_execReadTagFree _ _ rfl (.refl ..)
  | flowCacheAdmit => exact keeps_execFlowCacheAdmit _ rfl (.refl ..)
  | wqFaultResolved => exact keeps_execWqFaultResolved _ _ rfl (.refl ..)
  | chainCounterWrite => exact keeps_execChainCounterWrite _ _ _ _ rfl (.refl ..)
  | addressTableWrite => exact keeps_execAddressTableWrite _ _ _ rfl (.refl ..)
  | epochTransition => exact keeps_execEpochTransition rfl (.refl ..)
  | connect => exact keeps_execConnect _ _ rfl (.refl ..)
  | propertyGet => exact keeps_execPropertyGet _ _ rfl (.refl ..)
  | propertySet => exact keeps_execPropertySet _ _ rfl (.refl ..)
  | disconnect => exact keeps_execDisconnect _ _ rfl (.refl ..)
  | authSend => exact keeps_execAuthSend _ _ _ rfl (.refl ..)
  | authReceive => exact keeps_execAuthReceive _ _ _ rfl (.refl ..)
  | identify => exact keeps_execIdentify _ _ rfl (.refl ..)
  | getLogPage => exact keeps_execGetLogPage _ _ rfl (.refl ..)
  | abort => exact keeps_execAbort _ _ rfl (.refl ..)
  | setFeatures => exact keeps_execSetFeatures _ _ rfl (.refl ..)
  | getFeatures => exact keeps_execGetFeatures _ _ rfl (.refl ..)
  | asyncEventRequest => exact keeps_execAsyncEventRequest _ _ rfl (.refl ..)
  | keepAlive => exact keeps_execKeepAlive _ _ rfl (.refl ..)
  | firmwareImageDownload => exact keeps_execFirmwareImageDownload _ _ rfl (.refl ..)
  | fwCommitVerify => exact keeps_execFwCommitVerify _ _ _ rfl (.refl ..)
  | fwCommitNextReset => exact keeps_execFwCommitNextReset _ _ _ rfl (.refl ..)
  | fwCommitSlot => exact keeps_execFwCommitSlot _ _ rfl (.refl ..)
  | fwCommitNow => exact keeps_execFwCommitNow _ _ _ _ rfl (.refl ..)
  | flush => exact keeps_execFlush _ _ rfl (.refl ..)
  | nvmeRead => exact keeps_execNvmeRead _ _ rfl (.refl ..)
  | verify => exact keeps_execVerify _ _ rfl (.refl ..)
  | compare => exact keeps_execCompare _ _ rfl (.refl ..)
  | nvmeWrite => exact keeps_execNvmeWrite _ _ rfl (.refl ..)
  | writeZeroes => exact keeps_execWriteZeroes _ _ rfl (.refl ..)
  | datasetManagement => exact keeps_execDatasetManagement _ _ rfl (.refl ..)
  | reservationRegister => exact keeps_execReservationRegister _ _ rfl (.refl ..)
  | reservationReport => exact keeps_execReservationReport _ _ rfl (.refl ..)
  | reservationAcquire => exact keeps_execReservationAcquire _ _ rfl (.refl ..)
  | reservationRelease => exact keeps_execReservationRelease _ _ rfl (.refl ..)
  | runtCapsule => exact keeps_execRuntCapsule _ rfl (.refl ..)
  | katoExpiry => exact keeps_execKatoExpiry _ rfl (.refl ..)
  | heldWriteResume => exact keeps_execHeldWriteResume _ rfl (.refl ..)
  | writeHeldAlert => exact keeps_execWriteHeldAlert _ rfl (.refl ..)
  | writeHeldTimeout => exact keeps_execWriteHeldTimeout _ rfl (.refl ..)
  | cmdLimitExpiry => exact keeps_execCmdLimitExpiry _ rfl (.refl ..)
  | tcpSyn => exact keeps_execTcpSyn _ rfl (.refl ..)
  | tcpPduRx => exact keeps_execTcpPduRx _ _ _ _ rfl (.refl ..)
  | chuteAdmit => exact keeps_execChuteAdmit _ _ _ rfl (.refl ..)
  | mapInval => exact keeps_execMapInval _ _ _ _ rfl (.refl ..)
  | mapInvalDone => exact keeps_execMapInvalDone rfl (.refl ..)
  | apertureWrite => exact keeps_execApertureWrite _ _ _ rfl (.refl ..)
  | apertureRead => exact keeps_execApertureRead _ _ _ rfl (.refl ..)
  | tagHoldExpiry => exact keeps_execTagHoldExpiry _ rfl (.refl ..)
  | writeCommitPoint => exact keeps_execWriteCommitPoint _ rfl (.refl ..)
  | destageStart => exact keeps_execDestageStart _ _ _ rfl (.refl ..)
  | yardBufferGrant => exact keeps_execYardBufferGrant _ rfl (.refl ..)
  | brandUpdateDone => exact keeps_execBrandUpdateDone _ rfl (.refl ..)
  | mapCommitDone => exact keeps_execMapCommitDone _ _ rfl (.refl ..)
  | tallyEntryFree => exact keeps_execTallyEntryFree _ _ _ rfl (.refl ..)
  | dumpWriteWaitExpiry => exact keeps_execDumpWriteWaitExpiry rfl (.refl ..)
  | dumpComplete => exact keeps_execDumpComplete rfl (.refl ..)
  | pwrfailAssert => exact keeps_execPwrfailAssert _ rfl (.refl ..)
  | pwrfailDeassert => exact keeps_execPwrfailDeassert rfl (.refl ..)
  | recovery => exact keeps_execRecovery _ _ _ rfl (.refl ..)
  | dumpRetireRecovered => exact keeps_execDumpRetireRecovered rfl (.refl ..)
  | sweepStripe => exact keeps_execSweepStripe _ _ _ rfl (.refl ..)
  | skidderStripe => exact keeps_execSkidderStripe _ _ _ rfl (.refl ..)
  | patrolStripe => exact keeps_execPatrolStripe _ _ rfl (.refl ..)
  | patrolLate => exact keeps_execPatrolLate _ rfl (.refl ..)
  | skdPause => exact keeps_execSkdPause _ _ rfl (.refl ..)
  | migGranuleSend => exact keeps_execMigGranuleSend _ _ rfl (.refl ..)
  | migGranuleRx => exact keeps_execMigGranuleRx _ _ _ _ _ rfl (.refl ..)
  | migDone => exact keeps_execMigDone _ rfl (.refl ..)
  | roleSelect => exact keeps_execRoleSelect _ rfl (.refl ..)
  | faultNotice => exact keeps_execFaultNotice _ rfl (.refl ..)
  | pairActiveInLoss => exact keeps_execPairActiveInLoss _ rfl (.refl ..)
  | tickIssue => exact keeps_execTickIssue rfl (.refl ..)
  | consumeHostFrame => exact keeps_execConsumeHostFrame _ rfl (.refl ..)
  | consumeDriveCqe => exact keeps_execConsumeDriveCqe _ _ rfl (.refl ..)
  | consumeDriveEvent => exact keeps_execConsumeDriveEvent _ rfl (.refl ..)
  | consumeTick => exact keeps_execConsumeTick _ rfl (.refl ..)
  | consumeMgmt => exact keeps_execConsumeMgmt _ rfl (.refl ..)
  | consumeSlot => exact keeps_execConsumeSlot _ rfl (.refl ..)
  | consumeRetx => exact keeps_execConsumeRetx _ rfl (.refl ..)
  | consumeCut => exact keeps_execConsumeCut _ rfl (.refl ..)
  | forwardRx => exact keeps_execForwardRx _ rfl (.refl ..)
  | linkIdleSend => exact keeps_execLinkIdleSend rfl (.refl ..)
  | helloRx => exact keeps_execHelloRx _ _ _ rfl (.refl ..)
  | heartbeatSend => exact keeps_execHeartbeatSend rfl (.refl ..)
  | heartbeatRx => exact keeps_execHeartbeatRx _ rfl (.refl ..)
  | inputRx => exact keeps_execInputRx _ rfl (.refl ..)
  | stagedRx => exact keeps_execStagedRx _ rfl (.refl ..)
  | digestRx => exact keeps_execDigestRx _ rfl (.refl ..)
  | snapshotRx => exact keeps_execSnapshotRx _ rfl (.refl ..)
  | resyncFrameRx => exact keeps_execResyncFrameRx _ rfl (.refl ..)
  | linkNakRx => exact keeps_execLinkNakRx _ rfl (.refl ..)
  | linkFailure => exact keeps_execLinkFailure _ rfl (.refl ..)
  | heartbeatTimeout => exact keeps_execHeartbeatTimeout _ rfl (.refl ..)
  | resyncPassDone => exact keeps_execResyncPassDone _ rfl (.refl ..)
  | resyncCut => exact keeps_execResyncCut rfl (.refl ..)
  | joinerInStep => exact keeps_execJoinerInStep rfl (.refl ..)
  | wswHandover => exact keeps_execWswHandover _ rfl (.refl ..)
  | wswDetach => exact keeps_execWswDetach _ rfl (.refl ..)
  | wswResync => exact keeps_execWswResync _ rfl (.refl ..)
  | hostFrameRx => exact keeps_execHostFrameRx _ _ _ _ rfl (.refl ..)
  | hostLinkUp => exact keeps_execHostLinkUp _ rfl (.refl ..)
  | hostLinkDown => exact keeps_execHostLinkDown _ rfl (.refl ..)
  | pauseFrameRx => exact keeps_execPauseFrameRx _ _ _ _ _ rfl (.refl ..)
  | pauseExpiry => exact keeps_execPauseExpiry _ _ rfl (.refl ..)
  | pauseWatchdogTrip => exact keeps_execPauseWatchdogTrip _ _ rfl (.refl ..)
  | pauseWatchdogClear => exact keeps_execPauseWatchdogClear _ _ rfl (.refl ..)
  | pfcRepeat => exact keeps_execPfcRepeat _ _ rfl (.refl ..)
  | ptpAdjOfsWrite => exact keeps_execPtpAdjOfsWrite _ _ _ rfl (.refl ..)
  | ptpAdjRateWrite => exact keeps_execPtpAdjRateWrite _ _ rfl (.refl ..)
  | ptpAdjApply => exact keeps_execPtpAdjApply rfl (.refl ..)
  | ptpTxIdRead => exact keeps_execPtpTxIdRead _ _ rfl (.refl ..)
  | ppsOutEdge => exact keeps_execPpsOutEdge rfl (.refl ..)
  | ppsInEdge => exact keeps_execPpsInEdge rfl (.refl ..)
  | egressService point frames => exact keeps_execEgressService (tK := s) point frames rfl (.refl ..)
  | batchCommit => exact keeps_execBatchCommit _ rfl (.refl ..)
  | gateEntryChange => exact keeps_execGateEntryChange _ rfl (.refl ..)
  | gateListStart => exact keeps_execGateListStart _ rfl (.refl ..)
  | drivePerstRelease => exact keeps_execDrivePerstRelease _ rfl (.refl ..)
  | driveLinkTrained => exact keeps_execDriveLinkTrained _ _ _ _ rfl (.refl ..)
  | driveConfigDone => exact keeps_execDriveConfigDone _ rfl (.refl ..)
  | driveControllerReady => exact keeps_execDriveControllerReady _ _ rfl (.refl ..)
  | driveChecksDone => exact keeps_execDriveChecksDone _ _ _ rfl (.refl ..)
  | driveBrandRead => exact keeps_execDriveBrandRead _ _ rfl (.refl ..)
  | driveReady => exact keeps_execDriveReady _ _ rfl (.refl ..)
  | driveBringupTimeout => exact keeps_execDriveBringupTimeout _ _ rfl (.refl ..)
  | surpriseDown => exact keeps_execSurpriseDown _ _ rfl (.refl ..)
  | drivePortError => exact keeps_execDrivePortError _ _ _ rfl (.refl ..)
  | containmentAutoRelease => exact keeps_execContainmentAutoRelease _ rfl (.refl ..)
  | dpRelease => exact keeps_execDpRelease _ _ rfl (.refl ..)
  | dpReset => exact keeps_execDpReset _ _ rfl (.refl ..)
  | inboundRequest => exact keeps_execInboundRequest _ _ _ _ rfl (.refl ..)
  | cplTimeout => exact keeps_execCplTimeout _ _ rfl (.refl ..)
  | unexpectedCompletion => exact keeps_execUnexpectedCompletion _ _ rfl (.refl ..)
  | driveCqeRx => exact keeps_execDriveCqeRx _ _ rfl (.refl ..)
  | cqDoorbellTimer => exact keeps_execCqDoorbellTimer _ _ rfl (.refl ..)
  | driveCmdTimeout => exact keeps_execDriveCmdTimeout _ rfl (.refl ..)
  | adminCmdTimeout => exact keeps_execAdminCmdTimeout _ rfl (.refl ..)
  | memberUnreachableTimeout => exact keeps_execMemberUnreachableTimeout _ _ rfl (.refl ..)
  | sidebandPoll => exact keeps_execSidebandPoll _ _ rfl (.refl ..)
  | smartPoll => exact keeps_execSmartPoll _ _ rfl (.refl ..)
  | presenceConfirmed => exact keeps_execPresenceConfirmed _ _ _ _ rfl (.refl ..)
  | supplyWindowChange => exact keeps_execSupplyWindowChange _ _ _ _ rfl (.refl ..)
  | insertDelayExpiry => exact keeps_execInsertDelayExpiry _ _ _ rfl (.refl ..)
  | rampComplete => exact keeps_execRampComplete _ _ _ rfl (.refl ..)
  | limitEngage => exact keeps_execLimitEngage _ _ _ rfl (.refl ..)
  | limitDisengage => exact keeps_execLimitDisengage _ _ _ rfl (.refl ..)
  | faultTimerTrip => exact keeps_execFaultTimerTrip _ _ _ rfl (.refl ..)
  | fastTrip => exact keeps_execFastTrip _ _ _ rfl (.refl ..)
  | powerGoodQualified => exact keeps_execPowerGoodQualified _ _ _ rfl (.refl ..)
  | slotEnableWrite => exact keeps_execSlotEnableWrite _ _ _ rfl (.refl ..)
  | svcLinkChange => exact keeps_execSvcLinkChange _ _ rfl (.refl ..)
  | svcFreeze => exact keeps_execSvcFreeze _ rfl (.refl ..)
  | freezeRelease => exact keeps_execFreezeRelease _ rfl (.refl ..)
  | functionLevelReset => exact keeps_execFunctionLevelReset rfl (.refl ..)
  | bar2Write addr => exact keeps_execBar2Write addr rfl (.refl ..)
  | msixUnmask => exact keeps_execMsixUnmask _ rfl (.refl ..)
  | pmStateWrite => exact keeps_execPmStateWrite _ rfl (.refl ..)
  | nop => exact keeps_execNop _ rfl (.refl ..)
  | identity => exact keeps_execIdentity _ rfl (.refl ..)
  | patBlock => exact keeps_execPatBlock _ _ rfl (.refl ..)
  | patCommit => exact keeps_execPatCommit _ _ _ rfl (.refl ..)
  | patAbort => exact keeps_execPatAbort _ rfl (.refl ..)
  | overlaySet => exact keeps_execOverlaySet _ rfl (.refl ..)
  | ownerCommission => exact keeps_execOwnerCommission _ _ _ rfl (.refl ..)
  | ownerRotate => exact keeps_execOwnerRotate _ _ _ _ _ rfl (.refl ..)
  | keyInstall => exact keeps_execKeyInstall _ _ _ _ rfl (.refl ..)
  | keySwitch => exact keeps_execKeySwitch _ _ _ rfl (.refl ..)
  | keyRetire => exact keeps_execKeyRetire _ _ _ rfl (.refl ..)
  | admitSet => exact keeps_execAdmitSet _ _ _ rfl (.refl ..)
  | fwBlock => exact keeps_execFwBlock _ _ rfl (.refl ..)
  | fwImageVerify => exact keeps_execFwImageVerify _ rfl (.refl ..)
  | fwAbort => exact keeps_execFwAbort _ rfl (.refl ..)
  | fwActivate => exact keeps_execFwActivate _ _ rfl (.refl ..)
  | fwConfirm => exact keeps_execFwConfirm _ rfl (.refl ..)
  | fwReject => exact keeps_execFwReject _ rfl (.refl ..)
  | driveAccept => exact keeps_execDriveAccept _ rfl (.refl ..)
  | memberFail => exact keeps_execMemberFail _ rfl (.refl ..)
  | driveFw => exact keeps_execDriveFw _ _ rfl (.refl ..)
  | migStart => exact keeps_execMigStart _ _ rfl (.refl ..)
  | migCutover => exact keeps_execMigCutover _ rfl (.refl ..)
  | migCancel => exact keeps_execMigCancel _ rfl (.refl ..)
  | addrSet => exact keeps_execAddrSet _ _ rfl (.refl ..)
  | powerEnter => exact keeps_execPowerEnter _ rfl (.refl ..)
  | warmReset => exact keeps_execWarmReset _ rfl (.refl ..)
  | ledgerRead => exact keeps_execLedgerRead _ rfl (.refl ..)
  | taskDataReadDone => exact keeps_execTaskDataReadDone _ rfl (.refl ..)
  | taskEnd => exact keeps_execTaskEnd _ rfl (.refl ..)
  | deferredTaskRun => exact keeps_execDeferredTaskRun rfl (.refl ..)
  | kvqPop => exact keeps_execKvqPop _ _ _ rfl (.refl ..)
  | kvqPush => exact keeps_execKvqPush _ _ _ _ rfl (.refl ..)
  | kvqWait => exact keeps_execKvqWait _ _ _ rfl (.refl ..)
  | kvqWaitWake => exact keeps_execKvqWaitWake _ rfl (.refl ..)
  | kvqRing => exact keeps_execKvqRing _ _ _ _ _ _ rfl (.refl ..)
  | engineAccessFault engine mode kind cause va unhandled => exact keeps_execEngineAccessFault engine mode kind cause va unhandled rfl (.refl ..)
  | dmaStart => exact keeps_execDmaStart _ _ _ _ _ _ rfl (.refl ..)
  | dmaResume => exact keeps_execDmaResume _ _ _ _ rfl (.refl ..)
  | dmaAbort => exact keeps_execDmaAbort _ _ _ rfl (.refl ..)
  | dmaComplete => exact keeps_execDmaComplete _ _ _ rfl (.refl ..)
  | taskPreempt => exact keeps_execTaskPreempt _ _ _ rfl (.refl ..)
  | xltInval src scope asid vpn => exact keeps_execXltInval src scope asid vpn rfl (.refl ..)
  | xltInvalDone => exact keeps_execXltInvalDone rfl (.refl ..)
  | evtRaiseWrite => exact keeps_execEvtRaiseWrite _ _ rfl (.refl ..)
  | cruiserRead => exact keeps_execCruiserRead _ _ _ rfl (.refl ..)
  | repairGranuleRx => exact keeps_execRepairGranuleRx _ _ _ rfl (.refl ..)
  | repairRequestRx => exact keeps_execRepairRequestRx _ _ rfl (.refl ..)
  | memRetire => exact keeps_execMemRetire _ _ _ rfl (.refl ..)
  | retireComplete => exact keeps_execRetireComplete rfl (.refl ..)
  | memInject => exact keeps_execMemInject _ _ _ _ rfl (.refl ..)
  | memLogRelease => exact keeps_execMemLogRelease _ _ rfl (.refl ..)
  | lsmStart => exact keeps_execLsmStart _ _ _ rfl (.refl ..)
  | lsmNonceResume => exact keeps_execLsmNonceResume rfl (.refl ..)
  | lsmJobDone => exact keeps_execLsmJobDone _ rfl (.refl ..)
  | scalerCounterWrite => exact keeps_execScalerCounterWrite _ _ rfl (.refl ..)
  | scalerSelectWrite => exact keeps_execScalerSelectWrite _ _ _ rfl (.refl ..)
  | scalerStartAtReached => exact keeps_execScalerStartAtReached rfl (.refl ..)
  | scalerStopAtReached => exact keeps_execScalerStopAtReached rfl (.refl ..)
  | sampleTaken => exact keeps_execSampleTaken _ _ rfl (.refl ..)
  | smpRingReset => exact keeps_execSmpRingReset _ _ _ rfl (.refl ..)
  | ldgFreezeWrite => exact keeps_execLdgFreezeWrite _ _ rfl (.refl ..)
  | ldgThaw => exact keeps_execLdgThaw _ _ rfl (.refl ..)
  | powerOnReset => exact keeps_execPowerOnReset rfl (hp rfl) (.refl ..)
  | sysReset => exact keeps_execSysReset rfl (.refl ..)
  | warmRstPin => exact keeps_execWarmRstPin rfl (.refl ..)
  | pwrCtlWarm => exact keeps_execPwrCtlWarm _ rfl (.refl ..)
  | warmResetEffect => exact keeps_execWarmResetEffect _ rfl (.refl ..)
  | sysRstNRelease => exact keeps_execSysRstNRelease _ _ _ rfl (.refl ..)
  | patternLoad => exact keeps_execPatternLoad _ rfl (.refl ..)
  | firmwareSelect => exact keeps_execFirmwareSelect _ _ rfl (.refl ..)
  | bootReady => exact keeps_execBootReady rfl (.refl ..)
  | fatalReset => exact keeps_execFatalReset _ rfl (.refl ..)
  | holdupChange => exact keeps_execHoldupChange _ rfl (.refl ..)
  | watchdogExpiry => exact keeps_execWatchdogExpiry rfl (.refl ..)
  | wdogKick => exact keeps_execWdogKick _ rfl (.refl ..)
  | pwrCtlEnter => exact keeps_execPwrCtlEnter _ _ rfl (.refl ..)
  | idlePowerEntry => exact keeps_execIdlePowerEntry rfl (.refl ..)
  | drowseEntryDone => exact keeps_execDrowseEntryDone rfl (.refl ..)
  | fallowPonr => exact keeps_execFallowPonr rfl (.refl ..)
  | fallowEntryDone => exact keeps_execFallowEntryDone rfl (.refl ..)
  | wakeGpioEdge => exact keeps_execWakeGpioEdge _ rfl (.refl ..)
  | pwrCtlWake => exact keeps_execPwrCtlWake _ rfl (.refl ..)
  | wakeDone => exact keeps_execWakeDone rfl (.refl ..)
  | linkIdleRx => exact keeps_execLinkIdleRx _ rfl (.refl ..)
  | clusterSwitch => exact keeps_execClusterSwitch rfl (.refl ..)
  | trialEvaluation => exact keeps_execTrialEvaluation rfl (.refl ..)
  | trialExpiry => exact keeps_execTrialExpiry rfl (.refl ..)
  | thermalTrip => exact keeps_execThermalTrip _ rfl (.refl ..)

/-- Settles O6: device time is one of the things that every command but a power-on reset keeps. -/
theorem deviceTimeNeverRunsBack : Obligations.DeviceTimeNeverRunsBack := by
  intro c s t hc ht
  exact ((exec_keeps false c s (fun h => absurd h hc)).out ht).time rfl

/-! ## What a bridge fault records (R29, R38) -/

theorem ite_lt_of {c : Prop} [Decidable c] {a b n : Nat} (ha : c → a < n) (hb : ¬ c → b < n) : (if c then a else b) < n := by
  split
  · exact ha ‹_›
  · exact hb ‹_›

/-- The islands are numbered 0 to 37, so a number fits GLB_BRIDGE_FAULT.ISLAND. Where a range of offsets holds several islands its bounds bound their number. -/
theorem islandOf_lt (off : Nat) : islandOf off < 64 := by
  unfold islandOf
  repeat' (refine ite_lt_of (fun _ => ?_) (fun _ => ?_))
  all_goals omega

theorem get_bridgeFault_valid (s : State) (island cause : Nat) : (s.bridgeFault island cause).flag F.GLB_BRIDGE_FAULT.VALID = true := by
  unfold State.bridgeFault State.flag
  rw [get_raise _ _ _ _ _ (by decide)]
  split
  case isTrue h =>
    rw [get_set_other _ _ _ _ _ _ _ _ (by decide)]
    exact h
  case isFalse =>
    rw [get_set_other _ _ _ _ _ _ _ _ (by decide), get_set_other _ _ _ _ _ _ _ _ (by decide), get_set_other _ _ _ _ _ _ _ _ (by decide)]
    exact flag_setFlag_same s F.GLB_BRIDGE_FAULT.VALID true 0 0 (by decide)

/-- R38: while VALID stands, the first fault's island and cause stay. -/
theorem get_bridgeFault_later (s : State) (island cause : Nat) (hv : s.flag F.GLB_BRIDGE_FAULT.VALID = true) :
    (s.bridgeFault island cause).get F.GLB_BRIDGE_FAULT.ISLAND = s.get F.GLB_BRIDGE_FAULT.ISLAND ∧
      (s.bridgeFault island cause).get F.GLB_BRIDGE_FAULT.CAUSE = s.get F.GLB_BRIDGE_FAULT.CAUSE ∧
      (s.bridgeFault island cause).get F.GLB_BRIDGE_FAULT.COUNT = min (s.get F.GLB_BRIDGE_FAULT.COUNT + 1) 255 := by
  have hfits : min (s.get F.GLB_BRIDGE_FAULT.COUNT + 1) 255 < 2 ^ F.GLB_BRIDGE_FAULT.COUNT.width :=
    lt_of_le_of_lt (min_le_right _ _) (by decide)
  unfold State.bridgeFault
  rw [if_pos hv, get_raise _ _ _ _ _ (by decide), get_raise _ _ _ _ _ (by decide), get_raise _ _ _ _ _ (by decide)]
  exact ⟨get_set_other _ _ _ _ _ _ _ _ (by decide), get_set_other _ _ _ _ _ _ _ _ (by decide), (get_set_same ..).trans (Nat.mod_eq_of_lt hfits)⟩

/-- R38: the first fault since VALID was cleared. -/
theorem get_bridgeFault_first (s : State) (island cause : Nat) (hv : s.flag F.GLB_BRIDGE_FAULT.VALID = false) :
    (s.bridgeFault island cause).get F.GLB_BRIDGE_FAULT.ISLAND = island % 64 ∧ (s.bridgeFault island cause).get F.GLB_BRIDGE_FAULT.COUNT = 1 ∧
      (s.bridgeFault island cause).get F.GLB_BRIDGE_FAULT.CAUSE = cause % 256 := by
  unfold State.bridgeFault
  rw [if_neg (Bool.eq_false_iff.mp hv), get_raise _ _ _ _ _ (by decide), get_raise _ _ _ _ _ (by decide), get_raise _ _ _ _ _ (by decide)]
  refine ⟨get_set_same .., ?_, ?_⟩
  · rw [get_set_other _ _ _ _ _ _ _ _ (by decide), get_set_other _ _ _ _ _ _ _ _ (by decide)]
    exact get_set_same ..
  · rw [get_set_other _ _ _ _ _ _ _ _ (by decide)]
    exact get_set_same ..

theorem bridgeFault_status (s : State) (island cause : Nat) : bitOf ((s.bridgeFault island cause).get F.EVT_STATUS.STATUS 0) 1 = true :=
  raise_bit _ 0x001

/-- The Ledger record of a faulting access leaves what the bridge fault has written. -/
theorem get_accessFault (s : State) (island cause : Nat) (g : Fld) (i j : Nat) (hg : g.key i j ∉ ledgerKeys) :
    (s.accessFault island cause).get g i j = (s.bridgeFault island cause).get g i j := get_ledger _ _ _ _ _ _ _ _ hg

theorem islandCause_lt (s : State) (n : Nat) : s.islandCause n < 256 := by
  unfold State.islandCause
  split <;> decide

section Unreachable
variable {src : Src} {off size value : Nat} {s : State}

/-- R29: a write to an island that is down is discarded. -/
theorem exec_registerWrite_unreachable (hg : s.gate src off = .unreachable) (ha : alignedAccess off size = true) (hs : 4 ≤ size) (ho : occupied off size = true) :
    exec (.registerWrite src off size value) s = .next (s.accessFault (islandOf off) (s.islandCause (islandOf off))) := by
  change execRegisterWrite src off size value s = _
  unfold execRegisterWrite
  simp [hg, ha, hs, ho]

/-- R29: a read of an island that is down returns all bits 1. -/
theorem exec_rcCounterRead_unreachable (hg : s.gate src off = .unreachable) (ha : alignedAccess off size = true) (ho : occupied off size = true) :
    exec (.rcCounterRead src off size) s = .next ((s.accessFault (islandOf off) (s.islandCause (islandOf off))).emit (.bar0Data off size (ones size))) := by
  change execRcCounterRead src off size s = _
  unfold execRcCounterRead
  simp [hg, ha, ho]

end Unreachable

/-- Settles O14: the write and the read end in the same access fault, whose bridge fault tells the first from a later one by VALID. -/
theorem bridgeFaultKeepsTheFirst : Obligations.BridgeFaultKeepsTheFirst := by
  intro src off value s hg h4 ho
  have ha := alignedAccess_word h4
  refine ⟨_, exec_registerWrite_unreachable hg ha (le_refl 4) ho, exec_rcCounterRead_unreachable hg ha ho, ?_, ?_, fun hv => ?_, fun hv => ?_⟩
  · unfold State.flag
    rw [get_accessFault _ _ _ _ _ _ (by decide)]
    exact get_bridgeFault_valid ..
  · rw [get_accessFault _ _ _ _ _ _ (by decide)]
    exact bridgeFault_status ..
  · rw [get_accessFault _ _ _ _ _ _ (by decide), get_accessFault _ _ _ _ _ _ (by decide), get_accessFault _ _ _ _ _ _ (by decide)]
    exact get_bridgeFault_later _ _ _ hv
  · rw [get_accessFault _ _ _ _ _ _ (by decide), get_accessFault _ _ _ _ _ _ (by decide), get_accessFault _ _ _ _ _ _ (by decide)]
    have hfirst := get_bridgeFault_first s (islandOf off) (s.islandCause (islandOf off)) hv
    rwa [Nat.mod_eq_of_lt (islandOf_lt off), Nat.mod_eq_of_lt (islandCause_lt s _)] at hfirst

/-! ## The loss of lock (R28, R530) -/

theorem mem_insertNat_self (n : Nat) (l : List Nat) : n ∈ insertNat n l := by
  induction l with
  | nil => exact List.mem_singleton.mpr rfl
  | cons m l ih =>
    unfold insertNat
    split
    · exact List.mem_cons_self ..
    · split
      case isTrue h => exact h ▸ List.mem_cons_self ..
      case isFalse => exact List.mem_cons_of_mem _ ih

/-- The device part but for what raising events and writing records leave behind: the pending messages and the times of the rate limits. -/
def Dev.quiet (d : Dev) : Dev := { d with lastRaise := [], pendEvt := [] }

theorem Dev.timeNs_of_quiet {d e : Dev} (h : d.quiet = e.quiet) : d.timeNs = e.timeNs := (Dev.mk.inj h).1

theorem Dev.faulted_of_quiet {d e : Dev} (h : d.quiet = e.quiet) : d.faulted = e.faulted := by
  obtain ⟨-, -, -, -, -, hf, -⟩ := Dev.mk.inj h
  exact hf

@[simp] theorem raise_quiet (s : State) (e : Nat) : (s.raise e).dev.quiet = s.dev.quiet := by
  obtain ⟨l, h⟩ := raise_dev s e
  rw [h]
  rfl

@[simp] theorem raiseLimited_quiet (s : State) (e : Nat) : (s.raiseLimited e).dev.quiet = s.dev.quiet := by
  unfold State.raiseLimited
  extract_lets
  split
  · rfl
  · exact raise_quiet _ _

@[simp] theorem freezeLedger_quiet (s : State) : s.freezeLedger.dev.quiet = s.dev.quiet := by
  unfold State.freezeLedger
  split
  · rfl
  · exact raise_quiet _ _

@[simp] theorem ledger_quiet (s : State) (code island source : Nat) (detail : List Byte) : (s.ledger code island source detail).dev.quiet = s.dev.quiet := by
  unfold State.ledger State.ledgerWrite
  extract_lets seq sev r left frozen s1 s2
  have hstored : s2.dev.quiet = s.dev.quiet := by
    unfold s2
    split
    · rfl
    · split
      · exact freezeLedger_quiet _
      · rfl
  split
  · exact raiseLimited_quiet _ _
  · split
    · exact (raiseLimited_quiet _ _).trans hstored
    · exact hstored

@[simp] theorem bridgeFault_quiet (s : State) (island cause : Nat) : (s.bridgeFault island cause).dev.quiet = s.dev.quiet := by
  unfold State.bridgeFault
  rw [raise_quiet]
  split <;> rfl

@[simp] theorem beginDump_quiet (s : State) : s.beginDump.dev.quiet = s.dev.quiet := by
  unfold State.beginDump
  split
  · rfl
  · change (State.failMigs _).dev.quiet = _
    unfold State.failMigs
    extract_lets
    split
    · rfl
    · exact raise_quiet _ _

@[simp] theorem noRetire_dev (s : State) : s.noRetire.dev = s.dev := ((keeps_State_noRetire rfl (Keeps.refl false 32768 s)).frame .dev).resolve_left (by decide)

@[simp] theorem fatalDump_quiet (s : State) : s.fatalDump.dev.quiet = s.dev.quiet := by
  unfold State.fatalDump
  cases s.role == roleAlone && s.unsavedData
  · rfl
  · cases s.dev.faulted.any (fun i => dumpIslands.contains i)
    · exact (beginDump_quiet _).trans (congrArg Dev.quiet (noRetire_dev s))
    · rfl

@[simp] theorem fatalDump_pwr (s : State) : s.fatalDump.pwr = s.pwr := ((keeps_State_fatalDump rfl (Keeps.refl false 8421411 s)).frame .pwr).resolve_left (by decide)

@[simp] theorem fatalDump_wsw (s : State) : s.fatalDump.wsw = s.wsw := ((keeps_State_fatalDump rfl (Keeps.refl false 8421411 s)).frame .wsw).resolve_left (by decide)

@[simp] theorem dropUnissued_dev (s : State) : s.dropUnissued.dev = s.dev := ((keeps_State_dropUnissued rfl (Keeps.refl false 74752 s)).frame .dev).resolve_left (by decide)

@[simp] theorem dropUnissued_pwr (s : State) : s.dropUnissued.pwr = s.pwr := ((keeps_State_dropUnissued rfl (Keeps.refl false 74752 s)).frame .pwr).resolve_left (by decide)

@[simp] theorem dropUnissued_wsw (s : State) : s.dropUnissued.wsw = s.wsw := ((keeps_State_dropUnissued rfl (Keeps.refl false 74752 s)).frame .wsw).resolve_left (by decide)

@[simp] theorem fatalPins_dev (s : State) : s.fatalPins.dev = s.dev := ((keeps_State_fatalPins rfl (Keeps.refl false 8388609 s)).frame .dev).resolve_left (by decide)

@[simp] theorem fatalPins_pwr (s : State) : s.fatalPins.pwr = s.pwr := ((keeps_State_fatalPins rfl (Keeps.refl false 8388609 s)).frame .pwr).resolve_left (by decide)

@[simp] theorem fatalPins_wsw (s : State) : s.fatalPins.wsw = s.wsw := ((keeps_State_fatalPins rfl (Keeps.refl false 8388609 s)).frame .wsw).resolve_left (by decide)

/-- R530: outputs stop at this instant. -/
theorem fatalStop_begins (s : State) : s.fatalStop.dev = s.dev ∧ s.fatalStop.pwr.fatalNs = some s.dev.timeNs ∧ s.fatalStop.wsw.stopped = true := ⟨rfl, rfl, rfl⟩

/-- R530: the fatal sequence begins now and stops every output; of the device part it touches events alone. -/
theorem fatal_begins (s : State) (island : Nat) (h : s.pwr.fatalNs = none) :
    (s.fatal island).dev.quiet = s.dev.quiet ∧ (s.fatal island).pwr.fatalNs = some s.dev.timeNs ∧ (s.fatal island).wsw.stopped = true := by
  unfold State.fatal
  rw [h]
  dsimp only [Option.isSome, cond_false]
  generalize hu : ((s.raise 0x000).ledger 0x000 island 0).freezeLedger = u
  have hquiet : u.dev.quiet = s.dev.quiet := by rw [← hu, freezeLedger_quiet, ledger_quiet, raise_quiet]
  have htime : u.dev.timeNs = s.dev.timeNs := Dev.timeNs_of_quiet hquiet
  obtain ⟨hdev, hfatal, hstopped⟩ := fatalStop_begins u
  cases u.fatalStop.ownProfile == 0 <;>
    simp [hdev, hfatal, hstopped, hquiet, htime]

/-- CLOCK_LOCK_LOSS of an island that has lock. -/
theorem exec_clockLockLoss (island : Nat) (s : State) (hi : island < 38) (h25 : island ≠ 25) (hup : island ∉ s.dev.faulted) :
    ∃ u : State, exec (.clockLockLoss island) s = .next ((u.bridgeFault island 1).fatal island) ∧ u.dev = { s.dev with faulted := insertNat island s.dev.faulted } ∧ u.pwr = s.pwr := by
  have hgo : ¬ (38 ≤ island ∨ island = 25 ∨ s.dev.faulted.contains island) := by simp [hi, h25, hup]
  exact ⟨_, congrArg Host.Outcome.next (if_neg hgo), rfl, rfl⟩

/-- Settles O15: the island is marked before the bridge fault, and neither the bridge fault nor the fatal sequence takes the mark away. -/
theorem lockLossIsFatal : Obligations.LockLossIsFatal := by
  intro island s hi h25 hup hfatal
  obtain ⟨u, hexec, hdev, hpwr⟩ := exec_clockLockLoss island s hi h25 hup
  obtain ⟨hquiet, hbegun, hstopped⟩ := fatal_begins (u.bridgeFault island 1) island (by rw [bridgeFault_pwr, hpwr, hfatal])
  have hfault : (u.bridgeFault island 1).dev.quiet = u.dev.quiet := bridgeFault_quiet u island 1
  refine ⟨_, hexec, ?_, ?_, hstopped⟩
  · rw [Dev.faulted_of_quiet (hquiet.trans hfault), hdev]
    exact mem_insertNat_self ..
  · rw [hbegun, Dev.timeNs_of_quiet hfault, hdev]

/-! ## A command limit that counts twice (O26)

As for O57: the count of red packets of meter 126,978, which nothing in `State` forbids, is NVS_CMD_LIMIT. CMD_LIMIT_EXPIRY counts there and then answers, and the response leaves through that
meter. -/

/-- A meter on class 0 of logical port 0 whose buckets hold nothing, so that it drops every packet; its number lies beyond the 1,024 of TC_MTR_RED. -/
def redMeter : PatRec := { type := 0x0082, inst := 126978, body := [0, 0, 0, 0, 1, 0, 0, 0] ++ zeroBytes 24 }

theorem redMeter_counter_is_cmdLimit : F.TC_MTR_RED.COUNT.key redMeter.inst 0 = F.NVS_CMD_LIMIT.COUNT.key 0 0 := by decide

/-- A subsystem with a command limit of 0 and one namespace, NSID 1, of class 0. -/
def limitSubsystem : PatRec := { type := 0x0070, inst := 0, body := zeroBytes 8 ++ [1] ++ zeroBytes 279 ++ [1] ++ zeroBytes 63 }

/-- The connection that `limitQueue` is carried on, over logical port 0. -/
def limitConn : TcpConn :=
  { id := 1, ip := ⟨false, 0⟩, port := 0, localIp := ⟨false, 0⟩, lport := 0, discovery := false, ready := true, hdgst := false, ddgst := false, maxr2t := 0, sndNxt := 0, rcvNxt := 0 }

def limitQueue : NvmQueue := { overrunQueue with tr := .tcp 1 }

/-- A controller that serves alone, with the Read `overrunCmd` in the machine. -/
def limitState : State :=
  let s := State.reset.set F.WSW_STATUS.ROLE roleAlone
  { s with
    pat := { s.pat with live := [redMeter, limitSubsystem] }
    nvm := { s.nvm with cmds := [overrunCmd], queues := [limitQueue], tcp := [limitConn] } }

theorem limitState_cmd_expires : limitState.cmd? 1 = some overrunCmd ∧ limitState.nq? overrunCmd.queue = some limitQueue ∧
    overrunCmd.acceptedUs + 1000 * limitState.cfg 0x0070 overrunCmd.sub 16 4 10000 ≤ limitState.nowUs := by decide +kernel

theorem limitState_canAnswer : CanAnswer limitState limitQueue :=
  ⟨by decide +kernel, by decide +kernel, limitConn, by decide +kernel, rfl⟩

/-- NVS_CMD_LIMIT where a row has ended in a next state. -/
def cmdLimitAfter : Result → Option Nat
  | .next t => some (t.get F.NVS_CMD_LIMIT.COUNT)
  | .fault _ => none
  | .refused _ => none

/-- One command, and a count of 2. -/
theorem cmdLimitAfter_cmdLimitExpiry_limitState : cmdLimitAfter (exec (.cmdLimitExpiry 1) limitState) = some 2 := by decide +kernel

theorem limitState_count : limitState.get F.NVS_CMD_LIMIT.COUNT = 0 := by decide +kernel

/-- Refutes O26 in its last clause: the response to a command that has not completed in its time can itself count at NVS_CMD_LIMIT, through a meter beyond the table. -/
theorem not_nvmeCommandTimes : ¬ Obligations.NvmeCommandTimes := by
  rintro ⟨-, -, -, -, hlimit⟩
  obtain ⟨hcmd, hqueue, hdue⟩ := limitState_cmd_expires
  obtain ⟨t, ht, -, -, hone⟩ := hlimit 1 overrunCmd limitQueue limitState hcmd hdue hqueue limitState_canAnswer
  have htwo := cmdLimitAfter_cmdLimitExpiry_limitState
  rw [ht] at htwo
  rw [limitState_count] at hone
  exact absurd (hone.symm.trans (Option.some.inj htwo)) (by decide)

end Sys2Proof.Machine
end

section
/-!
PROOFS. O16 (02_pattern.md, 18_power_reset_boot.md, 20_package_electrical.md): the ends of store commits, live records, the power-fail pin, the Pattern load and the thermal trip.

A row writes the fields that it reports in, and then ends tasks, writes to drives, or sends on the link. `Leaves` says what such work does not touch; the rest is the row's own writes.
-/
namespace Sys2Proof.Machine

/-! ## Fields that an operation leaves alone -/

/-- The fields whose keys are in `W` read as before, and no status bit of the events 0 to 31 is cleared. -/
structure Leaves (W : List Nat) (s t : State) : Prop where
  reads : ∀ (g : Fld) (m n : Nat), g.key m n ∈ W → t.get g m n = s.get g m n
  events : ∀ i < 32, bitOf (s.get F.EVT_STATUS.STATUS 0) i = true → bitOf (t.get F.EVT_STATUS.STATUS 0) i = true

section
variable {W : List Nat} {s t u : State}

theorem Leaves.refl (W : List Nat) (s : State) : Leaves W s s := ⟨fun _ _ _ _ => rfl, fun _ _ h => h⟩

theorem Leaves.trans (h : Leaves W s t) (h' : Leaves W t u) : Leaves W s u :=
  ⟨fun g m n hk => (h'.reads g m n hk).trans (h.reads g m n hk), fun i hi hb => h'.events i hi (h.events i hi hb)⟩

theorem Leaves.flag (h : Leaves W s t) (g : Fld) (hk : g.key 0 0 ∈ W) : t.flag g = s.flag g :=
  congrArg (· == 1) (h.reads g 0 0 hk)

theorem Leaves.of_regs (h : Leaves W s t) (hr : u.regs = t.regs) : Leaves W s u := by
  refine h.trans ⟨fun g m n _ => ?_, fun i _ hb => ?_⟩
  · unfold State.get
    rw [hr]
  · unfold State.get at hb ⊢
    rwa [hr]

theorem Leaves.ite {c : Prop} [Decidable c] (h : Leaves W s t) (h' : Leaves W s u) : Leaves W s (if c then t else u) := by
  split <;> assumption

theorem Leaves.foldl {α : Type} {f : State → α → State} (l : List α) (hf : ∀ t, ∀ x ∈ l, Leaves W s t → Leaves W s (f t x)) (h : Leaves W s t) :
    Leaves W s (l.foldl f t) := by
  induction l generalizing t with
  | nil => exact h
  | cons x l ih => exact ih (fun t y hy => hf t y (List.mem_cons_of_mem _ hy)) (hf t x (List.mem_cons_self ..) h)

theorem Leaves.set (h : Leaves W s t) (f : Fld) (v i j : Nat) (hk : f.key i j ∉ F.EVT_STATUS.STATUS.key 0 0 :: W) : Leaves W s (t.set f v i j) := by
  obtain ⟨he, hw⟩ := not_or.mp (List.mem_cons.not.mp hk)
  refine h.trans ⟨fun g m n hg => get_set_other _ _ _ _ _ _ _ _ (fun e => hw (e ▸ hg)), fun k _ hb => ?_⟩
  rwa [get_set_other _ _ _ _ _ _ _ _ he]

theorem Leaves.setFlag (h : Leaves W s t) (f : Fld) (b : Bool) (i j : Nat) (hk : f.key i j ∉ F.EVT_STATUS.STATUS.key 0 0 :: W) : Leaves W s (t.setFlag f b i j) :=
  h.set f _ i j hk

theorem Leaves.bump (h : Leaves W s t) (f : Fld) (i j : Nat) (hk : f.key i j ∉ F.EVT_STATUS.STATUS.key 0 0 :: W) : Leaves W s (t.bump f i j) :=
  h.set f _ i j hk

/-- A field of n registers, written one after the other. -/
theorem Leaves.setRange (h : Leaves W s t) (f : Fld) (n : Nat) (v : State → Nat → Nat) (hk : ∀ i < n, f.key i 0 ∉ F.EVT_STATUS.STATUS.key 0 0 :: W) :
    Leaves W s ((List.range n).foldl (fun (s : State) (i : Nat) => s.set f (v s i) i) t) :=
  h.foldl _ (fun _ i hi h => h.set f _ i 0 (hk i (List.mem_range.mp hi)))

theorem Leaves.setFlagRange (h : Leaves W s t) (f : Fld) (n : Nat) (b : State → Nat → Bool) (hk : ∀ i < n, f.key i 0 ∉ F.EVT_STATUS.STATUS.key 0 0 :: W) :
    Leaves W s ((List.range n).foldl (fun (s : State) (i : Nat) => s.setFlag f (b s i) i) t) :=
  h.foldl _ (fun _ i hi h => h.setFlag f _ i 0 (hk i (List.mem_range.mp hi)))

/-- A bit that is set stays set when another one is. -/
theorem bitOf_withBit_of (v i j : Nat) (h : bitOf v i = true) : bitOf (withBit v j) i = true := by
  unfold withBit
  split
  · exact h
  rename_i hj
  simp only [bitOf, beq_iff_eq] at h hj ⊢
  rcases Nat.lt_trichotomy i j with hij | rfl | hij
  · obtain ⟨d, rfl⟩ := Nat.exists_eq_add_of_lt hij
    have e : 2 ^ (i + d + 1) = 2 ^ i * (2 * 2 ^ d) := by ring
    rw [e, Nat.add_mul_div_left _ _ (Nat.two_pow_pos i), Nat.add_mul_mod_self_left]
    exact h
  · exact absurd h hj
  · obtain ⟨d, rfl⟩ := Nat.exists_eq_add_of_lt hij
    have e : 2 ^ (j + d + 1) = 2 ^ j * (2 * 2 ^ d) := by ring
    rw [e, ← Nat.div_div_eq_div_mul, ← Nat.div_div_eq_div_mul] at h ⊢
    rw [Nat.add_div_right _ (Nat.two_pow_pos j)]
    have : (v / 2 ^ j + 1) / 2 = v / 2 ^ j / 2 := by omega
    rwa [this]

/-- Raising an event sets its status bit and clears none. -/
theorem Leaves.raise (h : Leaves W s t) (e : Nat) (hk : F.EVT_STATUS.STATUS.key (e / 32) 0 ∉ W) : Leaves W s (t.raise e) := by
  refine h.trans ⟨fun g m n hg => get_raise _ _ _ _ _ (fun e => hk (e ▸ hg)), fun i hi hb => ?_⟩
  by_cases h0 : e / 32 = 0
  · have hs := raise_status t e
    rw [h0] at hs
    rw [hs, bitOf_mod _ _ _ hi]
    exact bitOf_withBit_of _ _ _ hb
  · have hne : F.EVT_STATUS.STATUS.key (e / 32) 0 ≠ F.EVT_STATUS.STATUS.key 0 0 := by
      simp only [Fld.key, Fld.at, F.EVT_STATUS.STATUS]
      omega
    rwa [get_raise _ _ _ _ _ hne]

theorem Leaves.raiseLimited (h : Leaves W s t) (e : Nat) (hk : F.EVT_STATUS.STATUS.key (e / 32) 0 ∉ W) : Leaves W s (t.raiseLimited e) := by
  unfold State.raiseLimited
  refine h.ite (Leaves.raise ?_ e hk)
  exact h.of_regs rfl

/-- A Ledger record writes the Ledger's fields alone. -/
theorem Leaves.ledger (h : Leaves W s t) (code island source : Nat) (detail : List Byte) (hk : ∀ k ∈ ledgerKeys, k ∉ W) :
    Leaves W s (t.ledger code island source detail) := by
  refine h.trans ⟨fun g m n hg => get_ledger _ _ _ _ _ _ _ _ (fun e => hk _ e hg), fun i _ hb => ?_⟩
  rwa [get_ledger _ _ _ _ _ _ _ _ (by decide)]

end

/-- The status bit of an event below 32 is set when the event is raised, and stays. -/
theorem Leaves.raised {W : List Nat} {s t : State} {e : Nat} (he : e < 32) (h : Leaves W (s.raise e) t) : bitOf (t.get F.EVT_STATUS.STATUS 0) e = true := by
  have hb := raise_bit s e
  rw [Nat.div_eq_of_lt he, Nat.mod_eq_of_lt he] at hb
  exact h.events e he hb

/-! ## Reports (R57, R60, R592) -/

section
variable {W : List Nat} {s t : State}

/-- The fields that PAT_WARN reports in. -/
def warnKeys : List Nat := [F.PAT_STATUS.WARN.key 0 0, F.PAT_WARN.CODE.key 0 0, F.PAT_WARN.COUNT.key 0 0]

/-- A list of fields holds none of those that warnings and the Ledger write, nor event status. -/
def QuietReports (W : List Nat) : Prop := (∀ k ∈ warnKeys ++ ledgerKeys, k ∉ W) ∧ F.EVT_STATUS.STATUS.key 0 0 ∉ W

theorem QuietReports.ledger (hW : QuietReports W) : ∀ k ∈ ledgerKeys, k ∉ W := fun k hk => hW.1 k (List.mem_append_right _ hk)

theorem QuietReports.warn (hW : QuietReports W) {k : Nat} (hk : k ∈ warnKeys) : k ∉ W := hW.1 k (List.mem_append_left _ hk)

theorem warnKeys_not_status : F.EVT_STATUS.STATUS.key 0 0 ∉ warnKeys := by decide

theorem QuietReports.warnField (hW : QuietReports W) {k : Nat} (hk : k ∈ warnKeys) : k ∉ F.EVT_STATUS.STATUS.key 0 0 :: W := by
  rw [List.mem_cons, not_or]
  exact ⟨fun e => warnKeys_not_status (e ▸ hk), hW.warn hk⟩

theorem Leaves.patWarn (hW : QuietReports W) (h : Leaves W s t) (code : Nat) : Leaves W s (t.patWarn code) := by
  refine Leaves.raise ?_ 0x008 hW.2
  exact (h.set _ _ 0 0 (hW.warnField (by decide))).ite
    (((h.setFlag _ _ 0 0 (hW.warnField (by decide))).set _ _ 0 0 (hW.warnField (by decide))).set _ _ 0 0 (hW.warnField (by decide)))

theorem Leaves.patWarns (hW : QuietReports W) (h : Leaves W s t) (codes : List Nat) : Leaves W s (t.patWarns codes) :=
  h.foldl codes (fun _ c _ h => h.patWarn hW c)

theorem Leaves.ovlDiscarded (hW : QuietReports W) (h : Leaves W s t) (n : Nat) : Leaves W s (t.ovlDiscarded n) :=
  h.foldl _ (fun _ _ _ h => (h.patWarn hW 2).ledger _ _ _ _ hW.ledger)

end

@[simp] theorem patWarns_pat (s : State) (codes : List Nat) : (s.patWarns codes).pat = s.pat := ((keeps_State_patWarns codes rfl (Keeps.refl false 8388643 s)).frame .pat).resolve_left (by decide)
@[simp] theorem ovlDiscarded_pat (s : State) (n : Nat) : (s.ovlDiscarded n).pat = s.pat := ((keeps_State_ovlDiscarded n rfl (Keeps.refl false 8388707 s)).frame .pat).resolve_left (by decide)
@[simp] theorem showBank_pat (s : State) (cur : Option Nat) : (s.showBank cur).pat = s.pat := by cases cur <;> rfl
@[simp] theorem showBank_pwr (s : State) (cur : Option Nat) : (s.showBank cur).pwr = s.pwr := by cases cur <;> rfl

/-! ## Tasks that end with a commit (R74, R458, R459) -/

/-- What a store commit and the power-fail pin report in. -/
def storeWatch : List Nat :=
  [F.STORE_STATUS.BUSY.key 0 0, F.STORE_STATUS.RESULT.key 0 0, F.STORE_STATUS.UNUSABLE.key 0 0, F.STORE_STATUS.CURRENT.key 0 0, F.PWR_PINS.PWRFAIL.key 0 0,
    F.PWR_PINS.PWRFAIL_SEEN.key 0 0]

theorem storeWatch_quiet : QuietReports storeWatch := ⟨by decide, by decide⟩

section
variable {s t : State}

theorem Leaves.finishTask (h : Leaves storeWatch s t) (r : TaskRun) (code : Nat) (res : List Nat) : Leaves storeWatch s (t.finishTask r code res) := by
  have hres := Leaves.setRange (t := { t with tasks := t.tasks.erase r }) (h.of_regs rfl) F.TASK_RESULT.VALUE 4 (fun _ i => res.getD i 0) (by decide)
  have hbusy := ((((hres.set F.TASK_TAG.TAG r.go.tag 0 0 (by decide)).setFlag F.TASK_STATUS.DONE true 0 0 (by decide)).set F.TASK_STATUS.CODE code 0 0 (by decide)).setFlag
    F.TASK_STATUS.DEFERRED false 0 0 (by decide)).setFlag F.TASK_STATUS.BUSY false 0 0 (by decide)
  exact (hbusy.raise 0x4C0 (by decide)).ite hbusy

theorem Leaves.endRun (h : Leaves storeWatch s t) (r : TaskRun) (code : Nat) (res : List Nat) : Leaves storeWatch s (t.endRun r code res) :=
  Leaves.ite (h.of_regs rfl) (Leaves.ite (h.of_regs rfl) (h.finishTask r code res))

theorem Leaves.commitTasksEnd (h : Leaves storeWatch s t) : Leaves storeWatch s t.commitTasksEnd := by
  refine h.foldl _ (fun u r _ h => ?_)
  split
  · exact Leaves.ite (h.of_regs rfl) (h.endRun r _ _)
  · exact h

theorem Leaves.commitTasksFail (h : Leaves storeWatch s t) (result : Nat) : Leaves storeWatch s (t.commitTasksFail result) :=
  h.foldl _ (fun _ r _ h => (h.endRun r _ _).ite h)

theorem Leaves.queuedTasksFail (h : Leaves storeWatch s t) (result : Nat) : Leaves storeWatch s (t.queuedTasksFail result) :=
  h.foldl _ (fun _ r _ h => (h.endRun r _ _).ite h)

theorem Leaves.commitOver (h : Leaves storeWatch s t) (ok : Bool) (cs : List StoreChange) : Leaves storeWatch s (t.commitOver ok cs) := by
  unfold State.commitOver
  extract_lets fw u
  have hu : Leaves storeWatch s u := Leaves.ite (h.of_regs rfl) h
  exact Leaves.ite (hu.of_regs rfl) hu

end

@[simp] theorem commitTasksEnd_pat (s : State) : s.commitTasksEnd.pat = s.pat := ((keeps_State_commitTasksEnd rfl (Keeps.refl false 8388659 s)).frame .pat).resolve_left (by decide)
@[simp] theorem commitTasksEnd_pwr (s : State) : s.commitTasksEnd.pwr = s.pwr := ((keeps_State_commitTasksEnd rfl (Keeps.refl false 8388659 s)).frame .pwr).resolve_left (by decide)
@[simp] theorem commitTasksFail_pat (s : State) (n : Nat) : (s.commitTasksFail n).pat = s.pat := ((keeps_State_commitTasksFail n rfl (Keeps.refl false 8388659 s)).frame .pat).resolve_left (by decide)
@[simp] theorem commitTasksFail_pwr (s : State) (n : Nat) : (s.commitTasksFail n).pwr = s.pwr := ((keeps_State_commitTasksFail n rfl (Keeps.refl false 8388659 s)).frame .pwr).resolve_left (by decide)
@[simp] theorem queuedTasksFail_pat (s : State) (n : Nat) : (s.queuedTasksFail n).pat = s.pat := ((keeps_State_queuedTasksFail n rfl (Keeps.refl false 8388659 s)).frame .pat).resolve_left (by decide)
@[simp] theorem commitOver_pat (s : State) (ok : Bool) (cs : List StoreChange) : (s.commitOver ok cs).pat = s.pat := ((keeps_State_commitOver ok cs rfl (Keeps.refl false 1572864 s)).frame .pat).resolve_left (by decide)
@[simp] theorem commitOver_pwr (s : State) (ok : Bool) (cs : List StoreChange) : (s.commitOver ok cs).pwr = s.pwr := ((keeps_State_commitOver ok cs rfl (Keeps.refl false 1572864 s)).frame .pwr).resolve_left (by decide)

/-! ## What a commit changes once its bank is current (R62, R142) -/

theorem Leaves.showPending {W : List Nat} {s t : State} (h : Leaves W s t) (rs : List PatRec) (hc : F.PAT_PENDING.COLD.key 0 0 ∉ F.EVT_STATUS.STATUS.key 0 0 :: W)
    (hp : F.PAT_PENDING.PAIR_ROLL.key 0 0 ∉ F.EVT_STATUS.STATUS.key 0 0 :: W) : Leaves W s (t.showPending rs) := (h.setFlag _ _ 0 0 hc).setFlag _ _ 0 0 hp

theorem Leaves.settled {s t : State} (h : Leaves storeWatch s t) (cs : List StoreChange) : Leaves storeWatch s (t.settled cs) := by
  unfold State.settled
  extract_lets st delivered flm t1 t2 mi t3 only t4 t5 r t6 t7 pat
  have h1 : Leaves storeWatch s t1 := Leaves.ite (h.of_regs rfl) h
  have h2 : Leaves storeWatch s t2 := (h1.set _ _ 0 0 (by decide)).set _ _ 0 0 (by decide)
  have h3 : Leaves storeWatch s t3 := h2.of_regs rfl
  have h4 : Leaves storeWatch s t4 := Leaves.ite ((h3.set _ _ 0 0 (by decide)).showPending _ (by decide) (by decide)) h3
  have h5 : Leaves storeWatch s t5 :=
    (((h4.setFlag _ _ 0 0 (by decide)).set _ _ 0 0 (by decide)).set _ _ 0 0 (by decide)).set _ _ 0 0 (by decide)
  have h6 : Leaves storeWatch s t6 := h5.ovlDiscarded storeWatch_quiet _
  have h7 : Leaves storeWatch s t7 := Leaves.ite (h6.patWarns storeWatch_quiet _) h6
  exact Leaves.ite (h7.of_regs rfl) h5

/-- Of the Pattern part `settled` changes the live records that wait for a step tick. -/
theorem settled_pat (s : State) (cs : List StoreChange) : ∃ l, (s.settled cs).pat = { s.pat with pendingLive := l } := by
  unfold State.settled
  extract_lets st delivered flm s1 s2 mi s3 only s4 s5 r s6 s7 pat
  have h1 : s1.pat = s.pat := by unfold s1; split <;> rfl
  have h4 : s4.pat = s1.pat := by unfold s4; split <;> rfl
  have h7 : s7.pat = s6.pat := by
    unfold s7
    split
    · exact patWarns_pat _ _
    · rfl
  have h6 : s6.pat = s.pat := (ovlDiscarded_pat s5 _).trans (h4.trans h1)
  split
  · exact ⟨r.1, congrArg (fun p : PatSt => { p with pendingLive := r.1 }) (h7.trans h6)⟩
  · exact ⟨s.pat.pendingLive, h4.trans h1⟩

theorem settled_pwr (s : State) (cs : List StoreChange) : (s.settled cs).pwr = s.pwr := ((keeps_State_settled cs rfl (Keeps.refl false 9437415 s)).frame .pwr).resolve_left (by decide)

/-! ## What follows a power failure on the link and on the drives (R275, R279, R312, R524) -/

/-- The registers of the drive ports and of the Scaler stand behind those of the store, and the power-fail pin is not bit 0 of its own. -/
theorem counter_not_storeWatch (f : Fld) (i j : Nat) (hlo : f.lo = 0) (hoff : 0x480000 ≤ f.off) : f.key i j ∉ F.EVT_STATUS.STATUS.key 0 0 :: storeWatch := by
  simp only [storeWatch, List.mem_cons, List.not_mem_nil, or_false, not_or, Fld.key, Fld.at, hlo, F.EVT_STATUS.STATUS, F.STORE_STATUS.BUSY, F.STORE_STATUS.RESULT,
    F.STORE_STATUS.UNUSABLE, F.STORE_STATUS.CURRENT, F.PWR_PINS.PWRFAIL, F.PWR_PINS.PWRFAIL_SEEN]
  omega

section
variable {s t : State}

theorem Leaves.addCounter (h : Leaves storeWatch s t) (i weight : Nat) : Leaves storeWatch s (t.addCounter i weight) := by
  have hc := h.set F.SCL_CNT.COUNT (t.get F.SCL_CNT.COUNT i + weight) i 0 (counter_not_storeWatch _ _ _ rfl (by decide))
  exact Leaves.ite hc ((hc.set F.SCL_OVF.OVF _ _ 0 (counter_not_storeWatch _ _ _ rfl (by decide))).raiseLimited 0x480 (by decide))

theorem Leaves.count (h : Leaves storeWatch s t) (unit inst event weight : Nat) : Leaves storeWatch s (t.count unit inst event weight) :=
  Leaves.ite (h.foldl _ (fun _ i _ h => (h.addCounter i weight).ite h)) h

theorem Leaves.putLink (h : Leaves storeWatch s t) (lseq : Nat) (replay nak : Bool) (b : LinkBody) : Leaves storeWatch s (t.putLink lseq replay nak b) := by
  refine Leaves.of_regs (Leaves.count ?_ 9 0 1 _) rfl
  exact h.of_regs rfl

theorem Leaves.sendLink (h : Leaves storeWatch s t) (b : LinkBody) : Leaves storeWatch s (t.sendLink b) := by
  refine Leaves.ite (Leaves.putLink ?_ _ _ _ _) h
  exact h.of_regs rfl

theorem Leaves.sendInput (h : Leaves storeWatch s t) (r : InputRec) : Leaves storeWatch s (t.sendInput r) :=
  Leaves.ite ((h.sendLink _).count _ _ _ _) h

theorem Leaves.number (h : Leaves storeWatch s t) (sideB refOnly : Bool) (origin : Nat) (i : Input) : Leaves storeWatch s (t.number sideB refOnly origin i) := by
  refine Leaves.sendInput ?_ _
  exact h.of_regs rfl

theorem Leaves.observe (h : Leaves storeWatch s t) (i : Input) : Leaves storeWatch s (t.observe i) := by
  unfold State.observe
  extract_lets origin wsw u
  have hu : Leaves storeWatch s u := h.of_regs rfl
  refine Leaves.ite (hu.number _ _ _ _) (Leaves.ite (Leaves.sendLink ?_ _) hu)
  exact hu.of_regs rfl

/-- A command that needs no buffers joins its class queue or is held; neither is a register. -/
theorem launch_regs (s : State) (c : DrvCmd) (hc : c.viaYard = false) : (s.launch c).regs = s.regs := by
  unfold State.launch
  split
  · rfl
  split
  · rfl
  simp only [State.equip, hc]
  exact enqueue_regs _ _ _ _

theorem Leaves.formDrv (h : Leaves storeWatch s t) (side : OutSide) (port nguid op lba nlb cls : Nat) (blocks : List Blk) (use : DrvUse) :
    Leaves storeWatch s (t.formDrv side port nguid op lba nlb cls false blocks use) := by
  unfold State.formDrv
  split
  extract_lets c drv t1 t2 t3
  have h2 : Leaves storeWatch s t2 := (Leaves.of_regs (u := t1) h rfl).of_regs (fold_regs _ _ _ _)
  have h3 : Leaves storeWatch s t3 := Leaves.ite (h2.bump _ _ 0 (counter_not_storeWatch _ _ _ rfl (by decide))) h2
  exact Leaves.ite (h3.of_regs (launch_regs _ _ rfl)) h3

theorem Leaves.vaultWrite (h : Leaves storeWatch s t) (seq : Nat) (m : VMem) (off : Nat) (blocks : List (List Byte)) (use : DrvUse) :
    Leaves storeWatch s (t.vaultWrite seq m off blocks use) := by
  unfold State.vaultWrite
  split
  · exact h
  unfold State.memberCmd
  split
  · exact h.formDrv _ _ _ _ _ _ _ _ _
  · exact h

theorem Leaves.retireDump (h : Leaves storeWatch s t) (d : Dump) : Leaves storeWatch s (t.retireDump d) :=
  Leaves.foldl _ (fun _ _ _ h => h.vaultWrite _ _ _ _ _) (h.of_regs rfl)

theorem Leaves.settlePower (h : Leaves storeWatch s t) : Leaves storeWatch s t.settlePower := by
  unfold State.settlePower
  split
  · exact Leaves.ite (h.retireDump _) h
  · exact h

theorem Leaves.failMigs (h : Leaves storeWatch s t) : Leaves storeWatch s t.failMigs := by
  unfold State.failMigs
  extract_lets live tly u
  have hu : Leaves storeWatch s u := h.of_regs rfl
  exact hu.ite (hu.raise 0x1DD (by decide))

theorem Leaves.beginDump (h : Leaves storeWatch s t) : Leaves storeWatch s t.beginDump := by
  have hstop : Leaves storeWatch s { t with tly := { t.tly with stopped := true } } := h.of_regs rfl
  exact h.ite (hstop.failMigs.of_regs rfl)

theorem Leaves.pwrfailStep (h : Leaves storeWatch s t) (sideB on : Bool) : Leaves storeWatch s (t.pwrfailStep sideB on) := by
  unfold State.pwrfailStep
  extract_lets pwr u
  have hu : Leaves storeWatch s u := by
    unfold u
    cases sideB == t.sideB <;> exact h.of_regs rfl
  exact Leaves.ite hu.settlePower (Leaves.ite (hu.ledger _ _ _ _ storeWatch_quiet.ledger) (Leaves.ite hu.beginDump hu))

/-- PWRFAIL_N enters the stream or acts at once; either way it leaves the store alone. -/
theorem Leaves.pwrfailRecognised (h : Leaves storeWatch s t) (on : Bool) : Leaves storeWatch s (t.recognised (.pwrfail on) (fun u => u.pwrfailStep u.sideB on)) :=
  Leaves.ite (Leaves.ite (h.pwrfailStep _ _) (h.observe _)) (h.pwrfailStep _ _)

end

@[simp] theorem pwrfailStep_pat (s : State) (sideB on : Bool) : (s.pwrfailStep sideB on).pat = s.pat :=
  ((keeps_State_pwrfailStep sideB on rfl (Keeps.refl false 32616035 s)).frame .pat).resolve_left (by decide)

@[simp] theorem pwrfailRecognised_pat (s : State) (on : Bool) : (s.recognised (.pwrfail on) (fun u => u.pwrfailStep u.sideB on)).pat = s.pat := by
  unfold State.recognised State.stepWrite
  split
  · split <;> simp
  · simp

/-! ## The end of a store commit (R70, R72) -/

theorem bank_of_pat {s t : State} (h : t.pat.banks = s.pat.banks) (i : Nat) : t.bank i = s.bank i := by
  unfold State.bank
  rw [h]

theorem bank_setBank_same (s : State) (b : Bank) {i : Nat} (hi : i < 2) : (s.setBank i b).bank i = b := by
  obtain rfl | rfl : i = 0 ∨ i = 1 := by omega
  all_goals rfl

theorem bank_setBank_other (s : State) (b : Bank) {i : Nat} (hi : i < 2) : (s.setBank i b).bank (1 - i) = s.bank (1 - i) := by
  obtain rfl | rfl : i = 0 ∨ i = 1 := by omega
  all_goals rfl

/-- A change of the Pattern part is none of a field. -/
theorem get_withPat (s : State) (p : PatSt) (g : Fld) (m n : Nat) : State.get { s with pat := p } g m n = s.get g m n := rfl

theorem current_showBank (s : State) {i : Nat} (hi : i < 2) : (s.showBank (some i)).get F.STORE_STATUS.CURRENT = i + 1 := by
  unfold State.showBank
  dsimp only
  rw [get_set_other _ _ _ _ _ _ _ _ (by decide), get_set_same]
  exact Nat.mod_eq_of_lt (by simp only [Fld.width, F.STORE_STATUS.CURRENT]; omega)

/-- The bank that a commit has written, with the sequence number that it takes (R70). -/
def State.newBank (s : State) (r : StoreRun) : Bank :=
  ⟨true, r.major, if s.get F.STORE_STATUS.CURRENT = 0 then 1 else s.get F.STORE_SEQ.STORE_SEQ + 1, r.migrated, r.content⟩

/-- That bank is current, and its contents are the settings. -/
def State.bankTaken (s : State) (r : StoreRun) : State :=
  let u := (s.setBank r.target (s.newBank r)).showBank (some r.target)
  ({ u with pat := { u.pat with run := none, settings := r.content } }).setFlag F.STORE_STATUS.BUSY false

/-- The result and the events of a commit that has succeeded are out. -/
def State.commitTold (s : State) (r : StoreRun) : State :=
  let u := ((s.bankTaken r).set F.STORE_STATUS.RESULT (if r.retried then 2 else 1)).raise 0x00A
  if r.migrated then u.raise 0x4E9 else u

section
variable {s : State} {r : StoreRun}

/-- A good read-back (R72). -/
theorem readBack_good (hr : s.pat.run = some r) :
    s.readBack .good = ((s.commitTold r).settled r.changes, some (if r.retried then 2 else 1, r.changes)) := by
  unfold State.readBack
  rw [hr]
  rfl

theorem bankTaken_pat (s : State) (r : StoreRun) :
    (s.bankTaken r).pat = { (s.setBank r.target (s.newBank r)).pat with run := none, settings := r.content } := rfl

theorem bankTaken_pwr (s : State) (r : StoreRun) : (s.bankTaken r).pwr = s.pwr := rfl

theorem bankTaken_not_busy (s : State) (r : StoreRun) : (s.bankTaken r).flag F.STORE_STATUS.BUSY = false := flag_setFlag_same _ _ _ _ _ rfl

theorem bankTaken_current (s : State) (ht : r.target < 2) : (s.bankTaken r).get F.STORE_STATUS.CURRENT = r.target + 1 := by
  unfold State.bankTaken
  rw [get_setFlag_other _ _ _ _ _ _ _ _ (by decide), get_withPat]
  exact current_showBank _ ht

/-- Telling the result raises events after it has written RESULT. -/
theorem leaves_commitTold (s : State) (r : StoreRun) :
    Leaves storeWatch (((s.bankTaken r).set F.STORE_STATUS.RESULT (if r.retried then 2 else 1)).raise 0x00A) (s.commitTold r) :=
  Leaves.ite ((Leaves.refl _ _).raise 0x4E9 (by decide)) (.refl _ _)

theorem leaves_bankTaken_commitTold (s : State) (r : StoreRun) :
    Leaves storeWatch ((s.bankTaken r).set F.STORE_STATUS.RESULT (if r.retried then 2 else 1)) (s.commitTold r) :=
  ((Leaves.refl _ _).raise 0x00A (by decide)).trans (leaves_commitTold s r)

theorem commitTold_pat (s : State) (r : StoreRun) : (s.commitTold r).pat = (s.bankTaken r).pat := by
  unfold State.commitTold
  cases r.migrated <;> simp

theorem commitTold_pwr (s : State) (r : StoreRun) : (s.commitTold r).pwr = s.pwr := by
  unfold State.commitTold
  cases r.migrated <;> simp [bankTaken_pwr]

theorem commitTold_not_busy (s : State) (r : StoreRun) : (s.commitTold r).flag F.STORE_STATUS.BUSY = false := by
  rw [(leaves_bankTaken_commitTold s r).flag _ (by decide), ← bankTaken_not_busy s r]
  unfold State.flag
  rw [get_set_other _ _ _ _ _ _ _ _ (by decide)]

theorem commitTold_current (s : State) (ht : r.target < 2) : (s.commitTold r).get F.STORE_STATUS.CURRENT = r.target + 1 := by
  rw [(leaves_bankTaken_commitTold s r).reads _ _ _ (by decide), get_set_other _ _ _ _ _ _ _ _ (by decide), bankTaken_current s ht]

theorem commitTold_result (s : State) (r : StoreRun) : (s.commitTold r).get F.STORE_STATUS.RESULT = if r.retried then 2 else 1 := by
  rw [(leaves_bankTaken_commitTold s r).reads _ _ _ (by decide), get_set_same]
  cases r.retried <;> rfl

/-- A bad one, the first time: the commit runs on for its retry. -/
theorem readBack_bad (hr : s.pat.run = some r) (hf : r.retried = false) :
    s.readBack .bad = ({ s with pat := { s.pat with run := some { r with retried := true } } }, none) := by
  unfold State.readBack
  rw [hr]
  simp [hf]

theorem commitFails_pat (s : State) (result : Nat) : (s.commitFails result).pat = { s.pat with run := none } := by simp [State.commitFails]

/-- The result of a commit that has ended without effect, and what it leaves of the other fields. -/
theorem result_commitFails (s : State) {result : Nat} (hn : result < 16) : (s.commitFails result).get F.STORE_STATUS.RESULT = result := by
  unfold State.commitFails
  rw [get_raise _ _ _ _ _ (by decide), get_ledger _ _ _ _ _ _ _ _ (by decide), get_set_same]
  exact Nat.mod_eq_of_lt hn

theorem unusable_commitFails (s : State) (result : Nat) : (s.commitFails result).get F.STORE_STATUS.UNUSABLE = s.get F.STORE_STATUS.UNUSABLE := by
  unfold State.commitFails
  rw [get_raise _ _ _ _ _ (by decide), get_ledger _ _ _ _ _ _ _ _ (by decide), get_set_other _ _ _ _ _ _ _ _ (by decide),
    get_setFlag_other _ _ _ _ _ _ _ _ (by decide), get_withPat]

theorem unusable_showBank (s : State) (cur : Option Nat) : (s.showBank cur).get F.STORE_STATUS.UNUSABLE = s.get F.STORE_STATUS.UNUSABLE := by
  cases cur <;> simp only [State.showBank] <;>
    rw [get_set_other _ _ _ _ _ _ _ _ (by decide), get_set_other _ _ _ _ _ _ _ _ (by decide), get_set_other _ _ _ _ _ _ _ _ (by decide)]

/-- A bad one after the retry: the bank is unusable, the settings stay. -/
theorem readBack_bad_again (hr : s.pat.run = some r) (ht : r.target < 2) (hf : r.retried = true) : ∃ u : State,
    s.readBack .bad = (u, some (3, r.changes)) ∧ u.pwr = s.pwr ∧ u.pat = { s.pat with run := none } ∧ bitOf (u.get F.STORE_STATUS.UNUSABLE) r.target = true ∧
      u.get F.STORE_STATUS.RESULT = 3 := by
  unfold State.readBack
  rw [hr]
  dsimp only
  rw [if_neg (by decide), if_pos hf]
  refine ⟨_, rfl, ?_, ?_, ?_, result_commitFails _ (by decide)⟩
  · simp [State.commitFails]
  · rw [commitFails_pat, showBank_pat, set_pat]
  · rw [unusable_commitFails, unusable_showBank, get_set_same]
    exact (bitOf_mod _ _ 2 ht).trans (withBit_bit _ _)

theorem warmStage_of_none {s : State} (h : s.pwr.warm = none) : s.warmStage = s := if_pos (Or.inl (by rw [h]; rfl))

/-- The tasks of a commit that is over end, and no warm reset waits for it. -/
theorem exec_storeCommitDone_over {rb : ReadBack} {u : State} {result : Nat} {cs : List StoreChange} (h : s.readBack rb = (u, some (result, cs)))
    (hw : u.pwr.warm = none) : ∃ t, exec (.storeCommitDone rb) s = .next t ∧ Leaves storeWatch u t ∧ t.pat = u.pat := by
  have hrun : exec (.storeCommitDone rb) s = .next (if result != 3 then (u.commitOver (result != 3) cs).commitTasksEnd
      else (u.commitOver (result != 3) cs).commitTasksFail result).warmStage := by
    show execStoreCommitDone rb s = _
    simp only [execStoreCommitDone, h]
  have hover := (Leaves.refl storeWatch u).commitOver (result != 3) cs
  refine ⟨_, hrun, ?_⟩
  rw [warmStage_of_none (by split <;> simpa using hw)]
  split
  · exact ⟨hover.commitTasksEnd, by simp⟩
  · exact ⟨hover.commitTasksFail result, by simp⟩

theorem storeCommitDone_good (hr : s.pat.run = some r) (ht : r.target < 2) (hw : s.pwr.warm = none) :
    ∃ t, exec (.storeCommitDone .good) s = .next t ∧ t.pat.run = none ∧ t.pat.settings = r.content ∧ (t.bank r.target).content = r.content ∧
      (t.bank r.target).valid = true ∧ t.bank (1 - r.target) = s.bank (1 - r.target) ∧ t.flag F.STORE_STATUS.BUSY = false ∧
      t.get F.STORE_STATUS.CURRENT = r.target + 1 ∧ t.get F.STORE_STATUS.RESULT = (if r.retried then 2 else 1) ∧ bitOf (t.get F.EVT_STATUS.STATUS 0) 10 = true := by
  obtain ⟨l, hsettled⟩ := settled_pat (s.commitTold r) r.changes
  obtain ⟨t, hexec, hover, htpat⟩ := exec_storeCommitDone_over (readBack_good hr) (by rw [settled_pwr, commitTold_pwr, hw])
  have hl : Leaves storeWatch (s.commitTold r) t := ((Leaves.refl _ _).settled r.changes).trans hover
  have hpat : t.pat = { (s.setBank r.target (s.newBank r)).pat with run := none, settings := r.content, pendingLive := l } := by
    rw [htpat, hsettled, commitTold_pat, bankTaken_pat]
  have hbank : ∀ i, t.bank i = (s.setBank r.target (s.newBank r)).bank i := bank_of_pat (by rw [hpat])
  refine ⟨t, hexec, by rw [hpat], by rw [hpat], ?_, ?_, ?_, ?_, ?_, ?_, ((leaves_commitTold s r).trans hl).raised (by decide)⟩
  · rw [hbank, bank_setBank_same _ _ ht]
    rfl
  · rw [hbank, bank_setBank_same _ _ ht]
    rfl
  · rw [hbank, bank_setBank_other _ _ ht]
  · rw [hl.flag _ (by decide), commitTold_not_busy]
  · rw [hl.reads _ _ _ (by decide), commitTold_current s ht]
  · rw [hl.reads _ _ _ (by decide), commitTold_result]

theorem storeCommitDone_bad (hr : s.pat.run = some r) (hf : r.retried = false) :
    exec (.storeCommitDone .bad) s = .next { s with pat := { s.pat with run := some { r with retried := true } } } := by
  show execStoreCommitDone .bad s = _
  simp only [execStoreCommitDone, readBack_bad hr hf]

theorem storeRefuses_of_bit {s : State} {i : Nat} (h : bitOf (s.get F.STORE_STATUS.UNUSABLE) i = true) : s.storeRefuses = true := by
  simp only [State.storeRefuses, bne_iff_ne, ne_eq]
  intro h0
  simp [h0, bitOf] at h

theorem storeCommitDone_bad_again (hr : s.pat.run = some r) (ht : r.target < 2) (hf : r.retried = true) (hw : s.pwr.warm = none) :
    ∃ t, exec (.storeCommitDone .bad) s = .next t ∧ t.pat.run = none ∧ t.pat.settings = s.pat.settings ∧ t.storeRefuses = true ∧
      bitOf (t.get F.STORE_STATUS.UNUSABLE) r.target = true ∧ t.get F.STORE_STATUS.RESULT = 3 := by
  obtain ⟨u, hback, hpwr, hpat, hbit, hres⟩ := readBack_bad_again hr ht hf
  obtain ⟨t, hexec, hl, htpat⟩ := exec_storeCommitDone_over hback (by rw [hpwr, hw])
  have htbit : bitOf (t.get F.STORE_STATUS.UNUSABLE) r.target = true := by rw [hl.reads _ _ _ (by decide), hbit]
  exact ⟨t, hexec, by rw [htpat, hpat], by rw [htpat, hpat], storeRefuses_of_bit htbit, htbit, by rw [hl.reads _ _ _ (by decide), hres]⟩

end

/-! ## Changes that waited, and live records (R62, R73, R74) -/

@[simp] theorem endRun_pat (s : State) (r : TaskRun) (code : Nat) (res : List Nat) : (s.endRun r code res).pat = s.pat :=
  ((keeps_State_endRun r code res rfl (Keeps.refl false 8388659 s)).frame .pat).resolve_left (by decide)

/-- Operations in a row that leave the Pattern part. -/
theorem foldl_pat {α : Type} {f : State → α → State} (hf : ∀ s x, (f s x).pat = s.pat) (l : List α) (s : State) : (l.foldl f s).pat = s.pat := by
  induction l generalizing s with
  | nil => rfl
  | cons x l ih => exact (ih _).trans (hf s x)

section
variable {s t : State} {cs : List StoreChange}

theorem committing_of_leaves (h : Committing s cs) (hl : Leaves storeWatch s t) (hp : t.pat = s.pat) : Committing t cs :=
  ⟨by rw [hp, h.1], by rw [hl.flag _ (by decide), h.2]⟩

/-- A commit that the store does not refuse begins. -/
theorem startCommit_committing (hs : s.storeRefuses = false) (cs : List StoreChange) : Committing (s.startCommit cs) cs ∧ (s.startCommit cs).pat.waiting = s.pat.waiting := by
  unfold State.startCommit
  rw [hs]
  exact ⟨⟨rfl, flag_setFlag_same _ _ _ _ _ rfl⟩, rfl⟩

/-- Nothing holds back the changes that wait. -/
theorem commitWaiting_eq (hr : s.pat.run = none) (hp : s.flag F.PWR_PINS.PWRFAIL = false) (hw : s.pwr.warm = none) (hn : s.pat.waiting ≠ []) :
    s.commitWaiting = State.startCommit { s with pat := { s.pat with waiting := [] } } s.pat.waiting := by
  unfold State.commitWaiting
  rw [if_neg]
  simp [hr, hp, hw, hn]

theorem commitWaiting_committing (hr : s.pat.run = none) (hp : s.flag F.PWR_PINS.PWRFAIL = false) (hw : s.pwr.warm = none) (hn : s.pat.waiting ≠ [])
    (hs : s.storeRefuses = false) : Committing s.commitWaiting s.pat.waiting ∧ s.commitWaiting.pat.waiting = [] := by
  rw [commitWaiting_eq hr hp hw hn]
  exact startCommit_committing (s := { s with pat := { s.pat with waiting := [] } }) hs s.pat.waiting

/-- A task whose changes have waited goes on with their commit. -/
def State.taskJoins (s : State) (r : TaskRun) : State :=
  match r.inQueue? with
  | some (code, res) => s.moveRun r { r with phase := .commit code res }
  | none => s

theorem taskJoins_regs (s : State) (r : TaskRun) : (s.taskJoins r).regs = s.regs := by
  unfold State.taskJoins
  split <;> rfl

theorem taskJoins_pat (s : State) (r : TaskRun) : (s.taskJoins r).pat = s.pat := by
  unfold State.taskJoins
  split <;> rfl

theorem storeCommitCoalesced_commits (hr : s.pat.run = none) (hp : s.flag F.PWR_PINS.PWRFAIL = false) (hw : s.pwr.warm = none) (hn : s.pat.waiting ≠ [])
    (hs : s.storeRefuses = false) : ∃ t, exec .storeCommitCoalesced s = .next t ∧ Committing t s.pat.waiting ∧ t.pat.waiting = [] := by
  obtain ⟨hcommits, hwaiting⟩ := commitWaiting_committing hr hp hw hn hs
  have hruns : ¬ s.commitWaiting.pat.run.isNone = true := by
    intro h
    rw [Option.isNone_iff_eq_none] at h
    simp [Committing, h] at hcommits
  show ∃ t, execStoreCommitCoalesced s = .next t ∧ _
  unfold execStoreCommitCoalesced
  rw [if_neg (by simp [hr, hp, hw, hn])]
  dsimp only
  rw [if_neg hruns]
  have hpat := foldl_pat taskJoins_pat s.commitWaiting.tasks s.commitWaiting
  have hleaves := (Leaves.refl storeWatch s.commitWaiting).foldl s.commitWaiting.tasks (fun u r _ h => h.of_regs (taskJoins_regs u r))
  exact ⟨s.commitWaiting.tasks.foldl State.taskJoins s.commitWaiting, rfl, committing_of_leaves hcommits hleaves hpat, by rw [hpat, hwaiting]⟩

/-- Live records take effect: those that waited stand in place of the live records in force. -/
theorem liveEffect_pat (s : State) :
    s.liveEffect.pat = { s.pat with live := s.pat.live.filter (fun r => changeOf r.type != some .live) ++ s.pat.pendingLive, pendingLive := [] } := by
  unfold State.liveEffect
  dsimp only
  refine (foldl_pat (fun u g => ?_) _ _).trans ?_
  · exact ((keeps_State_brandNs g rfl (Keeps.refl false 32597539 u)).frame .pat).resolve_left (by decide)
  refine (((keeps_State_noticeNs _ rfl (Keeps.refl false 25236387 _)).frame .pat).resolve_left (by decide)).trans ?_
  refine (((keeps_State_changeMeters _ rfl (Keeps.refl false 65536 _)).frame .pat).resolve_left (by decide)).trans ?_
  exact ((keeps_State_changeGates rfl (Keeps.refl false 65536 _)).frame .pat).resolve_left (by decide)

theorem liveRecordsEffect_replaces (hn : s.pat.pendingLive ≠ []) :
    ∃ t, exec .liveRecordsEffect s = .next t ∧ t.pat.pendingLive = [] ∧
      t.pat.live = s.pat.live.filter (fun r => changeOf r.type != some .live) ++ s.pat.pendingLive := by
  have hempty : ¬ s.pat.pendingLive.isEmpty = true := by simpa using hn
  show ∃ t, execLiveRecordsEffect s = .next t ∧ _
  unfold execLiveRecordsEffect
  dsimp only
  rw [if_neg (fun h => hempty h.1), if_neg hempty]
  have hpat : ∀ l : List TaskRun, (l.foldl (fun (s : State) (r : TaskRun) => s.endRun r tsOk []) (s.inStep State.liveEffect)).pat =
      { s.pat with live := s.pat.live.filter (fun r => changeOf r.type != some .live) ++ s.pat.pendingLive, pendingLive := [] } :=
    fun l => (foldl_pat (fun u r => endRun_pat u r _ _) l _).trans (liveEffect_pat _)
  exact ⟨_, rfl, by rw [hpat], by rw [hpat]⟩

end

/-! ## The power-fail pin (R73, R524) -/

/-- The two fields of the pin, which no commit writes. -/
def pinWatch : List Nat := [F.PWR_PINS.PWRFAIL.key 0 0, F.PWR_PINS.PWRFAIL_SEEN.key 0 0]

theorem pinWatch_sub : ∀ k ∈ pinWatch, k ∈ storeWatch := by decide

theorem Leaves.mono {W V : List Nat} {s t : State} (h : Leaves W s t) (hsub : ∀ k ∈ V, k ∈ W) : Leaves V s t :=
  ⟨fun g m n hk => h.reads g m n (hsub _ hk), h.events⟩

section
variable {s t : State}

theorem Leaves.commitFails (h : Leaves pinWatch s t) (result : Nat) : Leaves pinWatch s (t.commitFails result) := by
  have hidle : Leaves pinWatch s { t with pat := { t.pat with run := none } } := h.of_regs rfl
  exact (((hidle.setFlag _ _ 0 0 (by decide)).set _ _ 0 0 (by decide)).ledger _ _ _ _ (by decide)).raise 0x00A (by decide)

theorem Leaves.startCommit (h : Leaves pinWatch s t) (cs : List StoreChange) : Leaves pinWatch s (t.startCommit cs) := by
  unfold State.startCommit
  refine Leaves.ite (((h.set _ _ 0 0 (by decide)).ledger _ _ _ _ (by decide)).raise 0x00A (by decide)) (Leaves.setFlag ?_ _ _ 0 0 (by decide))
  exact h.of_regs rfl

theorem Leaves.commitWaiting (h : Leaves pinWatch s t) : Leaves pinWatch s t.commitWaiting := by
  have hnone : Leaves pinWatch s { t with pat := { t.pat with waiting := [] } } := h.of_regs rfl
  exact h.ite (hnone.startCommit _)

/-- A commit that has begun its header runs on. -/
theorem stopCommit_header {r : StoreRun} (hr : s.pat.run = some r) : ∃ u, s.stopCommit true = (u, false) ∧ Leaves pinWatch s u ∧ u.pat.run = some r := by
  unfold State.stopCommit
  rw [hr]
  exact ⟨_, rfl, (Leaves.refl _ s).of_regs rfl, hr⟩

/-- One that has not stops, with RESULT 4. -/
theorem stopCommit_early {r : StoreRun} (hr : s.pat.run = some r) :
    ∃ u, s.stopCommit false = (u, true) ∧ Leaves pinWatch s u ∧ u.pat.run = none ∧ u.get F.STORE_STATUS.RESULT = 4 := by
  unfold State.stopCommit
  rw [hr]
  exact ⟨_, rfl, ((Leaves.refl _ s).commitFails 4).of_regs rfl, congrArg PatSt.run (commitFails_pat s 4), result_commitFails s (by decide)⟩

/-- The pin has fallen and is shown, and PWRFAIL is raised. -/
def State.pinFallen (s : State) : State := ((s.setFlag F.PWR_PINS.PWRFAIL true).setFlag F.PWR_PINS.PWRFAIL_SEEN true).raise 0x003

theorem pinFallen_pat (s : State) : s.pinFallen.pat = s.pat := raise_pat _ _

theorem pinFallen_flags (s : State) : s.pinFallen.flag F.PWR_PINS.PWRFAIL = true ∧ s.pinFallen.flag F.PWR_PINS.PWRFAIL_SEEN = true := by
  unfold State.pinFallen State.flag
  rw [get_raise _ _ _ _ _ (by decide), get_raise _ _ _ _ _ (by decide), get_setFlag_other _ _ _ _ _ _ _ _ (by decide)]
  exact ⟨flag_setFlag_same _ _ _ _ _ rfl, flag_setFlag_same _ _ _ _ _ rfl⟩

/-- The tasks of the stopped commit and of what waited end, and the failure enters the stream: neither touches the store. -/
theorem exec_pwrfailAssert {b stopped : Bool} {u : State} (hp : s.flag F.PWR_PINS.PWRFAIL = false) (h : s.pinFallen.stopCommit b = (u, stopped)) :
    ∃ t, exec (.pwrfailAssert b) s = .next t ∧ Leaves storeWatch u t ∧ t.pat = u.pat := by
  have hexec : exec (.pwrfailAssert b) s =
      .next (((if stopped then u.commitTasksFail 4 else u).queuedTasksFail 4).recognised (.pwrfail true) (fun s => s.pwrfailStep s.sideB true)) := by
    show execPwrfailAssert b s = _
    unfold execPwrfailAssert
    rw [if_neg (by simp [hp])]
    dsimp only
    rw [show (((s.setFlag F.PWR_PINS.PWRFAIL true).setFlag F.PWR_PINS.PWRFAIL_SEEN true).raise 0x003).stopCommit b = (u, stopped) from h]
  have hu := Leaves.refl storeWatch u
  refine ⟨_, hexec, ((Leaves.ite (hu.commitTasksFail 4) hu).queuedTasksFail 4).pwrfailRecognised true, ?_⟩
  cases stopped <;> simp

theorem pwrfailAssert_stops {r : StoreRun} (b : Bool) (hp : s.flag F.PWR_PINS.PWRFAIL = false) (hr : s.pat.run = some r) :
    ∃ t, exec (.pwrfailAssert b) s = .next t ∧ t.flag F.PWR_PINS.PWRFAIL = true ∧ t.flag F.PWR_PINS.PWRFAIL_SEEN = true ∧ bitOf (t.get F.EVT_STATUS.STATUS 0) 3 = true ∧
      (b = false → t.pat.run = none ∧ t.get F.STORE_STATUS.RESULT = 4) ∧ (b = true → t.pat.run = some r) := by
  have hr' : s.pinFallen.pat.run = some r := by rw [pinFallen_pat, hr]
  obtain ⟨hfail, hseen⟩ := pinFallen_flags s
  have hpin : ∀ t, Leaves pinWatch s.pinFallen t →
      t.flag F.PWR_PINS.PWRFAIL = true ∧ t.flag F.PWR_PINS.PWRFAIL_SEEN = true ∧ bitOf (t.get F.EVT_STATUS.STATUS 0) 3 = true := fun t h =>
    ⟨by rw [h.flag _ (by decide), hfail], by rw [h.flag _ (by decide), hseen], h.raised (by decide)⟩
  cases b
  case false =>
    obtain ⟨u, hstop, hu, hrun, hresult⟩ := stopCommit_early hr'
    obtain ⟨t, hexec, hl, hpat⟩ := exec_pwrfailAssert hp hstop
    obtain ⟨h1, h2, h3⟩ := hpin t (hu.trans (hl.mono pinWatch_sub))
    exact ⟨t, hexec, h1, h2, h3, fun _ => ⟨by rw [hpat, hrun], by rw [hl.reads _ _ _ (by decide), hresult]⟩, fun h => absurd h (by decide)⟩
  case true =>
    obtain ⟨u, hstop, hu, hrun⟩ := stopCommit_header hr'
    obtain ⟨t, hexec, hl, hpat⟩ := exec_pwrfailAssert hp hstop
    obtain ⟨h1, h2, h3⟩ := hpin t (hu.trans (hl.mono pinWatch_sub))
    exact ⟨t, hexec, h1, h2, h3, fun h => absurd h (by decide), fun _ => by rw [hpat, hrun]⟩

/-- The pin has risen again, and PWRFAIL_END is raised. -/
def State.pinRisen (s : State) : State := (s.setFlag F.PWR_PINS.PWRFAIL false).raise 0x004

theorem pinRisen_flag (s : State) : s.pinRisen.flag F.PWR_PINS.PWRFAIL = false := by
  unfold State.pinRisen State.flag
  rw [get_raise _ _ _ _ _ (by decide)]
  exact flag_setFlag_same _ _ _ _ _ rfl

theorem pinRisen_pat (s : State) : s.pinRisen.pat = s.pat := raise_pat _ _

theorem pinRisen_pwr (s : State) : s.pinRisen.pwr = s.pwr := raise_pwr _ _

theorem pinRisen_storeRefuses (s : State) : s.pinRisen.storeRefuses = s.storeRefuses := by
  unfold State.storeRefuses State.pinRisen
  rw [get_raise _ _ _ _ _ (by decide), get_setFlag_other _ _ _ _ _ _ _ _ (by decide)]

theorem exec_pwrfailDeassert (hp : s.flag F.PWR_PINS.PWRFAIL = true) :
    exec .pwrfailDeassert s = .next (s.pinRisen.commitWaiting.recognised (.pwrfail false) (fun s => s.pwrfailStep s.sideB false)) := by
  show execPwrfailDeassert s = _
  unfold execPwrfailDeassert
  rw [if_neg (by simp [hp])]
  rfl

theorem pwrfailDeassert_commits (hp : s.flag F.PWR_PINS.PWRFAIL = true) (hr : s.pat.run = none) (hw : s.pwr.warm = none) (hs : s.storeRefuses = false) :
    ∃ t, exec .pwrfailDeassert s = .next t ∧ t.flag F.PWR_PINS.PWRFAIL = false ∧ bitOf (t.get F.EVT_STATUS.STATUS 0) 4 = true ∧
      (s.pat.waiting ≠ [] → Committing t s.pat.waiting) := by
  have htail := (Leaves.refl storeWatch s.pinRisen.commitWaiting).pwrfailRecognised false
  have hl := ((Leaves.refl pinWatch s.pinRisen).commitWaiting).trans (htail.mono pinWatch_sub)
  refine ⟨_, exec_pwrfailDeassert hp, by rw [hl.flag _ (by decide), pinRisen_flag], hl.raised (by decide), fun hn => ?_⟩
  rw [← pinRisen_pat] at hr hn ⊢
  rw [← pinRisen_pwr] at hw
  rw [← pinRisen_storeRefuses] at hs
  exact committing_of_leaves (commitWaiting_committing hr (pinRisen_flag s) hw hn hs).1 htail (pwrfailRecognised_pat _ _)

end

/-! ## The Pattern load (R57, R71, R588) -/

/-- What a load shows of the Pattern that it has put in force, and of the one that it has rejected. -/
def loadWatch : List Nat :=
  [F.PAT_STATUS.LOADED.key 0 0, F.PAT_STATUS.FACTORY_ONLY.key 0 0, F.PAT_STATUS.SOURCE.key 0 0, F.PAT_ERROR.CODE.key 0 0]

theorem loadWatch_quiet : QuietReports loadWatch := ⟨by decide, by decide⟩

section
variable {s t : State}

theorem Leaves.patCold (h : Leaves loadWatch s t) : Leaves loadWatch s t.patCold := (h.set _ _ 0 0 (by decide)).set _ _ 0 0 (by decide)

theorem Leaves.patWarm (h : Leaves loadWatch s t) : Leaves loadWatch s t.patWarm := by
  unfold State.patWarm
  extract_lets t1 t2 t3 t4
  have h1 : Leaves loadWatch s t1 := h.setRange _ 4 _ (by decide)
  have h2 : Leaves loadWatch s t2 := h1.setFlagRange _ 48 _ (by decide)
  have h3 : Leaves loadWatch s t3 := (h2.set _ _ 0 0 (by decide)).set _ _ 0 0 (by decide)
  have h4 : Leaves loadWatch s t4 := h3.set _ _ 0 0 (by decide)
  exact h4.setFlagRange _ 32 _ (by decide)

theorem loadGates_regs (s : State) : s.loadGates.regs = s.regs := ((keeps_State_loadGates rfl (Keeps.refl false 65536 s)).frame .regs).resolve_left (by decide)
theorem loadGates_pat (s : State) : s.loadGates.pat = s.pat := ((keeps_State_loadGates rfl (Keeps.refl false 65536 s)).frame .pat).resolve_left (by decide)
theorem patWarm_pat (s : State) : s.patWarm.pat = s.pat := ((keeps_State_patWarm rfl (Keeps.refl false 1 s)).frame .pat).resolve_left (by decide)

theorem Leaves.putInForce (h : Leaves loadWatch s t) (rs : List PatRec) (warm : Bool) : Leaves loadWatch s (t.putInForce rs warm) := by
  unfold State.putInForce
  extract_lets base a pat t1 t2 t3
  have h1 : Leaves loadWatch s t1 := h.of_regs rfl
  have h2 : Leaves loadWatch s t2 := h1.showPending rs (by decide) (by decide)
  have h3 : Leaves loadWatch s t3 := Leaves.ite h2 h2.patCold
  exact (h3.patWarm.of_regs (loadGates_regs _)).ovlDiscarded loadWatch_quiet a.2

theorem putInForce_settings (s : State) (rs : List PatRec) (warm : Bool) : (s.putInForce rs warm).pat.settings = s.pat.settings := by
  unfold State.putInForce
  extract_lets base a pat t1 t2 t3
  rw [ovlDiscarded_pat, loadGates_pat, patWarm_pat]
  unfold t3
  split <;> rfl

/-! ### Errors -/

theorem leaves_firstError {W : List Nat} (s : State) (e : PatErr) (hc : F.PAT_ERROR.CODE.key 0 0 ∉ F.EVT_STATUS.STATUS.key 0 0 :: W)
    (hr : F.PAT_ERROR.RECORD.key 0 0 ∉ F.EVT_STATUS.STATUS.key 0 0 :: W) (ho : F.PAT_ERROR_OFS.OFFSET.key 0 0 ∉ F.EVT_STATUS.STATUS.key 0 0 :: W) :
    Leaves W s (s.firstError e) :=
  Leaves.ite ((((Leaves.refl _ s).set _ _ 0 0 hc).set _ _ 0 0 hr).set _ _ 0 0 ho) (.refl _ s)

/-- A rejected load shows ERROR, and start-up stays where it is. -/
theorem leaves_patError (s : State) (e : PatErr) : Leaves [F.PAT_STATUS.ERROR.key 0 0, F.PWR_STATE.BOOT_STEP.key 0 0] (s.setFlag F.PAT_STATUS.ERROR true) (s.patError e) :=
  ((leaves_firstError _ e (by decide) (by decide) (by decide)).ledger _ _ _ _ (by decide)).raise 0x009 (by decide)

theorem patError_error (s : State) (e : PatErr) : (s.patError e).flag F.PAT_STATUS.ERROR = true := by
  rw [(leaves_patError s e).flag _ (by decide)]
  exact flag_setFlag_same _ _ _ _ _ rfl

theorem patError_bootStep (s : State) (e : PatErr) : (s.patError e).get F.PWR_STATE.BOOT_STEP = s.get F.PWR_STATE.BOOT_STEP := by
  rw [(leaves_patError s e).reads _ _ _ (by decide), get_setFlag_other _ _ _ _ _ _ _ _ (by decide)]

@[simp] theorem patError_pat (s : State) (e : PatErr) : (s.patError e).pat = s.pat := ((keeps_State_patError e rfl (Keeps.refl false 8388707 s)).frame .pat).resolve_left (by decide)

/-- The first error since ERROR was cleared is the one shown. -/
theorem patError_code (s : State) (e : PatErr) (h0 : s.get F.PAT_ERROR.CODE = 0) (he : e.code < 256) : (s.patError e).get F.PAT_ERROR.CODE = e.code := by
  unfold State.patError State.firstError
  rw [get_raise _ _ _ _ _ (by decide), get_ledger _ _ _ _ _ _ _ _ (by decide), if_pos (by rw [get_setFlag_other _ _ _ _ _ _ _ _ (by decide), h0]),
    get_set_other _ _ _ _ _ _ _ _ (by decide), get_set_other _ _ _ _ _ _ _ _ (by decide), get_set_same]
  exact Nat.mod_eq_of_lt he

/-! ### The end of a load -/

theorem showSource_factoryOnly (s : State) : (s.showSource true).flag F.PAT_STATUS.FACTORY_ONLY = true := by
  unfold State.showSource State.flag
  rw [get_set_other _ _ _ _ _ _ _ _ (by decide), get_set_other _ _ _ _ _ _ _ _ (by decide), get_set_other _ _ _ _ _ _ _ _ (by decide)]
  exact flag_setFlag_same _ _ _ _ _ rfl

theorem showSource_source (s : State) : (s.showSource true).get F.PAT_STATUS.SOURCE = 0 := by
  unfold State.showSource
  rw [get_set_other _ _ _ _ _ _ _ _ (by decide), get_set_other _ _ _ _ _ _ _ _ (by decide), get_set_same]
  rfl

theorem Leaves.showSource (h : Leaves [F.PAT_STATUS.LOADED.key 0 0, F.PAT_ERROR.CODE.key 0 0] s t) (only : Bool) :
    Leaves [F.PAT_STATUS.LOADED.key 0 0, F.PAT_ERROR.CODE.key 0 0] s (t.showSource only) :=
  (((h.setFlag _ _ 0 0 (by decide)).set _ _ 0 0 (by decide)).set _ _ 0 0 (by decide)).set _ _ 0 0 (by decide)

/-- LOADED and the source of the Pattern are shown. -/
def State.sourceShown (s : State) (user : Bool) : State := (s.setFlag F.PAT_STATUS.LOADED true).showSource (!user)

/-- The warnings of a load, BOOT_STEP 4 and PAT_LOADED leave what is shown. -/
theorem leaves_loaded (s : State) (user : Bool) : Leaves loadWatch (s.sourceShown user) (s.loaded user) :=
  (((Leaves.refl _ (s.sourceShown user)).patWarns loadWatch_quiet _).set _ _ 0 0 (by decide)).raise 0x007 (by decide)

theorem loaded_bootStep (s : State) (user : Bool) : (s.loaded user).get F.PWR_STATE.BOOT_STEP = 4 := by
  unfold State.loaded
  rw [get_raise _ _ _ _ _ (by decide), get_set_same]
  rfl

theorem loaded_event (s : State) (user : Bool) : bitOf ((s.loaded user).get F.EVT_STATUS.STATUS 0) 7 = true :=
  raise_bit _ 7

theorem loaded_loaded (s : State) (user : Bool) : (s.loaded user).flag F.PAT_STATUS.LOADED = true := by
  have h := (Leaves.refl _ (s.setFlag F.PAT_STATUS.LOADED true)).showSource (!user)
  rw [(leaves_loaded s user).flag _ (by decide)]
  exact (h.flag _ (by decide)).trans (flag_setFlag_same _ _ _ _ _ rfl)

theorem loaded_factoryOnly (s : State) : (s.loaded false).flag F.PAT_STATUS.FACTORY_ONLY = true := by
  rw [(leaves_loaded s false).flag _ (by decide)]
  exact showSource_factoryOnly _

theorem loaded_source (s : State) : (s.loaded false).get F.PAT_STATUS.SOURCE = 0 := by
  rw [(leaves_loaded s false).reads _ _ _ (by decide)]
  exact showSource_source _

theorem loaded_code (s : State) (user : Bool) : (s.loaded user).get F.PAT_ERROR.CODE = s.get F.PAT_ERROR.CODE := by
  have h := (Leaves.refl _ (s.setFlag F.PAT_STATUS.LOADED true)).showSource (!user)
  rw [(leaves_loaded s user).reads _ _ _ (by decide)]
  exact (h.reads _ _ _ (by decide)).trans (get_setFlag_other _ _ _ _ _ _ _ _ (by decide))

theorem loaded_pat (s : State) (user : Bool) : (s.loaded user).pat = s.pat := ((keeps_State_loaded user rfl (Keeps.refl false 8388643 s)).frame .pat).resolve_left (by decide)

end

/-! ### The three ways it goes -/

section
variable {s : State} {chk : LoadChecks} (hp : s.power = stResetting) (hb : s.get F.PWR_STATE.BOOT_STEP = 3) (hf : s.pat.factoryFailed = false)
include hp hb hf

theorem execPatternLoad_due : ¬ (s.power ≠ stResetting ∨ s.get F.PWR_STATE.BOOT_STEP ≠ 3 ∨ s.pat.factoryFailed) := by simp [hp, hb, hf]

/-- The factory image fails: start-up stops. -/
theorem patternLoad_factoryFails (hc : chk.factoryOk = false) :
    ∃ t, exec (.patternLoad chk) s = .next t ∧ t.pat.factoryFailed = true ∧ t.get F.PWR_STATE.BOOT_STEP = 3 ∧ t.flag F.PAT_STATUS.ERROR = true := by
  have hexec : exec (.patternLoad chk) s = .next s.factoryFails := by
    show execPatternLoad chk s = _
    unfold execPatternLoad
    rw [if_neg (execPatternLoad_due hp hb hf), if_pos (by simp [hc])]
  refine ⟨_, hexec, ?_, ?_, patError_error _ _⟩
  · exact congrArg PatSt.factoryFailed (patError_pat _ _)
  · exact (patError_bootStep _ _).trans hb

/-- The store holds no Pattern: the factory Pattern is put in force. -/
theorem patternLoad_factory (hc : chk.factoryOk = true) (hn : s.pat.settings.pattern = none) :
    ∃ t, exec (.patternLoad chk) s = .next t ∧ t.flag F.PAT_STATUS.LOADED = true ∧ t.flag F.PAT_STATUS.FACTORY_ONLY = true ∧ t.get F.PAT_STATUS.SOURCE = 0 ∧
      t.get F.PWR_STATE.BOOT_STEP = 4 ∧ bitOf (t.get F.EVT_STATUS.STATUS 0) 7 = true := by
  have hnone : s.userConfig chk.sig = none := by simp [State.userConfig, hn]
  have hexec : exec (.patternLoad chk) s = .next ((s.putInForce factoryRecords (s.pwr.resetting == 1)).loaded false) := by
    show execPatternLoad chk s = _
    unfold execPatternLoad
    rw [if_neg (execPatternLoad_due hp hb hf), if_neg (by simp [hc]), hnone]
  exact ⟨_, hexec, loaded_loaded _ _, loaded_factoryOnly _, loaded_source _, loaded_bootStep _ _, loaded_event _ _⟩

/-- The user Pattern fails its checks: it is rejected, and the factory Pattern is put in force. -/
theorem patternLoad_rejects {e : PatErr} (hc : chk.factoryOk = true) (hu : s.userConfig chk.sig = some (.error e)) (h0 : s.get F.PAT_ERROR.CODE = 0) (he : e.code < 256) :
    ∃ t, exec (.patternLoad chk) s = .next t ∧ t.flag F.PAT_STATUS.FACTORY_ONLY = true ∧ t.get F.PAT_ERROR.CODE = e.code ∧ t.get F.PWR_STATE.BOOT_STEP = 4 ∧
      t.pat.settings = s.pat.settings := by
  have hexec : exec (.patternLoad chk) s = .next (((s.putInForce factoryRecords (s.pwr.resetting == 1)).patError e).loaded false) := by
    show execPatternLoad chk s = _
    unfold execPatternLoad
    rw [if_neg (execPatternLoad_due hp hb hf), if_neg (by simp [hc]), hu]
  have hcode : (s.putInForce factoryRecords (s.pwr.resetting == 1)).get F.PAT_ERROR.CODE = 0 :=
    (((Leaves.refl _ s).putInForce _ _).reads _ _ _ (by decide)).trans h0
  refine ⟨_, hexec, loaded_factoryOnly _, ?_, loaded_bootStep _ _, ?_⟩
  · rw [loaded_code, patError_code _ _ hcode he]
  · rw [loaded_pat, patError_pat, putInForce_settings]

end

/-! ### A state that the rejecting load applies to -/

/-- Start-up after step 3, with a store that holds an image of no bytes. -/
def emptyImageState : State :=
  let s := State.reset.set F.PWR_STATE.BOOT_STEP 3
  { s with pat := { s.pat with settings := { s.pat.settings with pattern := some [] } } }

theorem emptyImageState_fails : emptyImageState.power = stResetting ∧ emptyImageState.get F.PWR_STATE.BOOT_STEP = 3 ∧ emptyImageState.get F.PAT_ERROR.CODE = 0 ∧
    emptyImageState.userConfig ⟨0, true⟩ = some (.error ⟨1, headerIdx, 0⟩) := ⟨by decide, by decide, by decide, rfl⟩

/-- Such an image is rejected with PE_01. -/
theorem patternLoad_emptyImageState :
    ∃ t, exec (.patternLoad ⟨true, 0, true⟩) emptyImageState = .next t ∧ t.flag F.PAT_STATUS.FACTORY_ONLY = true ∧ t.get F.PAT_ERROR.CODE = 1 := by
  obtain ⟨hpower, hstep, hcode, huser⟩ := emptyImageState_fails
  obtain ⟨t, hexec, honly, herr, -⟩ := patternLoad_rejects (chk := ⟨true, 0, true⟩) hpower hstep rfl rfl huser hcode (by decide)
  exact ⟨t, hexec, honly, herr⟩

/-! ## The thermal trip (R585, R586) -/

/-- The sensor is shown. -/
def State.sensorShown (s : State) (c : Nat) : State := (s.set F.THERM_STATUS.HUB_C (min c 127)).setFlag F.THERM_STATUS.HOT (decide (100 ≤ c))

theorem sensorShown_hub (s : State) (c : Nat) : (s.sensorShown c).get F.THERM_STATUS.HUB_C = min c 127 := by
  unfold State.sensorShown
  rw [get_setFlag_other _ _ _ _ _ _ _ _ (by decide), get_set_same]
  exact Nat.mod_eq_of_lt (by simp only [Fld.width, F.THERM_STATUS.HUB_C]; omega)

theorem sensorShown_hot (s : State) (c : Nat) : (s.sensorShown c).flag F.THERM_STATUS.HOT = decide (100 ≤ c) := flag_setFlag_same _ _ _ _ _ rfl

theorem sensorShown_trip (s : State) (c : Nat) : (s.sensorShown c).flag F.THERM_STATUS.TRIP = s.flag F.THERM_STATUS.TRIP := by
  unfold State.sensorShown State.flag
  rw [get_setFlag_other _ _ _ _ _ _ _ _ (by decide), get_set_other _ _ _ _ _ _ _ _ (by decide)]

/-- From 115 degrees on, the first trip sets TRIP and pulls the pin, beside the sensor. -/
theorem thermalTrip_shows (c : Nat) (s : State) :
    ∃ t, exec (.thermalTrip c) s = .next t ∧ t.get F.THERM_STATUS.HUB_C = min c 127 ∧ t.flag F.THERM_STATUS.HOT = decide (100 ≤ c) ∧
      t.flag F.THERM_STATUS.TRIP = (s.flag F.THERM_STATUS.TRIP || decide (115 ≤ c)) ∧
      (115 ≤ c → s.flag F.THERM_STATUS.TRIP = false → Emitted s t (.pin .thermTripN 0)) := by
  have hexec : exec (.thermalTrip c) s = .next (if 115 ≤ c ∧ !(s.sensorShown c).flag F.THERM_STATUS.TRIP
      then ((s.sensorShown c).setFlag F.THERM_STATUS.TRIP true).emit (.pin .thermTripN 0) else s.sensorShown c) := rfl
  refine ⟨_, hexec, ?_⟩
  rw [sensorShown_trip]
  by_cases h : 115 ≤ c ∧ (!s.flag F.THERM_STATUS.TRIP) = true
  · rw [if_pos h]
    refine ⟨?_, ?_, ?_, fun _ _ => ⟨[.pin .thermTripN 0], rfl, List.mem_singleton_self _⟩⟩
    · exact (get_setFlag_other _ F.THERM_STATUS.TRIP F.THERM_STATUS.HUB_C true 0 0 0 0 (by decide)).trans (sensorShown_hub s c)
    · exact (congrArg (· == 1) (get_setFlag_other _ F.THERM_STATUS.TRIP F.THERM_STATUS.HOT true 0 0 0 0 (by decide))).trans (sensorShown_hot s c)
    · rw [decide_eq_true h.1, Bool.or_true]
      exact flag_setFlag_same (s.sensorShown c) F.THERM_STATUS.TRIP true 0 0 rfl
  · rw [if_neg h]
    refine ⟨sensorShown_hub s c, sensorShown_hot s c, ?_, fun hc ht => absurd ⟨hc, by rw [ht]; rfl⟩ h⟩
    rw [sensorShown_trip]
    cases ht : s.flag F.THERM_STATUS.TRIP
    · simpa [ht] using h
    · rfl

/-- Settles O16: one lemma for each row, and for PATTERN_LOAD and a bad read-back one for each way that it goes. What follows a row's own writes, on tasks, drives and the link, leaves the fields it
reports in. -/
theorem storeCommitsAndPatternLoad : Obligations.StoreCommitsAndPatternLoad := by
  refine ⟨fun r s hr ht => ⟨storeCommitDone_good hr ht, fun hf _ => storeCommitDone_bad hr hf, storeCommitDone_bad_again hr ht⟩, ?_, ?_, ?_, ?_, ?_, thermalTrip_shows⟩
  · exact fun s => storeCommitCoalesced_commits
  · exact fun s => liveRecordsEffect_replaces
  · exact fun r b s => pwrfailAssert_stops b
  · exact fun s => pwrfailDeassert_commits
  · exact fun chk s hp hb hf => ⟨patternLoad_factoryFails hp hb hf, patternLoad_factory hp hb hf, fun e => patternLoad_rejects hp hb hf⟩

end Sys2Proof.Machine
end

section
/-!
PROOFS. O11 (03_flume_delivery.md, R82): the bytes of a Flume header.
-/
namespace Sys2Proof.Machine

theorem length_leBytes (w n : Nat) : (leBytes w n).length = w := by
  induction w generalizing n with
  | zero => rfl
  | succ w ih => simp [leBytes, ih]

theorem leNat_leBytes (w n : Nat) : leNat (leBytes w n) = n % 256 ^ w := by
  induction w generalizing n with
  | zero => simp [leBytes, leNat, Nat.mod_one]
  | succ w ih =>
    rw [leBytes, leNat, ih, BitVec.toNat_ofNat, Nat.pow_succ' (m := 256), Nat.mod_mul]

@[simp] theorem length_beBytes (w n : Nat) : (beBytes w n).length = w := by
  rw [beBytes, List.length_reverse, length_leBytes]

theorem beNat_beBytes (w n : Nat) : beNat (beBytes w n) = n % 256 ^ w := by
  rw [beNat, beBytes, List.reverse_reverse, leNat_leBytes]

/-- The field at the front of a byte string. -/
theorem beAt_beBytes_append (w n : Nat) (bs : List Byte) : beAt (beBytes w n ++ bs) 0 w = n % 256 ^ w := by
  rw [beAt, sliceOf, List.drop_zero, List.take_left' (length_beBytes w n), beNat_beBytes]

/-- A field behind the first one. -/
theorem beAt_append_of_le (w n off size : Nat) (bs : List Byte) (h : w ≤ off) : beAt (beBytes w n ++ bs) off size = beAt bs (off - w) size := by
  rw [beAt, beAt, sliceOf, sliceOf, List.drop_append, length_beBytes, List.drop_eq_nil_of_le (by rw [length_beBytes]; exact h), List.nil_append]

/-- A header with every field cut to its size. -/
def FlumeHdr.cut (h : FlumeHdr) : FlumeHdr :=
  { version := h.version % 256 ^ 1, opcode := h.opcode % 256 ^ 1, flags := h.flags % 256 ^ 2, srcPeer := h.srcPeer % 256 ^ 4, dstPeer := h.dstPeer % 256 ^ 4,
    epoch := h.epoch % 256 ^ 2, attempt := h.attempt % 256 ^ 1, extUnits := h.extUnits % 256 ^ 1, msgId := h.msgId % 256 ^ 6, pktIndex := h.pktIndex % 256 ^ 2,
    msgLen := h.msgLen % 256 ^ 4, payloadLen := h.payloadLen % 256 ^ 2, path := h.path % 256 ^ 1, sizeCode := h.sizeCode % 256 ^ 1, offset := h.offset % 256 ^ 4,
    window := h.window % 256 ^ 4, winOffset := h.winOffset % 256 ^ 8, aux := h.aux % 256 ^ 4, rsvd := h.rsvd % 256 ^ 4, txCookie := h.txCookie % 256 ^ 8 }

theorem length_flumeHdr_bytes (h : FlumeHdr) : h.bytes.length = 64 := by
  simp only [FlumeHdr.bytes, List.length_append, length_beBytes]

/-- The bytes of a header give its fields back, each cut to its size, whatever follows. -/
theorem ofBytes_bytes_append (h : FlumeHdr) (rest : List Byte) : FlumeHdr.ofBytes (h.bytes ++ rest) = h.cut := by
  simp only [FlumeHdr.ofBytes, FlumeHdr.bytes, FlumeHdr.cut, List.append_assoc, beAt_beBytes_append, beAt_append_of_le, Nat.reduceLeDiff, Nat.reduceSub, Nat.le_refl]

theorem cut_of_fits (h : FlumeHdr) (hf : h.fits = true) : h.cut = h := by
  simp only [FlumeHdr.fits, Bool.and_eq_true, decide_eq_true_eq, and_assoc] at hf
  obtain ⟨h1, h2, h3, h4, h5, h6, h7, h8, h9, h10, h11, h12, h13, h14, h15, h16, h17, h18, h19, h20⟩ := hf
  simp only [FlumeHdr.cut, Nat.reducePow] at *
  simp only [Nat.mod_eq_of_lt, *]

/-- Settles O11: the fields are read off one after the other, and cutting a field that fits its size changes nothing. -/
theorem flumeHeaderRoundTrip : Obligations.FlumeHeaderRoundTrip := fun h rest hf =>
  ⟨length_flumeHdr_bytes h, (ofBytes_bytes_append h rest).trans (cut_of_fits h hf)⟩

end Sys2Proof.Machine
end

section
/-!
PROOFS. What packets that arrive and messages that end rest on (03_flume_delivery.md): outputs, packets sent by a controller that serves alone, the sender's messages by their numbers.
-/
namespace Sys2Proof.Machine

/-! ## Frames and outputs -/

section
variable {p : Bool} {A : Nat} {s t u v : State} {o : Out}

/-- A part outside those that may change is the same. -/
theorem Keeps.part (h : Keeps p A s t) (c : Part) (hc : A &&& c.bit ≠ c.bit) : c.same s t := (h.frame c).resolve_left hc

/-- Nothing that happens before or after takes an output back. -/
theorem emitted_mono (h : Emitted t u o) (hs : ∃ l, t.out = l ++ s.out) (hv : ∃ l, v.out = l ++ u.out) : Emitted s v o := by
  obtain ⟨l, hl, ho⟩ := h
  obtain ⟨l1, h1⟩ := hs
  obtain ⟨l2, h2⟩ := hv
  exact ⟨l2 ++ l ++ l1, by rw [h2, hl, h1, List.append_assoc, List.append_assoc], by simp [ho]⟩

theorem sendsFlume_mono {op peer msgId : Nat} (h : SendsFlume t u op peer msgId) (hs : ∃ l, t.out = l ++ s.out) (hv : ∃ l, v.out = l ++ u.out) : SendsFlume s v op peer msgId := by
  obtain ⟨lp, cls, a, b, sp, up, ttl, nonce, bytes, ho, hfields⟩ := h
  exact ⟨lp, cls, a, b, sp, up, ttl, nonce, bytes, emitted_mono ho hs hv, hfields⟩

end

/-- The state after an effect in a step, with STEP as it was before. -/
def State.closeStep (t : State) (n : Nat) : State := { t with dev := { t.dev with curStep := n } }

theorem inStep_eq (s : State) (f : State → State) : s.inStep f = (f (atStep s)).closeStep s.dev.curStep := rfl

/-! ## Flows -/

/-- An entry of a list put in the place of those with its key is the one found under that key. -/
theorem find?_map_replace {α : Type} (key : α → Nat) (y : α) (l : List α) (h : ∃ x ∈ l, key x = key y) :
    (l.map (fun x => if key x = key y then y else x)).find? (fun x => key x == key y) = some y := by
  induction l with
  | nil => simp at h
  | cons a l ih =>
    by_cases ha : key a = key y
    · simp [ha]
    · obtain ⟨x, hx, hxy⟩ := h
      have hmem : x ∈ l := (List.mem_cons.mp hx).resolve_left (fun e => ha (e ▸ hxy))
      simpa [ha] using ih ⟨x, hmem, hxy⟩

section
variable {s : State} {peer : Nat} {f g : Flow}

theorem flow?_peer (h : s.flow? peer = some f) : f.peer = peer := by
  simpa using List.find?_some h

theorem flow?_setFlow (h : s.flow? peer = some f) (hg : g.peer = peer) : (s.setFlow g).flow? peer = some g := by
  subst hg
  exact find?_map_replace (·.peer) g s.fx.flows ⟨f, List.mem_of_find?_eq_some h, flow?_peer h⟩

end

/-! ## Packets of a controller that serves alone -/

section
variable {s : State} {peer : Nat}

theorem canSend_setFlow (h : CanSend s peer) {g : Flow} (hg : g.peer = peer) (hip : g.localIp.isSome = true) : CanSend (s.setFlow g) peer := by
  obtain ⟨hrole, hstop, hpeer, hkey, hctl, hhold, f, hf, -⟩ := h
  exact ⟨hrole, hstop, hpeer, hkey, hctl, hhold, g, flow?_setFlow hf hg, hip⟩

theorem canSend_cookieUsed (h : CanSend s peer) : CanSend s.cookieUsed peer := h

theorem canSend_putFilter (h : CanSend s peer) (hd : FlumeHdr) : CanSend (s.putFilter hd) peer := h

/-- A packet that has come from a peer of the flow cache leaves the way to it open (R589). -/
theorem canSend_answerFlow (h : CanSend s peer) (dg : Datagram) : CanSend (s.answerFlow dg peer).1 peer := by
  obtain ⟨-, -, -, -, -, -, f, hf, hip⟩ := id h
  have hpeer : f.peer = peer := flow?_peer hf
  have h1 : CanSend (s.setFlow { f with lastUseNs := s.dev.timeNs }) peer := canSend_setFlow h hpeer hip
  have hf1 : (s.setFlow { f with lastUseNs := s.dev.timeNs }).flow? peer = some { f with lastUseNs := s.dev.timeNs } := flow?_setFlow hf hpeer
  have h2 := canSend_setFlow h1 (g := { f with lastUseNs := s.dev.timeNs, ip := dg.srcIp, localIp := some dg.dstIp, lport := dg.lport }) hpeer rfl
  simpa only [State.answerFlow, State.enterFlow, hf, hf1] using h2

/-- A controller that serves alone performs what the numbering side forms at once (R319, R320). -/
theorem perform_alone (hrole : s.role = roleAlone) (hstop : s.wsw.stopped = false) (acks : Bool) (o : Out) : Emitted s (s.perform .numbering acks o) o := by
  have hissues : s.issues .numbering = true := by simp [State.issues, State.numbers, hrole]
  have hheld : (acks && s.role == roleLeader && decide (s.wsw.ackSeq + 1 < s.wsw.txSeq)) = false := by simp [hrole, roleAlone, roleLeader]
  have hemit : Emitted s (s.emit o) o := ⟨[o], rfl, List.mem_singleton_self _⟩
  have hegress : ∀ lport cls len, ∃ l, ((s.emit o).ownEgress lport cls len).out = l ++ (s.emit o).out := fun lport cls len =>
    (keeps_State_ownEgress lport cls len rfl (Keeps.refl false 33554431 (s.emit o))).out
  unfold State.perform State.release
  simp only [hissues, hheld, hstop, if_true, Bool.false_and, if_false, Bool.false_eq_true]
  split
  · exact emitted_mono hemit ⟨[], rfl⟩ (hegress _ _ _)
  · exact emitted_mono hemit ⟨[], rfl⟩ (hegress _ _ _)
  · exact hemit

theorem fold_role (s : State) (kind key : Nat) (value : List Byte) : (s.fold kind key value).role = s.role := by
  unfold State.fold
  split <;> rfl

theorem fold_stopped (s : State) (kind key : Nat) (value : List Byte) : (s.fold kind key value).wsw.stopped = s.wsw.stopped := by
  unfold State.fold
  split
  · dsimp only
    split <;> rfl
  · rfl

/-- The header of a packet as it is sealed (R82, R142). -/
def State.sealedHdr (s : State) (k : EpochKey) (h : FlumeHdr) (es : List FlumeExt) (payload : List Byte) : FlumeHdr :=
  { h with version := 1, srcPeer := s.localPeer, epoch := k.epoch, extUnits := (extBytes es).length / 8, payloadLen := payload.length, rsvd := 0 }

/-- The fold record of a packet, which a probe has none of (R330). -/
def State.foldPacket (s : State) (h : FlumeHdr) (payload : List Byte) : State :=
  if h.opcode = opProbe then s
  else s.fold 1 h.dstPeer (beBytes 6 h.msgId ++ beBytes 2 h.pktIndex ++ beBytes 1 h.opcode ++ beBytes 1 h.attempt ++ beBytes 4 (crc32c payload))

theorem foldPacket_same (s : State) (h : FlumeHdr) (payload : List Byte) :
    (s.foldPacket h payload).role = s.role ∧ (s.foldPacket h payload).wsw.stopped = s.wsw.stopped ∧ (s.foldPacket h payload).out = s.out := by
  unfold State.foldPacket
  split
  · exact ⟨rfl, rfl, rfl⟩
  · exact ⟨fold_role _ _ _ _, fold_stopped _ _ _ _, fold_out _ _ _ _⟩

theorem sendFlume_eq {h : FlumeHdr} {f : Flow} {k : EpochKey} {lip : IpAddr} (hf : s.flow? h.dstPeer = some f) (hk : s.currentEpoch = some k) (hlip : f.localIp = some lip)
    (hpeer : s.hasPeer = true) (side : OutSide) (acks : Bool) (cls : Nat) (es : List FlumeExt) (payload : List Byte) :
    s.sendFlume side acks cls h es payload =
      ((s.foldPacket h payload).perform side acks (.flume f.lport cls lip f.ip (srcPortOf h.path f.salt) (s.foldPacket h payload).udpPort 255 (gcmNonce (s.sealedHdr k h es payload))
        ((s.sealedHdr k h es payload).bytes ++ extBytes es ++ payload))).count 3 0 1 := by
  unfold State.sendFlume
  simp only [hf, hk, hlip, hpeer, if_true]
  rfl

/-- A packet that can be formed leaves, and its bytes give its header back (R80, R82). -/
theorem sendFlume_sends {h : FlumeHdr} (hs : CanSend s h.dstPeer) (hop : h.opcode < 256) (hdst : h.dstPeer < 256 ^ 4) (hmsg : h.msgId < 256 ^ 6) (acks : Bool) (cls : Nat)
    (es : List FlumeExt) (payload : List Byte) : SendsFlume s (s.sendFlume .numbering acks cls h es payload) h.opcode h.dstPeer h.msgId := by
  obtain ⟨hrole, hstop, hpeer, hkey, -, -, f, hf, hip⟩ := hs
  obtain ⟨k, hk⟩ := Option.isSome_iff_exists.mp hkey
  obtain ⟨lip, hlip⟩ := Option.isSome_iff_exists.mp hip
  obtain ⟨hrole', hstop', hout⟩ := foldPacket_same s h payload
  rw [sendFlume_eq hf hk hlip hpeer]
  refine ⟨_, _, _, _, _, _, _, _, _, emitted_mono (perform_alone (hrole'.trans hrole) (hstop'.trans hstop) acks _) ⟨[], hout⟩
    (keeps_State_count 3 0 1 1 rfl (Keeps.refl false 33554431 _)).out, ?_⟩
  rw [List.append_assoc, ofBytes_bytes_append]
  exact ⟨Nat.mod_eq_of_lt hop, Nat.mod_eq_of_lt hdst, Nat.mod_eq_of_lt hmsg⟩

/-- A control packet for which the quantum is open goes at once (R141). -/
theorem sendCtl_sends {c : CtlPkt} (hs : CanSend s c.peer) (hop : c.opcode < 256) (hdst : c.peer < 256 ^ 4) (hmsg : c.msgId < 256 ^ 6) :
    SendsFlume s (s.sendCtl c) c.opcode c.peer c.msgId := by
  obtain ⟨-, -, -, -, hctl, hhold, f, hf, hip⟩ := id hs
  have hpick : CanSend ((s.setFlow (f.after f.pick)).cookieUsed) c.peer := canSend_cookieUsed (canSend_setFlow hs (flow?_peer (f := f) hf) hip)
  unfold State.sendCtl State.formCtl
  simp only [hctl, hhold, hf, List.any_nil, Nat.not_lt_zero, decide_false, Bool.or_false, Bool.false_eq_true, if_false]
  exact sendsFlume_mono (sendFlume_sends (h := { hdr0 with
    opcode := c.opcode, flags := flagsOf false false c.complete false true, dstPeer := c.peer, msgId := c.msgId, pktIndex := controlSerial s.nowUs, path := f.pick, aux := c.aux,
    txCookie := (s.setFlow (f.after f.pick)).cookie }) hpick hop hdst hmsg true c.cls _ _) ⟨[], rfl⟩ ⟨[], rfl⟩

end

/-! ## Datagrams that pass (R92) -/

theorem leNat_lt (bs : List Byte) : leNat bs < 256 ^ bs.length := by
  induction bs with
  | nil => simp [leNat]
  | cons b bs ih =>
    have hb := b.isLt
    rw [leNat, List.length_cons, Nat.pow_succ']
    omega

theorem beAt_lt (bs : List Byte) (off size : Nat) : beAt bs off size < 256 ^ size := by
  refine (leNat_lt _).trans_le (Nat.pow_le_pow_right (by decide) ?_)
  rw [List.length_reverse, sliceOf, List.length_take]
  exact Nat.min_le_left _ _

theorem front_pass_hdr {s u : State} {dg : Datagram} {h : FlumeHdr} {es : List FlumeExt} {payload : List Byte} (hp : s.front dg = .pass u h es payload) :
    h = FlumeHdr.ofBytes dg.payload := by
  unfold State.front at hp
  dsimp only at hp
  (repeat' split at hp) <;> cases hp <;> rfl

section
variable {s u : State} {dg : Datagram} {op : Nat} {h : FlumeHdr} {es : List FlumeExt} {payload : List Byte}

theorem arrives_front (ha : Arrives s dg op u h es payload) : (atStep s).front dg = .pass u h es payload := ha.1

theorem arrives_srcPeer_lt (ha : Arrives s dg op u h es payload) : h.srcPeer < 256 ^ 4 := by
  rw [front_pass_hdr ha.1]
  exact beAt_lt ..

theorem arrives_msgId_lt (ha : Arrives s dg op u h es payload) : h.msgId < 256 ^ 6 := by
  rw [front_pass_hdr ha.1]
  exact beAt_lt ..

/-- The front of R92 writes no memory and takes no output back. -/
theorem arrives_keeps (ha : Arrives s dg op u h es payload) : Keeps false 25232355 (atStep s) u :=
  (keeps_State_front dg rfl (Keeps.refl ..)).2 u h es payload ha.1

theorem arrives_out (ha : Arrives s dg op u h es payload) : ∃ l, u.out = l ++ s.out := (arrives_keeps ha).out

theorem arrives_mem (ha : Arrives s dg op u h es payload) : u.mem = s.mem := (arrives_keeps ha).part .mem (by decide)

end

/-! ## The messages of the sender -/

/-- The sender holds messages of the same numbers in the same order, the next number is not lower, and no more is to be told to its units. -/
structure SameMsgs (s t : State) : Prop where
  keys : t.flm.msgs.map Msg.key = s.flm.msgs.map Msg.key
  order : s.flm.orderCtr ≤ t.flm.orderCtr
  reports : t.fx.reports = s.fx.reports

section
variable {s t u : State} {k : Nat}

theorem SameMsgs.refl (s : State) : SameMsgs s s := ⟨rfl, le_rfl, rfl⟩

theorem SameMsgs.trans (h : SameMsgs s t) (h' : SameMsgs t u) : SameMsgs s u :=
  ⟨h'.keys.trans h.keys, h.order.trans h'.order, h'.reports.trans h.reports⟩

theorem sameMsgs_of_eq (hflm : t.flm = s.flm) (hfx : t.fx = s.fx) : SameMsgs s t := ⟨by rw [hflm], by rw [hflm], by rw [hfx]⟩

theorem msg?_eq_none : s.msg? k = none ↔ k ∉ s.flm.msgs.map Msg.key := by
  simp [State.msg?]

theorem SameMsgs.msg?_none (h : SameMsgs s t) (hs : s.msg? k = none) : t.msg? k = none := by
  rw [msg?_eq_none] at hs ⊢
  rwa [h.keys]

end

theorem sameMsgs_setMsg (s : State) (m : Msg) : SameMsgs s (s.setMsg m) := by
  refine ⟨?_, le_rfl, rfl⟩
  rw [State.setMsg, List.map_map]
  refine List.map_congr_left (fun x _ => ?_)
  by_cases hx : x.key = m.key <;> simp [hx]

theorem msg?_key {s : State} {k : Nat} {m : Msg} (h : s.msg? k = some m) : m.key = k := by
  simpa using List.find?_some h

theorem msg?_setMsg {s : State} {m x : Msg} (h : s.msg? m.key = some x) : (s.setMsg m).msg? m.key = some m :=
  find?_map_replace Msg.key m s.flm.msgs ⟨x, List.mem_of_find?_eq_some h, msg?_key h⟩

theorem sameMsgs_setFlow (s : State) (f : Flow) : SameMsgs s (s.setFlow f) := ⟨rfl, le_rfl, rfl⟩

theorem sameMsgs_sendFlume (s : State) (side : OutSide) (acks : Bool) (cls : Nat) (h : FlumeHdr) (es : List FlumeExt) (payload : List Byte) :
    SameMsgs s (s.sendFlume side acks cls h es payload) := by
  have hk := keeps_State_sendFlume side acks cls h es payload rfl (Keeps.refl false 8454691 s)
  exact sameMsgs_of_eq (hk.part .flm (by decide)) (hk.part .fx (by decide))

theorem sameMsgs_transmit (s : State) (m : Msg) (i attempt path : Nat) (solicit : Bool) : SameMsgs s (s.transmit m i attempt path solicit) := by
  unfold State.transmit
  extract_lets ck h0 h es old p s1 s2 flm s3
  have h1 : SameMsgs s s1 := SameMsgs.trans (t := s.cookieUsed) ⟨rfl, le_rfl, rfl⟩ (sameMsgs_sendFlume ..)
  have h2 : SameMsgs s1 s2 := by
    unfold s2
    split
    · exact sameMsgs_of_eq (count_flm ..) (count_fx ..)
    · exact .refl _
  have h3 : SameMsgs s2 s3 := ⟨rfl, Nat.le_succ _, rfl⟩
  exact ((h1.trans h2).trans h3).trans (sameMsgs_setMsg _ _)

theorem sameMsgs_pauseMsg (s : State) (m : Msg) : SameMsgs s (s.pauseMsg m) := by
  unfold State.pauseMsg
  refine (sameMsgs_setMsg s { m with faulted := true }).trans ?_
  extract_lets s1
  split
  · dsimp only
    split
    · exact SameMsgs.trans (t := s1.setWq _ _) ⟨rfl, le_rfl, rfl⟩ (sameMsgs_of_eq (raise_flm ..) (raise_fx ..))
    · exact .refl _
  · exact .refl _

theorem sameMsgs_activate (s : State) (m : Msg) : SameMsgs s (s.activate m).1 := by
  unfold State.activate
  split
  · exact SameMsgs.trans (t := { s with flm := { s.flm with msgCtr := (s.flm.msgCtr + 1) % 2 ^ 48 } }) ⟨rfl, le_rfl, rfl⟩ (sameMsgs_setMsg _ _)
  · exact .refl _

theorem sameMsgs_pumpN (n dst : Nat) (s : State) : SameMsgs s (State.pumpN n dst s) := by
  induction n generalizing s with
  | zero => exact .refl s
  | succ n ih =>
    unfold State.pumpN
    split
    · exact .refl s
    · split
      · rename_i f m _ _
        split
        · exact .refl s
        · split
          · exact (sameMsgs_pauseMsg s m).trans (ih _)
          · split
            · have hact := sameMsgs_activate s m
              generalize s.activate m = x at hact ⊢
              exact ((hact.trans (sameMsgs_setFlow x.1 _)).trans (sameMsgs_transmit ..)).trans (ih _)
            · exact .refl s
      · exact .refl s

theorem sameMsgs_pump (s : State) (dst : Nat) : SameMsgs s (s.pump dst) := sameMsgs_pumpN _ _ s

/-! ## The end of a message of a work queue (R107, R135) -/

section
variable {s : State} {wq idx : Nat} {d : SendDesc} {m : Msg}

/-- A completion entry of a queue that is not closed goes to its ring. -/
theorem post_emits (hopen : (s.wq wq).st ≠ .closed) (e : CqEntry) : ∃ ix ph, Emitted s (s.post wq e) (.completion ix ph { e with wq := wq }) := by
  refine ⟨(s.wq wq).cqTail % 2 ^ (s.wq wq).ctx.cqLog2, (s.wq wq).cqTail / 2 ^ (s.wq wq).ctx.cqLog2 % 2 == 0, [_], ?_, List.mem_singleton_self _⟩
  unfold State.post
  rw [if_neg hopen]
  rfl

theorem sameMsgs_post (s : State) (n : Nat) (e : CqEntry) : SameMsgs s (s.post n e) := by
  unfold State.post
  extract_lets w size phase
  split
  · exact .refl s
  · exact ⟨rfl, le_rfl, rfl⟩

theorem chainAdd_eq (s : State) (i : Nat) : ∃ v, s.chainAdd i = s.setChain i v := by
  unfold State.chainAdd State.chainFault
  generalize chainFaultBit = n
  split
  · exact ⟨_, rfl⟩
  · exact ⟨_, rfl⟩

/-- What the INC of a descriptor does to its chain counter (R133). -/
def State.incChain (s : State) (d : SendDesc) (st : DescStatus) : State :=
  if d.inc then (if st = .success then s.chainAdd d.counter else s.chainFault d.counter) else s

theorem incChain_eq (s : State) (d : SendDesc) (st : DescStatus) : s.incChain d st = s ∨ ∃ v, s.incChain d st = s.setChain d.counter v := by
  unfold State.incChain
  split
  · split
    · exact .inr (chainAdd_eq s d.counter)
    · exact .inr ⟨_, rfl⟩
  · exact .inl rfl

theorem incChain_same (s : State) (d : SendDesc) (st : DescStatus) :
    (s.incChain d st).flm = s.flm ∧ (s.incChain d st).out = s.out ∧ (s.incChain d st).fx.reports = s.fx.reports := by
  obtain h | ⟨v, h⟩ := incChain_eq s d st <;> rw [h] <;> exact ⟨rfl, rfl, rfl⟩

theorem completeDesc_eq (hsignal : d.signal = true) (st : DescStatus) (reason len id : Nat) :
    s.completeDesc wq idx d st reason len id = (s.incChain d st).post wq ⟨d.user, len, idx, st.code, reason, d.dstPeer, wq, d.op, id⟩ := by
  unfold State.completeDesc
  simp only [hsignal, Bool.true_or, if_true]
  rfl

theorem sameMsgs_completeDesc (s : State) (wq idx : Nat) (d : SendDesc) (st : DescStatus) (reason len id : Nat) :
    SameMsgs s (s.completeDesc wq idx d st reason len id) := by
  obtain ⟨hflm, -, hfx⟩ := incChain_same s d st
  have h : SameMsgs s (s.incChain d st) := ⟨by rw [hflm], by rw [hflm], hfx⟩
  unfold State.completeDesc
  change SameMsgs s (if _ then (s.incChain d st).post wq _ else s.incChain d st)
  split
  · exact h.trans (sameMsgs_post ..)
  · exact h

/-- A descriptor that asks for it has its completion entry posted to its queue. -/
theorem completeDesc_emits (hsignal : d.signal = true) (hopen : (s.wq wq).st ≠ .closed) (st : DescStatus) (reason len id : Nat) :
    ∃ ix ph, Emitted s (s.completeDesc wq idx d st reason len id) (.completion ix ph ⟨d.user, len, idx, st.code, reason, d.dstPeer, wq, d.op, id⟩) := by
  obtain ⟨hflm, hout, -⟩ := incChain_same s d st
  have hopen' : ((s.incChain d st).wq wq).st ≠ .closed := by
    unfold State.wq
    rwa [hflm]
  obtain ⟨ix, ph, h⟩ := post_emits hopen' ⟨d.user, len, idx, st.code, reason, d.dstPeer, wq, d.op, id⟩
  rw [completeDesc_eq hsignal]
  exact ⟨ix, ph, emitted_mono h ⟨[], hout⟩ ⟨[], rfl⟩⟩

/-- The sender without a message. -/
def State.dropMsg (s : State) (m : Msg) : State := { s with flm := { s.flm with msgs := s.flm.msgs.filter (fun x => x.key != m.key) } }

/-- What a message has in flight no longer counts at its destination. -/
def State.freeFlight (s : State) (m : Msg) : State :=
  match s.flow? m.dst with
  | some f => s.setFlow { f with inflight := f.inflight - m.inFlight }
  | none => s

theorem freeFlight_same (s : State) (m : Msg) : (s.freeFlight m).flm = s.flm ∧ (s.freeFlight m).out = s.out ∧ (s.freeFlight m).fx.reports = s.fx.reports := by
  unfold State.freeFlight
  split <;> exact ⟨rfl, rfl, rfl⟩

theorem retireTag_same (s : State) (tag : Option Nat) :
    (∃ tags, (s.retireTag tag).flm = { s.flm with rdTags := tags }) ∧ (s.retireTag tag).out = s.out ∧ (s.retireTag tag).fx.reports = s.fx.reports := by
  cases tag with
  | none => exact ⟨⟨s.flm.rdTags, rfl⟩, rfl, rfl⟩
  | some i => exact ⟨⟨_, rfl⟩, rfl, rfl⟩

/-- A message leaves: its destination's flow and its read tag are free of it. -/
def State.forgetMsg (s : State) (m : Msg) : State := ((s.dropMsg m).freeFlight m).retireTag m.tag

/-- Once a message has left, its unit is told: the queue of its descriptor, or by a report. -/
def State.tellEnd (s : State) (m : Msg) (st : DescStatus) (reason : Nat) : State :=
  match m.use, m.desc with
  | .desc wq idx, some d =>
    let len := if st = .success then m.len else m.moved
    let s := s.completeDesc wq idx d st reason len m.id
    let w := s.wq wq
    if w.pausedMsg = some m.key then
      s.setWq wq { w with pausedMsg := none, st := if w.st = .paused then .open_ else w.st }
    else s
  | _, _ =>
    let data := match m.src with | .bytes b => if m.opcode = opRead then b else [] | .segs _ => []
    { s with fx := { s.fx with reports := s.fx.reports ++ [(⟨m.use, st, reason, data⟩ : MsgReport)] } }

theorem finishMsg_eq (s : State) (m : Msg) (st : DescStatus) (reason : Nat) :
    s.finishMsg m st reason = (if st = .success then ((s.forgetMsg m).tellEnd m st reason).count 3 0 4 else (s.forgetMsg m).tellEnd m st reason).pump m.dst := rfl

theorem forgetMsg_same (s : State) (m : Msg) :
    (∃ tags, (s.forgetMsg m).flm = { s.flm with msgs := s.flm.msgs.filter (fun x => x.key != m.key), rdTags := tags }) ∧ (s.forgetMsg m).out = s.out ∧
      (s.forgetMsg m).fx.reports = s.fx.reports := by
  obtain ⟨hflm, hout, hrep⟩ := freeFlight_same (s.dropMsg m) m
  obtain ⟨⟨tags, hflm'⟩, hout', hrep'⟩ := retireTag_same ((s.dropMsg m).freeFlight m) m.tag
  refine ⟨⟨tags, ?_⟩, hout'.trans hout, hrep'.trans hrep⟩
  rw [State.forgetMsg, hflm', hflm]
  rfl

theorem msg?_forgetMsg (s : State) (m : Msg) : (s.forgetMsg m).msg? m.key = none := by
  obtain ⟨⟨tags, h⟩, -, -⟩ := forgetMsg_same s m
  rw [msg?_eq_none, h]
  simp

theorem tellEnd_queue (huse : m.use = .desc wq idx) (hdesc : m.desc = some d) (hsignal : d.signal = true) (hopen : (s.wq wq).st ≠ .closed) (st : DescStatus) (reason : Nat) :
    SameMsgs s (s.tellEnd m st reason) ∧ ∃ ix ph, Emitted s (s.tellEnd m st reason)
      (.completion ix ph ⟨d.user, if st = .success then m.len else m.moved, idx, st.code, reason, d.dstPeer, wq, d.op, m.id⟩) := by
  unfold State.tellEnd
  simp only [huse, hdesc]
  generalize (if st = .success then m.len else m.moved) = len
  have hsame := sameMsgs_completeDesc s wq idx d st reason len m.id
  obtain ⟨ix, ph, hout⟩ := completeDesc_emits (idx := idx) hsignal hopen st reason len m.id
  split
  · exact ⟨hsame.trans ⟨rfl, le_rfl, rfl⟩, ix, ph, emitted_mono hout ⟨[], rfl⟩ ⟨[], rfl⟩⟩
  · exact ⟨hsame, ix, ph, hout⟩

/-- A message of a work queue leaves the sender with its completion entry, and nothing is left to be told to another unit. -/
theorem finishMsg_queue (hm : OfQueue s m wq idx d) (st : DescStatus) (reason : Nat) :
    (s.finishMsg m st reason).msg? m.key = none ∧ (s.finishMsg m st reason).fx.reports = [] ∧ ∃ ix ph, Emitted s (s.finishMsg m st reason)
      (.completion ix ph ⟨d.user, if st = .success then m.len else m.moved, idx, st.code, reason, d.dstPeer, wq, d.op, m.id⟩) := by
  obtain ⟨huse, hdesc, hsignal, hopen, hreports, -⟩ := hm
  obtain ⟨⟨tags, hflm⟩, hout, hrep⟩ := forgetMsg_same s m
  have hopen' : ((s.forgetMsg m).wq wq).st ≠ .closed := by
    unfold State.wq
    rwa [hflm]
  obtain ⟨htell, ix, ph, hemit⟩ := tellEnd_queue huse hdesc hsignal hopen' st reason
  have hkeep := keeps_ite (c := st = .success) (keeps_State_count 3 0 4 1 rfl (Keeps.refl false 33554431 ((s.forgetMsg m).tellEnd m st reason))) (.refl ..)
  have hcount : SameMsgs ((s.forgetMsg m).tellEnd m st reason)
      (if st = .success then ((s.forgetMsg m).tellEnd m st reason).count 3 0 4 else (s.forgetMsg m).tellEnd m st reason) := by
    split
    · exact sameMsgs_of_eq (count_flm ..) (count_fx ..)
    · exact .refl _
  have hall := (htell.trans hcount).trans (sameMsgs_pump _ m.dst)
  rw [finishMsg_eq]
  exact ⟨hall.msg?_none (msg?_forgetMsg s m), hall.reports.trans (hrep.trans hreports), ix, ph, emitted_mono hemit ⟨[], hout⟩ (keeps_State_pump m.dst rfl hkeep).out⟩

theorem settleReports_of_nil (h : s.fx.reports = []) : s.settleReports = s := by
  unfold State.settleReports
  simp [h]

end

end Sys2Proof.Machine
end

section
/-!
PROOFS. O18 (03_flume_delivery.md): READ and its answer filter, PROBE, READ_RESP.
-/
namespace Sys2Proof.Machine

section
variable {s u : State} {dg : Datagram} {h : FlumeHdr} {es : List FlumeExt} {payload : List Byte}

/-! ## READ (R123, R124) -/

/-- The conditions of orders 6 to 8 of R92 for a READ whose answers no takeover holds up. -/
def ReadOk (u : State) (h : FlumeHdr) (es : List FlumeExt) : Prop :=
  h.resp = false ∧ u.pwr.hostBusy = false ∧ u.wsw.readDropNs ≤ u.dev.timeNs ∧ u.outcome? h.srcPeer h.msgId = none ∧
    (h.payloadLen = 0 ∧ h.pktIndex = 0 ∧ h.offset = 0 ∧ h.msgLen ≤ 16777216) ∧ badSize h es = false

/-- What READ_RX does from order 9 of R92 on. -/
def State.readFrom9 (u : State) (dg : Datagram) (h : FlumeHdr) (es : List FlumeExt) (spans : List (Option (List (Nat × Nat)))) (cls : Nat) : State :=
  let old := u.filter? h.srcPeer h.msgId
  if (match old with | some f => decide (h.attempt ≤ f.attempt) | none => false) then u.bump F.FLM_DUP.COUNT
  else if old.isNone ∧ filterLimit ≤ u.flm.filter.length then u.bump F.FLM_READ_DEFER.COUNT
  else
    match (u.putFilter h).winCheck h with
    | some r => (u.putFilter h).nack dg h r
    | none => State.answerRead cls h (sackOf es) spans 0 ((u.putFilter h).answerFlow dg h.srcPeer).1

theorem exec_readRx_of_ok (ha : Arrives s dg opRead u h es payload) (hok : ReadOk u h es) (spans : List (Option (List (Nat × Nat)))) :
    exec (.readRx dg spans) s = .next ((u.readFrom9 dg h es spans ((atStep s).clsOf dg)).closeStep s.dev.curStep) := by
  obtain ⟨hfront, hop⟩ := ha
  obtain ⟨hresp, hbusy, hdrop, hout, ⟨hlen, hidx, hoff, hmsg⟩, hsize⟩ := hok
  change execReadRx dg spans s = _
  unfold execReadRx
  rw [inStep_eq]
  change (atStep s).front dg = _ at hfront
  simp only [hfront, hop, hresp, hbusy, hout, hlen, hidx, hoff, hsize, Nat.not_lt.mpr hdrop, Nat.not_lt.mpr hmsg, if_true, if_false, ne_eq, not_true, or_false, Bool.false_eq_true]
  rfl

/-- READ_RX writes no memory: it is not among the parts it may change. -/
theorem readRx_mem {t : State} {spans : List (Option (List (Nat × Nat)))} (hexec : exec (.readRx dg spans) s = .next t) : t.mem = s.mem :=
  ((keeps_execReadRx dg spans rfl (Keeps.refl false 25232355 s)).out hexec).part .mem (by decide)

theorem filter?_putFilter (u : State) (h : FlumeHdr) :
    (u.putFilter h).filter? h.srcPeer h.msgId = some ⟨h.srcPeer, h.msgId, h.attempt, u.nowUs + u.lmaxUs⟩ := by
  unfold State.filter? State.putFilter
  rw [List.find?_append, List.find?_eq_none.mpr fun x hx => by simpa [imp_iff_not_or] using (List.mem_filter.mp hx).2]
  simp

theorem sendFlume_flm (s : State) (side : OutSide) (acks : Bool) (cls : Nat) (h : FlumeHdr) (es : List FlumeExt) (payload : List Byte) :
    (s.sendFlume side acks cls h es payload).flm = s.flm :=
  (keeps_State_sendFlume side acks cls h es payload rfl (Keeps.refl false 8454691 s)).part .flm (by decide)

/-- A READ of one packet is answered by that packet (R123). -/
theorem answerRead_one {t : State} (hs : CanSend t h.srcPeer) (hsrc : h.srcPeer < 256 ^ 4) (hmsg : h.msgId < 256 ^ 6) (hcount : pktCount h.msgLen h.sizeCode = 1) (cls : Nat)
    (sp : List (Nat × Nat)) : SendsFlume t (State.answerRead cls h none [some sp] 0 t) opReadResp h.srcPeer h.msgId ∧ (State.answerRead cls h none [some sp] 0 t).flm.filter = t.flm.filter := by
  obtain ⟨-, -, -, -, -, -, f, hf, hip⟩ := id hs
  have hgo := canSend_cookieUsed (canSend_setFlow hs (g := f.after f.pick) (flow?_peer (f := f) hf) hip)
  have hop : opReadResp < 256 := by decide
  simp only [State.answerRead, hcount, hf, Nat.not_le.mpr Nat.zero_lt_one, if_false, Bool.false_eq_true]
  refine ⟨sendsFlume_mono (sendFlume_sends (h := { hdr0 with
    opcode := opReadResp, flags := flagsOf false false false false true, dstPeer := h.srcPeer, attempt := h.attempt, msgId := h.msgId, pktIndex := 0, msgLen := h.msgLen, path := f.pick,
    sizeCode := h.sizeCode, offset := 0 * pktSize h.sizeCode, window := h.window, winOffset := h.winOffset, aux := h.aux, txCookie := t.cookie })
    hgo hop hsrc hmsg false cls [] _) ⟨[], rfl⟩ ⟨[], rfl⟩, ?_⟩
  rw [sendFlume_flm]
  rfl

/-- A fresh READ of one packet is answered, and its attempt stands in the filter. -/
theorem readRx_answers (ha : Arrives s dg opRead u h es payload) (hok : ReadOk u h es) (hnew : u.filter? h.srcPeer h.msgId = none) (hroom : u.flm.filter.length < filterLimit)
    (hwin : u.winCheck h = none) (hcount : pktCount h.msgLen h.sizeCode = 1) (hsack : sackOf es = none) (hsend : CanSend u h.srcPeer) (sp : List (Nat × Nat)) :
    ∃ t, exec (.readRx dg [some sp]) s = .next t ∧ SendsFlume s t opReadResp h.srcPeer h.msgId ∧
      t.filter? h.srcPeer h.msgId = some ⟨h.srcPeer, h.msgId, h.attempt, u.nowUs + u.lmaxUs⟩ ∧ t.mem = s.mem := by
  have hexec := exec_readRx_of_ok ha hok [some sp]
  have hwin' : (u.putFilter h).winCheck h = none := hwin
  have hgo : CanSend ((u.putFilter h).answerFlow dg h.srcPeer).1 h.srcPeer := canSend_answerFlow (canSend_putFilter hsend h) dg
  have hflow := (keeps_State_answerFlow dg h.srcPeer rfl (Keeps.refl false 25166115 (u.putFilter h))).fst
  obtain ⟨l, hl⟩ := arrives_out ha
  obtain ⟨l', hl'⟩ := hflow.out
  obtain ⟨hanswer, hfilter⟩ := answerRead_one hgo (arrives_srcPeer_lt ha) (arrives_msgId_lt ha) hcount ((atStep s).clsOf dg) sp
  simp only [State.readFrom9, hnew, hwin', hsack, Option.isNone_none, Nat.not_le.mpr hroom, if_false, and_false, Bool.false_eq_true] at hexec
  refine ⟨_, hexec, sendsFlume_mono hanswer ⟨l' ++ l, by rw [hl', List.append_assoc, ← hl]; rfl⟩ ⟨[], rfl⟩, ?_, readRx_mem hexec⟩
  rw [← filter?_putFilter]
  exact congrArg (List.find? (fun f : RdFilter => f.peer == h.srcPeer && f.msgId == h.msgId)) (hfilter.trans (congrArg Flm.filter (hflow.part .flm (by decide))))

/-- A READ whose attempt the filter holds already is counted as a duplicate, and nothing answers it. -/
theorem readRx_dup (ha : Arrives s dg opRead u h es payload) (hok : ReadOk u h es) {f : RdFilter} (hold : u.filter? h.srcPeer h.msgId = some f) (hatt : h.attempt ≤ f.attempt)
    (spans : List (Option (List (Nat × Nat)))) :
    ∃ t, exec (.readRx dg spans) s = .next t ∧ t.get F.FLM_DUP.COUNT = satIncr32 (u.get F.FLM_DUP.COUNT) % 2 ^ 32 ∧ t.out = u.out ∧ t.mem = s.mem := by
  have hexec := exec_readRx_of_ok ha hok spans
  simp only [State.readFrom9, hold, hatt, decide_true, if_true] at hexec
  exact ⟨_, hexec, get_bump_same u F.FLM_DUP.COUNT 0 0, rfl, readRx_mem hexec⟩

/-! ## READ_FILTER_EXPIRY (R124) -/

/-- What is looked for is found in a filtered list too, where the filter keeps all of it. -/
theorem find?_filter_of_imp {α : Type} {p q : α → Bool} {l : List α} (h : ∀ x, q x = true → p x = true) : (l.filter p).find? q = l.find? q := by
  refine List.find?_filter.trans (List.find?_congr fun x _ => ?_)
  cases hq : q x
  · simp
  · simp [h x hq]

/-- An entry of the answer filter that has expired goes, and no other. -/
theorem readFilterExpiry_removes {peer msgId : Nat} (hdue : ∀ f ∈ s.flm.filter, f.peer = peer → f.msgId = msgId → f.expiryUs ≤ s.nowUs) :
    ∃ t, exec (.readFilterExpiry peer msgId) s = .next t ∧ t.filter? peer msgId = none ∧ ∀ q n, ¬ (q = peer ∧ n = msgId) → t.filter? q n = s.filter? q n := by
  refine ⟨_, rfl, ?_, ?_⟩
  · refine List.find?_eq_none.mpr fun f hf hkey => ?_
    obtain ⟨hmem, hstay⟩ := List.mem_filter.mp hf
    obtain ⟨hp, hm⟩ : f.peer = peer ∧ f.msgId = msgId := by simpa using hkey
    have hexp := hdue f hmem hp hm
    have hnow : (atStep s).nowUs = s.nowUs := rfl
    change (!(f.peer == peer && f.msgId == msgId && decide (f.expiryUs ≤ (atStep s).nowUs))) = true at hstay
    simp [hp, hm, hnow, hexp] at hstay
  · intro q n hother
    refine find?_filter_of_imp fun f hkey => ?_
    obtain ⟨hp, hm⟩ : f.peer = q ∧ f.msgId = n := by simpa using hkey
    have hne : (f.peer == peer && f.msgId == msgId) = false := by
      subst hp hm
      simpa using hother
    simp only [hne, Bool.false_and, Bool.not_false]

/-! ## PROBE (R106) -/

/-- A PROBE is answered by an ACK. -/
theorem probeRx_answers (ha : Arrives s dg opProbe u h es payload) (hresp : h.resp = false) (hout : u.outcome? h.srcPeer h.msgId = none) (hlen : h.msgLen = 0)
    (hpay : h.payloadLen = 0) (hsize : badSize h es = false) (hsend : CanSend u h.srcPeer) :
    ∃ t, exec (.probeRx dg) s = .next t ∧ SendsFlume s t opAck h.srcPeer h.msgId := by
  have hfront := arrives_front ha
  have hop : h.opcode = opProbe := ha.2
  obtain ⟨l, hl⟩ := arrives_out ha
  obtain ⟨l', hl'⟩ := (keeps_State_answerFlow dg h.srcPeer rfl (Keeps.refl false 25166115 u)).fst.out
  have hgo := canSend_answerFlow hsend dg
  refine ⟨((u.answerFlow dg h.srcPeer).1.sendCtl ⟨h.srcPeer, h.msgId, opAck, false, 0, 0, some (1, 1, 0), some (h.txCookie, (u.answerFlow dg h.srcPeer).1.dev.timeNs),
    (u.answerFlow dg h.srcPeer).1.clsOf dg⟩).closeStep s.dev.curStep, ?_, ?_⟩
  · change execProbeRx dg s = _
    unfold execProbeRx
    rw [inStep_eq]
    simp only [hfront, hop, hresp, hout, hlen, hpay, hsize, if_true, if_false, ne_eq, not_true, or_false, Bool.false_eq_true]
  · have hack : opAck < 256 := by decide
    exact sendsFlume_mono (sendCtl_sends (c := ⟨h.srcPeer, h.msgId, opAck, false, 0, 0, some (1, 1, 0), some (h.txCookie, (u.answerFlow dg h.srcPeer).1.dev.timeNs),
      (u.answerFlow dg h.srcPeer).1.clsOf dg⟩) hgo hack (arrives_srcPeer_lt ha) (arrives_msgId_lt ha))
      ⟨l' ++ l, by rw [hl', hl, List.append_assoc]⟩ ⟨[], rfl⟩

/-! ## READ_RESP (R129) -/

theorem exec_readRespRx (s : State) (dg : Datagram) (place : Option (List (Nat × Nat))) :
    exec (.readRespRx dg place) s = .next ((rxReadResp dg place (atStep s)).settleReports.closeStep s.dev.curStep) := rfl

theorem rxReadResp_of_none (ha : Arrives s dg opReadResp u h es payload) (hresp : h.resp = true) (place : Option (List (Nat × Nat))) (hread : u.readOf h = none) :
    rxReadResp dg place (atStep s) = u.lateResp := by
  have hop : h.opcode = opReadResp := ha.2
  unfold rxReadResp
  simp only [arrives_front ha, hop, hresp, hread, if_true, Bool.not_true, if_false, Bool.false_eq_true]

theorem rxReadResp_of_some {m : Msg} (ha : Arrives s dg opReadResp u h es payload) (hresp : h.resp = true) (place : Option (List (Nat × Nat))) (hread : u.readOf h = some m) :
    rxReadResp dg place (atStep s) = u.takeResp m h payload place := by
  have hop : h.opcode = opReadResp := ha.2
  unfold rxReadResp
  simp only [arrives_front ha, hop, hresp, hread, if_true, Bool.not_true, if_false, Bool.false_eq_true]

/-- A READ_RESP that no outstanding READ waits for is counted and places nothing. -/
theorem readRespRx_late (ha : Arrives s dg opReadResp u h es payload) (hresp : h.resp = true) (hnone : u.readOf h = none) (hrep : u.fx.reports = [])
    (place : Option (List (Nat × Nat))) :
    ∃ t, exec (.readRespRx dg place) s = .next t ∧ t.get F.FLM_LATE_RESP.COUNT = satIncr32 (u.get F.FLM_LATE_RESP.COUNT) % 2 ^ 32 ∧ t.mem = s.mem := by
  have hsettle : u.lateResp.settleReports = u.lateResp := settleReports_of_nil (by simp [State.lateResp, hrep])
  have hexec := exec_readRespRx s dg place
  rw [rxReadResp_of_none ha hresp place hnone, hsettle] at hexec
  refine ⟨_, hexec, ?_, ?_⟩
  · exact (get_raiseLimited _ _ _ _ _ (by decide)).trans (get_bump_same u F.FLM_LATE_RESP.COUNT 0 0)
  · exact (raiseLimited_mem (u.bump F.FLM_LATE_RESP.COUNT) _).trans ((bump_mem u _ _ _).trans (arrives_mem ha))

/-- The READ a response answers is a message of the sender. -/
theorem msg?_of_readOf {m : Msg} (hread : u.readOf h = some m) : u.msg? m.key = some m := by
  unfold State.readOf at hread
  dsimp only at hread
  split at hread
  · cases hread
  · split at hread
    · cases hread
    · split at hread
      · cases hread
      · rename_i key _ x hx
        split at hread
        · cases hread
          rwa [msg?_key hx]
        · cases hread

/-- A READ that has its one packet. -/
def Msg.gotOnly (m : Msg) : Msg := { m with got := [0], faulted := false }

/-- The data of a READ of a work queue is placed, and its path has been heard. -/
def State.placeResp (u : State) (m : Msg) (sp : List (Nat × Nat)) (payload : List Byte) : State :=
  let v := (u.writeSpans sp 0 payload).setMsg m.gotOnly
  match v.flow? m.dst with
  | some f => v.setFlow (f.pathHeard ((m.pkt? 0).map (·.path) |>.getD 0))
  | none => v

theorem sameMsgs_writeSpans (u : State) (sp : List (Nat × Nat)) (payload : List Byte) : SameMsgs u (u.writeSpans sp 0 payload) := by
  have hk := keeps_State_writeSpans sp 0 payload rfl (Keeps.refl false 7340032 u)
  exact sameMsgs_of_eq (hk.part .flm (by decide)) (hk.part .fx (by decide))

/-- The only packet of a READ of a work queue ends it. -/
theorem takeResp_one {m : Msg} {wq idx : Nat} (hread : u.readOf h = some m) (huse : m.use = .desc wq idx) (hcount : pktCount m.len m.sizeCode = 1) (hgot : m.got = [])
    (hidx : h.pktIndex = 0) (hoff : h.offset = 0) (hlen : h.payloadLen = m.len) (sp : List (Nat × Nat)) :
    u.takeResp m h payload (some sp) = (u.placeResp m sp payload).finishMsg m.gotOnly .success 0 := by
  have hflm : (u.writeSpans sp 0 payload).flm = u.flm := (keeps_State_writeSpans sp 0 payload rfl (Keeps.refl false 7340032 u)).part .flm (by decide)
  have hmsg : (u.writeSpans sp 0 payload).msg? m.key = some m := by
    unfold State.msg?
    rw [hflm]
    exact msg?_of_readOf hread
  have hset : ((u.writeSpans sp 0 payload).setMsg m.gotOnly).msg? m.key = some m.gotOnly := msg?_setMsg (m := m.gotOnly) hmsg
  have hpay : pktPayload m.len m.sizeCode 0 = m.len := by simp [pktPayload, hcount]
  have hgood : ¬ (pktCount m.len m.sizeCode ≤ h.pktIndex ∨ h.offset ≠ h.pktIndex * pktSize m.sizeCode ∨ h.payloadLen ≠ pktPayload m.len m.sizeCode h.pktIndex) := by
    simp [hcount, hidx, hoff, hlen, hpay]
  have hnew : ¬ m.got.contains h.pktIndex = true := by simp [hgot]
  have honly : ({ m with got := insertNat h.pktIndex m.got, faulted := false } : Msg) = m.gotOnly := by
    rw [hidx, hgot]
    rfl
  have huse' : m.gotOnly.use = .desc wq idx := huse
  have hdone : m.gotOnly.got.length = pktCount m.gotOnly.len m.gotOnly.sizeCode := hcount.symm
  unfold State.takeResp
  rw [if_neg hgood, if_neg hnew]
  split
  · contradiction
  · rw [honly]
    simp only [huse']
    rw [show m.gotOnly.key = m.key from rfl, hset, Option.getD_some, if_pos hdone]
    rfl

theorem sameMsgs_placeResp (u : State) (m : Msg) (sp : List (Nat × Nat)) (payload : List Byte) : SameMsgs u (u.placeResp m sp payload) := by
  have h := (sameMsgs_writeSpans u sp payload).trans (sameMsgs_setMsg _ m.gotOnly)
  unfold State.placeResp
  dsimp only
  split
  · exact h.trans (sameMsgs_setFlow _ _)
  · exact h

theorem wq_placeResp (u : State) (m : Msg) (sp : List (Nat × Nat)) (payload : List Byte) (n : Nat) : (u.placeResp m sp payload).wq n = u.wq n := by
  have hflm : (u.writeSpans sp 0 payload).flm = u.flm := (keeps_State_writeSpans sp 0 payload rfl (Keeps.refl false 7340032 u)).part .flm (by decide)
  have hset : ((u.writeSpans sp 0 payload).setMsg m.gotOnly).wq n = u.wq n := by
    change sparseGet _ n (u.writeSpans sp 0 payload).flm.wqs = _
    rw [hflm]
    rfl
  unfold State.placeResp
  dsimp only
  split
  · exact hset
  · exact hset

theorem out_placeResp (u : State) (m : Msg) (sp : List (Nat × Nat)) (payload : List Byte) : (u.placeResp m sp payload).out = u.out := by
  have hset : ((u.writeSpans sp 0 payload).setMsg m.gotOnly).out = u.out := (keeps_State_writeSpans sp 0 payload rfl (Keeps.refl false 7340032 u)).part .out (by decide)
  unfold State.placeResp
  dsimp only
  split
  · exact hset
  · exact hset

/-- The READ keeps its place in the work queue while its data is placed. -/
theorem ofQueue_placeResp {m : Msg} {wq idx : Nat} {d : SendDesc} (hm : OfQueue u m wq idx d) (sp : List (Nat × Nat)) (payload : List Byte) :
    OfQueue (u.placeResp m sp payload) m.gotOnly wq idx d := by
  obtain ⟨huse, hdesc, hsignal, hopen, hreports, hfresh⟩ := hm
  have hsame := sameMsgs_placeResp u m sp payload
  refine ⟨huse, hdesc, hsignal, by rwa [wq_placeResp], hsame.reports.trans hreports, fun x hx => ?_⟩
  have hkey : x.key ∈ u.flm.msgs.map Msg.key := hsame.keys ▸ List.mem_map_of_mem hx
  obtain ⟨y, hy, hxy⟩ := List.mem_map.mp hkey
  exact hxy ▸ (hfresh y hy).trans_le hsame.order

/-- A READ_RESP with the only packet of a READ of a work queue ends the READ with its completion entry. -/
theorem readRespRx_ends {m : Msg} {wq idx : Nat} {d : SendDesc} (ha : Arrives s dg opReadResp u h es payload) (hresp : h.resp = true) (hread : u.readOf h = some m)
    (hm : OfQueue u m wq idx d) (hcount : pktCount m.len m.sizeCode = 1) (hgot : m.got = []) (hidx : h.pktIndex = 0) (hoff : h.offset = 0) (hlen : h.payloadLen = m.len)
    (sp : List (Nat × Nat)) :
    ∃ t ix ph, exec (.readRespRx dg (some sp)) s = .next t ∧ t.msg? m.key = none ∧
      Emitted s t (.completion ix ph ⟨d.user, m.len, idx, DescStatus.success.code, 0, d.dstPeer, wq, d.op, m.id⟩) := by
  have hexec := exec_readRespRx s dg (some sp)
  obtain ⟨hgone, hrep, ix, ph, hemit⟩ := finishMsg_queue (ofQueue_placeResp hm sp payload) .success 0
  obtain ⟨l, hl⟩ := arrives_out ha
  rw [rxReadResp_of_some ha hresp (some sp) hread, takeResp_one hread hm.1 hcount hgot hidx hoff hlen, settleReports_of_nil hrep] at hexec
  refine ⟨_, ix, ph, hexec, hgone, emitted_mono hemit ⟨l, ?_⟩ ⟨[], rfl⟩⟩
  rw [out_placeResp, hl]

end

/-- Settles O18: each kind of packet by what the front of R92 lets through, with one packet sent, one counted, or one message ended. -/
theorem flumeReadsAndProbes : Obligations.FlumeReadsAndProbes := by
  unfold Obligations.FlumeReadsAndProbes
  refine ⟨?_, ?_, ?_, ?_, ?_, ?_⟩
  · intro dg sp h es payload s u ha hresp hbusy hdrop hout hlen hidx hoff hmax hsize hnew hroom hwin hcount hsack hsend
    exact readRx_answers ha ⟨hresp, hbusy, hdrop, hout, ⟨hlen, hidx, hoff, hmax⟩, hsize⟩ hnew hroom hwin hcount hsack hsend sp
  · intro dg spans f h es payload s u ha hresp hbusy hdrop hout hlen hidx hoff hmax hsize hold hatt
    exact readRx_dup ha ⟨hresp, hbusy, hdrop, hout, ⟨hlen, hidx, hoff, hmax⟩, hsize⟩ hold hatt spans
  · exact fun peer msgId s hdue => readFilterExpiry_removes hdue
  · intro dg h es payload s u ha hresp hout hlen hpay hsize hsend
    exact probeRx_answers ha hresp hout hlen hpay hsize hsend
  · intro dg sp m wq idx d h es payload s u ha hresp hread hm hcount hgot hidx hoff hlen
    exact readRespRx_ends ha hresp hread hm hcount hgot hidx hoff hlen sp
  · intro dg place h es payload s u ha hresp hnone hrep
    exact readRespRx_late ha hresp hnone hrep place

end Sys2Proof.Machine
end

section
/-!
PROOFS. O10 (03_flume_delivery.md): no command but SNAPSHOT_RX gives the sender a message whose number is not below the next one. A lemma for each operation that changes the part Flume, and
for each that does not, that it leaves that part as it is.
-/
namespace Sys2Proof.Machine

/-! ## Fresh numbers -/

/-- Every message of the sender bears a number below the next one (KeysFresh, of the part Flume). -/
@[irreducible] def FlmFresh (f : Flm) : Prop := ∀ m ∈ f.msgs, m.key < f.orderCtr

theorem flmFresh_iff {f : Flm} : FlmFresh f ↔ ∀ m ∈ f.msgs, m.key < f.orderCtr := by
  unfold FlmFresh
  exact Iff.rfl

theorem flmFresh_iff_keysFresh {s : State} : FlmFresh s.flm ↔ KeysFresh s := flmFresh_iff

theorem flmFresh_mk_iff (f : Flm) (a1 a2 a4 a5 a6 a8 a9 a10 a11 a12 a13 a14 a15 a16) :
    FlmFresh ⟨a1, a2, f.msgs, a4, a5, a6, f.orderCtr, a8, a9, a10, a11, a12, a13, a14, a15, a16⟩ ↔ FlmFresh f := by
  rw [flmFresh_iff, flmFresh_iff]

section
variable {f : Flm} {m : Msg}

theorem flmFresh_mk {a1 a2 a4 a5 a6 a8 a9 a10 a11 a12 a13 a14 a15 a16} (hf : FlmFresh f) :
    FlmFresh ⟨a1, a2, f.msgs, a4, a5, a6, f.orderCtr, a8, a9, a10, a11, a12, a13, a14, a15, a16⟩ := (flmFresh_mk_iff ..).mpr hf

theorem fresh_mk {a1 a2 a3 a4 a5 a6 a7 a9 a10 a11 a12 a13 a14 a15 a16 a17 a18 a19 a20 a21 a22 a23 a24 a25 a26} (hf : FlmFresh f) :
    FlmFresh (State.mk a1 a2 a3 a4 a5 a6 a7 f a9 a10 a11 a12 a13 a14 a15 a16 a17 a18 a19 a20 a21 a22 a23 a24 a25 a26).flm := hf

theorem flmFresh_filter (p : Msg → Bool) (hf : FlmFresh f) {a1 a2 a4 a5 a6 a8 a9 a10 a11 a12 a13 a14 a15 a16} :
    FlmFresh ⟨a1, a2, f.msgs.filter p, a4, a5, a6, f.orderCtr, a8, a9, a10, a11, a12, a13, a14, a15, a16⟩ := by
  rw [flmFresh_iff] at hf ⊢
  exact fun x hx => hf x (List.mem_filter.mp hx).1

theorem flmFresh_append (hf : FlmFresh f) (hm : m.key = f.orderCtr) {a1 a2 a4 a5 a6 a8 a9 a10 a11 a12 a13 a14 a15 a16} :
    FlmFresh ⟨a1, a2, f.msgs ++ [m], a4, a5, a6, f.orderCtr + 1, a8, a9, a10, a11, a12, a13, a14, a15, a16⟩ := by
  rw [flmFresh_iff] at hf ⊢
  intro x hx
  obtain hx | rfl : x ∈ f.msgs ∨ x = m := by simpa using hx
  · exact (hf x hx).trans (Nat.lt_succ_self _)
  · exact hm ▸ Nat.lt_succ_self _

theorem flmFresh_map {g : Msg → Msg} (hg : ∀ x, (g x).key = x.key) (hf : FlmFresh f) {a1 a2 a4 a5 a6 a8 a9 a10 a11 a12 a13 a14 a15 a16} :
    FlmFresh ⟨a1, a2, f.msgs.map g, a4, a5, a6, f.orderCtr, a8, a9, a10, a11, a12, a13, a14, a15, a16⟩ := by
  rw [flmFresh_iff] at hf ⊢
  intro x hx
  obtain ⟨y, hy, rfl⟩ := List.mem_map.mp hx
  exact (hg y).symm ▸ hf y hy

end

section
variable {α : Type} {s t : State} {c : Prop} [Decidable c]

theorem fresh_of_sameMsgs (h : SameMsgs s t) (hs : FlmFresh s.flm) : FlmFresh t.flm := by
  rw [flmFresh_iff] at hs ⊢
  intro x hx
  have hkey : x.key ∈ s.flm.msgs.map Msg.key := h.keys ▸ List.mem_map_of_mem hx
  obtain ⟨y, hy, hxy⟩ := List.mem_map.mp hkey
  exact hxy ▸ (hs y hy).trans_le h.order

theorem fresh_of_eq (h : t.flm = s.flm) (hs : FlmFresh s.flm) : FlmFresh t.flm := by
  rwa [h]

theorem fresh_ite (hs : FlmFresh s.flm) (ht : FlmFresh t.flm) : FlmFresh (if c then s else t).flm := by
  split <;> assumption

theorem fresh_cond {b : Bool} (hs : FlmFresh s.flm) (ht : FlmFresh t.flm) : FlmFresh (bif b then s else t).flm := by
  cases b <;> assumption

theorem fresh_foldl {f : State → α → State} (l : List α) (hf : ∀ t x, FlmFresh t.flm → FlmFresh (f t x).flm) (hs : FlmFresh s.flm) : FlmFresh (l.foldl f s).flm := by
  induction l generalizing s with
  | nil => exact hs
  | cons x l ih => exact ih (hf s x hs)

/-- Fresh numbers in what a row answers. -/
@[irreducible] def FreshR (r : Result) : Prop := ∀ t, r = .next t → FlmFresh t.flm

/-- Fresh numbers in the state of a pair. -/
def FreshP (x : State × α) : Prop := FlmFresh x.1.flm

theorem freshR_next (hs : FlmFresh s.flm) : FreshR (.next s) := by
  unfold FreshR
  rintro t ⟨⟩
  exact hs

/-- A row that does not change the part Flume. -/
theorem freshR_of_keeps {r : Result} (h : KeepsR true 33554303 s r) (hs : FlmFresh s.flm) : FreshR r := by
  unfold FreshR
  intro t ht
  exact fresh_of_eq ((h.out ht).part .flm (by decide)) hs

theorem FreshR.out {r : Result} (hr : FreshR r) (h : r = .next t) : FlmFresh t.flm := by
  unfold FreshR at hr
  exact hr t h

theorem freshP_iff {x : State × α} : FreshP x ↔ FlmFresh x.1.flm := Iff.rfl

theorem freshP_mk {x : α} (hs : FlmFresh s.flm) : FreshP (s, x) := hs

theorem FreshP.fst {x : State × α} (hx : FreshP x) : FlmFresh x.1.flm := hx

theorem FreshP.of_eq {a : α} {x : State × α} (e : x = (s, a)) (hx : FreshP x) : FlmFresh s.flm := by
  rw [e] at hx
  exact hx

theorem freshP_ite {a b : State × α} (ha : FreshP a) (hb : FreshP b) : FreshP (if c then a else b) := by
  split <;> assumption

end

/-! ## Operations that leave the part Flume as it is -/

@[simp] theorem linkAcked_flm (s : State) (ack : Nat) : (s.linkAcked ack).flm = s.flm := (keeps_State_linkAcked ack rfl (Keeps.refl false 8454691 s)).part .flm (by decide)

@[simp] theorem gateIslands_flm (s : State) (is : List Nat) : (s.gateIslands is).flm = s.flm := (keeps_State_gateIslands is rfl (Keeps.refl false 3 s)).part .flm (by decide)

@[simp] theorem drivesAwake_flm (s : State) : s.drivesAwake.flm = s.flm := (keeps_State_drivesAwake rfl (Keeps.refl false 8389667 s)).part .flm (by decide)

@[simp] theorem abortEntry_flm (s : State) : s.abortEntry.flm = s.flm := (keeps_State_abortEntry rfl (Keeps.refl false 8391715 s)).part .flm (by decide)

@[simp] theorem wakeSource_flm (s : State) : s.wakeSource.flm = s.flm := (keeps_State_wakeSource rfl (Keeps.refl false 8391715 s)).part .flm (by decide)

@[simp] theorem hostCommand_flm (s : State) : s.hostCommand.flm = s.flm := (keeps_State_hostCommand rfl (Keeps.refl false 8391715 s)).part .flm (by decide)

@[simp] theorem setExtent_flm (s : State) (map e : Nat) (x : ExtEnt) : (s.setExtent map e x).flm = s.flm :=
  (keeps_State_setExtent map e x rfl (Keeps.refl false 8192 s)).part .flm (by decide)

@[simp] theorem setGrp_flm (s : State) (g : Nat) (x : Grp) : (s.setGrp g x).flm = s.flm := (keeps_State_setGrp g x rfl (Keeps.refl false 16384 s)).part .flm (by decide)

@[simp] theorem dirtyLevel_flm (s : State) : s.dirtyLevel.flm = s.flm := (keeps_State_dirtyLevel rfl (Keeps.refl false 8396835 s)).part .flm (by decide)

@[simp] theorem stage_flm (s : State) (v : Ver) : (s.stage v).flm = s.flm := (keeps_State_stage v rfl (Keeps.refl false 8192 s)).part .flm (by decide)

@[simp] theorem dropDrv_flm (s : State) (c : DrvCmd) (held : Bool) : (s.dropDrv c held).flm = s.flm := (keeps_State_dropDrv c held rfl (Keeps.refl false 74752 s)).part .flm (by decide)

@[simp] theorem vaultChanged_flm (s : State) : s.vaultChanged.flm = s.flm := (keeps_State_vaultChanged rfl (Keeps.refl false 8388643 s)).part .flm (by decide)

@[simp] theorem recordLost_flm (s : State) (g st off blocks cause columns : Nat) : (s.recordLost g st off blocks cause columns).flm = s.flm :=
  (keeps_State_recordLost g st off blocks cause columns rfl (Keeps.refl false 8409123 s)).part .flm (by decide)

@[simp] theorem startBrand_flm (s : State) (g : Nat) : (s.startBrand g).flm = s.flm := (keeps_State_startBrand g rfl (Keeps.refl false 32597539 s)).part .flm (by decide)

@[simp] theorem failMember_flm (s : State) (g m : Nat) : (s.failMember g m).flm = s.flm := (keeps_State_failMember g m rfl (Keeps.refl false 32630307 s)).part .flm (by decide)

@[simp] theorem tallyWait_flm (s : State) (w : TallyWait) : (s.tallyWait w).flm = s.flm := (keeps_State_tallyWait w rfl (Keeps.refl false 8421411 s)).part .flm (by decide)

@[simp] theorem openEntry_flm (s : State) (kind g st off blocks member cls : Nat) (side : OutSide) (writes : List TallyWrite) : (s.openEntry kind g st off blocks member cls side writes).flm = s.flm :=
  (keeps_State_openEntry kind g st off blocks member cls side writes rfl (Keeps.refl false 32613923 s)).part .flm (by decide)

@[simp] theorem writeDone_flm (s : State) (id k : Nat) : (s.writeDone id k).flm = s.flm := (keeps_State_writeDone id k rfl (Keeps.refl false 32630307 s)).part .flm (by decide)

@[simp] theorem countRecon_flm (s : State) (gone : Nat) : (s.countRecon gone).flm = s.flm := (keeps_State_countRecon gone rfl (Keeps.refl false 1 s)).part .flm (by decide)

@[simp] theorem sweepAt_flm (s : State) (g st off blocks : Nat) (reads : List ColRead) : (s.sweepAt g st off blocks reads).flm = s.flm :=
  (keeps_State_sweepAt g st off blocks reads rfl (Keeps.refl false 32634403 s)).part .flm (by decide)

@[simp] theorem repairAt_flm (s : State) (g st off blocks : Nat) (patrol : Bool) (reads : List ColRead) : (s.repairAt g st off blocks patrol reads).flm = s.flm :=
  (keeps_State_repairAt g st off blocks patrol reads rfl (Keeps.refl false 32634403 s)).part .flm (by decide)

@[simp] theorem destage_flm (s : State) (g st : Nat) (reads : List ColRead) : (s.destage g st reads).flm = s.flm :=
  (keeps_State_destage g st reads rfl (Keeps.refl false 32634403 s)).part .flm (by decide)

@[simp] theorem setFlow_flm (s : State) (f : Flow) : (s.setFlow f).flm = s.flm := (keeps_State_setFlow f rfl (Keeps.refl false 256 s)).part .flm (by decide)

@[simp] theorem enterFlow_flm (s : State) (peer : Nat) (ip : IpAddr) (loc : Option (IpAddr × Nat)) : (s.enterFlow peer ip loc).1.flm = s.flm :=
  (keeps_State_enterFlow peer ip loc rfl (Keeps.refl false 25166115 s)).fst.part .flm (by decide)

@[simp] theorem answerFlow_flm (s : State) (dg : Datagram) (peer : Nat) : (s.answerFlow dg peer).1.flm = s.flm :=
  (keeps_State_answerFlow dg peer rfl (Keeps.refl false 25166115 s)).fst.part .flm (by decide)

@[simp] theorem writeSpans_flm (s : State) (l : List (Nat × Nat)) (off : Nat) (bs : List Byte) : (s.writeSpans l off bs).flm = s.flm :=
  (keeps_State_writeSpans l off bs rfl (Keeps.refl false 7340032 s)).part .flm (by decide)

@[simp] theorem pathTo_flm (s : State) (f : Flow) (p : Nat) (x : PathTx) : (s.pathTo f p x).flm = s.flm := (keeps_State_pathTo f p x rfl (Keeps.refl false 8388899 s)).part .flm (by decide)

@[simp] theorem pathLoss_flm (s : State) (peer p : Nat) : (s.pathLoss peer p).flm = s.flm := (keeps_State_pathLoss peer p rfl (Keeps.refl false 8388899 s)).part .flm (by decide)

@[simp] theorem setChain_flm (s : State) (i v : Nat) : (s.setChain i v).flm = s.flm := (keeps_State_setChain i v rfl (Keeps.refl false 256 s)).part .flm (by decide)

@[simp] theorem kvqIllegal_flm (s : State) (engine : Nat) : (s.kvqIllegal engine).flm = s.flm := (keeps_State_kvqIllegal engine rfl (Keeps.refl false 8388643 s)).part .flm (by decide)

@[simp] theorem setNq_flm (s : State) (q : NvmQueue) : (s.setNq q).flm = s.flm := (keeps_State_setNq q rfl (Keeps.refl false 4096 s)).part .flm (by decide)

@[simp] theorem setCtrl_flm (s : State) (c : NvmCtrl) : (s.setCtrl c).flm = s.flm := (keeps_State_setCtrl c rfl (Keeps.refl false 4096 s)).part .flm (by decide)

@[simp] theorem tcpSend_flm (s : State) (conn cls : Nat) (side : OutSide) (pdu : TcpOut) : (s.tcpSend conn cls side pdu).flm = s.flm :=
  (keeps_State_tcpSend conn cls side pdu rfl (Keeps.refl false 8458787 s)).part .flm (by decide)

@[simp] theorem logError_flm (s : State) (q : NvmQueue) (cid nsid : Nat) (st : NvmeStatus) : (s.logError q cid nsid st).flm = s.flm :=
  (keeps_State_logError q cid nsid st rfl (Keeps.refl false 4096 s)).part .flm (by decide)

@[simp] theorem countStatus_flm (s : State) (st : NvmeStatus) : (s.countStatus st).flm = s.flm := (keeps_State_countStatus st rfl (Keeps.refl false 8388643 s)).part .flm (by decide)

@[simp] theorem setCmd_flm (s : State) (c : Cmd) : (s.setCmd c).flm = s.flm := (keeps_State_setCmd c rfl (Keeps.refl false 4096 s)).part .flm (by decide)

@[simp] theorem dropCmd_flm (s : State) (c : Cmd) : (s.dropCmd c).flm = s.flm := (keeps_State_dropCmd c rfl (Keeps.refl false 78848 s)).part .flm (by decide)

@[simp] theorem handOver_flm (s : State) (c : Cmd) : (s.handOver c).flm = s.flm := (keeps_State_handOver c rfl (Keeps.refl false 25244707 s)).part .flm (by decide)

@[simp] theorem setResv_flm (s : State) (r : Resv) : (s.setResv r).flm = s.flm := (keeps_State_setResv r rfl (Keeps.refl false 8392739 s)).part .flm (by decide)

@[simp] theorem fwOpen_flm (s : State) (len : Nat) : (s.fwOpen len).flm = s.flm := (keeps_State_fwOpen len rfl (Keeps.refl false 524288 s)).part .flm (by decide)

@[simp] theorem fwProgram_flm (s : State) (data : List Byte) : (s.fwProgram data).flm = s.flm := (keeps_State_fwProgram data rfl (Keeps.refl false 524288 s)).part .flm (by decide)

@[simp] theorem fwVerify_flm (s : State) (chk : FwChecks) : (s.fwVerify chk).1.flm = s.flm := (keeps_State_fwVerify chk rfl (Keeps.refl false 8912931 s)).fst.part .flm (by decide)

@[simp] theorem issueRun_flm (s : State) (key idx : Nat) : (s.issueRun key idx).flm = s.flm := (keeps_State_issueRun key idx rfl (Keeps.refl false 32585251 s)).part .flm (by decide)

@[simp] theorem degradeRun_flm (s : State) (key idx : Nat) (failed : Bool) : (s.degradeRun key idx failed).flm = s.flm :=
  (keeps_State_degradeRun key idx failed rfl (Keeps.refl false 32585251 s)).part .flm (by decide)

@[simp] theorem writeHeldBlocks_flm (s : State) (c : Cmd) : (s.writeHeldBlocks c).flm = s.flm := (keeps_State_writeHeldBlocks c rfl (Keeps.refl false 8400931 s)).part .flm (by decide)

@[simp] theorem deallocBlock_flm (s : State) (sub : Nat) (n : NsEnt) (lba : Nat) : (s.deallocBlock sub n lba).flm = s.flm :=
  (keeps_State_deallocBlock sub n lba rfl (Keeps.refl false 8450083 s)).part .flm (by decide)

@[simp] theorem markMig_flm (s : State) (sub nsid lba : Nat) : (s.markMig sub nsid lba).flm = s.flm := (keeps_State_markMig sub nsid lba rfl (Keeps.refl false 32768 s)).part .flm (by decide)

@[simp] theorem setRole_flm (s : State) (r : Nat) : (s.setRole r).flm = s.flm := (keeps_State_setRole r rfl (Keeps.refl false 8388609 s)).part .flm (by decide)

@[simp] theorem detach_flm (s : State) : s.detach.flm = s.flm := (keeps_State_detach rfl (Keeps.refl false 8389155 s)).part .flm (by decide)

@[simp] theorem vaultDone_flm (s : State) (kind index copy : Nat) (ok : Bool) : (s.vaultDone kind index copy ok).flm = s.flm :=
  (keeps_State_vaultDone kind index copy ok rfl (Keeps.refl false 32613987 s)).part .flm (by decide)

@[simp] theorem reissue_flm (s : State) (c : DrvCmd) : (s.reissue c).flm = s.flm := (keeps_State_reissue c rfl (Keeps.refl false 32581155 s)).part .flm (by decide)

@[simp] theorem leftLowPower_flm (s : State) (n : Nat) : (s.leftLowPower n).flm = s.flm := (keeps_State_leftLowPower n rfl (Keeps.refl false 32580643 s)).part .flm (by decide)

@[simp] theorem brandFailed_flm (s : State) (g m : Nat) : (s.brandFailed g m).flm = s.flm := (keeps_State_brandFailed g m rfl (Keeps.refl false 32630307 s)).part .flm (by decide)

@[simp] theorem brandDone_flm (s : State) (g m copy part : Nat) : (s.brandDone g m copy part).flm = s.flm :=
  (keeps_State_brandDone g m copy part rfl (Keeps.refl false 32597539 s)).part .flm (by decide)

@[simp] theorem regone_flm (s : State) : s.regone.flm = s.flm := (keeps_State_regone rfl (Keeps.refl false 16384 s)).part .flm (by decide)

@[simp] theorem setReady_flm (s : State) (sideB : Bool) (n : Nat) (b : Bool) : (s.setReady sideB n b).flm = s.flm :=
  (keeps_State_setReady sideB n b rfl (Keeps.refl false 1024 s)).part .flm (by decide)

@[simp] theorem portUp_flm (s : State) (sideB : Bool) (n : Nat) : (s.portUp sideB n).flm = s.flm := (keeps_State_portUp sideB n rfl (Keeps.refl false 32597027 s)).part .flm (by decide)

@[simp] theorem timeoutEvent_flm (s : State) (n : Nat) : (s.timeoutEvent n).flm = s.flm := (keeps_State_timeoutEvent n rfl (Keeps.refl false 8388643 s)).part .flm (by decide)

@[simp] theorem adopt_flm (s : State) (b : Brand) (hashOk lstOk : Bool) : (s.adopt b hashOk lstOk).flm = s.flm :=
  (keeps_State_adopt b hashOk lstOk rfl (Keeps.refl false 8405027 s)).part .flm (by decide)

@[simp] theorem seat_flm (s : State) (sideB : Bool) (port g m : Nat) : (s.seat sideB port g m).flm = s.flm :=
  (keeps_State_seat sideB port g m rfl (Keeps.refl false 8406051 s)).part .flm (by decide)

@[simp] theorem tryForm_flm (s : State) (g : Nat) : (s.tryForm g).flm = s.flm := (keeps_State_tryForm g rfl (Keeps.refl false 32597539 s)).part .flm (by decide)

@[simp] theorem resetRegs_flm (s : State) (c : Cls) : (s.resetRegs c).flm = s.flm := (keeps_State_resetRegs c rfl (Keeps.refl false 1 s)).part .flm (by decide)

@[simp] theorem portAt_flm (s : State) (n st : Nat) : (s.portAt n st).flm = s.flm := (keeps_State_portAt n st rfl (Keeps.refl false 8388643 s)).part .flm (by decide)

@[simp] theorem stepped_flm (s : State) (n step : Nat) : (s.stepped n step).flm = s.flm := (keeps_State_stepped n step rfl (Keeps.refl false 1024 s)).part .flm (by decide)

@[simp] theorem dpEvent_flm (s : State) (n k : Nat) : (s.dpEvent n k).flm = s.flm := (keeps_State_dpEvent n k rfl (Keeps.refl false 8388643 s)).part .flm (by decide)

@[simp] theorem linkDown_flm (s : State) (n : Nat) : (s.linkDown n).flm = s.flm := (keeps_State_linkDown n rfl (Keeps.refl false 8388643 s)).part .flm (by decide)

@[simp] theorem aer_flm (s : State) (n bit : Nat) (hdr : List Nat) : (s.aer n bit hdr).flm = s.flm := (keeps_State_aer n bit hdr rfl (Keeps.refl false 1 s)).part .flm (by decide)

@[simp] theorem resvCmd_flm (s : State) (port op : Nat) (use : DrvUse) : (s.resvCmd port op use).flm = s.flm :=
  (keeps_State_resvCmd port op use rfl (Keeps.refl false 32581155 s)).part .flm (by decide)

@[simp] theorem portPowered_flm (s : State) (n : Nat) : (s.portPowered n).flm = s.flm := (keeps_State_portPowered n rfl (Keeps.refl false 8389667 s)).part .flm (by decide)

@[simp] theorem uncontain_flm (s : State) (n : Nat) : (s.uncontain n).flm = s.flm := (keeps_State_uncontain n rfl (Keeps.refl false 8389667 s)).part .flm (by decide)

@[simp] theorem cqDoorbell_flm (s : State) (n q : Nat) : (s.cqDoorbell n q).flm = s.flm := (keeps_State_cqDoorbell n q rfl (Keeps.refl false 8389632 s)).part .flm (by decide)

@[simp] theorem setPath_flm (s : State) (n : Nat) (p : SlotPath) : (s.setPath n p).flm = s.flm := (keeps_State_setPath n p rfl (Keeps.refl false 262144 s)).part .flm (by decide)

@[simp] theorem slotEvent_flm (s : State) (n k : Nat) : (s.slotEvent n k).flm = s.flm := (keeps_State_slotEvent n k rfl (Keeps.refl false 8388643 s)).part .flm (by decide)

@[simp] theorem slotSeen_flm (s : State) (sideB : Bool) (n : Nat) (present : Bool) (sense : Nat) : (State.slotSeen sideB n present sense s).flm = s.flm :=
  (keeps_State_slotSeen sideB n present sense rfl (Keeps.refl false 262145 s)).part .flm (by decide)

@[simp] theorem measured_flm (s : State) (n ma mv : Nat) : (s.measured n ma mv).flm = s.flm := (keeps_State_measured n ma mv rfl (Keeps.refl false 262144 s)).part .flm (by decide)

@[simp] theorem limitSupply_flm (s : State) (n : Nat) : (s.limitSupply n).flm = s.flm := (keeps_State_limitSupply n rfl (Keeps.refl false 8388643 s)).part .flm (by decide)

@[simp] theorem changeGates_flm (s : State) : s.changeGates.flm = s.flm := (keeps_State_changeGates rfl (Keeps.refl false 65536 s)).part .flm (by decide)

@[simp] theorem changeMeters_flm (s : State) (old : List Nat) : (s.changeMeters old).flm = s.flm := (keeps_State_changeMeters old rfl (Keeps.refl false 65536 s)).part .flm (by decide)

@[simp] theorem patWarns_flm (s : State) (codes : List Nat) : (s.patWarns codes).flm = s.flm := (keeps_State_patWarns codes rfl (Keeps.refl false 8388643 s)).part .flm (by decide)

@[simp] theorem ovlDiscarded_flm (s : State) (n : Nat) : (s.ovlDiscarded n).flm = s.flm := (keeps_State_ovlDiscarded n rfl (Keeps.refl false 8388707 s)).part .flm (by decide)

@[simp] theorem setBank_flm (s : State) (i : Nat) (b : Bank) : (s.setBank i b).flm = s.flm := (keeps_State_setBank i b rfl (Keeps.refl false 4 s)).part .flm (by decide)

@[simp] theorem showBank_flm (s : State) (cur : Option Nat) : (s.showBank cur).flm = s.flm := (keeps_State_showBank cur rfl (Keeps.refl false 1 s)).part .flm (by decide)

@[simp] theorem commitFails_flm (s : State) (result : Nat) : (s.commitFails result).flm = s.flm := (keeps_State_commitFails result rfl (Keeps.refl false 8388711 s)).part .flm (by decide)

@[simp] theorem showPending_flm (s : State) (rs : List PatRec) : (s.showPending rs).flm = s.flm := (keeps_State_showPending rs rfl (Keeps.refl false 1 s)).part .flm (by decide)

@[simp] theorem showSource_flm (s : State) (factoryOnly : Bool) : (s.showSource factoryOnly).flm = s.flm :=
  (keeps_State_showSource factoryOnly rfl (Keeps.refl false 1 s)).part .flm (by decide)

@[simp] theorem brandNs_flm (s : State) (g : Nat) : (s.brandNs g).flm = s.flm := (keeps_State_brandNs g rfl (Keeps.refl false 32597539 s)).part .flm (by decide)

@[simp] theorem warmStage_flm (s : State) : s.warmStage.flm = s.flm := (keeps_State_warmStage rfl (Keeps.refl false 8421923 s)).part .flm (by decide)

@[simp] theorem askWarm_flm (s : State) (bit : Nat) : (s.askWarm bit).flm = s.flm := (keeps_State_askWarm bit rfl (Keeps.refl false 8423975 s)).part .flm (by decide)

@[simp] theorem cause_flm (s : State) (f : Fld) : (s.cause f).flm = s.flm := (keeps_State_cause f rfl (Keeps.refl false 1 s)).part .flm (by decide)

@[simp] theorem bootStraps_flm (s : State) : s.bootStraps.flm = s.flm := (keeps_State_bootStraps rfl (Keeps.refl false 1 s)).part .flm (by decide)

@[simp] theorem bootSelfTest_flm (s : State) (failed : Nat) : (s.bootSelfTest failed).flm = s.flm := (keeps_State_bootSelfTest failed rfl (Keeps.refl false 9023075 s)).part .flm (by decide)

@[simp] theorem invalMap_flm (s : State) (map extent : Nat) (ent : ExtEnt) : (s.invalMap map extent ent).flm = s.flm :=
  (keeps_State_invalMap map extent ent rfl (Keeps.refl false 8193 s)).part .flm (by decide)

@[simp] theorem startRebuild_flm (s : State) (g : Nat) : (s.startRebuild g).flm = s.flm := (keeps_State_startRebuild g rfl (Keeps.refl false 8421411 s)).part .flm (by decide)

@[simp] theorem markAll_flm (s : State) : s.markAll.flm = s.flm := (keeps_State_markAll rfl (Keeps.refl false 8405027 s)).part .flm (by decide)

@[simp] theorem restage_flm (s : State) (e : SegBlock) : (s.restage e).flm = s.flm := (keeps_State_restage e rfl (Keeps.refl false 8450083 s)).part .flm (by decide)

@[simp] theorem resolve_flm (s : State) (t : TallyRec) (reads : List ColRead) : (s.resolve t reads).flm = s.flm :=
  (keeps_State_resolve t reads rfl (Keeps.refl false 32634403 s)).part .flm (by decide)

@[simp] theorem restoreControl_flm (s : State) (c : CtrlPart) : (s.restoreControl c).flm = s.flm := (keeps_State_restoreControl c rfl (Keeps.refl false 53248 s)).part .flm (by decide)

@[simp] theorem loseSegment_flm (s : State) (l : Nat × Nat × Nat) : (s.loseSegment l).flm = s.flm := (keeps_State_loseSegment l rfl (Keeps.refl false 36864 s)).part .flm (by decide)

@[simp] theorem ledgerCopied_flm (s : State) (section_ : Option (List Byte)) : (s.ledgerCopied section_).flm = s.flm :=
  (keeps_State_ledgerCopied section_ rfl (Keeps.refl false 24117249 s)).part .flm (by decide)

@[simp] theorem logDrop_flm (s : State) (dg : Datagram) : (s.logDrop dg).flm = s.flm := (keeps_State_logDrop dg rfl (Keeps.refl false 8388707 s)).part .flm (by decide)

@[simp] theorem putExpired_flm (s : State) (peer msgId : Nat) : (s.putExpired peer msgId).flm = s.flm :=
  (keeps_State_putExpired peer msgId rfl (Keeps.refl false 256 s)).part .flm (by decide)

@[simp] theorem lateResp_flm (s : State) : s.lateResp.flm = s.flm := (keeps_State_lateResp rfl (Keeps.refl false 8388643 s)).part .flm (by decide)

@[simp] theorem probeAnswered_flm (s : State) (peer p : Nat) : (s.probeAnswered peer p).flm = s.flm :=
  (keeps_State_probeAnswered peer p rfl (Keeps.refl false 8388899 s)).part .flm (by decide)

@[simp] theorem rebuildStripe_flm (s : State) (r : Rebuild) (st : Nat) (reads : List ColRead) : (s.rebuildStripe r st reads).flm = s.flm :=
  (keeps_State_rebuildStripe r st reads rfl (Keeps.refl false 32634403 s)).part .flm (by decide)

@[simp] theorem pauseRebuilds_flm (s : State) (on : Bool) : (s.pauseRebuilds on).flm = s.flm := (keeps_State_pauseRebuilds on rfl (Keeps.refl false 8421411 s)).part .flm (by decide)

@[simp] theorem setMig_flm (s : State) (m : Mig) : (s.setMig m).flm = s.flm := (keeps_State_setMig m rfl (Keeps.refl false 32768 s)).part .flm (by decide)

@[simp] theorem nextPass_flm (s : State) (m : Mig) : (s.nextPass m).flm = s.flm := (keeps_State_nextPass m rfl (Keeps.refl false 32768 s)).part .flm (by decide)

@[simp] theorem granuleReport_flm (s : State) (slot g : Nat) (ok : Bool) : (s.granuleReport slot g ok).flm = s.flm :=
  (keeps_State_granuleReport slot g ok rfl (Keeps.refl false 8421411 s)).part .flm (by decide)

@[simp] theorem lostHere_flm (s : State) (n : NsEnt) (lba : Nat) : (s.lostHere n lba).flm = s.flm := (keeps_State_lostHere n lba rfl (Keeps.refl false 8409123 s)).part .flm (by decide)

@[simp] theorem seeActive_flm (s : State) (w : ActiveIn) : (s.seeActive w).flm = s.flm := (keeps_State_seeActive w rfl (Keeps.refl false 1 s)).part .flm (by decide)

@[simp] theorem partnerIs_flm (s : State) (v : Nat) : (s.partnerIs v).flm = s.flm := (keeps_State_partnerIs v rfl (Keeps.refl false 1 s)).part .flm (by decide)

@[simp] theorem join_flm (s : State) : s.join.flm = s.flm := (keeps_State_join rfl (Keeps.refl false 8389121 s)).part .flm (by decide)

@[simp] theorem fencePartner_flm (s : State) : s.fencePartner.flm = s.flm := (keeps_State_fencePartner rfl (Keeps.refl false 32581155 s)).part .flm (by decide)

@[simp] theorem missedTicks_flm (s : State) : s.missedTicks.flm = s.flm := (keeps_State_missedTicks rfl (Keeps.refl false 8389155 s)).part .flm (by decide)

@[simp] theorem reissuePartner_flm (s : State) : s.reissuePartner.flm = s.flm := (keeps_State_reissuePartner rfl (Keeps.refl false 32581155 s)).part .flm (by decide)

@[simp] theorem numberForwarded_flm (s : State) : s.numberForwarded.flm = s.flm := (keeps_State_numberForwarded rfl (Keeps.refl false 8389155 s)).part .flm (by decide)

@[simp] theorem freshFlows_flm (s : State) : s.freshFlows.flm = s.flm := (keeps_State_freshFlows rfl (Keeps.refl false 16777472 s)).part .flm (by decide)

@[simp] theorem degrade_flm (s : State) : s.degrade.flm = s.flm := (keeps_State_degrade rfl (Keeps.refl false 8389155 s)).part .flm (by decide)

@[simp] theorem suspect_flm (s : State) : s.suspect.flm = s.flm := (keeps_State_suspect rfl (Keeps.refl false 8388643 s)).part .flm (by decide)

@[simp] theorem replay_flm (s : State) : s.replay.flm = s.flm := (keeps_State_replay rfl (Keeps.refl false 8389155 s)).part .flm (by decide)

@[simp] theorem linkAck_flm (s : State) (ack : Nat) : (s.linkAck ack).flm = s.flm := (keeps_State_linkAck ack rfl (Keeps.refl false 8454691 s)).part .flm (by decide)

@[simp] theorem sendNak_flm (s : State) : s.sendNak.flm = s.flm := (keeps_State_sendNak rfl (Keeps.refl false 8389155 s)).part .flm (by decide)

@[simp] theorem logEcc_flm (s : State) (r : EccRec) : (s.logEcc r).flm = s.flm := (keeps_State_logEcc r rfl (Keeps.refl false 9437219 s)).part .flm (by decide)

@[simp] theorem noGoodCopy_flm (s : State) (a : Nat) : (s.noGoodCopy a).flm = s.flm := (keeps_State_noGoodCopy a rfl (Keeps.refl false 9023075 s)).part .flm (by decide)

@[simp] theorem poisonStaging_flm (s : State) (blocks : List (Nat × Nat × Nat)) : (s.poisonStaging blocks).flm = s.flm :=
  (keeps_State_poisonStaging blocks rfl (Keeps.refl false 8396835 s)).part .flm (by decide)

@[simp] theorem serveRepairs_flm (s : State) : s.serveRepairs.flm = s.flm := (keeps_State_serveRepairs rfl (Keeps.refl false 9437184 s)).part .flm (by decide)

@[simp] theorem cruiseOn_flm (s : State) (sram : Bool) (a : Nat) : (s.cruiseOn sram a).flm = s.flm := (keeps_State_cruiseOn sram a rfl (Keeps.refl false 8388643 s)).part .flm (by decide)

@[simp] theorem pageWeak_flm (s : State) (a : Nat) : (s.pageWeak a).flm = s.flm := (keeps_State_pageWeak a rfl (Keeps.refl false 9437219 s)).part .flm (by decide)

@[simp] theorem settlePower_flm (s : State) : s.settlePower.flm = s.flm := (keeps_State_settlePower rfl (Keeps.refl false 32613923 s)).part .flm (by decide)

@[simp] theorem pwrfailStep_flm (s : State) (sideB on : Bool) : (s.pwrfailStep sideB on).flm = s.flm :=
  (keeps_State_pwrfailStep sideB on rfl (Keeps.refl false 32616035 s)).part .flm (by decide)

@[simp] theorem trialStart_flm (s : State) : s.trialStart.flm = s.flm := (keeps_State_trialStart rfl (Keeps.refl false 8912931 s)).part .flm (by decide)

@[simp] theorem presenceAtReady_flm (s : State) : s.presenceAtReady.flm = s.flm := (keeps_State_presenceAtReady rfl (Keeps.refl false 8651299 s)).part .flm (by decide)

@[simp] theorem entryAdvance_flm (s : State) : s.entryAdvance.flm = s.flm := (keeps_State_entryAdvance rfl (Keeps.refl false 32632419 s)).part .flm (by decide)

@[simp] theorem enter_flm (s : State) (target : Nat) : (s.enter target).1.flm = s.flm := (keeps_State_enter target rfl (Keeps.refl false 32632419 s)).fst.part .flm (by decide)

@[simp] theorem wakeSeen_flm (s : State) : s.wakeSeen.flm = s.flm := (keeps_State_wakeSeen rfl (Keeps.refl false 8392227 s)).part .flm (by decide)

@[simp] theorem fallowOver_flm (s : State) : s.fallowOver.flm = s.flm := (keeps_State_fallowOver rfl (Keeps.refl false 32615971 s)).part .flm (by decide)

@[simp] theorem winResult_flm (s : State) (index result : Nat) : (s.winResult index result).flm = s.flm :=
  (keeps_State_winResult index result rfl (Keeps.refl false 8388643 s)).part .flm (by decide)

@[simp] theorem setAddr_flm (s : State) (entry : Nat) (a : Option IpAddr) : (State.setAddr entry a s).flm = s.flm :=
  (keeps_State_setAddr entry a rfl (Keeps.refl false 256 s)).part .flm (by decide)

@[simp] theorem newCmd_flm (s : State) (q : NvmQueue) (sub : Nat) (cap : Capsule) : (s.newCmd q sub cap).1.flm = s.flm :=
  (keeps_State_newCmd q sub cap rfl (Keeps.refl false 4096 s)).fst.part .flm (by decide)

@[simp] theorem authFails_flm (s : State) (q : NvmQueue) : (s.authFails q).flm = s.flm := (keeps_State_authFails q rfl (Keeps.refl false 8392739 s)).part .flm (by decide)

@[simp] theorem termReq_flm (s : State) (conn : Nat) : (s.termReq conn).flm = s.flm := (keeps_State_termReq conn rfl (Keeps.refl false 8454691 s)).part .flm (by decide)

@[simp] theorem rewritten_flm (s : State) (n : NsEnt) (sub lba : Nat) : (s.rewritten n sub lba).flm = s.flm :=
  (keeps_State_rewritten n sub lba rfl (Keeps.refl false 8441891 s)).part .flm (by decide)

@[simp] theorem fwArm_flm (s : State) (b : Bool) (window mode : Nat) : (s.fwArm b window mode).flm = s.flm :=
  (keeps_State_fwArm b window mode rfl (Keeps.refl false 8912931 s)).part .flm (by decide)

@[simp] theorem fwActCheck_flm (s : State) (b : Bool) : (s.fwActCheck b).1.flm = s.flm := (keeps_State_fwActCheck b rfl (Keeps.refl false 8912931 s)).fst.part .flm (by decide)

@[simp] theorem clearBoot_flm (s : State) (b : Bool) : (s.clearBoot b).flm = s.flm := (keeps_State_clearBoot b rfl (Keeps.refl false 524288 s)).part .flm (by decide)

@[simp] theorem beginSwitch_flm (s : State) (b : Bool) (phase : Nat) : (s.beginSwitch b phase).flm = s.flm :=
  (keeps_State_beginSwitch b phase rfl (Keeps.refl false 524288 s)).part .flm (by decide)

@[simp] theorem fwPairStep_flm (s : State) (window : Nat) : (s.fwPairStep window).flm = s.flm := (keeps_State_fwPairStep window rfl (Keeps.refl false 8948263 s)).part .flm (by decide)

@[simp] theorem fwConfirmedStep_flm (s : State) : s.fwConfirmedStep.flm = s.flm := (keeps_State_fwConfirmedStep rfl (Keeps.refl false 8913443 s)).part .flm (by decide)

@[simp] theorem fwFellBackStep_flm (s : State) : s.fwFellBackStep.flm = s.flm := (keeps_State_fwFellBackStep rfl (Keeps.refl false 524288 s)).part .flm (by decide)

@[simp] theorem stopCluster_flm (s : State) (c : Nat) : (s.stopCluster c).flm = s.flm := (keeps_State_stopCluster c rfl (Keeps.refl false 8388640 s)).part .flm (by decide)

@[simp] theorem fwReject_flm (s : State) (cause : Nat) : (s.fwReject cause).flm = s.flm := (keeps_State_fwReject cause rfl (Keeps.refl false 8948327 s)).part .flm (by decide)

@[simp] theorem moveRun_flm (s : State) (r r' : TaskRun) : (s.moveRun r r').flm = s.flm := (keeps_State_moveRun r r' rfl (Keeps.refl false 16 s)).part .flm (by decide)

@[simp] theorem endRun_flm (s : State) (r : TaskRun) (code : Nat) (res : List Nat) : (s.endRun r code res).flm = s.flm :=
  (keeps_State_endRun r code res rfl (Keeps.refl false 8388659 s)).part .flm (by decide)

@[simp] theorem settleRun_flm (s : State) (r : TaskRun) (x : TaskStep) : (s.settleRun r x).flm = s.flm := (keeps_State_settleRun r x rfl (Keeps.refl false 8388727 s)).part .flm (by decide)

@[simp] theorem setDelivery_flm (s : State) (d : Option (Nat × List Byte)) : (s.setDelivery d).flm = s.flm := (keeps_State_setDelivery d rfl (Keeps.refl false 4 s)).part .flm (by decide)

@[simp] theorem taskPatBlock_flm (s : State) (r : TaskRun) : (taskPatBlock s r).1.flm = s.flm := (keeps_taskPatBlock r rfl (Keeps.refl false 4 s)).fst.part .flm (by decide)

@[simp] theorem taskPatCommit_flm (s : State) (r : TaskRun) : (taskPatCommit s r).1.flm = s.flm := (keeps_taskPatCommit r rfl (Keeps.refl false 8388711 s)).fst.part .flm (by decide)

@[simp] theorem taskPatAbort_flm (s : State) (_r : TaskRun) : (taskPatAbort s _r).1.flm = s.flm := (keeps_taskPatAbort _r rfl (Keeps.refl false 4 s)).fst.part .flm (by decide)

@[simp] theorem taskOverlaySet_flm (s : State) (r : TaskRun) : (taskOverlaySet s r).1.flm = s.flm := (keeps_taskOverlaySet r rfl (Keeps.refl false 0 s)).fst.part .flm (by decide)

@[simp] theorem taskOwnerCommission_flm (s : State) (r : TaskRun) : (taskOwnerCommission s r).1.flm = s.flm :=
  (keeps_taskOwnerCommission r rfl (Keeps.refl false 2 s)).fst.part .flm (by decide)

@[simp] theorem taskOwnerRotate_flm (s : State) (r : TaskRun) : (taskOwnerRotate s r).1.flm = s.flm := (keeps_taskOwnerRotate r rfl (Keeps.refl false 8388643 s)).fst.part .flm (by decide)

@[simp] theorem taskKeyInstall_flm (s : State) (r : TaskRun) : (taskKeyInstall s r).1.flm = s.flm := (keeps_taskKeyInstall r rfl (Keeps.refl false 8388643 s)).fst.part .flm (by decide)

@[simp] theorem taskKeySwitch_flm (s : State) (r : TaskRun) : (taskKeySwitch s r).1.flm = s.flm := (keeps_taskKeySwitch r rfl (Keeps.refl false 8388643 s)).fst.part .flm (by decide)

@[simp] theorem taskKeyRetire_flm (s : State) (r : TaskRun) : (taskKeyRetire s r).1.flm = s.flm := (keeps_taskKeyRetire r rfl (Keeps.refl false 8388643 s)).fst.part .flm (by decide)

@[simp] theorem taskAdmitSet_flm (s : State) (r : TaskRun) : (taskAdmitSet s r).1.flm = s.flm := (keeps_taskAdmitSet r rfl (Keeps.refl false 8388643 s)).fst.part .flm (by decide)

@[simp] theorem taskFwBlock_flm (s : State) (r : TaskRun) : (taskFwBlock s r).1.flm = s.flm := (keeps_taskFwBlock r rfl (Keeps.refl false 524288 s)).fst.part .flm (by decide)

@[simp] theorem taskFwAbort_flm (s : State) (_r : TaskRun) : (taskFwAbort s _r).1.flm = s.flm := (keeps_taskFwAbort _r rfl (Keeps.refl false 524288 s)).fst.part .flm (by decide)

@[simp] theorem taskFwConfirm_flm (s : State) (_r : TaskRun) : (taskFwConfirm s _r).1.flm = s.flm := (keeps_taskFwConfirm _r rfl (Keeps.refl false 8913511 s)).fst.part .flm (by decide)

@[simp] theorem taskFwReject_flm (s : State) (_r : TaskRun) : (taskFwReject s _r).1.flm = s.flm := (keeps_taskFwReject _r rfl (Keeps.refl false 0 s)).fst.part .flm (by decide)

@[simp] theorem taskDriveAccept_flm (s : State) (r : TaskRun) : (taskDriveAccept s r).1.flm = s.flm := (keeps_taskDriveAccept r rfl (Keeps.refl false 32630307 s)).fst.part .flm (by decide)

@[simp] theorem taskMemberFail_flm (s : State) (r : TaskRun) : (taskMemberFail s r).1.flm = s.flm := (keeps_taskMemberFail r rfl (Keeps.refl false 32630307 s)).fst.part .flm (by decide)

@[simp] theorem taskDriveFw_flm (s : State) (r : TaskRun) : (taskDriveFw s r).1.flm = s.flm := (keeps_taskDriveFw r rfl (Keeps.refl false 1024 s)).fst.part .flm (by decide)

@[simp] theorem driveFwStep_flm (s : State) (port opcode status : Nat) : (s.driveFwStep port opcode status).flm = s.flm :=
  (keeps_State_driveFwStep port opcode status rfl (Keeps.refl false 8389683 s)).part .flm (by decide)

@[simp] theorem driveFwLost_flm (s : State) : s.driveFwLost.flm = s.flm := (keeps_State_driveFwLost rfl (Keeps.refl false 8388659 s)).part .flm (by decide)

@[simp] theorem taskMigStart_flm (s : State) (r : TaskRun) : (taskMigStart s r).1.flm = s.flm := (keeps_taskMigStart r rfl (Keeps.refl false 16809984 s)).fst.part .flm (by decide)

@[simp] theorem taskMigCutover_flm (s : State) (r : TaskRun) : (taskMigCutover s r).1.flm = s.flm := (keeps_taskMigCutover r rfl (Keeps.refl false 32768 s)).fst.part .flm (by decide)

@[simp] theorem taskMigCancel_flm (s : State) (r : TaskRun) : (taskMigCancel s r).1.flm = s.flm := (keeps_taskMigCancel r rfl (Keeps.refl false 8421411 s)).fst.part .flm (by decide)

@[simp] theorem taskAddrSet_flm (s : State) (r : TaskRun) : (taskAddrSet s r).1.flm = s.flm := (keeps_taskAddrSet r rfl (Keeps.refl false 256 s)).fst.part .flm (by decide)

@[simp] theorem taskPowerEnter_flm (s : State) (r : TaskRun) : (taskPowerEnter s r).1.flm = s.flm := (keeps_taskPowerEnter r rfl (Keeps.refl false 32632419 s)).fst.part .flm (by decide)

@[simp] theorem taskIdentity_flm (s : State) (r : TaskRun) : (taskIdentity s r).1.flm = s.flm := (keeps_taskIdentity r rfl (Keeps.refl false 8388608 s)).fst.part .flm (by decide)

@[simp] theorem taskLedgerRead_flm (s : State) (r : TaskRun) : (taskLedgerRead s r).1.flm = s.flm := (keeps_taskLedgerRead r rfl (Keeps.refl false 8388608 s)).fst.part .flm (by decide)

@[simp] theorem fieldWrite_flm (s : State) (f : Fld) (i j : Nat) (high : Bool) (value : Nat) : (s.fieldWrite f i j high value).flm = s.flm :=
  (keeps_State_fieldWrite f i j high value rfl (Keeps.refl false 8388707 s)).part .flm (by decide)

@[simp] theorem commitTasksEnd_flm (s : State) : s.commitTasksEnd.flm = s.flm := (keeps_State_commitTasksEnd rfl (Keeps.refl false 8388659 s)).part .flm (by decide)

@[simp] theorem commitTasksFail_flm (s : State) (result : Nat) : (s.commitTasksFail result).flm = s.flm :=
  (keeps_State_commitTasksFail result rfl (Keeps.refl false 8388659 s)).part .flm (by decide)

@[simp] theorem commitOver_flm (s : State) (ok : Bool) (cs : List StoreChange) : (s.commitOver ok cs).flm = s.flm :=
  (keeps_State_commitOver ok cs rfl (Keeps.refl false 1572864 s)).part .flm (by decide)

@[simp] theorem hostFrameStep_flm (s : State) (r : InputRec) : (hostFrameStep r s).flm = s.flm := (keeps_hostFrameStep r rfl (Keeps.refl false 8527872 s)).part .flm (by decide)

@[simp] theorem fwPairTask_flm (s : State) : s.fwPairTask.flm = s.flm := (keeps_State_fwPairTask rfl (Keeps.refl false 8388659 s)).part .flm (by decide)

@[simp] theorem handoverCut_flm (s : State) : (handoverCut s).flm = s.flm := (keeps_handoverCut rfl (Keeps.refl false 33140263 s)).part .flm (by decide)

@[simp] theorem resyncCutStep_flm (s : State) (n : Nat) : (resyncCutStep n s).flm = s.flm := (keeps_resyncCutStep n rfl (Keeps.refl false 8389155 s)).part .flm (by decide)

/-! ## Operations that leave the numbers fresh, in the order of the model -/

theorem fresh_set {s : State} (f : Fld) (v i j : Nat) (hs : FlmFresh s.flm) : FlmFresh (s.set f v i j).flm := hs

theorem fresh_setFlag {s : State} (f : Fld) (b : Bool) (i j : Nat) (hs : FlmFresh s.flm) : FlmFresh (s.setFlag f b i j).flm := hs

theorem fresh_bump {s : State} (f : Fld) (i j : Nat) (hs : FlmFresh s.flm) : FlmFresh (s.bump f i j).flm := hs

theorem fresh_bumpBy {s : State} (f : Fld) (n i j : Nat) (hs : FlmFresh s.flm) : FlmFresh (s.bumpBy f n i j).flm := hs

theorem fresh_emit {s : State} (o : Out) (hs : FlmFresh s.flm) : FlmFresh (s.emit o).flm := hs

theorem fresh_drawn {s : State} (hs : FlmFresh s.flm) : FlmFresh s.drawn.flm := hs

theorem fresh_setPoison {s : State} (a : Nat) (hs : FlmFresh s.flm) : FlmFresh (s.setPoison a).flm := hs

theorem fresh_inStep {s : State} (f : State → State) (hf : ∀ (t : State), FlmFresh t.flm → FlmFresh (f t).flm) (hs : FlmFresh s.flm) : FlmFresh (s.inStep f).flm := by
  simp only [State.inStep, hs, hf]

theorem fresh_busWrite {s : State} (src : Src) (off : Nat) (effect : State → State) (heffect : ∀ (t : State), FlmFresh t.flm → FlmFresh (effect t).flm) (hs : FlmFresh s.flm) :
    FlmFresh (s.busWrite src off effect).flm := by
  unfold State.busWrite
  split <;> simp only [accessFault_flm, fresh_emit, hs, heffect]

theorem fresh_stepWrite {s : State} (src : Src) (w : StepWrite) (effect : State → State) (heffect : ∀ (t : State), FlmFresh t.flm → FlmFresh (effect t).flm) (hs : FlmFresh s.flm) :
    FlmFresh (s.stepWrite src w effect).flm := by
  simp only [State.stepWrite, fresh_ite, observe_flm, hs, heffect]

/-! ### The sender of Flume, commands and their data -/

theorem fresh_cookieUsed {s : State} (hs : FlmFresh s.flm) : FlmFresh s.cookieUsed.flm := by
  simp only [State.cookieUsed, flmFresh_mk_iff, hs]

theorem fresh_formCtl {s : State} (c : CtlPkt) (hs : FlmFresh s.flm) : FlmFresh (s.formCtl c).flm := by
  unfold State.formCtl
  split <;> simp only [fresh_cookieUsed, sendFlume_flm, setFlow_flm, hs]

theorem fresh_sendCtl {s : State} (c : CtlPkt) (hs : FlmFresh s.flm) : FlmFresh (s.sendCtl c).flm := by
  simp only [State.sendCtl, fresh_ite, fresh_formCtl, hs]

theorem fresh_flushCtl {s : State} (hs : FlmFresh s.flm) : FlmFresh s.flushCtl.flm := by
  simp +contextual only [State.flushCtl, implies_true, fresh_foldl, fresh_sendCtl, hs]

theorem fresh_setWq {s : State} (n : Nat) (w : Wq) (hs : FlmFresh s.flm) : FlmFresh (s.setWq n w).flm := by
  simp only [State.setWq, flmFresh_mk_iff, hs]

theorem fresh_post {s : State} (n : Nat) (e : CqEntry) (hs : FlmFresh s.flm) : FlmFresh (s.post n e).flm := fresh_of_sameMsgs (sameMsgs_post s n e) hs

theorem fresh_putOutcome {s : State} (peer msgId : Nat) (completed : Bool) (reason : Nat) (hs : FlmFresh s.flm) : FlmFresh (s.putOutcome peer msgId completed reason).flm := by
  simp only [State.putOutcome, flmFresh_mk_iff, hs]

theorem fresh_setSlot {s : State} (x : Slot) (hs : FlmFresh s.flm) : FlmFresh (s.setSlot x).flm := by
  simp only [State.setSlot, flmFresh_mk_iff, hs]

theorem fresh_dropSlot {s : State} (peer msgId : Nat) (hs : FlmFresh s.flm) : FlmFresh (s.dropSlot peer msgId).flm := by
  simp only [State.dropSlot, flmFresh_mk_iff, hs]

theorem fresh_setWin {s : State} (i : Nat) (w : Win) (hs : FlmFresh s.flm) : FlmFresh (s.setWin i w).flm := by
  simp only [State.setWin, flmFresh_mk_iff, hs]

theorem fresh_winRelease {s : State} (window : Nat) (hs : FlmFresh s.flm) : FlmFresh (s.winRelease window).flm := by
  unfold State.winRelease
  dsimp only
  (repeat' split) <;> simp only [fresh_post, raise_flm, fresh_setWin, hs]

theorem fresh_setMsg {s : State} (m : Msg) (hs : FlmFresh s.flm) : FlmFresh (s.setMsg m).flm := fresh_of_sameMsgs (sameMsgs_setMsg s m) hs

theorem fresh_transmit {s : State} (m : Msg) (i attempt path : Nat) (solicit : Bool) (hs : FlmFresh s.flm) : FlmFresh (s.transmit m i attempt path solicit).flm :=
  fresh_of_sameMsgs (sameMsgs_transmit s m i attempt path solicit) hs

theorem fresh_pump {s : State} (dst : Nat) (hs : FlmFresh s.flm) : FlmFresh (s.pump dst).flm := fresh_of_sameMsgs (sameMsgs_pump s dst) hs

/-- A new message takes the next number. -/
theorem fresh_submit {s : State} (m : Msg) (ip : IpAddr) (hs : FlmFresh s.flm) : FlmFresh (s.submit m ip).flm := by
  unfold State.submit
  extract_lets m1 flm s1
  have h1 : FlmFresh s1.flm := flmFresh_append hs rfl
  have h2 : FlmFresh (s1.enterFlow m1.dst ip (s1.firstLocal ip.v6)).1.flm := by rwa [enterFlow_flm]
  clear_value s1
  dsimp only
  split
  · exact fresh_pump _ h2
  · exact h2

theorem fresh_completeDesc {s : State} (wq idx : Nat) (d : SendDesc) (st : DescStatus) (reason len id : Nat) (hs : FlmFresh s.flm) :
    FlmFresh (s.completeDesc wq idx d st reason len id).flm := fresh_of_sameMsgs (sameMsgs_completeDesc s wq idx d st reason len id) hs

theorem fresh_holdTag {s : State} (i key : Nat) (hs : FlmFresh s.flm) : FlmFresh (s.holdTag i key).flm := by
  simp only [State.holdTag, flmFresh_mk_iff, hs]

theorem fresh_forgetMsg {s : State} (m : Msg) (hs : FlmFresh s.flm) : FlmFresh (s.forgetMsg m).flm := by
  obtain ⟨⟨tags, h⟩, -, -⟩ := forgetMsg_same s m
  rw [h]
  exact flmFresh_filter _ hs

theorem fresh_tellEnd {s : State} (m : Msg) (st : DescStatus) (reason : Nat) (hs : FlmFresh s.flm) : FlmFresh (s.tellEnd m st reason).flm := by
  unfold State.tellEnd
  split
  · exact fresh_ite (fresh_setWq _ _ (fresh_completeDesc _ _ _ _ _ _ _ hs)) (fresh_completeDesc _ _ _ _ _ _ _ hs)
  · exact hs

theorem fresh_finishMsg {s : State} (m : Msg) (st : DescStatus) (reason : Nat) (hs : FlmFresh s.flm) : FlmFresh (s.finishMsg m st reason).flm := by
  have h := fresh_tellEnd m st reason (fresh_forgetMsg m hs)
  rw [finishMsg_eq]
  exact fresh_pump _ (fresh_ite (by rwa [count_flm]) h)

theorem fresh_timeoutMsg {s : State} (m : Msg) (hs : FlmFresh s.flm) : FlmFresh (s.timeoutMsg m).flm := by
  unfold State.timeoutMsg
  split <;> simp only [flmFresh_mk_iff, fresh_bump, fresh_finishMsg, raise_flm, hs]

theorem fresh_askRetx {s : State} (m : Msg) (p : PktTx) (hs : FlmFresh s.flm) : FlmFresh (s.askRetx m p).flm := by
  unfold State.askRetx
  (repeat' split) <;> simp only [fresh_ite, observe_flm, fresh_setMsg, fresh_timeoutMsg, hs]

theorem fresh_losePkt {s : State} (m : Msg) (p : PktTx) (hs : FlmFresh s.flm) : FlmFresh (s.losePkt m p).flm := by
  unfold State.losePkt
  dsimp only
  (repeat' split) <;> simp only [fresh_askRetx, pathLoss_flm, setFlow_flm, hs]

theorem fresh_resend {s : State} (m : Msg) (p : PktTx) (attempt : Nat) (hs : FlmFresh s.flm) : FlmFresh (s.resend m p attempt).flm := by
  unfold State.resend
  (repeat' split) <;> simp only [setFlow_flm, fresh_setMsg, fresh_transmit, hs]

theorem fresh_repost {s : State} (q : NvmQueue) (hs : FlmFresh s.flm) : FlmFresh (s.repost q).flm := by
  unfold State.repost
  split <;> simp only [fresh_setWq, hs]

theorem fresh_hostMsg {s : State} (peer : Nat) (ip : IpAddr) (op len window winOffset aux : Nat) (src : MsgSrc) (use : MsgUse) (side : OutSide) (tag : Option Nat) (hs : FlmFresh s.flm) :
    FlmFresh (s.hostMsg peer ip op len window winOffset aux src use side tag).flm := by
  simp only [State.hostMsg, fresh_submit, hs]

theorem fresh_respondOn {s : State} (q : NvmQueue) (cid : Nat) (st : NvmeStatus) (dw0 dw1 : Nat) (side : OutSide) (key : Nat) (hs : FlmFresh s.flm) :
    FlmFresh (s.respondOn q cid st dw0 dw1 side key).flm := by
  unfold State.respondOn
  (repeat' split) <;> simp only [fresh_drawn, fresh_hostMsg, logError_flm, tcpSend_flm, hs]

theorem fresh_endCmd {s : State} (c : Cmd) (st : NvmeStatus) (dw0 : Nat) (hs : FlmFresh s.flm) : FlmFresh (s.endCmd c st dw0).flm := by
  unfold State.endCmd
  dsimp only
  (repeat' split) <;> simp only [countStatus_flm, dropCmd_flm, fresh_respondOn, hs]

theorem fresh_asyncEvent {s : State} (ctrl type info log : Nat) (hs : FlmFresh s.flm) : FlmFresh (s.asyncEvent ctrl type info log).flm := by
  unfold State.asyncEvent
  (repeat' split) <;> simp only [fresh_respondOn, setCtrl_flm, hs]

theorem fresh_asyncAll {s : State} (sub type info log : Nat) (hs : FlmFresh s.flm) : FlmFresh (s.asyncAll sub type info log).flm := by
  simp +contextual only [State.asyncAll, implies_true, fresh_foldl, fresh_asyncEvent, hs]

theorem fresh_resvNotice {s : State} (sub nsid host type : Nat) (hs : FlmFresh s.flm) : FlmFresh (s.resvNotice sub nsid host type).flm := by
  refine fresh_foldl _ (fun _ x ht => ?_) hs
  split <;> simp only [setCtrl_flm, fresh_asyncEvent, ht]

theorem fresh_resvNotices {s : State} (r : Resv) (but type : Nat) (hs : FlmFresh s.flm) : FlmFresh (s.resvNotices r but type).flm := by
  simp +contextual only [State.resvNotices, implies_true, fresh_foldl, fresh_resvNotice, hs]

theorem fresh_abortHosts {s : State} (sub nsid : Nat) (hosts : List Nat) (hs : FlmFresh s.flm) : FlmFresh (s.abortHosts sub nsid hosts).flm := by
  simp +contextual only [State.abortHosts, implies_true, fresh_foldl, fresh_endCmd, hs]

theorem fresh_reserve {s : State} (c : Cmd) (data : List Byte) (hs : FlmFresh s.flm) : FlmFresh (s.reserve c data).flm := by
  have hend : ∀ st, FlmFresh (s.endCmd c st).flm := fun st => fresh_endCmd _ _ _ hs
  have hset : ∀ r, FlmFresh (s.setResv r).flm := fun r => by rwa [setResv_flm]
  unfold State.reserve
  split
  · rwa [dropCmd_flm]
  · extract_lets r action ignore rtype cur mine
    refine fresh_ite ?_ (fresh_ite ?_ (fresh_ite (hend _) (fresh_ite (hend _) (fresh_ite ?_ (fresh_ite ?_ (hend _))))))
    · split
      · exact hend _
      · exact fresh_endCmd _ _ _ (fresh_ite (fresh_resvNotices _ _ _ (hset _)) (hset _))
    · refine fresh_ite (hend _) (fresh_ite (hend _) (fresh_ite (hend _) (fresh_ite (fresh_ite (hend _) (fresh_endCmd _ _ _ (hset _))) (fresh_ite ?_ (hend _)))))
      split
      · exact hend _
      · rename_i t _
        have hlost := fresh_foldl (Resv.lostHosts r t) (fun _ h ht => fresh_resvNotice c.sub c.cap.nsid h 1 ht) (hset t)
        exact fresh_endCmd _ _ _ (fresh_ite (fresh_abortHosts _ _ _ (fresh_ite (fresh_resvNotices _ _ _ hlost) hlost)) (fresh_ite (fresh_resvNotices _ _ _ hlost) hlost))
    · exact fresh_ite (hend _) (fresh_ite (hend _) (fresh_endCmd _ _ _ (fresh_ite (fresh_resvNotices _ _ _ (hset _)) (hset _))))
    · exact fresh_endCmd _ _ _ (fresh_resvNotices _ _ _ (hset _))

theorem fresh_fwPiece {s : State} (c : Cmd) (data : List Byte) (hs : FlmFresh s.flm) : FlmFresh (s.fwPiece c data).flm := by
  unfold State.fwPiece
  dsimp only
  (repeat' split) <;> simp only [fresh_endCmd, fwOpen_flm, fwProgram_flm, hs]

theorem fresh_ackWrite {s : State} (key : Nat) (hs : FlmFresh s.flm) : FlmFresh (s.ackWrite key).flm := by
  unfold State.ackWrite
  (repeat' split) <;> simp only [fresh_endCmd, hs]

theorem fresh_ackWrites {s : State} (hs : FlmFresh s.flm) : FlmFresh s.ackWrites.flm := by
  simp +contextual only [State.ackWrites, implies_true, fresh_foldl, fresh_ackWrite, hs]

theorem fresh_sendData {s : State} (c : Cmd) (bytes : List Byte) (hs : FlmFresh s.flm) : FlmFresh (s.sendData c bytes).flm := by
  unfold State.sendData
  (repeat' split) <;> simp only [dropCmd_flm, fresh_endCmd, fresh_hostMsg, setCmd_flm, tcpSend_flm, hs]

theorem fresh_haveBlocks {s : State} (c : Cmd) (hs : FlmFresh s.flm) : FlmFresh (s.haveBlocks c).flm := by
  unfold State.haveBlocks
  (repeat' split) <;> simp only [fresh_endCmd, fresh_sendData, hs]

theorem fresh_fillRun {s : State} (c : Cmd) (idx : Nat) (r : HostRun) (bs : List RdBlk) (hs : FlmFresh s.flm) : FlmFresh (s.fillRun c idx r bs).flm := by
  unfold State.fillRun
  dsimp only
  (repeat' split) <;> simp +contextual only [implies_true, fresh_foldl, countRecon_flm, fresh_haveBlocks, openEntry_flm, setCmd_flm, tallyWait_flm, hs]

theorem fresh_advanceRun {s : State} (key idx : Nat) (hs : FlmFresh s.flm) : FlmFresh (s.advanceRun key idx).flm := by
  unfold State.advanceRun
  dsimp only
  (repeat' split) <;> simp +contextual only [implies_true, fresh_foldl, degradeRun_flm, fresh_endCmd, fresh_fillRun, handOver_flm, issueRun_flm, setCmd_flm, hs]

theorem fresh_runResult {s : State} (key idx col : Nat) (res : Option (List RdBlk)) (hs : FlmFresh s.flm) : FlmFresh (s.runResult key idx col res).flm := by
  unfold State.runResult
  (repeat' split) <;> simp only [fresh_advanceRun, setCmd_flm, hs]

theorem fresh_runPoisoned {s : State} (key idx : Nat) (hs : FlmFresh s.flm) : FlmFresh (s.runPoisoned key idx).flm := by
  unfold State.runPoisoned
  (repeat' split) <;> simp only [fresh_endCmd, issueRun_flm, setCmd_flm, hs]

theorem fresh_resumeSwept {s : State} (hs : FlmFresh s.flm) : FlmFresh s.resumeSwept.flm :=
  fresh_foldl _ (fun _ _ ht => fresh_foldl _ (fun _ _ hu => fresh_advanceRun _ _ hu) (fresh_of_eq (setCmd_flm ..) ht)) hs

theorem fresh_startRead {s : State} (c : Cmd) (n : NsEnt) (hs : FlmFresh s.flm) : FlmFresh (s.startRead c n).flm := by
  unfold State.startRead
  refine fresh_ite (fresh_endCmd _ _ _ hs) (fresh_ite (fresh_endCmd _ _ _ (by rwa [raise_flm])) ?_)
  extract_lets hits rd runs c' u two v
  have hu : FlmFresh u.flm := by
    unfold u
    rw [setCmd_flm, count_flm]
    exact fresh_bumpBy _ _ _ _ hs
  have hv : FlmFresh v.flm := fresh_ite (by rwa [handOver_flm]) hu
  refine fresh_ite (fresh_haveBlocks _ hu) (fresh_foldl _ (fun t k ht => ?_) hv)
  (repeat' split) <;> simp only [degradeRun_flm, issueRun_flm, ht]

theorem fresh_deallocRanges {s : State} (c : Cmd) (n : NsEnt) (rs : List (Nat × Nat)) (hs : FlmFresh s.flm) : FlmFresh (s.deallocRanges c n rs).flm := by
  unfold State.deallocRanges
  dsimp only
  split <;> simp +contextual only [implies_true, fresh_foldl, deallocBlock_flm, fresh_endCmd, markMig_flm, setCmd_flm, startBrand_flm, hs]

theorem fresh_deallocate {s : State} (c : Cmd) (data : List Byte) (hs : FlmFresh s.flm) : FlmFresh (s.deallocate c data).flm := by
  unfold State.deallocate
  dsimp only
  (repeat' split) <;> simp only [fresh_deallocRanges, fresh_endCmd, hs]

theorem fresh_dataHere {s : State} (c : Cmd) (data : List Byte) (hs : FlmFresh s.flm) : FlmFresh (s.dataHere c data).flm := by
  unfold State.dataHere
  (repeat' split) <;> simp only [fresh_bump, fresh_deallocate, fresh_endCmd, fresh_fwPiece, raise_flm, fresh_reserve, fresh_startRead, writeHeldBlocks_flm, hs]

theorem fresh_pull {s : State} (c : Cmd) (hs : FlmFresh s.flm) : FlmFresh (s.pull c).flm := by
  unfold State.pull
  (repeat' split) <;> simp only [dropCmd_flm, fresh_holdTag, fresh_hostMsg, tcpSend_flm, hs]

theorem fresh_fetchData {s : State} (c : Cmd) (hs : FlmFresh s.flm) : FlmFresh (s.fetchData c).flm := by
  simp only [State.fetchData, fresh_ite, fresh_dataHere, fresh_pull, setCmd_flm, hs]

theorem fresh_retryPulls {s : State} (hs : FlmFresh s.flm) : FlmFresh s.retryPulls.flm := by
  refine fresh_foldl _ (fun _ x ht => ?_) hs
  (repeat' split) <;> simp only [fresh_pull, ht]

theorem fresh_cmdReport {s : State} (r : MsgReport) (hs : FlmFresh s.flm) : FlmFresh (s.cmdReport r).flm := by
  unfold State.cmdReport
  (repeat' split) <;> simp only [fresh_dataHere, fresh_endCmd, ledger_flm, hs]

theorem fresh_consume {s : State} (n : Nat) (kind : Input → Bool) (f : InputRec → State → State) (hf : ∀ (t : State) (x0 : InputRec), FlmFresh t.flm → FlmFresh (f x0 t).flm)
    (hs : FlmFresh s.flm) :
    FlmFresh (s.consume n kind f).flm := by
  unfold State.consume
  (repeat' split) <;> simp only [hs, hf]

theorem fresh_observed {s : State} (i : Input) (effect : State → State) (heffect : ∀ (t : State), FlmFresh t.flm → FlmFresh (effect t).flm) (hs : FlmFresh s.flm) :
    FlmFresh (s.observed i effect).flm := by
  simp only [State.observed, fresh_ite, observe_flm, hs, heffect]

theorem fresh_orphan {s : State} (c : DrvCmd) (hs : FlmFresh s.flm) : FlmFresh (s.orphan c).flm := by
  unfold State.orphan
  (repeat' split) <;> simp only [dropDrv_flm, reissue_flm, fresh_runResult, vaultDone_flm, hs]

theorem fresh_portDown {s : State} (sideB : Bool) (n : Nat) (hs : FlmFresh s.flm) : FlmFresh (s.portDown sideB n).flm := by
  unfold State.portDown
  dsimp only
  (repeat' split) <;> simp +contextual only [implies_true, fresh_foldl, fresh_orphan, regone_flm, setReady_flm, vaultChanged_flm, hs]

theorem fresh_resetDrive {s : State} (sideB : Bool) (n : Nat) (hs : FlmFresh s.flm) : FlmFresh (s.resetDrive sideB n).flm := by
  unfold State.resetDrive
  dsimp only
  (repeat' split) <;> simp only [observe_flm, fresh_portDown, portTo_flm, fresh_set, setPort_flm, hs]

theorem fresh_countTimeouts {s : State} (c : DrvCmd) (k : Nat) (hs : FlmFresh s.flm) : FlmFresh (s.countTimeouts c k).flm := by
  unfold State.countTimeouts
  dsimp only
  (repeat' split) <;> simp only [fresh_bumpBy, fresh_resetDrive, setPort_flm, timeoutEvent_flm, hs]

theorem fresh_writeError {s : State} (c : DrvCmd) (sct g : Nat) (hs : FlmFresh s.flm) : FlmFresh (s.writeError c sct g).flm := by
  unfold State.writeError
  dsimp only
  (repeat' split) <;> simp only [fresh_countTimeouts, dropDrv_flm, failMember_flm, reissue_flm, hs]

theorem fresh_readDone {s : State} (k i j check : Nat) (ok : Bool) (bs : List Blk) (hs : FlmFresh s.flm) : FlmFresh (s.readDone k i j check ok bs).flm := by
  unfold State.readDone
  split
  · refine fresh_ite (fresh_runResult _ _ _ _ hs) (fresh_ite (fresh_runPoisoned _ _ hs) ?_)
    extract_lets marks fits u v
    have hu : FlmFresh u.flm := fresh_foldl _ (fun _ _ ht => fresh_of_eq (recordLost_flm ..) ht) hs
    have hv : FlmFresh v.flm := fresh_ite hu (fresh_of_eq (startBrand_flm ..) hu)
    have hraised : ∀ e, FlmFresh ((v.bump F.NVS_PI_MEDIA.COUNT).raise e).flm := fun e => fresh_of_eq (raise_flm ..) (fresh_bump _ _ _ hv)
    clear_value v u
    exact fresh_ite (fresh_runResult _ _ _ _ (fresh_ite (fresh_bump _ _ _ (hraised _)) (hraised _))) (fresh_ite (fresh_endCmd _ _ _ hv) (fresh_runResult _ _ _ _ hv))
  · exact hs

theorem fresh_driveDone {s : State} (c : DrvCmd) (check sct sc : Nat) (bs : List Blk) (hs : FlmFresh s.flm) : FlmFresh (s.driveDone c check sct sc bs).flm := by
  unfold State.driveDone
  dsimp only
  (repeat' split) <;> simp only [brandDone_flm, brandFailed_flm, detach_flm, dropDrv_flm, raise_flm, fresh_readDone, fresh_resumeSwept, setPort_flm, vaultDone_flm, writeDone_flm,
    fresh_writeError, hs]

theorem fresh_driveCqe {s : State} (sideB : Bool) (port check : Nat) (cqe : DrvCqe) (remote : List Blk) (hs : FlmFresh s.flm) :
    FlmFresh (State.driveCqe sideB port check cqe remote s).flm := by
  unfold State.driveCqe
  split <;> simp only [fresh_driveDone, hs]

theorem fresh_execDriveCmdTimeout {s : State} (cid : Nat) (hs : FlmFresh s.flm) : FreshR (execDriveCmdTimeout cid s) := by
  refine freshR_next (fresh_inStep _ (fun _ ht => ?_) hs)
  (repeat' split) <;> simp only [brandFailed_flm, dropDrv_flm, reissue_flm, vaultDone_flm, fresh_countTimeouts, fresh_runResult, ht]

theorem fresh_driveEvent {s : State} (sideB : Bool) (n : Nat) (e : DrvEvent) (hs : FlmFresh s.flm) : FlmFresh (State.driveEvent sideB n e s).flm := by
  unfold State.driveEvent
  dsimp only
  (repeat' split) <;> simp only [adopt_flm, failMember_flm, fresh_portDown, portUp_flm, seat_flm, setPort_flm, tryForm_flm, hs]

theorem fresh_sawDrive {s : State} (n : Nat) (e : DrvEvent) (hs : FlmFresh s.flm) : FlmFresh (s.sawDrive n e).flm := by
  simp +contextual only [State.sawDrive, implies_true, fresh_driveEvent, fresh_observed, hs]

/-! ### Drives, ports, slots and resets -/

theorem fresh_holdDrive {s : State} (n reason : Nat) (hs : FlmFresh s.flm) : FlmFresh (s.holdDrive n reason).flm := by
  simp only [State.holdDrive, portTo_flm, fresh_sawDrive, fresh_set, hs]

theorem fresh_execDriveLinkTrained {s : State} (port rate width : Nat) (flit : Bool) (hs : FlmFresh s.flm) : FreshR (execDriveLinkTrained port rate width flit s) :=
  freshR_next (fresh_ite (fresh_ite (fresh_holdDrive _ _ (fresh_ite (fresh_of_eq (dpEvent_flm ..) (fresh_sawDrive _ _ (fresh_of_eq (dpEvent_flm ..) (fresh_setFlag _ _ _ _
    (fresh_set _ _ _ _ (fresh_set _ _ _ _ hs)))))) (fresh_sawDrive _ _ (fresh_of_eq (dpEvent_flm ..) (fresh_setFlag _ _ _ _ (fresh_set _ _ _ _ (fresh_set _ _ _ _ hs))))))) (fresh_of_eq
    (portAt_flm ..) (fresh_of_eq (setPort_flm ..) (fresh_ite (fresh_of_eq (dpEvent_flm ..) (fresh_sawDrive _ _ (fresh_of_eq (dpEvent_flm ..) (fresh_setFlag _ _ _ _ (fresh_set _ _ _ _
    (fresh_set _ _ _ _ hs)))))) (fresh_sawDrive _ _ (fresh_of_eq (dpEvent_flm ..) (fresh_setFlag _ _ _ _ (fresh_set _ _ _ _ (fresh_set _ _ _ _ hs))))))))) hs)

theorem fresh_execDriveControllerReady {s : State} (port : Nat) (failed : Bool) (hs : FlmFresh s.flm) : FreshR (execDriveControllerReady port failed s) := by
  unfold execDriveControllerReady
  dsimp only
  (repeat' split) <;> simp only [freshR_next, fresh_holdDrive, portAt_flm, fresh_sawDrive, stepped_flm, hs]

theorem fresh_execDriveChecksDone {s : State} (port : Nat) (facts : DriveFacts) (adminFailed : Bool) (hs : FlmFresh s.flm) : FreshR (execDriveChecksDone port facts adminFailed s) := by
  refine freshR_next ?_
  dsimp only
  split
  · split
    · exact fresh_holdDrive _ _ (fresh_sawDrive _ _ (fresh_of_eq (setPort_flm ..) hs))
    · exact fresh_of_eq (stepped_flm ..) (fresh_sawDrive _ _ (fresh_of_eq (setPort_flm ..) hs))
  · exact hs

theorem fresh_execDriveBrandRead {s : State} (port : Nat) (read : BrandRead) (hs : FlmFresh s.flm) : FreshR (execDriveBrandRead port read s) := by
  refine freshR_next ?_
  dsimp only
  split
  · exact hs
  · split
    · split
      · split
        · exact fresh_holdDrive _ _ (fresh_sawDrive _ _ hs)
        · split
          · split
            · exact fresh_holdDrive _ _ (fresh_sawDrive _ _ (fresh_of_eq (setPort_flm ..) hs))
            · exact fresh_of_eq (stepped_flm ..) (fresh_sawDrive _ _ (fresh_of_eq (setPort_flm ..) hs))
          · exact fresh_holdDrive _ _ (fresh_sawDrive _ _ (fresh_of_eq (setPort_flm ..) hs))
      · split
        · exact fresh_holdDrive _ _ (fresh_sawDrive _ _ hs)
        · split
          · exact fresh_holdDrive _ _ (fresh_sawDrive _ _ (fresh_of_eq (setPort_flm ..) hs))
          · exact fresh_of_eq (stepped_flm ..) (fresh_sawDrive _ _ (fresh_of_eq (setPort_flm ..) hs))
    · exact hs

theorem fresh_execDriveReady {s : State} (port : Nat) (adminFailed : Bool) (hs : FlmFresh s.flm) : FreshR (execDriveReady port adminFailed s) := by
  refine freshR_next ?_
  dsimp only
  split
  · exact hs
  · split
    · split
      · exact fresh_holdDrive _ _ hs
      · split
        · exact fresh_sawDrive _ _ (fresh_of_eq (portAt_flm ..) (fresh_of_eq (stepped_flm ..) (fresh_of_eq (setPort_flm ..) (fresh_set _ _ _ _ (fresh_set _ _ _ _ hs)))))
        · split
          · exact fresh_of_eq (resvCmd_flm ..) (fresh_of_eq (resvCmd_flm ..) (fresh_sawDrive _ _ (fresh_of_eq (portAt_flm ..) (fresh_of_eq (stepped_flm ..) (fresh_of_eq (setPort_flm ..)
              (fresh_set _ _ _ _ (fresh_set _ _ _ _ hs)))))))
          · exact fresh_of_eq (resvCmd_flm ..) (fresh_sawDrive _ _ (fresh_of_eq (portAt_flm ..) (fresh_of_eq (stepped_flm ..) (fresh_of_eq (setPort_flm ..) (fresh_set _ _ _ _
              (fresh_set _ _ _ _ hs))))))
    · exact hs

theorem fresh_execDriveBringupTimeout {s : State} (port capTo : Nat) (hs : FlmFresh s.flm) : FreshR (execDriveBringupTimeout port capTo s) := by
  unfold execDriveBringupTimeout
  dsimp only
  (repeat' split) <;> simp only [freshR_next, fresh_holdDrive, setPort_flm, hs]

theorem fresh_contain {s : State} (n bits : Nat) (hs : FlmFresh s.flm) : FlmFresh (s.contain n bits).flm :=
  fresh_sawDrive _ _ (fresh_of_eq (dpEvent_flm ..) (fresh_of_eq (portAt_flm ..) (fresh_bump _ _ _ (fresh_set _ _ _ _ (fresh_of_eq (setPort_flm ..) (fresh_of_eq (linkDown_flm ..) hs))))))

theorem fresh_surprise {s : State} (n : Nat) (hs : FlmFresh s.flm) : FlmFresh (s.surprise n).flm := by
  simp only [State.surprise, fresh_ite, aer_flm, fresh_contain, hs]

theorem fresh_portEmpty {s : State} (n : Nat) (hs : FlmFresh s.flm) : FlmFresh (s.portEmpty n).flm :=
  fresh_ite (fresh_sawDrive _ _ (fresh_of_eq (portAt_flm ..) (fresh_set _ _ _ _ (fresh_surprise _ hs)))) (fresh_surprise _ hs)

theorem fresh_portSeated {s : State} (n : Nat) (hs : FlmFresh s.flm) : FlmFresh (s.portSeated n).flm := by
  unfold State.portSeated
  dsimp only
  split <;> simp only [portAt_flm, fresh_sawDrive, fresh_set, hs]

theorem fresh_portPerst {s : State} (n : Nat) (hs : FlmFresh s.flm) : FlmFresh (s.portPerst n).flm := by
  unfold State.portPerst
  dsimp only
  split <;> simp only [fresh_ite, linkDown_flm, portAt_flm, fresh_sawDrive, setPort_flm, hs]

theorem fresh_execSurpriseDown {s : State} (port : Nat) (present : Bool) (hs : FlmFresh s.flm) : FreshR (execSurpriseDown port present s) := by
  unfold execSurpriseDown
  (repeat' split) <;> simp only [freshR_next, fresh_portEmpty, fresh_surprise, hs]

theorem fresh_execDrivePortError {s : State} (port : Nat) (err : Option Nat) (hdr : List Nat) (hs : FlmFresh s.flm) : FreshR (execDrivePortError port err hdr s) := by
  unfold execDrivePortError
  (repeat' split) <;> simp only [freshR_next, aer_flm, fresh_contain, hs]

theorem fresh_dpControl {s : State} (n : Nat) (release reset : Bool) (hs : FlmFresh s.flm) : FlmFresh (s.dpControl n release reset).flm := by
  unfold State.dpControl
  (repeat' split) <;> simp only [fresh_ite, fresh_resetDrive, uncontain_flm, hs]

theorem fresh_execDriveCqeRx {s : State} (port : Nat) (cqe : DrvCqe) (hs : FlmFresh s.flm) : FreshR (execDriveCqeRx port cqe s) := by
  unfold execDriveCqeRx
  dsimp only
  (repeat' split) <;> simp only [freshR_next, count_flm, cqDoorbell_flm, observe_flm, fresh_sawDrive, setPort_flm, hs]

theorem fresh_execAdminCmdTimeout {s : State} (port : Nat) (hs : FlmFresh s.flm) : FreshR (execAdminCmdTimeout port s) := by
  unfold execAdminCmdTimeout
  (repeat' split) <;> simp only [freshR_next, fresh_resetDrive, hs]

theorem fresh_health {s : State} (n w temp used flags : Nat) (hs : FlmFresh s.flm) : FlmFresh (s.health n w temp used flags).flm := by
  simp only [State.health, fresh_ite, dpEvent_flm, fresh_sawDrive, hs]

theorem fresh_execSidebandPoll {s : State} (port : Nat) (answer : Option (Nat × Nat × Nat)) (hs : FlmFresh s.flm) : FreshR (execSidebandPoll port answer s) := by
  unfold execSidebandPoll
  dsimp only
  (repeat' split) <;> simp only [freshR_next, fresh_health, setPort_flm, hs]

theorem fresh_execSmartPoll {s : State} (port : Nat) (answer : Option (Nat × Nat × Nat)) (hs : FlmFresh s.flm) : FreshR (execSmartPoll port answer s) := by
  refine freshR_next ?_
  dsimp only
  split
  · split
    · exact fresh_health _ _ _ _ _ (fresh_sawDrive _ _ (fresh_of_eq (setPort_flm ..) (fresh_mk (fresh_emit _ hs))))
    · exact fresh_of_eq (setPort_flm ..) (fresh_mk (fresh_emit _ hs))
  · exact hs

theorem fresh_slotTo {s : State} (n : Nat) (q : SlotPath) (hs : FlmFresh s.flm) : FlmFresh (s.slotTo n q).flm :=
  fresh_ite (fresh_observed _ _ (fun _ ht => fresh_of_eq (slotSeen_flm ..) ht) (fresh_ite (fresh_portPerst _ (fresh_ite (fresh_emit _ (fresh_ite (fresh_ite (fresh_bump _ _ _ (fresh_of_eq
    (setPath_flm ..) hs)) (fresh_of_eq (slotEvent_flm ..) (fresh_bump _ _ _ (fresh_of_eq (setPath_flm ..) hs)))) (fresh_of_eq (setPath_flm ..) hs))) (fresh_ite (fresh_ite (fresh_bump _ _ _
    (fresh_of_eq (setPath_flm ..) hs)) (fresh_of_eq (slotEvent_flm ..) (fresh_bump _ _ _ (fresh_of_eq (setPath_flm ..) hs)))) (fresh_of_eq (setPath_flm ..) hs)))) (fresh_ite (fresh_emit _
    (fresh_ite (fresh_ite (fresh_bump _ _ _ (fresh_of_eq (setPath_flm ..) hs)) (fresh_of_eq (slotEvent_flm ..) (fresh_bump _ _ _ (fresh_of_eq (setPath_flm ..) hs)))) (fresh_of_eq
    (setPath_flm ..) hs))) (fresh_ite (fresh_ite (fresh_bump _ _ _ (fresh_of_eq (setPath_flm ..) hs)) (fresh_of_eq (slotEvent_flm ..) (fresh_bump _ _ _ (fresh_of_eq (setPath_flm ..) hs))))
    (fresh_of_eq (setPath_flm ..) hs))))) (fresh_ite (fresh_portPerst _ (fresh_ite (fresh_emit _ (fresh_ite (fresh_ite (fresh_bump _ _ _ (fresh_of_eq (setPath_flm ..) hs)) (fresh_of_eq
    (slotEvent_flm ..) (fresh_bump _ _ _ (fresh_of_eq (setPath_flm ..) hs)))) (fresh_of_eq (setPath_flm ..) hs))) (fresh_ite (fresh_ite (fresh_bump _ _ _ (fresh_of_eq (setPath_flm ..) hs))
    (fresh_of_eq (slotEvent_flm ..) (fresh_bump _ _ _ (fresh_of_eq (setPath_flm ..) hs)))) (fresh_of_eq (setPath_flm ..) hs)))) (fresh_ite (fresh_emit _ (fresh_ite (fresh_ite
    (fresh_bump _ _ _ (fresh_of_eq (setPath_flm ..) hs)) (fresh_of_eq (slotEvent_flm ..) (fresh_bump _ _ _ (fresh_of_eq (setPath_flm ..) hs)))) (fresh_of_eq (setPath_flm ..) hs)))
    (fresh_ite (fresh_ite (fresh_bump _ _ _ (fresh_of_eq (setPath_flm ..) hs)) (fresh_of_eq (slotEvent_flm ..) (fresh_bump _ _ _ (fresh_of_eq (setPath_flm ..) hs)))) (fresh_of_eq
    (setPath_flm ..) hs))))

theorem fresh_tryStart {s : State} (n : Nat) (hs : FlmFresh s.flm) : FlmFresh (s.tryStart n).flm := by
  simp only [State.tryStart, fresh_ite, fresh_slotTo, hs]

theorem fresh_gateUpdate {s : State} (n : Nat) (released : Bool) (hs : FlmFresh s.flm) : FlmFresh (s.gateUpdate n released).flm := by
  unfold State.gateUpdate
  dsimp only
  (repeat' split) <;> simp only [fresh_slotTo, fresh_tryStart, hs]

theorem fresh_slotEnable {s : State} (n : Nat) (on : Bool) (hs : FlmFresh s.flm) : FlmFresh (s.slotEnable n on).flm :=
  fresh_ite (fresh_gateUpdate _ _ (fresh_ite (fresh_slotTo _ _ (fresh_setFlag _ _ _ _ hs)) (fresh_setFlag _ _ _ _ hs))) hs

theorem fresh_holdSlots {s : State} (on : Bool) (hs : FlmFresh s.flm) : FlmFresh (s.holdSlots on).flm := by
  simp +contextual only [State.holdSlots, implies_true, fresh_foldl, fresh_gateUpdate, hs]

theorem fresh_latch {s : State} (n cause : Nat) (hs : FlmFresh s.flm) : FlmFresh (s.latch n cause).flm := by
  simp only [State.latch, fresh_bump, slotEvent_flm, fresh_slotTo, hs]

theorem fresh_execPresenceConfirmed {s : State} (slot : Nat) (present : Bool) (ma mv : Nat) (hs : FlmFresh s.flm) : FreshR (execPresenceConfirmed slot present ma mv s) :=
  freshR_next (fresh_ite hs (fresh_ite (fresh_ite (fresh_slotTo _ _ (fresh_of_eq (slotEvent_flm ..) (fresh_of_eq (measured_flm ..) hs))) (fresh_ite (fresh_portSeated _ (fresh_slotTo _ _
    (fresh_of_eq (slotEvent_flm ..) (fresh_of_eq (measured_flm ..) hs)))) (fresh_portEmpty _ (fresh_slotTo _ _ (fresh_of_eq (slotEvent_flm ..) (fresh_of_eq (measured_flm ..) hs))))))
    (fresh_gateUpdate _ _ (fresh_ite (fresh_slotTo _ _ (fresh_of_eq (slotEvent_flm ..) (fresh_of_eq (measured_flm ..) hs))) (fresh_ite (fresh_portSeated _ (fresh_slotTo _ _ (fresh_of_eq
    (slotEvent_flm ..) (fresh_of_eq (measured_flm ..) hs)))) (fresh_portEmpty _ (fresh_slotTo _ _ (fresh_of_eq (slotEvent_flm ..) (fresh_of_eq (measured_flm ..) hs)))))))))

theorem fresh_execSupplyWindowChange {s : State} (slot supply ma mv : Nat) (hs : FlmFresh s.flm) : FreshR (execSupplyWindowChange slot supply ma mv s) :=
  freshR_next (fresh_ite hs (fresh_ite (fresh_of_eq (setPath_flm ..) (fresh_of_eq (measured_flm ..) hs)) (fresh_ite (fresh_tryStart _ (fresh_slotTo _ _ (fresh_of_eq (limitSupply_flm ..)
    (fresh_of_eq (setPath_flm ..) (fresh_of_eq (measured_flm ..) hs))))) (fresh_ite (fresh_slotTo _ _ (fresh_bump _ _ _ (fresh_of_eq (limitSupply_flm ..) (fresh_of_eq (setPath_flm ..)
    (fresh_of_eq (measured_flm ..) hs))))) (fresh_slotTo _ _ (fresh_of_eq (limitSupply_flm ..) (fresh_of_eq (setPath_flm ..) (fresh_of_eq (measured_flm ..) hs))))))))

theorem fresh_execInsertDelayExpiry {s : State} (slot ma mv : Nat) (hs : FlmFresh s.flm) : FreshR (execInsertDelayExpiry slot ma mv s) := by
  unfold execInsertDelayExpiry
  dsimp only
  (repeat' split) <;> simp only [freshR_next, measured_flm, fresh_slotTo, hs]

theorem fresh_execRampComplete {s : State} (slot ma mv : Nat) (hs : FlmFresh s.flm) : FreshR (execRampComplete slot ma mv s) := by
  unfold execRampComplete
  dsimp only
  (repeat' split) <;> simp only [freshR_next, measured_flm, fresh_slotTo, hs]

theorem fresh_execLimitEngage {s : State} (slot ma mv : Nat) (hs : FlmFresh s.flm) : FreshR (execLimitEngage slot ma mv s) :=
  freshR_next (fresh_ite hs (fresh_ite (fresh_ite (fresh_latch _ _ (fresh_slotTo _ _ (fresh_of_eq (limitSupply_flm ..) (fresh_bump _ _ _ (fresh_of_eq (measured_flm ..) hs)))))
    (fresh_slotTo _ _ (fresh_of_eq (limitSupply_flm ..) (fresh_bump _ _ _ (fresh_of_eq (measured_flm ..) hs))))) (fresh_of_eq (measured_flm ..) hs)))

theorem fresh_execLimitDisengage {s : State} (slot ma mv : Nat) (hs : FlmFresh s.flm) : FreshR (execLimitDisengage slot ma mv s) := by
  unfold execLimitDisengage
  dsimp only
  (repeat' split) <;> simp only [freshR_next, measured_flm, fresh_slotTo, hs]

theorem fresh_execFaultTimerTrip {s : State} (slot ma mv : Nat) (hs : FlmFresh s.flm) : FreshR (execFaultTimerTrip slot ma mv s) := by
  unfold execFaultTimerTrip
  dsimp only
  (repeat' split) <;> simp only [freshR_next, fresh_latch, measured_flm, hs]

theorem fresh_execFastTrip {s : State} (slot ma mv : Nat) (hs : FlmFresh s.flm) : FreshR (execFastTrip slot ma mv s) :=
  freshR_next (fresh_ite hs (fresh_ite (fresh_ite (fresh_latch _ _ (fresh_of_eq (measured_flm ..) hs)) (fresh_gateUpdate _ _ (fresh_latch _ _ (fresh_of_eq (measured_flm ..) hs))))
    (fresh_of_eq (measured_flm ..) hs)))

theorem fresh_execPowerGoodQualified {s : State} (slot ma mv : Nat) (hs : FlmFresh s.flm) : FreshR (execPowerGoodQualified slot ma mv s) := by
  unfold execPowerGoodQualified
  dsimp only
  (repeat' split) <;> simp only [freshR_next, measured_flm, portPowered_flm, slotEvent_flm, fresh_slotTo, hs]

theorem fresh_takeSettings {s : State} (st : Settings) (hs : FlmFresh s.flm) : FlmFresh (s.takeSettings st).flm := by
  refine fresh_set _ _ _ _ (fresh_set _ _ _ _ (fresh_set _ _ _ _ (fresh_mk ?_)))
  dsimp only
  exact flmFresh_mk hs

theorem fresh_readStore {s : State} (hs : FlmFresh s.flm) : FlmFresh s.readStore.flm := by
  simp only [State.readStore, showBank_flm, fresh_takeSettings, hs]

theorem fresh_noticeNs {s : State} (old : List (Nat × List NsEnt)) (hs : FlmFresh s.flm) : FlmFresh (s.noticeNs old).flm :=
  fresh_foldl _ (fun _ _ ht => fresh_ite ht (fresh_asyncAll _ _ _ _ ht)) hs

theorem fresh_liveEffect {s : State} (hs : FlmFresh s.flm) : FlmFresh s.liveEffect.flm := by
  simp +contextual only [State.liveEffect, implies_true, fresh_foldl, brandNs_flm, changeGates_flm, changeMeters_flm, fresh_noticeNs, hs]

theorem fresh_settled {s : State} (cs : List StoreChange) (hs : FlmFresh s.flm) : FlmFresh (s.settled cs).flm := by
  unfold State.settled
  extract_lets st delivered flm u v mi w only x y
  have hu : FlmFresh u.flm := fresh_ite (fresh_mk (flmFresh_mk hs)) hs
  have hw : FlmFresh w.flm := fresh_mk (fresh_set _ _ _ _ (fresh_set _ _ _ _ hu))
  have hx : FlmFresh x.flm := fresh_ite (fresh_of_eq (showPending_flm ..) (fresh_set _ _ _ _ hw)) hw
  have hy : FlmFresh y.flm := fresh_of_eq (showSource_flm ..) hx
  have hz : ∀ n, FlmFresh (y.ovlDiscarded n).flm := fun n => fresh_of_eq (ovlDiscarded_flm ..) hy
  exact fresh_ite (fresh_mk (fresh_ite (fresh_of_eq (patWarns_flm ..) (hz _)) (hz _))) hy

theorem fresh_readBack {s : State} (rb : ReadBack) (hs : FlmFresh s.flm) : FreshP (s.readBack rb) := by
  refine freshP_mk ?_
  dsimp only
  split
  · exact hs
  · split
    · refine fresh_settled _ ?_
      split
      · exact fresh_of_eq (raise_flm ..) (fresh_of_eq (raise_flm ..) (fresh_set _ _ _ _ (fresh_setFlag _ _ _ _ (fresh_of_eq (showBank_flm ..) (fresh_of_eq (setBank_flm ..) hs)))))
      · exact fresh_of_eq (raise_flm ..) (fresh_set _ _ _ _ (fresh_setFlag _ _ _ _ (fresh_of_eq (showBank_flm ..) (fresh_of_eq (setBank_flm ..) hs))))
    · split
      · exact fresh_of_eq (commitFails_flm ..) (fresh_of_eq (showBank_flm ..) (fresh_set _ _ _ _ hs))
      · exact hs

theorem flmFresh_afterReset (f : Flm) (c : Cls) : FlmFresh (f.afterReset c) := by
  rw [flmFresh_iff]
  unfold Flm.afterReset
  split <;> exact fun _ hx => absurd hx List.not_mem_nil

/-- A reset leaves the sender without messages. -/
theorem fresh_resetTo {s : State} (c : Cls) : FlmFresh (s.resetTo c).flm := by
  unfold State.resetTo
  dsimp only
  have h : FlmFresh ((((s.pinsAtReset c).gatesOff).resetUnits c).resetRegs c).flm := by
    rw [resetRegs_flm]
    exact flmFresh_afterReset _ c
  exact fresh_set _ _ _ _ (fresh_cond (fresh_setFlag _ _ _ _ h) h)

theorem fresh_bootStore {s : State} (c : Cls) (hs : FlmFresh s.flm) : FlmFresh (s.bootStore c).flm :=
  fresh_of_eq (raise_flm ..) (fresh_mk (fresh_readStore (fresh_cond (fresh_set _ _ _ _ hs) (fresh_emit _ (fresh_set _ _ _ _ hs)))))

theorem fresh_bootSteps {s : State} (c : Cls) (selfTest : Nat) (hs : FlmFresh s.flm) : FlmFresh (s.bootSteps c selfTest).flm := by
  simp only [State.bootSteps, fresh_cond, bootSelfTest_flm, fresh_bootStore, bootStraps_flm, hs]

theorem fresh_execSysReset {s : State} (hs : FlmFresh s.flm) : FreshR (execSysReset s) := by
  simp only [execSysReset, fresh_cond, freshR_next, cause_flm, fresh_resetTo, hs]

theorem fresh_execSysRstNRelease {s : State} (sideB recovery : Bool) (selfTest : Nat) (hs : FlmFresh s.flm) : FreshR (execSysRstNRelease sideB recovery selfTest s) := by
  unfold execSysRstNRelease
  split <;> simp only [freshR_next, fresh_bootSteps, hs]

theorem fresh_execWarmResetEffect {s : State} (selfTest : Nat) (hs : FlmFresh s.flm) : FreshR (execWarmResetEffect selfTest s) := by
  unfold execWarmResetEffect
  dsimp only
  (repeat' split) <;> simp only [freshR_next, fresh_bootSteps, cause_flm, fresh_resetTo, hs]

theorem fresh_execFatalReset {s : State} (selfTest : Nat) (hs : FlmFresh s.flm) : FreshR (execFatalReset selfTest s) := by
  unfold execFatalReset
  split <;> simp only [freshR_next, fresh_bootSteps, cause_flm, fresh_resetTo, hs]

/-! ### Recovery, and packets of Flume -/

theorem fresh_allocated {s : State} (c : Cmd) (hs : FlmFresh s.flm) : FlmFresh (s.allocated c).flm := by
  unfold State.allocated
  (repeat' split) <;> simp only [fresh_endCmd, fresh_fetchData, writeHeldBlocks_flm, hs]

theorem fresh_execMapCommitDone {s : State} (group : Nat) (allocs : List (Nat × Nat × ExtEnt)) (hs : FlmFresh s.flm) : FreshR (execMapCommitDone group allocs s) := by
  refine freshR_next (fresh_inStep _ (fun _ ht => ?_) hs)
  dsimp only
  split
  · exact ht
  · exact fresh_of_eq (startBrand_flm ..) (fresh_ackWrites (fresh_foldl _ (fun _ _ ht => fresh_allocated _ ht) (fresh_foldl _ (fun _ _ ht => fresh_endCmd _ _ _ ht) (fresh_of_eq
      (dirtyLevel_flm ..) (fresh_mk (fresh_foldl _ (fun _ _ ht => fresh_of_eq (setExtent_flm ..) ht) (fresh_of_eq (setGrp_flm ..) ht)))))))

theorem fresh_restoreCounter {s : State} (c : Option Nat) (hs : FlmFresh s.flm) : FlmFresh (s.restoreCounter c).flm := by
  unfold State.restoreCounter
  (repeat' split) <;> simp only [flmFresh_mk_iff, raise_flm, fresh_setFlag, hs]

theorem fresh_recoverDump {s : State} (f : FoundDump) (hs : FlmFresh s.flm) : FlmFresh (s.recoverDump f).flm := by
  unfold State.recoverDump
  extract_lets s1 s2 s3 tly s4 s5 s6 s7 s8
  have h2 : FlmFresh s2.flm := fresh_set _ _ _ _ (fresh_set _ _ _ _ hs)
  have h4 : FlmFresh s4.flm := fresh_mk (fresh_ite h2 (fresh_of_eq (raise_flm ..) h2))
  have h5 : FlmFresh s5.flm := by
    unfold s5
    split
    · exact fresh_restoreCounter _ (fresh_of_eq (restoreControl_flm ..) h4)
    · exact fresh_restoreCounter _ (fresh_of_eq (markAll_flm ..) (fresh_of_eq (raise_flm ..) (fresh_set _ _ _ _ h4)))
  have h6 : FlmFresh s6.flm := fresh_foldl _ (fun _ _ ht => fresh_of_eq (loseSegment_flm ..) ht) h5
  have h7 : FlmFresh s7.flm := fresh_ite h6 (fresh_of_eq (raise_flm ..) (fresh_of_eq (raise_flm ..) h6))
  have h8 : FlmFresh s8.flm := fresh_foldl _ (fun _ _ ht => fresh_of_eq (restage_flm ..) ht) h7
  split
  · exact fresh_foldl _ (fun _ _ ht => fresh_of_eq (resolve_flm ..) ht) h8
  · exact h8

theorem fresh_recoverNothing {s : State} (hs : FlmFresh s.flm) : FlmFresh s.recoverNothing.flm :=
  fresh_ite (fresh_of_eq (raise_flm ..) (fresh_of_eq (markAll_flm ..) (fresh_setFlag _ _ _ _ (fresh_restoreCounter _ (fresh_set _ _ _ _ hs))))) (fresh_restoreCounter _
    (fresh_set _ _ _ _ hs))

theorem fresh_execRecovery {s : State} (found : Option FoundDump) (maps : List (Nat × Nat)) (exts : List (Nat × Nat × ExtEnt)) (hs : FlmFresh s.flm) :
    FreshR (execRecovery found maps exts s) := by
  refine freshR_next ?_
  dsimp only
  split
  · refine fresh_foldl _ (fun _ _ ht => fresh_of_eq (startRebuild_flm ..) (fresh_of_eq (startBrand_flm ..) ht)) (fresh_of_eq (vaultChanged_flm ..) ?_)
    split
    · split
      · split
        · exact fresh_set _ _ _ _ (fresh_mk (fresh_recoverNothing (fresh_set _ _ _ _ (fresh_foldl _ (fun _ _ ht => fresh_of_eq (setExtent_flm ..) ht) hs))))
        · exact fresh_mk (fresh_recoverNothing (fresh_set _ _ _ _ (fresh_foldl _ (fun _ _ ht => fresh_of_eq (setExtent_flm ..) ht) hs)))
      · split
        · exact fresh_set _ _ _ _ (fresh_of_eq (ledgerCopied_flm ..) (fresh_recoverDump _ (fresh_foldl _ (fun _ _ ht => fresh_of_eq (setExtent_flm ..) ht) hs)))
        · exact fresh_of_eq (ledgerCopied_flm ..) (fresh_recoverDump _ (fresh_foldl _ (fun _ _ ht => fresh_of_eq (setExtent_flm ..) ht) hs))
    · split
      · exact fresh_set _ _ _ _ (fresh_mk (fresh_recoverNothing (fresh_foldl _ (fun _ _ ht => fresh_of_eq (setExtent_flm ..) ht) hs)))
      · exact fresh_mk (fresh_recoverNothing (fresh_foldl _ (fun _ _ ht => fresh_of_eq (setExtent_flm ..) ht) hs))
  · exact hs

theorem fresh_nackTo {s : State} (peer msgId opcode pktIndex cls : Nat) (r : NackReason) (hs : FlmFresh s.flm) : FlmFresh (s.nackTo peer msgId opcode pktIndex cls r).flm :=
  fresh_sendCtl _ (fresh_of_eq (raise_flm ..) (fresh_of_eq (ledgerLimited_flm ..) (fresh_setFlag _ _ _ _ (fresh_set _ _ _ _ (fresh_set _ _ _ _ (fresh_set _ _ _ _ (fresh_ite
    (fresh_bump _ _ _ (fresh_bump _ _ _ hs)) (fresh_bump _ _ _ hs))))))))

theorem fresh_busyTo {s : State} (peer msgId cls : Nat) (r : BusyReason) (holdUs : Nat) (hs : FlmFresh s.flm) : FlmFresh (s.busyTo peer msgId cls r holdUs).flm := by
  unfold State.busyTo
  split <;> simp only [fresh_bump, count_flm, raise_flm, fresh_sendCtl, hs]

theorem fresh_busyPower {s : State} (dg : Datagram) (h : FlumeHdr) (hs : FlmFresh s.flm) : FlmFresh (s.busyPower dg h).flm := by
  unfold State.busyPower
  split <;> simp only [fresh_bump, fresh_cookieUsed, count_flm, perform_flm, hs]

theorem fresh_returnBuf {s : State} (x : Slot) (hs : FlmFresh s.flm) : FlmFresh (s.returnBuf x).flm := by
  unfold State.returnBuf
  dsimp only
  (repeat' split) <;> simp only [fresh_setWq, hs]

theorem fresh_slotGone {s : State} (x : Slot) (hs : FlmFresh s.flm) : FlmFresh (s.slotGone x).flm := by
  unfold State.slotGone
  split <;> simp only [fresh_dropSlot, fresh_winRelease, hs]

theorem fresh_refuseSlot {s : State} (x : Slot) (r : NackReason) (hs : FlmFresh s.flm) : FlmFresh (s.refuseSlot x r).flm := fresh_putOutcome _ _ _ _ (fresh_returnBuf _ (fresh_slotGone _ hs))

theorem fresh_completeSlot {s : State} (x : Slot) (hs : FlmFresh s.flm) : FlmFresh (s.completeSlot x).flm :=
  fresh_ite (fresh_nackTo _ _ _ _ _ _ (fresh_refuseSlot _ _ hs)) (fresh_sendCtl _ (fresh_of_eq (count_flm ..) (fresh_ite (fresh_post _ _ (fresh_putOutcome _ _ _ _ (fresh_slotGone _ hs)))
    (fresh_ite (fresh_post _ _ (fresh_putOutcome _ _ _ _ (fresh_slotGone _ hs))) (fresh_putOutcome _ _ _ _ (fresh_slotGone _ hs))))))

theorem fresh_putFilter {s : State} (h : FlumeHdr) (hs : FlmFresh s.flm) : FlmFresh (s.putFilter h).flm := by
  simp only [State.putFilter, flmFresh_mk_iff, hs]

theorem fresh_leaveFences {s : State} (peer msgId : Nat) (hs : FlmFresh s.flm) : FlmFresh (s.leaveFences peer msgId).flm := by
  simp only [State.leaveFences, flmFresh_mk_iff, hs]

theorem fresh_fenceEnded {s : State} (n peer msgId : Nat) (hs : FlmFresh s.flm) : FlmFresh (State.fenceEnded n peer msgId s).flm := by
  induction n generalizing s peer msgId with
  | zero => exact hs
  | succ n ih =>
    unfold State.fenceEnded
    refine fresh_foldl _ (fun t x ht => ?_) (fresh_leaveFences peer msgId hs)
    split
    · exact ih _ _ (fresh_completeSlot x ht)
    · exact ht

theorem fresh_ended {s : State} (peer msgId : Nat) (hs : FlmFresh s.flm) : FlmFresh (s.ended peer msgId).flm := by
  simp only [State.ended, fresh_fenceEnded, hs]

theorem fresh_ackSlot {s : State} (x : Slot) (hs : FlmFresh s.flm) : FlmFresh (s.ackSlot x).flm := by
  simp only [State.ackSlot, fresh_sendCtl, fresh_setSlot, hs]

theorem fresh_nack {s : State} (dg : Datagram) (h : FlumeHdr) (r : NackReason) (hs : FlmFresh s.flm) : FlmFresh (s.nack dg h r).flm := by
  refine fresh_nackTo _ _ _ _ _ _ ?_
  split
  · split
    · exact fresh_of_eq (answerFlow_flm ..) hs
    · exact fresh_ended _ _ (fresh_refuseSlot _ _ (fresh_of_eq (answerFlow_flm ..) hs))
  · exact fresh_of_eq (answerFlow_flm ..) hs

/-- A datagram the front of R92 ends, or lets through, leaves the messages of the sender fresh. -/
theorem fresh_front {s : State} (dg : Datagram) (hs : FlmFresh s.flm) :
    (∀ t, s.front dg = .done t → FlmFresh t.flm) ∧ ∀ t h es bs, s.front dg = .pass t h es bs → FlmFresh t.flm := by
  unfold State.front
  dsimp only
  generalize FlumeHdr.ofBytes dg.payload = h
  have hc : FlmFresh (s.count 3 0 0).flm := by rwa [count_flm]
  generalize s.count 3 0 0 = c at hc ⊢
  have hu : FlmFresh (if (c.flow? h.srcPeer).isSome then (c.answerFlow dg h.srcPeer).1 else c).flm := fresh_ite (by rwa [answerFlow_flm]) hc
  generalize (if (c.flow? h.srcPeer).isSome then (c.answerFlow dg h.srcPeer).1 else c) = u at hu ⊢
  constructor
  · intro t ht
    (repeat' split at ht) <;> cases ht <;> simp only [fresh_bump, fresh_nack, logDrop_flm, raiseLimited_flm, hs, hc, hu]
  · intro t x es bs ht
    (repeat' split at ht) <;> cases ht
    assumption

theorem fresh_fromTable {s : State} (dg : Datagram) (h : FlumeHdr) (e : RmtEntry) (hs : FlmFresh s.flm) : FlmFresh (s.fromTable dg h e).flm := by
  unfold State.fromTable
  split <;> simp only [answerFlow_flm, fresh_bump, fresh_sendCtl, hs]

theorem fresh_hold {s : State} (x : Slot) (h : FlumeHdr) (hs : FlmFresh s.flm) : FlmFresh (s.hold x h).flm :=
  fresh_ite (fresh_ended _ _ (fresh_completeSlot _ (fresh_setSlot _ hs))) (fresh_ite (fresh_ackSlot _ hs) (fresh_setSlot _ hs))

theorem fresh_dupPacket {s : State} (x : Slot) (h : FlumeHdr) (hs : FlmFresh s.flm) : FlmFresh (s.dupPacket x h).flm := by
  unfold State.dupPacket
  dsimp only
  split
  · exact fresh_ackSlot _ (fresh_setSlot _ (fresh_bump _ _ _ hs))
  · exact fresh_setSlot _ (fresh_bump _ _ _ hs)

theorem fresh_accept {s : State} (dg : Datagram) (h : FlumeHdr) (ids : List Nat) (payload : List Byte) (place : Option (List (Nat × Nat))) (hs : FlmFresh s.flm) :
    FlmFresh (s.accept dg h ids payload place).flm := by
  unfold State.accept
  split
  · (repeat' split) <;> simp only [fresh_dupPacket, fresh_hold, fresh_nack, raise_flm, writeSpans_flm, hs]
  · extract_lets u w buf left x f t1 t2 t3 x2 t4
    have hu : FlmFresh u.flm := by rwa [answerFlow_flm]
    have h1 : FlmFresh t1.flm := (flmFresh_mk_iff ..).mpr hu
    have h2 : FlmFresh t2.flm := fresh_ite (by rwa [raise_flm]) h1
    have h3 : FlmFresh t3.flm := fresh_ite (by rwa [raise_flm]) h2
    have h4 : FlmFresh t4.flm := fresh_ite (fresh_setWq _ _ h3) h3
    clear_value t4 t3 t2 t1 x2 f x left buf w u
    (repeat' split) <;> simp only [fresh_busyTo, fresh_hold, fresh_nack, fresh_setSlot, raise_flm, writeSpans_flm, hu, h3, h4]

theorem fresh_message {s : State} (dg : Datagram) (h : FlumeHdr) (es : List FlumeExt) (payload : List Byte) (place : Option (List (Nat × Nat))) (hs : FlmFresh s.flm) :
    FlmFresh (s.message dg h es payload place).flm := by
  unfold State.message
  (repeat' split) <;> simp only [fresh_accept, fresh_busyPower, fresh_fromTable, fresh_nack, wakeSource_flm, hs]

theorem fresh_badOpcode {s : State} (dg : Datagram) (h : FlumeHdr) (hs : FlmFresh s.flm) : FlmFresh (s.badOpcode dg h).flm := by
  unfold State.badOpcode
  split <;> simp only [fresh_fromTable, fresh_nack, hs]

theorem fresh_otherOpcode {s t : State} (dg : Datagram) (h : FlumeHdr) (hs : FlmFresh s.flm) (ht : FlmFresh t.flm) : FlmFresh (s.otherOpcode t dg h).flm := by
  unfold State.otherOpcode
  split
  · exact hs
  · split
    · exact ht
    · exact fresh_badOpcode _ _ ht

theorem fresh_execSendPacketRx {s : State} (dg : Datagram) (place : Option (List (Nat × Nat))) (hs : FlmFresh s.flm) : FreshR (execSendPacketRx dg place s) := by
  refine freshR_next (fresh_inStep _ (fun _ ht => ?_) hs)
  obtain ⟨hdone, hpass⟩ := fresh_front dg ht
  split
  · exact hdone _ ‹_›
  · have hu := hpass _ _ _ _ ‹_›
    (repeat' split) <;> simp only [fresh_message, fresh_otherOpcode, hu, ht]

theorem fresh_execWritePacketRx {s : State} (dg : Datagram) (place : Option (List (Nat × Nat))) (hs : FlmFresh s.flm) : FreshR (execWritePacketRx dg place s) := by
  refine freshR_next (fresh_inStep _ (fun _ ht => ?_) hs)
  obtain ⟨hdone, hpass⟩ := fresh_front dg ht
  split
  · exact hdone _ ‹_›
  · have hu := hpass _ _ _ _ ‹_›
    (repeat' split) <;> simp only [fresh_message, fresh_otherOpcode, hu, ht]

theorem fresh_answerRead {s : State} (cls : Nat) (h : FlumeHdr) (skip : Option (Nat × Nat × Nat)) (l : List (Option (List (Nat × Nat)))) (i : Nat) (hs : FlmFresh s.flm) :
    FlmFresh (State.answerRead cls h skip l i s).flm := by
  induction l generalizing i s with
  | nil => exact hs
  | cons sp l ih =>
    unfold State.answerRead
    refine fresh_ite hs (fresh_ite (ih _ hs) ?_)
    split
    · rwa [raise_flm]
    · exact hs
    · refine ih _ ?_
      rw [sendFlume_flm]
      exact fresh_cookieUsed (by rwa [setFlow_flm])

theorem fresh_execReadRx {s : State} (dg : Datagram) (spans : List (Option (List (Nat × Nat)))) (hs : FlmFresh s.flm) : FreshR (execReadRx dg spans s) := by
  refine freshR_next (fresh_inStep _ (fun _ ht => ?_) hs)
  obtain ⟨hdone, hpass⟩ := fresh_front dg ht
  split
  · exact hdone _ ‹_›
  · have hu := hpass _ _ _ _ ‹_›
    dsimp only
    (repeat' split) <;> simp only [answerFlow_flm, fresh_putFilter, fresh_answerRead, fresh_bump, fresh_busyPower, fresh_fromTable, fresh_nack, fresh_otherOpcode, hu, ht]

theorem fresh_takeResp {s : State} (m : Msg) (h : FlumeHdr) (payload : List Byte) (place : Option (List (Nat × Nat))) (hs : FlmFresh s.flm) :
    FlmFresh (s.takeResp m h payload place).flm := by
  unfold State.takeResp
  dsimp only
  (repeat' split) <;> simp only [setFlow_flm, writeSpans_flm, fresh_bump, fresh_finishMsg, fresh_setMsg, hs]

theorem fresh_rxReadResp {s : State} (dg : Datagram) (place : Option (List (Nat × Nat))) (hs : FlmFresh s.flm) : FlmFresh (rxReadResp dg place s).flm := by
  unfold rxReadResp
  obtain ⟨hdone, hpass⟩ := fresh_front dg hs
  split
  · exact hdone _ ‹_›
  · have hu := hpass _ _ _ _ ‹_›
    (repeat' split) <;> simp only [lateResp_flm, fresh_badOpcode, fresh_otherOpcode, fresh_takeResp, hu, hs]

theorem fresh_takeAck {s : State} (dg : Datagram) (m : Msg) (h : FlumeHdr) (es : List FlumeExt) (hs : FlmFresh s.flm) : FlmFresh (s.takeAck dg m h es).flm := by
  unfold State.takeAck
  split
  · rw [probeAnswered_flm]
    exact flmFresh_filter _ hs
  · extract_lets g newly heard u
    have hu : FlmFresh u.flm := by
      unfold u
      split
      · exact hs
      · dsimp only
        split <;> rwa [setFlow_flm]
    clear_value u
    refine fresh_ite (fresh_finishMsg _ _ _ hu) (fresh_pump _ (fresh_ite (fresh_foldl _ (fun t x ht => ?_) (fresh_setMsg _ hu)) (fresh_setMsg _ hu)))
    split
    · exact fresh_losePkt _ _ ht
    · exact ht

theorem fresh_rxAck {s : State} (dg : Datagram) (hs : FlmFresh s.flm) : FlmFresh (rxAck dg s).flm := by
  unfold rxAck
  obtain ⟨hdone, hpass⟩ := fresh_front dg hs
  split
  · exact hdone _ ‹_›
  · have hu := hpass _ _ _ _ ‹_›
    (repeat' split) <;> simp only [fresh_badOpcode, fresh_otherOpcode, fresh_takeAck, hu, hs]

theorem fresh_rxNack {s : State} (dg : Datagram) (hs : FlmFresh s.flm) : FlmFresh (rxNack dg s).flm := by
  unfold rxNack
  obtain ⟨hdone, hpass⟩ := fresh_front dg hs
  split
  · exact hdone _ ‹_›
  · have hu := hpass _ _ _ _ ‹_›
    (repeat' split) <;> simp only [raise_flm, fresh_badOpcode, fresh_finishMsg, fresh_otherOpcode, hu, hs]

theorem fresh_execBusyRx {s : State} (dg : Datagram) (hs : FlmFresh s.flm) : FreshR (execBusyRx dg s) := by
  refine freshR_next (fresh_inStep _ (fun _ ht => ?_) hs)
  obtain ⟨hdone, hpass⟩ := fresh_front dg ht
  split
  · exact hdone _ ‹_›
  · have hu := hpass _ _ _ _ ‹_›
    (repeat' split) <;> simp only [fresh_badOpcode, fresh_otherOpcode, fresh_setMsg, hu, ht]

theorem fresh_execProbeRx {s : State} (dg : Datagram) (hs : FlmFresh s.flm) : FreshR (execProbeRx dg s) := by
  refine freshR_next (fresh_inStep _ (fun _ ht => ?_) hs)
  obtain ⟨hdone, hpass⟩ := fresh_front dg ht
  split
  · exact hdone _ ‹_›
  · have hu := hpass _ _ _ _ ‹_›
    (repeat' split) <;> simp only [answerFlow_flm, fresh_fromTable, fresh_nack, fresh_otherOpcode, fresh_sendCtl, hu, ht]

theorem fresh_execSlotExpiry {s : State} (peer msgId : Nat) (hs : FlmFresh s.flm) : FreshR (execSlotExpiry peer msgId s) := by
  refine freshR_next (fresh_inStep _ (fun t ht => ?_) hs)
  split
  · exact ht
  · refine fresh_ite ?_ ht
    split
    · refine fresh_ended _ _ ?_
      rw [raise_flm]
      refine fresh_bump _ _ _ ?_
      rw [putExpired_flm]
      exact fresh_returnBuf _ (fresh_slotGone _ ht)
    · exact fresh_ended _ _ (fresh_completeSlot _ ht)

theorem fresh_execTableEntryExpiry {s : State} (peer msgId : Nat) (hs : FlmFresh s.flm) : FreshR (execTableEntryExpiry peer msgId s) := by
  simp +contextual only [execTableEntryExpiry, flmFresh_mk_iff, implies_true, freshR_next, fresh_inStep, hs]

theorem fresh_execAckDelayExpiry {s : State} (peer msgId : Nat) (hs : FlmFresh s.flm) : FreshR (execAckDelayExpiry peer msgId s) := by
  unfold execAckDelayExpiry
  (repeat' split) <;> simp only [freshR_next, fresh_ackSlot, hs]

theorem fresh_timerExpiry {s : State} (msg pkt : Nat) (hs : FlmFresh s.flm) : FlmFresh (timerExpiry msg pkt s).flm := by
  unfold timerExpiry
  (repeat' split) <;> simp only [fresh_askRetx, fresh_losePkt, hs]

theorem fresh_holdExpiry {s : State} (msg : Nat) (hs : FlmFresh s.flm) : FlmFresh (holdExpiry msg s).flm := by
  unfold holdExpiry
  split
  · exact hs
  · refine fresh_ite (fresh_pump _ (fresh_foldl _ (fun t p ht => ?_) (fresh_setMsg _ hs))) hs
    split
    · exact fresh_askRetx _ _ ht
    · exact ht

theorem fresh_deadline {s : State} (msg : Nat) (hs : FlmFresh s.flm) : FlmFresh (deadline msg s).flm := by
  unfold deadline
  (repeat' split) <;> simp only [fresh_timeoutMsg, hs]

/-- A probe takes the next number. -/
theorem fresh_execProbeInterval {s : State} (peer path : Nat) (hs : FlmFresh s.flm) : FreshR (execProbeInterval peer path s) := by
  refine freshR_next ?_
  split
  · exact hs
  · dsimp only
    refine fresh_ite (fresh_transmit _ _ _ _ _ ?_) hs
    exact flmFresh_append hs rfl

theorem fresh_execProbeUnanswered {s : State} (msg : Nat) (hs : FlmFresh s.flm) : FreshR (execProbeUnanswered msg s) := by
  refine freshR_next ?_
  split
  · exact hs
  · split
    · dsimp only
      refine fresh_ite ?_ hs
      rw [pathTo_flm]
      exact flmFresh_filter _ hs
    · exact hs

/-! ### Sweeps and migration, the pair, power, work queues -/

theorem fresh_execSweepStripe {s : State} (group stripe : Nat) (reads : List ColRead) (hs : FlmFresh s.flm) : FreshR (execSweepStripe group stripe reads s) := by
  refine freshR_next (fresh_inStep _ (fun _ ht => ?_) hs)
  split <;> simp only [setGrp_flm, sweepAt_flm, fresh_ite, fresh_resumeSwept, ht]

theorem fresh_execTallyEntryFree {s : State} (group stripe : Nat) (reads : List ColRead) (hs : FlmFresh s.flm) : FreshR (execTallyEntryFree group stripe reads s) := by
  refine freshR_next (fresh_inStep _ (fun _ ht => ?_) hs)
  dsimp only
  (repeat' split) <;> simp only [destage_flm, rebuildStripe_flm, repairAt_flm, sweepAt_flm, fresh_resumeSwept, ht]

theorem fresh_sendGranule {s : State} (m : Mig) (n : NsEnt) (g : Nat) (blocks : List (Option (List Byte × Nat))) (hs : FlmFresh s.flm) : FlmFresh (s.sendGranule m n g blocks).flm := by
  simp only [State.sendGranule, fresh_submit, hs]

theorem fresh_execMigGranuleSend {s : State} (slot : Nat) (blocks : List (Option (List Byte × Nat))) (hs : FlmFresh s.flm) : FreshR (execMigGranuleSend slot blocks s) := by
  refine freshR_next (fresh_inStep _ (fun _ ht => ?_) hs)
  dsimp only
  (repeat' split) <;> simp only [nextPass_flm, setMig_flm, fresh_sendGranule, ht]

theorem fresh_execMigGranuleRx {s : State} (peer msgId sub nsid : Nat) (g : Granule) (hs : FlmFresh s.flm) : FreshR (execMigGranuleRx peer msgId sub nsid g s) := by
  refine freshR_next (fresh_inStep _ (fun _ ht => ?_) hs)
  dsimp only
  split
  · exact ht
  · exact fresh_ite ht (fresh_ite (fresh_sendCtl _ (fresh_drawn ht)) (fresh_of_eq (startBrand_flm ..) (fresh_of_eq (dirtyLevel_flm ..) (fresh_foldl _ (fun _ _ ht => fresh_of_eq
      (lostHere_flm ..) ht) (fresh_foldl _ (fun _ _ ht => fresh_of_eq (deallocBlock_flm ..) ht) (fresh_foldl _ (fun _ _ ht => fresh_of_eq (stage_flm ..) ht) ht))))))

theorem fresh_settleReports {s : State} (hs : FlmFresh s.flm) : FlmFresh s.settleReports.flm := by
  unfold State.settleReports
  refine fresh_ite hs (fresh_retryPulls (fresh_foldl _ (fun t r ht => ?_) hs))
  split
  · rwa [granuleReport_flm]
  · exact fresh_cmdReport _ ht

theorem fresh_ending {s : State} (f : State → State) (hf : ∀ (t : State), FlmFresh t.flm → FlmFresh (f t).flm) (hs : FlmFresh s.flm) : FlmFresh (s.ending f).flm :=
  fresh_inStep _ (fun _ ht => fresh_settleReports (hf _ ht)) hs

theorem fresh_serveAlone {s : State} (hs : FlmFresh s.flm) : FlmFresh s.serveAlone.flm := by
  simp only [State.serveAlone, fresh_ackWrites, linkAcked_flm, reissuePartner_flm, setRole_flm, hs]

theorem fresh_takeOver {s : State} (hs : FlmFresh s.flm) : FlmFresh s.takeOver.flm := by
  unfold State.takeOver
  dsimp only
  split <;> simp only [fresh_ite, fencePartner_flm, missedTicks_flm, number_flm, numberForwarded_flm, partnerIs_flm, raise_flm, fresh_serveAlone, setRole_flm, fresh_set, hs]

theorem fresh_resendAll {s : State} (hs : FlmFresh s.flm) : FlmFresh s.resendAll.flm := by
  unfold State.resendAll
  refine fresh_foldl _ (fun t m ht => fresh_ite ht (fresh_foldl _ (fun v p hv => ?_) ht)) hs
  split
  · rw [observe_flm]
    exact fresh_setMsg _ hv
  · exact hv

theorem fresh_settleTakeover {s : State} (hs : FlmFresh s.flm) : FlmFresh s.settleTakeover.flm := by
  refine fresh_ite hs (fresh_of_eq (raise_flm ..) (fresh_set _ _ _ _ (fresh_set _ _ _ _ (fresh_ackWrites (fresh_resendAll (fresh_of_eq (reissuePartner_flm ..) (fresh_of_eq
    (freshFlows_flm ..) (fresh_of_eq (linkAcked_flm ..) (fresh_mk ?_)))))))))
  dsimp only
  exact flmFresh_mk hs

theorem fresh_decidePartner {s : State} (w : ActiveIn) (hs : FlmFresh s.flm) : FlmFresh (s.decidePartner w).flm := by
  unfold State.decidePartner
  (repeat' split) <;> simp only [degrade_flm, detach_flm, fencePartner_flm, fresh_serveAlone, fresh_takeOver, hs]

theorem fresh_execFaultNotice {s : State} (wave : ActiveIn) (hs : FlmFresh s.flm) : FreshR (execFaultNotice wave s) :=
  freshR_next (fresh_ite hs (fresh_ite (fresh_setFlag _ _ _ _ (fresh_of_eq (seeActive_flm ..) hs)) (fresh_ite (fresh_decidePartner _ (fresh_of_eq (suspect_flm ..) (fresh_setFlag _ _ _ _
    (fresh_of_eq (seeActive_flm ..) hs)))) (fresh_of_eq (suspect_flm ..) (fresh_setFlag _ _ _ _ (fresh_of_eq (seeActive_flm ..) hs))))))

theorem fresh_execPairActiveInLoss {s : State} (dead : Bool) (hs : FlmFresh s.flm) : FreshR (execPairActiveInLoss dead s) := by
  unfold execPairActiveInLoss
  dsimp only
  (repeat' split) <;> simp only [freshR_next, fresh_decidePartner, seeActive_flm, hs]

theorem fresh_onFrame {s : State} (fr : LinkFrame) (f : State → State) (hf : ∀ (t : State), FlmFresh t.flm → FlmFresh (f t).flm) (hs : FlmFresh s.flm) : FlmFresh (s.onFrame fr f).flm := by
  unfold State.onFrame
  (repeat' split) <;> simp only [fresh_bump, linkAck_flm, replay_flm, sendNak_flm, hs, hf]

theorem fresh_execStagedRx {s : State} (fr : LinkFrame) (hs : FlmFresh s.flm) : FreshR (execStagedRx fr s) := by
  refine freshR_next ?_
  dsimp only
  split
  · exact fresh_onFrame _ _ (fun _ ht => fresh_inStep _ (fun _ hu => fresh_ackWrites hu) ht) hs
  · exact hs

theorem fresh_diverged {s : State} (hs : FlmFresh s.flm) : FlmFresh s.diverged.flm := by
  unfold State.diverged
  dsimp only
  (repeat' split) <;> simp only [fresh_bump, detach_flm, join_flm, partnerIs_flm, raise_flm, fresh_serveAlone, hs]

theorem fresh_compareDigests {s : State} (hs : FlmFresh s.flm) : FlmFresh s.compareDigests.flm := by
  unfold State.compareDigests
  (repeat' split) <;> simp only [fresh_diverged, hs]

theorem fresh_execDigestRx {s : State} (fr : LinkFrame) (hs : FlmFresh s.flm) : FreshR (execDigestRx fr s) := by
  refine freshR_next ?_
  dsimp only
  split
  · exact fresh_onFrame _ _ (fun _ ht => fresh_ite (fresh_compareDigests ht) ht) hs
  · exact hs

theorem fresh_digestSend {s : State} (hs : FlmFresh s.flm) : FlmFresh s.digestSend.flm :=
  fresh_ite (fresh_compareDigests (fresh_of_eq (sendLink_flm ..) (fresh_mk (fresh_set _ _ _ _ (fresh_set _ _ _ _ hs))))) hs

theorem fresh_stepPoison {s : State} (a : Nat) (owner : MemUse) (hs : FlmFresh s.flm) : FlmFresh (s.stepPoison a owner).flm := by
  unfold State.stepPoison
  (repeat' split) <;> simp only [fresh_diverged, fresh_emit, noGoodCopy_flm, poisonStaging_flm, hs]

theorem fresh_finding {s : State} (a : Nat) (f : EccFinding) (owner : MemUse) (hs : FlmFresh s.flm) : FlmFresh (s.finding a f owner).flm := by
  unfold State.finding
  dsimp only
  split
  · exact hs
  · refine fresh_of_eq (pageWeak_flm ..) ?_
    split
    · exact fresh_of_eq (raiseLimited_flm ..) (fresh_of_eq (logEcc_flm ..) (fresh_bump _ _ _ hs))
    · exact fresh_bump _ _ _ (fresh_of_eq (raiseLimited_flm ..) (fresh_of_eq (logEcc_flm ..) (fresh_bump _ _ _ hs)))
  · exact fresh_stepPoison _ _ (fresh_setPoison _ (fresh_of_eq (raise_flm ..) (fresh_of_eq (logEcc_flm ..) (fresh_bump _ _ _ hs))))
  · exact fresh_stepPoison _ _ (fresh_setPoison _ (fresh_of_eq (logEcc_flm ..) hs))

/-! ### NVMe commands and firmware -/

theorem fresh_recognised {s : State} (w : StepWrite) (effect : State → State) (heffect : ∀ (t : State), FlmFresh t.flm → FlmFresh (effect t).flm) (hs : FlmFresh s.flm) :
    FlmFresh (s.recognised w effect).flm := by
  unfold State.recognised
  split <;> simp +contextual only [implies_true, fresh_stepWrite, hs, heffect]

theorem fresh_showThrough {s : State} (hs : FlmFresh s.flm) : FlmFresh s.showThrough.flm :=
  fresh_cond hs (fresh_cond (fresh_of_eq (raise_flm ..) (fresh_setFlag _ _ _ _ hs)) (fresh_of_eq (raise_flm ..) (fresh_of_eq (dirtyLevel_flm ..) (fresh_ackWrites
    (fresh_setFlag _ _ _ _ hs)))))

theorem fresh_holdupStep {s : State} (sideB ok : Bool) (hs : FlmFresh s.flm) : FlmFresh (s.holdupStep sideB ok).flm := by
  simp only [State.holdupStep, fresh_cond, fresh_showThrough, hs]

theorem fresh_execHoldupChange {s : State} (ok : Bool) (hs : FlmFresh s.flm) : FreshR (execHoldupChange ok s) :=
  freshR_next (fresh_ite hs (fresh_recognised _ _ (fun _ ht => fresh_holdupStep _ _ ht) (fresh_ite (fresh_setFlag _ _ _ _ hs) (fresh_setFlag _ _ _ _ (fresh_setFlag _ _ _ _ hs)))))

theorem fresh_execBootReady {s : State} (hs : FlmFresh s.flm) : FreshR (execBootReady s) :=
  freshR_next (fresh_ite (fresh_holdSlots _ (fresh_of_eq (presenceAtReady_flm ..) (fresh_ite (fresh_of_eq (trialStart_flm ..) (fresh_ite (fresh_of_eq (raise_flm ..) (fresh_set _ _ _ _
    (fresh_set _ _ _ _ (fresh_setFlag _ _ _ _ (fresh_set _ _ _ _ hs))))) (fresh_of_eq (raise_flm ..) (fresh_set _ _ _ _ (fresh_set _ _ _ _ (fresh_setFlag _ _ _ _
    (fresh_set _ _ _ _ hs))))))) (fresh_ite (fresh_of_eq (raise_flm ..) (fresh_set _ _ _ _ (fresh_set _ _ _ _ (fresh_setFlag _ _ _ _ (fresh_set _ _ _ _ hs))))) (fresh_of_eq (raise_flm ..)
    (fresh_set _ _ _ _ (fresh_set _ _ _ _ (fresh_setFlag _ _ _ _ (fresh_set _ _ _ _ hs))))))))) hs)

theorem fresh_slotHoldStep {s : State} (hs : FlmFresh s.flm) : FlmFresh s.slotHoldStep.flm := by
  unfold State.slotHoldStep
  (repeat' split) <;> simp only [abortEntry_flm, fresh_holdSlots, fresh_setFlag, hs]

theorem fresh_execFallowPonr {s : State} (hs : FlmFresh s.flm) : FreshR (execFallowPonr s) :=
  freshR_next (fresh_ite (fresh_ite (fresh_recognised _ _ (fun _ ht => fresh_slotHoldStep ht) (fresh_foldl _ (fun _ _ ht => fresh_ite (fresh_of_eq (setPort_flm ..) ht) ht) hs))
    (fresh_foldl _ (fun _ _ ht => fresh_ite (fresh_of_eq (setPort_flm ..) ht) ht) hs)) hs)

theorem fresh_execWakeDone {s : State} (hs : FlmFresh s.flm) : FreshR (execWakeDone s) :=
  freshR_next (fresh_ite hs (fresh_ite (fresh_of_eq (fallowOver_flm ..) (fresh_holdSlots _ (fresh_setFlag _ _ _ _ (fresh_mk (fresh_set _ _ _ _ (fresh_of_eq (gateIslands_flm ..) hs))))))
    (fresh_of_eq (drivesAwake_flm ..) (fresh_mk (fresh_set _ _ _ _ (fresh_of_eq (gateIslands_flm ..) hs))))))

theorem fresh_winCommit {s : State} (index gen : Nat) (staged : Bool) (shadow : WinHalf) (hs : FlmFresh s.flm) : FlmFresh (State.winCommit index gen staged shadow s).flm := by
  refine fresh_ite (fresh_of_eq (winResult_flm ..) hs) (fresh_ite (fresh_of_eq (winResult_flm ..) hs) (fresh_ite (fresh_of_eq (winResult_flm ..) hs) (fresh_ite (fresh_of_eq
    (winResult_flm ..) hs) (fresh_ite (fresh_of_eq (winResult_flm ..) (fresh_setWin _ _ hs)) ?_))))
  dsimp only
  exact flmFresh_mk (fresh_set _ _ _ _ (fresh_setFlag _ _ _ _ (fresh_setWin _ _ hs)))

theorem fresh_execWindowCommitApply {s : State} (hs : FlmFresh s.flm) : FreshR (execWindowCommitApply s) := by
  refine freshR_next (fresh_inStep _ (fun _ ht => ?_) hs)
  dsimp only
  split
  · exact ht
  · exact fresh_ite (fresh_of_eq (winResult_flm ..) (fresh_setFlag _ _ _ _ (fresh_mk (flmFresh_mk (fresh_setWin _ _ ht))))) ht

theorem fresh_execReadFilterExpiry {s : State} (peer msgId : Nat) (hs : FlmFresh s.flm) : FreshR (execReadFilterExpiry peer msgId s) := by
  simp +contextual only [execReadFilterExpiry, flmFresh_mk_iff, implies_true, freshR_next, fresh_inStep, hs]

theorem fresh_doomSends {s : State} (wq : Nat) (drop : Bool) (hs : FlmFresh s.flm) : FlmFresh (s.doomSends wq drop).flm := by
  simp only [State.doomSends, flmFresh_mk_iff, hs]

theorem fresh_openWq {s : State} (wq : Nat) (c : WqCtx) (hs : FlmFresh s.flm) : FlmFresh (State.openWq wq c s).flm := by
  simp only [State.openWq, fresh_ite, fresh_setWq, hs]

theorem fresh_closeWq {s : State} (wq : Nat) (hs : FlmFresh s.flm) : FlmFresh (State.closeWq wq s).flm := by
  simp only [State.closeWq, fresh_doomSends, fresh_setWq, hs]

theorem fresh_resetWq {s : State} (wq : Nat) (hs : FlmFresh s.flm) : FlmFresh (State.resetWq wq s).flm := by
  simp only [State.resetWq, fresh_doomSends, fresh_setWq, hs]

theorem fresh_ringSq {s : State} (wq tail cqHead : Nat) (hs : FlmFresh s.flm) : FlmFresh (State.ringSq wq tail cqHead s).flm := by
  simp only [State.ringSq, fresh_setWq, hs]

theorem fresh_ringRq {s : State} (wq tail cqHead : Nat) (bufs : List RxBuf) (hs : FlmFresh s.flm) : FlmFresh (State.ringRq wq tail cqHead bufs s).flm := by
  simp only [State.ringRq, fresh_setWq, hs]

theorem fresh_execKvqRing {s : State} (engine : Nat) (mode : Mode) (rs1 rs2 : Word) (cqHead : Nat) (bufs : List RxBuf) (hs : FlmFresh s.flm) :
    FreshR (execKvqRing engine mode rs1 rs2 cqHead bufs s) :=
  freshR_next (fresh_ite (fresh_of_eq (kvqIllegal_flm ..) hs) (fresh_ite (fresh_stepWrite _ _ _ (fun _ ht => fresh_ringRq _ _ _ _ ht) hs) (fresh_stepWrite _ _ _
    (fun _ ht => fresh_ringSq _ _ _ ht) hs)))

theorem fresh_tookDesc {s : State} (wq : Nat) (hs : FlmFresh s.flm) : FlmFresh (s.tookDesc wq).flm := by
  simp only [State.tookDesc, fresh_setWq, hs]

theorem fresh_flushDescs {s : State} (wq : Nat) (l : List SendDesc) (hs : FlmFresh s.flm) : FlmFresh (State.flushDescs wq l s).flm := by
  induction l generalizing s with
  | nil => exact hs
  | cons d l ih =>
    unfold State.flushDescs
    exact fresh_ite hs (ih (fresh_tookDesc _ (fresh_completeDesc _ _ _ _ _ _ _ hs)))

theorem fresh_errorWq {s : State} (wq : Nat) (rest : List SendDesc) (hs : FlmFresh s.flm) : FlmFresh (s.errorWq wq rest).flm :=
  fresh_flushDescs _ _ (fresh_of_eq (raise_flm ..) (fresh_setWq _ _ (fresh_doomSends _ _ hs)))

theorem fresh_startMsg {s : State} (wq : Nat) (d : SendDesc) (ip : IpAddr) (src : MsgSrc) (tag : Option Nat) (hs : FlmFresh s.flm) : FlmFresh (s.startMsg wq d ip src tag).flm := by
  refine fresh_submit _ _ (fresh_tookDesc _ ?_)
  split
  · exact fresh_holdTag _ _ hs
  · exact hs

theorem fresh_waitDesc {s : State} (wq : Nat) (d : SendDesc) (r : DescWait) (hs : FlmFresh s.flm) : FlmFresh (s.waitDesc wq d r).flm := by
  simp only [State.waitDesc, fresh_setWq, hs]

theorem fresh_endDesc {s : State} (wq : Nat) (d : SendDesc) (st : DescStatus) (hs : FlmFresh s.flm) : FlmFresh (s.endDesc wq d st).flm := by
  simp only [State.endDesc, fresh_completeDesc, fresh_tookDesc, hs]

theorem fresh_startData {s : State} (wq : Nat) (d : SendDesc) (ip : IpAddr) (src : MsgSrc) (hs : FlmFresh s.flm) : FlmFresh (s.startData wq d ip src).flm := by
  unfold State.startData
  (repeat' split) <;> simp only [fresh_startMsg, fresh_waitDesc, hs]

theorem fresh_tryWait {s : State} (wq : Nat) (d : SendDesc) (rest : List SendDesc) (hs : FlmFresh s.flm) : FlmFresh (s.tryWait wq d rest).flm := by
  unfold State.tryWait
  split <;> simp only [fresh_ite, fresh_endDesc, fresh_errorWq, setChain_flm, fresh_waitDesc, hs]

theorem fresh_startDesc {s : State} (wq op : Nat) (d : SendDesc) (ip : IpAddr) (spans : List (Nat × Nat)) (rest : List SendDesc) (hs : FlmFresh s.flm) :
    FlmFresh (s.startDesc wq op d ip spans rest).flm := by
  unfold State.startDesc
  (repeat' split) <;> simp only [fresh_endDesc, fresh_errorWq, raise_flm, fresh_startData, fresh_tryWait, hs]

theorem fresh_execWaitSatisfied {s : State} (wq : Nat) (rest : List SendDesc) (hs : FlmFresh s.flm) : FreshR (execWaitSatisfied wq rest s) := by
  refine freshR_next (fresh_inStep _ (fun _ ht => ?_) hs)
  split <;> simp only [fresh_ite, fresh_tryWait, ht]

theorem fresh_execFenceLimitRelease {s : State} (wq : Nat) (ip : IpAddr) (spans : List (Nat × Nat)) (hs : FlmFresh s.flm) : FreshR (execFenceLimitRelease wq ip spans s) := by
  refine freshR_next (fresh_inStep _ (fun _ ht => ?_) hs)
  split <;> simp only [fresh_ite, fresh_startData, ht]

theorem fresh_execReadTagFree {s : State} (wq : Nat) (ip : IpAddr) (hs : FlmFresh s.flm) : FreshR (execReadTagFree wq ip s) := by
  refine freshR_next (fresh_inStep _ (fun _ ht => ?_) hs)
  split <;> simp only [fresh_ite, fresh_startData, ht]

theorem fresh_execFlowCacheAdmit {s : State} (peer : Nat) (hs : FlmFresh s.flm) : FreshR (execFlowCacheAdmit peer s) := by
  unfold execFlowCacheAdmit
  (repeat' split) <;> simp only [freshR_next, enterFlow_flm, fresh_pump, hs]

theorem fresh_execWqFaultResolved {s : State} (wq : Nat) (spans : List (Nat × Nat)) (hs : FlmFresh s.flm) : FreshR (execWqFaultResolved wq spans s) := by
  refine freshR_next (fresh_inStep _ (fun t ht => ?_) hs)
  split
  · extract_lets u flm v
    have hv : FlmFresh v.flm := by
      refine flmFresh_map (fun x => ?_) (fresh_setWq _ _ ht)
      split
      · split <;> rfl
      · rfl
    clear_value v
    split
    · exact fresh_pump _ hv
    · exact hv
  · exact ht

theorem fresh_execEpochTransition {s : State} (hs : FlmFresh s.flm) : FreshR (execEpochTransition s) := by
  refine freshR_next (fresh_inStep _ (fun _ ht => ?_) hs)
  dsimp only
  split
  · exact ht
  · exact fresh_foldl _ (fun _ _ ht => fresh_pump _ ht) (fresh_of_eq (raise_flm ..) (fresh_ite (fresh_setFlag _ _ _ _ (fresh_mk (flmFresh_mk ht))) (fresh_mk (flmFresh_mk ht))))

theorem fresh_takeSlot {s : State} (q : NvmQueue) (hs : FlmFresh s.flm) : FreshP (s.takeSlot q) := by
  simp only [State.takeSlot, freshP_mk, hostCommand_flm, fresh_repost, setNq_flm, hs]

theorem fresh_onCapsule {s : State} (key : Nat) (cap : Capsule) (k : RowKind) (f : State → NvmQueue → Cmd → State) (hf : ∀ (t : State) (x1 : NvmQueue) (x2 : Cmd), FlmFresh t.flm → FlmFresh
    (f t x1 x2).flm) (hs : FlmFresh s.flm) :
    FlmFresh (s.onCapsule key cap k f).flm := by
  unfold State.onCapsule
  dsimp only
  split
  · exact hs
  · split
    · exact hs
    · split
      · exact hs
      · split
        · split
          · exact hs
          · split
            · exact hs
            · split
              · exact fresh_endCmd _ _ _ (fresh_of_eq (newCmd_flm ..) (FreshP.fst (fresh_takeSlot _ (fresh_of_eq (count_flm ..) hs))))
              · exact hf _ _ _ (fresh_of_eq (newCmd_flm ..) (FreshP.fst (fresh_takeSlot _ (fresh_of_eq (count_flm ..) hs))))
        · split
          · exact hs
          · exact fresh_endCmd _ _ _ (fresh_of_eq (handOver_flm ..) (fresh_of_eq (newCmd_flm ..) (FreshP.fst (fresh_takeSlot _ (fresh_of_eq (count_flm ..) hs)))))

theorem fresh_byEngines {s : State} (f : State → NvmQueue → Cmd → State) (q : NvmQueue) (c : Cmd) (hf : ∀ (t : State) (x1 : NvmQueue) (x2 : Cmd), FlmFresh t.flm → FlmFresh (f t x1 x2).flm)
    (hs : FlmFresh s.flm) :
    FlmFresh (byEngines f s q c).flm := by
  simp only [byEngines, handOver_flm, hs, hf]

theorem fresh_gateFails {s : State} (c : Cmd) (st : NvmeStatus) (hs : FlmFresh s.flm) : FlmFresh (s.gateFails c st).flm := by
  unfold State.gateFails
  (repeat' split) <;> simp only [fresh_endCmd, ledgerLimited_flm, hs]

theorem fresh_deleteQueue {s : State} (q : NvmQueue) (hs : FlmFresh s.flm) : FlmFresh (s.deleteQueue q).flm := by
  unfold State.deleteQueue
  split <;> simp +contextual only [implies_true, fresh_foldl, dropCmd_flm, fresh_resetWq, hs]

theorem fresh_deleteCtrl {s : State} (id : Nat) (hs : FlmFresh s.flm) : FlmFresh (s.deleteCtrl id).flm := by
  simp +contextual only [State.deleteCtrl, implies_true, fresh_foldl, fresh_deleteQueue, hs]

theorem fresh_deleteFor {s : State} (q : NvmQueue) (hs : FlmFresh s.flm) : FlmFresh (s.deleteFor q).flm := by
  simp only [State.deleteFor, fresh_ite, fresh_deleteCtrl, fresh_deleteQueue, hs]

theorem fresh_openSq {s : State} (wq peer size : Nat) (hs : FlmFresh s.flm) : FlmFresh (s.openSq wq peer size).flm := by
  simp only [State.openSq, fresh_setWq, hs]

theorem fresh_createQueue {s : State} (c : ConnFrom) (sub : Nat) (cap : Capsule) (d : ConnectData) (hs : FlmFresh s.flm) : FreshP (s.createQueue c sub cap d) := by
  have hd : FlmFresh s.drawn.flm := fresh_drawn hs
  by_cases hq : cap.cdw10 / 65536 = 0 <;> cases c <;>
    simp only [State.createQueue, freshP_iff, hq, if_true, if_false, ne_eq, not_true, not_false_eq_true, fresh_openSq, fresh_drawn, hd, hs]

theorem fresh_connect {s : State} (c : ConnFrom) (cap : Capsule) (hs : FlmFresh s.flm) : FlmFresh (s.connect c cap).flm := by
  unfold State.connect
  dsimp only
  split
  · exact hs
  · split
    · exact hs
    · split
      · exact fresh_respondOn _ _ _ _ _ _ _ (fresh_of_eq (raise_flm ..) (fresh_bump _ _ _ (fresh_of_eq (hostCommand_flm ..) hs)))
      · split
        · exact fresh_of_eq (hostCommand_flm ..) hs
        · exact fresh_respondOn _ _ _ _ _ _ _ (FreshP.fst (fresh_createQueue _ _ _ _ (fresh_of_eq (hostCommand_flm ..) hs)))

theorem fresh_propertyGet {s : State} (_q : NvmQueue) (c : Cmd) (hs : FlmFresh s.flm) : FlmFresh (s.propertyGet _q c).flm := by
  unfold State.propertyGet
  dsimp only
  (repeat' split) <;> simp only [fresh_drawn, dropCmd_flm, fresh_endCmd, fresh_respondOn, hs]

theorem fresh_execPropertyGet {s : State} (queue : Nat) (cap : Capsule) (hs : FlmFresh s.flm) : FreshR (execPropertyGet queue cap s) :=
  freshR_next (fresh_inStep _ (fun _ ht => fresh_onCapsule _ _ _ _ (fun _ _ _ hu => fresh_byEngines _ _ _ (fun _ _ _ hv => fresh_propertyGet _ _ hv) hu) ht) hs)

theorem fresh_writeCc {s : State} (x : NvmCtrl) (v : Nat) (hs : FlmFresh s.flm) : FlmFresh (s.writeCc x v).flm := by
  unfold State.writeCc
  dsimp only
  split <;> simp +contextual only [implies_true, fresh_foldl, fresh_deleteQueue, setCtrl_flm, hs]

theorem fresh_propertySet {s : State} (_q : NvmQueue) (c : Cmd) (hs : FlmFresh s.flm) : FlmFresh (s.propertySet _q c).flm := by
  unfold State.propertySet
  (repeat' split) <;> simp only [dropCmd_flm, fresh_endCmd, fresh_writeCc, hs]

theorem fresh_execPropertySet {s : State} (queue : Nat) (cap : Capsule) (hs : FlmFresh s.flm) : FreshR (execPropertySet queue cap s) :=
  freshR_next (fresh_inStep _ (fun _ ht => fresh_onCapsule _ _ _ _ (fun _ _ _ hu => fresh_byEngines _ _ _ (fun _ _ _ hv => fresh_propertySet _ _ hv) hu) ht) hs)

theorem fresh_disconnect {s : State} (q : NvmQueue) (c : Cmd) (hs : FlmFresh s.flm) : FlmFresh (s.disconnect q c).flm := by
  unfold State.disconnect
  split <;> simp only [fresh_deleteQueue, fresh_endCmd, hs]

theorem fresh_execDisconnect {s : State} (queue : Nat) (cap : Capsule) (hs : FlmFresh s.flm) : FreshR (execDisconnect queue cap s) :=
  freshR_next (fresh_inStep _ (fun _ ht => fresh_onCapsule _ _ _ _ (fun _ _ _ hu => fresh_byEngines _ _ _ (fun _ _ _ hv => fresh_disconnect _ _ hv) hu) ht) hs)

theorem fresh_authSend {s : State} (m : AuthMsg) (q : NvmQueue) (c : Cmd) (hs : FlmFresh s.flm) : FlmFresh (State.authSend m s q c).flm := by
  unfold State.authSend
  dsimp only
  (repeat' split) <;> simp only [authFails_flm, fresh_endCmd, setNq_flm, hs]

theorem fresh_execAuthSend {s : State} (queue : Nat) (cap : Capsule) (m : AuthMsg) (hs : FlmFresh s.flm) : FreshR (execAuthSend queue cap m s) :=
  freshR_next (fresh_inStep _ (fun _ ht => fresh_onCapsule _ _ _ _ (fun _ _ _ hu => fresh_byEngines _ _ _ (fun _ _ _ hv => fresh_authSend _ _ _ hv) hu) ht) hs)

theorem fresh_authReceive {s : State} (m : AuthMsg) (q : NvmQueue) (c : Cmd) (hs : FlmFresh s.flm) : FlmFresh (State.authReceive m s q c).flm := by
  unfold State.authReceive
  split <;> simp only [fresh_deleteFor, fresh_sendData, setNq_flm, hs]

theorem fresh_execAuthReceive {s : State} (queue : Nat) (cap : Capsule) (m : AuthMsg) (hs : FlmFresh s.flm) : FreshR (execAuthReceive queue cap m s) :=
  freshR_next (fresh_inStep _ (fun _ ht => fresh_onCapsule _ _ _ _ (fun _ _ _ hu => fresh_byEngines _ _ _ (fun _ _ _ hv => fresh_authReceive _ _ _ hv) hu) ht) hs)

theorem fresh_tcpEnd {s : State} (conn : Nat) (hs : FlmFresh s.flm) : FlmFresh (s.tcpEnd conn).flm := by
  unfold State.tcpEnd
  split <;> simp only [fresh_deleteQueue, hs]

theorem fresh_h2cData {s : State} (conn cid off : Nat) (bytes : List Byte) (last : Bool) (hs : FlmFresh s.flm) : FlmFresh (s.h2cData conn cid off bytes last).flm := by
  unfold State.h2cData
  dsimp only
  (repeat' split) <;> simp only [fresh_dataHere, setCmd_flm, fresh_tcpEnd, termReq_flm, hs]

theorem fresh_tcpPdu {s : State} (conn : Nat) (pdu : TcpPdu) (hdOk ddOk : Bool) (hs : FlmFresh s.flm) : FlmFresh (State.tcpPdu conn pdu hdOk ddOk s).flm := by
  unfold State.tcpPdu
  dsimp only
  split
  · exact hs
  · split
    · exact hs
    · split
      · split
        · exact fresh_of_eq (wakeSource_flm ..) hs
        · exact hs
      · split
        · exact fresh_tcpEnd _ (fresh_of_eq (termReq_flm ..) hs)
        · split
          · split
            · exact fresh_tcpEnd _ (fresh_of_eq (termReq_flm ..) hs)
            · exact fresh_of_eq (tcpSend_flm ..) hs
          · split
            · exact fresh_tcpEnd _ (fresh_of_eq (termReq_flm ..) hs)
            · split
              · split
                · exact fresh_endCmd _ _ _ hs
                · exact hs
              · exact fresh_h2cData _ _ _ _ _ hs
          · split
            · exact fresh_tcpEnd _ (fresh_of_eq (termReq_flm ..) hs)
            · split
              · split
                · exact fresh_respondOn _ _ _ _ _ _ _ (FreshP.fst (fresh_takeSlot _ hs))
                · exact fresh_tcpEnd _ hs
              · exact hs
          · exact fresh_tcpEnd _ hs
          · exact fresh_tcpEnd _ (fresh_of_eq (termReq_flm ..) hs)

theorem fresh_execRuntCapsule {s : State} (queue : Nat) (hs : FlmFresh s.flm) : FreshR (execRuntCapsule queue s) := by
  refine freshR_next (fresh_inStep _ (fun _ ht => ?_) hs)
  split <;> simp only [raise_flm, fresh_bump, fresh_repost, ht]

theorem fresh_answerData {s : State} (q : NvmQueue) (c : Cmd) (bytes : List Byte) (hs : FlmFresh s.flm) : FlmFresh (s.answerData q c bytes).flm := by
  unfold State.answerData
  split <;> simp only [fresh_endCmd, fresh_sendData, hs]

theorem fresh_identify {s : State} (q : NvmQueue) (c : Cmd) (hs : FlmFresh s.flm) : FlmFresh (s.identify q c).flm := by
  unfold State.identify
  (repeat' split) <;> simp only [fresh_answerData, dropCmd_flm, fresh_endCmd, hs]

theorem fresh_execIdentify {s : State} (queue : Nat) (cap : Capsule) (hs : FlmFresh s.flm) : FreshR (execIdentify queue cap s) :=
  freshR_next (fresh_inStep _ (fun _ ht => fresh_onCapsule _ _ _ _ (fun _ _ _ hu => fresh_byEngines _ _ _ (fun _ _ _ hv => fresh_identify _ _ hv) hu) ht) hs)

theorem logPage_flm {s t : State} {x : NvmCtrl} {cap : Capsule} {addr : IpAddr} {bs : List Byte} (h : s.logPage x cap addr = some (t, bs)) : t.flm = s.flm :=
  (KeepsO.of_eq h (keeps_State_logPage x cap addr rfl (Keeps.refl false 16781312 s))).part .flm (by decide)

theorem fresh_getLogPage {s : State} (q : NvmQueue) (c : Cmd) (hs : FlmFresh s.flm) : FlmFresh (s.getLogPage q c).flm := by
  unfold State.getLogPage
  split
  · rwa [dropCmd_flm]
  · split
    · exact fresh_endCmd _ _ _ hs
    · rename_i hpage
      exact fresh_answerData _ _ _ (by rwa [logPage_flm hpage])

theorem fresh_execGetLogPage {s : State} (queue : Nat) (cap : Capsule) (hs : FlmFresh s.flm) : FreshR (execGetLogPage queue cap s) :=
  freshR_next (fresh_inStep _ (fun _ ht => fresh_onCapsule _ _ _ _ (fun _ _ _ hu => fresh_byEngines _ _ _ (fun _ _ _ hv => fresh_getLogPage _ _ hv) hu) ht) hs)

theorem fresh_abortHeld {s : State} (q : NvmQueue) (x : NvmCtrl) (cid : Nat) (hs : FlmFresh s.flm) : FlmFresh (s.abortHeld q x cid).flm := by
  simp only [State.abortHeld, setCtrl_flm, fresh_respondOn, hs]

theorem fresh_abort {s : State} (_q : NvmQueue) (c : Cmd) (hs : FlmFresh s.flm) : FlmFresh (s.abort _q c).flm := by
  unfold State.abort
  dsimp only
  (repeat' split) <;> simp only [fresh_endCmd, fresh_abortHeld, hs]

theorem fresh_execAbort {s : State} (queue : Nat) (cap : Capsule) (hs : FlmFresh s.flm) : FreshR (execAbort queue cap s) :=
  freshR_next (fresh_inStep _ (fun _ ht => fresh_onCapsule _ _ _ _ (fun _ _ _ hu => fresh_byEngines _ _ _ (fun _ _ _ hv => fresh_abort _ _ hv) hu) ht) hs)

theorem fresh_setFeatures {s : State} (_q : NvmQueue) (c : Cmd) (hs : FlmFresh s.flm) : FlmFresh (s.setFeatures _q c).flm := by
  unfold State.setFeatures
  dsimp only
  (repeat' split) <;> simp only [dropCmd_flm, fresh_endCmd, setCtrl_flm, setResv_flm, hs]

theorem fresh_execSetFeatures {s : State} (queue : Nat) (cap : Capsule) (hs : FlmFresh s.flm) : FreshR (execSetFeatures queue cap s) :=
  freshR_next (fresh_inStep _ (fun _ ht => fresh_onCapsule _ _ _ _ (fun _ _ _ hu => fresh_byEngines _ _ _ (fun _ _ _ hv => fresh_setFeatures _ _ hv) hu) ht) hs)

theorem fresh_getFeatures {s : State} (q : NvmQueue) (c : Cmd) (hs : FlmFresh s.flm) : FlmFresh (s.getFeatures q c).flm := by
  unfold State.getFeatures
  dsimp only
  (repeat' split) <;> simp only [fresh_answerData, dropCmd_flm, fresh_endCmd, hs]

theorem fresh_execGetFeatures {s : State} (queue : Nat) (cap : Capsule) (hs : FlmFresh s.flm) : FreshR (execGetFeatures queue cap s) :=
  freshR_next (fresh_inStep _ (fun _ ht => fresh_onCapsule _ _ _ _ (fun _ _ _ hu => fresh_byEngines _ _ _ (fun _ _ _ hv => fresh_getFeatures _ _ hv) hu) ht) hs)

theorem fresh_asyncRequest {s : State} (_q : NvmQueue) (c : Cmd) (hs : FlmFresh s.flm) : FlmFresh (s.asyncRequest _q c).flm := by
  unfold State.asyncRequest
  (repeat' split) <;> simp only [dropCmd_flm, fresh_endCmd, setCtrl_flm, hs]

theorem fresh_execAsyncEventRequest {s : State} (queue : Nat) (cap : Capsule) (hs : FlmFresh s.flm) : FreshR (execAsyncEventRequest queue cap s) :=
  freshR_next (fresh_inStep _ (fun _ ht => fresh_onCapsule _ _ _ _ (fun _ _ _ hu => fresh_byEngines _ _ _ (fun _ _ _ hv => fresh_asyncRequest _ _ hv) hu) ht) hs)

theorem fresh_keepAlive {s : State} (_q : NvmQueue) (c : Cmd) (hs : FlmFresh s.flm) : FlmFresh (s.keepAlive _q c).flm := by
  unfold State.keepAlive
  split <;> simp only [dropCmd_flm, fresh_endCmd, setCtrl_flm, hs]

theorem fresh_execKeepAlive {s : State} (queue : Nat) (cap : Capsule) (hs : FlmFresh s.flm) : FreshR (execKeepAlive queue cap s) :=
  freshR_next (fresh_inStep _ (fun _ ht => fresh_onCapsule _ _ _ _ (fun _ _ _ hu => fresh_byEngines _ _ _ (fun _ _ _ hv => fresh_keepAlive _ _ hv) hu) ht) hs)

theorem fresh_execKatoExpiry {s : State} (ctrl : Nat) (hs : FlmFresh s.flm) : FreshR (execKatoExpiry ctrl s) := by
  refine freshR_next (fresh_inStep _ (fun _ ht => ?_) hs)
  split <;> simp only [raise_flm, fresh_ite, fresh_deleteCtrl, ht]

theorem fresh_flush {s : State} (_q : NvmQueue) (c : Cmd) (hs : FlmFresh s.flm) : FlmFresh (s.flush _q c).flm := by
  simp only [State.flush, fresh_ite, fresh_endCmd, hs]

theorem fresh_execFlush {s : State} (queue : Nat) (cap : Capsule) (hs : FlmFresh s.flm) : FreshR (execFlush queue cap s) :=
  freshR_next (fresh_inStep _ (fun _ ht => fresh_onCapsule _ _ _ _ (fun _ _ _ hu => fresh_flush _ _ hu) ht) hs)

theorem fresh_read {s : State} (q : NvmQueue) (c : Cmd) (hs : FlmFresh s.flm) : FlmFresh (s.read q c).flm := by
  unfold State.read
  (repeat' split) <;> simp only [fresh_endCmd, fresh_gateFails, fresh_startRead, hs]

theorem fresh_execNvmeRead {s : State} (queue : Nat) (cap : Capsule) (hs : FlmFresh s.flm) : FreshR (execNvmeRead queue cap s) :=
  freshR_next (fresh_inStep _ (fun _ ht => fresh_onCapsule _ _ _ _ (fun _ _ _ hu => fresh_read _ _ hu) ht) hs)

theorem fresh_verifyCmd {s : State} (_q : NvmQueue) (c : Cmd) (hs : FlmFresh s.flm) : FlmFresh (s.verifyCmd _q c).flm := by
  unfold State.verifyCmd
  (repeat' split) <;> simp only [fresh_endCmd, fresh_gateFails, fresh_startRead, hs]

theorem fresh_execVerify {s : State} (queue : Nat) (cap : Capsule) (hs : FlmFresh s.flm) : FreshR (execVerify queue cap s) :=
  freshR_next (fresh_inStep _ (fun _ ht => fresh_onCapsule _ _ _ _ (fun _ _ _ hu => fresh_byEngines _ _ _ (fun _ _ _ hv => fresh_verifyCmd _ _ hv) hu) ht) hs)

theorem fresh_compareCmd {s : State} (q : NvmQueue) (c : Cmd) (hs : FlmFresh s.flm) : FlmFresh (s.compareCmd q c).flm := by
  unfold State.compareCmd
  (repeat' split) <;> simp only [fresh_endCmd, fresh_fetchData, fresh_gateFails, hs]

theorem fresh_execCompare {s : State} (queue : Nat) (cap : Capsule) (hs : FlmFresh s.flm) : FreshR (execCompare queue cap s) :=
  freshR_next (fresh_inStep _ (fun _ ht => fresh_onCapsule _ _ _ _ (fun _ _ _ hu => fresh_byEngines _ _ _ (fun _ _ _ hv => fresh_compareCmd _ _ hv) hu) ht) hs)

theorem fresh_write {s : State} (q : NvmQueue) (c : Cmd) (hs : FlmFresh s.flm) : FlmFresh (s.write q c).flm := by
  unfold State.write
  dsimp only
  (repeat' split) <;> simp only [fresh_endCmd, fresh_fetchData, fresh_gateFails, handOver_flm, setCmd_flm, hs]

theorem fresh_execNvmeWrite {s : State} (queue : Nat) (cap : Capsule) (hs : FlmFresh s.flm) : FreshR (execNvmeWrite queue cap s) :=
  freshR_next (fresh_inStep _ (fun _ ht => fresh_onCapsule _ _ _ _ (fun _ _ _ hu => fresh_write _ _ hu) ht) hs)

theorem fresh_writeZeroes {s : State} (_q : NvmQueue) (c : Cmd) (hs : FlmFresh s.flm) : FlmFresh (s.writeZeroes _q c).flm := by
  unfold State.writeZeroes
  dsimp only
  (repeat' split) <;> simp only [fresh_deallocRanges, fresh_gateFails, setCmd_flm, writeHeldBlocks_flm, hs]

theorem fresh_execWriteZeroes {s : State} (queue : Nat) (cap : Capsule) (hs : FlmFresh s.flm) : FreshR (execWriteZeroes queue cap s) :=
  freshR_next (fresh_inStep _ (fun _ ht => fresh_onCapsule _ _ _ _ (fun _ _ _ hu => fresh_byEngines _ _ _ (fun _ _ _ hv => fresh_writeZeroes _ _ hv) hu) ht) hs)

theorem fresh_dataset {s : State} (q : NvmQueue) (c : Cmd) (hs : FlmFresh s.flm) : FlmFresh (s.dataset q c).flm := by
  unfold State.dataset
  (repeat' split) <;> simp only [fresh_endCmd, fresh_fetchData, fresh_gateFails, hs]

theorem fresh_execDatasetManagement {s : State} (queue : Nat) (cap : Capsule) (hs : FlmFresh s.flm) : FreshR (execDatasetManagement queue cap s) :=
  freshR_next (fresh_inStep _ (fun _ ht => fresh_onCapsule _ _ _ _ (fun _ _ _ hu => fresh_byEngines _ _ _ (fun _ _ _ hv => fresh_dataset _ _ hv) hu) ht) hs)

theorem fresh_resvData {s : State} (len : Nat) (q : NvmQueue) (c : Cmd) (hs : FlmFresh s.flm) : FlmFresh (State.resvData len s q c).flm := by
  unfold State.resvData
  (repeat' split) <;> simp only [fresh_endCmd, fresh_fetchData, hs]

theorem fresh_execReservationRegister {s : State} (queue : Nat) (cap : Capsule) (hs : FlmFresh s.flm) : FreshR (execReservationRegister queue cap s) :=
  freshR_next (fresh_inStep _ (fun _ ht => fresh_onCapsule _ _ _ _ (fun _ _ _ hu => fresh_byEngines _ _ _ (fun _ _ _ hv => fresh_resvData _ _ _ hv) hu) ht) hs)

theorem fresh_execReservationAcquire {s : State} (queue : Nat) (cap : Capsule) (hs : FlmFresh s.flm) : FreshR (execReservationAcquire queue cap s) :=
  freshR_next (fresh_inStep _ (fun _ ht => fresh_onCapsule _ _ _ _ (fun _ _ _ hu => fresh_byEngines _ _ _ (fun _ _ _ hv => fresh_resvData _ _ _ hv) hu) ht) hs)

theorem fresh_execReservationRelease {s : State} (queue : Nat) (cap : Capsule) (hs : FlmFresh s.flm) : FreshR (execReservationRelease queue cap s) :=
  freshR_next (fresh_inStep _ (fun _ ht => fresh_onCapsule _ _ _ _ (fun _ _ _ hu => fresh_byEngines _ _ _ (fun _ _ _ hv => fresh_resvData _ _ _ hv) hu) ht) hs)

theorem fresh_resvReport {s : State} (q : NvmQueue) (c : Cmd) (hs : FlmFresh s.flm) : FlmFresh (s.resvReport q c).flm := by
  unfold State.resvReport
  (repeat' split) <;> simp only [fresh_answerData, fresh_endCmd, hs]

theorem fresh_execReservationReport {s : State} (queue : Nat) (cap : Capsule) (hs : FlmFresh s.flm) : FreshR (execReservationReport queue cap s) :=
  freshR_next (fresh_inStep _ (fun _ ht => fresh_onCapsule _ _ _ _ (fun _ _ _ hu => fresh_byEngines _ _ _ (fun _ _ _ hv => fresh_resvReport _ _ hv) hu) ht) hs)

theorem fresh_commitWrite {s : State} (c : Cmd) (n : NsEnt) (hs : FlmFresh s.flm) : FlmFresh (s.commitWrite c n).flm := by
  unfold State.commitWrite
  dsimp only
  split <;> simp +contextual only [implies_true, fresh_foldl, fresh_ackWrite, dirtyLevel_flm, markMig_flm, rewritten_flm, sendLink_flm, setCmd_flm, stage_flm, startBrand_flm, hs]

theorem fresh_execWriteCommitPoint {s : State} (cmd : Nat) (hs : FlmFresh s.flm) : FreshR (execWriteCommitPoint cmd s) := by
  refine freshR_next (fresh_inStep _ (fun _ ht => ?_) hs)
  (repeat' split) <;> simp only [fresh_commitWrite, fresh_endCmd, ht]

theorem fresh_execWriteHeldTimeout {s : State} (cmd : Nat) (hs : FlmFresh s.flm) : FreshR (execWriteHeldTimeout cmd s) := by
  refine freshR_next (fresh_inStep _ (fun _ ht => ?_) hs)
  split <;> simp only [fresh_ite, fresh_endCmd, ht]

theorem fresh_execCmdLimitExpiry {s : State} (cmd : Nat) (hs : FlmFresh s.flm) : FreshR (execCmdLimitExpiry cmd s) := by
  refine freshR_next (fresh_inStep _ (fun _ ht => ?_) hs)
  split
  · exact fresh_ite (fresh_endCmd _ _ _ (fresh_of_eq (raise_flm ..) (fresh_bump _ _ _ ht))) ht
  · exact ht

/-! ### Tasks, registers and numbered inputs -/

theorem fresh_fwNotice {s : State} (hs : FlmFresh s.flm) : FlmFresh s.fwNotice.flm := by
  simp +contextual only [State.fwNotice, implies_true, fresh_foldl, fresh_asyncEvent, hs]

theorem fresh_fwActivate {s : State} (mode window : Nat) (numbered : Bool) (hs : FlmFresh s.flm) : FlmFresh (s.fwActivate mode window numbered).flm := by
  unfold State.fwActivate
  (repeat' split) <;> simp only [fresh_ite, askWarm_flm, beginSwitch_flm, fresh_bootSteps, fwArm_flm, observe_flm, fresh_resetTo, hs]

theorem fresh_execClusterSwitch {s : State} (hs : FlmFresh s.flm) : FreshR (execClusterSwitch s) := by
  refine freshR_next ?_
  dsimp only
  split
  · exact hs
  · split
    · exact fresh_of_eq (raise_flm ..) (fresh_of_eq (stopCluster_flm ..) hs)
    · split
      · exact fresh_set _ _ _ _ (fresh_of_eq (raise_flm ..) (fresh_of_eq (stopCluster_flm ..) hs))
      · exact fresh_stepWrite _ _ _ (fun _ ht => fresh_fwNotice ht) (fresh_of_eq (trialStart_flm ..) (fresh_of_eq (clearBoot_flm ..) (fresh_set _ _ _ _ (fresh_of_eq (raise_flm ..)
          (fresh_of_eq (stopCluster_flm ..) hs)))))

theorem fresh_fwDownload {s : State} (q : NvmQueue) (c : Cmd) (hs : FlmFresh s.flm) : FlmFresh (s.fwDownload q c).flm := by
  unfold State.fwDownload
  (repeat' split) <;> simp only [fresh_endCmd, fresh_fetchData, hs]

theorem fresh_execFirmwareImageDownload {s : State} (queue : Nat) (cap : Capsule) (hs : FlmFresh s.flm) : FreshR (execFirmwareImageDownload queue cap s) :=
  freshR_next (fresh_inStep _ (fun _ ht => fresh_onCapsule _ _ _ _ (fun _ _ _ hu => fresh_byEngines _ _ _ (fun _ _ _ hv => fresh_fwDownload _ _ hv) hu) ht) hs)

theorem fresh_fwCommit {s : State} (c : Cmd) (chk : FwChecks) (f : State → State × NvmeStatus) (hf : ∀ (t : State), FlmFresh t.flm → FreshP (f t)) (hs : FlmFresh s.flm) :
    FlmFresh (s.fwCommit c chk f).flm := by
  unfold State.fwCommit
  dsimp only
  split
  · exact fresh_endCmd _ _ _ hs
  · split
    · exact fresh_endCmd _ _ _ hs
    · split
      · exact fresh_endCmd _ _ _ (fresh_of_eq (fwVerify_flm ..) hs)
      · exact fresh_endCmd _ _ _ (FreshP.fst (hf _ (fresh_of_eq (fwVerify_flm ..) hs)))

theorem fresh_fwCommitActivate {s : State} (act : State → State) (hact : ∀ (t : State), FlmFresh t.flm → FlmFresh (act t).flm) (hs : FlmFresh s.flm) :
    FreshP (State.fwCommitActivate act s) := by
  unfold State.fwCommitActivate
  dsimp only
  (repeat' split) <;> simp only [freshP_mk, fwActCheck_flm, hs, hact]

theorem fresh_onCommit {s : State} (queue : Nat) (cap : Capsule) (mine : Nat → Bool) (f : State → NvmQueue → Cmd → State) (hf : ∀ (t : State) (x1 : NvmQueue)
    (x2 : Cmd), FlmFresh t.flm → FlmFresh (f t x1 x2).flm) (hs : FlmFresh s.flm) :
    FlmFresh (s.onCommit queue cap mine f).flm :=
  fresh_ite (fresh_onCapsule _ _ _ _ (fun _ _ _ ht => fresh_byEngines _ _ _ hf ht) hs) hs

theorem fresh_execFwCommitVerify {s : State} (queue : Nat) (cap : Capsule) (chk : FwChecks) (hs : FlmFresh s.flm) : FreshR (execFwCommitVerify queue cap chk s) :=
  freshR_next (fresh_inStep _ (fun _ ht => fresh_onCommit _ _ _ _ (fun _ _ _ hu => fresh_ite (fresh_endCmd _ _ _ hu) (fresh_fwCommit _ _ _ (fun _ hv => freshP_mk hv) hu)) ht) hs)

theorem fresh_execFwCommitNextReset {s : State} (queue : Nat) (cap : Capsule) (chk : FwChecks) (hs : FlmFresh s.flm) : FreshR (execFwCommitNextReset queue cap chk s) :=
  freshR_next (fresh_inStep _ (fun _ ht => fresh_onCommit _ _ _ _ (fun _ _ _ hu => fresh_fwCommit _ _ _ (fun _ hv => fresh_fwCommitActivate _ (fun _ hw => fresh_of_eq
    (fwArm_flm ..) hw) hv) hu) ht) hs)

theorem fresh_fwCommitHeld {s : State} (_q : NvmQueue) (c : Cmd) (hs : FlmFresh s.flm) : FlmFresh (s.fwCommitHeld _q c).flm := by
  unfold State.fwCommitHeld
  dsimp only
  (repeat' split) <;> simp only [fresh_endCmd, fwActCheck_flm, fwArm_flm, hs]

theorem fresh_execFwCommitSlot {s : State} (queue : Nat) (cap : Capsule) (hs : FlmFresh s.flm) : FreshR (execFwCommitSlot queue cap s) :=
  freshR_next (fresh_inStep _ (fun _ ht => fresh_onCommit _ _ _ _ (fun _ _ _ hu => fresh_fwCommitHeld _ _ hu) ht) hs)

theorem fresh_execFwCommitNow {s : State} (queue : Nat) (cap : Capsule) (chk : FwChecks) (partnerHolds : Bool) (hs : FlmFresh s.flm) :
    FreshR (execFwCommitNow queue cap chk partnerHolds s) := by
  refine freshR_next (fresh_inStep _ (fun t ht => fresh_onCommit _ _ _ _ (fun u _ c hu => fresh_fwCommit _ _ _ (fun v hv => ?_) hu) ht) hs)
  have hact : ∀ mode window numbered, FreshP (State.fwCommitActivate (fun s => s.fwActivate mode window numbered) v) := fun mode window numbered =>
    fresh_fwCommitActivate _ (fun w hw => fresh_fwActivate mode window numbered hw) hv
  exact freshP_ite (freshP_ite (hact _ _ _) (freshP_mk hv)) (hact _ _ _)

theorem fresh_after {s : State} (r : Result) (hr : FreshR r) (hs : FlmFresh s.flm) : FlmFresh (s.after r).flm := by
  unfold State.after
  split
  · exact hr.out rfl
  · exact hs

theorem fresh_fabricsRow {s : State} (queue : Nat) (cap : Capsule) (m : AuthMsg) (hs : FlmFresh s.flm) : FlmFresh (fabricsRow queue cap m s).flm := by
  unfold fabricsRow
  dsimp only
  (repeat' split) <;> simp only [fresh_after, fresh_execAuthReceive, fresh_execAuthSend, fresh_execDisconnect, fresh_execPropertyGet, fresh_execPropertySet, hs]

theorem fresh_adminRow {s : State} (queue : Nat) (cap : Capsule) (chk : FwChecks) (partnerHolds : Bool) (hs : FlmFresh s.flm) : FlmFresh (adminRow queue cap chk partnerHolds s).flm :=
  fresh_ite (fresh_after _ (fresh_execIdentify _ _ hs) hs) (fresh_ite (fresh_after _ (fresh_execGetLogPage _ _ hs) hs) (fresh_ite (fresh_after _ (fresh_execAbort _ _ hs) hs) (fresh_ite
    (fresh_after _ (fresh_execSetFeatures _ _ hs) hs) (fresh_ite (fresh_after _ (fresh_execGetFeatures _ _ hs) hs) (fresh_ite (fresh_after _ (fresh_execAsyncEventRequest _ _ hs) hs)
    (fresh_ite (fresh_after _ (fresh_execFirmwareImageDownload _ _ hs) hs) (fresh_ite (fresh_ite (fresh_after _ (fresh_execFwCommitNextReset _ _ _ hs) hs) (fresh_ite (fresh_after _
    (fresh_execFwCommitSlot _ _ hs) hs) (fresh_ite (fresh_after _ (fresh_execFwCommitNow _ _ _ _ hs) hs) (fresh_after _ (fresh_execFwCommitVerify _ _ _ hs) hs)))) (fresh_after _
    (fresh_execKeepAlive _ _ hs) hs))))))))

theorem fresh_ioRow {s : State} (queue : Nat) (cap : Capsule) (hs : FlmFresh s.flm) : FlmFresh (ioRow queue cap s).flm :=
  fresh_ite (fresh_after _ (fresh_execFlush _ _ hs) hs) (fresh_ite (fresh_after _ (fresh_execNvmeWrite _ _ hs) hs) (fresh_ite (fresh_after _ (fresh_execNvmeRead _ _ hs) hs) (fresh_ite
    (fresh_after _ (fresh_execCompare _ _ hs) hs) (fresh_ite (fresh_after _ (fresh_execWriteZeroes _ _ hs) hs) (fresh_ite (fresh_after _ (fresh_execDatasetManagement _ _ hs) hs) (fresh_ite
    (fresh_after _ (fresh_execVerify _ _ hs) hs) (fresh_ite (fresh_after _ (fresh_execReservationRegister _ _ hs) hs) (fresh_ite (fresh_after _ (fresh_execReservationReport _ _ hs) hs)
    (fresh_ite (fresh_after _ (fresh_execReservationAcquire _ _ hs) hs) (fresh_after _ (fresh_execReservationRelease _ _ hs) hs))))))))))

theorem fresh_execChuteAdmit {s : State} (m : AuthMsg) (chk : FwChecks) (partnerHolds : Bool) (hs : FlmFresh s.flm) : FreshR (execChuteAdmit m chk partnerHolds s) := by
  unfold execChuteAdmit
  dsimp only
  (repeat' split) <;> simp only [freshR_next, fresh_adminRow, fresh_fabricsRow, fresh_ioRow, hs]

theorem fresh_taskFwActivate {s : State} (r : TaskRun) (hs : FlmFresh s.flm) : FreshP (taskFwActivate s r) := by
  unfold taskFwActivate
  dsimp only
  (repeat' split) <;> simp only [freshP_mk, fwActCheck_flm, fresh_fwActivate, hs]

theorem fresh_carryOut {s : State} (r : TaskRun) (hs : FlmFresh s.flm) : FreshP (s.carryOut r) := by
  have hact : FlmFresh (taskFwActivate s r).1.flm := fresh_taskFwActivate r hs
  unfold State.carryOut
  split <;> simp only [freshP_iff, taskAddrSet_flm, taskAdmitSet_flm, taskDriveAccept_flm, taskDriveFw_flm, taskFwAbort_flm, taskFwBlock_flm, taskFwConfirm_flm, taskFwReject_flm, taskIdentity_flm, taskKeyInstall_flm, taskKeyRetire_flm, taskKeySwitch_flm, taskLedgerRead_flm, taskMemberFail_flm, taskMigCancel_flm, taskMigCutover_flm, taskMigStart_flm, taskOverlaySet_flm, taskOwnerCommission_flm, taskOwnerRotate_flm, taskPatAbort_flm, taskPatBlock_flm, taskPatCommit_flm, taskPowerEnter_flm, hs, hact]

theorem fresh_afterReply {s : State} (r : TaskRun) (x : TaskStep) (hs : FlmFresh s.flm) : FlmFresh (s.afterReply r x).flm := by
  unfold State.afterReply
  (repeat' split) <;> simp only [askWarm_flm, fresh_fwActivate, fwReject_flm, hs]

theorem fresh_doRun {s : State} (r : TaskRun) (hs : FlmFresh s.flm) : FlmFresh (s.doRun r).flm := fresh_afterReply _ _ (fresh_of_eq (settleRun_flm ..) (FreshP.fst (fresh_carryOut _ hs)))

theorem fresh_beginRun {s : State} (r : TaskRun) (hs : FlmFresh s.flm) : FlmFresh (s.beginRun r).flm := by
  unfold State.beginRun
  (repeat' split) <;> simp +contextual only [implies_true, fresh_doRun, endRun_flm, moveRun_flm, fresh_stepWrite, hs]

theorem fresh_taskStep {s : State} (t : TaskIn) (hs : FlmFresh s.flm) : FlmFresh (s.taskStep t).flm := by
  unfold State.taskStep
  split <;> simp only [fresh_doRun, hs]

theorem fresh_startRun {s : State} (r : TaskRun) (data : TaskData) (hs : FlmFresh s.flm) : FlmFresh (s.startRun r data).flm := by
  unfold State.startRun
  (repeat' split) <;> simp only [fresh_beginRun, endRun_flm, moveRun_flm, hs]

theorem fresh_goTask {s : State} (code : Nat) (go : TaskGo) (data : TaskData) (aux : TaskAux) (hs : FlmFresh s.flm) : FlmFresh (s.goTask code go data aux).flm :=
  fresh_busWrite _ _ _ (fun _ ht => fresh_ite (fresh_of_eq (raise_flm ..) (fresh_bump _ _ _ (fresh_setFlag _ _ _ _ ht))) (fresh_ite (fresh_of_eq (endRun_flm ..) (fresh_mk
    (fresh_setFlag _ _ _ _ (fresh_setFlag _ _ _ _ (fresh_foldl _ (fun _ _ hu => fresh_set _ _ _ _ hu) ht))))) (fresh_ite (fresh_of_eq (endRun_flm ..) (fresh_mk (fresh_setFlag _ _ _ _
    (fresh_setFlag _ _ _ _ (fresh_foldl _ (fun _ _ hu => fresh_set _ _ _ _ hu) ht))))) (fresh_ite (fresh_of_eq (endRun_flm ..) (fresh_mk (fresh_setFlag _ _ _ _ (fresh_setFlag _ _ _ _
    (fresh_foldl _ (fun _ _ hu => fresh_set _ _ _ _ hu) ht))))) (fresh_ite (fresh_of_eq (raise_flm ..) (fresh_setFlag _ _ _ _ (fresh_of_eq (moveRun_flm ..) (fresh_mk (fresh_setFlag _ _ _ _
    (fresh_setFlag _ _ _ _ (fresh_foldl _ (fun _ _ hu => fresh_set _ _ _ _ hu) ht))))))) (fresh_startRun _ _ (fresh_mk (fresh_setFlag _ _ _ _ (fresh_setFlag _ _ _ _ (fresh_foldl _
    (fun _ _ hu => fresh_set _ _ _ _ hu) ht)))))))))) hs

theorem fresh_execTaskDataReadDone {s : State} (data : TaskData) (hs : FlmFresh s.flm) : FreshR (execTaskDataReadDone data s) := by
  unfold execTaskDataReadDone
  split <;> simp only [freshR_next, fresh_startRun, hs]

theorem fresh_execDeferredTaskRun {s : State} (hs : FlmFresh s.flm) : FreshR (execDeferredTaskRun s) := by
  refine freshR_next ?_
  dsimp only
  split
  · exact hs
  · split
    · exact fresh_of_eq (wakeSeen_flm ..) hs
    · split
      · exact fresh_startRun _ _ (fresh_setFlag _ _ _ _ hs)
      · exact hs

theorem fresh_unknownTask {s : State} (hs : FlmFresh s.flm) : FlmFresh s.unknownTask.flm := by
  simp only [State.unknownTask, fresh_ite, fresh_goTask, hs]

theorem fresh_wordWrite {s : State} (w : BusWord) (value : Nat) (hs : FlmFresh s.flm) : FlmFresh (s.wordWrite w value).flm := by
  unfold State.wordWrite
  (repeat' split) <;> simp +contextual only [implies_true, fresh_foldl, fieldWrite_flm, flushMsix_flm, fresh_unknownTask, hs]

theorem fresh_regEffect {s : State} (off size value : Nat) (hs : FlmFresh s.flm) : FlmFresh (s.regEffect off size value).flm := by
  refine fresh_foldl _ (fun _ x ht => ?_) hs
  split <;> simp only [fresh_wordWrite, ht]

theorem fresh_execRegisterWrite {s : State} (src : Src) (off size value : Nat) (hs : FlmFresh s.flm) : FreshR (execRegisterWrite src off size value s) := by
  refine freshR_next ?_
  split
  · exact fresh_emit _ hs
  · exact hs
  · split
    · exact fresh_of_eq (ledger_flm ..) hs
    · split
      · exact hs
      · split
        · exact fresh_of_eq (accessFault_flm ..) hs
        · split
          · exact fresh_stepWrite _ _ _ (fun _ ht => fresh_regEffect _ _ _ ht) hs
          · exact fresh_regEffect _ _ _ hs

theorem fresh_execStoreCommitDone {s : State} (rb : ReadBack) (hs : FlmFresh s.flm) : FreshR (execStoreCommitDone rb s) := by
  have hread := fresh_readBack rb hs
  refine freshR_next ?_
  split
  · exact FreshP.of_eq ‹_› hread
  · rename_i hcs
    have h : ∀ ok cs, FlmFresh (State.commitOver _ ok cs).flm := fun ok cs => by
      rw [commitOver_flm]
      exact FreshP.of_eq hcs hread
    simp only [warmStage_flm, fresh_ite, commitTasksEnd_flm, commitTasksFail_flm, h]

theorem fresh_execLiveRecordsEffect {s : State} (hs : FlmFresh s.flm) : FreshR (execLiveRecordsEffect s) :=
  freshR_next (fresh_ite hs (fresh_foldl _ (fun _ _ ht => fresh_of_eq (endRun_flm ..) ht) (fresh_ite hs (fresh_inStep _ (fun _ ht => fresh_liveEffect ht) hs))))

theorem fresh_consuming {s : State} (n : Nat) (kind : Input → Bool) (f : InputRec → State → State) (hf : ∀ (t : State) (x0 : InputRec), FlmFresh t.flm → FlmFresh (f x0 t).flm)
    (hs : FlmFresh s.flm) :
    FlmFresh (s.consuming n kind f).flm :=
  fresh_of_eq (serveRepairs_flm ..) (fresh_settleTakeover (fresh_consume _ _ _ hf hs))

theorem fresh_execConsumeHostFrame {s : State} (n : Nat) (hs : FlmFresh s.flm) : FreshR (execConsumeHostFrame n s) := by
  simp +contextual only [execConsumeHostFrame, implies_true, freshR_next, fresh_consuming, hostFrameStep_flm, hs]

theorem fresh_execConsumeDriveCqe {s : State} (n : Nat) (remote : List Blk) (hs : FlmFresh s.flm) : FreshR (execConsumeDriveCqe n remote s) := by
  refine freshR_next (fresh_consuming _ _ _ (fun _ _ ht => ?_) hs)
  split <;> simp only [fresh_driveCqe, ht]

theorem fresh_execConsumeDriveEvent {s : State} (n : Nat) (hs : FlmFresh s.flm) : FreshR (execConsumeDriveEvent n s) := by
  refine freshR_next (fresh_consuming _ _ _ (fun _ _ ht => ?_) hs)
  (repeat' split) <;> simp only [leftLowPower_flm, driveFwStep_flm, fresh_ite, fresh_driveEvent, ht]

theorem fresh_execConsumeSlot {s : State} (n : Nat) (hs : FlmFresh s.flm) : FreshR (execConsumeSlot n s) := by
  refine freshR_next (fresh_consuming _ _ _ (fun _ _ ht => ?_) hs)
  split <;> simp only [slotSeen_flm, fresh_gateUpdate, ht]

theorem fresh_tickStep {s : State} (us : Nat) (hs : FlmFresh s.flm) : FlmFresh (tickStep us s).flm := by
  refine fresh_of_eq (driveFwLost_flm ..) (fresh_of_eq (settlePower_flm ..) (fresh_showThrough (fresh_of_eq (fallowOver_flm ..) (fresh_of_eq (entryAdvance_flm ..) (fresh_digestSend
    (fresh_ite (fresh_flushCtl (fresh_mk ?_)) (fresh_mk ?_)))))))
  · dsimp only
    exact flmFresh_mk (fresh_ite hs hs)
  · dsimp only
    exact flmFresh_mk (fresh_ite hs hs)

theorem fresh_execConsumeTick {s : State} (n : Nat) (hs : FlmFresh s.flm) : FreshR (execConsumeTick n s) := by
  refine freshR_next (fresh_consuming _ _ _ (fun _ _ ht => ?_) hs)
  split <;> simp only [fresh_tickStep, ht]

theorem fresh_applyWrite {s : State} (sideB : Bool) (w : StepWrite) (hs : FlmFresh s.flm) : FlmFresh (s.applyWrite sideB w).flm := by
  unfold State.applyWrite
  (repeat' split) <;> simp only [fresh_closeWq, fresh_dpControl, enter_flm, fwConfirmedStep_flm, fwFellBackStep_flm, fresh_fwNotice, fwPairStep_flm, fwPairTask_flm, fresh_holdupStep,
    invalMap_flm, fresh_openWq, pauseRebuilds_flm, pwrfailStep_flm, fresh_regEffect, fresh_resetWq, fresh_ringRq, fresh_ringSq, setAddr_flm, setChain_flm, fresh_slotEnable,
    fresh_slotHoldStep, fresh_taskStep, wakeSource_flm, fresh_winCommit, hs]

theorem fresh_execConsumeMgmt {s : State} (n : Nat) (hs : FlmFresh s.flm) : FreshR (execConsumeMgmt n s) := by
  refine freshR_next (fresh_consuming _ _ _ (fun _ _ ht => ?_) hs)
  split <;> simp only [fresh_applyWrite, ht]

theorem fresh_retxStep {s : State} (msgId index attempt : Nat) (hs : FlmFresh s.flm) : FlmFresh (retxStep msgId index attempt s).flm := by
  unfold retxStep
  dsimp only
  (repeat' split) <;> simp only [fresh_resend, fresh_setMsg, hs]

theorem fresh_execConsumeRetx {s : State} (n : Nat) (hs : FlmFresh s.flm) : FreshR (execConsumeRetx n s) := by
  refine freshR_next (fresh_consuming _ _ _ (fun _ _ ht => ?_) hs)
  split <;> simp only [fresh_settleReports, fresh_retxStep, ht]

theorem fresh_execConsumeCut {s : State} (n : Nat) (hs : FlmFresh s.flm) : FreshR (execConsumeCut n s) := by
  refine freshR_next (fresh_consuming _ _ _ (fun _ _ ht => ?_) hs)
  dsimp only
  split
  · exact fresh_ite (fresh_of_eq (handoverCut_flm ..) ht) (fresh_ite (fresh_of_eq (resyncCutStep_flm ..) ht) (fresh_ite (fresh_of_eq (setRole_flm ..) ht) (fresh_ite (fresh_of_eq
      (setDelivery_flm ..) ht) ht)))
  · exact ht

/-! ## The rows -/

/-- What the rows do, put together: every row but SNAPSHOT_RX leaves the numbers fresh. -/
theorem exec_fresh (c : Instr) (s : State) (hc : ∀ fr, c ≠ .snapshotRx fr) (hs : FlmFresh s.flm) : FreshR (exec c s) := by
  cases c with
  | registerWrite => exact fresh_execRegisterWrite _ _ _ _ hs
  | rcCounterRead => exact freshR_of_keeps (keeps_execRcCounterRead _ _ _ rfl (.refl ..)) hs
  | accessTimeout => exact freshR_of_keeps (keeps_execAccessTimeout _ _ _ rfl (.refl ..)) hs
  | clockLockLoss => exact freshR_of_keeps (keeps_execClockLockLoss _ rfl (.refl ..)) hs
  | storeCommitDone => exact fresh_execStoreCommitDone _ hs
  | storeCommitCoalesced => exact freshR_of_keeps (keeps_execStoreCommitCoalesced rfl (.refl ..)) hs
  | liveRecordsEffect => exact fresh_execLiveRecordsEffect hs
  | sendPacketRx => exact fresh_execSendPacketRx _ _ hs
  | writePacketRx => exact fresh_execWritePacketRx _ _ hs
  | readRx => exact fresh_execReadRx _ _ hs
  | readRespRx => exact freshR_next (fresh_ending _ (fun t ht => fresh_rxReadResp _ _ ht) hs)
  | ackRx => exact freshR_next (fresh_ending _ (fun t ht => fresh_rxAck _ ht) hs)
  | nackRx => exact freshR_next (fresh_ending _ (fun t ht => fresh_rxNack _ ht) hs)
  | busyRx => exact fresh_execBusyRx _ hs
  | probeRx => exact fresh_execProbeRx _ hs
  | slotExpiry => exact fresh_execSlotExpiry _ _ hs
  | tableEntryExpiry => exact fresh_execTableEntryExpiry _ _ hs
  | ackDelayExpiry => exact fresh_execAckDelayExpiry _ _ hs
  | retransmitTimerExpiry => exact freshR_next (fresh_ending _ (fun t ht => fresh_timerExpiry _ _ ht) hs)
  | busyHoldExpiry => exact freshR_next (fresh_ending _ (fun t ht => fresh_holdExpiry _ ht) hs)
  | messageDeadline => exact freshR_next (fresh_ending _ (fun t ht => fresh_deadline _ ht) hs)
  | probeInterval => exact fresh_execProbeInterval _ _ hs
  | probeUnanswered => exact fresh_execProbeUnanswered _ hs
  | flmWinCommit => exact freshR_next (fresh_busWrite _ _ _ (fun t ht => fresh_stepWrite _ _ _ (fun u hu => fresh_winCommit _ _ _ _ hu) ht) hs)
  | windowCommitApply => exact fresh_execWindowCommitApply hs
  | readFilterExpiry => exact fresh_execReadFilterExpiry _ _ hs
  | wqOpen => exact freshR_next (fresh_busWrite _ _ _ (fun t ht => fresh_stepWrite _ _ _ (fun u hu => fresh_openWq _ _ hu) ht) hs)
  | wqClose => exact freshR_next (fresh_busWrite _ _ _ (fun t ht => fresh_stepWrite _ _ _ (fun u hu => fresh_closeWq _ hu) ht) hs)
  | wqReset => exact freshR_next (fresh_busWrite _ _ _ (fun t ht => fresh_stepWrite _ _ _ (fun u hu => fresh_resetWq _ hu) ht) hs)
  | wqDoorbell => exact freshR_next (fresh_busWrite _ _ _ (fun t ht => fresh_stepWrite _ _ _ (fun u hu => fresh_ringSq _ _ _ hu) ht) hs)
  | rqDoorbell => exact freshR_next (fresh_busWrite _ _ _ (fun t ht => fresh_stepWrite _ _ _ (fun u hu => fresh_ringRq _ _ _ _ hu) ht) hs)
  | descSend => exact freshR_next (fresh_inStep _ (fun t ht => fresh_startDesc _ _ _ _ _ _ ht) hs)
  | descWrite => exact freshR_next (fresh_inStep _ (fun t ht => fresh_startDesc _ _ _ _ _ _ ht) hs)
  | descRead => exact freshR_next (fresh_inStep _ (fun t ht => fresh_startDesc _ _ _ _ _ _ ht) hs)
  | descWait => exact freshR_next (fresh_inStep _ (fun t ht => fresh_startDesc _ _ _ _ _ _ ht) hs)
  | descNop => exact freshR_next (fresh_inStep _ (fun t ht => fresh_startDesc _ _ _ _ _ _ ht) hs)
  | waitSatisfied => exact fresh_execWaitSatisfied _ _ hs
  | fenceLimitRelease => exact fresh_execFenceLimitRelease _ _ _ hs
  | readTagFree => exact fresh_execReadTagFree _ _ hs
  | flowCacheAdmit => exact fresh_execFlowCacheAdmit _ hs
  | wqFaultResolved => exact fresh_execWqFaultResolved _ _ hs
  | chainCounterWrite => exact freshR_of_keeps (keeps_execChainCounterWrite _ _ _ _ rfl (.refl ..)) hs
  | addressTableWrite => exact freshR_of_keeps (keeps_execAddressTableWrite _ _ _ rfl (.refl ..)) hs
  | epochTransition => exact fresh_execEpochTransition hs
  | connect => exact freshR_next (fresh_inStep _ (fun t ht => fresh_connect _ _ ht) hs)
  | propertyGet => exact fresh_execPropertyGet _ _ hs
  | propertySet => exact fresh_execPropertySet _ _ hs
  | disconnect => exact fresh_execDisconnect _ _ hs
  | authSend => exact fresh_execAuthSend _ _ _ hs
  | authReceive => exact fresh_execAuthReceive _ _ _ hs
  | identify => exact fresh_execIdentify _ _ hs
  | getLogPage => exact fresh_execGetLogPage _ _ hs
  | abort => exact fresh_execAbort _ _ hs
  | setFeatures => exact fresh_execSetFeatures _ _ hs
  | getFeatures => exact fresh_execGetFeatures _ _ hs
  | asyncEventRequest => exact fresh_execAsyncEventRequest _ _ hs
  | keepAlive => exact fresh_execKeepAlive _ _ hs
  | firmwareImageDownload => exact fresh_execFirmwareImageDownload _ _ hs
  | fwCommitVerify => exact fresh_execFwCommitVerify _ _ _ hs
  | fwCommitNextReset => exact fresh_execFwCommitNextReset _ _ _ hs
  | fwCommitSlot => exact fresh_execFwCommitSlot _ _ hs
  | fwCommitNow => exact fresh_execFwCommitNow _ _ _ _ hs
  | flush => exact fresh_execFlush _ _ hs
  | nvmeRead => exact fresh_execNvmeRead _ _ hs
  | verify => exact fresh_execVerify _ _ hs
  | compare => exact fresh_execCompare _ _ hs
  | nvmeWrite => exact fresh_execNvmeWrite _ _ hs
  | writeZeroes => exact fresh_execWriteZeroes _ _ hs
  | datasetManagement => exact fresh_execDatasetManagement _ _ hs
  | reservationRegister => exact fresh_execReservationRegister _ _ hs
  | reservationReport => exact fresh_execReservationReport _ _ hs
  | reservationAcquire => exact fresh_execReservationAcquire _ _ hs
  | reservationRelease => exact fresh_execReservationRelease _ _ hs
  | runtCapsule => exact fresh_execRuntCapsule _ hs
  | katoExpiry => exact fresh_execKatoExpiry _ hs
  | heldWriteResume => exact freshR_of_keeps (keeps_execHeldWriteResume _ rfl (.refl ..)) hs
  | writeHeldAlert => exact freshR_of_keeps (keeps_execWriteHeldAlert _ rfl (.refl ..)) hs
  | writeHeldTimeout => exact fresh_execWriteHeldTimeout _ hs
  | cmdLimitExpiry => exact fresh_execCmdLimitExpiry _ hs
  | tcpSyn => exact freshR_of_keeps (keeps_execTcpSyn _ rfl (.refl ..)) hs
  | tcpPduRx => exact freshR_next (fresh_inStep _ (fun t ht => fresh_tcpPdu _ _ _ _ ht) hs)
  | chuteAdmit => exact fresh_execChuteAdmit _ _ _ hs
  | mapInval => exact freshR_of_keeps (keeps_execMapInval _ _ _ _ rfl (.refl ..)) hs
  | mapInvalDone => exact freshR_of_keeps (keeps_execMapInvalDone rfl (.refl ..)) hs
  | apertureWrite => exact freshR_of_keeps (keeps_execApertureWrite _ _ _ rfl (.refl ..)) hs
  | apertureRead => exact freshR_of_keeps (keeps_execApertureRead _ _ _ rfl (.refl ..)) hs
  | tagHoldExpiry => exact freshR_of_keeps (keeps_execTagHoldExpiry _ rfl (.refl ..)) hs
  | writeCommitPoint => exact fresh_execWriteCommitPoint _ hs
  | destageStart => exact freshR_of_keeps (keeps_execDestageStart _ _ _ rfl (.refl ..)) hs
  | yardBufferGrant => exact freshR_of_keeps (keeps_execYardBufferGrant _ rfl (.refl ..)) hs
  | brandUpdateDone => exact freshR_of_keeps (keeps_execBrandUpdateDone _ rfl (.refl ..)) hs
  | mapCommitDone => exact fresh_execMapCommitDone _ _ hs
  | tallyEntryFree => exact fresh_execTallyEntryFree _ _ _ hs
  | dumpWriteWaitExpiry => exact freshR_of_keeps (keeps_execDumpWriteWaitExpiry rfl (.refl ..)) hs
  | dumpComplete => exact freshR_of_keeps (keeps_execDumpComplete rfl (.refl ..)) hs
  | pwrfailAssert => exact freshR_of_keeps (keeps_execPwrfailAssert _ rfl (.refl ..)) hs
  | pwrfailDeassert => exact freshR_of_keeps (keeps_execPwrfailDeassert rfl (.refl ..)) hs
  | recovery => exact fresh_execRecovery _ _ _ hs
  | dumpRetireRecovered => exact freshR_of_keeps (keeps_execDumpRetireRecovered rfl (.refl ..)) hs
  | sweepStripe => exact fresh_execSweepStripe _ _ _ hs
  | skidderStripe => exact freshR_of_keeps (keeps_execSkidderStripe _ _ _ rfl (.refl ..)) hs
  | patrolStripe => exact freshR_of_keeps (keeps_execPatrolStripe _ _ rfl (.refl ..)) hs
  | patrolLate => exact freshR_of_keeps (keeps_execPatrolLate _ rfl (.refl ..)) hs
  | skdPause => exact freshR_of_keeps (keeps_execSkdPause _ _ rfl (.refl ..)) hs
  | migGranuleSend => exact fresh_execMigGranuleSend _ _ hs
  | migGranuleRx => exact fresh_execMigGranuleRx _ _ _ _ _ hs
  | migDone => exact freshR_of_keeps (keeps_execMigDone _ rfl (.refl ..)) hs
  | roleSelect => exact freshR_of_keeps (keeps_execRoleSelect _ rfl (.refl ..)) hs
  | faultNotice => exact fresh_execFaultNotice _ hs
  | pairActiveInLoss => exact fresh_execPairActiveInLoss _ hs
  | tickIssue => exact freshR_of_keeps (keeps_execTickIssue rfl (.refl ..)) hs
  | consumeHostFrame => exact fresh_execConsumeHostFrame _ hs
  | consumeDriveCqe => exact fresh_execConsumeDriveCqe _ _ hs
  | consumeDriveEvent => exact fresh_execConsumeDriveEvent _ hs
  | consumeTick => exact fresh_execConsumeTick _ hs
  | consumeMgmt => exact fresh_execConsumeMgmt _ hs
  | consumeSlot => exact fresh_execConsumeSlot _ hs
  | consumeRetx => exact fresh_execConsumeRetx _ hs
  | consumeCut => exact fresh_execConsumeCut _ hs
  | forwardRx => exact freshR_of_keeps (keeps_execForwardRx _ rfl (.refl ..)) hs
  | linkIdleSend => exact freshR_of_keeps (keeps_execLinkIdleSend rfl (.refl ..)) hs
  | helloRx => exact freshR_of_keeps (keeps_execHelloRx _ _ _ rfl (.refl ..)) hs
  | heartbeatSend => exact freshR_of_keeps (keeps_execHeartbeatSend rfl (.refl ..)) hs
  | heartbeatRx => exact freshR_of_keeps (keeps_execHeartbeatRx _ rfl (.refl ..)) hs
  | inputRx => exact freshR_of_keeps (keeps_execInputRx _ rfl (.refl ..)) hs
  | stagedRx => exact fresh_execStagedRx _ hs
  | digestRx => exact fresh_execDigestRx _ hs
  | snapshotRx fr => exact absurd rfl (hc fr)
  | resyncFrameRx => exact freshR_of_keeps (keeps_execResyncFrameRx _ rfl (.refl ..)) hs
  | linkNakRx => exact freshR_of_keeps (keeps_execLinkNakRx _ rfl (.refl ..)) hs
  | linkFailure => exact freshR_of_keeps (keeps_execLinkFailure _ rfl (.refl ..)) hs
  | heartbeatTimeout => exact freshR_next (fresh_ite (fresh_decidePartner _ (fresh_of_eq (suspect_flm ..) (fresh_bumpBy _ _ _ _ (fresh_of_eq (seeActive_flm ..) hs)))) hs)
  | resyncPassDone => exact freshR_of_keeps (keeps_execResyncPassDone _ rfl (.refl ..)) hs
  | resyncCut => exact freshR_of_keeps (keeps_execResyncCut rfl (.refl ..)) hs
  | joinerInStep => exact freshR_of_keeps (keeps_execJoinerInStep rfl (.refl ..)) hs
  | wswHandover => exact freshR_of_keeps (keeps_execWswHandover _ rfl (.refl ..)) hs
  | wswDetach => exact freshR_of_keeps (keeps_execWswDetach _ rfl (.refl ..)) hs
  | wswResync => exact freshR_of_keeps (keeps_execWswResync _ rfl (.refl ..)) hs
  | hostFrameRx => exact freshR_of_keeps (keeps_execHostFrameRx _ _ _ _ rfl (.refl ..)) hs
  | hostLinkUp => exact freshR_of_keeps (keeps_execHostLinkUp _ rfl (.refl ..)) hs
  | hostLinkDown => exact freshR_of_keeps (keeps_execHostLinkDown _ rfl (.refl ..)) hs
  | pauseFrameRx => exact freshR_of_keeps (keeps_execPauseFrameRx _ _ _ _ _ rfl (.refl ..)) hs
  | pauseExpiry => exact freshR_of_keeps (keeps_execPauseExpiry _ _ rfl (.refl ..)) hs
  | pauseWatchdogTrip => exact freshR_of_keeps (keeps_execPauseWatchdogTrip _ _ rfl (.refl ..)) hs
  | pauseWatchdogClear => exact freshR_of_keeps (keeps_execPauseWatchdogClear _ _ rfl (.refl ..)) hs
  | pfcRepeat => exact freshR_of_keeps (keeps_execPfcRepeat _ _ rfl (.refl ..)) hs
  | ptpAdjOfsWrite => exact freshR_of_keeps (keeps_execPtpAdjOfsWrite _ _ _ rfl (.refl ..)) hs
  | ptpAdjRateWrite => exact freshR_of_keeps (keeps_execPtpAdjRateWrite _ _ rfl (.refl ..)) hs
  | ptpAdjApply => exact freshR_of_keeps (keeps_execPtpAdjApply rfl (.refl ..)) hs
  | ptpTxIdRead => exact freshR_of_keeps (keeps_execPtpTxIdRead _ _ rfl (.refl ..)) hs
  | ppsOutEdge => exact freshR_of_keeps (keeps_execPpsOutEdge rfl (.refl ..)) hs
  | ppsInEdge => exact freshR_of_keeps (keeps_execPpsInEdge rfl (.refl ..)) hs
  | egressService point frames => exact freshR_of_keeps (keeps_execEgressService (tK := s) point frames rfl (.refl ..)) hs
  | batchCommit => exact freshR_of_keeps (keeps_execBatchCommit _ rfl (.refl ..)) hs
  | gateEntryChange => exact freshR_of_keeps (keeps_execGateEntryChange _ rfl (.refl ..)) hs
  | gateListStart => exact freshR_of_keeps (keeps_execGateListStart _ rfl (.refl ..)) hs
  | drivePerstRelease => exact freshR_of_keeps (keeps_execDrivePerstRelease _ rfl (.refl ..)) hs
  | driveLinkTrained => exact fresh_execDriveLinkTrained _ _ _ _ hs
  | driveConfigDone => exact freshR_of_keeps (keeps_execDriveConfigDone _ rfl (.refl ..)) hs
  | driveControllerReady => exact fresh_execDriveControllerReady _ _ hs
  | driveChecksDone => exact fresh_execDriveChecksDone _ _ _ hs
  | driveBrandRead => exact fresh_execDriveBrandRead _ _ hs
  | driveReady => exact fresh_execDriveReady _ _ hs
  | driveBringupTimeout => exact fresh_execDriveBringupTimeout _ _ hs
  | surpriseDown => exact fresh_execSurpriseDown _ _ hs
  | drivePortError => exact fresh_execDrivePortError _ _ _ hs
  | containmentAutoRelease => exact freshR_of_keeps (keeps_execContainmentAutoRelease _ rfl (.refl ..)) hs
  | dpRelease => exact freshR_next (fresh_ite (fresh_busWrite _ _ _ (fun t ht => fresh_stepWrite _ _ _ (fun u hu => fresh_dpControl _ _ _ hu) ht) hs) hs)
  | dpReset => exact freshR_next (fresh_ite (fresh_busWrite _ _ _ (fun t ht => fresh_stepWrite _ _ _ (fun u hu => fresh_dpControl _ _ _ hu) ht) hs) hs)
  | inboundRequest => exact freshR_of_keeps (keeps_execInboundRequest _ _ _ _ rfl (.refl ..)) hs
  | cplTimeout => exact freshR_of_keeps (keeps_execCplTimeout _ _ rfl (.refl ..)) hs
  | unexpectedCompletion => exact freshR_of_keeps (keeps_execUnexpectedCompletion _ _ rfl (.refl ..)) hs
  | driveCqeRx => exact fresh_execDriveCqeRx _ _ hs
  | cqDoorbellTimer => exact freshR_of_keeps (keeps_execCqDoorbellTimer _ _ rfl (.refl ..)) hs
  | driveCmdTimeout => exact fresh_execDriveCmdTimeout _ hs
  | adminCmdTimeout => exact fresh_execAdminCmdTimeout _ hs
  | memberUnreachableTimeout => exact freshR_of_keeps (keeps_execMemberUnreachableTimeout _ _ rfl (.refl ..)) hs
  | sidebandPoll => exact fresh_execSidebandPoll _ _ hs
  | smartPoll => exact fresh_execSmartPoll _ _ hs
  | presenceConfirmed => exact fresh_execPresenceConfirmed _ _ _ _ hs
  | supplyWindowChange => exact fresh_execSupplyWindowChange _ _ _ _ hs
  | insertDelayExpiry => exact fresh_execInsertDelayExpiry _ _ _ hs
  | rampComplete => exact fresh_execRampComplete _ _ _ hs
  | limitEngage => exact fresh_execLimitEngage _ _ _ hs
  | limitDisengage => exact fresh_execLimitDisengage _ _ _ hs
  | faultTimerTrip => exact fresh_execFaultTimerTrip _ _ _ hs
  | fastTrip => exact fresh_execFastTrip _ _ _ hs
  | powerGoodQualified => exact fresh_execPowerGoodQualified _ _ _ hs
  | slotEnableWrite => exact freshR_next (fresh_ite (fresh_busWrite _ _ _ (fun t ht => fresh_stepWrite _ _ _ (fun u hu => fresh_slotEnable _ _ hu) ht) hs) hs)
  | svcLinkChange => exact freshR_of_keeps (keeps_execSvcLinkChange _ _ rfl (.refl ..)) hs
  | svcFreeze => exact freshR_of_keeps (keeps_execSvcFreeze _ rfl (.refl ..)) hs
  | freezeRelease => exact freshR_of_keeps (keeps_execFreezeRelease _ rfl (.refl ..)) hs
  | functionLevelReset => exact freshR_of_keeps (keeps_execFunctionLevelReset rfl (.refl ..)) hs
  | bar2Write addr => exact freshR_of_keeps (keeps_execBar2Write addr rfl (.refl ..)) hs
  | msixUnmask => exact freshR_of_keeps (keeps_execMsixUnmask _ rfl (.refl ..)) hs
  | pmStateWrite => exact freshR_of_keeps (keeps_execPmStateWrite _ rfl (.refl ..)) hs
  | nop => exact freshR_next (fresh_goTask _ _ _ _ hs)
  | identity => exact freshR_next (fresh_goTask _ _ _ _ hs)
  | patBlock => exact freshR_next (fresh_goTask _ _ _ _ hs)
  | patCommit => exact freshR_next (fresh_goTask _ _ _ _ hs)
  | patAbort => exact freshR_next (fresh_goTask _ _ _ _ hs)
  | overlaySet => exact freshR_next (fresh_goTask _ _ _ _ hs)
  | ownerCommission => exact freshR_next (fresh_goTask _ _ _ _ hs)
  | ownerRotate => exact freshR_next (fresh_goTask _ _ _ _ hs)
  | keyInstall => exact freshR_next (fresh_goTask _ _ _ _ hs)
  | keySwitch => exact freshR_next (fresh_goTask _ _ _ _ hs)
  | keyRetire => exact freshR_next (fresh_goTask _ _ _ _ hs)
  | admitSet => exact freshR_next (fresh_goTask _ _ _ _ hs)
  | fwBlock => exact freshR_next (fresh_goTask _ _ _ _ hs)
  | fwImageVerify => exact freshR_of_keeps (keeps_execFwImageVerify _ rfl (.refl ..)) hs
  | fwAbort => exact freshR_next (fresh_goTask _ _ _ _ hs)
  | fwActivate => exact freshR_next (fresh_goTask _ _ _ _ hs)
  | fwConfirm => exact freshR_next (fresh_goTask _ _ _ _ hs)
  | fwReject => exact freshR_next (fresh_goTask _ _ _ _ hs)
  | driveAccept => exact freshR_next (fresh_goTask _ _ _ _ hs)
  | memberFail => exact freshR_next (fresh_goTask _ _ _ _ hs)
  | driveFw => exact freshR_next (fresh_goTask _ _ _ _ hs)
  | migStart => exact freshR_next (fresh_goTask _ _ _ _ hs)
  | migCutover => exact freshR_next (fresh_goTask _ _ _ _ hs)
  | migCancel => exact freshR_next (fresh_goTask _ _ _ _ hs)
  | addrSet => exact freshR_next (fresh_goTask _ _ _ _ hs)
  | powerEnter => exact freshR_next (fresh_goTask _ _ _ _ hs)
  | warmReset => exact freshR_next (fresh_goTask _ _ _ _ hs)
  | ledgerRead => exact freshR_next (fresh_goTask _ _ _ _ hs)
  | taskDataReadDone => exact fresh_execTaskDataReadDone _ hs
  | taskEnd => exact freshR_of_keeps (keeps_execTaskEnd _ rfl (.refl ..)) hs
  | deferredTaskRun => exact fresh_execDeferredTaskRun hs
  | kvqPop => exact freshR_of_keeps (keeps_execKvqPop _ _ _ rfl (.refl ..)) hs
  | kvqPush => exact freshR_of_keeps (keeps_execKvqPush _ _ _ _ rfl (.refl ..)) hs
  | kvqWait => exact freshR_of_keeps (keeps_execKvqWait _ _ _ rfl (.refl ..)) hs
  | kvqWaitWake => exact freshR_of_keeps (keeps_execKvqWaitWake _ rfl (.refl ..)) hs
  | kvqRing => exact fresh_execKvqRing _ _ _ _ _ _ hs
  | engineAccessFault engine mode kind cause va unhandled => exact freshR_of_keeps (keeps_execEngineAccessFault engine mode kind cause va unhandled rfl (.refl ..)) hs
  | dmaStart => exact freshR_of_keeps (keeps_execDmaStart _ _ _ _ _ _ rfl (.refl ..)) hs
  | dmaResume => exact freshR_of_keeps (keeps_execDmaResume _ _ _ _ rfl (.refl ..)) hs
  | dmaAbort => exact freshR_of_keeps (keeps_execDmaAbort _ _ _ rfl (.refl ..)) hs
  | dmaComplete => exact freshR_of_keeps (keeps_execDmaComplete _ _ _ rfl (.refl ..)) hs
  | taskPreempt => exact freshR_of_keeps (keeps_execTaskPreempt _ _ _ rfl (.refl ..)) hs
  | xltInval src scope asid vpn => exact freshR_of_keeps (keeps_execXltInval src scope asid vpn rfl (.refl ..)) hs
  | xltInvalDone => exact freshR_of_keeps (keeps_execXltInvalDone rfl (.refl ..)) hs
  | evtRaiseWrite => exact freshR_of_keeps (keeps_execEvtRaiseWrite _ _ rfl (.refl ..)) hs
  | cruiserRead => exact freshR_next (fresh_ite hs (fresh_ite (fresh_of_eq (cruiseOn_flm ..) hs) (fresh_of_eq (cruiseOn_flm ..) (fresh_drawn (fresh_finding _ _ _ hs)))))
  | repairGranuleRx => exact freshR_of_keeps (keeps_execRepairGranuleRx _ _ _ rfl (.refl ..)) hs
  | repairRequestRx => exact freshR_of_keeps (keeps_execRepairRequestRx _ _ rfl (.refl ..)) hs
  | memRetire => exact freshR_of_keeps (keeps_execMemRetire _ _ _ rfl (.refl ..)) hs
  | retireComplete => exact freshR_of_keeps (keeps_execRetireComplete rfl (.refl ..)) hs
  | memInject => exact freshR_of_keeps (keeps_execMemInject _ _ _ _ rfl (.refl ..)) hs
  | memLogRelease => exact freshR_of_keeps (keeps_execMemLogRelease _ _ rfl (.refl ..)) hs
  | lsmStart => exact freshR_of_keeps (keeps_execLsmStart _ _ _ rfl (.refl ..)) hs
  | lsmNonceResume => exact freshR_of_keeps (keeps_execLsmNonceResume rfl (.refl ..)) hs
  | lsmJobDone => exact freshR_of_keeps (keeps_execLsmJobDone _ rfl (.refl ..)) hs
  | scalerCounterWrite => exact freshR_of_keeps (keeps_execScalerCounterWrite _ _ rfl (.refl ..)) hs
  | scalerSelectWrite => exact freshR_of_keeps (keeps_execScalerSelectWrite _ _ _ rfl (.refl ..)) hs
  | scalerStartAtReached => exact freshR_of_keeps (keeps_execScalerStartAtReached rfl (.refl ..)) hs
  | scalerStopAtReached => exact freshR_of_keeps (keeps_execScalerStopAtReached rfl (.refl ..)) hs
  | sampleTaken => exact freshR_of_keeps (keeps_execSampleTaken _ _ rfl (.refl ..)) hs
  | smpRingReset => exact freshR_of_keeps (keeps_execSmpRingReset _ _ _ rfl (.refl ..)) hs
  | ldgFreezeWrite => exact freshR_of_keeps (keeps_execLdgFreezeWrite _ _ rfl (.refl ..)) hs
  | ldgThaw => exact freshR_of_keeps (keeps_execLdgThaw _ _ rfl (.refl ..)) hs
  | powerOnReset => exact freshR_next (fresh_resetTo _)
  | sysReset => exact fresh_execSysReset hs
  | warmRstPin => exact freshR_of_keeps (keeps_execWarmRstPin rfl (.refl ..)) hs
  | pwrCtlWarm => exact freshR_of_keeps (keeps_execPwrCtlWarm _ rfl (.refl ..)) hs
  | warmResetEffect => exact fresh_execWarmResetEffect _ hs
  | sysRstNRelease => exact fresh_execSysRstNRelease _ _ _ hs
  | patternLoad => exact freshR_of_keeps (keeps_execPatternLoad _ rfl (.refl ..)) hs
  | firmwareSelect => exact freshR_of_keeps (keeps_execFirmwareSelect _ _ rfl (.refl ..)) hs
  | bootReady => exact fresh_execBootReady hs
  | fatalReset => exact fresh_execFatalReset _ hs
  | holdupChange => exact fresh_execHoldupChange _ hs
  | watchdogExpiry => exact freshR_of_keeps (keeps_execWatchdogExpiry rfl (.refl ..)) hs
  | wdogKick => exact freshR_of_keeps (keeps_execWdogKick _ rfl (.refl ..)) hs
  | pwrCtlEnter => exact freshR_of_keeps (keeps_execPwrCtlEnter _ _ rfl (.refl ..)) hs
  | idlePowerEntry => exact freshR_of_keeps (keeps_execIdlePowerEntry rfl (.refl ..)) hs
  | drowseEntryDone => exact freshR_of_keeps (keeps_execDrowseEntryDone rfl (.refl ..)) hs
  | fallowPonr => exact fresh_execFallowPonr hs
  | fallowEntryDone => exact freshR_of_keeps (keeps_execFallowEntryDone rfl (.refl ..)) hs
  | wakeGpioEdge => exact freshR_of_keeps (keeps_execWakeGpioEdge _ rfl (.refl ..)) hs
  | pwrCtlWake => exact freshR_of_keeps (keeps_execPwrCtlWake _ rfl (.refl ..)) hs
  | wakeDone => exact fresh_execWakeDone hs
  | linkIdleRx => exact freshR_of_keeps (keeps_execLinkIdleRx _ rfl (.refl ..)) hs
  | clusterSwitch => exact fresh_execClusterSwitch hs
  | trialEvaluation => exact freshR_of_keeps (keeps_execTrialEvaluation rfl (.refl ..)) hs
  | trialExpiry => exact freshR_of_keeps (keeps_execTrialExpiry rfl (.refl ..)) hs
  | thermalTrip => exact freshR_of_keeps (keeps_execThermalTrip _ rfl (.refl ..)) hs

/-- Settles O10: the reset state has no messages, and no row but SNAPSHOT_RX gives the sender a message whose number is not below the next one. -/
theorem messageNumbersAreFresh : Obligations.MessageNumbersAreFresh := by
  refine ⟨fun _ hm => absurd hm List.not_mem_nil, fun c s t hc hs ht => ?_⟩
  exact flmFresh_iff_keysFresh.mp ((exec_fresh c s hc (flmFresh_iff_keysFresh.mpr hs)).out ht)

end Sys2Proof.Machine
end

section
/-!
PROOFS. O19 (03_flume_delivery.md): a refutation by a register counter beyond its table.
-/
namespace Sys2Proof.Machine

/-! ## A deadline that counts twice (O19)

As for O57 and O26: the count of yellow packets of meter 45,059, which nothing in `State` forbids, is FLM_MSG_FAIL. MESSAGE_DEADLINE counts there, and the end of the message lets the sender look at
its destination again, where a path probe waits that leaves through that meter. -/

/-- A meter on class 0 of logical port 0 with an empty committed bucket and a full peak bucket; its number lies beyond the 1,024 of TC_MTR_YELLOW. -/
def yellowMeter : PatRec := { type := 0x0082, inst := 45059, body := [0, 0, 0, 0, 1, 0, 0, 0] ++ zeroBytes 20 ++ List.replicate 4 0xFF }

theorem yellowMeter_counter_is_msgFail : F.TC_MTR_YELLOW.COUNT.key yellowMeter.inst 0 = F.FLM_MSG_FAIL.COUNT.key 0 0 := by decide

/-- A SEND of one byte to peer 7. -/
def lateDesc : SendDesc :=
  { op := opSend, fence := false, notify := false, solicit := false, signal := true, inc := false, rsvdSet := false, remoteWq := 0, dstPeer := 7, localAddr := 0, len := 1, window := 0,
    winOffset := 0, counter := 0, count := 0, user := 0 }

/-- Its message, sent and not answered by its deadline. -/
def lateMsg : Msg :=
  { overrunProbe with
    key := 1, opcode := opSend, len := 1, src := .bytes [0], use := .desc 0 0, desc := some lateDesc, st := .active, pkts := [⟨0, true, 0, 0, 0, 0, 0, 0, false, false⟩] }

/-- A controller with work queue 0 open, that message, and the probe `overrunProbe` to the same peer. -/
def lateState : State :=
  { State.reset with
    pat := { State.reset.pat with live := [yellowMeter, overrunFlume] }
    flm := { State.reset.flm with
      msgs := [overrunProbe, lateMsg], orderCtr := 2, epochs := [⟨1, .current, 0⟩], wqs := [(0, { wqClosed with st := .open_ })] }
    fx := { State.reset.fx with flows := [overrunFlow] } }

theorem lateState_msg_late : lateState.msg? 1 = some lateMsg ∧ lateMsg.st ≠ .queued ∧ lateMsg.opcode ≠ opProbe ∧ lateState.txDeadline lateMsg ≤ lateState.nowUs ∧
    lateMsg.faulted = false := by decide +kernel

theorem lateState_ofQueue : OfQueue lateState lateMsg 0 0 lateDesc :=
  ⟨rfl, rfl, rfl, by decide +kernel, rfl, by unfold KeysFresh; decide +kernel⟩

/-- FLM_MSG_FAIL where a row has ended in a next state. -/
def msgFailAfter : Result → Option Nat
  | .next t => some (t.get F.FLM_MSG_FAIL.COUNT)
  | .fault _ => none
  | .refused _ => none

/-- One message, and a count of 2. -/
theorem msgFailAfter_messageDeadline_lateState : msgFailAfter (exec (.messageDeadline 1) lateState) = some 2 := by decide +kernel

theorem lateState_count : lateState.get F.FLM_MSG_FAIL.COUNT = 0 := by decide +kernel

/-- Refutes O19 in its clause of MESSAGE_DEADLINE: what the end of the message lets leave can count at FLM_MSG_FAIL as well, through a meter beyond the table. -/
theorem not_flumeMessagesSent : ¬ Obligations.FlumeMessagesSent := by
  rintro ⟨-, -, -, -, -, -, hdeadline, -, -⟩
  obtain ⟨hmsg, hst, hop, hdue, hfault⟩ := lateState_msg_late
  obtain ⟨t, _, _, ht, -, -, hone, -⟩ := hdeadline 1 lateMsg 0 0 lateDesc lateState hmsg hst hop hdue hfault lateState_ofQueue
  have htwo := msgFailAfter_messageDeadline_lateState
  rw [ht] at htwo
  rw [lateState_count] at hone
  exact absurd (hone.symm.trans (Option.some.inj htwo)) (by decide)

end Sys2Proof.Machine
end

section
/-!
PROOFS. O20 and O21 (04_flume_windows_keys.md): window commits, work queues, doorbells and the apertures, and a refutation by two messages of one number.
-/
namespace Sys2Proof.Machine

/-! ## Tables after a write -/

section
variable (s : State) (i j : Nat)

@[simp] theorem win_setWin_same (w : Win) : (s.setWin i w).win i = w := by
  simp [State.win, State.setWin, sparseGet_put]

@[simp] theorem wq_setWq_same (w : Wq) : (s.setWq i w).wq i = w := by
  simp [State.wq, State.setWq, sparseGet_put]

theorem chain_setChain (v : Nat) : (s.setChain i v).chain j = if i = j then v else s.chain j := by
  simp [State.chain, State.setChain, sparseGet_put]

/-- The family of an address is that of its place (R361, R591). -/
theorem addrTable_setAddr (a : IpAddr) : sparseGet none i (State.setAddr i (some a) s).fx.addrTable = some { a with v6 := decide (4 ≤ i % 8) } := by
  have htable : (State.setAddr i (some a) s).fx.addrTable = sparsePut none i (some { a with v6 := decide (4 ≤ i % 8) }) s.fx.addrTable := rfl
  rw [htable, sparseGet_put none, if_pos rfl]

/-- No SEND that is arriving at a queue keeps a buffer once the queue has let them go (R130). -/
theorem doomSends_dooms : ∀ x ∈ (s.doomSends i true).flm.slots, x.hdr.opcode = opSend → x.wq = i → x.doomed = true ∧ x.buf = none := by
  intro x hx hop hwq
  obtain ⟨y, -, rfl⟩ := List.mem_map.mp hx
  by_cases hy : y.hdr.opcode = opSend ∧ y.wq = i
  · simp [hy]
  · rw [if_neg hy] at hop hwq
    exact absurd ⟨hop, hwq⟩ hy

end

/-! ## Writes of step state that act at once (R317) -/

section
variable {src : Src} {s : State}

theorem busWrite_atOnce {off : Nat} (hg : s.gate src off = .pass) (ha : ActsAtOnce s src) (w : StepWrite) (f : State → State) :
    (.next (s.busWrite src off (fun s => s.stepWrite src w f)) : Result) = .next (f s) := by
  have hnow : (s.profile = 0 ∧ !s.inPair) ∨ src ≠ .svc := by simpa [ActsAtOnce] using ha
  unfold State.busWrite
  rw [hg]
  exact congrArg _ (if_pos hnow)

/-! ## Window commits (R125, R126) -/

/-- RESULT has four bits. -/
theorem winResult_result (s : State) (index result : Nat) (hr : result < 16) : (s.winResult index result).get F.FLM_WIN_RESULT.RESULT = result := by
  unfold State.winResult
  rw [get_raise _ _ _ _ _ (by decide), get_set_other _ _ _ _ _ _ _ _ (by decide), get_set_same]
  exact Nat.mod_eq_of_lt hr

theorem winResult_busy (s : State) (index result : Nat) : (s.winResult index result).flag F.FLM_WIN_RESULT.BUSY = s.flag F.FLM_WIN_RESULT.BUSY := by
  unfold State.flag State.winResult
  rw [get_raise _ _ _ _ _ (by decide), get_set_other _ _ _ _ _ _ _ _ (by decide), get_set_other _ _ _ _ _ _ _ _ (by decide)]

/-- The state with a commit request accepted. -/
def State.winAccepted (s : State) (index gen : Nat) (h : WinHalf) : State :=
  let t := ((s.setWin index { s.win index with shadow := h }).setFlag F.FLM_WIN_RESULT.BUSY true).set F.FLM_WIN_RESULT.INDEX index
  { t with flm := { t.flm with winPending := some (index, gen, s.nowUs) } }

theorem winCommit_accepted {index gen : Nat} {h : WinHalf} (hbusy : s.flag F.FLM_WIN_RESULT.BUSY = false) (hgen : gen = ((s.win index).gen + 1) % 256)
    (hdrain : (s.win index).draining = false) (hlast : (s.win index).lastCommitUs = 0 ∨ (s.win index).lastCommitUs + (s.lmaxUs + 254) / 255 ≤ s.nowUs)
    (hlen : h.len ≤ 2 ^ 40) (hrights : h.rights < 8) : State.winCommit index gen false h s = s.winAccepted index gen h := by
  have hpaced : ¬ ((s.win index).lastCommitUs ≠ 0 ∧ s.nowUs < (s.win index).lastCommitUs + (s.lmaxUs + 254) / 255) := by omega
  have hhalf : ¬ (2 ^ 40 < h.len ∨ 8 ≤ h.rights) := by omega
  unfold State.winCommit
  rw [if_neg (by simp [hbusy]), if_neg (not_not.mpr hgen), if_neg (by simp [hdrain]), if_neg hpaced]
  exact if_neg hhalf

theorem winAccepted_busy (s : State) (index gen : Nat) (h : WinHalf) : (s.winAccepted index gen h).flag F.FLM_WIN_RESULT.BUSY = true := by
  refine Eq.trans ?_ (flag_setFlag_same (s.setWin index { s.win index with shadow := h }) F.FLM_WIN_RESULT.BUSY true 0 0 rfl)
  exact congrArg (· == 1) (get_set_other _ F.FLM_WIN_RESULT.INDEX F.FLM_WIN_RESULT.BUSY index 0 0 0 0 (by decide))

theorem winCommit_busy {index gen : Nat} {staged : Bool} {h : WinHalf} (hbusy : s.flag F.FLM_WIN_RESULT.BUSY = true) :
    State.winCommit index gen staged h s = s.winResult index 2 := if_pos hbusy

/-- A window once its shadow half has become live (R126). -/
def State.appliedWin (s : State) (index gen : Nat) : Win :=
  { s.win index with
    live := (s.win index).shadow, oldGen := (s.win index).gen, gen := gen, lastCommitUs := s.nowUs, oldRefs := s.winRefs index (s.win index).gen,
    draining := s.winRefs index (s.win index).gen != 0 }

/-- The state with that window, and no request in progress. -/
def State.winApplied (s : State) (index gen : Nat) : State :=
  let t := s.setWin index (s.appliedWin index gen)
  { t with flm := { t.flm with winPending := none } }

theorem exec_windowCommitApply {index gen a : Nat} (hpend : s.flm.winPending = some (index, gen, a)) (hlater : a < s.nowUs) :
    exec .windowCommitApply s = .next (((((atStep s).winApplied index gen).setFlag F.FLM_WIN_RESULT.BUSY false).winResult index 1).closeStep s.dev.curStep) := by
  change execWindowCommitApply s = _
  unfold execWindowCommitApply
  rw [inStep_eq]
  have hpend' : (atStep s).flm.winPending = some (index, gen, a) := hpend
  have hlater' : a < (atStep s).nowUs := hlater
  simp only [hpend', hlater', if_true]
  rfl

theorem windowCommitApply_applies {index gen a : Nat} (hpend : s.flm.winPending = some (index, gen, a)) (hlater : a < s.nowUs) :
    ∃ t, exec .windowCommitApply s = .next t ∧ (t.win index).live = (s.win index).shadow ∧ (t.win index).gen = gen ∧ (t.win index).oldGen = (s.win index).gen ∧
      t.flm.winPending = none ∧ t.flag F.FLM_WIN_RESULT.BUSY = false ∧ t.get F.FLM_WIN_RESULT.RESULT = 1 := by
  refine ⟨_, exec_windowCommitApply hpend hlater, ?_⟩
  generalize ht : (((atStep s).winApplied index gen).setFlag F.FLM_WIN_RESULT.BUSY false).winResult index 1 = t
  have hflm : t.flm = ((atStep s).winApplied index gen).flm := by
    rw [← ht, winResult_flm, setFlag_flm]
  have hwin : t.win index = (atStep s).appliedWin index gen := by
    have h := win_setWin_same (atStep s) index ((atStep s).appliedWin index gen)
    unfold State.win at h ⊢
    rw [hflm]
    exact h
  have hbusy : t.flag F.FLM_WIN_RESULT.BUSY = false := by
    rw [← ht, winResult_busy, flag_setFlag_same _ _ _ _ _ rfl]
  have hresult : t.get F.FLM_WIN_RESULT.RESULT = 1 := by
    rw [← ht, winResult_result _ _ _ (by decide)]
  have hwin' : (t.closeStep s.dev.curStep).win index = (atStep s).appliedWin index gen := hwin
  rw [hwin']
  exact ⟨rfl, rfl, rfl, congrArg Flm.winPending hflm, hbusy, hresult⟩

/-! ## Work queues (R130) -/

theorem openWq_of_closed {wq : Nat} {c : WqCtx} (hclosed : (s.wq wq).st = .closed) (hsq : 4 ≤ c.sqLog2 ∧ c.sqLog2 ≤ 12) (hcq : 4 ≤ c.cqLog2 ∧ c.cqLog2 ≤ 14) :
    State.openWq wq c s = s.setWq wq { s.wq wq with st := .open_, ctx := c } := by
  unfold State.openWq
  exact if_pos ⟨hclosed, hsq.1, hsq.2, hcq.1, hcq.2⟩

end

/-- Settles O20: a write of step state that acts at once is its effect, and each effect is one write of a table; WINDOW_COMMIT_APPLY has a lemma of its own. -/
theorem flumeWindowsAndQueues : Obligations.FlumeWindowsAndQueues := by
  refine ⟨?accepted, ?busy, fun _ _ _ _ hpend hlater => windowCommitApply_applies hpend hlater, ?opened, ?closed, ?rung, ?posted, ?chain, ?address⟩
  case accepted =>
    intro src index gen h s hg ha hbusy hgen hdrain hlast hlen hrights
    refine ⟨_, (busWrite_atOnce hg ha _ _).trans (congrArg _ (winCommit_accepted hbusy hgen hdrain hlast hlen hrights)), winAccepted_busy .., rfl, ?_⟩
    exact win_setWin_same s index _
  case busy =>
    intro src index gen staged h s hg ha hbusy
    exact ⟨_, (busWrite_atOnce hg ha _ _).trans (congrArg _ (winCommit_busy hbusy)), winResult_result _ _ _ (by decide), winResult_flm ..⟩
  case opened =>
    intro src wq c s hg ha hclosed hsq hsq' hcq hcq'
    exact ⟨_, (busWrite_atOnce hg ha _ _).trans (congrArg _ (openWq_of_closed hclosed ⟨hsq, hsq'⟩ ⟨hcq, hcq'⟩)), wq_setWq_same ..⟩
  case closed =>
    intro src wq s hg ha
    constructor
    · refine ⟨_, busWrite_atOnce hg ha _ _, ?_⟩
      simp only [State.closeWq, wq_setWq_same, true_and]
      exact doomSends_dooms s wq
    · exact ⟨_, busWrite_atOnce hg ha _ _, wq_setWq_same ..⟩
  case rung =>
    intro src wq tail cqHead s hg ha
    exact ⟨_, busWrite_atOnce hg ha _ _, by simp only [State.ringSq, wq_setWq_same, and_self]⟩
  case posted =>
    intro src wq tail cqHead bufs s hg ha
    exact ⟨_, busWrite_atOnce hg ha _ _, by simp only [State.ringRq, wq_setWq_same, and_self]⟩
  case chain =>
    intro src i v fault s hg ha
    refine ⟨_, busWrite_atOnce hg ha _ _, ?_, fun j hj => ?_⟩
    · rw [chain_setChain, if_pos rfl]
    · rw [chain_setChain, if_neg hj.symm]
  case address =>
    intro src e a s hg ha
    exact ⟨_, busWrite_atOnce hg ha _ _, addrTable_setAddr ..⟩

/-! ## Two messages of one number (O21)

WQ_FAULT_RESOLVED lets the sender look at the destination of the paused message again, and the sender finds its messages by their numbers. Nothing in `State`, and no hypothesis of the clause, forbids
two messages of one number: what a probe with the number of the paused message leaves at its transmission then stands in the place of both. -/

/-- A SEND of one byte to peer 7, held by a BUSY, with nothing of its buffer translated; its number is that of `overrunProbe`. -/
def pausedSend : Msg := { lateMsg with key := 0, src := .segs [], st := .held }

/-- A controller with work queue 0 paused by that SEND, and the probe to the same peer. -/
def pausedState : State :=
  { State.reset with
    pat := { State.reset.pat with live := [overrunFlume] }
    flm := { State.reset.flm with
      msgs := [pausedSend, overrunProbe], orderCtr := 1, epochs := [⟨1, .current, 0⟩], wqs := [(0, { wqClosed with st := .paused, pausedMsg := some 0 })] }
    fx := { State.reset.fx with flows := [overrunFlow] } }

theorem pausedState_paused : (pausedState.wq 0).st = .paused ∧ (pausedState.wq 0).pausedMsg = some 0 ∧ pausedState.msg? 0 = some pausedSend := by decide +kernel

/-- Where the bytes of a message come from where a row has ended in a next state. -/
def srcAfter (key : Nat) : Result → Option MsgSrc
  | .next t => (t.msg? key).map (·.src)
  | .fault _ => none
  | .refused _ => none

/-- The probe's empty source stands under the number of the SEND. -/
theorem srcAfter_wqFaultResolved_pausedState : srcAfter 0 (exec (.wqFaultResolved 0 [(0, 1)]) pausedState) = some (.bytes []) := by decide +kernel

/-- Refutes O21 in its clause of WQ_FAULT_RESOLVED: another message of the same number that leaves then takes the place of the paused one. -/
theorem not_flumeDescriptors : ¬ Obligations.FlumeDescriptors := by
  rintro ⟨-, -, -, -, -, -, -, hresolved, -⟩
  obtain ⟨hst, hpaused, hmsg⟩ := pausedState_paused
  obtain ⟨t, ht, hsegs⟩ := hresolved 0 0 0 pausedSend [] [(0, 1)] pausedState hst hpaused hmsg rfl (by decide) rfl
  have hbytes := srcAfter_wqFaultResolved_pausedState
  rw [ht] at hbytes
  exact absurd (hbytes.symm.trans hsegs) (by decide)

end Sys2Proof.Machine
end

section
/-!
PROOFS. O22 and O24 (05_nvme_service.md): a refused Connect and an unrecovered Read that count twice.

As for O26: the counts of yellow packets of meters 126,977 and 126,978, which nothing in `State` forbids, are NVS_CONNECT_REFUSED and NVS_UNRECOVERED. A row counts there and then answers, and the
response leaves through that meter.
-/
namespace Sys2Proof.Machine

/-- The meter of `yellowMeter` under another number. -/
def yellowMeterOf (n : Nat) : PatRec := { yellowMeter with inst := n }

theorem yellowMeterOf_counter_is_connectRefused : F.TC_MTR_YELLOW.COUNT.key (yellowMeterOf 126977).inst 0 = F.NVS_CONNECT_REFUSED.COUNT.key 0 0 := by decide

theorem yellowMeterOf_counter_is_unrecovered : F.TC_MTR_YELLOW.COUNT.key (yellowMeterOf 126978).inst 0 = F.NVS_UNRECOVERED.COUNT.key 0 0 := by decide

/-! ## A refused Connect (O22) -/

/-- A Connect that names no subsystem. -/
def namelessConnect : Capsule := { overrunCapsule with opcode := fabricsOp }

/-- A controller that serves alone, with a connection and, so that responses have a class, a command of number 0 in a namespace of class 0. -/
def refuseState : State :=
  { limitState with
    pat := { limitState.pat with live := [yellowMeterOf 126977, limitSubsystem] }
    nvm := { limitState.nvm with cmds := [{ overrunCmd with key := 0 }], queues := [] } }

theorem refuseState_takes_connect : refuseState.consumes = true ∧ refuseState.pwr.hostBusy = false ∧ connectFrom refuseState (.tcp 1) = some (0, false) := by decide +kernel

theorem refuseState_connectFault :
    (atStep refuseState).hostCommand.connectFault (.tcp 1) false namelessConnect (connectData namelessConnect.data) = some (stConnect 256 1) := by decide +kernel

/-- NVS_CONNECT_REFUSED where a row has ended in a next state. -/
def connectRefusedAfter : Result → Option Nat
  | .next t => some (t.get F.NVS_CONNECT_REFUSED.COUNT)
  | .fault _ => none
  | .refused _ => none

/-- One Connect, and a count of 2. -/
theorem connectRefusedAfter_connect_refuseState : connectRefusedAfter (exec (.connect (.tcp 1) namelessConnect) refuseState) = some 2 := by decide +kernel

theorem refuseState_count : refuseState.get F.NVS_CONNECT_REFUSED.COUNT = 0 := by decide +kernel

/-- Refutes O22 in its clause of a refused Connect: the response to it can itself count at NVS_CONNECT_REFUSED, through a meter beyond the table. -/
theorem not_nvmeFabricsCommands : ¬ Obligations.NvmeFabricsCommands := by
  rintro ⟨hconnect, -⟩
  obtain ⟨hconsumes, hbusy, hfrom⟩ := refuseState_takes_connect
  obtain ⟨-, hrefused⟩ := hconnect (.tcp 1) namelessConnect 0 false refuseState hconsumes hbusy rfl rfl hfrom
  obtain ⟨t, ht, -, -, hone⟩ := hrefused _ refuseState_connectFault
  have htwo := connectRefusedAfter_connect_refuseState
  rw [ht] at htwo
  rw [refuseState_count] at hone
  exact absurd (hone.symm.trans (Option.some.inj htwo)) (by decide)

/-! ## A Read of a lost block (O24) -/

/-- A subsystem that any host may use, with one namespace, NSID 1, of one block and class 0 in group 0. -/
def lostSubsystem : PatRec :=
  { type := 0x0070, inst := 0, body := zeroBytes 4 ++ [2, 0, 0, 0, 1] ++ zeroBytes 279 ++ [1] ++ zeroBytes 7 ++ [1] ++ zeroBytes 55 }

/-- A Read of that block. -/
def lostRead : Capsule := { overrunCapsule with sglId := 0x5A, sglLen := 4096 }

def lostCtrl : NvmCtrl :=
  { id := 1, sub := 0, discovery := false, hostDigest := 0, hostId := 0, peer := 0, katoMs := 0, aliveUs := 0, aer := [], events := [], features := [], cc := 0, csts := 0, changedNs := [],
    resvLog := [], resvCount := 0, errors := [], errorCount := 0 }

/-- A controller that serves alone with group 0 in service, whose block of the namespace is lost, and with a host on the connection. -/
def lostState : State :=
  { limitState with
    pat := { limitState.pat with live := [yellowMeterOf 126978, lostSubsystem, { type := 0x0060, inst := 0, body := [] }] }
    cht := { limitState.cht with dir := [(0, 1)] }
    grps := [(0, newGrp (recordBrand 0 [] none) false true)]
    tly := { limitState.tly with lostSegs := [(0, 1, 0, 0)] }
    nvm := { limitState.nvm with cmds := [], ctrls := [lostCtrl] } }

/-- The queue once the Read is taken from it, and the machine with the Read in it. -/
def lostTaken : State × NvmQueue := ((atStep lostState).count 4 0 0).takeSlot limitQueue
def lostIn : State × Cmd := lostTaken.1.newCmd lostTaken.2 0 lostRead

theorem lostState_taken : Taken lostState 1 lostRead (.io 0x02) lostIn.1 lostTaken.2 lostCtrl lostIn.2 :=
  ⟨limitQueue, by decide +kernel, by decide +kernel, by decide +kernel, by decide +kernel, by decide +kernel, by decide +kernel, .inl rfl, rfl, rfl⟩

theorem lostState_canAnswer : CanAnswer lostState lostTaken.2 :=
  ⟨by decide +kernel, by decide +kernel, limitConn, by decide +kernel, rfl⟩

theorem lostIn_read_passes : ∃ n, lostIn.1.ioGate lostIn.2 .reads true = .ok n ∧ n.lbaf = 0 ∧ lostIn.1.sglGate lostTaken.2 lostIn.2 (lostIn.2.hostLen n) false = none ∧
    ∃ b, b < lostIn.2.nlb ∧ lostIn.1.locate lostIn.2.sub n (lostIn.2.slba + b) = .lost :=
  ⟨nsAt lostSubsystem.body 0, by rfl, by decide +kernel, by decide +kernel, 0, by decide +kernel, by decide +kernel⟩

/-- NVS_UNRECOVERED where a row has ended in a next state. -/
def unrecoveredAfter : Result → Option Nat
  | .next t => some (t.get F.NVS_UNRECOVERED.COUNT)
  | .fault _ => none
  | .refused _ => none

/-- One Read, and a count of 2. -/
theorem unrecoveredAfter_nvmeRead_lostState : unrecoveredAfter (exec (.nvmeRead 1 lostRead) lostState) = some 2 := by decide +kernel

theorem lostState_count : lostState.get F.NVS_UNRECOVERED.COUNT = 0 := by decide +kernel

/-- Refutes O24 in its clause of a Read that meets a lost block: the response to it can itself count at NVS_UNRECOVERED, through a meter beyond the table. -/
theorem not_nvmeDataCommands : ¬ Obligations.NvmeDataCommands := by
  rintro ⟨-, hread, -⟩
  obtain ⟨n, hgate, hlbaf, hsgl, hlost⟩ := lostIn_read_passes
  obtain ⟨-, -, hunrecovered⟩ := hread 1 lostRead n lostState _ _ _ _ lostState_taken lostState_canAnswer hgate hlbaf hsgl
  obtain ⟨t, ht, -, hone⟩ := hunrecovered hlost
  have htwo := unrecoveredAfter_nvmeRead_lostState
  rw [ht] at htwo
  rw [lostState_count] at hone
  exact absurd (hone.symm.trans (Option.some.inj htwo)) (by decide)

end Sys2Proof.Machine
end

section
/-!
PROOFS. What the answers of the NVMe service rest on (05_nvme_service.md): fields that no work on a command writes.
-/
namespace Sys2Proof.Machine

/-! ## Fields that nothing on the way to an answer writes -/

/-- The role, the profile and the running firmware slot. -/
def nvmeWatch : List Nat := [F.WSW_STATUS.ROLE.key 0 0, F.GLB_SIDE.PROFILE.key 0 0, F.FWU_STATUS.RUNNING.key 0 0]

/-- None of them stands at bit 0 of its register, as counters and event status do, whatever copy is written. -/
theorem lowField_not_watched (f : Fld) (i j : Nat) (hlo : f.lo = 0) : f.key i j ∉ nvmeWatch := by
  simp only [nvmeWatch, List.mem_cons, List.not_mem_nil, or_false, not_or, Fld.key, Fld.at, hlo, F.WSW_STATUS.ROLE, F.GLB_SIDE.PROFILE, F.FWU_STATUS.RUNNING]
  omega

/-- The state of a drive port stands behind the role in the map. -/
theorem portState_not_watched (n : Nat) : F.DP_STATUS.STATE.key n 0 ∉ nvmeWatch := by
  simp only [nvmeWatch, List.mem_cons, List.not_mem_nil, or_false, not_or, Fld.key, Fld.at, F.DP_STATUS.STATE, F.WSW_STATUS.ROLE, F.GLB_SIDE.PROFILE, F.FWU_STATUS.RUNNING]
  omega

/-- The watched fields, step time and whether outputs are stopped are as before. -/
structure Calm (s t : State) : Prop where
  reads : ∀ (g : Fld) (m n : Nat), g.key m n ∈ nvmeWatch → t.get g m n = s.get g m n
  stepUs : t.dev.stepUs = s.dev.stepUs
  stopped : t.wsw.stopped = s.wsw.stopped

section
variable {s t u : State}

theorem Calm.refl (s : State) : Calm s s := ⟨fun _ _ _ _ => rfl, rfl, rfl⟩

theorem Calm.trans (h : Calm s t) (h' : Calm t u) : Calm s u :=
  ⟨fun g m n hk => (h'.reads g m n hk).trans (h.reads g m n hk), h'.stepUs.trans h.stepUs, h'.stopped.trans h.stopped⟩

theorem Calm.role (h : Calm s t) : t.role = s.role := h.reads F.WSW_STATUS.ROLE 0 0 (by decide)

theorem Calm.profile (h : Calm s t) : t.profile = s.profile := h.reads F.GLB_SIDE.PROFILE 0 0 (by decide)

theorem Calm.fwRunsB (h : Calm s t) : t.fwRunsB = s.fwRunsB := congrArg (· == 1) (h.reads F.FWU_STATUS.RUNNING 0 0 (by decide))

theorem Calm.of_same (h : Calm s t) (hregs : u.regs = t.regs) (hdev : u.dev = t.dev) (hwsw : u.wsw = t.wsw) : Calm s u := by
  refine h.trans ⟨fun g m n _ => ?_, by rw [hdev], by rw [hwsw]⟩
  unfold State.get
  rw [hregs]

/-- Operations that change neither registers nor device nor pair state. -/
theorem Calm.keeps {p : Bool} {A : Nat} (h : Calm s t) (hk : Keeps p A t u) (hregs : A &&& 1 ≠ 1) (hdev : A &&& 2 ≠ 2) (hwsw : A &&& 512 ≠ 512) : Calm s u :=
  h.of_same (hk.part .regs hregs) (hk.part .dev hdev) (hk.part .wsw hwsw)

theorem Calm.ite {c : Prop} [Decidable c] (h : Calm s t) (h' : Calm s u) : Calm s (if c then t else u) := by
  split <;> assumption

theorem Calm.foldl {α : Type} {f : State → α → State} (l : List α) (hf : ∀ t x, Calm s t → Calm s (f t x)) (h : Calm s t) : Calm s (l.foldl f t) := by
  induction l generalizing t with
  | nil => exact h
  | cons x l ih => exact ih (hf t x h)

theorem Calm.set (h : Calm s t) (f : Fld) (v i j : Nat) (hk : f.key i j ∉ nvmeWatch) : Calm s (t.set f v i j) :=
  h.trans ⟨fun _ _ _ hg => get_set_other _ _ _ _ _ _ _ _ (fun e => hk (e ▸ hg)), rfl, rfl⟩

theorem Calm.bump (h : Calm s t) (f : Fld) (i j : Nat) (hlo : f.lo = 0) : Calm s (t.bump f i j) := h.set f _ i j (lowField_not_watched f i j hlo)

theorem Calm.raise (h : Calm s t) (e : Nat) : Calm s (t.raise e) := by
  refine h.trans ⟨fun _ _ _ hg => get_raise _ _ _ _ _ (fun he => lowField_not_watched _ _ _ rfl (he ▸ hg)), ?_, by rw [raise_wsw]⟩
  obtain ⟨l, hl⟩ := raise_dev t e
  rw [hl]

theorem Calm.raiseLimited (h : Calm s t) (e : Nat) : Calm s (t.raiseLimited e) := by
  refine h.ite (Calm.raise ?_ e)
  exact h.trans ⟨fun _ _ _ _ => rfl, rfl, rfl⟩

/-! ## Counters, wakes and egress -/

theorem Calm.addCounter (h : Calm s t) (i weight : Nat) : Calm s (t.addCounter i weight) := by
  have hc := h.set F.SCL_CNT.COUNT (t.get F.SCL_CNT.COUNT i + weight) i 0 (lowField_not_watched _ _ _ rfl)
  exact hc.ite ((hc.set F.SCL_OVF.OVF _ _ 0 (lowField_not_watched _ _ _ rfl)).raiseLimited 0x480)

theorem Calm.count (h : Calm s t) (unit inst event weight : Nat) : Calm s (t.count unit inst event weight) :=
  Calm.ite (h.foldl _ (fun _ i h => (h.addCounter i weight).ite h)) h

theorem Calm.portTo (h : Calm s t) (n st : Nat) : Calm s (t.portTo n st) :=
  h.ite ((h.set F.DP_STATUS.STATE st n 0 (portState_not_watched n)).raise _)

theorem Calm.driveAwake (h : Calm s t) (n : Nat) : Calm s (t.driveAwake n) := by
  unfold State.driveAwake
  extract_lets p
  cases p.shutDown
  · cases p.lowPower
    · exact h
    · exact h.of_same rfl rfl rfl
  · exact Calm.portTo (h.of_same (u := t.setPort n { p with shutDown := false, lowPower := false, step := 3, sinceNs := t.dev.timeNs }) rfl rfl rfl) n 4

theorem Calm.abortEntry (h : Calm s t) : Calm s t.abortEntry := by
  have hawake : Calm s ({ t with pwr := { t.pwr with entryStep := 0 } } : State).drivesAwake :=
    Calm.foldl (List.range 48) (fun _ n h => h.driveAwake n) (h.of_same rfl rfl rfl)
  exact ((hawake.bump F.PWR_ENTRY_COUNT.COUNT 0 0 rfl).set F.PWR_STATE.STATE stActive 0 0 (by decide)).raise 0x00D

theorem Calm.beginWake (h : Calm s t) : Calm s t.beginWake :=
  (Calm.set (t := { t with pwr := { t.pwr with wakeNs := some t.dev.timeNs, wakeWanted := false } }) (h.of_same rfl rfl rfl) F.PWR_STATE.STATE stWaking 0 0 (by decide)).raise 0x00E

theorem Calm.wakeSource (h : Calm s t) : Calm s t.wakeSource :=
  h.abortEntry.ite (h.beginWake.ite (Calm.ite (Calm.ite (h.of_same rfl rfl rfl) h.abortEntry) h))

theorem Calm.hostCommand (h : Calm s t) : Calm s t.hostCommand :=
  Calm.wakeSource (t := { t with pwr := { t.pwr with lastHostUs := t.dev.stepUs } }) (h.of_same rfl rfl rfl)

theorem Calm.enqueue (h : Calm s t) (p cls : Nat) (x : TcUnit) : Calm s (t.enqueue p cls x) :=
  h.keeps (keeps_State_enqueue p cls x rfl (Keeps.refl false 65536 t)) (by decide) (by decide) (by decide)

/-- A meter counts at the bottom of a register, whatever its number. -/
theorem Calm.meterUnit (h : Calm s t) (m n : Nat) (pre : Colour) : Calm s (t.meterUnit m n pre).1 := by
  unfold State.meterUnit
  generalize t.colour m n pre = cx
  obtain ⟨c, x⟩ := cx
  have hm : Calm s ({ t with tc := { t.tc with meters := sparseInsert m x t.tc.meters } } : State) := h.of_same rfl rfl rfl
  cases c
  · exact hm.bump _ _ _ rfl
  · exact hm.bump _ _ _ rfl
  · exact (hm.bump F.TC_MTR_RED.COUNT m 0 rfl).raiseLimited 0xC3

theorem Calm.egress (h : Calm s t) (lport cls : Nat) (x : TcUnit) : Calm s (t.egress lport cls x) := by
  unfold State.egress
  split
  · exact h.enqueue _ _ _
  · rename_i m _
    have hm := h.meterUnit m x.len .green
    generalize t.meterUnit m x.len .green = sc at hm ⊢
    exact (hm.enqueue _ _ _).ite (Calm.ite ((hm.bump F.TC_MTR_MARKED.COUNT m 0 rfl).enqueue _ _ _) hm)

theorem Calm.ownEgress (h : Calm s t) (lport cls len : Nat) : Calm s (t.ownEgress lport cls len) :=
  Calm.egress (t := { t with tc := { t.tc with ownCtr := t.tc.ownCtr + 1 } }) (h.of_same rfl rfl rfl) _ _ _

theorem Calm.release (h : Calm s t) (o : Out) : Calm s (t.release o) := by
  have hemit : Calm s (t.emit o) := h.of_same rfl rfl rfl
  unfold State.release
  split
  · exact h
  · split
    · exact hemit.ownEgress _ _ _
    · exact hemit.ownEgress _ _ _
    · exact hemit

theorem Calm.perform (h : Calm s t) (side : OutSide) (acks : Bool) (o : Out) : Calm s (t.perform side acks o) :=
  Calm.ite (Calm.ite (h.trans ⟨fun _ _ _ _ => rfl, rfl, rfl⟩) (h.release o)) h

theorem Calm.fold (h : Calm s t) (kind key : Nat) (value : List Byte) : Calm s (t.fold kind key value) := by
  refine h.trans ⟨fun g m n _ => ?_, by rw [fold_dev], fold_stopped ..⟩
  unfold State.get
  rw [fold_regs]

/-! ## The sender of Flume -/

theorem Calm.sendFlume (h : Calm s t) (side : OutSide) (acks : Bool) (cls : Nat) (hd : FlumeHdr) (es : List FlumeExt) (payload : List Byte) :
    Calm s (t.sendFlume side acks cls hd es payload) := by
  unfold State.sendFlume
  split
  · split
    · split
      · extract_lets hd' t'
        have ht' : Calm s t' := h.ite (h.fold _ _ _)
        exact (ht'.perform _ _ _).count _ _ _ _
      · exact h
    · exact h
  · exact h

theorem Calm.transmit (h : Calm s t) (m : Msg) (i attempt path : Nat) (solicit : Bool) : Calm s (t.transmit m i attempt path solicit) := by
  unfold State.transmit
  extract_lets ck h0 hd es old p t1 t2 flm t3
  have hcookie : Calm s t.cookieUsed := h.of_same rfl rfl rfl
  have h1 : Calm s t1 := hcookie.sendFlume _ _ _ _ _ _
  have h2 : Calm s t2 := (h1.count 3 0 2 1).ite h1
  exact h2.of_same rfl rfl rfl

theorem Calm.pauseMsg (h : Calm s t) (m : Msg) : Calm s (t.pauseMsg m) := by
  unfold State.pauseMsg
  extract_lets t1
  have h1 : Calm s t1 := h.of_same rfl rfl rfl
  split
  · refine Calm.ite (Calm.raise ?_ 0x144) h1
    exact h1.of_same rfl rfl rfl
  · exact h1

theorem Calm.activate (h : Calm s t) (m : Msg) : Calm s (t.activate m).1 := by
  unfold State.activate
  split
  · exact h.of_same rfl rfl rfl
  · exact h

theorem Calm.pumpN (n dst : Nat) (h : Calm s t) : Calm s (State.pumpN n dst t) := by
  induction n generalizing t with
  | zero => exact h
  | succ n ih =>
    unfold State.pumpN
    split
    · exact h
    · split
      · rename_i f m _ _
        split
        · exact h
        · split
          · exact ih (h.pauseMsg m)
          · split
            · have hact := h.activate m
              generalize t.activate m = x at hact ⊢
              refine ih (Calm.transmit ?_ _ _ _ _ _)
              exact hact.of_same rfl rfl rfl
            · exact h
      · exact h

theorem Calm.pump (h : Calm s t) (dst : Nat) : Calm s (t.pump dst) := h.pumpN _ dst

theorem Calm.enterFlow (h : Calm s t) (peer : Nat) (ip : IpAddr) (loc : Option (IpAddr × Nat)) : Calm s (t.enterFlow peer ip loc).1 := by
  unfold State.enterFlow
  split
  · exact h.of_same rfl rfl rfl
  · split
    · exact h.of_same rfl rfl rfl
    · split
      · exact h.of_same rfl rfl rfl
      · exact (h.bump F.FLM_CACHE_WAIT.COUNT 0 0 rfl).raise 0x148

theorem Calm.submit (h : Calm s t) (m : Msg) (ip : IpAddr) : Calm s (t.submit m ip) := by
  unfold State.submit
  extract_lets m1 flm t1
  have h1 : Calm s t1 := h.of_same rfl rfl rfl
  have h2 := h1.enterFlow m1.dst ip (t1.firstLocal ip.v6)
  clear_value t1
  dsimp only
  split
  · exact h2.pump _
  · exact h2.of_same rfl rfl rfl

/-! ## Responses -/

theorem Calm.dropReads (h : Calm s t) (key : Nat) : Calm s (t.dropReads key) :=
  h.keeps (keeps_State_dropReads key rfl (Keeps.refl false 74752 t)) (by decide) (by decide) (by decide)

theorem Calm.dropCmd (h : Calm s t) (c : Cmd) : Calm s (t.dropCmd c) := (h.dropReads c.key).of_same rfl rfl rfl

theorem Calm.countStatus (h : Calm s t) (st : NvmeStatus) : Calm s (t.countStatus st) :=
  Calm.ite ((h.bump F.NVS_UNRECOVERED.COUNT 0 0 rfl).raise 0x185) h

end

end Sys2Proof.Machine
end

section
/-!
PROOFS. Messages that stand once they are made, and responses and data on a queue (05_nvme_service.md, 03_flume_delivery.md).
-/
namespace Sys2Proof.Machine

/-! ## Messages by their numbers -/

/-- What the receiver of a message of a command sees of it: opcode, destination, window, offset, AUX, bytes. -/
structure Wire where
  opcode : Nat
  dst : Nat
  window : Nat
  winOffset : Nat
  aux : Nat
  src : MsgSrc

def Msg.wire (m : Msg) : Wire := ⟨m.opcode, m.dst, m.window, m.winOffset, m.aux, m.src⟩

/-- Every message of a number is this one. -/
def OnlyAs (f : Flm) (k : Nat) (w : Wire) : Prop := ∀ m ∈ f.msgs, m.key = k → m.wire = w

/-- The sender holds a message under a number that no other message has or gets. -/
def Bears (f : Flm) (k : Nat) (w : Wire) : Prop := k < f.orderCtr ∧ k ∈ f.msgs.map Msg.key ∧ OnlyAs f k w

section
variable {s t : State} {k : Nat} {w : Wire} {m x : Msg}

theorem Bears.exists_msg {f : Flm} (h : Bears f k w) : ∃ m ∈ f.msgs, m.wire = w := by
  obtain ⟨-, hmem, honly⟩ := h
  obtain ⟨m, hm, hk⟩ := List.mem_map.mp hmem
  exact ⟨m, hm, honly m hm hk⟩

theorem OnlyAs.setMsg (h : OnlyAs s.flm k w) (hx : x ∈ s.flm.msgs) (hkey : m.key = x.key) (hwire : m.wire = x.wire) : OnlyAs (s.setMsg m).flm k w := by
  intro y hy hyk
  obtain ⟨z, hz, rfl⟩ := List.mem_map.mp hy
  by_cases hzm : z.key = m.key
  · rw [if_pos hzm] at hyk ⊢
    rw [hwire]
    exact h x hx (hkey ▸ hyk)
  · rw [if_neg hzm] at hyk ⊢
    exact h z hz hyk

theorem mem_setMsg (hx : x ∈ s.flm.msgs) (hkey : m.key = x.key) : m ∈ (s.setMsg m).flm.msgs :=
  List.mem_map.mpr ⟨x, hx, if_pos hkey.symm⟩

theorem OnlyAs.pauseMsg (h : OnlyAs s.flm k w) (hm : m ∈ s.flm.msgs) : OnlyAs (s.pauseMsg m).flm k w := by
  have hset : OnlyAs (s.setMsg { m with faulted := true }).flm k w := h.setMsg hm rfl rfl
  unfold State.pauseMsg
  extract_lets s1
  split
  · dsimp only
    split
    · rw [raise_flm]
      exact hset
    · exact hset
  · exact hset

/-- The first transmission changes nothing that the receiver sees, and leaves the message in its place. -/
theorem activate_wire (hm : m ∈ s.flm.msgs) : (s.activate m).2 ∈ (s.activate m).1.flm.msgs ∧ (OnlyAs s.flm k w → OnlyAs (s.activate m).1.flm k w) := by
  unfold State.activate
  split
  · exact ⟨mem_setMsg (s := { s with flm := { s.flm with msgCtr := (s.flm.msgCtr + 1) % 2 ^ 48 } }) hm rfl, fun h =>
      OnlyAs.setMsg (s := { s with flm := { s.flm with msgCtr := (s.flm.msgCtr + 1) % 2 ^ 48 } }) h hm rfl rfl⟩
  · exact ⟨hm, id⟩

theorem OnlyAs.transmit (h : OnlyAs s.flm k w) (hm : m ∈ s.flm.msgs) (i attempt path : Nat) (solicit : Bool) : OnlyAs (s.transmit m i attempt path solicit).flm k w := by
  unfold State.transmit
  extract_lets ck h0 hd es old p s1 s2 flm s3
  have h1 : s1.flm.msgs = s.flm.msgs := by
    unfold s1
    rw [sendFlume_flm]
    rfl
  have h2 : s2.flm.msgs = s.flm.msgs := by
    unfold s2
    split
    · rw [count_flm, h1]
    · exact h1
  have h3 : s3.flm.msgs = s.flm.msgs := h2
  exact OnlyAs.setMsg (s := s3) (x := m) (fun y hy => h y (h3 ▸ hy)) (h3 ▸ hm) rfl rfl

theorem OnlyAs.pumpN (n dst : Nat) (h : OnlyAs s.flm k w) : OnlyAs (State.pumpN n dst s).flm k w := by
  induction n generalizing s with
  | zero => exact h
  | succ n ih =>
    unfold State.pumpN
    split
    · exact h
    · split
      · rename_i f m _ hnext
        have hm : m ∈ s.flm.msgs := List.mem_of_find?_eq_some hnext
        split
        · exact h
        · split
          · exact ih (h.pauseMsg hm)
          · split
            · obtain ⟨hmem, honly⟩ := activate_wire (k := k) (w := w) hm
              generalize s.activate m = x at hmem honly ⊢
              exact ih (OnlyAs.transmit (s := x.1.setFlow _) (honly h) hmem _ _ _ _)
            · exact h
      · exact h

theorem Bears.pump (h : Bears s.flm k w) (dst : Nat) : Bears (s.pump dst).flm k w := by
  obtain ⟨hlt, hmem, honly⟩ := h
  have hsame := sameMsgs_pump s dst
  exact ⟨hlt.trans_le hsame.order, hsame.keys ▸ hmem, honly.pumpN _ dst⟩

/-- A new message takes the next number. -/
def State.addMsg (s : State) (m : Msg) : State :=
  { s with flm := { s.flm with orderCtr := s.flm.orderCtr + 1, msgs := s.flm.msgs ++ [m] } }

theorem bears_addMsg_new (hs : FlmFresh s.flm) (hkey : m.key = s.flm.orderCtr) : Bears (s.addMsg m).flm s.flm.orderCtr m.wire := by
  refine ⟨Nat.lt_succ_self _, List.mem_map.mpr ⟨m, by simp [State.addMsg], hkey⟩, fun y hy hyk => ?_⟩
  rcases List.mem_append.mp hy with hy | hy
  · exact absurd hyk (flmFresh_iff.mp hs y hy).ne
  · rw [List.mem_singleton.mp hy]

theorem Bears.addMsg (h : Bears s.flm k w) (hkey : m.key = s.flm.orderCtr) : Bears (s.addMsg m).flm k w := by
  obtain ⟨hlt, hmem, honly⟩ := h
  refine ⟨hlt.trans (Nat.lt_succ_self _), ?_, fun y hy hyk => ?_⟩
  · rw [State.addMsg, List.map_append]
    exact List.mem_append_left _ hmem
  · rcases List.mem_append.mp hy with hy | hy
    · exact honly y hy hyk
    · rw [List.mem_singleton.mp hy] at hyk
      exact absurd (hyk.symm.trans hkey) hlt.ne

/-- The message as `submit` queues it. -/
def State.asQueued (s : State) (m : Msg) : Msg :=
  { m with key := s.flm.orderCtr, st := .queued, pkts := freshPkts (if m.single then 1 else pktCount m.len m.sizeCode) }

/-- What the sender holds with a new message, it holds once the message is submitted. -/
theorem bears_submit (ip : IpAddr) (h : Bears (s.addMsg (s.asQueued m)).flm k w) : Bears (s.submit m ip).flm k w := by
  unfold State.submit
  extract_lets m1 flm s1
  have h1 : Bears (s1.enterFlow m1.dst ip (s1.firstLocal ip.v6)).1.flm k w := by
    rw [enterFlow_flm]
    exact h
  clear_value s1
  dsimp only
  split
  · exact h1.pump _
  · exact h1

end

end Sys2Proof.Machine
end

section
/-!
PROOFS. Responses and data on a queue (05_nvme_service.md): they leave, or stand with the sender, and nothing that follows takes them back.
-/
namespace Sys2Proof.Machine

/-! ## The way to the hosts -/

/-- The device may still answer where it could, and what it has put to the hosts stands. -/
structure Way (s t : State) : Prop where
  calm : Calm s t
  conns : t.nvm.tcp.map TcpConn.id = s.nvm.tcp.map TcpConn.id
  out : ∃ l, t.out = l ++ s.out
  fresh : FlmFresh s.flm → FlmFresh t.flm
  bears : ∀ k w, Bears s.flm k w → Bears t.flm k w

section
variable {s t u : State} {q : NvmQueue}

theorem Way.refl (s : State) : Way s s := ⟨.refl s, rfl, ⟨[], rfl⟩, id, fun _ _ => id⟩

theorem Way.trans (h : Way s t) (h' : Way t u) : Way s u := by
  obtain ⟨l, hl⟩ := h.out
  obtain ⟨l', hl'⟩ := h'.out
  exact ⟨h.calm.trans h'.calm, h'.conns.trans h.conns, ⟨l' ++ l, by rw [hl', hl, List.append_assoc]⟩, fun hs => h'.fresh (h.fresh hs), fun k w hk => h'.bears k w (h.bears k w hk)⟩

/-- What does not touch the part Flume leaves the messages as they are. -/
theorem way_of_flm (hcalm : Calm s t) (hconns : t.nvm.tcp.map TcpConn.id = s.nvm.tcp.map TcpConn.id) (hout : ∃ l, t.out = l ++ s.out) (hflm : t.flm = s.flm) : Way s t :=
  ⟨hcalm, hconns, hout, fun h => hflm ▸ h, fun _ _ h => hflm ▸ h⟩

theorem way_of_keeps {p : Bool} {A : Nat} (hcalm : Calm s t) (hk : Keeps p A s t) (hnvm : A &&& 4096 ≠ 4096) (hflm : A &&& 128 ≠ 128) : Way s t := by
  refine way_of_flm hcalm ?_ hk.out (hk.part .flm hflm)
  rw [show t.nvm = s.nvm from hk.part .nvm hnvm]

theorem Way.ite {c : Prop} [Decidable c] (h : Way s t) (h' : Way s u) : Way s (if c then t else u) := by
  split <;> assumption

theorem way_foldl {α : Type} {f : State → α → State} (l : List α) (hf : ∀ t x, Way t (f t x)) (s : State) : Way s (l.foldl f s) := by
  induction l generalizing s with
  | nil => exact .refl s
  | cons x l ih => exact (hf s x).trans (ih _)

theorem canAnswer_of_way (h : Way s t) (hs : CanAnswer s q) : CanAnswer t q := by
  unfold CanAnswer at hs ⊢
  split
  · rename_i htr
    rw [htr] at hs
    exact flmFresh_iff_keysFresh.mp (h.fresh (flmFresh_iff_keysFresh.mpr hs))
  · rename_i conn htr
    rw [htr] at hs
    obtain ⟨hrole, hstop, hconn⟩ := hs
    refine ⟨h.calm.role.trans hrole, h.calm.stopped.trans hstop, ?_⟩
    have hid : conn ∈ t.nvm.tcp.map TcpConn.id := h.conns ▸ List.mem_map.mpr hconn
    exact List.mem_map.mp hid

end

/-! ## What is put to a host -/

/-- A message on a queue: over Flume it is with the sender, over TCP it has left. -/
def Put (s t : State) (q : NvmQueue) (w : Nat → Nat → Wire) (pdu : TcpOut) : Prop :=
  match q.tr with
  | .flume _ peer reply _ => ∃ k, Bears t.flm k (w peer reply)
  | .tcp conn => ∃ lp cls n, Emitted s t (.tcp lp cls n conn pdu)

/-- The SEND of a completion entry, and the WRITE of a command's data (R163). -/
def respWire (cqe : List Byte) (peer reply : Nat) : Wire := ⟨opSend, peer, 0, 0, reply, .bytes cqe⟩
def dataWire (cap : Capsule) (p : List Byte) (peer _reply : Nat) : Wire := ⟨opWrite, peer, cap.sglKey, cap.sglAddr, 0, .bytes p⟩

/-- A response, as `Answered` has it, that stands. -/
def Replied (s t : State) (q : NvmQueue) (cid : Nat) (st : NvmeStatus) (dw0 : Nat) : Prop :=
  ∃ cqe, leAt cqe 0 4 = dw0 % 2 ^ 32 ∧ leAt cqe 12 2 = cid % 65536 ∧ leAt cqe 14 2 / 2 % 2 ^ 11 = st.sc + 256 * st.sct ∧ Put s t q (respWire cqe) (.capsuleResp cqe)

section
variable {s t u v : State} {q : NvmQueue} {w : Nat → Nat → Wire} {pdu : TcpOut} {cid dw0 : Nat} {st : NvmeStatus} {cap : Capsule} {p : List Byte}

theorem Put.mono (h : Put t u q w pdu) (hs : ∃ l, t.out = l ++ s.out) (hv : Way u v) : Put s v q w pdu := by
  unfold Put at h ⊢
  split
  · rename_i htr
    rw [htr] at h
    obtain ⟨k, hk⟩ := h
    exact ⟨k, hv.bears _ _ hk⟩
  · rename_i htr
    rw [htr] at h
    obtain ⟨lp, cls, n, ho⟩ := h
    exact ⟨lp, cls, n, emitted_mono ho hs hv.out⟩

theorem Replied.mono (h : Replied t u q cid st dw0) (hs : ∃ l, t.out = l ++ s.out) (hv : Way u v) : Replied s v q cid st dw0 := by
  obtain ⟨cqe, hdw0, hcid, hst, hput⟩ := h
  exact ⟨cqe, hdw0, hcid, hst, hput.mono hs hv⟩

/-- The end of a step changes neither messages nor outputs. -/
theorem Replied.answered (h : Replied s t q cid st dw0) (n : Nat) : Answered s (t.closeStep n) q cid st dw0 := by
  obtain ⟨cqe, hdw0, hcid, hst, hput⟩ := h
  refine ⟨cqe, hdw0, hcid, hst, ?_⟩
  unfold Put at hput
  split
  · rename_i htr
    rw [htr] at hput
    obtain ⟨k, hk⟩ := hput
    obtain ⟨m, hm, hw⟩ := hk.exists_msg
    exact ⟨m, hm, congrArg Wire.opcode hw, congrArg Wire.dst hw, congrArg Wire.aux hw, congrArg Wire.src hw⟩
  · rename_i htr
    rw [htr] at hput
    exact hput

theorem Put.dataSent (h : Put s t q (dataWire cap p) (.c2hData cap.cid 0 p true)) (n : Nat) : DataSent s (t.closeStep n) q cap p := by
  unfold Put at h
  unfold DataSent
  split
  · rename_i htr
    rw [htr] at h
    obtain ⟨k, hk⟩ := h
    obtain ⟨m, hm, hw⟩ := hk.exists_msg
    exact ⟨m, hm, congrArg Wire.opcode hw, congrArg Wire.dst hw, congrArg Wire.window hw, congrArg Wire.winOffset hw, congrArg Wire.src hw⟩
  · rename_i htr
    rw [htr] at h
    exact h

end

/-! ## Messages of the service -/

section
variable {s : State}

theorem way_hostMsg (s : State) (peer : Nat) (ip : IpAddr) (op len window winOffset aux : Nat) (src : MsgSrc) (use : MsgUse) (side : OutSide) (tag : Option Nat) :
    Way s (s.hostMsg peer ip op len window winOffset aux src use side tag) := by
  have hk := keeps_State_hostMsg peer ip op len window winOffset aux src use side tag rfl (Keeps.refl false 25232291 s)
  refine ⟨(Calm.refl s).submit _ ip, ?_, hk.out, fresh_hostMsg _ _ _ _ _ _ _ _ _ _ _, fun k w hb => bears_submit ip (hb.addMsg rfl)⟩
  rw [show (s.hostMsg peer ip op len window winOffset aux src use side tag).nvm = s.nvm from hk.part .nvm (by decide)]

theorem bears_hostMsg (hs : FlmFresh s.flm) (peer : Nat) (ip : IpAddr) (op len window winOffset aux : Nat) (src : MsgSrc) (use : MsgUse) (side : OutSide) (tag : Option Nat) :
    Bears (s.hostMsg peer ip op len window winOffset aux src use side tag).flm s.flm.orderCtr ⟨op, peer, window, winOffset, aux, src⟩ :=
  bears_submit ip (bears_addMsg_new hs rfl)

theorem way_perform (s : State) (side : OutSide) (acks : Bool) (o : Out) : Way s (s.perform side acks o) :=
  way_of_keeps ((Calm.refl s).perform side acks o) (keeps_State_perform side acks o rfl (Keeps.refl false 8454691 s)) (by decide) (by decide)

/-- A segment of a connection is formed: it is folded, and the sequence number moves on (R165, R330). -/
def State.formSegment (s : State) (conn : Nat) (c : TcpConn) (bytes : List Byte) : State :=
  let t := s.fold 2 conn (tcpFold c.sndNxt c.rcvNxt 0x18 bytes)
  { t with nvm := { t.nvm with
    tcp := t.nvm.tcp.map (fun (x : TcpConn) => if x.id = conn then { x with sndNxt := (x.sndNxt + bytes.length) % 2 ^ 32 } else x) } }

theorem way_formSegment (s : State) (conn : Nat) (c : TcpConn) (bytes : List Byte) : Way s (s.formSegment conn c bytes) := by
  refine way_of_flm (((Calm.refl s).fold 2 conn (tcpFold c.sndNxt c.rcvNxt 0x18 bytes)).of_same rfl rfl rfl) ?_ ⟨[], fold_out ..⟩ (fold_flm ..)
  simp only [State.formSegment, fold_nvm, List.map_map]
  refine List.map_congr_left (fun x _ => ?_)
  by_cases hx : x.id = conn <;> simp [hx]

theorem tcpSend_eq {conn : Nat} {c : TcpConn} (hfind : s.nvm.tcp.find? (fun c => c.id == conn) = some c) (cls : Nat) (side : OutSide) (pdu : TcpOut) :
    s.tcpSend conn cls side pdu = (s.formSegment conn c (pdu.bytes c.hdgst c.ddgst)).perform side true (c.out cls pdu) := by
  unfold State.tcpSend
  simp only [hfind]
  rfl

theorem way_tcpSend (s : State) (conn cls : Nat) (side : OutSide) (pdu : TcpOut) : Way s (s.tcpSend conn cls side pdu) := by
  cases hfind : s.nvm.tcp.find? (fun c => c.id == conn) with
  | none =>
    have hnone : s.tcpSend conn cls side pdu = s := by
      unfold State.tcpSend
      simp only [hfind]
    rw [hnone]
    exact .refl s
  | some c =>
    rw [tcpSend_eq hfind]
    exact (way_formSegment ..).trans (way_perform ..)

/-- A controller that serves alone performs what either half forms as it performs what it numbers (R319). -/
theorem perform_half_eq (hrole : s.role = roleAlone) (b acks : Bool) (o : Out) : s.perform (.half b) acks o = s.perform .numbering acks o := by
  have hhalf : s.issues (.half b) = true := by simp [State.issues, State.servesHalf, hrole]
  have hnumbering : s.issues .numbering = true := by simp [State.issues, State.numbers, hrole]
  unfold State.perform
  rw [if_pos hhalf, if_pos hnumbering]

theorem tcpSend_emits {conn : Nat} (hrole : s.role = roleAlone) (hstop : s.wsw.stopped = false) (hconn : ∃ c ∈ s.nvm.tcp, c.id = conn) (cls : Nat) (b : Bool) (pdu : TcpOut) :
    ∃ lp n, Emitted s (s.tcpSend conn cls (.half b) pdu) (.tcp lp cls n conn pdu) := by
  obtain ⟨c, hfind⟩ : ∃ c, s.nvm.tcp.find? (fun c => c.id == conn) = some c := by
    obtain ⟨c, hc, hid⟩ := hconn
    exact Option.isSome_iff_exists.mp (List.find?_isSome.mpr ⟨c, hc, by simp [hid]⟩)
  have hid : c.id = conn := by simpa using List.find?_some hfind
  have hseg : c.out cls pdu = .tcp c.lport cls (frameLen c.ip.v6 20 (pdu.bytes c.hdgst c.ddgst).length) conn pdu := by rw [TcpConn.out, hid]
  have hway := way_formSegment s conn c (pdu.bytes c.hdgst c.ddgst)
  have hemit := perform_alone (hway.calm.role.trans hrole) (hway.calm.stopped.trans hstop) true (c.out cls pdu)
  rw [hseg] at hemit
  rw [tcpSend_eq hfind, hseg, perform_half_eq (hway.calm.role.trans hrole)]
  exact ⟨_, _, emitted_mono hemit hway.out ⟨[], rfl⟩⟩

/-! ## Completion entries (R160) -/

theorem sliceOf_append_right (a b : List Byte) (off size : Nat) (h : a.length ≤ off) : sliceOf (a ++ b) off size = sliceOf b (off - a.length) size := by
  rw [sliceOf, sliceOf, List.drop_append, List.drop_eq_nil_of_le h, List.nil_append]

theorem leAt_append_right (a b : List Byte) (off size : Nat) (h : a.length ≤ off) : leAt (a ++ b) off size = leAt b (off - a.length) size := by
  rw [leAt, leAt, sliceOf_append_right _ _ _ _ h]

theorem leAt_leBytes_append (size n : Nat) (b : List Byte) : leAt (leBytes size n ++ b) 0 size = n % 256 ^ size := by
  rw [leAt, sliceOf, List.drop_zero, List.take_left' (length_leBytes size n), leNat_leBytes]

theorem leAt_leBytes (size n : Nat) : leAt (leBytes size n) 0 size = n % 256 ^ size := by
  simpa using leAt_leBytes_append size n []

theorem leAt_cqeBytes (dw0 dw1 sqHead qid cid : Nat) (st : NvmeStatus) (more dnr : Bool) (hst : st.sc < 256 ∧ st.sct < 8) :
    leAt (cqeBytes dw0 dw1 sqHead qid cid st more dnr) 0 4 = dw0 % 2 ^ 32 ∧ leAt (cqeBytes dw0 dw1 sqHead qid cid st more dnr) 12 2 = cid % 65536 ∧
      leAt (cqeBytes dw0 dw1 sqHead qid cid st more dnr) 14 2 / 2 % 2 ^ 11 = st.sc + 256 * st.sct := by
  obtain ⟨hsc, hsct⟩ := hst
  unfold cqeBytes
  simp only [List.append_assoc]
  refine ⟨leAt_leBytes_append 4 dw0 _, ?_, ?_⟩
  · simp only [leAt_append_right, length_leBytes, leAt_leBytes_append, Nat.reduceLeDiff, Nat.reduceSub, Nat.reducePow]
  · simp only [leAt_append_right, length_leBytes, leAt_leBytes, Nat.reduceLeDiff, Nat.reduceSub, Nat.reducePow]
    cases more <;> cases dnr <;> simp only [if_true, if_false, Bool.false_eq_true] <;> omega

end

end Sys2Proof.Machine
end

section
/-!
PROOFS. The end of a command, and data for the host (05_nvme_service.md, R160, R163, R188, R200).
-/
namespace Sys2Proof.Machine

section
variable {s t u : State} {q : NvmQueue} {c : Cmd} {st : NvmeStatus} {dw0 : Nat}

/-! ## Responses -/

theorem way_setCtrl (s : State) (x : NvmCtrl) : Way s (s.setCtrl x) := way_of_flm ((Calm.refl s).of_same rfl rfl rfl) rfl ⟨[], rfl⟩ rfl

theorem way_drawn (s : State) : Way s s.drawn := way_of_flm ((Calm.refl s).of_same rfl rfl rfl) rfl ⟨[], rfl⟩ rfl

theorem logError_of_ok (hok : st.ok = true) (s : State) (q : NvmQueue) (cid nsid : Nat) : s.logError q cid nsid st = s := by
  unfold State.logError
  split
  · rfl
  · rw [if_pos hok]

theorem way_logError (s : State) (q : NvmQueue) (cid nsid : Nat) (st : NvmeStatus) : Way s (s.logError q cid nsid st) := by
  unfold State.logError
  split
  · exact .refl s
  · exact (Way.refl s).ite (way_setCtrl ..)

/-- Before a response leaves, its DNR is drawn where it is open, and an error is logged (R188, R189). -/
def State.preResponse (s : State) (q : NvmQueue) (cid : Nat) (st : NvmeStatus) (key : Nat) : State :=
  let t := if st.dnr.isNone then s.drawn else s
  t.logError q cid (((t.cmd? key).map (fun c => c.cap.nsid)).getD 0) st

theorem way_preResponse (s : State) (q : NvmQueue) (cid : Nat) (st : NvmeStatus) (key : Nat) : Way s (s.preResponse q cid st key) :=
  ((way_drawn s).ite (.refl s)).trans (way_logError ..)

theorem respondOn_flume {wq peer reply : Nat} {ip : IpAddr} (htr : q.tr = .flume wq peer reply ip) (s : State) (cid : Nat) (st : NvmeStatus) (dw0 dw1 : Nat) (side : OutSide) (key : Nat) :
    ∃ dnr, s.respondOn q cid st dw0 dw1 side key =
      (s.preResponse q cid st key).hostMsg peer ip opSend 16 0 0 reply (.bytes (cqeBytes dw0 dw1 q.sqHead q.qid cid st (!st.ok) dnr)) (.cmdResp key) side none := by
  unfold State.respondOn
  simp only [htr]
  exact ⟨_, rfl⟩

theorem respondOn_tcp {conn : Nat} (htr : q.tr = .tcp conn) (s : State) (cid : Nat) (st : NvmeStatus) (dw0 dw1 : Nat) (side : OutSide) (key : Nat) :
    ∃ dnr, s.respondOn q cid st dw0 dw1 side key =
      (s.preResponse q cid st key).tcpSend conn ((s.preResponse q cid st key).cmdClass key) side (.capsuleResp (cqeBytes dw0 dw1 q.sqHead q.qid cid st (!st.ok) dnr)) := by
  unfold State.respondOn
  simp only [htr]
  exact ⟨_, rfl⟩

theorem way_respondOn (s : State) (q : NvmQueue) (cid : Nat) (st : NvmeStatus) (dw0 dw1 : Nat) (side : OutSide) (key : Nat) :
    Way s (s.respondOn q cid st dw0 dw1 side key) := by
  have hpre := way_preResponse s q cid st key
  cases htr : q.tr with
  | flume wq peer reply ip =>
    obtain ⟨dnr, h⟩ := respondOn_flume htr s cid st dw0 dw1 side key
    exact h ▸ hpre.trans (way_hostMsg ..)
  | tcp conn =>
    obtain ⟨dnr, h⟩ := respondOn_tcp htr s cid st dw0 dw1 side key
    exact h ▸ hpre.trans (way_tcpSend ..)

/-- A response on a queue on which the device can answer. -/
theorem respondOn_replied (hs : CanAnswer s q) (cid : Nat) (st : NvmeStatus) (hst : st.sc < 256 ∧ st.sct < 8) (dw0 dw1 : Nat) (b : Bool) (key : Nat) :
    Replied s (s.respondOn q cid st dw0 dw1 (.half b) key) q cid st dw0 := by
  have hpre := way_preResponse s q cid st key
  have hcan := canAnswer_of_way hpre hs
  cases htr : q.tr with
  | flume wq peer reply ip =>
    obtain ⟨dnr, h⟩ := respondOn_flume htr s cid st dw0 dw1 (.half b) key
    obtain ⟨h1, h2, h3⟩ := leAt_cqeBytes dw0 dw1 q.sqHead q.qid cid st (!st.ok) dnr hst
    refine ⟨_, h1, h2, h3, ?_⟩
    unfold CanAnswer at hcan
    rw [htr] at hcan
    unfold Put
    rw [htr, h]
    exact ⟨_, bears_hostMsg (flmFresh_iff_keysFresh.mpr hcan) ..⟩
  | tcp conn =>
    obtain ⟨dnr, h⟩ := respondOn_tcp htr s cid st dw0 dw1 (.half b) key
    obtain ⟨h1, h2, h3⟩ := leAt_cqeBytes dw0 dw1 q.sqHead q.qid cid st (!st.ok) dnr hst
    refine ⟨_, h1, h2, h3, ?_⟩
    unfold CanAnswer at hcan
    rw [htr] at hcan
    obtain ⟨hrole, hstop, hconn⟩ := hcan
    unfold Put
    rw [htr, h]
    obtain ⟨lp, n, hemit⟩ := tcpSend_emits hrole hstop hconn ((s.preResponse q cid st key).cmdClass key) b (.capsuleResp (cqeBytes dw0 dw1 q.sqHead q.qid cid st (!st.ok) dnr))
    exact ⟨lp, _, n, emitted_mono hemit hpre.out ⟨[], rfl⟩⟩

/-! ## What becomes of the NVMe part -/

/-- Of the NVMe part, controllers and connections alone may differ. -/
def HostsOnly (s t : State) : Prop := ∃ ctrls conns, t.nvm = { s.nvm with ctrls := ctrls, tcp := conns }

theorem HostsOnly.refl (s : State) : HostsOnly s s := ⟨s.nvm.ctrls, s.nvm.tcp, rfl⟩

theorem HostsOnly.trans (h : HostsOnly s t) (h' : HostsOnly t u) : HostsOnly s u := by
  obtain ⟨_, _, h⟩ := h
  obtain ⟨ctrls, conns, h'⟩ := h'
  exact ⟨ctrls, conns, by rw [h', h]⟩

theorem hostsOnly_foldl {α : Type} {f : State → α → State} (l : List α) (hf : ∀ t x, HostsOnly t (f t x)) (s : State) : HostsOnly s (l.foldl f s) := by
  induction l generalizing s with
  | nil => exact .refl s
  | cons x l ih => exact (hf s x).trans (ih _)

theorem hostsOnly_setCtrl (s : State) (x : NvmCtrl) : HostsOnly s (s.setCtrl x) := ⟨_, s.nvm.tcp, rfl⟩

theorem hostMsg_nvm (s : State) (peer : Nat) (ip : IpAddr) (op len window winOffset aux : Nat) (src : MsgSrc) (use : MsgUse) (side : OutSide) (tag : Option Nat) :
    (s.hostMsg peer ip op len window winOffset aux src use side tag).nvm = s.nvm :=
  (keeps_State_hostMsg peer ip op len window winOffset aux src use side tag rfl (Keeps.refl false 25232291 s)).part .nvm (by decide)

/-- A TCP segment changes the connections alone. -/
theorem tcpSend_nvm (s : State) (conn cls : Nat) (side : OutSide) (pdu : TcpOut) : ∃ conns, (s.tcpSend conn cls side pdu).nvm = { s.nvm with tcp := conns } := by
  cases hfind : s.nvm.tcp.find? (fun c => c.id == conn) with
  | none =>
    refine ⟨s.nvm.tcp, ?_⟩
    unfold State.tcpSend
    simp only [hfind]
  | some c =>
    rw [tcpSend_eq hfind]
    have hkeep := (keeps_State_perform side true (c.out cls pdu) rfl (Keeps.refl false 8454691 (s.formSegment conn c (pdu.bytes c.hdgst c.ddgst)))).part .nvm (by decide)
    refine ⟨(s.formSegment conn c (pdu.bytes c.hdgst c.ddgst)).nvm.tcp, hkeep.trans ?_⟩
    simp only [State.formSegment, fold_nvm]

theorem logError_nvm (s : State) (q : NvmQueue) (cid nsid : Nat) (st : NvmeStatus) : ∃ ctrls, (s.logError q cid nsid st).nvm = { s.nvm with ctrls := ctrls } := by
  unfold State.logError
  split
  · exact ⟨s.nvm.ctrls, rfl⟩
  · split
    · exact ⟨s.nvm.ctrls, rfl⟩
    · exact ⟨_, rfl⟩

theorem preResponse_nvm (s : State) (q : NvmQueue) (cid : Nat) (st : NvmeStatus) (key : Nat) :
    ∃ ctrls, (s.preResponse q cid st key).nvm = { s.nvm with ctrls := ctrls } ∧ (st.ok = true → ctrls = s.nvm.ctrls) := by
  unfold State.preResponse
  extract_lets t1
  have ht1 : t1.nvm = s.nvm := by
    unfold t1
    split <;> rfl
  by_cases hok : st.ok = true
  · refine ⟨s.nvm.ctrls, ?_, fun _ => rfl⟩
    rw [logError_of_ok hok, ht1]
  · obtain ⟨ctrls, h⟩ := logError_nvm t1 q cid (((t1.cmd? key).map (fun c => c.cap.nsid)).getD 0) st
    exact ⟨ctrls, by rw [h, ht1], fun h => absurd h hok⟩

/-- A response changes controllers, by the log of an error, and connections. -/
theorem respondOn_nvm (s : State) (q : NvmQueue) (cid : Nat) (st : NvmeStatus) (dw0 dw1 : Nat) (side : OutSide) (key : Nat) :
    ∃ ctrls conns, (s.respondOn q cid st dw0 dw1 side key).nvm = { s.nvm with ctrls := ctrls, tcp := conns } ∧ (st.ok = true → ctrls = s.nvm.ctrls) := by
  obtain ⟨ctrls, hpre, hok⟩ := preResponse_nvm s q cid st key
  cases htr : q.tr with
  | flume wq peer reply ip =>
    obtain ⟨dnr, h⟩ := respondOn_flume htr s cid st dw0 dw1 side key
    exact ⟨ctrls, s.nvm.tcp, by rw [h, hostMsg_nvm, hpre], hok⟩
  | tcp conn =>
    obtain ⟨dnr, h⟩ := respondOn_tcp htr s cid st dw0 dw1 side key
    obtain ⟨conns, hsend⟩ := tcpSend_nvm (s.preResponse q cid st key) conn ((s.preResponse q cid st key).cmdClass key) side
      (.capsuleResp (cqeBytes dw0 dw1 q.sqHead q.qid cid st (!st.ok) dnr))
    exact ⟨ctrls, conns, by rw [h, hsend, hpre], hok⟩

theorem hostsOnly_respondOn (s : State) (q : NvmQueue) (cid : Nat) (st : NvmeStatus) (dw0 dw1 : Nat) (side : OutSide) (key : Nat) :
    HostsOnly s (s.respondOn q cid st dw0 dw1 side key) := by
  obtain ⟨ctrls, conns, h, -⟩ := respondOn_nvm s q cid st dw0 dw1 side key
  exact ⟨ctrls, conns, h⟩

/-! ## The end of a command -/

theorem dropReads_nvm (s : State) (key : Nat) : (s.dropReads key).nvm = s.nvm := (keeps_State_dropReads key rfl (Keeps.refl false 74752 s)).part .nvm (by decide)

theorem dropCmd_nvm (s : State) (c : Cmd) : (s.dropCmd c).nvm = { s.nvm with cmds := s.nvm.cmds.filter (fun x => x.key != c.key) } := by
  rw [← dropReads_nvm s c.key]
  rfl

theorem way_dropCmd (s : State) (c : Cmd) : Way s (s.dropCmd c) := by
  refine way_of_flm ((Calm.refl s).dropCmd c) ?_ (keeps_State_dropCmd c rfl (Keeps.refl false 78848 s)).out (dropCmd_flm ..)
  rw [dropCmd_nvm]

theorem way_countStatus (s : State) (st : NvmeStatus) : Way s (s.countStatus st) :=
  way_of_keeps ((Calm.refl s).countStatus st) (keeps_State_countStatus st rfl (Keeps.refl false 8388643 s)) (by decide) (by decide)

theorem countStatus_nvm (s : State) (st : NvmeStatus) : (s.countStatus st).nvm = s.nvm :=
  (keeps_State_countStatus st rfl (Keeps.refl false 8388643 s)).part .nvm (by decide)

/-- A command of a queue that exists ends with a response on it, and leaves. -/
theorem endCmd_eq (hq : s.nq? c.queue = some q) (st : NvmeStatus) (dw0 : Nat) :
    s.endCmd c st dw0 = (((s.countStatus st).respondOn q c.cap.cid st dw0 0 ((s.countStatus st).cmdSide c.sub c.cap.nsid) c.key).dropCmd c) := by
  have hq' : (s.countStatus st).nq? c.queue = some q := by rwa [State.nq?, countStatus_nvm]
  unfold State.endCmd
  simp only [hq']

theorem way_endCmd (s : State) (c : Cmd) (st : NvmeStatus) (dw0 : Nat) : Way s (s.endCmd c st dw0) := by
  unfold State.endCmd
  extract_lets s1 s2
  have h1 : Way s s1 := way_countStatus s st
  have h2 : Way s1 s2 := by
    unfold s2
    split
    · exact way_respondOn ..
    · exact .refl s1
  exact (h1.trans h2).trans (way_dropCmd s2 c)

theorem endCmd_replied (hq : s.nq? c.queue = some q) (hs : CanAnswer s q) (hst : st.sc < 256 ∧ st.sct < 8) (dw0 : Nat) : Replied s (s.endCmd c st dw0) q c.cap.cid st dw0 := by
  rw [endCmd_eq hq]
  have hcount := way_countStatus s st
  exact (respondOn_replied (canAnswer_of_way hcount hs) c.cap.cid st hst dw0 0 _ c.key).mono hcount.out (way_dropCmd ..)

theorem endCmd_nvm (hq : s.nq? c.queue = some q) (st : NvmeStatus) (dw0 : Nat) :
    ∃ ctrls conns, (s.endCmd c st dw0).nvm = { s.nvm with ctrls := ctrls, tcp := conns, cmds := s.nvm.cmds.filter (fun x => x.key != c.key) } ∧ (st.ok = true → ctrls = s.nvm.ctrls) := by
  obtain ⟨ctrls, conns, h, hok⟩ := respondOn_nvm (s.countStatus st) q c.cap.cid st dw0 0 ((s.countStatus st).cmdSide c.sub c.cap.nsid) c.key
  refine ⟨ctrls, conns, ?_, fun h => countStatus_nvm s st ▸ hok h⟩
  rw [endCmd_eq hq, dropCmd_nvm, h, countStatus_nvm]

/-- A command that ends well leaves the controllers as they are. -/
theorem endCmd_ctrl? (hq : s.nq? c.queue = some q) (hok : st.ok = true) (dw0 id : Nat) : (s.endCmd c st dw0).ctrl? id = s.ctrl? id := by
  obtain ⟨ctrls, conns, h, hctrls⟩ := endCmd_nvm hq st dw0
  rw [State.ctrl?, h, hctrls hok]
  rfl

theorem endCmd_nq? (hq : s.nq? c.queue = some q) (st : NvmeStatus) (dw0 key : Nat) : (s.endCmd c st dw0).nq? key = s.nq? key := by
  obtain ⟨ctrls, conns, h, -⟩ := endCmd_nvm hq st dw0
  rw [State.nq?, h]
  rfl

theorem endCmd_resv (hq : s.nq? c.queue = some q) (st : NvmeStatus) (dw0 sub nsid : Nat) : (s.endCmd c st dw0).resv sub nsid = s.resv sub nsid := by
  obtain ⟨ctrls, conns, h, -⟩ := endCmd_nvm hq st dw0
  rw [State.resv, h]
  rfl

theorem endCmd_cmds (hq : s.nq? c.queue = some q) (st : NvmeStatus) (dw0 : Nat) : (s.endCmd c st dw0).nvm.cmds = s.nvm.cmds.filter (fun x => x.key != c.key) := by
  obtain ⟨ctrls, conns, h, -⟩ := endCmd_nvm hq st dw0
  rw [h]

/-! ## Data for the host (R163) -/

theorem sendData_put (hq : s.nq? c.queue = some q) (hs : CanAnswer s q) (p : List Byte) : Put s (s.sendData c p) q (dataWire c.cap p) (.c2hData c.cap.cid 0 p true) := by
  unfold State.sendData
  simp only [hq]
  unfold CanAnswer at hs
  unfold Put
  cases htr : q.tr with
  | flume wq peer reply ip =>
    rw [htr] at hs
    exact ⟨_, bears_hostMsg (s := s.setCmd { c with st := .sending }) (flmFresh_iff_keysFresh.mpr hs) ..⟩
  | tcp conn =>
    rw [htr] at hs
    obtain ⟨hrole, hstop, hconn⟩ := hs
    obtain ⟨lp, n, hemit⟩ := tcpSend_emits hrole hstop hconn (s.cmdClass c.key) _ (.c2hData c.cap.cid 0 p true)
    exact ⟨lp, _, n, emitted_mono hemit ⟨[], rfl⟩ (way_endCmd ..).out⟩

theorem sglGate_eq_none_iff {len : Nat} {toDevice : Bool} :
    s.sglGate q c len toDevice = none ↔ sglFits q c.cap toDevice = true ∧ len ≤ 2097152 ∧ c.cap.sglLen = len := by
  unfold State.sglGate
  by_cases h1 : sglFits q c.cap toDevice = true
  · by_cases h2 : 2097152 < len
    · simp [h1, h2]
    · by_cases h3 : c.cap.sglLen = len
      · simp [h1, h3, Nat.le_of_not_lt h2]
      · simp [h1, h2, h3]
  · simp [h1]

theorem answerData_eq {p : List Byte} (hfits : s.sglGate q c p.length false = none) : s.answerData q c p = s.sendData c p := by
  unfold State.answerData
  rw [hfits]

end

end Sys2Proof.Machine
end

section
/-!
PROOFS. What a row finds when its capsule is taken and handed over (05_nvme_service.md, R160, R198, R200).
-/
namespace Sys2Proof.Machine

section
variable {s t u v : State} {q q0 : NvmQueue} {c : Cmd}

/-! ## Handover (R200) -/

/-- The way of operations that leave the NVMe part alone. -/
def Aside (s t : State) : Prop := Calm s t ∧ t.nvm = s.nvm

theorem Aside.trans (h : Aside s t) (h' : Aside t u) : Aside s u := ⟨h.1.trans h'.1, h'.2.trans h.2⟩

theorem aside_dropReads (s : State) (key : Nat) : Aside s (s.dropReads key) := ⟨(Calm.refl s).dropReads key, dropReads_nvm s key⟩

theorem aside_count (s : State) (unit inst event weight : Nat) : Aside s (s.count unit inst event weight) := ⟨(Calm.refl s).count .., count_nvm ..⟩

theorem aside_push (s : State) (cluster k : Nat) (e : Word) : Aside s (s.push cluster k e).1 := by
  have hk := (keeps_State_push cluster k e rfl (Keeps.refl false 32 s)).fst
  exact ⟨(Calm.refl s).keeps hk (by decide) (by decide) (by decide), hk.part .nvm (by decide)⟩

theorem aside_raise_if (s : State) (p : Prop) [Decidable p] (e : Nat) : Aside s (if p then s.raise e else s) := by
  split
  · exact ⟨(Calm.refl s).raise e, raise_nvm ..⟩
  · exact ⟨.refl s, rfl⟩

theorem aside_bump (s : State) (f : Fld) (hlo : f.lo = 0) : Aside s (s.bump f) := ⟨(Calm.refl s).bump f 0 0 hlo, rfl⟩

/-- The handover of a command marks it. -/
theorem handOver_nvm (hc : c.engines = false) : Calm s (s.handOver c) ∧
    (s.handOver c).nvm = { s.nvm with cmds := s.nvm.cmds.map (fun x => if x.key = c.key then { c with engines := true } else x) } := by
  unfold State.handOver
  rw [if_neg (by simp [hc])]
  extract_lets s1 k empty
  have h1 : Aside s s1 := (aside_dropReads s c.key).trans (aside_count ..)
  have h2 : Aside s (s1.drawn.push k 0 s1.free).1 := (h1.trans (u := s1.drawn) ⟨(Calm.refl s1).of_same rfl rfl rfl, rfl⟩).trans (aside_push ..)
  generalize s1.drawn.push k 0 s1.free = x at h2 ⊢
  obtain ⟨s2, full⟩ := x
  dsimp only at h2 ⊢
  generalize hs3 : (if full = true then s2.bump F.CHT_HANDOVER.COUNT else _) = s3
  have h3 : Aside s s3 := by
    rw [← hs3]
    split
    · exact h2.trans (aside_bump s2 F.CHT_HANDOVER.COUNT rfl)
    · exact ((h2.trans (aside_bump s2 F.CHT_HANDOVER.COUNT rfl)).trans (aside_raise_if _ _ 0x1A0)).trans (aside_raise_if _ _ 0x1A1)
  refine ⟨h3.1.of_same rfl rfl rfl, ?_⟩
  rw [State.setCmd, h3.2]

theorem way_handOver (s : State) (hc : c.engines = false) : Way s (s.handOver c) := by
  obtain ⟨hcalm, hnvm⟩ := handOver_nvm (s := s) hc
  refine way_of_flm hcalm ?_ (keeps_State_handOver c rfl (Keeps.refl false 25244707 s)).out (handOver_flm ..)
  rw [hnvm]

/-! ## The capsule is taken (R160, R198) -/

theorem way_atStep (s : State) : Way s (atStep s) := way_of_flm ⟨fun _ _ _ _ => rfl, rfl, rfl⟩ rfl ⟨[], rfl⟩ rfl

theorem way_count (s : State) (unit inst event : Nat) : Way s (s.count unit inst event) :=
  way_of_keeps ((Calm.refl s).count ..) (keeps_State_count unit inst event 1 rfl (Keeps.refl false 8388643 s)) (by decide) (by decide)

theorem way_hostCommand (s : State) : Way s s.hostCommand :=
  way_of_keeps (Calm.refl s).hostCommand (keeps_State_hostCommand rfl (Keeps.refl false 8391715 s)) (by decide) (by decide)

theorem way_setNq (s : State) (q : NvmQueue) : Way s (s.setNq q) := way_of_flm ((Calm.refl s).of_same rfl rfl rfl) rfl ⟨[], rfl⟩ rfl

/-- A receive buffer posted again changes the work queues of Flume alone. -/
theorem way_repost (s : State) (q : NvmQueue) : Way s (s.repost q) := by
  refine ⟨?_, ?_, ?_, fresh_repost q, ?_⟩ <;> unfold State.repost <;> split
  · exact .refl s
  · exact (Calm.refl s).of_same rfl rfl rfl
  · rfl
  · rfl
  · exact ⟨[], rfl⟩
  · exact ⟨[], rfl⟩
  · exact fun _ _ => id
  · exact fun _ _ => id

theorem repost_nvm (s : State) (q : NvmQueue) : (s.repost q).nvm = s.nvm := (keeps_State_repost q rfl (Keeps.refl false 128 s)).part .nvm (by decide)

theorem hostCommand_nvm (s : State) : s.hostCommand.nvm = s.nvm := (keeps_State_hostCommand rfl (Keeps.refl false 8391715 s)).part .nvm (by decide)

/-- A queue whose head has moved on. -/
def NvmQueue.headOn (q : NvmQueue) : NvmQueue := { q with sqHead := (q.sqHead + 1) % (q.sqSize + 1) }

theorem takeSlot_eq (s : State) (q : NvmQueue) : s.takeSlot q = ((s.hostCommand.setNq q.headOn).repost q.headOn, q.headOn) := rfl

theorem way_takeSlot (s : State) (q : NvmQueue) : Way s (s.takeSlot q).1 := by
  rw [takeSlot_eq]
  exact ((way_hostCommand s).trans (way_setNq ..)).trans (way_repost ..)

theorem takeSlot_nvm (s : State) (q : NvmQueue) : (s.takeSlot q).1.nvm = { s.nvm with queues := s.nvm.queues.map (fun x => if x.key = q.key then q.headOn else x) } := by
  rw [takeSlot_eq, repost_nvm, State.setNq, hostCommand_nvm]
  rfl

theorem way_newCmd (s : State) (q : NvmQueue) (sub : Nat) (cap : Capsule) : Way s (s.newCmd q sub cap).1 := way_of_flm ((Calm.refl s).of_same rfl rfl rfl) rfl ⟨[], rfl⟩ rfl

/-! ## What a row finds -/

/-- The command that a row carries out in `v`, once it is handed over, with its queue and its controller; `s` is the state before the step. -/
structure Finds (s v : State) (cap : Capsule) (q : NvmQueue) (x : NvmCtrl) (c : Cmd) : Prop where
  cap : c.cap = cap
  sub : c.sub = x.sub
  ctrlId : c.ctrl = x.id
  cmdKey : c.key = s.nvm.cmdCtr + 1
  way : Way s v
  pat : v.pat = s.pat
  fw : v.fw = s.fw
  resv : v.nvm.resv = s.nvm.resv
  queue : v.nq? c.queue = some q
  ctrl : v.ctrl? x.id = some x

variable {key : Nat} {cap : Capsule} {k : RowKind} {x : NvmCtrl}

/-- A capsule that is taken is carried out by its row. -/
theorem onCapsule_of_taken (h : Taken s key cap k u q x c) (f : State → NvmQueue → Cmd → State) : (atStep s).onCapsule key cap k f = f u q c := by
  obtain ⟨q0, hq0, hconsumes, hbusy, hx, hkind, hroom, hauth, hq, huc⟩ := h
  have hq0' : (atStep s).nq? key = some q0 := hq0
  have hgo : (!(atStep s).consumes || (atStep s).pwr.hostBusy) = false := by
    rw [show (atStep s).consumes = true from hconsumes, show (atStep s).pwr.hostBusy = false from hbusy]
    rfl
  have hx' : (atStep s).ctrl? q0.ctrl = some x := hx
  have hroom' : ¬ chuteLimit ≤ (atStep s).chuteCmds := Nat.not_le_of_lt hroom
  have hauth' : (!q.authed && cap.opcode != fabricsOp) = false := by
    rw [hq]
    rcases hauth with h | h
    · simp [takeSlot_eq, NvmQueue.headOn, h]
    · simp [h]
  unfold State.onCapsule
  simp only [hq0', hgo, hx', hkind, hroom', Bool.false_eq_true, if_false, ne_eq, not_true_eq_false]
  simp only [← hq, ← huc, hauth', Bool.false_eq_true, if_false]

theorem inStep_onCapsule_of_taken (h : Taken s key cap k u q x c) (f : State → NvmQueue → Cmd → State) :
    s.inStep (fun s => s.onCapsule key cap k (byEngines f)) = (f (u.handOver c) q { c with engines := true }).closeStep s.dev.curStep := by
  rw [inStep_eq, onCapsule_of_taken h]
  rfl

theorem taken_nvm (h : Taken s key cap k u q x c) :
    u.nvm = { s.nvm with queues := s.nvm.queues.map (fun y => if y.key = q.key then q else y), cmdCtr := s.nvm.cmdCtr + 1, cmds := s.nvm.cmds ++ [c] } := by
  obtain ⟨q0, -, -, -, -, -, -, -, rfl, huc⟩ := h
  obtain ⟨rfl, rfl⟩ := Prod.mk.inj huc
  have htake := takeSlot_nvm ((atStep s).count 4 0 0) q0
  rw [count_nvm] at htake
  simp only [htake]
  rfl

/-- After the handover, controllers, queues and reservations are as they were, but for the head of the queue. -/
theorem handOver_taken_nvm (h : Taken s key cap k u q x c) : (u.handOver c).nvm =
    { u.nvm with cmds := (s.nvm.cmds.map (fun y => if y.key = c.key then { c with engines := true } else y)) ++ [{ c with engines := true }] } := by
  have hc : c.engines = false := by
    obtain ⟨q0, -, -, -, -, -, -, -, -, huc⟩ := h
    rw [(Prod.mk.inj huc).2]
  rw [(handOver_nvm hc).2, taken_nvm h]
  simp

theorem finds_of_taken (h : Taken s key cap k u q x c) : Finds s (u.handOver c) cap q x { c with engines := true } := by
  have hnvm := handOver_taken_nvm h
  rw [taken_nvm h] at hnvm
  obtain ⟨q0, hq0, -, -, hx, -, -, -, hq, huc⟩ := h
  obtain ⟨rfl, rfl⟩ := Prod.mk.inj huc
  have hqeq : q = q0.headOn := hq
  have hkey : q0.key = key := by simpa using List.find?_some hq0
  have hid : x.id = q0.ctrl := by
    have h := List.find?_some hx
    exact (beq_iff_eq.mp h)
  have hqk : q.key = key := by rw [hqeq]; exact hkey
  have hctr : (((atStep s).count 4 0 0).takeSlot q0).1.nvm.cmdCtr = s.nvm.cmdCtr := by
    rw [takeSlot_nvm, count_nvm]
    rfl
  have htaken := ((Keeps.refl false 25246883 (atStep s)).trans (keeps_State_count 4 0 0 1 rfl (Keeps.refl _ _ _))).trans
    ((keeps_State_takeSlot q0 rfl (Keeps.refl _ _ _)).fst.trans (keeps_State_newCmd q x.sub cap rfl (Keeps.refl _ _ _)).fst)
  have hkeep := htaken.trans (keeps_State_handOver ((((atStep s).count 4 0 0).takeSlot q0).1.newCmd q x.sub cap).2 rfl (Keeps.refl _ _ _))
  have hway := (((way_atStep s).trans (way_count (atStep s) 4 0 0)).trans (way_takeSlot _ q0)).trans (way_newCmd _ q x.sub cap)
  refine ⟨rfl, rfl, ?_, congrArg (· + 1) hctr, hway.trans (way_handOver _ rfl), hkeep.part .pat (by decide), hkeep.part .fw (by decide), ?_, ?_, ?_⟩
  · rw [hid, hqeq]
    rfl
  · rw [hnvm]
  · change List.find? (fun y : NvmQueue => y.key == q.key) _ = _
    rw [hnvm]
    exact find?_map_replace NvmQueue.key q s.nvm.queues ⟨q0, List.mem_of_find?_eq_some hq0, hkey.trans hqk.symm⟩
  · rw [State.ctrl?, hnvm, hid]
    exact hx

end

end Sys2Proof.Machine
end

section
/-!
PROOFS. Asynchronous events and the reservation commands (05_nvme_service.md, R166, R182, R197, R198).
-/
namespace Sys2Proof.Machine

section
variable {s t u v : State} {q : NvmQueue} {x : NvmCtrl} {c : Cmd} {r : Resv}

/-! ## A response at the end of a row -/

/-- A command that ends at the end of a row's way is answered. -/
theorem answered_endCmd (hv : Way s v) (hq : v.nq? c.queue = some q) (hs : CanAnswer s q) {st : NvmeStatus} (hst : st.sc < 256 ∧ st.sct < 8) (dw0 n : Nat) :
    Answered s ((v.endCmd c st dw0).closeStep n) q c.cap.cid st dw0 :=
  ((endCmd_replied hq (canAnswer_of_way hv hs) hst dw0).mono hv.out (.refl _)).answered n

/-- Data that end a row's way are sent. -/
theorem dataSent_sendData (hv : Way s v) (hq : v.nq? c.queue = some q) (hs : CanAnswer s q) (p : List Byte) (n : Nat) :
    DataSent s ((v.sendData c p).closeStep n) q c.cap p :=
  ((sendData_put hq (canAnswer_of_way hv hs) p).mono hv.out (.refl _)).dataSent n

/-! ## Asynchronous events and notices -/

theorem HostsOnly.nq? (h : HostsOnly s t) (key : Nat) : t.nq? key = s.nq? key := by
  obtain ⟨_, _, h⟩ := h
  rw [State.nq?, h]
  rfl

theorem HostsOnly.resv (h : HostsOnly s t) (sub nsid : Nat) : t.resv sub nsid = s.resv sub nsid := by
  obtain ⟨_, _, h⟩ := h
  rw [State.resv, h]
  rfl

/-- The way of operations that of the NVMe part change the hosts' side alone. -/
def Notice (s t : State) : Prop := Way s t ∧ HostsOnly s t

theorem Notice.refl (s : State) : Notice s s := ⟨.refl s, .refl s⟩

theorem Notice.trans (h : Notice s t) (h' : Notice t u) : Notice s u := ⟨h.1.trans h'.1, h.2.trans h'.2⟩

theorem notice_foldl {α : Type} {f : State → α → State} (l : List α) (hf : ∀ t x, Notice t (f t x)) (s : State) : Notice s (l.foldl f s) :=
  ⟨way_foldl l (fun t x => (hf t x).1) s, hostsOnly_foldl l (fun t x => (hf t x).2) s⟩

theorem notice_setCtrl (s : State) (x : NvmCtrl) : Notice s (s.setCtrl x) := ⟨way_setCtrl s x, hostsOnly_setCtrl s x⟩

theorem notice_asyncEvent (s : State) (ctrl type info log : Nat) : Notice s (s.asyncEvent ctrl type info log) := by
  unfold State.asyncEvent
  split
  · exact .refl s
  · split
    · exact (notice_setCtrl s _).trans ⟨way_respondOn .., hostsOnly_respondOn ..⟩
    · split
      · exact .refl s
      · exact notice_setCtrl s _

theorem notice_resvNotice (s : State) (sub nsid host type : Nat) : Notice s (s.resvNotice sub nsid host type) := by
  refine notice_foldl _ (fun t id => ?_) s
  split
  · exact .refl t
  · exact (notice_setCtrl t _).trans (notice_asyncEvent ..)

theorem notice_resvNotices (s : State) (r : Resv) (but type : Nat) : Notice s (s.resvNotices r but type) :=
  notice_foldl _ (fun t _ => notice_resvNotice t ..) s

/-! ## The reservation of a namespace -/

theorem way_raise (s : State) (e : Nat) : Way s (s.raise e) :=
  way_of_keeps ((Calm.refl s).raise e) (keeps_State_raise e rfl (Keeps.refl false 8388643 s)) (by decide) (by decide)

theorem setResv_nvm (s : State) (r : Resv) : ∃ l, (s.setResv r).nvm = { s.nvm with resv := l } := by
  unfold State.setResv
  split
  · exact ⟨s.nvm.resv, rfl⟩
  · exact ⟨_, raise_nvm ..⟩

theorem way_setResv (s : State) (r : Resv) : Way s (s.setResv r) := by
  unfold State.setResv
  split
  · exact .refl s
  · refine Way.trans ?_ (way_raise _ 0x189)
    exact way_of_flm ((Calm.refl s).of_same rfl rfl rfl) rfl ⟨[], rfl⟩ rfl

theorem setResv_nq? (s : State) (r : Resv) (key : Nat) : (s.setResv r).nq? key = s.nq? key := by
  obtain ⟨l, h⟩ := setResv_nvm s r
  rw [State.nq?, h]
  rfl

theorem setResv_resv (s : State) (r : Resv) : (s.setResv r).resv r.sub r.nsid = r := by
  unfold State.setResv
  split
  · next h => exact h.symm
  · rw [State.resv, raise_nvm, List.find?_append]
    have hnone : (s.nvm.resv.filter (fun y : Resv => !(y.sub == r.sub && y.nsid == r.nsid))).find? (fun y => y.sub == r.sub && y.nsid == r.nsid) = none := by
      rw [List.find?_eq_none]
      intro y hy
      rw [Bool.not_eq_true, ← Bool.not_eq_true']
      exact (List.mem_filter.mp hy).2
    rw [hnone]
    simp

/-- The reservation of a namespace names that namespace. -/
theorem resv_names (s : State) (sub nsid : Nat) : (s.resv sub nsid).sub = sub ∧ (s.resv sub nsid).nsid = nsid := by
  unfold State.resv
  cases h : s.nvm.resv.find? (fun r => r.sub == sub && r.nsid == nsid) with
  | none => exact ⟨rfl, rfl⟩
  | some r => simpa using List.find?_some h

/-- A reservation with a registrant more. -/
def Resv.joined (r : Resv) (host key : Nat) (ptpl : Bool) : Resv :=
  { r with registrants := r.registrants ++ [(host, key)], gen := (r.gen + 1) % 2 ^ 32, ptpl := ptpl }

theorem joined_key? {host : Nat} (hnone : r.key? host = none) (key : Nat) (ptpl : Bool) : (r.joined host key ptpl).key? host = some key := by
  have h : r.registrants.find? (fun x => x.1 == host) = none := Option.map_eq_none_iff.mp hnone
  simp [Resv.key?, Resv.joined, List.find?_append, h]

theorem joined_held (hheld : r.held = true) (host key : Nat) (ptpl : Bool) : (r.joined host key ptpl).held = true := by
  have hall : (r.joined host key ptpl).allRegs = r.allRegs := rfl
  unfold Resv.held at hheld ⊢
  rw [hall]
  split
  · simp [Resv.joined]
  · next h => rwa [if_neg h] at hheld

theorem register_new {host : Nat} (hnone : r.key? host = none) (hroom : r.registrants.length < 64) (ignore : Bool) (cur key ptpl : Nat) :
    ∃ b, r.register host 0 ignore cur key ptpl = .ok (r.joined host key b) := by
  unfold Resv.register
  simp only [hnone, if_true, if_neg (Nat.not_le_of_lt hroom)]
  split
  · exact ⟨true, rfl⟩
  · split
    · exact ⟨false, rfl⟩
    · exact ⟨r.ptpl, rfl⟩

/-! ## The three commands with data -/

section
variable {data : List Byte}

theorem reserve_register (hx : s.ctrl? c.ctrl = some x) (hr : s.resv c.sub c.cap.nsid = r) (hop : c.cap.opcode = 0x0D) (haction : c.cap.cdw10 % 8 = 0)
    (hnone : r.key? x.hostId = none) (hroom : r.registrants.length < 64) :
    ∃ b, s.reserve c data = (s.setResv (r.joined x.hostId (leAt data 8 8) b)).endCmd c stOk := by
  obtain ⟨b, hb⟩ := register_new hnone hroom (bitOf c.cap.cdw10 3) (leAt data 0 8) (leAt data 8 8) (c.cap.cdw10 / 2 ^ 30 % 4)
  have hquiet : ¬ (r.held = true ∧ ¬ (r.joined x.hostId (leAt data 8 8) b).held = true ∧ 3 ≤ r.rtype) := fun ⟨hheld, hnot, _⟩ => hnot (joined_held hheld ..)
  refine ⟨b, ?_⟩
  unfold State.reserve
  simp only [hx, hr, hop, haction, hb, if_true, if_neg hquiet]

/-- A reservation that a host acquires. -/
def Resv.acquired (r : Resv) (host rtype : Nat) : Resv := { r with rtype := rtype, holder := if rtype = 5 ∨ rtype = 6 then none else some host }

theorem acquired_isHolder {host rtype : Nat} (hreg : (r.key? host).isSome = true) : (r.acquired host rtype).isHolder host = true := by
  have hkey : (r.acquired host rtype).key? host = r.key? host := rfl
  unfold Resv.isHolder
  rw [hkey]
  split
  · exact hreg
  · next h =>
    have hrtype : ¬ (rtype = 5 ∨ rtype = 6) := by simpa [Resv.acquired, Resv.allRegs] using h
    simp [Resv.acquired, hrtype]

theorem ignoreKey_of_mod {n : Nat} (h : n % 16 = 0) : bitOf n 3 = false ∧ n % 8 = 0 := by
  have hbit : n / 2 ^ 3 % 2 = 0 := by omega
  exact ⟨by rw [bitOf, hbit]; rfl, by omega⟩

theorem reserve_acquire (hx : s.ctrl? c.ctrl = some x) (hr : s.resv c.sub c.cap.nsid = r) (hop : c.cap.opcode = 0x11) (haction : c.cap.cdw10 % 16 = 0)
    (hkey : r.key? x.hostId = some (leAt data 0 8)) (hheld : r.held = false) (hlo : 1 ≤ c.cap.cdw10 / 256 % 256) (hhi : c.cap.cdw10 / 256 % 256 ≤ 6) :
    s.reserve c data = (s.setResv (r.acquired x.hostId (c.cap.cdw10 / 256 % 256))).endCmd c stOk := by
  obtain ⟨hignore, haction⟩ := ignoreKey_of_mod haction
  have htype : ¬ (c.cap.cdw10 / 256 % 256 = 0 ∨ 6 < c.cap.cdw10 / 256 % 256) := by omega
  unfold State.reserve
  simp [hx, hr, hop, haction, hignore, hkey, hheld, htype, Resv.acquired]

theorem reserve_release (hx : s.ctrl? c.ctrl = some x) (hr : s.resv c.sub c.cap.nsid = r) (hop : c.cap.opcode = 0x15) (haction : c.cap.cdw10 % 16 = 0)
    (hkey : r.key? x.hostId = some (leAt data 0 8)) (hheld : r.held = true) (hholder : r.isHolder x.hostId = true) (htype : r.rtype = c.cap.cdw10 / 256 % 256) :
    ∃ t, Notice (s.setResv r.released) t ∧ s.reserve c data = t.endCmd c stOk := by
  obtain ⟨hignore, haction⟩ := ignoreKey_of_mod haction
  refine ⟨if 3 ≤ r.rtype then (s.setResv r.released).resvNotices r x.hostId 2 else s.setResv r.released, ?_, ?_⟩
  · split
    · exact notice_resvNotices ..
    · exact .refl _
  · unfold State.reserve
    simp [hx, hr, hop, haction, hignore, hkey, hheld, hholder, htype]

end

/-! ## The rows -/

variable {key op : Nat} {cap : Capsule}

/-- A capsule that is taken as an I/O command came on an I/O queue with that opcode. -/
theorem taken_io (h : Taken s key cap (.io op) u q x c) : q.qid ≠ 0 ∧ cap.opcode = op := by
  obtain ⟨q0, -, -, -, -, hkind, -, -, rfl, -⟩ := h
  change q0.qid ≠ 0 ∧ cap.opcode = op
  unfold kindOf at hkind
  split at hkind
  · split at hkind <;> simp at hkind
  · split at hkind
    · split at hkind <;> simp at hkind
    · next hqid =>
      split at hkind
      · exact ⟨hqid, by simpa using hkind⟩
      · simp at hkind

/-- The descriptor of a capsule suits or not whatever the state. -/
theorem sglGate_of_none {c' : Cmd} {len : Nat} {toDevice : Bool} (h : u.sglGate q c len toDevice = none) (hcap : c'.cap = c.cap) : v.sglGate q c' len toDevice = none := by
  rw [sglGate_eq_none_iff, hcap]
  exact sglGate_eq_none_iff.mp h

theorem resvGate_of_finds (hf : Finds s v cap q x c) (hns : (s.ns? x.sub cap.nsid).isSome = true) (hhost : x.hostId ≠ 0) : v.resvGate c = none := by
  obtain ⟨n, hn⟩ := Option.isSome_iff_exists.mp hns
  have hns' : v.ns? c.sub c.cap.nsid = some n := by
    rw [hf.sub, hf.cap, ← hn, State.ns?, State.nsList, State.record, hf.pat]
    rfl
  unfold State.resvGate
  simp [hns', hf.ctrlId, hf.ctrl, hhost]

theorem resvData_of_finds (hf : Finds s v cap q x c) (hns : (s.ns? x.sub cap.nsid).isSome = true) (hhost : x.hostId ≠ 0) (hin : cap.inCapsule = true)
    (hqid : q.qid ≠ 0) (hop : cap.opcode = 0x0D ∨ cap.opcode = 0x11 ∨ cap.opcode = 0x15) {len : Nat} (hlen : v.sglGate q c len true = none) :
    State.resvData len v q c = v.reserve { c with data := [] } (sliceOf cap.data cap.sglAddr cap.sglLen) := by
  have hqid' : (v.nq? c.queue).any (fun q => q.qid == 0) = false := by simp [hf.queue, hqid]
  unfold State.resvData State.fetchData State.dataHere
  rcases hop with hop | hop | hop <;>
    simp [resvGate_of_finds hf hns hhost, hlen, hf.cap, hin, hop, hqid']

theorem Finds.resv_eq (hf : Finds s v cap q x c) : v.resv c.sub c.cap.nsid = s.resv x.sub cap.nsid := by
  rw [hf.sub, hf.cap, State.resv, State.resv, hf.resv]

/-- A reservation command that sets the reservation and ends with success: it is answered, and the reservation stands. -/
theorem reserved (hf : Finds s v cap q x c) (hs : CanAnswer s q) {r : Resv} (hsub : r.sub = x.sub) (hnsid : r.nsid = cap.nsid) {t : State}
    (ht : Notice (v.setResv r) t) (data : List Byte) (n : Nat) :
    Answered s ((t.endCmd { c with data := data } stOk).closeStep n) q cap.cid stOk 0 ∧ ((t.endCmd { c with data := data } stOk).closeStep n).resv x.sub cap.nsid = r := by
  have hq : t.nq? c.queue = some q := by rw [ht.2.nq?, setResv_nq?, hf.queue]
  have hway : Way s t := (hf.way.trans (way_setResv v r)).trans ht.1
  constructor
  · rw [← hf.cap]
    exact answered_endCmd (c := { c with data := data }) hway hq hs (by decide) 0 n
  · change (t.endCmd { c with data := data } stOk).resv x.sub cap.nsid = r
    rw [endCmd_resv (c := { c with data := data }) hq, ht.2.resv, ← hsub, ← hnsid, setResv_resv]

variable {data : List Byte}

theorem Finds.ctrl_data (hf : Finds s v cap q x c) : v.ctrl? ({ c with data := [] } : Cmd).ctrl = some x := by
  rw [show ({ c with data := [] } : Cmd).ctrl = x.id from hf.ctrlId, hf.ctrl]

theorem register_of_finds (hf : Finds s v cap q x c) (hs : CanAnswer s q) (hop : cap.opcode = 0x0D) (haction : cap.cdw10 % 8 = 0)
    (hnone : (s.resv x.sub cap.nsid).key? x.hostId = none) (hroom : (s.resv x.sub cap.nsid).registrants.length < 64) (n : Nat) :
    ∃ b, Answered s ((v.reserve { c with data := [] } data).closeStep n) q cap.cid stOk 0 ∧
      ((v.reserve { c with data := [] } data).closeStep n).resv x.sub cap.nsid = (s.resv x.sub cap.nsid).joined x.hostId (leAt data 8 8) b := by
  obtain ⟨hsub, hnsid⟩ := resv_names s x.sub cap.nsid
  have hcap := hf.cap
  subst hcap
  obtain ⟨b, hb⟩ := reserve_register (data := data) hf.ctrl_data hf.resv_eq hop haction hnone hroom
  rw [hb]
  exact ⟨b, reserved hf hs (r := (s.resv x.sub c.cap.nsid).joined x.hostId (leAt data 8 8) b) hsub hnsid (.refl _) [] n⟩

theorem acquire_of_finds (hf : Finds s v cap q x c) (hs : CanAnswer s q) (hop : cap.opcode = 0x11) (haction : cap.cdw10 % 16 = 0)
    (hkey : (s.resv x.sub cap.nsid).key? x.hostId = some (leAt data 0 8)) (hheld : (s.resv x.sub cap.nsid).held = false)
    (hlo : 1 ≤ cap.cdw10 / 256 % 256) (hhi : cap.cdw10 / 256 % 256 ≤ 6) (n : Nat) :
    Answered s ((v.reserve { c with data := [] } data).closeStep n) q cap.cid stOk 0 ∧
      ((v.reserve { c with data := [] } data).closeStep n).resv x.sub cap.nsid = (s.resv x.sub cap.nsid).acquired x.hostId (cap.cdw10 / 256 % 256) := by
  obtain ⟨hsub, hnsid⟩ := resv_names s x.sub cap.nsid
  have hcap := hf.cap
  subst hcap
  rw [reserve_acquire (data := data) hf.ctrl_data hf.resv_eq hop haction hkey hheld hlo hhi]
  exact reserved hf hs (r := (s.resv x.sub c.cap.nsid).acquired x.hostId (c.cap.cdw10 / 256 % 256)) hsub hnsid (.refl _) [] n

theorem release_of_finds (hf : Finds s v cap q x c) (hs : CanAnswer s q) (hop : cap.opcode = 0x15) (haction : cap.cdw10 % 16 = 0)
    (hkey : (s.resv x.sub cap.nsid).key? x.hostId = some (leAt data 0 8)) (hheld : (s.resv x.sub cap.nsid).held = true)
    (hholder : (s.resv x.sub cap.nsid).isHolder x.hostId = true) (htype : (s.resv x.sub cap.nsid).rtype = cap.cdw10 / 256 % 256) (n : Nat) :
    Answered s ((v.reserve { c with data := [] } data).closeStep n) q cap.cid stOk 0 ∧
      ((v.reserve { c with data := [] } data).closeStep n).resv x.sub cap.nsid = (s.resv x.sub cap.nsid).released := by
  obtain ⟨hsub, hnsid⟩ := resv_names s x.sub cap.nsid
  have hcap := hf.cap
  subst hcap
  obtain ⟨t, ht, hrelease⟩ := reserve_release (data := data) hf.ctrl_data hf.resv_eq hop haction hkey hheld hholder htype
  rw [hrelease]
  exact reserved hf hs (r := (s.resv x.sub c.cap.nsid).released) hsub hnsid ht [] n

/-- The row of a reservation command whose data lie in the capsule. -/
theorem reserve_row (h : Taken s key cap (.io op) u q x c) (hns : (s.ns? x.sub cap.nsid).isSome = true) (hhost : x.hostId ≠ 0) (hin : cap.inCapsule = true)
    (hop : op = 0x0D ∨ op = 0x11 ∨ op = 0x15) {len : Nat} (hlen : u.sglGate q c len true = none) :
    s.inStep (fun s => s.onCapsule key cap (.io op) (byEngines (State.resvData len))) =
      ((u.handOver c).reserve { c with engines := true, data := [] } (sliceOf cap.data cap.sglAddr cap.sglLen)).closeStep s.dev.curStep := by
  obtain ⟨hqid, hopcode⟩ := taken_io h
  rw [inStep_onCapsule_of_taken h, resvData_of_finds (finds_of_taken h) hns hhost hin hqid (by rwa [hopcode]) (sglGate_of_none hlen rfl)]

theorem length_padTo (n : Nat) (bs : List Byte) : (padTo n bs).length = n := by
  simp only [padTo, zeroBytes, List.length_append, List.length_take, List.length_replicate]
  omega

/-- A report in the length that suits the descriptor is sent as it stands. -/
theorem report_of_finds (hf : Finds s v cap q x c) (hns : (s.ns? x.sub cap.nsid).isSome = true) (hhost : x.hostId ≠ 0) (hext : bitOf cap.cdw11 0 = true)
    (hlen : v.sglGate q c (4 * (cap.cdw10 + 1)) false = none) :
    v.resvReport q c = v.sendData c (padTo (4 * (cap.cdw10 + 1)) (s.resv x.sub cap.nsid).report) := by
  have hgate := resvGate_of_finds hf hns hhost
  have hresv := hf.resv_eq
  have hcap := hf.cap
  subst hcap
  unfold State.resvReport
  simp only [hgate, hext, hresv, not_true_eq_false, if_false]
  exact answerData_eq (by rwa [length_padTo])

theorem released_held (r : Resv) : r.released.held = false := rfl

end

/-- Settles O25: with the data in the capsule the row ends with the new reservation set and the command answered; a report's data are sent as they stand. -/
theorem nvmeReservations : Obligations.NvmeReservations := by
  unfold Obligations.NvmeReservations
  refine ⟨fun key cap s u q x c hs hns hhost hin => ⟨?register, ?acquire, ?release⟩, ?report⟩
  case register =>
    intro h hlen haction hnone hroom
    obtain ⟨b, hanswer, hresv⟩ := register_of_finds (finds_of_taken h) hs (taken_io h).2 haction hnone hroom s.dev.curStep
    refine ⟨_, congrArg Host.Outcome.next (reserve_row h hns hhost hin (by decide) hlen), hanswer, ?_, ?_⟩
    · rw [hresv, joined_key? hnone]
    · rw [hresv]
      rfl
  case acquire =>
    intro h hlen haction hkey hheld hlo hhi
    obtain ⟨hanswer, hresv⟩ := acquire_of_finds (finds_of_taken h) hs (taken_io h).2 haction hkey hheld hlo hhi s.dev.curStep
    refine ⟨_, congrArg Host.Outcome.next (reserve_row h hns hhost hin (by decide) hlen), hanswer, ?_, ?_⟩
    · rw [hresv]
      rfl
    · rw [hresv, acquired_isHolder (by rw [hkey]; rfl)]
  case release =>
    intro h hlen haction hkey hheld hholder htype
    obtain ⟨hanswer, hresv⟩ := release_of_finds (finds_of_taken h) hs (taken_io h).2 haction hkey hheld hholder htype s.dev.curStep
    refine ⟨_, congrArg Host.Outcome.next (reserve_row h hns hhost hin (by decide) hlen), hanswer, ?_, ?_⟩
    · rw [hresv, released_held]
    · rw [hresv]
      rfl
  case report =>
    intro key cap s u q x c h hs hns hhost hext hlen
    have hf := finds_of_taken h
    refine ⟨_, congrArg Host.Outcome.next (inStep_onCapsule_of_taken h State.resvReport), ?_⟩
    rw [report_of_finds hf hns hhost hext (sglGate_of_none hlen rfl), ← hf.cap]
    exact dataSent_sendData hf.way hf.queue hs _ _

end Sys2Proof.Machine
end

section
/-!
PROOFS. Abort, features, asynchronous event requests and Keep Alive (05_nvme_service.md, R158, R166, R185, R187).
-/
namespace Sys2Proof.Machine

section
variable {s t u v : State} {q qq : NvmQueue} {x : NvmCtrl} {c y : Cmd} {key : Nat} {cap : Capsule} {k : RowKind}

/-! ## A controller that is written -/

theorem setCtrl_ctrl?_same {x0 : NvmCtrl} (hx : s.ctrl? x.id = some x0) : (s.setCtrl x).ctrl? x.id = some x := by
  have hid : x0.id = x.id := by simpa using List.find?_some hx
  exact find?_map_replace NvmCtrl.id x s.nvm.ctrls ⟨x0, List.mem_of_find?_eq_some hx, hid⟩

/-- A row that writes its controller and ends with success: it is answered, and the controller stands. -/
theorem answered_setCtrl (hf : Finds s v cap q x c) (hs : CanAnswer s q) {x' : NvmCtrl} (hid : x'.id = x.id) (n : Nat) :
    Answered s (((v.setCtrl x').endCmd c stOk).closeStep n) q cap.cid stOk 0 ∧ (((v.setCtrl x').endCmd c stOk).closeStep n).ctrl? x.id = some x' := by
  have hq : (v.setCtrl x').nq? c.queue = some q := hf.queue
  constructor
  · rw [← hf.cap]
    exact answered_endCmd (hf.way.trans (way_setCtrl v x')) hq hs (by decide) 0 n
  · change ((v.setCtrl x').endCmd c stOk).ctrl? x.id = some x'
    rw [endCmd_ctrl? hq (by decide), ← hid]
    exact setCtrl_ctrl?_same (hid ▸ hf.ctrl)

theorem Finds.ctrl_own (hf : Finds s v cap q x c) : v.ctrl? c.ctrl = some x := hf.ctrlId ▸ hf.ctrl

/-! ## Features and the timer (R166, R185) -/

theorem keepAlive_of_finds (hf : Finds s v cap q x c) : v.keepAlive q c = (v.setCtrl { x with aliveUs := s.nowUs }).endCmd c stOk := by
  unfold State.keepAlive
  rw [hf.ctrl_own, State.nowUs, hf.way.calm.stepUs]
  rfl

theorem setFeatures_of_finds (hf : Finds s v cap q x c) (hfid : cap.cdw10 % 256 ∈ plainFeatures) :
    v.setFeatures q c = (v.setCtrl { x with features := sparsePut 0 (cap.cdw10 % 256) (cap.cdw11 % 2 ^ 32) x.features }).endCmd c stOk := by
  have hplain : plainFeatures.contains (cap.cdw10 % 256) = true := List.contains_iff_mem.mpr hfid
  unfold State.setFeatures
  simp only [hf.ctrl_own, hplain, if_true, hf.cap]

theorem getFeatures_of_finds (hf : Finds s v cap q x c) (hfid : cap.cdw10 % 256 ∈ plainFeatures) :
    v.getFeatures q c = v.endCmd c stOk (x.feature (cap.cdw10 % 256)) := by
  have hplain : plainFeatures.contains (cap.cdw10 % 256) = true := List.contains_iff_mem.mpr hfid
  unfold State.getFeatures
  simp only [hf.ctrl_own, hplain, if_true, hf.cap]

/-- A request is held while no event waits. -/
theorem asyncRequest_of_finds (hf : Finds s v cap q x c) (hroom : x.aer.length < 4) (hnone : x.events = []) :
    v.asyncRequest q c = (v.dropCmd c).setCtrl { x with aer := x.aer ++ [cap.cid] } := by
  unfold State.asyncRequest
  simp only [hf.ctrl_own, if_neg (Nat.not_le_of_lt hroom), hnone, hf.cap]

/-! ## Abort (R187) -/

/-- The queue and the command that an Abort names. -/
def State.abortQueue (s : State) (c : Cmd) : Option NvmQueue := s.nvm.queues.find? (fun q => q.ctrl == c.ctrl && q.qid == c.cap.cdw10 % 65536)
def State.abortHit (s : State) (c : Cmd) : Option Cmd :=
  s.nvm.cmds.find? (fun x => (s.abortQueue c).any (fun q => q.key == x.queue) && x.cap.cid == c.cap.cdw10 / 65536
    && x.key != c.key && !x.issued && x.st ≠ .committed && x.st ≠ .sending && x.st ≠ .mapping)

theorem abort_hit (hhit : s.abortHit c = some y) : s.abort q c = (s.endCmd y stAbortReq).endCmd c stOk 0 := by
  unfold State.abort
  extract_lets sq hit
  rw [show hit = some y from hhit]

theorem abort_held (hhit : s.abortHit c = none) (hx : s.ctrl? c.ctrl = some x) (hqid : c.cap.cdw10 % 65536 = 0) (hmem : c.cap.cdw10 / 65536 ∈ x.aer) :
    s.abort q c = (s.abortHeld q x (c.cap.cdw10 / 65536)).endCmd c stOk 0 := by
  unfold State.abort
  extract_lets sq hit
  rw [show hit = none from hhit, hx]
  exact if_pos ⟨hqid, List.contains_iff_mem.mpr hmem⟩

theorem abort_miss (hhit : s.abortHit c = none) (hx : s.ctrl? c.ctrl = some x) (hmem : c.cap.cdw10 / 65536 ∉ x.aer) : s.abort q c = s.endCmd c stOk 1 := by
  unfold State.abort
  extract_lets sq hit
  rw [show hit = none from hhit, hx]
  exact if_neg (fun h => hmem (List.contains_iff_mem.mp h.2))

/-- An Abort is no command that it ends. -/
theorem abortHit_alone (hcmds : s.nvm.cmds = [y]) (hkey : y.key = c.key) : s.abortHit c = none := by
  simp [State.abortHit, hcmds, hkey]

theorem abortHit_first {l : List Cmd} (hcmds : s.nvm.cmds = y :: l) (hqueue : s.abortQueue c = some qq) (hkey : qq.key = y.queue) (hcid : y.cap.cid = c.cap.cdw10 / 65536)
    (hne : y.key ≠ c.key) (hst : y.st = .reading) (hissued : y.issued = false) : s.abortHit c = some y := by
  simp [State.abortHit, hcmds, hqueue, hkey, hcid, hne, hst, hissued]

/-- The named command ends with Command Abort Requested, then the Abort with success. -/
theorem abort_first_of_finds (hf : Finds s v cap q x c) (hs : CanAnswer s q) (hcmds : v.nvm.cmds = [y, c]) (hqueue : v.abortQueue c = some qq) (hkey : qq.key = y.queue)
    (hqq : v.nq? y.queue = some qq) (hsq : CanAnswer s qq) (hcid : y.cap.cid = cap.cdw10 / 65536) (hne : y.key ≠ c.key) (hst : y.st = .reading) (hissued : y.issued = false) (n : Nat) :
    ((v.abort q c).closeStep n).nvm.cmds = [] ∧ Answered s ((v.abort q c).closeStep n) qq y.cap.cid stAbortReq 0 ∧ Answered s ((v.abort q c).closeStep n) q cap.cid stOk 0 := by
  have hcap := hf.cap
  subst hcap
  rw [abort_hit (abortHit_first hcmds hqueue hkey hcid hne hst hissued)]
  have hq : (v.endCmd y stAbortReq).nq? c.queue = some q := by rw [endCmd_nq? hqq, hf.queue]
  have hway : Way s (v.endCmd y stAbortReq) := hf.way.trans (way_endCmd ..)
  have hfirst : Replied s ((v.endCmd y stAbortReq).endCmd c stOk) qq y.cap.cid stAbortReq 0 :=
    (endCmd_replied hqq (canAnswer_of_way hf.way hsq) (by decide) 0).mono hf.way.out (way_endCmd ..)
  refine ⟨?_, hfirst.answered n, answered_endCmd hway hq hs (by decide) 0 n⟩
  change ((v.endCmd y stAbortReq).endCmd c stOk).nvm.cmds = []
  rw [endCmd_cmds hq, endCmd_cmds hqq, hcmds]
  simp [hne.symm]

theorem abort_held_of_finds (hf : Finds s v cap q x c) (hs : CanAnswer s q) (hcmds : v.nvm.cmds = [c]) (hqid : cap.cdw10 % 65536 = 0) (hmem : cap.cdw10 / 65536 ∈ x.aer) (n : Nat) :
    Answered s ((v.abort q c).closeStep n) q (cap.cdw10 / 65536) stAbortReq 0 ∧ Answered s ((v.abort q c).closeStep n) q cap.cid stOk 0 := by
  have hcap := hf.cap
  subst hcap
  rw [abort_held (abortHit_alone hcmds rfl) hf.ctrl_own hqid hmem]
  have hctrl : Way s (v.setCtrl { x with aer := x.aer.erase (c.cap.cdw10 / 65536) }) := hf.way.trans (way_setCtrl ..)
  have hway : Way s (v.abortHeld q x (c.cap.cdw10 / 65536)) := hctrl.trans (way_respondOn ..)
  have hq : (v.abortHeld q x (c.cap.cdw10 / 65536)).nq? c.queue = some q := by
    rw [State.abortHeld, (hostsOnly_respondOn ..).nq?, (hostsOnly_setCtrl ..).nq?, hf.queue]
  have hfirst := ((respondOn_replied (canAnswer_of_way hctrl hs) (c.cap.cdw10 / 65536) stAbortReq (by decide) 0 0 _ 0).mono hctrl.out
    (way_endCmd (v.abortHeld q x (c.cap.cdw10 / 65536)) c stOk 0)).answered n
  exact ⟨hfirst, answered_endCmd hway hq hs (by decide) 0 n⟩

/-- The commands that a row finds: those before it, and its own. -/
theorem taken_cmds (h : Taken s key cap k u q x c) (hlt : ∀ y ∈ s.nvm.cmds, y.key ≤ s.nvm.cmdCtr) : (u.handOver c).nvm.cmds = s.nvm.cmds ++ [{ c with engines := true }] := by
  have hkey : c.key = s.nvm.cmdCtr + 1 := (finds_of_taken h).cmdKey
  rw [handOver_taken_nvm h]
  refine congrArg (· ++ _) ((List.map_congr_left (fun y hy => if_neg ?_)).trans (List.map_id _))
  have := hlt y hy
  omega

theorem taken_queues (h : Taken s key cap k u q x c) : (u.handOver c).nvm.queues = u.nvm.queues := by rw [handOver_taken_nvm h]

end

end Sys2Proof.Machine
end

section
/-!
PROOFS. The pages of Identify and Get Log Page (05_nvme_service.md, R170, R189, R191): fields that lie one after the other stand at their places.
-/
namespace Sys2Proof.Machine

section
variable {s v : State} {q : NvmQueue} {x : NvmCtrl} {c : Cmd} {cap : Capsule}

/-! ## Fields of a page -/

/-- Fields that lie one after the other, from a place on, in a page of `n` bytes. -/
def Laid : Nat → List (Nat × List Byte) → Nat → Prop
  | start, [], n => start ≤ n
  | start, f :: fs, n => start ≤ f.1 ∧ Laid (f.1 + f.2.length) fs n

theorem Laid.le {start n : Nat} {fs : List (Nat × List Byte)} (h : Laid start fs n) : start ≤ n := by
  induction fs generalizing start with
  | nil => exact h
  | cons f fs ih => exact (h.1.trans (Nat.le_add_right ..)).trans (ih h.2)

theorem length_overlayBytes {p b : List Byte} {o : Nat} (h : o + b.length ≤ p.length) : (overlayBytes p o b).length = p.length := by
  simp only [overlayBytes, List.length_append, List.length_take, List.length_drop]
  omega

theorem sliceOf_overlayBytes_before {p b : List Byte} {o i size : Nat} (h : i + size ≤ o) (ho : o ≤ p.length) : sliceOf (overlayBytes p o b) i size = sliceOf p i size := by
  have htake : (p.take o).length = o := by simp [ho]
  rw [sliceOf, sliceOf, overlayBytes, List.append_assoc, List.drop_append_of_le_length (by omega), List.take_append_of_le_length (by rw [List.length_drop]; omega),
    List.drop_take, List.take_take, min_eq_left (by omega)]

theorem sliceOf_overlayBytes_same {p b : List Byte} {o : Nat} (ho : o ≤ p.length) : sliceOf (overlayBytes p o b) o b.length = b := by
  have htake : (p.take o).length = o := by simp [ho]
  rw [sliceOf, overlayBytes, List.append_assoc, List.drop_left' htake, List.take_left' rfl]

/-- Laying fields on a page keeps its length and what stands before them. -/
theorem laid_fold {fs : List (Nat × List Byte)} {start : Nat} {p : List Byte} (h : Laid start fs p.length) :
    (fs.foldl (fun (p : List Byte) (f : Nat × List Byte) => overlayBytes p f.1 f.2) p).length = p.length ∧
      ∀ i size, i + size ≤ start → sliceOf (fs.foldl (fun (p : List Byte) (f : Nat × List Byte) => overlayBytes p f.1 f.2) p) i size = sliceOf p i size := by
  induction fs generalizing start p with
  | nil => exact ⟨rfl, fun _ _ _ => rfl⟩
  | cons f fs ih =>
    obtain ⟨hstart, hrest⟩ := h
    have hend := hrest.le
    have hlen : (overlayBytes p f.1 f.2).length = p.length := length_overlayBytes hend
    obtain ⟨hlength, hbefore⟩ := ih (hlen.symm ▸ hrest)
    refine ⟨hlength.trans hlen, fun i size hi => ?_⟩
    rw [List.foldl_cons, hbefore i size (by omega), sliceOf_overlayBytes_before (hi.trans hstart) (by omega)]

/-- Each of them stands at its place. -/
theorem laid_field {fs : List (Nat × List Byte)} {start : Nat} {p : List Byte} (h : Laid start fs p.length) {f : Nat × List Byte} (hf : f ∈ fs) :
    sliceOf (fs.foldl (fun (p : List Byte) (f : Nat × List Byte) => overlayBytes p f.1 f.2) p) f.1 f.2.length = f.2 := by
  induction fs generalizing start p with
  | nil => simp at hf
  | cons g fs ih =>
    obtain ⟨hstart, hrest⟩ := h
    have hend := hrest.le
    have hlen : (overlayBytes p g.1 g.2).length = p.length := length_overlayBytes hend
    have hrest' := hlen.symm ▸ hrest
    rcases List.mem_cons.mp hf with rfl | hf
    · rw [List.foldl_cons, (laid_fold hrest').2 _ _ le_rfl, sliceOf_overlayBytes_same (by omega)]
    · exact ih hrest' hf

theorem length_pageOf {fs : List (Nat × List Byte)} {n : Nat} (h : Laid 0 fs n) : (pageOf n fs).length = n := by
  have hn : (zeroBytes n).length = n := List.length_replicate
  rw [pageOf, (laid_fold (hn.symm ▸ h)).1, hn]

theorem leAt_pageOf {fs : List (Nat × List Byte)} {n o : Nat} {b : List Byte} (h : Laid 0 fs n) (hmem : (o, b) ∈ fs) {size : Nat} (hsize : b.length = size) :
    leAt (pageOf n fs) o size = leNat b := by
  have hn : (zeroBytes n).length = n := List.length_replicate
  have hfield := laid_field (hn.symm ▸ h) hmem
  rw [leAt, ← hsize]
  exact congrArg leNat hfield

theorem leAt_pageOf_leBytes {fs : List (Nat × List Byte)} {n o size m : Nat} (h : Laid 0 fs n) (hmem : (o, leBytes size m) ∈ fs) :
    leAt (pageOf n fs) o size = m % 256 ^ size := by
  rw [leAt_pageOf h hmem (length_leBytes size m), leNat_leBytes]

/-! ## Identify Controller (R170) -/

theorem length_hexText (w n : Nat) : (hexText w n).length = w := by simp [hexText]

theorem length_decText (w n : Nat) : (decText w n).length = w := by simp [decText]

theorem length_spaced (n : Nat) (t : List Byte) : (spaced n t).length = n := by
  simp only [spaced, List.length_append, List.length_take, List.length_replicate]
  omega

theorem length_subNqn_le (s : State) (sub : Nat) : (s.subNqn sub).length ≤ 256 := by
  unfold State.subNqn
  split
  · rw [length_padTo]
  · exact List.length_take_le ..

theorem identifyCtrl_laid (hversion : (s.fwSlot s.fwRunsB).version.length ≤ 8) : ∃ fs, s.identifyCtrl x = pageOf 4096 fs ∧ Laid 0 fs 4096 ∧
    (0, leBytes 2 0x1F7E) ∈ fs ∧ (77, [9]) ∈ fs ∧ (78, leBytes 2 x.id) ∈ fs ∧ (80, leBytes 4 0x00020100) ∈ fs ∧ (520, leBytes 2 0x00AD) ∈ fs ∧ (1803, [1]) ∈ fs := by
  have hnqn := length_subNqn_le s x.sub
  refine ⟨_, rfl, ?_, ?_⟩
  · simp only [Laid, List.length_append, length_leBytes, length_hexText, length_decText, length_spaced, List.length_cons, List.length_nil]
    omega
  · simp

theorem identify_of_finds (hf : Finds s v cap q x c) (hdisc : x.discovery = false) (hcns : cap.cdw10 % 256 = 1) (hfits : v.sglGate q c (v.identifyCtrl x).length false = none) :
    v.identify q c = v.sendData c (v.identifyCtrl x) := by
  have hpage : v.identifyPage x c.cap = .ok (v.identifyCtrl x) := by
    unfold State.identifyPage
    simp [hf.cap, hdisc, hcns]
  unfold State.identify
  simp only [hf.ctrl_own, hpage]
  exact answerData_eq hfits

/-- The firmware that runs is the one before the step. -/
theorem Finds.version (hf : Finds s v cap q x c) : (v.fwSlot v.fwRunsB).version = (s.fwSlot s.fwRunsB).version := by
  rw [hf.way.calm.fwRunsB, State.fwSlot, State.fwSlot, hf.fw]

/-! ## Log 0xC1 (R189, R191) -/

theorem pairPage_profile (s : State) : s.pairPage.length = 64 ∧ leAt s.pairPage 0 1 = s.profile % 256 := by
  obtain ⟨fs, hpage, hlaid, hmem⟩ : ∃ fs, s.pairPage = pageOf 64 fs ∧ Laid 0 fs 64 ∧ (0, leBytes 1 s.profile) ∈ fs := by
    refine ⟨_, rfl, ?_, by simp⟩
    simp [Laid, length_leBytes]
  rw [hpage, leAt_pageOf_leBytes hlaid hmem]
  exact ⟨length_pageOf hlaid, rfl⟩

theorem padTo_self (bs : List Byte) : padTo bs.length bs = bs := by simp [padTo, zeroBytes]

theorem getLogPage_of_finds (hf : Finds s v cap q x c) (hdisc : x.discovery = false) (hlid : cap.cdw10 % 256 = 0xC1) (hoff : cap.logOff = 0) (hlen : cap.logLen = 64)
    (hfits : v.sglGate q c 64 false = none) : v.getLogPage q c = v.sendData c v.pairPage := by
  have hpage : v.logPage x c.cap (v.discoveryAddr q) = some (v, v.pairPage) := by
    unfold State.logPage
    simp [hf.cap, hdisc, hlid]
  have hwhole : padTo c.cap.logLen (v.pairPage.drop c.cap.logOff) = v.pairPage := by
    rw [hf.cap, hlen, hoff, List.drop_zero, ← (pairPage_profile v).1, padTo_self]
  unfold State.getLogPage
  simp only [hf.ctrl_own, hpage, hwhole]
  exact answerData_eq (by rwa [(pairPage_profile v).1])

end

end Sys2Proof.Machine
end

section
/-!
PROOFS. The admin commands and the keep alive timeout (05_nvme_service.md, R158, R162, R166, R170, R185, R187, R189, R191, R197).
-/
namespace Sys2Proof.Machine

section
variable {s : State} {q : NvmQueue}

/-! ## A controller is deleted (R158) -/

theorem dropCmds_queues (l : List Cmd) (s : State) : (l.foldl (fun (s : State) (c : Cmd) => s.dropCmd c) s).nvm.queues = s.nvm.queues := by
  induction l generalizing s with
  | nil => rfl
  | cons c l ih => rw [List.foldl_cons, ih, dropCmd_nvm]

theorem resetWq_nvm (wq : Nat) (s : State) : (State.resetWq wq s).nvm = s.nvm := (keeps_State_resetWq wq rfl (Keeps.refl false 128 s)).part .nvm (by decide)

theorem deleteQueue_queues (s : State) (q : NvmQueue) : (s.deleteQueue q).nvm.queues = s.nvm.queues.filter (fun x => x.key != q.key) := by
  unfold State.deleteQueue
  extract_lets s1 nvm s2
  have h2 : s2.nvm.queues = s.nvm.queues.filter (fun x => x.key != q.key) := congrArg (List.filter _) (dropCmds_queues _ s)
  split
  · rw [resetWq_nvm, h2]
  · exact h2

/-- Of the queues that are deleted one after the other none is left, and no other one comes. -/
theorem mem_deleteQueues (l : List NvmQueue) (s : State) (h : q ∈ (l.foldl (fun (s : State) (q : NvmQueue) => s.deleteQueue q) s).nvm.queues) : q ∈ s.nvm.queues ∧ q ∉ l := by
  induction l generalizing s with
  | nil => exact ⟨h, List.not_mem_nil⟩
  | cons y l ih =>
    obtain ⟨hmem, hnot⟩ := ih _ h
    rw [deleteQueue_queues, List.mem_filter] at hmem
    obtain ⟨hmem, hkey⟩ := hmem
    refine ⟨hmem, fun hin => ?_⟩
    rcases List.mem_cons.mp hin with rfl | hin
    · simp at hkey
    · exact hnot hin

theorem deleteCtrl_queues (id : Nat) (s : State) : ∀ q ∈ (s.deleteCtrl id).nvm.queues, q.ctrl ≠ id := by
  intro q hq hid
  obtain ⟨hmem, hnot⟩ := mem_deleteQueues _ s hq
  exact hnot (List.mem_filter.mpr ⟨hmem, by simpa using hid⟩)

theorem deleteCtrl_ctrl? (id : Nat) (s : State) : (s.deleteCtrl id).ctrl? id = none := by
  refine List.find?_eq_none.mpr (fun c hc => ?_)
  simpa using (List.mem_filter.mp hc).2

/-- The keep alive timeout of a controller. -/
theorem katoExpiry_row {id : Nat} {x : NvmCtrl} (hx : s.ctrl? id = some x) (hkato : x.katoMs ≠ 0) (hpast : x.aliveUs + 1000 * x.katoMs ≤ s.nowUs) :
    exec (.katoExpiry id) s = .next ((((atStep s).deleteCtrl id).raise 0x182).closeStep s.dev.curStep) := by
  have hx' : (atStep s).ctrl? id = some x := hx
  have hpast' : x.katoMs ≠ 0 ∧ x.aliveUs + 1000 * x.katoMs ≤ (atStep s).nowUs := ⟨hkato, hpast⟩
  change execKatoExpiry id s = _
  unfold execKatoExpiry
  rw [inStep_eq]
  simp only [hx', if_pos hpast']

end

/-- Settles O23: each row by what it does with the command that it finds taken and handed over; the timeout by the queues that its deletions leave. -/
theorem nvmeAdminCommands : Obligations.NvmeAdminCommands := by
  unfold Obligations.NvmeAdminCommands
  refine ⟨?identify, ?log, fun key cap s u q qq x c y h hs => ⟨?abort, ?abortHeld, ?abortMiss⟩, ?setFeatures, ?getFeatures, ?event, ?keepAlive, ?kato⟩
  case identify =>
    intro key cap s u q x c h hs hdisc hcns hfits hlen hversion
    have hf := finds_of_taken h
    obtain ⟨fs, hpage, hlaid, hvid, hmdts, hcntlid, hver, honcs, hioccsz⟩ := identifyCtrl_laid (s := u.handOver c) (x := x) (by rwa [hf.version])
    have hgate : (u.handOver c).sglGate q { c with engines := true } ((u.handOver c).identifyCtrl x).length false = none := by
      rw [hpage, length_pageOf hlaid, sglGate_eq_none_iff, hf.cap]
      exact ⟨hfits, by decide, hlen⟩
    refine ⟨_, pageOf 4096 fs, congrArg Host.Outcome.next (inStep_onCapsule_of_taken h State.identify), ?_, length_pageOf hlaid, leAt_pageOf_leBytes hlaid hvid,
      leAt_pageOf hlaid hmdts rfl, leAt_pageOf_leBytes hlaid hcntlid, leAt_pageOf_leBytes hlaid hver, leAt_pageOf_leBytes hlaid honcs, leAt_pageOf hlaid hioccsz rfl⟩
    rw [identify_of_finds hf hdisc hcns hgate, hpage, ← hf.cap]
    exact dataSent_sendData hf.way hf.queue hs _ _
  case log =>
    intro key cap s u q x c h hs hdisc hlid hoff hlogLen hfits hlen
    have hf := finds_of_taken h
    have hgate : (u.handOver c).sglGate q { c with engines := true } 64 false = none := by
      rw [sglGate_eq_none_iff, hf.cap]
      exact ⟨hfits, by decide, hlen⟩
    obtain ⟨hlength, hprofile⟩ := pairPage_profile (u.handOver c)
    refine ⟨_, (u.handOver c).pairPage, congrArg Host.Outcome.next (inStep_onCapsule_of_taken h State.getLogPage), ?_, hlength, by rw [hprofile, hf.way.calm.profile]⟩
    rw [getLogPage_of_finds hf hdisc hlid hoff hlogLen hgate, ← hf.cap]
    exact dataSent_sendData hf.way hf.queue hs _ _
  case abort =>
    intro hcmds hle hst hissued hcid hnq hsq hqueue hkey
    have hf := finds_of_taken h
    have hfound : (u.handOver c).nvm.cmds = [y, { c with engines := true }] := by
      rw [taken_cmds h (by simpa [hcmds] using hle), hcmds]
      rfl
    have hne : y.key ≠ ({ c with engines := true } : Cmd).key := by
      rw [hf.cmdKey]
      omega
    have hnq' : (u.handOver c).nq? y.queue = some qq := by rw [State.nq?, taken_queues h, ← State.nq?, hnq]
    have hqueue' : (u.handOver c).abortQueue { c with engines := true } = some qq := by rw [State.abortQueue, taken_queues h, hf.cap, hqueue]
    obtain ⟨hnone, hfirst, hanswer⟩ := abort_first_of_finds hf hs hfound hqueue' hkey hnq' hsq hcid hne hst hissued s.dev.curStep
    exact ⟨_, congrArg Host.Outcome.next (inStep_onCapsule_of_taken h State.abort), hnone, hfirst, hanswer⟩
  case abortHeld =>
    intro hcmds hqid hmem
    have hfound : (u.handOver c).nvm.cmds = [{ c with engines := true }] := by
      rw [taken_cmds h (by simp [hcmds]), hcmds]
      rfl
    obtain ⟨hfirst, hanswer⟩ := abort_held_of_finds (finds_of_taken h) hs hfound hqid hmem s.dev.curStep
    exact ⟨_, congrArg Host.Outcome.next (inStep_onCapsule_of_taken h State.abort), hfirst, hanswer⟩
  case abortMiss =>
    intro hcmds hmem
    have hf := finds_of_taken h
    have hfound : (u.handOver c).nvm.cmds = [{ c with engines := true }] := by
      rw [taken_cmds h (by simp [hcmds]), hcmds]
      rfl
    refine ⟨_, congrArg Host.Outcome.next (inStep_onCapsule_of_taken h State.abort), ?_⟩
    rw [← hf.cap] at hmem ⊢
    rw [abort_miss (abortHit_alone hfound rfl) hf.ctrl_own hmem]
    exact answered_endCmd hf.way hf.queue hs (by decide) 1 _
  case setFeatures =>
    intro key cap s u q x c h hs hfid
    have hf := finds_of_taken h
    obtain ⟨hanswer, hctrl⟩ := answered_setCtrl hf hs (x' := { x with features := sparsePut 0 (cap.cdw10 % 256) (cap.cdw11 % 2 ^ 32) x.features }) rfl s.dev.curStep
    rw [← setFeatures_of_finds hf hfid] at hanswer hctrl
    exact ⟨_, _, congrArg Host.Outcome.next (inStep_onCapsule_of_taken h State.setFeatures), hanswer, hctrl, (sparseGet_put ..).trans (if_pos rfl)⟩
  case getFeatures =>
    intro key cap s u q x c h hs hfid
    have hf := finds_of_taken h
    refine ⟨_, congrArg Host.Outcome.next (inStep_onCapsule_of_taken h State.getFeatures), ?_⟩
    rw [getFeatures_of_finds hf hfid, ← hf.cap]
    exact answered_endCmd hf.way hf.queue hs (by decide) _ _
  case event =>
    intro key cap s u q x c h hroom hnone
    have hf := finds_of_taken h
    refine ⟨_, { x with aer := x.aer ++ [cap.cid] }, congrArg Host.Outcome.next (inStep_onCapsule_of_taken h State.asyncRequest), ?_, rfl⟩
    rw [asyncRequest_of_finds hf hroom hnone]
    exact setCtrl_ctrl?_same (x := { x with aer := x.aer ++ [cap.cid] }) (x0 := x) (by rw [State.ctrl?, dropCmd_nvm]; exact hf.ctrl)
  case keepAlive =>
    intro key cap s u q x c h hs
    have hf := finds_of_taken h
    obtain ⟨hanswer, hctrl⟩ := answered_setCtrl hf hs (x' := { x with aliveUs := s.nowUs }) rfl s.dev.curStep
    rw [← keepAlive_of_finds hf] at hanswer hctrl
    exact ⟨_, _, congrArg Host.Outcome.next (inStep_onCapsule_of_taken h State.keepAlive), hanswer, hctrl, rfl⟩
  case kato =>
    intro id x s hx hkato hpast
    refine ⟨_, katoExpiry_row hx hkato hpast, ?_, ?_, raise_bit _ 0x182⟩
    · change ((((atStep s).deleteCtrl id).raise 0x182)).ctrl? id = none
      rw [State.ctrl?, raise_nvm]
      exact deleteCtrl_ctrl? id _
    · change ∀ q ∈ (((atStep s).deleteCtrl id).raise 0x182).nvm.queues, q.ctrl ≠ id
      rw [raise_nvm]
      exact deleteCtrl_queues id _

end Sys2Proof.Machine
end

section
/-!
PROOFS. O27 (06_chute_yard.md, R219): a refutation by two Tally entries of one number.

Nothing in `State` keeps the numbers of open Tally entries below the next one. DESTAGE_START opens its entry under that number and settles the first entry that bears it; where this is an old one
with nothing left to write, it closes, and the new one leaves with it.
-/
namespace Sys2Proof.Machine

/-- An open entry of stripe 1 of group 0 under the next number, with nothing to write. -/
def staleEntry : TallyEnt :=
  { id := 1, stripe := 1, group := 0, kind := 4, columns := 0, done := 0, off := 0, blocks := 0, spare := false, step := 0, writes := [], member := 0, side := .maint, cls := 0 }

/-- A Brand with one data chunk of one block in each stripe, and every column on member 0, which is NORMAL. -/
def destageBrand : Brand :=
  { recordBrand 0 [] none with k := 1, members := 1, chunkKib := 4, rows := 1, table := [], memberTab := [{ memberEnt0 with state := mNormal }] }

def destageGrp : Grp := newGrp destageBrand false true

/-- The staged data of that block in stripe 0. -/
def dirtyVer : Ver :=
  { sub := 0, nsid := 1, lba := 0, data := [], hostTag := 0, commitStep := 0, dirtyUs := 0, entry := 0, mapWait := false, noticed := true, poisoned := false }

/-- A controller that serves alone, with the extent of that block allocated in group 0, and with `staleEntry`. -/
def destageState : State :=
  { limitState with
    cht := { limitState.cht with ext := [(0, ⟨0, 1, 0⟩)], staging := [dirtyVer] }
    grps := [(0, destageGrp)]
    tly := { limitState.tly with entries := [staleEntry] } }

theorem destageState_dirty : destageState.stripeDirty 0 destageGrp.brand 0 = [(0, 0, dirtyVer)] := by decide +kernel

theorem destageState_ready :
    destageState.grp? 0 = some destageGrp ∧ destageState.consumes = true ∧ destageState.tly.stopped = false ∧ destageState.tallyRoom 0 0 = true := by decide +kernel

theorem destageGrp_writePlace (st j o : Nat) : (destageGrp.writePlace st j o).isSome = true := rfl

theorem destageGrp_mState (m : Nat) : destageGrp.brand.mState m ≠ mFailed := by
  cases m with
  | zero => decide
  | succ m => exact (by decide : mUnused ≠ mFailed)

/-- The open entries where a row has ended in a next state. -/
def entriesAfter : Result → Option (List TallyEnt)
  | .next t => some t.tly.entries
  | .fault _ => none
  | .refused _ => none

/-- A destage of a full stripe, and no entry is open. -/
theorem entriesAfter_destageStart_destageState : entriesAfter (exec (.destageStart 0 0 []) destageState) = some [] := by decide +kernel

/-- Refutes O27 in its clause of DESTAGE_START: the entry that it opens can leave with an older one of its number. -/
theorem not_chuteAndYard : ¬ Obligations.ChuteAndYard := by
  rintro ⟨-, -, -, -, -, -, hdestage, -⟩
  obtain ⟨hgrp, hconsumes, hstopped, hroom⟩ := destageState_ready
  have hdirty := destageState_dirty
  obtain ⟨t, ht, e, he, -⟩ := hdestage 0 0 [] destageGrp destageState hgrp hconsumes (by rw [hdirty]; rfl) (by rw [hdirty]; exact List.cons_ne_nil _ _)
    (fun d hd => by rw [hdirty, List.mem_singleton] at hd; rw [hd]; rfl) hstopped rfl rfl hroom (destageGrp_writePlace 0) destageGrp_mState
  have hnone := entriesAfter_destageStart_destageState
  rw [ht] at hnone
  rw [Option.some.inj hnone] at he
  exact List.not_mem_nil he

end Sys2Proof.Machine
end

section
/-!
PROOFS. What work on groups, Tally entries and their drive commands leaves (06_chute_yard.md, 07_stripe_layouts.md, 08_tally_rebuild.md): event status, counts of timeouts, and the groups but
for what that work is about.
-/
namespace Sys2Proof.Machine

/-! ## Fields that no such work writes -/

/-- The side, and the count of timeouts of every drive port. -/
def upkeepWatch : List Nat := F.GLB_SIDE.SIDE.key 0 0 :: (List.range 48).map (fun n => F.DP_CMD_TIMEOUT.COUNT.key n 0)

theorem not_mem_upkeepWatch {k : Nat} : k ∉ upkeepWatch ↔ k ≠ F.GLB_SIDE.SIDE.key 0 0 ∧ ∀ n < 48, F.DP_CMD_TIMEOUT.COUNT.key n 0 ≠ k := by
  simp [upkeepWatch]

/-- Registers between the event matrix and the drive ports, and behind those, are not watched. -/
theorem key_not_watched (f : Fld) (i j : Nat) (hlo : f.lo < 64) (hoff : 0x20000 ≤ f.at i j) (hports : f.at i j < 0x480000 ∨ 0x4B0000 ≤ f.at i j) : f.key i j ∉ upkeepWatch := by
  refine not_mem_upkeepWatch.mpr ⟨?_, fun n hn => ?_⟩
  · simp only [Fld.key, Fld.at, F.GLB_SIDE.SIDE] at hoff ⊢
    omega
  · simp only [Fld.key, Fld.at, F.DP_CMD_TIMEOUT.COUNT] at hports ⊢
    omega

theorem status_not_watched {n : Nat} (hn : n < 64) : F.EVT_STATUS.STATUS.key n 0 ∉ upkeepWatch := by
  refine key_not_watched _ _ _ (by decide) ?_ (.inl ?_) <;> simp only [Fld.at, F.EVT_STATUS.STATUS] <;> omega

theorem proxy_not_watched (n : Nat) : F.DP_PROXY.COUNT.key n 0 ∉ upkeepWatch := by
  refine not_mem_upkeepWatch.mpr ⟨?_, fun m _ => ?_⟩
  · simp only [Fld.key, Fld.at, F.DP_PROXY.COUNT, F.GLB_SIDE.SIDE]
    omega
  · simp only [Fld.key, Fld.at, F.DP_PROXY.COUNT, F.DP_CMD_TIMEOUT.COUNT]
    omega

/-- The watched fields and step time are as before, and no status bit of an event is cleared. -/
structure Upkeep (s t : State) : Prop where
  reads : ∀ (g : Fld) (m n : Nat), g.key m n ∈ upkeepWatch → t.get g m n = s.get g m n
  events : ∀ n < 64, ∀ i < 32, bitOf (s.get F.EVT_STATUS.STATUS n) i = true → bitOf (t.get F.EVT_STATUS.STATUS n) i = true
  now : t.nowUs = s.nowUs

section
variable {s t u : State}

theorem Upkeep.refl (s : State) : Upkeep s s := ⟨fun _ _ _ _ => rfl, fun _ _ _ _ h => h, rfl⟩

theorem Upkeep.trans (h : Upkeep s t) (h' : Upkeep t u) : Upkeep s u :=
  ⟨fun g m n hk => (h'.reads g m n hk).trans (h.reads g m n hk), fun n hn i hi hb => h'.events n hn i hi (h.events n hn i hi hb), h'.now.trans h.now⟩

theorem Upkeep.sideB (h : Upkeep s t) : t.sideB = s.sideB := congrArg (· == 1) (h.reads F.GLB_SIDE.SIDE 0 0 (List.mem_cons_self ..))

theorem Upkeep.timeouts (h : Upkeep s t) {n : Nat} (hn : n < 48) : t.get F.DP_CMD_TIMEOUT.COUNT n = s.get F.DP_CMD_TIMEOUT.COUNT n :=
  h.reads F.DP_CMD_TIMEOUT.COUNT n 0 (List.mem_cons_of_mem _ (List.mem_map.mpr ⟨n, List.mem_range.mpr hn, rfl⟩))

/-- The status bit of an event that is raised is set, and stays. -/
theorem Upkeep.raised {e : Nat} (he : e < 2048) (h : Upkeep (s.raise e) t) : bitOf (t.get F.EVT_STATUS.STATUS (e / 32)) (e % 32) = true :=
  h.events _ (by omega) _ (Nat.mod_lt _ (by decide)) (raise_bit s e)

theorem Upkeep.of_same (h : Upkeep s t) (hregs : u.regs = t.regs) (hdev : u.dev = t.dev) : Upkeep s u := by
  refine h.trans ⟨fun g m n _ => ?_, fun n _ i _ hb => ?_, by rw [State.nowUs, State.nowUs, hdev]⟩
  · unfold State.get
    rw [hregs]
  · unfold State.get at hb ⊢
    rwa [hregs]

theorem Upkeep.closeStep (h : Upkeep s t) (n : Nat) : Upkeep s (t.closeStep n) := h.trans ⟨fun _ _ _ _ => rfl, fun _ _ _ _ hb => hb, rfl⟩

/-- Operations that change neither registers nor the device. -/
theorem Upkeep.keeps {p : Bool} {A : Nat} (h : Upkeep s t) (hk : Keeps p A t u) (hregs : A &&& 1 ≠ 1) (hdev : A &&& 2 ≠ 2) : Upkeep s u :=
  h.of_same (hk.part .regs hregs) (hk.part .dev hdev)

theorem Upkeep.ite {c : Prop} [Decidable c] (h : Upkeep s t) (h' : Upkeep s u) : Upkeep s (if c then t else u) := by
  split <;> assumption

theorem Upkeep.foldl {α : Type} {f : State → α → State} (l : List α) (hf : ∀ t x, Upkeep s t → Upkeep s (f t x)) (h : Upkeep s t) : Upkeep s (l.foldl f t) := by
  induction l generalizing t with
  | nil => exact h
  | cons x l ih => exact ih (hf t x h)

theorem Upkeep.set (h : Upkeep s t) (f : Fld) (v i j : Nat) (hoff : 0x20100 ≤ f.off) (hk : f.key i j ∉ upkeepWatch) : Upkeep s (t.set f v i j) := by
  refine h.trans ⟨fun _ _ _ hg => get_set_other _ _ _ _ _ _ _ _ (fun e => hk (e ▸ hg)), fun n hn i' _ hb => ?_, rfl⟩
  rwa [get_set_other]
  simp only [Fld.key, Fld.at, F.EVT_STATUS.STATUS]
  omega

/-- A register of which there is one. -/
theorem Upkeep.setOnly (h : Upkeep s t) (f : Fld) (v : Nat) (hoff : 0x20100 ≤ f.off) (hports : f.off < 0x480000) (hlo : f.lo < 64) : Upkeep s (t.set f v) := by
  refine h.set f v 0 0 hoff (key_not_watched f 0 0 hlo ?_ (.inl ?_)) <;> simp only [Fld.at] <;> omega

theorem Upkeep.raise (h : Upkeep s t) (e : Nat) (he : e < 2048) : Upkeep s (t.raise e) := by
  refine h.trans ⟨fun _ _ _ hg => get_raise _ _ _ _ _ (fun hk => status_not_watched (n := e / 32) (by omega) (hk ▸ hg)), fun n _ i hi hb => ?_, ?_⟩
  · by_cases hn : e / 32 = n
    · subst hn
      rw [raise_status, bitOf_mod _ _ _ hi]
      exact bitOf_withBit_of _ _ _ hb
    · rwa [get_raise]
      simp only [Fld.key, Fld.at, F.EVT_STATUS.STATUS]
      omega
  · obtain ⟨l, hl⟩ := raise_dev t e
    rw [State.nowUs, State.nowUs, hl]

theorem Upkeep.raiseLimited (h : Upkeep s t) (e : Nat) (he : e < 2048) : Upkeep s (t.raiseLimited e) := by
  refine h.ite (Upkeep.raise ?_ e he)
  exact h.trans ⟨fun _ _ _ _ => rfl, fun _ _ _ _ hb => hb, rfl⟩

/-! ## Commands to drives (R210, R407) -/

theorem Upkeep.scaler (h : Upkeep s t) (f : Fld) (v i : Nat) (hoff : 0x4B0000 ≤ f.off) (hlo : f.lo < 64) : Upkeep s (t.set f v i) := by
  refine h.set f v i 0 (by omega) (key_not_watched f i 0 hlo ?_ (.inr ?_)) <;> simp only [Fld.at] <;> omega

theorem Upkeep.addCounter (h : Upkeep s t) (i weight : Nat) : Upkeep s (t.addCounter i weight) := by
  have hc := h.scaler F.SCL_CNT.COUNT (t.get F.SCL_CNT.COUNT i + weight) i (by decide) (by decide)
  exact hc.ite ((hc.scaler F.SCL_OVF.OVF _ _ (by decide) (by decide)).raiseLimited 0x480 (by decide))

theorem Upkeep.count (h : Upkeep s t) (unit inst event weight : Nat) : Upkeep s (t.count unit inst event weight) :=
  Upkeep.ite (h.foldl _ (fun _ i h => (h.addCounter i weight).ite h)) h

theorem Upkeep.yardTake {st cls n : Nat} {is : List Nat} (h : Upkeep s t) (hu : State.yardTake st cls n t = some (u, is)) : Upkeep s u := by
  induction n generalizing t u is with
  | zero =>
    cases hu
    exact h
  | succ n ih =>
    unfold State.yardTake at hu
    extract_lets low at hu
    split at hu
    · cases hu
    split at hu
    · cases hu
    extract_lets t1 t2 t3 at hu
    have h1 : Upkeep s t1 := h.of_same rfl rfl
    have h2 : Upkeep s t2 := h1.count 5 _ 0 _
    have h3 : Upkeep s t3 := (h2.raise 0x1A7 (by decide)).ite h2
    split at hu
    · cases hu
    · rename_i v is' hv
      cases hu
      exact ih h3 hv

theorem Upkeep.queueDrv (h : Upkeep s t) (c : DrvCmd) : Upkeep s (t.queueDrv c) :=
  h.keeps (keeps_State_queueDrv c rfl (Keeps.refl false 66560 t)) (by decide) (by decide)

theorem Upkeep.equip (h : Upkeep s t) (c : DrvCmd) : Upkeep s (t.equip c).1 := by
  unfold State.equip
  split
  · exact h.queueDrv c
  split
  · exact h
  rename_i v bufs hv
  have hv := h.yardTake hv
  split
  · exact h
  extract_lets d t1 t2
  have h1 : Upkeep s t1 := hv.of_same rfl rfl
  have h2 : Upkeep s t2 := h1.foldl _ (fun t x h => h.keeps (keeps_State_fillBuf x.1 x.2 rfl (Keeps.refl false 7340032 t)) (by decide) (by decide))
  exact h2.queueDrv _

theorem Upkeep.launch (h : Upkeep s t) (c : DrvCmd) : Upkeep s (t.launch c) := by
  refine Upkeep.ite (h.of_same rfl rfl) (Upkeep.ite (h.of_same rfl rfl) ?_)
  have he := h.equip c
  generalize t.equip c = x at he ⊢
  refine Upkeep.ite he (Upkeep.setOnly (Upkeep.count ?_ 5 _ 1 _) F.YRD_WAIT.COUNT _ (by decide) (by decide) (by decide))
  exact h.of_same rfl rfl

theorem Upkeep.bumpProxy (h : Upkeep s t) (n : Nat) : Upkeep s (t.bump F.DP_PROXY.COUNT n) := h.set _ _ n 0 (by decide) (proxy_not_watched n)

theorem Upkeep.foldDrv (h : Upkeep s t) (c : DrvCmd) : Upkeep s (t.foldDrv c) := h.of_same (fold_regs ..) (fold_dev ..)

theorem Upkeep.formDrv (h : Upkeep s t) (side : OutSide) (port nguid op lba nlb cls : Nat) (viaYard : Bool) (blocks : List Blk) (use : DrvUse) :
    Upkeep s (t.formDrv side port nguid op lba nlb cls viaYard blocks use) := by
  unfold State.formDrv
  split
  extract_lets c drv t1 t2 t3
  have h1 : Upkeep s t1 := h.of_same rfl rfl
  have h2 : Upkeep s t2 := h1.foldDrv c
  have h3 : Upkeep s t3 := (h2.bumpProxy port).ite h2
  exact (h3.launch c).ite h3

theorem Upkeep.memberCmd (h : Upkeep s t) (side : OutSide) (x : Grp) (p : Place) (op nlb cls : Nat) (viaYard : Bool) (blocks : List Blk) (use : DrvUse) :
    Upkeep s (t.memberCmd side x p op nlb cls viaYard blocks use) := by
  unfold State.memberCmd
  split
  · exact h.formDrv ..
  · exact h

theorem Upkeep.reissue (h : Upkeep s t) (c : DrvCmd) : Upkeep s (t.reissue c) := by
  unfold State.reissue
  extract_lets t1 drv
  have h1 : Upkeep s t1 := h.keeps (keeps_State_unequip c true rfl (Keeps.refl false 73728 t)) (by decide) (by decide)
  split
  extract_lets n t2 t3 t4
  have h2 : Upkeep s t2 := h1.of_same rfl rfl
  have h3 : Upkeep s t3 := h2.foldDrv n
  have h4 : Upkeep s t4 := (h3.bumpProxy c.port).ite h3
  exact (h4.launch n).ite h4

end

end Sys2Proof.Machine
end

section
/-!
PROOFS. Groups under work on their Brands and their Tally entries (07_stripe_layouts.md, R252 to R255; 08_tally_rebuild.md, R263, R284, R285).
-/
namespace Sys2Proof.Machine

/-! ## Groups after a write -/

theorem find?_sparseInsert {α : Type} (k j : Nat) (v : α) (l : List (Nat × α)) :
    ((sparseInsert k v l).find? (fun x => x.1 == j)).map (·.2) = if k = j then some v else (l.find? (fun x => x.1 == j)).map (·.2) := by
  induction l with
  | nil => by_cases hj : k = j <;> simp [sparseInsert, hj]
  | cons x l ih =>
    obtain ⟨k', v'⟩ := x
    unfold sparseInsert
    split
    · by_cases hj : k = j <;> simp [hj]
    · split
      · rename_i hk
        subst hk
        by_cases hj : k = j <;> simp [hj]
      · rename_i hk
        by_cases hj : k' = j
        · subst hj
          simp [hk]
        · simpa [List.find?_cons, hj] using ih

theorem grp?_setGrp (s : State) (g k : Nat) (y : Grp) : (s.setGrp g y).grp? k = if g = k then some y else s.grp? k := find?_sparseInsert g k y s.grps

@[simp] theorem grp?_setGrp_same (s : State) (g : Nat) (y : Grp) : (s.setGrp g y).grp? g = some y := (grp?_setGrp s g g y).trans (if_pos rfl)

theorem grp?_of_grps {s t : State} (h : t.grps = s.grps) (g : Nat) : t.grp? g = s.grp? g := by rw [State.grp?, State.grp?, h]

theorem closeStep_grp? (s : State) (n g : Nat) : (s.closeStep n).grp? g = s.grp? g := grp?_of_grps rfl g

/-- What `f` says of every group is as before. -/
structure SameGrps {α : Type} (f : Grp → α) (s t : State) : Prop where
  same : ∀ g, (t.grp? g).map f = (s.grp? g).map f

/-- `f` says nothing about the Brand that a group wants and its running update. -/
def IgnoresWant {α : Type} (f : Grp → α) : Prop := ∀ (x : Grp) (b : Brand) (u : Option BrandUpd), f { x with want := b, upd := u } = f x

/-- `f` says nothing about how far a group is swept. -/
def IgnoresSweep {α : Type} (f : Grp → α) : Prop := ∀ (x : Grp) (v : Verify) (c : Nat) (l : List Nat), f { x with verify := v, swept := c, sweptToo := l } = f x

theorem ignoresWant_brand : IgnoresWant Grp.brand := fun _ _ _ => rfl

theorem ignoresWant_mapSeq : IgnoresWant Grp.mapSeq := fun _ _ _ => rfl

theorem ignoresSweep_brand : IgnoresSweep Grp.brand := fun _ _ _ _ => rfl

section
variable {α : Type} {f : Grp → α} {s t u : State} {g : Nat} {x y : Grp}

theorem SameGrps.refl (f : Grp → α) (s : State) : SameGrps f s s := ⟨fun _ => rfl⟩

theorem SameGrps.trans (h : SameGrps f s t) (h' : SameGrps f t u) : SameGrps f s u := ⟨fun g => (h'.same g).trans (h.same g)⟩

theorem SameGrps.of_grps (h : SameGrps f s t) (hg : u.grps = t.grps) : SameGrps f s u := ⟨fun g => by rw [grp?_of_grps hg, h.same g]⟩

theorem SameGrps.keeps {p : Bool} {A : Nat} (h : SameGrps f s t) (hk : Keeps p A t u) (hA : A &&& 16384 ≠ 16384) : SameGrps f s u := h.of_grps (hk.part .grps hA)

theorem SameGrps.ite {c : Prop} [Decidable c] (h : SameGrps f s t) (h' : SameGrps f s u) : SameGrps f s (if c then t else u) := by
  split <;> assumption

theorem SameGrps.foldl {β : Type} {op : State → β → State} (l : List β) (hf : ∀ t b, SameGrps f s t → SameGrps f s (op t b)) (h : SameGrps f s t) : SameGrps f s (l.foldl op t) := by
  induction l generalizing t with
  | nil => exact h
  | cons b l ih => exact ih (hf t b h)

theorem SameGrps.setGrp (h : SameGrps f s t) (hx : t.grp? g = some x) (hy : f y = f x) : SameGrps f s (t.setGrp g y) := by
  refine ⟨fun k => ?_⟩
  rw [grp?_setGrp]
  split
  · rename_i hk
    rw [← h.same k, ← hk, hx, Option.map_some, Option.map_some, hy]
  · exact h.same k

/-- A group that was there is there, and `f` says the same of it. -/
theorem SameGrps.exists_grp (h : SameGrps f s t) (hx : s.grp? g = some x) : ∃ y, t.grp? g = some y ∧ f y = f x := by
  have hg := h.same g
  rw [hx, Option.map_some, Option.map_eq_some_iff] at hg
  exact hg

/-! ## Brand updates and the vault's limit (R252, R253, R274) -/

theorem Upkeep.brandIssue (h : Upkeep s t) (g m : Nat) : Upkeep s (t.brandIssue g m) := by
  unfold State.brandIssue
  split
  · exact h
  split
  · exact h
  split
  · exact h
  · exact h.memberCmd ..

theorem Upkeep.startBrand (h : Upkeep s t) (g : Nat) : Upkeep s (t.startBrand g) := by
  unfold State.startBrand
  split
  · exact h
  refine Upkeep.ite h (Upkeep.ite ?_ (Upkeep.foldl _ (fun _ m h => h.brandIssue g m) (h.of_same rfl rfl)))
  exact (h.setOnly F.LAY_BRAND_STATUS.RESULT _ (by decide) (by decide) (by decide)).setOnly F.LAY_BRAND_STATUS.GROUP _ (by decide) (by decide) (by decide)

theorem SameGrps.brandIssue (h : SameGrps f s t) (g m : Nat) : SameGrps f s (t.brandIssue g m) :=
  h.keeps (keeps_State_brandIssue g m rfl (Keeps.refl false 32581155 t)) (by decide)

theorem SameGrps.startBrand (hf : IgnoresWant f) (h : SameGrps f s t) (g : Nat) : SameGrps f s (t.startBrand g) := by
  unfold State.startBrand
  split
  · exact h
  rename_i x hx
  exact h.ite (SameGrps.ite (h.of_grps rfl) (SameGrps.foldl _ (fun _ m h => h.brandIssue g m) (h.setGrp hx (hf x _ _))))

theorem Upkeep.vaultChanged (h : Upkeep s t) : Upkeep s t.vaultChanged := by
  unfold State.vaultChanged
  extract_lets room limit short u
  have hu : Upkeep s u := (h.setOnly F.VLT_LIMIT_EFF.MIB _ (by decide) (by decide) (by decide)).setOnly F.VLT_STATUS.SHORT _ (by decide) (by decide) (by decide)
  exact (hu.raise 0x1CF (by decide)).ite hu

theorem SameGrps.raise (h : SameGrps f s t) (e : Nat) : SameGrps f s (t.raise e) := h.of_grps (raise_grps ..)

theorem SameGrps.vaultChanged (h : SameGrps f s t) : SameGrps f s t.vaultChanged := h.keeps (keeps_State_vaultChanged rfl (Keeps.refl false 8388643 t)) (by decide)

/-! ## Tally entries that are issued and closed (R263, R266, R284, R285) -/

theorem Upkeep.issueWrite (h : Upkeep s t) (id k : Nat) : Upkeep s (t.issueWrite id k) := by
  unfold State.issueWrite
  split
  · exact h
  split
  · refine h.ite ?_
    split
    · exact h.memberCmd ..
    · exact h
  · exact h

theorem Upkeep.issueEntry (h : Upkeep s t) (id : Nat) : Upkeep s (t.issueEntry id) := by
  unfold State.issueEntry
  split
  · exact h
  · exact h.foldl _ (fun _ k h => h.issueWrite id k)

theorem SameGrps.issueEntry (h : SameGrps f s t) (id : Nat) : SameGrps f s (t.issueEntry id) :=
  h.keeps (keeps_State_issueEntry id rfl (Keeps.refl false 32581155 t)) (by decide)

theorem Upkeep.dirtyLevel (h : Upkeep s t) : Upkeep s t.dirtyLevel := by
  have hset (b : Bool) : Upkeep s { t with cht := { t.cht with dirtyHigh := b } } := h.of_same rfl rfl
  exact Upkeep.ite ((hset false).ite h) (Upkeep.ite ((hset true).raise 0x1A4 (by decide)) h)

theorem SameGrps.dirtyLevel (h : SameGrps f s t) : SameGrps f s t.dirtyLevel := h.keeps (keeps_State_dirtyLevel rfl (Keeps.refl false 8396835 t)) (by decide)

theorem Upkeep.endDestage (h : Upkeep s t) (id : Nat) : Upkeep s (t.endDestage id) := by
  unfold State.endDestage
  extract_lets mine partials u
  have hu : Upkeep s u := by
    refine h.foldl _ (fun t v h => ?_)
    split
    · exact h.of_same rfl rfl
    · exact h
  exact Upkeep.dirtyLevel (hu.of_same rfl rfl)

theorem SameGrps.endDestage (h : SameGrps f s t) (id : Nat) : SameGrps f s (t.endDestage id) :=
  h.keeps (keeps_State_endDestage id rfl (Keeps.refl false 8396835 t)) (by decide)

theorem Upkeep.sweptStripe (h : Upkeep s t) (g st : Nat) : Upkeep s (t.sweptStripe g st) := by
  unfold State.sweptStripe
  split
  · exact h
  refine h.ite (Upkeep.ite (Upkeep.raise ?_ 0x1D2 (by decide)) (h.of_same rfl rfl))
  exact h.of_same rfl rfl

theorem SameGrps.sweptStripe (hf : IgnoresSweep f) (h : SameGrps f s t) (g st : Nat) : SameGrps f s (t.sweptStripe g st) := by
  unfold State.sweptStripe
  split
  · exact h
  rename_i x hx
  exact h.ite (SameGrps.ite ((h.setGrp hx (hf x _ _ _)).raise 0x1D2) (h.setGrp hx (hf x _ _ _)))

theorem Upkeep.rebuildDone (h : Upkeep s t) (g : Nat) (r : Rebuild) : Upkeep s (t.rebuildDone g r) := by
  unfold State.rebuildDone
  split
  · exact h
  refine ((Upkeep.raise ?_ 0x1D6 (by decide)).startBrand g).vaultChanged
  exact h.of_same rfl rfl

theorem SameGrps.rebuildDone (hf : IgnoresWant f) (h : SameGrps f s t) (g : Nat) (r : Rebuild) : SameGrps f s (t.rebuildDone g r) := by
  unfold State.rebuildDone
  split
  · exact h
  rename_i x hx
  extract_lets b e spared src bx tly u
  have hu : SameGrps f s u := h.of_grps rfl
  exact (((hu.setGrp (g := g) (x := x) hx (hf x _ _)).raise 0x1D6).startBrand hf g).vaultChanged

theorem Upkeep.rebuiltStripe (h : Upkeep s t) (g m st : Nat) : Upkeep s (t.rebuiltStripe g m st) := by
  unfold State.rebuiltStripe
  split
  · exact h
  extract_lets n upd tly u
  have hu : Upkeep s u := h.of_same rfl rfl
  split
  · exact (hu.rebuildDone g _).ite hu
  · exact hu

theorem SameGrps.rebuiltStripe (hf : IgnoresWant f) (h : SameGrps f s t) (g m st : Nat) : SameGrps f s (t.rebuiltStripe g m st) := by
  unfold State.rebuiltStripe
  split
  · exact h
  extract_lets n upd tly u
  have hu : SameGrps f s u := h.of_grps rfl
  split
  · exact (hu.rebuildDone hf g _).ite hu
  · exact hu

theorem Upkeep.closeEntry (h : Upkeep s t) (e : TallyEnt) (x : Grp) : Upkeep s (t.closeEntry e x) := by
  unfold State.closeEntry
  extract_lets tly u
  have hu : Upkeep s u := h.of_same rfl rfl
  exact (hu.endDestage _).ite ((hu.rebuiltStripe _ _ _).ite ((hu.sweptStripe _ _).ite hu))

theorem SameGrps.closeEntry (hf : IgnoresWant f) (hf' : IgnoresSweep f) (h : SameGrps f s t) (e : TallyEnt) (x : Grp) : SameGrps f s (t.closeEntry e x) := by
  unfold State.closeEntry
  extract_lets tly u
  have hu : SameGrps f s u := h.of_grps rfl
  exact (hu.endDestage _).ite ((hu.rebuiltStripe hf _ _ _).ite ((hu.sweptStripe hf' _ _).ite hu))

theorem Upkeep.settleEntry (h : Upkeep s t) (id : Nat) : Upkeep s (t.settleEntry id) := by
  unfold State.settleEntry
  split
  · exact h
  split
  · exact h
  · exact (h.closeEntry _ _).ite h

theorem SameGrps.settleEntry (hf : IgnoresWant f) (hf' : IgnoresSweep f) (h : SameGrps f s t) (id : Nat) : SameGrps f s (t.settleEntry id) := by
  unfold State.settleEntry
  split
  · exact h
  split
  · exact h
  · exact (h.closeEntry hf hf' _ _).ite h

theorem Upkeep.settleGroup (h : Upkeep s t) (g : Nat) : Upkeep s (t.settleGroup g) := h.foldl _ (fun _ id h => (h.issueEntry id).settleEntry id)

theorem SameGrps.settleGroup (hf : IgnoresWant f) (hf' : IgnoresSweep f) (h : SameGrps f s t) (g : Nat) : SameGrps f s (t.settleGroup g) :=
  h.foldl _ (fun _ id h => (h.issueEntry id).settleEntry hf hf' id)

/-! ## Rebuilds that start, and dumps that are retired (R285, R541) -/

theorem Upkeep.startRebuild (h : Upkeep s t) (g : Nat) : Upkeep s (t.startRebuild g) := by
  unfold State.startRebuild
  split
  · exact h
  refine h.ite ?_
  split
  · exact h
  · refine Upkeep.raise ?_ 0x1D4 (by decide)
    exact h.of_same rfl rfl

theorem SameGrps.startRebuild (h : SameGrps f s t) (g : Nat) : SameGrps f s (t.startRebuild g) :=
  h.keeps (keeps_State_startRebuild g rfl (Keeps.refl false 8421411 t)) (by decide)

theorem Upkeep.retireDump (h : Upkeep s t) (d : Dump) : Upkeep s (t.retireDump d) := by
  refine Upkeep.foldl _ (fun u m h => ?_) (h.of_same rfl rfl)
  unfold State.vaultWrite
  split
  · exact h
  · exact h.memberCmd ..

theorem Upkeep.retireFallow (h : Upkeep s t) : Upkeep s t.retireFallow := by
  unfold State.retireFallow
  split
  · cases t.power == stActive && !t.pwr.hostBusy && !t.powerFailing
    · exact h
    · exact h.retireDump _
  · exact h

theorem SameGrps.retireFallow (h : SameGrps f s t) : SameGrps f s t.retireFallow := h.keeps (keeps_State_retireFallow rfl (Keeps.refl false 32613923 t)) (by decide)

end

end Sys2Proof.Machine
end

section
/-!
PROOFS. O28 (06_chute_yard.md, R198; 07_stripe_layouts.md, R251 to R253, R258): the ends of a Brand update and of a map commit.

A row sets the Brand or the map sequence; what follows it issues drive commands, answers hosts and starts the next update, and `SameGrps` and `Upkeep` say that none of it takes that back.
-/
namespace Sys2Proof.Machine

section
variable {s t u : State} {g : Nat} {x : Grp}

/-! ## BRAND_UPDATE_DONE -/

/-- The content of the update is in force, and its result is shown (R252, R253). -/
def State.brandTaken (s : State) (g : Nat) (x : Grp) (w : BrandUpd) : State :=
  let want := { x.want with clean := if w.content.clean then false else x.want.clean }
  ((s.setGrp g { x with
    brand := w.content, want := { want with seq := w.content.seq }, upd := none, serving := x.serving || (decide (w.content.seq = 1) && s.ready) }).set
      F.LAY_BRAND_STATUS.RESULT (if !w.failed.isEmpty then 2 else 1)).set F.LAY_BRAND_STATUS.GROUP g

theorem brandTaken_grp? (s : State) (g : Nat) (x : Grp) (w : BrandUpd) : ∃ y, (s.brandTaken g x w).grp? g = some y ∧ y.brand = w.content :=
  ⟨_, grp?_setGrp_same s g _, rfl⟩

/-- What the end of an update lets proceed (R253, R254). -/
def State.afterBrand (s : State) (g : Nat) : State := ((s.settleGroup g).retireFallow.startRebuild g).startBrand g

theorem Upkeep.afterBrand (h : Upkeep s t) (g : Nat) : Upkeep s (t.afterBrand g) := ((h.settleGroup g).retireFallow.startRebuild g).startBrand g

theorem sameBrands_afterBrand (s : State) (g : Nat) : SameGrps Grp.brand s (s.afterBrand g) :=
  (((SameGrps.refl Grp.brand s).settleGroup ignoresWant_brand ignoresSweep_brand g).retireFallow.startRebuild g).startBrand ignoresWant_brand g

theorem brandUpdateDone_row {w : BrandUpd} (hx : s.grp? g = some x) (hw : x.upd = some w) (htodo : w.todo = [])
    (hidle : ∀ c ∈ s.drv.cmds, ∀ m cp part, c.use ≠ .brand g m cp part) :
    exec (.brandUpdateDone g) s = .next (((((atStep s).brandTaken g x w).raise 0x1C4).afterBrand g).closeStep s.dev.curStep) := by
  have hx' : (atStep s).grp? g = some x := hx
  change execBrandUpdateDone g s = _
  unfold execBrandUpdateDone
  rw [inStep_eq]
  simp only [hx', hw]
  split
  · rename_i hbusy
    obtain hbusy | hbusy := hbusy
    · exact absurd htodo hbusy
    · obtain ⟨c, hc, huse⟩ := List.any_eq_true.mp hbusy
      split at huse
      · rename_i g' m cp part heq
        exact absurd (eq_of_beq huse ▸ heq) (hidle c hc m cp part)
      · cases huse
  · rfl

/-! ## MAP_COMMIT_DONE -/

/-- The image is on its members: the map sequence is one more, and MAP_MEMBERS is settled (R251). -/
def Grp.mapCommitted (x : Grp) : Grp := { x with mapSeq := x.mapSeq + 1, want := { x.want with mapMembers := x.want.mapHolders } }

/-- The namespaces of a group. -/
def State.nsOfGrp (s : State) (g : Nat) : List (Nat × NsEnt) := s.allNs.filter (fun n => n.2.group == g)

/-- The extents of `allocs` that the commit puts in force. -/
def State.freshExtents (s : State) (mine : List (Nat × NsEnt)) (allocs : List (Nat × Nat × ExtEnt)) : List (Nat × Nat × ExtEnt) :=
  allocs.filter (fun a => mine.any (fun n => n.2.map == a.1) && (s.extent a.1 a.2.1).state == 0 && a.2.2.state != 0 && a.2.2.groupBlock % extentSize == 0)

/-- They are in force, and staged blocks that waited for the map leave (R251, R258). -/
def State.mapImage (s : State) (mine : List (Nat × NsEnt)) (allocs : List (Nat × Nat × ExtEnt)) : State :=
  let s := (s.freshExtents mine allocs).foldl (fun (s : State) (a : Nat × Nat × ExtEnt) => s.setExtent a.1 a.2.1 a.2.2) s
  { s with cht := { s.cht with
    dir := mine.foldl (fun (d : List (Nat × Nat)) (n : Nat × NsEnt) =>
      if d.any (fun e => e.1 == n.2.map) then d else sparseInsert n.2.map ((n.2.size + extentSize - 1) / extentSize) d) s.cht.dir,
    staging := s.cht.staging.filter (fun (v : Ver) => !(v.mapWait && mine.any (fun n => n.1 == v.sub && n.2.nsid == v.nsid))) } }.dirtyLevel

/-- A command is to a namespace of `mine` and waits as `st`. -/
def Cmd.waitsFor (c : Cmd) (mine : List (Nat × NsEnt)) (st : CmdSt) : Bool := decide (c.st = st) && mine.any (fun n => n.1 == c.sub && n.2.nsid == c.cap.nsid)

/-- Commands that waited for the commit end, and those that waited for an allocation go on (R198). -/
def State.mapAnswers (s : State) (mine : List (Nat × NsEnt)) : State :=
  let s := (s.nvm.cmds.filter (fun c => c.waitsFor mine .mapping)).foldl (fun (s : State) (c : Cmd) => s.endCmd c stOk) s
  ((s.nvm.cmds.filter (fun c => c.waitsFor mine .allocating)).foldl (fun (s : State) (c : Cmd) => s.allocated c) s).ackWrites

/-- The state once the image is in force. -/
def State.mapTaken (s : State) (g : Nat) (x : Grp) (allocs : List (Nat × Nat × ExtEnt)) : State :=
  ((atStep s).setGrp g x.mapCommitted).mapImage (s.nsOfGrp g) allocs

theorem mapCommitDone_row (hx : s.grp? g = some x) (allocs : List (Nat × Nat × ExtEnt)) :
    exec (.mapCommitDone g allocs) s = .next ((((s.mapTaken g x allocs).mapAnswers (s.nsOfGrp g)).startBrand g).closeStep s.dev.curStep) := by
  have hx' : (atStep s).grp? g = some x := hx
  change execMapCommitDone g allocs s = _
  unfold execMapCommitDone
  rw [inStep_eq]
  simp only [hx']
  rfl

/-! ### The map sequence stays -/

section
variable {α : Type} {f : Grp → α}

theorem SameGrps.unlose (hf : IgnoresWant f) (h : SameGrps f s t) (g st j o : Nat) : SameGrps f s (t.unlose g st j o) := by
  unfold State.unlose
  split
  · exact h
  rename_i x hx
  refine SameGrps.ite ?_ h
  extract_lets l
  split
  extract_lets u nvm v
  have hu : SameGrps f s u := h.setGrp hx (hf x _ _)
  have hv : SameGrps f s v := hu.of_grps rfl
  exact (hv.raise 0x1D8).ite hv

theorem SameGrps.deallocBlock (hf : IgnoresWant f) (h : SameGrps f s t) (sub : Nat) (n : NsEnt) (lba : Nat) : SameGrps f s (t.deallocBlock sub n lba) := by
  unfold State.deallocBlock
  extract_lets u e x v cht tly
  have hu : SameGrps f s u := by
    unfold u
    split
    · exact h.unlose hf _ _ _ _
    · exact h
  have hv : SameGrps f s v := hu.ite (hu.of_grps rfl)
  exact hv.of_grps rfl

theorem SameGrps.endCmd (h : SameGrps f s t) (c : Cmd) (st : NvmeStatus) (dw0 : Nat) : SameGrps f s (t.endCmd c st dw0) :=
  h.keeps (keeps_State_endCmd c st dw0 rfl (Keeps.refl false 25245603 t)) (by decide)

theorem SameGrps.deallocate (hf : IgnoresWant f) (h : SameGrps f s t) (c : Cmd) (data : List Byte) : SameGrps f s (t.deallocate c data) := by
  unfold State.deallocate
  split
  · exact h.endCmd ..
  rename_i n _
  refine (h.endCmd ..).ite ((h.endCmd ..).ite ?_)
  unfold State.deallocRanges
  extract_lets blocks touched u v
  have hu : SameGrps f s u := h.foldl _ (fun _ l h => (h.deallocBlock hf c.sub n l).of_grps rfl)
  have hv : SameGrps f s v := hu.startBrand hf n.group
  exact SameGrps.ite (hv.of_grps rfl) (hv.endCmd ..)

/-- Data that are there go on to what they are for; those of Dataset Management alone bear on a group. -/
theorem SameGrps.dataHere (hf : IgnoresWant f) (h : SameGrps f s t) (c : Cmd) (data : List Byte) : SameGrps f s (t.dataHere c data) := by
  unfold State.dataHere
  refine SameGrps.ite ?fw ?_
  case fw => exact h.keeps (keeps_State_fwPiece _ data rfl (Keeps.refl false 25769891 t)) (by decide)
  refine SameGrps.ite (h.deallocate hf _ data) (SameGrps.ite ?compare (SameGrps.ite ?reserve ?write))
  case compare =>
    split
    · exact h.keeps (keeps_State_startRead _ _ rfl (Keeps.refl false 32585635 t)) (by decide)
    · exact h.endCmd ..
  case reserve => exact h.keeps (keeps_State_reserve _ data rfl (Keeps.refl false 25245603 t)) (by decide)
  case write =>
    split
    · refine SameGrps.endCmd (SameGrps.raise ?_ 0x183) ..
      exact h.of_grps rfl
    · exact h.keeps (keeps_State_writeHeldBlocks _ rfl (Keeps.refl false 8400931 t)) (by decide)

theorem SameGrps.pull (h : SameGrps f s t) (c : Cmd) : SameGrps f s (t.pull c) := h.keeps (keeps_State_pull c rfl (Keeps.refl false 25245603 t)) (by decide)

theorem SameGrps.allocated (hf : IgnoresWant f) (h : SameGrps f s t) (c : Cmd) : SameGrps f s (t.allocated c) := by
  unfold State.allocated
  split
  · exact h.endCmd ..
  refine h.ite (SameGrps.ite ?_ (SameGrps.ite (h.dataHere hf c _) ?_))
  · exact h.keeps (keeps_State_writeHeldBlocks c rfl (Keeps.refl false 8400931 t)) (by decide)
  · refine SameGrps.pull ?_ _
    exact h.of_grps rfl

theorem SameGrps.mapImage (h : SameGrps f s t) (mine : List (Nat × NsEnt)) (allocs : List (Nat × Nat × ExtEnt)) : SameGrps f s (t.mapImage mine allocs) := by
  unfold State.mapImage
  extract_lets u
  have hu : SameGrps f s u := h.foldl _ (fun _ _ h => h.of_grps rfl)
  exact SameGrps.dirtyLevel (hu.of_grps rfl)

theorem SameGrps.mapAnswers (hf : IgnoresWant f) (h : SameGrps f s t) (mine : List (Nat × NsEnt)) : SameGrps f s (t.mapAnswers mine) := by
  unfold State.mapAnswers
  extract_lets u
  have hu : SameGrps f s u := h.foldl _ (fun _ c h => h.endCmd c _ _)
  exact (hu.foldl _ (fun _ c h => h.allocated hf c)).keeps (keeps_State_ackWrites rfl (Keeps.refl false 25245603 _)) (by decide)

end

theorem mapCommitDone_advances (hx : s.grp? g = some x) (allocs : List (Nat × Nat × ExtEnt)) :
    ∃ t y, exec (.mapCommitDone g allocs) s = .next t ∧ t.grp? g = some y ∧ y.mapSeq = x.mapSeq + 1 := by
  have himage : SameGrps Grp.mapSeq ((atStep s).setGrp g x.mapCommitted) (s.mapTaken g x allocs) := by
    unfold State.mapTaken
    exact (SameGrps.refl _ _).mapImage _ _
  have hall := (himage.mapAnswers ignoresWant_mapSeq (s.nsOfGrp g)).startBrand ignoresWant_mapSeq g
  obtain ⟨y, hy, hseq⟩ := hall.exists_grp (grp?_setGrp_same (atStep s) g x.mapCommitted)
  exact ⟨_, y, mapCommitDone_row hx allocs, (closeStep_grp? ..).trans hy, hseq⟩

/-! ### Extents -/

theorem extent_of_cht (h : t.cht.ext = s.cht.ext) (m e : Nat) : t.extent m e = s.extent m e := by rw [State.extent, State.extent, h]

theorem extent_setExtent_same (s : State) (m e : Nat) (en : ExtEnt) : (s.setExtent m e en).extent m e = en := (sparseGet_put ..).trans (if_pos rfl)

/-- A command that needs no buffers takes none. -/
theorem launch_cht (s : State) (c : DrvCmd) (hc : c.viaYard = false) : (s.launch c).cht = s.cht := by
  unfold State.launch
  split
  · rfl
  split
  · rfl
  simp only [State.equip, hc]
  exact (keeps_State_queueDrv c rfl (Keeps.refl false 66560 s)).part .cht (by decide)

theorem formDrv_cht (s : State) (side : OutSide) (port nguid op lba nlb cls : Nat) (blocks : List Blk) (use : DrvUse) :
    (s.formDrv side port nguid op lba nlb cls false blocks use).cht = s.cht := by
  unfold State.formDrv
  split
  extract_lets c drv t1 t2 t3
  have h2 : t2.cht = s.cht := fold_cht ..
  have h3 : t3.cht = s.cht := by
    unfold t3
    split
    · exact h2
    · exact h2
  split
  · exact (launch_cht t3 c rfl).trans h3
  · exact h3

theorem brandIssue_cht (s : State) (g m : Nat) : (s.brandIssue g m).cht = s.cht := by
  unfold State.brandIssue
  split
  · rfl
  split
  · rfl
  split
  · rfl
  unfold State.memberCmd
  split
  · exact formDrv_cht ..
  · rfl

theorem startBrand_cht (s : State) (g : Nat) : (s.startBrand g).cht = s.cht := by
  unfold State.startBrand
  split
  · rfl
  split
  · rfl
  split
  · rfl
  extract_lets b ms upd u
  exact List.foldlRecOn (motive := fun (v : State) => v.cht = s.cht) ms _ rfl (fun v hv m _ => (brandIssue_cht v g m).trans hv)

theorem dirtyLevel_extents (s : State) : s.dirtyLevel.cht.ext = s.cht.ext := by
  unfold State.dirtyLevel
  split
  · split <;> rfl
  · split
    · rw [raise_cht]
    · rfl

theorem mapTaken_extents (s : State) (g : Nat) (x : Grp) (allocs : List (Nat × Nat × ExtEnt)) :
    (s.mapTaken g x allocs).cht.ext = (((s.freshExtents (s.nsOfGrp g) allocs).foldl (fun (s : State) (a : Nat × Nat × ExtEnt) => s.setExtent a.1 a.2.1 a.2.2) ((atStep s).setGrp g x.mapCommitted))).cht.ext :=
  dirtyLevel_extents _

theorem freshExtents_one {m e sub : Nat} {en : ExtEnt} {n : NsEnt} (hn : (sub, n) ∈ s.allNs) (hgroup : n.group = g) (hmap : n.map = m) (hfree : (s.extent m e).state = 0) (hused : en.state ≠ 0)
    (halign : en.groupBlock % extentSize = 0) : s.freshExtents (s.nsOfGrp g) [(m, e, en)] = [(m, e, en)] := by
  have hmine : (s.nsOfGrp g).any (fun k => k.2.map == m) = true :=
    List.any_eq_true.mpr ⟨(sub, n), List.mem_filter.mpr ⟨hn, by simpa using hgroup⟩, by simpa using hmap⟩
  simp [State.freshExtents, hmine, hfree, hused, halign]

/-! ### Commands that waited -/

theorem dirtyLevel_nvm (s : State) : s.dirtyLevel.nvm = s.nvm := (keeps_State_dirtyLevel rfl (Keeps.refl false 8396835 s)).part .nvm (by decide)

theorem way_dirtyLevel (s : State) : Way s s.dirtyLevel := by
  have hcalm : Calm s s.dirtyLevel := by
    have hset (b : Bool) : Calm s { s with cht := { s.cht with dirtyHigh := b } } := (Calm.refl s).of_same rfl rfl rfl
    exact Calm.ite ((hset false).ite (.refl s)) (Calm.ite ((hset true).raise 0x1A4) (.refl s))
  exact way_of_keeps hcalm (keeps_State_dirtyLevel rfl (Keeps.refl false 8396835 s)) (by decide) (by decide)

theorem mapTaken_nvm (s : State) (g : Nat) (x : Grp) (allocs : List (Nat × Nat × ExtEnt)) : (s.mapTaken g x allocs).nvm = s.nvm :=
  (dirtyLevel_nvm _).trans (List.foldlRecOn (motive := fun (v : State) => v.nvm = s.nvm) _ _ rfl (fun _ hv _ _ => hv))

theorem way_mapTaken (s : State) (g : Nat) (x : Grp) : Way s (s.mapTaken g x []) := by
  refine Way.trans ?_ (way_dirtyLevel _)
  exact way_of_flm ((Calm.refl s).trans ⟨fun _ _ _ _ => rfl, rfl, rfl⟩) rfl ⟨[], rfl⟩ rfl

theorem mapAnswers_of_nil (hcmds : s.nvm.cmds = []) (mine : List (Nat × NsEnt)) : s.mapAnswers mine = s := by
  simp [State.mapAnswers, State.ackWrites, hcmds]

variable {c : Cmd} {q : NvmQueue} {mine : List (Nat × NsEnt)}

/-- The one command there is waited for the commit: it ends, and nothing else goes on. -/
theorem mapAnswers_of_one (hcmds : s.nvm.cmds = [c]) (hq : s.nq? c.queue = some q) (hwaits : c.waitsFor mine .mapping = true) :
    s.mapAnswers mine = s.endCmd c stOk ∧ (s.mapAnswers mine).nvm.cmds = [] := by
  have hnone : (s.endCmd c stOk).nvm.cmds = [] := by
    rw [endCmd_cmds hq, hcmds]
    simp
  have heq : s.mapAnswers mine = s.endCmd c stOk := by
    simp [State.mapAnswers, State.ackWrites, hcmds, hwaits, hnone]
  exact ⟨heq, heq ▸ hnone⟩

/-- An answer stands where messages are as they were and outputs are only added. -/
theorem answered_mono {cid dw0 : Nat} {st : NvmeStatus} (h : Answered s t q cid st dw0) (hflm : u.flm = t.flm) (hout : ∃ l, u.out = l ++ t.out) : Answered s u q cid st dw0 := by
  obtain ⟨cqe, hdw0, hcid, hst, hsent⟩ := h
  refine ⟨cqe, hdw0, hcid, hst, ?_⟩
  split
  · rename_i htr
    rw [htr] at hsent
    rwa [hflm]
  · rename_i htr
    rw [htr] at hsent
    obtain ⟨lp, cls, n, ho⟩ := hsent
    exact ⟨lp, cls, n, emitted_mono ho ⟨[], rfl⟩ hout⟩

theorem startBrand_out (s : State) (g : Nat) : ∃ l, (s.startBrand g).out = l ++ s.out := (keeps_State_startBrand g rfl (Keeps.refl false 32597539 s)).out

/-- The next Brand update takes no answer back. -/
theorem answered_startBrand {cid dw0 n : Nat} {st : NvmeStatus} (h : Answered s (t.closeStep n) q cid st dw0) (g : Nat) : Answered s ((t.startBrand g).closeStep n) q cid st dw0 :=
  answered_mono (u := (t.startBrand g).closeStep n) h (startBrand_flm t g) (startBrand_out t g)

theorem closeStep_nvm (s : State) (n : Nat) : (s.closeStep n).nvm = s.nvm := rfl

theorem startBrand_nvm (s : State) (g : Nat) : (s.startBrand g).nvm = s.nvm := (keeps_State_startBrand g rfl (Keeps.refl false 32597539 s)).part .nvm (by decide)

end

/-- Settles O28: `SameGrps` carries the Brand in force and the map sequence over what follows, `Upkeep` the event, and the drive commands of the next update touch neither extents nor answers. -/
theorem brandAndMapCommits : Obligations.BrandAndMapCommits := by
  unfold Obligations.BrandAndMapCommits
  refine ⟨?brand, fun g x s hx => ⟨mapCommitDone_advances hx [], ?extent, ?answer⟩⟩
  case brand =>
    intro g x w s hx hw htodo hidle
    obtain ⟨y, hy, hcontent⟩ := brandTaken_grp? (atStep s) g x w
    obtain ⟨z, hz, hbrand⟩ := (((SameGrps.refl Grp.brand _).raise 0x1C4).trans (sameBrands_afterBrand _ g)).exists_grp hy
    have hkeep := ((Upkeep.refl (((atStep s).brandTaken g x w).raise 0x1C4)).afterBrand g).closeStep s.dev.curStep
    have hbit := hkeep.raised (by decide)
    exact ⟨_, z, brandUpdateDone_row hx hw htodo hidle, (closeStep_grp? ..).trans hz, hbrand.trans hcontent, hbit⟩
  case extent =>
    intro m e en sub n hn hgroup hmap hfree hused halign hcmds
    have hcmds' : (s.mapTaken g x [(m, e, en)]).nvm.cmds = [] := by rw [mapTaken_nvm, hcmds]
    have hext : ((s.mapTaken g x [(m, e, en)]).startBrand g).extent m e = en := by
      rw [extent_of_cht (congrArg Cht.ext (startBrand_cht ..)), extent_of_cht (mapTaken_extents ..), freshExtents_one hn hgroup hmap hfree hused halign]
      exact extent_setExtent_same ..
    refine ⟨_, mapCommitDone_row hx _, ?_⟩
    rw [mapAnswers_of_nil hcmds']
    exact hext
  case answer =>
    intro n q c hcmds hn hgroup hnsid hst hq hs
    have hwaits : c.waitsFor (s.nsOfGrp g) .mapping = true := by
      have hmine : (s.nsOfGrp g).any (fun k => k.1 == c.sub && k.2.nsid == c.cap.nsid) = true :=
        List.any_eq_true.mpr ⟨(c.sub, n), List.mem_filter.mpr ⟨hn, by simpa using hgroup⟩, by simp [hnsid]⟩
      simp [Cmd.waitsFor, hst, hmine]
    have hq' : (s.mapTaken g x []).nq? c.queue = some q := by rwa [State.nq?, mapTaken_nvm]
    obtain ⟨hend, hleft⟩ := mapAnswers_of_one (mine := s.nsOfGrp g) (by rw [mapTaken_nvm, hcmds]) hq' hwaits
    refine ⟨_, mapCommitDone_row hx [], ?_, ?_⟩
    · rw [closeStep_nvm, startBrand_nvm, hleft]
    · rw [hend]
      exact answered_startBrand (answered_endCmd (way_mapTaken s g x) hq' hs (by decide) 0 s.dev.curStep) g

end Sys2Proof.Machine
end

section
/-!
PROOFS. O29 in its clauses of timeouts, pauses and Patrol (08_tally_rebuild.md, R253, R288, R295, R296; 12_drive_ports.md, R411, R413).
-/
namespace Sys2Proof.Machine

section
variable {s t u : State} {g m n : Nat} {x : Grp} {c : DrvCmd}

/-! ## A member write that is issued again (R411) -/

theorem queueDrv_drv (s : State) (c : DrvCmd) : (s.queueDrv c).drv = (s.setDrv { c with st := .queued }).drv := enqueue_drv ..

/-- A command that gets what it needs goes to its queue. -/
theorem equip_drv (s : State) (c : DrvCmd) (hok : (s.equip c).2 = true) : ∃ tag, (s.equip c).1.drv = (s.setDrv { c with tag := tag, st := .queued }).drv := by
  unfold State.equip at hok ⊢
  split
  · exact ⟨c.tag, queueDrv_drv ..⟩
  rename_i hyard
  rw [if_neg hyard] at hok
  split
  · rename_i hnone
    simp [hnone] at hok
  rename_i v bufs hv
  have hdrv : v.drv = s.drv := (KeepsO.of_eq hv (keeps_State_yardTake 6 c.cls c.nlb rfl (Keeps.refl false 25174051 s))).part .drv (by decide)
  split
  · rename_i hnone
    simp [hv, hnone] at hok
  rename_i i _
  extract_lets d t1 t2
  have h2 : t2.drv = s.drv :=
    List.foldlRecOn (motive := fun (w : State) => w.drv = s.drv) (bufs.zip c.blocks) _ hdrv
      (fun w hw x _ => ((keeps_State_fillBuf x.1 x.2 rfl (Keeps.refl false 7340032 w)).part .drv (by decide)).trans hw)
  refine ⟨some i, ?_⟩
  rw [queueDrv_drv]
  simp only [State.setDrv, h2]

theorem yardRefused_drv (s : State) : s.yardRefused.drv = s.drv := (keeps_State_yardRefused rfl (Keeps.refl false 8388643 s)).part .drv (by decide)

/-- What becomes of a command that is launched: it is at its queue, held, or waits for buffers. -/
theorem launch_drv (s : State) (c : DrvCmd) : ∃ tag st, (s.launch c).drv = (s.setDrv { c with tag := tag, st := st }).drv := by
  unfold State.launch
  split
  · exact ⟨c.tag, .queued, rfl⟩
  split
  · exact ⟨c.tag, .held, rfl⟩
  have he := equip_drv s c
  generalize s.equip c = e at he ⊢
  obtain ⟨v, ok⟩ := e
  cases ok
  · exact ⟨c.tag, .buffers, yardRefused_drv _⟩
  · obtain ⟨tag, h⟩ := he rfl
    exact ⟨tag, .queued, h⟩

/-- A command among those to drives is still among them once it is launched, and so are the drive ports. -/
theorem launch_keeps_cmd (hc : c ∈ s.drv.cmds) :
    (s.launch c).drv.ports = s.drv.ports ∧ ∃ d ∈ (s.launch c).drv.cmds, d.use = c.use ∧ d.issues = c.issues ∧ d.lba = c.lba ∧ d.blocks = c.blocks := by
  obtain ⟨tag, st, h⟩ := launch_drv s c
  rw [h]
  exact ⟨rfl, { c with tag := tag, st := st }, List.mem_map.mpr ⟨c, hc, if_pos rfl⟩, rfl, rfl, rfl, rfl⟩

theorem reissue_again (s : State) (c : DrvCmd) :
    (s.reissue c).drv.ports = s.drv.ports ∧ ∃ d ∈ (s.reissue c).drv.cmds, d.use = c.use ∧ d.issues = c.issues + 1 ∧ d.lba = c.lba ∧ d.blocks = c.blocks := by
  unfold State.reissue
  extract_lets t1 drv
  have h1 : t1.drv = s.drv := (keeps_State_unequip c true rfl (Keeps.refl false 73728 s)).part .drv (by decide)
  split
  extract_lets n t2 t3 t4
  have h3 : t3.drv = t2.drv := fold_drv ..
  have h4 : t4.drv = t2.drv := by
    unfold t4
    split <;> exact h3
  have hports : t4.drv.ports = s.drv.ports := by rw [h4, ← h1]
  have hn : n ∈ t4.drv.cmds := h4 ▸ List.mem_append_right _ (List.mem_singleton_self n)
  split
  · obtain ⟨hp, hd⟩ := launch_keeps_cmd hn
    exact ⟨hp.trans hports, hd⟩
  · exact ⟨hports, n, hn, rfl, rfl, rfl, rfl⟩

/-- Fewer than three timeouts of the drive of a port within 10 s: this one is counted, and the drive is not reset. -/
theorem countTimeouts_below (hport : c.port < 12) (hside : c.sideB = s.sideB) (hfew : (recentTimes s.nowUs (s.port c.port).timeouts).length < 2) :
    (s.countTimeouts c 1).drv.cmds = s.drv.cmds ∧ (s.countTimeouts c 1).get F.DP_CMD_TIMEOUT.COUNT c.port = min (s.get F.DP_CMD_TIMEOUT.COUNT c.port + 1) 4294967295 := by
  unfold State.countTimeouts
  extract_lets p u ts
  have hu : u = (s.bumpBy F.DP_CMD_TIMEOUT.COUNT 1 c.port).timeoutEvent c.port := if_pos hside
  have hkeep : Upkeep (s.bumpBy F.DP_CMD_TIMEOUT.COUNT 1 c.port) u := hu ▸ (Upkeep.refl _).raiseLimited _ (by omega)
  have hdrv : u.drv = s.drv := by
    rw [hu]
    exact (keeps_State_timeoutEvent c.port rfl (Keeps.refl false 8388643 _)).part .drv (by decide)
  have hnow : u.nowUs = s.nowUs := hkeep.now
  have hts : ¬ 3 ≤ ts.length := by
    unfold ts
    rw [hnow, State.port, hdrv, List.length_append, List.length_replicate]
    change ¬ 3 ≤ (recentTimes s.nowUs (s.port c.port).timeouts).length + 1
    omega
  rw [if_neg hts]
  refine ⟨(congrArg Drv.cmds hdrv : u.drv.cmds = s.drv.cmds), ?_⟩
  have hcount : (s.bumpBy F.DP_CMD_TIMEOUT.COUNT 1 c.port).get F.DP_CMD_TIMEOUT.COUNT c.port = min (s.get F.DP_CMD_TIMEOUT.COUNT c.port + 1) 4294967295 :=
    (get_set_same ..).trans (Nat.mod_eq_of_lt (by simp only [Fld.width, F.DP_CMD_TIMEOUT.COUNT]; omega))
  exact (hkeep.timeouts (by omega)).trans hcount

/-- DRIVE_CMD_TIMEOUT of a member write. -/
theorem driveCmdTimeout_row {cid e w : Nat} (hc : s.drv? cid = some c) (huse : c.use = .tally e w) (hqueue : c.queue ≠ 0) (hheld : c.st ≠ .held)
    (hdue : c.formedUs + s.ioTimeoutUs c.port ≤ s.nowUs) :
    exec (.driveCmdTimeout cid) s = .next ((((atStep s).reissue c).countTimeouts c 1).closeStep s.dev.curStep) := by
  have hc' : (atStep s).drv? cid = some c := hc
  have hdue' : ¬ (c.queue = 0 ∨ c.st = .held ∨ (atStep s).nowUs < c.formedUs + (atStep s).ioTimeoutUs c.port) := by
    rintro (h | h | h)
    · exact hqueue h
    · exact hheld h
    · exact absurd hdue (Nat.not_le.mpr h)
  change execDriveCmdTimeout cid s = _
  unfold execDriveCmdTimeout
  rw [inStep_eq]
  simp only [hc', if_neg hdue', huse]

theorem driveCmdTimeout_counts {cid e w : Nat} (hc : s.drv? cid = some c) (huse : c.use = .tally e w) (hqueue : c.queue ≠ 0) (hheld : c.st ≠ .held)
    (hdue : c.formedUs + s.ioTimeoutUs c.port ≤ s.nowUs) (hport : c.port < 12) (hside : c.sideB = s.sideB) (hfew : (recentTimes s.nowUs (s.port c.port).timeouts).length < 2) :
    ∃ t, exec (.driveCmdTimeout cid) s = .next t ∧ (∃ d ∈ t.drv.cmds, d.use = c.use ∧ d.issues = c.issues + 1 ∧ d.lba = c.lba ∧ d.blocks = c.blocks) ∧
      t.get F.DP_CMD_TIMEOUT.COUNT c.port = min (s.get F.DP_CMD_TIMEOUT.COUNT c.port + 1) 4294967295 := by
  obtain ⟨hports, hagain⟩ := reissue_again (atStep s) c
  have hkeep : Upkeep (atStep s) ((atStep s).reissue c) := (Upkeep.refl _).reissue c
  have hfew' : (recentTimes ((atStep s).reissue c).nowUs (((atStep s).reissue c).port c.port).timeouts).length < 2 := by
    rw [hkeep.now, State.port, hports]
    exact hfew
  obtain ⟨hcmds, hcount⟩ := countTimeouts_below hport (hside.trans hkeep.sideB.symm) hfew'
  refine ⟨_, driveCmdTimeout_row hc huse hqueue hheld hdue, ?_, ?_⟩
  · change ∃ d ∈ (((atStep s).reissue c).countTimeouts c 1).drv.cmds, _
    rwa [hcmds]
  · rw [hkeep.timeouts (by omega)] at hcount
    exact hcount

/-! ## A member that fails (R253, R413) -/

theorem mState_setMember (b : Brand) (m : Nat) (e : MemberEnt) (hm : b.mState m ≠ mUnused) : (b.setMember m e).mState m = e.state := by
  have hlt : m < b.memberTab.length := by
    by_contra hge
    exact hm (by rw [Brand.mState, Brand.member, List.getD_eq_default _ _ (Nat.le_of_not_lt hge)]; rfl)
  rw [Brand.mState, Brand.member, Brand.setMember, List.getD_eq_getElem?_getD, List.getElem?_set_self hlt]
  rfl

/-- The members of the Brand that a group wants. -/
def Grp.wantMembers (x : Grp) : List MemberEnt := x.want.memberTab

theorem nextBrand_memberTab (x : Grp) : x.nextBrand.memberTab = x.want.memberTab := by
  unfold Grp.nextBrand
  extract_lets src b
  split <;> rfl

/-- An update that starts leaves the members as they are wanted. -/
theorem SameGrps.startBrand_members (h : SameGrps Grp.wantMembers s t) (g : Nat) : SameGrps Grp.wantMembers s (t.startBrand g) := by
  unfold State.startBrand
  split
  · exact h
  rename_i x hx
  exact h.ite (SameGrps.ite (h.of_grps rfl) (SameGrps.foldl _ (fun _ m h => h.brandIssue g m) (h.setGrp hx (nextBrand_memberTab x))))

theorem Upkeep.missingEvent (h : Upkeep s t) (n : Nat) : Upkeep s (t.missingEvent n) :=
  (h.raise 0x1C1 (by decide)).ite ((h.raise 0x1C2 (by decide)).ite ((h.raise 0x1C3 (by decide)).ite h))

theorem Upkeep.rebuildsMeet (h : Upkeep s t) (g m : Nat) (b : Brand) : Upkeep s (t.rebuildsMeet g m b) := by
  unfold State.rebuildsMeet
  extract_lets gone hit crit paused tly u v
  have hu : Upkeep s u := h.of_same rfl rfl
  have hv : Upkeep s v := (hu.raise 0x1D5 (by decide)).ite hu
  exact (hv.raise 0x1DE (by decide)).ite hv

/-- A member in use that is not SPARED is FAILED once it fails, with MEMBER_FAILED. -/
theorem failMember_fails (hx : s.grp? g = some x) (hst : x.want.mState m = mNormal ∨ x.want.mState m = mRebuilding) :
    (∃ y, (s.failMember g m).grp? g = some y ∧ y.want.mState m = mFailed) ∧ ∃ u : State, Upkeep (u.raise 0x1C0) (s.failMember g m) := by
  have hused : x.want.mState m ≠ mUnused := by
    rintro h
    obtain h' | h' := hst <;> exact absurd (h.symm.trans h') (by decide)
  have hlive : ¬ (x.want.mState m = mUnused ∨ x.want.mState m = mFailed) := by
    rintro (h | h)
    · exact hused h
    · obtain h' | h' := hst <;> exact absurd (h.symm.trans h') (by decide)
  have hspared : ¬ x.want.mState m = mSpared := by
    rintro h
    obtain h' | h' := hst <;> exact absurd (h.symm.trans h') (by decide)
  unfold State.failMember
  split
  · rename_i hnone
    exact absurd (hx.symm.trans hnone) (by simp)
  rename_i x' hx'
  obtain rfl : x' = x := Option.some.inj (hx'.symm.trans hx)
  extract_lets b st e order b1 log listed ok b2 port upd u1 u2 u3 u4 u5 u6 old r1 r2 tly u7
  rw [if_neg hlive, if_neg hspared]
  have htab : b2.memberTab = b1.memberTab := by
    unfold b2
    split <;> rfl
  have hfailed : b2.mState m = mFailed := (congrArg (fun l : List MemberEnt => (l.getD m memberEnt0).state) htab).trans (mState_setMember b m _ hused)
  have h1 : u1.grp? g = some _ := grp?_setGrp_same ..
  have h2 : SameGrps Grp.wantMembers u1 u2 := by
    clear_value port
    cases port with
    | none => exact SameGrps.refl _ _
    | some p => exact (SameGrps.refl _ _).keeps (keeps_State_dropMemberCmds p rfl (Keeps.refl false 74752 u1)) (by decide)
  have h4 : SameGrps Grp.wantMembers u1 u4 := SameGrps.ite (h2.raise _) ((h2.raise _).raise _)
  have h5 : SameGrps Grp.wantMembers u1 u5 := h4.keeps (keeps_State_missingEvent _ rfl (Keeps.refl false 8388643 _)) (by decide)
  have h6 : SameGrps Grp.wantMembers u1 u6 := h5.keeps (keeps_State_rebuildsMeet _ _ _ rfl (Keeps.refl false 8421411 _)) (by decide)
  have h7 : SameGrps Grp.wantMembers u1 u7 := h6.of_grps rfl
  have k4 : Upkeep u3 u4 := Upkeep.ite (Upkeep.refl _) ((Upkeep.refl _).raise 0x1C7 (by decide))
  have k7 : Upkeep u3 u7 := ((k4.missingEvent _).rebuildsMeet _ _ _).of_same rfl rfl
  obtain ⟨y, hy, hmem⟩ := (h7.startBrand_members g).vaultChanged.exists_grp h1
  refine ⟨⟨y, hy, ?_⟩, u2, (k7.startBrand g).vaultChanged⟩
  exact (congrArg (fun l : List MemberEnt => (l.getD m memberEnt0).state) hmem).trans hfailed

/-- MEMBER_UNREACHABLE_TIMEOUT of a member whose cable is out for as long as the port waits. -/
theorem memberUnreachableTimeout_row {since : Nat} (hx : s.grp? g = some x) (hgone : x.gone.find? (fun y => y.1 == m) = some (m, since)) (hponr : s.ponr = false)
    (hdue : since + s.cfg 0x0030 ((x.portOf m).getD 0) 20 4 10 * 1000000 ≤ s.nowUs) :
    exec (.memberUnreachableTimeout g m) s = .next (((atStep s).failMember g m).closeStep s.dev.curStep) := by
  have hx' : (atStep s).grp? g = some x := hx
  have hdue' : since + (atStep s).cfg 0x0030 ((x.portOf m).getD 0) 20 4 10 * 1000000 ≤ (atStep s).nowUs ∧ !(atStep s).ponr := ⟨hdue, congrArg not hponr⟩
  change execMemberUnreachableTimeout g m s = _
  unfold execMemberUnreachableTimeout
  rw [inStep_eq]
  simp only [hx', hgone, if_pos hdue']

theorem memberUnreachableTimeout_fails {since : Nat} (hx : s.grp? g = some x) (hgone : x.gone.find? (fun y => y.1 == m) = some (m, since)) (hponr : s.ponr = false)
    (hdue : since + s.cfg 0x0030 ((x.portOf m).getD 0) 20 4 10 * 1000000 ≤ s.nowUs) (hst : x.want.mState m = mNormal ∨ x.want.mState m = mRebuilding) :
    ∃ t y, exec (.memberUnreachableTimeout g m) s = .next t ∧ t.grp? g = some y ∧ y.want.mState m = mFailed ∧ bitOf (t.get F.EVT_STATUS.STATUS 14) 0 = true := by
  have hx' : (atStep s).grp? g = some x := hx
  obtain ⟨⟨y, hy, hfailed⟩, u, hkeep⟩ := failMember_fails hx' hst
  have hbit := (hkeep.closeStep s.dev.curStep).raised (by decide)
  exact ⟨_, y, memberUnreachableTimeout_row hx hgone hponr hdue, (closeStep_grp? ..).trans hy, hfailed, hbit⟩

/-! ## SKD_CTL.PAUSE (R288) -/

theorem pauseRebuilds_pause (s : State) (on : Bool) : (s.pauseRebuilds on).flag F.SKD_CTL.PAUSE = on := by
  have hset : (s.setFlag F.SKD_CTL.PAUSE on).flag F.SKD_CTL.PAUSE = on := flag_setFlag_same _ _ _ _ _ rfl
  unfold State.pauseRebuilds
  extract_lets u live any tly v
  split
  · split
    · exact (congrArg (· == 1) (get_raise v 0x1DE F.SKD_CTL.PAUSE 0 0 (by decide))).trans hset
    · exact hset
  · exact hset

/-- While SKD_CTL.PAUSE holds them, rebuilds are done or held. -/
theorem pauseRebuilds_holds (s : State) : ∀ r ∈ (s.pauseRebuilds true).tly.rebuilds, r.state = 4 ∨ r.state = 5 := by
  unfold State.pauseRebuilds
  extract_lets u live any tly v
  rw [if_pos rfl]
  have hv : ∀ r ∈ v.tly.rebuilds, r.state = 4 ∨ r.state = 5 := by
    intro r hr
    obtain ⟨r', _, rfl⟩ := List.mem_map.mp hr
    split
    · exact .inr rfl
    · rename_i hlive
      simpa [live, or_iff_not_imp_left] using hlive
  split
  · rwa [raise_tly]
  · exact hv

/-! ## Stripes of a Patrol pass (R295, R296) -/

/-- PATROL_STRIPE of a stripe without allocated extents. -/
theorem patrolStripe_row {reads : List ColRead} (hx : s.grp? g = some x) (hcons : s.consumes = true) (hrun : s.tly.stopped = false) (hdown : x.down = false)
    (hpower : s.power = stActive) (hcur : x.patrolCursor < x.brand.stripes) (hfree : s.stripeUsed g x.brand x.patrolCursor = false) :
    let x' : Grp := { x with patrolCursor := x.patrolCursor + 1 }
    let v := ((atStep s).set F.PTL_STATUS.GROUP g).setGrp g x'
    exec (.patrolStripe g reads) s = .next ((if x.brand.stripes ≤ x'.patrolCursor ∧ x'.patrolSkipped = [] then v.patrolPass g x' else v).closeStep s.dev.curStep) := by
  have hx' : (atStep s).grp? g = some x := hx
  have hgo : ¬ ((!(atStep s).consumes) ∨ (atStep s).tly.stopped ∨ x.down ∨ (atStep s).power ≠ stActive) := by
    rw [show (atStep s).consumes = true from hcons, show (atStep s).tly.stopped = false from hrun, hdown, show (atStep s).power = stActive from hpower]
    simp
  have hfree' : (!((atStep s).set F.PTL_STATUS.GROUP g).stripeUsed g x.brand x.patrolCursor) = true := congrArg not hfree
  intro x' v
  change execPatrolStripe g reads s = _
  unfold execPatrolStripe
  rw [inStep_eq]
  simp only [hx', if_neg hgo, if_pos hcur, if_pos hfree', grp?_setGrp_same]
  rfl

theorem patrolStripe_moves {reads : List ColRead} (hx : s.grp? g = some x) (hcons : s.consumes = true) (hrun : s.tly.stopped = false) (hdown : x.down = false)
    (hpower : s.power = stActive) (hcur : x.patrolCursor < x.brand.stripes) (hfree : s.stripeUsed g x.brand x.patrolCursor = false) :
    ∃ t y, exec (.patrolStripe g reads) s = .next t ∧ t.grp? g = some y ∧
      (x.patrolCursor + 1 < x.brand.stripes → y.patrolCursor = x.patrolCursor + 1 ∧ y.patrolPasses = x.patrolPasses) ∧
      (x.patrolCursor + 1 = x.brand.stripes → x.patrolSkipped = [] →
        y.patrolCursor = 0 ∧ y.patrolPasses = x.patrolPasses + 1 ∧ bitOf (t.get F.EVT_STATUS.STATUS 14) 25 = true) := by
  have hrow := patrolStripe_row (reads := reads) hx hcons hrun hdown hpower hcur hfree
  extract_lets x' v at hrow
  by_cases hlast : x.brand.stripes ≤ x'.patrolCursor ∧ x'.patrolSkipped = []
  · rw [if_pos hlast] at hrow
    have hgrp : (v.patrolPass g x').grp? g = some _ := (grp?_of_grps (raise_grps ..) g).trans (grp?_setGrp_same v g _)
    exact ⟨_, _, hrow, (closeStep_grp? ..).trans hgrp, fun h => absurd hlast.1 (Nat.not_le.mpr h), fun _ _ => ⟨rfl, rfl, raise_bit _ 0x1D9⟩⟩
  · rw [if_neg hlast] at hrow
    have hgrp : v.grp? g = some x' := grp?_setGrp_same ..
    exact ⟨_, x', hrow, (closeStep_grp? ..).trans hgrp, fun _ => ⟨rfl, rfl⟩, fun h hskip => absurd ⟨h.ge, hskip⟩ hlast⟩

theorem patrolLate_reports (hx : s.grp? g = some x) (hlate : x.patrolLate = false) (hdue : x.patrolUs + s.patrolUs ≤ s.nowUs) :
    ∃ t y, exec (.patrolLate g) s = .next t ∧ t.grp? g = some y ∧ y.patrolLate = true ∧ bitOf (t.get F.EVT_STATUS.STATUS 14) 27 = true := by
  have hx' : (atStep s).grp? g = some x := hx
  have hdue' : ¬ x.patrolLate = true ∧ x.patrolUs + (atStep s).patrolUs ≤ (atStep s).nowUs := ⟨by simp [hlate], hdue⟩
  have hrow : exec (.patrolLate g) s = .next ((((atStep s).setGrp g { x with patrolLate := true }).raise 0x1DB).closeStep s.dev.curStep) := by
    change execPatrolLate g s = _
    unfold execPatrolLate
    rw [inStep_eq]
    simp only [hx', if_pos hdue']
  have hgrp : (((atStep s).setGrp g { x with patrolLate := true }).raise 0x1DB).grp? g = some _ := (grp?_of_grps (raise_grps ..) g).trans (grp?_setGrp_same ..)
  exact ⟨_, _, hrow, (closeStep_grp? ..).trans hgrp, rfl, raise_bit _ 0x1DB⟩

end

end Sys2Proof.Machine
end

section
/-!
PROOFS. O29 in its clauses of stripes under Tally entries: repairs, the sweep and the Skidder (08_tally_rebuild.md, R264, R283 to R287).
-/
namespace Sys2Proof.Machine

section
variable {s t u : State} {g m st n : Nat} {x : Grp}

/-! ## A stripe that is checked (R283, R284) -/

/-- What a check of a stripe keeps: what recording lost blocks and counting reconstructions keep. -/
theorem checkStripe_induct {P : State → Prop} (off blocks cause : Nat) (reads : List ColRead) (h0 : P s)
    (hrec : ∀ u o n cause columns, P u → P (u.recordLost g st o n cause columns)) (hcount : ∀ u gone, P u → P (u.countRecon gone)) :
    P (s.checkStripe g st off blocks cause reads).1 := by
  unfold State.checkStripe
  split
  · exact h0
  refine List.foldlRecOn (motive := fun (acc : State × List TallyWrite × Nat × Nat) => P acc.1) _ _ h0 (fun acc hacc i _ => ?_)
  extract_lets o a
  split
  extract_lets c v1 v2 v3
  have h1 : P v1 := List.foldlRecOn (motive := P) _ _ hacc (fun u hu j _ => hrec u _ _ _ _ hu)
  have h2 : P v2 := by
    unfold v2
    split
    · exact h1
    · exact hrec v1 _ _ _ _ h1
  change P v3
  unfold v3
  split
  · exact h2
  · exact List.foldlRecOn (motive := P) _ _ h2 (fun u hu _ _ => hcount u _ hu)

theorem checkStripe_none (off blocks cause : Nat) (reads : List ColRead) (hx : s.grp? g = none) : (s.checkStripe g st off blocks cause reads).2.1 = [] := by
  unfold State.checkStripe
  rw [hx]

theorem checkStripe_tly (s : State) (g st off blocks cause : Nat) (reads : List ColRead) : (s.checkStripe g st off blocks cause reads).1.tly = s.tly :=
  checkStripe_induct (P := fun u => u.tly = s.tly) off blocks cause reads rfl
    (fun u _ _ _ _ hu => ((keeps_State_recordLost _ _ _ _ _ _ rfl (Keeps.refl false 8409123 u)).part .tly (by decide)).trans hu)
    (fun u _ hu => ((keeps_State_countRecon _ rfl (Keeps.refl false 1 u)).part .tly (by decide)).trans hu)

/-- Lost blocks change no NVMe command. -/
theorem recordLost_cmds (s : State) (g st off blocks cause columns : Nat) : (s.recordLost g st off blocks cause columns).nvm.cmds = s.nvm.cmds := by
  unfold State.recordLost
  split
  · rfl
  extract_lets fresh e cleared
  split
  · rfl
  split
  extract_lets u1 nvm u2 u3 u4
  have h3 : u3.nvm = u2.nvm := by
    unfold u3
    split
    · exact raise_nvm ..
    · rfl
  have h4 : u4.nvm = u3.nvm := by
    unfold u4
    split
    · exact raise_nvm ..
    split
    · exact raise_nvm ..
    · rfl
  rw [raise_nvm, h4, h3]
  rfl

theorem checkStripe_cmds (s : State) (g st off blocks cause : Nat) (reads : List ColRead) : (s.checkStripe g st off blocks cause reads).1.nvm.cmds = s.nvm.cmds :=
  checkStripe_induct (P := fun u => u.nvm.cmds = s.nvm.cmds) off blocks cause reads rfl (fun u _ _ _ _ hu => (recordLost_cmds ..).trans hu)
    (fun u _ hu => (congrArg Nvm.cmds ((keeps_State_countRecon _ rfl (Keeps.refl false 1 u)).part .nvm (by decide))).trans hu)

section
variable {α : Type} {f : Grp → α}

theorem SameGrps.recordLost (hf : IgnoresWant f) (h : SameGrps f s t) (g st off blocks cause columns : Nat) : SameGrps f s (t.recordLost g st off blocks cause columns) := by
  unfold State.recordLost
  split
  · exact h
  rename_i x hx
  extract_lets fresh e cleared
  split
  · exact h
  split
  extract_lets u1 nvm u2 u3 u4
  have h2 : SameGrps f s u2 := (h.setGrp hx (hf x _ _)).of_grps rfl
  have h3 : SameGrps f s u3 := (h2.raise _).ite h2
  have h4 : SameGrps f s u4 := (h3.raise _).ite ((h3.raise _).ite h3)
  exact h4.raise _

theorem SameGrps.countRecon (h : SameGrps f s t) (gone : Nat) : SameGrps f s (t.countRecon gone) :=
  h.keeps (keeps_State_countRecon gone rfl (Keeps.refl false 1 t)) (by decide)

theorem SameGrps.checkStripe (hf : IgnoresWant f) (h : SameGrps f s t) (g st off blocks cause : Nat) (reads : List ColRead) :
    SameGrps f s (t.checkStripe g st off blocks cause reads).1 :=
  checkStripe_induct (P := SameGrps f s) off blocks cause reads h (fun _ _ _ _ _ hu => hu.recordLost hf ..) (fun _ _ hu => hu.countRecon _)

end

/-! ## Tally entries that are opened (R261, R264) -/

/-- An entry of a group that is there is opened with its writes. -/
theorem openEntry_opens (kind off blocks member cls : Nat) (side : OutSide) (writes : List TallyWrite) (hx : s.grp? g = some x) :
    ∃ e ∈ (s.openEntry kind g st off blocks member cls side writes).tly.entries, e.group = g ∧ e.stripe = st ∧ e.kind = kind ∧ e.member = member := by
  unfold State.openEntry
  split
  · rename_i hnone
    exact absurd (hx.symm.trans hnone) (by simp)
  extract_lets e tly u1 u2
  have h2 : u2.tly = u1.tly := by
    unfold u2
    split
    · exact raise_tly ..
    · rfl
  have h3 : (u2.issueEntry e.id).tly = u1.tly := ((keeps_State_issueEntry _ rfl (Keeps.refl false 32581155 u2)).part .tly (by decide)).trans h2
  exact ⟨e, h3 ▸ List.mem_append_right _ (List.mem_singleton_self e), rfl, rfl, rfl, rfl⟩

theorem openEntry_waits (s : State) (kind g st off blocks member cls : Nat) (side : OutSide) (writes : List TallyWrite) :
    (s.openEntry kind g st off blocks member cls side writes).tly.waits = s.tly.waits := by
  unfold State.openEntry
  split
  · rfl
  extract_lets e tly u1 u2
  have h2 : u2.tly = u1.tly := by
    unfold u2
    split
    · exact raise_tly ..
    · rfl
  rw [(keeps_State_issueEntry _ rfl (Keeps.refl false 32581155 u2)).part .tly (by decide), h2]

theorem startBrand_tly (s : State) (g : Nat) : (s.startBrand g).tly = s.tly := (keeps_State_startBrand g rfl (Keeps.refl false 32597539 s)).part .tly (by decide)

/-! ## A repair that gets its entry (R264, R590) -/

/-- What Patrol counts and reports of a repair. -/
def State.repairCounted (s : State) (g : Nat) (patrol : Bool) (ws : List TallyWrite) (fixed par : Nat) : State :=
  if patrol then
    let s := s.bumpBy F.PTL_BLOCK_REPAIR.COUNT fixed
    let s := if 0 < par then s.bump F.PTL_PARITY_REPAIR.COUNT else s
    if ws.isEmpty then s else s.patrolRepair g
  else s

theorem keeps_repairCounted (s : State) (g : Nat) (patrol : Bool) (ws : List TallyWrite) (fixed par : Nat) :
    Keeps false 8388643 s (s.repairCounted g patrol ws fixed par) := by
  unfold State.repairCounted
  split
  · extract_lets v1 v2
    have h1 : Keeps false 8388643 s v1 := keeps_State_bumpBy _ _ _ _ rfl (Keeps.refl ..)
    have h2 : Keeps false 8388643 s v2 := by
      unfold v2
      split
      · exact keeps_State_bump _ _ _ rfl h1
      · exact h1
    split
    · exact h2
    · exact keeps_State_patrolRepair g rfl h2
  · exact Keeps.refl ..

/-- A repair of a stripe that has room (R264). -/
theorem repairAt_of_room (off blocks : Nat) (patrol : Bool) (reads : List ColRead) (hroom : s.tallyRoom g st = true) :
    s.repairAt g st off blocks patrol reads =
      let c := s.checkStripe g st off blocks 1 reads
      let v := (c.1.repairCounted g patrol c.2.1 c.2.2.1 c.2.2.2).startBrand g
      if c.2.1.isEmpty then v else v.openEntry 4 g st off blocks 0 (if patrol then 1 else v.skidderClass false) .maint c.2.1 := by
  unfold State.repairAt
  rw [if_neg (by simp [hroom])]
  rfl

/-- A repair of a stripe that has room writes what its check asks for, under an entry of KIND 4. -/
theorem repairAt_opens {off blocks : Nat} {patrol : Bool} {reads : List ColRead} (hroom : s.tallyRoom g st = true) :
    (s.repairAt g st off blocks patrol reads).tly.waits = s.tly.waits ∧
      ((s.checkStripe g st off blocks 1 reads).2.1 ≠ [] → ∃ e ∈ (s.repairAt g st off blocks patrol reads).tly.entries, e.group = g ∧ e.stripe = st ∧ e.kind = 4) := by
  rw [repairAt_of_room off blocks patrol reads hroom]
  extract_lets c v
  have hcount := keeps_repairCounted c.1 g patrol c.2.1 c.2.2.1 c.2.2.2
  have htly : v.tly = s.tly := (startBrand_tly ..).trans ((hcount.part .tly (by decide)).trans (checkStripe_tly ..))
  have hgrps : SameGrps (fun _ => ()) s v := (((SameGrps.refl _ s).checkStripe (fun _ _ _ => rfl) ..).keeps hcount (by decide)).startBrand (fun _ _ _ => rfl) g
  by_cases hws : c.2.1 = []
  · rw [if_pos (by simpa using hws)]
    exact ⟨congrArg Tly.waits htly, fun h => absurd hws h⟩
  · rw [if_neg (by simpa using hws)]
    refine ⟨(openEntry_waits ..).trans (congrArg Tly.waits htly), fun _ => ?_⟩
    obtain ⟨x, hx⟩ := Option.ne_none_iff_exists'.mp (fun h => hws (checkStripe_none off blocks 1 reads h))
    obtain ⟨y, hy, -⟩ := hgrps.exists_grp hx
    obtain ⟨e, he, hg, hst, hkind, -⟩ := openEntry_opens (st := st) 4 off blocks 0 (if patrol then 1 else v.skidderClass false) .maint c.2.1 hy
    exact ⟨e, he, hg, hst, hkind⟩

/-- TALLY_ENTRY_FREE for a repair that has waited longest. -/
theorem tallyEntryFree_row {w : TallyWait} {reads : List ColRead} (hw : s.tly.waits.find? (fun y => s.tallyRoom y.group y.stripe) = some w) (hkind : w.kind = 4) :
    exec (.tallyEntryFree w.group w.stripe reads) s =
      .next ((({ atStep s with tly := { s.tly with waits := s.tly.waits.erase w } } : State).repairAt w.group w.stripe w.off w.blocks (w.member == 1) reads).closeStep s.dev.curStep) := by
  have hw' : (atStep s).tly.waits.find? (fun y => (atStep s).tallyRoom y.group y.stripe) = some w := hw
  change execTallyEntryFree w.group w.stripe reads s = _
  unfold execTallyEntryFree
  rw [inStep_eq]
  simp only [hw']
  rw [if_neg (by simp), if_neg (by omega), if_neg (by omega), if_pos hkind]
  rfl

theorem tallyEntryFree_repairs {w : TallyWait} {reads : List ColRead} (hw : s.tly.waits.find? (fun y => s.tallyRoom y.group y.stripe) = some w) (hkind : w.kind = 4) :
    let u : State := { atStep s with tly := { s.tly with waits := s.tly.waits.erase w } }
    ∃ t, exec (.tallyEntryFree w.group w.stripe reads) s = .next t ∧ t.tly.waits = s.tly.waits.erase w ∧
      ((u.checkStripe w.group w.stripe w.off w.blocks 1 reads).2.1 ≠ [] → ∃ e ∈ t.tly.entries, e.group = w.group ∧ e.stripe = w.stripe ∧ e.kind = 4) := by
  intro u
  have hfound : s.tallyRoom w.group w.stripe = true := List.find?_some (p := fun (y : TallyWait) => s.tallyRoom y.group y.stripe) hw
  have hroom : u.tallyRoom w.group w.stripe = true := hfound
  obtain ⟨hwaits, hopens⟩ := repairAt_opens (off := w.off) (blocks := w.blocks) (patrol := w.member == 1) (reads := reads) hroom
  exact ⟨_, tallyEntryFree_row hw hkind, hwaits, hopens⟩

/-! ## A stripe of the sweep in which nothing has to be written (R283) -/

/-- The Brand of a group, and how far the group is swept. -/
def Grp.sweepView (x : Grp) : Brand × Verify × Nat × List Nat := (x.brand, x.verify, x.swept, x.sweptToo)

theorem ignoresWant_sweepView : IgnoresWant Grp.sweepView := fun _ _ _ => rfl

theorem le_sweepPast (fuel c : Nat) (l : List Nat) : c ≤ sweepPast fuel c l := by
  induction fuel generalizing c with
  | zero => exact Nat.le_refl c
  | succ fuel ih =>
    unfold sweepPast
    split
    · exact Nat.le_of_succ_le (ih (c + 1))
    · exact Nat.le_refl c

theorem lt_sweepPast (fuel c : Nat) (l : List Nat) : c < sweepPast (fuel + 1) c (c :: l) := by
  unfold sweepPast
  rw [if_pos (by simp)]
  exact le_sweepPast fuel (c + 1) _

theorem sweepPast_only (c : Nat) : sweepPast 2 c [c] = c + 1 := by simp [sweepPast]

/-- The stripe at which the sweep of a group stands is swept: the sweep moves on behind it, or ends. -/
theorem sweptStripe_at (hx : s.grp? g = some x) (hverify : x.verify = .sweeping) (hat : x.swept = st) :
    ∃ y, (s.sweptStripe g st).grp? g = some y ∧
      (st + 1 < x.brand.stripes → x.sweptToo = [] → y.verify = .sweeping ∧ y.swept = st + 1) ∧
      (x.brand.stripes ≤ st + 1 → y.verify = .normal ∧ bitOf ((s.sweptStripe g st).get F.EVT_STATUS.STATUS 14) 18 = true) := by
  have hsweeping : ¬ x.verify = .normal := by simp [hverify]
  subst hat
  have hpast := lt_sweepPast (x.sweptToo.length + 1) x.swept x.sweptToo
  unfold State.sweptStripe
  split
  · rename_i hnone
    exact absurd (hx.symm.trans hnone) (by simp)
  rename_i x' hx'
  obtain rfl : x' = x := Option.some.inj (hx'.symm.trans hx)
  rw [if_neg hsweeping]
  extract_lets l c y
  have hc : x'.swept < c := hpast
  split
  · rename_i hend
    refine ⟨_, (grp?_of_grps (raise_grps ..) g).trans (grp?_setGrp_same ..), fun hmore htoo => ?_, fun _ => ⟨rfl, raise_bit _ 0x1D2⟩⟩
    have honly : c = x'.swept + 1 := by
      unfold c l
      rw [htoo]
      exact sweepPast_only _
    exact absurd (honly ▸ hend) (Nat.not_le.mpr hmore)
  · rename_i hmore
    refine ⟨y, grp?_setGrp_same .., fun _ htoo => ⟨hverify, ?_⟩, fun hend => absurd (hend.trans hc) hmore⟩
    change c = x'.swept + 1
    unfold c l
    rw [htoo]
    exact sweepPast_only _

/-- A whole stripe in which the sweep finds nothing to write is swept. -/
theorem sweepAt_of_clean {reads : List ColRead} (hx : s.grp? g = some x) (hroom : s.tallyRoom g st = true) (hclean : (s.checkStripe g st 0 x.brand.c 2 reads).2.1 = []) :
    s.sweepAt g st 0 x.brand.c reads = (((s.checkStripe g st 0 x.brand.c 2 reads).1.bumpBy F.SWP_REPAIR.COUNT 0).startBrand g).sweptStripe g st := by
  unfold State.sweepAt
  split
  · rename_i hnone
    exact absurd (hx.symm.trans hnone) (by simp)
  rename_i x' hx'
  obtain rfl : x' = x := Option.some.inj (hx'.symm.trans hx)
  rw [if_neg (by simp [hroom])]
  generalize s.checkStripe g st 0 x'.brand.c 2 reads = c at hclean ⊢
  obtain ⟨v, ws, fixed, par⟩ := c
  obtain rfl : ws = [] := hclean
  simp

theorem resumeSwept_of_idle (h : s.nvm.cmds = []) : s.resumeSwept = s := by
  unfold State.resumeSwept
  rw [h]
  rfl

theorem sweptStripe_nvm (s : State) (g st : Nat) : (s.sweptStripe g st).nvm = s.nvm := (keeps_State_sweptStripe g st rfl (Keeps.refl false 8405027 s)).part .nvm (by decide)

/-- The sweep moves on, or ends, once it finds nothing to write in the stripe at which it stands. -/
theorem sweepAt_moves {reads : List ColRead} (hx : s.grp? g = some x) (hverify : x.verify = .sweeping) (hat : x.swept = st) (hroom : s.tallyRoom g st = true) (hidle : s.nvm.cmds = [])
    (hclean : (s.checkStripe g st 0 x.brand.c 2 reads).2.1 = []) :
    ∃ y, (s.sweepAt g st 0 x.brand.c reads).resumeSwept.grp? g = some y ∧
      (st + 1 < x.brand.stripes → x.sweptToo = [] → y.verify = .sweeping ∧ y.swept = st + 1) ∧
      (x.brand.stripes ≤ st + 1 → y.verify = .normal ∧ bitOf ((s.sweepAt g st 0 x.brand.c reads).resumeSwept.get F.EVT_STATUS.STATUS 14) 18 = true) := by
  rw [sweepAt_of_clean hx hroom hclean]
  have hcheck := (SameGrps.refl Grp.sweepView s).checkStripe ignoresWant_sweepView g st 0 x.brand.c 2 reads
  have hcmds := checkStripe_cmds s g st 0 x.brand.c 2 reads
  generalize (s.checkStripe g st 0 x.brand.c 2 reads).1 = v at hcheck hcmds ⊢
  have hbump : SameGrps Grp.sweepView s (v.bumpBy F.SWP_REPAIR.COUNT 0) := hcheck.of_grps rfl
  obtain ⟨y, hy, hsame⟩ := (hbump.startBrand ignoresWant_sweepView g).exists_grp hx
  obtain ⟨hbrand, hsweeping, hcur, hlist⟩ : y.brand = x.brand ∧ y.verify = x.verify ∧ y.swept = x.swept ∧ y.sweptToo = x.sweptToo := by
    simpa [Grp.sweepView] using hsame
  have hswept := sweptStripe_at hy (hsweeping.trans hverify) (hcur.trans hat)
  rw [resumeSwept_of_idle (by rw [sweptStripe_nvm, startBrand_nvm, bumpBy_nvm, hcmds, hidle])]
  rwa [hbrand, hlist] at hswept

/-- SWEEP_STRIPE of the stripe at which the sweep stands. -/
theorem sweepStripe_row {reads : List ColRead} (hx : s.grp? g = some x) (hcons : s.consumes = true) (hrun : s.tly.stopped = false) (hoff : x.offline = false)
    (hverify : x.verify ≠ .normal) (hat : x.swept = st) (htoo : st ∉ x.sweptToo) :
    exec (.sweepStripe g st reads) s = .next (((((atStep s).setGrp g { x with verify := .sweeping }).sweepAt g st 0 x.brand.c reads).resumeSwept).closeStep s.dev.curStep) := by
  have hx' : (atStep s).grp? g = some x := hx
  have hunswept : x.unswept st = true := by simp [Grp.unswept, hverify, hat, htoo]
  have hgo : (atStep s).consumes = true ∧ ¬ (atStep s).tly.stopped = true ∧ ¬ x.offline = true ∧ x.unswept st = true ∧ (st = x.swept ∨ (atStep s).sweepWanted g st = true) :=
    ⟨hcons, fun h => absurd (hrun.symm.trans h) (by simp), by simp [hoff], hunswept, .inl hat.symm⟩
  change execSweepStripe g st reads s = _
  unfold execSweepStripe
  rw [inStep_eq]
  simp only [hx', if_pos hgo]

theorem sweepStripe_moves {reads : List ColRead} (hx : s.grp? g = some x) (hcons : s.consumes = true) (hrun : s.tly.stopped = false) (hoff : x.offline = false)
    (hverify : x.verify ≠ .normal) (hat : x.swept = st) (htoo : st ∉ x.sweptToo) (hroom : s.tallyRoom g st = true) (hidle : s.nvm.cmds = [])
    (hclean : ((atStep (s.setGrp g { x with verify := .sweeping })).checkStripe g st 0 x.brand.c 2 reads).2.1 = []) :
    ∃ t y, exec (.sweepStripe g st reads) s = .next t ∧ t.grp? g = some y ∧
      (st + 1 < x.brand.stripes → x.sweptToo = [] → y.verify = .sweeping ∧ y.swept = st + 1) ∧
      (x.brand.stripes ≤ st + 1 → y.verify = .normal ∧ bitOf (t.get F.EVT_STATUS.STATUS 14) 18 = true) := by
  have hx' : ((atStep s).setGrp g { x with verify := .sweeping }).grp? g = some { x with verify := .sweeping } := grp?_setGrp_same ..
  obtain ⟨y, hy, hmoves⟩ := sweepAt_moves (reads := reads) hx' rfl hat hroom hidle hclean
  exact ⟨_, y, sweepStripe_row hx hcons hrun hoff hverify hat htoo, (closeStep_grp? ..).trans hy, hmoves⟩

end

end Sys2Proof.Machine
end

section
/-!
PROOFS. O29 in its clause of the Skidder (08_tally_rebuild.md, R284 to R287), and O29.
-/
namespace Sys2Proof.Machine

section
variable {s t u : State} {g m st n : Nat} {x : Grp} {r r' : Rebuild}

/-! ## A rebuild that takes a stripe (R285) -/

/-- A group with a rebuild that runs starts no other one. -/
theorem startRebuild_of_running (hr : r ∈ s.tly.rebuilds) (hg : r.group = g) (hrun : r.running = true) : s.startRebuild g = s := by
  unfold State.startRebuild
  split
  · rfl
  extract_lets ready
  exact if_pos (.inl (List.any_eq_true.mpr ⟨r, hr, by simp [hg, hrun]⟩))

/-- Taking a stripe moves a rebuild's cursors alone. -/
theorem take_same (r : Rebuild) (b : Brand) : (r.take b).2.group = r.group ∧ (r.take b).2.member = r.member ∧ (r.take b).2.done = r.done ∧ (r.take b).2.copyback = r.copyback := by
  unfold Rebuild.take
  extract_lets c c' n n'
  split
  · exact ⟨rfl, rfl, rfl, rfl⟩
  · split <;> exact ⟨rfl, rfl, rfl, rfl⟩

theorem is_iff {r : Rebuild} : r.is g m = true ↔ r.group = g ∧ r.member = m := by simp [Rebuild.is]

/-- SKIDDER_STRIPE of a rebuild that takes a stripe. -/
theorem skidderStripe_row {crit : Bool} {reads : List ColRead} (hx : s.grp? g = some x) (hr : s.tly.rebuilds.find? (fun r => r.is g m && r.running) = some r)
    (hcons : s.consumes = true) (hstop : s.tly.stopped = false) (hdown : x.down = false) (hfew : r.inflight.length < 256) (htake : r.take x.brand = (some (st, crit), r')) :
    let q : Rebuild := { r' with inflight := r'.inflight ++ [(st, crit)] }
    let u := (atStep s).setRebuild q
    exec (.skidderStripe g m reads) s = .next ((if u.stripeUsed g x.brand st then u.rebuildStripe q st reads else u.rebuiltStripe g m st).closeStep s.dev.curStep) := by
  obtain ⟨his, hrun⟩ : r.is g m = true ∧ r.running = true := by simpa using List.find?_some hr
  have hstart : (atStep s).startRebuild g = atStep s := startRebuild_of_running (s := atStep s) (List.mem_of_find?_eq_some hr) (is_iff.mp his).1 hrun
  have hx' : (atStep s).grp? g = some x := hx
  have hr' : (atStep s).tly.rebuilds.find? (fun r => r.is g m && r.running) = some r := hr
  have hgo : ¬ ((!(atStep s).consumes) = true ∨ (atStep s).tly.stopped = true ∨ x.down = true ∨ 256 ≤ r.inflight.length) := by
    rw [show (atStep s).consumes = true from hcons, show (atStep s).tly.stopped = false from hstop, hdown]
    simpa using hfew
  intro q u
  change execSkidderStripe g m reads s = _
  unfold execSkidderStripe
  rw [inStep_eq]
  simp only [hstart, hr', hx', if_neg hgo, htake]
  rfl

/-- The rebuild that took a stripe stands among the rebuilds. -/
theorem mem_setRebuild (hr : r ∈ s.tly.rebuilds) (hg : r.group = r'.group) (hm : r.member = r'.member) : r' ∈ (s.setRebuild r').tly.rebuilds :=
  List.mem_map.mpr ⟨r, hr, if_pos (is_iff.mpr ⟨hg, hm⟩)⟩

/-! ## A stripe that is rebuilt (R284, R285) -/

/-- `moved` and `leaveCritical` say nothing of whose rebuild it is and of its stripes that are done. -/
theorem leaveCritical_same (r : Rebuild) (n : Nat) :
    (r.moved.leaveCritical n).group = r.group ∧ (r.moved.leaveCritical n).member = r.member ∧ (r.moved.leaveCritical n).done = r.done := by
  unfold Rebuild.leaveCritical
  split <;> exact ⟨rfl, rfl, rfl⟩

/-- A rebuild that ends leaves every rebuild its count of stripes. -/
theorem rebuildDone_keeps_done {q : Rebuild} (hq : q ∈ s.tly.rebuilds) (hqm : q.is g m = true) :
    ∃ q' ∈ (s.rebuildDone g r).tly.rebuilds, q'.is g m = true ∧ q'.done = q.done := by
  unfold State.rebuildDone
  split
  · exact ⟨q, hq, hqm, rfl⟩
  rename_i x hx
  extract_lets b e spared src bx tly u
  have htly : (((u.setGrp g { x with want := bx }).raise 0x1D6).startBrand g).vaultChanged.tly = u.tly := by
    rw [(keeps_State_vaultChanged rfl (Keeps.refl false 8388643 _)).part .tly (by decide), startBrand_tly, raise_tly]
    rfl
  rw [htly]
  refine ⟨if q.is g r.member then { q with state := 4 } else q, List.mem_map.mpr ⟨q, hq, rfl⟩, ?_, ?_⟩ <;> split
  · exact hqm
  · exact hqm
  · rfl
  · rfl

/-- A stripe that is rebuilt counts for its rebuild. -/
theorem rebuiltStripe_counts {q : Rebuild} (hx : s.grp? g = some x) (hq : q ∈ s.tly.rebuilds) (hqm : q.is g m = true) :
    ∃ q' ∈ (s.rebuiltStripe g m st).tly.rebuilds, q'.is g m = true ∧ q'.done = q.done + 1 := by
  unfold State.rebuiltStripe
  split
  · rename_i hnone
    exact absurd (hx.symm.trans hnone) (by simp)
  extract_lets n upd tly u
  obtain ⟨hgroup, hmember, hdone⟩ : (upd q).group = q.group ∧ (upd q).member = q.member ∧ (upd q).done = q.done + 1 := leaveCritical_same ..
  have hu : upd q ∈ u.tly.rebuilds := List.mem_map.mpr ⟨q, hq, if_pos hqm⟩
  have hum : (upd q).is g m = true := is_iff.mpr ⟨hgroup.trans (is_iff.mp hqm).1, hmember.trans (is_iff.mp hqm).2⟩
  split
  · rename_i r _
    split
    · obtain ⟨q', hq', his, hd⟩ := rebuildDone_keeps_done (r := r) hu hum
      exact ⟨q', hq', his, hd.trans hdone⟩
    · exact ⟨upd q, hu, hum, hdone⟩
  · exact ⟨upd q, hu, hum, hdone⟩

/-! ## A stripe whose offsets can all be completed (R285 to R287) -/

theorem skidAt_fixes_of_complete {b : Brand} {j o : Nat} {tag : Nat → Nat} {lostHere : Bool} {a : Offset} (hfail : a.failing = []) (hfull : (a.complete b.k).isSome = true) :
    (skidAt b st j o tag lostHere a).fixes = [] := by
  unfold skidAt
  extract_lets block
  split
  · simp [hfail]
  · rename_i hnone
    simp [hnone] at hfull

/-- A stripe with nothing to fix is rebuilt under an entry of KIND 3. -/
theorem rebuildStripe_opens {j : Nat} {reads : List ColRead} (hx : s.grp? r.group = some x) (hcol : x.brand.colOf st r.member = some j) (hback : r.copyback = false)
    (hroom : s.tallyRoom r.group st = true)
    (hfull : ∀ o < x.brand.c, (offsetOf x.brand.w st o o (reads.set j .missing)).failing = [] ∧ ((offsetOf x.brand.w st o o (reads.set j .missing)).complete x.brand.k).isSome = true) :
    ∃ e ∈ (s.rebuildStripe r st reads).tly.entries, e.group = r.group ∧ e.stripe = st ∧ e.kind = 3 ∧ e.member = r.member := by
  unfold State.rebuildStripe
  split
  · rename_i hnone
    exact absurd (hx.symm.trans hnone) (by simp)
  rename_i x' hx'
  obtain rfl : x' = x := Option.some.inj (hx'.symm.trans hx)
  extract_lets b kind cls
  split
  · rename_i hnone
    exact absurd (hcol.symm.trans hnone) (by simp)
  rename_i j' hj'
  obtain rfl : j' = j := Option.some.inj (hj'.symm.trans hcol)
  extract_lets reads' each fixes nlost u1 u2 u3 u4 tly u5 u6
  rw [if_neg (by simp [hroom])]
  have hreads : reads' = reads.set j' .missing := if_neg (by simp [hback])
  have hfixes : fixes = [] := by
    refine List.flatMap_eq_nil_iff.mpr (fun e he => ?_)
    obtain ⟨o, ho, rfl⟩ := List.mem_map.mp he
    obtain ⟨hfail, hsome⟩ := hfull o (List.mem_range.mp ho)
    rw [← hreads] at hfail hsome
    have hnone (tag : Nat → Nat) (lostHere : Bool) : (skidAt b st j' o tag lostHere (offsetOf b.w st o o reads')).fixes = [] := skidAt_fixes_of_complete hfail hsome
    simp only [hnone, List.filter_nil, singleWrites, List.map_nil]
  have h1 : SameGrps (fun _ => ()) s u1 := by
    refine SameGrps.foldl each (fun t e h => ?_) (SameGrps.refl _ s)
    exact h.ite (h.recordLost (fun _ _ _ => rfl) ..)
  have h3 : SameGrps (fun _ => ()) s u3 := h1.of_grps rfl
  have h5 : SameGrps (fun _ => ()) s u5 := SameGrps.of_grps (t := u4) (h3.ite (h3.startBrand (fun _ _ _ => rfl) _)) rfl
  have h6 : SameGrps (fun _ => ()) s u6 := SameGrps.foldl each (fun _ e h => h.countRecon _) h5
  obtain ⟨y, hy, -⟩ := h6.exists_grp hx
  have hkind : kind = 3 := if_neg (by simp [hback])
  rw [if_neg (by simp [hfixes]), hkind]
  exact openEntry_opens _ _ _ _ _ _ _ hy

/-! ## SKIDDER_STRIPE -/

section
variable {crit : Bool} {reads : List ColRead} (hx : s.grp? g = some x) (hr : s.tly.rebuilds.find? (fun r => r.is g m && r.running) = some r)
  (hcons : s.consumes = true) (hstop : s.tly.stopped = false) (hdown : x.down = false) (hfew : r.inflight.length < 256) (htake : r.take x.brand = (some (st, crit), r'))
include hx hr hcons hstop hdown hfew htake

/-- A stripe without allocated extents counts as rebuilt. -/
theorem skidderStripe_counts (hfree : s.stripeUsed g x.brand st = false) :
    ∃ t, exec (.skidderStripe g m reads) s = .next t ∧ ∃ q ∈ t.tly.rebuilds, q.is g m = true ∧ q.done = r.done + 1 := by
  have hrow := skidderStripe_row (reads := reads) hx hr hcons hstop hdown hfew htake
  extract_lets q u at hrow
  obtain ⟨his, -⟩ : r.is g m = true ∧ r.running = true := by simpa using List.find?_some hr
  obtain ⟨hgroup, hmember, hdone, -⟩ := take_same r x.brand
  rw [htake] at hgroup hmember hdone
  have hq : q ∈ u.tly.rebuilds := mem_setRebuild (s := atStep s) (List.mem_of_find?_eq_some hr) hgroup.symm hmember.symm
  have hqm : q.is g m = true := is_iff.mpr ⟨hgroup.trans (is_iff.mp his).1, hmember.trans (is_iff.mp his).2⟩
  have hfree' : ¬ u.stripeUsed g x.brand st = true := fun h => absurd (hfree.symm.trans h) (by simp)
  obtain ⟨q', hq', his', hcount⟩ := rebuiltStripe_counts (s := u) (st := st) hx hq hqm
  rw [if_neg hfree'] at hrow
  exact ⟨_, hrow, q', hq', his', hcount.trans (congrArg (· + 1) hdone)⟩

/-- A stripe of which every offset can be completed is rebuilt under an entry of KIND 3. -/
theorem skidderStripe_opens {j : Nat} (hused : s.stripeUsed g x.brand st = true) (hcol : x.brand.colOf st m = some j) (hback : r.copyback = false)
    (hroom : s.tallyRoom g st = true)
    (hfull : ∀ o < x.brand.c, (offsetOf x.brand.w st o o (reads.set j .missing)).failing = [] ∧ ((offsetOf x.brand.w st o o (reads.set j .missing)).complete x.brand.k).isSome = true) :
    ∃ t, exec (.skidderStripe g m reads) s = .next t ∧ ∃ e ∈ t.tly.entries, e.group = g ∧ e.stripe = st ∧ e.kind = 3 ∧ e.member = m := by
  have hrow := skidderStripe_row (reads := reads) hx hr hcons hstop hdown hfew htake
  extract_lets q u at hrow
  obtain ⟨his, -⟩ : r.is g m = true ∧ r.running = true := by simpa using List.find?_some hr
  obtain ⟨hgroup, hmember, -, hcopy⟩ := take_same r x.brand
  rw [htake] at hgroup hmember hcopy
  have hqg : q.group = g := hgroup.trans (is_iff.mp his).1
  have hqm : q.member = m := hmember.trans (is_iff.mp his).2
  have hused' : u.stripeUsed g x.brand st = true := hused
  rw [if_pos hused'] at hrow
  have hopen := rebuildStripe_opens (s := u) (r := q) (st := st) (x := x) (j := j) (reads := reads) (by rw [hqg]; exact hx) (by rw [hqm]; exact hcol) (hcopy.trans hback)
    (by rw [hqg]; exact hroom) hfull
  rw [hqg, hqm] at hopen
  exact ⟨_, hrow, hopen⟩

end

end

/-! ## O29 -/

/-- Settles O29: each command's row is worked out once (`driveCmdTimeout_row` to `skidderStripe_row`); what follows a write to a group changes Brands and counters alone (`SameGrps`, `Upkeep`). -/
theorem memberTimeoutsAndSweeps : Obligations.MemberTimeoutsAndSweeps := by
  unfold Obligations.MemberTimeoutsAndSweeps
  refine ⟨?timeout, ?gone, ?free, ?sweep, ?skidder, ?pause, ?patrol, ?late⟩
  case timeout =>
    intro cid e w c s hc huse hqueue hheld hdue hport hside hfew
    exact driveCmdTimeout_counts hc huse hqueue hheld hdue hport hside hfew
  case gone =>
    intro g m since x s hx hgone hponr hdue hst
    exact memberUnreachableTimeout_fails hx hgone hponr hdue hst
  case free =>
    intro w reads s hw hkind
    exact tallyEntryFree_repairs hw hkind
  case sweep =>
    intro g st reads x s hx hcons hrun hoff hverify hat htoo hroom hidle hclean
    exact sweepStripe_moves hx hcons hrun hoff hverify hat htoo hroom hidle hclean
  case skidder =>
    intro g m st crit r r' x reads s hx hr _ hcons hstop hdown hfew htake
    exact ⟨fun hfree => skidderStripe_counts hx hr hcons hstop hdown hfew htake hfree,
      fun j hused hcol hback hroom hfull => skidderStripe_opens hx hr hcons hstop hdown hfew htake hused hcol hback hroom hfull⟩
  case pause =>
    intro src on s hg ha
    refine ⟨_, busWrite_atOnce hg ha _ _, pauseRebuilds_pause s on, fun hon => ?_⟩
    rw [hon]
    exact pauseRebuilds_holds s
  case patrol =>
    intro g reads x s hx hcons hrun hdown hpower hcur hfree
    exact patrolStripe_moves hx hcons hrun hdown hpower hcur hfree
  case late =>
    intro g x s hx hlate hdue
    exact patrolLate_reports hx hlate hdue

end Sys2Proof.Machine
end

section
/-!
PROOFS. What the work of a dump, of Brands and of rebuilds leaves (08_tally_rebuild.md): the fields that a dump and recovery report in, and the events of word 14, which are those of this chapter.
-/
namespace Sys2Proof.Machine

/-! ## Fields that no such work writes -/

/-- DUMP_SEQ, LAST_DUMP and BOOT_STEP. -/
def vaultWatch : List Nat := [F.VLT_DUMP_SEQ.SEQ.key 0 0, F.VLT_STATUS.LAST_DUMP.key 0 0, F.PWR_STATE.BOOT_STEP.key 0 0]

/-- The count of forwarded commands stands at none of these addresses, and not at the word of the events, whatever the port. -/
theorem proxy_not_vaultWatch (n : Nat) : F.DP_PROXY.COUNT.key n 0 ∉ F.EVT_STATUS.STATUS.key 14 0 :: vaultWatch := by
  simp only [vaultWatch, List.mem_cons, List.not_mem_nil, or_false, not_or, Fld.key, Fld.at, F.DP_PROXY.COUNT, F.EVT_STATUS.STATUS, F.VLT_DUMP_SEQ.SEQ, F.VLT_STATUS.LAST_DUMP,
    F.PWR_STATE.BOOT_STEP]
  omega

theorem status_not_vaultWatch {n : Nat} (hn : n < 64) : F.EVT_STATUS.STATUS.key n 0 ∉ vaultWatch := by
  simp only [vaultWatch, List.mem_cons, List.not_mem_nil, or_false, not_or, Fld.key, Fld.at, F.EVT_STATUS.STATUS, F.VLT_DUMP_SEQ.SEQ, F.VLT_STATUS.LAST_DUMP, F.PWR_STATE.BOOT_STEP]
  omega

/-- The watched fields read as before, and no status bit of the events 0x1C0 to 0x1DF is cleared. -/
structure Stands (s t : State) : Prop where
  reads : ∀ (g : Fld) (m n : Nat), g.key m n ∈ vaultWatch → t.get g m n = s.get g m n
  events : ∀ i < 32, bitOf (s.get F.EVT_STATUS.STATUS 14) i = true → bitOf (t.get F.EVT_STATUS.STATUS 14) i = true

section
variable {s t u : State}

theorem Stands.refl (s : State) : Stands s s := ⟨fun _ _ _ _ => rfl, fun _ _ h => h⟩

theorem Stands.trans (h : Stands s t) (h' : Stands t u) : Stands s u :=
  ⟨fun g m n hk => (h'.reads g m n hk).trans (h.reads g m n hk), fun i hi hb => h'.events i hi (h.events i hi hb)⟩

theorem Stands.dumpSeq (h : Stands s t) : t.get F.VLT_DUMP_SEQ.SEQ = s.get F.VLT_DUMP_SEQ.SEQ := h.reads _ 0 0 (by decide)

theorem Stands.lastDump (h : Stands s t) : t.get F.VLT_STATUS.LAST_DUMP = s.get F.VLT_STATUS.LAST_DUMP := h.reads _ 0 0 (by decide)

theorem Stands.bootStep (h : Stands s t) : t.get F.PWR_STATE.BOOT_STEP = s.get F.PWR_STATE.BOOT_STEP := h.reads _ 0 0 (by decide)

/-- The status bit of an event of word 14 is set when it is raised, and stays. -/
theorem Stands.raised {e : Nat} (he : e / 32 = 14) (h : Stands (s.raise e) t) : bitOf (t.get F.EVT_STATUS.STATUS 14) (e % 32) = true :=
  h.events _ (Nat.mod_lt _ (by decide)) (he ▸ raise_bit s e)

theorem Stands.of_regs (h : Stands s t) (hregs : u.regs = t.regs) : Stands s u := by
  refine h.trans ⟨fun g m n _ => ?_, fun i _ hb => ?_⟩
  · unfold State.get
    rw [hregs]
  · unfold State.get at hb ⊢
    rwa [hregs]

theorem Stands.closeStep (h : Stands s t) (n : Nat) : Stands s (t.closeStep n) := h.of_regs rfl

/-- Operations that do not change registers. -/
theorem Stands.keeps {p : Bool} {A : Nat} (h : Stands s t) (hk : Keeps p A t u) (hregs : A &&& 1 ≠ 1) : Stands s u := h.of_regs (hk.part .regs hregs)

theorem Stands.ite {c : Prop} [Decidable c] (h : Stands s t) (h' : Stands s u) : Stands s (if c then t else u) := by
  split <;> assumption

theorem Stands.foldl {α : Type} {f : State → α → State} (l : List α) (hf : ∀ t x, Stands s t → Stands s (f t x)) (h : Stands s t) : Stands s (l.foldl f t) :=
  List.foldlRecOn (motive := Stands s) l f h (fun t ht x _ => hf t x ht)

theorem Stands.set (h : Stands s t) (f : Fld) (v i j : Nat) (hk : f.key i j ∉ F.EVT_STATUS.STATUS.key 14 0 :: vaultWatch) : Stands s (t.set f v i j) := by
  obtain ⟨he, hw⟩ := not_or.mp (List.mem_cons.not.mp hk)
  refine h.trans ⟨fun g m n hg => get_set_other _ _ _ _ _ _ _ _ (fun e => hw (e ▸ hg)), fun i _ hb => ?_⟩
  rwa [get_set_other _ _ _ _ _ _ _ _ he]

theorem Stands.raise (h : Stands s t) (e : Nat) (he : e < 2048) : Stands s (t.raise e) := by
  refine h.trans ⟨fun _ _ _ hg => get_raise _ _ _ _ _ (fun hk => status_not_vaultWatch (n := e / 32) (by omega) (hk ▸ hg)), fun i hi hb => ?_⟩
  by_cases hn : e / 32 = 14
  · have hs := raise_status t e
    rw [hn] at hs
    rw [hs, bitOf_mod _ _ _ hi]
    exact bitOf_withBit_of _ _ _ hb
  · rwa [get_raise]
    simp only [Fld.key, Fld.at, F.EVT_STATUS.STATUS]
    omega

/-- A Ledger record writes the Ledger's fields alone. -/
theorem Stands.ledger (h : Stands s t) (code island source : Nat) (detail : List Byte) : Stands s (t.ledger code island source detail) := by
  have hquiet : ∀ k ∈ ledgerKeys, k ∉ vaultWatch := by decide
  refine h.trans ⟨fun _ _ _ hg => get_ledger _ _ _ _ _ _ _ _ (fun hk => hquiet _ hk hg), fun i _ hb => ?_⟩
  rwa [get_ledger _ _ _ _ _ _ _ _ (by decide)]

/-! ## Commands that need no buffers (R407) -/

theorem Stands.formDrv (h : Stands s t) (side : OutSide) (port nguid op lba nlb cls : Nat) (blocks : List Blk) (use : DrvUse) :
    Stands s (t.formDrv side port nguid op lba nlb cls false blocks use) := by
  unfold State.formDrv
  split
  extract_lets c drv t1 t2 t3
  have h2 : Stands s t2 := h.of_regs (u := t2) (fold_regs ..)
  have h3 : Stands s t3 := (h2.set _ _ port 0 (proxy_not_vaultWatch port)).ite h2
  exact (h3.of_regs (launch_regs t3 c rfl)).ite h3

theorem Stands.memberCmd (h : Stands s t) (side : OutSide) (x : Grp) (p : Place) (op nlb cls : Nat) (blocks : List Blk) (use : DrvUse) :
    Stands s (t.memberCmd side x p op nlb cls false blocks use) := by
  unfold State.memberCmd
  split
  · exact h.formDrv ..
  · exact h

/-! ## Brands, the vault's limit, rebuilds (R252, R274, R285) -/

theorem Stands.brandIssue (h : Stands s t) (g m : Nat) : Stands s (t.brandIssue g m) := by
  unfold State.brandIssue
  split
  · exact h
  split
  · exact h
  split
  · exact h
  · exact h.memberCmd ..

theorem Stands.startBrand (h : Stands s t) (g : Nat) : Stands s (t.startBrand g) := by
  unfold State.startBrand
  split
  · exact h
  refine h.ite (Stands.ite ?_ (Stands.foldl _ (fun _ m h => h.brandIssue g m) (h.of_regs rfl)))
  exact (h.set F.LAY_BRAND_STATUS.RESULT _ 0 0 (by decide)).set F.LAY_BRAND_STATUS.GROUP _ 0 0 (by decide)

theorem Stands.vaultChanged (h : Stands s t) : Stands s t.vaultChanged := by
  unfold State.vaultChanged
  extract_lets room limit short u
  have hu : Stands s u := (h.set F.VLT_LIMIT_EFF.MIB _ 0 0 (by decide)).set F.VLT_STATUS.SHORT _ 0 0 (by decide)
  exact (hu.raise 0x1CF (by decide)).ite hu

theorem Stands.startRebuild (h : Stands s t) (g : Nat) : Stands s (t.startRebuild g) := by
  unfold State.startRebuild
  split
  · exact h
  refine h.ite ?_
  split
  · exact h
  · refine Stands.raise ?_ 0x1D4 (by decide)
    exact h.of_regs rfl

/-! ## The writes of a dump, and what follows them (R275, R279) -/

theorem Stands.vaultWrite (h : Stands s t) (seq : Nat) (m : VMem) (off : Nat) (blocks : List (List Byte)) (use : DrvUse) : Stands s (t.vaultWrite seq m off blocks use) := by
  unfold State.vaultWrite
  split
  · exact h
  · exact h.memberCmd ..

theorem Stands.writeHeaders (h : Stands s t) (d : Dump) (kind state : Nat) : Stands s (t.writeHeaders d kind state) := h.foldl _ (fun _ _ h => h.vaultWrite ..)

theorem Stands.writeControl (h : Stands s t) (d : Dump) (i : Nat) : Stands s (t.writeControl d i) := by
  unfold State.writeControl
  split
  · exact h.vaultWrite ..
  · exact h

theorem Stands.writeSegment (h : Stands s t) (d : Dump) (i copy : Nat) (vs : List Ver) (m : VMem) (slot : Nat) : Stands s (t.writeSegment d i copy vs m slot) := h.vaultWrite ..

theorem Stands.writeLedgerCopy (h : Stands s t) (d : Dump) (i : Nat) : Stands s (t.writeLedgerCopy d i) := by
  unfold State.writeLedgerCopy
  split
  · exact h.vaultWrite ..
  · exact h

theorem Stands.setDump (h : Stands s t) (d : Dump) : Stands s (t.setDump d) := h.of_regs rfl

theorem Stands.retireDump (h : Stands s t) (d : Dump) : Stands s (t.retireDump d) := (h.setDump _).writeHeaders ..

/-- Step 4 of R275 takes DUMP_SEQ; the headers leave it. -/
theorem stands_dumpHeaders (s : State) (d : Dump) : Stands (s.set F.VLT_DUMP_SEQ.SEQ (s.get F.VLT_DUMP_SEQ.SEQ + 1)) (s.dumpHeaders d) :=
  (((Stands.refl _).setDump _).writeHeaders ..).raise 0x1CA (by decide)

theorem Stands.failMigs (h : Stands s t) : Stands s t.failMigs := by
  unfold State.failMigs
  extract_lets live tly u
  have hu : Stands s u := h.of_regs rfl
  exact hu.ite (hu.raise 0x1DD (by decide))

theorem Stands.beginDump (h : Stands s t) : Stands s t.beginDump := by
  have hstop : Stands s { t with tly := { t.tly with stopped := true } } := h.of_regs rfl
  exact h.ite (hstop.failMigs.of_regs rfl)

theorem Stands.dumpNext (h : Stands s t) (d : Dump) : Stands s (t.dumpNext d) := by
  unfold State.dumpNext
  split
  case h_1 => exact (h.setDump _).foldl _ (fun _ _ h => h.writeControl ..)
  case h_2 => exact (h.setDump _).foldl _ (fun _ _ h => (h.writeSegment ..).writeSegment ..)
  case h_3 => exact ((h.setDump _).ledger ..).foldl _ (fun _ _ h => h.writeLedgerCopy ..)
  case h_4 => exact Stands.ite ((h.setDump _).beginDump.ite (h.setDump _)) ((h.setDump _).ite (h.retireDump d))
  case h_5 =>
    have hu : Stands s { t with tly := { t.tly with dump := none, stopped := false } } := h.of_regs rfl
    exact hu.beginDump.ite hu
  case h_6 => exact h

theorem Stands.dumpRun (n : Nat) (h : Stands s t) : Stands s (State.dumpRun n t) := by
  induction n generalizing t with
  | zero => exact h
  | succ n ih =>
    unfold State.dumpRun
    split
    · exact h
    · exact h.ite (ih (h.dumpNext _))

end

end Sys2Proof.Machine
end

section
/-!
PROOFS. The rows of a dump (08_tally_rebuild.md, R275, R279).
-/
namespace Sys2Proof.Machine

section
variable {s : State} {d : Dump}

/-! ## Where a dump stands -/

theorem writeHeaders_tly (s : State) (d : Dump) (kind state : Nat) : (s.writeHeaders d kind state).tly = s.tly :=
  (keeps_State_writeHeaders d kind state rfl (Keeps.refl false 32581155 s)).part .tly (by decide)

/-- A dump that has passed its Ledger section, or that has not begun. -/
def DumpStage.offLedger : DumpStage → Prop
  | .waits | .complete | .done | .retired => True
  | .begun | .control | .segments | .ledger => False

/-- No dump stands that has its data to write. -/
def OffLedger (s : State) : Prop := ∀ e, s.tly.dump = some e → e.stage.offLedger

theorem offLedger_of_tly {t : State} (h : OffLedger s) (htly : t.tly = s.tly) : OffLedger t := fun e he => h e (htly ▸ he)

theorem offLedger_setDump (s : State) {d : Dump} (hd : d.stage.offLedger) : OffLedger (s.setDump d) := fun _ he => Option.some.inj he ▸ hd

theorem offLedger_beginDump (h : OffLedger s) : OffLedger s.beginDump := by
  unfold State.beginDump
  split
  · exact h
  · exact offLedger_setDump _ trivial

theorem offLedger_retireDump (s : State) (d : Dump) : OffLedger (s.retireDump d) := offLedger_of_tly (offLedger_setDump s (d := { d with stage := .retired }) trivial) (writeHeaders_tly ..)

/-- Past its Ledger section a dump never comes back to it. -/
theorem offLedger_dumpNext (h : OffLedger s) (hd : s.tly.dump = some d) : OffLedger (s.dumpNext d) := by
  have hstage := h d hd
  have hdone : OffLedger (s.setDump { d with stage := .done }) := offLedger_setDump s trivial
  unfold State.dumpNext
  split
  case h_1 hst => exact (hst ▸ hstage).elim
  case h_2 hst => exact (hst ▸ hstage).elim
  case h_3 hst => exact (hst ▸ hstage).elim
  case h_4 =>
    split
    · dsimp only
      split
      · exact offLedger_beginDump hdone
      · exact hdone
    · split
      · exact hdone
      · exact offLedger_retireDump s d
  case h_5 =>
    have hnone : OffLedger { s with tly := { s.tly with dump := none, stopped := false } } := nofun
    dsimp only
    split
    · exact offLedger_beginDump hnone
    · exact hnone
  case h_6 => exact h

theorem offLedger_dumpRun (n : Nat) (h : OffLedger s) : OffLedger (State.dumpRun n s) := by
  induction n generalizing s with
  | zero => exact h
  | succ n ih =>
    unfold State.dumpRun
    split
    · exact h
    rename_i d hd
    split
    · exact h
    · exact ih (offLedger_dumpNext h hd)

/-! ## The rows -/

/-- DUMP_WRITE_WAIT_EXPIRY, once the wait is over. -/
theorem dumpWriteWaitExpiry_row (hd : s.tly.dump = some d) (hstage : d.stage = .waits) (hdue : d.beganUs + 5000 ≤ s.nowUs ∨ s.memberWrites = false) :
    exec .dumpWriteWaitExpiry s = .next ((State.dumpRun 6 ((atStep s).dumpHeaders d)).closeStep s.dev.curStep) := by
  have hd' : (atStep s).tly.dump = some d := hd
  have hdue' : d.beganUs + 5000 ≤ (atStep s).nowUs ∨ (!(atStep s).memberWrites) = true := hdue.imp id (congrArg not)
  change execDumpWriteWaitExpiry s = _
  unfold execDumpWriteWaitExpiry
  rw [inStep_eq]
  simp only [hd', if_pos (And.intro hstage hdue')]

/-- The next DUMP_SEQ is taken, and DUMP_BEGUN raised; the dump's own writes leave both. -/
theorem dumpWriteWaitExpiry_begins (hd : s.tly.dump = some d) (hstage : d.stage = .waits) (hdue : d.beganUs + 5000 ≤ s.nowUs ∨ s.memberWrites = false) :
    ∃ t, exec .dumpWriteWaitExpiry s = .next t ∧ t.get F.VLT_DUMP_SEQ.SEQ = (s.get F.VLT_DUMP_SEQ.SEQ + 1) % 2 ^ F.VLT_DUMP_SEQ.SEQ.width ∧
      bitOf (t.get F.EVT_STATUS.STATUS 14) 10 = true := by
  refine ⟨_, dumpWriteWaitExpiry_row hd hstage hdue, ?_, ?_⟩
  · exact (((stands_dumpHeaders (atStep s) d).dumpRun 6).closeStep _).dumpSeq.trans (get_set_same (atStep s) F.VLT_DUMP_SEQ.SEQ (s.get F.VLT_DUMP_SEQ.SEQ + 1) 0 0)
  · exact Stands.raised (e := 0x1CA) rfl (((Stands.refl _).dumpRun 6).closeStep _)

/-- DUMP_COMPLETE, once the Ledger section is written. -/
theorem dumpComplete_row (hd : s.tly.dump = some d) (hstage : d.stage = .ledger) (hidle : s.vaultBusy = false) :
    exec .dumpComplete s =
      .next ((State.dumpRun 4 ((((atStep s).setDump { d with stage := .complete }).writeHeaders { d with stage := .complete } 4 2).raise 0x1CB)).closeStep s.dev.curStep) := by
  have hd' : (atStep s).tly.dump = some d := hd
  have hidle' : (!(atStep s).vaultBusy) = true := congrArg not hidle
  change execDumpComplete s = _
  unfold execDumpComplete
  rw [inStep_eq]
  simp only [hd', if_pos (And.intro hstage hidle')]

theorem dumpComplete_reports (hd : s.tly.dump = some d) (hstage : d.stage = .ledger) (hidle : s.vaultBusy = false) :
    ∃ t, exec .dumpComplete s = .next t ∧ bitOf (t.get F.EVT_STATUS.STATUS 14) 11 = true ∧ ∀ e, t.tly.dump = some e → e.stage ≠ .ledger := by
  refine ⟨_, dumpComplete_row hd hstage hidle, Stands.raised (e := 0x1CB) rfl (((Stands.refl _).dumpRun 4).closeStep _), fun e he hledger => ?_⟩
  have hoff : OffLedger ((((atStep s).setDump { d with stage := .complete }).writeHeaders { d with stage := .complete } 4 2).raise 0x1CB) :=
    offLedger_of_tly (offLedger_setDump _ (d := { d with stage := .complete }) trivial) ((raise_tly ..).trans (writeHeaders_tly ..))
  have hlate := offLedger_dumpRun 4 hoff e he
  rw [hledger] at hlate
  exact hlate

/-- DUMP_RETIRE_RECOVERED, with every version of the recovered dump destaged: its headers go, and DUMP_RETIRED is raised last. -/
theorem dumpRetireRecovered_reports {seq : Nat} {vs : List (Nat × Nat × Nat × Nat)} (hrec : s.tly.recovered = some (seq, vs)) (hd : s.tly.dump = none)
    (hclean : ∀ v ∈ s.cht.staging, (v.sub, v.nsid, v.lba, v.commitStep) ∉ vs) :
    ∃ t, exec .dumpRetireRecovered s = .next t ∧ t.tly.recovered = none ∧ bitOf (t.get F.EVT_STATUS.STATUS 14) 16 = true := by
  have hrec' : (atStep s).tly.recovered = some (seq, vs) := hrec
  have hnone : (atStep s).tly.dump.isNone = true := Option.isNone_iff_eq_none.mpr hd
  have hdestaged : ¬ (atStep s).cht.staging.any (fun v => vs.contains (v.sub, v.nsid, v.lba, v.commitStep)) = true := by
    simpa [atStep] using hclean
  have hrow : ∃ u : State, exec .dumpRetireRecovered s = .next ((u.raise 0x1D0).closeStep s.dev.curStep) ∧ u.tly.recovered = none := by
    change ∃ u : State, execDumpRetireRecovered s = _ ∧ _
    unfold execDumpRetireRecovered
    rw [inStep_eq]
    simp only [hrec', if_pos (And.intro hnone hdestaged)]
    exact ⟨_, rfl, rfl⟩
  obtain ⟨u, hrow, hu⟩ := hrow
  exact ⟨_, hrow, (congrArg Tly.recovered (raise_tly u 0x1D0)).trans hu, Stands.raised (e := 0x1D0) rfl ((Stands.refl _).closeStep _)⟩

end

end Sys2Proof.Machine
end

section
/-!
PROOFS. Recovery at start-up (08_tally_rebuild.md, R280, R281; R143, R531, R534).
-/
namespace Sys2Proof.Machine

section
variable {s t : State} {f : FoundDump}

/-! ## What RECOVERY is made of -/

/-- The maps of the images in force are restored. -/
def State.withMaps (s : State) (maps : List (Nat × Nat)) (exts : List (Nat × Nat × ExtEnt)) : State :=
  exts.foldl (fun (s : State) (e : Nat × Nat × ExtEnt) => s.setExtent e.1 e.2.1 e.2.2)
    { s with cht := { s.cht with dir := maps.foldl (fun d m => sparseInsert m.1 m.2 d) s.cht.dir } }

/-- Every group that is not offline serves. -/
def State.serveGroups (s : State) : State := { s with grps := s.grps.map (fun (g : Nat × Grp) => (g.1, { g.2 with serving := !g.2.offline })) }

/-- Start-up goes on from step 8. -/
def State.bootOn (s : State) : State := if s.get F.PWR_STATE.BOOT_STEP = 8 then s.set F.PWR_STATE.BOOT_STEP 9 else s

/-- The vault's limit, and every group's Brand update and rebuild. -/
def State.startGroups (s : State) : State := (s.grps.map (·.1)).foldl (fun (s : State) (g : Nat) => (s.startBrand g).startRebuild g) s.vaultChanged

theorem recovery_row_none (hrole : s.role = roleAlone) (hrec : s.tly.recovered = none) (maps : List (Nat × Nat)) (exts : List (Nat × Nat × ExtEnt)) :
    exec (.recovery none maps exts) s = .next (s.withMaps maps exts).recoverNothing.serveGroups.bootOn.startGroups := by
  change execRecovery none maps exts s = _
  unfold execRecovery
  rw [if_pos ⟨hrole, hrec⟩]
  rfl

theorem recovery_row_found (hrole : s.role = roleAlone) (hrec : s.tly.recovered = none) (hlive : f.retired = false) (maps : List (Nat × Nat)) (exts : List (Nat × Nat × ExtEnt)) :
    exec (.recovery (some f) maps exts) s = .next (((s.withMaps maps exts).recoverDump f).ledgerCopied f.ledger).serveGroups.bootOn.startGroups := by
  change execRecovery (some f) maps exts s = _
  unfold execRecovery
  rw [if_pos ⟨hrole, hrec⟩]
  simp only [hlive, Bool.false_eq_true, if_false]
  rfl

theorem withMaps_same (s : State) (maps : List (Nat × Nat)) (exts : List (Nat × Nat × ExtEnt)) : (s.withMaps maps exts).regs = s.regs ∧ (s.withMaps maps exts).grps = s.grps :=
  List.foldlRecOn (motive := fun (t : State) => t.regs = s.regs ∧ t.grps = s.grps) exts _ ⟨rfl, rfl⟩ (fun _ h _ _ => h)

/-! ## Its end: groups serve, start-up goes on, and what waits begins -/

theorem grp?_serveGroups (s : State) (g : Nat) : s.serveGroups.grp? g = (s.grp? g).map (fun x => { x with serving := !x.offline }) := by
  unfold State.grp? State.serveGroups
  rw [List.find?_map, Option.map_map, Option.map_map]
  rfl

theorem bootOn_bootStep (h : s.get F.PWR_STATE.BOOT_STEP = 8) : s.bootOn.get F.PWR_STATE.BOOT_STEP = 9 := by
  rw [State.bootOn, if_pos h]
  exact get_set_same ..

theorem get_bootOn (s : State) (g : Fld) (i j : Nat) (hk : F.PWR_STATE.BOOT_STEP.key 0 0 ≠ g.key i j) : s.bootOn.get g i j = s.get g i j := by
  unfold State.bootOn
  split
  · exact get_set_other _ _ _ _ _ _ _ _ hk
  · rfl

theorem bootOn_grps (s : State) : s.bootOn.grps = s.grps := by
  unfold State.bootOn
  split <;> rfl

theorem bootOn_tly (s : State) : s.bootOn.tly = s.tly := by
  unfold State.bootOn
  split <;> rfl

theorem Stands.startGroups (h : Stands s t) : Stands s t.startGroups := h.vaultChanged.foldl _ (fun _ g h => (h.startBrand g).startRebuild g)

theorem SameGrps.startGroups {α : Type} {p : Grp → α} (hp : IgnoresWant p) (h : SameGrps p s t) : SameGrps p s t.startGroups :=
  h.vaultChanged.foldl _ (fun _ g h => (h.startBrand hp g).startRebuild g)

theorem startRebuild_recovered (s : State) (g : Nat) : (s.startRebuild g).tly.recovered = s.tly.recovered := by
  unfold State.startRebuild
  split
  · rfl
  dsimp only
  split
  · rfl
  split
  · rfl
  · rw [raise_tly]

theorem startGroups_recovered (s : State) : s.startGroups.tly.recovered = s.tly.recovered := by
  have hvault : s.vaultChanged.tly = s.tly := (keeps_State_vaultChanged rfl (Keeps.refl false 8388643 s)).part .tly (by decide)
  refine List.foldlRecOn (motive := fun (u : State) => u.tly.recovered = s.tly.recovered) _ _ (congrArg Tly.recovered hvault) (fun u hu g _ => ?_)
  rw [startRebuild_recovered, startBrand_tly, hu]

/-- LAST_DUMP, DUMP_SEQ and the recovered dump stand as they were restored. -/
theorem recovered_to_end (s : State) :
    s.serveGroups.bootOn.startGroups.get F.VLT_STATUS.LAST_DUMP = s.get F.VLT_STATUS.LAST_DUMP ∧
      s.serveGroups.bootOn.startGroups.get F.VLT_DUMP_SEQ.SEQ = s.get F.VLT_DUMP_SEQ.SEQ ∧ s.serveGroups.bootOn.startGroups.tly.recovered = s.tly.recovered := by
  have hend : Stands s.serveGroups.bootOn s.serveGroups.bootOn.startGroups := (Stands.refl _).startGroups
  exact ⟨hend.lastDump.trans (get_bootOn _ _ _ _ (by decide)), hend.dumpSeq.trans (get_bootOn _ _ _ _ (by decide)),
    (startGroups_recovered _).trans (congrArg Tly.recovered (bootOn_tly _))⟩

theorem ignoresWant_serving : IgnoresWant Grp.serving := fun _ _ _ => rfl

/-- Whatever was restored, every group that is not offline then serves. -/
theorem serving_at_end {g : Nat} {x : Grp} (hsame : SameGrps Grp.offline s t) (hx : s.grp? g = some x) :
    ∃ y, t.serveGroups.bootOn.startGroups.grp? g = some y ∧ y.serving = !x.offline := by
  obtain ⟨z, hz, hoff⟩ := hsame.exists_grp hx
  have hserve : t.serveGroups.bootOn.grp? g = some { z with serving := !z.offline } := by
    rw [grp?_of_grps (bootOn_grps _), grp?_serveGroups, hz]
    rfl
  obtain ⟨y, hy, hserving⟩ := ((SameGrps.refl Grp.serving t.serveGroups.bootOn).startGroups ignoresWant_serving).exists_grp hserve
  exact ⟨y, hy, hserving.trans (congrArg not hoff)⟩

/-! ## Without a dump (R143, R531) -/

theorem Stands.restoreCounter (h : Stands s t) (c : Option Nat) : Stands s (t.restoreCounter c) := by
  unfold State.restoreCounter
  refine h.ite ?_
  cases c with
  | some v => exact h.of_regs rfl
  | none =>
    refine Stands.raise (Stands.set ?_ F.FLM_EPOCH_STATE.TX_BLOCKED _ 0 0 (by decide)) 0x147 (by decide)
    exact h.of_regs rfl

theorem Stands.markVerify (h : Stands s t) (g : Nat) : Stands s (t.markVerify g) := by
  unfold State.markVerify
  split
  · refine Stands.raise ?_ 0x1D1 (by decide)
    exact h.of_regs rfl
  · exact h

theorem Stands.markAll (h : Stands s t) : Stands s t.markAll := h.foldl _ (fun _ g h => h.markVerify g)

theorem stands_recoverNothing (s : State) : Stands (s.set F.VLT_STATUS.LAST_DUMP 0) s.recoverNothing := by
  have hctr := (Stands.refl (s.set F.VLT_STATUS.LAST_DUMP 0)).restoreCounter none
  exact ((hctr.set F.PWR_STATE.UNSAVED _ 0 0 (by decide)).markAll.raise 0x011 (by decide)).ite hctr

theorem SameGrps.markVerify (h : SameGrps Grp.offline s t) (g : Nat) : SameGrps Grp.offline s (t.markVerify g) := by
  unfold State.markVerify
  split
  case h_1 x hx => exact (h.setGrp (y := { x with verify := .needs, swept := 0, sweptToo := [] }) hx rfl).raise 0x1D1
  case h_2 => exact h

theorem SameGrps.markAll (h : SameGrps Grp.offline s t) : SameGrps Grp.offline s t.markAll := h.foldl _ (fun _ g h => h.markVerify g)

theorem SameGrps.recoverNothing (h : SameGrps Grp.offline s t) : SameGrps Grp.offline s t.recoverNothing := by
  have hset : SameGrps Grp.offline s (t.set F.VLT_STATUS.LAST_DUMP 0) := h.of_grps rfl
  have hctr := hset.keeps (keeps_State_restoreCounter none rfl (Keeps.refl false 8390819 _)) (by decide)
  exact ((hctr.of_grps (setFlag_grps _ F.PWR_STATE.UNSAVED false 0 0)).markAll.raise 0x011).ite hctr

/-- RECOVERY without a dump. -/
theorem recovery_without_dump (hrole : s.role = roleAlone) (hrec : s.tly.recovered = none) (maps : List (Nat × Nat)) (exts : List (Nat × Nat × ExtEnt)) :
    ∃ t, exec (.recovery none maps exts) s = .next t ∧ t.get F.VLT_STATUS.LAST_DUMP = 0 ∧ (s.get F.PWR_STATE.BOOT_STEP = 8 → t.get F.PWR_STATE.BOOT_STEP = 9) ∧
      ∀ g x, s.grp? g = some x → ∃ y, t.grp? g = some y ∧ y.serving = !x.offline := by
  obtain ⟨hregs, hgrps⟩ := withMaps_same s maps exts
  have hlast := (stands_recoverNothing (s.withMaps maps exts)).lastDump
  have hboot := (stands_recoverNothing (s.withMaps maps exts)).bootStep
  refine ⟨_, recovery_row_none hrole hrec maps exts, ?_, fun h8 => ?_, fun g x hx => ?_⟩
  · exact (recovered_to_end _).1.trans (hlast.trans (get_set_same ..))
  · have h8' : (s.withMaps maps exts).recoverNothing.get F.PWR_STATE.BOOT_STEP = 8 := by
      rw [hboot, get_set_other _ _ _ _ _ _ _ _ (by decide), ((Stands.refl s).of_regs hregs).bootStep, h8]
    exact ((Stands.refl _).startGroups).bootStep.trans (bootOn_bootStep h8')
  · exact serving_at_end ((SameGrps.refl _ s).of_grps hgrps).recoverNothing hx

/-! ## With a complete dump (R281) -/

/-- DUMP_SEQ, LAST_DUMP and the recovered dump as RECOVERY takes them from a complete dump. -/
def State.takeDump (s : State) (f : FoundDump) : State :=
  let t := (s.set F.VLT_DUMP_SEQ.SEQ f.seq).set F.VLT_STATUS.LAST_DUMP 1
  { t with tly := { t.tly with recovered := some (f.seq, []) } }

theorem takeDump_lastDump (s : State) (f : FoundDump) : (s.takeDump f).get F.VLT_STATUS.LAST_DUMP = 1 := get_set_same (s.set F.VLT_DUMP_SEQ.SEQ f.seq) F.VLT_STATUS.LAST_DUMP 1 0 0

theorem takeDump_dumpSeq (s : State) (f : FoundDump) : (s.takeDump f).get F.VLT_DUMP_SEQ.SEQ = f.seq % 2 ^ F.VLT_DUMP_SEQ.SEQ.width :=
  (get_set_other (s.set F.VLT_DUMP_SEQ.SEQ f.seq) F.VLT_STATUS.LAST_DUMP F.VLT_DUMP_SEQ.SEQ 1 0 0 0 0 (by decide)).trans (get_set_same ..)

theorem recoverDump_eq {c : CtrlPart} (hcomplete : f.complete = true) (hfirst : f.rewritten = false) (hsegs : f.segs = []) (hlost : f.lost = []) (hctrl : f.ctrl = some c)
    (htally : c.tally = []) : s.recoverDump f = ((s.takeDump f).restoreControl c).restoreCounter (some c.counter) := by
  unfold State.recoverDump
  simp only [hcomplete, hfirst, hsegs, hlost, hctrl, htally, Bool.not_true, Bool.false_eq_true, if_false, if_true, List.foldl_nil, List.isEmpty_nil, List.flatMap_nil]
  rfl

theorem restoreControl_recovered (s : State) (c : CtrlPart) : (s.restoreControl c).tly.recovered = s.tly.recovered := by
  unfold State.restoreControl
  extract_lets u v
  have hu : u.tly = s.tly := List.foldlRecOn (motive := fun (x : State) => x.tly = s.tly) c.lst _ rfl (fun x hx l _ => by split <;> exact hx)
  have hv : v.tly = s.tly := List.foldlRecOn (motive := fun (x : State) => x.tly = s.tly) c.patrol _ hu (fun x hx l _ => by split <;> exact hx)
  change v.tly.recovered = _
  rw [hv]

theorem Stands.ledgerCopied (h : Stands s t) (b : Option (List Byte)) : Stands s (t.ledgerCopied b) := by
  unfold State.ledgerCopied
  split
  case h_1 b =>
    extract_lets a
    have hstore : Stands s (t.drawn.store a b) :=
      Stands.keeps (t := t.drawn) (h.of_regs rfl) (keeps_State_store a b rfl (Keeps.refl false 7340032 t.drawn)) (by decide)
    exact hstore.set F.LDG_VAULT_ADDR.ADDR _ 0 0 (by decide)
  case h_2 => exact h

theorem ledgerCopied_tly (s : State) (b : Option (List Byte)) : (s.ledgerCopied b).tly = s.tly :=
  (keeps_State_ledgerCopied b rfl (Keeps.refl false 24117249 s)).part .tly (by decide)

/-- RECOVERY of a complete dump with nothing staged, nothing lost and no open entry. -/
theorem recovery_of_dump {c : CtrlPart} (hrole : s.role = roleAlone) (hrec : s.tly.recovered = none) (hlive : f.retired = false) (hcomplete : f.complete = true) (hfirst : f.rewritten = false)
    (hsegs : f.segs = []) (hlost : f.lost = []) (hctrl : f.ctrl = some c) (htally : c.tally = []) (maps : List (Nat × Nat)) (exts : List (Nat × Nat × ExtEnt)) :
    ∃ t, exec (.recovery (some f) maps exts) s = .next t ∧ t.get F.VLT_STATUS.LAST_DUMP = 1 ∧ t.get F.VLT_DUMP_SEQ.SEQ = f.seq % 2 ^ F.VLT_DUMP_SEQ.SEQ.width ∧
      t.tly.recovered = some (f.seq, []) := by
  have htaken : Stands ((s.withMaps maps exts).takeDump f) (((s.withMaps maps exts).recoverDump f).ledgerCopied f.ledger) := by
    rw [recoverDump_eq hcomplete hfirst hsegs hlost hctrl htally]
    exact (((Stands.refl _).keeps (keeps_State_restoreControl c rfl (Keeps.refl false 53248 _)) (by decide)).restoreCounter _).ledgerCopied _
  have hdump : (((s.withMaps maps exts).recoverDump f).ledgerCopied f.ledger).tly.recovered = some (f.seq, []) := by
    rw [ledgerCopied_tly, recoverDump_eq hcomplete hfirst hsegs hlost hctrl htally]
    have hctr := (keeps_State_restoreCounter (some c.counter) rfl (Keeps.refl false 8390819 (((s.withMaps maps exts).takeDump f).restoreControl c))).part .tly (by decide)
    exact (congrArg Tly.recovered hctr).trans (restoreControl_recovered _ c)
  obtain ⟨hlast, hseq, hend⟩ := recovered_to_end (((s.withMaps maps exts).recoverDump f).ledgerCopied f.ledger)
  exact ⟨_, recovery_row_found hrole hrec hlive maps exts, hlast.trans (htaken.lastDump.trans (takeDump_lastDump ..)), hseq.trans (htaken.dumpSeq.trans (takeDump_dumpSeq ..)),
    hend.trans hdump⟩

end

end Sys2Proof.Machine
end

section
/-!
PROOFS. Migrations at their source and their target (08_tally_rebuild.md, R297 to R299).
-/
namespace Sys2Proof.Machine

/-! ## A message stays what it was made as, whatever of it is sent (R107) -/

/-- A message as it stood before anything of it was sent. -/
def Msg.unsent (m : Msg) : Msg := { m with id := 0, st := .queued, t0Us := 0, pkts := [], faulted := false }

/-- Every message that the sender holds it held before, with more or less of it sent. -/
def Descends (s t : State) : Prop := ∀ y ∈ t.flm.msgs, ∃ x ∈ s.flm.msgs, y.unsent = x.unsent

section
variable {s t u : State} {m : Msg}

theorem Descends.refl (s : State) : Descends s s := fun y hy => ⟨y, hy, rfl⟩

theorem Descends.trans (h : Descends s t) (h' : Descends t u) : Descends s u := fun z hz => by
  obtain ⟨y, hy, hzy⟩ := h' z hz
  obtain ⟨x, hx, hyx⟩ := h y hy
  exact ⟨x, hx, hzy.trans hyx⟩

theorem descends_of_msgs (h : t.flm.msgs = s.flm.msgs) : Descends s t := fun y hy => ⟨y, h ▸ hy, rfl⟩

theorem descends_setMsg (hm : ∃ x ∈ s.flm.msgs, m.unsent = x.unsent) : Descends s (s.setMsg m) := by
  intro y hy
  obtain ⟨z, hz, rfl⟩ := List.mem_map.mp hy
  split
  · exact hm
  · exact ⟨z, hz, rfl⟩

theorem descends_pauseMsg (hm : m ∈ s.flm.msgs) : Descends s (s.pauseMsg m) := by
  have hset : Descends s (s.setMsg { m with faulted := true }) := descends_setMsg ⟨m, hm, rfl⟩
  unfold State.pauseMsg
  extract_lets s1
  split
  · dsimp only
    split
    · refine hset.trans (descends_of_msgs ?_)
      rw [raise_flm]
      rfl
    · exact hset
  · exact hset

theorem descends_activate (hm : m ∈ s.flm.msgs) : Descends s (s.activate m).1 := by
  unfold State.activate
  split
  · exact descends_setMsg (s := { s with flm := { s.flm with msgCtr := (s.flm.msgCtr + 1) % 2 ^ 48 } }) ⟨m, hm, rfl⟩
  · exact .refl s

theorem descends_transmit (hm : m ∈ s.flm.msgs) (i attempt path : Nat) (solicit : Bool) : Descends s (s.transmit m i attempt path solicit) := by
  unfold State.transmit
  extract_lets ck h0 hd es old p s1 s2 flm s3
  have h1 : s1.flm.msgs = s.flm.msgs := by
    unfold s1
    rw [sendFlume_flm]
    rfl
  have h2 : s2.flm.msgs = s.flm.msgs := by
    unfold s2
    split
    · rw [count_flm, h1]
    · exact h1
  exact Descends.trans (t := s3) (descends_of_msgs h2) (descends_setMsg (s := s3) ⟨m, h2 ▸ hm, rfl⟩)

theorem descends_pumpN (n dst : Nat) (s : State) : Descends s (State.pumpN n dst s) := by
  induction n generalizing s with
  | zero => exact .refl s
  | succ n ih =>
    unfold State.pumpN
    split
    · exact .refl s
    split
    · rename_i f m _ hnext
      have hm : m ∈ s.flm.msgs := List.mem_of_find?_eq_some hnext
      split
      · exact .refl s
      split
      · exact (descends_pauseMsg hm).trans (ih _)
      split
      · have hact := descends_activate hm
        have hmem := (activate_wire (k := m.key) (w := m.wire) hm).1
        generalize s.activate m = x at hact hmem ⊢
        exact (hact.trans (descends_transmit (s := x.1.setFlow _) hmem _ _ _ _)).trans (ih _)
      · exact .refl s
    · exact .refl s

/-- A submitted message is with the sender as it was made, under a number of its own. -/
theorem submit_holds (hs : KeysFresh s) (m : Msg) (ip : IpAddr) : ∃ y ∈ (s.submit m ip).flm.msgs, y.unsent = (s.asQueued m).unsent := by
  obtain ⟨-, hkey, -⟩ := bears_submit ip (bears_addMsg_new (m := s.asQueued m) (flmFresh_iff_keysFresh.mpr hs) rfl)
  obtain ⟨y, hy, hyk⟩ := List.mem_map.mp hkey
  have hall : Descends (s.addMsg (s.asQueued m)) (s.submit m ip) := by
    unfold State.submit
    extract_lets m1 flm s1
    have henter : Descends s1 (s1.enterFlow m1.dst ip (s1.firstLocal ip.v6)).1 := descends_of_msgs (congrArg Flm.msgs (enterFlow_flm ..))
    change Descends s1 _
    dsimp only
    split
    · exact henter.trans (descends_pumpN _ _ _)
    · exact henter
  obtain ⟨x, hx, hyx⟩ := hall y hy
  have hxk : x.key = s.flm.orderCtr := (congrArg Msg.key hyx).symm.trans hyk
  rcases List.mem_append.mp hx with hold | hnew
  · exact absurd hxk (hs x hold).ne
  · exact ⟨y, hy, hyx.trans (congrArg Msg.unsent (List.mem_singleton.mp hnew))⟩

end

/-! ## The source (R297, R299) -/

section
variable {s : State} {slot : Nat} {m : Mig} {n : NsEnt}

theorem mig?_slot (hm : s.mig? slot = some m) : m.slot = slot := by
  simpa using List.find?_some hm

theorem mig?_setMig (hm : s.mig? slot = some m) {m' : Mig} (hslot : m'.slot = slot) : (s.setMig m').mig? slot = some m' := by
  subst hslot
  exact find?_map_replace Mig.slot m' s.tly.migs ⟨m, List.mem_of_find?_eq_some hm, mig?_slot hm⟩

theorem mig?_of_tly {t : State} (h : t.tly = s.tly) (slot : Nat) : t.mig? slot = s.mig? slot := by rw [State.mig?, State.mig?, h]

/-- A migration once it has sent the granule at its cursor. -/
def Mig.sentNext (m : Mig) : Mig := { m with cursor := m.cursor + 1, inflight := m.inflight ++ [m.cursor] }

theorem sendGranule_tly (s : State) (m : Mig) (n : NsEnt) (g : Nat) (blocks : List (Option (List Byte × Nat))) : (s.sendGranule m n g blocks).tly = s.tly :=
  (keeps_State_sendGranule m n g blocks rfl (Keeps.refl false 25232291 s)).part .tly (by decide)

/-- A granule goes as a WRITE with NOTIFY into the target's window. -/
theorem sendGranule_holds (hs : KeysFresh s) (m : Mig) (n : NsEnt) (g : Nat) (blocks : List (Option (List Byte × Nat))) :
    ∃ x ∈ (s.sendGranule m n g blocks).flm.msgs, x.use = .granule m.slot g ∧ x.opcode = opWrite ∧ x.notify = true ∧ x.dst = m.peer ∧ x.window = m.window ∧
      x.src = .bytes (s.granule m.sub n g m.pass blocks).bytes := by
  unfold State.sendGranule
  extract_lets b msg
  obtain ⟨x, hx, hun⟩ := submit_holds hs msg m.ip
  exact ⟨x, hx, congrArg Msg.use hun, congrArg Msg.opcode hun, congrArg Msg.notify hun, congrArg Msg.dst hun, congrArg Msg.window hun, congrArg Msg.src hun⟩

theorem migGranuleSend_row (hm : s.mig? slot = some m) (hn : s.ns? m.sub m.nsid = some n) (hcons : s.consumes = true) (hrun : s.tly.stopped = false) (hstate : m.state = 1)
    (hpass : m.pass = 1) (hcur : m.cursor < granulesOf n) (blocks : List (Option (List Byte × Nat))) :
    exec (.migGranuleSend slot blocks) s = .next ((((atStep s).setMig m.sentNext).sendGranule m.sentNext n m.cursor blocks).closeStep s.dev.curStep) := by
  have hm' : (atStep s).mig? slot = some m := hm
  have hn' : (atStep s).ns? m.sub m.nsid = some n := hn
  have hgo : ¬ ((!(atStep s).consumes) = true ∨ (atStep s).tly.stopped = true ∨ ¬ (m.state = 1 ∨ m.state = 2)) := by
    have hcons' : (atStep s).consumes = true := hcons
    have hrun' : (atStep s).tly.stopped = false := hrun
    simp [hcons', hrun', hstate]
  have hsame : ¬ (m.state = 2 ∧ m.todo = [] ∧ (m.pass ≠ 1 ∨ granulesOf n ≤ m.cursor) ∧ m.marked ≠ []) := by
    rw [hstate]
    exact fun h => absurd h.1 (by decide)
  change execMigGranuleSend slot blocks s = _
  unfold execMigGranuleSend
  rw [inStep_eq]
  simp only [hm', hn', if_neg hgo, if_neg hsame, if_pos (And.intro hpass hcur)]
  rfl

/-- MIG_GRANULE_SEND in pass 1. -/
theorem migGranuleSend_sends (hm : s.mig? slot = some m) (hn : s.ns? m.sub m.nsid = some n) (hcons : s.consumes = true) (hrun : s.tly.stopped = false) (hstate : m.state = 1)
    (hpass : m.pass = 1) (hcur : m.cursor < granulesOf n) (hs : KeysFresh s) (blocks : List (Option (List Byte × Nat))) :
    ∃ t, exec (.migGranuleSend slot blocks) s = .next t ∧ t.mig? slot = some { m with cursor := m.cursor + 1, inflight := m.inflight ++ [m.cursor] } ∧
      ∃ x ∈ t.flm.msgs, x.use = .granule slot m.cursor ∧ x.opcode = opWrite ∧ x.notify = true ∧ x.dst = m.peer ∧ x.window = m.window ∧
        x.src = .bytes (s.granule m.sub n m.cursor 1 blocks).bytes := by
  have hslot : m.slot = slot := mig?_slot hm
  refine ⟨_, migGranuleSend_row hm hn hcons hrun hstate hpass hcur blocks, ?_, ?_⟩
  · exact (mig?_of_tly (sendGranule_tly ..) slot).trans (mig?_setMig (s := atStep s) hm hslot)
  · obtain ⟨x, hx, huse, hop, hnotify, hdst, hwin, hsrc⟩ := sendGranule_holds (s := (atStep s).setMig m.sentNext) hs m.sentNext n m.cursor blocks
    have hgranule : ((atStep s).setMig m.sentNext).granule m.sentNext.sub n m.cursor m.sentNext.pass blocks = s.granule m.sub n m.cursor 1 blocks := by
      rw [show m.sentNext.pass = 1 from hpass]
      rfl
    exact ⟨x, hx, hslot ▸ huse, hop, hnotify, hdst, hwin, hgranule ▸ hsrc⟩

/-- MIG_DONE with nothing left to send. -/
theorem migDone_ends (hm : s.mig? slot = some m) (hn : s.ns? m.sub m.nsid = some n) (hstate : m.state = 2) (htodo : m.todo = []) (hmarked : m.marked = []) (hfly : m.inflight = [])
    (hcur : granulesOf n ≤ m.cursor) :
    ∃ t, exec (.migDone slot) s = .next t ∧ (t.mig? slot).map (·.state) = some 3 ∧ bitOf (t.get F.EVT_STATUS.STATUS 14) 28 = true := by
  have hm' : (atStep s).mig? slot = some m := hm
  have hn' : (atStep s).ns? m.sub m.nsid = some n := hn
  have hover : m.state = 2 ∧ m.todo = [] ∧ m.marked = [] ∧ m.inflight = [] ∧ (m.pass ≠ 1 ∨ granulesOf n ≤ m.cursor) := ⟨hstate, htodo, hmarked, hfly, .inr hcur⟩
  have hrow : exec (.migDone slot) s = .next ((((atStep s).setMig { m with state := 3 }).raise 0x1DC).closeStep s.dev.curStep) := by
    change execMigDone slot s = _
    unfold execMigDone
    rw [inStep_eq]
    simp only [hm', hn', if_pos hover]
  have hset : ((atStep s).setMig { m with state := 3 }).mig? slot = some { m with state := 3 } := mig?_setMig hm' (show m.slot = slot from mig?_slot hm)
  refine ⟨_, hrow, ?_, Stands.raised (e := 0x1DC) rfl ((Stands.refl _).closeStep _)⟩
  exact congrArg (Option.map Mig.state) ((mig?_of_tly (raise_tly ..) slot).trans hset)

end

/-! ## The target (R297, R298) -/

section
variable {s : State} {peer msgId sub nsid : Nat} {g : Granule} {n : NsEnt}

/-- A block of a granule, with its place in the granule. -/
abbrev GranuleUnit : Type := (List Byte × Nat × Nat × Nat) × Nat

/-- A block of a granule is staged. -/
def State.stageUnit (sub nsid slba : Nat) (s : State) (u : GranuleUnit) : State :=
  s.stage { sub := sub, nsid := nsid, lba := slba + u.2, data := u.1.1, hostTag := u.1.2.2.1, commitStep := s.dev.stepNo, dirtyUs := s.nowUs, entry := 0, mapWait := false,
            noticed := true, poisoned := false }

/-- A staged version holds this block. -/
def HoldsUnit (sub nsid slba : Nat) (u : GranuleUnit) (s : State) : Prop :=
  ∃ v ∈ s.cht.staging, v.is sub nsid (slba + u.2) = true ∧ v.data = u.1.1 ∧ v.hostTag = u.1.2.2.1

theorem holdsUnit_stageUnit (s : State) (sub nsid slba : Nat) (u : GranuleUnit) : HoldsUnit sub nsid slba u (s.stageUnit sub nsid slba u) :=
  ⟨_, List.mem_append_right _ (List.mem_singleton_self _), by simp [Ver.is], rfl, rfl⟩

/-- A version of another block stays. -/
theorem HoldsUnit.stageUnit {slba : Nat} {u w : GranuleUnit} (h : HoldsUnit sub nsid slba u s) (hne : u.2 ≠ w.2) : HoldsUnit sub nsid slba u (s.stageUnit sub nsid slba w) := by
  obtain ⟨v, hv, his, hdata, htag⟩ := h
  refine ⟨v, List.mem_append_left _ (List.mem_filter.mpr ⟨hv, ?_⟩), his, hdata, htag⟩
  have hlba : v.lba = slba + u.2 := by
    simp only [Ver.is, Bool.and_eq_true, beq_iff_eq] at his
    exact his.2
  have hother : v.is sub nsid (slba + w.2) = false := by
    simp only [Ver.is, hlba, Bool.and_eq_false_iff, beq_eq_false_iff_ne]
    exact .inr (by omega)
  simp [hother]

/-- Blocks of different places are all staged. -/
theorem holdsUnit_foldl (sub nsid slba : Nat) (s : State) (l : List GranuleUnit) (hne : l.Pairwise (fun u w => u.2 ≠ w.2)) :
    ∀ u ∈ l, HoldsUnit sub nsid slba u (l.foldl (State.stageUnit sub nsid slba) s) := by
  induction l using List.reverseRecOn with
  | nil => exact fun _ hu => absurd hu List.not_mem_nil
  | append_singleton l w ih =>
    obtain ⟨hl, -, hlast⟩ := List.pairwise_append.mp hne
    intro u hu
    rw [List.foldl_append, List.foldl_cons, List.foldl_nil]
    rcases List.mem_append.mp hu with hu | hu
    · exact (ih hl u hu).stageUnit (hlast u hu w (List.mem_singleton_self _))
    · rw [List.mem_singleton.mp hu]
      exact holdsUnit_stageUnit ..

theorem holdsUnit_of_cht {slba : Nat} {u : GranuleUnit} {t : State} (h : HoldsUnit sub nsid slba u s) (hstaging : t.cht.staging = s.cht.staging) : HoldsUnit sub nsid slba u t := by
  unfold HoldsUnit
  rwa [hstaging]

theorem dirtyLevel_staging (s : State) : s.dirtyLevel.cht.staging = s.cht.staging := by
  unfold State.dirtyLevel
  split
  · split <;> rfl
  split
  · rw [raise_cht]
  · rfl

/-- The places of the blocks that carry data. -/
def Granule.places (g : Granule) : List Nat := (List.range 16).filter (fun i => !bitOf g.dealloc i && !bitOf g.lost i)

theorem places_full (hdealloc : g.dealloc = 0) (hlost : g.lost = 0) : g.places = List.range 16 := by
  rw [Granule.places, hdealloc, hlost]
  decide

theorem checks_length (h : g.checks = true) : g.units.length = g.places.length := by
  simp only [Granule.checks, Bool.and_eq_true, beq_iff_eq] at h
  simpa [Granule.places] using congrArg List.length h.1.1

theorem migGranuleRx_row_good (hn : s.ns? sub nsid = some n) (hcons : s.consumes = true) (hfits : g.slba + 16 ≤ n.size) (hchecks : g.checks = true) (hdealloc : g.dealloc = 0)
    (hlost : g.lost = 0) :
    exec (.migGranuleRx peer msgId sub nsid g) s =
      .next (((((g.units.zip g.places).foldl (State.stageUnit sub nsid g.slba) (atStep s)).dirtyLevel).startBrand n.group).closeStep s.dev.curStep) := by
  have hn' : (atStep s).ns? sub nsid = some n := hn
  have hgo : ¬ ((!(atStep s).consumes) = true ∨ n.size < g.slba + 16) := by
    have hcons' : (atStep s).consumes = true := hcons
    simp [hcons', hfits]
  have hzero : (List.range 16).filter (fun i => bitOf 0 i) = [] := by decide
  change execMigGranuleRx peer msgId sub nsid g s = _
  unfold execMigGranuleRx
  rw [inStep_eq]
  simp only [hn', if_neg hgo, hchecks, Bool.not_true, Bool.false_eq_true, if_false]
  simp only [hdealloc, hlost, hzero, List.foldl_nil, Granule.places]
  rfl

/-- A granule that passes its check, with data in every block, is staged whole. -/
theorem migGranuleRx_stages (hn : s.ns? sub nsid = some n) (hcons : s.consumes = true) (hfits : g.slba + 16 ≤ n.size) (hchecks : g.checks = true) (hdealloc : g.dealloc = 0)
    (hlost : g.lost = 0) :
    ∃ t, exec (.migGranuleRx peer msgId sub nsid g) s = .next t ∧
      ∀ i < 16, ∃ v ∈ t.cht.staging, v.is sub nsid (g.slba + i) = true ∧ (g.units[i]?).map (fun u => (u.1, u.2.2.1)) = some (v.data, v.hostTag) := by
  have hplaces := places_full hdealloc hlost
  have hlen : g.units.length = 16 := (checks_length hchecks).trans (by rw [hplaces, List.length_range])
  refine ⟨_, migGranuleRx_row_good hn hcons hfits hchecks hdealloc hlost, fun i hi => ?_⟩
  have hdiff : (g.units.zip g.places).Pairwise (fun u w => u.2 ≠ w.2) := by
    rw [← List.pairwise_map (f := Prod.snd), List.map_snd_zip (by rw [hplaces, List.length_range, hlen])]
    rw [hplaces]
    exact List.nodup_range
  have hi' : i < g.units.length := hlen ▸ hi
  have hmem : (g.units[i], i) ∈ g.units.zip g.places := by
    rw [hplaces]
    exact List.mem_iff_getElem.mpr ⟨i, by simpa [hlen] using hi, by simp⟩
  have hheld := holdsUnit_foldl sub nsid g.slba (atStep s) _ hdiff _ hmem
  obtain ⟨v, hv, his, hdata, htag⟩ := holdsUnit_of_cht hheld ((congrArg Cht.staging (startBrand_cht _ n.group)).trans (dirtyLevel_staging _))
  exact ⟨v, hv, his, by rw [List.getElem?_eq_getElem hi', Option.map_some, hdata, htag]⟩

/-- A granule that fails its check is answered with a NACK, and nothing of it is staged. -/
theorem migGranuleRx_refuses (hn : s.ns? sub nsid = some n) (hcons : s.consumes = true) (hfits : g.slba + 16 ≤ n.size) (hbad : g.checks = false) (hsend : CanSend s peer)
    (hpeer : peer < 2 ^ 32) (hid : msgId < 2 ^ 48) :
    ∃ t, exec (.migGranuleRx peer msgId sub nsid g) s = .next t ∧ SendsFlume s t opNack peer msgId ∧ t.cht.staging = s.cht.staging := by
  have hn' : (atStep s).ns? sub nsid = some n := hn
  have hgo : ¬ ((!(atStep s).consumes) = true ∨ n.size < g.slba + 16) := by
    have hcons' : (atStep s).consumes = true := hcons
    simp [hcons', hfits]
  have hrow : exec (.migGranuleRx peer msgId sub nsid g) s =
      .next (((atStep s).drawn.sendCtl ⟨peer, msgId, opNack, false, ((atStep s).free.toNat % 13 + 1) * 2 ^ 24, 0, none, none, 3⟩).closeStep s.dev.curStep) := by
    change execMigGranuleRx peer msgId sub nsid g s = _
    unfold execMigGranuleRx
    rw [inStep_eq]
    simp only [hn', if_neg hgo, hbad, Bool.not_false, if_true]
  have hgo' : CanSend (atStep s).drawn peer := hsend
  generalize hc : (⟨peer, msgId, opNack, false, ((atStep s).free.toNat % 13 + 1) * 2 ^ 24, 0, none, none, 3⟩ : CtlPkt) = c at hrow
  have hsent : SendsFlume (atStep s).drawn ((atStep s).drawn.sendCtl c) opNack peer msgId := by
    have hnack : opNack < 256 := by decide
    subst hc
    exact sendCtl_sends hgo' hnack hpeer hid
  have hcht := (keeps_State_sendCtl c rfl (Keeps.refl false 25232291 (atStep s).drawn)).part .cht (by decide)
  exact ⟨_, hrow, sendsFlume_mono hsent ⟨[], rfl⟩ ⟨[], rfl⟩, congrArg Cht.staging hcht⟩

end

/-! ## O30 -/

/-- Settles O30: each command's row is worked out once; the work that follows it leaves the fields reported in and the events raised (`Stands`), and messages as they were made (`Descends`). -/
theorem migrationDumpAndRecovery : Obligations.MigrationDumpAndRecovery := by
  unfold Obligations.MigrationDumpAndRecovery
  refine ⟨?send, ?done, ?receive, ?wait, ?complete, ?recovery, ?retire⟩
  case send =>
    intro slot blocks m n s hm hn hcons hrun hstate hpass hcur hs
    exact migGranuleSend_sends hm hn hcons hrun hstate hpass hcur hs blocks
  case done =>
    intro slot m n s hm hn hstate htodo hmarked hfly hcur
    exact migDone_ends hm hn hstate htodo hmarked hfly hcur
  case receive =>
    intro peer msgId sub nsid g n s hn hcons hfits
    exact ⟨fun hgood hdealloc hlost => migGranuleRx_stages hn hcons hfits hgood hdealloc hlost,
      fun hbad hsend hpeer hid => migGranuleRx_refuses hn hcons hfits hbad hsend hpeer hid⟩
  case wait =>
    intro d s hd hstage hdue
    exact dumpWriteWaitExpiry_begins hd hstage hdue
  case complete =>
    intro d s hd hstage hidle
    exact dumpComplete_reports hd hstage hidle
  case recovery =>
    intro maps exts s hrole hrec
    refine ⟨recovery_without_dump hrole hrec maps exts, fun f hlive hcomplete hfirst hsegs hlost hctrl => ?_⟩
    obtain ⟨c, hc, htally⟩ := Option.map_eq_some_iff.mp hctrl
    exact recovery_of_dump hrole hrec hlive hcomplete hfirst hsegs hlost hc htally maps exts
  case retire =>
    intro seq vs s hrec hd hclean
    exact dumpRetireRecovered_reports hrec hd hclean

end Sys2Proof.Machine
end

section
/-!
PROOFS. O31 (09_whipsaw_pair.md, R320, R333, R334): a refutation by a register counter beyond its table.

As for O19 and O26: the count of green packets of meter 176,136, which nothing in `State` forbids, is WSW_HB_MISS. HEARTBEAT_TIMEOUT counts there, and a leader that then serves alone releases what
it held for its partner's acknowledgement, through that meter.
-/
namespace Sys2Proof.Machine

/-- A meter on class 0 of logical port 0 with both buckets full; its number lies beyond the 1,024 of TC_MTR_GREEN. -/
def greenMeter : PatRec := { type := 0x0082, inst := 176136, body := [0, 0, 0, 0, 1, 0, 0, 0] ++ zeroBytes 16 ++ List.replicate 8 0xFF }

theorem greenMeter_counter_is_hbMiss : F.TC_MTR_GREEN.COUNT.key greenMeter.inst 0 = F.WSW_HB_MISS.COUNT.key 0 0 := by decide

/-- A leader that has heard no HEARTBEAT for 8 µs, and holds a segment until the partner has acknowledged it (R320). -/
def deafLeader : State :=
  let s := State.reset.set F.WSW_STATUS.ROLE roleLeader
  { s with
    dev := { s.dev with timeNs := 8000 }
    pat := { s.pat with live := [greenMeter] }
    wsw := { s.wsw with heldOut := [(0, .tcp 0 0 100 1 (.capsuleResp []))] } }

theorem deafLeader_times_out : deafLeader.wsw.lastHbRxNs + 8000 ≤ deafLeader.dev.timeNs ∧ deafLeader.role = roleLeader := by decide +kernel

/-- WSW_HB_MISS where a row has ended in a next state. -/
def hbMissAfter : Result → Option Nat
  | .next t => some (t.get F.WSW_HB_MISS.COUNT)
  | .fault _ => none
  | .refused _ => none

/-- Four misses, and a count of 5. -/
theorem hbMissAfter_heartbeatTimeout_deafLeader : hbMissAfter (exec (.heartbeatTimeout .follower) deafLeader) = some 5 := by decide +kernel

theorem deafLeader_count : deafLeader.get F.WSW_HB_MISS.COUNT = 0 := by decide +kernel

/-- Refutes O31 in its clause of a leader beside a live waveform: what it held for the partner leaves when it comes to serve alone, and can itself count at WSW_HB_MISS, through a meter beyond
the table. -/
theorem not_pairRoles : ¬ Obligations.PairRoles := by
  rintro ⟨-, -, -, hheartbeat, -⟩
  obtain ⟨hdue, hrole⟩ := deafLeader_times_out
  obtain ⟨t, ht, -, -, -, -, hfour⟩ := (hheartbeat .follower deafLeader hdue).2 (.inr rfl) hrole
  have hfive := hbMissAfter_heartbeatTimeout_deafLeader
  rw [ht] at hfive
  rw [deafLeader_count] at hfour
  exact absurd (hfour.symm.trans (Option.some.inj hfive)) (by decide)

end Sys2Proof.Machine
end

section
/-!
PROOFS. What work for drives, on the link and in the stream leaves (09_whipsaw_pair.md): the fields of the pair and the events of word 16, which are those of this chapter; and what a link frame
leaves of the part of the pair.
-/
namespace Sys2Proof.Machine

/-! ## Fields that no such work writes -/

/-- Role, partner and phase of a resync, profile and side. -/
def pairWatch : List Nat :=
  [F.WSW_STATUS.ROLE.key 0 0, F.WSW_STATUS.PARTNER.key 0 0, F.WSW_RESYNC.PHASE.key 0 0, F.GLB_SIDE.PROFILE.key 0 0, F.GLB_SIDE.SIDE.key 0 0]

/-- Counters and event status stand at bit 0 of their registers, behind that of the side; so none of them is watched, whatever copy is written. -/
theorem low_not_pairWatch (f : Fld) (i j : Nat) (hlo : f.lo = 0) (hoff : 0x20000 ≤ f.off) : f.key i j ∉ pairWatch := by
  simp only [pairWatch, List.mem_cons, List.not_mem_nil, or_false, not_or, Fld.key, Fld.at, hlo, F.WSW_STATUS.ROLE, F.WSW_STATUS.PARTNER, F.WSW_RESYNC.PHASE, F.GLB_SIDE.PROFILE,
    F.GLB_SIDE.SIDE]
  omega

theorem status_not_pairWatch (n : Nat) : F.EVT_STATUS.STATUS.key n 0 ∉ pairWatch := low_not_pairWatch _ _ _ rfl (by decide)

/-- The watched fields read as before, and no status bit of the events 0x200 to 0x21F is cleared. -/
structure PairKept (s t : State) : Prop where
  reads : ∀ (g : Fld) (m n : Nat), g.key m n ∈ pairWatch → t.get g m n = s.get g m n
  events : ∀ i < 32, bitOf (s.get F.EVT_STATUS.STATUS 16) i = true → bitOf (t.get F.EVT_STATUS.STATUS 16) i = true

section
variable {s t u : State}

theorem PairKept.refl (s : State) : PairKept s s := ⟨fun _ _ _ _ => rfl, fun _ _ h => h⟩

theorem PairKept.trans (h : PairKept s t) (h' : PairKept t u) : PairKept s u :=
  ⟨fun g m n hk => (h'.reads g m n hk).trans (h.reads g m n hk), fun i hi hb => h'.events i hi (h.events i hi hb)⟩

theorem PairKept.role (h : PairKept s t) : t.role = s.role := h.reads F.WSW_STATUS.ROLE 0 0 (by decide)

theorem PairKept.partner (h : PairKept s t) : t.get F.WSW_STATUS.PARTNER = s.get F.WSW_STATUS.PARTNER := h.reads _ 0 0 (by decide)

theorem PairKept.phase (h : PairKept s t) : t.get F.WSW_RESYNC.PHASE = s.get F.WSW_RESYNC.PHASE := h.reads _ 0 0 (by decide)

theorem PairKept.profile (h : PairKept s t) : t.profile = s.profile := h.reads F.GLB_SIDE.PROFILE 0 0 (by decide)

theorem PairKept.sideB (h : PairKept s t) : t.sideB = s.sideB := congrArg (· == 1) (h.reads F.GLB_SIDE.SIDE 0 0 (by decide))

/-- The status bit of an event of word 16 is set when it is raised, and stays. -/
theorem PairKept.raised {e : Nat} (he : e / 32 = 16) (h : PairKept (s.raise e) t) : bitOf (t.get F.EVT_STATUS.STATUS 16) (e % 32) = true :=
  h.events _ (Nat.mod_lt _ (by decide)) (he ▸ raise_bit s e)

theorem PairKept.of_regs (h : PairKept s t) (hregs : u.regs = t.regs) : PairKept s u := by
  refine h.trans ⟨fun g m n _ => ?_, fun i _ hb => ?_⟩
  · unfold State.get
    rw [hregs]
  · unfold State.get at hb ⊢
    rwa [hregs]

/-- Operations that do not change registers. -/
theorem PairKept.keeps {p : Bool} {A : Nat} (h : PairKept s t) (hk : Keeps p A t u) (hregs : A &&& 1 ≠ 1) : PairKept s u := h.of_regs (hk.part .regs hregs)

theorem PairKept.ite {c : Prop} [Decidable c] (h : PairKept s t) (h' : PairKept s u) : PairKept s (if c then t else u) := by
  split <;> assumption

theorem PairKept.foldl {α : Type} {f : State → α → State} (l : List α) (hf : ∀ t x, PairKept s t → PairKept s (f t x)) (h : PairKept s t) : PairKept s (l.foldl f t) :=
  List.foldlRecOn (motive := PairKept s) l f h (fun t ht x _ => hf t x ht)

theorem PairKept.set (h : PairKept s t) (f : Fld) (v i j : Nat) (hk : f.key i j ∉ F.EVT_STATUS.STATUS.key 16 0 :: pairWatch) : PairKept s (t.set f v i j) := by
  obtain ⟨he, hw⟩ := not_or.mp (List.mem_cons.not.mp hk)
  refine h.trans ⟨fun g m n hg => get_set_other _ _ _ _ _ _ _ _ (fun e => hw (e ▸ hg)), fun i _ hb => ?_⟩
  rwa [get_set_other _ _ _ _ _ _ _ _ he]

/-- A counter behind the event matrix. -/
theorem PairKept.low (h : PairKept s t) (f : Fld) (v i j : Nat) (hlo : f.lo = 0) (hoff : 0x20100 ≤ f.off) : PairKept s (t.set f v i j) := by
  refine h.set f v i j (List.mem_cons.not.mpr (not_or.mpr ⟨?_, low_not_pairWatch f i j hlo (by omega)⟩))
  simp only [Fld.key, Fld.at, F.EVT_STATUS.STATUS]
  omega

theorem PairKept.bump (h : PairKept s t) (f : Fld) (i j : Nat) (hlo : f.lo = 0) (hoff : 0x20100 ≤ f.off) : PairKept s (t.bump f i j) := h.low f _ i j hlo hoff

theorem PairKept.raise (h : PairKept s t) (e : Nat) : PairKept s (t.raise e) := by
  refine h.trans ⟨fun _ _ _ hg => get_raise _ _ _ _ _ (fun hk => status_not_pairWatch (e / 32) (hk ▸ hg)), fun i hi hb => ?_⟩
  by_cases hn : e / 32 = 16
  · have hs := raise_status t e
    rw [hn] at hs
    rw [hs, bitOf_mod _ _ _ hi]
    exact bitOf_withBit_of _ _ _ hb
  · rwa [get_raise]
    simp only [Fld.key, Fld.at, F.EVT_STATUS.STATUS]
    omega

theorem PairKept.raiseLimited (h : PairKept s t) (e : Nat) : PairKept s (t.raiseLimited e) := by
  refine h.ite (PairKept.raise ?_ e)
  exact h.of_regs rfl

/-- A Ledger record writes the Ledger's fields alone. -/
theorem PairKept.ledger (h : PairKept s t) (code island source : Nat) (detail : List Byte) : PairKept s (t.ledger code island source detail) := by
  have hquiet : ∀ k ∈ ledgerKeys, k ∉ pairWatch := by decide
  refine h.trans ⟨fun _ _ _ hg => get_ledger _ _ _ _ _ _ _ _ (fun hk => hquiet _ hk hg), fun i _ hb => ?_⟩
  rwa [get_ledger _ _ _ _ _ _ _ _ (by decide)]

theorem PairKept.addCounter (h : PairKept s t) (i weight : Nat) : PairKept s (t.addCounter i weight) := by
  have hc := h.low F.SCL_CNT.COUNT (t.get F.SCL_CNT.COUNT i + weight) i 0 rfl (by decide)
  exact hc.ite ((hc.low F.SCL_OVF.OVF _ _ 0 rfl (by decide)).raiseLimited 0x480)

theorem PairKept.count (h : PairKept s t) (unit inst event weight : Nat) : PairKept s (t.count unit inst event weight) :=
  PairKept.ite (h.foldl _ (fun _ i h => (h.addCounter i weight).ite h)) h

/-! ## Commands to drives (R210, R335, R407) -/

theorem PairKept.yardTake {st cls n : Nat} {is : List Nat} (h : PairKept s t) (hu : State.yardTake st cls n t = some (u, is)) : PairKept s u := by
  induction n generalizing t u is with
  | zero =>
    cases hu
    exact h
  | succ n ih =>
    unfold State.yardTake at hu
    extract_lets low at hu
    split at hu
    · cases hu
    split at hu
    · cases hu
    extract_lets t1 t2 t3 at hu
    have h1 : PairKept s t1 := h.of_regs rfl
    have h2 : PairKept s t2 := h1.count 5 _ 0 _
    have h3 : PairKept s t3 := (h2.raise 0x1A7).ite h2
    split at hu
    · cases hu
    · rename_i v is' hv
      cases hu
      exact ih h3 hv

theorem PairKept.queueDrv (h : PairKept s t) (c : DrvCmd) : PairKept s (t.queueDrv c) :=
  h.keeps (keeps_State_queueDrv c rfl (Keeps.refl false 66560 t)) (by decide)

theorem PairKept.equip (h : PairKept s t) (c : DrvCmd) : PairKept s (t.equip c).1 := by
  unfold State.equip
  split
  · exact h.queueDrv c
  split
  · exact h
  rename_i v bufs hv
  have hv := h.yardTake hv
  split
  · exact h
  extract_lets d t1 t2
  have h1 : PairKept s t1 := hv.of_regs rfl
  have h2 : PairKept s t2 := h1.foldl _ (fun t x h => h.keeps (keeps_State_fillBuf x.1 x.2 rfl (Keeps.refl false 7340032 t)) (by decide))
  exact h2.queueDrv _

theorem PairKept.launch (h : PairKept s t) (c : DrvCmd) : PairKept s (t.launch c) := by
  refine PairKept.ite (h.of_regs rfl) (PairKept.ite (h.of_regs rfl) ?_)
  have he := h.equip c
  generalize t.equip c = x at he ⊢
  refine PairKept.ite he (PairKept.bump (PairKept.count ?_ 5 _ 1 _) F.YRD_WAIT.COUNT 0 0 rfl (by decide))
  exact h.of_regs rfl

theorem PairKept.foldDrv (h : PairKept s t) (c : DrvCmd) : PairKept s (t.foldDrv c) := h.of_regs (fold_regs ..)

theorem PairKept.reissue (h : PairKept s t) (c : DrvCmd) : PairKept s (t.reissue c) := by
  unfold State.reissue
  extract_lets t1 drv
  have h1 : PairKept s t1 := h.keeps (keeps_State_unequip c true rfl (Keeps.refl false 73728 t)) (by decide)
  split
  extract_lets n t2 t3 t4
  have h2 : PairKept s t2 := h1.of_regs rfl
  have h3 : PairKept s t3 := h2.foldDrv n
  have h4 : PairKept s t4 := (h3.bump F.DP_PROXY.COUNT c.port 0 rfl (by decide)).ite h3
  exact (h4.launch n).ite h4

theorem PairKept.resvCmd (h : PairKept s t) (port op : Nat) (use : DrvUse) : PairKept s (t.resvCmd port op use) := by
  refine PairKept.launch (PairKept.foldDrv ?_ _) _
  exact h.of_regs rfl

theorem PairKept.registerKeys (h : PairKept s t) : PairKept s t.registerKeys :=
  h.foldl _ (fun _ _ h => (h.resvCmd ..).ite h)

/-! ## Outputs, link frames and inputs (R309, R320, R326) -/

/-- A meter counts at the bottom of a register, whatever its number. -/
theorem PairKept.meterUnit (h : PairKept s t) (m n : Nat) (pre : Colour) : PairKept s (t.meterUnit m n pre).1 := by
  unfold State.meterUnit
  generalize t.colour m n pre = cx
  obtain ⟨c, x⟩ := cx
  have hm : PairKept s ({ t with tc := { t.tc with meters := sparseInsert m x t.tc.meters } } : State) := h.of_regs rfl
  cases c
  · exact hm.bump _ _ _ rfl (by decide)
  · exact hm.bump _ _ _ rfl (by decide)
  · exact (hm.bump F.TC_MTR_RED.COUNT m 0 rfl (by decide)).raiseLimited 0xC3

theorem PairKept.enqueue (h : PairKept s t) (p cls : Nat) (x : TcUnit) : PairKept s (t.enqueue p cls x) := h.of_regs (enqueue_regs ..)

theorem PairKept.egress (h : PairKept s t) (lport cls : Nat) (x : TcUnit) : PairKept s (t.egress lport cls x) := by
  unfold State.egress
  split
  · exact h.enqueue _ _ _
  · rename_i m _
    have hm := h.meterUnit m x.len .green
    generalize t.meterUnit m x.len .green = sc at hm ⊢
    exact (hm.enqueue _ _ _).ite (PairKept.ite ((hm.bump F.TC_MTR_MARKED.COUNT m 0 rfl (by decide)).enqueue _ _ _) hm)

theorem PairKept.ownEgress (h : PairKept s t) (lport cls len : Nat) : PairKept s (t.ownEgress lport cls len) :=
  PairKept.egress (t := { t with tc := { t.tc with ownCtr := t.tc.ownCtr + 1 } }) (h.of_regs rfl) _ _ _

theorem PairKept.release (h : PairKept s t) (o : Out) : PairKept s (t.release o) := by
  have hemit : PairKept s (t.emit o) := h.of_regs rfl
  unfold State.release
  split
  · exact h
  · split
    · exact hemit.ownEgress _ _ _
    · exact hemit.ownEgress _ _ _
    · exact hemit

theorem PairKept.linkAcked (h : PairKept s t) (ack : Nat) : PairKept s (t.linkAcked ack) :=
  PairKept.foldl _ (fun _ _ h => h.release _) (h.of_regs rfl)

theorem PairKept.linkAck (h : PairKept s t) (ack : Nat) : PairKept s (t.linkAck ack) := (h.linkAcked ack).of_regs rfl

theorem PairKept.putLink (h : PairKept s t) (lseq : Nat) (replay nak : Bool) (b : LinkBody) : PairKept s (t.putLink lseq replay nak b) := by
  refine PairKept.of_regs (PairKept.count ?_ 9 0 1 _) rfl
  exact h.of_regs rfl

theorem PairKept.sendLink (h : PairKept s t) (b : LinkBody) : PairKept s (t.sendLink b) := by
  refine PairKept.ite (PairKept.putLink ?_ _ _ _ _) h
  exact h.of_regs rfl

theorem PairKept.sendInput (h : PairKept s t) (r : InputRec) : PairKept s (t.sendInput r) := PairKept.ite ((h.sendLink _).count _ _ _ _) h

theorem PairKept.number (h : PairKept s t) (sideB refOnly : Bool) (origin : Nat) (i : Input) : PairKept s (t.number sideB refOnly origin i) := by
  refine PairKept.sendInput ?_ _
  exact h.of_regs rfl

theorem PairKept.observe (h : PairKept s t) (i : Input) : PairKept s (t.observe i) := by
  unfold State.observe
  extract_lets origin wsw u
  have hu : PairKept s u := h.of_regs rfl
  refine PairKept.ite (hu.number _ _ _ _) (PairKept.ite (PairKept.sendLink ?_ _) hu)
  exact hu.of_regs rfl

theorem PairKept.tick (h : PairKept s t) (us : Nat) : PairKept s (t.tick us) := by
  refine PairKept.number ?_ ..
  exact h.of_regs rfl

theorem PairKept.missedTicks (h : PairKept s t) : PairKept s t.missedTicks :=
  (h.foldl _ (fun _ _ h => h.tick _)).of_regs rfl

theorem PairKept.numberForwarded (h : PairKept s t) : PairKept s t.numberForwarded :=
  PairKept.foldl _ (fun _ _ h => h.number ..) (h.of_regs rfl)

/-! ## Commits (R68, R70) -/

theorem PairKept.startCommit (h : PairKept s t) (cs : List StoreChange) : PairKept s (t.startCommit cs) := by
  unfold State.startCommit
  refine PairKept.ite (((h.set F.STORE_STATUS.RESULT _ 0 0 (by decide)).ledger ..).raise 0x00A) (PairKept.set ?_ F.STORE_STATUS.BUSY _ 0 0 (by decide))
  exact h.of_regs rfl

theorem PairKept.commit (h : PairKept s t) (cs : List StoreChange) : PairKept s (t.commit cs) :=
  PairKept.ite (h.of_regs rfl) (h.startCommit cs)

theorem PairKept.joinStore (h : PairKept s t) : PairKept s t.joinStore := by
  unfold State.joinStore
  extract_lets held
  refine h.ite ((h.commit _).ite ?_)
  split
  · exact h.commit _
  · exact h.commit _

end

/-! ## What a link frame leaves of the part of the pair (R326) -/

/-- The part of the pair but for what the frames sent on the link leave behind. -/
def Wsw.unsent (w : Wsw) : Wsw := { w with txSeq := 0, sent := [], lastSentNs := 0 }

section
variable (s : State)

theorem putLink_unsent (lseq : Nat) (replay nak : Bool) (b : LinkBody) : (s.putLink lseq replay nak b).wsw.unsent = s.wsw.unsent := by
  unfold State.putLink
  extract_lets n u
  have hu : u.wsw = s.wsw := count_wsw ..
  have hw : u.wsw.unsent = s.wsw.unsent := by rw [hu]
  exact hw

theorem sendLink_unsent (b : LinkBody) : (s.sendLink b).wsw.unsent = s.wsw.unsent := by
  unfold State.sendLink
  split
  · exact putLink_unsent ..
  · rfl

theorem sendInput_unsent (r : InputRec) : (s.sendInput r).wsw.unsent = s.wsw.unsent := by
  unfold State.sendInput
  split
  · rw [count_wsw, sendLink_unsent]
  · rfl

/-- A numbered record joins the stream behind those before it. -/
theorem number_inputs (sideB refOnly : Bool) (origin : Nat) (i : Input) :
    (s.number sideB refOnly origin i).wsw.inputs = s.wsw.inputs ++ [⟨s.wsw.lastNumber + 1, sideB, false, origin, i⟩] :=
  congrArg Wsw.inputs (sendInput_unsent ..)

theorem sendDirty_unsent : s.sendDirty.wsw.unsent = { s.wsw.unsent with resyncSent := s.pieces.zipIdx.map (fun p => (p.2, p.1)) } := by
  unfold State.sendDirty
  extract_lets now dirty
  refine List.foldlRecOn (motive := fun t : State => t.wsw.unsent = _) _ _ rfl (fun t ht p _ => ?_)
  rw [sendLink_unsent, ht]

/-- What a numbering controller observes is its next input (R309). -/
theorem observe_inputs (i : Input) (h : s.numbers = true) :
    (s.observe i).wsw.inputs = s.wsw.inputs ++ [⟨s.wsw.lastNumber + 1, s.sideB, false, s.wsw.origin, i⟩] := by
  unfold State.observe
  extract_lets origin wsw u
  have hu : u.numbers = true := h
  rw [if_pos hu]
  exact number_inputs ..

end

end Sys2Proof.Machine
end

section
/-!
PROOFS. O36 (10_ports_landing.md, R350, R352, R359, R360, R362; 09_whipsaw_pair.md, R309, R311): frames for a cluster or the Flume unit.

What a frame meets on its way counts, takes buffers and sends PFC; `PairKept` says that the controller is still the one that numbers.
-/
namespace Sys2Proof.Machine

section
variable {s t u v : State}

/-! ## PFC (R358) -/

theorem PairKept.sendPfc (h : PairKept s t) (lport cls quanta : Nat) : PairKept s (t.sendPfc lport cls quanta) := by
  refine h.ite (PairKept.bump ?_ F.HP_PFC_TX.COUNT _ _ rfl (by decide))
  exact h.of_regs rfl

theorem PairKept.pfcClass (h : PairKept s t) (lport cls : Nat) : PairKept s (t.pfcClass lport cls) := by
  unfold State.pfcClass
  extract_lets x on
  refine PairKept.ite (PairKept.raise (PairKept.sendPfc ?_ ..) _) (PairKept.ite (PairKept.sendPfc ?_ ..) h)
  · exact h.of_regs rfl
  · exact h.of_regs rfl

theorem PairKept.pfcCheck (h : PairKept s t) (p : Nat) : PairKept s (t.pfcCheck p) :=
  h.foldl _ (fun _ _ h => (h.foldl _ (fun _ _ h => (h.pfcClass ..).ite h)).ite h)

theorem pfcCheck_wsw (s : State) (p : Nat) : (s.pfcCheck p).wsw = s.wsw := (keeps_State_pfcCheck p rfl (Keeps.refl false 8519715 s)).part .wsw (by decide)

theorem yardTake_wsw {st cls n : Nat} {bufs : List Nat} (h : State.yardTake st cls n s = some (v, bufs)) : v.wsw = s.wsw :=
  (KeepsO.of_eq h (keeps_State_yardTake st cls n rfl (Keeps.refl false 25174051 s))).part .wsw (by decide)

/-! ## A controller that serves alone (R301, R309) -/

theorem numbers_of_alone (h : s.role = roleAlone) : s.numbers = true := by simp [State.numbers, h]

theorem consumes_of_alone (h : s.role = roleAlone) : s.consumes = true := by simp [State.consumes, h]

/-- A frame that nothing mirrors and that gets its buffers is observed. -/
theorem forward_observes {l cls : Nat} {f : List Byte} {bufs : List Nat} (hrole : u.role = roleAlone) (hsolo : u.profile = 0) (hmirrors : u.mirrors l = [])
    (hbufs : State.yardTake (l / 8) cls ((f.length + 4095) / 4096) u = some (v, bufs)) :
    ∃ w : State, u.forward l cls f false false = w.observe (.hostFrame l f false) ∧ PairKept u w ∧ w.wsw = u.wsw := by
  generalize hw : (v.count 2 (l / 8) 3).pfcCheck (l / 8) = w
  have hkept : PairKept u w := hw ▸ (((PairKept.refl u).yardTake hbufs).count ..).pfcCheck _
  have hwsw : w.wsw = u.wsw := by rw [← hw, pfcCheck_wsw, count_wsw, yardTake_wsw hbufs]
  have hrole' : w.role = roleAlone := hkept.role.trans hrole
  refine ⟨{ w with hp := { w.hp with frames := w.hp.frames ++ [(w.wsw.origin, bufs)] } }, ?_, hkept.of_regs rfl, hwsw⟩
  simp [State.forward, hsolo, hmirrors, hbufs, hw, consumes_of_alone hrole']

/-- The frame's record is the next of the stream (R309, R311). -/
theorem forward_numbers {l cls : Nat} {f : List Byte} {bufs : List Nat} (hrole : u.role = roleAlone) (hsolo : u.profile = 0) (hmirrors : u.mirrors l = [])
    (hbufs : State.yardTake (l / 8) cls ((f.length + 4095) / 4096) u = some (v, bufs)) :
    (u.forward l cls f false false).wsw.inputs = u.wsw.inputs ++ [⟨u.wsw.lastNumber + 1, u.sideB, false, u.wsw.origin, .hostFrame l f false⟩] := by
  obtain ⟨w, hforward, hkept, hwsw⟩ := forward_observes hrole hsolo hmirrors hbufs
  rw [hforward, observe_inputs _ _ (numbers_of_alone (hkept.role.trans hrole)), hkept.sideB, hwsw]

/-! ## HOST_FRAME_RX -/

/-- The addresses of a logical port stay while a frame is counted (R352). -/
theorem acceptsMac_count (s : State) (unit inst event weight lport mac : Nat) : (s.count unit inst event weight).acceptsMac lport mac = s.acceptsMac lport mac := by
  have hmac : (s.count unit inst event weight).dev.fuseMac = s.dev.fuseMac :=
    congrArg Prod.fst (keeps_State_count unit inst event weight rfl (Keeps.refl false 8388643 s)).fuses
  rw [State.acceptsMac, State.acceptsMac, State.lportMac, State.lportMac, hmac, count_fx]

/-- The state once a frame that a logical port receives has been counted (R505). -/
def State.frameSeen (s : State) (l n : Nat) : State := (s.count 1 l 0).count 1 l 1 n

/-- The state once it has come to the lookup. -/
def State.frameLooked (s : State) (l n : Nat) : State := ((s.frameSeen l n).count 2 (l / 8) 0).count 2 (l / 8) 1 n

theorem frameSeen_wsw (s : State) (l n : Nat) : (s.frameSeen l n).wsw = s.wsw := by rw [State.frameSeen, count_wsw, count_wsw]

theorem frameLooked_wsw (s : State) (l n : Nat) : (s.frameLooked l n).wsw = s.wsw := by rw [State.frameLooked, count_wsw, count_wsw, frameSeen_wsw]

theorem pairKept_frameSeen (s : State) (l n : Nat) : PairKept s (s.frameSeen l n) := ((PairKept.refl s).count ..).count ..

theorem pairKept_frameLooked (s : State) (l n : Nat) : PairKept s (s.frameLooked l n) := ((pairKept_frameSeen s l n).count ..).count ..

/-- A class that no ingress meter watches passes as it is (R381). -/
theorem ingressMeter_none {l cls : Nat} {f : List Byte} (h : s.meterAt 0 l cls = none) : s.ingressMeter l cls f = (s, false) := by
  simp only [State.ingressMeter, h]

section
variable {l : Nat} {f : List Byte}

/-- A good frame to an accepted address that the lookup does not discard, and that no meter takes, goes on (R350, R352, R360). -/
theorem exec_hostFrameRx_forwards (hl : l < 32) (hup : s.lportUp l = true) (hmin : 64 ≤ f.length) (hmax : f.length ≤ 9216) (htype : etherType f ≠ 0x8808)
    (hmac : s.acceptsMac l (beNat (f.take 6)) = true) (hdest : (s.frameLooked l f.length).lookup l f ≠ .discard)
    (hmeter : (s.frameLooked l f.length).meterAt 0 l ((s.frameLooked l f.length).lookup l f).cls = none) :
    exec (.hostFrameRx l f .good false) s =
      .next ((s.frameLooked l f.length).forward l ((s.frameLooked l f.length).lookup l f).cls f false false) := by
  have hmac' : (s.frameSeen l f.length).acceptsMac l (beNat (f.take 6)) = true := by rw [State.frameSeen, acceptsMac_count, acceptsMac_count, hmac]
  have hred := ingressMeter_none (f := f) hmeter
  unfold State.frameLooked State.frameSeen at *
  change execHostFrameRx l f .good false s = _
  unfold execHostFrameRx
  simp [hup, hl.not_ge, hmin.not_gt, hmax.not_gt, htype, hmac', hdest, hred]

/-- A frame shorter than 64 bytes goes no further (R350). -/
theorem exec_hostFrameRx_runt (hl : l < 32) (hup : s.lportUp l = true) (hshort : f.length < 64) :
    exec (.hostFrameRx l f .good false) s = .next ((s.frameSeen l f.length).rxError F.HP_RX_RUNT.COUNT l) := by
  change execHostFrameRx l f .good false s = _
  unfold execHostFrameRx
  rw [if_neg (by simp [hup]; omega)]
  dsimp only
  rw [if_pos hshort]
  rfl

end

end

/-! ## What the Scaler leaves (R503, R505) -/

/-- Registers below the Scaler's, but for the events of word 36, are none that a count writes. -/
theorem get_addCounter_below (s : State) (i weight : Nat) (g : Fld) (m n : Nat) (hbelow : g.key m n < F.SCL_CNT.COUNT.key 0 0) (hevent : F.EVT_STATUS.STATUS.key 36 0 ≠ g.key m n) :
    (s.addCounter i weight).get g m n = s.get g m n := by
  have hcnt : F.SCL_CNT.COUNT.key i 0 ≠ g.key m n := by
    simp only [Fld.key, Fld.at, F.SCL_CNT.COUNT] at hbelow ⊢
    omega
  have hovf : F.SCL_OVF.OVF.key (i / 32) 0 ≠ g.key m n := by
    simp only [Fld.key, Fld.at, F.SCL_CNT.COUNT, F.SCL_OVF.OVF] at hbelow ⊢
    omega
  unfold State.addCounter
  extract_lets v t
  have ht : t.get g m n = s.get g m n := get_set_other _ _ _ _ _ _ _ _ hcnt
  split
  · exact ht
  · rw [get_raiseLimited _ 0x480 _ _ _ hevent, get_set_other _ _ _ _ _ _ _ _ hovf, ht]

theorem get_count_below (s : State) (unit inst event weight : Nat) (g : Fld) (m n : Nat) (hbelow : g.key m n < F.SCL_CNT.COUNT.key 0 0)
    (hevent : F.EVT_STATUS.STATUS.key 36 0 ≠ g.key m n) : (s.count unit inst event weight).get g m n = s.get g m n := by
  unfold State.count
  split
  · refine List.foldlRecOn (motive := fun t : State => t.get g m n = s.get g m n) _ _ rfl (fun t ht i _ => ?_)
    split
    · rw [get_addCounter_below _ _ _ _ _ _ hbelow hevent, ht]
    · exact ht
  · rfl

/-- R373: an error of reception counts by one. -/
theorem get_rxError_runt (s : State) {l : Nat} (n : Nat) (hl : l < 32) :
    ((s.frameSeen l n).rxError F.HP_RX_RUNT.COUNT l).get F.HP_RX_RUNT.COUNT (l / 8) (l % 8) = satIncr32 (s.get F.HP_RX_RUNT.COUNT (l / 8) (l % 8)) % 2 ^ 32 := by
  have hbelow : F.HP_RX_RUNT.COUNT.key (l / 8) (l % 8) < F.SCL_CNT.COUNT.key 0 0 := by
    simp only [Fld.key, Fld.at, F.HP_RX_RUNT.COUNT, F.SCL_CNT.COUNT]
    omega
  have hevent : ∀ e < 2048, F.EVT_STATUS.STATUS.key (e / 32) 0 ≠ F.HP_RX_RUNT.COUNT.key (l / 8) (l % 8) := by
    intro e he
    simp only [Fld.key, Fld.at, F.EVT_STATUS.STATUS, F.HP_RX_RUNT.COUNT]
    omega
  unfold State.rxError
  rw [get_raiseLimited _ _ _ _ _ (hevent _ (by omega)), get_bump_same, State.frameSeen, get_count_below _ _ _ _ _ _ _ _ hbelow (hevent 1152 (by decide)),
    get_count_below _ _ _ _ _ _ _ _ hbelow (hevent 1152 (by decide))]
  rfl

/-- Settles O36: on its way a frame counts and takes buffers, and is then observed by a controller that still numbers; a runt ends at its counter. -/
theorem hostFramesAreNumbered : Obligations.HostFramesAreNumbered := by
  intro l f s hl hup hsolo
  obtain ⟨hrole, hprofile⟩ := hsolo
  have hkept := pairKept_frameLooked s l f.length
  refine ⟨fun v bufs hmin hmax htype hmac hdest hmeter hmirrors hbufs => ⟨_, exec_hostFrameRx_forwards hl hup hmin hmax htype hmac hdest hmeter, ?_⟩,
    fun hshort => ⟨_, exec_hostFrameRx_runt hl hup hshort, ?_, get_rxError_runt s _ hl⟩⟩
  · have hnumbered := forward_numbers (cls := ((s.frameLooked l f.length).lookup l f).cls) (f := f) (hkept.role.trans hrole) (hkept.profile.trans hprofile) hmirrors hbufs
    rw [hnumbered, hkept.sideB, frameLooked_wsw]
  · rw [State.rxError, raiseLimited_wsw, bump_wsw, frameSeen_wsw]

end Sys2Proof.Machine
end

section
/-!
PROOFS. O33 (09_whipsaw_pair.md, R301, R317, R340, R345): the passes, the cut and the end of a resync.
-/
namespace Sys2Proof.Machine

section
variable {s t u : State}

/-! ## Frames in order (R328) -/

/-- The state once a frame that is next in order has been acknowledged; its body acts on this. -/
def State.received (s : State) (fr : LinkFrame) : State := ({ s with wsw := { s.wsw with rxSeq := s.wsw.rxSeq + 1 } } : State).linkAck fr.ack

theorem onFrame_next {fr : LinkFrame} {b : LinkBody} (h : NextFrame s fr b) (f : State → State) : s.onFrame fr f = f (s.received fr) := by
  obtain ⟨hup, hcrc, hseq, hnak, -⟩ := h
  simp [State.onFrame, hup, hcrc, hseq, hnak, State.received]

/-- The part of the pair but for what a frame in order releases of what was sent to the partner. -/
def Wsw.unacked (w : Wsw) : Wsw := { w with rxSeq := 0, ackSeq := 0, heldOut := [], sent := [], replays := 0 }

theorem pairKept_received (s : State) (fr : LinkFrame) : PairKept s (s.received fr) := by
  have h : PairKept s ({ s with wsw := { s.wsw with rxSeq := s.wsw.rxSeq + 1 } } : State) := (PairKept.refl s).of_regs rfl
  exact h.linkAck _

theorem linkAcked_unacked (s : State) (ack : Nat) : (s.linkAcked ack).wsw.unacked = s.wsw.unacked := by
  unfold State.linkAcked
  extract_lets a free u
  refine List.foldlRecOn (motive := fun t : State => t.wsw.unacked = s.wsw.unacked) _ _ rfl (fun t ht h _ => ?_)
  rw [release_wsw, ht]

/-- Of the part of the pair a frame in order changes what is sent and held for the partner alone. -/
theorem received_unacked (s : State) (fr : LinkFrame) : (s.received fr).wsw.unacked = s.wsw.unacked :=
  linkAcked_unacked ({ s with wsw := { s.wsw with rxSeq := s.wsw.rxSeq + 1 } } : State) fr.ack

theorem received_joining (s : State) (fr : LinkFrame) : (s.received fr).wsw.joining = s.wsw.joining := by
  have h := congrArg Wsw.joining (received_unacked s fr)
  exact h

theorem received_joinCut (s : State) (fr : LinkFrame) : (s.received fr).wsw.joinCut = s.wsw.joinCut := by
  have h := congrArg Wsw.joinCut (received_unacked s fr)
  exact h

theorem received_resyncPass (s : State) (fr : LinkFrame) : (s.received fr).wsw.resyncPass = s.wsw.resyncPass := by
  have h := congrArg Wsw.resyncPass (received_unacked s fr)
  exact h

/-! ## Taking a role (R301, R305) -/

theorem role_setRole (s : State) (r : Nat) : (s.setRole r).role = r % 16 := by
  unfold State.setRole State.role
  extract_lets u v
  rw [get_set_other _ _ _ _ _ _ _ _ (by decide)]
  exact get_set_same ..

theorem get_setRole_other (s : State) (r : Nat) (g : Fld) (m n : Nat) (hrole : F.WSW_STATUS.ROLE.key 0 0 ≠ g.key m n) (hserves : F.WSW_STATUS.SERVES.key 0 0 ≠ g.key m n) :
    (s.setRole r).get g m n = s.get g m n := by
  unfold State.setRole
  extract_lets u v
  rw [get_set_other _ _ _ _ _ _ _ _ hserves, get_set_other _ _ _ _ _ _ _ _ hrole]
  unfold u
  split <;> rfl

theorem setRole_wsw (s : State) (r : Nat) : (s.setRole r).wsw = s.wsw := (keeps_State_setRole r rfl (Keeps.refl false 8388609 s)).part .wsw (by decide)

theorem setRole_dev (s : State) (r : Nat) : (s.setRole r).dev = s.dev := (keeps_State_setRole r rfl (Keeps.refl false 8388609 s)).part .dev (by decide)

/-- Both controllers of a pair are in step: the partner counts as such, and no resync runs any more (R340). -/
def State.inStepAs (s : State) (r : Nat) : State := (((s.partnerIs 1).set F.WSW_RESYNC.PHASE 0).set F.WSW_RESYNC.PERMILLE 1000).setRole r

theorem inStepAs_wsw (s : State) (r : Nat) : (s.inStepAs r).wsw = s.wsw := setRole_wsw ..

theorem inStepAs_dev (s : State) (r : Nat) : (s.inStepAs r).dev = s.dev := setRole_dev ..

theorem inStepAs_role (s : State) (r : Nat) : (s.inStepAs r).role = r % 16 := role_setRole ..

theorem inStepAs_partner (s : State) (r : Nat) : (s.inStepAs r).get F.WSW_STATUS.PARTNER = 1 := by
  unfold State.inStepAs State.partnerIs
  rw [get_setRole_other _ _ _ _ _ (by decide) (by decide), get_set_other _ _ _ _ _ _ _ _ (by decide), get_set_other _ _ _ _ _ _ _ _ (by decide), get_set_same]
  rfl

theorem inStepAs_phase (s : State) (r : Nat) : (s.inStepAs r).get F.WSW_RESYNC.PHASE = 0 := by
  unfold State.inStepAs
  rw [get_setRole_other _ _ _ _ _ (by decide) (by decide), get_set_other _ _ _ _ _ _ _ _ (by decide), get_set_same]
  rfl

theorem inStepAs_linkUp (s : State) (r : Nat) : (s.inStepAs r).linkUp = s.linkUp := by
  unfold State.inStepAs State.partnerIs State.linkUp State.flag
  rw [get_setRole_other _ _ _ _ _ (by decide) (by decide), get_set_other _ _ _ _ _ _ _ _ (by decide), get_set_other _ _ _ _ _ _ _ _ (by decide), get_set_other _ _ _ _ _ _ _ _ (by decide)]

/-- The fields that show a pair in step, while they are kept. -/
theorem pairKept_inStepAs {r : Nat} (hr : r < 16) (h : PairKept (s.inStepAs r) t) :
    t.role = r ∧ t.get F.WSW_STATUS.PARTNER = 1 ∧ t.get F.WSW_RESYNC.PHASE = 0 := by
  refine ⟨?_, ?_, ?_⟩
  · rw [h.role, inStepAs_role, Nat.mod_eq_of_lt hr]
  · rw [h.partner, inStepAs_partner]
  · rw [h.phase, inStepAs_phase]

/-! ## Granules and reports (R340) -/

/-- A joiner that has not been told the cut installs the groups it is sent. -/
theorem snapshotRx_installs {fr : LinkFrame} {i : Nat} {g : List (Nat × Grp)} (h : NextFrame s fr (.snapshot i (.groups g))) (hrole : s.role = roleJoining)
    (hcut : s.wsw.joinCut = none) : ∃ t, exec (.snapshotRx fr) s = .next t ∧ t.grps = g ∧ t.role = roleJoining := by
  have hrole' : (s.received fr).role = roleJoining := (pairKept_received s fr).role.trans hrole
  have hcut' : (s.received fr).wsw.joinCut = none := (received_joinCut s fr).trans hcut
  refine ⟨{ s.received fr with grps := g }, ?_, rfl, hrole'⟩
  change execSnapshotRx fr s = _
  unfold execSnapshotRx
  simp [h.2.2.2.2, onFrame_next h, hrole', hcut', State.installPiece]

/-- The report that a resync starts, at a joiner. -/
theorem resyncFrameRx_starts {fr : LinkFrame} {step : Nat} (h : NextFrame s fr (.resync 1 step)) (hrole : s.role = roleJoining) :
    ∃ t, exec (.resyncFrameRx fr) s = .next t ∧ t.wsw.joining = true ∧ t.get F.WSW_RESYNC.PHASE = 1 ∧ t.get F.WSW_STATUS.PARTNER = 2 := by
  have hrole' : (s.received fr).role = roleJoining := (pairKept_received s fr).role.trans hrole
  let v : State := { s.received fr with wsw := { (s.received fr).wsw with joining := true, joinCut := none } }
  have hkept : PairKept ((v.partnerIs 2).set F.WSW_RESYNC.PHASE 1) (((v.partnerIs 2).set F.WSW_RESYNC.PHASE 1).raise 0x207) := (PairKept.refl _).raise _
  refine ⟨_, ?_, ?_, hkept.phase.trans (get_set_same ..), hkept.partner.trans ?_⟩
  · change execResyncFrameRx fr s = _
    unfold execResyncFrameRx
    simp only [h.2.2.2.2, onFrame_next h, hrole', if_true]
    rfl
  · rw [raise_wsw]
    rfl
  · rw [get_set_other _ _ _ _ _ _ _ _ (by decide)]
    exact get_set_same ..

/-- The report of the cut, at a joiner that is being resynced. -/
theorem resyncFrameRx_cuts {fr : LinkFrame} {step : Nat} (h : NextFrame s fr (.resync 3 step)) (hrole : s.role = roleJoining) (hjoining : s.wsw.joining = true) :
    ∃ t, exec (.resyncFrameRx fr) s = .next t ∧ t.wsw.joinCut = some step ∧ t.get F.WSW_RESYNC.PHASE = 3 ∧ ∀ r ∈ t.wsw.inputs, step < r.step := by
  have hrole' : (s.received fr).role = roleJoining := (pairKept_received s fr).role.trans hrole
  have hjoining' : (s.received fr).wsw.joining = true := (received_joining s fr).trans hjoining
  let v : State := { s.received fr with wsw := { (s.received fr).wsw with
    joinCut := some step, inputs := (s.received fr).wsw.inputs.filter (fun r => decide (step < r.step)) } }
  refine ⟨v.set F.WSW_RESYNC.PHASE 3, ?_, rfl, get_set_same .., fun r hr => ?_⟩
  · change execResyncFrameRx fr s = _
    unfold execResyncFrameRx
    simp [h.2.2.2.2, onFrame_next h, hrole', hjoining', v]
  · exact of_decide_eq_true (List.mem_filter.mp hr).2

/-- Numbering a record changes its stream and its last number alone, but for what is sent. -/
theorem number_unsent (s : State) (sideB refOnly : Bool) (origin : Nat) (i : Input) : (s.number sideB refOnly origin i).wsw.unsent =
    { s.wsw.unsent with lastNumber := s.wsw.lastNumber + 1, inputs := s.wsw.inputs ++ [⟨s.wsw.lastNumber + 1, sideB, false, origin, i⟩] } := by
  have h := sendInput_unsent ({ s with wsw := { s.wsw with lastNumber := s.wsw.lastNumber + 1, inputs := s.wsw.inputs ++ [⟨s.wsw.lastNumber + 1, sideB, false, origin, i⟩] } } : State)
    ⟨s.wsw.lastNumber + 1, sideB, refOnly, origin, i⟩
  exact h

theorem joinerIn_inStep (s : State) :
    s.joinerIn.role = roleLeader ∧ s.joinerIn.get F.WSW_STATUS.PARTNER = 1 ∧ s.joinerIn.get F.WSW_RESYNC.PHASE = 0 ∧ s.joinerIn.wsw.resyncPass = 0 ∧
      bitOf (s.joinerIn.get F.EVT_STATUS.STATUS 16) 8 = true := by
  let u : State := { s with
    wsw := { s.wsw with resyncPass := 0, resyncSent := [], bothHalves := s.profile == 2 }
    nvm := { s.nvm with resyncs := s.nvm.resyncs + 1 } }
  let v : State := (u.inStepAs roleLeader).raise 0x208
  have hjoined : s.joinerIn = if v.profile = 2 then v.number v.sideB false 0 (.cut cutHalf) else v := rfl
  have hkept : PairKept v s.joinerIn := hjoined ▸ ((PairKept.refl v).number ..).ite (PairKept.refl v)
  have hraise : PairKept (u.inStepAs roleLeader) v := (PairKept.refl _).raise _
  have hpass : v.wsw.resyncPass = 0 := by rw [raise_wsw, inStepAs_wsw]
  have hsame : s.joinerIn.wsw.resyncPass = v.wsw.resyncPass := by
    rw [hjoined]
    split
    · have h := congrArg Wsw.resyncPass (number_unsent v v.sideB false 0 (.cut cutHalf))
      exact h
    · rfl
  obtain ⟨hrole, hpartner, hphase⟩ := pairKept_inStepAs (by decide) (hraise.trans hkept)
  exact ⟨hrole, hpartner, hphase, hsame.trans hpass, hkept.raised (e := 0x208) rfl⟩

/-- The report of the joiner that it is in step, at the controller that serves alone. -/
theorem resyncFrameRx_ends {fr : LinkFrame} {step : Nat} (h : NextFrame s fr (.resync 4 step)) (hrole : s.role = roleAlone) (hpass : s.wsw.resyncPass = 10) :
    exec (.resyncFrameRx fr) s = .next (s.received fr).joinerIn := by
  have hrole' : (s.received fr).role = roleAlone := (pairKept_received s fr).role.trans hrole
  have hpass' : (s.received fr).wsw.resyncPass = 10 := (received_resyncPass s fr).trans hpass
  have hother : roleAlone ≠ roleJoining := by decide
  change execResyncFrameRx fr s = _
  unfold execResyncFrameRx
  simp [h.2.2.2.2, onFrame_next h, hrole', hpass', hother]

/-! ## The passes and the cut at the controller that serves alone (R340) -/

theorem resyncPassDone_next {dirty : Nat} (hrole : s.role = roleAlone) (hbegun : s.wsw.resyncPass ≠ 0) (hbefore : s.wsw.resyncPass < 9) :
    (dirty < 2 ^ 30 ∨ s.wsw.resyncPass = 8 → ∃ t, exec (.resyncPassDone dirty) s = .next t ∧ t.wsw.resyncPass = 9 ∧ t.get F.WSW_RESYNC.PHASE = 2) ∧
      (2 ^ 30 ≤ dirty → s.wsw.resyncPass < 8 → ∃ t, exec (.resyncPassDone dirty) s = .next t ∧ t.wsw.resyncPass = s.wsw.resyncPass + 1) := by
  let v : State := s.sendLink (.resync 2 s.dev.stepNo)
  have hpass : exec (.resyncPassDone dirty) s = .next (
      if dirty < 2 ^ 30 ∨ s.wsw.resyncPass = 8 then ({ v with wsw := { v.wsw with resyncPass := 9 } } : State).set F.WSW_RESYNC.PHASE 2
      else ({ v with wsw := { v.wsw with resyncPass := s.wsw.resyncPass + 1 } } : State).sendDirty) := by
    change execResyncPassDone dirty s = _
    unfold execResyncPassDone
    rw [if_neg (show ¬ (s.role ≠ roleAlone ∨ s.wsw.resyncPass = 0 ∨ 9 ≤ s.wsw.resyncPass) by omega)]
  constructor
  · intro hlast
    exact ⟨_, hpass.trans (by rw [if_pos hlast]), rfl, get_set_same ..⟩
  · intro hdirty hmore
    exact ⟨_, hpass.trans (by rw [if_neg (by omega)]), congrArg Wsw.resyncPass (sendDirty_unsent _)⟩

theorem resyncCut_numbers (hrole : s.role = roleAlone) (hpass : s.wsw.resyncPass = 9) (hcut : ∀ r ∈ s.wsw.inputs, r.input ≠ .cut cutResync) :
    exec .resyncCut s = .next (s.number s.sideB false 0 (.cut cutResync)) := by
  change execResyncCut s = _
  unfold execResyncCut
  rw [if_pos ⟨hrole, hpass, by simpa using hcut⟩]

/-! ## A joiner that has caught up (R301, R340, R345) -/

/-- A frame sent on a link that is up leaves with the next number. -/
theorem sendLink_emits (b : LinkBody) (hup : s.linkUp = true) : ∃ n a, Emitted s (s.sendLink b) (.link n a false false b) := by
  refine ⟨s.wsw.txSeq, s.wsw.rxSeq - 1, ?_⟩
  unfold State.sendLink State.putLink
  rw [if_pos hup]
  extract_lets n u
  have hput : Emitted s (({ s with wsw := { s.wsw with
      txSeq := s.wsw.txSeq + 1, sent := s.wsw.sent ++ [(s.wsw.txSeq, s.dev.timeNs, b)] } } : State).emit (.link s.wsw.txSeq (s.wsw.rxSeq - 1) false false b))
      (.link s.wsw.txSeq (s.wsw.rxSeq - 1) false false b) := ⟨[_], rfl, List.mem_singleton_self _⟩
  exact emitted_mono hput ⟨[], rfl⟩ (keeps_State_count (AK := 8388643) (pK := false) _ _ _ _ rfl (Keeps.refl ..)).out

/-- What a joiner does once it counts as in step and has said so: its keys, its settings and what it sees of its own drives go into the stream. -/
def State.joinedIn (s : State) : State :=
  let s := s.registerKeys.joinStore.observe (.mgmt (.holdup (s.flag F.PWR_PINS.HOLDUP_OK)))
  let s := s.observe (.mgmt (.pwrfail (s.flag F.PWR_PINS.PWRFAIL)))
  (List.range 48).foldl (fun (s : State) (n : Nat) =>
    if s.get F.DP_STATUS.STATE n = dpReady ∧ !(s.port n).ownReady then
      s.observe (.driveEvent n (.ready (s.outstanding n) (s.get F.DP_QUEUE.MQES n)))
    else s) s

theorem pairKept_joinedIn (s : State) : PairKept s s.joinedIn := by
  unfold State.joinedIn
  extract_lets u v
  have hu : PairKept s u := (PairKept.refl s).registerKeys.joinStore.observe _
  exact (hu.observe _).foldl _ (fun _ _ h => (h.observe _).ite h)

theorem keeps_joinedIn (s : State) : Keeps false 33554431 s s.joinedIn := by
  unfold State.joinedIn
  extract_lets u v
  have hu : Keeps false 33554431 s u :=
    keeps_State_observe _ rfl (keeps_State_joinStore rfl (keeps_State_registerKeys rfl (Keeps.refl false 33554431 s)))
  refine List.foldlRecOn (motive := fun t : State => Keeps false 33554431 s t) _ _ (keeps_State_observe _ rfl hu) (fun t ht n _ => ?_)
  split
  · exact keeps_State_observe _ rfl ht
  · exact ht

/-- The state of a joiner that takes its place as FOLLOWER. -/
def State.asFollower (s : State) : State :=
  let s := s.inStepAs roleFollower
  { s with wsw := { s.wsw with bothHalves := s.profile == 2, joining := false, joinCut := none } }

theorem pairKept_asFollower (s : State) : PairKept (s.inStepAs roleFollower) s.asFollower := (PairKept.refl _).of_regs rfl

theorem asFollower_stepNo (s : State) : s.asFollower.dev.stepNo = s.dev.stepNo := congrArg Dev.stepNo (inStepAs_dev s roleFollower)

theorem raise_linkUp (s : State) (e : Nat) (he : F.EVT_STATUS.STATUS.key (e / 32) 0 ≠ F.WSW_STATUS.LINK_UP.key 0 0) : (s.raise e).linkUp = s.linkUp := by
  unfold State.linkUp State.flag
  rw [get_raise _ _ _ _ _ he]

/-- A joiner in step reports it to the partner. -/
theorem asFollower_reports (hup : s.linkUp = true) (n : Nat) :
    ∃ q a, Emitted s (((s.asFollower).raise 0x208).sendLink (.resync 4 n)) (.link q a false false (.resync 4 n)) := by
  have hlink : (s.asFollower.raise 0x208).linkUp = true := by
    rw [raise_linkUp _ _ (by decide)]
    exact (inStepAs_linkUp s roleFollower).trans hup
  have hkeeps : Keeps false 33554431 s (s.inStepAs roleFollower) :=
    keeps_State_setRole _ rfl (keeps_State_set _ _ _ _ rfl (keeps_State_set _ _ _ _ rfl (keeps_State_partnerIs _ rfl (Keeps.refl ..))))
  obtain ⟨l, hl⟩ := hkeeps.out
  have hraise : Keeps false 33554431 s.asFollower (s.asFollower.raise 0x208) := keeps_State_raise _ rfl (Keeps.refl ..)
  obtain ⟨l', hl'⟩ := hraise.out
  obtain ⟨q, a, hsent⟩ := sendLink_emits (.resync 4 n) hlink
  exact ⟨q, a, emitted_mono hsent ⟨l' ++ l, by rw [hl', List.append_assoc, ← hl]; rfl⟩ ⟨[], rfl⟩⟩

theorem joinerInStep_next (hrole : s.role = roleJoining) (hcut : s.wsw.joinCut.isSome = true) (htick : s.wsw.tickUs < s.dev.stepUs + 8) :
    exec .joinerInStep s = .next ((s.asFollower.raise 0x208).sendLink (.resync 4 s.dev.stepNo)).joinedIn := by
  rw [← asFollower_stepNo s]
  change execJoinerInStep s = _
  unfold execJoinerInStep
  rw [if_pos ⟨hrole, hcut, htick⟩]
  rfl

theorem joinerInStep_joins (hrole : s.role = roleJoining) (hcut : s.wsw.joinCut.isSome = true) (htick : s.wsw.tickUs < s.dev.stepUs + 8) :
    ∃ t, exec .joinerInStep s = .next t ∧ t.role = roleFollower ∧ t.get F.WSW_STATUS.PARTNER = 1 ∧ t.get F.WSW_RESYNC.PHASE = 0 ∧
      bitOf (t.get F.EVT_STATUS.STATUS 16) 8 = true ∧ (s.linkUp = true → ∃ n a, Emitted s t (.link n a false false (.resync 4 s.dev.stepNo))) := by
  have hkept := ((PairKept.refl (s.asFollower.raise 0x208)).sendLink (.resync 4 s.dev.stepNo)).trans (pairKept_joinedIn _)
  obtain ⟨hrole', hpartner, hphase⟩ := pairKept_inStepAs (by decide) (((pairKept_asFollower s).raise 0x208).trans hkept)
  refine ⟨_, joinerInStep_next hrole hcut htick, hrole', hpartner, hphase, hkept.raised (e := 0x208) rfl, fun hup => ?_⟩
  obtain ⟨q, a, hsent⟩ := asFollower_reports hup s.dev.stepNo
  exact ⟨q, a, emitted_mono hsent ⟨[], rfl⟩ (keeps_joinedIn _).out⟩

end

/-- Settles O33: in each row the conditions pick one branch; the fields of the pair that the row sets are read back through what it sends and numbers afterwards, which keeps them. -/
theorem resyncOfAJoiner : Obligations.ResyncOfAJoiner := by
  unfold Obligations.ResyncOfAJoiner
  refine ⟨?granule, ?frame, ?pass, ?cut, ?inStep⟩
  case granule =>
    intro fr i g s h hrole hcut
    exact snapshotRx_installs h hrole hcut
  case frame =>
    intro fr code step s h
    refine ⟨?_, ?_, ?_⟩
    · rintro hrole rfl
      exact resyncFrameRx_starts h hrole
    · rintro hrole rfl hjoining
      exact resyncFrameRx_cuts h hrole hjoining
    · rintro hrole rfl hpass
      exact ⟨_, resyncFrameRx_ends h hrole hpass, joinerIn_inStep _⟩
  case pass =>
    intro dirty s hrole hbegun hbefore
    exact resyncPassDone_next hrole hbegun hbefore
  case cut =>
    intro s hrole hpass hcut
    exact ⟨_, resyncCut_numbers hrole hpass hcut, number_inputs ..⟩
  case inStep =>
    intro s hrole hcut htick
    exact joinerInStep_joins hrole hcut htick

end Sys2Proof.Machine
end

section
/-!
PROOFS. What the effects of an input leave alone of the step they belong to (09_whipsaw_pair.md, R309 to R314).

An effect may complete commands, send on the link, form drive commands and end a dump. None of that moves the step number or the step time, opens a takeover, asks for a granule, makes
a drive serve, or changes what is seen in a slot.
-/
namespace Sys2Proof.Machine

/-- Step number and step time, whether a takeover is to be settled, the granules asked for, which drives serve, and what is seen in the slots. -/
def State.stepView (s : State) : (Nat × Nat × Bool × List (Nat × Nat)) × (Nat → Bool × Bool) × (Nat → Bool × Bool) :=
  ((s.dev.stepNo, s.dev.stepUs, s.wsw.takeover, s.mi.repairWaits), fun n => ((s.port n).ownReady, (s.port n).partnerReady), fun n => ((s.path n).presentA, (s.path n).presentB))

/-- All of that is as before. -/
def Steady (s t : State) : Prop := t.stepView = s.stepView

section
variable {s t u : State}

theorem Steady.refl (s : State) : Steady s s := rfl

theorem Steady.trans (h : Steady s t) (h' : Steady t u) : Steady s u := Eq.trans h' h

theorem Steady.stepNo (h : Steady s t) : t.dev.stepNo = s.dev.stepNo := congrArg (·.1.1) h

theorem Steady.stepUs (h : Steady s t) : t.dev.stepUs = s.dev.stepUs := congrArg (·.1.2.1) h

theorem Steady.takeover (h : Steady s t) : t.wsw.takeover = s.wsw.takeover := congrArg (·.1.2.2.1) h

theorem Steady.repairs (h : Steady s t) : t.mi.repairWaits = s.mi.repairWaits := congrArg (·.1.2.2.2) h

theorem Steady.ownReady (h : Steady s t) (n : Nat) : (t.port n).ownReady = (s.port n).ownReady := congrArg (fun v => (v.2.1 n).1) h

theorem Steady.partnerReady (h : Steady s t) (n : Nat) : (t.port n).partnerReady = (s.port n).partnerReady := congrArg (fun v => (v.2.1 n).2) h

theorem Steady.presentA (h : Steady s t) (n : Nat) : (t.path n).presentA = (s.path n).presentA := congrArg (fun v => (v.2.2 n).1) h

theorem Steady.presentB (h : Steady s t) (n : Nat) : (t.path n).presentB = (s.path n).presentB := congrArg (fun v => (v.2.2 n).2) h

theorem Steady.of_view (h : Steady s t) (hu : u.stepView = t.stepView) : Steady s u := h.trans hu

theorem stepView_of_parts (hstep : t.dev.stepNo = s.dev.stepNo) (hus : t.dev.stepUs = s.dev.stepUs) (htakeover : t.wsw.takeover = s.wsw.takeover)
    (hrepairs : t.mi.repairWaits = s.mi.repairWaits) (hports : t.drv.ports = s.drv.ports) (hslot : t.slot = s.slot) : t.stepView = s.stepView := by
  simp only [State.stepView, State.port, State.path, hstep, hus, htakeover, hrepairs, hports, hslot]

/-- Operations on other parts of the state. -/
theorem Steady.keeps {p : Bool} {A : Nat} (h : Steady s t) (hk : Keeps p A t u) (hA : ∀ c ∈ [Part.dev, .wsw, .mi, .drv, .slot], A &&& c.bit ≠ c.bit) : Steady s u := by
  have hdev : u.dev = t.dev := hk.part .dev (hA _ (by decide))
  have hwsw : u.wsw = t.wsw := hk.part .wsw (hA _ (by decide))
  have hmi : u.mi = t.mi := hk.part .mi (hA _ (by decide))
  have hdrv : u.drv = t.drv := hk.part .drv (hA _ (by decide))
  have hslot : u.slot = t.slot := hk.part .slot (hA _ (by decide))
  exact h.of_view (stepView_of_parts (by rw [hdev]) (by rw [hdev]) (by rw [hwsw]) (by rw [hmi]) (by rw [hdrv]) hslot)

theorem Steady.ite {c : Prop} [Decidable c] (h : Steady s t) (h' : Steady s u) : Steady s (if c then t else u) := by
  split <;> assumption

theorem Steady.foldl {α : Type} {f : State → α → State} (l : List α) (hf : ∀ t x, Steady s t → Steady s (f t x)) (h : Steady s t) : Steady s (l.foldl f t) :=
  List.foldlRecOn (motive := Steady s) l f h (fun t ht x _ => hf t x ht)

theorem Steady.set (h : Steady s t) (f : Fld) (v i j : Nat) : Steady s (t.set f v i j) := h.of_view rfl

theorem Steady.bump (h : Steady s t) (f : Fld) (i j : Nat) : Steady s (t.bump f i j) := h.set ..

theorem Steady.raise (h : Steady s t) (e : Nat) : Steady s (t.raise e) := by
  obtain ⟨l, hl⟩ := raise_dev t e
  exact h.of_view (stepView_of_parts (by rw [hl]) (by rw [hl]) (by rw [raise_wsw]) (by rw [raise_mi]) (by rw [raise_drv]) (raise_slot t e))

theorem Steady.raiseLimited (h : Steady s t) (e : Nat) : Steady s (t.raiseLimited e) := by
  refine h.ite (Steady.raise ?_ e)
  exact h.of_view rfl

theorem Steady.setPort (h : Steady s t) (n : Nat) (p : DrvPort) (hown : p.ownReady = (t.port n).ownReady) (hpartner : p.partnerReady = (t.port n).partnerReady) :
    Steady s (t.setPort n p) := by
  refine h.of_view ?_
  have hports : (fun m => (((t.setPort n p).port m).ownReady, ((t.setPort n p).port m).partnerReady)) = fun m => ((t.port m).ownReady, (t.port m).partnerReady) := by
    funext m
    have hget : (t.setPort n p).port m = if n = m then p else t.port m := sparseGet_put ..
    rw [hget]
    split
    · rename_i hm
      rw [hown, hpartner, hm]
    · rfl
  simp only [State.stepView, hports]
  rfl

theorem Steady.setPath (h : Steady s t) (n : Nat) (p : SlotPath) (hA : p.presentA = (t.path n).presentA) (hB : p.presentB = (t.path n).presentB) : Steady s (t.setPath n p) := by
  refine h.of_view ?_
  have hpaths : (fun m => (((t.setPath n p).path m).presentA, ((t.setPath n p).path m).presentB)) = fun m => ((t.path m).presentA, (t.path m).presentB) := by
    funext m
    have hget : (t.setPath n p).path m = if n = m then p else t.path m := sparseGet_put ..
    rw [hget]
    split
    · rename_i hm
      rw [hA, hB, hm]
    · rfl
  simp only [State.stepView, hpaths]
  rfl

/-! ## Counters, the Ledger, egress, the link -/

theorem Steady.freezeLedger (h : Steady s t) : Steady s t.freezeLedger := h.ite (((h.set ..).set ..).raise _)

theorem Steady.ledgerLost (h : Steady s t) : Steady s t.ledgerLost := (h.bump ..).raiseLimited _

theorem Steady.ledger (h : Steady s t) (code island source : Nat) (detail : List Byte) : Steady s (t.ledger code island source detail) := by
  unfold State.ledger State.ledgerWrite
  extract_lets seq sev r left frozen t1 t2
  have h1 : Steady s t1 := h.keeps (keeps_State_ledgerStore r rfl (Keeps.refl false 65 t)) (by decide)
  have h2 : Steady s t2 := (h1.set ..).ite (h1.freezeLedger.ite h1)
  exact h.ledgerLost.ite ((h2.raiseLimited _).ite h2)

theorem Steady.addCounter (h : Steady s t) (i weight : Nat) : Steady s (t.addCounter i weight) := by
  have hc := h.set F.SCL_CNT.COUNT (t.get F.SCL_CNT.COUNT i + weight) i 0
  exact hc.ite ((hc.set F.SCL_OVF.OVF _ _ 0).raiseLimited 0x480)

theorem Steady.count (h : Steady s t) (unit inst event weight : Nat) : Steady s (t.count unit inst event weight) :=
  Steady.ite (h.foldl _ (fun _ i h => (h.addCounter i weight).ite h)) h

theorem Steady.meterUnit (h : Steady s t) (m n : Nat) (pre : Colour) : Steady s (t.meterUnit m n pre).1 := by
  unfold State.meterUnit
  generalize t.colour m n pre = cx
  obtain ⟨c, x⟩ := cx
  have hm : Steady s ({ t with tc := { t.tc with meters := sparseInsert m x t.tc.meters } } : State) := h.of_view rfl
  cases c
  · exact hm.bump _ _ _
  · exact hm.bump _ _ _
  · exact (hm.bump F.TC_MTR_RED.COUNT m 0).raiseLimited 0xC3

theorem Steady.enqueue (h : Steady s t) (p cls : Nat) (x : TcUnit) : Steady s (t.enqueue p cls x) := h.keeps (keeps_State_enqueue p cls x rfl (Keeps.refl false 65536 t)) (by decide)

theorem Steady.egress (h : Steady s t) (lport cls : Nat) (x : TcUnit) : Steady s (t.egress lport cls x) := by
  unfold State.egress
  split
  · exact h.enqueue _ _ _
  · rename_i m _
    have hm := h.meterUnit m x.len .green
    generalize t.meterUnit m x.len .green = sc at hm ⊢
    exact (hm.enqueue _ _ _).ite (Steady.ite ((hm.bump F.TC_MTR_MARKED.COUNT m 0).enqueue _ _ _) hm)

theorem Steady.ownEgress (h : Steady s t) (lport cls len : Nat) : Steady s (t.ownEgress lport cls len) := by
  refine Steady.egress ?_ _ _ _
  exact h.of_view rfl

theorem Steady.release (h : Steady s t) (o : Out) : Steady s (t.release o) := by
  have hemit : Steady s (t.emit o) := h.of_view rfl
  unfold State.release
  split
  · exact h
  · split
    · exact hemit.ownEgress _ _ _
    · exact hemit.ownEgress _ _ _
    · exact hemit

theorem Steady.perform (h : Steady s t) (side : OutSide) (acks : Bool) (o : Out) : Steady s (t.perform side acks o) := by
  refine Steady.ite (Steady.ite ?_ (h.release o)) h
  exact h.of_view rfl

theorem Steady.linkAcked (h : Steady s t) (ack : Nat) : Steady s (t.linkAcked ack) := by
  refine Steady.foldl _ (fun _ _ h => h.release _) ?_
  exact h.of_view rfl

theorem Steady.putLink (h : Steady s t) (lseq : Nat) (replay nak : Bool) (b : LinkBody) : Steady s (t.putLink lseq replay nak b) := by
  refine Steady.of_view (Steady.count (t := t.emit (.link lseq (t.wsw.rxSeq - 1) replay nak b)) ?_ 9 0 1 _) rfl
  exact h.of_view rfl

theorem Steady.sendLink (h : Steady s t) (b : LinkBody) : Steady s (t.sendLink b) := by
  refine Steady.ite (Steady.putLink ?_ _ _ _ _) h
  exact h.of_view rfl

theorem Steady.sendInput (h : Steady s t) (r : InputRec) : Steady s (t.sendInput r) := Steady.ite ((h.sendLink _).count _ _ _ _) h

theorem Steady.number (h : Steady s t) (sideB refOnly : Bool) (origin : Nat) (i : Input) : Steady s (t.number sideB refOnly origin i) := by
  refine Steady.sendInput ?_ _
  exact h.of_view rfl

theorem Steady.observe (h : Steady s t) (i : Input) : Steady s (t.observe i) := by
  unfold State.observe
  extract_lets origin wsw u
  have hu : Steady s u := h.of_view rfl
  refine (hu.number ..).ite (Steady.ite (Steady.sendLink ?_ _) hu)
  exact hu.of_view rfl

theorem Steady.fold (h : Steady s t) (kind key : Nat) (value : List Byte) : Steady s (t.fold kind key value) := by
  refine Steady.ite ?_ h
  extract_lets n w w'
  have hw : w'.takeover = t.wsw.takeover := by
    unfold w'
    split <;> rfl
  exact h.of_view (stepView_of_parts rfl rfl hw rfl rfl rfl)

theorem Steady.setRole (h : Steady s t) (r : Nat) : Steady s (t.setRole r) := h.keeps (keeps_State_setRole r rfl (Keeps.refl false 8388609 t)) (by decide)

/-! ## The sender of Flume -/

theorem Steady.sendFlume (h : Steady s t) (side : OutSide) (acks : Bool) (cls : Nat) (hd : FlumeHdr) (es : List FlumeExt) (payload : List Byte) :
    Steady s (t.sendFlume side acks cls hd es payload) := by
  unfold State.sendFlume
  split
  · split
    · split
      · extract_lets hd' t'
        have ht' : Steady s t' := h.ite (h.fold _ _ _)
        exact (ht'.perform _ _ _).count _ _ _ _
      · exact h
    · exact h
  · exact h

theorem Steady.transmit (h : Steady s t) (m : Msg) (i attempt path : Nat) (solicit : Bool) : Steady s (t.transmit m i attempt path solicit) := by
  unfold State.transmit
  extract_lets ck h0 hd es old p t1 t2 flm t3
  have hcookie : Steady s t.cookieUsed := h.of_view rfl
  have h1 : Steady s t1 := hcookie.sendFlume _ _ _ _ _ _
  have h2 : Steady s t2 := (h1.count 3 0 2 1).ite h1
  exact h2.of_view rfl

theorem Steady.resend (h : Steady s t) (m : Msg) (p : PktTx) (attempt : Nat) : Steady s (t.resend m p attempt) := by
  unfold State.resend
  split
  · exact h
  · extract_lets path
    refine Steady.ite ?_ (Steady.transmit ?_ _ _ _ _ _)
    · exact h.of_view rfl
    · exact h.of_view rfl

theorem Steady.pauseMsg (h : Steady s t) (m : Msg) : Steady s (t.pauseMsg m) := by
  unfold State.pauseMsg
  extract_lets t1
  have h1 : Steady s t1 := h.of_view rfl
  split
  · refine Steady.ite (Steady.raise ?_ 0x144) h1
    exact h1.of_view rfl
  · exact h1

theorem Steady.activate (h : Steady s t) (m : Msg) : Steady s (t.activate m).1 := by
  unfold State.activate
  split
  · exact h.of_view rfl
  · exact h

theorem Steady.pumpN (n dst : Nat) (h : Steady s t) : Steady s (State.pumpN n dst t) := by
  induction n generalizing t with
  | zero => exact h
  | succ n ih =>
    unfold State.pumpN
    split
    · exact h
    · split
      · rename_i f m _ _
        split
        · exact h
        · split
          · exact ih (h.pauseMsg m)
          · split
            · have hact := h.activate m
              generalize t.activate m = x at hact ⊢
              refine ih (Steady.transmit ?_ _ _ _ _ _)
              exact hact.of_view rfl
            · exact h
      · exact h

theorem Steady.enterFlow (h : Steady s t) (peer : Nat) (ip : IpAddr) (loc : Option (IpAddr × Nat)) : Steady s (t.enterFlow peer ip loc).1 := by
  unfold State.enterFlow
  split
  · exact h.of_view rfl
  · split
    · exact h.of_view rfl
    · split
      · exact h.of_view rfl
      · exact (h.bump F.FLM_CACHE_WAIT.COUNT 0 0).raise 0x148

theorem Steady.submit (h : Steady s t) (m : Msg) (ip : IpAddr) : Steady s (t.submit m ip) := by
  unfold State.submit
  extract_lets m1 flm t1
  have h1 : Steady s t1 := h.of_view rfl
  have h2 := h1.enterFlow m1.dst ip (t1.firstLocal ip.v6)
  clear_value t1
  dsimp only
  split
  · exact h2.pumpN _ _
  · exact h2.of_view rfl

theorem Steady.formCtl (h : Steady s t) (c : CtlPkt) : Steady s (t.formCtl c) := by
  unfold State.formCtl
  split
  · exact h
  · extract_lets p u hd es fx v
    have hu : Steady s u.cookieUsed := h.of_view rfl
    have hv : Steady s v := hu.sendFlume ..
    exact hv.of_view rfl

theorem Steady.flushCtl (h : Steady s t) : Steady s t.flushCtl := by
  refine Steady.foldl _ (fun u c hu => Steady.ite ?_ (hu.formCtl c)) ?_
  · exact hu.of_view rfl
  · exact h.of_view rfl

/-! ## Answers to hosts -/

theorem Steady.hostMsg (h : Steady s t) (peer : Nat) (ip : IpAddr) (op len window winOffset aux : Nat) (src : MsgSrc) (use : MsgUse) (side : OutSide) (tag : Option Nat) :
    Steady s (t.hostMsg peer ip op len window winOffset aux src use side tag) := h.submit ..

theorem Steady.tcpSend (h : Steady s t) (conn cls : Nat) (side : OutSide) (pdu : TcpOut) : Steady s (t.tcpSend conn cls side pdu) := by
  unfold State.tcpSend
  split
  · exact h
  · refine Steady.perform ?_ ..
    exact (h.fold ..).of_view rfl

theorem Steady.respondOn (h : Steady s t) (q : NvmQueue) (cid : Nat) (st : NvmeStatus) (dw0 dw1 : Nat) (side : OutSide) (key : Nat) :
    Steady s (t.respondOn q cid st dw0 dw1 side key) := by
  unfold State.respondOn
  extract_lets dnr t1 t2 b
  have h1 : Steady s t1 := Steady.ite (h.of_view rfl) h
  have h2 : Steady s t2 := h1.keeps (keeps_State_logError q cid _ st rfl (Keeps.refl false 4096 t1)) (by decide)
  split
  · exact h2.hostMsg ..
  · exact h2.tcpSend ..

theorem Steady.countStatus (h : Steady s t) (st : NvmeStatus) : Steady s (t.countStatus st) := Steady.ite ((h.bump F.NVS_UNRECOVERED.COUNT 0 0).raise 0x185) h

theorem Steady.unequip (h : Steady s t) (c : DrvCmd) (held : Bool) : Steady s (t.unequip c held) := h.keeps (keeps_State_unequip c held rfl (Keeps.refl false 73728 t)) (by decide)

theorem Steady.dropDrv (h : Steady s t) (c : DrvCmd) (held : Bool) : Steady s (t.dropDrv c held) := (h.unequip c held).of_view rfl

theorem Steady.dropReads (h : Steady s t) (key : Nat) : Steady s (t.dropReads key) := h.foldl _ (fun _ c h => h.dropDrv c true)

theorem Steady.dropCmd (h : Steady s t) (c : Cmd) : Steady s (t.dropCmd c) := (h.dropReads c.key).of_view rfl

theorem Steady.endCmd (h : Steady s t) (c : Cmd) (st : NvmeStatus) (dw0 : Nat) : Steady s (t.endCmd c st dw0) := by
  unfold State.endCmd
  extract_lets t1 t2
  have h1 : Steady s t1 := h.countStatus st
  refine Steady.dropCmd ?_ c
  unfold t2
  split
  · exact h1.respondOn ..
  · exact h1

theorem Steady.ackWrite (h : Steady s t) (key : Nat) : Steady s (t.ackWrite key) := by
  unfold State.ackWrite
  split
  · exact h
  · exact (h.endCmd ..).ite h

theorem Steady.ackWrites (h : Steady s t) : Steady s t.ackWrites := h.foldl _ (fun _ k h => h.ackWrite k)

/-! ## Commands to drives (R210, R407) -/

theorem Steady.injected (h : Steady s t) (a n : Nat) : Steady s (t.injected a n) := by
  unfold State.injected
  split
  · rename_i k w _
    have hu : Steady s ({ t with mi := { t.mi with inject := none, marks := if k = 3 then t.mi.marks else (w, k) :: t.mi.marks } } : State) := h.of_view rfl
    refine Steady.ite (hu.ite ?_) h
    exact hu.of_view rfl
  · exact h

theorem Steady.store (h : Steady s t) (a : Nat) (bs : List Byte) : Steady s (t.store a bs) := by
  unfold State.store
  extract_lets n whole lost u
  have hu : Steady s u := Steady.ite (h.of_view rfl) (h.foldl _ (fun v b hv => hv.ite (hv.of_view rfl)))
  refine Steady.injected ?_ a n
  exact hu.of_view rfl

theorem Steady.fillBuf (h : Steady s t) (i : Nat) (b : Blk) : Steady s (t.fillBuf i b) := (h.store ..).store ..

theorem Steady.queueDrv (h : Steady s t) (c : DrvCmd) : Steady s (t.queueDrv c) := by
  refine Steady.enqueue ?_ ..
  exact h.of_view rfl

theorem Steady.yardTake {st cls n : Nat} {is : List Nat} (h : Steady s t) (hu : State.yardTake st cls n t = some (u, is)) : Steady s u := by
  induction n generalizing t u is with
  | zero =>
    cases hu
    exact h
  | succ n ih =>
    unfold State.yardTake at hu
    extract_lets low at hu
    split at hu
    · cases hu
    split at hu
    · cases hu
    extract_lets t1 t2 t3 at hu
    have h1 : Steady s t1 := h.of_view rfl
    have h2 : Steady s t2 := h1.count 5 _ 0 _
    have h3 : Steady s t3 := (h2.raise 0x1A7).ite h2
    split at hu
    · cases hu
    · rename_i v is' hv
      cases hu
      exact ih h3 hv

theorem Steady.equip (h : Steady s t) (c : DrvCmd) : Steady s (t.equip c).1 := by
  unfold State.equip
  split
  · exact h.queueDrv c
  split
  · exact h
  rename_i v bufs hv
  have hv := h.yardTake hv
  split
  · exact h
  extract_lets d t1 t2
  have h1 : Steady s t1 := hv.of_view rfl
  have h2 : Steady s t2 := h1.foldl _ (fun _ x h => h.fillBuf x.1 x.2)
  exact h2.queueDrv _

theorem Steady.launch (h : Steady s t) (c : DrvCmd) : Steady s (t.launch c) := by
  refine Steady.ite (h.of_view rfl) (Steady.ite (h.of_view rfl) ?_)
  have he := h.equip c
  generalize t.equip c = x at he ⊢
  refine Steady.ite he (Steady.bump (Steady.count ?_ 5 _ 1 _) F.YRD_WAIT.COUNT 0 0)
  exact h.of_view rfl

theorem Steady.foldDrv (h : Steady s t) (c : DrvCmd) : Steady s (t.foldDrv c) := h.fold ..

theorem Steady.formDrv (h : Steady s t) (side : OutSide) (port nguid op lba nlb cls : Nat) (viaYard : Bool) (blocks : List Blk) (use : DrvUse) :
    Steady s (t.formDrv side port nguid op lba nlb cls viaYard blocks use) := by
  unfold State.formDrv
  split
  extract_lets c drv t1 t2 t3
  have h1 : Steady s t1 := h.of_view rfl
  have h2 : Steady s t2 := h1.foldDrv c
  have h3 : Steady s t3 := (h2.bump F.DP_PROXY.COUNT port 0).ite h2
  exact (h3.launch c).ite h3

theorem Steady.memberCmd (h : Steady s t) (side : OutSide) (x : Grp) (p : Place) (op nlb cls : Nat) (viaYard : Bool) (blocks : List Blk) (use : DrvUse) :
    Steady s (t.memberCmd side x p op nlb cls viaYard blocks use) := by
  unfold State.memberCmd
  split
  · exact h.formDrv ..
  · exact h

theorem Steady.reissue (h : Steady s t) (c : DrvCmd) : Steady s (t.reissue c) := by
  unfold State.reissue
  extract_lets t1 drv
  have h1 : Steady s t1 := h.unequip c true
  split
  extract_lets n t2 t3 t4
  have h2 : Steady s t2 := h1.of_view rfl
  have h3 : Steady s t3 := h2.foldDrv n
  have h4 : Steady s t4 := (h3.bump F.DP_PROXY.COUNT c.port 0).ite h3
  exact (h4.launch n).ite h4

end

end Sys2Proof.Machine
end

section
/-!
PROOFS. The effects of a TICK, of a handover and of a link that goes down are steady (07_stripe_layouts.md, R252; 08_tally_rebuild.md, R275 to R279; 09_whipsaw_pair.md, R310, R336, R342;
13_power.md, R540 to R545).
-/
namespace Sys2Proof.Machine

section
variable {s t u : State}

/-! ## Host reads (R208, R217) -/

theorem Steady.setCmd (h : Steady s t) (c : Cmd) : Steady s (t.setCmd c) := h.of_view rfl

theorem Steady.push (h : Steady s t) (k q : Nat) (e : Word) : Steady s (t.push k q e).1 := by
  unfold State.push
  extract_lets es
  split
  · exact h.of_view rfl
  · exact h

theorem Steady.handOver (h : Steady s t) (c : Cmd) : Steady s (t.handOver c) := by
  unfold State.handOver
  split
  · exact h
  extract_lets t1 k empty
  have h1 : Steady s t1 := (h.dropReads _).count ..
  have hdrawn : Steady s t1.drawn := h1.of_view rfl
  have hpush := hdrawn.push k 0 t1.free
  generalize t1.drawn.push k 0 t1.free = x at hpush ⊢
  obtain ⟨v, full⟩ := x
  dsimp only at hpush ⊢
  have hbump : Steady s (v.bump F.CHT_HANDOVER.COUNT) := hpush.bump ..
  have hempty := ((hbump.raise 0x1A0).ite hbump : Steady s (if empty then (v.bump F.CHT_HANDOVER.COUNT).raise 0x1A0 else v.bump F.CHT_HANDOVER.COUNT))
  exact (hbump.ite ((hempty.raise _).ite hempty)).setCmd _

theorem Steady.degradedEvent (h : Steady s t) (g : Nat) : Steady s (t.degradedEvent g) := by
  refine h.ite (Steady.raise ?_ _)
  exact h.of_view rfl

theorem Steady.issueRun (h : Steady s t) (key idx : Nat) : Steady s (t.issueRun key idx) := by
  unfold State.issueRun
  split
  · exact h
  split
  · exact h
  split
  · exact h
  refine h.ite ?_
  extract_lets cols cls u
  have hu : Steady s u := h.ite (h.setCmd _)
  refine hu.foldl _ (fun v j hv => ?_)
  split
  · exact hv.memberCmd ..
  · exact hv

theorem Steady.issueRuns (h : Steady s t) (key : Nat) (l : List Nat) : Steady s (l.foldl (fun (s : State) (k : Nat) => s.issueRun key k) t) := h.foldl _ (fun _ k h => h.issueRun key k)

theorem Steady.degradeRun (h : Steady s t) (key idx : Nat) (failed : Bool) : Steady s (t.degradeRun key idx failed) := by
  unfold State.degradeRun
  split
  · exact h
  split
  · exact h
  split
  · exact h
  extract_lets gone first r' c' t1 t2 t3
  have h1 : Steady s t1 := ((h.bump ..).count ..).ite h
  have h2 : Steady s t2 := (h1.setCmd c').degradedEvent _
  exact ((h2.handOver c').issueRuns ..).ite (h2.issueRun ..)

theorem Steady.sendData (h : Steady s t) (c : Cmd) (bytes : List Byte) : Steady s (t.sendData c bytes) := by
  unfold State.sendData
  extract_lets side
  split
  · exact h.dropCmd c
  split
  · exact (h.setCmd _).hostMsg ..
  · exact (h.tcpSend ..).endCmd ..

theorem Steady.haveBlocks (h : Steady s t) (c : Cmd) : Steady s (t.haveBlocks c) := by
  unfold State.haveBlocks
  split
  · split
    · exact h.endCmd ..
    · exact h.sendData ..
  split
  · split
    · exact h.endCmd ..
    · exact h.endCmd ..
  · exact h.endCmd ..

/-! ## Tally entries (R262, R264) -/

theorem Steady.tallyWait (h : Steady s t) (w : TallyWait) : Steady s (t.tallyWait w) := by
  unfold State.tallyWait
  extract_lets tly t1
  have h1 : Steady s t1 := h.ite (h.of_view rfl)
  exact (h1.raise _).ite h1

theorem Steady.issueWrite (h : Steady s t) (id k : Nat) : Steady s (t.issueWrite id k) := by
  unfold State.issueWrite
  split
  · exact h
  split
  · refine h.ite ?_
    split
    · exact h.memberCmd ..
    · exact h
  · exact h

theorem Steady.issueEntry (h : Steady s t) (id : Nat) : Steady s (t.issueEntry id) := by
  unfold State.issueEntry
  split
  · exact h
  · exact h.foldl _ (fun _ k h => h.issueWrite id k)

theorem Steady.openEntry (h : Steady s t) (kind g st off blocks member cls : Nat) (side : OutSide) (writes : List TallyWrite) :
    Steady s (t.openEntry kind g st off blocks member cls side writes) := by
  unfold State.openEntry
  split
  · exact h
  extract_lets e tly t1 t2
  have h1 : Steady s t1 := h.of_view rfl
  have h2 : Steady s t2 := (h1.raise _).ite h1
  exact h2.issueEntry _

theorem Steady.fillRun (h : Steady s t) (c : Cmd) (idx : Nat) (r : HostRun) (bs : List RdBlk) : Steady s (t.fillRun c idx r bs) := by
  unfold State.fillRun
  extract_lets rd c' t1 t2 ws t3
  have h1 : Steady s t1 := h.setCmd c'
  have h2 : Steady s t2 := Steady.ite (h1.foldl _ (fun v _ hv => hv.keeps (keeps_State_countRecon 1 rfl (Keeps.refl false 1 v)) (by decide))) h1
  have h3 : Steady s t3 := Steady.ite ((h2.openEntry ..).ite (h2.tallyWait _)) h2
  exact (h3.haveBlocks c').ite h3

theorem Steady.advanceRun (h : Steady s t) (key idx : Nat) : Steady s (t.advanceRun key idx) := by
  unfold State.advanceRun
  split
  · exact h
  rename_i c _
  split
  · exact h
  refine h.ite ?_
  split
  · exact h.issueRun ..
  · exact h.fillRun ..
  refine (h.degradeRun ..).ite ((h.endCmd ..).ite ?_)
  have hover := h.handOver c
  extract_lets v
  split
  · exact hover
  · exact (hover.setCmd _).issueRuns ..

theorem Steady.runResult (h : Steady s t) (key idx col : Nat) (res : Option (List RdBlk)) : Steady s (t.runResult key idx col res) := by
  unfold State.runResult
  split
  · exact h
  split
  · exact h
  · exact (h.setCmd _).advanceRun ..

/-! ## Brands and the vault (R252, R274 to R279) -/

theorem Steady.vaultChanged (h : Steady s t) : Steady s t.vaultChanged := by
  unfold State.vaultChanged
  extract_lets room limit short u
  have hu : Steady s u := (h.set ..).set ..
  exact (hu.raise _).ite hu

theorem Steady.brandIssue (h : Steady s t) (g m : Nat) : Steady s (t.brandIssue g m) := by
  unfold State.brandIssue
  split
  · exact h
  split
  · exact h
  split
  · exact h
  · exact h.memberCmd ..

theorem Steady.startBrand (h : Steady s t) (g : Nat) : Steady s (t.startBrand g) := by
  unfold State.startBrand
  split
  · exact h
  refine h.ite (Steady.ite ((h.set ..).set ..) (Steady.foldl _ (fun _ m h => h.brandIssue g m) ?_))
  exact h.of_view rfl

theorem Steady.vaultWrite (h : Steady s t) (seq : Nat) (m : VMem) (off : Nat) (blocks : List (List Byte)) (use : DrvUse) : Steady s (t.vaultWrite seq m off blocks use) := by
  unfold State.vaultWrite
  split
  · exact h
  · exact h.memberCmd ..

theorem Steady.setDump (h : Steady s t) (d : Dump) : Steady s (t.setDump d) := h.of_view rfl

theorem Steady.writeHeaders (h : Steady s t) (d : Dump) (kind state : Nat) : Steady s (t.writeHeaders d kind state) := h.foldl _ (fun _ _ h => h.vaultWrite ..)

theorem Steady.writeSegment (h : Steady s t) (d : Dump) (i copy : Nat) (vs : List Ver) (m : VMem) (slot : Nat) : Steady s (t.writeSegment d i copy vs m slot) := h.vaultWrite ..

theorem Steady.writeControl (h : Steady s t) (d : Dump) (i : Nat) : Steady s (t.writeControl d i) := by
  unfold State.writeControl
  split
  · exact h.vaultWrite ..
  · exact h

theorem Steady.writeLedgerCopy (h : Steady s t) (d : Dump) (i : Nat) : Steady s (t.writeLedgerCopy d i) := by
  unfold State.writeLedgerCopy
  split
  · exact h.vaultWrite ..
  · exact h

theorem Steady.retireDump (h : Steady s t) (d : Dump) : Steady s (t.retireDump d) := (h.setDump _).writeHeaders ..

theorem Steady.dumpHeaders (h : Steady s t) (d : Dump) : Steady s (t.dumpHeaders d) := (((h.set ..).setDump _).writeHeaders ..).raise _

theorem Steady.failMigs (h : Steady s t) : Steady s t.failMigs := by
  unfold State.failMigs
  extract_lets live tly u
  have hu : Steady s u := h.of_view rfl
  exact hu.ite (hu.raise 0x1DD)

theorem Steady.beginDump (h : Steady s t) : Steady s t.beginDump := by
  have hstop : Steady s { t with tly := { t.tly with stopped := true } } := h.of_view rfl
  exact h.ite (hstop.failMigs.setDump _)

theorem Steady.dumpNext (h : Steady s t) (d : Dump) : Steady s (t.dumpNext d) := by
  unfold State.dumpNext
  split
  case h_1 => exact (h.setDump _).foldl _ (fun _ _ h => h.writeControl ..)
  case h_2 => exact (h.setDump _).foldl _ (fun _ _ h => (h.writeSegment ..).writeSegment ..)
  case h_3 => exact ((h.setDump _).ledger ..).foldl _ (fun _ _ h => h.writeLedgerCopy ..)
  case h_4 => exact Steady.ite ((h.setDump _).beginDump.ite (h.setDump _)) ((h.setDump _).ite (h.retireDump d))
  case h_5 =>
    have hu : Steady s { t with tly := { t.tly with dump := none, stopped := false } } := h.of_view rfl
    exact hu.beginDump.ite hu
  case h_6 => exact h

theorem Steady.dumpRun (n : Nat) (h : Steady s t) : Steady s (State.dumpRun n t) := by
  induction n generalizing t with
  | zero => exact h
  | succ n ih =>
    unfold State.dumpRun
    split
    · exact h
    · exact h.ite (ih (h.dumpNext _))

theorem Steady.rewriteCopy (h : Steady s t) (d : Dump) : Steady s (t.rewriteCopy d) := ((h.setDump _).bump ..).raise _

/-- A failed vault write marks a header's member, or gives the copy another place. -/
theorem Steady.vaultFailed (h : Steady s t) (kind index copy : Nat) : Steady s (t.vaultFailed kind index copy) := by
  unfold State.vaultFailed
  split
  case h_1 => exact h
  case h_2 d _ =>
    split
    · split
      · exact h.setDump _
      · exact h
    split
    · split
      · exact h
      extract_lets failed other
      split
      · exact h
      · exact (h.rewriteCopy _).writeSegment ..
    split
    · split
      · exact h
      extract_lets other
      split
      · extract_lets d' t1 t2
        have h2 : Steady s t2 := (h.rewriteCopy d').writeControl ..
        exact (h2.writeLedgerCopy ..).ite h2
      · exact h
    · exact h

theorem Steady.vaultDone (h : Steady s t) (kind index copy : Nat) (ok : Bool) : Steady s (t.vaultDone kind index copy ok) := by
  unfold State.vaultDone
  extract_lets t1 t2
  have h1 : Steady s t1 := h.ite (h.vaultFailed ..)
  refine Steady.dumpRun 6 ?_
  unfold t2
  refine h1.ite ?_
  split
  · exact (h1.setDump _).ite h1
  · exact h1

/-! ## A link that goes down (R409) -/

theorem Steady.orphan (h : Steady s t) (c : DrvCmd) : Steady s (t.orphan c) := by
  unfold State.orphan
  split
  · exact (h.dropDrv c true).runResult ..
  · exact (h.reissue c).ite ((h.dropDrv c true).vaultDone ..)
  · exact h.reissue c
  · exact h.reissue c
  · exact h.dropDrv c true
  · exact h.dropDrv c true
  · exact h.dropDrv c true

theorem Steady.regone (h : Steady s t) : Steady s t.regone := h.of_view rfl

/-- A port that goes down stops serving its side; nothing else about the step changes. -/
theorem portDown_steady (s : State) (sideB : Bool) (n : Nat) : Steady (s.setReady sideB n false) (s.portDown sideB n) := by
  unfold State.portDown
  extract_lets was t1 t2 t3
  have h2 : Steady t1 t2 := (Steady.refl t1).foldl _ (fun _ c h => h.orphan c)
  have h3 : Steady t1 t3 := h2.regone
  exact h3.vaultChanged.ite h3

/-! ## Digests (R342) -/

theorem Steady.detach (h : Steady s t) : Steady s t.detach := ((h.setRole _).raise _).of_view rfl

theorem Steady.join (h : Steady s t) : Steady s t.join := (h.setRole _).of_view rfl

theorem Steady.reissuePartner (h : Steady s t) : Steady s t.reissuePartner := h.foldl _ (fun _ c h => h.reissue c)

theorem Steady.serveAlone (h : Steady s t) : Steady s t.serveAlone := by
  refine Steady.ackWrites (Steady.reissuePartner (Steady.linkAcked ?_ _))
  exact (h.setRole _).of_view rfl

theorem Steady.diverged (h : Steady s t) : Steady s t.diverged := by
  unfold State.diverged
  extract_lets now day ds t1 wsw nvm t2
  have h1 : Steady s t1 := (h.bump ..).raise _
  have h2 : Steady s t2 := h1.of_view rfl
  exact Steady.ite (h2.serveAlone.set ..) (Steady.ite (h2.detach.ite h2.join) h2)

theorem Steady.compareDigests (h : Steady s t) : Steady s t.compareDigests := by
  unfold State.compareDigests
  split
  · exact h
  · exact Steady.ite (h.of_view rfl) h.diverged

theorem Steady.digestSend (h : Steady s t) : Steady s t.digestSend := by
  unfold State.digestSend
  refine Steady.ite ?_ h
  extract_lets v n u
  have hu : Steady s u := (h.set ..).set ..
  refine Steady.compareDigests (Steady.sendLink ?_ _)
  exact hu.of_view rfl

/-! ## Power (R215, R540 to R545) -/

theorem Steady.dirtyLevel (h : Steady s t) : Steady s t.dirtyLevel := by
  refine Steady.ite (Steady.ite (h.of_view rfl) h) (Steady.ite (Steady.raise ?_ _) h)
  exact h.of_view rfl

theorem Steady.showThrough (h : Steady s t) : Steady s t.showThrough := by
  unfold State.showThrough
  extract_lets on u
  have hu : Steady s u := h.set ..
  cases t.flag F.PWR_STATE.WRITE_THROUGH == on
  · cases on
    · exact hu.ackWrites.dirtyLevel.raise _
    · exact hu.raise _
  · exact h

theorem Steady.settlePower (h : Steady s t) : Steady s t.settlePower := by
  unfold State.settlePower
  split
  · exact (h.retireDump _).ite h
  · exact h

theorem Steady.portTo (h : Steady s t) (n st : Nat) : Steady s (t.portTo n st) := h.ite ((h.set ..).raise _)

theorem Steady.driveAwake (h : Steady s t) (n : Nat) : Steady s (t.driveAwake n) := by
  unfold State.driveAwake
  extract_lets p
  cases p.shutDown
  · cases p.lowPower
    · exact h
    · refine h.setPort n _ ?_ ?_ <;> rfl
  · refine (h.setPort n _ ?_ ?_).portTo n 4 <;> rfl

theorem Steady.drivesAwake (h : Steady s t) : Steady s t.drivesAwake := h.foldl (List.range 48) (fun _ n h => h.driveAwake n)

theorem Steady.abortEntry (h : Steady s t) : Steady s t.abortEntry := by
  unfold State.abortEntry
  extract_lets pwr u
  have hu : Steady s u := by
    refine Steady.drivesAwake ?_
    exact h.of_view rfl
  clear_value u
  exact ((hu.bump F.PWR_ENTRY_COUNT.COUNT 0 0).set F.PWR_STATE.STATE stActive 0 0).raise 0x00D

theorem Steady.fallowBegin (h : Steady s t) : Steady s t.fallowBegin := by
  refine Steady.dumpRun 6 (Steady.dumpHeaders ?_ _)
  exact h.of_view rfl

theorem Steady.cleanBrands (h : Steady s t) : Steady s t.cleanBrands := by
  refine Steady.foldl _ (fun v g hv => ?_) (h.of_view rfl)
  split
  · refine Steady.startBrand ?_ g
    exact hv.of_view rfl
  · exact hv

theorem Steady.entryAdvance (h : Steady s t) : Steady s t.entryAdvance :=
  h.ite (h.abortEntry.ite (Steady.ite (h.fallowBegin.ite h) (Steady.ite (h.cleanBrands.ite h) (Steady.ite (h.of_view rfl) h))))

theorem Steady.fallowOver (h : Steady s t) : Steady s t.fallowOver := by
  unfold State.fallowOver
  refine Steady.ite ?_ h
  extract_lets pwr u
  have hu : Steady s u := h.of_view rfl
  split
  · exact hu.ite (hu.retireDump _)
  · exact hu

/-! ## Tasks (R450) -/

theorem Steady.finishTask (h : Steady s t) (r : TaskRun) (code : Nat) (res : List Nat) : Steady s (t.finishTask r code res) := by
  unfold State.finishTask
  extract_lets t1 t2 t3 t4
  have h1 : Steady s t1 := h.of_view rfl
  have h2 : Steady s t2 := h1.foldl _ (fun _ _ h => h.set ..)
  have h3 : Steady s t3 := (((h2.set ..).set ..).set ..).set ..
  have h4 : Steady s t4 := h3.set ..
  exact (h4.raise _).ite h4

theorem Steady.endRun (h : Steady s t) (r : TaskRun) (code : Nat) (res : List Nat) : Steady s (t.endRun r code res) :=
  Steady.ite (h.of_view rfl) (Steady.ite (h.of_view rfl) (h.finishTask ..))

theorem Steady.driveFwLost (h : Steady s t) : Steady s t.driveFwLost := by
  unfold State.driveFwLost
  split
  · exact h
  · exact h.ite (h.endRun ..)

/-! ## A TICK (R310) -/

theorem tickStep_steady (us : Nat) (s : State) : Steady { s with dev := { s.dev with stepUs := us } } (tickStep us s) := by
  unfold tickStep
  extract_lets dev t1 wsw t2 flm t3 t4
  have h2 : Steady t1 t2 := (Steady.refl t1).ite ((Steady.refl t1).of_view rfl)
  have h3 : Steady t1 t3 := h2.of_view rfl
  have h4 : Steady t1 t4 := h3.flushCtl.ite h3
  exact h4.digestSend.entryAdvance.fallowOver.showThrough.settlePower.driveFwLost

/-! ## A packet that goes again (R117) -/

theorem Steady.retxStep (h : Steady s t) (msgId index attempt : Nat) : Steady s (retxStep msgId index attempt t) := by
  unfold Machine.retxStep
  split
  · exact h
  split
  · exact h
  extract_lets p
  refine Steady.ite (h.of_view rfl) ?_
  split
  · exact h.resend ..
  · exact h.of_view rfl

/-! ## A handover (R336, R343) -/

theorem Steady.moveDrives (h : Steady s t) (oldB : Bool) : Steady s (t.moveDrives oldB) := h.foldl _ (fun _ c h => h.reissue c)

theorem Steady.numberForwarded (h : Steady s t) : Steady s t.numberForwarded := by
  refine Steady.foldl _ (fun _ _ h => h.number ..) ?_
  exact h.of_view rfl

theorem Steady.tick (h : Steady s t) (us : Nat) : Steady s (t.tick us) := by
  refine Steady.number ?_ ..
  exact h.of_view rfl

theorem Steady.missedTicks (h : Steady s t) : Steady s t.missedTicks := (h.foldl _ (fun _ _ h => h.tick _)).of_view rfl

end

end Sys2Proof.Machine
end

section
/-!
PROOFS. O34 (09_whipsaw_pair.md, R310, R311, R314, R321, R335, R343): what the consumption of each kind of input does.
-/
namespace Sys2Proof.Machine

section
variable {s t u : State}

/-! ## Consumption (R314) -/

/-- The state in which the effect of the input numbered `n` starts. -/
def State.takesInput (s : State) (n : Nat) : State :=
  { s with dev := { s.dev with stepNo := n, curStep := n }, wsw := { s.wsw with inputs := s.wsw.inputs.drop 1 } }

theorem closeStep_stepNo (s : State) (n : Nat) : (s.closeStep n).dev.stepNo = s.dev.stepNo := rfl

theorem closeStep_stepUs (s : State) (n : Nat) : (s.closeStep n).dev.stepUs = s.dev.stepUs := rfl

theorem settleTakeover_none (h : s.wsw.takeover = false) : s.settleTakeover = s := by
  unfold State.settleTakeover
  simp [h]

theorem serveRepairs_none (h : s.mi.repairWaits = []) : s.serveRepairs = s := by
  have hsame : ({ s with mi := { s.mi with repairWaits := [] } } : State) = s := by rw [← h]
  unfold State.serveRepairs
  simpa only [h, List.filter_nil, List.foldl_nil] using hsame

/-- With no takeover to settle and no granule asked for, the consumption of the next input is its effect. -/
theorem consuming_eq {n : Nat} {r : InputRec} {kind : Input → Bool} {f : InputRec → State → State} (h : NextInput s n r) (hkind : kind r.input = true) (ht : f r (s.takesInput n) = t)
    (htakeover : t.wsw.takeover = false) (hrepairs : t.mi.repairWaits = []) : s.consuming n kind f = t.closeStep 0 := by
  obtain ⟨hnext, hstep, -, -⟩ := h
  have hconsume : s.consume n kind f = t.closeStep 0 := by
    unfold State.consume
    simp only [hnext, hstep, hkind, ne_eq, not_true_eq_false, Bool.not_true, Bool.false_eq_true, or_self, if_false]
    rw [← ht]
    rfl
  have hsettled : (t.closeStep 0).settleTakeover = t.closeStep 0 := settleTakeover_none htakeover
  have hserved : (t.closeStep 0).serveRepairs = t.closeStep 0 := serveRepairs_none hrepairs
  unfold State.consuming
  rw [hconsume, hsettled, hserved]

/-! ## Host frames (R311) -/

theorem consumeHostFrame_bad {n lp : Nat} {f : List Byte} {r : InputRec} (h : NextInput s n r) (hside : r.sideB ≠ s.sideB) (hin : r.input = .hostFrame lp f true) :
    exec (.consumeHostFrame n) s = .next (pastInput s n) := by
  have heffect : hostFrameStep r (s.takesInput n) = s.takesInput n := by
    unfold hostFrameStep
    simp only [hin, if_neg (show ¬ r.sideB = (s.takesInput n).sideB from hside), if_true]
  obtain ⟨-, -, hnone, hnil⟩ := id h
  exact congrArg Host.Outcome.next (consuming_eq h (by rw [hin]; rfl) heffect hnone hnil)

theorem consumeHostFrame_control {n lp : Nat} {f : List Byte} {r : InputRec} (h : NextInput s n r) (hside : r.sideB ≠ s.sideB) (hin : r.input = .hostFrame lp f false)
    (hcontrol : s.lookup lp f = .control) :
    ∃ t, exec (.consumeHostFrame n) s = .next t ∧ t.dev.stepNo = n ∧ Emitted s t (.engineFrame (s.roleCluster 2) lp f false (ptpFormat s.ptpNow)) := by
  have hlookup : (s.takesInput n).lookup lp f = .control := hcontrol
  have heffect : hostFrameStep r (s.takesInput n) = (s.takesInput n).emit (.engineFrame (s.roleCluster 2) lp f false (ptpFormat s.ptpNow)) := by
    unfold hostFrameStep
    simp only [hin, if_neg (show ¬ r.sideB = (s.takesInput n).sideB from hside), Bool.false_eq_true, if_false, State.frameIn, hlookup]
    rfl
  obtain ⟨-, -, hnone, hnil⟩ := id h
  exact ⟨_, congrArg Host.Outcome.next (consuming_eq h (by rw [hin]; rfl) heffect hnone hnil), rfl, [_], rfl, List.mem_singleton_self _⟩

/-! ## Drive completions (R335) -/

theorem consumeDriveCqe_none {n port check : Nat} {cqe : DrvCqe} (blks : List Blk) {r : InputRec} (h : NextInput s n r) (hin : r.input = .driveCqe port check cqe)
    (hcmd : s.cqeCmd r.sideB port cqe = none) : exec (.consumeDriveCqe n blks) s = .next (pastInput s n) := by
  have hcmd' : (s.takesInput n).cqeCmd r.sideB port cqe = none := hcmd
  obtain ⟨-, -, hnone, hnil⟩ := id h
  refine congrArg Host.Outcome.next (consuming_eq h (by rw [hin]; rfl) ?_ (t := s.takesInput n) hnone hnil)
  simp only [hin, State.driveCqe, hcmd']

/-- The state once the drive has refused the preempt of its fence. -/
def State.fenceRefused (s : State) (c : DrvCmd) : State :=
  let s := s.dropDrv c false
  (s.setPort c.port { s.port c.port with noWrites := true }).raise 0x20B

theorem driveCqe_fence {sideB : Bool} {port check : Nat} {cqe : DrvCqe} {blks : List Blk} {c : DrvCmd} (hcmd : s.cqeCmd sideB port cqe = some c) (huse : c.use = .fence)
    (hop : c.op ≠ nvWrite) (hrefused : ¬ (cqe.sct = 0 ∧ cqe.sc = 0)) : State.driveCqe sideB port check cqe blks s = s.fenceRefused c := by
  have hok : (cqe.sct == 0 && cqe.sc == 0) = false := by
    simpa using hrefused
  unfold State.driveCqe
  simp only [hcmd]
  unfold State.driveDone
  simp only [huse, hok, beq_eq_false_iff_ne.mpr hop, Bool.and_false, Bool.false_eq_true, if_false]
  rfl

theorem fenceRefused_steady (s : State) (c : DrvCmd) : Steady s (s.fenceRefused c) := by
  refine Steady.raise (Steady.setPort ((Steady.refl s).dropDrv c false) _ _ ?_ ?_) _ <;> rfl

theorem fenceRefused_noWrites (s : State) (c : DrvCmd) : ((s.fenceRefused c).port c.port).noWrites = true := by
  unfold State.fenceRefused State.port
  rw [raise_drv]
  have hget : ∀ (v : State) (p : DrvPort), sparseGet drvPort0 c.port (v.setPort c.port p).drv.ports = p := fun v p => (sparseGet_put ..).trans (if_pos rfl)
  rw [hget]

theorem consumeDriveCqe_fence {n port check : Nat} {cqe : DrvCqe} (blks : List Blk) {r : InputRec} {c : DrvCmd} (h : NextInput s n r) (hin : r.input = .driveCqe port check cqe)
    (hcmd : s.cqeCmd r.sideB port cqe = some c) (huse : c.use = .fence) (hop : c.op ≠ nvWrite) (hrefused : ¬ (cqe.sct = 0 ∧ cqe.sc = 0)) :
    ∃ t, exec (.consumeDriveCqe n blks) s = .next t ∧ t.dev.stepNo = n ∧ (t.port c.port).noWrites = true ∧ bitOf (t.get F.EVT_STATUS.STATUS 16) 11 = true := by
  have hcmd' : (s.takesInput n).cqeCmd r.sideB port cqe = some c := hcmd
  have hsteady := fenceRefused_steady (s.takesInput n) c
  obtain ⟨-, -, hnone, hnil⟩ := id h
  refine ⟨_, congrArg Host.Outcome.next (consuming_eq h (by rw [hin]; rfl) ?_ (t := (s.takesInput n).fenceRefused c) (hsteady.takeover.trans hnone) (hsteady.repairs.trans hnil)),
    (closeStep_stepNo ..).trans hsteady.stepNo, fenceRefused_noWrites _ c, ?_⟩
  · simp only [hin]
    exact driveCqe_fence hcmd' huse hop hrefused
  · exact raise_bit _ 0x20B

/-! ## Links that go down -/

theorem setReady_serves (s : State) (sideB b : Bool) (n : Nat) : (if sideB = s.sideB then ((s.setReady sideB n b).port n).ownReady else ((s.setReady sideB n b).port n).partnerReady) = b := by
  unfold State.setReady
  extract_lets p
  have hget : ∀ q : DrvPort, (s.setPort n q).port n = q := fun q => (sparseGet_put ..).trans (if_pos rfl)
  rw [hget]
  split <;> rfl

theorem consumeDriveEvent_linkDown {n port a b c : Nat} {r : InputRec} (h : NextInput s n r) (hin : r.input = .driveEvent port (.link false a b c)) :
    ∃ t, exec (.consumeDriveEvent n) s = .next t ∧ t.dev.stepNo = n ∧ (if r.sideB = s.sideB then (t.port port).ownReady else (t.port port).partnerReady) = false := by
  have hdown := portDown_steady (s.takesInput n) r.sideB port
  have hserves := setReady_serves (s.takesInput n) r.sideB false port
  obtain ⟨-, -, hnone, hnil⟩ := id h
  refine ⟨_, congrArg Host.Outcome.next (consuming_eq h (by rw [hin]; rfl) ?_ (t := (s.takesInput n).portDown r.sideB port) (hdown.takeover.trans hnone) (hdown.repairs.trans hnil)),
    (closeStep_stepNo ..).trans hdown.stepNo, ?_⟩
  · simp only [hin]
    rfl
  · rw [← hdown.ownReady, ← hdown.partnerReady] at hserves
    exact hserves

/-! ## TICKs and management writes -/

theorem consumeTick_sets {n us : Nat} {r : InputRec} (h : NextInput s n r) (hin : r.input = .tick us) :
    ∃ t, exec (.consumeTick n) s = .next t ∧ t.dev.stepNo = n ∧ t.dev.stepUs = us := by
  have htick := tickStep_steady us (s.takesInput n)
  obtain ⟨-, -, hnone, hnil⟩ := id h
  refine ⟨_, congrArg Host.Outcome.next (consuming_eq h (by rw [hin]; rfl) ?_ (t := tickStep us (s.takesInput n)) (htick.takeover.trans hnone) (htick.repairs.trans hnil)),
    (closeStep_stepNo ..).trans htick.stepNo, (closeStep_stepUs ..).trans htick.stepUs⟩
  simp only [hin]

theorem consumeMgmt_chainWrite {n i v : Nat} {fault : Bool} {r : InputRec} (h : NextInput s n r) (hin : r.input = .mgmt (.chainWrite i v fault)) :
    exec (.consumeMgmt n) s = .next ((pastInput s n).setChain i (v % 2 ^ 32 + (if fault then chainFaultBit else 0))) := by
  obtain ⟨-, -, hnone, hnil⟩ := id h
  refine congrArg Host.Outcome.next (consuming_eq h (by rw [hin]; rfl) ?_ (t := (s.takesInput n).setChain i (v % 2 ^ 32 + (if fault then chainFaultBit else 0))) hnone hnil)
  simp only [hin]
  rfl

/-! ## Packets that go again (R117) -/

/-- A controller that serves alone performs the outputs of every side. -/
theorem perform_side_of_alone (hrole : s.role = roleAlone) (side : OutSide) (acks : Bool) (o : Out) : s.perform side acks o = s.perform .numbering acks o := by
  have hissues : ∀ x : OutSide, s.issues x = true := by
    intro x
    cases x <;> simp [State.issues, State.servesHalf, State.numbers, hrole]
  unfold State.perform
  rw [if_pos (hissues _), if_pos (hissues _)]

theorem sendFlume_side_of_alone {h : FlumeHdr} (hs : CanSend s h.dstPeer) (side : OutSide) (acks : Bool) (cls : Nat) (es : List FlumeExt) (payload : List Byte) :
    s.sendFlume side acks cls h es payload = s.sendFlume .numbering acks cls h es payload := by
  obtain ⟨hrole, -, hpeer, hkey, -, -, f, hf, hip⟩ := hs
  obtain ⟨k, hk⟩ := Option.isSome_iff_exists.mp hkey
  obtain ⟨lip, hlip⟩ := Option.isSome_iff_exists.mp hip
  obtain ⟨hrole', -, -⟩ := foldPacket_same s h payload
  rw [sendFlume_eq hf hk hlip hpeer, sendFlume_eq hf hk hlip hpeer, perform_side_of_alone (hrole'.trans hrole)]

theorem transmit_sends {m : Msg} (hs : CanSend s m.dst) (hop : m.opcode < 256) (hdst : m.dst < 256 ^ 4) (hid : m.id < 256 ^ 6) (i attempt path : Nat) (solicit : Bool) :
    SendsFlume s (s.transmit m i attempt path solicit) m.opcode m.dst m.id := by
  unfold State.transmit
  extract_lets ck h0 hd es old p t1 t2 flm t3
  have hsent : SendsFlume s.cookieUsed t1 m.opcode m.dst m.id := by
    unfold t1
    rw [sendFlume_side_of_alone (canSend_cookieUsed hs)]
    exact sendFlume_sends (h := hd) (canSend_cookieUsed hs) hop hdst hid ..
  have hcount : ∃ l, t2.out = l ++ t1.out := by
    unfold t2
    split
    · exact (keeps_State_count 3 0 2 1 rfl (Keeps.refl false 33554431 t1)).out
    · exact ⟨[], rfl⟩
  exact sendsFlume_mono hsent ⟨[], rfl⟩ hcount

theorem resend_sends {m : Msg} (hs : CanSend s m.dst) (hop : m.opcode < 256) (hdst : m.dst < 256 ^ 4) (hid : m.id < 256 ^ 6) (p : PktTx) (attempt : Nat) :
    SendsFlume s (s.resend m p attempt) m.opcode m.dst m.id := by
  obtain ⟨-, -, -, hkey, -, -, f, hf, hip⟩ := id hs
  unfold State.resend
  simp only [hf, Option.isNone_eq_false_iff.mpr hkey, Bool.false_eq_true, if_false]
  exact sendsFlume_mono (transmit_sends (canSend_setFlow hs (g := f.after (f.pickOther p.path)) (flow?_peer (f := f) hf) hip) hop hdst hid ..) ⟨[], rfl⟩ ⟨[], rfl⟩

theorem transmit_fx (s : State) (m : Msg) (i attempt path : Nat) (solicit : Bool) : (s.transmit m i attempt path solicit).fx = s.fx :=
  (keeps_State_transmit m i attempt path solicit rfl (Keeps.refl false 25232035 s)).part .fx (by decide)

theorem resend_reports (s : State) (m : Msg) (p : PktTx) (attempt : Nat) : (s.resend m p attempt).fx.reports = s.fx.reports := by
  unfold State.resend
  split
  · rfl
  · extract_lets path
    split
    · rfl
    · rw [transmit_fx]
      rfl

theorem settleReports_none (h : s.fx.reports = []) : s.settleReports = s := by
  unfold State.settleReports
  simp [h]

theorem retxStep_eq {msgId index attempt : Nat} {m : Msg} {p : PktTx}
    (hm : s.flm.msgs.find? (fun m => m.id == msgId && m.pkts.any (fun p => p.index == index && p.sent)) = some m) (hp : m.pkts.find? (fun p => p.index == index) = some p)
    (hheld : p.held = false) (hs : CanSend s m.dst) : retxStep msgId index attempt s = s.resend m { p with retx := false } attempt := by
  obtain ⟨-, -, -, -, -, -, f, hf, -⟩ := hs
  unfold retxStep
  simp only [hm, hp, hheld, hf, Bool.false_and, Bool.false_eq_true, if_false]

theorem consumeRetx_sends {n msgId index attempt : Nat} {m : Msg} {p : PktTx} {r : InputRec} (h : NextInput s n r) (hin : r.input = .retx msgId index attempt)
    (hm : s.flm.msgs.find? (fun m => m.id == msgId && m.pkts.any (fun p => p.index == index && p.sent)) = some m) (hp : m.pkts.find? (fun p => p.index == index) = some p)
    (hheld : p.held = false) (hs : CanSend s m.dst) (hop : m.opcode = opSend) (hdst : m.dst < 2 ^ 32) (hmsg : msgId < 2 ^ 48) (hreports : s.fx.reports = []) :
    ∃ t, exec (.consumeRetx n) s = .next t ∧ t.dev.stepNo = n ∧ SendsFlume s t opSend m.dst msgId := by
  have hid : m.id = msgId := by
    have hfound := List.find?_some hm
    simp only [Bool.and_eq_true, beq_iff_eq] at hfound
    exact hfound.1
  have hs' : CanSend (s.takesInput n) m.dst := hs
  have hsteady := (Steady.refl (s.takesInput n)).resend m { p with retx := false } attempt
  have hsends := resend_sends hs' (hop ▸ by decide) hdst (hid ▸ hmsg) { p with retx := false } attempt
  rw [hop, hid] at hsends
  obtain ⟨-, -, hnone, hnil⟩ := id h
  refine ⟨_, congrArg Host.Outcome.next (consuming_eq h (by rw [hin]; rfl) ?_ (t := (s.takesInput n).resend m { p with retx := false } attempt) (hsteady.takeover.trans hnone)
    (hsteady.repairs.trans hnil)), hsteady.stepNo, sendsFlume_mono hsends ⟨[], rfl⟩ ⟨[], rfl⟩⟩
  simp only [hin]
  rw [retxStep_eq (s := s.takesInput n) hm hp hheld hs']
  exact settleReports_none ((resend_reports ..).trans hreports)

/-! ## The cut of a handover (R343) -/

theorem fwHandedOver_none (h : s.fw.phase = 0) : s.fwHandedOver = s := by
  unfold State.fwHandedOver
  simp [h]

theorem PairKept.moveDrives (h : PairKept s t) (oldB : Bool) : PairKept s (t.moveDrives oldB) := h.foldl _ (fun _ c h => h.reissue c)

theorem moveDrives_fw (s : State) (oldB : Bool) : (s.moveDrives oldB).fw = s.fw := (keeps_State_moveDrives oldB rfl (Keeps.refl false 32581155 s)).part .fw (by decide)

theorem handoverCut_leader (hrole : s.role = roleLeader) (hphase : s.fw.phase = 0) :
    Steady s (handoverCut s) ∧ (handoverCut s).role = roleFollower ∧ bitOf ((handoverCut s).get F.EVT_STATUS.STATUS 16) 9 = true := by
  let v : State := { s with wsw := { s.wsw with handover := false } }.setRole roleFollower
  have hcut : handoverCut s = (v.moveDrives v.sideB).raise 0x209 := by
    unfold handoverCut
    rw [if_pos hrole]
    refine fwHandedOver_none ?_
    rw [raise_fw, moveDrives_fw]
    have hv : v.fw = s.fw := (keeps_State_setRole roleFollower rfl (Keeps.refl false 8388609 _)).part .fw (by decide)
    rw [hv, hphase]
  have hkept : PairKept v ((v.moveDrives v.sideB).raise 0x209) := ((PairKept.refl v).moveDrives _).raise _
  have hv : Steady s v := Steady.setRole (t := { s with wsw := { s.wsw with handover := false } }) ((Steady.refl s).of_view rfl) _
  rw [hcut]
  exact ⟨(hv.moveDrives _).raise _, hkept.role.trans (role_setRole ..), raise_bit _ 0x209⟩

theorem handoverCut_follower (hrole : s.role = roleFollower) :
    Steady s (handoverCut s) ∧ (handoverCut s).role = roleLeader ∧ bitOf ((handoverCut s).get F.EVT_STATUS.STATUS 16) 9 = true := by
  let v : State := s.setRole roleLeader
  let w : State := (v.moveDrives (!v.sideB)).raise 0x209
  have hcut : handoverCut s = w.numberForwarded.missedTicks := by
    unfold handoverCut
    rw [if_neg (by rw [hrole]; decide), if_pos hrole]
  have htail : PairKept w w.numberForwarded.missedTicks := (PairKept.refl w).numberForwarded.missedTicks
  have hkept : PairKept v w := ((PairKept.refl v).moveDrives _).raise _
  have hv : Steady s v := (Steady.refl s).setRole _
  rw [hcut]
  exact ⟨((hv.moveDrives _).raise _).numberForwarded.missedTicks, (hkept.trans htail).role.trans (role_setRole ..), htail.raised (e := 0x209) rfl⟩

theorem consumeCut_handover {n : Nat} {r : InputRec} (h : NextInput s n r) (hin : r.input = .cut cutHandover) (hsteady : Steady (s.takesInput n) (handoverCut (s.takesInput n))) :
    exec (.consumeCut n) s = .next ((handoverCut (s.takesInput n)).closeStep 0) := by
  obtain ⟨-, -, hnone, hnil⟩ := id h
  refine congrArg Host.Outcome.next (consuming_eq h (by rw [hin]; rfl) ?_ (hsteady.takeover.trans hnone) (hsteady.repairs.trans hnil))
  simp only [hin, if_true]

/-! ## Slots (R321, R434) -/

/-- Work on a slot: the step and the pair stay as they are, and so does the cut of a joiner. -/
structure SlotWork (s t : State) : Prop where
  steady : Steady s t
  pair : PairKept s t
  cut : t.wsw.joinCut = s.wsw.joinCut

theorem SlotWork.refl (s : State) : SlotWork s s := ⟨.refl s, .refl s, rfl⟩

/-- Whether the controller consumes inputs hangs on its role and on the cut alone. -/
theorem SlotWork.consumes (h : SlotWork s t) : t.consumes = s.consumes := by
  unfold State.consumes State.inPair
  rw [h.pair.role, h.cut]

theorem SlotWork.ite {c : Prop} [Decidable c] (h : SlotWork s t) (h' : SlotWork s u) : SlotWork s (if c then t else u) := by
  split <;> assumption

theorem SlotWork.set (h : SlotWork s t) (f : Fld) (v i j : Nat) (hoff : 0x480000 ≤ f.off) (hlo : f.lo < 64) : SlotWork s (t.set f v i j) := by
  refine ⟨h.steady.set .., h.pair.set f v i j ?_, h.cut⟩
  simp only [pairWatch, List.mem_cons, List.not_mem_nil, or_false, not_or, Fld.key, Fld.at, F.EVT_STATUS.STATUS, F.WSW_STATUS.ROLE, F.WSW_STATUS.PARTNER, F.WSW_RESYNC.PHASE,
    F.GLB_SIDE.PROFILE, F.GLB_SIDE.SIDE]
  omega

theorem SlotWork.raise (h : SlotWork s t) (e : Nat) : SlotWork s (t.raise e) := ⟨h.steady.raise e, h.pair.raise e, (congrArg Wsw.joinCut (raise_wsw t e)).trans h.cut⟩

theorem SlotWork.emit (h : SlotWork s t) (o : Out) : SlotWork s (t.emit o) := ⟨h.steady.of_view rfl, h.pair.of_regs rfl, h.cut⟩

theorem observe_joinCut (s : State) (i : Input) : (s.observe i).wsw.joinCut = s.wsw.joinCut := by
  unfold State.observe
  extract_lets origin wsw v
  split
  · have h := congrArg Wsw.joinCut (number_unsent v v.sideB false origin i)
    exact h
  · split
    · have h := congrArg Wsw.joinCut (sendLink_unsent
        ({ v with wsw := { v.wsw with forwarded := v.wsw.forwarded ++ [⟨0, v.sideB, false, origin, i⟩] } } : State) (.forward ⟨0, v.sideB, false, origin, i⟩))
      exact h
    · rfl

/-- A controller in step numbers or forwards what it sees, and acts on it when it is consumed. -/
theorem SlotWork.observed (h : SlotWork s t) (hc : s.consumes = true) (i : Input) (effect : State → State) : SlotWork s (t.observed i effect) := by
  unfold State.observed
  rw [if_pos (h.consumes.trans hc)]
  exact ⟨h.steady.observe i, h.pair.observe i, (observe_joinCut t i).trans h.cut⟩

theorem SlotWork.linkDown (h : SlotWork s t) (n : Nat) : SlotWork s (t.linkDown n) :=
  h.ite ((((h.set F.DP_STATUS.GEN 0 n 0 (by decide) (by decide)).set F.DP_STATUS.WIDTH 0 n 0 (by decide) (by decide)).set F.DP_STATUS.FLIT 0 n 0 (by decide) (by decide)).raise _)

theorem linkDown_port (s : State) (n m : Nat) : (s.linkDown n).port m = s.port m := by
  unfold State.linkDown
  split
  · rfl
  · unfold State.dpEvent State.port
    rw [raise_drv]
    rfl

theorem SlotWork.portPerst (h : SlotWork s t) (hc : s.consumes = true) (n : Nat) : SlotWork s (t.portPerst n) := by
  unfold State.portPerst
  extract_lets st was port v w
  refine h.ite ?_
  have hdown : SlotWork s (t.linkDown n) := h.linkDown n
  have hv : SlotWork s v := by
    refine ⟨hdown.steady.setPort n _ ?_ ?_, hdown.pair.of_regs rfl, hdown.cut⟩
    · rw [linkDown_port]
    · rw [linkDown_port]
  have hto : SlotWork s (v.portTo n dpPowering) := hv.ite ((hv.set F.DP_STATUS.STATE _ n 0 (by decide) (by decide)).raise _)
  have hw : SlotWork s w := hto.set F.DP_STATUS.REASON 0 n 0 (by decide) (by decide)
  exact (hw.observed hc _ _).ite hw

/-- The gate of a slot takes a state: what is seen in the slot does not change by it. -/
theorem SlotWork.slotTo (h : SlotWork s t) (hc : s.consumes = true) (n : Nat) (q : SlotPath) (hA : q.presentA = (t.path n).presentA) (hB : q.presentB = (t.path n).presentB) :
    SlotWork s (t.slotTo n q) := by
  unfold State.slotTo
  extract_lets p q' t1 t2 t3 t4 t5
  have hA' : q'.presentA = (t.path n).presentA := by
    unfold q'
    split <;> exact hA
  have hB' : q'.presentB = (t.path n).presentB := by
    unfold q'
    split <;> exact hB
  have h1 : SlotWork s t1 := ⟨h.steady.setPath n q' hA' hB', h.pair.of_regs rfl, h.cut⟩
  have h2 : SlotWork s t2 := h1.set F.SLOT_PG_DROP.COUNT _ n 0 (by decide) (by decide)
  have h3 : SlotWork s t3 := (h2.ite (h2.raise _)).ite h1
  have h4 : SlotWork s t4 := (h3.emit _).ite h3
  have h5 : SlotWork s t5 := (h4.portPerst hc n).ite h4
  exact (h5.observed hc _ _).ite h5

theorem SlotWork.tryStart (h : SlotWork s t) (hc : s.consumes = true) (n : Nat) : SlotWork s (t.tryStart n) := by
  unfold State.tryStart
  extract_lets p
  refine SlotWork.ite (h.slotTo hc n _ ?_ ?_) h <;> rfl

theorem SlotWork.gateUpdate (h : SlotWork s t) (hc : s.consumes = true) (n : Nat) (released : Bool) : SlotWork s (t.gateUpdate n released) := by
  unfold State.gateUpdate
  extract_lets p now
  refine SlotWork.ite (SlotWork.ite (SlotWork.tryStart (h.slotTo hc n _ ?_ ?_) hc n) h) (h.ite (h.slotTo hc n _ ?_ ?_)) <;> rfl

/-- What an input says of a slot is recorded for its side. -/
def State.sawSlot (s : State) (sideB : Bool) (n : Nat) (here : Bool) : State :=
  s.setPath n (if sideB then { s.path n with presentB := here } else { s.path n with presentA := here })

theorem sawSlot_present (s : State) (sideB : Bool) (n : Nat) (here : Bool) :
    (if sideB then ((s.sawSlot sideB n here).path n).presentB else ((s.sawSlot sideB n here).path n).presentA) = here := by
  have hget : ∀ q : SlotPath, (s.setPath n q).path n = q := fun q => (sparseGet_put ..).trans (if_pos rfl)
  unfold State.sawSlot
  rw [hget]
  cases sideB <;> rfl

theorem slotSeen_work (s : State) (sideB : Bool) (n : Nat) (here : Bool) (sense : Nat) : SlotWork (s.sawSlot sideB n here) (State.slotSeen sideB n here sense s) :=
  ((SlotWork.refl _).set F.SLOT_CTL.ENABLE _ n 0 (by decide) (by decide)).ite (SlotWork.refl _)

theorem consumes_of_nextInput {r : InputRec} (h : s.nextInput = some r) : s.consumes = true := by
  unfold State.nextInput at h
  split at h
  · split at h
    · rename_i hnext
      exact (Bool.and_eq_true_iff.mp hnext).2
    · cases h
  · cases h

theorem consumeSlot_records {n slot sense : Nat} {here : Bool} {r : InputRec} (h : NextInput s n r) (hin : r.input = .slot slot here sense) :
    ∃ t, exec (.consumeSlot n) s = .next t ∧ t.dev.stepNo = n ∧ (if r.sideB then (t.path slot).presentB else (t.path slot).presentA) = here := by
  obtain ⟨hnext, -, hnone, hnil⟩ := id h
  have hs : s.consumes = true := consumes_of_nextInput hnext
  have hc : ((s.takesInput n).sawSlot r.sideB slot here).consumes = true := hs
  have hwork := (slotSeen_work (s.takesInput n) r.sideB slot here sense).gateUpdate hc slot false
  have hpresent := sawSlot_present (s.takesInput n) r.sideB slot here
  refine ⟨_, congrArg Host.Outcome.next (consuming_eq h (by rw [hin]; rfl) ?_ (t := (State.slotSeen r.sideB slot here sense (s.takesInput n)).gateUpdate slot)
    (hwork.steady.takeover.trans hnone) (hwork.steady.repairs.trans hnil)), hwork.steady.stepNo, ?_⟩
  · simp only [hin]
  · rw [← hwork.steady.presentA, ← hwork.steady.presentB] at hpresent
    exact hpresent

end

/-- Settles O34: the next input's effect starts at its number; with no takeover to settle and no granule asked for nothing follows it, and each effect leaves step number, step time and the
readiness and presence it is not about as they are. -/
theorem inputsAreConsumedInOrder : Obligations.InputsAreConsumedInOrder := by
  unfold Obligations.InputsAreConsumedInOrder
  refine ⟨?hostFrame, ?driveCqe, ?linkDown, ?tick, ?mgmt, ?slot, ?retx, ?cut⟩
  case hostFrame =>
    intro n lp f r s h hside
    exact ⟨fun hin => consumeHostFrame_bad h hside hin, fun hin hcontrol => consumeHostFrame_control h hside hin hcontrol⟩
  case driveCqe =>
    intro n port check cqe blks r s h hin
    exact ⟨fun hcmd => consumeDriveCqe_none blks h hin hcmd, fun c hcmd huse hop hrefused => consumeDriveCqe_fence blks h hin hcmd huse hop hrefused⟩
  case linkDown =>
    intro n port a b c r s h hin
    exact consumeDriveEvent_linkDown h hin
  case tick =>
    intro n us r s h hin
    exact consumeTick_sets h hin
  case mgmt =>
    intro n i v fault r s h hin
    exact consumeMgmt_chainWrite h hin
  case slot =>
    intro n slot sense here r s h hin
    exact consumeSlot_records h hin
  case retx =>
    intro n msgId index attempt m p r s h hin hm hp hheld hs hop hdst hmsg hreports
    exact consumeRetx_sends h hin hm hp hheld hs hop hdst hmsg hreports
  case cut =>
    intro n r s h hin
    constructor
    · intro hrole hphase
      obtain ⟨hsteady, hfollows, hevent⟩ := handoverCut_leader (s := s.takesInput n) hrole hphase
      exact ⟨_, consumeCut_handover h hin hsteady, hsteady.stepNo, hfollows, hevent⟩
    · intro hrole
      obtain ⟨hsteady, hleads, hevent⟩ := handoverCut_follower (s := s.takesInput n) hrole
      exact ⟨_, consumeCut_handover h hin hsteady, hsteady.stepNo, hleads, hevent⟩

end Sys2Proof.Machine
end

section
/-!
PROOFS. O35 (10_ports_landing.md, R349, R354 to R358, R373): links and pause of the host ports.

Pause is one record for each class of a logical port; each row rewrites the record of the classes it is about. The counters and events that go with it are other fields, and the credits of the
queues (`accrue`) another part of the state.
-/
namespace Sys2Proof.Machine

/-! ## The link field (R349) -/

theorem bitOf_eq_testBit (n i : Nat) : bitOf n i = n.testBit i := by
  rw [Nat.testBit_eq_decide_div_mod_eq]
  rfl

section
variable (s : State) {l : Nat}

/-- The event LINK_CHANGE of a logical port (R373) has a bit of the word of its host port. -/
theorem linkChange_event (l : Nat) : (0x40 + 32 * (l / 8) + l % 8) / 32 = 2 + l / 8 ∧ (0x40 + 32 * (l / 8) + l % 8) % 32 = l % 8 := by omega

/-- A link that changes raises LINK_CHANGE. -/
theorem setLink_raises (up : Bool) : bitOf ((s.setLink l up).get F.EVT_STATUS.STATUS (2 + l / 8)) (l % 8) = true := by
  unfold State.setLink
  extract_lets p link lock m s1 s2
  have hbit := raise_bit s2 (0x40 + 32 * p + l % 8)
  obtain ⟨hword, hpos⟩ := linkChange_event l
  rwa [hword, hpos] at hbit

/-- The link of the logical port, as it is set. -/
theorem lportUp_setLink (up : Bool) : (s.setLink l up).lportUp l = up := by
  have hmod : l % 8 < 8 := Nat.mod_lt _ (by decide)
  have hwidth : l % 8 < F.HP_PORT_STATUS.LINK.width := hmod
  have hevent : F.EVT_STATUS.STATUS.key ((0x40 + 32 * (l / 8) + l % 8) / 32) 0 ≠ F.HP_PORT_STATUS.LINK.key (l / 8) 0 := by
    simp only [Fld.key, Fld.at, F.EVT_STATUS.STATUS, F.HP_PORT_STATUS.LINK]
    omega
  have hlock : F.HP_PORT_STATUS.LANE_LOCK.key (l / 8) 0 ≠ F.HP_PORT_STATUS.LINK.key (l / 8) 0 := by
    simp only [Fld.key, Fld.at, F.HP_PORT_STATUS.LANE_LOCK, F.HP_PORT_STATUS.LINK]
    omega
  have hclear : ∀ k < 8, (255 - 2 ^ k).testBit k = false := by decide
  unfold State.setLink State.lportUp
  rw [get_raise _ _ _ _ _ hevent, get_set_other _ _ _ _ _ _ _ _ hlock, get_set_same, bitOf_mod _ _ _ hwidth, bitOf_eq_testBit]
  cases up with
  | false => rw [if_neg Bool.false_ne_true, Nat.testBit_and, hclear _ hmod, Bool.and_false]
  | true => rw [if_pos rfl, Nat.testBit_or, Nat.testBit_two_pow_self, Bool.or_true]

/-- The flows that then select again (R589) are not in the register file. -/
theorem setLink_reselects (up : Bool) :
    (s.setLink l up).reselectAll.lportUp l = up ∧ bitOf ((s.setLink l up).reselectAll.get F.EVT_STATUS.STATUS (2 + l / 8)) (l % 8) = true :=
  ⟨lportUp_setLink s up, setLink_raises s up⟩

/-- HOST_LINK_UP of a logical port of the breakout whose link is down. -/
theorem exec_hostLinkUp (hl : l < 32) (hrate : 0 < s.lportRate l) (hdown : s.lportUp l = false) : exec (.hostLinkUp l) s = .next (s.setLink l true).reselectAll := by
  change execHostLinkUp l s = _
  simp [execHostLinkUp, hl, hrate, hdown]

/-- HOST_LINK_DOWN of a logical port whose link is up. -/
theorem exec_hostLinkDown (hl : l < 32) (hup : s.lportUp l = true) : exec (.hostLinkDown l) s = .next (s.linkLost l) := by
  change execHostLinkDown l s = _
  simp [execHostLinkDown, hl, hup]

end

/-! ## The pause of a class (R354, R356) -/

@[simp] theorem LportSt.cls_setCls (x : LportSt) (c d : Nat) (p : PauseSt) : (x.setCls c p).cls d = if c = d then p else x.cls d := sparseGet_put ..

section
variable (s : State) (l : Nat)

@[simp] theorem lportSt_setLportSt (x : LportSt) : (s.setLportSt l x).lportSt l = x := by
  rw [State.lportSt, State.setLportSt, sparseGet_put, if_pos rfl]

theorem PauseSt.stop_untilNs (p : PauseSt) (now : Nat) : (p.stop now).untilNs = 0 := by
  unfold PauseSt.stop
  split
  · assumption
  · rfl

/-- The instant at which a pause of so many quanta that begins now ends (R354). -/
def State.pauseEnd (s : State) (l q : Nat) : Nat := s.dev.timeNs + q * 512 * 1000000000 / max 1 (s.lportRate l)

theorem pauseEnd_pauseClass (c q r : Nat) : (s.pauseClass l c q).pauseEnd l r = s.pauseEnd l r := rfl

/-- An obeyed pause replaces what remained for its class, and leaves every other class as it is (R356). -/
theorem untilNs_pauseClass (c d : Nat) {q : Nat} (hq : s.dev.timeNs < s.pauseEnd l q) :
    (((s.pauseClass l c q).lportSt l).cls d).untilNs = if c = d then s.pauseEnd l q else ((s.lportSt l).cls d).untilNs := by
  unfold State.pauseEnd at hq ⊢
  have hns : q * 512 * 1000000000 / max 1 (s.lportRate l) ≠ 0 := by omega
  unfold State.pauseClass
  extract_lets u now p0 p1 ns p2
  have hp : p2 = { p1 with untilNs := now + ns, sinceNs := now } := if_neg hns
  rw [lportSt_setLportSt, LportSt.cls_setCls, hp]
  split
  · rfl
  · rfl

/-- After a pause of several classes, each of them, and each that was stopped until then already, is stopped until its end. -/
theorem untilNs_foldl_pauseClass {c q : Nat} (cs : List Nat) (hq : s.dev.timeNs < s.pauseEnd l q) (h : c ∈ cs ∨ ((s.lportSt l).cls c).untilNs = s.pauseEnd l q) :
    (((cs.foldl (fun (s : State) (c : Nat) => s.pauseClass l c q) s).lportSt l).cls c).untilNs = s.pauseEnd l q := by
  induction cs generalizing s with
  | nil => exact h.resolve_left List.not_mem_nil
  | cons x xs ih =>
    refine ih (s.pauseClass l x q) hq ?_
    rw [untilNs_pauseClass s l x c hq, pauseEnd_pauseClass]
    by_cases hx : x = c
    · exact Or.inr (if_pos hx)
    · rw [if_neg hx]
      exact h.imp_left (fun hmem => (List.mem_cons.mp hmem).resolve_left (Ne.symm hx))

/-- The register file through a pause of several classes. -/
theorem get_foldl_pauseClass (cs : List Nat) (q : Nat) (f : Fld) (i j : Nat) :
    (cs.foldl (fun (s : State) (c : Nat) => s.pauseClass l c q) s).get f i j = s.get f i j :=
  List.foldlRecOn (motive := fun t : State => t.get f i j = s.get f i j) _ _ rfl (fun _ ht _ _ => ht)

end

/-! ## PAUSE frames (R354, R355) -/

section
variable (s : State) (l : Nat)

/-- Counting a pause frame leaves the rate of every logical port. -/
theorem lportRate_countPause : (s.bump F.HP_PAUSE_RX.COUNT (l / 8) (l % 8)).lportRate l = s.lportRate l := by
  have hmode : F.HP_PAUSE_RX.COUNT.key (l / 8) (l % 8) ≠ F.HP_PORT_STATUS.MODE.key (l / 8) 0 := by
    simp only [Fld.key, Fld.at, F.HP_PAUSE_RX.COUNT, F.HP_PORT_STATUS.MODE]
    omega
  rw [State.lportRate, State.lportRate, get_bump_other _ _ _ _ _ _ _ hmode]

theorem obey_countPause : (s.bump F.HP_PAUSE_RX.COUNT (l / 8) (l % 8)).flag F.HP_LP_CTL.OBEY (l / 8) (l % 8) = s.flag F.HP_LP_CTL.OBEY (l / 8) (l % 8) := by
  have hobey : F.HP_PAUSE_RX.COUNT.key (l / 8) (l % 8) ≠ F.HP_LP_CTL.OBEY.key (l / 8) (l % 8) := by
    simp only [Fld.key, Fld.at, F.HP_PAUSE_RX.COUNT, F.HP_LP_CTL.OBEY]
    omega
  rw [State.flag, State.flag, get_bump_other _ _ _ _ _ _ _ hobey]

variable {s l}

/-- An obeyed PAUSE frame is counted and, where no watchdog has tripped, stops classes that every class below 7 is among. -/
theorem pauseFrame_obeyed {q : Nat} (hq : q < 65536) (hobey : s.flag F.HP_LP_CTL.OBEY (l / 8) (l % 8) = true) (huntripped : ∀ d, ((s.lportSt l).cls d).trippedNs = none) :
    ∃ cs : List Nat, (∀ c < 7, c ∈ cs) ∧
      s.pauseFrame l false 0 [q] = cs.foldl (fun (s : State) (c : Nat) => s.pauseClass l c q) (s.bump F.HP_PAUSE_RX.COUNT (l / 8) (l % 8)) := by
  have hobey' := (obey_countPause s l).trans hobey
  have huntripped' : ∀ d, (((s.bump F.HP_PAUSE_RX.COUNT (l / 8) (l % 8)).lportSt l).cls d).trippedNs = none := huntripped
  refine ⟨(List.range 8).filter (fun c => c != 7 || (s.bump F.HP_PAUSE_RX.COUNT (l / 8) (l % 8)).flag F.HP_LP_CTL.OBEY_URGENT (l / 8) (l % 8)), fun c hc => ?_, ?_⟩
  · simp only [List.mem_filter, List.mem_range, Bool.or_eq_true, bne_iff_ne]
    omega
  · simp [State.pauseFrame, hobey', huntripped', Nat.mod_eq_of_lt hq]

/-- PAUSE_FRAME_RX of a frame with a good FCS on a link that is up. -/
theorem exec_pauseFrameRx (hl : l < 32) (hup : s.lportUp l = true) (pfc : Bool) (enable : Nat) (quanta : List Nat) :
    exec (.pauseFrameRx l pfc enable quanta true) s = .next (s.pauseFrame l pfc enable quanta) := by
  change execPauseFrameRx l pfc enable quanta true s = _
  simp [execPauseFrameRx, hl, hup]

/-- An obeyed PAUSE frame stops every class below 7 until its quanta have passed, and is counted. -/
theorem pauseFrameRx_stops {q c : Nat} (hl : l < 32) (hup : s.lportUp l = true) (hobey : s.flag F.HP_LP_CTL.OBEY (l / 8) (l % 8) = true)
    (huntripped : ∀ d, ((s.lportSt l).cls d).trippedNs = none) (hc : c < 7) (hq : q < 65536) (hns : s.dev.timeNs < s.pauseEnd l q) :
    ∃ t, exec (.pauseFrameRx l false 0 [q] true) s = .next t ∧ ((t.lportSt l).cls c).untilNs = s.pauseEnd l q ∧
      t.get F.HP_PAUSE_RX.COUNT (l / 8) (l % 8) = satIncr32 (s.get F.HP_PAUSE_RX.COUNT (l / 8) (l % 8)) % 2 ^ 32 := by
  obtain ⟨cs, hcs, hframe⟩ := pauseFrame_obeyed hq hobey huntripped
  have hend : (s.bump F.HP_PAUSE_RX.COUNT (l / 8) (l % 8)).pauseEnd l q = s.pauseEnd l q := by rw [State.pauseEnd, State.pauseEnd, bump_dev, lportRate_countPause]
  refine ⟨_, exec_pauseFrameRx hl hup .., ?_, ?_⟩
  · rw [hframe, untilNs_foldl_pauseClass _ l cs (by rwa [hend]) (Or.inl (hcs c hc)), hend]
  · rw [hframe, get_foldl_pauseClass, get_bump_same]
    rfl

end

/-! ## The end of a pause, and the watchdog (R357) -/

section
variable {s : State} {l c : Nat}

/-- PAUSE_EXPIRY of a pause whose time has come. -/
theorem pauseExpiry_ends (hruns : ((s.lportSt l).cls c).untilNs ≠ 0) (hdue : ((s.lportSt l).cls c).untilNs ≤ s.dev.timeNs) :
    ∃ t, exec (.pauseExpiry l c) s = .next t ∧ ((t.lportSt l).cls c).untilNs = 0 := by
  refine ⟨_, congrArg Host.Outcome.next (if_pos ⟨hruns, hdue⟩), ?_⟩
  rw [lportSt_setLportSt, LportSt.cls_setCls, if_pos rfl, PauseSt.stop_untilNs]

/-- PAUSE_WATCHDOG_TRIP at 100 ms of obeyed pause: what is raised and logged after the trip leaves the pauses. -/
theorem pauseWatchdogTrip_trips (huntripped : ((s.lportSt l).cls c).trippedNs = none) (hlong : 100000000 ≤ ((s.lportSt l).cls c).trailing s.dev.timeNs) :
    ∃ t, exec (.pauseWatchdogTrip l c) s = .next t ∧ ((t.lportSt l).cls c).trippedNs = some s.dev.timeNs ∧ t.paused l c = false := by
  refine ⟨_, congrArg Host.Outcome.next (if_pos ⟨Option.isNone_iff_eq_none.mpr huntripped, hlong⟩), ?_⟩
  extract_lets e u p v
  have hv : (v.lportSt l).cls c = { ((s.lportSt l).cls c).stop s.dev.timeNs with trippedNs := some s.dev.timeNs } := by
    rw [lportSt_setLportSt, LportSt.cls_setCls, if_pos rfl]
    rfl
  generalize ht : (v.raise e).ledgerLimited e (islandOf (0x80000 + 0x20000 * (l / 8))) l = t
  have hcls : (t.lportSt l).cls c = (v.lportSt l).cls c := by rw [← ht, State.lportSt, ledgerLimited_hp, raise_hp, State.lportSt]
  rw [State.paused, hcls, hv]
  exact ⟨rfl, by simp [PauseSt.stop_untilNs]⟩

/-- PAUSE_WATCHDOG_CLEAR a second after the trip. -/
theorem pauseWatchdogClear_clears {at_ : Nat} (htripped : ((s.lportSt l).cls c).trippedNs = some at_) (hdue : at_ + 1000000000 ≤ s.dev.timeNs) :
    ∃ t, exec (.pauseWatchdogClear l c) s = .next t ∧ (t.lportSt l).cls c = pauseSt0 := by
  refine ⟨s.setLportSt l ((s.lportSt l).setCls c pauseSt0), ?_, by rw [lportSt_setLportSt, LportSt.cls_setCls, if_pos rfl]⟩
  change execPauseWatchdogClear l c s = _
  simp only [execPauseWatchdogClear, htripped, if_pos hdue]

/-! ## PFC_REPEAT (R358) -/

/-- A PFC frame of a controller that has not stopped leaves as the newest output. -/
theorem sendPfc_out (hstopped : s.wsw.stopped = false) (quanta : Nat) : (s.sendPfc l c quanta).out = .pfc l c quanta :: s.out := by
  rw [State.sendPfc, hstopped, if_neg Bool.false_ne_true]
  rfl

/-- PFC_REPEAT half a pause time after the last frame, while its condition lasts. -/
theorem pfcRepeat_repeats {at_ : Nat} (hsent : (s.lportSt l).xoff.find? (fun x => x.1 == c) = some (c, at_)) (hstopped : s.wsw.stopped = false)
    (hlasts : s.xonDue l c = false) (hdue : at_ + 65535 * 512 * 1000000000 / (2 * max 1 (s.lportRate l)) ≤ s.dev.timeNs) :
    ∃ t, exec (.pfcRepeat l c) s = .next t ∧ t.out = .pfc l c 0xFFFF :: s.out := by
  refine ⟨_, ?_, sendPfc_out (s := s.setLportSt l { s.lportSt l with xoff := (s.lportSt l).xoff.map (fun x => if x.1 = c then (c, s.dev.timeNs) else x) }) hstopped _⟩
  change execPfcRepeat l c s = _
  simp only [execPfcRepeat, hsent, if_neg hdue.not_gt, hlasts, if_neg Bool.false_ne_true]

end

/-- Settles O35: a link is one bit of LINK that the event after it leaves, and each pause row rewrites the record of its class, which the counters and events of the row leave. -/
theorem hostLinksAndPause : Obligations.HostLinksAndPause := by
  unfold Obligations.HostLinksAndPause
  refine ⟨?up, ?down, ?pause, ?expiry, ?trip, ?clear, ?pfc⟩
  case up =>
    intro l s hl hrate hdown
    exact ⟨_, exec_hostLinkUp s hl hrate hdown, setLink_reselects s true⟩
  case down =>
    intro l s hl hup
    exact ⟨_, exec_hostLinkDown s hl hup, setLink_reselects _ false⟩
  case pause =>
    intro l q c s hl hup hobey huntripped hc hq hns
    exact pauseFrameRx_stops hl hup hobey huntripped hc hq (Nat.lt_add_of_pos_right hns)
  case expiry =>
    intro l c s hruns hdue
    exact pauseExpiry_ends hruns hdue
  case trip =>
    intro l c s huntripped hlong
    exact pauseWatchdogTrip_trips huntripped hlong
  case clear =>
    intro l c at_ s htripped hdue
    exact pauseWatchdogClear_clears htripped hdue
  case pfc =>
    intro l c at_ s hsent hstopped hlasts hdue
    exact pfcRepeat_repeats hsent hstopped hlasts hdue

end Sys2Proof.Machine
end

section
/-!
PROOFS. O38 (11_traffic_control.md, R384, R386, R390, R393): service of the class queues, doorbell batches, and gate lists in motion.

The points of control and the gate lists stand in one part of the state, which outputs, counters and events leave; so what a row writes there is read back at its end.
-/
namespace Sys2Proof.Machine

/-! ## Points and gates after a write -/

section
variable {s t : State} {p : Bool} {A : Nat}

@[simp] theorem point_setPoint (s : State) (n : Nat) (x : TcPoint) : (s.setPoint n x).point n = x := (sparseGet_put ..).trans (if_pos rfl)

@[simp] theorem gates_setGates (s : State) (l : Nat) (g : GateSt) : (s.setGates l g).gates l = g := (sparseGet_put ..).trans (if_pos rfl)

theorem point_of_tc (h : t.tc = s.tc) (n : Nat) : t.point n = s.point n := congrArg (fun x : Tc => sparseGet tcPoint0 n x.points) h

theorem gates_of_tc (h : t.tc = s.tc) (l : Nat) : t.gates l = s.gates l := congrArg (fun x : Tc => sparseGet gateSt0 l x.gates) h

/-- What has been put out stays put out. -/
theorem Keeps.mem_out (h : Keeps p A s t) {o : Out} (ho : o ∈ s.out) : o ∈ t.out := by
  obtain ⟨l, hl⟩ := h.out
  exact hl ▸ List.mem_append_right l ho

theorem mem_emit_out (s : State) (o : Out) : o ∈ (s.emit o).out := List.mem_cons_self

end

/-! ## A frame goes on the wire (R384) -/

section
variable (s : State) (l c : Nat) (x : TcPoint) (u : TcUnit)

/-- Behind the frame on the wire come only its counts and its timestamp, which leave the points. -/
theorem sendFrame_keeps : ∃ y : TcPoint, y.busyNs = (s.dev.timeNs : Rat) + s.wireNs l u.len ∧
    Keeps false 8519715 ((s.setPoint l y).emit (.wire l c u.item u.ce u.stomp)) (s.sendFrame l c x u) := by
  unfold State.sendFrame
  extract_lets ns y s1 s2 s3 s4
  refine ⟨{ y with busyNs := s.dev.timeNs + ns }, rfl, ?_⟩
  have h2 : Keeps false 8519715 (s1.emit (.wire l c u.item u.ce u.stomp)) s2 := keeps_State_count 1 l 2 1 rfl (Keeps.refl ..)
  have h3 : Keeps false 8519715 (s1.emit (.wire l c u.item u.ce u.stomp)) s3 :=
    keeps_State_count 2 (l / 8) 2 1 rfl (keeps_State_count 1 l 3 u.len rfl h2)
  have h4 : Keeps false 8519715 (s1.emit (.wire l c u.item u.ce u.stomp)) s4 := keeps_ite (keeps_State_bump _ _ _ rfl h3) h3
  split
  · exact keeps_State_txStamp l _ rfl h4
  · exact h4

theorem sendFrame_wire : .wire l c u.item u.ce u.stomp ∈ (s.sendFrame l c x u).out := by
  obtain ⟨y, -, hkeeps⟩ := sendFrame_keeps s l c x u
  exact hkeeps.mem_out (mem_emit_out ..)

theorem sendFrame_busyNs : ((s.sendFrame l c x u).point l).busyNs = (s.dev.timeNs : Rat) + s.wireNs l u.len := by
  obtain ⟨y, hbusy, hkeeps⟩ := sendFrame_keeps s l c x u
  rw [point_of_tc (hkeeps.part .tc (by decide)), point_of_tc (emit_tc ..), point_setPoint, hbusy]

end

section
variable {s : State} {n c : Nat} {x : TcPoint} {u : TcUnit} {rest : List TcUnit}

/-- EGRESS_SERVICE of a logical port with a free MAC, its link up and an eligible frame `u`; `v` is the state once credits have risen and the heads that cannot be sent are gone. -/
theorem exec_egressService_frame {v : State} (hv : ((s.engineFrames n []).accrue n).purge n = v) (hn : n < 32) (hstopped : s.wsw.stopped = false)
    (hfree : (v.point n).busyNs ≤ (v.dev.timeNs : Rat)) (hup : v.lportUp n = true) (hnext : v.nextClass n = some (c, x)) (hhead : x.queue c = u :: rest) :
    exec (.egressService n []) s = .next (v.sendFrame n c x u) := by
  change execEgressService n [] s = _
  have hserves : ¬ ((n < 32 && s.wsw.stopped) || (32 ≤ n && s.driveStopped)) = true := by simp [hstopped, hn]
  have hwire : ¬ ((v.dev.timeNs : Rat) < (v.point n).busyNs ∨ (!v.lportUp n) = true) := by simp [hfree, hup]
  simp only [execEgressService, if_neg hserves, if_pos hn, hv, if_neg hwire, hnext, hhead]

end

/-! ## Commands join a batch (R386) -/

section
variable (s : State) (port cid : Nat)

theorem mem_joinBatch (x : TcPoint) (urgent : Bool) : cid ∈ (s.joinBatch x cid urgent).batch := by
  cases urgent <;> simp [State.joinBatch]

/-- URGENT_HELD writes only whether class 7 waits at the drive point. -/
theorem urgentHeld_batch : ((s.urgentHeld port).point (drivePoint port)).batch = (s.point (drivePoint port)).batch := by
  unfold State.urgentHeld
  extract_lets x waits s'
  split
  · rw [point_of_tc (raise_tc ..), point_setPoint]
  · rw [point_setPoint]

theorem raiseLimitedBy_tc (key e : Nat) : (s.raiseLimitedBy key e).tc = s.tc := (keeps_State_raiseLimitedBy key e rfl (Keeps.refl false 8388643 s)).part .tc (by decide)

theorem takeCmd_batch (c : Nat) (x : TcPoint) (u : TcUnit) : cid ∈ ((s.takeCmd port c x u cid).point (drivePoint port)).batch := by
  unfold State.takeCmd
  extract_lets p s1 y s2 s3
  have h3 : s3.tc = s2.tc := by
    unfold s3
    split <;> rfl
  have hjoined : cid ∈ (s3.point (drivePoint port)).batch := by
    rw [point_of_tc h3, point_setPoint]
    exact mem_joinBatch ..
  split
  · rwa [point_of_tc (raiseLimitedBy_tc ..)]
  · exact hjoined

end

section
variable {s : State} {port c cid : Nat} {x : TcPoint} {u : TcUnit} {rest : List TcUnit}

/-- EGRESS_SERVICE of a drive point with an eligible command. -/
theorem exec_egressService_command (hport : port < 48) (hstopped : s.driveStopped = false) (hnext : (s.accrue (32 + port)).nextClass (32 + port) = some (c, x))
    (hhead : x.queue c = u :: rest) (hitem : u.item = .drive cid) :
    exec (.egressService (32 + port) []) s = .next (((s.accrue (32 + port)).takeCmd port c x u cid).urgentHeld port) := by
  change execEgressService (32 + port) [] s = _
  have hserves : ¬ ((32 + port < 32 && s.wsw.stopped) || (32 ≤ 32 + port && s.driveStopped)) = true := by simp [hstopped]
  have hdrive : ¬ 32 + port < 32 := by omega
  have hlast : 32 + port < 80 := by omega
  simp only [execEgressService, if_neg hserves, if_neg hdrive, if_pos hlast, hnext, hhead, hitem, Nat.add_sub_cancel_left]

end

/-! ## A batch is committed (R386) -/

section
variable {s : State} {port cid : Nat} {c : DrvCmd}

/-- Writing a submission queue entry puts it out; what else it writes is the command, the queue and counters. -/
theorem submitCmd_entry (hcmd : s.drv? cid = some c) :
    (s.submitCmd port cid).tc = s.tc ∧ ∃ prps mptr, .sqe port c.queue cid c.op c.lba c.nlb c.fua prps mptr ∈ (s.submitCmd port cid).out := by
  refine ⟨(keeps_State_submitCmd port cid rfl (Keeps.refl false 25166883 s)).part .tc (by decide), (s.prpsOf c).2.1, (s.prpsOf c).2.2, ?_⟩
  simp only [State.submitCmd, hcmd]
  exact (keeps_State_count 6 port 0 1 rfl (Keeps.refl false 8388643 _)).mem_out (mem_emit_out ..)

theorem ring_keeps (s : State) (port queue : Nat) (rung : Bool) : Keeps false 8388608 s (s.ring port queue rung) := keeps_State_ring port queue rung rfl (Keeps.refl ..)

/-- BATCH_COMMIT of a batch of one with no eligible command left rings the doorbell of the command's queue. -/
theorem exec_batchCommit_single (hbatch : (s.point (drivePoint port)).batch = [cid]) (hstopped : s.driveStopped = false) (hnone : s.nextClass (drivePoint port) = none)
    (hcmd : s.drv? cid = some c) :
    exec (.batchCommit port) s = .next (((((s.setPoint (drivePoint port) { s.point (drivePoint port) with batch := [] }).submitCmd port cid).ring port 2 (c.queue == 2)).ring port 1
      (c.queue == 1)).urgentHeld port) := by
  change execBatchCommit port s = _
  have hcommits : ¬ ([cid].isEmpty = true ∨ s.driveStopped = true ∨ ([cid].length < s.batchOf port ∧ (s.nextClass (drivePoint port)).isSome = true)) := by simp [hstopped, hnone]
  simp only [execBatchCommit, hbatch, if_neg hcommits, List.foldl_cons, List.foldl_nil, List.any_cons, List.any_nil, Bool.or_false, hcmd]

/-- BATCH_COMMIT of a batch of one with no eligible command left: its entry is written from the state with the batch empty, and nothing afterwards but the doorbells and URGENT_HELD. -/
theorem batchCommit_writes (hbatch : (s.point (drivePoint port)).batch = [cid]) (hstopped : s.driveStopped = false) (hnone : s.nextClass (drivePoint port) = none)
    (hcmd : s.drv? cid = some c) :
    ∃ t prps mptr, exec (.batchCommit port) s = .next t ∧ (t.point (drivePoint port)).batch = [] ∧ .sqe port c.queue cid c.op c.lba c.nlb c.fua prps mptr ∈ t.out := by
  have hexec := exec_batchCommit_single hbatch hstopped hnone hcmd
  generalize hempty : s.setPoint (drivePoint port) { s.point (drivePoint port) with batch := [] } = e at hexec
  obtain ⟨htc, prps, mptr, hentry⟩ := submitCmd_entry (s := e) (port := port) (cid := cid) (by rw [← hempty]; exact hcmd)
  have hrung := (ring_keeps (e.submitCmd port cid) port 2 (c.queue == 2)).trans (ring_keeps _ port 1 (c.queue == 1))
  refine ⟨_, prps, mptr, hexec, ?_, (keeps_State_urgentHeld port rfl (Keeps.refl false 8454179 _)).mem_out (hrung.mem_out hentry)⟩
  rw [urgentHeld_batch, point_of_tc (hrung.part .tc (by decide)), point_of_tc htc, ← hempty, point_setPoint]

end

/-! ## Gate lists in motion (R390, R393) -/

section
variable {s : State} {l : Nat} {g : GateList}

/-- GATE_ENTRY_CHANGE within a cycle. -/
theorem exec_gateEntryChange {e : Nat × Nat} (hrun : (s.gates l).run = some g) (hstart : (s.gates l).startNs = none) (hentry : g.entries[(s.gates l).entry]? = some e)
    (hmore : (s.gates l).entry + 1 < g.entries.length) (hends : (s.gates l).sinceNs + e.1 ≤ s.ptpNow) :
    exec (.gateEntryChange l) s = .next ((s.accrue l).setGates l { s.gates l with entry := (s.gates l).entry + 1, sinceNs := (s.gates l).sinceNs + e.1 }) := by
  change execGateEntryChange l s = _
  have hover : ¬ ((s.gates l).startNs.isSome = true ∨ s.ptpNow < (s.gates l).sinceNs + e.1) := by simp [hstart, hends]
  simp only [execGateEntryChange, hrun, hentry, if_neg hover, if_pos hmore]

/-- GATE_LIST_START at the first cycle start of the list that waits. -/
theorem exec_gateListStart {at_ : Int} (hstart : (s.gates l).startNs = some at_) (hchange : (s.gates l).change = some (some g)) (hcome : at_ ≤ s.ptpNow) :
    exec (.gateListStart l) s = .next (((s.accrue l).setGates l { gateSt0 with run := some g, sinceNs := at_ }).raise 0xC0) := by
  change execGateListStart l s = _
  simp only [execGateListStart, hstart, hchange, if_neg hcome.not_gt]

end

/-- Settles O38: each row writes one point of control or the gates of one port, and the outputs, counters and events that follow leave that part. -/
theorem queueServiceAndGates : Obligations.QueueServiceAndGates := by
  unfold Obligations.QueueServiceAndGates
  refine ⟨?frame, ?command, ?commit, ?entry, ?start⟩
  case frame =>
    intro p c x u rest s hp hstopped v hfree hup hnext hhead
    exact ⟨v.sendFrame p c x u, exec_egressService_frame rfl hp hstopped hfree hup hnext hhead, sendFrame_wire v p c x u, sendFrame_busyNs v p c x u⟩
  case command =>
    intro port c cid x u rest s hport hstopped hnext hhead hitem
    refine ⟨_, exec_egressService_command hport hstopped hnext hhead hitem, ?_⟩
    change cid ∈ (State.point _ (drivePoint port)).batch
    rw [urgentHeld_batch]
    exact takeCmd_batch ..
  case commit =>
    intro port cid c s hbatch hstopped hnone hcmd
    exact batchCommit_writes hbatch hstopped hnone hcmd
  case entry =>
    intro l g e s hrun hstart hentry hmore hends
    exact ⟨_, exec_gateEntryChange hrun hstart hentry hmore hends, gates_setGates ..⟩
  case start =>
    intro l g at_ s hstart hchange hcome
    refine ⟨_, exec_gateListStart hstart hchange hcome, ?_⟩
    rw [gates_of_tc (raise_tc ..), gates_setGates]
    exact ⟨rfl, rfl, rfl, rfl⟩

end Sys2Proof.Machine
end

section
/-!
PROOFS. O1 to O5, O7 to O9 (95_what_each_step_holds.md, 00_scope.md, 02_pattern.md): a step, what every command keeps, and a refutation by a retired page with a word in error.
-/
namespace Sys2Proof.Machine

/-! ## A step -/

/-- Settles O1: the definition of a step at a queue with a front. -/
theorem stepRunsFrontCommand : Obligations.StepRunsFrontCommand := fun _ _ _ => rfl

/-- Settles O2: the definition of a step at an empty queue. -/
theorem stepOnEmptyQueueIdles : Obligations.StepOnEmptyQueueIdles := by
  intro s hempty
  unfold step
  rw [hempty]
  simp only [State.idle, State.advance, hempty]

/-- Settles O4: a reset lists no byte, no register and no command. -/
theorem resetIsCanonical : Obligations.ResetIsCanonical := ⟨⟨rfl, rfl⟩, rfl, rfl⟩

/-! ## What every command keeps -/

theorem keeps_of_exec {c : Instr} {s t : State} (ht : exec c s = .next t) : Keeps true 33554431 s t := (exec_keeps true c s (fun _ => rfl)).out ht

/-- Settles O3: the queue is one of the things that every command keeps. -/
theorem execLeavesQueue : Obligations.ExecLeavesQueue := fun _ _ _ ht => (keeps_of_exec ht).queue

/-- Settles O5: idling touches neither table, and every command keeps the canonical form of both. -/
theorem stepKeepsCanonicalForm : Obligations.StepKeepsCanonicalForm := by
  intro s t ⟨hmem, hregs⟩ ht
  unfold step at ht
  split at ht
  case h_1 =>
    cases ht
    exact ⟨hmem, hregs⟩
  case h_2 c rest _ =>
    have hkeeps := keeps_of_exec ht
    exact ⟨hkeeps.mem hmem, hkeeps.regs hregs⟩

/-- Settles O7: the fuses are one of the things that every command keeps. -/
theorem fusesAreOneTime : Obligations.FusesAreOneTime := by
  intro c s t ht
  have hkeeps := keeps_of_exec ht
  obtain ⟨hmac, hlsm, hidentity, hmv⟩ : _ ∧ _ ∧ _ ∧ _ := by simpa only [Prod.mk.injEq] using hkeeps.fuses
  exact ⟨hkeeps.owner, hkeeps.security, hmac, hlsm, hidentity, hmv⟩

/-- Settles O8: outputs and the counter of free values are among the things that every command keeps. -/
theorem outputsAreNeverTakenBack : Obligations.OutputsAreNeverTakenBack := fun _ _ _ ht => ⟨(keeps_of_exec ht).out, (keeps_of_exec ht).free⟩

/-! ## A retirement that poisons a word (O9)

RETIRE_COMPLETE lists neither poison nor the counter of free values among its parts, but the copy of the unit makes a word with an uncorrectable error poison (R488), and draws its syndrome. -/

/-- Page 0 is being retired, and an injected double error stands in its first word. -/
def spoiledPageState : State := { State.reset with mi := { State.reset.mi with retiring := some ⟨0, 0⟩, marks := [(0, 2)] } }

/-- The poisoned words where a row has ended in a next state. -/
def poisonAfter : Result → Option (List Nat)
  | .next t => some t.poison
  | .fault _ => none
  | .refused _ => none

theorem poisonAfter_retireComplete_spoiledPageState : poisonAfter (exec .retireComplete spoiledPageState) = some [0] := by decide +kernel

/-- Refutes O9: RETIRE_COMPLETE does not list poison, and poisons word 0. -/
theorem not_everyCommandStaysInItsParts : ¬ Obligations.EveryCommandStaysInItsParts := by
  intro hparts
  have hpoison := poisonAfter_retireComplete_spoiledPageState
  cases ht : exec .retireComplete spoiledPageState with
  | next t =>
    have hsame : t.poison = [] := hparts .retireComplete spoiledPageState t ht .poison (by decide)
    rw [ht, poisonAfter, hsame] at hpoison
    exact absurd hpoison (by decide)
  | fault r => rw [ht] at hpoison; cases hpoison
  | refused r => rw [ht] at hpoison; cases hpoison

end Sys2Proof.Machine
end

section
/-!
PROOFS. O40 and O42 (12_drive_ports.md, 13_slot_power.md): a containment and a trip that count twice.

As for O57: the counts of green packets of meters 208,901 and 241,666, which nothing in `State` forbids, are DP_CONTAIN and SLOT_TRIPS of port and slot 0. A row counts there and then takes the drive
port down, the host read that waits for its drive fails, and its response lets the sender look at the destination again, where a path probe leaves through that meter.
-/
namespace Sys2Proof.Machine

/-- The meter of `overrunMeter` under another number. -/
def greenMeterOf (n : Nat) : PatRec := { overrunMeter with inst := n }

theorem greenMeterOf_counter_is_contain : F.TC_MTR_GREEN.COUNT.key (greenMeterOf 208901).inst 0 = F.DP_CONTAIN.COUNT.key 0 0 := by decide

theorem greenMeterOf_counter_is_trips : F.TC_MTR_GREEN.COUNT.key (greenMeterOf 241666).inst 0 = F.SLOT_TRIPS.COUNT.key 0 0 := by decide

/-! ## A containment (O40) -/

/-- The drive of port 0 is READY over a trained link, with a host read at it. -/
def containState : State :=
  let s := overrunState.set F.DP_STATUS.GEN 3 0
  { s with pat := { s.pat with live := [greenMeterOf 208901, overrunFlume] } }

theorem containState_linked : containState.dpOn 0 = true ∧ containState.dpLinked 0 = true := by decide +kernel

theorem containState_count : containState.get F.DP_CONTAIN.COUNT = 0 := by decide +kernel

/-- DP_CONTAIN of port 0 where a row has ended in a next state. -/
def containAfter : Result → Option Nat
  | .next t => some (t.get F.DP_CONTAIN.COUNT 0)
  | .fault _ => none
  | .refused _ => none

/-- One containment, and a count of 2. -/
theorem containAfter_surpriseDown_containState : containAfter (exec (.surpriseDown 0 true) containState) = some 2 := by decide +kernel

/-- Refutes O40 in its first clause: the containment of a port can itself count a packet at DP_CONTAIN, through a meter beyond the table. -/
theorem not_drivePortErrors : ¬ Obligations.DrivePortErrors := by
  intro h
  obtain ⟨hon, hlinked⟩ := containState_linked
  obtain ⟨hsurprise, -⟩ := h 0 containState hon
  obtain ⟨t, ht, -, -, -, hone⟩ := hsurprise hlinked
  have htwo := containAfter_surpriseDown_containState
  rw [ht] at htwo
  rw [containState_count] at hone
  exact absurd (hone.symm.trans (Option.some.inj htwo)) (by decide)

/-! ## A trip (O42) -/

/-- Slot 0 is powered and its limit loop has been engaged for TIMER. -/
def tripState : State :=
  { overrunState with
    pat := { overrunState.pat with live := [greenMeterOf 241666, overrunFlume] }
    slot := { overrunState.slot with paths := [(0, { slotPath0 with st := chGood, begun := true, engaged := true, timer10 := 100000 })] } }

theorem tripState_trips : (tripState.path 0).st ≠ chLatched ∧ (tripState.path 0).engaged = true ∧
    tripState.slotTimer 0 * 1000 ≤ (tripState.path 0).timerAt tripState.dev.timeNs := by decide +kernel

theorem tripState_count : tripState.get F.SLOT_TRIPS.COUNT = 0 := by decide +kernel

/-- SLOT_TRIPS of slot 0 where a row has ended in a next state. -/
def tripsAfter : Result → Option Nat
  | .next t => some (t.get F.SLOT_TRIPS.COUNT 0)
  | .fault _ => none
  | .refused _ => none

/-- One trip, and a count of 2. -/
theorem tripsAfter_faultTimerTrip_tripState : tripsAfter (exec (.faultTimerTrip 0 0 0) tripState) = some 2 := by decide +kernel

/-- Refutes O42 in its clause of FAULT_TIMER_TRIP: a path that latches off can count a packet at SLOT_TRIPS, through a meter beyond the table. -/
theorem not_slotPathsFollowTheirStates : ¬ Obligations.SlotPathsFollowTheirStates := by
  intro h
  obtain ⟨hlatched, hengaged, hdue⟩ := tripState_trips
  obtain ⟨-, -, -, -, -, -, -, htrip, -⟩ := h 0 0 0 tripState (by decide)
  obtain ⟨t, ht, -, -, -, hone⟩ := htrip hlatched hengaged hdue
  have htwo := tripsAfter_faultTimerTrip_tripState
  rw [ht] at htwo
  rw [tripState_count] at hone
  exact absurd (hone.symm.trans (Option.some.inj htwo)) (by decide)

end Sys2Proof.Machine
end

section
/-!
PROOFS. O45, O46 and O47 (14_service_port.md): the acceptance of a GO, the end of a task, and what the local tasks and the Pattern tasks do.
-/
namespace Sys2Proof.Machine

/-! ## A task that is accepted (R451, R452, R459) -/

/-- The data of a task that are here with its GO. -/
def TaskData.here : TaskData → List Byte
  | .bytes b => b
  | .reading => []
  | .fault => []

/-- The run that a GO begins. -/
def goRun (code : Nat) (go : TaskGo) (data : TaskData) (aux : TaskAux) : TaskRun := ⟨code, go, data.here, aux, true, .reading⟩

/-- The state with the command block in TASK_CMD. -/
def State.withBlock (s : State) (go : TaskGo) (code : Nat) : State :=
  ((go.words code).zipIdx).foldl (fun (s : State) (w : Nat × Nat) => s.set F.TASK_CMD.WORD w.1 w.2) s

/-- The state with the block in TASK_CMD, BUSY 1, DONE 0 and the run. -/
def State.accepted (s : State) (go : TaskGo) (r : TaskRun) : State :=
  let t := ((s.withBlock go r.code).setFlag F.TASK_STATUS.BUSY true).setFlag F.TASK_STATUS.DONE false
  { t with tasks := t.tasks ++ [r] }

/-- The fields that the acceptance of a GO writes. -/
def goKeys : List Nat := F.TASK_STATUS.BUSY.key 0 0 :: F.TASK_STATUS.DONE.key 0 0 :: (List.range 16).map (fun i => F.TASK_CMD.WORD.key i 0)

/-- A field reads from the register file alone. -/
theorem get_of_regs {s t : State} (h : t.regs = s.regs) (g : Fld) (m n : Nat) : t.get g m n = s.get g m n := by
  unfold State.get
  rw [h]

theorem foldl_set_regs {α : Type} (f : Fld) (v i : α → Nat) (l : List α) (s : State) :
    ∃ rs, l.foldl (fun (s : State) (x : α) => s.set f (v x) (i x)) s = { s with regs := rs } := by
  induction l generalizing s with
  | nil => exact ⟨s.regs, rfl⟩
  | cons x l ih => exact ih (s.set f (v x) (i x))

theorem get_foldl_set_other {α : Type} (f : Fld) (v i : α → Nat) (l : List α) (s : State) (g : Fld) (m n : Nat) (hk : ∀ x ∈ l, f.key (i x) 0 ≠ g.key m n) :
    (l.foldl (fun (s : State) (x : α) => s.set f (v x) (i x)) s).get g m n = s.get g m n := by
  induction l generalizing s with
  | nil => rfl
  | cons x l ih =>
    rw [List.foldl_cons, ih _ (fun y hy => hk y (List.mem_cons_of_mem _ hy)), get_set_other _ _ _ _ _ _ _ _ (hk x (List.mem_cons_self ..))]

section
variable (s : State) (go : TaskGo) (r : TaskRun)

/-- Only the register file and the tasks change when a GO is accepted. -/
theorem accepted_eq : ∃ rs, s.accepted go r = { s with regs := rs, tasks := s.tasks ++ [r] } := by
  obtain ⟨rs, h⟩ : ∃ rs, s.withBlock go r.code = { s with regs := rs } := foldl_set_regs _ _ _ _ _
  unfold State.accepted
  rw [h]
  exact ⟨_, rfl⟩

theorem accepted_regs : (s.accepted go r).regs = (((s.withBlock go r.code).setFlag F.TASK_STATUS.BUSY true).setFlag F.TASK_STATUS.DONE false).regs := rfl

theorem get_withBlock (code : Nat) (g : Fld) (m n : Nat) (hk : ∀ i < 16, F.TASK_CMD.WORD.key i 0 ≠ g.key m n) : (s.withBlock go code).get g m n = s.get g m n := by
  refine get_foldl_set_other _ _ _ _ _ _ _ _ (fun w hw => hk w.2 ?_)
  simpa [TaskGo.words] using List.snd_lt_of_mem_zipIdx hw

theorem get_accepted (g : Fld) (m n : Nat) (hk : g.key m n ∉ goKeys) : (s.accepted go r).get g m n = s.get g m n := by
  simp only [goKeys, List.mem_cons, not_or, List.mem_map, not_exists, not_and, List.mem_range] at hk
  obtain ⟨hbusy, hdone, hword⟩ := hk
  rw [get_of_regs (accepted_regs s go r), get_setFlag_other _ _ _ _ _ _ _ _ (Ne.symm hdone), get_setFlag_other _ _ _ _ _ _ _ _ (Ne.symm hbusy), get_withBlock _ _ _ _ _ _ hword]

theorem flag_accepted (g : Fld) (hk : g.key 0 0 ∉ goKeys) : (s.accepted go r).flag g = s.flag g := congrArg (· == 1) (get_accepted s go r g 0 0 hk)

theorem accepted_busy : (s.accepted go r).flag F.TASK_STATUS.BUSY = true := by
  unfold State.flag
  rw [get_of_regs (accepted_regs s go r), get_setFlag_other _ _ _ _ _ _ _ _ (by decide)]
  exact flag_setFlag_same _ _ _ _ _ rfl

theorem accepted_taskShut (code mode : Nat) : (s.accepted go r).taskShut code mode = s.taskShut code mode := by
  obtain ⟨rs, h⟩ := accepted_eq s go r
  have hpat : (s.accepted go r).pat = s.pat := by rw [h]
  unfold State.taskShut
  rw [hpat, flag_accepted _ _ _ _ (by decide)]

theorem accepted_lowState : (s.accepted go r).lowState = s.lowState := by
  unfold State.lowState State.power
  rw [get_accepted _ _ _ _ _ _ (by decide)]

end

theorem goTask_eq (s : State) (code : Nat) (go : TaskGo) (data : TaskData) (aux : TaskAux) :
    s.goTask code go data aux = s.busWrite .svc (F.TASK_GO.GO.at 0 0) (fun s =>
      if s.flag F.TASK_STATUS.BUSY then ((s.setFlag F.TASK_STATUS.REFUSED true).bump F.TASK_REFUSALS.COUNT).raise 0x4C1
      else if 10 < go.argc ∨ 2 ≤ go.flags then (s.accepted go (goRun code go data aux)).endRun (goRun code go data aux) tsBadArg []
      else if 1048576 < go.dataLen then (s.accepted go (goRun code go data aux)).endRun (goRun code go data aux) tsBadData []
      else if (s.accepted go (goRun code go data aux)).taskShut code (go.arg 0) then (s.accepted go (goRun code go data aux)).endRun (goRun code go data aux) tsRefused []
      else if (s.accepted go (goRun code go data aux)).lowState then
        (((s.accepted go (goRun code go data aux)).moveRun (goRun code go data aux) { goRun code go data aux with phase := .deferred }).setFlag F.TASK_STATUS.DEFERRED true).raise 0x4C2
      else (s.accepted go (goRun code go data aux)).startRun (goRun code go data aux) data) := by
  cases data <;> rfl

theorem goTask_starts {s : State} {code : Nat} {go : TaskGo} (h : TaskStarts s code go) (data : TaskData) (aux : TaskAux) :
    s.goTask code go data aux = (s.accepted go (goRun code go data aux)).startRun (goRun code go data aux) data := by
  obtain ⟨hgate, hbusy, hargc, hflags, hlen, hshut, hlow⟩ := h
  have hgate' : s.gate .svc (F.TASK_GO.GO.at 0 0) = .pass := hgate
  rw [goTask_eq]
  unfold State.busWrite
  rw [hgate']
  dsimp only
  rw [hbusy, if_neg (by decide), if_neg (by omega), if_neg (by omega), accepted_taskShut, hshut, if_neg (by decide), accepted_lowState, hlow, if_neg (by decide)]

/-- A state in which a GO has been accepted: TASK_STATUS, TASK_CMD and the tasks are new. -/
structure Accepts (s u : State) : Prop where
  parts : ∃ rs l, u = { s with regs := rs, tasks := l }
  reads : ∀ (g : Fld) (m n : Nat), g.key m n ∉ goKeys → u.get g m n = s.get g m n
  busy : u.flag F.TASK_STATUS.BUSY = true

theorem accepts_accepted (s : State) (go : TaskGo) (r : TaskRun) : Accepts s (s.accepted go r) :=
  ⟨(accepted_eq s go r).imp fun _ h => ⟨_, h⟩, get_accepted s go r, accepted_busy s go r⟩

section
variable {s u : State}

theorem Accepts.moveRun (h : Accepts s u) (r r' : TaskRun) : Accepts s (u.moveRun r r') := by
  obtain ⟨⟨rs, l, rfl⟩, hreads, hbusy⟩ := h
  exact ⟨⟨rs, _, rfl⟩, hreads, hbusy⟩

theorem Accepts.flag (h : Accepts s u) (g : Fld) (m n : Nat) (hk : g.key m n ∉ goKeys) : u.flag g m n = s.flag g m n := congrArg (· == 1) (h.reads g m n hk)

theorem Accepts.role (h : Accepts s u) : u.role = s.role := h.reads _ _ _ (by decide)

theorem Accepts.profile (h : Accepts s u) : u.profile = s.profile := h.reads _ _ _ (by decide)

theorem Accepts.inPair (h : Accepts s u) : u.inPair = s.inPair := by
  unfold State.inPair
  rw [h.role]

theorem Accepts.dpState (h : Accepts s u) (n : Nat) : u.dpState n = s.dpState n := by
  refine h.reads _ _ _ ?_
  simp only [goKeys, List.mem_cons, List.mem_map, List.mem_range, not_or, not_exists, not_and, Fld.key, Fld.at, F.DP_STATUS.STATE, F.TASK_STATUS.BUSY, F.TASK_STATUS.DONE,
    F.TASK_CMD.WORD]
  exact ⟨by omega, by omega, fun i hi => by omega⟩

end

/-- What a task takes with its GO: no data, or data that are here. -/
def DataHere (code : Nat) (go : TaskGo) (data : TaskData) : Prop := (taskInfo code).any (·.takesData) = true → go.dataLen ≠ 0 ∧ ∃ b, data = .bytes b

theorem goTask_begins {s : State} {code : Nat} {go : TaskGo} (h : TaskStarts s code go) (data : TaskData) (aux : TaskAux) (hdata : DataHere code go data) :
    ∃ u, Accepts s u ∧ s.goTask code go data aux = u.beginRun (goRun code go data aux) := by
  rw [goTask_starts h]
  have ha := accepts_accepted s go (goRun code go data aux)
  unfold State.startRun
  change ∃ u, Accepts s u ∧ (if (taskInfo code).any (·.takesData) = true ∧ go.dataLen ≠ 0 then _ else _) = _
  by_cases htakes : (taskInfo code).any (·.takesData) = true
  · obtain ⟨hlen, b, rfl⟩ := hdata htakes
    rw [if_pos ⟨htakes, hlen⟩]
    exact ⟨_, ha.moveRun _ _, rfl⟩
  · rw [if_neg (fun hc => htakes hc.1)]
    exact ⟨_, ha, rfl⟩

theorem not_takesData_of_here {code : Nat} {go : TaskGo} {data : TaskData} {i : TaskInfo} (hinfo : taskInfo code = some i) (hdata : DataHere code go data) :
    ¬ (i.takesData = true ∧ go.dataLen = 0) := by
  rintro ⟨ht, hlen⟩
  exact (hdata (by rw [hinfo]; exact ht)).1 hlen

theorem beginRun_local (u : State) {r : TaskRun} {i : TaskInfo} (hinfo : taskInfo r.code = some i) (hdata : ¬ (i.takesData = true ∧ r.go.dataLen = 0))
    (hstep : i.step = false) : u.beginRun r = u.doRun r := by
  unfold State.beginRun
  rw [hinfo]
  dsimp only
  rw [if_neg hdata, if_pos (by rw [hstep]; rfl)]

theorem beginRun_alone {u : State} (hsolo : SoloAlone u) {r : TaskRun} {i : TaskInfo} (hinfo : taskInfo r.code = some i) (hdata : ¬ (i.takesData = true ∧ r.go.dataLen = 0))
    (hstep : i.step = true) (hcode : r.code ≠ 0x0080) : u.beginRun r = (u.moveRun r { r with phase := .streamed }).doRun { r with phase := .streamed } := by
  obtain ⟨hrole, hprofile⟩ := hsolo
  have hconsumes : u.consumes = true := by simp [State.consumes, hrole]
  have hpair : u.inPair = false := by
    unfold State.inPair
    rw [hrole]
    rfl
  have hnow : (u.profile = 0 ∧ (!u.inPair) = true) ∨ Src.svc ≠ Src.svc := .inl ⟨hprofile, by rw [hpair]; rfl⟩
  unfold State.beginRun
  rw [hinfo]
  dsimp only
  rw [if_neg hdata, if_neg (by rw [hstep]; decide), if_neg (fun hc => hcode hc.1), if_neg (by rw [hconsumes]; decide)]
  exact if_pos hnow

/-- A task that acts on this controller alone is carried out. -/
theorem goTask_local {s : State} {code : Nat} {go : TaskGo} (h : TaskStarts s code go) (data : TaskData) (aux : TaskAux) (hdata : DataHere code go data) {i : TaskInfo}
    (hinfo : taskInfo code = some i) (hstep : i.step = false) :
    ∃ u, Accepts s u ∧ s.goTask code go data aux = u.doRun (goRun code go data aux) := by
  obtain ⟨u, hu, heq⟩ := goTask_begins h data aux hdata
  exact ⟨u, hu, heq.trans (beginRun_local u (r := goRun code go data aux) hinfo (not_takesData_of_here hinfo hdata) hstep)⟩

/-- In Solo, alone, so is a step task (R460). -/
theorem goTask_alone {s : State} {code : Nat} {go : TaskGo} (h : TaskStarts s code go) (hsolo : SoloAlone s) (data : TaskData) (aux : TaskAux) (hdata : DataHere code go data)
    {i : TaskInfo} (hinfo : taskInfo code = some i) (hstep : i.step = true) (hcode : code ≠ 0x0080) :
    ∃ u, Accepts s u ∧ s.goTask code go data aux = u.doRun { goRun code go data aux with phase := .streamed } := by
  obtain ⟨u, hu, heq⟩ := goTask_begins h data aux hdata
  have hsolo' : SoloAlone u := ⟨hu.role.trans hsolo.1, hu.profile.trans hsolo.2⟩
  exact ⟨_, hu.moveRun _ _, heq.trans (beginRun_alone hsolo' (r := goRun code go data aux) hinfo (not_takesData_of_here hinfo hdata) hstep hcode)⟩

/-! ## The end of a task (R458, R459) -/

theorem endRun_finishes (s : State) {r : TaskRun} (hown : r.own = true) (hlocal : (taskInfo r.code).any (·.step) = false ∨ s.inPair = false) (code : Nat) (res : List Nat) :
    s.endRun r code res = s.finishTask r code res := by
  unfold State.endRun
  rcases hlocal with h | h <;> simp [hown, h]

theorem finishTask_ended (s : State) (r : TaskRun) (code : Nat) (res : List Nat) (hcode : code < 256) : TaskEnded (s.finishTask r code res) r.go code := by
  unfold State.finishTask
  extract_lets t1 t2 t3 t4
  have hbusy : t4.flag F.TASK_STATUS.BUSY = false := flag_setFlag_same _ _ _ _ _ rfl
  have hdone : t4.flag F.TASK_STATUS.DONE = true := by
    unfold t4 t3 State.flag
    rw [get_setFlag_other _ _ _ _ _ _ _ _ (by decide), get_setFlag_other _ _ _ _ _ _ _ _ (by decide), get_set_other _ _ _ _ _ _ _ _ (by decide)]
    exact flag_setFlag_same _ _ _ _ _ rfl
  have hcode' : t4.get F.TASK_STATUS.CODE = code := by
    unfold t4 t3
    rw [get_setFlag_other _ _ _ _ _ _ _ _ (by decide), get_setFlag_other _ _ _ _ _ _ _ _ (by decide), get_set_same]
    exact Nat.mod_eq_of_lt hcode
  have htag : t4.get F.TASK_TAG.TAG = r.go.tag % 2 ^ 32 := by
    unfold t4 t3
    rw [get_setFlag_other _ _ _ _ _ _ _ _ (by decide), get_setFlag_other _ _ _ _ _ _ _ _ (by decide), get_set_other _ _ _ _ _ _ _ _ (by decide),
      get_setFlag_other _ _ _ _ _ _ _ _ (by decide), get_set_same]
    rfl
  have hraised (g : Fld) (hk : F.EVT_STATUS.STATUS.key (0x4C0 / 32) 0 ≠ g.key 0 0) : (t4.raise 0x4C0).get g = t4.get g := get_raise _ _ _ _ _ hk
  split
  · unfold TaskEnded State.flag
    rw [hraised _ (by decide), hraised _ (by decide), hraised _ (by decide), hraised _ (by decide)]
    exact ⟨hbusy, hdone, hcode', htag⟩
  · exact ⟨hbusy, hdone, hcode', htag⟩

/-- Ending a task touches no delivery, no image and no fuse. -/
theorem finishTask_pat (s : State) (r : TaskRun) (code : Nat) (res : List Nat) : (s.finishTask r code res).pat = s.pat :=
  (keeps_State_finishTask r code res rfl (Keeps.refl false 8388659 s)).part .pat (by decide)

theorem finishTask_fw (s : State) (r : TaskRun) (code : Nat) (res : List Nat) : (s.finishTask r code res).fw = s.fw :=
  (keeps_State_finishTask r code res rfl (Keeps.refl false 8388659 s)).part .fw (by decide)

theorem finishTask_pwr (s : State) (r : TaskRun) (code : Nat) (res : List Nat) : (s.finishTask r code res).pwr = s.pwr :=
  (keeps_State_finishTask r code res rfl (Keeps.refl false 8388659 s)).part .pwr (by decide)

theorem mem_out_finishTask {s : State} {o : Out} (ho : o ∈ s.out) (r : TaskRun) (code : Nat) (res : List Nat) : o ∈ (s.finishTask r code res).out :=
  (keeps_State_finishTask r code res rfl (Keeps.refl false 8388659 s)).mem_out ho

theorem finishTask_dev (s : State) (r : TaskRun) (code : Nat) (res : List Nat) : ∃ l, (s.finishTask r code res).dev = { s.dev with pendEvt := l } := by
  unfold State.finishTask
  extract_lets t1 t2 t3 t4
  have h2 : t2.dev = s.dev := by
    obtain ⟨rs, h⟩ := foldl_set_regs F.TASK_RESULT.VALUE (fun i => res.getD i 0) id (List.range 4) t1
    exact (congrArg State.dev h).trans rfl
  have h4 : t4.dev = s.dev := h2
  split
  · obtain ⟨l, h⟩ := raise_dev t4 0x4C0
    exact ⟨l, by rw [h, h4]⟩
  · exact ⟨s.dev.pendEvt, h4⟩

/-! ## Carrying out (R455) -/

/-- The tasks that a reply with OK is followed by something else. -/
def repliesFirst (code : Nat) : Bool := code == 0x0081 || code == 0x0042 || code == 0x0044

theorem afterReply_quiet (s : State) {r : TaskRun} {x : TaskStep} (h : repliesFirst r.code = false ∨ x ≠ .ends tsOk []) : s.afterReply r x = s := by
  unfold State.afterReply
  by_cases hx : x = .ends tsOk []
  · have hr := h.resolve_right (not_not.mpr hx)
    simp only [repliesFirst, Bool.or_eq_false_iff, beq_eq_false_iff_ne] at hr
    rw [if_neg (not_not.mpr hx), if_neg hr.1.1, if_neg hr.1.2, if_neg hr.2]
  · rw [if_pos hx]

theorem doRun_ends {s t : State} {r : TaskRun} {code : Nat} {res : List Nat} (h : s.carryOut r = (t, .ends code res)) (hown : r.own = true)
    (hlocal : (taskInfo r.code).any (·.step) = false ∨ t.inPair = false) (hquiet : repliesFirst r.code = false ∨ (TaskStep.ends code res) ≠ .ends tsOk []) :
    s.doRun r = t.finishTask r code res := by
  unfold State.doRun
  rw [h]
  dsimp only
  rw [afterReply_quiet _ hquiet]
  exact endRun_finishes t hown hlocal code res

theorem notStep_of_info {code : Nat} {i : TaskInfo} (hinfo : taskInfo code = some i) (hstep : i.step = false) : (taskInfo code).any (·.step) = false := by
  rw [hinfo]
  exact hstep

/-- A local task that ends at once. -/
theorem goTask_local_ends {s : State} {code : Nat} {go : TaskGo} (h : TaskStarts s code go) {data : TaskData} {aux : TaskAux} (hdata : DataHere code go data) {i : TaskInfo}
    (hinfo : taskInfo code = some i) (hstep : i.step = false) (hquiet : repliesFirst code = false) (f : State → State)
    (hf : ∀ u, Accepts s u → u.carryOut (goRun code go data aux) = (f u, .ends tsOk [])) :
    ∃ u, Accepts s u ∧ s.goTask code go data aux = (f u).finishTask (goRun code go data aux) tsOk [] := by
  obtain ⟨u, hu, heq⟩ := goTask_local h data aux hdata hinfo hstep
  exact ⟨u, hu, heq.trans (doRun_ends (hf u hu) rfl (.inl (notStep_of_info hinfo hstep)) (.inl hquiet))⟩

/-! ## A GO (O45) -/

theorem nop_refused {s : State} (go : TaskGo) (hgate : s.gate .svc F.TASK_GO.GO.off = .pass) (hbusy : s.flag F.TASK_STATUS.BUSY = true) :
    exec (.nop go) s = .next (((s.setFlag F.TASK_STATUS.REFUSED true).bump F.TASK_REFUSALS.COUNT).raise 0x4C1) := by
  change execNop go s = _
  have hgate' : s.gate .svc (F.TASK_GO.GO.at 0 0) = .pass := hgate
  unfold execNop
  rw [goTask_eq]
  unfold State.busWrite
  rw [hgate']
  exact congrArg Host.Outcome.next (if_pos hbusy)

/-- Settles O45: a refused GO writes REFUSED, a count and an event; an accepted NOP, or one with a bad ARGC, ends its run. -/
theorem aGoIsAcceptedOrRefused : Obligations.AGoIsAcceptedOrRefused := by
  refine ⟨?refused, ?ends, ?badArgc⟩
  case refused =>
    intro go s hgate hbusy
    have hraise (g : Fld) (hk : F.EVT_STATUS.STATUS.key (0x4C1 / 32) 0 ≠ g.key 0 0) := get_raise ((s.setFlag F.TASK_STATUS.REFUSED true).bump F.TASK_REFUSALS.COUNT) 0x4C1 g 0 0 hk
    refine ⟨_, nop_refused go hgate hbusy, raise_tasks _ _, ?_, ?_, ?_, raise_bit _ 0x4C1⟩
    · unfold State.flag at hbusy ⊢
      rwa [hraise _ (by decide), get_bump_other _ _ _ _ _ _ _ (by decide), get_setFlag_other _ _ _ _ _ _ _ _ (by decide)]
    · unfold State.flag
      rw [hraise _ (by decide), get_bump_other _ _ _ _ _ _ _ (by decide)]
      exact flag_setFlag_same _ _ _ _ _ rfl
    · rw [hraise _ (by decide), get_bump_same, get_setFlag_other _ _ _ _ _ _ _ _ (by decide)]
      rfl
  case ends =>
    intro go s h
    obtain ⟨u, -, heq⟩ := goTask_local_ends h (data := .bytes []) (aux := taskAux0) (fun hc => absurd hc (by decide)) rfl rfl rfl id (fun _ _ => rfl)
    exact ⟨_, congrArg Host.Outcome.next heq, finishTask_ended _ _ tsOk _ (by decide)⟩
  case badArgc =>
    intro go s hgate hbusy hargc
    have hgate' : s.gate .svc (F.TASK_GO.GO.at 0 0) = .pass := hgate
    refine ⟨_, rfl, fun _ => ?_⟩
    rw [goTask_eq]
    unfold State.busWrite
    rw [hgate']
    dsimp only
    rw [hbusy, if_neg (by decide), if_pos (.inl hargc), endRun_finishes _ rfl (.inl rfl)]
    exact finishTask_ended _ _ _ _ (by decide)

/-! ## The tasks that act on one controller (O46) -/

theorem dataHere_bytes {code : Nat} {go : TaskGo} (b : List Byte) (hlen : go.dataLen ≠ 0) : DataHere code go (.bytes b) := fun _ => ⟨hlen, b, rfl⟩

/-- A key burned into slot 0 while it is unburned. -/
theorem burnOwner_first {s : State} {r : Bool} {rest : List (Option Nat × Bool)} (h : s.dev.ownerKeys = (none, r) :: rest) (digest : Nat) :
    (s.burnOwner digest).dev.ownerKeys = (some digest, false) :: rest := by
  unfold State.burnOwner
  rw [h]
  rfl

theorem taskOwnerCommission_burns {s : State} {run : TaskRun} {r : Bool} {rest : List (Option Nat × Bool)} (hlen : run.data.length = 97)
    (h : s.dev.ownerKeys = (none, r) :: rest) : taskOwnerCommission s run = (s.burnOwner run.aux.digest, .ends tsOk []) := by
  unfold taskOwnerCommission
  rw [if_neg (not_not.mpr hlen), h]
  rfl

theorem taskLedgerRead_reads {s : State} {run : TaskRun} (hfirst : run.go.arg 0 < 65536) (hpos : 0 < run.go.arg 1) (hn : run.go.arg 1 ≤ 16384)
    (hlen : run.go.dataLen = 64 * run.go.arg 1) :
    taskLedgerRead s run = (s.emit (.taskData run.go.dataAddr (s.ledgerSlots (run.go.arg 0) (run.go.arg 1))), .ends tsOk []) := by
  unfold taskLedgerRead
  dsimp only
  rw [if_neg (by omega), if_neg (not_not.mpr hlen), if_neg (by omega)]

theorem taskDriveFw_works {s : State} {run : TaskRun} (hport : run.go.arg 0 < 48) (hready : s.dpState (run.go.arg 0) = dpReady) (hoff : run.go.arg 1 % 4 = 0)
    (hlast : run.go.arg 2 < 2) (hlen : run.data.length % 4 = 0) : taskDriveFw s run = (s.driveAdmin (run.go.arg 0) 0x11, .works) := by
  unfold taskDriveFw
  dsimp only
  rw [if_neg (by omega), if_neg (not_not.mpr hready), if_neg (by omega), if_neg (not_not.mpr hlen)]

/-- A warm reset that is asked for while none is pending. -/
theorem askWarm_warm {s : State} (hruns : s.resetRuns = false) (hwarm : s.pwr.warm = none) (bit : Nat) : (s.askWarm bit).pwr.warm = some bit := by
  unfold State.askWarm
  rw [hruns, hwarm]
  simp only [Bool.false_eq_true, if_false, Option.getD_none, Nat.zero_or]
  exact congrArg Pwr.warm ((keeps_State_warmStage rfl (Keeps.refl false 8421923 _)).part .pwr (by decide))

theorem port_setPort (s : State) (n m : Nat) (p : DrvPort) : (s.setPort n p).port m = if n = m then p else s.port m := sparseGet_put drvPort0 n m p s.drv.ports

/-- Settles O46: each task is carried out in a state that differs from the one before the GO in TASK_CMD, TASK_STATUS and the tasks. -/
theorem localTasks : Obligations.LocalTasks := by
  refine ⟨?identity, ?commission, ?abort, ?ledger, ?reset, ?drive⟩
  case identity =>
    intro go s h hlen
    obtain ⟨u, ⟨⟨rs, l, rfl⟩, -, -⟩, heq⟩ := goTask_local_ends h (data := .bytes []) (aux := taskAux0) (fun hc => absurd hc (by decide)) rfl rfl rfl
      (fun u => u.emit (.taskData go.dataAddr u.dev.fuseIdentity)) (fun u _ => if_neg (not_not.mpr hlen))
    refine ⟨_, congrArg Host.Outcome.next heq, finishTask_ended _ _ tsOk _ (by decide), mem_out_finishTask (mem_emit_out ..) _ _ _⟩
  case commission =>
    intro go b digest r rest s h hlen hb howner
    obtain ⟨u, ⟨⟨rs, l, rfl⟩, -, -⟩, heq⟩ := goTask_local_ends h (data := .bytes b) (aux := { taskAux0 with digest := digest }) (dataHere_bytes b (by omega)) rfl rfl rfl
      (fun u => u.burnOwner digest) (by
        rintro _ ⟨⟨rs, l, rfl⟩, -, -⟩
        exact taskOwnerCommission_burns hb howner)
    refine ⟨_, congrArg Host.Outcome.next heq, finishTask_ended _ _ tsOk _ (by decide), ?_⟩
    obtain ⟨p, hp⟩ := finishTask_dev (State.burnOwner { s with regs := rs, tasks := l } digest) (goRun 0x0020 go (.bytes b) { taskAux0 with digest := digest }) tsOk []
    rw [hp]
    exact burnOwner_first howner digest
  case abort =>
    intro go s h
    obtain ⟨u, -, heq⟩ := goTask_local_ends h (data := .bytes []) (aux := taskAux0) (fun hc => absurd hc (by decide)) rfl rfl rfl State.fwClose (fun _ _ => rfl)
    exact ⟨_, congrArg Host.Outcome.next heq, finishTask_ended _ _ tsOk _ (by decide), congrArg FwSt.delivery (finishTask_fw ..)⟩
  case ledger =>
    intro go s h hfirst hpos hn hlen
    obtain ⟨u, ⟨⟨rs, l, rfl⟩, -, -⟩, heq⟩ := goTask_local_ends h (data := .bytes []) (aux := taskAux0) (fun hc => absurd hc (by decide)) rfl rfl rfl
      (fun u => u.emit (.taskData go.dataAddr (u.ledgerSlots (go.arg 0) (go.arg 1)))) (fun u _ => taskLedgerRead_reads hfirst hpos hn hlen)
    exact ⟨_, congrArg Host.Outcome.next heq, finishTask_ended _ _ tsOk _ (by decide), mem_out_finishTask (mem_emit_out ..) _ _ _⟩
  case reset =>
    intro go s h hruns hwarm
    obtain ⟨u, hu, heq⟩ := goTask_local h (.bytes []) taskAux0 (fun hc => absurd hc (by decide)) rfl rfl
    have hdo : u.doRun (goRun 0x0081 go (.bytes []) taskAux0) = (u.endRun (goRun 0x0081 go (.bytes []) taskAux0) tsOk []).askWarm 2 := rfl
    have hpwr : (u.endRun (goRun 0x0081 go (.bytes []) taskAux0) tsOk []).pwr = s.pwr := by
      obtain ⟨⟨rs, l, rfl⟩, -, -⟩ := hu
      rw [endRun_finishes _ rfl (.inl rfl)]
      exact finishTask_pwr ..
    refine ⟨_, congrArg Host.Outcome.next (heq.trans hdo), askWarm_warm ?_ (hpwr ▸ hwarm) 2⟩
    unfold State.resetRuns at hruns ⊢
    rwa [hpwr]
  case drive =>
    intro go b s h hlen hport hready hoff hlast hb
    obtain ⟨u, hu, heq⟩ := goTask_local h (.bytes b) taskAux0 (dataHere_bytes b hlen) rfl rfl
    have hready' : u.dpState (go.arg 0) = dpReady := (hu.dpState _).trans hready
    have hdo : u.doRun (goRun 0x0052 go (.bytes b) taskAux0) =
        (u.driveAdmin (go.arg 0) 0x11).moveRun (goRun 0x0052 go (.bytes b) taskAux0) { goRun 0x0052 go (.bytes b) taskAux0 with phase := .working } := by
      unfold State.doRun
      rw [show u.carryOut (goRun 0x0052 go (.bytes b) taskAux0) = _ from taskDriveFw_works hport hready' hoff hlast hb]
      rfl
    obtain ⟨⟨rs, l, rfl⟩, -, hbusy⟩ := hu
    refine ⟨_, congrArg Host.Outcome.next (heq.trans hdo), ?_, hbusy⟩
    have h := port_setPort { s with regs := rs, tasks := l } (go.arg 0) (go.arg 0) { s.port (go.arg 0) with admin := (s.port (go.arg 0)).admin ++ [(0x11, s.dev.timeNs)] }
    rw [if_pos rfl] at h
    exact congrArg DrvPort.admin h

/-! ## The Pattern tasks (O47) -/

/-- The run of a step task as it is carried out. -/
def streamRun (code : Nat) (go : TaskGo) (data : TaskData) (aux : TaskAux) : TaskRun := { goRun code go data aux with phase := .streamed }

theorem soloAlone_not_inPair {s : State} (h : SoloAlone s) : s.inPair = false := by
  unfold State.inPair
  rw [h.1]
  rfl

/-- A step task of a controller alone that ends at once. -/
theorem goTask_alone_ends {s : State} {code : Nat} {go : TaskGo} (h : TaskStarts s code go) (hsolo : SoloAlone s) {data : TaskData} {aux : TaskAux}
    (hdata : DataHere code go data) {i : TaskInfo} (hinfo : taskInfo code = some i) (hstep : i.step = true) (hcode : code ≠ 0x0080) (hquiet : repliesFirst code = false)
    (f : State → State) (hregs : ∀ u, (f u).regs = u.regs) (hf : ∀ u, Accepts s u → u.carryOut (streamRun code go data aux) = (f u, .ends tsOk [])) :
    ∃ u, Accepts s u ∧ s.goTask code go data aux = (f u).finishTask (streamRun code go data aux) tsOk [] := by
  obtain ⟨u, hu, heq⟩ := goTask_alone h hsolo data aux hdata hinfo hstep hcode
  have hpair : (f u).inPair = false := by
    have hrole : (f u).role = u.role := get_of_regs (hregs u) _ _ _
    unfold State.inPair
    rw [hrole]
    exact hu.inPair.trans (soloAlone_not_inPair hsolo)
  exact ⟨u, hu, heq.trans (doRun_ends (hf u hu) rfl (.inr hpair) (.inl hquiet))⟩

theorem taskPatBlock_opens {s : State} {run : TaskRun} (htrial : s.flag F.FWU_STATUS.TRIAL = false) (hnone : s.pat.delivery = none) (hbusy : s.patternBusy = false)
    (hoff : run.go.arg 0 = 0) (hlen : run.go.arg 1 ≤ 4194304) (hdata : run.data.length ≤ run.go.arg 1) :
    taskPatBlock s run = (s.setDelivery (some (run.go.arg 1, run.data)), .ends tsOk []) := by
  unfold taskPatBlock
  simp only [htrial, hnone, hbusy, Bool.false_eq_true, if_false]
  rw [if_neg (by omega), if_neg (by omega)]

theorem taskPatBlock_adds {s : State} {run : TaskRun} {a : List Byte} (htrial : s.flag F.FWU_STATUS.TRIAL = false) (hopen : s.pat.delivery = some (run.go.arg 1, a))
    (hoff : run.go.arg 0 = a.length) (ha : a ≠ []) (hdata : a.length + run.data.length ≤ run.go.arg 1) :
    taskPatBlock s run = (s.setDelivery (some (run.go.arg 1, a ++ run.data)), .ends tsOk []) := by
  have hpos := List.length_pos_iff.mpr ha
  unfold taskPatBlock
  simp only [htrial, hopen, Bool.false_eq_true, if_false]
  rw [if_neg (by omega), if_neg (by omega), if_neg (by omega)]

theorem taskPatCommit_commits {s : State} {run : TaskRun} {img : List Byte} (htrial : s.flag F.FWU_STATUS.TRIAL = false) (hopen : s.pat.delivery = some (img.length, img))
    (hok : (checkImage img (s.userAuth img run.aux.sig) (some s.patSeq) (some s.pat.live) s.branded).isOk = true) (hpartner : run.aux.partnerPe = 0) :
    taskPatCommit s run = (s.setDelivery none, .commits [.pattern img] tsOk []) := by
  unfold taskPatCommit
  simp only [htrial, hopen, Bool.false_eq_true, if_false, ne_eq, not_true_eq_false]
  have hsame : checkImage img ((s.setDelivery none).userAuth img run.aux.sig) (some (s.setDelivery none).patSeq) (some (s.setDelivery none).pat.live) (s.setDelivery none).branded =
      checkImage img (s.userAuth img run.aux.sig) (some s.patSeq) (some s.pat.live) s.branded := rfl
  rw [hsame]
  split
  · rename_i e he
    rw [he] at hok
    exact absurd hok Bool.false_ne_true
  · rw [if_neg (fun h => h.1 hpartner)]

theorem taskOverlaySet_commits {s : State} {run : TaskRun} {v : OvlVal} (htrial : s.flag F.FWU_STATUS.TRIAL = false)
    (hv : v = ⟨run.go.arg 0, run.go.arg 1, run.go.arg 2, run.go.arg 3, (run.go.arg 4 + run.go.arg 5 * 2 ^ 32) % 2 ^ (8 * run.go.arg 3 % 128)⟩)
    (hpermits : ovlPermits s.pat.live v = true) (hrecord : s.hasRecord v.type v.inst = true) (hok : (ovlApply s.pat.live v).isOk = true) :
    taskOverlaySet s run = (s, .commits [.overlay v] tsOk []) := by
  have hrecord' : s.hasRecord (run.go.arg 0) (run.go.arg 2) = true := by
    rw [hv] at hrecord
    exact hrecord
  unfold taskOverlaySet
  simp only [← hv, htrial, hpermits, hrecord', Bool.false_eq_true, if_false, Bool.not_true]
  split
  · rename_i e he
    rw [he] at hok
    exact absurd hok Bool.false_ne_true
  · rfl

/-- A store that is idle begins a commit at once. -/
theorem commit_committing {s : State} (h : StoreIdle s) (cs : List StoreChange) : Committing (s.commit cs) cs := by
  obtain ⟨hrefuses, hrun, hpin, hwarm⟩ := h
  have hnot : ¬ (s.pat.run.isSome = true ∨ s.flag F.PWR_PINS.PWRFAIL = true ∨ s.pwr.warm.isSome = true) := by simp [hrun, hpin, hwarm]
  unfold State.commit State.startCommit
  rw [if_neg hnot, hrefuses]
  exact ⟨rfl, flag_setFlag_same _ _ _ _ _ rfl⟩

theorem Accepts.storeIdle {s u : State} (hu : Accepts s u) (h : StoreIdle s) : StoreIdle u := by
  obtain ⟨hrefuses, hrun, hpin, hwarm⟩ := h
  refine ⟨?_, ?_, (hu.flag _ _ _ (by decide)).trans hpin, ?_⟩
  · unfold State.storeRefuses at hrefuses ⊢
    rwa [hu.reads _ _ _ (by decide)]
  all_goals
    obtain ⟨⟨rs, l, rfl⟩, -, -⟩ := hu
    assumption

theorem doRun_commits {s t : State} {r : TaskRun} {cs : List StoreChange} {code : Nat} {res : List Nat} (h : s.carryOut r = (t, .commits cs code res)) (hidle : StoreIdle t) :
    s.doRun r = (t.commit cs).moveRun r { r with phase := .commit code res } := by
  obtain ⟨hrefuses, hrun, hpin, hwarm⟩ := hidle
  unfold State.doRun
  rw [h]
  dsimp only
  rw [afterReply_quiet _ (.inr (by simp))]
  unfold State.settleRun
  simp [hrefuses, hrun, hpin, hwarm]

/-- Beginning a commit that is not refused writes STORE_STATUS and the store's part alone. -/
theorem commit_idle {s : State} (h : StoreIdle s) (cs : List StoreChange) :
    (s.commit cs).pat.delivery = s.pat.delivery ∧ (s.commit cs).flag F.TASK_STATUS.BUSY = s.flag F.TASK_STATUS.BUSY := by
  obtain ⟨hrefuses, hrun, hpin, hwarm⟩ := h
  have hnot : ¬ (s.pat.run.isSome = true ∨ s.flag F.PWR_PINS.PWRFAIL = true ∨ s.pwr.warm.isSome = true) := by simp [hrun, hpin, hwarm]
  unfold State.commit State.startCommit
  rw [if_neg hnot, hrefuses]
  exact ⟨rfl, congrArg (· == 1) (get_setFlag_other _ _ _ _ _ _ _ _ (by decide))⟩

/-- Settles O47: in Solo, alone, a step task is carried out at its GO, in a state that has the same delivery, store and records. -/
theorem patternTasks : Obligations.PatternTasks := by
  intro go s hsolo
  refine ⟨?opens, ?adds, ?aborts, ?commits, ?overlay⟩
  case opens =>
    intro b h hlen htrial hnone hbusy hoff hmax hb
    obtain ⟨u, -, heq⟩ := goTask_alone_ends h hsolo (data := .bytes b) (aux := taskAux0) (dataHere_bytes b hlen) rfl rfl (by decide) rfl
      (State.setDelivery · (some (go.arg 1, b))) (fun _ => rfl) (by
        intro u hu
        have htrial' := (hu.flag _ _ _ (by decide)).trans htrial
        obtain ⟨⟨rs, l, rfl⟩, -, -⟩ := hu
        exact taskPatBlock_opens htrial' hnone hbusy hoff hmax hb)
    exact ⟨_, congrArg Host.Outcome.next heq, finishTask_ended _ _ tsOk _ (by decide), congrArg PatSt.delivery (finishTask_pat ..)⟩
  case adds =>
    intro a b h hlen htrial hopen hoff ha hmax
    obtain ⟨u, -, heq⟩ := goTask_alone_ends h hsolo (data := .bytes b) (aux := taskAux0) (dataHere_bytes b hlen) rfl rfl (by decide) rfl
      (State.setDelivery · (some (go.arg 1, a ++ b))) (fun _ => rfl) (by
        intro u hu
        have htrial' := (hu.flag _ _ _ (by decide)).trans htrial
        obtain ⟨⟨rs, l, rfl⟩, -, -⟩ := hu
        exact taskPatBlock_adds htrial' hopen hoff ha hmax)
    exact ⟨_, congrArg Host.Outcome.next heq, finishTask_ended _ _ tsOk _ (by decide), congrArg PatSt.delivery (finishTask_pat ..)⟩
  case aborts =>
    intro h
    obtain ⟨u, -, heq⟩ := goTask_alone_ends h hsolo (data := .bytes []) (aux := taskAux0) (fun hc => absurd hc (by decide)) rfl rfl (by decide) rfl
      (State.setDelivery · none) (fun _ => rfl) (fun _ _ => rfl)
    exact ⟨_, congrArg Host.Outcome.next heq, finishTask_ended _ _ tsOk _ (by decide), congrArg PatSt.delivery (finishTask_pat ..)⟩
  case commits =>
    intro img sig h hidle htrial hopen hok
    obtain ⟨u, hu, heq⟩ := goTask_alone h hsolo (.bytes []) { taskAux0 with sig := sig, partnerPe := 0 } (fun hc => absurd hc (by decide)) rfl rfl (by decide)
    have htrial' := (hu.flag F.FWU_STATUS.TRIAL 0 0 (by decide)).trans htrial
    have hidle' : StoreIdle (u.setDelivery none) := hu.storeIdle hidle
    have hbusy := hu.busy
    obtain ⟨⟨rs, l, rfl⟩, -, -⟩ := hu
    have hcarry := taskPatCommit_commits (run := streamRun 0x0011 go (.bytes []) { taskAux0 with sig := sig, partnerPe := 0 }) htrial' hopen hok rfl
    obtain ⟨hdelivery, hbusy'⟩ := commit_idle hidle' [.pattern img]
    exact ⟨_, congrArg Host.Outcome.next (heq.trans (doRun_commits hcarry hidle')), commit_committing hidle' [.pattern img], hdelivery, hbusy'.trans hbusy⟩
  case overlay =>
    intro v h hidle htrial hv hpermits hrecord hok
    obtain ⟨u, hu, heq⟩ := goTask_alone h hsolo (.bytes []) taskAux0 (fun hc => absurd hc (by decide)) rfl rfl (by decide)
    have htrial' := (hu.flag F.FWU_STATUS.TRIAL 0 0 (by decide)).trans htrial
    have hidle' := hu.storeIdle hidle
    obtain ⟨⟨rs, l, rfl⟩, -, -⟩ := hu
    have hcarry := taskOverlaySet_commits (run := streamRun 0x0013 go (.bytes []) taskAux0) htrial' hv hpermits hrecord hok
    exact ⟨_, congrArg Host.Outcome.next (heq.trans (doRun_commits hcarry hidle')), commit_committing hidle' [.overlay v]⟩

end Sys2Proof.Machine
end

section
/-!
PROOFS. Fields and events that reports leave, and O43 (14_service_port.md): when a freeze ends.
-/
namespace Sys2Proof.Machine

/-! ## Fields that reports leave alone

Counters stand at bit 0 of their registers, and so does event status. A field that stands higher is written under its own name alone. -/

/-- A list of fields that stand at no bit 0, and are not the Ledger's. -/
structure Guarded (W : List Nat) : Prop where
  high : ∀ k ∈ W, k % 64 ≠ 0
  ledger : ∀ k ∈ ledgerKeys, k ∉ W

/-- The fields of `W` read as before, and no status bit of an event is cleared. -/
structure Spares (W : List Nat) (s t : State) : Prop where
  reads : ∀ (g : Fld) (m n : Nat), g.key m n ∈ W → t.get g m n = s.get g m n
  events : ∀ n < 64, ∀ i < 32, bitOf (s.get F.EVT_STATUS.STATUS n) i = true → bitOf (t.get F.EVT_STATUS.STATUS n) i = true

section
variable {W : List Nat} {s t u : State}

theorem Guarded.low (hW : Guarded W) (f : Fld) (i j : Nat) (hlo : f.lo = 0) : f.key i j ∉ W := by
  intro h
  refine hW.high _ h ?_
  unfold Fld.key
  omega

theorem Spares.refl (W : List Nat) (s : State) : Spares W s s := ⟨fun _ _ _ _ => rfl, fun _ _ _ _ h => h⟩

theorem Spares.trans (h : Spares W s t) (h' : Spares W t u) : Spares W s u :=
  ⟨fun g m n hk => (h'.reads g m n hk).trans (h.reads g m n hk), fun n hn i hi hb => h'.events n hn i hi (h.events n hn i hi hb)⟩

theorem Spares.flag (h : Spares W s t) (g : Fld) (m n : Nat) (hk : g.key m n ∈ W) : t.flag g m n = s.flag g m n := congrArg (· == 1) (h.reads g m n hk)

theorem Spares.of_regs (h : Spares W s t) (hregs : u.regs = t.regs) : Spares W s u := by
  refine h.trans ⟨fun g m n _ => ?_, fun n _ i _ hb => ?_⟩
  · unfold State.get
    rw [hregs]
  · unfold State.get at hb ⊢
    rwa [hregs]

/-- An operation that leaves the register file. -/
theorem Spares.keeps {p : Bool} {A : Nat} (h : Spares W s t) (hk : Keeps p A t u) (hregs : A &&& 1 ≠ 1) : Spares W s u := h.of_regs (hk.part .regs hregs)

theorem Spares.ite {c : Prop} [Decidable c] (h : Spares W s t) (h' : Spares W s u) : Spares W s (if c then t else u) := by
  split <;> assumption

theorem Spares.foldl {α : Type} {f : State → α → State} (l : List α) (hf : ∀ t x, Spares W s t → Spares W s (f t x)) (h : Spares W s t) : Spares W s (l.foldl f t) := by
  induction l generalizing t with
  | nil => exact h
  | cons x l ih => exact ih (hf t x h)

/-- No event status stands behind the first 64 registers of the event matrix. -/
theorem status_key_ne (f : Fld) (i j : Nat) (hoff : 0x20100 ≤ f.off) {n : Nat} (hn : n < 64) : f.key i j ≠ F.EVT_STATUS.STATUS.key n 0 := by
  simp only [Fld.key, Fld.at, F.EVT_STATUS.STATUS]
  omega

theorem Spares.set (h : Spares W s t) (f : Fld) (v i j : Nat) (hoff : 0x20100 ≤ f.off) (hk : f.key i j ∉ W) : Spares W s (t.set f v i j) := by
  refine h.trans ⟨fun _ _ _ hg => get_set_other _ _ _ _ _ _ _ _ (fun e => hk (e ▸ hg)), fun n hn i' _ hb => ?_⟩
  rwa [get_set_other _ _ _ _ _ _ _ _ (status_key_ne f i j hoff hn)]

/-- A field at bit 0 behind the event matrix. -/
theorem Spares.counter (hW : Guarded W) (h : Spares W s t) (f : Fld) (v i j : Nat) (hoff : 0x20100 ≤ f.off) (hlo : f.lo = 0) : Spares W s (t.set f v i j) :=
  h.set f v i j hoff (hW.low f i j hlo)

theorem Spares.raise (hW : Guarded W) (h : Spares W s t) (e : Nat) : Spares W s (t.raise e) := by
  refine h.trans ⟨fun g m n hg => get_raise _ _ _ _ _ (fun hk => hW.low F.EVT_STATUS.STATUS _ 0 rfl (hk ▸ hg)), fun n _ i hi hb => ?_⟩
  by_cases hn : e / 32 = n
  · subst hn
    rw [raise_status, bitOf_mod _ _ _ hi]
    exact bitOf_withBit_of _ _ _ hb
  · rwa [get_raise]
    simp only [Fld.key, Fld.at, F.EVT_STATUS.STATUS]
    omega

/-- The status bit of an event that is raised is set, and stays. -/
theorem Spares.raised {e : Nat} (he : e < 2048) (h : Spares W (s.raise e) t) : Raised t e := h.events _ (by omega) _ (Nat.mod_lt _ (by decide)) (raise_bit s e)

theorem Spares.raiseLimited (hW : Guarded W) (h : Spares W s t) (e : Nat) : Spares W s (t.raiseLimited e) := by
  refine h.ite (Spares.raise hW ?_ e)
  exact h.of_regs rfl

/-- A field of the Ledger's. -/
theorem Spares.ledgerField (hW : Guarded W) (h : Spares W s t) (f : Fld) (v : Nat) (hf : f.key 0 0 ∈ ledgerKeys) (hoff : 0x20100 ≤ f.off) : Spares W s (t.set f v) :=
  h.set f v 0 0 hoff (hW.ledger _ hf)

theorem Spares.freezeLedger (hW : Guarded W) (h : Spares W s t) : Spares W s t.freezeLedger :=
  h.ite (((h.ledgerField hW F.LDG_STATUS.FROZEN _ (by decide) (by decide)).ledgerField hW F.LDG_STATUS.TAIL_LEFT _ (by decide) (by decide)).raise hW 0x482)

theorem Spares.ledgerStore (hW : Guarded W) (h : Spares W s t) (r : LedgerRec) : Spares W s (t.ledgerStore r) := by
  refine Spares.ledgerField hW (Spares.ledgerField hW ?_ F.LDG_STATUS.HEAD _ (by decide) (by decide)) F.LDG_SEQ.NEXT _ (by decide) (by decide)
  exact h.of_regs rfl

theorem Spares.ledgerWrite (hW : Guarded W) (h : Spares W s t) (code island source withheld : Nat) (detail : List Byte) :
    Spares W s (t.ledgerWrite code island source withheld detail) := by
  unfold State.ledgerWrite
  extract_lets seq sev r left frozen u v
  have hu : Spares W s u := h.ledgerStore hW r
  have hv : Spares W s v := (hu.ledgerField hW F.LDG_STATUS.TAIL_LEFT _ (by decide) (by decide)).ite ((hu.freezeLedger hW).ite hu)
  exact Spares.ite ((h.ledgerField hW F.LDG_LOST.COUNT _ (by decide) (by decide)).raiseLimited hW 0x483) ((hv.raiseLimited hW 0x484).ite hv)

theorem Spares.ledger (hW : Guarded W) (h : Spares W s t) (code island source : Nat) (detail : List Byte) : Spares W s (t.ledger code island source detail) :=
  h.ledgerWrite hW ..

theorem Spares.addCounter (hW : Guarded W) (h : Spares W s t) (i weight : Nat) : Spares W s (t.addCounter i weight) := by
  have hc := h.counter hW F.SCL_CNT.COUNT (t.get F.SCL_CNT.COUNT i + weight) i 0 (by decide) rfl
  exact Spares.ite hc ((hc.counter hW F.SCL_OVF.OVF _ _ 0 (by decide) rfl).raiseLimited hW 0x480)

theorem Spares.count (hW : Guarded W) (h : Spares W s t) (unit inst event weight : Nat) : Spares W s (t.count unit inst event weight) :=
  Spares.ite (h.foldl _ (fun _ i h => (h.addCounter hW i weight).ite h)) h

/-! ## The link (R312, R328) -/

theorem Spares.putLink (hW : Guarded W) (h : Spares W s t) (lseq : Nat) (replay nak : Bool) (b : LinkBody) : Spares W s (t.putLink lseq replay nak b) := by
  refine Spares.of_regs (Spares.count hW ?_ 9 0 1 _) rfl
  exact h.of_regs rfl

theorem Spares.sendLink (hW : Guarded W) (h : Spares W s t) (b : LinkBody) : Spares W s (t.sendLink b) := by
  refine Spares.ite (Spares.putLink hW ?_ _ _ _ _) h
  exact h.of_regs rfl

theorem Spares.sendInput (hW : Guarded W) (h : Spares W s t) (r : InputRec) : Spares W s (t.sendInput r) :=
  Spares.ite ((h.sendLink hW _).count hW _ _ _ _) h

theorem Spares.number (hW : Guarded W) (h : Spares W s t) (sideB refOnly : Bool) (origin : Nat) (i : Input) : Spares W s (t.number sideB refOnly origin i) := by
  refine Spares.sendInput hW ?_ _
  exact h.of_regs rfl

theorem Spares.observe (hW : Guarded W) (h : Spares W s t) (i : Input) : Spares W s (t.observe i) := by
  unfold State.observe
  extract_lets origin wsw u
  have hu : Spares W s u := h.of_regs rfl
  refine Spares.ite (hu.number hW _ _ _ _) (Spares.ite (Spares.sendLink hW ?_ _) hu)
  exact hu.of_regs rfl

theorem Spares.stepWrite (hW : Guarded W) (h : Spares W s t) (src : Src) (w : StepWrite) (f : State → State) (hf : Spares W s (f t)) : Spares W s (t.stepWrite src w f) :=
  hf.ite (h.observe hW _)

theorem Spares.recognised (hW : Guarded W) (h : Spares W s t) (w : StepWrite) (f : State → State) (hf : Spares W s (f t)) : Spares W s (t.recognised w f) :=
  Spares.ite (h.stepWrite hW .svc w f hf) hf

end

/-! ## The end of a freeze (O43, R449, R450) -/

/-- The two fields that show a freeze. -/
def frozenWatch : List Nat := [F.SVC_STATUS.FROZEN.key 0 0, F.DVSEC_0C.FROZEN.key 0 0]

theorem frozenWatch_guarded : Guarded frozenWatch := ⟨by decide, by decide⟩

theorem thaw_ends (s : State) : s.thaw.flag F.SVC_STATUS.FROZEN = false ∧ s.thaw.flag F.DVSEC_0C.FROZEN = false ∧ s.thaw.svc.freezeBit = none := by
  unfold State.thaw State.flag
  simp only [get_of_regs (flushMsix_regs _), flushMsix_svc]
  refine ⟨?_, flag_setFlag_same _ _ _ _ _ rfl, rfl⟩
  rw [get_setFlag_other _ _ _ _ _ _ _ _ (by decide)]
  exact flag_setFlag_same _ _ _ _ _ rfl

theorem sparseGet_filter {α : Type} (d : α) (k : Nat) (keep : Nat → Bool) (hk : keep k = false) (l : List (Nat × α)) :
    sparseGet d k (l.filter (fun x => keep x.1)) = d := by
  induction l with
  | nil => rfl
  | cons x l ih =>
    by_cases hx : keep x.1 = true
    · have hne : x.1 ≠ k := fun e => absurd (e ▸ hx) (by rw [hk]; decide)
      simp only [List.filter_cons, hx, if_true, sparseGet, hne, if_false, ih]
    · simp only [List.filter_cons, hx, Bool.false_eq_true, if_false, ih]

/-- After a reset of a class, a field that does not survive it reads as its reset value. -/
theorem get_resetRegs (s : State) (c : Cls) (f : Fld) (m n : Nat) (h : survives c (f.key m n) = false) : (s.resetRegs c).get f m n = f.rst :=
  sparseGet_filter f.rst _ (survives c) h s.regs

theorem frozen_not_survives_flr : survives .flr (F.SVC_STATUS.FROZEN.key 0 0) = false ∧ survives .flr (F.DVSEC_0C.FROZEN.key 0 0) = false := by decide +kernel

theorem functionLevelReset_ends (s : State) : ∃ t, exec .functionLevelReset s = .next t ∧ t.svc.freezeBit = none ∧ t.flag F.SVC_STATUS.FROZEN = false ∧
    t.flag F.DVSEC_0C.FROZEN = false := by
  refine ⟨_, rfl, ?_⟩
  extract_lets svc u v w
  have hv : v.svc.freezeBit = none ∧ v.flag F.SVC_STATUS.FROZEN = false ∧ v.flag F.DVSEC_0C.FROZEN = false := by
    obtain ⟨hsvc, hdvsec⟩ := frozen_not_survives_flr
    exact ⟨rfl, congrArg (· == 1) (get_resetRegs u .flr _ 0 0 hsvc), congrArg (· == 1) (get_resetRegs u .flr _ 0 0 hdvsec)⟩
  have hw : Spares frozenWatch v w ∧ w.svc = v.svc := by
    unfold w
    split
    · exact ⟨Spares.refl _ _, rfl⟩
    · refine ⟨(Spares.refl _ v).recognised frozenWatch_guarded _ _ ((Spares.refl _ v).of_regs rfl), ?_⟩
      exact (keeps_State_recognised _ _ (by decide) (fun t h => keeps_State_setDelivery none (by decide) h) (Keeps.refl false 8389159 v)).part .svc (by decide)
  have ht := hw.1.raise frozenWatch_guarded 0x4C4
  obtain ⟨hbit, hsvc, hdvsec⟩ := hv
  exact ⟨(congrArg Svc.freezeBit ((raise_svc w 0x4C4).trans hw.2)).trans hbit, (ht.flag _ _ _ (by decide)).trans hsvc, (ht.flag _ _ _ (by decide)).trans hdvsec⟩

/-- Settles O43: a release in a frozen function is looked at by the bit that froze it; a function-level reset clears both fields, and what follows it writes neither. -/
theorem freezeEnds : Obligations.FreezeEnds := by
  intro cleared s aer
  refine ⟨?ends, ?stands, ?idle, functionLevelReset_ends s⟩
  case ends =>
    intro b hb hclear
    obtain ⟨h1, h2, h3⟩ := thaw_ends { s with svc := { s.svc with aer := aer } }
    refine ⟨_, ?_, h1, h2, h3⟩
    change execFreezeRelease cleared s = _
    unfold execFreezeRelease
    simp only [hb]
    exact congrArg Host.Outcome.next (if_neg (by rw [hclear]; decide))
  case stands =>
    intro b hb hset
    change execFreezeRelease cleared s = _
    unfold execFreezeRelease
    simp only [hb]
    exact congrArg Host.Outcome.next (if_pos hset)
  case idle =>
    intro hb
    change execFreezeRelease cleared s = _
    unfold execFreezeRelease
    simp only [hb]
    rfl

end Sys2Proof.Machine
end

section
/-!
PROOFS. O52 (15_engines_events.md): the states of a DMA channel.
-/
namespace Sys2Proof.Machine

/-! ## Memory after a store (R484) -/

section
variable (s : State)

/-- Where no word is poisoned a store writes its bytes. -/
theorem store_mem (hclean : s.poison = []) (a : Nat) (bs : List Byte) : (s.store a bs).mem = (s.memWrite a bs).mem := by
  unfold State.store
  simp only [hclean, List.filter_nil, List.isEmpty_nil, if_true, injected_mem, clearPoisonIn_mem]

theorem memByte_of_mem {s t : State} (h : t.mem = s.mem) (x : Nat) : t.memByte x = s.memByte x := by
  unfold State.memByte
  rw [h]

theorem memRead_of_mem {s t : State} (h : t.mem = s.mem) (a n : Nat) : t.memRead a n = s.memRead a n := by
  induction n generalizing a with
  | zero => rfl
  | succ n ih => rw [State.memRead, State.memRead, ih, memByte_of_mem h]

theorem length_memRead (a n : Nat) : (s.memRead a n).length = n := by
  induction n generalizing a with
  | zero => rfl
  | succ n ih => rw [State.memRead, List.length_cons, ih]

/-- A read is what stands at each address. -/
theorem memRead_eq_of_forall (a : Nat) (bs : List Byte) (h : ∀ i < bs.length, s.memByte (a + i) = bs.getD i unwrittenByte) : s.memRead a bs.length = bs := by
  induction bs generalizing a with
  | nil => rfl
  | cons b bs ih =>
    rw [List.length_cons, State.memRead]
    have h0 := h 0 (Nat.succ_pos _)
    rw [ih (a + 1) (fun i hi => by
      have := h (i + 1) (Nat.succ_lt_succ hi)
      rwa [Nat.add_right_comm, Nat.add_assoc a i 1]), show s.memByte a = b from h0]

/-- What is written is read back. -/
theorem memRead_memWrite (a : Nat) (bs : List Byte) : (s.memWrite a bs).memRead a bs.length = bs := by
  refine memRead_eq_of_forall _ a bs (fun i hi => ?_)
  rw [memByte_write, if_pos ⟨by omega, by omega⟩, Nat.add_sub_cancel_left]

theorem memByte_memWrite_outside (a : Nat) (bs : List Byte) {x : Nat} (hx : x < a ∨ a + bs.length ≤ x) : (s.memWrite a bs).memByte x = s.memByte x := by
  rw [memByte_write, if_neg (by omega)]

end

/-! ## Fields of two names -/

/-- Fields that stand at different bits. -/
theorem key_ne_of_lo {f g : Fld} {i j m n : Nat} (hlo : f.lo ≠ g.lo) (hf : f.lo < 64) (hg : g.lo < 64) : f.key i j ≠ g.key m n := by
  unfold Fld.key
  omega

/-- Fields of different registers. -/
theorem key_ne_of_at {f g : Fld} {i j m n : Nat} (hat : f.at i j ≠ g.at m n) (hf : f.lo < 64) (hg : g.lo < 64) : f.key i j ≠ g.key m n := by
  unfold Fld.key
  omega

section
variable (s : State) (n ch : Nat)

/-! ## Channels (R475) -/

theorem chan?_setChan (c : Chan) : (s.setChan n ch c).chan? n ch = some c := by
  unfold State.chan? State.setChan
  exact (find?_sparseInsert (chanKey n ch) (chanKey n ch) c s.eng.chans).trans (if_pos rfl)

/-- A transfer that ends leaves an idle channel with its status; the completion of NOTIFY and the event write no field of the channel. -/
theorem dmaEnd_status {status : Nat} (hs : status < 8) :
    (s.dmaEnd n ch status).get F.DMA_STATUS.STATE n ch = chIdle ∧ (s.dmaEnd n ch status).get F.DMA_STATUS.LAST n ch = status := by
  unfold State.dmaEnd
  extract_lets c eng t u v
  have hu : u.get F.DMA_STATUS.STATE n ch = chIdle ∧ u.get F.DMA_STATUS.LAST n ch = status := by
    unfold u
    rw [get_set_other _ _ _ _ _ _ _ _ (key_ne_of_lo (by decide) (by decide) (by decide)), get_set_same, get_set_same]
    exact ⟨rfl, Nat.mod_eq_of_lt hs⟩
  have hv : v.regs = u.regs := by
    unfold v
    clear_value c
    rcases c with _ | c
    · rfl
    · dsimp only
      cases c.desc.notify && status != 3
      · rfl
      · exact (keeps_State_push _ _ _ (by decide) (Keeps.refl false 32 u.drawn)).part .regs (by decide)
  split
  · rwa [get_of_regs hv, get_of_regs hv]
  · rwa [get_raise _ _ _ _ _ (key_ne_of_lo (by decide) (by decide) (by decide)), get_raise _ _ _ _ _ (key_ne_of_lo (by decide) (by decide) (by decide)), get_of_regs hv, get_of_regs hv]

/-- Any status but OK and POISON raises DMA_ERROR. -/
theorem dmaEnd_raised {status : Nat} (hs : 2 ≤ status) : Raised (s.dmaEnd n ch status) (0x400 + 4 * n + 2) := by
  unfold State.dmaEnd
  extract_lets
  rw [if_neg (by omega)]
  exact raise_bit _ _

theorem dmaEnd_mem (status : Nat) : (s.dmaEnd n ch status).mem = s.mem :=
  (keeps_State_dmaEnd n ch status (by decide) (Keeps.refl false 25165859 s)).part .mem (by decide)

/-! ## Starting (R473) -/

variable {s n ch} {src : Src} {mode : Mode} {a : Nat}

/-- What DMA_START does once its write passes. -/
def State.dmaStarted (s : State) (n ch : Nat) (mode : Mode) (a : Nat) (spans : List SpanXl) : State :=
  if s.get F.DMA_STATUS.STATE n ch ≠ chIdle then s.bump F.DMA_REFUSED.COUNT n ch
  else if a % 32 ≠ 0 ∨ s.dmaBad n mode (dmaDesc (s.memRead a 32)) then s.dmaEnd n ch 3
  else if 0xC_0000_0000 ≤ a then s.dmaEnd n ch 2
  else
    let t := (s.setChan n ch ⟨dmaDesc (s.memRead a 32), 0, false⟩).set F.DMA_STATUS.STATE chRunning n ch
    if (dmaDesc (s.memRead a 32)).len = 0 then t.dmaEnd n ch 0 else State.dmaRun n ch false spans ⟨dmaDesc (s.memRead a 32), 0, false⟩ t

/-- A row of a channel whose write passes. -/
theorem dma_row (hn : n < 32) (hch : ch < 2) {off : Nat} (hg : s.gate src off = .pass) (f : State → State) :
    (.next (if 32 ≤ n ∨ 2 ≤ ch then s else s.busWrite src off f) : Result) = .next (f s) := by
  rw [if_neg (by omega)]
  unfold State.busWrite
  rw [hg]

theorem exec_dmaStart (hn : n < 32) (hch : ch < 2) (hg : s.gate src (F.DMA_DESC.ADDR.at n ch) = .pass) (spans : List SpanXl) :
    exec (.dmaStart src n ch mode a spans) s = .next (s.dmaStarted n ch mode a spans) := dma_row hn hch hg _

/-- A well-formed descriptor is taken by an idle channel, which then runs. -/
theorem dmaStarted_runs (hidle : s.get F.DMA_STATUS.STATE n ch = chIdle) (ha : a % 32 = 0) (hmem : a < 0xC_0000_0000)
    (hgood : s.dmaBad n mode (dmaDesc (s.memRead a 32)) = false) :
    s.dmaStarted n ch mode a [] =
      (let t := (s.setChan n ch ⟨dmaDesc (s.memRead a 32), 0, false⟩).set F.DMA_STATUS.STATE chRunning n ch
       if (dmaDesc (s.memRead a 32)).len = 0 then t.dmaEnd n ch 0 else t) := by
  unfold State.dmaStarted
  rw [if_neg (not_not.mpr hidle), if_neg (by rw [hgood]; simp [ha]), if_neg (by omega)]
  rfl

theorem dmaStarted_refused (hrunning : s.get F.DMA_STATUS.STATE n ch = chRunning) : s.dmaStarted n ch mode a [] = s.bump F.DMA_REFUSED.COUNT n ch :=
  if_pos (by rw [hrunning]; decide)

theorem dmaStarted_bad (hidle : s.get F.DMA_STATUS.STATE n ch = chIdle) (hbad : s.dmaBad n mode (dmaDesc (s.memRead a 32)) = true) :
    s.dmaStarted n ch mode a [] = s.dmaEnd n ch 3 := by
  unfold State.dmaStarted
  rw [if_neg (not_not.mpr hidle), if_pos (.inr hbad)]

/-! ## Running and pausing (R474, R475) -/

theorem not_isRegSpace_of_memSpan {a k : Nat} (hk : k ≠ 0) (h : memSpan a k = true) : isRegSpace a = false := by
  simp only [memSpan, isMemory, isRegSpace, Bool.or_eq_true, Bool.and_eq_true, beq_iff_eq, decide_eq_true_eq, Bool.and_eq_false_iff, decide_eq_false_iff_not] at h ⊢
  omega

theorem poisoned_of_clean (hclean : s.poison = []) (a : Nat) : s.poisoned a = false := by
  unfold State.poisoned
  rw [hclean]
  rfl

/-- A span that lies in memory at both ends and holds no poison is written at its destination. -/
theorem dmaCopy_mem {src dst k : Nat} (hclean : s.poison = []) (hsrc : memSpan src k = true) (hdst : memSpan dst k = true) :
    (s.dmaCopy src dst k).mem = (s.memWrite dst (s.memRead src k)).mem := by
  have hbad : (List.range k).filter (fun i => !isRegSpace src && s.poisoned (src + i)) = [] := by
    simp [poisoned_of_clean hclean]
  unfold State.dmaCopy
  simp only [hbad, List.isEmpty_nil, if_true, List.foldl_nil, ite_self]
  by_cases hk : k = 0
  · subst hk
    have hread : s.dmaRead src 0 = [] := by
      unfold State.dmaRead
      split <;> rfl
    rw [hread]
    by_cases hd : isRegSpace dst = true <;> by_cases hs : isRegSpace src = true <;> simp only [hd, hs, if_true, if_false, Bool.false_eq_true, store_mem s hclean] <;> rfl
  · have hs := not_isRegSpace_of_memSpan hk hsrc
    simp only [hs, not_isRegSpace_of_memSpan hk hdst, Bool.false_eq_true, if_false, State.dmaRead, store_mem s hclean]

/-- The last span of a transfer between physical addresses: it is copied, and the transfer ends with OK. -/
theorem dmaRun_last {c : Chan} {x y : Nat} (hsrcPhys : c.desc.srcAsid = physAsid) (hdstPhys : c.desc.dstAsid = physAsid) (hlast : c.done + c.span = c.desc.len)
    (hsrc : memSpan (c.desc.src + c.done) c.span = true) (hdst : memSpan (c.desc.dst + c.done) c.span = true) (hclean : s.poison = []) (hc : c.poison = false) :
    State.dmaRun n ch true [.ok x y] c s =
      ((s.dmaCopy (c.desc.src + c.done) (c.desc.dst + c.done) c.span).setChan n ch { c with done := c.desc.len, poison := false }).dmaEnd n ch 0 := by
  have hpoison : (List.range c.span).any (fun i => !isRegSpace (c.desc.src + c.done) && s.poisoned (c.desc.src + c.done + i)) = false := by
    simp [poisoned_of_clean hclean]
  have hspan : s.dmaSpan n ch c (.ok x y) =
      ((s.dmaCopy (c.desc.src + c.done) (c.desc.dst + c.done) c.span).setChan n ch { c with done := c.desc.len, poison := false }, some { c with done := c.desc.len, poison := false }) := by
    unfold State.dmaSpan
    simp only [hsrcPhys, hdstPhys, if_true, dmaMapped, hsrc, hdst, Bool.true_or, Bool.not_true, Bool.or_false, Bool.false_eq_true, if_false, hpoison, hc, hlast]
  unfold State.dmaRun
  rw [hspan]
  simp

theorem dmaRun_fault {c : Chan} {va : Nat} (hvirt : c.desc.srcAsid ≠ physAsid) :
    State.dmaRun n ch true [.fault va] c s =
      ((((s.setChan n ch c).set F.DMA_STATUS.STATE chPaused n ch).set F.DMA_FAULT_VA.VALUE va n ch).bump F.XLT_FAULTS.COUNT).raise (0x400 + 4 * n + 1) := by
  have hphys : (c.desc.srcAsid == physAsid && c.desc.dstAsid == physAsid) = false := by simp [hvirt]
  unfold State.dmaRun State.dmaSpan
  simp only [hphys]
  rfl

theorem exec_dmaComplete {c : Chan} (hchan : s.chan? n ch = some c) (hrunning : s.get F.DMA_STATUS.STATE n ch = chRunning) (spans : List SpanXl) :
    exec (.dmaComplete n ch spans) s = .next (State.dmaRun n ch true spans c s) := by
  change execDmaComplete n ch spans s = _
  unfold execDmaComplete
  simp only [hchan, hrunning, if_true]

theorem exec_dmaResume (hn : n < 32) (hch : ch < 2) (hg : s.gate src (F.DMA_CTL.RESUME.at n ch) = .pass) {c : Chan} (hchan : s.chan? n ch = some c)
    (hpaused : s.get F.DMA_STATUS.STATE n ch = chPaused) : exec (.dmaResume src n ch []) s = .next (s.set F.DMA_STATUS.STATE chRunning n ch) := by
  refine (dma_row hn hch hg _).trans ?_
  simp only [hchan, hpaused, if_true]
  rfl

/-- Event status stands before the registers of an engine. -/
theorem engine_key_ne_status {f : Fld} {i j : Nat} (e : Nat) (hlo : f.lo = 0) (hf : f.off = 0x600110 ∨ f.off = 0x600118) (he : e < 2048) :
    F.EVT_STATUS.STATUS.key (e / 32) 0 ≠ f.key i j := by
  simp only [Fld.key, Fld.at, F.EVT_STATUS.STATUS, hlo]
  omega

end

/-- Settles O52: each row by the branch that the channel's state picks; what ends or pauses a transfer writes the channel's fields and then only counters, events and the NOTIFY queue. -/
theorem dmaChannels : Obligations.DmaChannels := by
  intro n ch s hn hch
  refine ⟨?start, ?complete, ?fault, ?resume, ?abort⟩
  case start =>
    intro src mode a hg d
    refine ⟨fun hidle ha hmem hgood => ⟨fun hlen => ?_, fun hlen => ?_⟩, fun hidle hbad => ?_, fun hrunning => ?_⟩
    · have hexec := exec_dmaStart (mode := mode) (a := a) hn hch hg []
      rw [dmaStarted_runs hidle ha hmem hgood, if_pos hlen] at hexec
      exact ⟨_, hexec, dmaEnd_status _ _ _ (by decide)⟩
    · have hexec := exec_dmaStart (mode := mode) (a := a) hn hch hg []
      rw [dmaStarted_runs hidle ha hmem hgood, if_neg hlen] at hexec
      exact ⟨_, hexec, get_set_same .., chan?_setChan s n ch ⟨d, 0, false⟩⟩
    · have hexec := exec_dmaStart (mode := mode) (a := a) hn hch hg []
      rw [dmaStarted_bad hidle hbad] at hexec
      obtain ⟨hstate, hlast⟩ := dmaEnd_status s n ch (status := 3) (by decide)
      exact ⟨_, hexec, hstate, hlast, dmaEnd_raised s n ch (by decide)⟩
    · rw [exec_dmaStart hn hch hg, dmaStarted_refused hrunning]
  case complete =>
    intro c x y hchan hrunning hsrcPhys hdstPhys hlast hsrc hdst hclean hpoison
    obtain ⟨hstate, hstatus⟩ := dmaEnd_status ((s.dmaCopy (c.desc.src + c.done) (c.desc.dst + c.done) c.span).setChan n ch { c with done := c.desc.len, poison := false }) n ch
      (status := 0) (by decide)
    have hmem : ((((s.dmaCopy (c.desc.src + c.done) (c.desc.dst + c.done) c.span).setChan n ch { c with done := c.desc.len, poison := false }).dmaEnd n ch 0)).mem =
        (s.memWrite (c.desc.dst + c.done) (s.memRead (c.desc.src + c.done) c.span)).mem :=
      (dmaEnd_mem _ n ch 0).trans (dmaCopy_mem hclean hsrc hdst)
    have hlen := length_memRead s (c.desc.src + c.done) c.span
    refine ⟨_, (exec_dmaComplete hchan hrunning _).trans (congrArg _ (dmaRun_last hsrcPhys hdstPhys hlast hsrc hdst hclean hpoison)), hstate, hstatus, ?_, fun b hb => ?_⟩
    · rw [memRead_of_mem hmem]
      have hread := memRead_memWrite s (c.desc.dst + c.done) (s.memRead (c.desc.src + c.done) c.span)
      rwa [hlen] at hread
    · rw [memByte_of_mem hmem]
      exact memByte_memWrite_outside s _ _ (by rwa [hlen])
  case fault =>
    intro c va hchan hrunning hvirt
    have hother {f g : Fld} (hlo : f.lo ≠ g.lo) (hf : f.lo < 64) (hg : g.lo < 64) {i j k l : Nat} : f.key i j ≠ g.key k l := key_ne_of_lo hlo hf hg
    refine ⟨_, (exec_dmaComplete hchan hrunning _).trans (congrArg _ (dmaRun_fault hvirt)), ?_, ?_, ?_, raise_mem .., raise_bit ..⟩
    · rw [get_raise _ _ _ _ _ (hother (by decide) (by decide) (by decide)), get_bump_other _ _ _ _ _ _ _ (hother (by decide) (by decide) (by decide)),
        get_set_other _ _ _ _ _ _ _ _ (hother (by decide) (by decide) (by decide)), get_set_same]
      rfl
    · rw [get_raise _ _ _ _ _ (engine_key_ne_status _ rfl (by decide) (by omega)), get_bump_other _ _ _ _ _ _ _ (by simp only [Fld.key, Fld.at, F.XLT_FAULTS.COUNT, F.DMA_DONE.VALUE]; omega),
        get_set_other _ _ _ _ _ _ _ _ (by simp only [Fld.key, Fld.at, F.DMA_FAULT_VA.VALUE, F.DMA_DONE.VALUE]; omega),
        get_set_other _ _ _ _ _ _ _ _ (hother (by decide) (by decide) (by decide))]
      exact get_set_same ..
    · rw [get_raise _ _ _ _ _ (engine_key_ne_status _ rfl (by decide) (by omega)), get_bump_other _ _ _ _ _ _ _ (by simp only [Fld.key, Fld.at, F.XLT_FAULTS.COUNT, F.DMA_FAULT_VA.VALUE]; omega)]
      exact get_set_same ..
  case resume =>
    intro src c hg hchan hpaused
    exact ⟨_, exec_dmaResume hn hch hg hchan hpaused, get_set_same .., hchan⟩
  case abort =>
    intro src hg hpaused
    obtain ⟨hstate, hlast⟩ := dmaEnd_status s n ch (status := 2) (by decide)
    exact ⟨_, (dma_row hn hch hg _).trans (congrArg _ (if_pos hpaused)), hstate, hlast, dmaEnd_raised s n ch (by decide)⟩

end Sys2Proof.Machine
end

section
/-!
PROOFS. O56 (17_observability.md): Scaler counters, precise sampling and the freeze of the Ledger.
-/
namespace Sys2Proof.Machine

/-- A field that stands at other bits reads as before. -/
theorem get_set_apart (s : State) (f g : Fld) (v i j m n : Nat) (h : f.lo ≠ g.lo ∧ f.lo < 64 ∧ g.lo < 64) : (s.set f v i j).get g m n = s.get g m n :=
  get_set_other _ _ _ _ _ _ _ _ (key_ne_of_lo h.1 h.2.1 h.2.2)

theorem bit_eq_one (b : Bool) : ((if b = true then 1 else 0) % 2 ^ 1 == 1) = b := by cases b <;> rfl

theorem get_set_of_lt {v w : Nat} {f : Fld} (hw : f.width = w) (hv : v < 2 ^ w) (s : State) (i j : Nat) : (s.set f v i j).get f i j = v := by
  rw [get_set_same, hw]
  exact Nat.mod_eq_of_lt hv

theorem busWrite_of_pass {s : State} {src : Src} {off : Nat} (hg : s.gate src off = .pass) (f : State → State) : s.busWrite src off f = f s := by
  unfold State.busWrite
  rw [hg]

/-! ## Scaler counters (R502 to R508) -/

section
variable {s : State} {i : Nat}

theorem exec_counterWrite (hi : i < 1024) (acc : CounterAccess) : exec (.scalerCounterWrite i acc) s = .next (scalerAccess i acc s) := congrArg Host.Outcome.next (if_pos hi)

theorem csrWrite_user (hi : i < 256) (v : Nat) : scalerAccess i (.csrWrite .u v) s = s.emit (.exception (i / 8) 2) := by
  unfold scalerAccess
  dsimp only
  rw [if_pos hi, if_pos rfl]

theorem csrWrite_privileged (hi : i < 256) {md : Mode} (hmd : md ≠ .u) (v : Nat) : scalerAccess i (.csrWrite md v) s = s.set F.SCL_CNT.COUNT v i := by
  unfold scalerAccess
  dsimp only
  rw [if_pos hi, if_neg hmd]

theorem csrRead_allowed (hi : i < 256) {md : Mode} {mc sc : Bool} (h : md ≠ .u ∨ (mc = true ∧ sc = true ∧ s.flag F.SCL_SEL.UREAD i = true)) :
    scalerAccess i (.csrRead md mc sc) s = s.emit (.engineRd (i / 8) (s.get F.SCL_CNT.COUNT i)) := by
  unfold scalerAccess
  dsimp only
  rw [if_pos hi, if_neg (fun hc => h.elim (fun hmd => hmd hc.1) hc.2)]

theorem csrRead_user (hi : i < 256) {mc sc : Bool} (h : ¬ (mc = true ∧ sc = true ∧ s.flag F.SCL_SEL.UREAD i = true)) :
    scalerAccess i (.csrRead .u mc sc) s = s.emit (.exception (i / 8) 2) := by
  unfold scalerAccess
  dsimp only
  rw [if_pos hi, if_pos ⟨rfl, h⟩]

/-- A counter that is added to takes the sum modulo 2^48. -/
theorem addCounter_count (w : Nat) (hi : i < 1024) : (s.addCounter i w).get F.SCL_CNT.COUNT i = (s.get F.SCL_CNT.COUNT i + w) % 2 ^ 48 := by
  unfold State.addCounter
  extract_lets v t
  have ht : t.get F.SCL_CNT.COUNT i = v % 2 ^ 48 := get_set_same ..
  split
  · exact ht
  · rw [get_raiseLimited _ _ _ _ _ (key_ne_of_at (by simp only [Fld.at, F.EVT_STATUS.STATUS, F.SCL_CNT.COUNT]; omega) (by decide) (by decide)),
      get_set_other _ _ _ _ _ _ _ _ (key_ne_of_at (by simp only [Fld.at, F.SCL_OVF.OVF, F.SCL_CNT.COUNT]; omega) (by decide) (by decide)), ht]

/-- One that wraps sets its sticky bit. -/
theorem addCounter_overflow (w : Nat) (hw : 2 ^ 48 ≤ s.get F.SCL_CNT.COUNT i + w) : bitOf ((s.addCounter i w).get F.SCL_OVF.OVF (i / 32)) (i % 32) = true := by
  unfold State.addCounter
  extract_lets v t
  rw [if_neg (show ¬ v < 2 ^ 48 by omega), get_raiseLimited _ _ _ _ _ (key_ne_of_at (by simp only [Fld.at, F.EVT_STATUS.STATUS, F.SCL_OVF.OVF]; omega) (by decide) (by decide)),
    get_set_same]
  exact (bitOf_mod _ _ _ (Nat.mod_lt _ (by decide))).trans (withBit_bit _ _)

/-! ## Selections (R504, R505) -/

/-- The selection register with what was written. -/
def State.selected (s : State) (i : Nat) (sel : Selection) : State :=
  let s := s.setFlag F.SCL_SEL.ENABLE sel.enable i
  let s := s.setFlag F.SCL_SEL.UREAD (sel.uread && decide (i < 256)) i
  let s := s.set F.SCL_SEL.INSTANCE sel.inst i
  let s := s.set F.SCL_SEL.UNIT sel.unit i
  let s := s.set F.SCL_SEL.EVENT sel.event i
  s.setFlag F.SCL_SEL.BAD (!selectionValid i (sel.unit % 16) (sel.inst % 256) (sel.event % 256)) i

theorem exec_selectWrite {src : Src} (hi : i < 1024) (hg : s.gate src (F.SCL_SEL.EVENT.at i 0) = .pass) (sel : Selection) :
    exec (.scalerSelectWrite src i sel) s = .next (s.selected i sel) :=
  congrArg Host.Outcome.next ((if_pos hi).trans (busWrite_of_pass hg _))

/-- Every field of the selection register as it was written. -/
theorem selected_fields (sel : Selection) (hunit : sel.unit < 16) (hinst : sel.inst < 256) (hevent : sel.event < 256) :
    (s.selected i sel).flag F.SCL_SEL.ENABLE i = sel.enable ∧ (s.selected i sel).get F.SCL_SEL.UNIT i = sel.unit ∧ (s.selected i sel).get F.SCL_SEL.INSTANCE i = sel.inst ∧
      (s.selected i sel).get F.SCL_SEL.EVENT i = sel.event ∧ (s.selected i sel).flag F.SCL_SEL.UREAD i = (sel.uread && decide (i < 256)) ∧
      (s.selected i sel).flag F.SCL_SEL.BAD i = !selectionValid i sel.unit sel.inst sel.event := by
  unfold State.selected State.setFlag State.flag
  rw [Nat.mod_eq_of_lt hunit, Nat.mod_eq_of_lt hinst, Nat.mod_eq_of_lt hevent]
  simp (disch := decide) only [get_set_apart, get_set_same]
  exact ⟨bit_eq_one _, Nat.mod_eq_of_lt hunit, Nat.mod_eq_of_lt hinst, Nat.mod_eq_of_lt hevent, bit_eq_one _, bit_eq_one _⟩

theorem selected_count (hi : i < 1024) (sel : Selection) : (s.selected i sel).get F.SCL_CNT.COUNT i = s.get F.SCL_CNT.COUNT i := by
  have hevent : F.SCL_SEL.EVENT.key i 0 ≠ F.SCL_CNT.COUNT.key i 0 := key_ne_of_at (by simp only [Fld.at, F.SCL_SEL.EVENT, F.SCL_CNT.COUNT]; omega) (by decide) (by decide)
  unfold State.selected State.setFlag
  rw [get_set_apart _ _ _ _ _ _ _ _ (by decide), get_set_other _ _ _ _ _ _ _ _ hevent]
  simp (disch := decide) only [get_set_apart]

/-! ## Times (R506) -/

theorem scalerOn_at_start (hrun : s.flag F.SCL_CTL.RUN = true) (hstop : s.get F.SCL_STOP_AT.TIME = 0) : (s.reach (s.get F.SCL_START_AT.TIME)).scalerOn = true := by
  have hstart : s.get F.SCL_START_AT.TIME ≤ max s.dev.timeNs (s.get F.SCL_START_AT.TIME) := le_max_right ..
  change (s.flag F.SCL_CTL.RUN && (s.get F.SCL_START_AT.TIME == 0 || decide (s.get F.SCL_START_AT.TIME ≤ max s.dev.timeNs (s.get F.SCL_START_AT.TIME))) &&
    (s.get F.SCL_STOP_AT.TIME == 0 || _)) = true
  simp [hrun, hstop, hstart]

theorem scalerOff_at_stop (hstop : s.get F.SCL_STOP_AT.TIME ≠ 0) : (s.reach (s.get F.SCL_STOP_AT.TIME)).scalerOn = false := by
  have hpast : ¬ max s.dev.timeNs (s.get F.SCL_STOP_AT.TIME) < s.get F.SCL_STOP_AT.TIME := by omega
  change (_ && (s.get F.SCL_STOP_AT.TIME == 0 || decide (max s.dev.timeNs (s.get F.SCL_STOP_AT.TIME) < s.get F.SCL_STOP_AT.TIME))) = false
  simp [hstop, hpast]

end

/-! ## Samples (R511 to R513) -/

section
variable {s : State} {n : Nat} {r : Sample}

theorem Sample.length_bytes (r : Sample) (engine time : Nat) : (r.bytes engine time).length = 32 := by
  simp [Sample.bytes, leBytes]

theorem exec_sampleTaken_none (h : s.get F.SMP_CTL.PERIOD n = 0 ∨ (r.tenantAsid = true ∧ r.mode = 0 ∧ s.flag F.SMP_CTL.TENANT n = false)) :
    exec (.sampleTaken n r) s = .next s := by
  refine congrArg Host.Outcome.next (if_neg ?_)
  rintro ⟨-, hperiod, hwho⟩
  obtain h | ⟨htenant, hmode, hflag⟩ := h
  · exact hperiod h
  · simp [htenant, hmode, hflag] at hwho

/-- The state with the sample written or dropped, and the next countdown drawn. -/
def State.sampled (s : State) (n : Nat) (r : Sample) : State :=
  let t := s.writeSample n r
  { t with eng := { t.eng with smpLeft := sparsePut 0 n (s.get F.SMP_CTL.PERIOD n + s.free.toNat % 256) t.eng.smpLeft } }.drawn

theorem exec_sampleTaken (hn : n < 32) (hperiod : s.get F.SMP_CTL.PERIOD n ≠ 0) (htenant : r.tenantAsid = false) :
    exec (.sampleTaken n r) s = .next (s.sampled n r) := congrArg Host.Outcome.next (if_pos ⟨hn, hperiod, .inl htenant⟩)

theorem sampled_left (s : State) (n : Nat) (r : Sample) : sparseGet 0 n (s.sampled n r).eng.smpLeft = s.get F.SMP_CTL.PERIOD n + s.free.toNat % 256 :=
  (sparseGet_put 0 n n _ _).trans (if_pos rfl)

/-- The ring has room: the sample is stored at HEAD. -/
theorem writeSample_room (hroom : (s.get F.SMP_HEAD.INDEX n + 1) % s.ringSize n ≠ s.get F.SMP_TAIL.INDEX n) :
    s.writeSample n r = (s.store (s.get F.SMP_BASE.ADDR n + 32 * s.get F.SMP_HEAD.INDEX n) (r.bytes n s.dev.timeNs)).set F.SMP_HEAD.INDEX
      ((s.get F.SMP_HEAD.INDEX n + 1) % s.ringSize n) n := if_neg hroom

/-- It has none: the sample is dropped. -/
theorem writeSample_full (hfull : (s.get F.SMP_HEAD.INDEX n + 1) % s.ringSize n = s.get F.SMP_TAIL.INDEX n) :
    s.writeSample n r = (s.bump F.SMP_DROP.COUNT n).raiseLimited 0x481 := if_pos hfull

/-- An index below the size of a ring fits its field. -/
theorem ringIndex_fits (hsize : s.get F.SMP_CTL.SIZE_LOG2 n ≤ 25) (k : Nat) : k % s.ringSize n < 2 ^ 25 :=
  (Nat.mod_lt _ (Nat.two_pow_pos _)).trans_le (Nat.pow_le_pow_right (by decide) hsize)

theorem writeSample_mem (hclean : s.poison = []) (hroom : (s.get F.SMP_HEAD.INDEX n + 1) % s.ringSize n ≠ s.get F.SMP_TAIL.INDEX n) :
    (s.writeSample n r).mem = (s.memWrite (s.get F.SMP_BASE.ADDR n + 32 * s.get F.SMP_HEAD.INDEX n) (r.bytes n s.dev.timeNs)).mem := by
  rw [writeSample_room hroom]
  exact store_mem s hclean _ _

/-- DROP counts, HEAD stays: fields of two registers of one engine, and neither is event status. -/
theorem writeSample_dropped (hfull : (s.get F.SMP_HEAD.INDEX n + 1) % s.ringSize n = s.get F.SMP_TAIL.INDEX n) :
    (s.writeSample n r).get F.SMP_HEAD.INDEX n = s.get F.SMP_HEAD.INDEX n ∧ (s.writeSample n r).get F.SMP_DROP.COUNT n = satIncr32 (s.get F.SMP_DROP.COUNT n) % 2 ^ 32 := by
  rw [writeSample_full hfull]
  constructor
  · rw [get_raiseLimited _ _ _ _ _ (key_ne_of_at (by simp only [Fld.at, F.EVT_STATUS.STATUS, F.SMP_HEAD.INDEX]; omega) (by decide) (by decide)),
      get_bump_other _ _ _ _ _ _ _ (key_ne_of_at (by simp only [Fld.at, F.SMP_DROP.COUNT, F.SMP_HEAD.INDEX]; omega) (by decide) (by decide))]
  · rw [get_raiseLimited _ _ _ _ _ (key_ne_of_at (by simp only [Fld.at, F.EVT_STATUS.STATUS, F.SMP_DROP.COUNT]; omega) (by decide) (by decide)), get_bump_same]
    rfl

/-! ## Rings (R511, R513) -/

theorem exec_ringReset {src : Src} (hn : n < 32) (hg : s.gate src (F.SMP_CTL.PERIOD.at n 0) = .pass) (wr : SmpWrite) :
    exec (.smpRingReset src n wr) s = .next (match wr with
      | .base a => (s.set F.SMP_BASE.ADDR a n).ringEmpty n
      | .ctl tenant size period =>
        let s := (s.setFlag F.SMP_CTL.TENANT tenant n).set F.SMP_CTL.PERIOD (storedPeriod period) n
        if 7 ≤ size ∧ size ≤ 25 then (s.set F.SMP_CTL.SIZE_LOG2 size n).ringEmpty n else s.ledger 0x0501 22 0) := by
  refine congrArg Host.Outcome.next ((if_pos hn).trans ((busWrite_of_pass hg _).trans ?_))
  cases wr <;> rfl

theorem ringEmpty_indices (s : State) (n : Nat) : (s.ringEmpty n).get F.SMP_HEAD.INDEX n = 0 ∧ (s.ringEmpty n).get F.SMP_TAIL.INDEX n = 0 := by
  unfold State.ringEmpty
  rw [get_set_other _ _ _ _ _ _ _ _ (key_ne_of_at (by simp only [Fld.at, F.SMP_TAIL.INDEX, F.SMP_HEAD.INDEX]; omega) (by decide) (by decide)), get_set_same, get_set_same]
  exact ⟨rfl, rfl⟩

/-- Emptying a ring leaves the registers before its indices. -/
theorem ringEmpty_get (s : State) (n : Nat) (g : Fld) (hst : g.st1 = 0x20) (hoff : g.off = 0x584000 ∨ g.off = 0x584008) (hlo : g.lo < 64) :
    (s.ringEmpty n).get g n = s.get g n := by
  unfold State.ringEmpty
  rw [get_set_other _ _ _ _ _ _ _ _ (key_ne_of_at (by simp only [Fld.at, F.SMP_TAIL.INDEX, hst]; omega) (by decide) hlo),
    get_set_other _ _ _ _ _ _ _ _ (key_ne_of_at (by simp only [Fld.at, F.SMP_HEAD.INDEX, hst]; omega) (by decide) hlo)]

theorem storedPeriod_fits {p : Nat} (hp : p < 2 ^ 24) : storedPeriod p % 2 ^ 24 = if 1 ≤ p ∧ p ≤ 1023 then 1024 else p := by
  unfold storedPeriod
  split
  · rfl
  · exact Nat.mod_eq_of_lt hp

/-- No register of an engine's sampling is the Ledger's. -/
theorem sampling_not_ledger (g : Fld) (hn : n < 32) (hst : g.st1 = 0x20) (hoff : 0x584000 ≤ g.off ∧ g.off ≤ 0x584018) (hlo : g.lo < 64) : g.key n 0 ∉ ledgerKeys := by
  simp only [ledgerKeys, List.mem_cons, List.not_mem_nil, or_false, not_or, Fld.key, Fld.at, hst, F.LDG_STATUS.HEAD, F.LDG_STATUS.FROZEN, F.LDG_STATUS.TAIL_LEFT, F.LDG_SEQ.NEXT,
    F.LDG_LOST.COUNT, F.LDG_SUPPRESSED.COUNT, F.EVT_STATUS.STATUS]
  omega

end

/-! ## The freeze of the Ledger (R514, R518) -/

theorem mem_sparseInsert_self {α : Type} (k : Nat) (v : α) (l : List (Nat × α)) : (k, v) ∈ sparseInsert k v l := by
  induction l with
  | nil => exact List.mem_cons_self
  | cons x l ih =>
    obtain ⟨k', v'⟩ := x
    unfold sparseInsert
    split
    · exact List.mem_cons_self
    · split
      · exact List.mem_cons_self
      · exact List.mem_cons_of_mem _ ih

section
variable {s : State}

theorem freezeLedger_freezes (h : s.flag F.LDG_STATUS.FROZEN = false) :
    s.freezeLedger.flag F.LDG_STATUS.FROZEN = true ∧ s.freezeLedger.get F.LDG_STATUS.TAIL_LEFT = 1024 ∧ Raised s.freezeLedger 0x482 ∧ s.freezeLedger.led = s.led := by
  unfold State.freezeLedger
  rw [h]
  refine ⟨?_, ?_, raise_bit _ 0x482, raise_led ..⟩
  · unfold State.flag
    simp only [Bool.false_eq_true, if_false]
    rw [get_raise _ _ _ _ _ (by decide), get_set_apart _ _ _ _ _ _ _ _ (by decide)]
    exact flag_setFlag_same _ _ _ _ _ rfl
  · simp only [Bool.false_eq_true, if_false]
    rw [get_raise _ _ _ _ _ (by decide), get_set_same]
    rfl

/-- A record that a frozen Ledger has no room for is counted lost. -/
theorem ledger_lost {code island source : Nat} {detail : List Byte} (hfrozen : s.flag F.LDG_STATUS.FROZEN = true) (hleft : s.get F.LDG_STATUS.TAIL_LEFT = 0) :
    s.ledger code island source detail = s.ledgerLost := if_pos ⟨hfrozen, hleft⟩

theorem ledgerLost_fields (s : State) : s.ledgerLost.flag F.LDG_STATUS.FROZEN = s.flag F.LDG_STATUS.FROZEN ∧ s.ledgerLost.led = s.led ∧
    s.ledgerLost.get F.LDG_LOST.COUNT = satIncr32 (s.get F.LDG_LOST.COUNT) % 2 ^ 32 := by
  unfold State.ledgerLost State.flag
  refine ⟨?_, raiseLimited_led .., ?_⟩
  · rw [get_raiseLimited _ _ _ _ _ (by decide), get_bump_other _ _ _ _ _ _ _ (by decide)]
  · rw [get_raiseLimited _ _ _ _ _ (by decide), get_bump_same]
    rfl

/-- The record that the Ledger writes next. -/
def State.nextRecord (s : State) (code island source : Nat) : LedgerRec :=
  ⟨s.dev.timeNs, s.dev.curStep, s.get F.LDG_SEQ.NEXT, code, severityOf code (s.get F.LDG_SEQ.NEXT), island, source, 0, (zeroBytes 24).take 24⟩

/-- That record in its slot, of a Ledger that is frozen with k more records left. -/
def State.tailStored (s : State) (code island source k : Nat) : State := (s.ledgerStore (s.nextRecord code island source)).set F.LDG_STATUS.TAIL_LEFT k

theorem ledger_tail {code island source k : Nat} (hfrozen : s.flag F.LDG_STATUS.FROZEN = true) (hleft : s.get F.LDG_STATUS.TAIL_LEFT = k + 1) :
    s.ledger code island source = (if severityOf code (s.get F.LDG_SEQ.NEXT) = 2 then (s.tailStored code island source k).raiseLimited 0x484 else s.tailStored code island source k) := by
  unfold State.ledger State.ledgerWrite
  simp only [hfrozen, hleft, if_true, Nat.add_sub_cancel]
  rw [if_neg (fun h => Nat.succ_ne_zero k h.2)]
  rfl

theorem tailStored_fields (s : State) (code island source : Nat) {k : Nat} (hk : k < 1024) :
    (s.tailStored code island source k).get F.LDG_STATUS.TAIL_LEFT = k ∧ (s.tailStored code island source k).get F.LDG_STATUS.HEAD = (s.get F.LDG_STATUS.HEAD + 1) % 65536 ∧
      (s.tailStored code island source k).get F.LDG_SEQ.NEXT = (s.get F.LDG_SEQ.NEXT + 1) % 2 ^ 64 := by
  unfold State.tailStored State.ledgerStore
  refine ⟨(get_set_same ..).trans (Nat.mod_eq_of_lt (show k < 2 ^ 11 by omega)), ?_, ?_⟩
  · rw [get_set_other _ _ _ _ _ _ _ _ (by decide), get_set_other _ _ _ _ _ _ _ _ (by decide)]
    exact get_set_same ..
  · rw [get_set_other _ _ _ _ _ _ _ _ (by decide)]
    exact get_set_same ..

theorem mem_tailStored (s : State) (code island source k : Nat) :
    (s.get F.LDG_STATUS.HEAD, s.nextRecord code island source) ∈ (s.tailStored code island source k).led.slots := mem_sparseInsert_self ..

end

/-! ## The rows -/

theorem freeze_row {src : Src} {s : State} (hg : s.gate src (F.LDG_CTL.FREEZE.at 0 0) = .pass) (thawToo : Bool) :
    exec (.ldgFreezeWrite src thawToo) s = .next (if thawToo then s.ledger 0x0501 25 0 else s.freezeLedger) := by
  refine congrArg Host.Outcome.next ((busWrite_of_pass hg _).trans ?_)
  cases thawToo <;> rfl

/-- Settles O56: each row is worked out by the branch that its operands pick, and its fields are read back past the others that it writes. -/
theorem countersSamplesAndLedger : Obligations.CountersSamplesAndLedger := by
  refine ⟨?write, ?access, ?select, fun i w s hi => ⟨addCounter_count w hi, addCounter_overflow w⟩, ?times, ?sample, ?ring, ?freeze, ?thaw⟩
  case write =>
    intro i v src s hi hg
    exact ⟨_, (exec_counterWrite hi _).trans (congrArg _ (busWrite_of_pass hg (State.set · F.SCL_CNT.COUNT v i))), get_set_same ..⟩
  case access =>
    intro i v md mc sc s hi
    have hi' : i < 1024 := by omega
    refine ⟨fun hmd => ⟨_, (exec_counterWrite hi' _).trans (congrArg _ (csrWrite_privileged hi hmd v)), get_set_same ..⟩, ?_, fun h => ?_, fun h => ?_⟩
    · rw [exec_counterWrite hi', csrWrite_user hi]
    · rw [exec_counterWrite hi', csrRead_allowed hi h]
    · rw [exec_counterWrite hi', csrRead_user hi h]
  case select =>
    intro i sel src s hi hg hunit hinst hevent
    obtain ⟨henable, hunit', hinst', hevent', huread, hbad⟩ := selected_fields (s := s) (i := i) sel hunit hinst hevent
    refine ⟨_, exec_selectWrite hi hg sel, henable, hunit', hinst', hevent', selected_count hi sel, fun h => ?_, fun h h0 h12 => ?_, fun h h0 => ?_, fun h h6 h48 h3 => ?_,
      fun h h6 h48 => ?_⟩
    · rw [huread, decide_eq_false (by omega), Bool.and_false]
    · simp [hbad, selectionValid, h, h0, h12]
    · simp [hbad, selectionValid, h, h0]
    · simp [hbad, selectionValid, show ¬ i < 256 by omega, h6, h48, h3]
    · simp [hbad, selectionValid, show ¬ i < 256 by omega, h6, show ¬ sel.inst < 48 by omega]
  case times =>
    intro s hrun
    exact ⟨fun hstop => ⟨_, rfl, rfl, scalerOn_at_start hrun hstop⟩, fun hstop => ⟨_, rfl, rfl, scalerOff_at_stop hstop⟩⟩
  case sample =>
    intro n r s hn
    refine ⟨exec_sampleTaken_none, fun hperiod htenant hclean hsize => ⟨fun hroom => ?_, fun hfull => ?_⟩⟩
    · have hmem : (s.sampled n r).mem = _ := writeSample_mem (r := r) hclean hroom
      have hread := memRead_memWrite s (s.get F.SMP_BASE.ADDR n + 32 * s.get F.SMP_HEAD.INDEX n) (r.bytes n s.dev.timeNs)
      rw [r.length_bytes] at hread
      refine ⟨_, s.free.toNat % 256, exec_sampleTaken hn hperiod htenant, (memRead_of_mem hmem _ _).trans hread, fun b hb => ?_, ?_, Nat.mod_lt _ (by decide), sampled_left s n r⟩
      · exact (memByte_of_mem hmem b).trans (memByte_memWrite_outside s _ _ (by rwa [r.length_bytes]))
      · change (s.writeSample n r).get F.SMP_HEAD.INDEX n = _
        rw [writeSample_room hroom]
        exact get_set_of_lt rfl (ringIndex_fits hsize _) _ _ _
    · obtain ⟨hhead, hdrop⟩ := writeSample_dropped (r := r) hfull
      refine ⟨_, exec_sampleTaken hn hperiod htenant, ?_, hhead, hdrop⟩
      change (s.writeSample n r).mem = s.mem
      rw [writeSample_full hfull, raiseLimited_mem]
      rfl
  case ring =>
    intro n src s hn hg
    refine ⟨fun a => ?_, fun tn size period hperiod => ?_⟩
    · obtain ⟨hhead, htail⟩ := ringEmpty_indices (s.set F.SMP_BASE.ADDR a n) n
      exact ⟨_, exec_ringReset hn hg _, (ringEmpty_get _ n _ rfl (.inr rfl) (by decide)).trans (get_set_same ..), hhead, htail⟩
    · generalize hu : (s.setFlag F.SMP_CTL.TENANT tn n).set F.SMP_CTL.PERIOD (storedPeriod period) n = u
      have hutenant : u.get F.SMP_CTL.TENANT n = (if tn then 1 else 0) % 2 ^ 1 := by
        rw [← hu, get_set_apart _ _ _ _ _ _ _ _ (by decide)]
        exact get_set_same ..
      have huperiod : u.get F.SMP_CTL.PERIOD n = storedPeriod period % 2 ^ 24 := by
        rw [← hu]
        exact get_set_same ..
      refine ⟨_, exec_ringReset hn hg _, ?_⟩
      dsimp only
      rw [hu]
      by_cases hsize : 7 ≤ size ∧ size ≤ 25
      · obtain ⟨hhead, htail⟩ := ringEmpty_indices (u.set F.SMP_CTL.SIZE_LOG2 size n) n
        rw [if_pos hsize]
        refine ⟨?_, ?_, fun _ => ⟨?_, hhead, htail⟩, fun h => absurd hsize.2 (by omega)⟩
        · unfold State.flag
          rw [ringEmpty_get _ n _ rfl (.inl rfl) (by decide), get_set_apart _ _ _ _ _ _ _ _ (by decide), hutenant]
          exact bit_eq_one tn
        · rw [ringEmpty_get _ n _ rfl (.inl rfl) (by decide), get_set_apart _ _ _ _ _ _ _ _ (by decide), huperiod]
          exact storedPeriod_fits hperiod
        · rw [ringEmpty_get _ n _ rfl (.inl rfl) (by decide)]
          exact get_set_of_lt rfl (show size < 2 ^ 5 by omega) _ _ _
      · have hledger (g : Fld) (hst : g.st1 = 0x20) (hoff : 0x584000 ≤ g.off ∧ g.off ≤ 0x584018) (hlo : g.lo < 64) : (u.ledger 0x0501 22 0).get g n = u.get g n :=
          get_ledger _ _ _ _ _ _ _ _ (sampling_not_ledger g hn hst hoff hlo)
        rw [if_neg hsize]
        refine ⟨?_, ?_, fun h => absurd h hsize, fun _ => ⟨?_, ?_⟩⟩
        · unfold State.flag
          rw [hledger _ rfl (by decide) (by decide), hutenant]
          exact bit_eq_one tn
        · rw [hledger _ rfl (by decide) (by decide), huperiod]
          exact storedPeriod_fits hperiod
        · rw [hledger _ rfl (by decide) (by decide), ← hu, get_set_apart _ _ _ _ _ _ _ _ (by decide)]
          exact get_set_apart _ _ _ _ _ _ _ _ (by decide)
        · rw [hledger _ rfl (by decide) (by decide), ← hu,
            get_set_other _ _ _ _ _ _ _ _ (key_ne_of_at (by simp only [Fld.at, F.SMP_CTL.PERIOD, F.SMP_HEAD.INDEX]; omega) (by decide) (by decide))]
          exact get_set_apart _ _ _ _ _ _ _ _ (by decide)
  case freeze =>
    intro src s hg
    refine ⟨fun hfrozen => ⟨_, freeze_row hg false, freezeLedger_freezes hfrozen⟩, fun hfrozen hleft => ?_, fun k hfrozen hleft hk => ?_⟩
    · obtain ⟨hflag, hled, hlost⟩ := ledgerLost_fields s
      exact ⟨_, (freeze_row hg true).trans (congrArg _ (ledger_lost hfrozen hleft)), hflag.trans hfrozen, hled, hlost⟩
    · obtain ⟨htail, hhead, hseq⟩ := tailStored_fields s 0x0501 25 0 hk
      have hslot := mem_tailStored s 0x0501 25 0 k
      refine ⟨_, s.nextRecord 0x0501 25 0, (freeze_row hg true).trans (congrArg _ (ledger_tail hfrozen hleft)), ?_⟩
      split
      · rw [get_raiseLimited _ _ _ _ _ (by decide), get_raiseLimited _ _ _ _ _ (by decide), get_raiseLimited _ _ _ _ _ (by decide), raiseLimited_led]
        exact ⟨htail, hslot, rfl, rfl, rfl, rfl, hhead, hseq⟩
      · exact ⟨htail, hslot, rfl, rfl, rfl, rfl, hhead, hseq⟩
  case thaw =>
    intro s hg
    refine ⟨_, congrArg Host.Outcome.next ((busWrite_of_pass hg _).trans (if_pos (.inl rfl))), ?_, ?_, rfl⟩
    · unfold State.flag
      change (((s.setFlag F.LDG_STATUS.FROZEN false).set F.LDG_STATUS.TAIL_LEFT 0).get F.LDG_STATUS.FROZEN == 1) = false
      rw [get_set_apart _ _ _ _ _ _ _ _ (by decide)]
      exact flag_setFlag_same _ _ _ _ _ rfl
    · exact get_set_same (s.setFlag F.LDG_STATUS.FROZEN false) F.LDG_STATUS.TAIL_LEFT 0 0 0

end Sys2Proof.Machine
end

section
/-!
PROOFS. O55 (16_memory_integrity.md, R494 to R500): the jobs of the Locksmith.
-/
namespace Sys2Proof.Machine

/-! ## The end of a job (R497, R500) -/

section
variable (s : State) (result len : Nat)

/-- The registers of a job that has ended, before the count of AUTH_FAIL and LSM_DONE. -/
def State.lsmStatus (s : State) (result len : Nat) : State :=
  let s := ({ s with mi := { s.mi with job := none } }).setFlag F.LSM_STATUS.BUSY false
  ((s.set F.LSM_STATUS.RESULT result).set F.LSM_OUT_LEN.BYTES len).bump F.LSM_JOBS.COUNT

theorem lsmEnd_eq : s.lsmEnd result len = (if result = 1 then (s.lsmStatus result len).bump F.LSM_AUTH_FAIL.COUNT else s.lsmStatus result len).raise 0x3CC := rfl

/-- The fields that the end of a job writes. -/
def lsmEndKeys : List Nat :=
  [F.LSM_STATUS.BUSY.key 0 0, F.LSM_STATUS.RESULT.key 0 0, F.LSM_OUT_LEN.BYTES.key 0 0, F.LSM_JOBS.COUNT.key 0 0, F.LSM_AUTH_FAIL.COUNT.key 0 0, F.EVT_STATUS.STATUS.key 30 0]

theorem lsmEnd_get_status (g : Fld) (hfail : F.LSM_AUTH_FAIL.COUNT.key 0 0 ≠ g.key 0 0) (hstatus : F.EVT_STATUS.STATUS.key 30 0 ≠ g.key 0 0) :
    (s.lsmEnd result len).get g = (s.lsmStatus result len).get g := by
  rw [lsmEnd_eq, get_raise _ 0x3CC _ _ _ hstatus]
  split
  · exact get_bump_other _ _ _ _ _ _ _ hfail
  · rfl

theorem lsmEnd_get_other (g : Fld) (hk : g.key 0 0 ∉ lsmEndKeys) : (s.lsmEnd result len).get g = s.get g := by
  simp only [lsmEndKeys, List.mem_cons, List.not_mem_nil, or_false, not_or] at hk
  obtain ⟨hbusy, hresult, hlen, hjobs, hfail, hstatus⟩ := hk
  rw [lsmEnd_get_status _ _ _ _ (Ne.symm hfail) (Ne.symm hstatus)]
  unfold State.lsmStatus
  rw [get_bump_other _ _ _ _ _ _ _ (Ne.symm hjobs), get_set_other _ _ _ _ _ _ _ _ (Ne.symm hlen), get_set_other _ _ _ _ _ _ _ _ (Ne.symm hresult),
    get_setFlag_other _ _ _ _ _ _ _ _ (Ne.symm hbusy)]
  rfl

theorem lsmEnd_result (h : result < 16) : (s.lsmEnd result len).get F.LSM_STATUS.RESULT = result := by
  rw [lsmEnd_get_status _ _ _ _ (by decide) (by decide)]
  unfold State.lsmStatus
  rw [get_bump_other _ _ _ _ _ _ _ (by decide), get_set_other _ _ _ _ _ _ _ _ (by decide)]
  exact get_set_of_lt rfl h _ _ _

theorem lsmEnd_busy : (s.lsmEnd result len).flag F.LSM_STATUS.BUSY = false := by
  unfold State.flag
  rw [lsmEnd_get_status _ _ _ _ (by decide) (by decide)]
  unfold State.lsmStatus
  rw [get_bump_other _ _ _ _ _ _ _ (by decide), get_set_other _ _ _ _ _ _ _ _ (by decide), get_set_other _ _ _ _ _ _ _ _ (by decide)]
  exact flag_setFlag_same _ _ _ _ _ rfl

theorem lsmEnd_outLen : (s.lsmEnd result len).get F.LSM_OUT_LEN.BYTES = len % 2 ^ 32 := by
  rw [lsmEnd_get_status _ _ _ _ (by decide) (by decide)]
  unfold State.lsmStatus
  rw [get_bump_other _ _ _ _ _ _ _ (by decide)]
  exact get_set_same ..

theorem lsmEnd_jobs : (s.lsmEnd result len).get F.LSM_JOBS.COUNT = satIncr32 (s.get F.LSM_JOBS.COUNT) % 2 ^ 32 := by
  rw [lsmEnd_get_status _ _ _ _ (by decide) (by decide)]
  unfold State.lsmStatus
  rw [get_bump_same, get_set_other _ _ _ _ _ _ _ _ (by decide), get_set_other _ _ _ _ _ _ _ _ (by decide), get_setFlag_other _ _ _ _ _ _ _ _ (by decide)]
  rfl

theorem lsmEnd_authFail : (s.lsmEnd 1 len).get F.LSM_AUTH_FAIL.COUNT = satIncr32 (s.get F.LSM_AUTH_FAIL.COUNT) % 2 ^ 32 := by
  rw [lsmEnd_eq, get_raise _ _ _ _ _ (by decide), if_pos rfl, get_bump_same]
  unfold State.lsmStatus
  rw [get_bump_other _ _ _ _ _ _ _ (by decide), get_set_other _ _ _ _ _ _ _ _ (by decide), get_set_other _ _ _ _ _ _ _ _ (by decide),
    get_setFlag_other _ _ _ _ _ _ _ _ (by decide)]
  rfl

theorem lsmEnd_raised : Raised (s.lsmEnd result len) 0x3CC := raise_bit _ _

theorem lsmEnd_job : (s.lsmEnd result len).mi.job = none := by
  rw [lsmEnd_eq, raise_mi]
  split <;> rfl

theorem lsmEnd_mem : (s.lsmEnd result len).mem = s.mem := by
  rw [lsmEnd_eq, raise_mem]
  split <;> rfl

end

/-! ## Taking a job (R494 to R496) -/

section
variable {s : State} {src : Src} {mode : Mode} {a : Nat}

/-- What a descriptor comes to: its end, or a job. -/
def State.lsmTaken (s : State) (mode : Mode) (d : LsmDesc) : State :=
  match d.fault mode with
  | some r => s.lsmEnd r 0
  | none => s.lsmJob d

theorem exec_lsmStart_service (hg : s.gate .svc (F.LSM_DESC.ADDR.at 0 0) = .pass) : exec (.lsmStart .svc mode a) s = .next (s.ledger 0x0505 21 0) :=
  congrArg Host.Outcome.next ((busWrite_of_pass hg _).trans (if_pos rfl))

theorem exec_lsmStart_busy (hg : s.gate src (F.LSM_DESC.ADDR.at 0 0) = .pass) (hsrc : src ≠ .svc) (hbusy : s.flag F.LSM_STATUS.BUSY = true) :
    exec (.lsmStart src mode a) s = .next (s.bump F.LSM_REFUSED.COUNT) :=
  congrArg Host.Outcome.next ((busWrite_of_pass hg _).trans ((if_neg hsrc).trans (if_pos hbusy)))

theorem exec_lsmStart_idle (hg : s.gate src (F.LSM_DESC.ADDR.at 0 0) = .pass) (ha : a % 64 = 0) (hlt : a < 2 ^ 36) (hsrc : src ≠ .svc)
    (hidle : s.flag F.LSM_STATUS.BUSY = false) (hclean : s.poisonIn a 64 = false) :
    exec (.lsmStart src mode a) s = .next (s.lsmTaken mode (lsmDesc (s.memRead a 64))) := by
  have haddr : a % 2 ^ 36 / 64 * 64 = a := by omega
  refine congrArg Host.Outcome.next ((busWrite_of_pass hg _).trans ((if_neg hsrc).trans ((if_neg (by rw [hidle]; decide)).trans ?_)))
  rw [haddr, if_neg (by rw [hclean]; decide)]
  rfl

theorem lsmTaken_bad {d : LsmDesc} (hbad : d.mode = 0 ∨ 7 < d.mode ∨ d.rsvdSet = true ∨ (d.keyFused = true ∧ mode ≠ .m) ∨ (d.nonceGen = true ∧ (d.mode = 2 ∨ d.mode = 5 ∨ d.mode = 7)) ∨
    16777216 < d.len ∨ 65536 < d.aadLen) : s.lsmTaken mode d = s.lsmEnd 2 0 := by
  have hfault : d.fault mode = some 2 := by
    have hopens : (d.mode = 2 ∨ d.mode = 5 ∨ d.mode = 7) ↔ d.opens = true := by simp [LsmDesc.opens, or_assoc]
    rw [hopens] at hbad
    refine if_pos ?_
    tauto
  unfold State.lsmTaken
  rw [hfault]

/-- A job that has started and has its nonce to ask for, or none. -/
def State.lsmBegun (s : State) (d : LsmDesc) : State := ({ s with mi := { s.mi with job := some ⟨d, false, none⟩ } }).setFlag F.LSM_STATUS.BUSY true

theorem lsmTaken_job {d : LsmDesc} (hgood : d.fault mode = none) : s.lsmTaken mode d = if d.draws then (s.lsmBegun d).askNonce ⟨d, false, none⟩ else s.lsmBegun d := by
  unfold State.lsmTaken
  rw [hgood]
  rfl

theorem lsmBegun_busy (s : State) (d : LsmDesc) : (s.lsmBegun d).flag F.LSM_STATUS.BUSY = true := flag_setFlag_same _ _ _ _ _ rfl

theorem lsmBegun_get (s : State) (d : LsmDesc) (g : Fld) (hk : F.LSM_STATUS.BUSY.key 0 0 ≠ g.key 0 0) : (s.lsmBegun d).get g = s.get g :=
  get_setFlag_other _ _ _ _ _ _ _ _ hk

/-! ## Nonces (R499) -/

/-- The fields that a commit writes. -/
def commitKeys : List Nat := F.STORE_STATUS.BUSY.key 0 0 :: F.STORE_STATUS.RESULT.key 0 0 :: F.EVT_STATUS.STATUS.key 0 0 :: ledgerKeys

theorem commit_get (s : State) (cs : List StoreChange) (g : Fld) (hk : g.key 0 0 ∉ commitKeys) : (s.commit cs).get g = s.get g := by
  simp only [commitKeys, List.mem_cons, not_or] at hk
  obtain ⟨hbusy, hresult, hstatus, hledger⟩ := hk
  unfold State.commit State.startCommit State.refuseCommit
  split
  · rfl
  split
  · rw [get_raise _ 0x00A _ _ _ (Ne.symm hstatus), get_ledger _ _ _ _ _ _ _ _ hledger, get_set_other _ _ _ _ _ _ _ _ (Ne.symm hresult)]
  · exact get_setFlag_other _ _ _ _ _ _ _ _ (Ne.symm hbusy)

theorem commit_mi (s : State) (cs : List StoreChange) : (s.commit cs).mi = s.mi := (keeps_State_commit cs (by decide) (Keeps.refl false 8388711 s)).part .mi (by decide)

theorem raiseCeiling_get (s : State) (g : Fld) (hk : g.key 0 0 ∉ commitKeys) : s.raiseCeiling.get g = s.get g := by
  unfold State.raiseCeiling
  split
  · rfl
  · exact commit_get _ _ g hk

theorem raiseCeiling_job (s : State) : s.raiseCeiling.mi.job = s.mi.job := by
  unfold State.raiseCeiling
  split
  · rfl
  · extract_lets v
    rw [commit_mi]

/-- A ceiling that nobody is raising, with a store that is idle. -/
theorem raiseCeiling_committing (hnone : s.mi.raising = none) (hidle : StoreIdle s) : Committing s.raiseCeiling [.ceiling (s.get F.LSM_CEILING.VALUE + 2 ^ 20)] := by
  unfold State.raiseCeiling
  rw [hnone]
  exact commit_committing (s := { s with mi := { s.mi with raising := some (s.get F.LSM_CEILING.VALUE + ceilingStep) } }) hidle _

theorem takeNonce_job (s : State) (r : LsmRun) : (s.takeNonce r).mi.job = some { r with waits := false, nonce := some (s.get F.LSM_NONCE.VALUE) } := by
  unfold State.takeNonce
  extract_lets v mi t
  split
  · exact raiseCeiling_job t
  · rfl

theorem takeNonce_value (s : State) (r : LsmRun) : (s.takeNonce r).get F.LSM_NONCE.VALUE = (s.get F.LSM_NONCE.VALUE + 1) % 2 ^ 64 := by
  unfold State.takeNonce
  extract_lets v mi t
  have ht : t.get F.LSM_NONCE.VALUE = (s.get F.LSM_NONCE.VALUE + 1) % 2 ^ 64 := get_set_same ..
  split
  · exact (raiseCeiling_get t _ (by decide)).trans ht
  · exact ht

/-- With more than half a step left no ceiling is committed. -/
theorem takeNonce_pat (s : State) (r : LsmRun) (hfar : s.get F.LSM_NONCE.VALUE + 2 ^ 19 + 1 < s.get F.LSM_CEILING.VALUE) : (s.takeNonce r).pat = s.pat := by
  unfold State.takeNonce
  extract_lets v mi t
  have ht : t.get F.LSM_CEILING.VALUE = s.get F.LSM_CEILING.VALUE := get_set_other _ _ _ _ _ _ _ _ (by decide)
  rw [if_neg (by rw [ht]; unfold ceilingStep; omega)]
  rfl

theorem storeIdle_of_fields {s t : State} (h : StoreIdle s) (hpat : t.pat = s.pat) (hpwr : t.pwr = s.pwr)
    (hunusable : t.get F.STORE_STATUS.UNUSABLE = s.get F.STORE_STATUS.UNUSABLE) (hpin : t.get F.PWR_PINS.PWRFAIL = s.get F.PWR_PINS.PWRFAIL) : StoreIdle t := by
  unfold StoreIdle State.storeRefuses State.flag at h ⊢
  rwa [hpat, hpwr, hunusable, hpin]

/-- The first job after a reset: the stored ceiling is the counter, and a new one is being committed. -/
def State.firstNonce (s : State) (r : LsmRun) : State :=
  let t := ({ s with mi := { s.mi with nonceTaken := true } }).set F.LSM_NONCE.VALUE (s.get F.LSM_CEILING.VALUE)
  { t with mi := { t.mi with job := some { r with waits := true } } }

theorem askNonce_first {r : LsmRun} (hfirst : s.mi.nonceTaken = false) (hidle : StoreIdle s) : s.askNonce r = ((s.firstNonce r).raiseCeiling).raise 0x3CD := by
  have hstore : (({ s with mi := { s.mi with nonceTaken := true } }).set F.LSM_NONCE.VALUE (s.get F.LSM_CEILING.VALUE)).storeRefuses = false := by
    have h := hidle.1
    unfold State.storeRefuses at h ⊢
    rwa [get_set_other _ _ _ _ _ _ _ _ (by decide)]
  unfold State.askNonce State.waitNonce
  simp only [hfirst, Bool.not_false, if_true, hstore, Bool.false_eq_true, if_false]
  rfl

theorem askNonce_later {r : LsmRun} (htaken : s.mi.nonceTaken = true) (hlt : s.get F.LSM_NONCE.VALUE < s.get F.LSM_CEILING.VALUE) : s.askNonce r = s.takeNonce r := by
  unfold State.askNonce
  rw [htaken]
  exact if_pos hlt

theorem firstNonce_starts {r : LsmRun} (hraising : s.mi.raising = none) (hidle : StoreIdle s) :
    (((s.firstNonce r).raiseCeiling).raise 0x3CD).mi.job = some { r with waits := true } ∧
      (((s.firstNonce r).raiseCeiling).raise 0x3CD).get F.LSM_NONCE.VALUE = s.get F.LSM_CEILING.VALUE % 2 ^ 64 ∧
      Committing (((s.firstNonce r).raiseCeiling).raise 0x3CD) [.ceiling (s.get F.LSM_CEILING.VALUE + 2 ^ 20)] := by
  have hidle' : StoreIdle (s.firstNonce r) :=
    storeIdle_of_fields hidle rfl rfl (get_set_other _ _ _ _ _ _ _ _ (by decide)) (get_set_other _ _ _ _ _ _ _ _ (by decide))
  have hceiling : (s.firstNonce r).get F.LSM_CEILING.VALUE = s.get F.LSM_CEILING.VALUE := get_set_other _ _ _ _ _ _ _ _ (by decide)
  obtain ⟨hrun, hbusy⟩ := raiseCeiling_committing (s := s.firstNonce r) hraising hidle'
  rw [hceiling] at hrun
  refine ⟨?_, ?_, ?_, ?_⟩
  · rw [raise_mi, raiseCeiling_job]
    rfl
  · rw [get_raise _ _ _ _ _ (by decide), raiseCeiling_get _ _ (by decide)]
    exact get_set_same ..
  · rwa [raise_pat]
  · unfold State.flag at hbusy ⊢
    rwa [get_raise _ _ _ _ _ (by decide)]

/-! ## A job that has its result (R497, R500) -/

variable {r : LsmRun} {res : LsmOut}

/-- What the result of a job that does not wait comes to. -/
def State.lsmResult (s : State) (r : LsmRun) (res : LsmOut) : State :=
  let n := r.desc.outLen res.out.length
  if res.fault then s.lsmEnd 6 0
  else if res.poisoned then ((s.store res.outPa (zeroBytes n)).poisonMet).lsmEnd 7 0
  else if (r.desc.mode = 2 ∨ r.desc.mode = 7) ∧ !res.tagOk then (s.store res.outPa (zeroBytes n)).lsmEnd 1 0
  else if r.desc.mode = 5 ∧ !res.padOk then s.lsmEnd 4 0
  else s.lsmWrite r res

theorem exec_lsmJobDone (hjob : s.mi.job = some r) (hruns : r.waits = false) : exec (.lsmJobDone res) s = .next (s.lsmResult r res) := by
  change execLsmJobDone res s = _
  unfold execLsmJobDone
  simp only [hjob, hruns, Bool.false_eq_true, if_false]
  rfl

theorem outLen_of_le {d : LsmDesc} (h : d.mode ≤ 3) (found : Nat) : d.outLen found = d.len := if_pos h

theorem length_zeroBytes (n : Nat) : (zeroBytes n).length = n := List.length_replicate

/-- Output that is zeroed reads as zeros. -/
theorem memRead_zeroed (hclean : s.poison = []) {t : State} {a n : Nat} (ht : t.mem = (s.store a (zeroBytes n)).mem) : t.memRead a n = zeroBytes n := by
  have h := memRead_memWrite s a (zeroBytes n)
  rw [length_zeroBytes] at h
  rw [memRead_of_mem (ht.trans (store_mem s hclean _ _)), h]

theorem poisonMet_count (s : State) : s.poisonMet.get F.MEM_POISON_READ.COUNT = satIncr32 (s.get F.MEM_POISON_READ.COUNT) % 2 ^ 32 := by
  unfold State.poisonMet
  rw [get_raiseLimited _ _ _ _ _ (by decide)]
  exact get_bump_same ..

theorem poisonMet_mem (s : State) : s.poisonMet.mem = s.mem := raiseLimited_mem ..

/-- A store where nothing is poisoned and no error is armed leaves it so. -/
theorem store_clean (hclean : s.poison = []) (harmed : s.mi.inject = none) (a : Nat) (bs : List Byte) :
    (s.store a bs).poison = [] ∧ (s.store a bs).mi.inject = none ∧ (s.store a bs).dev = s.dev := by
  unfold State.store State.injected State.clearPoisonIn
  simp [hclean, harmed, State.memWrite]

theorem memWrite_mem_congr {t : State} (h : t.mem = s.mem) (a : Nat) (bs : List Byte) : (t.memWrite a bs).mem = (s.memWrite a bs).mem :=
  congrArg (fun m => memPutBytes m a bs) h

/-- Bytes that fill their length are written as they are. -/
theorem take_padded {bs : List Byte} {n : Nat} (h : bs.length = n) (pad : List Byte) : (bs ++ pad).take n = bs := by
  rw [← h, List.take_left']
  rfl

/-- The output, the tag and the nonce of a GCM_ENC job are three stores. -/
theorem lsmWrite_mem_enc {v : Nat} (hclean : s.poison = []) (harmed : s.mi.inject = none) (hmode : r.desc.mode = 1) (hnonce : r.nonce = some v)
    (hlen : res.out.length = r.desc.len) (htag : res.tag.length = 16) :
    (s.lsmWrite r res).mem = (((s.memWrite res.outPa res.out).memWrite res.tagPa res.tag).memWrite res.noncePa (nonceBytes s.dev.fuseLsmId v ++ zeroBytes 4)).mem := by
  obtain ⟨hclean1, harmed1, hdev1⟩ := store_clean hclean harmed res.outPa res.out
  obtain ⟨hclean2, -, hdev2⟩ := store_clean hclean1 harmed1 res.tagPa res.tag
  have hwrite : s.lsmWrite r res = (((s.store res.outPa res.out).store res.tagPa res.tag).store res.noncePa
      (nonceBytes ((s.store res.outPa res.out).store res.tagPa res.tag).dev.fuseLsmId v ++ zeroBytes 4)).lsmEnd 0 r.desc.len := by
    unfold State.lsmWrite
    simp only [hnonce, outLen_of_le (show r.desc.mode ≤ 3 by omega), take_padded hlen, take_padded htag, hmode, if_true, true_or]
    rfl
  rw [hwrite, lsmEnd_mem, hdev2, hdev1, store_mem _ hclean2]
  exact memWrite_mem_congr ((store_mem _ hclean1 _ _).trans (memWrite_mem_congr (store_mem _ hclean _ _) _ _)) _ _

theorem lsmWrite_result : (s.lsmWrite r res).get F.LSM_STATUS.RESULT = 0 := lsmEnd_result _ _ _ (by omega)

/-- A read below a write does not see it. -/
theorem memRead_memWrite_below (a n b : Nat) (bs : List Byte) (h : a + n ≤ b) : (s.memWrite b bs).memRead a n = s.memRead a n := by
  induction n generalizing a with
  | zero => rfl
  | succ n ih => rw [State.memRead, State.memRead, ih _ (by omega), memByte_memWrite_outside _ _ _ (by omega)]

theorem length_nonceBytes (id v : Nat) : (nonceBytes id v ++ zeroBytes 4).length = 16 := by
  simp [nonceBytes, length_leBytes, zeroBytes]

/-- A mode without a tag or nonce stores the output alone. -/
theorem lsmWrite_plain (hmode : r.desc.mode = 3) (hnonce : r.nonce = none) (hlen : res.out.length = r.desc.len) :
    s.lsmWrite r res = (s.store res.outPa res.out).lsmEnd 0 r.desc.len := by
  have htag : ¬ (r.desc.mode = 1 ∨ r.desc.mode = 6) := by omega
  unfold State.lsmWrite
  simp only [hnonce, outLen_of_le (show r.desc.mode ≤ 3 by omega), take_padded hlen, if_neg htag]

/-! ## Waiting for a ceiling (R499) -/

theorem exec_lsmNonceResume_taken (hjob : s.mi.job = some r) (hwaits : r.waits = true) (hraised : s.mi.raising = none) (hlt : s.get F.LSM_NONCE.VALUE < s.get F.LSM_CEILING.VALUE) :
    exec .lsmNonceResume s = .next (s.takeNonce r) := by
  change execLsmNonceResume s = _
  unfold execLsmNonceResume
  simp [hjob, hwaits, hraised, hlt]

theorem exec_lsmNonceResume_refused (hjob : s.mi.job = some r) (hwaits : r.waits = true) (hle : s.get F.LSM_CEILING.VALUE ≤ s.get F.LSM_NONCE.VALUE) (hrefuses : s.storeRefuses = true) :
    exec .lsmNonceResume s = .next (({ s with mi := { s.mi with raising := none } }).lsmEnd 5 0) := by
  change execLsmNonceResume s = _
  unfold execLsmNonceResume
  simp [hjob, hwaits, Nat.not_lt.mpr hle, hrefuses]

end

/-- Settles O55: the clauses go through the three ways a job is taken, `lsmEnd` for its result, and stores where nothing is poisoned. -/
theorem locksmithJobs : Obligations.LocksmithJobs := by
  unfold Obligations.LocksmithJobs
  refine ⟨?_, ?_, ?_⟩
  · intro src md a s hgate halign hlt d
    refine ⟨fun hsvc => ?_, fun hsrc hbusy => exec_lsmStart_busy hgate hsrc hbusy, fun hsrc hidle hclean => ?_⟩
    · subst hsvc
      exact exec_lsmStart_service hgate
    have hexec : exec (.lsmStart src md a) s = .next (s.lsmTaken md d) := exec_lsmStart_idle hgate halign hlt hsrc hidle hclean
    rw [hexec]
    refine ⟨fun hbad => ⟨_, rfl, ?_⟩, fun hgood hgen => ⟨_, rfl, ?_⟩, fun hgood hgen hmode hfirst hraising hstore => ⟨_, rfl, ?_⟩, fun hgood hgen hmode htaken hfar hceil => ⟨_, rfl, ?_⟩⟩
    · rw [lsmTaken_bad hbad]
      exact ⟨lsmEnd_result _ _ _ (by omega), lsmEnd_busy .., lsmEnd_raised .., lsmEnd_jobs ..⟩
    · rw [lsmTaken_job hgood, if_neg (by simp [LsmDesc.draws, hgen])]
      exact ⟨lsmBegun_busy .., rfl, lsmBegun_get _ _ _ (by decide)⟩
    · rw [lsmTaken_job hgood, if_pos (by simp [LsmDesc.draws, hgen, hmode])]
      have hidle' : StoreIdle (s.lsmBegun d) :=
        storeIdle_of_fields hstore rfl rfl (lsmBegun_get _ _ _ (by decide)) (lsmBegun_get _ _ _ (by decide))
      have hceiling : (s.lsmBegun d).get F.LSM_CEILING.VALUE = s.get F.LSM_CEILING.VALUE := lsmBegun_get _ _ _ (by decide)
      obtain ⟨hjob, hvalue, hcommit⟩ := firstNonce_starts (s := s.lsmBegun d) (r := ⟨d, false, none⟩) hraising hidle'
      rw [hceiling] at hvalue hcommit
      rw [askNonce_first (s := s.lsmBegun d) hfirst hidle']
      refine ⟨?_, hjob, hvalue, hcommit, raise_bit _ _⟩
      unfold State.flag
      rw [get_raise _ _ _ _ _ (by decide), raiseCeiling_get _ _ (by decide), State.firstNonce]
      exact (congrArg (· == 1) (get_set_other _ _ _ _ _ _ _ _ (by decide))).trans (lsmBegun_busy s d)
    · rw [lsmTaken_job hgood, if_pos (by simp [LsmDesc.draws, hgen, hmode])]
      have hnonce : (s.lsmBegun d).get F.LSM_NONCE.VALUE = s.get F.LSM_NONCE.VALUE := lsmBegun_get _ _ _ (by decide)
      have hceiling : (s.lsmBegun d).get F.LSM_CEILING.VALUE = s.get F.LSM_CEILING.VALUE := lsmBegun_get _ _ _ (by decide)
      rw [askNonce_later (s := s.lsmBegun d) htaken (by rw [hnonce, hceiling]; omega)]
      refine ⟨by rw [takeNonce_job, hnonce], ?_, takeNonce_pat _ _ (by rw [hnonce, hceiling]; exact hfar)⟩
      rw [takeNonce_value, hnonce]
      omega
  · intro r s hjob hwaits hraising
    refine ⟨fun hlt => ⟨_, exec_lsmNonceResume_taken hjob hwaits hraising hlt, takeNonce_job .., takeNonce_value ..⟩, fun hle hrefuses => ?_⟩
    exact ⟨_, exec_lsmNonceResume_refused hjob hwaits hle hrefuses, lsmEnd_job .., lsmEnd_result _ _ _ (by omega), lsmEnd_raised ..⟩
  · intro r res s hjob hruns hclean harmed
    rw [exec_lsmJobDone hjob hruns]
    unfold State.lsmResult
    refine ⟨fun hfault => ⟨_, rfl, ?_⟩, fun hfault hpoison hmode => ⟨_, rfl, ?_⟩, fun hfault hpoison hmode htag => ⟨_, rfl, ?_⟩, fun hfault hpoison hmode hpad => ⟨_, rfl, ?_⟩,
      fun hfault hpoison hmode hnonce hlen hfits => ⟨_, rfl, ?_⟩, fun v hfault hpoison hmode hnonce hlen htag hsep hsep' => ⟨_, rfl, ?_⟩⟩
    · rw [if_pos hfault]
      exact ⟨lsmEnd_job .., lsmEnd_result _ _ _ (by omega), lsmEnd_busy .., lsmEnd_raised ..⟩
    · rw [if_neg (by rw [hfault]; decide), if_pos hpoison, outLen_of_le hmode]
      refine ⟨lsmEnd_result _ _ _ (by omega), memRead_zeroed hclean ((lsmEnd_mem ..).trans (poisonMet_mem _)), ?_⟩
      rw [lsmEnd_get_other _ _ _ _ (by decide), poisonMet_count, get_of_regs (store_regs ..)]
    · rw [if_neg (by rw [hfault]; decide), if_neg (by rw [hpoison]; decide), if_pos ⟨Or.inl hmode, by rw [htag]; rfl⟩, outLen_of_le (by omega)]
      refine ⟨lsmEnd_result _ _ _ (by omega), memRead_zeroed hclean (lsmEnd_mem ..), ?_⟩
      rw [lsmEnd_authFail, get_of_regs (store_regs ..)]
    · rw [if_neg (by rw [hfault]; decide), if_neg (by rw [hpoison]; decide), if_neg (by omega), if_pos ⟨hmode, by rw [hpad]; rfl⟩]
      exact ⟨lsmEnd_result _ _ _ (by omega), lsmEnd_mem ..⟩
    · rw [if_neg (by rw [hfault]; decide), if_neg (by rw [hpoison]; decide), if_neg (by omega), if_neg (by omega), lsmWrite_plain hmode hnonce hlen]
      have hmem : ((s.store res.outPa res.out).lsmEnd 0 r.desc.len).mem = (s.memWrite res.outPa res.out).mem := (lsmEnd_mem ..).trans (store_mem _ hclean _ _)
      refine ⟨lsmEnd_result _ _ _ (by omega), (lsmEnd_outLen ..).trans (Nat.mod_eq_of_lt hfits), ?_, fun b hb => ?_, lsmEnd_busy .., lsmEnd_job .., lsmEnd_raised ..⟩
      · rw [memRead_of_mem hmem, ← hlen, memRead_memWrite]
      · rw [memByte_of_mem hmem, memByte_memWrite_outside _ _ _ (by rwa [hlen])]
    · rw [if_neg (by rw [hfault]; decide), if_neg (by rw [hpoison]; decide), if_neg (by omega), if_neg (by omega)]
      have hmem := lsmWrite_mem_enc hclean harmed hmode hnonce hlen htag
      refine ⟨lsmWrite_result .., ?_, ?_, ?_⟩
      · rw [memRead_of_mem hmem, memRead_memWrite_below _ _ _ _ (by omega), memRead_memWrite_below _ _ _ _ hsep, ← hlen, memRead_memWrite]
      · rw [memRead_of_mem hmem, memRead_memWrite_below _ _ _ _ hsep', ← htag, memRead_memWrite]
      · rw [memRead_of_mem hmem, ← length_nonceBytes s.dev.fuseLsmId v, memRead_memWrite]

end Sys2Proof.Machine
end

section
/-!
PROOFS. O53 (16_memory_integrity.md, R486, R487, R491, R492): the Cruiser, the ECC log and the repair of step state.
-/
namespace Sys2Proof.Machine

/-! ## The ECC log (R487) -/

section
variable {s : State} {r : EccRec}

/-- What logging an occurrence may write. -/
def logKeys : List Nat := [F.MEM_LOG_STATUS.COUNT.key 0 0, F.MEM_LOG_STATUS.OVERFLOW.key 0 0, F.MEM_LOG_DROP.COUNT.key 0 0, F.EVT_STATUS.STATUS.key 30 0]

theorem logEcc_cases (s : State) (r : EccRec) : (∃ l, s.logEcc r = s.setLog l ∨ s.logEcc r = (s.setLog l).raise 0x3C5) ∨ s.logEcc r = s.bump F.MEM_LOG_DROP.COUNT ∨
    s.logEcc r = s.setFlag F.MEM_LOG_STATUS.OVERFLOW true := by
  unfold State.logEcc State.pushLog
  extract_lets same t
  split
  · exact Or.inl ⟨_, Or.inl rfl⟩
  split
  · split
    · exact Or.inl ⟨_, Or.inr rfl⟩
    · exact Or.inl ⟨_, Or.inl rfl⟩
  split
  · exact Or.inr (Or.inl rfl)
  · split
    · exact Or.inl ⟨_, Or.inl rfl⟩
    · exact Or.inr (Or.inr rfl)

theorem logEcc_get (g : Fld) (hk : g.key 0 0 ∉ logKeys) : (s.logEcc r).get g = s.get g := by
  simp only [logKeys, List.mem_cons, List.not_mem_nil, or_false, not_or] at hk
  obtain ⟨hcount, hover, hdrop, hstatus⟩ := hk
  have hset (l : List EccRec) : (s.setLog l).get g = s.get g := get_set_other _ _ _ _ _ _ _ _ (Ne.symm hcount)
  rcases logEcc_cases s r with ⟨l, h | h⟩ | h | h
  · rw [h, hset]
  · rw [h, get_raise _ 0x3C5 _ _ _ (Ne.symm hstatus), hset]
  · rw [h, get_bump_other _ _ _ _ _ _ _ (Ne.symm hdrop)]
  · rw [h, get_setFlag_other _ _ _ _ _ _ _ _ (Ne.symm hover)]

theorem logEcc_repair (s : State) (r : EccRec) : (s.logEcc r).mi.repair = s.mi.repair := by
  rcases logEcc_cases s r with ⟨l, h | h⟩ | h | h <;> rw [h]
  · rfl
  · rw [raise_mi]
    rfl
  · rfl
  · rfl

theorem logEcc_stepNo (s : State) (r : EccRec) : (s.logEcc r).dev.stepNo = s.dev.stepNo := by
  have hset (l : List EccRec) : Steady s (s.setLog l) := rfl
  rcases logEcc_cases s r with ⟨l, h | h⟩ | h | h <;> rw [h]
  · exact (hset l).stepNo
  · exact ((hset l).raise 0x3C5).stepNo
  · rfl
  · rfl

theorem logEcc_first (hempty : s.mi.log = []) : (s.logEcc r).mi.log = [r] := by
  unfold State.logEcc State.pushLog
  simp [hempty, logLimit, State.setLog]

theorem logEcc_merged {x : EccRec} (hlog : s.mi.log = [x]) (haddr : x.addr = r.addr) (hkind : x.kind = r.kind) (hrecent : r.time < x.time + 1000000000) :
    (s.logEcc r).mi.log = [{ x with count := min 4294967295 (x.count + 1) }] := by
  unfold State.logEcc
  simp [hlog, haddr, hkind, hrecent, State.setLog]

theorem logEcc_full (hfull : 4096 ≤ s.mi.log.length) (hnew : ∀ x ∈ s.mi.log, x.addr ≠ r.addr) (hkind : r.kind = 1) : s.logEcc r = s.bump F.MEM_LOG_DROP.COUNT := by
  have hnone : (s.mi.log.any fun x => x.addr == r.addr && x.kind == r.kind && decide (r.time < x.time + 1000000000)) = false := by
    rw [List.any_eq_false]
    intro x hx
    simp [hnew x hx]
  unfold State.logEcc
  simp only [hnone, Bool.false_eq_true, if_false, if_neg (Nat.not_lt.mpr hfull), logLimit, if_pos hkind]

end

/-! ## A word read by the Cruiser (R492) -/

section
variable {s : State}

theorem exec_cruiserRead_hbm (hpower : s.power ≠ stFallow) (hmarks : s.mi.marks = []) (hclean : s.poisoned (s.get F.CRS_POS_HBM.ADDRESS) = false) (found : EccFinding) (owner : MemUse) :
    exec (.cruiserRead false found owner) s =
      .next (((s.finding (s.get F.CRS_POS_HBM.ADDRESS) found owner).drawn).cruiseOn false (s.get F.CRS_POS_HBM.ADDRESS)) := by
  have hword : s.wordFinding (s.get F.CRS_POS_HBM.ADDRESS) found = found := by
    unfold State.wordFinding
    simp [hmarks, hclean]
  refine congrArg Host.Outcome.next ((if_neg (by simp [hpower])).trans ((if_neg (by simp)).trans ?_))
  exact congrArg (fun f => ((s.finding (s.get F.CRS_POS_HBM.ADDRESS) f owner).drawn).cruiseOn false (s.get F.CRS_POS_HBM.ADDRESS)) hword

theorem cruiseOn_moves {a : Nat} (h : a + 8 < 0xC_0000_0000) : s.cruiseOn false a = s.set F.CRS_POS_HBM.ADDRESS (a + 8) := by
  unfold State.cruiseOn
  simp only [Bool.false_eq_true, if_false, if_neg (Nat.ne_of_lt h)]

theorem cruiseOn_ends {a : Nat} (h : a + 8 = 0xC_0000_0000) : s.cruiseOn false a = (s.set F.CRS_POS_HBM.ADDRESS 0).raise 0x3C8 := by
  unfold State.cruiseOn
  simp only [Bool.false_eq_true, if_false, if_pos h]

/-- The state after a read that is not the last of a pass. -/
theorem exec_cruiserRead_moves (hpower : s.power ≠ stFallow) (hmarks : s.mi.marks = []) (hclean : s.poisoned (s.get F.CRS_POS_HBM.ADDRESS) = false)
    (h : s.get F.CRS_POS_HBM.ADDRESS + 8 < 0xC_0000_0000) (found : EccFinding) (owner : MemUse) :
    exec (.cruiserRead false found owner) s =
      .next (((s.finding (s.get F.CRS_POS_HBM.ADDRESS) found owner).drawn).set F.CRS_POS_HBM.ADDRESS (s.get F.CRS_POS_HBM.ADDRESS + 8)) := by
  rw [exec_cruiserRead_hbm hpower hmarks hclean, cruiseOn_moves h]

/-! ### A corrected word -/

/-- The record of a word that the Cruiser corrects. -/
def State.corrected (s : State) (a y b : Nat) : EccRec :=
  { time := s.dev.timeNs, addr := a, memory := memCode a, kind := 1, source := 2, syndrome := y, bit := b, island := memIsland a, count := 1 }

/-- A corrected word counted and logged. -/
def State.correctedLogged (s : State) (a y b : Nat) : State := ((s.bump F.MEM_CE.COUNT).logEcc (s.corrected a y b)).raiseLimited 0x3C0

/-- A corrected word written back, unless its line has been written. -/
def State.writtenBack (s : State) (a : Nat) (w : Bool) : State :=
  if w then s else ({ s with mi := { s.mi with marks := s.mi.marks.filter (fun m => m.1 != a / 8) } }).bump F.CRS_CORRECTED.COUNT

theorem finding_corrected (a b y : Nat) (w : Bool) (owner : MemUse) : s.finding a (.corrected b y w) owner = ((s.correctedLogged a y b).writtenBack a w).pageWeak a := rfl

theorem pageWeak_log (a : Nat) : (s.pageWeak a).mi.log = s.mi.log := by
  unfold State.pageWeak
  split
  · rfl
  extract_lets now old
  split
  · rw [raise_mi]
  · rfl

theorem pageWeak_get (a : Nat) (g : Fld) (hk : F.EVT_STATUS.STATUS.key 30 0 ≠ g.key 0 0) : (s.pageWeak a).get g = s.get g := by
  unfold State.pageWeak
  split
  · rfl
  extract_lets now old
  split
  · exact get_raise _ 0x3CB _ _ _ hk
  · rfl

theorem writtenBack_log (a : Nat) (w : Bool) : (s.writtenBack a w).mi.log = s.mi.log := by cases w <;> rfl

theorem writtenBack_get (a : Nat) (w : Bool) (g : Fld) (hk : F.CRS_CORRECTED.COUNT.key 0 0 ≠ g.key 0 0) : (s.writtenBack a w).get g = s.get g := by
  cases w
  · exact get_bump_other _ _ _ _ _ _ _ hk
  · rfl

theorem writtenBack_count (a : Nat) (w : Bool) :
    (s.writtenBack a w).get F.CRS_CORRECTED.COUNT = if w then s.get F.CRS_CORRECTED.COUNT else satIncr32 (s.get F.CRS_CORRECTED.COUNT) % 2 ^ 32 := by
  cases w
  · exact get_bump_same ..
  · rfl

theorem finding_corrected_log (a b y : Nat) (w : Bool) (owner : MemUse) :
    (s.finding a (.corrected b y w) owner).mi.log = ((s.bump F.MEM_CE.COUNT).logEcc (s.corrected a y b)).mi.log := by
  rw [finding_corrected, pageWeak_log, writtenBack_log, State.correctedLogged, raiseLimited_mi]

theorem finding_corrected_get (a b y : Nat) (w : Bool) (owner : MemUse) (g : Fld) (hstatus : F.EVT_STATUS.STATUS.key 30 0 ≠ g.key 0 0) (hback : F.CRS_CORRECTED.COUNT.key 0 0 ≠ g.key 0 0) :
    (s.finding a (.corrected b y w) owner).get g = ((s.bump F.MEM_CE.COUNT).logEcc (s.corrected a y b)).get g := by
  rw [finding_corrected, pageWeak_get _ _ hstatus, writtenBack_get _ _ _ hback, State.correctedLogged, get_raiseLimited _ 0x3C0 _ _ _ hstatus]

theorem finding_corrected_ce (a b y : Nat) (w : Bool) (owner : MemUse) :
    (s.finding a (.corrected b y w) owner).get F.MEM_CE.COUNT = satIncr32 (s.get F.MEM_CE.COUNT) % 2 ^ 32 := by
  rw [finding_corrected_get _ _ _ _ _ _ (by decide) (by decide), logEcc_get _ (by decide)]
  exact get_bump_same ..

theorem finding_corrected_back (a b y : Nat) (w : Bool) (owner : MemUse) :
    (s.finding a (.corrected b y w) owner).get F.CRS_CORRECTED.COUNT = if w then s.get F.CRS_CORRECTED.COUNT else satIncr32 (s.get F.CRS_CORRECTED.COUNT) % 2 ^ 32 := by
  have hlogged : (s.correctedLogged a y b).get F.CRS_CORRECTED.COUNT = s.get F.CRS_CORRECTED.COUNT := by
    rw [State.correctedLogged, get_raiseLimited _ 0x3C0 _ _ _ (by decide), logEcc_get _ (by decide)]
    exact get_bump_other _ _ _ _ _ _ _ (by decide)
  rw [finding_corrected, pageWeak_get _ _ (by decide), writtenBack_count, hlogged]

/-! ### An uncorrectable word -/

/-- An uncorrectable word counted, logged, raised and poisoned. -/
def State.uncorrected (s : State) (a y : Nat) : State :=
  let u := ((s.bump F.MEM_UE.COUNT).logEcc { s.corrected a y 0xFF with kind := 2 }).raise 0x3C1
  ({ u with mi := { u.mi with marks := u.mi.marks.filter (fun m => m.1 != a / 8) } }).setPoison a

theorem finding_uncorrectable (a y : Nat) (owner : MemUse) : s.finding a (.uncorrectable y) owner = (s.uncorrected a y).stepPoison a owner := rfl

theorem mem_insertNat (n : Nat) (l : List Nat) : n ∈ insertNat n l := by
  induction l with
  | nil => exact List.mem_singleton.mpr rfl
  | cons m l ih =>
    unfold insertNat
    split
    · exact List.mem_cons_self
    split
    · simp [*]
    · exact List.mem_cons_of_mem _ ih

theorem uncorrected_poisoned (a y : Nat) : (s.uncorrected a y).poisoned a = true := List.contains_iff_mem.mpr (mem_insertNat _ _)

theorem uncorrected_raised (a y : Nat) : Raised (s.uncorrected a y) 0x3C1 := raise_bit _ _

theorem uncorrected_get (a y : Nat) (g : Fld) (hstatus : F.EVT_STATUS.STATUS.key 30 0 ≠ g.key 0 0) (hlog : g.key 0 0 ∉ logKeys) :
    (s.uncorrected a y).get g = (s.bump F.MEM_UE.COUNT).get g := (get_raise _ 0x3C1 _ _ _ hstatus).trans (logEcc_get g hlog)

theorem uncorrected_out (a y : Nat) : ∃ l, (s.uncorrected a y).out = l ++ s.out :=
  (keeps_State_raise (AK := 9437219) 0x3C1 rfl (keeps_State_logEcc _ rfl (Keeps.refl false _ (s.bump F.MEM_UE.COUNT)))).out

theorem uncorrected_repair (a y : Nat) : (s.uncorrected a y).mi.repair = s.mi.repair :=
  (congrArg Mi.repair (raise_mi _ _)).trans (logEcc_repair _ _)

theorem uncorrected_stepNo (a y : Nat) : (s.uncorrected a y).dev.stepNo = s.dev.stepNo :=
  (Steady.raise (Steady.refl _) 0x3C1).stepNo.trans (logEcc_stepNo _ _)

/-- The leader asks for a granule that it has not asked for. -/
theorem stepPoison_asks {a : Nat} {owner : MemUse} (howner : owner ≠ .localState) (hrole : s.role = roleLeader) (hnew : a / 4096 ∉ s.mi.repair) :
    s.stepPoison a owner = ({ s with mi := { s.mi with repair := s.mi.repair ++ [a / 4096] } }).emit (.repairRequest (a / 4096) s.dev.stepNo) := by
  unfold State.stepPoison
  rw [if_neg howner, if_pos hrole, if_neg (by simpa using hnew)]

theorem finding_localState (a y : Nat) : s.finding a (.uncorrectable y) .localState = s.uncorrected a y := by
  rw [finding_uncorrectable]
  unfold State.stepPoison
  rw [if_pos rfl]

/-- An uncorrectable word of step state at the leader, which has asked for its granule. -/
def State.asked (s : State) (a y : Nat) : State :=
  ({ s.uncorrected a y with mi := { (s.uncorrected a y).mi with repair := s.mi.repair ++ [a / 4096] } }).emit (.repairRequest (a / 4096) s.dev.stepNo)

theorem finding_leader {a : Nat} {owner : MemUse} (howner : owner ≠ .localState) (hrole : s.role = roleLeader) (hnew : a / 4096 ∉ s.mi.repair) (y : Nat) :
    s.finding a (.uncorrectable y) owner = s.asked a y := by
  have hrole' : (s.uncorrected a y).role = roleLeader := (uncorrected_get _ _ _ (by decide) (by decide)).trans ((get_bump_other _ _ _ _ _ _ _ (by decide)).trans hrole)
  rw [finding_uncorrectable, stepPoison_asks howner hrole' (by rwa [uncorrected_repair]), uncorrected_repair, uncorrected_stepNo]
  rfl

/-- What a read leaves of the state that its finding comes to. -/
theorem afterRead_get (u : State) (v : Nat) (g : Fld) (n : Nat) (hk : F.CRS_POS_HBM.ADDRESS.key 0 0 ≠ g.key n 0) :
    ((u.drawn).set F.CRS_POS_HBM.ADDRESS v).get g n = u.get g n := get_set_other _ _ _ _ _ _ _ _ hk

theorem afterRead_parts (u : State) (v a : Nat) : ((u.drawn).set F.CRS_POS_HBM.ADDRESS v).poisoned a = u.poisoned a ∧ ((u.drawn).set F.CRS_POS_HBM.ADDRESS v).mi = u.mi ∧
    ((u.drawn).set F.CRS_POS_HBM.ADDRESS v).out = u.out := ⟨rfl, rfl, rfl⟩

variable (s)

theorem uncorrected_afterRead (a y : Nat) :
    (((s.uncorrected a y).drawn).set F.CRS_POS_HBM.ADDRESS (a + 8)).poisoned a = true ∧ Raised (((s.uncorrected a y).drawn).set F.CRS_POS_HBM.ADDRESS (a + 8)) 0x3C1 ∧
      (((s.uncorrected a y).drawn).set F.CRS_POS_HBM.ADDRESS (a + 8)).get F.MEM_UE.COUNT = satIncr32 (s.get F.MEM_UE.COUNT) % 2 ^ 32 := by
  refine ⟨(afterRead_parts ..).1.trans (uncorrected_poisoned a y), ?_, ?_⟩
  · unfold Raised
    rw [afterRead_get _ _ _ _ (by decide)]
    exact uncorrected_raised a y
  · rw [afterRead_get _ _ _ _ (by decide), uncorrected_get _ _ _ (by decide) (by decide)]
    exact get_bump_same ..

theorem asked_afterRead (a y : Nat) :
    (((s.asked a y).drawn).set F.CRS_POS_HBM.ADDRESS (a + 8)).mi.repair = s.mi.repair ++ [a / 4096] ∧
      Emitted s (((s.asked a y).drawn).set F.CRS_POS_HBM.ADDRESS (a + 8)) (.repairRequest (a / 4096) s.dev.stepNo) := by
  obtain ⟨-, hmi, hout⟩ := afterRead_parts (s.asked a y) (a + 8) a
  obtain ⟨l, hl⟩ := uncorrected_out (s := s) a y
  rw [hmi]
  refine ⟨rfl, .repairRequest (a / 4096) s.dev.stepNo :: l, ?_, List.mem_cons_self⟩
  rw [hout]
  exact congrArg (_ :: ·) hl

end

/-! ## Step state without a good copy (R486, R531)

The event that reports it is still raised after the fatal stop. -/

section
variable {s t : State}

theorem guarded_nil : Guarded [] := ⟨by simp, by simp⟩

/-- A register before the event matrix, of one copy, is no event status. -/
theorem Spares.setBefore (h : Spares [] s t) (f : Fld) (v : Nat) (hoff : f.off < 0x20000) (hlo : f.lo < 64) : Spares [] s (t.set f v) := by
  refine h.trans ⟨fun g m n hk => absurd hk (by simp), fun n _ i _ hb => ?_⟩
  have hkey : f.key 0 0 ≠ F.EVT_STATUS.STATUS.key n 0 := by
    simp only [Fld.key, Fld.at, F.EVT_STATUS.STATUS]
    omega
  rwa [get_set_other _ _ _ _ _ _ _ _ hkey]

theorem Spares.bridgeFault (h : Spares [] s t) (island cause : Nat) : Spares [] s (t.bridgeFault island cause) := by
  unfold State.bridgeFault
  refine Spares.raise guarded_nil (Spares.ite ?_ ?_) 1
  · exact h.setBefore _ _ (by decide) (by decide)
  · exact (((h.setBefore F.GLB_BRIDGE_FAULT.VALID _ (by decide) (by decide)).setBefore _ _ (by decide) (by decide)).setBefore _ _ (by decide) (by decide)).setBefore _ _ (by decide) (by decide)

theorem Spares.failMigs (h : Spares [] s t) : Spares [] s t.failMigs := by
  unfold State.failMigs
  refine Spares.ite (h.of_regs rfl) (Spares.raise guarded_nil ?_ _)
  exact h.of_regs rfl

theorem Spares.beginDump (h : Spares [] s t) : Spares [] s t.beginDump := by
  refine h.ite (Spares.of_regs (Spares.failMigs ?_) rfl)
  exact h.of_regs rfl

theorem Spares.fatalDump (h : Spares [] s t) : Spares [] s t.fatalDump := by
  unfold State.fatalDump
  cases t.role == roleAlone && t.unsavedData
  · exact h
  · cases t.dev.faulted.any (fun i => dumpIslands.contains i)
    · exact Spares.beginDump (h.keeps (keeps_State_noRetire rfl (Keeps.refl false 32768 t)) (by decide))
    · exact h.set _ _ _ _ (by decide) (by simp)

theorem Spares.fatalStop (h : Spares [] s t) : Spares [] s t.fatalStop := by
  refine Spares.set ?_ _ _ _ _ (by decide) (by simp)
  exact h.of_regs rfl

theorem Spares.fatalPins (h : Spares [] s t) : Spares [] s t.fatalPins := by
  have hfault : Spares [] s (t.setFlag F.WSW_STATUS.FAULT_OUT true) := h.set _ _ _ _ (by decide) (by simp)
  unfold State.fatalPins
  cases waveOf t.role != 0
  · exact hfault.of_regs rfl
  · exact hfault.of_regs rfl

theorem Spares.dropUnissued (h : Spares [] s t) : Spares [] s t.dropUnissued := h.keeps (keeps_State_dropUnissued rfl (Keeps.refl false 74752 t)) (by decide)

theorem Spares.cond {u : State} (h : Spares [] s t) (h' : Spares [] s u) (b : Bool) : Spares [] s (bif b then t else u) := by
  cases b <;> assumption

theorem Spares.fatal (h : Spares [] s t) (island : Nat) : Spares [] s (t.fatal island) := by
  have hstop := (((h.raise guarded_nil 0x000).ledger guarded_nil 0x000 island 0 []).freezeLedger guarded_nil).fatalStop
  exact h.cond (Spares.fatalDump (Spares.dropUnissued (hstop.cond hstop.fatalPins _))) _

theorem noGoodCopy_raised (a : Nat) : Raised (s.noGoodCopy a) 0x3C4 :=
  Spares.raised (by omega) (((Spares.refl [] (s.raise 0x3C4)).bridgeFault _ _).fatal _)

theorem noGoodCopy_parts (a : Nat) : (s.noGoodCopy a).mem = s.mem ∧ (s.noGoodCopy a).mi = s.mi :=
  have hkeeps := keeps_State_noGoodCopy a rfl (Keeps.refl false 9023075 s)
  ⟨hkeeps.part .mem (by decide), hkeeps.part .mi (by decide)⟩

end

/-! ## The repair of step state (R486) -/

section
variable {s : State} {g : Nat}

/-- The state once a copy of a granule has been taken off the list of requests. -/
def State.repairTaken (s : State) (g : Nat) : State := { s with mi := { s.mi with repair := s.mi.repair.erase g } }

/-- A good copy of a granule, installed. -/
def State.installed (s : State) (g : Nat) (bytes : List Byte) : State := (((s.repairTaken g).store (4096 * g) bytes).bump F.MEM_REPAIR.COUNT).raise 0x3C3

theorem exec_repairGranuleRx_good (hasked : g ∈ s.mi.repair) {bytes : List Byte} (hlen : bytes.length = 4096) :
    exec (.repairGranuleRx g bytes false) s = .next (s.installed g bytes) := by
  refine congrArg Host.Outcome.next ((if_pos (by simpa using hasked)).trans ((if_neg (by decide)).trans ?_))
  rw [take_padded hlen]
  rfl

theorem exec_repairGranuleRx_poisoned (hasked : g ∈ s.mi.repair) (bytes : List Byte) :
    exec (.repairGranuleRx g bytes true) s = .next ((s.repairTaken g).noGoodCopy (4096 * g)) :=
  congrArg Host.Outcome.next ((if_pos (by simpa using hasked)).trans (if_pos rfl))

theorem injected_of_none (harmed : s.mi.inject = none) (a n : Nat) : s.injected a n = s := by
  unfold State.injected
  rw [harmed]

/-- The store of a whole granule where its first word alone is poisoned writes it, and clears the poison. -/
theorem store_granule (hpoison : s.poison = [4096 * g / 8]) (harmed : s.mi.inject = none) {bytes : List Byte} (hlen : bytes.length = 4096) :
    (s.store (4096 * g) bytes).mem = (s.memWrite (4096 * g) bytes).mem ∧ (s.store (4096 * g) bytes).poison = [] ∧ (s.store (4096 * g) bytes).mi.repair = s.mi.repair := by
  have hin : 4096 * g ≤ 8 * (4096 * g / 8) ∧ 8 * (4096 * g / 8) + 8 ≤ 4096 * g + 4096 ∧ (4096 * g + 7) / 8 ≤ 4096 * g / 8 ∧ 4096 * g / 8 < (4096 * g + 4096) / 8 := by omega
  generalize 4096 * g / 8 = w at hpoison hin
  obtain ⟨hlow, hhigh, hcleared, hcleared'⟩ := hin
  unfold State.store
  extract_lets n whole lost u
  have hlost : lost.isEmpty = true := by
    have hwhole : whole w = true := by simpa [whole, n, hlen, hlow] using hhigh
    simp [lost, hpoison, hwhole]
  have hu : u = s.memWrite (4096 * g) bytes := if_pos hlost
  clear_value u
  subst hu
  rw [injected_of_none]
  case harmed => exact harmed
  refine ⟨rfl, List.filter_eq_nil_iff.mpr (fun x hx => ?_), rfl⟩
  obtain rfl : x = w := List.mem_singleton.mp (hpoison ▸ hx)
  simp [n, hlen, hcleared, hcleared']

theorem sendRepair_emits {u : State} (hmem : u.mem = s.mem) (hpoison : u.poison = s.poison) (hout : u.out = s.out) :
    Emitted s (u.sendRepair g) (.repairGranule g (s.memRead (4096 * g) 4096) (s.poisonIn (4096 * g) 4096)) := by
  refine ⟨[_], congrArg (_ :: ·) hout, List.mem_singleton.mpr ?_⟩
  rw [memRead_of_mem hmem, State.poisonIn, State.poisonIn, hpoison]

/-- What a request for a granule comes to whose step has been consumed, and what it comes to before that. -/
theorem exec_repairRequestRx {step : Nat} (hrole : s.role = roleFollower) (hnone : s.mi.repairWaits = []) :
    exec (.repairRequestRx g step) s = .next (if step ≤ s.dev.stepNo then ({ s with mi := { s.mi with repairWaits := [] } }).sendRepair g
      else { s with mi := { s.mi with repairWaits := [(g, step)] } }) := by
  refine congrArg Host.Outcome.next ((if_pos hrole).trans ?_)
  unfold State.serveRepairs
  by_cases hdue : step ≤ s.dev.stepNo <;> simp [hnone, hdue]

theorem exec_memLogRelease {src : Src} {n : Nat} (hgate : s.gate src (F.MEM_LOG_RELEASE.N.at 0 0) = .pass) (hn : n < 8192) :
    exec (.memLogRelease src n) s = .next ((s.set F.MEM_LOG_STATUS.HEAD ((s.get F.MEM_LOG_STATUS.HEAD + min n s.mi.log.length) % 4096)).setLog (s.mi.log.drop (min n s.mi.log.length))) := by
  refine congrArg Host.Outcome.next ((busWrite_of_pass hgate _).trans ?_)
  simp only [Nat.mod_eq_of_lt hn]

end

/-- Settles O53: a read goes through the finding at its word, and a repair through the store of a granule or the fatal stop. -/
theorem cruiserAndLog : Obligations.CruiserAndLog := by
  unfold Obligations.CruiserAndLog
  refine ⟨?_, ?_, ?_, ?_⟩
  · intro found owner s hpower hmarks hclean a
    refine ⟨fun ha hfound => ?_, fun ha hfound => ?_, fun b y w ha hfound => ⟨fun hempty => ?_, fun r hlog haddr hkind hrecent => ?_, fun hfull hnew => ?_⟩,
      fun y hfound ha => ⟨fun howner => ?_, fun howner hrole hnew => ?_⟩⟩
    · subst hfound
      refine ⟨_, exec_cruiserRead_moves hpower hmarks hclean ha _ _, ?_, rfl, rfl, rfl⟩
      exact get_set_of_lt (w := 64) rfl (by omega) _ _ _
    · subst hfound
      refine ⟨_, (exec_cruiserRead_hbm hpower hmarks hclean _ _).trans (congrArg Host.Outcome.next (cruiseOn_ends ha)), ?_, raise_bit _ _⟩
      rw [get_raise _ 0x3C8 _ _ _ (by decide)]
      exact get_set_same ..
    · subst hfound
      refine ⟨_, s.corrected a y b, exec_cruiserRead_moves hpower hmarks hclean ha _ _, ?_, rfl, rfl, rfl, rfl, rfl, rfl, rfl, ?_, ?_⟩
      · exact (finding_corrected_log ..).trans (logEcc_first hempty)
      · exact (get_set_other _ _ _ _ _ _ _ _ (by decide)).trans (finding_corrected_ce ..)
      · exact (get_set_other _ _ _ _ _ _ _ _ (by decide)).trans (finding_corrected_back ..)
    · subst hfound
      exact ⟨_, exec_cruiserRead_moves hpower hmarks hclean ha _ _, (finding_corrected_log ..).trans (logEcc_merged hlog haddr hkind hrecent)⟩
    · subst hfound
      have hdrop : (s.bump F.MEM_CE.COUNT).logEcc (s.corrected a y b) = (s.bump F.MEM_CE.COUNT).bump F.MEM_LOG_DROP.COUNT := logEcc_full hfull hnew rfl
      refine ⟨_, exec_cruiserRead_moves hpower hmarks hclean ha _ _, (finding_corrected_log ..).trans (by rw [hdrop]; rfl), ?_⟩
      refine ((get_set_other _ _ _ _ _ _ _ _ (by decide)).trans (finding_corrected_get _ _ _ _ _ _ (by decide) (by decide))).trans ?_
      rw [hdrop, get_bump_same, get_bump_other _ _ _ _ _ _ _ (by decide)]
      rfl
    · subst hfound howner
      rw [exec_cruiserRead_moves hpower hmarks hclean ha, finding_localState]
      exact ⟨_, rfl, uncorrected_afterRead s a y⟩
    · subst hfound
      rw [exec_cruiserRead_moves hpower hmarks hclean ha, finding_leader howner hrole hnew]
      exact ⟨_, rfl, asked_afterRead s a y⟩
  · intro g step s hrole hnone
    rw [exec_repairRequestRx hrole hnone]
    refine ⟨fun hdue => ?_, fun hlater => ?_⟩
    · rw [if_pos hdue]
      exact ⟨_, rfl, rfl, sendRepair_emits rfl rfl rfl⟩
    · rw [if_neg (Nat.not_le.mpr hlater)]
      exact ⟨_, rfl, rfl, rfl⟩
  · intro g bytes s hasked
    refine ⟨fun hlen hpoison harmed => ⟨_, exec_repairGranuleRx_good hasked hlen, ?_⟩, ⟨_, exec_repairGranuleRx_poisoned hasked bytes, ?_, ?_, noGoodCopy_raised _⟩⟩
    · obtain ⟨hmem, hpoison', hrepair⟩ := store_granule (s := s.repairTaken g) hpoison harmed hlen
      have hmem' : (s.installed g bytes).mem = (s.memWrite (4096 * g) bytes).mem := (raise_mem _ _).trans (hmem.trans (memWrite_mem_congr rfl _ _))
      refine ⟨?_, fun b hb => ?_, (raise_poison _ _).trans hpoison', (congrArg Mi.repair (raise_mi _ _)).trans hrepair, ?_, raise_bit _ _⟩
      · rw [memRead_of_mem hmem', ← hlen, memRead_memWrite]
      · rw [memByte_of_mem hmem', memByte_memWrite_outside _ _ _ (by rwa [hlen])]
      · rw [State.installed, get_raise _ 0x3C3 _ _ _ (by decide), get_bump_same, get_of_regs (store_regs ..)]
        rfl
    · exact (noGoodCopy_parts _).1
    · exact congrArg Mi.repair (noGoodCopy_parts _).2
  · intro src n s hgate hn hlog
    have hdrop : s.mi.log.drop (min n s.mi.log.length) = s.mi.log.drop n := by
      rcases Nat.le_total n s.mi.log.length with h | h
      · rw [Nat.min_eq_left h]
      · rw [Nat.min_eq_right h, List.drop_length, List.drop_eq_nil_of_le h]
    refine ⟨_, exec_memLogRelease hgate hn, hdrop, ?_, ?_⟩
    · rw [hdrop]
      refine (get_set_of_lt (w := 13) rfl ?_ _ _ _).trans List.length_drop
      rw [List.length_drop]
      omega
    · refine (get_set_other _ _ _ _ _ _ _ _ (by decide)).trans ?_
      exact get_set_of_lt (w := 12) rfl (by omega) _ _ _

end Sys2Proof.Machine
end

section
/-!
PROOFS. What the work of commands, messages and drives leaves alone (07_stripe_layouts.md, 08_tally_rebuild.md, 12_drive_ports.md, 13_power.md).

Host reads may end, drive commands be formed again, Flume packets and link messages go out, Brands and the vault be written. None of that writes a field that stands at no bit 0, but
for those of `deepKeys` and of the Ledger; none clears the status of an event, gates an island or puts one in fault, or moves a drive port's bring-up.
-/
namespace Sys2Proof.Machine

/-- The fields at no bit 0 that such work writes. -/
def deepKeys : List Nat := [F.VLT_STATUS.SHORT.key 0 0, F.LAY_BRAND_STATUS.RESULT.key 0 0]

/-- A list of fields that none of it writes. -/
structure Shielded (W : List Nat) : Prop where
  guarded : Guarded W
  deep : ∀ k ∈ deepKeys, k ∉ W

/-- The gated and the faulted islands, the clusters with saved state and the slot hold. -/
def State.held (s : State) : List Nat × List Nat × List Nat × Bool := (s.dev.gated, s.dev.faulted, s.eng.saved, s.slot.hold)

/-- The bring-up step of a drive port and its admin commands. -/
def State.bringUp (s : State) (n : Nat) : Nat × List (Nat × Nat) := ((s.port n).step, (s.port n).admin)

/-- The fields of `W` and the events stand, nothing is gated, saved or held anew, and where `P` holds no port's bring-up moves. -/
structure Watched (W : List Nat) (P : Prop) (s t : State) : Prop where
  shielded : Shielded W
  spares : Spares W s t
  held : t.held = s.held
  ports : P → ∀ n, t.bringUp n = s.bringUp n

section
variable {W : List Nat} {P : Prop} {s t u : State}

theorem Watched.refl (hW : Shielded W) (P : Prop) (s : State) : Watched W P s s := ⟨hW, .refl W s, rfl, fun _ _ => rfl⟩

/-- What a step of the work may change at all. -/
def State.exposed (s : State) : List (Nat × Nat) × (List Nat × List Nat × List Nat × Bool) × List (Nat × DrvPort) := (s.regs, s.held, s.drv.ports)

theorem Watched.same (h : Watched W P s t) (hu : u.exposed = t.exposed) : Watched W P s u := by
  simp only [State.exposed, Prod.mk.injEq] at hu
  obtain ⟨hregs, hheld, hports⟩ := hu
  refine ⟨h.shielded, h.spares.of_regs hregs, hheld.trans h.held, fun hP n => ?_⟩
  rw [← h.ports hP n]
  simp only [State.bringUp, State.port, hports]

/-- An operation on the register file alone, as far as this goes. -/
theorem Watched.writes (h : Watched W P s t) (hs : Spares W s u) (hheld : u.held = t.held) (hports : u.drv.ports = t.drv.ports) : Watched W P s u := by
  refine ⟨h.shielded, hs, hheld.trans h.held, fun hP n => ?_⟩
  rw [← h.ports hP n]
  simp only [State.bringUp, State.port, hports]

theorem Watched.keeps {p : Bool} {A : Nat} (h : Watched W P s t) (hk : Keeps p A t u) (hA : ∀ c ∈ [Part.regs, .dev, .eng, .drv, .slot], A &&& c.bit ≠ c.bit) : Watched W P s u := by
  have hregs : u.regs = t.regs := hk.part .regs (hA _ (by decide))
  have hdev : u.dev = t.dev := hk.part .dev (hA _ (by decide))
  have heng : u.eng = t.eng := hk.part .eng (hA _ (by decide))
  have hdrv : u.drv = t.drv := hk.part .drv (hA _ (by decide))
  have hslot : u.slot = t.slot := hk.part .slot (hA _ (by decide))
  exact h.same (by simp only [State.exposed, State.held, hregs, hdev, heng, hdrv, hslot])

theorem Watched.ite {c : Prop} [Decidable c] (h : Watched W P s t) (h' : Watched W P s u) : Watched W P s (if c then t else u) := by
  split <;> assumption

theorem Watched.foldl {α : Type} {f : State → α → State} (l : List α) (hf : ∀ t x, Watched W P s t → Watched W P s (f t x)) (h : Watched W P s t) : Watched W P s (l.foldl f t) :=
  List.foldlRecOn (motive := Watched W P s) l f h (fun t ht x _ => hf t x ht)

theorem Watched.set (h : Watched W P s t) (f : Fld) (v i j : Nat) (hoff : 0x20100 ≤ f.off) (hk : f.key i j ∉ W) : Watched W P s (t.set f v i j) :=
  h.writes (h.spares.set f v i j hoff hk) rfl rfl

/-- A field at bit 0. -/
theorem Watched.low (h : Watched W P s t) (f : Fld) (v i j : Nat) (hlo : f.lo = 0 := by rfl) (hoff : 0x20100 ≤ f.off := by decide) : Watched W P s (t.set f v i j) :=
  h.set f v i j hoff (h.shielded.guarded.low f i j hlo)

theorem Watched.bump (h : Watched W P s t) (f : Fld) (i j : Nat) (hlo : f.lo = 0 := by rfl) (hoff : 0x20100 ≤ f.off := by decide) : Watched W P s (t.bump f i j) := h.low f _ i j hlo hoff

theorem raise_saved (s : State) (e : Nat) : (s.raise e).eng.saved = s.eng.saved := by
  unfold State.raise
  extract_lets t r u
  have hu : u.eng.saved = s.eng.saved := by
    unfold u State.pushEvent
    extract_lets c q
    split
    · split <;> rfl
    · rfl
  unfold State.signal
  split
  · split
    · exact hu
    · exact hu
  · exact hu

theorem raise_held (s : State) (e : Nat) : (s.raise e).held = s.held := by
  obtain ⟨l, hl⟩ := raise_dev s e
  simp only [State.held, hl, raise_slot, raise_saved]

theorem Watched.raise (h : Watched W P s t) (e : Nat) : Watched W P s (t.raise e) := h.writes (h.spares.raise h.shielded.guarded e) (raise_held t e) (by rw [raise_drv])

theorem Watched.raiseLimited (h : Watched W P s t) (e : Nat) : Watched W P s (t.raiseLimited e) := by
  refine h.ite (Watched.raise ?_ e)
  exact h.same rfl

/-! ## Counters, the Ledger, egress, the link -/

/-- A field of the Ledger's. -/
theorem Watched.ledgerField (h : Watched W P s t) (f : Fld) (v : Nat) (hf : f.key 0 0 ∈ ledgerKeys) (hoff : 0x20100 ≤ f.off) : Watched W P s (t.set f v) :=
  h.set f v 0 0 hoff (h.shielded.guarded.ledger _ hf)

theorem Watched.freezeLedger (h : Watched W P s t) : Watched W P s t.freezeLedger :=
  h.ite (((h.ledgerField F.LDG_STATUS.FROZEN _ (by decide) (by decide)).ledgerField F.LDG_STATUS.TAIL_LEFT _ (by decide) (by decide)).raise _)

theorem Watched.ledgerStore (h : Watched W P s t) (r : LedgerRec) : Watched W P s (t.ledgerStore r) := by
  refine Watched.ledgerField (Watched.ledgerField ?_ F.LDG_STATUS.HEAD _ (by decide) (by decide)) F.LDG_SEQ.NEXT _ (by decide) (by decide)
  exact h.same rfl

theorem Watched.ledger (h : Watched W P s t) (code island source : Nat) (detail : List Byte) : Watched W P s (t.ledger code island source detail) := by
  unfold State.ledger State.ledgerWrite
  extract_lets seq sev r left frozen t1 t2
  have h1 : Watched W P s t1 := h.ledgerStore r
  have h2 : Watched W P s t2 := (h1.ledgerField F.LDG_STATUS.TAIL_LEFT _ (by decide) (by decide)).ite (h1.freezeLedger.ite h1)
  exact Watched.ite ((h.ledgerField F.LDG_LOST.COUNT _ (by decide) (by decide)).raiseLimited _) ((h2.raiseLimited _).ite h2)

theorem Watched.addCounter (h : Watched W P s t) (i weight : Nat) : Watched W P s (t.addCounter i weight) := by
  have hc := h.low F.SCL_CNT.COUNT (t.get F.SCL_CNT.COUNT i + weight) i 0
  exact hc.ite ((hc.low F.SCL_OVF.OVF _ _ 0).raiseLimited 0x480)

theorem Watched.count (h : Watched W P s t) (unit inst event weight : Nat) : Watched W P s (t.count unit inst event weight) :=
  Watched.ite (h.foldl _ (fun _ i h => (h.addCounter i weight).ite h)) h

theorem Watched.putLink (h : Watched W P s t) (lseq : Nat) (replay nak : Bool) (b : LinkBody) : Watched W P s (t.putLink lseq replay nak b) := by
  refine Watched.same (Watched.count (t := t.emit (.link lseq (t.wsw.rxSeq - 1) replay nak b)) ?_ 9 0 1 _) rfl
  exact h.same rfl

theorem Watched.sendLink (h : Watched W P s t) (b : LinkBody) : Watched W P s (t.sendLink b) := by
  refine Watched.ite (Watched.putLink ?_ _ _ _ _) h
  exact h.same rfl

theorem Watched.sendInput (h : Watched W P s t) (r : InputRec) : Watched W P s (t.sendInput r) := Watched.ite ((h.sendLink _).count _ _ _ _) h

theorem Watched.number (h : Watched W P s t) (sideB refOnly : Bool) (origin : Nat) (i : Input) : Watched W P s (t.number sideB refOnly origin i) := by
  refine Watched.sendInput ?_ _
  exact h.same rfl

theorem Watched.observe (h : Watched W P s t) (i : Input) : Watched W P s (t.observe i) := by
  unfold State.observe
  extract_lets origin wsw u
  have hu : Watched W P s u := h.same rfl
  refine (hu.number ..).ite (Watched.ite (Watched.sendLink ?_ _) hu)
  exact hu.same rfl

theorem Watched.meterUnit (h : Watched W P s t) (m n : Nat) (pre : Colour) : Watched W P s (t.meterUnit m n pre).1 := by
  unfold State.meterUnit
  generalize t.colour m n pre = cx
  obtain ⟨c, x⟩ := cx
  have hm : Watched W P s ({ t with tc := { t.tc with meters := sparseInsert m x t.tc.meters } } : State) := h.same rfl
  cases c
  · exact hm.bump _ _ _
  · exact hm.bump _ _ _
  · exact (hm.bump F.TC_MTR_RED.COUNT m 0).raiseLimited 0xC3

theorem Watched.enqueue (h : Watched W P s t) (p cls : Nat) (x : TcUnit) : Watched W P s (t.enqueue p cls x) := h.keeps (keeps_State_enqueue p cls x rfl (Keeps.refl false 65536 t)) (by decide)

theorem Watched.egress (h : Watched W P s t) (lport cls : Nat) (x : TcUnit) : Watched W P s (t.egress lport cls x) := by
  unfold State.egress
  split
  · exact h.enqueue _ _ _
  · rename_i m _
    have hm := h.meterUnit m x.len .green
    generalize t.meterUnit m x.len .green = sc at hm ⊢
    exact (hm.enqueue _ _ _).ite (Watched.ite ((hm.bump F.TC_MTR_MARKED.COUNT m 0).enqueue _ _ _) hm)

theorem Watched.ownEgress (h : Watched W P s t) (lport cls len : Nat) : Watched W P s (t.ownEgress lport cls len) := by
  refine Watched.egress ?_ _ _ _
  exact h.same rfl

theorem Watched.release (h : Watched W P s t) (o : Out) : Watched W P s (t.release o) := by
  have hemit : Watched W P s (t.emit o) := h.same rfl
  unfold State.release
  split
  · exact h
  · split
    · exact hemit.ownEgress _ _ _
    · exact hemit.ownEgress _ _ _
    · exact hemit

theorem Watched.perform (h : Watched W P s t) (side : OutSide) (acks : Bool) (o : Out) : Watched W P s (t.perform side acks o) := by
  refine Watched.ite (Watched.ite ?_ (h.release o)) h
  exact h.same rfl

theorem Watched.fold (h : Watched W P s t) (kind key : Nat) (value : List Byte) : Watched W P s (t.fold kind key value) := by
  refine Watched.ite ?_ h
  extract_lets n w w'
  exact h.same rfl

theorem Watched.sendFlume (h : Watched W P s t) (side : OutSide) (acks : Bool) (cls : Nat) (hd : FlumeHdr) (es : List FlumeExt) (payload : List Byte) :
    Watched W P s (t.sendFlume side acks cls hd es payload) := by
  unfold State.sendFlume
  split
  · split
    · split
      · extract_lets hd' t'
        have ht' : Watched W P s t' := h.ite (h.fold _ _ _)
        exact (ht'.perform _ _ _).count _ _ _ _
      · exact h
    · exact h
  · exact h

theorem Watched.transmit (h : Watched W P s t) (m : Msg) (i attempt path : Nat) (solicit : Bool) : Watched W P s (t.transmit m i attempt path solicit) := by
  unfold State.transmit
  extract_lets ck h0 hd es old p t1 t2 flm t3
  have hcookie : Watched W P s t.cookieUsed := h.same rfl
  have h1 : Watched W P s t1 := hcookie.sendFlume _ _ _ _ _ _
  have h2 : Watched W P s t2 := (h1.count 3 0 2 1).ite h1
  exact h2.same rfl

theorem Watched.pauseMsg (h : Watched W P s t) (m : Msg) : Watched W P s (t.pauseMsg m) := by
  unfold State.pauseMsg
  extract_lets t1
  have h1 : Watched W P s t1 := h.same rfl
  split
  · refine Watched.ite (Watched.raise ?_ 0x144) h1
    exact h1.same rfl
  · exact h1

theorem Watched.activate (h : Watched W P s t) (m : Msg) : Watched W P s (t.activate m).1 := by
  unfold State.activate
  split
  · exact h.same rfl
  · exact h

theorem Watched.pumpN (n dst : Nat) (h : Watched W P s t) : Watched W P s (State.pumpN n dst t) := by
  induction n generalizing t with
  | zero => exact h
  | succ n ih =>
    unfold State.pumpN
    split
    · exact h
    · split
      · rename_i f m _ _
        split
        · exact h
        · split
          · exact ih (h.pauseMsg m)
          · split
            · have hact := h.activate m
              generalize t.activate m = x at hact ⊢
              refine ih (Watched.transmit ?_ _ _ _ _ _)
              exact hact.same rfl
            · exact h
      · exact h

theorem Watched.enterFlow (h : Watched W P s t) (peer : Nat) (ip : IpAddr) (loc : Option (IpAddr × Nat)) : Watched W P s (t.enterFlow peer ip loc).1 := by
  unfold State.enterFlow
  split
  · exact h.same rfl
  · split
    · exact h.same rfl
    · split
      · exact h.same rfl
      · exact (h.bump F.FLM_CACHE_WAIT.COUNT 0 0).raise 0x148

theorem Watched.submit (h : Watched W P s t) (m : Msg) (ip : IpAddr) : Watched W P s (t.submit m ip) := by
  unfold State.submit
  extract_lets m1 flm t1
  have h1 : Watched W P s t1 := h.same rfl
  have h2 := h1.enterFlow m1.dst ip (t1.firstLocal ip.v6)
  clear_value t1
  dsimp only
  split
  · exact h2.pumpN _ _
  · exact h2.same rfl

theorem Watched.hostMsg (h : Watched W P s t) (peer : Nat) (ip : IpAddr) (op len window winOffset aux : Nat) (src : MsgSrc) (use : MsgUse) (side : OutSide) (tag : Option Nat) :
    Watched W P s (t.hostMsg peer ip op len window winOffset aux src use side tag) := h.submit ..

theorem Watched.tcpSend (h : Watched W P s t) (conn cls : Nat) (side : OutSide) (pdu : TcpOut) : Watched W P s (t.tcpSend conn cls side pdu) := by
  unfold State.tcpSend
  split
  · exact h
  · refine Watched.perform ?_ ..
    exact (h.fold ..).same rfl

theorem Watched.respondOn (h : Watched W P s t) (q : NvmQueue) (cid : Nat) (st : NvmeStatus) (dw0 dw1 : Nat) (side : OutSide) (key : Nat) :
    Watched W P s (t.respondOn q cid st dw0 dw1 side key) := by
  unfold State.respondOn
  extract_lets dnr t1 t2 b
  have h1 : Watched W P s t1 := Watched.ite (h.same rfl) h
  have h2 : Watched W P s t2 := h1.keeps (keeps_State_logError q cid _ st rfl (Keeps.refl false 4096 t1)) (by decide)
  split
  · exact h2.hostMsg ..
  · exact h2.tcpSend ..

theorem Watched.countStatus (h : Watched W P s t) (st : NvmeStatus) : Watched W P s (t.countStatus st) := Watched.ite ((h.bump F.NVS_UNRECOVERED.COUNT 0 0).raise 0x185) h

theorem Watched.unequip (h : Watched W P s t) (c : DrvCmd) (held : Bool) : Watched W P s (t.unequip c held) := h.keeps (keeps_State_unequip c held rfl (Keeps.refl false 73728 t)) (by decide)

theorem Watched.dropDrv (h : Watched W P s t) (c : DrvCmd) (held : Bool) : Watched W P s (t.dropDrv c held) := (h.unequip c held).same rfl

theorem Watched.dropReads (h : Watched W P s t) (key : Nat) : Watched W P s (t.dropReads key) := h.foldl _ (fun _ c h => h.dropDrv c true)

theorem Watched.dropCmd (h : Watched W P s t) (c : Cmd) : Watched W P s (t.dropCmd c) := (h.dropReads c.key).same rfl

theorem Watched.endCmd (h : Watched W P s t) (c : Cmd) (st : NvmeStatus) (dw0 : Nat) : Watched W P s (t.endCmd c st dw0) := by
  unfold State.endCmd
  extract_lets t1 t2
  have h1 : Watched W P s t1 := h.countStatus st
  refine Watched.dropCmd ?_ c
  unfold t2
  split
  · exact h1.respondOn ..
  · exact h1

theorem Watched.ackWrite (h : Watched W P s t) (key : Nat) : Watched W P s (t.ackWrite key) := by
  unfold State.ackWrite
  split
  · exact h
  · exact (h.endCmd ..).ite h

theorem Watched.ackWrites (h : Watched W P s t) : Watched W P s t.ackWrites := h.foldl _ (fun _ k h => h.ackWrite k)

theorem Watched.injected (h : Watched W P s t) (a n : Nat) : Watched W P s (t.injected a n) := by
  unfold State.injected
  split
  · rename_i k w _
    have hu : Watched W P s ({ t with mi := { t.mi with inject := none, marks := if k = 3 then t.mi.marks else (w, k) :: t.mi.marks } } : State) := h.same rfl
    refine Watched.ite (hu.ite ?_) h
    exact hu.same rfl
  · exact h

theorem Watched.store (h : Watched W P s t) (a : Nat) (bs : List Byte) : Watched W P s (t.store a bs) := by
  unfold State.store
  extract_lets n whole lost u
  have hu : Watched W P s u := Watched.ite (h.same rfl) (h.foldl _ (fun v b hv => hv.ite (hv.same rfl)))
  refine Watched.injected ?_ a n
  exact hu.same rfl

theorem Watched.fillBuf (h : Watched W P s t) (i : Nat) (b : Blk) : Watched W P s (t.fillBuf i b) := (h.store ..).store ..

theorem Watched.queueDrv (h : Watched W P s t) (c : DrvCmd) : Watched W P s (t.queueDrv c) := by
  refine Watched.enqueue ?_ ..
  exact h.same rfl

theorem Watched.yardTake {st cls n : Nat} {is : List Nat} (h : Watched W P s t) (hu : State.yardTake st cls n t = some (u, is)) : Watched W P s u := by
  induction n generalizing t u is with
  | zero =>
    cases hu
    exact h
  | succ n ih =>
    unfold State.yardTake at hu
    extract_lets low at hu
    split at hu
    · cases hu
    split at hu
    · cases hu
    extract_lets t1 t2 t3 at hu
    have h1 : Watched W P s t1 := h.same rfl
    have h2 : Watched W P s t2 := h1.count 5 _ 0 _
    have h3 : Watched W P s t3 := (h2.raise 0x1A7).ite h2
    split at hu
    · cases hu
    · rename_i v is' hv
      cases hu
      exact ih h3 hv

theorem Watched.equip (h : Watched W P s t) (c : DrvCmd) : Watched W P s (t.equip c).1 := by
  unfold State.equip
  split
  · exact h.queueDrv c
  split
  · exact h
  rename_i v bufs hv
  have hv := h.yardTake hv
  split
  · exact h
  extract_lets d t1 t2
  have h1 : Watched W P s t1 := hv.same rfl
  have h2 : Watched W P s t2 := h1.foldl _ (fun _ x h => h.fillBuf x.1 x.2)
  exact h2.queueDrv _

theorem Watched.launch (h : Watched W P s t) (c : DrvCmd) : Watched W P s (t.launch c) := by
  refine Watched.ite (h.same rfl) (Watched.ite (h.same rfl) ?_)
  have he := h.equip c
  generalize t.equip c = x at he ⊢
  refine Watched.ite he (Watched.bump (Watched.count ?_ 5 _ 1 _) F.YRD_WAIT.COUNT 0 0)
  exact h.same rfl

theorem Watched.foldDrv (h : Watched W P s t) (c : DrvCmd) : Watched W P s (t.foldDrv c) := h.fold ..

theorem Watched.formDrv (h : Watched W P s t) (side : OutSide) (port nguid op lba nlb cls : Nat) (viaYard : Bool) (blocks : List Blk) (use : DrvUse) :
    Watched W P s (t.formDrv side port nguid op lba nlb cls viaYard blocks use) := by
  unfold State.formDrv
  split
  extract_lets c drv t1 t2 t3
  have h1 : Watched W P s t1 := h.same rfl
  have h2 : Watched W P s t2 := h1.foldDrv c
  have h3 : Watched W P s t3 := (h2.bump F.DP_PROXY.COUNT port 0).ite h2
  exact (h3.launch c).ite h3

theorem Watched.memberCmd (h : Watched W P s t) (side : OutSide) (x : Grp) (p : Place) (op nlb cls : Nat) (viaYard : Bool) (blocks : List Blk) (use : DrvUse) :
    Watched W P s (t.memberCmd side x p op nlb cls viaYard blocks use) := by
  unfold State.memberCmd
  split
  · exact h.formDrv ..
  · exact h

theorem Watched.reissue (h : Watched W P s t) (c : DrvCmd) : Watched W P s (t.reissue c) := by
  unfold State.reissue
  extract_lets t1 drv
  have h1 : Watched W P s t1 := h.unequip c true
  split
  extract_lets n t2 t3 t4
  have h2 : Watched W P s t2 := h1.same rfl
  have h3 : Watched W P s t3 := h2.foldDrv n
  have h4 : Watched W P s t4 := (h3.bump F.DP_PROXY.COUNT c.port 0).ite h3
  exact (h4.launch n).ite h4

theorem Watched.setCmd (h : Watched W P s t) (c : Cmd) : Watched W P s (t.setCmd c) := h.same rfl

theorem Watched.push (h : Watched W P s t) (k q : Nat) (e : Word) : Watched W P s (t.push k q e).1 := by
  unfold State.push
  extract_lets es
  split
  · exact h.same rfl
  · exact h

theorem Watched.handOver (h : Watched W P s t) (c : Cmd) : Watched W P s (t.handOver c) := by
  unfold State.handOver
  split
  · exact h
  extract_lets t1 k empty
  have h1 : Watched W P s t1 := (h.dropReads _).count ..
  have hdrawn : Watched W P s t1.drawn := h1.same rfl
  have hpush := hdrawn.push k 0 t1.free
  generalize t1.drawn.push k 0 t1.free = x at hpush ⊢
  obtain ⟨v, full⟩ := x
  dsimp only at hpush ⊢
  have hbump : Watched W P s (v.bump F.CHT_HANDOVER.COUNT) := hpush.bump ..
  have hempty := ((hbump.raise 0x1A0).ite hbump : Watched W P s (if empty then (v.bump F.CHT_HANDOVER.COUNT).raise 0x1A0 else v.bump F.CHT_HANDOVER.COUNT))
  exact (hbump.ite ((hempty.raise _).ite hempty)).setCmd _

theorem Watched.degradedEvent (h : Watched W P s t) (g : Nat) : Watched W P s (t.degradedEvent g) := by
  refine h.ite (Watched.raise ?_ _)
  exact h.same rfl

theorem Watched.issueRun (h : Watched W P s t) (key idx : Nat) : Watched W P s (t.issueRun key idx) := by
  unfold State.issueRun
  split
  · exact h
  split
  · exact h
  split
  · exact h
  refine h.ite ?_
  extract_lets cols cls u
  have hu : Watched W P s u := h.ite (h.setCmd _)
  refine hu.foldl _ (fun v j hv => ?_)
  split
  · exact hv.memberCmd ..
  · exact hv

theorem Watched.issueRuns (h : Watched W P s t) (key : Nat) (l : List Nat) : Watched W P s (l.foldl (fun (s : State) (k : Nat) => s.issueRun key k) t) := h.foldl _ (fun _ k h => h.issueRun key k)

theorem Watched.degradeRun (h : Watched W P s t) (key idx : Nat) (failed : Bool) : Watched W P s (t.degradeRun key idx failed) := by
  unfold State.degradeRun
  split
  · exact h
  split
  · exact h
  split
  · exact h
  extract_lets gone first r' c' t1 t2 t3
  have h1 : Watched W P s t1 := ((h.bump ..).count ..).ite h
  have h2 : Watched W P s t2 := (h1.setCmd c').degradedEvent _
  exact ((h2.handOver c').issueRuns ..).ite (h2.issueRun ..)

theorem Watched.sendData (h : Watched W P s t) (c : Cmd) (bytes : List Byte) : Watched W P s (t.sendData c bytes) := by
  unfold State.sendData
  extract_lets side
  split
  · exact h.dropCmd c
  split
  · exact (h.setCmd _).hostMsg ..
  · exact (h.tcpSend ..).endCmd ..

theorem Watched.haveBlocks (h : Watched W P s t) (c : Cmd) : Watched W P s (t.haveBlocks c) := by
  unfold State.haveBlocks
  split
  · split
    · exact h.endCmd ..
    · exact h.sendData ..
  split
  · split
    · exact h.endCmd ..
    · exact h.endCmd ..
  · exact h.endCmd ..

theorem Watched.tallyWait (h : Watched W P s t) (w : TallyWait) : Watched W P s (t.tallyWait w) := by
  unfold State.tallyWait
  extract_lets tly t1
  have h1 : Watched W P s t1 := h.ite (h.same rfl)
  exact (h1.raise _).ite h1

theorem Watched.issueWrite (h : Watched W P s t) (id k : Nat) : Watched W P s (t.issueWrite id k) := by
  unfold State.issueWrite
  split
  · exact h
  split
  · refine h.ite ?_
    split
    · exact h.memberCmd ..
    · exact h
  · exact h

theorem Watched.issueEntry (h : Watched W P s t) (id : Nat) : Watched W P s (t.issueEntry id) := by
  unfold State.issueEntry
  split
  · exact h
  · exact h.foldl _ (fun _ k h => h.issueWrite id k)

theorem Watched.openEntry (h : Watched W P s t) (kind g st off blocks member cls : Nat) (side : OutSide) (writes : List TallyWrite) :
    Watched W P s (t.openEntry kind g st off blocks member cls side writes) := by
  unfold State.openEntry
  split
  · exact h
  extract_lets e tly t1 t2
  have h1 : Watched W P s t1 := h.same rfl
  have h2 : Watched W P s t2 := (h1.raise _).ite h1
  exact h2.issueEntry _

theorem Watched.fillRun (h : Watched W P s t) (c : Cmd) (idx : Nat) (r : HostRun) (bs : List RdBlk) : Watched W P s (t.fillRun c idx r bs) := by
  unfold State.fillRun
  extract_lets rd c' t1 t2 ws t3
  have h1 : Watched W P s t1 := h.setCmd c'
  have h2 : Watched W P s t2 := Watched.ite (h1.foldl _ (fun v _ hv => Watched.ite (hv.bump ..) (Watched.ite (hv.bump ..) hv))) h1
  have h3 : Watched W P s t3 := Watched.ite ((h2.openEntry ..).ite (h2.tallyWait _)) h2
  exact (h3.haveBlocks c').ite h3

theorem Watched.advanceRun (h : Watched W P s t) (key idx : Nat) : Watched W P s (t.advanceRun key idx) := by
  unfold State.advanceRun
  split
  · exact h
  rename_i c _
  split
  · exact h
  refine h.ite ?_
  split
  · exact h.issueRun ..
  · exact h.fillRun ..
  refine (h.degradeRun ..).ite ((h.endCmd ..).ite ?_)
  have hover := h.handOver c
  extract_lets v
  split
  · exact hover
  · exact (hover.setCmd _).issueRuns ..

theorem Watched.runResult (h : Watched W P s t) (key idx col : Nat) (res : Option (List RdBlk)) : Watched W P s (t.runResult key idx col res) := by
  unfold State.runResult
  split
  · exact h
  split
  · exact h
  · exact (h.setCmd _).advanceRun ..

theorem Watched.vaultChanged (h : Watched W P s t) : Watched W P s t.vaultChanged := by
  unfold State.vaultChanged
  extract_lets room limit short u
  have hu : Watched W P s u := (h.low F.VLT_LIMIT_EFF.MIB _ 0 0).set F.VLT_STATUS.SHORT _ 0 0 (by decide) (h.shielded.deep _ (by decide))
  exact (hu.raise _).ite hu

theorem Watched.brandIssue (h : Watched W P s t) (g m : Nat) : Watched W P s (t.brandIssue g m) := by
  unfold State.brandIssue
  split
  · exact h
  split
  · exact h
  split
  · exact h
  · exact h.memberCmd ..

theorem Watched.startBrand (h : Watched W P s t) (g : Nat) : Watched W P s (t.startBrand g) := by
  unfold State.startBrand
  split
  · exact h
  refine h.ite (Watched.ite ((h.set F.LAY_BRAND_STATUS.RESULT 3 0 0 (by decide) (h.shielded.deep _ (by decide))).low F.LAY_BRAND_STATUS.GROUP g 0 0) (Watched.foldl _ (fun _ m h => h.brandIssue g m) ?_))
  exact h.same rfl

theorem Watched.vaultWrite (h : Watched W P s t) (seq : Nat) (m : VMem) (off : Nat) (blocks : List (List Byte)) (use : DrvUse) : Watched W P s (t.vaultWrite seq m off blocks use) := by
  unfold State.vaultWrite
  split
  · exact h
  · exact h.memberCmd ..

theorem Watched.setDump (h : Watched W P s t) (d : Dump) : Watched W P s (t.setDump d) := h.same rfl

theorem Watched.writeHeaders (h : Watched W P s t) (d : Dump) (kind state : Nat) : Watched W P s (t.writeHeaders d kind state) := h.foldl _ (fun _ _ h => h.vaultWrite ..)

theorem Watched.writeSegment (h : Watched W P s t) (d : Dump) (i copy : Nat) (vs : List Ver) (m : VMem) (slot : Nat) : Watched W P s (t.writeSegment d i copy vs m slot) := h.vaultWrite ..

theorem Watched.writeControl (h : Watched W P s t) (d : Dump) (i : Nat) : Watched W P s (t.writeControl d i) := by
  unfold State.writeControl
  split
  · exact h.vaultWrite ..
  · exact h

theorem Watched.writeLedgerCopy (h : Watched W P s t) (d : Dump) (i : Nat) : Watched W P s (t.writeLedgerCopy d i) := by
  unfold State.writeLedgerCopy
  split
  · exact h.vaultWrite ..
  · exact h

theorem Watched.retireDump (h : Watched W P s t) (d : Dump) : Watched W P s (t.retireDump d) := (h.setDump _).writeHeaders ..

theorem Watched.failMigs (h : Watched W P s t) : Watched W P s t.failMigs := by
  unfold State.failMigs
  extract_lets live tly u
  have hu : Watched W P s u := h.same rfl
  exact hu.ite (hu.raise 0x1DD)

theorem Watched.beginDump (h : Watched W P s t) : Watched W P s t.beginDump := by
  have hstop : Watched W P s { t with tly := { t.tly with stopped := true } } := h.same rfl
  exact h.ite (hstop.failMigs.setDump _)

theorem Watched.dumpNext (h : Watched W P s t) (d : Dump) : Watched W P s (t.dumpNext d) := by
  unfold State.dumpNext
  split
  case h_1 => exact (h.setDump _).foldl _ (fun _ _ h => h.writeControl ..)
  case h_2 => exact (h.setDump _).foldl _ (fun _ _ h => (h.writeSegment ..).writeSegment ..)
  case h_3 => exact ((h.setDump _).ledger ..).foldl _ (fun _ _ h => h.writeLedgerCopy ..)
  case h_4 => exact Watched.ite ((h.setDump _).beginDump.ite (h.setDump _)) ((h.setDump _).ite (h.retireDump d))
  case h_5 =>
    have hu : Watched W P s { t with tly := { t.tly with dump := none, stopped := false } } := h.same rfl
    exact hu.beginDump.ite hu
  case h_6 => exact h

theorem Watched.dumpRun (n : Nat) (h : Watched W P s t) : Watched W P s (State.dumpRun n t) := by
  induction n generalizing t with
  | zero => exact h
  | succ n ih =>
    unfold State.dumpRun
    split
    · exact h
    · exact h.ite (ih (h.dumpNext _))

theorem Watched.rewriteCopy (h : Watched W P s t) (d : Dump) : Watched W P s (t.rewriteCopy d) := ((h.setDump _).bump ..).raise _

theorem Watched.vaultFailed (h : Watched W P s t) (kind index copy : Nat) : Watched W P s (t.vaultFailed kind index copy) := by
  unfold State.vaultFailed
  split
  case h_1 => exact h
  case h_2 d _ =>
    split
    · split
      · exact h.setDump _
      · exact h
    split
    · split
      · exact h
      extract_lets failed other
      split
      · exact h
      · exact (h.rewriteCopy _).writeSegment ..
    split
    · split
      · exact h
      extract_lets other
      split
      · extract_lets d' t1 t2
        have h2 : Watched W P s t2 := (h.rewriteCopy d').writeControl ..
        exact (h2.writeLedgerCopy ..).ite h2
      · exact h
    · exact h

theorem Watched.vaultDone (h : Watched W P s t) (kind index copy : Nat) (ok : Bool) : Watched W P s (t.vaultDone kind index copy ok) := by
  unfold State.vaultDone
  extract_lets t1 t2
  have h1 : Watched W P s t1 := h.ite (h.vaultFailed ..)
  refine Watched.dumpRun 6 ?_
  unfold t2
  refine h1.ite ?_
  split
  · exact (h1.setDump _).ite h1
  · exact h1

theorem Watched.orphan (h : Watched W P s t) (c : DrvCmd) : Watched W P s (t.orphan c) := by
  unfold State.orphan
  split
  · exact (h.dropDrv c true).runResult ..
  · exact (h.reissue c).ite ((h.dropDrv c true).vaultDone ..)
  · exact h.reissue c
  · exact h.reissue c
  · exact h.dropDrv c true
  · exact h.dropDrv c true
  · exact h.dropDrv c true

theorem Watched.regone (h : Watched W P s t) : Watched W P s t.regone := h.same rfl


end

end Sys2Proof.Machine
end

section
/-!
PROOFS. O39 (12_drive_ports.md, R398, R401, R404, R405): the bring-up of a drive.
-/
namespace Sys2Proof.Machine

/-! ## The registers of a drive port -/

section
variable {s t : State} {n : Nat}

/-- What the bring-up of a drive port shows. -/
def portWatch (n : Nat) : List Nat :=
  [F.DP_STATUS.STATE.key n 0, F.DP_STATUS.REASON.key n 0, F.DP_STATUS.GEN.key n 0, F.DP_STATUS.WIDTH.key n 0, F.DP_STATUS.FLIT.key n 0, F.DP_QUEUE.MQES.key n 0]

theorem portWatch_keys (n : Nat) {k : Nat} (hk : k ∈ portWatch n) : (0x480000 + n * 0x1000) * 64 < k ∧ k < (0x480000 + n * 0x1000) * 64 + 1024 ∧ k % 64 ≠ 0 := by
  simp only [portWatch, List.mem_cons, List.not_mem_nil, or_false, Fld.key, Fld.at, F.DP_STATUS.STATE, F.DP_STATUS.REASON, F.DP_STATUS.GEN, F.DP_STATUS.WIDTH, F.DP_STATUS.FLIT,
    F.DP_QUEUE.MQES] at hk
  omega

theorem portWatch_shielded (hn : n < 48) : Shielded (portWatch n) := by
  refine ⟨⟨fun k hk => (portWatch_keys n hk).2.2, fun k hk hw => ?_⟩, fun k hk hw => ?_⟩
  · have hlow : ∀ k ∈ ledgerKeys, k < 0x480000 * 64 ∨ 0x500000 * 64 ≤ k := by decide
    have := hlow k hk
    have := portWatch_keys n hw
    omega
  · have hlow : ∀ k ∈ deepKeys, k < 0x480000 * 64 := by decide
    have := hlow k hk
    have := portWatch_keys n hw
    omega

theorem get_dpEvent (s : State) (n k : Nat) (g : Fld) (hk : k < 4) (hg : g.key n 0 ∈ portWatch n) : (s.dpEvent n k).get g n = s.get g n := by
  refine get_raise _ _ _ _ _ ?_
  have := portWatch_keys n hg
  simp only [Fld.key, Fld.at, F.EVT_STATUS.STATUS] at this ⊢
  omega

/-- Work on other parts leaves what a port shows, and its record. -/
structure PortKept (n : Nat) (s t : State) : Prop where
  reads : ∀ g : Fld, g.key n 0 ∈ portWatch n → t.get g n = s.get g n
  port : t.port n = s.port n
  pat : t.pat = s.pat

theorem PortKept.refl (n : Nat) (s : State) : PortKept n s s := ⟨fun _ _ => rfl, rfl, rfl⟩

theorem PortKept.trans {u : State} (h : PortKept n s t) (h' : PortKept n t u) : PortKept n s u :=
  ⟨fun g hg => (h'.reads g hg).trans (h.reads g hg), h'.port.trans h.port, h'.pat.trans h.pat⟩

theorem PortKept.dpState (h : PortKept n s t) : t.dpState n = s.dpState n := h.reads _ (by simp [portWatch])

theorem PortKept.dpFlag (h : PortKept n s t) (bit : Nat) : t.dpFlag n bit = s.dpFlag n bit := by
  unfold State.dpFlag State.cfg State.record
  rw [h.pat]

theorem PortKept.dpEvent {k : Nat} (hk : k < 4) (h : PortKept n s t) : PortKept n s (t.dpEvent n k) :=
  h.trans ⟨fun g hg => get_dpEvent t n k g hk hg, by unfold State.dpEvent State.port; rw [raise_drv], raise_pat ..⟩

theorem PortKept.observe (hn : n < 48) (h : PortKept n s t) (i : Input) : PortKept n s (t.observe i) :=
  h.trans ⟨fun g hg => ((Spares.refl _ t).observe (portWatch_shielded hn).guarded i).reads g n 0 hg, by unfold State.port; rw [observe_drv], observe_pat ..⟩

/-- What a port sees without an effect in step state. -/
theorem PortKept.sawDrive (hn : n < 48) (h : PortKept n s t) (e : DrvEvent) (heffect : State.driveEvent t.sideB n e t = t) : PortKept n s (t.sawDrive n e) := by
  unfold State.sawDrive State.observed
  split
  · exact h.observe hn _
  · show PortKept n s (State.driveEvent t.sideB n e t)
    rwa [heffect]

/-! ## States and steps of a port (R404) -/

theorem stepped_portIs {st : Nat} (h : s.dpState n = st) (k : Nat) : PortIs (s.stepped n k) n st k := ⟨h, by unfold State.stepped; rw [port_setPort, if_pos rfl]⟩

theorem portTo_state {st : Nat} (hst : st < 16) : (s.portTo n st).dpState n = st := by
  unfold State.portTo State.dpState
  split
  · assumption
  · exact (get_dpEvent (s.set F.DP_STATUS.STATE st n) n 3 F.DP_STATUS.STATE (by omega) (by simp [portWatch])).trans (get_set_of_lt (w := 4) rfl hst _ _ _)

theorem portTo_get (st : Nat) (g : Fld) (hg : g.key n 0 ∈ portWatch n) (hk : F.DP_STATUS.STATE.key n 0 ≠ g.key n 0) : (s.portTo n st).get g n = s.get g n := by
  unfold State.portTo
  split
  · rfl
  · exact (get_dpEvent (s.set F.DP_STATUS.STATE st n) n 3 g (by omega) hg).trans (get_set_other _ _ _ _ _ _ _ _ hk)

theorem portAt_state {st : Nat} (hst : st < 16) : (s.portAt n st).dpState n = st :=
  (get_set_other _ _ _ _ _ _ _ _ (key_ne_of_lo (by decide) (by decide) (by decide))).trans (portTo_state hst)

theorem portAt_port (st m : Nat) : (s.portAt n st).port m = s.port m := by
  unfold State.port
  exact congrArg (fun d : Drv => sparseGet drvPort0 m d.ports) (portTo_drv s n st)

theorem portAt_portIs {st k : Nat} (hst : st < 16) (hk : (s.port n).step = k) : PortIs (s.portAt n st) n st k := ⟨portAt_state hst, by rwa [portAt_port]⟩

theorem holdDrive_held (hn : n < 48) {r : Nat} (hr : r < 256) (s : State) : PortHeld (s.holdDrive n r) n r := by
  have hkept : PortKept n ((s.portTo n dpHeld).set F.DP_STATUS.REASON r n) (s.holdDrive n r) := (PortKept.refl n _).sawDrive hn _ rfl
  refine ⟨?_, (hkept.reads _ (by simp [portWatch])).trans (get_set_of_lt (w := 8) rfl hr _ _ _)⟩
  refine hkept.dpState.trans ((get_set_other _ _ _ _ _ _ _ _ (key_ne_of_lo (by decide) (by decide) (by decide))).trans ?_)
  exact portTo_state (by decide)

end

/-! ## What an observed drive does in step state (R255, R256, R407) -/

section
variable {W : List Nat} {P : Prop} {s t : State}

theorem Watched.setPort (h : Watched W P s t) (n : Nat) (p : DrvPort) (hp : P → (p.step, p.admin) = t.bringUp n) : Watched W P s (t.setPort n p) := by
  refine ⟨h.shielded, h.spares.of_regs rfl, h.held, fun hP m => ?_⟩
  rw [← h.ports hP m]
  unfold State.bringUp
  rw [port_setPort]
  split
  · rename_i hm
    rw [← hm]
    exact hp hP
  · rfl

theorem Watched.setReady (h : Watched W P s t) (sideB : Bool) (n : Nat) (b : Bool) : Watched W P s (t.setReady sideB n b) := by
  refine h.setPort n _ (fun _ => ?_)
  split <;> rfl

theorem Watched.unhold (h : Watched W P s t) (c : DrvCmd) (port : Nat) : Watched W P s (t.unhold c port) := by
  unfold State.unhold
  generalize t.route? (t.useSide c.use) port = r
  obtain ⟨b, ok⟩ := r
  refine Watched.ite (Watched.launch ?_ _) h
  exact h.same rfl

theorem Watched.portUp (h : Watched W P s t) (sideB : Bool) (n : Nat) : Watched W P s (t.portUp sideB n) := by
  unfold State.portUp
  extract_lets p t1 t2 nguid t3
  have h1 : Watched W P s t1 := by
    unfold t1
    exact Watched.ite (h.setPort n _ (fun _ => rfl)) h
  have h2 : Watched W P s t2 := (h1.setReady sideB n true).regone
  have h3 : Watched W P s t3 := h2.foldl _ (fun _ c h => h.unhold c n)
  exact h3.vaultChanged

theorem Watched.setGrp (h : Watched W P s t) (g : Nat) (x : Grp) : Watched W P s (t.setGrp g x) := h.same rfl

theorem Watched.tryForm (h : Watched W P s t) (g : Nat) : Watched W P s (t.tryForm g) := by
  unfold State.tryForm
  split
  · extract_lets seats ent ns b x x' u
    have hu : Watched W P s u := h.setGrp g _
    exact hu.startBrand g |>.ite h
  · exact h

theorem Watched.adopt (h : Watched W P s t) (b : Brand) (hashOk lstOk : Bool) : Watched W P s (t.adopt b hashOk lstOk) := by
  unfold State.adopt
  extract_lets off t1 t2 same start v
  have h1 : Watched W P s t1 := h.setGrp _ _
  have h2 : Watched W P s t2 := by
    refine h1.ite ?_
    split
    · exact (h1.setGrp _ _).raise _
    · exact h1
  have hstart : Watched W P s start := (h2.raise _).ite h2
  split
  · exact hstart
  · refine h.ite ?_
    split
    · exact hstart.setGrp _ _
    · exact hstart

theorem Watched.seat (h : Watched W P s t) (sideB : Bool) (port g m : Nat) : Watched W P s (t.seat sideB port g m) := by
  unfold State.seat
  split
  · exact h
  · extract_lets p t1 known t2
    have h1 : Watched W P s t1 := h.setPort port _ (fun _ => rfl)
    have h2 : Watched W P s t2 := h1.setGrp _ _
    exact (h2.raise _).ite h2

theorem Watched.resvCmd (h : Watched W P s t) (port op : Nat) (use : DrvUse) : Watched W P s (t.resvCmd port op use) := by
  refine Watched.launch (Watched.foldDrv ?_ _) _
  exact h.same rfl

/-- A drive that is read, or is ready, leaves the bring-up of the ports where it is. -/
theorem Watched.driveEvent_brand (h : Watched W P s t) (sideB : Bool) (n kind g m seq : Nat) : Watched W P s (State.driveEvent sideB n (.brand kind g m seq) t) := by
  have hadopt : Watched W P s (match (t.port n).brand with
      | some b => if sideB = t.sideB && b.group == g then t.adopt b (t.port n).hashOk (t.port n).lstOk else t
      | none => t) := by
    split
    · exact (h.adopt _ _ _).ite h
    · exact h
  refine Watched.ite (hadopt.ite (hadopt.seat ..)) (Watched.ite ?_ h)
  split
  · exact h.setPort n _ (fun _ => rfl)
  · exact h

theorem Watched.driveEvent_ready (h : Watched W P s t) (sideB : Bool) (n outstanding mqes : Nat) : Watched W P s (State.driveEvent sideB n (.ready outstanding mqes) t) := by
  have hup := h.portUp sideB n
  show Watched W P s (match ((t.portUp sideB n).port n).member with
    | some (g, _) => (t.portUp sideB n).tryForm g
    | none => t.portUp sideB n)
  split
  · exact hup.tryForm _
  · exact hup

theorem Watched.sawDrive (h : Watched W P s t) (n : Nat) (e : DrvEvent) (heffect : Watched W P s (State.driveEvent t.sideB n e t)) : Watched W P s (t.sawDrive n e) := by
  unfold State.sawDrive State.observed
  exact Watched.ite (h.observe _) heffect

/-- A port whose registers and bring-up are left is in the state and step that it was in. -/
theorem Watched.portIs {n st k : Nat} (h : Watched (portWatch n) True s t) (hs : PortIs s n st k) : PortIs t n st k :=
  ⟨(h.spares.reads F.DP_STATUS.STATE n 0 (by simp [portWatch])).trans hs.1, (congrArg Prod.fst (h.ports trivial n)).trans hs.2⟩

end

/-! ## The steps of R404 -/

section
variable {s : State} {n : Nat}

theorem lt_of_dpOn (h : s.dpOn n = true) : n < 48 := by
  simp only [State.dpOn, Bool.and_eq_true, decide_eq_true_eq] at h
  exact h.1

theorem exec_drivePerstRelease (hon : s.dpOn n = true) (hstate : s.dpState n = dpPowering) (hbegun : (sparseGet slotPath0 n s.slot.paths).begun = true)
    (hsince : (s.port n).sinceNs + 100000000 ≤ s.dev.timeNs) :
    exec (.drivePerstRelease n) s = .next (((s.setPort n { s.port n with released := true, retrains := 0 }).stepped n 1).portAt n dpTraining) :=
  congrArg Host.Outcome.next (if_pos (by simp [hon, hstate, hbegun, hsince]))

/-- The link of a port with its rate and width, and the events of R404 and R418. -/
def State.linkShown (s : State) (n rate width : Nat) (flit : Bool) : State :=
  let s := ((s.set F.DP_STATUS.GEN rate n).set F.DP_STATUS.WIDTH width n).setFlag F.DP_STATUS.FLIT flit n
  let s := (s.dpEvent n 0).sawDrive n (.link true rate width flit)
  if rate < 6 ∨ width < 2 then s.dpEvent n 3 else s

theorem exec_driveLinkTrained {rate width : Nat} {flit : Bool} (hon : s.dpOn n = true) (hstate : s.dpState n = dpTraining) (hlow : 3 ≤ rate) (hhigh : rate ≤ s.cfg 0x0030 n 5 1 6)
    (hwidth : width = 1 ∨ width = 2) :
    exec (.driveLinkTrained n rate width flit) s = .next (
      let t := s.linkShown n rate width flit
      if width = 1 ∧ t.dpFlag n 3 = false then t.holdDrive n 0x01 else (t.setPort n { t.port n with step := 2 }).portAt n dpConfiguring) :=
  congrArg Host.Outcome.next (if_pos (by simp [hon, hstate, hlow, hhigh, hwidth]))

theorem linkShown_kept (hn : n < 48) (rate width : Nat) (flit : Bool) :
    PortKept n (((s.set F.DP_STATUS.GEN rate n).set F.DP_STATUS.WIDTH width n).setFlag F.DP_STATUS.FLIT flit n) (s.linkShown n rate width flit) := by
  have hlink := ((PortKept.refl n (((s.set F.DP_STATUS.GEN rate n).set F.DP_STATUS.WIDTH width n).setFlag F.DP_STATUS.FLIT flit n)).dpEvent (k := 0) (by omega)).sawDrive hn
    (.link true rate width flit) rfl
  unfold State.linkShown
  split
  · exact hlink.dpEvent (by omega)
  · exact hlink

theorem linkTrained_passes (hn : n < 48) {rate width : Nat} {flit : Bool} (hrate : rate < 16) (hwidth : width < 4) :
    let t := s.linkShown n rate width flit
    let u := (t.setPort n { t.port n with step := 2 }).portAt n dpConfiguring
    PortIs u n dpConfiguring 2 ∧ u.get F.DP_STATUS.GEN n = rate ∧ u.get F.DP_STATUS.WIDTH n = width ∧ u.flag F.DP_STATUS.FLIT n = flit := by
  intro t u
  have hkept := linkShown_kept (s := s) hn rate width flit
  have hat (g : Fld) (hg : g.key n 0 ∈ portWatch n) (hstate : F.DP_STATUS.STATE.lo ≠ g.lo ∧ g.lo < 64) (hreason : F.DP_STATUS.REASON.lo ≠ g.lo) : u.get g n = t.get g n :=
    (get_set_other _ _ _ _ _ _ _ _ (key_ne_of_lo hreason (by decide) hstate.2)).trans (portTo_get _ _ hg (key_ne_of_lo hstate.1 (by decide) hstate.2))
  refine ⟨portAt_portIs (by decide) (by rw [port_setPort, if_pos rfl]), ?_, ?_, ?_⟩
  · rw [hat _ (by simp [portWatch]) (by decide) (by decide), hkept.reads _ (by simp [portWatch]), get_setFlag_other _ _ _ _ _ _ _ _ (key_ne_of_lo (by decide) (by decide) (by decide)),
      get_set_other _ _ _ _ _ _ _ _ (key_ne_of_lo (by decide) (by decide) (by decide))]
    exact get_set_of_lt (w := 4) rfl hrate _ _ _
  · rw [hat _ (by simp [portWatch]) (by decide) (by decide), hkept.reads _ (by simp [portWatch]), get_setFlag_other _ _ _ _ _ _ _ _ (key_ne_of_lo (by decide) (by decide) (by decide))]
    exact get_set_of_lt (w := 2) rfl hwidth _ _ _
  · unfold State.flag
    rw [hat _ (by simp [portWatch]) (by decide) (by decide), hkept.reads _ (by simp [portWatch])]
    exact flag_setFlag_same _ _ _ _ _ rfl

theorem exec_driveConfigDone (hon : s.dpOn n = true) (hport : PortIs s n dpConfiguring 2) : exec (.driveConfigDone n) s = .next (s.stepped n 3) := by
  obtain ⟨hstate, hstep⟩ := hport
  exact congrArg Host.Outcome.next (if_pos (by simp [hon, hstate, hstep]))

/-- The controller is ready: after a reset its end enters the stream. -/
def State.controllerReady (s : State) (n : Nat) : State := ((if s.dpState n = dpResetting then s.sawDrive n (.reset true) else s).stepped n 4).portAt n dpChecking

theorem exec_driveControllerReady (hon : s.dpOn n = true) (hport : PortIs s n dpConfiguring 3 ∨ PortIs s n dpResetting 3) (failed : Bool) :
    exec (.driveControllerReady n failed) s = .next (if failed then s.holdDrive n 0x03 else s.controllerReady n) := by
  refine congrArg Host.Outcome.next (if_pos ?_)
  rcases hport with ⟨hstate, hstep⟩ | ⟨hstate, hstep⟩ <;> simp [hon, hstate, hstep]

theorem controllerReady_portIs (s : State) (n : Nat) : PortIs (s.controllerReady n) n dpChecking 4 :=
  portAt_portIs (by decide) (stepped_portIs rfl 4).2

/-- The facts of a drive that its checks have found. -/
def State.factsRead (s : State) (n : Nat) (f : DriveFacts) : State := (s.setPort n { s.port n with facts := some f, nguid := f.nguid }).sawDrive n (.admin 0x06 0 0)

theorem exec_driveChecksDone (hon : s.dpOn n = true) (hport : PortIs s n dpChecking 4) (f : DriveFacts) (bad : Bool) :
    exec (.driveChecksDone n f bad) s = .next (match (s.factsRead n f).checkReason f bad with
      | some r => (s.factsRead n f).holdDrive n r
      | none => (s.factsRead n f).stepped n 5) := by
  obtain ⟨hstate, hstep⟩ := hport
  exact congrArg Host.Outcome.next (if_pos (by simp [hon, hstate, hstep]))

theorem factsRead_kept (hn : n < 48) (f : DriveFacts) : PortKept n (s.setPort n { s.port n with facts := some f, nguid := f.nguid }) (s.factsRead n f) :=
  (PortKept.refl n _).sawDrive hn _ rfl

theorem sawDrive_profile (s : State) (n : Nat) (e : DrvEvent) (heffect : State.driveEvent s.sideB n e s = s) : (s.sawDrive n e).profile = s.profile := by
  unfold State.sawDrive State.observed
  split
  · exact ((PairKept.refl s).observe _).profile
  · show (State.driveEvent s.sideB n e s).profile = s.profile
    rw [heffect]

theorem checkReason_factsRead (f : DriveFacts) (bad : Bool) : (s.factsRead n f).checkReason f bad = s.checkReason f bad := by
  unfold State.checkReason
  rw [State.factsRead, sawDrive_profile _ _ _ rfl]
  rfl

theorem checkReason_lt {f : DriveFacts} {bad : Bool} {r : Nat} (h : s.checkReason f bad = some r) : r < 256 := by
  unfold State.checkReason at h
  split at h
  · cases h; decide
  split at h
  · cases h; decide
  split at h
  · cases h; decide
  split at h <;> cases h
  decide

/-! ### The Brand (R256) -/

theorem formingAt_of_parts {t : State} (hpat : t.pat = s.pat) (hgrps : t.grps = s.grps) (port : Nat) : t.formingAt port = s.formingAt port := by
  simp only [State.formingAt, State.instancesOf, State.grp?, State.recBrand, State.driveOf, State.record, hpat, hgrps]
  rfl

/-- The port of a drive that carries no Brand, once it has been seen. -/
def State.brandless (s : State) (n : Nat) : State := (s.setPort n { s.port n with brand := none }).sawDrive n (.brand 0 0 0xFF 0)

/-- The port of a drive with a Brand of this shelf, once it has been seen. -/
def State.brandRead (s : State) (n : Nat) (r : BrandRead) (b : Brand) (idx : Nat) : State :=
  (s.setPort n { s.port n with brand := some b, hashOk := r.hashOk, lstOk := r.lstOk }).sawDrive n (.brand 1 b.group idx (b.seq % 2 ^ 40))

variable {r : BrandRead} {f : DriveFacts}

theorem brandless_formingAt (h : s.formingAt n = none) : (s.brandless n).formingAt n = none := by
  have hport : (s.setPort n { s.port n with brand := none }).formingAt n = none := h
  unfold State.brandless State.sawDrive State.observed
  split
  · rw [formingAt_of_parts (observe_pat ..) (observe_grps ..)]
    exact hport
  · show (State.driveEvent _ n (.brand 0 0 0xFF 0) (s.setPort n { s.port n with brand := none })).formingAt n = none
    simp only [State.driveEvent, hport]
    exact hport

theorem exec_driveBrandRead_none (hon : s.dpOn n = true) (hport : PortIs s n dpChecking 5) (hfacts : (s.port n).facts = some f) (hbrand : r.brand = none)
    (h : r.readable = false ∨ s.formingAt n = none) : ∃ u : State, exec (.driveBrandRead n r) s = .next (u.holdDrive n 0x08) := by
  obtain ⟨hstate, hstep⟩ := hport
  change ∃ u, execDriveBrandRead n r s = _
  unfold execDriveBrandRead
  simp only [hfacts, hon, hstate, hstep, beq_self_eq_true, Bool.and_self, if_true, hbrand]
  cases hread : r.readable with
  | false => exact ⟨_, rfl⟩
  | true =>
    have hnone := brandless_formingAt (h.resolve_left (by rw [hread]; decide))
    unfold State.brandless at hnone
    simp only [hfacts, hstep] at hnone
    simp only [Bool.not_true, Bool.false_eq_true, if_false, hnone]
    exact ⟨_, rfl⟩

theorem exec_driveBrandRead_foreign (hon : s.dpOn n = true) (hport : PortIs s n dpChecking 5) (hfacts : (s.port n).facts = some f) {b : Brand} (hbrand : r.brand = some b)
    (h : b.shelf ≠ s.shelfId) : ∃ u : State, exec (.driveBrandRead n r) s = .next (u.holdDrive n 0x09) := by
  obtain ⟨hstate, hstep⟩ := hport
  change ∃ u, execDriveBrandRead n r s = _
  unfold execDriveBrandRead
  simp only [hfacts, hon, hstate, hstep, beq_self_eq_true, Bool.and_self, if_true, hbrand, if_pos h]
  exact ⟨_, rfl⟩

theorem exec_driveBrandRead_own (hon : s.dpOn n = true) (hport : PortIs s n dpChecking 5) (hfacts : (s.port n).facts = some f) {b : Brand} (hbrand : r.brand = some b)
    (hshelf : b.shelf = s.shelfId) (hreason : s.brandReason n f b = none) : ∃ idx, exec (.driveBrandRead n r) s = .next ((s.brandRead n r b idx).stepped n 6) := by
  obtain ⟨hstate, hstep⟩ := hport
  change ∃ idx, execDriveBrandRead n r s = _
  unfold execDriveBrandRead State.brandRead
  simp only [hfacts, hon, hstate, hstep, beq_self_eq_true, Bool.and_self, if_true, hbrand, if_neg (not_not.mpr hshelf), hreason]
  exact ⟨_, rfl⟩

theorem brandSeen_state (hn : n < 48) (b : Brand) (idx : Nat) : (s.brandRead n r b idx).dpState n = s.dpState n := by
  have hbase := (Watched.refl (portWatch_shielded hn) False s).setPort n { s.port n with brand := some b, hashOk := r.hashOk, lstOk := r.lstOk } (fun h => h.elim)
  exact (hbase.sawDrive n _ (hbase.driveEvent_brand ..)).spares.reads F.DP_STATUS.STATE n 0 (by simp [portWatch])

/-! ### Ready (R401) -/

/-- The port of a ready drive, with its queues. -/
def State.queuesMade (s : State) (n : Nat) (f : DriveFacts) : State :=
  let s := s.set F.DP_QUEUE.MQES f.mqes n
  let s := s.set F.DP_QUEUE.OUTSTANDING (s.outstanding n) n
  (s.setPort n { s.port n with q1 := drvQueue0, q2 := drvQueue0 }).stepped n 7

/-- A ready drive, in service; in a paired profile its key is registered. -/
def State.serving (s : State) (n : Nat) (f : DriveFacts) : State :=
  let s := ((s.queuesMade n f).portAt n dpReady).sawDrive n (.ready ((s.queuesMade n f).outstanding n) f.mqes)
  if s.profile = 0 then s
  else
    let s := s.resvCmd n 0x0D .resvKey
    if s.numbers then s.resvCmd n 0x11 .resvKey else s

theorem exec_driveReady (hon : s.dpOn n = true) (hport : PortIs s n dpChecking 6) (hfacts : (s.port n).facts = some f) (failed : Bool) :
    exec (.driveReady n failed) s = .next (if failed then s.holdDrive n 0x0C else s.serving n f) := by
  obtain ⟨hstate, hstep⟩ := hport
  change execDriveReady n failed s = _
  unfold execDriveReady
  simp only [hfacts, hon, hstate, hstep, beq_self_eq_true, Bool.and_self, if_true]
  rfl

theorem serving_watched (hn : n < 48) (f : DriveFacts) : Watched (portWatch n) True ((s.queuesMade n f).portAt n dpReady) (s.serving n f) := by
  have hbase := Watched.refl (portWatch_shielded hn) True ((s.queuesMade n f).portAt n dpReady)
  have hsaw := hbase.sawDrive n _ (hbase.driveEvent_ready _ n ((s.queuesMade n f).outstanding n) f.mqes)
  exact hsaw.ite (((hsaw.resvCmd ..).resvCmd ..).ite (hsaw.resvCmd ..))

theorem serving_shows (hn : n < 48) (f : DriveFacts) : PortIs (s.serving n f) n dpReady 7 ∧ (s.serving n f).get F.DP_QUEUE.MQES n = f.mqes % 2 ^ 16 := by
  have hwatched := serving_watched (s := s) hn f
  refine ⟨hwatched.portIs (portAt_portIs (by decide) (stepped_portIs rfl 7).2), ?_⟩
  have hmqes : F.DP_QUEUE.MQES.key n 0 ∈ portWatch n := by simp [portWatch]
  have hoff (f : Fld) (hf : f.off = 0x480000) (hst : f.st1 = 0x1000) (hlo : f.lo < 64) : f.key n 0 ≠ F.DP_QUEUE.MQES.key n 0 := by
    refine key_ne_of_at ?_ hlo (by decide)
    simp only [Fld.at, hf, hst, F.DP_QUEUE.MQES]
    omega
  calc (s.serving n f).get F.DP_QUEUE.MQES n
      = ((s.queuesMade n f).portAt n dpReady).get F.DP_QUEUE.MQES n := hwatched.spares.reads _ n 0 hmqes
    _ = ((s.queuesMade n f).portTo n dpReady).get F.DP_QUEUE.MQES n := get_set_other _ _ _ _ _ _ _ _ (hoff _ rfl rfl (by decide))
    _ = (s.queuesMade n f).get F.DP_QUEUE.MQES n := portTo_get _ _ hmqes (hoff _ rfl rfl (by decide))
    _ = (s.set F.DP_QUEUE.MQES f.mqes n).get F.DP_QUEUE.MQES n := get_set_other _ _ _ _ _ _ _ _ (key_ne_of_lo (by decide) (by decide) (by decide))
    _ = f.mqes % 2 ^ 16 := get_set_same ..

/-! ### Training that takes too long (R404) -/

theorem exec_driveBringupTimeout (hon : s.dpOn n = true) (hstate : s.dpState n = dpTraining) (hsince : (s.port n).sinceNs + 1000000000 ≤ s.dev.timeNs) (cap : Nat) :
    exec (.driveBringupTimeout n cap) s = .next (if (s.port n).retrains < 2 then s.setPort n { s.port n with retrains := (s.port n).retrains + 1, sinceNs := s.dev.timeNs }
      else s.holdDrive n 0x01) := by
  have hlimit : s.bringupLimit n cap = some (1000000000, 0x01) := if_pos hstate
  change execDriveBringupTimeout n cap s = _
  unfold execDriveBringupTimeout
  simp only [hlimit, hon, hsince, decide_true, Bool.and_self, if_true, hstate, true_and]

end

/-- Settles O39: each row's step goes through `portAt`, `stepped` and `holdDrive`; what the observation of a drive does in step state leaves the port's bring-up. -/
theorem driveBringUp : Obligations.DriveBringUp := by
  unfold Obligations.DriveBringUp
  intro n s hon
  have hn := lt_of_dpOn hon
  refine ⟨fun hport hbegun hsince => ?_, fun rate width flit hstate hlow hhigh hmax hwidth => ⟨fun hpass => ?_, fun hone hno => ?_⟩, fun hport => ?_, fun hport => ⟨?_, ?_⟩,
    fun f bad hport => ⟨fun hnone => ?_, fun r hreason => ?_⟩, fun r f hport hfacts => ⟨fun hbrand h => ?_, fun b hbrand hshelf => ?_, fun b hbrand hshelf hreason => ?_⟩,
    fun f hport hfacts => ⟨?_, ?_⟩, fun cap hstate hsince => ⟨fun hfew => ?_, fun hmany => ?_⟩⟩
  · refine ⟨_, exec_drivePerstRelease hon hport.1 hbegun hsince, portAt_portIs (by decide) (stepped_portIs rfl 1).2, ?_⟩
    rw [portAt_port, State.stepped, port_setPort, if_pos rfl, port_setPort, if_pos rfl]
  · refine ⟨_, exec_driveLinkTrained hon hstate hlow hhigh hwidth, ?_⟩
    have hflag : (s.linkShown n rate width flit).dpFlag n 3 = s.dpFlag n 3 := (linkShown_kept hn rate width flit).dpFlag 3
    rw [if_neg]
    · exact linkTrained_passes hn (by omega) (by omega)
    · rw [hflag]
      rintro ⟨hone, hno⟩
      rcases hpass with htwo | hyes
      · omega
      · rw [hno] at hyes
        cases hyes
  · have hflag : (s.linkShown n rate width flit).dpFlag n 3 = s.dpFlag n 3 := (linkShown_kept hn rate width flit).dpFlag 3
    refine ⟨_, (exec_driveLinkTrained hon hstate hlow hhigh hwidth).trans (congrArg Host.Outcome.next (if_pos ⟨hone, hflag.trans hno⟩)), holdDrive_held hn (by omega) _⟩
  · exact ⟨_, exec_driveConfigDone hon hport, stepped_portIs hport.1 3⟩
  · exact ⟨_, exec_driveControllerReady hon hport false, controllerReady_portIs s n⟩
  · exact ⟨_, exec_driveControllerReady hon hport true, holdDrive_held hn (by omega) s⟩
  · refine ⟨_, (exec_driveChecksDone hon hport f bad).trans (by rw [checkReason_factsRead, hnone]), stepped_portIs ((factsRead_kept hn f).dpState.trans hport.1) 5, ?_⟩
    rw [State.stepped, port_setPort, if_pos rfl, (factsRead_kept hn f).port, port_setPort, if_pos rfl]
  · exact ⟨_, (exec_driveChecksDone hon hport f bad).trans (by rw [checkReason_factsRead, hreason]), holdDrive_held hn (checkReason_lt hreason) _⟩
  · obtain ⟨u, hu⟩ := exec_driveBrandRead_none hon hport hfacts hbrand h
    exact ⟨_, hu, holdDrive_held hn (by omega) u⟩
  · obtain ⟨u, hu⟩ := exec_driveBrandRead_foreign hon hport hfacts hbrand hshelf
    exact ⟨_, hu, holdDrive_held hn (by omega) u⟩
  · obtain ⟨idx, hidx⟩ := exec_driveBrandRead_own hon hport hfacts hbrand hshelf hreason
    exact ⟨_, hidx, stepped_portIs ((brandSeen_state hn b idx).trans hport.1) 6⟩
  · exact ⟨_, exec_driveReady hon hport hfacts false, serving_shows hn f⟩
  · exact ⟨_, exec_driveReady hon hport hfacts true, holdDrive_held hn (by omega) s⟩
  · refine ⟨_, (exec_driveBringupTimeout hon hstate hsince cap).trans (congrArg Host.Outcome.next (if_pos hfew)), hstate, ?_⟩
    rw [port_setPort, if_pos rfl]
  · exact ⟨_, (exec_driveBringupTimeout hon hstate hsince cap).trans (congrArg Host.Outcome.next (if_neg (Nat.not_lt.mpr hmany))), holdDrive_held hn (by omega) s⟩

end Sys2Proof.Machine
end

section
/-!
PROOFS. O41 (12_drive_ports.md, R402, R411, R414, R415, R417): completion entries, admin timeouts and the polls of a drive.
-/
namespace Sys2Proof.Machine

/-! ## A drive controller that is reset (R411) -/

section
variable {W : List Nat} {P : Prop} {s t : State} {n : Nat}

theorem Watched.portDown (h : Watched W P s t) (sideB : Bool) (n : Nat) : Watched W P s (t.portDown sideB n) := by
  unfold State.portDown
  extract_lets was t1 t2 t3
  have h2 : Watched W P s t2 := (h.setReady sideB n false).foldl _ (fun _ c h => h.orphan c)
  have h3 : Watched W P s t3 := h2.regone
  exact h3.vaultChanged.ite h3

/-- The port of a drive whose controller is being reset. -/
def State.resetting (s : State) (n : Nat) : State :=
  ((s.setPort n { s.port n with step := 3, sinceNs := s.dev.timeNs, q1 := drvQueue0, q2 := drvQueue0, admin := [] }).portTo n 9).set F.DP_STATUS.REASON 0 n

theorem resetDrive_eq (s : State) (n : Nat) :
    s.resetDrive s.sideB n = (if (s.resetting n).consumes then (s.resetting n).observe (.driveEvent n (.reset false)) else s.resetting n).portDown s.sideB n := by
  unfold State.resetDrive
  simp only [if_true]
  rfl

theorem resetting_shows : PortIs (s.resetting n) n dpResetting 3 ∧ ((s.resetting n).port n).admin = [] := by
  have hport : (s.resetting n).port n = { s.port n with step := 3, sinceNs := s.dev.timeNs, q1 := drvQueue0, q2 := drvQueue0, admin := [] } := by
    refine (portAt_port 9 n).trans ?_
    rw [port_setPort, if_pos rfl]
  exact ⟨⟨portAt_state (st := 9) (by decide), by rw [hport]⟩, by rw [hport]⟩

theorem resetDrive_shows (hn : n < 48) : PortIs (s.resetDrive s.sideB n) n dpResetting 3 ∧ ((s.resetDrive s.sideB n).port n).admin = [] := by
  obtain ⟨hport, hadmin⟩ := resetting_shows (s := s) (n := n)
  have hbase := Watched.refl (portWatch_shielded hn) True (s.resetting n)
  have hdown : Watched (portWatch n) True (s.resetting n) (s.resetDrive s.sideB n) := by
    rw [resetDrive_eq]
    exact Watched.portDown ((hbase.observe _).ite hbase) _ _
  exact ⟨hdown.portIs hport, (congrArg Prod.snd (hdown.ports trivial n)).trans hadmin⟩

theorem exec_adminCmdTimeout {op t0 : Nat} {rest : List (Nat × Nat)} (hadmin : (s.port n).admin = (op, t0) :: rest) (hdue : t0 + s.adminNs n ≤ s.dev.timeNs) :
    exec (.adminCmdTimeout n) s = .next (s.resetDrive s.sideB n) := by
  change execAdminCmdTimeout n s = _
  unfold execAdminCmdTimeout
  simp only [hadmin, if_pos hdue]

end

/-! ## What is numbered (R309) -/

section
variable {s t : State} {n : Nat}

theorem inPair_of_alone (h : s.role = roleAlone) : s.inPair = false := by
  unfold State.inPair
  rw [h]
  rfl

/-- What a controller that serves alone observes is the next record of its stream. -/
theorem observe_numbered (h : s.role = roleAlone) (i : Input) : ∃ r ∈ (s.observe i).wsw.inputs, r.step = s.wsw.lastNumber + 1 ∧ r.input = i := by
  rw [observe_inputs s i (numbers_of_alone h)]
  exact ⟨_, List.mem_append_right _ List.mem_cons_self, rfl, rfl⟩

theorem sawDrive_alone (h : s.role = roleAlone) (n : Nat) (e : DrvEvent) : s.sawDrive n e = s.observe (.driveEvent n e) := if_pos (consumes_of_alone h)

theorem dpEvent_wsw (s : State) (n k : Nat) : (s.dpEvent n k).wsw = s.wsw := raise_wsw ..

/-- The state before the health of a drive enters the stream. -/
def State.warned (s : State) (n w : Nat) : State := if w = 0 then s else s.dpEvent n 3

theorem health_eq (s : State) (n w temp used flags : Nat) : s.health n w temp used flags = (s.warned n w).sawDrive n (.health w temp used flags) := rfl

theorem warned_kept (s : State) (n w : Nat) : PortKept n s (s.warned n w) ∧ PairKept s (s.warned n w) ∧ (s.warned n w).wsw = s.wsw := by
  unfold State.warned
  split
  · exact ⟨.refl n s, .refl s, rfl⟩
  · exact ⟨(PortKept.refl n s).dpEvent (by omega), (PairKept.refl s).raise _, dpEvent_wsw ..⟩

theorem health_entered (hn : n < 48) (h : s.role = roleAlone) (w temp used flags : Nat) :
    (s.health n w temp used flags).port n = s.port n ∧
      ∃ r ∈ (s.health n w temp used flags).wsw.inputs, r.step = s.wsw.lastNumber + 1 ∧ r.input = .driveEvent n (.health w temp used flags) := by
  obtain ⟨hkept, hpair, hwsw⟩ := warned_kept s n w
  have hrole : (s.warned n w).role = roleAlone := hpair.role.trans h
  rw [health_eq, sawDrive_alone hrole, ← hwsw]
  exact ⟨(hkept.observe hn _).port, observe_numbered hrole _⟩

/-! ## Completion entries (R402) -/

theorem exec_driveCqeRx_admin (hon : s.dpOn n = true) (hstate : s.dpState n ≠ dpContained) {e : DrvCqe} {op t0 : Nat} {rest : List (Nat × Nat)} (hsq : e.sqid = 0)
    (hadmin : (s.port n).admin = (op, t0) :: rest) :
    exec (.driveCqeRx n e) s = .next ((s.setPort n { s.port n with admin := rest }).sawDrive n (.admin op (e.sct * 256 + e.sc) e.dw0)) := by
  change execDriveCqeRx n e s = _
  unfold execDriveCqeRx
  rw [if_neg (by simp [hon, hstate]), if_pos hsq]
  split
  · rename_i h
    rw [hadmin] at h
    cases h
  · rename_i h
    rw [hadmin] at h
    cases h
    rfl

/-- The queue of a completion entry, once the entry has been taken. -/
def State.cqTaken (s : State) (n q : Nat) : DrvQueue :=
  let x := (s.port n).ioq q
  { x with cqHead := (x.cqHead + 1) % max 1 (s.queueSize n q), used := x.used - 1, unreported := x.unreported + 1, oldestNs := if x.unreported = 0 then s.dev.timeNs else x.oldestNs }

/-- The state in which an entry is taken and counted. -/
def State.cqeTaken (s : State) (n q : Nat) : State := (s.setPort n ((s.port n).setIoq q (s.cqTaken n q))).count 6 n 3

/-- The state once an entry has entered the stream, when it names a command. -/
def State.cqeEntered (s : State) (n : Nat) (e : DrvCqe) : State :=
  match s.cqeCmd s.sideB n e with
  | some c => (if e.sct = 0 ∧ e.sc = 0 then s.count 6 n (if c.op = nvWrite then 2 else 1) c.nlb else s).observe (.driveCqe n (s.checkOf c) e)
  | none => s

theorem exec_driveCqeRx_io (hon : s.dpOn n = true) (hstate : s.dpState n ≠ dpContained) {e : DrvCqe} (hsq : e.sqid ≠ 0) :
    exec (.driveCqeRx n e) s = .next (
      let t := (s.cqeTaken n e.sqid).cqeEntered n e
      if 32 ≤ (s.cqTaken n e.sqid).unreported then t.cqDoorbell n e.sqid else t) := by
  change execDriveCqeRx n e s = _
  unfold execDriveCqeRx
  rw [if_neg (by simp [hon, hstate]), if_neg hsq]
  rfl

theorem PortKept.count {u : State} (hn : n < 48) (h : PortKept n u t) (unit inst event weight : Nat) : PortKept n u (t.count unit inst event weight) :=
  h.trans ⟨fun g hg => ((Spares.refl _ t).count (portWatch_shielded hn).guarded ..).reads g n 0 hg, by unfold State.port; rw [count_drv], count_pat ..⟩

/-- The queues of a port: one that is written, and the other one. -/
theorem ioq_setIoq (p : DrvPort) (q : Nat) (x : DrvQueue) : (p.setIoq q x).ioq q = x := by
  unfold DrvPort.setIoq DrvPort.ioq
  split <;> rfl

theorem cqeTaken_port (q : Nat) : (s.cqeTaken n q).port n = (s.port n).setIoq q (s.cqTaken n q) := by
  unfold State.cqeTaken State.port
  rw [count_drv]
  exact (port_setPort s n n _).trans (if_pos rfl)

theorem cqeTaken_pair (s : State) (n q : Nat) : PairKept s (s.cqeTaken n q) := by
  refine PairKept.count ?_ ..
  exact (PairKept.refl s).of_regs rfl

theorem cqeTaken_cmd (e : DrvCqe) : (s.cqeTaken n e.sqid).cqeCmd (s.cqeTaken n e.sqid).sideB n e = s.cqeCmd s.sideB n e := by
  have hcmds : (s.cqeTaken n e.sqid).drv.cmds = s.drv.cmds := by
    unfold State.cqeTaken
    rw [count_drv]
    rfl
  unfold State.cqeCmd
  rw [(cqeTaken_pair s n e.sqid).sideB, hcmds]

theorem cqeEntered_kept (hn : n < 48) (e : DrvCqe) : PortKept n s (s.cqeEntered n e) := by
  unfold State.cqeEntered
  split
  · refine PortKept.observe hn ?_ _
    split
    · exact (PortKept.refl n s).count hn ..
    · exact .refl n s
  · exact .refl n s

/-- An entry that names a command of a controller that serves alone is the next record of the stream. -/
theorem cqeEntered_numbered (hrole : s.role = roleAlone) {e : DrvCqe} {c : DrvCmd} (hcmd : s.cqeCmd s.sideB n e = some c) :
    ∃ r ∈ (s.cqeEntered n e).wsw.inputs, r.step = s.wsw.lastNumber + 1 ∧ ∃ k, r.input = .driveCqe n k e := by
  let u : State := if e.sct = 0 ∧ e.sc = 0 then s.count 6 n (if c.op = nvWrite then 2 else 1) c.nlb else s
  have hu : u.role = s.role ∧ u.wsw = s.wsw := by
    unfold u
    split
    · exact ⟨((PairKept.refl s).count ..).role, count_wsw ..⟩
    · exact ⟨rfl, rfl⟩
  have hentered : s.cqeEntered n e = u.observe (.driveCqe n (s.checkOf c) e) := by
    unfold State.cqeEntered
    rw [hcmd]
  obtain ⟨r, hr, hstep, hinput⟩ := observe_numbered (hu.1.trans hrole) (.driveCqe n (s.checkOf c) e)
  rw [hentered, ← hu.2]
  exact ⟨r, hr, hstep, _, hinput⟩

/-! ### The head doorbell -/

/-- Whether drive output is stopped hangs on three things. -/
theorem driveStopped_of_parts (hstopped : t.wsw.stopped = s.wsw.stopped) (hpwr : t.pwr = s.pwr) (htly : t.tly = s.tly) : t.driveStopped = s.driveStopped := by
  unfold State.driveStopped State.dumpsOn
  rw [hstopped, hpwr, htly]

theorem observe_stopped (s : State) (i : Input) : (s.observe i).wsw.stopped = s.wsw.stopped := by
  unfold State.observe
  extract_lets origin wsw v
  split
  · have h := congrArg Wsw.stopped (number_unsent v v.sideB false origin i)
    exact h
  · split
    · have h := congrArg Wsw.stopped (sendLink_unsent
        ({ v with wsw := { v.wsw with forwarded := v.wsw.forwarded ++ [⟨0, v.sideB, false, origin, i⟩] } } : State) (.forward ⟨0, v.sideB, false, origin, i⟩))
      exact h
    · rfl

theorem observe_driveStopped (s : State) (i : Input) : (s.observe i).driveStopped = s.driveStopped := driveStopped_of_parts (observe_stopped s i) (observe_pwr ..) (observe_tly ..)

theorem count_driveStopped (s : State) (unit inst event weight : Nat) : (s.count unit inst event weight).driveStopped = s.driveStopped :=
  driveStopped_of_parts (by rw [count_wsw]) (count_pwr ..) (count_tly ..)

theorem cqeEntered_driveStopped (e : DrvCqe) : (s.cqeEntered n e).driveStopped = s.driveStopped := by
  unfold State.cqeEntered
  split
  · rw [observe_driveStopped]
    split
    · exact count_driveStopped ..
    · rfl
  · rfl

theorem cqeTaken_driveStopped (q : Nat) : (s.cqeTaken n q).driveStopped = s.driveStopped := (count_driveStopped ..).trans rfl

theorem cqeEntered_out (e : DrvCqe) : ∃ l, (s.cqeEntered n e).out = l ++ s.out := by
  unfold State.cqeEntered
  split
  · refine (keeps_State_observe (pK := false) (AK := 8389155 ||| 8388643) _ rfl ?_).out
    split
    · exact keeps_State_count _ _ _ _ rfl (Keeps.refl ..)
    · exact Keeps.refl ..
  · exact ⟨[], rfl⟩

theorem cqDoorbell_writes {q : Nat} (hq : ((s.port n).ioq q).unreported ≠ 0) (hrun : s.driveStopped = false) :
    (((s.cqDoorbell n q).port n).ioq q).unreported = 0 ∧ (s.cqDoorbell n q).out = .doorbell n q false ((s.port n).ioq q).cqHead :: s.out := by
  unfold State.cqDoorbell
  extract_lets x
  rw [if_neg (by simp [x, hq, hrun])]
  refine ⟨?_, rfl⟩
  show (((s.setPort n ((s.port n).setIoq q { x with unreported := 0 })).port n).ioq q).unreported = 0
  rw [port_setPort, if_pos rfl, ioq_setIoq]

theorem exec_cqDoorbellTimer {q : Nat} (hq : ((s.port n).ioq q).unreported ≠ 0) (hdue : ((s.port n).ioq q).oldestNs + 4000 ≤ s.dev.timeNs) :
    exec (.cqDoorbellTimer n q) s = .next (s.cqDoorbell n q) := congrArg Host.Outcome.next (if_pos ⟨hq, hdue⟩)

/-! ## Polls (R417) -/

theorem exec_sidebandPoll (hon : s.dpOn n = true) (hrole : s.role = roleAlone) (hflag : s.dpFlag n 2 = true)
    (hdue : (s.port n).lastSbNs = 0 ∨ (s.port n).lastSbNs + 1000000000 ≤ s.dev.timeNs) (answer : Option (Nat × Nat × Nat)) :
    exec (.sidebandPoll n answer) s = .next (match answer with
      | some (w, t, u) => (s.setPort n { s.port n with lastSbNs := max 1 s.dev.timeNs, sbMissed := 0 }).health n w t u 2
      | none =>
        let v := s.setPort n { s.port n with lastSbNs := max 1 s.dev.timeNs, sbMissed := min 3 ((s.port n).sbMissed + 1) }
        if (s.port n).sbMissed = 2 then v.health n 0 0 0 4 else v) := by
  have hpolls : s.polls = true := by simp [State.polls, inPair_of_alone hrole, hrole]
  exact congrArg Host.Outcome.next (if_pos (by simpa [hpolls, hon, hflag] using hdue))

/-- The Get Log Page 0x02 of a SMART poll, sent. -/
def State.smartSent (s : State) (n : Nat) : State :=
  let s := s.emit (.sqe n 0 (s.drv.cidCtr % 65536) 0x02 0 0 false [] 0)
  { s with drv := { s.drv with cidCtr := s.drv.cidCtr + 1 } }

/-- A SMART poll that is answered. -/
def State.smartAnswered (s : State) (n : Nat) : State := ((s.smartSent n).setPort n { s.port n with lastSmartNs := max 1 s.dev.timeNs }).sawDrive n (.admin 0x02 0 0)

theorem exec_smartPoll (hon : s.dpOn n = true) (hrun : s.driveStopped = false) (hstate : s.dpState n = dpReady)
    (hdue : (s.port n).lastSmartNs = 0 ∨ (s.port n).lastSmartNs + 60000000000 ≤ s.dev.timeNs) (w k u : Nat) :
    exec (.smartPoll n (some (w, k, u))) s = .next ((s.smartAnswered n).health n w k u 1) := by
  exact congrArg Host.Outcome.next (if_pos (by simpa [hon, hrun, hstate] using hdue))

theorem health_out (s : State) (n w temp used flags : Nat) : ∃ l, (s.health n w temp used flags).out = l ++ s.out :=
  (keeps_State_health n w temp used flags rfl (Keeps.refl false 32634851 s)).out

theorem smartAnswered_shows (hn : n < 48) (hrole : s.role = roleAlone) :
    (s.smartAnswered n).role = roleAlone ∧ ((s.smartAnswered n).port n).lastSmartNs = max 1 s.dev.timeNs ∧ Emitted s (s.smartAnswered n) (.sqe n 0 (s.drv.cidCtr % 65536) 0x02 0 0 false [] 0) := by
  have hsent : ((s.smartSent n).setPort n { s.port n with lastSmartNs := max 1 s.dev.timeNs }).role = roleAlone := hrole
  unfold State.smartAnswered
  rw [sawDrive_alone hsent]
  obtain ⟨l, hl⟩ := (keeps_State_observe (.driveEvent n (.admin 0x02 0 0)) rfl (Keeps.refl false 8389155 ((s.smartSent n).setPort n { s.port n with lastSmartNs := max 1 s.dev.timeNs }))).out
  refine ⟨((PairKept.refl _).observe _).role.trans hsent, ?_, l ++ [_], hl.trans (List.append_assoc l [_] s.out).symm, List.mem_append_right _ List.mem_cons_self⟩
  rw [((PortKept.refl n _).observe hn _).port, port_setPort, if_pos rfl]

end

/-- Settles O41: a completion entry goes through its queue, the stream and the doorbell; a reset through `resetting` and the port that goes down. -/
theorem driveQueuesAndHealth : Obligations.DriveQueuesAndHealth := by
  unfold Obligations.DriveQueuesAndHealth
  intro n s hon
  have hn := lt_of_dpOn hon
  refine ⟨fun e hstate => ⟨fun op t0 rest hsq hadmin => ?_, fun c hsq hrole hcmd hfew => ?_, fun hsq hmany hrun => ?_⟩, fun hq hdue hrun => ?_, fun op t0 rest hadmin hdue => ?_,
    fun hrole hflag hdue => ⟨fun w k u => ?_, fun hmissed => ?_⟩, fun hrun hrole hstate hdue w k u => ?_⟩
  · refine ⟨_, exec_driveCqeRx_admin hon hstate hsq hadmin, ?_⟩
    rw [((PortKept.refl n _).sawDrive hn _ rfl).port, port_setPort, if_pos rfl]
  · have hbelow : ¬ 32 ≤ (s.cqTaken n e.sqid).unreported := by
      rw [hsq]
      simp only [State.cqTaken, DrvPort.ioq, if_neg (show ¬ (1 : Nat) = 2 by decide)]
      omega
    refine ⟨_, (exec_driveCqeRx_io hon hstate (by omega)).trans (congrArg Host.Outcome.next (if_neg hbelow)), ?_, ?_⟩
    · rw [(cqeEntered_kept hn e).port, cqeTaken_port, hsq]
      rfl
    · obtain ⟨r, hr, hstep, hinput⟩ := cqeEntered_numbered ((cqeTaken_pair s n e.sqid).role.trans hrole) ((cqeTaken_cmd e).trans hcmd)
      have hwsw : (s.cqeTaken n e.sqid).wsw = s.wsw := count_wsw ..
      exact ⟨r, hr, hstep.trans (by rw [hwsw]), hinput⟩
  · have habove : 32 ≤ (s.cqTaken n e.sqid).unreported := by
      rw [hsq]
      simp only [State.cqTaken, DrvPort.ioq, if_neg (show ¬ (1 : Nat) = 2 by decide)]
      omega
    have hqueue : (((s.cqeTaken n e.sqid).cqeEntered n e).port n).ioq 1 = s.cqTaken n 1 := by
      rw [(cqeEntered_kept hn e).port, cqeTaken_port, hsq, ioq_setIoq]
    have hrun' : ((s.cqeTaken n e.sqid).cqeEntered n e).driveStopped = false := by rw [cqeEntered_driveStopped, cqeTaken_driveStopped, hrun]
    obtain ⟨hzero, hout⟩ := cqDoorbell_writes (q := 1) (by rw [hqueue]; exact Nat.succ_ne_zero _) hrun'
    obtain ⟨l, hl⟩ := cqeEntered_out (s := s.cqeTaken n e.sqid) (n := n) e
    obtain ⟨l', hl'⟩ : ∃ l, (s.cqeTaken n e.sqid).out = l ++ s.out := (keeps_State_count 6 n 3 1 rfl (Keeps.refl false 8388643 (s.setPort n ((s.port n).setIoq e.sqid (s.cqTaken n e.sqid))))).out
    refine ⟨_, (exec_driveCqeRx_io hon hstate (by omega)).trans (congrArg Host.Outcome.next (if_pos habove)), ?_, _ :: (l ++ l'), ?_, List.mem_cons_self⟩
    · rw [hsq] at hzero ⊢
      exact hzero
    · rw [hsq] at hout hl hl' ⊢
      rw [hsq] at hqueue
      rw [hout, hl, hl', hqueue, List.cons_append, List.append_assoc]
      rfl
  · obtain ⟨hzero, hout⟩ := cqDoorbell_writes (s := s) (n := n) (q := 2) hq hrun
    exact ⟨_, exec_cqDoorbellTimer (q := 2) hq hdue, hzero, [_], hout, List.mem_singleton.mpr rfl⟩
  · exact ⟨_, exec_adminCmdTimeout hadmin hdue, resetDrive_shows hn⟩
  · obtain ⟨hport, hentered⟩ := health_entered (s := s.setPort n { s.port n with lastSbNs := max 1 s.dev.timeNs, sbMissed := 0 }) hn hrole w k u 2
    rw [port_setPort, if_pos rfl] at hport
    exact ⟨_, exec_sidebandPoll hon hrole hflag hdue _, by rw [hport], by rw [hport], hentered⟩
  · obtain ⟨-, hentered⟩ := health_entered (s := s.setPort n { s.port n with lastSbNs := max 1 s.dev.timeNs, sbMissed := min 3 ((s.port n).sbMissed + 1) }) hn hrole 0 0 0 4
    exact ⟨_, (exec_sidebandPoll hon hrole hflag hdue none).trans (congrArg Host.Outcome.next (if_pos hmissed)), hentered⟩
  · obtain ⟨hrole', hlast, l, hl, hsent⟩ := smartAnswered_shows (s := s) hn hrole
    obtain ⟨hport, r, hr, -, hinput⟩ := health_entered hn hrole' w k u 1
    obtain ⟨l', hl'⟩ := health_out (s.smartAnswered n) n w k u 1
    refine ⟨_, exec_smartPoll hon hrun hstate hdue w k u, ⟨l' ++ l, by rw [hl', hl, List.append_assoc], List.mem_append_right _ hsent⟩, by rw [hport, hlast], r, hr, hinput⟩

end Sys2Proof.Machine
end

section
/-!
PROOFS. O58 (18_power_reset_boot.md, R525, R537 to R548): HOLDUP_OK, Drowse, Fallow and wake.
-/
namespace Sys2Proof.Machine

/-! ## Islands -/

/-- The numbers below `k` that `f` picks, as bits. -/
def bitsBelow (f : Nat → Bool) (k : Nat) : Nat := (((List.range k).filter f).map (fun i => 2 ^ i)).sum

theorem bitsBelow_succ (f : Nat → Bool) (k : Nat) : bitsBelow f (k + 1) = bitsBelow f k + if f k then 2 ^ k else 0 := by
  unfold bitsBelow
  rw [List.range_succ, List.filter_append, List.map_append, List.sum_append]
  cases hf : f k <;> simp [hf]

theorem bitsBelow_lt (f : Nat → Bool) (k : Nat) : bitsBelow f k < 2 ^ k := by
  induction k with
  | zero => exact Nat.one_pos
  | succ k ih =>
    rw [bitsBelow_succ, Nat.pow_succ]
    split <;> omega

theorem bitOf_bitsBelow (f : Nat → Bool) {k n : Nat} (hn : n < k) : bitOf (bitsBelow f k) n = f n := by
  induction k with
  | zero => omega
  | succ k ih =>
    rw [bitsBelow_succ, bitOf_eq_testBit]
    rcases Nat.lt_or_eq_of_le (Nat.le_of_lt_succ hn) with hlt | rfl
    · rw [← ih hlt, bitOf_eq_testBit]
      split
      · rw [Nat.add_comm, Nat.testBit_two_pow_add_gt hlt]
      · rfl
    · have hzero : (bitsBelow f n).testBit n = false := Nat.testBit_lt_two_pow (bitsBelow_lt f n)
      cases hf : f n
      · simpa using hzero
      · simp [Nat.add_comm, Nat.testBit_two_pow_add_eq, hzero]

section
variable {s t : State} {n : Nat}

/-- GLB_ISLAND_UP shows the islands that are neither gated nor in fault. -/
theorem gateIslands_up (is : List Nat) (hn : n < 38) : (s.gateIslands is).islandUp n = (!is.contains n && !s.dev.faulted.contains n) := by
  have hlt := bitsBelow_lt (fun i => !is.contains i && !s.dev.faulted.contains i) 38
  unfold State.islandUp
  exact (congrArg (bitOf · n) (get_set_of_lt (w := 38) rfl hlt _ _ _)).trans (bitOf_bitsBelow _ hn)

theorem raise_get_low (s : State) (e : Nat) (g : Fld) (hoff : g.off < 0x20000) (hlo : g.lo < 64) : (s.raise e).get g = s.get g := by
  refine get_raise _ _ _ _ _ ?_
  simp only [Fld.key, Fld.at, F.EVT_STATUS.STATUS]
  omega

/-! ## The power state -/

/-- The power state and the point of no return. -/
def powerWatch : List Nat := [F.PWR_STATE.STATE.key 0 0, F.PWR_STATE.PONR.key 0 0]

theorem powerWatch_keys : ∀ k ∈ powerWatch, 0x800000 * 64 ≤ k ∧ k < 0x800010 * 64 := by decide

theorem powerWatch_shielded : Shielded powerWatch := ⟨⟨by decide, by decide⟩, by decide⟩

theorem power_raise (s : State) (e : Nat) : (s.raise e).power = s.power := by
  refine get_raise _ _ _ _ _ ?_
  simp only [Fld.key, Fld.at, F.EVT_STATUS.STATUS, F.PWR_STATE.STATE]
  omega

theorem power_set {st : Nat} (hst : st < 16) (s : State) : (s.set F.PWR_STATE.STATE st).power = st := get_set_of_lt (w := 4) rfl hst _ _ _

/-! ## What is recognised in Solo (R460, R524) -/

theorem stepWrite_alone (h : SoloAlone s) (src : Src) (w : StepWrite) (f : State → State) : s.stepWrite src w f = f s := by
  unfold State.stepWrite
  rw [if_pos (Or.inl ⟨h.2, by simp [soloAlone_not_inPair h]⟩)]

theorem recognised_alone (h : SoloAlone s) (w : StepWrite) (f : State → State) : s.recognised w f = f s := by
  unfold State.recognised
  split
  · exact stepWrite_alone h ..
  · rfl

/-! ## HOLDUP_OK (R525) -/

theorem Watched.dirtyLevel {W : List Nat} {P : Prop} {u : State} (h : Watched W P s u) : Watched W P s u.dirtyLevel := by
  refine Watched.ite (Watched.ite (h.same rfl) h) (Watched.ite (Watched.raise ?_ _) h)
  exact h.same rfl

/-- A change of HOLDUP_OK on the pins. -/
def State.holdupPins (s : State) (ok : Bool) : State :=
  let s := s.setFlag F.PWR_PINS.HOLDUP_OK ok
  if ok then s else s.setFlag F.PWR_PINS.HOLDUP_DROP true

theorem holdupPins_get (s : State) (ok : Bool) (g : Fld) (hok : F.PWR_PINS.HOLDUP_OK.key 0 0 ≠ g.key 0 0) (hdrop : F.PWR_PINS.HOLDUP_DROP.key 0 0 ≠ g.key 0 0) :
    (s.holdupPins ok).get g = s.get g := by
  unfold State.holdupPins
  split
  · exact get_setFlag_other _ _ _ _ _ _ _ _ hok
  · exact (get_setFlag_other _ _ _ _ _ _ _ _ hdrop).trans (get_setFlag_other _ _ _ _ _ _ _ _ hok)

theorem holdupPins_alone (h : SoloAlone s) (ok : Bool) : SoloAlone (s.holdupPins ok) :=
  ⟨(holdupPins_get s ok _ (by decide) (by decide)).trans h.1, (holdupPins_get s ok _ (by decide) (by decide)).trans h.2⟩

theorem holdupPins_ok (s : State) (ok : Bool) : (s.holdupPins ok).flag F.PWR_PINS.HOLDUP_OK = ok := by
  unfold State.holdupPins
  cases ok
  · unfold State.flag
    exact (congrArg (· == 1) (get_setFlag_other _ _ _ _ _ _ _ _ (by decide))).trans (flag_setFlag_same _ _ _ _ _ rfl)
  · exact flag_setFlag_same _ _ _ _ _ rfl

/-- This side's own HOLDUP_OK in step state. -/
def State.ownHoldup (s : State) (ok : Bool) : State := { s with pwr := { s.pwr with holdupLow := !ok } }

theorem holdupStep_own (s : State) (ok : Bool) : s.holdupStep s.sideB ok = (s.ownHoldup ok).showThrough := by
  unfold State.holdupStep
  simp only [beq_self_eq_true, cond_true]
  rfl

theorem writeThrough_alone (h : s.role = roleAlone) : s.writeThrough = s.pwr.holdupLow := by
  unfold State.writeThrough
  rw [inPair_of_alone h]
  simp

theorem exec_holdupChange {ok : Bool} (halone : SoloAlone s) (hpin : s.flag F.PWR_PINS.HOLDUP_OK = !ok) :
    exec (.holdupChange ok) s = .next (((s.holdupPins ok).ownHoldup ok).showThrough) := by
  refine congrArg Host.Outcome.next ((if_neg (by rw [hpin]; cases ok <;> decide)).trans ?_)
  exact (recognised_alone (holdupPins_alone halone ok) _ _).trans (holdupStep_own _ ok)

/-- Write-through that begins: only WRITE_THROUGH and its event change. -/
theorem showThrough_begins (hlow : s.writeThrough = true) (hwas : s.flag F.PWR_STATE.WRITE_THROUGH = false) : s.showThrough = (s.setFlag F.PWR_STATE.WRITE_THROUGH true).raise 0x005 := by
  unfold State.showThrough
  rw [hlow, hwas]
  rfl

theorem showThrough_ends (hlow : s.writeThrough = false) (hwas : s.flag F.PWR_STATE.WRITE_THROUGH = true) :
    s.showThrough = ((s.setFlag F.PWR_STATE.WRITE_THROUGH false).ackWrites.dirtyLevel).raise 0x006 := by
  unfold State.showThrough
  rw [hlow, hwas]
  rfl

theorem ackWrites_pwr (s : State) : s.ackWrites.dirtyLevel.pwr = s.pwr :=
  ((keeps_State_dirtyLevel rfl (Keeps.refl false 8396835 s.ackWrites)).part .pwr (by decide)).trans ((keeps_State_ackWrites rfl (Keeps.refl false 25245603 s)).part .pwr (by decide))

/-- What write-through hangs on. -/
def holdupWatch : List Nat := [F.WSW_STATUS.ROLE.key 0 0, F.PWR_PINS.HOLDUP_OK.key 0 0, F.PWR_STATE.WRITE_THROUGH.key 0 0]

theorem holdupWatch_shielded : Shielded holdupWatch := ⟨⟨by decide, by decide⟩, by decide⟩

/-- What a change of HOLDUP_OK shows once write-through has followed. -/
theorem holdup_shows {u : State} {ok : Bool} (hrole : s.role = roleAlone) (hpin : s.flag F.PWR_PINS.HOLDUP_OK = ok) (hwas : s.flag F.PWR_STATE.WRITE_THROUGH = !ok)
    (hlow : s.pwr.holdupLow = !ok) (hu : Watched holdupWatch False s u) (hpwr : u.pwr = s.pwr) :
    u.flag F.PWR_PINS.HOLDUP_OK = ok ∧ u.flag F.PWR_STATE.WRITE_THROUGH = !ok ∧ u.writeThrough = !ok := by
  refine ⟨(hu.spares.flag _ _ _ (by decide)).trans hpin, (hu.spares.flag _ _ _ (by decide)).trans hwas, ?_⟩
  rw [writeThrough_alone ((hu.spares.reads F.WSW_STATUS.ROLE 0 0 (by decide)).trans hrole), hpwr, hlow]

theorem holdup_low (halone : SoloAlone s) (hwas : s.flag F.PWR_STATE.WRITE_THROUGH = false) :
    let t := ((s.holdupPins false).ownHoldup false).showThrough
    t.flag F.PWR_PINS.HOLDUP_OK = false ∧ t.flag F.PWR_STATE.WRITE_THROUGH = true ∧ t.writeThrough = true ∧ t.flag F.PWR_PINS.HOLDUP_DROP = true ∧ Raised t 0x005 := by
  intro t
  have hrole : ((s.holdupPins false).ownHoldup false).role = roleAlone := (holdupPins_alone halone false).1
  have ht : t = (((s.holdupPins false).ownHoldup false).setFlag F.PWR_STATE.WRITE_THROUGH true).raise 0x005 :=
    showThrough_begins (writeThrough_alone hrole) ((congrArg (· == 1) (holdupPins_get s false F.PWR_STATE.WRITE_THROUGH (by decide) (by decide))).trans hwas)
  let v := ((s.holdupPins false).ownHoldup false).setFlag F.PWR_STATE.WRITE_THROUGH true
  have hget (g : Fld) (hk : F.PWR_STATE.WRITE_THROUGH.key 0 0 ≠ g.key 0 0) : v.get g = (s.holdupPins false).get g := get_setFlag_other _ _ _ _ _ _ _ _ hk
  obtain ⟨hok, hthrough, hstate⟩ := holdup_shows (s := v) (u := v.raise 0x005) (ok := false) ((hget _ (by decide)).trans (holdupPins_alone halone false).1)
    ((congrArg (· == 1) (hget F.PWR_PINS.HOLDUP_OK (by decide))).trans (holdupPins_ok s false)) (flag_setFlag_same _ _ _ _ _ rfl) rfl ((Watched.refl holdupWatch_shielded False v).raise 0x005)
    (raise_pwr ..)
  rw [ht]
  refine ⟨hok, hthrough, hstate, ?_, raise_bit _ _⟩
  unfold State.flag
  rw [get_raise _ 0x005 _ _ _ (by decide)]
  exact (congrArg (· == 1) (hget F.PWR_PINS.HOLDUP_DROP (by decide))).trans (flag_setFlag_same _ _ _ _ _ rfl)

theorem holdup_high (halone : SoloAlone s) (hwas : s.flag F.PWR_STATE.WRITE_THROUGH = true) :
    let t := ((s.holdupPins true).ownHoldup true).showThrough
    t.flag F.PWR_PINS.HOLDUP_OK = true ∧ t.flag F.PWR_STATE.WRITE_THROUGH = false ∧ t.writeThrough = false ∧ Raised t 0x006 := by
  intro t
  have hrole : ((s.holdupPins true).ownHoldup true).role = roleAlone := (holdupPins_alone halone true).1
  have ht : t = ((((s.holdupPins true).ownHoldup true).setFlag F.PWR_STATE.WRITE_THROUGH false).ackWrites.dirtyLevel).raise 0x006 :=
    showThrough_ends (writeThrough_alone hrole) ((congrArg (· == 1) (holdupPins_get s true F.PWR_STATE.WRITE_THROUGH (by decide) (by decide))).trans hwas)
  let v := ((s.holdupPins true).ownHoldup true).setFlag F.PWR_STATE.WRITE_THROUGH false
  have hget (g : Fld) (hk : F.PWR_STATE.WRITE_THROUGH.key 0 0 ≠ g.key 0 0) : v.get g = (s.holdupPins true).get g := get_setFlag_other _ _ _ _ _ _ _ _ hk
  obtain ⟨hok, hthrough, hstate⟩ := holdup_shows (s := v) (u := (v.ackWrites.dirtyLevel).raise 0x006) (ok := true) ((hget _ (by decide)).trans (holdupPins_alone halone true).1)
    ((congrArg (· == 1) (hget F.PWR_PINS.HOLDUP_OK (by decide))).trans (holdupPins_ok s true)) (flag_setFlag_same _ _ _ _ _ rfl) rfl
    ((Watched.refl holdupWatch_shielded False v).ackWrites.dirtyLevel.raise 0x006) ((raise_pwr ..).trans (ackWrites_pwr v))
  rw [ht]
  exact ⟨hok, hthrough, hstate, raise_bit _ _⟩

/-! ## Entry (R537, R538, R540) -/

theorem enter_refused {target : Nat} (h : s.entryBlocked = true ∨ s.entryFrom target = false) : s.enter target = (s, false) := by
  unfold State.enter
  exact if_pos (h.imp_right (fun h => by rw [h]; rfl))

/-- An entry from Active, before its first step. -/
def State.entering (s : State) (st : Nat) : State := (({ s with pwr := { s.pwr with entryStep := 0 } }).set F.PWR_STATE.STATE st).raise 0x00C

theorem enter_active {target : Nat} (hfree : s.entryBlocked = false) (hactive : s.power = stActive) (htarget : target = 1 ∨ target = 2) :
    (s.enter target).1 = (s.entering (if target = 1 then stToDrowse else stToFallow)).entryAdvance := by
  have hfrom : s.entryFrom target = true := by
    rcases htarget with rfl | rfl <;> simp [State.entryFrom, hactive]
  unfold State.enter
  rw [if_neg (by simp [hfree, hfrom]), if_neg (by rw [hactive]; decide)]
  rfl

theorem entering_shows {st : Nat} (hst : st < 16) (s : State) : (s.entering st).power = st ∧ Raised (s.entering st) 0x00C := ⟨(power_raise _ 0x00C).trans (power_set hst _), raise_bit _ _⟩

theorem entryAdvance_other (h : s.power ≠ stToFallow) : s.entryAdvance = s := if_pos (Or.inl h)

/-- A Fallow entry whose first step waits for the destage. -/
theorem entryAdvance_waits (hstep : s.pwr.entryStep = 0) (hdirty : s.cht.staging ≠ []) : s.entryAdvance = s := by
  have hdestaged : s.destaged = false := by
    unfold State.destaged
    cases hs : s.cht.staging with
    | nil => exact absurd hs hdirty
    | cons x l => rfl
  unfold State.entryAdvance
  split
  · rfl
  simp only [hstep, ne_eq, not_true_eq_false, false_and, if_false, hdestaged, Bool.false_eq_true]

theorem entering_drowse : (s.entering stToDrowse).entryAdvance = s.entering stToDrowse :=
  entryAdvance_other (by rw [(entering_shows (by decide) s).1]; decide)

theorem entering_fallow (hdirty : s.cht.staging ≠ []) : (s.entering stToFallow).entryAdvance = s.entering stToFallow := by
  refine entryAdvance_waits ?_ ?_
  · unfold State.entering
    rw [raise_pwr]
    rfl
  · unfold State.entering
    rw [raise_cht]
    exact hdirty

theorem exec_pwrCtlEnter {src : Src} {target : Nat} (halone : SoloAlone s) (hgate : s.gate src (F.PWR_CTL.ENTER.at 0 0) = .pass) :
    exec (.pwrCtlEnter src target) s = .next (if s.entryHeld = true ∨ (target ≠ 1 ∧ target ≠ 2) then s else (s.enter target).1) := by
  refine congrArg Host.Outcome.next ((busWrite_of_pass hgate _).trans ?_)
  rw [stepWrite_alone halone]

theorem exec_idlePowerEntry (halone : SoloAlone s) (hheld : s.entryHeld = false) (hfree : s.entryBlocked = false) :
    exec .idlePowerEntry s = .next (match s.idleDue with
      | some target => (s.enter target).1
      | none => s) := by
  change execIdlePowerEntry s = _
  unfold execIdlePowerEntry
  cases s.idleDue with
  | some target =>
    dsimp only
    rw [if_pos ⟨numbers_of_alone halone.1, by simp [hheld], by simp [hfree]⟩, recognised_alone halone]
  | none => rfl

/-! ## Work on every port in turn -/

/-- What one of the turns brings about, and the others leave, holds at the end. -/
theorem foldl_reaches {f : State → Nat → State} {l : List Nat} {Q I : State → Prop} (hl : n ∈ l) (hI : ∀ t m, I t → I (f t m)) (hset : ∀ t, I t → Q (f t n))
    (hkeep : ∀ t m, Q t → Q (f t m)) (h : I s) : Q (l.foldl f s) := by
  induction l generalizing s with
  | nil => cases hl
  | cons m l ih =>
    rcases List.mem_cons.mp hl with rfl | hl
    · exact List.foldlRecOn (motive := Q) l f (hset s h) (fun t ht m _ => hkeep t m ht)
    · exact ih hl (hI s m h)

theorem foldl_same {α β : Type} {f : State → α → State} {π : State → β} (l : List α) (hf : ∀ t x, π (f t x) = π t) (s : State) : π (l.foldl f s) = π s :=
  List.foldlRecOn (motive := fun t => π t = π s) l f rfl (fun t ht x _ => (hf t x).trans ht)

/-! ## Drowse (R538) -/

theorem drivesLow_low (hn : n < 48) (hready : s.dpState n = dpReady) : (s.drivesLow.port n).lowPower = true ∧ ∃ a ∈ (s.drivesLow.port n).admin, a.1 = 0x09 := by
  unfold State.drivesLow
  refine foldl_reaches (n := n) (I := fun t => t.dpState n = dpReady) (Q := fun t => (t.port n).lowPower = true ∧ ∃ a ∈ (t.port n).admin, a.1 = 0x09)
    (List.mem_range.mpr hn) (fun t m ht => ?_) (fun t ht => ?_) (fun t m ht => ?_) hready
  · dsimp only
    split <;> exact ht
  · dsimp only
    rw [if_pos ht, port_setPort, if_pos rfl]
    exact ⟨rfl, (0x09, t.dev.timeNs), List.mem_append_right _ List.mem_cons_self, rfl⟩
  · dsimp only
    split
    · rw [port_setPort]
      split
      · rename_i hm
        subst hm
        obtain ⟨-, a, ha, hcode⟩ := ht
        exact ⟨rfl, a, List.mem_append_left _ ha, hcode⟩
      · exact ht
    · exact ht

/-- The state in which clusters 2 and 3 are gated: the drives are in DRIVE_PS and the channels of those clusters have ended. -/
def State.clustersSaved (s : State) : State :=
  let s := s.drivesLow.endChannels [2, 3]
  { s with eng := { s.eng with saved := [2, 3] }, pwr := { s.pwr with drowseUs := s.nowUs } }

/-- A state that is shown once islands have been gated. -/
def State.gatedIn (s : State) (is : List Nat) (st : Nat) : State := (((s.gateIslands is).set F.PWR_STATE.STATE st)).raise 0x00C

/-- Drowse. -/
def State.drowsed (s : State) : State := s.clustersSaved.gatedIn [2, 3] stDrowse

theorem exec_drowseEntryDone (hpower : s.power = stToDrowse) (hcmds : s.drv.cmds = []) (hdestaged : s.destaged = true) : exec .drowseEntryDone s = .next s.drowsed :=
  congrArg Host.Outcome.next (if_pos ⟨hpower, hdestaged, by rw [hcmds]; rfl⟩)

theorem islandUp_raise_power (s : State) (st e n : Nat) : ((s.set F.PWR_STATE.STATE st).raise e).islandUp n = s.islandUp n := by
  unfold State.islandUp
  rw [raise_get_low _ _ _ (by decide) (by decide), get_set_other _ _ _ _ _ _ _ _ (by decide)]

theorem gatedIn_shows (s : State) (is : List Nat) {st : Nat} (hst : st < 16) : (s.gatedIn is st).power = st ∧ (s.gatedIn is st).dev.gated = is ∧
    (s.gatedIn is st).eng.saved = s.eng.saved ∧ Raised (s.gatedIn is st) 0x00C := by
  obtain ⟨l, hl⟩ := raise_dev ((s.gateIslands is).set F.PWR_STATE.STATE st) 0x00C
  exact ⟨(power_raise _ _).trans (power_set hst _), congrArg Dev.gated hl, raise_saved _ _, raise_bit _ _⟩

theorem gatedIn_islandUp (s : State) (is : List Nat) (st : Nat) (hn : n < 38) : (s.gatedIn is st).islandUp n = (!is.contains n && !s.dev.faulted.contains n) :=
  (islandUp_raise_power ..).trans (gateIslands_up is hn)

theorem drowsed_shows (s : State) : s.drowsed.power = stDrowse ∧ s.drowsed.dev.gated = [2, 3] ∧ s.drowsed.islandUp 2 = false ∧ s.drowsed.islandUp 3 = false ∧ s.drowsed.eng.saved = [2, 3] ∧
    Raised s.drowsed 0x00C := by
  obtain ⟨hpower, hgated, hsaved, hraised⟩ := gatedIn_shows s.clustersSaved [2, 3] (st := stDrowse) (by decide)
  unfold State.drowsed
  exact ⟨hpower, hgated, gatedIn_islandUp _ _ _ (by omega), gatedIn_islandUp _ _ _ (by omega), hsaved, hraised⟩

theorem gatedIn_drv (s : State) (is : List Nat) (st : Nat) : (s.gatedIn is st).drv = s.drv := by
  unfold State.gatedIn
  rw [raise_drv]
  rfl

theorem clustersSaved_drv (s : State) : s.clustersSaved.drv = s.drivesLow.drv := by
  have hend : (s.drivesLow.endChannels [2, 3]).drv = s.drivesLow.drv := (keeps_State_endChannels [2, 3] rfl (Keeps.refl false 25165859 s.drivesLow)).part .drv (by decide)
  unfold State.clustersSaved
  generalize s.drivesLow.endChannels [2, 3] = u at hend ⊢
  exact hend

theorem drowsed_port (s : State) (n : Nat) : s.drowsed.port n = s.drivesLow.port n := by
  unfold State.drowsed State.port
  rw [gatedIn_drv, clustersSaved_drv]

/-! ## Wake and abort (R544) -/

theorem driveAwake_get (t : State) (m : Nat) (hm : m < 48) (g : Fld) (hg : 0x800000 * 64 ≤ g.key 0 0) : (t.driveAwake m).get g = t.get g := by
  have hto (u : State) : (u.portTo m 4).get g = u.get g := by
    have hkey : F.DP_STATUS.STATE.key m 0 ≠ g.key 0 0 := by
      simp only [Fld.key, Fld.at, F.DP_STATUS.STATE] at hg ⊢
      omega
    have hstatus : F.EVT_STATUS.STATUS.key ((0x240 + 4 * m + 3) / 32) 0 ≠ g.key 0 0 := by
      simp only [Fld.key, Fld.at, F.EVT_STATUS.STATUS] at hg ⊢
      omega
    unfold State.portTo
    split
    · rfl
    · rw [get_raise _ _ _ _ _ hstatus, get_set_other _ _ _ _ _ _ _ _ hkey]
  unfold State.driveAwake
  dsimp only
  cases (t.port m).shutDown
  · cases (t.port m).lowPower <;> rfl
  · exact (hto _).trans rfl

theorem drivesAwake_get (t : State) (g : Fld) (hg : 0x800000 * 64 ≤ g.key 0 0) : t.drivesAwake.get g = t.get g :=
  List.foldlRecOn (motive := fun u => u.get g = t.get g) (List.range 48) State.driveAwake rfl (fun u hu m hm => (driveAwake_get u m (List.mem_range.mp hm) g hg).trans hu)

theorem abortEntry_shows (s : State) : s.abortEntry.power = stActive ∧ Raised s.abortEntry 0x00D ∧ s.abortEntry.get F.PWR_ENTRY_COUNT.COUNT = satIncr32 (s.get F.PWR_ENTRY_COUNT.COUNT) % 2 ^ 32 := by
  unfold State.abortEntry
  extract_lets pwr t
  have ht : t.get F.PWR_ENTRY_COUNT.COUNT = s.get F.PWR_ENTRY_COUNT.COUNT := drivesAwake_get _ _ (by decide)
  refine ⟨(power_raise _ _).trans (power_set (by decide) _), raise_bit _ _, ?_⟩
  rw [get_raise _ 0x00D _ _ _ (by decide), get_set_other _ _ _ _ _ _ _ _ (by decide), get_bump_same, ht]
  rfl

theorem beginWake_shows (s : State) : s.beginWake.power = stWaking ∧ s.beginWake.pwr.wakeNs = some s.dev.timeNs ∧ Raised s.beginWake 0x00E :=
  ⟨(power_raise _ 0x00E).trans (power_set (by decide) _), congrArg Pwr.wakeNs (raise_pwr _ 0x00E), raise_bit _ 0x00E⟩

theorem wakesOrAborts_wakeSeen (halone : SoloAlone s) : WakesOrAborts s (.next s.wakeSeen) := by
  have hsource (h : s.power = stToDrowse ∨ s.power = stDrowse ∨ s.power = stToFallow ∨ s.power = stFallow) : s.wakeSeen = s.wakeSource := (if_pos h).trans (recognised_alone halone _ _)
  refine ⟨fun h => ⟨_, rfl, ?_⟩, fun h => ⟨_, rfl, ?_⟩, fun hpower hponr => ⟨_, rfl, ?_⟩, fun hactive => ?_⟩
  · have hwake : s.wakeSource = s.beginWake := by
      unfold State.wakeSource
      rcases h with h | h <;> simp [h, stToDrowse, stDrowse, stFallow]
    rw [hsource (by tauto), hwake]
    exact beginWake_shows s
  · have habort : s.wakeSource = s.abortEntry := by
      unfold State.wakeSource
      rcases h with h | ⟨h, hponr⟩
      · simp [h]
      · simp [h, hponr, stToDrowse, stDrowse, stToFallow, stFallow]
    rw [hsource (by tauto), habort]
    exact abortEntry_shows s
  · have hwait : s.wakeSource = { s with pwr := { s.pwr with wakeWanted := true } } := by
      unfold State.wakeSource
      simp [hpower, hponr, stToDrowse, stDrowse, stToFallow, stFallow]
    rw [hsource (by tauto), hwait]
    exact ⟨hpower, rfl⟩
  · refine congrArg Host.Outcome.next (if_neg ?_)
    rw [hactive]
    decide

/-! ## The gates of the slots (R423, R434) -/

/-- Fields of drive ports and slots stand below those of the power unit. -/
theorem Watched.portField {P : Prop} (h : Watched powerWatch P s t) (f : Fld) (v : Nat) (hn : n < 48) (hoff : 0x480000 ≤ f.off ∧ f.off < 0x510000) (hst : f.st1 ≤ 0x1000) (hlo : f.lo < 64) :
    Watched powerWatch P s (t.set f v n) := by
  refine h.set f v n 0 (by omega) (fun hk => ?_)
  have hkey := (powerWatch_keys _ hk).1
  have hmul : n * f.st1 ≤ 47 * 0x1000 := Nat.mul_le_mul (by omega) hst
  unfold Fld.key Fld.at at hkey
  omega

theorem Watched.portTo {P : Prop} (h : Watched powerWatch P s t) (hn : n < 48) (st : Nat) : Watched powerWatch P s (t.portTo n st) :=
  h.ite ((h.portField F.DP_STATUS.STATE st hn (by decide) (by decide) (by decide)).raise _)

theorem Watched.linkDown {P : Prop} (h : Watched powerWatch P s t) (hn : n < 48) : Watched powerWatch P s (t.linkDown n) :=
  h.ite ((((h.portField F.DP_STATUS.GEN 0 hn (by decide) (by decide) (by decide)).portField F.DP_STATUS.WIDTH 0 hn (by decide) (by decide) (by decide)).portField F.DP_STATUS.FLIT 0 hn (by decide)
    (by decide) (by decide)).raise _)

theorem Watched.portPerst (h : Watched powerWatch False s t) (hn : n < 48) : Watched powerWatch False s (t.portPerst n) := by
  unfold State.portPerst
  extract_lets st was port v w
  have hv : Watched powerWatch False s v := (h.linkDown hn).setPort n _ (fun hP => hP.elim)
  have hw : Watched powerWatch False s w := (hv.portTo hn dpPowering).portField F.DP_STATUS.REASON 0 hn (by decide) (by decide) (by decide)
  exact h.ite ((hw.sawDrive n (.link false 0 0 false) (hw.portDown _ n)).ite hw)

theorem Watched.slotSeen {W : List Nat} {P : Prop} (h : Watched W P s t) (sideB : Bool) (n : Nat) (present : Bool) (sense : Nat) : Watched W P s (State.slotSeen sideB n present sense t) := by
  unfold State.slotSeen
  extract_lets p u
  have hu : Watched W P s u := h.same rfl
  exact Watched.ite (hu.low F.SLOT_CTL.ENABLE _ n 0) hu

theorem Watched.slotTo (h : Watched powerWatch False s t) (hn : n < 48) (q : SlotPath) : Watched powerWatch False s (t.slotTo n q) := by
  unfold State.slotTo
  extract_lets p q' t1 t2 t3 t4 t5
  have h1 : Watched powerWatch False s t1 := h.same rfl
  have h2 : Watched powerWatch False s t2 := h1.bump F.SLOT_PG_DROP.COUNT n 0
  have h3 : Watched powerWatch False s t3 := (h2.ite (h2.raise _)).ite h1
  have h4 : Watched powerWatch False s t4 := Watched.ite (h3.same rfl) h3
  have h5 : Watched powerWatch False s t5 := (h4.portPerst hn).ite h4
  exact Watched.ite (Watched.ite (h5.observe _) (h5.slotSeen ..)) h5

theorem Watched.gateUpdate (h : Watched powerWatch False s t) (hn : n < 48) (released : Bool) : Watched powerWatch False s (t.gateUpdate n released) := by
  unfold State.gateUpdate
  extract_lets p now
  refine Watched.ite (Watched.ite ?_ h) (h.ite (h.slotTo hn _))
  have hto := h.slotTo hn { p with st := chWaiting, cmdNs := now, released := released, timer10 := 0, timerNs := now, engaged := false, cause := 0 }
  exact Watched.ite (hto.slotTo hn _) hto

/-- The slots with the hold on or off, before their gates follow. -/
def State.withHold (s : State) (on : Bool) : State := { s with slot := { s.slot with hold := on } }

theorem holdSlots_watched (s : State) (on : Bool) : Watched powerWatch False (s.withHold on) (s.holdSlots on) :=
  List.foldlRecOn (motive := Watched powerWatch False (s.withHold on)) (List.range 48) _ (Watched.refl powerWatch_shielded False _) (fun _ ht _ hm => ht.gateUpdate (List.mem_range.mp hm) _)

/-! ## The end of a wake (R541, R545) -/

theorem Watched.drivesAwake (h : Watched powerWatch False s t) : Watched powerWatch False s t.drivesAwake := by
  refine List.foldlRecOn (motive := Watched powerWatch False s) (List.range 48) _ h (fun u hu m hm => ?_)
  unfold State.driveAwake
  dsimp only
  cases (u.port m).shutDown
  · cases (u.port m).lowPower
    · exact hu
    · exact hu.setPort m _ (fun hP => hP.elim)
  · exact (hu.setPort m _ (fun hP => hP.elim)).portTo (List.mem_range.mp hm) 4

theorem Watched.fallowOver {W : List Nat} {P : Prop} (h : Watched W P s t) : Watched W P s t.fallowOver := by
  unfold State.fallowOver
  refine Watched.ite ?_ h
  extract_lets pwr u
  have hu : Watched W P s u := h.same rfl
  split
  · exact hu.ite (hu.retireDump _)
  · exact hu

/-- Every island runs again, in Active. -/
def State.ungated (s : State) : State := (({ s with eng := { s.eng with saved := [] } }).gateIslands []).set F.PWR_STATE.STATE stActive

/-- The ports of drives that were shut down, and the members that are gone since now. -/
def State.drivesBack (s : State) : State :=
  { s with
    drv := { s.drv with ports := s.drv.ports.map (fun (p : Nat × DrvPort) => (p.1, { p.2 with lowPower := false, shutDown := false })) }
    grps := s.grps.map (fun (g : Nat × Grp) => (g.1, { g.2 with gone := g.2.gone.map (fun (x : Nat × Nat) => (x.1, s.nowUs)) })) }

/-- A wake from Fallow that is done. -/
def State.fallowWoken (s : State) : State := ((s.ungated.drivesBack.setFlag F.PWR_STATE.PONR false).holdSlots false).fallowOver

/-- No wake runs. -/
def State.wakeOver (s : State) : State := { s with pwr := { s.pwr with wakeNs := none } }

/-- A wake from Drowse that is done. -/
def State.drowseWoken (s : State) : State := s.ungated.wakeOver.drivesAwake

theorem ungated_ponr (s : State) : s.ungated.ponr = s.ponr := by
  unfold State.ponr State.flag State.ungated
  rw [get_set_other _ _ _ _ _ _ _ _ (by decide)]
  exact congrArg (· == 1) (get_set_other _ _ _ _ _ _ _ _ (by decide))

theorem exec_wakeDone (hpower : s.power = stWaking) : exec .wakeDone s = .next (if s.ponr then s.fallowWoken else s.drowseWoken) := by
  rw [← ungated_ponr]
  exact congrArg Host.Outcome.next (if_neg (not_not.mpr hpower))

theorem ungated_power (s : State) : s.ungated.power = stActive := power_set (by decide) _

theorem Watched.wake {u : State} (h : Watched powerWatch False u t) (hpower : u.power = stActive) (hgated : u.dev.gated = []) (hsaved : u.eng.saved = []) :
    t.power = stActive ∧ t.dev.gated = [] ∧ t.eng.saved = [] ∧ t.ponr = u.ponr ∧ t.slot.hold = u.slot.hold :=
  ⟨(h.spares.reads F.PWR_STATE.STATE 0 0 (by decide)).trans hpower, (congrArg Prod.fst h.held).trans hgated, (congrArg (fun x => x.2.2.1) h.held).trans hsaved,
    h.spares.flag F.PWR_STATE.PONR 0 0 (by decide), congrArg (fun x => x.2.2.2) h.held⟩

theorem ungated_held (s : State) : s.ungated.dev.gated = [] ∧ s.ungated.eng.saved = [] := ⟨rfl, rfl⟩

theorem drivesBack_held (t : State) : t.drivesBack.dev = t.dev ∧ t.drivesBack.eng = t.eng ∧ t.drivesBack.regs = t.regs := ⟨rfl, rfl, rfl⟩

theorem fallowWoken_shows (s : State) : s.fallowWoken.power = stActive ∧ s.fallowWoken.dev.gated = [] ∧ s.fallowWoken.eng.saved = [] ∧ s.fallowWoken.ponr = false ∧ s.fallowWoken.slot.hold = false := by
  unfold State.fallowWoken
  obtain ⟨hgated, hsaved⟩ := ungated_held s
  have hact := ungated_power s
  generalize s.ungated = v at hgated hsaved hact ⊢
  obtain ⟨hdev, heng, hregs⟩ := drivesBack_held v
  rw [← hdev] at hgated
  rw [← heng] at hsaved
  have hact : v.drivesBack.power = stActive := hact
  generalize v.drivesBack = w at hgated hsaved hact ⊢
  have hpower : ((w.setFlag F.PWR_STATE.PONR false).withHold false).power = stActive := (get_setFlag_other w F.PWR_STATE.PONR F.PWR_STATE.STATE false 0 0 0 0 (by decide)).trans hact
  have hponr : ((w.setFlag F.PWR_STATE.PONR false).withHold false).ponr = false := flag_setFlag_same w F.PWR_STATE.PONR false 0 0 rfl
  obtain ⟨h1, h2, h3, h4, h5⟩ := ((holdSlots_watched (w.setFlag F.PWR_STATE.PONR false) false).fallowOver).wake hpower hgated hsaved
  exact ⟨h1, h2, h3, h4.trans hponr, h5⟩

theorem drivesAwake_woken {u : State} (hact : u.power = stActive) (hgated : u.dev.gated = []) (hsaved : u.eng.saved = []) (hwake : u.pwr.wakeNs = none) :
    u.drivesAwake.power = stActive ∧ u.drivesAwake.dev.gated = [] ∧ u.drivesAwake.eng.saved = [] ∧ u.drivesAwake.ponr = u.ponr ∧ u.drivesAwake.pwr.wakeNs = none := by
  obtain ⟨h1, h2, h3, h4, -⟩ := ((Watched.refl powerWatch_shielded False u).drivesAwake).wake hact hgated hsaved
  have hpwr : u.drivesAwake.pwr = u.pwr := (keeps_State_drivesAwake rfl (Keeps.refl false 8389667 u)).part .pwr (by decide)
  exact ⟨h1, h2, h3, h4, (congrArg Pwr.wakeNs hpwr).trans hwake⟩

theorem drowseWoken_shows (s : State) : s.drowseWoken.power = stActive ∧ s.drowseWoken.dev.gated = [] ∧ s.drowseWoken.eng.saved = [] ∧ s.drowseWoken.ponr = s.ponr ∧
    s.drowseWoken.pwr.wakeNs = none := by
  obtain ⟨hgated, hsaved⟩ := ungated_held s
  have hact : s.ungated.wakeOver.power = stActive := ungated_power s
  have hponr : s.ungated.wakeOver.ponr = s.ponr := ungated_ponr s
  have hbase : s.ungated.wakeOver.dev.gated = [] ∧ s.ungated.wakeOver.eng.saved = [] ∧ s.ungated.wakeOver.pwr.wakeNs = none := ⟨hgated, hsaved, rfl⟩
  unfold State.drowseWoken
  generalize s.ungated.wakeOver = u at hact hponr hbase ⊢
  obtain ⟨hgated, hsaved, hwake⟩ := hbase
  rw [← hponr]
  exact drivesAwake_woken hact hgated hsaved hwake

end

end Sys2Proof.Machine
end

section
/-!
PROOFS. O58 (18_power_reset_boot.md, R540): Fallow.
-/
namespace Sys2Proof.Machine

section
variable {s t : State} {n : Nat}

/-! ## The point of no return -/

/-- The controller serves alone, and the drives that were shut down still are. -/
structure StaysShut (s t : State) : Prop where
  alone : t.role = roleAlone
  shut : ∀ n, (t.port n).shutDown = (s.port n).shutDown

theorem StaysShut.ite {u : State} {c : Prop} [Decidable c] (h : StaysShut s t) (h' : StaysShut s u) : StaysShut s (if c then t else u) := by
  split <;> assumption

theorem StaysShut.of_drv {u : State} (h : StaysShut s t) (hrole : u.role = t.role) (hdrv : u.drv = t.drv) : StaysShut s u :=
  ⟨hrole.trans h.alone, fun n => by unfold State.port; rw [hdrv]; exact h.shut n⟩

theorem StaysShut.set (h : StaysShut s t) (f : Fld) (v i j : Nat) (hoff : 0x480000 ≤ f.off) (hlo : f.lo < 64) : StaysShut s (t.set f v i j) := by
  refine h.of_drv (get_set_other _ _ _ _ _ _ _ _ ?_) rfl
  simp only [Fld.key, Fld.at, F.WSW_STATUS.ROLE]
  omega

theorem StaysShut.raise (h : StaysShut s t) (e : Nat) : StaysShut s (t.raise e) := by
  refine h.of_drv (get_raise _ _ _ _ _ ?_) (raise_drv _ _)
  simp only [Fld.key, Fld.at, F.EVT_STATUS.STATUS, F.WSW_STATUS.ROLE]
  omega

theorem StaysShut.emit (h : StaysShut s t) (o : Out) : StaysShut s (t.emit o) := h.of_drv rfl rfl

theorem StaysShut.observed (h : StaysShut s t) (i : Input) (effect : State → State) : StaysShut s (t.observed i effect) := by
  unfold State.observed
  rw [if_pos (by unfold State.consumes; rw [h.alone]; rfl)]
  have hkept : Watched [F.WSW_STATUS.ROLE.key 0 0] False t (t.observe i) := (Watched.refl ⟨⟨by decide, by decide⟩, by decide⟩ False t).observe i
  exact h.of_drv (hkept.spares.reads F.WSW_STATUS.ROLE 0 0 (by decide)) ((keeps_State_observe i rfl (Keeps.refl false 8389155 t)).part .drv (by decide))

theorem StaysShut.setPort (h : StaysShut s t) (n : Nat) (p : DrvPort) (hp : p.shutDown = (t.port n).shutDown) : StaysShut s (t.setPort n p) := by
  refine ⟨h.alone, fun m => ?_⟩
  rw [port_setPort]
  split
  · subst m
    exact hp.trans (h.shut n)
  · exact h.shut m

theorem StaysShut.linkDown (h : StaysShut s t) (n : Nat) : StaysShut s (t.linkDown n) :=
  h.ite ((((h.set F.DP_STATUS.GEN _ n 0 (by decide) (by decide)).set F.DP_STATUS.WIDTH _ n 0 (by decide) (by decide)).set F.DP_STATUS.FLIT _ n 0 (by decide) (by decide)).raise _)

theorem StaysShut.portPerst (h : StaysShut s t) (n : Nat) : StaysShut s (t.portPerst n) := by
  unfold State.portPerst
  extract_lets st was port v w
  have hv : StaysShut s v := (h.linkDown n).setPort n _ (by rw [linkDown_port])
  have hto : StaysShut s (v.portTo n dpPowering) := hv.ite ((hv.set F.DP_STATUS.STATE _ n 0 (by decide) (by decide)).raise _)
  have hw : StaysShut s w := hto.set F.DP_STATUS.REASON 0 n 0 (by decide) (by decide)
  exact h.ite ((hw.observed _ _).ite hw)

theorem StaysShut.slotTo (h : StaysShut s t) (n : Nat) (q : SlotPath) : StaysShut s (t.slotTo n q) := by
  unfold State.slotTo
  extract_lets p q' t1 t2 t3 t4 t5
  have h1 : StaysShut s t1 := h.of_drv rfl rfl
  have h2 : StaysShut s t2 := h1.set F.SLOT_PG_DROP.COUNT _ n 0 (by decide) (by decide)
  have h3 : StaysShut s t3 := (h2.ite (h2.raise _)).ite h1
  have h4 : StaysShut s t4 := (h3.emit _).ite h3
  have h5 : StaysShut s t5 := (h4.portPerst n).ite h4
  exact (h5.observed _ _).ite h5

theorem StaysShut.gateUpdate (h : StaysShut s t) (n : Nat) (released : Bool) : StaysShut s (t.gateUpdate n released) := by
  unfold State.gateUpdate
  extract_lets p now
  have hto := h.slotTo n { p with st := chWaiting, cmdNs := now, released := released, timer10 := 0, timerNs := now, engaged := false, cause := 0 }
  exact StaysShut.ite (StaysShut.ite ((hto.slotTo n _).ite hto) h) (h.ite (h.slotTo n _))

theorem holdSlots_shut (halone : s.role = roleAlone) (on : Bool) (n : Nat) : ((s.holdSlots on).port n).shutDown = (s.port n).shutDown :=
  (List.foldlRecOn (motive := StaysShut s) (List.range 48) _ (⟨halone, fun _ => rfl⟩ : StaysShut s (s.withHold on)) (fun _ ht m _ => ht.gateUpdate m _)).shut n

/-- A READY drive is shut down. -/
def State.driveShut (s : State) (n : Nat) : State := if s.dpState n = dpReady then s.setPort n { s.port n with shutDown := true } else s

/-- The READY drives are shut down (step 4 of R540). -/
def State.drivesShut (s : State) : State := (List.range 48).foldl State.driveShut s

theorem driveShut_keeps (t : State) (m : Nat) : (t.driveShut m).regs = t.regs ∧ (t.driveShut m).flm = t.flm ∧ (t.driveShut m).pwr = t.pwr ∧ (t.driveShut m).wsw = t.wsw := by
  unfold State.driveShut
  split <;> exact ⟨rfl, rfl, rfl, rfl⟩

theorem drivesShut_keeps (s : State) : s.drivesShut.regs = s.regs ∧ s.drivesShut.flm = s.flm ∧ s.drivesShut.pwr = s.pwr ∧ s.drivesShut.wsw = s.wsw :=
  ⟨foldl_same _ (fun t m => (driveShut_keeps t m).1) s, foldl_same _ (fun t m => (driveShut_keeps t m).2.1) s, foldl_same _ (fun t m => (driveShut_keeps t m).2.2.1) s,
    foldl_same _ (fun t m => (driveShut_keeps t m).2.2.2) s⟩

theorem driveShut_port (t : State) (m : Nat) (h : (t.port n).shutDown = true ∨ (m = n ∧ t.dpState n = dpReady)) : ((t.driveShut m).port n).shutDown = true := by
  unfold State.driveShut
  split
  · rw [port_setPort]
    split
    · rfl
    · rename_i hm
      exact h.resolve_right (fun h => hm h.1)
  · rename_i hidle
    exact h.resolve_right (fun h => hidle (h.1 ▸ h.2))

theorem drivesShut_shut (hn : n < 48) (hready : s.dpState n = dpReady) : (s.drivesShut.port n).shutDown = true := by
  refine foldl_reaches (n := n) (I := fun t => t.dpState n = dpReady) (Q := fun t => (t.port n).shutDown = true) (List.mem_range.mpr hn) (fun t m ht => ?_)
    (fun t ht => driveShut_port t n (.inr ⟨rfl, ht⟩)) (fun t m ht => driveShut_port t m (.inl ht)) hready
  unfold State.dpState State.get at ht ⊢
  rwa [(driveShut_keeps t m).1]

/-- The host is busy, and no wake runs. -/
def State.hostWaits (s : State) : State := { s with pwr := { s.pwr with hostBusy := true, wakeNs := none } }

theorem hostWaits_same (s : State) : s.hostWaits.regs = s.regs ∧ s.hostWaits.slot = s.slot ∧ s.hostWaits.drv = s.drv ∧ s.hostWaits.pwr.hostBusy = true := ⟨rfl, rfl, rfl, rfl⟩

/-- The slot hold is set, and an entry past it is no longer aborted. -/
def State.heldOff (s : State) : State := ((s.setFlag F.PWR_STATE.PONR true).holdSlots true).hostWaits

theorem slotHoldStep_holds (hpower : s.power = stToFallow) (hponr : s.ponr = false) (hctr : s.flm.msgCtr < s.pwr.fallowCtr) : s.slotHoldStep = s.heldOff := by
  unfold State.slotHoldStep
  rw [if_neg (by omega), if_pos ⟨hpower, by simp [hponr]⟩]
  rfl

theorem heldOff_shows (halone : s.role = roleAlone) : s.heldOff.ponr = true ∧ s.heldOff.slot.hold = true ∧ s.heldOff.pwr.hostBusy = true ∧ s.heldOff.power = s.power ∧
    ∀ n, (s.heldOff.port n).shutDown = (s.port n).shutDown := by
  have hwatched := holdSlots_watched (s.setFlag F.PWR_STATE.PONR true) true
  have halone' : (s.setFlag F.PWR_STATE.PONR true).role = roleAlone := (get_setFlag_other _ _ _ _ _ _ _ _ (by decide)).trans halone
  have hponr := (hwatched.spares.flag F.PWR_STATE.PONR 0 0 (by decide)).trans (flag_setFlag_same s F.PWR_STATE.PONR true 0 0 rfl)
  have hpower := (hwatched.spares.reads F.PWR_STATE.STATE 0 0 (by decide)).trans (get_setFlag_other s F.PWR_STATE.PONR F.PWR_STATE.STATE true 0 0 0 0 (by decide))
  have hhold := congrArg (fun x => x.2.2.2) hwatched.held
  have hshut := holdSlots_shut halone' true
  unfold State.heldOff
  generalize (s.setFlag F.PWR_STATE.PONR true).holdSlots true = u at hponr hpower hhold hshut ⊢
  obtain ⟨hregs, hslot, hdrv, hbusy⟩ := hostWaits_same u
  unfold State.ponr State.power State.flag State.get State.port
  rw [hregs, hslot, hdrv]
  exact ⟨hponr, hhold, hbusy, hpower, hshut⟩

/-- The slot hold is numbered unless it waits already (step 5 of R540). -/
def State.ponrNumbered (s : State) : State :=
  if s.numbers ∧ !s.wsw.inputs.any (fun r => r.input = .mgmt .slotHold) then s.recognised .slotHold State.slotHoldStep else s

theorem execFallowPonr_eq (s : State) :
    execFallowPonr s = .next (if s.power = stToFallow ∧ s.pwr.entryStep = 3 ∧ !s.ponr ∧ !s.powerFailing then s.drivesShut.ponrNumbered else s) := by
  unfold execFallowPonr State.ponrNumbered State.drivesShut State.driveShut
  dsimp only

theorem exec_fallowPonr (halone : SoloAlone s) (hpower : s.power = stToFallow) (hstep : s.pwr.entryStep = 3) (hponr : s.ponr = false) (hfail : s.powerFailing = false)
    (hctr : s.flm.msgCtr < s.pwr.fallowCtr) (hinputs : s.wsw.inputs = []) : exec .fallowPonr s = .next s.drivesShut.heldOff := by
  obtain ⟨hregs, hflm, hpwr, hwsw⟩ := drivesShut_keeps s
  have hget (g : Fld) : s.drivesShut.get g = s.get g := by
    unfold State.get
    rw [hregs]
  have halone' : SoloAlone s.drivesShut := ⟨(hget _).trans halone.1, (hget _).trans halone.2⟩
  have hstep' : s.drivesShut.slotHoldStep = s.drivesShut.heldOff := slotHoldStep_holds ((hget _).trans hpower) ((congrArg (· == 1) (hget F.PWR_STATE.PONR)).trans hponr) (by rwa [hflm, hpwr])
  have hgate : s.drivesShut.numbers = true ∧ (!s.drivesShut.wsw.inputs.any (fun r => r.input = .mgmt .slotHold)) = true := ⟨numbers_of_alone halone'.1, by simp [hwsw, hinputs]⟩
  change execFallowPonr s = _
  rw [execFallowPonr_eq, if_pos ⟨hpower, hstep, by simp [hponr], by simp [hfail]⟩]
  unfold State.ponrNumbered
  rw [if_pos hgate, recognised_alone halone', hstep']
/-! ## Fallow -/

theorem sparseGet_filter_kept {α : Type} (d : α) (k : Nat) (keep : Nat → Bool) (hk : keep k = true) (l : List (Nat × α)) :
    sparseGet d k (l.filter (fun x => keep x.1)) = sparseGet d k l := by
  induction l with
  | nil => rfl
  | cons x l ih =>
    by_cases hx : keep x.1 = true
    · simp only [List.filter_cons, hx, if_true, sparseGet, ih]
    · have hne : x.1 ≠ k := fun e => hx (e ▸ hk)
      simp only [List.filter_cons, hx, Bool.false_eq_true, if_false, sparseGet, hne, ih]

/-- The field at a key is a counter that a power-down clears (R546). -/
def countsAt (key : Nat) : Bool :=
  match fieldOf key with
  | some f => f.acc == .rc || f.off == F.SCL_CNT.COUNT.off
  | none => false

theorem countsLost_get (s : State) (f : Fld) (h : countsAt (f.key 0 0) = false) : s.countsLost.get f = s.get f := by
  refine sparseGet_filter_kept f.rst (f.key 0 0) (fun key => !(s.dev.gated.contains (islandOf (key / 64)) && countsAt key)) ?_ s.regs
  rw [h, Bool.and_false]
  rfl

theorem statusFields_count : countsAt (F.GLB_ISLAND_UP.UP.key 0 0) = false ∧ countsAt (F.WSW_STATUS.ROLE.key 0 0) = false ∧ countsAt (F.GLB_SIDE.PROFILE.key 0 0) = false := by decide +kernel

/-- A controller that serves alone still does, and its clock and its islands in fault stand. -/
structure StandsBy (s t : State) : Prop where
  role : t.role = s.role
  profile : t.profile = s.profile
  timeNs : t.dev.timeNs = s.dev.timeNs
  faulted : t.dev.faulted = s.dev.faulted

theorem StandsBy.refl (s : State) : StandsBy s s := ⟨rfl, rfl, rfl, rfl⟩

theorem StandsBy.same {u : State} (h : StandsBy s t) (hregs : u.regs = t.regs) (hdev : u.dev = t.dev) : StandsBy s u := by
  obtain ⟨hrole, hprofile, htime, hfault⟩ := h
  refine ⟨(congrArg (sparseGet _ _) hregs).trans hrole, (congrArg (sparseGet _ _) hregs).trans hprofile, ?_, ?_⟩ <;> rwa [hdev]

theorem StandsBy.set (h : StandsBy s t) (f : Fld) (v i j : Nat) (hlow : 0x80000 ≤ f.off) (hrole : f.key i j ≠ F.WSW_STATUS.ROLE.key 0 0) : StandsBy s (t.set f v i j) := by
  refine ⟨(get_set_other _ _ _ _ _ _ _ _ hrole).trans h.role, (get_set_other _ _ _ _ _ _ _ _ ?_).trans h.profile, h.timeNs, h.faulted⟩
  have hside : F.GLB_SIDE.PROFILE.key 0 0 < 0x80000 * 64 := by decide
  have hkey : 0x80000 * 64 ≤ f.key i j := by
    unfold Fld.key Fld.at
    omega
  omega

theorem StandsBy.raise (h : StandsBy s t) (e : Nat) : StandsBy s (t.raise e) := by
  obtain ⟨l, hl⟩ := raise_dev t e
  refine ⟨(get_raise _ _ _ _ _ ?_).trans h.role, (get_raise _ _ _ _ _ ?_).trans h.profile, by rw [hl]; exact h.timeNs, by rw [hl]; exact h.faulted⟩ <;>
    simp only [Fld.key, Fld.at, F.EVT_STATUS.STATUS, F.WSW_STATUS.ROLE, F.GLB_SIDE.PROFILE] <;> omega

theorem push_same (t : State) (k q : Nat) (e : Word) : (t.push k q e).1.regs = t.regs ∧ (t.push k q e).1.dev = t.dev := by
  unfold State.push
  dsimp only
  split <;> exact ⟨rfl, rfl⟩

theorem StandsBy.dmaEnd (h : StandsBy s t) (engine chan status : Nat) : StandsBy s (t.dmaEnd engine chan status) := by
  have hfar (f : Fld) (hoff : 0x600000 ≤ f.off) : f.key engine chan ≠ F.WSW_STATUS.ROLE.key 0 0 := by
    have hrole : F.WSW_STATUS.ROLE.key 0 0 < 0x600000 * 64 := by decide
    have hkey : 0x600000 * 64 ≤ f.key engine chan := by
      unfold Fld.key Fld.at
      omega
    omega
  unfold State.dmaEnd
  extract_lets c eng t1 t2 t3
  have h1 : StandsBy s t1 := h.same rfl rfl
  have h2 : StandsBy s t2 := (h1.set F.DMA_STATUS.STATE _ _ _ (by decide) (hfar _ (by decide))).set F.DMA_STATUS.LAST _ _ _ (by decide) (hfar _ (by decide))
  have h3 : StandsBy s t3 := by
    unfold t3
    cases c with
    | none => exact h2
    | some c =>
      dsimp only
      cases c.desc.notify && status != 3
      · exact h2
      · exact h2.same (push_same t2.drawn _ _ _).1 (push_same t2.drawn _ _ _).2
  split
  · exact h3
  · exact h3.raise _

theorem StandsBy.endChannels (h : StandsBy s t) (clusters : List Nat) : StandsBy s (t.endChannels clusters) :=
  List.foldlRecOn (motive := StandsBy s) _ _ h (fun _ ht _ _ => ht.dmaEnd _ _ _)

theorem StandsBy.setLink (h : StandsBy s t) {lport : Nat} (hport : lport < 32) (up : Bool) : StandsBy s (t.setLink lport up) := by
  have hfar (f : Fld) (hoff : f.off = 0x80000 ∧ f.st1 = 0x20000 ∧ f.lo < 64) : f.key (lport / 8) 0 ≠ F.WSW_STATUS.ROLE.key 0 0 := by
    obtain ⟨hoff, hst, hlo⟩ := hoff
    have hrole : 0x400000 * 64 ≤ F.WSW_STATUS.ROLE.key 0 0 := by decide
    unfold Fld.key Fld.at at hrole ⊢
    rw [hoff, hst]
    omega
  unfold State.setLink
  extract_lets p l k m t1 t2
  have h1 : StandsBy s t1 := h.set F.HP_PORT_STATUS.LINK _ _ _ (by decide) (hfar _ ⟨rfl, rfl, by decide⟩)
  have h2 : StandsBy s t2 := h1.set F.HP_PORT_STATUS.LANE_LOCK _ _ _ (by decide) (hfar _ ⟨rfl, rfl, by decide⟩)
  exact h2.raise _

theorem StandsBy.linkLost (h : StandsBy s t) {lport : Nat} (hport : lport < 32) : StandsBy s (t.linkLost lport) := by
  unfold State.linkLost
  extract_lets t1 x t2
  have h1 : StandsBy s t1 := h.same rfl rfl
  have h2 : StandsBy s t2 := h1.same rfl rfl
  exact (h2.setLink hport false).same rfl rfl

theorem StandsBy.portsDown (h : StandsBy s t) : StandsBy s t.portsDown := by
  refine List.foldlRecOn (motive := StandsBy s) _ _ h (fun u hu l hl => ?_)
  split
  · exact hu.linkLost (List.mem_range.mp hl)
  · exact hu

/-- Channels have ended and ports are down: what a Fallow entry empties. -/
def State.emptied (s : State) : State :=
  { s with
    eng := eng0
    cht := { s.cht with bufs := [], waits := [] }
    hp := { s.hp with frames := [] }
    fx := { s.fx with flows := [], cacheWait := [] } }

/-- Every island but `up` is powered down. -/
def State.leftUp (s : State) (up : List Nat) : State := (s.gateIslands ((List.range 38).filter (fun i => !up.contains i))).countsLost

/-- Fallow is shown. -/
def State.fallowShown (s : State) : State := ((s.leftUp s.fallowIslands).set F.PWR_STATE.STATE stFallow).raise 0x00C

/-- What an entry into Fallow has put to rest (step 6 of R540). -/
def State.rested (s : State) : State := ((s.endChannels [0, 1, 2, 3]).portsDown).emptied

theorem exec_fallowEntryDone (hpower : s.power = stToFallow) (hponr : s.ponr = true) :
    exec .fallowEntryDone s = .next (if s.rested.fallowShown.pwr.wakeWanted then s.rested.fallowShown.recognised .wake State.wakeSource else s.rested.fallowShown) := by
  change execFallowEntryDone s = _
  unfold execFallowEntryDone State.rested State.fallowShown State.leftUp State.emptied
  rw [if_pos ⟨hpower, hponr⟩]

theorem rested_shows (s : State) : StandsBy s s.rested ∧ s.rested.pat = s.pat ∧ s.rested.pwr = s.pwr ∧ s.rested.cht.bufs = [] ∧ s.rested.fx.flows = [] := by
  have hends := (keeps_State_endChannels [0, 1, 2, 3] rfl (Keeps.refl false 25165859 s))
  have hdown := keeps_State_portsDown rfl (Keeps.refl false 8585507 (s.endChannels [0, 1, 2, 3]))
  have hpat := (hdown.part .pat (by decide)).trans (hends.part .pat (by decide))
  have hpwr := (hdown.part .pwr (by decide)).trans (hends.part .pwr (by decide))
  have hstand := ((StandsBy.refl s).endChannels [0, 1, 2, 3]).portsDown
  unfold State.rested
  generalize (s.endChannels [0, 1, 2, 3]).portsDown = u at hpat hpwr hstand ⊢
  exact ⟨hstand.same rfl rfl, hpat, hpwr, rfl, rfl⟩

theorem leftUp_shows (s : State) (up : List Nat) : (s.leftUp up).dev.gated = (List.range 38).filter (fun i => !up.contains i) ∧ (s.leftUp up).dev.timeNs = s.dev.timeNs ∧
    (s.leftUp up).pwr = s.pwr ∧ (s.leftUp up).cht = s.cht ∧ (s.leftUp up).fx = s.fx := ⟨rfl, rfl, rfl, rfl, rfl⟩

theorem leftUp_islandUp (hfault : s.dev.faulted = []) (up : List Nat) (hn : n < 38) : (s.leftUp up).islandUp n = up.contains n := by
  have hup : (s.leftUp up).islandUp n = (s.gateIslands ((List.range 38).filter (fun i => !up.contains i))).islandUp n := congrArg (bitOf · n) (countsLost_get _ _ statusFields_count.1)
  rw [hup, gateIslands_up _ hn, hfault, Bool.eq_iff_iff]
  simp [List.mem_filter, hn]

theorem leftUp_alone (h : SoloAlone s) (up : List Nat) : SoloAlone (s.leftUp up) :=
  ⟨(countsLost_get _ _ statusFields_count.2.1).trans ((get_set_other _ _ _ _ _ _ _ _ (by decide)).trans h.1),
    (countsLost_get _ _ statusFields_count.2.2).trans ((get_set_other _ _ _ _ _ _ _ _ (by decide)).trans h.2)⟩

theorem fallowIslands_of_pat (h : t.pat = s.pat) : t.fallowIslands = s.fallowIslands := by
  unfold State.fallowIslands State.cfg State.record
  rw [h]

theorem fallowIslands_up (s : State) : s.fallowIslands.contains 9 = true ∧ s.fallowIslands.contains 10 = false := by
  unfold State.fallowIslands hpIsland
  constructor
  · simp
  · split <;> simp <;> omega

theorem fallowShown_shows (s : State) : s.fallowShown.power = stFallow ∧ s.fallowShown.dev.gated = (List.range 38).filter (fun i => !s.fallowIslands.contains i) ∧ s.fallowShown.dev.timeNs = s.dev.timeNs ∧
    s.fallowShown.pwr = s.pwr ∧ s.fallowShown.cht = s.cht ∧ s.fallowShown.fx = s.fx ∧ Raised s.fallowShown 0x00C := by
  obtain ⟨hgated, htime, hpwr, hcht, hfx⟩ := leftUp_shows s s.fallowIslands
  unfold State.fallowShown
  generalize s.leftUp s.fallowIslands = u at hgated htime hpwr hcht hfx ⊢
  obtain ⟨l, hl⟩ := raise_dev (u.set F.PWR_STATE.STATE stFallow) 0x00C
  refine ⟨(power_raise _ _).trans (power_set (by decide) _), (congrArg Dev.gated hl).trans hgated, (congrArg Dev.timeNs hl).trans htime, (raise_pwr _ _).trans hpwr, (raise_cht _ _).trans hcht,
    (raise_fx _ _).trans hfx, raise_bit _ _⟩

theorem fallowShown_alone (h : SoloAlone s) : SoloAlone s.fallowShown := by
  have hleft := leftUp_alone h s.fallowIslands
  have hlow (g : Fld) (hoff : g.off < 0x20000) (hlo : g.lo < 64) := raise_get_low ((s.leftUp s.fallowIslands).set F.PWR_STATE.STATE stFallow) 0x00C g hoff hlo
  refine ⟨?_, (hlow _ (by decide) (by decide)).trans ((get_set_other _ _ _ _ _ _ _ _ (by decide)).trans hleft.2)⟩
  refine (get_raise _ _ _ _ _ ?_).trans ((get_set_other _ _ _ _ _ _ _ _ (by decide)).trans hleft.1)
  decide

theorem wakesOrAborts_pwrCtlWake {src : Src} (halone : SoloAlone s) (hgate : s.gate src (F.PWR_CTL.WAKE.at 0 0) = .pass) : WakesOrAborts s (exec (.pwrCtlWake src) s) := by
  have hexec : exec (.pwrCtlWake src) s = .next s.wakeSeen := congrArg Host.Outcome.next (busWrite_of_pass hgate _)
  rw [hexec]
  exact wakesOrAborts_wakeSeen halone

theorem wakesOrAborts_wakeGpioEdge {gpio : Nat} (halone : SoloAlone s) (hgpio : gpio < 64) (hnamed : gpio = s.cfg 0x00C0 0 10 1 0xFF) : WakesOrAborts s (exec (.wakeGpioEdge gpio) s) := by
  have hexec : exec (.wakeGpioEdge gpio) s = .next s.wakeSeen := congrArg Host.Outcome.next (if_pos ⟨hgpio, hnamed⟩)
  rw [hexec]
  exact wakesOrAborts_wakeSeen halone

theorem idleDue_drowse (hactive : s.power = stActive) (hset : s.cfg 0x00C0 0 0 4 0 ≠ 0) (hdue : s.pwr.lastHostUs + s.cfg 0x00C0 0 0 4 0 * 1000000 ≤ s.nowUs) : s.idleDue = some 1 := by
  unfold State.idleDue
  extract_lets a b
  rw [if_pos hactive, if_pos ⟨hset, hdue⟩]

theorem idleDue_none (hactive : s.power = stActive) (hearly : s.nowUs < s.pwr.lastHostUs + s.cfg 0x00C0 0 0 4 0 * 1000000) : s.idleDue = none := by
  unfold State.idleDue
  extract_lets a b
  rw [if_pos hactive, if_neg (fun h => absurd h.2 (by omega))]

theorem drowse_entered (hfree : s.entryBlocked = false) (hactive : s.power = stActive) : (s.enter 1).1.power = stToDrowse ∧ Raised (s.enter 1).1 0x00C := by
  rw [enter_active hfree hactive (Or.inl rfl), if_pos rfl, entering_drowse]
  exact entering_shows (by decide) s

theorem fallow_entered (hfree : s.entryBlocked = false) (hactive : s.power = stActive) (hdirty : s.cht.staging ≠ []) : (s.enter 2).1.power = stToFallow ∧ Raised (s.enter 2).1 0x00C := by
  rw [enter_active hfree hactive (Or.inr rfl), if_neg (by decide), entering_fallow hdirty]
  exact entering_shows (by decide) s

theorem fallowEntryDone_sleeps (hpower : s.power = stToFallow) (hponr : s.ponr = true) (hfault : s.dev.faulted = []) (hawake : s.pwr.wakeWanted = false) :
    ∃ t, exec .fallowEntryDone s = .next t ∧ t.power = stFallow ∧ (∀ i < 38, i ∈ t.dev.gated ↔ i ∉ s.fallowIslands) ∧ t.islandUp 9 = true ∧ t.islandUp 10 = false ∧ t.cht.bufs = [] ∧
      t.fx.flows = [] ∧ Raised t 0x00C := by
  obtain ⟨hstand, hpat, hpwr, hbufs, hflows⟩ := rested_shows s
  obtain ⟨hfallow, hgated, -, hpwr', hcht, hfx, hraised⟩ := fallowShown_shows s.rested
  have hislands := fallowIslands_of_pat hpat
  have hup (i : Nat) (hi : i < 38) : s.rested.fallowShown.islandUp i = s.fallowIslands.contains i := by
    refine (islandUp_raise_power ..).trans ((leftUp_islandUp (hstand.faulted.trans hfault) _ hi).trans ?_)
    rw [hislands]
  refine ⟨_, ?_, hfallow, fun i hi => ?_, ?_, ?_, (congrArg Cht.bufs hcht).trans hbufs, ?_, hraised⟩
  · rw [exec_fallowEntryDone hpower hponr, if_neg (by rw [hpwr', hpwr, hawake]; decide)]
  · rw [hgated, hislands]
    simp [List.mem_filter, hi]
  · rw [hup 9 (by omega)]
    exact (fallowIslands_up s).1
  · rw [hup 10 (by omega)]
    exact (fallowIslands_up s).2
  · rw [hfx]
    exact hflows

theorem fallowEntryDone_wakes (halone : SoloAlone s) (hpower : s.power = stToFallow) (hponr : s.ponr = true) (hwanted : s.pwr.wakeWanted = true) :
    ∃ t, exec .fallowEntryDone s = .next t ∧ t.power = stWaking ∧ t.pwr.wakeNs = some s.dev.timeNs ∧ Raised t 0x00E := by
  obtain ⟨hstand, -, hpwr, -, -⟩ := rested_shows s
  obtain ⟨hfallow, -, htime, hpwr', -, -, -⟩ := fallowShown_shows s.rested
  have halone' : SoloAlone s.rested.fallowShown := fallowShown_alone ⟨hstand.role.trans halone.1, hstand.profile.trans halone.2⟩
  have hwake : s.rested.fallowShown.wakeSource = s.rested.fallowShown.beginWake := by
    unfold State.wakeSource
    simp [hfallow, stToDrowse, stFallow]
  obtain ⟨hwaking, hsince, hraised⟩ := beginWake_shows s.rested.fallowShown
  rw [htime, hstand.timeNs] at hsince
  refine ⟨_, ?_, hwaking, hsince, hraised⟩
  rw [exec_fallowEntryDone hpower hponr, if_pos (by rw [hpwr', hpwr, hwanted]), recognised_alone halone', hwake]

end

/-- Settles O58: each row's effect is stated through the state it shows, and work on slots, links and channels leaves the power state and the point of no return. -/
theorem powerStatesAndPins : Obligations.PowerStatesAndPins := by
  refine ⟨?holdup, ?enter, ?idle, ?drowse, ?ponr, ?fallow, ?gpio, ?wake, ?done⟩
  case holdup =>
    intro ok s halone hpin hwas
    refine ⟨_, exec_holdupChange halone hpin, ?_⟩
    cases ok
    · obtain ⟨h1, h2, h3, h4, h5⟩ := holdup_low halone hwas
      exact ⟨h1, h2, h3, fun _ => ⟨h4, h5⟩, fun h => absurd h (by decide)⟩
    · obtain ⟨h1, h2, h3, h4⟩ := holdup_high halone hwas
      exact ⟨h1, h2, h3, fun h => absurd h (by decide), fun _ => h4⟩
  case enter =>
    intro src target s halone hgate
    have hexec := exec_pwrCtlEnter (target := target) halone hgate
    have hruns (hheld : s.entryHeld = false) (htarget : target = 1 ∨ target = 2) : exec (.pwrCtlEnter src target) s = .next (s.enter target).1 := by
      rw [hexec, if_neg (by rw [hheld]; simp; omega)]
    refine ⟨fun h1 h2 => hexec.trans (by rw [if_pos (Or.inr ⟨h1, h2⟩)]), fun h => hexec.trans ?_, fun hheld hfree h1 hactive => ?_, fun hheld hfree h1 hother => ?_,
      fun hheld hfree h2 hactive hdirty => ?_⟩
    · split
      · rfl
      · rename_i hgo
        rw [enter_refused (Or.inl (h.resolve_left (fun hheld => hgo (Or.inl hheld))))]
    · subst h1
      exact ⟨_, hruns hheld (Or.inl rfl), drowse_entered hfree hactive⟩
    · subst h1
      rw [hruns hheld (Or.inl rfl), enter_refused (Or.inr (by simp [State.entryFrom, hother]))]
    · subst h2
      exact ⟨_, hruns hheld (Or.inr rfl), fallow_entered hfree hactive hdirty⟩
  case idle =>
    intro s halone hheld hfree hactive hset
    have hexec := exec_idlePowerEntry halone hheld hfree
    refine ⟨fun hdue => ?_, fun hearly => ?_⟩
    · rw [idleDue_drowse hactive hset hdue] at hexec
      exact ⟨_, hexec, drowse_entered hfree hactive⟩
    · rw [idleDue_none hactive hearly] at hexec
      exact hexec
  case drowse =>
    intro s hpower hcmds hdestaged
    obtain ⟨h1, h2, h3, h4, h5, h6⟩ := drowsed_shows s
    refine ⟨_, exec_drowseEntryDone hpower hcmds hdestaged, h1, h2, h3, h4, h5, h6, fun n hn hready => ?_⟩
    rw [drowsed_port]
    exact drivesLow_low hn hready
  case ponr =>
    intro s halone hpower hstep hponr hfail hctr hinputs
    obtain ⟨hregs, -⟩ := drivesShut_keeps s
    have hget (g : Fld) : s.drivesShut.get g = s.get g := congrArg (sparseGet _ _) hregs
    obtain ⟨h1, h2, h3, h4, h5⟩ := heldOff_shows ((hget F.WSW_STATUS.ROLE).trans halone.1)
    exact ⟨_, exec_fallowPonr halone hpower hstep hponr hfail hctr hinputs, h1, h2, h3, h4.trans ((hget _).trans hpower), fun n hn hready => (h5 n).trans (drivesShut_shut hn hready)⟩
  case fallow =>
    intro s hpower hponr hfault
    exact ⟨fallowEntryDone_sleeps hpower hponr hfault, fun halone hwanted => fallowEntryDone_wakes halone hpower hponr hwanted⟩
  case gpio =>
    intro gpio s halone hgpio hnamed
    exact wakesOrAborts_wakeGpioEdge halone hgpio hnamed
  case wake =>
    intro src s halone hgate
    exact wakesOrAborts_pwrCtlWake halone hgate
  case done =>
    intro s hpower
    have hexec := exec_wakeDone hpower
    cases hponr : s.ponr
    · rw [hponr, if_neg (by decide)] at hexec
      obtain ⟨h1, h2, h3, h4, h5⟩ := drowseWoken_shows s
      exact ⟨_, hexec, h1, h2, h3, h4.trans hponr, fun h => absurd h (by decide), fun _ => h5⟩
    · rw [hponr, if_pos rfl] at hexec
      obtain ⟨h1, h2, h3, h4, h5⟩ := fallowWoken_shows s
      exact ⟨_, hexec, h1, h2, h3, h4, fun _ => h5, fun h => absurd h (by decide)⟩

end Sys2Proof.Machine
end

section
/-!
PROOFS. O59 (19_firmware_update.md, R554, R559, R561, R562, R564): the image that boots, the live switch, the trial.
-/
namespace Sys2Proof.Machine

section
variable {s t : State} {b : Bool}

/-! ## The slots of the status sector (R553) -/

theorem fwSlot_setFwSlot (s : State) (b c : Bool) (x : FwSlot) : (s.setFwSlot b x).fwSlot c = if b = c then x else s.fwSlot c := by
  cases b <;> cases c <;> rfl

theorem fwSlot_setFwSlot_same (s : State) (b : Bool) (x : FwSlot) : (s.setFwSlot b x).fwSlot b = x := (fwSlot_setFwSlot s b b x).trans (if_pos rfl)

theorem fwSlot_of_fw (h : t.fw = s.fw) (b : Bool) : t.fwSlot b = s.fwSlot b := by
  unfold State.fwSlot
  rw [h]

/-! ## Commits -/

theorem Dev.fuseSecurity_of_quiet {d e : Dev} (h : d.quiet = e.quiet) : d.fuseSecurity = e.fuseSecurity :=
  (congrArg Dev.fuseSecurity h : d.quiet.fuseSecurity = e.quiet.fuseSecurity)

theorem commit_quiet (s : State) (cs : List StoreChange) : (s.commit cs).dev.quiet = s.dev.quiet := by
  unfold State.commit State.startCommit State.refuseCommit
  split
  · rfl
  split
  · rw [raise_quiet, ledger_quiet]
    rfl
  · rfl

theorem commit_fw (s : State) (cs : List StoreChange) : (s.commit cs).fw = s.fw := (keeps_State_commit cs (by decide) (Keeps.refl false 8388711 s)).part .fw (by decide)

theorem Watched.commit {W : List Nat} {P : Prop} (h : Watched W P s t) (cs : List StoreChange) (hbusy : F.STORE_STATUS.BUSY.key 0 0 ∉ W) (hresult : F.STORE_STATUS.RESULT.key 0 0 ∉ W) :
    Watched W P s (t.commit cs) := by
  unfold State.commit State.startCommit State.refuseCommit
  refine Watched.ite (h.same rfl) (Watched.ite (((h.set F.STORE_STATUS.RESULT 5 0 0 (by decide) hresult).ledger _ _ _ _).raise 0x00A) ?_)
  refine Watched.set ?_ F.STORE_STATUS.BUSY _ 0 0 (by decide) hbusy
  exact h.same rfl

theorem Watched.raised {W : List Nat} {P : Prop} (h : Watched W P s t) {e : Nat} (he : e < 2048) (hs : Raised s e) : Raised t e := h.spares.events _ (by omega) _ (by omega) hs

theorem watched_refl (s : State) : Watched [] False s s := .refl ⟨⟨by decide, by decide⟩, by decide⟩ False s

/-! ## Booting a slot (R554, R565) -/

/-- The store could not begin to be migrated. -/
def State.migrateMissed (s : State) : State := { s with fw := { s.fw with migrateFailed := true } }

theorem migrateStore_cases (s : State) : s.migrateStore = s ∨ s.migrateStore = s.commit [.migrate] ∨ s.migrateStore = (s.commit [.migrate]).migrateMissed := by
  have heq : s.migrateStore = if s.get F.STORE_STATUS.CURRENT ≠ 0 ∧ (s.bank (s.get F.STORE_STATUS.CURRENT - 1)).major < s.storeMajor then
      if (s.commit [.migrate]).pat.run.isSome then s.commit [.migrate] else (s.commit [.migrate]).migrateMissed else s := rfl
  rw [heq]
  split
  · split
    · exact .inr (.inl rfl)
    · exact .inr (.inr rfl)
  · exact .inl rfl

theorem migrateStore_get (s : State) (g : Fld) (hk : g.key 0 0 ∉ commitKeys) : s.migrateStore.get g = s.get g := by
  rcases migrateStore_cases s with h | h | h <;> rw [h]
  · exact commit_get s _ g hk
  · exact commit_get s _ g hk

theorem migrateStore_quiet (s : State) : s.migrateStore.dev.quiet = s.dev.quiet := by
  rcases migrateStore_cases s with h | h | h <;> rw [h]
  · exact commit_quiet s _
  · exact commit_quiet s _

theorem migrateStore_fwSlot (s : State) (b : Bool) : s.migrateStore.fwSlot b = s.fwSlot b := by
  have hcommit := fwSlot_of_fw (commit_fw s [.migrate]) b
  rcases migrateStore_cases s with h | h | h <;> rw [h]
  · exact hcommit
  · rw [← hcommit]
    cases b <;> rfl

theorem Watched.migrateStore (h : Watched [] False s t) : Watched [] False s t.migrateStore := by
  have hcommit := h.commit [.migrate] (by decide) (by decide)
  rcases migrateStore_cases t with he | he | he <;> rw [he]
  · exact h
  · exact hcommit
  · exact hcommit.same rfl

theorem burnFuses_security (s : State) (b : Bool) : (s.burnFuses b).dev.fuseSecurity = max s.dev.fuseSecurity (leAt (s.fwSlot b).image 0x18 1) := by
  unfold State.burnFuses
  extract_lets v dev
  split
  · rw [Dev.fuseSecurity_of_quiet (raise_quiet _ _)]
    exact (Nat.max_eq_right (Nat.le_of_lt ‹_›)).symm
  · exact (Nat.max_eq_left (Nat.le_of_not_lt ‹_›)).symm

theorem burnFuses_fw (s : State) (b : Bool) : (s.burnFuses b).fw = s.fw := by
  unfold State.burnFuses
  extract_lets v dev
  split
  · exact raise_fw _ _
  · rfl

theorem burnFuses_get (s : State) (b : Bool) (g : Fld) (hk : F.EVT_STATUS.STATUS.key 39 0 ≠ g.key 0 0) : (s.burnFuses b).get g = s.get g := by
  unfold State.burnFuses
  extract_lets v dev
  split
  · exact get_raise _ 0x4E7 _ _ _ hk
  · rfl

theorem Watched.burnFuses {W : List Nat} {P : Prop} (h : Watched W P s t) (b : Bool) : Watched W P s (t.burnFuses b) := by
  unfold State.burnFuses
  extract_lets v dev
  refine Watched.ite (Watched.raise ?_ _) h
  exact h.same rfl

/-- The slot that is booted, before its number is shown: fuses of a confirmed image, or a trial boot. -/
def State.bootMarked (s : State) (b : Bool) : State := if (s.fwSlot b).confirmed then s.burnFuses b else s.clearBoot b

theorem bootSlot_eq (s : State) (b : Bool) : s.bootSlot b = (((s.bootMarked b).set F.FWU_STATUS.RUNNING (if b then 1 else 0)).migrateStore).set F.PWR_STATE.BOOT_STEP 5 := rfl

theorem bootSlot_step (s : State) (b : Bool) : (s.bootSlot b).get F.PWR_STATE.BOOT_STEP = 5 := get_set_of_lt (w := 4) rfl (by decide) _ _ _

theorem bootSlot_running (s : State) (b : Bool) : (s.bootSlot b).get F.FWU_STATUS.RUNNING = if b then 1 else 0 := by
  rw [bootSlot_eq, get_set_other _ _ _ _ _ _ _ _ (by decide), migrateStore_get _ _ (by decide)]
  exact get_set_of_lt (w := 1) rfl (by cases b <;> decide) _ _ _

theorem bootSlot_fwSlot (s : State) (b c : Bool) : (s.bootSlot b).fwSlot c = (s.bootMarked b).fwSlot c := by
  rw [bootSlot_eq]
  exact (migrateStore_fwSlot _ c).trans rfl

theorem bootSlot_security (s : State) (b : Bool) : (s.bootSlot b).dev.fuseSecurity = (s.bootMarked b).dev.fuseSecurity := by
  rw [bootSlot_eq]
  exact Dev.fuseSecurity_of_quiet (migrateStore_quiet _)

theorem bootSlot_get (s : State) (b : Bool) (g : Fld) (hk : g.key 0 0 ∉ commitKeys) (hrun : F.FWU_STATUS.RUNNING.key 0 0 ≠ g.key 0 0) (hstep : F.PWR_STATE.BOOT_STEP.key 0 0 ≠ g.key 0 0)
    (hevent : F.EVT_STATUS.STATUS.key 39 0 ≠ g.key 0 0) : (s.bootSlot b).get g = s.get g := by
  rw [bootSlot_eq, get_set_other _ _ _ _ _ _ _ _ hstep, migrateStore_get _ _ hk, get_set_other _ _ _ _ _ _ _ _ hrun]
  unfold State.bootMarked
  split
  · exact burnFuses_get s b g hevent
  · rfl

theorem Watched.bootSlot (h : Watched [] False s t) (b : Bool) : Watched [] False s (t.bootSlot b) := by
  rw [bootSlot_eq]
  have hmarked : Watched [] False s (t.bootMarked b) := (h.burnFuses b).ite (h.same rfl)
  exact ((hmarked.set F.FWU_STATUS.RUNNING _ 0 0 (by decide) (by decide)).migrateStore).set F.PWR_STATE.BOOT_STEP _ 0 0 (by decide) (by decide)

theorem bootMarked_confirmed (h : (s.fwSlot b).confirmed = true) : s.bootMarked b = s.burnFuses b := if_pos h

theorem bootMarked_trial (h : (s.fwSlot b).confirmed = false) : s.bootMarked b = s.clearBoot b := if_neg (by rw [h]; decide)

/-! ## Choosing (R554, R564) -/

theorem romRecovery_shows (s : State) : s.romRecovery.flag F.FWU_STATUS.RECOVERY = true ∧ s.romRecovery.get F.PWR_STATE.BOOT_STEP = 5 ∧ s.romRecovery.pwr.bootWdog = false ∧ Raised s.romRecovery 0x4E8 := by
  unfold State.romRecovery
  extract_lets pwr t
  have hflag : t.flag F.FWU_STATUS.RECOVERY = true := flag_setFlag_same _ F.FWU_STATUS.RECOVERY true _ _ rfl
  refine ⟨?_, ?_, congrArg Pwr.bootWdog (raise_pwr _ _), raise_bit _ _⟩
  · unfold State.flag at hflag ⊢
    rwa [get_raise _ 0x4E8 _ _ _ (by decide), get_set_other _ _ _ _ _ _ _ _ (by decide)]
  · rw [get_raise _ 0x4E8 _ _ _ (by decide)]
    exact get_set_of_lt (w := 4) rfl (by decide) _ _ _

/-- A slot whose check has passed. -/
def State.verified (s : State) (b : Bool) : State := s.setFwSlot b { s.fwSlot b with verify := 0 }

theorem fwCheck_passes {chk : FwChecks} (h : FwPasses s b chk) : s.fwCheck b chk = (s.verified b, 0) := by
  unfold FwPasses at h
  unfold State.fwCheck State.verified
  rw [h]
  rfl

theorem fwCheck_get (s : State) (b : Bool) (chk : FwChecks) (g : Fld) (hk : F.EVT_STATUS.STATUS.key 39 0 ≠ g.key 0 0) : (s.fwCheck b chk).1.get g = s.get g := by
  unfold State.fwCheck
  dsimp only
  split
  · rfl
  · exact get_raise _ 0x4E1 _ _ _ hk

/-- Both slots that hold an image have been checked. -/
def State.bothChecked (s : State) (ca cb : FwChecks) : State :=
  let s := if s.fw.slotA.magic then (s.fwCheck false ca).1 else s
  if s.fw.slotB.magic then (s.fwCheck true cb).1 else s

theorem exec_firmwareSelect (h : FwSelecting s) (ca cb : FwChecks) :
    exec (.firmwareSelect ca cb) s = .next (if (s.bothChecked ca cb).flag F.RST_CAUSE.RECOVERY then (s.bothChecked ca cb).romRecovery else (s.bothChecked ca cb).chooseSlot) := by
  obtain ⟨hpower, hstep, hfatal⟩ := h
  exact congrArg Host.Outcome.next (if_pos ⟨hpower, hstep, by rw [hfatal]; rfl⟩)

theorem bothChecked_recovery (s : State) (ca cb : FwChecks) : (s.bothChecked ca cb).flag F.RST_CAUSE.RECOVERY = s.flag F.RST_CAUSE.RECOVERY := by
  unfold State.flag State.bothChecked
  have hstep (u : State) (c : Bool) (chk : FwChecks) (m : Bool) : (if m = true then (u.fwCheck c chk).1 else u).get F.RST_CAUSE.RECOVERY = u.get F.RST_CAUSE.RECOVERY := by
    split
    · exact fwCheck_get _ _ _ _ (by decide)
    · rfl
  exact congrArg (· == 1) ((hstep _ _ _ _).trans (hstep _ _ _ _))

theorem bothChecked_none {ca cb : FwChecks} (hA : s.fw.slotA.magic = false) (hB : s.fw.slotB.magic = false) : s.bothChecked ca cb = s := by
  unfold State.bothChecked
  simp [hA, hB]

theorem bothChecked_first {ca cb : FwChecks} (hA : s.fw.slotA.magic = true) (hpass : FwPasses s false ca) (hB : s.fw.slotB.magic = false) : s.bothChecked ca cb = s.verified false := by
  unfold State.bothChecked
  rw [if_pos hA, fwCheck_passes hpass]
  exact if_neg (fun h => absurd (h.symm.trans hB) (by decide))

theorem bothChecked_both {ca cb : FwChecks} (hA : s.fw.slotA.magic = true) (hpass : FwPasses s false ca) (hB : s.fw.slotB.magic = true) (hpassB : FwPasses s true cb) :
    s.bothChecked ca cb = (s.verified false).verified true := by
  have hpassB' : FwPasses (s.verified false) true cb := hpassB
  unfold State.bothChecked
  rw [if_pos hA, fwCheck_passes hpass]
  exact (if_pos hB).trans (congrArg Prod.fst (fwCheck_passes hpassB'))

theorem candidate_of_stands {x : FwSlot} {n : Nat} (h : FwStands x n) : ({ x with verify := 0 } : FwSlot).candidate = true := by
  obtain ⟨hmagic, hseq, hrejected⟩ := h
  simp [FwSlot.candidate, hmagic, hseq, hrejected]

theorem candidate_of_erased {x : FwSlot} (h : x.magic = false) : x.candidate = false := by simp [FwSlot.candidate, h]

/-- The slot that a boot looks at first: the candidate with the higher ACT_SEQ. -/
def State.firstSlot (s : State) : Bool :=
  if s.fw.slotA.candidate && s.fw.slotB.candidate then decide (s.fw.slotA.actSeq.getD 0 < s.fw.slotB.actSeq.getD 0) else s.fw.slotB.candidate

theorem chooseSlot_eq (s : State) : s.chooseSlot = if (!s.fw.slotA.candidate && !s.fw.slotB.candidate) = true then s.romRecovery
    else if (!(s.fwSlot s.firstSlot).confirmed && (s.fwSlot s.firstSlot).boots == 0 && (s.fwSlot (!s.firstSlot)).candidate) = true then (s.rejectSlot s.firstSlot 3).bootSlot (!s.firstSlot)
    else s.bootSlot s.firstSlot := rfl

theorem chooseSlot_recovers (hA : s.fw.slotA.candidate = false) (hB : s.fw.slotB.candidate = false) : s.chooseSlot = s.romRecovery := by
  rw [chooseSlot_eq, if_pos (by rw [hA, hB]; rfl)]

theorem chooseSlot_first (hcand : s.fw.slotA.candidate = true ∨ s.fw.slotB.candidate = true)
    (hboots : (s.fwSlot s.firstSlot).confirmed = true ∨ (s.fwSlot (!s.firstSlot)).candidate = false) : s.chooseSlot = s.bootSlot s.firstSlot := by
  rw [chooseSlot_eq, if_neg (by rcases hcand with h | h <;> simp [h]), if_neg (by rcases hboots with h | h <;> simp [h])]

theorem chooseSlot_passes (hcand : s.fw.slotA.candidate = true ∨ s.fw.slotB.candidate = true) (hconf : (s.fwSlot s.firstSlot).confirmed = false) (hboots : (s.fwSlot s.firstSlot).boots = 0)
    (hother : (s.fwSlot (!s.firstSlot)).candidate = true) : s.chooseSlot = (s.rejectSlot s.firstSlot 3).bootSlot (!s.firstSlot) := by
  rw [chooseSlot_eq, if_neg (by rcases hcand with h | h <;> simp [h]), if_pos (by simp [hconf, hboots, hother])]

/-! ## Rejecting -/

theorem rejectSlot_shows (s : State) (b : Bool) (cause : Nat) : (∀ c, (s.rejectSlot b cause).fwSlot c = if b = c then { s.fwSlot b with rejected := true, cause := cause } else s.fwSlot c) ∧
    Raised (s.rejectSlot b cause) 0x4E6 ∧ (s.rejectSlot b cause).get F.FWU_FALLBACKS.COUNT = satIncr32 (s.get F.FWU_FALLBACKS.COUNT) % 2 ^ 32 := by
  unfold State.rejectSlot
  extract_lets x t
  refine ⟨fun c => ?_, raise_bit _ _, ?_⟩
  · have hfw : (((t.ledger 0x4E6 24 (if b then 1 else 0) (leBytes 4 cause)).bump F.FWU_FALLBACKS.COUNT).raise 0x4E6).fw = t.fw := (raise_fw _ _).trans (ledger_fw t _ _ _ _)
    exact (fwSlot_of_fw hfw c).trans (fwSlot_setFwSlot s b c _)
  · rw [get_raise _ 0x4E6 _ _ _ (by decide), get_bump_same, get_ledger _ _ _ _ _ _ _ _ (by decide)]
    rfl

/-! ## What boots -/

theorem verified_first (s : State) (hA : (s.verified false).fw.slotA.candidate = true) (hB : s.fw.slotB.candidate = false) : (s.verified false).firstSlot = false := by
  have hB' : (s.verified false).fw.slotB.candidate = false := hB
  unfold State.firstSlot
  rw [hA, hB']
  rfl

theorem firstSlot_both {n m : Nat} (hA : s.fw.slotA.candidate = true) (hB : s.fw.slotB.candidate = true) (hn : s.fw.slotA.actSeq = some n) (hm : s.fw.slotB.actSeq = some m) :
    s.firstSlot = decide (n < m) := by
  unfold State.firstSlot
  rw [hA, hB, hn, hm]
  rfl

/-- Only slot A holds an image, which boots. -/
theorem firmwareSelect_alone {n : Nat} {ca cb : FwChecks} (h : FwSelecting s) (hrec : s.flag F.RST_CAUSE.RECOVERY = false) (hA : FwStands s.fw.slotA n) (hpass : FwPasses s false ca)
    (hB : s.fw.slotB.magic = false) : exec (.firmwareSelect ca cb) s = .next ((s.verified false).bootSlot false) := by
  have hchecked := bothChecked_first (cb := cb) hA.1 hpass hB
  have hcand : (s.verified false).fw.slotA.candidate = true := candidate_of_stands hA
  have hother : (s.verified false).fw.slotB.candidate = false := candidate_of_erased hB
  have hfirst := verified_first s hcand (candidate_of_erased hB)
  rw [exec_firmwareSelect h, bothChecked_recovery, hrec, hchecked, if_neg (by decide), chooseSlot_first (Or.inl hcand) (Or.inr (by rw [hfirst]; exact hother)), hfirst]

/-- Both slots hold images whose checks have passed. -/
def State.bothVerified (s : State) : State := (s.verified false).verified true

theorem firmwareSelect_both {n m : Nat} {ca cb : FwChecks} (h : FwSelecting s) (hrec : s.flag F.RST_CAUSE.RECOVERY = false) (hA : FwStands s.fw.slotA n) (hB : FwStands s.fw.slotB m)
    (hpassA : FwPasses s false ca) (hpassB : FwPasses s true cb) : exec (.firmwareSelect ca cb) s = .next s.bothVerified.chooseSlot ∧ s.bothVerified.fw.slotA.candidate = true ∧
      s.bothVerified.fw.slotB.candidate = true ∧ s.bothVerified.firstSlot = decide (n < m) := by
  have hchecked := bothChecked_both hA.1 hpassA hB.1 hpassB
  have hcandA : s.bothVerified.fw.slotA.candidate = true := candidate_of_stands hA
  have hcandB : s.bothVerified.fw.slotB.candidate = true := candidate_of_stands hB
  refine ⟨?_, hcandA, hcandB, firstSlot_both hcandA hcandB hA.2.1 hB.2.1⟩
  rw [exec_firmwareSelect h, bothChecked_recovery, hrec, hchecked, if_neg (by decide)]
  rfl

/-- The youngest image has no boot left, and the other one boots. -/
theorem rejected_boots (s : State) : ((s.rejectSlot true 3).bootSlot false).get F.FWU_STATUS.RUNNING = 0 ∧ (((s.rejectSlot true 3).bootSlot false).fwSlot true).rejected = true ∧
    (((s.rejectSlot true 3).bootSlot false).fwSlot true).cause = 3 ∧ Raised ((s.rejectSlot true 3).bootSlot false) 0x4E6 ∧
    ((s.rejectSlot true 3).bootSlot false).get F.FWU_FALLBACKS.COUNT = satIncr32 (s.get F.FWU_FALLBACKS.COUNT) % 2 ^ 32 := by
  obtain ⟨hslots, hraised, hcount⟩ := rejectSlot_shows s true 3
  have hkept : ((s.rejectSlot true 3).bootMarked false).fwSlot true = (s.rejectSlot true 3).fwSlot true := by
    unfold State.bootMarked
    split
    · exact fwSlot_of_fw (burnFuses_fw _ _) true
    · rfl
  have hslot : ((s.rejectSlot true 3).bootSlot false).fwSlot true = { s.fwSlot true with rejected := true, cause := 3 } := (bootSlot_fwSlot _ _ _).trans (hkept.trans (hslots true))
  refine ⟨bootSlot_running _ false, by rw [hslot], by rw [hslot], ((watched_refl _).bootSlot false).raised (by decide) hraised, ?_⟩
  exact (bootSlot_get _ _ _ (by decide) (by decide) (by decide) (by decide)).trans hcount

end
end Sys2Proof.Machine
end

section
/-!
PROOFS. O59 (19_firmware_update.md, R559, R561, R562): the live switch and the trial.
-/
namespace Sys2Proof.Machine

section
variable {s t : State} {b : Bool}

/-! ## The live switch (R559) -/

/-- The slot that runs, and whether it is on trial. -/
def runWatch : List Nat := [F.FWU_STATUS.RUNNING.key 0 0, F.FWU_STATUS.TRIAL.key 0 0]

theorem runWatch_shielded : Shielded runWatch := ⟨⟨by decide, by decide⟩, by decide⟩

theorem Watched.setCtrl {W : List Nat} {P : Prop} (h : Watched W P s t) (c : NvmCtrl) : Watched W P s (t.setCtrl c) := h.same rfl

theorem Watched.asyncEvent {W : List Nat} {P : Prop} (h : Watched W P s t) (ctrl type info log : Nat) : Watched W P s (t.asyncEvent ctrl type info log) := by
  unfold State.asyncEvent
  split
  · exact h
  · split
    · exact (h.setCtrl _).respondOn _ _ _ _ _ _ _
    · exact h.ite (h.setCtrl _)

theorem Watched.fwNotice {W : List Nat} {P : Prop} (h : Watched W P s t) : Watched W P s t.fwNotice := h.foldl _ (fun _ _ h => h.asyncEvent _ _ _ _)

theorem Watched.stepWrite {W : List Nat} {P : Prop} (h : Watched W P s t) (src : Src) (w : StepWrite) {f : State → State} (hf : Watched W P s (f t)) : Watched W P s (t.stepWrite src w f) :=
  hf.ite (h.observe _)

theorem stopCluster_same (s : State) (c : Nat) : (s.stopCluster c).regs = s.regs ∧ (s.stopCluster c).fw = s.fw ∧ (s.stopCluster c).dev = s.dev := by
  unfold State.stopCluster
  extract_lets ran eng u
  refine ⟨foldl_same (π := State.regs) ran (fun t e => ?_) u, foldl_same (π := State.fw) ran (fun t e => ?_) u, foldl_same (π := State.dev) ran (fun t e => ?_) u⟩ <;> rfl

/-- The clusters of `rest` have still to switch. -/
def State.stillSwitching (s : State) (rest : List Nat) : State := { s with fw := { s.fw with switching := rest } }

/-- A cluster runs the new image. -/
def State.clusterOver (s : State) (c : Nat) (rest : List Nat) : State := ((s.stillSwitching rest).stopCluster c).raise 0x4E3

theorem clusterOver_shows (s : State) (c : Nat) (rest : List Nat) : (s.clusterOver c rest).fw = { s.fw with switching := rest } ∧ Raised (s.clusterOver c rest) 0x4E3 ∧
    (s.clusterOver c rest).dev.timeNs = s.dev.timeNs ∧ ∀ g : Fld, F.EVT_STATUS.STATUS.key 39 0 ≠ g.key 0 0 → (s.clusterOver c rest).get g = s.get g := by
  obtain ⟨hregs, hfw, hdev⟩ := stopCluster_same (s.stillSwitching rest) c
  refine ⟨(raise_fw _ _).trans hfw, raise_bit _ _, (raise_timeNs _ _).trans (congrArg Dev.timeNs hdev), fun g hk => ?_⟩
  exact (get_raise _ 0x4E3 _ _ _ hk).trans (congrArg (sparseGet _ _) hregs)

/-- The activation is complete: the other slot runs. -/
def State.nowRuns (s : State) (b : Bool) : State := ({ s with fw := { s.fw with phase := 0 } }).set F.FWU_STATUS.RUNNING (if b then 1 else 0)

theorem nowRuns_runs (s : State) (b : Bool) : (s.nowRuns b).fwRunsB = b := by
  have hget : (s.nowRuns b).get F.FWU_STATUS.RUNNING = if b then 1 else 0 := get_set_of_lt (w := 1) rfl (by cases b <;> decide) _ _ _
  unfold State.fwRunsB State.flag
  rw [hget]
  cases b <;> rfl

theorem Watched.nowRuns (h : Watched [] False s t) (b : Bool) : Watched [] False s (t.nowRuns b) := by
  unfold State.nowRuns
  refine Watched.set ?_ F.FWU_STATUS.RUNNING _ 0 0 (by decide) (by decide)
  exact h.same rfl

theorem Watched.clearBoot {W : List Nat} {P : Prop} (h : Watched W P s t) (b : Bool) : Watched W P s (t.clearBoot b) := h.same rfl

theorem Watched.trialStart (h : Watched [] False s t) : Watched [] False s t.trialStart := by
  unfold State.trialStart
  refine Watched.raise (Watched.set ?_ F.FWU_STATUS.TRIAL _ 0 0 (by decide) (by decide)) _
  exact h.same rfl

theorem execClusterSwitch_cons {c : Nat} {rest : List Nat} (h : s.fw.switching = c :: rest) : exec .clusterSwitch s = .next (if rest ≠ [] then s.clusterOver c rest
    else if (s.clusterOver c rest).fw.phase == 5 then (s.clusterOver c rest).nowRuns (s.clusterOver c rest).fw.switchSlotB
    else (((s.clusterOver c rest).nowRuns (s.clusterOver c rest).fw.switchSlotB).clearBoot (s.clusterOver c rest).fw.switchSlotB).trialStart.stepWrite .svc .fwActivated State.fwNotice) := by
  change execClusterSwitch s = _
  unfold execClusterSwitch
  rw [h]
  rfl

theorem trialStart_shows (s : State) : s.trialStart.flag F.FWU_STATUS.TRIAL = true ∧ s.trialStart.fw = { s.fw with trialNs := s.dev.timeNs, trialBad := false } ∧ Raised s.trialStart 0x4E4 ∧
    s.trialStart.fwRunsB = s.fwRunsB := by
  unfold State.trialStart
  refine ⟨?_, raise_fw _ _, raise_bit _ _, ?_⟩
  · unfold State.flag
    rw [get_raise _ 0x4E4 _ _ _ (by decide)]
    exact flag_setFlag_same _ F.FWU_STATUS.TRIAL true _ _ rfl
  · unfold State.fwRunsB State.flag
    rw [get_raise _ 0x4E4 _ _ _ (by decide)]
    exact congrArg (· == 1) (get_setFlag_other _ _ _ _ _ _ _ _ (by decide))

theorem activated_same (s : State) : Watched runWatch False s (s.stepWrite .svc .fwActivated State.fwNotice) ∧ (s.stepWrite .svc .fwActivated State.fwNotice).fw = s.fw := by
  have hwatched : Watched runWatch False s s := .refl runWatch_shielded False s
  refine ⟨hwatched.stepWrite _ _ hwatched.fwNotice, ?_⟩
  unfold State.stepWrite
  split
  · exact (keeps_State_fwNotice rfl (Keeps.refl false 25236387 s)).part .fw (by decide)
  · exact (keeps_State_observe _ rfl (Keeps.refl false 8389155 s)).part .fw (by decide)

theorem clusterSwitch_goes {c : Nat} {rest : List Nat} (h : s.fw.switching = c :: rest) (hrest : rest ≠ []) :
    ∃ t, exec .clusterSwitch s = .next t ∧ t.fw.switching = rest ∧ Raised t 0x4E3 ∧ t.get F.FWU_STATUS.RUNNING = s.get F.FWU_STATUS.RUNNING := by
  obtain ⟨hfw, hraised, -, hget⟩ := clusterOver_shows s c rest
  exact ⟨_, (execClusterSwitch_cons h).trans (by rw [if_pos hrest]), by rw [hfw], hraised, hget _ (by decide)⟩

theorem clusterSwitch_ends {c : Nat} (h : s.fw.switching = [c]) (hphase : s.fw.phase ≠ 5) :
    ∃ t, exec .clusterSwitch s = .next t ∧ t.fw.switching = [] ∧ t.fw.phase = 0 ∧ t.fwRunsB = s.fw.switchSlotB ∧ t.flag F.FWU_STATUS.TRIAL = true ∧ t.fw.trialNs = s.dev.timeNs ∧
      (t.fwSlot s.fw.switchSlotB).boots = clearLowest (s.fwSlot s.fw.switchSlotB).boots ∧ Raised t 0x4E3 ∧ Raised t 0x4E4 := by
  obtain ⟨hfw, hraised, htime, -⟩ := clusterOver_shows s c []
  let u := (s.clusterOver c []).nowRuns s.fw.switchSlotB
  let v := (u.clearBoot s.fw.switchSlotB).trialStart
  have hexec : exec .clusterSwitch s = .next (v.stepWrite .svc .fwActivated State.fwNotice) := by
    rw [execClusterSwitch_cons h, if_neg (by simp), hfw]
    exact congrArg Host.Outcome.next (if_neg (by simpa using hphase))
  obtain ⟨htrial, hvfw, hstarted, hruns⟩ := trialStart_shows (u.clearBoot s.fw.switchSlotB)
  obtain ⟨hwatched, hsame⟩ := activated_same v
  have hfwv : (v.stepWrite .svc .fwActivated State.fwNotice).fw = { (u.clearBoot s.fw.switchSlotB).fw with trialNs := u.dev.timeNs, trialBad := false } := hsame.trans hvfw
  have hclear : (u.clearBoot s.fw.switchSlotB).fw.switching = u.fw.switching ∧ (u.clearBoot s.fw.switchSlotB).fw.phase = u.fw.phase := by
    unfold State.clearBoot State.setFwSlot
    split <;> exact ⟨rfl, rfl⟩
  have hu : u.fw.switching = [] ∧ u.fw.phase = 0 := ⟨congrArg FwSt.switching hfw, rfl⟩
  have hslot : ((u.clearBoot s.fw.switchSlotB).fwSlot s.fw.switchSlotB).boots = clearLowest (s.fwSlot s.fw.switchSlotB).boots := by
    unfold State.clearBoot
    rw [fwSlot_setFwSlot_same]
    have hslot : u.fwSlot s.fw.switchSlotB = (s.clusterOver c []).fwSlot s.fw.switchSlotB := rfl
    have hsame : (s.clusterOver c []).fwSlot s.fw.switchSlotB = s.fwSlot s.fw.switchSlotB := by
      unfold State.fwSlot
      rw [hfw]
    rw [hslot, hsame]
  have hbefore : Watched [] False (s.clusterOver c []) v := by
    exact ((watched_refl (s.clusterOver c [])).nowRuns _).clearBoot _ |>.trialStart
  refine ⟨_, hexec, ?_, ?_, ?_, ?_, ?_, ?_, hwatched.raised (by decide) (hbefore.raised (by decide) hraised), hwatched.raised (by decide) hstarted⟩
  · rw [hfwv]
    exact hclear.1.trans hu.1
  · rw [hfwv]
    exact hclear.2.trans hu.2
  · exact (hwatched.spares.flag F.FWU_STATUS.RUNNING 0 0 (by decide)).trans (hruns.trans (nowRuns_runs _ _))
  · exact (hwatched.spares.flag F.FWU_STATUS.TRIAL 0 0 (by decide)).trans htrial
  · rw [hfwv]
    exact htime
  · unfold State.fwSlot at hslot ⊢
    rw [hfwv]
    exact hslot

theorem clusterSwitch_returns {c : Nat} (h : s.fw.switching = [c]) (hphase : s.fw.phase = 5) :
    ∃ t, exec .clusterSwitch s = .next t ∧ t.fw.switching = [] ∧ t.fw.phase = 0 ∧ t.fwRunsB = s.fw.switchSlotB ∧ t.flag F.FWU_STATUS.TRIAL = s.flag F.FWU_STATUS.TRIAL := by
  obtain ⟨hfw, -, -, hget⟩ := clusterOver_shows s c []
  refine ⟨(s.clusterOver c []).nowRuns s.fw.switchSlotB, ?_, ?_, rfl, nowRuns_runs _ _, ?_⟩
  · rw [execClusterSwitch_cons h, if_neg (by simp), hfw]
    exact congrArg Host.Outcome.next (if_pos (by simpa using hphase))
  · exact congrArg FwSt.switching hfw
  · exact congrArg (· == 1) ((get_set_other _ _ _ _ _ _ _ _ (by decide)).trans (hget F.FWU_STATUS.TRIAL (by decide)))

/-! ## The trial (R561, R562) -/

theorem addCounter_quiet (s : State) (i weight : Nat) : (s.addCounter i weight).dev.quiet = s.dev.quiet := by
  unfold State.addCounter
  extract_lets v u
  split
  · rfl
  · exact (raiseLimited_quiet _ _).trans rfl

theorem count_quiet (s : State) (unit inst event weight : Nat) : (s.count unit inst event weight).dev.quiet = s.dev.quiet := by
  unfold State.count
  split
  · refine foldl_same (π := fun u : State => u.dev.quiet) _ (fun t i => ?_) s
    split
    · exact addCounter_quiet t i weight
    · rfl
  · rfl

theorem sendLink_quiet (s : State) (b : LinkBody) : (s.sendLink b).dev.quiet = s.dev.quiet := by
  unfold State.sendLink State.putLink
  split
  · exact (count_quiet _ _ _ _ _).trans rfl
  · rfl

theorem number_quiet (s : State) (sideB refOnly : Bool) (origin : Nat) (i : Input) : (s.number sideB refOnly origin i).dev.quiet = s.dev.quiet := by
  unfold State.number State.sendInput
  dsimp only
  split
  · exact (count_quiet _ _ _ _ _).trans ((sendLink_quiet _ _).trans rfl)
  · rfl

theorem observe_quiet (s : State) (i : Input) : (s.observe i).dev.quiet = s.dev.quiet := by
  unfold State.observe
  dsimp only
  split
  · exact (number_quiet _ _ _ _ _).trans rfl
  · split
    · exact (sendLink_quiet _ _).trans rfl
    · rfl

/-- CONFIRMED is programmed, the trial ends, and the fuses are burned. -/
def State.confirmed (s : State) : State :=
  ((((s.setFwSlot s.fwRunsB { s.fwSlot s.fwRunsB with confirmed := true }).trialOver).burnFuses s.fwRunsB).raise 0x4E5)

/-- The bank in the newer format is confirmed (R78). -/
def State.bankConfirmed (s : State) : State :=
  if s.get F.STORE_STATUS.CURRENT ≠ 0 ∧ ((s.bank (s.get F.STORE_STATUS.CURRENT - 1)).migrated ∨ (s.bank (s.get F.STORE_STATUS.CURRENT - 1)).major < s.storeMajor) then s.commit [.confirm] else s

/-- No activation runs. -/
def State.phaseOver (s : State) : State := { s with fw := { s.fw with phase := 0 } }

theorem fwConfirm_eq (s : State) : s.fwConfirm = if s.fw.phase = 2 ∧ s.confirmed.bankConfirmed.phaseOver.inPair then s.confirmed.bankConfirmed.phaseOver.observe (.mgmt .fwConfirmed)
    else s.confirmed.bankConfirmed.phaseOver := by
  unfold State.fwConfirm State.confirmed State.bankConfirmed State.phaseOver
  dsimp only

/-- What a confirmation shows. -/
structure Confirms (s : State) (b : Bool) (t : State) : Prop where
  slot : (t.fwSlot b).confirmed = true
  trial : t.flag F.FWU_STATUS.TRIAL = false
  security : t.dev.fuseSecurity = max s.dev.fuseSecurity (leAt (s.fwSlot b).image 0x18 1)
  raised : Raised t 0x4E5

theorem Confirms.later {u : State} (h : Confirms s b t) (hfw : ∀ c, (u.fwSlot c).confirmed = (t.fwSlot c).confirmed) (hquiet : u.dev.quiet = t.dev.quiet) (hkept : Watched runWatch False t u) : Confirms s b u :=
  ⟨(hfw b).trans h.slot, (hkept.spares.flag F.FWU_STATUS.TRIAL 0 0 (by decide)).trans h.trial, (Dev.fuseSecurity_of_quiet hquiet).trans h.security, hkept.raised (by decide) h.raised⟩

theorem confirmed_confirms (s : State) : Confirms s s.fwRunsB s.confirmed := by
  unfold State.confirmed
  have hslot : (s.setFwSlot s.fwRunsB { s.fwSlot s.fwRunsB with confirmed := true }).trialOver.fwSlot s.fwRunsB = { s.fwSlot s.fwRunsB with confirmed := true } := fwSlot_setFwSlot_same s _ _
  have htrial : (s.setFwSlot s.fwRunsB { s.fwSlot s.fwRunsB with confirmed := true }).trialOver.flag F.FWU_STATUS.TRIAL = false := flag_setFlag_same _ _ _ _ _ rfl
  have hsecurity : (s.setFwSlot s.fwRunsB { s.fwSlot s.fwRunsB with confirmed := true }).trialOver.dev = s.dev := rfl
  generalize (s.setFwSlot s.fwRunsB { s.fwSlot s.fwRunsB with confirmed := true }).trialOver = u at hslot htrial hsecurity ⊢
  refine ⟨?_, ?_, ?_, raise_bit _ _⟩
  · rw [fwSlot_of_fw ((raise_fw _ _).trans (burnFuses_fw u s.fwRunsB)), hslot]
  · unfold State.flag at htrial ⊢
    rwa [get_raise _ 0x4E5 _ _ _ (by decide), burnFuses_get _ _ _ (by decide)]
  · rw [Dev.fuseSecurity_of_quiet (raise_quiet _ _), burnFuses_security, hslot, hsecurity]

theorem bankConfirmed_same (s : State) : s.bankConfirmed.fw = s.fw ∧ s.bankConfirmed.dev.quiet = s.dev.quiet ∧ Watched runWatch False s s.bankConfirmed := by
  have hwatched : Watched runWatch False s s := .refl runWatch_shielded False s
  unfold State.bankConfirmed
  split
  · exact ⟨commit_fw _ _, commit_quiet _ _, hwatched.commit _ (by decide) (by decide)⟩
  · exact ⟨rfl, rfl, hwatched⟩

theorem phaseOver_same (s : State) : (∀ c, s.phaseOver.fwSlot c = s.fwSlot c) ∧ s.phaseOver.dev = s.dev ∧ s.phaseOver.regs = s.regs ∧ s.phaseOver.fw.phase = 0 :=
  ⟨fun c => by cases c <;> rfl, rfl, rfl, rfl⟩

theorem Watched.phaseOver {W : List Nat} {P : Prop} (h : Watched W P s t) : Watched W P s t.phaseOver := h.same rfl

/-- The running image is confirmed. -/
theorem fwConfirm_confirms (s : State) : Confirms s s.fwRunsB s.fwConfirm ∧ s.fwConfirm.fw.phase = 0 := by
  obtain ⟨hfw, hquiet, hwatched⟩ := bankConfirmed_same s.confirmed
  have hover : Confirms s s.fwRunsB s.confirmed.bankConfirmed.phaseOver := by
    obtain ⟨hslots, hdev, -, -⟩ := phaseOver_same s.confirmed.bankConfirmed
    refine (confirmed_confirms s).later (fun c => ?_) (by rw [hdev, hquiet]) hwatched.phaseOver
    rw [hslots, fwSlot_of_fw hfw]
  rw [fwConfirm_eq]
  split
  · refine ⟨hover.later (fun c => ?_) (observe_quiet _ _) ((Watched.refl runWatch_shielded False _).observe _), ?_⟩
    · rw [fwSlot_of_fw (observe_fw _ _)]
    · rw [observe_fw]
      rfl
  · exact ⟨hover, rfl⟩

theorem exec_trialEvaluation (h : s.flag F.FWU_STATUS.TRIAL = true) : exec .trialEvaluation s = .next (
    let sec := (s.dev.timeNs - s.fw.trialNs) / 1000000000 + 1
    let u := s.reach (s.fw.trialNs + sec * 1000000000)
    if (s.fwSlot s.fwRunsB).window * 60 ≤ 4 * sec ∧ u.fwHealthy = true then u.fwConfirm else u) :=
  congrArg Host.Outcome.next (if_neg (by rw [h]; decide))

theorem exec_trialExpiry (h : s.flag F.FWU_STATUS.TRIAL = true) : exec .trialExpiry s = .next ((s.reach (s.fw.trialNs + (s.fwSlot s.fwRunsB).window * 60000000000)).fwReject 1) :=
  congrArg Host.Outcome.next (if_pos h)

theorem trial_idle (h : s.flag F.FWU_STATUS.TRIAL = false) : exec .trialEvaluation s = .next s ∧ exec .trialExpiry s = .next s :=
  ⟨congrArg Host.Outcome.next (if_pos (by rw [h]; rfl)), congrArg Host.Outcome.next (if_neg (by rw [h]; decide))⟩

/-! ## Rejecting the running image -/

/-- The running image is rejected, before the device returns. -/
def State.runRejected (s : State) (cause : Nat) : State := s.trialOver.rejectSlot s.fwRunsB cause

theorem fwReject_returns (h : (s.fwSlot (!s.fwRunsB)).candidate = true) (cause : Nat) : s.fwReject cause = (s.runRejected cause).fwReturn := if_pos h

theorem fwReject_stays (h : (s.fwSlot (!s.fwRunsB)).candidate = false) (cause : Nat) :
    s.fwReject cause = (s.trialOver.setFwSlot s.fwRunsB { s.trialOver.fwSlot s.fwRunsB with cause := 4 }).raise 0x4E6 :=
  if_neg (fun hc => absurd (hc.symm.trans h) (by decide))

/-- The running image is rejected with a cause. -/
structure Rejects (s : State) (cause : Nat) (t : State) : Prop where
  slot : t.fwSlot s.fwRunsB = { s.fwSlot s.fwRunsB with rejected := true, cause := cause }
  trial : t.flag F.FWU_STATUS.TRIAL = false
  raised : Raised t 0x4E6
  count : t.get F.FWU_FALLBACKS.COUNT = satIncr32 (s.get F.FWU_FALLBACKS.COUNT) % 2 ^ 32
  runs : t.fwRunsB = s.fwRunsB
  role : t.role = s.role
  pwr : t.pwr = s.pwr

theorem rejectSlot_get (s : State) (b : Bool) (cause : Nat) (g : Fld) (hledger : g.key 0 0 ∉ ledgerKeys) (hcount : F.FWU_FALLBACKS.COUNT.key 0 0 ≠ g.key 0 0)
    (hevent : F.EVT_STATUS.STATUS.key 39 0 ≠ g.key 0 0) : (s.rejectSlot b cause).get g = s.get g := by
  unfold State.rejectSlot
  rw [get_raise _ 0x4E6 _ _ _ hevent]
  exact (get_set_other _ _ _ _ _ _ _ _ hcount).trans (get_ledger _ _ _ _ _ _ _ _ hledger)

theorem rejectSlot_pwr (s : State) (b : Bool) (cause : Nat) : (s.rejectSlot b cause).pwr = s.pwr := by
  unfold State.rejectSlot
  rw [raise_pwr]
  exact (ledger_pwr _ _ _ _ _).trans rfl

theorem runRejected_rejects (s : State) (cause : Nat) : Rejects s cause (s.runRejected cause) := by
  obtain ⟨hslots, hraised, hcount⟩ := rejectSlot_shows s.trialOver s.fwRunsB cause
  unfold State.runRejected
  have hover (g : Fld) (hk : F.FWU_STATUS.TRIAL.key 0 0 ≠ g.key 0 0) : s.trialOver.get g = s.get g := get_setFlag_other _ _ _ _ _ _ _ _ hk
  refine ⟨(hslots _).trans (if_pos rfl), ?_, hraised, by rw [hcount, hover _ (by decide)], ?_, ?_, rejectSlot_pwr ..⟩
  · refine (congrArg (· == 1) (rejectSlot_get s.trialOver s.fwRunsB cause F.FWU_STATUS.TRIAL (by decide) (by decide) (by decide))).trans ?_
    exact flag_setFlag_same s F.FWU_STATUS.TRIAL false _ _ rfl
  · exact congrArg (· == 1) ((rejectSlot_get _ _ _ F.FWU_STATUS.RUNNING (by decide) (by decide) (by decide)).trans (hover _ (by decide)))
  · exact (rejectSlot_get _ _ _ F.WSW_STATUS.ROLE (by decide) (by decide) (by decide)).trans (hover _ (by decide))

/-- The device is to return to the other slot. -/
def State.returning (s : State) : State := { s with fw := { s.fw with phase := 5 } }

theorem fwReturn_alone (h : s.role = roleAlone) : s.fwReturn = if (s.fwSlot s.fwRunsB).mode = 1 then s.returning.beginSwitch (!s.fwRunsB) 5 else s.returning.askWarm 2 := by
  have hslot : s.returning.fwSlot s.fwRunsB = s.fwSlot s.fwRunsB := by
    unfold State.returning State.fwSlot
    rfl
  have hrole : s.returning.role = roleAlone := h
  have heq : s.fwReturn = if s.returning.role = roleLeader ∧ s.returning.partnerInStep = true then s.returning.askHandover
      else if s.returning.role = roleAlone ∧ (s.returning.fwSlot s.fwRunsB).mode = 1 then s.returning.beginSwitch (!s.fwRunsB) 5 else s.returning.askWarm 2 := by
    have htold : (s.fw.phase == 2 && s.inPair) = false := by rw [inPair_of_alone h, Bool.and_false]
    unfold State.fwReturn
    simp only [htold, Bool.false_eq_true, if_false]
    rfl
  rw [heq, if_neg (by rw [hrole]; simp [roleAlone, roleLeader]), hslot]
  split
  · rename_i hc
    rw [if_pos hc.2]
  · rename_i hc
    rw [if_neg (fun hm => hc ⟨hrole, hm⟩)]

/-! ## The rows of the trial -/

/-- A switch that goes on is recorded only. -/
theorem returning_switches (h : (s.fwSlot b).rejected = true) (c : Bool) : ((s.returning.beginSwitch c 5).fwSlot b) = s.fwSlot b ∧ (s.returning.beginSwitch c 5).fw.phase = 5 ∧
    (s.returning.beginSwitch c 5).fw.switching = [3, 2, 1, 0] ∧ (s.returning.beginSwitch c 5).fw.switchSlotB = c ∧ (s.returning.beginSwitch c 5).regs = s.regs := by
  refine ⟨?_, rfl, rfl, rfl, rfl⟩
  cases b <;> rfl

/-- A live switch back to the other slot begins. -/
structure SwitchesBack (s : State) (cause : Nat) (t : State) : Prop where
  slot : t.fwSlot s.fwRunsB = { s.fwSlot s.fwRunsB with rejected := true, cause := cause }
  trial : t.flag F.FWU_STATUS.TRIAL = false
  phase : t.fw.phase = 5
  switching : t.fw.switching = [3, 2, 1, 0]
  target : t.fw.switchSlotB = !s.fwRunsB
  raised : Raised t 0x4E6
  count : t.get F.FWU_FALLBACKS.COUNT = satIncr32 (s.get F.FWU_FALLBACKS.COUNT) % 2 ^ 32

theorem fwReject_switches (halone : s.role = roleAlone) (hcand : (s.fwSlot (!s.fwRunsB)).candidate = true) (hmode : (s.fwSlot s.fwRunsB).mode = 1) (cause : Nat) :
    SwitchesBack s cause (s.fwReject cause) := by
  have hrej := runRejected_rejects s cause
  have hmode' : ((s.runRejected cause).fwSlot (s.runRejected cause).fwRunsB).mode = 1 := by rw [hrej.runs, hrej.slot]; exact hmode
  rw [fwReject_returns hcand, fwReturn_alone (hrej.role.trans halone), if_pos hmode', hrej.runs]
  obtain ⟨hslot, htrial, hraised, hcount, -, -, -⟩ := hrej
  generalize s.runRejected cause = u at hslot htrial hraised hcount ⊢
  obtain ⟨hkept, hphase, hswitching, htarget, hregs⟩ := returning_switches (s := u) (b := s.fwRunsB) (by rw [hslot]) (!s.fwRunsB)
  generalize u.returning.beginSwitch (!s.fwRunsB) 5 = v at hkept hphase hswitching htarget hregs ⊢
  have hget (g : Fld) (i : Nat) : v.get g i = u.get g i := congrArg (sparseGet _ _) hregs
  refine ⟨hkept.trans hslot, (congrArg (· == 1) (hget _ 0)).trans htrial, hphase, hswitching, htarget, ?_, (hget _ 0).trans hcount⟩
  unfold Raised
  rw [hget]
  exact hraised

theorem fwReject_resets (halone : s.role = roleAlone) (hcand : (s.fwSlot (!s.fwRunsB)).candidate = true) (hmode : (s.fwSlot s.fwRunsB).mode = 0) (hruns : s.resetRuns = false) (hwarm : s.pwr.warm = none)
    (cause : Nat) : (s.fwReject cause).fwSlot s.fwRunsB = { s.fwSlot s.fwRunsB with rejected := true, cause := cause } ∧ (s.fwReject cause).pwr.warm = some 2 := by
  have hrej := runRejected_rejects s cause
  have hmode' : ((s.runRejected cause).fwSlot (s.runRejected cause).fwRunsB).mode ≠ 1 := by rw [hrej.runs, hrej.slot]; simp [hmode]
  rw [fwReject_returns hcand, fwReturn_alone (hrej.role.trans halone), if_neg hmode']
  obtain ⟨hslot, -, -, -, -, -, hpwr⟩ := hrej
  generalize s.runRejected cause = u at hslot hpwr ⊢
  have hback : u.returning.fwSlot s.fwRunsB = u.fwSlot s.fwRunsB := by cases s.fwRunsB <;> rfl
  have hpwr' : u.returning.pwr = s.pwr := hpwr
  have hruns' : u.returning.resetRuns = false := by
    unfold State.resetRuns at hruns ⊢
    rw [hpwr', hruns]
  refine ⟨?_, askWarm_warm hruns' (by rw [hpwr', hwarm]) 2⟩
  rw [fwSlot_of_fw ((keeps_State_askWarm 2 rfl (Keeps.refl false 8423975 u.returning)).part .fw (by decide)), hback, hslot]

theorem fwReject_runsOn (h : (s.fwSlot (!s.fwRunsB)).candidate = false) (cause : Nat) : (s.fwReject cause).fwSlot s.fwRunsB = { s.fwSlot s.fwRunsB with cause := 4 } ∧
    (s.fwReject cause).flag F.FWU_STATUS.TRIAL = false ∧ (s.fwReject cause).dev.fuseSecurity = s.dev.fuseSecurity ∧ Raised (s.fwReject cause) 0x4E6 := by
  rw [fwReject_stays h]
  refine ⟨?_, ?_, Dev.fuseSecurity_of_quiet (raise_quiet _ _), raise_bit _ _⟩
  · rw [fwSlot_of_fw (raise_fw _ _), fwSlot_setFwSlot_same]
    rfl
  · refine (congrArg (· == 1) (get_raise _ 0x4E6 F.FWU_STATUS.TRIAL _ _ (by decide))).trans ?_
    exact flag_setFlag_same s F.FWU_STATUS.TRIAL false _ _ rfl

theorem trialEvaluation_confirms (htrial : s.flag F.FWU_STATUS.TRIAL = true) :
    let sec := (s.dev.timeNs - s.fw.trialNs) / 1000000000 + 1
    let u := s.reach (s.fw.trialNs + sec * 1000000000)
    (s.fwSlot s.fwRunsB).window * 60 ≤ 4 * sec → u.fwHealthy = true → ∃ t, exec .trialEvaluation s = .next t ∧ (t.fwSlot s.fwRunsB).confirmed = true ∧ t.flag F.FWU_STATUS.TRIAL = false ∧
      Raised t 0x4E5 ∧ t.dev.fuseSecurity = max s.dev.fuseSecurity (leAt (s.fwSlot s.fwRunsB).image 0x18 1) ∧ t.fw.phase = 0 := by
  intro sec u hquarter hhealthy
  obtain ⟨⟨hslot, hover, hsecurity, hraised⟩, hphase⟩ := fwConfirm_confirms u
  exact ⟨u.fwConfirm, (exec_trialEvaluation htrial).trans (congrArg Host.Outcome.next (if_pos ⟨hquarter, hhealthy⟩)), hslot, hover, hraised, hsecurity, hphase⟩

end

/-- Settles O59: a boot is stated through the slot it marks and the store it migrates, the end of a trial through what a confirmation and a rejection show, which later work keeps. -/
theorem firmwareBootAndTrial : Obligations.FirmwareBootAndTrial := by
  refine ⟨?select, ?switch, ?trial⟩
  case select =>
    intro ca cb s h
    refine ⟨fun hnone => ?_, fun n hrec hA hpass hB => ⟨fun hconf => ?_, fun hconf => ?_⟩, fun n m hrec hA hB hpassA hpassB => ⟨fun hconfA hconfB => ?_, fun hlt hconf hboots => ?_⟩⟩
    · have hrom : exec (.firmwareSelect ca cb) s = .next (s.bothChecked ca cb).romRecovery := by
        rw [exec_firmwareSelect h]
        rcases hnone with hrec | ⟨hA, hB⟩
        · rw [bothChecked_recovery, hrec, if_pos rfl]
        · rw [bothChecked_none hA hB, chooseSlot_recovers (candidate_of_erased hA) (candidate_of_erased hB), ite_self]
      exact ⟨_, hrom, romRecovery_shows _⟩
    · have hmarked := bootMarked_confirmed (s := s.verified false) (b := false) hconf
      have hslot := (bootSlot_fwSlot (s.verified false) false false).trans (fwSlot_of_fw ((congrArg State.fw hmarked).trans (burnFuses_fw _ _)) false)
      refine ⟨_, firmwareSelect_alone h hrec hA hpass hB, bootSlot_step _ _, bootSlot_running _ _, ?_, congrArg FwSlot.verify hslot, (congrArg FwSlot.boots hslot).trans rfl⟩
      rw [bootSlot_security, hmarked, burnFuses_security]
      rfl
    · have hmarked := bootMarked_trial (s := s.verified false) (b := false) hconf
      have hslot : ((s.verified false).bootSlot false).fwSlot false = { s.fw.slotA with verify := 0, boots := clearLowest s.fw.slotA.boots } := by
        rw [bootSlot_fwSlot, hmarked]
        rfl
      refine ⟨_, firmwareSelect_alone h hrec hA hpass hB, bootSlot_step _ _, bootSlot_running _ _, ?_, congrArg FwSlot.boots hslot, (congrArg FwSlot.rejected hslot).trans hA.2.2⟩
      rw [bootSlot_security, hmarked]
      rfl
    · obtain ⟨hexec, hcandA, -, hfirst⟩ := firmwareSelect_both h hrec hA hB hpassA hpassB
      have hconf (b : Bool) : (s.bothVerified.fwSlot b).confirmed = true := by
        cases b
        · exact hconfA
        · exact hconfB
      refine ⟨_, hexec, ?_⟩
      rw [chooseSlot_first (Or.inl hcandA) (Or.inl (hconf _)), bootSlot_running, hfirst]
      simp
    · obtain ⟨hexec, hcandA, -, hfirst⟩ := firmwareSelect_both h hrec hA hB hpassA hpassB
      have htrue : s.bothVerified.firstSlot = true := by rw [hfirst]; simpa using hlt
      rw [chooseSlot_passes (Or.inl hcandA) (by rw [htrue]; exact hconf) (by rw [htrue]; exact hboots) (by rw [htrue]; exact hcandA), htrue] at hexec
      exact ⟨_, hexec, rejected_boots s.bothVerified⟩
  case switch =>
    intro c rest s h
    refine ⟨fun hrest => clusterSwitch_goes h hrest, fun hrest hphase => ?_, fun hrest hphase => ?_⟩
    · subst hrest
      exact clusterSwitch_ends h hphase
    · subst hrest
      exact clusterSwitch_returns h hphase
  case trial =>
    intro s
    refine ⟨trial_idle, fun htrial => ?_⟩
    intro b sec u
    have hexpiry := exec_trialExpiry htrial
    refine ⟨trialEvaluation_confirms htrial, fun hearly => ?_, fun hcand halone hmode => ?_, fun hcand halone hmode hruns hwarm => ?_, fun hcand => ?_⟩
    · refine (exec_trialEvaluation htrial).trans (congrArg Host.Outcome.next (if_neg (fun hgo => ?_)))
      rcases hearly with hlt | hsick
      · exact absurd hgo.1 (Nat.not_le.mpr hlt)
      · exact absurd (hsick.symm.trans hgo.2) (by decide)
    · obtain ⟨hslot, hover, hphase, hswitching, htarget, hraised, hcount⟩ := fwReject_switches (s := s.reach (s.fw.trialNs + (s.fwSlot s.fwRunsB).window * 60000000000)) halone.1 hcand hmode 1
      exact ⟨_, hexpiry, congrArg FwSlot.rejected hslot, congrArg FwSlot.cause hslot, hover, hphase, hswitching, htarget, hraised, hcount⟩
    · obtain ⟨hslot, hasked⟩ := fwReject_resets (s := s.reach (s.fw.trialNs + (s.fwSlot s.fwRunsB).window * 60000000000)) halone.1 hcand hmode hruns hwarm 1
      exact ⟨_, hexpiry, congrArg FwSlot.rejected hslot, congrArg FwSlot.cause hslot, hasked⟩
    · obtain ⟨hslot, hover, hsecurity, hraised⟩ := fwReject_runsOn (s := s.reach (s.fw.trialNs + (s.fwSlot s.fwRunsB).window * 60000000000)) hcand 1
      exact ⟨_, hexpiry, (congrArg FwSlot.rejected hslot).trans rfl, congrArg FwSlot.cause hslot, hover, hsecurity, hraised⟩

end Sys2Proof.Machine
end

section
/-!
PROOFS. O60 (19_firmware_update.md, R552 to R557): what the firmware operations read, and what they show.
-/
namespace Sys2Proof.Machine

section
variable {s t u : State} {b : Bool}

/-! ## What the firmware operations read besides the two slots -/

/-- The role, the partner, the running slot, recovery, trial, the chip revision and the store in force. -/
def fwWatch : List Nat := [F.WSW_STATUS.ROLE.key 0 0, F.WSW_STATUS.PARTNER.key 0 0, F.FWU_STATUS.RECOVERY.key 0 0, F.FWU_STATUS.RUNNING.key 0 0, F.FWU_STATUS.TRIAL.key 0 0, F.GLB_REV.REVISION.key 0 0,
  F.STORE_STATUS.CURRENT.key 0 0, F.PAT_STATUS.MAJOR.key 0 0]

/-- All of that is as before, and so are the fused security version, the Pattern and the pending reset. -/
structure FwSame (s t : State) : Prop where
  reads : ∀ g : Fld, g.key 0 0 ∈ fwWatch → t.get g = s.get g
  security : t.dev.fuseSecurity = s.dev.fuseSecurity
  pat : t.pat = s.pat
  warm : t.pwr.warm = s.pwr.warm

theorem FwSame.refl (s : State) : FwSame s s := ⟨fun _ _ => rfl, rfl, rfl, rfl⟩

theorem FwSame.trans (h : FwSame s t) (h' : FwSame t u) : FwSame s u :=
  ⟨fun g hg => (h'.reads g hg).trans (h.reads g hg), h'.security.trans h.security, h'.pat.trans h.pat, h'.warm.trans h.warm⟩

theorem FwSame.same (h : FwSame s t) (hregs : u.regs = t.regs) (hdev : u.dev.fuseSecurity = t.dev.fuseSecurity) (hpat : u.pat = t.pat) (hwarm : u.pwr.warm = t.pwr.warm) : FwSame s u :=
  ⟨fun g hg => (congrArg (sparseGet _ _) hregs).trans (h.reads g hg), hdev.trans h.security, hpat.trans h.pat, hwarm.trans h.warm⟩

theorem FwSame.ite {c : Prop} [Decidable c] (h : FwSame s t) (h' : FwSame s u) : FwSame s (if c then t else u) := by
  split <;> assumption

theorem FwSame.set (h : FwSame s t) (f : Fld) (v i j : Nat) (hk : f.key i j ∉ fwWatch) : FwSame s (t.set f v i j) :=
  ⟨fun g hg => (get_set_other t f g v i j 0 0 (fun he => hk (by rw [he]; exact hg))).trans (h.reads g hg), h.security, h.pat, h.warm⟩

theorem low_not_fwWatch (f : Fld) (i j : Nat) (hlo : f.lo = 0) (hoff : 0x50000 ≤ f.off) : f.key i j ∉ fwWatch := by
  simp only [fwWatch, List.mem_cons, List.not_mem_nil, or_false, not_or, Fld.key, Fld.at, hlo, F.WSW_STATUS.ROLE, F.WSW_STATUS.PARTNER, F.FWU_STATUS.RECOVERY, F.FWU_STATUS.RUNNING, F.FWU_STATUS.TRIAL,
    F.GLB_REV.REVISION, F.STORE_STATUS.CURRENT, F.PAT_STATUS.MAJOR]
  omega

theorem events_not_fwWatch {n : Nat} (hn : n < 64) : F.EVT_STATUS.STATUS.key n 0 ∉ fwWatch := by
  simp only [fwWatch, List.mem_cons, List.not_mem_nil, or_false, not_or, Fld.key, Fld.at, F.EVT_STATUS.STATUS, F.WSW_STATUS.ROLE, F.WSW_STATUS.PARTNER, F.FWU_STATUS.RECOVERY, F.FWU_STATUS.RUNNING,
    F.FWU_STATUS.TRIAL, F.GLB_REV.REVISION, F.STORE_STATUS.CURRENT, F.PAT_STATUS.MAJOR]
  omega

theorem portState_not_fwWatch {n : Nat} (hn : n < 48) : F.DP_STATUS.STATE.key n 0 ∉ fwWatch := by
  simp only [fwWatch, List.mem_cons, List.not_mem_nil, or_false, not_or, Fld.key, Fld.at, F.DP_STATUS.STATE, F.WSW_STATUS.ROLE, F.WSW_STATUS.PARTNER, F.FWU_STATUS.RECOVERY, F.FWU_STATUS.RUNNING,
    F.FWU_STATUS.TRIAL, F.GLB_REV.REVISION, F.STORE_STATUS.CURRENT, F.PAT_STATUS.MAJOR]
  omega

theorem FwSame.low (h : FwSame s t) (f : Fld) (v i j : Nat) (hlo : f.lo = 0 := by rfl) (hoff : 0x50000 ≤ f.off := by decide) : FwSame s (t.set f v i j) := h.set f v i j (low_not_fwWatch f i j hlo hoff)

theorem FwSame.raise (h : FwSame s t) {e : Nat} (he : e < 2048) : FwSame s (t.raise e) := by
  refine ⟨fun g hg => (get_raise _ _ _ _ _ (fun hk => events_not_fwWatch (n := e / 32) (by omega) (hk ▸ hg))).trans (h.reads g hg), (Dev.fuseSecurity_of_quiet (raise_quiet _ _)).trans h.security,
    (raise_pat _ _).trans h.pat, ?_⟩
  rw [raise_pwr]
  exact h.warm

theorem FwSame.raiseLimited (h : FwSame s t) {e : Nat} (he : e < 2048) : FwSame s (t.raiseLimited e) := by
  unfold State.raiseLimited
  refine h.ite (FwSame.raise ?_ he)
  exact h.same rfl rfl rfl rfl

theorem FwSame.count (h : FwSame s t) (unit inst event weight : Nat) : FwSame s (t.count unit inst event weight) := by
  unfold State.count
  refine FwSame.ite (List.foldlRecOn (motive := FwSame s) _ _ h (fun v hv i _ => FwSame.ite ?_ hv)) h
  unfold State.addCounter
  extract_lets x w
  have hw : FwSame s w := hv.low F.SCL_CNT.COUNT _ i 0
  exact hw.ite ((hw.low F.SCL_OVF.OVF _ _ 0).raiseLimited (by decide))

theorem FwSame.flag (h : FwSame s t) (g : Fld) (hg : g.key 0 0 ∈ fwWatch) : t.flag g = s.flag g := congrArg (· == 1) (h.reads g hg)

theorem FwSame.role (h : FwSame s t) : t.role = s.role := h.reads F.WSW_STATUS.ROLE (by decide)

theorem FwSame.inPair (h : FwSame s t) : t.inPair = s.inPair := by
  unfold State.inPair
  rw [h.role]

theorem FwSame.partnerInStep (h : FwSame s t) : t.partnerInStep = s.partnerInStep := by
  unfold State.partnerInStep
  rw [h.reads F.WSW_STATUS.PARTNER (by decide), h.inPair]

theorem FwSame.fwRunsB (h : FwSame s t) : t.fwRunsB = s.fwRunsB := h.flag F.FWU_STATUS.RUNNING (by decide)

/-- The target depends on the slots through what makes them candidates. -/
theorem FwSame.fwTarget (h : FwSame s t) (hcand : ∀ c, (t.fwSlot c).candidate = (s.fwSlot c).candidate) (hseq : ∀ c, (t.fwSlot c).actSeq = (s.fwSlot c).actSeq) : t.fwTarget = s.fwTarget := by
  have hA : t.fw.slotA.candidate = s.fw.slotA.candidate := hcand false
  have hB : t.fw.slotB.candidate = s.fw.slotB.candidate := hcand true
  have hseqA : t.fw.slotA.actSeq = s.fw.slotA.actSeq := hseq false
  have hseqB : t.fw.slotB.actSeq = s.fw.slotB.actSeq := hseq true
  unfold State.fwTarget
  rw [h.flag F.FWU_STATUS.RECOVERY (by decide), h.fwRunsB, hA, hB, hseqA, hseqB]

theorem FwSame.fwTarget_of_fw (h : FwSame s t) (hfw : t.fw = s.fw) : t.fwTarget = s.fwTarget :=
  h.fwTarget (fun c => by rw [fwSlot_of_fw hfw]) (fun c => by rw [fwSlot_of_fw hfw])

theorem nextActSeq_of (hseq : ∀ c, (t.fwSlot c).actSeq = (s.fwSlot c).actSeq) : t.nextActSeq = s.nextActSeq := by
  have hseqA : t.fw.slotA.actSeq = s.fw.slotA.actSeq := hseq false
  have hseqB : t.fw.slotB.actSeq = s.fw.slotB.actSeq := hseq true
  unfold State.nextActSeq
  rw [hseqA, hseqB]

theorem FwSame.fwPasses (h : FwSame s t) (himage : (t.fwSlot b).image = (s.fwSlot b).image) (chk : FwChecks) : FwPasses t b chk ↔ FwPasses s b chk := by
  unfold FwPasses
  rw [h.reads F.GLB_REV.REVISION (by decide), h.security, himage]

theorem FwSame.fwActCode (h : FwSame s t) (himage : (t.fwSlot b).image = (s.fwSlot b).image) (hformats : t.fw.partnerFormats = s.fw.partnerFormats) : t.fwActCode b = s.fwActCode b := by
  have hbank (i : Nat) : t.bank i = s.bank i := by
    unfold State.bank
    rw [h.pat]
  unfold State.fwActCode
  dsimp only
  rw [h.reads F.STORE_STATUS.CURRENT (by decide), h.reads F.PAT_STATUS.MAJOR (by decide), h.inPair, h.partnerInStep, himage, hformats, hbank]

/-! ## Operations on a slot -/

theorem FwSame.setFwSlot (h : FwSame s t) (b : Bool) (x : FwSlot) : FwSame s (t.setFwSlot b x) := h.same rfl rfl rfl rfl

theorem setFwSlot_formats (s : State) (b : Bool) (x : FwSlot) : (s.setFwSlot b x).fw.partnerFormats = s.fw.partnerFormats ∧ (s.setFwSlot b x).fw.delivery = s.fw.delivery := by
  unfold State.setFwSlot
  split <;> exact ⟨rfl, rfl⟩

/-- An image that has passed its check: it has its MAGIC. -/
def State.magicked (s : State) (b : Bool) : State := (s.fwClose.setFwSlot b { s.fwSlot b with verify := 0, magic := true }).raise 0x4E0

theorem magicked_shows (s : State) (b : Bool) : FwSame s (s.magicked b) ∧ (∀ c, (s.magicked b).fwSlot c = if b = c then { s.fwSlot b with verify := 0, magic := true } else s.fwSlot c) ∧
    (s.magicked b).fw.delivery = none ∧ (s.magicked b).fw.partnerFormats = s.fw.partnerFormats ∧ Raised (s.magicked b) 0x4E0 := by
  unfold State.magicked
  have hclose : FwSame s s.fwClose := (FwSame.refl s).same rfl rfl rfl rfl
  obtain ⟨hformats, hdelivery⟩ := setFwSlot_formats s.fwClose b { s.fwSlot b with verify := 0, magic := true }
  refine ⟨(hclose.setFwSlot b _).raise (by decide), fun c => ?_, ?_, ?_, raise_bit _ _⟩
  · rw [fwSlot_of_fw (raise_fw _ _), fwSlot_setFwSlot]
    rfl
  · rw [raise_fw, hdelivery]
    rfl
  · rw [raise_fw, hformats]
    rfl

theorem setFwSlot_twice (s : State) (b : Bool) (x y : FwSlot) : (s.setFwSlot b x).setFwSlot b y = s.setFwSlot b y := by
  cases b <;> rfl

theorem fwVerify_passes {chk : FwChecks} (h : FwPasses s s.fwTarget chk) : s.fwVerify chk = (s.magicked s.fwTarget, 0) := by
  have hpass : FwPasses s.fwClose s.fwTarget chk := h
  unfold State.fwVerify
  dsimp only
  rw [fwCheck_passes hpass]
  dsimp only
  rw [if_pos rfl]
  unfold State.verified State.magicked
  rw [setFwSlot_twice, fwSlot_setFwSlot_same]
  rfl

/-- An image that has failed its check with a code. -/
def State.unverified (s : State) (b : Bool) (code : Nat) : State := (s.fwClose.setFwSlot b { s.fwSlot b with verify := code }).raise 0x4E1

theorem fwVerify_fails {chk : FwChecks} (h : ¬ FwPasses s s.fwTarget chk) :
    s.fwVerify chk = (s.unverified s.fwTarget (fwImageCode (s.get F.GLB_REV.REVISION) s.dev.fuseSecurity (s.fwSlot s.fwTarget).image chk),
      fwImageCode (s.get F.GLB_REV.REVISION) s.dev.fuseSecurity (s.fwSlot s.fwTarget).image chk) := by
  have hcode : fwImageCode (s.get F.GLB_REV.REVISION) s.dev.fuseSecurity (s.fwSlot s.fwTarget).image chk ≠ 0 := h
  have hcheck : s.fwClose.fwCheck s.fwTarget chk = (s.unverified s.fwTarget (fwImageCode (s.get F.GLB_REV.REVISION) s.dev.fuseSecurity (s.fwSlot s.fwTarget).image chk),
      fwImageCode (s.get F.GLB_REV.REVISION) s.dev.fuseSecurity (s.fwSlot s.fwTarget).image chk) := Prod.ext (if_neg hcode) rfl
  unfold State.fwVerify
  dsimp only
  rw [hcheck]
  exact if_neg hcode

theorem unverified_shows (s : State) (b : Bool) (code : Nat) : (∀ c, ((s.unverified b code).fwSlot c).magic = (s.fwSlot c).magic) ∧ (s.unverified b code).fw.delivery = none ∧
    Raised (s.unverified b code) 0x4E1 := by
  unfold State.unverified
  obtain ⟨-, hdelivery⟩ := setFwSlot_formats s.fwClose b { s.fwSlot b with verify := code }
  refine ⟨fun c => ?_, ?_, raise_bit _ _⟩
  · rw [fwSlot_of_fw (raise_fw _ _), fwSlot_setFwSlot]
    split
    · subst c
      rfl
    · rfl
  · rw [raise_fw, hdelivery]
    rfl

/-! ## A delivery (R555) -/

/-- Erasing the target leaves it the target. -/
theorem fwOpen_target (s : State) (len : Nat) : (s.fwOpen len).fwTarget = s.fwTarget := by
  have hrec : (s.fwOpen len).flag F.FWU_STATUS.RECOVERY = s.flag F.FWU_STATUS.RECOVERY := rfl
  have hruns : (s.fwOpen len).fwRunsB = s.fwRunsB := rfl
  have hslots (c : Bool) : ((s.fwOpen len).fwSlot c).candidate = if s.fwTarget = c then false else (s.fwSlot c).candidate := by
    have h : (s.fwOpen len).fwSlot c = (s.setFwSlot s.fwTarget fwSlot0).fwSlot c := rfl
    rw [h, fwSlot_setFwSlot]
    split <;> rfl
  have hA : (s.fwOpen len).fw.slotA.candidate = if s.fwTarget = false then false else s.fw.slotA.candidate := hslots false
  have hB : (s.fwOpen len).fw.slotB.candidate = if s.fwTarget = true then false else s.fw.slotB.candidate := hslots true
  cases hr : s.flag F.FWU_STATUS.RECOVERY
  · unfold State.fwTarget
    rw [hrec, hr, hruns]
    rfl
  · cases ht : s.fwTarget
    · rw [ht, if_pos rfl] at hA
      unfold State.fwTarget
      rw [hrec, hr, if_pos rfl, hA]
      rfl
    · rw [ht, if_pos rfl] at hB
      rw [ht, if_neg (by decide)] at hA
      have hcand : s.fw.slotA.candidate = true := by
        cases hc : s.fw.slotA.candidate
        · unfold State.fwTarget at ht
          rw [hr, if_pos rfl, hc] at ht
          exact absurd ht (by simp)
        · rfl
      unfold State.fwTarget
      rw [hrec, hr, if_pos rfl, hA, hB, hcand]
      rfl

/-- A delivery that has begun with a block. -/
theorem fwOpen_program (s : State) (len : Nat) (data : List Byte) : ((s.fwOpen len).fwProgram data).fw.delivery = some (len, data.length) ∧
    (∀ c, ((s.fwOpen len).fwProgram data).fwSlot c = if s.fwTarget = c then { fwSlot0 with image := data } else s.fwSlot c) := by
  have ht := fwOpen_target s len
  unfold State.fwProgram
  rw [ht]
  have hdelivery : (s.fwOpen len).fw.delivery = some (len, 0) := rfl
  have hopen (c : Bool) : (s.fwOpen len).fwSlot c = if s.fwTarget = c then fwSlot0 else s.fwSlot c := fwSlot_setFwSlot s s.fwTarget c fwSlot0
  refine ⟨?_, fun c => ?_⟩
  · obtain ⟨-, hd⟩ := setFwSlot_formats (s.fwOpen len) s.fwTarget { (s.fwOpen len).fwSlot s.fwTarget with image := ((s.fwOpen len).fwSlot s.fwTarget).image ++ data }
    dsimp only
    rw [hd, hdelivery]
    simp
  · refine (fwSlot_setFwSlot (s.fwOpen len) s.fwTarget c _).trans ?_
    rw [hopen, hopen, if_pos rfl]
    split <;> rfl

/-- A block behind what has been delivered. -/
theorem fwProgram_shows {m n : Nat} (h : s.fw.delivery = some (m, n)) (data : List Byte) : (s.fwProgram data).fw.delivery = some (m, n + data.length) ∧
    ((s.fwProgram data).fwSlot s.fwTarget).image = (s.fwSlot s.fwTarget).image ++ data := by
  obtain ⟨-, hd⟩ := setFwSlot_formats s s.fwTarget { s.fwSlot s.fwTarget with image := (s.fwSlot s.fwTarget).image ++ data }
  unfold State.fwProgram
  refine ⟨?_, ?_⟩
  · dsimp only
    rw [hd, h]
    rfl
  · exact congrArg FwSlot.image (fwSlot_setFwSlot_same s s.fwTarget _)

/-! ## Activation (R557, R559) -/

theorem fwActCheck_passes (h : s.fwActCode b = 0) : s.fwActCheck b = (s, 0) := by
  unfold State.fwActCheck
  rw [h]
  rfl

theorem fwArm_shows (s : State) (b : Bool) (window mode : Nat) : FwSame s (s.fwArm b window mode) ∧
    (s.fwArm b window mode).fwSlot b = { s.fwSlot b with actSeq := some s.nextActSeq, window := window, mode := mode } ∧ Raised (s.fwArm b window mode) 0x4E2 := by
  unfold State.fwArm
  extract_lets n x u ids fw v
  have hu : FwSame s u := (FwSame.refl s).same rfl rfl rfl rfl
  have hv : FwSame s v := hu.same rfl rfl rfl rfl
  refine ⟨hv.raise (by decide), ?_, raise_bit _ _⟩
  rw [fwSlot_of_fw (raise_fw _ _)]
  have hslot : v.fwSlot b = u.fwSlot b := by cases b <;> rfl
  exact hslot.trans (fwSlot_setFwSlot_same s b _)

theorem beginSwitch_shows (s : State) (c : Bool) (phase : Nat) : (∀ b, (s.beginSwitch c phase).fwSlot b = s.fwSlot b) ∧ (s.beginSwitch c phase).fw.switching = [3, 2, 1, 0] ∧
    (s.beginSwitch c phase).fw.switchSlotB = c ∧ (s.beginSwitch c phase).fw.phase = phase ∧ (s.beginSwitch c phase).regs = s.regs :=
  ⟨fun b => by cases b <;> rfl, rfl, rfl, rfl, rfl⟩

theorem fwActivate_live (s : State) (window : Nat) (numbered : Bool) : s.fwActivate 1 window numbered = (s.fwArm s.fwTarget window 1).beginSwitch s.fwTarget 1 := rfl

theorem fwActivate_reset (h : s.flag F.FWU_STATUS.RECOVERY = false) (window : Nat) (numbered : Bool) : s.fwActivate 0 window numbered = (s.fwArm s.fwTarget window 0).askWarm 2 := by
  have hrec : (s.fwArm s.fwTarget window 0).flag F.FWU_STATUS.RECOVERY = false := ((fwArm_shows s s.fwTarget window 0).1.flag F.FWU_STATUS.RECOVERY (by decide)).trans h
  unfold State.fwActivate
  rw [if_neg (by decide)]
  dsimp only
  rw [if_neg (by decide), hrec, if_neg (by decide)]

end
end Sys2Proof.Machine
end

section
/-!
PROOFS. O60 (19_firmware_update.md, R555, R557, R561): the firmware tasks.
-/
namespace Sys2Proof.Machine

section
variable {s t u : State} {go : TaskGo}

/-! ## The end of a task, and what it leaves -/

/-- The fields that the end of a task writes. -/
def doneKeys : List Nat := F.TASK_TAG.TAG.key 0 0 :: F.TASK_STATUS.DONE.key 0 0 :: F.TASK_STATUS.CODE.key 0 0 :: F.TASK_STATUS.DEFERRED.key 0 0 :: F.TASK_STATUS.BUSY.key 0 0 ::
  (List.range 4).map (fun i => F.TASK_RESULT.VALUE.key i 0)

/-- A task that has ended, before its event. -/
def State.taskDone (s : State) (r : TaskRun) (code : Nat) (res : List Nat) : State :=
  let s := { s with tasks := s.tasks.erase r }
  let s := (List.range 4).foldl (fun (s : State) (i : Nat) => s.set F.TASK_RESULT.VALUE (res.getD i 0) i) s
  let s := (((s.set F.TASK_TAG.TAG r.go.tag).setFlag F.TASK_STATUS.DONE true).set F.TASK_STATUS.CODE code).setFlag F.TASK_STATUS.DEFERRED false
  s.setFlag F.TASK_STATUS.BUSY false

theorem finishTask_eq (s : State) (r : TaskRun) (code : Nat) (res : List Nat) :
    s.finishTask r code res = if bitOf r.go.flags 0 then (s.taskDone r code res).raise 0x4C0 else s.taskDone r code res := rfl

theorem taskDone_get (s : State) (r : TaskRun) (code : Nat) (res : List Nat) (g : Fld) (m : Nat) (hk : g.key m 0 ∉ doneKeys) : (s.taskDone r code res).get g m = s.get g m := by
  simp only [doneKeys, List.mem_cons, not_or, List.mem_map, not_exists, not_and, List.mem_range] at hk
  obtain ⟨htag, hdone, hcode, hdefer, hbusy, hvalue⟩ := hk
  unfold State.taskDone
  extract_lets u v w
  have hv : v.get g m = s.get g m := (get_foldl_set_other _ _ _ _ u g m 0 (fun i hi => hvalue i (List.mem_range.mp hi))).trans rfl
  have hw : w.get g m = v.get g m := by
    unfold w
    rw [get_setFlag_other _ _ _ _ _ _ _ _ (Ne.symm hdefer), get_set_other _ _ _ _ _ _ _ _ (Ne.symm hcode), get_setFlag_other _ _ _ _ _ _ _ _ (Ne.symm hdone),
      get_set_other _ _ _ _ _ _ _ _ (Ne.symm htag)]
  exact (get_setFlag_other _ _ _ _ _ _ _ _ (Ne.symm hbusy)).trans (hw.trans hv)

theorem finishTask_same (s : State) (r : TaskRun) (code : Nat) (res : List Nat) : FwSame s (s.finishTask r code res) := by
  have hdone : ∀ k ∈ fwWatch, k ∉ doneKeys := by decide
  obtain ⟨l, hdev⟩ := finishTask_dev s r code res
  refine ⟨fun g hg => ?_, (congrArg Dev.fuseSecurity hdev).trans rfl, finishTask_pat .., congrArg Pwr.warm (finishTask_pwr ..)⟩
  have hkept := taskDone_get s r code res g 0 (hdone _ hg)
  rw [finishTask_eq]
  split
  · exact (get_raise _ 0x4C0 _ _ _ (fun hk => events_not_fwWatch (n := 38) (by decide) (hk.symm ▸ hg))).trans hkept
  · exact hkept

theorem events_not_done {n : Nat} : F.EVT_STATUS.STATUS.key n 0 ∉ doneKeys := by
  simp only [doneKeys, List.mem_cons, not_or, List.mem_map, not_exists, not_and, List.mem_range, Fld.key, Fld.at, F.EVT_STATUS.STATUS, F.TASK_TAG.TAG, F.TASK_STATUS.DONE, F.TASK_STATUS.CODE,
    F.TASK_STATUS.DEFERRED, F.TASK_STATUS.BUSY, F.TASK_RESULT.VALUE]
  refine ⟨by omega, by omega, by omega, by omega, by omega, fun i hi => by omega⟩

theorem finishTask_raised {r : TaskRun} {code : Nat} {res : List Nat} {e : Nat} (he : e < 2048) (h : Raised s e) : Raised (s.finishTask r code res) e := by
  have hdone : Raised (s.taskDone r code res) e := by
    unfold Raised at h ⊢
    rwa [taskDone_get _ _ _ _ _ _ events_not_done]
  rw [finishTask_eq]
  split
  · exact ((watched_refl _).raise 0x4C0).raised he hdone
  · exact hdone

theorem finishTask_result {r : TaskRun} {code v : Nat} (hv : v < 2 ^ 32) : (s.finishTask r code [v]).get F.TASK_RESULT.VALUE 0 = v := by
  have hdone : (s.taskDone r code [v]).get F.TASK_RESULT.VALUE 0 = v := by
    unfold State.taskDone
    extract_lets u t1 t2
    have h1 : t1.get F.TASK_RESULT.VALUE 0 = v := by
      have hsplit : t1 = ((List.range' 1 3).foldl (fun (s : State) (i : Nat) => s.set F.TASK_RESULT.VALUE ([v].getD i 0) i) (u.set F.TASK_RESULT.VALUE v 0)) := rfl
      rw [hsplit]
      exact (get_foldl_set_other F.TASK_RESULT.VALUE (fun i => [v].getD i 0) id (List.range' 1 3) _ F.TASK_RESULT.VALUE 0 0 (by decide)).trans (get_set_of_lt (w := 32) rfl hv _ _ _)
    unfold t2
    rwa [get_setFlag_other _ _ _ _ _ _ _ _ (by decide), get_setFlag_other _ _ _ _ _ _ _ _ (by decide), get_set_other _ _ _ _ _ _ _ _ (by decide), get_setFlag_other _ _ _ _ _ _ _ _ (by decide),
      get_set_other _ _ _ _ _ _ _ _ (by decide)]
  rw [finishTask_eq]
  split
  · exact (get_raise _ 0x4C0 _ _ _ (by decide)).trans hdone
  · exact hdone

/-- What a task's end shows, later writes elsewhere leave. -/
theorem taskEnded_later {code : Nat} (h : TaskEnded t go code)
    (hkept : ∀ g ∈ [F.TASK_STATUS.BUSY, F.TASK_STATUS.DONE, F.TASK_STATUS.CODE, F.TASK_TAG.TAG], u.get g = t.get g) : TaskEnded u go code := by
  unfold TaskEnded State.flag at h ⊢
  rwa [hkept _ (by simp), hkept _ (by simp), hkept _ (by simp), hkept _ (by simp)]

/-- A state in which a GO has been accepted is the same to the firmware operations. -/
theorem Accepts.fwSame (h : Accepts s u) : FwSame s u ∧ u.fw = s.fw := by
  have hgo : ∀ k ∈ fwWatch, k ∉ goKeys := by decide
  obtain ⟨⟨rs, l, rfl⟩, hreads, -⟩ := h
  exact ⟨⟨fun g hg => hreads g 0 0 (hgo _ hg), rfl, rfl, rfl⟩, rfl⟩

/-- A local task that ends, in a state that another makes of it. -/
theorem goTask_local_done {code : Nat} (h : TaskStarts s code go) {data : TaskData} {aux : TaskAux} (hdata : DataHere code go data) {i : TaskInfo} (hinfo : taskInfo code = some i) (hstep : i.step = false)
    {ecode : Nat} {res : List Nat} (hquiet : repliesFirst code = false ∨ TaskStep.ends ecode res ≠ .ends tsOk []) (f : State → State)
    (hf : ∀ u, Accepts s u → u.carryOut (goRun code go data aux) = (f u, .ends ecode res)) :
    ∃ u, Accepts s u ∧ s.goTask code go data aux = (f u).finishTask (goRun code go data aux) ecode res := by
  obtain ⟨u, hu, heq⟩ := goTask_local h data aux hdata hinfo hstep
  exact ⟨u, hu, heq.trans (doRun_ends (hf u hu) rfl (.inl (notStep_of_info hinfo hstep)) hquiet)⟩

/-- A local task that is refused changes nothing of the firmware's. -/
theorem goTask_local_refused {code : Nat} (h : TaskStarts s code go) {data : TaskData} {aux : TaskAux} (hdata : DataHere code go data) {i : TaskInfo} (hinfo : taskInfo code = some i)
    (hstep : i.step = false) {ecode : Nat} (hecode : ecode < 256) (hbad : ecode ≠ tsOk) (hf : ∀ u, Accepts s u → u.carryOut (goRun code go data aux) = (u, .ends ecode [])) :
    TaskEnded (s.goTask code go data aux) go ecode ∧ (s.goTask code go data aux).fw = s.fw := by
  obtain ⟨u, hu, heq⟩ := goTask_local_done h hdata hinfo hstep (ecode := ecode) (res := []) (.inr (fun he => hbad (TaskStep.ends.inj he).1)) id hf
  rw [heq]
  exact ⟨finishTask_ended _ _ _ _ hecode, (finishTask_fw ..).trans hu.fwSame.2⟩

/-! ## FW_BLOCK (R555) -/

section
variable {r : TaskRun}

/-- The bounds of the length that a delivery declares. -/
def BlockLen (r : TaskRun) : Prop := 464 ≤ r.go.arg 1 ∧ r.go.arg 1 ≤ 0x3FF0000

theorem taskFwBlock_opens (htrial : s.flag F.FWU_STATUS.TRIAL = false) (hlen : BlockLen r) (hnone : s.fw.delivery = none) (hbusy : s.fwBusy = false) (hoff : r.go.arg 0 = 0)
    (hdata : r.data.length < r.go.arg 1) : taskFwBlock s r = ((s.fwOpen (r.go.arg 1)).fwProgram r.data, .ends tsOk []) := by
  obtain ⟨hmin, hmax⟩ := hlen
  unfold taskFwBlock fwMaxLen
  simp only [htrial, hnone, hbusy, Bool.false_eq_true, if_false]
  rw [if_neg (by omega), if_neg (by omega), if_neg (by omega), if_neg (by omega), if_pos trivial]

theorem taskFwBlock_resource (htrial : s.flag F.FWU_STATUS.TRIAL = false) (hlen : BlockLen r) {m n : Nat} (hopen : s.fw.delivery = some (m, n)) (hoff : r.go.arg 0 = 0) :
    taskFwBlock s r = (s, .ends tsResource []) := by
  obtain ⟨hmin, hmax⟩ := hlen
  unfold taskFwBlock fwMaxLen
  simp only [htrial, hopen, Bool.false_eq_true, if_false]
  rw [if_neg (by omega), if_pos hoff]

theorem taskFwBlock_gap (htrial : s.flag F.FWU_STATUS.TRIAL = false) (hlen : BlockLen r) {m n : Nat} (hopen : s.fw.delivery = some (m, n)) (hoff : r.go.arg 0 ≠ 0) (hgap : r.go.arg 0 ≠ n) :
    taskFwBlock s r = (s, .ends tsBadArg []) := by
  obtain ⟨hmin, hmax⟩ := hlen
  unfold taskFwBlock fwMaxLen
  simp only [htrial, hopen, Bool.false_eq_true, if_false]
  rw [if_neg (by omega), if_neg hoff, if_pos (Or.inl hgap)]

theorem taskFwBlock_completes (htrial : s.flag F.FWU_STATUS.TRIAL = false) (hlen : BlockLen r) {m n : Nat} (hopen : s.fw.delivery = some (m, n)) (hoff : r.go.arg 0 = n) (hn : n ≠ 0)
    (hm : r.go.arg 1 = m) (hdata : n + r.data.length = m) : taskFwBlock s r = (s.fwProgram r.data, .works) := by
  obtain ⟨hmin, hmax⟩ := hlen
  unfold taskFwBlock fwMaxLen
  simp only [htrial, hopen, Bool.false_eq_true, if_false]
  rw [if_neg (by omega), if_neg (by omega), if_neg (by omega), if_neg (by omega), if_neg hn, if_pos (by omega)]

end

theorem fwBlock_opens {b : List Byte} (h : TaskStarts s 0x0040 go) (hlen : go.dataLen ≠ 0) (htrial : s.flag F.FWU_STATUS.TRIAL = false) (hmin : 464 ≤ go.arg 1) (hmax : go.arg 1 ≤ 0x3FF0000)
    (hoff : go.arg 0 = 0) (hnone : s.fw.delivery = none) (hbusy : s.fwBusy = false) (hdata : b.length < go.arg 1) :
    ∃ t, exec (.fwBlock go (.bytes b)) s = .next t ∧ TaskEnded t go tsOk ∧ t.fw.delivery = some (go.arg 1, b.length) ∧ t.fwSlot s.fwTarget = { fwSlot0 with image := b } ∧
      t.fwSlot (!s.fwTarget) = s.fwSlot (!s.fwTarget) := by
  obtain ⟨u, hu, heq⟩ := goTask_local_done h (data := .bytes b) (aux := taskAux0) (dataHere_bytes b hlen) rfl rfl (ecode := tsOk) (res := []) (.inl rfl)
    (fun u => (u.fwOpen (go.arg 1)).fwProgram b) (fun u hu => by
      obtain ⟨hsame, hfw⟩ := hu.fwSame
      exact taskFwBlock_opens ((hsame.flag _ (by decide)).trans htrial) ⟨hmin, hmax⟩ (by rw [hfw]; exact hnone) (by unfold State.fwBusy at hbusy ⊢; rw [hfw]; exact hbusy) hoff hdata)
  obtain ⟨hsame, hfw⟩ := hu.fwSame
  have ht := hsame.fwTarget_of_fw hfw
  obtain ⟨hdelivery, hslots⟩ := fwOpen_program u (go.arg 1) b
  have hend := finishTask_fw ((u.fwOpen (go.arg 1)).fwProgram b) (goRun 0x0040 go (.bytes b) taskAux0) tsOk []
  refine ⟨_, congrArg Host.Outcome.next heq, finishTask_ended _ _ tsOk _ (by decide), by rw [hend, hdelivery], ?_, ?_⟩
  · rw [fwSlot_of_fw hend, hslots, if_pos ht]
  · rw [fwSlot_of_fw hend, hslots, if_neg (by rw [ht]; simp), fwSlot_of_fw hfw]

theorem fwBlock_completes {b : List Byte} {m n : Nat} (h : TaskStarts s 0x0040 go) (hlen : go.dataLen ≠ 0) (htrial : s.flag F.FWU_STATUS.TRIAL = false) (hmin : 464 ≤ go.arg 1)
    (hmax : go.arg 1 ≤ 0x3FF0000) (hopen : s.fw.delivery = some (m, n)) (hoff : go.arg 0 = n) (hn : n ≠ 0) (hm : go.arg 1 = m) (hdata : n + b.length = m) :
    ∃ t, exec (.fwBlock go (.bytes b)) s = .next t ∧ t.flag F.TASK_STATUS.BUSY = true ∧ t.fw.delivery = some (m, m) ∧ (t.fwSlot s.fwTarget).image = (s.fwSlot s.fwTarget).image ++ b := by
  obtain ⟨u, hu, heq⟩ := goTask_local h (.bytes b) taskAux0 (dataHere_bytes b hlen) rfl rfl
  obtain ⟨hsame, hfw⟩ := hu.fwSame
  have hopen' : u.fw.delivery = some (m, n) := by rw [hfw, hopen]
  have hcarry : u.carryOut (goRun 0x0040 go (.bytes b) taskAux0) = (u.fwProgram b, .works) :=
    taskFwBlock_completes (r := goRun 0x0040 go (.bytes b) taskAux0) ((hsame.flag _ (by decide)).trans htrial) ⟨hmin, hmax⟩ hopen' hoff hn hm hdata
  have hdo : u.doRun (goRun 0x0040 go (.bytes b) taskAux0) = (u.fwProgram b).moveRun (goRun 0x0040 go (.bytes b) taskAux0) { goRun 0x0040 go (.bytes b) taskAux0 with phase := .working } := by
    unfold State.doRun
    rw [hcarry]
    rfl
  obtain ⟨hdelivery, himage⟩ := fwProgram_shows hopen' b
  rw [hsame.fwTarget_of_fw hfw, fwSlot_of_fw hfw] at himage
  exact ⟨_, congrArg Host.Outcome.next (heq.trans hdo), hu.busy, hdelivery.trans (by rw [hdata]), himage⟩

/-! ## FW_IMAGE_VERIFY -/

theorem exec_fwImageVerify {r : TaskRun} (hone : s.tasks = [r]) (hown : r.own = true) (hcode : r.code = 0x0040) (hphase : r.phase = .working) (chk : FwChecks) :
    exec (.fwImageVerify chk) s = .next (if (s.fwVerify chk).2 = 0 then (s.fwVerify chk).1.finishTask r tsOk [] else (s.fwVerify chk).1.finishTask r tsBadData [(s.fwVerify chk).2]) := by
  have hfind : s.tasks.find? (fun t => t.code == 0x0040 && t.phase == .working) = some r := by
    rw [hone]
    simp [hcode, hphase]
  have hlocal : (taskInfo r.code).any (·.step) = false := by
    rw [hcode]
    rfl
  change execFwImageVerify chk s = _
  unfold execFwImageVerify
  rw [hfind]
  dsimp only
  rw [endRun_finishes _ hown (.inl hlocal), endRun_finishes _ hown (.inl hlocal)]

theorem fwImageCode_lt (rev fused : Nat) (img : List Byte) (chk : FwChecks) : fwImageCode rev fused img chk < 8 := by
  unfold fwImageCode
  dsimp only
  repeat' split
  all_goals decide

theorem fwImageVerify_passes {r : TaskRun} {chk : FwChecks} (hone : s.tasks = [r]) (hown : r.own = true) (hcode : r.code = 0x0040) (hphase : r.phase = .working) (hpass : FwPasses s s.fwTarget chk) :
    ∃ t, exec (.fwImageVerify chk) s = .next t ∧ TaskEnded t r.go tsOk ∧ (t.fwSlot s.fwTarget).magic = true ∧ t.fw.delivery = none ∧ Raised t 0x4E0 := by
  obtain ⟨-, hslots, hdelivery, -, hraised⟩ := magicked_shows s s.fwTarget
  have hexec := exec_fwImageVerify hone hown hcode hphase chk
  rw [fwVerify_passes hpass, if_pos rfl] at hexec
  have hend := finishTask_fw (s.magicked s.fwTarget) r tsOk []
  refine ⟨_, hexec, finishTask_ended _ _ tsOk _ (by decide), ?_, by rw [hend, hdelivery], finishTask_raised (by decide) hraised⟩
  rw [fwSlot_of_fw hend, hslots, if_pos rfl]

theorem fwImageVerify_fails {r : TaskRun} {chk : FwChecks} (hone : s.tasks = [r]) (hown : r.own = true) (hcode : r.code = 0x0040) (hphase : r.phase = .working) (hfail : ¬ FwPasses s s.fwTarget chk) :
    ∃ t, exec (.fwImageVerify chk) s = .next t ∧ TaskEnded t r.go tsBadData ∧ (t.fwSlot s.fwTarget).magic = (s.fwSlot s.fwTarget).magic ∧ t.fw.delivery = none ∧ Raised t 0x4E1 ∧
      t.get F.TASK_RESULT.VALUE 0 = fwImageCode (s.get F.GLB_REV.REVISION) s.dev.fuseSecurity (s.fwSlot s.fwTarget).image chk := by
  have hexec := exec_fwImageVerify hone hown hcode hphase chk
  have hbad : fwImageCode (s.get F.GLB_REV.REVISION) s.dev.fuseSecurity (s.fwSlot s.fwTarget).image chk ≠ 0 := hfail
  have hlt := fwImageCode_lt (s.get F.GLB_REV.REVISION) s.dev.fuseSecurity (s.fwSlot s.fwTarget).image chk
  rw [fwVerify_fails hfail, if_neg hbad] at hexec
  generalize fwImageCode (s.get F.GLB_REV.REVISION) s.dev.fuseSecurity (s.fwSlot s.fwTarget).image chk = code at hexec hlt ⊢
  obtain ⟨hmagic, hdelivery, hraised⟩ := unverified_shows s s.fwTarget code
  have hend := finishTask_fw (s.unverified s.fwTarget code) r tsBadData [code]
  refine ⟨_, hexec, finishTask_ended _ _ tsBadData _ (by decide), ?_, by rw [hend, hdelivery], finishTask_raised (by decide) hraised, finishTask_result (by omega)⟩
  rw [fwSlot_of_fw hend, hmagic]

/-! ## FW_ACTIVATE (R557) -/

theorem setRole_raised {r e : Nat} (h : Raised s e) : Raised (s.setRole r) e := by
  unfold Raised at h ⊢
  rwa [get_setRole_other]
  · intro hk
    simp only [Fld.key, Fld.at, F.EVT_STATUS.STATUS, F.WSW_STATUS.ROLE] at hk
    omega
  · intro hk
    simp only [Fld.key, Fld.at, F.EVT_STATUS.STATUS, F.WSW_STATUS.SERVES] at hk
    omega

/-- Asking for a warm reset takes no event back. -/
theorem askWarm_raised {bit e : Nat} (he : e < 2048) (h : Raised s e) : Raised (s.askWarm bit) e := by
  unfold State.askWarm
  split
  · exact h
  extract_lets pwr pat v
  have hv : Raised v e := h
  unfold State.warmStage
  split
  · exact hv
  split
  · exact setRole_raised (r := roleOff) hv
  split
  · exact ((watched_refl v).beginDump).raised he hv
  · exact hv

/-- The window that FW_ACTIVATE asks for. -/
def windowOf (go : TaskGo) : Nat := if go.arg 1 = 0 then 15 else go.arg 1

section
variable {r : TaskRun}

theorem taskFwActivate_bad (h : 240 < r.go.arg 1 ∨ 2 < r.go.arg 0) : taskFwActivate s r = (s, .ends tsBadArg []) := if_pos h

theorem taskFwActivate_refused (hwindow : r.go.arg 1 ≤ 240) (hmode : r.go.arg 0 ≤ 2) (hmagic : (s.fwSlot s.fwTarget).magic = false) : taskFwActivate s r = (s, .ends tsRefused []) := by
  unfold taskFwActivate
  dsimp only
  rw [if_neg (by omega), if_pos (Or.inr (Or.inr (by simp [FwSlot.fresh, hmagic])))]

theorem taskFwActivate_ends (hwindow : r.go.arg 1 ≤ 240) (hmode : r.go.arg 0 < 2) (htrial : s.flag F.FWU_STATUS.TRIAL = false) (hbusy : s.fwBusy = false) (hfresh : (s.fwSlot s.fwTarget).fresh = true)
    (hcode : s.fwActCode s.fwTarget = 0) : taskFwActivate s r = (s, .ends tsOk []) := by
  unfold taskFwActivate
  dsimp only
  rw [if_neg (by omega), if_neg (by simp [htrial, hbusy, hfresh]), if_neg (by omega), fwActCheck_passes hcode]
  dsimp only
  rw [if_neg (by decide), if_neg (by omega)]

end

/-- An activation that replies first, and what follows its reply. -/
theorem fwActivate_follows {ph : Bool} (h : TaskStarts s 0x0042 go) (hwindow : go.arg 1 ≤ 240) (hmode : go.arg 0 < 2) (htrial : s.flag F.FWU_STATUS.TRIAL = false) (hbusy : s.fwBusy = false)
    (hfresh : (s.fwSlot s.fwTarget).fresh = true) (hcode : s.fwActCode s.fwTarget = 0) :
    ∃ v, exec (.fwActivate go ph) s = .next (v.fwActivate (go.arg 0) (windowOf go) true) ∧ FwSame s v ∧ v.fw = s.fw ∧ TaskEnded v go tsOk ∧ v.pwr = s.pwr := by
  obtain ⟨u, hu, heq⟩ := goTask_local h (.bytes []) { taskAux0 with partnerHolds := ph } (fun hc => absurd hc (by decide)) rfl rfl
  obtain ⟨hsame, hfw⟩ := hu.fwSame
  have ht := hsame.fwTarget_of_fw hfw
  let r := goRun 0x0042 go (.bytes []) { taskAux0 with partnerHolds := ph }
  have hcarry : u.carryOut r = (u, .ends tsOk []) := by
    refine taskFwActivate_ends (r := r) hwindow hmode ((hsame.flag _ (by decide)).trans htrial) ?_ ?_ ?_
    · unfold State.fwBusy at hbusy ⊢
      rwa [hfw]
    · rwa [ht, fwSlot_of_fw hfw]
    · rw [ht, hsame.fwActCode (by rw [fwSlot_of_fw hfw]) (by rw [hfw])]
      exact hcode
  have hdo : u.doRun r = (u.finishTask r tsOk []).fwActivate (go.arg 0) (windowOf go) true := by
    unfold State.doRun
    rw [hcarry]
    change (u.endRun r tsOk []).afterReply r (.ends tsOk []) = _
    rw [endRun_finishes u rfl (.inl rfl)]
    rfl
  have hpwr : u.pwr = s.pwr := by
    obtain ⟨⟨rs, l, rfl⟩, -, -⟩ := hu
    rfl
  exact ⟨_, congrArg Host.Outcome.next (heq.trans hdo), hsame.trans (finishTask_same ..), (finishTask_fw ..).trans hfw, finishTask_ended u r tsOk [] (by decide), (finishTask_pwr ..).trans hpwr⟩

theorem fwActivate_warm {ph : Bool} (h : TaskStarts s 0x0042 go) (hwindow : go.arg 1 ≤ 240) (htrial : s.flag F.FWU_STATUS.TRIAL = false) (hrec : s.flag F.FWU_STATUS.RECOVERY = false)
    (hbusy : s.fwBusy = false) (hfresh : (s.fwSlot s.fwTarget).fresh = true) (hcode : s.fwActCode s.fwTarget = 0) (hmode : go.arg 0 = 0) (hruns : s.resetRuns = false) (hwarm : s.pwr.warm = none) :
    ∃ t, exec (.fwActivate go ph) s = .next t ∧ t.pwr.warm = some 2 ∧ (t.fwSlot s.fwTarget).actSeq = some s.nextActSeq ∧ (t.fwSlot s.fwTarget).window = (if go.arg 1 = 0 then 15 else go.arg 1) ∧
      (t.fwSlot s.fwTarget).mode = 0 ∧ Raised t 0x4E2 := by
  obtain ⟨v, hexec, hsame, hfw, -, hpwr⟩ := fwActivate_follows (ph := ph) h hwindow (by omega) htrial hbusy hfresh hcode
  have ht := hsame.fwTarget_of_fw hfw
  have hseq := nextActSeq_of (s := s) (t := v) (fun c => by rw [fwSlot_of_fw hfw])
  rw [hmode, fwActivate_reset ((hsame.flag _ (by decide)).trans hrec), ht] at hexec
  obtain ⟨-, hslot, hraised⟩ := fwArm_shows v s.fwTarget (windowOf go) 0
  have harmed : (v.fwArm s.fwTarget (windowOf go) 0).pwr = s.pwr := (raise_pwr _ _).trans hpwr
  have hruns' : (v.fwArm s.fwTarget (windowOf go) 0).resetRuns = false := by
    unfold State.resetRuns at hruns ⊢
    rwa [harmed]
  have hkept := fwSlot_of_fw ((keeps_State_askWarm 2 rfl (Keeps.refl false 8423975 (v.fwArm s.fwTarget (windowOf go) 0))).part .fw (by decide)) s.fwTarget
  refine ⟨_, hexec, askWarm_warm hruns' (by rw [harmed, hwarm]) 2, ?_, ?_, ?_, askWarm_raised (by decide) hraised⟩ <;> rw [hkept, hslot]
  · exact congrArg some hseq
  · rfl

theorem fwActivate_switches {ph : Bool} (h : TaskStarts s 0x0042 go) (hwindow : go.arg 1 ≤ 240) (htrial : s.flag F.FWU_STATUS.TRIAL = false) (hbusy : s.fwBusy = false)
    (hfresh : (s.fwSlot s.fwTarget).fresh = true) (hcode : s.fwActCode s.fwTarget = 0) (hmode : go.arg 0 = 1) :
    ∃ t, exec (.fwActivate go ph) s = .next t ∧ TaskEnded t go tsOk ∧ (t.fwSlot s.fwTarget).actSeq = some s.nextActSeq ∧ (t.fwSlot s.fwTarget).mode = 1 ∧ t.fw.switching = [3, 2, 1, 0] ∧
      t.fw.switchSlotB = s.fwTarget ∧ t.fw.phase = 1 ∧ Raised t 0x4E2 := by
  obtain ⟨v, hexec, hsame, hfw, hended, -⟩ := fwActivate_follows (ph := ph) h hwindow (by omega) htrial hbusy hfresh hcode
  have ht := hsame.fwTarget_of_fw hfw
  have hseq := nextActSeq_of (s := s) (t := v) (fun c => by rw [fwSlot_of_fw hfw])
  rw [hmode, fwActivate_live, ht] at hexec
  obtain ⟨-, hslot, hraised⟩ := fwArm_shows v s.fwTarget (windowOf go) 1
  obtain ⟨hslots, hswitching, htarget, hphase, hregs⟩ := beginSwitch_shows (v.fwArm s.fwTarget (windowOf go) 1) s.fwTarget 1
  have harmed (g : Fld) (hk : F.EVT_STATUS.STATUS.key 39 0 ≠ g.key 0 0) : (v.fwArm s.fwTarget (windowOf go) 1).get g = v.get g := (get_raise _ 0x4E2 _ _ _ hk).trans rfl
  refine ⟨_, hexec, taskEnded_later hended (fun g hg => ?_), ?_, ?_, hswitching, htarget, hphase, ?_⟩
  · refine (congrArg (sparseGet _ _) hregs).trans (harmed g ?_)
    revert g
    decide
  · rw [hslots, hslot]
    exact congrArg some hseq
  · rw [hslots, hslot]
  · unfold Raised State.get at hraised ⊢
    rwa [hregs]

/-! ## FW_CONFIRM and FW_REJECT (R561) -/

/-- The conditions of health read the status registers, and no task. -/
theorem Accepts.fwHealthy (h : Accepts s u) : u.fwHealthy = s.fwHealthy := by
  have hcurrent := h.reads F.STORE_STATUS.CURRENT 0 0 (by decide)
  have hfail := h.reads F.MEM_SELFTEST.FAIL 0 0 (by decide)
  have hready : u.ready = s.ready := h.flag F.PWR_STATE.READY 0 0 (by decide)
  have hloaded := h.flag F.PAT_STATUS.LOADED 0 0 (by decide)
  have herror := h.flag F.PAT_STATUS.ERROR 0 0 (by decide)
  have hruns := h.flag F.FWU_STATUS.RUNNING 0 0 (by decide)
  have hpair := h.inPair
  have hmajor : u.storeMajor = s.storeMajor := by
    obtain ⟨⟨rs, l, rfl⟩, -, -⟩ := h
    unfold State.storeMajor State.runningImage
    rw [hruns]
  unfold State.fwHealthy
  dsimp only
  rw [hcurrent, hfail, hready, hloaded, herror, hpair, hmajor]
  obtain ⟨⟨rs, l, rfl⟩, -, -⟩ := h
  rfl

theorem taskFwConfirm_confirms {r : TaskRun} (htrial : s.flag F.FWU_STATUS.TRIAL = true) (hhealthy : s.fwHealthy = true) : taskFwConfirm s r = (s.fwConfirm, .ends tsOk []) := if_pos ⟨htrial, hhealthy⟩

theorem taskFwConfirm_refused {r : TaskRun} (h : s.flag F.FWU_STATUS.TRIAL = false ∨ s.fwHealthy = false) : taskFwConfirm s r = (s, .ends tsRefused []) :=
  if_neg (fun ⟨htrial, hhealthy⟩ => h.elim (fun h => absurd (h.symm.trans htrial) (by decide)) (fun h => absurd (h.symm.trans hhealthy) (by decide)))

theorem fwConfirm_confirms_task (h : TaskStarts s 0x0043 go) (htrial : s.flag F.FWU_STATUS.TRIAL = true) (hhealthy : s.fwHealthy = true) :
    ∃ t, exec (.fwConfirm go) s = .next t ∧ TaskEnded t go tsOk ∧ (t.fwSlot s.fwRunsB).confirmed = true ∧ t.flag F.FWU_STATUS.TRIAL = false ∧ Raised t 0x4E5 := by
  obtain ⟨u, hu, heq⟩ := goTask_local_done h (data := .bytes []) (aux := taskAux0) (fun hc => absurd hc (by decide)) rfl rfl (ecode := tsOk) (res := []) (.inl rfl) State.fwConfirm
    (fun u hu => taskFwConfirm_confirms (r := goRun 0x0043 go (.bytes []) taskAux0) ((hu.fwSame.1.flag _ (by decide)).trans htrial) (hu.fwHealthy.trans hhealthy))
  obtain ⟨⟨hslot, hover, -, hraised⟩, -⟩ := fwConfirm_confirms u
  rw [hu.fwSame.1.fwRunsB] at hslot
  refine ⟨_, congrArg Host.Outcome.next heq, finishTask_ended _ _ tsOk _ (by decide), ?_, ((finishTask_same ..).flag _ (by decide)).trans hover, finishTask_raised (by decide) hraised⟩
  rw [fwSlot_of_fw (finishTask_fw ..)]
  exact hslot

theorem taskFwReject_ends {r : TaskRun} (htrial : s.flag F.FWU_STATUS.TRIAL = true) (hcand : (s.fwSlot (!s.fwRunsB)).candidate = true) : taskFwReject s r = (s, .ends tsOk []) := if_pos ⟨htrial, hcand⟩

theorem taskFwReject_refused {r : TaskRun} (htrial : s.flag F.FWU_STATUS.TRIAL = false) : taskFwReject s r = (s, .ends tsRefused []) :=
  if_neg (fun h => absurd (htrial.symm.trans h.1) (by decide))

/-- A rejection with a live switch writes the trial flag, the count, the Ledger and an event. -/
theorem fwReject_get (halone : s.role = roleAlone) (hcand : (s.fwSlot (!s.fwRunsB)).candidate = true) (hmode : (s.fwSlot s.fwRunsB).mode = 1) (cause : Nat) (g : Fld)
    (hledger : g.key 0 0 ∉ ledgerKeys) (hcount : F.FWU_FALLBACKS.COUNT.key 0 0 ≠ g.key 0 0) (hevent : F.EVT_STATUS.STATUS.key 39 0 ≠ g.key 0 0) (htrial : F.FWU_STATUS.TRIAL.key 0 0 ≠ g.key 0 0) :
    (s.fwReject cause).get g = s.get g := by
  have hrej := runRejected_rejects s cause
  have hmode' : ((s.runRejected cause).fwSlot (s.runRejected cause).fwRunsB).mode = 1 := by rw [hrej.runs, hrej.slot]; exact hmode
  rw [fwReject_returns hcand, fwReturn_alone (hrej.role.trans halone), if_pos hmode']
  have hkept : (s.runRejected cause).get g = s.get g := (rejectSlot_get _ _ _ g hledger hcount hevent).trans (get_setFlag_other _ _ _ _ _ _ _ _ htrial)
  exact hkept

theorem fwReject_switches_task (h : TaskStarts s 0x0044 go) (htrial : s.flag F.FWU_STATUS.TRIAL = true) (hcand : (s.fwSlot (!s.fwRunsB)).candidate = true) (halone : SoloAlone s)
    (hmode : (s.fwSlot s.fwRunsB).mode = 1) :
    ∃ t, exec (.fwReject go) s = .next t ∧ TaskEnded t go tsOk ∧ (t.fwSlot s.fwRunsB).rejected = true ∧ (t.fwSlot s.fwRunsB).cause = 2 ∧ t.fw.switching = [3, 2, 1, 0] ∧
      t.fw.switchSlotB = !s.fwRunsB ∧ Raised t 0x4E6 := by
  obtain ⟨u, hu, heq⟩ := goTask_local h (.bytes []) taskAux0 (fun hc => absurd hc (by decide)) rfl rfl
  obtain ⟨hsame, hfw⟩ := hu.fwSame
  let r := goRun 0x0044 go (.bytes []) taskAux0
  have hcarry : u.carryOut r = (u, .ends tsOk []) := taskFwReject_ends (r := r) ((hsame.flag _ (by decide)).trans htrial) (by rw [hsame.fwRunsB, fwSlot_of_fw hfw]; exact hcand)
  have hdo : u.doRun r = (u.finishTask r tsOk []).fwReject 2 := by
    unfold State.doRun
    rw [hcarry]
    change (u.endRun r tsOk []).afterReply r (.ends tsOk []) = _
    rw [endRun_finishes u rfl (.inl rfl)]
    rfl
  have hended : TaskEnded (u.finishTask r tsOk []) go tsOk := finishTask_ended u r tsOk [] (by decide)
  have hdone := hsame.trans (finishTask_same u r tsOk [])
  have hfw' := (finishTask_fw u r tsOk []).trans hfw
  generalize u.finishTask r tsOk [] = v at hdo hended hdone hfw'
  have hruns := hdone.fwRunsB
  have hslot (c : Bool) := fwSlot_of_fw hfw' c
  have hrole : v.role = roleAlone := hdone.role.trans halone.1
  have hcand' : (v.fwSlot (!v.fwRunsB)).candidate = true := by rw [hruns, hslot]; exact hcand
  have hmode' : (v.fwSlot v.fwRunsB).mode = 1 := by rw [hruns, hslot]; exact hmode
  obtain ⟨hrejected, -, -, hswitching, htarget, hraised, -⟩ := fwReject_switches hrole hcand' hmode' 2
  rw [hruns] at hrejected htarget
  refine ⟨_, congrArg Host.Outcome.next (heq.trans hdo), taskEnded_later hended (fun g hg => ?_), congrArg FwSlot.rejected hrejected, congrArg FwSlot.cause hrejected, hswitching, htarget, hraised⟩
  refine fwReject_get hrole hcand' hmode' 2 g ?_ ?_ ?_ ?_ <;> revert g <;> decide

end
end Sys2Proof.Machine
end

section
/-!
PROOFS. O60 (19_firmware_update.md, R167, R556): Firmware Image Download and Firmware Commit.
-/
namespace Sys2Proof.Machine

section
variable {s t u v w : State} {key : Nat} {cap : Capsule} {q : NvmQueue} {x : NvmCtrl} {c : Cmd} {k : RowKind} {b : Bool}

/-! ## A capsule that is taken leaves what the firmware operations read -/

theorem FwSame.keeps {p : Bool} {A : Nat} (h : FwSame s t) (hk : Keeps p A t u) (hA : ∀ c ∈ [Part.regs, .dev, .pat, .pwr], A &&& c.bit ≠ c.bit) : FwSame s u := by
  have hregs : u.regs = t.regs := hk.part .regs (hA _ (by decide))
  have hdev : u.dev = t.dev := hk.part .dev (hA _ (by decide))
  have hpat : u.pat = t.pat := hk.part .pat (hA _ (by decide))
  have hpwr : u.pwr = t.pwr := hk.part .pwr (hA _ (by decide))
  exact h.same hregs (by rw [hdev]) hpat (by rw [hpwr])

theorem FwSame.setPort (h : FwSame s t) (n : Nat) (p : DrvPort) : FwSame s (t.setPort n p) := h.same rfl rfl rfl rfl

theorem FwSame.portTo (h : FwSame s t) {n : Nat} (hn : n < 48) (st : Nat) : FwSame s (t.portTo n st) :=
  h.ite ((h.set F.DP_STATUS.STATE st n 0 (portState_not_fwWatch hn)).raise (by omega))

theorem FwSame.driveAwake (h : FwSame s t) {n : Nat} (hn : n < 48) : FwSame s (t.driveAwake n) := by
  unfold State.driveAwake
  extract_lets p
  cases p.shutDown
  · cases p.lowPower
    · exact h
    · exact h.setPort n _
  · exact (h.setPort n _).portTo hn 4

theorem FwSame.abortEntry (h : FwSame s t) : FwSame s t.abortEntry := by
  unfold State.abortEntry
  extract_lets pwr w
  have hw : FwSame s w := List.foldlRecOn (motive := FwSame s) (List.range 48) State.driveAwake (h.same rfl rfl rfl rfl) (fun _ hv n hn => hv.driveAwake (List.mem_range.mp hn))
  exact ((hw.low F.PWR_ENTRY_COUNT.COUNT _ 0 0).set F.PWR_STATE.STATE stActive 0 0 (by decide)).raise (by decide)

theorem FwSame.beginWake (h : FwSame s t) : FwSame s t.beginWake := by
  unfold State.beginWake
  refine FwSame.raise (FwSame.set ?_ F.PWR_STATE.STATE stWaking 0 0 (by decide)) (by decide)
  exact h.same rfl rfl rfl rfl

theorem FwSame.wakeSource (h : FwSame s t) : FwSame s t.wakeSource := by
  unfold State.wakeSource
  exact h.abortEntry.ite (h.beginWake.ite (FwSame.ite (FwSame.ite (h.same rfl rfl rfl rfl) h.abortEntry) h))

/-- The idle time restarts. -/
def State.hostSeen (s : State) : State := { s with pwr := { s.pwr with lastHostUs := s.dev.stepUs } }

theorem FwSame.hostCommand (h : FwSame s t) : FwSame s t.hostCommand := FwSame.wakeSource (t := t.hostSeen) (h.same rfl rfl rfl rfl)

theorem FwSame.takeSlot (h : FwSame s t) (q : NvmQueue) : FwSame s (t.takeSlot q).1 := by
  have hset : FwSame s (t.hostCommand.setNq q.headOn) := h.hostCommand.same rfl rfl rfl rfl
  exact hset.keeps (keeps_State_repost q.headOn rfl (Keeps.refl false 128 (t.hostCommand.setNq q.headOn))) (by decide)

theorem FwSame.push (h : FwSame s t) (cluster k : Nat) (e : Word) : FwSame s (t.push cluster k e).1 := by
  unfold State.push
  extract_lets es
  split
  · exact h.same rfl rfl rfl rfl
  · exact h

theorem FwSame.handOver (h : FwSame s t) (c : Cmd) : FwSame s (t.handOver c) := by
  unfold State.handOver
  refine h.ite ?_
  extract_lets s1 k empty
  have h1 : FwSame s s1 := (h.keeps (keeps_State_dropReads c.key rfl (Keeps.refl false 74752 t)) (by decide)).count 4 0 1 1
  have h2 : FwSame s (s1.drawn.push k 0 s1.free).1 := FwSame.push (t := s1.drawn) (h1.same rfl rfl rfl rfl) k 0 s1.free
  generalize s1.drawn.push k 0 s1.free = y at h2 ⊢
  obtain ⟨s2, full⟩ := y
  dsimp only at h2 ⊢
  generalize hs3 : (if full = true then s2.bump F.CHT_HANDOVER.COUNT else _) = s3
  have hbump : FwSame s (s2.bump F.CHT_HANDOVER.COUNT) := h2.low F.CHT_HANDOVER.COUNT _ 0 0
  have hring : FwSame s (if empty = true then (s2.bump F.CHT_HANDOVER.COUNT).raise 0x1A0 else s2.bump F.CHT_HANDOVER.COUNT) := (hbump.raise (by decide)).ite hbump
  have h3 : FwSame s s3 := by
    rw [← hs3]
    exact hbump.ite ((hring.raise (by decide)).ite hring)
  exact h3.same rfl rfl rfl rfl

theorem fwSame_of_taken (h : Taken s key cap k u q x c) : FwSame s (u.handOver c) := by
  obtain ⟨q0, -, -, -, -, -, -, -, -, huc⟩ := h
  obtain ⟨rfl, rfl⟩ := Prod.mk.inj huc
  have hstep : FwSame s (atStep s) := (FwSame.refl s).same rfl rfl rfl rfl
  have htake : FwSame s (((atStep s).count 4 0 0).takeSlot q0).1 := (hstep.count 4 0 0 1).takeSlot q0
  have hnew : FwSame s ((((atStep s).count 4 0 0).takeSlot q0).1.newCmd q x.sub cap).1 := htake.same rfl rfl rfl rfl
  exact hnew.handOver _

/-! ## A firmware command that is handed over -/

/-- The command `c` of a capsule stands in `v`, where R556 lets it run. -/
structure FwRow (s v : State) (cap : Capsule) (q : NvmQueue) (c : Cmd) : Prop where
  cap : c.cap = cap
  way : Way s v
  queue : v.nq? c.queue = some q
  same : FwSame s v
  fw : v.fw = s.fw
  gate : v.serviceGate c = none

theorem fwRow_of_taken (h : Taken s key cap k u q x c) (hmay : FwMayCommand s x.sub) : FwRow s (u.handOver c) cap q { c with engines := true } := by
  obtain ⟨hcap, hsub, -, -, hway, hpat, hfw, -, hqueue, -⟩ := finds_of_taken h
  have hsame := fwSame_of_taken h
  obtain ⟨hservice, htrial, hbusy⟩ := hmay
  refine ⟨hcap, hway, hqueue, hsame, hfw, ?_⟩
  have hservice' : (u.handOver c).subFlag c.sub 6 = true := by
    have hsub' : c.sub = x.sub := hsub
    rw [hsub']
    unfold State.subFlag State.cfg State.record at hservice ⊢
    rwa [hpat]
  have htrial' := (hsame.flag F.FWU_STATUS.TRIAL (by decide)).trans htrial
  have hbusy' : (u.handOver c).fwBusy = false := by
    unfold State.fwBusy at hbusy ⊢
    rwa [hfw]
  unfold State.serviceGate
  dsimp only
  rw [hservice', htrial', hbusy']
  rfl

theorem FwRow.target (h : FwRow s v cap q c) : v.fwTarget = s.fwTarget := h.same.fwTarget_of_fw h.fw

theorem FwRow.slot (h : FwRow s v cap q c) (b : Bool) : v.fwSlot b = s.fwSlot b := fwSlot_of_fw h.fw b

theorem FwRow.commitTarget (h : FwRow s v cap q c) : v.commitTarget c.cap = s.commitTarget cap := by
  unfold State.commitTarget
  rw [h.cap, h.target]

theorem FwRow.actCode (h : FwRow s v cap q c) (b : Bool) : v.fwActCode b = s.fwActCode b := h.same.fwActCode (by rw [h.slot]) (by rw [h.fw])

theorem FwRow.passes (h : FwRow s v cap q c) (b : Bool) (chk : FwChecks) : FwPasses v b chk ↔ FwPasses s b chk := h.same.fwPasses (by rw [h.slot]) chk

/-- Work on the firmware's part and events: the hosts can still be answered. -/
def FwWork (v w : State) : Prop := Way v w ∧ w.nvm = v.nvm

theorem FwWork.refl (v : State) : FwWork v v := ⟨.refl v, rfl⟩

theorem FwWork.trans (h : FwWork u v) (h' : FwWork v w) : FwWork u w := ⟨h.1.trans h'.1, h'.2.trans h.2⟩

theorem fwWork_of_fw (v : State) (f : FwSt) : FwWork v { v with fw := f } := ⟨way_of_flm ((Calm.refl v).of_same rfl rfl rfl) rfl ⟨[], rfl⟩ rfl, rfl⟩

theorem fwWork_raise (v : State) (e : Nat) : FwWork v (v.raise e) := ⟨way_raise v e, raise_nvm v e⟩

theorem fwWork_magicked (v : State) (b : Bool) : FwWork v (v.magicked b) := (fwWork_of_fw v _).trans (fwWork_raise _ _)

theorem fwWork_unverified (v : State) (b : Bool) (code : Nat) : FwWork v (v.unverified b code) := (fwWork_of_fw v _).trans (fwWork_raise _ _)

theorem fwWork_fwArm (v : State) (b : Bool) (window mode : Nat) : FwWork v (v.fwArm b window mode) := (fwWork_of_fw v _).trans (fwWork_raise _ _)

theorem fwWork_beginSwitch (v : State) (b : Bool) (phase : Nat) : FwWork v (v.beginSwitch b phase) := fwWork_of_fw v _

theorem fwWork_fwOpen (v : State) (len : Nat) : FwWork v (v.fwOpen len) := fwWork_of_fw v _

theorem fwWork_fwProgram (v : State) (data : List Byte) : FwWork v (v.fwProgram data) := fwWork_of_fw v _

theorem fwWork_delivered (v : State) (len : Nat) (data : List Byte) : FwWork v ((v.fwOpen len).fwProgram data) := (fwWork_fwOpen v len).trans (fwWork_fwProgram _ data)

/-- The command ends at the end of its row. -/
def State.rowEnd (w : State) (c : Cmd) (st : NvmeStatus) (n : Nat) : State := (w.endCmd c st).closeStep n

theorem FwRow.answered (h : FwRow s v cap q c) (hs : CanAnswer s q) (hw : FwWork v w) {st : NvmeStatus} (hst : st.sc < 256 ∧ st.sct < 8) (n : Nat) : Answered s (w.rowEnd c st n) q cap.cid st 0 := by
  have hqueue : w.nq? c.queue = some q := by
    rw [← h.queue]
    unfold State.nq?
    rw [hw.2]
  have hanswer := answered_endCmd (h.way.trans hw.1) hqueue hs hst 0 n
  rwa [h.cap] at hanswer

theorem rowEnd_shows (w : State) (c : Cmd) (st : NvmeStatus) (n : Nat) : (w.rowEnd c st n).fw = w.fw ∧ (w.rowEnd c st n).pwr = w.pwr ∧ ∀ e < 2048, Raised w e → Raised (w.rowEnd c st n) e := by
  have hkeep := keeps_State_endCmd c st 0 rfl (Keeps.refl false 25245603 w)
  exact ⟨hkeep.part .fw (by decide), hkeep.part .pwr (by decide), fun e he h => ((watched_refl w).endCmd c st 0).raised he h⟩

/-! ## Firmware Image Download -/

theorem taken_admin {op : Nat} (h : Taken s key cap (.admin op) u q x c) : q.qid = 0 ∧ cap.opcode = op := by
  obtain ⟨q0, -, -, -, -, hkind, -, -, rfl, -⟩ := h
  change q0.qid = 0 ∧ cap.opcode = op
  unfold kindOf at hkind
  split at hkind
  · split at hkind <;> simp at hkind
  · split at hkind
    · next hqid =>
      generalize (if x.discovery = true then discoveryOps else adminOps).contains cap.opcode = offered at hkind
      cases offered
      · simp at hkind
      · exact ⟨hqid, by simpa using hkind⟩
    · split at hkind <;> simp at hkind

theorem exec_firmwareImageDownload (h : Taken s key cap (.admin 0x11) u q x c) (hrow : FwRow s (u.handOver c) cap q { c with engines := true })
    (hfits : (u.handOver c).sglGate q c (4 * (cap.cdw10 + 1)) true = none) (hin : cap.inCapsule = true) :
    exec (.firmwareImageDownload key cap) s =
      .next (((u.handOver c).fwPiece { { c with engines := true } with data := [] } (sliceOf cap.data cap.sglAddr cap.sglLen)).closeStep s.dev.curStep) := by
  obtain ⟨hqid, hop⟩ := taken_admin h
  obtain ⟨hcap, -, hqueue, -, -, hgate⟩ := hrow
  have hcap' : c.cap = cap := hcap
  have hfits' : (u.handOver c).sglGate q { c with engines := true } (4 * (c.cap.cdw10 + 1)) true = none := by
    rw [← hcap'] at hfits
    exact sglGate_of_none hfits rfl
  refine congrArg Host.Outcome.next ((inStep_onCapsule_of_taken h State.fwDownload).trans (congrArg (State.closeStep · s.dev.curStep) ?_))
  generalize u.handOver c = v at hqueue hgate hfits' ⊢
  unfold State.fwDownload
  rw [hgate]
  dsimp only
  rw [hfits']
  unfold State.fetchData State.dataHere
  dsimp only
  rw [hcap', if_pos hin, if_pos ⟨hop, by rw [hqueue]; simp [hqid]⟩]

theorem fwPiece_first {data : List Byte} (hnone : v.fw.delivery = none) (hoff : c.cap.cdw11 = 0) (hlen : 12 ≤ data.length) (hmin : 464 ≤ leAt data 8 4) (hmax : leAt data 8 4 ≤ 0x3FF0000)
    (hfits : data.length ≤ leAt data 8 4) : v.fwPiece c data = ((v.fwOpen (leAt data 8 4)).fwProgram data).endCmd c stOk := by
  unfold State.fwPiece fwMaxLen
  simp only [hnone]
  rw [if_neg (by omega), if_neg (by omega)]

theorem fwPiece_gap {data : List Byte} (hnone : v.fw.delivery = none) (hoff : c.cap.cdw11 ≠ 0) : v.fwPiece c data = v.endCmd c stOverlap := by
  unfold State.fwPiece
  simp only [hnone]
  rw [if_pos (by omega)]

theorem firmwareImageDownload_shows (h : Taken s key cap (.admin 0x11) u q x c) (hs : CanAnswer s q) (hmay : FwMayCommand s x.sub) (hfits : (u.handOver c).sglGate q c (4 * (cap.cdw10 + 1)) true = none)
    (hin : cap.inCapsule = true) (hnone : s.fw.delivery = none) :
    let d := sliceOf cap.data cap.sglAddr cap.sglLen
    (cap.cdw11 = 0 → 12 ≤ d.length → 464 ≤ leAt d 8 4 → leAt d 8 4 ≤ 0x3FF0000 → d.length ≤ leAt d 8 4 → ∃ t, exec (.firmwareImageDownload key cap) s = .next t ∧
      Answered s t q cap.cid stOk 0 ∧ t.fw.delivery = some (leAt d 8 4, d.length) ∧ (t.fwSlot s.fwTarget).image = d) ∧
    (cap.cdw11 ≠ 0 → ∃ t, exec (.firmwareImageDownload key cap) s = .next t ∧ Answered s t q cap.cid stOverlap 0 ∧ t.fw = s.fw) := by
  intro d
  have hrow := fwRow_of_taken h hmay
  have hexec := exec_firmwareImageDownload h hrow hfits hin
  have hrow' : FwRow s (u.handOver c) cap q { { c with engines := true } with data := [] } := ⟨hrow.cap, hrow.way, hrow.queue, hrow.same, hrow.fw, hrow.gate⟩
  generalize u.handOver c = v at hexec hrow'
  generalize ({ { c with engines := true } with data := [] } : Cmd) = c' at hexec hrow'
  have hnone' : v.fw.delivery = none := by rw [hrow'.fw, hnone]
  refine ⟨fun hoff hlen hmin hmax hshort => ?_, fun hoff => ?_⟩
  · rw [fwPiece_first hnone' (by rw [hrow'.cap]; exact hoff) hlen hmin hmax hshort] at hexec
    obtain ⟨hdelivery, hslots⟩ := fwOpen_program v (leAt d 8 4) d
    obtain ⟨hfw, -, -⟩ := rowEnd_shows ((v.fwOpen (leAt d 8 4)).fwProgram d) c' stOk s.dev.curStep
    refine ⟨_, hexec, hrow'.answered hs (fwWork_delivered v _ d) (by decide) _, (congrArg FwSt.delivery hfw).trans hdelivery, ?_⟩
    have hslot := (fwSlot_of_fw hfw s.fwTarget).trans ((hslots s.fwTarget).trans (if_pos hrow'.target))
    exact congrArg FwSlot.image hslot
  · rw [fwPiece_gap hnone' (by rw [hrow'.cap]; exact hoff)] at hexec
    exact ⟨_, hexec, hrow'.answered hs (.refl v) (by decide) _, (rowEnd_shows v c' stOverlap s.dev.curStep).1.trans hrow'.fw⟩

end
end Sys2Proof.Machine
end

section
/-!
PROOFS. O60 (19_firmware_update.md, R556): Firmware Commit.
-/
namespace Sys2Proof.Machine

section
variable {s t u v w : State} {key : Nat} {cap : Capsule} {q : NvmQueue} {x : NvmCtrl} {c : Cmd} {b : Bool} {chk : FwChecks}

/-! ## The parts of a commit -/

theorem inStep_onCommit_of_taken (h : Taken s key cap (.admin 0x10) u q x c) {mine : Nat → Bool} (hmine : mine cap.commitAction = true) (f : State → NvmQueue → Cmd → State) :
    s.inStep (fun s => s.onCommit key cap mine f) = (f (u.handOver c) q { c with engines := true }).closeStep s.dev.curStep := by
  rw [← inStep_onCapsule_of_taken h f]
  unfold State.onCommit
  rw [hmine]
  rfl

theorem FwRow.fwCommit_slot (h : FwRow s v cap q c) (htarget : s.commitTarget cap ≠ some s.fwTarget) (f : State → State × NvmeStatus) : v.fwCommit c chk f = v.endCmd c stFwSlot := by
  unfold State.fwCommit
  rw [h.gate, h.commitTarget, h.target]
  exact if_pos htarget

theorem FwRow.fwCommit_passes (h : FwRow s v cap q c) (htarget : s.commitTarget cap = some s.fwTarget) (hpass : FwPasses s s.fwTarget chk) (f : State → State × NvmeStatus) :
    v.fwCommit c chk f = (f (v.magicked s.fwTarget)).1.endCmd c (f (v.magicked s.fwTarget)).2 := by
  have hpass' : FwPasses v v.fwTarget chk := by
    rw [h.target]
    exact (h.passes _ _).mpr hpass
  unfold State.fwCommit
  rw [h.gate, h.commitTarget]
  dsimp only
  rw [h.target, if_neg (not_not.mpr htarget), fwVerify_passes hpass']
  dsimp only
  rw [if_neg (by decide), h.target]

theorem FwRow.fwCommit_fails (h : FwRow s v cap q c) (htarget : s.commitTarget cap = some s.fwTarget) (hfail : ¬ FwPasses s s.fwTarget chk) (f : State → State × NvmeStatus) :
    ∃ code, v.fwCommit c chk f = (v.unverified s.fwTarget code).endCmd c stFwImage := by
  have hfail' : ¬ FwPasses v v.fwTarget chk := by
    rw [h.target]
    exact fun hp => hfail ((h.passes _ _).mp hp)
  refine ⟨fwImageCode (v.get F.GLB_REV.REVISION) v.dev.fuseSecurity (v.fwSlot v.fwTarget).image chk, ?_⟩
  unfold State.fwCommit
  rw [h.gate, h.commitTarget]
  dsimp only
  rw [h.target, if_neg (not_not.mpr htarget), fwVerify_fails hfail']
  dsimp only
  rw [h.target] at hfail'
  rw [h.target]
  exact if_pos hfail'

/-- A slot whose ACT_SEQ is erased is no candidate, with its MAGIC or without. -/
theorem magicked_same (hseq : (v.fwSlot b).actSeq = none) : ∀ c, ((v.magicked b).fwSlot c).candidate = (v.fwSlot c).candidate ∧ ((v.magicked b).fwSlot c).actSeq = (v.fwSlot c).actSeq := by
  obtain ⟨-, hslots, -⟩ := magicked_shows v b
  intro c
  rw [hslots]
  split
  · subst c
    simp [FwSlot.candidate, hseq]
  · exact ⟨rfl, rfl⟩

theorem magicked_target (hseq : (v.fwSlot v.fwTarget).actSeq = none) : (v.magicked v.fwTarget).fwTarget = v.fwTarget :=
  (magicked_shows v v.fwTarget).1.fwTarget (fun c => (magicked_same hseq c).1) (fun c => (magicked_same hseq c).2)

/-- The target slot holds a verified image that can be activated. -/
theorem FwRow.fwCommitActivate (h : FwRow s v cap q c) (hcode : s.fwActCode s.fwTarget = 0) (hseq : (s.fwSlot s.fwTarget).actSeq = none) (hrejected : (s.fwSlot s.fwTarget).rejected = false)
    (act : State → State) : State.fwCommitActivate act (v.magicked s.fwTarget) = (act (v.magicked s.fwTarget), stOk) ∧ (v.magicked s.fwTarget).fwTarget = s.fwTarget ∧
      (v.magicked s.fwTarget).nextActSeq = s.nextActSeq := by
  have hseq' : (v.fwSlot v.fwTarget).actSeq = none := by rw [h.target, h.slot, hseq]
  obtain ⟨hsame, hslots, -, hformats, -⟩ := magicked_shows v s.fwTarget
  have ht : (v.magicked s.fwTarget).fwTarget = s.fwTarget := by
    rw [← h.target]
    exact magicked_target hseq'
  have hcode' : (v.magicked s.fwTarget).fwActCode s.fwTarget = 0 := by
    rw [hsame.fwActCode (by rw [hslots, if_pos rfl]) hformats, h.actCode, hcode]
  have hfresh : ((v.magicked s.fwTarget).fwSlot s.fwTarget).fresh = true := by
    rw [hslots, if_pos rfl, h.slot]
    simp [FwSlot.fresh, hseq, hrejected]
  refine ⟨?_, ht, nextActSeq_of (fun c => ?_)⟩
  · unfold State.fwCommitActivate
    rw [ht, fwActCheck_passes hcode']
    dsimp only
    rw [if_neg (by decide), ht, hfresh, if_neg (by decide)]
  · rw [h.target] at hseq'
    rw [(magicked_same hseq' c).2, h.slot]

/-- The slot that is armed once its image has been verified. -/
theorem FwRow.armed (h : FwRow s v cap q c) (hnext : (v.magicked s.fwTarget).nextActSeq = s.nextActSeq) (window mode : Nat) :
    (((v.magicked s.fwTarget).fwArm s.fwTarget window mode).fwSlot s.fwTarget).actSeq = some s.nextActSeq ∧
    (((v.magicked s.fwTarget).fwArm s.fwTarget window mode).fwSlot s.fwTarget).window = window ∧
    (((v.magicked s.fwTarget).fwArm s.fwTarget window mode).fwSlot s.fwTarget).mode = mode ∧ ((v.magicked s.fwTarget).fwArm s.fwTarget window mode).pwr.warm = s.pwr.warm ∧
    FwWork v ((v.magicked s.fwTarget).fwArm s.fwTarget window mode) := by
  obtain ⟨hsame, hslot, -⟩ := fwArm_shows (v.magicked s.fwTarget) s.fwTarget window mode
  rw [hslot]
  exact ⟨congrArg some hnext, rfl, rfl, hsame.warm.trans ((magicked_shows v s.fwTarget).1.warm.trans h.same.warm), (fwWork_magicked v s.fwTarget).trans (fwWork_fwArm _ _ _ _)⟩

/-! ## The rows -/

/-- FW_COMMIT_VERIFY, of action 0 or of one that R556 does not list. -/
theorem exec_fwCommitVerify (h : Taken s key cap (.admin 0x10) u q x c) (haction : cap.commitAction = 0 ∨ 4 ≤ cap.commitAction) :
    exec (.fwCommitVerify key cap chk) s = .next ((if cap.commitAction ≠ 0 then (u.handOver c).endCmd { c with engines := true } stField
      else (u.handOver c).fwCommit { c with engines := true } chk (fun s => (s, stOk))).closeStep s.dev.curStep) :=
  congrArg Host.Outcome.next (inStep_onCommit_of_taken h (mine := fun a => a == 0 || decide (4 ≤ a)) (by simpa using haction)
    (fun s _ c => if cap.commitAction ≠ 0 then s.endCmd c stField else s.fwCommit c chk (fun s => (s, stOk))))

theorem fwCommitVerify_verifies (h : Taken s key cap (.admin 0x10) u q x c) (hs : CanAnswer s q) (hmay : FwMayCommand s x.sub) (haction : cap.commitAction = 0)
    (htarget : s.commitTarget cap = some s.fwTarget) :
    (FwPasses s s.fwTarget chk → ∃ t, exec (.fwCommitVerify key cap chk) s = .next t ∧ Answered s t q cap.cid stOk 0 ∧ (t.fwSlot s.fwTarget).magic = true ∧
      (t.fwSlot s.fwTarget).actSeq = (s.fwSlot s.fwTarget).actSeq) ∧
    (¬ FwPasses s s.fwTarget chk → ∃ t, exec (.fwCommitVerify key cap chk) s = .next t ∧ Answered s t q cap.cid stFwImage 0 ∧ Raised t 0x4E1) := by
  have hrow := fwRow_of_taken h hmay
  have hexec := exec_fwCommitVerify (chk := chk) h (Or.inl haction)
  rw [if_neg (not_not.mpr haction)] at hexec
  generalize u.handOver c = v at hexec hrow
  generalize ({ c with engines := true } : Cmd) = c' at hexec hrow
  refine ⟨fun hpass => ?_, fun hfail => ?_⟩
  · rw [hrow.fwCommit_passes htarget hpass] at hexec
    obtain ⟨-, hslots, -⟩ := magicked_shows v s.fwTarget
    obtain ⟨hfw, -, -⟩ := rowEnd_shows (v.magicked s.fwTarget) c' stOk s.dev.curStep
    refine ⟨_, hexec, hrow.answered (st := stOk) hs (fwWork_magicked v _) (by decide) _, ?_, ?_⟩
    · exact congrArg FwSlot.magic ((fwSlot_of_fw hfw _).trans ((hslots _).trans (if_pos rfl)))
    · exact (congrArg FwSlot.actSeq ((fwSlot_of_fw hfw _).trans ((hslots _).trans (if_pos rfl)))).trans (congrArg FwSlot.actSeq (hrow.slot s.fwTarget) : (v.fwSlot s.fwTarget).actSeq = (s.fwSlot s.fwTarget).actSeq)
  · obtain ⟨code, hcommit⟩ := hrow.fwCommit_fails htarget hfail (fun s => (s, stOk))
    rw [hcommit] at hexec
    obtain ⟨-, -, hraised⟩ := unverified_shows v s.fwTarget code
    exact ⟨_, hexec, hrow.answered hs (fwWork_unverified v _ _) (by decide) _, (rowEnd_shows (v.unverified s.fwTarget code) c' stFwImage s.dev.curStep).2.2 _ (by decide) hraised⟩

theorem fwCommitVerify_slot (h : Taken s key cap (.admin 0x10) u q x c) (hs : CanAnswer s q) (hmay : FwMayCommand s x.sub) (haction : cap.commitAction = 0)
    (htarget : s.commitTarget cap ≠ some s.fwTarget) : ∃ t, exec (.fwCommitVerify key cap chk) s = .next t ∧ Answered s t q cap.cid stFwSlot 0 ∧ t.fw = s.fw := by
  have hrow := fwRow_of_taken h hmay
  have hexec := exec_fwCommitVerify (chk := chk) h (Or.inl haction)
  rw [if_neg (not_not.mpr haction), hrow.fwCommit_slot htarget] at hexec
  exact ⟨_, hexec, hrow.answered hs (.refl _) (by decide) _, (rowEnd_shows _ _ stFwSlot s.dev.curStep).1.trans hrow.fw⟩

theorem fwCommitVerify_field (h : Taken s key cap (.admin 0x10) u q x c) (hs : CanAnswer s q) (hmay : FwMayCommand s x.sub) (haction : 4 ≤ cap.commitAction) :
    ∃ t, exec (.fwCommitVerify key cap chk) s = .next t ∧ Answered s t q cap.cid stField 0 ∧ t.fw = s.fw := by
  have hrow := fwRow_of_taken h hmay
  have hexec := exec_fwCommitVerify (chk := chk) h (Or.inr haction)
  rw [if_pos (by omega)] at hexec
  exact ⟨_, hexec, hrow.answered hs (.refl _) (by decide) _, (rowEnd_shows _ _ stField s.dev.curStep).1.trans hrow.fw⟩

theorem fwCommitNextReset_arms (h : Taken s key cap (.admin 0x10) u q x c) (hs : CanAnswer s q) (hmay : FwMayCommand s x.sub) (haction : cap.commitAction = 1)
    (htarget : s.commitTarget cap = some s.fwTarget) (hpass : FwPasses s s.fwTarget chk) (hcode : s.fwActCode s.fwTarget = 0) (hseq : (s.fwSlot s.fwTarget).actSeq = none)
    (hrejected : (s.fwSlot s.fwTarget).rejected = false) :
    ∃ t, exec (.fwCommitNextReset key cap chk) s = .next t ∧ Answered s t q cap.cid stOk 0 ∧ (t.fwSlot s.fwTarget).actSeq = some s.nextActSeq ∧ (t.fwSlot s.fwTarget).mode = 0 ∧
      (t.fwSlot s.fwTarget).window = 15 ∧ t.pwr.warm = s.pwr.warm := by
  have hrow := fwRow_of_taken h hmay
  have hexec : exec (.fwCommitNextReset key cap chk) s = _ := congrArg Host.Outcome.next (inStep_onCommit_of_taken h (mine := fun a => a == 1) (by simpa using haction)
    (fun s _ c => s.fwCommit c chk (State.fwCommitActivate (fun s => s.fwArm s.fwTarget 15 0))))
  rw [hrow.fwCommit_passes htarget hpass] at hexec
  generalize u.handOver c = v at hexec hrow
  generalize ({ c with engines := true } : Cmd) = c' at hexec hrow
  obtain ⟨hact, ht, hnext⟩ := hrow.fwCommitActivate hcode hseq hrejected (fun s => s.fwArm s.fwTarget 15 0)
  rw [hact, ht] at hexec
  obtain ⟨hslot, hwindow, hmode, hwarm, hwork⟩ := hrow.armed hnext 15 0
  obtain ⟨hfw, hpwr, -⟩ := rowEnd_shows ((v.magicked s.fwTarget).fwArm s.fwTarget 15 0) c' stOk s.dev.curStep
  have hkept := fwSlot_of_fw hfw s.fwTarget
  exact ⟨_, hexec, hrow.answered (st := stOk) hs hwork (by decide) _, (congrArg FwSlot.actSeq hkept).trans hslot, (congrArg FwSlot.mode hkept).trans hmode, (congrArg FwSlot.window hkept).trans hwindow,
    (congrArg Pwr.warm hpwr).trans hwarm⟩

theorem fwCommitNow_switches (h : Taken s key cap (.admin 0x10) u q x c) (hs : CanAnswer s q) (hmay : FwMayCommand s x.sub) (ph : Bool) (haction : cap.commitAction = 3)
    (htarget : s.commitTarget cap = some s.fwTarget) (halone : SoloAlone s) (hpass : FwPasses s s.fwTarget chk) (hcode : s.fwActCode s.fwTarget = 0) (hseq : (s.fwSlot s.fwTarget).actSeq = none)
    (hrejected : (s.fwSlot s.fwTarget).rejected = false) :
    ∃ t, exec (.fwCommitNow key cap chk ph) s = .next t ∧ Answered s t q cap.cid stOk 0 ∧ (t.fwSlot s.fwTarget).actSeq = some s.nextActSeq ∧ t.fw.switching = [3, 2, 1, 0] ∧ t.fw.phase = 1 := by
  have hrow := fwRow_of_taken h hmay
  have hexec : exec (.fwCommitNow key cap chk ph) s = _ := congrArg Host.Outcome.next (inStep_onCommit_of_taken h (mine := fun a => a == 3) (by simpa using haction)
    (fun s _ c => s.fwCommit c chk (fun s => if s.inPair ∧ s.partnerInStep then (if ph then State.fwCommitActivate (fun s => s.fwActivate 2 15 s.numbers) s else (s, stFwProhibited))
      else State.fwCommitActivate (fun s => s.fwActivate 1 15 true) s)))
  rw [hrow.fwCommit_passes htarget hpass] at hexec
  generalize u.handOver c = v at hexec hrow
  generalize ({ c with engines := true } : Cmd) = c' at hexec hrow
  have hpair : ¬ ((v.magicked s.fwTarget).inPair = true ∧ (v.magicked s.fwTarget).partnerInStep = true) := by
    rw [(hrow.same.trans (magicked_shows v s.fwTarget).1).inPair, soloAlone_not_inPair halone]
    simp
  obtain ⟨hact, ht, hnext⟩ := hrow.fwCommitActivate hcode hseq hrejected (fun s => s.fwActivate 1 15 true)
  rw [if_neg hpair, hact, fwActivate_live, ht] at hexec
  obtain ⟨hslot, -, -, -, hwork⟩ := hrow.armed hnext 15 1
  obtain ⟨hslots, hswitching, -, hphase, -⟩ := beginSwitch_shows ((v.magicked s.fwTarget).fwArm s.fwTarget 15 1) s.fwTarget 1
  have hwork' := hwork.trans (fwWork_beginSwitch _ s.fwTarget 1)
  generalize ((v.magicked s.fwTarget).fwArm s.fwTarget 15 1).beginSwitch s.fwTarget 1 = w at hexec hslots hswitching hphase hwork'
  obtain ⟨hfw, -, -⟩ := rowEnd_shows w c' stOk s.dev.curStep
  exact ⟨_, hexec, hrow.answered (st := stOk) hs hwork' (by decide) _, (congrArg FwSlot.actSeq ((fwSlot_of_fw hfw _).trans (hslots _))).trans hslot, (congrArg FwSt.switching hfw).trans hswitching,
    (congrArg FwSt.phase hfw).trans hphase⟩

/-! ## Action 2 -/

theorem FwRow.fwCommitHeld_arms (h : FwRow s v cap q c) (htarget : s.commitTarget cap = some b) (hmagic : (s.fwSlot b).magic = true) (hseq : (s.fwSlot b).actSeq = none) (hcode : s.fwActCode b = 0) :
    v.fwCommitHeld q c = (v.fwArm b 15 0).endCmd c stOk := by
  have hcode' : v.fwActCode b = 0 := (h.actCode b).trans hcode
  unfold State.fwCommitHeld
  rw [h.gate, h.commitTarget, htarget]
  dsimp only
  rw [h.slot, hmagic, hseq, if_neg (by decide), if_neg (by decide), fwActCheck_passes hcode']
  dsimp only
  rw [if_neg (by decide)]

theorem FwRow.fwCommitHeld_image (h : FwRow s v cap q c) (htarget : s.commitTarget cap = some b) (hmagic : (s.fwSlot b).magic = false) : v.fwCommitHeld q c = v.endCmd c stFwImage := by
  unfold State.fwCommitHeld
  rw [h.gate, h.commitTarget, htarget]
  dsimp only
  rw [h.slot, hmagic]
  exact if_pos rfl

theorem exec_fwCommitSlot (h : Taken s key cap (.admin 0x10) u q x c) (haction : cap.commitAction = 2) :
    exec (.fwCommitSlot key cap) s = .next (((u.handOver c).fwCommitHeld q { c with engines := true }).closeStep s.dev.curStep) :=
  congrArg Host.Outcome.next (inStep_onCommit_of_taken h (mine := fun a => a == 2) (by simpa using haction) State.fwCommitHeld)

theorem fwCommitSlot_arms (h : Taken s key cap (.admin 0x10) u q x c) (hs : CanAnswer s q) (hmay : FwMayCommand s x.sub) (haction : cap.commitAction = 2) (htarget : s.commitTarget cap = some b)
    (hmagic : (s.fwSlot b).magic = true) (hseq : (s.fwSlot b).actSeq = none) (hcode : s.fwActCode b = 0) :
    ∃ t, exec (.fwCommitSlot key cap) s = .next t ∧ Answered s t q cap.cid stOk 0 ∧ (t.fwSlot b).actSeq = some s.nextActSeq ∧ (t.fwSlot b).mode = 0 := by
  have hrow := fwRow_of_taken h hmay
  have hexec := exec_fwCommitSlot h haction
  rw [hrow.fwCommitHeld_arms htarget hmagic hseq hcode] at hexec
  generalize u.handOver c = v at hexec hrow
  generalize ({ c with engines := true } : Cmd) = c' at hexec hrow
  have hnext : v.nextActSeq = s.nextActSeq := nextActSeq_of (fun c => by rw [hrow.slot])
  obtain ⟨-, hslot, -⟩ := fwArm_shows v b 15 0
  obtain ⟨hfw, -, -⟩ := rowEnd_shows (v.fwArm b 15 0) c' stOk s.dev.curStep
  have hkept := (fwSlot_of_fw hfw b).trans hslot
  exact ⟨_, hexec, hrow.answered hs (fwWork_fwArm v _ _ _) (by decide) _, (congrArg FwSlot.actSeq hkept).trans (congrArg some hnext), congrArg FwSlot.mode hkept⟩

theorem fwCommitSlot_image (h : Taken s key cap (.admin 0x10) u q x c) (hs : CanAnswer s q) (hmay : FwMayCommand s x.sub) (haction : cap.commitAction = 2) (htarget : s.commitTarget cap = some b)
    (hmagic : (s.fwSlot b).magic = false) : ∃ t, exec (.fwCommitSlot key cap) s = .next t ∧ Answered s t q cap.cid stFwImage 0 ∧ t.fw = s.fw := by
  have hrow := fwRow_of_taken h hmay
  have hexec := exec_fwCommitSlot h haction
  rw [hrow.fwCommitHeld_image htarget hmagic] at hexec
  exact ⟨_, hexec, hrow.answered hs (.refl _) (by decide) _, (rowEnd_shows _ _ stFwImage s.dev.curStep).1.trans hrow.fw⟩

end

/-- Settles O60: a task is carried out in a state that reads the same, and a command in one that the capsule's handover leaves to the firmware operations as it was. -/
theorem firmwareDeliveryAndActivation : Obligations.FirmwareDeliveryAndActivation := by
  refine ⟨?block, ?verify, ?activate, ?confirm, ?reject, ?download, ?commit⟩
  case block =>
    intro go b s h hlen htrial hmin hmax
    refine ⟨fun hoff hnone hbusy hdata => fwBlock_opens h hlen htrial hmin hmax hoff hnone hbusy hdata, fun m n hopen => ⟨fun hoff => ?_,
      fun hoff hn hm hdata => fwBlock_completes h hlen htrial hmin hmax hopen hoff hn hm hdata, fun hoff hgap => ?_⟩⟩
    · exact ⟨_, rfl, goTask_local_refused h (data := .bytes b) (aux := taskAux0) (dataHere_bytes b hlen) rfl rfl (ecode := tsResource) (by decide) (by decide) (fun u hu =>
        taskFwBlock_resource (r := goRun 0x0040 go (.bytes b) taskAux0) ((hu.fwSame.1.flag _ (by decide)).trans htrial) ⟨hmin, hmax⟩ (by rw [hu.fwSame.2, hopen]) hoff)⟩
    · exact ⟨_, rfl, goTask_local_refused h (data := .bytes b) (aux := taskAux0) (dataHere_bytes b hlen) rfl rfl (ecode := tsBadArg) (by decide) (by decide) (fun u hu =>
        taskFwBlock_gap (r := goRun 0x0040 go (.bytes b) taskAux0) ((hu.fwSame.1.flag _ (by decide)).trans htrial) ⟨hmin, hmax⟩ (by rw [hu.fwSame.2, hopen]) hoff hgap)⟩
  case verify =>
    intro r chk s hone hown hcode hphase
    exact ⟨fwImageVerify_passes hone hown hcode hphase, fwImageVerify_fails hone hown hcode hphase⟩
  case activate =>
    intro go ph s h b
    have hnodata : DataHere 0x0042 go (.bytes []) := fun hc => absurd hc (by decide)
    refine ⟨fun hbad => ?_, fun hwindow hmode hmagic => ?_, fun hwindow htrial hrec hbusy hfresh hcode =>
      ⟨fun hmode hruns hwarm => fwActivate_warm h hwindow htrial hrec hbusy hfresh hcode hmode hruns hwarm, fun hmode => fwActivate_switches h hwindow htrial hbusy hfresh hcode hmode⟩⟩
    · exact ⟨_, rfl, goTask_local_refused h hnodata rfl rfl (ecode := tsBadArg) (by decide) (by decide) (fun _ _ =>
        taskFwActivate_bad (r := goRun 0x0042 go (.bytes []) { taskAux0 with partnerHolds := ph }) hbad)⟩
    · exact ⟨_, rfl, goTask_local_refused h hnodata rfl rfl (ecode := tsRefused) (by decide) (by decide) (fun u hu =>
        taskFwActivate_refused (r := goRun 0x0042 go (.bytes []) { taskAux0 with partnerHolds := ph }) hwindow hmode
          (by rw [hu.fwSame.1.fwTarget_of_fw hu.fwSame.2, fwSlot_of_fw hu.fwSame.2]; exact hmagic))⟩
  case confirm =>
    intro go s h
    refine ⟨fwConfirm_confirms_task h, fun hbad => ⟨_, rfl, goTask_local_refused h (data := .bytes []) (aux := taskAux0) (fun hc => absurd hc (by decide)) rfl rfl (ecode := tsRefused) (by decide)
      (by decide) (fun u hu => taskFwConfirm_refused (r := goRun 0x0043 go (.bytes []) taskAux0) ?_)⟩⟩
    exact hbad.imp (fun h => (hu.fwSame.1.flag _ (by decide)).trans h) (fun h => hu.fwHealthy.trans h)
  case reject =>
    intro go s h
    exact ⟨fwReject_switches_task h, fun htrial => ⟨_, rfl, goTask_local_refused h (data := .bytes []) (aux := taskAux0) (fun hc => absurd hc (by decide)) rfl rfl (ecode := tsRefused) (by decide)
      (by decide) (fun u hu => taskFwReject_refused (r := goRun 0x0044 go (.bytes []) taskAux0) ((hu.fwSame.1.flag _ (by decide)).trans htrial))⟩⟩
  case download =>
    intro key cap s u q x c h hs hmay hfits hin hnone
    exact firmwareImageDownload_shows h hs hmay hfits hin hnone
  case commit =>
    intro key cap chk s u q x c h hs hmay b
    exact ⟨fwCommitVerify_verifies h hs hmay, fwCommitVerify_slot h hs hmay, fwCommitVerify_field h hs hmay, fwCommitNextReset_arms h hs hmay,
      fun n haction htarget => ⟨fwCommitSlot_arms h hs hmay haction htarget, fwCommitSlot_image h hs hmay haction htarget⟩, fwCommitNow_switches h hs hmay⟩

end Sys2Proof.Machine
end
